-- ==== Sys2Proof/Word.lean ====
section
/-! DEFINITION. The word types of the register and record interfaces and their plainest bit arithmetic. Registers are 32 bits
wide and little-endian (R4). -/

namespace Sys2Proof

/-- A 32-bit register word (R4). -/
abbrev Word := BitVec 32

/-- A byte of a record, a frame or a store. -/
abbrev Byte := BitVec 8

end Sys2Proof
end

