-- ==== Sys2Proof/Syntax.lean ====
section
/-! DEFINITION. The commands of the block: one constructor for each row of spec/opcode_table.json, with the operands that its
rules name. A unit is a number below the count of R17; what only the world outside decides at that moment (the value written, a
ball voltage, a sensor reading, bytes received) is an operand. -/

namespace Sys2Proof

/-- Who sends a register request: a PCIe function, numbered 32 port + 16 half + function (R454, R457), or the service port (R485). -/
inductive Req where
  | fn (f : Fin 64)
  | spi
  deriving DecidableEq, Repr

/-- What a calibration step found (R508, R511, R519): the target trims of the unit in the order of R510 and whether the residual error
after trimming exceeds its limit; a failed spine check; or a ball that left its window in a gap. -/
inductive CalOutcome where
  | measured (targets : List Int) (residual : Bool)
  | spineFail
  | ballMoved
  deriving DecidableEq, Repr

/-- One command of the block. [log DEDUCED 8] -/
inductive Instr where
  /-- AON_RESET (R101). -/
  | aonReset
  /-- PORST_N_ASSERT (R101). -/
  | porstAssert
  /-- PORST_N_RELEASE (R77). -/
  | porstRelease (straps : Nat)
  /-- FLASH_IDENTIFY (R496). -/
  | flashIdentify (present : Bool) (id : Nat)
  /-- SUPPLY_ORDER_DEPARTURE (R96). -/
  | supplyOrderDeparture
  /-- RAIL_FAIL (R97). -/
  | railFail (rail : Fin 8)
  /-- SOFT_RESET (R102). -/
  | softReset (rq : Req) (w : Word)
  /-- SOFT_RESET_COMPLETE (R102). -/
  | softResetComplete
  /-- FUNCTION_LEVEL_RESET (R483). -/
  | functionLevelReset (f : Fin 64)
  /-- HOT_RESET (R103). -/
  | hotReset (link : Fin 4) (linkDown : Bool)
  /-- D3HOT_ENTRY (R455). -/
  | d3hotEntry (f : Fin 64)
  /-- REF_LOST (R23). -/
  | refLost
  /-- REF_PRESENT (R24). -/
  | refPresent
  /-- RELOCK_START (R24). -/
  | relockStart
  /-- RELOCK_DONE (R24). -/
  | relockDone
  /-- PLL_LOCK (R98). -/
  | pllLock
  /-- MOULD_START (R78). -/
  | mouldStart (rq : Req)
  /-- MOULD_ABORT (R81). -/
  | mouldAbort (rq : Req)
  /-- IMAGE_READ_DONE (R79). -/
  | imageReadDone (ok : Bool) (bytes : List Byte)
  /-- FUSE_PROGRAM (R76). -/
  | fuseProgram (rq : Req) (slot : Fin 4)
  /-- FUSE_REVOKE (R76). -/
  | fuseRevoke (rq : Req) (slot : Fin 4)
  /-- FUSE_CMD_DONE (R76). -/
  | fuseCmdDone
  /-- MODE_REQ_SERVICE (R84). -/
  | modeReqService (rq : Req) (w : Word)
  /-- MODE_REQ_IDLE (R84). -/
  | modeReqIdle (rq : Req) (w : Word)
  /-- MODE_REQ_RUN (R84). -/
  | modeReqRun (rq : Req) (w : Word)
  /-- TRANSITION_DONE (R85). -/
  | transitionDone (hard : List Nat)
  /-- STARTUP_STEP_DONE (R106): the units and the store words that fail, and those of the words that fail their retest too (R109). -/
  | startupStepDone (failed : List Nat) (storeFails : List Nat) (hard : List Nat := [])
  /-- DEV_START_GO (R88). -/
  | devStartGo (rq : Req) (w : Word) (edge : Fin 2)
  /-- ARMED_START (R88). -/
  | armedStart (who : Fin 17) (edge : Fin 2)
  /-- DEV_START_CANCEL (R88). -/
  | devStartCancel (rq : Req) (w : Word)
  /-- SAG_START_GO (R469). -/
  | sagStartGo (rq : Req) (w : Word) (edge : Fin 2)
  /-- SAG_START_CANCEL (R469). -/
  | sagStartCancel (rq : Req) (w : Word)
  /-- REGISTER_WRITE (R599). -/
  | registerWrite (rq : Req) (off : Nat) (w : Word) (be : Fin 16)
  /-- BAD_SIZE_REQUEST (R460). -/
  | badSizeRequest (f : Fin 64) (write : Bool) (off : Nat)
  /-- UNSUPPORTED_REQUEST (R482). -/
  | unsupportedRequest (f : Fin 64)
  /-- POISONED_TLP_RECEIVED (R482). -/
  | poisonedTlpReceived (f : Fin 64) (bar2 : Bool) (off : Nat)
  /-- RC_READ (R464). -/
  | rcRead (rq : Req) (off : Nat)
  /-- RSN_LOW_READ (R466). -/
  | rsnLowRead (rq : Req) (off : Nat)
  /-- DRV_TRIP_CLEAR (R119). -/
  | drvTripClear (rq : Req) (l : Fin 1024) (w : Word)
  /-- DRIVER_TRIP (R119). -/
  | driverTrip (l : Fin 1024)
  /-- COMPARATOR_CHANGE (R121). -/
  | comparatorChange (l : Fin 1024) (ball : Int)
  /-- CLAMP_HIT (R136). -/
  | clampHit (l : Fin 1024)
  /-- LANE_SWAP_REQ (R144). -/
  | laneSwapReq (rq : Req) (l : Fin 1024) (w : Word)
  /-- HANDOVER_START (R142). -/
  | handoverStart (l : Fin 1024)
  /-- HANDOVER_DONE (R140). -/
  | handoverDone (l : Fin 1024)
  /-- PPMU_CONNECT_WRITE (R320). -/
  | ppmuConnectWrite (rq : Req) (l : Fin 1024) (w : Word)
  /-- PPMU_COMPLIANCE (R311). -/
  | ppmuCompliance (l : Fin 1024) (on : Bool)
  /-- DAC_TICK (R151). -/
  | dacTick
  /-- DISCHARGE_CLAMP_END (R162). -/
  | dischargeClampEnd (dac : Nat)
  /-- UPDATE_ALL_GO (R152). -/
  | updateAllGo (rq : Req) (o : Fin 128) (w : Word)
  /-- TS_COMMIT (R171). -/
  | tsCommit (rq : Req) (t : Fin 16) (w : Word)
  /-- TS_COMMIT_DONE (R171). -/
  | tsCommitDone (t : Fin 16)
  /-- TS_FETCH (R172). -/
  | tsFetch (rq : Req) (t : Fin 16) (w : Word)
  /-- NCO_FTW_COMMIT (R193). -/
  | ncoFtwCommit (rq : Req) (t : Fin 16) (k : Fin 8) (w : Word)
  /-- VECTOR_READ (R168). -/
  | vectorRead (t : Fin 16)
  /-- SUCCESSOR_START (R274). -/
  | successorStart (t : Fin 16)
  /-- TILE_IDLE_RETURN (R181). -/
  | tileIdleReturn (t : Fin 16)
  /-- COMPARE_RESULT (R28): H1 and H0, L1 and L0, and the four of the second strobe of a DNRZ lane. -/
  | compareResult (l : Fin 1024) (h : Nat) (lo : Nat) (v2 : Nat)
  /-- FAIL_RECORD_FORM (R604). -/
  | failRecordForm (t : Fin 16)
  /-- FAIL_LOG_WRITE (R308). -/
  | failLogWrite (t : Fin 16)
  /-- CLEAR_ALL (R298). -/
  | clearAll (rq : Req) (t : Fin 16)
  /-- CLEAR_FAIL (R299). -/
  | clearFail (rq : Req) (t : Fin 16) (slot : Fin 64) (w : Word)
  /-- CLEAR_TB (R299). -/
  | clearTb (rq : Req) (t : Fin 16) (slot : Fin 64) (w : Word)
  /-- LOG_ARM (R306). -/
  | logArm (rq : Req) (t : Fin 16) (w : Word)
  /-- LOG_DISARM (R306). -/
  | logDisarm (rq : Req) (t : Fin 16) (w : Word)
  /-- LOG_AREA_WRITE (R304). -/
  | logAreaWrite (rq : Req) (t : Fin 16) (w : Word)
  /-- BAR2_VECTOR_WRITE (R209). -/
  | bar2VectorWrite (rq : Req) (off : Nat) (bytes : List Byte)
  /-- BAR2_CAPTURE_WRITE (R460). -/
  | bar2CaptureWrite (rq : Req) (off : Nat) (bytes : List Byte)
  /-- BAR2_READ (R215). -/
  | bar2Read (rq : Req) (off : Nat) (len : Nat)
  /-- CTLW_DATA_WRITE (R210). -/
  | ctlwDataWrite (rq : Req) (t : Fin 16) (w : Word) (be : Fin 16)
  /-- STORE_CFG_WRITE (R208). -/
  | storeCfgWrite (rq : Req) (t : Fin 16) (w : Word)
  /-- SCRUB_ROW (R217). -/
  | scrubRow (t : Fin 16)
  /-- STORE_WINDOW_WRITE (R38). -/
  | storeWindowWrite (rq : Req) (off : Nat) (w : Word)
  /-- STEP (R222). -/
  | step (q : Fin 17)
  /-- JUMP (R222). -/
  | jump (q : Fin 17)
  /-- BRANCH (R231). -/
  | branch (q : Fin 17)
  /-- LOOP (R232). -/
  | loop (q : Fin 17)
  /-- CNT_LOAD_IMM (R232). -/
  | cntLoadImm (q : Fin 17)
  /-- CNT_LOAD_CINIT (R232). -/
  | cntLoadCinit (q : Fin 17)
  /-- CNT_INCREMENT (R232). -/
  | cntIncrement (q : Fin 17)
  /-- CNT_DECREMENT (R232). -/
  | cntDecrement (q : Fin 17)
  /-- CNT_SNAPSHOT (R232). -/
  | cntSnapshot (q : Fin 17)
  /-- PLAY (R234). -/
  | play (t : Fin 16)
  /-- WAIT (R240). -/
  | wait (q : Fin 17)
  /-- WAIT_CONDITION_MET (R240). -/
  | waitConditionMet (q : Fin 17)
  /-- WAIT_TIMEOUT (R240). -/
  | waitTimeout (q : Fin 17)
  /-- WAIT_WAKE (R242). -/
  | waitWake (q : Fin 17)
  /-- SET_LSET (R235). -/
  | setLset (t : Fin 16)
  /-- UPDATE_ALL (R235). -/
  | updateAll (t : Fin 16)
  /-- MEASURE_OPEN (R236). -/
  | measureOpen (t : Fin 16)
  /-- MEASURE_CLOSE (R236). -/
  | measureClose (t : Fin 16)
  /-- YIELD (R243). -/
  | yield (q : Fin 17)
  /-- EVENT_VECTOR (R247). -/
  | eventVector (q : Fin 17)
  /-- RETE (R249). -/
  | rete (q : Fin 17)
  /-- STOP_DRAIN (R237). -/
  | stopDrain (t : Fin 16)
  /-- STOP (R237). -/
  | stop (t : Fin 16)
  /-- ATOMIC_BEGIN (R251). -/
  | atomicBegin (q : Fin 17)
  /-- ATOMIC_END (R251). -/
  | atomicEnd (q : Fin 17)
  /-- MC_TRAP (R222). -/
  | mcTrap (q : Fin 17)
  /-- WATCHDOG (R244). -/
  | watchdog (q : Fin 17)
  /-- NANO_WORD_EFFECT (R226). -/
  | nanoWordEffect (q : Fin 17)
  /-- LOADER_CHECK (R255). -/
  | loaderCheck (rq : Req) (t : Fin 16) (w : Word)
  /-- LOADER_CHECK_DONE (R600). -/
  | loaderCheckDone (t : Fin 17)
  /-- SEQ_SCRUB (R258). -/
  | seqScrub (rq : Req) (t : Fin 16) (w : Word)
  /-- SEQ_SCRUB_DONE (R258). -/
  | seqScrubDone (t : Fin 17) (hard : List Nat)
  /-- JUMP_REQUEST_GO (R270). -/
  | jumpRequestGo (rq : Req) (t : Fin 16) (w : Word)
  /-- JUMP_SRC_EDGE (R270). -/
  | jumpSrcEdge (t : Fin 16)
  /-- RING_RESET (R279). -/
  | ringReset (rq : Req) (t : Fin 16)
  /-- RING_CFG_WRITE (R278). -/
  | ringCfgWrite (rq : Req) (t : Fin 16) (w : Word)
  /-- SLOT_WRITE (R280). -/
  | slotWrite (rq : Req) (t : Fin 16) (n : Fin 256) (w : Word)
  /-- OCT_MATRIX_WRITE (R319). -/
  | octMatrixWrite (rq : Req) (o : Fin 128) (w : Word)
  /-- SMU_COMPLIANCE (R316). -/
  | smuCompliance (i : Fin 136) (on : Bool)
  /-- SMU_SENSE_FAULT (R317). -/
  | smuSenseFault (i : Fin 136)
  /-- SMU_SENSE_RESTORE (R317). -/
  | smuSenseRestore (rq : Req) (i : Fin 136) (w : Word)
  /-- ADC_GO (R326). -/
  | adcGo (rq : Req) (o : Fin 128) (w : Word)
  /-- ADC_STOP (R326). -/
  | adcStop (rq : Req) (o : Fin 128) (w : Word)
  /-- ADC_SLOT (R324): the code, and the time since the last time tick in 2^-16 ns. -/
  | adcSlot (o : Fin 128) (code : Nat) (sub : Nat := 0)
  /-- ADC_FIFO_READ (R328). -/
  | adcFifoRead (rq : Req) (o : Fin 128)
  /-- SMU_CONVERSION (R331). -/
  | smuConversion (i : Fin 136) (code : Nat)
  /-- SMU_FIFO_READ (R331). -/
  | smuFifoRead (rq : Req) (i : Fin 136)
  /-- DPS_OUT_EN (R337). -/
  | dpsOutEn (rq : Req) (d : Fin 36) (w : Word)
  /-- DPS_SAMPLE (R345). -/
  | dpsSample (d : Fin 36) (i : Int) (v : Int) (limiting : Bool)
  /-- DPS_HW_TRIP (R344). -/
  | dpsHwTrip (d : Fin 36)
  /-- DPS_SENSE_FAULT (R339). -/
  | dpsSenseFault (d : Fin 36)
  /-- DPS_SENSE_RESTORE (R339). -/
  | dpsSenseRestore (rq : Req) (d : Fin 36) (w : Word)
  /-- DPS_RESTART (R343). -/
  | dpsRestart (rq : Req) (d : Fin 36) (w : Word)
  /-- DPS_POWER_ESTIMATE (R348). -/
  | dpsPowerEstimate (q : Fin 4)
  /-- TDC_ARM (R360). -/
  | tdcArm (rq : Req) (i : Fin 68) (w : Word)
  /-- TDC_DISARM (R360). -/
  | tdcDisarm (rq : Req) (i : Fin 68) (w : Word)
  /-- TDC_START_EDGE (R358). -/
  | tdcStartEdge (i : Fin 68) (bin : Nat)
  /-- TDC_STOP_EDGE (R358). -/
  | tdcStopEdge (i : Fin 68) (bin : Nat)
  /-- TDC_GATE_CLOSE (R359). -/
  | tdcGateClose (i : Fin 68)
  /-- TDC_OVERRANGE (R362). -/
  | tdcOverrange (i : Fin 68)
  /-- TDC_DEAD_TIME_END (R361). -/
  | tdcDeadTimeEnd (i : Fin 68)
  /-- TDC_RES_READ (R366). -/
  | tdcResRead (rq : Req) (i : Fin 68)
  /-- RED_OPEN (R370). -/
  | redOpen (rq : Req) (w : Word)
  /-- RED_CLOSE (R370). -/
  | redClose (rq : Req) (w : Word)
  /-- RED_ABORT (R370). -/
  | redAbort (rq : Req) (w : Word)
  /-- CONTEXT_UPDATE (R373): the pipe whose residue check fails on the update, if one does (R380). -/
  | contextUpdate (residue : Option (Fin 5) := none)
  /-- RESULT_RECORD_WRITE (R376). -/
  | resultRecordWrite (g : Fin 64)
  /-- ACQ_ARM (R394). -/
  | acqArm (rq : Req) (t : Fin 16) (w : Word)
  /-- ACQ_DISARM (R398). -/
  | acqDisarm (rq : Req) (t : Fin 16) (w : Word)
  /-- ACQ_FORCE (R396). -/
  | acqForce (rq : Req) (t : Fin 16) (w : Word)
  /-- ARMING_DONE (R395). -/
  | armingDone (t : Fin 16)
  /-- ACQ_SAMPLE_EVALUATE (R390). -/
  | acqSampleEvaluate (t : Fin 16)
  /-- ACQ_AUTO_TIMEOUT (R396). -/
  | acqAutoTimeout (t : Fin 16)
  /-- ACQ_FRAME_CLOSE (R399). -/
  | acqFrameClose (t : Fin 16)
  /-- ACQ_RPTR_WRITE (R397). -/
  | acqRptrWrite (rq : Req) (t : Fin 16) (w : Word)
  /-- EVENT_ARRIVAL (R415). -/
  | eventArrival (n : Fin 1152)
  /-- EVENT_SET (R419). -/
  | eventSet (rq : Req) (n : Fin 1152)
  /-- EVENT_CLEAR (R419). -/
  | eventClear (rq : Req) (n : Fin 1152)
  /-- ROUTE_WRITE (R412). -/
  | routeWrite (rq : Req) (n : Fin 1152) (w : Word)
  /-- QUEUE_RECORD_FORM (R426). -/
  | queueRecordForm (sag : Fin 16) (k : Fin 4)
  /-- QUEUE_WRITE_ERROR (R429). -/
  | queueWriteError (sag : Fin 16) (k : Fin 4)
  /-- EVH_Q_RPTR_WRITE (R428). -/
  | evhQRptrWrite (rq : Req) (k : Fin 4) (w : Word)
  /-- EVH_Q_ENABLE (R425). -/
  | evhQEnable (rq : Req) (k : Fin 4) (w : Word)
  /-- EVH_Q_DISABLE (R425). -/
  | evhQDisable (rq : Req) (k : Fin 4) (w : Word)
  /-- HOLDOFF_EXPIRE (R430). -/
  | holdoffExpire (g : Fin 64)
  /-- MSIX_MASK_CLEAR (R459). -/
  | msixMaskClear (f : Fin 64) (k : Option (Fin 4))
  /-- TIME_NOW_READ (R433). -/
  | timeNowRead (rq : Req)
  /-- ADDEND_COMMIT (R434). -/
  | addendCommit (rq : Req) (w : Word)
  /-- TIME_ADJ_START (R435). -/
  | timeAdjStart (rq : Req) (w : Word)
  /-- TIME_ADJ_END (R435). -/
  | timeAdjEnd
  /-- TIME_STEP_GO (R436). -/
  | timeStepGo (rq : Req) (w : Word)
  /-- TIME_STEP_APPLY (R437). -/
  | timeStepApply
  /-- TIME_QUAL_WRITE (R438). -/
  | timeQualWrite (rq : Req) (w : Word)
  /-- REFRESH (R439). -/
  | refresh (rq : Req) (w : Word)
  /-- SYNC_TIMEOUT (R439). -/
  | syncTimeout
  /-- PORT_LINK_CHANGE (R441). -/
  | portLinkChange (p : Fin 2) (up : Bool)
  /-- FRAME_RECEIVE (R442). -/
  | frameReceive (p : Fin 2) (fcsGood : Bool) (sub : Nat) (bytes : List Byte)
  /-- RX_POP (R443). -/
  | rxPop (rq : Req) (p : Fin 2)
  /-- TX_GO (R444). -/
  | txGo (rq : Req) (p : Fin 2) (w : Word)
  /-- TX_DONE (R447). -/
  | txDone (p : Fin 2) (sub : Nat)
  /-- TX_STAMP_READ (R447). -/
  | txStampRead (rq : Req) (p : Fin 2)
  /-- TEV_ARM (R450). -/
  | tevArm (rq : Req) (n : Fin 4) (w : Word)
  /-- TEV_DISARM (R451). -/
  | tevDisarm (rq : Req) (n : Fin 4) (w : Word)
  /-- TEV_FIRE (R451). -/
  | tevFire (n : Fin 4)
  /-- TEV_PULSE_END (R451). -/
  | tevPulseEnd (n : Fin 4)
  /-- QUOTA_WRITE (R470). -/
  | quotaWrite (rq : Req) (s : Fin 16) (high : Bool) (w : Word)
  /-- ALLOT (R472). -/
  | allot (rq : Req) (w : Word)
  /-- RELEASE (R472). -/
  | release (rq : Req) (w : Word)
  /-- BLOCK_CLEAR_DONE (R472). -/
  | blockClearDone (b : Fin 768)
  /-- GROUP_RELEASE (R475). -/
  | groupRelease (g : Fin 64)
  /-- DMA_RING_ENABLE (R478). -/
  | dmaRingEnable (rq : Req) (r : Fin 4) (w : Word)
  /-- DMA_RING_DISABLE (R478). -/
  | dmaRingDisable (rq : Req) (r : Fin 4) (w : Word)
  /-- DMA_TAIL_WRITE (R478). -/
  | dmaTailWrite (rq : Req) (r : Fin 4) (w : Word)
  /-- NOP (R479). -/
  | nop (sag : Fin 16) (r : Fin 4) (d : List Byte)
  /-- STREAM_REFILL (R281). -/
  | streamRefill (sag : Fin 16) (r : Fin 4) (d : List Byte) (data : List Byte)
  /-- RESIDENT_LOAD (R479). -/
  | residentLoad (sag : Fin 16) (r : Fin 4) (d : List Byte) (data : List Byte)
  /-- UPLOAD (R479). -/
  | upload (sag : Fin 16) (r : Fin 4) (d : List Byte)
  /-- DESCRIPTOR_COMPLETE (R481). -/
  | descriptorComplete (sag : Fin 16) (r : Fin 4)
  /-- DMA_HOST_ERROR (R480). -/
  | dmaHostError (sag : Fin 16) (r : Fin 4) (timeout : Bool)
  /-- DMA_ARBITRATION_FRAME (R476). -/
  | dmaArbitrationFrame
  /-- SPI_WRITE_FRAME (R488). -/
  | spiWriteFrame (bytes : List Byte) (extraBits : Fin 8)
  /-- SPI_READ_FRAME (R489). -/
  | spiReadFrame (bytes : List Byte) (len : Nat) (extraBits : Fin 8)
  /-- SPI_STATUS_FRAME (R487). -/
  | spiStatusFrame
  /-- SPI_RESERVED_COMMAND (R493). -/
  | spiReservedCommand (cmd : Byte)
  /-- SPI_COMMIT_DONE (R488). -/
  | spiCommitDone
  /-- FLASH_LOCK_REQ (R504). -/
  | flashLockReq (rq : Req)
  /-- FLASH_LOCK_RELEASE (R504). -/
  | flashLockRelease (rq : Req)
  /-- FLASH_CMD_GO (R505). -/
  | flashCmdGo (rq : Req) (w : Word)
  /-- FLASH_CMD_DONE (R505). -/
  | flashCmdDone (status : Byte) (bytes : List Byte)
  /-- FLASH_WINDOW_READ (R502). -/
  | flashWindowRead (rq : Req) (off : Nat) (long : Bool)
  /-- FLASH_WINDOW_WRITE (R500). -/
  | flashWindowWrite (rq : Req) (off : Nat) (bytes : List Byte)
  /-- FLASH_PROGRAM_DONE (R500). -/
  | flashProgramDone (status : Byte)
  /-- FLASH_POLL_TIMEOUT (R500). -/
  | flashPollTimeout (status : Byte)
  /-- CAL_REQ (R513). -/
  | calReq (rq : Req) (q : Fin 4) (w : Word)
  /-- CAL_ABORT (R524). -/
  | calAbort (rq : Req) (q : Fin 4) (w : Word)
  /-- CAL_STEP_DONE (R511). -/
  | calStepDone (q : Fin 4) (x : CalOutcome) (verr terr : Int)
  /-- CAL_RETRY (R508). -/
  | calRetry (q : Fin 4) (ok : Bool) (verr terr : Int)
  /-- CAL_RUN_LIMIT (R522). -/
  | calRunLimit (q : Fin 4)
  /-- CAL_BUDGET_EXPIRE (R523). -/
  | calBudgetExpire
  /-- GLAZE_STEP (R526). -/
  | glazeStep (t : Fin 16)
  /-- HK_ROUND (R531). -/
  | hkRound (temps : List Int) (rails : List Int) (spines : List Int)
  /-- SENSOR_READMIT (R535). -/
  | sensorReadmit (rq : Req) (w : Word)
  /-- MARK_WORN (R555). -/
  | markWorn (rq : Req) (w : Word)
  /-- MARK_FAILED (R555). -/
  | markFailed (rq : Req) (w : Word)
  /-- SPR_SELF_TEST (R555). -/
  | sprSelfTest (rq : Req) (w : Word)
  /-- SELF_TEST_DONE (R555). -/
  | selfTestDone (failed : List Nat)
  /-- SPARE_IN (R551). -/
  | spareIn (place : Nat)
  /-- REPAIR_MAP_WRITE (R557). -/
  | repairMapWrite
  /-- NVM_READ (R563). -/
  | nvmRead (rq : Req) (w : Word)
  /-- NVM_USER_WRITE (R563). -/
  | nvmUserWrite (rq : Req) (w : Word)
  /-- NVM_WRITE_DONE (R561). -/
  | nvmWriteDone (bad : List Nat)
  /-- SHARD_WRITE (R564). -/
  | shardWrite
  /-- FORERUNNER_START (R575). -/
  | forerunnerStart (p : Fin 4) (edge : Fin 2)
  /-- FORERUNNER_STOP (R575). -/
  | forerunnerStop (p : Fin 4)
  /-- FORERUNNER_CALIBRATE (R577). -/
  | forerunnerCalibrate (p : Fin 4)
  /-- FORERUNNER_RESET (R578). -/
  | forerunnerReset (p : Fin 4)
  /-- FORERUNNER_TIMING_WRITE (R572). -/
  | forerunnerTimingWrite (p : Fin 4) (set : Fin 16) (ch : Fin 256) (item : Fin 8) (units : Nat)
  /-- FORERUNNER_LEVEL_WRITE (R574). -/
  | forerunnerLevelWrite (p : Fin 4) (ch : Fin 256) (set : Fin 8) (dac : Fin 8) (mv : Int)
  /-- FORERUNNER_VECTOR_WRITE (R570). -/
  | forerunnerVectorWrite (rq : Req) (off : Nat) (bytes : List Byte)
  /-- TIME_TICK (R431). -/
  | timeTick
  /-- COMPARATOR_SAMPLE (R125). -/
  | comparatorSample (l : Fin 1024)
  /-- RSV_CLASS (R252). -/
  | rsvClass (q : Fin 17)
  /-- PCIE_LINK_TRAINED (R454). -/
  | pcieLinkTrained (link : Fin 4) (speed : Nat) (width : Nat)
  /-- VF_ENABLE (R457). -/
  | vfEnable (link : Fin 4) (on : Bool) (numVfs : Nat)
  /-- RAIL_GOOD (R96). -/
  | railGood (rail : Fin 8)
  /-- SPI_HEADER_FRAME (R493). -/
  | spiHeaderFrame (bitsSent : Fin 8)
  /-- LINK_PROTOCOL_FAULT (R482). -/
  | linkProtocolFault (f : Fin 64) (kind : Fin 4)
  deriving DecidableEq, Repr

end Sys2Proof
end

