-- ==== Sys2Proof/Decode.lean ====
section
/-! DEFINITION. The command that a word of the opcode table spells. Commands are register accesses, events on pins and events inside the
device; no row of the table gives an encoding in bits, so no word spells a command. -/

namespace Sys2Proof

/-- The command that the table's bits spell: none, for the table gives no row any bits. [log DESIGN CHOICE 10] -/
def decodeTableWord (_nbits _w : Nat) : Option Instr := none

end Sys2Proof
end

