-- ==== Sys2Proof/Machine/SMap.lean ====
section
/-! DEFINITION. Bit fields of naturals, and the one sparse map that State is made of: pairs of a key and a value in rising key
order, holding no value equal to the default of its key, so that equal contents are equal data. -/

namespace Sys2Proof.Machine

/-- Bits [lo + w - 1 : lo] of a natural. -/
def bits (v lo w : Nat) : Nat := v / 2 ^ lo % 2 ^ w

/-- Bit i as a truth value. -/
def bitAt (v i : Nat) : Bool := v / 2 ^ i % 2 == 1

/-- 1 for true, 0 for false. -/
def b2n (b : Bool) : Nat := if b then 1 else 0

/-- `v` with bits [lo + w - 1 : lo] replaced by `x`. -/
def putBits (v lo w x : Nat) : Nat := v - bits v lo w * 2 ^ lo + x % 2 ^ w * 2 ^ lo

/-- A w-bit pattern read as two's complement. -/
def toSigned (w v : Nat) : Int := if v % 2 ^ w < 2 ^ (w - 1) then (v % 2 ^ w : Nat) else (v % 2 ^ w : Nat) - (2 ^ w : Nat)

/-- An integer as a w-bit two's complement pattern. -/
def ofInt (w : Nat) (x : Int) : Nat := (x % (2 ^ w : Nat)).toNat

/-- Saturation to a signed w-bit range. -/
def satSigned (w : Nat) (x : Int) : Int :=
  let m : Int := (2 ^ (w - 1) : Nat)
  if x < -m then -m else if x ≥ m then m - 1 else x

/-- The quotient rounded to nearest, halves to even. -/
def divEven (a : Int) (b : Nat) : Int :=
  let q := a / (b : Int)
  let r := a % (b : Int)
  if 2 * r < b then q else if 2 * r > b then q + 1 else if q % 2 = 0 then q else q + 1

/-- The n little-endian bytes of a natural. -/
def leBytes : Nat → Nat → List Nat
  | 0, _ => []
  | n + 1, v => v % 256 :: leBytes n (v / 256)

/-- The natural that little-endian bytes spell. -/
def leVal : List Nat → Nat
  | [] => 0
  | b :: bs => b % 256 + 256 * leVal bs

/-- The natural that big-endian bytes spell. -/
def beVal (l : List Nat) : Nat := l.foldl (fun a b => a * 256 + b % 256) 0

/-- The n big-endian bytes of a natural. -/
def beBytes (n v : Nat) : List Nat := (leBytes n v).reverse

/-- A sparse map from keys to values. -/
abbrev SMap (α : Type) := List (Nat × α)

/-- The value at key `k`, `d` where nothing is listed. -/
def smGet {α : Type} (d : α) : SMap α → Nat → α
  | [], _ => d
  | (k', v) :: r, k => if k = k' then v else smGet d r k

/-- The map with `v` listed at `k`, keys kept rising. -/
def smPut {α : Type} (k : Nat) (v : α) : SMap α → SMap α
  | [] => [(k, v)]
  | (k', v') :: r => if k < k' then (k, v) :: (k', v') :: r else if k = k' then (k, v) :: r else (k', v') :: smPut k v r

/-- The map with nothing listed at `k`. -/
def smErase {α : Type} (k : Nat) : SMap α → SMap α
  | [] => []
  | (k', v') :: r => if k = k' then smErase k r else (k', v') :: smErase k r

/-- The map with key `k` reading `v`, where an unlisted key `k` reads `d`: the default itself is never listed. -/
def smSet {α : Type} [DecidableEq α] (d : α) (m : SMap α) (k : Nat) (v : α) : SMap α :=
  if v = d then smErase k m else smPut k v m

/-- The map with every key that fails `p` unlisted, so that it reads its default again. -/
def smKeep {α : Type} (p : Nat → Bool) (m : SMap α) : SMap α := m.filter fun e => p e.1

/-- Keys strictly rising. -/
def smRising {α : Type} : SMap α → Bool
  | (k, _) :: (k', v') :: r => decide (k < k') && smRising ((k', v') :: r)
  | _ => true

/-- The canonical form: keys strictly rising and no entry equal to the default of its key. -/
def smWf {α : Type} [DecidableEq α] (d : Nat → α) (m : SMap α) : Bool :=
  smRising m && m.all fun e => decide (e.2 ≠ d e.1)

/-- Bytes written from key `k` on, each key's default being `d`. -/
def smWrite (d : Nat) (m : SMap Nat) (k : Nat) : List Nat → SMap Nat
  | [] => m
  | b :: bs => smWrite d (smSet d m k (b % 256)) (k + 1) bs

/-- The `n` values from key `k` on. -/
def smRead {α : Type} (d : α) (m : SMap α) (k n : Nat) : List α := (List.range n).map fun j => smGet d m (k + j)

/-- Element `i` of a list replaced by `f` of it; the list unchanged where it has none. -/
def modNth {α : Type} (f : α → α) : Nat → List α → List α
  | _, [] => []
  | 0, x :: xs => f x :: xs
  | n + 1, x :: xs => x :: modNth f n xs

end Sys2Proof.Machine
end

