-- ==== Sys2Proof/Machine/Crypto.lean ====
section
/-! DEFINITION. SHA-384 as FIPS 180-4 defines it and ECDSA verification over curve P-384 as FIPS 186-5 defines it, on natural numbers (R41, R72). -/

namespace Sys2Proof.Machine

/-- Round constants 0 to 19 of SHA-512. -/
def shaK0 : List Nat :=
   [0x428A2F98D728AE22, 0x7137449123EF65CD, 0xB5C0FBCFEC4D3B2F, 0xE9B5DBA58189DBBC, 0x3956C25BF348B538,
    0x59F111F1B605D019, 0x923F82A4AF194F9B, 0xAB1C5ED5DA6D8118, 0xD807AA98A3030242, 0x12835B0145706FBE,
    0x243185BE4EE4B28C, 0x550C7DC3D5FFB4E2, 0x72BE5D74F27B896F, 0x80DEB1FE3B1696B1, 0x9BDC06A725C71235,
    0xC19BF174CF692694, 0xE49B69C19EF14AD2, 0xEFBE4786384F25E3, 0xFC19DC68B8CD5B5, 0x240CA1CC77AC9C65]
/-- Round constants 20 to 39 of SHA-512. -/
def shaK1 : List Nat :=
   [0x2DE92C6F592B0275, 0x4A7484AA6EA6E483, 0x5CB0A9DCBD41FBD4, 0x76F988DA831153B5, 0x983E5152EE66DFAB,
    0xA831C66D2DB43210, 0xB00327C898FB213F, 0xBF597FC7BEEF0EE4, 0xC6E00BF33DA88FC2, 0xD5A79147930AA725,
    0x6CA6351E003826F, 0x142929670A0E6E70, 0x27B70A8546D22FFC, 0x2E1B21385C26C926, 0x4D2C6DFC5AC42AED,
    0x53380D139D95B3DF, 0x650A73548BAF63DE, 0x766A0ABB3C77B2A8, 0x81C2C92E47EDAEE6, 0x92722C851482353B]
/-- Round constants 40 to 59 of SHA-512. -/
def shaK2 : List Nat :=
   [0xA2BFE8A14CF10364, 0xA81A664BBC423001, 0xC24B8B70D0F89791, 0xC76C51A30654BE30, 0xD192E819D6EF5218,
    0xD69906245565A910, 0xF40E35855771202A, 0x106AA07032BBD1B8, 0x19A4C116B8D2D0C8, 0x1E376C085141AB53,
    0x2748774CDF8EEB99, 0x34B0BCB5E19B48A8, 0x391C0CB3C5C95A63, 0x4ED8AA4AE3418ACB, 0x5B9CCA4F7763E373,
    0x682E6FF3D6B2B8A3, 0x748F82EE5DEFB2FC, 0x78A5636F43172F60, 0x84C87814A1F0AB72, 0x8CC702081A6439EC]
/-- Round constants 60 to 79 of SHA-512. -/
def shaK3 : List Nat :=
   [0x90BEFFFA23631E28, 0xA4506CEBDE82BDE9, 0xBEF9A3F7B2C67915, 0xC67178F2E372532B, 0xCA273ECEEA26619C,
    0xD186B8C721C0C207, 0xEADA7DD6CDE0EB1E, 0xF57D4F7FEE6ED178, 0x6F067AA72176FBA, 0xA637DC5A2C898A6,
    0x113F9804BEF90DAE, 0x1B710B35131C471B, 0x28DB77F523047D84, 0x32CAAB7B40C72493, 0x3C9EBE0A15C9BEBC,
    0x431D67C49C100D4C, 0x4CC5D4BECB3E42B6, 0x597F299CFC657E2A, 0x5FCB6FAB3AD6FAEC, 0x6C44198C4A475817]
/-- The 80 round constants. -/
def shaK : List Nat := shaK0 ++ shaK1 ++ shaK2 ++ shaK3
/-- The initial hash value of SHA-384. -/
def sha384Init : List Nat :=
   [0xCBBB9D5DC1059ED8, 0x629A292A367CD507, 0x9159015A3070DD17, 0x152FECD8F70E5939, 0x67332667FFC00B31,
    0x8EB44A8768581511, 0xDB0C2E0D64F98FA7, 0x47B5481DBEFA4FA4]

/-- A 64-bit word rotated right. -/
def rotr64 (x n : Nat) : Nat := x / 2 ^ n + x % 2 ^ n * 2 ^ (64 - n)

/-- Three words combined bit by bit by exclusive or. -/
def xor3 (a b c : Nat) : Nat := Nat.xor a (Nat.xor b c)

/-- The message schedule, latest word first, extended by `n` words. -/
def shaSchedule : Nat → List Nat → List Nat
  | 0, w => w
  | n + 1, w =>
    let g (i : Nat) : Nat := w.getD i 0
    let s0 := xor3 (rotr64 (g 14) 1) (rotr64 (g 14) 8) (g 14 / 2 ^ 7)
    let s1 := xor3 (rotr64 (g 1) 19) (rotr64 (g 1) 61) (g 1 / 2 ^ 6)
    shaSchedule n (((s1 + g 6 + s0 + g 15) % 2 ^ 64) :: w)

/-- One round on the eight working variables a to h, with its constant and schedule word. -/
def shaRound (v : List Nat) (kw : Nat × Nat) : List Nat :=
  let g (i : Nat) : Nat := v.getD i 0
  let e := g 4
  let a := g 0
  let ch := Nat.xor (Nat.land e (g 5)) (Nat.land (2 ^ 64 - 1 - e) (g 6))
  let t1 := g 7 + xor3 (rotr64 e 14) (rotr64 e 18) (rotr64 e 41) + ch + kw.1 + kw.2
  let t2 := xor3 (rotr64 a 28) (rotr64 a 34) (rotr64 a 39) + xor3 (Nat.land a (g 1)) (Nat.land a (g 2)) (Nat.land (g 1) (g 2))
  [(t1 + t2) % 2 ^ 64, a, g 1, g 2, (g 3 + t1) % 2 ^ 64, e, g 5, g 6]

/-- The words of one block of 128 bytes, first to last. -/
def shaWords : Nat → List Nat → List Nat
  | 0, _ => []
  | n + 1, b => beVal (b.take 8) :: shaWords n (b.drop 8)

/-- One block added to the hash value. -/
def shaBlock (h b : List Nat) : List Nat :=
  let w := (shaSchedule 64 (shaWords 16 b).reverse).reverse
  let v := (shaK.zip w).foldl shaRound h
  (h.zip v).map fun (e : Nat × Nat) => (e.1 + e.2) % 2 ^ 64

/-- `n` blocks added to the hash value. -/
def shaBlocks : Nat → List Nat → List Nat → List Nat
  | 0, h, _ => h
  | n + 1, h, b => shaBlocks n (shaBlock h (b.take 128)) (b.drop 128)

/-- SHA-384 of a byte string, as a 384-bit number, most significant byte first. -/
def sha384 (m : List Nat) : Nat :=
  let n := (m.length + 17 + 127) / 128
  let h := shaBlocks n sha384Init (m ++ 0x80 :: List.replicate (128 * n - m.length - 17) 0 ++ beBytes 16 (8 * m.length))
  (h.take 6).foldl (fun a x => a * 2 ^ 64 + x) 0

/-- The prime of P-384. -/
def p384p : Nat := 2 ^ 384 - 2 ^ 128 - 2 ^ 96 + 2 ^ 32 - 1
/-- The coefficient b of P-384; a is p - 3. -/
def p384b : Nat := 0xB3312FA7E23EE7E4988E056BE3F82D19181D9C6EFE8141120314088F5013875AC656398D8A2ED19D2A85C8EDD3EC2AEF
/-- The order of the base point. -/
def p384n : Nat := 0xFFFFFFFFFFFFFFFFFFFFFFFFFFFFFFFFFFFFFFFFFFFFFFFFC7634D81F4372DDF581A0DB248B0A77AECEC196ACCC52973
/-- The base point. -/
def p384g : Nat × Nat :=
  (0xAA87CA22BE8B05378EB1C71EF320AD746E1D3B628BA79B9859F741E082542A385502F25DBF55296C3A545E3872760AB7,
   0x3617DE4A96262C6F5D9E98BF9292DC29F8F41DBD289A147CE9DA3113B5F0B8C00A60B1CE1D7E819D7A431D7C90EA0E5F)

/-- `b ^ e` modulo `m`, for an exponent of at most `n` bits. -/
def powMod : Nat → Nat → Nat → Nat → Nat
  | 0, _, _, _ => 1
  | n + 1, b, e, m => let r := powMod n (b * b % m) (e / 2) m; if e % 2 = 1 then r * b % m else r

/-- The inverse modulo a prime of at most 384 bits. -/
def invMod (x m : Nat) : Nat := powMod 384 (x % m) (m - 2) m

/-- The sum of two points of P-384; none is the point at infinity. -/
def pointAdd : Option (Nat × Nat) → Option (Nat × Nat) → Option (Nat × Nat)
  | none, q => q
  | p, none => p
  | some (x1, y1), some (x2, y2) =>
    if x1 = x2 && (y1 + y2) % p384p = 0 then none
    else
      let l := if x1 = x2 then (3 * x1 * x1 + p384p - 3) * invMod (2 * y1) p384p % p384p
        else (y2 + p384p - y1) * invMod (x2 + p384p - x1) p384p % p384p
      let x := (l * l + 2 * p384p - x1 - x2) % p384p
      some (x, (l * (x1 + p384p - x) + p384p - y1) % p384p)

/-- The multiple of a point by a number of at most `n` bits. -/
def pointMul : Nat → Nat → Option (Nat × Nat) → Option (Nat × Nat)
  | 0, _, _ => none
  | n + 1, k, p => let r := pointMul n (k / 2) (pointAdd p p); if k % 2 = 1 then pointAdd r p else r

/-- The signature (r, s) of a digest verifies against the public key (x, y) (R72). -/
def p384Verify (x y digest r s : Nat) : Bool :=
  let curve : Bool := x < p384p && y < p384p && (y * y) % p384p = (x * x * x + (p384p - 3) * x + p384b) % p384p
  if !curve || r = 0 || r ≥ p384n || s = 0 || s ≥ p384n then false
  else
    let w := invMod s p384n
    match pointAdd (pointMul 384 (digest * w % p384n) (some p384g)) (pointMul 384 (r * w % p384n) (some (x, y))) with
    | some (v, _) => v % p384n = r
    | none => false

end Sys2Proof.Machine
end

