-- ==== Sys2Proof/Config.lean ====
section
/-! DEFINITION. What the manual leaves open: constants without a body, so that no proof can see a value of one. Each is named in a
row of the assumption log. -/

namespace Sys2Proof.Config

/-- A free value for a point the manual gives no value for: the n-th one drawn, with the number of its kind. [log DESIGN CHOICE 11] -/
opaque freeValue : Nat → Nat → Nat

/-- Spare rows fitted in a store of R11: SPR_ROWS reads what is left of them. [log DESIGN CHOICE 112] -/
opaque spareRows : Nat → Nat

/-- A trim that the factory baseline record holds for a unit: from the record's bytes, the unit's kind, its number and the trim's index. The
layout of that record is not in the manual. [log DESIGN CHOICE 113] -/
opaque baselineTrim : List Nat → Nat → Nat → Nat → Int

end Sys2Proof.Config
end

