-- ==== Sys2Proof/Machine/Regs.lean ====
section
/-! DEFINITION. The register table of the device: every register and field of the chapters of spec/ with its place, width, access type (R7),
reset value and reset domain (R6). A field value is a natural below 2 to the field's width; `Fld.slot` numbers the field
instances for the one sparse store of State that holds them. -/

namespace Sys2Proof.Machine

/-- The registers of the device, by the names the chapters give them. -/
inductive Reg where
  | DEV_RESET_CAUSE | SPIS_STATUS | SPIS_COUNT | SPIS_RESET_CAUSE | SPIS_TRIP | SPIS_SCRATCH
  | SPIS_MIRROR | LOG_SEQ | DEV_IDENT | DEV_CLK | DEV_MOULD_STATUS | DEV_MOULD_FLASH
  | DEV_STRAP | TIME_NOW_FRAC | TIME_NOW_NS | TIME_NOW_SEC_LO | TIME_NOW_SEC_HI | TIME_ADDEND_LO
  | TIME_ADDEND_HI | TIME_QUAL | FLS_ID | HK_ROUND_COUNT | HK_STATUS | HK_SUPPLY_VAL
  | HK_SUPPLY_LIM | HK_SPINE | THS_TEMP | THS_BROKEN | THS_READMIT | THS_TJ
  | THS_CONE | THS_STATUS | THS_CTL | NVM_SEQ | NVM_STATUS | NVM_SERIAL_LO
  | NVM_SERIAL_HI | SPR_RESERVE_Q | SPR_RESERVE_DEV | SPR_QUERY_RES | SPR_ROWS | LOG_STATUS
  | LOG_LOST | LOG_PAGE | DEV_FUSE_HASH | DEV_FUSE_CMD | DEV_MOULD_CTL | DEV_MOULD_ADDR_LO
  | DEV_MOULD_ADDR_HI | DEV_MOULD_LEN | DEV_MOULD_INFO | DEV_MOULD_PLANT | DEV_MODE | DEV_START
  | DEV_STARTUP | LANE_FE | LVL_CFG | LVL_SPAN | LVL_SLEW | LVL_PPMU_CODE
  | LVL_STATUS | LVL_NOW | LVL_SET | TS_LANE_EDGE | TS_LANE_MODE | TS_STAGE_PERIOD
  | TS_COMMIT | TS_CTL | TS_STATUS | TS_DROP_COUNT | TS_NCO_FTW_LO | TS_NCO_FTW_HI
  | TS_NCO_PHASE_LO | TS_NCO_PHASE_HI | TS_NCO_CTL | SEG_STORE_CFG | SEG_LANE_DIR | SEG_LANE_FIXED
  | SEG_CTLW_ADDR | SEG_CTLW_DATA | SEG_STORE_STATUS | SEG_STORE_ERRADDR | SEQ_CTL | SEQ_ENTRY
  | SEQ_STATUS | SEQ_PC | SEQ_LOAD | SEQ_NANO_PAGE | SEQ_MC | SEQ_MC_INFO
  | SEQ_SITE_SEL | SEQ_START | HK_SEQ_FLASH_BASE | SEG_RING_CFG | SEG_RING_CTL | SEG_RING_STATUS
  | SEG_RING_FILL | SEG_JUMP | SEG_STATUS | SEG_ITER | SEG_CHECK | SEG_COUNT
  | SEG_COUNT2 | SEG_HOLD_VECTORS | SEG_GROUP_WAIT | SEG_SLOT | CMP_CTL | CMP_STATUS
  | CMP_CYCLE_LO | CMP_CYCLE_HI | CMP_TILE_FAILS | CMP_LOG_CTL | CMP_LOG_AREA | CMP_LOG_STATUS
  | CMP_LOG_LOST | CMP_LANE_FAIL | CMP_SITE_CTL | CMP_SITE_STATUS | CMP_SITE_FF_LO | CMP_SITE_FF_HI
  | CMP_SITE_FF_VA | CMP_SITE_FF_INFO | CMP_SITE_FAILV | DPS_CTL | DPS_LIMIT | DPS_STATUS
  | DPS_MEAS_I | DPS_MEAS_V | DPS_MON_I_CTL | DPS_MON_I_THR | DPS_MON_V_CTL | DPS_MON_V_THR
  | DPS_GANG | DPS_SPARE_STATUS | RED_STATUS | RED_DROP_ADC | RED_DROP_SMU | RED_DROP_TDC
  | RED_NOT_OPEN | RED_CMD | RED_CTX_PAGE | TDC_CFG | TDC_CTX | TDC_GATE
  | TDC_CTL | TDC_COUNT | TDC_RES_LO | TDC_RES_HI | TDC_RES_COUNT | TDC_RES_TIME_LO
  | TDC_RES_TIME_HI | TDC_SPARE_STATUS | ACQ_CTL | ACQ_SRC | ACQ_CFG | ACQ_PRE
  | ACQ_POST | ACQ_AUTO | ACQ_AREA | ACQ_FRAME | ACQ_RING | ACQ_WPTR
  | ACQ_RPTR | ACQ_COUNT | ACQ_FO_LO | ACQ_FO_HI | ACQ_COND_CTL | ACQ_COND_A
  | ACQ_COND_B | DEV_PRIO | EVH_STATUS | EVH_PEND | EVH_HOLDOFF | EVH_SRC_CFG
  | EVH_SRC_STATUS | TIME_ADJ_LO | TIME_ADJ_HI | TIME_ADJ_TICKS | TIME_STEP_NS | TIME_STEP_SEC_LO
  | TIME_STEP_SEC_HI | TIME_STEP_CTL | TIME_PORT_STATUS | TIME_PORT_MAC_LO | TIME_PORT_MAC_HI | TIME_PORT_ING_LAT
  | TIME_PORT_EGR_LAT | TIME_PORT_ASYM | TIME_PORT_RX | TIME_PORT_TX | TX_STAMP_FRAC | TX_STAMP_NS
  | TX_STAMP_SEC_LO | TX_STAMP_SEC_HI | TIME_PORT_DROP | TIME_PORT_ERR | TEV_CFG | TEV_START_NS
  | TEV_START_SEC_LO | TEV_START_SEC_HI | TEV_START_FRAC | TEV_PERIOD_NS | TEV_PERIOD_FRAC | TEV_WIDTH
  | TEV_CTL | TEV_COUNT | HOST_ID | HOST_LINK | HOST_REFUSE | HOST_REFUSE_ADDR
  | HOST_ERR | SAG_START | SAG_TILES | SAG_ALLOT | SAG_QUOTA_A | SAG_QUOTA_B
  | SAG_USE | SAG_OVER | FLS_CMD | FLS_ADDR | FLS_LOCK | FLS_STATUS
  | FLS_CFG | FLS_WIN_PAGE | FLS_BUF | CAL_CTL | CAL_STATUS | CAL_COUNT
  | CAL_LAST_TIME_LO | CAL_LAST_TIME_HI | CAL_TEMP | CAL_GLAZE | CAL_RESULT | CAL_RESULT2
  | CAL_SPINE | CAL_SKIP_LAST | CAL_EXCL | CAL_QUERY | CAL_QUERY_RES | NVM_CMD
  | NVM_BUF | SPR_QUERY | SPR_CMD | SPR_PENDING | DEV_LEGACY | SMU_FORCE_CODE
  | SMU_FORCE_CFG | SMU_FORCE_SLEW | SMU_FORCE_STATUS | DPS_SET_CODE | DPS_SET_CFG | DPS_SET_SLEW
  | DPS_SET_STATUS | SEQ_CNT | SEQ_CNT_SNAP | SEQ_CINIT | SEQ_TIMEOUT | SEQ_STACK
  | SMU_SPARE_STATUS | SAG_BLK_OWNER | SAG_GRP_OWNER | ACQ_PAT_H_LO | ACQ_PAT_H_HI | ACQ_PAT_L_LO
  | ACQ_PAT_L_HI | ACQ_PAT_MASK_LO | ACQ_PAT_MASK_HI | TIME_PORT_TX_REF_FRAC | TIME_PORT_TX_REF_NS | TIME_PORT_TX_REF_SEC
  | LANE_CTL | LANE_DRV_CTL | LANE_CMP_CTL | LANE_LOAD | LANE_PPMU_CTL | LANE_MON_CTL
  | LANE_MON | LANE_STATUS | OCT_LVL_UPDATE | SEQ_HOST_FLAGS | OCT_MATRIX | OCT_STATUS
  | OCT_PPMU_COMPL | ADC_CTL | ADC_STATUS | ADC_FIFO | ADC_FIFO_TIME_LO | ADC_FIFO_TIME_HI
  | ADC_LOST | ADC_SEQ_A | ADC_SEQ_B | SMU_CTL | SMU_CLAMP | SMU_VCLAMP
  | SMU_MEAS | SMU_MON_CTL | SMU_MON_THR | SMU_STATUS | SMU_FIFO | SMU_FIFO_TIME_LO
  | SMU_FIFO_TIME_HI | SMU_LOST | RED_GRP_AREA | RED_GRP_WPTR | RED_GRP_RPTR | RED_GRP_STATUS
  | EVH_Q_BASE_LO | EVH_Q_BASE_HI | EVH_Q_CFG | EVH_Q_WPTR | EVH_Q_RPTR | EVH_Q_STATUS
  | HOST_DMA_BASE_LO | HOST_DMA_BASE_HI | HOST_DMA_CFG | HOST_DMA_TAIL | HOST_DMA_HEAD | HOST_DMA_STATUS
  deriving DecidableEq, Repr

/-- The access types of R7. -/
inductive Acc where
  | rw | ro | wo | w1c | w1s | rc | rwl | rsn
  deriving DecidableEq, Repr

/-- How a reset value is given: a constant of the register table, or a rule that depends on the instance. -/
inductive Rst where
  /-- The same value in every instance. -/
  | c (n : Nat)
  /-- Capture block 48T plus an offset, T the instance (R304, ACQ_AREA). -/
  | capture (plus : Nat)
  /-- The low limit of rail n (R544). -/
  | supplyLow
  /-- The high limit of rail n (R544). -/
  | supplyHigh
  /-- ENABLE of source n before an image (R414). -/
  | evEnable
  /-- TARGET of source n before an image (R414). -/
  | evTarget
  deriving DecidableEq, Repr

/-- One field of one register: its number in the table, its place in the word, its type and its reset value. -/
structure Fld where
  key : Nat
  reg : Reg
  lo : Nat
  width : Nat
  acc : Acc
  rst : Rst
  deriving DecidableEq, Repr

/-- A range of offsets at which a register appears: instance 0, then (stride, count) from the widest stride down. -/
structure Win where
  base : Nat
  dims : List (Nat × Nat)
  /-- Instance number of the first word of the window. -/
  first : Nat
  deriving DecidableEq, Repr

/-- Which copy of a register a request meets: one of the device, one per PCIe function, one per saggar. -/
inductive Scope where
  | device | perFn | perSag
  deriving DecidableEq, Repr

/-- Field numbers at or above this one are outside the AON domain (R6). -/
def firstPor : Nat := 15
/-- Field numbers at or above this one have domain SOFT or FUNC (R6). -/
def firstSoft : Nat := 105
/-- Field numbers at or above this one have domain FUNC (R6). -/
def firstFunc : Nat := 680

namespace R
def DEV_RESET_CAUSE.AON : Fld := ⟨0, .DEV_RESET_CAUSE, 0, 1, .w1c, .c 1⟩
def DEV_RESET_CAUSE.POR : Fld := ⟨1, .DEV_RESET_CAUSE, 1, 1, .w1c, .c 0⟩
def DEV_RESET_CAUSE.SOFT : Fld := ⟨2, .DEV_RESET_CAUSE, 2, 1, .w1c, .c 0⟩
def DEV_RESET_CAUSE.BROWNOUT : Fld := ⟨3, .DEV_RESET_CAUSE, 3, 1, .w1c, .c 0⟩
def DEV_RESET_CAUSE.SUPPLY_ORDER : Fld := ⟨4, .DEV_RESET_CAUSE, 4, 1, .w1c, .c 0⟩
def SPIS_STATUS.LAST : Fld := ⟨5, .SPIS_STATUS, 0, 8, .ro, .c 1⟩
def SPIS_STATUS.REJECT_CAUSE : Fld := ⟨6, .SPIS_STATUS, 8, 4, .ro, .c 0⟩
def SPIS_COUNT.FRAMES : Fld := ⟨7, .SPIS_COUNT, 0, 16, .rc, .c 0⟩
def SPIS_COUNT.REJECTS : Fld := ⟨8, .SPIS_COUNT, 16, 8, .rc, .c 0⟩
def SPIS_COUNT.REFUSED : Fld := ⟨9, .SPIS_COUNT, 24, 8, .rc, .c 0⟩
def SPIS_RESET_CAUSE.CAUSE : Fld := ⟨10, .SPIS_RESET_CAUSE, 0, 5, .ro, .c 1⟩
def SPIS_TRIP.TRIP : Fld := ⟨11, .SPIS_TRIP, 0, 1, .ro, .c 0⟩
def SPIS_SCRATCH.SCRATCH : Fld := ⟨12, .SPIS_SCRATCH, 0, 32, .rw, .c 0⟩
def SPIS_MIRROR.ENTRY : Fld := ⟨13, .SPIS_MIRROR, 0, 32, .ro, .c 0⟩
def LOG_SEQ.SEQ : Fld := ⟨14, .LOG_SEQ, 0, 32, .ro, .c 0⟩
def DEV_IDENT.IDENT : Fld := ⟨15, .DEV_IDENT, 0, 32, .ro, .c 2048721920⟩
def DEV_CLK.CCLK_SPREAD_EN : Fld := ⟨16, .DEV_CLK, 0, 1, .rwl, .c 1⟩
def DEV_CLK.REF_LOSS_POLICY : Fld := ⟨17, .DEV_CLK, 1, 1, .rw, .c 0⟩
def DEV_CLK.REF_PRESENT : Fld := ⟨18, .DEV_CLK, 4, 1, .ro, .c 0⟩
def DEV_CLK.REF_LOST : Fld := ⟨19, .DEV_CLK, 5, 1, .w1c, .c 0⟩
def DEV_CLK.PLL_LOCKED : Fld := ⟨20, .DEV_CLK, 6, 1, .ro, .c 0⟩
def DEV_CLK.HOLDOVER : Fld := ⟨21, .DEV_CLK, 7, 1, .ro, .c 0⟩
def DEV_CLK.RELOCK_PENDING : Fld := ⟨22, .DEV_CLK, 8, 1, .ro, .c 0⟩
def DEV_MOULD_STATUS.STATE : Fld := ⟨23, .DEV_MOULD_STATUS, 0, 2, .ro, .c 0⟩
def DEV_MOULD_STATUS.SOURCE : Fld := ⟨24, .DEV_MOULD_STATUS, 2, 1, .ro, .c 0⟩
def DEV_MOULD_STATUS.FLASH_COPY : Fld := ⟨25, .DEV_MOULD_STATUS, 3, 1, .ro, .c 0⟩
def DEV_MOULD_STATUS.SIGNED : Fld := ⟨26, .DEV_MOULD_STATUS, 4, 1, .ro, .c 0⟩
def DEV_MOULD_STATUS.OPEN_DEVICE : Fld := ⟨27, .DEV_MOULD_STATUS, 5, 1, .ro, .c 0⟩
def DEV_MOULD_STATUS.CAUSE : Fld := ⟨28, .DEV_MOULD_STATUS, 8, 8, .ro, .c 0⟩
def DEV_MOULD_STATUS.DETAIL : Fld := ⟨29, .DEV_MOULD_STATUS, 16, 16, .ro, .c 0⟩
def DEV_MOULD_FLASH.FIRST_CAUSE : Fld := ⟨30, .DEV_MOULD_FLASH, 0, 8, .ro, .c 0⟩
def DEV_MOULD_FLASH.SECOND_CAUSE : Fld := ⟨31, .DEV_MOULD_FLASH, 8, 8, .ro, .c 0⟩
def DEV_STRAP.SAMPLED : Fld := ⟨32, .DEV_STRAP, 0, 6, .ro, .c 9⟩
def DEV_STRAP.EFFECTIVE : Fld := ⟨33, .DEV_STRAP, 8, 6, .ro, .c 9⟩
def TIME_NOW_FRAC.FRAC : Fld := ⟨34, .TIME_NOW_FRAC, 0, 16, .rsn, .c 0⟩
def TIME_NOW_FRAC.QUALITY : Fld := ⟨35, .TIME_NOW_FRAC, 16, 2, .rsn, .c 3⟩
def TIME_NOW_NS.NS : Fld := ⟨36, .TIME_NOW_NS, 0, 30, .ro, .c 0⟩
def TIME_NOW_SEC_LO.SEC_LO : Fld := ⟨37, .TIME_NOW_SEC_LO, 0, 32, .ro, .c 0⟩
def TIME_NOW_SEC_HI.SEC_HI : Fld := ⟨38, .TIME_NOW_SEC_HI, 0, 16, .ro, .c 0⟩
def TIME_ADDEND_LO.ADDEND_LO : Fld := ⟨39, .TIME_ADDEND_LO, 0, 32, .rw, .c 0⟩
def TIME_ADDEND_HI.ADDEND_HI : Fld := ⟨40, .TIME_ADDEND_HI, 0, 8, .rw, .c 2⟩
def TIME_QUAL.HOST_STATE : Fld := ⟨41, .TIME_QUAL, 0, 2, .rw, .c 1⟩
def TIME_QUAL.STEPPED : Fld := ⟨42, .TIME_QUAL, 2, 1, .ro, .c 0⟩
def TIME_QUAL.REFRESH : Fld := ⟨105, .TIME_QUAL, 3, 1, .wo, .c 0⟩
def TIME_QUAL.ADDEND_REFUSED : Fld := ⟨106, .TIME_QUAL, 4, 1, .w1c, .c 0⟩
def TIME_QUAL.SYNC_TIMEOUT : Fld := ⟨107, .TIME_QUAL, 8, 8, .rw, .c 0⟩
def TIME_QUAL.QUALITY : Fld := ⟨108, .TIME_QUAL, 16, 2, .ro, .c 3⟩
def FLS_ID.ID : Fld := ⟨43, .FLS_ID, 0, 24, .ro, .c 0⟩
def HK_ROUND_COUNT.COUNT : Fld := ⟨44, .HK_ROUND_COUNT, 0, 32, .ro, .c 0⟩
def HK_STATUS.AON_CLOCKED : Fld := ⟨45, .HK_STATUS, 0, 1, .ro, .c 1⟩
def HK_STATUS.HK_FIXED : Fld := ⟨46, .HK_STATUS, 1, 1, .ro, .c 1⟩
def HK_STATUS.REF_PRESENT : Fld := ⟨47, .HK_STATUS, 2, 1, .ro, .c 0⟩
def HK_STATUS.SPINE_WARN : Fld := ⟨48, .HK_STATUS, 3, 1, .w1c, .c 0⟩
def HK_STATUS.REF_LOST_ROUNDS : Fld := ⟨49, .HK_STATUS, 8, 8, .rc, .c 0⟩
def HK_SUPPLY_VAL.VALUE : Fld := ⟨50, .HK_SUPPLY_VAL, 0, 16, .ro, .c 0⟩
def HK_SUPPLY_VAL.FAULT : Fld := ⟨51, .HK_SUPPLY_VAL, 16, 1, .ro, .c 0⟩
def HK_SUPPLY_VAL.FAULT_HIT : Fld := ⟨52, .HK_SUPPLY_VAL, 17, 1, .w1c, .c 0⟩
def HK_SUPPLY_LIM.LOW : Fld := ⟨53, .HK_SUPPLY_LIM, 0, 16, .rw, .supplyLow⟩
def HK_SUPPLY_LIM.HIGH : Fld := ⟨54, .HK_SUPPLY_LIM, 16, 16, .rw, .supplyHigh⟩
def HK_SPINE.ERR : Fld := ⟨55, .HK_SPINE, 0, 16, .ro, .c 0⟩
def THS_TEMP.RAW : Fld := ⟨56, .THS_TEMP, 0, 16, .ro, .c 0⟩
def THS_TEMP.EFFECTIVE : Fld := ⟨57, .THS_TEMP, 16, 16, .ro, .c 0⟩
def THS_BROKEN.BROKEN : Fld := ⟨58, .THS_BROKEN, 0, 22, .ro, .c 0⟩
def THS_READMIT.READMIT : Fld := ⟨59, .THS_READMIT, 0, 22, .wo, .c 0⟩
def THS_TJ.TJ : Fld := ⟨60, .THS_TJ, 0, 16, .ro, .c 0⟩
def THS_TJ.SENSOR : Fld := ⟨61, .THS_TJ, 16, 5, .ro, .c 0⟩
def THS_CONE.W_C : Fld := ⟨62, .THS_CONE, 0, 8, .rw, .c 110⟩
def THS_CONE.T_C : Fld := ⟨63, .THS_CONE, 8, 8, .rw, .c 120⟩
def THS_CONE.S_C : Fld := ⟨64, .THS_CONE, 16, 8, .ro, .c 135⟩
def THS_STATUS.CONE_W : Fld := ⟨65, .THS_STATUS, 0, 1, .ro, .c 0⟩
def THS_STATUS.CONE_T : Fld := ⟨66, .THS_STATUS, 1, 1, .ro, .c 0⟩
def THS_STATUS.CONE_S : Fld := ⟨67, .THS_STATUS, 2, 1, .ro, .c 0⟩
def THS_STATUS.NVM_OK : Fld := ⟨68, .THS_STATUS, 3, 1, .ro, .c 0⟩
def THS_STATUS.RISE : Fld := ⟨69, .THS_STATUS, 4, 1, .ro, .c 0⟩
def THS_STATUS.RISE_HIT : Fld := ⟨70, .THS_STATUS, 5, 1, .w1c, .c 0⟩
def THS_STATUS.DIE_BLIND : Fld := ⟨71, .THS_STATUS, 6, 1, .ro, .c 0⟩
def THS_STATUS.RISE_SENSOR : Fld := ⟨72, .THS_STATUS, 8, 5, .ro, .c 0⟩
def THS_CTL.RISE_LIMIT : Fld := ⟨73, .THS_CTL, 0, 10, .rw, .c 50⟩
def THS_CTL.RISE_SHUTDOWN : Fld := ⟨74, .THS_CTL, 10, 1, .rw, .c 0⟩
def NVM_SEQ.SEQ : Fld := ⟨75, .NVM_SEQ, 0, 32, .ro, .c 0⟩
def NVM_STATUS.BUSY : Fld := ⟨76, .NVM_STATUS, 0, 1, .ro, .c 0⟩
def NVM_STATUS.REPAIR_PENDING : Fld := ⟨77, .NVM_STATUS, 1, 1, .ro, .c 0⟩
def NVM_STATUS.MAP_FULL : Fld := ⟨78, .NVM_STATUS, 2, 1, .ro, .c 0⟩
def NVM_STATUS.DIR_FAIL : Fld := ⟨79, .NVM_STATUS, 3, 1, .ro, .c 0⟩
def NVM_STATUS.BASELINE_MISSING : Fld := ⟨80, .NVM_STATUS, 4, 1, .ro, .c 0⟩
def NVM_STATUS.SPARE_PAGES : Fld := ⟨81, .NVM_STATUS, 8, 4, .ro, .c 8⟩
def NVM_SERIAL_LO.SERIAL_LO : Fld := ⟨82, .NVM_SERIAL_LO, 0, 32, .ro, .c 0⟩
def NVM_SERIAL_HI.SERIAL_HI : Fld := ⟨83, .NVM_SERIAL_HI, 0, 32, .ro, .c 0⟩
def SPR_RESERVE_Q.FE_PAIRS : Fld := ⟨84, .SPR_RESERVE_Q, 0, 9, .ro, .c 256⟩
def SPR_RESERVE_Q.SMU : Fld := ⟨85, .SPR_RESERVE_Q, 9, 2, .ro, .c 2⟩
def SPR_RESERVE_Q.DPS : Fld := ⟨86, .SPR_RESERVE_Q, 11, 1, .ro, .c 1⟩
def SPR_RESERVE_Q.WORN : Fld := ⟨87, .SPR_RESERVE_Q, 16, 8, .ro, .c 0⟩
def SPR_RESERVE_DEV.TDC : Fld := ⟨88, .SPR_RESERVE_DEV, 0, 3, .ro, .c 4⟩
def SPR_RESERVE_DEV.PIPE : Fld := ⟨89, .SPR_RESERVE_DEV, 3, 1, .ro, .c 1⟩
def SPR_RESERVE_DEV.UNAVAIL : Fld := ⟨90, .SPR_RESERVE_DEV, 16, 8, .ro, .c 0⟩
def SPR_QUERY_RES.STATE : Fld := ⟨91, .SPR_QUERY_RES, 0, 3, .ro, .c 0⟩
def SPR_QUERY_RES.PARTNER : Fld := ⟨92, .SPR_QUERY_RES, 16, 16, .ro, .c 65535⟩
def SPR_ROWS.ROWS : Fld := ⟨93, .SPR_ROWS, 0, 16, .ro, .c 0⟩
def SPR_ROWS.COLS : Fld := ⟨94, .SPR_ROWS, 16, 8, .ro, .c 0⟩
def LOG_STATUS.COUNT : Fld := ⟨95, .LOG_STATUS, 0, 13, .ro, .c 0⟩
def LOG_LOST.LOST : Fld := ⟨96, .LOG_LOST, 0, 16, .rc, .c 0⟩
def LOG_PAGE.PAGE : Fld := ⟨97, .LOG_PAGE, 0, 4, .rw, .c 0⟩
def DEV_FUSE_HASH.HASH : Fld := ⟨109, .DEV_FUSE_HASH, 0, 32, .wo, .c 0⟩
def DEV_FUSE_CMD.SLOT : Fld := ⟨110, .DEV_FUSE_CMD, 0, 2, .rw, .c 0⟩
def DEV_FUSE_CMD.CMD : Fld := ⟨111, .DEV_FUSE_CMD, 2, 2, .wo, .c 0⟩
def DEV_FUSE_CMD.STATUS : Fld := ⟨112, .DEV_FUSE_CMD, 4, 2, .ro, .c 0⟩
def DEV_MOULD_CTL.START : Fld := ⟨113, .DEV_MOULD_CTL, 0, 1, .wo, .c 0⟩
def DEV_MOULD_CTL.ABORT : Fld := ⟨114, .DEV_MOULD_CTL, 1, 1, .wo, .c 0⟩
def DEV_MOULD_ADDR_LO.ADDR_LO : Fld := ⟨115, .DEV_MOULD_ADDR_LO, 0, 32, .rw, .c 0⟩
def DEV_MOULD_ADDR_HI.ADDR_HI : Fld := ⟨116, .DEV_MOULD_ADDR_HI, 0, 32, .rw, .c 0⟩
def DEV_MOULD_LEN.LEN : Fld := ⟨117, .DEV_MOULD_LEN, 0, 19, .rw, .c 0⟩
def DEV_MOULD_INFO.IMAGE_VER : Fld := ⟨118, .DEV_MOULD_INFO, 0, 32, .ro, .c 0⟩
def DEV_MOULD_PLANT.COOLANT_MAX : Fld := ⟨119, .DEV_MOULD_PLANT, 0, 16, .ro, .c 0⟩
def DEV_MOULD_PLANT.POWER_BUDGET : Fld := ⟨120, .DEV_MOULD_PLANT, 16, 8, .ro, .c 0⟩
def DEV_MOULD_PLANT.COLD_PLATE : Fld := ⟨121, .DEV_MOULD_PLANT, 24, 1, .ro, .c 0⟩
def DEV_MOULD_PLANT.DEBUG_OPEN : Fld := ⟨122, .DEV_MOULD_PLANT, 25, 1, .ro, .c 0⟩
def DEV_MOULD_PLANT.LEGACY : Fld := ⟨123, .DEV_MOULD_PLANT, 26, 1, .ro, .c 0⟩
def DEV_MOULD_PLANT.KEY_SLOT : Fld := ⟨124, .DEV_MOULD_PLANT, 27, 2, .ro, .c 0⟩
def DEV_MODE.MODE : Fld := ⟨125, .DEV_MODE, 0, 3, .ro, .c 0⟩
def DEV_MODE.FIRST_RUN : Fld := ⟨126, .DEV_MODE, 3, 1, .ro, .c 0⟩
def DEV_MODE.TRANSITION : Fld := ⟨127, .DEV_MODE, 4, 1, .ro, .c 0⟩
def DEV_MODE.STARTUP_DONE : Fld := ⟨128, .DEV_MODE, 5, 1, .ro, .c 0⟩
def DEV_MODE.TRIP : Fld := ⟨129, .DEV_MODE, 7, 1, .ro, .c 0⟩
def DEV_MODE.REQ : Fld := ⟨130, .DEV_MODE, 8, 3, .wo, .c 0⟩
def DEV_MODE.STOP_NOW : Fld := ⟨131, .DEV_MODE, 11, 1, .wo, .c 0⟩
def DEV_MODE.REQ_STATUS : Fld := ⟨132, .DEV_MODE, 12, 2, .ro, .c 0⟩
def DEV_MODE.SOFT_RESET : Fld := ⟨133, .DEV_MODE, 16, 1, .wo, .c 0⟩
def DEV_MODE.AUTO_RECOVER : Fld := ⟨134, .DEV_MODE, 17, 1, .rw, .c 0⟩
def DEV_MODE.HOLD_STARTUP : Fld := ⟨135, .DEV_MODE, 18, 1, .rw, .c 0⟩
def DEV_MODE.REFUSE_CAUSE : Fld := ⟨136, .DEV_MODE, 24, 8, .ro, .c 0⟩
def DEV_START.TILE_MASK : Fld := ⟨137, .DEV_START, 0, 16, .rw, .c 0⟩
def DEV_START.AT_TEV : Fld := ⟨138, .DEV_START, 16, 1, .rw, .c 0⟩
def DEV_START.TEV : Fld := ⟨139, .DEV_START, 17, 2, .rw, .c 0⟩
def DEV_START.GO : Fld := ⟨140, .DEV_START, 19, 1, .wo, .c 0⟩
def DEV_START.ARMED : Fld := ⟨141, .DEV_START, 20, 1, .ro, .c 0⟩
def DEV_START.REFUSED : Fld := ⟨142, .DEV_START, 21, 1, .w1c, .c 0⟩
def DEV_START.CANCEL : Fld := ⟨143, .DEV_START, 22, 1, .wo, .c 0⟩
def DEV_STARTUP.STEP : Fld := ⟨144, .DEV_STARTUP, 0, 4, .ro, .c 0⟩
def DEV_STARTUP.DEGRADED : Fld := ⟨145, .DEV_STARTUP, 4, 1, .ro, .c 0⟩
def DEV_STARTUP.REPAIR_DEFERRED : Fld := ⟨146, .DEV_STARTUP, 5, 1, .ro, .c 0⟩
def DEV_STARTUP.FAIL_COUNT : Fld := ⟨147, .DEV_STARTUP, 8, 8, .ro, .c 0⟩
def DEV_STARTUP.ELAPSED_MS : Fld := ⟨148, .DEV_STARTUP, 16, 16, .ro, .c 0⟩
def LANE_FE.ACTIVE_FE : Fld := ⟨149, .LANE_FE, 0, 1, .ro, .c 0⟩
def LANE_FE.SINGLE : Fld := ⟨150, .LANE_FE, 1, 1, .ro, .c 0⟩
def LANE_FE.RETIRED : Fld := ⟨151, .LANE_FE, 2, 2, .ro, .c 0⟩
def LANE_FE.OTHER_STATE : Fld := ⟨152, .LANE_FE, 4, 2, .ro, .c 0⟩
def LANE_FE.SWAP_REQ : Fld := ⟨153, .LANE_FE, 6, 1, .wo, .c 0⟩
def LANE_FE.SWAP_REFUSED : Fld := ⟨154, .LANE_FE, 7, 1, .w1c, .c 0⟩
def LANE_FE.HANDOVER_COUNT : Fld := ⟨155, .LANE_FE, 16, 16, .ro, .c 0⟩
def LVL_CFG.UPD_MODE : Fld := ⟨156, .LVL_CFG, 0, 2, .rw, .c 1⟩
def LVL_CFG.STROBE_SEL : Fld := ⟨157, .LVL_CFG, 2, 2, .rw, .c 0⟩
def LVL_CFG.SET_FOLLOW : Fld := ⟨158, .LVL_CFG, 4, 1, .rw, .c 1⟩
def LVL_CFG.FIXED_SET : Fld := ⟨159, .LVL_CFG, 5, 3, .rw, .c 0⟩
def LVL_CFG.SET_IN_USE : Fld := ⟨160, .LVL_CFG, 8, 3, .ro, .c 0⟩
def LVL_SPAN.SPAN : Fld := ⟨161, .LVL_SPAN, 0, 18, .rw, .c 0⟩
def LVL_SLEW.STEP : Fld := ⟨162, .LVL_SLEW, 0, 16, .rw, .c 0⟩
def LVL_SLEW.RATE_M1 : Fld := ⟨163, .LVL_SLEW, 16, 8, .rw, .c 0⟩
def LVL_PPMU_CODE.CODE : Fld := ⟨164, .LVL_PPMU_CODE, 0, 16, .rw, .c 0⟩
def LVL_STATUS.CLAMPED : Fld := ⟨165, .LVL_STATUS, 0, 9, .ro, .c 0⟩
def LVL_STATUS.MOVING : Fld := ⟨166, .LVL_STATUS, 9, 9, .ro, .c 0⟩
def LVL_STATUS.LIMIT_REFUSED : Fld := ⟨167, .LVL_STATUS, 18, 1, .w1c, .c 0⟩
def LVL_STATUS.SPAN_REFUSED : Fld := ⟨168, .LVL_STATUS, 19, 1, .w1c, .c 0⟩
def LVL_NOW.PRESENT_A : Fld := ⟨169, .LVL_NOW, 0, 16, .ro, .c 0⟩
def LVL_NOW.PRESENT_B : Fld := ⟨170, .LVL_NOW, 16, 16, .ro, .c 0⟩
def LVL_SET.CODE_A : Fld := ⟨171, .LVL_SET, 0, 16, .rw, .c 0⟩
def LVL_SET.CODE_B : Fld := ⟨172, .LVL_SET, 16, 16, .rw, .c 0⟩
def TS_LANE_EDGE.EDGE : Fld := ⟨173, .TS_LANE_EDGE, 0, 21, .rw, .c 0⟩
def TS_LANE_MODE.FORMAT : Fld := ⟨174, .TS_LANE_MODE, 0, 3, .rw, .c 0⟩
def TS_LANE_MODE.CMP_MODE : Fld := ⟨175, .TS_LANE_MODE, 3, 1, .rw, .c 0⟩
def TS_LANE_MODE.NCO_SEL : Fld := ⟨176, .TS_LANE_MODE, 4, 3, .rw, .c 0⟩
def TS_STAGE_PERIOD.COARSE : Fld := ⟨177, .TS_STAGE_PERIOD, 0, 16, .rw, .c 8⟩
def TS_STAGE_PERIOD.FINE : Fld := ⟨178, .TS_STAGE_PERIOD, 16, 7, .rw, .c 0⟩
def TS_COMMIT.SET : Fld := ⟨179, .TS_COMMIT, 0, 5, .rw, .c 0⟩
def TS_COMMIT.COMMIT : Fld := ⟨180, .TS_COMMIT, 5, 1, .wo, .c 0⟩
def TS_COMMIT.FETCH : Fld := ⟨181, .TS_COMMIT, 6, 1, .wo, .c 0⟩
def TS_COMMIT.TIP_REF : Fld := ⟨182, .TS_COMMIT, 7, 1, .rw, .c 0⟩
def TS_COMMIT.STATUS : Fld := ⟨183, .TS_COMMIT, 8, 2, .ro, .c 0⟩
def TS_COMMIT.CAUSE : Fld := ⟨184, .TS_COMMIT, 12, 4, .ro, .c 0⟩
def TS_COMMIT.DETAIL : Fld := ⟨185, .TS_COMMIT, 16, 6, .ro, .c 0⟩
def TS_CTL.DEFAULT_SET : Fld := ⟨186, .TS_CTL, 0, 5, .rw, .c 0⟩
def TS_STATUS.ACCURACY : Fld := ⟨187, .TS_STATUS, 0, 2, .ro, .c 1⟩
def TS_STATUS.CUR_SET : Fld := ⟨188, .TS_STATUS, 2, 5, .ro, .c 0⟩
def TS_STATUS.EDGE_DROP : Fld := ⟨189, .TS_STATUS, 8, 1, .w1c, .c 0⟩
def TS_STATUS.WINDOW_TRUNC : Fld := ⟨190, .TS_STATUS, 9, 1, .w1c, .c 0⟩
def TS_DROP_COUNT.EDGE_DROP : Fld := ⟨191, .TS_DROP_COUNT, 0, 16, .rc, .c 0⟩
def TS_DROP_COUNT.WINDOW_TRUNC : Fld := ⟨192, .TS_DROP_COUNT, 16, 16, .rc, .c 0⟩
def TS_NCO_FTW_LO.FTW_LO : Fld := ⟨193, .TS_NCO_FTW_LO, 0, 32, .rw, .c 0⟩
def TS_NCO_FTW_HI.FTW_HI : Fld := ⟨194, .TS_NCO_FTW_HI, 0, 16, .rw, .c 0⟩
def TS_NCO_PHASE_LO.PHASE_LO : Fld := ⟨195, .TS_NCO_PHASE_LO, 0, 32, .rw, .c 0⟩
def TS_NCO_PHASE_HI.PHASE_HI : Fld := ⟨196, .TS_NCO_PHASE_HI, 0, 16, .rw, .c 0⟩
def TS_NCO_CTL.DUTY : Fld := ⟨197, .TS_NCO_CTL, 0, 16, .rw, .c 32768⟩
def TS_NCO_CTL.PR_EN : Fld := ⟨198, .TS_NCO_CTL, 16, 1, .rw, .c 1⟩
def SEG_STORE_CFG.RING_BASE : Fld := ⟨199, .SEG_STORE_CFG, 0, 9, .rw, .c 384⟩
def SEG_STORE_CFG.UE_POLICY : Fld := ⟨200, .SEG_STORE_CFG, 9, 1, .rw, .c 0⟩
def SEG_STORE_CFG.SCRUB_EN : Fld := ⟨201, .SEG_STORE_CFG, 10, 1, .rw, .c 1⟩
def SEG_STORE_CFG.SCRUB_GAP : Fld := ⟨202, .SEG_STORE_CFG, 16, 8, .rw, .c 0⟩
def SEG_LANE_DIR.DIR : Fld := ⟨203, .SEG_LANE_DIR, 0, 32, .rw, .c 0⟩
def SEG_LANE_FIXED.FIXED : Fld := ⟨204, .SEG_LANE_FIXED, 0, 32, .rw, .c 0⟩
def SEG_CTLW_ADDR.ROW : Fld := ⟨205, .SEG_CTLW_ADDR, 0, 19, .rw, .c 0⟩
def SEG_CTLW_DATA.CTL_EVEN : Fld := ⟨206, .SEG_CTLW_DATA, 0, 16, .rw, .c 0⟩
def SEG_CTLW_DATA.CTL_ODD : Fld := ⟨207, .SEG_CTLW_DATA, 16, 16, .rw, .c 0⟩
def SEG_STORE_STATUS.CE_COUNT : Fld := ⟨208, .SEG_STORE_STATUS, 0, 12, .rc, .c 0⟩
def SEG_STORE_STATUS.UE_COUNT : Fld := ⟨209, .SEG_STORE_STATUS, 12, 8, .rc, .c 0⟩
def SEG_STORE_STATUS.RSV_COUNT : Fld := ⟨210, .SEG_STORE_STATUS, 20, 4, .rc, .c 0⟩
def SEG_STORE_STATUS.UE_PLAY : Fld := ⟨211, .SEG_STORE_STATUS, 24, 1, .w1c, .c 0⟩
def SEG_STORE_STATUS.UE_WRITE : Fld := ⟨212, .SEG_STORE_STATUS, 25, 1, .w1c, .c 0⟩
def SEG_STORE_STATUS.RSV_CODE : Fld := ⟨213, .SEG_STORE_STATUS, 26, 1, .w1c, .c 0⟩
def SEG_STORE_STATUS.CTLW_OVERRUN : Fld := ⟨214, .SEG_STORE_STATUS, 27, 1, .w1c, .c 0⟩
def SEG_STORE_ERRADDR.ROW : Fld := ⟨215, .SEG_STORE_ERRADDR, 0, 19, .ro, .c 0⟩
def SEG_STORE_ERRADDR.WORD : Fld := ⟨216, .SEG_STORE_ERRADDR, 19, 3, .ro, .c 0⟩
def SEG_STORE_ERRADDR.SOURCE : Fld := ⟨217, .SEG_STORE_ERRADDR, 22, 2, .ro, .c 0⟩
def SEQ_CTL.VEC_EN : Fld := ⟨218, .SEQ_CTL, 0, 1, .rw, .c 0⟩
def SEQ_CTL.MIN_GROUP : Fld := ⟨219, .SEQ_CTL, 8, 8, .rw, .c 0⟩
def SEQ_CTL.FLASH_EXEC : Fld := ⟨220, .SEQ_CTL, 16, 1, .rw, .c 0⟩
def SEQ_ENTRY.ENTRY : Fld := ⟨221, .SEQ_ENTRY, 0, 14, .rw, .c 0⟩
def SEQ_STATUS.STATE : Fld := ⟨222, .SEQ_STATUS, 0, 2, .ro, .c 0⟩
def SEQ_STATUS.DEPTH : Fld := ⟨223, .SEQ_STATUS, 2, 3, .ro, .c 0⟩
def SEQ_STATUS.IN_HANDLER : Fld := ⟨224, .SEQ_STATUS, 5, 1, .ro, .c 0⟩
def SEQ_STATUS.LEVEL : Fld := ⟨225, .SEQ_STATUS, 6, 8, .ro, .c 0⟩
def SEQ_STATUS.IN_FLIGHT : Fld := ⟨226, .SEQ_STATUS, 14, 1, .ro, .c 0⟩
def SEQ_STATUS.ATOMIC : Fld := ⟨227, .SEQ_STATUS, 15, 1, .ro, .c 0⟩
def SEQ_STATUS.ATOMIC_RES : Fld := ⟨228, .SEQ_STATUS, 16, 8, .ro, .c 0⟩
def SEQ_STATUS.MEASURE_REFUSED : Fld := ⟨229, .SEQ_STATUS, 24, 1, .w1c, .c 0⟩
def SEQ_STATUS.NANO_MERGE : Fld := ⟨230, .SEQ_STATUS, 25, 1, .w1c, .c 0⟩
def SEQ_PC.PC : Fld := ⟨231, .SEQ_PC, 0, 14, .ro, .c 0⟩
def SEQ_LOAD.CHECK : Fld := ⟨232, .SEQ_LOAD, 0, 1, .wo, .c 0⟩
def SEQ_LOAD.SCRUB : Fld := ⟨233, .SEQ_LOAD, 1, 1, .wo, .c 0⟩
def SEQ_LOAD.STATUS : Fld := ⟨234, .SEQ_LOAD, 2, 2, .ro, .c 0⟩
def SEQ_LOAD.VALID : Fld := ⟨235, .SEQ_LOAD, 4, 1, .ro, .c 0⟩
def SEQ_LOAD.WHERE : Fld := ⟨236, .SEQ_LOAD, 5, 2, .ro, .c 0⟩
def SEQ_LOAD.REASON : Fld := ⟨237, .SEQ_LOAD, 8, 8, .ro, .c 0⟩
def SEQ_LOAD.DETAIL : Fld := ⟨238, .SEQ_LOAD, 16, 16, .ro, .c 0⟩
def SEQ_NANO_PAGE.PAGE : Fld := ⟨239, .SEQ_NANO_PAGE, 0, 3, .rw, .c 0⟩
def SEQ_MC.CAUSE : Fld := ⟨240, .SEQ_MC, 0, 4, .ro, .c 0⟩
def SEQ_MC.RELOAD_PENDING : Fld := ⟨241, .SEQ_MC, 4, 1, .ro, .c 0⟩
def SEQ_MC.ADDR : Fld := ⟨242, .SEQ_MC, 8, 14, .ro, .c 0⟩
def SEQ_MC_INFO.INFO : Fld := ⟨243, .SEQ_MC_INFO, 0, 32, .ro, .c 0⟩
def SEQ_SITE_SEL.SITE : Fld := ⟨244, .SEQ_SITE_SEL, 0, 32, .rw, .c 0⟩
def SEQ_START.SEG : Fld := ⟨245, .SEQ_START, 0, 11, .rw, .c 0⟩
def HK_SEQ_FLASH_BASE.WORD : Fld := ⟨246, .HK_SEQ_FLASH_BASE, 0, 26, .rw, .c 0⟩
def SEG_RING_CFG.SLOT_SIZE : Fld := ⟨247, .SEG_RING_CFG, 0, 11, .rw, .c 1⟩
def SEG_RING_CFG.LOW_WATER : Fld := ⟨248, .SEG_RING_CFG, 16, 8, .rw, .c 0⟩
def SEG_RING_CTL.RESET : Fld := ⟨249, .SEG_RING_CTL, 0, 1, .wo, .c 0⟩
def SEG_RING_STATUS.NEXT_TAG : Fld := ⟨250, .SEG_RING_STATUS, 0, 16, .ro, .c 0⟩
def SEG_RING_STATUS.NEXT_SLOT : Fld := ⟨251, .SEG_RING_STATUS, 16, 8, .ro, .c 0⟩
def SEG_RING_FILL.SLOT_COUNT : Fld := ⟨252, .SEG_RING_FILL, 0, 9, .ro, .c 0⟩
def SEG_RING_FILL.READY_COUNT : Fld := ⟨253, .SEG_RING_FILL, 16, 9, .ro, .c 0⟩
def SEG_JUMP.TARGET : Fld := ⟨254, .SEG_JUMP, 0, 11, .rw, .c 0⟩
def SEG_JUMP.FLUSH : Fld := ⟨255, .SEG_JUMP, 11, 1, .rw, .c 0⟩
def SEG_JUMP.GO : Fld := ⟨256, .SEG_JUMP, 12, 1, .wo, .c 0⟩
def SEG_JUMP.PENDING : Fld := ⟨257, .SEG_JUMP, 13, 1, .ro, .c 0⟩
def SEG_JUMP.REFUSED : Fld := ⟨258, .SEG_JUMP, 14, 1, .w1c, .c 0⟩
def SEG_JUMP.SRC_EN : Fld := ⟨259, .SEG_JUMP, 15, 1, .rw, .c 0⟩
def SEG_JUMP.SRC : Fld := ⟨260, .SEG_JUMP, 16, 6, .rw, .c 0⟩
def SEG_STATUS.CUR_SEG : Fld := ⟨261, .SEG_STATUS, 0, 11, .ro, .c 0⟩
def SEG_STATUS.PHASE : Fld := ⟨262, .SEG_STATUS, 12, 2, .ro, .c 0⟩
def SEG_STATUS.QUEUE_COUNT : Fld := ⟨263, .SEG_STATUS, 14, 3, .ro, .c 0⟩
def SEG_STATUS.COMMITTED : Fld := ⟨264, .SEG_STATUS, 17, 1, .ro, .c 0⟩
def SEG_STATUS.SUCC_SEG : Fld := ⟨265, .SEG_STATUS, 18, 11, .ro, .c 0⟩
def SEG_STATUS.MATCH : Fld := ⟨266, .SEG_STATUS, 29, 1, .ro, .c 0⟩
def SEG_STATUS.ABORTED : Fld := ⟨267, .SEG_STATUS, 30, 1, .w1c, .c 0⟩
def SEG_STATUS.TAG_ERROR : Fld := ⟨268, .SEG_STATUS, 31, 1, .w1c, .c 0⟩
def SEG_ITER.PASS : Fld := ⟨269, .SEG_ITER, 0, 20, .ro, .c 0⟩
def SEG_CHECK.CAUSE : Fld := ⟨270, .SEG_CHECK, 0, 4, .ro, .c 0⟩
def SEG_COUNT.STARVE : Fld := ⟨271, .SEG_COUNT, 0, 16, .rc, .c 0⟩
def SEG_COUNT.JUMP_LATE : Fld := ⟨272, .SEG_COUNT, 16, 16, .rc, .c 0⟩
def SEG_COUNT2.UNDERRUN : Fld := ⟨273, .SEG_COUNT2, 0, 16, .rc, .c 0⟩
def SEG_COUNT2.TAG_ERRORS : Fld := ⟨274, .SEG_COUNT2, 16, 8, .rc, .c 0⟩
def SEG_COUNT2.MATCH_TIMEOUT : Fld := ⟨275, .SEG_COUNT2, 24, 8, .rc, .c 0⟩
def SEG_HOLD_VECTORS.HOLD_VECTORS : Fld := ⟨276, .SEG_HOLD_VECTORS, 0, 32, .rc, .c 0⟩
def SEG_GROUP_WAIT.GROUP_WAIT : Fld := ⟨277, .SEG_GROUP_WAIT, 0, 32, .rc, .c 0⟩
def SEG_SLOT.TAG : Fld := ⟨278, .SEG_SLOT, 0, 16, .rw, .c 0⟩
def SEG_SLOT.READY : Fld := ⟨279, .SEG_SLOT, 16, 1, .rw, .c 0⟩
def SEG_SLOT.LAST : Fld := ⟨280, .SEG_SLOT, 17, 1, .rw, .c 0⟩
def SEG_SLOT.PLAYING : Fld := ⟨281, .SEG_SLOT, 18, 1, .ro, .c 0⟩
def CMP_CTL.CLEAR_ALL : Fld := ⟨282, .CMP_CTL, 0, 1, .wo, .c 0⟩
def CMP_STATUS.TILE_FAIL : Fld := ⟨283, .CMP_STATUS, 0, 1, .w1c, .c 0⟩
def CMP_STATUS.UNSETTLED_CMP : Fld := ⟨284, .CMP_STATUS, 1, 1, .w1c, .c 0⟩
def CMP_CYCLE_LO.CYCLE_LO : Fld := ⟨285, .CMP_CYCLE_LO, 0, 32, .rsn, .c 0⟩
def CMP_CYCLE_HI.CYCLE_HI : Fld := ⟨286, .CMP_CYCLE_HI, 0, 16, .rsn, .c 0⟩
def CMP_TILE_FAILS.FAILS : Fld := ⟨287, .CMP_TILE_FAILS, 0, 32, .rc, .c 0⟩
def CMP_LOG_CTL.MODE : Fld := ⟨288, .CMP_LOG_CTL, 0, 2, .rw, .c 0⟩
def CMP_LOG_CTL.ARM : Fld := ⟨289, .CMP_LOG_CTL, 2, 1, .wo, .c 0⟩
def CMP_LOG_CTL.DISARM : Fld := ⟨290, .CMP_LOG_CTL, 3, 1, .wo, .c 0⟩
def CMP_LOG_CTL.ARMED : Fld := ⟨291, .CMP_LOG_CTL, 4, 1, .ro, .c 0⟩
def CMP_LOG_AREA.BASE : Fld := ⟨292, .CMP_LOG_AREA, 0, 10, .rw, .capture 0⟩
def CMP_LOG_AREA.BLOCKS : Fld := ⟨293, .CMP_LOG_AREA, 16, 10, .rw, .c 16⟩
def CMP_LOG_STATUS.WPTR : Fld := ⟨294, .CMP_LOG_STATUS, 0, 21, .ro, .c 0⟩
def CMP_LOG_STATUS.FULL : Fld := ⟨295, .CMP_LOG_STATUS, 21, 1, .ro, .c 0⟩
def CMP_LOG_STATUS.AREA_REFUSED : Fld := ⟨296, .CMP_LOG_STATUS, 22, 1, .w1c, .c 0⟩
def CMP_LOG_LOST.LOST : Fld := ⟨297, .CMP_LOG_LOST, 0, 32, .rc, .c 0⟩
def CMP_LANE_FAIL.FAILS : Fld := ⟨298, .CMP_LANE_FAIL, 0, 32, .rc, .c 0⟩
def CMP_SITE_CTL.MASK_ON_FIRST : Fld := ⟨299, .CMP_SITE_CTL, 0, 1, .rw, .c 0⟩
def CMP_SITE_CTL.CMP_OFF : Fld := ⟨300, .CMP_SITE_CTL, 1, 1, .rw, .c 0⟩
def CMP_SITE_CTL.LOG_EN : Fld := ⟨301, .CMP_SITE_CTL, 2, 1, .rw, .c 1⟩
def CMP_SITE_CTL.CLEAR_FAIL : Fld := ⟨302, .CMP_SITE_CTL, 3, 1, .wo, .c 0⟩
def CMP_SITE_CTL.CLEAR_TB : Fld := ⟨303, .CMP_SITE_CTL, 4, 1, .wo, .c 0⟩
def CMP_SITE_STATUS.SITE : Fld := ⟨304, .CMP_SITE_STATUS, 0, 8, .ro, .c 0⟩
def CMP_SITE_STATUS.VALID : Fld := ⟨305, .CMP_SITE_STATUS, 8, 1, .ro, .c 0⟩
def CMP_SITE_STATUS.FAIL : Fld := ⟨306, .CMP_SITE_STATUS, 9, 1, .ro, .c 0⟩
def CMP_SITE_STATUS.TIMING_BROKEN : Fld := ⟨307, .CMP_SITE_STATUS, 10, 1, .ro, .c 0⟩
def CMP_SITE_STATUS.MASKED_FIRST : Fld := ⟨308, .CMP_SITE_STATUS, 11, 1, .ro, .c 0⟩
def CMP_SITE_FF_LO.FF_CYCLE_LO : Fld := ⟨309, .CMP_SITE_FF_LO, 0, 32, .rsn, .c 0⟩
def CMP_SITE_FF_HI.FF_CYCLE_HI : Fld := ⟨310, .CMP_SITE_FF_HI, 0, 16, .rsn, .c 0⟩
def CMP_SITE_FF_HI.FF_TILE : Fld := ⟨311, .CMP_SITE_FF_HI, 16, 4, .rsn, .c 0⟩
def CMP_SITE_FF_VA.VA_SEG : Fld := ⟨312, .CMP_SITE_FF_VA, 0, 32, .ro, .c 0⟩
def CMP_SITE_FF_INFO.PASS_SLOT : Fld := ⟨313, .CMP_SITE_FF_INFO, 0, 28, .ro, .c 0⟩
def CMP_SITE_FAILV.FAIL_VECTORS : Fld := ⟨314, .CMP_SITE_FAILV, 0, 32, .rc, .c 0⟩
def DPS_CTL.OUT_EN : Fld := ⟨315, .DPS_CTL, 0, 1, .rw, .c 1⟩
def DPS_CTL.IRANGE : Fld := ⟨316, .DPS_CTL, 1, 2, .rw, .c 0⟩
def DPS_CTL.FORCE_LOCAL : Fld := ⟨317, .DPS_CTL, 3, 1, .rw, .c 0⟩
def DPS_LIMIT.ILIM : Fld := ⟨318, .DPS_LIMIT, 0, 10, .rw, .c 1023⟩
def DPS_LIMIT.ACTION : Fld := ⟨319, .DPS_LIMIT, 10, 2, .rw, .c 0⟩
def DPS_LIMIT.DELAY : Fld := ⟨320, .DPS_LIMIT, 12, 8, .rw, .c 10⟩
def DPS_STATUS.IN_LIMIT : Fld := ⟨321, .DPS_STATUS, 0, 1, .ro, .c 0⟩
def DPS_STATUS.LIMIT_HIT : Fld := ⟨322, .DPS_STATUS, 1, 1, .w1c, .c 0⟩
def DPS_STATUS.FOLDED : Fld := ⟨323, .DPS_STATUS, 2, 1, .w1c, .c 0⟩
def DPS_STATUS.TRIPPED : Fld := ⟨324, .DPS_STATUS, 3, 1, .w1c, .c 0⟩
def DPS_STATUS.HW_TRIP : Fld := ⟨325, .DPS_STATUS, 4, 1, .w1c, .c 0⟩
def DPS_STATUS.SENSE_FAULT : Fld := ⟨326, .DPS_STATUS, 5, 1, .w1c, .c 0⟩
def DPS_STATUS.LOCAL_SENSE : Fld := ⟨327, .DPS_STATUS, 6, 1, .ro, .c 0⟩
def DPS_STATUS.SUPPLY_LOSS : Fld := ⟨328, .DPS_STATUS, 7, 1, .w1c, .c 0⟩
def DPS_STATUS.MON_I_LATCH : Fld := ⟨329, .DPS_STATUS, 8, 1, .w1c, .c 0⟩
def DPS_STATUS.MON_V_LATCH : Fld := ⟨330, .DPS_STATUS, 9, 1, .w1c, .c 0⟩
def DPS_STATUS.MON_I_UNSETTLED : Fld := ⟨331, .DPS_STATUS, 10, 1, .ro, .c 0⟩
def DPS_STATUS.MON_V_UNSETTLED : Fld := ⟨332, .DPS_STATUS, 11, 1, .ro, .c 0⟩
def DPS_STATUS.CONNECTED : Fld := ⟨333, .DPS_STATUS, 12, 1, .ro, .c 0⟩
def DPS_STATUS.MON_OPENED : Fld := ⟨334, .DPS_STATUS, 13, 1, .w1c, .c 0⟩
def DPS_STATUS.QUAD_PWR : Fld := ⟨335, .DPS_STATUS, 14, 1, .ro, .c 0⟩
def DPS_STATUS.FAULT_MEMBER : Fld := ⟨336, .DPS_STATUS, 16, 3, .ro, .c 0⟩
def DPS_MEAS_I.CODE : Fld := ⟨337, .DPS_MEAS_I, 0, 16, .ro, .c 0⟩
def DPS_MEAS_I.SUSPECT : Fld := ⟨338, .DPS_MEAS_I, 16, 1, .ro, .c 0⟩
def DPS_MEAS_I.GANG : Fld := ⟨339, .DPS_MEAS_I, 17, 1, .ro, .c 0⟩
def DPS_MEAS_V.CODE : Fld := ⟨340, .DPS_MEAS_V, 0, 16, .ro, .c 0⟩
def DPS_MEAS_V.SUSPECT : Fld := ⟨341, .DPS_MEAS_V, 16, 1, .ro, .c 0⟩
def DPS_MON_I_CTL.EN : Fld := ⟨342, .DPS_MON_I_CTL, 0, 1, .rw, .c 0⟩
def DPS_MON_I_CTL.COND : Fld := ⟨343, .DPS_MON_I_CTL, 1, 1, .rw, .c 0⟩
def DPS_MON_I_CTL.LATCH_MODE : Fld := ⟨344, .DPS_MON_I_CTL, 2, 1, .rw, .c 0⟩
def DPS_MON_I_CTL.CLR_MODE : Fld := ⟨345, .DPS_MON_I_CTL, 3, 2, .rw, .c 0⟩
def DPS_MON_I_CTL.FILTER : Fld := ⟨346, .DPS_MON_I_CTL, 5, 4, .rw, .c 0⟩
def DPS_MON_I_CTL.HYST : Fld := ⟨347, .DPS_MON_I_CTL, 9, 2, .rw, .c 1⟩
def DPS_MON_I_CTL.ACTION : Fld := ⟨348, .DPS_MON_I_CTL, 11, 1, .rw, .c 0⟩
def DPS_MON_I_THR.HI : Fld := ⟨349, .DPS_MON_I_THR, 0, 10, .rw, .c 1023⟩
def DPS_MON_I_THR.LO : Fld := ⟨350, .DPS_MON_I_THR, 16, 10, .rw, .c 0⟩
def DPS_MON_V_CTL.EN : Fld := ⟨351, .DPS_MON_V_CTL, 0, 1, .rw, .c 0⟩
def DPS_MON_V_CTL.COND : Fld := ⟨352, .DPS_MON_V_CTL, 1, 1, .rw, .c 0⟩
def DPS_MON_V_CTL.LATCH_MODE : Fld := ⟨353, .DPS_MON_V_CTL, 2, 1, .rw, .c 0⟩
def DPS_MON_V_CTL.CLR_MODE : Fld := ⟨354, .DPS_MON_V_CTL, 3, 2, .rw, .c 0⟩
def DPS_MON_V_CTL.FILTER : Fld := ⟨355, .DPS_MON_V_CTL, 5, 4, .rw, .c 0⟩
def DPS_MON_V_CTL.HYST : Fld := ⟨356, .DPS_MON_V_CTL, 9, 2, .rw, .c 1⟩
def DPS_MON_V_CTL.ACTION : Fld := ⟨357, .DPS_MON_V_CTL, 11, 1, .rw, .c 0⟩
def DPS_MON_V_THR.HI : Fld := ⟨358, .DPS_MON_V_THR, 0, 10, .rw, .c 1023⟩
def DPS_MON_V_THR.LO : Fld := ⟨359, .DPS_MON_V_THR, 16, 10, .rw, .c 0⟩
def DPS_GANG.LEADER : Fld := ⟨360, .DPS_GANG, 0, 6, .ro, .c 63⟩
def DPS_GANG.MEMBERS : Fld := ⟨361, .DPS_GANG, 8, 8, .ro, .c 0⟩
def DPS_GANG.GANG_DEGRADED : Fld := ⟨362, .DPS_GANG, 16, 1, .ro, .c 0⟩
def DPS_SPARE_STATUS.CHANNEL : Fld := ⟨363, .DPS_SPARE_STATUS, 0, 5, .ro, .c 31⟩
def DPS_SPARE_STATUS.ASSIGNED : Fld := ⟨364, .DPS_SPARE_STATUS, 5, 1, .ro, .c 0⟩
def DPS_SPARE_STATUS.AVAILABLE : Fld := ⟨365, .DPS_SPARE_STATUS, 6, 1, .ro, .c 1⟩
def RED_STATUS.PIPES_ACTIVE : Fld := ⟨366, .RED_STATUS, 0, 3, .ro, .c 4⟩
def RED_STATUS.SPARE_IN_USE : Fld := ⟨367, .RED_STATUS, 3, 1, .ro, .c 0⟩
def RED_DROP_ADC.DROPS : Fld := ⟨368, .RED_DROP_ADC, 0, 32, .rc, .c 0⟩
def RED_DROP_SMU.DROPS : Fld := ⟨369, .RED_DROP_SMU, 0, 32, .rc, .c 0⟩
def RED_DROP_TDC.DROPS : Fld := ⟨370, .RED_DROP_TDC, 0, 32, .rc, .c 0⟩
def RED_NOT_OPEN.COUNT : Fld := ⟨371, .RED_NOT_OPEN, 0, 32, .rc, .c 0⟩
def RED_CMD.CTX : Fld := ⟨372, .RED_CMD, 0, 14, .wo, .c 0⟩
def RED_CMD.OP : Fld := ⟨373, .RED_CMD, 14, 2, .wo, .c 0⟩
def RED_CMD.REFUSED : Fld := ⟨374, .RED_CMD, 16, 1, .w1c, .c 0⟩
def RED_CTX_PAGE.GROUP : Fld := ⟨375, .RED_CTX_PAGE, 0, 6, .rw, .c 0⟩
def TDC_CFG.MODE : Fld := ⟨376, .TDC_CFG, 0, 2, .rw, .c 0⟩
def TDC_CFG.CONT : Fld := ⟨377, .TDC_CFG, 2, 1, .rw, .c 0⟩
def TDC_CFG.START_SRC : Fld := ⟨378, .TDC_CFG, 3, 8, .rw, .c 0⟩
def TDC_CFG.START_EDGE : Fld := ⟨379, .TDC_CFG, 11, 1, .rw, .c 0⟩
def TDC_CFG.STOP_SRC : Fld := ⟨380, .TDC_CFG, 12, 8, .rw, .c 0⟩
def TDC_CFG.STOP_EDGE : Fld := ⟨381, .TDC_CFG, 20, 1, .rw, .c 0⟩
def TDC_CFG.DEST : Fld := ⟨382, .TDC_CFG, 22, 2, .rw, .c 0⟩
def TDC_CTX.CTX : Fld := ⟨383, .TDC_CTX, 0, 14, .rw, .c 0⟩
def TDC_GATE.GATE : Fld := ⟨384, .TDC_GATE, 0, 24, .rw, .c 1000⟩
def TDC_CTL.ARM : Fld := ⟨385, .TDC_CTL, 0, 1, .wo, .c 0⟩
def TDC_CTL.DISARM : Fld := ⟨386, .TDC_CTL, 1, 1, .wo, .c 0⟩
def TDC_CTL.ARMED : Fld := ⟨387, .TDC_CTL, 2, 1, .ro, .c 0⟩
def TDC_CTL.STARTED : Fld := ⟨388, .TDC_CTL, 3, 1, .ro, .c 0⟩
def TDC_CTL.FIFO_COUNT : Fld := ⟨389, .TDC_CTL, 4, 5, .ro, .c 0⟩
def TDC_COUNT.EARLY_STOP : Fld := ⟨390, .TDC_COUNT, 0, 8, .rc, .c 0⟩
def TDC_COUNT.RESTART : Fld := ⟨391, .TDC_COUNT, 8, 8, .rc, .c 0⟩
def TDC_COUNT.LOST : Fld := ⟨392, .TDC_COUNT, 16, 16, .rc, .c 0⟩
def TDC_RES_LO.VALUE_LO : Fld := ⟨393, .TDC_RES_LO, 0, 32, .ro, .c 0⟩
def TDC_RES_HI.VALUE_HI : Fld := ⟨394, .TDC_RES_HI, 0, 16, .ro, .c 0⟩
def TDC_RES_HI.SUB_BIN : Fld := ⟨395, .TDC_RES_HI, 16, 1, .ro, .c 0⟩
def TDC_RES_HI.UNREFERENCED : Fld := ⟨396, .TDC_RES_HI, 17, 1, .ro, .c 0⟩
def TDC_RES_HI.UNCAL : Fld := ⟨397, .TDC_RES_HI, 18, 1, .ro, .c 0⟩
def TDC_RES_HI.OVERRANGE : Fld := ⟨398, .TDC_RES_HI, 19, 1, .ro, .c 0⟩
def TDC_RES_HI.FEW_EDGES : Fld := ⟨399, .TDC_RES_HI, 20, 1, .ro, .c 0⟩
def TDC_RES_HI.MODE : Fld := ⟨400, .TDC_RES_HI, 21, 2, .ro, .c 0⟩
def TDC_RES_HI.VALID : Fld := ⟨401, .TDC_RES_HI, 31, 1, .ro, .c 0⟩
def TDC_RES_COUNT.COUNT : Fld := ⟨402, .TDC_RES_COUNT, 0, 24, .ro, .c 0⟩
def TDC_RES_TIME_LO.TIME_LO : Fld := ⟨403, .TDC_RES_TIME_LO, 0, 32, .ro, .c 0⟩
def TDC_RES_TIME_HI.TIME_HI : Fld := ⟨404, .TDC_RES_TIME_HI, 0, 32, .ro, .c 0⟩
def TDC_SPARE_STATUS.REPLACED : Fld := ⟨405, .TDC_SPARE_STATUS, 0, 6, .ro, .c 63⟩
def TDC_SPARE_STATUS.ASSIGNED : Fld := ⟨406, .TDC_SPARE_STATUS, 6, 1, .ro, .c 0⟩
def TDC_SPARE_STATUS.AVAILABLE : Fld := ⟨407, .TDC_SPARE_STATUS, 7, 1, .ro, .c 1⟩
def ACQ_CTL.ARM : Fld := ⟨408, .ACQ_CTL, 0, 1, .wo, .c 0⟩
def ACQ_CTL.DISARM : Fld := ⟨409, .ACQ_CTL, 1, 1, .wo, .c 0⟩
def ACQ_CTL.FORCE : Fld := ⟨410, .ACQ_CTL, 2, 1, .wo, .c 0⟩
def ACQ_CTL.REARM : Fld := ⟨411, .ACQ_CTL, 3, 1, .rw, .c 0⟩
def ACQ_CTL.STATE : Fld := ⟨412, .ACQ_CTL, 4, 3, .ro, .c 0⟩
def ACQ_CTL.ARM_REFUSED : Fld := ⟨413, .ACQ_CTL, 7, 1, .w1c, .c 0⟩
def ACQ_CTL.ARM_CAUSE : Fld := ⟨414, .ACQ_CTL, 8, 3, .ro, .c 0⟩
def ACQ_SRC.KIND : Fld := ⟨415, .ACQ_SRC, 0, 3, .rw, .c 0⟩
def ACQ_SRC.SEL : Fld := ⟨416, .ACQ_SRC, 3, 3, .rw, .c 0⟩
def ACQ_SRC.FILT_EN : Fld := ⟨417, .ACQ_SRC, 6, 1, .rw, .c 0⟩
def ACQ_SRC.FILT_VAL : Fld := ⟨418, .ACQ_SRC, 7, 3, .rw, .c 0⟩
def ACQ_CFG.REDS : Fld := ⟨419, .ACQ_CFG, 0, 4, .rw, .c 1⟩
def ACQ_CFG.COMBINE : Fld := ⟨420, .ACQ_CFG, 4, 1, .rw, .c 0⟩
def ACQ_CFG.DEC : Fld := ⟨421, .ACQ_CFG, 16, 16, .rw, .c 1⟩
def ACQ_PRE.PRE : Fld := ⟨422, .ACQ_PRE, 0, 13, .rw, .c 0⟩
def ACQ_POST.POST : Fld := ⟨423, .ACQ_POST, 0, 24, .rw, .c 1024⟩
def ACQ_AUTO.AUTO_TIMEOUT : Fld := ⟨424, .ACQ_AUTO, 0, 24, .rw, .c 0⟩
def ACQ_AREA.BASE : Fld := ⟨425, .ACQ_AREA, 0, 10, .rw, .capture 16⟩
def ACQ_AREA.BLOCKS : Fld := ⟨426, .ACQ_AREA, 16, 10, .rw, .c 32⟩
def ACQ_FRAME.UNITS : Fld := ⟨427, .ACQ_FRAME, 0, 24, .ro, .c 0⟩
def ACQ_RING.SLOTS : Fld := ⟨428, .ACQ_RING, 0, 16, .ro, .c 0⟩
def ACQ_WPTR.WPTR : Fld := ⟨429, .ACQ_WPTR, 0, 16, .ro, .c 0⟩
def ACQ_RPTR.RPTR : Fld := ⟨430, .ACQ_RPTR, 0, 16, .rw, .c 0⟩
def ACQ_COUNT.MISSED : Fld := ⟨431, .ACQ_COUNT, 0, 16, .rc, .c 0⟩
def ACQ_COUNT.FRAMES : Fld := ⟨432, .ACQ_COUNT, 16, 16, .rc, .c 0⟩
def ACQ_FO_LO.LO : Fld := ⟨433, .ACQ_FO_LO, 0, 32, .rw, .c 2147483648⟩
def ACQ_FO_HI.HI : Fld := ⟨434, .ACQ_FO_HI, 0, 32, .rw, .c 2147483647⟩
def ACQ_COND_CTL.EN : Fld := ⟨435, .ACQ_COND_CTL, 0, 1, .rw, .c 0⟩
def ACQ_COND_CTL.TYPE : Fld := ⟨436, .ACQ_COND_CTL, 1, 3, .rw, .c 0⟩
def ACQ_COND_CTL.DIR : Fld := ⟨437, .ACQ_COND_CTL, 4, 2, .rw, .c 0⟩
def ACQ_COND_CTL.SEL : Fld := ⟨438, .ACQ_COND_CTL, 8, 2, .rw, .c 0⟩
def ACQ_COND_A.A : Fld := ⟨439, .ACQ_COND_A, 0, 32, .rw, .c 0⟩
def ACQ_COND_B.B : Fld := ⟨440, .ACQ_COND_B, 0, 32, .rw, .c 0⟩
def DEV_PRIO.SPLIT : Fld := ⟨441, .DEV_PRIO, 0, 3, .rwl, .c 0⟩
def EVH_STATUS.ROUTE_REFUSED : Fld := ⟨442, .EVH_STATUS, 0, 1, .w1c, .c 0⟩
def EVH_PEND.PEND : Fld := ⟨443, .EVH_PEND, 0, 32, .ro, .c 0⟩
def EVH_HOLDOFF.PERIOD : Fld := ⟨444, .EVH_HOLDOFF, 0, 16, .rw, .c 0⟩
def EVH_HOLDOFF.RUNNING : Fld := ⟨445, .EVH_HOLDOFF, 16, 1, .ro, .c 0⟩
def EVH_SRC_CFG.ENABLE : Fld := ⟨446, .EVH_SRC_CFG, 0, 1, .rw, .evEnable⟩
def EVH_SRC_CFG.PRIORITY : Fld := ⟨447, .EVH_SRC_CFG, 8, 8, .rw, .c 0⟩
def EVH_SRC_CFG.TARGET : Fld := ⟨448, .EVH_SRC_CFG, 16, 8, .rw, .evTarget⟩
def EVH_SRC_CFG.HOLDOFF_GROUP : Fld := ⟨449, .EVH_SRC_CFG, 24, 6, .rw, .c 0⟩
def EVH_SRC_STATUS.PENDING : Fld := ⟨450, .EVH_SRC_STATUS, 0, 1, .ro, .c 0⟩
def EVH_SRC_STATUS.CLAIMED : Fld := ⟨451, .EVH_SRC_STATUS, 1, 1, .ro, .c 0⟩
def EVH_SRC_STATUS.LIVE : Fld := ⟨452, .EVH_SRC_STATUS, 2, 1, .ro, .c 0⟩
def EVH_SRC_STATUS.KIND : Fld := ⟨453, .EVH_SRC_STATUS, 3, 1, .ro, .c 0⟩
def EVH_SRC_STATUS.LEVEL_AT_CLAIM : Fld := ⟨454, .EVH_SRC_STATUS, 4, 1, .ro, .c 0⟩
def EVH_SRC_STATUS.COUNT_SAT : Fld := ⟨455, .EVH_SRC_STATUS, 5, 1, .ro, .c 0⟩
def EVH_SRC_STATUS.COUNT : Fld := ⟨456, .EVH_SRC_STATUS, 8, 8, .ro, .c 0⟩
def EVH_SRC_STATUS.SET : Fld := ⟨457, .EVH_SRC_STATUS, 16, 1, .wo, .c 0⟩
def EVH_SRC_STATUS.CLEAR : Fld := ⟨458, .EVH_SRC_STATUS, 17, 1, .wo, .c 0⟩
def TIME_ADJ_LO.ADJ_LO : Fld := ⟨459, .TIME_ADJ_LO, 0, 32, .rw, .c 0⟩
def TIME_ADJ_HI.ADJ_HI : Fld := ⟨460, .TIME_ADJ_HI, 0, 8, .rw, .c 2⟩
def TIME_ADJ_TICKS.TICKS : Fld := ⟨461, .TIME_ADJ_TICKS, 0, 32, .rw, .c 0⟩
def TIME_STEP_NS.NS : Fld := ⟨462, .TIME_STEP_NS, 0, 30, .rw, .c 0⟩
def TIME_STEP_SEC_LO.SEC_LO : Fld := ⟨463, .TIME_STEP_SEC_LO, 0, 32, .rw, .c 0⟩
def TIME_STEP_SEC_HI.SEC_HI : Fld := ⟨464, .TIME_STEP_SEC_HI, 0, 16, .rw, .c 0⟩
def TIME_STEP_SEC_HI.NEG : Fld := ⟨465, .TIME_STEP_SEC_HI, 31, 1, .rw, .c 0⟩
def TIME_STEP_CTL.GO : Fld := ⟨466, .TIME_STEP_CTL, 0, 1, .wo, .c 0⟩
def TIME_STEP_CTL.MODE : Fld := ⟨467, .TIME_STEP_CTL, 1, 1, .rw, .c 0⟩
def TIME_STEP_CTL.BUSY : Fld := ⟨468, .TIME_STEP_CTL, 2, 1, .ro, .c 0⟩
def TIME_STEP_CTL.REFUSED : Fld := ⟨469, .TIME_STEP_CTL, 3, 1, .w1c, .c 0⟩
def TIME_PORT_STATUS.MODE : Fld := ⟨470, .TIME_PORT_STATUS, 0, 2, .ro, .c 0⟩
def TIME_PORT_STATUS.LINK : Fld := ⟨471, .TIME_PORT_STATUS, 2, 1, .ro, .c 0⟩
def TIME_PORT_STATUS.TX_REFUSED : Fld := ⟨472, .TIME_PORT_STATUS, 3, 1, .w1c, .c 0⟩
def TIME_PORT_STATUS.TX_BUSY : Fld := ⟨473, .TIME_PORT_STATUS, 4, 4, .ro, .c 0⟩
def TIME_PORT_MAC_LO.MAC_LO : Fld := ⟨474, .TIME_PORT_MAC_LO, 0, 32, .rw, .c 0⟩
def TIME_PORT_MAC_HI.MAC_HI : Fld := ⟨475, .TIME_PORT_MAC_HI, 0, 16, .rw, .c 0⟩
def TIME_PORT_ING_LAT.ING_LAT : Fld := ⟨476, .TIME_PORT_ING_LAT, 0, 32, .rw, .c 0⟩
def TIME_PORT_EGR_LAT.EGR_LAT : Fld := ⟨477, .TIME_PORT_EGR_LAT, 0, 32, .rw, .c 0⟩
def TIME_PORT_ASYM.ASYM : Fld := ⟨478, .TIME_PORT_ASYM, 0, 32, .rw, .c 0⟩
def TIME_PORT_RX.HEAD : Fld := ⟨479, .TIME_PORT_RX, 0, 4, .ro, .c 0⟩
def TIME_PORT_RX.COUNT : Fld := ⟨480, .TIME_PORT_RX, 4, 5, .ro, .c 0⟩
def TIME_PORT_RX.POP : Fld := ⟨481, .TIME_PORT_RX, 16, 1, .wo, .c 0⟩
def TIME_PORT_TX.SLOT : Fld := ⟨482, .TIME_PORT_TX, 0, 2, .rw, .c 0⟩
def TIME_PORT_TX.ONE_STEP : Fld := ⟨483, .TIME_PORT_TX, 2, 2, .rw, .c 0⟩
def TIME_PORT_TX.STAMP : Fld := ⟨484, .TIME_PORT_TX, 4, 1, .rw, .c 0⟩
def TIME_PORT_TX.GO : Fld := ⟨485, .TIME_PORT_TX, 5, 1, .wo, .c 0⟩
def TIME_PORT_TX.TAG : Fld := ⟨486, .TIME_PORT_TX, 16, 16, .rw, .c 0⟩
def TX_STAMP_FRAC.FRAC : Fld := ⟨487, .TX_STAMP_FRAC, 0, 16, .ro, .c 0⟩
def TX_STAMP_FRAC.QUALITY : Fld := ⟨488, .TX_STAMP_FRAC, 16, 2, .ro, .c 0⟩
def TX_STAMP_FRAC.VALID : Fld := ⟨489, .TX_STAMP_FRAC, 31, 1, .ro, .c 0⟩
def TX_STAMP_NS.NS : Fld := ⟨490, .TX_STAMP_NS, 0, 30, .ro, .c 0⟩
def TX_STAMP_SEC_LO.SEC_LO : Fld := ⟨491, .TX_STAMP_SEC_LO, 0, 32, .ro, .c 0⟩
def TX_STAMP_SEC_HI.SEC_HI : Fld := ⟨492, .TX_STAMP_SEC_HI, 0, 16, .ro, .c 0⟩
def TX_STAMP_SEC_HI.TAG : Fld := ⟨493, .TX_STAMP_SEC_HI, 16, 16, .ro, .c 0⟩
def TIME_PORT_DROP.TYPE : Fld := ⟨494, .TIME_PORT_DROP, 0, 8, .rc, .c 0⟩
def TIME_PORT_DROP.ADDR : Fld := ⟨495, .TIME_PORT_DROP, 8, 8, .rc, .c 0⟩
def TIME_PORT_DROP.SIZE : Fld := ⟨496, .TIME_PORT_DROP, 16, 8, .rc, .c 0⟩
def TIME_PORT_DROP.FULL : Fld := ⟨497, .TIME_PORT_DROP, 24, 8, .rc, .c 0⟩
def TIME_PORT_ERR.FCS : Fld := ⟨498, .TIME_PORT_ERR, 0, 8, .rc, .c 0⟩
def TIME_PORT_ERR.TX_LOST : Fld := ⟨499, .TIME_PORT_ERR, 8, 8, .rc, .c 0⟩
def TEV_CFG.PERIODIC : Fld := ⟨500, .TEV_CFG, 0, 1, .rw, .c 0⟩
def TEV_CFG.POL : Fld := ⟨501, .TEV_CFG, 1, 1, .rw, .c 0⟩
def TEV_START_NS.NS : Fld := ⟨502, .TEV_START_NS, 0, 30, .rw, .c 0⟩
def TEV_START_SEC_LO.SEC_LO : Fld := ⟨503, .TEV_START_SEC_LO, 0, 32, .rw, .c 0⟩
def TEV_START_SEC_HI.SEC_HI : Fld := ⟨504, .TEV_START_SEC_HI, 0, 16, .rw, .c 0⟩
def TEV_START_FRAC.FRAC : Fld := ⟨505, .TEV_START_FRAC, 0, 16, .rw, .c 0⟩
def TEV_PERIOD_NS.NS : Fld := ⟨506, .TEV_PERIOD_NS, 0, 32, .rw, .c 0⟩
def TEV_PERIOD_FRAC.FRAC : Fld := ⟨507, .TEV_PERIOD_FRAC, 0, 16, .rw, .c 0⟩
def TEV_WIDTH.WIDTH : Fld := ⟨508, .TEV_WIDTH, 0, 24, .rw, .c 4⟩
def TEV_CTL.ARM : Fld := ⟨509, .TEV_CTL, 0, 1, .wo, .c 0⟩
def TEV_CTL.DISARM : Fld := ⟨510, .TEV_CTL, 1, 1, .wo, .c 0⟩
def TEV_CTL.ARMED : Fld := ⟨511, .TEV_CTL, 2, 1, .ro, .c 0⟩
def TEV_CTL.ARM_REFUSED : Fld := ⟨512, .TEV_CTL, 3, 1, .w1c, .c 0⟩
def TEV_CTL.CAUSE : Fld := ⟨513, .TEV_CTL, 4, 2, .ro, .c 0⟩
def TEV_CTL.LATE : Fld := ⟨514, .TEV_CTL, 6, 1, .w1c, .c 0⟩
def TEV_COUNT.FIRED : Fld := ⟨515, .TEV_COUNT, 0, 16, .rc, .c 0⟩
def TEV_COUNT.SKIPPED : Fld := ⟨516, .TEV_COUNT, 16, 16, .rc, .c 0⟩
def HOST_ID.SAGGAR : Fld := ⟨517, .HOST_ID, 0, 4, .ro, .c 0⟩
def HOST_ID.PORT : Fld := ⟨518, .HOST_ID, 4, 1, .ro, .c 0⟩
def HOST_ID.HALF : Fld := ⟨519, .HOST_ID, 5, 1, .ro, .c 0⟩
def HOST_ID.FUNCTION : Fld := ⟨520, .HOST_ID, 6, 4, .ro, .c 0⟩
def HOST_ID.BOUND : Fld := ⟨521, .HOST_ID, 10, 1, .ro, .c 0⟩
def HOST_LINK.SPEED : Fld := ⟨522, .HOST_LINK, 0, 3, .ro, .c 0⟩
def HOST_LINK.WIDTH : Fld := ⟨523, .HOST_LINK, 3, 5, .ro, .c 0⟩
def HOST_LINK.DEGRADED : Fld := ⟨524, .HOST_LINK, 8, 1, .ro, .c 0⟩
def HOST_REFUSE.COUNT : Fld := ⟨525, .HOST_REFUSE, 0, 16, .rc, .c 0⟩
def HOST_REFUSE_ADDR.OFFSET : Fld := ⟨526, .HOST_REFUSE_ADDR, 0, 25, .ro, .c 0⟩
def HOST_REFUSE_ADDR.BAR2 : Fld := ⟨527, .HOST_REFUSE_ADDR, 31, 1, .ro, .c 0⟩
def HOST_ERR.BAD_SIZE : Fld := ⟨528, .HOST_ERR, 0, 1, .w1c, .c 0⟩
def HOST_ERR.POISON_RX : Fld := ⟨529, .HOST_ERR, 1, 1, .w1c, .c 0⟩
def HOST_ERR.UR : Fld := ⟨530, .HOST_ERR, 2, 1, .w1c, .c 0⟩
def HOST_ERR.CPL_TIMEOUT : Fld := ⟨531, .HOST_ERR, 3, 1, .w1c, .c 0⟩
def HOST_ERR.POISON_TX : Fld := ⟨532, .HOST_ERR, 4, 1, .w1c, .c 0⟩
def SAG_START.TILE_MASK : Fld := ⟨533, .SAG_START, 0, 16, .rw, .c 0⟩
def SAG_START.AT_TEV : Fld := ⟨534, .SAG_START, 16, 1, .rw, .c 0⟩
def SAG_START.TEV : Fld := ⟨535, .SAG_START, 17, 2, .rw, .c 0⟩
def SAG_START.GO : Fld := ⟨536, .SAG_START, 19, 1, .wo, .c 0⟩
def SAG_START.ARMED : Fld := ⟨537, .SAG_START, 20, 1, .ro, .c 0⟩
def SAG_START.REFUSED : Fld := ⟨538, .SAG_START, 21, 1, .w1c, .c 0⟩
def SAG_START.CANCEL : Fld := ⟨539, .SAG_START, 22, 1, .wo, .c 0⟩
def SAG_TILES.TILES : Fld := ⟨540, .SAG_TILES, 0, 16, .ro, .c 0⟩
def SAG_ALLOT.INDEX : Fld := ⟨541, .SAG_ALLOT, 0, 10, .rw, .c 0⟩
def SAG_ALLOT.KIND : Fld := ⟨542, .SAG_ALLOT, 10, 1, .rw, .c 0⟩
def SAG_ALLOT.SAGGAR : Fld := ⟨543, .SAG_ALLOT, 12, 4, .rw, .c 0⟩
def SAG_ALLOT.OP : Fld := ⟨544, .SAG_ALLOT, 16, 2, .rw, .c 0⟩
def SAG_ALLOT.STATUS : Fld := ⟨545, .SAG_ALLOT, 18, 2, .ro, .c 0⟩
def SAG_ALLOT.CAUSE : Fld := ⟨546, .SAG_ALLOT, 20, 4, .ro, .c 0⟩
def SAG_QUOTA_A.CAPTURE_BLOCKS : Fld := ⟨547, .SAG_QUOTA_A, 0, 10, .rw, .c 0⟩
def SAG_QUOTA_A.CONTEXT_GROUPS : Fld := ⟨548, .SAG_QUOTA_A, 16, 7, .rw, .c 0⟩
def SAG_QUOTA_B.STREAM_SHARE : Fld := ⟨549, .SAG_QUOTA_B, 0, 9, .rw, .c 0⟩
def SAG_QUOTA_B.QUEUE_DEPTH_LOG2 : Fld := ⟨550, .SAG_QUOTA_B, 16, 5, .rw, .c 0⟩
def SAG_USE.BLOCKS : Fld := ⟨551, .SAG_USE, 0, 10, .ro, .c 0⟩
def SAG_USE.GROUPS : Fld := ⟨552, .SAG_USE, 16, 7, .ro, .c 0⟩
def SAG_OVER.CAPTURE : Fld := ⟨553, .SAG_OVER, 0, 1, .ro, .c 0⟩
def SAG_OVER.CONTEXT : Fld := ⟨554, .SAG_OVER, 1, 1, .ro, .c 0⟩
def SAG_OVER.QUEUE : Fld := ⟨555, .SAG_OVER, 2, 1, .ro, .c 0⟩
def SAG_OVER.QUOTA_REFUSED : Fld := ⟨556, .SAG_OVER, 3, 1, .w1c, .c 0⟩
def FLS_CMD.OPCODE : Fld := ⟨557, .FLS_CMD, 0, 8, .rw, .c 0⟩
def FLS_CMD.ADDR_BYTES : Fld := ⟨558, .FLS_CMD, 8, 3, .rw, .c 0⟩
def FLS_CMD.DUMMY : Fld := ⟨559, .FLS_CMD, 11, 4, .rw, .c 0⟩
def FLS_CMD.DATA_LEN : Fld := ⟨560, .FLS_CMD, 16, 9, .rw, .c 0⟩
def FLS_CMD.DIR : Fld := ⟨561, .FLS_CMD, 25, 1, .rw, .c 0⟩
def FLS_CMD.WREN : Fld := ⟨562, .FLS_CMD, 26, 1, .rw, .c 0⟩
def FLS_CMD.POLL : Fld := ⟨563, .FLS_CMD, 27, 1, .rw, .c 0⟩
def FLS_CMD.GO : Fld := ⟨564, .FLS_CMD, 28, 1, .wo, .c 0⟩
def FLS_CMD.STATUS : Fld := ⟨565, .FLS_CMD, 29, 2, .ro, .c 0⟩
def FLS_ADDR.ADDR : Fld := ⟨566, .FLS_ADDR, 0, 32, .rw, .c 0⟩
def FLS_LOCK.REQ : Fld := ⟨567, .FLS_LOCK, 0, 1, .wo, .c 0⟩
def FLS_LOCK.RELEASE : Fld := ⟨568, .FLS_LOCK, 1, 1, .wo, .c 0⟩
def FLS_LOCK.HOLDER : Fld := ⟨569, .FLS_LOCK, 2, 2, .ro, .c 0⟩
def FLS_LOCK.REFUSED : Fld := ⟨570, .FLS_LOCK, 4, 1, .w1c, .c 0⟩
def FLS_STATUS.BUSY : Fld := ⟨571, .FLS_STATUS, 0, 1, .ro, .c 0⟩
def FLS_STATUS.POLL_TIMEOUT : Fld := ⟨572, .FLS_STATUS, 1, 1, .w1c, .c 0⟩
def FLS_STATUS.RANGE : Fld := ⟨573, .FLS_STATUS, 2, 1, .w1c, .c 0⟩
def FLS_STATUS.WIN_WRITE_REFUSED : Fld := ⟨574, .FLS_STATUS, 3, 1, .w1c, .c 0⟩
def FLS_STATUS.WIN_BUSY_READ : Fld := ⟨575, .FLS_STATUS, 4, 1, .w1c, .c 0⟩
def FLS_STATUS.SIZE_MISMATCH : Fld := ⟨98, .FLS_STATUS, 5, 1, .ro, .c 0⟩
def FLS_STATUS.PRESENT : Fld := ⟨99, .FLS_STATUS, 6, 1, .ro, .c 0⟩
def FLS_STATUS.WIDE : Fld := ⟨100, .FLS_STATUS, 7, 1, .ro, .c 0⟩
def FLS_STATUS.LAST_SR : Fld := ⟨576, .FLS_STATUS, 8, 8, .ro, .c 0⟩
def FLS_CFG.DIV : Fld := ⟨577, .FLS_CFG, 0, 4, .rw, .c 0⟩
def FLS_CFG.POLL_LIMIT : Fld := ⟨578, .FLS_CFG, 8, 8, .rw, .c 255⟩
def FLS_WIN_PAGE.PAGE : Fld := ⟨579, .FLS_WIN_PAGE, 0, 13, .rw, .c 0⟩
def FLS_BUF.DATA : Fld := ⟨580, .FLS_BUF, 0, 32, .rw, .c 0⟩
def CAL_CTL.AUTO_EN : Fld := ⟨581, .CAL_CTL, 0, 1, .rw, .c 1⟩
def CAL_CTL.REQ : Fld := ⟨582, .CAL_CTL, 1, 1, .wo, .c 0⟩
def CAL_CTL.ABORT : Fld := ⟨583, .CAL_CTL, 2, 1, .wo, .c 0⟩
def CAL_CTL.SHADOW_EN : Fld := ⟨584, .CAL_CTL, 3, 1, .rw, .c 1⟩
def CAL_CTL.GAP_EN : Fld := ⟨585, .CAL_CTL, 4, 1, .rw, .c 1⟩
def CAL_CTL.REQ_PENDING : Fld := ⟨586, .CAL_CTL, 5, 1, .ro, .c 0⟩
def CAL_CTL.CAL_DT : Fld := ⟨587, .CAL_CTL, 8, 8, .rw, .c 16⟩
def CAL_CTL.RUN_LIMIT : Fld := ⟨588, .CAL_CTL, 16, 16, .rw, .c 100⟩
def CAL_STATUS.PHASE : Fld := ⟨589, .CAL_STATUS, 0, 2, .ro, .c 0⟩
def CAL_STATUS.FIRST_DONE : Fld := ⟨590, .CAL_STATUS, 2, 1, .ro, .c 0⟩
def CAL_STATUS.DUE : Fld := ⟨591, .CAL_STATUS, 3, 1, .ro, .c 0⟩
def CAL_STATUS.SPINE_FAIL : Fld := ⟨592, .CAL_STATUS, 4, 1, .w1c, .c 0⟩
def CAL_STATUS.STEP : Fld := ⟨593, .CAL_STATUS, 5, 3, .ro, .c 0⟩
def CAL_STATUS.UNITS_LEFT : Fld := ⟨594, .CAL_STATUS, 8, 12, .ro, .c 0⟩
def CAL_COUNT.COUNT : Fld := ⟨595, .CAL_COUNT, 0, 32, .ro, .c 0⟩
def CAL_LAST_TIME_LO.TIME_LO : Fld := ⟨596, .CAL_LAST_TIME_LO, 0, 32, .rsn, .c 0⟩
def CAL_LAST_TIME_HI.TIME_HI : Fld := ⟨597, .CAL_LAST_TIME_HI, 0, 32, .rsn, .c 0⟩
def CAL_TEMP.T_REF : Fld := ⟨598, .CAL_TEMP, 0, 16, .ro, .c 0⟩
def CAL_TEMP.T_NOW : Fld := ⟨599, .CAL_TEMP, 16, 16, .ro, .c 0⟩
def CAL_GLAZE.GLAZE_INTERVAL : Fld := ⟨600, .CAL_GLAZE, 0, 16, .rw, .c 1024⟩
def CAL_GLAZE.GLAZING : Fld := ⟨601, .CAL_GLAZE, 16, 16, .ro, .c 0⟩
def CAL_RESULT.SKIPPED : Fld := ⟨602, .CAL_RESULT, 0, 16, .rc, .c 0⟩
def CAL_RESULT.DEFERRED : Fld := ⟨603, .CAL_RESULT, 16, 16, .rc, .c 0⟩
def CAL_RESULT2.FAILED : Fld := ⟨604, .CAL_RESULT2, 0, 16, .rc, .c 0⟩
def CAL_RESULT2.WORN : Fld := ⟨605, .CAL_RESULT2, 16, 16, .rc, .c 0⟩
def CAL_SPINE.VERR : Fld := ⟨606, .CAL_SPINE, 0, 16, .ro, .c 0⟩
def CAL_SPINE.TERR : Fld := ⟨607, .CAL_SPINE, 16, 16, .ro, .c 0⟩
def CAL_SKIP_LAST.PLACE : Fld := ⟨608, .CAL_SKIP_LAST, 0, 16, .ro, .c 0⟩
def CAL_SKIP_LAST.CAUSE : Fld := ⟨609, .CAL_SKIP_LAST, 16, 2, .ro, .c 0⟩
def CAL_EXCL.EXCL : Fld := ⟨610, .CAL_EXCL, 0, 32, .rw, .c 0⟩
def CAL_QUERY.PLACE : Fld := ⟨611, .CAL_QUERY, 0, 16, .rw, .c 0⟩
def CAL_QUERY.FE : Fld := ⟨612, .CAL_QUERY, 16, 1, .rw, .c 0⟩
def CAL_QUERY_RES.RESULT : Fld := ⟨613, .CAL_QUERY_RES, 0, 3, .ro, .c 0⟩
def CAL_QUERY_RES.GLAZING : Fld := ⟨614, .CAL_QUERY_RES, 3, 1, .ro, .c 0⟩
def CAL_QUERY_RES.RUN : Fld := ⟨615, .CAL_QUERY_RES, 16, 16, .ro, .c 0⟩
def NVM_CMD.OP : Fld := ⟨101, .NVM_CMD, 0, 2, .wo, .c 0⟩
def NVM_CMD.KIND : Fld := ⟨102, .NVM_CMD, 2, 6, .rw, .c 0⟩
def NVM_CMD.STATUS : Fld := ⟨616, .NVM_CMD, 8, 2, .ro, .c 0⟩
def NVM_CMD.WAIT_WINDOW : Fld := ⟨617, .NVM_CMD, 10, 1, .ro, .c 0⟩
def NVM_CMD.VALID : Fld := ⟨103, .NVM_CMD, 11, 1, .ro, .c 0⟩
def NVM_CMD.ERR : Fld := ⟨104, .NVM_CMD, 12, 4, .ro, .c 0⟩
def NVM_BUF.DATA : Fld := ⟨618, .NVM_BUF, 0, 32, .rw, .c 0⟩
def SPR_QUERY.PLACE : Fld := ⟨619, .SPR_QUERY, 0, 16, .rw, .c 0⟩
def SPR_QUERY.FE : Fld := ⟨620, .SPR_QUERY, 16, 1, .rw, .c 0⟩
def SPR_CMD.PLACE : Fld := ⟨621, .SPR_CMD, 0, 16, .rw, .c 0⟩
def SPR_CMD.OP : Fld := ⟨622, .SPR_CMD, 16, 2, .wo, .c 0⟩
def SPR_CMD.STATUS : Fld := ⟨623, .SPR_CMD, 18, 2, .ro, .c 0⟩
def SPR_PENDING.COUNT : Fld := ⟨624, .SPR_PENDING, 0, 16, .ro, .c 0⟩
def DEV_LEGACY.ENABLED : Fld := ⟨625, .DEV_LEGACY, 0, 4, .ro, .c 0⟩
def DEV_LEGACY.PLAYING : Fld := ⟨626, .DEV_LEGACY, 4, 4, .ro, .c 0⟩
def DEV_LEGACY.REFUSED_PERIOD : Fld := ⟨627, .DEV_LEGACY, 8, 4, .w1c, .c 0⟩
def DEV_LEGACY.THERMAL_DISCARD : Fld := ⟨628, .DEV_LEGACY, 12, 4, .w1c, .c 0⟩
def SMU_FORCE_CODE.CODE : Fld := ⟨629, .SMU_FORCE_CODE, 0, 18, .rw, .c 0⟩
def SMU_FORCE_CFG.UPD_MODE : Fld := ⟨630, .SMU_FORCE_CFG, 0, 2, .rw, .c 1⟩
def SMU_FORCE_CFG.STROBE_SEL : Fld := ⟨631, .SMU_FORCE_CFG, 2, 2, .rw, .c 0⟩
def SMU_FORCE_CFG.SPAN : Fld := ⟨632, .SMU_FORCE_CFG, 4, 2, .rw, .c 0⟩
def SMU_FORCE_SLEW.STEP : Fld := ⟨633, .SMU_FORCE_SLEW, 0, 16, .rw, .c 0⟩
def SMU_FORCE_SLEW.RATE_M1 : Fld := ⟨634, .SMU_FORCE_SLEW, 16, 8, .rw, .c 0⟩
def SMU_FORCE_STATUS.PRESENT : Fld := ⟨635, .SMU_FORCE_STATUS, 0, 18, .ro, .c 0⟩
def SMU_FORCE_STATUS.CLAMPED : Fld := ⟨636, .SMU_FORCE_STATUS, 18, 1, .ro, .c 0⟩
def SMU_FORCE_STATUS.MOVING : Fld := ⟨637, .SMU_FORCE_STATUS, 19, 1, .ro, .c 0⟩
def SMU_FORCE_STATUS.LIMIT_REFUSED : Fld := ⟨638, .SMU_FORCE_STATUS, 20, 1, .w1c, .c 0⟩
def SMU_FORCE_STATUS.SPAN_REFUSED : Fld := ⟨639, .SMU_FORCE_STATUS, 21, 1, .w1c, .c 0⟩
def DPS_SET_CODE.CODE : Fld := ⟨640, .DPS_SET_CODE, 0, 16, .rw, .c 0⟩
def DPS_SET_CFG.UPD_MODE : Fld := ⟨641, .DPS_SET_CFG, 0, 2, .rw, .c 1⟩
def DPS_SET_CFG.STROBE_SEL : Fld := ⟨642, .DPS_SET_CFG, 2, 2, .rw, .c 0⟩
def DPS_SET_CFG.STROBE_TILE : Fld := ⟨643, .DPS_SET_CFG, 4, 2, .rw, .c 0⟩
def DPS_SET_CFG.SPAN : Fld := ⟨644, .DPS_SET_CFG, 6, 1, .rw, .c 0⟩
def DPS_SET_SLEW.STEP : Fld := ⟨645, .DPS_SET_SLEW, 0, 16, .rw, .c 0⟩
def DPS_SET_SLEW.RATE_M1 : Fld := ⟨646, .DPS_SET_SLEW, 16, 8, .rw, .c 0⟩
def DPS_SET_STATUS.PRESENT : Fld := ⟨647, .DPS_SET_STATUS, 0, 16, .ro, .c 0⟩
def DPS_SET_STATUS.CLAMPED : Fld := ⟨648, .DPS_SET_STATUS, 16, 1, .ro, .c 0⟩
def DPS_SET_STATUS.MOVING : Fld := ⟨649, .DPS_SET_STATUS, 17, 1, .ro, .c 0⟩
def DPS_SET_STATUS.SPAN_REFUSED : Fld := ⟨650, .DPS_SET_STATUS, 18, 1, .w1c, .c 0⟩
def SEQ_CNT.VALUE : Fld := ⟨651, .SEQ_CNT, 0, 32, .rw, .c 0⟩
def SEQ_CNT_SNAP.VALUE : Fld := ⟨652, .SEQ_CNT_SNAP, 0, 32, .ro, .c 0⟩
def SEQ_CINIT.VALUE : Fld := ⟨653, .SEQ_CINIT, 0, 32, .rw, .c 0⟩
def SEQ_TIMEOUT.VALUE : Fld := ⟨654, .SEQ_TIMEOUT, 0, 32, .rw, .c 0⟩
def SEQ_STACK.RETURN : Fld := ⟨655, .SEQ_STACK, 0, 14, .ro, .c 0⟩
def SEQ_STACK.LEVEL : Fld := ⟨656, .SEQ_STACK, 14, 8, .ro, .c 0⟩
def SEQ_STACK.BASE : Fld := ⟨657, .SEQ_STACK, 22, 1, .ro, .c 0⟩
def SEQ_STACK.IN_FLIGHT : Fld := ⟨658, .SEQ_STACK, 23, 1, .ro, .c 0⟩
def SEQ_STACK.ATOMIC : Fld := ⟨659, .SEQ_STACK, 24, 1, .ro, .c 0⟩
def SMU_SPARE_STATUS.OCTET : Fld := ⟨660, .SMU_SPARE_STATUS, 0, 7, .ro, .c 127⟩
def SMU_SPARE_STATUS.ASSIGNED : Fld := ⟨661, .SMU_SPARE_STATUS, 7, 1, .ro, .c 0⟩
def SMU_SPARE_STATUS.AVAILABLE : Fld := ⟨662, .SMU_SPARE_STATUS, 8, 1, .ro, .c 1⟩
def SAG_BLK_OWNER.SAGGAR : Fld := ⟨663, .SAG_BLK_OWNER, 0, 4, .ro, .c 0⟩
def SAG_BLK_OWNER.ALLOTTED : Fld := ⟨664, .SAG_BLK_OWNER, 4, 1, .ro, .c 0⟩
def SAG_BLK_OWNER.IN_USE : Fld := ⟨665, .SAG_BLK_OWNER, 5, 1, .ro, .c 0⟩
def SAG_BLK_OWNER.CLEARING : Fld := ⟨666, .SAG_BLK_OWNER, 6, 1, .ro, .c 0⟩
def SAG_GRP_OWNER.SAGGAR : Fld := ⟨667, .SAG_GRP_OWNER, 0, 4, .ro, .c 0⟩
def SAG_GRP_OWNER.ALLOTTED : Fld := ⟨668, .SAG_GRP_OWNER, 4, 1, .ro, .c 0⟩
def SAG_GRP_OWNER.IN_USE : Fld := ⟨669, .SAG_GRP_OWNER, 5, 1, .ro, .c 0⟩
def SAG_GRP_OWNER.DRAINING : Fld := ⟨670, .SAG_GRP_OWNER, 6, 1, .ro, .c 0⟩
def ACQ_PAT_H_LO.PAT_H : Fld := ⟨671, .ACQ_PAT_H_LO, 0, 32, .rw, .c 0⟩
def ACQ_PAT_H_HI.PAT_H : Fld := ⟨672, .ACQ_PAT_H_HI, 0, 32, .rw, .c 0⟩
def ACQ_PAT_L_LO.PAT_L : Fld := ⟨673, .ACQ_PAT_L_LO, 0, 32, .rw, .c 0⟩
def ACQ_PAT_L_HI.PAT_L : Fld := ⟨674, .ACQ_PAT_L_HI, 0, 32, .rw, .c 0⟩
def ACQ_PAT_MASK_LO.MASK : Fld := ⟨675, .ACQ_PAT_MASK_LO, 0, 32, .rw, .c 0⟩
def ACQ_PAT_MASK_HI.MASK : Fld := ⟨676, .ACQ_PAT_MASK_HI, 0, 32, .rw, .c 0⟩
def TIME_PORT_TX_REF_FRAC.REF : Fld := ⟨677, .TIME_PORT_TX_REF_FRAC, 0, 16, .rw, .c 0⟩
def TIME_PORT_TX_REF_NS.REF : Fld := ⟨678, .TIME_PORT_TX_REF_NS, 0, 30, .rw, .c 0⟩
def TIME_PORT_TX_REF_SEC.REF : Fld := ⟨679, .TIME_PORT_TX_REF_SEC, 0, 32, .rw, .c 0⟩
def LANE_CTL.OVERRIDE : Fld := ⟨680, .LANE_CTL, 0, 2, .rw, .c 0⟩
def LANE_CTL.OFF_MODE : Fld := ⟨681, .LANE_CTL, 2, 1, .rw, .c 0⟩
def LANE_CTL.LOAD_EN : Fld := ⟨682, .LANE_CTL, 3, 1, .rw, .c 0⟩
def LANE_CTL.CLAMP_EN : Fld := ⟨683, .LANE_CTL, 4, 1, .rw, .c 0⟩
def LANE_CTL.CMP_EN : Fld := ⟨684, .LANE_CTL, 5, 1, .rw, .c 1⟩
def LANE_DRV_CTL.EDGE_RATE : Fld := ⟨685, .LANE_DRV_CTL, 0, 4, .rw, .c 4⟩
def LANE_CMP_CTL.HYST_H : Fld := ⟨686, .LANE_CMP_CTL, 0, 2, .rw, .c 1⟩
def LANE_CMP_CTL.HYST_L : Fld := ⟨687, .LANE_CMP_CTL, 2, 2, .rw, .c 1⟩
def LANE_LOAD.IOH : Fld := ⟨688, .LANE_LOAD, 0, 12, .rw, .c 0⟩
def LANE_LOAD.IOL : Fld := ⟨689, .LANE_LOAD, 16, 12, .rw, .c 0⟩
def LANE_PPMU_CTL.MODE : Fld := ⟨690, .LANE_PPMU_CTL, 0, 2, .rw, .c 0⟩
def LANE_PPMU_CTL.RANGE : Fld := ⟨691, .LANE_PPMU_CTL, 2, 3, .rw, .c 0⟩
def LANE_PPMU_CTL.CONNECT : Fld := ⟨692, .LANE_PPMU_CTL, 5, 1, .rw, .c 0⟩
def LANE_PPMU_CTL.CONNECTED : Fld := ⟨693, .LANE_PPMU_CTL, 6, 1, .ro, .c 0⟩
def LANE_MON_CTL.COND : Fld := ⟨694, .LANE_MON_CTL, 0, 3, .rw, .c 0⟩
def LANE_MON_CTL.LATCH_MODE : Fld := ⟨695, .LANE_MON_CTL, 3, 1, .rw, .c 0⟩
def LANE_MON_CTL.CLR_MODE : Fld := ⟨696, .LANE_MON_CTL, 4, 2, .rw, .c 0⟩
def LANE_MON_CTL.FILTER : Fld := ⟨697, .LANE_MON_CTL, 6, 4, .rw, .c 0⟩
def LANE_MON.LATCH : Fld := ⟨698, .LANE_MON, 0, 1, .w1c, .c 0⟩
def LANE_MON.CH : Fld := ⟨699, .LANE_MON, 1, 1, .ro, .c 0⟩
def LANE_MON.CL : Fld := ⟨700, .LANE_MON, 2, 1, .ro, .c 0⟩
def LANE_MON.UNSETTLED_H : Fld := ⟨701, .LANE_MON, 3, 1, .ro, .c 0⟩
def LANE_MON.UNSETTLED_L : Fld := ⟨702, .LANE_MON, 4, 1, .ro, .c 0⟩
def LANE_STATUS.DRV_TRIP : Fld := ⟨703, .LANE_STATUS, 0, 1, .w1c, .c 0⟩
def LANE_STATUS.CLAMP_HIT : Fld := ⟨704, .LANE_STATUS, 1, 1, .w1c, .c 0⟩
def LANE_STATUS.OVERSPEED : Fld := ⟨705, .LANE_STATUS, 2, 1, .w1c, .c 0⟩
def LANE_STATUS.DRIVE_BLOCKED : Fld := ⟨706, .LANE_STATUS, 3, 1, .w1c, .c 0⟩
def LANE_STATUS.LOAD_SUPPRESSED : Fld := ⟨707, .LANE_STATUS, 4, 1, .ro, .c 0⟩
def LANE_STATUS.CONNECTED : Fld := ⟨708, .LANE_STATUS, 5, 1, .ro, .c 0⟩
def LANE_STATUS.SWING_CLASS : Fld := ⟨709, .LANE_STATUS, 6, 2, .ro, .c 0⟩
def OCT_LVL_UPDATE.GO : Fld := ⟨710, .OCT_LVL_UPDATE, 0, 1, .wo, .c 0⟩
def OCT_LVL_UPDATE.ALL_OWNED : Fld := ⟨711, .OCT_LVL_UPDATE, 1, 1, .wo, .c 0⟩
def SEQ_HOST_FLAGS.FLAGS : Fld := ⟨712, .SEQ_HOST_FLAGS, 0, 8, .rw, .c 0⟩
def OCT_MATRIX.LANE_SEL : Fld := ⟨713, .OCT_MATRIX, 0, 8, .rw, .c 0⟩
def OCT_MATRIX.BALL_EN : Fld := ⟨714, .OCT_MATRIX, 8, 1, .rw, .c 0⟩
def OCT_MATRIX.LANES_ON : Fld := ⟨715, .OCT_MATRIX, 16, 8, .ro, .c 0⟩
def OCT_MATRIX.BALL_ON : Fld := ⟨716, .OCT_MATRIX, 24, 1, .ro, .c 0⟩
def OCT_STATUS.CONFLICT : Fld := ⟨717, .OCT_STATUS, 0, 8, .w1c, .c 0⟩
def OCT_STATUS.DROPPED : Fld := ⟨718, .OCT_STATUS, 8, 8, .w1c, .c 0⟩
def OCT_STATUS.BALL_UNAVAIL : Fld := ⟨719, .OCT_STATUS, 16, 1, .w1c, .c 0⟩
def OCT_STATUS.SMU_SOURCE : Fld := ⟨720, .OCT_STATUS, 17, 2, .ro, .c 0⟩
def OCT_STATUS.ADC_BORROWED : Fld := ⟨721, .OCT_STATUS, 19, 1, .ro, .c 0⟩
def OCT_STATUS.ADC_LENDING : Fld := ⟨722, .OCT_STATUS, 20, 1, .ro, .c 0⟩
def OCT_PPMU_COMPL.IN_COMPL : Fld := ⟨723, .OCT_PPMU_COMPL, 0, 8, .ro, .c 0⟩
def OCT_PPMU_COMPL.COMPL_HIT : Fld := ⟨724, .OCT_PPMU_COMPL, 8, 8, .w1c, .c 0⟩
def ADC_CTL.LEN_M1 : Fld := ⟨725, .ADC_CTL, 0, 4, .rw, .c 0⟩
def ADC_CTL.MODE : Fld := ⟨726, .ADC_CTL, 4, 2, .rw, .c 0⟩
def ADC_CTL.TRIG : Fld := ⟨727, .ADC_CTL, 6, 2, .rw, .c 0⟩
def ADC_CTL.TRIG_SEL : Fld := ⟨728, .ADC_CTL, 8, 2, .rw, .c 0⟩
def ADC_CTL.GO : Fld := ⟨729, .ADC_CTL, 10, 1, .wo, .c 0⟩
def ADC_CTL.STOP : Fld := ⟨730, .ADC_CTL, 11, 1, .wo, .c 0⟩
def ADC_STATUS.ENTRY : Fld := ⟨731, .ADC_STATUS, 0, 4, .ro, .c 0⟩
def ADC_STATUS.BUSY : Fld := ⟨732, .ADC_STATUS, 4, 1, .ro, .c 0⟩
def ADC_STATUS.TRIG_MISSED : Fld := ⟨733, .ADC_STATUS, 8, 8, .rc, .c 0⟩
def ADC_STATUS.FIFO_COUNT : Fld := ⟨734, .ADC_STATUS, 16, 7, .ro, .c 0⟩
def ADC_FIFO.CODE : Fld := ⟨735, .ADC_FIFO, 0, 18, .ro, .c 0⟩
def ADC_FIFO.ENTRY : Fld := ⟨736, .ADC_FIFO, 18, 4, .ro, .c 0⟩
def ADC_FIFO.LANE : Fld := ⟨737, .ADC_FIFO, 22, 3, .ro, .c 0⟩
def ADC_FIFO.RANGE : Fld := ⟨738, .ADC_FIFO, 25, 3, .ro, .c 0⟩
def ADC_FIFO.QTY : Fld := ⟨739, .ADC_FIFO, 28, 1, .ro, .c 0⟩
def ADC_FIFO.COMPLIANCE : Fld := ⟨740, .ADC_FIFO, 29, 1, .ro, .c 0⟩
def ADC_FIFO.SUSPECT : Fld := ⟨741, .ADC_FIFO, 30, 1, .ro, .c 0⟩
def ADC_FIFO.VALID : Fld := ⟨742, .ADC_FIFO, 31, 1, .ro, .c 0⟩
def ADC_FIFO_TIME_LO.TIME_LO : Fld := ⟨743, .ADC_FIFO_TIME_LO, 0, 32, .ro, .c 0⟩
def ADC_FIFO_TIME_HI.TIME_HI : Fld := ⟨744, .ADC_FIFO_TIME_HI, 0, 32, .ro, .c 0⟩
def ADC_LOST.LOST : Fld := ⟨745, .ADC_LOST, 0, 16, .rc, .c 0⟩
def ADC_SEQ_A.LANE : Fld := ⟨746, .ADC_SEQ_A, 0, 3, .rw, .c 0⟩
def ADC_SEQ_A.AVG_LOG2 : Fld := ⟨747, .ADC_SEQ_A, 4, 4, .rw, .c 0⟩
def ADC_SEQ_A.SETTLE : Fld := ⟨748, .ADC_SEQ_A, 8, 12, .rw, .c 0⟩
def ADC_SEQ_A.DEST : Fld := ⟨749, .ADC_SEQ_A, 24, 2, .rw, .c 0⟩
def ADC_SEQ_B.CTX : Fld := ⟨750, .ADC_SEQ_B, 0, 14, .rw, .c 0⟩
def SMU_CTL.FMODE : Fld := ⟨751, .SMU_CTL, 0, 2, .rw, .c 2⟩
def SMU_CTL.IRANGE : Fld := ⟨752, .SMU_CTL, 2, 3, .rw, .c 6⟩
def SMU_CLAMP.ICLAMP : Fld := ⟨753, .SMU_CLAMP, 0, 10, .rw, .c 1023⟩
def SMU_VCLAMP.VHI : Fld := ⟨754, .SMU_VCLAMP, 0, 16, .rw, .c 7000⟩
def SMU_VCLAMP.VLO : Fld := ⟨755, .SMU_VCLAMP, 16, 16, .rw, .c 63536⟩
def SMU_MEAS.RUN : Fld := ⟨756, .SMU_MEAS, 0, 1, .rw, .c 0⟩
def SMU_MEAS.QTY : Fld := ⟨757, .SMU_MEAS, 1, 2, .rw, .c 0⟩
def SMU_MEAS.AVG_LOG2 : Fld := ⟨758, .SMU_MEAS, 3, 4, .rw, .c 0⟩
def SMU_MEAS.DEST : Fld := ⟨759, .SMU_MEAS, 8, 2, .rw, .c 0⟩
def SMU_MEAS.CTX : Fld := ⟨760, .SMU_MEAS, 16, 14, .rw, .c 0⟩
def SMU_MON_CTL.EN : Fld := ⟨761, .SMU_MON_CTL, 0, 1, .rw, .c 0⟩
def SMU_MON_CTL.COND : Fld := ⟨762, .SMU_MON_CTL, 1, 1, .rw, .c 0⟩
def SMU_MON_CTL.LATCH_MODE : Fld := ⟨763, .SMU_MON_CTL, 2, 1, .rw, .c 0⟩
def SMU_MON_CTL.CLR_MODE : Fld := ⟨764, .SMU_MON_CTL, 3, 2, .rw, .c 0⟩
def SMU_MON_CTL.FILTER : Fld := ⟨765, .SMU_MON_CTL, 5, 4, .rw, .c 0⟩
def SMU_MON_CTL.HYST : Fld := ⟨766, .SMU_MON_CTL, 9, 2, .rw, .c 1⟩
def SMU_MON_THR.HI : Fld := ⟨767, .SMU_MON_THR, 0, 10, .rw, .c 511⟩
def SMU_MON_THR.LO : Fld := ⟨768, .SMU_MON_THR, 16, 10, .rw, .c 512⟩
def SMU_STATUS.IN_COMPLIANCE : Fld := ⟨769, .SMU_STATUS, 0, 1, .ro, .c 0⟩
def SMU_STATUS.COMPLIANCE_HIT : Fld := ⟨770, .SMU_STATUS, 1, 1, .w1c, .c 0⟩
def SMU_STATUS.MON_LATCH : Fld := ⟨771, .SMU_STATUS, 2, 1, .w1c, .c 0⟩
def SMU_STATUS.MON_UNSETTLED : Fld := ⟨772, .SMU_STATUS, 3, 1, .ro, .c 0⟩
def SMU_STATUS.SENSE_FAULT : Fld := ⟨773, .SMU_STATUS, 4, 1, .w1c, .c 0⟩
def SMU_STATUS.LOCAL_SENSE : Fld := ⟨774, .SMU_STATUS, 5, 1, .ro, .c 0⟩
def SMU_FIFO.RESULT : Fld := ⟨775, .SMU_FIFO, 0, 32, .ro, .c 0⟩
def SMU_FIFO_TIME_LO.TIME_LO : Fld := ⟨776, .SMU_FIFO_TIME_LO, 0, 32, .ro, .c 0⟩
def SMU_FIFO_TIME_HI.TIME_HI : Fld := ⟨777, .SMU_FIFO_TIME_HI, 0, 32, .ro, .c 0⟩
def SMU_LOST.LOST : Fld := ⟨778, .SMU_LOST, 0, 16, .rc, .c 0⟩
def RED_GRP_AREA.BASE : Fld := ⟨779, .RED_GRP_AREA, 0, 10, .rw, .c 0⟩
def RED_GRP_AREA.BLOCKS : Fld := ⟨780, .RED_GRP_AREA, 16, 10, .rw, .c 0⟩
def RED_GRP_WPTR.WPTR : Fld := ⟨781, .RED_GRP_WPTR, 0, 20, .ro, .c 0⟩
def RED_GRP_RPTR.RPTR : Fld := ⟨782, .RED_GRP_RPTR, 0, 20, .rw, .c 0⟩
def RED_GRP_STATUS.FULL : Fld := ⟨783, .RED_GRP_STATUS, 0, 1, .ro, .c 0⟩
def RED_GRP_STATUS.AREA_REFUSED : Fld := ⟨784, .RED_GRP_STATUS, 1, 1, .w1c, .c 0⟩
def RED_GRP_STATUS.PENDING : Fld := ⟨785, .RED_GRP_STATUS, 4, 9, .ro, .c 0⟩
def EVH_Q_BASE_LO.BASE_LO : Fld := ⟨786, .EVH_Q_BASE_LO, 12, 20, .rw, .c 0⟩
def EVH_Q_BASE_HI.BASE_HI : Fld := ⟨787, .EVH_Q_BASE_HI, 0, 32, .rw, .c 0⟩
def EVH_Q_CFG.EN : Fld := ⟨788, .EVH_Q_CFG, 0, 1, .rw, .c 0⟩
def EVH_Q_CFG.SIZE_LOG2 : Fld := ⟨789, .EVH_Q_CFG, 4, 5, .rw, .c 6⟩
def EVH_Q_WPTR.WPTR : Fld := ⟨790, .EVH_Q_WPTR, 0, 16, .ro, .c 0⟩
def EVH_Q_WPTR.PHASE : Fld := ⟨791, .EVH_Q_WPTR, 16, 1, .ro, .c 1⟩
def EVH_Q_RPTR.RPTR : Fld := ⟨792, .EVH_Q_RPTR, 0, 16, .rw, .c 0⟩
def EVH_Q_STATUS.FULL : Fld := ⟨793, .EVH_Q_STATUS, 0, 1, .ro, .c 0⟩
def EVH_Q_STATUS.NOTIFY_WITHHELD : Fld := ⟨794, .EVH_Q_STATUS, 1, 1, .ro, .c 0⟩
def EVH_Q_STATUS.ERROR : Fld := ⟨795, .EVH_Q_STATUS, 2, 1, .w1c, .c 0⟩
def EVH_Q_STATUS.RECORDS : Fld := ⟨796, .EVH_Q_STATUS, 16, 16, .rc, .c 0⟩
def HOST_DMA_BASE_LO.BASE_LO : Fld := ⟨797, .HOST_DMA_BASE_LO, 12, 20, .rw, .c 0⟩
def HOST_DMA_BASE_HI.BASE_HI : Fld := ⟨798, .HOST_DMA_BASE_HI, 0, 32, .rw, .c 0⟩
def HOST_DMA_CFG.EN : Fld := ⟨799, .HOST_DMA_CFG, 0, 1, .rw, .c 0⟩
def HOST_DMA_CFG.SIZE_LOG2 : Fld := ⟨800, .HOST_DMA_CFG, 4, 4, .rw, .c 4⟩
def HOST_DMA_TAIL.TAIL : Fld := ⟨801, .HOST_DMA_TAIL, 0, 12, .rw, .c 0⟩
def HOST_DMA_HEAD.HEAD : Fld := ⟨802, .HOST_DMA_HEAD, 0, 12, .ro, .c 0⟩
def HOST_DMA_STATUS.ERROR : Fld := ⟨803, .HOST_DMA_STATUS, 0, 1, .w1c, .c 0⟩
def HOST_DMA_STATUS.BUSY : Fld := ⟨804, .HOST_DMA_STATUS, 1, 1, .ro, .c 0⟩
def HOST_DMA_STATUS.LAST_CODE : Fld := ⟨805, .HOST_DMA_STATUS, 8, 8, .ro, .c 0⟩
def HOST_DMA_STATUS.DONE_COUNT : Fld := ⟨806, .HOST_DMA_STATUS, 16, 16, .rc, .c 0⟩
end R

/-- The fields of each register, in the order of its table. -/
def Reg.fields : Reg → List Fld
  | .DEV_RESET_CAUSE => [R.DEV_RESET_CAUSE.AON, R.DEV_RESET_CAUSE.POR, R.DEV_RESET_CAUSE.SOFT, R.DEV_RESET_CAUSE.BROWNOUT, R.DEV_RESET_CAUSE.SUPPLY_ORDER]
  | .SPIS_STATUS => [R.SPIS_STATUS.LAST, R.SPIS_STATUS.REJECT_CAUSE]
  | .SPIS_COUNT => [R.SPIS_COUNT.FRAMES, R.SPIS_COUNT.REJECTS, R.SPIS_COUNT.REFUSED]
  | .SPIS_RESET_CAUSE => [R.SPIS_RESET_CAUSE.CAUSE]
  | .SPIS_TRIP => [R.SPIS_TRIP.TRIP]
  | .SPIS_SCRATCH => [R.SPIS_SCRATCH.SCRATCH]
  | .SPIS_MIRROR => [R.SPIS_MIRROR.ENTRY]
  | .LOG_SEQ => [R.LOG_SEQ.SEQ]
  | .DEV_IDENT => [R.DEV_IDENT.IDENT]
  | .DEV_CLK => [R.DEV_CLK.CCLK_SPREAD_EN, R.DEV_CLK.REF_LOSS_POLICY, R.DEV_CLK.REF_PRESENT, R.DEV_CLK.REF_LOST, R.DEV_CLK.PLL_LOCKED, R.DEV_CLK.HOLDOVER, R.DEV_CLK.RELOCK_PENDING]
  | .DEV_MOULD_STATUS => [R.DEV_MOULD_STATUS.STATE, R.DEV_MOULD_STATUS.SOURCE, R.DEV_MOULD_STATUS.FLASH_COPY, R.DEV_MOULD_STATUS.SIGNED, R.DEV_MOULD_STATUS.OPEN_DEVICE, R.DEV_MOULD_STATUS.CAUSE, R.DEV_MOULD_STATUS.DETAIL]
  | .DEV_MOULD_FLASH => [R.DEV_MOULD_FLASH.FIRST_CAUSE, R.DEV_MOULD_FLASH.SECOND_CAUSE]
  | .DEV_STRAP => [R.DEV_STRAP.SAMPLED, R.DEV_STRAP.EFFECTIVE]
  | .TIME_NOW_FRAC => [R.TIME_NOW_FRAC.FRAC, R.TIME_NOW_FRAC.QUALITY]
  | .TIME_NOW_NS => [R.TIME_NOW_NS.NS]
  | .TIME_NOW_SEC_LO => [R.TIME_NOW_SEC_LO.SEC_LO]
  | .TIME_NOW_SEC_HI => [R.TIME_NOW_SEC_HI.SEC_HI]
  | .TIME_ADDEND_LO => [R.TIME_ADDEND_LO.ADDEND_LO]
  | .TIME_ADDEND_HI => [R.TIME_ADDEND_HI.ADDEND_HI]
  | .TIME_QUAL => [R.TIME_QUAL.HOST_STATE, R.TIME_QUAL.STEPPED, R.TIME_QUAL.REFRESH, R.TIME_QUAL.ADDEND_REFUSED, R.TIME_QUAL.SYNC_TIMEOUT, R.TIME_QUAL.QUALITY]
  | .FLS_ID => [R.FLS_ID.ID]
  | .HK_ROUND_COUNT => [R.HK_ROUND_COUNT.COUNT]
  | .HK_STATUS => [R.HK_STATUS.AON_CLOCKED, R.HK_STATUS.HK_FIXED, R.HK_STATUS.REF_PRESENT, R.HK_STATUS.SPINE_WARN, R.HK_STATUS.REF_LOST_ROUNDS]
  | .HK_SUPPLY_VAL => [R.HK_SUPPLY_VAL.VALUE, R.HK_SUPPLY_VAL.FAULT, R.HK_SUPPLY_VAL.FAULT_HIT]
  | .HK_SUPPLY_LIM => [R.HK_SUPPLY_LIM.LOW, R.HK_SUPPLY_LIM.HIGH]
  | .HK_SPINE => [R.HK_SPINE.ERR]
  | .THS_TEMP => [R.THS_TEMP.RAW, R.THS_TEMP.EFFECTIVE]
  | .THS_BROKEN => [R.THS_BROKEN.BROKEN]
  | .THS_READMIT => [R.THS_READMIT.READMIT]
  | .THS_TJ => [R.THS_TJ.TJ, R.THS_TJ.SENSOR]
  | .THS_CONE => [R.THS_CONE.W_C, R.THS_CONE.T_C, R.THS_CONE.S_C]
  | .THS_STATUS => [R.THS_STATUS.CONE_W, R.THS_STATUS.CONE_T, R.THS_STATUS.CONE_S, R.THS_STATUS.NVM_OK, R.THS_STATUS.RISE, R.THS_STATUS.RISE_HIT, R.THS_STATUS.DIE_BLIND, R.THS_STATUS.RISE_SENSOR]
  | .THS_CTL => [R.THS_CTL.RISE_LIMIT, R.THS_CTL.RISE_SHUTDOWN]
  | .NVM_SEQ => [R.NVM_SEQ.SEQ]
  | .NVM_STATUS => [R.NVM_STATUS.BUSY, R.NVM_STATUS.REPAIR_PENDING, R.NVM_STATUS.MAP_FULL, R.NVM_STATUS.DIR_FAIL, R.NVM_STATUS.BASELINE_MISSING, R.NVM_STATUS.SPARE_PAGES]
  | .NVM_SERIAL_LO => [R.NVM_SERIAL_LO.SERIAL_LO]
  | .NVM_SERIAL_HI => [R.NVM_SERIAL_HI.SERIAL_HI]
  | .SPR_RESERVE_Q => [R.SPR_RESERVE_Q.FE_PAIRS, R.SPR_RESERVE_Q.SMU, R.SPR_RESERVE_Q.DPS, R.SPR_RESERVE_Q.WORN]
  | .SPR_RESERVE_DEV => [R.SPR_RESERVE_DEV.TDC, R.SPR_RESERVE_DEV.PIPE, R.SPR_RESERVE_DEV.UNAVAIL]
  | .SPR_QUERY_RES => [R.SPR_QUERY_RES.STATE, R.SPR_QUERY_RES.PARTNER]
  | .SPR_ROWS => [R.SPR_ROWS.ROWS, R.SPR_ROWS.COLS]
  | .LOG_STATUS => [R.LOG_STATUS.COUNT]
  | .LOG_LOST => [R.LOG_LOST.LOST]
  | .LOG_PAGE => [R.LOG_PAGE.PAGE]
  | .DEV_FUSE_HASH => [R.DEV_FUSE_HASH.HASH]
  | .DEV_FUSE_CMD => [R.DEV_FUSE_CMD.SLOT, R.DEV_FUSE_CMD.CMD, R.DEV_FUSE_CMD.STATUS]
  | .DEV_MOULD_CTL => [R.DEV_MOULD_CTL.START, R.DEV_MOULD_CTL.ABORT]
  | .DEV_MOULD_ADDR_LO => [R.DEV_MOULD_ADDR_LO.ADDR_LO]
  | .DEV_MOULD_ADDR_HI => [R.DEV_MOULD_ADDR_HI.ADDR_HI]
  | .DEV_MOULD_LEN => [R.DEV_MOULD_LEN.LEN]
  | .DEV_MOULD_INFO => [R.DEV_MOULD_INFO.IMAGE_VER]
  | .DEV_MOULD_PLANT => [R.DEV_MOULD_PLANT.COOLANT_MAX, R.DEV_MOULD_PLANT.POWER_BUDGET, R.DEV_MOULD_PLANT.COLD_PLATE, R.DEV_MOULD_PLANT.DEBUG_OPEN, R.DEV_MOULD_PLANT.LEGACY, R.DEV_MOULD_PLANT.KEY_SLOT]
  | .DEV_MODE => [R.DEV_MODE.MODE, R.DEV_MODE.FIRST_RUN, R.DEV_MODE.TRANSITION, R.DEV_MODE.STARTUP_DONE, R.DEV_MODE.TRIP, R.DEV_MODE.REQ, R.DEV_MODE.STOP_NOW, R.DEV_MODE.REQ_STATUS, R.DEV_MODE.SOFT_RESET, R.DEV_MODE.AUTO_RECOVER, R.DEV_MODE.HOLD_STARTUP, R.DEV_MODE.REFUSE_CAUSE]
  | .DEV_START => [R.DEV_START.TILE_MASK, R.DEV_START.AT_TEV, R.DEV_START.TEV, R.DEV_START.GO, R.DEV_START.ARMED, R.DEV_START.REFUSED, R.DEV_START.CANCEL]
  | .DEV_STARTUP => [R.DEV_STARTUP.STEP, R.DEV_STARTUP.DEGRADED, R.DEV_STARTUP.REPAIR_DEFERRED, R.DEV_STARTUP.FAIL_COUNT, R.DEV_STARTUP.ELAPSED_MS]
  | .LANE_FE => [R.LANE_FE.ACTIVE_FE, R.LANE_FE.SINGLE, R.LANE_FE.RETIRED, R.LANE_FE.OTHER_STATE, R.LANE_FE.SWAP_REQ, R.LANE_FE.SWAP_REFUSED, R.LANE_FE.HANDOVER_COUNT]
  | .LVL_CFG => [R.LVL_CFG.UPD_MODE, R.LVL_CFG.STROBE_SEL, R.LVL_CFG.SET_FOLLOW, R.LVL_CFG.FIXED_SET, R.LVL_CFG.SET_IN_USE]
  | .LVL_SPAN => [R.LVL_SPAN.SPAN]
  | .LVL_SLEW => [R.LVL_SLEW.STEP, R.LVL_SLEW.RATE_M1]
  | .LVL_PPMU_CODE => [R.LVL_PPMU_CODE.CODE]
  | .LVL_STATUS => [R.LVL_STATUS.CLAMPED, R.LVL_STATUS.MOVING, R.LVL_STATUS.LIMIT_REFUSED, R.LVL_STATUS.SPAN_REFUSED]
  | .LVL_NOW => [R.LVL_NOW.PRESENT_A, R.LVL_NOW.PRESENT_B]
  | .LVL_SET => [R.LVL_SET.CODE_A, R.LVL_SET.CODE_B]
  | .TS_LANE_EDGE => [R.TS_LANE_EDGE.EDGE]
  | .TS_LANE_MODE => [R.TS_LANE_MODE.FORMAT, R.TS_LANE_MODE.CMP_MODE, R.TS_LANE_MODE.NCO_SEL]
  | .TS_STAGE_PERIOD => [R.TS_STAGE_PERIOD.COARSE, R.TS_STAGE_PERIOD.FINE]
  | .TS_COMMIT => [R.TS_COMMIT.SET, R.TS_COMMIT.COMMIT, R.TS_COMMIT.FETCH, R.TS_COMMIT.TIP_REF, R.TS_COMMIT.STATUS, R.TS_COMMIT.CAUSE, R.TS_COMMIT.DETAIL]
  | .TS_CTL => [R.TS_CTL.DEFAULT_SET]
  | .TS_STATUS => [R.TS_STATUS.ACCURACY, R.TS_STATUS.CUR_SET, R.TS_STATUS.EDGE_DROP, R.TS_STATUS.WINDOW_TRUNC]
  | .TS_DROP_COUNT => [R.TS_DROP_COUNT.EDGE_DROP, R.TS_DROP_COUNT.WINDOW_TRUNC]
  | .TS_NCO_FTW_LO => [R.TS_NCO_FTW_LO.FTW_LO]
  | .TS_NCO_FTW_HI => [R.TS_NCO_FTW_HI.FTW_HI]
  | .TS_NCO_PHASE_LO => [R.TS_NCO_PHASE_LO.PHASE_LO]
  | .TS_NCO_PHASE_HI => [R.TS_NCO_PHASE_HI.PHASE_HI]
  | .TS_NCO_CTL => [R.TS_NCO_CTL.DUTY, R.TS_NCO_CTL.PR_EN]
  | .SEG_STORE_CFG => [R.SEG_STORE_CFG.RING_BASE, R.SEG_STORE_CFG.UE_POLICY, R.SEG_STORE_CFG.SCRUB_EN, R.SEG_STORE_CFG.SCRUB_GAP]
  | .SEG_LANE_DIR => [R.SEG_LANE_DIR.DIR]
  | .SEG_LANE_FIXED => [R.SEG_LANE_FIXED.FIXED]
  | .SEG_CTLW_ADDR => [R.SEG_CTLW_ADDR.ROW]
  | .SEG_CTLW_DATA => [R.SEG_CTLW_DATA.CTL_EVEN, R.SEG_CTLW_DATA.CTL_ODD]
  | .SEG_STORE_STATUS => [R.SEG_STORE_STATUS.CE_COUNT, R.SEG_STORE_STATUS.UE_COUNT, R.SEG_STORE_STATUS.RSV_COUNT, R.SEG_STORE_STATUS.UE_PLAY, R.SEG_STORE_STATUS.UE_WRITE, R.SEG_STORE_STATUS.RSV_CODE, R.SEG_STORE_STATUS.CTLW_OVERRUN]
  | .SEG_STORE_ERRADDR => [R.SEG_STORE_ERRADDR.ROW, R.SEG_STORE_ERRADDR.WORD, R.SEG_STORE_ERRADDR.SOURCE]
  | .SEQ_CTL => [R.SEQ_CTL.VEC_EN, R.SEQ_CTL.MIN_GROUP, R.SEQ_CTL.FLASH_EXEC]
  | .SEQ_ENTRY => [R.SEQ_ENTRY.ENTRY]
  | .SEQ_STATUS => [R.SEQ_STATUS.STATE, R.SEQ_STATUS.DEPTH, R.SEQ_STATUS.IN_HANDLER, R.SEQ_STATUS.LEVEL, R.SEQ_STATUS.IN_FLIGHT, R.SEQ_STATUS.ATOMIC, R.SEQ_STATUS.ATOMIC_RES, R.SEQ_STATUS.MEASURE_REFUSED, R.SEQ_STATUS.NANO_MERGE]
  | .SEQ_PC => [R.SEQ_PC.PC]
  | .SEQ_LOAD => [R.SEQ_LOAD.CHECK, R.SEQ_LOAD.SCRUB, R.SEQ_LOAD.STATUS, R.SEQ_LOAD.VALID, R.SEQ_LOAD.WHERE, R.SEQ_LOAD.REASON, R.SEQ_LOAD.DETAIL]
  | .SEQ_NANO_PAGE => [R.SEQ_NANO_PAGE.PAGE]
  | .SEQ_MC => [R.SEQ_MC.CAUSE, R.SEQ_MC.RELOAD_PENDING, R.SEQ_MC.ADDR]
  | .SEQ_MC_INFO => [R.SEQ_MC_INFO.INFO]
  | .SEQ_SITE_SEL => [R.SEQ_SITE_SEL.SITE]
  | .SEQ_START => [R.SEQ_START.SEG]
  | .HK_SEQ_FLASH_BASE => [R.HK_SEQ_FLASH_BASE.WORD]
  | .SEG_RING_CFG => [R.SEG_RING_CFG.SLOT_SIZE, R.SEG_RING_CFG.LOW_WATER]
  | .SEG_RING_CTL => [R.SEG_RING_CTL.RESET]
  | .SEG_RING_STATUS => [R.SEG_RING_STATUS.NEXT_TAG, R.SEG_RING_STATUS.NEXT_SLOT]
  | .SEG_RING_FILL => [R.SEG_RING_FILL.SLOT_COUNT, R.SEG_RING_FILL.READY_COUNT]
  | .SEG_JUMP => [R.SEG_JUMP.TARGET, R.SEG_JUMP.FLUSH, R.SEG_JUMP.GO, R.SEG_JUMP.PENDING, R.SEG_JUMP.REFUSED, R.SEG_JUMP.SRC_EN, R.SEG_JUMP.SRC]
  | .SEG_STATUS => [R.SEG_STATUS.CUR_SEG, R.SEG_STATUS.PHASE, R.SEG_STATUS.QUEUE_COUNT, R.SEG_STATUS.COMMITTED, R.SEG_STATUS.SUCC_SEG, R.SEG_STATUS.MATCH, R.SEG_STATUS.ABORTED, R.SEG_STATUS.TAG_ERROR]
  | .SEG_ITER => [R.SEG_ITER.PASS]
  | .SEG_CHECK => [R.SEG_CHECK.CAUSE]
  | .SEG_COUNT => [R.SEG_COUNT.STARVE, R.SEG_COUNT.JUMP_LATE]
  | .SEG_COUNT2 => [R.SEG_COUNT2.UNDERRUN, R.SEG_COUNT2.TAG_ERRORS, R.SEG_COUNT2.MATCH_TIMEOUT]
  | .SEG_HOLD_VECTORS => [R.SEG_HOLD_VECTORS.HOLD_VECTORS]
  | .SEG_GROUP_WAIT => [R.SEG_GROUP_WAIT.GROUP_WAIT]
  | .SEG_SLOT => [R.SEG_SLOT.TAG, R.SEG_SLOT.READY, R.SEG_SLOT.LAST, R.SEG_SLOT.PLAYING]
  | .CMP_CTL => [R.CMP_CTL.CLEAR_ALL]
  | .CMP_STATUS => [R.CMP_STATUS.TILE_FAIL, R.CMP_STATUS.UNSETTLED_CMP]
  | .CMP_CYCLE_LO => [R.CMP_CYCLE_LO.CYCLE_LO]
  | .CMP_CYCLE_HI => [R.CMP_CYCLE_HI.CYCLE_HI]
  | .CMP_TILE_FAILS => [R.CMP_TILE_FAILS.FAILS]
  | .CMP_LOG_CTL => [R.CMP_LOG_CTL.MODE, R.CMP_LOG_CTL.ARM, R.CMP_LOG_CTL.DISARM, R.CMP_LOG_CTL.ARMED]
  | .CMP_LOG_AREA => [R.CMP_LOG_AREA.BASE, R.CMP_LOG_AREA.BLOCKS]
  | .CMP_LOG_STATUS => [R.CMP_LOG_STATUS.WPTR, R.CMP_LOG_STATUS.FULL, R.CMP_LOG_STATUS.AREA_REFUSED]
  | .CMP_LOG_LOST => [R.CMP_LOG_LOST.LOST]
  | .CMP_LANE_FAIL => [R.CMP_LANE_FAIL.FAILS]
  | .CMP_SITE_CTL => [R.CMP_SITE_CTL.MASK_ON_FIRST, R.CMP_SITE_CTL.CMP_OFF, R.CMP_SITE_CTL.LOG_EN, R.CMP_SITE_CTL.CLEAR_FAIL, R.CMP_SITE_CTL.CLEAR_TB]
  | .CMP_SITE_STATUS => [R.CMP_SITE_STATUS.SITE, R.CMP_SITE_STATUS.VALID, R.CMP_SITE_STATUS.FAIL, R.CMP_SITE_STATUS.TIMING_BROKEN, R.CMP_SITE_STATUS.MASKED_FIRST]
  | .CMP_SITE_FF_LO => [R.CMP_SITE_FF_LO.FF_CYCLE_LO]
  | .CMP_SITE_FF_HI => [R.CMP_SITE_FF_HI.FF_CYCLE_HI, R.CMP_SITE_FF_HI.FF_TILE]
  | .CMP_SITE_FF_VA => [R.CMP_SITE_FF_VA.VA_SEG]
  | .CMP_SITE_FF_INFO => [R.CMP_SITE_FF_INFO.PASS_SLOT]
  | .CMP_SITE_FAILV => [R.CMP_SITE_FAILV.FAIL_VECTORS]
  | .DPS_CTL => [R.DPS_CTL.OUT_EN, R.DPS_CTL.IRANGE, R.DPS_CTL.FORCE_LOCAL]
  | .DPS_LIMIT => [R.DPS_LIMIT.ILIM, R.DPS_LIMIT.ACTION, R.DPS_LIMIT.DELAY]
  | .DPS_STATUS => [R.DPS_STATUS.IN_LIMIT, R.DPS_STATUS.LIMIT_HIT, R.DPS_STATUS.FOLDED, R.DPS_STATUS.TRIPPED, R.DPS_STATUS.HW_TRIP, R.DPS_STATUS.SENSE_FAULT, R.DPS_STATUS.LOCAL_SENSE, R.DPS_STATUS.SUPPLY_LOSS, R.DPS_STATUS.MON_I_LATCH, R.DPS_STATUS.MON_V_LATCH, R.DPS_STATUS.MON_I_UNSETTLED, R.DPS_STATUS.MON_V_UNSETTLED, R.DPS_STATUS.CONNECTED, R.DPS_STATUS.MON_OPENED, R.DPS_STATUS.QUAD_PWR, R.DPS_STATUS.FAULT_MEMBER]
  | .DPS_MEAS_I => [R.DPS_MEAS_I.CODE, R.DPS_MEAS_I.SUSPECT, R.DPS_MEAS_I.GANG]
  | .DPS_MEAS_V => [R.DPS_MEAS_V.CODE, R.DPS_MEAS_V.SUSPECT]
  | .DPS_MON_I_CTL => [R.DPS_MON_I_CTL.EN, R.DPS_MON_I_CTL.COND, R.DPS_MON_I_CTL.LATCH_MODE, R.DPS_MON_I_CTL.CLR_MODE, R.DPS_MON_I_CTL.FILTER, R.DPS_MON_I_CTL.HYST, R.DPS_MON_I_CTL.ACTION]
  | .DPS_MON_I_THR => [R.DPS_MON_I_THR.HI, R.DPS_MON_I_THR.LO]
  | .DPS_MON_V_CTL => [R.DPS_MON_V_CTL.EN, R.DPS_MON_V_CTL.COND, R.DPS_MON_V_CTL.LATCH_MODE, R.DPS_MON_V_CTL.CLR_MODE, R.DPS_MON_V_CTL.FILTER, R.DPS_MON_V_CTL.HYST, R.DPS_MON_V_CTL.ACTION]
  | .DPS_MON_V_THR => [R.DPS_MON_V_THR.HI, R.DPS_MON_V_THR.LO]
  | .DPS_GANG => [R.DPS_GANG.LEADER, R.DPS_GANG.MEMBERS, R.DPS_GANG.GANG_DEGRADED]
  | .DPS_SPARE_STATUS => [R.DPS_SPARE_STATUS.CHANNEL, R.DPS_SPARE_STATUS.ASSIGNED, R.DPS_SPARE_STATUS.AVAILABLE]
  | .RED_STATUS => [R.RED_STATUS.PIPES_ACTIVE, R.RED_STATUS.SPARE_IN_USE]
  | .RED_DROP_ADC => [R.RED_DROP_ADC.DROPS]
  | .RED_DROP_SMU => [R.RED_DROP_SMU.DROPS]
  | .RED_DROP_TDC => [R.RED_DROP_TDC.DROPS]
  | .RED_NOT_OPEN => [R.RED_NOT_OPEN.COUNT]
  | .RED_CMD => [R.RED_CMD.CTX, R.RED_CMD.OP, R.RED_CMD.REFUSED]
  | .RED_CTX_PAGE => [R.RED_CTX_PAGE.GROUP]
  | .TDC_CFG => [R.TDC_CFG.MODE, R.TDC_CFG.CONT, R.TDC_CFG.START_SRC, R.TDC_CFG.START_EDGE, R.TDC_CFG.STOP_SRC, R.TDC_CFG.STOP_EDGE, R.TDC_CFG.DEST]
  | .TDC_CTX => [R.TDC_CTX.CTX]
  | .TDC_GATE => [R.TDC_GATE.GATE]
  | .TDC_CTL => [R.TDC_CTL.ARM, R.TDC_CTL.DISARM, R.TDC_CTL.ARMED, R.TDC_CTL.STARTED, R.TDC_CTL.FIFO_COUNT]
  | .TDC_COUNT => [R.TDC_COUNT.EARLY_STOP, R.TDC_COUNT.RESTART, R.TDC_COUNT.LOST]
  | .TDC_RES_LO => [R.TDC_RES_LO.VALUE_LO]
  | .TDC_RES_HI => [R.TDC_RES_HI.VALUE_HI, R.TDC_RES_HI.SUB_BIN, R.TDC_RES_HI.UNREFERENCED, R.TDC_RES_HI.UNCAL, R.TDC_RES_HI.OVERRANGE, R.TDC_RES_HI.FEW_EDGES, R.TDC_RES_HI.MODE, R.TDC_RES_HI.VALID]
  | .TDC_RES_COUNT => [R.TDC_RES_COUNT.COUNT]
  | .TDC_RES_TIME_LO => [R.TDC_RES_TIME_LO.TIME_LO]
  | .TDC_RES_TIME_HI => [R.TDC_RES_TIME_HI.TIME_HI]
  | .TDC_SPARE_STATUS => [R.TDC_SPARE_STATUS.REPLACED, R.TDC_SPARE_STATUS.ASSIGNED, R.TDC_SPARE_STATUS.AVAILABLE]
  | .ACQ_CTL => [R.ACQ_CTL.ARM, R.ACQ_CTL.DISARM, R.ACQ_CTL.FORCE, R.ACQ_CTL.REARM, R.ACQ_CTL.STATE, R.ACQ_CTL.ARM_REFUSED, R.ACQ_CTL.ARM_CAUSE]
  | .ACQ_SRC => [R.ACQ_SRC.KIND, R.ACQ_SRC.SEL, R.ACQ_SRC.FILT_EN, R.ACQ_SRC.FILT_VAL]
  | .ACQ_CFG => [R.ACQ_CFG.REDS, R.ACQ_CFG.COMBINE, R.ACQ_CFG.DEC]
  | .ACQ_PRE => [R.ACQ_PRE.PRE]
  | .ACQ_POST => [R.ACQ_POST.POST]
  | .ACQ_AUTO => [R.ACQ_AUTO.AUTO_TIMEOUT]
  | .ACQ_AREA => [R.ACQ_AREA.BASE, R.ACQ_AREA.BLOCKS]
  | .ACQ_FRAME => [R.ACQ_FRAME.UNITS]
  | .ACQ_RING => [R.ACQ_RING.SLOTS]
  | .ACQ_WPTR => [R.ACQ_WPTR.WPTR]
  | .ACQ_RPTR => [R.ACQ_RPTR.RPTR]
  | .ACQ_COUNT => [R.ACQ_COUNT.MISSED, R.ACQ_COUNT.FRAMES]
  | .ACQ_FO_LO => [R.ACQ_FO_LO.LO]
  | .ACQ_FO_HI => [R.ACQ_FO_HI.HI]
  | .ACQ_COND_CTL => [R.ACQ_COND_CTL.EN, R.ACQ_COND_CTL.TYPE, R.ACQ_COND_CTL.DIR, R.ACQ_COND_CTL.SEL]
  | .ACQ_COND_A => [R.ACQ_COND_A.A]
  | .ACQ_COND_B => [R.ACQ_COND_B.B]
  | .DEV_PRIO => [R.DEV_PRIO.SPLIT]
  | .EVH_STATUS => [R.EVH_STATUS.ROUTE_REFUSED]
  | .EVH_PEND => [R.EVH_PEND.PEND]
  | .EVH_HOLDOFF => [R.EVH_HOLDOFF.PERIOD, R.EVH_HOLDOFF.RUNNING]
  | .EVH_SRC_CFG => [R.EVH_SRC_CFG.ENABLE, R.EVH_SRC_CFG.PRIORITY, R.EVH_SRC_CFG.TARGET, R.EVH_SRC_CFG.HOLDOFF_GROUP]
  | .EVH_SRC_STATUS => [R.EVH_SRC_STATUS.PENDING, R.EVH_SRC_STATUS.CLAIMED, R.EVH_SRC_STATUS.LIVE, R.EVH_SRC_STATUS.KIND, R.EVH_SRC_STATUS.LEVEL_AT_CLAIM, R.EVH_SRC_STATUS.COUNT_SAT, R.EVH_SRC_STATUS.COUNT, R.EVH_SRC_STATUS.SET, R.EVH_SRC_STATUS.CLEAR]
  | .TIME_ADJ_LO => [R.TIME_ADJ_LO.ADJ_LO]
  | .TIME_ADJ_HI => [R.TIME_ADJ_HI.ADJ_HI]
  | .TIME_ADJ_TICKS => [R.TIME_ADJ_TICKS.TICKS]
  | .TIME_STEP_NS => [R.TIME_STEP_NS.NS]
  | .TIME_STEP_SEC_LO => [R.TIME_STEP_SEC_LO.SEC_LO]
  | .TIME_STEP_SEC_HI => [R.TIME_STEP_SEC_HI.SEC_HI, R.TIME_STEP_SEC_HI.NEG]
  | .TIME_STEP_CTL => [R.TIME_STEP_CTL.GO, R.TIME_STEP_CTL.MODE, R.TIME_STEP_CTL.BUSY, R.TIME_STEP_CTL.REFUSED]
  | .TIME_PORT_STATUS => [R.TIME_PORT_STATUS.MODE, R.TIME_PORT_STATUS.LINK, R.TIME_PORT_STATUS.TX_REFUSED, R.TIME_PORT_STATUS.TX_BUSY]
  | .TIME_PORT_MAC_LO => [R.TIME_PORT_MAC_LO.MAC_LO]
  | .TIME_PORT_MAC_HI => [R.TIME_PORT_MAC_HI.MAC_HI]
  | .TIME_PORT_ING_LAT => [R.TIME_PORT_ING_LAT.ING_LAT]
  | .TIME_PORT_EGR_LAT => [R.TIME_PORT_EGR_LAT.EGR_LAT]
  | .TIME_PORT_ASYM => [R.TIME_PORT_ASYM.ASYM]
  | .TIME_PORT_RX => [R.TIME_PORT_RX.HEAD, R.TIME_PORT_RX.COUNT, R.TIME_PORT_RX.POP]
  | .TIME_PORT_TX => [R.TIME_PORT_TX.SLOT, R.TIME_PORT_TX.ONE_STEP, R.TIME_PORT_TX.STAMP, R.TIME_PORT_TX.GO, R.TIME_PORT_TX.TAG]
  | .TX_STAMP_FRAC => [R.TX_STAMP_FRAC.FRAC, R.TX_STAMP_FRAC.QUALITY, R.TX_STAMP_FRAC.VALID]
  | .TX_STAMP_NS => [R.TX_STAMP_NS.NS]
  | .TX_STAMP_SEC_LO => [R.TX_STAMP_SEC_LO.SEC_LO]
  | .TX_STAMP_SEC_HI => [R.TX_STAMP_SEC_HI.SEC_HI, R.TX_STAMP_SEC_HI.TAG]
  | .TIME_PORT_DROP => [R.TIME_PORT_DROP.TYPE, R.TIME_PORT_DROP.ADDR, R.TIME_PORT_DROP.SIZE, R.TIME_PORT_DROP.FULL]
  | .TIME_PORT_ERR => [R.TIME_PORT_ERR.FCS, R.TIME_PORT_ERR.TX_LOST]
  | .TEV_CFG => [R.TEV_CFG.PERIODIC, R.TEV_CFG.POL]
  | .TEV_START_NS => [R.TEV_START_NS.NS]
  | .TEV_START_SEC_LO => [R.TEV_START_SEC_LO.SEC_LO]
  | .TEV_START_SEC_HI => [R.TEV_START_SEC_HI.SEC_HI]
  | .TEV_START_FRAC => [R.TEV_START_FRAC.FRAC]
  | .TEV_PERIOD_NS => [R.TEV_PERIOD_NS.NS]
  | .TEV_PERIOD_FRAC => [R.TEV_PERIOD_FRAC.FRAC]
  | .TEV_WIDTH => [R.TEV_WIDTH.WIDTH]
  | .TEV_CTL => [R.TEV_CTL.ARM, R.TEV_CTL.DISARM, R.TEV_CTL.ARMED, R.TEV_CTL.ARM_REFUSED, R.TEV_CTL.CAUSE, R.TEV_CTL.LATE]
  | .TEV_COUNT => [R.TEV_COUNT.FIRED, R.TEV_COUNT.SKIPPED]
  | .HOST_ID => [R.HOST_ID.SAGGAR, R.HOST_ID.PORT, R.HOST_ID.HALF, R.HOST_ID.FUNCTION, R.HOST_ID.BOUND]
  | .HOST_LINK => [R.HOST_LINK.SPEED, R.HOST_LINK.WIDTH, R.HOST_LINK.DEGRADED]
  | .HOST_REFUSE => [R.HOST_REFUSE.COUNT]
  | .HOST_REFUSE_ADDR => [R.HOST_REFUSE_ADDR.OFFSET, R.HOST_REFUSE_ADDR.BAR2]
  | .HOST_ERR => [R.HOST_ERR.BAD_SIZE, R.HOST_ERR.POISON_RX, R.HOST_ERR.UR, R.HOST_ERR.CPL_TIMEOUT, R.HOST_ERR.POISON_TX]
  | .SAG_START => [R.SAG_START.TILE_MASK, R.SAG_START.AT_TEV, R.SAG_START.TEV, R.SAG_START.GO, R.SAG_START.ARMED, R.SAG_START.REFUSED, R.SAG_START.CANCEL]
  | .SAG_TILES => [R.SAG_TILES.TILES]
  | .SAG_ALLOT => [R.SAG_ALLOT.INDEX, R.SAG_ALLOT.KIND, R.SAG_ALLOT.SAGGAR, R.SAG_ALLOT.OP, R.SAG_ALLOT.STATUS, R.SAG_ALLOT.CAUSE]
  | .SAG_QUOTA_A => [R.SAG_QUOTA_A.CAPTURE_BLOCKS, R.SAG_QUOTA_A.CONTEXT_GROUPS]
  | .SAG_QUOTA_B => [R.SAG_QUOTA_B.STREAM_SHARE, R.SAG_QUOTA_B.QUEUE_DEPTH_LOG2]
  | .SAG_USE => [R.SAG_USE.BLOCKS, R.SAG_USE.GROUPS]
  | .SAG_OVER => [R.SAG_OVER.CAPTURE, R.SAG_OVER.CONTEXT, R.SAG_OVER.QUEUE, R.SAG_OVER.QUOTA_REFUSED]
  | .FLS_CMD => [R.FLS_CMD.OPCODE, R.FLS_CMD.ADDR_BYTES, R.FLS_CMD.DUMMY, R.FLS_CMD.DATA_LEN, R.FLS_CMD.DIR, R.FLS_CMD.WREN, R.FLS_CMD.POLL, R.FLS_CMD.GO, R.FLS_CMD.STATUS]
  | .FLS_ADDR => [R.FLS_ADDR.ADDR]
  | .FLS_LOCK => [R.FLS_LOCK.REQ, R.FLS_LOCK.RELEASE, R.FLS_LOCK.HOLDER, R.FLS_LOCK.REFUSED]
  | .FLS_STATUS => [R.FLS_STATUS.BUSY, R.FLS_STATUS.POLL_TIMEOUT, R.FLS_STATUS.RANGE, R.FLS_STATUS.WIN_WRITE_REFUSED, R.FLS_STATUS.WIN_BUSY_READ, R.FLS_STATUS.SIZE_MISMATCH, R.FLS_STATUS.PRESENT, R.FLS_STATUS.WIDE, R.FLS_STATUS.LAST_SR]
  | .FLS_CFG => [R.FLS_CFG.DIV, R.FLS_CFG.POLL_LIMIT]
  | .FLS_WIN_PAGE => [R.FLS_WIN_PAGE.PAGE]
  | .FLS_BUF => [R.FLS_BUF.DATA]
  | .CAL_CTL => [R.CAL_CTL.AUTO_EN, R.CAL_CTL.REQ, R.CAL_CTL.ABORT, R.CAL_CTL.SHADOW_EN, R.CAL_CTL.GAP_EN, R.CAL_CTL.REQ_PENDING, R.CAL_CTL.CAL_DT, R.CAL_CTL.RUN_LIMIT]
  | .CAL_STATUS => [R.CAL_STATUS.PHASE, R.CAL_STATUS.FIRST_DONE, R.CAL_STATUS.DUE, R.CAL_STATUS.SPINE_FAIL, R.CAL_STATUS.STEP, R.CAL_STATUS.UNITS_LEFT]
  | .CAL_COUNT => [R.CAL_COUNT.COUNT]
  | .CAL_LAST_TIME_LO => [R.CAL_LAST_TIME_LO.TIME_LO]
  | .CAL_LAST_TIME_HI => [R.CAL_LAST_TIME_HI.TIME_HI]
  | .CAL_TEMP => [R.CAL_TEMP.T_REF, R.CAL_TEMP.T_NOW]
  | .CAL_GLAZE => [R.CAL_GLAZE.GLAZE_INTERVAL, R.CAL_GLAZE.GLAZING]
  | .CAL_RESULT => [R.CAL_RESULT.SKIPPED, R.CAL_RESULT.DEFERRED]
  | .CAL_RESULT2 => [R.CAL_RESULT2.FAILED, R.CAL_RESULT2.WORN]
  | .CAL_SPINE => [R.CAL_SPINE.VERR, R.CAL_SPINE.TERR]
  | .CAL_SKIP_LAST => [R.CAL_SKIP_LAST.PLACE, R.CAL_SKIP_LAST.CAUSE]
  | .CAL_EXCL => [R.CAL_EXCL.EXCL]
  | .CAL_QUERY => [R.CAL_QUERY.PLACE, R.CAL_QUERY.FE]
  | .CAL_QUERY_RES => [R.CAL_QUERY_RES.RESULT, R.CAL_QUERY_RES.GLAZING, R.CAL_QUERY_RES.RUN]
  | .NVM_CMD => [R.NVM_CMD.OP, R.NVM_CMD.KIND, R.NVM_CMD.STATUS, R.NVM_CMD.WAIT_WINDOW, R.NVM_CMD.VALID, R.NVM_CMD.ERR]
  | .NVM_BUF => [R.NVM_BUF.DATA]
  | .SPR_QUERY => [R.SPR_QUERY.PLACE, R.SPR_QUERY.FE]
  | .SPR_CMD => [R.SPR_CMD.PLACE, R.SPR_CMD.OP, R.SPR_CMD.STATUS]
  | .SPR_PENDING => [R.SPR_PENDING.COUNT]
  | .DEV_LEGACY => [R.DEV_LEGACY.ENABLED, R.DEV_LEGACY.PLAYING, R.DEV_LEGACY.REFUSED_PERIOD, R.DEV_LEGACY.THERMAL_DISCARD]
  | .SMU_FORCE_CODE => [R.SMU_FORCE_CODE.CODE]
  | .SMU_FORCE_CFG => [R.SMU_FORCE_CFG.UPD_MODE, R.SMU_FORCE_CFG.STROBE_SEL, R.SMU_FORCE_CFG.SPAN]
  | .SMU_FORCE_SLEW => [R.SMU_FORCE_SLEW.STEP, R.SMU_FORCE_SLEW.RATE_M1]
  | .SMU_FORCE_STATUS => [R.SMU_FORCE_STATUS.PRESENT, R.SMU_FORCE_STATUS.CLAMPED, R.SMU_FORCE_STATUS.MOVING, R.SMU_FORCE_STATUS.LIMIT_REFUSED, R.SMU_FORCE_STATUS.SPAN_REFUSED]
  | .DPS_SET_CODE => [R.DPS_SET_CODE.CODE]
  | .DPS_SET_CFG => [R.DPS_SET_CFG.UPD_MODE, R.DPS_SET_CFG.STROBE_SEL, R.DPS_SET_CFG.STROBE_TILE, R.DPS_SET_CFG.SPAN]
  | .DPS_SET_SLEW => [R.DPS_SET_SLEW.STEP, R.DPS_SET_SLEW.RATE_M1]
  | .DPS_SET_STATUS => [R.DPS_SET_STATUS.PRESENT, R.DPS_SET_STATUS.CLAMPED, R.DPS_SET_STATUS.MOVING, R.DPS_SET_STATUS.SPAN_REFUSED]
  | .SEQ_CNT => [R.SEQ_CNT.VALUE]
  | .SEQ_CNT_SNAP => [R.SEQ_CNT_SNAP.VALUE]
  | .SEQ_CINIT => [R.SEQ_CINIT.VALUE]
  | .SEQ_TIMEOUT => [R.SEQ_TIMEOUT.VALUE]
  | .SEQ_STACK => [R.SEQ_STACK.RETURN, R.SEQ_STACK.LEVEL, R.SEQ_STACK.BASE, R.SEQ_STACK.IN_FLIGHT, R.SEQ_STACK.ATOMIC]
  | .SMU_SPARE_STATUS => [R.SMU_SPARE_STATUS.OCTET, R.SMU_SPARE_STATUS.ASSIGNED, R.SMU_SPARE_STATUS.AVAILABLE]
  | .SAG_BLK_OWNER => [R.SAG_BLK_OWNER.SAGGAR, R.SAG_BLK_OWNER.ALLOTTED, R.SAG_BLK_OWNER.IN_USE, R.SAG_BLK_OWNER.CLEARING]
  | .SAG_GRP_OWNER => [R.SAG_GRP_OWNER.SAGGAR, R.SAG_GRP_OWNER.ALLOTTED, R.SAG_GRP_OWNER.IN_USE, R.SAG_GRP_OWNER.DRAINING]
  | .ACQ_PAT_H_LO => [R.ACQ_PAT_H_LO.PAT_H]
  | .ACQ_PAT_H_HI => [R.ACQ_PAT_H_HI.PAT_H]
  | .ACQ_PAT_L_LO => [R.ACQ_PAT_L_LO.PAT_L]
  | .ACQ_PAT_L_HI => [R.ACQ_PAT_L_HI.PAT_L]
  | .ACQ_PAT_MASK_LO => [R.ACQ_PAT_MASK_LO.MASK]
  | .ACQ_PAT_MASK_HI => [R.ACQ_PAT_MASK_HI.MASK]
  | .TIME_PORT_TX_REF_FRAC => [R.TIME_PORT_TX_REF_FRAC.REF]
  | .TIME_PORT_TX_REF_NS => [R.TIME_PORT_TX_REF_NS.REF]
  | .TIME_PORT_TX_REF_SEC => [R.TIME_PORT_TX_REF_SEC.REF]
  | .LANE_CTL => [R.LANE_CTL.OVERRIDE, R.LANE_CTL.OFF_MODE, R.LANE_CTL.LOAD_EN, R.LANE_CTL.CLAMP_EN, R.LANE_CTL.CMP_EN]
  | .LANE_DRV_CTL => [R.LANE_DRV_CTL.EDGE_RATE]
  | .LANE_CMP_CTL => [R.LANE_CMP_CTL.HYST_H, R.LANE_CMP_CTL.HYST_L]
  | .LANE_LOAD => [R.LANE_LOAD.IOH, R.LANE_LOAD.IOL]
  | .LANE_PPMU_CTL => [R.LANE_PPMU_CTL.MODE, R.LANE_PPMU_CTL.RANGE, R.LANE_PPMU_CTL.CONNECT, R.LANE_PPMU_CTL.CONNECTED]
  | .LANE_MON_CTL => [R.LANE_MON_CTL.COND, R.LANE_MON_CTL.LATCH_MODE, R.LANE_MON_CTL.CLR_MODE, R.LANE_MON_CTL.FILTER]
  | .LANE_MON => [R.LANE_MON.LATCH, R.LANE_MON.CH, R.LANE_MON.CL, R.LANE_MON.UNSETTLED_H, R.LANE_MON.UNSETTLED_L]
  | .LANE_STATUS => [R.LANE_STATUS.DRV_TRIP, R.LANE_STATUS.CLAMP_HIT, R.LANE_STATUS.OVERSPEED, R.LANE_STATUS.DRIVE_BLOCKED, R.LANE_STATUS.LOAD_SUPPRESSED, R.LANE_STATUS.CONNECTED, R.LANE_STATUS.SWING_CLASS]
  | .OCT_LVL_UPDATE => [R.OCT_LVL_UPDATE.GO, R.OCT_LVL_UPDATE.ALL_OWNED]
  | .SEQ_HOST_FLAGS => [R.SEQ_HOST_FLAGS.FLAGS]
  | .OCT_MATRIX => [R.OCT_MATRIX.LANE_SEL, R.OCT_MATRIX.BALL_EN, R.OCT_MATRIX.LANES_ON, R.OCT_MATRIX.BALL_ON]
  | .OCT_STATUS => [R.OCT_STATUS.CONFLICT, R.OCT_STATUS.DROPPED, R.OCT_STATUS.BALL_UNAVAIL, R.OCT_STATUS.SMU_SOURCE, R.OCT_STATUS.ADC_BORROWED, R.OCT_STATUS.ADC_LENDING]
  | .OCT_PPMU_COMPL => [R.OCT_PPMU_COMPL.IN_COMPL, R.OCT_PPMU_COMPL.COMPL_HIT]
  | .ADC_CTL => [R.ADC_CTL.LEN_M1, R.ADC_CTL.MODE, R.ADC_CTL.TRIG, R.ADC_CTL.TRIG_SEL, R.ADC_CTL.GO, R.ADC_CTL.STOP]
  | .ADC_STATUS => [R.ADC_STATUS.ENTRY, R.ADC_STATUS.BUSY, R.ADC_STATUS.TRIG_MISSED, R.ADC_STATUS.FIFO_COUNT]
  | .ADC_FIFO => [R.ADC_FIFO.CODE, R.ADC_FIFO.ENTRY, R.ADC_FIFO.LANE, R.ADC_FIFO.RANGE, R.ADC_FIFO.QTY, R.ADC_FIFO.COMPLIANCE, R.ADC_FIFO.SUSPECT, R.ADC_FIFO.VALID]
  | .ADC_FIFO_TIME_LO => [R.ADC_FIFO_TIME_LO.TIME_LO]
  | .ADC_FIFO_TIME_HI => [R.ADC_FIFO_TIME_HI.TIME_HI]
  | .ADC_LOST => [R.ADC_LOST.LOST]
  | .ADC_SEQ_A => [R.ADC_SEQ_A.LANE, R.ADC_SEQ_A.AVG_LOG2, R.ADC_SEQ_A.SETTLE, R.ADC_SEQ_A.DEST]
  | .ADC_SEQ_B => [R.ADC_SEQ_B.CTX]
  | .SMU_CTL => [R.SMU_CTL.FMODE, R.SMU_CTL.IRANGE]
  | .SMU_CLAMP => [R.SMU_CLAMP.ICLAMP]
  | .SMU_VCLAMP => [R.SMU_VCLAMP.VHI, R.SMU_VCLAMP.VLO]
  | .SMU_MEAS => [R.SMU_MEAS.RUN, R.SMU_MEAS.QTY, R.SMU_MEAS.AVG_LOG2, R.SMU_MEAS.DEST, R.SMU_MEAS.CTX]
  | .SMU_MON_CTL => [R.SMU_MON_CTL.EN, R.SMU_MON_CTL.COND, R.SMU_MON_CTL.LATCH_MODE, R.SMU_MON_CTL.CLR_MODE, R.SMU_MON_CTL.FILTER, R.SMU_MON_CTL.HYST]
  | .SMU_MON_THR => [R.SMU_MON_THR.HI, R.SMU_MON_THR.LO]
  | .SMU_STATUS => [R.SMU_STATUS.IN_COMPLIANCE, R.SMU_STATUS.COMPLIANCE_HIT, R.SMU_STATUS.MON_LATCH, R.SMU_STATUS.MON_UNSETTLED, R.SMU_STATUS.SENSE_FAULT, R.SMU_STATUS.LOCAL_SENSE]
  | .SMU_FIFO => [R.SMU_FIFO.RESULT]
  | .SMU_FIFO_TIME_LO => [R.SMU_FIFO_TIME_LO.TIME_LO]
  | .SMU_FIFO_TIME_HI => [R.SMU_FIFO_TIME_HI.TIME_HI]
  | .SMU_LOST => [R.SMU_LOST.LOST]
  | .RED_GRP_AREA => [R.RED_GRP_AREA.BASE, R.RED_GRP_AREA.BLOCKS]
  | .RED_GRP_WPTR => [R.RED_GRP_WPTR.WPTR]
  | .RED_GRP_RPTR => [R.RED_GRP_RPTR.RPTR]
  | .RED_GRP_STATUS => [R.RED_GRP_STATUS.FULL, R.RED_GRP_STATUS.AREA_REFUSED, R.RED_GRP_STATUS.PENDING]
  | .EVH_Q_BASE_LO => [R.EVH_Q_BASE_LO.BASE_LO]
  | .EVH_Q_BASE_HI => [R.EVH_Q_BASE_HI.BASE_HI]
  | .EVH_Q_CFG => [R.EVH_Q_CFG.EN, R.EVH_Q_CFG.SIZE_LOG2]
  | .EVH_Q_WPTR => [R.EVH_Q_WPTR.WPTR, R.EVH_Q_WPTR.PHASE]
  | .EVH_Q_RPTR => [R.EVH_Q_RPTR.RPTR]
  | .EVH_Q_STATUS => [R.EVH_Q_STATUS.FULL, R.EVH_Q_STATUS.NOTIFY_WITHHELD, R.EVH_Q_STATUS.ERROR, R.EVH_Q_STATUS.RECORDS]
  | .HOST_DMA_BASE_LO => [R.HOST_DMA_BASE_LO.BASE_LO]
  | .HOST_DMA_BASE_HI => [R.HOST_DMA_BASE_HI.BASE_HI]
  | .HOST_DMA_CFG => [R.HOST_DMA_CFG.EN, R.HOST_DMA_CFG.SIZE_LOG2]
  | .HOST_DMA_TAIL => [R.HOST_DMA_TAIL.TAIL]
  | .HOST_DMA_HEAD => [R.HOST_DMA_HEAD.HEAD]
  | .HOST_DMA_STATUS => [R.HOST_DMA_STATUS.ERROR, R.HOST_DMA_STATUS.BUSY, R.HOST_DMA_STATUS.LAST_CODE, R.HOST_DMA_STATUS.DONE_COUNT]

/-- The offsets of each register (R5, R36); HK_SEQ_ registers follow the tile instances (R259). -/
def Reg.windows : Reg → List Win
  | .DEV_RESET_CAUSE => [⟨0x14, [], 0⟩]
  | .SPIS_STATUS => [⟨0x2000000, [], 0⟩]
  | .SPIS_COUNT => [⟨0x2000004, [], 0⟩]
  | .SPIS_RESET_CAUSE => [⟨0x2000008, [], 0⟩]
  | .SPIS_TRIP => [⟨0x200000C, [], 0⟩]
  | .SPIS_SCRATCH => [⟨0x2000010, [], 0⟩]
  | .SPIS_MIRROR => [⟨0x2000100, [(32, 16), (4, 8)], 0⟩]
  | .LOG_SEQ => [⟨0x14004, [], 0⟩]
  | .DEV_IDENT => [⟨0x0, [], 0⟩]
  | .DEV_CLK => [⟨0x40, [], 0⟩]
  | .DEV_MOULD_STATUS => [⟨0x110, [], 0⟩]
  | .DEV_MOULD_FLASH => [⟨0x114, [], 0⟩]
  | .DEV_STRAP => [⟨0x1C, [], 0⟩]
  | .TIME_NOW_FRAC => [⟨0x40000, [], 0⟩]
  | .TIME_NOW_NS => [⟨0x40004, [], 0⟩]
  | .TIME_NOW_SEC_LO => [⟨0x40008, [], 0⟩]
  | .TIME_NOW_SEC_HI => [⟨0x4000C, [], 0⟩]
  | .TIME_ADDEND_LO => [⟨0x40010, [], 0⟩]
  | .TIME_ADDEND_HI => [⟨0x40014, [], 0⟩]
  | .TIME_QUAL => [⟨0x40034, [], 0⟩]
  | .FLS_ID => [⟨0x810, [], 0⟩]
  | .HK_ROUND_COUNT => [⟨0x10400, [], 0⟩]
  | .HK_STATUS => [⟨0x10404, [], 0⟩]
  | .HK_SUPPLY_VAL => [⟨0x10440, [(16, 8)], 0⟩]
  | .HK_SUPPLY_LIM => [⟨0x10444, [(16, 8)], 0⟩]
  | .HK_SPINE => [⟨0x10500, [(4, 4)], 0⟩]
  | .THS_TEMP => [⟨0x11000, [(4, 22)], 0⟩]
  | .THS_BROKEN => [⟨0x11060, [], 0⟩]
  | .THS_READMIT => [⟨0x11064, [], 0⟩]
  | .THS_TJ => [⟨0x11068, [], 0⟩]
  | .THS_CONE => [⟨0x1106C, [], 0⟩]
  | .THS_STATUS => [⟨0x11070, [], 0⟩]
  | .THS_CTL => [⟨0x11074, [], 0⟩]
  | .NVM_SEQ => [⟨0x12004, [], 0⟩]
  | .NVM_STATUS => [⟨0x12008, [], 0⟩]
  | .NVM_SERIAL_LO => [⟨0x1200C, [], 0⟩]
  | .NVM_SERIAL_HI => [⟨0x12010, [], 0⟩]
  | .SPR_RESERVE_Q => [⟨0x13000, [(4, 4)], 0⟩]
  | .SPR_RESERVE_DEV => [⟨0x13010, [], 0⟩]
  | .SPR_QUERY_RES => [⟨0x13024, [], 0⟩]
  | .SPR_ROWS => [⟨0x13100, [(4, 86)], 0⟩]
  | .LOG_STATUS => [⟨0x14000, [], 0⟩]
  | .LOG_LOST => [⟨0x14008, [], 0⟩]
  | .LOG_PAGE => [⟨0x1400C, [], 0⟩]
  | .DEV_FUSE_HASH => [⟨0x140, [(4, 12)], 0⟩]
  | .DEV_FUSE_CMD => [⟨0x170, [], 0⟩]
  | .DEV_MOULD_CTL => [⟨0x100, [], 0⟩]
  | .DEV_MOULD_ADDR_LO => [⟨0x104, [], 0⟩]
  | .DEV_MOULD_ADDR_HI => [⟨0x108, [], 0⟩]
  | .DEV_MOULD_LEN => [⟨0x10C, [], 0⟩]
  | .DEV_MOULD_INFO => [⟨0x118, [], 0⟩]
  | .DEV_MOULD_PLANT => [⟨0x11C, [], 0⟩]
  | .DEV_MODE => [⟨0x10, [], 0⟩]
  | .DEV_START => [⟨0x18, [], 0⟩]
  | .DEV_STARTUP => [⟨0x20, [], 0⟩]
  | .LANE_FE => [⟨0x140020, [(256, 1024)], 0⟩]
  | .LVL_CFG => [⟨0x140040, [(256, 1024)], 0⟩]
  | .LVL_SPAN => [⟨0x140044, [(256, 1024)], 0⟩]
  | .LVL_SLEW => [⟨0x140048, [(256, 1024), (4, 4)], 0⟩]
  | .LVL_PPMU_CODE => [⟨0x140058, [(256, 1024)], 0⟩]
  | .LVL_STATUS => [⟨0x14005C, [(256, 1024)], 0⟩]
  | .LVL_NOW => [⟨0x140060, [(256, 1024), (4, 5)], 0⟩]
  | .LVL_SET => [⟨0x86000, [(32768, 16), (1024, 8), (16, 64), (4, 4)], 0⟩]
  | .TS_LANE_EDGE => [⟨0x84000, [(32768, 16), (32, 64), (4, 6)], 0⟩]
  | .TS_LANE_MODE => [⟨0x84018, [(32768, 16), (32, 64)], 0⟩]
  | .TS_STAGE_PERIOD => [⟨0x84800, [(32768, 16)], 0⟩]
  | .TS_COMMIT => [⟨0x84804, [(32768, 16)], 0⟩]
  | .TS_CTL => [⟨0x84808, [(32768, 16)], 0⟩]
  | .TS_STATUS => [⟨0x8480C, [(32768, 16)], 0⟩]
  | .TS_DROP_COUNT => [⟨0x84810, [(32768, 16)], 0⟩]
  | .TS_NCO_FTW_LO => [⟨0x84840, [(32768, 16), (32, 8)], 0⟩]
  | .TS_NCO_FTW_HI => [⟨0x84844, [(32768, 16), (32, 8)], 0⟩]
  | .TS_NCO_PHASE_LO => [⟨0x84848, [(32768, 16), (32, 8)], 0⟩]
  | .TS_NCO_PHASE_HI => [⟨0x8484C, [(32768, 16), (32, 8)], 0⟩]
  | .TS_NCO_CTL => [⟨0x84850, [(32768, 16), (32, 8)], 0⟩]
  | .SEG_STORE_CFG => [⟨0x85C00, [(32768, 16)], 0⟩]
  | .SEG_LANE_DIR => [⟨0x85C10, [(32768, 16), (4, 4)], 0⟩]
  | .SEG_LANE_FIXED => [⟨0x85C20, [(32768, 16), (4, 8)], 0⟩]
  | .SEG_CTLW_ADDR => [⟨0x85C40, [(32768, 16)], 0⟩]
  | .SEG_CTLW_DATA => [⟨0x85C44, [(32768, 16)], 0⟩]
  | .SEG_STORE_STATUS => [⟨0x85C48, [(32768, 16)], 0⟩]
  | .SEG_STORE_ERRADDR => [⟨0x85C4C, [(32768, 16)], 0⟩]
  | .SEQ_CTL => [⟨0x80000, [(32768, 16)], 0⟩, ⟨0x10000, [], 16⟩]
  | .SEQ_ENTRY => [⟨0x80004, [(32768, 16)], 0⟩, ⟨0x10004, [], 16⟩]
  | .SEQ_STATUS => [⟨0x80008, [(32768, 16)], 0⟩, ⟨0x10008, [], 16⟩]
  | .SEQ_PC => [⟨0x8000C, [(32768, 16)], 0⟩, ⟨0x1000C, [], 16⟩]
  | .SEQ_LOAD => [⟨0x80010, [(32768, 16)], 0⟩, ⟨0x10010, [], 16⟩]
  | .SEQ_NANO_PAGE => [⟨0x80014, [(32768, 16)], 0⟩]
  | .SEQ_MC => [⟨0x80018, [(32768, 16)], 0⟩, ⟨0x10018, [], 16⟩]
  | .SEQ_MC_INFO => [⟨0x8001C, [(32768, 16)], 0⟩, ⟨0x1001C, [], 16⟩]
  | .SEQ_SITE_SEL => [⟨0x80024, [(32768, 16)], 0⟩]
  | .SEQ_START => [⟨0x80028, [(32768, 16)], 0⟩]
  | .HK_SEQ_FLASH_BASE => [⟨0x10030, [], 0⟩]
  | .SEG_RING_CFG => [⟨0x85000, [(32768, 16)], 0⟩]
  | .SEG_RING_CTL => [⟨0x85004, [(32768, 16)], 0⟩]
  | .SEG_RING_STATUS => [⟨0x85008, [(32768, 16)], 0⟩]
  | .SEG_RING_FILL => [⟨0x8500C, [(32768, 16)], 0⟩]
  | .SEG_JUMP => [⟨0x85010, [(32768, 16)], 0⟩]
  | .SEG_STATUS => [⟨0x85014, [(32768, 16)], 0⟩]
  | .SEG_ITER => [⟨0x85018, [(32768, 16)], 0⟩]
  | .SEG_CHECK => [⟨0x8501C, [(32768, 16)], 0⟩]
  | .SEG_COUNT => [⟨0x85020, [(32768, 16)], 0⟩]
  | .SEG_COUNT2 => [⟨0x85024, [(32768, 16)], 0⟩]
  | .SEG_HOLD_VECTORS => [⟨0x85028, [(32768, 16)], 0⟩]
  | .SEG_GROUP_WAIT => [⟨0x8502C, [(32768, 16)], 0⟩]
  | .SEG_SLOT => [⟨0x85400, [(32768, 16), (4, 256)], 0⟩]
  | .CMP_CTL => [⟨0x82000, [(32768, 16)], 0⟩]
  | .CMP_STATUS => [⟨0x82004, [(32768, 16)], 0⟩]
  | .CMP_CYCLE_LO => [⟨0x82008, [(32768, 16)], 0⟩]
  | .CMP_CYCLE_HI => [⟨0x8200C, [(32768, 16)], 0⟩]
  | .CMP_TILE_FAILS => [⟨0x82010, [(32768, 16)], 0⟩]
  | .CMP_LOG_CTL => [⟨0x82020, [(32768, 16)], 0⟩]
  | .CMP_LOG_AREA => [⟨0x82024, [(32768, 16)], 0⟩]
  | .CMP_LOG_STATUS => [⟨0x82028, [(32768, 16)], 0⟩]
  | .CMP_LOG_LOST => [⟨0x8202C, [(32768, 16)], 0⟩]
  | .CMP_LANE_FAIL => [⟨0x82100, [(32768, 16), (4, 64)], 0⟩]
  | .CMP_SITE_CTL => [⟨0x82400, [(32768, 16), (32, 64)], 0⟩]
  | .CMP_SITE_STATUS => [⟨0x82404, [(32768, 16), (32, 64)], 0⟩]
  | .CMP_SITE_FF_LO => [⟨0x82408, [(32768, 16), (32, 64)], 0⟩]
  | .CMP_SITE_FF_HI => [⟨0x8240C, [(32768, 16), (32, 64)], 0⟩]
  | .CMP_SITE_FF_VA => [⟨0x82410, [(32768, 16), (32, 64)], 0⟩]
  | .CMP_SITE_FF_INFO => [⟨0x82414, [(32768, 16), (32, 64)], 0⟩]
  | .CMP_SITE_FAILV => [⟨0x82418, [(32768, 16), (32, 64)], 0⟩]
  | .DPS_CTL => [⟨0x180010, [(1024, 36)], 0⟩]
  | .DPS_LIMIT => [⟨0x180014, [(1024, 36)], 0⟩]
  | .DPS_STATUS => [⟨0x180018, [(1024, 36)], 0⟩]
  | .DPS_MEAS_I => [⟨0x18001C, [(1024, 36)], 0⟩]
  | .DPS_MEAS_V => [⟨0x180020, [(1024, 36)], 0⟩]
  | .DPS_MON_I_CTL => [⟨0x180024, [(1024, 36)], 0⟩]
  | .DPS_MON_I_THR => [⟨0x180028, [(1024, 36)], 0⟩]
  | .DPS_MON_V_CTL => [⟨0x18002C, [(1024, 36)], 0⟩]
  | .DPS_MON_V_THR => [⟨0x180030, [(1024, 36)], 0⟩]
  | .DPS_GANG => [⟨0x180034, [(1024, 36)], 0⟩]
  | .DPS_SPARE_STATUS => [⟨0x180038, [(1024, 36)], 0⟩]
  | .RED_STATUS => [⟨0x60000, [], 0⟩]
  | .RED_DROP_ADC => [⟨0x60010, [], 0⟩]
  | .RED_DROP_SMU => [⟨0x60014, [], 0⟩]
  | .RED_DROP_TDC => [⟨0x60018, [], 0⟩]
  | .RED_NOT_OPEN => [⟨0x6001C, [], 0⟩]
  | .RED_CMD => [⟨0x60020, [], 0⟩]
  | .RED_CTX_PAGE => [⟨0x60024, [], 0⟩]
  | .TDC_CFG => [⟨0x61000, [(64, 68)], 0⟩]
  | .TDC_CTX => [⟨0x61004, [(64, 68)], 0⟩]
  | .TDC_GATE => [⟨0x61008, [(64, 68)], 0⟩]
  | .TDC_CTL => [⟨0x6100C, [(64, 68)], 0⟩]
  | .TDC_COUNT => [⟨0x61010, [(64, 68)], 0⟩]
  | .TDC_RES_LO => [⟨0x61014, [(64, 68)], 0⟩]
  | .TDC_RES_HI => [⟨0x61018, [(64, 68)], 0⟩]
  | .TDC_RES_COUNT => [⟨0x6101C, [(64, 68)], 0⟩]
  | .TDC_RES_TIME_LO => [⟨0x61020, [(64, 68)], 0⟩]
  | .TDC_RES_TIME_HI => [⟨0x61024, [(64, 68)], 0⟩]
  | .TDC_SPARE_STATUS => [⟨0x6103C, [(64, 68)], 0⟩]
  | .ACQ_CTL => [⟨0x83000, [(32768, 16)], 0⟩]
  | .ACQ_SRC => [⟨0x83004, [(32768, 16)], 0⟩]
  | .ACQ_CFG => [⟨0x83008, [(32768, 16)], 0⟩]
  | .ACQ_PRE => [⟨0x8300C, [(32768, 16)], 0⟩]
  | .ACQ_POST => [⟨0x83010, [(32768, 16)], 0⟩]
  | .ACQ_AUTO => [⟨0x83014, [(32768, 16)], 0⟩]
  | .ACQ_AREA => [⟨0x83018, [(32768, 16)], 0⟩]
  | .ACQ_FRAME => [⟨0x8301C, [(32768, 16)], 0⟩]
  | .ACQ_RING => [⟨0x83020, [(32768, 16)], 0⟩]
  | .ACQ_WPTR => [⟨0x83024, [(32768, 16)], 0⟩]
  | .ACQ_RPTR => [⟨0x83028, [(32768, 16)], 0⟩]
  | .ACQ_COUNT => [⟨0x8302C, [(32768, 16)], 0⟩]
  | .ACQ_FO_LO => [⟨0x83030, [(32768, 16)], 0⟩]
  | .ACQ_FO_HI => [⟨0x83034, [(32768, 16)], 0⟩]
  | .ACQ_COND_CTL => [⟨0x83080, [(32768, 16), (16, 8)], 0⟩]
  | .ACQ_COND_A => [⟨0x83084, [(32768, 16), (16, 8)], 0⟩]
  | .ACQ_COND_B => [⟨0x83088, [(32768, 16), (16, 8)], 0⟩]
  | .DEV_PRIO => [⟨0x30, [], 0⟩]
  | .EVH_STATUS => [⟨0x30000, [], 0⟩]
  | .EVH_PEND => [⟨0x30040, [(4, 36)], 0⟩]
  | .EVH_HOLDOFF => [⟨0x30100, [(4, 64)], 0⟩]
  | .EVH_SRC_CFG => [⟨0x32000, [(4, 1152)], 0⟩]
  | .EVH_SRC_STATUS => [⟨0x34000, [(4, 1152)], 0⟩]
  | .TIME_ADJ_LO => [⟨0x40018, [], 0⟩]
  | .TIME_ADJ_HI => [⟨0x4001C, [], 0⟩]
  | .TIME_ADJ_TICKS => [⟨0x40020, [], 0⟩]
  | .TIME_STEP_NS => [⟨0x40024, [], 0⟩]
  | .TIME_STEP_SEC_LO => [⟨0x40028, [], 0⟩]
  | .TIME_STEP_SEC_HI => [⟨0x4002C, [], 0⟩]
  | .TIME_STEP_CTL => [⟨0x40030, [], 0⟩]
  | .TIME_PORT_STATUS => [⟨0x40100, [(256, 2)], 0⟩]
  | .TIME_PORT_MAC_LO => [⟨0x40104, [(256, 2)], 0⟩]
  | .TIME_PORT_MAC_HI => [⟨0x40108, [(256, 2)], 0⟩]
  | .TIME_PORT_ING_LAT => [⟨0x4010C, [(256, 2)], 0⟩]
  | .TIME_PORT_EGR_LAT => [⟨0x40110, [(256, 2)], 0⟩]
  | .TIME_PORT_ASYM => [⟨0x40114, [(256, 2)], 0⟩]
  | .TIME_PORT_RX => [⟨0x40118, [(256, 2)], 0⟩]
  | .TIME_PORT_TX => [⟨0x4011C, [(256, 2)], 0⟩]
  | .TX_STAMP_FRAC => [⟨0x40130, [(256, 2)], 0⟩]
  | .TX_STAMP_NS => [⟨0x40134, [(256, 2)], 0⟩]
  | .TX_STAMP_SEC_LO => [⟨0x40138, [(256, 2)], 0⟩]
  | .TX_STAMP_SEC_HI => [⟨0x4013C, [(256, 2)], 0⟩]
  | .TIME_PORT_DROP => [⟨0x40140, [(256, 2)], 0⟩]
  | .TIME_PORT_ERR => [⟨0x40144, [(256, 2)], 0⟩]
  | .TEV_CFG => [⟨0x40800, [(64, 4)], 0⟩]
  | .TEV_START_NS => [⟨0x40804, [(64, 4)], 0⟩]
  | .TEV_START_SEC_LO => [⟨0x40808, [(64, 4)], 0⟩]
  | .TEV_START_SEC_HI => [⟨0x4080C, [(64, 4)], 0⟩]
  | .TEV_START_FRAC => [⟨0x40810, [(64, 4)], 0⟩]
  | .TEV_PERIOD_NS => [⟨0x40814, [(64, 4)], 0⟩]
  | .TEV_PERIOD_FRAC => [⟨0x40818, [(64, 4)], 0⟩]
  | .TEV_WIDTH => [⟨0x4081C, [(64, 4)], 0⟩]
  | .TEV_CTL => [⟨0x40820, [(64, 4)], 0⟩]
  | .TEV_COUNT => [⟨0x40824, [(64, 4)], 0⟩]
  | .HOST_ID => [⟨0x50000, [], 0⟩]
  | .HOST_LINK => [⟨0x50004, [], 0⟩]
  | .HOST_REFUSE => [⟨0x50008, [], 0⟩]
  | .HOST_REFUSE_ADDR => [⟨0x5000C, [], 0⟩]
  | .HOST_ERR => [⟨0x50010, [], 0⟩]
  | .SAG_START => [⟨0x50020, [], 0⟩]
  | .SAG_TILES => [⟨0x50024, [], 0⟩]
  | .SAG_ALLOT => [⟨0x50300, [], 0⟩]
  | .SAG_QUOTA_A => [⟨0x50400, [(16, 16)], 0⟩]
  | .SAG_QUOTA_B => [⟨0x50404, [(16, 16)], 0⟩]
  | .SAG_USE => [⟨0x50408, [(16, 16)], 0⟩]
  | .SAG_OVER => [⟨0x5040C, [(16, 16)], 0⟩]
  | .FLS_CMD => [⟨0x800, [], 0⟩]
  | .FLS_ADDR => [⟨0x804, [], 0⟩]
  | .FLS_LOCK => [⟨0x808, [], 0⟩]
  | .FLS_STATUS => [⟨0x80C, [], 0⟩]
  | .FLS_CFG => [⟨0x814, [], 0⟩]
  | .FLS_WIN_PAGE => [⟨0x818, [], 0⟩]
  | .FLS_BUF => [⟨0x900, [(4, 64)], 0⟩]
  | .CAL_CTL => [⟨0x20000, [(256, 4)], 0⟩]
  | .CAL_STATUS => [⟨0x20004, [(256, 4)], 0⟩]
  | .CAL_COUNT => [⟨0x20008, [(256, 4)], 0⟩]
  | .CAL_LAST_TIME_LO => [⟨0x2000C, [(256, 4)], 0⟩]
  | .CAL_LAST_TIME_HI => [⟨0x20010, [(256, 4)], 0⟩]
  | .CAL_TEMP => [⟨0x20014, [(256, 4)], 0⟩]
  | .CAL_GLAZE => [⟨0x20018, [(256, 4)], 0⟩]
  | .CAL_RESULT => [⟨0x2001C, [(256, 4)], 0⟩]
  | .CAL_RESULT2 => [⟨0x20020, [(256, 4)], 0⟩]
  | .CAL_SPINE => [⟨0x20024, [(256, 4)], 0⟩]
  | .CAL_SKIP_LAST => [⟨0x20028, [(256, 4)], 0⟩]
  | .CAL_EXCL => [⟨0x20800, [(4, 32)], 0⟩]
  | .CAL_QUERY => [⟨0x20C00, [], 0⟩]
  | .CAL_QUERY_RES => [⟨0x20C04, [], 0⟩]
  | .NVM_CMD => [⟨0x12000, [], 0⟩]
  | .NVM_BUF => [⟨0x18000, [(4, 1020)], 0⟩]
  | .SPR_QUERY => [⟨0x13020, [], 0⟩]
  | .SPR_CMD => [⟨0x13028, [], 0⟩]
  | .SPR_PENDING => [⟨0x1302C, [], 0⟩]
  | .DEV_LEGACY => [⟨0x60, [], 0⟩]
  | .SMU_FORCE_CODE => [⟨0x100400, [(2048, 128)], 0⟩, ⟨0x18C400, [(2048, 8)], 128⟩]
  | .SMU_FORCE_CFG => [⟨0x100404, [(2048, 128)], 0⟩, ⟨0x18C404, [(2048, 8)], 128⟩]
  | .SMU_FORCE_SLEW => [⟨0x100408, [(2048, 128)], 0⟩, ⟨0x18C408, [(2048, 8)], 128⟩]
  | .SMU_FORCE_STATUS => [⟨0x10040C, [(2048, 128)], 0⟩, ⟨0x18C40C, [(2048, 8)], 128⟩]
  | .DPS_SET_CODE => [⟨0x180000, [(1024, 36)], 0⟩]
  | .DPS_SET_CFG => [⟨0x180004, [(1024, 36)], 0⟩]
  | .DPS_SET_SLEW => [⟨0x180008, [(1024, 36)], 0⟩]
  | .DPS_SET_STATUS => [⟨0x18000C, [(1024, 36)], 0⟩]
  | .SEQ_CNT => [⟨0x80040, [(32768, 16), (4, 8)], 0⟩, ⟨0x10040, [(4, 8)], 128⟩]
  | .SEQ_CNT_SNAP => [⟨0x80060, [(32768, 16), (4, 8)], 0⟩, ⟨0x10060, [(4, 8)], 128⟩]
  | .SEQ_CINIT => [⟨0x80080, [(32768, 16), (4, 16)], 0⟩, ⟨0x10080, [(4, 16)], 256⟩]
  | .SEQ_TIMEOUT => [⟨0x800C0, [(32768, 16), (4, 8)], 0⟩, ⟨0x100C0, [(4, 8)], 128⟩]
  | .SEQ_STACK => [⟨0x800E0, [(32768, 16), (4, 4)], 0⟩, ⟨0x100E0, [(4, 4)], 64⟩]
  | .SMU_SPARE_STATUS => [⟨0x18C000, [(2048, 8)], 0⟩]
  | .SAG_BLK_OWNER => [⟨0x51000, [(4, 768)], 0⟩]
  | .SAG_GRP_OWNER => [⟨0x51C00, [(4, 64)], 0⟩]
  | .ACQ_PAT_H_LO => [⟨0x83040, [(32768, 16)], 0⟩]
  | .ACQ_PAT_H_HI => [⟨0x83044, [(32768, 16)], 0⟩]
  | .ACQ_PAT_L_LO => [⟨0x83048, [(32768, 16)], 0⟩]
  | .ACQ_PAT_L_HI => [⟨0x8304C, [(32768, 16)], 0⟩]
  | .ACQ_PAT_MASK_LO => [⟨0x83050, [(32768, 16)], 0⟩]
  | .ACQ_PAT_MASK_HI => [⟨0x83054, [(32768, 16)], 0⟩]
  | .TIME_PORT_TX_REF_FRAC => [⟨0x40120, [(256, 2)], 0⟩]
  | .TIME_PORT_TX_REF_NS => [⟨0x40124, [(256, 2)], 0⟩]
  | .TIME_PORT_TX_REF_SEC => [⟨0x40128, [(256, 2)], 0⟩]
  | .LANE_CTL => [⟨0x140000, [(256, 1024)], 0⟩]
  | .LANE_DRV_CTL => [⟨0x140004, [(256, 1024)], 0⟩]
  | .LANE_CMP_CTL => [⟨0x140008, [(256, 1024)], 0⟩]
  | .LANE_LOAD => [⟨0x14000C, [(256, 1024)], 0⟩]
  | .LANE_PPMU_CTL => [⟨0x140010, [(256, 1024)], 0⟩]
  | .LANE_MON_CTL => [⟨0x140014, [(256, 1024)], 0⟩]
  | .LANE_MON => [⟨0x140018, [(256, 1024)], 0⟩]
  | .LANE_STATUS => [⟨0x14001C, [(256, 1024)], 0⟩]
  | .OCT_LVL_UPDATE => [⟨0x1007FC, [(2048, 128)], 0⟩]
  | .SEQ_HOST_FLAGS => [⟨0x80020, [(32768, 16)], 0⟩, ⟨0x10020, [], 16⟩]
  | .OCT_MATRIX => [⟨0x100000, [(2048, 128)], 0⟩]
  | .OCT_STATUS => [⟨0x100004, [(2048, 128)], 0⟩]
  | .OCT_PPMU_COMPL => [⟨0x100008, [(2048, 128)], 0⟩]
  | .ADC_CTL => [⟨0x100100, [(2048, 128)], 0⟩]
  | .ADC_STATUS => [⟨0x100104, [(2048, 128)], 0⟩]
  | .ADC_FIFO => [⟨0x100108, [(2048, 128)], 0⟩]
  | .ADC_FIFO_TIME_LO => [⟨0x10010C, [(2048, 128)], 0⟩]
  | .ADC_FIFO_TIME_HI => [⟨0x100110, [(2048, 128)], 0⟩]
  | .ADC_LOST => [⟨0x100114, [(2048, 128)], 0⟩]
  | .ADC_SEQ_A => [⟨0x100140, [(2048, 128), (8, 16)], 0⟩]
  | .ADC_SEQ_B => [⟨0x100144, [(2048, 128), (8, 16)], 0⟩]
  | .SMU_CTL => [⟨0x100410, [(2048, 128)], 0⟩, ⟨0x18C410, [(2048, 8)], 128⟩]
  | .SMU_CLAMP => [⟨0x100414, [(2048, 128)], 0⟩, ⟨0x18C414, [(2048, 8)], 128⟩]
  | .SMU_VCLAMP => [⟨0x100418, [(2048, 128)], 0⟩, ⟨0x18C418, [(2048, 8)], 128⟩]
  | .SMU_MEAS => [⟨0x10041C, [(2048, 128)], 0⟩, ⟨0x18C41C, [(2048, 8)], 128⟩]
  | .SMU_MON_CTL => [⟨0x100420, [(2048, 128)], 0⟩, ⟨0x18C420, [(2048, 8)], 128⟩]
  | .SMU_MON_THR => [⟨0x100424, [(2048, 128)], 0⟩, ⟨0x18C424, [(2048, 8)], 128⟩]
  | .SMU_STATUS => [⟨0x100428, [(2048, 128)], 0⟩, ⟨0x18C428, [(2048, 8)], 128⟩]
  | .SMU_FIFO => [⟨0x10042C, [(2048, 128)], 0⟩, ⟨0x18C42C, [(2048, 8)], 128⟩]
  | .SMU_FIFO_TIME_LO => [⟨0x100430, [(2048, 128)], 0⟩, ⟨0x18C430, [(2048, 8)], 128⟩]
  | .SMU_FIFO_TIME_HI => [⟨0x100434, [(2048, 128)], 0⟩, ⟨0x18C434, [(2048, 8)], 128⟩]
  | .SMU_LOST => [⟨0x100438, [(2048, 128)], 0⟩, ⟨0x18C438, [(2048, 8)], 128⟩]
  | .RED_GRP_AREA => [⟨0x60400, [(16, 64)], 0⟩]
  | .RED_GRP_WPTR => [⟨0x60404, [(16, 64)], 0⟩]
  | .RED_GRP_RPTR => [⟨0x60408, [(16, 64)], 0⟩]
  | .RED_GRP_STATUS => [⟨0x6040C, [(16, 64)], 0⟩]
  | .EVH_Q_BASE_LO => [⟨0x30400, [(64, 4)], 0⟩]
  | .EVH_Q_BASE_HI => [⟨0x30404, [(64, 4)], 0⟩]
  | .EVH_Q_CFG => [⟨0x30408, [(64, 4)], 0⟩]
  | .EVH_Q_WPTR => [⟨0x3040C, [(64, 4)], 0⟩]
  | .EVH_Q_RPTR => [⟨0x30410, [(64, 4)], 0⟩]
  | .EVH_Q_STATUS => [⟨0x30414, [(64, 4)], 0⟩]
  | .HOST_DMA_BASE_LO => [⟨0x50100, [(32, 4)], 0⟩]
  | .HOST_DMA_BASE_HI => [⟨0x50104, [(32, 4)], 0⟩]
  | .HOST_DMA_CFG => [⟨0x50108, [(32, 4)], 0⟩]
  | .HOST_DMA_TAIL => [⟨0x5010C, [(32, 4)], 0⟩]
  | .HOST_DMA_HEAD => [⟨0x50110, [(32, 4)], 0⟩]
  | .HOST_DMA_STATUS => [⟨0x50114, [(32, 4)], 0⟩]

/-- One copy per function, per saggar, or one for the device. -/
def Reg.scope : Reg → Scope
  | .EVH_STATUS | .HOST_ID | .HOST_LINK | .HOST_REFUSE | .HOST_REFUSE_ADDR | .HOST_ERR => .perFn
  | .SAG_START | .SAG_TILES | .EVH_Q_BASE_LO | .EVH_Q_BASE_HI | .EVH_Q_CFG | .EVH_Q_WPTR | .EVH_Q_RPTR | .EVH_Q_STATUS | .HOST_DMA_BASE_LO | .HOST_DMA_BASE_HI | .HOST_DMA_CFG | .HOST_DMA_TAIL | .HOST_DMA_HEAD | .HOST_DMA_STATUS => .perSag
  | _ => .device

/-- Part 0 of the register list. -/
def regs0 : List Reg :=
  [.DEV_RESET_CAUSE, .SPIS_STATUS, .SPIS_COUNT, .SPIS_RESET_CAUSE, .SPIS_TRIP, .SPIS_SCRATCH, .SPIS_MIRROR, .LOG_SEQ, .DEV_IDENT, .DEV_CLK, .DEV_MOULD_STATUS, .DEV_MOULD_FLASH, .DEV_STRAP, .TIME_NOW_FRAC, .TIME_NOW_NS, .TIME_NOW_SEC_LO, .TIME_NOW_SEC_HI, .TIME_ADDEND_LO, .TIME_ADDEND_HI, .TIME_QUAL, .FLS_ID, .HK_ROUND_COUNT, .HK_STATUS, .HK_SUPPLY_VAL, .HK_SUPPLY_LIM, .HK_SPINE, .THS_TEMP, .THS_BROKEN, .THS_READMIT, .THS_TJ, .THS_CONE, .THS_STATUS, .THS_CTL, .NVM_SEQ, .NVM_STATUS, .NVM_SERIAL_LO, .NVM_SERIAL_HI, .SPR_RESERVE_Q, .SPR_RESERVE_DEV, .SPR_QUERY_RES]
/-- Part 1 of the register list. -/
def regs1 : List Reg :=
  [.SPR_ROWS, .LOG_STATUS, .LOG_LOST, .LOG_PAGE, .DEV_FUSE_HASH, .DEV_FUSE_CMD, .DEV_MOULD_CTL, .DEV_MOULD_ADDR_LO, .DEV_MOULD_ADDR_HI, .DEV_MOULD_LEN, .DEV_MOULD_INFO, .DEV_MOULD_PLANT, .DEV_MODE, .DEV_START, .DEV_STARTUP, .LANE_FE, .LVL_CFG, .LVL_SPAN, .LVL_SLEW, .LVL_PPMU_CODE, .LVL_STATUS, .LVL_NOW, .LVL_SET, .TS_LANE_EDGE, .TS_LANE_MODE, .TS_STAGE_PERIOD, .TS_COMMIT, .TS_CTL, .TS_STATUS, .TS_DROP_COUNT, .TS_NCO_FTW_LO, .TS_NCO_FTW_HI, .TS_NCO_PHASE_LO, .TS_NCO_PHASE_HI, .TS_NCO_CTL, .SEG_STORE_CFG, .SEG_LANE_DIR, .SEG_LANE_FIXED, .SEG_CTLW_ADDR, .SEG_CTLW_DATA]
/-- Part 2 of the register list. -/
def regs2 : List Reg :=
  [.SEG_STORE_STATUS, .SEG_STORE_ERRADDR, .SEQ_CTL, .SEQ_ENTRY, .SEQ_STATUS, .SEQ_PC, .SEQ_LOAD, .SEQ_NANO_PAGE, .SEQ_MC, .SEQ_MC_INFO, .SEQ_SITE_SEL, .SEQ_START, .HK_SEQ_FLASH_BASE, .SEG_RING_CFG, .SEG_RING_CTL, .SEG_RING_STATUS, .SEG_RING_FILL, .SEG_JUMP, .SEG_STATUS, .SEG_ITER, .SEG_CHECK, .SEG_COUNT, .SEG_COUNT2, .SEG_HOLD_VECTORS, .SEG_GROUP_WAIT, .SEG_SLOT, .CMP_CTL, .CMP_STATUS, .CMP_CYCLE_LO, .CMP_CYCLE_HI, .CMP_TILE_FAILS, .CMP_LOG_CTL, .CMP_LOG_AREA, .CMP_LOG_STATUS, .CMP_LOG_LOST, .CMP_LANE_FAIL, .CMP_SITE_CTL, .CMP_SITE_STATUS, .CMP_SITE_FF_LO, .CMP_SITE_FF_HI]
/-- Part 3 of the register list. -/
def regs3 : List Reg :=
  [.CMP_SITE_FF_VA, .CMP_SITE_FF_INFO, .CMP_SITE_FAILV, .DPS_CTL, .DPS_LIMIT, .DPS_STATUS, .DPS_MEAS_I, .DPS_MEAS_V, .DPS_MON_I_CTL, .DPS_MON_I_THR, .DPS_MON_V_CTL, .DPS_MON_V_THR, .DPS_GANG, .DPS_SPARE_STATUS, .RED_STATUS, .RED_DROP_ADC, .RED_DROP_SMU, .RED_DROP_TDC, .RED_NOT_OPEN, .RED_CMD, .RED_CTX_PAGE, .TDC_CFG, .TDC_CTX, .TDC_GATE, .TDC_CTL, .TDC_COUNT, .TDC_RES_LO, .TDC_RES_HI, .TDC_RES_COUNT, .TDC_RES_TIME_LO, .TDC_RES_TIME_HI, .TDC_SPARE_STATUS, .ACQ_CTL, .ACQ_SRC, .ACQ_CFG, .ACQ_PRE, .ACQ_POST, .ACQ_AUTO, .ACQ_AREA, .ACQ_FRAME]
/-- Part 4 of the register list. -/
def regs4 : List Reg :=
  [.ACQ_RING, .ACQ_WPTR, .ACQ_RPTR, .ACQ_COUNT, .ACQ_FO_LO, .ACQ_FO_HI, .ACQ_COND_CTL, .ACQ_COND_A, .ACQ_COND_B, .DEV_PRIO, .EVH_STATUS, .EVH_PEND, .EVH_HOLDOFF, .EVH_SRC_CFG, .EVH_SRC_STATUS, .TIME_ADJ_LO, .TIME_ADJ_HI, .TIME_ADJ_TICKS, .TIME_STEP_NS, .TIME_STEP_SEC_LO, .TIME_STEP_SEC_HI, .TIME_STEP_CTL, .TIME_PORT_STATUS, .TIME_PORT_MAC_LO, .TIME_PORT_MAC_HI, .TIME_PORT_ING_LAT, .TIME_PORT_EGR_LAT, .TIME_PORT_ASYM, .TIME_PORT_RX, .TIME_PORT_TX, .TX_STAMP_FRAC, .TX_STAMP_NS, .TX_STAMP_SEC_LO, .TX_STAMP_SEC_HI, .TIME_PORT_DROP, .TIME_PORT_ERR, .TEV_CFG, .TEV_START_NS, .TEV_START_SEC_LO, .TEV_START_SEC_HI]
/-- Part 5 of the register list. -/
def regs5 : List Reg :=
  [.TEV_START_FRAC, .TEV_PERIOD_NS, .TEV_PERIOD_FRAC, .TEV_WIDTH, .TEV_CTL, .TEV_COUNT, .HOST_ID, .HOST_LINK, .HOST_REFUSE, .HOST_REFUSE_ADDR, .HOST_ERR, .SAG_START, .SAG_TILES, .SAG_ALLOT, .SAG_QUOTA_A, .SAG_QUOTA_B, .SAG_USE, .SAG_OVER, .FLS_CMD, .FLS_ADDR, .FLS_LOCK, .FLS_STATUS, .FLS_CFG, .FLS_WIN_PAGE, .FLS_BUF, .CAL_CTL, .CAL_STATUS, .CAL_COUNT, .CAL_LAST_TIME_LO, .CAL_LAST_TIME_HI, .CAL_TEMP, .CAL_GLAZE, .CAL_RESULT, .CAL_RESULT2, .CAL_SPINE, .CAL_SKIP_LAST, .CAL_EXCL, .CAL_QUERY, .CAL_QUERY_RES, .NVM_CMD]
/-- Part 6 of the register list. -/
def regs6 : List Reg :=
  [.NVM_BUF, .SPR_QUERY, .SPR_CMD, .SPR_PENDING, .DEV_LEGACY, .SMU_FORCE_CODE, .SMU_FORCE_CFG, .SMU_FORCE_SLEW, .SMU_FORCE_STATUS, .DPS_SET_CODE, .DPS_SET_CFG, .DPS_SET_SLEW, .DPS_SET_STATUS, .SEQ_CNT, .SEQ_CNT_SNAP, .SEQ_CINIT, .SEQ_TIMEOUT, .SEQ_STACK, .SMU_SPARE_STATUS, .SAG_BLK_OWNER, .SAG_GRP_OWNER, .ACQ_PAT_H_LO, .ACQ_PAT_H_HI, .ACQ_PAT_L_LO, .ACQ_PAT_L_HI, .ACQ_PAT_MASK_LO, .ACQ_PAT_MASK_HI, .TIME_PORT_TX_REF_FRAC, .TIME_PORT_TX_REF_NS, .TIME_PORT_TX_REF_SEC, .LANE_CTL, .LANE_DRV_CTL, .LANE_CMP_CTL, .LANE_LOAD, .LANE_PPMU_CTL, .LANE_MON_CTL, .LANE_MON, .LANE_STATUS, .OCT_LVL_UPDATE, .SEQ_HOST_FLAGS]
/-- Part 7 of the register list. -/
def regs7 : List Reg :=
  [.OCT_MATRIX, .OCT_STATUS, .OCT_PPMU_COMPL, .ADC_CTL, .ADC_STATUS, .ADC_FIFO, .ADC_FIFO_TIME_LO, .ADC_FIFO_TIME_HI, .ADC_LOST, .ADC_SEQ_A, .ADC_SEQ_B, .SMU_CTL, .SMU_CLAMP, .SMU_VCLAMP, .SMU_MEAS, .SMU_MON_CTL, .SMU_MON_THR, .SMU_STATUS, .SMU_FIFO, .SMU_FIFO_TIME_LO, .SMU_FIFO_TIME_HI, .SMU_LOST, .RED_GRP_AREA, .RED_GRP_WPTR, .RED_GRP_RPTR, .RED_GRP_STATUS, .EVH_Q_BASE_LO, .EVH_Q_BASE_HI, .EVH_Q_CFG, .EVH_Q_WPTR, .EVH_Q_RPTR, .EVH_Q_STATUS, .HOST_DMA_BASE_LO, .HOST_DMA_BASE_HI, .HOST_DMA_CFG, .HOST_DMA_TAIL, .HOST_DMA_HEAD, .HOST_DMA_STATUS]

/-- Every register, in the order of the table. -/
def allRegs : List Reg := regs0 ++ regs1 ++ regs2 ++ regs3 ++ regs4 ++ regs5 ++ regs6 ++ regs7

/-- The reset limits of the supply monitors, signed mV (R544). -/
def supplyLow (n : Nat) : Int := [720, 690, 740, 1650, 3050, 6900, -2800, 5600].getD n 0
/-- The high limits of R544. -/
def supplyHigh (n : Nat) : Int := [880, 830, 880, 1980, 3630, 8100, -2300, 6500].getD n 0

/-- The reset value of field `f` in instance `i`. [log DESIGN CHOICE 1, 3; PRESUMED 2] -/
def Fld.reset (f : Fld) (i : Nat) : Nat :=
  match f.rst with
  | .c n => n
  | .capture p => 48 * i + p
  | .supplyLow => ofInt 16 (supplyLow i)
  | .supplyHigh => ofInt 16 (supplyHigh i)
  | .evEnable => if i < 64 then 1 else 0
  | .evTarget => if i < 64 then 0x10 else 0xFF

/-- The number under which State holds instance `i` of field `f`. -/
def Fld.slot (f : Fld) (i : Nat) : Nat := i * 1024 + f.key

/-- The key a slot number carries. -/
def slotKey (k : Nat) : Nat := k % 1024
/-- The instance a slot number carries. -/
def slotInst (k : Nat) : Nat := k / 1024

/-- The field's part of a written word. -/
def Fld.part (f : Fld) (w : Nat) : Nat := bits w f.lo f.width

/-- Where offset `r` falls in nested strides: the instance, or none between instances. -/
def dimsIndex : List (Nat × Nat) → Nat → Nat → Option Nat
  | [], acc, r => if r = 0 then some acc else none
  | (st, n) :: ds, acc, r => if r / st < n then dimsIndex ds (acc * n + r / st) (r % st) else none

/-- The instance of a window at an offset. -/
def Win.index (w : Win) (off : Nat) : Option Nat :=
  if off < w.base then none else (dimsIndex w.dims 0 (off - w.base)).map (w.first + ·)

/-- The register and instance at a word offset of the map (R5, R36); none where no register lies (R8). -/
def decodeOffset (off : Nat) : Option (Reg × Nat) :=
  allRegs.findSome? fun r => (r.windows.findSome? fun w => w.index off).map fun i => (r, i)

end Sys2Proof.Machine
end

