-- ==== Sys2Proof/Machine/State.lean ====
section
/-! DEFINITION. The state of the device as plain data, the reasons a step can stop, and the machine right after reset. Registers
live field by field in `State.regs`; the structures beside them hold what the manual describes and no register shows. -/

namespace Sys2Proof.Machine

/-- A step stops with a fault: the manual gives this block no event that stops it, so the type has no constructor that a meaning
raises; `none'` keeps it inhabited and is never raised (safe). -/
inductive Fault where
  /-- Raised by nothing; safe. -/
  | none'
  deriving DecidableEq, Repr

/-- A command without a meaning in the model. -/
inductive Refusal where
  /-- Raised by an arm of exec whose command has no meaning yet; safe: the run stops. -/
  | notModelled (mnemonic : String)
  deriving DecidableEq, Repr


/-- The device clock (R431): seconds, nanoseconds, a 32-bit fraction of a nanosecond, the number of time ticks passed since the
root PLL first locked, and whether it counts yet (R432). -/
structure Clock where
  sec : Nat
  ns : Nat
  frac : Nat
  tick : Nat
  running : Bool
  deriving DecidableEq, Repr

/-- One fuse key slot (R73): the 384-bit key hash, all 0 when blank, and its revoke bit. -/
structure KeySlot where
  hash : Nat
  revoked : Bool
  deriving DecidableEq, Repr

/-- The six device modes. -/
inductive Mode where
  | safe | load | service | idle | run | legacy
  deriving DecidableEq, Repr

/-- What the mould image in force says of one saggar (R50). -/
structure SagEntry where
  port : Nat
  half : Nat
  fn : Nat
  queues : Nat
  deriving DecidableEq, Repr

/-- One site entry (R54): its number, its quadrant and the mask of its quadrant's lanes. -/
structure SiteDecl where
  site : Nat
  quad : Nat
  mask : Nat
  deriving DecidableEq, Repr

/-- The probe path and limits of one lane (R58, R59); voltages in mV. -/
structure LaneDecl where
  delay : Nat
  loadType : Nat
  loadCap : Nat
  vmin : Int
  vmax : Int
  idle : Nat
  safe : Nat
  deriving DecidableEq, Repr

/-- The route of one event source (R61): ENABLE, PRIORITY, TARGET, HOLDOFF_GROUP. -/
structure RouteDecl where
  enable : Nat
  priority : Nat
  target : Nat
  group : Nat
  deriving DecidableEq, Repr

/-- The quotas of one saggar (R64). -/
structure QuotaDecl where
  blocks : Nat
  groups : Nat
  share : Nat
  depth : Nat
  deriving DecidableEq, Repr

/-- The structure the mould image in force fixes (R48 to R70). -/
structure Image where
  version : Nat
  signed : Bool
  keySlot : Nat
  serialBind : Nat
  spread : Nat
  refPolicy : Nat
  portMode : List Nat
  strapsFitted : Nat
  strapsExpect : Nat
  coldPlate : Nat
  coolantMax : Nat
  powerBudget : Nat
  saggars : List SagEntry
  octOwner : List Nat
  dpsOwner : List Nat
  lockstep : List Nat
  sites : List SiteDecl
  smuHome : List Nat
  adcBorrow : List Nat
  gang : List Nat
  dpsSpareEn : List Nat
  smuSpareEn : List Nat
  feSpareEn : List Nat
  lanes : List LaneDecl
  evSplit : Nat
  holdPeriods : List Nat
  routes : List RouteDecl
  quotas : List QuotaDecl
  hkMicro : List Nat
  hkTables : List Nat
  hkNano : List Nat
  hkEntry : Nat
  hkCount : Nat
  userAccess : Nat
  repairPersist : Nat
  nvmTmin : Int
  nvmTmax : Int
  legacy : Bool
  personalities : Nat
  debugOpen : Nat
  deriving DecidableEq, Repr

/-- The load in progress (R77 to R81): pushed by the host or read from a flash copy. -/
inductive LoadSrc where
  | host | flash (copy : Nat)
  deriving DecidableEq, Repr

/-- Modes, supplies, straps and resets. -/
structure ModeSt where
  mode : Mode
  /-- The SERVICE in force is the one entered from LOAD (R601). -/
  startup : Bool
  /-- The transition in progress, and whether it came from DEV_MODE.REQ. -/
  target : Option Mode
  byRequest : Bool
  /-- Tiles stop at their next vector boundary and not at a segment boundary (R86). -/
  stopNow : Bool
  /-- The AON thermal-shutdown latch. -/
  trip : Bool
  /-- PORST_N is low. -/
  porst : Bool
  /-- A SOFT reset is in progress (R102). -/
  softReset : Bool
  /-- Rails now below their fail level or not yet good, by the numbers of R544. -/
  badRails : List Nat
  /-- The device has not reached SAFE since the last power-up or POR (R96). -/
  beforeSafe : Bool
  straps : Nat
  /-- The root PLL has locked since the last POR. -/
  everLocked : Bool
  relocking : Bool
  /-- A flash boot waits for the first lock (R98). -/
  bootWaits : Bool
  load : Option LoadSrc
  /-- The step of start-up SERVICE that WAIT_REF interrupted (R107). -/
  heldStep : Nat
  /-- The units that the SPARES step has brought in and calibrates, each with its quadrant (R106). -/
  spared : List (Nat × (Nat × Nat))
  /-- STORE_TEST has completed since the last SOFT reset (R602). -/
  storesReady : Bool
  /-- A fuse command in progress: 1 PROGRAM, 2 REVOKE, its slot and its hash (R76). -/
  fuseCmd : Option (Nat × Nat × Nat)
  /-- The detector of the AON island finds REFCLK present (R20, R24). -/
  refSeen : Bool
  /-- Armed starts whose timed output has fired (R88): 0 to 15 a saggar's, 16 the device's. -/
  due : List Nat
  /-- The time tick at the entry to start-up SERVICE. -/
  svcTick : Nat
  /-- A departure from the supply order awaits its shard (R96). -/
  orderShard : Bool
  deriving DecidableEq, Repr

/-- The state of one event source (R415): 0 IDLE, 1 PENDING, 2 CLAIMED. -/
structure SrcSt where
  state : Nat
  count : Nat
  sat : Bool
  /-- Compact time at which it became PENDING. -/
  arrival : Nat
  /-- Became PENDING again at a release (R417). -/
  again : Bool
  live : Bool
  levelAtClaim : Bool
  /-- The sequencer that holds the claim, 16 the housekeeping one; 17 and above a queue, 17 + 4s + k. -/
  holder : Nat
  /-- The site of a SITE_FAIL source (R427). -/
  detail : Nat
  deriving DecidableEq, Repr

/-- One host event queue beside its registers (R425 to R430). -/
structure QueueSt where
  /-- The sources of the records from RPTR to WPTR, oldest first. -/
  recs : List Nat
  rseq : Nat
  /-- The hold-off group of the withheld notice. -/
  held : Nat
  deriving DecidableEq, Repr

/-- The event hub. -/
structure HubSt where
  srcs : SMap SrcSt
  /-- Sources that have asserted and not yet arrived in the hub (R31), oldest first, each with its detail. -/
  asserted : List (Nat × Nat)
  queues : SMap QueueSt
  deriving DecidableEq, Repr

/-- A pending step of the clock (R436). -/
structure StepReq where
  setMode : Bool
  neg : Bool
  sec : Nat
  ns : Nat
  deriving DecidableEq, Repr

/-- A snapshot of the clock for one function (R433), or a stamp (R445). -/
structure Snap where
  frac : Nat
  quality : Nat
  ns : Nat
  sec : Nat
  deriving DecidableEq, Repr

/-- A transmit stamp with its tag (R447). -/
structure TxStamp where
  at' : Snap
  tag : Nat
  deriving DecidableEq, Repr

/-- A frame being sent (R444). -/
structure TxJob where
  slot : Nat
  oneStep : Nat
  stamp : Bool
  tag : Nat
  deriving DecidableEq, Repr

/-- One timing port beside its registers. -/
structure PortSt where
  rx : SMap Nat
  tx : SMap Nat
  jobs : List TxJob
  stamps : List TxStamp
  deriving DecidableEq, Repr

/-- One timed output beside its registers: the time of its next firing in 2^-16 ns, and the ticks left of its pulse. -/
structure TevSt where
  next : Option Nat
  pulse : Nat
  deriving DecidableEq, Repr

/-- The time block beside its registers. -/
structure TimeSt where
  /-- The committed addend (R434). -/
  addend : Nat
  /-- The adjustment in force: its addend and the ticks left (R435). -/
  adj : Option (Nat × Nat)
  step : Option StepReq
  /-- Ticks left of the sync timer, when it runs (R439). -/
  sync : Option Nat
  /-- The effective quality last seen (R438). -/
  quality : Nat
  shadows : SMap Snap
  ports : SMap PortSt
  tevs : SMap TevSt
  deriving DecidableEq, Repr

/-- One shard (R565). -/
structure Shard where
  time : Nat
  seq : Nat
  code : Nat
  place : Nat
  mode : Nat
  flags : Nat
  d0 : Nat
  d1 : Nat
  d2 : Nat
  deriving DecidableEq, Repr

/-- The shard log (R564 to R567). -/
structure LogSt where
  buffer : List Shard
  /-- A shard was lost since the last one written. -/
  gap : Bool
  ring : SMap Shard
  mirror : SMap Shard
  deriving DecidableEq, Repr

/-- One entry of the repair map (R556). -/
structure Repair where
  place : Nat
  type : Nat
  state : Nat
  target : Nat
  replace : Nat
  time : Nat
  deriving DecidableEq, Repr

/-- The chosen copy of an NVM record (R560): 0 A or 1 B, its SEQ, and whether any copy was valid. -/
structure Chosen where
  copy : Nat
  seq : Nat
  valid : Bool
  deriving DecidableEq, Repr

/-- An NVM record write in progress (R561, R562): KIND, the copy replaced, its SEQ and bytes, the logical pages not yet verified, whether
a page was remapped by it, and whether a user command started it. -/
structure NvmJob where
  kind : Nat
  copy : Nat
  seq : Nat
  bytes : List Nat
  pages : List Nat
  remapped : Bool
  user : Bool
  deriving DecidableEq, Repr

/-- NVM and the repair map. -/
structure NvmSt where
  /-- The 512 KiB, by physical byte; an unlisted byte is blank, 0xFF. -/
  cells : SMap Nat
  /-- The copies have been chosen since the last power-up (R560). -/
  ready : Bool
  chosen : SMap Chosen
  /-- Logical page to physical page, physical page + 1; an unlisted page (0) is its own. -/
  pageMap : SMap Nat
  job : Option NvmJob
  /-- A user WRITE that waits for the window or for another write, its KIND (R563). -/
  waiting : Option Nat
  map : List Repair
  deriving DecidableEq, Repr

/-- A unit waiting for its spare (R551, R553): its physical place code, the front end for a lane, and its mark, 1 worn or 2 failed. -/
structure Waiting where
  place : Nat
  fe : Nat
  mark : Nat
  deriving DecidableEq, Repr

/-- Spares. Keys of `state` and `partner` are place + 65536 for an alternate front end. -/
structure SpareSt where
  /-- STATE of SPR_QUERY_RES of a unit: 0 good, 1 worn, 2 failed, 3 retired, 5 spare in service, 6 unavailable. -/
  state : SMap Nat
  partner : SMap Nat
  waiting : List Waiting
  /-- A commanded self-test, by its place code. -/
  selfTest : Option Nat
  /-- Store rows marked: keys store * 2^20 + row; 1 worn, 2 failed, 3 spared. -/
  rows : SMap Nat
  deriving DecidableEq, Repr

/-- A DMA descriptor read from a ring (R479). -/
structure Desc where
  op : Nat
  flags : Nat
  tile : Nat
  slot : Nat
  tag : Nat
  hostAddr : Nat
  devAddr : Nat
  count : Nat
  deriving DecidableEq, Repr

/-- A descriptor ring beside its registers: the descriptor in progress, the row blocks or bytes of it moved so far, its CODE, its address in
host memory, its number in the order of starts, and whether the ring was enabled again after it started. [log DEDUCED 68] -/
structure RingSt where
  desc : Option Desc
  moved : Nat
  code : Nat
  addr : Nat
  no : Nat
  stale : Bool
  deriving DecidableEq, Repr

/-- One PCIe link, 2 port + half (R454, R457). -/
structure LinkSt where
  up : Bool
  speed : Nat
  width : Nat
  vfEnable : Bool
  numVfs : Nat
  deriving DecidableEq, Repr

/-- The host interface beside its registers. -/
structure HostSt where
  links : SMap LinkSt
  rings : SMap RingSt
  /-- Bytes left in the arbitration frame: of the credit of saggar s (R476), and at 64 + T of the cap of tile T (R212). -/
  credit : SMap Nat
  /-- Descriptors started. -/
  started : Nat
  /-- Shadows of RSN high halves, by function and register (R466). -/
  rsn : SMap Nat
  /-- MSI-X vector masks, function * 4 + entry; an unlisted vector is masked (1), as PCI Express resets it. -/
  masks : SMap Nat
  /-- MSI-X Function Mask, by function. -/
  fnMask : SMap Nat
  /-- MSI-X pending bits, function * 4 + entry. -/
  pba : SMap Nat
  /-- MSI-X table words, function * 16 + word. -/
  table : SMap Nat
  /-- AER errors reported, function * 16 + error (R482). -/
  aer : SMap Nat
  deriving DecidableEq, Repr

/-- What the last command sent out of the block: the model's own record, no state of the manual's. -/
inductive Out where
  /-- Bytes of a read completion or of a service-port answer. -/
  | data (bytes : List Nat)
  /-- A read completion of one register word. -/
  | word (v : Nat)
  /-- A read completed with poisoned data. -/
  | poison (bytes : List Nat)
  /-- Completer Abort. -/
  | abort
  /-- A posted write to host memory. -/
  | hostWrite (addr : Nat) (bytes : List Nat) (poisoned : Bool)
  /-- A read request to host memory. -/
  | hostRead (addr len : Nat)
  /-- An MSI-X message of a function's entry. -/
  | msix (fn entry : Nat)
  /-- A frame sent at a timing port. -/
  | frame (port : Nat) (bytes : List Nat)
  /-- Bytes shifted to the boot flash, and how many are to be read back. -/
  | flash (bytes : List Nat) (readBack : Nat)
  deriving DecidableEq, Repr

/-- A placed edge of a lane that has not been applied yet: its ball time in taps from the tile's origin, the cycle of its vector, and
what it does: 0 DRV_ON, 1 DRV_DATA, 2 DRV_RETURN, 3 DRV_OFF, 4 a CLOCK transition, 5 the vector boundary of a compare vector,
8 CMP_OPEN, 9 CMP_CLOSE, 10 the sample of a capture (R178, R191, R603, R180). -/
structure Edge where
  at' : Nat
  vec : Nat
  kind : Nat
  level : Bool
  /-- The edge sets the last data level of R183. -/
  data : Bool
  deriving DecidableEq, Repr

/-- A compare of one lane in one vector, from its row read to its result (R185, R296). -/
structure CmpJob where
  vec : Nat
  /-- The ball instant of the origin of its tile's run. -/
  origin : Nat
  openAt : Nat
  closeAt : Nat
  /-- 0 L, 1 H, 2 M, 3 V; for DNRZ the expectation bit of the first half. -/
  expect : Nat
  expect1 : Nat
  dnrz : Bool
  window : Bool
  /-- A compare edge of it was dropped (R180). -/
  dropped : Bool
  /-- Its window stands open at the ball. -/
  isOpen : Bool
  /-- CH and CL were unsettled at the strobe or at some instant of the window, and at every instant of it (R295). -/
  unH : Bool
  unL : Bool
  allH : Bool
  allL : Bool
  /-- The same at the second strobe of a DNRZ lane. -/
  unH2 : Bool
  unL2 : Bool
  deriving DecidableEq, Repr

/-- A front-end handover in progress or asked for: 0 requested, 1 calibration, 2 repair. -/
structure Handover where
  why : Nat
  started : Bool
  /-- VCLK cycles since c0 (R140). -/
  vclk : Nat
  /-- c24 has passed: the incoming front end is the active one. -/
  swapped : Bool
  deriving DecidableEq, Repr

/-- One lane beside its registers. -/
structure LaneSt where
  /-- The selector connects the active front end to the ball. -/
  closed : Bool
  /-- The driver as the vectors direct it: 0 in IDLE_STATE, 1 off, 2 at VIL, 3 at VIH. -/
  drv : Nat
  /-- The driver state that the vectors ask for, whatever override stands (R114). -/
  want : Nat
  /-- The swing class at the last vector boundary (R117). -/
  swing : Nat
  /-- The driver is held off after a trip, until its clear has taken effect (R119). -/
  tripOff : Bool
  /-- The effective code of the previous vector, and whether it is a DNRZ code (R200, R203). -/
  prev : Nat
  prevDnrz : Bool
  /-- The last data level is VIH (R183). -/
  last : Bool
  edges : List Edge
  jobs : List CmpJob
  /-- Ball time of the last driver transition. -/
  trans : Option Nat
  /-- The VCLK window being counted, and the drive and compare slots taken in it (R180). -/
  window : Nat
  slots : Nat
  cmpWindow : Nat
  cmpSlots : Nat
  /-- Ball voltage in µV as last reported. -/
  ball : Int
  ch : Bool
  cl : Bool
  unsetH : Bool
  unsetL : Bool
  /-- The time tick of the last case of R124 of each comparator. -/
  sinceH : Nat
  sinceL : Nat
  /-- Consecutive samples that found the monitored condition true, up to 16 (R129). -/
  met : Nat
  /-- The filtered condition at the last sample, and whether it is true only because a comparator settled or unsettled (R126). -/
  filt : Bool
  mute : Bool
  /-- Vectors since the lane last drove, compared or captured, up to 4,096 (R519). -/
  quiet : Nat
  handover : Option Handover
  deriving DecidableEq, Repr

/-- One DAC: lane L DAC d at 9L + d, SMU i at 10000 + i, DPS d at 11000 + d (R146, R150). -/
structure DacSt where
  target : Nat
  present : Nat
  count : Nat
  clamped : Bool
  /-- A write awaits the next DAC tick (R151, UPD_MODE 0b01). -/
  due : Bool
  /-- A range change awaits the next DAC tick (R162). -/
  range : Bool
  /-- From a range change until the present code reaches the target again (R127). -/
  ranging : Bool
  /-- The target changed while the DAC was idle, and no DAC tick has passed since (R158). -/
  fresh : Bool
  /-- STEP and RATE_M1 still in force until the next DAC tick, where a write has changed them (R158). -/
  oldStep : Option Nat
  oldRate : Option Nat
  deriving DecidableEq, Repr

/-- One TDC result (R359, R362, R363, R366): its flags as the bits of TDC_RES_HI [22:16] shifted down by 16. -/
structure TdcRes where
  value : Nat
  flags : Nat
  count : Nat
  time : Nat
  deriving DecidableEq, Repr

/-- A TDC beside its registers (R358 to R366). -/
structure TdcSt where
  /-- The bin of the start that is held, or of the opening of the gate. -/
  start : Option Nat
  /-- The first and the last edge counted in the gate, and how many. -/
  first : Nat
  last : Nat
  edges : Nat
  /-- The reference was missing at some instant since the start (R363). -/
  unref : Bool
  /-- The dead time of R361. -/
  dead : Bool
  /-- Armed with no result since the arming: condition source TDC_ARMED. -/
  fresh : Bool
  /-- The bin of the last early stop, and whether EARLY_STOP counted it (R362). -/
  early : Option (Nat × Bool)
  fifo : List TdcRes
  deriving DecidableEq, Repr

/-- A sample on its way to a context (R371, R379): its source (octet ADC o, SMU 128 + i, TDC 264 + i), its context, its value, its
flags as bits of the context FLAGS (1 SUB_BIN, 2 UNREFERENCED, 3 UNCAL, 4 SUSPECT, 5 COMPLIANCE, 6 OVERRANGE), and its kind. -/
structure RedSample where
  src : Nat
  ctx : Nat
  x : Int
  flags : Nat
  kind : Nat
  deriving DecidableEq, Repr

/-- One reduction context (R368, R369); FREE is read from its group. -/
structure CtxSt where
  /-- 1 IDLE, 2 OPEN, 3 PENDING. -/
  state : Nat
  /-- CTL bits [7:2]. -/
  ctl : Nat
  target : Nat
  n : Nat
  excluded : Nat
  flags : Nat
  mean : Int
  m2 : Nat
  min : Int
  max : Int
  timeOpen : Nat
  dropped : Nat
  /-- The kind of the first sample since the open (R371). -/
  kind : Option Nat
  /-- The command latched while PENDING: 1 open, 2 close (R370). -/
  latched : Nat
  reason : Nat
  timeEnd : Nat
  deriving DecidableEq, Repr

/-- The reduction engine beside its registers. -/
structure RedSt where
  ctxs : SMap CtxSt
  /-- Samples in the input FIFOs, in order of arrival (R379). -/
  fifo : List RedSample
  /-- The pipe served last, and the source served last by each pipe (R379). -/
  pipe : Nat
  turns : SMap Nat
  /-- Contexts PENDING, in order of completion (R376). -/
  pending : List Nat
  /-- Result records buffered and not yet written, oldest first: the group and the 64 bytes. -/
  buffer : List (Nat × List Nat)
  /-- Check-bit faults of contexts, by context: 2 uncorrectable (R377). -/
  ecc : SMap Nat
  deriving DecidableEq, Repr

/-- A sample offered to an acquisition unit (R382, R384): its full time in 2^-16 ns; for an analog sample its code, lane and quantity; for lane
state CH, CL, CAPMASK and the cycle number. -/
structure AcqSample where
  time : Nat
  code : Int
  lane : Nat
  qty : Nat
  compl : Bool
  suspect : Bool
  ch : Nat
  cl : Nat
  mask : Nat
  cycle : Nat
  deriving DecidableEq, Repr

/-- A decimation block being gathered (R402): its first sample's time, its count, sum, least, greatest and flags. -/
structure AcqBlock where
  time : Nat
  count : Nat
  sum : Int
  min : Int
  max : Int
  compl : Bool
  suspect : Bool
  deriving DecidableEq, Repr

/-- The acquisition unit of a tile beside its registers. -/
structure AcqSt where
  /-- Samples that have arrived and are not yet evaluated (R390). -/
  waiting : List AcqSample
  /-- Met conditions that have not been mapped: the slot and the time in 2^-16 ns. -/
  conds : List (Nat × Nat)
  /-- Marks whose instant the clock has not passed: the slot mask and the tile's taps from the time base. -/
  marks : List (Nat × Nat)
  latches : Nat
  prev : Option Int
  prevMatch : Option Bool
  forced : Bool
  triggered : Bool
  pre : List AcqSample
  /-- The frame in progress: the trigger sample, its cause, its flags, and the counts of pre, post and fail-only samples recorded. -/
  trig : AcqSample
  cause : Nat
  flags : Nat
  preN : Nat
  postN : Nat
  foN : Nat
  /-- The decimation block being gathered after the trigger. -/
  block : Option AcqBlock
  /-- Bytes of each section: those written so far, and those gathered toward the next 64. -/
  offs : SMap Nat
  parts : List (List Nat)
  /-- Writes in the producer buffer: the byte address in the capture store and the bytes (R403). -/
  writes : List (Nat × List Nat)
  seq : Nat
  missed : Nat
  armTime : Nat
  /-- Time quality when the trigger sample was evaluated. -/
  quality : Nat
  /-- CLOSING ends in IDLE, after a DISARM (R398). -/
  disarm : Bool
  deriving DecidableEq, Repr

/-- A lane-state sample being gathered (R384): its cycle and reference point, CAPMASK, the lanes still to sample, and its full time once the clock has passed it. -/
structure CapRec where
  cycle : Nat
  /-- The ball instant of the origin of the run. -/
  origin : Nat
  refPoint : Nat
  mask : Nat
  left : Nat
  ch : Nat
  cl : Nat
  time : Option Nat
  deriving DecidableEq, Repr

/-- One NCO (R190, R193): its origin in taps, the phase loaded there, and the words in force; the staged low half of FTW. -/
structure NcoSt where
  origin : Nat
  phase : Nat
  ftw : Nat
  duty : Nat
  stagedLo : Nat
  deriving DecidableEq, Repr

/-- What a tile's lanes failed of one site in one vector. -/
structure SiteFail where
  site : Nat
  mask : Nat
  first : Bool
  deriving DecidableEq, Repr

/-- A vector between its row read and the forming of its records (R604). -/
structure VecRec where
  cycle : Nat
  /-- The ball instant of the origin of the run. -/
  origin : Nat
  refPoint : Nat
  va : Nat
  seg : Nat
  pass : Nat
  slot : Nat
  streamed : Bool
  /-- It belongs to a MATCH segment (R267). -/
  isMatch : Bool
  /-- The number of the pass since the start, for the pass flag (R266). -/
  passNo : Nat
  /-- Compact time of its reference point, once the clock has passed it (R307). -/
  time : Option Nat
  fails : List SiteFail
  unsettled : Bool
  counted : Bool
  /-- Its records have been formed; a result may still come (R180, R604). -/
  formed : Bool
  deriving DecidableEq, Repr

/-- What the segment engine is reading. -/
inductive Phase where
  | stopped | seg | idle | hold | wait
  deriving DecidableEq, Repr

/-- A fixed or starving successor: the entry, whether it is the queue's head, and its slot when STREAMED. -/
structure Succ where
  entry : Nat
  queued : Bool
  slot : Option Nat
  deriving DecidableEq, Repr

/-- The segment engine and timing of a tile beside their registers. -/
structure PlaySt where
  playing : Bool
  phase : Phase
  /-- The start edge, in taps of the time base (2048 taps a tick). -/
  start : Nat
  cycle : Nat
  refPoint : Nat
  period : Nat
  idx : Nat
  slot : Nat
  passNo : Nat
  passFail : Bool
  isFinal : Bool
  matched : Bool
  queue : List Nat
  succ : Option Succ
  /-- A STREAMED successor whose first pass is not ready (R284). -/
  starving : Option Succ
  /-- The next pass of the present segment: its slot, once fixed. -/
  nextSlot : Option Nat
  /-- The pass waited for in a hold is the next one of the present segment. -/
  samePass : Bool
  /-- The successor fixed in an interruption may start at the next boundary (R274). -/
  go : Bool
  jump : Option (Nat × Bool)
  holdNano : Nat
  /-- Vectors of the interruption so far. -/
  intr : Nat
  gapOk : Bool
  /-- 1: stop when the queue is empty and the last segment ends (R237); 2: stop at the end of the segment, or at the group's boundary where the member
  waits (R288); 3: abort at the end of the segment or pass (R284); 4: stop at the group's next shared boundary (R23, R33, R86). -/
  stopAt : Nat
  /-- No vector has been read since the start. -/
  fresh : Bool
  /-- The pass in progress is the first of its segment. -/
  firstPass : Bool
  /-- The hold in progress has played a hold vector (R285). -/
  starved : Bool
  /-- The group boundary this member plays up to (R287). -/
  groupAt : Option Nat
  nano : Nat
  issued : List Nat
  steady : Option Nat
  lset : Nat
  lsetNext : Option Nat
  user : Nat
  vecs : List VecRec
  /-- The 8-record producer buffer of the fail log: each with its 32 bytes, TIME's quality to be set when written. -/
  log : List (List Nat)
  logGap : Bool
  caps : List CapRec
  /-- The set and TIP_REF of the commit in progress (R171). -/
  commit : Nat × Nat
  ringArmed : Bool
  /-- Lane and octet register fields whose write has not taken effect (R112): the slot and the value still in force. -/
  held : List (Nat × Nat)
  srcSample : Option Bool
  ncos : SMap NcoSt
  /-- What set FAIL of the sites whose home is here (R300, R301), by home slot: the VCLK cycle at the home slot plus 1, the ball instant of the failing vector's reference point, and
  its tile. -/
  siteAt : SMap (Nat × Nat × Nat)
  /-- Timing sets as written: set * 1024 + 8 * lane + word, words 0 to 5 edges, 6 mode; set * 1024 + 512 COARSE * 128 + FINE, + 513 TIP_REF. -/
  sets : SMap Nat
  deriving DecidableEq, Repr

/-- The stores of a tile (R195, R219, R261). -/
structure StoreSt where
  /-- Payload code words of the vector slice, row * 4 + k. -/
  words : SMap Nat
  ctl : SMap Nat
  /-- Check-bit state: row * 8 + code word (4 the control field): 1 correctable, 2 uncorrectable. -/
  ecc : SMap Nat
  micro : SMap Nat
  nano : SMap Nat
  segs : SMap Nat
  /-- Failing byte masks: micro-address, or 65536 + nano-word (R219). -/
  bad : SMap Nat
  /-- The staged pieces of one word (R38): the window (0 nano, 1 segment), the word number, and its pieces. -/
  staged : Option (Nat × Nat × List (Nat × Nat))
  /-- Words R109 flagged for reload: micro-address, or 65536 + nano-word. -/
  flagged : List Nat
  scrubRow : Nat
  scrubCe : SMap Nat
  deriving DecidableEq, Repr

/-- A WAIT in progress (R240). -/
structure WaitSt where
  cond : Nat
  pol : Bool
  cen : Bool
  timeout : Nat
  deriving DecidableEq, Repr

/-- A return-stack frame beside SEQ_STACK: the resource mask, and the source whose handler it interrupted. -/
structure FrameSt where
  res : Nat
  inRes : Nat
  src : Option Nat
  deriving DecidableEq, Repr

/-- A sequencer beside its registers; 16 is the housekeeping one. -/
structure SeqSt where
  /-- The micro-address executed next; SEQ_PC holds the one executed last. -/
  next : Nat
  /-- A HALTED sequencer that R109 has recovered: it leaves HALTED at the request for IDLE once no word is flagged. -/
  recovered : Bool
  /-- The last word executed was a yield point, so an event may be taken now (R243). -/
  atYield : Bool
  /-- A handler has just been entered and its first word has not executed (R248). -/
  entered : Bool
  /-- Micro-words executed since the last yield point (R244). -/
  ran : Nat
  waiting : Option WaitSt
  frames : List FrameSt
  /-- The source whose handler runs. -/
  src : Option Nat
  res : Nat
  inRes : Nat
  timedOut : Bool
  woke : Bool
  refused : Bool
  /-- A STEP with VSYNC waits for its nano-word (R222). -/
  vsync : Bool
  /-- A STOP with DRAIN waits. -/
  draining : Bool
  /-- A loader check (1) or scrub (2) in progress. -/
  busy : Nat
  /-- Housekeeping: time ticks for which source 61 still reads true (R531). -/
  tick : Nat
  deriving DecidableEq, Repr

/-- One result in a host FIFO (R328): its word and its compact time. -/
structure FifoRes where
  word : Nat
  time : Nat
  deriving DecidableEq, Repr

/-- The averaging of one result (R324, R331): conversions done, their sum, the flags gathered, and what the first conversion fixed. -/
structure Mean where
  done : Nat
  sum : Int
  compl : Bool
  suspect : Bool
  lane : Nat
  range : Nat
  qty : Nat
  /-- Compact time of the first conversion, and its full time in 2^-16 ns. -/
  stamp : Nat
  time : Nat
  deriving DecidableEq, Repr

/-- An octet ADC beside its registers. -/
structure AdcSt where
  /-- Slots left of SETTLE (R324). -/
  settle : Nat
  mean : Option Mean
  fifo : List FifoRes
  /-- The neighbour's entry comes next on a shared ADC (R330). -/
  turn : Bool
  deriving DecidableEq, Repr

/-- A window monitor of an SMU or DPS (R333, R334, R346): the side of each threshold it last took, and its filter count. -/
structure MonSt where
  above : Bool
  below : Bool
  met : Nat
  filt : Bool
  /-- The condition is true only since the monitor settled (R334). -/
  mute : Bool
  deriving DecidableEq, Repr

/-- An SMU beside its registers. -/
structure SmuSt where
  mean : Option Mean
  /-- The mean of voltage conversions with QTY 0b10. -/
  mean2 : Option Mean
  /-- With QTY 0b10, the next conversion is of voltage. -/
  second : Bool
  fifo : List FifoRes
  mon : MonSt
  deriving DecidableEq, Repr

/-- A DPS channel beside its registers. -/
structure DpsSt where
  /-- The output is closed: DPS_STATUS.CONNECTED. -/
  closed : Bool
  /-- Register fields whose write awaits the next DAC tick (R340), with the values still in force. -/
  held : List (Nat × Nat)
  /-- Consecutive samples with IN_LIMIT = 1 (R342). -/
  count : Nat
  /-- The time tick of the last current range change plus 1, whose samples carry SUSPECT for 10 µs (R341, R345); 0 before one. -/
  ranged : Nat
  /-- The output was connected at the start of this DAC tick and has been opened in it (R354). -/
  justOpen : Bool
  monI : MonSt
  monV : MonSt
  /-- Consecutive estimates over 3.0 W, kept by the first channel of a quadrant (R348). -/
  hot : Nat
  /-- This member of a gang was found failed and opened (R351). -/
  dropped : Bool
  deriving DecidableEq, Repr

/-- The calibration run of a quadrant beside its registers (R512 to R524). A unit is a pair of its kind, the order of R515, and its
physical number: 2 TDC, 3 lane DAC 9L + d, 4 front end 2L + f, 5 SMU, 6 octet ADC, 7 DPS. -/
structure CalSt where
  running : Bool
  cur : Option (Nat × Nat)
  todo : List (Nat × Nat)
  /-- Spine checks tried for the step in progress (R508), and whether it waits for its retry. -/
  tries : Nat
  waiting : Bool
  deferred : List (Nat × Nat)
  abandons : SMap Nat
  /-- Milliseconds before a due run may start after a spine failure (R509). -/
  hold : Nat
  deriving DecidableEq, Repr

/-- A flash command as its GO found it (R505). -/
structure FlashCmd where
  opcode : Nat
  addrBytes : Nat
  addr : Nat
  dummy : Nat
  len : Nat
  fromFlash : Bool
  wren : Bool
  poll : Bool
  data : List Nat
  deriving DecidableEq, Repr

/-- The boot flash and its master beside the FLS registers. -/
structure FlashSt where
  /-- The bytes of the flash; an unlisted byte is erased, 0xFF. -/
  cells : SMap Nat
  /-- The prefetch buffer of R502: its first line of 64 bytes, that line's first valid word, and then three whole lines. -/
  buffer : Option (Nat × Nat)
  /-- The read transaction that fills the buffer is open. -/
  isOpen : Bool
  /-- A translated program in progress (R500): the addresses and bytes that it programs. -/
  program : Option (List (Nat × Nat))
  /-- A command of FLS_CMD in progress. -/
  cmd : Option FlashCmd
  /-- The write-enable latch of the flash. -/
  wel : Bool
  deriving DecidableEq, Repr

/-- The service port beside the SPIS registers (R484 to R495). -/
structure SpiSt where
  /-- The writes of a frame being committed, address and word, while BUSY is 1 (R488), and whether the frame ran past its block. -/
  commit : Option (List (Nat × Nat))
  overrun : Bool
  deriving DecidableEq, Repr

/-- The round engine beside its registers (R530 to R546). -/
structure HkSt where
  /-- The number of the last round (R530). -/
  round : Nat
  /-- The readings of up to 64 past rounds, newest first (R541). -/
  past : List (List Int)
  /-- Consecutive rounds in which a sensor disagreed (R533). -/
  disagree : SMap Nat
  /-- The round of a sensor's last declaration or readmission (R541). -/
  changed : SMap Nat
  /-- Consecutive rounds toward the entry (2c) and the leaving (2c + 1) of cone c: 0 W, 1 T, 2 S (R538). -/
  cones : SMap Nat
  /-- Consecutive rounds that meet both conditions of R546, up to 8. -/
  window : Nat
  /-- Consecutive rounds of a rail outside (2n) and inside (2n + 1) its limits (R545). -/
  rails : SMap Nat
  deriving DecidableEq, Repr

/-- The forerunner personalities of LEGACY: the values written, which reads return unconverted (R572). -/
structure LegacySt where
  /-- Timing values in units of 10 ps, by ((p * 32 + set) * 256 + channel) * 8 + item; item 7 is the period, in channel 0. -/
  timing : SMap Nat
  /-- Level values in mV + 32768, by ((p * 256 + channel) * 8 + set) * 8 + DAC. -/
  levels : SMap Nat
  deriving DecidableEq, Repr

/-- The state of the device. -/
structure State where
  /-- Commands that wait, first in, first out. -/
  pending : List Instr
  clock : Clock
  /-- The four fuse key slots (R73). -/
  fuses : List KeySlot
  /-- Every register field, by its slot; an unlisted field holds its reset value. -/
  regs : SMap Nat
  m : ModeSt
  /-- The mould image in force. -/
  image : Option Image
  hub : HubSt
  time : TimeSt
  log : LogSt
  nvm : NvmSt
  spare : SpareSt
  host : HostSt
  lanes : SMap LaneSt
  dacs : SMap DacSt
  adcs : SMap AdcSt
  smus : SMap SmuSt
  dpss : SMap DpsSt
  cals : SMap CalSt
  /-- Trims applied and their targets (R510, R526), by kind * 65536 + unit. -/
  trims : SMap (List Int)
  targets : SMap (List Int)
  /-- The last outcome of a unit and the run it fell in (CAL_QUERY_RES), RESULT * 65536 + RUN. -/
  results : SMap Nat
  plays : SMap PlaySt
  stores : SMap StoreSt
  seqs : SMap SeqSt
  tdcs : SMap TdcSt
  red : RedSt
  acqs : SMap AcqSt
  /-- The capture region, by 64-bit code word (R195), and the state of its check bits: 1 correctable, 2 uncorrectable. -/
  cap : SMap Nat
  capEcc : SMap Nat
  flash : FlashSt
  spi : SpiSt
  hk : HkSt
  legacy : LegacySt
  /-- What the last command sent out. -/
  out : List Out
  /-- How many free values have been drawn. -/
  free : Nat
  deriving DecidableEq, Repr

/-- The machine right after an AON reset with PORST_N high: SAFE, no image, the root PLL not locked, REFCLK not yet found present, straps at
their defaults, every register field at its reset value (R6, R98, R99, R101). REF_LOST, a level source, is active, and both it and
MODE_CHANGE have asserted. [log PRESUMED 2; DESIGN CHOICE 4, 5] -/
def State.reset : State :=
  { pending := []
    clock := ⟨0, 0, 0, 0, false⟩
    fuses := [⟨0, false⟩, ⟨0, false⟩, ⟨0, false⟩, ⟨0, false⟩]
    regs := []
    m := { mode := .safe, startup := false, target := none, byRequest := false, stopNow := false, trip := false, porst := false, softReset := false, badRails := [], beforeSafe := false,
           straps := 9, everLocked := false, relocking := false, bootWaits := true, load := none, heldStep := 0, spared := [], storesReady := false, fuseCmd := none, refSeen := false, due := [],
           svcTick := 0, orderShard := false }
    image := none
    hub := ⟨[(0, ⟨0, 0, false, 0, false, true, false, 0, 0⟩)], [(0, 0), (2, 0)], []⟩
    time := { addend := 0x280000000, adj := none, step := none, sync := none, quality := 3, shadows := [], ports := [], tevs := [] }
    log := ⟨[], false, [], []⟩
    nvm := { cells := [], ready := false, chosen := [], pageMap := [], job := none, waiting := none, map := [] }
    spare := ⟨[], [], [], none, []⟩
    host := ⟨[], [], [], 0, [], [], [], [], [], []⟩
    lanes := []
    dacs := []
    adcs := []
    smus := []
    dpss := []
    cals := []
    trims := []
    targets := []
    results := []
    plays := []
    stores := []
    seqs := []
    tdcs := []
    red := ⟨[], [], 0, [], [], [], []⟩
    acqs := []
    cap := []
    capEcc := []
    flash := ⟨[], none, false, none, none, false⟩
    spi := ⟨none, false⟩
    hk := ⟨0, [], [], [], [], 0, []⟩
    legacy := ⟨[], []⟩
    out := []
    free := 0 }

end Sys2Proof.Machine
end

