-- ==== Sys2Proof/Machine/Ops.lean ====
section
/-! DEFINITION. The named operations over the state that every meaning is made of: register fields, the clock and its stamps,
event assertions, shards, outputs, and who owns what under the image in force. -/

namespace Sys2Proof.Machine

/-- The outcome type of a step. -/
abbrev Out' := Host.Outcome State Fault Refusal

/-- `s'` with the queue, the clock and the key fuses of `s`: what a command that writes none of the three leaves. -/
def State.commit (s s' : State) : State := { s' with pending := s.pending, clock := s.clock, fuses := s.fuses }

/-- The outcome of a command whose effect is `f` on everything but the queue, the clock and the fuses. [log DESIGN CHOICE 7] -/
def done (s : State) (f : State → State) : Out' := .next (s.commit (f { s with out := [] }))

/-- Instance `i` of a register field. [log DESIGN CHOICE 1] -/
def State.rd (s : State) (f : Fld) (i : Nat) : Nat := smGet (f.reset i) s.regs (f.slot i)

/-- Instance `i` of a register field set to `v`, cut to the field's width. -/
def State.wr (s : State) (f : Fld) (i v : Nat) : State :=
  { s with regs := smSet (f.reset i) s.regs (f.slot i) (v % 2 ^ f.width) }

/-- A one-bit field as a truth value. -/
def State.fl (s : State) (f : Fld) (i : Nat) : Bool := s.rd f i != 0

/-- A one-bit field set from a truth value. -/
def State.wb (s : State) (f : Fld) (i : Nat) (b : Bool) : State := s.wr f i (b2n b)

/-- A counter field increased by `n`, saturating at its width. -/
def State.bump (s : State) (f : Fld) (i n : Nat) : State := s.wr f i (min (s.rd f i + n) (2 ^ f.width - 1))

/-- A signed field. -/
def State.rdS (s : State) (f : Fld) (i : Nat) : Int := toSigned f.width (s.rd f i)

/-- The fields that `p` accepts back at their reset values. -/
def State.resetFields (s : State) (p : Nat → Bool) : State := { s with regs := smKeep (fun k => !p k) s.regs }

/-- The same operation for each number of a list, in order. -/
def State.each (s : State) (l : List Nat) (f : State → Nat → State) : State := l.foldl f s

/-- An operation made only where a condition holds. -/
def State.when (s : State) (c : Bool) (f : State → State) : State := if c then f s else s

/-- Something sent out of the block by the command. -/
def State.send (s : State) (o : Out) : State := { s with out := s.out ++ [o] }

/-- The encoding of a mode in DEV_MODE.MODE. -/
def Mode.code : Mode → Nat
  | .safe => 0 | .load => 1 | .service => 2 | .idle => 3 | .run => 4 | .legacy => 5

/-- The effective time quality (R14, R438). [log DEDUCED 13] -/
def State.quality (s : State) : Nat :=
  if !s.fl R.DEV_CLK.REF_PRESENT 0 || s.fl R.DEV_CLK.HOLDOVER 0 || !s.fl R.DEV_CLK.PLL_LOCKED 0 then 3
  else if !s.fl R.TIME_QUAL.STEPPED 0 || s.rd R.TIME_QUAL.HOST_STATE 0 == 1 then 1
  else if s.rd R.TIME_QUAL.HOST_STATE 0 == 2 then 2
  else 0

/-- The compact form of a time (R13). -/
def compact (sec ns q : Nat) : Nat := sec % 2 ^ 32 * 2 ^ 32 + ns % 2 ^ 30 * 4 + q % 4

/-- The compact stamp of the present instant (R13). -/
def State.stamp (s : State) : Nat := compact s.clock.sec s.clock.ns s.quality

/-- The clock in units of 2^-16 ns. -/
def Clock.units (c : Clock) : Nat := (c.sec * 1000000000 + c.ns) * 65536 + c.frac / 65536

/-- One time tick: the addend added, with at most one carry into the seconds, which wrap (R431). -/
def Clock.add (c : Clock) (a : Nat) : Clock :=
  let f := c.frac + a
  let n := c.ns + f / 2 ^ 32
  if n < 1000000000 then { c with ns := n, frac := f % 2 ^ 32, tick := c.tick + 1 }
  else { c with ns := n - 1000000000, sec := (c.sec + 1) % 2 ^ 48, frac := f % 2 ^ 32, tick := c.tick + 1 }

/-- The addend in force (R434, R435). -/
def State.addendNow (s : State) : Nat :=
  match s.time.adj with
  | some (v, n) => if n = 0 then s.time.addend else v
  | none => s.time.addend

/-- A source asserts (R31); the hub takes it at its arrival. -/
def State.raiseD (s : State) (n detail : Nat) : State := { s with hub := { s.hub with asserted := s.hub.asserted ++ [(n, detail)] } }

/-- A source asserts, with no detail. [log DEDUCED 34, 35] -/
def State.raise (s : State) (n : Nat) : State := s.raiseD n 0

/-- A source in IDLE with nothing counted. -/
def SrcSt.idle : SrcSt := ⟨0, 0, false, 0, false, false, false, 0, 0⟩

/-- The state of a source. -/
def State.src (s : State) (n : Nat) : SrcSt := smGet .idle s.hub.srcs n

/-- The state of a source replaced. -/
def State.setSrc (s : State) (n : Nat) (x : SrcSt) : State := { s with hub := { s.hub with srcs := smSet .idle s.hub.srcs n x } }

/-- The live state of a LEVEL source set; the change to active is an arrival (R407). -/
def State.live (s : State) (n : Nat) (b : Bool) : State :=
  let x := s.src n
  if x.live = b then s else (s.setSrc n { x with live := b }).when b (·.raise n)

/-- A change of the effective quality raises QUALITY (R438). -/
def State.quals (s : State) : State :=
  let q := s.quality
  if s.time.quality = q then s else { s with time := { s.time with quality := q } }.raise 1099

/-- A place code (R10). -/
def place (kind index : Nat) : Nat := kind * 4096 + index

/-- A shard enters the shard buffer, or is lost to a full one (R564). [log DEDUCED 33] -/
def State.shard (s : State) (code pl d0 d1 d2 : Nat) : State :=
  if s.log.buffer.length < 16 then
    let x : Shard := { time := s.stamp, seq := s.rd R.LOG_SEQ.SEQ 0, code := code, place := pl, mode := s.m.mode.code + 128 * b2n s.m.trip, flags := 2 * b2n s.log.gap, d0 := d0 % 2 ^ 32, d1 := d1 % 2 ^ 32, d2 := d2 % 2 ^ 32 }
    { s with log := { s.log with buffer := s.log.buffer ++ [x], gap := false } }.wr R.LOG_SEQ.SEQ 0 (s.rd R.LOG_SEQ.SEQ 0 + 1)
  else { s with log := { s.log with gap := true } }.bump R.LOG_LOST.LOST 0 1

/-- The bytes of a shard (R565). -/
def Shard.bytes (x : Shard) : List Nat :=
  leBytes 8 x.time ++ leBytes 4 x.seq ++ leBytes 2 x.code ++ leBytes 2 x.place ++ [x.mode, x.flags, 0, 0] ++ leBytes 4 x.d0 ++ leBytes 4 x.d1 ++ leBytes 4 x.d2

/-- The empty ring slot: CODE 0 marks it (R567). -/
def Shard.blank : Shard := ⟨0, 0, 0, 0, 0, 0, 0, 0, 0⟩

/-- Everything runs and can be reached that a mould image gives: a mode past LOAD. -/
def State.imaged (s : State) : Bool := match s.m.mode with | .safe | .load => false | _ => true

/-- IDLE, RUN or LEGACY. -/
def State.operating (s : State) : Bool := match s.m.mode with | .idle | .run | .legacy => true | _ => false

/-- The saggar that owns an octet (R52); none where unowned or no image is in force. -/
def State.octOwner (s : State) (o : Nat) : Option Nat :=
  s.image.bind fun im => let v := im.octOwner.getD o 255; if v = 255 then none else some v

/-- The saggar that owns a tile: the owner of its octets (R53). -/
def State.tileOwner (s : State) (t : Nat) : Option Nat := s.octOwner (8 * t)

/-- The saggar that owns a DPS channel; a spare takes the owner of the channel it serves (R52). -/
def State.dpsOwner (s : State) (d : Nat) : Option Nat :=
  s.image.bind fun im =>
    let v := if d < 32 then im.dpsOwner.getD d 255 else
      if s.fl R.DPS_SPARE_STATUS.ASSIGNED d then im.dpsOwner.getD (s.rd R.DPS_SPARE_STATUS.CHANNEL d) 255 else 255
    if v = 255 then none else some v

/-- The saggar a context group is allotted to. -/
def State.grpOwner (s : State) (g : Nat) : Option Nat :=
  if s.fl R.SAG_GRP_OWNER.ALLOTTED g then some (s.rd R.SAG_GRP_OWNER.SAGGAR g) else none

/-- The saggar a capture block is allotted to; none for one that is being cleared (R472). -/
def State.blkOwner (s : State) (b : Nat) : Option Nat :=
  if s.fl R.SAG_BLK_OWNER.ALLOTTED b && !s.fl R.SAG_BLK_OWNER.CLEARING b then some (s.rd R.SAG_BLK_OWNER.SAGGAR b) else none

/-- The declarations of a lane (R58, R59); all 0 without an image. -/
def State.laneDecl (s : State) (l : Nat) : LaneDecl :=
  match s.image with
  | some im => im.lanes.getD l ⟨0, 0, 0, 0, 0, 0, 0⟩
  | none => ⟨0, 0, 0, 0, 0, 0, 0⟩

/-- The sites in force (R54); in LEGACY a personality is one site of all the lanes that its quadrant's sites hold (R576). [log DEDUCED 138] -/
def State.sites (s : State) : List SiteDecl :=
  match s.image with
  | none => []
  | some im =>
    if s.m.mode ≠ .legacy then im.sites else
    (List.range 4).flatMap fun q =>
      let l := im.sites.filter (·.quad = q)
      if bitAt im.personalities q then l.head?.toList.map fun d => { d with mask := l.foldl (fun m d => Nat.lor m d.mask) 0 } else l

/-- The site a lane belongs to (R54). -/
def State.siteOf (s : State) (l : Nat) : Option SiteDecl := s.sites.find? fun d => d.quad = l / 256 && bitAt d.mask (l % 256)

/-- The tiles of the lockstep group a tile is in; the tile alone where it runs free (R33). In LEGACY the four tiles of a personality are one group (R568). -/
def State.group (s : State) (t : Nat) : List Nat :=
  let m := match s.image with
    | some im => if s.m.mode = .legacy && bitAt im.personalities (t / 4) then 15 else im.lockstep.getD (t / 4) 0
    | none => 0
  if bitAt m (t % 4) then (List.range 4).filterMap fun j => if bitAt m j then some (4 * (t / 4) + j) else none else [t]

end Sys2Proof.Machine
end

