-- ==== Sys2Proof/Machine/Access.lean ====
section
/-! DEFINITION. Who may reach which register (R36, R39, R468, R485), how a refused write is counted (R9, R467), and the write of
one word field by field (R7, R461, R599). -/

namespace Sys2Proof.Machine

/-- The number under which per-function registers are kept: the function's own, or 64 for the service port. -/
def reqNum : Req → Nat
  | .fn f => f.val
  | .spi => 64

/-- The saggar a requester acts as: that of its function (R457); the service port sees what saggar 0 sees (R485). -/
def State.sagOf (s : State) : Req → Option Nat
  | .fn f => s.image.bind fun im =>
      if s.imaged then im.saggars.findIdx? fun e => e.port = f.val / 32 && e.half = f.val / 16 % 2 && e.fn = f.val % 16 else none
  | .spi => some 0

/-- A link in reset or never trained. -/
def LinkSt.down : LinkSt := ⟨false, 0, 0, false, 0⟩

/-- The link a function is on. -/
def State.link (s : State) (k : Nat) : LinkSt := smGet .down s.host.links k

/-- The logic outside the AON island runs: no POR, no SOFT reset in progress, no latched shutdown (R101, R104). -/
def State.alive (s : State) : Bool := !s.m.porst && !s.m.beforeSafe && !s.m.softReset && !s.m.trip

/-- The logic outside the AON island is out of POR and latched shutdown: the clocks and DEV_CLK run, a SOFT reset or not (R22, R101, R104). -/
def State.clocked (s : State) : Bool := !s.m.porst && !s.m.beforeSafe && !s.m.trip

/-- A link exists: port 1 while STRAP_P1_EN = 1, half 1 while the port is split (R454). -/
def State.linkExists (s : State) (k : Nat) : Bool := (k < 2 || bitAt s.m.straps 3) && (k % 2 = 0 || bitAt s.m.straps (1 + k / 2))

/-- The requester can reach the device: a physical function always, a virtual function only while VF Enable and NumVFs cover it
(R457), the service port while its range is available (R494). -/
def State.reachable (s : State) : Req → Bool
  | .fn f => s.alive && s.linkExists (f.val / 16) && (f.val % 16 = 0 || ((s.link (f.val / 16)).vfEnable && f.val % 16 ≤ (s.link (f.val / 16)).numVfs))
  | .spi => s.alive

/-- The owner of a register instance, in the classes of R39 and R468. -/
inductive Own where
  /-- DEV_IDENT, TIME_NOW, TIME_QUAL: read by every function. -/
  | pub
  /-- The DEV block. -/
  | dev
  /-- Reached by saggar 0 alone. -/
  | sag0
  | tile (t : Nat) | octet (o : Nat) | dps (d : Nat) | group (g : Nat) | source (n : Nat)
  /-- One copy per function or per saggar, or a register every bound function reaches. -/
  | own
  /-- The AON block of the service port. -/
  | aon
  deriving DecidableEq, Repr

/-- Words of a register inside one unit's block. -/
def Reg.inner (r : Reg) : Nat :=
  match r.windows with
  | w :: _ => w.dims.tail.foldl (fun a d => a * d.2) 1
  | [] => 1

/-- The base offset of a register. -/
def Reg.base (r : Reg) : Nat :=
  match r.windows with
  | w :: _ => w.base
  | [] => 0

/-- The unit index of an instance. -/
def Reg.unit (r : Reg) (i : Nat) : Nat := i / r.inner

/-- The class of a register instance. -/
def Reg.owner (r : Reg) (i : Nat) : Own :=
  let b := r.base
  let u := r.unit i
  if r.scope ≠ .device ∨ r = .SAG_ALLOT ∨ r = .RED_CMD ∨ r = .RED_CTX_PAGE ∨ r = .EVH_PEND ∨ r = .SAG_BLK_OWNER ∨ r = .SAG_GRP_OWNER then .own
  else if r = .DEV_IDENT ∨ r = .TIME_QUAL ∨ (0x40000 ≤ b ∧ b < 0x40010) then .pub
  else if b < 0x10000 then .dev
  else if b < 0x30000 then .sag0
  else if b < 0x32000 then .sag0
  else if b < 0x40000 then .source i
  else if b < 0x60000 then .sag0
  else if b < 0x60400 then .sag0
  else if b < 0x61000 then .group i
  else if b < 0x70000 then (if i < 64 then .tile (i / 4) else .sag0)
  else if b < 0x100000 then (if u < 16 then .tile u else .sag0)
  else if b < 0x140000 then (if u < 128 then .octet u else .sag0)
  else if b < 0x180000 then .octet (u / 8)
  else if b < 0x18C000 then .dps i
  else if b < 0x2000000 then .sag0
  else .aon

/-- The saggar that owns the unit of a source (R413): octets, tiles, DPS channels, TDCs and the host sources of a saggar. [log DEDUCED 35, 36] -/
def State.srcOwner (s : State) (n : Nat) : Option Nat :=
  if n < 64 then some 0
  else if n < 320 then s.tileOwner ((n - 64) / 16)
  else if n < 832 then s.octOwner ((n - 320) / 4)
  else if n < 896 then s.dpsOwner ((n - 832) / 2)
  else if n < 960 then s.tileOwner ((n - 896) / 4)
  else if n < 1024 then some 0
  else if n < 1088 then some ((n - 1024) / 4)
  else some 0

/-- The tile of a unit, for the quadrant it lies in; none for what lies in no quadrant. -/
def Own.quad : Own → Option Nat
  | .tile t => some (t / 4)
  | .octet o => some (o / 32)
  | .dps d => some (if d < 32 then d / 8 else d - 32)
  | _ => none

/-- The unit belongs to a quadrant that carries a personality in LEGACY, where its native range is hidden (R571). -/
def State.legacyHides (s : State) (c : Own) : Bool :=
  match s.m.mode, s.image, c.quad with
  | .legacy, some im, some q => bitAt im.personalities q
  | _, _, _ => false

/-- The saggar that owns a classed unit; none for an unowned one. -/
def State.ownerOf (s : State) : Own → Option Nat
  | .tile t => s.tileOwner t
  | .octet o => s.octOwner o
  | .dps d => s.dpsOwner d
  | .group g => s.grpOwner g
  | .source n => s.srcOwner n
  | _ => some 0

/-- A function may write, or with `write` false read, a unit of a class (R39, R77, R457, R468, R571). [log DEDUCED 134] -/
def State.fnMay (s : State) (f : Fin 64) (c : Own) (write : Bool) : Bool :=
  if !s.imaged then f.val % 16 = 0 && c = .dev
  else match s.sagOf (.fn f) with
    | none => false
    | some k =>
      if s.legacyHides c then false else
      match c with
      | .own => true
      | .pub => !write || k = 0
      | .aon => false
      | .source n => k = 0 || s.srcOwner n = some k
      | .tile _ | .octet _ | .dps _ | .group _ => s.ownerOf c = some k || (k = 0 && (!write || s.ownerOf c = none))
      | .dev | .sag0 => k = 0

/-- The requester sees the register instance; otherwise it reads 0 (R39, R457, R468). A physical function that no saggar is bound to
sees DEV_IDENT, and the TIME_NOW registers once an image is in force. -/
def State.mayRead (s : State) (rq : Req) (r : Reg) (i : Nat) : Bool :=
  match rq with
  | .spi => true
  | .fn f => s.fnMay f (r.owner i) false || (f.val % 16 = 0 && (r = .DEV_IDENT || (s.imaged && r.owner i = .pub && r ≠ .TIME_QUAL)))

/-- The instance is that of a spare's own index while the spare serves another unit (R19): it shows the retired circuit for diagnosis only. [log DEDUCED 121] -/
def State.showsRetired (s : State) (r : Reg) (i : Nat) : Bool :=
  let b := r.base
  if 0x61000 ≤ b && b < 0x6103C then 64 ≤ i && s.fl R.TDC_SPARE_STATUS.ASSIGNED i
  else if 0x180000 ≤ b && b < 0x180038 then 32 ≤ i && s.fl R.DPS_SPARE_STATUS.ASSIGNED i
  else if 0x100400 ≤ b && b < 0x100440 then 128 ≤ i && s.fl R.SMU_SPARE_STATUS.ASSIGNED (i - 128)
  else false

/-- The requester may write the register instance (R19, R39, R77, R468, R485). The fields of DEV_IDENT and TIME_NOW are read only, so a write
of them is ignored wherever they are seen and is no refusal (R599). [log DEDUCED 72, 121] -/
def State.mayWrite (s : State) (rq : Req) (r : Reg) (i : Nat) : Bool :=
  match rq with
  | .spi =>
    match r with
    | .SPIS_SCRATCH | .FLS_CMD | .FLS_ADDR | .FLS_LOCK | .FLS_STATUS | .FLS_ID | .FLS_CFG | .FLS_WIN_PAGE | .FLS_BUF => true
    | .NVM_CMD | .NVM_BUF => match s.image with | some im => im.userAccess = 2 | none => false
    | _ => false
  | .fn f => if r.owner i = .pub && r ≠ .TIME_QUAL then s.mayRead rq r i else s.fnMay f (r.owner i) true && !s.showsRetired r i

/-- The offset of an instance inside nested strides. -/
def dimsOffset : List (Nat × Nat) → Nat → Nat
  | [], _ => 0
  | (st, n) :: ds, i =>
    let m := ds.foldl (fun a d => a * d.2) 1
    i / m % n * st + dimsOffset ds (i % m)

/-- The number of words of a window. -/
def Win.size (w : Win) : Nat := w.dims.foldl (fun a d => a * d.2) 1

/-- The offset of a register instance (R5). -/
def Reg.offset (r : Reg) (i : Nat) : Nat :=
  match r.windows.find? fun w => w.first ≤ i && i < w.first + w.size with
  | some w => w.base + dimsOffset w.dims (i - w.first)
  | none => r.base

/-- A refused write counted once, with the place of the last one (R467). -/
def State.refuse (s : State) (rq : Req) (off : Nat) (bar2 : Bool) : State :=
  match rq with
  | .spi => s
  | .fn f => ((s.bump R.HOST_REFUSE.COUNT f.val 1).wr R.HOST_REFUSE_ADDR.OFFSET f.val off).wb R.HOST_REFUSE_ADDR.BAR2 f.val bar2

/-- A write effect: the state it leaves, and whether the write is a refusal (R599). -/
abbrev Fx := State → State × Bool

/-- A write effect that is never a refusal. -/
def Fx.of (f : State → State) : Fx := fun s => (f s, false)

/-- A write that a rule discards whole. -/
def Fx.refused : Fx := fun s => (s, true)

/-- The function whose copies a requester meets: the service port sees what saggar 0 sees (R485). [log DEDUCED 73] -/
def State.fnCopy (s : State) : Req → Nat
  | .fn f => f.val
  | .spi => match s.image.bind fun im => im.saggars[0]? with
    | some e => if s.imaged then 32 * e.port + 16 * e.half + e.fn else 64
    | none => 64

/-- The instance a requester meets: its own copy where there is one per function or per saggar. [log DEDUCED 73] -/
def State.copyOf (s : State) (rq : Req) (r : Reg) (i : Nat) : Nat :=
  match r.scope with
  | .device => i
  | .perFn => s.fnCopy rq * (r.windows.foldl (fun a w => a + w.size) 0) + i
  | .perSag => (match s.sagOf rq with | some k => k | none => 0) * (r.windows.foldl (fun a w => a + w.size) 0) + i

/-- A host write of a register instance: made where the requester may write it, counted where it is refused. -/
def State.hostAct (s : State) (rq : Req) (r : Reg) (i : Nat) (f : Nat → Fx) : State :=
  if !s.reachable rq then s
  else if s.mayWrite rq r i then
    let (s', ref) := f (s.copyOf rq r i) s
    if ref then s'.refuse rq (r.offset i) false else s'
  else s.refuse rq (r.offset i) false

/-- All the bytes a field touches are enabled (R461). -/
def Fld.enabled (f : Fld) (be : Nat) : Bool :=
  (List.range 4).all fun b => !(f.lo / 8 ≤ b && b ≤ (f.lo + f.width - 1) / 8) || bitAt be b

/-- What a field would hold after a write of `w`: its part of the word where its bytes are enabled. -/
def State.newv (s : State) (f : Fld) (i w be : Nat) : Nat := if f.enabled be then f.part w else s.rd f i

/-- A one-bit action or clear carried by a write. -/
def Fld.acts (f : Fld) (w be : Nat) : Bool := f.enabled be && f.part w != 0

/-- One field takes its part of a written word by its type (R7). -/
def writeField (i w be : Nat) (f : Fld) : Fx := fun s =>
  if !f.enabled be then (s, false) else
  match f.acc with
  | .rw => (s.wr f i (f.part w), false)
  | .w1c => (s.wr f i (Nat.land (s.rd f i) (2 ^ f.width - 1 - f.part w)), false)
  | .w1s => (s.wr f i (Nat.lor (s.rd f i) (f.part w)), false)
  | .rwl => if s.m.mode = .load ∨ s.m.mode = .service then (s.wr f i (f.part w), false) else (s, true)
  | .ro | .wo | .rc | .rsn => (s, false)

/-- The listed fields of a word written, each by its type; an RWL field outside LOAD and SERVICE discards the whole write, a refusal (R7, R599). -/
def writeFields (fs : List Fld) (i w be : Nat) : Fx := fun s =>
  if fs.any fun f => (writeField i w be f s).2 then (s, true)
  else (fs.foldl (fun s f => (writeField i w be f s).1) s, false)

/-- A whole word written field by field (R599). -/
def writeWord (r : Reg) (i w be : Nat) : Fx := writeFields r.fields i w be

/-- Two write effects in order: a refusal of either refuses once. -/
def Fx.seq (a b : Fx) : Fx := fun s => let (s', r) := a s; let (s'', r') := b s'; (s'', r || r')

/-- A write effect followed by a change of state. -/
def Fx.then' (a : Fx) (f : State → State) : Fx := fun s => let (s', r) := a s; (f s', r)

/-- A write effect chosen by a condition on the state. -/
def Fx.ite (c : State → Bool) (a b : Fx) : Fx := fun s => if c s then a s else b s

/-- Several write effects in order. -/
def Fx.all (l : List Fx) : Fx := l.foldl Fx.seq (Fx.of id)

/-- The write of a register word with an effect of its own: from the requester, the instance, the word and the byte enables. -/
abbrev Hook := Req → Nat → Nat → Nat → Fx

/-- A row that is the write of a register: the hook of that register on the whole word `w`. -/
def writeRow (rq : Req) (r : Reg) (i : Nat) (w : Nat) (h : Hook) (s : State) : Out' :=
  done s fun s => s.hostAct rq r i fun j => h rq j w 15

/-- A window monitor after reset. -/
def MonSt.idle : MonSt := ⟨false, false, 0, false, false⟩

/-- A DPS channel after reset. -/
def DpsSt.idle : DpsSt := ⟨false, [], 0, 0, false, .idle, .idle, 0, false⟩

/-- DPS channel d. -/
def State.dps (s : State) (d : Nat) : DpsSt := smGet .idle s.dpss d

/-- A DPS register field in force (R340). -/
def State.deff (s : State) (f : Fld) (d : Nat) : Nat :=
  match (s.dps d).held.find? fun e => e.1 = f.slot d with
  | some e => e.2
  | none => s.rd f d

/-- The leader of a DPS channel's gang; the channel itself without one (R350). -/
def State.dpsLead (s : State) (d : Nat) : Nat := let l := s.rd R.DPS_GANG.LEADER d; if d < 32 && l ≠ 63 && s.image.isSome && s.rd R.DPS_GANG.MEMBERS d ≠ 0 then l else d

/-- Local sense is in force on channel d (R339). [log DEDUCED 105] -/
def State.dpsLocal (s : State) (d : Nat) : Bool := s.fl R.DPS_STATUS.LOCAL_SENSE d || s.deff R.DPS_CTL.FORCE_LOCAL (s.dpsLead d) = 1

end Sys2Proof.Machine
end

