-- ==== Sys2Proof/Machine/Hub.lean ====
section
/-! DEFINITION. The event hub (R407 to R430): arrivals, claims and releases, routes, host event queues and their notices. -/

namespace Sys2Proof.Machine

/-- A LEVEL source (R407 to R410). -/
def srcLevel (n : Nat) : Bool :=
  n = 0 || n = 5 || n = 6 || n = 10 || (64 ≤ n && n < 320 && n % 16 = 5) || (1024 ≤ n && n < 1088 && 2 ≤ n % 4)

/-- A source number that is not reserved (R408 to R410). -/
def srcReal (n : Nat) : Bool := n < 23 || (24 ≤ n && n < 28) || (64 ≤ n && n < 1101)

/-- An arrival (R415): a source that is not enabled ignores it. -/
def State.arrive (s : State) (n detail : Nat) : State :=
  if !srcReal n || !s.fl R.EVH_SRC_CFG.ENABLE n then s else
  let x := s.src n
  if x.state = 0 then s.setSrc n { x with state := 1, arrival := s.stamp, again := false, detail := detail }
  else
    let d := if x.state = 2 then detail else x.detail
    if x.count < 255 then s.setSrc n { x with count := x.count + 1, detail := d } else s.setSrc n { x with sat := true, detail := d }

/-- A claim (R416, R418) by a holder: a sequencer number, or 17 and above a queue. [log DEDUCED 37] -/
def State.claim (s : State) (n holder : Nat) : State :=
  let x := s.src n
  s.setSrc n { x with state := 2, holder := holder, levelAtClaim := srcLevel n && x.live }

/-- The release of a claimed source (R417). -/
def State.release (s : State) (n : Nat) : State :=
  let x := s.src n
  if x.state ≠ 2 then s
  else if srcLevel n then
    if x.live then s.setSrc n { x with state := 1, arrival := s.stamp, again := false, holder := 0 }
    else s.setSrc n { x with state := 0, again := false, holder := 0 }
  else if x.count > 0 then s.setSrc n { x with state := 1, count := x.count - 1, arrival := s.stamp, again := true, holder := 0 }
  else s.setSrc n { x with state := 0, again := false, holder := 0 }

/-- A claimed source becomes PENDING again with its COUNT kept (R425). -/
def State.unclaim (s : State) (n : Nat) : State :=
  let x := s.src n
  if x.state = 2 then s.setSrc n { x with state := 1, arrival := s.stamp, holder := 0 } else s

/-- Every source that a holder has claimed is released (R417). [log DEDUCED 37] -/
def State.releaseHolder (s : State) (holder : Nat) : State :=
  s.each ((s.hub.srcs.filter fun e => e.2.state = 2 && e.2.holder = holder).map (·.1)) State.release

/-- The deliverable sources of a target: PENDING, enabled and routed to it, in ascending number. -/
def State.pendingFor (s : State) (target : Nat) : List Nat :=
  (s.hub.srcs.filter fun e => e.2.state = 1 && s.fl R.EVH_SRC_CFG.ENABLE e.1 && s.rd R.EVH_SRC_CFG.TARGET e.1 = target).map (·.1)

/-- The source of highest group, then sub-priority, then lowest number: PRIORITY orders group and sub-priority together (R411). -/
def State.bestOf (s : State) (l : List Nat) : Option Nat :=
  l.foldl (fun b n => match b with
    | none => some n
    | some m => if s.rd R.EVH_SRC_CFG.PRIORITY n > s.rd R.EVH_SRC_CFG.PRIORITY m then some n else some m) none

/-- The pre-emption group of a source under the SPLIT in force (R411). -/
def State.srcGroup (s : State) (n : Nat) : Nat := s.rd R.EVH_SRC_CFG.PRIORITY n / 2 ^ s.rd R.DEV_PRIO.SPLIT 0

/-- The place code of a source's unit (R427). [log DEDUCED 35] -/
def srcPlace (n : Nat) : Nat :=
  if n < 64 then 0x8000
  else if n < 320 then place 2 ((n - 64) / 16)
  else if n < 832 then place 1 ((n - 320) / 4)
  else if n < 896 then place 4 ((n - 832) / 2)
  else if n < 960 then place 5 (n - 896)
  else if n < 1024 then 0x7052
  else 0x8000

/-- DPS_STATUS of a channel: the stored flags, and CONNECTED and LOCAL_SENSE as they stand (R337, R339). -/
def State.dpsStatus (s : State) (d : Nat) : Nat :=
  let w := (Reg.fields .DPS_STATUS).foldl (fun a f => if f.acc = .wo then a else a + s.rd f d * 2 ^ f.lo) 0
  putBits (putBits w R.DPS_STATUS.CONNECTED.lo 1 (b2n (s.dps d).closed)) R.DPS_STATUS.LOCAL_SENSE.lo 1 (b2n (s.dpsLocal d))

/-- SEQ_MC of a tile as a word. -/
def State.seqMcWord (s : State) (t : Nat) : Nat :=
  (Reg.fields .SEQ_MC).foldl (fun a f => a + s.rd f t * 2 ^ f.lo) 0

/-- The DETAIL of a record at the claim (R427). -/
def State.srcDetail (s : State) (n : Nat) : Nat :=
  if n < 64 then 0
  else if n < 320 then
    if n % 16 = 0 then s.seqMcWord ((n - 64) / 16) else if n % 16 = 2 then (s.src n).detail else 0
  else if n < 832 then
    let o := (n - 320) / 4
    if n % 4 = 0 then (List.range 8).foldl (fun a j => a + s.rd R.LANE_MON.LATCH (8 * o + j) * 2 ^ j) 0
    else if n % 4 = 1 then (List.range 8).foldl (fun a j => a + b2n (s.fl R.LANE_STATUS.DRV_TRIP (8 * o + j) || s.fl R.LANE_STATUS.CLAMP_HIT (8 * o + j) || bitAt (s.rd R.OCT_PPMU_COMPL.COMPL_HIT o) j) * 2 ^ j) 0
    else 0
  else if n < 896 then s.dpsStatus ((n - 832) / 2) % 65536
  else if 960 ≤ n && n < 1024 then s.rd R.RED_GRP_WPTR.WPTR (n - 960)
  else 0

/-- The saggar's table entry; none where the image has none. -/
def State.sagEntry (s : State) (k : Nat) : Option SagEntry := s.image.bind fun im => im.saggars[k]?

/-- The function a saggar is bound to, numbered 32 port + 16 half + function (R457). -/
def State.fnOf (s : State) (k : Nat) : Option Nat := (s.sagEntry k).map fun e => 32 * e.port + 16 * e.half + e.fn

/-- The queues of a saggar (R50). -/
def State.queuesOf (s : State) (k : Nat) : Nat := ((s.sagEntry k).map (·.queues)).getD 0

/-- An MSI-X message, or its pending bit while its vector is masked (R459). -/
def State.msix (s : State) (fn k : Nat) : State :=
  if smGet 1 s.host.masks (4 * fn + k) = 1 || smGet 0 s.host.fnMask fn = 1 then
    { s with host := { s.host with pba := smSet 0 s.host.pba (4 * fn + k) 1 } }
  else s.send (.msix fn k)

/-- A queue that has never been enabled. -/
def QueueSt.idle : QueueSt := ⟨[], 0, 0⟩

/-- Event queue 4s + k. -/
def State.queue (s : State) (q : Nat) : QueueSt := smGet .idle s.hub.queues q

/-- An event queue replaced. -/
def State.setQueue (s : State) (q : Nat) (x : QueueSt) : State := { s with hub := { s.hub with queues := smSet .idle s.hub.queues q x } }

/-- The depth D of a queue (R425). -/
def State.qDepth (s : State) (q : Nat) : Nat := 2 ^ s.rd R.EVH_Q_CFG.SIZE_LOG2 q

/-- FULL of a queue, and QUEUE_FULL of its saggar, after a change of its pointers (R410, R426). -/
def State.qSync (s : State) (q : Nat) : State :=
  let full := s.fl R.EVH_Q_CFG.EN q && (s.rd R.EVH_Q_WPTR.WPTR q + 1) % s.qDepth q = s.rd R.EVH_Q_RPTR.RPTR q
  let s := s.wb R.EVH_Q_STATUS.FULL q full
  s.live (1024 + q / 4 * 4 + 3) ((List.range 4).any fun k => s.fl R.EVH_Q_STATUS.FULL (q / 4 * 4 + k))

/-- A notice of a queue, sent or withheld by the hold-off group of its oldest unread record (R428, R430). -/
def State.notice (s : State) (q : Nat) : State :=
  match (s.queue q).recs with
  | [] => s
  | n :: _ =>
    let g := s.rd R.EVH_SRC_CFG.HOLDOFF_GROUP n
    if s.fl R.EVH_HOLDOFF.RUNNING g then (s.wr R.EVH_Q_STATUS.NOTIFY_WITHHELD q 1).setQueue q { s.queue q with held := g }
    else
      let s := (s.wr R.EVH_Q_STATUS.NOTIFY_WITHHELD q 0).wr R.EVH_HOLDOFF.RUNNING g 1
      match s.fnOf (q / 4) with
      | some fn => s.msix fn (q % 4)
      | none => s

/-- SAG_OVER of a saggar and its OVER_QUOTA source follow what it holds against its quotas (R410, R474). -/
def State.overSync (s : State) (k : Nat) : State :=
  let cap := s.rd R.SAG_USE.BLOCKS k > s.rd R.SAG_QUOTA_A.CAPTURE_BLOCKS k
  let ctx := s.rd R.SAG_USE.GROUPS k > s.rd R.SAG_QUOTA_A.CONTEXT_GROUPS k
  let que : Bool := (List.range 4).any fun j => s.fl R.EVH_Q_CFG.EN (4 * k + j) && s.rd R.EVH_Q_CFG.SIZE_LOG2 (4 * k + j) > s.rd R.SAG_QUOTA_B.QUEUE_DEPTH_LOG2 k
  (((s.wb R.SAG_OVER.CAPTURE k cap).wb R.SAG_OVER.CONTEXT k ctx).wb R.SAG_OVER.QUEUE k que).live (1024 + 4 * k + 2) (cap || ctx || que)

/-- A queue reset (R425): the records the host has not taken return their sources to PENDING. -/
def State.queueReset (s : State) (q : Nat) : State :=
  let l := (s.queue q).recs
  ((((s.each l State.unclaim).setQueue q { s.queue q with recs := [] }).wr R.EVH_Q_STATUS.NOTIFY_WITHHELD q 0).wr R.EVH_Q_CFG.EN q 0).qSync q |>.overSync (q / 4)

/-- The 32 bytes of an event record (R427). -/
def State.eventRecord (s : State) (q n : Nat) : List Nat :=
  let x := s.src n
  let flags := s.rd R.EVH_Q_WPTR.PHASE q + 2 * b2n (srcLevel n) + 4 * b2n (srcLevel n && x.live) + 8 * b2n x.again + 16 * b2n x.sat
  leBytes 2 n ++ [s.rd R.EVH_SRC_CFG.PRIORITY n, flags, x.count, 0x40] ++ leBytes 2 (srcPlace n) ++ leBytes 8 x.arrival ++
    leBytes 8 s.stamp ++ leBytes 4 (s.srcDetail n) ++ leBytes 4 ((s.queue q).rseq % 2 ^ 32)

/-- The source whose record a queue forms next: by priority, and by number in SERVICE (R426); none in LEGACY, where the queues are unavailable (R576). -/
def State.queueNext (s : State) (q : Nat) : Option Nat :=
  if !s.fl R.EVH_Q_CFG.EN q || s.fl R.EVH_Q_STATUS.FULL q || s.m.mode = .legacy then none
  else if s.operating then s.bestOf (s.pendingFor (0x20 + q)) else (s.pendingFor (0x20 + q)).head?

/-- The claim and the record of one source in a queue (R426, R427). -/
def State.formRecord (s : State) (q n : Nat) : State :=
  let bytes := s.eventRecord q n
  let w := s.rd R.EVH_Q_WPTR.WPTR q
  let base := s.rd R.EVH_Q_BASE_LO.BASE_LO q * 4096 + s.rd R.EVH_Q_BASE_HI.BASE_HI q * 2 ^ 32
  let x := s.queue q
  let s := (s.claim n (17 + q)).send (.hostWrite (base + 32 * w) bytes false)
  let w' := (w + 1) % s.qDepth q
  let s := (s.wr R.EVH_Q_WPTR.WPTR q w').when (w' = 0) fun s => s.wr R.EVH_Q_WPTR.PHASE q (1 - s.rd R.EVH_Q_WPTR.PHASE q)
  let s := ((s.setQueue q { x with recs := x.recs ++ [n], rseq := x.rseq + 1 }).bump R.EVH_Q_STATUS.RECORDS q 1).qSync q
  s.when x.recs.isEmpty (·.notice q)

/-- The write of EVH_SRC_STATUS (R419): a CLEAR comes before an arrival in the same CCLK. -/
def srcStatusHook : Hook := fun _ n w be => Fx.of fun s =>
  let s := s.when (R.EVH_SRC_STATUS.CLEAR.acts w be) fun s =>
    let x := s.src n
    if x.state = 1 then s.setSrc n { x with state := 0, count := 0, sat := false, again := false }
    else if x.state = 2 then s.setSrc n { x with count := 0, sat := false } else s
  s.when (R.EVH_SRC_STATUS.SET.acts w be) (·.arrive n (s.src n).detail)

/-- EVENT_SET: a write of EVH_SRC_STATUS.SET = 1 (R419). -/
def execEventSet (rq : Req) (n : Fin 1152) (s : State) : Out' := writeRow rq .EVH_SRC_STATUS n.val (2 ^ 16) srcStatusHook s

/-- EVENT_CLEAR: a write of EVH_SRC_STATUS.CLEAR = 1 (R419). -/
def execEventClear (rq : Req) (n : Fin 1152) (s : State) : Out' := writeRow rq .EVH_SRC_STATUS n.val (2 ^ 17) srcStatusHook s

/-- A route is valid (R62, R63). -/
def State.routeOk (s : State) (n target : Nat) : Bool :=
  if target = 0xFF || target = 0x10 then true
  else
    let sag := if target < 16 then s.tileOwner target
      else if 0x20 ≤ target && target < 0x60 && (target - 0x20) % 4 < s.queuesOf ((target - 0x20) / 4) then some ((target - 0x20) / 4) else none
    if 1088 ≤ n then target < 16 || sag.isSome
    else if n < 64 || (960 ≤ n && n < 1024) then 16 ≤ target && sag = some 0
    else sag.isSome && s.srcOwner n = sag

/-- The write of EVH_SRC_CFG (R412, R415): ENABLE rising on a LEVEL source that is active is an arrival (R407). -/
def routeHook : Hook := fun rq n w be s =>
  let target := s.newv R.EVH_SRC_CFG.TARGET n w be
  if !s.routeOk n target || (target = 0x10 && s.sagOf rq ≠ some 0) then (s.wr R.EVH_STATUS.ROUTE_REFUSED (reqNum rq) 1, true)
  else
    let was := s.fl R.EVH_SRC_CFG.ENABLE n
    let (s, _) := writeWord .EVH_SRC_CFG n w be s
    (s.when (!was && s.fl R.EVH_SRC_CFG.ENABLE n && (s.src n).live) (·.arrive n 0), false)

/-- ROUTE_WRITE: a write of EVH_SRC_CFG (R412). -/
def execRouteWrite (rq : Req) (n : Fin 1152) (w : Word) (s : State) : Out' := writeRow rq .EVH_SRC_CFG n.val w.toNat routeHook s

/-- The hub forms the next record of a queue (R426); a queue with no source to take, or no room, forms none. -/
def execQueueRecordForm (sag : Fin 16) (k : Fin 4) (s : State) : Out' :=
  done s fun s =>
    match s.queueNext (4 * sag.val + k.val) with
    | none => s
    | some n => s.formRecord (4 * sag.val + k.val) n

/-- The write of a queue's newest record ended in a DMA error (R429). -/
def execQueueWriteError (sag : Fin 16) (k : Fin 4) (s : State) : Out' :=
  let q := 4 * sag.val + k.val
  done s fun s =>
    match (s.queue q).recs.getLast? with
    | none => s
    | some n =>
      let s := (s.release n).setQueue q { s.queue q with recs := (s.queue q).recs.dropLast }
      ((s.queueReset q).wr R.EVH_Q_STATUS.ERROR q 1).raise (1024 + 4 * sag.val + 1)

/-- The write of EVH_Q_RPTR (R428): it releases the sources of the records passed; a point outside old RPTR to WPTR is refused. -/
def rptrHook : Hook := fun _ q w be s =>
  if q % 4 ≥ s.queuesOf (q / 4) then (s, true) else
  let d := s.qDepth q
  let v := s.newv R.EVH_Q_RPTR.RPTR q w be
  let r := s.rd R.EVH_Q_RPTR.RPTR q
  let n := (v + d - r % d) % d
  if v ≥ d || n > (s.rd R.EVH_Q_WPTR.WPTR q + d - r % d) % d then (s, true)
  else
    let x := s.queue q
    let s := s.each (x.recs.take n) State.release
    let s := ((s.setQueue q { x with recs := x.recs.drop n }).wr R.EVH_Q_RPTR.RPTR q v).qSync q
    (s.when (!(x.recs.drop n).isEmpty) (·.notice q), false)

/-- EVH_Q_RPTR_WRITE (R428). -/
def execEvhQRptrWrite (rq : Req) (k : Fin 4) (w : Word) (s : State) : Out' := writeRow rq .EVH_Q_RPTR k.val w.toNat rptrHook s

/-- The write of EVH_Q_CFG (R425); in LEGACY it enables no queue (R576). -/
def queueCfgHook : Hook := fun _ q w be s =>
  if q % 4 ≥ s.queuesOf (q / 4) then (s, true) else
  let en := s.newv R.EVH_Q_CFG.EN q w be
  let size := s.newv R.EVH_Q_CFG.SIZE_LOG2 q w be
  if s.fl R.EVH_Q_CFG.EN q then
    if en = 0 then ((s.queueReset q).wr R.EVH_Q_CFG.SIZE_LOG2 q size, false)
    else (s, size ≠ s.rd R.EVH_Q_CFG.SIZE_LOG2 q)
  else if en = 1 then
    if s.m.mode = .legacy || size < 6 || size > s.rd R.SAG_QUOTA_B.QUEUE_DEPTH_LOG2 (q / 4) then (s, true)
    else
      let s := ((s.wr R.EVH_Q_CFG.EN q 1).wr R.EVH_Q_CFG.SIZE_LOG2 q size).setQueue q .idle
      ((((s.wr R.EVH_Q_WPTR.WPTR q 0).wr R.EVH_Q_WPTR.PHASE q 1).wr R.EVH_Q_RPTR.RPTR q 0).qSync q, false)
  else (s.wr R.EVH_Q_CFG.SIZE_LOG2 q size, false)

/-- The write of EVH_Q_BASE (R425): accepted only while EN = 0. -/
def queueBaseHook (r : Reg) : Hook := fun _ q w be s =>
  if q % 4 ≥ s.queuesOf (q / 4) || s.fl R.EVH_Q_CFG.EN q then (s, true) else writeWord r q w be s

/-- EVH_Q_ENABLE: a write of EVH_Q_CFG with EN = 1 (R425). -/
def execEvhQEnable (rq : Req) (k : Fin 4) (w : Word) (s : State) : Out' := writeRow rq .EVH_Q_CFG k.val (Nat.lor w.toNat 1) queueCfgHook s

/-- EVH_Q_DISABLE: a write of EVH_Q_CFG with EN = 0 (R425). -/
def execEvhQDisable (rq : Req) (k : Fin 4) (w : Word) (s : State) : Out' := writeRow rq .EVH_Q_CFG k.val (putBits w.toNat 0 1 0) queueCfgHook s

/-- A hold-off timer expires (R430): one notice for each queue with a notice of its group withheld that still holds records. -/
def execHoldoffExpire (g : Fin 64) (s : State) : Out' :=
  done s fun s =>
    if !s.fl R.EVH_HOLDOFF.RUNNING g.val then s else
    let due := (List.range 64).filter fun q => s.fl R.EVH_Q_STATUS.NOTIFY_WITHHELD q && (s.queue q).held = g.val
    let sent := due.filter fun q => !(s.queue q).recs.isEmpty
    let s := s.each due fun s q => s.wr R.EVH_Q_STATUS.NOTIFY_WITHHELD q 0
    let s := s.each sent fun s q => match s.fnOf (q / 4) with | some fn => s.msix fn (q % 4) | none => s
    s.wb R.EVH_HOLDOFF.RUNNING g.val (!sent.isEmpty)

/-- The message of a pending vector goes when its mask clears (R459). -/
def State.unmask (s : State) (fn k : Nat) : State :=
  if smGet 0 s.host.pba (4 * fn + k) = 1 && smGet 1 s.host.masks (4 * fn + k) = 0 && smGet 0 s.host.fnMask fn = 0 then
    ({ s with host := { s.host with pba := smSet 0 s.host.pba (4 * fn + k) 0 } }).send (.msix fn k)
  else s

/-- The mask of a vector, or the Function Mask, is cleared (R459). -/
def execMsixMaskClear (f : Fin 64) (k : Option (Fin 4)) (s : State) : Out' :=
  done s fun s =>
    match k with
    | some k => ({ s with host := { s.host with masks := smSet 1 s.host.masks (4 * f.val + k.val) 0 } }).unmask f.val k.val
    | none => ({ s with host := { s.host with fnMask := smSet 0 s.host.fnMask f.val 0 } }).each (List.range 4) fun s k => s.unmask f.val k

end Sys2Proof.Machine
end

