-- ==== Sys2Proof/Machine/Log.lean ====
section
/-! DEFINITION. The shard log (R564 to R567), NVM and its records (R558 to R563), and the writing of the repair map (R557). -/

namespace Sys2Proof.Machine

/-- One bit step of the CRC-32 of R42, reflected. -/
def crcBit (c : Nat) : Nat := if c % 2 = 1 then Nat.xor (c / 2) 0xEDB88320 else c / 2

/-- One byte into the CRC-32 of R42. -/
def crcByte (c b : Nat) : Nat :=
  crcBit (crcBit (crcBit (crcBit (crcBit (crcBit (crcBit (crcBit (Nat.xor c (b % 256)))))))))

/-- The CRC-32 of R42. -/
def crc32 (l : List Nat) : Nat := Nat.xor (l.foldl crcByte 0xFFFFFFFF) 0xFFFFFFFF

/-- The oldest shard of the buffer drains into its ring slot and its mirror entry, and SHARD is raised (R564). -/
def execShardWrite (s : State) : Out' :=
  done s fun s =>
    match s.log.buffer with
    | [] => s
    | x :: rest =>
      ({ s with log := { s.log with buffer := rest, ring := smSet .blank s.log.ring (x.seq % 4096) x, mirror := smSet .blank s.log.mirror (x.seq % 16) x } }).raise 17

/-- The shutdown shard: to the mirror alone (R542, R564). [log DEDUCED 94] -/
def State.mirrorOnly (s : State) (code pl d0 d1 d2 : Nat) : State :=
  let q := s.rd R.LOG_SEQ.SEQ 0
  let x : Shard := { time := s.stamp, seq := q, code := code, place := pl, mode := s.m.mode.code + 128 * b2n s.m.trip, flags := 4, d0 := d0 % 2 ^ 32, d1 := d1 % 2 ^ 32, d2 := d2 % 2 ^ 32 }
  ({ s with log := { s.log with mirror := smSet .blank s.log.mirror (q % 16) x } }).wr R.LOG_SEQ.SEQ 0 (q + 1)

/-- Mirror shards copied into the ring with PRIOR set (R567). -/
def State.mirrorRestore (s : State) : State :=
  { s with log := { s.log with ring := s.log.mirror.foldl (fun r e => smSet .blank r (e.2.seq % 4096) { e.2 with flags := Nat.lor e.2.flags 1 }) [] } }

/-- Shards in the ring: LOG_STATUS.COUNT. -/
def State.shardCount (s : State) : Nat := s.log.ring.length

/-- Where R558 puts copy A of a record, and the pages of one copy; none for a KIND of no record. -/
def nvmPlace (kind : Nat) : Option (Nat × Nat) :=
  if kind = 1 then some (0, 1) else if kind = 2 then some (2, 1) else if kind = 3 then some (8, 40) else if kind = 4 then some (4, 2)
  else if 0x10 ≤ kind && kind < 0x20 then some (88 + 2 * (kind - 0x10), 1) else none

/-- The logical pages of a copy. -/
def nvmPages (kind copy : Nat) : List Nat :=
  match nvmPlace kind with
  | some (p, n) => (List.range n).map fun j => p + copy * n + j
  | none => []

/-- The physical page of a logical page (R558). -/
def State.nvmPhys (s : State) (page : Nat) : Nat :=
  let p := smGet 0 s.nvm.pageMap page
  if p = 0 then page else p - 1

/-- The bytes of a copy. [log DESIGN CHOICE 4] -/
def State.nvmCopy (s : State) (kind copy : Nat) : List Nat :=
  (nvmPages kind copy).flatMap fun l => smRead 0xFF s.nvm.cells (4096 * s.nvmPhys l) 4096

/-- The header fields of R559 before the CRC. -/
def nvmHead (kind seq : Nat) : List Nat := [0x5A, 0x57, 0x4E, 0x52] ++ leBytes 2 kind ++ [0, 0] ++ leBytes 4 seq

/-- The CRC of R559. -/
def nvmCrc (bytes : List Nat) : Nat := crc32 (bytes.take 12 ++ bytes.drop 16)

/-- A whole copy: header, CRC, payload (R559). -/
def nvmBytes (kind seq : Nat) (payload : List Nat) : List Nat :=
  let h := nvmHead kind seq
  h ++ leBytes 4 (crc32 (h ++ payload)) ++ payload

/-- A copy is valid: MAGIC, KIND and CRC are correct (R560). -/
def nvmValid (kind : Nat) (b : List Nat) : Bool :=
  b.take 4 == [0x5A, 0x57, 0x4E, 0x52] && leVal ((b.drop 4).take 2) == kind && leVal ((b.drop 12).take 4) == nvmCrc b

/-- SEQ of a copy. -/
def nvmSeq (b : List Nat) : Nat := leVal ((b.drop 8).take 4)

/-- SEQ x is newer than SEQ y (R560). -/
def seqNewer (x y : Nat) : Bool := let d := (x + 2 ^ 32 - y % 2 ^ 32) % 2 ^ 32; 1 ≤ d && d < 2 ^ 31

/-- The choice of a record's copy (R560). -/
def State.nvmChoose (s : State) (kind : Nat) : Chosen :=
  let a := s.nvmCopy kind 0
  let b := s.nvmCopy kind 1
  match nvmValid kind a, nvmValid kind b with
  | true, true => if seqNewer (nvmSeq b) (nvmSeq a) then ⟨1, nvmSeq b, true⟩ else ⟨0, nvmSeq a, true⟩
  | true, false => ⟨0, nvmSeq a, true⟩
  | false, true => ⟨1, nvmSeq b, true⟩
  | false, false => ⟨1, 0, false⟩

/-- A copy that reads all 0xFF. -/
def nvmBlank (b : List Nat) : Bool := b.all (· == 0xFF)

/-- The place code of NVM. -/
def nvmPlaceCode : Nat := 0x7055

/-- One record's copy is chosen, with the shards of R560. -/
def State.nvmTake (s : State) (kind : Nat) : State :=
  let a := s.nvmCopy kind 0
  let b := s.nvmCopy kind 1
  let c := s.nvmChoose kind
  let s := { s with nvm := { s.nvm with chosen := smSet ⟨1, 0, false⟩ s.nvm.chosen kind c } }
  match nvmValid kind a, nvmValid kind b with
  | true, true => s
  | true, false => s.when (!nvmBlank b) (·.shard 0x51 nvmPlaceCode kind 1 c.seq)
  | false, true => s.when (!nvmBlank a) (·.shard 0x51 nvmPlaceCode kind 0 c.seq)
  | false, false => s.when (!(nvmBlank a && nvmBlank b)) (·.shard 0x54 nvmPlaceCode kind 0 0)

/-- The chosen copy of a record. -/
def State.nvmChosen (s : State) (kind : Nat) : Chosen := smGet ⟨1, 0, false⟩ s.nvm.chosen kind

/-- The payload of the copy in use, none where the record has its default. -/
def State.nvmPayload (s : State) (kind : Nat) : Option (List Nat) :=
  let c := s.nvmChosen kind
  if c.valid then some ((s.nvmCopy kind c.copy).drop 16) else none

/-- The serial number of the identity record, 0 by default (R560). -/
def State.serial (s : State) : Nat :=
  let c := s.nvmChoose 2
  if c.valid then leVal (((s.nvmCopy 2 c.copy).drop 16).take 8) else 0

/-- An entry of the repair map from its 16 bytes (R556). -/
def Repair.ofBytes (b : List Nat) : Repair :=
  ⟨leVal (b.take 2), b.getD 2 0, b.getD 3 0, leVal ((b.drop 4).take 4), leVal ((b.drop 8).take 2), leVal ((b.drop 12).take 4)⟩

/-- The 16 bytes of an entry of the repair map (R556). -/
def Repair.bytes (x : Repair) : List Nat :=
  leBytes 2 x.place ++ [x.type, x.state] ++ leBytes 4 x.target ++ leBytes 2 x.replace ++ [0, 0] ++ leBytes 4 x.time

/-- The payload of the repair map: its entries, then zeros to 511 entries. -/
def repairPayload (l : List Repair) : List Nat := l.flatMap Repair.bytes ++ List.replicate (16 * (511 - l.length)) 0

/-- The entries of a payload: an entry of TYPE 0 is none. -/
def repairEntries (b : List Nat) : List Repair :=
  ((List.range 511).map fun j => Repair.ofBytes ((b.drop (16 * j)).take 16)).filter fun x => x.type ≠ 0

/-- The directory payload: byte l is the physical page of logical page l. -/
def State.dirPayload (s : State) : List Nat := (List.range 128).map s.nvmPhys ++ List.replicate 3952 0

/-- The page map that a directory payload gives. -/
def dirMap (b : List Nat) : SMap Nat :=
  (List.range 128).foldl (fun m l => if b.getD l l = l then m else smSet 0 m l (b.getD l l + 1)) []

/-- Spare pages not in the page map, lowest first (R558). -/
def State.sparePages (s : State) : List Nat := ((List.range 8).map (120 + ·)).filter fun p => !(s.nvm.pageMap.any fun e => e.2 = p + 1)

/-- Every record's copy chosen, once a power-up (R560): the directory first, since the others are reached through it. -/
def State.nvmPowerUp (s : State) : State :=
  if s.nvm.ready then s else
  let s := s.nvmTake 1
  let s := match s.nvmPayload 1 with
    | some b => { s with nvm := { s.nvm with pageMap := dirMap b } }
    | none => { s with nvm := { s.nvm with pageMap := [] } }
  let s := s.wr R.NVM_STATUS.SPARE_PAGES 0 s.sparePages.length
  let s := s.each ([2, 3, 4] ++ (List.range 16).map (0x10 + ·)) State.nvmTake
  let s := s.wb R.NVM_STATUS.BASELINE_MISSING 0 (!(s.nvmChosen 3).valid)
  let s := (s.wr R.NVM_SERIAL_LO.SERIAL_LO 0 s.serial).wr R.NVM_SERIAL_HI.SERIAL_HI 0 (s.serial / 2 ^ 32)
  { s with nvm := { s.nvm with ready := true } }

/-- A record write starts on the copy that is not chosen, with SEQ one above the chosen one's (R561). -/
def State.nvmStart (s : State) (kind : Nat) (payload : List Nat) (user : Bool) : State :=
  let c := s.nvmChosen kind
  let copy := 1 - c.copy
  let seq := (c.seq + 1) % 2 ^ 32
  ({ s with nvm := { s.nvm with job := some ⟨kind, copy, seq, nvmBytes kind seq payload, nvmPages kind copy, false, user⟩ } }).wr R.NVM_STATUS.BUSY 0 1

/-- The bytes of NVM_BUF. -/
def State.nvmBuf (s : State) : List Nat := (List.range 4080).map fun j => bits (s.rd R.NVM_BUF.DATA (j / 4)) (8 * (j % 4)) 8

/-- The repair map waits to be written and may be (R557), its window apart. -/
def State.mapWaits (s : State) : Bool :=
  s.fl R.NVM_STATUS.REPAIR_PENDING 0 && (s.m.mode = .service || s.operating) && (match s.image with | some im => im.repairPersist = 1 | none => false)

/-- A waiting user WRITE starts once the window is open and nothing else writes; the repair map goes first (R563). After DIR_FAIL no record is written, and it ends in error (R562). -/
def State.nvmKick (s : State) : State :=
  match s.nvm.waiting with
  | none => s
  | some kind =>
    if s.fl R.NVM_STATUS.DIR_FAIL 0 then
      ((({ s with nvm := { s.nvm with waiting := none } }).wr R.NVM_CMD.WAIT_WINDOW 0 0).wr R.NVM_CMD.STATUS 0 3).wr R.NVM_CMD.ERR 0 3
    else if s.fl R.NVM_STATUS.BUSY 0 || !s.fl R.THS_STATUS.NVM_OK 0 then s.wb R.NVM_CMD.WAIT_WINDOW 0 (!s.fl R.THS_STATUS.NVM_OK 0)
    else if s.mapWaits then s.wr R.NVM_CMD.WAIT_WINDOW 0 0
    else (({ s with nvm := { s.nvm with waiting := none } }).wr R.NVM_CMD.WAIT_WINDOW 0 0).nvmStart kind s.nvmBuf true

/-- A pending repair map starts to be written (R557). -/
def execRepairMapWrite (s : State) : Out' :=
  done s fun s =>
    if s.mapWaits && s.fl R.THS_STATUS.NVM_OK 0 && !s.fl R.NVM_STATUS.BUSY 0 && !s.fl R.NVM_STATUS.DIR_FAIL 0 then
      ((s.wr R.NVM_STATUS.REPAIR_PENDING 0 0).wr R.DEV_STARTUP.REPAIR_DEFERRED 0 0).nvmStart 4 (repairPayload s.nvm.map) false
    else s

/-- A change of the repair map waits for its write (R557). -/
def State.mapChanged (s : State) : State :=
  match s.image with
  | some im => s.when (im.repairPersist = 1) (·.wr R.NVM_STATUS.REPAIR_PENDING 0 1)
  | none => s

/-- An entry joins the repair map, or acts in volatile state only where the map is full (R556, R557). -/
def State.addRepair (s : State) (pl type st target replace : Nat) : State :=
  if s.nvm.map.length < 511 then
    let e : Repair := ⟨pl, type, st, target, replace, s.clock.sec % 2 ^ 32⟩
    ({ s with nvm := { s.nvm with map := s.nvm.map ++ [e] } }).mapChanged
  else (s.wr R.NVM_STATUS.MAP_FULL 0 1).shard 0x53 nvmPlaceCode 0 0 0

/-- The bytes of a job's copy go to the pages it names. -/
def State.nvmProgram (s : State) (j : NvmJob) : State :=
  let all := nvmPages j.kind j.copy
  let cells := (List.range all.length).foldl (fun m i => smWrite 0xFF m (4096 * s.nvmPhys (all.getD i 0)) ((j.bytes.drop (4096 * i)).take 4096)) s.nvm.cells
  { s with nvm := { s.nvm with cells := cells } }

/-- A record write ends (R561, R563): NVM_DONE is raised, and a user command reads done or error. -/
def State.nvmEnd (s : State) (user : Bool) (err : Nat) : State :=
  let s := ({ s with nvm := { s.nvm with job := none } }).wr R.NVM_STATUS.BUSY 0 0
  let s := s.when user fun s => (s.wr R.NVM_CMD.STATUS 0 (if err = 0 then 2 else 3)).wr R.NVM_CMD.ERR 0 err
  (s.raise 16).nvmKick

/-- One page that failed verification is retired to the lowest free spare page (R562); false where none is left. -/
def State.retirePage (s : State) (l : Nat) : State × Bool :=
  match s.sparePages with
  | [] => ((s.shard 0x52 nvmPlaceCode (s.nvmPhys l) 0xFFFF 0).raise 13, false)
  | p :: _ =>
    let s' := (s.shard 0x52 nvmPlaceCode (s.nvmPhys l) p 0).raise 13
    let s' := { s' with nvm := { s'.nvm with pageMap := smSet 0 s'.nvm.pageMap l (p + 1) } }
    ((s'.wr R.NVM_STATUS.SPARE_PAGES 0 s'.sparePages.length).raise 14, true)

/-- A record write is programmed and verified; `bad` are the physical pages that failed verification (R561, R562). -/
def execNvmWriteDone (bad : List Nat) (s : State) : Out' :=
  done s fun s =>
    match s.nvm.job with
    | none => s
    | some j =>
      let fails := j.pages.filter fun l => bad.contains (s.nvmPhys l)
      if fails = [] then
        let s := s.nvmProgram j
        let s := { s with nvm := { s.nvm with chosen := smSet ⟨1, 0, false⟩ s.nvm.chosen j.kind ⟨j.copy, j.seq, true⟩ } }
        if j.remapped then s.nvmStart 1 s.dirPayload j.user else s.nvmEnd j.user 0
      else if j.kind = 1 then (s.wr R.NVM_STATUS.DIR_FAIL 0 1).nvmEnd j.user 3
      else
        let (s, ok) := fails.foldl (fun a l => if a.2 then a.1.retirePage l else a) (s, true)
        if ok then { s with nvm := { s.nvm with job := some { j with pages := fails, remapped := true } } }
        else s.nvmEnd j.user 2

/-- A write that a reset or a shutdown interrupts leaves the replaced copy failing its CRC (R561). [log DEDUCED 29] -/
def State.nvmAbort (s : State) : State :=
  match s.nvm.job with
  | none => s
  | some j =>
    let torn := j.bytes.take 12 ++ (leBytes 4 (Nat.xor (leVal ((j.bytes.drop 12).take 4)) 0xFFFFFFFF)) ++ j.bytes.drop 16
    let s := s.nvmProgram { j with bytes := torn }
    ({ s with nvm := { s.nvm with job := none } }).wr R.NVM_STATUS.BUSY 0 0

/-- A write of NVM_CMD (R563). [log DEDUCED 137] -/
def nvmCmdHook : Hook := fun rq _ w be s =>
  if s.rd R.NVM_CMD.STATUS 0 = 1 then (s, true) else
  let op := if R.NVM_CMD.OP.enabled be then R.NVM_CMD.OP.part w else 0
  let s := s.wr R.NVM_CMD.KIND 0 (s.newv R.NVM_CMD.KIND 0 w be)
  let kind := s.rd R.NVM_CMD.KIND 0 + 1
  let user := 0x10 ≤ kind && kind < 0x20
  let access := match s.image with | some im => if rq = .spi then im.userAccess = 2 else im.userAccess ≠ 0 | none => false
  let refuse := ((s.wr R.NVM_CMD.STATUS 0 3).wr R.NVM_CMD.ERR 0 1, false)
  if op = 1 then
    if (user && access) || kind = 2 || kind = 4 then
      let bytes := (s.nvmPayload kind).getD []
      let s := s.each (List.range 1020) fun s j => s.wr R.NVM_BUF.DATA j (leVal ((bytes.drop (4 * j)).take 4))
      let s := (s.wr R.NVM_SEQ.SEQ 0 (if (s.nvmChosen kind).valid then (s.nvmChosen kind).seq else 0)).wb R.NVM_CMD.VALID 0 (s.nvmChosen kind).valid
      ((s.wr R.NVM_CMD.STATUS 0 2).wr R.NVM_CMD.ERR 0 0, false)
    else refuse
  else if op = 2 then
    if !(user && access) then refuse
    else if s.fl R.NVM_STATUS.DIR_FAIL 0 then ((s.wr R.NVM_CMD.STATUS 0 3).wr R.NVM_CMD.ERR 0 3, false)
    else ((({ s with nvm := { s.nvm with waiting := some kind } }).wr R.NVM_CMD.STATUS 0 1).nvmKick, false)
  else (s, false)

/-- NVM_READ: a write of NVM_CMD with OP READ (R563). [log DEDUCED 137] -/
def execNvmRead (rq : Req) (w : Word) (s : State) : Out' := writeRow rq .NVM_CMD 0 (putBits w.toNat 0 2 1) nvmCmdHook s

/-- NVM_USER_WRITE: a write of NVM_CMD with OP WRITE (R563). -/
def execNvmUserWrite (rq : Req) (w : Word) (s : State) : Out' := writeRow rq .NVM_CMD 0 (putBits w.toNat 0 2 2) nvmCmdHook s

/-- A write of NVM_BUF: discarded while STATUS is busy (R563). -/
def nvmBufHook : Hook := fun _ i w be s => if s.rd R.NVM_CMD.STATUS 0 = 1 then (s, true) else writeWord .NVM_BUF i w be s

end Sys2Proof.Machine
end

