-- ==== Sys2Proof/Machine/Units.lean ====
section
/-! DEFINITION. The units of the device as parts of State: each with its state after reset, its read and its update, and the reads of
lane, octet and DPS registers that have not taken effect yet (R112, R340). -/

namespace Sys2Proof.Machine

/-- A lane after reset. -/
def LaneSt.idle : LaneSt :=
  { closed := false, drv := 0, want := 0, swing := 0, tripOff := false, prev := 0, prevDnrz := false, last := false, edges := [], jobs := [], trans := none, window := 0, slots := 0,
    cmpWindow := 0, cmpSlots := 0, ball := 0, ch := false, cl := false, unsetH := false, unsetL := false, sinceH := 0, sinceL := 0, met := 0, filt := false, mute := false, quiet := 0, handover := none }
/-- Lane L. -/
def State.lane (s : State) (l : Nat) : LaneSt := smGet .idle s.lanes l
/-- Lane L replaced. -/
def State.setLane (s : State) (l : Nat) (x : LaneSt) : State := { s with lanes := smSet .idle s.lanes l x }

/-- A DAC after reset: every code at the zero code of its reset span, which is 0 (R159). -/
def DacSt.idle : DacSt := ⟨0, 0, 0, false, false, false, false, false, none, none⟩
/-- DAC k. -/
def State.dac (s : State) (k : Nat) : DacSt := smGet .idle s.dacs k
/-- DAC k replaced. -/
def State.setDac (s : State) (k : Nat) (x : DacSt) : State := { s with dacs := smSet .idle s.dacs k x }

/-- An octet ADC after reset. -/
def AdcSt.idle : AdcSt := ⟨0, none, [], false⟩
/-- The ADC of octet o. -/
def State.adc (s : State) (o : Nat) : AdcSt := smGet .idle s.adcs o
/-- The ADC of octet o replaced. -/
def State.setAdc (s : State) (o : Nat) (x : AdcSt) : State := { s with adcs := smSet .idle s.adcs o x }

/-- An SMU after reset. -/
def SmuSt.idle : SmuSt := ⟨none, none, false, [], .idle⟩
/-- SMU i: 0 to 127 octet SMUs, 128 + 2q + s the spares. -/
def State.smu (s : State) (i : Nat) : SmuSt := smGet .idle s.smus i
/-- SMU i replaced. -/
def State.setSmu (s : State) (i : Nat) (x : SmuSt) : State := { s with smus := smSet .idle s.smus i x }

/-- DPS channel d replaced. -/
def State.setDps (s : State) (d : Nat) (x : DpsSt) : State := { s with dpss := smSet .idle s.dpss d x }

/-- The segment engine of a tile after reset. -/
def PlaySt.idle : PlaySt :=
  { playing := false, phase := .stopped, start := 0, cycle := 0, refPoint := 0, period := 1024, idx := 0, slot := 0, passNo := 0, passFail := false,
    isFinal := false, matched := false, queue := [], succ := none, starving := none, nextSlot := none, samePass := false, go := false, jump := none,
    holdNano := 0, intr := 0, gapOk := false, stopAt := 0, fresh := false, firstPass := false, starved := false, groupAt := none, nano := 0, issued := [], steady := none, lset := 0, lsetNext := none, user := 0,
    vecs := [], log := [], logGap := false, caps := [], commit := (0, 0), ringArmed := false, held := [], srcSample := none, ncos := [], siteAt := [], sets := [] }
/-- The segment engine of tile t. -/
def State.play (s : State) (t : Nat) : PlaySt := smGet .idle s.plays t
/-- The segment engine of tile t replaced. -/
def State.setPlay (s : State) (t : Nat) (x : PlaySt) : State := { s with plays := smSet .idle s.plays t x }

/-- The stores of a tile after STORE_TEST (R602). [log DESIGN CHOICE 5] -/
def StoreSt.idle : StoreSt := ⟨[], [], [], [], [], [], [], none, [], 0, []⟩
/-- The stores of tile t; 16 holds those of the housekeeping sequencer. -/
def State.store (s : State) (t : Nat) : StoreSt := smGet .idle s.stores t
/-- The stores of tile t replaced. -/
def State.setStore (s : State) (t : Nat) (x : StoreSt) : State := { s with stores := smSet .idle s.stores t x }

/-- A sequencer after reset. -/
def SeqSt.idle : SeqSt :=
  { next := 0, recovered := false, atYield := false, entered := false, ran := 0, waiting := none, frames := [], src := none, res := 0, inRes := 0, timedOut := false, woke := false, refused := false, vsync := false,
    draining := false, busy := 0, tick := 0 }
/-- Sequencer q: 16 is the housekeeping one. -/
def State.seq (s : State) (q : Nat) : SeqSt := smGet .idle s.seqs q
/-- Sequencer q replaced. -/
def State.setSeq (s : State) (q : Nat) (x : SeqSt) : State := { s with seqs := smSet .idle s.seqs q x }

/-- A TDC after reset. -/
def TdcSt.idle : TdcSt := ⟨none, 0, 0, 0, false, false, false, none, []⟩
/-- TDC i. -/
def State.tdc (s : State) (i : Nat) : TdcSt := smGet .idle s.tdcs i
/-- TDC i replaced. -/
def State.setTdc (s : State) (i : Nat) (x : TdcSt) : State := { s with tdcs := smSet .idle s.tdcs i x }

/-- An acquisition unit after reset. -/
def AcqSt.idle : AcqSt :=
  { waiting := [], conds := [], marks := [], latches := 0, prev := none, prevMatch := none, forced := false, triggered := false, pre := [],
    trig := ⟨0, 0, 0, 0, false, false, 0, 0, 0, 0⟩, cause := 0, flags := 0, preN := 0, postN := 0, foN := 0, block := none, offs := [], parts := [], writes := [],
    seq := 0, missed := 0, armTime := 0, quality := 0, disarm := false }
/-- The acquisition unit of tile t. -/
def State.acq (s : State) (t : Nat) : AcqSt := smGet .idle s.acqs t
/-- The acquisition unit of tile t replaced. -/
def State.setAcq (s : State) (t : Nat) (x : AcqSt) : State := { s with acqs := smSet .idle s.acqs t x }

/-- The value of a lane or octet register field in force: what stood before a write that waits for the next vector boundary (R112). -/
def State.eff (s : State) (t : Nat) (f : Fld) (i : Nat) : Nat :=
  match (s.play t).held.find? fun e => e.1 = f.slot i with
  | some e => e.2
  | none => s.rd f i

/-- A one-bit lane or octet register field in force. -/
def State.effb (s : State) (t : Nat) (f : Fld) (i : Nat) : Bool := s.eff t f i != 0

/-- A field of lane L in force. -/
def State.leff (s : State) (f : Fld) (l : Nat) : Nat := s.eff (l / 64) f l

/-- A unit is unavailable (R554), by its key: its place code, + 65536 for an alternate front end or the second spare SMU of a quadrant,
+ 131072 for an octet's ADC or a lane as a whole, + 196608 for the level DACs of a lane. -/
def State.unavailable (s : State) (key : Nat) : Bool := smGet 0 s.spare.state key = 6

/-- The ADC of octet o is unavailable (R554). -/
def State.adcGone (s : State) (o : Nat) : Bool := s.unavailable (place 1 o + 131072)

/-- No ADC converts for octet o: its own is unavailable and no neighbour lends one (R330). [log DEDUCED 51] -/
def State.adcNone (s : State) (o : Nat) : Bool := s.adcGone o && !s.fl R.OCT_STATUS.ADC_BORROWED o

/-- The circuit that serves DPS channel d: its own, or the spare of its quadrant brought in for it (R19, R352). -/
def State.dpsPhys (s : State) (d : Nat) : Nat :=
  let k := 32 + d / 8
  if d < 32 && s.fl R.DPS_SPARE_STATUS.ASSIGNED k && s.rd R.DPS_SPARE_STATUS.CHANNEL k = d then k else d

/-- The lane belongs to a site, so its octet is owned (R32, R53). -/
def State.laneUsed (s : State) (l : Nat) : Bool := (s.siteOf l).isSome

/-- The lockout of R96 and R97 opens every lane, SMU and DPS output. -/
def State.lockout (s : State) : Bool := s.m.porst || s.m.beforeSafe || !s.m.badRails.isEmpty

/-- R89 lets SMU and DPS outputs connect: IDLE, RUN or LEGACY after the first RUN. -/
def State.outputsOn (s : State) : Bool := s.operating && s.fl R.DEV_MODE.FIRST_RUN 0 && !s.m.trip && !s.lockout && !s.m.softReset

/-- R89 lets the selector of a lane close: a later SERVICE, or IDLE, RUN or LEGACY after the first RUN; never with both front ends retired or the lane unavailable (R143, R554). -/
def State.laneOn (s : State) (l : Nat) : Bool :=
  (s.outputsOn || (s.m.mode = .service && !s.m.startup && !s.m.trip && !s.lockout && !s.m.softReset)) && s.rd R.LANE_FE.RETIRED l ≠ 3 && !s.unavailable (l + 131072)

/-- The sequencer of a tile is halted by machine check (R238). -/
def State.halted (s : State) (q : Nat) : Bool := s.rd R.SEQ_STATUS.STATE q = 3

/-- A quadrant with no run in progress. -/
def CalSt.idle : CalSt := ⟨false, none, [], 0, false, [], [], 0⟩
/-- The size of the boot flash by its identification, 0 while none is present (R496). -/
def State.flashSize (s : State) : Nat := if s.fl R.FLS_STATUS.PRESENT 0 then 2 ^ bits (s.rd R.FLS_ID.ID 0) 16 8 else 0

/-- Strap n as it acts: the sampled value, or the default of straps 0 and 4 where the image in force does not declare them fitted (R49, R100). -/
def State.strap (s : State) (n : Nat) : Bool :=
  match s.image with
  | some im => if (n = 0 || n = 4) && !bitAt im.strapsFitted n then decide (n = 0) else bitAt s.m.straps n
  | none => bitAt s.m.straps n

/-- The master uses 4-byte commands (R496). -/
def State.flashWide (s : State) : Bool := s.strap 4

/-- The bytes of the flash that the aperture reaches: its size, and 16 MiB at most with 3-byte commands (R496, R499). -/
def State.flashReach (s : State) : Nat := if s.flashWide then s.flashSize else min s.flashSize 0x1000000

/-- The flash bytes a master reads from an address on. [log DESIGN CHOICE 4] -/
def State.flashRead (s : State) (a n : Nat) : List Nat := smRead 0xFF s.flash.cells a n

/-- The calibration of quadrant q. -/
def State.cal (s : State) (q : Nat) : CalSt := smGet .idle s.cals q
/-- The calibration of quadrant q replaced. -/
def State.setCal (s : State) (q : Nat) (x : CalSt) : State := { s with cals := smSet .idle s.cals q x }

/-- The lanes that the octet matrix connects now: OCT_MATRIX.LANES_ON (R318, R321). -/
def State.lanesOn (s : State) (o : Nat) : Nat := if s.outputsOn && s.rd R.OCT_STATUS.SMU_SOURCE o ≠ 3 then s.eff (o / 8) R.OCT_MATRIX.LANE_SEL o else 0

/-- The dedicated balls are connected now: OCT_MATRIX.BALL_ON. -/
def State.ballOn (s : State) (o : Nat) : Bool := s.outputsOn && s.rd R.OCT_STATUS.SMU_SOURCE o = 0 && s.effb (o / 8) R.OCT_MATRIX.BALL_EN o

/-- The key of a calibrated unit (R10). -/
def calKey (kind u : Nat) : Nat :=
  if kind = 1 then place 3 u else if kind = 2 then place 5 u else if kind = 3 then place 0 (u / 9) + 196608 else if kind = 4 then place 0 (u / 2) + 65536 * (u % 2)
  else if kind = 5 then (if u < 128 then place 1 u else place 3 ((u - 128) / 2) + 65536 * (u % 2)) else if kind = 6 then place 1 u + 131072 else place 4 u

/-- A lane excluded from calibration (R521). -/
def State.calExcl (s : State) (l : Nat) : Bool := bitAt (s.rd R.CAL_EXCL.EXCL (l / 32)) (l % 32)

/-- The active front end of a single-front-end lane may be taken: the lane is in a gap (R519). -/
def State.laneGap (s : State) (l : Nat) : Bool := !(s.play (l / 64)).playing || (s.lane l).quiet ≥ 4096

/-- A run pauses (R514). -/
def State.calPaused (s : State) : Bool := !s.fl R.DEV_CLK.PLL_LOCKED 0 || s.fl R.DEV_CLK.HOLDOVER 0

/-- A unit can take a calibration step (R516, R521); in start-up SERVICE every unit can. No front end leaves its ball while runs pause (R514). [log DEDUCED 55] -/
def State.calAvail (s : State) (kind u : Nat) : Bool :=
  if s.m.startup then true
  else if kind = 1 then true
  else if kind = 2 then !s.fl R.TDC_CTL.ARMED (if u < 64 || !s.fl R.TDC_SPARE_STATUS.ASSIGNED u then u else s.rd R.TDC_SPARE_STATUS.REPLACED u)
  else if kind = 3 then !s.calExcl (u / 9)
  else if kind = 4 then
    let l := u / 2
    if s.fl R.LANE_FE.SINGLE l then s.rd R.LANE_FE.ACTIVE_FE l = u % 2 && s.fl R.CAL_CTL.GAP_EN (l / 256) && !s.calExcl l && s.laneGap l && !s.calPaused
    else s.rd R.LANE_FE.ACTIVE_FE l ≠ u % 2
  else if kind = 5 then
    if u < 128 then s.lanesOn u = 0 && !s.ballOn u && !s.fl R.SMU_MEAS.RUN u
    else !s.fl R.SMU_SPARE_STATUS.ASSIGNED (u - 128) ||
      (let o := s.rd R.SMU_SPARE_STATUS.OCTET (u - 128); s.lanesOn o = 0 && !s.fl R.SMU_MEAS.RUN o)
  else if kind = 6 then !s.fl R.ADC_STATUS.BUSY u
  else if u < 32 then !(s.dps u).closed
  else !s.fl R.DPS_SPARE_STATUS.ASSIGNED u || !(s.dps (s.rd R.DPS_SPARE_STATUS.CHANNEL u)).closed

/-- The first available unit in rotation becomes the step in progress; units before it are passed over (R515). [log DEDUCED 55] -/
def State.calNext (s : State) (q : Nat) : State :=
  let c := s.cal q
  if !c.running || c.cur.isSome then s else
  match c.todo.span fun u => !s.calAvail u.1 u.2 with
  | (_, []) => s
  | (a, u :: b) => s.setCal q { c with cur := some u, todo := b ++ a, tries := 0, waiting := false }

/-- The step in progress on a unit is abandoned (R517, R518): the unit goes to the end of the rotation, or is deferred after 16 abandoned DAC steps. -/
def State.calTouch (s : State) (kind u : Nat) : State :=
  s.each (List.range 4) fun s q =>
    let c := s.cal q
    if c.cur = some (kind, u) then
      let n := smGet 0 c.abandons (kind * 65536 + u) + 1
      let c := { c with cur := none, waiting := false, abandons := smSet 0 c.abandons (kind * 65536 + u) n }
      let s := if kind = 3 && n ≥ 16 then
          ((s.setCal q { c with deferred := c.deferred ++ [(kind, u)] }).bump R.CAL_RESULT.DEFERRED q 1)
        else s.setCal q { c with todo := c.todo ++ [(kind, u)] }
      s.calNext q
    else s

/-- A trigger of the sequence of octet o (R326, R330): it starts at the next slot edge, or adds to TRIG_MISSED while a sequence runs. -/
def State.adcTrigger (s : State) (o : Nat) : State :=
  let mode := s.rd R.ADC_CTL.MODE o
  if s.adcNone o || (mode ≠ 1 && mode ≠ 2) then s
  else if s.fl R.ADC_STATUS.BUSY o then s.bump R.ADC_STATUS.TRIG_MISSED o 1
  else
    let s := s.calTouch 6 (if s.fl R.OCT_STATUS.ADC_BORROWED o then Nat.xor o 1 else o)
    ((s.setAdc o { s.adc o with settle := s.rd R.ADC_SEQ_A.SETTLE (16 * o), mean := none }).wr R.ADC_STATUS.BUSY o 1).wr R.ADC_STATUS.ENTRY o 0

/-- The key of a unit's trims. -/
def trimKey (kind u : Nat) : Nat := kind * 65536 + u

/-- The trims applied to a unit (R510). -/
def State.trim (s : State) (kind u : Nat) : List Int := smGet [] s.trims (trimKey kind u)

/-- The targets of a unit's last completed step; its applied trims before that. -/
def State.target (s : State) (kind u : Nat) : List Int :=
  match s.targets.find? fun e => e.1 = trimKey kind u with
  | some e => e.2
  | none => s.trim kind u

/-- A span change of a level DAC: the trims of the new span apply whole (R527). -/
def State.trimWhole (s : State) (kind u : Nat) : State := { s with trims := smSet [] s.trims (trimKey kind u) (s.target kind u) }

end Sys2Proof.Machine
end

