-- ==== Sys2Proof/Machine/Dac.lean ====
section
/-! DEFINITION. Level and force DACs (R146 to R165) and the DPS outputs that follow their set DACs (R337, R340, R343, R354). DACs are
numbered 9L + d for DAC d of lane L, 10,000 + i for the force DAC of SMU i, and 11,000 + d for the set DAC of DPS d. -/

namespace Sys2Proof.Machine

/-- The force DAC of an SMU. -/
def dacSmu (k : Nat) : Bool := 10000 ≤ k && k < 10136
/-- The set DAC of a DPS channel. -/
def dacDps (k : Nat) : Bool := 11000 ≤ k && k < 11036
/-- The level DAC of a lane. -/
def dacLane (k : Nat) : Bool := k < 9216

/-- The spans of R148 in mV. -/
def laneSpan (p : Nat) : Int × Int := [(0, 3000), (0, 6000), (-1500, 1500), (-1500, 6000)].getD p (0, 3000)
/-- The SMU spans of R148 in mV. -/
def smuSpan (p : Nat) : Int × Int := [(0, 7000), (-2000, 2000), (-1000, 1000)].getD p (0, 7000)
/-- The DPS spans of R148 in mV. -/
def dpsSpan (p : Nat) : Nat := if p = 0 then 5500 else 2000

/-- The level set a lane works with (R153). -/
def State.setInUse (s : State) (l : Nat) : Nat :=
  if s.effb (l / 64) R.LVL_CFG.SET_FOLLOW l then (s.play (l / 64)).lset else s.leff R.LVL_CFG.FIXED_SET l

/-- The instance of LVL_SET that holds DAC d of lane L in level set n. -/
def lvlInst (l n d : Nat) : Nat := ((l / 64 * 8 + n) * 64 + l % 64) * 4 + d / 2

/-- The LVL_SET field of DAC d. -/
def lvlFld (d : Nat) : Fld := if d % 2 = 0 then R.LVL_SET.CODE_A else R.LVL_SET.CODE_B

/-- DAC k forces current, so its SPAN is ignored (R149). -/
def State.dacCurrent (s : State) (k : Nat) : Bool :=
  if dacSmu k then s.rd R.SMU_CTL.FMODE (k - 10000) = 1
  else if dacLane k then k % 9 = 8 && s.leff R.LANE_PPMU_CTL.MODE (k / 9) = 1
  else false

/-- The span of DAC k. -/
def State.dacSpan (s : State) (k : Nat) : Nat :=
  if dacSmu k then s.rd R.SMU_FORCE_CFG.SPAN (k - 10000)
  else if dacDps k then s.rd R.DPS_SET_CFG.SPAN (k - 11000)
  else bits (s.leff R.LVL_SPAN.SPAN (k / 9)) (2 * (k % 9)) 2

/-- The zero code of DAC k on its span (R148, R149). -/
def State.dacZero (s : State) (k : Nat) : Nat :=
  if dacSmu k then (if s.dacCurrent k then 0x20000 else [0, 0x20000, 0x20000].getD (s.dacSpan k) 0)
  else if dacDps k then 0
  else if s.dacCurrent k then 0x8000 else [0, 0, 0x8000, 0x3333].getD (s.dacSpan k) 0

/-- The stored code of DAC k: that of the set in use for lane DACs 0 to 7 (R150, R154). -/
def State.dacStored (s : State) (k : Nat) : Nat :=
  if dacSmu k then s.rd R.SMU_FORCE_CODE.CODE (k - 10000)
  else if dacDps k then s.rd R.DPS_SET_CODE.CODE (k - 11000)
  else
    let l := k / 9
    if k % 9 = 8 then s.leff R.LVL_PPMU_CODE.CODE l else s.eff (l / 64) (lvlFld (k % 9)) (lvlInst l (s.setInUse l) (k % 9))

/-- UPD_MODE of DAC k (R151). -/
def State.dacMode (s : State) (k : Nat) : Nat :=
  if dacSmu k then s.rd R.SMU_FORCE_CFG.UPD_MODE (k - 10000)
  else if dacDps k then s.rd R.DPS_SET_CFG.UPD_MODE (k - 11000)
  else s.leff R.LVL_CFG.UPD_MODE (k / 9)

/-- The strobe line of DAC k (R151). -/
def State.dacLine (s : State) (k : Nat) : Nat :=
  if dacSmu k then s.rd R.SMU_FORCE_CFG.STROBE_SEL (k - 10000)
  else if dacDps k then s.rd R.DPS_SET_CFG.STROBE_SEL (k - 11000)
  else s.leff R.LVL_CFG.STROBE_SEL (k / 9)

/-- The LVL_SLEW instance of lane DAC d. -/
def slewInst (d : Nat) : Nat := if d < 3 then 0 else if d < 5 then 1 else if d < 8 then 2 else 3

/-- STEP in codes and RATE in DAC ticks of DAC k, as written (R157). -/
def State.slewRegs (s : State) (k : Nat) : Nat × Nat :=
  if dacSmu k then (4 * s.rd R.SMU_FORCE_SLEW.STEP (k - 10000), s.rd R.SMU_FORCE_SLEW.RATE_M1 (k - 10000) + 1)
  else if dacDps k then (s.rd R.DPS_SET_SLEW.STEP (k - 11000), s.rd R.DPS_SET_SLEW.RATE_M1 (k - 11000) + 1)
  else
    let i := 4 * (k / 9) + slewInst (k % 9)
    (s.eff (k / 576) R.LVL_SLEW.STEP i, s.eff (k / 576) R.LVL_SLEW.RATE_M1 i + 1)

/-- STEP and RATE in force: a change of either takes effect at the next DAC tick (R158). -/
def State.dacSlew (s : State) (k : Nat) : Nat × Nat :=
  let r := s.slewRegs k
  let scale := if dacSmu k then 4 else 1
  (((s.dac k).oldStep.map (scale * ·)).getD r.1, ((s.dac k).oldRate.map (· + 1)).getD r.2)

/-- A write has changed STEP or RATE of DAC k from `step` and `rate` (R158). -/
def State.slewWritten (s : State) (k : Nat) (step rate : Option Nat) : State :=
  let x := s.dac k
  s.setDac k { x with oldStep := x.oldStep.orElse fun _ => step, oldRate := x.oldRate.orElse fun _ => rate }

/-- The members of the gang a leader controls; the channel alone without one. -/
def State.dpsMembers (s : State) (d : Nat) : List Nat :=
  let m := s.rd R.DPS_GANG.MEMBERS d
  if d < 32 && m ≠ 0 then (List.range 8).filterMap fun c => if bitAt m c then some (d / 8 * 8 + c) else none else [d]

/-- A flag that holds a DPS output open (R343, R344, R347, R354). -/
def State.dpsHeldOpen (s : State) (d : Nat) : Bool :=
  s.fl R.DPS_STATUS.TRIPPED d || s.fl R.DPS_STATUS.HW_TRIP d || s.fl R.DPS_STATUS.MON_OPENED d || s.fl R.DPS_STATUS.SUPPLY_LOSS d

/-- The gang of a channel is folded, or held open by a flag: codes, ranges and limits written now act from its restart (R343). -/
def State.dpsFrozen (s : State) (d : Nat) : Bool := s.fl R.DPS_STATUS.FOLDED (s.dpsLead d) || s.dpsHeldOpen (s.dpsLead d)

/-- The set DAC of a channel that waits for its restart. -/
def State.dacFrozen (s : State) (k : Nat) : Bool := dacDps k && s.dpsFrozen (k - 11000)

/-- A DPS output may be closed: R89 allows it, the channel is owned and usable, and no flag holds it open. -/
def State.dpsAllowed (s : State) (d : Nat) : Bool :=
  s.outputsOn && d < 32 && (s.dpsOwner d).isSome && !s.unavailable (place 4 (s.dpsPhys d)) && !(s.dps d).dropped && !s.dpsHeldOpen (s.dpsLead d)

/-- A DPS output walks toward its target, not toward zero: it is wanted (R337). -/
def State.dpsWanted (s : State) (d : Nat) : Bool := s.dpsAllowed d && s.deff R.DPS_CTL.OUT_EN (s.dpsLead d) = 1

/-- Where the limiter of DAC k heads: a DPS output that is open or is being opened heads for the zero code. -/
def State.dacGoal (s : State) (k : Nat) : Nat :=
  if dacDps k then (if (s.dps (k - 11000)).closed && s.dpsWanted (k - 11000) then (s.dac k).target else 0) else (s.dac k).target

/-- A trigger (R150, R154, R155, R157, R162): the stored code becomes the target; with STEP = 0, or before FIRST_RUN, the present code follows at once.
The set DAC of a folded or tripped DPS channel keeps its trigger for the restart (R343). -/
def State.trigger (s : State) (k : Nat) : State :=
  let s := s.when (dacLane k) (·.calTouch 3 k)
  let x := s.dac k
  if s.dacFrozen k then s.setDac k { x with due := true } else
  let t := s.dacStored k
  let s := s.setDac k { x with target := t, fresh := x.fresh || (x.present = x.target && x.target ≠ t) }
  if x.clamped then s
  else if (s.dacSlew k).1 = 0 || (!s.fl R.DEV_MODE.FIRST_RUN 0 && !dacDps k) then
    s.setDac k { s.dac k with present := s.dacGoal k, count := 0, fresh := false, ranging := x.range }
  else s

/-- A write of a stored code (R151, R155). -/
def State.codeWritten (s : State) (k : Nat) : State :=
  if !s.fl R.DEV_MODE.FIRST_RUN 0 then s.trigger k
  else if s.dacMode k = 1 then s.setDac k { s.dac k with due := true } else s

/-- A range change waits for the next DAC tick (R161, R162). -/
def State.rangeChange (s : State) (k : Nat) : State :=
  let s := s.when (dacLane k) (·.calTouch 3 k)
  s.setDac k { s.dac k with range := true, ranging := true }

/-- The start of a discharge clamp (R162); a level DAC's glazing ends (R527). -/
def State.clampStart (s : State) (k : Nat) : State :=
  (s.when (dacLane k) (·.trimWhole 3 k)).setDac k { s.dac k with range := false, due := false, clamped := true, ranging := true, present := s.dacZero k, target := s.dacStored k, count := 0, fresh := false }

/-- One step of the slew limiter (R157, R158). -/
def State.slewStep (s : State) (k : Nat) : State :=
  let x := s.dac k
  let goal := s.dacGoal k
  let (step, rate) := s.dacSlew k
  if x.clamped then s
  else if x.present = goal then s.setDac k { x with count := 0, fresh := false, ranging := false }
  else if step = 0 then s.setDac k { x with present := goal, count := 0, fresh := false, ranging := false }
  else if x.fresh then s.setDac k { x with count := 0, fresh := false }
  else if x.count + 1 < rate then s.setDac k { x with count := x.count + 1 }
  else
    let p := if goal > x.present then min (x.present + step) goal else max (x.present - step) goal
    s.setDac k { x with count := 0, present := p }

/-- A DPS output closes at the zero code, and its walk starts (R158, R337, R343, R353). -/
def State.dpsClose (s : State) (d : Nat) : State :=
  let s := s.setDps d { s.dps d with closed := true }
  let s := s.setDac (11000 + d) { s.dac (11000 + d) with present := 0, count := 0, fresh := true }
  if (s.dacSlew (11000 + d)).1 = 0 && !(s.dac (11000 + d)).clamped then s.setDac (11000 + d) { s.dac (11000 + d) with present := s.dacGoal (11000 + d), fresh := false } else s

/-- A DPS output opens, and its limit no longer holds it (R337, R342, R354). -/
def State.dpsOpen (s : State) (d : Nat) : State :=
  let x := s.dps d
  let s := s.setDps d { x with closed := false, count := 0, justOpen := x.justOpen || x.closed }
  (s.setDac (11000 + d) { s.dac (11000 + d) with present := 0, count := 0, fresh := false }).wr R.DPS_STATUS.IN_LIMIT d 0

/-- The 36 DPS channels; those 32 that a host can name are 0 to 31. -/
def dpsAll : List Nat := List.range 36

/-- A register field whose write waits for the restart of a folded or tripped channel: its current range and its limit (R343). -/
def dpsWaits (slot : Nat) : Bool := [R.DPS_CTL.IRANGE, R.DPS_LIMIT.ILIM, R.DPS_LIMIT.ACTION, R.DPS_LIMIT.DELAY].any fun f => f.key = slotKey slot

/-- The waiting register writes of a channel that `go` admits take effect: a current range change or a write of DPS_LIMIT restarts the count of every member, and a range
change marks their samples and leaves their current monitors unsettled (R340, R341, R342, R346, R350). -/
def State.dpsTake (s : State) (d : Nat) (go : Nat → Bool) : State :=
  let x := s.dps d
  let now := x.held.filter fun e => go e.1
  let ranged := now.any fun e => e.1 = R.DPS_CTL.IRANGE.slot d && e.2 ≠ s.rd R.DPS_CTL.IRANGE d
  let limit := now.any fun e => slotKey e.1 ≠ R.DPS_CTL.IRANGE.key && dpsWaits e.1
  let s := s.setDps d { x with held := x.held.filter fun e => !go e.1 }
  let s := s.when (ranged || limit) fun s => s.each (s.dpsMembers d) fun s m =>
    let s := s.setDps m { s.dps m with count := 0, ranged := if ranged then s.clock.tick + 1 else (s.dps m).ranged }
    s.when (ranged && s.fl R.DPS_MON_I_CTL.EN m) (·.wr R.DPS_STATUS.MON_I_UNSETTLED m 1)
  let on (f : Fld) := now.any (fun e => e.1 = f.slot d && e.2 = 0) && s.fl f d
  let s := s.when (on R.DPS_MON_I_CTL.EN) (·.wr R.DPS_STATUS.MON_I_UNSETTLED d 1)
  s.when (on R.DPS_MON_V_CTL.EN) (·.wr R.DPS_STATUS.MON_V_UNSETTLED d 1)

/-- The outputs of a channel at a DAC tick: pending register writes take effect, a channel that is not wanted opens once the set DAC of its gang is at zero, and one that is wanted
closes (R337, R340, R343, R350). -/
def State.dpsTick (s : State) (d : Nat) : State :=
  let frozen := s.dpsFrozen d
  let s := s.dpsTake d fun k => !(frozen && dpsWaits k)
  let s := s.setDps d { s.dps d with justOpen := false }
  if (s.dps d).closed then
    if !s.dpsAllowed d && !(s.m.mode = .service) then s.dpsOpen d
    else if !s.dpsWanted d && (s.dac (11000 + s.dpsLead d)).present = 0 then s.dpsOpen d else s
  else if s.dpsWanted d then s.dpsClose d else s

/-- Which DACs have something to do at a DAC tick, each once. -/
def State.dacsDue (s : State) : List Nat :=
  (s.dacs.filter fun e => e.2.due || e.2.range || e.2.fresh || e.2.ranging || e.2.count ≠ 0 || e.2.present ≠ e.2.target || dacDps e.1).map (·.1) |>.eraseDups

/-- A DAC tick (R151, R157, R158, R162, R337, R340): changes of STEP and RATE, triggers and range changes that waited, then the limiters, then the DPS outputs. -/
def execDacTick (s : State) : Out' :=
  done s fun s =>
    let s := s.each ((s.dacs.filter fun e => e.2.oldStep.isSome || e.2.oldRate.isSome).map (·.1)) fun s k => s.setDac k { s.dac k with oldStep := none, oldRate := none }
    let s := s.each dpsAll State.dpsTick
    let due := s.dacsDue
    let s := s.each due fun s k =>
      let x := s.dac k
      if s.dacFrozen k then s else if x.range then s.clampStart k else if x.due then (s.setDac k { x with due := false }).trigger k else s
    s.each due State.slewStep

/-- The discharge switch of a DAC opens 20 µs after its clamp began (R162). -/
def execDischargeClampEnd (dac : Nat) (s : State) : Out' :=
  done s fun s =>
    let x := s.dac dac
    if !x.clamped then s else
    let s := s.setDac dac { x with clamped := false, count := 0, fresh := false }
    if (s.dacSlew dac).1 = 0 then s.setDac dac { s.dac dac with present := s.dacGoal dac, ranging := false } else s

/-- The DACs of an octet in the scope of an update-all (R152). -/
def octetDacs (o : Nat) : List Nat := (List.range 72).map (72 * o + ·) ++ [10000 + o]

/-- The DACs that a saggar owns (R152). -/
def State.ownedDacs (s : State) (sag : Nat) : List Nat :=
  ((List.range 128).filter fun o => s.octOwner o = some sag).flatMap octetDacs ++ ((List.range 32).filter fun d => s.dpsOwner d = some sag).map (11000 + ·)

/-- The write of OCT_LVL_UPDATE (R152). -/
def octUpdateHook : Hook := fun rq o w be => Fx.of fun s =>
  s.when (R.OCT_LVL_UPDATE.GO.acts w be) fun s =>
    if R.OCT_LVL_UPDATE.ALL_OWNED.acts w be then
      match s.sagOf rq with
      | some k => s.each (s.ownedDacs k) State.trigger
      | none => s
    else s.each (octetDacs o) State.trigger

/-- UPDATE_ALL_GO: a write of OCT_LVL_UPDATE with GO = 1 (R152). -/
def execUpdateAllGo (rq : Req) (o : Fin 128) (w : Word) (s : State) : Out' := writeRow rq .OCT_LVL_UPDATE o.val (Nat.lor w.toNat 1) octUpdateHook s

/-- The DACs that tile t serves in UPD_MODE 0b10 (R151). -/
def State.strobed (s : State) (t : Nat) : List Nat :=
  let supplies := (((List.range 8).map (t / 4 * 8 + ·) ++ [32 + t / 4]).filter fun d => s.rd R.DPS_SET_CFG.STROBE_TILE d = t % 4).map (11000 + ·)
  ((List.range 576).map (576 * t + ·) ++ (List.range 8).map (10000 + 8 * t + ·) ++ supplies).filter fun k => s.dacMode k = 2

/-- DAC strobe lines of a tile pulse (R151, R326): `lines` is a mask of the four. -/
def State.strobe (s : State) (t lines : Nat) : State :=
  let s := s.each ((s.strobed t).filter fun k => bitAt lines (s.dacLine k)) State.trigger
  s.each (((List.range 8).map (8 * t + ·)).filter fun o => s.rd R.ADC_CTL.TRIG o = 2 && bitAt lines (s.rd R.ADC_CTL.TRIG_SEL o)) State.adcTrigger

/-- A change of the active level set triggers the lane DACs 0 to 7 that follow it (R151, R153). -/
def State.setLevels (s : State) (t n : Nat) : State :=
  let p := s.play t
  if p.lset = n then s else
  let s := s.setPlay t { p with lset := n }
  s.each (((List.range 64).map (64 * t + ·)).filter fun l => s.effb t R.LVL_CFG.SET_FOLLOW l) fun s l => s.each (List.range 8) fun s d => s.trigger (9 * l + d)

/-- The code nearest to a declared voltage on a span, a tie rounded upward (R164). -/
def codeUp (span : Int × Int) (n : Nat) (mv : Int) : Int :=
  let w := span.2 - span.1
  (2 * (mv - span.1) * (2 ^ n : Nat) + w) / (2 * w)

/-- The code nearest to a declared voltage on a span, a tie rounded downward (R164). -/
def codeDown (span : Int × Int) (n : Nat) (mv : Int) : Int :=
  let w := span.2 - span.1
  let q := (w - 2 * (mv - span.1) * (2 ^ n : Nat)) / (2 * w)
  Int.neg q

/-- A code lies between the bounds kmin and kmax of declared voltages (R164). -/
def codeInside (span : Int × Int) (n : Nat) (vmin vmax : Int) (k : Nat) : Bool :=
  let top : Int := (2 ^ n : Nat) - 1
  decide (min (max (codeUp span n vmin) 0) top ≤ (k : Int)) && decide ((k : Int) ≤ min (max (codeDown span n vmax) 0) top)

/-- A code of a lane's 16-bit DAC on span p is inside the lane's declared limits (R163, R164). -/
def State.laneCodeOk (s : State) (l p k : Nat) : Bool :=
  let x := s.laneDecl l
  codeInside (laneSpan p) 16 x.vmin x.vmax k

/-- The lanes that the octet matrix connects an SMU to, as accepted (R318, R320). -/
def State.smuLanes (s : State) (i : Nat) : List Nat :=
  if i < 128 then (List.range 8).filterMap fun j => if bitAt (s.rd R.OCT_MATRIX.LANE_SEL i) j then some (8 * i + j) else none else []

/-- An SMU code is inside the limits of one lane (R163). -/
def State.smuCodeOkFor (s : State) (p k l : Nat) : Bool :=
  let x := s.laneDecl l
  codeInside (smuSpan p) 18 x.vmin x.vmax k

/-- A code of an SMU in force voltage is inside the limits of every lane it is connected to. -/
def State.smuCodeOk (s : State) (i p k : Nat) : Bool := (s.smuLanes i).all fun l => s.smuCodeOkFor p k l

/-- Lane DACs whose codes R163 bounds among the level sets. -/
def boundedDac (d : Nat) : Bool := d ≠ 3 && d ≠ 4

/-- The write of SMU_FORCE_CODE (R151, R155, R164). -/
def smuCodeHook : Hook := fun _ i w be s =>
  if !R.SMU_FORCE_CODE.CODE.enabled be then (s, false)
  else if s.rd R.SMU_CTL.FMODE i = 0 && !s.smuCodeOk i (s.rd R.SMU_FORCE_CFG.SPAN i) (R.SMU_FORCE_CODE.CODE.part w) then (s.wr R.SMU_FORCE_STATUS.LIMIT_REFUSED i 1, true)
  else ((s.wr R.SMU_FORCE_CODE.CODE i (R.SMU_FORCE_CODE.CODE.part w)).codeWritten (10000 + i), false)

/-- The write of SMU_FORCE_CFG (R148, R161, R164). -/
def smuCfgHook : Hook := fun _ i w be s =>
  let p := s.newv R.SMU_FORCE_CFG.SPAN i w be
  if p = 3 || (s.rd R.SMU_CTL.FMODE i = 0 && !s.smuCodeOk i p (s.rd R.SMU_FORCE_CODE.CODE i)) then (s.wr R.SMU_FORCE_STATUS.SPAN_REFUSED i 1, true)
  else
    let old := s.rd R.SMU_FORCE_CFG.SPAN i
    let (s, _) := writeWord .SMU_FORCE_CFG i w be s
    (s.when (p ≠ old) fun s => (s.rangeChange (10000 + i)).when (s.fl R.SMU_MON_CTL.EN i) (·.wr R.SMU_STATUS.MON_UNSETTLED i 1), false)

/-- The write of SMU_FORCE_SLEW (R158). -/
def smuSlewHook : Hook := fun _ i w be s =>
  let old := (s.rd R.SMU_FORCE_SLEW.STEP i, s.rd R.SMU_FORCE_SLEW.RATE_M1 i)
  let (s, r) := writeWord .SMU_FORCE_SLEW i w be s
  (s.slewWritten (10000 + i) (some old.1) (some old.2), r)

/-- What a change of SMU_CTL from mode `m` and range `r` does (R161, R321, R334): a change is a range change, and on entry to force voltage a code out of bounds becomes the zero code. -/
def State.smuModeSet (s : State) (i m r : Nat) : State :=
  let changed := m ≠ s.rd R.SMU_CTL.FMODE i || r ≠ s.rd R.SMU_CTL.IRANGE i
  let entered := s.rd R.SMU_CTL.FMODE i = 0 && m ≠ 0
  let s := s.when (entered && !s.smuCodeOk i (s.rd R.SMU_FORCE_CFG.SPAN i) (s.rd R.SMU_FORCE_CODE.CODE i)) fun s =>
    (s.wr R.SMU_FORCE_CODE.CODE i (s.dacZero (10000 + i))).wr R.SMU_FORCE_STATUS.LIMIT_REFUSED i 1
  s.when changed fun s => (s.rangeChange (10000 + i)).when (s.fl R.SMU_MON_CTL.EN i) (·.wr R.SMU_STATUS.MON_UNSETTLED i 1)

/-- The write of SMU_CTL (R314, R321): reserved modes and ranges are refused. -/
def smuCtlHook : Hook := fun _ i w be s =>
  let m := s.newv R.SMU_CTL.FMODE i w be
  let r := s.newv R.SMU_CTL.IRANGE i w be
  if m = 3 || r = 7 then (s, true)
  else
    (((s.wr R.SMU_CTL.FMODE i m).wr R.SMU_CTL.IRANGE i r).smuModeSet i (s.rd R.SMU_CTL.FMODE i) (s.rd R.SMU_CTL.IRANGE i), false)

/-- A write of a gang member's controlled registers is refused (R350). -/
def State.gangMember (s : State) (d : Nat) : Bool := s.dpsLead d ≠ d

/-- The write of DPS_SET_CODE (R151, R350). -/
def dpsCodeHook : Hook := fun _ d w be s =>
  if s.gangMember d then (s, true)
  else if !R.DPS_SET_CODE.CODE.enabled be then (s, false)
  else ((s.wr R.DPS_SET_CODE.CODE d (R.DPS_SET_CODE.CODE.part w)).codeWritten (11000 + d), false)

/-- The write of DPS_SET_CFG (R161, R346, R350). -/
def dpsCfgHook : Hook := fun _ d w be s =>
  if s.gangMember d then (s, true) else
  let old := s.rd R.DPS_SET_CFG.SPAN d
  let (s, r) := writeWord .DPS_SET_CFG d w be s
  let changed := s.rd R.DPS_SET_CFG.SPAN d ≠ old
  (s.when changed fun s => (s.rangeChange (11000 + d)).when (s.fl R.DPS_MON_V_CTL.EN d) (·.wr R.DPS_STATUS.MON_V_UNSETTLED d 1), r)

/-- The write of DPS_SET_SLEW (R158, R350). -/
def dpsSlewHook : Hook := fun _ d w be s => 
  if s.gangMember d then (s, true) else
  let old := s.slewRegs (11000 + d)
  let (s, r) := writeWord .DPS_SET_SLEW d w be s
  (s.slewWritten (11000 + d) (some old.1) (some (old.2 - 1)), r)

/-- A write of DPS_CTL, DPS_LIMIT or a monitor register: it takes effect at the next DAC tick (R340), and never in a gang member (R350). -/
def dpsHeldHook (r : Reg) : Hook := fun _ d w be s =>
  if s.gangMember d then (s, true) else
  let x := s.dps d
  let old := (r.fields.filter fun f => f.enabled be).filterMap fun f => if x.held.any (fun e => e.1 = f.slot d) then none else some (f.slot d, s.rd f d)
  let (s, ref) := writeWord r d w be s
  ((s.setDps d { s.dps d with held := x.held ++ old }).when (r = .DPS_CTL) (·.calTouch 7 d), ref)

/-- DPS_OUT_EN: a write of DPS_CTL (R337). -/
def execDpsOutEn (rq : Req) (d : Fin 36) (w : Word) (s : State) : Out' := writeRow rq .DPS_CTL d.val w.toNat (dpsHeldHook .DPS_CTL) s

end Sys2Proof.Machine
end

