-- ==== Sys2Proof/Machine/Lane.lean ====
section
/-! DEFINITION. Lane pin electronics (R110 to R145, R603): lane register writes and when they take effect, the driver at the ball, the
comparators, the monitor, the PPMU and matrix connections, and the front ends of a lane. -/

namespace Sys2Proof.Machine

/-- A PPMU that is connected to its ball (R137, R138). -/
def State.ppmuOn (s : State) (l : Nat) : Bool := s.laneOn l && s.leff R.LANE_PPMU_CTL.CONNECT l = 1

/-- The PPMU or an SMU is connected to the ball (R138). -/
def State.forced (s : State) (l : Nat) : Bool := s.ppmuOn l || bitAt (s.lanesOn (l / 8)) (l % 8)

/-- The lane is held in its mould SAFE_STATE: a later SERVICE (R89), or a tile halted by machine check (R91). -/
def State.safeHeld (s : State) (l : Nat) : Bool := s.m.mode = .service || s.halted (l / 64)

/-- The driver at the ball: 0 disconnected or high impedance, 1 VTT through 50 Ω, 2 VIL, 3 VIH (R89, R113, R114, R119, R138, R603). -/
def State.driver (s : State) (l : Nat) : Nat :=
  let x := s.lane l
  if !s.laneOn l || s.forced l || x.tripOff then 0
  else if s.safeHeld l then 0
  else
    let idle := (s.laneDecl l).idle
    let off := if s.leff R.LANE_CTL.OFF_MODE l = 1 then 1 else 0
    if !s.laneUsed l || x.drv = 0 && !(s.play (l / 64)).playing then idle
    else if !(s.play (l / 64)).playing then (if x.drv = 1 then off else x.drv)
    else match s.leff R.LANE_CTL.OVERRIDE l with
      | 0 => if x.drv = 0 then idle else if x.drv = 1 then off else x.drv
      | 1 => off
      | v => v

/-- The voltage of a lane level DAC's present code, in µV times 65,536 (R148); 0 V in its discharge clamp (R162). -/
def State.levelUv (s : State) (l d : Nat) : Int :=
  let sp := laneSpan (s.dacSpan (9 * l + d))
  if (s.dac (9 * l + d)).clamped then 0
  else sp.1 * 1000 * 65536 + ((s.dac (9 * l + d)).present : Int) * (sp.2 - sp.1) * 1000

/-- The swing class of a lane from its present codes: 0 A, 1 B, 2 C (R117). -/
def State.swingClass (s : State) (l : Nat) : Nat :=
  let v := (s.levelUv l 0 - s.levelUv l 1).natAbs
  if v ≤ 1200000 * 65536 then 0 else if v ≤ 3300000 * 65536 then 1 else 2

/-- The hysteresis of R121 in µV. -/
def hystUv (h : Nat) : Int := [2000, 5000, 10000, 20000].getD h 2000

/-- Where the ball lies against the band of a threshold DAC (R121): 1 above it, 0 below it, none inside. [log DEDUCED 46] -/
def State.bandSide (s : State) (l d hyst : Nat) : Option Bool :=
  let th := s.levelUv l d
  let half := hystUv hyst * 32768
  let v := (s.lane l).ball * 65536
  if v > th + half then some true else if v < th - half then some false else none

/-- The monitored condition of R128 on the outputs CH and CL. -/
def monCond (c : Nat) (h l : Bool) : Bool :=
  match c with
  | 1 => h
  | 2 => l
  | 3 => h || l
  | 4 => !h && !l
  | _ => false

/-- A condition reads a comparator that is unsettled. -/
def monUnset (c : Nat) (uh ul : Bool) : Bool :=
  match c with
  | 1 => uh
  | 2 => ul
  | 3 | 4 => uh || ul
  | _ => false

/-- The condition on outputs some of which are unsettled: MID needs two settled outputs (R126). -/
def monTrue (c : Nat) (h l uh ul : Bool) : Bool := monCond c h l && !(c = 4 && (uh || ul))

/-- Comparators become unsettled: their outputs read 0 (R124, R125), which is no edge (R126); a compare window that stands open has an
unsettled instant (R295). -/
def State.unsettle (s : State) (l : Nat) (h c : Bool) : State :=
  let x := s.lane l
  let y := { x with unsetH := x.unsetH || h, unsetL := x.unsetL || c, ch := x.ch && !h, cl := x.cl && !c, sinceH := if h then s.clock.tick else x.sinceH, sinceL := if c then s.clock.tick else x.sinceL }
  let k := s.leff R.LANE_MON_CTL.COND l
  let y := { y with jobs := y.jobs.map fun (j : CmpJob) => if j.isOpen then { j with unH := j.unH || h, unL := j.unL || c } else j }
  s.setLane l { y with mute := y.mute || (monTrue k y.ch y.cl y.unsetH y.unsetL && !monTrue k x.ch x.cl x.unsetH x.unsetL) }

/-- The monitor latch of a lane sets, and raises its source on the change (R130, R133). -/
def State.monLatch (s : State) (l : Nat) : State :=
  if s.fl R.LANE_MON.LATCH l then s else (s.wr R.LANE_MON.LATCH l 1).raise (320 + l / 8 * 4)

/-- The active front end of a lane has left the ball for a calibration step in a gap: the selector is open (R519). -/
def State.inGapStep (s : State) (l : Nat) : Bool :=
  let c := s.cal (l / 256)
  c.running && !s.m.startup && c.cur = some (4, 2 * l + s.rd R.LANE_FE.ACTIVE_FE l)

/-- DRIVE_BLOCKED is set where a drive is ignored: a static override on a forced or tripped lane, and IDLE_STATE on a tripped one (R119, R138). -/
def State.blockedCheck (s : State) (l : Nat) : State :=
  let play : Bool := (s.play (l / 64)).playing && s.laneUsed l
  let static : Bool := play && 2 ≤ s.leff R.LANE_CTL.OVERRIDE l
  let idle : Bool := (!play || (s.leff R.LANE_CTL.OVERRIDE l = 0 && (s.lane l).drv = 0)) && (s.laneDecl l).idle ≠ 0
  s.when (s.laneOn l && !s.safeHeld l && ((static && s.forced l) || ((static || idle) && (s.lane l).tripOff))) (·.wr R.LANE_STATUS.DRIVE_BLOCKED l 1)

/-- The active front end returns to the ball after a gap step: the selector closes again, so both comparators are unsettled (R124, R519). -/
def State.gapReturn (s : State) (l : Nat) : State := s.when (s.inGapStep l && (s.lane l).closed) fun s => (s.unsettle l true true).blockedCheck l

/-- The step in progress of quadrant q is given up: a front end that has left its ball for it returns (R514, R519, R524). -/
def State.gapLeave (s : State) (q : Nat) : State :=
  match (s.cal q).cur with
  | some (4, u) => s.gapReturn (u / 2)
  | _ => s

/-- What ends a gap step at once, and abandons it: a row in which the lane drives, compares or captures, a start of its tile, or a PPMU or SMU that connects (R519). -/
def State.gapEnd (s : State) (l : Nat) : State := s.when (s.inGapStep l) fun s => (s.gapReturn l).calTouch 4 (2 * l + s.rd R.LANE_FE.ACTIVE_FE l)

/-- 20 ns, the least time from a case of R124 to the sample that settles a comparator, in time ticks of 2.5 ns (R125). -/
def settleTicks : Nat := 8

/-- A sample of a lane's comparators and monitor at a VCLK edge (R121, R125 to R132): none while the selector is open, and outputs of 0 that meet no condition with
CMP_EN = 0. [log DESIGN CHOICE 117, 118] -/
def State.laneSample (s : State) (l : Nat) : State :=
  if !s.laneOn l || !s.laneUsed l || s.inGapStep l then s else
  let x := s.lane l
  let k := s.leff R.LANE_MON_CTL.COND l
  if s.leff R.LANE_CTL.CMP_EN l = 0 then s.setLane l { x with ch := false, cl := false, met := 0, filt := false } else
  let sideH := s.bandSide l 3 (s.leff R.LANE_CMP_CTL.HYST_H l)
  let sideL := s.bandSide l 4 (s.leff R.LANE_CMP_CTL.HYST_L l)
  let h1 := if x.unsetH then false else sideH.getD x.ch
  let l1 := if x.unsetL then false else (sideL.map (!·)).getD x.cl
  let setH := x.unsetH && sideH.isSome && !(s.dac (9 * l + 3)).ranging && settleTicks ≤ s.clock.tick - x.sinceH
  let setL := x.unsetL && sideL.isSome && !(s.dac (9 * l + 4)).ranging && settleTicks ≤ s.clock.tick - x.sinceL
  let h2 := if setH then sideH.getD false else h1
  let l2 := if setL then !(sideL.getD true) else l1
  let before := monTrue k h1 l1 x.unsetH x.unsetL
  let after := monTrue k h2 l2 (x.unsetH && !setH) (x.unsetL && !setL)
  let settled := before ≠ after
  let mute := after && (settled || (x.mute && before && monTrue k x.ch x.cl x.unsetH x.unsetL))
  let met := if !after || settled then 0 else min (x.met + 1) 16
  let filt := after && met ≥ s.leff R.LANE_MON_CTL.FILTER l + 1
  let y := { x with ch := h2, cl := l2, unsetH := x.unsetH && !setH, unsetL := x.unsetL && !setL, met := met, filt := filt, mute := mute }
  let y := { y with jobs := y.jobs.map fun (j : CmpJob) => { j with allH := j.allH && !(j.isOpen && setH), allL := j.allL && !(j.isOpen && setL) } }
  let s := s.setLane l y
  let set := if s.leff R.LANE_MON_CTL.LATCH_MODE l = 1 then filt && !monUnset k y.unsetH y.unsetL else filt && !x.filt && !mute
  s.when set (·.monLatch l)

/-- The ball of a lane has moved to `ball` µV across a comparator band; the VCLK edge that sees it samples it (R121, R129). -/
def execComparatorChange (l : Fin 1024) (ball : Int) (s : State) : Out' :=
  done s fun s => (s.setLane l.val { s.lane l.val with ball := ball }).laneSample l.val

/-- A VCLK edge of a lane at which the ball has not moved (R125, R129, R130). -/
def execComparatorSample (l : Fin 1024) (s : State) : Out' := done s (·.laneSample l.val)

/-- A lane-fault bit of a lane is set: its source arises on the change from 0 to 1 (R410). -/
def State.laneFault (s : State) (f : Fld) (l : Nat) : State :=
  if s.fl f l then s else (s.wr f l 1).raise (320 + l / 8 * 4 + 1)

/-- The lane's clamps act: CLAMP_EN, or a SAFE_STATE of 0b01 in force (R136). -/
def State.clamping (s : State) (l : Nat) : Bool :=
  s.laneOn l && (s.leff R.LANE_CTL.CLAMP_EN l = 1 || (s.safeHeld l && (s.laneDecl l).safe = 1))

/-- A clamp conducts more than 1 mA (R136). -/
def execClampHit (l : Fin 1024) (s : State) : Out' :=
  done s fun s => if s.clamping l.val then s.laneFault R.LANE_STATUS.CLAMP_HIT l.val else s

/-- The active load is connected: LOAD_EN in a driver-off cycle of a playing tile, never in the cases of R135 (R134). -/
def State.loadOn (s : State) (l : Nat) : Bool :=
  (s.play (l / 64)).playing && s.laneUsed l && s.laneOn l && s.leff R.LANE_CTL.LOAD_EN l = 1 && s.leff R.LANE_CTL.OFF_MODE l = 0 && !s.forced l && !s.safeHeld l && s.driver l = 0

/-- The current of the active load into the ball in nA (R134): it sinks IOH above VCOM and sources IOL below it. -/
def State.loadCurrent (s : State) (l : Nat) : Int :=
  if !s.loadOn l then 0
  else if (s.lane l).ball * 65536 > s.levelUv l 5 then Int.neg (6250 * s.leff R.LANE_LOAD.IOH l)
  else if (s.lane l).ball * 65536 < s.levelUv l 5 then 6250 * s.leff R.LANE_LOAD.IOL l else 0

/-- The range that the clamps of a lane hold the ball to, in µV times 65,536, where they act: VCL to VCH, or VMIN and VMAX under a SAFE_STATE of 0b01 (R136). -/
def State.clampRange (s : State) (l : Nat) : Option (Int × Int) :=
  if !s.clamping l then none
  else if s.safeHeld l && (s.laneDecl l).safe = 1 then some ((s.laneDecl l).vmin * 65536000, (s.laneDecl l).vmax * 65536000)
  else some (s.levelUv l 7, s.levelUv l 6)

/-- A front end of a lane is on the calibration spine: every one in start-up SERVICE, and one whose step is in progress (R89, R110, R139). -/
def State.onSpine (s : State) (l fe : Nat) : Bool :=
  (s.m.mode = .service && s.m.startup) || ((s.cal (l / 256)).running && (s.cal (l / 256)).cur = some (4, 2 * l + fe))

/-- Where the level inputs of a front end come from: the lane's own DACs for the one that carries the ball and, from c0, for the incoming one of a handover (R110, R140); none
is the spine, or a parked front end. -/
def State.levelInput (s : State) (l fe d : Nat) : Option Int :=
  let moving : Bool := match (s.lane l).handover with | some h => h.started | none => false
  if s.onSpine l fe then none else if fe = s.rd R.LANE_FE.ACTIVE_FE l || moving then some (s.levelUv l d) else none

/-- The selector connects a front end to the ball: the active one, and from c16 to c23 of a handover the incoming one with it (R111, R140). -/
def State.feOnBall (s : State) (l fe : Nat) : Bool :=
  let both : Bool := match (s.lane l).handover with | some h => h.started && !h.swapped && 16 ≤ h.vclk | none => false
  (s.lane l).closed && !s.inGapStep l && (fe = s.rd R.LANE_FE.ACTIVE_FE l || both)

/-- A change of the PPMU to force voltage replaces a code out of bounds by the zero code (R164). -/
def State.ppmuToFv (s : State) (l old : Nat) : State :=
  if old ≠ 0 && s.rd R.LANE_PPMU_CTL.MODE l = 0 && !s.laneCodeOk l (bits (s.rd R.LVL_SPAN.SPAN l) 16 2) (s.rd R.LVL_PPMU_CODE.CODE l) then
    (s.wr R.LVL_PPMU_CODE.CODE l ([0, 0, 0x8000, 0x3333].getD (bits (s.rd R.LVL_SPAN.SPAN l) 16 2) 0)).wr R.LVL_STATUS.LIMIT_REFUSED l 1
  else s

/-- The level DACs of a lane that instance 4L + g of LVL_SLEW serves. -/
def slewDacs (i : Nat) : List Nat := ((List.range 9).filter fun d => slewInst d = i % 4).map (9 * (i / 4) + ·)

/-- The driver of a lane has been limited for 1 µs (R119). -/
def execDriverTrip (l : Fin 1024) (s : State) : Out' :=
  done s fun s =>
    if s.driver l.val = 0 then s
    else ((s.setLane l.val { s.lane l.val with tripOff := true }).laneFault R.LANE_STATUS.DRV_TRIP l.val).blockedCheck l.val

/-- A change of a lane or octet register field takes effect: `old` is what was in force before (R112, R124, R151, R158, R161, R164). -/
def State.applied (s : State) (k i old : Nat) : State :=
  if k = R.LVL_SET.CODE_A.key || k = R.LVL_SET.CODE_B.key then
    let l := i / 2048 * 64 + i / 4 % 64
    let d := 2 * (i % 4) + b2n (k = R.LVL_SET.CODE_B.key)
    if i / 256 % 8 = s.setInUse l then s.codeWritten (9 * l + d) else s
  else if k = R.LVL_PPMU_CODE.CODE.key then s.codeWritten (9 * i + 8)
  else if k = R.LVL_SPAN.SPAN.key then
    let new := s.leff R.LVL_SPAN.SPAN i
    let s := s.each ((List.range 9).filter fun d => bits new (2 * d) 2 ≠ bits old (2 * d) 2) fun s d => s.rangeChange (9 * i + d)
    s.unsettle i (bits new 6 2 ≠ bits old 6 2) (bits new 8 2 ≠ bits old 8 2)
  else if k = R.LANE_CTL.CMP_EN.key then s.when (old = 0 && s.leff R.LANE_CTL.CMP_EN i = 1) (·.unsettle i true true)
  else if k = R.LANE_PPMU_CTL.MODE.key then (s.when (old ≠ s.leff R.LANE_PPMU_CTL.MODE i) (·.rangeChange (9 * i + 8))).ppmuToFv i old
  else if k = R.LVL_SLEW.STEP.key then s.each (slewDacs i) fun s d => s.slewWritten d (some old) none
  else if k = R.LVL_SLEW.RATE_M1.key then s.each (slewDacs i) fun s d => s.slewWritten d none (some old)
  else if k = R.LANE_FE.SWAP_REFUSED.key then s.wr R.LANE_FE.SWAP_REFUSED i 0
  else if k = R.LANE_PPMU_CTL.RANGE.key then s.when (old ≠ s.leff R.LANE_PPMU_CTL.RANGE i) (·.rangeChange (9 * i + 8))
  else if k = R.LANE_PPMU_CTL.CONNECT.key then s.when (s.ppmuOn i) fun s => (s.gapEnd i).blockedCheck i
  else if k = R.OCT_MATRIX.LANE_SEL.key then s.each ((List.range 8).filter fun j => bitAt (s.lanesOn i) j) fun s j => (s.gapEnd (8 * i + j)).blockedCheck (8 * i + j)
  else s

/-- The writes that waited for the vector boundary of tile t take effect (R112). -/
def State.boundaryWrites (s : State) (t : Nat) : State :=
  let p := s.play t
  let s := s.setPlay t { p with held := [] }
  s.each ((List.range 64).filterMap fun j => if (s.lane (64 * t + j)).tripOff && !s.fl R.LANE_STATUS.DRV_TRIP (64 * t + j) then some (64 * t + j) else none)
    (fun s l => s.setLane l { s.lane l with tripOff := false }) |> fun s =>
  p.held.foldl (fun s e => s.applied (slotKey e.1) (slotInst e.1) e.2) s

/-- A write of the named fields of a lane or octet register of tile t: at once, or at the tile's next vector boundary while it plays (R112). -/
def tileFields (t : Nat) (fs : List Fld) (i w be : Nat) : Fx := fun s =>
  let on := fs.filter fun f => f.enabled be && f.acc = .rw
  let old := on.map fun f => (f, s.rd f i)
  let p := s.play t
  let (s, ref) := writeFields fs i w be s
  if p.playing then
    let fresh := (old.filter fun e => !p.held.any fun h => h.1 = e.1.slot i).map fun e => (e.1.slot i, e.2)
    (s.setPlay t { s.play t with held := p.held ++ fresh }, ref)
  else (old.foldl (fun s e => s.applied e.1.key i e.2) s, ref)

/-- The write of a lane register without a rule of its own. -/
def laneHook (r : Reg) : Hook := fun _ i w be => tileFields (i / r.inner / 64) r.fields i w be

/-- The write of LANE_LOAD: codes above 3,840 are limited (R134). -/
def laneLoadHook : Hook := fun _ i w be =>
  tileFields (i / 64) (Reg.fields .LANE_LOAD) i (min (bits w 0 12) 3840 + min (bits w 16 12) 3840 * 65536) be

/-- The write of a word of the level-set table (R153, R164). -/
def lvlSetHook : Hook := fun _ i w be s =>
  let t := i / 2048
  let l := 64 * t + i / 4 % 64
  let d := 2 * (i % 4)
  let bad (f : Fld) (d : Nat) := f.enabled be && boundedDac d && !s.laneCodeOk l (bits (s.rd R.LVL_SPAN.SPAN l) (2 * d) 2) (f.part w)
  if bad R.LVL_SET.CODE_A d || bad R.LVL_SET.CODE_B (d + 1) then (s.wr R.LVL_STATUS.LIMIT_REFUSED l 1, true)
  else tileFields t (Reg.fields .LVL_SET) i w be s

/-- The write of LVL_SPAN (R164): refused where any stored code of a changed DAC would fall out of bounds. -/
def lvlSpanHook : Hook := fun _ l w be s =>
  if !R.LVL_SPAN.SPAN.enabled be then (s, false) else
  let new := R.LVL_SPAN.SPAN.part w
  let old := s.rd R.LVL_SPAN.SPAN l
  let bad d := bits new (2 * d) 2 ≠ bits old (2 * d) 2 &&
    (if d = 8 then s.rd R.LANE_PPMU_CTL.MODE l = 0 && !s.laneCodeOk l (bits new 16 2) (s.rd R.LVL_PPMU_CODE.CODE l)
     else boundedDac d && (List.range 8).any fun n => !s.laneCodeOk l (bits new (2 * d) 2) (s.rd (lvlFld d) (lvlInst l n d)))
  if (List.range 9).any bad then (s.wr R.LVL_STATUS.SPAN_REFUSED l 1, true) else tileFields (l / 64) (Reg.fields .LVL_SPAN) l w be s

/-- The write of LVL_PPMU_CODE (R163, R164): bounded while the PPMU forces voltage. -/
def lvlPpmuHook : Hook := fun _ l w be s =>
  if R.LVL_PPMU_CODE.CODE.enabled be && s.rd R.LANE_PPMU_CTL.MODE l = 0 && !s.laneCodeOk l (bits (s.rd R.LVL_SPAN.SPAN l) 16 2) (R.LVL_PPMU_CODE.CODE.part w) then
    (s.wr R.LVL_STATUS.LIMIT_REFUSED l 1, true)
  else tileFields (l / 64) (Reg.fields .LVL_PPMU_CODE) l w be s

/-- The write of LANE_PPMU_CTL (R111, R138, R320). -/
def ppmuHook : Hook := fun _ l w be s =>
  let conn := R.LANE_PPMU_CTL.CONNECT.acts w be
  if conn && !s.laneUsed l then (s, true)
  else if conn && bitAt (s.rd R.OCT_MATRIX.LANE_SEL (l / 8)) (l % 8) then
    let s := s.wr R.OCT_STATUS.CONFLICT (l / 8) (Nat.lor (s.rd R.OCT_STATUS.CONFLICT (l / 8)) (2 ^ (l % 8)))
    let (s, _) := tileFields (l / 64) (Reg.fields .LANE_PPMU_CTL) l (putBits w 5 1 0) be s
    (s, true)
  else tileFields (l / 64) (Reg.fields .LANE_PPMU_CTL) l w be s

/-- PPMU_CONNECT_WRITE: a write of LANE_PPMU_CTL (R320). -/
def execPpmuConnectWrite (rq : Req) (l : Fin 1024) (w : Word) (s : State) : Out' := writeRow rq .LANE_PPMU_CTL l.val w.toNat ppmuHook s

/-- The write of OCT_MATRIX (R318, R319): a write of 1 to BALL_EN while a spare serves is discarded whole (R323, R599). -/
def matrixHook : Hook := fun _ o w be s =>
  let src := s.rd R.OCT_STATUS.SMU_SOURCE o
  if src = 3 then (s, true)
  else if src ≠ 0 && R.OCT_MATRIX.BALL_EN.acts w be then (s.wr R.OCT_STATUS.BALL_UNAVAIL o 1, true)
  else
  let s := s.calTouch 5 o
  let want := s.newv R.OCT_MATRIX.LANE_SEL o w be
  let named := R.OCT_MATRIX.LANE_SEL.enabled be
  let on j := named && bitAt want j
  let noSite j := on j && !s.laneUsed (8 * o + j)
  let ppmu j := on j && s.fl R.LANE_PPMU_CTL.CONNECT (8 * o + j)
  let out j := on j && s.rd R.SMU_CTL.FMODE o = 0 && !s.smuCodeOkFor (s.rd R.SMU_FORCE_CFG.SPAN o) (s.rd R.SMU_FORCE_CODE.CODE o) (8 * o + j)
  let drop := (List.range 8).filter fun j => noSite j || ppmu j || out j
  let mask l := l.foldl (fun a j => a + 2 ^ j) 0
  let keep := if named then want - mask drop else want
  let s := s.wr R.OCT_STATUS.DROPPED o (Nat.lor (s.rd R.OCT_STATUS.DROPPED o) (mask drop))
  let s := s.wr R.OCT_STATUS.CONFLICT o (Nat.lor (s.rd R.OCT_STATUS.CONFLICT o) (mask ((List.range 8).filter ppmu)))
  let s := s.when ((List.range 8).any out) (·.wr R.SMU_FORCE_STATUS.LIMIT_REFUSED o 1)
  let (s, _) := tileFields (o / 8) (Reg.fields .OCT_MATRIX) o (putBits w 0 8 keep) be s
  (s, false)

/-- OCT_MATRIX_WRITE: a write of OCT_MATRIX (R319). -/
def execOctMatrixWrite (rq : Req) (o : Fin 128) (w : Word) (s : State) : Out' := writeRow rq .OCT_MATRIX o.val w.toNat matrixHook s

/-- The write of LANE_STATUS: a clear of DRV_TRIP re-enables the driver, at the next boundary while the tile plays (R112, R119). -/
def laneStatusHook : Hook := fun _ l w be s =>
  let (s, r) := writeWord .LANE_STATUS l w be s
  (s.when (!s.fl R.LANE_STATUS.DRV_TRIP l && !(s.play (l / 64)).playing) fun s => s.setLane l { s.lane l with tripOff := false }, r)

/-- DRV_TRIP_CLEAR: a write of LANE_STATUS with DRV_TRIP = 1 (R119). -/
def execDrvTripClear (rq : Req) (l : Fin 1024) (w : Word) (s : State) : Out' := writeRow rq .LANE_STATUS l.val (Nat.lor w.toNat 1) laneStatusHook s

/-- The write of LANE_FE (R112, R144): a clear of SWAP_REFUSED waits for the vector boundary while the tile plays; a request is discarded outside SERVICE, or with the other
front end retired, and a new refusal outlasts a clear that waits. -/
def laneFeHook : Hook := fun rq l w be s =>
  let t := l / 64
  let slot := R.LANE_FE.SWAP_REFUSED.slot l
  let (s, r) :=
    if !(s.play t).playing then writeWord .LANE_FE l w be s
    else if R.LANE_FE.SWAP_REFUSED.acts w be && s.fl R.LANE_FE.SWAP_REFUSED l && !(s.play t).held.any (fun e => e.1 = slot) then
      (s.setPlay t { s.play t with held := (s.play t).held ++ [(slot, 1)] }, false)
    else (s, false)
  if R.LANE_FE.SWAP_REQ.acts w be then
    if s.sagOf rq = some 0 && s.m.mode = .service && !bitAt (s.rd R.LANE_FE.RETIRED l) (1 - s.rd R.LANE_FE.ACTIVE_FE l) then
      (s.setLane l { s.lane l with handover := some ((s.lane l).handover.getD ⟨0, false, 0, false⟩) }, r)
    else ((s.setPlay t { s.play t with held := (s.play t).held.filter fun e => e.1 ≠ slot }).wr R.LANE_FE.SWAP_REFUSED l 1, true)
  else (s, r)

/-- LANE_SWAP_REQ: a write of LANE_FE with SWAP_REQ = 1 (R144). -/
def execLaneSwapReq (rq : Req) (l : Fin 1024) (w : Word) (s : State) : Out' := writeRow rq .LANE_FE l.val (Nat.lor w.toNat 64) laneFeHook s

/-- OCT_PPMU_COMPL.IN_COMPL of a lane changes (R311): its rise sets COMPL_HIT and raises the lane-fault source. -/
def execPpmuCompliance (l : Fin 1024) (on : Bool) (s : State) : Out' :=
  done s fun s =>
    let o := l.val / 8
    let b := 2 ^ (l.val % 8)
    let was := bitAt (s.rd R.OCT_PPMU_COMPL.IN_COMPL o) (l.val % 8)
    if on then
      if was then s else
      let s := (s.wr R.OCT_PPMU_COMPL.IN_COMPL o (Nat.lor (s.rd R.OCT_PPMU_COMPL.IN_COMPL o) b)).wr R.OCT_PPMU_COMPL.COMPL_HIT o (Nat.lor (s.rd R.OCT_PPMU_COMPL.COMPL_HIT o) b)
      s.raise (320 + 4 * o + 1)
    else s.wr R.OCT_PPMU_COMPL.IN_COMPL o (if was then s.rd R.OCT_PPMU_COMPL.IN_COMPL o - b else s.rd R.OCT_PPMU_COMPL.IN_COMPL o)

/-- FE_PAIRS of a quadrant: its lanes with two usable front ends. -/
def State.feSync (s : State) (q : Nat) : State :=
  s.wr R.SPR_RESERVE_Q.FE_PAIRS q ((List.range 256).filter fun j => s.rd R.LANE_FE.RETIRED (256 * q + j) = 0).length

/-- A unit becomes unavailable (R554): DEGRADED is set, a shard is written (R566), and the repair map gains an entry (R556): ADC_BORROW for an
octet's ADC, UNAVAILABLE for every other unit. [log DEDUCED 51] -/
def State.makeUnavailable (s : State) (key : Nat) : State :=
  if s.unavailable key then s else
  let pl := key % 65536
  let s := { s with spare := { s.spare with state := smSet 0 s.spare.state key 6 } }
  let s := s.addRepair pl (if pl / 4096 = 1 && key ≥ 131072 then 6 else 9) 2 (if pl = 0x8000 then key / 65536 else 0) 0xFFFF
  ((s.wr R.DEV_STARTUP.DEGRADED 0 1).bump R.SPR_RESERVE_DEV.UNAVAIL 0 1).shard 0x36 pl 0 0 0

/-- A front end is retired (R143, R551): SINGLE, the repair map and the reserve follow; `mark` is 1 worn or 2 failed. -/
def State.retireFe (s : State) (l fe mark : Nat) : State :=
  let ret := Nat.lor (s.rd R.LANE_FE.RETIRED l) (2 ^ fe)
  let s := ((s.wr R.LANE_FE.RETIRED l ret).wr R.LANE_FE.SINGLE l 1).wr R.LANE_FE.OTHER_STATE l 2
  let s := { s with spare := { s.spare with state := smSet 0 s.spare.state (l + 65536 * fe) 3 } }
  let s := (((s.addRepair l 1 mark ret 0xFFFF).raise 14).shard 0x34 l fe 0 0).feSync (l / 256)
  s.when (ret = 3) (·.makeUnavailable (l + 131072))

end Sys2Proof.Machine
end

