-- ==== Sys2Proof/Machine/Store.lean ====
section
/-! DEFINITION. The vector store and the capture store (R195 to R218, R304, R460, R477, R569, R570): code words, BAR2 reads and writes,
control fields, scrub, marked rows, and the areas that producers write. -/

namespace Sys2Proof.Machine

/-- A free value drawn for a point the manual leaves open. [log DESIGN CHOICE 11] -/
def State.draw (s : State) (kind : Nat) : Nat × State := (Config.freeValue kind s.free, { s with free := s.free + 1 })

/-- BAR2 offset of the capture store (R40). -/
def capBase : Nat := 0x0C000000

/-- The tile whose slice a store place names, or the capture region 16 + T that holds a capture word by its address (R11). -/
def capRegion (word : Nat) : Nat := word / 393216

/-- A unit's mark changes (R549, R550): UNIT_WORN and a shard. -/
def State.marked (s : State) (code pl d0 d1 d2 : Nat) : State := (s.raise 13).shard code pl d0 d1 d2

/-- A row of a store is replaced by the next spare row (R218, R551, R556). -/
def State.spareRow (s : State) (st row mark : Nat) : State :=
  let idx := (s.nvm.map.filter fun e => e.place = place 7 st && e.type = 7).length
  let s := { s with spare := { s.spare with rows := smSet 0 s.spare.rows (st * 2 ^ 20 + row) 3 } }
  (((s.wr R.SPR_ROWS.ROWS st (s.rd R.SPR_ROWS.ROWS st - 1)).addRepair (place 7 st) 7 mark row idx).raise 14).shard 0x22 (place 7 st) row idx 0

/-- A row of a store is marked, 1 worn or 2 failed (R549, R550); a worn row is replaced at once where a spare row is left, as is a failed row of the context store, the shard log and the event buffers (R551). -/
def State.markRow (s : State) (st row mark : Nat) : State :=
  let cur := smGet 0 s.spare.rows (st * 2 ^ 20 + row)
  if cur = 2 || cur = mark then s else
  let s := { s with spare := { s.spare with rows := smSet 0 s.spare.rows (st * 2 ^ 20 + row) mark } }
  let s := s.marked (if mark = 1 then 0x21 else 0x33) (place 7 st) (if mark = 1 then row else 0) (if mark = 1 then 0 else row) 0
  if (mark = 1 || 82 ≤ st) && s.rd R.SPR_ROWS.ROWS st > 0 then s.spareRow st row mark else s

/-- An uncorrectable error met in a store: its shard, with source 0 play, 1 scrub, 2 BAR2 read, 3 write merge, and the failed row (R549, R566). [log DEDUCED 56] -/
def State.storeUe (s : State) (st row word src : Nat) : State := (s.shard 0x20 (place 7 st) row word src).markRow st row 2

/-- The same in a vector row, recorded in SEG_STORE_ERRADDR. -/
def State.sliceUe (s : State) (t row word src : Nat) : State :=
  (((s.wr R.SEG_STORE_ERRADDR.ROW t row).wr R.SEG_STORE_ERRADDR.WORD t word).wr R.SEG_STORE_ERRADDR.SOURCE t src).storeUe t row word src

/-- Bytes at a byte offset, as aligned 8-byte words: the word number and its eight bytes, some of them written. -/
def byteWords (off : Nat) (bytes : List Nat) : List (Nat × List (Option Nat)) :=
  if bytes.isEmpty then [] else
  (List.range ((off + bytes.length - 1) / 8 - off / 8 + 1)).map fun j =>
    let w := off / 8 + j
    (w, (List.range 8).map fun b => let p := 8 * w + b; if p < off then none else bytes[p - off]?)

/-- A 64-bit word with some bytes replaced. -/
def mergeWord (old : Nat) (bs : List (Option Nat)) : Nat := leVal ((leBytes 8 old).zip bs |>.map fun e => e.2.getD e.1)

/-- Payload code word k of row r of a slice. -/
def StoreSt.word (x : StoreSt) (row k : Nat) : Nat := smGet 0 x.words (4 * row + k)

/-- The check-bit state of a code word of a row; word 4 is the control field. -/
def StoreSt.bad' (x : StoreSt) (row k : Nat) : Nat := smGet 0 x.ecc (8 * row + k)

/-- A payload code word written with fresh check bits. -/
def StoreSt.putWord (x : StoreSt) (row k v : Nat) : StoreSt := { x with words := smSet 0 x.words (4 * row + k) v, ecc := smSet 0 x.ecc (8 * row + k) 0 }

/-- A control field written with fresh check bits. -/
def StoreSt.putCtl (x : StoreSt) (row v : Nat) : StoreSt := { x with ctl := smSet 0 x.ctl row (v % 65536), ecc := smSet 0 x.ecc (8 * row + 4) 0 }

/-- Bytes of a host write pass the write port of a slice: they come out of what the frame leaves of the tile's 12 GB/s (R212). The write itself never waits. -/
def State.portTake (s : State) (t : Nat) (bs : List (Option Nat)) : State :=
  { s with host := { s.host with credit := smSet 0 s.host.credit (64 + t) (smGet 0 s.host.credit (64 + t) - (bs.filter Option.isSome).length) } }

/-- A host write to one payload code word (R209, R212, R216): a merge with an uncorrectable word is discarded. -/
def State.sliceMerge (s : State) (t row k : Nat) (bs : List (Option Nat)) : State :=
  let s := s.portTake t bs
  let x := s.store t
  if x.bad' row k = 2 && !bs.all Option.isSome then (s.wr R.SEG_STORE_STATUS.UE_WRITE t 1).sliceUe t row k 3
  else s.setStore t (x.putWord row k (mergeWord (x.word row k) bs))

/-- A host write to bytes of a control field (R212, R570). -/
def State.ctlMerge (s : State) (t row : Nat) (bs : List (Option Nat)) : State :=
  let s := s.portTake t bs
  let x := s.store t
  if x.bad' row 4 = 2 && !bs.all Option.isSome then (s.wr R.SEG_STORE_STATUS.UE_WRITE t 1).sliceUe t row 4 3
  else s.setStore t (x.putCtl row (leVal ((leBytes 2 (smGet 0 x.ctl row)).zip bs |>.map fun e => e.2.getD e.1)))

/-- A host write to one code word of the capture store (R216, R460). [log DEDUCED 56] -/
def State.capMerge (s : State) (w : Nat) (bs : List (Option Nat)) : State :=
  if smGet 0 s.capEcc w = 2 && !bs.all Option.isSome then s.storeUe (16 + capRegion w) (w / 4) (w % 4) 3
  else { s with cap := smSet 0 s.cap w (mergeWord (smGet 0 s.cap w) bs), capEcc := smSet 0 s.capEcc w 0 }

/-- A write of the device's own to the capture store, at a byte address of it. -/
def State.capPut (s : State) (addr : Nat) (bytes : List Nat) : State := (byteWords addr bytes).foldl (fun s e => s.capMerge e.1 e.2) s

/-- Bytes of the capture store. -/
def State.capBytes (s : State) (addr n : Nat) : List Nat :=
  (List.range n).map fun j => let a := addr + j; bits (smGet 0 s.cap (a / 8)) (8 * (a % 8)) 8

/-- A requester may read, and may write, the slice of a tile through BAR2 (R40, R468). [log DEDUCED 134] -/
def State.sliceMay (s : State) (rq : Req) (t : Nat) (write : Bool) : Bool :=
  s.imaged && s.m.mode ≠ .legacy && match s.sagOf rq with
  | some k => s.tileOwner t = some k || (k = 0 && !write)
  | none => false

/-- The same for a capture block; a legacy device shows none (R569). -/
def State.capMay (s : State) (rq : Req) (b : Nat) (write : Bool) : Bool :=
  s.imaged && s.m.mode ≠ .legacy && match s.sagOf rq with
  | some k => s.blkOwner b = some k || (k = 0 && !write)
  | none => false

/-- A refused BAR2 write is counted once (R467). -/
def State.bar2Refuse (s : State) (rq : Req) (off : Nat) : State := s.refuse rq off true

/-- The window of a personality that a BAR2 offset lies in, when LEGACY shows it to the requester (R569). -/
def State.legacyWin (s : State) (rq : Req) (off : Nat) : Option Nat :=
  match s.m.mode, s.image with
  | .legacy, some im => if s.sagOf rq = some 0 && off < 0x10000000 && bitAt im.personalities (off / 0x4000000) then some (off / 0x4000000) else none
  | _, _ => none

/-- One aligned 8-byte place of a personality's window written (R570): vector memory, or the control words of four vectors, in all four slices with bit 4 of TSET
written as 0. The forerunner's register map below 1 MiB is not in this manual. -/
def State.legacyWord (s : State) (p a : Nat) (bs : List (Option Nat)) : State :=
  if 0x2000000 ≤ a then let b := a - 0x2000000; s.sliceMerge (4 * p + b % 128 / 32) (b / 128) (b % 32 / 8) bs
  else if 0x100000 ≤ a && a < 0x180000 then
    s.each (List.range 16) fun s j =>
      let w := (bs.drop (2 * (j / 4))).take 2
      let w := match w with | [lo, hi] => [lo.map fun v => putBits v 4 1 0, hi] | _ => w
      if w.all Option.isNone then s else s.ctlMerge (4 * p + j % 4) ((a - 0x100000) / 2 + j / 4) w
  else s

/-- A BAR2 write in LEGACY (R569, R570): reserved places and windows without a personality discard it, counted once. -/
def State.legacyWrite (s : State) (rq : Req) (off : Nat) (bytes : List Nat) : State :=
  let ws := byteWords off bytes
  let a (w : Nat) := 8 * w % 0x4000000
  let may (w : Nat) : Bool := (s.legacyWin rq (8 * w)).isSome && !(0x180000 ≤ a w && a w < 0x2000000)
  let s' := (ws.filter fun e => may e.1).foldl (fun s e => s.legacyWord (8 * e.1 / 0x4000000) (a e.1) e.2) s
  s'.when (ws.any fun e => !may e.1) (·.bar2Refuse rq off)

/-- A BAR2 write from a requester: each code word it may write takes its bytes; a write with a word it may not is counted once. [log DEDUCED 108] -/
def State.bar2Write (s : State) (rq : Req) (off : Nat) (bytes : List Nat) : State :=
  if !s.reachable rq then s else
  if s.m.mode = .legacy then s.legacyWrite rq off bytes else
  let ws := byteWords off bytes
  let may (w : Nat) : Bool :=
    if 8 * w < capBase then s.sliceMay rq (w / 1572864) true else if 8 * w < 0x0F000000 then s.capMay rq ((8 * w - capBase) / 65536) true else false
  let s' := (ws.filter fun e => may e.1).foldl (fun s e =>
    if 8 * e.1 < capBase then s.sliceMerge (e.1 / 1572864) (e.1 % 1572864 / 4) (e.1 % 4) e.2 else s.capMerge (e.1 - capBase / 8) e.2) s
  s'.when (ws.any fun e => !may e.1) (·.bar2Refuse rq off)

/-- BAR2_VECTOR_WRITE: a write to the vector store range (R209). -/
def execBar2VectorWrite (rq : Req) (off : Nat) (bytes : List Byte) (s : State) : Out' :=
  done s fun s => if off + bytes.length ≤ capBase then s.bar2Write rq off (bytes.map (·.toNat)) else s

/-- BAR2_CAPTURE_WRITE: a write to the capture store range, or to the reserved range behind it (R40, R460). -/
def execBar2CaptureWrite (rq : Req) (off : Nat) (bytes : List Byte) (s : State) : Out' :=
  done s fun s => if capBase ≤ off && off + bytes.length ≤ 0x10000000 then s.bar2Write rq off (bytes.map (·.toNat)) else s

/-- An AER error of a function (R482): 1 Poisoned TLP Received, 2 Completer Abort, 3 Unsupported Request, 4 Completion Timeout, 5 Unexpected
Completion, 6 Malformed TLP, 7 Receiver Overflow, 8 ECRC, 9 Correctable Internal Error, 10 poisoned data sent. [log PRESUMED 110] -/
def State.aer (s : State) (fn e : Nat) : State :=
  { s with host := { s.host with aer := smSet 0 s.host.aer (16 * fn + e) (smGet 0 s.host.aer (16 * fn + e) + 1) } }

/-- The reports that a read of one code word makes (R215): a corrected error is a correctable internal error, an uncorrectable one is poison. -/
def State.readEcc (s : State) (rq : Req) (e : Nat) (ue : State → State) : State :=
  match rq with
  | .fn f => if e = 1 then s.aer f.val 9 else if e = 2 then (ue ((s.aer f.val 10).wr R.HOST_ERR.POISON_TX f.val 1)) else s
  | .spi => s

/-- A byte of a personality's window: vector control words and vector memory (R570); the forerunner's own register map is not in this manual. -/
def State.legacyByte (s : State) (p a : Nat) : Nat :=
  if 0x2000000 ≤ a then
    let b := a - 0x2000000
    let v := b / 128
    bits ((s.store (4 * p + b % 128 / 32)).word v (b % 32 / 8)) (8 * (b % 8)) 8
  else if 0x100000 ≤ a && a < 0x180000 then bits (smGet 0 (s.store (4 * p)).ctl ((a - 0x100000) / 2)) (8 * (a % 2)) 8
  else 0

/-- The code words that the bytes of a read of a personality's window lie in: tile, row and word of vector memory, or the control field of slice 4p (R570). -/
def legacyWords (p a : Nat) : Option (Nat × Nat × Nat) :=
  if 0x2000000 ≤ a then let b := a - 0x2000000; some (4 * p + b % 128 / 32, b / 128, b % 32 / 8)
  else if 0x100000 ≤ a && a < 0x180000 then some (4 * p, (a - 0x100000) / 2, 4)
  else none

/-- BAR2_READ: bytes of the store die (R40, R215, R309), or of the personality windows, where ECC follows R213 to R217 (R569, R570). -/
def execBar2Read (rq : Req) (off : Nat) (len : Nat) (s : State) : Out' :=
  done s fun s =>
    if !s.reachable rq then s else
    if s.m.mode = .legacy then
      let one (a : Nat) (d : List Nat × State) : List Nat × State :=
        match s.legacyWin rq a with
        | none => (d.1 ++ [0], d.2)
        | some p =>
          if a % 0x4000000 < 0x100000 then let (v, s') := d.2.draw 1; (d.1 ++ [v % 256], s') else (d.1 ++ [s.legacyByte p (a % 0x4000000)], d.2)
      let (bs, s') := (List.range len).foldl (fun d j => one (off + j) d) ([], s)
      let words := ((List.range len).filterMap fun j => (s.legacyWin rq (off + j)).bind fun p => legacyWords p ((off + j) % 0x4000000)).eraseDups
      let bad (w : Nat × Nat × Nat) : Nat := (s.store w.1).bad' w.2.1 w.2.2
      let s' := words.foldl (fun s' w => s'.readEcc rq (bad w) fun s => s.sliceUe w.1 w.2.1 w.2.2 2) s'
      s'.send (if words.any fun w => bad w = 2 then .poison bs else .data bs)
    else
    let byte (a : Nat) : Nat :=
      if a < capBase then (if s.sliceMay rq (a / 0xC00000) false then bits ((s.store (a / 0xC00000)).word (a % 0xC00000 / 32) (a % 32 / 8)) (8 * (a % 8)) 8 else 0)
      else if a < 0x0F000000 then (if s.capMay rq ((a - capBase) / 65536) false then bits (smGet 0 s.cap ((a - capBase) / 8)) (8 * (a % 8)) 8 else 0)
      else 0
    let bs := (List.range len).map fun j => byte (off + j)
    let words := if len = 0 then [] else (List.range ((off + len - 1) / 8 - off / 8 + 1)).map (off / 8 + ·)
    let ecc (w : Nat) : Nat :=
      if 8 * w < capBase then (if s.sliceMay rq (w / 1572864) false then (s.store (w / 1572864)).bad' (w % 1572864 / 4) (w % 4) else 0)
      else if 8 * w < 0x0F000000 then (if s.capMay rq ((8 * w - capBase) / 65536) false then smGet 0 s.capEcc (w - capBase / 8) else 0) else 0
    let s := s.each words fun s w =>
      s.readEcc rq (ecc w) fun s =>
        if 8 * w < capBase then s.sliceUe (w / 1572864) (w % 1572864 / 4) (w % 4) 2
        else let c := w - capBase / 8; s.storeUe (16 + capRegion c) (c / 4) (c % 4) 2
    s.send (if words.any fun w => ecc w = 2 then .poison bs else .data bs)

/-- A tile plays (R238): its sequencer is RUNNING or WAITING, or its segment engine still reads vectors. -/
def State.playing (s : State) (t : Nat) : Bool := (s.play t).playing

/-- The write of SEG_CTLW_ADDR: bit 0 is ignored, and 393,216 is the greatest row. -/
def ctlwAddrHook : Hook := fun _ t w be s =>
  if R.SEG_CTLW_ADDR.ROW.enabled be then (s.wr R.SEG_CTLW_ADDR.ROW t (min (R.SEG_CTLW_ADDR.ROW.part w / 2 * 2) 393216), false) else (s, false)

/-- The write of SEG_CTLW_DATA (R210). -/
def ctlwDataHook : Hook := fun _ t w be s =>
  if be = 0 then (s, false) else
  let row := s.rd R.SEG_CTLW_ADDR.ROW t
  if row ≥ 393216 then (s.wr R.SEG_STORE_STATUS.CTLW_OVERRUN t 1, true)
  else
    let x := s.store t
    let x := if R.SEG_CTLW_DATA.CTL_EVEN.enabled be then x.putCtl row (R.SEG_CTLW_DATA.CTL_EVEN.part w) else x
    let x := if R.SEG_CTLW_DATA.CTL_ODD.enabled be then x.putCtl (row + 1) (R.SEG_CTLW_DATA.CTL_ODD.part w) else x
    ((s.setStore t x).wr R.SEG_CTLW_ADDR.ROW t (row + 2), false)

/-- CTLW_DATA_WRITE: a write of SEG_CTLW_DATA (R210). -/
def execCtlwDataWrite (rq : Req) (t : Fin 16) (w : Word) (be : Fin 16) (s : State) : Out' :=
  done s fun s => s.hostAct rq .SEG_CTLW_DATA t.val fun j => ctlwDataHook rq j w.toNat be.val

/-- SLOT_SIZE as it acts: 0 reads as 1. -/
def State.slotSize (s : State) (t : Nat) : Nat := max (s.rd R.SEG_RING_CFG.SLOT_SIZE t) 1

/-- N: the slot count of a tile's stream ring (R278). -/
def State.slotCount (s : State) (t : Nat) : Nat := min 256 (1024 * (384 - s.rd R.SEG_STORE_CFG.RING_BASE t) / (256 * s.slotSize t))

/-- The instance of SEG_SLOT of slot n. -/
def slotInst' (t n : Nat) : Nat := 256 * t + n

/-- READY_COUNT: slots with READY = 1 (R283). -/
def State.readyCount (s : State) (t : Nat) : Nat := ((List.range (s.slotCount t)).filter fun n => s.fl R.SEG_SLOT.READY (slotInst' t n)).length

/-- The ring-low source is armed and raised (R283): `arm` re-arms it first. -/
def State.ringLow (s : State) (t : Nat) (arm : Bool) : State :=
  let low := s.rd R.SEG_RING_CFG.LOW_WATER t
  let p := s.play t
  let armed := p.ringArmed || arm || s.readyCount t ≥ low
  if armed && low ≠ 0 && s.readyCount t < low then (s.setPlay t { p with ringArmed := false }).raise (64 + 16 * t + 6)
  else s.setPlay t { p with ringArmed := armed }

/-- The ring order and READY flags reset (R279). -/
def State.ringReset (s : State) (t : Nat) : State :=
  let s := (s.wr R.SEG_RING_STATUS.NEXT_TAG t 0).wr R.SEG_RING_STATUS.NEXT_SLOT t 0
  (s.each (List.range 256) fun s n => s.wr R.SEG_SLOT.READY (slotInst' t n) 0).ringLow t false

/-- The write of SEG_STORE_CFG (R208). -/
def storeCfgHook : Hook := fun _ t w be s =>
  let base := s.newv R.SEG_STORE_CFG.RING_BASE t w be
  let old := s.rd R.SEG_STORE_CFG.RING_BASE t
  let bad := base ≠ old && (s.playing t || base > 384)
  let (s, _) := writeFields [R.SEG_STORE_CFG.UE_POLICY, R.SEG_STORE_CFG.SCRUB_EN, R.SEG_STORE_CFG.SCRUB_GAP] t w be s
  if base ≠ old && !bad then (((s.wr R.SEG_STORE_CFG.RING_BASE t base).wr R.SEQ_LOAD.VALID t 0).ringReset t, false) else (s, bad)

/-- STORE_CFG_WRITE: a write of SEG_STORE_CFG (R208). -/
def execStoreCfgWrite (rq : Req) (t : Fin 16) (w : Word) (s : State) : Out' := writeRow rq .SEG_STORE_CFG t.val w.toNat storeCfgHook s

/-- The scrub of the next row of a slice (R217, R549). -/
def execScrubRow (t : Fin 16) (s : State) : Out' :=
  done s fun s =>
    let t := t.val
    if !s.fl R.SEG_STORE_CFG.SCRUB_EN t || !s.imaged then s else
    let x := s.store t
    let row := x.scrubRow
    let ce := (List.range 5).filter fun k => x.bad' row k = 1
    let ue := (List.range 5).filter fun k => x.bad' row k = 2
    let twice := !ce.isEmpty && smGet 0 x.scrubCe row = 1
    let fixed := if ue.isEmpty then ce.foldl (fun e k => smSet 0 e (8 * row + k) 0) x.ecc else x.ecc
    let s := s.setStore t { x with ecc := fixed, scrubRow := (row + 1) % 393216, scrubCe := smSet 0 x.scrubCe row (b2n (!ce.isEmpty)) }
    let s := s.bump R.SEG_STORE_STATUS.CE_COUNT t ce.length
    let s := s.each ue fun s k => (((s.bump R.SEG_STORE_STATUS.UE_COUNT t 1).wr R.SEG_STORE_STATUS.UE_PLAY t 1).sliceUe t row k 1).raise (64 + 16 * t + 1)
    s.when twice (·.markRow t row 1)

/-- An area of capture blocks lies in the store and is allotted to a saggar (R304, R477). -/
def State.areaOk (s : State) (sag : Option Nat) (base blocks : Nat) : Bool :=
  sag.isSome && blocks ≠ 0 && base + blocks ≤ 768 && (List.range blocks).all fun j => s.blkOwner (base + j) = sag

end Sys2Proof.Machine
end

