-- ==== Sys2Proof/Machine/Reduction.lean ====
section
/-! DEFINITION. The reduction engine (R368 to R380): contexts and their commands, the input FIFOs, the update, and result records. -/

namespace Sys2Proof.Machine

/-- A context at LOAD: cleared and IDLE. -/
def CtxSt.idle : CtxSt := ⟨1, 0, 0, 0, 0, 0, 0, 0, 0, 0, 0, 0, none, 0, 0, 0⟩

/-- Context c. -/
def State.ctx (s : State) (c : Nat) : CtxSt := smGet .idle s.red.ctxs c

/-- Context c replaced. -/
def State.setCtx (s : State) (c : Nat) (x : CtxSt) : State := { s with red := { s.red with ctxs := smSet .idle s.red.ctxs c x } }

/-- STATE of a context: FREE where its group is allotted to no saggar (R368). -/
def State.ctxState (s : State) (c : Nat) : Nat := if (s.grpOwner (c / 256)).isNone then 0 else (s.ctx c).state

/-- The area of a context group lies in blocks that the group's saggar holds (R376, R477). -/
def State.grpAreaOk (s : State) (g : Nat) : Bool := s.areaOk (s.grpOwner g) (s.rd R.RED_GRP_AREA.BASE g) (s.rd R.RED_GRP_AREA.BLOCKS g)

/-- The records that the ring of a group holds (R376). -/
def State.grpSize (s : State) (g : Nat) : Nat := 1024 * s.rd R.RED_GRP_AREA.BLOCKS g

/-- The capture-store byte address of record k of a group's ring. -/
def State.grpAddr (s : State) (g k : Nat) : Nat := s.rd R.RED_GRP_AREA.BASE g * 65536 + 64 * k

/-- Records of a group in the region buffer. -/
def State.grpBuffered (s : State) (g : Nat) : Nat := (s.red.buffer.filter fun e => e.1 = g).length

/-- The capture region that a group's record goes to with k of its records buffered before it, by its address. -/
def State.slotRegion (s : State) (g k : Nat) : Nat :=
  let n := s.grpSize g
  s.grpAddr g (if n = 0 then 0 else (s.rd R.RED_GRP_WPTR.WPTR g + k) % n) / 3145728

/-- The capture region that a group's next record goes to. -/
def State.grpRegion (s : State) (g : Nat) : Nat := s.slotRegion g (s.grpBuffered g)

/-- The regions of buffered records, given by their groups in order: `f` tells that of the k-th record of a group. -/
def bufRegions (f : Nat → Nat → Nat) : List Nat → List Nat → List Nat
  | [], _ => []
  | g :: l, seen => f g (seen.count g) :: bufRegions f l (g :: seen)

/-- Records buffered toward a region. -/
def State.regionLoad (s : State) (r : Nat) : Nat := (bufRegions s.slotRegion (s.red.buffer.map (·.1)) []).count r

/-- Room for one more record of a group: in its ring, counting buffered records, and in the region buffer of 8 (R376). -/
def State.grpRoom (s : State) (g : Nat) : Bool :=
  let n := s.grpSize g
  n ≠ 0 && (s.rd R.RED_GRP_WPTR.WPTR g + n - s.rd R.RED_GRP_RPTR.RPTR g % n) % n + s.grpBuffered g + 1 < n && s.regionLoad (s.grpRegion g) < 8

/-- FULL and PENDING of RED_GRP_STATUS follow the ring and the contexts (R376). -/
def State.grpSync (s : State) (g : Nat) : State :=
  let n := s.grpSize g
  (s.wb R.RED_GRP_STATUS.FULL g (n ≠ 0 && (s.rd R.RED_GRP_WPTR.WPTR g + 1) % n = s.rd R.RED_GRP_RPTR.RPTR g)).wr R.RED_GRP_STATUS.PENDING g
    ((List.range 256).filter fun j => (s.ctx (256 * g + j)).state = 3).length

/-- The integer square root of a natural below 2^(2n), digit by digit. -/
def isqrt : Nat → Nat → Nat → Nat
  | 0, _, r => r
  | n + 1, v, r => isqrt n v (if (r + 2 ^ n) * (r + 2 ^ n) ≤ v then r + 2 ^ n else r)

/-- SDEV (R374): the root of the exact quotient, rounded to nearest. -/
def sdev (m2 n : Nat) : Nat :=
  if n < 2 then 0 else
  let p := m2 * 2 ^ 24
  let q := n - 1
  let r := isqrt 48 (p / q) 0
  if 4 * p > q * ((2 * r + 1) * (2 * r + 1)) then r + 1 else r

/-- FLAGS of a context at completion: FEW_SAMPLES with N of 1 or 0. -/
def CtxSt.endFlags (x : CtxSt) : Nat := if x.n ≤ 1 then Nat.lor x.flags 1 else x.flags

/-- A result record (R375). -/
def CtxSt.record (x : CtxSt) (c : Nat) : List Nat :=
  leBytes 8 (if x.n = 0 then 0 else ofInt 64 x.mean) ++ leBytes 8 (sdev x.m2 x.n) ++ leBytes 8 (if x.n = 0 then 0 else ofInt 64 x.min) ++
  leBytes 8 (if x.n = 0 then 0 else ofInt 64 x.max) ++ leBytes 4 x.n ++ leBytes 2 x.endFlags ++ leBytes 2 x.excluded ++ leBytes 4 x.dropped ++
  leBytes 2 c ++ [x.reason, 0x20] ++ leBytes 8 x.timeOpen ++ leBytes 8 x.timeEnd

/-- The open of R370 on an IDLE context. -/
def State.ctxOpen (s : State) (c : Nat) : State :=
  let x := s.ctx c
  s.setCtx c { CtxSt.idle with state := 2, ctl := x.ctl, target := x.target, timeOpen := s.stamp }

/-- A group that drains is released once no context of it is OPEN or PENDING (R475): what remains is the row GROUP_RELEASE. -/
def State.grpBusy (s : State) (g : Nat) : Bool := (List.range 256).any fun j => let x := (s.ctx (256 * g + j)).state; x = 2 || x = 3

/-- An open may be made: the group is allotted, not draining, and its ring's blocks are held (R370, R475, R477). -/
def State.openOk (s : State) (c : Nat) : Bool := !s.fl R.SAG_GRP_OWNER.DRAINING (c / 256) && s.grpAreaOk (c / 256)

/-- An OPEN or PENDING context is read with an uncorrectable error (R377): STORE_ERROR, its REASON, and a shard; a latched command is dropped, since the context
becomes IDLE. [log DEDUCED 125] -/
def State.ctxUe (s : State) (c : Nat) : State :=
  if smGet 0 s.red.ecc c ≠ 2 then s else
  let x := s.ctx c
  let s := s.setCtx c { x with flags := Nat.lor x.flags 1024, reason := 4, latched := 0 }
  (({ s with red := { s.red with ecc := smSet 0 s.red.ecc c 0 } }).storeUe 82 c 0 0).raise 21

/-- The record of a PENDING context enters the buffer: the context becomes IDLE, is reopened, or takes its latched command (R370, R374, R376, R377). -/
def State.ctxWritten (s : State) (c : Nat) : State :=
  let s := s.ctxUe c
  let x := s.ctx c
  let s := { s with red := { s.red with buffer := s.red.buffer ++ [(c / 256, x.record c)], pending := s.red.pending.erase c } }
  let s := s.setCtx c { x with state := 1, latched := 0 }
  if x.latched = 1 then s.when (s.openOk c) (·.ctxOpen c)
  else if x.latched = 2 then s
  else if x.reason = 3 then s.ctxOpen c
  else if x.reason = 1 && bitAt x.ctl 7 then s.when (s.openOk c) (·.ctxOpen c)
  else s

/-- Pending records move into the buffer, in order of completion, as room appears (R376). -/
def State.ctxDrain (s : State) : State :=
  s.each s.red.pending fun s c => if s.grpRoom (c / 256) then (s.ctxWritten c).grpSync (c / 256) else s

/-- A context completes with a REASON (R374, R376): 1 TARGET, 2 CLOSE, 3 REOPEN, 4 STORE_ERROR. -/
def State.ctxComplete (s : State) (c reason : Nat) : State :=
  let x := s.ctx c
  let s := s.setCtx c { x with state := 3, reason := reason, timeEnd := s.stamp, latched := 0, flags := x.endFlags }
  let s := { s with red := { s.red with pending := s.red.pending ++ [c] } }
  let earlier := s.red.pending.any fun d => d ≠ c && d / 256 = c / 256
  (if !earlier && s.grpRoom (c / 256) then s.ctxWritten c else s).grpSync (c / 256)

/-- A command to a context that may take it (R370): 1 open, 2 close, 3 abort. An open or a close that meets an uncorrectable error acts on what R377 leaves. [log DEDUCED 125] -/
def State.ctxCmd (s : State) (c op : Nat) : State :=
  let s := if op = 3 || smGet 0 s.red.ecc c ≠ 2 then s
    else if (s.ctx c).state = 2 then (s.ctxUe c).ctxComplete c 4 else if (s.ctx c).state = 3 then s.ctxUe c else s
  let x := s.ctx c
  if op = 3 then
    let s := s.setCtx c { x with state := 1, latched := 0 }
    ({ s with red := { s.red with pending := s.red.pending.erase c } }).grpSync (c / 256)
  else if x.state = 3 then s.setCtx c { x with latched := op }
  else if op = 1 then (if x.state = 2 then s.ctxComplete c 3 else s.ctxOpen c)
  else if x.state = 2 then s.ctxComplete c 2 else s

/-- A command of a saggar is refused (R370, R475, R477). -/
def State.ctxRefused (s : State) (sag : Option Nat) (c op : Nat) : Bool :=
  sag.isNone || s.grpOwner (c / 256) ≠ sag || (op = 1 && !s.openOk c)

/-- The write of RED_CMD (R370). -/
def redCmdHook : Hook := fun rq i w be s =>
  let (s, _) := writeWord .RED_CMD i w be s
  let op := if R.RED_CMD.OP.enabled be && R.RED_CMD.CTX.enabled be then R.RED_CMD.OP.part w else 0
  let c := R.RED_CMD.CTX.part w
  if op = 0 then (s, false)
  else if s.ctxRefused (s.sagOf rq) c op then (s.wr R.RED_CMD.REFUSED 0 1, true)
  else (s.ctxCmd c op, false)

/-- RED_OPEN: a write of RED_CMD with OP = 0b01. -/
def execRedOpen (rq : Req) (w : Word) (s : State) : Out' := writeRow rq .RED_CMD 0 (putBits w.toNat 14 2 1) redCmdHook s

/-- RED_CLOSE: a write of RED_CMD with OP = 0b10. -/
def execRedClose (rq : Req) (w : Word) (s : State) : Out' := writeRow rq .RED_CMD 0 (putBits w.toNat 14 2 2) redCmdHook s

/-- RED_ABORT: a write of RED_CMD with OP = 0b11. -/
def execRedAbort (rq : Req) (w : Word) (s : State) : Out' := writeRow rq .RED_CMD 0 (putBits w.toNat 14 2 3) redCmdHook s

/-- A MEASURE of a tile's sequencer (R236, R370): false where it is refused. -/
def State.measure (s : State) (t c op : Nat) : State × Bool :=
  if s.ctxRefused (s.tileOwner t) c op then (s, false) else (s.ctxCmd c op, true)

/-- A sample is dropped in its context (R372, R379). -/
def State.ctxDrop (s : State) (c : Nat) : State :=
  let x := s.ctx c
  s.setCtx c { x with dropped := min (x.dropped + 1) (2 ^ 32 - 1), flags := Nat.lor x.flags 128 }

/-- A sample enters the FIFO of its source, or is dropped where the four places are taken (R379). -/
def State.toContext (s : State) (x : RedSample) : State :=
  if (s.red.fifo.filter fun e => e.src = x.src).length < 4 then { s with red := { s.red with fifo := s.red.fifo ++ [x] } }
  else (s.ctxDrop x.ctx).bump (if x.src < 128 then R.RED_DROP_ADC.DROPS else if x.src < 264 then R.RED_DROP_SMU.DROPS else R.RED_DROP_TDC.DROPS) 0 1

/-- The sample is excluded by EXCL_MASK or by SUB_BIN_POLICY (R371); UNCAL acts as SUSPECT. -/
def CtxSt.excludes (x : CtxSt) (flags : Nat) : Bool :=
  (bitAt x.ctl 3 && (bitAt flags 4 || bitAt flags 3)) || (bitAt x.ctl 4 && bitAt flags 5) || (bitAt x.ctl 5 && bitAt flags 6) ||
  (bitAt x.ctl 6 && bitAt flags 2) || (bitAt x.ctl 2 && bitAt flags 1)

/-- The update of an OPEN context with an included sample (R373), but for its completion. -/
def CtxSt.update (c : CtxSt) (x : Int) : CtxSt :=
  let n := c.n + 1
  let xq := x * 65536
  let delta := xq - c.mean
  let mean := c.mean + Int.tdiv delta n
  let m2 := c.m2 + (Int.tdiv (delta * (xq - mean)) (2 ^ 24)).toNat
  let sat := m2 > 2 ^ 64 - 1
  { c with
    n := n, mean := mean, m2 := if sat then 2 ^ 64 - 1 else m2, flags := if sat then Nat.lor c.flags 256 else c.flags
    min := if n = 1 ∨ x < c.min then x else c.min
    max := if n = 1 ∨ x > c.max then x else c.max }

/-- A sample reaches its context (R371, R372, R373). -/
def State.ctxSample (s : State) (e : RedSample) : State :=
  let x := s.ctx e.ctx
  if s.ctxState e.ctx = 3 then (s.ctxUe e.ctx).ctxDrop e.ctx
  else if s.ctxState e.ctx ≠ 2 then s.bump R.RED_NOT_OPEN.COUNT 0 1
  else if smGet 0 s.red.ecc e.ctx = 2 then (s.ctxUe e.ctx).ctxComplete e.ctx 4
  else
    let mixed : Bool := match x.kind with | some k => k != e.kind | none => false
    let flags := Nat.lor (Nat.lor x.flags (e.flags % 128)) (if mixed then 512 else 0)
    let x := { x with flags := flags, kind := some (x.kind.getD e.kind) }
    if x.excludes e.flags then s.setCtx e.ctx { x with excluded := min (x.excluded + 1) 65535 }
    else
      let y := x.update e.x
      let s := s.setCtx e.ctx y
      if y.n = y.target || y.n = 2 ^ 32 - 1 then s.ctxComplete e.ctx 1 else s

/-- The first element of a list for each value of a key, in order. -/
def headsBy : List RedSample → List Nat → List RedSample
  | [], _ => []
  | x :: xs, seen => if seen.contains x.src then headsBy xs seen else x :: headsBy xs (x.src :: seen)

/-- The sample that the arbiter serves next: the next pipe in turn that has one, and within it the next source in turn (R378, R379). -/
def State.redNext (s : State) : Option RedSample :=
  let heads := headsBy s.red.fifo []
  let pipes := (List.range 4).map fun j => (s.red.pipe + 1 + j) % 4
  pipes.findSome? fun p =>
    let own := heads.filter fun e => e.ctx % 4 = p
    let last := smGet 0 s.red.turns p
    let key (e : RedSample) := (e.src + 1024 - last) % 1024
    own.foldl (fun b e => match b with
      | none => some e
      | some f => if key e < key f then some e else some f) none

/-- The next sample of the arbiter reaches its context (R371 to R379). -/
def State.ctxUpdate (s : State) (e : RedSample) : State :=
  let r := { s.red with fifo := s.red.fifo.erase e, pipe := e.ctx % 4, turns := smSet 0 s.red.turns (e.ctx % 4) (e.src + 1) }
  ({ s with red := r }).ctxSample e

/-- A record of the fail log, or a write of an acquisition unit, waits for a capture region: it comes first (R30). [log DEDUCED 126] -/
def State.regionTaken (s : State) (r : Nat) (acq : Bool) : Bool :=
  (List.range 16).any fun t =>
    (!(s.play t).log.isEmpty && (s.rd R.CMP_LOG_AREA.BASE t * 65536 + 32 * s.rd R.CMP_LOG_STATUS.WPTR t) / 3145728 = r) ||
    (acq && match (s.acq t).writes with
      | e :: _ => e.1 / 3145728 = r
      | [] => false)

/-- A producer with precedence over DMA uploads has a write waiting for a capture region (R30). [log DEDUCED 126] -/
def State.regionBusy (s : State) (r : Nat) : Bool := s.regionTaken r true || s.regionLoad r ≠ 0

/-- RESULT_RECORD_WRITE: the oldest buffered record of a group is written, and the records that wait move up (R376). -/
def execResultRecordWrite (g : Fin 64) (s : State) : Out' :=
  done s fun s =>
    let g := g.val
    match s.red.buffer.find? fun e => e.1 = g with
    | none => s
    | some e =>
      let n := s.grpSize g
      let w := s.rd R.RED_GRP_WPTR.WPTR g
      if n = 0 || s.regionTaken (s.grpAddr g w / 3145728) true then s else
      let s := s.capPut (s.grpAddr g w) e.2
      let s := { s with red := { s.red with buffer := s.red.buffer.erase e } }
      ((((s.wr R.RED_GRP_WPTR.WPTR g ((w + 1) % n)).raise (960 + g)).ctxDrain).grpSync g)

/-- The write of RED_GRP_RPTR: records that wait for room move up (R376). -/
def grpRptrHook : Hook := fun _ g w be s =>
  let (s, r) := writeWord .RED_GRP_RPTR g w be s
  (s.ctxDrain.grpSync g, r)

/-- The write of RED_GRP_AREA (R376): BLOCKS = 0 gives the group no area; refused as R304, or while a context of the group is OPEN or PENDING. -/
def grpAreaHook : Hook := fun _ g w be s =>
  let base := s.newv R.RED_GRP_AREA.BASE g w be
  let blocks := s.newv R.RED_GRP_AREA.BLOCKS g w be
  if s.grpBusy g || (blocks ≠ 0 && !s.areaOk (s.grpOwner g) base blocks) then (s.wr R.RED_GRP_STATUS.AREA_REFUSED g 1, true)
  else
    let (s, r) := writeWord .RED_GRP_AREA g w be s
    (s.grpSync g, r)

/-- The contexts of a group are aborted and its records discarded; its registers return to reset (R377, R472). -/
def State.grpReset (s : State) (g : Nat) : State :=
  let s := s.each (List.range 256) fun s j =>
    let x := s.ctx (256 * g + j)
    if x.state = 1 then s else s.setCtx (256 * g + j) { x with state := 1, latched := 0 }
  let s := { s with red := { s.red with pending := s.red.pending.filter (· / 256 ≠ g), buffer := s.red.buffer.filter fun e => e.1 ≠ g } }
  let f (s : State) (x : Fld) := s.wr x g (x.reset g)
  [R.RED_GRP_AREA.BASE, R.RED_GRP_AREA.BLOCKS, R.RED_GRP_WPTR.WPTR, R.RED_GRP_RPTR.RPTR, R.RED_GRP_STATUS.FULL, R.RED_GRP_STATUS.AREA_REFUSED,
    R.RED_GRP_STATUS.PENDING].foldl f s

/-- A 32-bit word of a context as the context window shows it (R369). -/
def State.ctxWord (s : State) (c k : Nat) : Nat :=
  let x := s.ctx c
  let q (v : Nat) := if k % 2 = 0 then v % 2 ^ 32 else v / 2 ^ 32
  match k with
  | 0 => s.ctxState c + 4 * bits x.ctl 2 6
  | 1 => x.target
  | 2 => x.n
  | 3 => x.excluded + 65536 * x.flags
  | 4 | 5 => q (ofInt 64 x.mean)
  | 6 | 7 => q x.m2
  | 8 | 9 => q (ofInt 64 x.min)
  | 10 | 11 => q (ofInt 64 x.max)
  | 12 | 13 => q x.timeOpen
  | 14 => x.dropped
  | _ => 0

/-- A write of a word of the context window: CTL [7:2] and TARGET, while the context is IDLE (R369); the group is that of RED_CTX_PAGE. -/
def ctxWriteFx (rq : Req) (off w be : Nat) : Fx := fun s =>
  let g := s.rd R.RED_CTX_PAGE.GROUP 0
  let c := 256 * g + off / 64
  let k := off % 64 / 4
  if s.sagOf rq ≠ s.grpOwner g || s.ctxState c ≠ 1 || 1 < k then (s, true)
  else
    let x := s.ctx c
    if k = 0 then (if bitAt be 0 then (s.setCtx c { x with ctl := bits w 2 6 * 4 }, false) else (s, false))
    else if be = 15 then (s.setCtx c { x with target := w }, false) else (s, false)

end Sys2Proof.Machine
end

