-- ==== Sys2Proof/Machine/Acq.lean ====
section
/-! DEFINITION. Triggered acquisition (R382 to R406): streams, trigger conditions, arming, capture, frames and the ring. -/

namespace Sys2Proof.Machine

/-- The present instant in 2^-16 ns, rounded to nearest (R385). -/
def Clock.near (c : Clock) : Nat := (c.sec * 1000000000 + c.ns) * 65536 + (c.frac + 32768) / 65536

/-- The compact stamp of an instant `u` units of 2^-16 ns after the last time tick (R13, R385). -/
def State.stampAfter (s : State) (u : Nat) : Nat :=
  let n := (s.clock.units + u) / 65536
  compact (n / 1000000000) (n % 1000000000) s.quality

/-- The full time of an instant `taps` after the last time tick (R385). -/
def Clock.after (c : Clock) (taps : Nat) : Nat := c.near + 80 * taps

/-- The 2.5 ns of a nominal tick in 2^-16 ns. -/
def tickUnits : Nat := 163840

/-- STATE of the acquisition unit of a tile (R393): 0 IDLE, 1 ARMING, 2 ARMED, 3 POST, 4 CLOSING, 5 PARKED. -/
def State.acqState (s : State) (t : Nat) : Nat := s.rd R.ACQ_CTL.STATE t

/-- A recorded stream of analog codes. -/
def State.acqAnalogKind (s : State) (t : Nat) : Bool := let k := s.rd R.ACQ_SRC.KIND t; 1 ≤ k && k ≤ 3

/-- PRE, POST and DEC as they act: 0 reads as 1 in the last two. -/
def State.acqPost (s : State) (t : Nat) : Nat := max (s.rd R.ACQ_POST.POST t) 1
/-- DEC as it acts. -/
def State.acqDec (s : State) (t : Nat) : Nat := max (s.rd R.ACQ_CFG.DEC t) 1

/-- A section size rounded up to 64 bytes. -/
def up64 (n : Nat) : Nat := (n + 63) / 64 * 64

/-- The sizes of the four sections (R404); a section whose reduction is off takes none. -/
def State.acqSections (s : State) (t : Nat) : List Nat :=
  let reds := s.rd R.ACQ_CFG.REDS t
  let pre := s.rd R.ACQ_PRE.PRE t
  let post := s.acqPost t
  let dec := s.acqDec t
  let e := if s.rd R.ACQ_SRC.KIND t = 4 then 32 else 8
  let blocks := (pre + dec - 1) / dec + (post + dec - 1) / dec
  let sizes := [(pre + post) * e, blocks * 8, blocks * 16, (pre + post) * e]
  (List.range 4).map fun j => if bitAt reds j then up64 (sizes.getD j 0) else 0

/-- F: the size of a frame (R404). -/
def State.acqFrameSize (s : State) (t : Nat) : Nat := (s.acqSections t).foldl (· + ·) 64

/-- K: the frame slots of the area (R404). -/
def State.acqSlots (s : State) (t : Nat) : Nat := min 65535 (s.rd R.ACQ_AREA.BLOCKS t * 65536 / s.acqFrameSize t)

/-- The capture-store byte address of the frame being written. -/
def State.acqFrameAddr (s : State) (t : Nat) : Nat := s.rd R.ACQ_AREA.BASE t * 65536 + s.rd R.ACQ_WPTR.WPTR t * s.acqFrameSize t

/-- The ring of frames is full (R404). -/
def State.acqFull (s : State) (t : Nat) : Bool := let k := s.rd R.ACQ_RING.SLOTS t; k ≠ 0 && (s.rd R.ACQ_WPTR.WPTR t + 1) % k = s.rd R.ACQ_RPTR.RPTR t

/-- Slot n of a tile's trigger conditions: its instance. -/
def condInst (t n : Nat) : Nat := 8 * t + n

/-- The enabled slots of a type, in ascending order. -/
def State.acqSlotsOf (s : State) (t type : Nat) : List Nat :=
  (List.range 8).filter fun n => s.fl R.ACQ_COND_CTL.EN (condInst t n) && s.rd R.ACQ_COND_CTL.TYPE (condInst t n) = type

/-- The mask of enabled slots. -/
def State.acqEnabled (s : State) (t : Nat) : Nat := ((List.range 8).filter fun n => s.fl R.ACQ_COND_CTL.EN (condInst t n)).foldl (fun a n => a + 2 ^ n) 0

/-- A met condition of a slot reaches the unit (R389); it counts in ARMING and ARMED alone. -/
def State.acqCond (s : State) (t n time : Nat) : State :=
  if s.acqState t = 1 || s.acqState t = 2 then let a := s.acq t; s.setAcq t { a with conds := a.conds ++ [(n, time)] } else s

/-- A mark (R386, TYPE MARK): bit 0 of `sel` a row TRIG_MARK, bit 1 a nano-word ACQ_MARK. -/
def State.acqMark (s : State) (t sel time : Nat) : State :=
  s.each ((s.acqSlotsOf t 4).filter fun n => bitAt (s.rd R.ACQ_COND_CTL.SEL (condInst t n)) sel) fun s n => s.acqCond t n time

/-- A mark at an instant that the clock has not passed yet. -/
def State.acqMarkAt (s : State) (t sel instant : Nat) : State := let a := s.acq t; s.setAcq t { a with marks := a.marks ++ [(sel, instant)] }

/-- A timed output fires (R386, TYPE TEV). -/
def State.acqTev (s : State) (n time : Nat) : State :=
  s.each (List.range 16) fun s t => s.each ((s.acqSlotsOf t 5).filter fun c => s.rd R.ACQ_COND_CTL.SEL (condInst t c) = n) fun s c => s.acqCond t c time

/-- A source of the event hub becomes pending (R386, TYPE EVENT). -/
def State.acqEvent (s : State) (n : Nat) : State :=
  s.each (List.range 16) fun s t => s.each ((s.acqSlotsOf t 6).filter fun c => s.rd R.ACQ_COND_B.B (condInst t c) % 2048 = n) fun s c => s.acqCond t c s.clock.near

/-- A TDC result whose stop edge or gate close is at `time` (R386, R389, TYPE TDC_LIMIT). -/
def State.acqTdc (s : State) (i value time : Nat) : State :=
  let t := i / 4
  let met (c : Nat) : Bool :=
    let a := s.rdS R.ACQ_COND_A.A (condInst t c)
    let b := s.rdS R.ACQ_COND_B.B (condInst t c)
    let v : Int := value
    match s.rd R.ACQ_COND_CTL.DIR (condInst t c) with
    | 0 => v > a
    | 1 => v < a
    | 2 => v < a || v > b
    | _ => false
  s.each ((s.acqSlotsOf t 7).filter fun c => s.rd R.ACQ_COND_CTL.SEL (condInst t c) = i % 4 && met c) fun s c => s.acqCond t c time

/-- EVENT_ARRIVAL: the hub takes a source that has asserted (R31, R415). [log DEDUCED 34] -/
def execEventArrival (n : Fin 1152) (s : State) : Out' :=
  done s fun s =>
    match s.hub.asserted.find? fun e => e.1 = n.val with
    | none => s
    | some e => (({ s with hub := { s.hub with asserted := s.hub.asserted.erase e } }).arrive e.1 e.2).acqEvent n.val

/-- A lane-state sample matches the pattern (R388). -/
def State.acqMatch (s : State) (t : Nat) (x : AcqSample) : Bool :=
  let w (lo hi : Fld) := s.rd lo t + 2 ^ 32 * s.rd hi t
  let m := Nat.land (w R.ACQ_PAT_MASK_LO.MASK R.ACQ_PAT_MASK_HI.MASK) x.mask
  m ≠ 0 && Nat.land m (Nat.xor x.ch (w R.ACQ_PAT_H_LO.PAT_H R.ACQ_PAT_H_HI.PAT_H)) = 0 && Nat.land m (Nat.xor x.cl (w R.ACQ_PAT_L_LO.PAT_L R.ACQ_PAT_L_HI.PAT_L)) = 0

/-- A sample of the recorded stream arrives, whether or not the unit is armed (R382). -/
def State.acqArrive (s : State) (t : Nat) (x : AcqSample) : State := let a := s.acq t; s.setAcq t { a with waiting := a.waiting ++ [x] }

/-- A sample of an analog stream is offered (R382, R383): kind 1 octet ADC, 2 SMU ADC, 3 DPS current, of local octet or channel `sel`. -/
def State.acqOffer (s : State) (t kind sel : Nat) (x : AcqSample) : State :=
  let v := s.rd R.ACQ_SRC.FILT_VAL t
  let pass := !s.fl R.ACQ_SRC.FILT_EN t || kind = 3 || (if kind = 1 then x.lane = v else x.qty = v % 2)
  if s.rd R.ACQ_SRC.KIND t = kind && s.rd R.ACQ_SRC.SEL t = sel && pass then s.acqArrive t x else s

/-- A lane-state sample is offered (R384, R386): it feeds the pattern conditions whatever is recorded. -/
def State.acqLanes (s : State) (t : Nat) (x : AcqSample) : State :=
  let hit := s.acqMatch t x
  let prev := (s.acq t).prevMatch
  let met (c : Nat) : Bool := if s.rd R.ACQ_COND_CTL.DIR (condInst t c) = 0 then hit else hit && prev == some false
  let s := s.each ((s.acqSlotsOf t 3).filter met) fun s c => s.acqCond t c x.time
  let s := s.setAcq t { s.acq t with prevMatch := some hit }
  if s.rd R.ACQ_SRC.KIND t = 4 then s.acqArrive t x else s

/-- The slots that an evaluated analog sample itself meets (R386, R387). -/
def State.acqOwn (s : State) (t : Nat) (x : AcqSample) : List Nat :=
  match (s.acq t).prev with
  | none => []
  | some p =>
    (List.range 8).filter fun n =>
      let i := condInst t n
      let a := s.rdS R.ACQ_COND_A.A i
      let b := s.rdS R.ACQ_COND_B.B i
      let c := x.code
      let both (u d : Bool) : Bool := match s.rd R.ACQ_COND_CTL.DIR i with | 0 => u | 1 => d | 2 => u || d | _ => false
      let inside (v : Int) : Bool := decide (a ≤ v) && decide (v ≤ b)
      s.acqAnalogKind t && s.fl R.ACQ_COND_CTL.EN i &&
      match s.rd R.ACQ_COND_CTL.TYPE i with
      | 0 => both (decide (p < a) && decide (a ≤ c)) (decide (p ≥ a) && decide (a > c))
      | 1 => both (inside c && !inside p) (!inside c && inside p)
      | 2 => both (decide (c - p ≥ a)) (decide (p - c ≥ a))
      | _ => false

/-- OFFSET of a sample (R406). -/
def acqOffset (trig time : Nat) : Nat := ofInt 32 (divEven ((time : Int) - trig) tickUnits)

/-- A raw entry (R406). -/
def acqRaw (lanes : Bool) (trig : Nat) (x : AcqSample) : List Nat :=
  if lanes then leBytes 8 x.ch ++ leBytes 8 x.cl ++ leBytes 8 x.mask ++ leBytes 4 x.cycle ++ leBytes 4 (acqOffset trig x.time)
  else leBytes 4 (ofInt 20 x.code + x.lane % 8 * 2 ^ 20 + x.qty % 2 * 2 ^ 23 + b2n x.compl * 2 ^ 24 + b2n x.suspect * 2 ^ 25) ++ leBytes 4 (acqOffset trig x.time)

/-- A sample fails for the fail-only reduction (R402). -/
def State.acqFails (s : State) (t : Nat) (x : AcqSample) : Bool :=
  if s.rd R.ACQ_SRC.KIND t = 4 then !s.acqMatch t x
  else decide (x.code < s.rdS R.ACQ_FO_LO.LO t) || decide (x.code > s.rdS R.ACQ_FO_HI.HI t) || x.compl || x.suspect

/-- A sample joins a decimation block. -/
def AcqBlock.add (b : Option AcqBlock) (x : AcqSample) : AcqBlock :=
  match b with
  | none => ⟨x.time, 1, x.code, x.code, x.code, x.compl, x.suspect⟩
  | some b => ⟨b.time, b.count + 1, b.sum + x.code, if x.code < b.min then x.code else b.min, if x.code > b.max then x.code else b.max, b.compl || x.compl, b.suspect || x.suspect⟩

/-- Entries added to a section: every 64 bytes gathered become a write (R403). -/
def AcqSt.put (a : AcqSt) (addr sec : Nat) (bytes : List Nat) : AcqSt :=
  let p := a.parts.getD sec [] ++ bytes
  let parts (q : List Nat) := (List.range 4).map fun j => if j = sec then q else a.parts.getD j []
  if p.length < 64 then { a with parts := parts p }
  else
    let off := smGet 0 a.offs sec
    { a with parts := parts (p.drop 64), offs := smSet 0 a.offs sec (off + 64), writes := a.writes ++ [(addr + off, p.take 64)] }

/-- The sections in the order in which they lie in a frame (R404): raw, fail-only, mean, min and max; numbered as the bits of REDS. -/
def secOrder : List Nat := [0, 3, 1, 2]

/-- Where section j of the frame begins. -/
def State.acqSecAddr (s : State) (t j : Nat) : Nat :=
  ((secOrder.takeWhile (· ≠ j)).map fun k => (s.acqSections t).getD k 0).foldl (· + ·) (s.acqFrameAddr t + 64)

/-- The entries of a finished block (R406). -/
def State.acqBlockOut (s : State) (t : Nat) (a : AcqSt) (b : AcqBlock) : AcqSt :=
  let reds := s.rd R.ACQ_CFG.REDS t
  let off := leBytes 4 (acqOffset a.trig.time b.time)
  let a := if bitAt reds 1 then a.put (s.acqSecAddr t 1) 1 (leBytes 4 (ofInt 32 (256 * b.sum / (b.count : Int))) ++ off) else a
  if bitAt reds 2 then
    a.put (s.acqSecAddr t 2) 2 (leBytes 4 (ofInt 32 b.min) ++ leBytes 4 (ofInt 32 b.max) ++ off ++ leBytes 2 b.count ++ [b2n b.compl + 2 * b2n b.suspect, 0])
  else a

/-- A sample's own entries: raw and fail-only; its flags join the frame's. -/
def State.acqEntries (s : State) (t : Nat) (a : AcqSt) (x : AcqSample) : AcqSt :=
  let reds := s.rd R.ACQ_CFG.REDS t
  let e := acqRaw (s.rd R.ACQ_SRC.KIND t = 4) a.trig.time x
  let a := if bitAt reds 0 then a.put (s.acqSecAddr t 0) 0 e else a
  let fo := bitAt reds 3 && s.acqFails t x
  let a := if fo then a.put (s.acqSecAddr t 3) 3 e else a
  { a with foN := a.foN + b2n fo, flags := Nat.lor a.flags (32 * b2n x.suspect + 64 * b2n x.compl) }

/-- A pre-trigger sample is written; `done'` says that its decimation block ends with it. -/
def State.acqPreTake (s : State) (t : Nat) (a : AcqSt) (x : AcqSample) (done' : Bool) : AcqSt :=
  let a := s.acqEntries t a x
  let b := AcqBlock.add a.block x
  let a := if done' then { s.acqBlockOut t a b with block := none } else { a with block := some b }
  { a with preN := a.preN + 1 }

/-- A post sample is taken (R399, R402). -/
def State.acqPostTake (s : State) (t : Nat) (a : AcqSt) (x : AcqSample) : AcqSt :=
  let a := s.acqEntries t a x
  let b := AcqBlock.add a.block x
  let a := if b.count = s.acqDec t then { s.acqBlockOut t a b with block := none } else { a with block := some b }
  { a with postN := a.postN + 1 }

/-- Buffered writes reach the capture store while no fail-log record waits for their region (R30). [log DEDUCED 126] -/
def State.acqFlush (s : State) (t : Nat) : State :=
  let a := s.acq t
  let go := a.writes.takeWhile fun e => !s.regionTaken (e.1 / 3145728) false
  go.foldl (fun s e => s.capPut e.1 e.2) (s.setAcq t { a with writes := a.writes.drop go.length })

/-- The unit enters CLOSING with more flags set (R399). -/
def State.acqClosing (s : State) (t flags : Nat) : State :=
  let a := s.acq t
  (s.setAcq t { a with flags := Nat.lor a.flags flags }).wr R.ACQ_CTL.STATE t 4

/-- Entries are taken into the buffer of 8 writes; where it has no room the capture stops with the samples it holds (R403). The Bool says that it goes on. -/
def State.acqStore (s : State) (t : Nat) (b : AcqSt) : State × Bool :=
  if b.writes.length > 8 then ((s.raise (64 + 16 * t + 9)).acqClosing t 4, false) else ((s.setAcq t b).acqFlush t, true)

/-- A post sample is evaluated: taken, or cut by time (R399), or stopped by a full buffer (R403). -/
def State.acqTake (s : State) (t : Nat) (x : AcqSample) : State :=
  let a := s.acq t
  if x.time ≥ a.trig.time + (2 ^ 31 - 1) * tickUnits then s.acqClosing t 8
  else
    let b := s.acqPostTake t a x
    let (s, ok) := s.acqStore t b
    if ok && b.postN = s.acqPost t then s.acqClosing t 0 else s

/-- The pre-trigger samples, each with the number that follow it, go into the frame while the buffer takes them (R400, R403). -/
def State.acqPreAll (t dec : Nat) : List (Nat × AcqSample) → State → State × Bool
  | [], s => (s, true)
  | e :: l, s =>
    match s.acqStore t (s.acqPreTake t (s.acq t) e.2 (e.1 % dec = 0)) with
    | (s, true) => State.acqPreAll t dec l s
    | (s, false) => (s, false)

/-- The unit enters ARMING (R394, R397). -/
def State.acqArming (s : State) (t : Nat) : State :=
  let a := s.acq t
  (s.setAcq t { a with conds := [], marks := [], latches := 0, prev := none, prevMatch := none, forced := false, triggered := false, pre := [], disarm := false }).wr R.ACQ_CTL.STATE t 1

/-- The trigger (R392, R399, R400): the pre-trigger samples are written, oldest first, and then the trigger sample. -/
def State.acqTrigger (s : State) (t : Nat) (x : AcqSample) (cause : Nat) : State :=
  let a := s.acq t
  let n := a.pre.length
  let short := n < s.rd R.ACQ_PRE.PRE t
  let b := { a with trig := x, cause := cause, flags := b2n a.forced + 2 * b2n short, preN := 0, postN := 0, foN := 0, block := none, offs := [], parts := [], writes := [], pre := [], triggered := true, forced := false, latches := 0, conds := [], quality := s.quality }
  let (s, ok) := State.acqPreAll t (s.acqDec t) (((List.range n).reverse).zip a.pre) ((s.setAcq t b).wr R.ACQ_CTL.STATE t 3)
  if ok then s.acqTake t x else s

/-- ACQ_SAMPLE_EVALUATE: the unit evaluates the next sample that has reached it (R390 to R402). -/
def execAcqSampleEvaluate (t : Fin 16) (s : State) : Out' :=
  done s fun s =>
    let t := t.val
    let a := s.acq t
    match a.waiting with
    | [] => s
    | x :: rest =>
      let st := s.acqState t
      let own := s.acqOwn t x
      let hit := a.conds.filter fun e => e.2 ≤ x.time
      let mask := (List.range 8).foldl (fun m n => if own.contains n || hit.any (·.1 = n) then m + 2 ^ n else m) 0
      let a := { a with waiting := rest, conds := a.conds.filter fun e => x.time < e.2, prev := if s.acqAnalogKind t then some x.code else a.prev }
      let s := s.setAcq t a
      if st = 1 then (if mask ≠ 0 then (s.setAcq t { a with missed := min (a.missed + 1) 65535 }).bump R.ACQ_COUNT.MISSED t 1 else s)
      else if st = 2 then
        let latches := Nat.lor a.latches mask
        let all := s.fl R.ACQ_CFG.COMBINE t
        let fire := a.forced || (if all then latches = s.acqEnabled t && mask ≠ 0 else mask ≠ 0)
        let s := s.setAcq t { a with latches := latches }
        if fire then s.acqTrigger t x mask
        else
          let pre := a.pre ++ [x]
          let n := s.rd R.ACQ_PRE.PRE t
          s.setAcq t { a with latches := latches, pre := pre.drop (pre.length - n) }
      else if st = 3 then s.acqTake t x
      else s

/-- ARMING_DONE: ARMING ends, and the unit enters ARMED (R395). A condition whose sample has not been evaluated yet still maps to it (R390). -/
def execArmingDone (t : Fin 16) (s : State) : Out' :=
  done s fun s =>
    if s.acqState t.val ≠ 1 then s else
    let a := s.acq t.val
    (s.setAcq t.val { a with latches := 0, pre := [], block := none, armTime := s.stamp }).wr R.ACQ_CTL.STATE t.val 2

/-- A trigger is forced (R396). -/
def State.acqForce (s : State) (t : Nat) : State :=
  if s.acqState t = 2 then s.setAcq t { s.acq t with forced := true } else s

/-- ACQ_AUTO_TIMEOUT: the unit has stayed ARMED for AUTO_TIMEOUT µs (R396). -/
def execAcqAutoTimeout (t : Fin 16) (s : State) : Out' :=
  done s fun s => if s.rd R.ACQ_AUTO.AUTO_TIMEOUT t.val = 0 then s else s.acqForce t.val

/-- Bytes gathered toward a write are padded to 64; what the manual leaves of the last write is free. -/
def State.acqPad (s : State) (t sec : Nat) : State :=
  let a := s.acq t
  let p := a.parts.getD sec []
  if p.isEmpty then s else
  let n := 64 - p.length
  let fill := (List.range n).map fun j => Config.freeValue 2 (s.free + j) % 256
  let s := { s with free := s.free + n }
  s.setAcq t (a.put (s.acqSecAddr t sec) sec fill)

/-- The header of a frame (R405). -/
def State.acqHeader (s : State) (t : Nat) : List Nat :=
  let a := s.acq t
  let full := bitAt a.flags 2
  let ns := a.trig.time / 65536
  let lanes := s.rd R.ACQ_SRC.KIND t = 4
  [if full then 0x3F else 0x30, t, a.cause, a.flags] ++ leBytes 2 a.seq ++ [s.rd R.ACQ_SRC.KIND t + 8 * s.rd R.ACQ_SRC.SEL t + 64 * s.rd R.ACQ_SRC.FILT_EN t + 128 * (s.rd R.ACQ_SRC.FILT_VAL t % 2), s.rd R.ACQ_CFG.REDS t] ++
  leBytes 4 a.preN ++ leBytes 4 a.postN ++ leBytes 6 (ns / 1000000000) ++ leBytes 2 (a.trig.time % 65536) ++ leBytes 4 (ns % 1000000000 + a.quality * 2 ^ 30) ++
  leBytes 4 (s.acqDec t) ++ leBytes 4 a.foN ++ leBytes 2 a.missed ++ [0, 0] ++ (acqRaw lanes a.trig.time a.trig).take 8 ++ leBytes 8 a.armTime ++ leBytes 8 s.stamp

/-- After a frame, or at a release of the ring (R397). -/
def State.acqNext (s : State) (t : Nat) : State :=
  if (s.acq t).disarm || !s.fl R.ACQ_CTL.REARM t then (s.setAcq t { s.acq t with disarm := false }).wr R.ACQ_CTL.STATE t 0
  else if s.acqFull t then s.wr R.ACQ_CTL.STATE t 5
  else s.acqArming t

/-- The capture regions that the frame being written touches. -/
def State.acqRegions (s : State) (t : Nat) : List Nat := [s.acqFrameAddr t / 3145728, (s.acqFrameAddr t + s.acqFrameSize t - 1) / 3145728]

/-- ACQ_FRAME_CLOSE: the frame in CLOSING is completed (R397, R399, R403, R405), once no fail-log record waits for its region (R30). [log DEDUCED 126] -/
def execAcqFrameClose (t : Fin 16) (s : State) : Out' :=
  done s fun s =>
    let t := t.val
    if s.acqState t ≠ 4 || (s.acqRegions t).any fun r => s.regionTaken r false then s else
    let s := match (s.acq t).block with
      | some b => s.setAcq t { s.acqBlockOut t (s.acq t) b with block := none }
      | none => s
    let s := s.each (List.range 4) fun s j => s.acqPad t j
    let a := s.acq t
    let s := a.writes.foldl (fun s e => s.capPut e.1 e.2) (s.setAcq t { a with writes := [] })
    let s := s.capPut (s.acqFrameAddr t) (s.acqHeader t)
    let k := s.rd R.ACQ_RING.SLOTS t
    let s := s.wr R.ACQ_WPTR.WPTR t (if k = 0 then 0 else (s.rd R.ACQ_WPTR.WPTR t + 1) % k)
    let s := s.setAcq t { s.acq t with seq := (a.seq + 1) % 65536, missed := 0 }
    ((s.bump R.ACQ_COUNT.FRAMES t 1).raise (64 + 16 * t + 8)).acqNext t

/-- A source could be routed to a saggar (R63). -/
def State.routable (s : State) (n : Nat) (sag : Option Nat) : Bool :=
  srcReal n && (1088 ≤ n || (if n < 64 || (960 ≤ n && n < 1024) then sag == some 0 else s.srcOwner n == sag))

/-- The cause that refuses an arm (R394); 0 where it is accepted. -/
def State.acqArmCause (s : State) (t : Nat) : Nat :=
  let kind := s.rd R.ACQ_SRC.KIND t
  let d := t / 4 * 8 + s.rd R.ACQ_SRC.SEL t
  let en := (List.range 8).filter fun n => s.fl R.ACQ_COND_CTL.EN (condInst t n)
  let type n := s.rd R.ACQ_COND_CTL.TYPE (condInst t n)
  let dir n := s.rd R.ACQ_COND_CTL.DIR (condInst t n)
  let reds := s.rd R.ACQ_CFG.REDS t
  let pre := s.rd R.ACQ_PRE.PRE t
  if en.isEmpty && s.rd R.ACQ_AUTO.AUTO_TIMEOUT t = 0 then 1
  else if kind = 0 || 4 < kind || (kind = 3 && (s.rd R.DPS_SET_CFG.STROBE_TILE d ≠ t % 4 || s.dpsOwner d ≠ s.tileOwner t)) then 2
  else if en.any fun n => (type n ≤ 2 && kind = 4) || dir n = 3 || (type n = 3 && 1 < dir n) || (type n = 6 && !s.routable (s.rd R.ACQ_COND_B.B (condInst t n) % 2048) (s.tileOwner t)) then 3
  else if reds = 0 || (kind = 4 && (bitAt reds 1 || bitAt reds 2)) || pre > (if kind = 4 then 1024 else 4096) then 4
  else if !s.areaOk (s.tileOwner t) (s.rd R.ACQ_AREA.BASE t) (s.rd R.ACQ_AREA.BLOCKS t) || s.acqSlots t < 2 then 5
  else 0

/-- An arm (R394). -/
def State.acqArm (s : State) (t : Nat) : State :=
  let c := s.acqArmCause t
  let s := s.wr R.ACQ_CTL.ARM_CAUSE t c
  if c ≠ 0 then s.wr R.ACQ_CTL.ARM_REFUSED t 1
  else
    let s := ((s.wr R.ACQ_WPTR.WPTR t 0).wr R.ACQ_FRAME.UNITS t (s.acqFrameSize t / 64)).wr R.ACQ_RING.SLOTS t (s.acqSlots t)
    (s.setAcq t { s.acq t with seq := 0, missed := 0 }).acqArming t

/-- A disarm (R398). -/
def State.acqDisarm (s : State) (t : Nat) : State :=
  match s.acqState t with
  | 1 | 2 | 5 => (s.setAcq t { s.acq t with conds := [], pre := [], forced := false }).wr R.ACQ_CTL.STATE t 0
  | 3 => (s.setAcq t { s.acq t with disarm := true }).acqClosing t 16
  | 4 => s.setAcq t { s.acq t with disarm := true }
  | _ => s

/-- A FUNC reset of the tile's saggar (R398): a frame in POST or CLOSING is discarded. -/
def State.acqReset (s : State) (t : Nat) : State :=
  if s.acqState t = 0 then s else (s.setAcq t { AcqSt.idle with seq := (s.acq t).seq, triggered := (s.acq t).triggered }).wr R.ACQ_CTL.STATE t 0

/-- The write of ACQ_CTL (R394, R396, R398): outside IDLE REARM, whatever its value, and ARM are refused; DISARM and FORCE still act. -/
def acqCtlHook : Hook := fun _ t w be s =>
  let idle := s.acqState t = 0
  let rearm := s.newv R.ACQ_CTL.REARM t w be
  let badRearm := !idle && R.ACQ_CTL.REARM.enabled be
  let s := s.when (R.ACQ_CTL.ARM_REFUSED.acts w be) (·.wr R.ACQ_CTL.ARM_REFUSED t 0)
  let s := s.when idle (·.wr R.ACQ_CTL.REARM t rearm)
  let s := s.when (R.ACQ_CTL.DISARM.acts w be) (·.acqDisarm t)
  let arm := R.ACQ_CTL.ARM.acts w be
  let s := s.when (arm && idle) (·.acqArm t)
  let s := s.when (R.ACQ_CTL.FORCE.acts w be) (·.acqForce t)
  (s, badRearm || (arm && !idle))

/-- ACQ_ARM: a write of ACQ_CTL with ARM = 1. -/
def execAcqArm (rq : Req) (t : Fin 16) (w : Word) (s : State) : Out' := writeRow rq .ACQ_CTL t.val (Nat.lor w.toNat 1) acqCtlHook s

/-- ACQ_DISARM: a write of ACQ_CTL with DISARM = 1. -/
def execAcqDisarm (rq : Req) (t : Fin 16) (w : Word) (s : State) : Out' := writeRow rq .ACQ_CTL t.val (Nat.lor w.toNat 2) acqCtlHook s

/-- ACQ_FORCE: a write of ACQ_CTL with FORCE = 1. -/
def execAcqForce (rq : Req) (t : Fin 16) (w : Word) (s : State) : Out' := writeRow rq .ACQ_CTL t.val (Nat.lor w.toNat 4) acqCtlHook s

/-- The write of any other register of the unit but ACQ_RPTR: refused outside IDLE (R394). -/
def acqCfgHook (r : Reg) : Hook := fun _ i w be s => if s.acqState (i / r.inner) ≠ 0 then (s, true) else writeWord r i w be s

/-- The write of ACQ_RPTR (R397): a value of K or above is discarded; a PARKED unit arms again when the ring has room. -/
def acqRptrHook : Hook := fun _ t w be s =>
  if !R.ACQ_RPTR.RPTR.enabled be then (s, false)
  else if R.ACQ_RPTR.RPTR.part w ≥ s.rd R.ACQ_RING.SLOTS t then (s, true)
  else
    let s := s.wr R.ACQ_RPTR.RPTR t (R.ACQ_RPTR.RPTR.part w)
    (s.when (s.acqState t = 5 && !s.acqFull t) (·.acqArming t), false)

/-- ACQ_RPTR_WRITE: a write of ACQ_RPTR. -/
def execAcqRptrWrite (rq : Req) (t : Fin 16) (w : Word) (s : State) : Out' := writeRow rq .ACQ_RPTR t.val w.toNat acqRptrHook s

/-- Marks whose instant the tick that ends has passed become conditions; the clock is the one before the tick (R385, R389). -/
def State.acqTick (s : State) (t : Nat) : State :=
  let a := s.acq t
  let past := a.marks.filter fun e => e.2 / 2048 ≤ s.clock.tick
  if past.isEmpty then s else
  let s := s.setAcq t { a with marks := a.marks.filter fun e => s.clock.tick < e.2 / 2048 }
  past.foldl (fun s e => s.acqMark t e.1 (s.clock.after (e.2 - s.clock.tick * 2048))) s

end Sys2Proof.Machine
end

