-- ==== Sys2Proof/Machine/Timing.lean ====
section
/-! DEFINITION. Timing generation (R166 to R194): timing sets and their commit, the NCOs, and the placed edges of a lane as they reach
the ball. Times are in fine taps from the tile's origin. -/

namespace Sys2Proof.Machine

/-- The value an item of a timing set has after a SOFT reset (R175). -/
def setDefault (k : Nat) : Nat := if k % 1024 = 512 then 1024 else 0

/-- An item of the timing sets of a tile as written. -/
def PlaySt.item (p : PlaySt) (k : Nat) : Nat := smGet (setDefault k) p.sets k

/-- Word w of lane i in timing set n: edges 0 to 5, mode 6. -/
def PlaySt.setWord (p : PlaySt) (n i w : Nat) : Nat := p.item (n * 1024 + 8 * i + w)

/-- The period of timing set n in taps (R166). -/
def PlaySt.setPeriod (p : PlaySt) (n : Nat) : Nat := p.item (n * 1024 + 512)

/-- TIP_REF of timing set n. -/
def PlaySt.setTip (p : PlaySt) (n : Nat) : Bool := p.item (n * 1024 + 513) = 1

/-- FORMAT of a mode word. -/
def modeFormat (m : Nat) : Nat := bits m 0 3
/-- CMP_MODE of a mode word. -/
def modeWindow (m : Nat) : Bool := bitAt m 3
/-- NCO_SEL of a mode word. -/
def modeNco (m : Nat) : Nat := bits m 4 3

/-- The edges that a format and compare mode use (R174, R178, R183, R185). -/
def edgesUsed (m : Nat) : List Nat :=
  let f := modeFormat m
  [0, 1] ++ (if 1 ≤ f && f ≤ 4 then [2] else []) ++ [3, 4] ++ (if modeWindow m || f = 4 then [5] else [])

/-- Where an edge written as `e` lies at the ball (R176). -/
def ballEdge (tip : Bool) (delay edge e : Nat) : Int := if !tip then e else if edge < 4 then (e : Int) - delay else e + delay

/-- The first cause of R174 that a lane of a set fails; 0 where it passes. -/
def laneCheck (tip : Bool) (delay period : Nat) (m : Nat) (e : Nat → Nat) : Nat :=
  let f := modeFormat m
  let used := edgesUsed m
  let ball k := ballEdge tip delay k (e k)
  let ret := used.contains 2
  let close := used.contains 5
  if 6 ≤ f then 2
  else if used.any fun k => ball k ≥ 2 * period then 3
  else if tip && used.any fun k => k < 4 && e k < delay then 4
  else if e 0 > e 1 || (ret && e 1 ≥ e 2) || (close && e 4 ≥ e 5) then 5
  else if modeWindow m && f ≠ 4 && e 5 < e 4 + 32 then 6
  else if modeWindow m && f = 4 then 7
  else 0

/-- The instance of TS_LANE_EDGE of edge e of lane i. -/
def edgeInst (t i e : Nat) : Nat := (64 * t + i) * 6 + e

/-- The mode word staged for lane i. -/
def State.stagedMode (s : State) (t i : Nat) : Nat :=
  s.rd R.TS_LANE_MODE.FORMAT (64 * t + i) + 8 * s.rd R.TS_LANE_MODE.CMP_MODE (64 * t + i) + 16 * s.rd R.TS_LANE_MODE.NCO_SEL (64 * t + i)

/-- The check of the staged set (R174): CAUSE and DETAIL. -/
def State.setCheck (s : State) (t : Nat) (tip : Bool) : Nat × Nat :=
  let coarse := s.rd R.TS_STAGE_PERIOD.COARSE t
  let period := 128 * coarse + s.rd R.TS_STAGE_PERIOD.FINE t
  if coarse < 8 then (1, 0) else
  match (List.range 64).find? fun i => laneCheck tip (s.laneDecl (64 * t + i)).delay period (s.stagedMode t i) (fun e => s.rd R.TS_LANE_EDGE.EDGE (edgeInst t i e)) ≠ 0 with
  | some i => (laneCheck tip (s.laneDecl (64 * t + i)).delay period (s.stagedMode t i) (fun e => s.rd R.TS_LANE_EDGE.EDGE (edgeInst t i e)), i)
  | none => (0, 0)

/-- The staged content as items of set n. -/
def State.stagedItems (s : State) (t n : Nat) (tip : Nat) : List (Nat × Nat) :=
  ((List.range 64).flatMap fun i => (List.range 7).map fun w =>
    (n * 1024 + 8 * i + w, if w < 6 then s.rd R.TS_LANE_EDGE.EDGE (edgeInst t i w) else s.stagedMode t i)) ++
  [(n * 1024 + 512, 128 * s.rd R.TS_STAGE_PERIOD.COARSE t + s.rd R.TS_STAGE_PERIOD.FINE t), (n * 1024 + 513, tip)]

/-- A commit begins (R171): the set and its TIP_REF are those of the write. -/
def State.commitBegin (s : State) (t : Nat) : State :=
  (s.setPlay t { s.play t with commit := (s.rd R.TS_COMMIT.SET t, s.rd R.TS_COMMIT.TIP_REF t) }).wr R.TS_COMMIT.STATUS t 1

/-- A set is copied into the staging window as it was written (R172). -/
def State.setFetch (s : State) (t n : Nat) : State :=
  let p := s.play t
  let s := s.each (List.range 64) fun s i =>
    let s := s.each (List.range 6) fun s e => s.wr R.TS_LANE_EDGE.EDGE (edgeInst t i e) (p.setWord n i e)
    let m := p.setWord n i 6
    ((s.wr R.TS_LANE_MODE.FORMAT (64 * t + i) (modeFormat m)).wb R.TS_LANE_MODE.CMP_MODE (64 * t + i) (modeWindow m)).wr R.TS_LANE_MODE.NCO_SEL (64 * t + i) (modeNco m)
  ((s.wr R.TS_STAGE_PERIOD.COARSE t (p.setPeriod n / 128)).wr R.TS_STAGE_PERIOD.FINE t (p.setPeriod n % 128)).wb R.TS_COMMIT.TIP_REF t (p.setTip n)

/-- The write of TS_COMMIT (R171, R172): a COMMIT or FETCH while busy is refused; after a COMMIT the staging window is busy, so a FETCH in the same write finds it so. [log DEDUCED 42] -/
def tsCommitHook : Hook := fun _ t w be s =>
  let commit := R.TS_COMMIT.COMMIT.acts w be
  let fetch := R.TS_COMMIT.FETCH.acts w be
  if s.rd R.TS_COMMIT.STATUS t = 1 && (commit || fetch) then (s, true)
  else
    let (s, _) := writeWord .TS_COMMIT t w be s
    if commit then (s.commitBegin t, fetch)
    else if fetch then (s.setFetch t (s.rd R.TS_COMMIT.SET t), false)
    else (s, false)

/-- TS_COMMIT: a write of TS_COMMIT with COMMIT = 1. -/
def execTsCommit (rq : Req) (t : Fin 16) (w : Word) (s : State) : Out' := writeRow rq .TS_COMMIT t.val (Nat.lor w.toNat 32) tsCommitHook s

/-- TS_FETCH: a write of TS_COMMIT with FETCH = 1. -/
def execTsFetch (rq : Req) (t : Fin 16) (w : Word) (s : State) : Out' := writeRow rq .TS_COMMIT t.val (Nat.lor w.toNat 64) tsCommitHook s

/-- TS_COMMIT_DONE: the check ends; the set is copied in or rejected, and the tile's check-done source is raised (R171, R174, R409). -/
def execTsCommitDone (t : Fin 16) (s : State) : Out' :=
  done s fun s =>
    let t := t.val
    if s.rd R.TS_COMMIT.STATUS t ≠ 1 then s else
    let (n, tip) := (s.play t).commit
    let (cause, detail) := s.setCheck t (tip = 1)
    let s := ((s.wr R.TS_COMMIT.CAUSE t cause).wr R.TS_COMMIT.DETAIL t detail).wr R.TS_COMMIT.STATUS t (if cause = 0 then 2 else 3)
    let s := s.when (cause = 0) fun s =>
      s.setPlay t { s.play t with sets := (s.stagedItems t n tip).foldl (fun m e => smSet (setDefault e.1) m e.1 e.2) (s.play t).sets }
    s.raise (64 + 16 * t + 11)

/-- A write of the staging window (R171): discarded while a commit is in progress. [log DEDUCED 43] -/
def tsStageHook (r : Reg) : Hook := fun _ i w be s => if s.rd R.TS_COMMIT.STATUS (i / r.inner) = 1 then (s, true) else writeWord r i w be s

/-- An NCO after reset. -/
def NcoSt.idle : NcoSt := ⟨0, 0, 0, 0x8000, 0⟩

/-- NCO k of a tile. -/
def PlaySt.nco (p : PlaySt) (k : Nat) : NcoSt := smGet .idle p.ncos k

/-- NCO k of a tile replaced. -/
def PlaySt.setNco (p : PlaySt) (k : Nat) (x : NcoSt) : PlaySt := { p with ncos := smSet .idle p.ncos k x }

/-- FTW of NCO k as committed (R193). -/
def State.ncoFtw (s : State) (t k : Nat) : Nat := s.rd R.TS_NCO_FTW_LO.FTW_LO (8 * t + k) + 2 ^ 32 * s.rd R.TS_NCO_FTW_HI.FTW_HI (8 * t + k)

/-- PHASE_INIT of NCO k. -/
def State.ncoPhase (s : State) (t k : Nat) : Nat := s.rd R.TS_NCO_PHASE_LO.PHASE_LO (8 * t + k) + 2 ^ 32 * s.rd R.TS_NCO_PHASE_HI.PHASE_HI (8 * t + k)

/-- The committed FTW and DUTY come into force (R193). -/
def State.ncoSync (s : State) (t k : Nat) : State :=
  s.setPlay t ((s.play t).setNco k { (s.play t).nco k with ftw := s.ncoFtw t k, duty := s.rd R.TS_NCO_CTL.DUTY (8 * t + k) })

/-- A new origin of NCO k (R192). -/
def State.ncoOrigin (s : State) (t k at' : Nat) : State := s.setPlay t ((s.play t).setNco k { (s.play t).nco k with origin := at', phase := s.ncoPhase t k })

/-- The write of TS_NCO_FTW_LO: it stages the low half (R193). [log DEDUCED 44] -/
def ncoLoHook : Hook := fun _ i w be s =>
  if R.TS_NCO_FTW_LO.FTW_LO.enabled be then (s.setPlay (i / 8) ((s.play (i / 8)).setNco (i % 8) { (s.play (i / 8)).nco (i % 8) with stagedLo := w }), false) else (s, false)

/-- The write of TS_NCO_FTW_HI: it commits both halves (R193). -/
def ncoHiHook : Hook := fun _ i w be s =>
  if !R.TS_NCO_FTW_HI.FTW_HI.enabled be then (s, false) else
  let t := i / 8
  let s := (s.wr R.TS_NCO_FTW_LO.FTW_LO i ((s.play t).nco (i % 8)).stagedLo).wr R.TS_NCO_FTW_HI.FTW_HI i (R.TS_NCO_FTW_HI.FTW_HI.part w)
  (if (s.play t).playing then s else s.ncoSync t (i % 8), false)

/-- The write of TS_NCO_CTL: DUTY acts at the next vector boundary (R193). -/
def ncoCtlHook : Hook := fun _ i w be s =>
  let (s, r) := writeWord .TS_NCO_CTL i w be s
  (if (s.play (i / 8)).playing then s else s.ncoSync (i / 8) (i % 8), r)

/-- NCO_FTW_COMMIT: a write of TS_NCO_FTW_HI. -/
def execNcoFtwCommit (rq : Req) (t : Fin 16) (k : Fin 8) (w : Word) (s : State) : Out' := writeRow rq .TS_NCO_FTW_HI (8 * t.val + k.val) w.toNat ncoHiHook s

/-- The phase of an NCO at a time from the tile's origin, times 1,024 (R190). -/
def NcoSt.phaseAt (x : NcoSt) (tap : Nat) : Nat := (x.phase * 1024 + x.ftw * (tap - x.origin)) % 2 ^ 58

/-- The output of an NCO at a time (R190). -/
def NcoSt.high (x : NcoSt) (tap : Nat) : Bool := x.phaseAt tap < x.duty * 2 ^ 42

/-- The transitions of an NCO at the exact times in [a, b), in the order of those times: a rise where the phase completes a turn and a fall DUTY later, each
rounded to the nearest tap (R191). -/
def NcoSt.transitions (x : NcoSt) (a b : Nat) : List (Nat × Bool) :=
  if x.ftw = 0 || x.duty = 0 then [] else
  let p := x.phase * 1024
  let lo := p + x.ftw * (a - x.origin)
  let hi := p + x.ftw * (b - x.origin)
  let turns := (List.range (hi / 2 ^ 58 - lo / 2 ^ 58 + 1)).map (lo / 2 ^ 58 + ·)
  ((turns.flatMap fun m => [(m * 2 ^ 58, true), (m * 2 ^ 58 + x.duty * 2 ^ 42, false)]).filter fun e => lo ≤ e.1 && e.1 < hi).map fun e =>
    (x.origin + (2 * (e.1 - p) + x.ftw) / (2 * x.ftw), e.2)

/-- The order of edges at the ball (R179): by time; drive edges before samples; an earlier vector first; then by kind; edges alike in all of these in the order in which they
were placed (R191). -/
def Edge.before (a b : Edge) : Bool :=
  let c (e : Edge) : Nat := if 8 ≤ e.kind then 1 else 0
  if a.at' ≠ b.at' then a.at' < b.at' else if c a ≠ c b then c a < c b else if a.vec ≠ b.vec then a.vec < b.vec else a.kind < b.kind

/-- An edge placed among those of a lane. -/
def placeEdge (e : Edge) : List Edge → List Edge
  | [] => [e]
  | x :: xs => if e.before x then e :: x :: xs else x :: placeEdge e xs

/-- An edge of lane L placed. -/
def State.place' (s : State) (l : Nat) (e : Edge) : State := s.setLane l { s.lane l with edges := placeEdge e (s.lane l).edges }

/-- EDGE_DROP (R180). -/
def State.edgeDrop (s : State) (t : Nat) : State := (s.wr R.TS_STATUS.EDGE_DROP t 1).bump R.TS_DROP_COUNT.EDGE_DROP t 1

/-- The least interval between driver transitions of a swing class in taps (R117). -/
def swingInterval (c : Nat) : Nat := [512, 1024, 4096].getD c 4096

/-- The driver of lane L would change to `new` at a time (R117, R180, R603): true where it does, false where the change is dropped. A lane whose driver cannot
reach the ball changes with no transition. -/
def State.transition (s : State) (l new at' : Nat) : State × Bool :=
  let x := s.lane l
  if x.drv = new || (x.drv = 0 && new = 1) || !s.laneOn l || s.forced l || x.tripOff || s.safeHeld l then (s.setLane l { x with drv := new }, true)
  else
    let used := if x.window = at' / 1024 then x.slots else 0
    let fast := match x.trans with | some p => at' < p + swingInterval x.swing | none => false
    let s := s.when fast (·.wr R.LANE_STATUS.OVERSPEED l 1)
    if used ≥ 2 then (s.edgeDrop (l / 64), false)
    else (s.setLane l { x with drv := new, window := at' / 1024, slots := used + 1, trans := some at' }, true)

/-- The 20 % to 80 % transition time of a drive edge into 50 Ω, in ps, by EDGE_RATE (R115). -/
def edgeRatePs (code : Nat) : Nat := [85, 100, 120, 145, 175, 210, 250, 300, 360, 430, 520, 620, 750, 1000, 1400, 2000].getD code 0

/-- What the device adds to a placed edge of a lane (R116, R182): the delay trim of the active front end for the edge type, and for a drive edge the correction of the EDGE_RATE
in force. [log DEDUCED 115] -/
def State.edgeTrim (s : State) (l edge : Nat) : Int :=
  let t := s.trim 4 (2 * l + s.rd R.LANE_FE.ACTIVE_FE l)
  t.getD edge 0 + (if edge < 4 then t.getD (6 + s.leff R.LANE_DRV_CTL.EDGE_RATE l) 0 else 0)

/-- When the front end launches, or samples for, an edge that lies at ball time `at'`: with its trims, which cancel the front end's own delays and leave the ball time as
placed (R116, R118, R182). [log DEDUCED 115] -/
def State.launchAt (s : State) (l edge at' : Nat) : Int := at' + s.edgeTrim l edge

/-- The driver state and last data level after one drive edge (R178, R183, R603). -/
def driveEdge (e : Edge) (drv : Nat) (last : Bool) : Nat × Bool :=
  let lvl (b : Bool) : Nat := if b then 3 else 2
  match e.kind with
  | 0 => (if 2 ≤ drv then drv else lvl (if e.data then last else e.level), last)
  | 3 => (if drv = 0 then 0 else 1, last)
  | 4 => (if 2 ≤ drv then lvl e.level else drv, last)
  | 5 => (if drv = 0 then 1 else drv, last)
  | _ => (if 2 ≤ drv then lvl e.level else drv, if e.data then e.level else last)

/-- The drive edges of a lane at one time act together (R114, R179): only the state after the last of them reaches the ball, and under an override none does. -/
def State.driveEdges (s : State) (l at' : Nat) (es : List Edge) : State :=
  if es.isEmpty then s else
  let x := s.lane l
  let (drv, last) := es.foldl (fun a e => driveEdge e a.1 a.2) (x.want, x.last)
  if s.leff R.LANE_CTL.OVERRIDE l ≠ 0 then s.setLane l { x with want := drv, last := last } else
  let s := s.when (es.any fun e => e.kind = 0) fun s => s.when (s.forced l || x.tripOff) (·.wr R.LANE_STATUS.DRIVE_BLOCKED l 1)
  let (s, ok) := s.transition l drv at'
  if ok then s.setLane l { s.lane l with want := drv, last := last } else s

/-- A compare edge takes one of the two compare slots of its window (R180). -/
def State.cmpSlot (s : State) (l at' : Nat) : State × Bool :=
  let x := s.lane l
  let used := if x.cmpWindow = at' / 1024 then x.cmpSlots else 0
  if used ≥ 2 then (s.edgeDrop (l / 64), false) else (s.setLane l { x with cmpWindow := at' / 1024, cmpSlots := used + 1 }, true)

/-- The ball instant of a reference point in taps of the time base: the start edge, the 40 VCLK of R27 and R_n. [log DEDUCED 38] -/
def PlaySt.instant (p : PlaySt) (r : Nat) : Nat := p.start + 40960 + r

/-- A compare of a vector of the run in progress. -/
def State.jobOf (s : State) (l vec : Nat) (j : CmpJob) : Bool := j.vec = vec && j.origin = (s.play (l / 64)).instant 0

/-- The job of a lane in a vector changed. -/
def State.modJob (s : State) (l vec : Nat) (f : CmpJob → CmpJob) : State :=
  s.setLane l { s.lane l with jobs := (s.lane l).jobs.map fun j => if s.jobOf l vec j then f j else j }

/-- A strobe, or the opening of a window, finds the comparators as they are settled (R295). -/
def CmpJob.strobe (j : CmpJob) (x : LaneSt) : CmpJob := { j with unH := x.unsetH, unL := x.unsetL, allH := x.unsetH, allL := x.unsetL }

/-- A compare edge acts (R180, R184, R185, R187, R295). -/
def State.cmpEdge (s : State) (l : Nat) (e : Edge) : State :=
  match (s.lane l).jobs.find? (s.jobOf l e.vec) with
  | none => s
  | some j =>
    let (s, ok) := s.cmpSlot l e.at'
    let x := s.lane l
    if !j.window then
      s.modJob l e.vec fun j => if !ok then { j with dropped := true } else if e.kind = 8 then j.strobe x else { j with unH2 := x.unsetH, unL2 := x.unsetL }
    else if e.kind = 8 then
      if !ok then s.modJob l e.vec fun j => { j with dropped := true }
      else
        let open' := (s.lane l).jobs.any fun j => j.isOpen
        let s := s.setLane l { s.lane l with jobs := (s.lane l).jobs.map fun j => if j.isOpen then { j with isOpen := false, closeAt := e.at' } else j }
        let s := s.when open' fun s => (s.wr R.TS_STATUS.WINDOW_TRUNC (l / 64) 1).bump R.TS_DROP_COUNT.WINDOW_TRUNC (l / 64) 1
        s.modJob l e.vec fun j => { j.strobe x with isOpen := true }
    else if !j.isOpen then s
    else if ok then s.modJob l e.vec fun j => { j with isOpen := false }
    else s.modJob l e.vec fun j => { j with dropped := true }

/-- The lane-state sample of a capture takes the comparator outputs of a lane (R202, R384). -/
def State.capEdge (s : State) (l : Nat) (e : Edge) : State :=
  let t := l / 64
  let i := l % 64
  let x := s.lane l
  let p := s.play t
  s.setPlay t { p with caps := p.caps.map fun c => if c.cycle = e.vec && c.left ≠ 0 then { c with left := c.left - 1, ch := c.ch + b2n x.ch * 2 ^ i, cl := c.cl + b2n x.cl * 2 ^ i } else c }

/-- The edges at the head of a lane's list that share its first time. -/
def headTime : List Edge → List Edge
  | [] => []
  | e :: es => e :: es.takeWhile fun x => x.at' = e.at'

/-- The placed edges of a lane before a time act in order (R177, R179). -/
def State.laneEdges (s : State) (l limit : Nat) : Nat → State
  | 0 => s
  | n + 1 =>
    match (s.lane l).edges with
    | [] => s
    | e :: _ =>
      if e.at' ≥ limit then s else
      let now := headTime (s.lane l).edges
      let s := s.setLane l { s.lane l with edges := (s.lane l).edges.drop now.length }
      let s := s.driveEdges l e.at' (now.filter fun x => x.kind < 8)
      let s := (now.filter fun x => 8 ≤ x.kind).foldl (fun s x => if x.kind = 10 then s.capEdge l x else s.cmpEdge l x) s
      s.laneEdges l limit n

/-- Every placed edge of a lane before a time acts. -/
def State.laneFlush (s : State) (l limit : Nat) : State := s.laneEdges l limit (s.lane l).edges.length

/-- The override of a lane at a vector boundary (R114): a change of the driver's state, into an override or out of it to what the vectors ask for, is one transition
there. -/
def State.overrideAt (s : State) (l at' : Nat) : State :=
  let v := s.leff R.LANE_CTL.OVERRIDE l
  if v = 0 then (if (s.lane l).drv = (s.lane l).want then s else (s.transition l (s.lane l).want at').1) else
  let s := s.when (2 ≤ v && (s.forced l || (s.lane l).tripOff)) (·.wr R.LANE_STATUS.DRIVE_BLOCKED l 1)
  if (s.lane l).drv = v then s else (s.transition l v at').1

end Sys2Proof.Machine
end

