-- ==== Sys2Proof/Machine/Compare.lean ====
section
/-! DEFINITION. Compare results, fail counters, site flags and the fail log (R291 to R309, R604). The state of a site is kept under the number of its
lowest lane, which is its home tile and slot together. -/

namespace Sys2Proof.Machine

/-- The lowest set bit of a mask below 256. -/
def lowBit (m : Nat) : Nat := ((List.range 256).find? fun j => bitAt m j).getD 0

/-- The home slot of a site: its lowest global lane (R299). -/
def SiteDecl.home (d : SiteDecl) : Nat := 256 * d.quad + lowBit d.mask

/-- The site that a slot serves; none where VALID is 0. -/
def State.slotSite (s : State) (slot : Nat) : Option SiteDecl := s.sites.find? fun d => d.home = slot

/-- The site declared under a number. -/
def State.siteNo (s : State) (n : Nat) : Option SiteDecl := s.sites.find? fun d => d.site = n

/-- A masked site (R299). -/
def State.siteMasked (s : State) (d : SiteDecl) : Bool := s.fl R.CMP_SITE_STATUS.MASKED_FIRST d.home || s.fl R.CMP_SITE_CTL.CMP_OFF d.home

/-- The truth table of R293 on H1, H0, L1, L0, the bits 3 to 0 of `v`; the expectation is 0 L, 1 H, 2 M, 3 V. -/
def judge (expect v : Nat) : Bool :=
  let h1 := bitAt v 3
  let h0 := bitAt v 2
  let l1 := bitAt v 1
  let l0 := bitAt v 0
  match expect with
  | 0 => l1 && h0
  | 1 => h1 && l0
  | 2 => h0 && l0
  | _ => (h1 && l0) || (l1 && h0)

/-- H1, H0, L1, L0 with the outputs that R125 holds at 0: an output held at any instant was not 1 throughout, and one held at every instant was 0 throughout (R185, R295). -/
def gated (v : Nat) (unH unL allH allL : Bool) : Nat :=
  8 * b2n (bitAt v 3 && !unH) + 4 * b2n (bitAt v 2 || allH) + 2 * b2n (bitAt v 1 && !unL) + b2n (bitAt v 0 || allL)

/-- A comparator was unsettled at a strobe or within the window (R295). -/
def CmpJob.unsettled (j : CmpJob) : Bool := j.unH || j.unL || j.unH2 || j.unL2

/-- The result of a compare: fail is true (R180, R185, R293, R295, R296). -/
def CmpJob.fails (j : CmpJob) (v v2 : Nat) : Bool :=
  j.dropped || !judge (if j.dnrz then b2n (j.expect = 1) else j.expect) (gated v j.unH j.unL j.allH j.allL) ||
    (j.dnrz && !judge (b2n (j.expect1 = 1)) (gated v2 j.unH2 j.unL2 j.unH2 j.unL2))

/-- The VCLK cycle in which the result reaches the compare logic: 24 VCLK after the last edge of the compare (R28). [log DESIGN CHOICE 120] -/
def CmpJob.arrival (j : CmpJob) : Nat := (j.origin + j.closeAt) / 1024 + 24

/-- FF_VA, and VA_SEG of a record (R307). -/
def VecRec.vaSeg (x : VecRec) : Nat := x.va % 2 ^ 21 + x.seg % 2048 * 2 ^ 21

/-- INFO [28:0] of a record (R307). -/
def VecRec.info (x : VecRec) : Nat := x.pass % 2 ^ 20 + (if x.streamed then x.slot % 256 else 0) * 2 ^ 20 + b2n x.streamed * 2 ^ 28

/-- The ball instant of a vector's reference point. -/
def VecRec.instant (x : VecRec) : Nat := x.origin + x.refPoint

/-- A result of a tile reaches the home slot of a site, and FAIL set there reaches the tile, this many VCLK later (R300). -/
def SiteDecl.hop (d : SiteDecl) (t : Nat) : Nat := if t = d.home / 64 then 0 else 2

/-- What set FAIL of a site: the VCLK cycle plus 1, the instant of its vector, and its tile; zeros before a fail. -/
def State.siteAt (s : State) (d : SiteDecl) : Nat × Nat × Nat := smGet (0, 0, 0) (s.play (d.home / 64)).siteAt (d.home % 64)

/-- A site is masked for a result that arrives in a tile in a VCLK cycle: by CMP_OFF, or from the cycle after the tile has seen the first fail (R299, R300). [log DESIGN CHOICE 120] -/
def State.maskedAt (s : State) (d : SiteDecl) (t arrival : Nat) : Bool :=
  s.fl R.CMP_SITE_CTL.CMP_OFF d.home || (s.fl R.CMP_SITE_STATUS.MASKED_FIRST d.home && (s.siteAt d).1 + d.hop t ≤ arrival)

/-- The first-fail record of a site (R301). -/
def State.firstRecord (s : State) (d : SiteDecl) (t : Nat) (x : VecRec) (at' : Nat) : State :=
  let h := d.home
  let s := s.setPlay (h / 64) { s.play (h / 64) with siteAt := smSet (0, 0, 0) (s.play (h / 64)).siteAt (h % 64) (at' + 1, x.instant, t) }
  let s := ((s.wr R.CMP_SITE_FF_LO.FF_CYCLE_LO h x.cycle).wr R.CMP_SITE_FF_HI.FF_CYCLE_HI h (x.cycle / 2 ^ 32)).wr R.CMP_SITE_FF_HI.FF_TILE h t
  (s.wr R.CMP_SITE_FF_VA.VA_SEG h x.vaSeg).wr R.CMP_SITE_FF_INFO.PASS_SLOT h (x.info % 2 ^ 28)

/-- FAIL of a site changes from 0 to 1 in a VCLK cycle of its home slot (R299, R301, R302). -/
def State.siteFail (s : State) (d : SiteDecl) (t : Nat) (x : VecRec) (at' : Nat) : State :=
  let h := d.home
  let s := (s.wr R.CMP_SITE_STATUS.FAIL h 1).firstRecord d t x at'
  let s := s.when (s.fl R.CMP_SITE_CTL.MASK_ON_FIRST h) (·.wr R.CMP_SITE_STATUS.MASKED_FIRST h 1)
  s.raiseD (64 + 16 * (h / 64) + 2) d.site

/-- The order of R301: the home slot's VCLK cycle plus 1, then the instant of the vector, then the tile. -/
def siteEarlier (a b : Nat × Nat × Nat) : Bool :=
  if a.1 ≠ b.1 then a.1 < b.1 else if a.2.1 ≠ b.2.1 then a.2.1 < b.2.1 else a.2.2 < b.2.2

/-- The fail that another one precedes is no longer the one that set FAIL (R301, R305). -/
def State.unFirst (s : State) (site tile instant : Nat) : State :=
  s.setPlay tile { s.play tile with vecs := (s.play tile).vecs.map fun v =>
    if v.instant = instant then { v with fails := v.fails.map fun e => if e.site = site then { e with first := false } else e } else v }

/-- A fail reaches the home slot of its site in a VCLK cycle: the first one, or one that precedes the fail recorded (R300, R301); true where it is the one that sets FAIL. [log DESIGN CHOICE 120] -/
def State.siteFirst (s : State) (d : SiteDecl) (t : Nat) (x : VecRec) (at' : Nat) : State × Bool :=
  let was := s.siteAt d
  if !s.fl R.CMP_SITE_STATUS.FAIL d.home then (s.siteFail d t x at', true)
  else if siteEarlier (at' + 1, x.instant, t) was then ((s.unFirst d.site was.2.2 was.2.1).firstRecord d t x at', true)
  else (s, false)

/-- The record of a vector changed. -/
def State.modVec (s : State) (t : Nat) (x : VecRec) (f : VecRec → VecRec) : State :=
  s.setPlay t { s.play t with vecs := (s.play t).vecs.map fun v => if v.cycle = x.cycle && v.origin = x.origin then f v else v }

/-- A fail joins the fails of its site in a vector. -/
def addFail (l : List SiteFail) (site lane : Nat) (first : Bool) : List SiteFail :=
  if l.any (·.site = site) then l.map fun e => if e.site = site then { e with mask := Nat.lor e.mask (2 ^ lane), first := e.first || first } else e
  else l ++ [⟨site, 2 ^ lane, first⟩]

/-- A fail of lane L in a vector, that reaches its tile's compare logic in a VCLK cycle, counts (R297, R299). -/
def State.countFail (s : State) (l : Nat) (d : SiteDecl) (x : VecRec) (arrival : Nat) : State :=
  let t := l / 64
  let s := (s.bump R.CMP_LANE_FAIL.FAILS l 1).wr R.CMP_STATUS.TILE_FAIL t 1
  let s := s.when (!x.counted) (·.bump R.CMP_TILE_FAILS.FAILS t 1)
  let s := s.when (!x.fails.any (·.site = d.site)) (·.bump R.CMP_SITE_FAILV.FAIL_VECTORS d.home 1)
  let (s, first) := s.siteFirst d t x (arrival + d.hop t)
  s.modVec t x fun v => { v with counted := true, fails := addFail v.fails d.site (l % 64) first }

/-- A result reaches the compare logic in a VCLK cycle (R28, R267, R291, R295, R300, R303). -/
def State.result (s : State) (l : Nat) (x : VecRec) (fail unsettled : Bool) (arrival : Nat) : State :=
  match s.siteOf l with
  | none => s
  | some d =>
    let t := l / 64
    if s.maskedAt d t arrival then s else
    let s := s.when unsettled fun s => (s.wr R.CMP_STATUS.UNSETTLED_CMP t 1).modVec t x fun v => { v with unsettled := true }
    let p := s.play t
    let s := s.when (fail && p.passNo = x.passNo) fun s => s.setPlay t { s.play t with passFail := true }
    if !fail || x.isMatch then s else s.countFail l d x arrival

/-- A result of a compare of a lane is outstanding, in a vector. -/
def State.vecWaits (s : State) (t : Nat) (x : VecRec) (p : CmpJob → Bool) : Bool :=
  (List.range 64).any fun i => (s.lane (64 * t + i)).jobs.any fun j => j.vec = x.cycle && j.origin = x.origin && p j

/-- Vectors whose records are formed and whose last result has come are done with. -/
def State.vecsDone (s : State) (t : Nat) : State :=
  s.setPlay t { s.play t with vecs := (s.play t).vecs.filter fun x => !x.formed || s.vecWaits t x fun _ => true }

/-- The compare of a lane whose result comes next: the oldest one that no dropped close holds open, once the vectors read lie past its end (R28, R180); with it the state in
which every edge of the lane up to that end has acted. -/
def State.compareDue (s : State) (l : Nat) : Option (State × CmpJob) :=
  let t := l / 64
  let now (s : State) (j : CmpJob) : Bool := (s.play t).playing && j.origin = (s.play t).instant 0
  let held (s : State) (j : CmpJob) : Bool := j.isOpen && j.dropped && now s j
  match (s.lane l).jobs.find? fun j => !held s j with
  | none => none
  | some j =>
    if now s j && (s.play t).refPoint ≤ j.closeAt then none else
    let s := s.when (j.origin = (s.play t).instant 0) (·.laneFlush l (j.closeAt + 1))
    ((s.lane l).jobs.find? fun k => k.vec = j.vec && k.origin = j.origin && !held s k).map fun j => (s, j)

/-- The record of the vector of a compare. -/
def State.vecOf (s : State) (t : Nat) (j : CmpJob) : Option VecRec := (s.play t).vecs.find? fun x => x.cycle = j.vec && x.origin = j.origin

/-- COMPARE_RESULT: the result of the oldest compare of a lane whose strobe or window has ended (R28, R180, R293). Operand `h` is H1, H0 and `lo` is L1, L0, each as bits 1
and 0, as the settled outputs gave them; `v2` is H1, H0, L1, L0 of the second strobe of a DNRZ lane. [log DEDUCED 45] -/
def execCompareResult (l : Fin 1024) (h lo v2 : Nat) (s : State) : Out' :=
  done s fun s =>
    let l := l.val
    match s.compareDue l with
    | none => s
    | some (s, j) =>
      let s := s.setLane l { s.lane l with jobs := (s.lane l).jobs.filter fun k => !(k.vec = j.vec && k.origin = j.origin) }
      match s.vecOf (l / 64) j with
      | none => s
      | some x => (s.result l x (j.fails (4 * h + lo) v2) j.unsettled j.arrival).vecsDone (l / 64)

/-- N: the records that the log area holds (R308). -/
def State.logSize (s : State) (t : Nat) : Nat := 2048 * s.rd R.CMP_LOG_AREA.BLOCKS t

/-- The 32 bytes of a record (R307), its quality bits 0 until it is written. -/
def failRecord (x : VecRec) (e : SiteFail) (gap mark : Bool) : List Nat :=
  leBytes 8 (if mark then 0 else e.mask) ++ leBytes 6 x.cycle ++ [e.site, if mark then 0x0F else 0x01] ++ leBytes 4 x.vaSeg ++
  leBytes 4 (x.info + b2n e.first * 2 ^ 29 + b2n x.unsettled * 2 ^ 30 + b2n gap * 2 ^ 31) ++ leBytes 8 (x.time.getD 0)

/-- A record arrives at the fail log (R308): counted as lost, buffered, or displaced by the overflow mark. -/
def State.logRecord (s : State) (t : Nat) (x : VecRec) (e : SiteFail) : State :=
  let p := s.play t
  if !s.fl R.CMP_LOG_CTL.ARMED t then s.when (s.fl R.CMP_LOG_STATUS.FULL t) (·.bump R.CMP_LOG_LOST.LOST t 1)
  else if p.log.length ≥ 8 then (s.bump R.CMP_LOG_LOST.LOST t 1).setPlay t { p with logGap := true }
  else
    let mark := s.rd R.CMP_LOG_STATUS.WPTR t + p.log.length + 1 ≥ s.logSize t
    let s := s.setPlay t { p with log := p.log ++ [failRecord x e p.logGap mark], logGap := false }
    s.when mark fun s => ((s.wr R.CMP_LOG_STATUS.FULL t 1).wr R.CMP_LOG_CTL.ARMED t 0).raise (64 + 16 * t + 3)

/-- A list of site fails in ascending site number. -/
def insertSite (e : SiteFail) : List SiteFail → List SiteFail
  | [] => [e]
  | x :: xs => if e.site ≤ x.site then e :: x :: xs else x :: insertSite e xs

/-- The fails of a vector that are logged (R305). -/
def State.logged (s : State) (t : Nat) (e : SiteFail) : Bool :=
  let m := s.rd R.CMP_LOG_CTL.MODE t
  (m = 1 || (m = 2 && e.first)) && match s.siteNo e.site with | some d => s.fl R.CMP_SITE_CTL.LOG_EN d.home | none => false

/-- FAIL_RECORD_FORM: the records of the oldest vector are formed, once the clock has passed it and every result of it has arrived (R604). [log DEDUCED 45] -/
def execFailRecordForm (t : Fin 16) (s : State) : Out' :=
  done s fun s =>
    let t := t.val
    match (s.play t).vecs.find? fun x => !x.formed with
    | none => s
    | some x =>
      if x.time.isNone || s.vecWaits t x fun j => !(j.isOpen && j.dropped) then s else
      let s := (s.modVec t x fun v => { v with formed := true }).vecsDone t
      ((x.fails.foldr insertSite []).filter (s.logged t)).foldl (fun s e => s.logRecord t x e) s

/-- FAIL_LOG_WRITE: the oldest buffered record is written at WPTR with the quality of the moment (R14, R306, R309); writes that waited behind it follow (R30). -/
def execFailLogWrite (t : Fin 16) (s : State) : Out' :=
  done s fun s =>
    let t := t.val
    match (s.play t).log with
    | [] => s
    | b :: rest =>
      let w := s.rd R.CMP_LOG_STATUS.WPTR t
      let bytes := b.take 24 ++ [b.getD 24 0 / 4 * 4 + s.quality] ++ b.drop 25
      let s := s.setPlay t { s.play t with log := rest }
      let s := (s.capPut (s.rd R.CMP_LOG_AREA.BASE t * 65536 + 32 * w) bytes).wr R.CMP_LOG_STATUS.WPTR t (w + 1)
      s.each (List.range 16) State.acqFlush

/-- FAIL, the first-fail record and MASKED_FIRST of a site cleared (R299). -/
def State.clearFail (s : State) (h : Nat) : State :=
  let s := s.setPlay (h / 64) { s.play (h / 64) with siteAt := smSet (0, 0, 0) (s.play (h / 64)).siteAt (h % 64) (0, 0, 0) }
  [R.CMP_SITE_STATUS.FAIL, R.CMP_SITE_STATUS.MASKED_FIRST, R.CMP_SITE_FF_LO.FF_CYCLE_LO, R.CMP_SITE_FF_HI.FF_CYCLE_HI, R.CMP_SITE_FF_HI.FF_TILE, R.CMP_SITE_FF_VA.VA_SEG,
    R.CMP_SITE_FF_INFO.PASS_SLOT].foldl (fun s f => s.wr f h 0) s

/-- The slots of a tile that serve a site. -/
def State.tileSlots (s : State) (t : Nat) : List Nat := ((List.range 64).map (64 * t + ·)).filter fun h => (s.slotSite h).isSome

/-- The write of CMP_CTL (R298). -/
def cmpCtlHook : Hook := fun _ t w be => Fx.of fun s =>
  s.when (R.CMP_CTL.CLEAR_ALL.acts w be) fun s =>
    let s := s.each (List.range 64) fun s i => s.wr R.CMP_LANE_FAIL.FAILS (64 * t + i) 0
    let s := (s.wr R.CMP_TILE_FAILS.FAILS t 0).wr R.CMP_STATUS.TILE_FAIL t 0
    s.each (s.tileSlots t) fun s h => ((s.clearFail h).wr R.CMP_SITE_STATUS.TIMING_BROKEN h 0).wr R.CMP_SITE_FAILV.FAIL_VECTORS h 0

/-- CLEAR_ALL: a write of CMP_CTL with CLEAR_ALL = 1. -/
def execClearAll (rq : Req) (t : Fin 16) (s : State) : Out' := writeRow rq .CMP_CTL t.val 1 cmpCtlHook s

/-- The write of CMP_SITE_CTL (R299): a slot that serves no site discards it. -/
def siteCtlHook : Hook := fun _ h w be s =>
  if (s.slotSite h).isNone then (s, true) else
  let (s, r) := writeWord .CMP_SITE_CTL h w be s
  let s := s.when (R.CMP_SITE_CTL.CLEAR_FAIL.acts w be) (·.clearFail h)
  (s.when (R.CMP_SITE_CTL.CLEAR_TB.acts w be) (·.wr R.CMP_SITE_STATUS.TIMING_BROKEN h 0), r)

/-- CLEAR_FAIL: a write of CMP_SITE_CTL with CLEAR_FAIL = 1. -/
def execClearFail (rq : Req) (t : Fin 16) (slot : Fin 64) (w : Word) (s : State) : Out' :=
  writeRow rq .CMP_SITE_CTL (64 * t.val + slot.val) (Nat.lor w.toNat 8) siteCtlHook s

/-- CLEAR_TB: a write of CMP_SITE_CTL with CLEAR_TB = 1. -/
def execClearTb (rq : Req) (t : Fin 16) (slot : Fin 64) (w : Word) (s : State) : Out' :=
  writeRow rq .CMP_SITE_CTL (64 * t.val + slot.val) (Nat.lor w.toNat 16) siteCtlHook s

/-- The log area lies in blocks that the tile's saggar holds (R304, R477). -/
def State.logAreaOk (s : State) (t base blocks : Nat) : Bool := s.areaOk (s.tileOwner t) base blocks

/-- The write of CMP_LOG_CTL (R306, R477): an ARM while the tile plays discards the write; one whose area is no longer held is refused with AREA_REFUSED. -/
def logCtlHook : Hook := fun _ t w be s =>
  let arm := R.CMP_LOG_CTL.ARM.acts w be
  let disarm := R.CMP_LOG_CTL.DISARM.acts w be
  if arm && (s.play t).playing then (s, true)
  else if arm && !s.logAreaOk t (s.rd R.CMP_LOG_AREA.BASE t) (s.rd R.CMP_LOG_AREA.BLOCKS t) then (s.wr R.CMP_LOG_STATUS.AREA_REFUSED t 1, true)
  else
    let (s, r) := writeWord .CMP_LOG_CTL t w be s
    let s := s.when (disarm || arm) fun s => (s.setPlay t { s.play t with log := [], logGap := false }).wr R.CMP_LOG_CTL.ARMED t 0
    (s.when arm fun s => ((s.wr R.CMP_LOG_STATUS.WPTR t 0).wr R.CMP_LOG_STATUS.FULL t 0).wr R.CMP_LOG_CTL.ARMED t 1, r)

/-- LOG_ARM: a write of CMP_LOG_CTL with ARM = 1. -/
def execLogArm (rq : Req) (t : Fin 16) (w : Word) (s : State) : Out' := writeRow rq .CMP_LOG_CTL t.val (Nat.lor w.toNat 4) logCtlHook s

/-- LOG_DISARM: a write of CMP_LOG_CTL with DISARM = 1. -/
def execLogDisarm (rq : Req) (t : Fin 16) (w : Word) (s : State) : Out' := writeRow rq .CMP_LOG_CTL t.val (Nat.lor w.toNat 8) logCtlHook s

/-- The write of CMP_LOG_AREA (R304). -/
def logAreaHook : Hook := fun _ t w be s =>
  if s.fl R.CMP_LOG_CTL.ARMED t || !s.logAreaOk t (s.newv R.CMP_LOG_AREA.BASE t w be) (s.newv R.CMP_LOG_AREA.BLOCKS t w be) then (s.wr R.CMP_LOG_STATUS.AREA_REFUSED t 1, true)
  else writeWord .CMP_LOG_AREA t w be s

/-- LOG_AREA_WRITE: a write of CMP_LOG_AREA. -/
def execLogAreaWrite (rq : Req) (t : Fin 16) (w : Word) (s : State) : Out' := writeRow rq .CMP_LOG_AREA t.val w.toNat logAreaHook s

/-- Lane-state samples that are whole and timed go to the acquisition unit, in order (R384). -/
def State.capsOut (s : State) (t : Nat) : State :=
  let (out, rest) := (s.play t).caps.span fun c => c.left = 0 && c.time.isSome
  if out.isEmpty then s else
  out.foldl (fun s c => s.acqLanes t ⟨c.time.getD 0, 0, 0, 0, false, false, c.ch, c.cl, c.mask, c.cycle⟩) (s.setPlay t { s.play t with caps := rest })

/-- Vectors and lane-state samples whose instant the tick that ends has passed take their time (R307, R385); the clock is the one before the tick. -/
def State.playTick (s : State) (t : Nat) : State :=
  let p := s.play t
  let past (r : Nat) : Bool := r / 2048 ≤ s.clock.tick
  let full (r : Nat) : Nat := s.clock.after (r - s.clock.tick * 2048)
  let ns (r : Nat) : Nat := full r / 65536
  if p.vecs.isEmpty && p.caps.isEmpty then s else
  let s := s.setPlay t { p with
    vecs := p.vecs.map fun v => if v.time.isNone && past v.instant then { v with time := some (compact (ns v.instant / 1000000000) (ns v.instant % 1000000000) 0) } else v
    caps := p.caps.map fun c => if c.time.isNone && past (c.origin + c.refPoint) then { c with time := some (full (c.origin + c.refPoint)) } else c }
  s.capsOut t

end Sys2Proof.Machine
end

