-- ==== Sys2Proof/Machine/Tdc.lean ====
section
/-! DEFINITION. Time-interval counters (R355 to R367): arming, edges, results and where they go. -/

namespace Sys2Proof.Machine

/-- The quadrant carries a personality in LEGACY (R568). -/
def State.persona (s : State) (q : Nat) : Bool :=
  match s.m.mode, s.image with
  | .legacy, some im => bitAt im.personalities q
  | _, _ => false

/-- The circuit that serves logical TDC i: its own, or the spare brought in for it (R355). -/
def State.tdcPhys (s : State) (i : Nat) : Nat :=
  match [64, 65, 66, 67].find? fun k => s.fl R.TDC_SPARE_STATUS.ASSIGNED k && s.rd R.TDC_SPARE_STATUS.REPLACED k = i with
  | some k => k
  | none => i

/-- Logical TDC i has no usable circuit (R554). -/
def State.tdcGone (s : State) (i : Nat) : Bool := s.unavailable (place 5 (s.tdcPhys i))

/-- The reference is missing, in holdover or unlocked now (R363). -/
def State.unreferenced (s : State) : Bool := !s.fl R.DEV_CLK.REF_PRESENT 0 || s.fl R.DEV_CLK.HOLDOVER 0 || !s.fl R.DEV_CLK.PLL_LOCKED 0

/-- The bin trims of the circuit have completed a calibration. -/
def State.calibrated (s : State) (kind u : Nat) : Bool := (s.targets.find? fun e => e.1 = kind * 65536 + u).isSome

/-- UNCAL (R363): the trims of the circuit, or the quadrant of a comparator source, are uncalibrated. -/
def State.tdcUncal (s : State) (i : Nat) : Bool :=
  let mode := s.rd R.TDC_CFG.MODE i
  let lane := s.rd R.TDC_CFG.START_SRC i < 0x80 || ((mode = 0 || mode = 3) && s.rd R.TDC_CFG.STOP_SRC i < 0x80)
  !s.calibrated 2 (s.tdcPhys i) || (lane && !s.fl R.CAL_STATUS.FIRST_DONE (i / 16))

/-- An arm (R360): a measurement in progress is discarded; a TDC without a circuit ignores it (R554). -/
def State.tdcArm (s : State) (i : Nat) : State :=
  if s.tdcGone i then s else
  let s := s.calTouch 2 (s.tdcPhys i)
  ((s.setTdc i { s.tdc i with start := none, edges := 0, fresh := true, early := none }).wr R.TDC_CTL.ARMED i 1).wr R.TDC_CTL.STARTED i 0

/-- A disarm (R360). -/
def State.tdcDisarm (s : State) (i : Nat) : State :=
  ((s.setTdc i { s.tdc i with start := none, edges := 0, fresh := false, early := none }).wr R.TDC_CTL.ARMED i 0).wr R.TDC_CTL.STARTED i 0

/-- The write of TDC_CTL (R360): a disarm comes before an arm (R225); an arm of a TDC without a circuit discards the write (R554, R599). -/
def tdcCtlHook : Hook := fun _ i w be s =>
  if R.TDC_CTL.ARM.acts w be && s.tdcGone i then (s, true) else
  let s := s.when (R.TDC_CTL.DISARM.acts w be) (·.tdcDisarm i)
  (s.when (R.TDC_CTL.ARM.acts w be) (·.tdcArm i), false)

/-- TDC_ARM: a write of TDC_CTL with ARM = 1. -/
def execTdcArm (rq : Req) (i : Fin 68) (w : Word) (s : State) : Out' := writeRow rq .TDC_CTL i.val (Nat.lor w.toNat 1) tdcCtlHook s

/-- TDC_DISARM: a write of TDC_CTL with DISARM = 1. -/
def execTdcDisarm (rq : Req) (i : Fin 68) (w : Word) (s : State) : Out' := writeRow rq .TDC_CTL i.val (Nat.lor w.toNat 2) tdcCtlHook s

/-- A source code of R357 that is not reserved. -/
def tdcSrcOk (c : Nat) : Bool := c ≤ 0x84 || (0x88 ≤ c && c ≤ 0x8B)

/-- The write of TDC_CFG (R357). -/
def tdcCfgHook : Hook := fun _ i w be s =>
  if tdcSrcOk (s.newv R.TDC_CFG.START_SRC i w be) && tdcSrcOk (s.newv R.TDC_CFG.STOP_SRC i w be) then writeWord .TDC_CFG i w be s else (s, true)

/-- The write of TDC_CTX (R365). -/
def tdcCtxHook : Hook := fun _ i w be s =>
  let c := s.newv R.TDC_CTX.CTX i w be
  if i < 64 && (s.tileOwner (i / 4)).isSome && s.grpOwner (c / 256) = s.tileOwner (i / 4) then writeWord .TDC_CTX i w be s else (s, true)

/-- A result reaches the host FIFO, or is lost (R366, R367). -/
def State.tdcPush (s : State) (i : Nat) (r : TdcRes) : State :=
  let x := s.tdc i
  if x.fifo.length < 16 then
    let s := (s.setTdc i { x with fifo := x.fifo ++ [r] }).wr R.TDC_CTL.FIFO_COUNT i (x.fifo.length + 1)
    s.when (!s.fl R.TDC_CFG.CONT i) (·.raise (896 + i))
  else
    let first := s.rd R.TDC_COUNT.LOST i = 0
    (s.bump R.TDC_COUNT.LOST i 1).when first (·.raise (896 + i))

/-- A result (R360 to R367): VALUE, its SUB_BIN, OVERRANGE and FEW_EDGES flags, and COUNT; the dead time begins. The stop edge or the gate close lies `u` units of
2^-16 ns after the last time tick. -/
def State.tdcResult (s : State) (i value : Nat) (sub over' few : Bool) (count u : Nat) : State :=
  let x := s.tdc i
  let mode := s.rd R.TDC_CFG.MODE i
  let unref := x.unref || s.unreferenced
  let uncal := s.tdcUncal i
  let flags := b2n sub + 2 * b2n unref + 4 * b2n uncal + 8 * b2n over' + 16 * b2n few + 32 * mode
  let r : TdcRes := ⟨value, flags, count, s.stampAfter u⟩
  let s := (s.setTdc i { x with start := none, edges := 0, unref := false, dead := true, fresh := false, early := none }).wr R.TDC_CTL.STARTED i 0
  let s := s.when (!s.fl R.TDC_CFG.CONT i) (·.wr R.TDC_CTL.ARMED i 0)
  let dest := if s.persona (i / 16) then 0 else s.rd R.TDC_CFG.DEST i
  let s := s.when (dest = 0 || dest = 2) (·.tdcPush i r)
  let c := s.rd R.TDC_CTX.CTX i
  let s := s.when (dest = 1 || dest = 2) fun s =>
    if few then (if s.ctxState c = 2 then s.setCtx c { s.ctx c with excluded := min ((s.ctx c).excluded + 1) 65535 } else s)
    else s.toContext ⟨264 + i, c, value, 2 * b2n sub + 4 * b2n unref + 8 * b2n uncal + 64 * b2n over', 3 * 65536 + mode⟩
  s.acqTdc i value (s.clock.near + u)

/-- Where a bin lies after its time tick, in 2^-16 ns: a tick holds 256 bins of 8 taps (R356, R385). [log DEDUCED 127] -/
def binUnits (bin : Nat) : Nat := 640 * (bin % 256)

/-- The interval to a stop at `bin` (R356, R362). -/
def State.tdcStop (s : State) (i start bin : Nat) : State :=
  let v := bin - start
  if v ≥ 2 ^ 44 then s.tdcResult i (2 ^ 44 - 1) false true false 1 (binUnits bin) else s.tdcResult i v (v = 0) false false 1 (binUnits bin)

/-- The gate of a FREQUENCY measurement closes, `u` units of 2^-16 ns after the last time tick (R359). -/
def State.tdcClose (s : State) (i u : Nat) : State :=
  let x := s.tdc i
  if x.edges < 2 then s.tdcResult i 0 false false true 0 u
  else
    let c := x.edges - 1
    let v := (divEven (256 * (x.last - x.first : Nat)) c).toNat
    if v > 2 ^ 47 - 1 then s.tdcResult i (2 ^ 47 - 1) false true false c u else s.tdcResult i v false false false c u

/-- The TDC takes an edge now: it is armed, routed to a tile, and its dead time is over (R361). -/
def State.tdcLive (s : State) (i : Nat) : Bool := i < 64 && s.fl R.TDC_CTL.ARMED i && !(s.tdc i).dead && !s.tdcGone i

/-- A START_EDGE of START_SRC in bin `bin` (R358 to R362). -/
def State.tdcStartAt (s : State) (i bin : Nat) : State :=
  if !s.tdcLive i then s else
  let x := s.tdc i
  let mode := s.rd R.TDC_CFG.MODE i
  match x.start with
  | none =>
    let y := { x with start := some bin, edges := 0, unref := s.unreferenced, early := none }
    let s' := (s.setTdc i y).wr R.TDC_CTL.STARTED i 1
    match x.early with
    | some (b, counted) =>
      if mode = 0 && b = bin then
        (s'.when counted fun s => s.wr R.TDC_COUNT.EARLY_STOP i (s.rd R.TDC_COUNT.EARLY_STOP i - 1)).tdcStop i bin bin
      else s'
    | none => s'
  | some st =>
    if mode = 0 then s.bump R.TDC_COUNT.RESTART i 1
    else if mode = 1 then s.tdcStop i st bin
    else s

/-- A stop edge in bin `bin` (R358 to R362): of STOP_SRC, or in WIDTH mode the opposite edge of START_SRC. PERIOD takes none. -/
def State.tdcStopAt (s : State) (i bin : Nat) : State :=
  if !s.tdcLive i || s.rd R.TDC_CFG.MODE i = 1 then s else
  let x := s.tdc i
  let mode := s.rd R.TDC_CFG.MODE i
  match x.start with
  | none =>
    if mode = 0 then
      let counted := s.rd R.TDC_COUNT.EARLY_STOP i < 255
      (s.setTdc i { x with early := some (bin, counted) }).bump R.TDC_COUNT.EARLY_STOP i 1
    else s
  | some st =>
    if mode = 3 then
      let y := { x with first := if x.edges = 0 then bin else x.first, last := bin, edges := x.edges + 1 }
      let s := s.setTdc i y
      if y.edges - 1 = 2 ^ 24 - 1 then s.tdcClose i (binUnits bin) else s
    else s.tdcStop i st bin

/-- A source can present an edge (R357): a comparator output only once it is settled (R125, R126), a sequencer signal only a rising one. -/
def State.edgeSeen (s : State) (i src : Nat) (falling : Bool) : Bool :=
  if src < 0x40 then !(s.lane (64 * (i / 4) + src)).unsetH
  else if src < 0x80 then !(s.lane (64 * (i / 4) + src - 0x40)).unsetL
  else if 0x88 ≤ src then !falling
  else true

/-- The source and the edge that stop a measurement: those of STOP_SRC, or in WIDTH mode the opposite edge of START_SRC (R358). -/
def State.stopOf (s : State) (i : Nat) : Nat × Bool :=
  if s.rd R.TDC_CFG.MODE i = 2 then (s.rd R.TDC_CFG.START_SRC i, !s.fl R.TDC_CFG.START_EDGE i) else (s.rd R.TDC_CFG.STOP_SRC i, s.fl R.TDC_CFG.STOP_EDGE i)

/-- TDC_START_EDGE: a START_EDGE of START_SRC in bin `bin` (R357 to R362). -/
def execTdcStartEdge (i : Fin 68) (bin : Nat) (s : State) : Out' :=
  done s fun s => if s.edgeSeen i (s.rd R.TDC_CFG.START_SRC i) (s.fl R.TDC_CFG.START_EDGE i) then s.tdcStartAt i bin else s

/-- TDC_STOP_EDGE: a stop edge in bin `bin` (R357 to R362). -/
def execTdcStopEdge (i : Fin 68) (bin : Nat) (s : State) : Out' :=
  done s fun s => if s.edgeSeen i (s.stopOf i).1 (s.stopOf i).2 then s.tdcStopAt i bin else s

/-- An edge of a source of the device itself, a timed output or a sequencer signal, reaches the TDCs of a list that select it (R357). Where it both starts and
stops, it starts first (R362). [log DEDUCED 127] -/
def State.tdcPresent (s : State) (is : List Nat) (src : Nat) (falling : Bool) (bin : Nat) : State :=
  s.each is fun s i =>
    let s := s.when (s.rd R.TDC_CFG.START_SRC i = src && s.fl R.TDC_CFG.START_EDGE i == falling) (·.tdcStartAt i bin)
    s.when (s.stopOf i = (src, falling)) (·.tdcStopAt i bin)

/-- TDC_GATE_CLOSE: the gate of a FREQUENCY measurement closes (R358, R359). -/
def execTdcGateClose (i : Fin 68) (s : State) : Out' :=
  done s fun s => if s.tdcLive i.val && s.rd R.TDC_CFG.MODE i.val = 3 && (s.tdc i.val).start.isSome then s.tdcClose i.val 0 else s

/-- TDC_OVERRANGE: no stop has come within 2^44 bins of the start (R362). -/
def execTdcOverrange (i : Fin 68) (s : State) : Out' :=
  done s fun s =>
    if s.tdcLive i.val && s.rd R.TDC_CFG.MODE i.val ≠ 3 && (s.tdc i.val).start.isSome then s.tdcResult i.val (2 ^ 44 - 1) false true false 1 0 else s

/-- TDC_DEAD_TIME_END: 100 ns after a stop the TDC takes edges again (R361). -/
def execTdcDeadTimeEnd (i : Fin 68) (s : State) : Out' := done s fun s => s.setTdc i.val { s.tdc i.val with dead := false }

/-- The read of TDC_RES_LO (R366): the oldest result is removed and latched; a read of an empty FIFO returns 0. -/
def State.tdcRead (s : State) (i : Nat) : State × Nat :=
  let x := s.tdc i
  match x.fifo with
  | [] => (s.wr R.TDC_RES_HI.VALID i 0, 0)
  | r :: rest =>
    let s := (s.setTdc i { x with fifo := rest }).wr R.TDC_CTL.FIFO_COUNT i rest.length
    let s := (s.wr R.TDC_RES_LO.VALUE_LO i r.value).wr R.TDC_RES_HI.VALUE_HI i (r.value / 2 ^ 32)
    let s := (((s.wb R.TDC_RES_HI.SUB_BIN i (bitAt r.flags 0)).wb R.TDC_RES_HI.UNREFERENCED i (bitAt r.flags 1)).wb R.TDC_RES_HI.UNCAL i (bitAt r.flags 2)).wb R.TDC_RES_HI.OVERRANGE i (bitAt r.flags 3)
    let s := ((s.wb R.TDC_RES_HI.FEW_EDGES i (bitAt r.flags 4)).wr R.TDC_RES_HI.MODE i (r.flags / 32)).wr R.TDC_RES_HI.VALID i 1
    (((s.wr R.TDC_RES_COUNT.COUNT i r.count).wr R.TDC_RES_TIME_LO.TIME_LO i r.time).wr R.TDC_RES_TIME_HI.TIME_HI i (r.time / 2 ^ 32), r.value % 2 ^ 32)

/-- A measurement in progress has seen the reference missing (R363). -/
def State.tdcUnref (s : State) : State :=
  s.each (List.range 64) fun s i => if (s.tdc i).start.isSome then s.setTdc i { s.tdc i with unref := true } else s

end Sys2Proof.Machine
end

