-- ==== Sys2Proof/Machine/Play.lean ====
section
/-! DEFINITION. Segments, loops and streaming (R261 to R289), condition sources (R229), and the read of a vector: its row, its codes, its edges
and compares (R168, R178, R188 to R214). -/

namespace Sys2Proof.Machine

/-- Segment-table entry n as its 128 bits (R262). -/
def State.entry (s : State) (t n : Nat) : Nat := smGet 0 (s.store t).segs n

/-- START of an entry. -/
def enStart (e : Nat) : Nat := bits e 0 21
/-- ENC of an entry. -/
def enEnc (e : Nat) : Nat := bits e 21 2
/-- RES of an entry: STREAMED. -/
def enStreamed (e : Nat) : Bool := bitAt e 23
/-- STARVE of an entry: ABORT. -/
def enAbort (e : Nat) : Bool := bitAt e 24
/-- PHASE_RESET of an entry. -/
def enPhase (e : Nat) : Bool := bitAt e 25
/-- GAP_ELIG of an entry. -/
def enGap (e : Nat) : Bool := bitAt e 26
/-- TSET_EN of an entry. -/
def enTsetEn (e : Nat) : Bool := bitAt e 27
/-- VALID of an entry. -/
def enValid (e : Nat) : Bool := bitAt e 31
/-- LENGTH of an entry. -/
def enLength (e : Nat) : Nat := bits e 32 21
/-- TSET of an entry. -/
def enTset (e : Nat) : Nat := bits e 53 5
/-- COND of an entry. -/
def enCond (e : Nat) : Nat := bits e 58 6
/-- REPEAT of an entry. -/
def enRepeat (e : Nat) : Nat := bits e 64 20
/-- HOLD_NANO of an entry. -/
def enHold (e : Nat) : Nat := bits e 84 12
/-- NEXT of an entry. -/
def enNext (e : Nat) : Nat := bits e 96 11
/-- NEXT_EN of an entry. -/
def enNextEn (e : Nat) : Bool := bitAt e 107
/-- JUMP of an entry. -/
def enJump (e : Nat) : Nat := bits e 108 11
/-- JUMP_EN of an entry. -/
def enJumpEn (e : Nat) : Bool := bitAt e 119
/-- MODE of an entry. -/
def enMode (e : Nat) : Nat := bits e 120 2
/-- POL of an entry. -/
def enPol (e : Nat) : Bool := bitAt e 122
/-- CSEL of an entry. -/
def enCsel (e : Nat) : Bool := bitAt e 123

/-- The step of an encoding (R263). -/
def encStep (enc : Nat) : Nat := if enc = 1 then 2 else if enc = 2 then 1 else 4

/-- The present entry of a tile. -/
def State.curEntry (s : State) (t : Nat) : Nat := s.entry t (s.rd R.SEG_STATUS.CUR_SEG t)

/-- Timed output n is at its active level: source TEV[n] is true for the WIDTH ticks after a firing, whatever POL says (R229, R451). -/
def State.tevActive (s : State) (n : Nat) : Bool :=
  match s.time.tevs.find? fun e => e.1 = n with | some e => e.2.pulse ≠ 0 | none => false
/-- The level of ball TEV[n]: none is high impedance, at a thermal trip and while a rail holds the outputs; driven low in SAFE, LOAD and SERVICE; else
active high with POL = 0 and active low with POL = 1 (R89, R97, R451). -/
def State.tevBall (s : State) (n : Nat) : Option Bool :=
  if s.m.trip || s.lockout then none
  else if s.m.mode = .safe || s.m.mode = .load || s.m.mode = .service then some false
  else some (s.tevActive n != s.fl R.TEV_CFG.POL n)

/-- Slot NEXT_SLOT is ready with the tag that the next streamed pass requires (R282). -/
def State.slotReady (s : State) (t : Nat) : Bool :=
  let n := slotInst' t (s.rd R.SEG_RING_STATUS.NEXT_SLOT t)
  s.slotCount t ≠ 0 && s.fl R.SEG_SLOT.READY n && s.rd R.SEG_SLOT.TAG n = s.rd R.SEG_RING_STATUS.NEXT_TAG t

/-- The value of a condition source that a tile's sequencer shares with no other kind (R229). -/
def State.tileCond (s : State) (t n : Nat) : Bool :=
  if n ≤ 5 then
    match s.siteNo (bits (s.rd R.SEQ_SITE_SEL.SITE t) (8 * (n - 2)) 8) with
    | some d => s.octOwner (d.home / 8) = s.tileOwner t && s.fl R.CMP_SITE_STATUS.FAIL d.home
    | none => false
  else if n = 6 then s.fl R.CMP_STATUS.TILE_FAIL t
  else if n = 7 then s.fl R.SEG_STATUS.MATCH t
  else if n < 24 then (List.range 8).any fun j => s.fl R.LANE_MON.LATCH (64 * t + 8 * (n - 16) + j)
  else if n = 24 then (s.play t).queue.isEmpty
  else if n = 25 then (s.play t).queue.length = 4
  else if n = 26 then (s.play t).phase = .seg
  else if n = 27 then s.slotReady t
  else if n = 28 then (s.play t).phase = .hold && (s.play t).starved
  else if n < 38 then s.fl R.TDC_CTL.ARMED (4 * t + (n - 34)) && (s.tdc (4 * t + (n - 34))).fresh
  else if n < 44 then bitAt (s.play t).user (n - 38)
  else if n = 44 then s.rd R.ACQ_CTL.STATE t = 2
  else if n = 45 then (s.acq t).triggered
  else if n = 51 then (match (s.cal (t / 4)).cur with | some (k, u) => k = 4 && u / 128 = t | none => false) || (List.range 64).any fun j => (s.lane (64 * t + j)).handover.any fun h => h.why = 1 && h.started
  else (List.range 36).any fun d => (if d < 32 then d / 8 else d - 32) = t / 4 && s.dpsOwner d = s.tileOwner t && (s.fl R.DPS_STATUS.MON_I_LATCH d || s.fl R.DPS_STATUS.MON_V_LATCH d)

/-- The events routed to a sequencer: 16 is the housekeeping one. -/
def State.seqEvents (s : State) (q : Nat) : List Nat := s.pendingFor q

/-- The value of a condition source as sequencer q sees it (R229, R259). -/
def State.cond (s : State) (q n : Nat) : Bool :=
  if n = 0 then false
  else if n = 1 then true
  else if 8 ≤ n && n < 16 then s.rd R.SEQ_CNT.VALUE (8 * q + (n - 8)) = 0
  else if n = 29 then !(s.seqEvents q).isEmpty
  else if n = 30 then (s.seq q).timedOut
  else if n = 31 then (s.seq q).woke
  else if n = 32 then s.fl R.SEQ_STATUS.IN_FLIGHT q
  else if n = 33 then (s.seq q).refused
  else if 46 ≤ n && n < 50 then s.tevActive (n - 46)
  else if n = 50 then s.fl R.DEV_CLK.REF_PRESENT 0
  else if 52 ≤ n && n < 60 then bitAt (s.rd R.SEQ_HOST_FLAGS.FLAGS q) (n - 52)
  else if q = 16 then n = 61 && (s.seq 16).tick ≠ 0
  else if 61 ≤ n then false
  else s.tileCond q n

/-- PHASE, QUEUE_COUNT, COMMITTED, SUCC_SEG and PENDING follow the engine; STARVATION follows the hold (R285, R409). -/
def State.segSync (s : State) (t : Nat) : State :=
  let p := s.play t
  let ph := match p.phase with | .stopped => 0 | .seg => 1 | .idle => 2 | .wait => 2 | .hold => 3
  let s := (s.wr R.SEG_STATUS.PHASE t ph).wr R.SEG_STATUS.QUEUE_COUNT t p.queue.length
  let s := (s.wb R.SEG_STATUS.COMMITTED t p.succ.isSome).wr R.SEG_STATUS.SUCC_SEG t (match p.succ with | some x => x.entry | none => 0)
  (s.wb R.SEG_JUMP.PENDING t p.jump.isSome).live (64 + 16 * t + 5) (p.phase = .hold && p.starved)

/-- The readiness check of the stream ring (R282): the wrong tag is reported once for each check. -/
def State.ringCheck (s : State) (t : Nat) : State × Bool :=
  let n := slotInst' t (s.rd R.SEG_RING_STATUS.NEXT_SLOT t)
  if s.slotReady t then (s, true)
  else if s.slotCount t ≠ 0 && s.fl R.SEG_SLOT.READY n then
    (((s.wr R.SEG_STATUS.TAG_ERROR t 1).bump R.SEG_COUNT2.TAG_ERRORS t 1).raise (64 + 16 * t + 7), false)
  else (s, false)

/-- A streamed pass is fixed: its slot, and the ring moves on (R279). -/
def State.ringTake (s : State) (t : Nat) : State × Nat :=
  let n := s.rd R.SEG_RING_STATUS.NEXT_SLOT t
  ((s.wr R.SEG_RING_STATUS.NEXT_SLOT t ((n + 1) % s.slotCount t)).wr R.SEG_RING_STATUS.NEXT_TAG t (s.rd R.SEG_RING_STATUS.NEXT_TAG t + 1), n)

/-- A starving pass under ABORT stops the tile at the end of the segment or pass (R284); the group stops with it (R288). -/
def State.abortMark (s : State) (t : Nat) : State := s.setPlay t { s.play t with stopAt := 3 }

/-- The interruption of a tile that waits for its successor: a hold while one starves, else idle (R273, R284). -/
def PlaySt.interrupted (p : PlaySt) : PlaySt :=
  if (p.phase = .idle || p.phase = .hold) && !p.samePass then
    { p with phase := if p.starving.isSome then .hold else .idle, starved := p.starved && p.starving.isSome }
  else p

/-- An entry is chosen as the successor: fixed, or starving when its first pass is not ready (R268, R282, R284). -/
def State.choose (s : State) (t entry : Nat) (queued : Bool) : State :=
  let e := s.entry t entry
  let s := s.setPlay t { s.play t with starving := none }
  if enStreamed e then
    let (s, ok) := s.ringCheck t
    if ok then
      let (s, n) := s.ringTake t
      s.setPlay t { (s.play t).interrupted with succ := some ⟨entry, queued, some n⟩, go := false }
    else if enAbort e then s.abortMark t
    else s.setPlay t { s.play t with starving := some ⟨entry, queued, none⟩ }.interrupted
  else s.setPlay t { (s.play t).interrupted with succ := some ⟨entry, queued, none⟩, go := false }

/-- The pending jump request is consumed (R271). -/
def State.takeJump (s : State) (t : Nat) : State :=
  match (s.play t).jump with
  | none => s
  | some (n, flush) => (s.setPlay t { s.play t with jump := none, queue := if flush then [] else (s.play t).queue }).choose t n false

/-- The commit point: the successor of the present segment (R268); `cond` is a true COND_JUMP condition. -/
def State.commitPoint (s : State) (t : Nat) (cond : Bool) : State :=
  let e := s.curEntry t
  let p := s.play t
  if p.jump.isSome then s.takeJump t
  else if enMode e = 2 && cond then s.choose t (enJump e) false
  else if enMode e = 1 && !s.fl R.SEG_STATUS.MATCH t && enJumpEn e then s.choose t (enJump e) false
  else if enNextEn e then s.choose t (enNext e) false
  else match p.queue with
    | n :: _ => s.choose t n true
    | [] => s

/-- The decision point of a pass (R265, R266, R267, R282). -/
def State.decide' (s : State) (t : Nat) : State :=
  let e := s.curEntry t
  let p := s.play t
  let value := if enCsel e then s.cond t (enCond e) else !p.passFail
  let cond := (enMode e = 1 || enMode e = 2) && value == enPol e
  let atEnd : Bool := s.rd R.SEG_ITER.PASS t = enRepeat e
  let final := if enMode e = 1 then cond || atEnd
    else if enStreamed e then (atEnd && enRepeat e ≠ 0xFFFFF) || s.fl R.SEG_SLOT.LAST (slotInst' t p.slot) else atEnd
  if final then
    let s := s.when (enMode e = 1) fun s =>
      let s := s.wb R.SEG_STATUS.MATCH t cond
      s.when (!cond) fun s => (s.bump R.SEG_COUNT2.MATCH_TIMEOUT t 1).raise (64 + 16 * t + 4)
    (s.setPlay t { s.play t with isFinal := true }).commitPoint t cond
  else if enStreamed e then
    let (s, ok) := s.ringCheck t
    if ok then let (s, n) := s.ringTake t; s.setPlay t { s.play t with nextSlot := some n }
    else if enAbort e then s.abortMark t
    else s.setPlay t { s.play t with samePass := true }
  else s.setPlay t { s.play t with nextSlot := some 0 }

/-- A starving pass is checked again (R284): once ready it is fixed. -/
def State.recheck (s : State) (t : Nat) : State :=
  let p := s.play t
  let playingOn := p.phase = .seg
  match p.starving with
  | some x =>
    let (s, ok) := s.ringCheck t
    if ok then
      let (s, n) := s.ringTake t
      s.setPlay t { s.play t with starving := none, succ := some { x with slot := some n }, go := playingOn }
    else s
  | none =>
    if p.samePass && p.nextSlot.isNone then
      let (s, ok) := s.ringCheck t
      if ok then
        let (s, n) := s.ringTake t
        s.setPlay t { s.play t with nextSlot := some n, samePass := !playingOn, go := false }
      else s
    else s

/-- A slot is released (R280): READY and PLAYING clear. -/
def State.slotFree (s : State) (t n : Nat) : State :=
  ((s.wr R.SEG_SLOT.READY (slotInst' t n) 0).wr R.SEG_SLOT.PLAYING (slotInst' t n) 0).ringLow t false

/-- One tap past the last placed edge of a lane. -/
def LaneSt.afterEdges (x : LaneSt) : Nat := x.edges.foldl (fun a e => max a (e.at' + 1)) 0

/-- The return of a tile's lanes to IDLE_STATE (R181): every placed edge acts first. A lane whose trip ignores that state shows DRIVE_BLOCKED (R119). -/
def State.idleReturn (s : State) (t : Nat) : State :=
  let s := (List.range 64).foldl (fun s i =>
    let l := 64 * t + i
    if s.lane l = .idle then s else
    let s := s.laneFlush l (s.lane l).afterEdges
    (s.setLane l { s.lane l with drv := 0, want := 0, window := 0, slots := 0, cmpWindow := 0, cmpSlots := 0, trans := none }).blockedCheck l) s
  s.capsOut t

/-- The engine of a tile stops (R237, R238, R280): no further vector is read, the queue empties, and a pass cut short releases its slot. -/
def State.engineStop (s : State) (t : Nat) : State :=
  let p := s.play t
  if !p.playing then s else
  let s := s.when (enStreamed (s.curEntry t) && s.fl R.SEG_SLOT.PLAYING (slotInst' t p.slot)) (·.slotFree t p.slot)
  let s := s.setPlay t { s.play t with playing := false, phase := .stopped, queue := [], succ := none, starving := none, nextSlot := none, samePass := false, go := false, stopAt := 0, starved := false, groupAt := none, isFinal := false }
  (s.boundaryWrites t).segSync t

/-- A sequencer becomes STOPPED (R238, R409, R417). -/
def State.seqStopped (s : State) (q : Nat) : State :=
  if s.halted q || s.rd R.SEQ_STATUS.STATE q = 0 then s else
  let s := (s.wr R.SEQ_STATUS.STATE q 0).setSeq q { s.seq q with waiting := none, draining := false, vsync := false }
  let s := s.releaseHolder q
  if q < 16 then s.raise (64 + 16 * q + 10) else s

/-- A tile stops and its sequencer dozes. -/
def State.tileStop (s : State) (t : Nat) : State := (s.engineStop t).seqStopped t

/-- A request to stop joins the one that a tile holds: an abort stays one, and the end of the tile's own segment comes before a shared boundary. -/
def PlaySt.stopBy (p : PlaySt) (k : Nat) : PlaySt := if p.stopAt = 3 || (k = 4 && p.stopAt = 2) then p else { p with stopAt := k }

/-- The tile is inside a segment: vectors of a pass are left, or another pass is to come, a hold for it included (R265, R284). -/
def State.inSegment (s : State) (t : Nat) : Bool :=
  let p := s.play t
  p.samePass || (p.phase = .seg && (!p.isFinal || p.idx < enLength (s.curEntry t)))

/-- The members of a tile's lockstep group that play, itself among them. -/
def State.playMates (s : State) (t : Nat) : List Nat := (s.group t).filter fun m => (s.play m).playing

/-- A member stops with its group: at the end of the segment it plays, at the boundary G where it waits, and at once where its segment has just ended or it
has read no vector (R33, R288). -/
def State.memberStop (s : State) (m : Nat) : State :=
  let p := s.play m
  if !p.playing then s
  else if !p.fresh && (s.inSegment m || p.phase ≠ .seg) then s.setPlay m (p.stopBy 2)
  else s.tileStop m

/-- The other members of a lockstep group stop (R33, R288). -/
def State.groupStop (s : State) (t : Nat) : State := s.each ((s.group t).filter (· ≠ t)) State.memberStop

/-- A stop at the next segment boundary, or at the next shared boundary of a lockstep group (R23, R86). A tile in an interruption stands at one. -/
def State.stopAtBoundary (s : State) (t : Nat) : State :=
  let ms := s.playMates t
  if !(s.play t).playing then s
  else if 2 ≤ ms.length then s.each ms fun s m => s.setPlay m ((s.play m).stopBy 4)
  else if s.inSegment t then s.setPlay t ((s.play t).stopBy 2)
  else s.tileStop t

/-- The other members after a machine check of one: they stop at their next shared boundary (R33). -/
def State.groupCheckStop (s : State) (t : Nat) : State :=
  s.each ((s.group t).filter (· ≠ t)) fun s m => s.when (s.play m).playing fun s => s.setPlay m ((s.play m).stopBy 4)

/-- STOP with DRAIN = 0 (R26, R237, R288): a tile alone stops at its next vector boundary; the members of a lockstep group each at the end of their segment,
or at G, and a member that holds for a later pass at once, since such a STOP ends a HOLD (R284). -/
def State.stopNow (s : State) (t : Nat) : State :=
  let ms := s.playMates t
  if ms.length ≤ 1 then s.tileStop t
  else
    let s := s.setPlay t { s.play t with queue := [] }
    s.each ms fun s m => if (s.play m).samePass && (s.play m).phase = .hold then s.tileStop m else s.memberStop m

/-- ABORT stops the tile (R284). -/
def State.abortStop (s : State) (t : Nat) : State := (((s.bump R.SEG_COUNT.STARVE t 1).wr R.SEG_STATUS.ABORTED t 1).tileStop t).groupStop t

/-- The last vector of a pass has been read: the slot is released, and the segment ends or the next pass follows (R265, R273, R280, R284). -/
def State.passEnd (s : State) (t : Nat) : State :=
  let e := s.curEntry t
  let s := s.when (enStreamed e) (·.slotFree t (s.play t).slot)
  let p := s.play t
  if p.stopAt = 3 then s.abortStop t
  else if !p.isFinal then
    if p.nextSlot.isSome then s else s.setPlay t { p with phase := .hold, samePass := true, starved := false, intr := 0, go := false, holdNano := enHold e, gapOk := enGap e }
  else
    let s := s.setPlay t { p with holdNano := enHold e, gapOk := enGap e, intr := 0, starved := false, go := p.succ.isSome }
    if p.stopAt = 4 then s.setPlay t { s.play t with phase := .wait }
    else if p.stopAt = 2 || (p.stopAt = 1 && p.succ.isNone && p.starving.isNone && p.queue.isEmpty) then (s.tileStop t).groupStop t
    else if p.succ.isSome then s
    else if p.starving.isSome then s.setPlay t { s.play t with phase := .hold }
    else
      let s := (s.bump R.SEG_COUNT2.UNDERRUN t 1).setPlay t { s.play t with phase := .idle }
      match p.queue with
      | n :: _ => s.choose t n true
      | [] => s

/-- The next pass of the present segment begins (R264); steady fields that waited through a hold come into force (R275). [log DEDUCED 114] -/
def State.beginPass (s : State) (t slot : Nat) : State :=
  let p := s.play t
  (s.setPlay t { p with phase := .seg, idx := 0, slot := slot, passNo := p.passNo + 1, passFail := false, isFinal := false, nextSlot := none, samePass := false, go := false, firstPass := false, starved := false, nano := p.steady.getD p.nano, steady := none }).wr R.SEG_ITER.PASS t (s.rd R.SEG_ITER.PASS t + 1)

/-- The fixed successor begins (R269, R272): a segment of the queue leaves it at its vector 0; steady fields that waited come into force (R275). -/
def State.beginSucc (s : State) (t : Nat) (x : Succ) : State :=
  let p := s.play t
  let p := { p with
    phase := .seg, idx := 0, slot := x.slot.getD 0, passNo := p.passNo + 1, passFail := false, isFinal := false, nextSlot := none, samePass := false, go := false, succ := none,
    groupAt := none, firstPass := true, starved := false, queue := if x.queued then p.queue.drop 1 else p.queue, nano := p.steady.getD p.nano, steady := none }
  ((s.setPlay t p).wr R.SEG_STATUS.CUR_SEG t x.entry).wr R.SEG_ITER.PASS t 0

/-- What the next row slot of a tile holds: a segment vector, an idle or hold one, a group-wait one of a period, the stop of the tile, or none yet. -/
inductive VecKind where
  /-- No vector can be read yet, or none at all. -/
  | none
  | seg
  /-- An idle or hold vector. -/
  | fill
  /-- A group-wait vector of a period. -/
  | wait (period : Nat)
  /-- No vector: the tile stops here. -/
  | stop
  deriving DecidableEq, Repr

/-- A member has ended its segment and has a fixed successor that may start (R286). -/
def State.memberReady (s : State) (m : Nat) : Bool :=
  let p := s.play m
  !p.samePass && p.succ.isSome && (p.phase ≠ .seg || (p.isFinal && p.idx ≥ enLength (s.curEntry m))) && p.go

/-- The boundary G of members that have ended their segments (R287). -/
def State.sharedBoundary (s : State) (ms : List Nat) : Nat :=
  let e := ms.foldl (fun a m => max a (s.play m).refPoint) 0
  if ms.all (fun m => (s.play m).refPoint = e) && e % 1024 = 0 then e else (e + 1024 + 1023) / 1024 * 1024

/-- The boundary G of a lockstep group once every member is ready (R287). -/
def State.groupBoundary (s : State) (ms : List Nat) : Option Nat := if ms.all s.memberReady then some (s.sharedBoundary ms) else none

/-- The period of a member's next group-wait vector, once G is known or lies at least a period ahead (R287). -/
def State.waitPeriod (s : State) (t : Nat) (ms : List Nat) : Option Nat → VecKind
  | some g => let p := s.play t; .wait (if g - p.refPoint < 2 * p.period then g - p.refPoint else p.period)
  | none => let p := s.play t; if ms.any fun m => p.refPoint + 2 * p.period ≤ (s.play m).refPoint then .wait p.period else .none

/-- What follows a member's last vector in a lockstep group (R286, R287). -/
def State.groupStep (s : State) (t : Nat) : State × VecKind :=
  let ms := s.playMates t
  let p := s.play t
  let s := match p.groupAt, s.groupBoundary ms with
    | none, some g => s.each ms fun s m => s.setPlay m { s.play m with groupAt := some g }
    | _, _ => s
  let p := s.play t
  match p.groupAt, p.succ with
  | some g, some x =>
    if g ≤ p.refPoint then (s.beginSucc t x, .seg)
    else (s.setPlay t { p with phase := .wait }, s.waitPeriod t ms (some g))
  | _, none => (s.setPlay t { p with phase := if p.starving.isSome then .hold else .idle }, .fill)
  | none, some _ =>
    if !p.go then (s.setPlay t { p with phase := if p.phase = .hold then .hold else .idle }, .fill)
    else match s.waitPeriod t ms none with
      | .wait n => (s.setPlay t { p with phase := .wait }, .wait n)
      | _ => (s, .none)

/-- A member that stops at G (R23, R33, R86, R288): G is the boundary already fixed, or lies by R287 after the ends of every member that started with it, once all have
ended. Until then the member plays group-wait vectors. -/
def State.stopStep (s : State) (t : Nat) : State × VecKind :=
  let p := s.play t
  let all := (s.group t).filter fun m => (s.play m).start = p.start
  let ended : Bool := all.all fun m => !(s.play m).playing || !s.inSegment m
  let g := p.groupAt.orElse fun _ => if ended then some (s.sharedBoundary all) else none
  match g with
  | some g => if g ≤ p.refPoint then (s, .stop) else (s.setPlay t { p with phase := .wait, groupAt := some g }, s.waitPeriod t all (some g))
  | none => (s.setPlay t { p with phase := .wait }, s.waitPeriod t all none)

/-- The tile is to stop at a shared boundary and has no vector of a segment left before it. -/
def State.stopsNext (s : State) (t : Nat) : Bool :=
  let p := s.play t
  !s.inSegment t && (p.stopAt = 4 || (p.stopAt = 2 && p.phase ≠ .seg))

/-- What the engine reads in the next row slot (R264, R269, R273, R274, R284). -/
def State.nextRead (s : State) (t : Nat) : State × VecKind :=
  let p := s.play t
  let solo : Bool := p.fresh || (s.playMates t).length ≤ 1
  if !p.playing then (s, .none)
  else if s.stopsNext t then (if p.fresh then (s, .stop) else s.stopStep t)
  else if p.phase = .seg && p.idx < enLength (s.curEntry t) && !p.fresh then (s, .seg)
  else if p.phase = .seg && !p.isFinal then
    match p.nextSlot with
    | some n => (s.beginPass t n, .seg)
    | none => (s, .none)
  else if p.samePass then
    match p.nextSlot with
    | some n => if p.go then (s.beginPass t n, .seg) else (s, .fill)
    | none => (s, .fill)
  else if solo then
    match p.succ with
    | some x => if p.go then (s.beginSucc t x, .seg) else (s, .fill)
    | none => (s, .fill)
  else s.groupStep t

/-- The full-mode code of a lane's field in a compact or scan-packed row (R205, R206, R207). -/
def packedCode (enc dir field : Nat) (dnrz : Bool) : Nat :=
  if enc = 1 then
    if dnrz then (if dir = 0 then 4 + field else if dir = 1 then 8 + field else 12)
    else [[0, 2, 4, 5], [0, 10, 8, 9], [4, 5, 8, 9]].getD dir [] |>.getD field 0
  else if dir = 1 then 8 + (if dnrz then 3 * field else field)
  else 4 + (if dnrz then 3 * field else field)

/-- The direction of a lane (R204). -/
def State.laneDir (s : State) (l : Nat) : Nat := bits (s.rd R.SEG_LANE_DIR.DIR (l / 16)) (2 * (l % 16)) 2

/-- The fixed code of a lane. -/
def State.laneFixed (s : State) (l : Nat) : Nat := bits (s.rd R.SEG_LANE_FIXED.FIXED (l / 8)) (4 * (l % 8)) 4

/-- The payload code word that holds a lane's field (R196, R205, R206). -/
def fieldWord (enc j i : Nat) : Nat := if enc = 1 then 2 * j + i / 32 else if enc = 2 then j else i / 16

/-- The field of a lane in vector j of a row, as a full-mode code (R198, R204 to R207); a lane of a failing word plays Z (R214). -/
def State.rowCode (s : State) (t row enc j i : Nat) (dnrz : Bool) (bad : Nat → Bool) : Nat :=
  let l := 64 * t + i
  let word := (s.store t).word row (fieldWord enc j i)
  if enc ≠ 1 && enc ≠ 2 then (if bad (fieldWord enc j i) then 0 else bits word (4 * (i % 16)) 4)
  else if bad (fieldWord enc j i) then 0
  else if s.laneDir l = 3 then s.laneFixed l
  else if enc = 1 then packedCode 1 (s.laneDir l) (bits word (2 * (i % 32)) 2) dnrz
  else packedCode 2 (s.laneDir l) (bits word i 1) dnrz

/-- The last data level that a T sees: that of the last placed data edge, or the level already set (R183, R200). -/
def LaneSt.lastData (x : LaneSt) : Bool :=
  match (x.edges.filter (·.data)).filter (fun e => e.kind = 1 || e.kind = 2) |>.getLast? with
  | some e => e.level
  | none => x.last

/-- The effective code of a lane from its raw code (R199 to R203, R228): the code, whether it is a DNRZ code, and whether a reserved code was met. -/
def LaneSt.effective (x : LaneSt) (raw : Nat) (dnrz : Bool) : Nat × Bool × Bool :=
  if raw = 0 then (0, dnrz, false)
  else if raw = 1 then (if 4 ≤ x.prev && x.prev < 8 then (if x.prevDnrz then x.prev else 4 + x.prev % 2, x.prevDnrz) else (0, dnrz)) |> fun (c, d) => (c, d, false)
  else if raw = 2 then (x.prev, x.prevDnrz, false)
  else if 12 ≤ raw || (raw = 3 && dnrz) then (0, dnrz, true)
  else if raw = 3 then (4 + b2n (!x.lastData), false, false)
  else (raw, dnrz, false)

/-- A vector as it is placed on the lanes. -/
structure Vec where
  /-- The steady fields in force, as a nano-word. -/
  nano : Nat
  set : Nat
  period : Nat
  filler : Bool
  fill : Bool
  capEn : Bool
  mask : Bool
  enc : Nat
  row : Nat
  j : Nat
  bad : List Nat
  /-- NCOs with a new origin or new words at this boundary. -/
  ncos : List Nat
  deriving DecidableEq, Repr

/-- The drive edges of a lane in a drive vector (R178, R183, R191). -/
def State.driveOf (s : State) (l : Nat) (v : Vec) (code : Nat) (dnrz : Bool) : List Edge :=
  let t := l / 64
  let p := s.play t
  let i := l % 64
  let m := p.setWord v.set i 6
  let f := modeFormat m
  let r := p.refPoint
  let delay := (s.laneDecl l).delay
  let at' (k : Nat) : Nat := (r + ballEdge (p.setTip v.set) delay k (p.setWord v.set i k)).toNat
  let d0 := bitAt code 0
  let d1 := if dnrz then bitAt code 1 else d0
  let e (at' kind : Nat) (level data : Bool) : Edge := ⟨at', p.cycle, kind, level, data⟩
  if f = 5 then
    let n := p.nco (modeNco m)
    let wait := at' 1 - r
    [e (at' 0) 0 (n.high (at' 0)) false] ++ (if v.ncos.contains (modeNco m) then [e r 4 (n.high r) false] else []) ++
      (n.transitions r (r + v.period)).map fun x => e (x.1 + wait) 4 x.2 false
  else
    let start := match f with | 2 => true | 3 => !d0 | _ => false
    let lastLevel : Bool := f = 0 || f = 4
    let ret := if f = 1 then [e (at' 2) 2 false false] else if f = 2 then [e (at' 2) 2 true false] else if f = 3 then [e (at' 2) 2 (!d0) false]
      else if f = 4 then [e (at' 2) 2 d1 true] else []
    [e (at' 0) 0 start lastLevel, e (at' 1) 1 d0 true] ++ ret

/-- One lane in a vector (R111, R178, R184, R200, R202, R228, R291): true where it captures. -/
def State.laneVector (s : State) (t i : Nat) (v : Vec) : State × Bool :=
  let l := 64 * t + i
  let o := i / 8
  let p := s.play t
  let m := p.setWord v.set i 6
  let dnrz : Bool := modeFormat m = 4
  let filled := v.fill && bitAt v.nano (24 + o)
  let raw := if filled then bits v.nano (32 + 4 * o) 4 else if v.filler then 1 else s.rowCode t v.row v.enc v.j i dnrz (v.bad.contains ·)
  let x := s.lane l
  let (code, cd, rsv) := x.effective raw dnrz
  let s := s.when rsv fun s => (s.wr R.SEG_STORE_STATUS.RSV_CODE t 1).bump R.SEG_STORE_STATUS.RSV_COUNT t 1
  let drives : Bool := 4 ≤ code && code < 8 && bitAt v.nano o
  let masked := match s.siteOf l with | some d => s.siteMasked d | none => true
  let compares : Bool := 8 ≤ code && !v.filler && !v.mask && bitAt v.nano (8 + o) && !masked
  let cap : Bool := !v.filler && bitAt v.nano (16 + o) && (v.capEn || (!cd && (code = 6 || code = 7)))
  let busy := drives || compares || cap || s.forced l
  let s := s.when busy (·.gapEnd l)
  let x := s.lane l
  let s := s.setLane l { x with prev := code, prevDnrz := cd, quiet := if busy then 0 else min (x.quiet + 1) 4096 }
  if !s.laneUsed l then (s, false) else
  let r := p.refPoint
  let tip := p.setTip v.set
  let delay := (s.laneDecl l).delay
  let at' (k : Nat) : Nat := (r + ballEdge tip delay k (p.setWord v.set i k)).toNat
  let e (at' kind : Nat) : Edge := ⟨at', p.cycle, kind, false, false⟩
  let drive := if drives then s.driveOf l v code cd else (if compares then [e r 5] else []) ++ [e (at' 3) 3]
  let half := cd && dnrz
  let window := modeWindow m && !half
  let cmp := if compares then [e (at' 4) 8] ++ (if window || half then [e (at' 5) 9] else []) else []
  let job : CmpJob := { vec := p.cycle, origin := p.instant 0, openAt := at' 4, closeAt := if window || half then at' 5 else at' 4, expect := if cd then b2n (bitAt code 0) else code - 8, expect1 := b2n (bitAt code 1), dnrz := half, window := window, dropped := false, isOpen := false,
                         unH := false, unL := false, allH := false, allL := false, unH2 := false, unL2 := false }
  let s := s.when compares fun s => s.setLane l { s.lane l with jobs := (s.lane l).jobs ++ [job] }
  ((drive ++ cmp).foldl (fun s x => s.place' l x) s, cap)

/-- The lanes of a tile that take part in play. -/
def State.usedLanes (s : State) (t : Nat) : List Nat := ((List.range 64).map (64 * t + ·)).filter fun l => s.laneUsed l

/-- Every edge before the next vector boundary of a tile acts, and then the writes that waited for it (R112, R179). -/
def State.boundaryFlush (s : State) (t : Nat) : State := ((s.each (s.usedLanes t) fun s l => s.laneFlush l (s.play t).refPoint).capsOut t).boundaryWrites t

/-- The writes and levels that take effect at the boundary of a vector (R112, R114, R131, R189, R193, R235), and there the swing class after every change of levels (R117).
[log DEDUCED 106; DESIGN CHOICE 116] [log DEDUCED 106; DESIGN CHOICE 116] -/
def State.vectorBoundary (s : State) (t : Nat) (lset : Option Nat) : State :=
  let r := (s.play t).refPoint
  let lanes := s.usedLanes t
  let s := s.boundaryFlush t
  let s := s.each lanes fun s l => s.when (s.leff R.LANE_MON_CTL.CLR_MODE l = 1) (·.wr R.LANE_MON.LATCH l 0)
  let s := s.each (((List.range 8).map (8 * t + ·)).filter fun o => s.rd R.SMU_MON_CTL.CLR_MODE o = 1) fun s o => s.wr R.SMU_STATUS.MON_LATCH o 0
  let s := s.each (((List.range 8).map (t / 4 * 8 + ·)).filter fun d => s.rd R.DPS_SET_CFG.STROBE_TILE d = t % 4) fun s d =>
    (s.when (s.deff R.DPS_MON_I_CTL.CLR_MODE d = 1) (·.wr R.DPS_STATUS.MON_I_LATCH d 0)).when (s.deff R.DPS_MON_V_CTL.CLR_MODE d = 1) (·.wr R.DPS_STATUS.MON_V_LATCH d 0)
  let s := match lset with | some n => s.setLevels t n | none => s
  let s := s.each (List.range 8) fun s k => s.ncoSync t k
  s.each lanes fun s l => (s.setLane l { s.lane l with swing := s.swingClass l }).overrideAt l r

/-- A vector is placed on every lane, and the tile moves on (R167, R177, R292). -/
def State.placeVector (s : State) (t : Nat) (v : Vec) : State :=
  let (s, caps) := (List.range 64).foldl (fun a i => let (s, c) := a.1.laneVector t i v; (s, a.2 + b2n c * 2 ^ i)) (s, 0)
  let p := s.play t
  let s := s.when (caps ≠ 0) fun s =>
    let used := s.usedLanes t
    let at' (l : Nat) : Nat := (p.refPoint + ballEdge (p.setTip v.set) (s.laneDecl l).delay 4 (p.setWord v.set (l % 64) 4)).toNat
    let s := s.each used fun s l => s.place' l ⟨at' l, p.cycle, 10, false, false⟩
    s.setPlay t { s.play t with caps := p.caps ++ [⟨p.cycle, p.instant 0, p.refPoint, caps, used.length, 0, 0, none⟩] }
  let s := ((s.wr R.TS_STATUS.CUR_SET t v.set).wr R.CMP_CYCLE_LO.CYCLE_LO t p.cycle).wr R.CMP_CYCLE_HI.CYCLE_HI t (p.cycle / 2 ^ 32)
  s.setPlay t { s.play t with fresh := false, cycle := (p.cycle + 1) % 2 ^ 48, refPoint := p.refPoint + v.period, period := v.period }

/-- A nano-word of sequencer q as its 256 bits; the nanostore of the tile or of the housekeeping sequencer. -/
def State.nanoWord (s : State) (q n : Nat) : Nat := smGet 0 (s.store q).nano n

/-- A counter operation of a nano-word (R225, R232). -/
def State.cntNano (s : State) (q k op : Nat) : State :=
  let i := 8 * q + k
  let v := s.rd R.SEQ_CNT.VALUE i
  match op with
  | 1 => s.wr R.SEQ_CNT.VALUE i (min (v + 1) (2 ^ 32 - 1))
  | 2 => s.wr R.SEQ_CNT.VALUE i (v - 1)
  | 3 => s.wr R.SEQ_CNT.VALUE i 0
  | 4 => s.wr R.SEQ_CNT.VALUE i (s.rd R.SEQ_CINIT.VALUE (16 * q + k))
  | _ => s

/-- The one-shot fields of a nano-word act (R224, R225); on the housekeeping sequencer only counters and signals do (R259). [log DEDUCED 127] -/
def State.nanoShots (s : State) (q w : Nat) : State :=
  let s := s.each (List.range 8) fun s k => s.cntNano q k (bits w (96 + 4 * k) 4)
  let sig (s : State) (base : Nat) : State := s.each ((List.range 4).filter fun n => bitAt w (128 + n)) fun s n => s.raise (base + n)
  if q = 16 then sig s 24 else
  let at' := if (s.play q).playing then (s.play q).instant (s.play q).refPoint else s.clock.tick * 2048
  let s := s.each ((List.range 4).filter fun n => bitAt w (128 + n)) fun s n => s.tdcPresent ((List.range 4).map (4 * q + ·)) (0x88 + n) false (at' / 8)
  let s := s.strobe q (bits w 74 4)
  let s := s.each ((List.range 4).filter fun k => bitAt w (84 + k)) fun s k => s.tdcDisarm (4 * q + k)
  let s := s.each ((List.range 4).filter fun k => bitAt w (80 + k)) fun s k => s.tdcArm (4 * q + k)
  let p := s.play q
  let s := s.when (bitAt w 88) fun s => if p.playing then s.acqMarkAt q 1 (p.instant p.refPoint) else s.acqMark q 1 s.clock.near
  sig s (64 + 16 * q + 12)

/-- NCOs whose words differ from those in force. -/
def State.ncosChanged (s : State) (t : Nat) : List Nat :=
  (List.range 8).filter fun k => ((s.play t).nco k).ftw ≠ s.ncoFtw t k || ((s.play t).nco k).duty ≠ s.rd R.TS_NCO_CTL.DUTY (8 * t + k)

/-- An idle, hold or group-wait vector (R275, R285, R287, R289). -/
def State.fillVector (s : State) (t : Nat) (wait : Option Nat) : State :=
  let p := s.play t
  let first : Bool := p.intr = 0
  let hold : Bool := p.phase = .hold
  let s := s.when (hold && !p.starved) fun s =>
    ((s.setPlay t { p with starved := true }).bump R.SEG_COUNT.STARVE t 1).each (s.group t) fun s m => s.sites.foldl (fun s d =>
      s.when ((List.range 64).any fun i => d.quad = m / 4 && bitAt d.mask (64 * (m % 4) + i)) (·.wr R.CMP_SITE_STATUS.TIMING_BROKEN d.home 1)) s
  let s := s.when hold (·.bump R.SEG_HOLD_VECTORS.HOLD_VECTORS t 1)
  let s := s.when (wait.isSome) (·.bump R.SEG_GROUP_WAIT.GROUP_WAIT t 1)
  let hn := if p.holdNano = 0 then 0 else s.nanoWord t p.holdNano
  let s := s.when (first && p.holdNano ≠ 0) (·.nanoShots t hn)
  let s := s.setPlay t { s.play t with intr := p.intr + 1, gapOk := p.gapOk || wait.isSome }
  let set := if bitAt hn 69 then bits hn 64 5 else s.rd R.TS_STATUS.CUR_SET t
  let changed := s.ncosChanged t
  let s := s.vectorBoundary t (if bitAt hn 73 then some (bits hn 70 3) else none)
  let nano := if p.holdNano = 0 then s.nanoWord t p.nano else hn
  let v : Vec := { nano := nano, set := set, period := wait.getD ((s.play t).setPeriod set), filler := true, fill := p.holdNano ≠ 0, capEn := false, mask := true, enc := 0, row := 0, j := 0, bad := [], ncos := changed }
  s.placeVector t v

/-- What a SEGMENT vector finds at the row read: its tile vector address, its row, and which part of the row holds it (R196, R279). -/
def State.segPlace (s : State) (t : Nat) (e idx slot : Nat) : Nat × Nat × Nat :=
  let step := encStep (enEnc e)
  let va := enStart e + step * idx
  let base := if enStreamed e then 4 * (1024 * s.rd R.SEG_STORE_CFG.RING_BASE t + 256 * s.slotSize t * slot) else 0
  (va, (base + va) / 4, if step = 2 then (base + va) % 4 / 2 else if step = 1 then (base + va) % 4 else 0)

/-- The errors of a row that is played (R214, R215): `bad` are its code words with an uncorrectable error. -/
def State.segErrors (s : State) (t row : Nat) (bad : List Nat) : State :=
  let x := s.store t
  let s := s.bump R.SEG_STORE_STATUS.CE_COUNT t ((List.range 5).filter fun k => x.bad' row k = 1).length
  match bad with
  | [] => s
  | k :: _ => (((s.wr R.SEG_STORE_STATUS.UE_PLAY t 1).bump R.SEG_STORE_STATUS.UE_COUNT t 1).sliceUe t row k 0).raise (64 + 16 * t + 1)

/-- A SEGMENT vector of entry `e` plays: its control field and the nano-word in force give its set, levels, marks and masks (R188, R197, R265). [log DEDUCED 114] -/
def State.segPlay (s : State) (t e idx va row j : Nat) (bad : List Nat) : State :=
  let enc := enEnc e
  let full : Bool := enc ≠ 1 && enc ≠ 2
  let ctl := if bad.contains 4 then (if full then s.rd R.TS_STATUS.CUR_SET t + 32 * (s.play t).lset else 0) else smGet 0 (s.store t).ctl row
  let c := if enc = 1 then bits ctl (8 * j) 8 else bits ctl (4 * j) 4
  let nano := s.nanoWord t (s.play t).nano
  let due := (s.playMates t).length ≤ 1 || (idx = 0 && (s.play t).firstPass)
  let set := if bitAt nano 69 then bits nano 64 5 else if enTsetEn e then enTset e else if full then bits ctl 0 5 else s.rd R.TS_CTL.DEFAULT_SET t
  let lset := if bitAt nano 73 then some (bits nano 70 3) else if full then some (bits ctl 5 3) else if due then (s.play t).lsetNext else none
  let user := if full then bits ctl 10 6 else if enc = 1 then bits c 3 5 else 0
  let capEn := if full then bitAt ctl 8 else bitAt c 0
  let mark := if full then bitAt ctl 9 else bitAt c 1
  let changed := s.ncosChanged t
  let s := s.vectorBoundary t lset
  let s := s.setPlay t { s.play t with lsetNext := if due then none else (s.play t).lsetNext, user := user, gapOk := enGap e }
  let r := (s.play t).refPoint
  let fresh := if (s.play t).fresh then List.range 8 else if enPhase e && idx = 0 && (s.play t).firstPass then (List.range 8).filter fun k => s.fl R.TS_NCO_CTL.PR_EN (8 * t + k) else []
  let s := s.each fresh fun s k => s.ncoOrigin t k r
  let s := s.when mark (·.acqMarkAt t 0 ((s.play t).instant r))
  let p := s.play t
  let rec' : VecRec := { cycle := p.cycle, origin := p.instant 0, refPoint := r, va := va, seg := s.rd R.SEG_STATUS.CUR_SEG t, pass := s.rd R.SEG_ITER.PASS t, slot := p.slot, streamed := enStreamed e, isMatch := enMode e = 1, passNo := p.passNo, time := none, fails := [], unsettled := false, counted := false, formed := false }
  let s := s.setPlay t { p with vecs := p.vecs ++ [rec'], idx := idx + 1 }
  let v : Vec := { nano := nano, set := set, period := p.setPeriod set, filler := false, fill := true, capEn := capEn, mask := !full && bitAt c 2, enc := enc, row := row, j := j, bad := bad, ncos := changed ++ fresh }
  let s := s.placeVector t v
  if idx + 1 ≥ enLength e then s.passEnd t else s

/-- A vector of the present segment (R192, R198, R206, R213, R214, R265, R280). -/
def State.segVector (s : State) (t : Nat) : State :=
  let e := s.curEntry t
  let p := s.play t
  let s := s.when (p.idx = 0 && enStreamed e) (·.wr R.SEG_SLOT.PLAYING (slotInst' t p.slot) 1)
  let s := s.when (p.idx = enLength e - 16) (·.decide' t)
  let w := s.segPlace t e p.idx p.slot
  let bad := (List.range 5).filter fun k => (s.store t).bad' w.2.1 k = 2
  let s := s.segErrors t w.2.1 bad
  if !bad.isEmpty && s.rd R.SEG_STORE_CFG.UE_POLICY t = 0 then (s.tileStop t).groupStop t
  else s.segPlay t e p.idx w.1 w.2.1 w.2.2 bad

/-- VECTOR_READ: the row of a tile's next vector is read, decoded, placed and played, or the vector is an idle, hold or group-wait one (R168, R265 to R288). -/
def execVectorRead (t : Fin 16) (s : State) : Out' :=
  done s fun s =>
    let t := t.val
    let p := s.play t
    if !p.playing then s
    else if p.stopAt = 1 && p.phase ≠ .seg && !p.samePass && p.succ.isNone && p.starving.isNone && p.queue.isEmpty then (s.tileStop t).groupStop t
    else if p.stopAt = 3 && p.phase ≠ .seg then s.abortStop t
    else
      let (s, k) := (s.recheck t).nextRead t
      match k with
      | .none => s.segSync t
      | .seg => (s.segVector t).segSync t
      | .fill => (s.fillVector t none).segSync t
      | .wait p => (s.fillVector t (some p)).segSync t
      | .stop => (s.tileStop t).segSync t

/-- SUCCESSOR_START: 48 VCLK have passed since the successor, or the next pass, was fixed in an interruption (R274). -/
def execSuccessorStart (t : Fin 16) (s : State) : Out' :=
  done s fun s =>
    let s := s.recheck t.val
    let p := s.play t.val
    if p.playing && (p.phase ≠ .seg || p.idx ≥ enLength (s.curEntry t.val)) && (p.succ.isSome || (p.samePass && p.nextSlot.isSome)) then
      (s.setPlay t.val { p with go := true }).segSync t.val
    else s.segSync t.val

/-- TILE_IDLE_RETURN: the spill range of the last vector ends, and the lanes of a stopped tile return to IDLE_STATE (R181). -/
def execTileIdleReturn (t : Fin 16) (s : State) : Out' :=
  done s fun s => if (s.play t.val).playing then s else s.idleReturn t.val

/-- A jump request is latched or refused (R270, R271). -/
def State.jumpLatch (s : State) (t : Nat) : State :=
  let n := s.rd R.SEG_JUMP.TARGET t
  let p := s.play t
  if !enValid (s.entry t n) || !s.fl R.SEQ_LOAD.VALID t || p.jump.isSome then s.wr R.SEG_JUMP.REFUSED t 1
  else
    let s := s.setPlay t { p with jump := some (n, s.fl R.SEG_JUMP.FLUSH t) }
    let interrupted : Bool := p.phase ≠ .stopped && p.phase ≠ .seg && !p.samePass
    let late : Bool := (p.phase = .seg && p.isFinal) || (interrupted && p.succ.isSome)
    let s := s.when late (·.bump R.SEG_COUNT.JUMP_LATE t 1)
    (if interrupted && p.succ.isNone then s.takeJump t else s).segSync t

/-- The write of SEG_JUMP (R270). -/
def jumpHook : Hook := fun _ t w be s =>
  let old := (s.rd R.SEG_JUMP.SRC_EN t, s.rd R.SEG_JUMP.SRC t)
  let (s, r) := writeWord .SEG_JUMP t w be s
  let s := s.when (s.fl R.SEG_JUMP.SRC_EN t && (old.1 = 0 || s.rd R.SEG_JUMP.SRC t ≠ old.2)) fun s => s.setPlay t { s.play t with srcSample := none }
  (s.when (R.SEG_JUMP.GO.acts w be) (·.jumpLatch t), r)

/-- JUMP_REQUEST_GO: a write of SEG_JUMP with GO = 1. -/
def execJumpRequestGo (rq : Req) (t : Fin 16) (w : Word) (s : State) : Out' := writeRow rq .SEG_JUMP t.val (Nat.lor w.toNat (2 ^ 12)) jumpHook s

/-- JUMP_SRC_EDGE: a sample of source SEG_JUMP.SRC; a 1 after a 0 latches a request, and the first sample is the reference (R270). -/
def execJumpSrcEdge (t : Fin 16) (s : State) : Out' :=
  done s fun s =>
    let t := t.val
    if !s.fl R.SEG_JUMP.SRC_EN t then s else
    let v := s.cond t (s.rd R.SEG_JUMP.SRC t)
    let was := (s.play t).srcSample
    let s := s.setPlay t { s.play t with srcSample := some v }
    s.when (v && was == some false) (·.jumpLatch t)

/-- The write of SEG_RING_CTL (R279). -/
def ringCtlHook : Hook := fun _ t w be s =>
  if R.SEG_RING_CTL.RESET.acts w be then (if (s.play t).playing then (s, true) else (s.ringReset t, false)) else (s, false)

/-- RING_RESET: a write of SEG_RING_CTL with RESET = 1. -/
def execRingReset (rq : Req) (t : Fin 16) (s : State) : Out' := writeRow rq .SEG_RING_CTL t.val 1 ringCtlHook s

/-- The write of SEG_RING_CFG (R278, R283). -/
def ringCfgHook : Hook := fun _ t w be s =>
  let size := s.newv R.SEG_RING_CFG.SLOT_SIZE t w be
  let differs := max size 1 ≠ s.slotSize t
  let bad := differs && (s.play t).playing
  let low := s.rd R.SEG_RING_CFG.LOW_WATER t
  let (s, _) := writeFields [R.SEG_RING_CFG.LOW_WATER] t w be s
  let s := s.when (s.rd R.SEG_RING_CFG.LOW_WATER t ≠ low) (·.ringLow t true)
  if differs && !bad then (((s.wr R.SEG_RING_CFG.SLOT_SIZE t size).wr R.SEQ_LOAD.VALID t 0).ringReset t, false) else (s, bad)

/-- RING_CFG_WRITE: a write of SEG_RING_CFG. -/
def execRingCfgWrite (rq : Req) (t : Fin 16) (w : Word) (s : State) : Out' := writeRow rq .SEG_RING_CFG t.val w.toNat ringCfgHook s

/-- The write of SEG_SLOT (R280): discarded while the slot plays, and beyond the last slot. -/
def slotHook : Hook := fun _ i w be s =>
  let t := i / 256
  if i % 256 ≥ s.slotCount t || s.fl R.SEG_SLOT.PLAYING i then (s, true)
  else
    let (s, r) := writeWord .SEG_SLOT i w be s
    (s.ringLow t false, r)

/-- SLOT_WRITE: a write of SEG_SLOT. -/
def execSlotWrite (rq : Req) (t : Fin 16) (n : Fin 256) (w : Word) (s : State) : Out' := writeRow rq .SEG_SLOT (256 * t.val + n.val) w.toNat slotHook s

/-- A start of a tile on a start edge, in taps of the time base (R167, R192, R200, R239, R267). Compares and records
of an earlier run are still due and keep their place (R604). -/
def State.tileStart (s : State) (t start : Nat) : State :=
  let s := s.idleReturn t
  let s := s.each (List.range 64) fun s i =>
    let l := 64 * t + i
    let s := s.gapEnd l
    let x := s.lane l
    s.setLane l { x with prev := 0, prevDnrz := false, last := false, edges := [], trans := none, drv := 0, want := 0 }
  let seg := s.rd R.SEQ_START.SEG t
  let p := s.play t
  let s := s.setPlay t { p with
    playing := true, phase := .idle, start := start, cycle := 0, refPoint := 0, period := 1024, idx := 0, slot := 0, passNo := p.passNo + 1, passFail := false, isFinal := false,
    fresh := true, firstPass := false, starved := false, queue := [seg], succ := none, starving := none, nextSlot := none, samePass := false, go := false, holdNano := 0, intr := 0, gapOk := false, stopAt := 0, groupAt := none,
    nano := 0, issued := [], steady := none, lsetNext := none }
  let s := (s.wr R.SEG_STATUS.MATCH t 0).choose t seg true
  let s := s.setPlay t { s.play t with go := (s.play t).succ.isSome, phase := if (s.play t).starving.isSome then .hold else .idle }
  let s := s.each (List.range 8) fun s k => (s.ncoSync t k).ncoOrigin t k 0
  let s := s.releaseHolder t
  let s := [R.SEQ_STATUS.DEPTH, R.SEQ_STATUS.IN_HANDLER, R.SEQ_STATUS.LEVEL, R.SEQ_STATUS.IN_FLIGHT, R.SEQ_STATUS.ATOMIC, R.SEQ_STATUS.ATOMIC_RES].foldl (fun s f => s.wr f t 0) s
  let s := (s.wr R.SEQ_STATUS.STATE t 1).wr R.SEQ_PC.PC t (s.rd R.SEQ_ENTRY.ENTRY t)
  (s.setSeq t { SeqSt.idle with next := s.rd R.SEQ_ENTRY.ENTRY t, busy := (s.seq t).busy }).segSync t

end Sys2Proof.Machine
end

