-- ==== Sys2Proof/Machine/Loader.lean ====
section
/-! DEFINITION. The loader: the checks that a sequence program and its segment table pass before a tile may start, and that the housekeeping code
of a mould image passes at LOAD (R255 to R257, R276, R277, R290, R600). -/

namespace Sys2Proof.Machine

/-- What the loader reads: the stores as words, the parity faults, and the bounds of the sequencer it checks for. -/
structure Program where
  /-- The housekeeping sequencer, which has no segment table. -/
  hk : Bool
  entry : Nat
  startSeg : Nat
  /-- Micro-addresses below this one are executable (R220, R68). -/
  limit : Nat
  /-- The micro-address of branch-select entry 0; the vector table lies 32 above it. -/
  tables : Nat
  nanoCount : Nat
  ringCount : Nat
  ringBase : Nat
  slotSize : Nat
  micro : Nat → Nat
  nano : Nat → Nat
  seg : Nat → Nat
  microBad : Nat → Bool
  nanoBad : Nat → Bool

/-- The verdict on a program: REASON (0 for none), WHERE, DETAIL, and SEG_CHECK.CAUSE. -/
structure Verdict where
  reason : Nat
  place : Nat
  detail : Nat
  cause : Nat
  deriving DecidableEq, Repr

/-- CLASS of a micro-word (R221). -/
def mwClass (w : Nat) : Nat := bits w 28 4

/-- NANO_PTR of a micro-word. -/
def mwNano (w : Nat) : Nat := bits w 16 12

/-- A micro-word that is a yield point where it executes (R243); a waiting PLAY needs its YIELD bit, and a STOP is none (R237). -/
def mwYield (w : Nat) : Bool := mwClass w ≠ 11 && (bitAt w 15 || mwClass w = 9 || mwClass w = 6)

/-- RETE, STOP and MC_TRAP: their NANO_PTR is discarded, and they end a straight path (R222, R256). -/
def mwEnds (w : Nat) : Bool := mwClass w = 10 || mwClass w = 11 || mwClass w = 13

/-- Operand bits that a class names (R222); the others are reserved. -/
def operandMask (cls : Nat) : Nat :=
  [0x4000, 0x3FFF, 0x7FFF, 0x7FFF, 0x7FFF, 0x07FF, 0x07FF, 0x71FF, 0x7FFF, 0, 0, 0x4000, 0x01FF, 0x7FFF].getD cls 0

/-- A reserved class, OP or operand bit (R222, R232, R235). -/
def mwReserved (w : Nat) : Bool :=
  14 ≤ mwClass w || Nat.land (bits w 0 15) (0x7FFF - operandMask (mwClass w)) ≠ 0 || (mwClass w = 4 && bits w 9 3 > 4) || (mwClass w = 7 && bits w 12 3 > 1)

/-- A reserved condition source (R229, R259). -/
def Program.srcReserved (p : Program) (n : Nat) : Bool := 62 ≤ n || (n = 61 && !p.hk)

/-- COUNT of a branch-select entry (R231). -/
def bselCount (e : Nat) : Nat := bits e 24 3

/-- SELj of a branch-select entry. -/
def bselSel (e j : Nat) : Nat := bits e (6 * j) 6

/-- The successors of a micro-word that the loader follows, as integers that may lie out of range (R255): those of its content as it reads,
whatever its parity. [log DEDUCED 122] -/
def Program.targets (p : Program) (a : Nat) : List Int :=
  let w := p.micro a
  let cls := mwClass w
  if mwEnds w then []
  else if cls = 1 then [(bits w 0 14 : Int)]
  else if cls = 2 then
    let e := p.tables + bits w 10 5
    let n := bselCount (p.micro e)
    if n > 4 then [] else (List.range (2 ^ n)).map fun j => ((16 * bits w 0 10 + j : Nat) : Int)
  else if cls = 3 then [(a : Int) - bits w 0 12, a + 1]
  else [(a + 1 : Int)]

/-- The successors within the executable range. -/
def Program.next (p : Program) (a : Nat) : List Nat := ((p.targets a).filter fun (b : Int) => decide (0 ≤ b) && decide (b < (p.limit : Int))).map Int.toNat

/-- The failures of one reachable word: pairs of REASON and DETAIL (R257); a word or entry with bad parity also fails the checks of its content as it reads.
A BRANCH target out of range is BRANCH_RANGE alone. [log DEDUCED 122, 123] -/
def Program.wordFails (p : Program) (a : Nat) : List (Nat × Nat) :=
  let w := p.micro a
  let cls := mwClass w
  let e := p.tables + bits w 10 5
  let n := bselCount (p.micro e)
  (if p.microBad a then [(0x0A, a)] else []) ++ (if mwReserved w then [(0x01, a)] else []) ++ (if p.hk && (cls = 5 || cls = 7 || cls = 8 || cls = 11) then [(0x0B, a)] else []) ++
  (if cls = 2 then
    (if p.microBad e then [(0x0A, e)] else []) ++ (if bitAt (p.micro e) 31 then [(0x01, e)] else []) ++
    (if n > 4 || (List.range n).any (fun j => p.srcReserved (bselSel (p.micro e) j)) then [(0x04, e)] else []) ++
    (if n ≤ 4 && 16 * bits w 0 10 + 2 ^ n > p.limit then [(0x05, a)] else [])
   else []) ++
  (if cls = 6 && p.srcReserved (bits w 0 6) then [(0x04, a)] else []) ++
  (if cls ≠ 2 && (p.targets a).any (fun b => b < 0 || b ≥ p.limit) then [(0x02, a)] else [])

/-- The vector-table entries that are roots: entry 0, and each with VALID = 1 (R255). -/
def Program.vectors (p : Program) : List Nat := ((List.range 64).filter fun e => e = 0 || bitAt (p.micro (p.tables + 32 + e)) 15).map (p.tables + 32 + ·)

/-- The failures of the roots, in order, each place with its own. -/
def Program.rootFails (p : Program) : List (List (Nat × Nat)) :=
  (if p.entry < p.limit then [] else [(0x02, p.entry)]) ::
    p.vectors.map fun e => (if bits (p.micro e) 0 14 < p.limit then [] else [(0x02, e)]) ++ (if p.microBad e then [(0x0A, e)] else [])

/-- The roots that can be followed. -/
def Program.roots (p : Program) : List Nat :=
  ((p.entry :: (p.vectors.filter fun e => !p.microBad e).map fun e => bits (p.micro e) 0 14)).filter (· < p.limit)

/-- What is reached from the nodes of a list, in steps bounded by the first number. -/
def reachFrom (next : Nat → List Nat) : Nat → List Nat → List Nat → List Nat
  | 0, _, seen => seen
  | _ + 1, [], seen => seen
  | n + 1, a :: l, seen => if seen.contains a then reachFrom next n l seen else reachFrom next n (next a ++ l) (a :: seen)

/-- More steps than any program has edges. -/
def loaderFuel : Nat := 400000

/-- A node lies on a cycle. -/
def onCycle (next : Nat → List Nat) (a : Nat) : Bool := (reachFrom next loaderFuel (next a) []).contains a

/-- The nodes met after n steps from those of a list. -/
def frontier (next : Nat → List Nat) : Nat → List Nat → List Nat
  | 0, l => l
  | n + 1, l => frontier next n (l.flatMap next).eraseDups

/-- The reachable words, in ascending address. -/
def Program.words (p : Program) : List Nat := (reachFrom p.next loaderFuel p.roots []).insertionSort (· ≤ ·)

/-- Successors that hold no yield point, for the cycles of R256. -/
def Program.dry (p : Program) (a : Nat) : List Nat := if mwYield (p.micro a) then [] else (p.next a).filter fun b => !mwYield (p.micro b)

/-- Segment-table entries named by reachable PLAY words. -/
def Program.plays (p : Program) (words : List Nat) : List Nat := (words.filter fun a => mwClass (p.micro a) = 5).map fun a => bits (p.micro a) 0 11

/-- The enabled NEXT and JUMP fields of an entry (R290). -/
def Program.segNext (p : Program) (n : Nat) : List Nat :=
  let e := p.seg n
  (if enNextEn e then [enNext e] else []) ++ (if enJumpEn e then [enJump e] else [])

/-- The segment-table entries that R290 checks, in ascending number. -/
def Program.segs (p : Program) (words : List Nat) : List Nat :=
  if p.hk then [] else (reachFrom p.segNext loaderFuel ((p.startSeg :: p.plays words) ++ (List.range 2048).filter fun n => enValid (p.seg n)) []).insertionSort (· ≤ ·)

/-- The CAUSE of a segment-table entry (R290), 0 for none. -/
def Program.segCause (p : Program) (n : Nat) : Nat :=
  let e := p.seg n
  let step := encStep (enEnc e)
  if !enValid e then 1
  else if enEnc e = 3 || enMode e = 3 || bits e 28 3 ≠ 0 || bits e 124 4 ≠ 0 then 2
  else if enStart e % step ≠ 0 then 3
  else if enLength e = 0 then 4
  else if enStart e + step * enLength e > (if enStreamed e then 1024 * p.slotSize else 4096 * p.ringBase) then 5
  else if enStreamed e && p.ringCount < 2 then 6
  else if enMode e = 1 && enLength e < 32 then 7
  else if (enMode e = 1 || enMode e = 2) && enCsel e && 61 ≤ enCond e then 8
  else if enMode e = 2 && !enJumpEn e then 9
  else 0

/-- The failures of a segment-table entry (R276, R277, R290). -/
def Program.segFails (p : Program) (n : Nat) : List (Nat × Nat) :=
  (if enStreamed (p.seg n) && (enMode (p.seg n) = 1 || onCycle p.segNext n) then [(0x08, n)] else []) ++ (if p.segCause n ≠ 0 then [(0x09, n)] else [])

/-- A nano-word with a reserved CNT_OP code (R225). -/
def nanoReserved (w : Nat) : Bool := (List.range 8).any fun k => bits w (96 + 4 * k) 4 > 4

/-- The nano-words that R255 checks, in ascending number. -/
def Program.nanos (p : Program) (words segs : List Nat) : List Nat :=
  (((if p.hk then [] else [0]) ++ (words.filter fun a => !mwEnds (p.micro a) && mwNano (p.micro a) ≠ 0).map (fun a => mwNano (p.micro a)) ++
    (segs.filter fun n => enHold (p.seg n) ≠ 0).map fun n => enHold (p.seg n)).eraseDups).insertionSort (· ≤ ·)

/-- The failures of a checked nano-word. Nano-words come after every micro-word, in the order of R600. [log DEDUCED 123] -/
def Program.nanoFails (p : Program) (n : Nat) : List (Nat × Nat) :=
  if n ≥ p.nanoCount then [(0x03, n)]
  else (if nanoReserved (p.nano n) then [(0x01, n)] else []) ++ (if p.nanoBad n then [(0x0A, n)] else [])

/-- The lowest REASON of a place, with its DETAIL. -/
def lowestReason (l : List (Nat × Nat)) : Option (Nat × Nat) :=
  l.foldl (fun b x => match b with | none => some x | some y => if x.1 < y.1 then some x else some y) none

/-- The first place of a list that fails, with its lowest REASON (R600). -/
def firstFail (l : List (List (Nat × Nat))) : Option (Nat × Nat) := l.findSome? lowestReason

/-- The loader's verdict (R255 to R257, R600). A cycle without a yield point is refused as such, and no straight path is followed round it. [log DEDUCED 122] -/
def Program.check (p : Program) : Verdict :=
  let words := p.words
  let segs := p.segs words
  let cyclic := words.filter fun a => !mwYield (p.micro a) && onCycle p.dry a
  let stops (a : Nat) : Bool := mwYield (p.micro a) || mwEnds (p.micro a) || cyclic.contains a
  let starts := (p.roots ++ (words.filter fun a => mwYield (p.micro a)).flatMap p.next).eraseDups
  let late := frontier (fun a => if stops a then [] else p.next a) 256 starts
  let wordAll (a : Nat) : List (Nat × Nat) :=
    p.wordFails a ++ (if late.contains a then [(0x06, a)] else []) ++ (if cyclic.head? = some a then [(0x07, a)] else []) ++
      (if !p.hk && mwClass (p.micro a) = 5 && enStreamed (p.seg (bits (p.micro a) 0 11)) && onCycle p.next a then [(0x08, a)] else [])
  match firstFail p.rootFails with
  | some (r, d) => ⟨r, 0, d, 0⟩
  | none => match firstFail (words.map wordAll) with
    | some (r, d) => ⟨r, 0, d, 0⟩
    | none => match firstFail ((p.nanos words segs).map p.nanoFails) with
      | some (r, d) => ⟨r, 1, d, 0⟩
      | none => match firstFail (segs.map p.segFails) with
        | some (r, d) => ⟨r, 2, d, if r = 9 then p.segCause d else 0⟩
        | none => ⟨0, 0, 0, 0⟩

/-- The program of a tile. -/
def State.program (s : State) (t : Nat) : Program :=
  let x := s.store t
  { hk := false, entry := s.rd R.SEQ_ENTRY.ENTRY t, startSeg := s.rd R.SEQ_START.SEG t, limit := 16288, tables := 16288, nanoCount := 4096, ringCount := s.slotCount t,
    ringBase := s.rd R.SEG_STORE_CFG.RING_BASE t, slotSize := s.slotSize t, micro := smGet 0 x.micro, nano := smGet 0 x.nano, seg := smGet 0 x.segs,
    microBad := fun a => smGet 0 x.bad a ≠ 0, nanoBad := fun n => smGet 0 x.bad (65536 + n) ≠ 0 }

/-- The program that the loader checks for sequencer q: for the housekeeping one, its stores within the bounds of the section it was loaded from (R68, R259). -/
def State.programOf (s : State) (q : Nat) : Program :=
  if q < 16 then s.program q
  else
    let (e, n) := match s.image with | some im => (im.hkCount, im.hkNano.length) | none => (8096, 1024)
    { s.program 16 with hk := true, startSeg := 0, limit := e, tables := 8096, nanoCount := n, ringCount := 0, ringBase := 384, slotSize := 1 }

/-- SEQ_LOAD.STATUS while a loader check or a scrub of the other kind still runs. [log DESIGN CHOICE 124] -/
def loadStatus (busy v : Nat) : Nat := if busy = 0 then v else 1

/-- The write of SEQ_LOAD (R255, R258, R259): the housekeeping sequencer stands still only while HALTED. A write of both bits runs both. [log DESIGN CHOICE 124] -/
def loadHook : Hook := fun _ q w be s =>
  let check := R.SEQ_LOAD.CHECK.acts w be
  let scrub := R.SEQ_LOAD.SCRUB.acts w be
  if !check && !scrub then (s, false)
  else if s.rd R.SEQ_LOAD.STATUS q = 1 || s.playing q || (q = 16 && !s.halted 16) || (scrub && s.m.mode ≠ .service) then (s, true)
  else ((s.wr R.SEQ_LOAD.STATUS q 1).setSeq q { s.seq q with busy := b2n check + 2 * b2n scrub }, false)

/-- LOADER_CHECK: a write of SEQ_LOAD with CHECK = 1 (R255). -/
def execLoaderCheck (rq : Req) (t : Fin 16) (w : Word) (s : State) : Out' := writeRow rq .SEQ_LOAD t.val (Nat.lor w.toNat 1) loadHook s

/-- The loader ends (R255, R257, R600): the program as it stands now is judged. [log DESIGN CHOICE 124] -/
def execLoaderCheckDone (t : Fin 17) (s : State) : Out' :=
  done s fun s =>
    let t := t.val
    let b := (s.seq t).busy
    if b % 2 = 0 then s else
    let v := (s.programOf t).check
    let s := s.setSeq t { s.seq t with busy := b - 1 }
    let s := ((s.wr R.SEQ_LOAD.STATUS t (loadStatus (b - 1) (if v.reason = 0 then 2 else 3))).wb R.SEQ_LOAD.VALID t (v.reason = 0)).wr R.SEQ_LOAD.WHERE t v.place
    let s := (s.wr R.SEQ_LOAD.REASON t v.reason).wr R.SEQ_LOAD.DETAIL t v.detail
    s.when (t < 16) fun s => (s.wr R.SEG_CHECK.CAUSE t v.cause).raise (64 + 16 * t + 11)

end Sys2Proof.Machine
end

