-- ==== Sys2Proof/Machine/Request.lean ====
section
/-! DEFINITION. Mode requests (R84 to R87), and the machine check of a sequencer with its recovery (R108, R109, R252, R253, R547). -/

namespace Sys2Proof.Machine

/-- The image in force selects LEGACY. -/
def State.legacySel (s : State) : Bool := match s.image with | some im => im.legacy | none => false

/-- A commanded self-test, a store scrub or another step of SERVICE is in progress (R84). -/
def State.serviceBusy (s : State) : Bool := s.spare.selfTest.isSome || (List.range 17).any fun q => 2 ≤ (s.seq q).busy

/-- What a mode request asks of the present mode: the mode it leads to, or its REFUSE_CAUSE, which the manual does not name for a step of SERVICE in progress (R84, R85). -/
inductive Verdict' where
  | go (m : Mode)
  | refuse (cause : Nat)
  | unnamed
  deriving DecidableEq, Repr

/-- The verdict on DEV_MODE.REQ: 2 SERVICE, 3 IDLE or LEGACY, 4 RUN (R84, R85). -/
def State.reqVerdict (s : State) (req : Nat) : Verdict' :=
  if s.m.target.isSome then .refuse 2
  else if req = 2 then (if s.operating then .go .service else .refuse 1)
  else if req = 3 then
    match s.m.mode with
    | .service => if !s.fl R.DEV_MODE.STARTUP_DONE 0 then .refuse 4 else if s.serviceBusy then .unnamed else .go (if s.legacySel then .legacy else .idle)
    | .run => .go .idle
    | _ => .refuse 1
  else if s.legacySel then .refuse 6
  else if s.m.mode ≠ .idle then .refuse 1
  else if s.fl R.THS_STATUS.CONE_T 0 then .refuse 3
  else if s.m.relocking then .refuse 5
  else .go .run

/-- A request is refused: REQ_STATUS, REFUSE_CAUSE and the source MODE_REFUSED, and nothing else (R85). -/
def State.reqRefused (s : State) (cause : Nat) : State := ((s.wr R.DEV_MODE.REQ_STATUS 0 3).wr R.DEV_MODE.REFUSE_CAUSE 0 cause).raise 3

/-- Every playing tile stops at its next segment boundary, or at once with `now` (R86). -/
def State.stopTiles (s : State) (now : Bool) : State :=
  s.each (List.range 16) fun s t => if !(s.play t).playing then s else if now then s.tileStop t else s.stopAtBoundary t

/-- The housekeeping sequencer runs image code from ENTRY (R67, R547), with an empty stack and at base, as a start leaves a sequencer (R239). -/
def State.hkRestart (s : State) : State :=
  let s := [R.SEQ_STATUS.DEPTH, R.SEQ_STATUS.IN_HANDLER, R.SEQ_STATUS.LEVEL, R.SEQ_STATUS.IN_FLIGHT, R.SEQ_STATUS.ATOMIC, R.SEQ_STATUS.ATOMIC_RES].foldl (fun s f => s.wr f 16 0) s
  ((s.wr R.SEQ_STATUS.STATE 16 1).wr R.SEQ_PC.PC 16 (s.rd R.SEQ_ENTRY.ENTRY 16)).setSeq 16 { SeqSt.idle with next := s.rd R.SEQ_ENTRY.ENTRY 16 }

/-- A recovered sequencer with no word flagged leaves HALTED when the host requests IDLE (R109, R547). -/
def State.unhalt (s : State) (q : Nat) : State :=
  if s.halted q && (s.seq q).recovered && (s.store q).flagged.isEmpty then
    if q = 16 then s.hkRestart else (s.wr R.SEQ_STATUS.STATE q 0).setSeq q { s.seq q with recovered := false }
  else s

/-- The fields of the start register of `who`: 16 DEV_START, below it a saggar's SAG_START (R88, R469). -/
structure StartRegs where
  mask : Fld
  atTev : Fld
  tev : Fld
  armed : Fld
  refused : Fld
  inst : Nat

/-- The start register of `who`. -/
def startRegs (who : Nat) : StartRegs :=
  if who = 16 then ⟨R.DEV_START.TILE_MASK, R.DEV_START.AT_TEV, R.DEV_START.TEV, R.DEV_START.ARMED, R.DEV_START.REFUSED, 0⟩
  else ⟨R.SAG_START.TILE_MASK, R.SAG_START.AT_TEV, R.SAG_START.TEV, R.SAG_START.ARMED, R.SAG_START.REFUSED, who⟩

/-- REFUSED is set, with START_REFUSED for DEV_START (R408). -/
def State.startRefused (s : State) (who : Nat) : State :=
  let g := startRegs who
  (s.wr g.refused g.inst 1).when (who = 16) (·.raise 4)

/-- An armed start is cancelled, with REFUSED or without (R88). [log DEDUCED 16] -/
def State.cancelStart (s : State) (who : Nat) (refused : Bool) : State :=
  let g := startRegs who
  if !s.fl g.armed g.inst then s else
  let s := { s with m := { s.m with due := s.m.due.filter (· ≠ who) } }.wr g.armed g.inst 0
  s.when refused (·.startRefused who)

/-- Every armed start that waits for timed output n. -/
def State.armedOn (s : State) (n : Nat) : List Nat :=
  (List.range 17).filter fun who => let g := startRegs who; s.fl g.armed g.inst && s.rd g.tev g.inst = n

/-- A mode request (R85, R86). -/
def State.modeRequest (s : State) (req : Nat) (now : Bool) : State :=
  if req < 2 || 4 < req then s else
  match s.reqVerdict req with
  | .refuse c => s.reqRefused c
  | .unnamed => let (v, s) := s.draw 3; s.reqRefused (v % 256)
  | .go m =>
    let leaving : Bool := s.m.mode = .run || s.m.mode = .legacy
    let s := ({ s with m := { s.m with target := some m, byRequest := true, stopNow := now } }.wr R.DEV_MODE.REQ_STATUS 0 1).wr R.DEV_MODE.TRANSITION 0 1
    let s := s.when (s.m.mode = .service) fun s => s.each (List.range 17) State.unhalt
    s.when leaving (·.stopTiles now)

/-- The write of DEV_MODE with a request (R84, R85): the RW fields act as written. -/
def State.modeWrite (s : State) (w be : Nat) : State :=
  let (s, _) := writeWord .DEV_MODE 0 w be s
  s.when (R.DEV_MODE.REQ.enabled be) fun s => s.modeRequest (R.DEV_MODE.REQ.part w) (R.DEV_MODE.STOP_NOW.acts w be)

/-- The lanes of a tile that a machine check stops at once: their outstanding edges and compares never act (R253). -/
def State.lanesHalt (s : State) (t : Nat) : State :=
  (List.range 64).foldl (fun s i =>
    let x := s.lane (64 * t + i)
    if x.edges = [] && x.jobs = [] && x.drv = 0 then s
    else s.setLane (64 * t + i) { x with edges := [], jobs := [], drv := 0, want := 0, trans := none, window := 0, slots := 0, cmpWindow := 0, cmpSlots := 0 }) s

/-- RELOAD_PENDING follows the flagged words (R253). -/
def State.flagSync (s : State) (q : Nat) : State := s.wb R.SEQ_MC.RELOAD_PENDING q (!(s.store q).flagged.isEmpty)

/-- A machine check of a sequencer (R252, R253; R547 for the housekeeping one). -/
def State.machineCheck (s : State) (q cause addr info : Nat) : State :=
  if s.halted q then s else
  let s := ((s.wr R.SEQ_STATUS.STATE q 3).setSeq q { s.seq q with waiting := none, draining := false, vsync := false, recovered := false }).releaseHolder q
  let s := ((s.wr R.SEQ_MC.CAUSE q cause).wr R.SEQ_MC.ADDR q addr).wr R.SEQ_MC_INFO.INFO q info
  if q = 16 then (s.raise 20).shard 0x11 0x8000 (s.seqMcWord 16) info 0
  else
    let s := (s.engineStop q).lanesHalt q
    let s := (s.raise (64 + 16 * q)).shard 0x10 (place 2 q) (s.seqMcWord q) info 0
    let s := s.groupCheckStop q
    s.when (s.fl R.DEV_MODE.AUTO_RECOVER 0) (·.modeRequest 2 false)

/-- What R109 writes over a faulting word of sequencer q, by its key: an MC_TRAP word, a nano-word or a table entry of zeros. -/
def recoveredWord (q key : Nat) : Nat := if 65536 ≤ key then 0 else if key < (if q = 16 then 8096 else 16288) then 0xD0000000 else 0

/-- The store of R11 that holds a word of sequencer q. -/
def seqStore (q key : Nat) : Nat := if 65536 ≤ key then (if q = 16 then 81 else 48 + q) else if q = 16 then 80 else 32 + q

/-- A faulting word is retested, written and flagged, and logged (R109, R258). -/
def State.recoverWord (s : State) (q key : Nat) (hard : Bool) : State :=
  let a := key % 65536
  let st := seqStore q key
  let spared : Bool := hard && s.rd R.SPR_ROWS.ROWS st > 0
  let s := s.when hard fun s => let s := s.markRow st a 2; if spared && smGet 0 s.spare.rows (st * 2 ^ 20 + a) ≠ 3 then s.spareRow st a 2 else s
  let x := s.store q
  let v := recoveredWord q key
  let x := if 65536 ≤ key then { x with nano := smSet 0 x.nano a v } else { x with micro := smSet 0 x.micro a v }
  let s := s.setStore q { x with bad := smSet 0 x.bad key 0, flagged := if x.flagged.contains key then x.flagged else x.flagged ++ [key] }
  let s := (s.flagSync q).wr R.SEQ_LOAD.VALID q 0
  s.shard 0x12 (if q = 16 then 0x8000 else place 2 q) a (b2n spared) (s.rd R.SEQ_MC.CAUSE q)

/-- R109 steps 3 to 5 for a sequencer halted by machine check, at an entry to SERVICE. -/
def State.recover (s : State) (q : Nat) (hard : Bool) : State :=
  if !s.halted q then s else
  let cause := s.rd R.SEQ_MC.CAUSE q
  let addr := s.rd R.SEQ_MC.ADDR q
  let s := s.setSeq q { s.seq q with recovered := true }
  if 1 ≤ cause && cause ≤ 3 then s.recoverWord q (if cause = 2 then 65536 + addr else addr) hard
  else s.shard 0x12 (if q = 16 then 0x8000 else place 2 q) addr 2 cause

/-- The machine check of a fault in a word: its CAUSE is given, the mask of its failing bytes is INFO. -/
def State.parityCheck (s : State) (q cause key : Nat) : State := s.machineCheck q cause (key % 65536) (smGet 0 (s.store q).bad key)

end Sys2Proof.Machine
end

