-- ==== Sys2Proof/Machine/Parametric.lean ====
section
/-! DEFINITION. Octet ADCs and SMUs (R310 to R334): sequences, conversions, results and where they go, the host FIFOs, sense faults and
the SMU window monitor. -/

namespace Sys2Proof.Machine

/-- The depth of a parametric host FIFO (R328). -/
def fifoDepth : Nat := 64

/-- The writer of an entry of octet o may name context c: its group is allotted to the octet's saggar (R327). -/
def State.octCtxOk (s : State) (o c : Nat) : Bool := o < 128 && (s.octOwner o).isSome && s.grpOwner (c / 256) = s.octOwner o

/-- DEST delivers to a context (R327). -/
def destCtx (d : Nat) : Bool := d = 1 || d = 2
/-- DEST delivers to the host FIFO (R327). -/
def destHost (d : Nat) : Bool := d = 0 || d = 2

/-- A result reaches the host FIFO of octet o, or is lost (R328, R329). -/
def State.adcPush (s : State) (o : Nat) (r : FifoRes) : State :=
  let a := s.adc o
  if a.fifo.length < fifoDepth then (s.setAdc o { a with fifo := a.fifo ++ [r] }).wr R.ADC_STATUS.FIFO_COUNT o (a.fifo.length + 1)
  else
    let first := s.rd R.ADC_LOST.LOST o = 0
    (s.bump R.ADC_LOST.LOST o 1).when first (·.raise (320 + 4 * o + 3))

/-- The flags of a parametric sample in a context's FLAGS: SUSPECT and COMPLIANCE (R371). -/
def paraFlags (suspect compl : Bool) : Nat := 16 * b2n suspect + 32 * b2n compl

/-- The result of an entry of octet o is delivered (R324, R325, R327): `m` holds its conversions. -/
def State.adcDeliver (s : State) (o : Nat) (m : Mean) : State :=
  let e := s.rd R.ADC_STATUS.ENTRY o
  let i := 16 * o + e
  let r : Int := m.sum / (2 ^ s.rd R.ADC_SEQ_A.AVG_LOG2 i : Nat)
  let word := ofInt 18 r + e * 2 ^ 18 + m.lane * 2 ^ 22 + m.range * 2 ^ 25 + m.qty * 2 ^ 28 + b2n m.compl * 2 ^ 29 + b2n m.suspect * 2 ^ 30 + 2 ^ 31
  let dest := s.rd R.ADC_SEQ_A.DEST i
  let s := s.when (destHost dest) (·.adcPush o ⟨word, m.stamp⟩)
  let s := s.when (destCtx dest) (·.toContext ⟨o, s.rd R.ADC_SEQ_B.CTX i, r, paraFlags m.suspect m.compl, 65536 + 16 * m.qty + m.range⟩)
  s.acqOffer (o / 8) 1 (o % 8) ⟨m.time, r, m.lane, m.qty, m.compl, m.suspect, 0, 0, 0, 0⟩

/-- The sequence of octet o moves to its next entry, or its run ends (R324, R326, R329). -/
def State.adcNextEntry (s : State) (o : Nat) : State :=
  let e := s.rd R.ADC_STATUS.ENTRY o
  let go (s : State) (e : Nat) := (s.setAdc o { s.adc o with settle := s.rd R.ADC_SEQ_A.SETTLE (16 * o + e), mean := none }).wr R.ADC_STATUS.ENTRY o e
  if e < s.rd R.ADC_CTL.LEN_M1 o then go s (e + 1)
  else if s.rd R.ADC_CTL.MODE o = 2 then go s 0
  else
    let s := (s.setAdc o { s.adc o with settle := 0, mean := none }).wr R.ADC_STATUS.BUSY o 0
    s.when (s.rd R.ADC_CTL.MODE o = 1) (·.raise (320 + 4 * o + 3))

/-- A code at the end of an 18-bit range (R325). -/
def railed (w : Nat) (r : Int) : Bool := decide (r = (2 ^ (w - 1) : Nat) - 1) || decide (r = -(2 ^ (w - 1) : Nat))

/-- One slot of the sequence of octet o (R324, R325): a slot of SETTLE, or a conversion of `code`. The Bool says that its entry has ended. -/
def State.adcStep (s : State) (o code sub : Nat) : State × Bool :=
  let a := s.adc o
  if a.settle > 0 then (s.setAdc o { a with settle := a.settle - 1 }, false)
  else
    let i := 16 * o + s.rd R.ADC_STATUS.ENTRY o
    let lane := s.rd R.ADC_SEQ_A.LANE i
    let l := 8 * o + lane
    let m := a.mean.getD ⟨0, 0, false, false, lane, s.leff R.LANE_PPMU_CTL.RANGE l, b2n (s.leff R.LANE_PPMU_CTL.MODE l ≠ 0), s.stampAfter sub, s.clock.near + sub⟩
    let r := toSigned 18 code
    let bad := !s.ppmuOn l || (s.dac (9 * l + 8)).clamped || railed 18 r
    let m := { m with done := m.done + 1, sum := m.sum + r, compl := m.compl || bitAt (s.rd R.OCT_PPMU_COMPL.IN_COMPL o) lane, suspect := m.suspect || bad }
    if m.done < 2 ^ s.rd R.ADC_SEQ_A.AVG_LOG2 i then (s.setAdc o { a with mean := some m }, false)
    else (((s.setAdc o { a with mean := none }).adcDeliver o m).adcNextEntry o, true)

/-- ADC_SLOT: a slot edge of the ADC of octet o, `sub` units of 2^-16 ns after the last time tick; `code` is what it converts (R324, R385). A lending ADC alternates entries between the two sequences (R330). [log DEDUCED 100] -/
def execAdcSlot (o : Fin 128) (code : Nat) (s : State) (sub : Nat := 0) : Out' :=
  done s fun s =>
    let o := o.val
    let nb := Nat.xor o 1
    if s.adcGone o then s else
    let own := s.fl R.ADC_STATUS.BUSY o
    let lent := s.fl R.OCT_STATUS.ADC_LENDING o && s.fl R.ADC_STATUS.BUSY nb
    if !own && !lent then s else
    let second := lent && (!own || (s.adc o).turn)
    let (s, ended) := s.adcStep (if second then nb else o) code sub
    s.setAdc o { s.adc o with turn := if ended then !second else second }

/-- The write of ADC_CTL (R326): STOP ends the sequence, then the new configuration holds, then GO triggers; a write with GO of an octet without an ADC is discarded whole (R330, R599). [log DEDUCED 100] -/
def adcCtlHook : Hook := fun _ o w be s =>
  if R.ADC_CTL.GO.acts w be && s.adcNone o then (s, true) else
  let s := s.when (R.ADC_CTL.STOP.acts w be && s.fl R.ADC_STATUS.BUSY o) fun s =>
    (s.setAdc o { s.adc o with settle := 0, mean := none }).wr R.ADC_STATUS.BUSY o 0
  let (s, r) := writeWord .ADC_CTL o w be s
  (s.when (R.ADC_CTL.GO.acts w be && (s.rd R.ADC_CTL.TRIG o = 0 || s.rd R.ADC_CTL.TRIG o = 3)) (·.adcTrigger o), r)

/-- ADC_GO: a write of ADC_CTL with GO = 1. -/
def execAdcGo (rq : Req) (o : Fin 128) (w : Word) (s : State) : Out' := writeRow rq .ADC_CTL o.val (Nat.lor w.toNat 0x400) adcCtlHook s

/-- ADC_STOP: a write of ADC_CTL with STOP = 1. -/
def execAdcStop (rq : Req) (o : Fin 128) (w : Word) (s : State) : Out' := writeRow rq .ADC_CTL o.val (Nat.lor w.toNat 0x800) adcCtlHook s

/-- The write of ADC_SEQ_A (R324, R326, R327): AVG_LOG2 above 8 sets 8. [log DEDUCED 101] -/
def adcSeqAHook : Hook := fun _ i w be s =>
  let o := i / 16
  let dest := s.newv R.ADC_SEQ_A.DEST i w be
  if s.fl R.ADC_STATUS.BUSY o || (destCtx dest && !s.octCtxOk o (s.rd R.ADC_SEQ_B.CTX i)) then (s, true)
  else writeWord .ADC_SEQ_A i (putBits w 4 4 (min (bits w 4 4) 8)) be s

/-- The write of ADC_SEQ_B (R326, R327). [log DEDUCED 101] -/
def adcSeqBHook : Hook := fun _ i w be s =>
  if s.fl R.ADC_STATUS.BUSY (i / 16) || !s.octCtxOk (i / 16) (s.newv R.ADC_SEQ_B.CTX i w be) then (s, true) else writeWord .ADC_SEQ_B i w be s

/-- The read of ADC_FIFO (R328): the oldest result is removed and its time latched; an empty FIFO reads 0 and changes nothing. -/
def State.adcRead (s : State) (o : Nat) : State × Nat :=
  let a := s.adc o
  match a.fifo with
  | [] => (s, 0)
  | r :: rest =>
    let s := (s.setAdc o { a with fifo := rest }).wr R.ADC_STATUS.FIFO_COUNT o rest.length
    ((s.wr R.ADC_FIFO_TIME_LO.TIME_LO o r.time).wr R.ADC_FIFO_TIME_HI.TIME_HI o (r.time / 2 ^ 32), r.word)

/-- A read of a register that acts by being read: made and answered where the requester may read it; 0 otherwise. -/
def readRow (rq : Req) (r : Reg) (i : Nat) (f : Nat → State → State × Nat) (s : State) : Out' :=
  done s fun s =>
    if !s.reachable rq then s
    else if s.mayRead rq r i then
      let (s', v) := f (s.copyOf rq r i) s
      s'.send (.word v)
    else s.send (.word 0)

/-- ADC_FIFO_READ: a read of ADC_FIFO (R328). -/
def execAdcFifoRead (rq : Req) (o : Fin 128) (s : State) : Out' := readRow rq .ADC_FIFO o.val (fun o s => s.adcRead o) s

/-- A result reaches the host FIFO of SMU i, or is lost (R328, R331, R410). [log DEDUCED 102] -/
def State.smuPush (s : State) (i : Nat) (r : FifoRes) : State :=
  let a := s.smu i
  if a.fifo.length < fifoDepth then s.setSmu i { a with fifo := a.fifo ++ [r] }
  else
    let first := s.rd R.SMU_LOST.LOST i = 0
    (s.bump R.SMU_LOST.LOST i 1).when (first && i < 128) (·.raise (320 + 4 * i + 3))

/-- The side of a threshold that a value takes (R121, R334): `v` and `th` on one scale, both doubled; none inside the band of half width `half`. -/
def side (v th half : Int) : Option Bool := if v > th + half then some true else if v < th - half then some false else none

/-- What a window monitor does with one value (R129, R130, R333, R334): its new state, whether it is still unsettled, and whether its latch sets.
`lo` and `hi` are the sides that the value takes of the two thresholds. [log DEDUCED 46] -/
def MonSt.eval (m : MonSt) (unset inside level : Bool) (filter : Nat) (lo hi : Option Bool) : MonSt × Bool × Bool :=
  if unset then
    match lo, hi with
    | some a, some b =>
      let c := if inside then a && !b else !a || b
      ({ above := b, below := !a, met := 0, filt := false, mute := c }, false, false)
    | _, _ => ({ m with met := 0, filt := false, mute := false }, true, false)
  else
    let above := hi.getD m.above
    let below := (lo.map (!·)).getD m.below
    let c := if inside then !above && !below else above || below
    let met := if c then min (m.met + 1) 16 else 0
    let filt := c && met > filter
    let mute := m.mute && c
    ({ above := above, below := below, met := met, filt := filt, mute := mute }, false, if level then filt else filt && !m.filt && !mute)

/-- The SMU window monitor evaluates a result r (R333, R334). -/
def State.smuMonitor (s : State) (i qty : Nat) (r : Int) : State :=
  if !s.fl R.SMU_MON_CTL.EN i || (s.rd R.SMU_MEAS.QTY i = 2 && qty = 1) then s else
  let scale : Int × Int := if qty = 0 then (10, 4096) else (2, 1024)
  let th (k : Int) := side (scale.1 * r) (scale.2 * (2 * k)) (scale.2 * (s.rd R.SMU_MON_CTL.HYST i : Int))
  let (m, unset, set) := (s.smu i).mon.eval (s.fl R.SMU_STATUS.MON_UNSETTLED i) (s.fl R.SMU_MON_CTL.COND i) (s.fl R.SMU_MON_CTL.LATCH_MODE i)
    (s.rd R.SMU_MON_CTL.FILTER i) (th (s.rdS R.SMU_MON_THR.LO i)) (th (s.rdS R.SMU_MON_THR.HI i))
  let s := (s.setSmu i { s.smu i with mon := m }).wb R.SMU_STATUS.MON_UNSETTLED i unset
  if set && !s.fl R.SMU_STATUS.MON_LATCH i then (s.wr R.SMU_STATUS.MON_LATCH i 1).when (i < 128) (·.raise (320 + 4 * i + 2)) else s

/-- A result of SMU i is delivered and evaluated (R331, R333). -/
def State.smuDeliver (s : State) (i : Nat) (m : Mean) : State :=
  let r : Int := m.sum / (2 ^ s.rd R.SMU_MEAS.AVG_LOG2 i : Nat)
  let word := ofInt 20 r + m.range * 2 ^ 20 + m.qty * 2 ^ 23 + b2n m.compl * 2 ^ 24 + b2n m.suspect * 2 ^ 25 + 2 ^ 31
  let dest := s.rd R.SMU_MEAS.DEST i
  let s := s.when (destHost dest) (·.smuPush i ⟨word, m.stamp⟩)
  let s := s.when (destCtx dest) (·.toContext ⟨128 + i, s.rd R.SMU_MEAS.CTX i, r, paraFlags m.suspect m.compl, 2 * 65536 + 16 * m.qty + m.range⟩)
  let s := s.when (i < 128) (·.acqOffer (i / 8) 2 (i % 8) ⟨m.time, r, 0, m.qty, m.compl, m.suspect, 0, 0, 0, 0⟩)
  s.smuMonitor i m.qty r

/-- SMU i has a circuit: octet O's own SMU or the spare brought in for it (R323). -/
def State.smuServed (s : State) (i : Nat) : Bool := 128 ≤ i || s.rd R.OCT_STATUS.SMU_SOURCE i ≠ 3

/-- SMU_CONVERSION: a conversion of SMU i, 1 µs after the last, of the 20-bit `code` (R331). -/
def execSmuConversion (i : Fin 136) (code : Nat) (s : State) : Out' :=
  done s fun s =>
    let i := i.val
    if !s.fl R.SMU_MEAS.RUN i || !s.smuServed i then s else
    let x := s.smu i
    let q := s.rd R.SMU_MEAS.QTY i
    let qty := if q = 2 then b2n x.second else if q = 1 then 1 else 0
    let r := toSigned 20 code
    let bad := s.rd R.SMU_CTL.FMODE i = 2 || (s.dac (10000 + i)).clamped || railed 20 r || s.fl R.SMU_STATUS.LOCAL_SENSE i
    let m := ((if qty = 1 then x.mean2 else x.mean).getD ⟨0, 0, false, false, 0, s.rd R.SMU_CTL.IRANGE i, qty, s.stamp, s.clock.near⟩)
    let m := { m with done := m.done + 1, sum := m.sum + r, compl := m.compl || s.fl R.SMU_STATUS.IN_COMPLIANCE i, suspect := m.suspect || bad }
    let full := m.done ≥ 2 ^ s.rd R.SMU_MEAS.AVG_LOG2 i
    let left := if full then none else some m
    let x := if qty = 1 then { x with mean2 := left } else { x with mean := left }
    (s.setSmu i { x with second := q = 2 && !x.second }).when full (·.smuDeliver i m)

/-- The write of SMU_MEAS (R327, R331): AVG_LOG2 above 8 sets 8; a change of RUN, QTY or AVG_LOG2 starts a new mean. [log DEDUCED 101, 103] -/
def smuMeasHook : Hook := fun _ i w be s =>
  if destCtx (s.newv R.SMU_MEAS.DEST i w be) && !s.octCtxOk i (s.newv R.SMU_MEAS.CTX i w be) then (s, true) else
  let key (s : State) := (s.rd R.SMU_MEAS.RUN i, s.rd R.SMU_MEAS.QTY i, s.rd R.SMU_MEAS.AVG_LOG2 i)
  let (s', r) := writeWord .SMU_MEAS i (putBits w 3 4 (min (bits w 3 4) 8)) be s
  let s' := s'.when (s'.fl R.SMU_MEAS.RUN i) (·.calTouch 5 i)
  (s'.when (key s' ≠ key s) fun s => s.setSmu i { s.smu i with mean := none, mean2 := none, second := false }, r)

/-- The voltage window of SMU i in FI, in mV (R315): VLO to VHI, narrowed to VMIN to VMAX of every lane that the matrix connects. -/
def State.smuWindow (s : State) (i : Nat) : Int × Int :=
  let ls := if i < 128 then ((List.range 8).filter fun j => bitAt (s.lanesOn i) j).map (8 * i + ·) else []
  ls.foldl (fun w l => (max w.1 (s.laneDecl l).vmin, min w.2 (s.laneDecl l).vmax)) (s.rdS R.SMU_VCLAMP.VLO i, s.rdS R.SMU_VCLAMP.VHI i)

/-- A point at which an SMU can sense (R317): its SMU_S ball, or a lane's ball. -/
inductive SensePoint where
  | ball
  | lane (l : Nat)
  deriving DecidableEq, Repr

/-- The sense point that R317 and R323 choose for SMU i; none where it is connected to nothing. -/
def State.sensePoint (s : State) (i : Nat) : Option SensePoint :=
  if 128 ≤ i then none
  else if s.ballOn i then some .ball
  else ((List.range 8).find? fun j => bitAt (s.lanesOn i) j).map fun j => .lane (8 * i + j)

/-- The write of SMU_VCLAMP (R315). -/
def smuVclampHook : Hook := fun _ i w be s =>
  let hi := toSigned 16 (s.newv R.SMU_VCLAMP.VHI i w be)
  let lo := toSigned 16 (s.newv R.SMU_VCLAMP.VLO i w be)
  if lo > hi || lo < -2000 || hi > 7000 then (s, true) else writeWord .SMU_VCLAMP i w be s

/-- The write of SMU_MON_CTL (R334): a rise of EN leaves the monitor unsettled. -/
def smuMonHook : Hook := fun _ i w be s =>
  let was := s.fl R.SMU_MON_CTL.EN i
  let (s, r) := writeWord .SMU_MON_CTL i w be s
  let on := s.fl R.SMU_MON_CTL.EN i
  (s.when (on && !was) fun s => (s.setSmu i { s.smu i with mon := .idle }).wr R.SMU_STATUS.MON_UNSETTLED i 1, r)

/-- The write of SMU_STATUS (R317): a 1 to SENSE_FAULT ends local sense. -/
def smuStatusHook : Hook := fun _ i w be s =>
  let (s, r) := writeWord .SMU_STATUS i w be s
  (s.when (R.SMU_STATUS.SENSE_FAULT.acts w be) (·.wr R.SMU_STATUS.LOCAL_SENSE i 0), r)

/-- SMU_SENSE_RESTORE: a write of SMU_STATUS with SENSE_FAULT = 1 (R317). -/
def execSmuSenseRestore (rq : Req) (i : Fin 136) (w : Word) (s : State) : Out' := writeRow rq .SMU_STATUS i.val (Nat.lor w.toNat 16) smuStatusHook s

/-- SMU_SENSE_FAULT: the force node and the sense point of an SMU that has one have differed by more than 250 mV for 10 µs (R317). -/
def execSmuSenseFault (i : Fin 136) (s : State) : Out' :=
  done s fun s =>
    if s.fl R.SMU_STATUS.LOCAL_SENSE i.val || !s.smuServed i.val || (s.sensePoint i.val).isNone then s
    else (((s.wr R.SMU_STATUS.SENSE_FAULT i.val 1).wr R.SMU_STATUS.LOCAL_SENSE i.val 1).when (i.val < 128) (·.raise (320 + 4 * i.val + 2)))

/-- SMU_COMPLIANCE: IN_COMPLIANCE of an SMU changes (R316). -/
def execSmuCompliance (i : Fin 136) (on : Bool) (s : State) : Out' :=
  done s fun s =>
    let was := s.fl R.SMU_STATUS.IN_COMPLIANCE i.val
    let s := s.wb R.SMU_STATUS.IN_COMPLIANCE i.val on
    if on && !was then (s.wr R.SMU_STATUS.COMPLIANCE_HIT i.val 1).when (i.val < 128) (·.raise (320 + 4 * i.val + 2)) else s

/-- The read of SMU_FIFO (R328, R331). -/
def State.smuRead (s : State) (i : Nat) : State × Nat :=
  let a := s.smu i
  match a.fifo with
  | [] => (s, 0)
  | r :: rest =>
    (((s.setSmu i { a with fifo := rest }).wr R.SMU_FIFO_TIME_LO.TIME_LO i r.time).wr R.SMU_FIFO_TIME_HI.TIME_HI i (r.time / 2 ^ 32), r.word)

/-- SMU_FIFO_READ: a read of SMU_FIFO. -/
def execSmuFifoRead (rq : Req) (i : Fin 136) (s : State) : Out' := readRow rq .SMU_FIFO i.val (fun i s => s.smuRead i) s

end Sys2Proof.Machine
end

