-- ==== Sys2Proof/Machine/Dps.lean ====
section
/-! DEFINITION. Device power supplies behind their set DACs (R336 to R354): samples, the current limit and its actions, trips and
restarts, sense, monitors and the power estimate. -/

namespace Sys2Proof.Machine

/-- The fault source of channel d arrives (R410). -/
def State.dpsFault (s : State) (d : Nat) : State := s.when (d < 32) (·.raise (832 + 2 * d))

/-- A flag of the leader is set by what happened in member d (R350), and its fault source arises. -/
def State.dpsFlag (s : State) (f : Fld) (d : Nat) : State :=
  let k := s.dpsLead d
  let s := s.wr f k 1
  (s.when ((s.dpsMembers k).length > 1) (·.wr R.DPS_STATUS.FAULT_MEMBER k (d % 8))).dpsFault k

/-- Every output of the gang of channel d opens and discharges (R342, R344, R347, R350). -/
def State.dpsOpenAll (s : State) (d : Nat) : State :=
  s.each (s.dpsMembers (s.dpsLead d)) fun s m => if (s.dps m).closed then s.dpsOpen m else s

/-- DELAY of DPS_LIMIT in force: 0 acts as 1. -/
def State.dpsDelay (s : State) (d : Nat) : Nat := max (s.deff R.DPS_LIMIT.DELAY d) 1

/-- The limit of channel d has held for DELAY samples (R342, R354). -/
def State.dpsLimitAct (s : State) (d : Nat) : State :=
  let k := s.dpsLead d
  match s.deff R.DPS_LIMIT.ACTION k with
  | 1 => if s.fl R.DPS_STATUS.FOLDED k then s else s.dpsFlag R.DPS_STATUS.FOLDED d
  | 2 => (s.dpsFlag R.DPS_STATUS.TRIPPED d).dpsOpenAll d
  | _ => s

/-- One monitor's registers: control fields, thresholds, latch and unsettled flag, and its place in the channel. -/
structure DpsMonRegs where
  en : Fld
  cond : Fld
  level : Fld
  filter : Fld
  hyst : Fld
  action : Fld
  hi : Fld
  lo : Fld
  latch : Fld
  unset : Fld

/-- The registers of the current monitor. -/
def dpsMonI : DpsMonRegs :=
  ⟨R.DPS_MON_I_CTL.EN, R.DPS_MON_I_CTL.COND, R.DPS_MON_I_CTL.LATCH_MODE, R.DPS_MON_I_CTL.FILTER, R.DPS_MON_I_CTL.HYST, R.DPS_MON_I_CTL.ACTION,
   R.DPS_MON_I_THR.HI, R.DPS_MON_I_THR.LO, R.DPS_STATUS.MON_I_LATCH, R.DPS_STATUS.MON_I_UNSETTLED⟩

/-- The registers of the voltage monitor. -/
def dpsMonV : DpsMonRegs :=
  ⟨R.DPS_MON_V_CTL.EN, R.DPS_MON_V_CTL.COND, R.DPS_MON_V_CTL.LATCH_MODE, R.DPS_MON_V_CTL.FILTER, R.DPS_MON_V_CTL.HYST, R.DPS_MON_V_CTL.ACTION,
   R.DPS_MON_V_THR.HI, R.DPS_MON_V_THR.LO, R.DPS_STATUS.MON_V_LATCH, R.DPS_STATUS.MON_V_UNSETTLED⟩

/-- A monitor of channel d evaluates `v`, on a scale where threshold k stands at `unit` * k (R346, R347). -/
def State.dpsMonitor (s : State) (d : Nat) (m : DpsMonRegs) (v unit : Int) (get : DpsSt → MonSt) (put : DpsSt → MonSt → DpsSt) : State :=
  if s.deff m.en d = 0 then s else
  let th (f : Fld) := side (2 * v) (unit * (2 * (s.deff f d : Int))) (unit * (s.deff m.hyst d : Int))
  let (x, unset, set) := (get (s.dps d)).eval (s.fl m.unset d) (s.deff m.cond d = 1) (s.deff m.level d = 1) (s.deff m.filter d) (th m.lo) (th m.hi)
  let s := (s.setDps d (put (s.dps d) x)).wb m.unset d unset
  if !set then s
  else
    let s := if s.fl m.latch d then s else (s.wr m.latch d 1).raise (832 + 2 * d + 1)
    if s.deff m.action d = 1 then
      let k := s.dpsLead d
      let s := (s.wr R.DPS_STATUS.MON_OPENED k 1).when ((s.dpsMembers k).length > 1) (·.wr R.DPS_STATUS.FAULT_MEMBER k (d % 8))
      s.dpsOpenAll d
    else s

/-- A sample falls within 10 µs, 4,000 time ticks, of a current range change of the channel's gang (R341, R345). -/
def State.dpsRanged (s : State) (d : Nat) : Bool := (s.dps d).ranged ≠ 0 && s.clock.tick < (s.dps d).ranged + 3999

/-- DPS_SAMPLE: a sample of channel d, which is connected or has opened in this DAC tick (R342, R345 to R347, R354): the current and voltage codes as DPS_MEAS_I and DPS_MEAS_V report them, and
whether the limit holds the output. [log DEDUCED 104] -/
def execDpsSample (d : Fin 36) (i v : Int) (limiting : Bool) (s : State) : Out' :=
  done s fun s =>
    let d := d.val
    let x := s.dps d
    if !x.closed && !x.justOpen then s else
    let i := satSigned 16 i
    let v := satSigned 16 v
    let bad := s.dpsRanged d || (s.dac (11000 + s.dpsLead d)).clamped || s.dpsLocal d
    let s := ((s.wr R.DPS_MEAS_I.CODE d (ofInt 16 i)).wb R.DPS_MEAS_I.SUSPECT d (bad || railed 16 i)).wb R.DPS_MEAS_I.GANG d (d < 32 && s.rd R.DPS_GANG.MEMBERS d ≠ 0 && s.dpsLead d = d)
    let s := (s.wr R.DPS_MEAS_V.CODE d (ofInt 16 v)).wb R.DPS_MEAS_V.SUSPECT d (bad || railed 16 v)
    let t := d / 8 * 4 + s.rd R.DPS_SET_CFG.STROBE_TILE d
    let s := s.when (d < 32) (·.acqOffer t 3 (d % 8) ⟨s.clock.near, i, 0, 0, false, bad || railed 16 i, 0, 0, 0, 0⟩)
    let rise := limiting && !s.fl R.DPS_STATUS.IN_LIMIT d
    let s := s.wb R.DPS_STATUS.IN_LIMIT d limiting
    let s := s.when rise fun s => (s.wr R.DPS_STATUS.LIMIT_HIT d 1).dpsFault d
    let n := if limiting then min (x.count + 1) 255 else 0
    let s := s.setDps d { s.dps d with count := n }
    let s := s.when (n = s.dpsDelay (s.dpsLead d)) (·.dpsLimitAct d)
    let s := s.dpsMonitor d dpsMonI (5 * i) 128 (·.monI) (fun x m => { x with monI := m })
    let s := s.dpsMonitor d dpsMonV (256 * v) (dpsSpan (s.rd R.DPS_SET_CFG.SPAN (s.dpsLead d)) : Int) (·.monV) (fun x m => { x with monV := m })
    s.when (!(s.dps d).closed) (·.wr R.DPS_STATUS.IN_LIMIT d 0)

/-- DPS_HW_TRIP: the output current of channel d has exceeded 400 mA (R344). -/
def execDpsHwTrip (d : Fin 36) (s : State) : Out' :=
  done s fun s => if (s.dps d.val).closed || (s.dps d.val).justOpen then (s.dpsFlag R.DPS_STATUS.HW_TRIP d.val).dpsOpenAll d.val else s

/-- DPS_SENSE_FAULT: the sense ball and the force node have differed by more than 300 mV for 10 µs (R339, R350). -/
def execDpsSenseFault (d : Fin 36) (s : State) : Out' :=
  done s fun s =>
    let d := d.val
    if s.dpsLocal d then s
    else (s.dpsFlag R.DPS_STATUS.SENSE_FAULT d).each (s.dpsMembers (s.dpsLead d)) fun s m => s.wr R.DPS_STATUS.LOCAL_SENSE m 1

/-- The restart of the gang of channel d (R343, R354): once no flag holds the output open, the writes that waited act, and an output with OUT_EN = 1 walks from the zero
code; one with OUT_EN = 0 goes on walking down. -/
def State.dpsRestart (s : State) (d : Nat) : State :=
  if s.dpsHeldOpen d then s else
  let s := s.dpsTake d dpsWaits
  let k := 11000 + d
  let s := s.when (!s.dacFrozen k && (s.dac k).due && !(s.dac k).range) fun s => (s.setDac k { s.dac k with due := false }).trigger k
  s.each (s.dpsMembers d) fun s m =>
    let s := s.setDps m { s.dps m with count := 0 }
    if s.dpsWanted m && s.fl R.DPS_CTL.OUT_EN d then s.dpsClose m else s

/-- The flags whose clearing restarts a channel (R343, R344, R347, R354). -/
def dpsRestartFlags : List Fld := [R.DPS_STATUS.FOLDED, R.DPS_STATUS.TRIPPED, R.DPS_STATUS.HW_TRIP, R.DPS_STATUS.MON_OPENED, R.DPS_STATUS.SUPPLY_LOSS]

/-- The write of DPS_STATUS (R339, R343): restarts, and the return to the sense ball. -/
def dpsStatusHook : Hook := fun _ d w be s =>
  let restart := dpsRestartFlags.any fun f => s.fl f d && f.acts w be
  let sense := R.DPS_STATUS.SENSE_FAULT.acts w be
  let (s, r) := writeWord .DPS_STATUS d w be s
  let s := s.when sense fun s => s.each (s.dpsMembers d) fun s m => s.wr R.DPS_STATUS.LOCAL_SENSE m 0
  (s.when (restart && !s.gangMember d) (·.dpsRestart d), r)

/-- DPS_SENSE_RESTORE: a write of DPS_STATUS with SENSE_FAULT = 1 (R339). -/
def execDpsSenseRestore (rq : Req) (d : Fin 36) (w : Word) (s : State) : Out' := writeRow rq .DPS_STATUS d.val (Nat.lor w.toNat 32) dpsStatusHook s

/-- DPS_RESTART: a write of DPS_STATUS that clears flags (R343). [log DEDUCED 107] -/
def execDpsRestart (rq : Req) (d : Fin 36) (w : Word) (s : State) : Out' := writeRow rq .DPS_STATUS d.val w.toNat dpsStatusHook s

/-- I_FS of a DPS current range in µA (R341). -/
def dpsIfs (r : Nat) : Int := [250000, 25000, 2500, 250].getD r 250000

/-- The dissipation estimate of channel d in pW times 131,072 (R348); 0 while it is not connected. -/
def State.dpsPower (s : State) (d : Nat) : Int :=
  if !(s.dps d).closed then 0
  else (6000000 - 250 * s.rdS R.DPS_MEAS_V.CODE d) * s.rdS R.DPS_MEAS_I.CODE d * dpsIfs (s.deff R.DPS_CTL.IRANGE (s.dpsLead d)) * 5

/-- DPS_POWER_ESTIMATE: the estimate of quadrant q (R348). -/
def execDpsPowerEstimate (q : Fin 4) (s : State) : Out' :=
  done s fun s =>
    let ds := (List.range 8).map (8 * q.val + ·)
    let sum := ds.foldl (fun a d => a + s.dpsPower d) 0
    let first := 8 * q.val
    if sum ≤ 3000000000000 * 131072 then s.setDps first { s.dps first with hot := 0 }
    else
      let n := min ((s.dps first).hot + 1) 101
      let s := s.setDps first { s.dps first with hot := n }
      if n ≠ 100 then s else
      let s := s.each ds fun s d => s.wr R.DPS_STATUS.QUAD_PWR d 1
      s.dpsFault (ds.foldl (fun b d => if s.dpsPower d > s.dpsPower b then d else b) first)

/-- VDPS is below its fail level (R97, R354): every connected output opens and keeps SUPPLY_LOSS. -/
def State.supplyLoss (s : State) : State :=
  s.each dpsAll fun s d => if (s.dps d).closed || (s.dps d).justOpen then ((s.wr R.DPS_STATUS.SUPPLY_LOSS d 1).dpsFault d).dpsOpen d else s

end Sys2Proof.Machine
end

