-- ==== Sys2Proof/Machine/Sequencer.lean ====
section
/-! DEFINITION. The sequencer: one command for each micro-word it executes, its waits, its event entries and returns, the nano-words it issues, and
the writes of its stores (R219 to R260). -/

namespace Sys2Proof.Machine

/-- The housekeeping sequencer fetches from the boot flash (R260). -/
def State.flashExec (s : State) (q : Nat) : Bool := q = 16 && s.fl R.SEQ_CTL.FLASH_EXEC 16 && s.m.mode = .service

/-- The housekeeping sequencer runs its fixed program (R547). -/
def State.hkFixed (s : State) (q : Nat) : Bool := q = 16 && s.fl R.HK_STATUS.HK_FIXED 0

/-- The micro-address of branch-select entry 0 (R220, R259). -/
def seqTables (q : Nat) : Nat := if q = 16 then 8096 else 16288

/-- The micro-word at an address: of the microstore, or of the boot flash under FLASH_EXEC (R260). -/
def State.microWord (s : State) (q a : Nat) : Nat :=
  if s.flashExec q && a < 8096 then
    let at' := 4 * (s.rd R.HK_SEQ_FLASH_BASE.WORD 0 + a)
    if at' + 4 ≤ s.flashReach then leVal (s.flashRead at' 4) else 0
  else smGet 0 (s.store q).micro a

/-- The fetch of a micro-word: one past the flash that the window reaches sets RANGE (R260, R499). -/
def State.fetched (s : State) (q a : Nat) : State :=
  s.when (s.flashExec q && a < 8096 && s.fl R.FLS_STATUS.PRESENT 0 && s.flashReach < 4 * (s.rd R.HK_SEQ_FLASH_BASE.WORD 0 + a) + 4) (·.wr R.FLS_STATUS.RANGE 0 1)

/-- The sequencer runs the fixed program of a personality, which is not visible (R571). -/
def State.romRuns (s : State) (q : Nat) : Bool := q < 16 && s.legacyHides (.tile q)

/-- A sequencer can execute its next micro-word: RUNNING, with no nano-word or STOP to wait for, no watchdog due, and no flash busy under a fetch (R222, R244, R501). -/
def State.seqReady (s : State) (q : Nat) : Bool :=
  let x := s.seq q
  s.alive && !s.hkFixed q && !s.romRuns q && s.rd R.SEQ_STATUS.STATE q = 1 && !x.vsync && !x.draining && x.ran < 1024 && !(s.flashExec q && s.fl R.FLS_STATUS.BUSY 0)

/-- A nano-word is issued (R226): to the tile's vector pipeline, or acting at once in the housekeeping sequencer (R259). -/
def State.issueNano (s : State) (q n : Nat) : State :=
  if q = 16 then s.nanoShots 16 (s.nanoWord 16 n)
  else s.setPlay q { s.play q with issued := (s.play q).issued ++ [n] }

/-- A micro-word that ends without a fault: where the sequencer goes next, and whether it was a yield point (R243, R244). -/
def State.seqNext (s : State) (q pc next : Nat) (yield : Bool) : State :=
  if s.rd R.SEQ_STATUS.STATE q ≠ 1 then s.wr R.SEQ_PC.PC q pc
  else
    let x := s.seq q
    (s.wr R.SEQ_PC.PC q pc).setSeq q { x with next := next % 2 ^ 14, ran := if yield then 0 else x.ran + 1, atYield := yield, entered := false }

/-- The micro-word at the sequencer's next address executes when `p` accepts it (R222, R244): its parity is checked and its nano-word issued before `f` acts, which
answers the state and the next address; in the housekeeping sequencer the nano-word acts after the word's own operation (R233, R259). Any other word, and a sequencer that executes none, leave the state as it is. [log DEDUCED 40] -/
def State.execMicro (s : State) (q : Nat) (p : Nat → Bool) (f : State → Nat → Nat → State × Nat) : State :=
  let pc := (s.seq q).next
  let w := s.microWord q pc
  if !s.seqReady q || !p w then s
  else if smGet 0 (s.store q).bad pc ≠ 0 && !(s.flashExec q && pc < 8096) then (s.parityCheck q 1 pc).wr R.SEQ_PC.PC q pc
  else
    let n := mwNano w
    let issues : Bool := n ≠ 0 && !mwEnds w
    let s := s.fetched q pc
    if issues && smGet 0 (s.store q).bad (65536 + n) ≠ 0 then (s.parityCheck q 2 (65536 + n)).wr R.SEQ_PC.PC q pc
    else
      let s := s.when (issues && q ≠ 16) (·.issueNano q n)
      let (s, next) := f s pc w
      let s := s.when (issues && q = 16) (·.issueNano q n)
      s.seqNext q pc next (mwYield w)

/-- A micro-word of a class. -/
def isClass (c : Nat) (w : Nat) : Bool := mwClass w = c

/-- STEP (R222): with VSYNC, the next word waits for the nano-word it issued. -/
def execStep (q : Fin 17) (s : State) : Out' :=
  done s fun s => s.execMicro q.val (isClass 0) fun s pc w =>
    (s.when (bitAt w 14 && mwNano w ≠ 0 && q.val ≠ 16) fun s => s.setSeq q.val { s.seq q.val with vsync := true }, pc + 1)

/-- JUMP (R222). -/
def execJump (q : Fin 17) (s : State) : Out' := done s fun s => s.execMicro q.val (isClass 1) fun s _ w => (s, bits w 0 14)

/-- BRANCH (R231): a parity fault or a reserved form of its branch-select entry is a machine check. -/
def execBranch (q : Fin 17) (s : State) : Out' :=
  done s fun s => s.execMicro q.val (isClass 2) fun s pc w =>
    let a := seqTables q.val + bits w 10 5
    let e := smGet 0 (s.store q.val).micro a
    if smGet 0 (s.store q.val).bad a ≠ 0 then (s.parityCheck q.val 3 a, pc)
    else if bselCount e > 4 || bitAt e 31 then (s.machineCheck q.val 6 pc 0, pc)
    else
      let off := (List.range (bselCount e)).foldl (fun v j => v + b2n (s.cond q.val (bselSel e j) != bitAt e (27 + j)) * 2 ^ j) 0
      (s, 16 * bits w 0 10 + off)

/-- LOOP (R222, R232). -/
def execLoop (q : Fin 17) (s : State) : Out' :=
  done s fun s => s.execMicro q.val (isClass 3) fun s pc w =>
    let i := 8 * q.val + bits w 12 3
    let v := s.rd R.SEQ_CNT.VALUE i
    if v = 0 then (s, pc + 1)
    else (s.wr R.SEQ_CNT.VALUE i (v - 1), if v = 1 then pc + 1 else (pc + 2 ^ 14 - bits w 0 12) % 2 ^ 14)

/-- A CNT word with an OP code. -/
def isCnt (op : Nat) (w : Nat) : Bool := mwClass w = 4 && bits w 9 3 = op

/-- The counter of a CNT word. -/
def cntInst (q w : Nat) : Nat := 8 * q + bits w 12 3

/-- CNT OP 0b000 (R232). -/
def execCntLoadImm (q : Fin 17) (s : State) : Out' :=
  done s fun s => s.execMicro q.val (isCnt 0) fun s pc w => (s.wr R.SEQ_CNT.VALUE (cntInst q.val w) (bits w 0 9), pc + 1)

/-- CNT OP 0b001 (R232). -/
def execCntLoadCinit (q : Fin 17) (s : State) : Out' :=
  done s fun s => s.execMicro q.val (isCnt 1) fun s pc w => (s.wr R.SEQ_CNT.VALUE (cntInst q.val w) (s.rd R.SEQ_CINIT.VALUE (16 * q.val + bits w 0 4)), pc + 1)

/-- CNT OP 0b010 (R232). -/
def execCntIncrement (q : Fin 17) (s : State) : Out' :=
  done s fun s => s.execMicro q.val (isCnt 2) fun s pc w => (s.bump R.SEQ_CNT.VALUE (cntInst q.val w) 1, pc + 1)

/-- CNT OP 0b011 (R232). -/
def execCntDecrement (q : Fin 17) (s : State) : Out' :=
  done s fun s => s.execMicro q.val (isCnt 3) fun s pc w => (s.wr R.SEQ_CNT.VALUE (cntInst q.val w) (s.rd R.SEQ_CNT.VALUE (cntInst q.val w) - 1), pc + 1)

/-- CNT OP 0b100 (R232). -/
def execCntSnapshot (q : Fin 17) (s : State) : Out' :=
  done s fun s => s.execMicro q.val (isCnt 4) fun s pc w => (s.wr R.SEQ_CNT_SNAP.VALUE (cntInst q.val w) (s.rd R.SEQ_CNT.VALUE (cntInst q.val w)), pc + 1)

/-- A segment joins the queue of a tile that has room (R234); in an interruption with nothing chosen it is the successor (R274). -/
def State.enqueue (s : State) (t seg : Nat) : State :=
  let p := s.play t
  let idle : Bool := p.playing && p.phase ≠ .seg && p.phase ≠ .stopped && !p.samePass && p.succ.isNone && p.starving.isNone && p.queue.isEmpty
  let s := s.setPlay t { p with queue := p.queue ++ [seg] }
  (s.when idle (·.choose t seg true)).segSync t

/-- PLAY (R234): with a full queue it waits in place and executes again. -/
def execPlay (t : Fin 16) (s : State) : Out' :=
  done s fun s => s.execMicro t.val (isClass 5) fun s pc w =>
    if (s.play t.val).queue.length < 4 then (s.enqueue t.val (bits w 0 11), pc + 1) else (s, pc)

/-- WAIT (R229, R240): the latched sources clear and the sequencer dozes. -/
def execWait (q : Fin 17) (s : State) : Out' :=
  done s fun s => s.execMicro q.val (isClass 6) fun s pc w =>
    let x : WaitSt := { cond := bits w 0 6, pol := bitAt w 6, cen := bitAt w 7, timeout := bits w 8 3 }
    let s := s.setSeq q.val { s.seq q.val with waiting := some x, timedOut := false, woke := false, ran := 0, atYield := true, entered := false, next := pc }
    (s.wr R.SEQ_STATUS.STATE q.val 2, pc)

/-- A WAIT ends and the sequencer resumes after it; it is a yield point (R240, R243). -/
def State.waitEnd (s : State) (q : Nat) (f : SeqSt → SeqSt) : State :=
  let x := f (s.seq q)
  (s.wr R.SEQ_STATUS.STATE q 1).setSeq q { x with waiting := none, next := (x.next + 1) % 2 ^ 14, ran := 0, atYield := true }

/-- The WAIT in progress of a sequencer. -/
def State.waitOf (s : State) (q : Nat) : Option WaitSt := if s.rd R.SEQ_STATUS.STATE q = 2 then (s.seq q).waiting else none

/-- The condition of a WAIT reads POL (R240). -/
def execWaitConditionMet (q : Fin 17) (s : State) : Out' :=
  done s fun s => match s.waitOf q.val with
    | some x => if x.cen && s.cond q.val x.cond == x.pol then s.waitEnd q.val id else s
    | none => s

/-- The timeout of a WAIT passes (R240). -/
def execWaitTimeout (q : Fin 17) (s : State) : Out' :=
  done s fun s => match s.waitOf q.val with
    | some x => if x.timeout ≠ 0 then s.waitEnd q.val fun y => { y with timedOut := true } else s
    | none => s

/-- The event that a sequencer takes at a level (none: base) with a number of frames on its stack (R245, R250). -/
def State.pick (s : State) (q : Nat) (level : Option Nat) (depth : Nat) : Option Nat :=
  if !s.fl R.SEQ_CTL.VEC_EN q then none
  else if !s.operating then (if depth = 0 then (s.seqEvents q).head? else none)
  else if 4 ≤ depth then none
  else s.bestOf ((s.seqEvents q).filter fun n =>
    s.rd R.SEQ_CTL.MIN_GROUP q ≤ s.srcGroup n && (match level with | none => true | some l => decide (l < s.srcGroup n)))

/-- The level in force of a sequencer: none is base. -/
def State.level (s : State) (q : Nat) : Option Nat := if s.fl R.SEQ_STATUS.IN_HANDLER q then some (s.rd R.SEQ_STATUS.LEVEL q) else none

/-- The event that may be vectored now. -/
def State.vectorable (s : State) (q : Nat) : Option Nat := s.pick q (s.level q) (s.rd R.SEQ_STATUS.DEPTH q)

/-- A pending event wakes a WAITING sequencer that cannot vector it (R242, R423). [log DEDUCED 39] -/
def execWaitWake (q : Fin 17) (s : State) : Out' :=
  done s fun s => match s.waitOf q.val with
    | some _ => if s.operating && !(s.seqEvents q.val).isEmpty && (s.vectorable q.val).isNone then s.waitEnd q.val fun y => { y with woke := true } else s
    | none => s

/-- An LVL word with an OP code. -/
def isLvl (op : Nat) (w : Nat) : Bool := mwClass w = 7 && bits w 12 3 = op

/-- LVL SET_LSET (R235). -/
def execSetLset (t : Fin 16) (s : State) : Out' :=
  done s fun s => s.execMicro t.val (isLvl 0) fun s pc w =>
    (if (s.play t.val).playing then s.setPlay t.val { s.play t.val with lsetNext := some (bits w 0 3) } else s.setLevels t.val (bits w 0 3), pc + 1)

/-- The DACs that UPDATE_ALL of a tile triggers (R235). -/
def State.updateDacs (s : State) (t arg : Nat) : List Nat :=
  ((List.range 8).filter fun o => bitAt arg o).flatMap (fun o => octetDacs (8 * t + o)) ++
    (if bitAt arg 8 then (((List.range 8).map (t / 4 * 8 + ·)).filter fun d => s.rd R.DPS_SET_CFG.STROBE_TILE d = t % 4).map (11000 + ·) else [])

/-- LVL UPDATE_ALL (R235). -/
def execUpdateAll (t : Fin 16) (s : State) : Out' :=
  done s fun s => s.execMicro t.val (isLvl 1) fun s pc w => (s.each (s.updateDacs t.val (bits w 0 9)) State.trigger, pc + 1)

/-- A MEASURE word with CLOSE as given. -/
def isMeasure (close : Bool) (w : Nat) : Bool := mwClass w = 8 && bitAt w 14 == close

/-- A MEASURE (R229, R236): MEASURE_REFUSED follows each. -/
def State.measureWord (s : State) (t w op : Nat) : State :=
  let (s, ok) := s.measure t (bits w 0 14) op
  let s := s.setSeq t { s.seq t with refused := !ok }
  s.when (!ok) (·.wr R.SEQ_STATUS.MEASURE_REFUSED t 1)

/-- MEASURE with CLOSE = 0 (R236). -/
def execMeasureOpen (t : Fin 16) (s : State) : Out' := done s fun s => s.execMicro t.val (isMeasure false) fun s pc w => (s.measureWord t.val w 1, pc + 1)

/-- MEASURE with CLOSE = 1 (R236). -/
def execMeasureClose (t : Fin 16) (s : State) : Out' := done s fun s => s.execMicro t.val (isMeasure true) fun s pc w => (s.measureWord t.val w 2, pc + 1)

/-- YIELD (R243). -/
def execYield (q : Fin 17) (s : State) : Out' := done s fun s => s.execMicro q.val (isClass 9) fun s pc _ => (s, pc + 1)

/-- The vector-table entries that the search for a source reads, in order, and the one it ends at (R246, R247). -/
def State.vectorSearch (s : State) (q n : Nat) : List Nat × Nat :=
  let base := seqTables q + 32
  let word (e : Nat) : Nat := smGet 0 (s.store q).micro (base + e)
  match (List.range 63).find? fun j => bitAt (word (j + 1)) 15 && bits (word (j + 1)) 16 11 = n with
  | some j => ((List.range (j + 1)).map fun i => base + i + 1, base + j + 1)
  | none => ((List.range 63).map (fun i => base + i + 1) ++ [base], base)

/-- E3 of an entry: the vector table is read and the handler's first word comes next, or a parity fault in it is a machine check (R247). -/
def State.entryRead (s : State) (q n : Nat) : State :=
  let (read, hit) := s.vectorSearch q n
  match (read.filter fun a => smGet 0 (s.store q).bad a ≠ 0).min? with
  | some a => s.parityCheck q 3 a
  | none => s.setSeq q { s.seq q with next := bits (smGet 0 (s.store q).micro hit) 0 14, ran := 0, atYield := false, entered := true }

/-- ATOMIC_RES shows the interrupted block's mask while IN_FLIGHT is 1, and the running context's otherwise. -/
def State.resSync (s : State) (q : Nat) : State :=
  s.wr R.SEQ_STATUS.ATOMIC_RES q (if s.fl R.SEQ_STATUS.IN_FLIGHT q then (s.seq q).inRes else (s.seq q).res)

/-- E2 and E3 of an entry whose frame is in place: `atomic` and `res` are those of the interrupted context (R247, R249). -/
def State.enterTop (s : State) (q n : Nat) (atomic : Bool) (res : Nat) : State :=
  let s := ((s.wr R.SEQ_STATUS.IN_HANDLER q 1).wr R.SEQ_STATUS.LEVEL q (s.srcGroup n)).wb R.SEQ_STATUS.IN_FLIGHT q atomic
  let s := (s.wr R.SEQ_STATUS.ATOMIC q 0).setSeq q { s.seq q with res := 0, inRes := res, src := some n }
  (s.resSync q).entryRead q n

/-- An entry (R247): the claim, the frame with its return address, and the handler. -/
def State.enter (s : State) (q n ret : Nat) : State :=
  let s := s.claim n q
  let d := s.rd R.SEQ_STATUS.DEPTH q
  let i := 4 * q + d
  let x := s.seq q
  let atomic := s.fl R.SEQ_STATUS.ATOMIC q
  let s := (s.wr R.SEQ_STACK.RETURN i ret).wr R.SEQ_STACK.LEVEL i (s.rd R.SEQ_STATUS.LEVEL q)
  let s := (s.wb R.SEQ_STACK.BASE i (!s.fl R.SEQ_STATUS.IN_HANDLER q)).wr R.SEQ_STACK.IN_FLIGHT i (s.rd R.SEQ_STATUS.IN_FLIGHT q)
  let s := (s.wb R.SEQ_STACK.ATOMIC i atomic).wr R.SEQ_STATUS.DEPTH q (d + 1)
  let s := (s.wr R.SEQ_STATUS.STATE q 1).setSeq q { x with waiting := none, frames := x.frames ++ [⟨x.res, x.inRes, x.src⟩] }
  s.enterTop q n atomic x.res

/-- The fixed program takes an event: one shard with its source number (R547). -/
def State.hkTake (s : State) : State :=
  match (s.seqEvents 16).head? with
  | some n => ((s.claim n 16).shard 0x03 (srcPlace n) n 0 0).release n
  | none => s

/-- EVENT_VECTOR: a qualifying event is entered at a yield point, in a WAIT, or as an entry completes (R243, R245 to R248, R250). [log DEDUCED 39] -/
def execEventVector (q : Fin 17) (s : State) : Out' :=
  done s fun s =>
    let q := q.val
    if !s.alive then s else
    if s.hkFixed q then s.hkTake else
    if s.romRuns q then s else
    let x := s.seq q
    let st := s.rd R.SEQ_STATUS.STATE q
    let may : Bool := st = 2 || (st = 1 && (x.atYield || (x.entered && s.operating)))
    match s.vectorable q with
    | some n => if may then s.enter q n x.next else s
    | none => s

/-- A sequencer's return-stack frame n. -/
def State.frameLevel (s : State) (i : Nat) : Option Nat := if s.fl R.SEQ_STACK.BASE i then none else some (s.rd R.SEQ_STACK.LEVEL i)

/-- RETE (R249): the exit restores its frame, or becomes the entry of an event that qualifies at X1 by R245 with the level restored. The handler's source is
released; what that makes pending is presented only after X1 (R422). -/
def State.rete (s : State) (q pc : Nat) : State × Nat :=
  let d := s.rd R.SEQ_STATUS.DEPTH q
  if d = 0 then (s.machineCheck q 7 pc 0, pc) else
  let i := 4 * q + (d - 1)
  let x := s.seq q
  let hit := s.pick q (if s.operating then s.frameLevel i else none) (if s.operating then d else d - 1)
  let s := match x.src with | some n => s.release n | none => s
  let fr := x.frames.getLast?.getD ⟨0, 0, none⟩
  match hit with
  | some n =>
    let s := (s.claim n q).enterTop q n (s.fl R.SEQ_STACK.ATOMIC i) fr.res
    (s, (s.seq q).next)
  | none =>
    let s := (s.wb R.SEQ_STATUS.IN_HANDLER q (!s.fl R.SEQ_STACK.BASE i)).wr R.SEQ_STATUS.LEVEL q (if s.fl R.SEQ_STACK.BASE i then 0 else s.rd R.SEQ_STACK.LEVEL i)
    let s := (s.wr R.SEQ_STATUS.IN_FLIGHT q (s.rd R.SEQ_STACK.IN_FLIGHT i)).wr R.SEQ_STATUS.ATOMIC q (s.rd R.SEQ_STACK.ATOMIC i)
    let ret := s.rd R.SEQ_STACK.RETURN i
    let s := [R.SEQ_STACK.RETURN, R.SEQ_STACK.LEVEL, R.SEQ_STACK.BASE, R.SEQ_STACK.IN_FLIGHT, R.SEQ_STACK.ATOMIC].foldl (fun s f => s.wr f i 0) s
    let s := (s.wr R.SEQ_STATUS.DEPTH q (d - 1)).setSeq q { x with frames := x.frames.dropLast, res := fr.res, inRes := fr.inRes, src := fr.src }
    (s.resSync q, ret)

/-- RETE (R249); the count of R244 restarts, and the word is no yield point of the context it restores. -/
def execRete (q : Fin 17) (s : State) : Out' :=
  done s fun s =>
    let q := q.val
    let pc := (s.seq q).next
    let s' := s.execMicro q (isClass 10) fun s pc _ => s.rete q pc
    if s.seqReady q && isClass 10 (s.microWord q pc) && s'.rd R.SEQ_STATUS.STATE q = 1 then
      let direct : Bool := s'.rd R.SEQ_STATUS.DEPTH q = s.rd R.SEQ_STATUS.DEPTH q
      s'.setSeq q { s'.seq q with ran := 0, atYield := false, entered := direct }
    else s'

/-- STOP with DRAIN as given. -/
def isStop (drain : Bool) (w : Nat) : Bool := mwClass w = 11 && bitAt w 14 == drain

/-- STOP with DRAIN = 1 (R237): the tile stops once its queue is empty and its last segment has ended. -/
def execStopDrain (t : Fin 16) (s : State) : Out' :=
  done s fun s => s.execMicro t.val (isStop true) fun s pc _ =>
    let p := s.play t.val
    let s := s.setSeq t.val { s.seq t.val with draining := true }
    (if p.playing then s.setPlay t.val { p with stopAt := if p.stopAt = 0 then 1 else p.stopAt } else s.seqStopped t.val, pc + 1)

/-- STOP with DRAIN = 0 (R237): the queue empties, and the tile stops at its next vector boundary, and in a lockstep group with the group; the sequencer waits for the stop (R26, R33, R288). -/
def execStop (t : Fin 16) (s : State) : Out' :=
  done s fun s => s.execMicro t.val (isStop false) fun s pc _ => (if (s.play t.val).playing then (s.setSeq t.val { s.seq t.val with draining := true }).stopNow t.val else s.seqStopped t.val, pc + 1)

/-- ATOMIC with BEGIN as given. -/
def isAtomic (b : Bool) (w : Nat) : Bool := mwClass w = 12 && bitAt w 8 == b

/-- ATOMIC with BEGIN = 1 (R251). -/
def execAtomicBegin (q : Fin 17) (s : State) : Out' :=
  done s fun s => s.execMicro q.val (isAtomic true) fun s pc w =>
    let s := (s.wr R.SEQ_STATUS.ATOMIC q.val 1).setSeq q.val { s.seq q.val with res := Nat.lor (s.seq q.val).res (bits w 0 8) }
    (s.resSync q.val, pc + 1)

/-- ATOMIC with BEGIN = 0 (R251). -/
def execAtomicEnd (q : Fin 17) (s : State) : Out' :=
  done s fun s => s.execMicro q.val (isAtomic false) fun s pc _ =>
    let s := (s.wr R.SEQ_STATUS.ATOMIC q.val 0).setSeq q.val { s.seq q.val with res := 0 }
    (s.resSync q.val, pc + 1)

/-- MC_TRAP (R222, R252). -/
def execMcTrap (q : Fin 17) (s : State) : Out' := done s fun s => s.execMicro q.val (isClass 13) fun s pc w => (s.machineCheck q.val 5 pc (bits w 0 15), pc)

/-- A class, LVL OP or CNT OP that a sequencer does not have (R222, R232, R235, R259). -/
def isReserved (q : Nat) (w : Nat) : Bool :=
  14 ≤ mwClass w || (mwClass w = 4 && 4 < bits w 9 3) || (mwClass w = 7 && 1 < bits w 12 3) || (q = 16 && (mwClass w = 5 || mwClass w = 7 || mwClass w = 8 || mwClass w = 11))

/-- RSV_CLASS (R252). [log DEDUCED 40] -/
def execRsvClass (q : Fin 17) (s : State) : Out' := done s fun s => s.execMicro q.val (isReserved q.val) fun s pc _ => (s.machineCheck q.val 6 pc 0, pc)

/-- WATCHDOG (R244): 1,024 micro-words have executed since the last yield point. -/
def execWatchdog (q : Fin 17) (s : State) : Out' :=
  done s fun s => if s.rd R.SEQ_STATUS.STATE q.val = 1 && 1024 ≤ (s.seq q.val).ran then s.machineCheck q.val 4 (s.rd R.SEQ_PC.PC q.val) 0 else s

/-- Several nano-words combined at one boundary (R227): their words, the last one first in force. -/
def nanoMerge (l : List Nat) : Nat :=
  let last := l.getLastD 0
  let shots := l.foldl (fun v w => Nat.lor v (Nat.lor (bits w 74 15 * 2 ^ 74) (bits w 128 4 * 2 ^ 128))) (last % 2 ^ 74)
  (List.range 8).foldl (fun v k => v + l.foldl (fun a w => if bits w (96 + 4 * k) 4 = 0 then a else bits w (96 + 4 * k) 4) 0 * 2 ^ (96 + 4 * k)) shots

/-- NANO_WORD_EFFECT (R26, R154, R226, R227, R275): the issued nano-words take effect at the next vector boundary, after the held writes of that boundary; in a
lockstep group at a segment boundary; in an interruption their steady fields wait. The first vector of a start has nano-word 0. -/
def execNanoWordEffect (q : Fin 17) (s : State) : Out' :=
  done s fun s =>
    let q := q.val
    let p := s.play q
    let mid : Bool := p.playing && p.phase = .seg && 2 ≤ (s.playMates q).length && s.inSegment q
    if q = 16 || p.issued.isEmpty || (p.playing && p.fresh) || mid then s else
    let s := s.when p.playing (·.boundaryFlush q)
    let p := s.play q
    let w := nanoMerge (p.issued.map (s.nanoWord q ·))
    let last := p.issued.getLastD 0
    let waits : Bool := p.playing && p.phase ≠ .seg
    let s := s.setPlay q (if waits then { p with issued := [], steady := some last } else { p with issued := [], nano := last })
    let s := (s.nanoShots q w).setSeq q { s.seq q with vsync := false }
    s.when (1 < p.issued.length) (·.wr R.SEQ_STATUS.NANO_MERGE q 1)

/-- The write of a counter (R233). -/
def cntHook : Hook := fun _ i w be s => if i / 8 < 16 && s.playing (i / 8) then (s, true) else writeWord .SEQ_CNT i w be s

/-- The write of SEQ_TIMEOUT: instance 0 discards it. -/
def timeoutHook : Hook := fun _ i w be s => if i % 8 = 0 then (s, true) else writeWord .SEQ_TIMEOUT i w be s

/-- A write of SEQ_ENTRY or SEQ_START clears SEQ_LOAD.VALID (R254). -/
def programHook (r : Reg) : Hook := fun _ q w be => (writeWord r q w be).then' fun s => s.wr R.SEQ_LOAD.VALID q 0

/-- The write of SEQ_CTL: FLASH_EXEC exists on the housekeeping sequencer only. -/
def seqCtlHook : Hook := fun _ q w be => writeFields (if q = 16 then Reg.fields .SEQ_CTL else [R.SEQ_CTL.VEC_EN, R.SEQ_CTL.MIN_GROUP]) q w be

/-- Bytes of a 32-bit word replaced where they are enabled. -/
def mergeBytes (old w be : Nat) : Nat := (List.range 4).foldl (fun v b => if bitAt be b then putBits v (8 * b) 8 (bits w (8 * b) 8) else v) old

/-- The pieces of a wide store word laid over its committed content (R38). -/
def layPieces (old : Nat) (l : List (Nat × Nat)) : Nat := l.foldl (fun v e => putBits v (32 * e.1) 32 e.2) old

/-- One piece of a wide store word (R38): staged, and committed with the others when it is the highest; a host write of a flagged word clears its flag. [log DEDUCED 41] -/
def State.stagePiece (s : State) (q win n piece w be : Nat) : State :=
  let x := s.store q
  let top := if win = 0 then 7 else 3
  let old := if win = 0 then smGet 0 x.nano n else smGet 0 x.segs n
  let pieces := match x.staged with | some (v, m, l) => if v = win && m = n then l else [] | none => []
  let cur := match pieces.find? fun e => e.1 = piece with | some e => e.2 | none => bits old (32 * piece) 32
  let pieces := pieces.filter (fun e => e.1 ≠ piece) ++ [(piece, mergeBytes cur w be)]
  let x := if piece = top then
      let v := layPieces old pieces
      if win = 0 then { x with staged := none, nano := smSet 0 x.nano n v, bad := smSet 0 x.bad (65536 + n) 0, flagged := x.flagged.filter (· ≠ 65536 + n) }
      else { x with staged := none, segs := smSet 0 x.segs n v }
    else { x with staged := some (win, n, pieces) }
  (s.setStore q x).flagSync q

/-- A micro-word is written, with fresh parity for the bytes written (R38, R219, R253). A micro-word is one piece wide: its write leaves the staged pieces of a
wide word as they are. [log DEDUCED 41] -/
def State.microWrite (s : State) (q a w be : Nat) : State :=
  let x := s.store q
  (s.setStore q { x with micro := smSet 0 x.micro a (mergeBytes (smGet 0 x.micro a) w be), bad := smSet 0 x.bad a (Nat.land (smGet 0 x.bad a) (15 - be)), flagged := x.flagged.filter (· ≠ a) }).flagSync q

/-- Where a BAR0 offset lies in the store windows of R36: the sequencer, the store (0 nano, 1 segment, 2 micro), the word and its piece. -/
def State.window (s : State) (off : Nat) : Option (Nat × Nat × Nat × Nat) :=
  if 0x200000 ≤ off && off < 0x300000 then some ((off - 0x200000) / 0x10000, 2, off % 0x10000 / 4, 0)
  else if 0x300000 ≤ off && off < 0x380000 then some ((off - 0x300000) / 0x8000, 1, off % 0x8000 / 16, off % 16 / 4)
  else if 0x380000 ≤ off && off < 0x3C0000 then
    let t := (off - 0x380000) / 0x4000
    some (t, 0, 512 * s.rd R.SEQ_NANO_PAGE.PAGE t + off % 0x4000 / 32, off % 32 / 4)
  else if 0x3C0000 ≤ off && off < 0x3C8000 then some (16, 2, (off - 0x3C0000) / 4, 0)
  else if 0x3C8000 ≤ off && off < 0x3D0000 then some (16, 0, (off - 0x3C8000) / 32, off % 32 / 4)
  else none

/-- A requester may reach the stores of a sequencer: those of a tile go with the tile, the housekeeping ones with saggar 0 (R39, R468, R571). [log DEDUCED 134] -/
def State.windowMay (s : State) (rq : Req) (q : Nat) (write : Bool) : Bool :=
  match rq with
  | .spi => !write
  | .fn _ =>
    s.imaged && match s.sagOf rq with
    | none => false
    | some k => if q = 16 then k = 0 else !s.legacyHides (.tile q) && (s.tileOwner q = some k || (k = 0 && (!write || s.tileOwner q = none)))

/-- Writes of a sequencer's stores are accepted (R254, R602). -/
def State.windowOpen (s : State) (q : Nat) : Bool :=
  (s.rd R.SEQ_STATUS.STATE q = 0 || s.halted q) && !s.hkFixed q && (s.m.mode = .service || s.operating) && s.m.storesReady

/-- A write through a store window (R38, R254). -/
def State.windowWrite (s : State) (rq : Req) (off w be : Nat) : State :=
  if !s.reachable rq then s else
  match s.window off with
  | none => s
  | some (q, win, n, piece) =>
    if !s.windowMay rq q true || !s.windowOpen q then s.refuse rq off false
    else if be = 0 then s
    else (if win = 2 then s.microWrite q n w be else s.stagePiece q win n piece w be).wr R.SEQ_LOAD.VALID q 0

/-- STORE_WINDOW_WRITE (R38, R254): a word written at an offset of a store window. -/
def execStoreWindowWrite (rq : Req) (off : Nat) (w : Word) (s : State) : Out' :=
  done s fun s => if off % 4 = 0 then s.windowWrite rq off w.toNat 15 else s

/-- A read through a store window: the committed content (R38, R254). -/
def State.windowRead (s : State) (rq : Req) (off : Nat) : Nat :=
  match s.window off with
  | none => 0
  | some (q, win, n, piece) =>
    if !s.windowMay rq q false then 0 else
    let x := s.store q
    if win = 2 then smGet 0 x.micro n else bits (if win = 0 then smGet 0 x.nano n else smGet 0 x.segs n) (32 * piece) 32

/-- SEQ_SCRUB: a write of SEQ_LOAD with SCRUB = 1 (R258). -/
def execSeqScrub (rq : Req) (t : Fin 16) (w : Word) (s : State) : Out' := writeRow rq .SEQ_LOAD t.val (Nat.lor w.toNat 2) loadHook s

/-- The number of set bits of a mask. -/
def ones (w v : Nat) : Nat := ((List.range w).filter (bitAt v ·)).length

/-- A scrub ends (R258): the parity errors are counted, one for each failing byte, and every faulting word is treated as R109 treats one; `hard` lists those whose
row proved hard. [log DESIGN CHOICE 124] -/
def execSeqScrubDone (t : Fin 17) (hard : List Nat) (s : State) : Out' :=
  done s fun s =>
    let t := t.val
    let b := (s.seq t).busy
    if b < 2 then s else
    let bad := (s.store t).bad
    let n := bad.foldl (fun n e => n + ones 32 e.2) 0
    let s := (s.each (bad.map (·.1)) fun s k => s.recoverWord t k (hard.contains k)).setSeq t { s.seq t with busy := b - 2 }
    ((s.wr R.SEQ_LOAD.STATUS t (loadStatus (b - 2) 2)).wr R.SEQ_LOAD.DETAIL t (min n 65535)).when (t < 16) (·.raise (64 + 16 * t + 11))

end Sys2Proof.Machine
end

