-- ==== Sys2Proof/Machine/Spares.lean ====
section
/-! DEFINITION. Spares and repair (R548 to R556): marks, the spares brought in for marked units, front-end handovers (R140 to R144), and the
repairs that the REPAIR_MAP step applies. Units are named by the keys of `State.unavailable`. -/

namespace Sys2Proof.Machine

/-- A waiting unit's key. -/
def Waiting.key (w : Waiting) : Nat := w.place + 65536 * w.fe

/-- The quadrant a unit lies in, for the counts of SPR_RESERVE_Q. -/
def keyQuad (key : Nat) : Option Nat :=
  let i := key % 4096
  match key % 65536 / 4096 with
  | 0 => some (i / 256)
  | 1 => some (i / 32)
  | 3 => some i
  | 4 => some (if i < 32 then i / 8 else i - 32)
  | 5 => if i < 64 then some (i / 16) else none
  | _ => none

/-- The mark of a unit: 0 good, 1 worn, 2 failed, 3 retired, 6 unavailable. -/
def State.unitState (s : State) (key : Nat) : Nat := smGet 0 s.spare.state key

/-- Spare SMU k of the device is parked and usable, and its enable of R56 is 1 (R322, R548). -/
def State.smuSpareFree (s : State) (k : Nat) : Bool :=
  s.fl R.SMU_SPARE_STATUS.AVAILABLE k && !s.fl R.SMU_SPARE_STATUS.ASSIGNED k && (match s.image with | some im => bitAt (im.smuSpareEn.getD (k / 2) 3) (k % 2) | none => false)

/-- The reserve registers follow the spares (R548). -/
def State.spareSync (s : State) : State :=
  let s := s.each (List.range 4) fun s q =>
    let smu := ([2 * q, 2 * q + 1].filter fun k => s.fl R.SMU_SPARE_STATUS.AVAILABLE k && !s.fl R.SMU_SPARE_STATUS.ASSIGNED k).length
    let worn := (s.spare.state.filter fun e => e.2 = 1 && keyQuad e.1 = some q).length
    (((s.wr R.SPR_RESERVE_Q.SMU q smu).wb R.SPR_RESERVE_Q.DPS q (s.fl R.DPS_SPARE_STATUS.AVAILABLE (32 + q) && !s.fl R.DPS_SPARE_STATUS.ASSIGNED (32 + q))).wr R.SPR_RESERVE_Q.WORN q (min worn 255)).feSync q
  let tdc := ([64, 65, 66, 67].filter fun k => s.fl R.TDC_SPARE_STATUS.AVAILABLE k && !s.fl R.TDC_SPARE_STATUS.ASSIGNED k).length
  (s.wr R.SPR_RESERVE_DEV.TDC 0 tdc).wr R.SPR_PENDING.COUNT 0 s.spare.waiting.length

/-- A unit leaves the queue of waiting units. -/
def State.unwait (s : State) (key : Nat) : State := { s with spare := { s.spare with waiting := s.spare.waiting.filter fun w => w.key ≠ key } }

/-- The mark of a unit set. -/
def State.setUnit (s : State) (key v : Nat) : State := { s with spare := { s.spare with state := smSet 0 s.spare.state key v } }

/-- PARTNER of two units: the spare of a retired one, and the unit a spare serves. -/
def State.pair (s : State) (key spare : Nat) : State :=
  { s with spare := { s.spare with partner := smSet 0xFFFF (smSet 0xFFFF s.spare.partner key (spare % 65536)) spare (key % 65536) } }

/-- The key of spare SMU k. -/
def smuSpareKey (k : Nat) : Nat := place 3 (k / 2) + 65536 * (k % 2)

/-- Key of a reduction pipe. -/
def pipeKey (p : Nat) : Nat := 0x8000 + 65536 * p

/-- A unit's key is a spare's own. -/
def keySpare (key : Nat) : Bool :=
  let k := key % 65536 / 4096
  k = 3 || (k = 4 && 32 ≤ key % 4096) || (k = 5 && 64 ≤ key % 4096) || key = pipeKey 4

/-- A spare is in service. -/
def State.inService (s : State) (key : Nat) : Bool :=
  let i := key % 4096
  match key % 65536 / 4096 with
  | 3 => s.fl R.SMU_SPARE_STATUS.ASSIGNED (2 * i + key / 65536)
  | 4 => s.fl R.DPS_SPARE_STATUS.ASSIGNED i
  | 5 => s.fl R.TDC_SPARE_STATUS.ASSIGNED i
  | _ => smGet 0xFFFF s.spare.partner key ≠ 0xFFFF

/-- The index at which the registers of a circuit lie (R19): its own, or that of the unit its spare was brought in for; a spare SMU's own is 128 + k. -/
def State.logical (s : State) (key : Nat) : Nat :=
  let i := key % 4096
  match key % 65536 / 4096 with
  | 3 => let k := 2 * i + key / 65536; if s.fl R.SMU_SPARE_STATUS.ASSIGNED k then s.rd R.SMU_SPARE_STATUS.OCTET k else 128 + k
  | 4 => if i < 32 || !s.fl R.DPS_SPARE_STATUS.ASSIGNED i then i else s.rd R.DPS_SPARE_STATUS.CHANNEL i
  | 5 => if i < 64 || !s.fl R.TDC_SPARE_STATUS.ASSIGNED i then i else s.rd R.TDC_SPARE_STATUS.REPLACED i
  | _ => i

/-- The fields that change places when a spare of a kind takes over a unit (R19): all but those of the _SPARE_STATUS registers. -/
def shownFields (kind : Nat) : List Fld :=
  (match kind with
  | 3 => [Reg.SMU_FORCE_CODE, .SMU_FORCE_CFG, .SMU_FORCE_SLEW, .SMU_FORCE_STATUS, .SMU_CTL, .SMU_CLAMP, .SMU_VCLAMP, .SMU_MEAS, .SMU_MON_CTL, .SMU_MON_THR, .SMU_STATUS,
      .SMU_FIFO_TIME_LO, .SMU_FIFO_TIME_HI, .SMU_LOST]
  | 4 => [Reg.DPS_SET_CODE, .DPS_SET_CFG, .DPS_SET_SLEW, .DPS_SET_STATUS, .DPS_CTL, .DPS_LIMIT, .DPS_STATUS, .DPS_MEAS_I, .DPS_MEAS_V, .DPS_MON_I_CTL, .DPS_MON_I_THR,
      .DPS_MON_V_CTL, .DPS_MON_V_THR, .DPS_GANG]
  | 5 => [Reg.TDC_CFG, .TDC_CTX, .TDC_GATE, .TDC_CTL, .TDC_COUNT, .TDC_RES_LO, .TDC_RES_HI, .TDC_RES_COUNT, .TDC_RES_TIME_LO, .TDC_RES_TIME_HI]
  | _ => []).flatMap Reg.fields

/-- The register instance of a spare's own index shows the circuit it has replaced: what the unit's registers held at the take-over (R19). [log DEDUCED 121] -/
def State.showRetired (s : State) (kind unit own : Nat) : State := (shownFields kind).foldl (fun s f => s.wr f own (s.rd f unit)) s

/-- A spare circuit is out of use: not available and serving nothing. -/
def State.dropSpare (s : State) (key : Nat) : State :=
  let i := key % 4096
  match key % 65536 / 4096 with
  | 3 => let k := 2 * i + key / 65536; ((s.wr R.SMU_SPARE_STATUS.AVAILABLE k 0).wr R.SMU_SPARE_STATUS.ASSIGNED k 0).wr R.SMU_SPARE_STATUS.OCTET k 0x7F
  | 4 => ((s.wr R.DPS_SPARE_STATUS.AVAILABLE i 0).wr R.DPS_SPARE_STATUS.ASSIGNED i 0).wr R.DPS_SPARE_STATUS.CHANNEL i 0x1F
  | 5 => ((s.wr R.TDC_SPARE_STATUS.AVAILABLE i 0).wr R.TDC_SPARE_STATUS.ASSIGNED i 0).wr R.TDC_SPARE_STATUS.REPLACED i 0x3F
  | _ => s.wr R.SPR_RESERVE_DEV.PIPE 0 0

/-- The first spare that can take over a circuit (R548, R552): a front end 0 or 1, a spare SMU, DPS, TDC or pipe index, or the octet that lends its ADC. -/
def State.spareFor (s : State) (key : Nat) : Option Nat :=
  let i := key % 4096
  match key % 65536 / 4096 with
  | 0 =>
    let f := key / 65536
    let en : Bool := match s.image with | some im => im.feSpareEn.getD (i / 256) 1 = 1 | none => false
    if f < 2 && en && !bitAt (s.rd R.LANE_FE.RETIRED i) (1 - f) && s.unitState (i + 65536 * (1 - f)) ≠ 2 then some (1 - f) else none
  | 1 =>
    if key ≥ 131072 then
      let nb := Nat.xor i 1
      if !s.adcGone nb && (match s.image with | some im => im.adcBorrow.getD nb 1 = 1 | none => false) then some nb else none
    else [2 * (i / 32), 2 * (i / 32) + 1].find? s.smuSpareFree
  | 3 => [2 * i, 2 * i + 1].find? s.smuSpareFree
  | 4 =>
    let d := s.logical key
    let k := 32 + d / 8
    if i < 32 && s.fl R.DPS_SPARE_STATUS.AVAILABLE k && !s.fl R.DPS_SPARE_STATUS.ASSIGNED k && (match s.image with | some im => im.dpsSpareEn.getD d 1 = 1 | none => false) then some k else none
  | 5 => [64, 65, 66, 67].find? fun k => s.fl R.TDC_SPARE_STATUS.AVAILABLE k && !s.fl R.TDC_SPARE_STATUS.ASSIGNED k
  | 8 => if key ≠ pipeKey 4 && s.fl R.SPR_RESERVE_DEV.PIPE 0 then some 4 else none
  | _ => none

/-- What follows a unit's becoming unavailable (R330, R323, R354, R554). [log DEDUCED 52] -/
def State.unavailEffect (s : State) (key : Nat) : State :=
  let i := key % 4096
  match key % 65536 / 4096 with
  | 0 => s
  | 1 =>
    if key ≥ 131072 then
      let s := ((s.setAdc i { s.adc i with settle := 0, mean := none }).when (s.spareFor key |>.isNone) (·.wr R.ADC_STATUS.BUSY i 0)).wr R.OCT_STATUS.ADC_LENDING i 0
      let nb := Nat.xor i 1
      s.when (s.adcGone nb) fun s => (s.wr R.OCT_STATUS.ADC_BORROWED nb 0).wr R.ADC_STATUS.BUSY nb 0
    else s.wr R.OCT_STATUS.SMU_SOURCE i 3
  | 3 => (s.when (s.inService key) fun s => s.wr R.OCT_STATUS.SMU_SOURCE (s.logical key) 3).dropSpare key
  | 4 => let d := s.logical key; let s := s.when (s.dps d).closed (·.dpsOpen d); if i < 32 then s else s.wr R.DPS_SPARE_STATUS.AVAILABLE i 0
  | 5 => let t := s.logical key; let s := s.tdcDisarm t; if i < 64 then s else s.wr R.TDC_SPARE_STATUS.AVAILABLE i 0
  | 8 => s.wr R.RED_STATUS.PIPES_ACTIVE 0 (s.rd R.RED_STATUS.PIPES_ACTIVE 0 - 1)
  | _ => s

/-- A unit becomes unavailable, with what follows (R554). -/
def State.loseUnit (s : State) (key : Nat) : State :=
  if s.unavailable key then s else ((s.makeUnavailable key).unavailEffect key).unwait key

/-- The spare `k` is brought in for a circuit (R323, R330, R351 to R353, R355, R380, R551): the repair map gains an entry, SPARE_IN arises and a shard is written. -/
def State.bringIn (s : State) (key mark k : Nat) : State :=
  let i := key % 4096
  let pl := key % 65536
  let note (s : State) (unit type tgt replace spare : Nat) : State := ((s.addRepair unit type mark tgt replace).raise 14).shard 0x34 pl (spare % 65536) 0 0
  let s := s.unwait key
  let s := match pl / 4096 with
    | 0 =>
      let f := key / 65536
      let s := if s.rd R.LANE_FE.ACTIVE_FE i = f then s.wr R.LANE_FE.ACTIVE_FE i (1 - f) else s
      s.retireFe i f mark
    | 1 | 3 =>
      if pl / 4096 = 1 && key ≥ 131072 then
        let s := (s.makeUnavailable key).wr R.OCT_STATUS.ADC_BORROWED i 1
        (s.wr R.OCT_STATUS.ADC_LENDING k 1).raise 14 |>.shard 0x34 pl (place 1 k) 0 0
      else
        let o := if pl / 4096 = 1 then i else s.logical key
        let s := (s.calTouch 5 (if pl / 4096 = 1 then i else 128 + 2 * i + key / 65536)).calTouch 5 (128 + k)
        let s := ((s.when (pl / 4096 = 3) (·.dropSpare key)).setUnit key 3).showRetired 3 o (128 + k)
        let s := ((s.wr R.SMU_SPARE_STATUS.OCTET k o).wr R.SMU_SPARE_STATUS.ASSIGNED k 1).wr R.OCT_STATUS.SMU_SOURCE o (1 + k % 2)
        note ((s.wr R.OCT_MATRIX.BALL_EN o 0).pair key (smuSpareKey k)) (place 1 o) 2 0 k (smuSpareKey k)
    | 4 =>
      let d := s.logical key
      let s := ((s.calTouch 7 i).calTouch 7 k).when (s.dps d).closed (·.dpsOpen d)
      let s := ((s.setDps d { s.dps d with dropped := false }).setUnit key 3).showRetired 4 d k
      let s := (s.wr R.DPS_SPARE_STATUS.CHANNEL k d).wr R.DPS_SPARE_STATUS.ASSIGNED k 1
      let lead := s.dpsLead d
      let s := s.wb R.DPS_GANG.GANG_DEGRADED lead ((s.dpsMembers lead).any fun m => (s.dps m).dropped)
      let s := s.when (s.dpsWanted d) (·.dpsClose d)
      note (s.pair key (place 4 k)) (place 4 d) 3 0 k (place 4 k)
    | 5 =>
      let t := s.logical key
      let s := (((s.calTouch 2 i).calTouch 2 k).tdcDisarm t).setUnit key 3
      let s := ((s.when (64 ≤ i) (·.dropSpare key)).showRetired 5 t k).wr R.TDC_SPARE_STATUS.REPLACED k t |>.wr R.TDC_SPARE_STATUS.ASSIGNED k 1
      note (s.pair key (place 5 k)) (place 5 t) 4 0 k (place 5 k)
    | 8 => note (((s.setUnit key 3).wr R.SPR_RESERVE_DEV.PIPE 0 0).pair key (pipeKey 4)) 0x8000 5 (key / 65536) 0xFFFF 0x8000
    | _ => s
  s.spareSync

/-- Waiting units that no spare can take any more: a failed one becomes unavailable, a worn one stays in service (R550, R552). -/
def State.settleWaiting (s : State) : State :=
  let lost := s.spare.waiting.filter fun w => (s.spareFor w.key).isNone
  (lost.foldl (fun s w => (s.unwait w.key).when (w.mark = 2) (·.loseUnit (if w.place < 1024 then w.place + 131072 else w.key))) s).spareSync

/-- A handover of a lane is asked for: 0 by SWAP_REQ, 1 by calibration, 2 by repair; a repair outranks the others (R140, R520, R551). [log DEDUCED 47] -/
def State.askHandover (s : State) (l why : Nat) : State :=
  match (s.lane l).handover with
  | some h => if why = 2 && !h.started then s.setLane l { s.lane l with handover := some ⟨2, false, 0, false⟩ } else s
  | none => s.setLane l { s.lane l with handover := some ⟨why, false, 0, false⟩ }

/-- A marked circuit waits for its spare, is retired at once where it is an idle front end, or is lost (R550 to R554). [log DEDUCED 47] -/
def State.seekSpare (s : State) (key mark : Nat) : State :=
  let i := key % 4096
  let lane := key % 65536 < 1024
  let f := key / 65536
  let parked := keySpare key && !s.inService key
  if parked then
    if mark = 2 then
      (((((s.setUnit key 6).dropSpare key).bump R.SPR_RESERVE_DEV.UNAVAIL 0 1).wr R.DEV_STARTUP.DEGRADED 0 1).raise 15).shard 0x35 (key % 65536) (key % 65536) 0 0
    else s
  else if lane && f = 3 then (if mark = 2 then s.loseUnit (i + 131072) else s)
  else if key % 65536 / 4096 = 1 && key ≥ 131072 && mark = 1 then s
  else match s.spareFor key with
    | some k =>
      if lane && s.rd R.LANE_FE.ACTIVE_FE i ≠ f then s.bringIn key mark f
      else
        let s := if s.spare.waiting.any fun w => w.key = key then
            { s with spare := { s.spare with waiting := s.spare.waiting.map fun w => if w.key = key then { w with mark := mark } else w } }
          else { s with spare := { s.spare with waiting := s.spare.waiting ++ [⟨key % 65536, f, mark⟩] } }
        if lane && !s.m.startup then s.askHandover i 2 else if key % 65536 = 0x8000 then s.bringIn key mark k else s
    | none =>
      if mark = 1 then s
      else if lane then
        if s.rd R.LANE_FE.ACTIVE_FE i = f then s.loseUnit (i + 131072) else s.wr R.LANE_FE.OTHER_STATE i 0
      else s.loseUnit key

/-- A failed member of a connected gang opens, and the gang goes on (R351). -/
def State.gangDrop (s : State) (key : Nat) : State :=
  let d := s.logical key
  if key % 65536 / 4096 ≠ 4 || !(s.dps d).closed || (s.dpsMembers (s.dpsLead d)).length < 2 then s
  else ((s.dpsOpen d).setDps d { (s.dpsOpen d).dps d with dropped := true }).wr R.DPS_GANG.GANG_DEGRADED (s.dpsLead d) 1

/-- A unit is marked, 1 worn or 2 failed (R549, R550): once for each change of mark; `d1` and `d2` are the shard's last words. -/
def State.markUnit (s : State) (key mark d1 d2 : Nat) : State :=
  let cur := s.unitState key
  if cur ≥ 2 || cur = mark then s else
  let pl := key % 65536
  let s := (s.setUnit key mark).marked (0x31 + mark) pl (if pl < 1024 && key < 131072 then key / 65536 else 0) d1 d2
  let s := s.when (mark = 2) (·.gangDrop key)
  (s.seekSpare key mark).settleWaiting

/-- The moment at which a waiting circuit may be replaced outside an entry to a mode (R551, R352); in start-up SERVICE it is the SPARES step. -/
def State.spareNow (s : State) (key : Nat) : Bool :=
  let i := key % 4096
  if s.m.startup then s.rd R.DEV_STARTUP.STEP 0 = 5 else
  match key % 65536 / 4096 with
  | 1 =>
    if key ≥ 131072 then !s.fl R.ADC_STATUS.BUSY i && !s.fl R.ADC_STATUS.BUSY (Nat.xor i 1)
    else s.lanesOn i = 0 && !s.ballOn i && !s.fl R.SMU_MEAS.RUN i
  | 3 => let o := s.logical key; s.lanesOn o = 0 && !s.ballOn o && !s.fl R.SMU_MEAS.RUN o
  | 4 => let d := s.logical key; !(s.dps d).closed && (s.dpsMembers (s.dpsLead d)).length < 2
  | 5 => !s.fl R.TDC_CTL.ARMED (s.logical key)
  | 8 => true
  | _ => false

/-- A waiting circuit may be replaced at an entry to IDLE or to SERVICE (R352, R551). -/
def State.spareAtEntry (s : State) (key : Nat) (service : Bool) : Bool :=
  match key % 65536 / 4096 with
  | 1 | 3 => !service
  | 4 => if (s.dpsMembers (s.dpsLead (s.logical key))).length < 2 then !service else service
  | 5 => true
  | _ => false

/-- The waiting circuits that a predicate lets in, lowest physical index first (R552), are replaced. -/
def State.spareAll (s : State) (p : State → Nat → Bool) : State :=
  let l := (s.spare.waiting.filter fun w => p s w.key).mergeSort fun a b => a.key ≤ b.key
  (l.foldl (fun s w =>
    if s.spare.waiting.contains w then match s.spareFor w.key with | some k => s.bringIn w.key w.mark k | none => s
    else s) s).settleWaiting

/-- Failed rows are replaced at an entry to SERVICE, with zero content and valid check bits (R551); those of the micro- and nanostores take the word of R109, flagged. -/
def State.spareRowsIn (s : State) : State :=
  let rows := (s.spare.rows.filter fun e => e.2 = 2 && e.1 / 2 ^ 20 < 82).map (·.1)
  s.each rows fun s k =>
    let st := k / 2 ^ 20
    let row := k % 2 ^ 20
    if s.rd R.SPR_ROWS.ROWS st = 0 then s else
    let s := s.spareRow st row 2
    if st < 16 then
      let x := s.store st
      let y := (List.range 4).foldl (fun x k => x.putWord row k 0) x
      s.setStore st { y with ctl := smSet 0 y.ctl row 0, ecc := smSet 0 y.ecc (8 * row + 4) 0 }
    else if st < 32 then s.each (List.range 4) fun s k => { s with cap := smSet 0 s.cap (4 * row + k) 0, capEcc := smSet 0 s.capEcc (4 * row + k) 0 }
    else if st < 48 then s.recoverWord (st - 32) row false
    else if st < 64 then s.recoverWord (st - 48) (65536 + row) false
    else if st < 80 then s
    else if st = 80 then s.recoverWord 16 row false
    else s.recoverWord 16 (65536 + row) false

/-- SPARE_IN: the spare of the waiting unit `place` (its key) is brought in at its moment (R551, R552). -/
def execSpareIn (place : Nat) (s : State) : Out' :=
  done s fun s => if s.spareNow place then s.spareAll fun _ k => k = place else s

/-- A lane is the selected source of an armed TDC (R142, R357). -/
def State.laneTimed (s : State) (l : Nat) : Bool :=
  (List.range 4).any fun k =>
    let i := 4 * (l / 64) + k
    let mode := s.rd R.TDC_CFG.MODE i
    let src (c : Nat) : Bool := c < 0x80 && c % 64 = l % 64
    s.fl R.TDC_CTL.ARMED i && (src (s.rd R.TDC_CFG.START_SRC i) || ((mode = 0 || mode = 3) && src (s.rd R.TDC_CFG.STOP_SRC i)))

/-- No driver transition, open window or strobe of a lane falls in the 32 VCLK that begin now (R142): none is placed there, by a tile that plays or by one that has stopped and
whose last vectors still act. A vector not yet read reaches the ball later than those 32 VCLK (R27). [log DEDUCED 119] -/
def State.laneStill (s : State) (l : Nat) : Bool :=
  let p := s.play (l / 64)
  let now := s.clock.tick * 2048
  (((s.lane l).edges.all fun e => p.start + 40960 + e.at' < now || p.start + 40960 + e.at' ≥ now + 32768) && (s.lane l).jobs.all fun j => !j.isOpen)

/-- The conditions of R142. [log DEDUCED 119] -/
def State.handoverOk (s : State) (l : Nat) : Bool :=
  s.laneStill l && !s.laneTimed l && !s.forced l && !s.fl R.LANE_STATUS.DRV_TRIP l && !bitAt (s.rd R.LANE_FE.RETIRED l) (1 - s.rd R.LANE_FE.ACTIVE_FE l)

/-- A calibration step holds a front end of the lane. -/
def State.feStep (s : State) (l : Nat) : Bool :=
  (List.range 4).any fun q => match (s.cal q).cur with | some (4, u) => u / 2 = l | _ => false

/-- HANDOVER_START: a handover that was asked for starts once R142 allows it, and, for calibration, at a moment of R520. -/
def execHandoverStart (l : Fin 1024) (s : State) : Out' :=
  done s fun s =>
    let l := l.val
    match (s.lane l).handover with
    | none => s
    | some h =>
      let p := s.play (l / 64)
      let moment := h.why ≠ 1 || !p.playing || p.gapOk || s.laneGap l
      if h.started || !s.handoverOk l || s.feStep l || !moment then s
      else (s.setLane l { s.lane l with handover := some { h with started := true } }).wr R.LANE_FE.OTHER_STATE l 3

/-- c24 of a handover (R140, R141): the other front end carries the ball, with no edge at any destination of its comparators. -/
def State.feSwap (s : State) (l : Nat) : State :=
  match (s.lane l).handover with
  | some h => if !h.started || h.swapped then s else (s.setLane l { s.lane l with handover := some { h with swapped := true } }).wr R.LANE_FE.ACTIVE_FE l (1 - s.rd R.LANE_FE.ACTIVE_FE l)
  | none => s

/-- Two VCLK cycles of the handovers in progress (R140). -/
def State.handoverTick (s : State) : State :=
  (s.lanes.filter fun e => e.2.handover.any fun h => h.started).foldl (fun s e =>
    match e.2.handover with
    | some h =>
      let s := s.setLane e.1 { s.lane e.1 with handover := some { h with vclk := min (h.vclk + 2) 32 } }
      s.when (24 ≤ h.vclk + 2) (·.feSwap e.1)
    | none => s) s

/-- HANDOVER_DONE: the 32 VCLK of a handover are over (R140, R143, R144): the ball is on the other front end, and a repair retires the outgoing one. -/
def execHandoverDone (l : Fin 1024) (s : State) : Out' :=
  done s fun s =>
    let l := l.val
    match (s.lane l).handover with
    | some ⟨_, true, _, _⟩ =>
      let s := s.feSwap l
      let out := 1 - s.rd R.LANE_FE.ACTIVE_FE l
      let s := (s.wr R.LANE_FE.OTHER_STATE l 0).bump R.LANE_FE.HANDOVER_COUNT l 1
      let s := s.setLane l { s.lane l with handover := none }
      match s.spare.waiting.find? fun w => w.key = l + 65536 * out with
      | some w => ((s.unwait w.key).retireFe l out w.mark).spareSync
      | none => s.calNext (l / 256)
    | _ => s

/-- A place code names a unit (R10, R12). -/
def placeOk (pl : Nat) : Bool :=
  let i := pl % 4096
  match pl / 4096 with
  | 0 => i < 1024
  | 1 => i < 128
  | 2 => i < 16
  | 3 => i < 4
  | 4 => i < 36
  | 5 => i < 68
  | 6 => i < 22
  | 7 => i < 86
  | 8 => i = 0
  | _ => false

/-- The unit that a host's mark of a place names: the active front end of a lane, the SMU of an octet, a DPS channel or a TDC. [log DEDUCED 48] -/
def State.markKey (s : State) (pl : Nat) : Option Nat :=
  match pl / 4096 with
  | 0 => some (pl + 65536 * s.rd R.LANE_FE.ACTIVE_FE pl)
  | 1 | 4 | 5 => some pl
  | _ => none

/-- The write of SPR_CMD (R555); discarded while a self-test runs. [log DEDUCED 48, 49, 50] -/
def sprCmdHook : Hook := fun _ _ w be s =>
  if s.rd R.SPR_CMD.STATUS 0 = 1 then (s, true) else
  let op := if R.SPR_CMD.OP.enabled be then R.SPR_CMD.OP.part w else 0
  let s := s.wr R.SPR_CMD.PLACE 0 (s.newv R.SPR_CMD.PLACE 0 w be)
  let pl := s.rd R.SPR_CMD.PLACE 0
  if op = 0 then (s, false)
  else if op = 3 then
    if s.m.mode = .service && !s.m.startup && (pl = 0x8000 || (pl / 4096 = 3 && placeOk pl)) then
      (({ s with spare := { s.spare with selfTest := some pl } }).wr R.SPR_CMD.STATUS 0 1, false)
    else (s.wr R.SPR_CMD.STATUS 0 3, false)
  else if !placeOk pl then (s.wr R.SPR_CMD.STATUS 0 3, false)
  else
    let (d1, s) := s.draw 5
    let (d2, s) := s.draw 5
    let s := match s.markKey pl with | some k => s.markUnit k op d1 d2 | none => s
    (s.wr R.SPR_CMD.STATUS 0 2, false)

/-- MARK_WORN: a write of SPR_CMD with OP 0b01. -/
def execMarkWorn (rq : Req) (w : Word) (s : State) : Out' := writeRow rq .SPR_CMD 0 (putBits w.toNat 16 2 1) sprCmdHook s

/-- MARK_FAILED: a write of SPR_CMD with OP 0b10. -/
def execMarkFailed (rq : Req) (w : Word) (s : State) : Out' := writeRow rq .SPR_CMD 0 (putBits w.toNat 16 2 2) sprCmdHook s

/-- SPR_SELF_TEST: a write of SPR_CMD with OP 0b11. [log DEDUCED 50] -/
def execSprSelfTest (rq : Req) (w : Word) (s : State) : Out' := writeRow rq .SPR_CMD 0 (putBits w.toNat 16 2 3) sprCmdHook s

/-- A key names a unit that self-test covers (R106). -/
def keyTested (key : Nat) : Bool :=
  let pl := key % 65536
  let f := key / 65536
  match pl / 4096 with
  | 0 => placeOk pl && f < 2
  | 1 => placeOk pl && (f = 0 || f = 2)
  | 3 => placeOk pl && f < 2
  | 4 | 5 => placeOk pl && f = 0
  | 8 => pl = 0x8000 && f < 5
  | _ => false

/-- The units that a self-test found outside their limits are marked failed (R549); the shard's self-test step is not in the manual. -/
def State.testFails (s : State) (failed : List Nat) : State :=
  s.each (failed.filter keyTested) fun s k =>
    let (d1, s) := s.draw 5
    let (d2, s) := s.draw 5
    let s := s.when (s.m.startup && s.unitState k < 2) (·.bump R.DEV_STARTUP.FAIL_COUNT 0 1)
    s.markUnit k 2 d1 d2

/-- SELF_TEST_DONE: the commanded self-test ends (R555); `failed` are the keys of the units outside their limits. -/
def execSelfTestDone (failed : List Nat) (s : State) : Out' :=
  done s fun s =>
    match s.spare.selfTest with
    | none => s
    | some pl =>
      let l := failed.filter fun k => pl = 0x8000 || keyQuad k = some (pl % 4096)
      (({ s with spare := { s.spare with selfTest := none } }).testFails l).wr R.SPR_CMD.STATUS 0 2

/-- A pipe makes the updates of a context (R378, R380): the context's own pipe, pipe 4 in its place, or with no spare a survivor. -/
def State.pipeServes (s : State) (f c : Nat) : Bool :=
  let own := pipeKey (c % 4)
  if s.unitState own < 2 then f = c % 4
  else if s.unitState own = 3 && smGet 0xFFFF s.spare.partner own = pipeKey 4 % 65536 && s.unitState (pipeKey 4) < 2 then f = 4
  else f < 4 && s.unitState (pipeKey f) < 2

/-- A pipe fails the residue check that it makes on an update (R380, R549); the shard's last words are not in the manual. -/
def State.residueFail (s : State) (f c : Nat) : State :=
  if !s.pipeServes f c then s else
  let (d1, s) := s.draw 5
  let (d2, s) := s.draw 5
  s.markUnit (pipeKey f) 2 d1 d2

/-- CONTEXT_UPDATE: the next sample of the arbiter reaches its context (R371 to R379); `residue` is the pipe whose residue check fails on it (R380). -/
def execContextUpdate (s : State) (residue : Option (Fin 5) := none) : Out' :=
  done s fun s =>
    match s.redNext with
    | none => s
    | some e =>
      let s := match residue with | some f => s.residueFail f.val e.ctx | none => s
      s.ctxUpdate e

/-- One entry of the repair map in force (R106, R556): the unit starts in the state that the entry records. -/
def State.applyRepair (s : State) (e : Repair) : State :=
  let i := e.place % 4096
  match e.type with
  | 1 =>
    let ret := e.target % 4
    let s := s.each ((List.range 2).filter fun f => bitAt ret f) fun s f => s.setUnit (i + 65536 * f) 3
    let s := ((s.wr R.LANE_FE.RETIRED i ret).wb R.LANE_FE.SINGLE i (ret ≠ 0)).wr R.LANE_FE.OTHER_STATE i (if ret ≠ 0 then 2 else 0)
    let s := s.wr R.LANE_FE.ACTIVE_FE i (if ret % 2 = 1 then 1 else 0)
    if ret = 3 then s.setUnit (i + 131072) 6 else s
  | 2 =>
    let old := s.rd R.OCT_STATUS.SMU_SOURCE i
    let s := if old = 1 || old = 2 then (s.setUnit (smuSpareKey (2 * (i / 32) + old - 1)) 3).dropSpare (smuSpareKey (2 * (i / 32) + old - 1)) else s.setUnit e.place 3
    let k := e.replace % 8
    if !(match s.image with | some im => bitAt (im.smuSpareEn.getD (k / 2) 3) (k % 2) | none => false) then (s.setUnit e.place 6).wr R.OCT_STATUS.SMU_SOURCE i 3 else
    let s := s.showRetired 3 i (128 + k)
    ((((s.wr R.SMU_SPARE_STATUS.OCTET k i).wr R.SMU_SPARE_STATUS.ASSIGNED k 1).wr R.OCT_STATUS.SMU_SOURCE i (1 + k % 2)).wr R.OCT_MATRIX.BALL_EN i 0).pair e.place (smuSpareKey k)
  | 3 =>
    if !(match s.image with | some im => im.dpsSpareEn.getD i 1 = 1 | none => false) then s.setUnit e.place 6 else
    (((((s.setUnit e.place 3).showRetired 4 i e.replace).wr R.DPS_SPARE_STATUS.CHANNEL e.replace i).wr R.DPS_SPARE_STATUS.ASSIGNED e.replace 1)).pair e.place (place 4 e.replace)
  | 4 =>
    let old := s.tdcPhys i
    let s := ((s.setUnit (place 5 old) 3).when (64 ≤ old) (·.dropSpare (place 5 old))).showRetired 5 i e.replace
    ((s.wr R.TDC_SPARE_STATUS.REPLACED e.replace i).wr R.TDC_SPARE_STATUS.ASSIGNED e.replace 1).pair (place 5 old) (place 5 e.replace)
  | 5 => ((s.setUnit (pipeKey e.target) 3).wr R.SPR_RESERVE_DEV.PIPE 0 0).pair (pipeKey e.target) (pipeKey 4)
  | 6 =>
    let s := s.setUnit (place 1 i + 131072) 6
    let nb := Nat.xor i 1
    let en : Bool := match s.image with | some im => im.adcBorrow.getD nb 1 = 1 | none => false
    if s.adcGone nb then ((s.wr R.OCT_STATUS.ADC_BORROWED nb 0).wr R.OCT_STATUS.ADC_LENDING i 0)
    else if en then (s.wr R.OCT_STATUS.ADC_BORROWED i 1).wr R.OCT_STATUS.ADC_LENDING nb 1
    else s
  | 7 => ({ s with spare := { s.spare with rows := smSet 0 s.spare.rows (i * 2 ^ 20 + e.target) 3 } }).wr R.SPR_ROWS.ROWS i (s.rd R.SPR_ROWS.ROWS i - 1)
  | 8 => s.wr R.SPR_ROWS.COLS i (s.rd R.SPR_ROWS.COLS i - 1)
  | 9 => (s.setUnit (if e.place < 1024 then e.place + 131072 else if e.place = 0x8000 then pipeKey e.target else e.place) 6).unavailEffect (if e.place = 0x8000 then pipeKey e.target else e.place)
  | _ => s

/-- The spare rows fitted in a store of R11 (R548): 64 words in a tile's microstore and nanostore. [log DESIGN CHOICE 112] -/
def rowsFitted (i : Nat) : Nat := if 32 ≤ i && i < 64 then 64 else Config.spareRows i

/-- The REPAIR_MAP step (R106, R556): the spare rows fitted, then every entry in order; what is unavailable counts and degrades. [log DEDUCED 53] -/
def State.applyRepairs (s : State) : State :=
  let s := s.each (List.range 86) fun s i => (s.wr R.SPR_ROWS.ROWS i (rowsFitted i)).wr R.SPR_ROWS.COLS i (if i < 32 then 10 else 0)
  let s := s.nvm.map.foldl State.applyRepair s
  let n := (s.spare.state.filter fun e => e.2 = 6).length
  ((s.wr R.SPR_RESERVE_DEV.UNAVAIL 0 (min n 255)).wb R.DEV_STARTUP.DEGRADED 0 (n ≠ 0)).spareSync

/-- STATE and PARTNER of SPR_QUERY_RES. -/
def State.sprQuery (s : State) : Nat × Nat :=
  let pl := s.rd R.SPR_QUERY.PLACE 0
  let key := if pl < 1024 then pl + 65536 * s.rd R.SPR_QUERY.FE 0 else pl
  let st := s.unitState key
  let partner := smGet 0xFFFF s.spare.partner key
  let v := if pl < 1024 && s.unavailable (pl + 131072) then 6
    else if st ≠ 0 then st
    else if placeOk pl && keySpare key then (if s.inService key then 5 else 4)
    else 0
  (v, partner)

end Sys2Proof.Machine
end

