-- ==== Sys2Proof/Machine/Calibration.lean ====
section
/-! DEFINITION. Self-calibration and glazing (R507 to R527): runs, steps and their outcomes, retries, completion, and the trims. -/

namespace Sys2Proof.Machine

/-- The trims of a kind of unit in the order of R510: how many, and the range of each. -/
def trimRange (kind j : Nat) : Int × Int :=
  if kind = 2 then (-127, 127)
  else if kind = 4 then (if j < 6 then (0, 511) else if j < 22 then (-127, 127) else if j = 22 then (0, 63) else (-255, 255))
  else (-2047, 2047)

/-- The number of trims of a unit. -/
def trimCount (kind : Nat) : Nat :=
  match kind with
  | 2 => 32 | 3 => 8 | 4 => 25 | 5 => 20 | 6 => 2 | 7 => 8 | _ => 0

/-- A unit is glazing (R526). -/
def State.glazing (s : State) (kind u : Nat) : Bool := s.trim kind u ≠ s.target kind u

/-- A unit takes steps: it is neither retired nor unavailable, and a failed idle front end is parked (R551). -/
def State.calUnit (s : State) (kind u : Nat) : Bool :=
  let v := s.unitState (calKey kind u)
  if kind = 3 then !s.unavailable (u / 9 + 131072)
  else v ≠ 3 && v ≠ 6 && !(kind = 4 && (s.unavailable (u / 2 + 131072) || (v = 2 && s.rd R.LANE_FE.ACTIVE_FE (u / 2) ≠ u % 2)))

/-- The units of a kind in quadrant q, in ascending physical index, the spares last (R515). -/
def calKindUnits (q kind : Nat) : List Nat :=
  match kind with
  | 2 => (List.range 16).map (16 * q + ·) ++ [64 + q]
  | 3 => (List.range 2304).map (2304 * q + ·)
  | 4 => (List.range 512).map (512 * q + ·)
  | 5 => (List.range 32).map (32 * q + ·) ++ [128 + 2 * q, 129 + 2 * q]
  | 6 => (List.range 32).map (32 * q + ·)
  | 7 => (List.range 8).map (8 * q + ·) ++ [32 + q]
  | _ => []

/-- The rotation of a run (R515): the spine first, then kind by kind, the units the last run deferred before the others of their kind. -/
def State.calRotation (s : State) (q : Nat) : List (Nat × Nat) :=
  let first := (s.cal q).deferred
  (1, q) :: [2, 3, 4, 5, 6, 7].flatMap fun k =>
    let units := ((calKindUnits q k).filter (s.calUnit k)).map fun u => (k, u)
    (first.filter fun u => u.1 = k && units.contains u) ++ units.filter fun u => !first.contains u

/-- A run of quadrant q starts (R509, R513, R515). -/
def State.calStart (s : State) (q : Nat) : State :=
  (s.setCal q { CalSt.idle with running := true, todo := s.calRotation q }).calNext q

/-- RUN_LIMIT in force, in units of 100 ms: 0 acts as 1. -/
def State.calLimit (s : State) (q : Nat) : Nat := max (s.rd R.CAL_CTL.RUN_LIMIT q) 1

/-- A quadrant is due again (R512). -/
def State.calDue (s : State) (q : Nat) : Bool :=
  let dt := s.rd R.CAL_CTL.CAL_DT q
  dt ≠ 0 && decide ((s.rdS R.CAL_TEMP.T_NOW q - s.rdS R.CAL_TEMP.T_REF q).natAbs ≥ dt)

/-- A pending request starts the next run when one ends (R513). -/
def State.calAfter (s : State) (q : Nat) : State :=
  if s.fl R.CAL_CTL.REQ_PENDING q then (s.wr R.CAL_CTL.REQ_PENDING q 0).calStart q else s

/-- A run completes (R522): its time, T_REF, COUNT and FIRST_DONE, and CAL_DONE. -/
def State.calComplete (s : State) (q : Nat) : State :=
  let c := s.cal q
  let t := s.stamp
  let s := s.setCal q { c with running := false, cur := none, todo := [], abandons := [], waiting := false }
  let s := (s.wr R.CAL_LAST_TIME_LO.TIME_LO q t).wr R.CAL_LAST_TIME_HI.TIME_HI q (t / 2 ^ 32)
  let s := (s.wr R.CAL_TEMP.T_REF q (s.rd R.CAL_TEMP.T_NOW q)).wr R.CAL_COUNT.COUNT q (s.rd R.CAL_COUNT.COUNT q + 1)
  ((((s.wr R.CAL_STATUS.FIRST_DONE q 1).raise 11).wb R.CAL_STATUS.DUE q (s.calDue q))).calAfter q

/-- The run goes on with its next unit, or completes when none is left (R515, R522). What the SPARES step calibrates is no run of R513, and records none. -/
def State.calGo (s : State) (q : Nat) : State :=
  let c := s.cal q
  if !c.running || c.cur.isSome then s
  else if c.todo.isEmpty then
    if s.m.startup && s.rd R.DEV_STARTUP.STEP 0 = 5 then s.setCal q { c with running := false, abandons := [] } else s.calComplete q
  else s.calNext q

/-- The outcome of a unit's step for CAL_QUERY_RES, with the run it fell in. -/
def State.calResult (s : State) (q kind u result : Nat) : State :=
  { s with results := smSet 0 s.results (trimKey kind u) (result * 65536 + s.rd R.CAL_COUNT.COUNT q % 65536) }

/-- A unit is marked CAL_SKIPPED (R508, R523): CAUSE 1 SPINE, 2 BUDGET. -/
def State.calSkip (s : State) (q kind u cause : Nat) : State :=
  let pl := calKey kind u % 65536
  let s := ((s.calResult q kind u 4).bump R.CAL_RESULT.SKIPPED q 1).wr R.CAL_SKIP_LAST.PLACE q pl
  ((s.wr R.CAL_SKIP_LAST.CAUSE q cause).raise 12).shard 0x30 pl cause (s.rd R.CAL_SPINE.VERR q + 65536 * s.rd R.CAL_SPINE.TERR q) 0

/-- A check of the spine failed (R508, R509): the step waits for its retry, or after the fourth check the unit is skipped; the self-check ends the run. -/
def State.calSpineFail (s : State) (q kind u : Nat) : State :=
  let c := s.cal q
  if c.tries + 1 < 4 then s.setCal q { c with tries := c.tries + 1, waiting := true }
  else if kind = 1 then
    let s := s.setCal q { c with running := false, cur := none, todo := [], waiting := false, hold := 100 * s.calLimit q }
    ((s.wr R.CAL_STATUS.SPINE_FAIL q 1).shard 0x31 (place 3 q) (s.rd R.CAL_SPINE.VERR q + 65536 * s.rd R.CAL_SPINE.TERR q) 0 0).calAfter q
  else ((s.setCal q { c with cur := none, waiting := false }).calSkip q kind u 1).calGo q

/-- The errors that the last check of the spine found (R508). -/
def State.calSpine (s : State) (q : Nat) (verr terr : Int) : State :=
  (s.wr R.CAL_SPINE.VERR q (ofInt 16 verr)).wr R.CAL_SPINE.TERR q (ofInt 16 terr)

/-- The output of a unit reaches no ball, so that its trims apply whole (R525). -/
def State.calWhole (s : State) (kind u : Nat) : Bool :=
  if s.m.startup then true
  else if kind = 2 then 64 ≤ u && !s.fl R.TDC_SPARE_STATUS.ASSIGNED u
  else if kind = 3 then !s.laneOn (u / 9)
  else if kind = 4 then s.rd R.LANE_FE.ACTIVE_FE (u / 2) ≠ u % 2
  else true

/-- The new trims of a unit (R525, R526): whole, or as targets to glaze to. A level DAC glazes only the trims of its present span. -/
def State.calApply (s : State) (kind u : Nat) (t : List Int) : State :=
  let s := { s with targets := smSet [] s.targets (trimKey kind u) t }
  if s.calWhole kind u then { s with trims := smSet [] s.trims (trimKey kind u) t }
  else if kind = 3 then
    let p := s.dacSpan u
    let old := s.trim kind u
    let new := (List.range 8).map fun j => if j / 2 = p then old.getD j 0 else t.getD j 0
    { s with trims := smSet [] s.trims (trimKey kind u) new }
  else s

/-- A step ends with a measurement (R511). -/
def State.calMeasured (s : State) (q kind u : Nat) (targets : List Int) (residual : Bool) : State :=
  let n := trimCount kind
  let t := (List.range n).map fun j => targets.getD j 0
  let out (j : Nat) : Bool := let r := trimRange kind j; decide (t.getD j 0 < r.1) || decide (t.getD j 0 > r.2)
  let near (j : Nat) : Bool := let r := trimRange kind j; decide (t.getD j 0 < r.1 + 8) || decide (t.getD j 0 > r.2 - 8)
  let word (j : Nat) : Nat := ofInt 32 (t.getD j 0)
  match (List.range n).find? out with
  | some j => ((s.calResult q kind u 3).bump R.CAL_RESULT2.FAILED q 1).markUnit (calKey kind u) 2 j (word j)
  | none =>
    if residual then
      let (j, s) := s.draw 5
      let j := j % n
      ((s.calResult q kind u 3).bump R.CAL_RESULT2.FAILED q 1).markUnit (calKey kind u) 2 j (word j)
    else
      let s := s.calApply kind u t
      match (List.range n).find? near with
      | some j => ((s.calResult q kind u 2).bump R.CAL_RESULT2.WORN q 1).markUnit (calKey kind u) 1 j (word j)
      | none => s.calResult q kind u 1

/-- After the step of an idle front end the lane's handover is asked for, where its other front end still waits for its step (R520, R521). -/
def State.calShadow (s : State) (q kind u : Nat) : State :=
  let l := u / 2
  if kind = 4 && !s.m.startup && !s.fl R.LANE_FE.SINGLE l && s.rd R.LANE_FE.ACTIVE_FE l ≠ u % 2 && s.fl R.CAL_CTL.SHADOW_EN q && !s.calExcl l
      && s.unitState (l + 65536 * (u % 2)) ≠ 2 && (s.cal q).todo.contains (4, 2 * l + 1 - u % 2) then s.askHandover l 1
  else s

/-- What an attempt of the step in progress found (R508, R511, R519). -/
def State.calAttempt (s : State) (q kind u : Nat) (x : CalOutcome) : State :=
  let c := s.cal q
  let ended : Bool := match x with | .spineFail => 4 ≤ c.tries + 1 | _ => true
  let s := s.when (ended && kind = 4) (·.gapReturn (u / 2))
  match x with
  | .spineFail => s.calSpineFail q kind u
  | .ballMoved => (s.setCal q { c with cur := none, todo := c.todo ++ [(kind, u)] }).calGo q
  | .measured t r =>
    let s := s.setCal q { c with cur := none, tries := 0, waiting := false }
    let s := s.when (kind ≠ 1) fun s =>
      let f := s.rd R.DEV_STARTUP.FAIL_COUNT 0
      let s := s.calMeasured q kind u t r
      (s.when (s.m.startup && smGet 0 s.results (trimKey kind u) / 65536 = 3) (·.wr R.DEV_STARTUP.FAIL_COUNT 0 (min (f + 1) 255))).calShadow q kind u
    s.calGo q

/-- CAL_STEP_DONE: the step in progress of quadrant q ends as `x` says (R508, R511); `verr` and `terr` are what its check of the spine found. -/
def execCalStepDone (q : Fin 4) (x : CalOutcome) (verr terr : Int) (s : State) : Out' :=
  done s fun s =>
    let s := s.calNext q.val
    let c := s.cal q.val
    match c.cur with
    | some (kind, u) => if !c.running || c.waiting || s.calPaused then s else (s.calSpine q.val verr terr).calAttempt q.val kind u x
    | none => s

/-- CAL_RETRY: 1 ms after a failed check of the spine it is made again (R508, R509): passed, the step goes on. -/
def execCalRetry (q : Fin 4) (ok : Bool) (verr terr : Int) (s : State) : Out' :=
  done s fun s =>
    let q := q.val
    let c := s.cal q
    match c.cur with
    | some (kind, u) =>
      if !c.running || !c.waiting || s.calPaused then s else
      let s := s.calSpine q verr terr
      if ok then s.setCal q { s.cal q with waiting := false } else s.calSpineFail q kind u
    | none => s

/-- CAL_RUN_LIMIT: the run has lasted RUN_LIMIT (R522): the units that are left are deferred, but for a step in progress. -/
def execCalRunLimit (q : Fin 4) (s : State) : Out' :=
  done s fun s =>
    let q := q.val
    let c := s.cal q
    if !c.running || s.m.startup then s else
    let left := c.todo.filter fun u => u.1 ≠ 1
    let s := left.foldl (fun s u => s.calResult q u.1 u.2 5) s
    let s := (s.setCal q { c with todo := c.todo.filter fun u => u.1 = 1, deferred := c.deferred ++ left }).bump R.CAL_RESULT.DEFERRED q left.length
    s.calGo q

/-- CAL_BUDGET_EXPIRE: the start-up budget ends (R523): what has not finished is skipped with BUDGET, and the runs whose spine self-check passed complete. -/
def execCalBudgetExpire (s : State) : Out' :=
  done s fun s =>
    if !s.m.startup || s.rd R.DEV_STARTUP.STEP 0 ≠ 4 then s else
    s.each (List.range 4) fun s q =>
      let c := s.cal q
      if !c.running then s else
      let all := c.cur.toList ++ c.todo
      let s := s.setCal q { c with cur := none, todo := [], waiting := false }
      let s := (all.filter fun u => u.1 ≠ 1).foldl (fun s u => s.calSkip q u.1 u.2 2) s
      if all.contains (1, q) then s.setCal q { s.cal q with running := false } else s.calComplete q

/-- A request for a run of quadrant q (R513): it starts, or waits for the run in progress. [log DEDUCED 135] -/
def State.calReq (s : State) (q : Nat) : State :=
  if !((s.m.mode = .service && !s.m.startup) || s.operating) then s
  else if (s.cal q).running then s.wr R.CAL_CTL.REQ_PENDING q 1 else s.calStart q

/-- The write of CAL_CTL (R513, R524): an ABORT ends the run; a REQ starts one, or is kept while one runs. [log DEDUCED 135] -/
def calCtlHook : Hook := fun _ q w be s =>
  let (s, r) := writeWord .CAL_CTL q w be s
  let s := s.when (R.CAL_CTL.ABORT.acts w be && (s.cal q).running && !s.m.startup) fun s =>
    (s.gapLeave q).setCal q { s.cal q with running := false, cur := none, todo := [], abandons := [], waiting := false }
  (s.when (R.CAL_CTL.REQ.acts w be) (·.calReq q), r)

/-- CAL_REQ: a write of CAL_CTL with REQ = 1. -/
def execCalReq (rq : Req) (q : Fin 4) (w : Word) (s : State) : Out' := writeRow rq .CAL_CTL q.val (Nat.lor w.toNat 2) calCtlHook s

/-- CAL_ABORT: a write of CAL_CTL with ABORT = 1. -/
def execCalAbort (rq : Req) (q : Fin 4) (w : Word) (s : State) : Out' := writeRow rq .CAL_CTL q.val (Nat.lor w.toNat 4) calCtlHook s

/-- One trim moves one unit toward its target. -/
def toward (a t : Int) : Int := if a < t then a + 1 else if a > t then a - 1 else a

/-- A glazing step of a unit (R526). -/
def State.glaze (s : State) (kind u : Nat) : State :=
  let a := s.trim kind u
  let t := s.target kind u
  if a = t then s else
  let n := trimCount kind
  let new :=
    if kind = 3 then
      let p := s.dacSpan u
      let off := a.getD (2 * p + 1) 0 ≠ t.getD (2 * p + 1) 0
      (List.range n).map fun j => if j = 2 * p + b2n off then toward (a.getD j 0) (t.getD j 0) else a.getD j 0
    else (List.range n).map fun j => toward (a.getD j 0) (t.getD j 0)
  { s with trims := smSet [] s.trims (trimKey kind u) new }

/-- The tile whose play counts a unit's glazing interval (R526). -/
def State.glazeTile (s : State) (kind u : Nat) : Nat :=
  if kind = 3 then u / 576 else if kind = 4 then u / 128 else if u < 64 then u / 4 else s.rd R.TDC_SPARE_STATUS.REPLACED u / 4

/-- Units with a target of their own that they have not reached, as keys of their trims. -/
def State.glazingKeys (s : State) : List Nat :=
  (s.targets.filter fun e => smGet [] s.trims e.1 ≠ e.2).map (·.1)

/-- GLAZE_STEP: a glazing interval of tile t has passed (R526): each unit it serves takes one step. [log DEDUCED 54] -/
def execGlazeStep (t : Fin 16) (s : State) : Out' :=
  done s fun s =>
    s.each (s.glazingKeys.filter fun k => s.glazeTile (k / 65536) (k % 65536) = t.val) fun s k => s.glaze (k / 65536) (k % 65536)

/-- The factory baseline of every unit (R510), as the record's bytes give it; every trim 0 where the record is missing (R560). -/
def State.loadBaseline (s : State) : State :=
  match s.nvmPayload 3 with
  | none => { s with trims := [], targets := [] }
  | some b =>
    let one (m : SMap (List Int)) (kind u : Nat) : SMap (List Int) :=
      smSet [] m (trimKey kind u) ((List.range (trimCount kind)).map fun j => Config.baselineTrim b kind u j)
    let m := (List.range 4).foldl (fun m q => [2, 3, 4, 5, 6, 7].foldl (fun m k => (calKindUnits q k).foldl (fun m u => one m k u) m) m) []
    { s with trims := m, targets := [] }

/-- Units of a quadrant that are glazing: CAL_GLAZE.GLAZING. -/
def State.glazingCount (s : State) (q : Nat) : Nat := (s.glazingKeys.filter fun k => keyQuad (calKey (k / 65536) (k % 65536)) = some q).length

/-- The worst of a lane's outcomes: failed, skipped, deferred, worn, done, never. -/
def worseResult (a b : Nat) : Nat :=
  let rank (r : Nat) : Nat := match r / 65536 with | 3 => 5 | 4 => 4 | 5 => 3 | 2 => 2 | 1 => 1 | _ => 0
  if rank b > rank a then b else a

/-- The outcomes that CAL_QUERY_RES reads for the unit queried: RESULT * 65536 + RUN, and GLAZING. -/
def State.calQuery (s : State) : Nat × Bool :=
  let pl := s.rd R.CAL_QUERY.PLACE 0
  let i := pl % 4096
  let res (kind u : Nat) := smGet 0 s.results (trimKey kind u)
  if !placeOk pl then (0, false) else
  match pl / 4096 with
  | 0 =>
    let fe := 2 * i + s.rd R.CAL_QUERY.FE 0
    ((List.range 9).foldl (fun a d => worseResult a (res 3 (9 * i + d))) (res 4 fe), s.glazing 4 fe || (List.range 9).any fun d => s.glazing 3 (9 * i + d))
  | 1 => (worseResult (res 5 i) (res 6 i), s.glazing 5 i || s.glazing 6 i)
  | 3 => (worseResult (res 5 (128 + 2 * i)) (res 5 (129 + 2 * i)), false)
  | 4 => (res 7 i, s.glazing 7 i)
  | 5 => (res 2 i, s.glazing 2 i)
  | _ => (0, false)

end Sys2Proof.Machine
end

