-- ==== Sys2Proof/Machine/Time.lean ====
section
/-! DEFINITION. Device time, timing ports and timed outputs (R431 to R453). -/

namespace Sys2Proof.Machine

/-- 2^48 seconds in units of 2^-16 ns: where the clock wraps (R431). -/
def wrapUnits : Nat := 2 ^ 48 * 1000000000 * 65536

/-- A time in 2^-16 ns as SEC, NS and a 16-bit fraction. -/
def Snap.ofUnits (u quality : Nat) : Snap := ⟨u % 65536, quality, u / 65536 % 1000000000, u / 65536 / 1000000000⟩

/-- A time of SEC, NS and fraction in 2^-16 ns. -/
def unitsOf (sec ns frac : Nat) : Nat := (sec * 1000000000 + ns) * 65536 + frac

/-- The addend range of R434. -/
def addendOk (v : Nat) : Bool := 0x27FAE147B ≤ v && v ≤ 0x28051EB85

/-- The write of TIME_ADDEND_HI (R434): both halves are committed, or refused. -/
def addendHook : Hook := fun _ _ w be s =>
  if !R.TIME_ADDEND_HI.ADDEND_HI.enabled be then (s, false) else
  let v := R.TIME_ADDEND_HI.ADDEND_HI.part w * 2 ^ 32 + s.rd R.TIME_ADDEND_LO.ADDEND_LO 0
  if addendOk v then (({ s with time := { s.time with addend := v } }).wr R.TIME_ADDEND_HI.ADDEND_HI 0 (v / 2 ^ 32), false)
  else (s.wr R.TIME_QUAL.ADDEND_REFUSED 0 1, true)

/-- ADDEND_COMMIT: a write of TIME_ADDEND_HI. -/
def execAddendCommit (rq : Req) (w : Word) (s : State) : Out' := writeRow rq .TIME_ADDEND_HI 0 w.toNat addendHook s

/-- The write of TIME_ADJ_TICKS (R435). -/
def adjTicksHook : Hook := fun _ _ w be s =>
  if !R.TIME_ADJ_TICKS.TICKS.enabled be then (s, false) else
  let n := R.TIME_ADJ_TICKS.TICKS.part w
  let v := s.rd R.TIME_ADJ_HI.ADJ_HI 0 * 2 ^ 32 + s.rd R.TIME_ADJ_LO.ADJ_LO 0
  if n = 0 then ({ s with time := { s.time with adj := none } }, false)
  else if addendOk v then ({ s with time := { s.time with adj := some (v, n) } }, false)
  else (s.wr R.TIME_QUAL.ADDEND_REFUSED 0 1, true)

/-- TIME_ADJ_START: a write of TIME_ADJ_TICKS. -/
def execTimeAdjStart (rq : Req) (w : Word) (s : State) : Out' := writeRow rq .TIME_ADJ_TICKS 0 w.toNat adjTicksHook s

/-- TIME_ADJ_END: the ticks of an adjustment are over, and the clock uses TIME_ADDEND (R435). [log DEDUCED 111] -/
def execTimeAdjEnd (s : State) : Out' :=
  done s fun s =>
    match s.time.adj with
    | some (_, 0) => { s with time := { s.time with adj := none } }
    | _ => s

/-- The write of TIME_STEP_CTL (R436): GO schedules the step that the step registers hold; while a step waits, the write with GO is discarded whole (R599). [log DEDUCED 57] -/
def stepCtlHook : Hook := fun _ _ w be s =>
  let go := R.TIME_STEP_CTL.GO.acts w be
  if go && s.time.step.isSome then (s, true) else
  let (s, r) := writeWord .TIME_STEP_CTL 0 w be s
  let x : StepReq := ⟨s.fl R.TIME_STEP_CTL.MODE 0, s.fl R.TIME_STEP_SEC_HI.NEG 0, s.rd R.TIME_STEP_SEC_HI.SEC_HI 0 * 2 ^ 32 + s.rd R.TIME_STEP_SEC_LO.SEC_LO 0, s.rd R.TIME_STEP_NS.NS 0⟩
  (s.when go fun s => { s with time := { s.time with step := some x } }.wr R.TIME_STEP_CTL.BUSY 0 1, r)

/-- TIME_STEP_GO: a write of TIME_STEP_CTL with GO = 1. -/
def execTimeStepGo (rq : Req) (w : Word) (s : State) : Out' := writeRow rq .TIME_STEP_CTL 0 (Nat.lor w.toNat 1) stepCtlHook s

/-- The sync timer restarts with the SYNC_TIMEOUT in force; 0 leaves it stopped (R439). -/
def State.syncRestart (s : State) : State :=
  let m := s.rd R.TIME_QUAL.SYNC_TIMEOUT 0
  { s with time := { s.time with sync := if m = 0 then none else some (m * 40000000) } }

/-- The write of TIME_QUAL (R438, R439). -/
def qualHook : Hook := fun _ _ w be s =>
  let hs := R.TIME_QUAL.HOST_STATE.enabled be
  let v := R.TIME_QUAL.HOST_STATE.part w
  let bad := hs && v = 3
  let old := s.rd R.TIME_QUAL.SYNC_TIMEOUT 0
  let s := s.when (hs && v ≠ 3) (·.wr R.TIME_QUAL.HOST_STATE 0 v)
  let (s, r) := writeFields [R.TIME_QUAL.ADDEND_REFUSED, R.TIME_QUAL.SYNC_TIMEOUT] 0 w be s
  let new := s.rd R.TIME_QUAL.SYNC_TIMEOUT 0
  let again := new ≠ old || R.TIME_QUAL.REFRESH.acts w be || (hs && v = 0)
  ((s.when again State.syncRestart).quals, r || bad)

/-- TIME_QUAL_WRITE: a write of TIME_QUAL. -/
def execTimeQualWrite (rq : Req) (w : Word) (s : State) : Out' := writeRow rq .TIME_QUAL 0 w.toNat qualHook s

/-- REFRESH: a write of TIME_QUAL with REFRESH = 1. -/
def execRefresh (rq : Req) (w : Word) (s : State) : Out' := writeRow rq .TIME_QUAL 0 (Nat.lor w.toNat 8) qualHook s

/-- SYNC_TIMEOUT: the sync timer expires (R439): a synced HOST_STATE becomes holdover. -/
def execSyncTimeout (s : State) : Out' :=
  done s fun s =>
    if s.time.sync.isNone then s else
    let s := { s with time := { s.time with sync := none } }
    (s.when (s.rd R.TIME_QUAL.HOST_STATE 0 = 0) (·.wr R.TIME_QUAL.HOST_STATE 0 2)).quals

/-- A snapshot of the clock that no read has taken. -/
def Snap.zero : Snap := ⟨0, 3, 0, 0⟩

/-- The present time as a snapshot (R433). -/
def State.snap (s : State) : Snap := ⟨s.clock.frac / 65536, s.quality, s.clock.ns, s.clock.sec⟩

/-- The shadow of a function (R433). -/
def State.shadow (s : State) (rq : Req) : Snap := smGet .zero s.time.shadows (reqNum rq)

/-- TIME_NOW_READ: a read of TIME_NOW_FRAC takes a snapshot into the function's shadow (R433). -/
def State.timeNowRead (s : State) (rq : Req) : State × Nat :=
  let x := s.snap
  ({ s with time := { s.time with shadows := smSet .zero s.time.shadows (reqNum rq) x } }, x.frac + 65536 * x.quality)

/-- TIME_NOW_READ (R433). -/
def execTimeNowRead (rq : Req) (s : State) : Out' := readRow rq .TIME_NOW_FRAC 0 (fun _ s => s.timeNowRead rq) s

/-- A timing port after reset. -/
def PortSt.idle : PortSt := ⟨[], [], [], []⟩
/-- Timing port p. -/
def State.port (s : State) (p : Nat) : PortSt := smGet .idle s.time.ports p
/-- Timing port p replaced. -/
def State.setPort (s : State) (p : Nat) (x : PortSt) : State := { s with time := { s.time with ports := smSet .idle s.time.ports p x } }

/-- A timing port runs (R89, R441): its mode is not off, and the device is past LOAD. -/
def State.portRuns (s : State) (p : Nat) : Bool := s.imaged && s.alive && (match s.image with | some im => im.portMode.getD p 0 ≠ 0 | none => false)

/-- PORT_LINK_CHANGE: the link of a timing port goes up or down (R441). -/
def execPortLinkChange (p : Fin 2) (up : Bool) (s : State) : Out' :=
  done s fun s =>
    if (up && !s.portRuns p.val) || s.fl R.TIME_PORT_STATUS.LINK p.val = up then s
    else (s.wb R.TIME_PORT_STATUS.LINK p.val up).raise (1096 + p.val)

/-- A big-endian 16-bit field of a frame. -/
def frame16 (b : List Nat) (i : Nat) : Nat := b.getD i 0 * 256 + b.getD (i + 1) 0

/-- The frame carries one IEEE 802.1Q tag (R442). -/
def frameTagged (b : List Nat) : Bool := frame16 b 12 = 0x8100

/-- The EtherType test of R442. -/
def frameType (b : List Nat) : Bool := frame16 b 12 = 0x88F7 || (frameTagged b && frame16 b 16 = 0x88F7)

/-- The destination address test of R442. -/
def State.frameAddr (s : State) (p : Nat) (b : List Nat) : Bool :=
  let a := beVal (b.take 6)
  a = 0x011B19000000 || a = 0x0180C200000E || a = s.rd R.TIME_PORT_MAC_HI.MAC_HI p * 2 ^ 32 + s.rd R.TIME_PORT_MAC_LO.MAC_LO p

/-- A time on the clock, wrapped (R431). -/
def wrapTime (u : Int) : Nat := (u % (wrapUnits : Nat)).toNat

/-- FRAME_RECEIVE: a frame without its FCS has been received, its stamp point `sub` * 2^-16 ns after the last tick (R442, R443, R445). [log DEDUCED 60] -/
def execFrameReceive (p : Fin 2) (fcsGood : Bool) (sub : Nat) (bytes : List Byte) (s : State) : Out' :=
  done s fun s =>
    let p := p.val
    let b := bytes.map BitVec.toNat
    if !s.portRuns p || !s.fl R.TIME_PORT_STATUS.LINK p then s
    else if !fcsGood then s.bump R.TIME_PORT_ERR.FCS p 1
    else if !s.frameAddr p b then s.bump R.TIME_PORT_DROP.ADDR p 1
    else if !frameType b then (s.bump R.TIME_PORT_DROP.TYPE p 1).raise 1100
    else if b.length < 60 || b.length > 240 then s.bump R.TIME_PORT_DROP.SIZE p 1
    else
      let n := s.rd R.TIME_PORT_RX.COUNT p
      if n = 16 then s.bump R.TIME_PORT_DROP.FULL p 1
      else
        let slot := (s.rd R.TIME_PORT_RX.HEAD p + n) % 16
        let x := Snap.ofUnits (wrapTime ((s.clock.units + sub : Nat) - (s.rd R.TIME_PORT_ING_LAT.ING_LAT p : Int) - s.rdS R.TIME_PORT_ASYM.ASYM p)) s.quality
        let slotBytes := leBytes 2 b.length ++ [x.quality + 4 * b2n (frameTagged b), 0] ++ leBytes 6 x.sec ++ leBytes 4 x.ns ++ leBytes 2 x.frac ++ b
        let y := s.port p
        ((s.setPort p { y with rx := smWrite 0 y.rx (256 * slot) slotBytes }).wr R.TIME_PORT_RX.COUNT p (n + 1)).raise (1092 + 2 * p)

/-- The write of TIME_PORT_RX (R443). -/
def rxHook : Hook := fun _ p w be s =>
  if !R.TIME_PORT_RX.POP.acts w be then (s, false)
  else if s.rd R.TIME_PORT_RX.COUNT p = 0 then (s, true)
  else ((s.wr R.TIME_PORT_RX.COUNT p (s.rd R.TIME_PORT_RX.COUNT p - 1)).wr R.TIME_PORT_RX.HEAD p (s.rd R.TIME_PORT_RX.HEAD p + 1), false)

/-- RX_POP: a write of TIME_PORT_RX with POP = 1. -/
def execRxPop (rq : Req) (p : Fin 2) (s : State) : Out' := writeRow rq .TIME_PORT_RX p.val 65536 rxHook s

/-- The frame that a transmit slot holds, LEN bytes. -/
def State.txFrame (s : State) (p slot : Nat) : List Nat :=
  smRead 0 (s.port p).tx (256 * slot + 16) (leVal (smRead 0 (s.port p).tx (256 * slot) 2))

/-- A GO with this write is discarded (R444, R446): its slot is being sent, or holds no frame that may be sent, the link is down, or ONE_STEP is reserved. -/
def State.txBad (s : State) (p slot oneStep : Nat) : Bool :=
  let len := leVal (smRead 0 (s.port p).tx (256 * slot) 2)
  bitAt (s.rd R.TIME_PORT_STATUS.TX_BUSY p) slot || len < 14 || len > 240 || !frameType (s.txFrame p slot) || !s.fl R.TIME_PORT_STATUS.LINK p || oneStep = 3

/-- The write of TIME_PORT_TX (R444, R446): a GO that is not taken discards the whole write and sets TX_REFUSED (R599). -/
def txHook : Hook := fun _ p w be s =>
  let go := R.TIME_PORT_TX.GO.acts w be
  if go && s.txBad p (s.newv R.TIME_PORT_TX.SLOT p w be) (s.newv R.TIME_PORT_TX.ONE_STEP p w be) then (s.wr R.TIME_PORT_STATUS.TX_REFUSED p 1, true) else
  let (s, r) := writeWord .TIME_PORT_TX p w be s
  let slot := s.rd R.TIME_PORT_TX.SLOT p
  let x := s.port p
  let job : TxJob := ⟨slot, s.rd R.TIME_PORT_TX.ONE_STEP p, s.fl R.TIME_PORT_TX.STAMP p, s.rd R.TIME_PORT_TX.TAG p⟩
  (s.when go fun s => (s.setPort p { x with jobs := x.jobs ++ [job] }).wr R.TIME_PORT_STATUS.TX_BUSY p (Nat.lor (s.rd R.TIME_PORT_STATUS.TX_BUSY p) (2 ^ slot)), r)

/-- TX_GO: a write of TIME_PORT_TX with GO = 1. [log DEDUCED 58] -/
def execTxGo (rq : Req) (p : Fin 2) (w : Word) (s : State) : Out' := writeRow rq .TIME_PORT_TX p.val (Nat.lor w.toNat 32) txHook s

/-- Bytes of a frame from index i on replaced. -/
def patch (b : List Nat) (i : Nat) (new : List Nat) : List Nat := (b.take i ++ new ++ b.drop (i + new.length)).take b.length

/-- `v` added to the correctionField of a frame whose PTP header starts at `h` (R446). -/
def addCorrection (b : List Nat) (h v : Nat) : List Nat := patch b (h + 8) (beBytes 8 (beVal ((b.drop (h + 8)).take 8) + v))

/-- The one-step insertion of R446 at egress stamp `x`. -/
def State.oneStep (s : State) (p mode : Nat) (x : Snap) (b : List Nat) : List Nat :=
  let h := if frameTagged b then 18 else 14
  if mode = 1 then addCorrection (patch b (h + 34) (beBytes 6 x.sec ++ beBytes 4 x.ns)) h x.frac
  else if mode = 2 then
    let ref := unitsOf (s.rd R.TIME_PORT_TX_REF_SEC.REF p) (s.rd R.TIME_PORT_TX_REF_NS.REF p) (s.rd R.TIME_PORT_TX_REF_FRAC.REF p)
    let m := 2 ^ 32 * 1000000000 * 65536
    addCorrection b h ((unitsOf (x.sec % 2 ^ 32) x.ns x.frac + m - ref % m) % m)
  else b

/-- TX_DONE: the oldest frame of a port is sent, its stamp point `sub` * 2^-16 ns after the last tick (R444 to R447). [log DEDUCED 58] -/
def execTxDone (p : Fin 2) (sub : Nat) (s : State) : Out' :=
  done s fun s =>
    let p := p.val
    let y := s.port p
    match y.jobs with
    | [] => s
    | j :: rest =>
      let x := Snap.ofUnits (wrapTime (s.clock.units + sub + s.rd R.TIME_PORT_EGR_LAT.EGR_LAT p : Nat)) s.quality
      let f := s.txFrame p j.slot
      let b := s.oneStep p j.oneStep x (f ++ List.replicate (60 - f.length) 0)
      let busy := s.rd R.TIME_PORT_STATUS.TX_BUSY p
      let s := (s.send (.frame p (b ++ leBytes 4 (crc32 b)))).wr R.TIME_PORT_STATUS.TX_BUSY p (if bitAt busy j.slot then busy - 2 ^ j.slot else busy)
      let s := s.setPort p { y with jobs := rest }
      if !j.stamp then s
      else if y.stamps.length < 8 then (s.setPort p { s.port p with stamps := y.stamps ++ [⟨x, j.tag⟩] }).raise (1093 + 2 * p)
      else s.bump R.TIME_PORT_ERR.TX_LOST p 1

/-- The read of TX_STAMP_FRAC (R447). -/
def State.txStampRead (s : State) (p : Nat) : State × Nat :=
  let y := s.port p
  match y.stamps with
  | [] => (s, 0)
  | x :: rest =>
    let s := s.setPort p { y with stamps := rest }
    let s := (((s.wr R.TX_STAMP_NS.NS p x.at'.ns).wr R.TX_STAMP_SEC_LO.SEC_LO p x.at'.sec).wr R.TX_STAMP_SEC_HI.SEC_HI p (x.at'.sec / 2 ^ 32)).wr R.TX_STAMP_SEC_HI.TAG p x.tag
    (s, x.at'.frac + 65536 * x.at'.quality + 2 ^ 31)

/-- TX_STAMP_READ: a read of TX_STAMP_FRAC. -/
def execTxStampRead (rq : Req) (p : Fin 2) (s : State) : Out' := readRow rq .TX_STAMP_FRAC p.val (fun p s => s.txStampRead p) s

/-- A timed output after reset. -/
def TevSt.idle : TevSt := ⟨none, 0⟩
/-- Timed output n. -/
def State.tev (s : State) (n : Nat) : TevSt := smGet .idle s.time.tevs n
/-- Timed output n replaced. -/
def State.setTev (s : State) (n : Nat) (x : TevSt) : State := { s with time := { s.time with tevs := smSet .idle s.time.tevs n x } }

/-- START of a timed output in 2^-16 ns. -/
def State.tevStart (s : State) (n : Nat) : Nat :=
  unitsOf (s.rd R.TEV_START_SEC_HI.SEC_HI n * 2 ^ 32 + s.rd R.TEV_START_SEC_LO.SEC_LO n) (s.rd R.TEV_START_NS.NS n) (s.rd R.TEV_START_FRAC.FRAC n)

/-- PERIOD of a timed output in 2^-16 ns. -/
def State.tevPeriod (s : State) (n : Nat) : Nat := s.rd R.TEV_PERIOD_NS.NS n * 65536 + s.rd R.TEV_PERIOD_FRAC.FRAC n

/-- The CAUSE of a refused arm, 0 where it is accepted (R450). -/
def State.tevCheck (s : State) (n : Nat) : Nat :=
  let w := s.rd R.TEV_WIDTH.WIDTH n
  let p := s.tevPeriod n
  let periodic := s.fl R.TEV_CFG.PERIODIC n
  if s.rd R.TEV_START_NS.NS n ≥ 1000000000 then 3
  else if w = 0 || (periodic && (p < 655360 || (w + 1) * 163840 ≥ p)) then 2
  else if !periodic && s.tevStart n ≤ s.clock.units + 6553600 then 1
  else 0

/-- The first firing of an accepted arm (R450): a periodic START that is PAST waits for the first firing after the clock + 100 ns. -/
def State.tevFirst (s : State) (n : Nat) : Nat :=
  let st := s.tevStart n
  let lim := s.clock.units + 6553600
  if s.fl R.TEV_CFG.PERIODIC n && st ≤ lim then st + ((lim - st) / s.tevPeriod n + 1) * s.tevPeriod n else st

/-- The write of TEV_CTL (R450, R451): a DISARM comes before an ARM; a disarm or a refused arm cancels the starts that wait for the output (R88). -/
def tevCtlHook : Hook := fun _ n w be s =>
  let (s, r) := writeWord .TEV_CTL n w be s
  let cancel (s : State) : State := s.each (s.armedOn n) fun s who => s.cancelStart who true
  let s := s.when (R.TEV_CTL.DISARM.acts w be) fun s => cancel ((s.wr R.TEV_CTL.ARMED n 0).setTev n { s.tev n with next := none })
  if R.TEV_CTL.ARM.acts w be then
    let c := s.tevCheck n
    let s := s.wr R.TEV_CTL.CAUSE n c
    if c = 0 then ((s.wr R.TEV_CTL.ARMED n 1).setTev n { s.tev n with next := some (s.tevFirst n) }, r)
    else (cancel (((s.wr R.TEV_CTL.ARMED n 0).wr R.TEV_CTL.ARM_REFUSED n 1).setTev n { s.tev n with next := none }), r)
  else (s, r)

/-- TEV_ARM: a write of TEV_CTL with ARM = 1. -/
def execTevArm (rq : Req) (n : Fin 4) (w : Word) (s : State) : Out' := writeRow rq .TEV_CTL n.val (Nat.lor w.toNat 1) tevCtlHook s

/-- TEV_DISARM: a write of TEV_CTL with DISARM = 1. -/
def execTevDisarm (rq : Req) (n : Fin 4) (w : Word) (s : State) : Out' := writeRow rq .TEV_CTL n.val (Nat.lor w.toNat 2) tevCtlHook s

/-- A write of a configuration register of a timed output: refused while it is armed (R450). -/
def tevCfgHook (r : Reg) : Hook := fun _ n w be s => if s.fl R.TEV_CTL.ARMED n then (s, true) else writeWord r n w be s

/-- Timed output n fires at time `u` (R451): its pulse, FIRED, its source, and those who use it: ADC triggers, acquisition conditions and armed starts. [log DEDUCED 127] -/
def State.tevFire (s : State) (n u : Nat) : State :=
  let x := s.tev n
  let periodic := s.fl R.TEV_CFG.PERIODIC n
  let s := s.setTev n { x with next := if periodic then x.next.map (· + s.tevPeriod n) else none, pulse := s.rd R.TEV_WIDTH.WIDTH n }
  let s := ((s.when (!periodic) (·.wr R.TEV_CTL.ARMED n 0)).bump R.TEV_COUNT.FIRED n 1).raise (1088 + n)
  let s := s.each ((List.range 128).filter fun o => s.rd R.ADC_CTL.TRIG o = 1 && s.rd R.ADC_CTL.TRIG_SEL o = n) State.adcTrigger
  let s := { s with m := { s.m with due := s.m.due ++ (s.armedOn n).filter fun who => !s.m.due.contains who } }
  let s := s.tdcPresent (List.range 64) (0x80 + n) (s.fl R.TEV_CFG.POL n) ((s.clock.tick * 2048 - (s.clock.units - u) / 80) / 8)
  s.acqTev n u

/-- TEV_FIRE: the clock has reached the next firing of a timed output (R449, R451). [log DEDUCED 59, 111] -/
def execTevFire (n : Fin 4) (s : State) : Out' :=
  done s fun s =>
    match (s.tev n.val).next with
    | some u => if u ≤ s.clock.units && s.imaged && s.alive then s.tevFire n.val u else s
    | none => s

/-- TEV_PULSE_END: WIDTH ticks have passed since the firing (R451). [log DEDUCED 59, 127] -/
def execTevPulseEnd (n : Fin 4) (s : State) : Out' := done s fun s =>
  if (s.tev n.val).pulse = 0 then s else
  (s.setTev n.val { s.tev n.val with pulse := 0 }).tdcPresent (List.range 64) (0x80 + n.val) (!s.fl R.TEV_CFG.POL n.val) (s.clock.tick * 256)

/-- What a time tick does beside the clock: instants that it passes are dated, and what is counted in ticks counts (R432). -/
def State.tickWork (s : State) : State :=
  let s := (s.each (List.range 16) fun s t => (s.playTick t).acqTick t).handoverTick
  let s := { s with time := { s.time with
    adj := s.time.adj.map fun (e : Nat × Nat) => (e.1, e.2 - 1)
    sync := s.time.sync.map (· - 1) } }
  s.setSeq 16 { s.seq 16 with tick := (s.seq 16).tick - 1 }

/-- TIME_TICK: the clock takes the addend in force, once it counts (R431, R432, R435). [log DESIGN CHOICE 6] -/
def execTimeTick (s : State) : Out' :=
  let s := { s with out := [] }
  if s.clock.running then .next { s.commit s.tickWork with clock := s.clock.add s.addendNow } else .next s

/-- A clock whose time is `u` in units of 2^-32 ns. -/
def Clock.ofFine (c : Clock) (u : Nat) : Clock :=
  { c with sec := u / 2 ^ 32 / 1000000000, ns := u / 2 ^ 32 % 1000000000, frac := u % 2 ^ 32, tick := c.tick + 1 }

/-- The time of a clock in units of 2^-32 ns. -/
def Clock.fine (c : Clock) : Nat := (c.sec * 1000000000 + c.ns) * 2 ^ 32 + c.frac

/-- The clock after a step (R436); none where the step is refused. -/
def stepClock (c : Clock) (addend : Nat) (x : StepReq) : Option Clock :=
  let limit : Int := (2 ^ 48 * 1000000000 * 2 ^ 32 : Nat)
  if x.ns ≥ 1000000000 then none
  else
    let off : Int := ((x.sec * 1000000000 + x.ns) * 2 ^ 32 : Nat)
    let u : Int := if x.setMode then off else (c.fine + addend : Nat) + (if x.neg then Int.neg off else off)
    if u < 0 ∨ u ≥ limit then none else some (c.ofFine u.toNat)

/-- A step passes firings of the timed outputs (R452): `a` is the time before it and `b` the time after. -/
def State.tevStep (s : State) (a b : Nat) : State :=
  s.each (List.range 4) fun s n =>
    match (s.tev n).next with
    | none => s
    | some u =>
      if u ≤ a || b < u then s
      else if s.fl R.TEV_CFG.PERIODIC n then
        let p := s.tevPeriod n
        let k := (b - u) / p + 1
        (s.bump R.TEV_COUNT.SKIPPED n k).setTev n { s.tev n with next := some (u + k * p) }
      else (s.tevFire n u).wr R.TEV_CTL.LATE n 1

/-- TIME_STEP_APPLY: the tick of a scheduled step (R436, R437, R452): the clock is stepped, or the step is refused and the tick is as any other. [log DEDUCED 57] -/
def execTimeStepApply (s : State) : Out' :=
  let s := { s with out := [] }
  match s.time.step with
  | none => .next s
  | some x =>
    let a := s.addendNow
    let s' := (({ s with time := { s.time with step := none } }).wr R.TIME_STEP_CTL.BUSY 0 0).tickWork
    match stepClock s.clock a x with
    | none => .next { s.commit (s'.wr R.TIME_STEP_CTL.REFUSED 0 1) with clock := if s.clock.running then s.clock.add a else s.clock }
    | some c =>
      let s' := s'.wr R.TIME_QUAL.STEPPED 0 1
      let s' := s'.when (s'.rd R.TIME_QUAL.HOST_STATE 0 = 1) (·.wr R.TIME_QUAL.HOST_STATE 0 0)
      let s' := (s'.syncRestart.raise 1098).tevStep s.clock.units c.units
      .next { s.commit s'.quals with clock := c }

end Sys2Proof.Machine
end

