-- ==== Sys2Proof/Machine/Reset.lean ====
section
/-! DEFINITION. Resets, rails, straps and the reference (R20 to R24, R94 to R105, R483), and the start of a load from flash (R77). -/

namespace Sys2Proof.Machine

/-- `s'` with the queue and the fuses of `s`: what a command leaves that may set the clock and writes neither of the two. -/
def State.commitAll (s s' : State) : State := { s' with pending := s.pending, fuses := s.fuses }

/-- The outcome of a command that may reset the clock: it keeps the queue and the fuses. -/
def doneAll (s : State) (f : State → State) : Out' := .next (s.commitAll (f { s with out := [] }))

/-- The mode changes, and MODE_CHANGE arises (R84, R408). [log DEDUCED 12] -/
def State.setMode (s : State) (m : Mode) : State := { s with m := { s.m with mode := m } }.raise 2

/-- The lane selectors follow R89 and R96: a selector that closes leaves both comparators unsettled (R124), and a drive that a trip ignores
shows at once (R119). -/
def State.selectors (s : State) : State :=
  s.each (List.range 1024) fun s l =>
    let x := s.lane l
    let on := s.laneOn l
    if x.closed = on then s else (s.setLane l { x with closed := on }).when on fun s => (s.unsettle l true true).blockedCheck l

/-- All four key slots are blank (R73). -/
def State.openDevice (s : State) : Bool := s.fuses.all fun k => k.hash = 0

/-- A load begins to read flash copy 0 or 1, and the device holds the flash lock for it (R77, R81, R498). -/
def State.readCopy (s : State) (copy : Nat) : State := { s with m := { s.m with load := some (.flash copy) } }.wr R.FLS_LOCK.HOLDER 0 3

/-- A boot from flash: the device enters LOAD and reads the first copy (R77). [log DEDUCED 85] -/
def State.flashBoot (s : State) : State :=
  (((((s.setMode .load).readCopy 0).wr R.DEV_MOULD_STATUS.STATE 0 1).wr R.DEV_MOULD_FLASH.FIRST_CAUSE 0 0).wr R.DEV_MOULD_FLASH.SECOND_CAUSE 0 0)

/-- A boot that waits for the lock starts where the strap selects flash (R77, R98). -/
def State.tryBoot (s : State) : State :=
  if s.m.bootWaits && s.m.mode = .safe && s.fl R.DEV_CLK.PLL_LOCKED 0 && s.alive then
    let s := { s with m := { s.m with bootWaits := false } }
    s.when (s.strap 0) State.flashBoot
  else s

/-- DEV_MOULD_STATUS after a load: `st` 2 loaded or 3 failed (R79, R80). -/
def State.mouldStatus (s : State) (st cause detail : Nat) (signed : Bool) : State :=
  let (host, copy) : Bool × Nat := match s.m.load with | some (.flash c) => (false, c) | _ => (true, 0)
  let s := s.when (!host) fun s => s.wr (if copy = 0 then R.DEV_MOULD_FLASH.FIRST_CAUSE else R.DEV_MOULD_FLASH.SECOND_CAUSE) 0 cause
  let s := ((s.wr R.DEV_MOULD_STATUS.STATE 0 st).wb R.DEV_MOULD_STATUS.SOURCE 0 host).wr R.DEV_MOULD_STATUS.FLASH_COPY 0 copy
  let s := (s.wb R.DEV_MOULD_STATUS.SIGNED 0 signed).wb R.DEV_MOULD_STATUS.OPEN_DEVICE 0 s.openDevice
  (s.wr R.DEV_MOULD_STATUS.CAUSE 0 cause).wr R.DEV_MOULD_STATUS.DETAIL 0 detail

/-- A load fails (R79, R81): its shard; then the second flash copy is read, or the device returns to SAFE with the result. -/
def State.loadFail (s : State) (cause detail : Nat) : State :=
  match s.m.load with
  | none => s
  | some src =>
    let (host, copy) : Nat × Nat := match src with | .host => (1, 0) | .flash c => (0, c)
    let s := s.when (host = 0) (·.wr R.FLS_LOCK.HOLDER 0 0)
    let s := s.shard 1 0x8000 (cause + detail % 65536 * 65536) host copy
    if host = 0 && copy = 0 && cause ≠ 0x40 then (s.wr R.DEV_MOULD_FLASH.FIRST_CAUSE 0 cause).readCopy 1
    else
      let s := s.mouldStatus 3 cause detail false
      ({ s with m := { s.m with load := none } }.raise 22).setMode .safe

/-- Everything outside the AON island after a POR reset: NVM, fuses and the boot flash keep their content, and so does the mirror (R20, R101). -/
def State.porState (s : State) : State :=
  let s := s.nvmAbort
  let r := State.reset
  { r with
    pending := s.pending
    fuses := s.fuses
    regs := smKeep (fun k => slotKey k < firstPor) s.regs
    m := { r.m with trip := s.m.trip, porst := s.m.porst, badRails := s.m.badRails, beforeSafe := true, bootWaits := false, straps := s.m.straps, refSeen := s.m.refSeen, orderShard := s.m.orderShard }
    hub := ⟨[], [], []⟩
    log := { r.log with mirror := s.log.mirror }
    nvm := { r.nvm with cells := s.nvm.cells }
    flash := { r.flash with cells := s.flash.cells }
    spi := s.spi
    out := s.out
    free := s.free }

/-- VDD_CORE or VDD_STORE is below its level. -/
def State.coreBad (s : State) : Bool := s.m.badRails.any fun n => n = 1 || n = 2

/-- The logic outside the AON island leaves POR where nothing holds it: the straps act, the device enters SAFE and the mirror is copied back (R77, R99, R104, R567). -/
def State.release' (s : State) : State :=
  if !s.m.beforeSafe || s.m.porst || s.m.trip || s.coreBad then s else
  let s := { s with m := { s.m with beforeSafe := false, bootWaits := true } }
  let s := (s.wr R.DEV_STRAP.SAMPLED 0 s.m.straps).wb R.DEV_CLK.REF_PRESENT 0 s.m.refSeen
  ((s.mirrorRestore.live 0 (!s.m.refSeen)).setMode .safe).quals

/-- An AON reset (R6, R101): everything but NVM, the fuses and the boot flash; PORST_N, the other rails and the strap balls stay as the board drives them. [log DEDUCED 21] -/
def State.aonState (s : State) : State :=
  let s := s.nvmAbort
  let r := State.reset
  { r with
    pending := s.pending
    fuses := s.fuses
    m := { r.m with porst := s.m.porst, badRails := s.m.badRails, beforeSafe := true, bootWaits := false, straps := s.m.straps }
    hub := ⟨[], [], []⟩
    nvm := { r.nvm with cells := s.nvm.cells }
    flash := { r.flash with cells := s.flash.cells }
    out := s.out
    free := s.free }.release'

/-- AON_RESET: VDD_AON has been below 0.5 V and is good again (R94, R101). [log DEDUCED 21] -/
def execAonReset (s : State) : Out' := doneAll s State.aonState

/-- PORST_N_ASSERT: PORST_N goes low (R96, R101). -/
def execPorstAssert (s : State) : Out' :=
  doneAll s fun s =>
    if s.m.porst then s
    else ({ s.porState with m := { s.porState.m with porst := true } }).wr R.DEV_RESET_CAUSE.POR 0 1

/-- PORST_N_RELEASE: PORST_N goes high and the straps are sampled (R77, R99). [log PRESUMED 2] -/
def execPorstRelease (straps : Nat) (s : State) : Out' :=
  doneAll s fun s =>
    if !s.m.porst then s else { s with m := { s.m with porst := false, straps := straps % 64 } }.release'

/-- SUPPLY_ORDER_DEPARTURE: a rail has come up or gone out of the order of R94; the AON island records it (R96). [log DEDUCED 32] -/
def execSupplyOrderDeparture (s : State) : Out' :=
  done s fun s => { s with m := { s.m with orderShard := true } }.wr R.DEV_RESET_CAUSE.SUPPLY_ORDER 0 1

/-- A rail of R544 falls below its fail level (R94, R97): a reset for the first three, else the lockout opens every output. VDD_CORE and VDD_STORE
act as PORST_N low; BROWNOUT is set where they, and not PORST_N or the other of the two, begin the POR. -/
def State.railFall (s : State) (rail : Nat) : State :=
  if rail = 0 then s.aonState
  else if s.m.badRails.contains rail then s
  else
    let held := s.m.porst || s.coreBad
    let s := { s with m := { s.m with badRails := s.m.badRails ++ [rail] } }
    if rail = 1 || rail = 2 then (s.porState.wr R.DEV_RESET_CAUSE.POR 0 1).when (!held) (·.wr R.DEV_RESET_CAUSE.BROWNOUT 0 1)
    else
      let s := s.when (rail = 7) State.supplyLoss
      (s.each dpsAll fun s d => if (s.dps d).closed then s.dpsOpen d else s).selectors

/-- RAIL_FAIL (R97). -/
def execRailFail (rail : Fin 8) (s : State) : Out' := doneAll s (·.railFall rail.val)

/-- A POR that a rail began ends with a new sample of the straps (R101). The command carries no levels of the strap balls, so the sample is a free value. [log DESIGN CHOICE 22] -/
def State.resample (s : State) : State :=
  if !s.m.beforeSafe || s.m.porst || s.m.trip || s.coreBad then s else
  let (v, s) := s.draw 8
  { s with m := { s.m with straps := v % 64 } }

/-- RAIL_GOOD: a rail is at its good level again, and what it held open or in reset goes on (R94, R96, R101). [log DESIGN CHOICE 22] -/
def execRailGood (rail : Fin 8) (s : State) : Out' :=
  doneAll s fun s =>
    if !s.m.badRails.contains rail.val then s else
    ({ s with m := { s.m with badRails := s.m.badRails.filter (· ≠ rail.val) } }.resample.release').selectors

/-- Everything outside the AON island after a SOFT reset (R101, R102, R440): the POR registers, straps, links, clock and shard ring survive. [log DEDUCED 31] -/
def State.softState (s : State) : State :=
  let s := s.loadFail 0x40 0
  let s := match s.nvm.job with
    | some j => ((s.nvmAbort).raise 16).shard 0x50 nvmPlaceCode j.kind j.copy 0
    | none => s
  let r := State.reset
  let x : State := { r with
    pending := s.pending
    clock := s.clock
    fuses := s.fuses
    regs := smKeep (fun k => slotKey k < firstSoft) s.regs
    m := { s.m with mode := .safe, startup := false, target := none, byRequest := false, stopNow := false, softReset := true, bootWaits := false, load := none, heldStep := 0, spared := [], storesReady := false, fuseCmd := none, due := [] }
    hub := ⟨(s.hub.srcs.filter fun e => e.1 < 64 && e.2.live).map fun (e : Nat × SrcSt) => (e.1, { SrcSt.idle with live := true }), [], []⟩
    time := { s.time with adj := none, step := none, ports := [], tevs := [] }
    log := s.log
    nvm := { s.nvm with job := none, waiting := none, map := [] }
    host := { s.host with links := s.host.links.map fun (e : Nat × LinkSt) => (e.1, { e.2 with vfEnable := false, numVfs := 0 }), rings := [], credit := [], rsn := [] }
    flash := { r.flash with cells := s.flash.cells, wel := s.flash.wel }
    spi := s.spi
    hk := s.hk
    out := s.out
    free := s.free }
  let x := ((x.wr R.DEV_RESET_CAUSE.SOFT 0 1).wr R.DEV_MOULD_STATUS.STATE 0 0).wr R.HK_STATUS.HK_FIXED 0 1
  (x.when (x.rd R.TIME_QUAL.HOST_STATE 0 = 0) (·.wr R.TIME_QUAL.HOST_STATE 0 2)).quals

/-- The write of DEV_MODE (R84, R85): SOFT_RESET overrides any request in the same write. -/
def modeHook : Hook := fun _ _ w be s =>
  if R.DEV_MODE.SOFT_RESET.acts w be then (s.softState, false) else (s.modeWrite w be, false)

/-- SOFT_RESET: a write of DEV_MODE with SOFT_RESET = 1 (R101, R102). [log DEDUCED 20, 23] -/
def execSoftReset (rq : Req) (w : Word) (s : State) : Out' := writeRow rq .DEV_MODE 0 (Nat.lor w.toNat (2 ^ 16)) modeHook s

/-- SOFT_RESET_COMPLETE: the device enters SAFE, and boots from flash where the strap selects it (R77, R84, R102). [log DEDUCED 23] -/
def execSoftResetComplete (s : State) : Out' :=
  done s fun s =>
    if !s.m.softReset then s else
    ({ s with m := { s.m with softReset := false, bootWaits := true } }.setMode .safe).tryBoot

/-- MODE_REQ_SERVICE: a write of DEV_MODE with REQ = 0b010. -/
def execModeReqService (rq : Req) (w : Word) (s : State) : Out' := writeRow rq .DEV_MODE 0 (putBits (putBits w.toNat 8 3 2) 16 1 0) modeHook s

/-- MODE_REQ_IDLE: a write of DEV_MODE with REQ = 0b011. -/
def execModeReqIdle (rq : Req) (w : Word) (s : State) : Out' := writeRow rq .DEV_MODE 0 (putBits (putBits w.toNat 8 3 3) 16 1 0) modeHook s

/-- MODE_REQ_RUN: a write of DEV_MODE with REQ = 0b100. -/
def execModeReqRun (rq : Req) (w : Word) (s : State) : Out' := writeRow rq .DEV_MODE 0 (putBits (putBits w.toNat 8 3 4) 16 1 0) modeHook s

/-- The registers of reset domain FUNC; the fields of OCT_STATUS that show the circuits in use stay. -/
def funcFields : List Fld :=
  ([Reg.LANE_CTL, .LANE_DRV_CTL, .LANE_CMP_CTL, .LANE_LOAD, .LANE_PPMU_CTL, .LANE_MON_CTL, .LANE_MON, .LANE_STATUS, .SEQ_HOST_FLAGS, .OCT_MATRIX, .OCT_PPMU_COMPL, .ADC_CTL,
    .ADC_STATUS, .ADC_LOST, .ADC_SEQ_A, .ADC_SEQ_B, .ADC_FIFO_TIME_LO, .ADC_FIFO_TIME_HI, .SMU_CTL, .SMU_CLAMP, .SMU_VCLAMP, .SMU_MEAS, .SMU_MON_CTL, .SMU_MON_THR,
    .SMU_STATUS, .SMU_LOST, .SMU_FIFO_TIME_LO, .SMU_FIFO_TIME_HI, .RED_GRP_AREA,
    .RED_GRP_WPTR, .RED_GRP_RPTR, .RED_GRP_STATUS, .EVH_Q_BASE_LO, .EVH_Q_BASE_HI, .EVH_Q_CFG, .EVH_Q_WPTR, .EVH_Q_RPTR, .EVH_Q_STATUS, .HOST_DMA_BASE_LO, .HOST_DMA_BASE_HI,
    .HOST_DMA_CFG, .HOST_DMA_TAIL, .HOST_DMA_HEAD, .HOST_DMA_STATUS].flatMap Reg.fields) ++
  [R.OCT_STATUS.CONFLICT, R.OCT_STATUS.DROPPED, R.OCT_STATUS.BALL_UNAVAIL]

/-- A field instance returns to reset with the FUNC reset of saggar k. -/
def State.funcOwned (s : State) (k slot : Nat) : Bool :=
  match funcFields.find? fun f => f.key = slotKey slot with
  | none => false
  | some f =>
    let i := slotInst slot
    match f.reg.owner i with
    | .own => i / 4 = k
    | .tile t => s.tileOwner t = some k
    | .octet o => s.octOwner o = some k
    | .group g => s.grpOwner g = some k
    | .sag0 => k = 0
    | _ => false

/-- The rings of a saggar stop: EN, HEAD and TAIL clear, and the descriptor in progress ends with no STATUS write (R455, R483). -/
def State.dmaStop (s : State) (k : Nat) : State :=
  let s := { s with host := { s.host with rings := smKeep (fun r => r / 4 ≠ k) s.host.rings } }
  s.each ((List.range 4).map (4 * k + ·)) fun s r =>
    ((((s.wr R.HOST_DMA_CFG.EN r 0).wr R.HOST_DMA_HEAD.HEAD r 0).wr R.HOST_DMA_TAIL.TAIL r 0).wr R.HOST_DMA_STATUS.BUSY r 0)

/-- A FUNC reset of saggar k (R101, R119, R124, R161, R164, R238, R318, R377, R398, R425, R483, R504). What the return of a lane's or SMU's
fields to reset changes has the effect of that change. [log DEDUCED 17, 18] -/
def State.funcReset (s : State) (k : Nat) : State :=
  let s := s.dmaStop k
  let s := s.when (k = 0 && s.rd R.FLS_LOCK.HOLDER 0 = 1) (·.wr R.FLS_LOCK.HOLDER 0 0)
  let s := s.each ((List.range 4).map (4 * k + ·)) State.queueReset
  let tiles := (List.range 16).filter fun t => s.tileOwner t = some k
  let s := s.each tiles fun s t => (if (s.play t).playing then s.tileStop t else s.seqStopped t).acqReset t
  let s := s.each ((List.range 64).filter fun g => s.grpOwner g = some k) State.grpReset
  let octs := (List.range 128).filter fun o => s.octOwner o = some k
  let s := s.each octs fun s o => (s.setAdc o .idle).setSmu o .idle
  let s := s.when (k = 0) (·.each ((List.range 8).map (128 + ·)) fun s i => s.setSmu i .idle)
  let lanes := tiles.flatMap fun t => (List.range 64).map (64 * t + ·)
  let old := lanes.flatMap fun l => [R.LANE_CTL.CMP_EN, R.LANE_PPMU_CTL.MODE, R.LANE_PPMU_CTL.RANGE].map fun f => (f.key, l, s.leff f l)
  let modes := (octs ++ if k = 0 then (List.range 8).map (128 + ·) else []).map fun i => (i, s.rd R.SMU_CTL.FMODE i, s.rd R.SMU_CTL.IRANGE i)
  let s := s.each tiles fun s t => s.setPlay t { s.play t with held := [] }
  let s := s.resetFields (s.funcOwned k)
  let s := s.each lanes fun s l => s.setLane l { s.lane l with tripOff := false }
  let s := old.foldl (fun s e => s.applied e.1 e.2.1 e.2.2) s
  let s := modes.foldl (fun s e => s.smuModeSet e.1 e.2.1 e.2.2) s
  let s := s.each octs fun s o =>
    let home := match s.image with | some im => im.smuHome.getD o 255 | none => 255
    if home < 8 then s.wr R.OCT_MATRIX.LANE_SEL o (2 ^ home) else s
  s.each ((List.range 4).map (4 * k + ·)) State.qSync

/-- The saggars bound to functions of a link, in order. -/
def State.linkSaggars (s : State) (link : Nat) : List Nat :=
  match s.image with
  | some im => (List.range im.saggars.length).filter fun k => let e := im.saggars.getD k ⟨0, 0, 0, 0⟩; s.imaged && 2 * e.port + e.half = link
  | none => []

/-- The configuration that PCI Express returns to reset in a function: its MSI-X masks, table and pending bits, and its AER status (R459, R482). [log PRESUMED 19] -/
def State.fnClear (s : State) (f : Nat) : State :=
  let drop (m : SMap Nat) (n : Nat) : SMap Nat := smKeep (fun k => k / n ≠ f) m
  { s with host := { s.host with masks := drop s.host.masks 4, fnMask := drop s.host.fnMask 1, pba := drop s.host.pba 4, table := drop s.host.table 16, aer := drop s.host.aer 16 } }

/-- VF Enable of a link clears. [log PRESUMED 19] -/
def State.vfClear (s : State) (link : Nat) : State :=
  { s with host := { s.host with links := smSet .down s.host.links link { s.link link with vfEnable := false, numVfs := 0 } } }

/-- FUNCTION_LEVEL_RESET (R101, R483). [log DEDUCED 17] -/
def execFunctionLevelReset (f : Fin 64) (s : State) : Out' :=
  done s fun s =>
    if !s.alive then s else
    let link := f.val / 16
    let sags := if f.val % 16 = 0 then s.linkSaggars link else (s.sagOf (.fn f)).toList
    let s := (s.each sags State.funcReset).fnClear f.val
    s.when (f.val % 16 = 0) fun s => (s.each ((List.range 15).map fun v => 16 * link + v + 1) State.fnClear).vfClear link

/-- HOT_RESET: a hot reset or link-down of a link acts as a FUNC reset of every function on it, and never resets the device (R103). -/
def execHotReset (link : Fin 4) (linkDown : Bool) (s : State) : Out' :=
  done s fun s =>
    if !s.alive then s else
    let s := s.each (s.linkSaggars link.val) State.funcReset
    let s := (s.each ((List.range 16).map (16 * link.val + ·)) State.fnClear).vfClear link.val
    if linkDown then { s with host := { s.host with links := smSet .down s.host.links link.val .down } } else s

/-- D3HOT_ENTRY: a move to D3hot stops the function's DMA, as a FUNC reset does (R455). -/
def execD3hotEntry (f : Fin 64) (s : State) : Out' :=
  done s fun s => if !s.alive then s else s.each (s.sagOf (.fn f)).toList State.dmaStop

/-- The calibration steps in progress are abandoned and start again when their pause ends (R514); a front end in a gap step returns to its ball and waits for a gap (R519). -/
def State.calRestart (s : State) : State :=
  s.each (List.range 4) fun s q =>
    let c := s.cal q
    let gap : Bool := match c.cur with | some (k, u) => k = 4 && s.inGapStep (u / 2) | none => false
    (s.gapLeave q).setCal q { c with cur := if gap then none else c.cur, todo := if gap then c.cur.toList ++ c.todo else c.todo, tries := 0, waiting := false }

/-- Start-up SERVICE waits in WAIT_REF where a step that needs the lock is interrupted (R107). [log DEDUCED 15] -/
def State.waitRef (s : State) : State :=
  let k := s.rd R.DEV_STARTUP.STEP 0
  if 3 ≤ k && k ≤ 5 && !s.fl R.DEV_CLK.PLL_LOCKED 0 then { s with m := { s.m with heldStep := k } }.wr R.DEV_STARTUP.STEP 0 8 else s

/-- REF_LOST: REFCLK has been missing for 4 periods (R23): a root PLL that is locked or relocks holds over, and tiles act by REF_LOSS_POLICY. [log DEDUCED 13, 14] -/
def execRefLost (s : State) : Out' :=
  done s fun s =>
    if !s.m.refSeen then s else
    let locked := s.fl R.DEV_CLK.PLL_LOCKED 0 || s.m.relocking
    let s := { s with m := { s.m with refSeen := false } }
    if !s.clocked then s else
    let s := ((s.wr R.DEV_CLK.REF_LOST 0 1).wr R.DEV_CLK.REF_PRESENT 0 0).live 0 true
    let s := { s with m := { s.m with relocking := false } }.wr R.DEV_CLK.RELOCK_PENDING 0 0
    let s := s.when locked fun s => (s.wr R.DEV_CLK.PLL_LOCKED 0 0).wr R.DEV_CLK.HOLDOVER 0 1
    let s := s.tdcUnref.calRestart.waitRef.quals
    s.when (s.fl R.DEV_CLK.REF_LOSS_POLICY 0) (·.stopTiles false)

/-- The root PLL begins to relock (R24). -/
def State.relock (s : State) : State :=
  let s := { s with m := { s.m with relocking := true } }
  (((s.wr R.DEV_CLK.HOLDOVER 0 0).wr R.DEV_CLK.PLL_LOCKED 0 0).wr R.DEV_CLK.RELOCK_PENDING 0 0).quals

/-- A tile plays. -/
def State.anyPlays (s : State) : Bool := (List.range 16).any fun t => s.playing t

/-- REF_PRESENT: 1,000 good REFCLK periods have passed (R24): relock starts at once, or waits for the last playing tile. The first lock is PLL_LOCK. -/
def execRefPresent (s : State) : Out' :=
  done s fun s =>
    if s.m.refSeen then s else
    let s := { s with m := { s.m with refSeen := true } }
    if !s.clocked then s else
    let s := ((s.wr R.DEV_CLK.REF_PRESENT 0 1).live 0 false).quals
    if !s.m.everLocked then s
    else if (s.m.mode = .run || s.m.mode = .legacy) && s.anyPlays then s.wr R.DEV_CLK.RELOCK_PENDING 0 1
    else s.relock

/-- RELOCK_START: the last playing tile has stopped (R24). [log DEDUCED 14] -/
def execRelockStart (s : State) : Out' :=
  done s fun s => if s.fl R.DEV_CLK.RELOCK_PENDING 0 && !s.anyPlays then s.relock else s

/-- The units of quadrant q that took over between two states: assigned spares, and front ends that have become active. -/
def sparedUnits (a b : State) (q : Nat) : List (Nat × Nat) :=
  let gained (f : Fld) (k : Nat) : Bool := b.fl f k && !a.fl f k
  (if gained R.TDC_SPARE_STATUS.ASSIGNED (64 + q) then [(2, 64 + q)] else []) ++
  (((List.range 256).map (256 * q + ·)).filter fun l => a.rd R.LANE_FE.ACTIVE_FE l ≠ b.rd R.LANE_FE.ACTIVE_FE l).map (fun l => (4, 2 * l + b.rd R.LANE_FE.ACTIVE_FE l)) ++
  (([2 * q, 2 * q + 1].filter (gained R.SMU_SPARE_STATUS.ASSIGNED)).map fun k => (5, 128 + k)) ++
  if gained R.DPS_SPARE_STATUS.ASSIGNED (32 + q) then [(7, 32 + q)] else []

/-- The SPARES step (R106): the spares that wait are brought in, and every unit that the step has brought in is calibrated, from the first. -/
def State.sparesStep (s : State) : State :=
  let t := s.spareAll fun s k => s.spareNow k
  let t := { t with m := { t.m with spared := t.m.spared ++ (List.range 4).flatMap fun q => (sparedUnits s t q).map fun u => (q, u) } }
  t.each (List.range 4) fun s q =>
    let l := (s.m.spared.filter fun u => u.1 = q).map (·.2)
    if l.isEmpty then s else (s.setCal q { CalSt.idle with running := true, todo := l, deferred := (s.cal q).deferred, hold := (s.cal q).hold }).calNext q

/-- A step of start-up SERVICE begins, or waits in WAIT_REF for a lock that it needs (R106, R107): a step that the wait interrupted begins again. [log DEDUCED 15, 30] -/
def State.startStep (s : State) (k : Nat) : State :=
  if 3 ≤ k && k ≤ 5 && !s.fl R.DEV_CLK.PLL_LOCKED 0 then { s with m := { s.m with heldStep := k } }.wr R.DEV_STARTUP.STEP 0 8
  else
    let s := s.wr R.DEV_STARTUP.STEP 0 k
    if k = 4 then s.each (List.range 4) State.calStart
    else if k = 5 then s.sparesStep
    else if k = 6 then
      if !s.mapWaits then s
      else if !s.fl R.THS_STATUS.NVM_OK 0 then s.wr R.DEV_STARTUP.REPAIR_DEFERRED 0 1
      else if s.fl R.NVM_STATUS.BUSY 0 || s.fl R.NVM_STATUS.DIR_FAIL 0 then s
      else (s.wr R.NVM_STATUS.REPAIR_PENDING 0 0).nvmStart 4 (repairPayload s.nvm.map) false
    else if k = 7 then
      let s := ((s.wr R.DEV_MODE.STARTUP_DONE 0 1).wr R.DEV_STARTUP.ELAPSED_MS 0 (min 65535 ((s.clock.tick - s.m.svcTick) / 400000))).raise 19
      if s.fl R.DEV_MODE.HOLD_STARTUP 0 then s
      else { s with m := { s.m with target := some (if s.legacySel then .legacy else .idle), byRequest := false } }.wr R.DEV_MODE.TRANSITION 0 1
    else s

/-- The root PLL is locked: PLL_LOCK arises, a step that waited resumes and a boot that waited starts (R24, R98, R107, R408). [log DEDUCED 30] -/
def State.locked (s : State) : State :=
  let s := ({ s with m := { s.m with relocking := false, everLocked := true } }.wr R.DEV_CLK.PLL_LOCKED 0 1).raise 1
  let s := s.quals
  (s.when (s.rd R.DEV_STARTUP.STEP 0 = 8) fun s => s.startStep s.m.heldStep).tryBoot

/-- RELOCK_DONE: the root PLL has relocked (R24). -/
def execRelockDone (s : State) : Out' := done s fun s => if s.m.relocking then s.locked else s

/-- PLL_LOCK: the root PLL first locks after a POR reset; device time counts from here (R98, R432, R530). -/
def execPllLock (s : State) : Out' :=
  doneAll s fun s =>
    if s.m.everLocked || !s.clocked || !s.fl R.DEV_CLK.REF_PRESENT 0 then s
    else ({ s with clock := { s.clock with running := true } }.wr R.HK_STATUS.AON_CLOCKED 0 0).locked

end Sys2Proof.Machine
end

