-- ==== Sys2Proof/Machine/Modes.lean ====
section
/-! DEFINITION. The completion of mode transitions (R84 to R91, R109), the steps of start-up SERVICE (R106, R107, R602), and the device and
saggar starts (R87, R88, R469). -/

namespace Sys2Proof.Machine

/-- What an entry to SERVICE from IDLE, RUN or LEGACY does (R96, R109, R551): halted sequencers are recovered, spares and rows come in, and a departure from the supply order gets its shard. -/
def State.serviceEntry (s : State) (hard : List Nat) : State :=
  let s := s.each (List.range 17) fun s q => s.recover q (hard.contains q)
  (s.spareAll fun s k => s.spareAtEntry k true).spareRowsIn

/-- The shard of a departure from the supply order, at the next entry to SERVICE (R96, R566). [log DEDUCED 32] -/
def State.orderShard (s : State) : State :=
  if !s.m.orderShard then s else
  let f := [R.DEV_RESET_CAUSE.AON, R.DEV_RESET_CAUSE.POR, R.DEV_RESET_CAUSE.SOFT, R.DEV_RESET_CAUSE.BROWNOUT, R.DEV_RESET_CAUSE.SUPPLY_ORDER]
  { s with m := { s.m with orderShard := false } }.shard 2 0x8000 (f.foldl (fun a x => a + s.rd x 0 * 2 ^ x.lo) 0) 0 0

/-- The first entry to RUN, or to LEGACY, after SAFE connects the outputs (R90, R575). -/
def State.firstRun (s : State) : State :=
  if s.fl R.DEV_MODE.FIRST_RUN 0 then s else
  let s := s.wr R.DEV_MODE.FIRST_RUN 0 1
  s.each dpsAll fun s d => if s.dpsAllowed d && !(s.dps d).closed then s.dpsClose d else s

/-- The transition in progress completes (R84 to R87, R90, R109, R539, R601); a machine-checked sequencer of `hard` has a hard fault. [log DEDUCED 92] -/
def State.transit (s : State) (hard : List Nat) : State :=
  match s.m.target with
  | none => s
  | some new =>
    let old : Mode := s.m.mode
    if (old = Mode.run || old = Mode.legacy) && s.anyPlays then s else
    let req := s.m.byRequest
    let s := ({ s with m := { s.m with target := none, byRequest := false, stopNow := false, startup := s.m.startup && old ≠ Mode.service } }.wr R.DEV_MODE.TRANSITION 0 0).setMode new
    let s := s.when req (·.wr R.DEV_MODE.REQ_STATUS 0 2)
    let s := s.when (old = Mode.run) fun s => s.each (List.range 17) fun s who => s.cancelStart who true
    let s := match new with
      | .service => (s.serviceEntry hard).orderShard
      | .idle => s.spareAll fun s k => s.spareAtEntry k false
      | .run | .legacy => s.firstRun
      | _ => s
    let s := s.selectors
    s.when (new = Mode.run && s.fl R.THS_STATUS.CONE_T 0) (·.modeRequest 3 false)

/-- TRANSITION_DONE (R85): the new mode is in force; `hard` lists the halted sequencers whose word R109 finds faulty again. [log DEDUCED 12] -/
def execTransitionDone (hard : List Nat) (s : State) : Out' := done s (·.transit hard)

/-- STORE_TEST (R106, R602): the stores are zero with valid check bits, the housekeeping code and the shard log keep their content, and
failed rows, keys store * 2^20 + row, take spare rows. Each housekeeping word that fails its check, by its bad bytes or as `fails` names it, is treated
by R109; `hard` names those that fail the retest too. -/
def State.storeTest (s : State) (fails hard : List Nat) : State :=
  let hk := s.store 16
  let bad := (hk.bad.filter fun e => e.2 ≠ 0).map fun e => if 65536 ≤ e.1 then 81 * 2 ^ 20 + (e.1 - 65536) else 80 * 2 ^ 20 + e.1
  let fails := fails ++ bad.filter fun k => !fails.contains k
  let s := { s with
    stores := smSet .idle [] 16 hk
    cap := []
    capEcc := []
    red := { s.red with ctxs := [], fifo := [], pending := [], buffer := [], ecc := [] }
    m := { s.m with storesReady := true } }
  s.each fails fun s k =>
    let st := k / 2 ^ 20
    let row := k % 2 ^ 20
    if st = 80 || st = 81 then (s.recoverWord 16 (if st = 81 then 65536 + row else row) (hard.contains k)).raise 20
    else if st ≥ 86 then s
    else
      let s := s.markRow st row 2
      if smGet 0 s.spare.rows k ≠ 3 && s.rd R.SPR_ROWS.ROWS st > 0 then s.spareRow st row 2 else s

/-- The REPAIR_MAP step (R106, R510, R556, R560): the copies of NVM are chosen, and the map and the baseline trims in force are those of NVM. [log DEDUCED 53] -/
def State.repairMapStep (s : State) : State :=
  let s := s.nvmPowerUp
  let l := match s.nvmPayload 4 with | some b => repairEntries b | none => []
  ((({ s with nvm := { s.nvm with map := l } }).wr R.NVM_STATUS.REPAIR_PENDING 0 0).applyRepairs).loadBaseline

/-- A step of start-up SERVICE ends and the next begins (R106). -/
def State.stepDone (s : State) (failed storeFails hard : List Nat) : State :=
  if s.m.mode ≠ .service || !s.m.startup then s else
  match s.rd R.DEV_STARTUP.STEP 0 with
  | 1 => s.repairMapStep.startStep 2
  | 2 => (s.storeTest storeFails hard).startStep 3
  | 3 => (s.testFails failed).startStep 4
  | 4 => if (List.range 4).any fun q => (s.cal q).running then s else s.startStep 5
  | 5 =>
    if (List.range 4).any fun q => (s.cal q).running then s
    else if s.spare.waiting.any fun w => (s.spareFor w.key).isSome then { s with m := { s.m with spared := [] } }.startStep 5
    else s.startStep 6
  | 6 => if s.nvm.job.isSome then s else s.startStep 7
  | _ => s

/-- STARTUP_STEP_DONE: `failed` are the keys of the units that self-test found outside their limits, `storeFails` the rows that STORE_TEST found faulty,
and `hard` those of them whose retest failed too. [log DEDUCED 15] -/
def execStartupStepDone (failed : List Nat) (storeFails : List Nat) (s : State) (hard : List Nat := []) : Out' := done s (·.stepDone failed storeFails hard)

/-- A start can act: the device is in RUN and not leaving it (R86, R88). -/
def State.startable (s : State) : Bool := s.m.mode = .run && s.m.target.isNone

/-- A named tile cannot start at `edge` (R88, R239, R469): it is playing, unless the same edge started it, or halted, or its check has not passed, or another saggar owns it. -/
def State.tileBarred (s : State) (who t edge : Nat) : Bool :=
  (s.rd R.SEQ_STATUS.STATE t ≠ 0 && !((s.play t).playing && (s.play t).start = edge)) || s.halted t || !s.fl R.SEQ_LOAD.VALID t || (who < 16 && s.tileOwner t ≠ some who)

/-- The named tiles that start at an edge, a lockstep group whole or not at all (R24, R88). -/
def State.starters (s : State) (who mask edge : Nat) : List Nat :=
  if s.m.relocking then [] else
  (List.range 16).filter fun t => (s.group t).all fun m => bitAt mask m && !s.tileBarred who m edge

/-- A start is performed at an edge, in taps: what it leaves out sets REFUSED (R34, R88). -/
def State.launch (s : State) (who edge : Nat) : State :=
  let g := startRegs who
  let mask := s.rd g.mask g.inst
  let l := s.starters who mask edge
  let out : Bool := (List.range 16).any fun t => bitAt mask t && !l.contains t
  let s := s.each l fun s t => if (s.play t).playing then s else s.tileStart t edge
  s.when out (·.startRefused who)

/-- The VCLK edge of a start that the present tick begins (`e` 0) or that lies half a tick later. [log DEDUCED 38] -/
def State.edgeTap (s : State) (e : Nat) : Nat := s.clock.tick * 2048 + e * 1024

/-- The write of DEV_START or SAG_START (R88, R469): GO outside RUN discards the whole write, and LEGACY every write (R575). -/
def startHook (who edge w be : Nat) : Fx := fun s =>
  let g := startRegs who
  let (go, cancel, fs) : Fld × Fld × List Fld :=
    if who = 16 then (R.DEV_START.GO, R.DEV_START.CANCEL, [R.DEV_START.TILE_MASK, R.DEV_START.AT_TEV, R.DEV_START.TEV, R.DEV_START.REFUSED])
    else (R.SAG_START.GO, R.SAG_START.CANCEL, [R.SAG_START.TILE_MASK, R.SAG_START.AT_TEV, R.SAG_START.TEV, R.SAG_START.REFUSED])
  if go.acts w be && !s.startable then (s.startRefused who, true) else
  if s.m.mode = .legacy then (s, true) else
  let (s, r) := writeFields fs g.inst w be s
  let s := s.when (cancel.acts w be) (·.cancelStart who false)
  if !go.acts w be then (s, r) else
  let s := s.cancelStart who false
  if s.fl g.atTev g.inst then (s.wr g.armed g.inst 1, r) else (s.launch who (s.edgeTap edge), r)

/-- The write of DEV_START. -/
def devStartHook (edge : Nat) : Hook := fun _ _ w be => startHook 16 edge w be

/-- The write of SAG_START: of the saggar of the requesting function. -/
def sagStartHook (edge : Nat) : Hook := fun _ i w be => startHook i edge w be

/-- DEV_START_GO: a write of DEV_START with GO = 1. [log DEDUCED 16] -/
def execDevStartGo (rq : Req) (w : Word) (edge : Fin 2) (s : State) : Out' := writeRow rq .DEV_START 0 (Nat.lor w.toNat (2 ^ 19)) (devStartHook edge.val) s

/-- DEV_START_CANCEL: a write of DEV_START with CANCEL = 1 and no GO. -/
def execDevStartCancel (rq : Req) (w : Word) (s : State) : Out' := writeRow rq .DEV_START 0 (putBits (Nat.lor w.toNat (2 ^ 22)) 19 1 0) (devStartHook 0) s

/-- SAG_START_GO: a write of SAG_START with GO = 1. -/
def execSagStartGo (rq : Req) (w : Word) (edge : Fin 2) (s : State) : Out' := writeRow rq .SAG_START 0 (Nat.lor w.toNat (2 ^ 19)) (sagStartHook edge.val) s

/-- SAG_START_CANCEL: a write of SAG_START with CANCEL = 1 and no GO. -/
def execSagStartCancel (rq : Req) (w : Word) (s : State) : Out' := writeRow rq .SAG_START 0 (putBits (Nat.lor w.toNat (2 ^ 22)) 19 1 0) (sagStartHook 0) s

/-- ARMED_START: the VCLK edge at or after the firing that an armed start waited for (R88): the tiles and the checks are decided here. [log DEDUCED 16] -/
def execArmedStart (who : Fin 17) (edge : Fin 2) (s : State) : Out' :=
  done s fun s =>
    let g := startRegs who.val
    if !s.m.due.contains who.val || !s.fl g.armed g.inst then s
    else if !s.startable then s.cancelStart who.val true
    else (s.cancelStart who.val false).launch who.val (s.edgeTap edge.val)

end Sys2Proof.Machine
end

