-- ==== Sys2Proof/Machine/Image.lean ====
section
/-! DEFINITION. The mould image: its format and the checks of a load (R41 to R72, R79, R80), its application (R48 to R70, R79, R471), the
commands of loading (R77, R78, R81) and the key fuses (R73 to R76). -/

namespace Sys2Proof.Machine

/-- Byte i of a byte string; 0 past its end. -/
def byteAt (b : List Nat) (i : Nat) : Nat := b.getD i 0
/-- A 16-bit field (R41). -/
def le16 (b : List Nat) (i : Nat) : Nat := leVal ((b.drop i).take 2)
/-- A 32-bit field. -/
def le32 (b : List Nat) (i : Nat) : Nat := leVal ((b.drop i).take 4)
/-- A part of a byte string. -/
def cut (b : List Nat) (i n : Nat) : List Nat := (b.drop i).take n
/-- `n` records of `k` bytes each. -/
def records (k : Nat) : Nat → List Nat → List (List Nat)
  | 0, _ => []
  | n + 1, b => b.take k :: records k n (b.drop k)
/-- Every byte is 0. -/
def zeros (b : List Nat) : Bool := b.all (· == 0)

/-- A failed check: its CAUSE and DETAIL (R80). -/
abbrev Fail := Nat × Nat

/-- The first failing check of a list of conditions with their causes. -/
def firstBad (l : List (Bool × Fail)) : Option Fail := (l.find? fun e => !e.1).map (·.2)

/-- The first failure of several lists of checks, one after another. -/
def firstOf (ls : List (List (Bool × Fail))) : Option Fail := firstBad ls.flatten

/-- A directory entry (R45). -/
structure DirEntry where
  type : Nat
  off : Nat
  len : Nat
  crc : Nat
  deriving DecidableEq, Repr

/-- A directory entry from its 16 bytes. -/
def DirEntry.ofBytes (b : List Nat) : DirEntry := ⟨le16 b 0, le32 b 4, le32 b 8, le32 b 12⟩

/-- Check 1 of R79: the header. `pushed` is DEV_MOULD_LEN of a push. [log DEDUCED 128] -/
def headerFail (h : List Nat) (pushed : Option Nat) (serial : Nat) : Option Fail :=
  let ver := le16 h 4
  let cnt := le16 h 6
  let len := le32 h 8
  let bad : List Nat :=
    (if 7 ≤ cnt && cnt ≤ 14 then [] else [0x06]) ++ (if le32 h 0x0C ≤ 1 then [] else [0x0C]) ++ (if byteAt h 0x10 ≤ 3 then [] else [0x10]) ++
    ([0x11, 0x12, 0x13].filter fun i => byteAt h i ≠ 0) ++ (if le32 h 0x1C = 0x40 then [] else [0x1C]) ++ (((List.range 16).map (0x2C + ·)).filter fun i => byteAt h i ≠ 0)
  let bind := leVal (cut h 0x20 8)
  firstBad [(h.take 4 = [0x5A, 0x57, 0x4D, 0x49], (0x02, 0)), (ver = 3, (0x03, ver)),
    (len % 8 = 0 && 256 ≤ len && len ≤ 262144 && (match pushed with | some n => len = n | none => true), (0x04, 0)),
    (crc32 (h.take 0x3C) = le32 h 0x3C, (0x05, 0)), (bad = [], (0x06, bad.headD 0)), (le32 h 0x18 = 0x7A1D0400, (0x07, 0)), (bind = 0 || bind = serial, (0x08, 0))]

/-- The directory of an image (R45). -/
def imageDir (b : List Nat) : List DirEntry := (records 16 (le16 b 6) (b.drop 0x40)).map DirEntry.ofBytes

/-- The entries of the directory in order, each with what R46 asks of it: `prev` the type before, `pos` the end of what lies before. [log DEDUCED 25] -/
def dirFail (b : List Nat) (len n : Nat) : Nat → Option Nat → Nat → List DirEntry → Option Fail
  | _, _, _, [] => none
  | i, prev, pos, e :: l =>
    let up : Bool := match prev with | some t => t < e.type | none => true
    if !up || e.off % 8 ≠ 0 || e.off < pos || !zeros (cut b pos (e.off - pos)) || (i + 1 = n && e.off + e.len ≠ len) then some (0x09, i)
    else dirFail b len n (i + 1) (some e.type) (e.off + e.len) l

/-- The length R47 states for a section, from its own bytes; none for an unknown type. -/
def sectionLen (type : Nat) (body : List Nat) : Option Nat :=
  let n := body.length
  match type with
  | 0x1 => some 32
  | 0x2 => some (if n < 8 then n + 1 else 8 + 8 * byteAt body 0)
  | 0x3 => some 160
  | 0x4 => some (if n < 8 then n + 1 else 8 + 40 * le16 body 0)
  | 0x5 => some 656
  | 0x6 => some 8192
  | 0x7 => some 8192
  | 0x8 => some 4872
  | 0x9 => some 256
  | 0xA => some (if n < 8 then n + 1 else 8 + 4 * (le16 body 0 + le16 body 0 % 2) + 32 * le16 body 2)
  | 0xB | 0xC | 0xD => some 8
  | 0xFF => some 192
  | _ => none

/-- Check 3 of R79 on one section: its type, its length, then its CRC. [log DEDUCED 131] -/
def sectionFail (b : List Nat) (e : DirEntry) : Option Fail :=
  let body := cut b e.off e.len
  match sectionLen e.type body with
  | none => some (0x0A, e.type)
  | some n => firstBad [(e.len = n, (0x0B, e.type)), (crc32 body = e.crc, (0x0C, e.type))]

/-- A sectionOfs bytes, where the image has it. -/
def sectionOf (b : List Nat) (type : Nat) : Option (List Nat) := ((imageDir b).find? fun e => e.type = type).map fun e => cut b e.off e.len

/-- The bytes the signature covers (R72): up to SIGNATURE, with HEADER_CRC, DIR_CRC and the CRC of the SIGNATURE entry as 0. -/
def signedBytes (b : List Nat) : List Nat :=
  let dir := imageDir b
  let blank (l : List Nat) (i : Nat) : List Nat := l.take i ++ [0, 0, 0, 0] ++ l.drop (i + 4)
  let i := dir.findIdx fun e => e.type = 0xFF
  let m := b.take ((dir.getD i ⟨0, 0, 0, 0⟩).off)
  blank (blank (blank m 0x3C) 0x28) (0x40 + 16 * i + 12)

/-- Check 5 of R79: the key and the signature (R72 to R75). -/
def keyFail (fuses : List KeySlot) (b : List Nat) : Option Fail :=
  let slot := byteAt b 0x10
  let k := fuses.getD slot ⟨0, false⟩
  let closed : Bool := fuses.any fun k => k.hash ≠ 0
  match sectionOf b 0xFF with
  | none => if closed then some (0x10, 0) else none
  | some s =>
    let num (i : Nat) : Nat := beVal (cut s (48 * i) 48)
    let keys := if closed then firstBad [(k.hash ≠ 0, (0x11, slot)), (!k.revoked, (0x12, slot)), (sha384 (s.take 96) = k.hash, (0x13, slot))] else none
    match keys with
    | some f => some f
    | none => if p384Verify (num 0) (num 1) (sha384 (signedBytes b)) (num 2) (num 3) then none else some (0x14, 0)

/-- A saggar entry (R50). -/
def SagEntry.ofBytes (b : List Nat) : SagEntry := ⟨byteAt b 1, byteAt b 2, byteAt b 3, byteAt b 4⟩
/-- A site entry (R54). -/
def SiteDecl.ofBytes (b : List Nat) : SiteDecl := ⟨byteAt b 0, byteAt b 1, leVal (cut b 8 32)⟩
/-- A lane's records of PATH_DECL and LANE_LIMITS (R58, R59). -/
def LaneDecl.ofBytes (p l : List Nat) : LaneDecl :=
  ⟨le16 p 0, byteAt p 2, byteAt p 3, toSigned 16 (le16 l 0), toSigned 16 (le16 l 2), byteAt l 4, byteAt l 5⟩
/-- A source record of EVENT_ROUTES (R61). -/
def RouteDecl.ofBytes (b : List Nat) : RouteDecl := ⟨byteAt b 0, byteAt b 1, byteAt b 2, byteAt b 3⟩
/-- A record of QUOTAS_INIT (R64). -/
def QuotaDecl.ofBytes (b : List Nat) : QuotaDecl := ⟨le16 b 0, le16 b 2, le16 b 4, byteAt b 6⟩

/-- The executable count E of the housekeeping code (R68). -/
def hkExecutable (b : List Nat) : Nat := if byteAt b 6 % 2 = 1 then le16 b 0 - 96 else le16 b 0

/-- The quotas of an image without QUOTAS_INIT (R66). -/
def defaultQuota (octs : List Nat) (k : Nat) : QuotaDecl :=
  let n := ((List.range 16).filter fun t => octs.getD (8 * t) 255 = k).length
  ⟨48 * n, 4 * n, 16 * n, 10⟩

/-- What an image declares (R48 to R69), defaults in place of absent sections. -/
def imageOf (b : List Nat) : Image :=
  let sec (t : Nat) : List Nat := (sectionOf b t).getD []
  let clk := sec 1
  let own := sec 3
  let site := sec 4
  let sag := sec 2
  let res := sectionOf b 5
  let recs := (res.map fun r => records 4 164 r).getD []
  let rec4 (i k d : Nat) : Nat := match recs[i]? with | some r => byteAt r k | none => d
  let ev := sectionOf b 8
  let hk := sec 10
  let e := hkExecutable hk
  let words := (records 4 (le16 hk 0) (hk.drop 8)).map leVal
  let nvm := sectionOf b 11
  let leg := sectionOf b 12
  let n := byteAt sag 0
  let octs := own.take 128
  { version := le32 b 0x14
    signed := le32 b 0x0C % 2 = 1
    keySlot := byteAt b 0x10
    serialBind := leVal (cut b 0x20 8)
    spread := byteAt clk 0
    refPolicy := byteAt clk 1
    portMode := [byteAt clk 2, byteAt clk 3]
    strapsFitted := le16 clk 4
    strapsExpect := le16 clk 6
    coldPlate := byteAt clk 8
    coolantMax := le16 clk 10
    powerBudget := le16 clk 12
    saggars := (records 8 n (sag.drop 8)).map SagEntry.ofBytes
    octOwner := octs
    dpsOwner := cut own 128 32
    lockstep := cut site 4 4
    sites := (records 40 (le16 site 0) (site.drop 8)).map SiteDecl.ofBytes
    smuHome := (List.range 128).map fun o => rec4 o 0 255
    adcBorrow := (List.range 128).map fun o => rec4 o 1 1
    gang := (List.range 32).map fun d => rec4 (128 + d) 0 255
    dpsSpareEn := (List.range 32).map fun d => rec4 (128 + d) 1 1
    smuSpareEn := (List.range 4).map fun q => rec4 (160 + q) 0 3
    feSpareEn := (List.range 4).map fun q => rec4 (160 + q) 1 1
    lanes := ((records 8 1024 (sec 6)).zip (records 8 1024 (sec 7))).map fun (x : List Nat × List Nat) => LaneDecl.ofBytes x.1 x.2
    evSplit := match ev with | some v => byteAt v 0 | none => 0
    holdPeriods := match ev with | some v => (records 4 64 (v.drop 8)).map (le16 · 0) | none => List.replicate 64 1
    routes := match ev with | some v => (records 4 1152 (v.drop 0x108)).map RouteDecl.ofBytes | none => List.replicate 1152 ⟨0, 0, 0xFF, 0⟩
    quotas := match sectionOf b 9 with
      | some v => ((records 16 16 v).map QuotaDecl.ofBytes).take n
      | none => (List.range n).map (defaultQuota octs)
    hkMicro := words.take e
    hkTables := words.drop e
    hkNano := (records 32 (le16 hk 2) (hk.drop (8 + 4 * (le16 hk 0 + le16 hk 0 % 2)))).map leVal
    hkEntry := le16 hk 4
    hkCount := e
    userAccess := match nvm with | some v => byteAt v 0 | none => 1
    repairPersist := match nvm with | some v => byteAt v 1 | none => 1
    nvmTmin := match nvm with | some v => toSigned 8 (byteAt v 2) | none => 0
    nvmTmax := match nvm with | some v => toSigned 8 (byteAt v 3) | none => 90
    legacy := match leg with | some v => byteAt v 0 = 1 | none => false
    personalities := match leg with | some v => byteAt v 1 | none => 0
    debugOpen := match sectionOf b 13 with | some v => byteAt v 0 | none => 0 }

/-- The first unit of a list whose condition fails, with the cause of its section. -/
def eachOk (cause : Nat) (l : List Nat) (p : Nat → Bool) : Option Fail := (l.find? fun i => !p i).map fun i => (cause, i)

/-- CLOCK_PLAN (R48, R49, R99): `straps` are the sampled ones. [log DEDUCED 133] -/
def clockFail (b : List Nat) (straps : Nat) : Option Fail :=
  let fitted := le16 b 4
  let cool := toSigned 16 (le16 b 10)
  let pow := le16 b 12
  firstOf [[(byteAt b 0 ≤ 1, (0x20, 0)), (byteAt b 1 ≤ 1, (0x20, 1)), (byteAt b 2 ≤ 2, (0x20, 2)), (byteAt b 3 ≤ 2, (0x20, 3)), (fitted < 64, (0x20, 4)),
      (byteAt b 8 ≤ 1, (0x20, 8)), (byteAt b 9 = 0, (0x20, 9)), (decide (-400 ≤ cool ∧ cool ≤ 600), (0x20, 10)), (1 ≤ pow && pow ≤ 160, (0x20, 12))],
    ((List.range 18).map fun i => (byteAt b (14 + i) = 0, (0x20, 14 + i))),
    ((List.range 6).map fun n => (!bitAt fitted n || bitAt straps n = bitAt (le16 b 6) n, (0x21, n))), [(byteAt b 8 = 1 || pow ≤ 40, (0x22, pow))]]

/-- SAGGAR_TABLE (R50, R51). [log DEDUCED 129] -/
def saggarFail (b : List Nat) (straps : Nat) : Option Fail :=
  let n := byteAt b 0
  let l := records 8 n (b.drop 8)
  let key (r : List Nat) : List Nat := cut r 1 3
  let entry (k : Nat) : Bool :=
    let r := l.getD k []
    byteAt r 0 = k && byteAt r 1 ≤ 1 && byteAt r 2 ≤ 1 && byteAt r 3 ≤ 15 && 1 ≤ byteAt r 4 && byteAt r 4 ≤ 4 && zeros (r.drop 5) && (k ≠ 0 || byteAt r 3 = 0) &&
      !((l.take k).any fun x => key x = key r) && (byteAt r 2 = 0 || bitAt straps (1 + byteAt r 1))
  let parent (k : Nat) : Bool := let r := l.getD k []; byteAt r 3 = 0 || l.any fun x => byteAt x 1 = byteAt r 1 && byteAt x 2 = byteAt r 2 && byteAt x 3 = 0
  if !(1 ≤ n && n ≤ 16 && zeros (cut b 1 7)) then some (0x23, 0)
  else (eachOk 0x23 (List.range n) entry).orElse fun _ => eachOk 0x23 (List.range n) parent

/-- OCTET_OWNERSHIP (R52, R53). -/
def ownerFail (im : Image) : Option Fail :=
  let n := im.saggars.length
  let own (o : Nat) : Nat := im.octOwner.getD o 255
  let dps (d : Nat) : Nat := im.dpsOwner.getD d 255
  (eachOk 0x24 (List.range 128) fun o => (own o = 255 || own o < n) && own o = own (o / 8 * 8)).orElse fun _ =>
    eachOk 0x24 ((List.range 32).map (128 + ·)) fun i =>
      let d := i - 128
      dps d = 255 || (dps d < n && (List.range 32).any fun j => own (32 * (d / 8) + j) = dps d)

/-- SITE_MAP (R32, R33, R54, R55), in the order of R55. -/
def siteFail (im : Image) (b : List Nat) : Option Fail :=
  let own (o : Nat) : Nat := im.octOwner.getD o 255
  let lock (q : Nat) : Nat := im.lockstep.getD q 0
  let l := records 40 (le16 b 0) (b.drop 8)
  let owners (q mask : Nat) : List Nat := ((List.range 32).filter fun j => bits mask (8 * j) 8 ≠ 0).map fun j => own (32 * q + j)
  let one (v : List Nat) : Bool := v.all fun x => x = v.headD 255 && x ≠ 255
  let site (i : Nat) : Bool :=
    let r := l.getD i []
    let d := SiteDecl.ofBytes r
    let tiles := (List.range 4).filter fun t => bits d.mask (64 * t) 64 ≠ 0
    (i = 0 || byteAt (l.getD (i - 1) []) 0 < d.site) && d.quad ≤ 3 && zeros (cut r 2 6) && d.mask ≠ 0 && one (owners d.quad d.mask) &&
      (tiles.length < 2 || tiles.all fun t => bitAt (lock d.quad) t) &&
      (im.sites.take i).all fun x => x.quad ≠ d.quad || Nat.land x.mask d.mask = 0
  if le16 b 0 > 256 || le16 b 2 ≠ 0 then some (0x25, 0xFFFF)
  else
    let group (q : Nat) : Bool :=
      let m := lock q
      let ts := (List.range 4).filter fun t => bitAt m t
      m = 0 || (m < 16 && 2 ≤ ts.length && one (ts.map fun t => own (32 * q + 8 * t)))
    (eachOk 0x26 (List.range 4) group).orElse fun _ => eachOk 0x25 (List.range (le16 b 0)) site

/-- RESOURCE_ROUTES (R56, R57). [log DEDUCED 133] -/
def resourceFail (im : Image) (b : List Nat) : Option Fail :=
  let l := records 4 164 b
  let gang (d : Nat) : Nat := im.gang.getD d 255
  let record (i : Nat) : Bool :=
    let r := l.getD i []
    let x := byteAt r 0
    (if i < 128 then x ≤ 7 || x = 255 else if i < 160 then x ≤ 31 || x = 255 else x ≤ 3) && byteAt r 1 ≤ 1 && byteAt r 2 = 0 && byteAt r 3 = 0
  let member (d : Nat) : Bool :=
    let g := gang d
    g = 255 || (gang g = g && g ≤ d && g / 8 = d / 8 && im.dpsOwner.getD g 255 = im.dpsOwner.getD d 255 && (g ≠ d || 2 ≤ ((List.range 32).filter fun e => gang e = d).length))
  (eachOk 0x27 (List.range 164) record).orElse fun _ => eachOk 0x28 (List.range 32) member

/-- PATH_DECL and LANE_LIMITS (R58 to R60). -/
def lanesFail (path limits : List Nat) : Option Fail :=
  let p := records 8 1024 path
  let pathOk (r : List Nat) : Bool := let cap := byteAt r 3; byteAt r 2 ≤ 1 && (if byteAt r 2 = 1 then cap ≤ 100 else cap = 0) && zeros (r.drop 4)
  let limOk (e : List Nat × List Nat) : Bool :=
    let lo := toSigned 16 (le16 e.2 0)
    let hi := toSigned 16 (le16 e.2 2)
    decide (-1500 ≤ lo ∧ lo ≤ 0 ∧ 0 ≤ hi ∧ hi ≤ 6000) && byteAt e.2 4 ≤ 2 && byteAt e.2 5 ≤ 1 && zeros (e.2.drop 6) && (byteAt e.2 4 ≠ 1 || byteAt e.1 2 = 0)
  match p.findIdx? fun r => !pathOk r with
  | some l => some (0x29, l)
  | none => ((p.zip (records 8 1024 limits)).findIdx? fun e => !limOk e).map fun l => (0x2A, l)

/-- EVENT_ROUTES (R61 to R63), against the ownership of the image being loaded. -/
def eventFail (s : State) (b : List Nat) : Option Fail :=
  let rs := records 4 1152 (b.drop 0x108)
  if byteAt b 0 > 7 || !zeros (cut b 1 7) || (records 4 64 (b.drop 8)).any fun r => le16 r 0 = 0 || le16 r 2 ≠ 0 then some (0x2B, 0xFFFF)
  else
    let ok (e : List Nat × Nat) : Bool := byteAt e.1 0 ≤ 1 && byteAt e.1 3 ≤ 63 && s.routeOk e.2 (byteAt e.1 2)
    (rs.zipIdx.find? fun e => !ok e).map fun e => (0x2B, e.2)

/-- QUOTAS_INIT (R64, R65). [log DEDUCED 130] -/
def quotaFail (im : Image) (b : List Nat) : Option Fail :=
  let rs := records 16 16 b
  let q (k : Nat) : QuotaDecl := im.quotas.getD k ⟨0, 0, 0, 0⟩
  let sum (k : Nat) (f : QuotaDecl → Nat) : Nat := ((List.range (k + 1)).map fun j => f (q j)).foldl (· + ·) 0
  let tiles (k : Nat) : Nat := ((List.range 16).filter fun t => im.octOwner.getD (8 * t) 255 = k).length
  eachOk 0x2C (List.range im.saggars.length) fun k =>
    6 ≤ (q k).depth && (q k).depth ≤ 16 && zeros ((rs.getD k []).drop 7) && tiles k ≤ (q k).blocks && sum k (·.blocks) ≤ 768 && sum k (·.groups) ≤ 64 && sum k (·.share) ≤ 256

/-- The housekeeping code as the loader checks it (R68, R255, R259). -/
def hkProgram (im : Image) : Program :=
  { hk := true, entry := im.hkEntry, startSeg := 0, limit := im.hkCount, tables := 8096, nanoCount := im.hkNano.length, ringCount := 0, ringBase := 384, slotSize := 1,
    micro := fun a => if a < 8096 then im.hkMicro.getD a 0 else im.hkTables.getD (a - 8096) 0, nano := fun n => im.hkNano.getD n 0, seg := fun _ => 0,
    microBad := fun _ => false, nanoBad := fun _ => false }

/-- HK_MICROCODE (R67, R68). -/
def hkFail (im : Image) (b : List Nat) : Option Fail :=
  let n := le16 b 0
  let tables := byteAt b 6 % 2 = 1
  let hdr := firstBad [((1 ≤ n && n ≤ 8192 && if tables then 97 ≤ n else n ≤ 8096), (0x2D, 2)), (le16 b 2 ≤ 1024, (0x2D, 3)), (le16 b 4 < hkExecutable b, (0x2D, 2)),
    (byteAt b 6 ≤ 1, (0x2D, 1)), (byteAt b 7 = 0, (0x2D, 1))]
  match hdr with
  | some f => some f
  | none => let r := (hkProgram im).check.reason; if r = 0 then none else some (0x2D, r)

/-- NVM_POLICY (R69). -/
def nvmFail (b : List Nat) : Option Fail :=
  let lo := toSigned 8 (byteAt b 2)
  let hi := toSigned 8 (byteAt b 3)
  firstOf [[(byteAt b 0 ≤ 2, (0x2E, 0)), (byteAt b 1 ≤ 1, (0x2E, 1)), (decide (0 ≤ lo ∧ lo ≤ 90), (0x2E, 2)), (decide (lo ≤ hi ∧ hi ≤ 90), (0x2E, 3))],
    (List.range 4).map fun i => (byteAt b (4 + i) = 0, (0x2E, 4 + i))]

/-- LEGACY_SELECT (R69, R70). -/
def legacyFail (im : Image) (quotas : Bool) (b : List Nat) : Option Fail :=
  firstOf [[(byteAt b 0 ≤ 1, (0x2F, 0x100)), (byteAt b 1 ≤ 15, (0x2F, 0x101))], ((List.range 6).map fun i => (byteAt b (2 + i) = 0, (0x2F, 0x102 + i))),
    [(byteAt b 0 = 0 || (im.saggars.length = 1 && !quotas && byteAt b 1 ≠ 0), (0x2F, 0))]]

/-- DEBUG (R69, R74, R75). -/
def debugFail (im : Image) (closed : Bool) (b : List Nat) : Option Fail :=
  firstOf [[(byteAt b 0 ≤ 1, (0x31, 0))], ((List.range 7).map fun i => (byteAt b (1 + i) = 0, (0x31, 1 + i))), [(byteAt b 0 = 0 || !closed || im.serialBind ≠ 0, (0x30, 0))]]

/-- Check 6 of R79: the contents, in ascending type. -/
def contentFail (s : State) (b : List Nat) : Option Fail :=
  let im := imageOf b
  let sec (t : Nat) : List Nat := (sectionOf b t).getD []
  let opt (t : Nat) (f : List Nat → Option Fail) : Option Fail := (sectionOf b t).bind f
  [0x1, 0x2, 0x3, 0x4, 0x5, 0x6, 0x8, 0x9, 0xA, 0xB, 0xC, 0xD].findSome? fun t => match t with
    | 0x1 => clockFail (sec 1) s.m.straps
    | 0x2 => saggarFail (sec 2) s.m.straps
    | 0x3 => ownerFail im
    | 0x4 => siteFail im (sec 4)
    | 0x5 => opt 5 (resourceFail im)
    | 0x6 => lanesFail (sec 6) (sec 7)
    | 0x8 => opt 8 (eventFail { s with image := some im })
    | 0x9 => opt 9 (quotaFail im)
    | 0xA => hkFail im (sec 10)
    | 0xB => opt 11 nvmFail
    | 0xC => opt 12 (legacyFail im (sectionOf b 9).isSome)
    | _ => opt 13 (debugFail im (!s.openDevice))

/-- The checks of R79 in order: the first failure, none where the image is accepted. `pushed` is DEV_MOULD_LEN of a push. [log DEDUCED 25, 132] -/
def State.imageFail (s : State) (pushed : Option Nat) (b : List Nat) : Option Fail :=
  match headerFail (b.take 64) pushed s.serial with
  | some f => some f
  | none =>
    let n := le16 b 6
    let len := le32 b 8
    let b := b.take len
    let dir := imageDir b
    if crc32 (cut b 0x40 (16 * n)) ≠ le32 b 0x28 then some (0x09, 0xFFFF)
    else match dirFail b len n 0 none (0x40 + 16 * n) dir with
      | some f => some f
      | none =>
        if decide (le32 b 0x0C % 2 = 1) ≠ dir.any fun e => e.type = 0xFF then some (0x06, 0x0C)
        else match dir.findSome? (sectionFail b) with
          | some f => some f
          | none =>
            match [0x1, 0x2, 0x3, 0x4, 0x6, 0x7, 0xA].find? fun t => !dir.any fun e => e.type = t with
            | some t => some (0x0D, t)
            | none => match keyFail s.fuses b with
              | some f => some f
              | none => contentFail s b

/-- Nonzero words laid from a key on. -/
def layWords (k : Nat) (l : List Nat) : SMap Nat := (l.zipIdx.map fun (e : Nat × Nat) => (k + e.2, e.1)).filter fun e => e.2 ≠ 0

/-- The capture blocks and context groups that a load allots (R471). -/
def State.allotAll (s : State) (im : Image) : State :=
  let s := s.each (List.range im.saggars.length) fun s k =>
    let q := im.quotas.getD k ⟨0, 0, 0, 0⟩
    let tiles := (List.range 16).filter fun t => im.octOwner.getD (8 * t) 255 = k
    let blocks := ((tiles.flatMap fun t => (List.range 48).map (48 * t + ·)).take q.blocks)
    let s := s.each blocks fun s b => (s.wr R.SAG_BLK_OWNER.SAGGAR b k).wr R.SAG_BLK_OWNER.ALLOTTED b 1
    let free := (List.range 64).filter fun g => !s.fl R.SAG_GRP_OWNER.ALLOTTED g
    let groups := free.take q.groups
    let s := s.each groups fun s g => (s.wr R.SAG_GRP_OWNER.SAGGAR g k).wr R.SAG_GRP_OWNER.ALLOTTED g 1
    let s := (s.wr R.SAG_QUOTA_A.CAPTURE_BLOCKS k q.blocks).wr R.SAG_QUOTA_A.CONTEXT_GROUPS k q.groups
    let s := (s.wr R.SAG_QUOTA_B.STREAM_SHARE k q.share).wr R.SAG_QUOTA_B.QUEUE_DEPTH_LOG2 k q.depth
    let s := (s.wr R.SAG_USE.BLOCKS k blocks.length).wr R.SAG_USE.GROUPS k groups.length
    s.wr R.SAG_TILES.TILES k (tiles.foldl (fun a t => a + 2 ^ t) 0)
  s

/-- The hub takes the configuration of the image (R63, R414). [log DEDUCED 31] -/
def State.hubLoad (s : State) (im : Image) : State :=
  let srcs := (s.hub.srcs.filter fun e => e.2.live).map fun (e : Nat × SrcSt) => (e.1, { SrcSt.idle with live := true })
  let s := { s with hub := { s.hub with srcs := srcs } }.wr R.DEV_PRIO.SPLIT 0 im.evSplit
  let s := s.each (List.range 64) fun s g => s.wr R.EVH_HOLDOFF.PERIOD g (im.holdPeriods.getD g 1)
  im.routes.zipIdx.foldl (fun s (e : RouteDecl × Nat) =>
    (((s.wr R.EVH_SRC_CFG.ENABLE e.2 e.1.enable).wr R.EVH_SRC_CFG.PRIORITY e.2 e.1.priority).wr R.EVH_SRC_CFG.TARGET e.2 e.1.target).wr R.EVH_SRC_CFG.HOLDOFF_GROUP e.2 e.1.group) s

/-- The gangs and the matrix homes of the image (R56, R57, R318, R349). -/
def State.routesLoad (s : State) (im : Image) : State :=
  let s := s.each (List.range 128) fun s o => let h := im.smuHome.getD o 255; if h < 8 then s.wr R.OCT_MATRIX.LANE_SEL o (2 ^ h) else s
  s.each (List.range 32) fun s d =>
    let g := im.gang.getD d 255
    if g = 255 then s else
    let mask := ((List.range 8).filter fun c => im.gang.getD (d / 8 * 8 + c) 255 = g).foldl (fun a c => a + 2 ^ c) 0
    (s.wr R.DPS_GANG.LEADER d g).wr R.DPS_GANG.MEMBERS d mask

/-- The housekeeping stores take the code of the image, and its sequencer runs it from ENTRY (R67, R68, R547). -/
def State.hkLoad (s : State) (im : Image) : State :=
  let x := { StoreSt.idle with micro := layWords 0 im.hkMicro ++ layWords 8096 im.hkTables, nano := layWords 0 im.hkNano }
  (((s.setStore 16 x).wr R.HK_STATUS.HK_FIXED 0 0).wr R.SEQ_ENTRY.ENTRY 16 im.hkEntry).hkRestart

/-- The image is applied in one step and the device enters SERVICE (R79, R84, R106). [log DESIGN CHOICE 3] -/
def State.applyImage (s : State) (im : Image) : State :=
  let s := { s with image := some im, red := { s.red with ctxs := [], fifo := [], pending := [], buffer := [], ecc := [] } }
  let s := (s.wr R.DEV_MOULD_INFO.IMAGE_VER 0 im.version).wr R.DEV_MOULD_PLANT.COOLANT_MAX 0 im.coolantMax
  let s := ((s.wr R.DEV_MOULD_PLANT.POWER_BUDGET 0 im.powerBudget).wr R.DEV_MOULD_PLANT.COLD_PLATE 0 im.coldPlate).wr R.DEV_MOULD_PLANT.DEBUG_OPEN 0 im.debugOpen
  let s := (s.wb R.DEV_MOULD_PLANT.LEGACY 0 im.legacy).wr R.DEV_MOULD_PLANT.KEY_SLOT 0 im.keySlot
  let s := (s.wr R.DEV_CLK.CCLK_SPREAD_EN 0 im.spread).wr R.DEV_CLK.REF_LOSS_POLICY 0 im.refPolicy
  let s := s.wr R.DEV_LEGACY.ENABLED 0 (if im.legacy then im.personalities else 0)
  let s := (((s.hubLoad im).allotAll im).routesLoad im).hkLoad im
  let s := s.each (List.range 2) fun s p => s.wr R.TIME_PORT_STATUS.MODE p (im.portMode.getD p 0)
  let host : Bool := match s.m.load with | some (.flash _) => false | _ => true
  let s := (s.when (!host) (·.wr R.FLS_LOCK.HOLDER 0 0)).mouldStatus 2 0 0 im.signed
  let s := { s with m := { s.m with load := none, startup := true, svcTick := s.clock.tick } }.raise 22
  (((s.setMode .service).orderShard).selectors).startStep 1

/-- The bytes that a flash read of a mould copy returns, or the failure that ends it (R77, R80, R496, R498). -/
def State.flashCopy (s : State) (copy : Nat) : Except Fail (List Nat) :=
  let base := copy * 0x40000
  let size := s.flashSize
  if size = 0 then .error (0x42, 0) else
  let h := s.flashRead base 64
  if h.take 4 = [0xFF, 0xFF, 0xFF, 0xFF] then .error (0x01, 0)
  else
    let n := le32 h 8
    if base + n > (if s.strap 4 then size else min size 0x1000000) then .error (0x42, 0)
    else .ok (if 64 ≤ n && n ≤ 262144 then s.flashRead base n else h)

/-- The image read has ended: the image is checked, and applied or refused (R79, R81). `ok` is false where the read failed; `bytes` are those of a push.
The check of SERIAL_BIND reads the identity record by R560; a load that fails leaves the choice of the records' copies to the REPAIR_MAP step. -/
def State.imageRead (s : State) (ok : Bool) (bytes : List Nat) : State :=
  match s.m.load with
  | none => s
  | some src =>
    let r : Except Fail (List Nat) := match src with
      | .host => if ok then .ok bytes else .error (0x41, 0)
      | .flash c => if ok then s.flashCopy c else .error (0x42, 0)
    let pushed := match src with | .host => some (s.rd R.DEV_MOULD_LEN.LEN 0) | .flash _ => none
    match r with
    | .error f => s.loadFail f.1 f.2
    | .ok b => match s.nvmPowerUp.imageFail pushed b with
      | some f => s.loadFail f.1 f.2
      | none => s.applyImage (imageOf (b.take (le32 b 8)))

/-- IMAGE_READ_DONE (R79). [log DEDUCED 24, 28] -/
def execImageReadDone (ok : Bool) (bytes : List Byte) (s : State) : Out' := done s (·.imageRead ok (bytes.map (·.toNat)))

/-- The write of DEV_MOULD_CTL (R78, R81, R98): a START that is not accepted discards the whole write. [log DEDUCED 27] -/
def mouldCtlHook : Hook := fun _ _ w be s =>
  let start := R.DEV_MOULD_CTL.START.acts w be
  let ok := s.m.mode = .safe && s.m.target.isNone && s.rd R.DEV_MOULD_STATUS.STATE 0 ≠ 1 && s.fl R.DEV_CLK.PLL_LOCKED 0
  if start && !ok then (s, true)
  else
    let s := s.when (R.DEV_MOULD_CTL.ABORT.acts w be) (·.loadFail 0x40 0)
    let s := s.when start fun s =>
      let s := { s.setMode .load with m := { (s.setMode .load).m with load := some .host, bootWaits := false } }.wr R.DEV_MOULD_STATUS.STATE 0 1
      s.send (.hostRead (s.rd R.DEV_MOULD_ADDR_LO.ADDR_LO 0 + 2 ^ 32 * s.rd R.DEV_MOULD_ADDR_HI.ADDR_HI 0) (s.rd R.DEV_MOULD_LEN.LEN 0))
    (s, false)

/-- MOULD_START: a write of DEV_MOULD_CTL with START = 1 (R78). -/
def execMouldStart (rq : Req) (s : State) : Out' := writeRow rq .DEV_MOULD_CTL 0 1 mouldCtlHook s

/-- MOULD_ABORT: a write of DEV_MOULD_CTL with ABORT = 1 (R81). -/
def execMouldAbort (rq : Req) (s : State) : Out' := writeRow rq .DEV_MOULD_CTL 0 2 mouldCtlHook s

/-- The hash that DEV_FUSE_HASH holds, most significant byte first (R76). -/
def State.fuseHash (s : State) : Nat := (List.range 12).foldl (fun a i => a * 2 ^ 32 + s.rd R.DEV_FUSE_HASH.HASH i) 0

/-- The write of DEV_FUSE_CMD (R76): a command outside SERVICE or the NVM window is refused; a write while one is busy is discarded. [log DEDUCED 26] -/
def fuseHook : Hook := fun _ _ w be s =>
  if s.rd R.DEV_FUSE_CMD.STATUS 0 = 1 then (s, true) else
  let s := s.wr R.DEV_FUSE_CMD.SLOT 0 (s.newv R.DEV_FUSE_CMD.SLOT 0 w be)
  let cmd := if R.DEV_FUSE_CMD.CMD.enabled be then R.DEV_FUSE_CMD.CMD.part w else 0
  if cmd = 0 || cmd = 3 then (s, false)
  else
    let slot := s.rd R.DEV_FUSE_CMD.SLOT 0
    let k := s.fuses.getD slot ⟨0, false⟩
    let others : Bool := s.fuses.zipIdx.any fun e => e.2 ≠ slot && e.1.hash ≠ 0 && !e.1.revoked
    let ok := s.m.mode = .service && s.fl R.THS_STATUS.NVM_OK 0 && (if cmd = 1 then k.hash = 0 else others || k.hash = 0 || k.revoked)
    if ok then ({ s with m := { s.m with fuseCmd := some (cmd, slot, s.fuseHash) } }.wr R.DEV_FUSE_CMD.STATUS 0 1, false)
    else ((s.wr R.DEV_FUSE_CMD.STATUS 0 3).raise 18, false)

/-- FUSE_PROGRAM: a write of DEV_FUSE_CMD with CMD 0b01. [log DEDUCED 26] -/
def execFuseProgram (rq : Req) (slot : Fin 4) (s : State) : Out' := writeRow rq .DEV_FUSE_CMD 0 (slot.val + 4) fuseHook s

/-- FUSE_REVOKE: a write of DEV_FUSE_CMD with CMD 0b10. -/
def execFuseRevoke (rq : Req) (slot : Fin 4) (s : State) : Out' := writeRow rq .DEV_FUSE_CMD 0 (slot.val + 8) fuseHook s

/-- A fuse slot programmed with a hash, whose bits only set, or revoked (R73, R76). -/
def KeySlot.burn (k : KeySlot) (cmd hash : Nat) : KeySlot := if cmd = 1 then { k with hash := Nat.lor k.hash hash } else { k with revoked := true }

/-- FUSE_CMD_DONE: the fuse command in progress completes (R76). -/
def execFuseCmdDone (s : State) : Out' :=
  let s := { s with out := [] }
  match s.m.fuseCmd with
  | none => .next s
  | some (cmd, slot, hash) =>
    .next ((({ s with m := { s.m with fuseCmd := none }, fuses := modNth (fun k => k.burn cmd hash) slot s.fuses } : State).wr R.DEV_FUSE_CMD.STATUS 0 2).raise 18)

end Sys2Proof.Machine
end

