-- ==== Sys2Proof/Machine/Host.lean ====
section
/-! DEFINITION. The host interface (R454 to R483): links and functions, quotas and allotment, descriptor rings and their DMA, and the errors
that requests and links report. -/

namespace Sys2Proof.Machine

/-- The widest a link can be: its half of a split port, or all eight lanes (R454). -/
def State.linkLanes (s : State) (k : Nat) : Nat := if bitAt s.m.straps (1 + k / 2) then 4 else 8

/-- PCIE_LINK_TRAINED: a link has trained; `speed` is the encoding of HOST_LINK.SPEED, no faster than its strap allows (R454). -/
def execPcieLinkTrained (link : Fin 4) (speed : Nat) (width : Nat) (s : State) : Out' :=
  done s fun s =>
    let k := link.val
    if !s.alive || !s.linkExists k then s else
    let x := { s.link k with up := true, speed := min speed (if bitAt s.m.straps 5 then 4 else 5), width := min width (s.linkLanes k) }
    { s with host := { s.host with links := smSet .down s.host.links k x } }

/-- HOST_LINK.DEGRADED: the link is up below 16 GT/s or below its strapped width (R454). -/
def State.linkDegraded (s : State) (k : Nat) : Bool := let x := s.link k; x.up && (x.speed < 3 || x.width < s.linkLanes k)

/-- TotalVFs of a link: the highest virtual function that a saggar is bound to there (R457). -/
def State.totalVfs (s : State) (k : Nat) : Nat :=
  match s.image with
  | some im => if s.imaged then (im.saggars.filter fun e => 2 * e.port + e.half = k).foldl (fun a e => max a e.fn) 0 else 0
  | none => 0

/-- VF_ENABLE: the host writes VF Enable and NumVFs of a link's physical function (R457). Virtual functions that go return to their reset configuration. [log DEDUCED 70] -/
def execVfEnable (link : Fin 4) (on : Bool) (numVfs : Nat) (s : State) : Out' :=
  done s fun s =>
    let k := link.val
    if !s.alive || !s.linkExists k then s else
    let s := { s with host := { s.host with links := smSet .down s.host.links k { s.link k with vfEnable := on, numVfs := min numVfs (s.totalVfs k) } } }
    s.when (!on) fun s => s.each ((List.range 15).map fun v => 16 * k + v + 1) State.fnClear

/-- The identity fields of a function's configuration header (R456). -/
structure ConfigHeader where
  vendor : Nat
  device : Nat
  classCode : Nat
  subVendor : Nat
  subsystem : Nat
  deriving DecidableEq, Repr

/-- What the configuration header of a function holds (R15, R456, R569): a physical and a virtual function differ in their Device ID, the physical
function of saggar 0 presents the forerunner's in LEGACY, and the Subsystem ID names the bound saggar. -/
def State.configHeader (s : State) (f : Fin 64) : ConfigHeader :=
  { vendor := 0x1F9B
    device := if f.val % 16 ≠ 0 then 0xA025 else if s.m.mode = .legacy && s.sagOf (.fn f) = some 0 then 0x5256 else 0xA024
    classCode := 0x120000
    subVendor := 0x1F9B
    subsystem := match s.sagOf (.fn f) with | some k => 0x0100 + k | none => 0 }

/-- A HOST_ERR bit of a function is set. -/
def State.hostErr (s : State) (fn : Nat) (f : Fld) : State := s.wr f fn 1

/-- BAD_SIZE_REQUEST (R460, R467, R482): a read ends with Completer Abort, a write is discarded and counted. -/
def execBadSizeRequest (f : Fin 64) (write : Bool) (off : Nat) (s : State) : Out' :=
  done s fun s =>
    if !s.reachable (.fn f) then s else
    let s := s.hostErr f.val R.HOST_ERR.BAD_SIZE
    if write then s.refuse (.fn f) off false else (s.aer f.val 2).send .abort

/-- UNSUPPORTED_REQUEST (R482). -/
def execUnsupportedRequest (f : Fin 64) (s : State) : Out' :=
  done s fun s => if !s.reachable (.fn f) then s else (s.hostErr f.val R.HOST_ERR.UR).aer f.val 3

/-- POISONED_TLP_RECEIVED: a poisoned write is discarded, counted and reported (R467, R482). [log DEDUCED 109] -/
def execPoisonedTlpReceived (f : Fin 64) (bar2 : Bool) (off : Nat) (s : State) : Out' :=
  done s fun s => if !s.reachable (.fn f) then s else ((s.hostErr f.val R.HOST_ERR.POISON_RX).aer f.val 1).refuse (.fn f) off bar2

/-- LINK_PROTOCOL_FAULT: 0 Unexpected Completion, 1 Malformed TLP, 2 Receiver Overflow, 3 ECRC, reported through AER (R482). -/
def execLinkProtocolFault (f : Fin 64) (kind : Fin 4) (s : State) : Out' :=
  done s fun s => if !s.reachable (.fn f) then s else s.aer f.val (5 + kind.val)

/-- The tiles that a saggar owns. -/
def State.tilesOf (s : State) (k : Nat) : List Nat := (List.range 16).filter fun t => s.tileOwner t = some k

/-- The sum of a quota over the saggars of the image, with `v` for saggar k (R65). -/
def State.quotaSum (s : State) (f : Fld) (k v : Nat) : Nat :=
  ((List.range 16).filter fun j => (s.sagEntry j).isSome).foldl (fun a j => a + if j = k then v else s.rd f j) 0

/-- The write of SAG_QUOTA_A and of SAG_QUOTA_B (R470). -/
def quotaHook (r : Reg) : Hook := fun _ k w be s =>
  let blocks := s.newv R.SAG_QUOTA_A.CAPTURE_BLOCKS k w be
  let groups := s.newv R.SAG_QUOTA_A.CONTEXT_GROUPS k w be
  let share := s.newv R.SAG_QUOTA_B.STREAM_SHARE k w be
  let depth := s.newv R.SAG_QUOTA_B.QUEUE_DEPTH_LOG2 k w be
  let ok := (s.sagEntry k).isSome &&
    if r = .SAG_QUOTA_A then s.quotaSum R.SAG_QUOTA_A.CAPTURE_BLOCKS k blocks ≤ 768 && s.quotaSum R.SAG_QUOTA_A.CONTEXT_GROUPS k groups ≤ 64 && (s.tilesOf k).length ≤ blocks
    else s.quotaSum R.SAG_QUOTA_B.STREAM_SHARE k share ≤ 256 && 6 ≤ depth && depth ≤ 16
  if ok then let (s, x) := writeWord r k w be s; (s.overSync k, x)
  else (s.wr R.SAG_OVER.QUOTA_REFUSED k 1, true)

/-- QUOTA_WRITE: a write of SAG_QUOTA_A, or with `high` of SAG_QUOTA_B, of a saggar (R470). -/
def execQuotaWrite (rq : Req) (k : Fin 16) (high : Bool) (w : Word) (s : State) : Out' :=
  if high then writeRow rq .SAG_QUOTA_B k.val w.toNat (quotaHook .SAG_QUOTA_B) s else writeRow rq .SAG_QUOTA_A k.val w.toNat (quotaHook .SAG_QUOTA_A) s

/-- A ring with nothing in progress. -/
def RingSt.idle : RingSt := ⟨none, 0, 0, 0, 0, false⟩

/-- Descriptor ring 4s + r. -/
def State.ring (s : State) (q : Nat) : RingSt := smGet .idle s.host.rings q

/-- A descriptor ring replaced. -/
def State.setRing (s : State) (q : Nat) (x : RingSt) : State := { s with host := { s.host with rings := smSet .idle s.host.rings q x } }

/-- A capture block is in use (R473). -/
def State.blockInUse (s : State) (b : Nat) : Bool :=
  let inArea (base blocks : Nat) : Bool := base ≤ b && b < base + blocks
  ((List.range 16).any fun t => s.fl R.CMP_LOG_CTL.ARMED t && inArea (s.rd R.CMP_LOG_AREA.BASE t) (s.rd R.CMP_LOG_AREA.BLOCKS t)) ||
  ((List.range 16).any fun t => s.rd R.ACQ_CTL.STATE t ≠ 0 && inArea (s.rd R.ACQ_AREA.BASE t) (s.rd R.ACQ_AREA.BLOCKS t)) ||
  ((List.range 64).any fun g => inArea (s.rd R.RED_GRP_AREA.BASE g) (s.rd R.RED_GRP_AREA.BLOCKS g) && (s.grpBusy g || s.rd R.RED_GRP_WPTR.WPTR g ≠ s.rd R.RED_GRP_RPTR.RPTR g)) ||
  (s.host.rings.any fun e => match e.2.desc with
    | some d => d.op = 3 && e.2.code % 7 = 0 && d.devAddr / 65536 ≤ b && b ≤ (d.devAddr + d.count - 1) / 65536
    | none => false)

/-- A group returns to the pool: its contexts become FREE and its registers return to reset (R472). -/
def State.groupFree (s : State) (g : Nat) : State :=
  let k := s.rd R.SAG_GRP_OWNER.SAGGAR g
  let s := ((s.grpReset g).wr R.SAG_GRP_OWNER.SAGGAR g 0).wr R.SAG_GRP_OWNER.ALLOTTED g 0
  ((s.wr R.SAG_GRP_OWNER.DRAINING g 0).wr R.SAG_USE.GROUPS k (s.rd R.SAG_USE.GROUPS k - 1)).overSync k

/-- The cause of a command of SAG_ALLOT, 0 where it is performed: the lowest that applies (R472). `who` is the writer's saggar, `op` 1 allot and 2 release, `kind` 1 a group. [log DEDUCED 61, 62] -/
def State.allotCause (s : State) (who : Option Nat) (op index kind k : Nat) : Nat :=
  let held : Bool := if kind = 1 then s.fl R.SAG_GRP_OWNER.ALLOTTED index else s.fl R.SAG_BLK_OWNER.ALLOTTED index
  let clearing : Bool := kind = 0 && s.fl R.SAG_BLK_OWNER.CLEARING index
  let owner := if kind = 1 then s.grpOwner index else s.blkOwner index
  let full : Bool := if kind = 1 then s.rd R.SAG_USE.GROUPS k + 1 > s.rd R.SAG_QUOTA_A.CONTEXT_GROUPS k else s.rd R.SAG_USE.BLOCKS k + 1 > s.rd R.SAG_QUOTA_A.CAPTURE_BLOCKS k
  if index > (if kind = 1 then 63 else 767) || (s.sagEntry k).isNone then 1
  else if op = 1 then
    if held && !clearing then 2 else if full then 3 else if who ≠ some 0 then 5 else if clearing then 6 else 0
  else
    if kind = 0 && s.blockInUse index then 4 else if owner ≠ some k || (who ≠ some 0 && who ≠ some k) then 5 else 0

/-- A command of SAG_ALLOT performed: an allot, a release, or the drain of a group in use (R472, R475). -/
def State.allotDo (s : State) (op index kind k : Nat) : State :=
  if op = 1 then
    let s := if kind = 1 then ((s.wr R.SAG_GRP_OWNER.SAGGAR index k).wr R.SAG_GRP_OWNER.ALLOTTED index 1).wr R.SAG_USE.GROUPS k (s.rd R.SAG_USE.GROUPS k + 1)
      else ((s.wr R.SAG_BLK_OWNER.SAGGAR index k).wr R.SAG_BLK_OWNER.ALLOTTED index 1).wr R.SAG_USE.BLOCKS k (s.rd R.SAG_USE.BLOCKS k + 1)
    (s.overSync k).wr R.SAG_ALLOT.STATUS 0 2
  else if kind = 0 then
    (((s.wr R.SAG_BLK_OWNER.CLEARING index 1).wr R.SAG_USE.BLOCKS k (s.rd R.SAG_USE.BLOCKS k - 1)).overSync k).wr R.SAG_ALLOT.STATUS 0 2
  else if s.grpBusy index then (s.wr R.SAG_GRP_OWNER.DRAINING index 1).wr R.SAG_ALLOT.STATUS 0 1
  else (s.groupFree index).wr R.SAG_ALLOT.STATUS 0 2

/-- The write of SAG_ALLOT performs one command (R472). [log DEDUCED 61] -/
def allotHook : Hook := fun rq _ w be s =>
  let (s, _) := writeFields [R.SAG_ALLOT.INDEX, R.SAG_ALLOT.KIND, R.SAG_ALLOT.SAGGAR, R.SAG_ALLOT.OP] 0 w be s
  let op := if R.SAG_ALLOT.OP.enabled be then R.SAG_ALLOT.OP.part w else 0
  if op ≠ 1 && op ≠ 2 then (s, false) else
  let (index, kind, k) := (s.rd R.SAG_ALLOT.INDEX 0, s.rd R.SAG_ALLOT.KIND 0, s.rd R.SAG_ALLOT.SAGGAR 0)
  let cause := s.allotCause (s.sagOf rq) op index kind k
  let s := s.wr R.SAG_ALLOT.CAUSE 0 cause
  (if cause = 0 then s.allotDo op index kind k else s.wr R.SAG_ALLOT.STATUS 0 3, false)

/-- ALLOT: a write of SAG_ALLOT with OP allot (R472). -/
def execAllot (rq : Req) (w : Word) (s : State) : Out' := writeRow rq .SAG_ALLOT 0 (putBits w.toNat 16 2 1) allotHook s

/-- RELEASE: a write of SAG_ALLOT with OP release (R472, R475). -/
def execRelease (rq : Req) (w : Word) (s : State) : Out' := writeRow rq .SAG_ALLOT 0 (putBits w.toNat 16 2 2) allotHook s

/-- BLOCK_CLEAR_DONE: a released block has been cleared to zero, with valid check bits, and returns to the pool (R472). [log DEDUCED 62] -/
def execBlockClearDone (b : Fin 768) (s : State) : Out' :=
  done s fun s =>
    if !s.fl R.SAG_BLK_OWNER.CLEARING b.val then s else
    let s := { s with cap := smKeep (fun w => w / 8192 ≠ b.val) s.cap, capEcc := smKeep (fun w => w / 8192 ≠ b.val) s.capEcc }
    ((s.wr R.SAG_BLK_OWNER.CLEARING b.val 0).wr R.SAG_BLK_OWNER.ALLOTTED b.val 0).wr R.SAG_BLK_OWNER.SAGGAR b.val 0

/-- GROUP_RELEASE: a draining group holds no OPEN and no PENDING context and is released (R475). -/
def execGroupRelease (g : Fin 64) (s : State) : Out' :=
  done s fun s => if s.fl R.SAG_GRP_OWNER.DRAINING g.val && !s.grpBusy g.val then s.groupFree g.val else s

/-- The write of HOST_DMA_CFG (R478), by the rule that R425 gives EVH_Q_CFG. [log DEDUCED 68, 71] -/
def dmaCfgHook : Hook := fun _ q w be s =>
  let en := s.newv R.HOST_DMA_CFG.EN q w be
  let size := s.newv R.HOST_DMA_CFG.SIZE_LOG2 q w be
  if s.fl R.HOST_DMA_CFG.EN q then
    if en = 0 then ((s.wr R.HOST_DMA_CFG.EN q 0).wr R.HOST_DMA_CFG.SIZE_LOG2 q size, false)
    else (s, size ≠ s.rd R.HOST_DMA_CFG.SIZE_LOG2 q)
  else if en = 1 then
    if size < 4 || size > 12 then (s, true)
    else
      let s := ((s.wr R.HOST_DMA_CFG.EN q 1).wr R.HOST_DMA_CFG.SIZE_LOG2 q size).setRing q { s.ring q with stale := (s.ring q).desc.isSome }
      ((s.wr R.HOST_DMA_HEAD.HEAD q 0).wr R.HOST_DMA_TAIL.TAIL q 0, false)
  else (s.wr R.HOST_DMA_CFG.SIZE_LOG2 q size, false)

/-- The write of HOST_DMA_BASE: accepted only while EN = 0 (R478). -/
def dmaBaseHook (r : Reg) : Hook := fun _ q w be s => if s.fl R.HOST_DMA_CFG.EN q then (s, true) else writeWord r q w be s

/-- DMA_RING_ENABLE: a write of HOST_DMA_CFG with EN = 1 (R478). -/
def execDmaRingEnable (rq : Req) (r : Fin 4) (w : Word) (s : State) : Out' := writeRow rq .HOST_DMA_CFG r.val (Nat.lor w.toNat 1) dmaCfgHook s

/-- DMA_RING_DISABLE: a write of HOST_DMA_CFG with EN = 0 (R478). -/
def execDmaRingDisable (rq : Req) (r : Fin 4) (w : Word) (s : State) : Out' := writeRow rq .HOST_DMA_CFG r.val (putBits w.toNat 0 1 0) dmaCfgHook s

/-- DMA_TAIL_WRITE: a write of HOST_DMA_TAIL (R478). -/
def execDmaTailWrite (rq : Req) (r : Fin 4) (w : Word) (s : State) : Out' := writeRow rq .HOST_DMA_TAIL r.val w.toNat (fun _ => writeWord .HOST_DMA_TAIL) s

/-- The fields of a descriptor (R479). -/
def descOf (b : List Nat) : Desc :=
  let n (i k : Nat) := leVal ((b.drop i).take k)
  ⟨n 0 1, n 1 1, n 2 1, n 3 1, n 4 2, n 8 8, n 16 4, n 20 4⟩

/-- BAD_DESC: a reserved OP or a reserved field not 0, a misaligned address, or COUNT out of range (R479, R480). -/
def descBad (d : Desc) (b : List Nat) : Bool :=
  d.op > 3 || d.flags ≥ 8 || d.tile ≥ 16 || leVal ((b.drop 6).take 2) ≠ 0 || leVal ((b.drop 24).take 4) ≠ 0 ||
  (d.op ≠ 0 && d.hostAddr % 16 ≠ 0) || ((d.op = 1 || d.op = 2) && d.count = 0) ||
  (d.op = 3 && (d.devAddr % 64 ≠ 0 || d.count % 64 ≠ 0 || d.count = 0 || d.count > 16777216))

/-- The CODE of a descriptor before it moves any data (R281, R480). [log DEDUCED 63, 66] -/
def State.descCode (s : State) (k : Nat) (d : Desc) (b : List Nat) : Nat :=
  if descBad d b then 3
  else if d.op = 0 then 0
  else if d.op = 3 then
    if (List.range ((d.devAddr + d.count - 1) / 65536 - d.devAddr / 65536 + 1)).all fun j => d.devAddr / 65536 + j < 768 && s.blkOwner (d.devAddr / 65536 + j) = some k then 0 else 4
  else if s.tileOwner d.tile ≠ some k then 4
  else if d.op = 1 then
    if s.fl R.SEG_SLOT.READY (slotInst' d.tile d.slot) then 1
    else if d.slot ≥ s.slotCount d.tile || d.devAddr + d.count > 32 * s.slotSize d.tile then 2 else 0
  else if 8 * (d.devAddr + d.count) > 1024 * s.rd R.SEG_STORE_CFG.RING_BASE d.tile then 5 else 0

/-- A ring can start its next descriptor: it is enabled, holds one, and has none in progress. -/
def State.ringReady (s : State) (q : Nat) : Bool :=
  s.alive && s.imaged && s.fl R.HOST_DMA_CFG.EN q && s.rd R.HOST_DMA_HEAD.HEAD q ≠ s.rd R.HOST_DMA_TAIL.TAIL q && (s.ring q).desc.isNone

/-- The host address of the descriptor at HEAD. -/
def State.ringAddr (s : State) (q : Nat) : Nat :=
  s.rd R.HOST_DMA_BASE_LO.BASE_LO q * 4096 + s.rd R.HOST_DMA_BASE_HI.BASE_HI q * 2 ^ 32 + 32 * s.rd R.HOST_DMA_HEAD.HEAD q

/-- The descriptor at HEAD, whose bytes are `b`, starts where its OP is one that `ops` accepts; its check gives its CODE (R480). [log DEDUCED 64] -/
def State.descStart (s : State) (q : Nat) (b : List Nat) (ops : Nat → Bool) : State :=
  if !s.ringReady q || !ops (b.getD 0 0) then s else
  let d := descOf b
  let x : RingSt := { desc := some d, moved := 0, code := s.descCode (q / 4) d b, addr := s.ringAddr q, no := s.host.started, stale := false }
  ({ s.setRing q x with host := { (s.setRing q x).host with started := s.host.started + 1 } }).wr R.HOST_DMA_STATUS.BUSY q 1

/-- A row block (R211) committed from a row of a slice on, each row whole with fresh check bits. -/
def State.rowBlock (s : State) (t row : Nat) (b : List Nat) : State :=
  s.setStore t ((List.range 8).foldl (fun x j =>
    let x := (List.range 4).foldl (fun x k => x.putWord (row + j) k (leVal ((b.drop (32 * j + 8 * k)).take 8))) x
    x.putCtl (row + j) (leVal ((b.drop (256 + 2 * j)).take 2))) (s.store t))

/-- SET_READY of a refill acts when its last block has committed (R281). -/
def State.refillReady (s : State) (d : Desc) : State :=
  let i := slotInst' d.tile d.slot
  ((((s.wr R.SEG_SLOT.TAG i d.tag).wb R.SEG_SLOT.LAST i (bitAt d.flags 2)).wr R.SEG_SLOT.READY i 1).ringLow d.tile false)

/-- One row block of the descriptor in progress moves into the slice, if the frame's credit of the saggar and of the tile still hold it (R212, R476). [log DEDUCED 64, 65] -/
def State.moveBlock (s : State) (q : Nat) (b : List Nat) : State :=
  let x := s.ring q
  match x.desc with
  | none => s
  | some d =>
    let credit (n : Nat) := smGet 0 s.host.credit n
    if (d.op ≠ 1 && d.op ≠ 2) || x.code ≠ 0 || x.moved ≥ d.count || credit (q / 4) < 272 || credit (64 + d.tile) < 272 then s else
    let base := if d.op = 1 then 1024 * s.rd R.SEG_STORE_CFG.RING_BASE d.tile + 256 * s.slotSize d.tile * d.slot else 0
    let s := s.rowBlock d.tile (base + 8 * (d.devAddr + x.moved)) b
    let c := smSet 0 (smSet 0 s.host.credit (q / 4) (credit (q / 4) - 272)) (64 + d.tile) (credit (64 + d.tile) - 272)
    let s := { s with host := { s.host with credit := c } }.setRing q { x with moved := x.moved + 1 }
    s.when (d.op = 1 && bitAt d.flags 1 && x.moved + 1 = d.count) (·.refillReady d)

/-- The row blocks that host reads have returned, each moved while credit lasts. -/
def State.moveBlocks (s : State) (q : Nat) (data : List Nat) : State :=
  (List.range (data.length / 272)).foldl (fun s j => s.moveBlock q ((data.drop (272 * j)).take 272)) s

/-- NOP: the descriptor at HEAD is a NOP, or one of a reserved OP, which is refused (R479, R480). [log DEDUCED 63] -/
def execNop (sag : Fin 16) (r : Fin 4) (d : List Byte) (s : State) : Out' :=
  done s (·.descStart (4 * sag.val + r.val) (d.map (·.toNat)) fun op => op = 0 || op > 3)

/-- STREAM_REFILL: the descriptor at HEAD starts, or goes on with the row blocks of `data`, the next ones of its host buffer (R281, R479). -/
def execStreamRefill (sag : Fin 16) (r : Fin 4) (d : List Byte) (data : List Byte) (s : State) : Out' :=
  done s fun s =>
    let q := 4 * sag.val + r.val
    let s := s.descStart q (d.map (·.toNat)) (· = 1)
    if (s.ring q).desc.any fun d => d.op = 1 then s.moveBlocks q (data.map (·.toNat)) else s

/-- RESIDENT_LOAD: the same into resident rows (R479). -/
def execResidentLoad (sag : Fin 16) (r : Fin 4) (d : List Byte) (data : List Byte) (s : State) : Out' :=
  done s fun s =>
    let q := 4 * sag.val + r.val
    let s := s.descStart q (d.map (·.toNat)) (· = 2)
    if (s.ring q).desc.any fun d => d.op = 2 then s.moveBlocks q (data.map (·.toNat)) else s

/-- One code word of an upload: a write to host memory, poisoned where the word is uncorrectable, which gives the descriptor STORE_ERROR and a shard (R480, R566). [log DEDUCED 69] -/
def State.uploadWord (s : State) (q host w : Nat) : State :=
  let bytes := leBytes 8 (smGet 0 s.cap w)
  if smGet 0 s.capEcc w ≠ 2 then s.send (.hostWrite host bytes false)
  else
    let (src, s) := s.draw 5
    let s := match s.fnOf (q / 4) with | some f => (s.aer f 10).hostErr f R.HOST_ERR.POISON_TX | none => s
    ((s.storeUe (16 + capRegion w) (w / 4) (w % 4) src).setRing q { s.ring q with code := 7 }).send (.hostWrite host bytes true)

/-- The next 4 KiB, or the rest, of an upload (R478, R479); it waits while a producer that comes first has a write for the region (R30). [log DEDUCED 64, 126] -/
def State.uploadPart (s : State) (q : Nat) : State :=
  let x := s.ring q
  match x.desc with
  | none => s
  | some d =>
    if d.op ≠ 3 || x.code % 7 ≠ 0 then s else
    let n := min 4096 (d.count - x.moved)
    if s.regionBusy (capRegion ((d.devAddr + x.moved) / 8)) || s.regionBusy (capRegion ((d.devAddr + x.moved + n - 1) / 8)) then s else
    let s := s.each (List.range (n / 8)) fun s j => s.uploadWord q (d.hostAddr + x.moved + 8 * j) ((d.devAddr + x.moved) / 8 + j)
    s.setRing q { s.ring q with moved := x.moved + n }

/-- UPLOAD: the descriptor at HEAD starts, or goes on with its next 4 KiB (R479). -/
def execUpload (sag : Fin 16) (r : Fin 4) (d : List Byte) (s : State) : Out' :=
  done s fun s => (s.descStart (4 * sag.val + r.val) (d.map (·.toNat)) (· = 3)).uploadPart (4 * sag.val + r.val)

/-- All that a descriptor moves has moved, or it was refused. -/
def RingSt.finished (x : RingSt) : Bool :=
  match x.desc with
  | none => false
  | some d => x.code % 7 ≠ 0 || d.op = 0 || x.moved ≥ d.count

/-- A refill of the same tile that started earlier in another ring is still in progress (R281). [log DEDUCED 67] -/
def State.refillBefore (s : State) (q : Nat) : Bool :=
  let x := s.ring q
  match x.desc with
  | none => false
  | some d => d.op = 1 && s.host.rings.any fun e => e.1 ≠ q && e.2.no < x.no && e.2.desc.any fun d' => d'.op = 1 && d'.tile = d.tile

/-- The STATUS write of a descriptor, with DONE (R481). -/
def State.descStatus (s : State) (q code : Nat) : State :=
  (s.send (.hostWrite ((s.ring q).addr + 28) (leBytes 4 (code + 2 ^ 31)) false)).wr R.HOST_DMA_STATUS.LAST_CODE q code

/-- DESCRIPTOR_COMPLETE: STATUS is written with DONE, HEAD advances, and DMA_DONE arises where NOTIFY asks for it (R478, R481). [log DEDUCED 67, 68] -/
def execDescriptorComplete (sag : Fin 16) (r : Fin 4) (s : State) : Out' :=
  done s fun s =>
    let q := 4 * sag.val + r.val
    let x := s.ring q
    match x.desc with
    | none => s
    | some d =>
      if !x.finished || s.refillBefore q then s else
      let s := ((s.descStatus q x.code).bump R.HOST_DMA_STATUS.DONE_COUNT q 1).wr R.HOST_DMA_STATUS.BUSY q 0
      let s := s.when (!x.stale) fun s => s.wr R.HOST_DMA_HEAD.HEAD q ((s.rd R.HOST_DMA_HEAD.HEAD q + 1) % 2 ^ s.rd R.HOST_DMA_CFG.SIZE_LOG2 q)
      (s.setRing q .idle).when (bitAt d.flags 0) (·.raise (1024 + 4 * sag.val))

/-- DMA_HOST_ERROR: a host read of a descriptor or of its data failed, or a host write could not be sent: the descriptor ends where it stands (R480, R482). -/
def execDmaHostError (sag : Fin 16) (r : Fin 4) (timeout : Bool) (s : State) : Out' :=
  done s fun s =>
    let q := 4 * sag.val + r.val
    let x := s.ring q
    if x.desc.isNone && !s.ringReady q then s else
    let s := s.when x.desc.isSome fun s => s.descStatus q 6
    let s := match s.fnOf sag.val with | some f => s.when timeout fun s => (s.hostErr f R.HOST_ERR.CPL_TIMEOUT).aer f 4 | none => s
    let s := ((s.setRing q .idle).wr R.HOST_DMA_STATUS.BUSY q 0).wr R.HOST_DMA_CFG.EN q 0
    (s.wr R.HOST_DMA_STATUS.ERROR q 1).raise (1024 + 4 * sag.val + 1)

/-- DMA_ARBITRATION_FRAME: credit left lapses, and each saggar has 375 bytes a share, each tile 12,000 (R212, R476). [log DEDUCED 65] -/
def execDmaArbitrationFrame (s : State) : Out' :=
  done s fun s =>
    let c := (List.range 16).foldl (fun c k => smSet 0 c k (375 * s.rd R.SAG_QUOTA_B.STREAM_SHARE k)) []
    { s with host := { s.host with credit := (List.range 16).foldl (fun c t => smSet 0 c (64 + t) 12000) c } }

end Sys2Proof.Machine
end

