-- ==== Sys2Proof/Machine/Flash.lean ====
section
/-! DEFINITION. The boot-flash master (R496 to R506): identification, the lock, commands, the aperture and its prefetch buffer. -/

namespace Sys2Proof.Machine

/-- FLS_STATUS.SIZE_MISMATCH (R496). -/
def State.flashMismatch (s : State) : Bool :=
  s.fl R.FLS_STATUS.PRESENT 0 && (if s.flashWide then s.flashSize ≤ 0x1000000 else s.flashSize > 0x1000000)

/-- FLASH_IDENTIFY: the flash has answered 0x9F with the bytes of `id`, first in the low byte; `present` is false where no flash answers (R496). -/
def execFlashIdentify (present : Bool) (id : Nat) (s : State) : Out' :=
  done s fun s =>
    if !s.alive then s else
    let c := bits id 16 8
    (((s.send (.flash [0x66] 0)).send (.flash [0x99] 0)).send (.flash [0x9F] 3)).wr R.FLS_ID.ID 0 id |>.wb R.FLS_STATUS.PRESENT 0 (present && 0x14 ≤ c && c ≤ 0x1C)

/-- The code of a requester in FLS_LOCK.HOLDER: a host function or the service port (R504). -/
def holderCode : Req → Nat
  | .fn _ => 1
  | .spi => 2

/-- The requester holds the flash lock. -/
def State.holds (s : State) (rq : Req) : Bool := s.rd R.FLS_LOCK.HOLDER 0 = holderCode rq

/-- The write of FLS_LOCK (R504): REQ claims a free lock or sets REFUSED; RELEASE acts for the holder only. [log DEDUCED 85, 86] -/
def flsLockHook : Hook := fun rq _ w be s =>
  if R.FLS_LOCK.RELEASE.acts w be && !s.holds rq && !(R.FLS_LOCK.REQ.acts w be && s.rd R.FLS_LOCK.HOLDER 0 = 0) then (s, true) else
  let s := s.when (R.FLS_LOCK.REFUSED.acts w be) (·.wr R.FLS_LOCK.REFUSED 0 0)
  let s := if !R.FLS_LOCK.REQ.acts w be then s
    else if s.rd R.FLS_LOCK.HOLDER 0 = 0 then s.wr R.FLS_LOCK.HOLDER 0 (holderCode rq) else s.wr R.FLS_LOCK.REFUSED 0 1
  (s.when (R.FLS_LOCK.RELEASE.acts w be) (·.wr R.FLS_LOCK.HOLDER 0 0), false)

/-- FLASH_LOCK_REQ: a write of FLS_LOCK with REQ = 1 (R504). -/
def execFlashLockReq (rq : Req) (s : State) : Out' := writeRow rq .FLS_LOCK 0 1 flsLockHook s

/-- FLASH_LOCK_RELEASE: a write of FLS_LOCK with RELEASE = 1 (R504). -/
def execFlashLockRelease (rq : Req) (s : State) : Out' := writeRow rq .FLS_LOCK 0 2 flsLockHook s

/-- Byte j of FLS_BUF. -/
def State.flsByte (s : State) (j : Nat) : Nat := bits (s.rd R.FLS_BUF.DATA (j / 4)) (8 * (j % 4)) 8

/-- FLS_BUF with byte j replaced. -/
def State.putFlsByte (s : State) (j b : Nat) : State := s.wr R.FLS_BUF.DATA (j / 4) (putBits (s.rd R.FLS_BUF.DATA (j / 4)) (8 * (j % 4)) 8 b)

/-- The command that FLS_CMD, FLS_ADDR and FLS_BUF hold. -/
def State.flashCmd (s : State) : FlashCmd :=
  let f (x : Fld) := s.rd x 0
  let n := f R.FLS_CMD.DATA_LEN
  { opcode := f R.FLS_CMD.OPCODE, addrBytes := f R.FLS_CMD.ADDR_BYTES, addr := f R.FLS_ADDR.ADDR % 2 ^ (8 * f R.FLS_CMD.ADDR_BYTES), dummy := f R.FLS_CMD.DUMMY, len := n,
    fromFlash := s.fl R.FLS_CMD.DIR 0, wren := s.fl R.FLS_CMD.WREN 0, poll := s.fl R.FLS_CMD.POLL 0, data := (List.range n).map s.flsByte }

/-- A command begins (R505): what is sent, and BUSY. -/
def State.flashGo (s : State) : State :=
  let c := s.flashCmd
  let s := { s with flash := { s.flash with cmd := some c, isOpen := false, buffer := if c.fromFlash then s.flash.buffer else none } }
  let s := (s.wr R.FLS_CMD.STATUS 0 1).wr R.FLS_STATUS.BUSY 0 1
  let s := s.when c.wren (·.send (.flash [0x06] 0))
  s.send (.flash (c.opcode :: beBytes c.addrBytes c.addr ++ (if c.fromFlash then [] else c.data)) (if c.fromFlash then c.len else 0))

/-- The write of FLS_CMD (R504, R505): for the holder alone; a GO while BUSY = 1 is discarded, and a command out of range is refused with STATUS error. [log DEDUCED 88] -/
def flsCmdHook : Hook := fun rq _ w be s =>
  let go := R.FLS_CMD.GO.acts w be
  if !s.holds rq || (go && s.fl R.FLS_STATUS.BUSY 0) then (s, true)
  else
    let (s, r) := writeWord .FLS_CMD 0 w be s
    if !go then (s, r)
    else
      let c := s.flashCmd
      if (c.addrBytes = 0 || c.addrBytes = 3 || c.addrBytes = 4) && c.len ≤ 256 then (s.flashGo, r) else (s.wr R.FLS_CMD.STATUS 0 3, r)

/-- FLASH_CMD_GO: a write of FLS_CMD with GO = 1 (R505). -/
def execFlashCmdGo (rq : Req) (w : Word) (s : State) : Out' := writeRow rq .FLS_CMD 0 (Nat.lor w.toNat (2 ^ 28)) flsCmdHook s

/-- The write of FLS_BUF: for the holder alone, and while BUSY = 0 (R504, R505). -/
def flsBufHook : Hook := fun rq i w be s => if !s.holds rq || s.fl R.FLS_STATUS.BUSY 0 then (s, true) else writeWord .FLS_BUF i w be s

/-- A program clears bits of a byte only (R500). -/
def programByte (m : SMap Nat) (a b : Nat) : SMap Nat := smSet 0xFF m a (Nat.land (smGet 0xFF m a) (b % 256))

/-- The bytes that an erase command of the flash sets to 0xFF: a sector of 4 KiB, blocks of 32 and 64 KiB, or the whole chip. [log PRESUMED 87] -/
def eraseSpan (opcode size : Nat) : Option Nat :=
  if opcode = 0x20 || opcode = 0x21 then some 4096 else if opcode = 0x52 || opcode = 0x5C then some 32768
  else if opcode = 0xD8 || opcode = 0xDC then some 65536 else if opcode = 0xC7 || opcode = 0x60 then some size else none

/-- What a command of FLS_CMD does to the flash's content and its write-enable latch: a page program wraps in its page of 256 bytes. [log PRESUMED 87] -/
def State.flashEffect (s : State) (c : FlashCmd) : State :=
  let f := s.flash
  let put (cells : SMap Nat) (wel : Bool) : State := { s with flash := { f with cells := cells, wel := wel } }
  if c.opcode = 0x06 then put f.cells true
  else if c.opcode = 0x04 then put f.cells false
  else if !(c.wren || f.wel) then s
  else if c.opcode = 0x02 || c.opcode = 0x12 then
    put (c.data.zipIdx.foldl (fun m e => programByte m (c.addr / 256 * 256 + (c.addr + e.2) % 256) e.1) f.cells) false
  else match eraseSpan c.opcode (max s.flashSize 1) with
    | some n => put (smKeep (fun a => a / n ≠ c.addr / n) f.cells) false
    | none => s

/-- The bytes that a command reads: the flash's own content for the fast reads of R497, else what the flash answered. -/
def State.flashAnswer (s : State) (c : FlashCmd) (bytes : List Nat) : List Nat :=
  if (c.opcode = 0x0B && c.addrBytes = 3 && c.dummy = 8) || (c.opcode = 0x0C && c.addrBytes = 4 && c.dummy = 8) then s.flashRead c.addr c.len
  else (List.range c.len).map fun j => bytes.getD j 0xFF

/-- FLASH_CMD_DONE: a command, and its polling with the last status byte `status`, complete (R505); `bytes` is what the flash answered. [log PRESUMED 87] -/
def execFlashCmdDone (status : Byte) (bytes : List Byte) (s : State) : Out' :=
  done s fun s =>
    match s.flash.cmd with
    | none => s
    | some c =>
      if c.poll && status.toNat % 2 = 1 then s else
      let s := if c.fromFlash then (s.flashAnswer c (bytes.map (·.toNat))).zipIdx.foldl (fun s e => s.putFlsByte e.2 e.1) s else s.flashEffect c
      let s := s.when c.poll (·.wr R.FLS_STATUS.LAST_SR 0 status.toNat)
      ({ s with flash := { s.flash with cmd := none } }.wr R.FLS_CMD.STATUS 0 2).wr R.FLS_STATUS.BUSY 0 0

/-- A translated program ends in the flash (R500). -/
def State.programEnd (s : State) : State :=
  match s.flash.program with
  | none => s
  | some l => { s with flash := { s.flash with cells := l.foldl (fun m (e : Nat × Nat) => programByte m e.1 e.2) s.flash.cells, program := none } }.wr R.FLS_STATUS.BUSY 0 0

/-- FLASH_PROGRAM_DONE: polling finds the flash ready after a translated program (R500). -/
def execFlashProgramDone (status : Byte) (s : State) : Out' :=
  done s fun s => if s.flash.program.isNone || status.toNat % 2 = 1 then s else s.programEnd.wr R.FLS_STATUS.LAST_SR 0 status.toNat

/-- FLASH_POLL_TIMEOUT: POLL_LIMIT has passed (R500, R505); the flash finishes what it accepted. -/
def execFlashPollTimeout (status : Byte) (s : State) : Out' :=
  done s fun s =>
    match s.flash.program, s.flash.cmd with
    | some _, _ => (s.programEnd.wr R.FLS_STATUS.POLL_TIMEOUT 0 1).wr R.FLS_STATUS.LAST_SR 0 status.toNat
    | none, some c =>
      if !c.poll then s else
      let s := s.when (!c.fromFlash) (·.flashEffect c)
      let s := (({ s with flash := { s.flash with cmd := none } }.wr R.FLS_CMD.STATUS 0 3).wr R.FLS_STATUS.BUSY 0 0)
      (s.wr R.FLS_STATUS.POLL_TIMEOUT 0 1).wr R.FLS_STATUS.LAST_SR 0 status.toNat
    | none, none => s

/-- The flash address that an offset of the aperture shows (R499). -/
def State.winAddr (s : State) (off : Nat) : Nat := s.rd R.FLS_WIN_PAGE.PAGE 0 * 0x8000 + (off - 0x8000)

/-- A read of n bytes at an address through the prefetch buffer (R502): a hit moves the buffer on where its transaction is open; a miss starts a new one. -/
def State.prefetch (s : State) (a n : Nat) : State :=
  let (l, w) := (a / 64, a % 64 / 4)
  let hit (b : Nat × Nat) : Bool := b.1 ≤ l && (a + n - 1) / 64 < b.1 + 4 && (b.1 < l || b.2 ≤ w)
  match s.flash.buffer with
  | some b =>
    if hit b then (if s.flash.isOpen then { s with flash := { s.flash with buffer := some (l, if l = b.1 then b.2 else 0) } } else s)
    else { s with flash := { s.flash with buffer := some (l, w), isOpen := true } }.send (.flash (0x0C :: beBytes 4 a ++ [0]) n)
  | none => { s with flash := { s.flash with buffer := some (l, w), isOpen := true } }.send (.flash (0x0C :: beBytes 4 a ++ [0]) n)

/-- A read of n bytes of the aperture: the bytes, and the state after it (R499 to R502). -/
def State.winRead (s : State) (off n : Nat) : State × List Nat :=
  let a := s.winAddr off
  let zeros := List.replicate n 0
  let present := s.fl R.FLS_STATUS.PRESENT 0
  let beyond := present && s.flashReach ≤ a
  let busy := s.fl R.FLS_STATUS.BUSY 0
  if busy || !present || beyond then ((s.when busy (·.wr R.FLS_STATUS.WIN_BUSY_READ 0 1)).when beyond (·.wr R.FLS_STATUS.RANGE 0 1), zeros)
  else if s.flashWide then (s.prefetch a n, s.flashRead a n)
  else (s.send (.flash (0x0B :: beBytes 3 a ++ [0]) n), s.flashRead a n)

/-- The requester reaches the flash aperture, which lies in the DEV block (R39, R77, R485). -/
def State.winMay (s : State) (rq : Req) : Bool :=
  match rq with
  | .spi => true
  | .fn f => if s.imaged then s.sagOf rq = some 0 else f.val % 16 = 0

/-- FLASH_WINDOW_READ: a read of the aperture, of 4 or with `long` of 8 bytes, at a BAR0 offset (R499 to R502). -/
def execFlashWindowRead (rq : Req) (off : Nat) (long : Bool) (s : State) : Out' :=
  done s fun s =>
    let n := if long then 8 else 4
    if !s.reachable rq || off < 0x8000 || 0x10000 ≤ off || off % n ≠ 0 then s
    else if !s.winMay rq then s.send (.data (List.replicate n 0))
    else let (s, b) := s.winRead off n; s.send (.data b)

/-- A write to the aperture: the bytes enabled in one aligned 8-byte place are programmed (R499 to R504); a refused one is counted once. -/
def State.winWrite (s : State) (rq : Req) (off : Nat) (l : List (Nat × Nat)) : State × Bool :=
  let beyond := decide (s.flashReach ≤ s.winAddr off)
  if l.isEmpty then (s, false)
  else if !s.holds rq || s.fl R.FLS_STATUS.BUSY 0 || s.flashWide || beyond then
    ((s.when s.flashWide (·.wr R.FLS_STATUS.WIN_WRITE_REFUSED 0 1)).when beyond (·.wr R.FLS_STATUS.RANGE 0 1), true)
  else
    let prog := l.map fun e => (s.winAddr e.1, e.2)
    let s := (s.send (.flash [0x06] 0)).send (.flash (0x02 :: beBytes 3 (prog.headD (0, 0)).1 ++ prog.map (·.2)) 0)
    ({ s with flash := { s.flash with program := some prog } }.wr R.FLS_STATUS.BUSY 0 1, false)

/-- A write to the aperture from a requester. -/
def State.winAct (s : State) (rq : Req) (off : Nat) (l : List (Nat × Nat)) : State :=
  if !s.reachable rq then s
  else if !s.winMay rq then s.refuse rq off false
  else let (s, r) := s.winWrite rq off l; s.when r (·.refuse rq off false)

/-- FLASH_WINDOW_WRITE: a write of bytes at a BAR0 offset of the aperture, within one aligned 8-byte place (R460, R500). -/
def execFlashWindowWrite (rq : Req) (off : Nat) (bytes : List Byte) (s : State) : Out' :=
  done s fun s =>
    if off < 0x8000 || 0x10000 ≤ off || off % 8 + bytes.length > 8 then s
    else s.winAct rq off (bytes.zipIdx.map fun e => (off + e.2, e.1.toNat))

end Sys2Proof.Machine
end

