-- ==== Sys2Proof/Machine/Thermal.lean ====
section
/-! DEFINITION. The housekeeping round (R528 to R547): sensors and their cross-check, cones, the rate of rise, the supply monitors, the NVM
window and the thermal shutdown. -/

namespace Sys2Proof.Machine

/-- The neighbours of a sensor (R529). -/
def sensorNear (n : Nat) : List Nat :=
  if n < 16 then ((List.range 4).map (n / 4 * 4 + ·)).filter (· ≠ n)
  else if n < 20 then let q := n - 16; [4 * q + 1, 4 * q + 2, 16 + (q + 1) % 4, 16 + (q + 3) % 4]
  else if n = 20 then [21, 2, 6] else [20, 10, 14]

/-- The sensors of each die (R528). -/
def sensorDies : List (List Nat) := [List.range 16, [16, 17, 18, 19], [20, 21]]

/-- An integer put in its place of a rising list. -/
def insertInt (x : Int) : List Int → List Int
  | [] => [x]
  | y :: l => if x ≤ y then x :: y :: l else y :: insertInt x l

/-- The median of readings: with an even number, the mean of the middle two rounded toward minus infinity (R533); none of no readings. -/
def median (l : List Int) : Option Int :=
  let v := l.foldr insertInt []
  let n := v.length
  if n = 0 then none else if n % 2 = 1 then some (v.getD (n / 2) 0) else some ((v.getD (n / 2 - 1) 0 + v.getD (n / 2) 0) / 2)

/-- A sensor is broken. -/
def State.broken (s : State) (n : Nat) : Bool := bitAt (s.rd R.THS_BROKEN.BROKEN 0) n

/-- The readings of the neighbours of a sensor that are not broken. -/
def State.nearReadings (s : State) (t : List Int) (n : Nat) : List Int := ((sensorNear n).filter fun m => !s.broken m).map fun m => t.getD m 0

/-- What a sensor disagrees by in a round, against the median of two or more good neighbours; none where it agrees (R533). -/
def State.disagrees (s : State) (t : List Int) (n : Nat) : Option Nat :=
  let x := t.getD n 0
  let near := s.nearReadings t n
  let diff : Nat := if near.length < 2 then 0 else match median near with | some m => (x - m).natAbs | none => 0
  if diff > 192 || x < -1024 || x > 3200 then some diff else none

/-- A sensor goes before another in R534: the larger difference, then the higher number. -/
def sensorBefore (a b : Nat × Nat) : Bool := a.1 > b.1 || (a.1 = b.1 && a.2 > b.2)

/-- A candidate put in its place of a list ordered by R534. -/
def insertCand (x : Nat × Nat) : List (Nat × Nat) → List (Nat × Nat)
  | [] => [x]
  | y :: l => if sensorBefore x y then x :: y :: l else y :: insertCand x l

/-- The sensors that a round declares broken, of candidates in the order of R534: a candidate next to one already declared is left out. -/
def declared : List (Nat × Nat) → List Nat → List Nat
  | [], acc => acc
  | (_, n) :: l, acc => declared l (if acc.any fun m => (sensorNear n).contains m || (sensorNear m).contains n then acc else n :: acc)

/-- One sensor is declared broken (R533), with the median that its test used; where it had no good neighbour, the manual names none. -/
def State.sensorBreaks (s : State) (n : Nat) (reading : Int) (med : Option Int) : State :=
  let (m, s) : Nat × State := match med with
    | some m => (ofInt 32 m, s)
    | none => s.draw 5
  let s := { s with hk := { s.hk with changed := smSet 0 s.hk.changed n (s.hk.round + 1) } }
  ((s.wr R.THS_BROKEN.BROKEN 0 (Nat.lor (s.rd R.THS_BROKEN.BROKEN 0) (2 ^ n))).raise 9).shard 0x40 (place 6 n) (ofInt 32 reading) m 0

/-- The cross-check of a round (R533, R534). [log DEDUCED 90] -/
def State.crossCheck (s : State) (t : List Int) : State :=
  if s.hk.round < 4 then s else
  let tested := (List.range 22).filter fun n => !s.broken n
  let count (n : Nat) : Nat := if (s.disagrees t n).isSome then smGet 0 s.hk.disagree n + 1 else 0
  let cands := (tested.filter fun n => 3 ≤ count n).foldl (fun l n => insertCand ((s.disagrees t n).getD 0, n) l) []
  let out := declared cands []
  let counts := tested.foldl (fun m n => smSet 0 m n (if 3 ≤ count n then 0 else count n)) s.hk.disagree
  let b := s
  let s := { s with hk := { s.hk with disagree := counts } }
  s.each ((List.range 22).filter out.contains) fun s n => s.sensorBreaks n (t.getD n 0) (median (b.nearReadings t n))

/-- The highest of a list of readings. -/
def highest (l : List Int) : Option Int := l.foldl (fun b x => match b with | none => some x | some y => some (max x y)) none

/-- The effective temperature of a sensor (R535): none where every sensor is broken. [log DESIGN CHOICE 89] -/
def State.effective (s : State) (t : List Int) (n : Nat) : Option Int :=
  let good (l : List Nat) : List Int := (l.filter fun m => !s.broken m).map fun m => t.getD m 0
  if !s.broken n then some (t.getD n 0)
  else ((median (s.nearReadings t n)).orElse fun _ => highest (good ((sensorDies.find? (·.contains n)).getD []))).orElse fun _ => highest (good (List.range 22))

/-- The effective temperatures of a round; the manual gives none where every sensor is broken: free values. [log DESIGN CHOICE 89] -/
def State.effectives (s : State) (t : List Int) : List Int × State :=
  (List.range 22).foldl (fun (e : List Int × State) n => match s.effective t n with
    | some x => (e.1 ++ [x], e.2)
    | none => let (v, s') := e.2.draw 6; (e.1 ++ [toSigned 16 v], s')) ([], s)

/-- TJ and the lowest-numbered sensor that gives it (R537). -/
def hottest (e : List Int) : Int × Nat :=
  let m := (highest e).getD 0
  (m, (e.findIdx? (· = m)).getD 0)

/-- THS_TEMP and THS_TJ of a round (R535, R537). -/
def State.putTemps (s : State) (t e : List Int) : State :=
  let s := s.each (List.range 22) fun s n => (s.wr R.THS_TEMP.RAW n (ofInt 16 (t.getD n 0))).wr R.THS_TEMP.EFFECTIVE n (ofInt 16 (e.getD n 0))
  (s.wr R.THS_TJ.TJ 0 (ofInt 16 (hottest e).1)).wr R.THS_TJ.SENSOR 0 (hottest e).2

/-- Every sensor of some die is broken (R536). -/
def State.dieBlind (s : State) : Bool := sensorDies.any fun d => d.all s.broken

/-- The counts of a cone after a round, and whether it is in force (R538): `force` before, threshold `th` in °C, counts toward entry and leaving. -/
def coneStep (force : Bool) (th : Nat) (tj : Int) (enter leave : Nat) : Bool × Nat × Nat :=
  let enter := if tj ≥ 16 * (th : Int) then enter + 1 else 0
  let leave := if tj < 16 * (th : Int) - 48 then leave + 1 else 0
  if force then (if leave ≥ 8 then (false, 0, 0) else (true, 0, leave)) else if enter ≥ 8 then (true, 0, 0) else (false, enter, 0)

/-- One of the cones W and T evaluated (R536, R538, R539): `c` 0 or 1. -/
def State.coneRound (s : State) (c : Nat) (f : Fld) (th : Nat) (tj : Int) (hold : Bool) : State :=
  let x := coneStep (s.fl f 0) th tj (smGet 0 s.hk.cones (2 * c)) (smGet 0 s.hk.cones (2 * c + 1))
  let on := x.1 || hold
  let s := { s with hk := { s.hk with cones := smSet 0 (smSet 0 s.hk.cones (2 * c) x.2.1) (2 * c + 1) (if hold then 0 else x.2.2) } }
  (s.wb f 0 on).live (5 + c) on

/-- Cone S: the count toward its entry, and whether this round enters it (R538, R542). -/
def State.coneS (s : State) (tj : Int) : State × Bool :=
  let n := if tj ≥ 16 * 135 then smGet 0 s.hk.cones 4 + 1 else 0
  ({ s with hk := { s.hk with cones := smSet 0 s.hk.cones 4 n } }, n ≥ 8)

/-- The entry of Cone T asks for IDLE in RUN, and stops the playing tiles in LEGACY (R539). [log DEDUCED 92] -/
def State.coneTEntry (s : State) : State :=
  if s.m.mode = .run then (if s.m.target.isNone then s.modeRequest 3 false else s)
  else if s.m.mode = .legacy then s.stopTiles false else s

/-- RISE_LIMIT as it acts: 0 acts as 1. -/
def State.riseLimit (s : State) : Nat := max (s.rd R.THS_CTL.RISE_LIMIT 0) 1

/-- The sensors whose rate of rise exceeds the limit in a round (R541). -/
def State.rising (s : State) (t : List Int) : List Nat :=
  let n := s.hk.round
  match s.hk.past[63]? with
  | none => []
  | some old => (List.range 22).filter fun k =>
      let c := smGet 0 s.hk.changed k
      !s.broken k && (c = 0 || n + 1 ≥ c + 64) && decide ((t.getD k 0 - old.getD k 0) * 625 > (s.riseLimit : Int) * 64)

/-- The rate check of a round, and whether it asks for a shutdown (R541). -/
def State.rateRound (s : State) (t : List Int) : State × Bool :=
  let l := s.rising t
  let first := !s.fl R.THS_STATUS.RISE 0 && !l.isEmpty
  let s := s.wb R.THS_STATUS.RISE 0 (!l.isEmpty)
  let s := s.when first fun s => ((s.raise 8).wr R.THS_STATUS.RISE_HIT 0 1).wr R.THS_STATUS.RISE_SENSOR 0 (l.headD 0)
  ({ s with hk := { s.hk with past := (t :: s.hk.past).take 64 } }, first && s.fl R.THS_CTL.RISE_SHUTDOWN 0)

/-- The NVM window of a round (R69, R546); a user write that waits for it may start (R563). -/
def State.windowRound (s : State) (e : List Int) : State :=
  let (lo, hi) : Int × Int := match s.image with | some im => (im.nvmTmin, im.nvmTmax) | none => (0, 90)
  let ok := e.all fun x => decide (16 * lo ≤ x ∧ x ≤ 16 * hi)
  let n := if ok then min (s.hk.window + 1) 8 else 0
  ({ s with hk := { s.hk with window := n } }.wb R.THS_STATUS.NVM_OK 0 (n = 8)).nvmKick

/-- One supply monitor of a round (R545). -/
def State.railRound (s : State) (mv : Int) (n : Nat) : State :=
  let out : Bool := decide (mv < s.rdS R.HK_SUPPLY_LIM.LOW n) || decide (mv > s.rdS R.HK_SUPPLY_LIM.HIGH n)
  let (a, b) : Nat × Nat := if out then (min (smGet 0 s.hk.rails (2 * n) + 1) 2, 0) else (0, min (smGet 0 s.hk.rails (2 * n + 1) + 1) 2)
  let was := s.fl R.HK_SUPPLY_VAL.FAULT n
  let fault := if a = 2 then true else if b = 2 then false else was
  let s := { s with hk := { s.hk with rails := smSet 0 (smSet 0 s.hk.rails (2 * n) a) (2 * n + 1) b } }
  let s := (s.wr R.HK_SUPPLY_VAL.VALUE n (ofInt 16 mv)).wb R.HK_SUPPLY_VAL.FAULT n fault
  s.when (fault && !was) fun s => (s.wr R.HK_SUPPLY_VAL.FAULT_HIT n 1).shard 0x41 0x8000 n (ofInt 32 mv) 0

/-- The eight supply monitors, and SUPPLY_FAULT (R544, R545). -/
def State.supplyRound (s : State) (mv : List Int) : State :=
  let s := s.each (List.range 8) fun s n => s.railRound (mv.getD n 0) n
  s.live 10 ((List.range 8).any fun n => s.fl R.HK_SUPPLY_VAL.FAULT n)

/-- The spine references, as their errors in 10 µV; a quadrant whose step holds its ADC keeps the last reading (R531, R532). -/
def State.spineRound (s : State) (err : List Int) : State :=
  s.each (List.range 4) fun s q =>
    let x := err.getD q 0
    if (s.cal q).cur.isSome || x.natAbs ≤ 200 then s
    else (s.wr R.HK_SPINE.ERR q (ofInt 16 x)).wr R.HK_STATUS.SPINE_WARN 0 1

/-- The instances of a field that stand off their reset value. -/
def State.listed (s : State) (f : Fld) : List Nat := (s.regs.filter fun e => slotKey e.1 = f.key).map fun e => slotInst e.1

/-- The latches of the window monitors with CLR_MODE 0b10 clear at the start of a round (R131, R333, R346). -/
def State.roundClears (s : State) : State :=
  let s := s.each (s.listed R.LANE_MON.LATCH) fun s l => s.when (s.leff R.LANE_MON_CTL.CLR_MODE l = 2) (·.wr R.LANE_MON.LATCH l 0)
  let s := s.each (s.listed R.SMU_STATUS.MON_LATCH) fun s i => s.when (s.rd R.SMU_MON_CTL.CLR_MODE i = 2) (·.wr R.SMU_STATUS.MON_LATCH i 0)
  let s := s.each (s.listed R.DPS_STATUS.MON_I_LATCH) fun s d => s.when (s.deff R.DPS_MON_I_CTL.CLR_MODE d = 2) (·.wr R.DPS_STATUS.MON_I_LATCH d 0)
  s.each (s.listed R.DPS_STATUS.MON_V_LATCH) fun s d => s.when (s.deff R.DPS_MON_V_CTL.CLR_MODE d = 2) (·.wr R.DPS_STATUS.MON_V_LATCH d 0)

/-- The temperature of a quadrant, and the run that becomes due by it (R512, R513); a millisecond of the wait after a spine failure passes (R509). [log DEDUCED 93] -/
def State.calRound (s : State) (e : List Int) (q : Nat) : State :=
  let s := s.wr R.CAL_TEMP.T_NOW q (ofInt 16 (e.getD (16 + q) 0 / 4))
  let c := s.cal q
  let s := s.setCal q { c with hold := c.hold - 1 }
  if c.running then s else
  let due := s.calDue q
  let s := s.wb R.CAL_STATUS.DUE q due
  let may := (s.m.mode = .service && !s.m.startup) || s.operating
  if due && may && s.fl R.CAL_CTL.AUTO_EN q && c.hold ≤ 1 then s.calStart q else s

/-- The thermal shutdown (R542, R543): the latch, the shutdown shard, and everything outside the AON island held in reset with every output open, the NVM
write aborted, and DMA, links and the boot-flash master stopped; a load in progress ends with LOAD_ABORTED (R81), its shard after that of the shutdown. `cause` has bit 0 for Cone S and bit 1 for the rate of rise. [log DEDUCED 94] -/
def State.shutdown (s : State) (tj : Int) (sensor cause : Nat) : State :=
  let s := ({ s with m := { s.m with trip := true } }.raise 7).mirrorOnly 0x42 0x8000 (ofInt 32 tj) sensor cause
  (s.loadFail 0x40 0).porState

/-- The fixed program restarts after its machine check (R547). -/
def State.hkFixedRestart (s : State) : State := if s.hkFixed 16 && s.halted 16 then (s.wr R.SEQ_STATUS.STATE 16 1).setSeq 16 .idle else s

/-- One round (R531): the readings in 1/16 °C, the rails in mV, and the spine errors in 10 µV. -/
def State.round (s : State) (t rails spines : List Int) : State :=
  let s := s.hkFixedRestart.roundClears
  let s := { s with hk := { s.hk with round := s.hk.round + 1 } }.wr R.HK_ROUND_COUNT.COUNT 0 (s.hk.round + 1)
  let s := (s.supplyRound rails).spineRound spines
  let ref := s.fl R.DEV_CLK.REF_PRESENT 0
  let s := (s.wb R.HK_STATUS.REF_PRESENT 0 ref).when (!ref) (·.bump R.HK_STATUS.REF_LOST_ROUNDS 0 1)
  let (e, s) := (s.crossCheck t).effectives t
  let s := s.putTemps t e
  let (tj, hot) := hottest e
  let blind := s.dieBlind
  let wasT := s.fl R.THS_STATUS.CONE_T 0
  let s := s.wb R.THS_STATUS.DIE_BLIND 0 blind
  let s := s.coneRound 0 R.THS_STATUS.CONE_W (s.rd R.THS_CONE.W_C 0) tj false
  let s := s.coneRound 1 R.THS_STATUS.CONE_T (s.rd R.THS_CONE.T_C 0) tj blind
  let (s, hotS) := s.coneS tj
  let (s, rise) := s.rateRound t
  let s := s.windowRound e
  if hotS || rise then s.shutdown tj hot (b2n hotS + 2 * b2n rise)
  else
    let s := s.when (!wasT && s.fl R.THS_STATUS.CONE_T 0) State.coneTEntry
    let s := s.each (List.range 4) fun s q => s.calRound e q
    s.setSeq 16 { s.seq 16 with tick := 40000 }

/-- HK_ROUND: a housekeeping round, in every mode and through a SOFT reset, which leaves the registers of the round (R101, R530, R531). [log DEDUCED 91] -/
def execHkRound (temps : List Int) (rails : List Int) (spines : List Int) (s : State) : Out' :=
  doneAll s fun s => if s.clocked then s.round temps rails spines else s

/-- The write of THS_CONE (R540): discarded unless 60 ≤ W_C ≤ T_C ≤ 125; the counts of cones W and T restart. [log DEDUCED 136] -/
def thsConeHook : Hook := fun _ _ w be s =>
  let wc := s.newv R.THS_CONE.W_C 0 w be
  let tc := s.newv R.THS_CONE.T_C 0 w be
  if !(60 ≤ wc && wc ≤ tc && tc ≤ 125) then (s, true)
  else
    let (s, r) := writeWord .THS_CONE 0 w be s
    ({ s with hk := { s.hk with cones := smKeep (fun k => 4 ≤ k) s.hk.cones } }, r)

/-- The write of HK_SUPPLY_LIM (R545): discarded with LOW above HIGH. -/
def supplyLimHook : Hook := fun _ n w be s =>
  if toSigned 16 (s.newv R.HK_SUPPLY_LIM.LOW n w be) > toSigned 16 (s.newv R.HK_SUPPLY_LIM.HIGH n w be) then (s, true) else writeWord .HK_SUPPLY_LIM n w be s

/-- The write of THS_READMIT (R535): in SERVICE, each sensor named is broken no more and its test starts again. -/
def readmitHook : Hook := fun _ _ w be s =>
  let l := if R.THS_READMIT.READMIT.enabled be then (List.range 22).filter fun n => bitAt w n else []
  if l.isEmpty then (s, false)
  else if s.m.mode ≠ .service then (s, true)
  else
    let l := l.filter fun n => s.broken n
    let now := s.hk.round + 1
    let hk := { s.hk with disagree := smKeep (fun n => !l.contains n) s.hk.disagree, changed := l.foldl (fun m n => smSet 0 m n now) s.hk.changed }
    ({ s with hk := hk }.wr R.THS_BROKEN.BROKEN 0 (l.foldl (fun b n => b - 2 ^ n) (s.rd R.THS_BROKEN.BROKEN 0)), false)

/-- SENSOR_READMIT: a write of THS_READMIT (R535). -/
def execSensorReadmit (rq : Req) (w : Word) (s : State) : Out' := writeRow rq .THS_READMIT 0 w.toNat readmitHook s

end Sys2Proof.Machine
end

