-- ==== Sys2Proof/Machine/Legacy.lean ====
section
/-! DEFINITION. The forerunner personalities of LEGACY (R568 to R578). -/

namespace Sys2Proof.Machine

/-- The tiles of personality p. -/
def personaTiles (p : Nat) : List Nat := (List.range 4).map (4 * p + ·)

/-- A tile of personality p plays: DEV_LEGACY.PLAYING. -/
def State.personaPlays (s : State) (p : Nat) : Bool := (personaTiles p).any s.playing

/-- A bit of personality p in a field of DEV_LEGACY is set. -/
def State.personaFlag (s : State) (f : Fld) (p : Nat) : State := s.wr f 0 (Nat.lor (s.rd f 0) (2 ^ p))

/-- A write of a forerunner register that is discarded (R467): the manual places no offset for it. [log DESIGN CHOICE 99] -/
def State.personaRefuse (s : State) : State :=
  match s.fnOf 0 with
  | some f => let (v, s) := s.draw 1; s.bump R.HOST_REFUSE.COUNT f 1 |>.wr R.HOST_REFUSE_ADDR.OFFSET f v |>.wr R.HOST_REFUSE_ADDR.BAR2 f 1
  | none => s

/-- FORERUNNER_START: the start command of personality p starts its four tiles on one VCLK edge (R539, R575). [log DEDUCED 95] -/
def execForerunnerStart (p : Fin 4) (edge : Fin 2) (s : State) : Out' :=
  done s fun s =>
    let p := p.val
    if !s.persona p then s
    else if s.fl R.THS_STATUS.CONE_T 0 then s.personaFlag R.DEV_LEGACY.THERMAL_DISCARD p
    else if s.m.relocking || s.m.target.isSome || (personaTiles p).any (fun t => s.playing t || s.halted t) then s
    else s.each (personaTiles p) fun s t => s.tileStart t (s.edgeTap edge.val)

/-- FORERUNNER_STOP: the stop command acts as STOP with DRAIN = 0 (R575). [log DEDUCED 139] -/
def execForerunnerStop (p : Fin 4) (s : State) : Out' :=
  done s fun s => if !s.persona p.val then s else s.each (personaTiles p.val) fun s t => if s.playing t then s.tileStop t else s

/-- FORERUNNER_CALIBRATE: acts as CAL_CTL.REQ = 1 of quadrant p (R577). -/
def execForerunnerCalibrate (p : Fin 4) (s : State) : Out' := done s fun s => if !s.persona p.val then s else s.calReq p.val

/-- FORERUNNER_RESET: the tiles stop at their next vector boundary and the forerunner registers return to reset (R578). -/
def execForerunnerReset (p : Fin 4) (s : State) : Out' :=
  done s fun s =>
    if !s.persona p.val then s else
    let s := s.each (personaTiles p.val) fun s t => if s.playing t then s.tileStop t else s
    { s with legacy := { timing := smKeep (fun k => k / 65536 ≠ p.val) s.legacy.timing, levels := smKeep (fun k => k / 16384 ≠ p.val) s.legacy.levels } }

/-- A forerunner timing value in fine taps (R572): round(8.192 u). -/
def tapsOf (u : Nat) : Nat := (8192 * u + 500) / 1000

/-- The key of a timing value of a personality: item 0 to 5 an edge, 6 the format, 7 the period. -/
def timingKey (p set ch item : Nat) : Nat := ((p * 32 + set) * 256 + ch) * 8 + item

/-- A timing value as written; a period that was never written is the native default (R175). -/
def State.timingVal (s : State) (p set ch item : Nat) : Nat := smGet 0 s.legacy.timing (timingKey p set ch item)

/-- The period of a forerunner set in taps. -/
def State.legacyPeriod (s : State) (p set : Nat) : Nat :=
  let u := s.timingVal p set 0 7
  if u = 0 then 1024 else tapsOf u

/-- The native checks of R174 on one channel of a forerunner set. -/
def State.channelOk (s : State) (p set ch : Nat) : Bool :=
  laneCheck false (s.laneDecl (256 * p + ch)).delay (s.legacyPeriod p set) (s.timingVal p set ch 6) (fun e => tapsOf (s.timingVal p set ch e)) = 0

/-- Items of a native timing set written. -/
def State.putItems (s : State) (t : Nat) (l : List (Nat × Nat)) : State :=
  s.setPlay t { s.play t with sets := l.foldl (fun m e => smSet (setDefault e.1) m e.1 e.2) (s.play t).sets }

/-- The channels of a personality that a set has values for. -/
def State.timedChannels (s : State) (p set : Nat) : List Nat :=
  (List.range 256).filter fun ch => s.legacy.timing.any fun e => e.1 / 8 = (p * 32 + set) * 256 + ch

/-- The native set follows a channel's written values, or the period, where the native checks pass; otherwise it stays (R573). -/
def State.timingApply (s : State) (p set ch item : Nat) : State :=
  if item = 7 then
    if s.legacyPeriod p set < 2 ^ 23 && (s.timedChannels p set).all (s.channelOk p set) then
      s.each (personaTiles p) fun s t => s.putItems t [(set * 1024 + 512, s.legacyPeriod p set)]
    else s
  else if s.channelOk p set ch then
    s.putItems (4 * p + ch / 64) ((List.range 7).map fun w => (set * 1024 + 8 * (ch % 64) + w, if w < 6 then tapsOf (s.timingVal p set ch w) else s.timingVal p set ch 6))
  else s

/-- FORERUNNER_TIMING_WRITE: an edge (item 0 to 5), the format (6) or the period (7) of a forerunner set, in units of 10 ps (R572, R573). [log DEDUCED 95, 97; DESIGN CHOICE 96] -/
def execForerunnerTimingWrite (p : Fin 4) (set : Fin 16) (ch : Fin 256) (item : Fin 8) (units : Nat) (s : State) : Out' :=
  done s fun s =>
    let (p, set, item) := (p.val, set.val, item.val)
    let ch := if item = 7 then 0 else ch.val
    if !s.persona p then s
    else if (item = 7 && units < 250) || (item = 6 && 4 ≤ units) then s.personaRefuse.personaFlag R.DEV_LEGACY.REFUSED_PERIOD p
    else { s with legacy := { s.legacy with timing := smSet 0 s.legacy.timing (timingKey p set ch item) units } }.timingApply p set ch item

/-- The code of the span −1.5 V to +6.0 V nearest to a voltage in mV (R148, R574). -/
def codeOf (mv : Int) : Nat := min 65535 ((2 * (mv + 1500) * 65536 + 7500) / 15000).toNat

/-- A level DAC of a personality's lane stands on the span of R574: until its first write it holds the zero code of that span in every set. -/
def State.legacySpan (s : State) (l d : Nat) : State :=
  let span := s.rd R.LVL_SPAN.SPAN l
  if bits span (2 * d) 2 = 3 then s else
  let s := s.each (List.range 8) fun s n => s.wr (lvlFld d) (lvlInst l n d) 0x3333
  (tileFields (l / 64) (Reg.fields .LVL_SPAN) l (putBits span (2 * d) 2 3) 15 s).1

/-- FORERUNNER_LEVEL_WRITE: a level value in mV of DAC 0 to 7 of a channel's level set (R574). [log DEDUCED 98] -/
def execForerunnerLevelWrite (p : Fin 4) (ch : Fin 256) (set : Fin 8) (dac : Fin 8) (mv : Int) (s : State) : Out' :=
  done s fun s =>
    let l := 256 * p.val + ch.val
    let d := dac.val
    if !s.persona p.val then s else
    let s := s.legacySpan l d
    let code := codeOf mv
    let (s, refused) := if d % 2 = 0 then lvlSetHook .spi (lvlInst l set.val d) code 3 s else lvlSetHook .spi (lvlInst l set.val d) (65536 * code) 12 s
    if refused then s.personaRefuse
    else { s with legacy := { s.legacy with levels := smSet 0 s.legacy.levels (((p.val * 256 + ch.val) * 8 + set.val) * 8 + d) (mv + 32768).toNat } }

/-- FORERUNNER_VECTOR_WRITE: a BAR2 write to the windows of the personalities (R569, R570). -/
def execForerunnerVectorWrite (rq : Req) (off : Nat) (bytes : List Byte) (s : State) : Out' :=
  done s fun s => if s.reachable rq && s.m.mode = .legacy && off + bytes.length ≤ 0x10000000 then s.legacyWrite rq off (bytes.map (·.toNat)) else s

end Sys2Proof.Machine
end

