-- ==== Sys2Proof/Machine/HostAccess.lean ====
section
/-! DEFINITION. Any register word reached by its offset: what every write of it does (R8, R461, R599), what every read of it returns and
does (R8, R463 to R466), and the rows REGISTER_WRITE, RC_READ, RSN_LOW_READ and TDC_RES_READ. -/

namespace Sys2Proof.Machine

/-- The write of DEV_FUSE_HASH: the hash of the next PROGRAM (R76). -/
def fuseHashHook : Hook := fun _ i w be s => if R.DEV_FUSE_HASH.HASH.enabled be then (s.wr R.DEV_FUSE_HASH.HASH i w, false) else (s, false)

/-- The write of DEV_MOULD_ADDR_LO: the address is a multiple of 8, and bits [2:0] ignore writes. -/
def mouldAddrHook : Hook := fun _ i w be s => writeWord .DEV_MOULD_ADDR_LO i (w - w % 8) be s

/-- What a write of each register does: its own rule, or field by field (R599). -/
def regHook : Reg → Hook
  | .DEV_FUSE_HASH => fuseHashHook
  | .DEV_FUSE_CMD => fuseHook
  | .DEV_MOULD_CTL => mouldCtlHook
  | .DEV_MOULD_ADDR_LO => mouldAddrHook
  | .DEV_MODE => modeHook
  | .DEV_START => devStartHook 0
  | .SAG_START => sagStartHook 0
  | .FLS_LOCK => flsLockHook
  | .FLS_CMD => flsCmdHook
  | .FLS_BUF => flsBufHook
  | .THS_CONE => thsConeHook
  | .THS_READMIT => readmitHook
  | .HK_SUPPLY_LIM => supplyLimHook
  | .NVM_CMD => nvmCmdHook
  | .NVM_BUF => nvmBufHook
  | .SPR_CMD => sprCmdHook
  | .CAL_CTL => calCtlHook
  | .EVH_SRC_CFG => routeHook
  | .EVH_SRC_STATUS => srcStatusHook
  | .EVH_Q_CFG => queueCfgHook
  | .EVH_Q_RPTR => rptrHook
  | .EVH_Q_BASE_LO => queueBaseHook .EVH_Q_BASE_LO
  | .EVH_Q_BASE_HI => queueBaseHook .EVH_Q_BASE_HI
  | .TIME_ADDEND_HI => addendHook
  | .TIME_ADJ_TICKS => adjTicksHook
  | .TIME_STEP_CTL => stepCtlHook
  | .TIME_QUAL => qualHook
  | .TIME_PORT_RX => rxHook
  | .TIME_PORT_TX => txHook
  | .TEV_CTL => tevCtlHook
  | .TEV_CFG => tevCfgHook .TEV_CFG
  | .TEV_START_NS => tevCfgHook .TEV_START_NS
  | .TEV_START_SEC_LO => tevCfgHook .TEV_START_SEC_LO
  | .TEV_START_SEC_HI => tevCfgHook .TEV_START_SEC_HI
  | .TEV_START_FRAC => tevCfgHook .TEV_START_FRAC
  | .TEV_PERIOD_NS => tevCfgHook .TEV_PERIOD_NS
  | .TEV_PERIOD_FRAC => tevCfgHook .TEV_PERIOD_FRAC
  | .TEV_WIDTH => tevCfgHook .TEV_WIDTH
  | .SAG_ALLOT => allotHook
  | .SAG_QUOTA_A => quotaHook .SAG_QUOTA_A
  | .SAG_QUOTA_B => quotaHook .SAG_QUOTA_B
  | .HOST_DMA_CFG => dmaCfgHook
  | .HOST_DMA_BASE_LO => dmaBaseHook .HOST_DMA_BASE_LO
  | .HOST_DMA_BASE_HI => dmaBaseHook .HOST_DMA_BASE_HI
  | .RED_CMD => redCmdHook
  | .RED_GRP_AREA => grpAreaHook
  | .RED_GRP_RPTR => grpRptrHook
  | .TDC_CFG => tdcCfgHook
  | .TDC_CTX => tdcCtxHook
  | .TDC_CTL => tdcCtlHook
  | .SEQ_CTL => seqCtlHook
  | .SEQ_ENTRY => programHook .SEQ_ENTRY
  | .SEQ_START => programHook .SEQ_START
  | .SEQ_LOAD => loadHook
  | .SEQ_CNT => cntHook
  | .SEQ_TIMEOUT => timeoutHook
  | .CMP_CTL => cmpCtlHook
  | .CMP_LOG_CTL => logCtlHook
  | .CMP_LOG_AREA => logAreaHook
  | .CMP_SITE_CTL => siteCtlHook
  | .ACQ_CTL => acqCtlHook
  | .ACQ_RPTR => acqRptrHook
  | .ACQ_SRC => acqCfgHook .ACQ_SRC
  | .ACQ_CFG => acqCfgHook .ACQ_CFG
  | .ACQ_PRE => acqCfgHook .ACQ_PRE
  | .ACQ_POST => acqCfgHook .ACQ_POST
  | .ACQ_AUTO => acqCfgHook .ACQ_AUTO
  | .ACQ_AREA => acqCfgHook .ACQ_AREA
  | .ACQ_FO_LO => acqCfgHook .ACQ_FO_LO
  | .ACQ_FO_HI => acqCfgHook .ACQ_FO_HI
  | .ACQ_COND_CTL => acqCfgHook .ACQ_COND_CTL
  | .ACQ_COND_A => acqCfgHook .ACQ_COND_A
  | .ACQ_COND_B => acqCfgHook .ACQ_COND_B
  | .ACQ_PAT_H_LO => acqCfgHook .ACQ_PAT_H_LO
  | .ACQ_PAT_H_HI => acqCfgHook .ACQ_PAT_H_HI
  | .ACQ_PAT_L_LO => acqCfgHook .ACQ_PAT_L_LO
  | .ACQ_PAT_L_HI => acqCfgHook .ACQ_PAT_L_HI
  | .ACQ_PAT_MASK_LO => acqCfgHook .ACQ_PAT_MASK_LO
  | .ACQ_PAT_MASK_HI => acqCfgHook .ACQ_PAT_MASK_HI
  | .TS_LANE_EDGE => tsStageHook .TS_LANE_EDGE
  | .TS_LANE_MODE => tsStageHook .TS_LANE_MODE
  | .TS_STAGE_PERIOD => tsStageHook .TS_STAGE_PERIOD
  | .TS_COMMIT => tsCommitHook
  | .TS_NCO_FTW_LO => ncoLoHook
  | .TS_NCO_FTW_HI => ncoHiHook
  | .TS_NCO_CTL => ncoCtlHook
  | .SEG_RING_CFG => ringCfgHook
  | .SEG_RING_CTL => ringCtlHook
  | .SEG_JUMP => jumpHook
  | .SEG_SLOT => slotHook
  | .SEG_STORE_CFG => storeCfgHook
  | .SEG_CTLW_ADDR => ctlwAddrHook
  | .SEG_CTLW_DATA => ctlwDataHook
  | .LVL_SET => lvlSetHook
  | .LVL_SPAN => lvlSpanHook
  | .LVL_PPMU_CODE => lvlPpmuHook
  | .LVL_CFG => laneHook .LVL_CFG
  | .LVL_SLEW => laneHook .LVL_SLEW
  | .LANE_CTL => laneHook .LANE_CTL
  | .LANE_DRV_CTL => laneHook .LANE_DRV_CTL
  | .LANE_CMP_CTL => laneHook .LANE_CMP_CTL
  | .LANE_MON_CTL => laneHook .LANE_MON_CTL
  | .LANE_LOAD => laneLoadHook
  | .LANE_PPMU_CTL => ppmuHook
  | .LANE_STATUS => laneStatusHook
  | .LANE_FE => laneFeHook
  | .OCT_LVL_UPDATE => octUpdateHook
  | .OCT_MATRIX => matrixHook
  | .ADC_CTL => adcCtlHook
  | .ADC_SEQ_A => adcSeqAHook
  | .ADC_SEQ_B => adcSeqBHook
  | .SMU_FORCE_CODE => smuCodeHook
  | .SMU_FORCE_CFG => smuCfgHook
  | .SMU_FORCE_SLEW => smuSlewHook
  | .SMU_CTL => smuCtlHook
  | .SMU_VCLAMP => smuVclampHook
  | .SMU_MEAS => smuMeasHook
  | .SMU_MON_CTL => smuMonHook
  | .SMU_STATUS => smuStatusHook
  | .DPS_SET_CODE => dpsCodeHook
  | .DPS_SET_CFG => dpsCfgHook
  | .DPS_SET_SLEW => dpsSlewHook
  | .DPS_CTL => dpsHeldHook .DPS_CTL
  | .DPS_LIMIT => dpsHeldHook .DPS_LIMIT
  | .DPS_MON_I_CTL => dpsHeldHook .DPS_MON_I_CTL
  | .DPS_MON_I_THR => dpsHeldHook .DPS_MON_I_THR
  | .DPS_MON_V_CTL => dpsHeldHook .DPS_MON_V_CTL
  | .DPS_MON_V_THR => dpsHeldHook .DPS_MON_V_THR
  | .DPS_STATUS => dpsStatusHook
  | r => fun _ => writeWord r

/-- The class of the block that an offset without a register lies in; none in a reserved range of R36. [log DEDUCED 75] -/
def blockOwner (off : Nat) : Option Own :=
  if off < 0x10000 then some .dev
  else if off < 0x30000 then some .sag0
  else if off < 0x40000 then some .own
  else if off < 0x50000 then some .sag0
  else if off < 0x60400 then some .own
  else if off < 0x60800 then some (.group ((off - 0x60400) / 16))
  else if off < 0x61000 then some .own
  else if off < 0x62000 then some (.tile ((off - 0x61000) / 256))
  else if off < 0x70000 then some .own
  else if off < 0x80000 then none
  else if off < 0x100000 then some (.tile ((off - 0x80000) / 0x8000))
  else if off < 0x140000 then some (.octet ((off - 0x100000) / 0x800))
  else if off < 0x180000 then some (.octet ((off - 0x140000) / 0x800))
  else if off < 0x189000 then some (.dps ((off - 0x180000) / 0x400))
  else if off < 0x18C000 then none
  else if off < 0x190000 then some .sag0
  else none

/-- A class of block is visible to a requester. -/
def State.sees (s : State) (rq : Req) (c : Own) (write : Bool) : Bool :=
  match rq with
  | .fn f => s.fnMay f c write
  | .spi => !write

/-- A word window that the register table does not hold. -/
inductive WordWin where
  /-- The context window: the group of RED_CTX_PAGE (R369). -/
  | ctx
  /-- The receive slots of the timing ports (R443), by byte. -/
  | rx (p a : Nat)
  /-- The transmit slots (R444), by byte. -/
  | tx (p a : Nat)
  /-- The shards of LOG_PAGE (R567): slot and word. -/
  | log (slot w : Nat)
  /-- SAG_SELF: the reading function's own quota words. -/
  | self (w : Nat)
  /-- The MSI-X table and pending-bit array of the function (R455). -/
  | msix (w : Nat) | pba (w : Nat)
  deriving DecidableEq, Repr

/-- The window at a word offset. -/
def State.wordWin (s : State) (off : Nat) : Option WordWin :=
  if 0x68000 ≤ off && off < 0x6C000 then some .ctx
  else if 0x42000 ≤ off && off < 0x44000 then some (.rx ((off - 0x42000) / 0x1000) (off % 0x1000))
  else if 0x44000 ≤ off && off < 0x44800 then some (.tx ((off - 0x44000) / 0x400) (off % 0x400))
  else if 0x1C000 ≤ off && off < 0x1E000 then some (.log (256 * s.rd R.LOG_PAGE.PAGE 0 + (off - 0x1C000) / 32) (off % 32 / 4))
  else if 0x50200 ≤ off && off < 0x50210 then some (.self (off % 16 / 4))
  else if 0x5F000 ≤ off && off < 0x5F040 then some (.msix (off % 64 / 4))
  else if off = 0x5F800 || off = 0x5F804 then some (.pba (off % 8 / 4))
  else none

/-- The class of a window. -/
def State.winOwner (s : State) : WordWin → Own
  | .ctx => .group (s.rd R.RED_CTX_PAGE.GROUP 0)
  | .rx _ _ | .tx _ _ | .log _ _ => .sag0
  | .self _ | .msix _ | .pba _ => .own

/-- A write of a word of the MSI-X table (R459): word 3 of an entry holds its mask, and a masked vector that pends sends when it clears. -/
def State.msixWrite (s : State) (fn w v be : Nat) : State :=
  if w % 4 = 3 then
    if !bitAt be 0 then s
    else ({ s with host := { s.host with masks := smSet 1 s.host.masks (4 * fn + w / 4) (v % 2) } }).unmask fn (w / 4)
  else { s with host := { s.host with table := smSet 0 s.host.table (16 * fn + w) (mergeBytes (smGet 0 s.host.table (16 * fn + w)) v be) } }

/-- A write of a word of a window: the windows that only show hardware state ignore it (R599). -/
def winWriteFx (rq : Req) (off : Nat) (x : WordWin) (w be : Nat) : Fx := fun s =>
  match x with
  | .ctx => ctxWriteFx rq (off - 0x68000) w be s
  | .tx p a =>
    let old := leVal (smRead 0 (s.port p).tx a 4)
    (s.setPort p { s.port p with tx := smWrite 0 (s.port p).tx a (leBytes 4 (mergeBytes old w be)) }, false)
  | .msix k => (s.msixWrite (s.fnCopy rq) k w be, false)
  | .rx _ _ | .log _ _ | .self _ | .pba _ => (s, false)

/-- What a window word reads. -/
def State.winWord (s : State) (rq : Req) (off : Nat) (x : WordWin) : Nat :=
  match x with
  | .ctx => s.ctxWord (256 * s.rd R.RED_CTX_PAGE.GROUP 0 + (off - 0x68000) / 64) (off % 64 / 4)
  | .rx p a => leVal (smRead 0 (s.port p).rx a 4)
  | .tx p a => leVal (smRead 0 (s.port p).tx a 4)
  | .log slot w => leVal (((smGet .blank s.log.ring slot).bytes.drop (4 * w)).take 4)
  | .self w =>
    let k := match s.sagOf rq with | some k => k | none => 0
    let word (r : Reg) := r.fields.foldl (fun a f => a + s.rd f k * 2 ^ f.lo) 0
    [word .SAG_QUOTA_A, word .SAG_QUOTA_B, word .SAG_USE, word .SAG_OVER].getD w 0
  | .msix k => if k % 4 = 3 then smGet 1 s.host.masks (4 * s.fnCopy rq + k / 4) else smGet 0 s.host.table (16 * s.fnCopy rq + k)
  | .pba k => if k = 0 then (List.range 4).foldl (fun a e => a + smGet 0 s.host.pba (4 * s.fnCopy rq + e) * 2 ^ e) 0 else 0

/-- A 32-bit write of any word of BAR0 by a requester (R8, R9, R39, R461, R467, R599). [log DEDUCED 75] -/
def State.busWrite (s : State) (rq : Req) (off w be : Nat) : State :=
  let off := off - off % 4
  if !s.reachable rq || be % 16 = 0 then s
  else if 0x8000 ≤ off && off < 0x10000 then
    s.winAct rq off ((List.range 4).filterMap fun b => if bitAt be b then some (off + b, bits w (8 * b) 8) else none)
  else if (s.window off).isSome then s.windowWrite rq off w be
  else match decodeOffset off with
    | some (r, i) => s.hostAct rq r i fun j => regHook r rq j w be
    | none =>
      match s.wordWin off with
      | some x => if s.sees rq (s.winOwner x) true then
          let (s', ref) := winWriteFx rq off x w be s
          s'.when ref (·.refuse rq off false)
        else s.refuse rq off false
      | none => match blockOwner off with
        | some c => if s.sees rq c true then s else s.refuse rq off false
        | none => if off < 0x2000000 then s.refuse rq off false else s

/-- REGISTER_WRITE (R599): a 32-bit write at an offset, with its byte enables. [log DEDUCED 77] -/
def execRegisterWrite (rq : Req) (off : Nat) (w : Word) (be : Fin 16) (s : State) : Out' := done s (·.busWrite rq off w.toNat be.val)

/-- A word with a field's part replaced. -/
def setFld (f : Fld) (v w : Nat) : Nat := putBits w f.lo f.width v

/-- The fields of a register as they are stored; WO fields read 0 (R7). -/
def State.storedWord (s : State) (r : Reg) (j : Nat) : Nat := r.fields.foldl (fun a f => if f.acc = .wo then a else a + s.rd f j * 2 ^ f.lo) 0

/-- A field in which 0 reads as 1. [log DEDUCED 76] -/
def State.least1 (s : State) (f : Fld) (j w : Nat) : Nat := setFld f (max (s.rd f j) 1) w

/-- A source is visible to a requester (R413). -/
def State.seesSrc (s : State) (rq : Req) (n : Nat) : Bool := s.sagOf rq = some 0 || s.srcOwner n = s.sagOf rq

/-- A unit word that one entry of SAG_BLK_OWNER or SAG_GRP_OWNER shows: to saggar 0 and to its holder. -/
def State.seesUnit (s : State) (rq : Req) (held : Bool) (k : Nat) : Bool := s.sagOf rq = some 0 || (held && s.sagOf rq = some k)

/-- CLAMPED and MOVING of a DAC. -/
def State.dacMoving (s : State) (k : Nat) : Bool := (s.dac k).present ≠ (s.dac k).target

/-- The word of a register as a requester that sees it reads it: `i` the instance addressed and `j` the copy met. Fields that report
hardware state are formed from that state. [log DEDUCED 76] -/
def State.regWord (s : State) (rq : Req) (r : Reg) (i j : Nat) : Nat :=
  let w := s.storedWord r j
  match r with
  | .DEV_STRAP => setFld R.DEV_STRAP.EFFECTIVE ((List.range 6).foldl (fun a n => a + b2n (s.strap n) * 2 ^ n) 0) w
  | .DEV_MODE => setFld R.DEV_MODE.TRIP (b2n s.m.trip) (setFld R.DEV_MODE.MODE s.m.mode.code w)
  | .DEV_LEGACY => setFld R.DEV_LEGACY.PLAYING ((List.range 4).foldl (fun a p => a + b2n (s.m.mode = .legacy && s.personaPlays p) * 2 ^ p) 0) w
  | .TIME_NOW_NS => (s.shadow rq).ns
  | .TIME_NOW_SEC_LO => (s.shadow rq).sec % 2 ^ 32
  | .TIME_NOW_SEC_HI => (s.shadow rq).sec / 2 ^ 32
  | .TIME_QUAL => setFld R.TIME_QUAL.QUALITY s.quality w
  | .THS_STATUS => setFld R.THS_STATUS.CONE_S (b2n s.m.trip) w
  | .THS_CTL => s.least1 R.THS_CTL.RISE_LIMIT j w
  | .SPR_QUERY_RES => setFld R.SPR_QUERY_RES.PARTNER s.sprQuery.2 (setFld R.SPR_QUERY_RES.STATE s.sprQuery.1 w)
  | .LOG_STATUS => setFld R.LOG_STATUS.COUNT s.shardCount w
  | .LVL_CFG => setFld R.LVL_CFG.SET_IN_USE (s.setInUse j) w
  | .LVL_STATUS => (List.range 9).foldl (fun a d => putBits (putBits a d 1 (b2n (s.dac (9 * j + d)).clamped)) (9 + d) 1 (b2n (s.dacMoving (9 * j + d)))) w
  | .LVL_NOW => setFld R.LVL_NOW.PRESENT_B (if j % 5 = 4 then 0 else (s.dac (9 * (j / 5) + 2 * (j % 5) + 1)).present) (setFld R.LVL_NOW.PRESENT_A (s.dac (9 * (j / 5) + 2 * (j % 5))).present w)
  | .TS_STATUS => setFld R.TS_STATUS.ACCURACY (if s.unreferenced then 2 else if s.fl R.CAL_STATUS.FIRST_DONE (j / 4) then 0 else 1) w
  | .SEG_RING_CFG => s.least1 R.SEG_RING_CFG.SLOT_SIZE j w
  | .SEG_SLOT => if j % 256 < s.slotCount (j / 256) then w else 0
  | .SEG_CTLW_DATA =>
    let row := s.rd R.SEG_CTLW_ADDR.ROW j
    setFld R.SEG_CTLW_DATA.CTL_ODD (smGet 0 (s.store j).ctl (row + 1)) (setFld R.SEG_CTLW_DATA.CTL_EVEN (smGet 0 (s.store j).ctl row) w)
  | .SEG_RING_FILL => setFld R.SEG_RING_FILL.READY_COUNT (s.readyCount j) (setFld R.SEG_RING_FILL.SLOT_COUNT (s.slotCount j) w)
  | .SEQ_TIMEOUT => if j % 8 = 0 then 0 else w
  | .CMP_SITE_CTL | .CMP_SITE_FF_LO | .CMP_SITE_FF_HI | .CMP_SITE_FF_VA | .CMP_SITE_FF_INFO | .CMP_SITE_FAILV => if (s.slotSite j).isSome then w else 0
  | .CMP_SITE_STATUS => match s.slotSite j with
    | some d => setFld R.CMP_SITE_STATUS.VALID 1 (setFld R.CMP_SITE_STATUS.SITE d.site w)
    | none => 0
  | .ACQ_CFG => s.least1 R.ACQ_CFG.DEC j w
  | .ACQ_POST => s.least1 R.ACQ_POST.POST j w
  | .TDC_GATE => s.least1 R.TDC_GATE.GATE j w
  | .TDC_SPARE_STATUS => if j < 64 then 0 else w
  | .DPS_SPARE_STATUS => if j < 32 then 0 else w
  | .DPS_LIMIT => s.least1 R.DPS_LIMIT.DELAY j w
  | .DPS_STATUS => s.dpsStatus j
  | .DPS_SET_STATUS => let k := 11000 + j
    setFld R.DPS_SET_STATUS.MOVING (b2n (s.dacMoving k)) (setFld R.DPS_SET_STATUS.CLAMPED (b2n (s.dac k).clamped) (setFld R.DPS_SET_STATUS.PRESENT (s.dac k).present w))
  | .SMU_FORCE_STATUS => let k := 10000 + j
    setFld R.SMU_FORCE_STATUS.MOVING (b2n (s.dacMoving k)) (setFld R.SMU_FORCE_STATUS.CLAMPED (b2n (s.dac k).clamped) (setFld R.SMU_FORCE_STATUS.PRESENT (s.dac k).present w))
  | .RED_STATUS => setFld R.RED_STATUS.SPARE_IN_USE (b2n (s.inService (pipeKey 4) && !s.unavailable (pipeKey 4))) w
  | .EVH_Q_BASE_LO | .EVH_Q_BASE_HI | .EVH_Q_CFG | .EVH_Q_WPTR | .EVH_Q_RPTR | .EVH_Q_STATUS => if j % 4 < s.queuesOf (j / 4) then w else 0
  | .EVH_HOLDOFF => s.least1 R.EVH_HOLDOFF.PERIOD j w
  | .EVH_PEND => (List.range 32).foldl (fun a b => a + b2n ((s.src (32 * j + b)).state = 1 && s.seesSrc rq (32 * j + b)) * 2 ^ b) 0
  | .EVH_SRC_STATUS =>
    let x := s.src j
    let w := setFld R.EVH_SRC_STATUS.LIVE (b2n x.live) (setFld R.EVH_SRC_STATUS.CLAIMED (b2n (x.state = 2)) (setFld R.EVH_SRC_STATUS.PENDING (b2n (x.state = 1)) w))
    let w := setFld R.EVH_SRC_STATUS.COUNT_SAT (b2n x.sat) (setFld R.EVH_SRC_STATUS.LEVEL_AT_CLAIM (b2n x.levelAtClaim) (setFld R.EVH_SRC_STATUS.KIND (b2n (srcLevel j)) w))
    setFld R.EVH_SRC_STATUS.COUNT x.count w
  | .HOST_ID =>
    let f := s.fnCopy rq
    match s.sagOf rq with
    | some k => if f = 64 then 0 else setFld R.HOST_ID.BOUND 1 (setFld R.HOST_ID.FUNCTION (f % 16) (setFld R.HOST_ID.HALF (f / 16 % 2) (setFld R.HOST_ID.PORT (f / 32) k)))
    | none => setFld R.HOST_ID.FUNCTION (f % 16) (setFld R.HOST_ID.HALF (f / 16 % 2) (setFld R.HOST_ID.PORT (f / 32) 0))
  | .HOST_LINK =>
    let k := s.fnCopy rq / 16
    setFld R.HOST_LINK.DEGRADED (b2n (s.linkDegraded k)) (setFld R.HOST_LINK.WIDTH (s.link k).width (s.link k).speed)
  | .SAG_BLK_OWNER => if s.seesUnit rq (s.fl R.SAG_BLK_OWNER.ALLOTTED j) (s.rd R.SAG_BLK_OWNER.SAGGAR j) then setFld R.SAG_BLK_OWNER.IN_USE (b2n (s.blockInUse j)) w else 0
  | .SAG_GRP_OWNER => if s.seesUnit rq (s.fl R.SAG_GRP_OWNER.ALLOTTED j) (s.rd R.SAG_GRP_OWNER.SAGGAR j) then setFld R.SAG_GRP_OWNER.IN_USE (b2n (s.grpBusy j)) w else 0
  | .FLS_STATUS => setFld R.FLS_STATUS.WIDE (b2n s.flashWide) (setFld R.FLS_STATUS.SIZE_MISMATCH (b2n s.flashMismatch) w)
  | .FLS_CFG => s.least1 R.FLS_CFG.POLL_LIMIT j w
  | .CAL_CTL => s.least1 R.CAL_CTL.RUN_LIMIT j w
  | .CAL_STATUS =>
    let c := s.cal j
    let phase := if !c.running then 0 else if s.calPaused then 2 else 1
    setFld R.CAL_STATUS.UNITS_LEFT (c.todo.length + b2n c.cur.isSome) (setFld R.CAL_STATUS.STEP (match c.cur with | some u => u.1 | none => 0) (setFld R.CAL_STATUS.PHASE phase w))
  | .CAL_GLAZE => setFld R.CAL_GLAZE.GLAZING (min (s.glazingCount j) 65535) (s.least1 R.CAL_GLAZE.GLAZE_INTERVAL j w)
  | .CAL_QUERY_RES => let q := s.calQuery
    setFld R.CAL_QUERY_RES.RUN (q.1 % 65536) (setFld R.CAL_QUERY_RES.GLAZING (b2n q.2) (setFld R.CAL_QUERY_RES.RESULT (q.1 / 65536) w))
  | .LANE_FE =>
    if s.rd R.LANE_FE.OTHER_STATE j = 0 && s.onSpine j (1 - s.rd R.LANE_FE.ACTIVE_FE j) then setFld R.LANE_FE.OTHER_STATE 1 w else w
  | .LANE_PPMU_CTL => setFld R.LANE_PPMU_CTL.CONNECTED (b2n (s.ppmuOn j)) w
  | .LANE_MON => let x := s.lane j
    setFld R.LANE_MON.UNSETTLED_L (b2n x.unsetL) (setFld R.LANE_MON.UNSETTLED_H (b2n x.unsetH) (setFld R.LANE_MON.CL (b2n x.cl) (setFld R.LANE_MON.CH (b2n x.ch) w)))
  | .LANE_STATUS => let x := s.lane j
    let sup : Bool := s.leff R.LANE_CTL.LOAD_EN j = 1 && s.leff R.LANE_CTL.OFF_MODE j = 1
    setFld R.LANE_STATUS.SWING_CLASS (if s.playing (j / 64) then x.swing else s.swingClass j) (setFld R.LANE_STATUS.CONNECTED (b2n (x.closed && !s.inGapStep j)) (setFld R.LANE_STATUS.LOAD_SUPPRESSED (b2n sup) w))
  | .OCT_MATRIX => setFld R.OCT_MATRIX.BALL_ON (b2n (s.ballOn j)) (setFld R.OCT_MATRIX.LANES_ON (s.lanesOn j) w)
  | .SPIS_RESET_CAUSE => s.storedWord .DEV_RESET_CAUSE 0
  | .SPIS_TRIP => b2n s.m.trip
  | .SPIS_MIRROR => leVal (((smGet .blank s.log.mirror (i / 8)).bytes.drop (4 * (i % 8))).take 4)
  | _ => w

/-- The high half that pairs with an RSN low half (R466), with a number for its shadow. -/
def rsnHigh (r : Reg) (j : Nat) : Option (Reg × Nat) :=
  match r with
  | .CMP_CYCLE_LO => some (.CMP_CYCLE_HI, j)
  | .CMP_SITE_FF_LO => some (.CMP_SITE_FF_HI, 16 + j)
  | .CAL_LAST_TIME_LO => some (.CAL_LAST_TIME_HI, 2000 + j)
  | _ => none

/-- The number of the shadow of an RSN high half. -/
def rsnShadow (r : Reg) (j : Nat) : Option Nat :=
  match r with
  | .CMP_CYCLE_HI => some j
  | .CMP_SITE_FF_HI => some (16 + j)
  | .CAL_LAST_TIME_HI => some (2000 + j)
  | _ => none

/-- A shadow of a requester: 0 for none, else the snapshot plus 1. -/
def State.setRsn (s : State) (rq : Req) (n v : Nat) : State := { s with host := { s.host with rsn := smSet 0 s.host.rsn (4096 * reqNum rq + n) v } }

/-- A register of type RC. -/
def Reg.isRc (r : Reg) : Bool := r.fields.any fun f => f.acc = .rc

/-- The clears that a read of an RC register leaves (R464): each count is reduced by the value returned. -/
def State.rcClear (s : State) (r : Reg) (j v : Nat) : State :=
  (r.fields.filter fun f => f.acc = .rc).foldl (fun s f => s.wr f j (s.rd f j - f.part v)) s

/-- What reading a register word does beside the clears of R464: a snapshot, or the removal of the oldest result of a FIFO. [log DEDUCED 74] -/
def State.regRead (s : State) (rq : Req) (r : Reg) (i j : Nat) : State × Nat :=
  match r with
  | .TIME_NOW_FRAC => s.timeNowRead rq
  | .TX_STAMP_FRAC => s.txStampRead j
  | .ADC_FIFO => s.adcRead j
  | .SMU_FIFO => s.smuRead j
  | .TDC_RES_LO => s.tdcRead j
  | _ =>
    let v := s.regWord rq r i j
    match rsnHigh r j, rsnShadow r j with
    | some (h, n), _ => (s.setRsn rq n (s.regWord rq h i j + 1), v)
    | none, some n => match smGet 0 s.host.rsn (4096 * reqNum rq + n) with
      | 0 => (s, v)
      | x + 1 => (s.setRsn rq n 0, x)
    | none, none => (s, v)

/-- A read of any word by a requester: the state after it without the clears of R464, the word, and the RC register read, if it is one. [log DEDUCED 78] -/
def State.busRead (s : State) (rq : Req) (off : Nat) : State × Nat × Option (Reg × Nat) :=
  let off := off - off % 4
  if 0x8000 ≤ off && off < 0x10000 then
    if s.winMay rq then let (s', b) := s.winRead off 4; (s', leVal b, none) else (s, 0, none)
  else if (s.window off).isSome then (s, s.windowRead rq off, none)
  else match decodeOffset off with
    | some (r, i) =>
      if !s.mayRead rq r i then (s, 0, none)
      else
        let j := s.copyOf rq r i
        let (s', v) := s.regRead rq r i j
        (s', v, if r.isRc then some (r, j) else none)
    | none => match s.wordWin off with
      | some x => (s, if s.sees rq (s.winOwner x) false then s.winWord rq off x else 0, none)
      | none => (s, 0, none)

/-- The clears of R464 applied. [log DEDUCED 79] -/
def State.busClear (s : State) (c : Option (Reg × Nat)) (v : Nat) : State := match c with | some (r, j) => s.rcClear r j v | none => s

/-- A read by the host of a word whose register has a property: the word is returned and the read has its effects. -/
def State.hostRead (s : State) (rq : Req) (off : Nat) (p : Reg → Bool) : State :=
  match decodeOffset off with
  | some (r, _) =>
    if !p r || !s.reachable rq || 0x2000000 ≤ off then s
    else let (s', v, c) := s.busRead rq off; (s'.busClear c v).send (.word v)
  | none => s

/-- RC_READ: a read of an RC register (R464). -/
def execRcRead (rq : Req) (off : Nat) (s : State) : Out' := done s (·.hostRead rq off Reg.isRc)

/-- RSN_LOW_READ: a read of the low half of an RSN pair, which snapshots the high half; a read of the high half returns the snapshot and ends it (R466). [log DEDUCED 74] -/
def execRsnLowRead (rq : Req) (off : Nat) (s : State) : Out' := done s (·.hostRead rq off fun r => (rsnHigh r 0).isSome || (rsnShadow r 0).isSome)

/-- TDC_RES_READ: a read of TDC_RES_LO (R366). -/
def execTdcResRead (rq : Req) (i : Fin 68) (s : State) : Out' := readRow rq .TDC_RES_LO i.val (fun i s => s.tdcRead i) s

end Sys2Proof.Machine
end

