-- ==== Sys2Proof/Machine/Service.lean ====
section
/-! DEFINITION. The service port (R484 to R495): frames, their status byte, their commits and what they return. -/

namespace Sys2Proof.Machine

/-- The blocks of R491 in the BAR0 range: base, stride, instances, and the offset of the last implemented word of an instance. -/
def spiBlocks : List (Nat × Nat × Nat × Nat) :=
  [(0x0, 0x10000, 1, 0xFFFC), (0x10000, 0x10000, 1, 0xDFFC), (0x20000, 0x10000, 1, 0xC04), (0x30000, 0x10000, 1, 0x51FC),
   (0x40000, 0x10000, 1, 0x47FC), (0x50000, 0x10000, 1, 0xF804), (0x60000, 0x10000, 1, 0xBFFC)] ++
  [(0x80000, 0x8000, 16, 0x7FFC), (0x100000, 0x800, 128, 0x7FC), (0x140000, 0x100, 1024, 0x70), (0x180000, 0x400, 36, 0x38),
   (0x18C000, 0x800, 8, 0x438)] ++
  [(0x200000, 0x10000, 16, 0xFFFC), (0x300000, 0x8000, 16, 0x7FFC), (0x380000, 0x4000, 16, 0x3FFC), (0x3C0000, 0x8000, 1, 0x7FFC),
   (0x3C8000, 0x8000, 1, 0x7FFC), (0x2000000, 0x400, 1, 0x2FC)]

/-- The address of the last implemented word of the block that an address lies in; none in a reserved range (R491). -/
def spiLast (a : Nat) : Option Nat :=
  spiBlocks.findSome? fun (b, st, n, last) => if b ≤ a && a < b + st * n then some (b + (a - b) / st * st + last) else none

/-- An address is past the last implemented word of the block in which its frame began (R491). -/
def spiPast (start a : Nat) : Bool := match spiLast start with | some l => l < a | none => false

/-- Frames are being committed, so a new frame is ignored (R488). -/
def State.spiBusy (s : State) : Bool := s.spi.commit.isSome

/-- The status byte (R487). -/
def State.spiStatus (s : State) : Nat := s.rd R.SPIS_STATUS.LAST 0 % 32 + 32 * b2n s.spiBusy + 64 * b2n s.m.trip

/-- A frame that is taken: its bits of the status byte and its cause (R487, R493). [log DEDUCED 84] -/
def State.spiTaken (s : State) (last cause : Nat) : State :=
  let s := (s.bump R.SPIS_COUNT.FRAMES 0 1).when (cause ≠ 0) (·.bump R.SPIS_COUNT.REJECTS 0 1)
  (s.wr R.SPIS_STATUS.LAST 0 last).wr R.SPIS_STATUS.REJECT_CAUSE 0 cause

/-- A frame: ignored whole while BUSY, with `n` bytes of 0x00 after its status byte; otherwise `f` of the state that has shifted nothing out yet. -/
def spiFrame (n : Nat) (f : State → State) (s : State) : Out' :=
  done s fun s => if s.spiBusy then s.send (.data (s.spiStatus :: List.replicate n 0)) else f s

/-- The reasons to reject a frame with an address: the lowest that applies (R493). -/
def spiCause (header ragged misaligned long : Bool) : Nat := if header then 2 else if ragged then 1 else if misaligned then 4 else if long then 5 else 0

/-- The big-endian words of a byte list. -/
def beWords : List Nat → List Nat
  | a :: b :: c :: d :: r => beVal [a, b, c, d] :: beWords r
  | _ => []

/-- One committed word (R485, R494): whether the write is not permitted, and whether it found BAR0 unavailable. [log DEDUCED 82] -/
def State.spiWrite (s : State) (a w : Nat) : State × Bool × Bool :=
  if a < 0x2000000 && !s.alive then (s, false, true)
  else if 0x8000 ≤ a && a < 0x10000 then ((s.winWrite .spi a ((List.range 4).map fun b => (a + b, bits w (8 * b) 8))).1, false, false)
  else match decodeOffset a with
    | some (r, i) => if s.mayWrite .spi r i then ((regHook r .spi (s.copyOf .spi r i) w 15 s).1, false, false) else (s, true, false)
    | none => (s, true, false)

/-- SPI_WRITE_FRAME: the bytes after the command byte, and the bits of an incomplete byte (R488, R491, R493). -/
def execSpiWriteFrame (bytes : List Byte) (extraBits : Fin 8) (s : State) : Out' :=
  spiFrame bytes.length (fun s =>
    let b := bytes.map BitVec.toNat
    let a := beVal (b.take 4)
    let data := b.drop 4
    let cause := spiCause (b.length < 4) (data.length % 4 ≠ 0 || extraBits.val ≠ 0) (a % 4 ≠ 0) (data.length > 256)
    let s' := s.send (.data (s.spiStatus :: List.replicate bytes.length 0))
    if cause ≠ 0 then s'.spiTaken 2 cause
    else
      let words := (beWords data).zipIdx.map fun e => (a + 4 * e.2, e.1)
      if words.isEmpty then s'.spiTaken 1 0
      else
        let s' := s'.spiTaken 0 0
        { s' with spi := { commit := some (words.filter fun e => !spiPast a e.1), overrun := words.any fun e => spiPast a e.1 } }) s

/-- SPI_COMMIT_DONE: the words of the frame are committed in order (R488, R494). [log DEDUCED 82, 83] -/
def execSpiCommitDone (s : State) : Out' :=
  done s fun s =>
    match s.spi.commit with
    | none => s
    | some l =>
      let past := s.spi.overrun
      let s := { s with spi := ⟨none, false⟩ }
      let (s, refused, down) := l.foldl (fun (x : State × Bool × Bool) e =>
        let (s, r, d) := x.1.spiWrite e.1 e.2
        (s.when r (·.bump R.SPIS_COUNT.REFUSED 0 1), x.2.1 || r, x.2.2 || d)) (s, false, false)
      s.wr R.SPIS_STATUS.LAST 0 (1 + 4 * b2n past + 8 * b2n refused + 16 * b2n down)

/-- One word of a READ frame (R485, R491, R494): the state after what reading it does, the word, its RC register, and whether BAR0 was unavailable. -/
def State.spiRead (s : State) (start a : Nat) : State × Nat × Option (Reg × Nat) × Bool :=
  if spiPast start a then (s, 0, none, false)
  else if a < 0x2000000 && !s.alive then (s, 0, none, true)
  else if a < 0x2000400 then let (s', v, c) := s.busRead .spi a; (s', v, c, false)
  else (s, 0, none, false)

/-- The words of a READ frame in turn: the state, the words, the RC registers with the values returned, and DOWN. Words after the 64th read 0. -/
def State.spiWords (s : State) (start : Nat) : Nat → Nat → State × List Nat × List (Option (Reg × Nat) × Nat) × Bool
  | 0, _ => (s, [], [], false)
  | n + 1, k =>
    let (s1, v, c, d) := if k < 64 then s.spiRead start (start + 4 * k) else (s, 0, none, false)
    let (s2, vs, cs, ds) := s1.spiWords start n (k + 1)
    (s2, v :: vs, (c, v) :: cs, d || ds)

/-- Free words, where the manual states no data. [log DESIGN CHOICE 80] -/
def State.freeWords (s : State) : Nat → State × List Nat
  | 0 => (s, [])
  | n + 1 => let (v, s') := s.draw 7; let (s'', l) := s'.freeWords n; (s'', v % 2 ^ 32 :: l)

/-- SPI_READ_FRAME: the address bytes, the data bytes shifted after the markers, and the bits of an incomplete data byte (R489 to R494). Only words
returned whole have the effects of their reading; the clears of R464 wait for a frame that completes whole. The data of a misaligned frame
is a free value. [log DEDUCED 79, 81; DESIGN CHOICE 80] -/
def execSpiReadFrame (bytes : List Byte) (len : Nat) (extraBits : Fin 8) (s : State) : Out' :=
  spiFrame (4 + len) (fun s =>
    let b := bytes.map BitVec.toNat
    let a := beVal (b.take 4)
    let header : Bool := b.length < 4
    let n := len / 4
    let cause := spiCause header (len % 4 ≠ 0 || extraBits.val ≠ 0) (a % 4 ≠ 0) (n > 64)
    let status := s.spiStatus
    if header then (s.send (.data [status])).spiTaken 2 2
    else if a % 4 ≠ 0 then
      let (s', l) := s.freeWords (n + 1)
      (s'.send (.data (status :: (l.flatMap (beBytes 4)).take len))).spiTaken 2 cause
    else
      let (s', vs, cs, down) := s.spiWords a n 0
      let tail := if n < 64 then (s'.spiRead a (a + 4 * n)).2.1 else 0
      let s' := s'.send (.data (status :: ((vs ++ [tail]).flatMap (beBytes 4)).take len))
      let past := (List.range n).any fun k => k < 64 && spiPast a (a + 4 * k)
      let flags := 4 * b2n past + 16 * b2n down
      if cause ≠ 0 then s'.spiTaken (2 + flags) cause
      else (cs.foldl (fun s c => s.busClear c.1 c.2) s').spiTaken (1 + flags) 0) s

/-- SPI_STATUS_FRAME (R487). -/
def execSpiStatusFrame (s : State) : Out' := spiFrame 0 (fun s => (s.send (.data [s.spiStatus])).spiTaken 1 0) s

/-- SPI_RESERVED_COMMAND (R486, R493): a command byte other than those of R486. -/
def execSpiReservedCommand (cmd : Byte) (s : State) : Out' :=
  spiFrame 0 (fun s => if cmd.toNat = 2 || cmd.toNat = 3 || cmd.toNat = 5 then s else (s.send (.data [s.spiStatus])).spiTaken 2 3) s

/-- SPI_HEADER_FRAME: SPIS_CS_N rises after 0 to 7 bits of the command byte (R492, R493). -/
def execSpiHeaderFrame (_bitsSent : Fin 8) (s : State) : Out' := done s fun s => if s.spiBusy then s else s.spiTaken 2 2

end Sys2Proof.Machine
end

