-- ==== Sys2Proof/Machine/Dispatch.lean ====
section
/-! DEFINITION. The commands' dispatch: one arm for each constructor of Instr, in the order of the opcode table. -/

namespace Sys2Proof.Machine

def exec (i : Instr) (s : State) : Host.Outcome State Fault Refusal :=
  match i with
  | .aonReset => Sys2Proof.Machine.execAonReset s
  | .porstAssert => Sys2Proof.Machine.execPorstAssert s
  | .porstRelease a => Sys2Proof.Machine.execPorstRelease a s
  | .flashIdentify a b => Sys2Proof.Machine.execFlashIdentify a b s
  | .supplyOrderDeparture => Sys2Proof.Machine.execSupplyOrderDeparture s
  | .railFail a => Sys2Proof.Machine.execRailFail a s
  | .softReset a b => Sys2Proof.Machine.execSoftReset a b s
  | .softResetComplete => Sys2Proof.Machine.execSoftResetComplete s
  | .functionLevelReset a => Sys2Proof.Machine.execFunctionLevelReset a s
  | .hotReset a b => Sys2Proof.Machine.execHotReset a b s
  | .d3hotEntry a => Sys2Proof.Machine.execD3hotEntry a s
  | .refLost => Sys2Proof.Machine.execRefLost s
  | .refPresent => Sys2Proof.Machine.execRefPresent s
  | .relockStart => Sys2Proof.Machine.execRelockStart s
  | .relockDone => Sys2Proof.Machine.execRelockDone s
  | .pllLock => Sys2Proof.Machine.execPllLock s
  | .mouldStart a => Sys2Proof.Machine.execMouldStart a s
  | .mouldAbort a => Sys2Proof.Machine.execMouldAbort a s
  | .imageReadDone a b => Sys2Proof.Machine.execImageReadDone a b s
  | .fuseProgram a b => Sys2Proof.Machine.execFuseProgram a b s
  | .fuseRevoke a b => Sys2Proof.Machine.execFuseRevoke a b s
  | .fuseCmdDone => Sys2Proof.Machine.execFuseCmdDone s
  | .modeReqService a b => Sys2Proof.Machine.execModeReqService a b s
  | .modeReqIdle a b => Sys2Proof.Machine.execModeReqIdle a b s
  | .modeReqRun a b => Sys2Proof.Machine.execModeReqRun a b s
  | .transitionDone a => Sys2Proof.Machine.execTransitionDone a s
  | .startupStepDone a b c => Sys2Proof.Machine.execStartupStepDone a b s c
  | .devStartGo a b c => Sys2Proof.Machine.execDevStartGo a b c s
  | .armedStart a b => Sys2Proof.Machine.execArmedStart a b s
  | .devStartCancel a b => Sys2Proof.Machine.execDevStartCancel a b s
  | .sagStartGo a b c => Sys2Proof.Machine.execSagStartGo a b c s
  | .sagStartCancel a b => Sys2Proof.Machine.execSagStartCancel a b s
  | .registerWrite a b c d => Sys2Proof.Machine.execRegisterWrite a b c d s
  | .badSizeRequest a b c => Sys2Proof.Machine.execBadSizeRequest a b c s
  | .unsupportedRequest a => Sys2Proof.Machine.execUnsupportedRequest a s
  | .poisonedTlpReceived a b c => Sys2Proof.Machine.execPoisonedTlpReceived a b c s
  | .rcRead a b => Sys2Proof.Machine.execRcRead a b s
  | .rsnLowRead a b => Sys2Proof.Machine.execRsnLowRead a b s
  | .drvTripClear a b c => Sys2Proof.Machine.execDrvTripClear a b c s
  | .driverTrip a => Sys2Proof.Machine.execDriverTrip a s
  | .comparatorChange a b => Sys2Proof.Machine.execComparatorChange a b s
  | .clampHit a => Sys2Proof.Machine.execClampHit a s
  | .laneSwapReq a b c => Sys2Proof.Machine.execLaneSwapReq a b c s
  | .handoverStart a => Sys2Proof.Machine.execHandoverStart a s
  | .handoverDone a => Sys2Proof.Machine.execHandoverDone a s
  | .ppmuConnectWrite a b c => Sys2Proof.Machine.execPpmuConnectWrite a b c s
  | .ppmuCompliance a b => Sys2Proof.Machine.execPpmuCompliance a b s
  | .dacTick => Sys2Proof.Machine.execDacTick s
  | .dischargeClampEnd a => Sys2Proof.Machine.execDischargeClampEnd a s
  | .updateAllGo a b c => Sys2Proof.Machine.execUpdateAllGo a b c s
  | .tsCommit a b c => Sys2Proof.Machine.execTsCommit a b c s
  | .tsCommitDone a => Sys2Proof.Machine.execTsCommitDone a s
  | .tsFetch a b c => Sys2Proof.Machine.execTsFetch a b c s
  | .ncoFtwCommit a b c d => Sys2Proof.Machine.execNcoFtwCommit a b c d s
  | .vectorRead a => Sys2Proof.Machine.execVectorRead a s
  | .successorStart a => Sys2Proof.Machine.execSuccessorStart a s
  | .tileIdleReturn a => Sys2Proof.Machine.execTileIdleReturn a s
  | .compareResult a b c d => Sys2Proof.Machine.execCompareResult a b c d s
  | .failRecordForm a => Sys2Proof.Machine.execFailRecordForm a s
  | .failLogWrite a => Sys2Proof.Machine.execFailLogWrite a s
  | .clearAll a b => Sys2Proof.Machine.execClearAll a b s
  | .clearFail a b c d => Sys2Proof.Machine.execClearFail a b c d s
  | .clearTb a b c d => Sys2Proof.Machine.execClearTb a b c d s
  | .logArm a b c => Sys2Proof.Machine.execLogArm a b c s
  | .logDisarm a b c => Sys2Proof.Machine.execLogDisarm a b c s
  | .logAreaWrite a b c => Sys2Proof.Machine.execLogAreaWrite a b c s
  | .bar2VectorWrite a b c => Sys2Proof.Machine.execBar2VectorWrite a b c s
  | .bar2CaptureWrite a b c => Sys2Proof.Machine.execBar2CaptureWrite a b c s
  | .bar2Read a b c => Sys2Proof.Machine.execBar2Read a b c s
  | .ctlwDataWrite a b c d => Sys2Proof.Machine.execCtlwDataWrite a b c d s
  | .storeCfgWrite a b c => Sys2Proof.Machine.execStoreCfgWrite a b c s
  | .scrubRow a => Sys2Proof.Machine.execScrubRow a s
  | .storeWindowWrite a b c => Sys2Proof.Machine.execStoreWindowWrite a b c s
  | .step a => Sys2Proof.Machine.execStep a s
  | .jump a => Sys2Proof.Machine.execJump a s
  | .branch a => Sys2Proof.Machine.execBranch a s
  | .loop a => Sys2Proof.Machine.execLoop a s
  | .cntLoadImm a => Sys2Proof.Machine.execCntLoadImm a s
  | .cntLoadCinit a => Sys2Proof.Machine.execCntLoadCinit a s
  | .cntIncrement a => Sys2Proof.Machine.execCntIncrement a s
  | .cntDecrement a => Sys2Proof.Machine.execCntDecrement a s
  | .cntSnapshot a => Sys2Proof.Machine.execCntSnapshot a s
  | .play a => Sys2Proof.Machine.execPlay a s
  | .wait a => Sys2Proof.Machine.execWait a s
  | .waitConditionMet a => Sys2Proof.Machine.execWaitConditionMet a s
  | .waitTimeout a => Sys2Proof.Machine.execWaitTimeout a s
  | .waitWake a => Sys2Proof.Machine.execWaitWake a s
  | .setLset a => Sys2Proof.Machine.execSetLset a s
  | .updateAll a => Sys2Proof.Machine.execUpdateAll a s
  | .measureOpen a => Sys2Proof.Machine.execMeasureOpen a s
  | .measureClose a => Sys2Proof.Machine.execMeasureClose a s
  | .yield a => Sys2Proof.Machine.execYield a s
  | .eventVector a => Sys2Proof.Machine.execEventVector a s
  | .rete a => Sys2Proof.Machine.execRete a s
  | .stopDrain a => Sys2Proof.Machine.execStopDrain a s
  | .stop a => Sys2Proof.Machine.execStop a s
  | .atomicBegin a => Sys2Proof.Machine.execAtomicBegin a s
  | .atomicEnd a => Sys2Proof.Machine.execAtomicEnd a s
  | .mcTrap a => Sys2Proof.Machine.execMcTrap a s
  | .watchdog a => Sys2Proof.Machine.execWatchdog a s
  | .nanoWordEffect a => Sys2Proof.Machine.execNanoWordEffect a s
  | .loaderCheck a b c => Sys2Proof.Machine.execLoaderCheck a b c s
  | .loaderCheckDone a => Sys2Proof.Machine.execLoaderCheckDone a s
  | .seqScrub a b c => Sys2Proof.Machine.execSeqScrub a b c s
  | .seqScrubDone a b => Sys2Proof.Machine.execSeqScrubDone a b s
  | .jumpRequestGo a b c => Sys2Proof.Machine.execJumpRequestGo a b c s
  | .jumpSrcEdge a => Sys2Proof.Machine.execJumpSrcEdge a s
  | .ringReset a b => Sys2Proof.Machine.execRingReset a b s
  | .ringCfgWrite a b c => Sys2Proof.Machine.execRingCfgWrite a b c s
  | .slotWrite a b c d => Sys2Proof.Machine.execSlotWrite a b c d s
  | .octMatrixWrite a b c => Sys2Proof.Machine.execOctMatrixWrite a b c s
  | .smuCompliance a b => Sys2Proof.Machine.execSmuCompliance a b s
  | .smuSenseFault a => Sys2Proof.Machine.execSmuSenseFault a s
  | .smuSenseRestore a b c => Sys2Proof.Machine.execSmuSenseRestore a b c s
  | .adcGo a b c => Sys2Proof.Machine.execAdcGo a b c s
  | .adcStop a b c => Sys2Proof.Machine.execAdcStop a b c s
  | .adcSlot a b c => Sys2Proof.Machine.execAdcSlot a b s c
  | .adcFifoRead a b => Sys2Proof.Machine.execAdcFifoRead a b s
  | .smuConversion a b => Sys2Proof.Machine.execSmuConversion a b s
  | .smuFifoRead a b => Sys2Proof.Machine.execSmuFifoRead a b s
  | .dpsOutEn a b c => Sys2Proof.Machine.execDpsOutEn a b c s
  | .dpsSample a b c d => Sys2Proof.Machine.execDpsSample a b c d s
  | .dpsHwTrip a => Sys2Proof.Machine.execDpsHwTrip a s
  | .dpsSenseFault a => Sys2Proof.Machine.execDpsSenseFault a s
  | .dpsSenseRestore a b c => Sys2Proof.Machine.execDpsSenseRestore a b c s
  | .dpsRestart a b c => Sys2Proof.Machine.execDpsRestart a b c s
  | .dpsPowerEstimate a => Sys2Proof.Machine.execDpsPowerEstimate a s
  | .tdcArm a b c => Sys2Proof.Machine.execTdcArm a b c s
  | .tdcDisarm a b c => Sys2Proof.Machine.execTdcDisarm a b c s
  | .tdcStartEdge a b => Sys2Proof.Machine.execTdcStartEdge a b s
  | .tdcStopEdge a b => Sys2Proof.Machine.execTdcStopEdge a b s
  | .tdcGateClose a => Sys2Proof.Machine.execTdcGateClose a s
  | .tdcOverrange a => Sys2Proof.Machine.execTdcOverrange a s
  | .tdcDeadTimeEnd a => Sys2Proof.Machine.execTdcDeadTimeEnd a s
  | .tdcResRead a b => Sys2Proof.Machine.execTdcResRead a b s
  | .redOpen a b => Sys2Proof.Machine.execRedOpen a b s
  | .redClose a b => Sys2Proof.Machine.execRedClose a b s
  | .redAbort a b => Sys2Proof.Machine.execRedAbort a b s
  | .contextUpdate residue => Sys2Proof.Machine.execContextUpdate s residue
  | .resultRecordWrite a => Sys2Proof.Machine.execResultRecordWrite a s
  | .acqArm a b c => Sys2Proof.Machine.execAcqArm a b c s
  | .acqDisarm a b c => Sys2Proof.Machine.execAcqDisarm a b c s
  | .acqForce a b c => Sys2Proof.Machine.execAcqForce a b c s
  | .armingDone a => Sys2Proof.Machine.execArmingDone a s
  | .acqSampleEvaluate a => Sys2Proof.Machine.execAcqSampleEvaluate a s
  | .acqAutoTimeout a => Sys2Proof.Machine.execAcqAutoTimeout a s
  | .acqFrameClose a => Sys2Proof.Machine.execAcqFrameClose a s
  | .acqRptrWrite a b c => Sys2Proof.Machine.execAcqRptrWrite a b c s
  | .eventArrival a => Sys2Proof.Machine.execEventArrival a s
  | .eventSet a b => Sys2Proof.Machine.execEventSet a b s
  | .eventClear a b => Sys2Proof.Machine.execEventClear a b s
  | .routeWrite a b c => Sys2Proof.Machine.execRouteWrite a b c s
  | .queueRecordForm a b => Sys2Proof.Machine.execQueueRecordForm a b s
  | .queueWriteError a b => Sys2Proof.Machine.execQueueWriteError a b s
  | .evhQRptrWrite a b c => Sys2Proof.Machine.execEvhQRptrWrite a b c s
  | .evhQEnable a b c => Sys2Proof.Machine.execEvhQEnable a b c s
  | .evhQDisable a b c => Sys2Proof.Machine.execEvhQDisable a b c s
  | .holdoffExpire a => Sys2Proof.Machine.execHoldoffExpire a s
  | .msixMaskClear a b => Sys2Proof.Machine.execMsixMaskClear a b s
  | .timeNowRead a => Sys2Proof.Machine.execTimeNowRead a s
  | .addendCommit a b => Sys2Proof.Machine.execAddendCommit a b s
  | .timeAdjStart a b => Sys2Proof.Machine.execTimeAdjStart a b s
  | .timeAdjEnd => Sys2Proof.Machine.execTimeAdjEnd s
  | .timeStepGo a b => Sys2Proof.Machine.execTimeStepGo a b s
  | .timeStepApply => Sys2Proof.Machine.execTimeStepApply s
  | .timeQualWrite a b => Sys2Proof.Machine.execTimeQualWrite a b s
  | .refresh a b => Sys2Proof.Machine.execRefresh a b s
  | .syncTimeout => Sys2Proof.Machine.execSyncTimeout s
  | .portLinkChange a b => Sys2Proof.Machine.execPortLinkChange a b s
  | .frameReceive a b c d => Sys2Proof.Machine.execFrameReceive a b c d s
  | .rxPop a b => Sys2Proof.Machine.execRxPop a b s
  | .txGo a b c => Sys2Proof.Machine.execTxGo a b c s
  | .txDone a b => Sys2Proof.Machine.execTxDone a b s
  | .txStampRead a b => Sys2Proof.Machine.execTxStampRead a b s
  | .tevArm a b c => Sys2Proof.Machine.execTevArm a b c s
  | .tevDisarm a b c => Sys2Proof.Machine.execTevDisarm a b c s
  | .tevFire a => Sys2Proof.Machine.execTevFire a s
  | .tevPulseEnd a => Sys2Proof.Machine.execTevPulseEnd a s
  | .quotaWrite a b c d => Sys2Proof.Machine.execQuotaWrite a b c d s
  | .allot a b => Sys2Proof.Machine.execAllot a b s
  | .release a b => Sys2Proof.Machine.execRelease a b s
  | .blockClearDone a => Sys2Proof.Machine.execBlockClearDone a s
  | .groupRelease a => Sys2Proof.Machine.execGroupRelease a s
  | .dmaRingEnable a b c => Sys2Proof.Machine.execDmaRingEnable a b c s
  | .dmaRingDisable a b c => Sys2Proof.Machine.execDmaRingDisable a b c s
  | .dmaTailWrite a b c => Sys2Proof.Machine.execDmaTailWrite a b c s
  | .nop a b c => Sys2Proof.Machine.execNop a b c s
  | .streamRefill a b c d => Sys2Proof.Machine.execStreamRefill a b c d s
  | .residentLoad a b c d => Sys2Proof.Machine.execResidentLoad a b c d s
  | .upload a b c => Sys2Proof.Machine.execUpload a b c s
  | .descriptorComplete a b => Sys2Proof.Machine.execDescriptorComplete a b s
  | .dmaHostError a b c => Sys2Proof.Machine.execDmaHostError a b c s
  | .dmaArbitrationFrame => Sys2Proof.Machine.execDmaArbitrationFrame s
  | .spiWriteFrame a b => Sys2Proof.Machine.execSpiWriteFrame a b s
  | .spiReadFrame a b c => Sys2Proof.Machine.execSpiReadFrame a b c s
  | .spiStatusFrame => Sys2Proof.Machine.execSpiStatusFrame s
  | .spiReservedCommand a => Sys2Proof.Machine.execSpiReservedCommand a s
  | .spiCommitDone => Sys2Proof.Machine.execSpiCommitDone s
  | .flashLockReq a => Sys2Proof.Machine.execFlashLockReq a s
  | .flashLockRelease a => Sys2Proof.Machine.execFlashLockRelease a s
  | .flashCmdGo a b => Sys2Proof.Machine.execFlashCmdGo a b s
  | .flashCmdDone a b => Sys2Proof.Machine.execFlashCmdDone a b s
  | .flashWindowRead a b c => Sys2Proof.Machine.execFlashWindowRead a b c s
  | .flashWindowWrite a b c => Sys2Proof.Machine.execFlashWindowWrite a b c s
  | .flashProgramDone a => Sys2Proof.Machine.execFlashProgramDone a s
  | .flashPollTimeout a => Sys2Proof.Machine.execFlashPollTimeout a s
  | .calReq a b c => Sys2Proof.Machine.execCalReq a b c s
  | .calAbort a b c => Sys2Proof.Machine.execCalAbort a b c s
  | .calStepDone a b c d => Sys2Proof.Machine.execCalStepDone a b c d s
  | .calRetry a b c d => Sys2Proof.Machine.execCalRetry a b c d s
  | .calRunLimit a => Sys2Proof.Machine.execCalRunLimit a s
  | .calBudgetExpire => Sys2Proof.Machine.execCalBudgetExpire s
  | .glazeStep a => Sys2Proof.Machine.execGlazeStep a s
  | .hkRound a b c => Sys2Proof.Machine.execHkRound a b c s
  | .sensorReadmit a b => Sys2Proof.Machine.execSensorReadmit a b s
  | .markWorn a b => Sys2Proof.Machine.execMarkWorn a b s
  | .markFailed a b => Sys2Proof.Machine.execMarkFailed a b s
  | .sprSelfTest a b => Sys2Proof.Machine.execSprSelfTest a b s
  | .selfTestDone a => Sys2Proof.Machine.execSelfTestDone a s
  | .spareIn a => Sys2Proof.Machine.execSpareIn a s
  | .repairMapWrite => Sys2Proof.Machine.execRepairMapWrite s
  | .nvmRead a b => Sys2Proof.Machine.execNvmRead a b s
  | .nvmUserWrite a b => Sys2Proof.Machine.execNvmUserWrite a b s
  | .nvmWriteDone a => Sys2Proof.Machine.execNvmWriteDone a s
  | .shardWrite => Sys2Proof.Machine.execShardWrite s
  | .forerunnerStart a b => Sys2Proof.Machine.execForerunnerStart a b s
  | .forerunnerStop a => Sys2Proof.Machine.execForerunnerStop a s
  | .forerunnerCalibrate a => Sys2Proof.Machine.execForerunnerCalibrate a s
  | .forerunnerReset a => Sys2Proof.Machine.execForerunnerReset a s
  | .forerunnerTimingWrite a b c d e => Sys2Proof.Machine.execForerunnerTimingWrite a b c d e s
  | .forerunnerLevelWrite a b c d e => Sys2Proof.Machine.execForerunnerLevelWrite a b c d e s
  | .forerunnerVectorWrite a b c => Sys2Proof.Machine.execForerunnerVectorWrite a b c s
  | .timeTick => Sys2Proof.Machine.execTimeTick s
  | .comparatorSample a => Sys2Proof.Machine.execComparatorSample a s
  | .rsvClass a => Sys2Proof.Machine.execRsvClass a s
  | .pcieLinkTrained a b c => Sys2Proof.Machine.execPcieLinkTrained a b c s
  | .vfEnable a b c => Sys2Proof.Machine.execVfEnable a b c s
  | .railGood a => Sys2Proof.Machine.execRailGood a s
  | .spiHeaderFrame a => Sys2Proof.Machine.execSpiHeaderFrame a s
  | .linkProtocolFault a b => Sys2Proof.Machine.execLinkProtocolFault a b s

end Sys2Proof.Machine
end

