-- ==== Sys2Proof/Machine/Step.lean ====
section
/-! DEFINITION. One step of the block: the command at the front of the queue; and how the host puts a command there. -/

namespace Sys2Proof.Machine

/-- One step: the command at the front of the queue, run on the state with the rest of the queue; an empty queue idles. [log DESIGN CHOICE 6; DEDUCED 9] -/
def step (s : State) : Host.Outcome State Fault Refusal :=
  match s.pending with
  | [] => .next s
  | c :: rest => exec c { s with pending := rest }

/-- The state with the command that a table word spells put at the front of its queue; no row of the table gives bits, so no word spells one. [log DESIGN CHOICE 10] -/
def State.withFetchWord (s : State) (nbits w : Nat) : State :=
  match Sys2Proof.decodeTableWord nbits w with
  | some c => { s with pending := c :: s.pending }
  | none => s

end Sys2Proof.Machine
end

