-- ==== Sys2Proof/Safety.lean ====
section
/-! DEFINITION. What a safe run keeps, in the terms the statements use: the stores in their canonical form, the clock in the range of R431, the key
fuses as R73 lets them change, and what one command may leave changed. -/

namespace Sys2Proof.Machine

/-- The addressed memories of the device are in canonical form: keys strictly rising, nothing listed that equals what an unlisted address reads as. -/
def Memory.wf (s : State) : Bool :=
  smWf (fun _ => 0) s.cap && smWf (fun _ => 0xFF) s.flash.cells && smWf (fun _ => 0xFF) s.nvm.cells &&
  s.stores.all fun e => smWf (fun _ => 0) e.2.words && smWf (fun _ => 0) e.2.ctl && smWf (fun _ => 0) e.2.micro && smWf (fun _ => 0) e.2.nano && smWf (fun _ => 0) e.2.segs

/-- The clock is a time of R431: nanoseconds below a second, a 48-bit count of seconds and a 32-bit fraction. -/
def Clock.legal (c : Clock) : Prop := c.ns < 1000000000 ∧ c.sec < 2 ^ 48 ∧ c.frac < 2 ^ 32

/-- A key slot has only gained bits (R73): bits of its hash set, or its revoke bit. -/
def KeySlot.grown (a b : KeySlot) : Prop := Nat.lor a.hash b.hash = b.hash ∧ (a.revoked = true → b.revoked = true)

/-- The key fuses of a state follow those of another: as many slots, and each has only gained bits. -/
def fusesGrown (a b : List KeySlot) : Prop := a.length = b.length ∧ ∀ i : Nat, (a.getD i ⟨0, false⟩).grown (b.getD i ⟨0, false⟩)

/-- A legal condition of the machine: its clock is legal and it has the four key slots of R73. -/
def State.legal (s : State) : Prop := s.clock.legal ∧ s.fuses.length = 4

/-- The byte of the vector store at a BAR2 offset below 0x0C000000 (R40). -/
def State.vecByte (s : State) (a : Nat) : Nat := bits ((s.store (a / 0xC00000)).word (a % 0xC00000 / 32) (a % 32 / 8)) (8 * (a % 8)) 8

/-- The byte of the capture store at a byte address of it. [log DESIGN CHOICE 5] -/
def State.capByte (s : State) (a : Nat) : Nat := bits (smGet 0 s.cap (a / 8)) (8 * (a % 8)) 8

/-- The check bits of the code word of the vector store at a BAR2 offset: 0 good, 1 a corrected error, 2 uncorrectable. -/
def State.vecEcc (s : State) (a : Nat) : Nat := (s.store (a / 0xC00000)).bad' (a % 0xC00000 / 32) (a % 32 / 8)

/-- Sequencer q executes the micro-word `w` next (R222, R244): it is ready, `w` stands at its next address, and neither that word nor the nano-word it issues has a parity fault. -/
abbrev State.fetches (s : State) (q w : Nat) : Prop :=
  s.seqReady q = true ∧ s.microWord q (s.seq q).next = w ∧ smGet 0 (s.store q).bad (s.seq q).next = 0 ∧
    ((mwNano w ≠ 0 ∧ mwEnds w = false) → smGet 0 (s.store q).bad (65536 + mwNano w) = 0)

/-- The state in which a micro-word acts: the nano-word it names has been issued (R226); that of the housekeeping sequencer acts after the word (R233, R259). -/
def State.afterIssue (s : State) (q w : Nat) : State := s.when (mwNano w ≠ 0 && !mwEnds w && q ≠ 16) (·.issueNano q (mwNano w))

/-- No nano-word acts on the counter that `w` names after the word itself: in the housekeeping sequencer its CNT_OP does (R233, R259). -/
abbrev State.cntFree (s : State) (q w : Nat) : Prop := q ≠ 16 ∨ mwNano w = 0 ∨ mwEnds w = true ∨ bits (s.nanoWord q (mwNano w)) (96 + 4 * bits w 12 3) 4 = 0

/-- Sequencer q has executed `w` and goes on at `next`: SEQ_PC shows the word's address, and the count of R244 restarts at a yield point. -/
abbrev State.wentOn (s t : State) (q w next : Nat) : Prop :=
  t.rd R.SEQ_PC.PC q = (s.seq q).next % 2 ^ R.SEQ_PC.PC.width ∧ t.rd R.SEQ_STATUS.STATE q = 1 ∧ (t.seq q).next = next % 2 ^ 14 ∧
    (t.seq q).ran = (if mwYield w then 0 else (s.seq q).ran + 1) ∧ (t.seq q).atYield = mwYield w

/-- The parts of the state that a statement can name as unchanged: every field but the queue, which a step alone changes, and the model's own two. -/
inductive Part where
  | clock | fuses | regs | m | image | hub | time | log | nvm | spare | host | lanes | dacs | adcs | smus | dpss | cals | trims | targets | results | plays | stores | seqs | tdcs | red | acqs | cap | capEcc | flash | spi | hk | legacy
  deriving DecidableEq, Repr

/-- A part is the same in two states. -/
def Part.same (p : Part) (s t : State) : Prop :=
  match p with
  | .clock => t.clock = s.clock
  | .fuses => t.fuses = s.fuses
  | .regs => t.regs = s.regs
  | .m => t.m = s.m
  | .image => t.image = s.image
  | .hub => t.hub = s.hub
  | .time => t.time = s.time
  | .log => t.log = s.log
  | .nvm => t.nvm = s.nvm
  | .spare => t.spare = s.spare
  | .host => t.host = s.host
  | .lanes => t.lanes = s.lanes
  | .dacs => t.dacs = s.dacs
  | .adcs => t.adcs = s.adcs
  | .smus => t.smus = s.smus
  | .dpss => t.dpss = s.dpss
  | .cals => t.cals = s.cals
  | .trims => t.trims = s.trims
  | .targets => t.targets = s.targets
  | .results => t.results = s.results
  | .plays => t.plays = s.plays
  | .stores => t.stores = s.stores
  | .seqs => t.seqs = s.seqs
  | .tdcs => t.tdcs = s.tdcs
  | .red => t.red = s.red
  | .acqs => t.acqs = s.acqs
  | .cap => t.cap = s.cap
  | .capEcc => t.capEcc = s.capEcc
  | .flash => t.flash = s.flash
  | .spi => t.spi = s.spi
  | .hk => t.hk = s.hk
  | .legacy => t.legacy = s.legacy

/-- Every part but those listed is the same in two states. -/
def State.keeps (s t : State) (but : List Part) : Prop := ∀ p : Part, p ∉ but → p.same s t

/-- A requester reaches the device and may write the instance of a register (R39, R457, R468, R485). -/
abbrev State.canWrite (s : State) (rq : Req) (r : Reg) (i : Nat) : Prop := s.reachable rq = true ∧ s.mayWrite rq r i = true

/-- Every instance of every register field but the listed ones reads the same in two states. -/
def State.keepsFields (s t : State) (but : List Fld) : Prop := ∀ (f : Fld) (i : Nat), f.key % 1024 ∉ but.map Fld.key → t.rd f i = s.rd f i

/-- Every register field but those in the listed slots reads the same in two states. -/
def State.keepsRegs (s t : State) (but : List Nat) : Prop := ∀ (f : Fld) (i : Nat), f.slot i ∉ but → t.rd f i = s.rd f i

/-! What each command may change: its parts of the state, and its register fields. -/

/-- Every part. -/
def allParts : List Part := [.clock, .fuses, .regs, .m, .image, .hub, .time, .log, .nvm, .spare, .host, .lanes, .dacs, .adcs, .smus, .dpss, .cals, .trims, .targets, .results, .plays, .stores, .seqs, .tdcs, .red, .acqs, .cap, .capEcc, .flash, .spi, .hk, .legacy]

/-- The parts of the state that a command may change. -/
def partsOf : Instr → List Part
  | .aonReset | .porstAssert | .railFail .. | .softReset .. | .registerWrite .. | .spiCommitDone | .hkRound .. => allParts
  | .porstRelease .. => [.regs, .m, .hub, .time, .log]
  | .flashIdentify .. | .logAreaWrite .. | .smuSenseRestore .. | .rxPop .. | .dmaTailWrite .. | .spiStatusFrame | .spiReservedCommand .. | .flashLockReq .. | .flashLockRelease .. | .spiHeaderFrame .. => [.regs]
  | .supplyOrderDeparture => [.regs, .m]
  | .softResetComplete | .fuseProgram .. | .fuseRevoke .. => [.regs, .m, .hub]
  | .functionLevelReset .. | .hotReset .. => [.regs, .hub, .host, .lanes, .dacs, .adcs, .smus, .cals, .plays, .seqs, .red, .acqs]
  | .d3hotEntry .. | .badSizeRequest .. | .unsupportedRequest .. | .poisonedTlpReceived .. | .holdoffExpire .. | .dmaRingEnable .. | .dmaRingDisable .. | .nop .. => [.regs, .host]
  | .refLost => [.regs, .m, .hub, .time, .lanes, .dacs, .cals, .plays, .seqs, .tdcs]
  | .refPresent | .relockStart | .tevArm .. | .tevDisarm .. => [.regs, .m, .hub, .time]
  | .relockDone => [.regs, .m, .hub, .time, .log, .nvm, .spare, .dacs, .adcs, .dpss, .cals, .tdcs]
  | .pllLock => [.clock, .regs, .m, .hub, .time, .log, .nvm, .spare, .dacs, .adcs, .dpss, .cals, .tdcs]
  | .mouldStart .. | .mouldAbort .. => [.regs, .m, .hub, .log]
  | .imageReadDone .. => [.regs, .m, .image, .hub, .log, .nvm, .spare, .lanes, .dacs, .adcs, .dpss, .cals, .stores, .seqs, .tdcs, .red]
  | .fuseCmdDone => [.fuses, .regs, .m, .hub]
  | .modeReqService .. | .modeReqIdle .. | .modeReqRun .. => [.regs, .m, .hub, .lanes, .dacs, .cals, .plays, .seqs]
  | .transitionDone .. => [.regs, .m, .hub, .log, .nvm, .spare, .lanes, .dacs, .adcs, .dpss, .cals, .plays, .stores, .seqs, .tdcs, .cap, .capEcc]
  | .startupStepDone .. => [.regs, .m, .hub, .log, .nvm, .spare, .lanes, .dacs, .adcs, .dpss, .cals, .trims, .targets, .stores, .tdcs, .red, .cap, .capEcc]
  | .devStartGo .. | .armedStart .. | .devStartCancel .. | .sagStartGo .. | .sagStartCancel .. => [.regs, .m, .hub, .lanes, .cals, .plays, .seqs, .acqs]
  | .rcRead .. | .rsnLowRead .. | .spiReadFrame .. => [.regs, .time, .host, .adcs, .smus, .tdcs, .flash]
  | .drvTripClear .. | .handoverStart .. => [.regs, .lanes]
  | .driverTrip .. | .comparatorChange .. | .comparatorSample .. => [.regs, .hub, .lanes]
  | .clampHit .. | .ppmuCompliance .. | .smuCompliance .. | .smuSenseFault .. | .dpsSenseFault .. | .eventSet .. | .eventClear .. | .routeWrite .. | .queueWriteError .. | .evhQEnable .. | .evhQDisable .. | .portLinkChange .. | .quotaWrite .. => [.regs, .hub]
  | .laneSwapReq .. => [.regs, .lanes, .plays]
  | .handoverDone .. => [.regs, .hub, .log, .nvm, .spare, .lanes, .cals]
  | .ppmuConnectWrite .. | .octMatrixWrite .. => [.regs, .lanes, .dacs, .cals, .plays]
  | .dacTick => [.regs, .dacs, .dpss, .cals, .trims]
  | .dischargeClampEnd .. => [.dacs]
  | .updateAllGo .. => [.regs, .dacs, .cals]
  | .tsCommit .. | .tsFetch .. | .ncoFtwCommit .. | .clearAll .. | .clearFail .. | .clearTb .. | .logArm .. | .logDisarm .. => [.regs, .plays]
  | .tsCommitDone .. | .successorStart .. | .failRecordForm .. | .storeCfgWrite .. | .jumpRequestGo .. | .jumpSrcEdge .. | .ringReset .. | .ringCfgWrite .. | .slotWrite .. => [.regs, .hub, .plays]
  | .vectorRead .. => [.regs, .hub, .log, .nvm, .spare, .lanes, .dacs, .adcs, .cals, .plays, .seqs, .tdcs, .red, .acqs]
  | .tileIdleReturn .. => [.regs, .lanes, .plays, .acqs]
  | .compareResult .. => [.regs, .hub, .lanes, .plays]
  | .failLogWrite .. => [.regs, .hub, .log, .nvm, .spare, .plays, .acqs, .cap, .capEcc]
  | .bar2VectorWrite .. | .bar2CaptureWrite .. => [.regs, .hub, .log, .nvm, .spare, .host, .stores, .cap, .capEcc]
  | .bar2Read .. | .upload .. => [.regs, .hub, .log, .nvm, .spare, .host]
  | .ctlwDataWrite .. | .storeWindowWrite .. => [.regs, .stores]
  | .scrubRow .. => [.regs, .hub, .log, .nvm, .spare, .stores]
  | .step .. | .jump .. | .branch .. | .loop .. | .cntLoadImm .. | .cntLoadCinit .. | .cntIncrement .. | .cntDecrement .. | .cntSnapshot .. | .play .. | .wait .. | .setLset .. | .updateAll .. | .yield .. | .rete .. | .stopDrain .. | .stop .. | .atomicBegin .. | .atomicEnd .. | .mcTrap .. | .rsvClass .. => [.regs, .m, .hub, .log, .lanes, .dacs, .adcs, .cals, .plays, .seqs, .tdcs, .red, .acqs]
  | .waitConditionMet .. | .waitTimeout .. | .waitWake .. | .loaderCheck .. | .seqScrub .. => [.regs, .seqs]
  | .measureOpen .. | .measureClose .. => [.regs, .m, .hub, .log, .nvm, .spare, .lanes, .dacs, .adcs, .cals, .plays, .seqs, .tdcs, .red, .acqs]
  | .eventVector .. | .watchdog .. => [.regs, .m, .hub, .log, .lanes, .dacs, .cals, .plays, .seqs]
  | .nanoWordEffect .. => [.regs, .hub, .lanes, .dacs, .adcs, .cals, .plays, .seqs, .tdcs, .red, .acqs]
  | .loaderCheckDone .. => [.regs, .hub, .seqs]
  | .seqScrubDone .. => [.regs, .hub, .log, .nvm, .spare, .stores, .seqs]
  | .adcGo .. | .adcStop .. => [.regs, .adcs, .cals]
  | .adcSlot .. => [.regs, .hub, .adcs, .red, .acqs]
  | .adcFifoRead .. => [.regs, .adcs]
  | .smuConversion .. => [.regs, .hub, .smus, .red, .acqs]
  | .smuFifoRead .. => [.regs, .smus]
  | .dpsOutEn .. => [.regs, .dpss, .cals]
  | .dpsSample .. => [.regs, .hub, .dacs, .dpss, .acqs]
  | .dpsHwTrip .. => [.regs, .hub, .dacs, .dpss]
  | .dpsSenseRestore .. | .dpsRestart .. => [.regs, .dacs, .dpss, .cals]
  | .dpsPowerEstimate .. => [.regs, .hub, .dpss]
  | .tdcArm .. | .tdcDisarm .. => [.regs, .cals, .tdcs]
  | .tdcStartEdge .. | .tdcStopEdge .. | .tdcGateClose .. | .tdcOverrange .. => [.regs, .hub, .tdcs, .red, .acqs]
  | .tdcDeadTimeEnd .. => [.tdcs]
  | .tdcResRead .. => [.regs, .tdcs]
  | .redOpen .. | .redClose .. | .redAbort .. => [.regs, .hub, .log, .nvm, .spare, .red]
  | .contextUpdate .. => [.regs, .hub, .log, .nvm, .spare, .lanes, .dacs, .adcs, .dpss, .cals, .tdcs, .red]
  | .resultRecordWrite .. => [.regs, .hub, .log, .nvm, .spare, .red, .cap, .capEcc]
  | .acqArm .. | .acqDisarm .. | .acqForce .. | .armingDone .. | .acqRptrWrite .. => [.regs, .acqs]
  | .acqSampleEvaluate .. | .acqFrameClose .. => [.regs, .hub, .log, .nvm, .spare, .acqs, .cap, .capEcc]
  | .acqAutoTimeout .. => [.acqs]
  | .eventArrival .. => [.hub, .acqs]
  | .queueRecordForm .. | .evhQRptrWrite .. | .descriptorComplete .. | .dmaHostError .. => [.regs, .hub, .host]
  | .msixMaskClear .. | .dmaArbitrationFrame | .pcieLinkTrained .. | .vfEnable .. | .linkProtocolFault .. => [.host]
  | .timeNowRead .. | .timeAdjEnd => [.time]
  | .addendCommit .. | .timeAdjStart .. | .timeStepGo .. | .txGo .. | .txStampRead .. => [.regs, .time]
  | .timeStepApply => [.clock, .regs, .m, .hub, .time, .lanes, .adcs, .cals, .plays, .seqs, .tdcs, .red, .acqs]
  | .timeQualWrite .. | .refresh .. | .syncTimeout | .frameReceive .. | .txDone .. => [.regs, .hub, .time]
  | .tevFire .. => [.regs, .m, .hub, .time, .adcs, .cals, .tdcs, .red, .acqs]
  | .tevPulseEnd .. => [.regs, .hub, .time, .tdcs, .red, .acqs]
  | .allot .. | .release .. | .groupRelease .. => [.regs, .hub, .red]
  | .blockClearDone .. => [.regs, .cap, .capEcc]
  | .streamRefill .. | .residentLoad .. => [.regs, .hub, .host, .plays, .stores]
  | .spiWriteFrame .. => [.regs, .spi]
  | .flashCmdGo .. | .flashCmdDone .. | .flashWindowRead .. | .flashWindowWrite .. | .flashProgramDone .. | .flashPollTimeout .. => [.regs, .flash]
  | .calReq .. | .calAbort .. => [.regs, .lanes, .cals]
  | .calStepDone .. => [.regs, .hub, .log, .nvm, .spare, .lanes, .dacs, .adcs, .dpss, .cals, .trims, .targets, .results, .tdcs]
  | .calRetry .. | .calBudgetExpire => [.regs, .hub, .log, .cals, .results]
  | .calRunLimit .. => [.regs, .hub, .cals, .results]
  | .glazeStep .. => [.trims]
  | .sensorReadmit .. => [.regs, .hk]
  | .markWorn .. | .markFailed .. | .sprSelfTest .. | .selfTestDone .. => [.regs, .hub, .log, .nvm, .spare, .lanes, .dacs, .adcs, .dpss, .cals, .tdcs]
  | .spareIn .. => [.regs, .hub, .log, .nvm, .spare, .dacs, .adcs, .dpss, .cals, .tdcs]
  | .repairMapWrite | .nvmRead .. | .nvmUserWrite .. => [.regs, .nvm]
  | .nvmWriteDone .. => [.regs, .hub, .log, .nvm]
  | .shardWrite => [.hub, .log]
  | .forerunnerStart .. => [.regs, .hub, .lanes, .cals, .plays, .seqs, .acqs]
  | .forerunnerStop .. => [.regs, .hub, .lanes, .dacs, .cals, .plays, .seqs]
  | .forerunnerCalibrate .. => [.regs, .cals]
  | .forerunnerReset .. => [.regs, .hub, .lanes, .dacs, .cals, .plays, .seqs, .legacy]
  | .forerunnerTimingWrite .. => [.regs, .plays, .legacy]
  | .forerunnerLevelWrite .. => [.regs, .lanes, .dacs, .cals, .plays, .legacy]
  | .forerunnerVectorWrite .. => [.regs, .hub, .log, .nvm, .spare, .host, .stores]
  | .timeTick => [.clock, .regs, .time, .lanes, .plays, .seqs, .acqs]
  | .railGood .. => [.regs, .m, .hub, .time, .log, .lanes]

/-- The counts that a read clears (R464). -/
def countFields : List Fld := (allRegs.flatMap Reg.fields).filter fun f => f.acc = .rc

/-- The register fields of what the entry of a shard changes (R564). -/
def shardFields : List Fld := [R.LOG_SEQ.SEQ, R.LOG_LOST.LOST]

/-- The register fields of what the counting of a refused write changes (R467). -/
def refuseFields : List Fld := [R.HOST_REFUSE.COUNT, R.HOST_REFUSE_ADDR.OFFSET, R.HOST_REFUSE_ADDR.BAR2]

/-- The register fields of what the stop of a tile changes. -/
def stopFields : List Fld := [R.LANE_FE.SWAP_REFUSED, R.LVL_PPMU_CODE.CODE, R.LVL_STATUS.LIMIT_REFUSED, R.SEQ_STATUS.STATE, R.SEG_JUMP.PENDING, R.SEG_STATUS.PHASE, R.SEG_STATUS.QUEUE_COUNT, R.SEG_STATUS.COMMITTED, R.SEG_STATUS.SUCC_SEG, R.SEG_SLOT.READY, R.SEG_SLOT.PLAYING, R.CAL_RESULT.DEFERRED, R.LANE_STATUS.DRIVE_BLOCKED]

/-- The register fields of what a machine check changes. -/
def checkFields : List Fld := [R.LOG_SEQ.SEQ, R.LOG_LOST.LOST, R.DEV_MODE.TRANSITION, R.DEV_MODE.REQ_STATUS, R.DEV_MODE.REFUSE_CAUSE, R.LANE_FE.SWAP_REFUSED, R.LVL_PPMU_CODE.CODE, R.LVL_STATUS.LIMIT_REFUSED, R.SEQ_STATUS.STATE, R.SEQ_STATUS.DEPTH, R.SEQ_STATUS.IN_HANDLER, R.SEQ_STATUS.LEVEL, R.SEQ_STATUS.IN_FLIGHT, R.SEQ_STATUS.ATOMIC, R.SEQ_STATUS.ATOMIC_RES, R.SEQ_PC.PC, R.SEQ_MC.CAUSE, R.SEQ_MC.ADDR, R.SEQ_MC_INFO.INFO, R.SEG_JUMP.PENDING, R.SEG_STATUS.PHASE, R.SEG_STATUS.QUEUE_COUNT, R.SEG_STATUS.COMMITTED, R.SEG_STATUS.SUCC_SEG, R.SEG_SLOT.READY, R.SEG_SLOT.PLAYING, R.CAL_RESULT.DEFERRED, R.LANE_STATUS.DRIVE_BLOCKED]

/-- The register fields of what the start of a tile changes. -/
def startFields : List Fld := [R.TS_STATUS.EDGE_DROP, R.TS_STATUS.WINDOW_TRUNC, R.TS_DROP_COUNT.EDGE_DROP, R.TS_DROP_COUNT.WINDOW_TRUNC, R.SEQ_STATUS.STATE, R.SEQ_STATUS.DEPTH, R.SEQ_STATUS.IN_HANDLER, R.SEQ_STATUS.LEVEL, R.SEQ_STATUS.IN_FLIGHT, R.SEQ_STATUS.ATOMIC, R.SEQ_STATUS.ATOMIC_RES, R.SEQ_PC.PC, R.SEG_RING_STATUS.NEXT_TAG, R.SEG_RING_STATUS.NEXT_SLOT, R.SEG_JUMP.PENDING, R.SEG_STATUS.PHASE, R.SEG_STATUS.QUEUE_COUNT, R.SEG_STATUS.COMMITTED, R.SEG_STATUS.SUCC_SEG, R.SEG_STATUS.MATCH, R.SEG_STATUS.TAG_ERROR, R.SEG_COUNT2.TAG_ERRORS, R.CAL_RESULT.DEFERRED, R.LANE_STATUS.OVERSPEED, R.LANE_STATUS.DRIVE_BLOCKED]

/-- The register fields of what spares, repairs and the repair map change. -/
def spareFields : List Fld := [R.LOG_SEQ.SEQ, R.NVM_STATUS.REPAIR_PENDING, R.NVM_STATUS.MAP_FULL, R.SPR_RESERVE_Q.FE_PAIRS, R.SPR_RESERVE_Q.SMU, R.SPR_RESERVE_Q.DPS, R.SPR_RESERVE_Q.WORN, R.SPR_RESERVE_DEV.TDC, R.SPR_RESERVE_DEV.PIPE, R.SPR_RESERVE_DEV.UNAVAIL, R.LOG_LOST.LOST, R.DEV_STARTUP.DEGRADED, R.LANE_FE.ACTIVE_FE, R.LANE_FE.SINGLE, R.LANE_FE.RETIRED, R.LANE_FE.OTHER_STATE, R.DPS_CTL.OUT_EN, R.DPS_CTL.IRANGE, R.DPS_CTL.FORCE_LOCAL, R.DPS_LIMIT.ILIM, R.DPS_LIMIT.ACTION, R.DPS_LIMIT.DELAY, R.DPS_STATUS.IN_LIMIT, R.DPS_STATUS.LIMIT_HIT, R.DPS_STATUS.FOLDED, R.DPS_STATUS.TRIPPED, R.DPS_STATUS.HW_TRIP, R.DPS_STATUS.SENSE_FAULT, R.DPS_STATUS.LOCAL_SENSE, R.DPS_STATUS.SUPPLY_LOSS, R.DPS_STATUS.MON_I_LATCH, R.DPS_STATUS.MON_V_LATCH, R.DPS_STATUS.MON_I_UNSETTLED, R.DPS_STATUS.MON_V_UNSETTLED, R.DPS_STATUS.CONNECTED, R.DPS_STATUS.MON_OPENED, R.DPS_STATUS.QUAD_PWR, R.DPS_STATUS.FAULT_MEMBER, R.DPS_MEAS_I.CODE, R.DPS_MEAS_I.SUSPECT, R.DPS_MEAS_I.GANG, R.DPS_MEAS_V.CODE, R.DPS_MEAS_V.SUSPECT, R.DPS_MON_I_CTL.EN, R.DPS_MON_I_CTL.COND, R.DPS_MON_I_CTL.LATCH_MODE, R.DPS_MON_I_CTL.CLR_MODE, R.DPS_MON_I_CTL.FILTER, R.DPS_MON_I_CTL.HYST, R.DPS_MON_I_CTL.ACTION, R.DPS_MON_I_THR.HI, R.DPS_MON_I_THR.LO, R.DPS_MON_V_CTL.EN, R.DPS_MON_V_CTL.COND, R.DPS_MON_V_CTL.LATCH_MODE, R.DPS_MON_V_CTL.CLR_MODE, R.DPS_MON_V_CTL.FILTER, R.DPS_MON_V_CTL.HYST, R.DPS_MON_V_CTL.ACTION, R.DPS_MON_V_THR.HI, R.DPS_MON_V_THR.LO, R.DPS_GANG.LEADER, R.DPS_GANG.MEMBERS, R.DPS_GANG.GANG_DEGRADED, R.DPS_SPARE_STATUS.CHANNEL, R.DPS_SPARE_STATUS.ASSIGNED, R.DPS_SPARE_STATUS.AVAILABLE, R.RED_STATUS.PIPES_ACTIVE, R.TDC_CFG.MODE, R.TDC_CFG.CONT, R.TDC_CFG.START_SRC, R.TDC_CFG.START_EDGE, R.TDC_CFG.STOP_SRC, R.TDC_CFG.STOP_EDGE, R.TDC_CFG.DEST, R.TDC_CTX.CTX, R.TDC_GATE.GATE, R.TDC_CTL.ARM, R.TDC_CTL.DISARM, R.TDC_CTL.ARMED, R.TDC_CTL.STARTED, R.TDC_CTL.FIFO_COUNT, R.TDC_COUNT.EARLY_STOP, R.TDC_COUNT.RESTART, R.TDC_COUNT.LOST, R.TDC_RES_LO.VALUE_LO, R.TDC_RES_HI.VALUE_HI, R.TDC_RES_HI.SUB_BIN, R.TDC_RES_HI.UNREFERENCED, R.TDC_RES_HI.UNCAL, R.TDC_RES_HI.OVERRANGE, R.TDC_RES_HI.FEW_EDGES, R.TDC_RES_HI.MODE, R.TDC_RES_HI.VALID, R.TDC_RES_COUNT.COUNT, R.TDC_RES_TIME_LO.TIME_LO, R.TDC_RES_TIME_HI.TIME_HI, R.TDC_SPARE_STATUS.REPLACED, R.TDC_SPARE_STATUS.ASSIGNED, R.TDC_SPARE_STATUS.AVAILABLE, R.CAL_RESULT.DEFERRED, R.SPR_PENDING.COUNT, R.SMU_FORCE_CODE.CODE, R.SMU_FORCE_CFG.UPD_MODE, R.SMU_FORCE_CFG.STROBE_SEL, R.SMU_FORCE_CFG.SPAN, R.SMU_FORCE_SLEW.STEP, R.SMU_FORCE_SLEW.RATE_M1, R.SMU_FORCE_STATUS.PRESENT, R.SMU_FORCE_STATUS.CLAMPED, R.SMU_FORCE_STATUS.MOVING, R.SMU_FORCE_STATUS.LIMIT_REFUSED, R.SMU_FORCE_STATUS.SPAN_REFUSED, R.DPS_SET_CODE.CODE, R.DPS_SET_CFG.UPD_MODE, R.DPS_SET_CFG.STROBE_SEL, R.DPS_SET_CFG.STROBE_TILE, R.DPS_SET_CFG.SPAN, R.DPS_SET_SLEW.STEP, R.DPS_SET_SLEW.RATE_M1, R.DPS_SET_STATUS.PRESENT, R.DPS_SET_STATUS.CLAMPED, R.DPS_SET_STATUS.MOVING, R.DPS_SET_STATUS.SPAN_REFUSED, R.SMU_SPARE_STATUS.OCTET, R.SMU_SPARE_STATUS.ASSIGNED, R.SMU_SPARE_STATUS.AVAILABLE, R.OCT_MATRIX.BALL_EN, R.OCT_STATUS.SMU_SOURCE, R.OCT_STATUS.ADC_BORROWED, R.OCT_STATUS.ADC_LENDING, R.ADC_STATUS.BUSY, R.SMU_CTL.FMODE, R.SMU_CTL.IRANGE, R.SMU_CLAMP.ICLAMP, R.SMU_VCLAMP.VHI, R.SMU_VCLAMP.VLO, R.SMU_MEAS.RUN, R.SMU_MEAS.QTY, R.SMU_MEAS.AVG_LOG2, R.SMU_MEAS.DEST, R.SMU_MEAS.CTX, R.SMU_MON_CTL.EN, R.SMU_MON_CTL.COND, R.SMU_MON_CTL.LATCH_MODE, R.SMU_MON_CTL.CLR_MODE, R.SMU_MON_CTL.FILTER, R.SMU_MON_CTL.HYST, R.SMU_MON_THR.HI, R.SMU_MON_THR.LO, R.SMU_STATUS.IN_COMPLIANCE, R.SMU_STATUS.COMPLIANCE_HIT, R.SMU_STATUS.MON_LATCH, R.SMU_STATUS.MON_UNSETTLED, R.SMU_STATUS.SENSE_FAULT, R.SMU_STATUS.LOCAL_SENSE, R.SMU_FIFO_TIME_LO.TIME_LO, R.SMU_FIFO_TIME_HI.TIME_HI, R.SMU_LOST.LOST]

/-- The register fields that a command may change; none where it is a reset of many, or the write of a register that it names. -/
def fieldsOf : Instr → Option (List Fld)
  | .aonReset | .porstAssert | .railFail .. | .softReset .. | .registerWrite .. | .spiCommitDone | .hkRound .. => none
  | .porstRelease .. => some ([R.DEV_CLK.REF_PRESENT, R.DEV_STRAP.SAMPLED])
  | .flashIdentify .. => some ([R.FLS_ID.ID, R.FLS_STATUS.PRESENT])
  | .supplyOrderDeparture => some ([R.DEV_RESET_CAUSE.SUPPLY_ORDER])
  | .softResetComplete => some ([R.DEV_MOULD_STATUS.STATE, R.DEV_MOULD_FLASH.FIRST_CAUSE, R.DEV_MOULD_FLASH.SECOND_CAUSE, R.FLS_LOCK.HOLDER])
  | .functionLevelReset .. | .hotReset .. => some (stopFields ++ [R.ACQ_CTL.STATE, R.SAG_OVER.CAPTURE, R.SAG_OVER.CONTEXT, R.SAG_OVER.QUEUE, R.FLS_LOCK.HOLDER, R.SMU_FORCE_CODE.CODE, R.SMU_FORCE_STATUS.LIMIT_REFUSED, R.OCT_MATRIX.LANE_SEL, R.SMU_STATUS.MON_UNSETTLED, R.RED_GRP_AREA.BASE, R.RED_GRP_AREA.BLOCKS, R.RED_GRP_WPTR.WPTR, R.RED_GRP_RPTR.RPTR, R.RED_GRP_STATUS.FULL, R.RED_GRP_STATUS.AREA_REFUSED, R.RED_GRP_STATUS.PENDING, R.EVH_Q_CFG.EN, R.EVH_Q_STATUS.FULL, R.EVH_Q_STATUS.NOTIFY_WITHHELD, R.HOST_DMA_CFG.EN, R.HOST_DMA_TAIL.TAIL, R.HOST_DMA_HEAD.HEAD, R.HOST_DMA_STATUS.BUSY] ++ funcFields)
  | .d3hotEntry .. => some ([R.HOST_DMA_CFG.EN, R.HOST_DMA_TAIL.TAIL, R.HOST_DMA_HEAD.HEAD, R.HOST_DMA_STATUS.BUSY])
  | .refLost => some (stopFields ++ [R.DEV_CLK.REF_PRESENT, R.DEV_CLK.REF_LOST, R.DEV_CLK.PLL_LOCKED, R.DEV_CLK.HOLDOVER, R.DEV_CLK.RELOCK_PENDING, R.DEV_STARTUP.STEP])
  | .refPresent => some ([R.DEV_CLK.REF_PRESENT, R.DEV_CLK.PLL_LOCKED, R.DEV_CLK.HOLDOVER, R.DEV_CLK.RELOCK_PENDING])
  | .relockStart => some ([R.DEV_CLK.PLL_LOCKED, R.DEV_CLK.HOLDOVER, R.DEV_CLK.RELOCK_PENDING])
  | .relockDone => some (spareFields ++ [R.DEV_CLK.PLL_LOCKED, R.DEV_MOULD_STATUS.STATE, R.DEV_MOULD_FLASH.FIRST_CAUSE, R.DEV_MOULD_FLASH.SECOND_CAUSE, R.NVM_STATUS.BUSY, R.DEV_MODE.TRANSITION, R.DEV_MODE.STARTUP_DONE, R.DEV_STARTUP.STEP, R.DEV_STARTUP.REPAIR_DEFERRED, R.DEV_STARTUP.ELAPSED_MS, R.FLS_LOCK.HOLDER])
  | .pllLock => some (spareFields ++ [R.DEV_CLK.PLL_LOCKED, R.DEV_MOULD_STATUS.STATE, R.DEV_MOULD_FLASH.FIRST_CAUSE, R.DEV_MOULD_FLASH.SECOND_CAUSE, R.HK_STATUS.AON_CLOCKED, R.NVM_STATUS.BUSY, R.DEV_MODE.TRANSITION, R.DEV_MODE.STARTUP_DONE, R.DEV_STARTUP.STEP, R.DEV_STARTUP.REPAIR_DEFERRED, R.DEV_STARTUP.ELAPSED_MS, R.FLS_LOCK.HOLDER])
  | .mouldStart .. | .mouldAbort .. => some (refuseFields ++ shardFields ++ [R.DEV_MOULD_STATUS.STATE, R.DEV_MOULD_STATUS.SOURCE, R.DEV_MOULD_STATUS.FLASH_COPY, R.DEV_MOULD_STATUS.SIGNED, R.DEV_MOULD_STATUS.OPEN_DEVICE, R.DEV_MOULD_STATUS.CAUSE, R.DEV_MOULD_STATUS.DETAIL, R.DEV_MOULD_FLASH.FIRST_CAUSE, R.DEV_MOULD_FLASH.SECOND_CAUSE, R.FLS_LOCK.HOLDER])
  | .imageReadDone .. => some (spareFields ++ [R.DEV_CLK.CCLK_SPREAD_EN, R.DEV_CLK.REF_LOSS_POLICY, R.DEV_MOULD_STATUS.STATE, R.DEV_MOULD_STATUS.SOURCE, R.DEV_MOULD_STATUS.FLASH_COPY, R.DEV_MOULD_STATUS.SIGNED, R.DEV_MOULD_STATUS.OPEN_DEVICE, R.DEV_MOULD_STATUS.CAUSE, R.DEV_MOULD_STATUS.DETAIL, R.DEV_MOULD_FLASH.FIRST_CAUSE, R.DEV_MOULD_FLASH.SECOND_CAUSE, R.HK_STATUS.HK_FIXED, R.NVM_STATUS.BUSY, R.NVM_STATUS.BASELINE_MISSING, R.NVM_STATUS.SPARE_PAGES, R.NVM_SERIAL_LO.SERIAL_LO, R.NVM_SERIAL_HI.SERIAL_HI, R.DEV_MOULD_INFO.IMAGE_VER, R.DEV_MOULD_PLANT.COOLANT_MAX, R.DEV_MOULD_PLANT.POWER_BUDGET, R.DEV_MOULD_PLANT.COLD_PLATE, R.DEV_MOULD_PLANT.DEBUG_OPEN, R.DEV_MOULD_PLANT.LEGACY, R.DEV_MOULD_PLANT.KEY_SLOT, R.DEV_MODE.TRANSITION, R.DEV_MODE.STARTUP_DONE, R.DEV_STARTUP.STEP, R.DEV_STARTUP.REPAIR_DEFERRED, R.DEV_STARTUP.ELAPSED_MS, R.SEQ_ENTRY.ENTRY, R.SEQ_STATUS.STATE, R.SEQ_STATUS.DEPTH, R.SEQ_STATUS.IN_HANDLER, R.SEQ_STATUS.LEVEL, R.SEQ_STATUS.IN_FLIGHT, R.SEQ_STATUS.ATOMIC, R.SEQ_STATUS.ATOMIC_RES, R.SEQ_PC.PC, R.DEV_PRIO.SPLIT, R.EVH_HOLDOFF.PERIOD, R.EVH_SRC_CFG.ENABLE, R.EVH_SRC_CFG.PRIORITY, R.EVH_SRC_CFG.TARGET, R.EVH_SRC_CFG.HOLDOFF_GROUP, R.TIME_PORT_STATUS.MODE, R.SAG_TILES.TILES, R.SAG_QUOTA_A.CAPTURE_BLOCKS, R.SAG_QUOTA_A.CONTEXT_GROUPS, R.SAG_QUOTA_B.STREAM_SHARE, R.SAG_QUOTA_B.QUEUE_DEPTH_LOG2, R.SAG_USE.BLOCKS, R.SAG_USE.GROUPS, R.FLS_LOCK.HOLDER, R.DEV_LEGACY.ENABLED, R.SAG_BLK_OWNER.SAGGAR, R.SAG_BLK_OWNER.ALLOTTED, R.SAG_GRP_OWNER.SAGGAR, R.SAG_GRP_OWNER.ALLOTTED, R.LANE_STATUS.DRIVE_BLOCKED, R.OCT_MATRIX.LANE_SEL])
  | .fuseProgram .. | .fuseRevoke .. => some (refuseFields ++ [R.DEV_FUSE_CMD.SLOT, R.DEV_FUSE_CMD.STATUS])
  | .fuseCmdDone => some ([R.DEV_FUSE_CMD.STATUS])
  | .modeReqService .. | .modeReqIdle .. | .modeReqRun .. => some (stopFields ++ refuseFields ++ [R.DEV_MODE.TRANSITION, R.DEV_MODE.REQ_STATUS, R.DEV_MODE.AUTO_RECOVER, R.DEV_MODE.HOLD_STARTUP, R.DEV_MODE.REFUSE_CAUSE, R.SEQ_STATUS.DEPTH, R.SEQ_STATUS.IN_HANDLER, R.SEQ_STATUS.LEVEL, R.SEQ_STATUS.IN_FLIGHT, R.SEQ_STATUS.ATOMIC, R.SEQ_STATUS.ATOMIC_RES, R.SEQ_PC.PC])
  | .transitionDone .. => some (spareFields ++ [R.SPR_ROWS.ROWS, R.DEV_MODE.FIRST_RUN, R.DEV_MODE.TRANSITION, R.DEV_MODE.REQ_STATUS, R.DEV_MODE.REFUSE_CAUSE, R.DEV_START.ARMED, R.DEV_START.REFUSED, R.LANE_FE.SWAP_REFUSED, R.LVL_PPMU_CODE.CODE, R.LVL_STATUS.LIMIT_REFUSED, R.SEQ_STATUS.STATE, R.SEQ_STATUS.DEPTH, R.SEQ_STATUS.IN_HANDLER, R.SEQ_STATUS.LEVEL, R.SEQ_STATUS.IN_FLIGHT, R.SEQ_STATUS.ATOMIC, R.SEQ_STATUS.ATOMIC_RES, R.SEQ_PC.PC, R.SEQ_LOAD.VALID, R.SEQ_MC.RELOAD_PENDING, R.SEG_JUMP.PENDING, R.SEG_STATUS.PHASE, R.SEG_STATUS.QUEUE_COUNT, R.SEG_STATUS.COMMITTED, R.SEG_STATUS.SUCC_SEG, R.SEG_SLOT.READY, R.SEG_SLOT.PLAYING, R.SAG_START.ARMED, R.SAG_START.REFUSED, R.LANE_STATUS.DRIVE_BLOCKED])
  | .startupStepDone .. => some (spareFields ++ [R.NVM_STATUS.BUSY, R.NVM_STATUS.BASELINE_MISSING, R.NVM_STATUS.SPARE_PAGES, R.NVM_SERIAL_LO.SERIAL_LO, R.NVM_SERIAL_HI.SERIAL_HI, R.SPR_ROWS.ROWS, R.SPR_ROWS.COLS, R.DEV_MODE.TRANSITION, R.DEV_MODE.STARTUP_DONE, R.DEV_STARTUP.STEP, R.DEV_STARTUP.REPAIR_DEFERRED, R.DEV_STARTUP.FAIL_COUNT, R.DEV_STARTUP.ELAPSED_MS, R.SEQ_LOAD.VALID, R.SEQ_MC.RELOAD_PENDING])
  | .devStartGo .. | .devStartCancel .. | .sagStartGo .. | .sagStartCancel .. => some (startFields ++ refuseFields ++ [R.DEV_START.TILE_MASK, R.DEV_START.AT_TEV, R.DEV_START.TEV, R.DEV_START.ARMED, R.DEV_START.REFUSED, R.SAG_START.TILE_MASK, R.SAG_START.AT_TEV, R.SAG_START.TEV, R.SAG_START.ARMED, R.SAG_START.REFUSED])
  | .armedStart .. => some (startFields ++ [R.DEV_START.ARMED, R.DEV_START.REFUSED, R.SAG_START.ARMED, R.SAG_START.REFUSED])
  | .badSizeRequest .. => some (refuseFields ++ [R.HOST_ERR.BAD_SIZE])
  | .unsupportedRequest .. => some ([R.HOST_ERR.UR])
  | .poisonedTlpReceived .. => some (refuseFields ++ [R.HOST_ERR.POISON_RX])
  | .rcRead .. | .rsnLowRead .. => some ([R.TDC_CTL.FIFO_COUNT, R.TDC_RES_LO.VALUE_LO, R.TDC_RES_HI.VALUE_HI, R.TDC_RES_HI.SUB_BIN, R.TDC_RES_HI.UNREFERENCED, R.TDC_RES_HI.UNCAL, R.TDC_RES_HI.OVERRANGE, R.TDC_RES_HI.FEW_EDGES, R.TDC_RES_HI.MODE, R.TDC_RES_HI.VALID, R.TDC_RES_COUNT.COUNT, R.TDC_RES_TIME_LO.TIME_LO, R.TDC_RES_TIME_HI.TIME_HI, R.TX_STAMP_NS.NS, R.TX_STAMP_SEC_LO.SEC_LO, R.TX_STAMP_SEC_HI.SEC_HI, R.TX_STAMP_SEC_HI.TAG, R.FLS_STATUS.RANGE, R.FLS_STATUS.WIN_BUSY_READ, R.ADC_STATUS.FIFO_COUNT, R.ADC_FIFO_TIME_LO.TIME_LO, R.ADC_FIFO_TIME_HI.TIME_HI, R.SMU_FIFO_TIME_LO.TIME_LO, R.SMU_FIFO_TIME_HI.TIME_HI] ++ countFields)
  | .drvTripClear .. => some (refuseFields ++ [R.LANE_STATUS.DRV_TRIP, R.LANE_STATUS.CLAMP_HIT, R.LANE_STATUS.OVERSPEED, R.LANE_STATUS.DRIVE_BLOCKED])
  | .driverTrip .. => some ([R.LANE_STATUS.DRV_TRIP, R.LANE_STATUS.DRIVE_BLOCKED])
  | .comparatorChange .. | .comparatorSample .. => some ([R.LANE_MON.LATCH])
  | .clampHit .. => some ([R.LANE_STATUS.CLAMP_HIT])
  | .laneSwapReq .. => some (refuseFields ++ [R.LANE_FE.SWAP_REFUSED])
  | .handoverStart .. => some ([R.LANE_FE.OTHER_STATE])
  | .handoverDone .. => some (shardFields ++ [R.NVM_STATUS.REPAIR_PENDING, R.NVM_STATUS.MAP_FULL, R.SPR_RESERVE_Q.FE_PAIRS, R.SPR_RESERVE_Q.SMU, R.SPR_RESERVE_Q.DPS, R.SPR_RESERVE_Q.WORN, R.SPR_RESERVE_DEV.TDC, R.SPR_RESERVE_DEV.UNAVAIL, R.DEV_STARTUP.DEGRADED, R.LANE_FE.ACTIVE_FE, R.LANE_FE.SINGLE, R.LANE_FE.RETIRED, R.LANE_FE.OTHER_STATE, R.LANE_FE.HANDOVER_COUNT, R.SPR_PENDING.COUNT])
  | .ppmuConnectWrite .. => some (refuseFields ++ [R.LANE_FE.SWAP_REFUSED, R.LVL_PPMU_CODE.CODE, R.LVL_STATUS.LIMIT_REFUSED, R.CAL_RESULT.DEFERRED, R.LANE_PPMU_CTL.MODE, R.LANE_PPMU_CTL.RANGE, R.LANE_PPMU_CTL.CONNECT, R.LANE_STATUS.DRIVE_BLOCKED, R.OCT_STATUS.CONFLICT])
  | .ppmuCompliance .. => some ([R.OCT_PPMU_COMPL.IN_COMPL, R.OCT_PPMU_COMPL.COMPL_HIT])
  | .dacTick => some ([R.DPS_STATUS.IN_LIMIT, R.DPS_STATUS.MON_I_UNSETTLED, R.DPS_STATUS.MON_V_UNSETTLED, R.CAL_RESULT.DEFERRED])
  | .dischargeClampEnd .. | .tdcDeadTimeEnd .. | .acqAutoTimeout .. | .eventArrival .. | .msixMaskClear .. | .timeNowRead .. | .timeAdjEnd | .dmaArbitrationFrame | .glazeStep .. | .shardWrite | .pcieLinkTrained .. | .vfEnable .. | .linkProtocolFault .. => some ([])
  | .updateAllGo .. => some (refuseFields ++ [R.CAL_RESULT.DEFERRED])
  | .tsCommit .. | .tsFetch .. => some (refuseFields ++ [R.TS_LANE_EDGE.EDGE, R.TS_LANE_MODE.FORMAT, R.TS_LANE_MODE.CMP_MODE, R.TS_LANE_MODE.NCO_SEL, R.TS_STAGE_PERIOD.COARSE, R.TS_STAGE_PERIOD.FINE, R.TS_COMMIT.SET, R.TS_COMMIT.TIP_REF, R.TS_COMMIT.STATUS])
  | .tsCommitDone .. => some ([R.TS_COMMIT.STATUS, R.TS_COMMIT.CAUSE, R.TS_COMMIT.DETAIL])
  | .ncoFtwCommit .. => some (refuseFields ++ [R.TS_NCO_FTW_LO.FTW_LO, R.TS_NCO_FTW_HI.FTW_HI])
  | .vectorRead .. => some (stopFields ++ shardFields ++ [R.NVM_STATUS.REPAIR_PENDING, R.NVM_STATUS.MAP_FULL, R.SPR_ROWS.ROWS, R.TS_STATUS.CUR_SET, R.TS_STATUS.EDGE_DROP, R.TS_STATUS.WINDOW_TRUNC, R.TS_DROP_COUNT.EDGE_DROP, R.TS_DROP_COUNT.WINDOW_TRUNC, R.SEG_STORE_STATUS.CE_COUNT, R.SEG_STORE_STATUS.UE_COUNT, R.SEG_STORE_STATUS.RSV_COUNT, R.SEG_STORE_STATUS.UE_PLAY, R.SEG_STORE_STATUS.RSV_CODE, R.SEG_STORE_ERRADDR.ROW, R.SEG_STORE_ERRADDR.WORD, R.SEG_STORE_ERRADDR.SOURCE, R.SEG_RING_STATUS.NEXT_TAG, R.SEG_RING_STATUS.NEXT_SLOT, R.SEG_STATUS.CUR_SEG, R.SEG_STATUS.MATCH, R.SEG_STATUS.ABORTED, R.SEG_STATUS.TAG_ERROR, R.SEG_ITER.PASS, R.SEG_COUNT.STARVE, R.SEG_COUNT2.UNDERRUN, R.SEG_COUNT2.TAG_ERRORS, R.SEG_COUNT2.MATCH_TIMEOUT, R.SEG_HOLD_VECTORS.HOLD_VECTORS, R.SEG_GROUP_WAIT.GROUP_WAIT, R.CMP_CYCLE_LO.CYCLE_LO, R.CMP_CYCLE_HI.CYCLE_HI, R.CMP_SITE_STATUS.TIMING_BROKEN, R.DPS_STATUS.MON_I_LATCH, R.DPS_STATUS.MON_V_LATCH, R.RED_DROP_ADC.DROPS, R.RED_DROP_SMU.DROPS, R.RED_DROP_TDC.DROPS, R.TDC_CTL.ARMED, R.TDC_CTL.STARTED, R.TDC_CTL.FIFO_COUNT, R.TDC_COUNT.EARLY_STOP, R.TDC_COUNT.RESTART, R.TDC_COUNT.LOST, R.SEQ_CNT.VALUE, R.LANE_MON.LATCH, R.LANE_STATUS.OVERSPEED, R.ADC_STATUS.ENTRY, R.ADC_STATUS.BUSY, R.ADC_STATUS.TRIG_MISSED, R.SMU_STATUS.MON_LATCH])
  | .successorStart .. => some ([R.SEG_RING_STATUS.NEXT_TAG, R.SEG_RING_STATUS.NEXT_SLOT, R.SEG_JUMP.PENDING, R.SEG_STATUS.PHASE, R.SEG_STATUS.QUEUE_COUNT, R.SEG_STATUS.COMMITTED, R.SEG_STATUS.SUCC_SEG, R.SEG_STATUS.TAG_ERROR, R.SEG_COUNT2.TAG_ERRORS])
  | .tileIdleReturn .. => some ([R.TS_STATUS.EDGE_DROP, R.TS_STATUS.WINDOW_TRUNC, R.TS_DROP_COUNT.EDGE_DROP, R.TS_DROP_COUNT.WINDOW_TRUNC, R.LANE_STATUS.OVERSPEED, R.LANE_STATUS.DRIVE_BLOCKED])
  | .compareResult .. => some ([R.TS_STATUS.EDGE_DROP, R.TS_STATUS.WINDOW_TRUNC, R.TS_DROP_COUNT.EDGE_DROP, R.TS_DROP_COUNT.WINDOW_TRUNC, R.CMP_STATUS.TILE_FAIL, R.CMP_STATUS.UNSETTLED_CMP, R.CMP_TILE_FAILS.FAILS, R.CMP_LANE_FAIL.FAILS, R.CMP_SITE_STATUS.FAIL, R.CMP_SITE_STATUS.MASKED_FIRST, R.CMP_SITE_FF_LO.FF_CYCLE_LO, R.CMP_SITE_FF_HI.FF_CYCLE_HI, R.CMP_SITE_FF_HI.FF_TILE, R.CMP_SITE_FF_VA.VA_SEG, R.CMP_SITE_FF_INFO.PASS_SLOT, R.CMP_SITE_FAILV.FAIL_VECTORS, R.LANE_STATUS.OVERSPEED, R.LANE_STATUS.DRIVE_BLOCKED])
  | .failRecordForm .. => some ([R.CMP_LOG_CTL.ARMED, R.CMP_LOG_STATUS.FULL, R.CMP_LOG_LOST.LOST])
  | .failLogWrite .. => some (shardFields ++ [R.NVM_STATUS.REPAIR_PENDING, R.NVM_STATUS.MAP_FULL, R.SPR_ROWS.ROWS, R.CMP_LOG_STATUS.WPTR])
  | .clearAll .. => some (refuseFields ++ [R.CMP_STATUS.TILE_FAIL, R.CMP_TILE_FAILS.FAILS, R.CMP_LANE_FAIL.FAILS, R.CMP_SITE_STATUS.FAIL, R.CMP_SITE_STATUS.TIMING_BROKEN, R.CMP_SITE_STATUS.MASKED_FIRST, R.CMP_SITE_FF_LO.FF_CYCLE_LO, R.CMP_SITE_FF_HI.FF_CYCLE_HI, R.CMP_SITE_FF_HI.FF_TILE, R.CMP_SITE_FF_VA.VA_SEG, R.CMP_SITE_FF_INFO.PASS_SLOT, R.CMP_SITE_FAILV.FAIL_VECTORS])
  | .clearFail .. | .clearTb .. => some (refuseFields ++ [R.CMP_SITE_CTL.MASK_ON_FIRST, R.CMP_SITE_CTL.CMP_OFF, R.CMP_SITE_CTL.LOG_EN, R.CMP_SITE_STATUS.FAIL, R.CMP_SITE_STATUS.TIMING_BROKEN, R.CMP_SITE_STATUS.MASKED_FIRST, R.CMP_SITE_FF_LO.FF_CYCLE_LO, R.CMP_SITE_FF_HI.FF_CYCLE_HI, R.CMP_SITE_FF_HI.FF_TILE, R.CMP_SITE_FF_VA.VA_SEG, R.CMP_SITE_FF_INFO.PASS_SLOT])
  | .logArm .. | .logDisarm .. => some (refuseFields ++ [R.CMP_LOG_CTL.MODE, R.CMP_LOG_CTL.ARMED, R.CMP_LOG_STATUS.WPTR, R.CMP_LOG_STATUS.FULL, R.CMP_LOG_STATUS.AREA_REFUSED])
  | .logAreaWrite .. => some (refuseFields ++ [R.CMP_LOG_AREA.BASE, R.CMP_LOG_AREA.BLOCKS, R.CMP_LOG_STATUS.AREA_REFUSED])
  | .bar2VectorWrite .. | .bar2CaptureWrite .. | .forerunnerVectorWrite .. => some (refuseFields ++ shardFields ++ [R.NVM_STATUS.REPAIR_PENDING, R.NVM_STATUS.MAP_FULL, R.SPR_ROWS.ROWS, R.SEG_STORE_STATUS.UE_WRITE, R.SEG_STORE_ERRADDR.ROW, R.SEG_STORE_ERRADDR.WORD, R.SEG_STORE_ERRADDR.SOURCE])
  | .bar2Read .. => some (shardFields ++ [R.NVM_STATUS.REPAIR_PENDING, R.NVM_STATUS.MAP_FULL, R.SPR_ROWS.ROWS, R.SEG_STORE_ERRADDR.ROW, R.SEG_STORE_ERRADDR.WORD, R.SEG_STORE_ERRADDR.SOURCE, R.HOST_ERR.POISON_TX])
  | .ctlwDataWrite .. => some (refuseFields ++ [R.SEG_CTLW_ADDR.ROW, R.SEG_STORE_STATUS.CTLW_OVERRUN])
  | .storeCfgWrite .. => some (refuseFields ++ [R.SEG_STORE_CFG.RING_BASE, R.SEG_STORE_CFG.UE_POLICY, R.SEG_STORE_CFG.SCRUB_EN, R.SEG_STORE_CFG.SCRUB_GAP, R.SEQ_LOAD.VALID, R.SEG_RING_STATUS.NEXT_TAG, R.SEG_RING_STATUS.NEXT_SLOT, R.SEG_SLOT.READY])
  | .scrubRow .. => some (shardFields ++ [R.NVM_STATUS.REPAIR_PENDING, R.NVM_STATUS.MAP_FULL, R.SPR_ROWS.ROWS, R.SEG_STORE_STATUS.CE_COUNT, R.SEG_STORE_STATUS.UE_COUNT, R.SEG_STORE_STATUS.UE_PLAY, R.SEG_STORE_ERRADDR.ROW, R.SEG_STORE_ERRADDR.WORD, R.SEG_STORE_ERRADDR.SOURCE])
  | .storeWindowWrite .. => some (refuseFields ++ [R.SEQ_LOAD.VALID, R.SEQ_MC.RELOAD_PENDING])
  | .step .. | .jump .. | .branch .. | .loop .. | .cntLoadImm .. | .cntLoadCinit .. | .cntIncrement .. | .cntDecrement .. | .wait .. | .setLset .. | .updateAll .. | .yield .. | .stopDrain .. | .stop .. | .atomicBegin .. | .atomicEnd .. | .mcTrap .. | .rsvClass .. => some (checkFields ++ [R.RED_DROP_ADC.DROPS, R.RED_DROP_SMU.DROPS, R.RED_DROP_TDC.DROPS, R.TDC_CTL.ARMED, R.TDC_CTL.STARTED, R.TDC_CTL.FIFO_COUNT, R.TDC_COUNT.EARLY_STOP, R.TDC_COUNT.RESTART, R.TDC_COUNT.LOST, R.FLS_STATUS.RANGE, R.SEQ_CNT.VALUE, R.ADC_STATUS.ENTRY, R.ADC_STATUS.BUSY, R.ADC_STATUS.TRIG_MISSED])
  | .cntSnapshot .. => some (checkFields ++ [R.RED_DROP_ADC.DROPS, R.RED_DROP_SMU.DROPS, R.RED_DROP_TDC.DROPS, R.TDC_CTL.ARMED, R.TDC_CTL.STARTED, R.TDC_CTL.FIFO_COUNT, R.TDC_COUNT.EARLY_STOP, R.TDC_COUNT.RESTART, R.TDC_COUNT.LOST, R.FLS_STATUS.RANGE, R.SEQ_CNT.VALUE, R.SEQ_CNT_SNAP.VALUE, R.ADC_STATUS.ENTRY, R.ADC_STATUS.BUSY, R.ADC_STATUS.TRIG_MISSED])
  | .play .. => some (checkFields ++ [R.SEG_RING_STATUS.NEXT_TAG, R.SEG_RING_STATUS.NEXT_SLOT, R.SEG_STATUS.TAG_ERROR, R.SEG_COUNT2.TAG_ERRORS, R.RED_DROP_ADC.DROPS, R.RED_DROP_SMU.DROPS, R.RED_DROP_TDC.DROPS, R.TDC_CTL.ARMED, R.TDC_CTL.STARTED, R.TDC_CTL.FIFO_COUNT, R.TDC_COUNT.EARLY_STOP, R.TDC_COUNT.RESTART, R.TDC_COUNT.LOST, R.FLS_STATUS.RANGE, R.SEQ_CNT.VALUE, R.ADC_STATUS.ENTRY, R.ADC_STATUS.BUSY, R.ADC_STATUS.TRIG_MISSED])
  | .waitConditionMet .. | .waitTimeout .. | .waitWake .. => some ([R.SEQ_STATUS.STATE])
  | .measureOpen .. | .measureClose .. => some (checkFields ++ [R.NVM_STATUS.REPAIR_PENDING, R.NVM_STATUS.MAP_FULL, R.SPR_ROWS.ROWS, R.SEQ_STATUS.MEASURE_REFUSED, R.RED_DROP_ADC.DROPS, R.RED_DROP_SMU.DROPS, R.RED_DROP_TDC.DROPS, R.TDC_CTL.ARMED, R.TDC_CTL.STARTED, R.TDC_CTL.FIFO_COUNT, R.TDC_COUNT.EARLY_STOP, R.TDC_COUNT.RESTART, R.TDC_COUNT.LOST, R.FLS_STATUS.RANGE, R.SEQ_CNT.VALUE, R.ADC_STATUS.ENTRY, R.ADC_STATUS.BUSY, R.ADC_STATUS.TRIG_MISSED, R.RED_GRP_STATUS.FULL, R.RED_GRP_STATUS.PENDING])
  | .eventVector .. => some (checkFields ++ [R.SEQ_STACK.RETURN, R.SEQ_STACK.LEVEL, R.SEQ_STACK.BASE, R.SEQ_STACK.IN_FLIGHT, R.SEQ_STACK.ATOMIC])
  | .rete .. => some (checkFields ++ [R.RED_DROP_ADC.DROPS, R.RED_DROP_SMU.DROPS, R.RED_DROP_TDC.DROPS, R.TDC_CTL.ARMED, R.TDC_CTL.STARTED, R.TDC_CTL.FIFO_COUNT, R.TDC_COUNT.EARLY_STOP, R.TDC_COUNT.RESTART, R.TDC_COUNT.LOST, R.FLS_STATUS.RANGE, R.SEQ_CNT.VALUE, R.SEQ_STACK.RETURN, R.SEQ_STACK.LEVEL, R.SEQ_STACK.BASE, R.SEQ_STACK.IN_FLIGHT, R.SEQ_STACK.ATOMIC, R.ADC_STATUS.ENTRY, R.ADC_STATUS.BUSY, R.ADC_STATUS.TRIG_MISSED])
  | .watchdog .. => some (checkFields)
  | .nanoWordEffect .. => some ([R.LANE_FE.SWAP_REFUSED, R.LVL_PPMU_CODE.CODE, R.LVL_STATUS.LIMIT_REFUSED, R.TS_STATUS.EDGE_DROP, R.TS_STATUS.WINDOW_TRUNC, R.TS_DROP_COUNT.EDGE_DROP, R.TS_DROP_COUNT.WINDOW_TRUNC, R.SEQ_STATUS.NANO_MERGE, R.RED_DROP_ADC.DROPS, R.RED_DROP_SMU.DROPS, R.RED_DROP_TDC.DROPS, R.TDC_CTL.ARMED, R.TDC_CTL.STARTED, R.TDC_CTL.FIFO_COUNT, R.TDC_COUNT.EARLY_STOP, R.TDC_COUNT.RESTART, R.TDC_COUNT.LOST, R.CAL_RESULT.DEFERRED, R.SEQ_CNT.VALUE, R.LANE_STATUS.OVERSPEED, R.LANE_STATUS.DRIVE_BLOCKED, R.ADC_STATUS.ENTRY, R.ADC_STATUS.BUSY, R.ADC_STATUS.TRIG_MISSED])
  | .loaderCheck .. | .seqScrub .. => some (refuseFields ++ [R.SEQ_LOAD.STATUS])
  | .loaderCheckDone .. => some ([R.SEQ_LOAD.STATUS, R.SEQ_LOAD.VALID, R.SEQ_LOAD.WHERE, R.SEQ_LOAD.REASON, R.SEQ_LOAD.DETAIL, R.SEG_CHECK.CAUSE])
  | .seqScrubDone .. => some (shardFields ++ [R.NVM_STATUS.REPAIR_PENDING, R.NVM_STATUS.MAP_FULL, R.SPR_ROWS.ROWS, R.SEQ_LOAD.STATUS, R.SEQ_LOAD.VALID, R.SEQ_LOAD.DETAIL, R.SEQ_MC.RELOAD_PENDING])
  | .jumpRequestGo .. => some (refuseFields ++ [R.SEG_RING_STATUS.NEXT_TAG, R.SEG_RING_STATUS.NEXT_SLOT, R.SEG_JUMP.TARGET, R.SEG_JUMP.FLUSH, R.SEG_JUMP.PENDING, R.SEG_JUMP.REFUSED, R.SEG_JUMP.SRC_EN, R.SEG_JUMP.SRC, R.SEG_STATUS.PHASE, R.SEG_STATUS.QUEUE_COUNT, R.SEG_STATUS.COMMITTED, R.SEG_STATUS.SUCC_SEG, R.SEG_STATUS.TAG_ERROR, R.SEG_COUNT.JUMP_LATE, R.SEG_COUNT2.TAG_ERRORS])
  | .jumpSrcEdge .. => some ([R.SEG_RING_STATUS.NEXT_TAG, R.SEG_RING_STATUS.NEXT_SLOT, R.SEG_JUMP.PENDING, R.SEG_JUMP.REFUSED, R.SEG_STATUS.PHASE, R.SEG_STATUS.QUEUE_COUNT, R.SEG_STATUS.COMMITTED, R.SEG_STATUS.SUCC_SEG, R.SEG_STATUS.TAG_ERROR, R.SEG_COUNT.JUMP_LATE, R.SEG_COUNT2.TAG_ERRORS])
  | .ringReset .. => some (refuseFields ++ [R.SEG_RING_STATUS.NEXT_TAG, R.SEG_RING_STATUS.NEXT_SLOT, R.SEG_SLOT.READY])
  | .ringCfgWrite .. => some (refuseFields ++ [R.SEQ_LOAD.VALID, R.SEG_RING_CFG.SLOT_SIZE, R.SEG_RING_CFG.LOW_WATER, R.SEG_RING_STATUS.NEXT_TAG, R.SEG_RING_STATUS.NEXT_SLOT, R.SEG_SLOT.READY])
  | .slotWrite .. => some (refuseFields ++ [R.SEG_SLOT.TAG, R.SEG_SLOT.READY, R.SEG_SLOT.LAST])
  | .octMatrixWrite .. => some (refuseFields ++ [R.LANE_FE.SWAP_REFUSED, R.LVL_PPMU_CODE.CODE, R.LVL_STATUS.LIMIT_REFUSED, R.CAL_RESULT.DEFERRED, R.SMU_FORCE_STATUS.LIMIT_REFUSED, R.LANE_STATUS.DRIVE_BLOCKED, R.OCT_MATRIX.LANE_SEL, R.OCT_MATRIX.BALL_EN, R.OCT_STATUS.CONFLICT, R.OCT_STATUS.DROPPED, R.OCT_STATUS.BALL_UNAVAIL])
  | .smuCompliance .. => some ([R.SMU_STATUS.IN_COMPLIANCE, R.SMU_STATUS.COMPLIANCE_HIT])
  | .smuSenseFault .. => some ([R.SMU_STATUS.SENSE_FAULT, R.SMU_STATUS.LOCAL_SENSE])
  | .smuSenseRestore .. => some (refuseFields ++ [R.SMU_STATUS.COMPLIANCE_HIT, R.SMU_STATUS.MON_LATCH, R.SMU_STATUS.SENSE_FAULT, R.SMU_STATUS.LOCAL_SENSE])
  | .adcGo .. | .adcStop .. => some (refuseFields ++ [R.CAL_RESULT.DEFERRED, R.ADC_CTL.LEN_M1, R.ADC_CTL.MODE, R.ADC_CTL.TRIG, R.ADC_CTL.TRIG_SEL, R.ADC_STATUS.ENTRY, R.ADC_STATUS.BUSY, R.ADC_STATUS.TRIG_MISSED])
  | .adcSlot .. => some ([R.RED_DROP_ADC.DROPS, R.RED_DROP_SMU.DROPS, R.RED_DROP_TDC.DROPS, R.ADC_STATUS.ENTRY, R.ADC_STATUS.BUSY, R.ADC_STATUS.FIFO_COUNT, R.ADC_LOST.LOST])
  | .adcFifoRead .. => some ([R.ADC_STATUS.FIFO_COUNT, R.ADC_FIFO_TIME_LO.TIME_LO, R.ADC_FIFO_TIME_HI.TIME_HI])
  | .smuConversion .. => some ([R.RED_DROP_ADC.DROPS, R.RED_DROP_SMU.DROPS, R.RED_DROP_TDC.DROPS, R.SMU_STATUS.MON_LATCH, R.SMU_STATUS.MON_UNSETTLED, R.SMU_LOST.LOST])
  | .smuFifoRead .. => some ([R.SMU_FIFO_TIME_LO.TIME_LO, R.SMU_FIFO_TIME_HI.TIME_HI])
  | .dpsOutEn .. => some (refuseFields ++ [R.DPS_CTL.OUT_EN, R.DPS_CTL.IRANGE, R.DPS_CTL.FORCE_LOCAL, R.CAL_RESULT.DEFERRED])
  | .dpsSample .. => some ([R.DPS_STATUS.IN_LIMIT, R.DPS_STATUS.LIMIT_HIT, R.DPS_STATUS.FOLDED, R.DPS_STATUS.TRIPPED, R.DPS_STATUS.MON_I_LATCH, R.DPS_STATUS.MON_V_LATCH, R.DPS_STATUS.MON_I_UNSETTLED, R.DPS_STATUS.MON_V_UNSETTLED, R.DPS_STATUS.MON_OPENED, R.DPS_STATUS.FAULT_MEMBER, R.DPS_MEAS_I.CODE, R.DPS_MEAS_I.SUSPECT, R.DPS_MEAS_I.GANG, R.DPS_MEAS_V.CODE, R.DPS_MEAS_V.SUSPECT])
  | .dpsHwTrip .. => some ([R.DPS_STATUS.IN_LIMIT, R.DPS_STATUS.HW_TRIP, R.DPS_STATUS.FAULT_MEMBER])
  | .dpsSenseFault .. => some ([R.DPS_STATUS.SENSE_FAULT, R.DPS_STATUS.LOCAL_SENSE, R.DPS_STATUS.FAULT_MEMBER])
  | .dpsSenseRestore .. | .dpsRestart .. => some (refuseFields ++ [R.DPS_STATUS.LIMIT_HIT, R.DPS_STATUS.FOLDED, R.DPS_STATUS.TRIPPED, R.DPS_STATUS.HW_TRIP, R.DPS_STATUS.SENSE_FAULT, R.DPS_STATUS.LOCAL_SENSE, R.DPS_STATUS.SUPPLY_LOSS, R.DPS_STATUS.MON_I_LATCH, R.DPS_STATUS.MON_V_LATCH, R.DPS_STATUS.MON_I_UNSETTLED, R.DPS_STATUS.MON_V_UNSETTLED, R.DPS_STATUS.MON_OPENED, R.CAL_RESULT.DEFERRED])
  | .dpsPowerEstimate .. => some ([R.DPS_STATUS.QUAD_PWR])
  | .tdcArm .. | .tdcDisarm .. => some (refuseFields ++ [R.TDC_CTL.ARMED, R.TDC_CTL.STARTED, R.CAL_RESULT.DEFERRED])
  | .tdcStartEdge .. | .tevPulseEnd .. => some ([R.RED_DROP_ADC.DROPS, R.RED_DROP_SMU.DROPS, R.RED_DROP_TDC.DROPS, R.TDC_CTL.ARMED, R.TDC_CTL.STARTED, R.TDC_CTL.FIFO_COUNT, R.TDC_COUNT.EARLY_STOP, R.TDC_COUNT.RESTART, R.TDC_COUNT.LOST])
  | .tdcStopEdge .. => some ([R.RED_DROP_ADC.DROPS, R.RED_DROP_SMU.DROPS, R.RED_DROP_TDC.DROPS, R.TDC_CTL.ARMED, R.TDC_CTL.STARTED, R.TDC_CTL.FIFO_COUNT, R.TDC_COUNT.EARLY_STOP, R.TDC_COUNT.LOST])
  | .tdcGateClose .. | .tdcOverrange .. => some ([R.RED_DROP_ADC.DROPS, R.RED_DROP_SMU.DROPS, R.RED_DROP_TDC.DROPS, R.TDC_CTL.ARMED, R.TDC_CTL.STARTED, R.TDC_CTL.FIFO_COUNT, R.TDC_COUNT.LOST])
  | .tdcResRead .. => some ([R.TDC_CTL.FIFO_COUNT, R.TDC_RES_LO.VALUE_LO, R.TDC_RES_HI.VALUE_HI, R.TDC_RES_HI.SUB_BIN, R.TDC_RES_HI.UNREFERENCED, R.TDC_RES_HI.UNCAL, R.TDC_RES_HI.OVERRANGE, R.TDC_RES_HI.FEW_EDGES, R.TDC_RES_HI.MODE, R.TDC_RES_HI.VALID, R.TDC_RES_COUNT.COUNT, R.TDC_RES_TIME_LO.TIME_LO, R.TDC_RES_TIME_HI.TIME_HI])
  | .redOpen .. | .redClose .. | .redAbort .. => some (refuseFields ++ shardFields ++ [R.NVM_STATUS.REPAIR_PENDING, R.NVM_STATUS.MAP_FULL, R.SPR_ROWS.ROWS, R.RED_CMD.REFUSED, R.RED_GRP_STATUS.FULL, R.RED_GRP_STATUS.PENDING])
  | .contextUpdate .. => some (spareFields ++ [R.SPR_ROWS.ROWS, R.RED_NOT_OPEN.COUNT, R.RED_GRP_STATUS.FULL, R.RED_GRP_STATUS.PENDING])
  | .resultRecordWrite .. => some (shardFields ++ [R.NVM_STATUS.REPAIR_PENDING, R.NVM_STATUS.MAP_FULL, R.SPR_ROWS.ROWS, R.RED_GRP_WPTR.WPTR, R.RED_GRP_STATUS.FULL, R.RED_GRP_STATUS.PENDING])
  | .acqArm .. | .acqDisarm .. | .acqForce .. => some (refuseFields ++ [R.ACQ_CTL.REARM, R.ACQ_CTL.STATE, R.ACQ_CTL.ARM_REFUSED, R.ACQ_CTL.ARM_CAUSE, R.ACQ_FRAME.UNITS, R.ACQ_RING.SLOTS, R.ACQ_WPTR.WPTR])
  | .armingDone .. => some ([R.ACQ_CTL.STATE])
  | .acqSampleEvaluate .. => some (shardFields ++ [R.NVM_STATUS.REPAIR_PENDING, R.NVM_STATUS.MAP_FULL, R.SPR_ROWS.ROWS, R.ACQ_CTL.STATE, R.ACQ_COUNT.MISSED])
  | .acqFrameClose .. => some (shardFields ++ [R.NVM_STATUS.REPAIR_PENDING, R.NVM_STATUS.MAP_FULL, R.SPR_ROWS.ROWS, R.ACQ_CTL.STATE, R.ACQ_WPTR.WPTR, R.ACQ_COUNT.FRAMES])
  | .acqRptrWrite .. => some (refuseFields ++ [R.ACQ_CTL.STATE, R.ACQ_RPTR.RPTR])
  | .eventSet .. | .eventClear .. => some (refuseFields)
  | .routeWrite .. => some (refuseFields ++ [R.EVH_STATUS.ROUTE_REFUSED, R.EVH_SRC_CFG.ENABLE, R.EVH_SRC_CFG.PRIORITY, R.EVH_SRC_CFG.TARGET, R.EVH_SRC_CFG.HOLDOFF_GROUP])
  | .queueRecordForm .. => some ([R.EVH_HOLDOFF.RUNNING, R.EVH_Q_WPTR.WPTR, R.EVH_Q_WPTR.PHASE, R.EVH_Q_STATUS.FULL, R.EVH_Q_STATUS.NOTIFY_WITHHELD, R.EVH_Q_STATUS.RECORDS])
  | .queueWriteError .. => some ([R.SAG_OVER.CAPTURE, R.SAG_OVER.CONTEXT, R.SAG_OVER.QUEUE, R.EVH_Q_CFG.EN, R.EVH_Q_STATUS.FULL, R.EVH_Q_STATUS.NOTIFY_WITHHELD, R.EVH_Q_STATUS.ERROR])
  | .evhQRptrWrite .. => some (refuseFields ++ [R.EVH_HOLDOFF.RUNNING, R.EVH_Q_RPTR.RPTR, R.EVH_Q_STATUS.FULL, R.EVH_Q_STATUS.NOTIFY_WITHHELD])
  | .evhQEnable .. | .evhQDisable .. => some (refuseFields ++ [R.SAG_OVER.CAPTURE, R.SAG_OVER.CONTEXT, R.SAG_OVER.QUEUE, R.EVH_Q_CFG.EN, R.EVH_Q_CFG.SIZE_LOG2, R.EVH_Q_WPTR.WPTR, R.EVH_Q_WPTR.PHASE, R.EVH_Q_RPTR.RPTR, R.EVH_Q_STATUS.FULL, R.EVH_Q_STATUS.NOTIFY_WITHHELD])
  | .holdoffExpire .. => some ([R.EVH_HOLDOFF.RUNNING, R.EVH_Q_STATUS.NOTIFY_WITHHELD])
  | .addendCommit .. => some (refuseFields ++ [R.TIME_ADDEND_HI.ADDEND_HI, R.TIME_QUAL.ADDEND_REFUSED])
  | .timeAdjStart .. => some (refuseFields ++ [R.TIME_QUAL.ADDEND_REFUSED])
  | .timeStepGo .. => some (refuseFields ++ [R.TIME_STEP_CTL.MODE, R.TIME_STEP_CTL.BUSY, R.TIME_STEP_CTL.REFUSED])
  | .timeStepApply => some ([R.TIME_QUAL.HOST_STATE, R.TIME_QUAL.STEPPED, R.LANE_FE.ACTIVE_FE, R.RED_DROP_ADC.DROPS, R.RED_DROP_SMU.DROPS, R.RED_DROP_TDC.DROPS, R.TDC_CTL.ARMED, R.TDC_CTL.STARTED, R.TDC_CTL.FIFO_COUNT, R.TDC_COUNT.EARLY_STOP, R.TDC_COUNT.RESTART, R.TDC_COUNT.LOST, R.TIME_STEP_CTL.BUSY, R.TIME_STEP_CTL.REFUSED, R.TEV_CTL.ARMED, R.TEV_CTL.LATE, R.TEV_COUNT.FIRED, R.TEV_COUNT.SKIPPED, R.CAL_RESULT.DEFERRED, R.ADC_STATUS.ENTRY, R.ADC_STATUS.BUSY, R.ADC_STATUS.TRIG_MISSED])
  | .timeQualWrite .. | .refresh .. => some (refuseFields ++ [R.TIME_QUAL.HOST_STATE, R.TIME_QUAL.ADDEND_REFUSED, R.TIME_QUAL.SYNC_TIMEOUT])
  | .syncTimeout => some ([R.TIME_QUAL.HOST_STATE])
  | .portLinkChange .. => some ([R.TIME_PORT_STATUS.LINK])
  | .frameReceive .. => some ([R.TIME_PORT_RX.COUNT, R.TIME_PORT_DROP.TYPE, R.TIME_PORT_DROP.ADDR, R.TIME_PORT_DROP.SIZE, R.TIME_PORT_DROP.FULL, R.TIME_PORT_ERR.FCS])
  | .rxPop .. => some (refuseFields ++ [R.TIME_PORT_RX.HEAD, R.TIME_PORT_RX.COUNT])
  | .txGo .. => some (refuseFields ++ [R.TIME_PORT_STATUS.TX_REFUSED, R.TIME_PORT_STATUS.TX_BUSY, R.TIME_PORT_TX.SLOT, R.TIME_PORT_TX.ONE_STEP, R.TIME_PORT_TX.STAMP, R.TIME_PORT_TX.TAG])
  | .txDone .. => some ([R.TIME_PORT_STATUS.TX_BUSY, R.TIME_PORT_ERR.TX_LOST])
  | .txStampRead .. => some ([R.TX_STAMP_NS.NS, R.TX_STAMP_SEC_LO.SEC_LO, R.TX_STAMP_SEC_HI.SEC_HI, R.TX_STAMP_SEC_HI.TAG])
  | .tevArm .. | .tevDisarm .. => some (refuseFields ++ [R.DEV_START.ARMED, R.DEV_START.REFUSED, R.TEV_CTL.ARMED, R.TEV_CTL.ARM_REFUSED, R.TEV_CTL.CAUSE, R.TEV_CTL.LATE, R.SAG_START.ARMED, R.SAG_START.REFUSED])
  | .tevFire .. => some ([R.RED_DROP_ADC.DROPS, R.RED_DROP_SMU.DROPS, R.RED_DROP_TDC.DROPS, R.TDC_CTL.ARMED, R.TDC_CTL.STARTED, R.TDC_CTL.FIFO_COUNT, R.TDC_COUNT.EARLY_STOP, R.TDC_COUNT.RESTART, R.TDC_COUNT.LOST, R.TEV_CTL.ARMED, R.TEV_COUNT.FIRED, R.CAL_RESULT.DEFERRED, R.ADC_STATUS.ENTRY, R.ADC_STATUS.BUSY, R.ADC_STATUS.TRIG_MISSED])
  | .quotaWrite .. => some (refuseFields ++ [R.SAG_QUOTA_A.CAPTURE_BLOCKS, R.SAG_QUOTA_A.CONTEXT_GROUPS, R.SAG_QUOTA_B.STREAM_SHARE, R.SAG_QUOTA_B.QUEUE_DEPTH_LOG2, R.SAG_OVER.CAPTURE, R.SAG_OVER.CONTEXT, R.SAG_OVER.QUEUE, R.SAG_OVER.QUOTA_REFUSED])
  | .allot .. | .release .. => some (refuseFields ++ [R.SAG_ALLOT.INDEX, R.SAG_ALLOT.KIND, R.SAG_ALLOT.SAGGAR, R.SAG_ALLOT.OP, R.SAG_ALLOT.STATUS, R.SAG_ALLOT.CAUSE, R.SAG_USE.BLOCKS, R.SAG_USE.GROUPS, R.SAG_OVER.CAPTURE, R.SAG_OVER.CONTEXT, R.SAG_OVER.QUEUE, R.SAG_BLK_OWNER.SAGGAR, R.SAG_BLK_OWNER.ALLOTTED, R.SAG_BLK_OWNER.CLEARING, R.SAG_GRP_OWNER.SAGGAR, R.SAG_GRP_OWNER.ALLOTTED, R.SAG_GRP_OWNER.DRAINING, R.RED_GRP_AREA.BASE, R.RED_GRP_AREA.BLOCKS, R.RED_GRP_WPTR.WPTR, R.RED_GRP_RPTR.RPTR, R.RED_GRP_STATUS.FULL, R.RED_GRP_STATUS.AREA_REFUSED, R.RED_GRP_STATUS.PENDING])
  | .blockClearDone .. => some ([R.SAG_BLK_OWNER.SAGGAR, R.SAG_BLK_OWNER.ALLOTTED, R.SAG_BLK_OWNER.CLEARING])
  | .groupRelease .. => some ([R.SAG_USE.GROUPS, R.SAG_OVER.CAPTURE, R.SAG_OVER.CONTEXT, R.SAG_OVER.QUEUE, R.SAG_GRP_OWNER.SAGGAR, R.SAG_GRP_OWNER.ALLOTTED, R.SAG_GRP_OWNER.DRAINING, R.RED_GRP_AREA.BASE, R.RED_GRP_AREA.BLOCKS, R.RED_GRP_WPTR.WPTR, R.RED_GRP_RPTR.RPTR, R.RED_GRP_STATUS.FULL, R.RED_GRP_STATUS.AREA_REFUSED, R.RED_GRP_STATUS.PENDING])
  | .dmaRingEnable .. | .dmaRingDisable .. => some (refuseFields ++ [R.HOST_DMA_CFG.EN, R.HOST_DMA_CFG.SIZE_LOG2, R.HOST_DMA_TAIL.TAIL, R.HOST_DMA_HEAD.HEAD])
  | .dmaTailWrite .. => some (refuseFields ++ [R.HOST_DMA_TAIL.TAIL])
  | .nop .. => some ([R.HOST_DMA_STATUS.BUSY])
  | .streamRefill .. | .residentLoad .. => some ([R.SEG_SLOT.TAG, R.SEG_SLOT.READY, R.SEG_SLOT.LAST, R.HOST_DMA_STATUS.BUSY])
  | .upload .. => some (shardFields ++ [R.NVM_STATUS.REPAIR_PENDING, R.NVM_STATUS.MAP_FULL, R.SPR_ROWS.ROWS, R.HOST_ERR.POISON_TX, R.HOST_DMA_STATUS.BUSY])
  | .descriptorComplete .. => some ([R.HOST_DMA_HEAD.HEAD, R.HOST_DMA_STATUS.BUSY, R.HOST_DMA_STATUS.LAST_CODE, R.HOST_DMA_STATUS.DONE_COUNT])
  | .dmaHostError .. => some ([R.HOST_ERR.CPL_TIMEOUT, R.HOST_DMA_CFG.EN, R.HOST_DMA_STATUS.ERROR, R.HOST_DMA_STATUS.BUSY, R.HOST_DMA_STATUS.LAST_CODE])
  | .spiWriteFrame .. | .spiStatusFrame | .spiReservedCommand .. | .spiHeaderFrame .. => some ([R.SPIS_STATUS.LAST, R.SPIS_STATUS.REJECT_CAUSE, R.SPIS_COUNT.FRAMES, R.SPIS_COUNT.REJECTS])
  | .spiReadFrame .. => some ([R.SPIS_STATUS.LAST, R.SPIS_STATUS.REJECT_CAUSE, R.SPIS_COUNT.FRAMES, R.SPIS_COUNT.REJECTS, R.TDC_CTL.FIFO_COUNT, R.TDC_RES_LO.VALUE_LO, R.TDC_RES_HI.VALUE_HI, R.TDC_RES_HI.SUB_BIN, R.TDC_RES_HI.UNREFERENCED, R.TDC_RES_HI.UNCAL, R.TDC_RES_HI.OVERRANGE, R.TDC_RES_HI.FEW_EDGES, R.TDC_RES_HI.MODE, R.TDC_RES_HI.VALID, R.TDC_RES_COUNT.COUNT, R.TDC_RES_TIME_LO.TIME_LO, R.TDC_RES_TIME_HI.TIME_HI, R.TX_STAMP_NS.NS, R.TX_STAMP_SEC_LO.SEC_LO, R.TX_STAMP_SEC_HI.SEC_HI, R.TX_STAMP_SEC_HI.TAG, R.FLS_STATUS.RANGE, R.FLS_STATUS.WIN_BUSY_READ, R.ADC_STATUS.FIFO_COUNT, R.ADC_FIFO_TIME_LO.TIME_LO, R.ADC_FIFO_TIME_HI.TIME_HI, R.SMU_FIFO_TIME_LO.TIME_LO, R.SMU_FIFO_TIME_HI.TIME_HI] ++ countFields)
  | .flashLockReq .. | .flashLockRelease .. => some (refuseFields ++ [R.FLS_LOCK.HOLDER, R.FLS_LOCK.REFUSED])
  | .flashCmdGo .. => some (refuseFields ++ [R.FLS_CMD.OPCODE, R.FLS_CMD.ADDR_BYTES, R.FLS_CMD.DUMMY, R.FLS_CMD.DATA_LEN, R.FLS_CMD.DIR, R.FLS_CMD.WREN, R.FLS_CMD.POLL, R.FLS_CMD.STATUS, R.FLS_STATUS.BUSY])
  | .flashCmdDone .. => some ([R.FLS_CMD.STATUS, R.FLS_STATUS.BUSY, R.FLS_STATUS.LAST_SR, R.FLS_BUF.DATA])
  | .flashWindowRead .. => some ([R.FLS_STATUS.RANGE, R.FLS_STATUS.WIN_BUSY_READ])
  | .flashWindowWrite .. => some (refuseFields ++ [R.FLS_STATUS.BUSY, R.FLS_STATUS.RANGE, R.FLS_STATUS.WIN_WRITE_REFUSED])
  | .flashProgramDone .. => some ([R.FLS_STATUS.BUSY, R.FLS_STATUS.LAST_SR])
  | .flashPollTimeout .. => some ([R.FLS_CMD.STATUS, R.FLS_STATUS.BUSY, R.FLS_STATUS.POLL_TIMEOUT, R.FLS_STATUS.LAST_SR])
  | .calReq .. | .calAbort .. => some (refuseFields ++ [R.CAL_CTL.AUTO_EN, R.CAL_CTL.SHADOW_EN, R.CAL_CTL.GAP_EN, R.CAL_CTL.REQ_PENDING, R.CAL_CTL.CAL_DT, R.CAL_CTL.RUN_LIMIT, R.LANE_STATUS.DRIVE_BLOCKED])
  | .calStepDone .. => some (spareFields ++ [R.DEV_STARTUP.FAIL_COUNT, R.CAL_CTL.REQ_PENDING, R.CAL_STATUS.FIRST_DONE, R.CAL_STATUS.DUE, R.CAL_STATUS.SPINE_FAIL, R.CAL_COUNT.COUNT, R.CAL_LAST_TIME_LO.TIME_LO, R.CAL_LAST_TIME_HI.TIME_HI, R.CAL_TEMP.T_REF, R.CAL_RESULT.SKIPPED, R.CAL_RESULT2.FAILED, R.CAL_RESULT2.WORN, R.CAL_SPINE.VERR, R.CAL_SPINE.TERR, R.CAL_SKIP_LAST.PLACE, R.CAL_SKIP_LAST.CAUSE, R.LANE_STATUS.DRIVE_BLOCKED])
  | .calRetry .. => some (shardFields ++ [R.CAL_CTL.REQ_PENDING, R.CAL_STATUS.FIRST_DONE, R.CAL_STATUS.DUE, R.CAL_STATUS.SPINE_FAIL, R.CAL_COUNT.COUNT, R.CAL_LAST_TIME_LO.TIME_LO, R.CAL_LAST_TIME_HI.TIME_HI, R.CAL_TEMP.T_REF, R.CAL_RESULT.SKIPPED, R.CAL_SPINE.VERR, R.CAL_SPINE.TERR, R.CAL_SKIP_LAST.PLACE, R.CAL_SKIP_LAST.CAUSE])
  | .calRunLimit .. => some ([R.CAL_CTL.REQ_PENDING, R.CAL_STATUS.FIRST_DONE, R.CAL_STATUS.DUE, R.CAL_COUNT.COUNT, R.CAL_LAST_TIME_LO.TIME_LO, R.CAL_LAST_TIME_HI.TIME_HI, R.CAL_TEMP.T_REF, R.CAL_RESULT.DEFERRED])
  | .calBudgetExpire => some (shardFields ++ [R.CAL_CTL.REQ_PENDING, R.CAL_STATUS.FIRST_DONE, R.CAL_STATUS.DUE, R.CAL_COUNT.COUNT, R.CAL_LAST_TIME_LO.TIME_LO, R.CAL_LAST_TIME_HI.TIME_HI, R.CAL_TEMP.T_REF, R.CAL_RESULT.SKIPPED, R.CAL_SKIP_LAST.PLACE, R.CAL_SKIP_LAST.CAUSE])
  | .sensorReadmit .. => some (refuseFields ++ [R.THS_BROKEN.BROKEN])
  | .markWorn .. | .markFailed .. | .sprSelfTest .. => some (spareFields ++ refuseFields ++ [R.SPR_CMD.PLACE, R.SPR_CMD.STATUS])
  | .selfTestDone .. => some (spareFields ++ [R.DEV_STARTUP.FAIL_COUNT, R.SPR_CMD.STATUS])
  | .spareIn .. => some (spareFields)
  | .repairMapWrite => some ([R.NVM_STATUS.BUSY, R.NVM_STATUS.REPAIR_PENDING, R.DEV_STARTUP.REPAIR_DEFERRED])
  | .nvmRead .. | .nvmUserWrite .. => some (refuseFields ++ [R.NVM_SEQ.SEQ, R.NVM_STATUS.BUSY, R.NVM_CMD.KIND, R.NVM_CMD.VALID, R.NVM_CMD.ERR, R.NVM_CMD.STATUS, R.NVM_CMD.WAIT_WINDOW, R.NVM_BUF.DATA])
  | .nvmWriteDone .. => some (shardFields ++ [R.NVM_STATUS.BUSY, R.NVM_STATUS.DIR_FAIL, R.NVM_STATUS.SPARE_PAGES, R.NVM_CMD.ERR, R.NVM_CMD.STATUS, R.NVM_CMD.WAIT_WINDOW])
  | .forerunnerStart .. => some (startFields ++ [R.DEV_LEGACY.THERMAL_DISCARD])
  | .forerunnerStop .. | .forerunnerReset .. => some (stopFields)
  | .forerunnerCalibrate .. => some ([R.CAL_CTL.REQ_PENDING])
  | .forerunnerTimingWrite .. => some (refuseFields ++ [R.DEV_LEGACY.REFUSED_PERIOD])
  | .forerunnerLevelWrite .. => some (refuseFields ++ [R.LANE_FE.SWAP_REFUSED, R.LVL_SPAN.SPAN, R.LVL_PPMU_CODE.CODE, R.LVL_STATUS.LIMIT_REFUSED, R.LVL_SET.CODE_A, R.LVL_SET.CODE_B, R.CAL_RESULT.DEFERRED, R.LANE_STATUS.DRIVE_BLOCKED])
  | .timeTick => some ([R.LANE_FE.ACTIVE_FE])
  | .railGood .. => some ([R.DEV_CLK.REF_PRESENT, R.DEV_STRAP.SAMPLED, R.LANE_STATUS.DRIVE_BLOCKED])

end Sys2Proof.Machine
end

