-- ==== Sys2Proof/Certificates/Slice0/Obligations.lean ====
section
/-! DEFINITION. The statements about the device, each from the rules of the manual that its comment names. -/

open Sys2Proof Sys2Proof.Machine

/-- A step takes the command at the front of the queue and runs it on the state with the rest of the queue; with an empty queue the device idles. The queue is the model's own. -/
def Obligations.StepRunsFront : Prop :=
  (∀ (c : Instr) (r : List Instr) (s : State), step { s with pending := c :: r } = exec c { s with pending := r }) ∧
  ∀ s : State, s.pending = [] → step s = .next s

/-- No command faults or is refused by the model: in every state each answers a next state, and leaves the queue as it is. -/
def Obligations.EveryCommandCompletes : Prop :=
  ∀ (c : Instr) (s : State), ∃ t, exec c s = .next t ∧ t.pending = s.pending

/-- Each command leaves every part of the state unchanged but those that its row of the table of parts lists. -/
def Obligations.CommandsKeepOtherParts : Prop :=
  ∀ (c : Instr) (s t : State), exec c s = .next t → s.keeps t (partsOf c)

/-- Each command leaves every register field unchanged but those that its row of the table of fields lists; a reset of many registers, a register write and the round of the housekeeping program have no row. -/
def Obligations.CommandsKeepOtherFields : Prop :=
  ∀ (c : Instr) (l : List Fld) (s t : State), fieldsOf c = some l → exec c s = .next t → s.keepsFields t l

/-- Where an AON reset leaves the device (R101), and where each of the other resets leaves it: what it opens, what it clears and what survives. -/
def Obligations.ResetScopes : Prop :=
  (∀ s : State, ∃ t, exec .aonReset s = .next t ∧ t.m.mode = .safe ∧ t.m.trip = false ∧ t.image = none ∧ t.clock = State.reset.clock ∧ t.log.mirror = [] ∧
      t.fuses = s.fuses ∧ (s.nvm.job = none → t.nvm.cells = s.nvm.cells) ∧ t.rd R.DEV_RESET_CAUSE.AON 0 = 1 ∧ t.rd R.DEV_RESET_CAUSE.POR 0 = 0 ∧
      (∀ l, (t.lane l).closed = false) ∧ ∀ d, (t.dps d).closed = false) ∧
  (∀ s : State, s.m.porst = false → ∃ t, exec .porstAssert s = .next t ∧ t.m.porst = true ∧ t.m.trip = s.m.trip ∧ t.image = none ∧ t.log.mirror = s.log.mirror ∧
      t.fuses = s.fuses ∧ (s.nvm.job = none → t.nvm.cells = s.nvm.cells) ∧ t.rd R.DEV_RESET_CAUSE.POR 0 = 1 ∧
      (∀ (f : Fld) (i : Nat), f.key < firstPor → f.slot i ≠ R.DEV_RESET_CAUSE.POR.slot 0 → t.rd f i = s.rd f i) ∧
      (∀ (f : Fld) (i : Nat), firstPor ≤ f.key → f.key < 1024 → t.rd f i = f.reset i) ∧
      (∀ l, (t.lane l).closed = false) ∧ ∀ d, (t.dps d).closed = false) ∧
  (∀ (s : State) (rail : Fin 8), (rail.val = 1 ∨ rail.val = 2) → rail.val ∉ s.m.badRails → s.m.beforeSafe = false →
      ∃ t, exec (.railFail rail) s = .next t ∧ rail.val ∈ t.m.badRails ∧ t.image = none ∧ t.log.mirror = s.log.mirror ∧ t.fuses = s.fuses ∧
      (s.nvm.job = none → t.nvm.cells = s.nvm.cells) ∧ t.rd R.DEV_RESET_CAUSE.POR 0 = 1 ∧ t.rd R.DEV_RESET_CAUSE.BROWNOUT 0 = 1 ∧
      (∀ (f : Fld) (i : Nat), firstPor ≤ f.key → f.key < 1024 → t.rd f i = f.reset i) ∧
      (∀ l, (t.lane l).closed = false) ∧ ∀ d, (t.dps d).closed = false) ∧
  ∀ (s : State) (rq : Req) (w : Word), s.reachable rq = true → s.mayWrite rq .DEV_MODE 0 = true → s.m.load = none → s.nvm.job = none →
    ∃ t, exec (.softReset rq w) s = .next t ∧ t.m.mode = .safe ∧ t.m.softReset = true ∧ t.m.trip = s.m.trip ∧ t.m.straps = s.m.straps ∧ t.image = none ∧ t.clock = s.clock ∧
    t.log = s.log ∧ t.fuses = s.fuses ∧ t.nvm.cells = s.nvm.cells ∧ t.rd R.DEV_RESET_CAUSE.SOFT 0 = 1 ∧ t.rd R.DEV_MOULD_STATUS.STATE 0 = 0 ∧
    (∀ (f : Fld) (i : Nat), f.key < firstSoft → f.slot i ∉ [R.DEV_RESET_CAUSE.SOFT.slot 0, R.DEV_MOULD_STATUS.STATE.slot 0, R.HK_STATUS.HK_FIXED.slot 0, R.TIME_QUAL.HOST_STATE.slot 0] →
      t.rd f i = s.rd f i) ∧
    (∀ (f : Fld) (i : Nat), firstSoft ≤ f.key → f.key < 1024 → t.rd f i = f.reset i) ∧
    (∀ l, (t.lane l).closed = false) ∧ ∀ d, (t.dps d).closed = false

/-- The rails, PORST_N and the root PLL: what each event of them leaves (R20 to R24, R77, R94 to R104). -/
def Obligations.PowerAndReferenceEvents : Prop :=
  (∀ (s : State) (straps : Nat), s.m.porst = true → s.m.beforeSafe = true → s.m.trip = false → s.coreBad = false →
      ∃ t, exec (.porstRelease straps) s = .next t ∧ t.m.porst = false ∧ t.m.beforeSafe = false ∧ t.m.mode = .safe ∧ t.m.straps = straps % 64 ∧
        t.rd R.DEV_STRAP.SAMPLED 0 = straps % 64 ∧ t.rd R.DEV_CLK.REF_PRESENT 0 = b2n s.m.refSeen ∧ t.log.mirror = s.log.mirror ∧
        s.keeps t [.m, .regs, .hub, .time, .log] ∧ s.keepsRegs t [R.DEV_STRAP.SAMPLED.slot 0, R.DEV_CLK.REF_PRESENT.slot 0]) ∧
  (∀ (s : State) (straps : Nat), s.m.porst = true → s.m.trip = true → ∃ t, exec (.porstRelease straps) s = .next t ∧ t.m.beforeSafe = s.m.beforeSafe ∧ t.m.trip = true ∧
        s.keeps t [.m] ∧ s.keepsRegs t []) ∧
  (∀ s : State, ∃ t, exec .supplyOrderDeparture s = .next t ∧ t.rd R.DEV_RESET_CAUSE.SUPPLY_ORDER 0 = 1 ∧ t.m.orderShard = true ∧
        s.keeps t [.m, .regs] ∧ s.keepsRegs t [R.DEV_RESET_CAUSE.SUPPLY_ORDER.slot 0]) ∧
  (∀ s : State, ∃ t, exec (.railFail 0) s = .next t ∧ t.m.mode = .safe ∧ t.m.trip = false ∧ t.image = none ∧ t.log.mirror = [] ∧ t.fuses = s.fuses ∧
        (∀ l, (t.lane l).closed = false) ∧ ∀ d, (t.dps d).closed = false) ∧
  (∀ (s : State) (rail : Fin 8), 3 ≤ rail.val → rail.val ∉ s.m.badRails → ∃ t, exec (.railFail rail) s = .next t ∧ rail.val ∈ t.m.badRails ∧ t.m.mode = s.m.mode ∧
        (∀ l, l < 1024 → (t.lane l).closed = false) ∧ (∀ d, d < 36 → (t.dps d).closed = false) ∧ t.clock = s.clock ∧ t.image = s.image ∧ t.log = s.log) ∧
  (∀ (s : State) (rail : Fin 8), rail.val ∈ s.m.badRails → ∃ t, exec (.railGood rail) s = .next t ∧ rail.val ∉ t.m.badRails ∧ t.clock = s.clock ∧ t.image = s.image) ∧
  (∀ s : State, s.alive = true → s.m.refSeen = true → s.fl R.DEV_CLK.REF_LOSS_POLICY 0 = false →
      ∃ t, exec .refLost s = .next t ∧ t.m.refSeen = false ∧ t.m.mode = s.m.mode ∧ t.rd R.DEV_CLK.REF_LOST 0 = 1 ∧ t.rd R.DEV_CLK.REF_PRESENT 0 = 0 ∧ (t.src 0).live = true ∧
        (s.fl R.DEV_CLK.PLL_LOCKED 0 = true → t.rd R.DEV_CLK.PLL_LOCKED 0 = 0 ∧ t.rd R.DEV_CLK.HOLDOVER 0 = 1) ∧ t.quality = 3 ∧
        s.keeps t [.m, .regs, .hub, .time, .tdcs, .lanes, .cals] ∧ ∀ l, s.inGapStep l = false → t.lane l = s.lane l) ∧
  (∀ s : State, s.alive = true → s.m.refSeen = false → s.m.everLocked = true →
      ∃ t, exec .refPresent s = .next t ∧ t.m.refSeen = true ∧ t.rd R.DEV_CLK.REF_PRESENT 0 = 1 ∧ (t.src 0).live = false ∧
        (if (s.m.mode = .run ∨ s.m.mode = .legacy) ∧ s.anyPlays = true then t.rd R.DEV_CLK.RELOCK_PENDING 0 = 1 ∧ t.m.relocking = s.m.relocking
         else t.rd R.DEV_CLK.RELOCK_PENDING 0 = 0 ∧ t.m.relocking = true) ∧ s.keeps t [.m, .regs, .hub, .time]) ∧
  (∀ s : State, s.fl R.DEV_CLK.RELOCK_PENDING 0 = true → s.anyPlays = false →
      ∃ t, exec .relockStart s = .next t ∧ t.m.relocking = true ∧ t.rd R.DEV_CLK.RELOCK_PENDING 0 = 0 ∧ t.rd R.DEV_CLK.PLL_LOCKED 0 = 0 ∧ t.m.mode = s.m.mode ∧ s.keeps t [.m, .regs, .hub, .time]) ∧
  (∀ s : State, s.m.relocking = true → ∃ t, exec .relockDone s = .next t ∧ t.m.relocking = false ∧ t.rd R.DEV_CLK.PLL_LOCKED 0 = 1 ∧ s.keeps t [.m, .regs, .hub, .time, .nvm, .cals]) ∧
  ∀ s : State, s.m.everLocked = false → s.alive = true → s.fl R.DEV_CLK.REF_PRESENT 0 = true →
    ∃ t, exec .pllLock s = .next t ∧ t.m.everLocked = true ∧ t.clock = { s.clock with running := true } ∧ t.rd R.DEV_CLK.PLL_LOCKED 0 = 1 ∧ t.rd R.HK_STATUS.AON_CLOCKED 0 = 0 ∧
    s.keeps t [.clock, .m, .regs, .hub, .time, .nvm, .cals]

/-- Mode requests and transitions (R84 to R87, R90, R106, R107): a request that the present mode allows starts a transition and the mode stays; its end brings the mode; a refused one changes nothing but its status. -/
def Obligations.ModeRequests : Prop :=
  (∀ (s : State) (rq : Req) (w : Word), s.canWrite rq .DEV_MODE 0 → s.m.target = none → s.operating = true →
      ∃ t, exec (.modeReqService rq w) s = .next t ∧ t.m.target = some .service ∧ t.m.byRequest = true ∧ t.m.mode = s.m.mode ∧ t.rd R.DEV_MODE.REQ_STATUS 0 = 1 ∧ t.rd R.DEV_MODE.TRANSITION 0 = 1) ∧
  (∀ (s : State) (rq : Req) (w : Word), s.canWrite rq .DEV_MODE 0 → s.m.target = none → s.m.mode = .run →
      ∃ t, exec (.modeReqIdle rq w) s = .next t ∧ t.m.target = some .idle ∧ t.m.mode = .run ∧ t.rd R.DEV_MODE.REQ_STATUS 0 = 1 ∧ t.rd R.DEV_MODE.TRANSITION 0 = 1) ∧
  (∀ (s : State) (rq : Req) (w : Word), s.canWrite rq .DEV_MODE 0 → s.m.target = none → s.m.mode = .service → s.fl R.DEV_MODE.STARTUP_DONE 0 = true → s.serviceBusy = false →
      ∃ t, exec (.modeReqIdle rq w) s = .next t ∧ t.m.target = some (if s.legacySel then .legacy else .idle) ∧ t.m.mode = .service ∧ t.rd R.DEV_MODE.REQ_STATUS 0 = 1) ∧
  (∀ (s : State) (rq : Req) (w : Word), s.canWrite rq .DEV_MODE 0 → s.m.target = none → s.m.mode = .idle → s.legacySel = false → s.fl R.THS_STATUS.CONE_T 0 = false → s.m.relocking = false →
      ∃ t, exec (.modeReqRun rq w) s = .next t ∧ t.m.target = some .run ∧ t.m.mode = .idle ∧ t.rd R.DEV_MODE.REQ_STATUS 0 = 1 ∧ t.rd R.DEV_MODE.TRANSITION 0 = 1) ∧
  (∀ (s : State) (rq : Req) (w : Word) (c : Nat), s.canWrite rq .DEV_MODE 0 → s.reqVerdict 2 = .refuse c →
      ∃ t, exec (.modeReqService rq w) s = .next t ∧ t.m = s.m ∧ t.rd R.DEV_MODE.REQ_STATUS 0 = 3 ∧ t.rd R.DEV_MODE.REFUSE_CAUSE 0 = c % 256 ∧ t.hub.asserted = s.hub.asserted ++ [(3, 0)] ∧ s.keeps t [.regs, .hub]) ∧
  (∀ (s : State) (rq : Req) (w : Word) (c : Nat), s.canWrite rq .DEV_MODE 0 → s.reqVerdict 3 = .refuse c →
      ∃ t, exec (.modeReqIdle rq w) s = .next t ∧ t.m = s.m ∧ t.rd R.DEV_MODE.REQ_STATUS 0 = 3 ∧ t.rd R.DEV_MODE.REFUSE_CAUSE 0 = c % 256 ∧ t.hub.asserted = s.hub.asserted ++ [(3, 0)] ∧ s.keeps t [.regs, .hub]) ∧
  (∀ (s : State) (rq : Req) (w : Word) (c : Nat), s.canWrite rq .DEV_MODE 0 → s.reqVerdict 4 = .refuse c →
      ∃ t, exec (.modeReqRun rq w) s = .next t ∧ t.m = s.m ∧ t.rd R.DEV_MODE.REQ_STATUS 0 = 3 ∧ t.rd R.DEV_MODE.REFUSE_CAUSE 0 = c % 256 ∧ t.hub.asserted = s.hub.asserted ++ [(3, 0)] ∧ s.keeps t [.regs, .hub]) ∧
  (∀ (s : State) (rq : Req) (w : Word), s.canWrite rq .DEV_MODE 0 → s.m.target.isSome = true →
      ∃ t, exec (.modeReqRun rq w) s = .next t ∧ t.m = s.m ∧ t.rd R.DEV_MODE.REQ_STATUS 0 = 3 ∧ t.rd R.DEV_MODE.REFUSE_CAUSE 0 = 2 ∧ t.hub.asserted = s.hub.asserted ++ [(3, 0)] ∧ s.keeps t [.regs, .hub]) ∧
  (∀ (s : State) (hard : List Nat) (new : Mode), s.m.target = some new → ((s.m.mode = .run ∨ s.m.mode = .legacy) → s.anyPlays = false) →
      ∃ t, exec (.transitionDone hard) s = .next t ∧ t.m.mode = new ∧ t.m.startup = (s.m.startup && decide (s.m.mode ≠ .service)) ∧
        (new = .run → t.rd R.DEV_MODE.FIRST_RUN 0 = 1) ∧
        (¬(new = .run ∧ s.fl R.THS_STATUS.CONE_T 0 = true) → t.m.target = none ∧ t.rd R.DEV_MODE.TRANSITION 0 = 0 ∧ (s.m.byRequest = true → t.rd R.DEV_MODE.REQ_STATUS 0 = 2))) ∧
  (∀ (s : State) (failed rows hard : List Nat) (k : Nat), s.m.mode = .service → s.m.startup = true → s.rd R.DEV_STARTUP.STEP 0 = k → 1 ≤ k → k ≤ 5 →
        (4 ≤ k → ((List.range 4).any fun q => (s.cal q).running) = false) → (k = 5 → (s.spare.waiting.any fun w => (s.spareFor w.key).isSome) = false) →
      ∃ t, exec (.startupStepDone failed rows hard) s = .next t ∧ t.m.mode = .service ∧
        t.rd R.DEV_STARTUP.STEP 0 = (if (k = 2 ∨ k = 3 ∨ k = 4) ∧ s.fl R.DEV_CLK.PLL_LOCKED 0 = false then 8 else k + 1)) ∧
  (∀ (s : State) (failed rows hard : List Nat), s.m.mode = .service → s.m.startup = true → s.rd R.DEV_STARTUP.STEP 0 = 6 → s.nvm.job = none →
      ∃ t, exec (.startupStepDone failed rows hard) s = .next t ∧ t.m.mode = .service ∧ t.rd R.DEV_STARTUP.STEP 0 = 7 ∧ t.rd R.DEV_MODE.STARTUP_DONE 0 = 1 ∧
        t.m.target = (if s.fl R.DEV_MODE.HOLD_STARTUP 0 then s.m.target else some (if s.legacySel then .legacy else .idle))) ∧
  (∀ (s : State) (hard : List Nat), s.m.target = none ∨ ((s.m.mode = .run ∨ s.m.mode = .legacy) ∧ s.anyPlays = true) → ∃ t, exec (.transitionDone hard) s = .next t ∧ s.keeps t []) ∧
  (∀ (s : State) (failed rows hard : List Nat), s.m.mode ≠ .service ∨ s.m.startup = false → ∃ t, exec (.startupStepDone failed rows hard) s = .next t ∧ s.keeps t []) ∧
  (∀ s : State, s.m.softReset = false → ∃ t, exec .softResetComplete s = .next t ∧ s.keeps t []) ∧
  ∀ s : State, s.m.softReset = true → ∃ t, exec .softResetComplete s = .next t ∧ t.m.softReset = false ∧
    if s.fl R.DEV_CLK.PLL_LOCKED 0 = true ∧ s.strap 0 = true ∧ s.m.porst = false ∧ s.m.beforeSafe = false ∧ s.m.trip = false then
      t.m.mode = .load ∧ t.m.load = some (.flash 0) ∧ t.rd R.DEV_MOULD_STATUS.STATE 0 = 1 ∧ t.rd R.FLS_LOCK.HOLDER 0 = 3 else t.m.mode = .safe ∧ t.m.load = s.m.load

/-- The device and saggar starts (R34, R87, R88, R469): a start takes every tile that may start, waits for its timed output, or is refused whole outside RUN. -/
def Obligations.Starts : Prop :=
  (∀ (s : State) (rq : Req) (w : Word) (e : Fin 2), s.canWrite rq .DEV_START 0 → s.startable = true → R.DEV_START.AT_TEV.part w.toNat = 0 →
      ∃ t, exec (.devStartGo rq w e) s = .next t ∧ t.rd R.DEV_START.TILE_MASK 0 = R.DEV_START.TILE_MASK.part w.toNat ∧ t.rd R.DEV_START.ARMED 0 = 0 ∧ t.m.mode = .run ∧
        ∀ k ∈ s.starters 16 (R.DEV_START.TILE_MASK.part w.toNat) (s.edgeTap e.val), (t.play k).playing = true) ∧
  (∀ (s : State) (rq : Req) (w : Word) (e : Fin 2), s.canWrite rq .DEV_START 0 → s.startable = true → R.DEV_START.AT_TEV.part w.toNat = 1 →
      ∃ t, exec (.devStartGo rq w e) s = .next t ∧ t.rd R.DEV_START.ARMED 0 = 1 ∧ t.rd R.DEV_START.TEV 0 = R.DEV_START.TEV.part w.toNat ∧ t.plays = s.plays) ∧
  (∀ (s : State) (rq : Req) (w : Word) (e : Fin 2), s.canWrite rq .DEV_START 0 → s.startable = false →
      ∃ t, exec (.devStartGo rq w e) s = .next t ∧ t.rd R.DEV_START.REFUSED 0 = 1 ∧ t.rd R.DEV_START.TILE_MASK 0 = s.rd R.DEV_START.TILE_MASK 0 ∧
        t.hub.asserted = s.hub.asserted ++ [(4, 0)] ∧ s.keeps t [.regs, .hub]) ∧
  (∀ (s : State) (rq : Req) (w : Word), s.canWrite rq .DEV_START 0 → s.m.mode ≠ .legacy →
      ∃ t, exec (.devStartCancel rq w) s = .next t ∧ t.rd R.DEV_START.ARMED 0 = 0 ∧ (s.fl R.DEV_START.ARMED 0 = true → 16 ∉ t.m.due) ∧ t.plays = s.plays) ∧
  (∀ (s : State) (rq : Req) (w : Word) (e : Fin 2) (k : Nat), s.canWrite rq .SAG_START 0 → s.sagOf rq = some k → k < 16 → s.startable = true → R.SAG_START.AT_TEV.part w.toNat = 0 →
      ∃ t, exec (.sagStartGo rq w e) s = .next t ∧ t.rd R.SAG_START.TILE_MASK k = R.SAG_START.TILE_MASK.part w.toNat ∧ t.rd R.SAG_START.ARMED k = 0 ∧
        ∀ j ∈ s.starters k (R.SAG_START.TILE_MASK.part w.toNat) (s.edgeTap e.val), (t.play j).playing = true) ∧
  (∀ (s : State) (rq : Req) (w : Word) (e : Fin 2) (k : Nat), s.canWrite rq .SAG_START 0 → s.sagOf rq = some k → k < 16 → s.startable = true → R.SAG_START.AT_TEV.part w.toNat = 1 →
      ∃ t, exec (.sagStartGo rq w e) s = .next t ∧ t.rd R.SAG_START.ARMED k = 1 ∧ t.rd R.SAG_START.TEV k = R.SAG_START.TEV.part w.toNat ∧ t.plays = s.plays) ∧
  (∀ (s : State) (rq : Req) (w : Word) (e : Fin 2) (k : Nat), s.canWrite rq .SAG_START 0 → s.sagOf rq = some k → k < 16 → s.startable = false →
      ∃ t, exec (.sagStartGo rq w e) s = .next t ∧ t.rd R.SAG_START.REFUSED k = 1 ∧ t.rd R.SAG_START.TILE_MASK k = s.rd R.SAG_START.TILE_MASK k ∧ s.keeps t [.regs]) ∧
  (∀ (s : State) (rq : Req) (w : Word) (k : Nat), s.canWrite rq .SAG_START 0 → s.sagOf rq = some k → k < 16 → s.m.mode ≠ .legacy →
      ∃ t, exec (.sagStartCancel rq w) s = .next t ∧ t.rd R.SAG_START.ARMED k = 0 ∧ t.plays = s.plays) ∧
  (∀ (s : State) (f : Fin 64) (w : Word), s.canWrite (.fn f) .DEV_START 0 → s.m.mode = .legacy →
      ∃ t, exec (.devStartCancel (.fn f) w) s = .next t ∧ t.rd R.HOST_REFUSE.COUNT f.val = min (s.rd R.HOST_REFUSE.COUNT f.val + 1) (2 ^ R.HOST_REFUSE.COUNT.width - 1) ∧ s.keeps t [.regs] ∧ s.keepsFields t refuseFields) ∧
  (∀ (s : State) (k : Fin 17) (e : Fin 2), k.val ∉ s.m.due ∨ s.fl (startRegs k.val).armed (startRegs k.val).inst = false → ∃ t, exec (.armedStart k e) s = .next t ∧ s.keeps t []) ∧
  (∀ (s : State) (k : Fin 17) (e : Fin 2), k.val ∈ s.m.due → s.fl (startRegs k.val).armed (startRegs k.val).inst = true → s.startable = true →
      ∃ t, exec (.armedStart k e) s = .next t ∧ t.fl (startRegs k.val).armed (startRegs k.val).inst = false ∧
        ∀ j ∈ s.starters k.val (s.rd (startRegs k.val).mask (startRegs k.val).inst) (s.edgeTap e.val), (t.play j).playing = true) ∧
  ∀ (s : State) (k : Fin 17) (e : Fin 2), k.val ∈ s.m.due → s.fl (startRegs k.val).armed (startRegs k.val).inst = true → s.startable = false →
    ∃ t, exec (.armedStart k e) s = .next t ∧ t.fl (startRegs k.val).armed (startRegs k.val).inst = false ∧ t.fl (startRegs k.val).refused (startRegs k.val).inst = true ∧ t.plays = s.plays

/-- The resets of one function, of a link, and the entry to D3hot (R101, R103, R455, R483): the rings of the function's saggar stop, its lanes go to reset, and the device keeps its mode, its image and its log. -/
def Obligations.FunctionResets : Prop :=
  (∀ (s : State) (f : Fin 64) (k : Nat), s.alive = true → f.val % 16 ≠ 0 → s.sagOf (.fn f) = some k →
      ∃ t, exec (.functionLevelReset f) s = .next t ∧ t.m = s.m ∧ t.image = s.image ∧ t.log = s.log ∧ t.nvm = s.nvm ∧ t.dpss = s.dpss ∧ t.stores = s.stores ∧
        (∀ r, 4 * k ≤ r → r < 4 * k + 4 → t.rd R.HOST_DMA_CFG.EN r = 0 ∧ t.rd R.HOST_DMA_HEAD.HEAD r = 0 ∧ t.rd R.HOST_DMA_TAIL.TAIL r = 0) ∧
        (∀ l, l < 1024 → s.tileOwner (l / 64) = some k → t.rd R.LANE_CTL.OVERRIDE l = R.LANE_CTL.OVERRIDE.reset l) ∧
        (∀ l, l < 1024 → s.tileOwner (l / 64) ≠ some k → t.rd R.LANE_CTL.OVERRIDE l = s.rd R.LANE_CTL.OVERRIDE l) ∧
        ∀ j, j < 16 → s.tileOwner j = some k → (t.play j).playing = false) ∧
  (∀ (s : State) (link : Fin 4) (down : Bool), s.alive = true →
      ∃ t, exec (.hotReset link down) s = .next t ∧ t.m = s.m ∧ t.image = s.image ∧ t.log = s.log ∧ t.nvm = s.nvm ∧ t.dpss = s.dpss ∧ t.stores = s.stores ∧
        (t.link link.val).vfEnable = false ∧ (t.link link.val).numVfs = 0 ∧
        ∀ k ∈ s.linkSaggars link.val, ∀ r, 4 * k ≤ r → r < 4 * k + 4 → t.rd R.HOST_DMA_CFG.EN r = 0 ∧ t.rd R.HOST_DMA_HEAD.HEAD r = 0) ∧
  (∀ (s : State) (f : Fin 64) (k : Nat), s.alive = true → s.sagOf (.fn f) = some k →
      ∃ t, exec (.d3hotEntry f) s = .next t ∧ (∀ r, 4 * k ≤ r → r < 4 * k + 4 → t.rd R.HOST_DMA_CFG.EN r = 0 ∧ t.rd R.HOST_DMA_HEAD.HEAD r = 0 ∧ t.rd R.HOST_DMA_TAIL.TAIL r = 0 ∧ t.rd R.HOST_DMA_STATUS.BUSY r = 0) ∧
      s.keeps t [.regs, .host] ∧ s.keepsRegs t ((List.range 4).flatMap fun j => [R.HOST_DMA_CFG.EN.slot (4 * k + j), R.HOST_DMA_HEAD.HEAD.slot (4 * k + j), R.HOST_DMA_TAIL.TAIL.slot (4 * k + j), R.HOST_DMA_STATUS.BUSY.slot (4 * k + j)])) ∧
  (∀ (s : State) (f : Fin 64), s.alive = false ∨ s.sagOf (.fn f) = none → ∃ t, exec (.d3hotEntry f) s = .next t ∧ s.keeps t []) ∧
  (∀ (s : State) (f : Fin 64), s.alive = false → ∃ t, exec (.functionLevelReset f) s = .next t ∧ s.keeps t []) ∧
  ∀ (s : State) (link : Fin 4) (down : Bool), s.alive = false → ∃ t, exec (.hotReset link down) s = .next t ∧ s.keeps t []

/-- The load of a mould image (R77 to R81) and the key fuses (R73, R76): a push begins a load or is refused, an abort and a failed check return to SAFE with their cause, a failed read of the first flash copy goes on to the second, an image that passes every check is in force at once with the device in SERVICE, and a fuse command is refused or burns its slot when it completes. -/
def Obligations.LoadingAndFuses : Prop :=
  (∀ (s : State) (rq : Req), s.canWrite rq .DEV_MOULD_CTL 0 → s.m.mode = .safe → s.m.target = none → s.rd R.DEV_MOULD_STATUS.STATE 0 ≠ 1 → s.fl R.DEV_CLK.PLL_LOCKED 0 = true →
      ∃ t, exec (.mouldStart rq) s = .next t ∧ t.m.mode = .load ∧ t.m.load = some .host ∧ t.rd R.DEV_MOULD_STATUS.STATE 0 = 1 ∧ t.image = s.image ∧
        t.out = [.hostRead (s.rd R.DEV_MOULD_ADDR_LO.ADDR_LO 0 + 2 ^ 32 * s.rd R.DEV_MOULD_ADDR_HI.ADDR_HI 0) (s.rd R.DEV_MOULD_LEN.LEN 0)] ∧ s.keepsRegs t [R.DEV_MOULD_STATUS.STATE.slot 0]) ∧
  (∀ (s : State) (rq : Req), s.canWrite rq .DEV_MOULD_CTL 0 → (s.m.mode ≠ .safe ∨ s.m.target.isSome = true ∨ s.rd R.DEV_MOULD_STATUS.STATE 0 = 1 ∨ s.fl R.DEV_CLK.PLL_LOCKED 0 = false) →
      ∃ t, exec (.mouldStart rq) s = .next t ∧ t.m = s.m ∧ s.keepsFields t refuseFields) ∧
  (∀ (s : State) (rq : Req), s.canWrite rq .DEV_MOULD_CTL 0 → s.m.load.isSome = true →
      ∃ t, exec (.mouldAbort rq) s = .next t ∧ t.m.mode = .safe ∧ t.m.load = none ∧ t.rd R.DEV_MOULD_STATUS.STATE 0 = 3 ∧ t.rd R.DEV_MOULD_STATUS.CAUSE 0 = 0x40 ∧ t.image = s.image) ∧
  (∀ (s : State) (ok : Bool) (bytes : List Byte), s.m.load = some .host →
      ∃ t, exec (.imageReadDone ok bytes) s = .next t ∧ t.m.load = none ∧
        (ok = true → s.nvmPowerUp.imageFail (some (s.rd R.DEV_MOULD_LEN.LEN 0)) (bytes.map (·.toNat)) = none → t.m.mode = .service ∧ t.m.startup = true ∧
          t.image = some (imageOf ((bytes.map (·.toNat)).take (le32 (bytes.map (·.toNat)) 8))) ∧ t.rd R.DEV_MOULD_STATUS.STATE 0 = 2 ∧ t.rd R.DEV_STARTUP.STEP 0 = 1) ∧
        (ok = true → (s.nvmPowerUp.imageFail (some (s.rd R.DEV_MOULD_LEN.LEN 0)) (bytes.map (·.toNat))).isSome = true → t.m.mode = .safe ∧ t.image = s.image ∧ t.rd R.DEV_MOULD_STATUS.STATE 0 = 3 ∧
          t.rd R.DEV_MOULD_STATUS.CAUSE 0 = ((s.nvmPowerUp.imageFail (some (s.rd R.DEV_MOULD_LEN.LEN 0)) (bytes.map (·.toNat))).getD (0, 0)).1 % 256) ∧
        (ok = false → t.m.mode = .safe ∧ t.image = s.image ∧ t.rd R.DEV_MOULD_STATUS.STATE 0 = 3 ∧ t.rd R.DEV_MOULD_STATUS.CAUSE 0 = 0x41)) ∧
  (∀ (s : State) (ok : Bool) (bytes : List Byte) (c : Nat), s.m.load = some (.flash c) →
      ∃ t, exec (.imageReadDone ok bytes) s = .next t ∧
        (∀ b, ok = true → s.flashCopy c = .ok b → s.nvmPowerUp.imageFail none b = none → t.m.load = none ∧ t.m.mode = .service ∧ t.m.startup = true ∧ t.image = some (imageOf (b.take (le32 b 8))) ∧ t.rd R.DEV_MOULD_STATUS.STATE 0 = 2)) ∧
  (∀ (s : State) (ok : Bool) (bytes : List Byte) (c : Nat), s.m.load = some (.flash c) → ok = false →
      ∃ t, exec (.imageReadDone ok bytes) s = .next t ∧ t.image = s.image ∧
        (c = 0 → t.m.load = some (.flash 1) ∧ t.m.mode = s.m.mode ∧ t.rd R.DEV_MOULD_FLASH.FIRST_CAUSE 0 = 0x42) ∧ (c ≠ 0 → t.m.load = none ∧ t.m.mode = .safe ∧ t.rd R.DEV_MOULD_STATUS.STATE 0 = 3 ∧ t.rd R.DEV_MOULD_STATUS.CAUSE 0 = 0x42)) ∧
  (∀ (s : State) (rq : Req) (k : Fin 4), s.canWrite rq .DEV_FUSE_CMD 0 → s.rd R.DEV_FUSE_CMD.STATUS 0 ≠ 1 → s.m.mode = .service → s.fl R.THS_STATUS.NVM_OK 0 = true → (s.fuses.getD k.val ⟨0, false⟩).hash = 0 →
      ∃ t, exec (.fuseProgram rq k) s = .next t ∧ t.rd R.DEV_FUSE_CMD.STATUS 0 = 1 ∧ t.rd R.DEV_FUSE_CMD.SLOT 0 = k.val ∧ t.m.fuseCmd = some (1, k.val, s.fuseHash) ∧ t.fuses = s.fuses) ∧
  (∀ (s : State) (rq : Req) (k : Fin 4), s.canWrite rq .DEV_FUSE_CMD 0 → s.rd R.DEV_FUSE_CMD.STATUS 0 ≠ 1 → s.m.mode = .service → s.fl R.THS_STATUS.NVM_OK 0 = true → ((s.fuses.getD k.val ⟨0, false⟩).hash = 0 ∨ (s.fuses.getD k.val ⟨0, false⟩).revoked = true ∨ (s.fuses.zipIdx.any fun e => e.2 ≠ k.val && e.1.hash ≠ 0 && !e.1.revoked) = true) →
      ∃ t, exec (.fuseRevoke rq k) s = .next t ∧ t.rd R.DEV_FUSE_CMD.STATUS 0 = 1 ∧ t.rd R.DEV_FUSE_CMD.SLOT 0 = k.val ∧ t.m.fuseCmd = some (2, k.val, s.fuseHash) ∧ t.fuses = s.fuses) ∧
  (∀ (s : State) (rq : Req) (k : Fin 4), s.canWrite rq .DEV_FUSE_CMD 0 → s.rd R.DEV_FUSE_CMD.STATUS 0 ≠ 1 → (s.m.mode ≠ .service ∨ s.fl R.THS_STATUS.NVM_OK 0 = false ∨ (s.fuses.getD k.val ⟨0, false⟩).hash ≠ 0) →
      ∃ t, exec (.fuseProgram rq k) s = .next t ∧ t.rd R.DEV_FUSE_CMD.STATUS 0 = 3 ∧ t.m = s.m ∧ t.fuses = s.fuses ∧ t.hub.asserted = s.hub.asserted ++ [(18, 0)]) ∧
  (∀ (s : State) (rq : Req) (k : Fin 4), s.canWrite rq .DEV_FUSE_CMD 0 → s.rd R.DEV_FUSE_CMD.STATUS 0 ≠ 1 →
      (s.m.mode ≠ .service ∨ s.fl R.THS_STATUS.NVM_OK 0 = false ∨ ((s.fuses.getD k.val ⟨0, false⟩).hash ≠ 0 ∧ (s.fuses.getD k.val ⟨0, false⟩).revoked = false ∧ (s.fuses.zipIdx.any fun e => e.2 ≠ k.val && e.1.hash ≠ 0 && !e.1.revoked) = false)) →
      ∃ t, exec (.fuseRevoke rq k) s = .next t ∧ t.rd R.DEV_FUSE_CMD.STATUS 0 = 3 ∧ t.m = s.m ∧ t.fuses = s.fuses ∧ t.hub.asserted = s.hub.asserted ++ [(18, 0)]) ∧
  (∀ (s : State) (rq : Req) (k : Fin 4), s.canWrite rq .DEV_FUSE_CMD 0 → s.rd R.DEV_FUSE_CMD.STATUS 0 = 1 →
      (∃ t, exec (.fuseProgram rq k) s = .next t ∧ t.m = s.m ∧ t.fuses = s.fuses ∧ s.keepsFields t refuseFields) ∧ (∃ t, exec (.fuseRevoke rq k) s = .next t ∧ t.m = s.m ∧ t.fuses = s.fuses ∧ s.keepsFields t refuseFields)) ∧
  ∀ (s : State) (cmd k hash : Nat), s.m.fuseCmd = some (cmd, k, hash) → k < s.fuses.length →
    ∃ t, exec .fuseCmdDone s = .next t ∧ t.m.fuseCmd = none ∧ t.rd R.DEV_FUSE_CMD.STATUS 0 = 2 ∧ t.hub.asserted = s.hub.asserted ++ [(18, 0)] ∧
      t.fuses[k]? = s.fuses[k]?.map (·.burn cmd hash) ∧ (∀ j, j ≠ k → t.fuses[j]? = s.fuses[j]?) ∧ s.keepsRegs t [R.DEV_FUSE_CMD.STATUS.slot 0]

/-- A register write where the requester may make it, of a register with no effect of its own, changes the named fields by their types and byte enables (R7, R461); one that meets an RWL field outside LOAD and SERVICE is discarded whole, and it and a write that is not permitted are counted and change nothing else (R467, R599). -/
def Obligations.RegisterWrites : Prop :=
  (∀ (s : State) (rq : Req) (off : Nat) (w : Word) (be : Fin 16) (r : Reg) (i : Nat) (f : Fld), off % 4 = 0 → (off < 0x8000 ∨ 0x10000 ≤ off) → s.window off = none → decodeOffset off = some (r, i) →
      s.canWrite rq r i → be.val ≠ 0 → regHook r rq (s.copyOf rq r i) w.toNat be.val { s with out := [] } = writeWord r (s.copyOf rq r i) w.toNat be.val { s with out := [] } → f ∈ r.fields →
      (s.m.mode = .load ∨ s.m.mode = .service ∨ (r.fields.any fun g => g.acc = .rwl && g.enabled be.val) = false) →
      ∃ t, exec (.registerWrite rq off w be) s = .next t ∧
        ((f.enabled be.val = false ∨ f.acc = .ro ∨ f.acc = .wo ∨ f.acc = .rc ∨ f.acc = .rsn) → t.rd f (s.copyOf rq r i) = s.rd f (s.copyOf rq r i)) ∧
        ((f.enabled be.val = true ∧ (f.acc = .rw ∨ f.acc = .rwl)) → t.rd f (s.copyOf rq r i) = f.part w.toNat) ∧
        ((f.enabled be.val = true ∧ f.acc = .w1c) → t.rd f (s.copyOf rq r i) = Nat.land (s.rd f (s.copyOf rq r i)) (2 ^ f.width - 1 - f.part w.toNat)) ∧
        ((f.enabled be.val = true ∧ f.acc = .w1s) → t.rd f (s.copyOf rq r i) = Nat.lor (s.rd f (s.copyOf rq r i)) (f.part w.toNat) % 2 ^ f.width)) ∧
  (∀ (s : State) (f : Fin 64) (off : Nat) (w : Word) (be : Fin 16) (r : Reg) (i : Nat), off % 4 = 0 → (off < 0x8000 ∨ 0x10000 ≤ off) → s.window off = none → decodeOffset off = some (r, i) →
      s.canWrite (.fn f) r i → be.val ≠ 0 → regHook r (.fn f) (s.copyOf (.fn f) r i) w.toNat be.val { s with out := [] } = writeWord r (s.copyOf (.fn f) r i) w.toNat be.val { s with out := [] } →
      s.m.mode ≠ .load → s.m.mode ≠ .service → (r.fields.any fun g => g.acc = .rwl && g.enabled be.val) = true →
      ∃ t, exec (.registerWrite (.fn f) off w be) s = .next t ∧ t.rd R.HOST_REFUSE.COUNT f.val = min (s.rd R.HOST_REFUSE.COUNT f.val + 1) 65535 ∧ s.keeps t [.regs] ∧ s.keepsFields t refuseFields) ∧
  (∀ (s : State) (f : Fin 64) (off : Nat) (w : Word) (be : Fin 16) (r : Reg) (i : Nat), off % 4 = 0 → (off < 0x8000 ∨ 0x10000 ≤ off) → s.window off = none → decodeOffset off = some (r, i) →
      s.reachable (.fn f) = true → s.mayWrite (.fn f) r i = false → be.val ≠ 0 →
      ∃ t, exec (.registerWrite (.fn f) off w be) s = .next t ∧ t.rd R.HOST_REFUSE.COUNT f.val = min (s.rd R.HOST_REFUSE.COUNT f.val + 1) 65535 ∧
        t.rd R.HOST_REFUSE_ADDR.OFFSET f.val = r.offset i % 2 ^ R.HOST_REFUSE_ADDR.OFFSET.width ∧ t.rd R.HOST_REFUSE_ADDR.BAR2 f.val = 0 ∧ s.keeps t [.regs] ∧ s.keepsFields t refuseFields) ∧
  ∀ (s : State) (rq : Req) (off : Nat) (w : Word) (be : Fin 16), (s.reachable rq = false ∨ be.val = 0) → ∃ t, exec (.registerWrite rq off w be) s = .next t ∧ s.keeps t []

/-- Errors of requests (R460, R467, R482): a read of a wrong size ends with Completer Abort, sets HOST_ERR.BAD_SIZE and is reported through AER; a write of a wrong size sets BAD_SIZE and is counted; an unsupported request and a poisoned write set their HOST_ERR bit and are reported, the write being counted too; a protocol fault of the link is reported through AER alone; a function that cannot be reached reports nothing. A vector whose mask clears sends the message that pends on it (R459). -/
def Obligations.BusFaults : Prop :=
  (∀ (s : State) (f : Fin 64) (off : Nat), s.reachable (.fn f) = true →
      ∃ t, exec (.badSizeRequest f false off) s = .next t ∧ t.rd R.HOST_ERR.BAD_SIZE f.val = 1 ∧ (∀ k, smGet 0 t.host.aer k = smGet 0 s.host.aer k + (if k = 16 * f.val + 2 then 1 else 0)) ∧ t.out = [.abort] ∧ s.keeps t [.regs, .host] ∧ s.keepsFields t [R.HOST_ERR.BAD_SIZE]) ∧
  (∀ (s : State) (f : Fin 64) (off : Nat), s.reachable (.fn f) = true →
      ∃ t, exec (.badSizeRequest f true off) s = .next t ∧ t.rd R.HOST_ERR.BAD_SIZE f.val = 1 ∧ t.rd R.HOST_REFUSE.COUNT f.val = min (s.rd R.HOST_REFUSE.COUNT f.val + 1) 65535 ∧
        t.rd R.HOST_REFUSE_ADDR.OFFSET f.val = off % 2 ^ R.HOST_REFUSE_ADDR.OFFSET.width ∧ t.rd R.HOST_REFUSE_ADDR.BAR2 f.val = 0 ∧ t.out = [] ∧ s.keeps t [.regs] ∧ s.keepsFields t (R.HOST_ERR.BAD_SIZE :: refuseFields)) ∧
  (∀ (s : State) (f : Fin 64), s.reachable (.fn f) = true → ∃ t, exec (.unsupportedRequest f) s = .next t ∧ t.rd R.HOST_ERR.UR f.val = 1 ∧ (∀ k, smGet 0 t.host.aer k = smGet 0 s.host.aer k + (if k = 16 * f.val + 3 then 1 else 0)) ∧
      s.keeps t [.regs, .host] ∧ s.keepsFields t [R.HOST_ERR.UR]) ∧
  (∀ (s : State) (f : Fin 64) (bar2 : Bool) (off : Nat), s.reachable (.fn f) = true →
      ∃ t, exec (.poisonedTlpReceived f bar2 off) s = .next t ∧ t.rd R.HOST_ERR.POISON_RX f.val = 1 ∧ (∀ k, smGet 0 t.host.aer k = smGet 0 s.host.aer k + (if k = 16 * f.val + 1 then 1 else 0)) ∧
        t.rd R.HOST_REFUSE.COUNT f.val = min (s.rd R.HOST_REFUSE.COUNT f.val + 1) 65535 ∧ t.rd R.HOST_REFUSE_ADDR.OFFSET f.val = off % 2 ^ R.HOST_REFUSE_ADDR.OFFSET.width ∧ t.fl R.HOST_REFUSE_ADDR.BAR2 f.val = bar2 ∧
        s.keeps t [.regs, .host] ∧ s.keepsFields t (R.HOST_ERR.POISON_RX :: refuseFields)) ∧
  (∀ (s : State) (f : Fin 64) (kind : Fin 4), s.reachable (.fn f) = true →
      ∃ t, exec (.linkProtocolFault f kind) s = .next t ∧ (∀ k, smGet 0 t.host.aer k = smGet 0 s.host.aer k + (if k = 16 * f.val + 5 + kind.val then 1 else 0)) ∧ s.keeps t [.host]) ∧
  (∀ (s : State) (f : Fin 64) (write bar2 : Bool) (off : Nat) (kind : Fin 4), s.reachable (.fn f) = false →
      (∃ t, exec (.badSizeRequest f write off) s = .next t ∧ s.keeps t []) ∧ (∃ t, exec (.unsupportedRequest f) s = .next t ∧ s.keeps t []) ∧
      (∃ t, exec (.poisonedTlpReceived f bar2 off) s = .next t ∧ s.keeps t []) ∧ (∃ t, exec (.linkProtocolFault f kind) s = .next t ∧ s.keeps t [])) ∧
  (∀ (s : State) (f : Fin 64) (vec : Fin 4),
      ∃ t, exec (.msixMaskClear f (some vec)) s = .next t ∧ smGet 1 t.host.masks (4 * f.val + vec.val) = 0 ∧
        ((smGet 0 s.host.pba (4 * f.val + vec.val) ≠ 1 ∨ smGet 0 s.host.fnMask f.val ≠ 0) → t.host.pba = s.host.pba ∧ t.out = []) ∧
        ((smGet 0 s.host.pba (4 * f.val + vec.val) = 1 ∧ smGet 0 s.host.fnMask f.val = 0) → smGet 0 t.host.pba (4 * f.val + vec.val) = 0 ∧ t.out = [.msix f.val vec.val]) ∧ s.keeps t [.host]) ∧
  ∀ (s : State) (f : Fin 64), ∃ t, exec (.msixMaskClear f none) s = .next t ∧ smGet 0 t.host.fnMask f.val = 0 ∧ s.keeps t [.host] ∧
      (∀ k, k < 4 → smGet 0 t.host.pba (4 * f.val + k) = if smGet 0 s.host.pba (4 * f.val + k) = 1 ∧ smGet 1 s.host.masks (4 * f.val + k) = 0 then 0 else smGet 0 s.host.pba (4 * f.val + k))

/-- Reads that have an effect: a read of an RC register takes from each count the value returned (R464), a read of the low half of a pair snapshots the high half, and the next read of the high half returns it (R466); a read of TIME_NOW_FRAC snapshots the whole time. -/
def Obligations.RegisterReads : Prop :=
  (∀ (s : State) (rq : Req) (off : Nat) (r : Reg) (i : Nat) (f : Fld), off % 4 = 0 → (off < 0x8000 ∨ 0x10000 ≤ off) → off < 0x2000000 → s.window off = none → decodeOffset off = some (r, i) → r.isRc = true →
      s.reachable rq = true → s.mayRead rq r i = true → f ∈ r.fields → f.acc = .rc →
      ∃ t, exec (.rcRead rq off) s = .next t ∧ t.out = [.word (s.regWord rq r i (s.copyOf rq r i))] ∧
        t.rd f (s.copyOf rq r i) = (s.rd f (s.copyOf rq r i) - f.part (s.regWord rq r i (s.copyOf rq r i))) % 2 ^ f.width ∧ s.keeps t [.regs] ∧ s.keepsFields t r.fields) ∧
  (∀ (s : State) (rq : Req) (off : Nat) (r h : Reg) (i n : Nat), off % 4 = 0 → (off < 0x8000 ∨ 0x10000 ≤ off) → off < 0x2000000 → s.window off = none → decodeOffset off = some (r, i) →
      s.reachable rq = true → s.mayRead rq r i = true → rsnHigh r (s.copyOf rq r i) = some (h, n) →
      ∃ t, exec (.rsnLowRead rq off) s = .next t ∧ t.out = [.word (s.regWord rq r i (s.copyOf rq r i))] ∧
        smGet 0 t.host.rsn (4096 * reqNum rq + n) = s.regWord rq h i (s.copyOf rq r i) + 1 ∧ s.keeps t [.host]) ∧
  (∀ (s : State) (rq : Req) (off : Nat) (r : Reg) (i n x : Nat), off % 4 = 0 → (off < 0x8000 ∨ 0x10000 ≤ off) → off < 0x2000000 → s.window off = none → decodeOffset off = some (r, i) →
      s.reachable rq = true → s.mayRead rq r i = true → rsnShadow r (s.copyOf rq r i) = some n → smGet 0 s.host.rsn (4096 * reqNum rq + n) = x + 1 →
      ∃ t, exec (.rsnLowRead rq off) s = .next t ∧ t.out = [.word x] ∧ smGet 0 t.host.rsn (4096 * reqNum rq + n) = 0 ∧ s.keeps t [.host]) ∧
  ∀ (s : State) (rq : Req), s.reachable rq = true → s.mayRead rq .TIME_NOW_FRAC 0 = true →
    ∃ t, exec (.timeNowRead rq) s = .next t ∧ t.out = [.word (s.clock.frac / 65536 + 65536 * s.quality)] ∧ t.shadow rq = s.snap ∧ s.keeps t [.host, .time]

/-- A link trains no wider and no faster than its straps allow (R454), NumVFs reaches no further than TotalVFs (R457), the configuration header identifies each function (R15, R456, R569), and a quota is taken or refused whole (R65, R470). -/
def Obligations.LinksAndQuotas : Prop :=
  (∀ (s : State) (link : Fin 4) (speed width : Nat), s.alive = true → s.linkExists link.val = true →
      ∃ t, exec (.pcieLinkTrained link speed width) s = .next t ∧ (t.link link.val).up = true ∧ (t.link link.val).speed = min speed (if bitAt s.m.straps 5 then 4 else 5) ∧
        (t.link link.val).width = min width (s.linkLanes link.val) ∧ (∀ k, k ≠ link.val → t.link k = s.link k) ∧ s.keeps t [.host]) ∧
  (∀ (s : State) (link : Fin 4) (n : Nat), s.alive = true → s.linkExists link.val = true →
      ∃ t, exec (.vfEnable link true n) s = .next t ∧ (t.link link.val).vfEnable = true ∧ (t.link link.val).numVfs = min n (s.totalVfs link.val) ∧ s.keeps t [.host]) ∧
  (∀ (s : State) (link : Fin 4) (n : Nat), s.alive = true → s.linkExists link.val = true →
      ∃ t, exec (.vfEnable link false n) s = .next t ∧ (t.link link.val).vfEnable = false ∧ s.keeps t (partsOf (.vfEnable link false n))) ∧
  (∀ (s : State) (link : Fin 4) (on : Bool) (n speed width : Nat), (s.alive = false ∨ s.linkExists link.val = false) →
      (∃ t, exec (.pcieLinkTrained link speed width) s = .next t ∧ s.keeps t []) ∧ (∃ t, exec (.vfEnable link on n) s = .next t ∧ s.keeps t [])) ∧
  (∀ (s : State) (f : Fin 64), (s.configHeader f).vendor = 0x1F9B ∧ (s.configHeader f).classCode = 0x120000 ∧ (s.configHeader f).subVendor = 0x1F9B ∧
      (f.val % 16 ≠ 0 → (s.configHeader f).device = 0xA025) ∧ (f.val % 16 = 0 → s.m.mode ≠ .legacy → (s.configHeader f).device = 0xA024) ∧
      (f.val % 16 = 0 → s.m.mode = .legacy → s.sagOf (.fn f) = some 0 → (s.configHeader f).device = 0x5256) ∧ (∀ k, s.sagOf (.fn f) = some k → (s.configHeader f).subsystem = 0x0100 + k)) ∧
  (∀ (s : State) (rq : Req) (k : Fin 16) (w : Word), s.canWrite rq .SAG_QUOTA_A k.val → (s.sagEntry k.val).isSome = true →
      s.quotaSum R.SAG_QUOTA_A.CAPTURE_BLOCKS k.val (R.SAG_QUOTA_A.CAPTURE_BLOCKS.part w.toNat) ≤ 768 →
      s.quotaSum R.SAG_QUOTA_A.CONTEXT_GROUPS k.val (R.SAG_QUOTA_A.CONTEXT_GROUPS.part w.toNat) ≤ 64 → (s.tilesOf k.val).length ≤ R.SAG_QUOTA_A.CAPTURE_BLOCKS.part w.toNat →
      ∃ t, exec (.quotaWrite rq k false w) s = .next t ∧ t.rd R.SAG_QUOTA_A.CAPTURE_BLOCKS k.val = R.SAG_QUOTA_A.CAPTURE_BLOCKS.part w.toNat ∧
        t.rd R.SAG_QUOTA_A.CONTEXT_GROUPS k.val = R.SAG_QUOTA_A.CONTEXT_GROUPS.part w.toNat ∧
        t.fl R.SAG_OVER.CAPTURE k.val = decide (s.rd R.SAG_USE.BLOCKS k.val > R.SAG_QUOTA_A.CAPTURE_BLOCKS.part w.toNat) ∧
        t.fl R.SAG_OVER.CONTEXT k.val = decide (s.rd R.SAG_USE.GROUPS k.val > R.SAG_QUOTA_A.CONTEXT_GROUPS.part w.toNat)) ∧
  (∀ (s : State) (rq : Req) (k : Fin 16) (w : Word), s.canWrite rq .SAG_QUOTA_B k.val → (s.sagEntry k.val).isSome = true →
      s.quotaSum R.SAG_QUOTA_B.STREAM_SHARE k.val (R.SAG_QUOTA_B.STREAM_SHARE.part w.toNat) ≤ 256 → 6 ≤ R.SAG_QUOTA_B.QUEUE_DEPTH_LOG2.part w.toNat → R.SAG_QUOTA_B.QUEUE_DEPTH_LOG2.part w.toNat ≤ 16 →
      ∃ t, exec (.quotaWrite rq k true w) s = .next t ∧ t.rd R.SAG_QUOTA_B.STREAM_SHARE k.val = R.SAG_QUOTA_B.STREAM_SHARE.part w.toNat ∧
        t.rd R.SAG_QUOTA_B.QUEUE_DEPTH_LOG2 k.val = R.SAG_QUOTA_B.QUEUE_DEPTH_LOG2.part w.toNat) ∧
  (∀ (s : State) (rq : Req) (k : Fin 16) (w : Word), s.canWrite rq .SAG_QUOTA_A k.val →
      ((s.sagEntry k.val).isNone = true ∨ (s.tilesOf k.val).length > R.SAG_QUOTA_A.CAPTURE_BLOCKS.part w.toNat ∨ s.quotaSum R.SAG_QUOTA_A.CAPTURE_BLOCKS k.val (R.SAG_QUOTA_A.CAPTURE_BLOCKS.part w.toNat) > 768 ∨
        s.quotaSum R.SAG_QUOTA_A.CONTEXT_GROUPS k.val (R.SAG_QUOTA_A.CONTEXT_GROUPS.part w.toNat) > 64) →
      ∃ t, exec (.quotaWrite rq k false w) s = .next t ∧ t.rd R.SAG_OVER.QUOTA_REFUSED k.val = 1 ∧ t.rd R.SAG_QUOTA_A.CAPTURE_BLOCKS k.val = s.rd R.SAG_QUOTA_A.CAPTURE_BLOCKS k.val ∧
        t.rd R.SAG_QUOTA_A.CONTEXT_GROUPS k.val = s.rd R.SAG_QUOTA_A.CONTEXT_GROUPS k.val ∧ s.keeps t [.regs]) ∧
  ∀ (s : State) (rq : Req) (k : Fin 16) (w : Word), s.canWrite rq .SAG_QUOTA_B k.val →
    ((s.sagEntry k.val).isNone = true ∨ s.quotaSum R.SAG_QUOTA_B.STREAM_SHARE k.val (R.SAG_QUOTA_B.STREAM_SHARE.part w.toNat) > 256 ∨ R.SAG_QUOTA_B.QUEUE_DEPTH_LOG2.part w.toNat < 6 ∨ 16 < R.SAG_QUOTA_B.QUEUE_DEPTH_LOG2.part w.toNat) →
    ∃ t, exec (.quotaWrite rq k true w) s = .next t ∧ t.rd R.SAG_OVER.QUOTA_REFUSED k.val = 1 ∧ t.rd R.SAG_QUOTA_B.STREAM_SHARE k.val = s.rd R.SAG_QUOTA_B.STREAM_SHARE k.val ∧
      t.rd R.SAG_QUOTA_B.QUEUE_DEPTH_LOG2 k.val = s.rd R.SAG_QUOTA_B.QUEUE_DEPTH_LOG2 k.val ∧ s.keeps t [.regs]

/-- Allotment of capture blocks and context groups (R472, R473, R475): an allotted unit has its saggar and is counted, a released block is cleared before it is free, a group in use drains, and a command that is not performed shows its cause. -/
def Obligations.AllotAndRelease : Prop :=
  (∀ (s : State) (rq : Req) (w : Word) (b k : Nat), s.canWrite rq .SAG_ALLOT 0 → R.SAG_ALLOT.INDEX.part w.toNat = b → R.SAG_ALLOT.KIND.part w.toNat = 0 → R.SAG_ALLOT.SAGGAR.part w.toNat = k →
      s.allotCause (s.sagOf rq) 1 b 0 k = 0 →
      ∃ t, exec (.allot rq w) s = .next t ∧ t.rd R.SAG_ALLOT.STATUS 0 = 2 ∧ t.rd R.SAG_ALLOT.CAUSE 0 = 0 ∧ t.fl R.SAG_BLK_OWNER.ALLOTTED b = true ∧ t.rd R.SAG_BLK_OWNER.SAGGAR b = k ∧
        t.rd R.SAG_USE.BLOCKS k = (s.rd R.SAG_USE.BLOCKS k + 1) % 2 ^ R.SAG_USE.BLOCKS.width ∧ s.keeps t [.regs, .hub]) ∧
  (∀ (s : State) (rq : Req) (w : Word) (g k : Nat), s.canWrite rq .SAG_ALLOT 0 → R.SAG_ALLOT.INDEX.part w.toNat = g → R.SAG_ALLOT.KIND.part w.toNat = 1 → R.SAG_ALLOT.SAGGAR.part w.toNat = k →
      s.allotCause (s.sagOf rq) 1 g 1 k = 0 →
      ∃ t, exec (.allot rq w) s = .next t ∧ t.rd R.SAG_ALLOT.STATUS 0 = 2 ∧ t.grpOwner g = some k ∧
        t.rd R.SAG_USE.GROUPS k = (s.rd R.SAG_USE.GROUPS k + 1) % 2 ^ R.SAG_USE.GROUPS.width ∧ s.keeps t [.regs, .hub]) ∧
  (∀ (s : State) (rq : Req) (w : Word) (c : Nat), s.canWrite rq .SAG_ALLOT 0 →
      s.allotCause (s.sagOf rq) 1 (R.SAG_ALLOT.INDEX.part w.toNat) (R.SAG_ALLOT.KIND.part w.toNat) (R.SAG_ALLOT.SAGGAR.part w.toNat) = c → c ≠ 0 →
      ∃ t, exec (.allot rq w) s = .next t ∧ t.rd R.SAG_ALLOT.STATUS 0 = 3 ∧ t.rd R.SAG_ALLOT.CAUSE 0 = c ∧ s.keeps t [.regs] ∧
        s.keepsFields t [R.SAG_ALLOT.INDEX, R.SAG_ALLOT.KIND, R.SAG_ALLOT.SAGGAR, R.SAG_ALLOT.OP, R.SAG_ALLOT.STATUS, R.SAG_ALLOT.CAUSE]) ∧
  (∀ (s : State) (rq : Req) (w : Word) (b k : Nat), s.canWrite rq .SAG_ALLOT 0 → R.SAG_ALLOT.INDEX.part w.toNat = b → R.SAG_ALLOT.KIND.part w.toNat = 0 → R.SAG_ALLOT.SAGGAR.part w.toNat = k →
      s.allotCause (s.sagOf rq) 2 b 0 k = 0 →
      ∃ t, exec (.release rq w) s = .next t ∧ t.rd R.SAG_ALLOT.STATUS 0 = 2 ∧ t.rd R.SAG_BLK_OWNER.CLEARING b = 1 ∧ t.blkOwner b = none ∧
        t.rd R.SAG_USE.BLOCKS k = (s.rd R.SAG_USE.BLOCKS k - 1) % 2 ^ R.SAG_USE.BLOCKS.width ∧ s.keeps t [.regs, .hub]) ∧
  (∀ (s : State) (rq : Req) (w : Word) (g k : Nat), s.canWrite rq .SAG_ALLOT 0 → R.SAG_ALLOT.INDEX.part w.toNat = g → R.SAG_ALLOT.KIND.part w.toNat = 1 → R.SAG_ALLOT.SAGGAR.part w.toNat = k →
      s.allotCause (s.sagOf rq) 2 g 1 k = 0 →
      ∃ t, exec (.release rq w) s = .next t ∧ (s.grpBusy g = true → t.rd R.SAG_GRP_OWNER.DRAINING g = 1 ∧ t.rd R.SAG_ALLOT.STATUS 0 = 1 ∧ t.grpOwner g = s.grpOwner g) ∧
        (s.grpBusy g = false → t.grpOwner g = none ∧ t.rd R.SAG_ALLOT.STATUS 0 = 2 ∧ t.rd R.SAG_USE.GROUPS k = (s.rd R.SAG_USE.GROUPS k - 1) % 2 ^ R.SAG_USE.GROUPS.width)) ∧
  (∀ (s : State) (rq : Req) (w : Word) (c : Nat), s.canWrite rq .SAG_ALLOT 0 →
      s.allotCause (s.sagOf rq) 2 (R.SAG_ALLOT.INDEX.part w.toNat) (R.SAG_ALLOT.KIND.part w.toNat) (R.SAG_ALLOT.SAGGAR.part w.toNat) = c → c ≠ 0 →
      ∃ t, exec (.release rq w) s = .next t ∧ t.rd R.SAG_ALLOT.STATUS 0 = 3 ∧ t.rd R.SAG_ALLOT.CAUSE 0 = c ∧ s.keeps t [.regs] ∧
        s.keepsFields t [R.SAG_ALLOT.INDEX, R.SAG_ALLOT.KIND, R.SAG_ALLOT.SAGGAR, R.SAG_ALLOT.OP, R.SAG_ALLOT.STATUS, R.SAG_ALLOT.CAUSE]) ∧
  (∀ (s : State) (b : Fin 768), s.fl R.SAG_BLK_OWNER.CLEARING b.val = true →
      ∃ t, exec (.blockClearDone b) s = .next t ∧ t.fl R.SAG_BLK_OWNER.CLEARING b.val = false ∧ t.fl R.SAG_BLK_OWNER.ALLOTTED b.val = false ∧
        (∀ w : Nat, w / 8192 = b.val → smGet 0 t.cap w = 0 ∧ smGet 0 t.capEcc w = 0) ∧ ∀ w : Nat, w / 8192 ≠ b.val → smGet 0 t.cap w = smGet 0 s.cap w ∧ smGet 0 t.capEcc w = smGet 0 s.capEcc w) ∧
  (∀ (s : State) (g : Fin 64), s.fl R.SAG_GRP_OWNER.DRAINING g.val = true → s.grpBusy g.val = false →
      ∃ t, exec (.groupRelease g) s = .next t ∧ t.grpOwner g.val = none ∧ t.fl R.SAG_GRP_OWNER.DRAINING g.val = false) ∧
  ∀ (s : State) (b : Fin 768) (g : Fin 64), (s.fl R.SAG_BLK_OWNER.CLEARING b.val = false → ∃ t, exec (.blockClearDone b) s = .next t ∧ s.keeps t []) ∧
    ((s.fl R.SAG_GRP_OWNER.DRAINING g.val = false ∨ s.grpBusy g.val = true) → ∃ t, exec (.groupRelease g) s = .next t ∧ s.keeps t [])

/-- Descriptor rings (R478): enabling empties the ring, disabling leaves its pointers, a change of an enabled ring and a size outside its range are refused, and the tail may be written. -/
def Obligations.DescriptorRings : Prop :=
  (∀ (s : State) (rq : Req) (r : Fin 4) (w : Word), s.canWrite rq .HOST_DMA_CFG r.val → s.fl R.HOST_DMA_CFG.EN (s.copyOf rq .HOST_DMA_CFG r.val) = false →
      4 ≤ R.HOST_DMA_CFG.SIZE_LOG2.part w.toNat → R.HOST_DMA_CFG.SIZE_LOG2.part w.toNat ≤ 12 →
      ∃ t, exec (.dmaRingEnable rq r w) s = .next t ∧ t.rd R.HOST_DMA_CFG.EN (s.copyOf rq .HOST_DMA_CFG r.val) = 1 ∧
        t.rd R.HOST_DMA_CFG.SIZE_LOG2 (s.copyOf rq .HOST_DMA_CFG r.val) = R.HOST_DMA_CFG.SIZE_LOG2.part w.toNat ∧
        t.rd R.HOST_DMA_HEAD.HEAD (s.copyOf rq .HOST_DMA_CFG r.val) = 0 ∧ t.rd R.HOST_DMA_TAIL.TAIL (s.copyOf rq .HOST_DMA_CFG r.val) = 0) ∧
  (∀ (s : State) (f : Fin 64) (r : Fin 4) (w : Word), s.canWrite (.fn f) .HOST_DMA_CFG r.val →
      (if s.fl R.HOST_DMA_CFG.EN (s.copyOf (.fn f) .HOST_DMA_CFG r.val) then R.HOST_DMA_CFG.SIZE_LOG2.part w.toNat ≠ s.rd R.HOST_DMA_CFG.SIZE_LOG2 (s.copyOf (.fn f) .HOST_DMA_CFG r.val)
        else R.HOST_DMA_CFG.SIZE_LOG2.part w.toNat < 4 ∨ 12 < R.HOST_DMA_CFG.SIZE_LOG2.part w.toNat) →
      ∃ t, exec (.dmaRingEnable (.fn f) r w) s = .next t ∧ t.rd R.HOST_REFUSE.COUNT f.val = min (s.rd R.HOST_REFUSE.COUNT f.val + 1) 65535 ∧ s.keeps t [.regs] ∧ s.keepsFields t refuseFields) ∧
  (∀ (s : State) (rq : Req) (r : Fin 4) (w : Word), s.canWrite rq .HOST_DMA_CFG r.val →
      ∃ t, exec (.dmaRingDisable rq r w) s = .next t ∧ t.rd R.HOST_DMA_CFG.EN (s.copyOf rq .HOST_DMA_CFG r.val) = 0 ∧
        t.rd R.HOST_DMA_HEAD.HEAD (s.copyOf rq .HOST_DMA_CFG r.val) = s.rd R.HOST_DMA_HEAD.HEAD (s.copyOf rq .HOST_DMA_CFG r.val) ∧
        t.rd R.HOST_DMA_TAIL.TAIL (s.copyOf rq .HOST_DMA_CFG r.val) = s.rd R.HOST_DMA_TAIL.TAIL (s.copyOf rq .HOST_DMA_CFG r.val) ∧ s.keeps t [.regs]) ∧
  ∀ (s : State) (rq : Req) (r : Fin 4) (w : Word), s.canWrite rq .HOST_DMA_TAIL r.val →
    ∃ t, exec (.dmaTailWrite rq r w) s = .next t ∧ t.rd R.HOST_DMA_TAIL.TAIL (s.copyOf rq .HOST_DMA_TAIL r.val) = R.HOST_DMA_TAIL.TAIL.part w.toNat ∧ s.keeps t [.regs]

/-- What each descriptor does (R30, R281, R479, R480): a NOP moves nothing, a refill and a resident load start with the CODE of their check and put row blocks into the rows they name while credit lasts, a refill's last block acts on SET_READY, and an upload writes capture words to host memory, but waits for a producer of its region. -/
def Obligations.Descriptors : Prop :=
  (∀ (s : State) (sag : Fin 16) (r : Fin 4) (d : List Byte), s.ringReady (4 * sag.val + r.val) = true → ((d.map (·.toNat)).getD 0 0 = 0 ∨ 3 < (d.map (·.toNat)).getD 0 0) →
      ∃ t, exec (.nop sag r d) s = .next t ∧ (t.ring (4 * sag.val + r.val)).code = s.descCode sag.val (descOf (d.map (·.toNat))) (d.map (·.toNat)) ∧ (3 < (d.map (·.toNat)).getD 0 0 → (t.ring (4 * sag.val + r.val)).code = 3) ∧
        (t.ring (4 * sag.val + r.val)).finished = true ∧ t.rd R.HOST_DMA_STATUS.BUSY (4 * sag.val + r.val) = 1 ∧ s.keeps t [.regs, .host] ∧ s.keepsFields t [R.HOST_DMA_STATUS.BUSY]) ∧
  (∀ (s : State) (sag : Fin 16) (r : Fin 4) (d : List Byte), s.ringReady (4 * sag.val + r.val) = true → (d.map (·.toNat)).getD 0 0 = 1 →
      ∃ t, exec (.streamRefill sag r d []) s = .next t ∧ (t.ring (4 * sag.val + r.val)).desc = some (descOf (d.map (·.toNat))) ∧ (t.ring (4 * sag.val + r.val)).code = s.descCode sag.val (descOf (d.map (·.toNat))) (d.map (·.toNat)) ∧ (t.ring (4 * sag.val + r.val)).moved = 0 ∧
        t.rd R.HOST_DMA_STATUS.BUSY (4 * sag.val + r.val) = 1 ∧ s.keeps t [.regs, .host] ∧ s.keepsFields t [R.HOST_DMA_STATUS.BUSY]) ∧
  (∀ (s : State) (sag : Fin 16) (r : Fin 4) (d b : List Byte), s.ringReady (4 * sag.val + r.val) = true → (d.map (·.toNat)).getD 0 0 = 1 → b.length = 272 →
      s.descCode sag.val (descOf (d.map (·.toNat))) (d.map (·.toNat)) = 0 → 272 ≤ smGet 0 s.host.credit sag.val → 272 ≤ smGet 0 s.host.credit (64 + (descOf (d.map (·.toNat))).tile) →
      ∃ t, exec (.streamRefill sag r d b) s = .next t ∧ (t.ring (4 * sag.val + r.val)).moved = 1 ∧
        t.stores = (s.rowBlock (descOf (d.map (·.toNat))).tile (1024 * s.rd R.SEG_STORE_CFG.RING_BASE (descOf (d.map (·.toNat))).tile +
          256 * s.slotSize (descOf (d.map (·.toNat))).tile * (descOf (d.map (·.toNat))).slot + 8 * (descOf (d.map (·.toNat))).devAddr) (b.map (·.toNat))).stores) ∧
  (∀ (s : State) (sag : Fin 16) (r : Fin 4) (d b : List Byte) (x : Desc), (s.ring (4 * sag.val + r.val)).desc = some x → x.op = 1 → (s.ring (4 * sag.val + r.val)).code = 0 → (s.ring (4 * sag.val + r.val)).moved < x.count → b.length = 272 → 272 ≤ smGet 0 s.host.credit sag.val → 272 ≤ smGet 0 s.host.credit (64 + x.tile) →
      ∃ t, exec (.streamRefill sag r d b) s = .next t ∧ (t.ring (4 * sag.val + r.val)).moved = (s.ring (4 * sag.val + r.val)).moved + 1 ∧
        t.stores = (s.rowBlock x.tile (1024 * s.rd R.SEG_STORE_CFG.RING_BASE x.tile + 256 * s.slotSize x.tile * x.slot + 8 * (x.devAddr + (s.ring (4 * sag.val + r.val)).moved)) (b.map (·.toNat))).stores ∧ smGet 0 t.host.credit sag.val = smGet 0 s.host.credit sag.val - 272 ∧
        smGet 0 t.host.credit (64 + x.tile) = smGet 0 s.host.credit (64 + x.tile) - 272 ∧
        (bitAt x.flags 1 = true → (s.ring (4 * sag.val + r.val)).moved + 1 = x.count → t.rd R.SEG_SLOT.READY (slotInst' x.tile x.slot) = 1 ∧ t.rd R.SEG_SLOT.TAG (slotInst' x.tile x.slot) = x.tag % 2 ^ R.SEG_SLOT.TAG.width)) ∧
  (∀ (s : State) (sag : Fin 16) (r : Fin 4) (d b : List Byte), s.ringReady (4 * sag.val + r.val) = true → (d.map (·.toNat)).getD 0 0 = 2 → b.length = 272 →
      s.descCode sag.val (descOf (d.map (·.toNat))) (d.map (·.toNat)) = 0 → 272 ≤ smGet 0 s.host.credit sag.val → 272 ≤ smGet 0 s.host.credit (64 + (descOf (d.map (·.toNat))).tile) →
      ∃ t, exec (.residentLoad sag r d b) s = .next t ∧ (t.ring (4 * sag.val + r.val)).moved = 1 ∧
        t.stores = (s.rowBlock (descOf (d.map (·.toNat))).tile (8 * (descOf (d.map (·.toNat))).devAddr) (b.map (·.toNat))).stores ∧ s.keeps t [.regs, .host, .stores]) ∧
  (∀ (s : State) (sag : Fin 16) (r : Fin 4) (d : List Byte), s.ringReady (4 * sag.val + r.val) = true → (d.map (·.toNat)).getD 0 0 = 2 →
      ∃ t, exec (.residentLoad sag r d []) s = .next t ∧ (t.ring (4 * sag.val + r.val)).desc = some (descOf (d.map (·.toNat))) ∧ (t.ring (4 * sag.val + r.val)).code = s.descCode sag.val (descOf (d.map (·.toNat))) (d.map (·.toNat)) ∧ (t.ring (4 * sag.val + r.val)).moved = 0 ∧
        t.rd R.HOST_DMA_STATUS.BUSY (4 * sag.val + r.val) = 1 ∧ s.keeps t [.regs, .host] ∧ s.keepsFields t [R.HOST_DMA_STATUS.BUSY]) ∧
  (∀ (s : State) (sag : Fin 16) (r : Fin 4) (d b : List Byte) (x : Desc), (s.ring (4 * sag.val + r.val)).desc = some x → x.op = 2 → (s.ring (4 * sag.val + r.val)).code = 0 → (s.ring (4 * sag.val + r.val)).moved < x.count → b.length = 272 → 272 ≤ smGet 0 s.host.credit sag.val → 272 ≤ smGet 0 s.host.credit (64 + x.tile) →
      ∃ t, exec (.residentLoad sag r d b) s = .next t ∧ (t.ring (4 * sag.val + r.val)).moved = (s.ring (4 * sag.val + r.val)).moved + 1 ∧
        t.stores = (s.rowBlock x.tile (8 * (x.devAddr + (s.ring (4 * sag.val + r.val)).moved)) (b.map (·.toNat))).stores ∧ smGet 0 t.host.credit sag.val = smGet 0 s.host.credit sag.val - 272 ∧
        smGet 0 t.host.credit (64 + x.tile) = smGet 0 s.host.credit (64 + x.tile) - 272 ∧ s.keeps t [.host, .stores]) ∧
  (∀ (s : State) (sag : Fin 16) (r : Fin 4) (d : List Byte), s.ringReady (4 * sag.val + r.val) = true → (d.map (·.toNat)).getD 0 0 = 3 → s.descCode sag.val (descOf (d.map (·.toNat))) (d.map (·.toNat)) = 0 → (descOf (d.map (·.toNat))).count ≤ 4096 →
      s.regionBusy (capRegion ((descOf (d.map (·.toNat))).devAddr / 8)) = false → s.regionBusy (capRegion (((descOf (d.map (·.toNat))).devAddr + (descOf (d.map (·.toNat))).count - 1) / 8)) = false → (∀ j, j < 512 → smGet 0 s.capEcc ((descOf (d.map (·.toNat))).devAddr / 8 + j) ≠ 2) →
      ∃ t, exec (.upload sag r d) s = .next t ∧ (t.ring (4 * sag.val + r.val)).moved = (descOf (d.map (·.toNat))).count ∧ (t.ring (4 * sag.val + r.val)).finished = true ∧ s.keeps t [.regs, .host] ∧
        t.out = (List.range ((descOf (d.map (·.toNat))).count / 8)).map (fun j => Out.hostWrite ((descOf (d.map (·.toNat))).hostAddr + 8 * j) (leBytes 8 (smGet 0 s.cap ((descOf (d.map (·.toNat))).devAddr / 8 + j))) false)) ∧
  ∀ (s : State) (sag : Fin 16) (r : Fin 4) (d : List Byte), s.ringReady (4 * sag.val + r.val) = true → (d.map (·.toNat)).getD 0 0 = 3 → (s.descCode sag.val (descOf (d.map (·.toNat))) (d.map (·.toNat)) ≠ 0 ∨ s.regionBusy (capRegion ((descOf (d.map (·.toNat))).devAddr / 8)) = true) →
    ∃ t, exec (.upload sag r d) s = .next t ∧ (t.ring (4 * sag.val + r.val)).desc = some (descOf (d.map (·.toNat))) ∧ (t.ring (4 * sag.val + r.val)).code = s.descCode sag.val (descOf (d.map (·.toNat))) (d.map (·.toNat)) ∧ (t.ring (4 * sag.val + r.val)).moved = 0 ∧ t.out = [] ∧ s.keeps t [.regs, .host]

/-- A descriptor ends with its STATUS word in host memory and HEAD one further, with DMA_DONE where NOTIFY asks for it (R478, R481); an error of host access ends it with CODE 6 and stops its ring (R480, R482); an arbitration frame renews the credits (R212, R476). -/
def Obligations.DescriptorEnds : Prop :=
  (∀ (s : State) (sag : Fin 16) (r : Fin 4) (d : Desc), (s.ring (4 * sag.val + r.val)).desc = some d → (s.ring (4 * sag.val + r.val)).finished = true → s.refillBefore (4 * sag.val + r.val) = false →
      ∃ t, exec (.descriptorComplete sag r) s = .next t ∧ t.out = [.hostWrite ((s.ring (4 * sag.val + r.val)).addr + 28) (leBytes 4 ((s.ring (4 * sag.val + r.val)).code + 2 ^ 31)) false] ∧
        t.rd R.HOST_DMA_HEAD.HEAD (4 * sag.val + r.val) = (if (s.ring (4 * sag.val + r.val)).stale then s.rd R.HOST_DMA_HEAD.HEAD (4 * sag.val + r.val) else (s.rd R.HOST_DMA_HEAD.HEAD (4 * sag.val + r.val) + 1) % 2 ^ s.rd R.HOST_DMA_CFG.SIZE_LOG2 (4 * sag.val + r.val) % 2 ^ R.HOST_DMA_HEAD.HEAD.width) ∧
        t.rd R.HOST_DMA_STATUS.BUSY (4 * sag.val + r.val) = 0 ∧ t.rd R.HOST_DMA_STATUS.LAST_CODE (4 * sag.val + r.val) = (s.ring (4 * sag.val + r.val)).code % 2 ^ R.HOST_DMA_STATUS.LAST_CODE.width ∧ t.ring (4 * sag.val + r.val) = .idle ∧
        t.hub.asserted = s.hub.asserted ++ (if bitAt d.flags 0 then [(1024 + 4 * sag.val, 0)] else [])) ∧
  (∀ (s : State) (sag : Fin 16) (r : Fin 4), ((s.ring (4 * sag.val + r.val)).finished = false ∨ s.refillBefore (4 * sag.val + r.val) = true) → ∃ t, exec (.descriptorComplete sag r) s = .next t ∧ s.keeps t []) ∧
  (∀ (s : State) (sag : Fin 16) (r : Fin 4) (to' : Bool), ((s.ring (4 * sag.val + r.val)).desc.isSome = true ∨ s.ringReady (4 * sag.val + r.val) = true) →
      ∃ t, exec (.dmaHostError sag r to') s = .next t ∧ t.out = (if (s.ring (4 * sag.val + r.val)).desc.isSome then [.hostWrite ((s.ring (4 * sag.val + r.val)).addr + 28) (leBytes 4 (6 + 2 ^ 31)) false] else []) ∧ t.rd R.HOST_DMA_CFG.EN (4 * sag.val + r.val) = 0 ∧
        t.rd R.HOST_DMA_STATUS.ERROR (4 * sag.val + r.val) = 1 ∧ t.ring (4 * sag.val + r.val) = .idle ∧ t.hub.asserted = s.hub.asserted ++ [(1024 + 4 * sag.val + 1, 0)] ∧ (∀ f, s.fnOf sag.val = some f → to' = true → t.rd R.HOST_ERR.CPL_TIMEOUT f = 1)) ∧
  ∀ s : State, ∃ t, exec .dmaArbitrationFrame s = .next t ∧ (∀ k : Nat, k < 16 → smGet 0 t.host.credit k = 375 * s.rd R.SAG_QUOTA_B.STREAM_SHARE k ∧ smGet 0 t.host.credit (64 + k) = 12000) ∧ s.keeps t [.host]

/-- Frames of the service port (R485 to R494): a good write waits for its commit, a status frame returns the status byte, a bad frame is counted with its cause, and a frame met while a commit runs is ignored. -/
def Obligations.ServicePortFrames : Prop :=
  (∀ (s : State) (bytes : List Byte), s.spiBusy = false → 8 ≤ bytes.length → bytes.length ≤ 260 → bytes.length % 4 = 0 → beVal ((bytes.map BitVec.toNat).take 4) % 4 = 0 →
      ∃ t, exec (.spiWriteFrame bytes 0) s = .next t ∧
        t.spi.commit = some (((beWords ((bytes.map BitVec.toNat).drop 4)).zipIdx.map fun e => (beVal ((bytes.map BitVec.toNat).take 4) + 4 * e.2, e.1)).filter fun e => !spiPast (beVal ((bytes.map BitVec.toNat).take 4)) e.1) ∧
        t.out = [.data (s.spiStatus :: List.replicate bytes.length 0)] ∧ t.rd R.SPIS_COUNT.FRAMES 0 = min (s.rd R.SPIS_COUNT.FRAMES 0 + 1) (2 ^ R.SPIS_COUNT.FRAMES.width - 1) ∧
        t.rd R.SPIS_COUNT.REJECTS 0 = s.rd R.SPIS_COUNT.REJECTS 0 ∧ t.rd R.SPIS_STATUS.REJECT_CAUSE 0 = 0 ∧ s.keeps t [.regs, .spi]) ∧
  (∀ (s : State) (a w : Word), s.spiBusy = false → a.toNat % 4 = 0 → spiPast a.toNat a.toNat = false →
      ∃ t, exec (.spiWriteFrame ([a.extractLsb' 24 8, a.extractLsb' 16 8, a.extractLsb' 8 8, a.extractLsb' 0 8, w.extractLsb' 24 8, w.extractLsb' 16 8, w.extractLsb' 8 8, w.extractLsb' 0 8]) 0) s = .next t ∧
        t.spi.commit = some [(a.toNat, w.toNat)] ∧ t.out = [.data (s.spiStatus :: List.replicate 8 0)] ∧ t.rd R.SPIS_COUNT.FRAMES 0 = min (s.rd R.SPIS_COUNT.FRAMES 0 + 1) (2 ^ R.SPIS_COUNT.FRAMES.width - 1) ∧
        t.rd R.SPIS_STATUS.REJECT_CAUSE 0 = 0 ∧ s.keeps t [.regs, .spi]) ∧
  (∀ (s : State) (bytes : List Byte) (x : Fin 8) (c : Nat), s.spiBusy = false →
      spiCause (bytes.length < 4) ((bytes.length - 4) % 4 ≠ 0 || x.val ≠ 0) (beVal ((bytes.map BitVec.toNat).take 4) % 4 ≠ 0) (decide (bytes.length - 4 > 256)) = c → c ≠ 0 →
      ∃ t, exec (.spiWriteFrame bytes x) s = .next t ∧ t.rd R.SPIS_STATUS.REJECT_CAUSE 0 = c ∧ t.rd R.SPIS_COUNT.REJECTS 0 = min (s.rd R.SPIS_COUNT.REJECTS 0 + 1) (2 ^ R.SPIS_COUNT.REJECTS.width - 1) ∧
        t.spi = s.spi ∧ s.keeps t [.regs] ∧ s.keepsFields t [R.SPIS_COUNT.FRAMES, R.SPIS_COUNT.REJECTS, R.SPIS_STATUS.LAST, R.SPIS_STATUS.REJECT_CAUSE]) ∧
  (∀ (s : State) (w : Word) (past : Bool), s.spi.commit = some [(0x2000010, w.toNat)] → s.spi.overrun = past → decodeOffset 0x2000010 = some (.SPIS_SCRATCH, 0) →
      ∃ t, exec .spiCommitDone s = .next t ∧ t.spi.commit = none ∧ t.rd R.SPIS_SCRATCH.SCRATCH 0 = w.toNat ∧ t.rd R.SPIS_STATUS.LAST 0 = 1 + 4 * b2n past) ∧
  (∀ (s : State) (a w : Nat), s.spi.commit = some [(a, w)] → 0x2000000 ≤ a → ((decodeOffset a).any fun x => s.mayWrite .spi x.1 x.2) = false →
      ∃ t, exec .spiCommitDone s = .next t ∧ t.spi.commit = none ∧ t.rd R.SPIS_COUNT.REFUSED 0 = min (s.rd R.SPIS_COUNT.REFUSED 0 + 1) (2 ^ R.SPIS_COUNT.REFUSED.width - 1) ∧
        t.rd R.SPIS_STATUS.LAST 0 = 9 + 4 * b2n s.spi.overrun ∧ s.keeps t [.regs, .spi]) ∧
  (∀ (s : State) (l : List (Nat × Nat)), s.spi.commit = some l → ∃ t, exec .spiCommitDone s = .next t ∧ t.spi = ⟨none, false⟩ ∧ bitAt (t.rd R.SPIS_STATUS.LAST 0) 0 = true ∧ bitAt (t.rd R.SPIS_STATUS.LAST 0) 2 = s.spi.overrun) ∧
  (∀ s : State, s.spi.commit = none → ∃ t, exec .spiCommitDone s = .next t ∧ s.keeps t []) ∧
  (∀ (s : State) (bytes : List Byte) (a : Nat), s.spiBusy = false → bytes.length = 4 → beVal ((bytes.map BitVec.toNat).take 4) = a → a % 4 = 0 → a < 0x2000400 → (0x2000000 ≤ a ∨ s.alive = true) → spiPast a a = false →
      ∃ t, exec (.spiReadFrame bytes 4 0) s = .next t ∧ t.rd R.SPIS_STATUS.LAST 0 = 1 ∧ t.rd R.SPIS_STATUS.REJECT_CAUSE 0 = 0 ∧ t.out = [.data (s.spiStatus :: beBytes 4 (({ s with out := [] }).busRead .spi a).2.1)]) ∧
  (∀ (s : State) (bytes : List Byte), s.spiBusy = false → bytes.length = 4 → beVal ((bytes.map BitVec.toNat).take 4) % 4 = 0 → beVal ((bytes.map BitVec.toNat).take 4) < 0x2000000 → s.alive = false → spiPast (beVal ((bytes.map BitVec.toNat).take 4)) (beVal ((bytes.map BitVec.toNat).take 4)) = false →
      ∃ t, exec (.spiReadFrame bytes 4 0) s = .next t ∧ t.rd R.SPIS_STATUS.LAST 0 = 17 ∧ t.out = [.data (s.spiStatus :: [0, 0, 0, 0])]) ∧
  (∀ (s : State) (bytes : List Byte) (len : Nat) (x : Fin 8) (c : Nat), s.spiBusy = false → spiCause (bytes.length < 4) (len % 4 ≠ 0 || x.val ≠ 0) (beVal ((bytes.map BitVec.toNat).take 4) % 4 ≠ 0) (decide (64 < len / 4)) = c → c ≠ 0 →
      ∃ t, exec (.spiReadFrame bytes len x) s = .next t ∧ t.rd R.SPIS_STATUS.REJECT_CAUSE 0 = c ∧ bitAt (t.rd R.SPIS_STATUS.LAST 0) 1 = true ∧ bitAt (t.rd R.SPIS_STATUS.LAST 0) 0 = false ∧
        t.rd R.SPIS_COUNT.REJECTS 0 = min (s.rd R.SPIS_COUNT.REJECTS 0 + 1) (2 ^ R.SPIS_COUNT.REJECTS.width - 1)) ∧
  (∀ s : State, s.spiBusy = false → ∃ t, exec .spiStatusFrame s = .next t ∧ t.out = [.data [s.rd R.SPIS_STATUS.LAST 0 % 32 + 64 * b2n s.m.trip]] ∧ t.rd R.SPIS_STATUS.LAST 0 = 1 ∧ t.rd R.SPIS_STATUS.REJECT_CAUSE 0 = 0 ∧ s.keeps t [.regs]) ∧
  (∀ (s : State) (c : Byte), s.spiBusy = false → c ∉ [2, 3, 5] → ∃ t, exec (.spiReservedCommand c) s = .next t ∧ t.rd R.SPIS_STATUS.LAST 0 = 2 ∧ t.rd R.SPIS_STATUS.REJECT_CAUSE 0 = 3 ∧
      t.rd R.SPIS_COUNT.REJECTS 0 = min (s.rd R.SPIS_COUNT.REJECTS 0 + 1) (2 ^ R.SPIS_COUNT.REJECTS.width - 1) ∧ s.keeps t [.regs]) ∧
  (∀ (s : State) (n : Fin 8), s.spiBusy = false → ∃ t, exec (.spiHeaderFrame n) s = .next t ∧ t.rd R.SPIS_STATUS.LAST 0 = 2 ∧ t.rd R.SPIS_STATUS.REJECT_CAUSE 0 = 2 ∧
      t.rd R.SPIS_COUNT.REJECTS 0 = min (s.rd R.SPIS_COUNT.REJECTS 0 + 1) (2 ^ R.SPIS_COUNT.REJECTS.width - 1) ∧ t.out = [] ∧ s.keeps t [.regs]) ∧
  (∀ (s : State) (bytes : List Byte) (x : Fin 8), s.spiBusy = true → ∃ t, exec (.spiWriteFrame bytes x) s = .next t ∧ t.out = [.data (s.spiStatus :: List.replicate bytes.length 0)] ∧ s.keeps t []) ∧
  ∀ (s : State) (bytes : List Byte) (len : Nat) (x n : Fin 8) (b : Byte), s.spiBusy = true →
    (∃ t, exec (.spiReadFrame bytes len x) s = .next t ∧ t.out = [.data (s.spiStatus :: List.replicate (4 + len) 0)] ∧ s.keeps t []) ∧ (∃ t, exec .spiStatusFrame s = .next t ∧ t.out = [.data [s.spiStatus]] ∧ s.keeps t []) ∧
    (∃ t, exec (.spiReservedCommand b) s = .next t ∧ s.keeps t []) ∧ (∃ t, exec (.spiHeaderFrame n) s = .next t ∧ t.out = [] ∧ s.keeps t [])

/-- The comparators of a lane at a VCLK edge (R121, R128 to R133): a ball beyond the band of a threshold decides its output, a ball inside leaves it, and a monitor whose condition comes true latches and raises its source. -/
def Obligations.LaneComparators : Prop :=
  (∀ (s : State) (l : Fin 1024) (ball : Int), s.laneOn l.val = true → s.laneUsed l.val = true → s.leff R.LANE_CTL.CMP_EN l.val ≠ 0 → (s.lane l.val).unsetH = false → (s.lane l.val).unsetL = false →
      ∃ t, exec (.comparatorChange l ball) s = .next t ∧ (t.lane l.val).ball = ball ∧
        (ball * 65536 > s.levelUv l.val 3 + hystUv (s.leff R.LANE_CMP_CTL.HYST_H l.val) * 32768 → (t.lane l.val).ch = true) ∧
        (ball * 65536 < s.levelUv l.val 3 - hystUv (s.leff R.LANE_CMP_CTL.HYST_H l.val) * 32768 → (t.lane l.val).ch = false) ∧
        ((ball * 65536 ≤ s.levelUv l.val 3 + hystUv (s.leff R.LANE_CMP_CTL.HYST_H l.val) * 32768 ∧ s.levelUv l.val 3 - hystUv (s.leff R.LANE_CMP_CTL.HYST_H l.val) * 32768 ≤ ball * 65536) →
          (t.lane l.val).ch = (s.lane l.val).ch) ∧
        (ball * 65536 > s.levelUv l.val 4 + hystUv (s.leff R.LANE_CMP_CTL.HYST_L l.val) * 32768 → (t.lane l.val).cl = false) ∧
        (ball * 65536 < s.levelUv l.val 4 - hystUv (s.leff R.LANE_CMP_CTL.HYST_L l.val) * 32768 → (t.lane l.val).cl = true)) ∧
  (∀ (s : State) (l : Fin 1024), s.laneOn l.val = true → s.laneUsed l.val = true → s.leff R.LANE_CTL.CMP_EN l.val = 0 →
      ∃ t, exec (.comparatorSample l) s = .next t ∧ (t.lane l.val).ch = false ∧ (t.lane l.val).cl = false ∧ s.keeps t [.lanes]) ∧
  ∀ (s : State) (l : Fin 1024), s.laneOn l.val = true → s.laneUsed l.val = true → s.leff R.LANE_CTL.CMP_EN l.val ≠ 0 → (s.lane l.val).unsetH = false → (s.lane l.val).unsetL = false →
    (s.lane l.val).ball * 65536 > s.levelUv l.val 3 + hystUv (s.leff R.LANE_CMP_CTL.HYST_H l.val) * 32768 → s.leff R.LANE_MON_CTL.COND l.val = 1 → s.leff R.LANE_MON_CTL.FILTER l.val = 0 →
    s.leff R.LANE_MON_CTL.LATCH_MODE l.val = 1 → s.fl R.LANE_MON.LATCH l.val = false →
    ∃ t, exec (.comparatorSample l) s = .next t ∧ (t.lane l.val).ch = true ∧ t.fl R.LANE_MON.LATCH l.val = true ∧ t.hub.asserted = s.hub.asserted ++ [(320 + l.val / 8 * 4, 0)] ∧ s.keeps t [.regs, .hub, .lanes]

/-- Faults of a lane's driver, clamps and PPMU (R119, R136, R311, R410) set their bits once, each rise raising the lane-fault source, and a clear of DRV_TRIP gives the driver back. -/
def Obligations.LaneFaults : Prop :=
  (∀ (s : State) (l : Fin 1024), s.driver l.val ≠ 0 → s.fl R.LANE_STATUS.DRV_TRIP l.val = false →
      ∃ t, exec (.driverTrip l) s = .next t ∧ t.fl R.LANE_STATUS.DRV_TRIP l.val = true ∧ t.driver l.val = 0 ∧ t.hub.asserted = s.hub.asserted ++ [(320 + l.val / 8 * 4 + 1, 0)] ∧ s.keeps t [.regs, .hub, .lanes]) ∧
  (∀ (s : State) (rq : Req) (l : Fin 1024) (w : Word), s.canWrite rq .LANE_STATUS l.val → (s.play (l.val / 64)).playing = false →
      ∃ t, exec (.drvTripClear rq l w) s = .next t ∧ t.fl R.LANE_STATUS.DRV_TRIP l.val = false ∧ (t.lane l.val).tripOff = false) ∧
  (∀ (s : State) (l : Fin 1024), s.clamping l.val = true → s.fl R.LANE_STATUS.CLAMP_HIT l.val = false →
      ∃ t, exec (.clampHit l) s = .next t ∧ t.fl R.LANE_STATUS.CLAMP_HIT l.val = true ∧ t.hub.asserted = s.hub.asserted ++ [(320 + l.val / 8 * 4 + 1, 0)] ∧ s.keeps t [.regs, .hub]) ∧
  (∀ (s : State) (l : Fin 1024), bitAt (s.rd R.OCT_PPMU_COMPL.IN_COMPL (l.val / 8)) (l.val % 8) = false → bitAt (s.rd R.OCT_PPMU_COMPL.COMPL_HIT (l.val / 8)) (l.val % 8) = false →
      ∃ t, exec (.ppmuCompliance l true) s = .next t ∧ bitAt (t.rd R.OCT_PPMU_COMPL.IN_COMPL (l.val / 8)) (l.val % 8) = true ∧ bitAt (t.rd R.OCT_PPMU_COMPL.COMPL_HIT (l.val / 8)) (l.val % 8) = true ∧
        t.hub.asserted = s.hub.asserted ++ [(320 + 4 * (l.val / 8) + 1, 0)] ∧ s.keeps t [.regs, .hub]) ∧
  ∀ (s : State) (l : Fin 1024), ∃ t, exec (.ppmuCompliance l false) s = .next t ∧ bitAt (t.rd R.OCT_PPMU_COMPL.IN_COMPL (l.val / 8)) (l.val % 8) = false ∧
    t.rd R.OCT_PPMU_COMPL.COMPL_HIT (l.val / 8) = s.rd R.OCT_PPMU_COMPL.COMPL_HIT (l.val / 8) ∧ s.keeps t [.regs]

/-- A front-end handover (R140 to R144): a request in SERVICE waits, one outside SERVICE is refused, it starts where R142 allows it and at a moment of R520, and its end puts the ball on the other front end. -/
def Obligations.FrontEndHandover : Prop :=
  (∀ (s : State) (rq : Req) (l : Fin 1024) (w : Word), s.canWrite rq .LANE_FE l.val → s.sagOf rq = some 0 → s.m.mode = .service → bitAt (s.rd R.LANE_FE.RETIRED l.val) (1 - s.rd R.LANE_FE.ACTIVE_FE l.val) = false → (s.lane l.val).handover = none →
      ∃ t, exec (.laneSwapReq rq l w) s = .next t ∧ (t.lane l.val).handover = some ⟨0, false, 0, false⟩ ∧ t.rd R.LANE_FE.ACTIVE_FE l.val = s.rd R.LANE_FE.ACTIVE_FE l.val) ∧
  (∀ (s : State) (f : Fin 64) (l : Fin 1024) (w : Word), s.canWrite (.fn f) .LANE_FE l.val → s.m.mode ≠ .service →
      ∃ t, exec (.laneSwapReq (.fn f) l w) s = .next t ∧ t.fl R.LANE_FE.SWAP_REFUSED l.val = true ∧ t.lanes = s.lanes ∧ t.rd R.HOST_REFUSE.COUNT f.val = min (s.rd R.HOST_REFUSE.COUNT f.val + 1) 65535) ∧
  (∀ (s : State) (l : Fin 1024) (h : Handover), (s.lane l.val).handover = some h → h.started = false → s.handoverOk l.val = true → s.feStep l.val = false →
      (h.why ≠ 1 ∨ (s.play (l.val / 64)).playing = false ∨ (s.play (l.val / 64)).gapOk = true) →
      ∃ t, exec (.handoverStart l) s = .next t ∧ (t.lane l.val).handover = some { h with started := true } ∧ t.rd R.LANE_FE.OTHER_STATE l.val = 3 ∧ s.keeps t [.regs, .lanes] ∧ s.keepsFields t [R.LANE_FE.OTHER_STATE]) ∧
  ∀ (s : State) (l : Fin 1024) (h : Handover), (s.lane l.val).handover = some h → h.started = true →
    (s.spare.waiting.find? fun w => w.key = l.val + 65536 * (1 - (if h.swapped then s.rd R.LANE_FE.ACTIVE_FE l.val else 1 - s.rd R.LANE_FE.ACTIVE_FE l.val))) = none →
    ∃ t, exec (.handoverDone l) s = .next t ∧ t.rd R.LANE_FE.ACTIVE_FE l.val = (if h.swapped then s.rd R.LANE_FE.ACTIVE_FE l.val else 1 - s.rd R.LANE_FE.ACTIVE_FE l.val) ∧ t.rd R.LANE_FE.OTHER_STATE l.val = 0 ∧
      (t.lane l.val).handover = none ∧ t.rd R.LANE_FE.HANDOVER_COUNT l.val = min (s.rd R.LANE_FE.HANDOVER_COUNT l.val + 1) (2 ^ R.LANE_FE.HANDOVER_COUNT.width - 1) ∧ s.keeps t [.regs, .lanes, .cals] ∧
      s.keepsFields t [R.LANE_FE.ACTIVE_FE, R.LANE_FE.OTHER_STATE, R.LANE_FE.HANDOVER_COUNT]

/-- Connections of PPMU and octet matrix (R138, R318 to R320): the two exclude each other on a lane, and an accepted write is stored. -/
def Obligations.MatrixConnections : Prop :=
  (∀ (s : State) (rq : Req) (l : Fin 1024) (w : Word), s.canWrite rq .LANE_PPMU_CTL l.val → s.laneUsed l.val = true → bitAt (s.rd R.OCT_MATRIX.LANE_SEL (l.val / 8)) (l.val % 8) = false →
      ∃ t, exec (.ppmuConnectWrite rq l w) s = .next t ∧ t.rd R.LANE_PPMU_CTL.CONNECT l.val = R.LANE_PPMU_CTL.CONNECT.part w.toNat ∧ t.rd R.LANE_PPMU_CTL.MODE l.val = R.LANE_PPMU_CTL.MODE.part w.toNat ∧
        t.rd R.LANE_PPMU_CTL.RANGE l.val = R.LANE_PPMU_CTL.RANGE.part w.toNat) ∧
  (∀ (s : State) (f : Fin 64) (l : Fin 1024) (w : Word), s.canWrite (.fn f) .LANE_PPMU_CTL l.val → s.laneUsed l.val = true → bitAt (s.rd R.OCT_MATRIX.LANE_SEL (l.val / 8)) (l.val % 8) = true → R.LANE_PPMU_CTL.CONNECT.part w.toNat = 1 →
      ∃ t, exec (.ppmuConnectWrite (.fn f) l w) s = .next t ∧ t.rd R.LANE_PPMU_CTL.CONNECT l.val = 0 ∧ bitAt (t.rd R.OCT_STATUS.CONFLICT (l.val / 8)) (l.val % 8) = true ∧
        t.rd R.HOST_REFUSE.COUNT f.val = min (s.rd R.HOST_REFUSE.COUNT f.val + 1) 65535) ∧
  (∀ (s : State) (rq : Req) (o : Fin 128) (w : Word), s.canWrite rq .OCT_MATRIX o.val → s.rd R.OCT_STATUS.SMU_SOURCE o.val = 0 →
      (∀ j, j < 8 → bitAt (R.OCT_MATRIX.LANE_SEL.part w.toNat) j = true → s.laneUsed (8 * o.val + j) = true ∧ s.fl R.LANE_PPMU_CTL.CONNECT (8 * o.val + j) = false ∧
        (s.rd R.SMU_CTL.FMODE o.val ≠ 0 ∨ s.smuCodeOkFor (s.rd R.SMU_FORCE_CFG.SPAN o.val) (s.rd R.SMU_FORCE_CODE.CODE o.val) (8 * o.val + j) = true)) →
      ∃ t, exec (.octMatrixWrite rq o w) s = .next t ∧ t.rd R.OCT_MATRIX.LANE_SEL o.val = R.OCT_MATRIX.LANE_SEL.part w.toNat ∧ t.rd R.OCT_MATRIX.BALL_EN o.val = R.OCT_MATRIX.BALL_EN.part w.toNat) ∧
  ∀ (s : State) (rq : Req) (o : Fin 128) (w : Word) (j : Nat), s.canWrite rq .OCT_MATRIX o.val → s.rd R.OCT_STATUS.SMU_SOURCE o.val ≠ 3 → j < 8 → bitAt (R.OCT_MATRIX.LANE_SEL.part w.toNat) j = true →
    s.fl R.LANE_PPMU_CTL.CONNECT (8 * o.val + j) = true →
    ∃ t, exec (.octMatrixWrite rq o w) s = .next t ∧ bitAt (t.rd R.OCT_MATRIX.LANE_SEL o.val) j = false ∧ bitAt (t.rd R.OCT_STATUS.CONFLICT o.val) j = true ∧ bitAt (t.rd R.OCT_STATUS.DROPPED o.val) j = true

/-- A write of OCT_LVL_UPDATE.GO = 1 triggers the DACs in scope, and no other (R152): with ALL_OWNED = 0 those of the octet, with ALL_OWNED = 1 those of the saggar that writes. -/
def Obligations.UpdateAll : Prop :=
  (∀ (s : State) (rq : Req) (o : Fin 128) (w : Word) (k : Nat), s.canWrite rq .OCT_LVL_UPDATE o.val → R.OCT_LVL_UPDATE.ALL_OWNED.part w.toNat = 0 →
      ∃ t, exec (.updateAllGo rq o w) s = .next t ∧ (k ∈ octetDacs o.val → (t.dac k).target = s.dacStored k) ∧ (k ∉ octetDacs o.val → t.dac k = s.dac k)) ∧
  ∀ (s : State) (rq : Req) (o : Fin 128) (w : Word) (k sag : Nat), s.canWrite rq .OCT_LVL_UPDATE o.val → R.OCT_LVL_UPDATE.ALL_OWNED.part w.toNat = 1 → s.sagOf rq = some sag →
    ∃ t, exec (.updateAllGo rq o w) s = .next t ∧ (k ∈ s.ownedDacs sag → (t.dac k).target = s.dacStored k) ∧ (k ∉ s.ownedDacs sag → t.dac k = s.dac k)

/-- Level and force DACs (R150 to R162): a tick walks a present code by one step toward its target and never past it, and a discharge clamp ends at the zero code. -/
def Obligations.DacUpdates : Prop :=
  (∀ (s : State) (k : Nat), k < 11000 → (s.dac k).due = false → (s.dac k).range = false → (s.dac k).clamped = false → (s.dac k).fresh = false → (s.dac k).present ≠ (s.dac k).target → (s.dacSlew k).1 ≠ 0 →
      (s.dacSlew k).2 ≤ (s.dac k).count + 1 →
      ∃ t, exec .dacTick s = .next t ∧ (t.dac k).target = (s.dac k).target ∧ (t.dac k).count = 0 ∧
        (t.dac k).present = if (s.dac k).present < (s.dac k).target then min ((s.dac k).present + (s.dacSlew k).1) (s.dac k).target else max ((s.dac k).present - (s.dacSlew k).1) (s.dac k).target) ∧
  (∀ (s : State) (k : Nat), k < 11000 → (s.dac k).range = true → ∃ t, exec .dacTick s = .next t ∧ (t.dac k).clamped = true ∧ (t.dac k).present = s.dacZero k ∧ (t.dac k).target = s.dacStored k ∧ (t.dac k).range = false) ∧
  ∀ (s : State) (k : Nat), (s.dac k).clamped = true → s.fl R.DEV_MODE.FIRST_RUN 0 = true → (s.dacSlew k).1 ≠ 0 →
    ∃ t, exec (.dischargeClampEnd k) s = .next t ∧ (t.dac k).clamped = false ∧ (t.dac k).present = (s.dac k).present ∧ (t.dac k).target = (s.dac k).target ∧ s.keeps t [.dacs]

/-- Timing sets and NCOs (R171 to R175, R193): a commit takes the set and TIP_REF of its write, its end copies the staged set in or names the cause of its rejection, a fetch copies a set out, and the high half of an FTW commits both. -/
def Obligations.TimingSets : Prop :=
  (∀ (s : State) (rq : Req) (t' : Fin 16) (w : Word), s.canWrite rq .TS_COMMIT t'.val → s.rd R.TS_COMMIT.STATUS t'.val ≠ 1 →
      ∃ t, exec (.tsCommit rq t' w) s = .next t ∧ t.rd R.TS_COMMIT.STATUS t'.val = 1 ∧ (t.play t'.val).commit = (R.TS_COMMIT.SET.part w.toNat, R.TS_COMMIT.TIP_REF.part w.toNat) ∧
        (t.play t'.val).sets = (s.play t'.val).sets) ∧
  (∀ (s : State) (f : Fin 64) (t' : Fin 16) (w : Word), s.canWrite (.fn f) .TS_COMMIT t'.val → s.rd R.TS_COMMIT.STATUS t'.val = 1 →
      ∃ t, exec (.tsCommit (.fn f) t' w) s = .next t ∧ t.rd R.HOST_REFUSE.COUNT f.val = min (s.rd R.HOST_REFUSE.COUNT f.val + 1) 65535 ∧ s.keeps t [.regs] ∧ s.keepsFields t refuseFields) ∧
  (∀ (s : State) (f : Fin 64) (t' : Fin 16) (w : Word), s.canWrite (.fn f) .TS_COMMIT t'.val → s.rd R.TS_COMMIT.STATUS t'.val = 1 →
      ∃ t, exec (.tsFetch (.fn f) t' w) s = .next t ∧ t.rd R.HOST_REFUSE.COUNT f.val = min (s.rd R.HOST_REFUSE.COUNT f.val + 1) 65535 ∧ s.keeps t [.regs] ∧ s.keepsFields t refuseFields) ∧
  (∀ (s : State) (t' : Fin 16), s.rd R.TS_COMMIT.STATUS t'.val ≠ 1 → ∃ t, exec (.tsCommitDone t') s = .next t ∧ s.keeps t []) ∧
  (∀ (s : State) (t' : Fin 16) (n tip : Nat), s.rd R.TS_COMMIT.STATUS t'.val = 1 → (s.play t'.val).commit = (n, tip) → (s.setCheck t'.val (decide (tip = 1))).1 = 0 →
      ∃ t, exec (.tsCommitDone t') s = .next t ∧ t.rd R.TS_COMMIT.STATUS t'.val = 2 ∧ t.rd R.TS_COMMIT.CAUSE t'.val = 0 ∧
        (t.play t'.val).setPeriod n = 128 * s.rd R.TS_STAGE_PERIOD.COARSE t'.val + s.rd R.TS_STAGE_PERIOD.FINE t'.val ∧ (t.play t'.val).item (n * 1024 + 513) = tip ∧
        (∀ i, i < 64 → (t.play t'.val).setWord n i 0 = s.rd R.TS_LANE_EDGE.EDGE (edgeInst t'.val i 0) ∧ (t.play t'.val).setWord n i 6 = s.stagedMode t'.val i) ∧
        t.hub.asserted = s.hub.asserted ++ [(64 + 16 * t'.val + 11, 0)] ∧ s.keeps t [.regs, .hub, .plays]) ∧
  (∀ (s : State) (t' : Fin 16) (n tip c d : Nat), s.rd R.TS_COMMIT.STATUS t'.val = 1 → (s.play t'.val).commit = (n, tip) → s.setCheck t'.val (decide (tip = 1)) = (c, d) → c ≠ 0 →
      ∃ t, exec (.tsCommitDone t') s = .next t ∧ t.rd R.TS_COMMIT.STATUS t'.val = 3 ∧ t.rd R.TS_COMMIT.CAUSE t'.val = c ∧ t.rd R.TS_COMMIT.DETAIL t'.val = d ∧ t.plays = s.plays ∧
        t.hub.asserted = s.hub.asserted ++ [(64 + 16 * t'.val + 11, 0)]) ∧
  (∀ (s : State) (rq : Req) (t' : Fin 16) (w : Word) (n : Nat), s.canWrite rq .TS_COMMIT t'.val → s.rd R.TS_COMMIT.STATUS t'.val ≠ 1 → R.TS_COMMIT.COMMIT.part w.toNat = 0 → R.TS_COMMIT.SET.part w.toNat = n →
      ∃ t, exec (.tsFetch rq t' w) s = .next t ∧ t.rd R.TS_COMMIT.SET t'.val = n ∧ t.plays = s.plays ∧ t.rd R.TS_STAGE_PERIOD.FINE t'.val = (s.play t'.val).setPeriod n % 128 ∧
        t.rd R.TS_STAGE_PERIOD.COARSE t'.val = (s.play t'.val).setPeriod n / 128 % 2 ^ R.TS_STAGE_PERIOD.COARSE.width ∧
        (∀ i, i < 64 → t.rd R.TS_LANE_MODE.FORMAT (64 * t'.val + i) = modeFormat ((s.play t'.val).setWord n i 6))) ∧
  ∀ (s : State) (rq : Req) (t' : Fin 16) (k : Fin 8) (w : Word), s.canWrite rq .TS_NCO_FTW_HI (8 * t'.val + k.val) →
    ∃ t, exec (.ncoFtwCommit rq t' k w) s = .next t ∧ t.rd R.TS_NCO_FTW_HI.FTW_HI (8 * t'.val + k.val) = R.TS_NCO_FTW_HI.FTW_HI.part w.toNat ∧
      t.rd R.TS_NCO_FTW_LO.FTW_LO (8 * t'.val + k.val) = ((s.play t'.val).nco k.val).stagedLo % 2 ^ 32 ∧
      ((s.play t'.val).playing = false → ((t.play t'.val).nco k.val).ftw = ((s.play t'.val).nco k.val).stagedLo % 2 ^ 32 + 2 ^ 32 * R.TS_NCO_FTW_HI.FTW_HI.part w.toNat) ∧
      ((s.play t'.val).playing = true → t.plays = s.plays)

/-- Writes and reads of the store die through BAR2 (R40, R209, R215, R460, R467): a write puts its bytes where they belong and changes no other byte, one that is not permitted is counted, a read returns the bytes and changes nothing, zeros where it is not permitted, and a read of an uncorrectable code word returns poison and is reported. -/
def Obligations.StoreWritesAndReads : Prop :=
  (∀ (s : State) (rq : Req) (off : Nat) (bytes : List Byte) (a : Nat), s.reachable rq = true → s.m.mode ≠ .legacy → off + bytes.length ≤ 0x0C000000 →
      (∀ b, off ≤ b → b < off + bytes.length → s.sliceMay rq (b / 0xC00000) true = true ∧ s.vecEcc b ≠ 2) → a < 0x0C000000 →
      ∃ t, exec (.bar2VectorWrite rq off bytes) s = .next t ∧ (t.vecByte a = if off ≤ a ∧ a < off + bytes.length then (bytes.getD (a - off) 0).toNat else s.vecByte a) ∧ s.keeps t [.stores, .host]) ∧
  (∀ (s : State) (f : Fin 64) (off : Nat) (bytes : List Byte), s.reachable (.fn f) = true → s.m.mode ≠ .legacy → bytes ≠ [] → off + bytes.length ≤ 0x0C000000 →
      (∀ b, off / 8 * 8 ≤ b → b < off + bytes.length → s.sliceMay (.fn f) (b / 0xC00000) true = false) →
      ∃ t, exec (.bar2VectorWrite (.fn f) off bytes) s = .next t ∧ t.rd R.HOST_REFUSE.COUNT f.val = min (s.rd R.HOST_REFUSE.COUNT f.val + 1) 65535 ∧ t.rd R.HOST_REFUSE_ADDR.BAR2 f.val = 1 ∧
        t.rd R.HOST_REFUSE_ADDR.OFFSET f.val = off % 2 ^ R.HOST_REFUSE_ADDR.OFFSET.width ∧ s.keeps t [.regs] ∧ s.keepsFields t refuseFields) ∧
  (∀ (s : State) (rq : Req) (off : Nat) (bytes : List Byte) (a : Nat), s.reachable rq = true → s.m.mode ≠ .legacy → 0x0C000000 ≤ off → off + bytes.length ≤ 0x0F000000 →
      (∀ b, off ≤ b → b < off + bytes.length → s.capMay rq ((b - 0x0C000000) / 65536) true = true ∧ smGet 0 s.capEcc ((b - 0x0C000000) / 8) ≠ 2) →
      ∃ t, exec (.bar2CaptureWrite rq off bytes) s = .next t ∧
        (t.capByte a = if off ≤ a + 0x0C000000 ∧ a + 0x0C000000 < off + bytes.length then (bytes.getD (a + 0x0C000000 - off) 0).toNat else s.capByte a) ∧ s.keeps t [.cap, .capEcc]) ∧
  (∀ (s : State) (rq : Req) (off len : Nat), s.reachable rq = true → s.m.mode ≠ .legacy → off + len ≤ 0x0C000000 →
      (∀ b, off / 8 * 8 ≤ b → b < off + len → s.sliceMay rq (b / 0xC00000) false = true ∧ s.vecEcc b = 0) →
      ∃ t, exec (.bar2Read rq off len) s = .next t ∧ t.out = [.data ((List.range len).map fun j => s.vecByte (off + j))] ∧ s.keeps t []) ∧
  (∀ (s : State) (rq : Req) (off len : Nat), s.reachable rq = true → s.m.mode ≠ .legacy → 0x0C000000 ≤ off → off + len ≤ 0x0F000000 →
      (∀ b, off ≤ b → b < off + len → s.capMay rq ((b - 0x0C000000) / 65536) false = true ∧ smGet 0 s.capEcc ((b - 0x0C000000) / 8) = 0) →
      ∃ t, exec (.bar2Read rq off len) s = .next t ∧ t.out = [.data ((List.range len).map fun j => s.capByte (off - 0x0C000000 + j))] ∧ s.keeps t []) ∧
  (∀ (s : State) (f : Fin 64) (off : Nat) (bytes : List Byte), s.reachable (.fn f) = true → s.m.mode ≠ .legacy → bytes ≠ [] → 0x0C000000 ≤ off → off + bytes.length ≤ 0x0F000000 →
      (∀ b, off ≤ b → b < off + bytes.length → s.capMay (.fn f) ((b - 0x0C000000) / 65536) true = false) →
      ∃ t, exec (.bar2CaptureWrite (.fn f) off bytes) s = .next t ∧ t.rd R.HOST_REFUSE.COUNT f.val = min (s.rd R.HOST_REFUSE.COUNT f.val + 1) 65535 ∧ t.rd R.HOST_REFUSE_ADDR.BAR2 f.val = 1 ∧ s.keeps t [.regs] ∧ s.keepsFields t refuseFields) ∧
  (∀ (s : State) (f : Fin 64) (off : Nat), s.reachable (.fn f) = true → s.m.mode ≠ .legacy → off < 0x0C000000 → s.sliceMay (.fn f) (off / 0xC00000) false = true → s.vecEcc off = 2 →
      ∃ t, exec (.bar2Read (.fn f) off 1) s = .next t ∧ t.out = [.poison [s.vecByte off]] ∧ t.rd R.HOST_ERR.POISON_TX f.val = 1 ∧ smGet 0 t.host.aer (16 * f.val + 10) = smGet 0 s.host.aer (16 * f.val + 10) + 1 ∧ t.stores = s.stores) ∧
  ∀ (s : State) (rq : Req) (off : Nat), s.reachable rq = true → s.m.mode ≠ .legacy → (if off < 0x0C000000 then s.sliceMay rq (off / 0xC00000) false = false else 0x0F000000 ≤ off ∨ s.capMay rq ((off - 0x0C000000) / 65536) false = false) →
    ∃ t, exec (.bar2Read rq off 1) s = .next t ∧ t.out = [.data [0]] ∧ s.keeps t []

/-- A slice and its stream ring (R208 to R210, R217, R278 to R283): writes of control fields, of the slice's configuration, of the ring's configuration and of its slots act or are refused, RESET empties the ring, and a scrub corrects single errors and reports an uncorrectable one. -/
def Obligations.StoreControl : Prop :=
  (∀ (s : State) (rq : Req) (t' : Fin 16) (w : Word), s.canWrite rq .SEG_CTLW_DATA t'.val → s.rd R.SEG_CTLW_ADDR.ROW t'.val < 393216 →
      ∃ t, exec (.ctlwDataWrite rq t' w 15) s = .next t ∧ smGet 0 (t.store t'.val).ctl (s.rd R.SEG_CTLW_ADDR.ROW t'.val) = w.toNat % 65536 ∧
        smGet 0 (t.store t'.val).ctl (s.rd R.SEG_CTLW_ADDR.ROW t'.val + 1) = w.toNat / 65536 ∧ t.rd R.SEG_CTLW_ADDR.ROW t'.val = (s.rd R.SEG_CTLW_ADDR.ROW t'.val + 2) % 2 ^ R.SEG_CTLW_ADDR.ROW.width ∧
        (t.store t'.val).words = (s.store t'.val).words ∧ s.keeps t [.regs, .stores]) ∧
  (∀ (s : State) (rq : Req) (t' : Fin 16) (w : Word), s.canWrite rq .SEG_CTLW_DATA t'.val → s.rd R.SEG_CTLW_ADDR.ROW t'.val < 393216 →
      ∃ t, exec (.ctlwDataWrite rq t' w 3) s = .next t ∧ smGet 0 (t.store t'.val).ctl (s.rd R.SEG_CTLW_ADDR.ROW t'.val) = w.toNat % 65536 ∧
        smGet 0 (t.store t'.val).ctl (s.rd R.SEG_CTLW_ADDR.ROW t'.val + 1) = smGet 0 (s.store t'.val).ctl (s.rd R.SEG_CTLW_ADDR.ROW t'.val + 1) ∧
        t.rd R.SEG_CTLW_ADDR.ROW t'.val = (s.rd R.SEG_CTLW_ADDR.ROW t'.val + 2) % 2 ^ R.SEG_CTLW_ADDR.ROW.width) ∧
  (∀ (s : State) (f : Fin 64) (t' : Fin 16) (w : Word), s.canWrite (.fn f) .SEG_CTLW_DATA t'.val → 393216 ≤ s.rd R.SEG_CTLW_ADDR.ROW t'.val →
      ∃ t, exec (.ctlwDataWrite (.fn f) t' w 15) s = .next t ∧ t.fl R.SEG_STORE_STATUS.CTLW_OVERRUN t'.val = true ∧ t.rd R.HOST_REFUSE.COUNT f.val = min (s.rd R.HOST_REFUSE.COUNT f.val + 1) 65535 ∧ t.stores = s.stores) ∧
  (∀ (s : State) (rq : Req) (t' : Fin 16) (w : Word), s.canWrite rq .SEG_STORE_CFG t'.val → (s.play t'.val).playing = false → R.SEG_STORE_CFG.RING_BASE.part w.toNat ≤ 384 →
      R.SEG_STORE_CFG.RING_BASE.part w.toNat ≠ s.rd R.SEG_STORE_CFG.RING_BASE t'.val →
      ∃ t, exec (.storeCfgWrite rq t' w) s = .next t ∧ t.rd R.SEG_STORE_CFG.RING_BASE t'.val = R.SEG_STORE_CFG.RING_BASE.part w.toNat ∧ t.rd R.SEQ_LOAD.VALID t'.val = 0 ∧
        t.rd R.SEG_STORE_CFG.SCRUB_EN t'.val = R.SEG_STORE_CFG.SCRUB_EN.part w.toNat ∧ t.rd R.SEG_RING_STATUS.NEXT_SLOT t'.val = 0 ∧ (∀ n, n < 256 → t.rd R.SEG_SLOT.READY (256 * t'.val + n) = 0)) ∧
  (∀ (s : State) (f : Fin 64) (t' : Fin 16) (w : Word), s.canWrite (.fn f) .SEG_STORE_CFG t'.val → ((s.play t'.val).playing = true ∨ 384 < R.SEG_STORE_CFG.RING_BASE.part w.toNat) →
      R.SEG_STORE_CFG.RING_BASE.part w.toNat ≠ s.rd R.SEG_STORE_CFG.RING_BASE t'.val →
      ∃ t, exec (.storeCfgWrite (.fn f) t' w) s = .next t ∧ t.rd R.SEG_STORE_CFG.RING_BASE t'.val = s.rd R.SEG_STORE_CFG.RING_BASE t'.val ∧
        t.rd R.SEG_STORE_CFG.UE_POLICY t'.val = R.SEG_STORE_CFG.UE_POLICY.part w.toNat ∧ t.rd R.HOST_REFUSE.COUNT f.val = min (s.rd R.HOST_REFUSE.COUNT f.val + 1) 65535) ∧
  (∀ (s : State) (rq : Req) (t' : Fin 16), s.canWrite rq .SEG_RING_CTL t'.val → (s.play t'.val).playing = false →
      ∃ t, exec (.ringReset rq t') s = .next t ∧ t.rd R.SEG_RING_STATUS.NEXT_SLOT t'.val = 0 ∧ t.rd R.SEG_RING_STATUS.NEXT_TAG t'.val = 0 ∧ (∀ n, n < 256 → t.rd R.SEG_SLOT.READY (256 * t'.val + n) = 0)) ∧
  (∀ (s : State) (rq : Req) (t' : Fin 16) (w : Word), s.canWrite rq .SEG_RING_CFG t'.val → (s.play t'.val).playing = false → max (R.SEG_RING_CFG.SLOT_SIZE.part w.toNat) 1 ≠ s.slotSize t'.val →
      ∃ t, exec (.ringCfgWrite rq t' w) s = .next t ∧ t.rd R.SEG_RING_CFG.SLOT_SIZE t'.val = R.SEG_RING_CFG.SLOT_SIZE.part w.toNat ∧ t.rd R.SEG_RING_CFG.LOW_WATER t'.val = R.SEG_RING_CFG.LOW_WATER.part w.toNat ∧
        t.rd R.SEQ_LOAD.VALID t'.val = 0 ∧ (∀ n, n < 256 → t.rd R.SEG_SLOT.READY (256 * t'.val + n) = 0)) ∧
  (∀ (s : State) (rq : Req) (t' : Fin 16) (w : Word), s.canWrite rq .SEG_STORE_CFG t'.val → R.SEG_STORE_CFG.RING_BASE.part w.toNat = s.rd R.SEG_STORE_CFG.RING_BASE t'.val →
      ∃ t, exec (.storeCfgWrite rq t' w) s = .next t ∧ t.rd R.SEG_STORE_CFG.UE_POLICY t'.val = R.SEG_STORE_CFG.UE_POLICY.part w.toNat ∧ t.rd R.SEG_STORE_CFG.SCRUB_EN t'.val = R.SEG_STORE_CFG.SCRUB_EN.part w.toNat ∧
        t.rd R.SEQ_LOAD.VALID t'.val = s.rd R.SEQ_LOAD.VALID t'.val ∧ s.keeps t [.regs]) ∧
  (∀ (s : State) (rq : Req) (t' : Fin 16) (w : Word), s.canWrite rq .SEG_RING_CFG t'.val → max (R.SEG_RING_CFG.SLOT_SIZE.part w.toNat) 1 = s.slotSize t'.val →
      ∃ t, exec (.ringCfgWrite rq t' w) s = .next t ∧ t.rd R.SEG_RING_CFG.SLOT_SIZE t'.val = s.rd R.SEG_RING_CFG.SLOT_SIZE t'.val ∧ t.rd R.SEG_RING_CFG.LOW_WATER t'.val = R.SEG_RING_CFG.LOW_WATER.part w.toNat ∧
        t.rd R.SEQ_LOAD.VALID t'.val = s.rd R.SEQ_LOAD.VALID t'.val) ∧
  (∀ (s : State) (f : Fin 64) (t' : Fin 16) (w : Word), s.canWrite (.fn f) .SEG_RING_CFG t'.val → (s.play t'.val).playing = true → max (R.SEG_RING_CFG.SLOT_SIZE.part w.toNat) 1 ≠ s.slotSize t'.val →
      ∃ t, exec (.ringCfgWrite (.fn f) t' w) s = .next t ∧ t.rd R.SEG_RING_CFG.SLOT_SIZE t'.val = s.rd R.SEG_RING_CFG.SLOT_SIZE t'.val ∧ t.rd R.HOST_REFUSE.COUNT f.val = min (s.rd R.HOST_REFUSE.COUNT f.val + 1) 65535) ∧
  (∀ (s : State) (f : Fin 64) (t' : Fin 16), s.canWrite (.fn f) .SEG_RING_CTL t'.val → (s.play t'.val).playing = true →
      ∃ t, exec (.ringReset (.fn f) t') s = .next t ∧ t.rd R.HOST_REFUSE.COUNT f.val = min (s.rd R.HOST_REFUSE.COUNT f.val + 1) 65535 ∧ s.keeps t [.regs] ∧ s.keepsFields t refuseFields) ∧
  (∀ (s : State) (f : Fin 64) (t' : Fin 16) (n : Fin 256) (w : Word), s.canWrite (.fn f) .SEG_SLOT (256 * t'.val + n.val) → (s.slotCount t'.val ≤ n.val ∨ s.fl R.SEG_SLOT.PLAYING (256 * t'.val + n.val) = true) →
      ∃ t, exec (.slotWrite (.fn f) t' n w) s = .next t ∧ t.rd R.HOST_REFUSE.COUNT f.val = min (s.rd R.HOST_REFUSE.COUNT f.val + 1) 65535 ∧ s.keeps t [.regs] ∧ s.keepsFields t refuseFields) ∧
  (∀ (s : State) (rq : Req) (t' : Fin 16) (n : Fin 256) (w : Word), s.canWrite rq .SEG_SLOT (256 * t'.val + n.val) → n.val < s.slotCount t'.val → s.fl R.SEG_SLOT.PLAYING (256 * t'.val + n.val) = false →
      ∃ t, exec (.slotWrite rq t' n w) s = .next t ∧ t.rd R.SEG_SLOT.READY (256 * t'.val + n.val) = R.SEG_SLOT.READY.part w.toNat ∧ t.rd R.SEG_SLOT.LAST (256 * t'.val + n.val) = R.SEG_SLOT.LAST.part w.toNat ∧
        t.rd R.SEG_SLOT.TAG (256 * t'.val + n.val) = R.SEG_SLOT.TAG.part w.toNat) ∧
  (∀ (s : State) (t' : Fin 16) (row : Nat), s.fl R.SEG_STORE_CFG.SCRUB_EN t'.val = true → s.imaged = true → (s.store t'.val).scrubRow = row → (∀ k, k < 5 → (s.store t'.val).bad' row k = 0) →
      ∃ t, exec (.scrubRow t') s = .next t ∧ (t.store t'.val).scrubRow = (row + 1) % 393216 ∧ (t.store t'.val).words = (s.store t'.val).words ∧ (t.store t'.val).ecc = (s.store t'.val).ecc ∧
        t.rd R.SEG_STORE_STATUS.UE_COUNT t'.val = s.rd R.SEG_STORE_STATUS.UE_COUNT t'.val ∧ s.keeps t [.stores, .regs] ∧ s.keepsFields t [R.SEG_STORE_STATUS.CE_COUNT]) ∧
  (∀ (s : State) (t' : Fin 16) (row k : Nat), s.fl R.SEG_STORE_CFG.SCRUB_EN t'.val = true → s.imaged = true → (s.store t'.val).scrubRow = row → k < 5 → (s.store t'.val).bad' row k = 1 → (∀ j, j < 5 → j ≠ k → (s.store t'.val).bad' row j = 0) →
      ∃ t, exec (.scrubRow t') s = .next t ∧ (t.store t'.val).bad' row k = 0 ∧ smGet 0 (t.store t'.val).scrubCe row = 1 ∧ (t.store t'.val).words = (s.store t'.val).words ∧
        t.rd R.SEG_STORE_STATUS.CE_COUNT t'.val = min (s.rd R.SEG_STORE_STATUS.CE_COUNT t'.val + 1) (2 ^ R.SEG_STORE_STATUS.CE_COUNT.width - 1)) ∧
  (∀ (s : State) (t' : Fin 16) (row k : Nat), s.fl R.SEG_STORE_CFG.SCRUB_EN t'.val = true → s.imaged = true → (s.store t'.val).scrubRow = row → k < 5 → (s.store t'.val).bad' row k = 2 → (∀ j, j < 5 → j ≠ k → (s.store t'.val).bad' row j = 0) →
      ∃ t, exec (.scrubRow t') s = .next t ∧ (t.store t'.val).bad' row k = 2 ∧ t.rd R.SEG_STORE_STATUS.UE_PLAY t'.val = 1 ∧ (64 + 16 * t'.val + 1, 0) ∈ t.hub.asserted ∧
        t.rd R.SEG_STORE_STATUS.UE_COUNT t'.val = min (s.rd R.SEG_STORE_STATUS.UE_COUNT t'.val + 1) (2 ^ R.SEG_STORE_STATUS.UE_COUNT.width - 1)) ∧
  ∀ (s : State) (t' : Fin 16), (s.fl R.SEG_STORE_CFG.SCRUB_EN t'.val = false ∨ s.imaged = false) → ∃ t, exec (.scrubRow t') s = .next t ∧ s.keeps t []

/-- Compare results (R291 to R303): a failed compare counts for its lane and sets the fail flags of its tile and site, the first one with the first-fail record and the site's interrupt; a passed compare, one of a masked site and one of a lane in no site count nothing, an unsettled one sets UNSETTLED_CMP, and one of a MATCH segment fails its pass and counts nothing. -/
def Obligations.CompareResults : Prop :=
  (∀ (s s' : State) (l : Fin 1024) (h lo v2 : Nat) (j : CmpJob) (x : VecRec) (d : SiteDecl), ({ s with out := [] }).compareDue l.val = some (s', j) → s'.vecOf (l.val / 64) j = some x → s'.siteOf l.val = some d →
      s'.maskedAt d (l.val / 64) j.arrival = false → x.isMatch = false → j.fails (4 * h + lo) v2 = true →
      ∃ t, exec (.compareResult l h lo v2) s = .next t ∧ t.rd R.CMP_LANE_FAIL.FAILS l.val = min (s'.rd R.CMP_LANE_FAIL.FAILS l.val + 1) (2 ^ R.CMP_LANE_FAIL.FAILS.width - 1) ∧
        t.fl R.CMP_STATUS.TILE_FAIL (l.val / 64) = true ∧ t.fl R.CMP_SITE_STATUS.FAIL d.home = true ∧
        t.rd R.CMP_TILE_FAILS.FAILS (l.val / 64) = (if x.counted then s'.rd R.CMP_TILE_FAILS.FAILS (l.val / 64) else min (s'.rd R.CMP_TILE_FAILS.FAILS (l.val / 64) + 1) (2 ^ R.CMP_TILE_FAILS.FAILS.width - 1)) ∧
        t.rd R.CMP_SITE_FAILV.FAIL_VECTORS d.home = (if x.fails.any (·.site = d.site) then s'.rd R.CMP_SITE_FAILV.FAIL_VECTORS d.home else min (s'.rd R.CMP_SITE_FAILV.FAIL_VECTORS d.home + 1) (2 ^ R.CMP_SITE_FAILV.FAIL_VECTORS.width - 1)) ∧
        (s'.fl R.CMP_SITE_STATUS.FAIL d.home = false → t.rd R.CMP_SITE_FF_LO.FF_CYCLE_LO d.home = x.cycle % 2 ^ 32 ∧ t.rd R.CMP_SITE_FF_HI.FF_CYCLE_HI d.home = x.cycle / 2 ^ 32 % 2 ^ 16 ∧
          t.rd R.CMP_SITE_FF_HI.FF_TILE d.home = l.val / 64 ∧ t.hub.asserted = s'.hub.asserted ++ [(64 + 16 * (d.home / 64) + 2, d.site)]) ∧
        (s'.fl R.CMP_SITE_STATUS.FAIL d.home = true → t.hub = s'.hub)) ∧
  (∀ (s s' : State) (l : Fin 1024) (h lo v2 : Nat) (j : CmpJob) (x : VecRec) (d : SiteDecl), ({ s with out := [] }).compareDue l.val = some (s', j) → s'.vecOf (l.val / 64) j = some x → s'.siteOf l.val = some d →
      (s'.maskedAt d (l.val / 64) j.arrival = true ∨ (j.fails (4 * h + lo) v2 = false ∧ j.unsettled = false)) →
      ∃ t, exec (.compareResult l h lo v2) s = .next t ∧ (∀ k, k ∈ (t.lane l.val).jobs → ¬(k.vec = j.vec ∧ k.origin = j.origin)) ∧ s'.keeps t [.lanes, .plays]) ∧
  (∀ (s s' : State) (l : Fin 1024) (h lo v2 : Nat) (j : CmpJob) (x : VecRec) (d : SiteDecl), ({ s with out := [] }).compareDue l.val = some (s', j) → s'.vecOf (l.val / 64) j = some x → s'.siteOf l.val = some d →
      s'.maskedAt d (l.val / 64) j.arrival = false → j.unsettled = true →
      ∃ t, exec (.compareResult l h lo v2) s = .next t ∧ t.fl R.CMP_STATUS.UNSETTLED_CMP (l.val / 64) = true) ∧
  (∀ (s s' : State) (l : Fin 1024) (h lo v2 : Nat) (j : CmpJob) (x : VecRec) (d : SiteDecl), ({ s with out := [] }).compareDue l.val = some (s', j) → s'.vecOf (l.val / 64) j = some x → s'.siteOf l.val = some d →
      s'.maskedAt d (l.val / 64) j.arrival = false → x.isMatch = true → j.fails (4 * h + lo) v2 = true → j.unsettled = false →
      ∃ t, exec (.compareResult l h lo v2) s = .next t ∧ (t.play (l.val / 64)).passFail = ((s'.play (l.val / 64)).passFail || decide ((s'.play (l.val / 64)).passNo = x.passNo)) ∧ s'.keeps t [.lanes, .plays]) ∧
  (∀ (s s' : State) (l : Fin 1024) (h lo v2 : Nat) (j : CmpJob), ({ s with out := [] }).compareDue l.val = some (s', j) → s'.siteOf l.val = none → ∃ t, exec (.compareResult l h lo v2) s = .next t ∧ s'.keeps t [.lanes, .plays]) ∧
  ∀ (s : State) (l : Fin 1024) (h lo v2 : Nat), ({ s with out := [] }).compareDue l.val = none → ∃ t, exec (.compareResult l h lo v2) s = .next t ∧ s.keeps t []

/-- Clears of the compare logic (R298, R299): CLEAR_ALL clears every count and flag of a tile and of the sites it serves, CLEAR_FAIL and CLEAR_TB those of one site. -/
def Obligations.CompareClears : Prop :=
  (∀ (s : State) (rq : Req) (t' : Fin 16), s.canWrite rq .CMP_CTL t'.val →
      ∃ t, exec (.clearAll rq t') s = .next t ∧ t.rd R.CMP_TILE_FAILS.FAILS t'.val = 0 ∧ t.fl R.CMP_STATUS.TILE_FAIL t'.val = false ∧ (∀ i, i < 64 → t.rd R.CMP_LANE_FAIL.FAILS (64 * t'.val + i) = 0) ∧
        (∀ h, h ∈ s.tileSlots t'.val → t.fl R.CMP_SITE_STATUS.FAIL h = false ∧ t.fl R.CMP_SITE_STATUS.MASKED_FIRST h = false ∧ t.fl R.CMP_SITE_STATUS.TIMING_BROKEN h = false ∧ t.rd R.CMP_SITE_FAILV.FAIL_VECTORS h = 0)) ∧
  (∀ (s : State) (rq : Req) (t' : Fin 16) (h : Fin 64) (w : Word), s.canWrite rq .CMP_SITE_CTL (64 * t'.val + h.val) → (s.slotSite (64 * t'.val + h.val)).isSome = true →
      ∃ t, exec (.clearFail rq t' h w) s = .next t ∧ t.fl R.CMP_SITE_STATUS.FAIL (64 * t'.val + h.val) = false ∧ t.fl R.CMP_SITE_STATUS.MASKED_FIRST (64 * t'.val + h.val) = false ∧
        t.rd R.CMP_SITE_FF_LO.FF_CYCLE_LO (64 * t'.val + h.val) = 0 ∧ t.rd R.CMP_SITE_FAILV.FAIL_VECTORS (64 * t'.val + h.val) = s.rd R.CMP_SITE_FAILV.FAIL_VECTORS (64 * t'.val + h.val) ∧
        t.rd R.CMP_SITE_CTL.CMP_OFF (64 * t'.val + h.val) = R.CMP_SITE_CTL.CMP_OFF.part w.toNat) ∧
  ∀ (s : State) (rq : Req) (t' : Fin 16) (h : Fin 64) (w : Word), s.canWrite rq .CMP_SITE_CTL (64 * t'.val + h.val) → (s.slotSite (64 * t'.val + h.val)).isSome = true →
    ∃ t, exec (.clearTb rq t' h w) s = .next t ∧ t.fl R.CMP_SITE_STATUS.TIMING_BROKEN (64 * t'.val + h.val) = false ∧ t.rd R.CMP_SITE_CTL.LOG_EN (64 * t'.val + h.val) = R.CMP_SITE_CTL.LOG_EN.part w.toNat

/-- The fail log (R304 to R309): arming takes a held area and starts at its beginning, disarming drops what was not written, a record forms for a logged fail of the oldest vector whose results are in, into the buffer, as the overflow mark that fills the log, or counted as lost, and the oldest buffered record goes to the capture store. -/
def Obligations.FailLog : Prop :=
  (∀ (s : State) (rq : Req) (t' : Fin 16) (w : Word), s.canWrite rq .CMP_LOG_CTL t'.val → (s.play t'.val).playing = false → s.logAreaOk t'.val (s.rd R.CMP_LOG_AREA.BASE t'.val) (s.rd R.CMP_LOG_AREA.BLOCKS t'.val) = true →
      ∃ t, exec (.logArm rq t' w) s = .next t ∧ t.fl R.CMP_LOG_CTL.ARMED t'.val = true ∧ t.rd R.CMP_LOG_STATUS.WPTR t'.val = 0 ∧ t.fl R.CMP_LOG_STATUS.FULL t'.val = false ∧
        t.rd R.CMP_LOG_CTL.MODE t'.val = R.CMP_LOG_CTL.MODE.part w.toNat ∧ (t.play t'.val).log = []) ∧
  (∀ (s : State) (f : Fin 64) (t' : Fin 16) (w : Word), s.canWrite (.fn f) .CMP_LOG_CTL t'.val → (s.play t'.val).playing = false → s.logAreaOk t'.val (s.rd R.CMP_LOG_AREA.BASE t'.val) (s.rd R.CMP_LOG_AREA.BLOCKS t'.val) = false →
      ∃ t, exec (.logArm (.fn f) t' w) s = .next t ∧ t.fl R.CMP_LOG_CTL.ARMED t'.val = s.fl R.CMP_LOG_CTL.ARMED t'.val ∧ t.fl R.CMP_LOG_STATUS.AREA_REFUSED t'.val = true ∧
        t.rd R.HOST_REFUSE.COUNT f.val = min (s.rd R.HOST_REFUSE.COUNT f.val + 1) 65535 ∧ s.keeps t [.regs]) ∧
  (∀ (s : State) (rq : Req) (t' : Fin 16) (w : Word), s.canWrite rq .CMP_LOG_CTL t'.val → R.CMP_LOG_CTL.ARM.part w.toNat = 0 →
      ∃ t, exec (.logDisarm rq t' w) s = .next t ∧ t.fl R.CMP_LOG_CTL.ARMED t'.val = false ∧ (t.play t'.val).log = [] ∧ t.rd R.CMP_LOG_STATUS.WPTR t'.val = s.rd R.CMP_LOG_STATUS.WPTR t'.val ∧ t.cap = s.cap) ∧
  (∀ (s : State) (rq : Req) (t' : Fin 16) (w : Word), s.canWrite rq .CMP_LOG_AREA t'.val → s.fl R.CMP_LOG_CTL.ARMED t'.val = false →
      s.logAreaOk t'.val (R.CMP_LOG_AREA.BASE.part w.toNat) (R.CMP_LOG_AREA.BLOCKS.part w.toNat) = true →
      ∃ t, exec (.logAreaWrite rq t' w) s = .next t ∧ t.rd R.CMP_LOG_AREA.BASE t'.val = R.CMP_LOG_AREA.BASE.part w.toNat ∧ t.rd R.CMP_LOG_AREA.BLOCKS t'.val = R.CMP_LOG_AREA.BLOCKS.part w.toNat ∧ s.keeps t [.regs]) ∧
  (∀ (s : State) (t' : Fin 16) (x : VecRec), (s.play t'.val).vecs.find? (fun v => !v.formed) = some x → x.time.isSome = true → (s.vecWaits t'.val x fun j => !(j.isOpen && j.dropped)) = false →
      x.fails.filter (s.logged t'.val) = [] →
      ∃ t, exec (.failRecordForm t') s = .next t ∧ (t.play t'.val).log = (s.play t'.val).log ∧ s.keeps t [.plays] ∧ ((s.vecWaits t'.val x fun _ => true) = false → x ∉ (t.play t'.val).vecs)) ∧
  (∀ (s : State) (t' : Fin 16) (x : VecRec) (e : SiteFail), (s.play t'.val).vecs.find? (fun v => !v.formed) = some x → x.time.isSome = true → (s.vecWaits t'.val x fun j => !(j.isOpen && j.dropped)) = false →
      (x.fails.foldr insertSite []).filter (s.logged t'.val) = [e] → s.fl R.CMP_LOG_CTL.ARMED t'.val = true → (s.play t'.val).log.length < 8 → s.rd R.CMP_LOG_STATUS.WPTR t'.val + (s.play t'.val).log.length + 1 < s.logSize t'.val →
      ∃ t, exec (.failRecordForm t') s = .next t ∧ (t.play t'.val).log = (s.play t'.val).log ++ [failRecord x e (s.play t'.val).logGap false] ∧ (t.play t'.val).logGap = false ∧ s.keeps t [.plays]) ∧
  (∀ (s : State) (t' : Fin 16) (x : VecRec) (e : SiteFail), (s.play t'.val).vecs.find? (fun v => !v.formed) = some x → x.time.isSome = true → (s.vecWaits t'.val x fun j => !(j.isOpen && j.dropped)) = false →
      (x.fails.foldr insertSite []).filter (s.logged t'.val) = [e] → s.fl R.CMP_LOG_CTL.ARMED t'.val = true → (s.play t'.val).log.length < 8 → s.logSize t'.val ≤ s.rd R.CMP_LOG_STATUS.WPTR t'.val + (s.play t'.val).log.length + 1 →
      ∃ t, exec (.failRecordForm t') s = .next t ∧ (t.play t'.val).log = (s.play t'.val).log ++ [failRecord x e (s.play t'.val).logGap true] ∧ t.fl R.CMP_LOG_STATUS.FULL t'.val = true ∧ t.fl R.CMP_LOG_CTL.ARMED t'.val = false ∧
        t.hub.asserted = s.hub.asserted ++ [(64 + 16 * t'.val + 3, 0)] ∧ s.keeps t [.plays, .regs, .hub]) ∧
  (∀ (s : State) (t' : Fin 16) (x : VecRec) (e : SiteFail), (s.play t'.val).vecs.find? (fun v => !v.formed) = some x → x.time.isSome = true → (s.vecWaits t'.val x fun j => !(j.isOpen && j.dropped)) = false →
      (x.fails.foldr insertSite []).filter (s.logged t'.val) = [e] → s.fl R.CMP_LOG_CTL.ARMED t'.val = true → 8 ≤ (s.play t'.val).log.length →
      ∃ t, exec (.failRecordForm t') s = .next t ∧ (t.play t'.val).log = (s.play t'.val).log ∧ (t.play t'.val).logGap = true ∧ t.rd R.CMP_LOG_LOST.LOST t'.val = min (s.rd R.CMP_LOG_LOST.LOST t'.val + 1) (2 ^ R.CMP_LOG_LOST.LOST.width - 1) ∧ s.keeps t [.plays, .regs]) ∧
  (∀ (s : State) (t' : Fin 16) (x : VecRec) (e : SiteFail), (s.play t'.val).vecs.find? (fun v => !v.formed) = some x → x.time.isSome = true → (s.vecWaits t'.val x fun j => !(j.isOpen && j.dropped)) = false →
      (x.fails.foldr insertSite []).filter (s.logged t'.val) = [e] → s.fl R.CMP_LOG_CTL.ARMED t'.val = false →
      ∃ t, exec (.failRecordForm t') s = .next t ∧ (t.play t'.val).log = (s.play t'.val).log ∧
        t.rd R.CMP_LOG_LOST.LOST t'.val = (if s.fl R.CMP_LOG_STATUS.FULL t'.val then min (s.rd R.CMP_LOG_LOST.LOST t'.val + 1) (2 ^ R.CMP_LOG_LOST.LOST.width - 1) else s.rd R.CMP_LOG_LOST.LOST t'.val) ∧ s.keeps t [.plays, .regs]) ∧
  ∀ (s : State) (t' : Fin 16) (b : List Nat) (rest : List (List Nat)) (a : Nat), (s.play t'.val).log = b :: rest → b.length = 32 → (∀ x ∈ b, x < 256) →
    (∀ u, u < 16 → ∀ e ∈ (s.acq u).writes, a < e.1 ∨ e.1 + e.2.length ≤ a) →
    ∃ t, exec (.failLogWrite t') s = .next t ∧ (t.play t'.val).log = rest ∧ t.rd R.CMP_LOG_STATUS.WPTR t'.val = (s.rd R.CMP_LOG_STATUS.WPTR t'.val + 1) % 2 ^ R.CMP_LOG_STATUS.WPTR.width ∧
      (t.capByte a = if s.rd R.CMP_LOG_AREA.BASE t'.val * 65536 + 32 * s.rd R.CMP_LOG_STATUS.WPTR t'.val ≤ a ∧ a < s.rd R.CMP_LOG_AREA.BASE t'.val * 65536 + 32 * s.rd R.CMP_LOG_STATUS.WPTR t'.val + 32 then
        (if a % 32 = 24 then b.getD 24 0 / 4 * 4 + s.quality else b.getD (a % 32) 0) else s.capByte a)

/-- The micro-words of flow (R222, R231, R232): where STEP, JUMP, BRANCH, LOOP and YIELD send the sequencer. -/
def Obligations.SequencerFlow : Prop :=
  (∀ (s : State) (q : Fin 17) (w : Nat), s.fetches q.val w → mwClass w = 0 → (bitAt w 14 = false ∨ mwNano w = 0 ∨ q.val = 16) →
      ∃ t, exec (.step q) s = .next t ∧ s.wentOn t q.val w ((s.seq q.val).next + 1)) ∧
  (∀ (s : State) (q : Fin 17) (w : Nat), s.fetches q.val w → mwClass w = 0 → bitAt w 14 = true → mwNano w ≠ 0 → q.val < 16 →
      ∃ t, exec (.step q) s = .next t ∧ s.wentOn t q.val w ((s.seq q.val).next + 1) ∧ (t.seq q.val).vsync = true ∧ (t.play q.val).issued = (s.play q.val).issued ++ [mwNano w] ∧ s.keeps t [.regs, .seqs, .plays]) ∧
  (∀ (s : State) (q : Fin 17) (w : Nat), s.fetches q.val w → mwClass w = 1 → ∃ t, exec (.jump q) s = .next t ∧ s.wentOn t q.val w (bits w 0 14)) ∧
  (∀ (s : State) (q : Fin 17) (w e : Nat), s.fetches q.val w → mwClass w = 2 → smGet 0 (s.store q.val).micro (seqTables q.val + bits w 10 5) = e → smGet 0 (s.store q.val).bad (seqTables q.val + bits w 10 5) = 0 →
      bselCount e ≤ 4 → bitAt e 31 = false →
      ∃ t, exec (.branch q) s = .next t ∧ s.wentOn t q.val w (16 * bits w 0 10 +
        (List.range (bselCount e)).foldl (fun v j => v + b2n ((s.afterIssue q.val w).cond q.val (bselSel e j) != bitAt e (27 + j)) * 2 ^ j) 0)) ∧
  (∀ (s : State) (q : Fin 17) (w e : Nat), s.fetches q.val w → mwClass w = 2 → smGet 0 (s.store q.val).micro (seqTables q.val + bits w 10 5) = e → smGet 0 (s.store q.val).bad (seqTables q.val + bits w 10 5) = 0 →
      (4 < bselCount e ∨ bitAt e 31 = true) →
      ∃ t, exec (.branch q) s = .next t ∧ t.rd R.SEQ_STATUS.STATE q.val = 3 ∧ t.rd R.SEQ_MC.CAUSE q.val = 6 ∧ t.rd R.SEQ_MC.ADDR q.val = (s.seq q.val).next % 2 ^ R.SEQ_MC.ADDR.width) ∧
  (∀ (s : State) (q : Fin 17) (w v : Nat), s.fetches q.val w → mwClass w = 3 → s.cntFree q.val w → (s.afterIssue q.val w).rd R.SEQ_CNT.VALUE (8 * q.val + bits w 12 3) = v →
      ∃ t, exec (.loop q) s = .next t ∧ t.rd R.SEQ_CNT.VALUE (8 * q.val + bits w 12 3) = (v - 1) % 2 ^ 32 ∧
        s.wentOn t q.val w (if v ≤ 1 then (s.seq q.val).next + 1 else (s.seq q.val).next + 2 ^ 14 - bits w 0 12)) ∧
  ∀ (s : State) (q : Fin 17) (w : Nat), s.fetches q.val w → mwClass w = 9 → ∃ t, exec (.yield q) s = .next t ∧ s.wentOn t q.val w ((s.seq q.val).next + 1) ∧ (t.seq q.val).ran = 0

/-- The CNT words and LOOP on the 8 counters of 32 bits of a sequencer (R232): each OP code changes or snapshots one counter, a reserved one is a machine check, and LOOP counts down and jumps back while more than one is left. -/
def Obligations.SequencerCounters : Prop :=
  (∀ (s : State) (q : Fin 17) (w : Nat), s.fetches q.val w → isCnt 0 w = true → s.cntFree q.val w →
      ∃ t, exec (.cntLoadImm q) s = .next t ∧ t.rd R.SEQ_CNT.VALUE (8 * q.val + bits w 12 3) = bits w 0 9 ∧ s.wentOn t q.val w ((s.seq q.val).next + 1)) ∧
  (∀ (s : State) (q : Fin 17) (w : Nat), s.fetches q.val w → isCnt 1 w = true → s.cntFree q.val w →
      ∃ t, exec (.cntLoadCinit q) s = .next t ∧ t.rd R.SEQ_CNT.VALUE (8 * q.val + bits w 12 3) = s.rd R.SEQ_CINIT.VALUE (16 * q.val + bits w 0 4) % 2 ^ 32 ∧ s.wentOn t q.val w ((s.seq q.val).next + 1)) ∧
  (∀ (s : State) (q : Fin 17) (w : Nat), s.fetches q.val w → isCnt 2 w = true → s.cntFree q.val w →
      ∃ t, exec (.cntIncrement q) s = .next t ∧ t.rd R.SEQ_CNT.VALUE (8 * q.val + bits w 12 3) = min ((s.afterIssue q.val w).rd R.SEQ_CNT.VALUE (8 * q.val + bits w 12 3) + 1) (2 ^ 32 - 1) ∧ s.wentOn t q.val w ((s.seq q.val).next + 1)) ∧
  (∀ (s : State) (q : Fin 17) (w : Nat), s.fetches q.val w → isCnt 3 w = true → s.cntFree q.val w →
      ∃ t, exec (.cntDecrement q) s = .next t ∧ t.rd R.SEQ_CNT.VALUE (8 * q.val + bits w 12 3) = ((s.afterIssue q.val w).rd R.SEQ_CNT.VALUE (8 * q.val + bits w 12 3) - 1) % 2 ^ 32 ∧ s.wentOn t q.val w ((s.seq q.val).next + 1)) ∧
  (∀ (s : State) (q : Fin 17) (w : Nat), s.fetches q.val w → isCnt 4 w = true → s.cntFree q.val w →
      ∃ t, exec (.cntSnapshot q) s = .next t ∧ t.rd R.SEQ_CNT_SNAP.VALUE (8 * q.val + bits w 12 3) = (s.afterIssue q.val w).rd R.SEQ_CNT.VALUE (8 * q.val + bits w 12 3) % 2 ^ 32 ∧
        t.rd R.SEQ_CNT.VALUE (8 * q.val + bits w 12 3) = (s.afterIssue q.val w).rd R.SEQ_CNT.VALUE (8 * q.val + bits w 12 3) ∧ s.wentOn t q.val w ((s.seq q.val).next + 1)) ∧
  (∀ (s : State) (q : Fin 17) (w : Nat), s.fetches q.val w → mwClass w = 4 → 4 < bits w 9 3 → (q.val < 16 ∨ mwNano w = 0) →
      ∃ t, exec (.rsvClass q) s = .next t ∧ t.rd R.SEQ_STATUS.STATE q.val = 3 ∧ t.rd R.SEQ_MC.CAUSE q.val = 6 ∧ (∀ i, i < 8 → t.rd R.SEQ_CNT.VALUE (8 * q.val + i) = s.rd R.SEQ_CNT.VALUE (8 * q.val + i))) ∧
  ∀ (s : State) (q : Fin 17) (w v : Nat), s.fetches q.val w → mwClass w = 3 → s.cntFree q.val w → (s.afterIssue q.val w).rd R.SEQ_CNT.VALUE (8 * q.val + bits w 12 3) = v →
    ∃ t, exec (.loop q) s = .next t ∧ t.rd R.SEQ_CNT.VALUE (8 * q.val + bits w 12 3) = (v - 1) % 2 ^ 32 ∧
      (t.seq q.val).next = (if v ≤ 1 then (s.seq q.val).next + 1 else (s.seq q.val).next + 2 ^ 14 - bits w 0 12) % 2 ^ 14

/-- The micro-words that act on a tile's units (R234 to R237): PLAY queues a segment, as the successor where the tile waits for one, or waits for room itself, LVL changes the level set or triggers DACs, MEASURE opens or closes a context or is refused, STOP stops a tile alone and empties the queue of a member of a group. -/
def Obligations.SequencerTileWords : Prop :=
  (∀ (s : State) (q : Fin 16) (w : Nat), s.fetches q.val w → mwClass w = 5 → (s.play q.val).queue.length < 4 →
      ((s.play q.val).playing = false ∨ (s.play q.val).phase = .seg ∨ (s.play q.val).phase = .stopped ∨ (s.play q.val).samePass = true ∨ (s.play q.val).succ.isSome = true ∨ (s.play q.val).starving.isSome = true ∨ (s.play q.val).queue ≠ []) →
      ∃ t, exec (.play q) s = .next t ∧ (t.play q.val).queue = (s.play q.val).queue ++ [bits w 0 11] ∧ t.rd R.SEG_STATUS.QUEUE_COUNT q.val = (s.play q.val).queue.length + 1 ∧ s.wentOn t q.val w ((s.seq q.val).next + 1)) ∧
  (∀ (s : State) (q : Fin 16) (w : Nat), s.fetches q.val w → mwClass w = 5 → (s.play q.val).playing = true → ((s.play q.val).phase = .idle ∨ (s.play q.val).phase = .wait) → (s.play q.val).samePass = false → (s.play q.val).succ = none →
      (s.play q.val).starving = none → (s.play q.val).queue = [] → enStreamed (s.entry q.val (bits w 0 11)) = false →
      ∃ t, exec (.play q) s = .next t ∧ (t.play q.val).succ.isSome = true ∧ (t.play q.val).playing = true ∧ s.wentOn t q.val w ((s.seq q.val).next + 1)) ∧
  (∀ (s : State) (q : Fin 16) (w : Nat), s.fetches q.val w → mwClass w = 5 → 4 ≤ (s.play q.val).queue.length →
      ∃ t, exec (.play q) s = .next t ∧ (t.play q.val).queue = (s.play q.val).queue ∧ s.wentOn t q.val w (s.seq q.val).next) ∧
  (∀ (s : State) (q : Fin 16) (w : Nat), s.fetches q.val w → isLvl 0 w = true →
      ∃ t, exec (.setLset q) s = .next t ∧ ((s.play q.val).playing = true → (t.play q.val).lsetNext = some (bits w 0 3) ∧ (t.play q.val).lset = (s.play q.val).lset) ∧
        ((s.play q.val).playing = false → (t.play q.val).lset = bits w 0 3) ∧ s.wentOn t q.val w ((s.seq q.val).next + 1)) ∧
  (∀ (s : State) (q : Fin 16) (w k : Nat), s.fetches q.val w → isLvl 1 w = true → k ∈ s.updateDacs q.val (bits w 0 9) →
      ∃ t, exec (.updateAll q) s = .next t ∧ (t.dac k).target = s.dacStored k ∧ s.wentOn t q.val w ((s.seq q.val).next + 1)) ∧
  (∀ (s : State) (q : Fin 16) (w : Nat), s.fetches q.val w → mwClass w = 8 → bitAt w 14 = false → s.ctxRefused (s.tileOwner q.val) (bits w 0 14) 1 = true →
      ∃ t, exec (.measureOpen q) s = .next t ∧ t.red = s.red ∧ (t.seq q.val).refused = true ∧ t.fl R.SEQ_STATUS.MEASURE_REFUSED q.val = true ∧ s.wentOn t q.val w ((s.seq q.val).next + 1)) ∧
  (∀ (s : State) (q : Fin 16) (w : Nat), s.fetches q.val w → mwClass w = 8 → bitAt w 14 = false → s.ctxRefused (s.tileOwner q.val) (bits w 0 14) 1 = false → (s.ctx (bits w 0 14)).state = 1 →
      ∃ t, exec (.measureOpen q) s = .next t ∧ (t.ctx (bits w 0 14)).state = 2 ∧ (t.ctx (bits w 0 14)).n = 0 ∧ (t.ctx (bits w 0 14)).timeOpen = s.stamp ∧ (t.seq q.val).refused = false ∧
        t.rd R.SEQ_STATUS.MEASURE_REFUSED q.val = s.rd R.SEQ_STATUS.MEASURE_REFUSED q.val ∧ s.wentOn t q.val w ((s.seq q.val).next + 1)) ∧
  (∀ (s : State) (q : Fin 16) (w : Nat), s.fetches q.val w → mwClass w = 8 → bitAt w 14 = true → s.ctxRefused (s.tileOwner q.val) (bits w 0 14) 2 = true →
      ∃ t, exec (.measureClose q) s = .next t ∧ t.red = s.red ∧ (t.seq q.val).refused = true ∧ t.fl R.SEQ_STATUS.MEASURE_REFUSED q.val = true ∧ s.wentOn t q.val w ((s.seq q.val).next + 1)) ∧
  (∀ (s : State) (q : Fin 16) (w c : Nat), s.fetches q.val w → mwClass w = 8 → bitAt w 14 = true → bits w 0 14 = c → s.ctxRefused (s.tileOwner q.val) c 2 = false → (s.ctx c).state = 2 → smGet 0 s.red.ecc c ≠ 2 → (∀ d ∈ s.red.pending, d / 256 ≠ c / 256) → s.grpRoom (c / 256) = true →
      ∃ t, exec (.measureClose q) s = .next t ∧ (t.ctx c).state = 1 ∧ t.red.buffer = s.red.buffer ++ [(c / 256, ({ s.ctx c with reason := 2, timeEnd := s.stamp } : CtxSt).record c)] ∧
        (t.seq q.val).refused = false ∧ s.wentOn t q.val w ((s.seq q.val).next + 1)) ∧
  (∀ (s : State) (q : Fin 16) (w : Nat), s.fetches q.val w → mwClass w = 11 → bitAt w 14 = false → (s.play q.val).playing = true → (s.playMates q.val).length ≤ 1 →
      ∃ t, exec (.stop q) s = .next t ∧ (t.play q.val).playing = false ∧ (t.play q.val).queue = [] ∧ t.rd R.SEQ_STATUS.STATE q.val = 0) ∧
  (∀ (s : State) (q : Fin 16) (w : Nat), s.fetches q.val w → mwClass w = 11 → bitAt w 14 = false → (s.play q.val).playing = true → 2 ≤ (s.playMates q.val).length →
      ∃ t, exec (.stop q) s = .next t ∧ (t.play q.val).queue = []) ∧
  (∀ (s : State) (q : Fin 16) (w : Nat), s.fetches q.val w → mwClass w = 11 → (s.play q.val).playing = false →
      (bitAt w 14 = false → ∃ t, exec (.stop q) s = .next t ∧ t.rd R.SEQ_STATUS.STATE q.val = 0) ∧ (bitAt w 14 = true → ∃ t, exec (.stopDrain q) s = .next t ∧ t.rd R.SEQ_STATUS.STATE q.val = 0)) ∧
  ∀ (s : State) (q : Fin 16) (w : Nat), s.fetches q.val w → mwClass w = 11 → bitAt w 14 = true → (s.play q.val).playing = true →
    ∃ t, exec (.stopDrain q) s = .next t ∧ (t.play q.val).playing = true ∧ (t.play q.val).stopAt = max (s.play q.val).stopAt 1 ∧ (t.seq q.val).draining = true ∧ s.keeps t [.regs, .seqs, .plays]

/-- WAIT and what ends it (R229, R240 to R243): the sequencer dozes, and a condition, a timeout or an event that it cannot vector lets it go on after the word. -/
def Obligations.SequencerWaits : Prop :=
  (∀ (s : State) (q : Fin 17) (w : Nat), s.fetches q.val w → mwClass w = 6 →
      ∃ t, exec (.wait q) s = .next t ∧ t.rd R.SEQ_STATUS.STATE q.val = 2 ∧ (t.seq q.val).waiting = some { cond := bits w 0 6, pol := bitAt w 6, cen := bitAt w 7, timeout := bits w 8 3 } ∧
        (t.seq q.val).next = (s.seq q.val).next ∧ (t.seq q.val).timedOut = false ∧ (t.seq q.val).woke = false ∧ t.rd R.SEQ_PC.PC q.val = (s.seq q.val).next % 2 ^ R.SEQ_PC.PC.width) ∧
  (∀ (s : State) (q : Fin 17) (x : WaitSt), s.waitOf q.val = some x → x.cen = true → s.cond q.val x.cond = x.pol →
      ∃ t, exec (.waitConditionMet q) s = .next t ∧ t.rd R.SEQ_STATUS.STATE q.val = 1 ∧ (t.seq q.val).next = ((s.seq q.val).next + 1) % 2 ^ 14 ∧ (t.seq q.val).timedOut = (s.seq q.val).timedOut ∧ s.keeps t [.regs, .seqs]) ∧
  (∀ (s : State) (q : Fin 17), (s.waitOf q.val).any (fun x => x.cen && s.cond q.val x.cond == x.pol) = false → ∃ t, exec (.waitConditionMet q) s = .next t ∧ s.keeps t []) ∧
  (∀ (s : State) (q : Fin 17) (x : WaitSt), s.waitOf q.val = some x → x.timeout ≠ 0 →
      ∃ t, exec (.waitTimeout q) s = .next t ∧ t.rd R.SEQ_STATUS.STATE q.val = 1 ∧ (t.seq q.val).timedOut = true ∧ (t.seq q.val).next = ((s.seq q.val).next + 1) % 2 ^ 14 ∧ t.cond q.val 30 = true ∧ s.keeps t [.regs, .seqs]) ∧
  (∀ (s : State) (q : Fin 17) (x : WaitSt), s.waitOf q.val = some x → s.operating = true → (s.seqEvents q.val).isEmpty = false → s.vectorable q.val = none →
      ∃ t, exec (.waitWake q) s = .next t ∧ t.rd R.SEQ_STATUS.STATE q.val = 1 ∧ (t.seq q.val).woke = true ∧ t.cond q.val 31 = true ∧ s.keeps t [.regs, .seqs]) ∧
  (∀ (s : State) (q : Fin 17), (s.waitOf q.val).any (fun x => decide (x.timeout ≠ 0)) = false → ∃ t, exec (.waitTimeout q) s = .next t ∧ s.keeps t []) ∧
  ∀ (s : State) (q : Fin 17), s.waitOf q.val = none ∨ s.operating = false ∨ (s.seqEvents q.val).isEmpty = true ∨ s.vectorable q.val ≠ none → ∃ t, exec (.waitWake q) s = .next t ∧ s.keeps t []

/-- Event entry and return (R245 to R251): an entry claims its source, stacks the return address and goes to the handler of the vector table; RETE releases the source and restores the frame; ATOMIC sets and ends a block. -/
def Obligations.SequencerEvents : Prop :=
  (∀ (s : State) (q : Fin 17) (n d : Nat), s.alive = true → s.hkFixed q.val = false → s.romRuns q.val = false → s.vectorable q.val = some n → (s.rd R.SEQ_STATUS.STATE q.val = 2 ∨ (s.rd R.SEQ_STATUS.STATE q.val = 1 ∧ ((s.seq q.val).atYield = true ∨ ((s.seq q.val).entered = true ∧ s.operating = true)))) →
      s.rd R.SEQ_STATUS.DEPTH q.val = d → d < 4 → (∀ a ∈ (s.vectorSearch q.val n).1, smGet 0 (s.store q.val).bad a = 0) →
      ∃ t, exec (.eventVector q) s = .next t ∧ (t.src n).state = 2 ∧ (t.src n).holder = q.val ∧ t.rd R.SEQ_STATUS.DEPTH q.val = d + 1 ∧ t.rd R.SEQ_STACK.RETURN (4 * q.val + d) = (s.seq q.val).next % 2 ^ R.SEQ_STACK.RETURN.width ∧
        t.fl R.SEQ_STATUS.IN_HANDLER q.val = true ∧ t.fl R.SEQ_STATUS.ATOMIC q.val = false ∧
        (t.seq q.val).next = bits (smGet 0 (s.store q.val).micro (s.vectorSearch q.val n).2) 0 14) ∧
  (∀ (s : State) (q : Fin 17) (n a : Nat), s.alive = true → s.hkFixed q.val = false → s.romRuns q.val = false → s.vectorable q.val = some n → (s.rd R.SEQ_STATUS.STATE q.val = 2 ∨ (s.rd R.SEQ_STATUS.STATE q.val = 1 ∧ ((s.seq q.val).atYield = true ∨ ((s.seq q.val).entered = true ∧ s.operating = true)))) → s.rd R.SEQ_STATUS.DEPTH q.val < 4 →
      ((s.vectorSearch q.val n).1.filter fun e => smGet 0 (s.store q.val).bad e ≠ 0) = [a] →
      ∃ t, exec (.eventVector q) s = .next t ∧ t.rd R.SEQ_STATUS.STATE q.val = 3 ∧ t.rd R.SEQ_MC.CAUSE q.val = 3 ∧ t.rd R.SEQ_MC.ADDR q.val = a % 2 ^ R.SEQ_MC.ADDR.width) ∧
  (∀ (s : State) (q : Fin 17), s.alive = false ∨ (s.hkFixed q.val = false ∧ (s.romRuns q.val = true ∨ s.vectorable q.val = none ∨ ¬(s.rd R.SEQ_STATUS.STATE q.val = 2 ∨ (s.rd R.SEQ_STATUS.STATE q.val = 1 ∧ ((s.seq q.val).atYield = true ∨ ((s.seq q.val).entered = true ∧ s.operating = true)))))) → ∃ t, exec (.eventVector q) s = .next t ∧ s.keeps t []) ∧
  (∀ (s : State) (q : Fin 17) (w n d : Nat) (fr : FrameSt) (l : List FrameSt), s.fetches q.val w → mwClass w = 10 → s.rd R.SEQ_STATUS.DEPTH q.val = d + 1 → d < 4 → s.pick q.val (if s.operating then s.frameLevel (4 * q.val + d) else none) (if s.operating then d + 1 else d) = none →
      (s.seq q.val).src = some n → (s.src n).state = 2 → srcLevel n = false → (s.src n).count = 0 → (s.seq q.val).frames = l ++ [fr] →
      ∃ t, exec (.rete q) s = .next t ∧ (t.src n).state = 0 ∧ t.rd R.SEQ_STATUS.DEPTH q.val = d ∧ (t.seq q.val).next = s.rd R.SEQ_STACK.RETURN (4 * q.val + d) % 2 ^ 14 ∧ (t.seq q.val).frames = l ∧ (t.seq q.val).src = fr.src ∧
        t.fl R.SEQ_STATUS.IN_HANDLER q.val = !s.fl R.SEQ_STACK.BASE (4 * q.val + d) ∧ (t.seq q.val).atYield = false) ∧
  (∀ (s : State) (q : Fin 17) (w m d : Nat), s.fetches q.val w → mwClass w = 10 → s.rd R.SEQ_STATUS.DEPTH q.val = d + 1 → d < 4 → s.pick q.val (if s.operating then s.frameLevel (4 * q.val + d) else none) (if s.operating then d + 1 else d) = some m →
      (s.seq q.val).src ≠ some m → (∀ a ∈ (s.vectorSearch q.val m).1, smGet 0 (s.store q.val).bad a = 0) →
      ∃ t, exec (.rete q) s = .next t ∧ (t.src m).state = 2 ∧ (t.src m).holder = q.val ∧ t.rd R.SEQ_STATUS.DEPTH q.val = d + 1 ∧ t.fl R.SEQ_STATUS.IN_HANDLER q.val = true ∧ (t.seq q.val).src = some m ∧
        (t.seq q.val).frames = (s.seq q.val).frames ∧ (t.seq q.val).next = bits (smGet 0 (s.store q.val).micro (s.vectorSearch q.val m).2) 0 14) ∧
  (∀ (s : State) (q : Fin 17) (w : Nat), s.fetches q.val w → mwClass w = 10 → s.rd R.SEQ_STATUS.DEPTH q.val = 0 →
      ∃ t, exec (.rete q) s = .next t ∧ t.rd R.SEQ_STATUS.STATE q.val = 3 ∧ t.rd R.SEQ_MC.CAUSE q.val = 7 ∧ t.rd R.SEQ_MC.ADDR q.val = (s.seq q.val).next % 2 ^ R.SEQ_MC.ADDR.width) ∧
  (∀ (s : State) (q : Fin 17) (w : Nat), s.fetches q.val w → isAtomic true w = true →
      ∃ t, exec (.atomicBegin q) s = .next t ∧ t.fl R.SEQ_STATUS.ATOMIC q.val = true ∧ (t.seq q.val).res = Nat.lor (s.seq q.val).res (bits w 0 8) ∧ s.wentOn t q.val w ((s.seq q.val).next + 1)) ∧
  ∀ (s : State) (q : Fin 17) (w : Nat), s.fetches q.val w → isAtomic false w = true →
    ∃ t, exec (.atomicEnd q) s = .next t ∧ t.fl R.SEQ_STATUS.ATOMIC q.val = false ∧ (t.seq q.val).res = 0 ∧ s.wentOn t q.val w ((s.seq q.val).next + 1)

/-- Machine checks of a sequencer (R244, R252, R253): MC_TRAP, a word of a reserved class or operation, the watchdog and a parity fault halt it with their cause and address, and a tile's sequencer so stops its tile. -/
def Obligations.MachineChecks : Prop :=
  (∀ (s : State) (q : Fin 17) (w : Nat), s.fetches q.val w → mwClass w = 13 →
      ∃ t, exec (.mcTrap q) s = .next t ∧ t.rd R.SEQ_STATUS.STATE q.val = 3 ∧ t.rd R.SEQ_MC.CAUSE q.val = 5 ∧ t.rd R.SEQ_MC.ADDR q.val = (s.seq q.val).next % 2 ^ R.SEQ_MC.ADDR.width ∧
        t.rd R.SEQ_MC_INFO.INFO q.val = bits w 0 15 ∧ (q.val < 16 → (t.play q.val).playing = false) ∧ (s.fl R.DEV_MODE.AUTO_RECOVER 0 = false → t.m = s.m)) ∧
  (∀ (s : State) (q : Fin 17) (w : Nat), s.fetches q.val w → isReserved q.val w = true →
      ∃ t, exec (.rsvClass q) s = .next t ∧ t.rd R.SEQ_STATUS.STATE q.val = 3 ∧ t.rd R.SEQ_MC.CAUSE q.val = 6 ∧ t.rd R.SEQ_MC.ADDR q.val = (s.seq q.val).next % 2 ^ R.SEQ_MC.ADDR.width ∧
        (q.val < 16 → (t.play q.val).playing = false) ∧ (s.fl R.DEV_MODE.AUTO_RECOVER 0 = false → t.m = s.m)) ∧
  (∀ (s : State) (q : Fin 17), s.rd R.SEQ_STATUS.STATE q.val = 1 → 1024 ≤ (s.seq q.val).ran →
      ∃ t, exec (.watchdog q) s = .next t ∧ t.rd R.SEQ_STATUS.STATE q.val = 3 ∧ t.rd R.SEQ_MC.CAUSE q.val = 4 ∧ t.rd R.SEQ_MC.ADDR q.val = s.rd R.SEQ_PC.PC q.val % 2 ^ R.SEQ_MC.ADDR.width ∧
        (q.val < 16 → (t.play q.val).playing = false)) ∧
  ∀ (s : State) (q : Fin 17), s.seqReady q.val = true → mwClass (s.microWord q.val (s.seq q.val).next) = 0 → smGet 0 (s.store q.val).bad (s.seq q.val).next ≠ 0 → s.flashExec q.val = false →
    ∃ t, exec (.step q) s = .next t ∧ t.rd R.SEQ_STATUS.STATE q.val = 3 ∧ t.rd R.SEQ_MC.CAUSE q.val = 1 ∧ t.rd R.SEQ_MC.ADDR q.val = (s.seq q.val).next % 2 ^ R.SEQ_MC.ADDR.width ∧
      (q.val < 16 → (t.play q.val).playing = false)

/-- The stores of a sequencer (R26, R38, R254 to R258): a write through a window needs the sequencer stopped and clears VALID, the loader's check judges the program, a scrub in SERVICE counts its parity errors, and issued nano-words act at a vector boundary, in an interruption at the segment that follows it and in a lockstep group not within a segment. -/
def Obligations.SequencerStores : Prop :=
  (∀ (s : State) (rq : Req) (off : Nat) (w : Word) (q n : Nat), off % 4 = 0 → s.reachable rq = true → s.window off = some (q, 2, n, 0) → s.windowMay rq q true = true → s.windowOpen q = true →
      ∃ t, exec (.storeWindowWrite rq off w) s = .next t ∧ smGet 0 (t.store q).micro n = w.toNat ∧ smGet 0 (t.store q).bad n = 0 ∧ t.rd R.SEQ_LOAD.VALID q = 0 ∧ (∀ k, k ≠ n → smGet 0 (t.store q).micro k = smGet 0 (s.store q).micro k)) ∧
  (∀ (s : State) (rq : Req) (off : Nat) (w : Word) (q win n piece : Nat), off % 4 = 0 → s.reachable rq = true → s.window off = some (q, win, n, piece) → win < 2 → piece < (if win = 0 then 7 else 3) → s.windowMay rq q true = true → s.windowOpen q = true →
      ∃ t, exec (.storeWindowWrite rq off w) s = .next t ∧ (t.store q).nano = (s.store q).nano ∧ (t.store q).segs = (s.store q).segs ∧ (t.store q).staged.isSome = true ∧ t.rd R.SEQ_LOAD.VALID q = 0) ∧
  (∀ (s : State) (rq : Req) (off : Nat) (w : Word) (q n v : Nat), off % 4 = 0 → s.reachable rq = true → s.window off = some (q, 1, n, 3) → s.windowMay rq q true = true → s.windowOpen q = true →
      (s.store q).staged = some (1, n, [(0, v)]) →
      ∃ t, exec (.storeWindowWrite rq off w) s = .next t ∧ smGet 0 (t.store q).segs n = putBits (putBits (smGet 0 (s.store q).segs n) 0 32 v) 96 32 w.toNat ∧ (t.store q).staged = none) ∧
  (∀ (s : State) (f : Fin 64) (off : Nat) (w : Word) (q win n piece : Nat), off % 4 = 0 → s.reachable (.fn f) = true → s.window off = some (q, win, n, piece) → s.windowOpen q = false →
      ∃ t, exec (.storeWindowWrite (.fn f) off w) s = .next t ∧ t.stores = s.stores ∧ t.rd R.HOST_REFUSE.COUNT f.val = min (s.rd R.HOST_REFUSE.COUNT f.val + 1) 65535 ∧ s.keepsFields t refuseFields) ∧
  (∀ (s : State) (rq : Req) (q : Fin 16) (w : Word), s.canWrite rq .SEQ_LOAD q.val → s.rd R.SEQ_LOAD.STATUS q.val ≠ 1 → (s.play q.val).playing = false → (R.SEQ_LOAD.SCRUB.part w.toNat = 0 ∨ s.m.mode = .service) →
      ∃ t, exec (.loaderCheck rq q w) s = .next t ∧ t.rd R.SEQ_LOAD.STATUS q.val = 1 ∧ (t.seq q.val).busy = 1 + 2 * R.SEQ_LOAD.SCRUB.part w.toNat ∧ s.keeps t [.regs, .seqs]) ∧
  (∀ (s : State) (f : Fin 64) (q : Fin 16) (w : Word), s.canWrite (.fn f) .SEQ_LOAD q.val → (s.rd R.SEQ_LOAD.STATUS q.val = 1 ∨ (s.play q.val).playing = true) →
      ∃ t, exec (.loaderCheck (.fn f) q w) s = .next t ∧ t.seqs = s.seqs ∧ t.rd R.HOST_REFUSE.COUNT f.val = min (s.rd R.HOST_REFUSE.COUNT f.val + 1) 65535 ∧ s.keeps t [.regs] ∧ s.keepsFields t refuseFields) ∧
  (∀ (s : State) (q : Fin 17), (s.seq q.val).busy % 2 = 1 →
      ∃ t, exec (.loaderCheckDone q) s = .next t ∧ t.rd R.SEQ_LOAD.STATUS q.val = loadStatus ((s.seq q.val).busy - 1) (if ((s.programOf q.val).check).reason = 0 then 2 else 3) % 2 ^ R.SEQ_LOAD.STATUS.width ∧
        t.fl R.SEQ_LOAD.VALID q.val = decide (((s.programOf q.val).check).reason = 0) ∧ t.rd R.SEQ_LOAD.REASON q.val = ((s.programOf q.val).check).reason % 2 ^ R.SEQ_LOAD.REASON.width ∧
        (t.seq q.val).busy = (s.seq q.val).busy - 1 ∧ (q.val < 16 → t.hub.asserted = s.hub.asserted ++ [(64 + 16 * q.val + 11, 0)]) ∧ s.keeps t [.regs, .seqs, .hub]) ∧
  (∀ (s : State) (rq : Req) (q : Fin 16) (w : Word), s.canWrite rq .SEQ_LOAD q.val → s.rd R.SEQ_LOAD.STATUS q.val ≠ 1 → (s.play q.val).playing = false → s.m.mode = .service →
      ∃ t, exec (.seqScrub rq q w) s = .next t ∧ t.rd R.SEQ_LOAD.STATUS q.val = 1 ∧ (t.seq q.val).busy = 2 + R.SEQ_LOAD.CHECK.part w.toNat ∧ s.keeps t [.regs, .seqs]) ∧
  (∀ (s : State) (f : Fin 64) (q : Fin 16) (w : Word), s.canWrite (.fn f) .SEQ_LOAD q.val → s.m.mode ≠ .service →
      ∃ t, exec (.seqScrub (.fn f) q w) s = .next t ∧ t.seqs = s.seqs ∧ t.rd R.HOST_REFUSE.COUNT f.val = min (s.rd R.HOST_REFUSE.COUNT f.val + 1) 65535 ∧ s.keepsFields t refuseFields) ∧
  (∀ (s : State) (q : Fin 17) (hard : List Nat), 2 ≤ (s.seq q.val).busy →
      ∃ t, exec (.seqScrubDone q hard) s = .next t ∧ t.rd R.SEQ_LOAD.STATUS q.val = loadStatus ((s.seq q.val).busy - 2) 2 % 2 ^ R.SEQ_LOAD.STATUS.width ∧
        t.rd R.SEQ_LOAD.DETAIL q.val = min ((s.store q.val).bad.foldl (fun n e => n + ones 32 e.2) 0) 65535 ∧ (t.seq q.val).busy = (s.seq q.val).busy - 2 ∧
        ((s.store q.val).bad = [] → t.stores = s.stores ∧ (q.val < 16 → t.hub.asserted = s.hub.asserted ++ [(64 + 16 * q.val + 11, 0)]))) ∧
  (∀ (s : State) (q : Fin 17), q.val < 16 → (s.play q.val).issued ≠ [] → (s.play q.val).playing = false →
      ∃ t, exec (.nanoWordEffect q) s = .next t ∧ (t.play q.val).issued = [] ∧ (t.play q.val).nano = (s.play q.val).issued.getLastD 0 ∧ (t.seq q.val).vsync = false ∧
        (1 < (s.play q.val).issued.length → t.rd R.SEQ_STATUS.NANO_MERGE q.val = 1)) ∧
  (∀ (s : State) (q : Fin 17), q.val < 16 → (s.play q.val).issued ≠ [] → (s.play q.val).playing = true → (s.play q.val).fresh = false → (s.play q.val).phase = .seg → ((s.playMates q.val).length < 2 ∨ s.inSegment q.val = false) →
      ∃ t, exec (.nanoWordEffect q) s = .next t ∧ (t.play q.val).issued = [] ∧ (t.play q.val).nano = (s.play q.val).issued.getLastD 0 ∧ (t.seq q.val).vsync = false) ∧
  (∀ (s : State) (q : Fin 17), q.val < 16 → (s.play q.val).issued ≠ [] → (s.play q.val).playing = true → (s.play q.val).fresh = false → (s.play q.val).phase ≠ .seg →
      ∃ t, exec (.nanoWordEffect q) s = .next t ∧ (t.play q.val).issued = [] ∧ (t.play q.val).nano = (s.play q.val).nano ∧ (t.play q.val).steady = some ((s.play q.val).issued.getLastD 0) ∧ (t.seq q.val).vsync = false) ∧
  ∀ (s : State) (q : Fin 17), q.val < 16 → ((s.play q.val).playing = true ∧ (s.play q.val).phase = .seg ∧ 2 ≤ (s.playMates q.val).length ∧ s.inSegment q.val = true) → ∃ t, exec (.nanoWordEffect q) s = .next t ∧ s.keeps t []

/-- The clock at a time tick (R431): it advances by the addend in force, NS stays below a second with at most one carry into SEC, and SEC wraps from 2^48 − 1 to 0. The bound on the addend is that of its 40-bit registers. -/
def Obligations.TimeTicks : Prop :=
  (∀ (s : State), s.clock.running = true → s.clock.ns < 1000000000 → s.clock.frac < 2 ^ 32 → s.addendNow < 2 ^ 40 → s.clock.ns * 2 ^ 32 + s.clock.frac + s.addendNow < 1000000000 * 2 ^ 32 →
      ∃ t, exec .timeTick s = .next t ∧ t.clock.ns * 2 ^ 32 + t.clock.frac = s.clock.ns * 2 ^ 32 + s.clock.frac + s.addendNow ∧ t.clock.frac < 2 ^ 32 ∧ t.clock.sec = s.clock.sec ∧ t.clock.tick = s.clock.tick + 1 ∧
        t.addendNow = (match s.time.adj with | some (v, n) => if n ≤ 1 then s.time.addend else v | none => s.time.addend)) ∧
  (∀ (s : State), s.clock.running = true → s.clock.ns < 1000000000 → s.clock.frac < 2 ^ 32 → s.addendNow < 2 ^ 40 → 1000000000 * 2 ^ 32 ≤ s.clock.ns * 2 ^ 32 + s.clock.frac + s.addendNow → s.clock.sec < 2 ^ 48 - 1 →
      ∃ t, exec .timeTick s = .next t ∧ t.clock.ns * 2 ^ 32 + t.clock.frac + 1000000000 * 2 ^ 32 = s.clock.ns * 2 ^ 32 + s.clock.frac + s.addendNow ∧ t.clock.frac < 2 ^ 32 ∧ t.clock.ns < 1000000000 ∧ t.clock.sec = s.clock.sec + 1) ∧
  (∀ (s : State), s.clock.running = true → s.clock.ns < 1000000000 → s.clock.frac < 2 ^ 32 → s.addendNow < 2 ^ 40 → 1000000000 * 2 ^ 32 ≤ s.clock.ns * 2 ^ 32 + s.clock.frac + s.addendNow → s.clock.sec = 2 ^ 48 - 1 →
      ∃ t, exec .timeTick s = .next t ∧ t.clock.ns * 2 ^ 32 + t.clock.frac + 1000000000 * 2 ^ 32 = s.clock.ns * 2 ^ 32 + s.clock.frac + s.addendNow ∧ t.clock.frac < 2 ^ 32 ∧ t.clock.ns < 1000000000 ∧ t.clock.sec = 0) ∧
  ∀ (s : State), s.clock.running = false → ∃ t, exec .timeTick s = .next t ∧ s.keeps t []

/-- The clock's settings (R434 to R439): an addend or an adjustment in range is committed and one outside it is refused, a step is scheduled and then applied or refused, and HOST_STATE and the sync timer follow the writes of TIME_QUAL and the timer's expiry. -/
def Obligations.ClockSettings : Prop :=
  (∀ (s : State) (rq : Req) (w : Word) (v : Nat), s.canWrite rq .TIME_ADDEND_HI 0 → v = R.TIME_ADDEND_HI.ADDEND_HI.part w.toNat * 2 ^ 32 + s.rd R.TIME_ADDEND_LO.ADDEND_LO 0 → 0x27FAE147B ≤ v → v ≤ 0x28051EB85 →
      ∃ t, exec (.addendCommit rq w) s = .next t ∧ t.time.addend = v ∧ t.time.adj = s.time.adj ∧ t.rd R.TIME_QUAL.ADDEND_REFUSED 0 = s.rd R.TIME_QUAL.ADDEND_REFUSED 0 ∧ s.keeps t [.time, .regs] ∧ s.keepsFields t [R.TIME_ADDEND_HI.ADDEND_HI]) ∧
  (∀ (s : State) (f : Fin 64) (w : Word) (v : Nat), s.canWrite (.fn f) .TIME_ADDEND_HI 0 → v = R.TIME_ADDEND_HI.ADDEND_HI.part w.toNat * 2 ^ 32 + s.rd R.TIME_ADDEND_LO.ADDEND_LO 0 → (v < 0x27FAE147B ∨ 0x28051EB85 < v) →
      ∃ t, exec (.addendCommit (.fn f) w) s = .next t ∧ t.time = s.time ∧ t.rd R.TIME_QUAL.ADDEND_REFUSED 0 = 1 ∧ t.rd R.HOST_REFUSE.COUNT f.val = min (s.rd R.HOST_REFUSE.COUNT f.val + 1) (2 ^ R.HOST_REFUSE.COUNT.width - 1)) ∧
  (∀ (s : State) (rq : Req) (w : Word) (v : Nat), s.canWrite rq .TIME_ADJ_TICKS 0 → v = s.rd R.TIME_ADJ_HI.ADJ_HI 0 * 2 ^ 32 + s.rd R.TIME_ADJ_LO.ADJ_LO 0 → R.TIME_ADJ_TICKS.TICKS.part w.toNat ≠ 0 → 0x27FAE147B ≤ v → v ≤ 0x28051EB85 →
      ∃ t, exec (.timeAdjStart rq w) s = .next t ∧ t.time.adj = some (v, R.TIME_ADJ_TICKS.TICKS.part w.toNat) ∧ t.addendNow = v ∧ t.time.addend = s.time.addend ∧ s.keeps t [.time]) ∧
  (∀ (s : State) (f : Fin 64) (w : Word) (v : Nat), s.canWrite (.fn f) .TIME_ADJ_TICKS 0 → v = s.rd R.TIME_ADJ_HI.ADJ_HI 0 * 2 ^ 32 + s.rd R.TIME_ADJ_LO.ADJ_LO 0 → R.TIME_ADJ_TICKS.TICKS.part w.toNat ≠ 0 → (v < 0x27FAE147B ∨ 0x28051EB85 < v) →
      ∃ t, exec (.timeAdjStart (.fn f) w) s = .next t ∧ t.time = s.time ∧ t.rd R.TIME_QUAL.ADDEND_REFUSED 0 = 1 ∧ t.rd R.HOST_REFUSE.COUNT f.val = min (s.rd R.HOST_REFUSE.COUNT f.val + 1) (2 ^ R.HOST_REFUSE.COUNT.width - 1)) ∧
  (∀ (s : State) (rq : Req) (w : Word), s.canWrite rq .TIME_ADJ_TICKS 0 → R.TIME_ADJ_TICKS.TICKS.part w.toNat = 0 →
      ∃ t, exec (.timeAdjStart rq w) s = .next t ∧ t.time.adj = none ∧ t.addendNow = s.time.addend ∧ s.keeps t [.time]) ∧
  (∀ (s : State) (v : Nat), s.time.adj = some (v, 0) →
      ∃ t, exec .timeAdjEnd s = .next t ∧ t.time.adj = none ∧ t.addendNow = s.time.addend ∧ s.keeps t [.time]) ∧
  (∀ (s : State) (rq : Req) (w : Word), s.canWrite rq .TIME_STEP_CTL 0 → s.time.step = none →
      ∃ t, exec (.timeStepGo rq w) s = .next t ∧ t.rd R.TIME_STEP_CTL.BUSY 0 = 1 ∧ t.clock = s.clock ∧
        t.time.step = some ⟨decide (R.TIME_STEP_CTL.MODE.part w.toNat ≠ 0), s.fl R.TIME_STEP_SEC_HI.NEG 0, s.rd R.TIME_STEP_SEC_HI.SEC_HI 0 * 2 ^ 32 + s.rd R.TIME_STEP_SEC_LO.SEC_LO 0, s.rd R.TIME_STEP_NS.NS 0⟩) ∧
  (∀ (s : State), (s.time.adj.map (·.2)) ≠ some 0 → ∃ t, exec .timeAdjEnd s = .next t ∧ s.keeps t []) ∧
  (∀ (s : State) (f : Fin 64) (w : Word) (x : StepReq), s.canWrite (.fn f) .TIME_STEP_CTL 0 → s.time.step = some x →
      ∃ t, exec (.timeStepGo (.fn f) w) s = .next t ∧ t.time = s.time ∧ t.clock = s.clock ∧ t.rd R.HOST_REFUSE.COUNT f.val = min (s.rd R.HOST_REFUSE.COUNT f.val + 1) (2 ^ R.HOST_REFUSE.COUNT.width - 1)) ∧
  (∀ (s : State), s.time.step = none → ∃ t, exec .timeStepApply s = .next t ∧ s.keeps t []) ∧
  (∀ (s : State) (x : StepReq), s.time.step = some x → x.setMode = true → x.ns < 1000000000 → x.sec < 2 ^ 48 →
      ∃ t, exec .timeStepApply s = .next t ∧ t.clock.sec = x.sec ∧ t.clock.ns = x.ns ∧ t.clock.frac = 0 ∧ t.clock.tick = s.clock.tick + 1 ∧ t.time.step = none ∧ t.rd R.TIME_STEP_CTL.BUSY 0 = 0 ∧ t.rd R.TIME_QUAL.STEPPED 0 = 1 ∧
        t.rd R.TIME_QUAL.HOST_STATE 0 = (if s.rd R.TIME_QUAL.HOST_STATE 0 = 1 then 0 else s.rd R.TIME_QUAL.HOST_STATE 0)) ∧
  (∀ (s : State) (x : StepReq), s.time.step = some x → x.setMode = false → x.neg = false → x.ns < 1000000000 → s.clock.fine + s.addendNow + (x.sec * 1000000000 + x.ns) * 2 ^ 32 < 2 ^ 48 * 1000000000 * 2 ^ 32 →
      ∃ t, exec .timeStepApply s = .next t ∧ t.clock.fine = s.clock.fine + s.addendNow + (x.sec * 1000000000 + x.ns) * 2 ^ 32 ∧ t.clock.ns < 1000000000 ∧ t.clock.frac < 2 ^ 32 ∧ t.rd R.TIME_QUAL.STEPPED 0 = 1) ∧
  (∀ (s : State) (x : StepReq), s.time.step = some x → x.setMode = false → x.neg = true → x.ns < 1000000000 → (x.sec * 1000000000 + x.ns) * 2 ^ 32 ≤ s.clock.fine + s.addendNow → s.clock.fine + s.addendNow < 2 ^ 48 * 1000000000 * 2 ^ 32 →
      ∃ t, exec .timeStepApply s = .next t ∧ t.clock.fine + (x.sec * 1000000000 + x.ns) * 2 ^ 32 = s.clock.fine + s.addendNow ∧ t.clock.ns < 1000000000 ∧ t.clock.frac < 2 ^ 32 ∧ t.rd R.TIME_QUAL.STEPPED 0 = 1) ∧
  (∀ (s : State) (x : StepReq), s.time.step = some x → (1000000000 ≤ x.ns ∨ (x.setMode = false ∧ x.neg = true ∧ s.clock.fine + s.addendNow < (x.sec * 1000000000 + x.ns) * 2 ^ 32) ∨
        (x.setMode = false ∧ x.neg = false ∧ 2 ^ 48 * 1000000000 * 2 ^ 32 ≤ s.clock.fine + s.addendNow + (x.sec * 1000000000 + x.ns) * 2 ^ 32)) →
      ∃ t, exec .timeStepApply s = .next t ∧ t.rd R.TIME_STEP_CTL.REFUSED 0 = 1 ∧ t.time.step = none ∧ t.clock = (if s.clock.running then s.clock.add s.addendNow else s.clock) ∧ t.rd R.TIME_QUAL.STEPPED 0 = s.rd R.TIME_QUAL.STEPPED 0) ∧
  (∀ (s : State) (rq : Req) (w : Word), s.canWrite rq .TIME_QUAL 0 → R.TIME_QUAL.HOST_STATE.part w.toNat ≠ 3 →
      ∃ t, exec (.timeQualWrite rq w) s = .next t ∧ t.rd R.TIME_QUAL.HOST_STATE 0 = R.TIME_QUAL.HOST_STATE.part w.toNat ∧ t.rd R.TIME_QUAL.SYNC_TIMEOUT 0 = R.TIME_QUAL.SYNC_TIMEOUT.part w.toNat ∧
        (R.TIME_QUAL.HOST_STATE.part w.toNat = 0 → t.time.sync = if R.TIME_QUAL.SYNC_TIMEOUT.part w.toNat = 0 then none else some (R.TIME_QUAL.SYNC_TIMEOUT.part w.toNat * 40000000)) ∧ t.time.quality = t.quality ∧ s.keeps t [.regs, .time, .hub]) ∧
  (∀ (s : State) (f : Fin 64) (w : Word), s.canWrite (.fn f) .TIME_QUAL 0 → R.TIME_QUAL.HOST_STATE.part w.toNat = 3 →
      ∃ t, exec (.timeQualWrite (.fn f) w) s = .next t ∧ t.rd R.TIME_QUAL.HOST_STATE 0 = s.rd R.TIME_QUAL.HOST_STATE 0 ∧ t.rd R.TIME_QUAL.SYNC_TIMEOUT 0 = R.TIME_QUAL.SYNC_TIMEOUT.part w.toNat ∧
        t.rd R.HOST_REFUSE.COUNT f.val = min (s.rd R.HOST_REFUSE.COUNT f.val + 1) (2 ^ R.HOST_REFUSE.COUNT.width - 1)) ∧
  (∀ (s : State) (rq : Req) (w : Word), s.canWrite rq .TIME_QUAL 0 →
      ∃ t, exec (.refresh rq w) s = .next t ∧ t.time.sync = (if R.TIME_QUAL.SYNC_TIMEOUT.part w.toNat = 0 then none else some (R.TIME_QUAL.SYNC_TIMEOUT.part w.toNat * 40000000)) ∧ t.rd R.TIME_QUAL.SYNC_TIMEOUT 0 = R.TIME_QUAL.SYNC_TIMEOUT.part w.toNat) ∧
  (∀ (s : State) (n : Nat), s.time.sync = some n →
      ∃ t, exec .syncTimeout s = .next t ∧ t.time.sync = none ∧ t.rd R.TIME_QUAL.HOST_STATE 0 = (if s.rd R.TIME_QUAL.HOST_STATE 0 = 0 then 2 else s.rd R.TIME_QUAL.HOST_STATE 0) ∧ t.time.quality = t.quality ∧ s.keeps t [.regs, .time, .hub]) ∧
  ∀ (s : State), s.time.sync = none → ∃ t, exec .syncTimeout s = .next t ∧ s.keeps t []

/-- The timing ports (R441 to R447): a change of link raises its source, a received frame is stored with its stamp or counted by its fault, a slot is sent when GO is accepted, and a stamp that was asked for is kept and read. -/
def Obligations.TimingPorts : Prop :=
  (∀ (s : State) (p : Fin 2) (up : Bool), s.fl R.TIME_PORT_STATUS.LINK p.val ≠ up → (up = true → s.portRuns p.val = true) →
      ∃ t, exec (.portLinkChange p up) s = .next t ∧ t.fl R.TIME_PORT_STATUS.LINK p.val = up ∧ t.hub.asserted = s.hub.asserted ++ [(1096 + p.val, 0)] ∧ s.keeps t [.regs, .hub] ∧ s.keepsRegs t [R.TIME_PORT_STATUS.LINK.slot p.val]) ∧
  (∀ (s : State) (p : Fin 2) (up : Bool), s.fl R.TIME_PORT_STATUS.LINK p.val = up ∨ (up = true ∧ s.portRuns p.val = false) →
      ∃ t, exec (.portLinkChange p up) s = .next t ∧ s.keeps t []) ∧
  (∀ (s : State) (p : Fin 2) (good : Bool) (sub : Nat) (b : List Byte), s.portRuns p.val = false ∨ s.fl R.TIME_PORT_STATUS.LINK p.val = false →
      ∃ t, exec (.frameReceive p good sub b) s = .next t ∧ s.keeps t []) ∧
  (∀ (s : State) (p : Fin 2) (sub : Nat) (b : List Byte), s.portRuns p.val = true → s.fl R.TIME_PORT_STATUS.LINK p.val = true → s.frameAddr p.val (b.map (·.toNat)) = false →
      ∃ t, exec (.frameReceive p true sub b) s = .next t ∧ t.rd R.TIME_PORT_DROP.ADDR p.val = min (s.rd R.TIME_PORT_DROP.ADDR p.val + 1) (2 ^ R.TIME_PORT_DROP.ADDR.width - 1) ∧ s.keeps t [.regs] ∧ s.keepsRegs t [R.TIME_PORT_DROP.ADDR.slot p.val]) ∧
  (∀ (s : State) (p : Fin 2) (sub : Nat) (b : List Byte), s.portRuns p.val = true → s.fl R.TIME_PORT_STATUS.LINK p.val = true → s.frameAddr p.val (b.map (·.toNat)) = true → frameType (b.map (·.toNat)) = true → (b.length < 60 ∨ 240 < b.length) →
      ∃ t, exec (.frameReceive p true sub b) s = .next t ∧ t.rd R.TIME_PORT_DROP.SIZE p.val = min (s.rd R.TIME_PORT_DROP.SIZE p.val + 1) (2 ^ R.TIME_PORT_DROP.SIZE.width - 1) ∧ s.keeps t [.regs] ∧ s.keepsRegs t [R.TIME_PORT_DROP.SIZE.slot p.val]) ∧
  (∀ (s : State) (p : Fin 2) (sub : Nat) (b : List Byte), s.portRuns p.val = true → s.fl R.TIME_PORT_STATUS.LINK p.val = true → s.frameAddr p.val (b.map (·.toNat)) = true → frameType (b.map (·.toNat)) = true → 60 ≤ b.length → b.length ≤ 240 → s.rd R.TIME_PORT_RX.COUNT p.val = 16 →
      ∃ t, exec (.frameReceive p true sub b) s = .next t ∧ t.rd R.TIME_PORT_DROP.FULL p.val = min (s.rd R.TIME_PORT_DROP.FULL p.val + 1) (2 ^ R.TIME_PORT_DROP.FULL.width - 1) ∧ s.keeps t [.regs] ∧ s.keepsRegs t [R.TIME_PORT_DROP.FULL.slot p.val]) ∧
  (∀ (s : State) (p : Fin 2) (sub : Nat) (b : List Byte), s.portRuns p.val = true → s.fl R.TIME_PORT_STATUS.LINK p.val = true →
      ∃ t, exec (.frameReceive p false sub b) s = .next t ∧ t.rd R.TIME_PORT_ERR.FCS p.val = min (s.rd R.TIME_PORT_ERR.FCS p.val + 1) (2 ^ R.TIME_PORT_ERR.FCS.width - 1) ∧ s.keeps t [.regs] ∧ s.keepsRegs t [R.TIME_PORT_ERR.FCS.slot p.val]) ∧
  (∀ (s : State) (p : Fin 2) (sub : Nat) (b : List Byte), s.portRuns p.val = true → s.fl R.TIME_PORT_STATUS.LINK p.val = true → s.frameAddr p.val (b.map (·.toNat)) = true → frameType (b.map (·.toNat)) = false →
      ∃ t, exec (.frameReceive p true sub b) s = .next t ∧ t.rd R.TIME_PORT_DROP.TYPE p.val = min (s.rd R.TIME_PORT_DROP.TYPE p.val + 1) (2 ^ R.TIME_PORT_DROP.TYPE.width - 1) ∧ t.hub.asserted = s.hub.asserted ++ [(1100, 0)] ∧ t.time = s.time) ∧
  (∀ (s : State) (p : Fin 2) (sub : Nat) (b : List Byte), s.portRuns p.val = true → s.fl R.TIME_PORT_STATUS.LINK p.val = true → s.frameAddr p.val (b.map (·.toNat)) = true → frameType (b.map (·.toNat)) = true → 60 ≤ b.length → b.length ≤ 240 → s.rd R.TIME_PORT_RX.COUNT p.val < 16 →
      ∃ t, exec (.frameReceive p true sub b) s = .next t ∧ t.rd R.TIME_PORT_RX.COUNT p.val = s.rd R.TIME_PORT_RX.COUNT p.val + 1 ∧ t.hub.asserted = s.hub.asserted ++ [(1092 + 2 * p.val, 0)] ∧
        (smGet 0 (t.port p.val).rx (256 * ((s.rd R.TIME_PORT_RX.HEAD p.val + s.rd R.TIME_PORT_RX.COUNT p.val) % 16))) = b.length % 256 ∧ s.keeps t [.regs, .time, .hub] ∧ s.keepsRegs t [R.TIME_PORT_RX.COUNT.slot p.val]) ∧
  (∀ (s : State) (rq : Req) (p : Fin 2), s.canWrite rq .TIME_PORT_RX p.val → s.rd R.TIME_PORT_RX.COUNT p.val ≠ 0 →
      ∃ t, exec (.rxPop rq p) s = .next t ∧ t.rd R.TIME_PORT_RX.COUNT p.val = s.rd R.TIME_PORT_RX.COUNT p.val - 1 ∧ t.rd R.TIME_PORT_RX.HEAD p.val = (s.rd R.TIME_PORT_RX.HEAD p.val + 1) % 2 ^ R.TIME_PORT_RX.HEAD.width ∧ s.keeps t [.regs]) ∧
  (∀ (s : State) (f : Fin 64) (p : Fin 2), s.canWrite (.fn f) .TIME_PORT_RX p.val → s.rd R.TIME_PORT_RX.COUNT p.val = 0 →
      ∃ t, exec (.rxPop (.fn f) p) s = .next t ∧ t.rd R.HOST_REFUSE.COUNT f.val = min (s.rd R.HOST_REFUSE.COUNT f.val + 1) (2 ^ R.HOST_REFUSE.COUNT.width - 1) ∧ s.keeps t [.regs] ∧ s.keepsFields t refuseFields) ∧
  (∀ (s : State) (rq : Req) (p : Fin 2) (w : Word) (slot : Nat), s.canWrite rq .TIME_PORT_TX p.val → slot = R.TIME_PORT_TX.SLOT.part w.toNat → R.TIME_PORT_TX.ONE_STEP.part w.toNat ≠ 3 → bitAt (s.rd R.TIME_PORT_STATUS.TX_BUSY p.val) slot = false →
      14 ≤ leVal (smRead 0 (s.port p.val).tx (256 * slot) 2) → leVal (smRead 0 (s.port p.val).tx (256 * slot) 2) ≤ 240 → frameType (s.txFrame p.val slot) = true → s.fl R.TIME_PORT_STATUS.LINK p.val = true →
      ∃ t, exec (.txGo rq p w) s = .next t ∧ (t.port p.val).jobs = (s.port p.val).jobs ++ [⟨slot, R.TIME_PORT_TX.ONE_STEP.part w.toNat, decide (R.TIME_PORT_TX.STAMP.part w.toNat ≠ 0), R.TIME_PORT_TX.TAG.part w.toNat⟩] ∧ bitAt (t.rd R.TIME_PORT_STATUS.TX_BUSY p.val) slot = true ∧ t.out = []) ∧
  (∀ (s : State) (rq : Req) (p : Fin 2) (w : Word) (slot len : Nat), s.canWrite rq .TIME_PORT_TX p.val → slot = R.TIME_PORT_TX.SLOT.part w.toNat → len = leVal (smRead 0 (s.port p.val).tx (256 * slot) 2) →
      (s.fl R.TIME_PORT_STATUS.LINK p.val = false ∨ R.TIME_PORT_TX.ONE_STEP.part w.toNat = 3 ∨ bitAt (s.rd R.TIME_PORT_STATUS.TX_BUSY p.val) slot = true ∨ len < 14 ∨ 240 < len ∨ frameType (s.txFrame p.val slot) = false) →
      ∃ t, exec (.txGo rq p w) s = .next t ∧ t.rd R.TIME_PORT_STATUS.TX_REFUSED p.val = 1 ∧ (t.port p.val).jobs = (s.port p.val).jobs) ∧
  (∀ (s : State) (p : Fin 2) (sub : Nat) (j : TxJob) (l : List TxJob), (s.port p.val).jobs = j :: l → j.stamp = true → (s.port p.val).stamps.length < 8 →
      ∃ t, exec (.txDone p sub) s = .next t ∧ (t.port p.val).jobs = l ∧ t.out.length = 1 ∧ bitAt (t.rd R.TIME_PORT_STATUS.TX_BUSY p.val) j.slot = false ∧ t.hub.asserted = s.hub.asserted ++ [(1093 + 2 * p.val, 0)] ∧
        (t.port p.val).stamps = (s.port p.val).stamps ++ [⟨Snap.ofUnits (wrapTime (s.clock.units + sub + s.rd R.TIME_PORT_EGR_LAT.EGR_LAT p.val : Nat)) s.quality, j.tag⟩]) ∧
  (∀ (s : State) (p : Fin 2) (sub : Nat) (j : TxJob) (l : List TxJob), (s.port p.val).jobs = j :: l → j.stamp = false →
      ∃ t, exec (.txDone p sub) s = .next t ∧ (t.port p.val).jobs = l ∧ t.out.length = 1 ∧ bitAt (t.rd R.TIME_PORT_STATUS.TX_BUSY p.val) j.slot = false ∧ t.hub = s.hub ∧ (t.port p.val).stamps = (s.port p.val).stamps) ∧
  (∀ (s : State) (p : Fin 2) (sub : Nat) (j : TxJob) (l : List TxJob), (s.port p.val).jobs = j :: l → j.stamp = true → 8 ≤ (s.port p.val).stamps.length →
      ∃ t, exec (.txDone p sub) s = .next t ∧ (t.port p.val).jobs = l ∧ t.out.length = 1 ∧ t.hub = s.hub ∧ (t.port p.val).stamps = (s.port p.val).stamps ∧
        t.rd R.TIME_PORT_ERR.TX_LOST p.val = min (s.rd R.TIME_PORT_ERR.TX_LOST p.val + 1) (2 ^ R.TIME_PORT_ERR.TX_LOST.width - 1)) ∧
  (∀ (s : State) (p : Fin 2) (sub : Nat), (s.port p.val).jobs = [] → ∃ t, exec (.txDone p sub) s = .next t ∧ s.keeps t []) ∧
  (∀ (s : State) (rq : Req) (p : Fin 2) (x : TxStamp) (l : List TxStamp), s.reachable rq = true → s.mayRead rq .TX_STAMP_FRAC p.val = true → (s.port p.val).stamps = x :: l →
      ∃ t, exec (.txStampRead rq p) s = .next t ∧ t.out = [.word (x.at'.frac + 65536 * x.at'.quality + 2 ^ 31)] ∧ (t.port p.val).stamps = l ∧ t.rd R.TX_STAMP_NS.NS p.val = x.at'.ns % 2 ^ R.TX_STAMP_NS.NS.width ∧ t.rd R.TX_STAMP_SEC_HI.TAG p.val = x.tag % 2 ^ R.TX_STAMP_SEC_HI.TAG.width) ∧
  ∀ (s : State) (rq : Req) (p : Fin 2), s.reachable rq = true → s.mayRead rq .TX_STAMP_FRAC p.val = true → (s.port p.val).stamps = [] →
    ∃ t, exec (.txStampRead rq p) s = .next t ∧ t.out = [.word 0] ∧ s.keeps t [.host]

/-- The timed outputs (R449 to R452): an arm is accepted at its first firing or refused with its cause, a disarm stops further firings, a firing starts the pulse, counts and raises its source, and the pulse ends. -/
def Obligations.TimedOutputs : Prop :=
  (∀ (s : State) (rq : Req) (n : Fin 4) (w : Word), s.canWrite rq .TEV_CTL n.val → s.rd R.TEV_START_NS.NS n.val < 1000000000 → s.rd R.TEV_WIDTH.WIDTH n.val ≠ 0 → s.fl R.TEV_CFG.PERIODIC n.val = false → s.clock.units + 6553600 < s.tevStart n.val →
      ∃ t, exec (.tevArm rq n w) s = .next t ∧ t.rd R.TEV_CTL.ARMED n.val = 1 ∧ t.rd R.TEV_CTL.CAUSE n.val = 0 ∧ (t.tev n.val).next = some (s.tevStart n.val) ∧ t.hub = s.hub) ∧
  (∀ (s : State) (rq : Req) (n : Fin 4) (w : Word), s.canWrite rq .TEV_CTL n.val → s.rd R.TEV_START_NS.NS n.val < 1000000000 → s.rd R.TEV_WIDTH.WIDTH n.val ≠ 0 → s.fl R.TEV_CFG.PERIODIC n.val = true →
      655360 ≤ s.tevPeriod n.val → (s.rd R.TEV_WIDTH.WIDTH n.val + 1) * 163840 < s.tevPeriod n.val →
      ∃ t u, exec (.tevArm rq n w) s = .next t ∧ t.rd R.TEV_CTL.ARMED n.val = 1 ∧ t.rd R.TEV_CTL.CAUSE n.val = 0 ∧ (t.tev n.val).next = some u ∧ s.clock.units + 6553600 < u ∧
        (s.clock.units + 6553600 < s.tevStart n.val → u = s.tevStart n.val) ∧
        (s.tevStart n.val ≤ s.clock.units + 6553600 → (u - s.tevStart n.val) % s.tevPeriod n.val = 0 ∧ u ≤ s.clock.units + 6553600 + s.tevPeriod n.val)) ∧
  (∀ (s : State) (rq : Req) (n : Fin 4) (w : Word), s.canWrite rq .TEV_CTL n.val → s.rd R.TEV_START_NS.NS n.val < 1000000000 →
      (s.rd R.TEV_WIDTH.WIDTH n.val = 0 ∨ (s.fl R.TEV_CFG.PERIODIC n.val = true ∧ (s.tevPeriod n.val < 655360 ∨ s.tevPeriod n.val ≤ (s.rd R.TEV_WIDTH.WIDTH n.val + 1) * 163840))) →
      ∃ t, exec (.tevArm rq n w) s = .next t ∧ t.rd R.TEV_CTL.ARMED n.val = 0 ∧ t.rd R.TEV_CTL.ARM_REFUSED n.val = 1 ∧ t.rd R.TEV_CTL.CAUSE n.val = 2 ∧ (t.tev n.val).next = none) ∧
  (∀ (s : State) (rq : Req) (n : Fin 4) (w : Word), s.canWrite rq .TEV_CTL n.val → 1000000000 ≤ s.rd R.TEV_START_NS.NS n.val →
      ∃ t, exec (.tevArm rq n w) s = .next t ∧ t.rd R.TEV_CTL.ARMED n.val = 0 ∧ t.rd R.TEV_CTL.ARM_REFUSED n.val = 1 ∧ t.rd R.TEV_CTL.CAUSE n.val = 3 ∧ (t.tev n.val).next = none) ∧
  (∀ (s : State) (rq : Req) (n : Fin 4) (w : Word), s.canWrite rq .TEV_CTL n.val → s.rd R.TEV_START_NS.NS n.val < 1000000000 → s.rd R.TEV_WIDTH.WIDTH n.val ≠ 0 → s.fl R.TEV_CFG.PERIODIC n.val = false → s.tevStart n.val ≤ s.clock.units + 6553600 →
      ∃ t, exec (.tevArm rq n w) s = .next t ∧ t.rd R.TEV_CTL.ARMED n.val = 0 ∧ t.rd R.TEV_CTL.ARM_REFUSED n.val = 1 ∧ t.rd R.TEV_CTL.CAUSE n.val = 1) ∧
  (∀ (s : State) (rq : Req) (n : Fin 4) (w : Word), s.canWrite rq .TEV_CTL n.val → R.TEV_CTL.ARM.part w.toNat = 0 →
      ∃ t, exec (.tevDisarm rq n w) s = .next t ∧ t.rd R.TEV_CTL.ARMED n.val = 0 ∧ (t.tev n.val).next = none ∧ (t.tev n.val).pulse = (s.tev n.val).pulse) ∧
  (∀ (s : State) (n : Fin 4) (u : Nat), (s.tev n.val).next = some u → u ≤ s.clock.units → s.imaged = true → s.alive = true →
      ∃ t, exec (.tevFire n) s = .next t ∧ t.rd R.TEV_COUNT.FIRED n.val = min (s.rd R.TEV_COUNT.FIRED n.val + 1) (2 ^ R.TEV_COUNT.FIRED.width - 1) ∧ (1088 + n.val, 0) ∈ t.hub.asserted ∧ (t.tev n.val).pulse = s.rd R.TEV_WIDTH.WIDTH n.val ∧
        (s.fl R.TEV_CFG.PERIODIC n.val = true → (t.tev n.val).next = some (u + s.tevPeriod n.val) ∧ t.rd R.TEV_CTL.ARMED n.val = s.rd R.TEV_CTL.ARMED n.val) ∧
        (s.fl R.TEV_CFG.PERIODIC n.val = false → (t.tev n.val).next = none ∧ t.rd R.TEV_CTL.ARMED n.val = 0)) ∧
  (∀ (s : State) (n : Fin 4), (s.tev n.val).next = none ∨ s.imaged = false ∨ s.alive = false ∨ (∃ u, (s.tev n.val).next = some u ∧ s.clock.units < u) →
      ∃ t, exec (.tevFire n) s = .next t ∧ s.keeps t []) ∧
  ∀ (s : State) (n : Fin 4), ∃ t, exec (.tevPulseEnd n) s = .next t ∧ (t.tev n.val).pulse = 0 ∧ (t.tev n.val).next = (s.tev n.val).next ∧
      ((∀ i, i < 64 → s.rd R.TDC_CFG.START_SRC i ≠ 0x80 + n.val ∧ (s.stopOf i).1 ≠ 0x80 + n.val) → s.keeps t [.time])

/-- The state of an event source (R407, R412, R415, R417, R419): an arrival makes an enabled IDLE source PENDING and counts on a source that is not, a source that is not enabled ignores it, SET is an arrival, CLEAR empties a source, and a route that is valid is taken while one that is not is refused. -/
def Obligations.SourceArrivals : Prop :=
  (∀ (s : State) (k : Fin 1152) (n d : Nat), n = k.val → s.hub.asserted.find? (fun e => e.1 = n) = some (n, d) → srcReal n = true → s.fl R.EVH_SRC_CFG.ENABLE n = true → (s.src n).state = 0 →
      ∃ t, exec (.eventArrival k) s = .next t ∧ (t.src n).state = 1 ∧ (t.src n).arrival = s.stamp ∧ (t.src n).again = false ∧ (t.src n).detail = d ∧ (t.src n).count = (s.src n).count ∧ t.hub.asserted = s.hub.asserted.erase (n, d) ∧ s.keeps t [.hub, .acqs]) ∧
  (∀ (s : State) (k : Fin 1152) (n d : Nat), n = k.val → s.hub.asserted.find? (fun e => e.1 = n) = some (n, d) → srcReal n = true → s.fl R.EVH_SRC_CFG.ENABLE n = true → (s.src n).state ≠ 0 →
      ∃ t, exec (.eventArrival k) s = .next t ∧ (t.src n).state = (s.src n).state ∧ (t.src n).count = (if (s.src n).count < 255 then (s.src n).count + 1 else (s.src n).count) ∧ (t.src n).sat = ((s.src n).sat || decide (255 ≤ (s.src n).count)) ∧ t.hub.asserted = s.hub.asserted.erase (n, d) ∧ s.keeps t [.hub, .acqs]) ∧
  (∀ (s : State) (k : Fin 1152) (n d : Nat), n = k.val → s.hub.asserted.find? (fun e => e.1 = n) = some (n, d) → s.fl R.EVH_SRC_CFG.ENABLE n = false →
      ∃ t, exec (.eventArrival k) s = .next t ∧ t.hub.srcs = s.hub.srcs ∧ t.hub.asserted = s.hub.asserted.erase (n, d) ∧ s.keeps t [.hub, .acqs]) ∧
  (∀ (s : State) (rq : Req) (n : Fin 1152), s.canWrite rq .EVH_SRC_STATUS n.val → srcReal n.val = true → s.fl R.EVH_SRC_CFG.ENABLE n.val = true → (s.src n.val).state = 0 →
      ∃ t, exec (.eventSet rq n) s = .next t ∧ (t.src n.val).state = 1 ∧ (t.src n.val).arrival = s.stamp ∧ s.keeps t [.hub]) ∧
  (∀ (s : State) (rq : Req) (n : Fin 1152), s.canWrite rq .EVH_SRC_STATUS n.val → s.fl R.EVH_SRC_CFG.ENABLE n.val = false →
      ∃ t, exec (.eventSet rq n) s = .next t ∧ t.hub = s.hub ∧ s.keeps t []) ∧
  (∀ (s : State) (rq : Req) (n : Fin 1152), s.canWrite rq .EVH_SRC_STATUS n.val → (s.src n.val).state ≠ 0 →
      ∃ t, exec (.eventClear rq n) s = .next t ∧ (t.src n.val).count = 0 ∧ (t.src n.val).sat = false ∧ (t.src n.val).state = (if (s.src n.val).state = 1 then 0 else (s.src n.val).state) ∧ (t.src n.val).holder = (s.src n.val).holder ∧ s.keeps t [.hub]) ∧
  (∀ (s : State) (rq : Req) (n : Fin 1152) (w : Word), s.canWrite rq .EVH_SRC_CFG n.val → s.routeOk n.val (R.EVH_SRC_CFG.TARGET.part w.toNat) = true → R.EVH_SRC_CFG.TARGET.part w.toNat ≠ 0x10 →
      ∃ t, exec (.routeWrite rq n w) s = .next t ∧ t.rd R.EVH_SRC_CFG.TARGET n.val = R.EVH_SRC_CFG.TARGET.part w.toNat ∧ t.rd R.EVH_SRC_CFG.ENABLE n.val = R.EVH_SRC_CFG.ENABLE.part w.toNat ∧ t.rd R.EVH_SRC_CFG.PRIORITY n.val = R.EVH_SRC_CFG.PRIORITY.part w.toNat ∧
        t.rd R.EVH_SRC_CFG.HOLDOFF_GROUP n.val = R.EVH_SRC_CFG.HOLDOFF_GROUP.part w.toNat ∧ (t.src n.val).state = (if (s.src n.val).live && !s.fl R.EVH_SRC_CFG.ENABLE n.val && decide (R.EVH_SRC_CFG.ENABLE.part w.toNat ≠ 0) && srcReal n.val && decide ((s.src n.val).state = 0) then 1 else (s.src n.val).state)) ∧
  ∀ (s : State) (f : Fin 64) (n : Fin 1152) (w : Word), s.canWrite (.fn f) .EVH_SRC_CFG n.val → s.routeOk n.val (R.EVH_SRC_CFG.TARGET.part w.toNat) = false →
    ∃ t, exec (.routeWrite (.fn f) n w) s = .next t ∧ t.hub = s.hub ∧ t.rd R.EVH_SRC_CFG.TARGET n.val = s.rd R.EVH_SRC_CFG.TARGET n.val ∧ t.rd R.EVH_STATUS.ROUTE_REFUSED f.val = 1 ∧
      t.rd R.HOST_REFUSE.COUNT f.val = min (s.rd R.HOST_REFUSE.COUNT f.val + 1) (2 ^ R.HOST_REFUSE.COUNT.width - 1)

/-- A host event queue (R425 to R430): it is enabled empty with its phase at 1, forms a record by claiming the source that comes next and writing 32 bytes at WPTR, releases the sources of the records that RPTR passes, is emptied when it is disabled or when a write of it fails, and sends a withheld notice when its hold-off expires. -/
def Obligations.EventQueues : Prop :=
  (∀ (s : State) (rq : Req) (k : Fin 4) (w : Word) (q : Nat), s.canWrite rq .EVH_Q_CFG k.val → s.copyOf rq .EVH_Q_CFG k.val = q → q % 4 < s.queuesOf (q / 4) → s.fl R.EVH_Q_CFG.EN q = false → s.m.mode ≠ .legacy → 6 ≤ R.EVH_Q_CFG.SIZE_LOG2.part w.toNat → R.EVH_Q_CFG.SIZE_LOG2.part w.toNat ≤ s.rd R.SAG_QUOTA_B.QUEUE_DEPTH_LOG2 (q / 4) →
      ∃ t, exec (.evhQEnable rq k w) s = .next t ∧ t.rd R.EVH_Q_CFG.EN q = 1 ∧ t.rd R.EVH_Q_CFG.SIZE_LOG2 q = R.EVH_Q_CFG.SIZE_LOG2.part w.toNat ∧ t.rd R.EVH_Q_WPTR.WPTR q = 0 ∧ t.rd R.EVH_Q_WPTR.PHASE q = 1 ∧ t.rd R.EVH_Q_RPTR.RPTR q = 0 ∧ (t.queue q).recs = []) ∧
  (∀ (s : State) (rq : Req) (k : Fin 4) (w : Word) (q : Nat), s.canWrite rq .EVH_Q_CFG k.val → s.copyOf rq .EVH_Q_CFG k.val = q → q % 4 < s.queuesOf (q / 4) → s.fl R.EVH_Q_CFG.EN q = true →
      ∃ t, exec (.evhQDisable rq k w) s = .next t ∧ t.rd R.EVH_Q_CFG.EN q = 0 ∧ (t.queue q).recs = [] ∧ t.rd R.EVH_Q_STATUS.NOTIFY_WITHHELD q = 0 ∧ t.rd R.EVH_Q_STATUS.FULL q = 0 ∧ (∀ n ∈ (s.queue q).recs, (t.src n).state ≠ 2)) ∧
  (∀ (s : State) (sag : Fin 16) (k : Fin 4) (q n : Nat), q = 4 * sag.val + k.val → s.queueNext q = some n → (s.queue q).recs = [] →
      ∃ t, exec (.queueRecordForm sag k) s = .next t ∧ (t.src n).state = 2 ∧ (t.src n).holder = 17 + q ∧ (t.queue q).recs = [n] ∧ (t.queue q).rseq = (s.queue q).rseq + 1 ∧
        t.rd R.EVH_Q_WPTR.WPTR q = (s.rd R.EVH_Q_WPTR.WPTR q + 1) % s.qDepth q % 2 ^ R.EVH_Q_WPTR.WPTR.width ∧ t.out.head? = some (.hostWrite (s.rd R.EVH_Q_BASE_LO.BASE_LO q * 4096 + s.rd R.EVH_Q_BASE_HI.BASE_HI q * 2 ^ 32 + 32 * s.rd R.EVH_Q_WPTR.WPTR q) (s.eventRecord q n) false)) ∧
  (∀ (s : State) (sag : Fin 16) (k : Fin 4) (q n : Nat), q = 4 * sag.val + k.val → s.queueNext q = some n → (s.queue q).recs ≠ [] →
      ∃ t, exec (.queueRecordForm sag k) s = .next t ∧ (t.src n).state = 2 ∧ (t.queue q).recs = (s.queue q).recs ++ [n] ∧ t.out = [.hostWrite (s.rd R.EVH_Q_BASE_LO.BASE_LO q * 4096 + s.rd R.EVH_Q_BASE_HI.BASE_HI q * 2 ^ 32 + 32 * s.rd R.EVH_Q_WPTR.WPTR q) (s.eventRecord q n) false]) ∧
  (∀ (s : State) (sag : Fin 16) (k : Fin 4) (q n : Nat), q = 4 * sag.val + k.val → (s.queue q).recs.getLast? = some n →
      ∃ t, exec (.queueWriteError sag k) s = .next t ∧ (t.queue q).recs = [] ∧ t.rd R.EVH_Q_CFG.EN q = 0 ∧ t.rd R.EVH_Q_STATUS.ERROR q = 1 ∧ t.hub.asserted.getLast? = some (1024 + 4 * sag.val + 1, 0) ∧ ((s.src n).state = 2 → srcLevel n = false → (s.src n).count = 0 → (t.src n).state = 0)) ∧
  (∀ (s : State) (rq : Req) (k : Fin 4) (w : Word) (q v n : Nat), s.canWrite rq .EVH_Q_RPTR k.val → s.copyOf rq .EVH_Q_RPTR k.val = q → q % 4 < s.queuesOf (q / 4) → v = R.EVH_Q_RPTR.RPTR.part w.toNat → v < s.qDepth q → n = (v + s.qDepth q - s.rd R.EVH_Q_RPTR.RPTR q % s.qDepth q) % s.qDepth q → n ≤ (s.rd R.EVH_Q_WPTR.WPTR q + s.qDepth q - s.rd R.EVH_Q_RPTR.RPTR q % s.qDepth q) % s.qDepth q →
      ∃ t, exec (.evhQRptrWrite rq k w) s = .next t ∧ t.rd R.EVH_Q_RPTR.RPTR q = v ∧ (t.queue q).recs = (s.queue q).recs.drop n ∧ (∀ m ∈ (s.queue q).recs.take n, (t.src m).state ≠ 2)) ∧
  (∀ (s : State) (f : Fin 64) (k : Fin 4) (w : Word) (q : Nat), s.canWrite (.fn f) .EVH_Q_RPTR k.val → s.copyOf (.fn f) .EVH_Q_RPTR k.val = q → s.qDepth q ≤ R.EVH_Q_RPTR.RPTR.part w.toNat →
      ∃ t, exec (.evhQRptrWrite (.fn f) k w) s = .next t ∧ t.rd R.EVH_Q_RPTR.RPTR q = s.rd R.EVH_Q_RPTR.RPTR q ∧ t.hub = s.hub ∧ t.rd R.HOST_REFUSE.COUNT f.val = min (s.rd R.HOST_REFUSE.COUNT f.val + 1) (2 ^ R.HOST_REFUSE.COUNT.width - 1)) ∧
  (∀ (s : State) (g : Fin 64), s.fl R.EVH_HOLDOFF.RUNNING g.val = true → (∀ q ∈ List.range 64, ¬(s.fl R.EVH_Q_STATUS.NOTIFY_WITHHELD q = true ∧ (s.queue q).held = g.val)) →
      ∃ t, exec (.holdoffExpire g) s = .next t ∧ t.fl R.EVH_HOLDOFF.RUNNING g.val = false ∧ t.out = [] ∧ s.keeps t [.regs] ∧ s.keepsRegs t [R.EVH_HOLDOFF.RUNNING.slot g.val]) ∧
  ∀ (s : State) (g : Fin 64) (q : Fin 64) (n : Nat) (l : List Nat), s.fl R.EVH_HOLDOFF.RUNNING g.val = true → s.fl R.EVH_Q_STATUS.NOTIFY_WITHHELD q.val = true → (s.queue q.val).held = g.val → (s.queue q.val).recs = n :: l →
    ∃ t, exec (.holdoffExpire g) s = .next t ∧ t.fl R.EVH_HOLDOFF.RUNNING g.val = true ∧ t.fl R.EVH_Q_STATUS.NOTIFY_WITHHELD q.val = false ∧ (t.queue q.val).recs = n :: l

/-- A TDC (R357 to R367): it arms and disarms, takes a start and then a stop, or a second start in PERIOD mode, into a result that its FIFO keeps, takes no edge of an unsettled comparator, counts an early stop, a restart and a lost result, gives the mean period of a gate, reports an overrange and too few edges, waits out its dead time, and a read of TDC_RES_LO returns the oldest result. -/
def Obligations.TimeIntervals : Prop :=
  (∀ (s : State) (rq : Req) (i : Fin 68) (w : Word), s.canWrite rq .TDC_CTL i.val → s.tdcGone i.val = false →
      ∃ t, exec (.tdcArm rq i w) s = .next t ∧ t.rd R.TDC_CTL.ARMED i.val = 1 ∧ t.rd R.TDC_CTL.STARTED i.val = 0 ∧ (t.tdc i.val).start = none ∧ (t.tdc i.val).fifo = (s.tdc i.val).fifo) ∧
  (∀ (s : State) (f : Fin 64) (i : Fin 68) (w : Word), s.canWrite (.fn f) .TDC_CTL i.val → s.tdcGone i.val = true →
      ∃ t, exec (.tdcArm (.fn f) i w) s = .next t ∧ t.tdcs = s.tdcs ∧ t.rd R.HOST_REFUSE.COUNT f.val = min (s.rd R.HOST_REFUSE.COUNT f.val + 1) 65535 ∧ s.keeps t [.regs] ∧ s.keepsFields t refuseFields) ∧
  (∀ (s : State) (rq : Req) (i : Fin 68) (w : Word), s.canWrite rq .TDC_CTL i.val → R.TDC_CTL.ARM.part w.toNat = 0 →
      ∃ t, exec (.tdcDisarm rq i w) s = .next t ∧ t.rd R.TDC_CTL.ARMED i.val = 0 ∧ t.rd R.TDC_CTL.STARTED i.val = 0 ∧ (t.tdc i.val).start = none ∧ (t.tdc i.val).fifo = (s.tdc i.val).fifo ∧ s.keeps t [.regs, .tdcs]) ∧
  (∀ (s : State) (rq : Req) (i : Fin 68) (w : Word), s.canWrite rq .TDC_CTL i.val → R.TDC_CTL.ARM.part w.toNat = 1 → s.tdcGone i.val = false →
      ∃ t, exec (.tdcDisarm rq i w) s = .next t ∧ t.rd R.TDC_CTL.ARMED i.val = 1 ∧ t.rd R.TDC_CTL.STARTED i.val = 0 ∧ (t.tdc i.val).start = none ∧ (t.tdc i.val).fifo = (s.tdc i.val).fifo) ∧
  (∀ (s : State) (i : Fin 68) (bin : Nat), s.tdcLive i.val = true → s.edgeSeen i.val (s.rd R.TDC_CFG.START_SRC i.val) (s.fl R.TDC_CFG.START_EDGE i.val) = true → (s.tdc i.val).start = none → (s.tdc i.val).early.all (fun e => s.rd R.TDC_CFG.MODE i.val ≠ 0 || e.1 ≠ bin) = true →
      ∃ t, exec (.tdcStartEdge i bin) s = .next t ∧ (t.tdc i.val).start = some bin ∧ (t.tdc i.val).unref = s.unreferenced ∧ t.rd R.TDC_CTL.STARTED i.val = 1 ∧ t.rd R.TDC_CTL.ARMED i.val = s.rd R.TDC_CTL.ARMED i.val ∧ s.keeps t [.regs, .tdcs] ∧ s.keepsRegs t [R.TDC_CTL.STARTED.slot i.val]) ∧
  (∀ (s : State) (i : Fin 68) (bin : Nat), (s.edgeSeen i.val (s.rd R.TDC_CFG.START_SRC i.val) (s.fl R.TDC_CFG.START_EDGE i.val) = false ∨ s.tdcLive i.val = false) → ∃ t, exec (.tdcStartEdge i bin) s = .next t ∧ s.keeps t []) ∧
  (∀ (s : State) (i : Fin 68) (bin st : Nat), s.tdcLive i.val = true → s.edgeSeen i.val (s.rd R.TDC_CFG.START_SRC i.val) (s.fl R.TDC_CFG.START_EDGE i.val) = true → (s.tdc i.val).start = some st → s.rd R.TDC_CFG.MODE i.val = 0 →
      ∃ t, exec (.tdcStartEdge i bin) s = .next t ∧ t.rd R.TDC_COUNT.RESTART i.val = min (s.rd R.TDC_COUNT.RESTART i.val + 1) (2 ^ R.TDC_COUNT.RESTART.width - 1) ∧ (t.tdc i.val) = (s.tdc i.val) ∧ s.keeps t [.regs]) ∧
  (∀ (s : State) (i : Fin 68) (bin st : Nat), s.tdcLive i.val = true → s.edgeSeen i.val (s.rd R.TDC_CFG.START_SRC i.val) (s.fl R.TDC_CFG.START_EDGE i.val) = true → (s.tdc i.val).start = some st → s.rd R.TDC_CFG.MODE i.val = 1 → (s.persona (i.val / 16) = true ∨ s.rd R.TDC_CFG.DEST i.val = 0 ∨ s.rd R.TDC_CFG.DEST i.val = 2) → (s.tdc i.val).fifo.length < 16 →
      ∃ t, exec (.tdcStartEdge i bin) s = .next t ∧ (t.tdc i.val).fifo = (s.tdc i.val).fifo ++ [⟨min (bin - st) (2 ^ 44 - 1), b2n (bin - st = 0) + 2 * b2n ((s.tdc i.val).unref || s.unreferenced) + 4 * b2n (s.tdcUncal i.val) + 8 * b2n (2 ^ 44 ≤ bin - st) + 32 * s.rd R.TDC_CFG.MODE i.val, 1, s.stampAfter (binUnits bin)⟩] ∧ (t.tdc i.val).dead = true ∧ (t.tdc i.val).start = none ∧ t.rd R.TDC_CTL.STARTED i.val = 0 ∧
        (s.fl R.TDC_CFG.CONT i.val = false → t.rd R.TDC_CTL.ARMED i.val = 0 ∧ (896 + i.val, 0) ∈ t.hub.asserted) ∧ (s.fl R.TDC_CFG.CONT i.val = true → t.rd R.TDC_CTL.ARMED i.val = s.rd R.TDC_CTL.ARMED i.val)) ∧
  (∀ (s : State) (i : Fin 68) (bin : Nat), s.tdcLive i.val = true → s.edgeSeen i.val (s.stopOf i.val).1 (s.stopOf i.val).2 = true → (s.tdc i.val).start = none → s.rd R.TDC_CFG.MODE i.val = 0 →
      ∃ t, exec (.tdcStopEdge i bin) s = .next t ∧ t.rd R.TDC_COUNT.EARLY_STOP i.val = min (s.rd R.TDC_COUNT.EARLY_STOP i.val + 1) (2 ^ R.TDC_COUNT.EARLY_STOP.width - 1) ∧ (t.tdc i.val).start = none ∧ (t.tdc i.val).fifo = (s.tdc i.val).fifo ∧ s.keeps t [.regs, .tdcs]) ∧
  (∀ (s : State) (i : Fin 68) (bin st : Nat), s.tdcLive i.val = true → s.edgeSeen i.val (s.stopOf i.val).1 (s.stopOf i.val).2 = true → (s.tdc i.val).start = some st → (s.rd R.TDC_CFG.MODE i.val = 0 ∨ s.rd R.TDC_CFG.MODE i.val = 2) → (s.persona (i.val / 16) = true ∨ s.rd R.TDC_CFG.DEST i.val = 0 ∨ s.rd R.TDC_CFG.DEST i.val = 2) → (s.tdc i.val).fifo.length < 16 →
      ∃ t, exec (.tdcStopEdge i bin) s = .next t ∧ (t.tdc i.val).fifo = (s.tdc i.val).fifo ++ [⟨min (bin - st) (2 ^ 44 - 1), b2n (bin - st = 0) + 2 * b2n ((s.tdc i.val).unref || s.unreferenced) + 4 * b2n (s.tdcUncal i.val) + 8 * b2n (2 ^ 44 ≤ bin - st) + 32 * s.rd R.TDC_CFG.MODE i.val, 1, s.stampAfter (binUnits bin)⟩] ∧ t.rd R.TDC_CTL.FIFO_COUNT i.val = (s.tdc i.val).fifo.length + 1 ∧ (t.tdc i.val).dead = true ∧ (t.tdc i.val).start = none ∧ t.rd R.TDC_CTL.STARTED i.val = 0 ∧
        (s.fl R.TDC_CFG.CONT i.val = false → t.rd R.TDC_CTL.ARMED i.val = 0 ∧ (896 + i.val, 0) ∈ t.hub.asserted) ∧ (s.fl R.TDC_CFG.CONT i.val = true → t.rd R.TDC_CTL.ARMED i.val = s.rd R.TDC_CTL.ARMED i.val)) ∧
  (∀ (s : State) (i : Fin 68) (bin st : Nat), s.tdcLive i.val = true → s.edgeSeen i.val (s.stopOf i.val).1 (s.stopOf i.val).2 = true → (s.tdc i.val).start = some st → (s.rd R.TDC_CFG.MODE i.val = 0 ∨ s.rd R.TDC_CFG.MODE i.val = 2) → (s.persona (i.val / 16) = true ∨ s.rd R.TDC_CFG.DEST i.val = 0 ∨ s.rd R.TDC_CFG.DEST i.val = 2) → 16 ≤ (s.tdc i.val).fifo.length →
      ∃ t, exec (.tdcStopEdge i bin) s = .next t ∧ (t.tdc i.val).fifo = (s.tdc i.val).fifo ∧ t.rd R.TDC_COUNT.LOST i.val = min (s.rd R.TDC_COUNT.LOST i.val + 1) (2 ^ R.TDC_COUNT.LOST.width - 1) ∧ (t.tdc i.val).dead = true ∧ (t.tdc i.val).start = none ∧ t.rd R.TDC_CTL.STARTED i.val = 0) ∧
  (∀ (s : State) (i : Fin 68) (bin : Nat), (s.edgeSeen i.val (s.stopOf i.val).1 (s.stopOf i.val).2 = false ∨ s.tdcLive i.val = false ∨ s.rd R.TDC_CFG.MODE i.val = 1 ∨ ((s.tdc i.val).start = none ∧ s.rd R.TDC_CFG.MODE i.val ≠ 0)) → ∃ t, exec (.tdcStopEdge i bin) s = .next t ∧ s.keeps t []) ∧
  (∀ (s : State) (i : Fin 68) (bin st : Nat), s.tdcLive i.val = true → s.edgeSeen i.val (s.stopOf i.val).1 (s.stopOf i.val).2 = true → (s.tdc i.val).start = some st → s.rd R.TDC_CFG.MODE i.val = 3 → (s.tdc i.val).edges ≠ 2 ^ 24 - 1 →
      ∃ t, exec (.tdcStopEdge i bin) s = .next t ∧ (t.tdc i.val).edges = (s.tdc i.val).edges + 1 ∧ (t.tdc i.val).last = bin ∧ (t.tdc i.val).first = (if (s.tdc i.val).edges = 0 then bin else (s.tdc i.val).first) ∧ (t.tdc i.val).start = some st ∧ s.keeps t [.tdcs]) ∧
  (∀ (s : State) (i : Fin 68) (st : Nat), s.tdcLive i.val = true → (s.tdc i.val).start = some st → s.rd R.TDC_CFG.MODE i.val = 3 → 2 ≤ (s.tdc i.val).edges → (s.tdc i.val).first ≤ (s.tdc i.val).last → (s.tdc i.val).last - (s.tdc i.val).first < 2 ^ 36 → (s.persona (i.val / 16) = true ∨ s.rd R.TDC_CFG.DEST i.val = 0 ∨ s.rd R.TDC_CFG.DEST i.val = 2) → (s.tdc i.val).fifo.length < 16 →
      ∃ t, exec (.tdcGateClose i) s = .next t ∧ (t.tdc i.val).fifo.dropLast = (s.tdc i.val).fifo ∧ ((t.tdc i.val).fifo.getLastD ⟨0, 0, 0, 0⟩).count = (s.tdc i.val).edges - 1 ∧ 2 * (((t.tdc i.val).fifo.getLastD ⟨0, 0, 0, 0⟩).value * ((s.tdc i.val).edges - 1)) ≤ 2 * (256 * ((s.tdc i.val).last - (s.tdc i.val).first)) + ((s.tdc i.val).edges - 1) ∧ 2 * (256 * ((s.tdc i.val).last - (s.tdc i.val).first)) ≤ 2 * (((t.tdc i.val).fifo.getLastD ⟨0, 0, 0, 0⟩).value * ((s.tdc i.val).edges - 1)) + ((s.tdc i.val).edges - 1) ∧ (t.tdc i.val).dead = true ∧ (t.tdc i.val).start = none ∧ t.rd R.TDC_CTL.STARTED i.val = 0) ∧
  (∀ (s : State) (i : Fin 68) (st : Nat), s.tdcLive i.val = true → (s.tdc i.val).start = some st → s.rd R.TDC_CFG.MODE i.val = 3 → (s.tdc i.val).edges < 2 → (s.persona (i.val / 16) = true ∨ s.rd R.TDC_CFG.DEST i.val = 0 ∨ s.rd R.TDC_CFG.DEST i.val = 2) → (s.tdc i.val).fifo.length < 16 →
      ∃ t, exec (.tdcGateClose i) s = .next t ∧ (t.tdc i.val).fifo = (s.tdc i.val).fifo ++ [⟨0, 2 * b2n ((s.tdc i.val).unref || s.unreferenced) + 4 * b2n (s.tdcUncal i.val) + 16 + 32 * 3, 0, s.stampAfter 0⟩] ∧ (t.tdc i.val).dead = true ∧ (t.tdc i.val).start = none ∧ t.rd R.TDC_CTL.STARTED i.val = 0) ∧
  (∀ (s : State) (i : Fin 68) (st : Nat), s.tdcLive i.val = true → (s.tdc i.val).start = some st → s.rd R.TDC_CFG.MODE i.val ≠ 3 → (s.persona (i.val / 16) = true ∨ s.rd R.TDC_CFG.DEST i.val = 0 ∨ s.rd R.TDC_CFG.DEST i.val = 2) → (s.tdc i.val).fifo.length < 16 →
      ∃ t, exec (.tdcOverrange i) s = .next t ∧ (t.tdc i.val).fifo = (s.tdc i.val).fifo ++ [⟨2 ^ 44 - 1, 2 * b2n ((s.tdc i.val).unref || s.unreferenced) + 4 * b2n (s.tdcUncal i.val) + 8 + 32 * s.rd R.TDC_CFG.MODE i.val, 1, s.stampAfter 0⟩] ∧ (t.tdc i.val).dead = true ∧ (t.tdc i.val).start = none ∧ t.rd R.TDC_CTL.STARTED i.val = 0) ∧
  (∀ (s : State) (i : Fin 68), ∃ t, exec (.tdcDeadTimeEnd i) s = .next t ∧ t.tdc i.val = { s.tdc i.val with dead := false } ∧ (∀ j, j ≠ i.val → t.tdc j = s.tdc j) ∧ s.keeps t [.tdcs]) ∧
  (∀ (s : State) (rq : Req) (i : Fin 68) (r : TdcRes) (l : List TdcRes), s.reachable rq = true → s.mayRead rq .TDC_RES_LO i.val = true → (s.tdc i.val).fifo = r :: l →
      ∃ t, exec (.tdcResRead rq i) s = .next t ∧ t.out = [.word (r.value % 2 ^ 32)] ∧ (t.tdc i.val).fifo = l ∧ t.rd R.TDC_RES_HI.VALID i.val = 1 ∧ t.rd R.TDC_RES_HI.VALUE_HI i.val = r.value / 2 ^ 32 % 2 ^ R.TDC_RES_HI.VALUE_HI.width ∧ t.rd R.TDC_RES_COUNT.COUNT i.val = r.count % 2 ^ R.TDC_RES_COUNT.COUNT.width ∧ t.rd R.TDC_RES_TIME_LO.TIME_LO i.val = r.time % 2 ^ 32) ∧
  ∀ (s : State) (rq : Req) (i : Fin 68), s.reachable rq = true → s.mayRead rq .TDC_RES_LO i.val = true → (s.tdc i.val).fifo = [] →
    ∃ t, exec (.tdcResRead rq i) s = .next t ∧ t.out = [.word 0] ∧ t.rd R.TDC_RES_HI.VALID i.val = 0 ∧ t.tdcs = s.tdcs

/-- The reduction contexts (R368 to R380): an open clears an IDLE context and opens it, a close and a target complete it into a result record, an abort makes it IDLE with no record, a command that its group refuses is refused, a command to a PENDING context is latched, a sample that arrives updates the statistics of an OPEN context and is counted elsewhere, an uncorrectable context completes with STORE_ERROR, a pipe that fails its residue check leaves service, and a buffered record is written into its group's ring. -/
def Obligations.Contexts : Prop :=
  (∀ (s : State) (rq : Req) (w : Word) (c : Nat), s.canWrite rq .RED_CMD 0 → c = R.RED_CMD.CTX.part w.toNat → s.ctxRefused (s.sagOf rq) c 1 = false → (s.ctx c).state = 1 →
      ∃ t, exec (.redOpen rq w) s = .next t ∧ (t.ctx c).state = 2 ∧ (t.ctx c).n = 0 ∧ (t.ctx c).flags = 0 ∧ (t.ctx c).mean = 0 ∧ (t.ctx c).m2 = 0 ∧ (t.ctx c).timeOpen = s.stamp ∧ (t.ctx c).target = (s.ctx c).target ∧ (∀ d, d ≠ c → t.ctx d = s.ctx d) ∧ s.keeps t [.regs, .red]) ∧
  (∀ (s : State) (rq : Req) (w : Word) (c : Nat), s.canWrite rq .RED_CMD 0 → c = R.RED_CMD.CTX.part w.toNat → s.ctxRefused (s.sagOf rq) c 1 = false → (s.ctx c).state = 2 → smGet 0 s.red.ecc c ≠ 2 → (∀ d ∈ s.red.pending, d / 256 ≠ c / 256) → s.grpRoom (c / 256) = true →
      ∃ t, exec (.redOpen rq w) s = .next t ∧ (t.ctx c).state = 2 ∧ (t.ctx c).n = 0 ∧ (t.ctx c).mean = 0 ∧ (t.ctx c).timeOpen = s.stamp ∧
        t.red.buffer = s.red.buffer ++ [(c / 256, CtxSt.record { s.ctx c with state := 3, reason := 3, timeEnd := s.stamp, latched := 0 } c)]) ∧
  (∀ (s : State) (rq : Req) (w : Word) (c : Nat), s.canWrite rq .RED_CMD 0 → c = R.RED_CMD.CTX.part w.toNat → s.ctxRefused (s.sagOf rq) c 1 = false → (s.ctx c).state = 3 → smGet 0 s.red.ecc c ≠ 2 →
      ∃ t, exec (.redOpen rq w) s = .next t ∧ t.ctx c = { s.ctx c with latched := 1 } ∧ t.red.buffer = s.red.buffer ∧ t.red.pending = s.red.pending ∧ s.keeps t [.regs, .red]) ∧
  (∀ (s : State) (f : Fin 64) (w : Word) (c : Nat), s.canWrite (.fn f) .RED_CMD 0 → c = R.RED_CMD.CTX.part w.toNat → s.ctxRefused (s.sagOf (.fn f)) c 1 = true →
      ∃ t, exec (.redOpen (.fn f) w) s = .next t ∧ t.red = s.red ∧ t.rd R.RED_CMD.REFUSED 0 = 1 ∧ t.rd R.HOST_REFUSE.COUNT f.val = min (s.rd R.HOST_REFUSE.COUNT f.val + 1) (2 ^ R.HOST_REFUSE.COUNT.width - 1)) ∧
  (∀ (s : State) (rq : Req) (w : Word) (c : Nat), s.canWrite rq .RED_CMD 0 → c = R.RED_CMD.CTX.part w.toNat → s.ctxRefused (s.sagOf rq) c 2 = false → (s.ctx c).state = 2 → smGet 0 s.red.ecc c ≠ 2 → (∀ d ∈ s.red.pending, d / 256 ≠ c / 256) → s.grpRoom (c / 256) = true →
      ∃ t, exec (.redClose rq w) s = .next t ∧ (t.ctx c).state = 1 ∧ t.red.buffer = s.red.buffer ++ [(c / 256, CtxSt.record { s.ctx c with state := 3, reason := 2, timeEnd := s.stamp, latched := 0 } c)]) ∧
  (∀ (s : State) (rq : Req) (w : Word) (c : Nat), s.canWrite rq .RED_CMD 0 → c = R.RED_CMD.CTX.part w.toNat → s.ctxRefused (s.sagOf rq) c 2 = false → (s.ctx c).state = 2 → smGet 0 s.red.ecc c ≠ 2 → s.grpRoom (c / 256) = false →
      ∃ t, exec (.redClose rq w) s = .next t ∧ (t.ctx c).state = 3 ∧ (t.ctx c).reason = 2 ∧ t.red.pending = s.red.pending ++ [c] ∧ t.red.buffer = s.red.buffer) ∧
  (∀ (s : State) (rq : Req) (w : Word) (c : Nat), s.canWrite rq .RED_CMD 0 → c = R.RED_CMD.CTX.part w.toNat → s.ctxRefused (s.sagOf rq) c 2 = false → (s.ctx c).state = 3 → smGet 0 s.red.ecc c ≠ 2 →
      ∃ t, exec (.redClose rq w) s = .next t ∧ t.ctx c = { s.ctx c with latched := 2 } ∧ t.red.buffer = s.red.buffer ∧ t.red.pending = s.red.pending ∧ s.keeps t [.regs, .red]) ∧
  (∀ (s : State) (rq : Req) (w : Word) (c : Nat), s.canWrite rq .RED_CMD 0 → c = R.RED_CMD.CTX.part w.toNat → s.ctxRefused (s.sagOf rq) c 2 = false → (s.ctx c).state = 1 → ∃ t, exec (.redClose rq w) s = .next t ∧ t.red = s.red ∧ s.keeps t [.regs]) ∧
  (∀ (s : State) (rq : Req) (w : Word) (c : Nat), s.canWrite rq .RED_CMD 0 → c = R.RED_CMD.CTX.part w.toNat → s.ctxRefused (s.sagOf rq) c 2 = false → (s.ctx c).state = 2 → smGet 0 s.red.ecc c = 2 → (∀ d ∈ s.red.pending, d / 256 ≠ c / 256) → s.grpRoom (c / 256) = true →
      ∃ t, exec (.redClose rq w) s = .next t ∧ (t.ctx c).state = 1 ∧ (t.ctx c).reason = 4 ∧ bitAt (t.ctx c).flags 10 = true ∧ t.red.buffer.length = s.red.buffer.length + 1 ∧ smGet 0 t.red.ecc c = 0) ∧
  (∀ (s : State) (f : Fin 64) (w : Word) (c : Nat), s.canWrite (.fn f) .RED_CMD 0 → c = R.RED_CMD.CTX.part w.toNat → s.ctxRefused (s.sagOf (.fn f)) c 2 = true →
      ∃ t, exec (.redClose (.fn f) w) s = .next t ∧ t.red = s.red ∧ t.rd R.RED_CMD.REFUSED 0 = 1 ∧ t.rd R.HOST_REFUSE.COUNT f.val = min (s.rd R.HOST_REFUSE.COUNT f.val + 1) (2 ^ R.HOST_REFUSE.COUNT.width - 1)) ∧
  (∀ (s : State) (rq : Req) (w : Word) (c : Nat), s.canWrite rq .RED_CMD 0 → c = R.RED_CMD.CTX.part w.toNat → s.ctxRefused (s.sagOf rq) c 3 = false →
      ∃ t, exec (.redAbort rq w) s = .next t ∧ (t.ctx c).state = 1 ∧ t.red.pending = s.red.pending.erase c ∧ t.red.buffer = s.red.buffer ∧ s.keeps t [.regs, .red]) ∧
  (∀ (s : State) (f : Fin 64) (w : Word) (c : Nat), s.canWrite (.fn f) .RED_CMD 0 → c = R.RED_CMD.CTX.part w.toNat → s.ctxRefused (s.sagOf (.fn f)) c 3 = true →
      ∃ t, exec (.redAbort (.fn f) w) s = .next t ∧ t.red = s.red ∧ t.rd R.RED_CMD.REFUSED 0 = 1 ∧ t.rd R.HOST_REFUSE.COUNT f.val = min (s.rd R.HOST_REFUSE.COUNT f.val + 1) (2 ^ R.HOST_REFUSE.COUNT.width - 1)) ∧
  (∀ (s : State) (pf : Option (Fin 5)) (e : RedSample) (c : Nat), s.redNext = some e → c = e.ctx → (s.grpOwner (c / 256)).isSome = true → (s.ctx c).state = 2 → smGet 0 s.red.ecc c ≠ 2 → (s.ctx c).excludes e.flags = false → (s.ctx c).n + 1 ≠ (s.ctx c).target → (s.ctx c).n + 1 < 2 ^ 32 - 1 →
      ∃ t, exec (.contextUpdate pf) s = .next t ∧ (t.ctx c).n = (s.ctx c).n + 1 ∧ (t.ctx c).mean = (s.ctx c).mean + Int.tdiv (e.x * 65536 - (s.ctx c).mean) ((s.ctx c).n + 1) ∧
        (t.ctx c).min = (if (s.ctx c).n = 0 ∨ e.x < (s.ctx c).min then e.x else (s.ctx c).min) ∧ (t.ctx c).max = (if (s.ctx c).n = 0 ∨ e.x > (s.ctx c).max then e.x else (s.ctx c).max) ∧ (t.ctx c).state = 2 ∧ t.red.fifo = s.red.fifo.erase e) ∧
  (∀ (s : State) (pf : Option (Fin 5)) (e : RedSample) (c : Nat), s.redNext = some e → c = e.ctx → (s.grpOwner (c / 256)).isSome = true → (s.ctx c).state = 2 → smGet 0 s.red.ecc c ≠ 2 → (s.ctx c).excludes e.flags = true →
      ∃ t, exec (.contextUpdate pf) s = .next t ∧ (t.ctx c).excluded = min ((s.ctx c).excluded + 1) 65535 ∧ (t.ctx c).n = (s.ctx c).n ∧ (t.ctx c).mean = (s.ctx c).mean ∧ (t.ctx c).m2 = (s.ctx c).m2 ∧ (t.ctx c).min = (s.ctx c).min ∧ (t.ctx c).max = (s.ctx c).max ∧ t.red.fifo = s.red.fifo.erase e) ∧
  (∀ (s : State) (pf : Option (Fin 5)) (e : RedSample) (c : Nat), s.redNext = some e → c = e.ctx → (s.grpOwner (c / 256)).isSome = true → (s.ctx c).state = 1 →
      ∃ t, exec (.contextUpdate pf) s = .next t ∧ t.ctx c = s.ctx c ∧ t.rd R.RED_NOT_OPEN.COUNT 0 = min (s.rd R.RED_NOT_OPEN.COUNT 0 + 1) (2 ^ R.RED_NOT_OPEN.COUNT.width - 1) ∧ t.red.fifo = s.red.fifo.erase e) ∧
  (∀ (s : State) (pf : Option (Fin 5)) (e : RedSample) (c : Nat), s.redNext = some e → c = e.ctx → (s.grpOwner (c / 256)).isSome = true → (s.ctx c).state = 3 → smGet 0 s.red.ecc c ≠ 2 →
      ∃ t, exec (.contextUpdate pf) s = .next t ∧ (t.ctx c).dropped = min ((s.ctx c).dropped + 1) (2 ^ 32 - 1) ∧ bitAt (t.ctx c).flags 7 = true ∧ (t.ctx c).n = (s.ctx c).n) ∧
  (∀ (s : State) (e : RedSample) (c : Nat), s.redNext = some e → c = e.ctx → (s.grpOwner (c / 256)).isSome = true → (s.ctx c).state = 2 → smGet 0 s.red.ecc c ≠ 2 → (s.ctx c).excludes e.flags = false →
      ((s.ctx c).n + 1 = (s.ctx c).target ∨ (s.ctx c).n + 1 = 2 ^ 32 - 1) → s.grpRoom (c / 256) = false →
      ∃ t, exec (.contextUpdate none) s = .next t ∧ (t.ctx c).state = 3 ∧ (t.ctx c).reason = 1 ∧ (t.ctx c).n = (s.ctx c).n + 1 ∧ (t.ctx c).timeEnd = s.stamp ∧ t.red.pending = s.red.pending ++ [c] ∧ t.red.buffer = s.red.buffer) ∧
  (∀ (s : State) (f : Fin 5) (e : RedSample), s.redNext = some e → s.pipeServes f.val e.ctx = true →
      ∃ t, exec (.contextUpdate (some f)) s = .next t ∧ 2 ≤ t.unitState (pipeKey f.val) ∧ t.red.fifo = s.red.fifo.erase e ∧ (13, 0) ∈ t.hub.asserted) ∧
  ∀ (s : State) (g : Fin 64) (b : List Nat), s.red.buffer.find? (fun e => e.1 = g.val) = some (g.val, b) → s.grpSize g.val ≠ 0 → s.regionTaken (s.grpAddr g.val (s.rd R.RED_GRP_WPTR.WPTR g.val) / 3145728) true = false →
    ∃ t, exec (.resultRecordWrite g) s = .next t ∧ t.rd R.RED_GRP_WPTR.WPTR g.val = (s.rd R.RED_GRP_WPTR.WPTR g.val + 1) % s.grpSize g.val % 2 ^ R.RED_GRP_WPTR.WPTR.width ∧ (960 + g.val, 0) ∈ t.hub.asserted

/-- The acquisition unit of a tile (R386 to R405): an arm is accepted into ARMING or refused with its cause, ARMING ends in ARMED, a sample that meets an enabled condition triggers and one that does not joins the pre-trigger history, a force and an automatic timeout trigger the next sample, a disarm ends the unit or its frame, a frame closes into the ring with its source, and a unit PARKED by a full ring arms again when the host moves RPTR. -/
def Obligations.Acquisition : Prop :=
  (∀ (s : State) (rq : Req) (t' : Fin 16) (w : Word), s.canWrite rq .ACQ_CTL t'.val → s.acqState t'.val = 0 → s.acqArmCause t'.val = 0 →
      ∃ t, exec (.acqArm rq t' w) s = .next t ∧ t.rd R.ACQ_CTL.STATE t'.val = 1 ∧ t.rd R.ACQ_CTL.ARM_CAUSE t'.val = 0 ∧ t.rd R.ACQ_WPTR.WPTR t'.val = 0 ∧ t.rd R.ACQ_RING.SLOTS t'.val = s.acqSlots t'.val % 2 ^ R.ACQ_RING.SLOTS.width ∧ (t.acq t'.val).seq = 0 ∧ (t.acq t'.val).pre = [] ∧ s.keeps t [.regs, .acqs]) ∧
  (∀ (s : State) (rq : Req) (t' : Fin 16) (w : Word), s.canWrite rq .ACQ_CTL t'.val → s.acqState t'.val = 0 → s.acqArmCause t'.val ≠ 0 →
      ∃ t, exec (.acqArm rq t' w) s = .next t ∧ t.rd R.ACQ_CTL.STATE t'.val = 0 ∧ t.rd R.ACQ_CTL.ARM_REFUSED t'.val = 1 ∧ t.acqs = s.acqs) ∧
  (∀ (s : State) (t' : Fin 16), s.acqState t'.val = 1 →
      ∃ t, exec (.armingDone t') s = .next t ∧ t.rd R.ACQ_CTL.STATE t'.val = 2 ∧ (t.acq t'.val).armTime = s.stamp ∧ (t.acq t'.val).latches = 0 ∧ (t.acq t'.val).pre = [] ∧ s.keeps t [.regs, .acqs] ∧ s.keepsRegs t [R.ACQ_CTL.STATE.slot t'.val]) ∧
  (∀ (s : State) (t' : Fin 16), s.acqState t'.val ≠ 1 → ∃ t, exec (.armingDone t') s = .next t ∧ s.keeps t []) ∧
  (∀ (s : State) (t' : Fin 16), (s.acq t'.val).waiting = [] → ∃ t, exec (.acqSampleEvaluate t') s = .next t ∧ s.keeps t []) ∧
  (∀ (s : State) (t' : Fin 16) (x : AcqSample) (l : List AcqSample), (s.acqState t'.val = 0 ∨ 3 < s.acqState t'.val) → (s.acq t'.val).waiting = x :: l →
      ∃ t, exec (.acqSampleEvaluate t') s = .next t ∧ (t.acq t'.val).waiting = l ∧ (t.acq t'.val).missed = (s.acq t'.val).missed ∧ (t.acq t'.val).pre = (s.acq t'.val).pre ∧ s.keeps t [.acqs]) ∧
  (∀ (s : State) (t' : Fin 16) (x : AcqSample) (l : List AcqSample), s.acqState t'.val = 2 → (s.acq t'.val).waiting = x :: l → s.acqOwn t'.val x = [] → (s.acq t'.val).conds = [] → (s.acq t'.val).forced = false →
      ∃ t, exec (.acqSampleEvaluate t') s = .next t ∧ t.rd R.ACQ_CTL.STATE t'.val = 2 ∧ (t.acq t'.val).waiting = l ∧ (t.acq t'.val).pre = ((s.acq t'.val).pre ++ [x]).drop ((s.acq t'.val).pre.length + 1 - s.rd R.ACQ_PRE.PRE t'.val) ∧ t.cap = s.cap) ∧
  (∀ (s : State) (t' : Fin 16) (x : AcqSample) (l : List AcqSample), s.acqState t'.val = 2 → (s.acq t'.val).waiting = x :: l → s.acqPost t'.val ≠ 1 → (s.acq t'.val).pre = [] →
      ((s.acq t'.val).forced = true ∨ (s.fl R.ACQ_CFG.COMBINE t'.val = false ∧ (s.acqOwn t'.val x ≠ [] ∨ ∃ e ∈ (s.acq t'.val).conds, e.2 ≤ x.time ∧ e.1 < 8))) →
      ∃ t, exec (.acqSampleEvaluate t') s = .next t ∧ t.rd R.ACQ_CTL.STATE t'.val = 3 ∧ (t.acq t'.val).trig = x ∧ (t.acq t'.val).postN = 1 ∧ (t.acq t'.val).forced = false ∧ bitAt (t.acq t'.val).flags 0 = (s.acq t'.val).forced) ∧
  (∀ (s : State) (t' : Fin 16) (x : AcqSample) (l : List AcqSample), s.acqState t'.val = 3 → (s.acq t'.val).waiting = x :: l → x.time < (s.acq t'.val).trig.time + (2 ^ 31 - 1) * tickUnits → (s.acqPostTake t'.val (s.acq t'.val) x).writes.length ≤ 8 →
      ∃ t, exec (.acqSampleEvaluate t') s = .next t ∧ (t.acq t'.val).waiting = l ∧ (t.acq t'.val).postN = (s.acq t'.val).postN + 1 ∧ t.rd R.ACQ_CTL.STATE t'.val = (if (s.acq t'.val).postN + 1 = s.acqPost t'.val then 4 else 3) ∧ t.hub = s.hub) ∧
  (∀ (s : State) (t' : Fin 16) (x : AcqSample) (l : List AcqSample), s.acqState t'.val = 3 → (s.acq t'.val).waiting = x :: l → (s.acq t'.val).trig.time + (2 ^ 31 - 1) * tickUnits ≤ x.time →
      ∃ t, exec (.acqSampleEvaluate t') s = .next t ∧ (t.acq t'.val).postN = (s.acq t'.val).postN ∧ t.rd R.ACQ_CTL.STATE t'.val = 4 ∧ (t.acq t'.val).flags = Nat.lor (s.acq t'.val).flags 8 ∧ s.keeps t [.acqs, .regs]) ∧
  (∀ (s : State) (t' : Fin 16) (x : AcqSample) (l : List AcqSample), s.acqState t'.val = 1 → (s.acq t'.val).waiting = x :: l → (∃ e ∈ (s.acq t'.val).conds, e.2 ≤ x.time ∧ e.1 < 8) →
      ∃ t, exec (.acqSampleEvaluate t') s = .next t ∧ t.rd R.ACQ_CTL.STATE t'.val = 1 ∧ (t.acq t'.val).missed = min ((s.acq t'.val).missed + 1) 65535 ∧ t.rd R.ACQ_COUNT.MISSED t'.val = min (s.rd R.ACQ_COUNT.MISSED t'.val + 1) (2 ^ R.ACQ_COUNT.MISSED.width - 1)) ∧
  (∀ (s : State) (rq : Req) (t' : Fin 16) (w : Word), s.canWrite rq .ACQ_CTL t'.val → s.acqState t'.val = 2 → R.ACQ_CTL.DISARM.part w.toNat = 0 →
      ∃ t, exec (.acqForce rq t' w) s = .next t ∧ (t.acq t'.val).forced = true ∧ t.rd R.ACQ_CTL.STATE t'.val = 2 ∧ s.keeps t [.regs, .acqs]) ∧
  (∀ (s : State) (t' : Fin 16), s.rd R.ACQ_AUTO.AUTO_TIMEOUT t'.val ≠ 0 → s.acqState t'.val = 2 →
      ∃ t, exec (.acqAutoTimeout t') s = .next t ∧ t.acq t'.val = { s.acq t'.val with forced := true } ∧ s.keeps t [.acqs]) ∧
  (∀ (s : State) (t' : Fin 16), s.rd R.ACQ_AUTO.AUTO_TIMEOUT t'.val = 0 ∨ s.acqState t'.val ≠ 2 → ∃ t, exec (.acqAutoTimeout t') s = .next t ∧ s.keeps t []) ∧
  (∀ (s : State) (rq : Req) (t' : Fin 16) (w : Word), s.canWrite rq .ACQ_CTL t'.val → (s.acqState t'.val = 1 ∨ s.acqState t'.val = 2 ∨ s.acqState t'.val = 5) →
      ∃ t, exec (.acqDisarm rq t' w) s = .next t ∧ t.rd R.ACQ_CTL.STATE t'.val = 0 ∧ (t.acq t'.val).pre = [] ∧ (t.acq t'.val).waiting = (s.acq t'.val).waiting ∧ t.rd R.ACQ_WPTR.WPTR t'.val = s.rd R.ACQ_WPTR.WPTR t'.val) ∧
  (∀ (s : State) (rq : Req) (t' : Fin 16) (w : Word), s.canWrite rq .ACQ_CTL t'.val → s.acqState t'.val = 3 →
      ∃ t, exec (.acqDisarm rq t' w) s = .next t ∧ t.rd R.ACQ_CTL.STATE t'.val = 4 ∧ (t.acq t'.val).disarm = true ∧ (t.acq t'.val).flags = Nat.lor (s.acq t'.val).flags 16) ∧
  (∀ (s : State) (t' : Fin 16), s.acqState t'.val = 4 → ((s.acqRegions t'.val).any fun r => s.regionTaken r false) = false → (s.acq t'.val).disarm = true →
      ∃ t, exec (.acqFrameClose t') s = .next t ∧ t.rd R.ACQ_CTL.STATE t'.val = 0 ∧ (t.acq t'.val).disarm = false ∧ t.rd R.ACQ_WPTR.WPTR t'.val = (if s.rd R.ACQ_RING.SLOTS t'.val = 0 then 0 else (s.rd R.ACQ_WPTR.WPTR t'.val + 1) % s.rd R.ACQ_RING.SLOTS t'.val) ∧
        t.rd R.ACQ_COUNT.FRAMES t'.val = min (s.rd R.ACQ_COUNT.FRAMES t'.val + 1) (2 ^ R.ACQ_COUNT.FRAMES.width - 1) ∧ (64 + 16 * t'.val + 8, 0) ∈ t.hub.asserted ∧ (t.acq t'.val).seq = ((s.acq t'.val).seq + 1) % 65536) ∧
  (∀ (s : State) (t' : Fin 16), s.acqState t'.val = 4 → ((s.acqRegions t'.val).any fun r => s.regionTaken r false) = false → (s.acq t'.val).disarm = false → s.fl R.ACQ_CTL.REARM t'.val = true → s.rd R.ACQ_RING.SLOTS t'.val ≠ 0 → (s.rd R.ACQ_WPTR.WPTR t'.val + 2) % s.rd R.ACQ_RING.SLOTS t'.val = s.rd R.ACQ_RPTR.RPTR t'.val →
      ∃ t, exec (.acqFrameClose t') s = .next t ∧ t.rd R.ACQ_CTL.STATE t'.val = 5) ∧
  (∀ (s : State) (t' : Fin 16), s.acqState t'.val ≠ 4 ∨ ((s.acqRegions t'.val).any fun r => s.regionTaken r false) = true → ∃ t, exec (.acqFrameClose t') s = .next t ∧ s.keeps t []) ∧
  (∀ (s : State) (rq : Req) (t' : Fin 16) (w : Word) (v : Nat), s.canWrite rq .ACQ_RPTR t'.val → v = R.ACQ_RPTR.RPTR.part w.toNat → v < s.rd R.ACQ_RING.SLOTS t'.val → s.acqState t'.val ≠ 5 →
      ∃ t, exec (.acqRptrWrite rq t' w) s = .next t ∧ t.rd R.ACQ_RPTR.RPTR t'.val = v ∧ s.keeps t [.regs] ∧ s.keepsRegs t [R.ACQ_RPTR.RPTR.slot t'.val]) ∧
  (∀ (s : State) (rq : Req) (t' : Fin 16) (w : Word) (v : Nat), s.canWrite rq .ACQ_RPTR t'.val → v = R.ACQ_RPTR.RPTR.part w.toNat → v < s.rd R.ACQ_RING.SLOTS t'.val → s.acqState t'.val = 5 → (s.rd R.ACQ_WPTR.WPTR t'.val + 1) % s.rd R.ACQ_RING.SLOTS t'.val ≠ v →
      ∃ t, exec (.acqRptrWrite rq t' w) s = .next t ∧ t.rd R.ACQ_RPTR.RPTR t'.val = v ∧ t.rd R.ACQ_CTL.STATE t'.val = 1) ∧
  ∀ (s : State) (f : Fin 64) (t' : Fin 16) (w : Word), s.canWrite (.fn f) .ACQ_RPTR t'.val → s.rd R.ACQ_RING.SLOTS t'.val ≤ R.ACQ_RPTR.RPTR.part w.toNat →
    ∃ t, exec (.acqRptrWrite (.fn f) t' w) s = .next t ∧ t.rd R.ACQ_RPTR.RPTR t'.val = s.rd R.ACQ_RPTR.RPTR t'.val ∧ t.rd R.ACQ_CTL.STATE t'.val = s.rd R.ACQ_CTL.STATE t'.val ∧ t.rd R.HOST_REFUSE.COUNT f.val = min (s.rd R.HOST_REFUSE.COUNT f.val + 1) (2 ^ R.HOST_REFUSE.COUNT.width - 1)

/-- Octet ADCs and SMUs (R316, R317, R324 to R334): a GO starts the sequence at entry 0 or counts as missed, a STOP ends it, a slot settles or converts, a finished entry delivers its mean to the host FIFO and moves the sequence on, a full FIFO loses the result, a read takes the oldest one with its time, an SMU averages its conversions in the same way, and its compliance and sense faults set their bits and raise their source. -/
def Obligations.SourceMeasurements : Prop :=
  (∀ (s : State) (rq : Req) (o : Fin 128) (w : Word) (md : Nat), s.canWrite rq .ADC_CTL o.val → (R.ADC_CTL.TRIG.part w.toNat = 0 ∨ R.ADC_CTL.TRIG.part w.toNat = 3) → md = R.ADC_CTL.MODE.part w.toNat → (md = 1 ∨ md = 2) → s.adcNone o.val = false → (s.rd R.ADC_STATUS.BUSY o.val = 0 ∨ R.ADC_CTL.STOP.part w.toNat = 1) →
      ∃ t, exec (.adcGo rq o w) s = .next t ∧ t.rd R.ADC_CTL.MODE o.val = md ∧ t.rd R.ADC_STATUS.BUSY o.val = 1 ∧ t.rd R.ADC_STATUS.ENTRY o.val = 0 ∧ (t.adc o.val).settle = s.rd R.ADC_SEQ_A.SETTLE (16 * o.val) ∧ (t.adc o.val).fifo = (s.adc o.val).fifo ∧ t.rd R.ADC_STATUS.TRIG_MISSED o.val = s.rd R.ADC_STATUS.TRIG_MISSED o.val) ∧
  (∀ (s : State) (rq : Req) (o : Fin 128) (w : Word), s.canWrite rq .ADC_CTL o.val → R.ADC_CTL.STOP.part w.toNat = 0 → (R.ADC_CTL.TRIG.part w.toNat = 0 ∨ R.ADC_CTL.TRIG.part w.toNat = 3) → (R.ADC_CTL.MODE.part w.toNat = 1 ∨ R.ADC_CTL.MODE.part w.toNat = 2) → s.adcNone o.val = false → s.rd R.ADC_STATUS.BUSY o.val = 1 →
      ∃ t, exec (.adcGo rq o w) s = .next t ∧ t.rd R.ADC_STATUS.TRIG_MISSED o.val = min (s.rd R.ADC_STATUS.TRIG_MISSED o.val + 1) (2 ^ R.ADC_STATUS.TRIG_MISSED.width - 1) ∧ t.rd R.ADC_STATUS.ENTRY o.val = s.rd R.ADC_STATUS.ENTRY o.val ∧ t.adcs = s.adcs ∧ t.rd R.ADC_STATUS.BUSY o.val = 1) ∧
  (∀ (s : State) (f : Fin 64) (o : Fin 128) (w : Word), s.canWrite (.fn f) .ADC_CTL o.val → s.adcNone o.val = true →
      ∃ t, exec (.adcGo (.fn f) o w) s = .next t ∧ t.rd R.HOST_REFUSE.COUNT f.val = min (s.rd R.HOST_REFUSE.COUNT f.val + 1) (2 ^ R.HOST_REFUSE.COUNT.width - 1) ∧ s.keeps t [.regs] ∧ s.keepsFields t refuseFields) ∧
  (∀ (s : State) (rq : Req) (o : Fin 128) (w : Word), s.canWrite rq .ADC_CTL o.val → s.adcNone o.val = false → s.rd R.ADC_STATUS.BUSY o.val = 0 →
      ((R.ADC_CTL.TRIG.part w.toNat = 1 ∨ R.ADC_CTL.TRIG.part w.toNat = 2) ∨ R.ADC_CTL.MODE.part w.toNat = 0 ∨ R.ADC_CTL.MODE.part w.toNat = 3) →
      ∃ t, exec (.adcGo rq o w) s = .next t ∧ t.rd R.ADC_STATUS.BUSY o.val = 0 ∧ t.adcs = s.adcs ∧ t.rd R.ADC_CTL.MODE o.val = R.ADC_CTL.MODE.part w.toNat ∧ t.rd R.ADC_STATUS.TRIG_MISSED o.val = s.rd R.ADC_STATUS.TRIG_MISSED o.val) ∧
  (∀ (s : State) (rq : Req) (o : Fin 128) (w : Word), s.canWrite rq .ADC_CTL o.val → R.ADC_CTL.GO.part w.toNat = 0 → s.rd R.ADC_STATUS.BUSY o.val = 1 →
      ∃ t, exec (.adcStop rq o w) s = .next t ∧ t.rd R.ADC_STATUS.BUSY o.val = 0 ∧ (t.adc o.val).mean = none ∧ (t.adc o.val).settle = 0 ∧ (t.adc o.val).fifo = (s.adc o.val).fifo ∧ t.rd R.ADC_CTL.MODE o.val = R.ADC_CTL.MODE.part w.toNat) ∧
  (∀ (s : State) (o : Fin 128) (code sub : Nat), s.adcGone o.val = false → s.rd R.ADC_STATUS.BUSY o.val = 1 → s.fl R.OCT_STATUS.ADC_LENDING o.val = false → 0 < (s.adc o.val).settle →
      ∃ t, exec (.adcSlot o code sub) s = .next t ∧ (t.adc o.val).settle = (s.adc o.val).settle - 1 ∧ (t.adc o.val).mean = (s.adc o.val).mean ∧ (t.adc o.val).fifo = (s.adc o.val).fifo ∧ s.keeps t [.adcs]) ∧
  (∀ (s : State) (o : Fin 128) (code sub : Nat), s.adcGone o.val = true ∨ (s.fl R.ADC_STATUS.BUSY o.val = false ∧ (s.fl R.OCT_STATUS.ADC_LENDING o.val = false ∨ s.fl R.ADC_STATUS.BUSY (Nat.xor o.val 1) = false)) →
      ∃ t, exec (.adcSlot o code sub) s = .next t ∧ s.keeps t []) ∧
  (∀ (s : State) (o : Fin 128) (code sub : Nat), s.adcGone o.val = false → s.rd R.ADC_STATUS.BUSY o.val = 1 → s.fl R.OCT_STATUS.ADC_LENDING o.val = false → (s.adc o.val).settle = 0 → (s.adc o.val).mean = none → code < 2 ^ 17 →
      s.rd R.ADC_SEQ_A.AVG_LOG2 (16 * o.val + s.rd R.ADC_STATUS.ENTRY o.val) ≠ 0 →
      ∃ t, exec (.adcSlot o code sub) s = .next t ∧ ((t.adc o.val).mean.map fun m => (m.done, m.sum)) = some (1, (code : Int)) ∧ (t.adc o.val).fifo = (s.adc o.val).fifo ∧ t.rd R.ADC_STATUS.ENTRY o.val = s.rd R.ADC_STATUS.ENTRY o.val ∧ s.keeps t [.adcs]) ∧
  (∀ (s : State) (o : Fin 128) (code sub e i l L : Nat) (bad : Bool), s.adcGone o.val = false → s.rd R.ADC_STATUS.BUSY o.val = 1 → s.fl R.OCT_STATUS.ADC_LENDING o.val = false → (s.adc o.val).settle = 0 → (s.adc o.val).mean = none →
      e = s.rd R.ADC_STATUS.ENTRY o.val → i = 16 * o.val + e → s.rd R.ADC_SEQ_A.AVG_LOG2 i = 0 → s.rd R.ADC_SEQ_A.DEST i = 0 → (s.adc o.val).fifo.length < 64 → l = s.rd R.ADC_SEQ_A.LANE i → L = 8 * o.val + l →
      bad = (!s.ppmuOn L || (s.dac (9 * L + 8)).clamped || decide (code % 2 ^ 18 = 2 ^ 17 - 1) || decide (code % 2 ^ 18 = 2 ^ 17)) →
      ∃ t, exec (.adcSlot o code sub) s = .next t ∧ (t.adc o.val).fifo = (s.adc o.val).fifo ++ [⟨code % 2 ^ 18 + e * 2 ^ 18 + l * 2 ^ 22 + s.leff R.LANE_PPMU_CTL.RANGE L * 2 ^ 25 + b2n (s.leff R.LANE_PPMU_CTL.MODE L ≠ 0) * 2 ^ 28 +
          b2n (bitAt (s.rd R.OCT_PPMU_COMPL.IN_COMPL o.val) l) * 2 ^ 29 + b2n bad * 2 ^ 30 + 2 ^ 31, s.stampAfter sub⟩] ∧ t.rd R.ADC_STATUS.FIFO_COUNT o.val = (s.adc o.val).fifo.length + 1 ∧
        (e < s.rd R.ADC_CTL.LEN_M1 o.val → t.rd R.ADC_STATUS.ENTRY o.val = e + 1 ∧ t.rd R.ADC_STATUS.BUSY o.val = 1 ∧ (t.adc o.val).settle = s.rd R.ADC_SEQ_A.SETTLE (16 * o.val + (e + 1))) ∧
        (s.rd R.ADC_CTL.LEN_M1 o.val ≤ e → s.rd R.ADC_CTL.MODE o.val = 2 → t.rd R.ADC_STATUS.ENTRY o.val = 0 ∧ t.rd R.ADC_STATUS.BUSY o.val = 1) ∧
        (s.rd R.ADC_CTL.LEN_M1 o.val ≤ e → s.rd R.ADC_CTL.MODE o.val = 1 → t.rd R.ADC_STATUS.BUSY o.val = 0 ∧ (320 + 4 * o.val + 3, 0) ∈ t.hub.asserted)) ∧
  (∀ (s : State) (o : Fin 128) (code sub i : Nat), s.adcGone o.val = false → s.rd R.ADC_STATUS.BUSY o.val = 1 → s.fl R.OCT_STATUS.ADC_LENDING o.val = false → (s.adc o.val).settle = 0 → (s.adc o.val).mean = none →
      i = 16 * o.val + s.rd R.ADC_STATUS.ENTRY o.val → s.rd R.ADC_SEQ_A.AVG_LOG2 i = 0 → s.rd R.ADC_SEQ_A.DEST i = 0 → 64 ≤ (s.adc o.val).fifo.length →
      ∃ t, exec (.adcSlot o code sub) s = .next t ∧ (t.adc o.val).fifo = (s.adc o.val).fifo ∧ t.rd R.ADC_LOST.LOST o.val = min (s.rd R.ADC_LOST.LOST o.val + 1) (2 ^ R.ADC_LOST.LOST.width - 1) ∧ (s.rd R.ADC_LOST.LOST o.val = 0 → (320 + 4 * o.val + 3, 0) ∈ t.hub.asserted)) ∧
  (∀ (s : State) (rq : Req) (o : Fin 128) (r : FifoRes) (l : List FifoRes), s.reachable rq = true → s.mayRead rq .ADC_FIFO o.val = true → (s.adc o.val).fifo = r :: l → l.length < 64 →
      ∃ t, exec (.adcFifoRead rq o) s = .next t ∧ t.out = [.word r.word] ∧ (t.adc o.val).fifo = l ∧ t.rd R.ADC_STATUS.FIFO_COUNT o.val = l.length ∧ t.rd R.ADC_FIFO_TIME_LO.TIME_LO o.val = r.time % 2 ^ 32 ∧ t.rd R.ADC_FIFO_TIME_HI.TIME_HI o.val = r.time / 2 ^ 32 % 2 ^ R.ADC_FIFO_TIME_HI.TIME_HI.width) ∧
  (∀ (s : State) (rq : Req) (o : Fin 128), s.reachable rq = true → s.mayRead rq .ADC_FIFO o.val = true → (s.adc o.val).fifo = [] →
      ∃ t, exec (.adcFifoRead rq o) s = .next t ∧ t.out = [.word 0] ∧ s.keeps t []) ∧
  (∀ (s : State) (rq : Req) (i : Fin 136) (r : FifoRes) (l : List FifoRes), s.reachable rq = true → s.mayRead rq .SMU_FIFO i.val = true → (s.smu i.val).fifo = r :: l →
      ∃ t, exec (.smuFifoRead rq i) s = .next t ∧ t.out = [.word r.word] ∧ (t.smu i.val).fifo = l ∧ t.rd R.SMU_FIFO_TIME_LO.TIME_LO i.val = r.time % 2 ^ 32 ∧ t.rd R.SMU_FIFO_TIME_HI.TIME_HI i.val = r.time / 2 ^ 32 % 2 ^ R.SMU_FIFO_TIME_HI.TIME_HI.width) ∧
  (∀ (s : State) (rq : Req) (i : Fin 136), s.reachable rq = true → s.mayRead rq .SMU_FIFO i.val = true → (s.smu i.val).fifo = [] →
      ∃ t, exec (.smuFifoRead rq i) s = .next t ∧ t.out = [.word 0] ∧ s.keeps t []) ∧
  (∀ (s : State) (i : Fin 136) (on : Bool), ∃ t, exec (.smuCompliance i on) s = .next t ∧ t.fl R.SMU_STATUS.IN_COMPLIANCE i.val = on ∧
        (on = true → s.fl R.SMU_STATUS.IN_COMPLIANCE i.val = false → t.fl R.SMU_STATUS.COMPLIANCE_HIT i.val = true ∧ (i.val < 128 → t.hub.asserted = s.hub.asserted ++ [(320 + 4 * i.val + 2, 0)])) ∧
        ((on = false ∨ s.fl R.SMU_STATUS.IN_COMPLIANCE i.val = true) → t.fl R.SMU_STATUS.COMPLIANCE_HIT i.val = s.fl R.SMU_STATUS.COMPLIANCE_HIT i.val ∧ t.hub = s.hub)) ∧
  (∀ (s : State) (i : Fin 136), s.smuServed i.val = true → (s.sensePoint i.val).isSome = true → s.fl R.SMU_STATUS.LOCAL_SENSE i.val = false →
      ∃ t, exec (.smuSenseFault i) s = .next t ∧ t.fl R.SMU_STATUS.SENSE_FAULT i.val = true ∧ t.fl R.SMU_STATUS.LOCAL_SENSE i.val = true ∧ (i.val < 128 → t.hub.asserted = s.hub.asserted ++ [(320 + 4 * i.val + 2, 0)]) ∧ s.keepsRegs t [R.SMU_STATUS.SENSE_FAULT.slot i.val, R.SMU_STATUS.LOCAL_SENSE.slot i.val]) ∧
  (∀ (s : State) (i : Fin 136), s.smuServed i.val = false ∨ (s.sensePoint i.val).isNone = true ∨ s.fl R.SMU_STATUS.LOCAL_SENSE i.val = true → ∃ t, exec (.smuSenseFault i) s = .next t ∧ s.keeps t []) ∧
  (∀ (s : State) (rq : Req) (i : Fin 136) (w : Word), s.canWrite rq .SMU_STATUS i.val →
      ∃ t, exec (.smuSenseRestore rq i w) s = .next t ∧ t.fl R.SMU_STATUS.SENSE_FAULT i.val = false ∧ t.fl R.SMU_STATUS.LOCAL_SENSE i.val = false ∧ s.keeps t [.regs]) ∧
  (∀ (s : State) (i : Fin 136) (code : Nat), s.fl R.SMU_MEAS.RUN i.val = true → s.smuServed i.val = true → s.rd R.SMU_MEAS.QTY i.val = 0 → (s.smu i.val).mean = none → s.rd R.SMU_MEAS.AVG_LOG2 i.val ≠ 0 → code < 2 ^ 19 →
      ∃ t, exec (.smuConversion i code) s = .next t ∧ ((t.smu i.val).mean.map fun m => (m.done, m.sum)) = some (1, (code : Int)) ∧ (t.smu i.val).fifo = (s.smu i.val).fifo ∧ s.keeps t [.smus]) ∧
  (∀ (s : State) (i : Fin 136) (code : Nat) (bad : Bool), s.fl R.SMU_MEAS.RUN i.val = true → s.smuServed i.val = true → s.rd R.SMU_MEAS.QTY i.val = 0 → (s.smu i.val).mean = none → s.rd R.SMU_MEAS.AVG_LOG2 i.val = 0 → s.rd R.SMU_MEAS.DEST i.val = 0 → (s.smu i.val).fifo.length < 64 →
      bad = (decide (s.rd R.SMU_CTL.FMODE i.val = 2) || (s.dac (10000 + i.val)).clamped || s.fl R.SMU_STATUS.LOCAL_SENSE i.val || decide (code % 2 ^ 20 = 2 ^ 19 - 1) || decide (code % 2 ^ 20 = 2 ^ 19)) →
      ∃ t, exec (.smuConversion i code) s = .next t ∧ (t.smu i.val).fifo = (s.smu i.val).fifo ++ [⟨code % 2 ^ 20 + s.rd R.SMU_CTL.IRANGE i.val * 2 ^ 20 + b2n (s.fl R.SMU_STATUS.IN_COMPLIANCE i.val) * 2 ^ 24 + b2n bad * 2 ^ 25 + 2 ^ 31, s.stamp⟩] ∧ (t.smu i.val).mean = none ∧ (s.fl R.SMU_MON_CTL.EN i.val = false → t.hub = s.hub)) ∧
  (∀ (s : State) (i : Fin 136) (code : Nat), s.fl R.SMU_MEAS.RUN i.val = false ∨ s.smuServed i.val = false → ∃ t, exec (.smuConversion i code) s = .next t ∧ s.keeps t []) ∧
  ∀ (s : State) (i : Fin 136) (code : Nat), s.fl R.SMU_MEAS.RUN i.val = true → s.smuServed i.val = true → s.rd R.SMU_MEAS.QTY i.val = 0 → (s.smu i.val).mean = none → s.rd R.SMU_MEAS.AVG_LOG2 i.val = 0 → s.rd R.SMU_MEAS.DEST i.val = 0 → 64 ≤ (s.smu i.val).fifo.length →
    ∃ t, exec (.smuConversion i code) s = .next t ∧ (t.smu i.val).fifo = (s.smu i.val).fifo ∧ t.rd R.SMU_LOST.LOST i.val = min (s.rd R.SMU_LOST.LOST i.val + 1) (2 ^ R.SMU_LOST.LOST.width - 1) ∧ (s.rd R.SMU_LOST.LOST i.val = 0 → i.val < 128 → (320 + 4 * i.val + 3, 0) ∈ t.hub.asserted)

/-- A DPS channel (R337 to R350): a write of DPS_CTL is held until the next DAC tick, a sample reports its codes and counts the limit until its action opens the output or folds it, the hardware trip opens the gang of the channel, a sense fault moves it to local sense and its clear moves it back, a restart closes the output again from the zero code, and the power estimate of a quadrant warns after 100 estimates over the limit. -/
def Obligations.SupplyChannels : Prop :=
  (∀ (s : State) (rq : Req) (d : Fin 36) (w : Word), s.canWrite rq .DPS_CTL d.val → s.gangMember d.val = false →
      ∃ t, exec (.dpsOutEn rq d w) s = .next t ∧ t.rd R.DPS_CTL.OUT_EN d.val = R.DPS_CTL.OUT_EN.part w.toNat ∧ t.rd R.DPS_CTL.IRANGE d.val = R.DPS_CTL.IRANGE.part w.toNat ∧
        t.deff R.DPS_CTL.OUT_EN d.val = s.deff R.DPS_CTL.OUT_EN d.val ∧ t.deff R.DPS_CTL.IRANGE d.val = s.deff R.DPS_CTL.IRANGE d.val ∧ (t.dps d.val).closed = (s.dps d.val).closed ∧ (∀ j, j ≠ d.val → t.dps j = s.dps j) ∧ s.keeps t [.regs, .dpss, .cals]) ∧
  (∀ (s : State) (f : Fin 64) (d : Fin 36) (w : Word), s.canWrite (.fn f) .DPS_CTL d.val → s.gangMember d.val = true →
      ∃ t, exec (.dpsOutEn (.fn f) d w) s = .next t ∧ t.dpss = s.dpss ∧ t.rd R.DPS_CTL.OUT_EN d.val = s.rd R.DPS_CTL.OUT_EN d.val ∧ t.rd R.HOST_REFUSE.COUNT f.val = min (s.rd R.HOST_REFUSE.COUNT f.val + 1) (2 ^ R.HOST_REFUSE.COUNT.width - 1)) ∧
  (∀ (s : State) (d : Fin 36) (i v : Int) (limiting : Bool), (s.dps d.val).closed = false → (s.dps d.val).justOpen = false → ∃ t, exec (.dpsSample d i v limiting) s = .next t ∧ s.keeps t []) ∧
  (∀ (s : State) (d : Fin 36) (i v : Int) (bad : Bool), (s.dps d.val).closed = true → -32768 ≤ i → i ≤ 32767 → -32768 ≤ v → v ≤ 32767 → bad = (s.dpsRanged d.val || (s.dac (11000 + s.dpsLead d.val)).clamped || s.dpsLocal d.val) →
      s.deff R.DPS_MON_I_CTL.EN d.val = 0 → s.deff R.DPS_MON_V_CTL.EN d.val = 0 →
      ∃ t, exec (.dpsSample d i v false) s = .next t ∧ t.rdS R.DPS_MEAS_I.CODE d.val = i ∧ t.rdS R.DPS_MEAS_V.CODE d.val = v ∧ t.fl R.DPS_MEAS_I.SUSPECT d.val = (bad || railed 16 i) ∧ t.fl R.DPS_MEAS_V.SUSPECT d.val = (bad || railed 16 v) ∧
        t.fl R.DPS_STATUS.IN_LIMIT d.val = false ∧ (t.dps d.val).count = 0 ∧ (t.dps d.val).closed = true ∧ t.hub = s.hub) ∧
  (∀ (s : State) (d : Fin 36) (i v : Int), (s.dps d.val).closed = true → s.deff R.DPS_MON_I_CTL.EN d.val = 0 → s.deff R.DPS_MON_V_CTL.EN d.val = 0 → s.fl R.DPS_STATUS.IN_LIMIT d.val = false → (s.dps d.val).count + 1 < s.dpsDelay (s.dpsLead d.val) →
      ∃ t, exec (.dpsSample d i v true) s = .next t ∧ t.fl R.DPS_STATUS.IN_LIMIT d.val = true ∧ t.fl R.DPS_STATUS.LIMIT_HIT d.val = true ∧ (d.val < 32 → t.hub.asserted = s.hub.asserted ++ [(832 + 2 * d.val, 0)]) ∧ (t.dps d.val).count = min ((s.dps d.val).count + 1) 255 ∧ (t.dps d.val).closed = true) ∧
  (∀ (s : State) (d : Fin 32) (i v : Int), (s.dps d.val).closed = true → s.rd R.DPS_GANG.MEMBERS d.val = 0 → s.deff R.DPS_MON_I_CTL.EN d.val = 0 → s.deff R.DPS_MON_V_CTL.EN d.val = 0 → s.fl R.DPS_STATUS.IN_LIMIT d.val = true → s.deff R.DPS_LIMIT.ACTION d.val = 2 → (s.dps d.val).count + 1 = s.dpsDelay d.val → (s.dps d.val).count < 255 →
      ∃ t, exec (.dpsSample ⟨d.val, by omega⟩ i v true) s = .next t ∧ t.fl R.DPS_STATUS.TRIPPED d.val = true ∧ (t.dps d.val).closed = false ∧ (t.dac (11000 + d.val)).present = 0 ∧ t.hub.asserted = s.hub.asserted ++ [(832 + 2 * d.val, 0)]) ∧
  (∀ (s : State) (d : Fin 32) (i v : Int), (s.dps d.val).closed = true → s.rd R.DPS_GANG.MEMBERS d.val = 0 → s.deff R.DPS_MON_I_CTL.EN d.val = 0 → s.deff R.DPS_MON_V_CTL.EN d.val = 0 → s.fl R.DPS_STATUS.IN_LIMIT d.val = true → s.deff R.DPS_LIMIT.ACTION d.val = 1 → s.fl R.DPS_STATUS.FOLDED d.val = false →
      (s.dps d.val).count + 1 = s.dpsDelay d.val → (s.dps d.val).count < 255 →
      ∃ t, exec (.dpsSample ⟨d.val, by omega⟩ i v true) s = .next t ∧ t.fl R.DPS_STATUS.FOLDED d.val = true ∧ (t.dps d.val).closed = true ∧ t.hub.asserted = s.hub.asserted ++ [(832 + 2 * d.val, 0)]) ∧
  (∀ (s : State) (d : Fin 36), ((s.dps d.val).closed = true ∨ (s.dps d.val).justOpen = true) →
      ∃ t, exec (.dpsHwTrip d) s = .next t ∧ t.fl R.DPS_STATUS.HW_TRIP (s.dpsLead d.val) = true ∧ (∀ m ∈ s.dpsMembers (s.dpsLead d.val), (t.dps m).closed = false ∧ ((s.dps m).closed = true → (t.dac (11000 + m)).present = 0)) ∧
        (s.dpsLead d.val < 32 → t.hub.asserted = s.hub.asserted ++ [(832 + 2 * s.dpsLead d.val, 0)]) ∧ (∀ j, j ∉ s.dpsMembers (s.dpsLead d.val) → t.dps j = s.dps j)) ∧
  (∀ (s : State) (d : Fin 36), (s.dps d.val).closed = false → (s.dps d.val).justOpen = false → ∃ t, exec (.dpsHwTrip d) s = .next t ∧ s.keeps t []) ∧
  (∀ (s : State) (d : Fin 36), s.dpsLocal d.val = false →
      ∃ t, exec (.dpsSenseFault d) s = .next t ∧ t.fl R.DPS_STATUS.SENSE_FAULT (s.dpsLead d.val) = true ∧ (∀ m ∈ s.dpsMembers (s.dpsLead d.val), t.fl R.DPS_STATUS.LOCAL_SENSE m = true) ∧ t.dpss = s.dpss ∧
        (s.dpsLead d.val < 32 → t.hub.asserted = s.hub.asserted ++ [(832 + 2 * s.dpsLead d.val, 0)])) ∧
  (∀ (s : State) (d : Fin 36), s.dpsLocal d.val = true → ∃ t, exec (.dpsSenseFault d) s = .next t ∧ s.keeps t []) ∧
  (∀ (s : State) (rq : Req) (d : Fin 36) (w : Word), s.canWrite rq .DPS_STATUS d.val → (dpsRestartFlags.any fun f => s.fl f d.val && f.acts (Nat.lor w.toNat 32) 15) = false →
      ∃ t, exec (.dpsSenseRestore rq d w) s = .next t ∧ t.fl R.DPS_STATUS.SENSE_FAULT d.val = false ∧ (∀ m ∈ s.dpsMembers d.val, t.fl R.DPS_STATUS.LOCAL_SENSE m = false) ∧ t.dpss = s.dpss ∧ s.keeps t [.regs]) ∧
  (∀ (s : State) (rq : Req) (d : Fin 36) (w : Word), s.canWrite rq .DPS_STATUS d.val → s.gangMember d.val = false → (dpsRestartFlags.any fun f => s.fl f d.val && f.acts w.toNat 15) = true →
      ([R.DPS_STATUS.TRIPPED, R.DPS_STATUS.HW_TRIP, R.DPS_STATUS.MON_OPENED, R.DPS_STATUS.SUPPLY_LOSS].all fun f => !s.fl f d.val || f.acts w.toNat 15) = true →
      ∃ t, exec (.dpsRestart rq d w) s = .next t ∧ (dpsRestartFlags.all fun f => !f.acts w.toNat 15 || !t.fl f d.val) = true ∧
        ∀ m ∈ s.dpsMembers d.val, (t.dps m).count = 0 ∧ (t.dps m).closed = ((s.dps m).closed || (t.dpsWanted m && t.fl R.DPS_CTL.OUT_EN d.val))) ∧
  (∀ (s : State) (rq : Req) (d : Fin 36) (w : Word), s.canWrite rq .DPS_STATUS d.val → ([R.DPS_STATUS.TRIPPED, R.DPS_STATUS.HW_TRIP, R.DPS_STATUS.MON_OPENED, R.DPS_STATUS.SUPPLY_LOSS].any fun f => s.fl f d.val && !f.acts w.toNat 15) = true →
      ∃ t, exec (.dpsRestart rq d w) s = .next t ∧ (dpsRestartFlags.all fun f => !f.acts w.toNat 15 || !t.fl f d.val) = true ∧ ([R.DPS_STATUS.TRIPPED, R.DPS_STATUS.HW_TRIP, R.DPS_STATUS.MON_OPENED, R.DPS_STATUS.SUPPLY_LOSS].all fun f => f.acts w.toNat 15 || t.fl f d.val == s.fl f d.val) = true ∧ t.dpss = s.dpss ∧ t.dacs = s.dacs) ∧
  (∀ (s : State) (rq : Req) (d : Fin 36) (w : Word), s.canWrite rq .DPS_STATUS d.val → (dpsRestartFlags.any fun f => s.fl f d.val && f.acts w.toNat 15) = false →
      ∃ t, exec (.dpsRestart rq d w) s = .next t ∧ s.keeps t [.regs]) ∧
  (∀ (s : State) (q : Fin 4), ((List.range 8).map fun c => s.dpsPower (8 * q.val + c)).sum ≤ 3000000000000 * 131072 →
      ∃ t, exec (.dpsPowerEstimate q) s = .next t ∧ (t.dps (8 * q.val)) = { s.dps (8 * q.val) with hot := 0 } ∧ s.keeps t [.dpss]) ∧
  (∀ (s : State) (q : Fin 4), 3000000000000 * 131072 < ((List.range 8).map fun c => s.dpsPower (8 * q.val + c)).sum → (s.dps (8 * q.val)).hot < 99 →
      ∃ t, exec (.dpsPowerEstimate q) s = .next t ∧ (t.dps (8 * q.val)) = { s.dps (8 * q.val) with hot := (s.dps (8 * q.val)).hot + 1 } ∧ s.keeps t [.dpss]) ∧
  (∀ (s : State) (q : Fin 4), 3000000000000 * 131072 < ((List.range 8).map fun c => s.dpsPower (8 * q.val + c)).sum → (s.dps (8 * q.val)).hot = 99 →
      ∃ t, exec (.dpsPowerEstimate q) s = .next t ∧ (∀ c, c < 8 → t.fl R.DPS_STATUS.QUAD_PWR (8 * q.val + c) = true) ∧ t.hub.asserted.length = s.hub.asserted.length + 1 ∧ (t.dps (8 * q.val)).hot = 100) ∧
  ∀ (s : State) (q : Fin 4), 3000000000000 * 131072 < ((List.range 8).map fun c => s.dpsPower (8 * q.val + c)).sum → 99 < (s.dps (8 * q.val)).hot →
    ∃ t, exec (.dpsPowerEstimate q) s = .next t ∧ (t.dps (8 * q.val)) = { s.dps (8 * q.val) with hot := min ((s.dps (8 * q.val)).hot + 1) 101 } ∧ s.keeps t [.dpss]

/-- The segment engine of a tile (R181, R196, R263 to R275): a vector read does nothing on a stopped tile, reads the next row of its segment or an idle vector and moves the cycle and the reference point on by the period, a fixed successor becomes able to start, a stopped tile's lanes return to idle, and a jump request is latched, taken at once in an interruption, or refused. -/
def Obligations.SegmentPlay : Prop :=
  (∀ (s : State) (t' : Fin 16), (s.play t'.val).playing = false → ∃ t, exec (.vectorRead t') s = .next t ∧ s.keeps t []) ∧
  (∀ (s : State) (t' : Fin 16) (p : PlaySt) (e : Nat), p = s.play t'.val → e = s.curEntry t'.val → p.playing = true → p.phase = .seg → p.starving = none → p.samePass = false → p.fresh = false → p.idx + 1 < enLength e → p.idx ≠ enLength e - 16 →
      (s.rd R.SEG_STORE_CFG.UE_POLICY t'.val ≠ 0 ∨ ∀ k, k < 5 → (s.store t'.val).bad' (s.segPlace t'.val e p.idx p.slot).2.1 k ≠ 2) →
      ∃ t, exec (.vectorRead t') s = .next t ∧ (t.play t'.val).idx = p.idx + 1 ∧ (t.play t'.val).phase = .seg ∧ (t.play t'.val).playing = true ∧ (t.play t'.val).cycle = (p.cycle + 1) % 2 ^ 48 ∧ (t.play t'.val).refPoint = p.refPoint + (t.play t'.val).period ∧
        ((t.play t'.val).vecs.getLast?.map fun x => (x.va, x.cycle, x.refPoint)) = some (enStart e + encStep (enEnc e) * p.idx, p.cycle, p.refPoint) ∧ t.rd R.CMP_CYCLE_LO.CYCLE_LO t'.val = p.cycle % 2 ^ 32 ∧ t.rd R.SEG_STATUS.PHASE t'.val = 1) ∧
  (∀ (s : State) (t' : Fin 16) (p : PlaySt) (x : Succ) (e : Nat), p = s.play t'.val → p.playing = true → p.phase = .idle → p.starving = none → p.samePass = false → p.stopAt = 0 → (p.fresh = true ∨ (s.playMates t'.val).length ≤ 1) →
      p.succ = some x → p.go = true → x.entry < 2048 → e = s.entry t'.val x.entry → 16 < enLength e → (s.rd R.SEG_STORE_CFG.UE_POLICY t'.val ≠ 0 ∨ ∀ k, k < 5 → (s.store t'.val).bad' (s.segPlace t'.val e 0 (x.slot.getD 0)).2.1 k ≠ 2) →
      ∃ t, exec (.vectorRead t') s = .next t ∧ t.rd R.SEG_STATUS.CUR_SEG t'.val = x.entry ∧ t.rd R.SEG_ITER.PASS t'.val = 0 ∧ (t.play t'.val).idx = 1 ∧ (t.play t'.val).phase = .seg ∧ (t.play t'.val).succ = none ∧ (t.play t'.val).fresh = false ∧
        (t.play t'.val).queue = (if x.queued then p.queue.drop 1 else p.queue) ∧ (t.play t'.val).refPoint = p.refPoint + (t.play t'.val).period ∧ ((t.play t'.val).vecs.getLast?.map fun v => (v.va, v.cycle, v.refPoint)) = some (enStart e, p.cycle, p.refPoint)) ∧
  (∀ (s : State) (t' : Fin 16) (p : PlaySt), p = s.play t'.val → p.playing = true → p.phase = .idle → p.starving = none → p.samePass = false → p.succ = none → p.stopAt = 0 →
      ∃ t, exec (.vectorRead t') s = .next t ∧ (t.play t'.val).phase = .idle ∧ (t.play t'.val).playing = true ∧ (t.play t'.val).cycle = (p.cycle + 1) % 2 ^ 48 ∧ (t.play t'.val).refPoint = p.refPoint + (t.play t'.val).period ∧ (t.play t'.val).intr = p.intr + 1 ∧ t.rd R.SEG_STATUS.PHASE t'.val = 2) ∧
  (∀ (s : State) (t' : Fin 16) (x : Succ), (s.play t'.val).playing = true → (s.play t'.val).phase = .idle → (s.play t'.val).starving = none → (s.play t'.val).samePass = false → (s.play t'.val).succ = some x →
      ∃ t, exec (.successorStart t') s = .next t ∧ t.play t'.val = { s.play t'.val with go := true } ∧ t.rd R.SEG_STATUS.COMMITTED t'.val = 1 ∧ t.rd R.SEG_STATUS.SUCC_SEG t'.val = x.entry % 2 ^ R.SEG_STATUS.SUCC_SEG.width) ∧
  (∀ (s : State) (t' : Fin 16), (s.play t'.val).starving = none → (s.play t'.val).samePass = false → ((s.play t'.val).playing = false ∨ (s.play t'.val).succ = none) →
      ∃ t, exec (.successorStart t') s = .next t ∧ t.play t'.val = s.play t'.val) ∧
  (∀ (s : State) (t' : Fin 16), (s.play t'.val).playing = false →
      ∃ t, exec (.tileIdleReturn t') s = .next t ∧ (∀ i, i < 64 → (t.lane (64 * t'.val + i)).drv = 0 ∧ (t.lane (64 * t'.val + i)).want = 0 ∧ (t.lane (64 * t'.val + i)).window = 0 ∧ (t.lane (64 * t'.val + i)).cmpWindow = 0 ∧ (t.lane (64 * t'.val + i)).trans = none) ∧ (t.play t'.val).playing = false) ∧
  (∀ (s : State) (t' : Fin 16), (s.play t'.val).playing = true → ∃ t, exec (.tileIdleReturn t') s = .next t ∧ s.keeps t []) ∧
  (∀ (s : State) (rq : Req) (t' : Fin 16) (w : Word) (n : Nat), s.canWrite rq .SEG_JUMP t'.val → n = R.SEG_JUMP.TARGET.part w.toNat → enValid (s.entry t'.val n) = true → s.fl R.SEQ_LOAD.VALID t'.val = true → (s.play t'.val).jump = none → (s.play t'.val).phase = .seg →
      ∃ t, exec (.jumpRequestGo rq t' w) s = .next t ∧ (t.play t'.val).jump = some (n, R.SEG_JUMP.FLUSH.part w.toNat != 0) ∧ (t.play t'.val).succ = (s.play t'.val).succ ∧ (t.play t'.val).queue = (s.play t'.val).queue ∧ t.rd R.SEG_JUMP.PENDING t'.val = 1 ∧ 
        t.rd R.SEG_COUNT.JUMP_LATE t'.val = (if (s.play t'.val).isFinal then min (s.rd R.SEG_COUNT.JUMP_LATE t'.val + 1) (2 ^ R.SEG_COUNT.JUMP_LATE.width - 1) else s.rd R.SEG_COUNT.JUMP_LATE t'.val)) ∧
  (∀ (s : State) (rq : Req) (t' : Fin 16) (w : Word) (n : Nat), s.canWrite rq .SEG_JUMP t'.val → n = R.SEG_JUMP.TARGET.part w.toNat → enValid (s.entry t'.val n) = true → s.fl R.SEQ_LOAD.VALID t'.val = true → (s.play t'.val).jump = none → (s.play t'.val).phase = .idle → (s.play t'.val).samePass = false → (s.play t'.val).succ = none → enStreamed (s.entry t'.val n) = false →
      ∃ t, exec (.jumpRequestGo rq t' w) s = .next t ∧ (t.play t'.val).jump = none ∧ (t.play t'.val).succ = some ⟨n, false, none⟩ ∧ (t.play t'.val).queue = (if R.SEG_JUMP.FLUSH.part w.toNat = 0 then (s.play t'.val).queue else []) ∧ t.rd R.SEG_JUMP.PENDING t'.val = 0) ∧
  (∀ (s : State) (rq : Req) (t' : Fin 16) (w : Word), s.canWrite rq .SEG_JUMP t'.val → (enValid (s.entry t'.val (R.SEG_JUMP.TARGET.part w.toNat)) = false ∨ s.fl R.SEQ_LOAD.VALID t'.val = false ∨ (s.play t'.val).jump ≠ none) →
      ∃ t, exec (.jumpRequestGo rq t' w) s = .next t ∧ t.rd R.SEG_JUMP.REFUSED t'.val = 1 ∧ (t.play t'.val).jump = (s.play t'.val).jump ∧ (t.play t'.val).succ = (s.play t'.val).succ) ∧
  (∀ (s : State) (t' : Fin 16) (n : Nat), s.fl R.SEG_JUMP.SRC_EN t'.val = true → s.cond t'.val (s.rd R.SEG_JUMP.SRC t'.val) = true → (s.play t'.val).srcSample = some false → n = s.rd R.SEG_JUMP.TARGET t'.val → enValid (s.entry t'.val n) = true → s.fl R.SEQ_LOAD.VALID t'.val = true → (s.play t'.val).jump = none → (s.play t'.val).phase = .seg →
      ∃ t, exec (.jumpSrcEdge t') s = .next t ∧ t.play t'.val = { s.play t'.val with srcSample := some true, jump := some (n, s.fl R.SEG_JUMP.FLUSH t'.val) } ∧ t.rd R.SEG_JUMP.PENDING t'.val = 1) ∧
  (∀ (s : State) (t' : Fin 16), s.fl R.SEG_JUMP.SRC_EN t'.val = true → ((s.play t'.val).srcSample ≠ some false ∨ s.cond t'.val (s.rd R.SEG_JUMP.SRC t'.val) = false) →
      ∃ t, exec (.jumpSrcEdge t') s = .next t ∧ t.play t'.val = { s.play t'.val with srcSample := some (s.cond t'.val (s.rd R.SEG_JUMP.SRC t'.val)) } ∧ s.keeps t [.plays]) ∧
  ∀ (s : State) (t' : Fin 16), s.fl R.SEG_JUMP.SRC_EN t'.val = false → ∃ t, exec (.jumpSrcEdge t') s = .next t ∧ s.keeps t []

/-- The boot-flash master (R496 to R505): identification shows what the flash answered, the lock goes to the first that asks and back only from its holder, a command from the holder is sent and BUSY or refused with STATUS 3, a finished command answers or programs by clearing bits, and the aperture reads, programs, ends its polling and times out. -/
def Obligations.BootFlash : Prop :=
  (∀ (s : State) (present : Bool) (id : Nat), s.alive = true →
      ∃ t, exec (.flashIdentify present id) s = .next t ∧ t.rd R.FLS_ID.ID 0 = id % 2 ^ 24 ∧ (t.fl R.FLS_STATUS.PRESENT 0 = true ↔ present = true ∧ 0x14 ≤ bits id 16 8 ∧ bits id 16 8 ≤ 0x1C) ∧ t.out = [.flash [0x66] 0, .flash [0x99] 0, .flash [0x9F] 3] ∧ s.keeps t [.regs]) ∧
  (∀ (s : State) (present : Bool) (id : Nat), s.alive = false → ∃ t, exec (.flashIdentify present id) s = .next t ∧ s.keeps t []) ∧
  (∀ (s : State) (rq : Req), s.canWrite rq .FLS_LOCK 0 → s.rd R.FLS_LOCK.HOLDER 0 = 0 →
      ∃ t, exec (.flashLockReq rq) s = .next t ∧ t.rd R.FLS_LOCK.HOLDER 0 = holderCode rq ∧ t.holds rq = true ∧ t.rd R.FLS_LOCK.REFUSED 0 = s.rd R.FLS_LOCK.REFUSED 0 ∧ s.keepsRegs t [R.FLS_LOCK.HOLDER.slot 0]) ∧
  (∀ (s : State) (rq : Req), s.canWrite rq .FLS_LOCK 0 → s.rd R.FLS_LOCK.HOLDER 0 ≠ 0 →
      ∃ t, exec (.flashLockReq rq) s = .next t ∧ t.rd R.FLS_LOCK.REFUSED 0 = 1 ∧ s.keepsRegs t [R.FLS_LOCK.REFUSED.slot 0]) ∧
  (∀ (s : State) (rq : Req), s.canWrite rq .FLS_LOCK 0 → s.holds rq = true →
      ∃ t, exec (.flashLockRelease rq) s = .next t ∧ t.rd R.FLS_LOCK.HOLDER 0 = 0 ∧ s.keepsRegs t [R.FLS_LOCK.HOLDER.slot 0]) ∧
  (∀ (s : State) (f : Fin 64), s.canWrite (.fn f) .FLS_LOCK 0 → s.holds (.fn f) = false →
      ∃ t, exec (.flashLockRelease (.fn f)) s = .next t ∧ t.rd R.FLS_LOCK.HOLDER 0 = s.rd R.FLS_LOCK.HOLDER 0 ∧ t.rd R.HOST_REFUSE.COUNT f.val = min (s.rd R.HOST_REFUSE.COUNT f.val + 1) (2 ^ R.HOST_REFUSE.COUNT.width - 1)) ∧
  (∀ (s : State) (rq : Req) (w : Word) (n len : Nat), s.canWrite rq .FLS_CMD 0 → s.holds rq = true → s.rd R.FLS_STATUS.BUSY 0 = 0 → n = R.FLS_CMD.ADDR_BYTES.part w.toNat → (n = 0 ∨ n = 3 ∨ n = 4) → len = R.FLS_CMD.DATA_LEN.part w.toNat → len ≤ 256 →
      ∃ t, exec (.flashCmdGo rq w) s = .next t ∧ t.rd R.FLS_CMD.STATUS 0 = 1 ∧ t.rd R.FLS_STATUS.BUSY 0 = 1 ∧
        t.out = (if R.FLS_CMD.WREN.part w.toNat = 1 then [.flash [0x06] 0] else []) ++ [.flash (R.FLS_CMD.OPCODE.part w.toNat :: beBytes n (s.rd R.FLS_ADDR.ADDR 0 % 2 ^ (8 * n)) ++ (if R.FLS_CMD.DIR.part w.toNat = 1 then [] else (List.range len).map s.flsByte)) (if R.FLS_CMD.DIR.part w.toNat = 1 then len else 0)] ∧
        (t.flash.cmd.map fun c => (c.opcode, c.addr, c.len, c.fromFlash)) = some (R.FLS_CMD.OPCODE.part w.toNat, s.rd R.FLS_ADDR.ADDR 0 % 2 ^ (8 * n), len, decide (R.FLS_CMD.DIR.part w.toNat = 1)) ∧ t.flash.cells = s.flash.cells ∧ t.flash.buffer = (if R.FLS_CMD.DIR.part w.toNat = 1 then s.flash.buffer else none)) ∧
  (∀ (s : State) (f : Fin 64) (w : Word), s.canWrite (.fn f) .FLS_CMD 0 → (s.holds (.fn f) = false ∨ s.rd R.FLS_STATUS.BUSY 0 = 1) →
      ∃ t, exec (.flashCmdGo (.fn f) w) s = .next t ∧ t.flash = s.flash ∧ t.out = [] ∧ t.rd R.FLS_CMD.STATUS 0 = s.rd R.FLS_CMD.STATUS 0 ∧ t.rd R.HOST_REFUSE.COUNT f.val = min (s.rd R.HOST_REFUSE.COUNT f.val + 1) (2 ^ R.HOST_REFUSE.COUNT.width - 1)) ∧
  (∀ (s : State) (rq : Req) (w : Word) (n len : Nat), s.canWrite rq .FLS_CMD 0 → s.holds rq = true → s.rd R.FLS_STATUS.BUSY 0 = 0 → n = R.FLS_CMD.ADDR_BYTES.part w.toNat → len = R.FLS_CMD.DATA_LEN.part w.toNat → ((n ≠ 0 ∧ n ≠ 3 ∧ n ≠ 4) ∨ 256 < len) →
      ∃ t, exec (.flashCmdGo rq w) s = .next t ∧ t.rd R.FLS_CMD.STATUS 0 = 3 ∧ t.rd R.FLS_STATUS.BUSY 0 = 0 ∧ t.out = [] ∧ t.flash = s.flash) ∧
  (∀ (s : State) (status : Byte) (bytes : List Byte) (c : FlashCmd), s.flash.cmd = some c → (c.poll = false ∨ status.toNat % 2 = 0) → c.fromFlash = true → c.len ≤ 256 →
      ∃ t, exec (.flashCmdDone status bytes) s = .next t ∧ (∀ j, j < c.len → t.flsByte j = (if (c.opcode = 0x0B ∧ c.addrBytes = 3 ∧ c.dummy = 8) ∨ (c.opcode = 0x0C ∧ c.addrBytes = 4 ∧ c.dummy = 8) then (s.flashRead c.addr c.len).getD j 0 % 256 else (bytes.getD j 0xFF).toNat)) ∧ t.rd R.FLS_CMD.STATUS 0 = 2 ∧ t.rd R.FLS_STATUS.BUSY 0 = 0 ∧ t.flash = { s.flash with cmd := none } ∧ (c.poll = true → t.rd R.FLS_STATUS.LAST_SR 0 = status.toNat)) ∧
  (∀ (s : State) (status : Byte) (bytes : List Byte) (c : FlashCmd) (b : Nat), s.flash.cmd = some c → (c.poll = false ∨ status.toNat % 2 = 0) → c.fromFlash = false → c.opcode = 0x02 → c.wren = true → c.data = [b] →
      ∃ t, exec (.flashCmdDone status bytes) s = .next t ∧ smGet 0xFF t.flash.cells c.addr = Nat.land (smGet 0xFF s.flash.cells c.addr) (b % 256) ∧ (∀ a, a ≠ c.addr → smGet 0xFF t.flash.cells a = smGet 0xFF s.flash.cells a) ∧ t.flash.wel = false ∧ t.flash.cmd = none ∧ t.rd R.FLS_CMD.STATUS 0 = 2 ∧ t.rd R.FLS_STATUS.BUSY 0 = 0) ∧
  (∀ (s : State) (status : Byte) (bytes : List Byte) (c : FlashCmd), s.flash.cmd = some c → c.poll = true → status.toNat % 2 = 1 → ∃ t, exec (.flashCmdDone status bytes) s = .next t ∧ s.keeps t []) ∧
  (∀ (s : State) (status : Byte) (bytes : List Byte), s.flash.cmd = none → ∃ t, exec (.flashCmdDone status bytes) s = .next t ∧ s.keeps t []) ∧
  (∀ (s : State) (rq : Req) (off n : Nat) (long : Bool), s.reachable rq = true → s.winMay rq = true → 0x8000 ≤ off → off < 0x10000 → n = (if long then 8 else 4) → off % n = 0 → s.fl R.FLS_STATUS.BUSY 0 = false → s.fl R.FLS_STATUS.PRESENT 0 = true → s.winAddr off < s.flashReach → s.flashWide = false →
      ∃ t, exec (.flashWindowRead rq off long) s = .next t ∧ t.out = [.flash (0x0B :: beBytes 3 (s.winAddr off) ++ [0]) n, .data (s.flashRead (s.winAddr off) n)] ∧ s.keeps t []) ∧
  (∀ (s : State) (rq : Req) (off n : Nat) (long : Bool), s.reachable rq = true → s.winMay rq = true → 0x8000 ≤ off → off < 0x10000 → n = (if long then 8 else 4) → off % n = 0 → s.fl R.FLS_STATUS.BUSY 0 = false → s.fl R.FLS_STATUS.PRESENT 0 = true → s.winAddr off < s.flashReach → s.flashWide = true →
      ∃ t, exec (.flashWindowRead rq off long) s = .next t ∧ t.out.getLast? = some (.data (s.flashRead (s.winAddr off) n)) ∧ s.keeps t [.flash] ∧ (s.flash.buffer = none → t.out.head? = some (.flash (0x0C :: beBytes 4 (s.winAddr off) ++ [0]) n))) ∧
  (∀ (s : State) (rq : Req) (off n : Nat) (long : Bool), s.reachable rq = true → s.winMay rq = true → 0x8000 ≤ off → off < 0x10000 → n = (if long then 8 else 4) → off % n = 0 →
      (s.fl R.FLS_STATUS.BUSY 0 = true ∨ s.fl R.FLS_STATUS.PRESENT 0 = false ∨ s.flashReach ≤ s.winAddr off) →
      ∃ t, exec (.flashWindowRead rq off long) s = .next t ∧ t.out = [.data (List.replicate n 0)] ∧ t.flash = s.flash ∧ (s.fl R.FLS_STATUS.BUSY 0 = true → t.rd R.FLS_STATUS.WIN_BUSY_READ 0 = 1) ∧
        (s.fl R.FLS_STATUS.BUSY 0 = false → s.fl R.FLS_STATUS.PRESENT 0 = true → t.rd R.FLS_STATUS.RANGE 0 = 1) ∧ s.keepsRegs t [R.FLS_STATUS.RANGE.slot 0, R.FLS_STATUS.WIN_BUSY_READ.slot 0]) ∧
  (∀ (s : State) (rq : Req) (off : Nat) (bytes : List Byte), s.reachable rq = true → s.winMay rq = true → 0x8000 ≤ off → off < 0x10000 → bytes ≠ [] → off % 8 + bytes.length ≤ 8 → s.holds rq = true → s.fl R.FLS_STATUS.BUSY 0 = false → s.flashWide = false → s.winAddr off < s.flashReach →
      ∃ t, exec (.flashWindowWrite rq off bytes) s = .next t ∧ t.flash.program = some (bytes.zipIdx.map fun e => (s.winAddr off + e.2, e.1.toNat)) ∧ t.flash.cells = s.flash.cells ∧ t.rd R.FLS_STATUS.BUSY 0 = 1 ∧
        t.out = [.flash [0x06] 0, .flash (0x02 :: beBytes 3 (s.winAddr off) ++ bytes.map (·.toNat)) 0] ∧ s.keeps t [.regs, .flash] ∧ s.keepsRegs t [R.FLS_STATUS.BUSY.slot 0]) ∧
  (∀ (s : State) (f : Fin 64) (off : Nat) (bytes : List Byte), s.reachable (.fn f) = true → s.winMay (.fn f) = true → 0x8000 ≤ off → off < 0x10000 → bytes ≠ [] → off % 8 + bytes.length ≤ 8 → (s.holds (.fn f) = false ∨ s.fl R.FLS_STATUS.BUSY 0 = true ∨ s.flashWide = true ∨ s.flashReach ≤ s.winAddr off) →
      ∃ t, exec (.flashWindowWrite (.fn f) off bytes) s = .next t ∧ t.flash = s.flash ∧ t.out = [] ∧ t.rd R.HOST_REFUSE.COUNT f.val = min (s.rd R.HOST_REFUSE.COUNT f.val + 1) (2 ^ R.HOST_REFUSE.COUNT.width - 1)) ∧
  (∀ (s : State) (status : Byte) (l : List (Nat × Nat)), s.flash.program = some l → (l.map (·.1)).Nodup → status.toNat % 2 = 0 →
      ∃ t, exec (.flashProgramDone status) s = .next t ∧ (∀ e ∈ l, smGet 0xFF t.flash.cells e.1 = Nat.land (smGet 0xFF s.flash.cells e.1) (e.2 % 256)) ∧ (∀ c, c ∉ l.map (·.1) → smGet 0xFF t.flash.cells c = smGet 0xFF s.flash.cells c) ∧ t.flash.program = none ∧ t.rd R.FLS_STATUS.BUSY 0 = 0 ∧ t.rd R.FLS_STATUS.LAST_SR 0 = status.toNat) ∧
  (∀ (s : State) (status : Byte), (status.toNat % 2 = 1 ∨ s.flash.program = none) → ∃ t, exec (.flashProgramDone status) s = .next t ∧ s.keeps t []) ∧
  (∀ (s : State) (status : Byte) (a b : Nat), s.flash.program = some [(a, b)] →
      ∃ t, exec (.flashPollTimeout status) s = .next t ∧ t.rd R.FLS_STATUS.POLL_TIMEOUT 0 = 1 ∧ t.rd R.FLS_STATUS.LAST_SR 0 = status.toNat ∧ t.rd R.FLS_STATUS.BUSY 0 = 0 ∧ t.flash.program = none ∧ smGet 0xFF t.flash.cells a = Nat.land (smGet 0xFF s.flash.cells a) (b % 256)) ∧
  (∀ (s : State) (status : Byte) (c : FlashCmd), s.flash.program = none → s.flash.cmd = some c → c.poll = true →
      ∃ t, exec (.flashPollTimeout status) s = .next t ∧ t.rd R.FLS_STATUS.POLL_TIMEOUT 0 = 1 ∧ t.rd R.FLS_STATUS.LAST_SR 0 = status.toNat ∧ t.rd R.FLS_STATUS.BUSY 0 = 0 ∧ t.rd R.FLS_CMD.STATUS 0 = 3 ∧ t.flash.cmd = none) ∧
  ∀ (s : State) (status : Byte), s.flash.program = none → (s.flash.cmd.any (·.poll)) = false → ∃ t, exec (.flashPollTimeout status) s = .next t ∧ s.keeps t []

/-- Self-calibration of a quadrant (R508 to R526): a request starts a run with the spine or waits for the one in progress, an abort ends it, a step delivers its trims, fails or waits for its retry, a run limit defers what is left, the start-up budget skips it, and a glazing step moves each trim of a unit by one toward its target, one at a time for a level DAC. -/
def Obligations.Calibration : Prop :=
  (∀ (s : State) (rq : Req) (q : Fin 4) (w : Word), s.canWrite rq .CAL_CTL q.val → (s.operating = true ∨ (s.m.mode = .service ∧ s.m.startup = false)) → R.CAL_CTL.ABORT.part w.toNat = 0 → (s.cal q.val).running = false →
      ∃ t, exec (.calReq rq q w) s = .next t ∧ (t.cal q.val).running = true ∧ (t.cal q.val).cur = some (1, q.val) ∧ (t.cal q.val).todo = (s.calRotation q.val).drop 1 ∧ (t.cal q.val).tries = 0 ∧ (∀ j, j ≠ q.val → t.cal j = s.cal j) ∧ s.keeps t [.regs, .cals]) ∧
  (∀ (s : State) (rq : Req) (q : Fin 4) (w : Word), s.canWrite rq .CAL_CTL q.val → (s.operating = true ∨ (s.m.mode = .service ∧ s.m.startup = false)) → R.CAL_CTL.ABORT.part w.toNat = 0 → (s.cal q.val).running = true →
      ∃ t, exec (.calReq rq q w) s = .next t ∧ t.rd R.CAL_CTL.REQ_PENDING q.val = 1 ∧ s.keeps t [.regs]) ∧
  (∀ (s : State) (rq : Req) (q : Fin 4) (w : Word), s.canWrite rq .CAL_CTL q.val → s.operating = false → (s.m.mode ≠ .service ∨ s.m.startup = true) → R.CAL_CTL.ABORT.part w.toNat = 0 →
      ∃ t, exec (.calReq rq q w) s = .next t ∧ t.rd R.CAL_CTL.REQ_PENDING q.val = s.rd R.CAL_CTL.REQ_PENDING q.val ∧ s.keeps t [.regs]) ∧
  (∀ (s : State) (rq : Req) (q : Fin 4) (w : Word), s.canWrite rq .CAL_CTL q.val → R.CAL_CTL.REQ.part w.toNat = 0 → (s.cal q.val).running = false ∨ s.m.startup = true →
      ∃ t, exec (.calAbort rq q w) s = .next t ∧ s.keeps t [.regs]) ∧
  (∀ (s : State) (rq : Req) (q : Fin 4) (w : Word), s.canWrite rq .CAL_CTL q.val → R.CAL_CTL.REQ.part w.toNat = 0 → (s.cal q.val).running = true → s.m.startup = false →
      ∃ t, exec (.calAbort rq q w) s = .next t ∧ (t.cal q.val).running = false ∧ (t.cal q.val).cur = none ∧ (t.cal q.val).todo = [] ∧ (t.cal q.val).deferred = (s.cal q.val).deferred ∧ t.trims = s.trims ∧ t.targets = s.targets) ∧
  (∀ (s : State) (q : Fin 4) (k u : Nat) (l : List Int) (verr terr : Int), (s.cal q.val).running = true → (s.cal q.val).cur = some (k, u) → (s.cal q.val).waiting = false → s.calPaused = false → k ∈ [2, 3, 5, 6, 7] → l.length = trimCount k →
      (∀ j, j < l.length → (trimRange k j).1 + 8 ≤ l.getD j 0 ∧ l.getD j 0 ≤ (trimRange k j).2 - 8) →
      ∃ t, exec (.calStepDone q (.measured l false) verr terr) s = .next t ∧ t.target k u = l ∧ smGet 0 t.results (trimKey k u) = 65536 + s.rd R.CAL_COUNT.COUNT q.val % 65536 ∧ (s.calWhole k u = true → t.trim k u = l) ∧
        t.rd R.CAL_SPINE.VERR q.val = ofInt 16 verr ∧ t.rd R.CAL_SPINE.TERR q.val = ofInt 16 terr) ∧
  (∀ (s : State) (q : Fin 4) (k u : Nat) (x : CalOutcome) (verr terr : Int), (s.cal q.val).cur = some (k, u) → ((s.cal q.val).running = false ∨ (s.cal q.val).waiting = true ∨ s.calPaused = true) →
      ∃ t, exec (.calStepDone q x verr terr) s = .next t ∧ s.keeps t []) ∧
  (∀ (s : State) (q : Fin 4) (u : Nat) (a b verr terr : Int), (s.cal q.val).running = true → (s.cal q.val).cur = some (6, u) → (s.cal q.val).waiting = false → s.calPaused = false → 2047 < a →
      ∃ t, exec (.calStepDone q (.measured [a, b] false) verr terr) s = .next t ∧ smGet 0 t.results (trimKey 6 u) = 3 * 65536 + s.rd R.CAL_COUNT.COUNT q.val % 65536 ∧ t.rd R.CAL_RESULT2.FAILED q.val = min (s.rd R.CAL_RESULT2.FAILED q.val + 1) (2 ^ R.CAL_RESULT2.FAILED.width - 1) ∧ t.trim 6 u = s.trim 6 u) ∧
  (∀ (s : State) (q : Fin 4) (k u : Nat) (verr terr : Int), (s.cal q.val).running = true → (s.cal q.val).cur = some (k, u) → (s.cal q.val).waiting = false → s.calPaused = false → (s.cal q.val).tries + 1 < 4 →
      ∃ t, exec (.calStepDone q .spineFail verr terr) s = .next t ∧ t.cal q.val = { s.cal q.val with tries := (s.cal q.val).tries + 1, waiting := true } ∧ t.rd R.CAL_SPINE.VERR q.val = ofInt 16 verr ∧ t.rd R.CAL_SPINE.TERR q.val = ofInt 16 terr ∧ s.keeps t [.regs, .cals] ∧ s.keepsRegs t [R.CAL_SPINE.VERR.slot q.val, R.CAL_SPINE.TERR.slot q.val]) ∧
  (∀ (s : State) (q : Fin 4) (k u : Nat) (verr terr : Int), (s.cal q.val).running = true → (s.cal q.val).cur = some (k, u) → (s.cal q.val).waiting = false → s.calPaused = false → (s.cal q.val).todo = [] → s.calAvail k u = false →
      ∃ t, exec (.calStepDone q .ballMoved verr terr) s = .next t ∧ (t.cal q.val).cur = none ∧ (t.cal q.val).todo = [(k, u)] ∧ (t.cal q.val).running = true ∧ t.trims = s.trims ∧ t.results = s.results) ∧
  (∀ (s : State) (q : Fin 4) (k u : Nat) (verr terr : Int), (s.cal q.val).running = true → (s.cal q.val).cur = some (k, u) → (s.cal q.val).waiting = true → s.calPaused = false →
      ∃ t, exec (.calRetry q true verr terr) s = .next t ∧ t.cal q.val = { s.cal q.val with waiting := false } ∧ t.rd R.CAL_SPINE.VERR q.val = ofInt 16 verr ∧ s.keeps t [.regs, .cals]) ∧
  (∀ (s : State) (q : Fin 4) (ok : Bool) (verr terr : Int), ((s.cal q.val).running = false ∨ (s.cal q.val).waiting = false ∨ s.calPaused = true ∨ (s.cal q.val).cur = none) →
      ∃ t, exec (.calRetry q ok verr terr) s = .next t ∧ s.keeps t []) ∧
  (∀ (s : State) (q : Fin 4), ((s.cal q.val).running = false ∨ s.m.startup = true) → ∃ t, exec (.calRunLimit q) s = .next t ∧ s.keeps t []) ∧
  (∀ (s : State) (q : Fin 4) (verr terr : Int), (s.cal q.val).running = true → (s.cal q.val).cur = some (1, q.val) → (s.cal q.val).waiting = true → s.calPaused = false → 3 ≤ (s.cal q.val).tries → s.fl R.CAL_CTL.REQ_PENDING q.val = false →
      ∃ t, exec (.calRetry q false verr terr) s = .next t ∧ (t.cal q.val).running = false ∧ (t.cal q.val).cur = none ∧ (t.cal q.val).todo = [] ∧ t.rd R.CAL_STATUS.SPINE_FAIL q.val = 1 ∧ t.trims = s.trims) ∧
  (∀ (s : State) (q : Fin 4) (u : Nat) (verr terr : Int), (s.cal q.val).running = true → (s.cal q.val).cur = some (6, u) → (s.cal q.val).waiting = true → s.calPaused = false → 3 ≤ (s.cal q.val).tries →
      ∃ t, exec (.calRetry q false verr terr) s = .next t ∧ t.rd R.CAL_RESULT.SKIPPED q.val = min (s.rd R.CAL_RESULT.SKIPPED q.val + 1) (2 ^ R.CAL_RESULT.SKIPPED.width - 1) ∧ t.rd R.CAL_SKIP_LAST.CAUSE q.val = 1 ∧ smGet 0 t.results (trimKey 6 u) = 4 * 65536 + s.rd R.CAL_COUNT.COUNT q.val % 65536 ∧ (12, 0) ∈ t.hub.asserted) ∧
  (∀ (s : State) (q : Fin 4) (k u j v : Nat), (s.cal q.val).running = true → s.m.startup = false → (s.cal q.val).cur = some (k, u) → (s.cal q.val).todo = [(j, v)] → j ≠ 1 →
      ∃ t, exec (.calRunLimit q) s = .next t ∧ t.cal q.val = { s.cal q.val with todo := [], deferred := (s.cal q.val).deferred ++ [(j, v)] } ∧ t.rd R.CAL_RESULT.DEFERRED q.val = min (s.rd R.CAL_RESULT.DEFERRED q.val + 1) (2 ^ R.CAL_RESULT.DEFERRED.width - 1) ∧ smGet 0 t.results (trimKey j v) = 5 * 65536 + s.rd R.CAL_COUNT.COUNT q.val % 65536) ∧
  (∀ (s : State) (q : Fin 4), s.m.startup = false → (s.cal q.val).running = true → (s.cal q.val).cur = none → (s.cal q.val).todo = [] → s.fl R.CAL_CTL.REQ_PENDING q.val = false →
      ∃ t, exec (.calRunLimit q) s = .next t ∧ (t.cal q.val).running = false ∧ t.rd R.CAL_COUNT.COUNT q.val = (s.rd R.CAL_COUNT.COUNT q.val + 1) % 2 ^ 32 ∧ t.rd R.CAL_STATUS.FIRST_DONE q.val = 1 ∧ t.rd R.CAL_TEMP.T_REF q.val = s.rd R.CAL_TEMP.T_NOW q.val ∧ t.rd R.CAL_LAST_TIME_LO.TIME_LO q.val = s.stamp % 2 ^ 32 ∧ t.hub.asserted = s.hub.asserted ++ [(11, 0)]) ∧
  (∀ (s : State), (s.m.startup = false ∨ s.rd R.DEV_STARTUP.STEP 0 ≠ 4) → ∃ t, exec (.calBudgetExpire) s = .next t ∧ s.keeps t []) ∧
  (∀ (s : State), s.m.startup = true → s.rd R.DEV_STARTUP.STEP 0 = 4 → (∀ q, q < 4 → s.fl R.CAL_CTL.REQ_PENDING q = false) →
      ∃ t, exec (.calBudgetExpire) s = .next t ∧ (∀ q, q < 4 → (t.cal q).running = false) ∧ (∀ q, q < 4 → (s.cal q).running = true → ∀ x ∈ (s.cal q).cur.toList ++ (s.cal q).todo, x.1 ≠ 1 → smGet 0 t.results (trimKey x.1 x.2) / 65536 = 4)) ∧
  (∀ (s : State) (t' : Fin 16) (k u : Nat), (s.targets.map (·.1)).Nodup → trimKey k u ∈ s.glazingKeys → u < 65536 → k ∈ [2, 4, 5, 6, 7] → s.glazeTile k u = t'.val →
      ∃ t, exec (.glazeStep t') s = .next t ∧ t.trim k u = (List.range (trimCount k)).map (fun j => toward ((s.trim k u).getD j 0) ((s.target k u).getD j 0)) ∧ s.keeps t [.trims]) ∧
  (∀ (s : State) (t' : Fin 16) (u p : Nat) (off : Bool), (s.targets.map (·.1)).Nodup → trimKey 3 u ∈ s.glazingKeys → u < 65536 → s.glazeTile 3 u = t'.val → p = s.dacSpan u → off = decide ((s.trim 3 u).getD (2 * p + 1) 0 ≠ (s.target 3 u).getD (2 * p + 1) 0) →
      ∃ t, exec (.glazeStep t') s = .next t ∧ t.trim 3 u = (List.range 8).map (fun j => if j = 2 * p + b2n off then toward ((s.trim 3 u).getD j 0) ((s.target 3 u).getD j 0) else (s.trim 3 u).getD j 0) ∧ s.keeps t [.trims]) ∧
  ∀ (s : State) (t' : Fin 16), s.glazingKeys = [] → ∃ t, exec (.glazeStep t') s = .next t ∧ s.keeps t []

/-- A housekeeping round (R528 to R546): it counts itself, shows the readings, the effective temperatures, the hottest one and the rails, breaks a sensor that has disagreed for three rounds and takes the median of its neighbours in its place, and shuts the device down at the eighth round of Cone S; a broken sensor is admitted again in SERVICE only. -/
def Obligations.Housekeeping : Prop :=
  (∀ (s : State) (temps rails spines : List Int), s.clocked = true → s.hk.round < 4 → s.rd R.THS_BROKEN.BROKEN 0 = 0 → temps.length = 22 → (∀ x ∈ temps, x < 16 * 135 ∧ x < 16 * (s.rd R.THS_CONE.T_C 0 : Int)) → s.hk.past.length < 64 → s.fl R.THS_STATUS.CONE_T 0 = false →
      ∃ t, exec (.hkRound temps rails spines) s = .next t ∧ t.hk.round = s.hk.round + 1 ∧ t.rd R.HK_ROUND_COUNT.COUNT 0 = s.hk.round + 1 ∧ (∀ n, n < 22 → t.rd R.THS_TEMP.RAW n = ofInt 16 (temps.getD n 0) ∧ t.rd R.THS_TEMP.EFFECTIVE n = ofInt 16 (temps.getD n 0)) ∧ t.rd R.THS_TJ.TJ 0 = ofInt 16 (hottest temps).1 ∧
        (∀ k, k < 8 → t.rd R.HK_SUPPLY_VAL.VALUE k = ofInt 16 (rails.getD k 0)) ∧ (∀ q, q < 4 → t.rd R.CAL_TEMP.T_NOW q = ofInt 16 (temps.getD (16 + q) 0 / 4)) ∧ t.m.trip = s.m.trip ∧ t.hk.past.head? = some temps) ∧
  (∀ (s : State) (n : Fin 22) (x c : Int) (rails spines : List Int), s.clocked = true → 4 ≤ s.hk.round → s.rd R.THS_BROKEN.BROKEN 0 = 0 → s.hk.disagree = [(n.val, 2)] → 0 ≤ c → c + 192 < x → x < 16 * 135 → c < 16 * (s.rd R.THS_CONE.T_C 0 : Int) → s.hk.past.length < 64 → s.fl R.THS_STATUS.CONE_T 0 = false →
      ∃ t, exec (.hkRound ((List.range 22).map fun m => if m = n.val then x else c) rails spines) s = .next t ∧ t.rd R.THS_BROKEN.BROKEN 0 = 2 ^ n.val ∧ t.rd R.THS_TEMP.RAW n.val = ofInt 16 x ∧ (∀ m, m < 22 → t.rd R.THS_TEMP.EFFECTIVE m = ofInt 16 c) ∧ (9, 0) ∈ t.hub.asserted ∧ t.rd R.THS_TJ.TJ 0 = ofInt 16 c) ∧
  (∀ (s : State) (temps rails spines : List Int), s.clocked = true → s.hk.round < 4 → s.rd R.THS_BROKEN.BROKEN 0 = 0 → temps.length = 22 → (∃ x ∈ temps, 16 * 135 ≤ x) → smGet 0 s.hk.cones 4 = 7 →
      ∃ t, exec (.hkRound temps rails spines) s = .next t ∧ t.m.trip = true) ∧
  (∀ (s : State) (temps rails spines : List Int), s.clocked = false → ∃ t, exec (.hkRound temps rails spines) s = .next t ∧ s.keeps t []) ∧
  (∀ (s : State) (rq : Req) (w : Word), s.canWrite rq .THS_READMIT 0 → s.m.mode = .service →
      ∃ t, exec (.sensorReadmit rq w) s = .next t ∧ (∀ n, n < 22 → t.broken n = (s.broken n && !bitAt w.toNat n)) ∧ (∀ n, n < 22 → bitAt w.toNat n = true → s.broken n = true → smGet 0 t.hk.disagree n = 0 ∧ smGet 0 t.hk.changed n = s.hk.round + 1) ∧ s.keeps t [.regs, .hk]) ∧
  ∀ (s : State) (f : Fin 64) (w : Word), s.canWrite (.fn f) .THS_READMIT 0 → s.m.mode ≠ .service → w.toNat % 2 ^ 22 ≠ 0 →
    ∃ t, exec (.sensorReadmit (.fn f) w) s = .next t ∧ t.rd R.THS_BROKEN.BROKEN 0 = s.rd R.THS_BROKEN.BROKEN 0 ∧ t.hk = s.hk ∧ t.rd R.HOST_REFUSE.COUNT f.val = min (s.rd R.HOST_REFUSE.COUNT f.val + 1) (2 ^ R.HOST_REFUSE.COUNT.width - 1)

/-- Marks, spares and the repair map (R549 to R557): a mark of a TDC sets its state and has it wait for a spare, or loses it where none is left, a command outside its rules ends with STATUS 3 or is refused while a self-test runs, a self-test runs in SERVICE and marks what it found failed, a spare is brought in for a waiting unit at its moment, and a pending repair map starts to be written. -/
def Obligations.SparesAndRepair : Prop :=
  (∀ (s : State) (rq : Req) (w : Word) (i k : Nat), s.canWrite rq .SPR_CMD 0 → s.rd R.SPR_CMD.STATUS 0 ≠ 1 → R.SPR_CMD.PLACE.part w.toNat = place 5 i → i < 64 → s.unitState (place 5 i) = 0 → s.spare.waiting = [] → s.spareFor (place 5 i) = some k →
      ∃ t, exec (.markWorn rq w) s = .next t ∧ t.rd R.SPR_CMD.STATUS 0 = 2 ∧ t.rd R.SPR_CMD.PLACE 0 = place 5 i ∧ t.unitState (place 5 i) = 1 ∧ t.spare.waiting = [⟨place 5 i, 0, 1⟩] ∧ (13, 0) ∈ t.hub.asserted) ∧
  (∀ (s : State) (rq : Req) (w : Word) (i : Nat), s.canWrite rq .SPR_CMD 0 → s.rd R.SPR_CMD.STATUS 0 ≠ 1 → R.SPR_CMD.PLACE.part w.toNat = place 5 i → i < 64 → s.unitState (place 5 i) = 0 → s.spare.waiting = [] → s.spareFor (place 5 i) = none →
      ∃ t, exec (.markWorn rq w) s = .next t ∧ t.rd R.SPR_CMD.STATUS 0 = 2 ∧ t.unitState (place 5 i) = 1 ∧ t.spare.waiting = [] ∧ t.tdcs = s.tdcs) ∧
  (∀ (s : State) (rq : Req) (w : Word) (i k : Nat), s.canWrite rq .SPR_CMD 0 → s.rd R.SPR_CMD.STATUS 0 ≠ 1 → R.SPR_CMD.PLACE.part w.toNat = place 5 i → i < 64 → s.unitState (place 5 i) < 2 → s.spare.waiting = [] → s.spareFor (place 5 i) = some k →
      ∃ t, exec (.markFailed rq w) s = .next t ∧ t.rd R.SPR_CMD.STATUS 0 = 2 ∧ t.unitState (place 5 i) = 2 ∧ t.spare.waiting = [⟨place 5 i, 0, 2⟩] ∧ (13, 0) ∈ t.hub.asserted) ∧
  (∀ (s : State) (rq : Req) (w : Word) (i : Nat), s.canWrite rq .SPR_CMD 0 → s.rd R.SPR_CMD.STATUS 0 ≠ 1 → R.SPR_CMD.PLACE.part w.toNat = place 5 i → i < 64 → s.unitState (place 5 i) < 2 → s.spare.waiting = [] → s.spareFor (place 5 i) = none →
      ∃ t, exec (.markFailed rq w) s = .next t ∧ t.rd R.SPR_CMD.STATUS 0 = 2 ∧ t.unavailable (place 5 i) = true ∧ t.spare.waiting = [] ∧ t.rd R.TDC_CTL.ARMED i = 0 ∧ t.rd R.DEV_STARTUP.DEGRADED 0 = 1) ∧
  (∀ (s : State) (rq : Req) (w : Word), s.canWrite rq .SPR_CMD 0 → s.rd R.SPR_CMD.STATUS 0 ≠ 1 → placeOk (R.SPR_CMD.PLACE.part w.toNat) = true →
      ∃ t, exec (.markFailed rq w) s = .next t ∧ t.rd R.SPR_CMD.STATUS 0 = 2) ∧
  (∀ (s : State) (rq : Req) (w : Word), s.canWrite rq .SPR_CMD 0 → s.rd R.SPR_CMD.STATUS 0 ≠ 1 → placeOk (R.SPR_CMD.PLACE.part w.toNat) = true →
      ∃ t, exec (.markWorn rq w) s = .next t ∧ t.rd R.SPR_CMD.STATUS 0 = 2) ∧
  (∀ (s : State) (rq : Req) (w : Word), s.canWrite rq .SPR_CMD 0 → s.rd R.SPR_CMD.STATUS 0 ≠ 1 → placeOk (R.SPR_CMD.PLACE.part w.toNat) = false →
      ∃ t, exec (.markWorn rq w) s = .next t ∧ t.rd R.SPR_CMD.STATUS 0 = 3 ∧ t.spare = s.spare ∧ s.keeps t [.regs]) ∧
  (∀ (s : State) (rq : Req) (w : Word), s.canWrite rq .SPR_CMD 0 → s.rd R.SPR_CMD.STATUS 0 ≠ 1 → placeOk (R.SPR_CMD.PLACE.part w.toNat) = false →
      ∃ t, exec (.markFailed rq w) s = .next t ∧ t.rd R.SPR_CMD.STATUS 0 = 3 ∧ t.spare = s.spare ∧ s.keeps t [.regs]) ∧
  (∀ (s : State) (f : Fin 64) (w : Word), s.canWrite (.fn f) .SPR_CMD 0 → s.rd R.SPR_CMD.STATUS 0 = 1 →
      ∃ t, exec (.markWorn (.fn f) w) s = .next t ∧ t.spare = s.spare ∧ t.rd R.SPR_CMD.STATUS 0 = 1 ∧ t.rd R.HOST_REFUSE.COUNT f.val = min (s.rd R.HOST_REFUSE.COUNT f.val + 1) (2 ^ R.HOST_REFUSE.COUNT.width - 1)) ∧
  (∀ (s : State) (f : Fin 64) (w : Word), s.canWrite (.fn f) .SPR_CMD 0 → s.rd R.SPR_CMD.STATUS 0 = 1 →
      ∃ t, exec (.markFailed (.fn f) w) s = .next t ∧ t.spare = s.spare ∧ t.rd R.SPR_CMD.STATUS 0 = 1 ∧ t.rd R.HOST_REFUSE.COUNT f.val = min (s.rd R.HOST_REFUSE.COUNT f.val + 1) (2 ^ R.HOST_REFUSE.COUNT.width - 1)) ∧
  (∀ (s : State) (f : Fin 64) (w : Word), s.canWrite (.fn f) .SPR_CMD 0 → s.rd R.SPR_CMD.STATUS 0 = 1 →
      ∃ t, exec (.sprSelfTest (.fn f) w) s = .next t ∧ t.spare = s.spare ∧ t.rd R.SPR_CMD.STATUS 0 = 1 ∧ t.rd R.HOST_REFUSE.COUNT f.val = min (s.rd R.HOST_REFUSE.COUNT f.val + 1) (2 ^ R.HOST_REFUSE.COUNT.width - 1)) ∧
  (∀ (s : State) (rq : Req) (w : Word), s.canWrite rq .SPR_CMD 0 → s.rd R.SPR_CMD.STATUS 0 ≠ 1 → s.m.mode = .service → s.m.startup = false → (R.SPR_CMD.PLACE.part w.toNat = 0x8000 ∨ (0x3000 ≤ R.SPR_CMD.PLACE.part w.toNat ∧ R.SPR_CMD.PLACE.part w.toNat < 0x3004)) →
      ∃ t, exec (.sprSelfTest rq w) s = .next t ∧ t.spare = { s.spare with selfTest := some (R.SPR_CMD.PLACE.part w.toNat) } ∧ t.rd R.SPR_CMD.STATUS 0 = 1 ∧ s.keepsFields t [R.SPR_CMD.STATUS, R.SPR_CMD.PLACE]) ∧
  (∀ (s : State) (rq : Req) (w : Word), s.canWrite rq .SPR_CMD 0 → s.rd R.SPR_CMD.STATUS 0 ≠ 1 → (s.m.mode ≠ .service ∨ s.m.startup = true ∨ (R.SPR_CMD.PLACE.part w.toNat ≠ 0x8000 ∧ ¬(0x3000 ≤ R.SPR_CMD.PLACE.part w.toNat ∧ R.SPR_CMD.PLACE.part w.toNat < 0x3004))) → ∃ t, exec (.sprSelfTest rq w) s = .next t ∧ t.rd R.SPR_CMD.STATUS 0 = 3 ∧ t.spare = s.spare) ∧
  (∀ (s : State) (l : List Nat), s.spare.selfTest = none → ∃ t, exec (.selfTestDone l) s = .next t ∧ s.keeps t []) ∧
  (∀ (s : State) (pl : Nat), s.spare.selfTest = some pl → ∃ t, exec (.selfTestDone []) s = .next t ∧ t.rd R.SPR_CMD.STATUS 0 = 2 ∧ t.spare = { s.spare with selfTest := none } ∧ s.keepsFields t [R.SPR_CMD.STATUS]) ∧
  (∀ (s : State) (i k : Nat), s.spare.selfTest = some 0x8000 → i < 64 → s.unitState (place 5 i) < 2 → s.spare.waiting = [] → s.spareFor (place 5 i) = some k →
      ∃ t, exec (.selfTestDone [place 5 i]) s = .next t ∧ t.rd R.SPR_CMD.STATUS 0 = 2 ∧ t.spare.selfTest = none ∧ t.unitState (place 5 i) = 2 ∧ t.spare.waiting = [⟨place 5 i, 0, 2⟩]) ∧
  (∀ (s : State) (i k m : Nat), s.m.startup = false → i < 64 → s.spare.waiting = [⟨place 5 i, 0, m⟩] → s.spareFor (place 5 i) = some k → s.rd R.TDC_CTL.ARMED i = 0 → s.nvm.map.length < 511 →
      ∃ t, exec (.spareIn (place 5 i)) s = .next t ∧ t.spare.waiting = [] ∧ t.unitState (place 5 i) = 3 ∧ t.rd R.TDC_SPARE_STATUS.ASSIGNED k = 1 ∧ t.rd R.TDC_SPARE_STATUS.REPLACED k = i ∧ (14, 0) ∈ t.hub.asserted ∧ t.nvm.map = s.nvm.map ++ [⟨place 5 i, 4, m, 0, k, s.clock.sec % 2 ^ 32⟩] ∧ t.rd R.SPR_PENDING.COUNT 0 = 0) ∧
  (∀ (s : State) (k : Nat), s.spareNow k = false → ∃ t, exec (.spareIn k) s = .next t ∧ s.keeps t []) ∧
  (∀ (s : State), s.mapWaits = true → s.fl R.THS_STATUS.NVM_OK 0 = true → s.fl R.NVM_STATUS.BUSY 0 = false → s.fl R.NVM_STATUS.DIR_FAIL 0 = false →
      ∃ t, exec (.repairMapWrite) s = .next t ∧ t.rd R.NVM_STATUS.REPAIR_PENDING 0 = 0 ∧ t.rd R.NVM_STATUS.BUSY 0 = 1 ∧ t.rd R.DEV_STARTUP.REPAIR_DEFERRED 0 = 0 ∧
        t.nvm = { s.nvm with job := some ⟨4, 1 - (s.nvmChosen 4).copy, ((s.nvmChosen 4).seq + 1) % 2 ^ 32, nvmBytes 4 (((s.nvmChosen 4).seq + 1) % 2 ^ 32) (repairPayload s.nvm.map), nvmPages 4 (1 - (s.nvmChosen 4).copy), false, false⟩ } ∧ s.keepsFields t [R.NVM_STATUS.REPAIR_PENDING, R.NVM_STATUS.BUSY, R.DEV_STARTUP.REPAIR_DEFERRED]) ∧
  ∀ (s : State), (s.mapWaits = false ∨ s.fl R.THS_STATUS.NVM_OK 0 = false ∨ s.fl R.NVM_STATUS.BUSY 0 = true ∨ s.fl R.NVM_STATUS.DIR_FAIL 0 = true) → ∃ t, exec (.repairMapWrite) s = .next t ∧ s.keeps t []

/-- NVM and the shard log (R558 to R564): a READ fills the buffer with the record's payload or is refused, a WRITE of a user record waits for the window or starts, a programmed copy becomes the chosen one, a page that fails verification is retired to a spare page, a directory that fails sets DIR_FAIL, and the oldest shard drains into its ring slot and its mirror entry. -/
def Obligations.NvmAndLog : Prop :=
  (∀ (s : State), s.log.buffer = [] → ∃ t, exec (.shardWrite) s = .next t ∧ s.keeps t []) ∧
  (∀ (s : State) (x : Shard) (l : List Shard), s.log.buffer = x :: l →
      ∃ t, exec (.shardWrite) s = .next t ∧ t.log.buffer = l ∧ smGet .blank t.log.ring (x.seq % 4096) = x ∧ smGet .blank t.log.mirror (x.seq % 16) = x ∧ (∀ j, j ≠ x.seq % 4096 → smGet .blank t.log.ring j = smGet .blank s.log.ring j) ∧ (∀ j, j ≠ x.seq % 16 → smGet .blank t.log.mirror j = smGet .blank s.log.mirror j) ∧ t.hub.asserted = s.hub.asserted ++ [(17, 0)] ∧ s.keeps t [.hub, .log]) ∧
  (∀ (s : State) (rq : Req) (w : Word) (k : Nat), s.canWrite rq .NVM_CMD 0 → s.rd R.NVM_CMD.STATUS 0 ≠ 1 → k = R.NVM_CMD.KIND.part w.toNat + 1 → (k = 2 ∨ k = 4 ∨ (16 ≤ k ∧ k < 32 ∧ (s.image.any fun im => if rq = .spi then im.userAccess = 2 else im.userAccess ≠ 0) = true)) →
      ∃ t, exec (.nvmRead rq w) s = .next t ∧ t.rd R.NVM_CMD.STATUS 0 = 2 ∧ t.rd R.NVM_CMD.ERR 0 = 0 ∧ t.rd R.NVM_CMD.VALID 0 = b2n (s.nvmChosen k).valid ∧ t.rd R.NVM_SEQ.SEQ 0 = (if (s.nvmChosen k).valid then (s.nvmChosen k).seq % 2 ^ 32 else 0) ∧
        (∀ j, j < 1020 → t.rd R.NVM_BUF.DATA j = leVal ((((s.nvmPayload k).getD []).drop (4 * j)).take 4)) ∧ t.nvm = s.nvm) ∧
  (∀ (s : State) (rq : Req) (w : Word) (k : Nat), s.canWrite rq .NVM_CMD 0 → s.rd R.NVM_CMD.STATUS 0 ≠ 1 → k = R.NVM_CMD.KIND.part w.toNat + 1 → (k = 1 ∨ k = 3 ∨ (4 < k ∧ k < 16) ∨ 32 ≤ k ∨ (16 ≤ k ∧ k < 32 ∧ (s.image.any fun im => if rq = .spi then im.userAccess = 2 else im.userAccess ≠ 0) = false)) →
      ∃ t, exec (.nvmRead rq w) s = .next t ∧ t.rd R.NVM_CMD.STATUS 0 = 3 ∧ t.rd R.NVM_CMD.ERR 0 = 1 ∧ t.nvm = s.nvm ∧ t.rd R.NVM_BUF.DATA 0 = s.rd R.NVM_BUF.DATA 0) ∧
  (∀ (s : State) (f : Fin 64) (w : Word) (k : Nat) (im : Image), s.canWrite (.fn f) .NVM_CMD 0 → s.rd R.NVM_CMD.STATUS 0 ≠ 1 → k = R.NVM_CMD.KIND.part w.toNat + 1 → 16 ≤ k → k < 32 → s.image = some im → im.userAccess ≠ 0 → s.fl R.NVM_STATUS.DIR_FAIL 0 = false → (s.fl R.THS_STATUS.NVM_OK 0 = false ∨ s.fl R.NVM_STATUS.BUSY 0 = true ∨ s.mapWaits = true) →
      ∃ t, exec (.nvmUserWrite (.fn f) w) s = .next t ∧ t.rd R.NVM_CMD.STATUS 0 = 1 ∧ t.fl R.NVM_CMD.WAIT_WINDOW 0 = !s.fl R.THS_STATUS.NVM_OK 0 ∧ t.nvm = { s.nvm with waiting := some k }) ∧
  (∀ (s : State) (f : Fin 64) (w : Word) (k : Nat) (im : Image), s.canWrite (.fn f) .NVM_CMD 0 → s.rd R.NVM_CMD.STATUS 0 ≠ 1 → k = R.NVM_CMD.KIND.part w.toNat + 1 → 16 ≤ k → k < 32 → s.image = some im → im.userAccess ≠ 0 → s.fl R.NVM_STATUS.DIR_FAIL 0 = false → s.fl R.THS_STATUS.NVM_OK 0 = true → s.fl R.NVM_STATUS.BUSY 0 = false → s.mapWaits = false →
      ∃ t, exec (.nvmUserWrite (.fn f) w) s = .next t ∧ t.rd R.NVM_CMD.STATUS 0 = 1 ∧ t.rd R.NVM_CMD.WAIT_WINDOW 0 = 0 ∧ t.rd R.NVM_STATUS.BUSY 0 = 1 ∧ t.nvm.waiting = none ∧ t.nvm.cells = s.nvm.cells ∧
        (t.nvm.job.map fun j => (j.kind, j.copy, j.seq, j.user)) = some (k, 1 - (s.nvmChosen k).copy, ((s.nvmChosen k).seq + 1) % 2 ^ 32, true)) ∧
  (∀ (s : State) (f : Fin 64) (w : Word) (k : Nat), s.canWrite (.fn f) .NVM_CMD 0 → s.rd R.NVM_CMD.STATUS 0 ≠ 1 → k = R.NVM_CMD.KIND.part w.toNat + 1 → (k < 16 ∨ 32 ≤ k ∨ (s.image.any fun im => decide (im.userAccess ≠ 0)) = false) →
      ∃ t, exec (.nvmUserWrite (.fn f) w) s = .next t ∧ t.rd R.NVM_CMD.STATUS 0 = 3 ∧ t.rd R.NVM_CMD.ERR 0 = 1 ∧ t.nvm = s.nvm) ∧
  (∀ (s : State) (f : Fin 64) (w : Word) (k : Nat) (im : Image), s.canWrite (.fn f) .NVM_CMD 0 → s.rd R.NVM_CMD.STATUS 0 ≠ 1 → k = R.NVM_CMD.KIND.part w.toNat + 1 → 16 ≤ k → k < 32 → s.image = some im → im.userAccess ≠ 0 → s.fl R.NVM_STATUS.DIR_FAIL 0 = true →
      ∃ t, exec (.nvmUserWrite (.fn f) w) s = .next t ∧ t.rd R.NVM_CMD.STATUS 0 = 3 ∧ t.rd R.NVM_CMD.ERR 0 = 3 ∧ t.nvm = s.nvm) ∧
  (∀ (s : State) (f : Fin 64) (w : Word), s.canWrite (.fn f) .NVM_CMD 0 → s.rd R.NVM_CMD.STATUS 0 = 1 →
      ∃ t, exec (.nvmUserWrite (.fn f) w) s = .next t ∧ t.rd R.NVM_CMD.STATUS 0 = 1 ∧ t.nvm = s.nvm ∧ t.rd R.HOST_REFUSE.COUNT f.val = min (s.rd R.HOST_REFUSE.COUNT f.val + 1) (2 ^ R.HOST_REFUSE.COUNT.width - 1)) ∧
  (∀ (s : State) (f : Fin 64) (w : Word), s.canWrite (.fn f) .NVM_CMD 0 → s.rd R.NVM_CMD.STATUS 0 = 1 →
      ∃ t, exec (.nvmRead (.fn f) w) s = .next t ∧ t.rd R.NVM_CMD.STATUS 0 = 1 ∧ t.nvm = s.nvm ∧ t.rd R.HOST_REFUSE.COUNT f.val = min (s.rd R.HOST_REFUSE.COUNT f.val + 1) (2 ^ R.HOST_REFUSE.COUNT.width - 1)) ∧
  (∀ (s : State) (bad : List Nat), s.nvm.job = none → ∃ t, exec (.nvmWriteDone bad) s = .next t ∧ s.keeps t []) ∧
  (∀ (s : State) (j : NvmJob) (l : Nat), s.nvm.job = some j → s.nvm.waiting = none → j.kind ≠ 1 → j.pages = [l] → s.sparePages = [] →
      ∃ t, exec (.nvmWriteDone [s.nvmPhys l]) s = .next t ∧ t.nvm.job = none ∧ t.rd R.NVM_STATUS.BUSY 0 = 0 ∧ t.nvm.cells = s.nvm.cells ∧ (j.user = true → t.rd R.NVM_CMD.STATUS 0 = 3 ∧ t.rd R.NVM_CMD.ERR 0 = 2) ∧ (16, 0) ∈ t.hub.asserted) ∧
  (∀ (s : State) (j : NvmJob) (i : Nat), s.nvm.job = some j → s.nvm.waiting = none → j.kind = 16 → j.copy < 2 → j.remapped = false → i < j.bytes.length → j.bytes.length ≤ 4096 →
      ∃ t, exec (.nvmWriteDone []) s = .next t ∧ t.nvm.job = none ∧ t.rd R.NVM_STATUS.BUSY 0 = 0 ∧ t.nvmChosen 16 = ⟨j.copy, j.seq, true⟩ ∧ smGet 0xFF t.nvm.cells (4096 * s.nvmPhys (88 + j.copy) + i) = j.bytes.getD i 0 % 256 ∧ t.hub.asserted = s.hub.asserted ++ [(16, 0)] ∧ (j.user = true → t.rd R.NVM_CMD.STATUS 0 = 2 ∧ t.rd R.NVM_CMD.ERR 0 = 0)) ∧
  (∀ (s : State) (j : NvmJob) (l p : Nat) (r : List Nat), s.nvm.job = some j → j.kind ≠ 1 → j.pages = [l] → s.sparePages = p :: r →
      ∃ t, exec (.nvmWriteDone [s.nvmPhys l]) s = .next t ∧ t.nvm.job = some { j with pages := [l], remapped := true } ∧ t.nvmPhys l = p ∧ t.rd R.NVM_STATUS.SPARE_PAGES 0 = t.sparePages.length ∧ t.nvm.cells = s.nvm.cells ∧ (14, 0) ∈ t.hub.asserted) ∧
  ∀ (s : State) (j : NvmJob) (l : Nat), s.nvm.job = some j → s.nvm.waiting = none → j.kind = 1 → j.pages = [l] →
    ∃ t, exec (.nvmWriteDone [s.nvmPhys l]) s = .next t ∧ t.nvm.job = none ∧ t.rd R.NVM_STATUS.DIR_FAIL 0 = 1 ∧ t.rd R.NVM_STATUS.BUSY 0 = 0 ∧ t.nvm.cells = s.nvm.cells ∧ (j.user = true → t.rd R.NVM_CMD.STATUS 0 = 3 ∧ t.rd R.NVM_CMD.ERR 0 = 3) ∧ (16, 0) ∈ t.hub.asserted

/-- The forerunner personalities of LEGACY (R568 to R578): start runs the four tiles of a personality on one edge or is discarded under Cone T, stop and reset end their play, calibrate asks for a run, and timing, level and vector writes reach the native sets, codes and slices or are refused. -/
def Obligations.ForerunnerPersonalities : Prop :=
  (∀ (s : State) (p : Fin 4) (edge : Fin 2), s.persona p.val = true → s.fl R.THS_STATUS.CONE_T 0 = false → s.m.relocking = false → s.m.target = none → (∀ k, k < 4 → s.playing (4 * p.val + k) = false ∧ s.halted (4 * p.val + k) = false) →
      ∃ t, exec (.forerunnerStart p edge) s = .next t ∧ (∀ k, k < 4 → (t.play (4 * p.val + k)).playing = true ∧ (t.play (4 * p.val + k)).start = s.clock.tick * 2048 + edge.val * 1024 ∧ (t.play (4 * p.val + k)).cycle = 0 ∧ t.rd R.SEQ_STATUS.STATE (4 * p.val + k) = 1)) ∧
  (∀ (s : State) (p : Fin 4) (edge : Fin 2), s.persona p.val = true → s.fl R.THS_STATUS.CONE_T 0 = true →
      ∃ t, exec (.forerunnerStart p edge) s = .next t ∧ t.plays = s.plays ∧ t.rd R.DEV_LEGACY.THERMAL_DISCARD 0 = Nat.lor (s.rd R.DEV_LEGACY.THERMAL_DISCARD 0) (2 ^ p.val) % 16 ∧ s.keepsFields t [R.DEV_LEGACY.THERMAL_DISCARD]) ∧
  (∀ (s : State) (p : Fin 4) (edge : Fin 2), s.persona p.val = false ∨ (s.fl R.THS_STATUS.CONE_T 0 = false ∧ (s.m.relocking = true ∨ s.m.target.isSome = true ∨ (personaTiles p.val).any (fun k => s.playing k || s.halted k) = true)) →
      ∃ t, exec (.forerunnerStart p edge) s = .next t ∧ s.keeps t []) ∧
  (∀ (s : State) (p : Fin 4), s.persona p.val = true →
      ∃ t, exec (.forerunnerStop p) s = .next t ∧ (∀ k, k < 4 → (t.play (4 * p.val + k)).playing = false ∧ (s.playing (4 * p.val + k) = true → s.halted (4 * p.val + k) = false → t.rd R.SEQ_STATUS.STATE (4 * p.val + k) = 0))) ∧
  (∀ (s : State) (p : Fin 4), s.persona p.val = false → ∃ t, exec (.forerunnerStop p) s = .next t ∧ s.keeps t []) ∧
  (∀ (s : State) (p : Fin 4), s.persona p.val = true → (s.cal p.val).running = false →
      ∃ t, exec (.forerunnerCalibrate p) s = .next t ∧ (t.cal p.val).running = true ∧ (t.cal p.val).cur = some (1, p.val) ∧ (t.cal p.val).todo = (s.calRotation p.val).drop 1 ∧ s.keeps t [.cals]) ∧
  (∀ (s : State) (p : Fin 4), s.persona p.val = true → (s.cal p.val).running = true → ∃ t, exec (.forerunnerCalibrate p) s = .next t ∧ t.rd R.CAL_CTL.REQ_PENDING p.val = 1 ∧ t.cals = s.cals) ∧
  (∀ (s : State) (p : Fin 4), s.persona p.val = true →
      ∃ t, exec (.forerunnerReset p) s = .next t ∧ (∀ k, k < 4 → (t.play (4 * p.val + k)).playing = false) ∧ (∀ n, n / 65536 = p.val → smGet 0 t.legacy.timing n = 0) ∧ (∀ n, n / 65536 ≠ p.val → smGet 0 t.legacy.timing n = smGet 0 s.legacy.timing n) ∧
        (∀ n, n / 16384 = p.val → smGet 0 t.legacy.levels n = 0) ∧ (∀ n, n / 16384 ≠ p.val → smGet 0 t.legacy.levels n = smGet 0 s.legacy.levels n)) ∧
  (∀ (s : State) (p : Fin 4) (set : Fin 16) (ch : Fin 256) (item : Fin 8) (u : Nat), s.persona p.val = true → (item.val < 6 ∨ (item.val = 6 ∧ u < 4)) →
      ∃ t, exec (.forerunnerTimingWrite p set ch item u) s = .next t ∧ t.timingVal p.val set.val ch.val item.val = u ∧ (t.channelOk p.val set.val ch.val = true → (t.play (4 * p.val + ch.val / 64)).setWord set.val (ch.val % 64) item.val = if item.val = 6 then u else tapsOf u) ∧ (t.channelOk p.val set.val ch.val = false → t.plays = s.plays) ∧ s.keeps t [.plays, .legacy]) ∧
  (∀ (s : State) (p : Fin 4) (set : Fin 16) (ch : Fin 256) (u : Nat), s.persona p.val = true → 250 ≤ u →
      ∃ t, exec (.forerunnerTimingWrite p set ch 7 u) s = .next t ∧ t.legacyPeriod p.val set.val = tapsOf u ∧ (tapsOf u < 2 ^ 23 → (t.timedChannels p.val set.val).all (t.channelOk p.val set.val) = true → ∀ k, k < 4 → (t.play (4 * p.val + k)).setPeriod set.val = tapsOf u) ∧ s.keeps t [.plays, .legacy]) ∧
  (∀ (s : State) (p : Fin 4) (set : Fin 16) (ch : Fin 256) (item : Fin 8) (u : Nat), s.persona p.val = true → ((item.val = 7 ∧ u < 250) ∨ (item.val = 6 ∧ 4 ≤ u)) →
      ∃ t, exec (.forerunnerTimingWrite p set ch item u) s = .next t ∧ t.legacy = s.legacy ∧ t.plays = s.plays ∧ t.rd R.DEV_LEGACY.REFUSED_PERIOD 0 = Nat.lor (s.rd R.DEV_LEGACY.REFUSED_PERIOD 0) (2 ^ p.val) % 16) ∧
  (∀ (s : State) (p : Fin 4) (set : Fin 16) (ch : Fin 256) (item : Fin 8) (u : Nat), s.persona p.val = false → ∃ t, exec (.forerunnerTimingWrite p set ch item u) s = .next t ∧ s.keeps t []) ∧
  (∀ (s : State) (p : Fin 4) (ch : Fin 256) (set dac : Fin 8) (mv : Int), s.persona p.val = false → ∃ t, exec (.forerunnerLevelWrite p ch set dac mv) s = .next t ∧ s.keeps t []) ∧
  (∀ (s : State) (p : Fin 4), s.persona p.val = false → ∃ t, exec (.forerunnerCalibrate p) s = .next t ∧ s.keeps t []) ∧
  (∀ (s : State) (p : Fin 4), s.persona p.val = false → ∃ t, exec (.forerunnerReset p) s = .next t ∧ s.keeps t []) ∧
  (∀ (s : State) (p : Fin 4) (ch : Fin 256) (set dac : Fin 8) (mv : Int), s.persona p.val = true → (boundedDac dac.val = false ∨ s.laneCodeOk (256 * p.val + ch.val) 3 (codeOf mv) = true) →
      ∃ t, exec (.forerunnerLevelWrite p ch set dac mv) s = .next t ∧ t.rd (lvlFld dac.val) (lvlInst (256 * p.val + ch.val) set.val dac.val) = codeOf mv ∧ bits (t.rd R.LVL_SPAN.SPAN (256 * p.val + ch.val)) (2 * dac.val) 2 = 3 ∧ smGet 0 t.legacy.levels (((p.val * 256 + ch.val) * 8 + set.val) * 8 + dac.val) = (mv + 32768).toNat) ∧
  (∀ (s : State) (p : Fin 4) (ch : Fin 256) (set dac : Fin 8) (mv : Int), s.persona p.val = true → boundedDac dac.val = true → s.laneCodeOk (256 * p.val + ch.val) 3 (codeOf mv) = false →
      ∃ t, exec (.forerunnerLevelWrite p ch set dac mv) s = .next t ∧ t.legacy = s.legacy ∧ t.rd R.LVL_STATUS.LIMIT_REFUSED (256 * p.val + ch.val) = 1) ∧
  (∀ (s : State) (rq : Req) (p : Fin 4) (k : Nat) (bytes : List Byte), s.reachable rq = true → s.m.mode = .legacy → s.legacyWin rq (0x4000000 * p.val + 0x2000000 + 8 * k) = some p.val → 8 * k < 0x2000000 → bytes.length = 8 →
      ∃ t, exec (.forerunnerVectorWrite rq (0x4000000 * p.val + 0x2000000 + 8 * k) bytes) s = .next t ∧ (t.store (4 * p.val + 8 * k % 128 / 32)).word (8 * k / 128) (8 * k % 32 / 8) = leVal (bytes.map BitVec.toNat) ∧ (∀ j, j < 16 → j ≠ 4 * p.val + 8 * k % 128 / 32 → t.store j = s.store j) ∧ t.rd R.HOST_REFUSE.COUNT 0 = s.rd R.HOST_REFUSE.COUNT 0) ∧
  ∀ (s : State) (f : Fin 64) (off : Nat) (bytes : List Byte), s.reachable (.fn f) = true → s.m.mode = .legacy → off % 8 = 0 → off < 0x10000000 → s.legacyWin (.fn f) off = none → bytes.length = 8 →
    ∃ t, exec (.forerunnerVectorWrite (.fn f) off bytes) s = .next t ∧ t.stores = s.stores ∧ t.rd R.HOST_REFUSE.COUNT f.val = min (s.rd R.HOST_REFUSE.COUNT f.val + 1) (2 ^ R.HOST_REFUSE.COUNT.width - 1) ∧ t.rd R.HOST_REFUSE_ADDR.BAR2 f.val = 1

/-- After reset the clock is a time of R431 and the device has its four key slots (R73), and the memories are in their canonical form. -/
def Obligations.ResetIsLegal : Prop :=
  (State.reset.legal) ∧
  Memory.wf State.reset = true

/-- From any state whose clock is a time of R431 and whose device has the four key slots of R73, every step leaves it so: the nanoseconds stay below one second, the seconds in 48 bits, the fraction in 32. -/
def Obligations.StepsKeepClockLegal : Prop :=
  ∀ s t : State, s.legal → step s = .next t → t.legal

/-- From any state whose addressed memories are in canonical form, every step leaves them so: the capture store, the boot flash, the non-volatile store and the stores of tiles and sequencers (R38, R40, R496). The form is the model's own. -/
def Obligations.StepsKeepMemoriesCanonical : Prop :=
  ∀ s t : State, Memory.wf s = true → step s = .next t → Memory.wf t = true

/-- The key fuses change only as a fuse command ends, and then only by gaining bits (R73 to R76): no command clears a hash bit or a revoke bit. -/
def Obligations.FusesOnlyGrow : Prop :=
  (∀ (c : Instr) (s t : State), exec c s = .next t → fusesGrown s.fuses t.fuses) ∧
  ∀ (c : Instr) (s t : State), exec c s = .next t → c ≠ .fuseCmdDone → t.fuses = s.fuses
end

