-- ==== Sys2Proof/Laws/SMap.lean ====
section
/-! SUPPORT. The laws of the sparse map: what a read after a write gives, and that every operation keeps the canonical form. -/

namespace Sys2Proof.Machine

variable {α : Type}

@[simp] theorem smGet_nil (d : α) (k : Nat) : smGet d [] k = d := rfl

theorem smGet_cons (d : α) (e : Nat × α) (m : SMap α) (k : Nat) : smGet d (e :: m) k = if k = e.1 then e.2 else smGet d m k := rfl

/-- Reading the key just listed. -/
@[simp] theorem smGet_smPut_same (d : α) (m : SMap α) (k : Nat) (v : α) : smGet d (smPut k v m) k = v := by
  induction m with
  | nil => simp [smPut, smGet_cons]
  | cons e r ih =>
    simp only [smPut]
    split
    · simp [smGet_cons]
    · split
      · simp [smGet_cons]
      · rename_i h
        simp [smGet_cons, h, ih]

/-- Listing a key leaves every other key alone. -/
@[simp] theorem smGet_smPut_ne (d : α) (m : SMap α) {k k' : Nat} (v : α) (h : k' ≠ k) : smGet d (smPut k v m) k' = smGet d m k' := by
  induction m with
  | nil => simp [smPut, smGet_cons, h]
  | cons e r ih =>
    simp only [smPut]
    split
    · simp [smGet_cons, h]
    · split
      · rename_i h1 h2
        simp [smGet_cons, h, ← h2]
      · simp [smGet_cons, ih]

@[simp] theorem smGet_smErase_same (d : α) (m : SMap α) (k : Nat) : smGet d (smErase k m) k = d := by
  induction m with
  | nil => rfl
  | cons e r ih =>
    simp only [smErase]
    split
    · exact ih
    · rename_i h
      simp [smGet_cons, h, ih]

@[simp] theorem smGet_smErase_ne (d : α) (m : SMap α) {k k' : Nat} (h : k' ≠ k) : smGet d (smErase k m) k' = smGet d m k' := by
  induction m with
  | nil => rfl
  | cons e r ih =>
    simp only [smErase]
    split
    · rename_i h1
      rw [ih, smGet_cons, if_neg (by rw [← h1]; exact h)]
    · simp [smGet_cons, ih]

/-- A read after a write of the same key gives what was written. -/
@[simp] theorem smGet_smSet_same [DecidableEq α] (d : α) (m : SMap α) (k : Nat) (v : α) : smGet d (smSet d m k v) k = v := by
  simp only [smSet]
  split
  · rename_i h
    simp [h]
  · simp

/-- A write leaves every other key alone, whatever default it is read with. -/
@[simp] theorem smGet_smSet_ne [DecidableEq α] (d d' : α) (m : SMap α) {k k' : Nat} (v : α) (h : k' ≠ k) :
    smGet d' (smSet d m k v) k' = smGet d' m k' := by
  simp only [smSet]
  split <;> simp [h]

/-- A key of the map after a write. -/
theorem mem_smPut {k : Nat} {v : α} {m : SMap α} {e : Nat × α} (h : e ∈ smPut k v m) : e = (k, v) ∨ e ∈ m := by
  induction m with
  | nil => simpa [smPut] using h
  | cons x r ih =>
    simp only [smPut] at h
    split at h
    · simpa using h
    · split at h
      · simp only [List.mem_cons] at h ⊢
        exact h.imp id Or.inr
      · simp only [List.mem_cons] at h ⊢
        rcases h with h | h
        · exact .inr (.inl h)
        · exact (ih h).imp id .inr

theorem mem_smErase {k : Nat} {m : SMap α} {e : Nat × α} (h : e ∈ smErase k m) : e ∈ m ∧ e.1 ≠ k := by
  induction m with
  | nil => simp [smErase] at h
  | cons x r ih =>
    simp only [smErase] at h
    split at h
    · exact ⟨List.mem_cons_of_mem _ (ih h).1, (ih h).2⟩
    · rename_i hk
      simp only [List.mem_cons] at h
      rcases h with rfl | h
      · exact ⟨by simp, fun h => hk h.symm⟩
      · exact ⟨List.mem_cons_of_mem _ (ih h).1, (ih h).2⟩

/-- Rising keys, as a statement about every later entry. -/
theorem smRising_cons {e : Nat × α} {m : SMap α} : smRising (e :: m) = true ↔ (∀ x ∈ m, e.1 < x.1) ∧ smRising m = true := by
  induction m generalizing e with
  | nil => simp [smRising]
  | cons y r ih =>
    simp only [smRising, Bool.and_eq_true, decide_eq_true_eq, List.mem_cons, forall_eq_or_imp]
    constructor
    · rintro ⟨h, hr⟩
      exact ⟨⟨h, fun x hx => Nat.lt_trans h ((ih.mp hr).1 x hx)⟩, hr⟩
    · rintro ⟨⟨h, -⟩, hr⟩
      exact ⟨h, hr⟩

theorem smRising_smPut {m : SMap α} (k : Nat) (v : α) (h : smRising m = true) : smRising (smPut k v m) = true := by
  induction m with
  | nil => rfl
  | cons e r ih =>
    obtain ⟨h1, h2⟩ := smRising_cons.mp h
    simp only [smPut]
    split
    · rename_i hk
      refine smRising_cons.mpr ⟨?_, smRising_cons.mpr ⟨h1, h2⟩⟩
      intro x hx
      rcases List.mem_cons.mp hx with rfl | hx
      · exact hk
      · exact Nat.lt_trans hk (h1 x hx)
    · split
      · rename_i hk
        exact smRising_cons.mpr ⟨fun x hx => by simpa [hk] using h1 x hx, h2⟩
      · rename_i hlt hne
        refine smRising_cons.mpr ⟨?_, ih h2⟩
        intro x hx
        rcases mem_smPut hx with rfl | hx
        · simp only at hlt hne ⊢; omega
        · exact h1 x hx

theorem smRising_smErase {m : SMap α} (k : Nat) (h : smRising m = true) : smRising (smErase k m) = true := by
  induction m with
  | nil => rfl
  | cons e r ih =>
    obtain ⟨h1, h2⟩ := smRising_cons.mp h
    simp only [smErase]
    split
    · exact ih h2
    · exact smRising_cons.mpr ⟨fun x hx => h1 x (mem_smErase hx).1, ih h2⟩

theorem smRising_smKeep {m : SMap α} (p : Nat → Bool) (h : smRising m = true) : smRising (smKeep p m) = true := by
  induction m with
  | nil => rfl
  | cons e r ih =>
    obtain ⟨h1, h2⟩ := smRising_cons.mp h
    simp only [smKeep, List.filter_cons]
    split
    · exact smRising_cons.mpr ⟨fun x hx => h1 x (List.mem_filter.mp hx).1, ih h2⟩
    · exact ih h2

theorem smWf_iff [DecidableEq α] {d : Nat → α} {m : SMap α} : smWf d m = true ↔ smRising m = true ∧ ∀ e ∈ m, e.2 ≠ d e.1 := by
  simp [smWf]

/-- A write keeps the canonical form. -/
theorem smWf_smSet [DecidableEq α] {d : Nat → α} {m : SMap α} (k : Nat) (v : α) (h : smWf d m = true) : smWf d (smSet (d k) m k v) = true := by
  obtain ⟨h1, h2⟩ := smWf_iff.mp h
  simp only [smSet]
  split
  · exact smWf_iff.mpr ⟨smRising_smErase k h1, fun e he => h2 e (mem_smErase he).1⟩
  · rename_i hv
    refine smWf_iff.mpr ⟨smRising_smPut k v h1, fun e he => ?_⟩
    rcases mem_smPut he with rfl | he
    · exact hv
    · exact h2 e he

/-- Dropping keys keeps the canonical form. -/
theorem smWf_smKeep [DecidableEq α] {d : Nat → α} {m : SMap α} (p : Nat → Bool) (h : smWf d m = true) : smWf d (smKeep p m) = true := by
  obtain ⟨h1, h2⟩ := smWf_iff.mp h
  exact smWf_iff.mpr ⟨smRising_smKeep p h1, fun e he => h2 e (List.mem_filter.mp he).1⟩

/-- Writing bytes keeps the canonical form. -/
theorem smWf_smWrite {d : Nat} (l : List Nat) {m : SMap Nat} (k : Nat) (h : smWf (fun _ => d) m = true) : smWf (fun _ => d) (smWrite d m k l) = true := by
  induction l generalizing m k with
  | nil => exact h
  | cons b r ih => exact ih _ (smWf_smSet (d := fun _ => d) k (b % 256) h)

/-- Bytes outside those written read as before. -/
theorem smGet_smWrite_ne {d : Nat} (l : List Nat) {m : SMap Nat} {k a : Nat} (h : a < k ∨ k + l.length ≤ a) : smGet d (smWrite d m k l) a = smGet d m a := by
  induction l generalizing m k with
  | nil => rfl
  | cons b r ih =>
    simp only [List.length_cons] at h
    rw [smWrite, ih (by omega), smGet_smSet_ne _ _ _ _ (by omega)]

/-- A key kept reads as before; a key dropped reads its default. -/
theorem smGet_smKeep (d : α) (p : Nat → Bool) (m : SMap α) (k : Nat) : smGet d (smKeep p m) k = if p k then smGet d m k else d := by
  induction m with
  | nil => simp [smKeep]
  | cons e r ih =>
    have ih' : smGet d (List.filter (fun e => p e.1) r) k = if p k then smGet d r k else d := ih
    simp only [smKeep, List.filter_cons]
    by_cases hp : p e.1 = true
    · rw [if_pos hp, smGet_cons, ih', smGet_cons]
      by_cases hk : k = e.1
      · subst hk; simp [hp]
      · simp [hk]
    · rw [if_neg hp, ih', smGet_cons]
      by_cases hk : k = e.1
      · subst hk; simp [hp]
      · simp [hk]

/-- What is not kept may be set to anything. -/
theorem smKeep_smSet [DecidableEq α] (d : α) (p : Nat → Bool) (m : SMap α) (k : Nat) (v : α) (h : p k = false) : smKeep p (smSet d m k v) = smKeep p m := by
  have he : smKeep p (smErase k m) = smKeep p m := by
    induction m with
    | nil => rfl
    | cons e r ih =>
      simp only [smErase, smKeep] at ih ⊢
      split
      · rename_i hk; rw [ih, List.filter_cons_of_neg (by simp [← hk, h])]
      · simp only [List.filter_cons, ih]
  have hp : smKeep p (smPut k v m) = smKeep p m := by
    clear he
    induction m with
    | nil => simp [smPut, smKeep, h]
    | cons e r ih =>
      simp only [smPut, smKeep] at ih ⊢
      split
      · simp [h]
      · split
        · rename_i hk; rw [List.filter_cons_of_neg (by simp [h]), List.filter_cons_of_neg (by simp [← hk, h])]
        · simp only [List.filter_cons, ih]
  unfold smSet
  split
  · exact he
  · exact hp

end Sys2Proof.Machine
end

