-- ==== Sys2Proof/Laws/State.lean ====
section
/-! SUPPORT. What each update of the state leaves alone, field by field, and what it gives to read. -/

namespace Sys2Proof.Machine

variable (s : State)

@[simp] theorem State.wr_pending (f : Fld) (i v : Nat) : (s.wr f i v).pending = s.pending := rfl
@[simp] theorem State.wr_clock (f : Fld) (i v : Nat) : (s.wr f i v).clock = s.clock := rfl
@[simp] theorem State.wr_fuses (f : Fld) (i v : Nat) : (s.wr f i v).fuses = s.fuses := rfl
@[simp] theorem State.wr_m (f : Fld) (i v : Nat) : (s.wr f i v).m = s.m := rfl
@[simp] theorem State.wr_image (f : Fld) (i v : Nat) : (s.wr f i v).image = s.image := rfl
@[simp] theorem State.wr_hub (f : Fld) (i v : Nat) : (s.wr f i v).hub = s.hub := rfl
@[simp] theorem State.wr_time (f : Fld) (i v : Nat) : (s.wr f i v).time = s.time := rfl
@[simp] theorem State.wr_log (f : Fld) (i v : Nat) : (s.wr f i v).log = s.log := rfl
@[simp] theorem State.wr_nvm (f : Fld) (i v : Nat) : (s.wr f i v).nvm = s.nvm := rfl
@[simp] theorem State.wr_spare (f : Fld) (i v : Nat) : (s.wr f i v).spare = s.spare := rfl
@[simp] theorem State.wr_host (f : Fld) (i v : Nat) : (s.wr f i v).host = s.host := rfl
@[simp] theorem State.wr_lanes (f : Fld) (i v : Nat) : (s.wr f i v).lanes = s.lanes := rfl
@[simp] theorem State.wr_dacs (f : Fld) (i v : Nat) : (s.wr f i v).dacs = s.dacs := rfl
@[simp] theorem State.wr_adcs (f : Fld) (i v : Nat) : (s.wr f i v).adcs = s.adcs := rfl
@[simp] theorem State.wr_smus (f : Fld) (i v : Nat) : (s.wr f i v).smus = s.smus := rfl
@[simp] theorem State.wr_dpss (f : Fld) (i v : Nat) : (s.wr f i v).dpss = s.dpss := rfl
@[simp] theorem State.wr_cals (f : Fld) (i v : Nat) : (s.wr f i v).cals = s.cals := rfl
@[simp] theorem State.wr_trims (f : Fld) (i v : Nat) : (s.wr f i v).trims = s.trims := rfl
@[simp] theorem State.wr_targets (f : Fld) (i v : Nat) : (s.wr f i v).targets = s.targets := rfl
@[simp] theorem State.wr_results (f : Fld) (i v : Nat) : (s.wr f i v).results = s.results := rfl
@[simp] theorem State.wr_plays (f : Fld) (i v : Nat) : (s.wr f i v).plays = s.plays := rfl
@[simp] theorem State.wr_stores (f : Fld) (i v : Nat) : (s.wr f i v).stores = s.stores := rfl
@[simp] theorem State.wr_seqs (f : Fld) (i v : Nat) : (s.wr f i v).seqs = s.seqs := rfl
@[simp] theorem State.wr_tdcs (f : Fld) (i v : Nat) : (s.wr f i v).tdcs = s.tdcs := rfl
@[simp] theorem State.wr_red (f : Fld) (i v : Nat) : (s.wr f i v).red = s.red := rfl
@[simp] theorem State.wr_acqs (f : Fld) (i v : Nat) : (s.wr f i v).acqs = s.acqs := rfl
@[simp] theorem State.wr_cap (f : Fld) (i v : Nat) : (s.wr f i v).cap = s.cap := rfl
@[simp] theorem State.wr_capEcc (f : Fld) (i v : Nat) : (s.wr f i v).capEcc = s.capEcc := rfl
@[simp] theorem State.wr_flash (f : Fld) (i v : Nat) : (s.wr f i v).flash = s.flash := rfl
@[simp] theorem State.wr_spi (f : Fld) (i v : Nat) : (s.wr f i v).spi = s.spi := rfl
@[simp] theorem State.wr_hk (f : Fld) (i v : Nat) : (s.wr f i v).hk = s.hk := rfl
@[simp] theorem State.wr_legacy (f : Fld) (i v : Nat) : (s.wr f i v).legacy = s.legacy := rfl
@[simp] theorem State.wr_out (f : Fld) (i v : Nat) : (s.wr f i v).out = s.out := rfl
@[simp] theorem State.wr_free (f : Fld) (i v : Nat) : (s.wr f i v).free = s.free := rfl
@[simp] theorem State.wr_src (f : Fld) (i v : Nat) (k : Nat) : (s.wr f i v).src k = s.src k := rfl
@[simp] theorem State.wr_queue (f : Fld) (i v : Nat) (k : Nat) : (s.wr f i v).queue k = s.queue k := rfl
@[simp] theorem State.wr_lane (f : Fld) (i v : Nat) (k : Nat) : (s.wr f i v).lane k = s.lane k := rfl
@[simp] theorem State.wr_dac (f : Fld) (i v : Nat) (k : Nat) : (s.wr f i v).dac k = s.dac k := rfl
@[simp] theorem State.wr_adc (f : Fld) (i v : Nat) (k : Nat) : (s.wr f i v).adc k = s.adc k := rfl
@[simp] theorem State.wr_smu (f : Fld) (i v : Nat) (k : Nat) : (s.wr f i v).smu k = s.smu k := rfl
@[simp] theorem State.wr_dps (f : Fld) (i v : Nat) (k : Nat) : (s.wr f i v).dps k = s.dps k := rfl
@[simp] theorem State.wr_play (f : Fld) (i v : Nat) (k : Nat) : (s.wr f i v).play k = s.play k := rfl
@[simp] theorem State.wr_store (f : Fld) (i v : Nat) (k : Nat) : (s.wr f i v).store k = s.store k := rfl
@[simp] theorem State.wr_seq (f : Fld) (i v : Nat) (k : Nat) : (s.wr f i v).seq k = s.seq k := rfl
@[simp] theorem State.wr_tdc (f : Fld) (i v : Nat) (k : Nat) : (s.wr f i v).tdc k = s.tdc k := rfl
@[simp] theorem State.wr_acq (f : Fld) (i v : Nat) (k : Nat) : (s.wr f i v).acq k = s.acq k := rfl
@[simp] theorem State.wr_cal (f : Fld) (i v : Nat) (k : Nat) : (s.wr f i v).cal k = s.cal k := rfl
@[simp] theorem State.wr_port (f : Fld) (i v : Nat) (k : Nat) : (s.wr f i v).port k = s.port k := rfl
@[simp] theorem State.wr_tev (f : Fld) (i v : Nat) (k : Nat) : (s.wr f i v).tev k = s.tev k := rfl
@[simp] theorem State.wr_ring (f : Fld) (i v : Nat) (k : Nat) : (s.wr f i v).ring k = s.ring k := rfl
@[simp] theorem State.wr_ctx (f : Fld) (i v : Nat) (k : Nat) : (s.wr f i v).ctx k = s.ctx k := rfl

@[simp] theorem State.wb_pending (f : Fld) (i : Nat) (b : Bool) : (s.wb f i b).pending = s.pending := rfl
@[simp] theorem State.wb_clock (f : Fld) (i : Nat) (b : Bool) : (s.wb f i b).clock = s.clock := rfl
@[simp] theorem State.wb_fuses (f : Fld) (i : Nat) (b : Bool) : (s.wb f i b).fuses = s.fuses := rfl
@[simp] theorem State.wb_m (f : Fld) (i : Nat) (b : Bool) : (s.wb f i b).m = s.m := rfl
@[simp] theorem State.wb_image (f : Fld) (i : Nat) (b : Bool) : (s.wb f i b).image = s.image := rfl
@[simp] theorem State.wb_hub (f : Fld) (i : Nat) (b : Bool) : (s.wb f i b).hub = s.hub := rfl
@[simp] theorem State.wb_time (f : Fld) (i : Nat) (b : Bool) : (s.wb f i b).time = s.time := rfl
@[simp] theorem State.wb_log (f : Fld) (i : Nat) (b : Bool) : (s.wb f i b).log = s.log := rfl
@[simp] theorem State.wb_nvm (f : Fld) (i : Nat) (b : Bool) : (s.wb f i b).nvm = s.nvm := rfl
@[simp] theorem State.wb_spare (f : Fld) (i : Nat) (b : Bool) : (s.wb f i b).spare = s.spare := rfl
@[simp] theorem State.wb_host (f : Fld) (i : Nat) (b : Bool) : (s.wb f i b).host = s.host := rfl
@[simp] theorem State.wb_lanes (f : Fld) (i : Nat) (b : Bool) : (s.wb f i b).lanes = s.lanes := rfl
@[simp] theorem State.wb_dacs (f : Fld) (i : Nat) (b : Bool) : (s.wb f i b).dacs = s.dacs := rfl
@[simp] theorem State.wb_adcs (f : Fld) (i : Nat) (b : Bool) : (s.wb f i b).adcs = s.adcs := rfl
@[simp] theorem State.wb_smus (f : Fld) (i : Nat) (b : Bool) : (s.wb f i b).smus = s.smus := rfl
@[simp] theorem State.wb_dpss (f : Fld) (i : Nat) (b : Bool) : (s.wb f i b).dpss = s.dpss := rfl
@[simp] theorem State.wb_cals (f : Fld) (i : Nat) (b : Bool) : (s.wb f i b).cals = s.cals := rfl
@[simp] theorem State.wb_trims (f : Fld) (i : Nat) (b : Bool) : (s.wb f i b).trims = s.trims := rfl
@[simp] theorem State.wb_targets (f : Fld) (i : Nat) (b : Bool) : (s.wb f i b).targets = s.targets := rfl
@[simp] theorem State.wb_results (f : Fld) (i : Nat) (b : Bool) : (s.wb f i b).results = s.results := rfl
@[simp] theorem State.wb_plays (f : Fld) (i : Nat) (b : Bool) : (s.wb f i b).plays = s.plays := rfl
@[simp] theorem State.wb_stores (f : Fld) (i : Nat) (b : Bool) : (s.wb f i b).stores = s.stores := rfl
@[simp] theorem State.wb_seqs (f : Fld) (i : Nat) (b : Bool) : (s.wb f i b).seqs = s.seqs := rfl
@[simp] theorem State.wb_tdcs (f : Fld) (i : Nat) (b : Bool) : (s.wb f i b).tdcs = s.tdcs := rfl
@[simp] theorem State.wb_red (f : Fld) (i : Nat) (b : Bool) : (s.wb f i b).red = s.red := rfl
@[simp] theorem State.wb_acqs (f : Fld) (i : Nat) (b : Bool) : (s.wb f i b).acqs = s.acqs := rfl
@[simp] theorem State.wb_cap (f : Fld) (i : Nat) (b : Bool) : (s.wb f i b).cap = s.cap := rfl
@[simp] theorem State.wb_capEcc (f : Fld) (i : Nat) (b : Bool) : (s.wb f i b).capEcc = s.capEcc := rfl
@[simp] theorem State.wb_flash (f : Fld) (i : Nat) (b : Bool) : (s.wb f i b).flash = s.flash := rfl
@[simp] theorem State.wb_spi (f : Fld) (i : Nat) (b : Bool) : (s.wb f i b).spi = s.spi := rfl
@[simp] theorem State.wb_hk (f : Fld) (i : Nat) (b : Bool) : (s.wb f i b).hk = s.hk := rfl
@[simp] theorem State.wb_legacy (f : Fld) (i : Nat) (b : Bool) : (s.wb f i b).legacy = s.legacy := rfl
@[simp] theorem State.wb_out (f : Fld) (i : Nat) (b : Bool) : (s.wb f i b).out = s.out := rfl
@[simp] theorem State.wb_free (f : Fld) (i : Nat) (b : Bool) : (s.wb f i b).free = s.free := rfl
@[simp] theorem State.wb_src (f : Fld) (i : Nat) (b : Bool) (k : Nat) : (s.wb f i b).src k = s.src k := rfl
@[simp] theorem State.wb_queue (f : Fld) (i : Nat) (b : Bool) (k : Nat) : (s.wb f i b).queue k = s.queue k := rfl
@[simp] theorem State.wb_lane (f : Fld) (i : Nat) (b : Bool) (k : Nat) : (s.wb f i b).lane k = s.lane k := rfl
@[simp] theorem State.wb_dac (f : Fld) (i : Nat) (b : Bool) (k : Nat) : (s.wb f i b).dac k = s.dac k := rfl
@[simp] theorem State.wb_adc (f : Fld) (i : Nat) (b : Bool) (k : Nat) : (s.wb f i b).adc k = s.adc k := rfl
@[simp] theorem State.wb_smu (f : Fld) (i : Nat) (b : Bool) (k : Nat) : (s.wb f i b).smu k = s.smu k := rfl
@[simp] theorem State.wb_dps (f : Fld) (i : Nat) (b : Bool) (k : Nat) : (s.wb f i b).dps k = s.dps k := rfl
@[simp] theorem State.wb_play (f : Fld) (i : Nat) (b : Bool) (k : Nat) : (s.wb f i b).play k = s.play k := rfl
@[simp] theorem State.wb_store (f : Fld) (i : Nat) (b : Bool) (k : Nat) : (s.wb f i b).store k = s.store k := rfl
@[simp] theorem State.wb_seq (f : Fld) (i : Nat) (b : Bool) (k : Nat) : (s.wb f i b).seq k = s.seq k := rfl
@[simp] theorem State.wb_tdc (f : Fld) (i : Nat) (b : Bool) (k : Nat) : (s.wb f i b).tdc k = s.tdc k := rfl
@[simp] theorem State.wb_acq (f : Fld) (i : Nat) (b : Bool) (k : Nat) : (s.wb f i b).acq k = s.acq k := rfl
@[simp] theorem State.wb_cal (f : Fld) (i : Nat) (b : Bool) (k : Nat) : (s.wb f i b).cal k = s.cal k := rfl
@[simp] theorem State.wb_port (f : Fld) (i : Nat) (b : Bool) (k : Nat) : (s.wb f i b).port k = s.port k := rfl
@[simp] theorem State.wb_tev (f : Fld) (i : Nat) (b : Bool) (k : Nat) : (s.wb f i b).tev k = s.tev k := rfl
@[simp] theorem State.wb_ring (f : Fld) (i : Nat) (b : Bool) (k : Nat) : (s.wb f i b).ring k = s.ring k := rfl
@[simp] theorem State.wb_ctx (f : Fld) (i : Nat) (b : Bool) (k : Nat) : (s.wb f i b).ctx k = s.ctx k := rfl

@[simp] theorem State.bump_pending (f : Fld) (i n : Nat) : (s.bump f i n).pending = s.pending := rfl
@[simp] theorem State.bump_clock (f : Fld) (i n : Nat) : (s.bump f i n).clock = s.clock := rfl
@[simp] theorem State.bump_fuses (f : Fld) (i n : Nat) : (s.bump f i n).fuses = s.fuses := rfl
@[simp] theorem State.bump_m (f : Fld) (i n : Nat) : (s.bump f i n).m = s.m := rfl
@[simp] theorem State.bump_image (f : Fld) (i n : Nat) : (s.bump f i n).image = s.image := rfl
@[simp] theorem State.bump_hub (f : Fld) (i n : Nat) : (s.bump f i n).hub = s.hub := rfl
@[simp] theorem State.bump_time (f : Fld) (i n : Nat) : (s.bump f i n).time = s.time := rfl
@[simp] theorem State.bump_log (f : Fld) (i n : Nat) : (s.bump f i n).log = s.log := rfl
@[simp] theorem State.bump_nvm (f : Fld) (i n : Nat) : (s.bump f i n).nvm = s.nvm := rfl
@[simp] theorem State.bump_spare (f : Fld) (i n : Nat) : (s.bump f i n).spare = s.spare := rfl
@[simp] theorem State.bump_host (f : Fld) (i n : Nat) : (s.bump f i n).host = s.host := rfl
@[simp] theorem State.bump_lanes (f : Fld) (i n : Nat) : (s.bump f i n).lanes = s.lanes := rfl
@[simp] theorem State.bump_dacs (f : Fld) (i n : Nat) : (s.bump f i n).dacs = s.dacs := rfl
@[simp] theorem State.bump_adcs (f : Fld) (i n : Nat) : (s.bump f i n).adcs = s.adcs := rfl
@[simp] theorem State.bump_smus (f : Fld) (i n : Nat) : (s.bump f i n).smus = s.smus := rfl
@[simp] theorem State.bump_dpss (f : Fld) (i n : Nat) : (s.bump f i n).dpss = s.dpss := rfl
@[simp] theorem State.bump_cals (f : Fld) (i n : Nat) : (s.bump f i n).cals = s.cals := rfl
@[simp] theorem State.bump_trims (f : Fld) (i n : Nat) : (s.bump f i n).trims = s.trims := rfl
@[simp] theorem State.bump_targets (f : Fld) (i n : Nat) : (s.bump f i n).targets = s.targets := rfl
@[simp] theorem State.bump_results (f : Fld) (i n : Nat) : (s.bump f i n).results = s.results := rfl
@[simp] theorem State.bump_plays (f : Fld) (i n : Nat) : (s.bump f i n).plays = s.plays := rfl
@[simp] theorem State.bump_stores (f : Fld) (i n : Nat) : (s.bump f i n).stores = s.stores := rfl
@[simp] theorem State.bump_seqs (f : Fld) (i n : Nat) : (s.bump f i n).seqs = s.seqs := rfl
@[simp] theorem State.bump_tdcs (f : Fld) (i n : Nat) : (s.bump f i n).tdcs = s.tdcs := rfl
@[simp] theorem State.bump_red (f : Fld) (i n : Nat) : (s.bump f i n).red = s.red := rfl
@[simp] theorem State.bump_acqs (f : Fld) (i n : Nat) : (s.bump f i n).acqs = s.acqs := rfl
@[simp] theorem State.bump_cap (f : Fld) (i n : Nat) : (s.bump f i n).cap = s.cap := rfl
@[simp] theorem State.bump_capEcc (f : Fld) (i n : Nat) : (s.bump f i n).capEcc = s.capEcc := rfl
@[simp] theorem State.bump_flash (f : Fld) (i n : Nat) : (s.bump f i n).flash = s.flash := rfl
@[simp] theorem State.bump_spi (f : Fld) (i n : Nat) : (s.bump f i n).spi = s.spi := rfl
@[simp] theorem State.bump_hk (f : Fld) (i n : Nat) : (s.bump f i n).hk = s.hk := rfl
@[simp] theorem State.bump_legacy (f : Fld) (i n : Nat) : (s.bump f i n).legacy = s.legacy := rfl
@[simp] theorem State.bump_out (f : Fld) (i n : Nat) : (s.bump f i n).out = s.out := rfl
@[simp] theorem State.bump_free (f : Fld) (i n : Nat) : (s.bump f i n).free = s.free := rfl
@[simp] theorem State.bump_src (f : Fld) (i n : Nat) (k : Nat) : (s.bump f i n).src k = s.src k := rfl
@[simp] theorem State.bump_queue (f : Fld) (i n : Nat) (k : Nat) : (s.bump f i n).queue k = s.queue k := rfl
@[simp] theorem State.bump_lane (f : Fld) (i n : Nat) (k : Nat) : (s.bump f i n).lane k = s.lane k := rfl
@[simp] theorem State.bump_dac (f : Fld) (i n : Nat) (k : Nat) : (s.bump f i n).dac k = s.dac k := rfl
@[simp] theorem State.bump_adc (f : Fld) (i n : Nat) (k : Nat) : (s.bump f i n).adc k = s.adc k := rfl
@[simp] theorem State.bump_smu (f : Fld) (i n : Nat) (k : Nat) : (s.bump f i n).smu k = s.smu k := rfl
@[simp] theorem State.bump_dps (f : Fld) (i n : Nat) (k : Nat) : (s.bump f i n).dps k = s.dps k := rfl
@[simp] theorem State.bump_play (f : Fld) (i n : Nat) (k : Nat) : (s.bump f i n).play k = s.play k := rfl
@[simp] theorem State.bump_store (f : Fld) (i n : Nat) (k : Nat) : (s.bump f i n).store k = s.store k := rfl
@[simp] theorem State.bump_seq (f : Fld) (i n : Nat) (k : Nat) : (s.bump f i n).seq k = s.seq k := rfl
@[simp] theorem State.bump_tdc (f : Fld) (i n : Nat) (k : Nat) : (s.bump f i n).tdc k = s.tdc k := rfl
@[simp] theorem State.bump_acq (f : Fld) (i n : Nat) (k : Nat) : (s.bump f i n).acq k = s.acq k := rfl
@[simp] theorem State.bump_cal (f : Fld) (i n : Nat) (k : Nat) : (s.bump f i n).cal k = s.cal k := rfl
@[simp] theorem State.bump_port (f : Fld) (i n : Nat) (k : Nat) : (s.bump f i n).port k = s.port k := rfl
@[simp] theorem State.bump_tev (f : Fld) (i n : Nat) (k : Nat) : (s.bump f i n).tev k = s.tev k := rfl
@[simp] theorem State.bump_ring (f : Fld) (i n : Nat) (k : Nat) : (s.bump f i n).ring k = s.ring k := rfl
@[simp] theorem State.bump_ctx (f : Fld) (i n : Nat) (k : Nat) : (s.bump f i n).ctx k = s.ctx k := rfl

@[simp] theorem State.send_pending (o : Out) : (s.send o).pending = s.pending := rfl
@[simp] theorem State.send_clock (o : Out) : (s.send o).clock = s.clock := rfl
@[simp] theorem State.send_fuses (o : Out) : (s.send o).fuses = s.fuses := rfl
@[simp] theorem State.send_regs (o : Out) : (s.send o).regs = s.regs := rfl
@[simp] theorem State.send_m (o : Out) : (s.send o).m = s.m := rfl
@[simp] theorem State.send_image (o : Out) : (s.send o).image = s.image := rfl
@[simp] theorem State.send_hub (o : Out) : (s.send o).hub = s.hub := rfl
@[simp] theorem State.send_time (o : Out) : (s.send o).time = s.time := rfl
@[simp] theorem State.send_log (o : Out) : (s.send o).log = s.log := rfl
@[simp] theorem State.send_nvm (o : Out) : (s.send o).nvm = s.nvm := rfl
@[simp] theorem State.send_spare (o : Out) : (s.send o).spare = s.spare := rfl
@[simp] theorem State.send_host (o : Out) : (s.send o).host = s.host := rfl
@[simp] theorem State.send_lanes (o : Out) : (s.send o).lanes = s.lanes := rfl
@[simp] theorem State.send_dacs (o : Out) : (s.send o).dacs = s.dacs := rfl
@[simp] theorem State.send_adcs (o : Out) : (s.send o).adcs = s.adcs := rfl
@[simp] theorem State.send_smus (o : Out) : (s.send o).smus = s.smus := rfl
@[simp] theorem State.send_dpss (o : Out) : (s.send o).dpss = s.dpss := rfl
@[simp] theorem State.send_cals (o : Out) : (s.send o).cals = s.cals := rfl
@[simp] theorem State.send_trims (o : Out) : (s.send o).trims = s.trims := rfl
@[simp] theorem State.send_targets (o : Out) : (s.send o).targets = s.targets := rfl
@[simp] theorem State.send_results (o : Out) : (s.send o).results = s.results := rfl
@[simp] theorem State.send_plays (o : Out) : (s.send o).plays = s.plays := rfl
@[simp] theorem State.send_stores (o : Out) : (s.send o).stores = s.stores := rfl
@[simp] theorem State.send_seqs (o : Out) : (s.send o).seqs = s.seqs := rfl
@[simp] theorem State.send_tdcs (o : Out) : (s.send o).tdcs = s.tdcs := rfl
@[simp] theorem State.send_red (o : Out) : (s.send o).red = s.red := rfl
@[simp] theorem State.send_acqs (o : Out) : (s.send o).acqs = s.acqs := rfl
@[simp] theorem State.send_cap (o : Out) : (s.send o).cap = s.cap := rfl
@[simp] theorem State.send_capEcc (o : Out) : (s.send o).capEcc = s.capEcc := rfl
@[simp] theorem State.send_flash (o : Out) : (s.send o).flash = s.flash := rfl
@[simp] theorem State.send_spi (o : Out) : (s.send o).spi = s.spi := rfl
@[simp] theorem State.send_hk (o : Out) : (s.send o).hk = s.hk := rfl
@[simp] theorem State.send_legacy (o : Out) : (s.send o).legacy = s.legacy := rfl
@[simp] theorem State.send_free (o : Out) : (s.send o).free = s.free := rfl
@[simp] theorem State.send_rd (o : Out) (g : Fld) (j : Nat) : (s.send o).rd g j = s.rd g j := rfl
@[simp] theorem State.send_fl (o : Out) (g : Fld) (j : Nat) : (s.send o).fl g j = s.fl g j := rfl
@[simp] theorem State.send_src (o : Out) (k : Nat) : (s.send o).src k = s.src k := rfl
@[simp] theorem State.send_queue (o : Out) (k : Nat) : (s.send o).queue k = s.queue k := rfl
@[simp] theorem State.send_lane (o : Out) (k : Nat) : (s.send o).lane k = s.lane k := rfl
@[simp] theorem State.send_dac (o : Out) (k : Nat) : (s.send o).dac k = s.dac k := rfl
@[simp] theorem State.send_adc (o : Out) (k : Nat) : (s.send o).adc k = s.adc k := rfl
@[simp] theorem State.send_smu (o : Out) (k : Nat) : (s.send o).smu k = s.smu k := rfl
@[simp] theorem State.send_dps (o : Out) (k : Nat) : (s.send o).dps k = s.dps k := rfl
@[simp] theorem State.send_play (o : Out) (k : Nat) : (s.send o).play k = s.play k := rfl
@[simp] theorem State.send_store (o : Out) (k : Nat) : (s.send o).store k = s.store k := rfl
@[simp] theorem State.send_seq (o : Out) (k : Nat) : (s.send o).seq k = s.seq k := rfl
@[simp] theorem State.send_tdc (o : Out) (k : Nat) : (s.send o).tdc k = s.tdc k := rfl
@[simp] theorem State.send_acq (o : Out) (k : Nat) : (s.send o).acq k = s.acq k := rfl
@[simp] theorem State.send_cal (o : Out) (k : Nat) : (s.send o).cal k = s.cal k := rfl
@[simp] theorem State.send_port (o : Out) (k : Nat) : (s.send o).port k = s.port k := rfl
@[simp] theorem State.send_tev (o : Out) (k : Nat) : (s.send o).tev k = s.tev k := rfl
@[simp] theorem State.send_ring (o : Out) (k : Nat) : (s.send o).ring k = s.ring k := rfl
@[simp] theorem State.send_ctx (o : Out) (k : Nat) : (s.send o).ctx k = s.ctx k := rfl

@[simp] theorem State.raiseD_pending (n d : Nat) : (s.raiseD n d).pending = s.pending := rfl
@[simp] theorem State.raiseD_clock (n d : Nat) : (s.raiseD n d).clock = s.clock := rfl
@[simp] theorem State.raiseD_fuses (n d : Nat) : (s.raiseD n d).fuses = s.fuses := rfl
@[simp] theorem State.raiseD_regs (n d : Nat) : (s.raiseD n d).regs = s.regs := rfl
@[simp] theorem State.raiseD_m (n d : Nat) : (s.raiseD n d).m = s.m := rfl
@[simp] theorem State.raiseD_image (n d : Nat) : (s.raiseD n d).image = s.image := rfl
@[simp] theorem State.raiseD_time (n d : Nat) : (s.raiseD n d).time = s.time := rfl
@[simp] theorem State.raiseD_log (n d : Nat) : (s.raiseD n d).log = s.log := rfl
@[simp] theorem State.raiseD_nvm (n d : Nat) : (s.raiseD n d).nvm = s.nvm := rfl
@[simp] theorem State.raiseD_spare (n d : Nat) : (s.raiseD n d).spare = s.spare := rfl
@[simp] theorem State.raiseD_host (n d : Nat) : (s.raiseD n d).host = s.host := rfl
@[simp] theorem State.raiseD_lanes (n d : Nat) : (s.raiseD n d).lanes = s.lanes := rfl
@[simp] theorem State.raiseD_dacs (n d : Nat) : (s.raiseD n d).dacs = s.dacs := rfl
@[simp] theorem State.raiseD_adcs (n d : Nat) : (s.raiseD n d).adcs = s.adcs := rfl
@[simp] theorem State.raiseD_smus (n d : Nat) : (s.raiseD n d).smus = s.smus := rfl
@[simp] theorem State.raiseD_dpss (n d : Nat) : (s.raiseD n d).dpss = s.dpss := rfl
@[simp] theorem State.raiseD_cals (n d : Nat) : (s.raiseD n d).cals = s.cals := rfl
@[simp] theorem State.raiseD_trims (n d : Nat) : (s.raiseD n d).trims = s.trims := rfl
@[simp] theorem State.raiseD_targets (n d : Nat) : (s.raiseD n d).targets = s.targets := rfl
@[simp] theorem State.raiseD_results (n d : Nat) : (s.raiseD n d).results = s.results := rfl
@[simp] theorem State.raiseD_plays (n d : Nat) : (s.raiseD n d).plays = s.plays := rfl
@[simp] theorem State.raiseD_stores (n d : Nat) : (s.raiseD n d).stores = s.stores := rfl
@[simp] theorem State.raiseD_seqs (n d : Nat) : (s.raiseD n d).seqs = s.seqs := rfl
@[simp] theorem State.raiseD_tdcs (n d : Nat) : (s.raiseD n d).tdcs = s.tdcs := rfl
@[simp] theorem State.raiseD_red (n d : Nat) : (s.raiseD n d).red = s.red := rfl
@[simp] theorem State.raiseD_acqs (n d : Nat) : (s.raiseD n d).acqs = s.acqs := rfl
@[simp] theorem State.raiseD_cap (n d : Nat) : (s.raiseD n d).cap = s.cap := rfl
@[simp] theorem State.raiseD_capEcc (n d : Nat) : (s.raiseD n d).capEcc = s.capEcc := rfl
@[simp] theorem State.raiseD_flash (n d : Nat) : (s.raiseD n d).flash = s.flash := rfl
@[simp] theorem State.raiseD_spi (n d : Nat) : (s.raiseD n d).spi = s.spi := rfl
@[simp] theorem State.raiseD_hk (n d : Nat) : (s.raiseD n d).hk = s.hk := rfl
@[simp] theorem State.raiseD_legacy (n d : Nat) : (s.raiseD n d).legacy = s.legacy := rfl
@[simp] theorem State.raiseD_out (n d : Nat) : (s.raiseD n d).out = s.out := rfl
@[simp] theorem State.raiseD_free (n d : Nat) : (s.raiseD n d).free = s.free := rfl
@[simp] theorem State.raiseD_rd (n d : Nat) (g : Fld) (j : Nat) : (s.raiseD n d).rd g j = s.rd g j := rfl
@[simp] theorem State.raiseD_fl (n d : Nat) (g : Fld) (j : Nat) : (s.raiseD n d).fl g j = s.fl g j := rfl
@[simp] theorem State.raiseD_src (n d : Nat) (k : Nat) : (s.raiseD n d).src k = s.src k := rfl
@[simp] theorem State.raiseD_queue (n d : Nat) (k : Nat) : (s.raiseD n d).queue k = s.queue k := rfl
@[simp] theorem State.raiseD_lane (n d : Nat) (k : Nat) : (s.raiseD n d).lane k = s.lane k := rfl
@[simp] theorem State.raiseD_dac (n d : Nat) (k : Nat) : (s.raiseD n d).dac k = s.dac k := rfl
@[simp] theorem State.raiseD_adc (n d : Nat) (k : Nat) : (s.raiseD n d).adc k = s.adc k := rfl
@[simp] theorem State.raiseD_smu (n d : Nat) (k : Nat) : (s.raiseD n d).smu k = s.smu k := rfl
@[simp] theorem State.raiseD_dps (n d : Nat) (k : Nat) : (s.raiseD n d).dps k = s.dps k := rfl
@[simp] theorem State.raiseD_play (n d : Nat) (k : Nat) : (s.raiseD n d).play k = s.play k := rfl
@[simp] theorem State.raiseD_store (n d : Nat) (k : Nat) : (s.raiseD n d).store k = s.store k := rfl
@[simp] theorem State.raiseD_seq (n d : Nat) (k : Nat) : (s.raiseD n d).seq k = s.seq k := rfl
@[simp] theorem State.raiseD_tdc (n d : Nat) (k : Nat) : (s.raiseD n d).tdc k = s.tdc k := rfl
@[simp] theorem State.raiseD_acq (n d : Nat) (k : Nat) : (s.raiseD n d).acq k = s.acq k := rfl
@[simp] theorem State.raiseD_cal (n d : Nat) (k : Nat) : (s.raiseD n d).cal k = s.cal k := rfl
@[simp] theorem State.raiseD_port (n d : Nat) (k : Nat) : (s.raiseD n d).port k = s.port k := rfl
@[simp] theorem State.raiseD_tev (n d : Nat) (k : Nat) : (s.raiseD n d).tev k = s.tev k := rfl
@[simp] theorem State.raiseD_ring (n d : Nat) (k : Nat) : (s.raiseD n d).ring k = s.ring k := rfl
@[simp] theorem State.raiseD_ctx (n d : Nat) (k : Nat) : (s.raiseD n d).ctx k = s.ctx k := rfl

@[simp] theorem State.raise_pending (n : Nat) : (s.raise n).pending = s.pending := rfl
@[simp] theorem State.raise_clock (n : Nat) : (s.raise n).clock = s.clock := rfl
@[simp] theorem State.raise_fuses (n : Nat) : (s.raise n).fuses = s.fuses := rfl
@[simp] theorem State.raise_regs (n : Nat) : (s.raise n).regs = s.regs := rfl
@[simp] theorem State.raise_m (n : Nat) : (s.raise n).m = s.m := rfl
@[simp] theorem State.raise_image (n : Nat) : (s.raise n).image = s.image := rfl
@[simp] theorem State.raise_time (n : Nat) : (s.raise n).time = s.time := rfl
@[simp] theorem State.raise_log (n : Nat) : (s.raise n).log = s.log := rfl
@[simp] theorem State.raise_nvm (n : Nat) : (s.raise n).nvm = s.nvm := rfl
@[simp] theorem State.raise_spare (n : Nat) : (s.raise n).spare = s.spare := rfl
@[simp] theorem State.raise_host (n : Nat) : (s.raise n).host = s.host := rfl
@[simp] theorem State.raise_lanes (n : Nat) : (s.raise n).lanes = s.lanes := rfl
@[simp] theorem State.raise_dacs (n : Nat) : (s.raise n).dacs = s.dacs := rfl
@[simp] theorem State.raise_adcs (n : Nat) : (s.raise n).adcs = s.adcs := rfl
@[simp] theorem State.raise_smus (n : Nat) : (s.raise n).smus = s.smus := rfl
@[simp] theorem State.raise_dpss (n : Nat) : (s.raise n).dpss = s.dpss := rfl
@[simp] theorem State.raise_cals (n : Nat) : (s.raise n).cals = s.cals := rfl
@[simp] theorem State.raise_trims (n : Nat) : (s.raise n).trims = s.trims := rfl
@[simp] theorem State.raise_targets (n : Nat) : (s.raise n).targets = s.targets := rfl
@[simp] theorem State.raise_results (n : Nat) : (s.raise n).results = s.results := rfl
@[simp] theorem State.raise_plays (n : Nat) : (s.raise n).plays = s.plays := rfl
@[simp] theorem State.raise_stores (n : Nat) : (s.raise n).stores = s.stores := rfl
@[simp] theorem State.raise_seqs (n : Nat) : (s.raise n).seqs = s.seqs := rfl
@[simp] theorem State.raise_tdcs (n : Nat) : (s.raise n).tdcs = s.tdcs := rfl
@[simp] theorem State.raise_red (n : Nat) : (s.raise n).red = s.red := rfl
@[simp] theorem State.raise_acqs (n : Nat) : (s.raise n).acqs = s.acqs := rfl
@[simp] theorem State.raise_cap (n : Nat) : (s.raise n).cap = s.cap := rfl
@[simp] theorem State.raise_capEcc (n : Nat) : (s.raise n).capEcc = s.capEcc := rfl
@[simp] theorem State.raise_flash (n : Nat) : (s.raise n).flash = s.flash := rfl
@[simp] theorem State.raise_spi (n : Nat) : (s.raise n).spi = s.spi := rfl
@[simp] theorem State.raise_hk (n : Nat) : (s.raise n).hk = s.hk := rfl
@[simp] theorem State.raise_legacy (n : Nat) : (s.raise n).legacy = s.legacy := rfl
@[simp] theorem State.raise_out (n : Nat) : (s.raise n).out = s.out := rfl
@[simp] theorem State.raise_free (n : Nat) : (s.raise n).free = s.free := rfl
@[simp] theorem State.raise_rd (n : Nat) (g : Fld) (j : Nat) : (s.raise n).rd g j = s.rd g j := rfl
@[simp] theorem State.raise_fl (n : Nat) (g : Fld) (j : Nat) : (s.raise n).fl g j = s.fl g j := rfl
@[simp] theorem State.raise_src (n : Nat) (k : Nat) : (s.raise n).src k = s.src k := rfl
@[simp] theorem State.raise_queue (n : Nat) (k : Nat) : (s.raise n).queue k = s.queue k := rfl
@[simp] theorem State.raise_lane (n : Nat) (k : Nat) : (s.raise n).lane k = s.lane k := rfl
@[simp] theorem State.raise_dac (n : Nat) (k : Nat) : (s.raise n).dac k = s.dac k := rfl
@[simp] theorem State.raise_adc (n : Nat) (k : Nat) : (s.raise n).adc k = s.adc k := rfl
@[simp] theorem State.raise_smu (n : Nat) (k : Nat) : (s.raise n).smu k = s.smu k := rfl
@[simp] theorem State.raise_dps (n : Nat) (k : Nat) : (s.raise n).dps k = s.dps k := rfl
@[simp] theorem State.raise_play (n : Nat) (k : Nat) : (s.raise n).play k = s.play k := rfl
@[simp] theorem State.raise_store (n : Nat) (k : Nat) : (s.raise n).store k = s.store k := rfl
@[simp] theorem State.raise_seq (n : Nat) (k : Nat) : (s.raise n).seq k = s.seq k := rfl
@[simp] theorem State.raise_tdc (n : Nat) (k : Nat) : (s.raise n).tdc k = s.tdc k := rfl
@[simp] theorem State.raise_acq (n : Nat) (k : Nat) : (s.raise n).acq k = s.acq k := rfl
@[simp] theorem State.raise_cal (n : Nat) (k : Nat) : (s.raise n).cal k = s.cal k := rfl
@[simp] theorem State.raise_port (n : Nat) (k : Nat) : (s.raise n).port k = s.port k := rfl
@[simp] theorem State.raise_tev (n : Nat) (k : Nat) : (s.raise n).tev k = s.tev k := rfl
@[simp] theorem State.raise_ring (n : Nat) (k : Nat) : (s.raise n).ring k = s.ring k := rfl
@[simp] theorem State.raise_ctx (n : Nat) (k : Nat) : (s.raise n).ctx k = s.ctx k := rfl

@[simp] theorem State.setSrc_pending (n : Nat) (x : SrcSt) : (s.setSrc n x).pending = s.pending := rfl
@[simp] theorem State.setSrc_clock (n : Nat) (x : SrcSt) : (s.setSrc n x).clock = s.clock := rfl
@[simp] theorem State.setSrc_fuses (n : Nat) (x : SrcSt) : (s.setSrc n x).fuses = s.fuses := rfl
@[simp] theorem State.setSrc_regs (n : Nat) (x : SrcSt) : (s.setSrc n x).regs = s.regs := rfl
@[simp] theorem State.setSrc_m (n : Nat) (x : SrcSt) : (s.setSrc n x).m = s.m := rfl
@[simp] theorem State.setSrc_image (n : Nat) (x : SrcSt) : (s.setSrc n x).image = s.image := rfl
@[simp] theorem State.setSrc_time (n : Nat) (x : SrcSt) : (s.setSrc n x).time = s.time := rfl
@[simp] theorem State.setSrc_log (n : Nat) (x : SrcSt) : (s.setSrc n x).log = s.log := rfl
@[simp] theorem State.setSrc_nvm (n : Nat) (x : SrcSt) : (s.setSrc n x).nvm = s.nvm := rfl
@[simp] theorem State.setSrc_spare (n : Nat) (x : SrcSt) : (s.setSrc n x).spare = s.spare := rfl
@[simp] theorem State.setSrc_host (n : Nat) (x : SrcSt) : (s.setSrc n x).host = s.host := rfl
@[simp] theorem State.setSrc_lanes (n : Nat) (x : SrcSt) : (s.setSrc n x).lanes = s.lanes := rfl
@[simp] theorem State.setSrc_dacs (n : Nat) (x : SrcSt) : (s.setSrc n x).dacs = s.dacs := rfl
@[simp] theorem State.setSrc_adcs (n : Nat) (x : SrcSt) : (s.setSrc n x).adcs = s.adcs := rfl
@[simp] theorem State.setSrc_smus (n : Nat) (x : SrcSt) : (s.setSrc n x).smus = s.smus := rfl
@[simp] theorem State.setSrc_dpss (n : Nat) (x : SrcSt) : (s.setSrc n x).dpss = s.dpss := rfl
@[simp] theorem State.setSrc_cals (n : Nat) (x : SrcSt) : (s.setSrc n x).cals = s.cals := rfl
@[simp] theorem State.setSrc_trims (n : Nat) (x : SrcSt) : (s.setSrc n x).trims = s.trims := rfl
@[simp] theorem State.setSrc_targets (n : Nat) (x : SrcSt) : (s.setSrc n x).targets = s.targets := rfl
@[simp] theorem State.setSrc_results (n : Nat) (x : SrcSt) : (s.setSrc n x).results = s.results := rfl
@[simp] theorem State.setSrc_plays (n : Nat) (x : SrcSt) : (s.setSrc n x).plays = s.plays := rfl
@[simp] theorem State.setSrc_stores (n : Nat) (x : SrcSt) : (s.setSrc n x).stores = s.stores := rfl
@[simp] theorem State.setSrc_seqs (n : Nat) (x : SrcSt) : (s.setSrc n x).seqs = s.seqs := rfl
@[simp] theorem State.setSrc_tdcs (n : Nat) (x : SrcSt) : (s.setSrc n x).tdcs = s.tdcs := rfl
@[simp] theorem State.setSrc_red (n : Nat) (x : SrcSt) : (s.setSrc n x).red = s.red := rfl
@[simp] theorem State.setSrc_acqs (n : Nat) (x : SrcSt) : (s.setSrc n x).acqs = s.acqs := rfl
@[simp] theorem State.setSrc_cap (n : Nat) (x : SrcSt) : (s.setSrc n x).cap = s.cap := rfl
@[simp] theorem State.setSrc_capEcc (n : Nat) (x : SrcSt) : (s.setSrc n x).capEcc = s.capEcc := rfl
@[simp] theorem State.setSrc_flash (n : Nat) (x : SrcSt) : (s.setSrc n x).flash = s.flash := rfl
@[simp] theorem State.setSrc_spi (n : Nat) (x : SrcSt) : (s.setSrc n x).spi = s.spi := rfl
@[simp] theorem State.setSrc_hk (n : Nat) (x : SrcSt) : (s.setSrc n x).hk = s.hk := rfl
@[simp] theorem State.setSrc_legacy (n : Nat) (x : SrcSt) : (s.setSrc n x).legacy = s.legacy := rfl
@[simp] theorem State.setSrc_out (n : Nat) (x : SrcSt) : (s.setSrc n x).out = s.out := rfl
@[simp] theorem State.setSrc_free (n : Nat) (x : SrcSt) : (s.setSrc n x).free = s.free := rfl
@[simp] theorem State.setSrc_rd (n : Nat) (x : SrcSt) (g : Fld) (j : Nat) : (s.setSrc n x).rd g j = s.rd g j := rfl
@[simp] theorem State.setSrc_fl (n : Nat) (x : SrcSt) (g : Fld) (j : Nat) : (s.setSrc n x).fl g j = s.fl g j := rfl
@[simp] theorem State.setSrc_queue (n : Nat) (x : SrcSt) (k : Nat) : (s.setSrc n x).queue k = s.queue k := rfl
@[simp] theorem State.setSrc_lane (n : Nat) (x : SrcSt) (k : Nat) : (s.setSrc n x).lane k = s.lane k := rfl
@[simp] theorem State.setSrc_dac (n : Nat) (x : SrcSt) (k : Nat) : (s.setSrc n x).dac k = s.dac k := rfl
@[simp] theorem State.setSrc_adc (n : Nat) (x : SrcSt) (k : Nat) : (s.setSrc n x).adc k = s.adc k := rfl
@[simp] theorem State.setSrc_smu (n : Nat) (x : SrcSt) (k : Nat) : (s.setSrc n x).smu k = s.smu k := rfl
@[simp] theorem State.setSrc_dps (n : Nat) (x : SrcSt) (k : Nat) : (s.setSrc n x).dps k = s.dps k := rfl
@[simp] theorem State.setSrc_play (n : Nat) (x : SrcSt) (k : Nat) : (s.setSrc n x).play k = s.play k := rfl
@[simp] theorem State.setSrc_store (n : Nat) (x : SrcSt) (k : Nat) : (s.setSrc n x).store k = s.store k := rfl
@[simp] theorem State.setSrc_seq (n : Nat) (x : SrcSt) (k : Nat) : (s.setSrc n x).seq k = s.seq k := rfl
@[simp] theorem State.setSrc_tdc (n : Nat) (x : SrcSt) (k : Nat) : (s.setSrc n x).tdc k = s.tdc k := rfl
@[simp] theorem State.setSrc_acq (n : Nat) (x : SrcSt) (k : Nat) : (s.setSrc n x).acq k = s.acq k := rfl
@[simp] theorem State.setSrc_cal (n : Nat) (x : SrcSt) (k : Nat) : (s.setSrc n x).cal k = s.cal k := rfl
@[simp] theorem State.setSrc_port (n : Nat) (x : SrcSt) (k : Nat) : (s.setSrc n x).port k = s.port k := rfl
@[simp] theorem State.setSrc_tev (n : Nat) (x : SrcSt) (k : Nat) : (s.setSrc n x).tev k = s.tev k := rfl
@[simp] theorem State.setSrc_ring (n : Nat) (x : SrcSt) (k : Nat) : (s.setSrc n x).ring k = s.ring k := rfl
@[simp] theorem State.setSrc_ctx (n : Nat) (x : SrcSt) (k : Nat) : (s.setSrc n x).ctx k = s.ctx k := rfl

@[simp] theorem State.setQueue_pending (n : Nat) (x : QueueSt) : (s.setQueue n x).pending = s.pending := rfl
@[simp] theorem State.setQueue_clock (n : Nat) (x : QueueSt) : (s.setQueue n x).clock = s.clock := rfl
@[simp] theorem State.setQueue_fuses (n : Nat) (x : QueueSt) : (s.setQueue n x).fuses = s.fuses := rfl
@[simp] theorem State.setQueue_regs (n : Nat) (x : QueueSt) : (s.setQueue n x).regs = s.regs := rfl
@[simp] theorem State.setQueue_m (n : Nat) (x : QueueSt) : (s.setQueue n x).m = s.m := rfl
@[simp] theorem State.setQueue_image (n : Nat) (x : QueueSt) : (s.setQueue n x).image = s.image := rfl
@[simp] theorem State.setQueue_time (n : Nat) (x : QueueSt) : (s.setQueue n x).time = s.time := rfl
@[simp] theorem State.setQueue_log (n : Nat) (x : QueueSt) : (s.setQueue n x).log = s.log := rfl
@[simp] theorem State.setQueue_nvm (n : Nat) (x : QueueSt) : (s.setQueue n x).nvm = s.nvm := rfl
@[simp] theorem State.setQueue_spare (n : Nat) (x : QueueSt) : (s.setQueue n x).spare = s.spare := rfl
@[simp] theorem State.setQueue_host (n : Nat) (x : QueueSt) : (s.setQueue n x).host = s.host := rfl
@[simp] theorem State.setQueue_lanes (n : Nat) (x : QueueSt) : (s.setQueue n x).lanes = s.lanes := rfl
@[simp] theorem State.setQueue_dacs (n : Nat) (x : QueueSt) : (s.setQueue n x).dacs = s.dacs := rfl
@[simp] theorem State.setQueue_adcs (n : Nat) (x : QueueSt) : (s.setQueue n x).adcs = s.adcs := rfl
@[simp] theorem State.setQueue_smus (n : Nat) (x : QueueSt) : (s.setQueue n x).smus = s.smus := rfl
@[simp] theorem State.setQueue_dpss (n : Nat) (x : QueueSt) : (s.setQueue n x).dpss = s.dpss := rfl
@[simp] theorem State.setQueue_cals (n : Nat) (x : QueueSt) : (s.setQueue n x).cals = s.cals := rfl
@[simp] theorem State.setQueue_trims (n : Nat) (x : QueueSt) : (s.setQueue n x).trims = s.trims := rfl
@[simp] theorem State.setQueue_targets (n : Nat) (x : QueueSt) : (s.setQueue n x).targets = s.targets := rfl
@[simp] theorem State.setQueue_results (n : Nat) (x : QueueSt) : (s.setQueue n x).results = s.results := rfl
@[simp] theorem State.setQueue_plays (n : Nat) (x : QueueSt) : (s.setQueue n x).plays = s.plays := rfl
@[simp] theorem State.setQueue_stores (n : Nat) (x : QueueSt) : (s.setQueue n x).stores = s.stores := rfl
@[simp] theorem State.setQueue_seqs (n : Nat) (x : QueueSt) : (s.setQueue n x).seqs = s.seqs := rfl
@[simp] theorem State.setQueue_tdcs (n : Nat) (x : QueueSt) : (s.setQueue n x).tdcs = s.tdcs := rfl
@[simp] theorem State.setQueue_red (n : Nat) (x : QueueSt) : (s.setQueue n x).red = s.red := rfl
@[simp] theorem State.setQueue_acqs (n : Nat) (x : QueueSt) : (s.setQueue n x).acqs = s.acqs := rfl
@[simp] theorem State.setQueue_cap (n : Nat) (x : QueueSt) : (s.setQueue n x).cap = s.cap := rfl
@[simp] theorem State.setQueue_capEcc (n : Nat) (x : QueueSt) : (s.setQueue n x).capEcc = s.capEcc := rfl
@[simp] theorem State.setQueue_flash (n : Nat) (x : QueueSt) : (s.setQueue n x).flash = s.flash := rfl
@[simp] theorem State.setQueue_spi (n : Nat) (x : QueueSt) : (s.setQueue n x).spi = s.spi := rfl
@[simp] theorem State.setQueue_hk (n : Nat) (x : QueueSt) : (s.setQueue n x).hk = s.hk := rfl
@[simp] theorem State.setQueue_legacy (n : Nat) (x : QueueSt) : (s.setQueue n x).legacy = s.legacy := rfl
@[simp] theorem State.setQueue_out (n : Nat) (x : QueueSt) : (s.setQueue n x).out = s.out := rfl
@[simp] theorem State.setQueue_free (n : Nat) (x : QueueSt) : (s.setQueue n x).free = s.free := rfl
@[simp] theorem State.setQueue_rd (n : Nat) (x : QueueSt) (g : Fld) (j : Nat) : (s.setQueue n x).rd g j = s.rd g j := rfl
@[simp] theorem State.setQueue_fl (n : Nat) (x : QueueSt) (g : Fld) (j : Nat) : (s.setQueue n x).fl g j = s.fl g j := rfl
@[simp] theorem State.setQueue_src (n : Nat) (x : QueueSt) (k : Nat) : (s.setQueue n x).src k = s.src k := rfl
@[simp] theorem State.setQueue_lane (n : Nat) (x : QueueSt) (k : Nat) : (s.setQueue n x).lane k = s.lane k := rfl
@[simp] theorem State.setQueue_dac (n : Nat) (x : QueueSt) (k : Nat) : (s.setQueue n x).dac k = s.dac k := rfl
@[simp] theorem State.setQueue_adc (n : Nat) (x : QueueSt) (k : Nat) : (s.setQueue n x).adc k = s.adc k := rfl
@[simp] theorem State.setQueue_smu (n : Nat) (x : QueueSt) (k : Nat) : (s.setQueue n x).smu k = s.smu k := rfl
@[simp] theorem State.setQueue_dps (n : Nat) (x : QueueSt) (k : Nat) : (s.setQueue n x).dps k = s.dps k := rfl
@[simp] theorem State.setQueue_play (n : Nat) (x : QueueSt) (k : Nat) : (s.setQueue n x).play k = s.play k := rfl
@[simp] theorem State.setQueue_store (n : Nat) (x : QueueSt) (k : Nat) : (s.setQueue n x).store k = s.store k := rfl
@[simp] theorem State.setQueue_seq (n : Nat) (x : QueueSt) (k : Nat) : (s.setQueue n x).seq k = s.seq k := rfl
@[simp] theorem State.setQueue_tdc (n : Nat) (x : QueueSt) (k : Nat) : (s.setQueue n x).tdc k = s.tdc k := rfl
@[simp] theorem State.setQueue_acq (n : Nat) (x : QueueSt) (k : Nat) : (s.setQueue n x).acq k = s.acq k := rfl
@[simp] theorem State.setQueue_cal (n : Nat) (x : QueueSt) (k : Nat) : (s.setQueue n x).cal k = s.cal k := rfl
@[simp] theorem State.setQueue_port (n : Nat) (x : QueueSt) (k : Nat) : (s.setQueue n x).port k = s.port k := rfl
@[simp] theorem State.setQueue_tev (n : Nat) (x : QueueSt) (k : Nat) : (s.setQueue n x).tev k = s.tev k := rfl
@[simp] theorem State.setQueue_ring (n : Nat) (x : QueueSt) (k : Nat) : (s.setQueue n x).ring k = s.ring k := rfl
@[simp] theorem State.setQueue_ctx (n : Nat) (x : QueueSt) (k : Nat) : (s.setQueue n x).ctx k = s.ctx k := rfl

@[simp] theorem State.setLane_pending (n : Nat) (x : LaneSt) : (s.setLane n x).pending = s.pending := rfl
@[simp] theorem State.setLane_clock (n : Nat) (x : LaneSt) : (s.setLane n x).clock = s.clock := rfl
@[simp] theorem State.setLane_fuses (n : Nat) (x : LaneSt) : (s.setLane n x).fuses = s.fuses := rfl
@[simp] theorem State.setLane_regs (n : Nat) (x : LaneSt) : (s.setLane n x).regs = s.regs := rfl
@[simp] theorem State.setLane_m (n : Nat) (x : LaneSt) : (s.setLane n x).m = s.m := rfl
@[simp] theorem State.setLane_image (n : Nat) (x : LaneSt) : (s.setLane n x).image = s.image := rfl
@[simp] theorem State.setLane_hub (n : Nat) (x : LaneSt) : (s.setLane n x).hub = s.hub := rfl
@[simp] theorem State.setLane_time (n : Nat) (x : LaneSt) : (s.setLane n x).time = s.time := rfl
@[simp] theorem State.setLane_log (n : Nat) (x : LaneSt) : (s.setLane n x).log = s.log := rfl
@[simp] theorem State.setLane_nvm (n : Nat) (x : LaneSt) : (s.setLane n x).nvm = s.nvm := rfl
@[simp] theorem State.setLane_spare (n : Nat) (x : LaneSt) : (s.setLane n x).spare = s.spare := rfl
@[simp] theorem State.setLane_host (n : Nat) (x : LaneSt) : (s.setLane n x).host = s.host := rfl
@[simp] theorem State.setLane_dacs (n : Nat) (x : LaneSt) : (s.setLane n x).dacs = s.dacs := rfl
@[simp] theorem State.setLane_adcs (n : Nat) (x : LaneSt) : (s.setLane n x).adcs = s.adcs := rfl
@[simp] theorem State.setLane_smus (n : Nat) (x : LaneSt) : (s.setLane n x).smus = s.smus := rfl
@[simp] theorem State.setLane_dpss (n : Nat) (x : LaneSt) : (s.setLane n x).dpss = s.dpss := rfl
@[simp] theorem State.setLane_cals (n : Nat) (x : LaneSt) : (s.setLane n x).cals = s.cals := rfl
@[simp] theorem State.setLane_trims (n : Nat) (x : LaneSt) : (s.setLane n x).trims = s.trims := rfl
@[simp] theorem State.setLane_targets (n : Nat) (x : LaneSt) : (s.setLane n x).targets = s.targets := rfl
@[simp] theorem State.setLane_results (n : Nat) (x : LaneSt) : (s.setLane n x).results = s.results := rfl
@[simp] theorem State.setLane_plays (n : Nat) (x : LaneSt) : (s.setLane n x).plays = s.plays := rfl
@[simp] theorem State.setLane_stores (n : Nat) (x : LaneSt) : (s.setLane n x).stores = s.stores := rfl
@[simp] theorem State.setLane_seqs (n : Nat) (x : LaneSt) : (s.setLane n x).seqs = s.seqs := rfl
@[simp] theorem State.setLane_tdcs (n : Nat) (x : LaneSt) : (s.setLane n x).tdcs = s.tdcs := rfl
@[simp] theorem State.setLane_red (n : Nat) (x : LaneSt) : (s.setLane n x).red = s.red := rfl
@[simp] theorem State.setLane_acqs (n : Nat) (x : LaneSt) : (s.setLane n x).acqs = s.acqs := rfl
@[simp] theorem State.setLane_cap (n : Nat) (x : LaneSt) : (s.setLane n x).cap = s.cap := rfl
@[simp] theorem State.setLane_capEcc (n : Nat) (x : LaneSt) : (s.setLane n x).capEcc = s.capEcc := rfl
@[simp] theorem State.setLane_flash (n : Nat) (x : LaneSt) : (s.setLane n x).flash = s.flash := rfl
@[simp] theorem State.setLane_spi (n : Nat) (x : LaneSt) : (s.setLane n x).spi = s.spi := rfl
@[simp] theorem State.setLane_hk (n : Nat) (x : LaneSt) : (s.setLane n x).hk = s.hk := rfl
@[simp] theorem State.setLane_legacy (n : Nat) (x : LaneSt) : (s.setLane n x).legacy = s.legacy := rfl
@[simp] theorem State.setLane_out (n : Nat) (x : LaneSt) : (s.setLane n x).out = s.out := rfl
@[simp] theorem State.setLane_free (n : Nat) (x : LaneSt) : (s.setLane n x).free = s.free := rfl
@[simp] theorem State.setLane_rd (n : Nat) (x : LaneSt) (g : Fld) (j : Nat) : (s.setLane n x).rd g j = s.rd g j := rfl
@[simp] theorem State.setLane_fl (n : Nat) (x : LaneSt) (g : Fld) (j : Nat) : (s.setLane n x).fl g j = s.fl g j := rfl
@[simp] theorem State.setLane_src (n : Nat) (x : LaneSt) (k : Nat) : (s.setLane n x).src k = s.src k := rfl
@[simp] theorem State.setLane_queue (n : Nat) (x : LaneSt) (k : Nat) : (s.setLane n x).queue k = s.queue k := rfl
@[simp] theorem State.setLane_dac (n : Nat) (x : LaneSt) (k : Nat) : (s.setLane n x).dac k = s.dac k := rfl
@[simp] theorem State.setLane_adc (n : Nat) (x : LaneSt) (k : Nat) : (s.setLane n x).adc k = s.adc k := rfl
@[simp] theorem State.setLane_smu (n : Nat) (x : LaneSt) (k : Nat) : (s.setLane n x).smu k = s.smu k := rfl
@[simp] theorem State.setLane_dps (n : Nat) (x : LaneSt) (k : Nat) : (s.setLane n x).dps k = s.dps k := rfl
@[simp] theorem State.setLane_play (n : Nat) (x : LaneSt) (k : Nat) : (s.setLane n x).play k = s.play k := rfl
@[simp] theorem State.setLane_store (n : Nat) (x : LaneSt) (k : Nat) : (s.setLane n x).store k = s.store k := rfl
@[simp] theorem State.setLane_seq (n : Nat) (x : LaneSt) (k : Nat) : (s.setLane n x).seq k = s.seq k := rfl
@[simp] theorem State.setLane_tdc (n : Nat) (x : LaneSt) (k : Nat) : (s.setLane n x).tdc k = s.tdc k := rfl
@[simp] theorem State.setLane_acq (n : Nat) (x : LaneSt) (k : Nat) : (s.setLane n x).acq k = s.acq k := rfl
@[simp] theorem State.setLane_cal (n : Nat) (x : LaneSt) (k : Nat) : (s.setLane n x).cal k = s.cal k := rfl
@[simp] theorem State.setLane_port (n : Nat) (x : LaneSt) (k : Nat) : (s.setLane n x).port k = s.port k := rfl
@[simp] theorem State.setLane_tev (n : Nat) (x : LaneSt) (k : Nat) : (s.setLane n x).tev k = s.tev k := rfl
@[simp] theorem State.setLane_ring (n : Nat) (x : LaneSt) (k : Nat) : (s.setLane n x).ring k = s.ring k := rfl
@[simp] theorem State.setLane_ctx (n : Nat) (x : LaneSt) (k : Nat) : (s.setLane n x).ctx k = s.ctx k := rfl

@[simp] theorem State.setDac_pending (n : Nat) (x : DacSt) : (s.setDac n x).pending = s.pending := rfl
@[simp] theorem State.setDac_clock (n : Nat) (x : DacSt) : (s.setDac n x).clock = s.clock := rfl
@[simp] theorem State.setDac_fuses (n : Nat) (x : DacSt) : (s.setDac n x).fuses = s.fuses := rfl
@[simp] theorem State.setDac_regs (n : Nat) (x : DacSt) : (s.setDac n x).regs = s.regs := rfl
@[simp] theorem State.setDac_m (n : Nat) (x : DacSt) : (s.setDac n x).m = s.m := rfl
@[simp] theorem State.setDac_image (n : Nat) (x : DacSt) : (s.setDac n x).image = s.image := rfl
@[simp] theorem State.setDac_hub (n : Nat) (x : DacSt) : (s.setDac n x).hub = s.hub := rfl
@[simp] theorem State.setDac_time (n : Nat) (x : DacSt) : (s.setDac n x).time = s.time := rfl
@[simp] theorem State.setDac_log (n : Nat) (x : DacSt) : (s.setDac n x).log = s.log := rfl
@[simp] theorem State.setDac_nvm (n : Nat) (x : DacSt) : (s.setDac n x).nvm = s.nvm := rfl
@[simp] theorem State.setDac_spare (n : Nat) (x : DacSt) : (s.setDac n x).spare = s.spare := rfl
@[simp] theorem State.setDac_host (n : Nat) (x : DacSt) : (s.setDac n x).host = s.host := rfl
@[simp] theorem State.setDac_lanes (n : Nat) (x : DacSt) : (s.setDac n x).lanes = s.lanes := rfl
@[simp] theorem State.setDac_adcs (n : Nat) (x : DacSt) : (s.setDac n x).adcs = s.adcs := rfl
@[simp] theorem State.setDac_smus (n : Nat) (x : DacSt) : (s.setDac n x).smus = s.smus := rfl
@[simp] theorem State.setDac_dpss (n : Nat) (x : DacSt) : (s.setDac n x).dpss = s.dpss := rfl
@[simp] theorem State.setDac_cals (n : Nat) (x : DacSt) : (s.setDac n x).cals = s.cals := rfl
@[simp] theorem State.setDac_trims (n : Nat) (x : DacSt) : (s.setDac n x).trims = s.trims := rfl
@[simp] theorem State.setDac_targets (n : Nat) (x : DacSt) : (s.setDac n x).targets = s.targets := rfl
@[simp] theorem State.setDac_results (n : Nat) (x : DacSt) : (s.setDac n x).results = s.results := rfl
@[simp] theorem State.setDac_plays (n : Nat) (x : DacSt) : (s.setDac n x).plays = s.plays := rfl
@[simp] theorem State.setDac_stores (n : Nat) (x : DacSt) : (s.setDac n x).stores = s.stores := rfl
@[simp] theorem State.setDac_seqs (n : Nat) (x : DacSt) : (s.setDac n x).seqs = s.seqs := rfl
@[simp] theorem State.setDac_tdcs (n : Nat) (x : DacSt) : (s.setDac n x).tdcs = s.tdcs := rfl
@[simp] theorem State.setDac_red (n : Nat) (x : DacSt) : (s.setDac n x).red = s.red := rfl
@[simp] theorem State.setDac_acqs (n : Nat) (x : DacSt) : (s.setDac n x).acqs = s.acqs := rfl
@[simp] theorem State.setDac_cap (n : Nat) (x : DacSt) : (s.setDac n x).cap = s.cap := rfl
@[simp] theorem State.setDac_capEcc (n : Nat) (x : DacSt) : (s.setDac n x).capEcc = s.capEcc := rfl
@[simp] theorem State.setDac_flash (n : Nat) (x : DacSt) : (s.setDac n x).flash = s.flash := rfl
@[simp] theorem State.setDac_spi (n : Nat) (x : DacSt) : (s.setDac n x).spi = s.spi := rfl
@[simp] theorem State.setDac_hk (n : Nat) (x : DacSt) : (s.setDac n x).hk = s.hk := rfl
@[simp] theorem State.setDac_legacy (n : Nat) (x : DacSt) : (s.setDac n x).legacy = s.legacy := rfl
@[simp] theorem State.setDac_out (n : Nat) (x : DacSt) : (s.setDac n x).out = s.out := rfl
@[simp] theorem State.setDac_free (n : Nat) (x : DacSt) : (s.setDac n x).free = s.free := rfl
@[simp] theorem State.setDac_rd (n : Nat) (x : DacSt) (g : Fld) (j : Nat) : (s.setDac n x).rd g j = s.rd g j := rfl
@[simp] theorem State.setDac_fl (n : Nat) (x : DacSt) (g : Fld) (j : Nat) : (s.setDac n x).fl g j = s.fl g j := rfl
@[simp] theorem State.setDac_src (n : Nat) (x : DacSt) (k : Nat) : (s.setDac n x).src k = s.src k := rfl
@[simp] theorem State.setDac_queue (n : Nat) (x : DacSt) (k : Nat) : (s.setDac n x).queue k = s.queue k := rfl
@[simp] theorem State.setDac_lane (n : Nat) (x : DacSt) (k : Nat) : (s.setDac n x).lane k = s.lane k := rfl
@[simp] theorem State.setDac_adc (n : Nat) (x : DacSt) (k : Nat) : (s.setDac n x).adc k = s.adc k := rfl
@[simp] theorem State.setDac_smu (n : Nat) (x : DacSt) (k : Nat) : (s.setDac n x).smu k = s.smu k := rfl
@[simp] theorem State.setDac_dps (n : Nat) (x : DacSt) (k : Nat) : (s.setDac n x).dps k = s.dps k := rfl
@[simp] theorem State.setDac_play (n : Nat) (x : DacSt) (k : Nat) : (s.setDac n x).play k = s.play k := rfl
@[simp] theorem State.setDac_store (n : Nat) (x : DacSt) (k : Nat) : (s.setDac n x).store k = s.store k := rfl
@[simp] theorem State.setDac_seq (n : Nat) (x : DacSt) (k : Nat) : (s.setDac n x).seq k = s.seq k := rfl
@[simp] theorem State.setDac_tdc (n : Nat) (x : DacSt) (k : Nat) : (s.setDac n x).tdc k = s.tdc k := rfl
@[simp] theorem State.setDac_acq (n : Nat) (x : DacSt) (k : Nat) : (s.setDac n x).acq k = s.acq k := rfl
@[simp] theorem State.setDac_cal (n : Nat) (x : DacSt) (k : Nat) : (s.setDac n x).cal k = s.cal k := rfl
@[simp] theorem State.setDac_port (n : Nat) (x : DacSt) (k : Nat) : (s.setDac n x).port k = s.port k := rfl
@[simp] theorem State.setDac_tev (n : Nat) (x : DacSt) (k : Nat) : (s.setDac n x).tev k = s.tev k := rfl
@[simp] theorem State.setDac_ring (n : Nat) (x : DacSt) (k : Nat) : (s.setDac n x).ring k = s.ring k := rfl
@[simp] theorem State.setDac_ctx (n : Nat) (x : DacSt) (k : Nat) : (s.setDac n x).ctx k = s.ctx k := rfl

@[simp] theorem State.setAdc_pending (n : Nat) (x : AdcSt) : (s.setAdc n x).pending = s.pending := rfl
@[simp] theorem State.setAdc_clock (n : Nat) (x : AdcSt) : (s.setAdc n x).clock = s.clock := rfl
@[simp] theorem State.setAdc_fuses (n : Nat) (x : AdcSt) : (s.setAdc n x).fuses = s.fuses := rfl
@[simp] theorem State.setAdc_regs (n : Nat) (x : AdcSt) : (s.setAdc n x).regs = s.regs := rfl
@[simp] theorem State.setAdc_m (n : Nat) (x : AdcSt) : (s.setAdc n x).m = s.m := rfl
@[simp] theorem State.setAdc_image (n : Nat) (x : AdcSt) : (s.setAdc n x).image = s.image := rfl
@[simp] theorem State.setAdc_hub (n : Nat) (x : AdcSt) : (s.setAdc n x).hub = s.hub := rfl
@[simp] theorem State.setAdc_time (n : Nat) (x : AdcSt) : (s.setAdc n x).time = s.time := rfl
@[simp] theorem State.setAdc_log (n : Nat) (x : AdcSt) : (s.setAdc n x).log = s.log := rfl
@[simp] theorem State.setAdc_nvm (n : Nat) (x : AdcSt) : (s.setAdc n x).nvm = s.nvm := rfl
@[simp] theorem State.setAdc_spare (n : Nat) (x : AdcSt) : (s.setAdc n x).spare = s.spare := rfl
@[simp] theorem State.setAdc_host (n : Nat) (x : AdcSt) : (s.setAdc n x).host = s.host := rfl
@[simp] theorem State.setAdc_lanes (n : Nat) (x : AdcSt) : (s.setAdc n x).lanes = s.lanes := rfl
@[simp] theorem State.setAdc_dacs (n : Nat) (x : AdcSt) : (s.setAdc n x).dacs = s.dacs := rfl
@[simp] theorem State.setAdc_smus (n : Nat) (x : AdcSt) : (s.setAdc n x).smus = s.smus := rfl
@[simp] theorem State.setAdc_dpss (n : Nat) (x : AdcSt) : (s.setAdc n x).dpss = s.dpss := rfl
@[simp] theorem State.setAdc_cals (n : Nat) (x : AdcSt) : (s.setAdc n x).cals = s.cals := rfl
@[simp] theorem State.setAdc_trims (n : Nat) (x : AdcSt) : (s.setAdc n x).trims = s.trims := rfl
@[simp] theorem State.setAdc_targets (n : Nat) (x : AdcSt) : (s.setAdc n x).targets = s.targets := rfl
@[simp] theorem State.setAdc_results (n : Nat) (x : AdcSt) : (s.setAdc n x).results = s.results := rfl
@[simp] theorem State.setAdc_plays (n : Nat) (x : AdcSt) : (s.setAdc n x).plays = s.plays := rfl
@[simp] theorem State.setAdc_stores (n : Nat) (x : AdcSt) : (s.setAdc n x).stores = s.stores := rfl
@[simp] theorem State.setAdc_seqs (n : Nat) (x : AdcSt) : (s.setAdc n x).seqs = s.seqs := rfl
@[simp] theorem State.setAdc_tdcs (n : Nat) (x : AdcSt) : (s.setAdc n x).tdcs = s.tdcs := rfl
@[simp] theorem State.setAdc_red (n : Nat) (x : AdcSt) : (s.setAdc n x).red = s.red := rfl
@[simp] theorem State.setAdc_acqs (n : Nat) (x : AdcSt) : (s.setAdc n x).acqs = s.acqs := rfl
@[simp] theorem State.setAdc_cap (n : Nat) (x : AdcSt) : (s.setAdc n x).cap = s.cap := rfl
@[simp] theorem State.setAdc_capEcc (n : Nat) (x : AdcSt) : (s.setAdc n x).capEcc = s.capEcc := rfl
@[simp] theorem State.setAdc_flash (n : Nat) (x : AdcSt) : (s.setAdc n x).flash = s.flash := rfl
@[simp] theorem State.setAdc_spi (n : Nat) (x : AdcSt) : (s.setAdc n x).spi = s.spi := rfl
@[simp] theorem State.setAdc_hk (n : Nat) (x : AdcSt) : (s.setAdc n x).hk = s.hk := rfl
@[simp] theorem State.setAdc_legacy (n : Nat) (x : AdcSt) : (s.setAdc n x).legacy = s.legacy := rfl
@[simp] theorem State.setAdc_out (n : Nat) (x : AdcSt) : (s.setAdc n x).out = s.out := rfl
@[simp] theorem State.setAdc_free (n : Nat) (x : AdcSt) : (s.setAdc n x).free = s.free := rfl
@[simp] theorem State.setAdc_rd (n : Nat) (x : AdcSt) (g : Fld) (j : Nat) : (s.setAdc n x).rd g j = s.rd g j := rfl
@[simp] theorem State.setAdc_fl (n : Nat) (x : AdcSt) (g : Fld) (j : Nat) : (s.setAdc n x).fl g j = s.fl g j := rfl
@[simp] theorem State.setAdc_src (n : Nat) (x : AdcSt) (k : Nat) : (s.setAdc n x).src k = s.src k := rfl
@[simp] theorem State.setAdc_queue (n : Nat) (x : AdcSt) (k : Nat) : (s.setAdc n x).queue k = s.queue k := rfl
@[simp] theorem State.setAdc_lane (n : Nat) (x : AdcSt) (k : Nat) : (s.setAdc n x).lane k = s.lane k := rfl
@[simp] theorem State.setAdc_dac (n : Nat) (x : AdcSt) (k : Nat) : (s.setAdc n x).dac k = s.dac k := rfl
@[simp] theorem State.setAdc_smu (n : Nat) (x : AdcSt) (k : Nat) : (s.setAdc n x).smu k = s.smu k := rfl
@[simp] theorem State.setAdc_dps (n : Nat) (x : AdcSt) (k : Nat) : (s.setAdc n x).dps k = s.dps k := rfl
@[simp] theorem State.setAdc_play (n : Nat) (x : AdcSt) (k : Nat) : (s.setAdc n x).play k = s.play k := rfl
@[simp] theorem State.setAdc_store (n : Nat) (x : AdcSt) (k : Nat) : (s.setAdc n x).store k = s.store k := rfl
@[simp] theorem State.setAdc_seq (n : Nat) (x : AdcSt) (k : Nat) : (s.setAdc n x).seq k = s.seq k := rfl
@[simp] theorem State.setAdc_tdc (n : Nat) (x : AdcSt) (k : Nat) : (s.setAdc n x).tdc k = s.tdc k := rfl
@[simp] theorem State.setAdc_acq (n : Nat) (x : AdcSt) (k : Nat) : (s.setAdc n x).acq k = s.acq k := rfl
@[simp] theorem State.setAdc_cal (n : Nat) (x : AdcSt) (k : Nat) : (s.setAdc n x).cal k = s.cal k := rfl
@[simp] theorem State.setAdc_port (n : Nat) (x : AdcSt) (k : Nat) : (s.setAdc n x).port k = s.port k := rfl
@[simp] theorem State.setAdc_tev (n : Nat) (x : AdcSt) (k : Nat) : (s.setAdc n x).tev k = s.tev k := rfl
@[simp] theorem State.setAdc_ring (n : Nat) (x : AdcSt) (k : Nat) : (s.setAdc n x).ring k = s.ring k := rfl
@[simp] theorem State.setAdc_ctx (n : Nat) (x : AdcSt) (k : Nat) : (s.setAdc n x).ctx k = s.ctx k := rfl

@[simp] theorem State.setSmu_pending (n : Nat) (x : SmuSt) : (s.setSmu n x).pending = s.pending := rfl
@[simp] theorem State.setSmu_clock (n : Nat) (x : SmuSt) : (s.setSmu n x).clock = s.clock := rfl
@[simp] theorem State.setSmu_fuses (n : Nat) (x : SmuSt) : (s.setSmu n x).fuses = s.fuses := rfl
@[simp] theorem State.setSmu_regs (n : Nat) (x : SmuSt) : (s.setSmu n x).regs = s.regs := rfl
@[simp] theorem State.setSmu_m (n : Nat) (x : SmuSt) : (s.setSmu n x).m = s.m := rfl
@[simp] theorem State.setSmu_image (n : Nat) (x : SmuSt) : (s.setSmu n x).image = s.image := rfl
@[simp] theorem State.setSmu_hub (n : Nat) (x : SmuSt) : (s.setSmu n x).hub = s.hub := rfl
@[simp] theorem State.setSmu_time (n : Nat) (x : SmuSt) : (s.setSmu n x).time = s.time := rfl
@[simp] theorem State.setSmu_log (n : Nat) (x : SmuSt) : (s.setSmu n x).log = s.log := rfl
@[simp] theorem State.setSmu_nvm (n : Nat) (x : SmuSt) : (s.setSmu n x).nvm = s.nvm := rfl
@[simp] theorem State.setSmu_spare (n : Nat) (x : SmuSt) : (s.setSmu n x).spare = s.spare := rfl
@[simp] theorem State.setSmu_host (n : Nat) (x : SmuSt) : (s.setSmu n x).host = s.host := rfl
@[simp] theorem State.setSmu_lanes (n : Nat) (x : SmuSt) : (s.setSmu n x).lanes = s.lanes := rfl
@[simp] theorem State.setSmu_dacs (n : Nat) (x : SmuSt) : (s.setSmu n x).dacs = s.dacs := rfl
@[simp] theorem State.setSmu_adcs (n : Nat) (x : SmuSt) : (s.setSmu n x).adcs = s.adcs := rfl
@[simp] theorem State.setSmu_dpss (n : Nat) (x : SmuSt) : (s.setSmu n x).dpss = s.dpss := rfl
@[simp] theorem State.setSmu_cals (n : Nat) (x : SmuSt) : (s.setSmu n x).cals = s.cals := rfl
@[simp] theorem State.setSmu_trims (n : Nat) (x : SmuSt) : (s.setSmu n x).trims = s.trims := rfl
@[simp] theorem State.setSmu_targets (n : Nat) (x : SmuSt) : (s.setSmu n x).targets = s.targets := rfl
@[simp] theorem State.setSmu_results (n : Nat) (x : SmuSt) : (s.setSmu n x).results = s.results := rfl
@[simp] theorem State.setSmu_plays (n : Nat) (x : SmuSt) : (s.setSmu n x).plays = s.plays := rfl
@[simp] theorem State.setSmu_stores (n : Nat) (x : SmuSt) : (s.setSmu n x).stores = s.stores := rfl
@[simp] theorem State.setSmu_seqs (n : Nat) (x : SmuSt) : (s.setSmu n x).seqs = s.seqs := rfl
@[simp] theorem State.setSmu_tdcs (n : Nat) (x : SmuSt) : (s.setSmu n x).tdcs = s.tdcs := rfl
@[simp] theorem State.setSmu_red (n : Nat) (x : SmuSt) : (s.setSmu n x).red = s.red := rfl
@[simp] theorem State.setSmu_acqs (n : Nat) (x : SmuSt) : (s.setSmu n x).acqs = s.acqs := rfl
@[simp] theorem State.setSmu_cap (n : Nat) (x : SmuSt) : (s.setSmu n x).cap = s.cap := rfl
@[simp] theorem State.setSmu_capEcc (n : Nat) (x : SmuSt) : (s.setSmu n x).capEcc = s.capEcc := rfl
@[simp] theorem State.setSmu_flash (n : Nat) (x : SmuSt) : (s.setSmu n x).flash = s.flash := rfl
@[simp] theorem State.setSmu_spi (n : Nat) (x : SmuSt) : (s.setSmu n x).spi = s.spi := rfl
@[simp] theorem State.setSmu_hk (n : Nat) (x : SmuSt) : (s.setSmu n x).hk = s.hk := rfl
@[simp] theorem State.setSmu_legacy (n : Nat) (x : SmuSt) : (s.setSmu n x).legacy = s.legacy := rfl
@[simp] theorem State.setSmu_out (n : Nat) (x : SmuSt) : (s.setSmu n x).out = s.out := rfl
@[simp] theorem State.setSmu_free (n : Nat) (x : SmuSt) : (s.setSmu n x).free = s.free := rfl
@[simp] theorem State.setSmu_rd (n : Nat) (x : SmuSt) (g : Fld) (j : Nat) : (s.setSmu n x).rd g j = s.rd g j := rfl
@[simp] theorem State.setSmu_fl (n : Nat) (x : SmuSt) (g : Fld) (j : Nat) : (s.setSmu n x).fl g j = s.fl g j := rfl
@[simp] theorem State.setSmu_src (n : Nat) (x : SmuSt) (k : Nat) : (s.setSmu n x).src k = s.src k := rfl
@[simp] theorem State.setSmu_queue (n : Nat) (x : SmuSt) (k : Nat) : (s.setSmu n x).queue k = s.queue k := rfl
@[simp] theorem State.setSmu_lane (n : Nat) (x : SmuSt) (k : Nat) : (s.setSmu n x).lane k = s.lane k := rfl
@[simp] theorem State.setSmu_dac (n : Nat) (x : SmuSt) (k : Nat) : (s.setSmu n x).dac k = s.dac k := rfl
@[simp] theorem State.setSmu_adc (n : Nat) (x : SmuSt) (k : Nat) : (s.setSmu n x).adc k = s.adc k := rfl
@[simp] theorem State.setSmu_dps (n : Nat) (x : SmuSt) (k : Nat) : (s.setSmu n x).dps k = s.dps k := rfl
@[simp] theorem State.setSmu_play (n : Nat) (x : SmuSt) (k : Nat) : (s.setSmu n x).play k = s.play k := rfl
@[simp] theorem State.setSmu_store (n : Nat) (x : SmuSt) (k : Nat) : (s.setSmu n x).store k = s.store k := rfl
@[simp] theorem State.setSmu_seq (n : Nat) (x : SmuSt) (k : Nat) : (s.setSmu n x).seq k = s.seq k := rfl
@[simp] theorem State.setSmu_tdc (n : Nat) (x : SmuSt) (k : Nat) : (s.setSmu n x).tdc k = s.tdc k := rfl
@[simp] theorem State.setSmu_acq (n : Nat) (x : SmuSt) (k : Nat) : (s.setSmu n x).acq k = s.acq k := rfl
@[simp] theorem State.setSmu_cal (n : Nat) (x : SmuSt) (k : Nat) : (s.setSmu n x).cal k = s.cal k := rfl
@[simp] theorem State.setSmu_port (n : Nat) (x : SmuSt) (k : Nat) : (s.setSmu n x).port k = s.port k := rfl
@[simp] theorem State.setSmu_tev (n : Nat) (x : SmuSt) (k : Nat) : (s.setSmu n x).tev k = s.tev k := rfl
@[simp] theorem State.setSmu_ring (n : Nat) (x : SmuSt) (k : Nat) : (s.setSmu n x).ring k = s.ring k := rfl
@[simp] theorem State.setSmu_ctx (n : Nat) (x : SmuSt) (k : Nat) : (s.setSmu n x).ctx k = s.ctx k := rfl

@[simp] theorem State.setDps_pending (n : Nat) (x : DpsSt) : (s.setDps n x).pending = s.pending := rfl
@[simp] theorem State.setDps_clock (n : Nat) (x : DpsSt) : (s.setDps n x).clock = s.clock := rfl
@[simp] theorem State.setDps_fuses (n : Nat) (x : DpsSt) : (s.setDps n x).fuses = s.fuses := rfl
@[simp] theorem State.setDps_regs (n : Nat) (x : DpsSt) : (s.setDps n x).regs = s.regs := rfl
@[simp] theorem State.setDps_m (n : Nat) (x : DpsSt) : (s.setDps n x).m = s.m := rfl
@[simp] theorem State.setDps_image (n : Nat) (x : DpsSt) : (s.setDps n x).image = s.image := rfl
@[simp] theorem State.setDps_hub (n : Nat) (x : DpsSt) : (s.setDps n x).hub = s.hub := rfl
@[simp] theorem State.setDps_time (n : Nat) (x : DpsSt) : (s.setDps n x).time = s.time := rfl
@[simp] theorem State.setDps_log (n : Nat) (x : DpsSt) : (s.setDps n x).log = s.log := rfl
@[simp] theorem State.setDps_nvm (n : Nat) (x : DpsSt) : (s.setDps n x).nvm = s.nvm := rfl
@[simp] theorem State.setDps_spare (n : Nat) (x : DpsSt) : (s.setDps n x).spare = s.spare := rfl
@[simp] theorem State.setDps_host (n : Nat) (x : DpsSt) : (s.setDps n x).host = s.host := rfl
@[simp] theorem State.setDps_lanes (n : Nat) (x : DpsSt) : (s.setDps n x).lanes = s.lanes := rfl
@[simp] theorem State.setDps_dacs (n : Nat) (x : DpsSt) : (s.setDps n x).dacs = s.dacs := rfl
@[simp] theorem State.setDps_adcs (n : Nat) (x : DpsSt) : (s.setDps n x).adcs = s.adcs := rfl
@[simp] theorem State.setDps_smus (n : Nat) (x : DpsSt) : (s.setDps n x).smus = s.smus := rfl
@[simp] theorem State.setDps_cals (n : Nat) (x : DpsSt) : (s.setDps n x).cals = s.cals := rfl
@[simp] theorem State.setDps_trims (n : Nat) (x : DpsSt) : (s.setDps n x).trims = s.trims := rfl
@[simp] theorem State.setDps_targets (n : Nat) (x : DpsSt) : (s.setDps n x).targets = s.targets := rfl
@[simp] theorem State.setDps_results (n : Nat) (x : DpsSt) : (s.setDps n x).results = s.results := rfl
@[simp] theorem State.setDps_plays (n : Nat) (x : DpsSt) : (s.setDps n x).plays = s.plays := rfl
@[simp] theorem State.setDps_stores (n : Nat) (x : DpsSt) : (s.setDps n x).stores = s.stores := rfl
@[simp] theorem State.setDps_seqs (n : Nat) (x : DpsSt) : (s.setDps n x).seqs = s.seqs := rfl
@[simp] theorem State.setDps_tdcs (n : Nat) (x : DpsSt) : (s.setDps n x).tdcs = s.tdcs := rfl
@[simp] theorem State.setDps_red (n : Nat) (x : DpsSt) : (s.setDps n x).red = s.red := rfl
@[simp] theorem State.setDps_acqs (n : Nat) (x : DpsSt) : (s.setDps n x).acqs = s.acqs := rfl
@[simp] theorem State.setDps_cap (n : Nat) (x : DpsSt) : (s.setDps n x).cap = s.cap := rfl
@[simp] theorem State.setDps_capEcc (n : Nat) (x : DpsSt) : (s.setDps n x).capEcc = s.capEcc := rfl
@[simp] theorem State.setDps_flash (n : Nat) (x : DpsSt) : (s.setDps n x).flash = s.flash := rfl
@[simp] theorem State.setDps_spi (n : Nat) (x : DpsSt) : (s.setDps n x).spi = s.spi := rfl
@[simp] theorem State.setDps_hk (n : Nat) (x : DpsSt) : (s.setDps n x).hk = s.hk := rfl
@[simp] theorem State.setDps_legacy (n : Nat) (x : DpsSt) : (s.setDps n x).legacy = s.legacy := rfl
@[simp] theorem State.setDps_out (n : Nat) (x : DpsSt) : (s.setDps n x).out = s.out := rfl
@[simp] theorem State.setDps_free (n : Nat) (x : DpsSt) : (s.setDps n x).free = s.free := rfl
@[simp] theorem State.setDps_rd (n : Nat) (x : DpsSt) (g : Fld) (j : Nat) : (s.setDps n x).rd g j = s.rd g j := rfl
@[simp] theorem State.setDps_fl (n : Nat) (x : DpsSt) (g : Fld) (j : Nat) : (s.setDps n x).fl g j = s.fl g j := rfl
@[simp] theorem State.setDps_src (n : Nat) (x : DpsSt) (k : Nat) : (s.setDps n x).src k = s.src k := rfl
@[simp] theorem State.setDps_queue (n : Nat) (x : DpsSt) (k : Nat) : (s.setDps n x).queue k = s.queue k := rfl
@[simp] theorem State.setDps_lane (n : Nat) (x : DpsSt) (k : Nat) : (s.setDps n x).lane k = s.lane k := rfl
@[simp] theorem State.setDps_dac (n : Nat) (x : DpsSt) (k : Nat) : (s.setDps n x).dac k = s.dac k := rfl
@[simp] theorem State.setDps_adc (n : Nat) (x : DpsSt) (k : Nat) : (s.setDps n x).adc k = s.adc k := rfl
@[simp] theorem State.setDps_smu (n : Nat) (x : DpsSt) (k : Nat) : (s.setDps n x).smu k = s.smu k := rfl
@[simp] theorem State.setDps_play (n : Nat) (x : DpsSt) (k : Nat) : (s.setDps n x).play k = s.play k := rfl
@[simp] theorem State.setDps_store (n : Nat) (x : DpsSt) (k : Nat) : (s.setDps n x).store k = s.store k := rfl
@[simp] theorem State.setDps_seq (n : Nat) (x : DpsSt) (k : Nat) : (s.setDps n x).seq k = s.seq k := rfl
@[simp] theorem State.setDps_tdc (n : Nat) (x : DpsSt) (k : Nat) : (s.setDps n x).tdc k = s.tdc k := rfl
@[simp] theorem State.setDps_acq (n : Nat) (x : DpsSt) (k : Nat) : (s.setDps n x).acq k = s.acq k := rfl
@[simp] theorem State.setDps_cal (n : Nat) (x : DpsSt) (k : Nat) : (s.setDps n x).cal k = s.cal k := rfl
@[simp] theorem State.setDps_port (n : Nat) (x : DpsSt) (k : Nat) : (s.setDps n x).port k = s.port k := rfl
@[simp] theorem State.setDps_tev (n : Nat) (x : DpsSt) (k : Nat) : (s.setDps n x).tev k = s.tev k := rfl
@[simp] theorem State.setDps_ring (n : Nat) (x : DpsSt) (k : Nat) : (s.setDps n x).ring k = s.ring k := rfl
@[simp] theorem State.setDps_ctx (n : Nat) (x : DpsSt) (k : Nat) : (s.setDps n x).ctx k = s.ctx k := rfl

@[simp] theorem State.setPlay_pending (n : Nat) (x : PlaySt) : (s.setPlay n x).pending = s.pending := rfl
@[simp] theorem State.setPlay_clock (n : Nat) (x : PlaySt) : (s.setPlay n x).clock = s.clock := rfl
@[simp] theorem State.setPlay_fuses (n : Nat) (x : PlaySt) : (s.setPlay n x).fuses = s.fuses := rfl
@[simp] theorem State.setPlay_regs (n : Nat) (x : PlaySt) : (s.setPlay n x).regs = s.regs := rfl
@[simp] theorem State.setPlay_m (n : Nat) (x : PlaySt) : (s.setPlay n x).m = s.m := rfl
@[simp] theorem State.setPlay_image (n : Nat) (x : PlaySt) : (s.setPlay n x).image = s.image := rfl
@[simp] theorem State.setPlay_hub (n : Nat) (x : PlaySt) : (s.setPlay n x).hub = s.hub := rfl
@[simp] theorem State.setPlay_time (n : Nat) (x : PlaySt) : (s.setPlay n x).time = s.time := rfl
@[simp] theorem State.setPlay_log (n : Nat) (x : PlaySt) : (s.setPlay n x).log = s.log := rfl
@[simp] theorem State.setPlay_nvm (n : Nat) (x : PlaySt) : (s.setPlay n x).nvm = s.nvm := rfl
@[simp] theorem State.setPlay_spare (n : Nat) (x : PlaySt) : (s.setPlay n x).spare = s.spare := rfl
@[simp] theorem State.setPlay_host (n : Nat) (x : PlaySt) : (s.setPlay n x).host = s.host := rfl
@[simp] theorem State.setPlay_lanes (n : Nat) (x : PlaySt) : (s.setPlay n x).lanes = s.lanes := rfl
@[simp] theorem State.setPlay_dacs (n : Nat) (x : PlaySt) : (s.setPlay n x).dacs = s.dacs := rfl
@[simp] theorem State.setPlay_adcs (n : Nat) (x : PlaySt) : (s.setPlay n x).adcs = s.adcs := rfl
@[simp] theorem State.setPlay_smus (n : Nat) (x : PlaySt) : (s.setPlay n x).smus = s.smus := rfl
@[simp] theorem State.setPlay_dpss (n : Nat) (x : PlaySt) : (s.setPlay n x).dpss = s.dpss := rfl
@[simp] theorem State.setPlay_cals (n : Nat) (x : PlaySt) : (s.setPlay n x).cals = s.cals := rfl
@[simp] theorem State.setPlay_trims (n : Nat) (x : PlaySt) : (s.setPlay n x).trims = s.trims := rfl
@[simp] theorem State.setPlay_targets (n : Nat) (x : PlaySt) : (s.setPlay n x).targets = s.targets := rfl
@[simp] theorem State.setPlay_results (n : Nat) (x : PlaySt) : (s.setPlay n x).results = s.results := rfl
@[simp] theorem State.setPlay_stores (n : Nat) (x : PlaySt) : (s.setPlay n x).stores = s.stores := rfl
@[simp] theorem State.setPlay_seqs (n : Nat) (x : PlaySt) : (s.setPlay n x).seqs = s.seqs := rfl
@[simp] theorem State.setPlay_tdcs (n : Nat) (x : PlaySt) : (s.setPlay n x).tdcs = s.tdcs := rfl
@[simp] theorem State.setPlay_red (n : Nat) (x : PlaySt) : (s.setPlay n x).red = s.red := rfl
@[simp] theorem State.setPlay_acqs (n : Nat) (x : PlaySt) : (s.setPlay n x).acqs = s.acqs := rfl
@[simp] theorem State.setPlay_cap (n : Nat) (x : PlaySt) : (s.setPlay n x).cap = s.cap := rfl
@[simp] theorem State.setPlay_capEcc (n : Nat) (x : PlaySt) : (s.setPlay n x).capEcc = s.capEcc := rfl
@[simp] theorem State.setPlay_flash (n : Nat) (x : PlaySt) : (s.setPlay n x).flash = s.flash := rfl
@[simp] theorem State.setPlay_spi (n : Nat) (x : PlaySt) : (s.setPlay n x).spi = s.spi := rfl
@[simp] theorem State.setPlay_hk (n : Nat) (x : PlaySt) : (s.setPlay n x).hk = s.hk := rfl
@[simp] theorem State.setPlay_legacy (n : Nat) (x : PlaySt) : (s.setPlay n x).legacy = s.legacy := rfl
@[simp] theorem State.setPlay_out (n : Nat) (x : PlaySt) : (s.setPlay n x).out = s.out := rfl
@[simp] theorem State.setPlay_free (n : Nat) (x : PlaySt) : (s.setPlay n x).free = s.free := rfl
@[simp] theorem State.setPlay_rd (n : Nat) (x : PlaySt) (g : Fld) (j : Nat) : (s.setPlay n x).rd g j = s.rd g j := rfl
@[simp] theorem State.setPlay_fl (n : Nat) (x : PlaySt) (g : Fld) (j : Nat) : (s.setPlay n x).fl g j = s.fl g j := rfl
@[simp] theorem State.setPlay_src (n : Nat) (x : PlaySt) (k : Nat) : (s.setPlay n x).src k = s.src k := rfl
@[simp] theorem State.setPlay_queue (n : Nat) (x : PlaySt) (k : Nat) : (s.setPlay n x).queue k = s.queue k := rfl
@[simp] theorem State.setPlay_lane (n : Nat) (x : PlaySt) (k : Nat) : (s.setPlay n x).lane k = s.lane k := rfl
@[simp] theorem State.setPlay_dac (n : Nat) (x : PlaySt) (k : Nat) : (s.setPlay n x).dac k = s.dac k := rfl
@[simp] theorem State.setPlay_adc (n : Nat) (x : PlaySt) (k : Nat) : (s.setPlay n x).adc k = s.adc k := rfl
@[simp] theorem State.setPlay_smu (n : Nat) (x : PlaySt) (k : Nat) : (s.setPlay n x).smu k = s.smu k := rfl
@[simp] theorem State.setPlay_dps (n : Nat) (x : PlaySt) (k : Nat) : (s.setPlay n x).dps k = s.dps k := rfl
@[simp] theorem State.setPlay_store (n : Nat) (x : PlaySt) (k : Nat) : (s.setPlay n x).store k = s.store k := rfl
@[simp] theorem State.setPlay_seq (n : Nat) (x : PlaySt) (k : Nat) : (s.setPlay n x).seq k = s.seq k := rfl
@[simp] theorem State.setPlay_tdc (n : Nat) (x : PlaySt) (k : Nat) : (s.setPlay n x).tdc k = s.tdc k := rfl
@[simp] theorem State.setPlay_acq (n : Nat) (x : PlaySt) (k : Nat) : (s.setPlay n x).acq k = s.acq k := rfl
@[simp] theorem State.setPlay_cal (n : Nat) (x : PlaySt) (k : Nat) : (s.setPlay n x).cal k = s.cal k := rfl
@[simp] theorem State.setPlay_port (n : Nat) (x : PlaySt) (k : Nat) : (s.setPlay n x).port k = s.port k := rfl
@[simp] theorem State.setPlay_tev (n : Nat) (x : PlaySt) (k : Nat) : (s.setPlay n x).tev k = s.tev k := rfl
@[simp] theorem State.setPlay_ring (n : Nat) (x : PlaySt) (k : Nat) : (s.setPlay n x).ring k = s.ring k := rfl
@[simp] theorem State.setPlay_ctx (n : Nat) (x : PlaySt) (k : Nat) : (s.setPlay n x).ctx k = s.ctx k := rfl

@[simp] theorem State.setStore_pending (n : Nat) (x : StoreSt) : (s.setStore n x).pending = s.pending := rfl
@[simp] theorem State.setStore_clock (n : Nat) (x : StoreSt) : (s.setStore n x).clock = s.clock := rfl
@[simp] theorem State.setStore_fuses (n : Nat) (x : StoreSt) : (s.setStore n x).fuses = s.fuses := rfl
@[simp] theorem State.setStore_regs (n : Nat) (x : StoreSt) : (s.setStore n x).regs = s.regs := rfl
@[simp] theorem State.setStore_m (n : Nat) (x : StoreSt) : (s.setStore n x).m = s.m := rfl
@[simp] theorem State.setStore_image (n : Nat) (x : StoreSt) : (s.setStore n x).image = s.image := rfl
@[simp] theorem State.setStore_hub (n : Nat) (x : StoreSt) : (s.setStore n x).hub = s.hub := rfl
@[simp] theorem State.setStore_time (n : Nat) (x : StoreSt) : (s.setStore n x).time = s.time := rfl
@[simp] theorem State.setStore_log (n : Nat) (x : StoreSt) : (s.setStore n x).log = s.log := rfl
@[simp] theorem State.setStore_nvm (n : Nat) (x : StoreSt) : (s.setStore n x).nvm = s.nvm := rfl
@[simp] theorem State.setStore_spare (n : Nat) (x : StoreSt) : (s.setStore n x).spare = s.spare := rfl
@[simp] theorem State.setStore_host (n : Nat) (x : StoreSt) : (s.setStore n x).host = s.host := rfl
@[simp] theorem State.setStore_lanes (n : Nat) (x : StoreSt) : (s.setStore n x).lanes = s.lanes := rfl
@[simp] theorem State.setStore_dacs (n : Nat) (x : StoreSt) : (s.setStore n x).dacs = s.dacs := rfl
@[simp] theorem State.setStore_adcs (n : Nat) (x : StoreSt) : (s.setStore n x).adcs = s.adcs := rfl
@[simp] theorem State.setStore_smus (n : Nat) (x : StoreSt) : (s.setStore n x).smus = s.smus := rfl
@[simp] theorem State.setStore_dpss (n : Nat) (x : StoreSt) : (s.setStore n x).dpss = s.dpss := rfl
@[simp] theorem State.setStore_cals (n : Nat) (x : StoreSt) : (s.setStore n x).cals = s.cals := rfl
@[simp] theorem State.setStore_trims (n : Nat) (x : StoreSt) : (s.setStore n x).trims = s.trims := rfl
@[simp] theorem State.setStore_targets (n : Nat) (x : StoreSt) : (s.setStore n x).targets = s.targets := rfl
@[simp] theorem State.setStore_results (n : Nat) (x : StoreSt) : (s.setStore n x).results = s.results := rfl
@[simp] theorem State.setStore_plays (n : Nat) (x : StoreSt) : (s.setStore n x).plays = s.plays := rfl
@[simp] theorem State.setStore_seqs (n : Nat) (x : StoreSt) : (s.setStore n x).seqs = s.seqs := rfl
@[simp] theorem State.setStore_tdcs (n : Nat) (x : StoreSt) : (s.setStore n x).tdcs = s.tdcs := rfl
@[simp] theorem State.setStore_red (n : Nat) (x : StoreSt) : (s.setStore n x).red = s.red := rfl
@[simp] theorem State.setStore_acqs (n : Nat) (x : StoreSt) : (s.setStore n x).acqs = s.acqs := rfl
@[simp] theorem State.setStore_cap (n : Nat) (x : StoreSt) : (s.setStore n x).cap = s.cap := rfl
@[simp] theorem State.setStore_capEcc (n : Nat) (x : StoreSt) : (s.setStore n x).capEcc = s.capEcc := rfl
@[simp] theorem State.setStore_flash (n : Nat) (x : StoreSt) : (s.setStore n x).flash = s.flash := rfl
@[simp] theorem State.setStore_spi (n : Nat) (x : StoreSt) : (s.setStore n x).spi = s.spi := rfl
@[simp] theorem State.setStore_hk (n : Nat) (x : StoreSt) : (s.setStore n x).hk = s.hk := rfl
@[simp] theorem State.setStore_legacy (n : Nat) (x : StoreSt) : (s.setStore n x).legacy = s.legacy := rfl
@[simp] theorem State.setStore_out (n : Nat) (x : StoreSt) : (s.setStore n x).out = s.out := rfl
@[simp] theorem State.setStore_free (n : Nat) (x : StoreSt) : (s.setStore n x).free = s.free := rfl
@[simp] theorem State.setStore_rd (n : Nat) (x : StoreSt) (g : Fld) (j : Nat) : (s.setStore n x).rd g j = s.rd g j := rfl
@[simp] theorem State.setStore_fl (n : Nat) (x : StoreSt) (g : Fld) (j : Nat) : (s.setStore n x).fl g j = s.fl g j := rfl
@[simp] theorem State.setStore_src (n : Nat) (x : StoreSt) (k : Nat) : (s.setStore n x).src k = s.src k := rfl
@[simp] theorem State.setStore_queue (n : Nat) (x : StoreSt) (k : Nat) : (s.setStore n x).queue k = s.queue k := rfl
@[simp] theorem State.setStore_lane (n : Nat) (x : StoreSt) (k : Nat) : (s.setStore n x).lane k = s.lane k := rfl
@[simp] theorem State.setStore_dac (n : Nat) (x : StoreSt) (k : Nat) : (s.setStore n x).dac k = s.dac k := rfl
@[simp] theorem State.setStore_adc (n : Nat) (x : StoreSt) (k : Nat) : (s.setStore n x).adc k = s.adc k := rfl
@[simp] theorem State.setStore_smu (n : Nat) (x : StoreSt) (k : Nat) : (s.setStore n x).smu k = s.smu k := rfl
@[simp] theorem State.setStore_dps (n : Nat) (x : StoreSt) (k : Nat) : (s.setStore n x).dps k = s.dps k := rfl
@[simp] theorem State.setStore_play (n : Nat) (x : StoreSt) (k : Nat) : (s.setStore n x).play k = s.play k := rfl
@[simp] theorem State.setStore_seq (n : Nat) (x : StoreSt) (k : Nat) : (s.setStore n x).seq k = s.seq k := rfl
@[simp] theorem State.setStore_tdc (n : Nat) (x : StoreSt) (k : Nat) : (s.setStore n x).tdc k = s.tdc k := rfl
@[simp] theorem State.setStore_acq (n : Nat) (x : StoreSt) (k : Nat) : (s.setStore n x).acq k = s.acq k := rfl
@[simp] theorem State.setStore_cal (n : Nat) (x : StoreSt) (k : Nat) : (s.setStore n x).cal k = s.cal k := rfl
@[simp] theorem State.setStore_port (n : Nat) (x : StoreSt) (k : Nat) : (s.setStore n x).port k = s.port k := rfl
@[simp] theorem State.setStore_tev (n : Nat) (x : StoreSt) (k : Nat) : (s.setStore n x).tev k = s.tev k := rfl
@[simp] theorem State.setStore_ring (n : Nat) (x : StoreSt) (k : Nat) : (s.setStore n x).ring k = s.ring k := rfl
@[simp] theorem State.setStore_ctx (n : Nat) (x : StoreSt) (k : Nat) : (s.setStore n x).ctx k = s.ctx k := rfl

@[simp] theorem State.setSeq_pending (n : Nat) (x : SeqSt) : (s.setSeq n x).pending = s.pending := rfl
@[simp] theorem State.setSeq_clock (n : Nat) (x : SeqSt) : (s.setSeq n x).clock = s.clock := rfl
@[simp] theorem State.setSeq_fuses (n : Nat) (x : SeqSt) : (s.setSeq n x).fuses = s.fuses := rfl
@[simp] theorem State.setSeq_regs (n : Nat) (x : SeqSt) : (s.setSeq n x).regs = s.regs := rfl
@[simp] theorem State.setSeq_m (n : Nat) (x : SeqSt) : (s.setSeq n x).m = s.m := rfl
@[simp] theorem State.setSeq_image (n : Nat) (x : SeqSt) : (s.setSeq n x).image = s.image := rfl
@[simp] theorem State.setSeq_hub (n : Nat) (x : SeqSt) : (s.setSeq n x).hub = s.hub := rfl
@[simp] theorem State.setSeq_time (n : Nat) (x : SeqSt) : (s.setSeq n x).time = s.time := rfl
@[simp] theorem State.setSeq_log (n : Nat) (x : SeqSt) : (s.setSeq n x).log = s.log := rfl
@[simp] theorem State.setSeq_nvm (n : Nat) (x : SeqSt) : (s.setSeq n x).nvm = s.nvm := rfl
@[simp] theorem State.setSeq_spare (n : Nat) (x : SeqSt) : (s.setSeq n x).spare = s.spare := rfl
@[simp] theorem State.setSeq_host (n : Nat) (x : SeqSt) : (s.setSeq n x).host = s.host := rfl
@[simp] theorem State.setSeq_lanes (n : Nat) (x : SeqSt) : (s.setSeq n x).lanes = s.lanes := rfl
@[simp] theorem State.setSeq_dacs (n : Nat) (x : SeqSt) : (s.setSeq n x).dacs = s.dacs := rfl
@[simp] theorem State.setSeq_adcs (n : Nat) (x : SeqSt) : (s.setSeq n x).adcs = s.adcs := rfl
@[simp] theorem State.setSeq_smus (n : Nat) (x : SeqSt) : (s.setSeq n x).smus = s.smus := rfl
@[simp] theorem State.setSeq_dpss (n : Nat) (x : SeqSt) : (s.setSeq n x).dpss = s.dpss := rfl
@[simp] theorem State.setSeq_cals (n : Nat) (x : SeqSt) : (s.setSeq n x).cals = s.cals := rfl
@[simp] theorem State.setSeq_trims (n : Nat) (x : SeqSt) : (s.setSeq n x).trims = s.trims := rfl
@[simp] theorem State.setSeq_targets (n : Nat) (x : SeqSt) : (s.setSeq n x).targets = s.targets := rfl
@[simp] theorem State.setSeq_results (n : Nat) (x : SeqSt) : (s.setSeq n x).results = s.results := rfl
@[simp] theorem State.setSeq_plays (n : Nat) (x : SeqSt) : (s.setSeq n x).plays = s.plays := rfl
@[simp] theorem State.setSeq_stores (n : Nat) (x : SeqSt) : (s.setSeq n x).stores = s.stores := rfl
@[simp] theorem State.setSeq_tdcs (n : Nat) (x : SeqSt) : (s.setSeq n x).tdcs = s.tdcs := rfl
@[simp] theorem State.setSeq_red (n : Nat) (x : SeqSt) : (s.setSeq n x).red = s.red := rfl
@[simp] theorem State.setSeq_acqs (n : Nat) (x : SeqSt) : (s.setSeq n x).acqs = s.acqs := rfl
@[simp] theorem State.setSeq_cap (n : Nat) (x : SeqSt) : (s.setSeq n x).cap = s.cap := rfl
@[simp] theorem State.setSeq_capEcc (n : Nat) (x : SeqSt) : (s.setSeq n x).capEcc = s.capEcc := rfl
@[simp] theorem State.setSeq_flash (n : Nat) (x : SeqSt) : (s.setSeq n x).flash = s.flash := rfl
@[simp] theorem State.setSeq_spi (n : Nat) (x : SeqSt) : (s.setSeq n x).spi = s.spi := rfl
@[simp] theorem State.setSeq_hk (n : Nat) (x : SeqSt) : (s.setSeq n x).hk = s.hk := rfl
@[simp] theorem State.setSeq_legacy (n : Nat) (x : SeqSt) : (s.setSeq n x).legacy = s.legacy := rfl
@[simp] theorem State.setSeq_out (n : Nat) (x : SeqSt) : (s.setSeq n x).out = s.out := rfl
@[simp] theorem State.setSeq_free (n : Nat) (x : SeqSt) : (s.setSeq n x).free = s.free := rfl
@[simp] theorem State.setSeq_rd (n : Nat) (x : SeqSt) (g : Fld) (j : Nat) : (s.setSeq n x).rd g j = s.rd g j := rfl
@[simp] theorem State.setSeq_fl (n : Nat) (x : SeqSt) (g : Fld) (j : Nat) : (s.setSeq n x).fl g j = s.fl g j := rfl
@[simp] theorem State.setSeq_src (n : Nat) (x : SeqSt) (k : Nat) : (s.setSeq n x).src k = s.src k := rfl
@[simp] theorem State.setSeq_queue (n : Nat) (x : SeqSt) (k : Nat) : (s.setSeq n x).queue k = s.queue k := rfl
@[simp] theorem State.setSeq_lane (n : Nat) (x : SeqSt) (k : Nat) : (s.setSeq n x).lane k = s.lane k := rfl
@[simp] theorem State.setSeq_dac (n : Nat) (x : SeqSt) (k : Nat) : (s.setSeq n x).dac k = s.dac k := rfl
@[simp] theorem State.setSeq_adc (n : Nat) (x : SeqSt) (k : Nat) : (s.setSeq n x).adc k = s.adc k := rfl
@[simp] theorem State.setSeq_smu (n : Nat) (x : SeqSt) (k : Nat) : (s.setSeq n x).smu k = s.smu k := rfl
@[simp] theorem State.setSeq_dps (n : Nat) (x : SeqSt) (k : Nat) : (s.setSeq n x).dps k = s.dps k := rfl
@[simp] theorem State.setSeq_play (n : Nat) (x : SeqSt) (k : Nat) : (s.setSeq n x).play k = s.play k := rfl
@[simp] theorem State.setSeq_store (n : Nat) (x : SeqSt) (k : Nat) : (s.setSeq n x).store k = s.store k := rfl
@[simp] theorem State.setSeq_tdc (n : Nat) (x : SeqSt) (k : Nat) : (s.setSeq n x).tdc k = s.tdc k := rfl
@[simp] theorem State.setSeq_acq (n : Nat) (x : SeqSt) (k : Nat) : (s.setSeq n x).acq k = s.acq k := rfl
@[simp] theorem State.setSeq_cal (n : Nat) (x : SeqSt) (k : Nat) : (s.setSeq n x).cal k = s.cal k := rfl
@[simp] theorem State.setSeq_port (n : Nat) (x : SeqSt) (k : Nat) : (s.setSeq n x).port k = s.port k := rfl
@[simp] theorem State.setSeq_tev (n : Nat) (x : SeqSt) (k : Nat) : (s.setSeq n x).tev k = s.tev k := rfl
@[simp] theorem State.setSeq_ring (n : Nat) (x : SeqSt) (k : Nat) : (s.setSeq n x).ring k = s.ring k := rfl
@[simp] theorem State.setSeq_ctx (n : Nat) (x : SeqSt) (k : Nat) : (s.setSeq n x).ctx k = s.ctx k := rfl

@[simp] theorem State.setTdc_pending (n : Nat) (x : TdcSt) : (s.setTdc n x).pending = s.pending := rfl
@[simp] theorem State.setTdc_clock (n : Nat) (x : TdcSt) : (s.setTdc n x).clock = s.clock := rfl
@[simp] theorem State.setTdc_fuses (n : Nat) (x : TdcSt) : (s.setTdc n x).fuses = s.fuses := rfl
@[simp] theorem State.setTdc_regs (n : Nat) (x : TdcSt) : (s.setTdc n x).regs = s.regs := rfl
@[simp] theorem State.setTdc_m (n : Nat) (x : TdcSt) : (s.setTdc n x).m = s.m := rfl
@[simp] theorem State.setTdc_image (n : Nat) (x : TdcSt) : (s.setTdc n x).image = s.image := rfl
@[simp] theorem State.setTdc_hub (n : Nat) (x : TdcSt) : (s.setTdc n x).hub = s.hub := rfl
@[simp] theorem State.setTdc_time (n : Nat) (x : TdcSt) : (s.setTdc n x).time = s.time := rfl
@[simp] theorem State.setTdc_log (n : Nat) (x : TdcSt) : (s.setTdc n x).log = s.log := rfl
@[simp] theorem State.setTdc_nvm (n : Nat) (x : TdcSt) : (s.setTdc n x).nvm = s.nvm := rfl
@[simp] theorem State.setTdc_spare (n : Nat) (x : TdcSt) : (s.setTdc n x).spare = s.spare := rfl
@[simp] theorem State.setTdc_host (n : Nat) (x : TdcSt) : (s.setTdc n x).host = s.host := rfl
@[simp] theorem State.setTdc_lanes (n : Nat) (x : TdcSt) : (s.setTdc n x).lanes = s.lanes := rfl
@[simp] theorem State.setTdc_dacs (n : Nat) (x : TdcSt) : (s.setTdc n x).dacs = s.dacs := rfl
@[simp] theorem State.setTdc_adcs (n : Nat) (x : TdcSt) : (s.setTdc n x).adcs = s.adcs := rfl
@[simp] theorem State.setTdc_smus (n : Nat) (x : TdcSt) : (s.setTdc n x).smus = s.smus := rfl
@[simp] theorem State.setTdc_dpss (n : Nat) (x : TdcSt) : (s.setTdc n x).dpss = s.dpss := rfl
@[simp] theorem State.setTdc_cals (n : Nat) (x : TdcSt) : (s.setTdc n x).cals = s.cals := rfl
@[simp] theorem State.setTdc_trims (n : Nat) (x : TdcSt) : (s.setTdc n x).trims = s.trims := rfl
@[simp] theorem State.setTdc_targets (n : Nat) (x : TdcSt) : (s.setTdc n x).targets = s.targets := rfl
@[simp] theorem State.setTdc_results (n : Nat) (x : TdcSt) : (s.setTdc n x).results = s.results := rfl
@[simp] theorem State.setTdc_plays (n : Nat) (x : TdcSt) : (s.setTdc n x).plays = s.plays := rfl
@[simp] theorem State.setTdc_stores (n : Nat) (x : TdcSt) : (s.setTdc n x).stores = s.stores := rfl
@[simp] theorem State.setTdc_seqs (n : Nat) (x : TdcSt) : (s.setTdc n x).seqs = s.seqs := rfl
@[simp] theorem State.setTdc_red (n : Nat) (x : TdcSt) : (s.setTdc n x).red = s.red := rfl
@[simp] theorem State.setTdc_acqs (n : Nat) (x : TdcSt) : (s.setTdc n x).acqs = s.acqs := rfl
@[simp] theorem State.setTdc_cap (n : Nat) (x : TdcSt) : (s.setTdc n x).cap = s.cap := rfl
@[simp] theorem State.setTdc_capEcc (n : Nat) (x : TdcSt) : (s.setTdc n x).capEcc = s.capEcc := rfl
@[simp] theorem State.setTdc_flash (n : Nat) (x : TdcSt) : (s.setTdc n x).flash = s.flash := rfl
@[simp] theorem State.setTdc_spi (n : Nat) (x : TdcSt) : (s.setTdc n x).spi = s.spi := rfl
@[simp] theorem State.setTdc_hk (n : Nat) (x : TdcSt) : (s.setTdc n x).hk = s.hk := rfl
@[simp] theorem State.setTdc_legacy (n : Nat) (x : TdcSt) : (s.setTdc n x).legacy = s.legacy := rfl
@[simp] theorem State.setTdc_out (n : Nat) (x : TdcSt) : (s.setTdc n x).out = s.out := rfl
@[simp] theorem State.setTdc_free (n : Nat) (x : TdcSt) : (s.setTdc n x).free = s.free := rfl
@[simp] theorem State.setTdc_rd (n : Nat) (x : TdcSt) (g : Fld) (j : Nat) : (s.setTdc n x).rd g j = s.rd g j := rfl
@[simp] theorem State.setTdc_fl (n : Nat) (x : TdcSt) (g : Fld) (j : Nat) : (s.setTdc n x).fl g j = s.fl g j := rfl
@[simp] theorem State.setTdc_src (n : Nat) (x : TdcSt) (k : Nat) : (s.setTdc n x).src k = s.src k := rfl
@[simp] theorem State.setTdc_queue (n : Nat) (x : TdcSt) (k : Nat) : (s.setTdc n x).queue k = s.queue k := rfl
@[simp] theorem State.setTdc_lane (n : Nat) (x : TdcSt) (k : Nat) : (s.setTdc n x).lane k = s.lane k := rfl
@[simp] theorem State.setTdc_dac (n : Nat) (x : TdcSt) (k : Nat) : (s.setTdc n x).dac k = s.dac k := rfl
@[simp] theorem State.setTdc_adc (n : Nat) (x : TdcSt) (k : Nat) : (s.setTdc n x).adc k = s.adc k := rfl
@[simp] theorem State.setTdc_smu (n : Nat) (x : TdcSt) (k : Nat) : (s.setTdc n x).smu k = s.smu k := rfl
@[simp] theorem State.setTdc_dps (n : Nat) (x : TdcSt) (k : Nat) : (s.setTdc n x).dps k = s.dps k := rfl
@[simp] theorem State.setTdc_play (n : Nat) (x : TdcSt) (k : Nat) : (s.setTdc n x).play k = s.play k := rfl
@[simp] theorem State.setTdc_store (n : Nat) (x : TdcSt) (k : Nat) : (s.setTdc n x).store k = s.store k := rfl
@[simp] theorem State.setTdc_seq (n : Nat) (x : TdcSt) (k : Nat) : (s.setTdc n x).seq k = s.seq k := rfl
@[simp] theorem State.setTdc_acq (n : Nat) (x : TdcSt) (k : Nat) : (s.setTdc n x).acq k = s.acq k := rfl
@[simp] theorem State.setTdc_cal (n : Nat) (x : TdcSt) (k : Nat) : (s.setTdc n x).cal k = s.cal k := rfl
@[simp] theorem State.setTdc_port (n : Nat) (x : TdcSt) (k : Nat) : (s.setTdc n x).port k = s.port k := rfl
@[simp] theorem State.setTdc_tev (n : Nat) (x : TdcSt) (k : Nat) : (s.setTdc n x).tev k = s.tev k := rfl
@[simp] theorem State.setTdc_ring (n : Nat) (x : TdcSt) (k : Nat) : (s.setTdc n x).ring k = s.ring k := rfl
@[simp] theorem State.setTdc_ctx (n : Nat) (x : TdcSt) (k : Nat) : (s.setTdc n x).ctx k = s.ctx k := rfl

@[simp] theorem State.setAcq_pending (n : Nat) (x : AcqSt) : (s.setAcq n x).pending = s.pending := rfl
@[simp] theorem State.setAcq_clock (n : Nat) (x : AcqSt) : (s.setAcq n x).clock = s.clock := rfl
@[simp] theorem State.setAcq_fuses (n : Nat) (x : AcqSt) : (s.setAcq n x).fuses = s.fuses := rfl
@[simp] theorem State.setAcq_regs (n : Nat) (x : AcqSt) : (s.setAcq n x).regs = s.regs := rfl
@[simp] theorem State.setAcq_m (n : Nat) (x : AcqSt) : (s.setAcq n x).m = s.m := rfl
@[simp] theorem State.setAcq_image (n : Nat) (x : AcqSt) : (s.setAcq n x).image = s.image := rfl
@[simp] theorem State.setAcq_hub (n : Nat) (x : AcqSt) : (s.setAcq n x).hub = s.hub := rfl
@[simp] theorem State.setAcq_time (n : Nat) (x : AcqSt) : (s.setAcq n x).time = s.time := rfl
@[simp] theorem State.setAcq_log (n : Nat) (x : AcqSt) : (s.setAcq n x).log = s.log := rfl
@[simp] theorem State.setAcq_nvm (n : Nat) (x : AcqSt) : (s.setAcq n x).nvm = s.nvm := rfl
@[simp] theorem State.setAcq_spare (n : Nat) (x : AcqSt) : (s.setAcq n x).spare = s.spare := rfl
@[simp] theorem State.setAcq_host (n : Nat) (x : AcqSt) : (s.setAcq n x).host = s.host := rfl
@[simp] theorem State.setAcq_lanes (n : Nat) (x : AcqSt) : (s.setAcq n x).lanes = s.lanes := rfl
@[simp] theorem State.setAcq_dacs (n : Nat) (x : AcqSt) : (s.setAcq n x).dacs = s.dacs := rfl
@[simp] theorem State.setAcq_adcs (n : Nat) (x : AcqSt) : (s.setAcq n x).adcs = s.adcs := rfl
@[simp] theorem State.setAcq_smus (n : Nat) (x : AcqSt) : (s.setAcq n x).smus = s.smus := rfl
@[simp] theorem State.setAcq_dpss (n : Nat) (x : AcqSt) : (s.setAcq n x).dpss = s.dpss := rfl
@[simp] theorem State.setAcq_cals (n : Nat) (x : AcqSt) : (s.setAcq n x).cals = s.cals := rfl
@[simp] theorem State.setAcq_trims (n : Nat) (x : AcqSt) : (s.setAcq n x).trims = s.trims := rfl
@[simp] theorem State.setAcq_targets (n : Nat) (x : AcqSt) : (s.setAcq n x).targets = s.targets := rfl
@[simp] theorem State.setAcq_results (n : Nat) (x : AcqSt) : (s.setAcq n x).results = s.results := rfl
@[simp] theorem State.setAcq_plays (n : Nat) (x : AcqSt) : (s.setAcq n x).plays = s.plays := rfl
@[simp] theorem State.setAcq_stores (n : Nat) (x : AcqSt) : (s.setAcq n x).stores = s.stores := rfl
@[simp] theorem State.setAcq_seqs (n : Nat) (x : AcqSt) : (s.setAcq n x).seqs = s.seqs := rfl
@[simp] theorem State.setAcq_tdcs (n : Nat) (x : AcqSt) : (s.setAcq n x).tdcs = s.tdcs := rfl
@[simp] theorem State.setAcq_red (n : Nat) (x : AcqSt) : (s.setAcq n x).red = s.red := rfl
@[simp] theorem State.setAcq_cap (n : Nat) (x : AcqSt) : (s.setAcq n x).cap = s.cap := rfl
@[simp] theorem State.setAcq_capEcc (n : Nat) (x : AcqSt) : (s.setAcq n x).capEcc = s.capEcc := rfl
@[simp] theorem State.setAcq_flash (n : Nat) (x : AcqSt) : (s.setAcq n x).flash = s.flash := rfl
@[simp] theorem State.setAcq_spi (n : Nat) (x : AcqSt) : (s.setAcq n x).spi = s.spi := rfl
@[simp] theorem State.setAcq_hk (n : Nat) (x : AcqSt) : (s.setAcq n x).hk = s.hk := rfl
@[simp] theorem State.setAcq_legacy (n : Nat) (x : AcqSt) : (s.setAcq n x).legacy = s.legacy := rfl
@[simp] theorem State.setAcq_out (n : Nat) (x : AcqSt) : (s.setAcq n x).out = s.out := rfl
@[simp] theorem State.setAcq_free (n : Nat) (x : AcqSt) : (s.setAcq n x).free = s.free := rfl
@[simp] theorem State.setAcq_rd (n : Nat) (x : AcqSt) (g : Fld) (j : Nat) : (s.setAcq n x).rd g j = s.rd g j := rfl
@[simp] theorem State.setAcq_fl (n : Nat) (x : AcqSt) (g : Fld) (j : Nat) : (s.setAcq n x).fl g j = s.fl g j := rfl
@[simp] theorem State.setAcq_src (n : Nat) (x : AcqSt) (k : Nat) : (s.setAcq n x).src k = s.src k := rfl
@[simp] theorem State.setAcq_queue (n : Nat) (x : AcqSt) (k : Nat) : (s.setAcq n x).queue k = s.queue k := rfl
@[simp] theorem State.setAcq_lane (n : Nat) (x : AcqSt) (k : Nat) : (s.setAcq n x).lane k = s.lane k := rfl
@[simp] theorem State.setAcq_dac (n : Nat) (x : AcqSt) (k : Nat) : (s.setAcq n x).dac k = s.dac k := rfl
@[simp] theorem State.setAcq_adc (n : Nat) (x : AcqSt) (k : Nat) : (s.setAcq n x).adc k = s.adc k := rfl
@[simp] theorem State.setAcq_smu (n : Nat) (x : AcqSt) (k : Nat) : (s.setAcq n x).smu k = s.smu k := rfl
@[simp] theorem State.setAcq_dps (n : Nat) (x : AcqSt) (k : Nat) : (s.setAcq n x).dps k = s.dps k := rfl
@[simp] theorem State.setAcq_play (n : Nat) (x : AcqSt) (k : Nat) : (s.setAcq n x).play k = s.play k := rfl
@[simp] theorem State.setAcq_store (n : Nat) (x : AcqSt) (k : Nat) : (s.setAcq n x).store k = s.store k := rfl
@[simp] theorem State.setAcq_seq (n : Nat) (x : AcqSt) (k : Nat) : (s.setAcq n x).seq k = s.seq k := rfl
@[simp] theorem State.setAcq_tdc (n : Nat) (x : AcqSt) (k : Nat) : (s.setAcq n x).tdc k = s.tdc k := rfl
@[simp] theorem State.setAcq_cal (n : Nat) (x : AcqSt) (k : Nat) : (s.setAcq n x).cal k = s.cal k := rfl
@[simp] theorem State.setAcq_port (n : Nat) (x : AcqSt) (k : Nat) : (s.setAcq n x).port k = s.port k := rfl
@[simp] theorem State.setAcq_tev (n : Nat) (x : AcqSt) (k : Nat) : (s.setAcq n x).tev k = s.tev k := rfl
@[simp] theorem State.setAcq_ring (n : Nat) (x : AcqSt) (k : Nat) : (s.setAcq n x).ring k = s.ring k := rfl
@[simp] theorem State.setAcq_ctx (n : Nat) (x : AcqSt) (k : Nat) : (s.setAcq n x).ctx k = s.ctx k := rfl

@[simp] theorem State.setCal_pending (n : Nat) (x : CalSt) : (s.setCal n x).pending = s.pending := rfl
@[simp] theorem State.setCal_clock (n : Nat) (x : CalSt) : (s.setCal n x).clock = s.clock := rfl
@[simp] theorem State.setCal_fuses (n : Nat) (x : CalSt) : (s.setCal n x).fuses = s.fuses := rfl
@[simp] theorem State.setCal_regs (n : Nat) (x : CalSt) : (s.setCal n x).regs = s.regs := rfl
@[simp] theorem State.setCal_m (n : Nat) (x : CalSt) : (s.setCal n x).m = s.m := rfl
@[simp] theorem State.setCal_image (n : Nat) (x : CalSt) : (s.setCal n x).image = s.image := rfl
@[simp] theorem State.setCal_hub (n : Nat) (x : CalSt) : (s.setCal n x).hub = s.hub := rfl
@[simp] theorem State.setCal_time (n : Nat) (x : CalSt) : (s.setCal n x).time = s.time := rfl
@[simp] theorem State.setCal_log (n : Nat) (x : CalSt) : (s.setCal n x).log = s.log := rfl
@[simp] theorem State.setCal_nvm (n : Nat) (x : CalSt) : (s.setCal n x).nvm = s.nvm := rfl
@[simp] theorem State.setCal_spare (n : Nat) (x : CalSt) : (s.setCal n x).spare = s.spare := rfl
@[simp] theorem State.setCal_host (n : Nat) (x : CalSt) : (s.setCal n x).host = s.host := rfl
@[simp] theorem State.setCal_lanes (n : Nat) (x : CalSt) : (s.setCal n x).lanes = s.lanes := rfl
@[simp] theorem State.setCal_dacs (n : Nat) (x : CalSt) : (s.setCal n x).dacs = s.dacs := rfl
@[simp] theorem State.setCal_adcs (n : Nat) (x : CalSt) : (s.setCal n x).adcs = s.adcs := rfl
@[simp] theorem State.setCal_smus (n : Nat) (x : CalSt) : (s.setCal n x).smus = s.smus := rfl
@[simp] theorem State.setCal_dpss (n : Nat) (x : CalSt) : (s.setCal n x).dpss = s.dpss := rfl
@[simp] theorem State.setCal_trims (n : Nat) (x : CalSt) : (s.setCal n x).trims = s.trims := rfl
@[simp] theorem State.setCal_targets (n : Nat) (x : CalSt) : (s.setCal n x).targets = s.targets := rfl
@[simp] theorem State.setCal_results (n : Nat) (x : CalSt) : (s.setCal n x).results = s.results := rfl
@[simp] theorem State.setCal_plays (n : Nat) (x : CalSt) : (s.setCal n x).plays = s.plays := rfl
@[simp] theorem State.setCal_stores (n : Nat) (x : CalSt) : (s.setCal n x).stores = s.stores := rfl
@[simp] theorem State.setCal_seqs (n : Nat) (x : CalSt) : (s.setCal n x).seqs = s.seqs := rfl
@[simp] theorem State.setCal_tdcs (n : Nat) (x : CalSt) : (s.setCal n x).tdcs = s.tdcs := rfl
@[simp] theorem State.setCal_red (n : Nat) (x : CalSt) : (s.setCal n x).red = s.red := rfl
@[simp] theorem State.setCal_acqs (n : Nat) (x : CalSt) : (s.setCal n x).acqs = s.acqs := rfl
@[simp] theorem State.setCal_cap (n : Nat) (x : CalSt) : (s.setCal n x).cap = s.cap := rfl
@[simp] theorem State.setCal_capEcc (n : Nat) (x : CalSt) : (s.setCal n x).capEcc = s.capEcc := rfl
@[simp] theorem State.setCal_flash (n : Nat) (x : CalSt) : (s.setCal n x).flash = s.flash := rfl
@[simp] theorem State.setCal_spi (n : Nat) (x : CalSt) : (s.setCal n x).spi = s.spi := rfl
@[simp] theorem State.setCal_hk (n : Nat) (x : CalSt) : (s.setCal n x).hk = s.hk := rfl
@[simp] theorem State.setCal_legacy (n : Nat) (x : CalSt) : (s.setCal n x).legacy = s.legacy := rfl
@[simp] theorem State.setCal_out (n : Nat) (x : CalSt) : (s.setCal n x).out = s.out := rfl
@[simp] theorem State.setCal_free (n : Nat) (x : CalSt) : (s.setCal n x).free = s.free := rfl
@[simp] theorem State.setCal_rd (n : Nat) (x : CalSt) (g : Fld) (j : Nat) : (s.setCal n x).rd g j = s.rd g j := rfl
@[simp] theorem State.setCal_fl (n : Nat) (x : CalSt) (g : Fld) (j : Nat) : (s.setCal n x).fl g j = s.fl g j := rfl
@[simp] theorem State.setCal_src (n : Nat) (x : CalSt) (k : Nat) : (s.setCal n x).src k = s.src k := rfl
@[simp] theorem State.setCal_queue (n : Nat) (x : CalSt) (k : Nat) : (s.setCal n x).queue k = s.queue k := rfl
@[simp] theorem State.setCal_lane (n : Nat) (x : CalSt) (k : Nat) : (s.setCal n x).lane k = s.lane k := rfl
@[simp] theorem State.setCal_dac (n : Nat) (x : CalSt) (k : Nat) : (s.setCal n x).dac k = s.dac k := rfl
@[simp] theorem State.setCal_adc (n : Nat) (x : CalSt) (k : Nat) : (s.setCal n x).adc k = s.adc k := rfl
@[simp] theorem State.setCal_smu (n : Nat) (x : CalSt) (k : Nat) : (s.setCal n x).smu k = s.smu k := rfl
@[simp] theorem State.setCal_dps (n : Nat) (x : CalSt) (k : Nat) : (s.setCal n x).dps k = s.dps k := rfl
@[simp] theorem State.setCal_play (n : Nat) (x : CalSt) (k : Nat) : (s.setCal n x).play k = s.play k := rfl
@[simp] theorem State.setCal_store (n : Nat) (x : CalSt) (k : Nat) : (s.setCal n x).store k = s.store k := rfl
@[simp] theorem State.setCal_seq (n : Nat) (x : CalSt) (k : Nat) : (s.setCal n x).seq k = s.seq k := rfl
@[simp] theorem State.setCal_tdc (n : Nat) (x : CalSt) (k : Nat) : (s.setCal n x).tdc k = s.tdc k := rfl
@[simp] theorem State.setCal_acq (n : Nat) (x : CalSt) (k : Nat) : (s.setCal n x).acq k = s.acq k := rfl
@[simp] theorem State.setCal_port (n : Nat) (x : CalSt) (k : Nat) : (s.setCal n x).port k = s.port k := rfl
@[simp] theorem State.setCal_tev (n : Nat) (x : CalSt) (k : Nat) : (s.setCal n x).tev k = s.tev k := rfl
@[simp] theorem State.setCal_ring (n : Nat) (x : CalSt) (k : Nat) : (s.setCal n x).ring k = s.ring k := rfl
@[simp] theorem State.setCal_ctx (n : Nat) (x : CalSt) (k : Nat) : (s.setCal n x).ctx k = s.ctx k := rfl

@[simp] theorem State.setPort_pending (n : Nat) (x : PortSt) : (s.setPort n x).pending = s.pending := rfl
@[simp] theorem State.setPort_clock (n : Nat) (x : PortSt) : (s.setPort n x).clock = s.clock := rfl
@[simp] theorem State.setPort_fuses (n : Nat) (x : PortSt) : (s.setPort n x).fuses = s.fuses := rfl
@[simp] theorem State.setPort_regs (n : Nat) (x : PortSt) : (s.setPort n x).regs = s.regs := rfl
@[simp] theorem State.setPort_m (n : Nat) (x : PortSt) : (s.setPort n x).m = s.m := rfl
@[simp] theorem State.setPort_image (n : Nat) (x : PortSt) : (s.setPort n x).image = s.image := rfl
@[simp] theorem State.setPort_hub (n : Nat) (x : PortSt) : (s.setPort n x).hub = s.hub := rfl
@[simp] theorem State.setPort_log (n : Nat) (x : PortSt) : (s.setPort n x).log = s.log := rfl
@[simp] theorem State.setPort_nvm (n : Nat) (x : PortSt) : (s.setPort n x).nvm = s.nvm := rfl
@[simp] theorem State.setPort_spare (n : Nat) (x : PortSt) : (s.setPort n x).spare = s.spare := rfl
@[simp] theorem State.setPort_host (n : Nat) (x : PortSt) : (s.setPort n x).host = s.host := rfl
@[simp] theorem State.setPort_lanes (n : Nat) (x : PortSt) : (s.setPort n x).lanes = s.lanes := rfl
@[simp] theorem State.setPort_dacs (n : Nat) (x : PortSt) : (s.setPort n x).dacs = s.dacs := rfl
@[simp] theorem State.setPort_adcs (n : Nat) (x : PortSt) : (s.setPort n x).adcs = s.adcs := rfl
@[simp] theorem State.setPort_smus (n : Nat) (x : PortSt) : (s.setPort n x).smus = s.smus := rfl
@[simp] theorem State.setPort_dpss (n : Nat) (x : PortSt) : (s.setPort n x).dpss = s.dpss := rfl
@[simp] theorem State.setPort_cals (n : Nat) (x : PortSt) : (s.setPort n x).cals = s.cals := rfl
@[simp] theorem State.setPort_trims (n : Nat) (x : PortSt) : (s.setPort n x).trims = s.trims := rfl
@[simp] theorem State.setPort_targets (n : Nat) (x : PortSt) : (s.setPort n x).targets = s.targets := rfl
@[simp] theorem State.setPort_results (n : Nat) (x : PortSt) : (s.setPort n x).results = s.results := rfl
@[simp] theorem State.setPort_plays (n : Nat) (x : PortSt) : (s.setPort n x).plays = s.plays := rfl
@[simp] theorem State.setPort_stores (n : Nat) (x : PortSt) : (s.setPort n x).stores = s.stores := rfl
@[simp] theorem State.setPort_seqs (n : Nat) (x : PortSt) : (s.setPort n x).seqs = s.seqs := rfl
@[simp] theorem State.setPort_tdcs (n : Nat) (x : PortSt) : (s.setPort n x).tdcs = s.tdcs := rfl
@[simp] theorem State.setPort_red (n : Nat) (x : PortSt) : (s.setPort n x).red = s.red := rfl
@[simp] theorem State.setPort_acqs (n : Nat) (x : PortSt) : (s.setPort n x).acqs = s.acqs := rfl
@[simp] theorem State.setPort_cap (n : Nat) (x : PortSt) : (s.setPort n x).cap = s.cap := rfl
@[simp] theorem State.setPort_capEcc (n : Nat) (x : PortSt) : (s.setPort n x).capEcc = s.capEcc := rfl
@[simp] theorem State.setPort_flash (n : Nat) (x : PortSt) : (s.setPort n x).flash = s.flash := rfl
@[simp] theorem State.setPort_spi (n : Nat) (x : PortSt) : (s.setPort n x).spi = s.spi := rfl
@[simp] theorem State.setPort_hk (n : Nat) (x : PortSt) : (s.setPort n x).hk = s.hk := rfl
@[simp] theorem State.setPort_legacy (n : Nat) (x : PortSt) : (s.setPort n x).legacy = s.legacy := rfl
@[simp] theorem State.setPort_out (n : Nat) (x : PortSt) : (s.setPort n x).out = s.out := rfl
@[simp] theorem State.setPort_free (n : Nat) (x : PortSt) : (s.setPort n x).free = s.free := rfl
@[simp] theorem State.setPort_rd (n : Nat) (x : PortSt) (g : Fld) (j : Nat) : (s.setPort n x).rd g j = s.rd g j := rfl
@[simp] theorem State.setPort_fl (n : Nat) (x : PortSt) (g : Fld) (j : Nat) : (s.setPort n x).fl g j = s.fl g j := rfl
@[simp] theorem State.setPort_src (n : Nat) (x : PortSt) (k : Nat) : (s.setPort n x).src k = s.src k := rfl
@[simp] theorem State.setPort_queue (n : Nat) (x : PortSt) (k : Nat) : (s.setPort n x).queue k = s.queue k := rfl
@[simp] theorem State.setPort_lane (n : Nat) (x : PortSt) (k : Nat) : (s.setPort n x).lane k = s.lane k := rfl
@[simp] theorem State.setPort_dac (n : Nat) (x : PortSt) (k : Nat) : (s.setPort n x).dac k = s.dac k := rfl
@[simp] theorem State.setPort_adc (n : Nat) (x : PortSt) (k : Nat) : (s.setPort n x).adc k = s.adc k := rfl
@[simp] theorem State.setPort_smu (n : Nat) (x : PortSt) (k : Nat) : (s.setPort n x).smu k = s.smu k := rfl
@[simp] theorem State.setPort_dps (n : Nat) (x : PortSt) (k : Nat) : (s.setPort n x).dps k = s.dps k := rfl
@[simp] theorem State.setPort_play (n : Nat) (x : PortSt) (k : Nat) : (s.setPort n x).play k = s.play k := rfl
@[simp] theorem State.setPort_store (n : Nat) (x : PortSt) (k : Nat) : (s.setPort n x).store k = s.store k := rfl
@[simp] theorem State.setPort_seq (n : Nat) (x : PortSt) (k : Nat) : (s.setPort n x).seq k = s.seq k := rfl
@[simp] theorem State.setPort_tdc (n : Nat) (x : PortSt) (k : Nat) : (s.setPort n x).tdc k = s.tdc k := rfl
@[simp] theorem State.setPort_acq (n : Nat) (x : PortSt) (k : Nat) : (s.setPort n x).acq k = s.acq k := rfl
@[simp] theorem State.setPort_cal (n : Nat) (x : PortSt) (k : Nat) : (s.setPort n x).cal k = s.cal k := rfl
@[simp] theorem State.setPort_tev (n : Nat) (x : PortSt) (k : Nat) : (s.setPort n x).tev k = s.tev k := rfl
@[simp] theorem State.setPort_ring (n : Nat) (x : PortSt) (k : Nat) : (s.setPort n x).ring k = s.ring k := rfl
@[simp] theorem State.setPort_ctx (n : Nat) (x : PortSt) (k : Nat) : (s.setPort n x).ctx k = s.ctx k := rfl

@[simp] theorem State.setTev_pending (n : Nat) (x : TevSt) : (s.setTev n x).pending = s.pending := rfl
@[simp] theorem State.setTev_clock (n : Nat) (x : TevSt) : (s.setTev n x).clock = s.clock := rfl
@[simp] theorem State.setTev_fuses (n : Nat) (x : TevSt) : (s.setTev n x).fuses = s.fuses := rfl
@[simp] theorem State.setTev_regs (n : Nat) (x : TevSt) : (s.setTev n x).regs = s.regs := rfl
@[simp] theorem State.setTev_m (n : Nat) (x : TevSt) : (s.setTev n x).m = s.m := rfl
@[simp] theorem State.setTev_image (n : Nat) (x : TevSt) : (s.setTev n x).image = s.image := rfl
@[simp] theorem State.setTev_hub (n : Nat) (x : TevSt) : (s.setTev n x).hub = s.hub := rfl
@[simp] theorem State.setTev_log (n : Nat) (x : TevSt) : (s.setTev n x).log = s.log := rfl
@[simp] theorem State.setTev_nvm (n : Nat) (x : TevSt) : (s.setTev n x).nvm = s.nvm := rfl
@[simp] theorem State.setTev_spare (n : Nat) (x : TevSt) : (s.setTev n x).spare = s.spare := rfl
@[simp] theorem State.setTev_host (n : Nat) (x : TevSt) : (s.setTev n x).host = s.host := rfl
@[simp] theorem State.setTev_lanes (n : Nat) (x : TevSt) : (s.setTev n x).lanes = s.lanes := rfl
@[simp] theorem State.setTev_dacs (n : Nat) (x : TevSt) : (s.setTev n x).dacs = s.dacs := rfl
@[simp] theorem State.setTev_adcs (n : Nat) (x : TevSt) : (s.setTev n x).adcs = s.adcs := rfl
@[simp] theorem State.setTev_smus (n : Nat) (x : TevSt) : (s.setTev n x).smus = s.smus := rfl
@[simp] theorem State.setTev_dpss (n : Nat) (x : TevSt) : (s.setTev n x).dpss = s.dpss := rfl
@[simp] theorem State.setTev_cals (n : Nat) (x : TevSt) : (s.setTev n x).cals = s.cals := rfl
@[simp] theorem State.setTev_trims (n : Nat) (x : TevSt) : (s.setTev n x).trims = s.trims := rfl
@[simp] theorem State.setTev_targets (n : Nat) (x : TevSt) : (s.setTev n x).targets = s.targets := rfl
@[simp] theorem State.setTev_results (n : Nat) (x : TevSt) : (s.setTev n x).results = s.results := rfl
@[simp] theorem State.setTev_plays (n : Nat) (x : TevSt) : (s.setTev n x).plays = s.plays := rfl
@[simp] theorem State.setTev_stores (n : Nat) (x : TevSt) : (s.setTev n x).stores = s.stores := rfl
@[simp] theorem State.setTev_seqs (n : Nat) (x : TevSt) : (s.setTev n x).seqs = s.seqs := rfl
@[simp] theorem State.setTev_tdcs (n : Nat) (x : TevSt) : (s.setTev n x).tdcs = s.tdcs := rfl
@[simp] theorem State.setTev_red (n : Nat) (x : TevSt) : (s.setTev n x).red = s.red := rfl
@[simp] theorem State.setTev_acqs (n : Nat) (x : TevSt) : (s.setTev n x).acqs = s.acqs := rfl
@[simp] theorem State.setTev_cap (n : Nat) (x : TevSt) : (s.setTev n x).cap = s.cap := rfl
@[simp] theorem State.setTev_capEcc (n : Nat) (x : TevSt) : (s.setTev n x).capEcc = s.capEcc := rfl
@[simp] theorem State.setTev_flash (n : Nat) (x : TevSt) : (s.setTev n x).flash = s.flash := rfl
@[simp] theorem State.setTev_spi (n : Nat) (x : TevSt) : (s.setTev n x).spi = s.spi := rfl
@[simp] theorem State.setTev_hk (n : Nat) (x : TevSt) : (s.setTev n x).hk = s.hk := rfl
@[simp] theorem State.setTev_legacy (n : Nat) (x : TevSt) : (s.setTev n x).legacy = s.legacy := rfl
@[simp] theorem State.setTev_out (n : Nat) (x : TevSt) : (s.setTev n x).out = s.out := rfl
@[simp] theorem State.setTev_free (n : Nat) (x : TevSt) : (s.setTev n x).free = s.free := rfl
@[simp] theorem State.setTev_rd (n : Nat) (x : TevSt) (g : Fld) (j : Nat) : (s.setTev n x).rd g j = s.rd g j := rfl
@[simp] theorem State.setTev_fl (n : Nat) (x : TevSt) (g : Fld) (j : Nat) : (s.setTev n x).fl g j = s.fl g j := rfl
@[simp] theorem State.setTev_src (n : Nat) (x : TevSt) (k : Nat) : (s.setTev n x).src k = s.src k := rfl
@[simp] theorem State.setTev_queue (n : Nat) (x : TevSt) (k : Nat) : (s.setTev n x).queue k = s.queue k := rfl
@[simp] theorem State.setTev_lane (n : Nat) (x : TevSt) (k : Nat) : (s.setTev n x).lane k = s.lane k := rfl
@[simp] theorem State.setTev_dac (n : Nat) (x : TevSt) (k : Nat) : (s.setTev n x).dac k = s.dac k := rfl
@[simp] theorem State.setTev_adc (n : Nat) (x : TevSt) (k : Nat) : (s.setTev n x).adc k = s.adc k := rfl
@[simp] theorem State.setTev_smu (n : Nat) (x : TevSt) (k : Nat) : (s.setTev n x).smu k = s.smu k := rfl
@[simp] theorem State.setTev_dps (n : Nat) (x : TevSt) (k : Nat) : (s.setTev n x).dps k = s.dps k := rfl
@[simp] theorem State.setTev_play (n : Nat) (x : TevSt) (k : Nat) : (s.setTev n x).play k = s.play k := rfl
@[simp] theorem State.setTev_store (n : Nat) (x : TevSt) (k : Nat) : (s.setTev n x).store k = s.store k := rfl
@[simp] theorem State.setTev_seq (n : Nat) (x : TevSt) (k : Nat) : (s.setTev n x).seq k = s.seq k := rfl
@[simp] theorem State.setTev_tdc (n : Nat) (x : TevSt) (k : Nat) : (s.setTev n x).tdc k = s.tdc k := rfl
@[simp] theorem State.setTev_acq (n : Nat) (x : TevSt) (k : Nat) : (s.setTev n x).acq k = s.acq k := rfl
@[simp] theorem State.setTev_cal (n : Nat) (x : TevSt) (k : Nat) : (s.setTev n x).cal k = s.cal k := rfl
@[simp] theorem State.setTev_port (n : Nat) (x : TevSt) (k : Nat) : (s.setTev n x).port k = s.port k := rfl
@[simp] theorem State.setTev_ring (n : Nat) (x : TevSt) (k : Nat) : (s.setTev n x).ring k = s.ring k := rfl
@[simp] theorem State.setTev_ctx (n : Nat) (x : TevSt) (k : Nat) : (s.setTev n x).ctx k = s.ctx k := rfl

@[simp] theorem State.setRing_pending (n : Nat) (x : RingSt) : (s.setRing n x).pending = s.pending := rfl
@[simp] theorem State.setRing_clock (n : Nat) (x : RingSt) : (s.setRing n x).clock = s.clock := rfl
@[simp] theorem State.setRing_fuses (n : Nat) (x : RingSt) : (s.setRing n x).fuses = s.fuses := rfl
@[simp] theorem State.setRing_regs (n : Nat) (x : RingSt) : (s.setRing n x).regs = s.regs := rfl
@[simp] theorem State.setRing_m (n : Nat) (x : RingSt) : (s.setRing n x).m = s.m := rfl
@[simp] theorem State.setRing_image (n : Nat) (x : RingSt) : (s.setRing n x).image = s.image := rfl
@[simp] theorem State.setRing_hub (n : Nat) (x : RingSt) : (s.setRing n x).hub = s.hub := rfl
@[simp] theorem State.setRing_time (n : Nat) (x : RingSt) : (s.setRing n x).time = s.time := rfl
@[simp] theorem State.setRing_log (n : Nat) (x : RingSt) : (s.setRing n x).log = s.log := rfl
@[simp] theorem State.setRing_nvm (n : Nat) (x : RingSt) : (s.setRing n x).nvm = s.nvm := rfl
@[simp] theorem State.setRing_spare (n : Nat) (x : RingSt) : (s.setRing n x).spare = s.spare := rfl
@[simp] theorem State.setRing_lanes (n : Nat) (x : RingSt) : (s.setRing n x).lanes = s.lanes := rfl
@[simp] theorem State.setRing_dacs (n : Nat) (x : RingSt) : (s.setRing n x).dacs = s.dacs := rfl
@[simp] theorem State.setRing_adcs (n : Nat) (x : RingSt) : (s.setRing n x).adcs = s.adcs := rfl
@[simp] theorem State.setRing_smus (n : Nat) (x : RingSt) : (s.setRing n x).smus = s.smus := rfl
@[simp] theorem State.setRing_dpss (n : Nat) (x : RingSt) : (s.setRing n x).dpss = s.dpss := rfl
@[simp] theorem State.setRing_cals (n : Nat) (x : RingSt) : (s.setRing n x).cals = s.cals := rfl
@[simp] theorem State.setRing_trims (n : Nat) (x : RingSt) : (s.setRing n x).trims = s.trims := rfl
@[simp] theorem State.setRing_targets (n : Nat) (x : RingSt) : (s.setRing n x).targets = s.targets := rfl
@[simp] theorem State.setRing_results (n : Nat) (x : RingSt) : (s.setRing n x).results = s.results := rfl
@[simp] theorem State.setRing_plays (n : Nat) (x : RingSt) : (s.setRing n x).plays = s.plays := rfl
@[simp] theorem State.setRing_stores (n : Nat) (x : RingSt) : (s.setRing n x).stores = s.stores := rfl
@[simp] theorem State.setRing_seqs (n : Nat) (x : RingSt) : (s.setRing n x).seqs = s.seqs := rfl
@[simp] theorem State.setRing_tdcs (n : Nat) (x : RingSt) : (s.setRing n x).tdcs = s.tdcs := rfl
@[simp] theorem State.setRing_red (n : Nat) (x : RingSt) : (s.setRing n x).red = s.red := rfl
@[simp] theorem State.setRing_acqs (n : Nat) (x : RingSt) : (s.setRing n x).acqs = s.acqs := rfl
@[simp] theorem State.setRing_cap (n : Nat) (x : RingSt) : (s.setRing n x).cap = s.cap := rfl
@[simp] theorem State.setRing_capEcc (n : Nat) (x : RingSt) : (s.setRing n x).capEcc = s.capEcc := rfl
@[simp] theorem State.setRing_flash (n : Nat) (x : RingSt) : (s.setRing n x).flash = s.flash := rfl
@[simp] theorem State.setRing_spi (n : Nat) (x : RingSt) : (s.setRing n x).spi = s.spi := rfl
@[simp] theorem State.setRing_hk (n : Nat) (x : RingSt) : (s.setRing n x).hk = s.hk := rfl
@[simp] theorem State.setRing_legacy (n : Nat) (x : RingSt) : (s.setRing n x).legacy = s.legacy := rfl
@[simp] theorem State.setRing_out (n : Nat) (x : RingSt) : (s.setRing n x).out = s.out := rfl
@[simp] theorem State.setRing_free (n : Nat) (x : RingSt) : (s.setRing n x).free = s.free := rfl
@[simp] theorem State.setRing_rd (n : Nat) (x : RingSt) (g : Fld) (j : Nat) : (s.setRing n x).rd g j = s.rd g j := rfl
@[simp] theorem State.setRing_fl (n : Nat) (x : RingSt) (g : Fld) (j : Nat) : (s.setRing n x).fl g j = s.fl g j := rfl
@[simp] theorem State.setRing_src (n : Nat) (x : RingSt) (k : Nat) : (s.setRing n x).src k = s.src k := rfl
@[simp] theorem State.setRing_queue (n : Nat) (x : RingSt) (k : Nat) : (s.setRing n x).queue k = s.queue k := rfl
@[simp] theorem State.setRing_lane (n : Nat) (x : RingSt) (k : Nat) : (s.setRing n x).lane k = s.lane k := rfl
@[simp] theorem State.setRing_dac (n : Nat) (x : RingSt) (k : Nat) : (s.setRing n x).dac k = s.dac k := rfl
@[simp] theorem State.setRing_adc (n : Nat) (x : RingSt) (k : Nat) : (s.setRing n x).adc k = s.adc k := rfl
@[simp] theorem State.setRing_smu (n : Nat) (x : RingSt) (k : Nat) : (s.setRing n x).smu k = s.smu k := rfl
@[simp] theorem State.setRing_dps (n : Nat) (x : RingSt) (k : Nat) : (s.setRing n x).dps k = s.dps k := rfl
@[simp] theorem State.setRing_play (n : Nat) (x : RingSt) (k : Nat) : (s.setRing n x).play k = s.play k := rfl
@[simp] theorem State.setRing_store (n : Nat) (x : RingSt) (k : Nat) : (s.setRing n x).store k = s.store k := rfl
@[simp] theorem State.setRing_seq (n : Nat) (x : RingSt) (k : Nat) : (s.setRing n x).seq k = s.seq k := rfl
@[simp] theorem State.setRing_tdc (n : Nat) (x : RingSt) (k : Nat) : (s.setRing n x).tdc k = s.tdc k := rfl
@[simp] theorem State.setRing_acq (n : Nat) (x : RingSt) (k : Nat) : (s.setRing n x).acq k = s.acq k := rfl
@[simp] theorem State.setRing_cal (n : Nat) (x : RingSt) (k : Nat) : (s.setRing n x).cal k = s.cal k := rfl
@[simp] theorem State.setRing_port (n : Nat) (x : RingSt) (k : Nat) : (s.setRing n x).port k = s.port k := rfl
@[simp] theorem State.setRing_tev (n : Nat) (x : RingSt) (k : Nat) : (s.setRing n x).tev k = s.tev k := rfl
@[simp] theorem State.setRing_ctx (n : Nat) (x : RingSt) (k : Nat) : (s.setRing n x).ctx k = s.ctx k := rfl

@[simp] theorem State.setCtx_pending (n : Nat) (x : CtxSt) : (s.setCtx n x).pending = s.pending := rfl
@[simp] theorem State.setCtx_clock (n : Nat) (x : CtxSt) : (s.setCtx n x).clock = s.clock := rfl
@[simp] theorem State.setCtx_fuses (n : Nat) (x : CtxSt) : (s.setCtx n x).fuses = s.fuses := rfl
@[simp] theorem State.setCtx_regs (n : Nat) (x : CtxSt) : (s.setCtx n x).regs = s.regs := rfl
@[simp] theorem State.setCtx_m (n : Nat) (x : CtxSt) : (s.setCtx n x).m = s.m := rfl
@[simp] theorem State.setCtx_image (n : Nat) (x : CtxSt) : (s.setCtx n x).image = s.image := rfl
@[simp] theorem State.setCtx_hub (n : Nat) (x : CtxSt) : (s.setCtx n x).hub = s.hub := rfl
@[simp] theorem State.setCtx_time (n : Nat) (x : CtxSt) : (s.setCtx n x).time = s.time := rfl
@[simp] theorem State.setCtx_log (n : Nat) (x : CtxSt) : (s.setCtx n x).log = s.log := rfl
@[simp] theorem State.setCtx_nvm (n : Nat) (x : CtxSt) : (s.setCtx n x).nvm = s.nvm := rfl
@[simp] theorem State.setCtx_spare (n : Nat) (x : CtxSt) : (s.setCtx n x).spare = s.spare := rfl
@[simp] theorem State.setCtx_host (n : Nat) (x : CtxSt) : (s.setCtx n x).host = s.host := rfl
@[simp] theorem State.setCtx_lanes (n : Nat) (x : CtxSt) : (s.setCtx n x).lanes = s.lanes := rfl
@[simp] theorem State.setCtx_dacs (n : Nat) (x : CtxSt) : (s.setCtx n x).dacs = s.dacs := rfl
@[simp] theorem State.setCtx_adcs (n : Nat) (x : CtxSt) : (s.setCtx n x).adcs = s.adcs := rfl
@[simp] theorem State.setCtx_smus (n : Nat) (x : CtxSt) : (s.setCtx n x).smus = s.smus := rfl
@[simp] theorem State.setCtx_dpss (n : Nat) (x : CtxSt) : (s.setCtx n x).dpss = s.dpss := rfl
@[simp] theorem State.setCtx_cals (n : Nat) (x : CtxSt) : (s.setCtx n x).cals = s.cals := rfl
@[simp] theorem State.setCtx_trims (n : Nat) (x : CtxSt) : (s.setCtx n x).trims = s.trims := rfl
@[simp] theorem State.setCtx_targets (n : Nat) (x : CtxSt) : (s.setCtx n x).targets = s.targets := rfl
@[simp] theorem State.setCtx_results (n : Nat) (x : CtxSt) : (s.setCtx n x).results = s.results := rfl
@[simp] theorem State.setCtx_plays (n : Nat) (x : CtxSt) : (s.setCtx n x).plays = s.plays := rfl
@[simp] theorem State.setCtx_stores (n : Nat) (x : CtxSt) : (s.setCtx n x).stores = s.stores := rfl
@[simp] theorem State.setCtx_seqs (n : Nat) (x : CtxSt) : (s.setCtx n x).seqs = s.seqs := rfl
@[simp] theorem State.setCtx_tdcs (n : Nat) (x : CtxSt) : (s.setCtx n x).tdcs = s.tdcs := rfl
@[simp] theorem State.setCtx_acqs (n : Nat) (x : CtxSt) : (s.setCtx n x).acqs = s.acqs := rfl
@[simp] theorem State.setCtx_cap (n : Nat) (x : CtxSt) : (s.setCtx n x).cap = s.cap := rfl
@[simp] theorem State.setCtx_capEcc (n : Nat) (x : CtxSt) : (s.setCtx n x).capEcc = s.capEcc := rfl
@[simp] theorem State.setCtx_flash (n : Nat) (x : CtxSt) : (s.setCtx n x).flash = s.flash := rfl
@[simp] theorem State.setCtx_spi (n : Nat) (x : CtxSt) : (s.setCtx n x).spi = s.spi := rfl
@[simp] theorem State.setCtx_hk (n : Nat) (x : CtxSt) : (s.setCtx n x).hk = s.hk := rfl
@[simp] theorem State.setCtx_legacy (n : Nat) (x : CtxSt) : (s.setCtx n x).legacy = s.legacy := rfl
@[simp] theorem State.setCtx_out (n : Nat) (x : CtxSt) : (s.setCtx n x).out = s.out := rfl
@[simp] theorem State.setCtx_free (n : Nat) (x : CtxSt) : (s.setCtx n x).free = s.free := rfl
@[simp] theorem State.setCtx_rd (n : Nat) (x : CtxSt) (g : Fld) (j : Nat) : (s.setCtx n x).rd g j = s.rd g j := rfl
@[simp] theorem State.setCtx_fl (n : Nat) (x : CtxSt) (g : Fld) (j : Nat) : (s.setCtx n x).fl g j = s.fl g j := rfl
@[simp] theorem State.setCtx_src (n : Nat) (x : CtxSt) (k : Nat) : (s.setCtx n x).src k = s.src k := rfl
@[simp] theorem State.setCtx_queue (n : Nat) (x : CtxSt) (k : Nat) : (s.setCtx n x).queue k = s.queue k := rfl
@[simp] theorem State.setCtx_lane (n : Nat) (x : CtxSt) (k : Nat) : (s.setCtx n x).lane k = s.lane k := rfl
@[simp] theorem State.setCtx_dac (n : Nat) (x : CtxSt) (k : Nat) : (s.setCtx n x).dac k = s.dac k := rfl
@[simp] theorem State.setCtx_adc (n : Nat) (x : CtxSt) (k : Nat) : (s.setCtx n x).adc k = s.adc k := rfl
@[simp] theorem State.setCtx_smu (n : Nat) (x : CtxSt) (k : Nat) : (s.setCtx n x).smu k = s.smu k := rfl
@[simp] theorem State.setCtx_dps (n : Nat) (x : CtxSt) (k : Nat) : (s.setCtx n x).dps k = s.dps k := rfl
@[simp] theorem State.setCtx_play (n : Nat) (x : CtxSt) (k : Nat) : (s.setCtx n x).play k = s.play k := rfl
@[simp] theorem State.setCtx_store (n : Nat) (x : CtxSt) (k : Nat) : (s.setCtx n x).store k = s.store k := rfl
@[simp] theorem State.setCtx_seq (n : Nat) (x : CtxSt) (k : Nat) : (s.setCtx n x).seq k = s.seq k := rfl
@[simp] theorem State.setCtx_tdc (n : Nat) (x : CtxSt) (k : Nat) : (s.setCtx n x).tdc k = s.tdc k := rfl
@[simp] theorem State.setCtx_acq (n : Nat) (x : CtxSt) (k : Nat) : (s.setCtx n x).acq k = s.acq k := rfl
@[simp] theorem State.setCtx_cal (n : Nat) (x : CtxSt) (k : Nat) : (s.setCtx n x).cal k = s.cal k := rfl
@[simp] theorem State.setCtx_port (n : Nat) (x : CtxSt) (k : Nat) : (s.setCtx n x).port k = s.port k := rfl
@[simp] theorem State.setCtx_tev (n : Nat) (x : CtxSt) (k : Nat) : (s.setCtx n x).tev k = s.tev k := rfl
@[simp] theorem State.setCtx_ring (n : Nat) (x : CtxSt) (k : Nat) : (s.setCtx n x).ring k = s.ring k := rfl

@[simp] theorem State.setSrc_src_same (k : Nat) (x : SrcSt) : (s.setSrc k x).src k = x := smGet_smSet_same _ _ _ _
@[simp] theorem State.setSrc_src_ne {k j : Nat} (x : SrcSt) (h : j ≠ k) : (s.setSrc k x).src j = s.src j := smGet_smSet_ne _ _ _ _ h
@[simp] theorem State.setQueue_queue_same (k : Nat) (x : QueueSt) : (s.setQueue k x).queue k = x := smGet_smSet_same _ _ _ _
@[simp] theorem State.setQueue_queue_ne {k j : Nat} (x : QueueSt) (h : j ≠ k) : (s.setQueue k x).queue j = s.queue j := smGet_smSet_ne _ _ _ _ h
@[simp] theorem State.setLane_lane_same (k : Nat) (x : LaneSt) : (s.setLane k x).lane k = x := smGet_smSet_same _ _ _ _
@[simp] theorem State.setLane_lane_ne {k j : Nat} (x : LaneSt) (h : j ≠ k) : (s.setLane k x).lane j = s.lane j := smGet_smSet_ne _ _ _ _ h
@[simp] theorem State.setDac_dac_same (k : Nat) (x : DacSt) : (s.setDac k x).dac k = x := smGet_smSet_same _ _ _ _
@[simp] theorem State.setDac_dac_ne {k j : Nat} (x : DacSt) (h : j ≠ k) : (s.setDac k x).dac j = s.dac j := smGet_smSet_ne _ _ _ _ h
@[simp] theorem State.setAdc_adc_same (k : Nat) (x : AdcSt) : (s.setAdc k x).adc k = x := smGet_smSet_same _ _ _ _
@[simp] theorem State.setAdc_adc_ne {k j : Nat} (x : AdcSt) (h : j ≠ k) : (s.setAdc k x).adc j = s.adc j := smGet_smSet_ne _ _ _ _ h
@[simp] theorem State.setSmu_smu_same (k : Nat) (x : SmuSt) : (s.setSmu k x).smu k = x := smGet_smSet_same _ _ _ _
@[simp] theorem State.setSmu_smu_ne {k j : Nat} (x : SmuSt) (h : j ≠ k) : (s.setSmu k x).smu j = s.smu j := smGet_smSet_ne _ _ _ _ h
@[simp] theorem State.setDps_dps_same (k : Nat) (x : DpsSt) : (s.setDps k x).dps k = x := smGet_smSet_same _ _ _ _
@[simp] theorem State.setDps_dps_ne {k j : Nat} (x : DpsSt) (h : j ≠ k) : (s.setDps k x).dps j = s.dps j := smGet_smSet_ne _ _ _ _ h
@[simp] theorem State.setPlay_play_same (k : Nat) (x : PlaySt) : (s.setPlay k x).play k = x := smGet_smSet_same _ _ _ _
@[simp] theorem State.setPlay_play_ne {k j : Nat} (x : PlaySt) (h : j ≠ k) : (s.setPlay k x).play j = s.play j := smGet_smSet_ne _ _ _ _ h
@[simp] theorem State.setStore_store_same (k : Nat) (x : StoreSt) : (s.setStore k x).store k = x := smGet_smSet_same _ _ _ _
@[simp] theorem State.setStore_store_ne {k j : Nat} (x : StoreSt) (h : j ≠ k) : (s.setStore k x).store j = s.store j := smGet_smSet_ne _ _ _ _ h
@[simp] theorem State.setSeq_seq_same (k : Nat) (x : SeqSt) : (s.setSeq k x).seq k = x := smGet_smSet_same _ _ _ _
@[simp] theorem State.setSeq_seq_ne {k j : Nat} (x : SeqSt) (h : j ≠ k) : (s.setSeq k x).seq j = s.seq j := smGet_smSet_ne _ _ _ _ h
@[simp] theorem State.setTdc_tdc_same (k : Nat) (x : TdcSt) : (s.setTdc k x).tdc k = x := smGet_smSet_same _ _ _ _
@[simp] theorem State.setTdc_tdc_ne {k j : Nat} (x : TdcSt) (h : j ≠ k) : (s.setTdc k x).tdc j = s.tdc j := smGet_smSet_ne _ _ _ _ h
@[simp] theorem State.setAcq_acq_same (k : Nat) (x : AcqSt) : (s.setAcq k x).acq k = x := smGet_smSet_same _ _ _ _
@[simp] theorem State.setAcq_acq_ne {k j : Nat} (x : AcqSt) (h : j ≠ k) : (s.setAcq k x).acq j = s.acq j := smGet_smSet_ne _ _ _ _ h
@[simp] theorem State.setCal_cal_same (k : Nat) (x : CalSt) : (s.setCal k x).cal k = x := smGet_smSet_same _ _ _ _
@[simp] theorem State.setCal_cal_ne {k j : Nat} (x : CalSt) (h : j ≠ k) : (s.setCal k x).cal j = s.cal j := smGet_smSet_ne _ _ _ _ h
@[simp] theorem State.setPort_port_same (k : Nat) (x : PortSt) : (s.setPort k x).port k = x := smGet_smSet_same _ _ _ _
@[simp] theorem State.setPort_port_ne {k j : Nat} (x : PortSt) (h : j ≠ k) : (s.setPort k x).port j = s.port j := smGet_smSet_ne _ _ _ _ h
@[simp] theorem State.setTev_tev_same (k : Nat) (x : TevSt) : (s.setTev k x).tev k = x := smGet_smSet_same _ _ _ _
@[simp] theorem State.setTev_tev_ne {k j : Nat} (x : TevSt) (h : j ≠ k) : (s.setTev k x).tev j = s.tev j := smGet_smSet_ne _ _ _ _ h
@[simp] theorem State.setRing_ring_same (k : Nat) (x : RingSt) : (s.setRing k x).ring k = x := smGet_smSet_same _ _ _ _
@[simp] theorem State.setRing_ring_ne {k j : Nat} (x : RingSt) (h : j ≠ k) : (s.setRing k x).ring j = s.ring j := smGet_smSet_ne _ _ _ _ h
@[simp] theorem State.setCtx_ctx_same (k : Nat) (x : CtxSt) : (s.setCtx k x).ctx k = x := smGet_smSet_same _ _ _ _
@[simp] theorem State.setCtx_ctx_ne {k j : Nat} (x : CtxSt) (h : j ≠ k) : (s.setCtx k x).ctx j = s.ctx j := smGet_smSet_ne _ _ _ _ h

end Sys2Proof.Machine
end

