-- ==== Sys2Proof/Laws/Ops.lean ====
section
/-! SUPPORT. The laws of the shared operations: register fields, the outcome of a command, assertions, shards, and the host's register writes and reads. -/

namespace Sys2Proof.Machine

variable (s : State)

/-! Register fields -/

/-- A field reads what was written, cut to its width. -/
@[simp] theorem State.wr_rd_same (f : Fld) (i v : Nat) : (s.wr f i v).rd f i = v % 2 ^ f.width := smGet_smSet_same _ _ _ _

/-- A write leaves every field in another slot alone. -/
theorem State.wr_rd_slot {f g : Fld} {i j : Nat} (v : Nat) (h : g.slot j ≠ f.slot i) : (s.wr f i v).rd g j = s.rd g j :=
  smGet_smSet_ne _ _ _ _ h

/-- A write leaves every other field alone. -/
@[simp] theorem State.wr_rd_key {f g : Fld} {i j : Nat} (v : Nat) (h : g.key % 1024 ≠ f.key % 1024) : (s.wr f i v).rd g j = s.rd g j :=
  s.wr_rd_slot v (by simp only [Fld.slot]; omega)

/-- A write leaves every other instance of the field alone. -/
@[simp] theorem State.wr_rd_inst {f : Fld} {i j : Nat} (v : Nat) (h : j ≠ i) : (s.wr f i v).rd f j = s.rd f j :=
  s.wr_rd_slot v (by simp only [Fld.slot]; omega)

@[simp] theorem State.wr_fl_key {f g : Fld} {i j : Nat} (v : Nat) (h : g.key % 1024 ≠ f.key % 1024) : (s.wr f i v).fl g j = s.fl g j := by
  simp only [State.fl, s.wr_rd_key v h]

@[simp] theorem State.wr_fl_inst {f : Fld} {i j : Nat} (v : Nat) (h : j ≠ i) : (s.wr f i v).fl f j = s.fl f j := by
  simp only [State.fl, s.wr_rd_inst v h]

theorem State.fl_eq (f : Fld) (i : Nat) : s.fl f i = (s.rd f i != 0) := rfl

@[simp] theorem State.wb_rd_key {f g : Fld} {i j : Nat} (b : Bool) (h : g.key % 1024 ≠ f.key % 1024) : (s.wb f i b).rd g j = s.rd g j :=
  s.wr_rd_key _ h

@[simp] theorem State.wb_rd_inst {f : Fld} {i j : Nat} (b : Bool) (h : j ≠ i) : (s.wb f i b).rd f j = s.rd f j := s.wr_rd_inst _ h

@[simp] theorem State.wb_fl_same {f : Fld} (i : Nat) (b : Bool) (h : 0 < f.width) : (s.wb f i b).fl f i = b := by
  have h1 : 1 < 2 ^ f.width := Nat.one_lt_two_pow (by omega)
  cases b
  · simp [State.fl, State.wb, b2n]
  · simp [State.fl, State.wb, b2n, Nat.mod_eq_of_lt h1]

/-- A counter goes up and stays at its greatest value. -/
@[simp] theorem State.bump_rd_same (f : Fld) (i n : Nat) : (s.bump f i n).rd f i = min (s.rd f i + n) (2 ^ f.width - 1) := by
  have : 0 < 2 ^ f.width := Nat.two_pow_pos _
  rw [State.bump, State.wr_rd_same, Nat.mod_eq_of_lt (by omega)]

@[simp] theorem State.bump_rd_key {f g : Fld} {i j : Nat} (n : Nat) (h : g.key % 1024 ≠ f.key % 1024) : (s.bump f i n).rd g j = s.rd g j :=
  s.wr_rd_key _ h

@[simp] theorem State.bump_rd_inst {f : Fld} {i j : Nat} (n : Nat) (h : j ≠ i) : (s.bump f i n).rd f j = s.rd f j := s.wr_rd_inst _ h

@[simp] theorem State.with_out_rd (o : List Out) (f : Fld) (i : Nat) : ({ s with out := o } : State).rd f i = s.rd f i := rfl
@[simp] theorem State.with_out_fl (o : List Out) (f : Fld) (i : Nat) : ({ s with out := o } : State).fl f i = s.fl f i := rfl

@[simp] theorem State.when_true (f : State → State) : s.when true f = f s := rfl
@[simp] theorem State.when_false (f : State → State) : s.when false f = s := rfl

/-- What holds of the state and of the changed state holds of a conditional change. -/
theorem State.when_induction {P : State → Prop} (c : Bool) (f : State → State) (h0 : P s) (h1 : P (f s)) : P (s.when c f) := by
  cases c
  · exact h0
  · exact h1

/-- What every operation of a repetition keeps, the repetition keeps. -/
theorem State.each_induction {P : State → Prop} (l : List Nat) (f : State → Nat → State) (h0 : P s) (h1 : ∀ s n, P s → P (f s n)) : P (s.each l f) := by
  induction l generalizing s with
  | nil => exact h0
  | cons n r ih => exact ih _ (h1 _ _ h0)

/-! The outcome of a command -/

/-- A command of this form always answers a next state, with the queue, the clock and the fuses it found. -/
theorem done_eq (f : State → State) : done s f = .next (s.commit (f { s with out := [] })) := rfl

@[simp] theorem State.commit_pending (t : State) : (s.commit t).pending = s.pending := rfl
@[simp] theorem State.commit_clock (t : State) : (s.commit t).clock = s.clock := rfl
@[simp] theorem State.commit_fuses (t : State) : (s.commit t).fuses = s.fuses := rfl
@[simp] theorem State.commit_rd (t : State) (f : Fld) (i : Nat) : (s.commit t).rd f i = t.rd f i := rfl
@[simp] theorem State.commit_fl (t : State) (f : Fld) (i : Nat) : (s.commit t).fl f i = t.fl f i := rfl
@[simp] theorem State.commit_m (t : State) : (s.commit t).m = t.m := rfl
@[simp] theorem State.commit_out (t : State) : (s.commit t).out = t.out := rfl
@[simp] theorem State.commit_hub (t : State) : (s.commit t).hub = t.hub := rfl
@[simp] theorem State.commit_regs (t : State) : (s.commit t).regs = t.regs := rfl

/-- The outcome of a command that is `done` keeps the queue, the clock and the fuses. -/
theorem done_keeps {f : State → State} {t : State} (h : done s f = .next t) : t.pending = s.pending ∧ t.clock = s.clock ∧ t.fuses = s.fuses := by
  simp only [done_eq, Host.Outcome.next.injEq] at h
  subst h
  exact ⟨rfl, rfl, rfl⟩

/-- A command of this form always answers a next state, with the queue and the fuses it found. -/
theorem doneAll_eq (f : State → State) : doneAll s f = .next (s.commitAll (f { s with out := [] })) := rfl

@[simp] theorem State.commitAll_pending (t : State) : (s.commitAll t).pending = s.pending := rfl
@[simp] theorem State.commitAll_clock (t : State) : (s.commitAll t).clock = t.clock := rfl
@[simp] theorem State.commitAll_fuses (t : State) : (s.commitAll t).fuses = s.fuses := rfl
@[simp] theorem State.commitAll_rd (t : State) (f : Fld) (i : Nat) : (s.commitAll t).rd f i = t.rd f i := rfl
@[simp] theorem State.commitAll_fl (t : State) (f : Fld) (i : Nat) : (s.commitAll t).fl f i = t.fl f i := rfl
@[simp] theorem State.commitAll_m (t : State) : (s.commitAll t).m = t.m := rfl
@[simp] theorem State.commitAll_out (t : State) : (s.commitAll t).out = t.out := rfl
@[simp] theorem State.commitAll_hub (t : State) : (s.commitAll t).hub = t.hub := rfl
@[simp] theorem State.commitAll_regs (t : State) : (s.commitAll t).regs = t.regs := rfl

/-- The outcome of a command that is `doneAll` keeps the queue and the fuses. -/
theorem doneAll_keeps {f : State → State} {t : State} (h : doneAll s f = .next t) : t.pending = s.pending ∧ t.fuses = s.fuses := by
  simp only [doneAll_eq, Host.Outcome.next.injEq] at h
  subst h
  exact ⟨rfl, rfl⟩

/-! Assertions and shards -/

/-- An assertion goes to the end of the assertions that have not arrived (R31). -/
@[simp] theorem State.raise_asserted (n : Nat) : (s.raise n).hub.asserted = s.hub.asserted ++ [(n, 0)] := rfl

@[simp] theorem State.raiseD_asserted (n d : Nat) : (s.raiseD n d).hub.asserted = s.hub.asserted ++ [(n, d)] := rfl

/-- A shard enters a buffer with room and takes the next SEQ; with none it is lost and counted (R564). -/
theorem State.shard_cases (code pl d0 d1 d2 : Nat) :
    (s.log.buffer.length < 16 ∧ ∃ x : Shard, x.code = code ∧ x.place = pl ∧ x.seq = s.rd R.LOG_SEQ.SEQ 0 ∧
      (s.shard code pl d0 d1 d2).log.buffer = s.log.buffer ++ [x] ∧ (s.shard code pl d0 d1 d2).rd R.LOG_SEQ.SEQ 0 = (s.rd R.LOG_SEQ.SEQ 0 + 1) % 2 ^ 32) ∨
    (16 ≤ s.log.buffer.length ∧ (s.shard code pl d0 d1 d2).log.buffer = s.log.buffer ∧ (s.shard code pl d0 d1 d2).log.gap = true) := by
  by_cases h : s.log.buffer.length < 16
  · refine .inl ⟨h, ⟨s.stamp, s.rd R.LOG_SEQ.SEQ 0, code, pl, s.m.mode.code + 128 * b2n s.m.trip, 2 * b2n s.log.gap, d0 % 2 ^ 32, d1 % 2 ^ 32, d2 % 2 ^ 32⟩, rfl, rfl, rfl, ?_, ?_⟩
    · simp [State.shard, h]
    · simp only [State.shard, h, if_true]
      exact State.wr_rd_same _ _ _ _
  · exact .inr ⟨by omega, by simp [State.shard, h], by simp [State.shard, h]⟩

/-! Host register accesses -/

/-- A host write of a register is one of three: the requester cannot reach the device and nothing happens; it may not write there, and the write is
counted; or the register's rule acts, and a refusal by it is counted (R467, R468). -/
theorem State.hostAct_cases (rq : Req) (r : Reg) (i : Nat) (f : Nat → Fx) :
    (s.reachable rq = false ∧ s.hostAct rq r i f = s) ∨
    (s.reachable rq = true ∧ s.mayWrite rq r i = false ∧ s.hostAct rq r i f = s.refuse rq (r.offset i) false) ∨
    (s.reachable rq = true ∧ s.mayWrite rq r i = true ∧
      s.hostAct rq r i f = if (f (s.copyOf rq r i) s).2 then (f (s.copyOf rq r i) s).1.refuse rq (r.offset i) false else (f (s.copyOf rq r i) s).1) := by
  by_cases h1 : s.reachable rq = true
  · by_cases h2 : s.mayWrite rq r i = true
    · exact .inr (.inr ⟨h1, h2, by simp [State.hostAct, h1, h2]⟩)
    · exact .inr (.inl ⟨h1, by simpa using h2, by simp [State.hostAct, h1, h2]⟩)
  · exact .inl ⟨by simpa using h1, by simp [State.hostAct, h1]⟩

/-- A register write that reaches its register and that its rule does not refuse leaves what the rule leaves. -/
theorem State.hostAct_acts {rq : Req} {r : Reg} {i : Nat} (f : Nat → Fx) (h1 : s.reachable rq = true) (h2 : s.mayWrite rq r i = true)
    (h3 : (f (s.copyOf rq r i) s).2 = false) : s.hostAct rq r i f = (f (s.copyOf rq r i) s).1 := by
  simp [State.hostAct, h1, h2, h3]

/-- A refusal of a function changes its refusal counter and the place of the last one, and nothing else. -/
theorem State.refuse_rd {f : Fin 64} {off : Nat} {b : Bool} {g : Fld} {j : Nat}
    (hk : g.key % 1024 ≠ R.HOST_REFUSE.COUNT.key ∧ g.key % 1024 ≠ R.HOST_REFUSE_ADDR.OFFSET.key ∧ g.key % 1024 ≠ R.HOST_REFUSE_ADDR.BAR2.key) :
    (s.refuse (.fn f) off b).rd g j = s.rd g j := by
  obtain ⟨h1, h2, h3⟩ := hk
  simp only [State.refuse]
  rw [State.wb_rd_key _ _ h3, State.wr_rd_key _ _ h2, State.bump_rd_key _ _ h1]

/-- A refusal counts once, up to the greatest count (R467). -/
theorem State.refuse_count (f : Fin 64) (off : Nat) (b : Bool) :
    (s.refuse (.fn f) off b).rd R.HOST_REFUSE.COUNT f.val = min (s.rd R.HOST_REFUSE.COUNT f.val + 1) 65535 := by
  simp only [State.refuse]
  rw [State.wb_rd_key _ _ (by decide), State.wr_rd_key _ _ (by decide), State.bump_rd_same]
  rfl

/-- The word read is sent, and the register's reading acts, where the requester sees the register; elsewhere 0 is sent (R39). -/
theorem readRow_cases (rq : Req) (r : Reg) (i : Nat) (f : Nat → State → State × Nat) :
    (s.reachable rq = false ∧ readRow rq r i f s = done s id) ∨
    (s.reachable rq = true ∧ s.mayRead rq r i = false ∧ readRow rq r i f s = done s fun t => t.send (.word 0)) ∨
    (s.reachable rq = true ∧ s.mayRead rq r i = true ∧
      readRow rq r i f s = done s fun t => (f (s.copyOf rq r i) t).1.send (.word (f (s.copyOf rq r i) t).2)) := by
  by_cases h1 : s.reachable rq = true
  · have h1' : ({ s with out := [] } : State).reachable rq = true := by cases rq <;> exact h1
    by_cases h2 : s.mayRead rq r i = true
    · have h2' : ({ s with out := [] } : State).mayRead rq r i = true := by cases rq <;> exact h2
      refine .inr (.inr ⟨h1, h2, ?_⟩)
      simp only [readRow, done_eq, h1', h2']
      cases rq <;> rfl
    · have h2' : ({ s with out := [] } : State).mayRead rq r i = false := by simp only [Bool.not_eq_true] at h2; cases rq <;> exact h2
      exact .inr (.inl ⟨h1, by simpa using h2, by simp [readRow, done_eq, h1', h2']⟩)
  · have h1' : ({ s with out := [] } : State).reachable rq = false := by simp only [Bool.not_eq_true] at h1; cases rq <;> exact h1
    exact .inl ⟨by simpa using h1, by simp [readRow, done_eq, h1']⟩

/-- A write row of a requester that reaches and may write the register, and whose word its rule does not refuse, answers what the rule leaves. -/
theorem writeRow_acts {rq : Req} {r : Reg} {i w : Nat} (h : Hook) (h1 : s.reachable rq = true) (h2 : s.mayWrite rq r i = true)
    (h3 : (h rq (s.copyOf rq r i) w 15 { s with out := [] }).2 = false) :
    writeRow rq r i w h s = .next (s.commit (h rq (s.copyOf rq r i) w 15 { s with out := [] }).1) := by
  have e1 : ({ s with out := [] } : State).reachable rq = true := by cases rq <;> exact h1
  have e2 : ({ s with out := [] } : State).mayWrite rq r i = true := by cases rq <;> exact h2
  have e3 : ({ s with out := [] } : State).copyOf rq r i = s.copyOf rq r i := by cases rq <;> rfl
  simp only [writeRow, done_eq]
  rw [State.hostAct_acts _ _ e1 e2 (by rw [e3]; exact h3), e3]

end Sys2Proof.Machine
end

