-- ==== Sys2Proof/Laws/Frame.lean ====
section
/-! SUPPORT. What each operation leaves alone: `s.blur b` forgets the parts whose bits are set in b, and an operation that changes only parts of b
leaves `s.blur b` as it was. Each lemma names the parts and the register fields that its operation can change. -/

namespace Sys2Proof.Machine

/-- The state with the parts of a mask, the register fields of its keys, the queue and the model's own fields forgotten: bit i of the mask stands for the
i-th part, and bit 32 + k for the register field of key k. -/
def State.blur (b : Nat) (s : State) : State :=
  { State.reset with
    clock := if b.testBit 0 then State.reset.clock else s.clock
    fuses := if b.testBit 1 then State.reset.fuses else s.fuses
    regs := smKeep (fun k => !b.testBit (32 + slotKey k)) s.regs
    m := if b.testBit 3 then State.reset.m else s.m
    image := if b.testBit 4 then State.reset.image else s.image
    hub := if b.testBit 5 then State.reset.hub else s.hub
    time := if b.testBit 6 then State.reset.time else s.time
    log := if b.testBit 7 then State.reset.log else s.log
    nvm := if b.testBit 8 then State.reset.nvm else s.nvm
    spare := if b.testBit 9 then State.reset.spare else s.spare
    host := if b.testBit 10 then State.reset.host else s.host
    lanes := if b.testBit 11 then State.reset.lanes else s.lanes
    dacs := if b.testBit 12 then State.reset.dacs else s.dacs
    adcs := if b.testBit 13 then State.reset.adcs else s.adcs
    smus := if b.testBit 14 then State.reset.smus else s.smus
    dpss := if b.testBit 15 then State.reset.dpss else s.dpss
    cals := if b.testBit 16 then State.reset.cals else s.cals
    trims := if b.testBit 17 then State.reset.trims else s.trims
    targets := if b.testBit 18 then State.reset.targets else s.targets
    results := if b.testBit 19 then State.reset.results else s.results
    plays := if b.testBit 20 then State.reset.plays else s.plays
    stores := if b.testBit 21 then State.reset.stores else s.stores
    seqs := if b.testBit 22 then State.reset.seqs else s.seqs
    tdcs := if b.testBit 23 then State.reset.tdcs else s.tdcs
    red := if b.testBit 24 then State.reset.red else s.red
    acqs := if b.testBit 25 then State.reset.acqs else s.acqs
    cap := if b.testBit 26 then State.reset.cap else s.cap
    capEcc := if b.testBit 27 then State.reset.capEcc else s.capEcc
    flash := if b.testBit 28 then State.reset.flash else s.flash
    spi := if b.testBit 29 then State.reset.spi else s.spi
    hk := if b.testBit 30 then State.reset.hk else s.hk
    legacy := if b.testBit 31 then State.reset.legacy else s.legacy }

/-- Two states that differ only in some parts differ only in more parts. -/
theorem State.blur_mono {s t : State} {m b : Nat} (h : s.blur m = t.blur m) (hb : b &&& m = m) : s.blur b = t.blur b := by
  have hk : ∀ i, b.testBit i = false → m.testBit i = false := by
    intro i hi
    have := congrArg (Nat.testBit · i) hb
    simpa [Nat.testBit_and, hi] using this.symm
  have hf : ∀ (i : Nat) (α : Type) (x y z : α), (if m.testBit i then z else x) = (if m.testBit i then z else y) → (if b.testBit i then z else x) = (if b.testBit i then z else y) := by
    intro i α x y z e
    cases hi : b.testBit i
    · simpa [hk i hi] using e
    · rfl
  simp only [State.blur, State.mk.injEq] at h ⊢
  have hr : smKeep (fun k => !b.testBit (32 + slotKey k)) s.regs = smKeep (fun k => !b.testBit (32 + slotKey k)) t.regs := by
    have e : ∀ r : SMap Nat, smKeep (fun k => !b.testBit (32 + slotKey k)) r = smKeep (fun k => !b.testBit (32 + slotKey k)) (smKeep (fun k => !m.testBit (32 + slotKey k)) r) := by
      intro r
      simp only [smKeep, List.filter_filter]
      refine List.filter_congr fun x _ => ?_
      cases hi : b.testBit (32 + slotKey x.1)
      · simp [hk _ hi]
      · simp
    rw [e s.regs, e t.regs, h.2.2.2.1]
  refine ⟨trivial, hf 0 _ _ _ _ ?_, hf 1 _ _ _ _ ?_, hr, hf 3 _ _ _ _ ?_, hf 4 _ _ _ _ ?_, hf 5 _ _ _ _ ?_, hf 6 _ _ _ _ ?_, hf 7 _ _ _ _ ?_, hf 8 _ _ _ _ ?_, hf 9 _ _ _ _ ?_, hf 10 _ _ _ _ ?_, hf 11 _ _ _ _ ?_, hf 12 _ _ _ _ ?_, hf 13 _ _ _ _ ?_, hf 14 _ _ _ _ ?_, hf 15 _ _ _ _ ?_, hf 16 _ _ _ _ ?_, hf 17 _ _ _ _ ?_, hf 18 _ _ _ _ ?_, hf 19 _ _ _ _ ?_, hf 20 _ _ _ _ ?_, hf 21 _ _ _ _ ?_, hf 22 _ _ _ _ ?_, hf 23 _ _ _ _ ?_, hf 24 _ _ _ _ ?_, hf 25 _ _ _ _ ?_, hf 26 _ _ _ _ ?_, hf 27 _ _ _ _ ?_, hf 28 _ _ _ _ ?_, hf 29 _ _ _ _ ?_, hf 30 _ _ _ _ ?_, hf 31 _ _ _ _ ?_, trivial, trivial⟩ <;> simp only [h]

theorem State.blur_with_clock (s : State) (v) {b : Nat} (hb : b &&& 1 = 1) : ({ s with clock := v } : State).blur b = s.blur b :=
  State.blur_mono (m := 1) rfl hb
theorem State.blur_with_fuses (s : State) (v) {b : Nat} (hb : b &&& 2 = 2) : ({ s with fuses := v } : State).blur b = s.blur b :=
  State.blur_mono (m := 2) rfl hb
theorem State.blur_with_m (s : State) (v) {b : Nat} (hb : b &&& 8 = 8) : ({ s with m := v } : State).blur b = s.blur b :=
  State.blur_mono (m := 8) rfl hb
theorem State.blur_with_image (s : State) (v) {b : Nat} (hb : b &&& 16 = 16) : ({ s with image := v } : State).blur b = s.blur b :=
  State.blur_mono (m := 16) rfl hb
theorem State.blur_with_hub (s : State) (v) {b : Nat} (hb : b &&& 32 = 32) : ({ s with hub := v } : State).blur b = s.blur b :=
  State.blur_mono (m := 32) rfl hb
theorem State.blur_with_time (s : State) (v) {b : Nat} (hb : b &&& 64 = 64) : ({ s with time := v } : State).blur b = s.blur b :=
  State.blur_mono (m := 64) rfl hb
theorem State.blur_with_log (s : State) (v) {b : Nat} (hb : b &&& 128 = 128) : ({ s with log := v } : State).blur b = s.blur b :=
  State.blur_mono (m := 128) rfl hb
theorem State.blur_with_nvm (s : State) (v) {b : Nat} (hb : b &&& 256 = 256) : ({ s with nvm := v } : State).blur b = s.blur b :=
  State.blur_mono (m := 256) rfl hb
theorem State.blur_with_spare (s : State) (v) {b : Nat} (hb : b &&& 512 = 512) : ({ s with spare := v } : State).blur b = s.blur b :=
  State.blur_mono (m := 512) rfl hb
theorem State.blur_with_host (s : State) (v) {b : Nat} (hb : b &&& 1024 = 1024) : ({ s with host := v } : State).blur b = s.blur b :=
  State.blur_mono (m := 1024) rfl hb
theorem State.blur_with_lanes (s : State) (v) {b : Nat} (hb : b &&& 2048 = 2048) : ({ s with lanes := v } : State).blur b = s.blur b :=
  State.blur_mono (m := 2048) rfl hb
theorem State.blur_with_dacs (s : State) (v) {b : Nat} (hb : b &&& 4096 = 4096) : ({ s with dacs := v } : State).blur b = s.blur b :=
  State.blur_mono (m := 4096) rfl hb
theorem State.blur_with_adcs (s : State) (v) {b : Nat} (hb : b &&& 8192 = 8192) : ({ s with adcs := v } : State).blur b = s.blur b :=
  State.blur_mono (m := 8192) rfl hb
theorem State.blur_with_smus (s : State) (v) {b : Nat} (hb : b &&& 16384 = 16384) : ({ s with smus := v } : State).blur b = s.blur b :=
  State.blur_mono (m := 16384) rfl hb
theorem State.blur_with_dpss (s : State) (v) {b : Nat} (hb : b &&& 32768 = 32768) : ({ s with dpss := v } : State).blur b = s.blur b :=
  State.blur_mono (m := 32768) rfl hb
theorem State.blur_with_cals (s : State) (v) {b : Nat} (hb : b &&& 65536 = 65536) : ({ s with cals := v } : State).blur b = s.blur b :=
  State.blur_mono (m := 65536) rfl hb
theorem State.blur_with_trims (s : State) (v) {b : Nat} (hb : b &&& 131072 = 131072) : ({ s with trims := v } : State).blur b = s.blur b :=
  State.blur_mono (m := 131072) rfl hb
theorem State.blur_with_targets (s : State) (v) {b : Nat} (hb : b &&& 262144 = 262144) : ({ s with targets := v } : State).blur b = s.blur b :=
  State.blur_mono (m := 262144) rfl hb
theorem State.blur_with_results (s : State) (v) {b : Nat} (hb : b &&& 524288 = 524288) : ({ s with results := v } : State).blur b = s.blur b :=
  State.blur_mono (m := 524288) rfl hb
theorem State.blur_with_plays (s : State) (v) {b : Nat} (hb : b &&& 1048576 = 1048576) : ({ s with plays := v } : State).blur b = s.blur b :=
  State.blur_mono (m := 1048576) rfl hb
theorem State.blur_with_stores (s : State) (v) {b : Nat} (hb : b &&& 2097152 = 2097152) : ({ s with stores := v } : State).blur b = s.blur b :=
  State.blur_mono (m := 2097152) rfl hb
theorem State.blur_with_seqs (s : State) (v) {b : Nat} (hb : b &&& 4194304 = 4194304) : ({ s with seqs := v } : State).blur b = s.blur b :=
  State.blur_mono (m := 4194304) rfl hb
theorem State.blur_with_tdcs (s : State) (v) {b : Nat} (hb : b &&& 8388608 = 8388608) : ({ s with tdcs := v } : State).blur b = s.blur b :=
  State.blur_mono (m := 8388608) rfl hb
theorem State.blur_with_red (s : State) (v) {b : Nat} (hb : b &&& 16777216 = 16777216) : ({ s with red := v } : State).blur b = s.blur b :=
  State.blur_mono (m := 16777216) rfl hb
theorem State.blur_with_acqs (s : State) (v) {b : Nat} (hb : b &&& 33554432 = 33554432) : ({ s with acqs := v } : State).blur b = s.blur b :=
  State.blur_mono (m := 33554432) rfl hb
theorem State.blur_with_cap (s : State) (v) {b : Nat} (hb : b &&& 67108864 = 67108864) : ({ s with cap := v } : State).blur b = s.blur b :=
  State.blur_mono (m := 67108864) rfl hb
theorem State.blur_with_capEcc (s : State) (v) {b : Nat} (hb : b &&& 134217728 = 134217728) : ({ s with capEcc := v } : State).blur b = s.blur b :=
  State.blur_mono (m := 134217728) rfl hb
theorem State.blur_with_flash (s : State) (v) {b : Nat} (hb : b &&& 268435456 = 268435456) : ({ s with flash := v } : State).blur b = s.blur b :=
  State.blur_mono (m := 268435456) rfl hb
theorem State.blur_with_spi (s : State) (v) {b : Nat} (hb : b &&& 536870912 = 536870912) : ({ s with spi := v } : State).blur b = s.blur b :=
  State.blur_mono (m := 536870912) rfl hb
theorem State.blur_with_hk (s : State) (v) {b : Nat} (hb : b &&& 1073741824 = 1073741824) : ({ s with hk := v } : State).blur b = s.blur b :=
  State.blur_mono (m := 1073741824) rfl hb
theorem State.blur_with_legacy (s : State) (v) {b : Nat} (hb : b &&& 2147483648 = 2147483648) : ({ s with legacy := v } : State).blur b = s.blur b :=
  State.blur_mono (m := 2147483648) rfl hb
theorem State.blur_with_pending (s : State) (v) {b : Nat} : ({ s with pending := v } : State).blur b = s.blur b := rfl
theorem State.blur_with_out (s : State) (v) {b : Nat} : ({ s with out := v } : State).blur b = s.blur b := rfl
theorem State.blur_with_free (s : State) (v) {b : Nat} : ({ s with free := v } : State).blur b = s.blur b := rfl

/-- Every register key. -/
def allKeys : Nat := 0xffffffffffffffffffffffffffffffffffffffffffffffffffffffffffffffffffffffffffffffffffffffffffffffffffffffffffffffffffffffffffffffffffffffffffffffffffffffffffffffffffffffffffffffffffffffffffffffffffffffffffffffffffffffffffffffffffffffffffffffffffffffffffffffff00000000

theorem State.key_of_all {b : Nat} (hb : b &&& allKeys = allKeys) (k : Nat) : b.testBit (32 + k % 1024) = true := by
  have h := congrArg (Nat.testBit · (32 + k % 1024)) hb
  have e : allKeys.testBit (32 + k % 1024) = true := by
    have : k % 1024 < 1024 := Nat.mod_lt _ (by decide)
    have e : allKeys = (2 ^ 1024 - 1) * 2 ^ 32 := by decide +kernel
    rw [e, Nat.testBit_mul_two_pow, Nat.add_sub_cancel_left, Nat.testBit_two_pow_sub_one]
    simp [this]
  simpa [Nat.testBit_and, e] using h

theorem State.blur_with_regs (s : State) (v) {b : Nat} (hb : b &&& allKeys = allKeys) : ({ s with regs := v } : State).blur b = s.blur b := by
  have e : ∀ r : SMap Nat, smKeep (fun k => !b.testBit (32 + slotKey k)) r = [] := fun r => by
    simp only [smKeep, slotKey, State.key_of_all hb, Bool.not_true, List.filter_false]
  simp only [State.blur, e]

theorem State.wr_blur (s : State) (f : Fld) (i v : Nat) {b : Nat} (hb : b.testBit (32 + f.key % 1024) = true) : (s.wr f i v).blur b = s.blur b := by
  have e : smKeep (fun k => !b.testBit (32 + slotKey k)) (s.wr f i v).regs = smKeep (fun k => !b.testBit (32 + slotKey k)) s.regs := by
    have hs : slotKey (f.slot i) = f.key % 1024 := by simp [slotKey, Fld.slot]
    exact smKeep_smSet _ _ _ _ _ (by simp [hs, hb])
  exact congrArg (fun r => ({ s with regs := r } : State).blur 0 |> fun _ => { s.blur b with regs := r }) e

theorem State.wb_blur (s : State) (f : Fld) (i : Nat) (v : Bool) {b : Nat} (hb : b.testBit (32 + f.key % 1024) = true) : (s.wb f i v).blur b = s.blur b :=
  s.wr_blur f i _ hb

theorem State.bump_blur (s : State) (f : Fld) (i n : Nat) {b : Nat} (hb : b.testBit (32 + f.key % 1024) = true) : (s.bump f i n).blur b = s.blur b :=
  s.wr_blur f i _ hb

theorem and_parts {b m k : Nat} (h : b &&& m = m) (e : m &&& k = k) : b &&& k = k := by
  rw [← e, ← Nat.and_assoc, h]

theorem State.blur_if {c : Prop} [Decidable c] {x y s : State} {b : Nat} (hx : x.blur b = s.blur b) (hy : y.blur b = s.blur b) : (if c then x else y).blur b = s.blur b := by
  split <;> assumption

theorem testBit_of_and {b m i : Nat} (h : b &&& m = m) (e : m.testBit i = true) : b.testBit i = true := by
  have := congrArg (Nat.testBit · i) h
  simpa [Nat.testBit_and, e] using this


/-- The field can be changed by a write of its word. -/
def Acc.writes : Acc → Bool
  | .rw | .w1c | .w1s | .rwl => true
  | _ => false

theorem writeField_blur (a0 a1 a2 : Nat) (f : Fld) (s : State) {b : Nat} (hf : f.acc.writes = true → b.testBit (32 + f.key % 1024) = true) :
    (writeField a0 a1 a2 f s).1.blur b = s.blur b := by
  unfold writeField
  split
  · rfl
  · have hw : ∀ v, f.acc.writes = true → (s.wr f a0 v).blur b = s.blur b := fun v h => s.wr_blur f a0 v (hf h)
    split
    case h_4 h => split <;> first | rfl | exact hw _ (by rw [h]; rfl)
    all_goals first | rfl | (rename_i h; exact hw _ (by rw [h]; rfl))

theorem writeFields_blur (fs : List Fld) (a0 a1 a2 : Nat) (s : State) {b : Nat} (hf : ∀ f ∈ fs, f.acc.writes = true → b.testBit (32 + f.key % 1024) = true) :
    (writeFields fs a0 a1 a2 s).1.blur b = s.blur b := by
  have h : ∀ (l : List Fld) (t : State), (∀ f ∈ l, f.acc.writes = true → b.testBit (32 + f.key % 1024) = true) →
      (l.foldl (fun s f => (writeField a0 a1 a2 f s).1) t).blur b = t.blur b := by
    intro l
    induction l with
    | nil => exact fun _ _ => rfl
    | cons x r ih => exact fun t h => (ih _ fun f hm => h f (by simp [hm])).trans (writeField_blur a0 a1 a2 x t (h x (by simp)))
  unfold writeFields
  split
  · rfl
  · exact h fs s hf

theorem writeWord_blur (r : Reg) (a0 a1 a2 : Nat) (s : State) {b : Nat} (hf : ∀ f ∈ r.fields, f.acc.writes = true → b.testBit (32 + f.key % 1024) = true) :
    (writeWord r a0 a1 a2 s).1.blur b = s.blur b := writeFields_blur _ _ _ _ _ hf


theorem Fx.of_blur (f : State → State) (s : State) {b : Nat} (h : (f s).blur b = s.blur b) : (Fx.of f s).1.blur b = s.blur b := h

theorem Fx.refused_blur (s : State) {b : Nat} : (Fx.refused s).1.blur b = s.blur b := rfl

theorem Fx.then_blur (a : Fx) (f : State → State) (s : State) {b : Nat} (ha : (a s).1.blur b = s.blur b) (hf : ∀ t, (f t).blur b = t.blur b) :
    (Fx.then' a f s).1.blur b = s.blur b := (hf _).trans ha

theorem Fx.seq_blur (x y : Fx) (s : State) {b : Nat} (hx : ∀ t, (x t).1.blur b = t.blur b) (hy : ∀ t, (y t).1.blur b = t.blur b) : (Fx.seq x y s).1.blur b = s.blur b :=
  (hy _).trans (hx s)

theorem Fx.ite_blur (c : State → Bool) (x y : Fx) (s : State) {b : Nat} (hx : (x s).1.blur b = s.blur b) (hy : (y s).1.blur b = s.blur b) :
    (Fx.ite c x y s).1.blur b = s.blur b := by
  unfold Fx.ite
  split
  · exact hx
  · exact hy

theorem Fx.all_blur (l : List Fx) (s : State) {b : Nat} (h : ∀ x ∈ l, ∀ t, (x t).1.blur b = t.blur b) : (Fx.all l s).1.blur b = s.blur b := by
  have key : ∀ (l : List Fx) (a : Fx), (∀ t, (a t).1.blur b = t.blur b) → (∀ x ∈ l, ∀ t, (x t).1.blur b = t.blur b) → ∀ t, (l.foldl Fx.seq a t).1.blur b = t.blur b := by
    intro l
    induction l with
    | nil => exact fun a ha _ t => ha t
    | cons x r ih =>
      intro a ha hl t
      exact ih (Fx.seq a x) (fun t => Fx.seq_blur a x t ha (hl x (by simp))) (fun y hy => hl y (by simp [hy])) t
  exact key l _ (fun _ => rfl) h s

theorem State.blur_when (s : State) (c : Bool) (f : State → State) {b : Nat} (h : (f s).blur b = s.blur b) : (s.when c f).blur b = s.blur b := by
  cases c
  · rfl
  · exact h

theorem State.blur_each (s : State) (l : List Nat) (f : State → Nat → State) {b : Nat} (h : ∀ t n, (f t n).blur b = t.blur b) : (s.each l f).blur b = s.blur b :=
  s.each_induction (P := fun t => t.blur b = s.blur b) l f rfl fun t n e => (h t n).trans e

theorem State.blur_foldl {α : Type} (s : State) (l : List α) (f : State → α → State) {b : Nat} (h : ∀ t n, (f t n).blur b = t.blur b) :
    (l.foldl f s).blur b = s.blur b := by
  induction l generalizing s with
  | nil => rfl
  | cons x r ih => exact (ih _).trans (h s x)

theorem State.blur_foldl_fst {α β : Type} (s : State) (y : β) (l : List α) (f : State × β → α → State × β) {b : Nat} (h : ∀ t n, (f t n).1.blur b = t.1.blur b) :
    (l.foldl f (s, y)).1.blur b = s.blur b := by
  suffices ∀ p : State × β, (l.foldl f p).1.blur b = p.1.blur b from this (s, y)
  induction l with
  | nil => exact fun _ => rfl
  | cons x r ih => exact fun p => (ih _).trans (h p x)

theorem State.blur_ite (c : Prop) [Decidable c] (s t : State) {b : Nat} : (if c then s else t).blur b = if c then s.blur b else t.blur b := by
  split <;> rfl

theorem State.blur_ite_fst {β : Type} (c : Prop) [Decidable c] (s t : State × β) {b : Nat} : (if c then s else t).1.blur b = if c then s.1.blur b else t.1.blur b := by
  split <;> rfl


theorem State.setAcq_blur (s : State) (a0 : ℕ) (a1 : AcqSt) {b : Nat} (hb : b &&& 0x2000000 = 0x2000000) : (State.setAcq s a0 a1).blur b = s.blur b := by
  refine State.blur_mono ?_ hb
  unfold State.setAcq
  simp (disch := decide) only [State.blur_with_acqs]

theorem State.acqArrive_blur (s : State) (a0 : ℕ) (a1 : AcqSample) {b : Nat} (hb : b &&& 0x2000000 = 0x2000000) : (State.acqArrive s a0 a1).blur b = s.blur b := by
  refine State.blur_mono ?_ hb
  unfold State.acqArrive
  simp (disch := decide) only [State.setAcq_blur]

theorem State.acqOffer_blur (s : State) (a0 : ℕ) (a1 : ℕ) (a2 : ℕ) (a3 : AcqSample) {b : Nat} (hb : b &&& 0x2000000 = 0x2000000) : (State.acqOffer s a0 a1 a2 a3).blur b = s.blur b := by
  refine State.blur_mono ?_ hb
  unfold State.acqOffer
  simp (disch := decide) only [State.blur_ite, ite_self, State.acqArrive_blur]

theorem State.setPlay_blur (s : State) (a0 : ℕ) (a1 : PlaySt) {b : Nat} (hb : b &&& 0x100000 = 0x100000) : (State.setPlay s a0 a1).blur b = s.blur b := by
  refine State.blur_mono ?_ hb
  unfold State.setPlay
  simp (disch := decide) only [State.blur_with_plays]

theorem State.setSrc_blur (s : State) (a0 : ℕ) (a1 : SrcSt) {b : Nat} (hb : b &&& 32 = 32) : (State.setSrc s a0 a1).blur b = s.blur b := by
  refine State.blur_mono ?_ hb
  unfold State.setSrc
  simp (disch := decide) only [State.blur_with_hub]

theorem State.raiseD_blur (s : State) (a0 : ℕ) (a1 : ℕ) {b : Nat} (hb : b &&& 32 = 32) : (State.raiseD s a0 a1).blur b = s.blur b := by
  refine State.blur_mono ?_ hb
  unfold State.raiseD
  simp (disch := decide) only [State.blur_with_hub]

theorem State.raise_blur (s : State) (a0 : ℕ) {b : Nat} (hb : b &&& 32 = 32) : (State.raise s a0).blur b = s.blur b := by
  refine State.blur_mono ?_ hb
  unfold State.raise
  simp (disch := decide) only [State.raiseD_blur]

theorem State.live_blur (s : State) (a0 : ℕ) (a1 : Bool) {b : Nat} (hb : b &&& 32 = 32) : (State.live s a0 a1).blur b = s.blur b := by
  refine State.blur_mono ?_ hb
  unfold State.live
  repeat' first
    | with_reducible rfl
    | simp (disch := decide) only [State.blur_ite, State.setSrc_blur, State.raise_blur]
    | with_reducible refine State.blur_when _ _ _ ?_
    | with_reducible refine (State.blur_when _ _ _ ?_).trans ?_
    | split

theorem State.segSync_blur (s : State) (a0 : ℕ) {b : Nat} (hb : b &&& 0x3c2000000000000000000000000000000000000000000000000000000000000000000000020 = 0x3c2000000000000000000000000000000000000000000000000000000000000000000000020) : (State.segSync s a0).blur b = s.blur b := by
  refine State.blur_mono ?_ hb
  unfold State.segSync
  simp (disch := decide) only [State.wr_blur, State.wb_blur, State.live_blur]

theorem State.ringCheck_blur (s : State) (a0 : ℕ) {b : Nat} (hb : b &&& 0x41000000000000000000000000000000000000000000000000000000000000000000000000020 = 0x41000000000000000000000000000000000000000000000000000000000000000000000000020) : (State.ringCheck s a0).1.blur b = s.blur b := by
  refine State.blur_mono ?_ hb
  unfold State.ringCheck
  simp (disch := decide) only [State.blur_ite_fst, ite_self, State.raise_blur, State.bump_blur, State.wr_blur]

theorem State.ringTake_blur (s : State) (a0 : ℕ) {b : Nat} (hb : b &&& 0xc0000000000000000000000000000000000000000000000000000000000000000000000 = 0xc0000000000000000000000000000000000000000000000000000000000000000000000) : (State.ringTake s a0).1.blur b = s.blur b := by
  refine State.blur_mono ?_ hb
  unfold State.ringTake
  simp (disch := decide) only [State.wr_blur]

theorem State.abortMark_blur (s : State) (a0 : ℕ) {b : Nat} (hb : b &&& 0x100000 = 0x100000) : (State.abortMark s a0).blur b = s.blur b := by
  refine State.blur_mono ?_ hb
  unfold State.abortMark
  simp (disch := decide) only [State.setPlay_blur]

theorem State.choose_blur (s : State) (a0 : ℕ) (a1 : ℕ) (a2 : Bool) {b : Nat} (hb : b &&& 0x410000c0000000000000000000000000000000000000000000000000000000000000000100020 = 0x410000c0000000000000000000000000000000000000000000000000000000000000000100020) : (State.choose s a0 a1 a2).blur b = s.blur b := by
  refine State.blur_mono ?_ hb
  unfold State.choose
  simp (disch := decide) only [State.blur_ite, ite_self, State.setPlay_blur, State.ringCheck_blur, State.ringTake_blur, State.abortMark_blur]

theorem State.enqueue_blur (s : State) (a0 : ℕ) (a1 : ℕ) {b : Nat} (hb : b &&& 0x413c20c0000000000000000000000000000000000000000000000000000000000000000100020 = 0x413c20c0000000000000000000000000000000000000000000000000000000000000000100020) : (State.enqueue s a0 a1).blur b = s.blur b := by
  refine State.blur_mono ?_ hb
  unfold State.enqueue
  repeat' first
    | with_reducible rfl
    | simp (disch := decide) only [State.setPlay_blur, State.segSync_blur, State.choose_blur]
    | with_reducible refine State.blur_when _ _ _ ?_
    | with_reducible refine (State.blur_when _ _ _ ?_).trans ?_

theorem State.firstRecord_blur (s : State) (a0 : SiteDecl) (a1 : ℕ) (a2 : VecRec) (a3 : ℕ) {b : Nat} (hb : b &&& 0x3e0000000000000000000000000000000000000000000000000000000000000000000000000000000100000 = 0x3e0000000000000000000000000000000000000000000000000000000000000000000000000000000100000) : (State.firstRecord s a0 a1 a2 a3).blur b = s.blur b := by
  refine State.blur_mono ?_ hb
  unfold State.firstRecord
  simp (disch := decide) only [State.setPlay_blur, State.wr_blur]

theorem State.siteFail_blur (s : State) (a0 : SiteDecl) (a1 : ℕ) (a2 : VecRec) (a3 : ℕ) {b : Nat} (hb : b &&& 0x3f4000000000000000000000000000000000000000000000000000000000000000000000000000000100020 = 0x3f4000000000000000000000000000000000000000000000000000000000000000000000000000000100020) : (State.siteFail s a0 a1 a2 a3).blur b = s.blur b := by
  refine State.blur_mono ?_ hb
  unfold State.siteFail
  repeat' first
    | with_reducible rfl
    | simp (disch := decide) only [State.firstRecord_blur, State.wr_blur, State.raiseD_blur]
    | with_reducible refine State.blur_when _ _ _ ?_
    | with_reducible refine (State.blur_when _ _ _ ?_).trans ?_

theorem State.unFirst_blur (s : State) (a0 : ℕ) (a1 : ℕ) (a2 : ℕ) {b : Nat} (hb : b &&& 0x100000 = 0x100000) : (State.unFirst s a0 a1 a2).blur b = s.blur b := by
  refine State.blur_mono ?_ hb
  unfold State.unFirst
  simp (disch := decide) only [State.setPlay_blur]

theorem State.siteFirst_blur (s : State) (a0 : SiteDecl) (a1 : ℕ) (a2 : VecRec) (a3 : ℕ) {b : Nat} (hb : b &&& 0x3f4000000000000000000000000000000000000000000000000000000000000000000000000000000100020 = 0x3f4000000000000000000000000000000000000000000000000000000000000000000000000000000100020) : (State.siteFirst s a0 a1 a2 a3).1.blur b = s.blur b := by
  refine State.blur_mono ?_ hb
  unfold State.siteFirst
  simp (disch := decide) only [State.blur_ite_fst, ite_self, State.siteFail_blur, State.firstRecord_blur, State.unFirst_blur]

theorem State.send_blur (s : State) (a0 : Out) {b : Nat} (hb : b &&& 0 = 0) : (State.send s a0).blur b = s.blur b := by
  refine State.blur_mono ?_ hb
  unfold State.send
  simp (disch := decide) only [State.blur_with_out]

theorem State.draw_blur (s : State) (a0 : ℕ) {b : Nat} (hb : b &&& 0 = 0) : (State.draw s a0).2.blur b = s.blur b := by
  refine State.blur_mono ?_ hb
  unfold State.draw
  simp (disch := decide) only [State.blur_with_free]

theorem State.hostErr_blur (s : State) (a0 : Nat) (f : Fld) {b : Nat} (hb : b &&& 0 = 0) (hf : b.testBit (32 + f.key % 1024) = true) : (State.hostErr s a0 f).blur b = s.blur b := by
  exact s.wr_blur _ _ _ hf

theorem State.aer_blur (s : State) (a0 : ℕ) (a1 : ℕ) {b : Nat} (hb : b &&& 1024 = 1024) : (State.aer s a0 a1).blur b = s.blur b := by
  refine State.blur_mono ?_ hb
  unfold State.aer
  simp (disch := decide) only [State.blur_with_host]

theorem State.setRing_blur (s : State) (a0 : ℕ) (a1 : RingSt) {b : Nat} (hb : b &&& 1024 = 1024) : (State.setRing s a0 a1).blur b = s.blur b := by
  refine State.blur_mono ?_ hb
  unfold State.setRing
  simp (disch := decide) only [State.blur_with_host]

theorem State.shard_blur (s : State) (a0 : ℕ) (a1 : ℕ) (a2 : ℕ) (a3 : ℕ) (a4 : ℕ) {b : Nat} (hb : b &&& 0x100000000000000000000400000000080 = 0x100000000000000000000400000000080) : (State.shard s a0 a1 a2 a3 a4).blur b = s.blur b := by
  refine State.blur_mono ?_ hb
  unfold State.shard
  simp (disch := decide) only [State.blur_ite, ite_self, State.blur_with_log, State.wr_blur, State.bump_blur]

theorem State.marked_blur (s : State) (a0 : ℕ) (a1 : ℕ) (a2 : ℕ) (a3 : ℕ) (a4 : ℕ) {b : Nat} (hb : b &&& 0x1000000000000000000004000000000a0 = 0x1000000000000000000004000000000a0) : (State.marked s a0 a1 a2 a3 a4).blur b = s.blur b := by
  refine State.blur_mono ?_ hb
  unfold State.marked
  simp (disch := decide) only [State.shard_blur, State.raise_blur]

theorem State.mapChanged_blur (s : State) {b : Nat} (hb : b &&& 0x2000000000000000000000000000 = 0x2000000000000000000000000000) : (State.mapChanged s).blur b = s.blur b := by
  refine State.blur_mono ?_ hb
  unfold State.mapChanged
  repeat' first
    | with_reducible rfl
    | simp (disch := decide) only [State.wr_blur]
    | with_reducible refine State.blur_when _ _ _ ?_
    | with_reducible refine State.blur_each _ _ _ (fun t n => ?_)
    | split

theorem State.addRepair_blur (s : State) (a0 : ℕ) (a1 : ℕ) (a2 : ℕ) (a3 : ℕ) (a4 : ℕ) {b : Nat} (hb : b &&& 0x100006000000000000000400000000180 = 0x100006000000000000000400000000180) : (State.addRepair s a0 a1 a2 a3 a4).blur b = s.blur b := by
  refine State.blur_mono ?_ hb
  unfold State.addRepair
  simp (disch := decide) only [State.blur_ite, ite_self, State.blur_with_nvm, State.mapChanged_blur, State.shard_blur, State.wr_blur]

theorem State.spareRow_blur (s : State) (a0 : ℕ) (a1 : ℕ) (a2 : ℕ) {b : Nat} (hb : b &&& 0x1200060000000000000004000000003a0 = 0x1200060000000000000004000000003a0) : (State.spareRow s a0 a1 a2).blur b = s.blur b := by
  refine State.blur_mono ?_ hb
  unfold State.spareRow
  simp (disch := decide) only [State.blur_with_spare, State.shard_blur, State.raise_blur, State.addRepair_blur, State.wr_blur]

theorem State.markRow_blur (s : State) (a0 : ℕ) (a1 : ℕ) (a2 : ℕ) {b : Nat} (hb : b &&& 0x1200060000000000000004000000003a0 = 0x1200060000000000000004000000003a0) : (State.markRow s a0 a1 a2).blur b = s.blur b := by
  refine State.blur_mono ?_ hb
  unfold State.markRow
  simp (disch := decide) only [State.blur_ite, ite_self, State.blur_with_spare, State.marked_blur, State.spareRow_blur]

theorem State.storeUe_blur (s : State) (a0 : ℕ) (a1 : ℕ) (a2 : ℕ) (a3 : ℕ) {b : Nat} (hb : b &&& 0x1200060000000000000004000000003a0 = 0x1200060000000000000004000000003a0) : (State.storeUe s a0 a1 a2 a3).blur b = s.blur b := by
  refine State.blur_mono ?_ hb
  unfold State.storeUe
  simp (disch := decide) only [State.markRow_blur, State.shard_blur]

theorem State.uploadWord_blur (s : State) (a0 : ℕ) (a1 : ℕ) (a2 : ℕ) {b : Nat} (hb : b &&& 0x10000000000000000000000000000000000000000000000000000000000000000000000000000000000000000000000000000000000001200060000000000000004000000007a0 = 0x10000000000000000000000000000000000000000000000000000000000000000000000000000000000000000000000000000000000001200060000000000000004000000007a0) : (State.uploadWord s a0 a1 a2).blur b = s.blur b := by
  refine State.blur_mono ?_ hb
  unfold State.uploadWord
  repeat' first
    | with_reducible rfl
    | simp (disch := decide) only [State.blur_ite, State.send_blur, State.draw_blur, State.hostErr_blur, State.aer_blur, State.setRing_blur, State.storeUe_blur]
    | split

theorem State.setCtx_blur (s : State) (a0 : ℕ) (a1 : CtxSt) {b : Nat} (hb : b &&& 0x1000000 = 0x1000000) : (State.setCtx s a0 a1).blur b = s.blur b := by
  refine State.blur_mono ?_ hb
  unfold State.setCtx
  simp (disch := decide) only [State.blur_with_red]

theorem State.grpSync_blur (s : State) (a0 : ℕ) {b : Nat} (hb : b &&& 0x2800000000000000000000000000000000000000000000000000000000000000000000000000000000000000000000000000000000000000000000000000000000000000000000000000000000000000000000000000000000000000000000000000000000000 = 0x2800000000000000000000000000000000000000000000000000000000000000000000000000000000000000000000000000000000000000000000000000000000000000000000000000000000000000000000000000000000000000000000000000000000000) : (State.grpSync s a0).blur b = s.blur b := by
  refine State.blur_mono ?_ hb
  unfold State.grpSync
  simp (disch := decide) only [State.wr_blur, State.wb_blur]

theorem State.ctxUe_blur (s : State) (a0 : ℕ) {b : Nat} (hb : b &&& 0x1200060000000000000004000010003a0 = 0x1200060000000000000004000010003a0) : (State.ctxUe s a0).blur b = s.blur b := by
  refine State.blur_mono ?_ hb
  unfold State.ctxUe
  simp (disch := decide) only [State.blur_ite, ite_self, State.blur_with_red, State.setCtx_blur, State.raise_blur, State.storeUe_blur]

theorem State.ctxOpen_blur (s : State) (a0 : ℕ) {b : Nat} (hb : b &&& 0x1000000 = 0x1000000) : (State.ctxOpen s a0).blur b = s.blur b := by
  refine State.blur_mono ?_ hb
  unfold State.ctxOpen
  simp (disch := decide) only [State.setCtx_blur]

theorem State.ctxWritten_blur (s : State) (a0 : ℕ) {b : Nat} (hb : b &&& 0x1200060000000000000004000010003a0 = 0x1200060000000000000004000010003a0) : (State.ctxWritten s a0).blur b = s.blur b := by
  refine State.blur_mono ?_ hb
  unfold State.ctxWritten
  repeat' first
    | with_reducible rfl
    | simp (disch := decide) only [State.blur_ite, State.blur_with_red, State.ctxUe_blur, State.setCtx_blur, State.ctxOpen_blur]
    | with_reducible refine State.blur_when _ _ _ ?_
    | with_reducible refine (State.blur_when _ _ _ ?_).trans ?_
    | split

theorem State.ctxComplete_blur (s : State) (a0 : ℕ) (a1 : ℕ) {b : Nat} (hb : b &&& 0x28000000000000000000000000000000000000000000000000000000000000000000000000000000000000000000000000000000000000000000000000000000000000000000000000000000000000000000000000001200060000000000000004000010003a0 = 0x28000000000000000000000000000000000000000000000000000000000000000000000000000000000000000000000000000000000000000000000000000000000000000000000000000000000000000000000000001200060000000000000004000010003a0) : (State.ctxComplete s a0 a1).blur b = s.blur b := by
  refine State.blur_mono ?_ hb
  unfold State.ctxComplete
  simp (disch := decide) only [State.blur_ite, ite_self, State.blur_with_red, State.setCtx_blur, State.grpSync_blur, State.ctxWritten_blur]

theorem adcSeqAHook_blur (a0 : Req) (a1 : ℕ) (a2 : ℕ) (a3 : ℕ) (s : State) {b : Nat} (hb : b &&& 0x3c00000000000000000000000000000000000000000000000000000000000000000000000000000000000000000000000000000000000000000000000000000000000000000000000000000000000000000000000000000000000000000000000000 = 0x3c00000000000000000000000000000000000000000000000000000000000000000000000000000000000000000000000000000000000000000000000000000000000000000000000000000000000000000000000000000000000000000000000000) : (adcSeqAHook a0 a1 a2 a3 s).1.blur b = s.blur b := by
  refine State.blur_mono ?_ hb
  unfold adcSeqAHook
  simp (disch := decide) only [State.blur_ite_fst, ite_self, writeWord_blur]

theorem State.overSync_blur (s : State) (a0 : ℕ) {b : Nat} (hb : b &&& 0xe00000000000000000000000000000000000000000000000000000000000000000000000000000000000000000000000000000000000000000000000000000000000000000000000020 = 0xe00000000000000000000000000000000000000000000000000000000000000000000000000000000000000000000000000000000000000000000000000000000000000000000000020) : (State.overSync s a0).blur b = s.blur b := by
  refine State.blur_mono ?_ hb
  unfold State.overSync
  simp (disch := decide) only [State.live_blur, State.wb_blur]

theorem State.qSync_blur (s : State) (a0 : ℕ) {b : Nat} (hb : b &&& 0x200000000000000000000000000000000000000000000000000000000000000000000000000000000000000000000000000000000000000000000000000000000000000000000000000000000000000000000000000000000000000000000000000000000000020 = 0x200000000000000000000000000000000000000000000000000000000000000000000000000000000000000000000000000000000000000000000000000000000000000000000000000000000000000000000000000000000000000000000000000000000000020) : (State.qSync s a0).blur b = s.blur b := by
  refine State.blur_mono ?_ hb
  unfold State.qSync
  simp (disch := decide) only [State.wb_blur, State.live_blur]

theorem State.setQueue_blur (s : State) (a0 : ℕ) (a1 : QueueSt) {b : Nat} (hb : b &&& 32 = 32) : (State.setQueue s a0 a1).blur b = s.blur b := by
  refine State.blur_mono ?_ hb
  unfold State.setQueue
  simp (disch := decide) only [State.blur_with_hub]

theorem State.unclaim_blur (s : State) (a0 : ℕ) {b : Nat} (hb : b &&& 32 = 32) : (State.unclaim s a0).blur b = s.blur b := by
  refine State.blur_mono ?_ hb
  unfold State.unclaim
  simp (disch := decide) only [State.blur_ite, ite_self, State.setSrc_blur]

theorem State.queueReset_blur (s : State) (a0 : ℕ) {b : Nat} (hb : b &&& 0x610000000000000000000000000000000000000000000000000000000000e00000000000000000000000000000000000000000000000000000000000000000000000000000000000000000000000000000000000000000000000000000000000000000000000020 = 0x610000000000000000000000000000000000000000000000000000000000e00000000000000000000000000000000000000000000000000000000000000000000000000000000000000000000000000000000000000000000000000000000000000000000000020) : (State.queueReset s a0).blur b = s.blur b := by
  refine State.blur_mono ?_ hb
  unfold State.queueReset
  repeat' first
    | with_reducible rfl
    | simp (disch := decide) only [State.overSync_blur, State.qSync_blur, State.wr_blur, State.setQueue_blur, State.unclaim_blur]
    | with_reducible refine State.blur_when _ _ _ ?_
    | with_reducible refine State.blur_each _ _ _ (fun t n => ?_)

theorem queueCfgHook_blur (a0 : Req) (a1 : ℕ) (a2 : ℕ) (a3 : ℕ) (s : State) {b : Nat} (hb : b &&& 0x7f0000000000000000000000000000000000000000000000000000000000e00000000000000000000000000000000000000000000000000000000000000000000000000000000000000000000000000000000000000000000000000000000000000000000000020 = 0x7f0000000000000000000000000000000000000000000000000000000000e00000000000000000000000000000000000000000000000000000000000000000000000000000000000000000000000000000000000000000000000000000000000000000000000020) : (queueCfgHook a0 a1 a2 a3 s).1.blur b = s.blur b := by
  refine State.blur_mono ?_ hb
  unfold queueCfgHook
  simp (disch := decide) only [State.blur_ite_fst, ite_self, State.wr_blur, State.queueReset_blur, State.setQueue_blur, State.qSync_blur]

theorem State.setCal_blur (s : State) (a0 : ℕ) (a1 : CalSt) {b : Nat} (hb : b &&& 65536 = 65536) : (State.setCal s a0 a1).blur b = s.blur b := by
  refine State.blur_mono ?_ hb
  unfold State.setCal
  simp (disch := decide) only [State.blur_with_cals]

theorem State.calNext_blur (s : State) (a0 : ℕ) {b : Nat} (hb : b &&& 65536 = 65536) : (State.calNext s a0).blur b = s.blur b := by
  refine State.blur_mono ?_ hb
  unfold State.calNext
  repeat' first
    | with_reducible rfl
    | simp (disch := decide) only [State.blur_ite, State.setCal_blur]
    | split

theorem State.calStart_blur (s : State) (a0 : ℕ) {b : Nat} (hb : b &&& 65536 = 65536) : (State.calStart s a0).blur b = s.blur b := by
  refine State.blur_mono ?_ hb
  unfold State.calStart
  simp (disch := decide) only [State.calNext_blur, State.setCal_blur]

theorem State.feSync_blur (s : State) (a0 : ℕ) {b : Nat} (hb : b &&& 0x100000000000000000000000000000 = 0x100000000000000000000000000000) : (State.feSync s a0).blur b = s.blur b := by
  refine State.blur_mono ?_ hb
  unfold State.feSync
  simp (disch := decide) only [State.wr_blur]

theorem State.spareSync_blur (s : State) {b : Nat} (hb : b &&& 0x100000000000000000000000000000000000000000000000000000000000000000000000000000000000000000000000000000000000000000000000000000000000001f00000000000000000000000000000 = 0x100000000000000000000000000000000000000000000000000000000000000000000000000000000000000000000000000000000000000000000000000000000000001f00000000000000000000000000000) : (State.spareSync s).blur b = s.blur b := by
  refine State.blur_mono ?_ hb
  unfold State.spareSync
  repeat' first
    | with_reducible rfl
    | simp (disch := decide) only [State.feSync_blur, State.wr_blur, State.wb_blur]
    | with_reducible refine State.blur_when _ _ _ ?_
    | with_reducible refine State.blur_each _ _ _ (fun t n => ?_)

theorem State.unwait_blur (s : State) (a0 : ℕ) {b : Nat} (hb : b &&& 512 = 512) : (State.unwait s a0).blur b = s.blur b := by
  refine State.blur_mono ?_ hb
  unfold State.unwait
  simp (disch := decide) only [State.blur_with_spare]

theorem State.setAdc_blur (s : State) (a0 : ℕ) (a1 : AdcSt) {b : Nat} (hb : b &&& 8192 = 8192) : (State.setAdc s a0 a1).blur b = s.blur b := by
  refine State.blur_mono ?_ hb
  unfold State.setAdc
  simp (disch := decide) only [State.blur_with_adcs]

theorem State.dropSpare_blur (s : State) (a0 : ℕ) {b : Nat} (hb : b &&& 0x7000000000000000000000000000000000000000000000000000000000000000e0000000003800000000000000000000000000000000000000000000000000000000000000000002000000000000000000000000000000 = 0x7000000000000000000000000000000000000000000000000000000000000000e0000000003800000000000000000000000000000000000000000000000000000000000000000002000000000000000000000000000000) : (State.dropSpare s a0).blur b = s.blur b := by
  refine State.blur_mono ?_ hb
  unfold State.dropSpare
  repeat' first
    | with_reducible rfl
    | simp (disch := decide) only [State.wr_blur]
    | split

theorem State.setDps_blur (s : State) (a0 : ℕ) (a1 : DpsSt) {b : Nat} (hb : b &&& 32768 = 32768) : (State.setDps s a0 a1).blur b = s.blur b := by
  refine State.blur_mono ?_ hb
  unfold State.setDps
  simp (disch := decide) only [State.blur_with_dpss]

theorem State.setDac_blur (s : State) (a0 : ℕ) (a1 : DacSt) {b : Nat} (hb : b &&& 4096 = 4096) : (State.setDac s a0 a1).blur b = s.blur b := by
  refine State.blur_mono ?_ hb
  unfold State.setDac
  simp (disch := decide) only [State.blur_with_dacs]

theorem State.dpsOpen_blur (s : State) (a0 : ℕ) {b : Nat} (hb : b &&& 0x20000000000000000000000000000000000000000000000000000000000000000000000000000000000009000 = 0x20000000000000000000000000000000000000000000000000000000000000000000000000000000000009000) : (State.dpsOpen s a0).blur b = s.blur b := by
  refine State.blur_mono ?_ hb
  unfold State.dpsOpen
  simp (disch := decide) only [State.setDps_blur, State.wr_blur, State.setDac_blur]

theorem State.setTdc_blur (s : State) (a0 : ℕ) (a1 : TdcSt) {b : Nat} (hb : b &&& 0x800000 = 0x800000) : (State.setTdc s a0 a1).blur b = s.blur b := by
  refine State.blur_mono ?_ hb
  unfold State.setTdc
  simp (disch := decide) only [State.blur_with_tdcs]

theorem State.tdcDisarm_blur (s : State) (a0 : ℕ) {b : Nat} (hb : b &&& 0x1800000000000000000000000000000000000000000000000000000000000000000000000000000000000000000000000000800000 = 0x1800000000000000000000000000000000000000000000000000000000000000000000000000000000000000000000000000800000) : (State.tdcDisarm s a0).blur b = s.blur b := by
  refine State.blur_mono ?_ hb
  unfold State.tdcDisarm
  simp (disch := decide) only [State.wr_blur, State.setTdc_blur]

theorem State.unavailEffect_blur (s : State) (a0 : ℕ) {b : Nat} (hb : b &&& 0x1007000000000000007000000000000000000000000000000000000000000000000000000000000000e000180000780000000002000000000000000000000000000000000000000000000000000000000200000000000000000000000080b000 = 0x1007000000000000007000000000000000000000000000000000000000000000000000000000000000e000180000780000000002000000000000000000000000000000000000000000000000000000000200000000000000000000000080b000) : (State.unavailEffect s a0).blur b = s.blur b := by
  refine State.blur_mono ?_ hb
  unfold State.unavailEffect
  repeat' first
    | with_reducible rfl
    | simp (disch := decide) only [State.blur_ite, ite_self, State.wr_blur, State.setAdc_blur, State.dropSpare_blur, State.dpsOpen_blur, State.tdcDisarm_blur]
    | with_reducible refine State.blur_when _ _ _ ?_
    | with_reducible refine (State.blur_when _ _ _ ?_).trans ?_
    | split

theorem State.makeUnavailable_blur (s : State) (a0 : ℕ) {b : Nat} (hb : b &&& 0x200000000000104006000000000000000400000000380 = 0x200000000000104006000000000000000400000000380) : (State.makeUnavailable s a0).blur b = s.blur b := by
  refine State.blur_mono ?_ hb
  unfold State.makeUnavailable
  simp (disch := decide) only [State.blur_ite, ite_self, State.blur_with_spare, State.addRepair_blur, State.shard_blur, State.bump_blur, State.wr_blur]

theorem State.loseUnit_blur (s : State) (a0 : ℕ) {b : Nat} (hb : b &&& 0x1007000000000000007000000000000000000000000000000000000000000000000000000000000000e000180000780000000002000000000000000000000000000000000000000000020000000000010600600000000000000040000080b380 = 0x1007000000000000007000000000000000000000000000000000000000000000000000000000000000e000180000780000000002000000000000000000000000000000000000000000020000000000010600600000000000000040000080b380) : (State.loseUnit s a0).blur b = s.blur b := by
  refine State.blur_mono ?_ hb
  unfold State.loseUnit
  simp (disch := decide) only [State.blur_ite, ite_self, State.unwait_blur, State.unavailEffect_blur, State.makeUnavailable_blur]

theorem State.settleWaiting_blur (s : State) {b : Nat} (hb : b &&& 0x1007000000000000007000000001000000000000000000000000000000000000000000000000000000e0001800007800000000020000000000000000000000000000000000000000000200000000000107f0600000000000000040000080b380 = 0x1007000000000000007000000001000000000000000000000000000000000000000000000000000000e0001800007800000000020000000000000000000000000000000000000000000200000000000107f0600000000000000040000080b380) : (State.settleWaiting s).blur b = s.blur b := by
  refine State.blur_mono ?_ hb
  unfold State.settleWaiting
  repeat' first
    | with_reducible rfl
    | simp (disch := decide) only [State.spareSync_blur, State.unwait_blur, State.loseUnit_blur]
    | with_reducible refine State.blur_when _ _ _ ?_
    | with_reducible refine State.blur_each _ _ _ (fun t n => ?_)
    | with_reducible refine State.blur_foldl _ _ _ (fun t n => ?_)
    | with_reducible refine (State.blur_when _ _ _ ?_).trans ?_

theorem State.retireFe_blur (s : State) (a0 : ℕ) (a1 : ℕ) (a2 : ℕ) {b : Nat} (hb : b &&& 0x1c2000000000001041060000000000000004000000003a0 = 0x1c2000000000001041060000000000000004000000003a0) : (State.retireFe s a0 a1 a2).blur b = s.blur b := by
  refine State.blur_mono ?_ hb
  unfold State.retireFe
  repeat' first
    | with_reducible rfl
    | simp (disch := decide) only [State.blur_with_spare, State.wr_blur, State.feSync_blur, State.shard_blur, State.raise_blur, State.addRepair_blur, State.makeUnavailable_blur]
    | with_reducible refine State.blur_when _ _ _ ?_
    | with_reducible refine (State.blur_when _ _ _ ?_).trans ?_

theorem State.calTouch_blur (s : State) (a0 : ℕ) (a1 : ℕ) {b : Nat} (hb : b &&& 0x800000000000000000000000000000000000000000000000000000000000000000000000000000000000000000000000000000000000000000000000000000000000000000000000000000000010000 = 0x800000000000000000000000000000000000000000000000000000000000000000000000000000000000000000000000000000000000000000000000000000000000000000000000000000000010000) : (State.calTouch s a0 a1).blur b = s.blur b := by
  refine State.blur_mono ?_ hb
  unfold State.calTouch
  repeat' first
    | with_reducible rfl
    | simp (disch := decide) only [State.blur_ite, ite_self, State.bump_blur, State.setCal_blur, State.calNext_blur]
    | with_reducible refine State.blur_when _ _ _ ?_
    | with_reducible refine State.blur_each _ _ _ (fun t n => ?_)

theorem State.showRetired_blur (s : State) (a0 : ℕ) (a1 : ℕ) (a2 : ℕ) {b : Nat} (hb : b &&& 0x77fffff80000000000000000000000007ffffe00000000000000000000000000000000000000000000000000000001fffffff0007fffffffffff800000000000000000000000000000000000000000000000000000000000000000000000000000000000000 = 0x77fffff80000000000000000000000007ffffe00000000000000000000000000000000000000000000000000000001fffffff0007fffffffffff800000000000000000000000000000000000000000000000000000000000000000000000000000000000000) : (State.showRetired s a0 a1 a2).blur b = s.blur b := by
  refine State.blur_mono ?_ hb
  have hk : ∀ k, ∀ f ∈ shownFields k, 0x77fffff80000000000000000000000007ffffe00000000000000000000000000000000000000000000000000000001fffffff0007fffffffffff800000000000000000000000000000000000000000000000000000000000000000000000000000000000000.testBit (32 + f.key % 1024) = true := by
    intro k
    unfold shownFields
    split <;> decide
  suffices ∀ (l : List Fld) (t : State), (∀ f ∈ l, 0x77fffff80000000000000000000000007ffffe00000000000000000000000000000000000000000000000000000001fffffff0007fffffffffff800000000000000000000000000000000000000000000000000000000000000000000000000000000000000.testBit (32 + f.key % 1024) = true) →
      (l.foldl (fun s f => s.wr f a2 (s.rd f a1)) t).blur 0x77fffff80000000000000000000000007ffffe00000000000000000000000000000000000000000000000000000001fffffff0007fffffffffff800000000000000000000000000000000000000000000000000000000000000000000000000000000000000 = t.blur 0x77fffff80000000000000000000000007ffffe00000000000000000000000000000000000000000000000000000001fffffff0007fffffffffff800000000000000000000000000000000000000000000000000000000000000000000000000000000000000 from this _ s (hk a0)
  intro l
  induction l with
  | nil => exact fun _ _ => rfl
  | cons x r ih => exact fun t h => (ih _ fun f hm => h f (by simp [hm])).trans (t.wr_blur _ _ _ (h x (by simp)))

theorem State.setUnit_blur (s : State) (a0 : ℕ) (a1 : ℕ) {b : Nat} (hb : b &&& 512 = 512) : (State.setUnit s a0 a1).blur b = s.blur b := by
  refine State.blur_mono ?_ hb
  unfold State.setUnit
  simp (disch := decide) only [State.blur_with_spare]

theorem State.pair_blur (s : State) (a0 : ℕ) (a1 : ℕ) {b : Nat} (hb : b &&& 512 = 512) : (State.pair s a0 a1).blur b = s.blur b := by
  refine State.blur_mono ?_ hb
  unfold State.pair
  simp (disch := decide) only [State.blur_with_spare]

theorem State.dpsClose_blur (s : State) (a0 : ℕ) {b : Nat} (hb : b &&& 36864 = 36864) : (State.dpsClose s a0).blur b = s.blur b := by
  refine State.blur_mono ?_ hb
  unfold State.dpsClose
  simp (disch := decide) only [State.blur_ite, ite_self, State.setDps_blur, State.setDac_blur]

theorem State.bringIn_blur (s : State) (a0 : ℕ) (a1 : ℕ) (a2 : ℕ) {b : Nat} (hb : b &&& 0x77fffff80000007040000000000007007ffffe1000008000000000000000000000000000000000000000000000000ffffffff003ffffffffffff80000000000000000000000000000000000000001e200000000000107f060000000000000004000008193a0 = 0x77fffff80000007040000000000007007ffffe1000008000000000000000000000000000000000000000000000000ffffffff003ffffffffffff80000000000000000000000000000000000000001e200000000000107f060000000000000004000008193a0) : (State.bringIn s a0 a1 a2).blur b = s.blur b := by
  refine State.blur_mono ?_ hb
  unfold State.bringIn
  repeat' first
    | with_reducible rfl
    | simp (disch := decide) only [State.blur_ite, ite_self, State.shard_blur, State.raise_blur, State.addRepair_blur, State.unwait_blur, State.wr_blur, State.retireFe_blur, State.makeUnavailable_blur, State.calTouch_blur, State.showRetired_blur, State.setUnit_blur, State.dropSpare_blur, State.pair_blur, State.dpsOpen_blur, State.setDps_blur, State.wb_blur, State.dpsClose_blur, State.tdcDisarm_blur, State.spareSync_blur]
    | with_reducible refine State.blur_when _ _ _ ?_
    | with_reducible refine (State.blur_when _ _ _ ?_).trans ?_
    | split

theorem State.spareAll_blur (s : State) (a0 : State → ℕ → Bool) {b : Nat} (hb : b &&& 0x77fffff80001007040000000000007007ffffe1000008000000000000000000000000000000000000000000000000ffffffff007ffffffffffff80000000000000000000000000000000000000001e200000000000107f0600000000000000040000081b3a0 = 0x77fffff80001007040000000000007007ffffe1000008000000000000000000000000000000000000000000000000ffffffff007ffffffffffff80000000000000000000000000000000000000001e200000000000107f0600000000000000040000081b3a0) : (State.spareAll s a0).blur b = s.blur b := by
  refine State.blur_mono ?_ hb
  unfold State.spareAll
  repeat' first
    | with_reducible rfl
    | simp (disch := decide) only [State.blur_ite, State.settleWaiting_blur, State.bringIn_blur]
    | with_reducible refine State.blur_when _ _ _ ?_
    | with_reducible refine State.blur_each _ _ _ (fun t n => ?_)
    | with_reducible refine State.blur_foldl _ _ _ (fun t n => ?_)
    | with_reducible refine (State.blur_when _ _ _ ?_).trans ?_
    | with_reducible refine (State.blur_each _ _ _ (fun t n => ?_)).trans ?_
    | with_reducible refine (State.blur_foldl _ _ _ (fun t n => ?_)).trans ?_
    | with_reducible refine State.blur_foldl_fst _ _ _ _ (fun t n => ?_)
    | with_reducible refine (State.blur_foldl_fst _ _ _ _ (fun t n => ?_)).trans ?_
    | split

theorem State.sparesStep_blur (s : State) {b : Nat} (hb : b &&& 0x77fffff80001007040000000000007007ffffe1000008000000000000000000000000000000000000000000000000ffffffff007ffffffffffff80000000000000000000000000000000000000001e200000000000107f0600000000000000040000081b3a8 = 0x77fffff80001007040000000000007007ffffe1000008000000000000000000000000000000000000000000000000ffffffff007ffffffffffff80000000000000000000000000000000000000001e200000000000107f0600000000000000040000081b3a8) : (State.sparesStep s).blur b = s.blur b := by
  refine State.blur_mono ?_ hb
  unfold State.sparesStep
  repeat' first
    | with_reducible rfl
    | simp (disch := decide) only [State.blur_ite, ite_self, State.blur_with_m, State.spareAll_blur, State.calNext_blur, State.setCal_blur]
    | with_reducible refine State.blur_each _ _ _ (fun t n => ?_)
    | with_reducible refine (State.blur_each _ _ _ (fun t n => ?_)).trans ?_

theorem State.nvmStart_blur (s : State) (a0 : ℕ) (a1 : List ℕ) (a2 : Bool) {b : Nat} (hb : b &&& 0x1000000000000000000000000100 = 0x1000000000000000000000000100) : (State.nvmStart s a0 a1 a2).blur b = s.blur b := by
  refine State.blur_mono ?_ hb
  unfold State.nvmStart
  simp (disch := decide) only [State.blur_with_nvm, State.wr_blur]

theorem State.startStep_blur (s : State) (a0 : ℕ) {b : Nat} (hb : b &&& 0x77fffff80001007040000000000007007ffffe1000008000000000000000000000000000000000000000000000000ffffffff007ffffffffffff80000000000000000000000000000000000000001f700018000000107f0700000000000000040000081b3a8 = 0x77fffff80001007040000000000007007ffffe1000008000000000000000000000000000000000000000000000000ffffffff007ffffffffffff80000000000000000000000000000000000000001f700018000000107f0700000000000000040000081b3a8) : (State.startStep s a0).blur b = s.blur b := by
  refine State.blur_mono ?_ hb
  unfold State.startStep
  repeat' first
    | with_reducible rfl
    | simp (disch := decide) only [State.blur_ite, ite_self, State.blur_with_m, State.wr_blur, State.calStart_blur, State.sparesStep_blur, State.nvmStart_blur, State.raise_blur]
    | with_reducible refine State.blur_each _ _ _ (fun t n => ?_)
    | with_reducible refine (State.blur_each _ _ _ (fun t n => ?_)).trans ?_
    | split

theorem State.nvmTake_blur (s : State) (a0 : ℕ) {b : Nat} (hb : b &&& 0x100000000000000000000400000000180 = 0x100000000000000000000400000000180) : (State.nvmTake s a0).blur b = s.blur b := by
  refine State.blur_mono ?_ hb
  unfold State.nvmTake
  repeat' first
    | with_reducible rfl
    | simp (disch := decide) only [State.blur_with_nvm, State.shard_blur]
    | with_reducible refine State.blur_when _ _ _ ?_
    | with_reducible refine (State.blur_when _ _ _ ?_).trans ?_
    | split

theorem State.nvmPowerUp_blur (s : State) {b : Nat} (hb : b &&& 0x1000f0000000000000000400000000180 = 0x1000f0000000000000000400000000180) : (State.nvmPowerUp s).blur b = s.blur b := by
  refine State.blur_mono ?_ hb
  unfold State.nvmPowerUp
  repeat' first
    | with_reducible rfl
    | simp (disch := decide) only [State.blur_ite, State.blur_with_nvm, State.nvmTake_blur, State.wr_blur, State.wb_blur]
    | with_reducible refine State.blur_each _ _ _ (fun t n => ?_)
    | with_reducible refine (State.blur_each _ _ _ (fun t n => ?_)).trans ?_
    | split

theorem State.loadBaseline_blur (s : State) {b : Nat} (hb : b &&& 393216 = 393216) : (State.loadBaseline s).blur b = s.blur b := by
  refine State.blur_mono ?_ hb
  have key : ∀ m : SMap (List Int), ({ s with trims := m, targets := [] } : State).blur 393216 = s.blur 393216 := fun m =>
    (State.blur_with_targets { s with trims := m } [] rfl).trans (State.blur_with_trims s m rfl)
  unfold State.loadBaseline
  split
  · with_reducible exact key _
  · with_reducible exact key _

theorem State.applyRepair_blur (s : State) (a0 : Repair) {b : Nat} (hb : b &&& 0x77fffff80001007040000000000007007ffffe0000000000000000000000000000000000000000000000000000000ffffffff007ffffffffffff80000000000000000000000000000000000000001e00000000000006200000000000000000000000080b200 = 0x77fffff80001007040000000000007007ffffe0000000000000000000000000000000000000000000000000000000ffffffff007ffffffffffff80000000000000000000000000000000000000001e00000000000006200000000000000000000000080b200) : (State.applyRepair s a0).blur b = s.blur b := by
  refine State.blur_mono ?_ hb
  unfold State.applyRepair
  repeat' first
    | with_reducible rfl
    | simp (disch := decide) only [State.blur_ite, ite_self, State.blur_with_spare, State.setUnit_blur, State.wr_blur, State.wb_blur, State.dropSpare_blur, State.showRetired_blur, State.pair_blur, State.unavailEffect_blur]
    | with_reducible refine State.blur_when _ _ _ ?_
    | with_reducible refine State.blur_each _ _ _ (fun t n => ?_)
    | with_reducible refine State.blur_foldl _ _ _ (fun t n => ?_)
    | with_reducible refine (State.blur_when _ _ _ ?_).trans ?_
    | with_reducible refine (State.blur_each _ _ _ (fun t n => ?_)).trans ?_
    | with_reducible refine (State.blur_foldl _ _ _ (fun t n => ?_)).trans ?_
    | with_reducible refine State.blur_foldl_fst _ _ _ _ (fun t n => ?_)
    | with_reducible refine (State.blur_foldl_fst _ _ _ _ (fun t n => ?_)).trans ?_
    | split

theorem State.applyRepairs_blur (s : State) {b : Nat} (hb : b &&& 0x77fffff80001007040000000000007007ffffe1000000000000000000000000000000000000000000000000000000ffffffff007ffffffffffff80000000000000000000000000000000000000001e200000000000067f0000000000000000000000080b200 = 0x77fffff80001007040000000000007007ffffe1000000000000000000000000000000000000000000000000000000ffffffff007ffffffffffff80000000000000000000000000000000000000001e200000000000067f0000000000000000000000080b200) : (State.applyRepairs s).blur b = s.blur b := by
  refine State.blur_mono ?_ hb
  unfold State.applyRepairs
  repeat' first
    | with_reducible rfl
    | simp (disch := decide) only [State.wr_blur, State.applyRepair_blur, State.spareSync_blur, State.wb_blur]
    | with_reducible refine State.blur_when _ _ _ ?_
    | with_reducible refine State.blur_each _ _ _ (fun t n => ?_)
    | with_reducible refine State.blur_foldl _ _ _ (fun t n => ?_)
    | with_reducible refine (State.blur_when _ _ _ ?_).trans ?_
    | with_reducible refine (State.blur_each _ _ _ (fun t n => ?_)).trans ?_
    | with_reducible refine (State.blur_foldl _ _ _ (fun t n => ?_)).trans ?_

theorem State.repairMapStep_blur (s : State) {b : Nat} (hb : b &&& 0x77fffff80001007040000000000007007ffffe1000000000000000000000000000000000000000000000000000000ffffffff007ffffffffffff80000000000000000000000000000000000000001e200000000000167ff200000000000000040000086b380 = 0x77fffff80001007040000000000007007ffffe1000000000000000000000000000000000000000000000000000000ffffffff007ffffffffffff80000000000000000000000000000000000000001e200000000000167ff200000000000000040000086b380) : (State.repairMapStep s).blur b = s.blur b := by
  refine State.blur_mono ?_ hb
  unfold State.repairMapStep
  simp (disch := decide) only [State.blur_with_nvm, State.nvmPowerUp_blur, State.loadBaseline_blur, State.applyRepairs_blur, State.wr_blur]

theorem State.setStore_blur (s : State) (a0 : ℕ) (a1 : StoreSt) {b : Nat} (hb : b &&& 0x200000 = 0x200000) : (State.setStore s a0 a1).blur b = s.blur b := by
  refine State.blur_mono ?_ hb
  unfold State.setStore
  simp (disch := decide) only [State.blur_with_stores]

theorem State.flagSync_blur (s : State) (a0 : ℕ) {b : Nat} (hb : b &&& 0x200000000000000000000000000000000000000000000000000000000000000000000 = 0x200000000000000000000000000000000000000000000000000000000000000000000) : (State.flagSync s a0).blur b = s.blur b := by
  refine State.blur_mono ?_ hb
  unfold State.flagSync
  simp (disch := decide) only [State.wb_blur]

theorem State.recoverWord_blur (s : State) (a0 : ℕ) (a1 : ℕ) (a2 : Bool) {b : Nat} (hb : b &&& 0x2080000000000000000000000000000000001200060000000000000004000002003a0 = 0x2080000000000000000000000000000000001200060000000000000004000002003a0) : (State.recoverWord s a0 a1 a2).blur b = s.blur b := by
  refine State.blur_mono ?_ hb
  unfold State.recoverWord
  repeat' first
    | with_reducible rfl
    | simp (disch := decide) only [State.blur_ite, ite_self, State.markRow_blur, State.spareRow_blur, State.setStore_blur, State.wr_blur, State.flagSync_blur, State.shard_blur]
    | with_reducible refine State.blur_when _ _ _ ?_

theorem State.storeTest_blur (s : State) (a0 : List ℕ) (a1 : List ℕ) {b : Nat} (hb : b &&& 0x20800000000000000000000000000000000012000600000000000000040000d2003a8 = 0x20800000000000000000000000000000000012000600000000000000040000d2003a8) : (State.storeTest s a0 a1).blur b = s.blur b := by
  refine State.blur_mono ?_ hb
  unfold State.storeTest
  repeat' first
    | with_reducible rfl
    | simp (disch := decide) only [State.blur_ite, ite_self, State.raise_blur, State.recoverWord_blur, State.markRow_blur, State.spareRow_blur]
    | with_reducible refine State.blur_when _ _ _ ?_
    | with_reducible refine State.blur_each _ _ _ (fun t n => ?_)
    | with_reducible refine State.blur_foldl _ _ _ (fun t n => ?_)
    | with_reducible refine (State.blur_when _ _ _ ?_).trans ?_
    | with_reducible refine (State.blur_each _ _ _ (fun t n => ?_)).trans ?_
    | with_reducible refine (State.blur_foldl _ _ _ (fun t n => ?_)).trans ?_
    | with_reducible refine State.blur_foldl_fst _ _ _ _ (fun t n => ?_)
    | with_reducible refine (State.blur_foldl_fst _ _ _ _ (fun t n => ?_)).trans ?_
    | with_reducible refine Fx.of_blur _ _ ?_
    | with_reducible refine Fx.then_blur _ _ _ ?_ (fun t => ?_)
    | with_reducible refine Fx.ite_blur _ _ _ _ ?_ ?_
    | split
    | rfl

theorem State.gangDrop_blur (s : State) (a0 : ℕ) {b : Nat} (hb : b &&& 0x400000000020000000000000000000000000000000000000000000000000000000000000000000000000000000000009000 = 0x400000000020000000000000000000000000000000000000000000000000000000000000000000000000000000000009000) : (State.gangDrop s a0).blur b = s.blur b := by
  refine State.blur_mono ?_ hb
  unfold State.gangDrop
  simp (disch := decide) only [State.blur_ite, ite_self, State.wr_blur, State.setDps_blur, State.dpsOpen_blur]

theorem State.setLane_blur (s : State) (a0 : ℕ) (a1 : LaneSt) {b : Nat} (hb : b &&& 2048 = 2048) : (State.setLane s a0 a1).blur b = s.blur b := by
  refine State.blur_mono ?_ hb
  unfold State.setLane
  simp (disch := decide) only [State.blur_with_lanes]

theorem State.askHandover_blur (s : State) (a0 : ℕ) (a1 : ℕ) {b : Nat} (hb : b &&& 2048 = 2048) : (State.askHandover s a0 a1).blur b = s.blur b := by
  refine State.blur_mono ?_ hb
  unfold State.askHandover
  repeat' first
    | with_reducible rfl
    | simp (disch := decide) only [State.blur_ite, ite_self, State.setLane_blur]
    | split

theorem State.seekSpare_blur (s : State) (a0 : ℕ) (a1 : ℕ) {b : Nat} (hb : b &&& 0x77fffff80001007040000000000007007ffffe1000008000000000000000000000000000000000000000000000000ffffffff007ffffffffffff80000000000000000000000000000000000000001e200000000000107f0600000000000000040000081bba0 = 0x77fffff80001007040000000000007007ffffe1000008000000000000000000000000000000000000000000000000ffffffff007ffffffffffff80000000000000000000000000000000000000001e200000000000107f0600000000000000040000081bba0) : (State.seekSpare s a0 a1).blur b = s.blur b := by
  refine State.blur_mono ?_ hb
  unfold State.seekSpare
  dsimp only
  repeat' first
    | with_reducible rfl
    | split
    | simp (disch := decide) only [State.blur_with_spare, State.shard_blur, State.raise_blur, State.wr_blur, State.bump_blur, State.dropSpare_blur, State.setUnit_blur, State.loseUnit_blur, State.bringIn_blur, State.askHandover_blur]

theorem State.markUnit_blur (s : State) (a0 : ℕ) (a1 : ℕ) (a2 : ℕ) (a3 : ℕ) {b : Nat} (hb : b &&& 0x77fffff80001007040000000000007007ffffe1000008000000000000000000000000000000000000000000000000ffffffff007ffffffffffff80000000000000000000000000000000000000001e200000000000107f0600000000000000040000081bba0 = 0x77fffff80001007040000000000007007ffffe1000008000000000000000000000000000000000000000000000000ffffffff007ffffffffffff80000000000000000000000000000000000000001e200000000000107f0600000000000000040000081bba0) : (State.markUnit s a0 a1 a2 a3).blur b = s.blur b := by
  refine State.blur_mono ?_ hb
  unfold State.markUnit
  repeat' first
    | with_reducible rfl
    | simp (disch := decide) only [State.blur_ite, State.marked_blur, State.setUnit_blur, State.gangDrop_blur, State.settleWaiting_blur, State.seekSpare_blur]
    | with_reducible refine State.blur_when _ _ _ ?_
    | with_reducible refine (State.blur_when _ _ _ ?_).trans ?_
    | split

theorem State.testFails_blur (s : State) (a0 : List ℕ) {b : Nat} (hb : b &&& 0x77fffff80001007040000000000007007ffffe1000008000000000000000000000000000000000000000000000000ffffffff007ffffffffffff80000000000000000000000000000000000000001ea00000000000107f0600000000000000040000081bba0 = 0x77fffff80001007040000000000007007ffffe1000008000000000000000000000000000000000000000000000000ffffffff007ffffffffffff80000000000000000000000000000000000000001ea00000000000107f0600000000000000040000081bba0) : (State.testFails s a0).blur b = s.blur b := by
  refine State.blur_mono ?_ hb
  unfold State.testFails
  repeat' first
    | with_reducible rfl
    | simp (disch := decide) only [State.draw_blur, State.bump_blur, State.markUnit_blur]
    | with_reducible refine State.blur_when _ _ _ ?_
    | with_reducible refine State.blur_each _ _ _ (fun t n => ?_)
    | with_reducible refine State.blur_foldl _ _ _ (fun t n => ?_)
    | with_reducible refine (State.blur_when _ _ _ ?_).trans ?_

theorem State.stepDone_blur (s : State) (a0 : List ℕ) (a1 : List ℕ) (a2 : List ℕ) {b : Nat} (hb : b &&& 0x77fffff80001007040000000000007007ffffe1000008000000000000000000000000000000000000000000000000ffffffff007ffffffffffff80000000000000000020800000000000000000001ff00018000000167ff700000000000000040000da7bba8 = 0x77fffff80001007040000000000007007ffffe1000008000000000000000000000000000000000000000000000000ffffffff007ffffffffffff80000000000000000020800000000000000000001ff00018000000167ff700000000000000040000da7bba8) : (State.stepDone s a0 a1 a2).blur b = s.blur b := by
  refine State.blur_mono ?_ hb
  unfold State.stepDone
  repeat' first
    | with_reducible rfl
    | simp (disch := decide) only [State.blur_ite, ite_self, State.blur_with_m, State.startStep_blur, State.repairMapStep_blur, State.storeTest_blur, State.testFails_blur]
    | split

theorem State.tdcPush_blur (s : State) (a0 : ℕ) (a1 : TdcRes) {b : Nat} (hb : b &&& 0x12000000000000000000000000000000000000000000000000000000000000000000000000000000000000000000000000000800020 = 0x12000000000000000000000000000000000000000000000000000000000000000000000000000000000000000000000000000800020) : (State.tdcPush s a0 a1).blur b = s.blur b := by
  refine State.blur_mono ?_ hb
  unfold State.tdcPush
  repeat' first
    | with_reducible rfl
    | simp (disch := decide) only [State.blur_ite, State.wr_blur, State.setTdc_blur, State.raise_blur, State.bump_blur]
    | with_reducible refine State.blur_when _ _ _ ?_
    | with_reducible refine (State.blur_when _ _ _ ?_).trans ?_
    | split

theorem State.ctxDrop_blur (s : State) (a0 : ℕ) {b : Nat} (hb : b &&& 0x1000000 = 0x1000000) : (State.ctxDrop s a0).blur b = s.blur b := by
  refine State.blur_mono ?_ hb
  unfold State.ctxDrop
  simp (disch := decide) only [State.setCtx_blur]

theorem State.toContext_blur (s : State) (a0 : RedSample) {b : Nat} (hb : b &&& 0x70000000000000000000000000000000000000000000000000000000000000000000000000000000000000000000001000000 = 0x70000000000000000000000000000000000000000000000000000000000000000000000000000000000000000000001000000) : (State.toContext s a0).blur b = s.blur b := by
  refine State.blur_mono ?_ hb
  unfold State.toContext
  repeat' first
    | with_reducible rfl
    | simp (disch := decide) only [State.blur_ite, State.blur_with_red, State.bump_blur, State.ctxDrop_blur]
    | split

theorem State.acqCond_blur (s : State) (a0 : ℕ) (a1 : ℕ) (a2 : ℕ) {b : Nat} (hb : b &&& 0x2000000 = 0x2000000) : (State.acqCond s a0 a1 a2).blur b = s.blur b := by
  refine State.blur_mono ?_ hb
  unfold State.acqCond
  simp (disch := decide) only [State.blur_ite, ite_self, State.setAcq_blur]

theorem State.acqTdc_blur (s : State) (a0 : ℕ) (a1 : ℕ) (a2 : ℕ) {b : Nat} (hb : b &&& 0x2000000 = 0x2000000) : (State.acqTdc s a0 a1 a2).blur b = s.blur b := by
  refine State.blur_mono ?_ hb
  unfold State.acqTdc
  repeat' first
    | with_reducible rfl
    | simp (disch := decide) only [State.acqCond_blur]
    | with_reducible refine State.blur_when _ _ _ ?_
    | with_reducible refine State.blur_each _ _ _ (fun t n => ?_)

theorem State.tdcResult_blur (s : State) (a0 : ℕ) (a1 : ℕ) (a2 : Bool) (a3 : Bool) (a4 : Bool) (a5 : ℕ) (a6 : ℕ) {b : Nat} (hb : b &&& 0x13800070000000000000000000000000000000000000000000000000000000000000000000000000000000000000000000003800020 = 0x13800070000000000000000000000000000000000000000000000000000000000000000000000000000000000000000000003800020) : (State.tdcResult s a0 a1 a2 a3 a4 a5 a6).blur b = s.blur b := by
  refine State.blur_mono ?_ hb
  unfold State.tdcResult
  repeat' first
    | with_reducible rfl
    | simp (disch := decide) only [State.blur_ite, ite_self, State.wr_blur, State.setTdc_blur, State.tdcPush_blur, State.setCtx_blur, State.toContext_blur, State.acqTdc_blur]
    | with_reducible refine State.blur_when _ _ _ ?_
    | with_reducible refine (State.blur_when _ _ _ ?_).trans ?_

theorem State.syncRestart_blur (s : State) {b : Nat} (hb : b &&& 64 = 64) : (State.syncRestart s).blur b = s.blur b := by
  refine State.blur_mono ?_ hb
  unfold State.syncRestart
  simp (disch := decide) only [State.blur_with_time]

theorem State.setRsn_blur (s : State) (a0 : Req) (a1 : ℕ) (a2 : ℕ) {b : Nat} (hb : b &&& 1024 = 1024) : (State.setRsn s a0 a1 a2).blur b = s.blur b := by
  refine State.blur_mono ?_ hb
  unfold State.setRsn
  simp (disch := decide) only [State.blur_with_host]

theorem State.descStatus_blur (s : State) (a0 : ℕ) (a1 : ℕ) {b : Nat} (hb : b &&& 0x200000000000000000000000000000000000000000000000000000000000000000000000000000000000000000000000000000000000000000000000000000000000000000000000000000000000000000000000000000000000000000000000000000000000000000 = 0x200000000000000000000000000000000000000000000000000000000000000000000000000000000000000000000000000000000000000000000000000000000000000000000000000000000000000000000000000000000000000000000000000000000000000000) : (State.descStatus s a0 a1).blur b = s.blur b := by
  refine State.blur_mono ?_ hb
  unfold State.descStatus
  simp (disch := decide) only [State.wr_blur, State.send_blur]

theorem State.acqArming_blur (s : State) (a0 : ℕ) {b : Nat} (hb : b &&& 0x1000000000000000000000000000000000000000000000000000000000000000000000000000000000000000000000000000000002000000 = 0x1000000000000000000000000000000000000000000000000000000000000000000000000000000000000000000000000000000002000000) : (State.acqArming s a0).blur b = s.blur b := by
  refine State.blur_mono ?_ hb
  unfold State.acqArming
  simp (disch := decide) only [State.wr_blur, State.setAcq_blur]

theorem acqRptrHook_blur (a0 : Req) (a1 : ℕ) (a2 : ℕ) (a3 : ℕ) (s : State) {b : Nat} (hb : b &&& 0x40001000000000000000000000000000000000000000000000000000000000000000000000000000000000000000000000000000000002000000 = 0x40001000000000000000000000000000000000000000000000000000000000000000000000000000000000000000000000000000000002000000) : (acqRptrHook a0 a1 a2 a3 s).1.blur b = s.blur b := by
  refine State.blur_mono ?_ hb
  unfold acqRptrHook
  repeat' first
    | with_reducible rfl
    | simp (disch := decide) only [State.blur_ite_fst, State.wr_blur, State.acqArming_blur]
    | with_reducible refine State.blur_when _ _ _ ?_
    | with_reducible refine (State.blur_when _ _ _ ?_).trans ?_
    | split

theorem State.adcNextEntry_blur (s : State) (a0 : ℕ) {b : Nat} (hb : b &&& 0x180000000000000000000000000000000000000000000000000000000000000000000000000000000000000000000000000000000000000000000000000000000000000000000000000000000000000000000000000000000000000000002020 = 0x180000000000000000000000000000000000000000000000000000000000000000000000000000000000000000000000000000000000000000000000000000000000000000000000000000000000000000000000000000000000000000002020) : (State.adcNextEntry s a0).blur b = s.blur b := by
  refine State.blur_mono ?_ hb
  unfold State.adcNextEntry
  repeat' first
    | with_reducible rfl
    | simp (disch := decide) only [State.blur_ite, State.wr_blur, State.setAdc_blur, State.raise_blur]
    | with_reducible refine State.blur_when _ _ _ ?_
    | with_reducible refine (State.blur_when _ _ _ ?_).trans ?_
    | split

theorem State.adcPush_blur (s : State) (a0 : ℕ) (a1 : FifoRes) {b : Nat} (hb : b &&& 0x200400000000000000000000000000000000000000000000000000000000000000000000000000000000000000000000000000000000000000000000000000000000000000000000000000000000000000000000000000000000000000000002020 = 0x200400000000000000000000000000000000000000000000000000000000000000000000000000000000000000000000000000000000000000000000000000000000000000000000000000000000000000000000000000000000000000000002020) : (State.adcPush s a0 a1).blur b = s.blur b := by
  refine State.blur_mono ?_ hb
  unfold State.adcPush
  repeat' first
    | with_reducible rfl
    | simp (disch := decide) only [State.blur_ite, State.wr_blur, State.setAdc_blur, State.bump_blur, State.raise_blur]
    | with_reducible refine State.blur_when _ _ _ ?_
    | with_reducible refine (State.blur_when _ _ _ ?_).trans ?_
    | split

theorem State.adcDeliver_blur (s : State) (a0 : ℕ) (a1 : Mean) {b : Nat} (hb : b &&& 0x200400000000000000000000000000000000000000000000000000000000000000000000000000000000000000000070000000000000000000000000000000000000000000000000000000000000000000000000000000000000000000003002020 = 0x200400000000000000000000000000000000000000000000000000000000000000000000000000000000000000000070000000000000000000000000000000000000000000000000000000000000000000000000000000000000000000003002020) : (State.adcDeliver s a0 a1).blur b = s.blur b := by
  refine State.blur_mono ?_ hb
  unfold State.adcDeliver
  repeat' first
    | with_reducible rfl
    | simp (disch := decide) only [State.adcPush_blur, State.toContext_blur, State.acqOffer_blur]
    | with_reducible refine State.blur_when _ _ _ ?_
    | with_reducible refine (State.blur_when _ _ _ ?_).trans ?_

theorem State.adcStep_blur (s : State) (a0 : ℕ) (a1 : ℕ) (a2 : ℕ) {b : Nat} (hb : b &&& 0x200580000000000000000000000000000000000000000000000000000000000000000000000000000000000000000070000000000000000000000000000000000000000000000000000000000000000000000000000000000000000000003002020 = 0x200580000000000000000000000000000000000000000000000000000000000000000000000000000000000000000070000000000000000000000000000000000000000000000000000000000000000000000000000000000000000000003002020) : (State.adcStep s a0 a1 a2).1.blur b = s.blur b := by
  refine State.blur_mono ?_ hb
  unfold State.adcStep
  simp (disch := decide) only [State.blur_ite_fst, ite_self, State.setAdc_blur, State.adcNextEntry_blur, State.adcDeliver_blur]

theorem flsLockHook_blur (a0 : Req) (a1 : ℕ) (a2 : ℕ) (a3 : ℕ) (s : State) {b : Nat} (hb : b &&& 0x6000000000000000000000000000000000000000000000000000000000000000000000000000000000000000000000000000000000000000000000000000000000000000000000000000000 = 0x6000000000000000000000000000000000000000000000000000000000000000000000000000000000000000000000000000000000000000000000000000000000000000000000000000000) : (flsLockHook a0 a1 a2 a3 s).1.blur b = s.blur b := by
  refine State.blur_mono ?_ hb
  unfold flsLockHook
  repeat' first
    | with_reducible rfl
    | simp (disch := decide) only [State.blur_ite, State.blur_ite_fst, ite_self, State.wr_blur]
    | with_reducible refine State.blur_when _ _ _ ?_
    | with_reducible refine (State.blur_when _ _ _ ?_).trans ?_
    | split

theorem tdcCtxHook_blur (a0 : Req) (a1 : ℕ) (a2 : ℕ) (a3 : ℕ) (s : State) {b : Nat} (hb : b &&& 0x80000000000000000000000000000000000000000000000000000000000000000000000000000000000000000000000000000000 = 0x80000000000000000000000000000000000000000000000000000000000000000000000000000000000000000000000000000000) : (tdcCtxHook a0 a1 a2 a3 s).1.blur b = s.blur b := by
  refine State.blur_mono ?_ hb
  unfold tdcCtxHook
  simp (disch := decide) only [State.blur_ite_fst, ite_self, writeWord_blur]

theorem acqCfgHook_blur (a0 : Reg) (a1 : Req) (a2 : ℕ) (a3 : ℕ) (a4 : ℕ) (s : State) {b : Nat} (hb : b &&& 0 = 0) (hf : ∀ f ∈ a0.fields, f.acc.writes = true → b.testBit (32 + f.key % 1024) = true) : (acqCfgHook a0 a1 a2 a3 a4 s).1.blur b = s.blur b := by
  unfold acqCfgHook
  simp (disch := first | decide | exact hf | (apply and_parts hb; decide) | (apply testBit_of_and hb; decide)) only [State.blur_ite_fst, ite_self, writeWord_blur]

theorem State.cntNano_blur (s : State) (a0 : ℕ) (a1 : ℕ) (a2 : ℕ) {b : Nat} (hb : b &&& 0x800000000000000000000000000000000000000000000000000000000000000000000000000000000000000000000000000000000000000000000000000000000000000000000000000000000000000000000000000 = 0x800000000000000000000000000000000000000000000000000000000000000000000000000000000000000000000000000000000000000000000000000000000000000000000000000000000000000000000000000) : (State.cntNano s a0 a1 a2).blur b = s.blur b := by
  refine State.blur_mono ?_ hb
  unfold State.cntNano
  repeat' first
    | with_reducible rfl
    | simp (disch := decide) only [State.wr_blur]
    | split

theorem State.tdcStop_blur (s : State) (a0 : ℕ) (a1 : ℕ) (a2 : ℕ) {b : Nat} (hb : b &&& 0x13800070000000000000000000000000000000000000000000000000000000000000000000000000000000000000000000003800020 = 0x13800070000000000000000000000000000000000000000000000000000000000000000000000000000000000000000000003800020) : (State.tdcStop s a0 a1 a2).blur b = s.blur b := by
  refine State.blur_mono ?_ hb
  unfold State.tdcStop
  simp (disch := decide) only [State.blur_ite, ite_self, State.tdcResult_blur]

theorem State.tdcStartAt_blur (s : State) (a0 : ℕ) (a1 : ℕ) {b : Nat} (hb : b &&& 0x1f800070000000000000000000000000000000000000000000000000000000000000000000000000000000000000000000003800020 = 0x1f800070000000000000000000000000000000000000000000000000000000000000000000000000000000000000000000003800020) : (State.tdcStartAt s a0 a1).blur b = s.blur b := by
  refine State.blur_mono ?_ hb
  unfold State.tdcStartAt
  repeat' first
    | with_reducible rfl
    | simp (disch := decide) only [State.blur_ite, ite_self, State.wr_blur, State.setTdc_blur, State.tdcStop_blur, State.bump_blur]
    | with_reducible refine State.blur_when _ _ _ ?_
    | with_reducible refine (State.blur_when _ _ _ ?_).trans ?_
    | split

theorem State.tdcClose_blur (s : State) (a0 : ℕ) (a1 : ℕ) {b : Nat} (hb : b &&& 0x13800070000000000000000000000000000000000000000000000000000000000000000000000000000000000000000000003800020 = 0x13800070000000000000000000000000000000000000000000000000000000000000000000000000000000000000000000003800020) : (State.tdcClose s a0 a1).blur b = s.blur b := by
  refine State.blur_mono ?_ hb
  unfold State.tdcClose
  simp (disch := decide) only [State.blur_ite, ite_self, State.tdcResult_blur]

theorem State.tdcStopAt_blur (s : State) (a0 : ℕ) (a1 : ℕ) {b : Nat} (hb : b &&& 0x17800070000000000000000000000000000000000000000000000000000000000000000000000000000000000000000000003800020 = 0x17800070000000000000000000000000000000000000000000000000000000000000000000000000000000000000000000003800020) : (State.tdcStopAt s a0 a1).blur b = s.blur b := by
  refine State.blur_mono ?_ hb
  unfold State.tdcStopAt
  repeat' first
    | with_reducible rfl
    | simp (disch := decide) only [State.blur_ite, ite_self, State.bump_blur, State.setTdc_blur, State.tdcClose_blur, State.tdcStop_blur]
    | split

theorem State.tdcPresent_blur (s : State) (a0 : List ℕ) (a1 : ℕ) (a2 : Bool) (a3 : ℕ) {b : Nat} (hb : b &&& 0x1f800070000000000000000000000000000000000000000000000000000000000000000000000000000000000000000000003800020 = 0x1f800070000000000000000000000000000000000000000000000000000000000000000000000000000000000000000000003800020) : (State.tdcPresent s a0 a1 a2 a3).blur b = s.blur b := by
  refine State.blur_mono ?_ hb
  unfold State.tdcPresent
  repeat' first
    | with_reducible rfl
    | simp (disch := decide) only [State.tdcStartAt_blur, State.tdcStopAt_blur]
    | with_reducible refine State.blur_when _ _ _ ?_
    | with_reducible refine State.blur_each _ _ _ (fun t n => ?_)
    | with_reducible refine State.blur_foldl _ _ _ (fun t n => ?_)
    | with_reducible refine (State.blur_when _ _ _ ?_).trans ?_

theorem State.trigger_blur (s : State) (a0 : ℕ) {b : Nat} (hb : b &&& 0x800000000000000000000000000000000000000000000000000000000000000000000000000000000000000000000000000000000000000000000000000000000000000000000000000000000011000 = 0x800000000000000000000000000000000000000000000000000000000000000000000000000000000000000000000000000000000000000000000000000000000000000000000000000000000011000) : (State.trigger s a0).blur b = s.blur b := by
  refine State.blur_mono ?_ hb
  unfold State.trigger
  repeat' first
    | with_reducible rfl
    | simp (disch := decide) only [State.blur_ite, ite_self, State.calTouch_blur, State.setDac_blur]
    | with_reducible refine State.blur_when _ _ _ ?_

theorem State.adcTrigger_blur (s : State) (a0 : ℕ) {b : Nat} (hb : b &&& 0x380000000000000000000000000000000800000000000000000000000000000000000000000000000000000000000000000000000000000000000000000000000000000000000000000000000000000000000000000000000000000000012000 = 0x380000000000000000000000000000000800000000000000000000000000000000000000000000000000000000000000000000000000000000000000000000000000000000000000000000000000000000000000000000000000000000012000) : (State.adcTrigger s a0).blur b = s.blur b := by
  refine State.blur_mono ?_ hb
  unfold State.adcTrigger
  simp (disch := decide) only [State.blur_ite, ite_self, State.bump_blur, State.calTouch_blur, State.wr_blur, State.setAdc_blur]

theorem State.strobe_blur (s : State) (a0 : ℕ) (a1 : ℕ) {b : Nat} (hb : b &&& 0x380000000000000000000000000000000800000000000000000000000000000000000000000000000000000000000000000000000000000000000000000000000000000000000000000000000000000000000000000000000000000000013000 = 0x380000000000000000000000000000000800000000000000000000000000000000000000000000000000000000000000000000000000000000000000000000000000000000000000000000000000000000000000000000000000000000013000) : (State.strobe s a0 a1).blur b = s.blur b := by
  refine State.blur_mono ?_ hb
  unfold State.strobe
  repeat' first
    | with_reducible rfl
    | simp (disch := decide) only [State.trigger_blur, State.adcTrigger_blur]
    | with_reducible refine State.blur_each _ _ _ (fun t n => ?_)
    | with_reducible refine (State.blur_each _ _ _ (fun t n => ?_)).trans ?_

theorem State.tdcArm_blur (s : State) (a0 : ℕ) {b : Nat} (hb : b &&& 0x800000000000000000000000000000000000000000000000000001800000000000000000000000000000000000000000000000000000000000000000000000000000000000000000000000000810000 = 0x800000000000000000000000000000000000000000000000000001800000000000000000000000000000000000000000000000000000000000000000000000000000000000000000000000000810000) : (State.tdcArm s a0).blur b = s.blur b := by
  refine State.blur_mono ?_ hb
  unfold State.tdcArm
  simp (disch := decide) only [State.blur_ite, ite_self, State.calTouch_blur, State.wr_blur, State.setTdc_blur]

theorem State.acqMarkAt_blur (s : State) (a0 : ℕ) (a1 : ℕ) (a2 : ℕ) {b : Nat} (hb : b &&& 0x2000000 = 0x2000000) : (State.acqMarkAt s a0 a1 a2).blur b = s.blur b := by
  refine State.blur_mono ?_ hb
  unfold State.acqMarkAt
  simp (disch := decide) only [State.setAcq_blur]

theorem State.acqMark_blur (s : State) (a0 : ℕ) (a1 : ℕ) (a2 : ℕ) {b : Nat} (hb : b &&& 0x2000000 = 0x2000000) : (State.acqMark s a0 a1 a2).blur b = s.blur b := by
  refine State.blur_mono ?_ hb
  unfold State.acqMark
  repeat' first
    | with_reducible rfl
    | simp (disch := decide) only [State.acqCond_blur]
    | with_reducible refine State.blur_when _ _ _ ?_
    | with_reducible refine State.blur_each _ _ _ (fun t n => ?_)

theorem State.nanoShots_blur (s : State) (a0 : ℕ) (a1 : ℕ) {b : Nat} (hb : b &&& 0x38000000000000000000080000000000080000000000000000000000000000000000000000000000000001f800070000000000000000000000000000000000000000000000000000000000000000000000000000000000000000000003813020 = 0x38000000000000000000080000000000080000000000000000000000000000000000000000000000000001f800070000000000000000000000000000000000000000000000000000000000000000000000000000000000000000000003813020) : (State.nanoShots s a0 a1).blur b = s.blur b := by
  refine State.blur_mono ?_ hb
  unfold State.nanoShots
  repeat' first
    | with_reducible rfl
    | simp (disch := decide) only [State.blur_ite, ite_self, State.cntNano_blur, State.raise_blur, State.tdcPresent_blur, State.strobe_blur, State.tdcDisarm_blur, State.tdcArm_blur, State.acqMarkAt_blur, State.acqMark_blur]
    | with_reducible refine State.blur_when _ _ _ ?_
    | with_reducible refine State.blur_each _ _ _ (fun t n => ?_)
    | with_reducible refine State.blur_foldl _ _ _ (fun t n => ?_)
    | with_reducible refine (State.blur_when _ _ _ ?_).trans ?_
    | with_reducible refine (State.blur_each _ _ _ (fun t n => ?_)).trans ?_
    | with_reducible refine (State.blur_foldl _ _ _ (fun t n => ?_)).trans ?_
    | with_reducible refine State.blur_foldl_fst _ _ _ _ (fun t n => ?_)
    | with_reducible refine (State.blur_foldl_fst _ _ _ _ (fun t n => ?_)).trans ?_
    | split

theorem State.issueNano_blur (s : State) (a0 : ℕ) (a1 : ℕ) {b : Nat} (hb : b &&& 0x38000000000000000000080000000000080000000000000000000000000000000000000000000000000001f800070000000000000000000000000000000000000000000000000000000000000000000000000000000000000000000003913020 = 0x38000000000000000000080000000000080000000000000000000000000000000000000000000000000001f800070000000000000000000000000000000000000000000000000000000000000000000000000000000000000000000003913020) : (State.issueNano s a0 a1).blur b = s.blur b := by
  refine State.blur_mono ?_ hb
  unfold State.issueNano
  simp (disch := decide) only [State.blur_ite, ite_self, State.nanoShots_blur, State.setPlay_blur]

theorem State.quals_blur (s : State) {b : Nat} (hb : b &&& 96 = 96) : (State.quals s).blur b = s.blur b := by
  refine State.blur_mono ?_ hb
  unfold State.quals
  simp (disch := decide) only [State.blur_ite, ite_self, State.blur_with_time, State.raise_blur]

theorem State.rangeChange_blur (s : State) (a0 : ℕ) {b : Nat} (hb : b &&& 0x800000000000000000000000000000000000000000000000000000000000000000000000000000000000000000000000000000000000000000000000000000000000000000000000000000000011000 = 0x800000000000000000000000000000000000000000000000000000000000000000000000000000000000000000000000000000000000000000000000000000000000000000000000000000000011000) : (State.rangeChange s a0).blur b = s.blur b := by
  refine State.blur_mono ?_ hb
  unfold State.rangeChange
  repeat' first
    | with_reducible rfl
    | simp (disch := decide) only [State.calTouch_blur, State.setDac_blur]
    | with_reducible refine State.blur_when _ _ _ ?_

theorem State.smuModeSet_blur (s : State) (a0 : ℕ) (a1 : ℕ) (a2 : ℕ) {b : Nat} (hb : b &&& 0x1000000000000000000000000000000000402000000800000000000000000000000000000000000000000000000000000000000000000000000000000000000000000000000000000000000000000000000000000000000000000000000000000000011000 = 0x1000000000000000000000000000000000402000000800000000000000000000000000000000000000000000000000000000000000000000000000000000000000000000000000000000000000000000000000000000000000000000000000000000011000) : (State.smuModeSet s a0 a1 a2).blur b = s.blur b := by
  refine State.blur_mono ?_ hb
  unfold State.smuModeSet
  repeat' first
    | with_reducible rfl
    | simp (disch := decide) only [State.wr_blur, State.rangeChange_blur]
    | with_reducible refine State.blur_when _ _ _ ?_
    | with_reducible refine (State.blur_when _ _ _ ?_).trans ?_

theorem State.clearFail_blur (s : State) (a0 : ℕ) {b : Nat} (hb : b &&& 0x3f4000000000000000000000000000000000000000000000000000000000000000000000000000000100000 = 0x3f4000000000000000000000000000000000000000000000000000000000000000000000000000000100000) : (State.clearFail s a0).blur b = s.blur b := by
  refine State.blur_mono ?_ hb
  unfold State.clearFail
  simp (disch := decide) only [List.foldl_cons, List.foldl_nil, State.wr_blur, State.setPlay_blur]

theorem adcCtlHook_blur (a0 : Req) (a1 : ℕ) (a2 : ℕ) (a3 : ℕ) (s : State) {b : Nat} (hb : b &&& 0x39e000000000000000000000000000000800000000000000000000000000000000000000000000000000000000000000000000000000000000000000000000000000000000000000000000000000000000000000000000000000000000012000 = 0x39e000000000000000000000000000000800000000000000000000000000000000000000000000000000000000000000000000000000000000000000000000000000000000000000000000000000000000000000000000000000000000012000) : (adcCtlHook a0 a1 a2 a3 s).1.blur b = s.blur b := by
  refine State.blur_mono ?_ hb
  unfold adcCtlHook
  repeat' first
    | with_reducible rfl
    | simp (disch := decide) only [State.blur_ite_fst, State.wr_blur, State.setAdc_blur, writeWord_blur, State.adcTrigger_blur]
    | with_reducible refine State.blur_when _ _ _ ?_
    | with_reducible refine (State.blur_when _ _ _ ?_).trans ?_
    | split

theorem State.ringLow_blur (s : State) (a0 : ℕ) (a1 : Bool) {b : Nat} (hb : b &&& 0x100020 = 0x100020) : (State.ringLow s a0 a1).blur b = s.blur b := by
  refine State.blur_mono ?_ hb
  unfold State.ringLow
  simp (disch := decide) only [State.blur_ite, ite_self, State.raise_blur, State.setPlay_blur]

theorem State.ringReset_blur (s : State) (a0 : ℕ) {b : Nat} (hb : b &&& 0x8000000c0000000000000000000000000000000000000000000000000000000000000000100020 = 0x8000000c0000000000000000000000000000000000000000000000000000000000000000100020) : (State.ringReset s a0).blur b = s.blur b := by
  refine State.blur_mono ?_ hb
  unfold State.ringReset
  repeat' first
    | with_reducible rfl
    | simp (disch := decide) only [State.wr_blur, State.ringLow_blur]
    | with_reducible refine State.blur_each _ _ _ (fun t n => ?_)
    | with_reducible refine (State.blur_each _ _ _ (fun t n => ?_)).trans ?_

theorem storeCfgHook_blur (a0 : Req) (a1 : ℕ) (a2 : ℕ) (a3 : ℕ) (s : State) {b : Nat} (hb : b &&& 0x8000000c0008000000078000000000000000000000000000000000000000000000000000100020 = 0x8000000c0008000000078000000000000000000000000000000000000000000000000000100020) : (storeCfgHook a0 a1 a2 a3 s).1.blur b = s.blur b := by
  refine State.blur_mono ?_ hb
  unfold storeCfgHook
  simp (disch := decide) only [State.blur_ite_fst, ite_self, writeFields_blur, State.ringReset_blur, State.wr_blur]

theorem State.release_blur (s : State) (a0 : ℕ) {b : Nat} (hb : b &&& 32 = 32) : (State.release s a0).blur b = s.blur b := by
  refine State.blur_mono ?_ hb
  unfold State.release
  simp (disch := decide) only [State.blur_ite, ite_self, State.setSrc_blur]

theorem State.calAfter_blur (s : State) (a0 : ℕ) {b : Nat} (hb : b &&& 0x40000000000000000000000000000000000000000000000000000000000000000000000000000000000000000000000000000000000000000000000000000000000000000000000000000010000 = 0x40000000000000000000000000000000000000000000000000000000000000000000000000000000000000000000000000000000000000000000000000000000000000000000000000000010000) : (State.calAfter s a0).blur b = s.blur b := by
  refine State.blur_mono ?_ hb
  unfold State.calAfter
  simp (disch := decide) only [State.blur_ite, ite_self, State.calStart_blur, State.wr_blur]

theorem State.calComplete_blur (s : State) (a0 : ℕ) {b : Nat} (hb : b &&& 0x78c40000000000000000000000000000000000000000000000000000000000000000000000000000000000000000000000000000000000000000000000000000000000000000000000000000010020 = 0x78c40000000000000000000000000000000000000000000000000000000000000000000000000000000000000000000000000000000000000000000000000000000000000000000000000000010020) : (State.calComplete s a0).blur b = s.blur b := by
  refine State.blur_mono ?_ hb
  unfold State.calComplete
  simp (disch := decide) only [State.setCal_blur, State.wr_blur, State.calAfter_blur, State.wb_blur, State.raise_blur]

theorem State.calGo_blur (s : State) (a0 : ℕ) {b : Nat} (hb : b &&& 0x78c40000000000000000000000000000000000000000000000000000000000000000000000000000000000000000000000000000000000000000000000000000000000000000000000000000010020 = 0x78c40000000000000000000000000000000000000000000000000000000000000000000000000000000000000000000000000000000000000000000000000000000000000000000000000000010020) : (State.calGo s a0).blur b = s.blur b := by
  refine State.blur_mono ?_ hb
  unfold State.calGo
  simp (disch := decide) only [State.blur_ite, ite_self, State.setCal_blur, State.calComplete_blur, State.calNext_blur]

theorem State.calResult_blur (s : State) (a0 : ℕ) (a1 : ℕ) (a2 : ℕ) (a3 : ℕ) {b : Nat} (hb : b &&& 524288 = 524288) : (State.calResult s a0 a1 a2 a3).blur b = s.blur b := by
  refine State.blur_mono ?_ hb
  unfold State.calResult
  simp (disch := decide) only [State.blur_with_results]

theorem State.calSkip_blur (s : State) (a0 : ℕ) (a1 : ℕ) (a2 : ℕ) (a3 : ℕ) {b : Nat} (hb : b &&& 0x304000000000000000000000000000000000000000000000000000000000000000000000000000000000000000000000000000000000000000000000000000001000000000000000000004000000800a0 = 0x304000000000000000000000000000000000000000000000000000000000000000000000000000000000000000000000000000000000000000000000000000001000000000000000000004000000800a0) : (State.calSkip s a0 a1 a2 a3).blur b = s.blur b := by
  refine State.blur_mono ?_ hb
  unfold State.calSkip
  simp (disch := decide) only [State.wr_blur, State.bump_blur, State.calResult_blur, State.shard_blur, State.raise_blur]

theorem State.calSpineFail_blur (s : State) (a0 : ℕ) (a1 : ℕ) (a2 : ℕ) {b : Nat} (hb : b &&& 0x30479c400000000000000000000000000000000000000000000000000000000000000000000000000000000000000000000000000000000000000000000000001000000000000000000004000000900a0 = 0x30479c400000000000000000000000000000000000000000000000000000000000000000000000000000000000000000000000000000000000000000000000001000000000000000000004000000900a0) : (State.calSpineFail s a0 a1 a2).blur b = s.blur b := by
  refine State.blur_mono ?_ hb
  unfold State.calSpineFail
  simp (disch := decide) only [State.blur_ite, ite_self, State.setCal_blur, State.calAfter_blur, State.shard_blur, State.wr_blur, State.calGo_blur, State.calSkip_blur]

theorem State.releaseHolder_blur (s : State) (a0 : ℕ) {b : Nat} (hb : b &&& 32 = 32) : (State.releaseHolder s a0).blur b = s.blur b := by
  refine State.blur_mono ?_ hb
  unfold State.releaseHolder
  repeat' first
    | with_reducible rfl
    | simp (disch := decide) only [State.release_blur]
    | with_reducible refine State.blur_when _ _ _ ?_
    | with_reducible refine State.blur_each _ _ _ (fun t n => ?_)

theorem State.arrive_blur (s : State) (a0 : ℕ) (a1 : ℕ) {b : Nat} (hb : b &&& 32 = 32) : (State.arrive s a0 a1).blur b = s.blur b := by
  refine State.blur_mono ?_ hb
  unfold State.arrive
  simp (disch := decide) only [State.blur_ite, ite_self, State.setSrc_blur]

theorem State.blockedCheck_blur (s : State) (a0 : ℕ) {b : Nat} (hb : b &&& 0x40000000000000000000000000000000000000000000000000000000000000000000000000000000000000000000000000000000000000000000000000000000000000000000000000000000000000000000000000000000000000000 = 0x40000000000000000000000000000000000000000000000000000000000000000000000000000000000000000000000000000000000000000000000000000000000000000000000000000000000000000000000000000000000000000) : (State.blockedCheck s a0).blur b = s.blur b := by
  refine State.blur_mono ?_ hb
  unfold State.blockedCheck
  repeat' first
    | with_reducible rfl
    | simp (disch := decide) only [State.wr_blur]
    | with_reducible refine State.blur_when _ _ _ ?_

theorem State.unsettle_blur (s : State) (a0 : ℕ) (a1 : Bool) (a2 : Bool) {b : Nat} (hb : b &&& 2048 = 2048) : (State.unsettle s a0 a1 a2).blur b = s.blur b := by
  refine State.blur_mono ?_ hb
  unfold State.unsettle
  simp (disch := decide) only [State.setLane_blur]

theorem State.gapReturn_blur (s : State) (a0 : ℕ) {b : Nat} (hb : b &&& 0x40000000000000000000000000000000000000000000000000000000000000000000000000000000000000000000000000000000000000000000000000000000000000000000000000000000000000000000000000000000000000800 = 0x40000000000000000000000000000000000000000000000000000000000000000000000000000000000000000000000000000000000000000000000000000000000000000000000000000000000000000000000000000000000000800) : (State.gapReturn s a0).blur b = s.blur b := by
  refine State.blur_mono ?_ hb
  unfold State.gapReturn
  repeat' first
    | with_reducible rfl
    | simp (disch := decide) only [State.blockedCheck_blur, State.unsettle_blur]
    | with_reducible refine State.blur_when _ _ _ ?_

theorem State.gapEnd_blur (s : State) (a0 : ℕ) {b : Nat} (hb : b &&& 0x40000000000000000000000000800000000000000000000000000000000000000000000000000000000000000000000000000000000000000000000000000000000000000000000000000000000000000000000000000000000010800 = 0x40000000000000000000000000800000000000000000000000000000000000000000000000000000000000000000000000000000000000000000000000000000000000000000000000000000000000000000000000000000000010800) : (State.gapEnd s a0).blur b = s.blur b := by
  refine State.blur_mono ?_ hb
  unfold State.gapEnd
  repeat' first
    | with_reducible rfl
    | simp (disch := decide) only [State.calTouch_blur, State.gapReturn_blur]
    | with_reducible refine State.blur_when _ _ _ ?_

theorem State.place'_blur (s : State) (a0 : ℕ) (a1 : Edge) {b : Nat} (hb : b &&& 2048 = 2048) : (State.place' s a0 a1).blur b = s.blur b := by
  refine State.blur_mono ?_ hb
  unfold State.place'
  simp (disch := decide) only [State.setLane_blur]

theorem State.laneVector_blur (s : State) (a0 : ℕ) (a1 : ℕ) (a2 : Vec) {b : Nat} (hb : b &&& 0x40000000000000000000000000800000000000000000000000000000000000000000000000000000000000000000000000000000000000000000000000024000000000000000000000000000000000000000000000000000000010800 = 0x40000000000000000000000000800000000000000000000000000000000000000000000000000000000000000000000000000000000000000000000000024000000000000000000000000000000000000000000000000000000010800) : (State.laneVector s a0 a1 a2).1.blur b = s.blur b := by
  refine State.blur_mono ?_ hb
  unfold State.laneVector
  extract_lets l o p m dnrz filled raw x
  split
  extract_lets s1 drives masked compares cap busy s2 x2 s3
  have h1 : s1.blur 0x40000000000000000000000000800000000000000000000000000000000000000000000000000000000000000000000000000000000000000000000000024000000000000000000000000000000000000000000000000000000010800 = s.blur 0x40000000000000000000000000800000000000000000000000000000000000000000000000000000000000000000000000000000000000000000000000024000000000000000000000000000000000000000000000000000000010800 := State.blur_when _ _ _ (by simp (disch := decide) only [State.bump_blur, State.wr_blur])
  have h2 : s2.blur 0x40000000000000000000000000800000000000000000000000000000000000000000000000000000000000000000000000000000000000000000000000024000000000000000000000000000000000000000000000000000000010800 = s1.blur 0x40000000000000000000000000800000000000000000000000000000000000000000000000000000000000000000000000000000000000000000000000024000000000000000000000000000000000000000000000000000000010800 := State.blur_when _ _ _ (State.gapEnd_blur _ _ (by decide))
  have h3 : s3.blur 0x40000000000000000000000000800000000000000000000000000000000000000000000000000000000000000000000000000000000000000000000000024000000000000000000000000000000000000000000000000000000010800 = s.blur 0x40000000000000000000000000800000000000000000000000000000000000000000000000000000000000000000000000000000000000000000000000024000000000000000000000000000000000000000000000000000000010800 := (State.setLane_blur _ _ _ (by decide)).trans (h2.trans h1)
  split
  · exact h3
  · dsimp only
    refine (State.blur_foldl _ _ _ fun t n => State.place'_blur _ _ _ (by decide)).trans ?_
    exact (State.blur_when _ _ _ (State.setLane_blur _ _ _ (by decide))).trans h3

theorem State.placeVector_blur (s : State) (a0 : ℕ) (a1 : Vec) {b : Nat} (hb : b &&& 0x40000000000000000000000000800000000000000000000000000000000000000000000000000000000000000000000000000000060000000000000000024000010000000000000000000000000000000000000000000000000110800 = 0x40000000000000000000000000800000000000000000000000000000000000000000000000000000000000000000000000000000060000000000000000024000010000000000000000000000000000000000000000000000000110800) : (State.placeVector s a0 a1).blur b = s.blur b := by
  refine State.blur_mono ?_ hb
  have hf : ∀ (l : List Nat) (p : State × Nat), (l.foldl (fun a i => let (s, c) := a.1.laneVector a0 i a1; (s, a.2 + b2n c * 2 ^ i)) p).1.blur 0x40000000000000000000000000800000000000000000000000000000000000000000000000000000000000000000000000000000060000000000000000024000010000000000000000000000000000000000000000000000000110800 = p.1.blur 0x40000000000000000000000000800000000000000000000000000000000000000000000000000000000000000000000000000000060000000000000000024000010000000000000000000000000000000000000000000000000110800 := by
    intro l
    induction l with
    | nil => exact fun _ => rfl
    | cons x r ih => exact fun p => (ih _).trans (State.laneVector_blur _ _ _ _ rfl)
  have h0 := hf (List.range 64) (s, 0)
  unfold State.placeVector
  split
  rename_i heq
  rw [heq] at h0
  refine Eq.trans ?_ h0
  simp (disch := decide) only [State.setPlay_blur, State.wr_blur]
  refine State.blur_when _ _ _ ?_
  simp (disch := decide) only [State.setPlay_blur]
  exact State.blur_each _ _ _ fun t n => State.place'_blur _ _ _ rfl

theorem tsStageHook_blur (a0 : Reg) (a1 : Req) (a2 : ℕ) (a3 : ℕ) (a4 : ℕ) (s : State) {b : Nat} (hb : b &&& 0 = 0) (hf : ∀ f ∈ a0.fields, f.acc.writes = true → b.testBit (32 + f.key % 1024) = true) : (tsStageHook a0 a1 a2 a3 a4 s).1.blur b = s.blur b := by
  unfold tsStageHook
  simp (disch := first | decide | exact hf | (apply and_parts hb; decide) | (apply testBit_of_and hb; decide)) only [State.blur_ite_fst, ite_self, writeWord_blur]

theorem State.readCopy_blur (s : State) (a0 : ℕ) {b : Nat} (hb : b &&& 0x2000000000000000000000000000000000000000000000000000000000000000000000000000000000000000000000000000000000000000000000000000000000000000000000000000008 = 0x2000000000000000000000000000000000000000000000000000000000000000000000000000000000000000000000000000000000000000000000000000000000000000000000000000008) : (State.readCopy s a0).blur b = s.blur b := by
  refine State.blur_mono ?_ hb
  unfold State.readCopy
  simp (disch := decide) only [State.blur_with_m, State.wr_blur]

theorem State.setMode_blur (s : State) (a0 : Mode) {b : Nat} (hb : b &&& 40 = 40) : (State.setMode s a0).blur b = s.blur b := by
  refine State.blur_mono ?_ hb
  unfold State.setMode
  simp (disch := decide) only [State.blur_with_m, State.raise_blur]

theorem State.flashBoot_blur (s : State) {b : Nat} (hb : b &&& 0x200000000000000000000000000000000000000000000000000000000000000000000000000000000000000000000000000000000000000000000000000000000000000c080000000000028 = 0x200000000000000000000000000000000000000000000000000000000000000000000000000000000000000000000000000000000000000000000000000000000000000c080000000000028) : (State.flashBoot s).blur b = s.blur b := by
  refine State.blur_mono ?_ hb
  unfold State.flashBoot
  simp (disch := decide) only [State.wr_blur, State.readCopy_blur, State.setMode_blur]

theorem State.tryBoot_blur (s : State) {b : Nat} (hb : b &&& 0x200000000000000000000000000000000000000000000000000000000000000000000000000000000000000000000000000000000000000000000000000000000000000c080000000000028 = 0x200000000000000000000000000000000000000000000000000000000000000000000000000000000000000000000000000000000000000000000000000000000000000c080000000000028) : (State.tryBoot s).blur b = s.blur b := by
  refine State.blur_mono ?_ hb
  unfold State.tryBoot
  repeat' first
    | with_reducible rfl
    | simp (disch := decide) only [State.blur_ite, State.blur_with_m, State.flashBoot_blur]
    | with_reducible refine State.blur_when _ _ _ ?_
    | with_reducible refine (State.blur_when _ _ _ ?_).trans ?_
    | split

theorem State.locked_blur (s : State) {b : Nat} (hb : b &&& 0x77fffff80001007040000000000007007ffffe1000008000000020000000000000000000000000000000000000000ffffffff007ffffffffffff80000000000000000000000000000000000000001f700018000000107f0700000000000c09040000081b3e8 = 0x77fffff80001007040000000000007007ffffe1000008000000020000000000000000000000000000000000000000ffffffff007ffffffffffff80000000000000000000000000000000000000001f700018000000107f0700000000000c09040000081b3e8) : (State.locked s).blur b = s.blur b := by
  refine State.blur_mono ?_ hb
  unfold State.locked
  repeat' first
    | with_reducible rfl
    | simp (disch := decide) only [State.blur_with_m, State.raise_blur, State.wr_blur, State.quals_blur, State.tryBoot_blur, State.startStep_blur]
    | with_reducible refine State.blur_when _ _ _ ?_
    | with_reducible refine (State.blur_when _ _ _ ?_).trans ?_

theorem State.glaze_blur (s : State) (a0 : ℕ) (a1 : ℕ) {b : Nat} (hb : b &&& 131072 = 131072) : (State.glaze s a0 a1).blur b = s.blur b := by
  refine State.blur_mono ?_ hb
  unfold State.glaze
  simp (disch := decide) only [State.blur_ite, ite_self, State.blur_with_trims]

theorem State.rowBlock_blur (s : State) (a0 : ℕ) (a1 : ℕ) (a2 : List ℕ) {b : Nat} (hb : b &&& 0x200000 = 0x200000) : (State.rowBlock s a0 a1 a2).blur b = s.blur b := by
  refine State.blur_mono ?_ hb
  unfold State.rowBlock
  simp (disch := decide) only [State.setStore_blur]

theorem State.acqForce_blur (s : State) (a0 : ℕ) {b : Nat} (hb : b &&& 0x2000000 = 0x2000000) : (State.acqForce s a0).blur b = s.blur b := by
  refine State.blur_mono ?_ hb
  unfold State.acqForce
  simp (disch := decide) only [State.blur_ite, ite_self, State.setAcq_blur]

theorem State.prefetch_blur (s : State) (a0 : ℕ) (a1 : ℕ) {b : Nat} (hb : b &&& 0x10000000 = 0x10000000) : (State.prefetch s a0 a1).blur b = s.blur b := by
  refine State.blur_mono ?_ hb
  unfold State.prefetch
  repeat' first
    | with_reducible rfl
    | simp (disch := decide) only [State.blur_ite, ite_self, State.blur_with_flash, State.send_blur]
    | split

theorem State.winRead_blur (s : State) (a0 : ℕ) (a1 : ℕ) {b : Nat} (hb : b &&& 0xa0000000000000000000000000000000000000000000000000000000000000000000000000000000000000000000000000000000000000000000000000000000000000000000000010000000 = 0xa0000000000000000000000000000000000000000000000000000000000000000000000000000000000000000000000000000000000000000000000000000000000000000000000010000000) : (State.winRead s a0 a1).1.blur b = s.blur b := by
  refine State.blur_mono ?_ hb
  unfold State.winRead
  repeat' first
    | with_reducible rfl
    | simp (disch := decide) only [State.blur_ite_fst, ite_self, State.wr_blur, State.prefetch_blur, State.send_blur]
    | with_reducible refine State.blur_when _ _ _ ?_
    | with_reducible refine (State.blur_when _ _ _ ?_).trans ?_
    | split

theorem State.resSync_blur (s : State) (a0 : ℕ) {b : Nat} (hb : b &&& 0x100000000000000000000000000000000000000000000000000000000000000000 = 0x100000000000000000000000000000000000000000000000000000000000000000) : (State.resSync s a0).blur b = s.blur b := by
  refine State.blur_mono ?_ hb
  unfold State.resSync
  simp (disch := decide) only [State.wr_blur]

theorem ringCfgHook_blur (a0 : Req) (a1 : ℕ) (a2 : ℕ) (a3 : ℕ) (s : State) {b : Nat} (hb : b &&& 0x8000000d8008000000000000000000000000000000000000000000000000000000000000100020 = 0x8000000d8008000000000000000000000000000000000000000000000000000000000000100020) : (ringCfgHook a0 a1 a2 a3 s).1.blur b = s.blur b := by
  refine State.blur_mono ?_ hb
  unfold ringCfgHook
  repeat' first
    | with_reducible rfl
    | simp (disch := decide) only [State.blur_ite_fst, ite_self, writeFields_blur, State.ringLow_blur, State.ringReset_blur, State.wr_blur]
    | with_reducible refine State.blur_when _ _ _ ?_
    | with_reducible refine (State.blur_when _ _ _ ?_).trans ?_

theorem State.setSeq_blur (s : State) (a0 : ℕ) (a1 : SeqSt) {b : Nat} (hb : b &&& 0x400000 = 0x400000) : (State.setSeq s a0 a1).blur b = s.blur b := by
  refine State.blur_mono ?_ hb
  unfold State.setSeq
  simp (disch := decide) only [State.blur_with_seqs]

theorem State.seqStopped_blur (s : State) (a0 : ℕ) {b : Nat} (hb : b &&& 0x4000000000000000000000000000000000000000000000000000000000400020 = 0x4000000000000000000000000000000000000000000000000000000000400020) : (State.seqStopped s a0).blur b = s.blur b := by
  refine State.blur_mono ?_ hb
  unfold State.seqStopped
  simp (disch := decide) only [State.blur_ite, ite_self, State.setSeq_blur, State.wr_blur, State.releaseHolder_blur, State.raise_blur]

theorem State.slotFree_blur (s : State) (a0 : ℕ) (a1 : ℕ) {b : Nat} (hb : b &&& 0x2800000000000000000000000000000000000000000000000000000000000000000000000100020 = 0x2800000000000000000000000000000000000000000000000000000000000000000000000100020) : (State.slotFree s a0 a1).blur b = s.blur b := by
  refine State.blur_mono ?_ hb
  unfold State.slotFree
  simp (disch := decide) only [State.ringLow_blur, State.wr_blur]

theorem State.codeWritten_blur (s : State) (a0 : ℕ) {b : Nat} (hb : b &&& 0x800000000000000000000000000000000000000000000000000000000000000000000000000000000000000000000000000000000000000000000000000000000000000000000000000000000011000 = 0x800000000000000000000000000000000000000000000000000000000000000000000000000000000000000000000000000000000000000000000000000000000000000000000000000000000011000) : (State.codeWritten s a0).blur b = s.blur b := by
  refine State.blur_mono ?_ hb
  unfold State.codeWritten
  simp (disch := decide) only [State.blur_ite, ite_self, State.trigger_blur, State.setDac_blur]

theorem State.ppmuToFv_blur (s : State) (a0 : ℕ) (a1 : ℕ) {b : Nat} (hb : b &&& 0x90000000000000000000000000000000000000000000000000 = 0x90000000000000000000000000000000000000000000000000) : (State.ppmuToFv s a0 a1).blur b = s.blur b := by
  refine State.blur_mono ?_ hb
  unfold State.ppmuToFv
  simp (disch := decide) only [State.blur_ite, ite_self, State.wr_blur]

theorem State.slewWritten_blur (s : State) (a0 : ℕ) (a1 : Option ℕ) (a2 : Option ℕ) {b : Nat} (hb : b &&& 4096 = 4096) : (State.slewWritten s a0 a1 a2).blur b = s.blur b := by
  refine State.blur_mono ?_ hb
  unfold State.slewWritten
  simp (disch := decide) only [State.setDac_blur]

theorem State.applied_blur (s : State) (a0 : ℕ) (a1 : ℕ) (a2 : ℕ) {b : Nat} (hb : b &&& 0x40000000000000000000000000800000000000000000000000000000000000000000000000000000000000000000000000000000000000000000000000000000000000090040000000000000000000000000000000000000000011800 = 0x40000000000000000000000000800000000000000000000000000000000000000000000000000000000000000000000000000000000000000000000000000000000000090040000000000000000000000000000000000000000011800) : (State.applied s a0 a1 a2).blur b = s.blur b := by
  refine State.blur_mono ?_ hb
  unfold State.applied
  dsimp only
  repeat' first
    | with_reducible rfl
    | with_reducible refine State.blur_if ?_ ?_
    | simp (disch := decide) only [State.codeWritten_blur, State.rangeChange_blur, State.unsettle_blur, State.ppmuToFv_blur, State.slewWritten_blur, State.wr_blur, State.blockedCheck_blur, State.gapEnd_blur]
    | with_reducible refine State.blur_when _ _ _ ?_
    | with_reducible refine State.blur_each _ _ _ (fun t n => ?_)

theorem State.boundaryWrites_blur (s : State) (a0 : ℕ) {b : Nat} (hb : b &&& 0x40000000000000000000000000800000000000000000000000000000000000000000000000000000000000000000000000000000000000000000000000000000000000090040000000000000000000000000000000000000000111800 = 0x40000000000000000000000000800000000000000000000000000000000000000000000000000000000000000000000000000000000000000000000000000000000000090040000000000000000000000000000000000000000111800) : (State.boundaryWrites s a0).blur b = s.blur b := by
  refine State.blur_mono ?_ hb
  unfold State.boundaryWrites
  refine (State.blur_foldl _ _ _ (fun t n => State.applied_blur _ _ _ _ rfl)).trans ?_
  refine (State.blur_each _ _ _ (fun t n => State.setLane_blur _ _ _ rfl)).trans ?_
  exact State.setPlay_blur _ _ _ rfl

theorem State.engineStop_blur (s : State) (a0 : ℕ) {b : Nat} (hb : b &&& 0x400000000000000000000000008000000000000000000000000000000000000000000000000000000000000000000000000000000028003c2000000000000000000000090040000000000000000000000000000000000000000111820 = 0x400000000000000000000000008000000000000000000000000000000000000000000000000000000000000000000000000000000028003c2000000000000000000000090040000000000000000000000000000000000000000111820) : (State.engineStop s a0).blur b = s.blur b := by
  refine State.blur_mono ?_ hb
  unfold State.engineStop
  repeat' first
    | with_reducible rfl
    | simp (disch := decide) only [State.blur_ite, State.slotFree_blur, State.setPlay_blur, State.segSync_blur, State.boundaryWrites_blur]
    | with_reducible refine State.blur_when _ _ _ ?_
    | with_reducible refine State.blur_each _ _ _ (fun t n => ?_)
    | split

theorem State.tileStop_blur (s : State) (a0 : ℕ) {b : Nat} (hb : b &&& 0x400000000000000000000000008000000000000000000000000000000000000000000000000000000000000000000000000000000028003c2000000004000000000000090040000000000000000000000000000000000000000511820 = 0x400000000000000000000000008000000000000000000000000000000000000000000000000000000000000000000000000000000028003c2000000004000000000000090040000000000000000000000000000000000000000511820) : (State.tileStop s a0).blur b = s.blur b := by
  refine State.blur_mono ?_ hb
  unfold State.tileStop
  simp (disch := decide) only [State.seqStopped_blur, State.engineStop_blur]

theorem State.memberStop_blur (s : State) (a0 : ℕ) {b : Nat} (hb : b &&& 0x400000000000000000000000008000000000000000000000000000000000000000000000000000000000000000000000000000000028003c2000000004000000000000090040000000000000000000000000000000000000000511820 = 0x400000000000000000000000008000000000000000000000000000000000000000000000000000000000000000000000000000000028003c2000000004000000000000090040000000000000000000000000000000000000000511820) : (State.memberStop s a0).blur b = s.blur b := by
  refine State.blur_mono ?_ hb
  unfold State.memberStop
  simp (disch := decide) only [State.blur_ite, ite_self, State.setPlay_blur, State.tileStop_blur]

theorem State.groupStop_blur (s : State) (a0 : ℕ) {b : Nat} (hb : b &&& 0x400000000000000000000000008000000000000000000000000000000000000000000000000000000000000000000000000000000028003c2000000004000000000000090040000000000000000000000000000000000000000511820 = 0x400000000000000000000000008000000000000000000000000000000000000000000000000000000000000000000000000000000028003c2000000004000000000000090040000000000000000000000000000000000000000511820) : (State.groupStop s a0).blur b = s.blur b := by
  refine State.blur_mono ?_ hb
  unfold State.groupStop
  repeat' first
    | with_reducible rfl
    | simp (disch := decide) only [State.memberStop_blur]
    | with_reducible refine State.blur_when _ _ _ ?_
    | with_reducible refine State.blur_each _ _ _ (fun t n => ?_)

theorem State.abortStop_blur (s : State) (a0 : ℕ) {b : Nat} (hb : b &&& 0x40000000000000000000000000800000000000000000000000000000000000000000000000000000000000000000000000000000002808bc2000000004000000000000090040000000000000000000000000000000000000000511820 = 0x40000000000000000000000000800000000000000000000000000000000000000000000000000000000000000000000000000000002808bc2000000004000000000000090040000000000000000000000000000000000000000511820) : (State.abortStop s a0).blur b = s.blur b := by
  refine State.blur_mono ?_ hb
  unfold State.abortStop
  simp (disch := decide) only [State.groupStop_blur, State.tileStop_blur, State.wr_blur, State.bump_blur]

theorem State.rcClear_blur (s : State) (a0 : Reg) (a1 : ℕ) (a2 : ℕ) {b : Nat} (hb : b &&& 0xffffffffffffffffffffffffffffffffffffffffffffffffffffffffffffffffffffffffffffffffffffffffffffffffffffffffffffffffffffffffffffffffffffffffffffffffffffffffffffffffffffffffffffffffffffffffffffffffffffffffffffffffffffffffffffffffffffffffffffffffffffffffffffffff00000000 = 0xffffffffffffffffffffffffffffffffffffffffffffffffffffffffffffffffffffffffffffffffffffffffffffffffffffffffffffffffffffffffffffffffffffffffffffffffffffffffffffffffffffffffffffffffffffffffffffffffffffffffffffffffffffffffffffffffffffffffffffffffffffffffffffffff00000000) : (State.rcClear s a0 a1 a2).blur b = s.blur b := by
  refine State.blur_mono ?_ hb
  unfold State.rcClear
  repeat' first
    | with_reducible rfl
    | simp (disch := first | decide | (intros; apply State.key_of_all; decide)) only [State.wr_blur]
    | with_reducible refine State.blur_when _ _ _ ?_
    | with_reducible refine State.blur_each _ _ _ (fun t n => ?_)
    | with_reducible refine State.blur_foldl _ _ _ (fun t n => ?_)

theorem State.ncoSync_blur (s : State) (a0 : ℕ) (a1 : ℕ) {b : Nat} (hb : b &&& 0x100000 = 0x100000) : (State.ncoSync s a0 a1).blur b = s.blur b := by
  refine State.blur_mono ?_ hb
  unfold State.ncoSync
  simp (disch := decide) only [State.setPlay_blur]

theorem ncoHiHook_blur (a0 : Req) (a1 : ℕ) (a2 : ℕ) (a3 : ℕ) (s : State) {b : Nat} (hb : b &&& 0x600000000000000000000000000000000000000000000000000100000 = 0x600000000000000000000000000000000000000000000000000100000) : (ncoHiHook a0 a1 a2 a3 s).1.blur b = s.blur b := by
  refine State.blur_mono ?_ hb
  unfold ncoHiHook
  simp (disch := decide) only [State.blur_ite, State.blur_ite_fst, ite_self, State.wr_blur, State.ncoSync_blur]

theorem State.sensorBreaks_blur (s : State) (a0 : ℕ) (a1 : ℤ) (a2 : Option ℤ) {b : Nat} (hb : b &&& 0x1000000000400000000004000400000a0 = 0x1000000000400000000004000400000a0) : (State.sensorBreaks s a0 a1 a2).blur b = s.blur b := by
  refine State.blur_mono ?_ hb
  unfold State.sensorBreaks
  repeat' first
    | with_reducible rfl
    | simp (disch := decide) only [State.blur_with_hk, State.draw_blur, State.shard_blur, State.raise_blur, State.wr_blur]
    | split

theorem State.selectors_blur (s : State) {b : Nat} (hb : b &&& 0x40000000000000000000000000000000000000000000000000000000000000000000000000000000000000000000000000000000000000000000000000000000000000000000000000000000000000000000000000000000000000800 = 0x40000000000000000000000000000000000000000000000000000000000000000000000000000000000000000000000000000000000000000000000000000000000000000000000000000000000000000000000000000000000000800) : (State.selectors s).blur b = s.blur b := by
  refine State.blur_mono ?_ hb
  unfold State.selectors
  repeat' first
    | with_reducible rfl
    | simp (disch := decide) only [State.blur_ite, State.setLane_blur, State.blockedCheck_blur, State.unsettle_blur]
    | with_reducible refine State.blur_when _ _ _ ?_
    | with_reducible refine State.blur_each _ _ _ (fun t n => ?_)
    | with_reducible refine State.blur_foldl _ _ _ (fun t n => ?_)
    | with_reducible refine (State.blur_when _ _ _ ?_).trans ?_
    | with_reducible refine (State.blur_each _ _ _ (fun t n => ?_)).trans ?_
    | with_reducible refine (State.blur_foldl _ _ _ (fun t n => ?_)).trans ?_
    | with_reducible refine State.blur_foldl_fst _ _ _ _ (fun t n => ?_)
    | with_reducible refine (State.blur_foldl_fst _ _ _ _ (fun t n => ?_)).trans ?_
    | split

theorem State.refuse_blur (s : State) (a0 : Req) (a1 : ℕ) (a2 : Bool) {b : Nat} (hb : b &&& 0xe0000000000000000000000000000000000000000000000000000000000000000000000000000000000000000000000000000000000000000000000000000000000000000000 = 0xe0000000000000000000000000000000000000000000000000000000000000000000000000000000000000000000000000000000000000000000000000000000000000000000) : (State.refuse s a0 a1 a2).blur b = s.blur b := by
  refine State.blur_mono ?_ hb
  unfold State.refuse
  repeat' first
    | with_reducible rfl
    | simp (disch := decide) only [State.wb_blur, State.wr_blur, State.bump_blur]
    | split

theorem State.microWrite_blur (s : State) (a0 : ℕ) (a1 : ℕ) (a2 : ℕ) (a3 : ℕ) {b : Nat} (hb : b &&& 0x200000000000000000000000000000000000000000000000000000000000000200000 = 0x200000000000000000000000000000000000000000000000000000000000000200000) : (State.microWrite s a0 a1 a2 a3).blur b = s.blur b := by
  refine State.blur_mono ?_ hb
  unfold State.microWrite
  simp (disch := decide) only [State.flagSync_blur, State.setStore_blur]

theorem State.stagePiece_blur (s : State) (a0 : ℕ) (a1 : ℕ) (a2 : ℕ) (a3 : ℕ) (a4 : ℕ) (a5 : ℕ) {b : Nat} (hb : b &&& 0x200000000000000000000000000000000000000000000000000000000000000200000 = 0x200000000000000000000000000000000000000000000000000000000000000200000) : (State.stagePiece s a0 a1 a2 a3 a4 a5).blur b = s.blur b := by
  refine State.blur_mono ?_ hb
  unfold State.stagePiece
  simp (disch := decide) only [State.flagSync_blur, State.setStore_blur]

theorem State.windowWrite_blur (s : State) (a0 : Req) (a1 : ℕ) (a2 : ℕ) (a3 : ℕ) {b : Nat} (hb : b &&& 0xe0000000000000000000000000000000000000000000000000000000000000000000000208000000000000000000000000000000000000000000000000000000000000200000 = 0xe0000000000000000000000000000000000000000000000000000000000000000000000208000000000000000000000000000000000000000000000000000000000000200000) : (State.windowWrite s a0 a1 a2 a3).blur b = s.blur b := by
  refine State.blur_mono ?_ hb
  unfold State.windowWrite
  repeat' first
    | with_reducible rfl
    | simp (disch := decide) only [State.blur_ite, ite_self, State.refuse_blur, State.wr_blur, State.microWrite_blur, State.stagePiece_blur]
    | split

theorem thsConeHook_blur (a0 : Req) (a1 : ℕ) (a2 : ℕ) (a3 : ℕ) (s : State) {b : Nat} (hb : b &&& 0xc00000000000000040000000 = 0xc00000000000000040000000) : (thsConeHook a0 a1 a2 a3 s).1.blur b = s.blur b := by
  refine State.blur_mono ?_ hb
  unfold thsConeHook
  simp (disch := decide) only [State.blur_ite_fst, ite_self, State.blur_with_hk, writeWord_blur]

theorem State.startRefused_blur (s : State) (a0 : ℕ) {b : Nat} (hb : b &&& 0x40000000000000000000000000000000000000000000000000000000000000000000000000000000000000000000000000040000000000000000000000000000000000000000020 = 0x40000000000000000000000000000000000000000000000000000000000000000000000000000000000000000000000000040000000000000000000000000000000000000000020) : (State.startRefused s a0).blur b = s.blur b := by
  refine State.blur_mono ?_ hb
  unfold State.startRefused startRegs
  refine (State.blur_when _ _ _ ?_).trans ?_
  · simp (disch := decide) only [State.raise_blur]
  · split <;> simp (disch := decide) only [State.wr_blur]

theorem dmaCfgHook_blur (a0 : Req) (a1 : ℕ) (a2 : ℕ) (a3 : ℕ) (s : State) {b : Nat} (hb : b &&& 0x78000000000000000000000000000000000000000000000000000000000000000000000000000000000000000000000000000000000000000000000000000000000000000000000000000000000000000000000000000000000000000000000000000000000000400 = 0x78000000000000000000000000000000000000000000000000000000000000000000000000000000000000000000000000000000000000000000000000000000000000000000000000000000000000000000000000000000000000000000000000000000000000400) : (dmaCfgHook a0 a1 a2 a3 s).1.blur b = s.blur b := by
  refine State.blur_mono ?_ hb
  unfold dmaCfgHook
  simp (disch := decide) only [State.blur_ite_fst, ite_self, State.wr_blur, State.setRing_blur]

theorem State.adcRead_blur (s : State) (a0 : ℕ) {b : Nat} (hb : b &&& 0x180400000000000000000000000000000000000000000000000000000000000000000000000000000000000000000000000000000000000000000000000000000000000000000000000000000000000000000000000000000000000000000002000 = 0x180400000000000000000000000000000000000000000000000000000000000000000000000000000000000000000000000000000000000000000000000000000000000000000000000000000000000000000000000000000000000000000002000) : (State.adcRead s a0).1.blur b = s.blur b := by
  refine State.blur_mono ?_ hb
  unfold State.adcRead
  repeat' first
    | with_reducible rfl
    | simp (disch := decide) only [State.wr_blur, State.setAdc_blur]
    | split

theorem State.nvmProgram_blur (s : State) (a0 : NvmJob) {b : Nat} (hb : b &&& 256 = 256) : (State.nvmProgram s a0).blur b = s.blur b := by
  refine State.blur_mono ?_ hb
  unfold State.nvmProgram
  simp (disch := decide) only [State.blur_with_nvm]

theorem sprCmdHook_blur (a0 : Req) (a1 : ℕ) (a2 : ℕ) (a3 : ℕ) (s : State) {b : Nat} (hb : b &&& 0x77fffff80001007040000000000007007ffffe1a00008000000000000000000000000000000000000000000000000ffffffff007ffffffffffff80000000000000000000000000000000000000001e200000000000107f0600000000000000040000081bba0 = 0x77fffff80001007040000000000007007ffffe1a00008000000000000000000000000000000000000000000000000ffffffff007ffffffffffff80000000000000000000000000000000000000001e200000000000107f0600000000000000040000081bba0) : (sprCmdHook a0 a1 a2 a3 s).1.blur b = s.blur b := by
  refine State.blur_mono ?_ hb
  unfold sprCmdHook
  repeat' first
    | with_reducible rfl
    | simp (disch := decide) only [State.blur_ite_fst, ite_self, State.blur_with_spare, State.wr_blur, State.draw_blur, State.markUnit_blur]
    | split

theorem adcSeqBHook_blur (a0 : Req) (a1 : ℕ) (a2 : ℕ) (a3 : ℕ) (s : State) {b : Nat} (hb : b &&& 0x4000000000000000000000000000000000000000000000000000000000000000000000000000000000000000000000000000000000000000000000000000000000000000000000000000000000000000000000000000000000000000000000000000 = 0x4000000000000000000000000000000000000000000000000000000000000000000000000000000000000000000000000000000000000000000000000000000000000000000000000000000000000000000000000000000000000000000000000000) : (adcSeqBHook a0 a1 a2 a3 s).1.blur b = s.blur b := by
  refine State.blur_mono ?_ hb
  unfold adcSeqBHook
  simp (disch := decide) only [State.blur_ite_fst, ite_self, writeWord_blur]

theorem State.dpsTake_blur (s : State) (a0 : ℕ) (a1 : ℕ → Bool) {b : Nat} (hb : b &&& 0x18000000000000000000000000000000000000000000000000000000000000000000000000000000000000008000 = 0x18000000000000000000000000000000000000000000000000000000000000000000000000000000000000008000) : (State.dpsTake s a0 a1).blur b = s.blur b := by
  refine State.blur_mono ?_ hb
  unfold State.dpsTake
  repeat' first
    | with_reducible rfl
    | simp (disch := decide) only [State.setDps_blur, State.wr_blur]
    | with_reducible refine State.blur_when _ _ _ ?_
    | with_reducible refine State.blur_each _ _ _ (fun t n => ?_)
    | with_reducible refine State.blur_foldl _ _ _ (fun t n => ?_)
    | with_reducible refine (State.blur_when _ _ _ ?_).trans ?_
    | with_reducible refine (State.blur_each _ _ _ (fun t n => ?_)).trans ?_

theorem State.dpsTick_blur (s : State) (a0 : ℕ) {b : Nat} (hb : b &&& 0x18020000000000000000000000000000000000000000000000000000000000000000000000000000000000009000 = 0x18020000000000000000000000000000000000000000000000000000000000000000000000000000000000009000) : (State.dpsTick s a0).blur b = s.blur b := by
  refine State.blur_mono ?_ hb
  unfold State.dpsTick
  simp (disch := decide) only [State.blur_ite, ite_self, State.dpsTake_blur, State.setDps_blur, State.dpsOpen_blur, State.dpsClose_blur]

theorem State.acqLanes_blur (s : State) (a0 : ℕ) (a1 : AcqSample) {b : Nat} (hb : b &&& 0x2000000 = 0x2000000) : (State.acqLanes s a0 a1).blur b = s.blur b := by
  refine State.blur_mono ?_ hb
  unfold State.acqLanes
  repeat' first
    | with_reducible rfl
    | simp (disch := decide) only [State.blur_ite, ite_self, State.acqCond_blur, State.setAcq_blur, State.acqArrive_blur]
    | with_reducible refine State.blur_when _ _ _ ?_
    | with_reducible refine State.blur_each _ _ _ (fun t n => ?_)

theorem State.capsOut_blur (s : State) (a0 : ℕ) {b : Nat} (hb : b &&& 0x2100000 = 0x2100000) : (State.capsOut s a0).blur b = s.blur b := by
  refine State.blur_mono ?_ hb
  unfold State.capsOut
  repeat' first
    | with_reducible rfl
    | simp (disch := decide) only [State.blur_ite, State.acqLanes_blur, State.setPlay_blur]
    | with_reducible refine State.blur_when _ _ _ ?_
    | with_reducible refine State.blur_each _ _ _ (fun t n => ?_)
    | with_reducible refine State.blur_foldl _ _ _ (fun t n => ?_)
    | with_reducible refine (State.blur_when _ _ _ ?_).trans ?_
    | with_reducible refine (State.blur_each _ _ _ (fun t n => ?_)).trans ?_
    | with_reducible refine (State.blur_foldl _ _ _ (fun t n => ?_)).trans ?_
    | with_reducible refine State.blur_foldl_fst _ _ _ _ (fun t n => ?_)
    | with_reducible refine (State.blur_foldl_fst _ _ _ _ (fun t n => ?_)).trans ?_
    | split

theorem State.playTick_blur (s : State) (a0 : ℕ) {b : Nat} (hb : b &&& 0x2100000 = 0x2100000) : (State.playTick s a0).blur b = s.blur b := by
  refine State.blur_mono ?_ hb
  unfold State.playTick
  simp (disch := decide) only [State.blur_ite, ite_self, State.setPlay_blur, State.capsOut_blur]

theorem State.dmaStop_blur (s : State) (a0 : ℕ) {b : Nat} (hb : b &&& 0x168000000000000000000000000000000000000000000000000000000000000000000000000000000000000000000000000000000000000000000000000000000000000000000000000000000000000000000000000000000000000000000000000000000000000400 = 0x168000000000000000000000000000000000000000000000000000000000000000000000000000000000000000000000000000000000000000000000000000000000000000000000000000000000000000000000000000000000000000000000000000000000000400) : (State.dmaStop s a0).blur b = s.blur b := by
  refine State.blur_mono ?_ hb
  unfold State.dmaStop
  repeat' first
    | with_reducible rfl
    | simp (disch := decide) only [State.blur_with_host, State.wr_blur]
    | with_reducible refine State.blur_each _ _ _ (fun t n => ?_)
    | with_reducible refine (State.blur_each _ _ _ (fun t n => ?_)).trans ?_

theorem State.acqReset_blur (s : State) (a0 : ℕ) {b : Nat} (hb : b &&& 0x1000000000000000000000000000000000000000000000000000000000000000000000000000000000000000000000000000000002000000 = 0x1000000000000000000000000000000000000000000000000000000000000000000000000000000000000000000000000000000002000000) : (State.acqReset s a0).blur b = s.blur b := by
  refine State.blur_mono ?_ hb
  unfold State.acqReset
  simp (disch := decide) only [State.blur_ite, ite_self, State.wr_blur, State.setAcq_blur]

theorem State.grpReset_blur (s : State) (a0 : ℕ) {b : Nat} (hb : b &&& 0x3f80000000000000000000000000000000000000000000000000000000000000000000000000000000000000000000000000000000000000000000000000000000000000000000000000000000000000000000000000000000000000000000000000001000000 = 0x3f80000000000000000000000000000000000000000000000000000000000000000000000000000000000000000000000000000000000000000000000000000000000000000000000000000000000000000000000000000000000000000000000000001000000) : (State.grpReset s a0).blur b = s.blur b := by
  refine State.blur_mono ?_ hb
  unfold State.grpReset
  simp (disch := decide) only [List.foldl_cons, List.foldl_nil, State.wr_blur, State.blur_with_red]
  refine State.blur_each _ _ _ fun t n => ?_
  split
  · rfl
  · simp (disch := decide) only [State.setCtx_blur]

theorem State.setSmu_blur (s : State) (a0 : ℕ) (a1 : SmuSt) {b : Nat} (hb : b &&& 16384 = 16384) : (State.setSmu s a0 a1).blur b = s.blur b := by
  refine State.blur_mono ?_ hb
  unfold State.setSmu
  simp (disch := decide) only [State.blur_with_smus]

theorem State.resetFields_blur (s : State) (a0 : ℕ → Bool) {b : Nat} (hb : b &&& 0xffffffffffffffffffffffffffffffffffffffffffffffffffffffffffffffffffffffffffffffffffffffffffffffffffffffffffffffffffffffffffffffffffffffffffffffffffffffffffffffffffffffffffffffffffffffffffffffffffffffffffffffffffffffffffffffffffffffffffffffffffffffffffffffff00000000 = 0xffffffffffffffffffffffffffffffffffffffffffffffffffffffffffffffffffffffffffffffffffffffffffffffffffffffffffffffffffffffffffffffffffffffffffffffffffffffffffffffffffffffffffffffffffffffffffffffffffffffffffffffffffffffffffffffffffffffffffffffffffffffffffffffff00000000) : (State.resetFields s a0).blur b = s.blur b := by
  refine State.blur_mono ?_ hb
  unfold State.resetFields
  simp (disch := decide) only [State.blur_with_regs]

theorem State.funcReset_blur (s : State) (a0 : ℕ) {b : Nat} (hb : b &&& 0xffffffffffffffffffffffffffffffffffffffffffffffffffffffffffffffffffffffffffffffffffffffffffffffffffffffffffffffffffffffffffffffffffffffffffffffffffffffffffffffffffffffffffffffffffffffffffffffffffffffffffffffffffffffffffffffffffffffffffffffffffffffffffffffff03517c20 = 0xffffffffffffffffffffffffffffffffffffffffffffffffffffffffffffffffffffffffffffffffffffffffffffffffffffffffffffffffffffffffffffffffffffffffffffffffffffffffffffffffffffffffffffffffffffffffffffffffffffffffffffffffffffffffffffffffffffffffffffffffffffffffffffffff03517c20) : (State.funcReset s a0).blur b = s.blur b := by
  refine State.blur_mono ?_ hb
  unfold State.funcReset
  repeat' first
    | with_reducible rfl
    | simp (disch := decide) only [State.blur_ite, ite_self, State.dmaStop_blur, State.wr_blur, State.queueReset_blur, State.acqReset_blur, State.tileStop_blur, State.seqStopped_blur, State.grpReset_blur, State.setSmu_blur, State.setAdc_blur, State.setPlay_blur, State.resetFields_blur, State.setLane_blur, State.applied_blur, State.smuModeSet_blur, State.qSync_blur]
    | with_reducible refine State.blur_when _ _ _ ?_
    | with_reducible refine State.blur_each _ _ _ (fun t n => ?_)
    | with_reducible refine State.blur_foldl _ _ _ (fun t n => ?_)
    | with_reducible refine (State.blur_when _ _ _ ?_).trans ?_
    | with_reducible refine (State.blur_each _ _ _ (fun t n => ?_)).trans ?_
    | with_reducible refine (State.blur_foldl _ _ _ (fun t n => ?_)).trans ?_

theorem State.modVec_blur (s : State) (a0 : ℕ) (a1 : VecRec) (a2 : VecRec → VecRec) {b : Nat} (hb : b &&& 0x100000 = 0x100000) : (State.modVec s a0 a1 a2).blur b = s.blur b := by
  refine State.blur_mono ?_ hb
  unfold State.modVec
  simp (disch := decide) only [State.setPlay_blur]

theorem State.countFail_blur (s : State) (a0 : ℕ) (a1 : SiteDecl) (a2 : VecRec) (a3 : ℕ) {b : Nat} (hb : b &&& 0x7f4040088000000000000000000000000000000000000000000000000000000000000000000000000100020 = 0x7f4040088000000000000000000000000000000000000000000000000000000000000000000000000100020) : (State.countFail s a0 a1 a2 a3).blur b = s.blur b := by
  refine State.blur_mono ?_ hb
  unfold State.countFail
  repeat' first
    | with_reducible rfl
    | simp (disch := decide) only [State.wr_blur, State.bump_blur, State.siteFirst_blur, State.modVec_blur]
    | with_reducible refine State.blur_when _ _ _ ?_
    | with_reducible refine (State.blur_when _ _ _ ?_).trans ?_

theorem logCtlHook_blur (a0 : Req) (a1 : ℕ) (a2 : ℕ) (a3 : ℕ) (s : State) {b : Nat} (hb : b &&& 0x1c900000000000000000000000000000000000000000000000000000000000000000000000000100000 = 0x1c900000000000000000000000000000000000000000000000000000000000000000000000000100000) : (logCtlHook a0 a1 a2 a3 s).1.blur b = s.blur b := by
  refine State.blur_mono ?_ hb
  unfold logCtlHook
  repeat' first
    | with_reducible rfl
    | simp (disch := decide) only [State.blur_ite_fst, State.wr_blur, writeWord_blur, State.setPlay_blur]
    | with_reducible refine State.blur_when _ _ _ ?_
    | with_reducible refine (State.blur_when _ _ _ ?_).trans ?_
    | split

theorem State.railRound_blur (s : State) (a0 : ℤ) (a1 : ℕ) {b : Nat} (hb : b &&& 0x100000000001c00000000400040000080 = 0x100000000001c00000000400040000080) : (State.railRound s a0 a1).blur b = s.blur b := by
  refine State.blur_mono ?_ hb
  unfold State.railRound
  repeat' first
    | with_reducible rfl
    | simp (disch := decide) only [State.blur_with_hk, State.wb_blur, State.wr_blur, State.shard_blur]
    | with_reducible refine State.blur_when _ _ _ ?_
    | with_reducible refine (State.blur_when _ _ _ ?_).trans ?_

theorem State.supplyRound_blur (s : State) (a0 : List ℤ) {b : Nat} (hb : b &&& 0x100000000001c000000004000400000a0 = 0x100000000001c000000004000400000a0) : (State.supplyRound s a0).blur b = s.blur b := by
  refine State.blur_mono ?_ hb
  unfold State.supplyRound
  repeat' first
    | with_reducible rfl
    | simp (disch := decide) only [State.railRound_blur, State.live_blur]
    | with_reducible refine State.blur_when _ _ _ ?_
    | with_reducible refine State.blur_each _ _ _ (fun t n => ?_)

theorem State.nvmKick_blur (s : State) {b : Nat} (hb : b &&& 0x3000000000000000000000000000000000000000000000000000000000000000000000000000000000000000000000000000000000000000000000000000000010000001000000000000000000000000100 = 0x3000000000000000000000000000000000000000000000000000000000000000000000000000000000000000000000000000000000000000000000000000000010000001000000000000000000000000100) : (State.nvmKick s).blur b = s.blur b := by
  refine State.blur_mono ?_ hb
  unfold State.nvmKick
  repeat' first
    | with_reducible rfl
    | simp (disch := decide) only [State.blur_ite, ite_self, State.blur_with_nvm, State.wr_blur, State.wb_blur, State.nvmStart_blur]
    | split

theorem nvmCmdHook_blur (a0 : Req) (a1 : ℕ) (a2 : ℕ) (a3 : ℕ) (s : State) {b : Nat} (hb : b &&& 0x700000000000000000000000000000000000000000000000000000000000000000000000000000000000000000000000000000000000000000000000000000001c000001800000000000000000000000100 = 0x700000000000000000000000000000000000000000000000000000000000000000000000000000000000000000000000000000000000000000000000000000001c000001800000000000000000000000100) : (nvmCmdHook a0 a1 a2 a3 s).1.blur b = s.blur b := by
  refine State.blur_mono ?_ hb
  unfold nvmCmdHook
  repeat' first
    | with_reducible rfl
    | simp (disch := decide) only [State.blur_ite_fst, ite_self, State.blur_with_nvm, State.wr_blur, State.wb_blur, State.nvmKick_blur]
    | with_reducible refine State.blur_each _ _ _ (fun t n => ?_)
    | with_reducible refine (State.blur_each _ _ _ (fun t n => ?_)).trans ?_
    | split

theorem State.groupFree_blur (s : State) (a0 : ℕ) {b : Nat} (hb : b &&& 0x3f80000000000000000000000000058000000000000000000000000000f00000000000000000000000000000000000000000000000000000000000000000000000000000000000000000000000000000000000000000000000000000000000000000001000020 = 0x3f80000000000000000000000000058000000000000000000000000000f00000000000000000000000000000000000000000000000000000000000000000000000000000000000000000000000000000000000000000000000000000000000000000001000020) : (State.groupFree s a0).blur b = s.blur b := by
  refine State.blur_mono ?_ hb
  unfold State.groupFree
  simp (disch := decide) only [State.wr_blur, State.grpReset_blur, State.overSync_blur]

theorem State.allotDo_blur (s : State) (a0 : ℕ) (a1 : ℕ) (a2 : ℕ) (a3 : ℕ) {b : Nat} (hb : b &&& 0x3f8000000000000000000000000005d800000000000000000000000000f82000000000000000000000000000000000000000000000000000000000000000000000000000000000000000000000000000000000000000000000000000000000000000001000020 = 0x3f8000000000000000000000000005d800000000000000000000000000f82000000000000000000000000000000000000000000000000000000000000000000000000000000000000000000000000000000000000000000000000000000000000000001000020) : (State.allotDo s a0 a1 a2 a3).blur b = s.blur b := by
  refine State.blur_mono ?_ hb
  unfold State.allotDo
  simp (disch := decide) only [State.blur_ite, ite_self, State.wr_blur, State.overSync_blur, State.groupFree_blur]

theorem allotHook_blur (a0 : Req) (a1 : ℕ) (a2 : ℕ) (a3 : ℕ) (s : State) {b : Nat} (hb : b &&& 0x3f8000000000000000000000000005d800000000000000000000000000f87e00000000000000000000000000000000000000000000000000000000000000000000000000000000000000000000000000000000000000000000000000000000000000001000020 = 0x3f8000000000000000000000000005d800000000000000000000000000f87e00000000000000000000000000000000000000000000000000000000000000000000000000000000000000000000000000000000000000000000000000000000000000001000020) : (allotHook a0 a1 a2 a3 s).1.blur b = s.blur b := by
  refine State.blur_mono ?_ hb
  unfold allotHook
  simp (disch := decide) only [State.blur_ite, State.blur_ite_fst, ite_self, writeFields_blur, State.wr_blur, State.allotDo_blur]

theorem State.capEdge_blur (s : State) (a0 : ℕ) (a1 : Edge) {b : Nat} (hb : b &&& 0x100000 = 0x100000) : (State.capEdge s a0 a1).blur b = s.blur b := by
  refine State.blur_mono ?_ hb
  unfold State.capEdge
  simp (disch := decide) only [State.setPlay_blur]

theorem State.edgeDrop_blur (s : State) (a0 : ℕ) {b : Nat} (hb : b &&& 0xa0000000000000000000000000000000000000000000000000000000 = 0xa0000000000000000000000000000000000000000000000000000000) : (State.edgeDrop s a0).blur b = s.blur b := by
  refine State.blur_mono ?_ hb
  unfold State.edgeDrop
  simp (disch := decide) only [State.bump_blur, State.wr_blur]

theorem State.cmpSlot_blur (s : State) (a0 : ℕ) (a1 : ℕ) {b : Nat} (hb : b &&& 0xa0000000000000000000000000000000000000000000000000000800 = 0xa0000000000000000000000000000000000000000000000000000800) : (State.cmpSlot s a0 a1).1.blur b = s.blur b := by
  refine State.blur_mono ?_ hb
  unfold State.cmpSlot
  simp (disch := decide) only [State.blur_ite_fst, ite_self, State.edgeDrop_blur, State.setLane_blur]

theorem State.modJob_blur (s : State) (a0 : ℕ) (a1 : ℕ) (a2 : CmpJob → CmpJob) {b : Nat} (hb : b &&& 2048 = 2048) : (State.modJob s a0 a1 a2).blur b = s.blur b := by
  refine State.blur_mono ?_ hb
  unfold State.modJob
  simp (disch := decide) only [State.setLane_blur]

theorem State.cmpEdge_blur (s : State) (a0 : ℕ) (a1 : Edge) {b : Nat} (hb : b &&& 0x1e0000000000000000000000000000000000000000000000000000800 = 0x1e0000000000000000000000000000000000000000000000000000800) : (State.cmpEdge s a0 a1).blur b = s.blur b := by
  refine State.blur_mono ?_ hb
  unfold State.cmpEdge
  repeat' first
    | with_reducible rfl
    | simp (disch := decide) only [State.blur_ite, ite_self, State.cmpSlot_blur, State.modJob_blur, State.setLane_blur, State.bump_blur, State.wr_blur]
    | with_reducible refine State.blur_when _ _ _ ?_
    | with_reducible refine (State.blur_when _ _ _ ?_).trans ?_
    | split

theorem State.transition_blur (s : State) (a0 : ℕ) (a1 : ℕ) (a2 : ℕ) {b : Nat} (hb : b &&& 0x200000000000000000000000000000000000000000000000000000000000000000000000000000000000000000000000000000000000000000000000000000000a0000000000000000000000000000000000000000000000000000800 = 0x200000000000000000000000000000000000000000000000000000000000000000000000000000000000000000000000000000000000000000000000000000000a0000000000000000000000000000000000000000000000000000800) : (State.transition s a0 a1 a2).1.blur b = s.blur b := by
  refine State.blur_mono ?_ hb
  unfold State.transition
  repeat' first
    | with_reducible rfl
    | simp (disch := decide) only [State.blur_ite_fst, ite_self, State.setLane_blur, State.wr_blur, State.edgeDrop_blur]
    | with_reducible refine State.blur_when _ _ _ ?_
    | with_reducible refine State.blur_each _ _ _ (fun t n => ?_)
    | split

theorem State.driveEdges_blur (s : State) (a0 : ℕ) (a1 : ℕ) (a2 : List Edge) {b : Nat} (hb : b &&& 0x600000000000000000000000000000000000000000000000000000000000000000000000000000000000000000000000000000000000000000000000000000000a0000000000000000000000000000000000000000000000000000800 = 0x600000000000000000000000000000000000000000000000000000000000000000000000000000000000000000000000000000000000000000000000000000000a0000000000000000000000000000000000000000000000000000800) : (State.driveEdges s a0 a1 a2).blur b = s.blur b := by
  refine State.blur_mono ?_ hb
  unfold State.driveEdges
  repeat' first
    | with_reducible rfl
    | simp (disch := decide) only [State.blur_ite, ite_self, State.setLane_blur, State.wr_blur, State.transition_blur]
    | with_reducible refine State.blur_when _ _ _ ?_
    | with_reducible refine State.blur_each _ _ _ (fun t n => ?_)
    | split

theorem State.laneEdges_blur (s : State) (a0 : ℕ) (a1 : ℕ) (a2 : ℕ) {b : Nat} (hb : b &&& 0x600000000000000000000000000000000000000000000000000000000000000000000000000000000000000000000000000000000000000000000000000000001e0000000000000000000000000000000000000000000000000100800 = 0x600000000000000000000000000000000000000000000000000000000000000000000000000000000000000000000000000000000000000000000000000000001e0000000000000000000000000000000000000000000000000100800) : (State.laneEdges s a0 a1 a2).blur b = s.blur b := by
  refine State.blur_mono ?_ hb
  suffices ∀ (n : Nat) (t : State), (State.laneEdges t a0 a1 n).blur 0x600000000000000000000000000000000000000000000000000000000000000000000000000000000000000000000000000000000000000000000000000000001e0000000000000000000000000000000000000000000000000100800 = t.blur 0x600000000000000000000000000000000000000000000000000000000000000000000000000000000000000000000000000000000000000000000000000000001e0000000000000000000000000000000000000000000000000100800 from this _ s
  intro n
  induction n with
  | zero => exact fun _ => rfl
  | succ n ih =>
    intro t
    unfold State.laneEdges
    split
    · rfl
    · split
      · rfl
      · simp only [ih]
        refine (State.blur_foldl _ _ _ (fun t x => ?_)).trans ?_
        · split
          · simp (disch := decide) only [State.capEdge_blur]
          · simp (disch := decide) only [State.cmpEdge_blur]
        · simp (disch := decide) only [State.driveEdges_blur, State.setLane_blur]

theorem State.laneFlush_blur (s : State) (a0 : ℕ) (a1 : ℕ) {b : Nat} (hb : b &&& 0x600000000000000000000000000000000000000000000000000000000000000000000000000000000000000000000000000000000000000000000000000000001e0000000000000000000000000000000000000000000000000100800 = 0x600000000000000000000000000000000000000000000000000000000000000000000000000000000000000000000000000000000000000000000000000000001e0000000000000000000000000000000000000000000000000100800) : (State.laneFlush s a0 a1).blur b = s.blur b := by
  refine State.blur_mono ?_ hb
  unfold State.laneFlush
  simp (disch := decide) only [State.laneEdges_blur]

theorem State.boundaryFlush_blur (s : State) (a0 : ℕ) {b : Nat} (hb : b &&& 0x600000000000000000000000008000000000000000000000000000000000000000000000000000000000000000000000000000000000000000000000000000001e0000090040000000000000000000000000000000000000002111800 = 0x600000000000000000000000008000000000000000000000000000000000000000000000000000000000000000000000000000000000000000000000000000001e0000090040000000000000000000000000000000000000002111800) : (State.boundaryFlush s a0).blur b = s.blur b := by
  refine State.blur_mono ?_ hb
  unfold State.boundaryFlush
  repeat' first
    | with_reducible rfl
    | simp (disch := decide) only [State.boundaryWrites_blur, State.capsOut_blur, State.laneFlush_blur]
    | with_reducible refine State.blur_when _ _ _ ?_
    | with_reducible refine State.blur_each _ _ _ (fun t n => ?_)

theorem State.ctxCmd_blur (s : State) (a0 : ℕ) (a1 : ℕ) {b : Nat} (hb : b &&& 0x28000000000000000000000000000000000000000000000000000000000000000000000000000000000000000000000000000000000000000000000000000000000000000000000000000000000000000000000000001200060000000000000004000010003a0 = 0x28000000000000000000000000000000000000000000000000000000000000000000000000000000000000000000000000000000000000000000000000000000000000000000000000000000000000000000000000001200060000000000000004000010003a0) : (State.ctxCmd s a0 a1).blur b = s.blur b := by
  refine State.blur_mono ?_ hb
  unfold State.ctxCmd
  simp (disch := decide) only [State.blur_ite, ite_self, State.blur_with_red, State.ctxComplete_blur, State.ctxUe_blur, State.setCtx_blur, State.grpSync_blur, State.ctxOpen_blur]

theorem State.measure_blur (s : State) (a0 : ℕ) (a1 : ℕ) (a2 : ℕ) {b : Nat} (hb : b &&& 0x28000000000000000000000000000000000000000000000000000000000000000000000000000000000000000000000000000000000000000000000000000000000000000000000000000000000000000000000000001200060000000000000004000010003a0 = 0x28000000000000000000000000000000000000000000000000000000000000000000000000000000000000000000000000000000000000000000000000000000000000000000000000000000000000000000000000001200060000000000000004000010003a0) : (State.measure s a0 a1 a2).1.blur b = s.blur b := by
  refine State.blur_mono ?_ hb
  unfold State.measure
  simp (disch := decide) only [State.blur_ite_fst, ite_self, State.ctxCmd_blur]

theorem State.measureWord_blur (s : State) (a0 : ℕ) (a1 : ℕ) (a2 : ℕ) {b : Nat} (hb : b &&& 0x28000000000000000000000000000000000000000000000000000000000000000000000000000000000000000000000000000000000000000000000000000000000000000002000000000000000000000000000000001200060000000000000004000014003a0 = 0x28000000000000000000000000000000000000000000000000000000000000000000000000000000000000000000000000000000000000000000000000000000000000000002000000000000000000000000000000001200060000000000000004000014003a0) : (State.measureWord s a0 a1 a2).blur b = s.blur b := by
  refine State.blur_mono ?_ hb
  unfold State.measureWord
  repeat' first
    | with_reducible rfl
    | simp (disch := decide) only [State.measure_blur, State.setSeq_blur, State.wr_blur]
    | with_reducible refine State.blur_when _ _ _ ?_
    | with_reducible refine (State.blur_when _ _ _ ?_).trans ?_

theorem State.flashEffect_blur (s : State) (a0 : FlashCmd) {b : Nat} (hb : b &&& 0x10000000 = 0x10000000) : (State.flashEffect s a0).blur b = s.blur b := by
  refine State.blur_mono ?_ hb
  unfold State.flashEffect
  repeat' first
    | with_reducible rfl
    | simp (disch := decide) only [State.blur_ite, State.blur_with_flash]
    | split

theorem flsBufHook_blur (a0 : Req) (a1 : ℕ) (a2 : ℕ) (a3 : ℕ) (s : State) {b : Nat} (hb : b &&& 0x1000000000000000000000000000000000000000000000000000000000000000000000000000000000000000000000000000000000000000000000000000000000000000000000000000000000 = 0x1000000000000000000000000000000000000000000000000000000000000000000000000000000000000000000000000000000000000000000000000000000000000000000000000000000000) : (flsBufHook a0 a1 a2 a3 s).1.blur b = s.blur b := by
  refine State.blur_mono ?_ hb
  unfold flsBufHook
  simp (disch := decide) only [State.blur_ite_fst, ite_self, writeWord_blur]

theorem tileFields_blur (a0 : Nat) (fs : List Fld) (a1 a2 a3 : Nat) (s : State) {b : Nat} (hb : b &&& 0x40000000000000000000000000800000000000000000000000000000000000000000000000000000000000000000000000000000000000000000000000000000000000090040000000000000000000000000000000000000000111800 = 0x40000000000000000000000000800000000000000000000000000000000000000000000000000000000000000000000000000000000000000000000000000000000000090040000000000000000000000000000000000000000111800) (hf : ∀ f ∈ fs, f.acc.writes = true → b.testBit (32 + f.key % 1024) = true) : ((tileFields a0 fs a1 a2 a3 s).1).blur b = s.blur b := by
  unfold tileFields
  have h0 := writeFields_blur fs a1 a2 a3 s (b := b) hf
  split
  rename_i heq
  rw [heq] at h0
  refine Eq.trans ?_ h0
  dsimp only
  split
  · exact State.setPlay_blur _ _ _ (and_parts hb (by decide))
  · exact State.blur_foldl _ _ _ fun t n => State.applied_blur _ _ _ _ (and_parts hb (by decide))

theorem matrixHook_blur (a0 : Req) (a1 : ℕ) (a2 : ℕ) (a3 : ℕ) (s : State) {b : Nat} (hb : b &&& 0xe6040000000000000000400000000800000000000000000000000000000000000000000000000000000000000000000000000000000000000000000000000000000000000090040000000000000000000000000000000000000000111800 = 0xe6040000000000000000400000000800000000000000000000000000000000000000000000000000000000000000000000000000000000000000000000000000000000000090040000000000000000000000000000000000000000111800) : (matrixHook a0 a1 a2 a3 s).1.blur b = s.blur b := by
  refine State.blur_mono ?_ hb
  unfold matrixHook
  repeat' first
    | with_reducible rfl
    | simp (disch := decide) only [State.blur_ite_fst, State.wr_blur, State.calTouch_blur, tileFields_blur]
    | with_reducible refine State.blur_when _ _ _ ?_
    | with_reducible refine (State.blur_when _ _ _ ?_).trans ?_
    | split

theorem State.monLatch_blur (s : State) (a0 : ℕ) {b : Nat} (hb : b &&& 0x400000000000000000000000000000000000000000000000000000000000000000000000000000000000000000000000000000000000000000000000000000000000000000000000000000000000000000000000000000000000020 = 0x400000000000000000000000000000000000000000000000000000000000000000000000000000000000000000000000000000000000000000000000000000000000000000000000000000000000000000000000000000000000020) : (State.monLatch s a0).blur b = s.blur b := by
  refine State.blur_mono ?_ hb
  unfold State.monLatch
  simp (disch := decide) only [State.blur_ite, ite_self, State.raise_blur, State.wr_blur]

theorem State.laneSample_blur (s : State) (a0 : ℕ) {b : Nat} (hb : b &&& 0x400000000000000000000000000000000000000000000000000000000000000000000000000000000000000000000000000000000000000000000000000000000000000000000000000000000000000000000000000000000000820 = 0x400000000000000000000000000000000000000000000000000000000000000000000000000000000000000000000000000000000000000000000000000000000000000000000000000000000000000000000000000000000000820) : (State.laneSample s a0).blur b = s.blur b := by
  refine State.blur_mono ?_ hb
  unfold State.laneSample
  repeat' first
    | with_reducible rfl
    | simp (disch := decide) only [State.blur_ite, State.setLane_blur, State.monLatch_blur]
    | with_reducible refine State.blur_when _ _ _ ?_
    | with_reducible refine (State.blur_when _ _ _ ?_).trans ?_
    | split

theorem State.takeJump_blur (s : State) (a0 : ℕ) {b : Nat} (hb : b &&& 0x410000c0000000000000000000000000000000000000000000000000000000000000000100020 = 0x410000c0000000000000000000000000000000000000000000000000000000000000000100020) : (State.takeJump s a0).blur b = s.blur b := by
  refine State.blur_mono ?_ hb
  unfold State.takeJump
  repeat' first
    | with_reducible rfl
    | simp (disch := decide) only [State.choose_blur, State.setPlay_blur]
    | split

theorem State.commitPoint_blur (s : State) (a0 : ℕ) (a1 : Bool) {b : Nat} (hb : b &&& 0x410000c0000000000000000000000000000000000000000000000000000000000000000100020 = 0x410000c0000000000000000000000000000000000000000000000000000000000000000100020) : (State.commitPoint s a0 a1).blur b = s.blur b := by
  refine State.blur_mono ?_ hb
  unfold State.commitPoint
  repeat' first
    | with_reducible rfl
    | simp (disch := decide) only [State.blur_ite, State.takeJump_blur, State.choose_blur]
    | split

theorem State.winWrite_blur (s : State) (a0 : Req) (a1 : ℕ) (a2 : List (ℕ × ℕ)) {b : Nat} (hb : b &&& 0x68000000000000000000000000000000000000000000000000000000000000000000000000000000000000000000000000000000000000000000000000000000000000000000000010000000 = 0x68000000000000000000000000000000000000000000000000000000000000000000000000000000000000000000000000000000000000000000000000000000000000000000000010000000) : (State.winWrite s a0 a1 a2).1.blur b = s.blur b := by
  refine State.blur_mono ?_ hb
  unfold State.winWrite
  repeat' first
    | with_reducible rfl
    | simp (disch := decide) only [State.blur_ite_fst, State.blur_with_flash, State.wr_blur, State.send_blur]
    | with_reducible refine State.blur_when _ _ _ ?_
    | with_reducible refine (State.blur_when _ _ _ ?_).trans ?_
    | split

theorem State.winAct_blur (s : State) (a0 : Req) (a1 : ℕ) (a2 : List (ℕ × ℕ)) {b : Nat} (hb : b &&& 0x680000000000e0000000000000000000000000000000000000000000000000000000000000000000000000000000000000000000000000000000000000000000000000000000000010000000 = 0x680000000000e0000000000000000000000000000000000000000000000000000000000000000000000000000000000000000000000000000000000000000000000000000000000010000000) : (State.winAct s a0 a1 a2).blur b = s.blur b := by
  refine State.blur_mono ?_ hb
  unfold State.winAct
  repeat' first
    | with_reducible rfl
    | simp (disch := decide) only [State.blur_ite, State.refuse_blur, State.winWrite_blur]
    | with_reducible refine State.blur_when _ _ _ ?_
    | with_reducible refine (State.blur_when _ _ _ ?_).trans ?_
    | split

theorem fuseHashHook_blur (a0 : Req) (a1 : ℕ) (a2 : ℕ) (a3 : ℕ) (s : State) {b : Nat} (hb : b &&& 0x200000000000000000000000000000000000 = 0x200000000000000000000000000000000000) : (fuseHashHook a0 a1 a2 a3 s).1.blur b = s.blur b := by
  refine State.blur_mono ?_ hb
  unfold fuseHashHook
  simp (disch := decide) only [State.blur_ite_fst, ite_self, State.wr_blur]

theorem fuseHook_blur (a0 : Req) (a1 : ℕ) (a2 : ℕ) (a3 : ℕ) (s : State) {b : Nat} (hb : b &&& 0x1400000000000000000000000000000000028 = 0x1400000000000000000000000000000000028) : (fuseHook a0 a1 a2 a3 s).1.blur b = s.blur b := by
  refine State.blur_mono ?_ hb
  unfold fuseHook
  simp (disch := decide) only [State.blur_ite_fst, ite_self, State.blur_with_m, State.wr_blur, State.raise_blur]

theorem State.mouldStatus_blur (s : State) (a0 : ℕ) (a1 : ℕ) (a2 : ℕ) (a3 : Bool) {b : Nat} (hb : b &&& 0xff80000000000000 = 0xff80000000000000) : (State.mouldStatus s a0 a1 a2 a3).blur b = s.blur b := by
  refine State.blur_mono ?_ hb
  unfold State.mouldStatus
  repeat' first
    | with_reducible rfl
    | simp (disch := decide) only [State.wr_blur, State.wb_blur]
    | with_reducible refine State.blur_when _ _ _ ?_
    | with_reducible refine State.blur_each _ _ _ (fun t n => ?_)
    | split

theorem State.loadFail_blur (s : State) (a0 : ℕ) (a1 : ℕ) {b : Nat} (hb : b &&& 0x200000000000000000000000000000000000000000000000000000000000000000000000000000000000000000000000000000000000000000000010000000000000000ff804000000000a8 = 0x200000000000000000000000000000000000000000000000000000000000000000000000000000000000000000000000000000000000000000000010000000000000000ff804000000000a8) : (State.loadFail s a0 a1).blur b = s.blur b := by
  refine State.blur_mono ?_ hb
  unfold State.loadFail
  repeat' first
    | with_reducible rfl
    | simp (disch := decide) only [State.blur_ite, ite_self, State.blur_with_m, State.wr_blur, State.shard_blur, State.readCopy_blur, State.mouldStatus_blur, State.setMode_blur, State.raise_blur]
    | with_reducible refine State.blur_when _ _ _ ?_
    | with_reducible refine State.blur_each _ _ _ (fun t n => ?_)
    | split

theorem mouldCtlHook_blur (a0 : Req) (a1 : ℕ) (a2 : ℕ) (a3 : ℕ) (s : State) {b : Nat} (hb : b &&& 0x200000000000000000000000000000000000000000000000000000000000000000000000000000000000000000000000000000000000000000000010000000000000000ff804000000000a8 = 0x200000000000000000000000000000000000000000000000000000000000000000000000000000000000000000000000000000000000000000000010000000000000000ff804000000000a8) : (mouldCtlHook a0 a1 a2 a3 s).1.blur b = s.blur b := by
  refine State.blur_mono ?_ hb
  unfold mouldCtlHook
  repeat' first
    | with_reducible rfl
    | simp (disch := decide) only [State.blur_ite_fst, State.blur_with_m, State.loadFail_blur, State.wr_blur, State.setMode_blur, State.send_blur]
    | with_reducible refine State.blur_when _ _ _ ?_
    | with_reducible refine (State.blur_when _ _ _ ?_).trans ?_
    | split

theorem mouldAddrHook_blur (a0 : Req) (a1 : ℕ) (a2 : ℕ) (a3 : ℕ) (s : State) {b : Nat} (hb : b &&& 0x8000000000000000000000000000000000000 = 0x8000000000000000000000000000000000000) : (mouldAddrHook a0 a1 a2 a3 s).1.blur b = s.blur b := by
  refine State.blur_mono ?_ hb
  unfold mouldAddrHook
  simp (disch := decide) only [writeWord_blur]

theorem State.nvmAbort_blur (s : State) {b : Nat} (hb : b &&& 0x1000000000000000000000000100 = 0x1000000000000000000000000100) : (State.nvmAbort s).blur b = s.blur b := by
  refine State.blur_mono ?_ hb
  unfold State.nvmAbort
  repeat' first
    | with_reducible rfl
    | simp (disch := decide) only [State.blur_with_nvm, State.nvmProgram_blur, State.wr_blur]
    | split

theorem State.reqRefused_blur (s : State) (a0 : ℕ) {b : Nat} (hb : b &&& 0x1100000000000000000000000000000000000000020 = 0x1100000000000000000000000000000000000000020) : (State.reqRefused s a0).blur b = s.blur b := by
  refine State.blur_mono ?_ hb
  unfold State.reqRefused
  simp (disch := decide) only [State.raise_blur, State.wr_blur]

theorem State.hkRestart_blur (s : State) {b : Nat} (hb : b &&& 0x9fc000000000000000000000000000000000000000000000000000000000400000 = 0x9fc000000000000000000000000000000000000000000000000000000000400000) : (State.hkRestart s).blur b = s.blur b := by
  refine State.blur_mono ?_ hb
  unfold State.hkRestart
  simp only [List.foldl_cons, List.foldl_nil]
  simp (disch := decide) only [State.wr_blur, State.setSeq_blur]

theorem State.unhalt_blur (s : State) (a0 : ℕ) {b : Nat} (hb : b &&& 0x9fc000000000000000000000000000000000000000000000000000000000400000 = 0x9fc000000000000000000000000000000000000000000000000000000000400000) : (State.unhalt s a0).blur b = s.blur b := by
  refine State.blur_mono ?_ hb
  unfold State.unhalt
  simp (disch := decide) only [State.blur_ite, ite_self, State.hkRestart_blur, State.setSeq_blur, State.wr_blur]

theorem State.stopAtBoundary_blur (s : State) (a0 : ℕ) {b : Nat} (hb : b &&& 0x400000000000000000000000008000000000000000000000000000000000000000000000000000000000000000000000000000000028003c2000000004000000000000090040000000000000000000000000000000000000000511820 = 0x400000000000000000000000008000000000000000000000000000000000000000000000000000000000000000000000000000000028003c2000000004000000000000090040000000000000000000000000000000000000000511820) : (State.stopAtBoundary s a0).blur b = s.blur b := by
  refine State.blur_mono ?_ hb
  unfold State.stopAtBoundary
  repeat' first
    | with_reducible rfl
    | simp (disch := decide) only [State.blur_ite, ite_self, State.setPlay_blur, State.tileStop_blur]
    | with_reducible refine State.blur_when _ _ _ ?_
    | with_reducible refine State.blur_each _ _ _ (fun t n => ?_)
    | split

theorem State.stopTiles_blur (s : State) (a0 : Bool) {b : Nat} (hb : b &&& 0x400000000000000000000000008000000000000000000000000000000000000000000000000000000000000000000000000000000028003c2000000004000000000000090040000000000000000000000000000000000000000511820 = 0x400000000000000000000000008000000000000000000000000000000000000000000000000000000000000000000000000000000028003c2000000004000000000000090040000000000000000000000000000000000000000511820) : (State.stopTiles s a0).blur b = s.blur b := by
  refine State.blur_mono ?_ hb
  unfold State.stopTiles
  repeat' first
    | with_reducible rfl
    | simp (disch := decide) only [State.blur_ite, ite_self, State.tileStop_blur, State.stopAtBoundary_blur]
    | with_reducible refine State.blur_when _ _ _ ?_
    | with_reducible refine State.blur_each _ _ _ (fun t n => ?_)

theorem State.modeRequest_blur (s : State) (a0 : ℕ) (a1 : Bool) {b : Nat} (hb : b &&& 0x400000000000000000000000008000000000000000000000000000000000000000000000000000000000000000000000000000000028003c20000009fc000000000000090040001108000000000000000000000000000000000511828 = 0x400000000000000000000000008000000000000000000000000000000000000000000000000000000000000000000000000000000028003c20000009fc000000000000090040001108000000000000000000000000000000000511828) : (State.modeRequest s a0 a1).blur b = s.blur b := by
  refine State.blur_mono ?_ hb
  unfold State.modeRequest
  repeat' first
    | with_reducible rfl
    | simp (disch := decide) only [State.blur_ite, State.blur_with_m, State.reqRefused_blur, State.draw_blur, State.wr_blur, State.unhalt_blur, State.stopTiles_blur]
    | with_reducible refine State.blur_when _ _ _ ?_
    | with_reducible refine State.blur_each _ _ _ (fun t n => ?_)
    | with_reducible refine State.blur_foldl _ _ _ (fun t n => ?_)
    | with_reducible refine (State.blur_when _ _ _ ?_).trans ?_
    | with_reducible refine (State.blur_each _ _ _ (fun t n => ?_)).trans ?_
    | with_reducible refine (State.blur_foldl _ _ _ (fun t n => ?_)).trans ?_
    | with_reducible refine State.blur_foldl_fst _ _ _ _ (fun t n => ?_)
    | with_reducible refine (State.blur_foldl_fst _ _ _ _ (fun t n => ?_)).trans ?_
    | split

theorem State.modeWrite_blur (s : State) (a0 : ℕ) (a1 : ℕ) {b : Nat} (hb : b &&& 0x400000000000000000000000008000000000000000000000000000000000000000000000000000000000000000000000000000000028003c20000009fc000000000000090040001d08000000000000000000000000000000000511828 = 0x400000000000000000000000008000000000000000000000000000000000000000000000000000000000000000000000000000000028003c20000009fc000000000000090040001d08000000000000000000000000000000000511828) : (State.modeWrite s a0 a1).blur b = s.blur b := by
  refine State.blur_mono ?_ hb
  unfold State.modeWrite
  repeat' first
    | with_reducible rfl
    | simp (disch := decide) only [writeWord_blur, State.modeRequest_blur]
    | with_reducible refine State.blur_when _ _ _ ?_
    | with_reducible refine (State.blur_when _ _ _ ?_).trans ?_

theorem State.cancelStart_blur (s : State) (a0 : ℕ) (a1 : Bool) {b : Nat} (hb : b &&& 0x60000000000000000000000000000000000000000000000000000000000000000000000000000000000000000000000000060000000000000000000000000000000000000000028 = 0x60000000000000000000000000000000000000000000000000000000000000000000000000000000000000000000000000060000000000000000000000000000000000000000028) : (State.cancelStart s a0 a1).blur b = s.blur b := by
  refine State.blur_mono ?_ hb
  unfold State.cancelStart startRegs
  by_cases h : a0 = 16
  all_goals
    simp only [h, if_true, if_false]
    split
    · rfl
    · refine (State.blur_when _ _ _ ?_).trans ?_
      · simp (disch := decide) only [State.startRefused_blur]
      · simp (disch := decide) only [State.wr_blur, State.blur_with_m]

theorem State.idleReturn_blur (s : State) (a0 : ℕ) {b : Nat} (hb : b &&& 0x600000000000000000000000000000000000000000000000000000000000000000000000000000000000000000000000000000000000000000000000000000001e0000000000000000000000000000000000000000000000002100800 = 0x600000000000000000000000000000000000000000000000000000000000000000000000000000000000000000000000000000000000000000000000000000001e0000000000000000000000000000000000000000000000002100800) : (State.idleReturn s a0).blur b = s.blur b := by
  refine State.blur_mono ?_ hb
  unfold State.idleReturn
  repeat' first
    | with_reducible rfl
    | simp (disch := decide) only [State.blur_ite, ite_self, State.laneFlush_blur, State.blockedCheck_blur, State.setLane_blur, State.capsOut_blur]
    | with_reducible refine State.blur_when _ _ _ ?_
    | with_reducible refine State.blur_each _ _ _ (fun t n => ?_)
    | with_reducible refine State.blur_foldl _ _ _ (fun t n => ?_)

theorem State.ncoOrigin_blur (s : State) (a0 : ℕ) (a1 : ℕ) (a2 : ℕ) {b : Nat} (hb : b &&& 0x100000 = 0x100000) : (State.ncoOrigin s a0 a1 a2).blur b = s.blur b := by
  refine State.blur_mono ?_ hb
  unfold State.ncoOrigin
  simp (disch := decide) only [State.setPlay_blur]

theorem State.tileStart_blur (s : State) (a0 : ℕ) (a1 : ℕ) {b : Nat} (hb : b &&& 0x600000000000000000000000008000000000000000000000000000000000000000000000000000000000000000000000000000000000417c20c00009fc0000001e0000000000000000000000000000000000000000000000002510820 = 0x600000000000000000000000008000000000000000000000000000000000000000000000000000000000000000000000000000000000417c20c00009fc0000001e0000000000000000000000000000000000000000000000002510820) : (State.tileStart s a0 a1).blur b = s.blur b := by
  refine State.blur_mono ?_ hb
  unfold State.tileStart
  simp only [List.foldl_cons, List.foldl_nil]
  repeat' first
    | with_reducible rfl
    | simp (disch := decide) only [State.idleReturn_blur, State.gapEnd_blur, State.setLane_blur, State.setPlay_blur, State.choose_blur, State.wr_blur, State.ncoOrigin_blur, State.ncoSync_blur, State.releaseHolder_blur, State.segSync_blur, State.setSeq_blur]
    | with_reducible refine State.blur_each _ _ _ (fun t n => ?_)
    | with_reducible refine (State.blur_each _ _ _ (fun t n => ?_)).trans ?_

theorem State.launch_blur (s : State) (a0 : ℕ) (a1 : ℕ) {b : Nat} (hb : b &&& 0x600000000000000000000000008000000000000000400000000000000000000000000000000000000000000000000000000000000000417c20c00009fc0000001e0000000000040000000000000000000000000000000000002510820 = 0x600000000000000000000000008000000000000000400000000000000000000000000000000000000000000000000000000000000000417c20c00009fc0000001e0000000000040000000000000000000000000000000000002510820) : (State.launch s a0 a1).blur b = s.blur b := by
  refine State.blur_mono ?_ hb
  unfold State.launch
  repeat' first
    | with_reducible rfl
    | simp (disch := decide) only [State.blur_ite, ite_self, State.tileStart_blur, State.startRefused_blur]
    | with_reducible refine State.blur_when _ _ _ ?_
    | with_reducible refine State.blur_each _ _ _ (fun t n => ?_)
    | with_reducible refine State.blur_foldl _ _ _ (fun t n => ?_)
    | with_reducible refine (State.blur_when _ _ _ ?_).trans ?_

theorem startHook_blur (a0 : ℕ) (a1 : ℕ) (a2 : ℕ) (a3 : ℕ) (s : State) {b : Nat} (hb : b &&& 0x6000000000000000000000000080000000000000006e0000000000000000000000000000000000000000000000000000000000000000417c20c00009fc0000001e000000000006e000000000000000000000000000000000002510828 = 0x6000000000000000000000000080000000000000006e0000000000000000000000000000000000000000000000000000000000000000417c20c00009fc0000001e000000000006e000000000000000000000000000000000002510828) : (startHook a0 a1 a2 a3 s).1.blur b = s.blur b := by
  refine State.blur_mono ?_ hb
  unfold startHook
  by_cases h : a0 = 16
  all_goals simp only [h, if_true, if_false, startRegs]
  repeat' first
    | with_reducible rfl
    | split
    | simp (disch := decide) only [State.startRefused_blur, writeFields_blur, State.cancelStart_blur, State.wr_blur, State.launch_blur]
    | with_reducible refine State.blur_when _ _ _ ?_
    | with_reducible refine (State.blur_when _ _ _ ?_).trans ?_

theorem devStartHook_blur (a0 : ℕ) (a1 : Req) (a2 : ℕ) (a3 : ℕ) (a4 : ℕ) (s : State) {b : Nat} (hb : b &&& 0x6000000000000000000000000080000000000000006e0000000000000000000000000000000000000000000000000000000000000000417c20c00009fc0000001e000000000006e000000000000000000000000000000000002510828 = 0x6000000000000000000000000080000000000000006e0000000000000000000000000000000000000000000000000000000000000000417c20c00009fc0000001e000000000006e000000000000000000000000000000000002510828) : (devStartHook a0 a1 a2 a3 a4 s).1.blur b = s.blur b := by
  refine State.blur_mono ?_ hb
  unfold devStartHook
  simp (disch := decide) only [startHook_blur]

theorem sagStartHook_blur (a0 : ℕ) (a1 : Req) (a2 : ℕ) (a3 : ℕ) (a4 : ℕ) (s : State) {b : Nat} (hb : b &&& 0x6000000000000000000000000080000000000000006e0000000000000000000000000000000000000000000000000000000000000000417c20c00009fc0000001e000000000006e000000000000000000000000000000000002510828 = 0x6000000000000000000000000080000000000000006e0000000000000000000000000000000000000000000000000000000000000000417c20c00009fc0000001e000000000006e000000000000000000000000000000000002510828) : (sagStartHook a0 a1 a2 a3 a4 s).1.blur b = s.blur b := by
  refine State.blur_mono ?_ hb
  unfold sagStartHook
  simp (disch := decide) only [startHook_blur]

theorem State.flashGo_blur (s : State) {b : Nat} (hb : b &&& 0x8200000000000000000000000000000000000000000000000000000000000000000000000000000000000000000000000000000000000000000000000000000000000000000000010000000 = 0x8200000000000000000000000000000000000000000000000000000000000000000000000000000000000000000000000000000000000000000000000000000000000000000000010000000) : (State.flashGo s).blur b = s.blur b := by
  refine State.blur_mono ?_ hb
  unfold State.flashGo
  repeat' first
    | with_reducible rfl
    | simp (disch := decide) only [State.blur_with_flash, State.wr_blur, State.send_blur]
    | with_reducible refine State.blur_when _ _ _ ?_
    | with_reducible refine (State.blur_when _ _ _ ?_).trans ?_

theorem flsCmdHook_blur (a0 : Req) (a1 : ℕ) (a2 : ℕ) (a3 : ℕ) (s : State) {b : Nat} (hb : b &&& 0x82fe000000000000000000000000000000000000000000000000000000000000000000000000000000000000000000000000000000000000000000000000000000000000000000010000000 = 0x82fe000000000000000000000000000000000000000000000000000000000000000000000000000000000000000000000000000000000000000000000000000000000000000000010000000) : (flsCmdHook a0 a1 a2 a3 s).1.blur b = s.blur b := by
  refine State.blur_mono ?_ hb
  unfold flsCmdHook
  simp (disch := decide) only [State.blur_ite_fst, ite_self, writeWord_blur, State.flashGo_blur, State.wr_blur]

theorem readmitHook_blur (a0 : Req) (a1 : ℕ) (a2 : ℕ) (a3 : ℕ) (s : State) {b : Nat} (hb : b &&& 0x40000000000000040000000 = 0x40000000000000040000000) : (readmitHook a0 a1 a2 a3 s).1.blur b = s.blur b := by
  refine State.blur_mono ?_ hb
  unfold readmitHook
  simp (disch := decide) only [State.blur_ite_fst, ite_self, State.blur_with_hk, State.wr_blur]

theorem supplyLimHook_blur (a0 : Req) (a1 : ℕ) (a2 : ℕ) (a3 : ℕ) (s : State) {b : Nat} (hb : b &&& 0x6000000000000000000000 = 0x6000000000000000000000) : (supplyLimHook a0 a1 a2 a3 s).1.blur b = s.blur b := by
  refine State.blur_mono ?_ hb
  unfold supplyLimHook
  simp (disch := decide) only [State.blur_ite_fst, ite_self, writeWord_blur]

theorem nvmBufHook_blur (a0 : Req) (a1 : ℕ) (a2 : ℕ) (a3 : ℕ) (s : State) {b : Nat} (hb : b &&& 0x4000000000000000000000000000000000000000000000000000000000000000000000000000000000000000000000000000000000000000000000000000000000000000000000000000000000000000000 = 0x4000000000000000000000000000000000000000000000000000000000000000000000000000000000000000000000000000000000000000000000000000000000000000000000000000000000000000000) : (nvmBufHook a0 a1 a2 a3 s).1.blur b = s.blur b := by
  refine State.blur_mono ?_ hb
  unfold nvmBufHook
  simp (disch := decide) only [State.blur_ite_fst, ite_self, writeWord_blur]

theorem State.gapLeave_blur (s : State) (a0 : ℕ) {b : Nat} (hb : b &&& 0x40000000000000000000000000000000000000000000000000000000000000000000000000000000000000000000000000000000000000000000000000000000000000000000000000000000000000000000000000000000000000800 = 0x40000000000000000000000000000000000000000000000000000000000000000000000000000000000000000000000000000000000000000000000000000000000000000000000000000000000000000000000000000000000000800) : (State.gapLeave s a0).blur b = s.blur b := by
  refine State.blur_mono ?_ hb
  unfold State.gapLeave
  repeat' first
    | with_reducible rfl
    | simp (disch := decide) only [State.gapReturn_blur]
    | split

theorem State.calReq_blur (s : State) (a0 : ℕ) {b : Nat} (hb : b &&& 0x40000000000000000000000000000000000000000000000000000000000000000000000000000000000000000000000000000000000000000000000000000000000000000000000000000010000 = 0x40000000000000000000000000000000000000000000000000000000000000000000000000000000000000000000000000000000000000000000000000000000000000000000000000000010000) : (State.calReq s a0).blur b = s.blur b := by
  refine State.blur_mono ?_ hb
  unfold State.calReq
  simp (disch := decide) only [State.blur_ite, ite_self, State.wr_blur, State.calStart_blur]

theorem calCtlHook_blur (a0 : Req) (a1 : ℕ) (a2 : ℕ) (a3 : ℕ) (s : State) {b : Nat} (hb : b &&& 0x400000000000000000000000000001f2000000000000000000000000000000000000000000000000000000000000000000000000000000000000000000000000000000000000000000000000000000000000000000000000000010800 = 0x400000000000000000000000000001f2000000000000000000000000000000000000000000000000000000000000000000000000000000000000000000000000000000000000000000000000000000000000000000000000000010800) : (calCtlHook a0 a1 a2 a3 s).1.blur b = s.blur b := by
  refine State.blur_mono ?_ hb
  unfold calCtlHook
  repeat' first
    | with_reducible rfl
    | simp (disch := decide) only [writeWord_blur, State.setCal_blur, State.gapLeave_blur, State.calReq_blur]
    | with_reducible refine State.blur_when _ _ _ ?_
    | with_reducible refine (State.blur_when _ _ _ ?_).trans ?_

theorem routeHook_blur (a0 : Req) (a1 : ℕ) (a2 : ℕ) (a3 : ℕ) (s : State) {b : Nat} (hb : b &&& 0x3c40000000000000000000000000000000000000000000000000000000000000000000000000000000000000000000000000000000000000000000020 = 0x3c40000000000000000000000000000000000000000000000000000000000000000000000000000000000000000000000000000000000000000000020) : (routeHook a0 a1 a2 a3 s).1.blur b = s.blur b := by
  refine State.blur_mono ?_ hb
  unfold routeHook
  repeat' first
    | with_reducible rfl
    | simp (disch := decide) only [State.blur_ite_fst, State.wr_blur, writeWord_blur, State.arrive_blur]
    | with_reducible refine State.blur_when _ _ _ ?_
    | with_reducible refine (State.blur_when _ _ _ ?_).trans ?_
    | split

theorem srcStatusHook_blur (a0 : Req) (a1 : ℕ) (a2 : ℕ) (a3 : ℕ) (s : State) {b : Nat} (hb : b &&& 32 = 32) : (srcStatusHook a0 a1 a2 a3 s).1.blur b = s.blur b := by
  refine State.blur_mono ?_ hb
  unfold srcStatusHook
  repeat' first
    | with_reducible rfl
    | simp (disch := decide) only [State.blur_ite, ite_self, State.setSrc_blur, State.arrive_blur]
    | with_reducible refine State.blur_when _ _ _ ?_
    | with_reducible refine State.blur_each _ _ _ (fun t n => ?_)
    | with_reducible refine State.blur_foldl _ _ _ (fun t n => ?_)
    | with_reducible refine (State.blur_when _ _ _ ?_).trans ?_
    | with_reducible refine (State.blur_each _ _ _ (fun t n => ?_)).trans ?_
    | with_reducible refine (State.blur_foldl _ _ _ (fun t n => ?_)).trans ?_
    | with_reducible refine State.blur_foldl_fst _ _ _ _ (fun t n => ?_)
    | with_reducible refine (State.blur_foldl_fst _ _ _ _ (fun t n => ?_)).trans ?_
    | with_reducible refine Fx.of_blur _ _ ?_

theorem State.msix_blur (s : State) (a0 : ℕ) (a1 : ℕ) {b : Nat} (hb : b &&& 1024 = 1024) : (State.msix s a0 a1).blur b = s.blur b := by
  refine State.blur_mono ?_ hb
  unfold State.msix
  simp (disch := decide) only [State.blur_ite, ite_self, State.blur_with_host, State.send_blur]

theorem State.notice_blur (s : State) (a0 : ℕ) {b : Nat} (hb : b &&& 0x400000000000000000000000000000000000000000000000000000000000000000000000000000000000000200000000000000000000000000000000000000000000000000000000000000000000000000000000000000000000000000000000000000000000420 = 0x400000000000000000000000000000000000000000000000000000000000000000000000000000000000000200000000000000000000000000000000000000000000000000000000000000000000000000000000000000000000000000000000000000000000420) : (State.notice s a0).blur b = s.blur b := by
  refine State.blur_mono ?_ hb
  unfold State.notice
  repeat' first
    | with_reducible rfl
    | simp (disch := decide) only [State.blur_ite, State.setQueue_blur, State.wr_blur, State.msix_blur]
    | split

theorem rptrHook_blur (a0 : Req) (a1 : ℕ) (a2 : ℕ) (a3 : ℕ) (s : State) {b : Nat} (hb : b &&& 0x700000000000000000000000000000000000000000000000000000000000000000000000000000000000000200000000000000000000000000000000000000000000000000000000000000000000000000000000000000000000000000000000000000000000420 = 0x700000000000000000000000000000000000000000000000000000000000000000000000000000000000000200000000000000000000000000000000000000000000000000000000000000000000000000000000000000000000000000000000000000000000420) : (rptrHook a0 a1 a2 a3 s).1.blur b = s.blur b := by
  refine State.blur_mono ?_ hb
  unfold rptrHook
  repeat' first
    | with_reducible rfl
    | simp (disch := decide) only [State.blur_ite_fst, State.release_blur, State.qSync_blur, State.wr_blur, State.setQueue_blur, State.notice_blur]
    | with_reducible refine State.blur_when _ _ _ ?_
    | with_reducible refine State.blur_each _ _ _ (fun t n => ?_)
    | with_reducible refine State.blur_foldl _ _ _ (fun t n => ?_)
    | with_reducible refine (State.blur_when _ _ _ ?_).trans ?_
    | with_reducible refine (State.blur_each _ _ _ (fun t n => ?_)).trans ?_
    | with_reducible refine (State.blur_foldl _ _ _ (fun t n => ?_)).trans ?_
    | with_reducible refine State.blur_foldl_fst _ _ _ _ (fun t n => ?_)
    | with_reducible refine (State.blur_foldl_fst _ _ _ _ (fun t n => ?_)).trans ?_
    | split

theorem queueBaseHook_blur (a0 : Reg) (a1 : Req) (a2 : ℕ) (a3 : ℕ) (a4 : ℕ) (s : State) {b : Nat} (hb : b &&& 0 = 0) (hf : ∀ f ∈ a0.fields, f.acc.writes = true → b.testBit (32 + f.key % 1024) = true) : (queueBaseHook a0 a1 a2 a3 a4 s).1.blur b = s.blur b := by
  unfold queueBaseHook
  simp (disch := first | decide | exact hf | (apply and_parts hb; decide) | (apply testBit_of_and hb; decide)) only [State.blur_ite_fst, ite_self, writeWord_blur]

theorem addendHook_blur (a0 : Req) (a1 : ℕ) (a2 : ℕ) (a3 : ℕ) (s : State) {b : Nat} (hb : b &&& 0x40000000000000001000000000000000040 = 0x40000000000000001000000000000000040) : (addendHook a0 a1 a2 a3 s).1.blur b = s.blur b := by
  refine State.blur_mono ?_ hb
  unfold addendHook
  simp (disch := decide) only [State.blur_ite_fst, ite_self, State.blur_with_time, State.wr_blur]

theorem adjTicksHook_blur (a0 : Req) (a1 : ℕ) (a2 : ℕ) (a3 : ℕ) (s : State) {b : Nat} (hb : b &&& 0x40000000000000000000000000000000040 = 0x40000000000000000000000000000000040) : (adjTicksHook a0 a1 a2 a3 s).1.blur b = s.blur b := by
  refine State.blur_mono ?_ hb
  unfold adjTicksHook
  simp (disch := decide) only [State.blur_ite_fst, ite_self, State.blur_with_time, State.wr_blur]

theorem stepCtlHook_blur (a0 : Req) (a1 : ℕ) (a2 : ℕ) (a3 : ℕ) (s : State) {b : Nat} (hb : b &&& 0x380000000000000000000000000000000000000000000000000000000000000000000000000000000000000000000000000000000000000000000000000040 = 0x380000000000000000000000000000000000000000000000000000000000000000000000000000000000000000000000000000000000000000000000000040) : (stepCtlHook a0 a1 a2 a3 s).1.blur b = s.blur b := by
  refine State.blur_mono ?_ hb
  unfold stepCtlHook
  repeat' first
    | with_reducible rfl
    | simp (disch := decide) only [State.blur_ite_fst, State.blur_with_time, writeWord_blur, State.wr_blur]
    | with_reducible refine State.blur_when _ _ _ ?_
    | with_reducible refine (State.blur_when _ _ _ ?_).trans ?_
    | split

theorem qualHook_blur (a0 : Req) (a1 : ℕ) (a2 : ℕ) (a3 : ℕ) (s : State) {b : Nat} (hb : b &&& 0xc0000000000000002000000000000000060 = 0xc0000000000000002000000000000000060) : (qualHook a0 a1 a2 a3 s).1.blur b = s.blur b := by
  refine State.blur_mono ?_ hb
  unfold qualHook
  repeat' first
    | with_reducible rfl
    | simp (disch := decide) only [State.wr_blur, writeFields_blur, State.quals_blur, State.syncRestart_blur]
    | with_reducible refine State.blur_when _ _ _ ?_
    | with_reducible refine (State.blur_when _ _ _ ?_).trans ?_

theorem rxHook_blur (a0 : Req) (a1 : ℕ) (a2 : ℕ) (a3 : ℕ) (s : State) {b : Nat} (hb : b &&& 0x180000000000000000000000000000000000000000000000000000000000000000000000000000000000000000000000000000000000000000000000000000000 = 0x180000000000000000000000000000000000000000000000000000000000000000000000000000000000000000000000000000000000000000000000000000000) : (rxHook a0 a1 a2 a3 s).1.blur b = s.blur b := by
  refine State.blur_mono ?_ hb
  unfold rxHook
  simp (disch := decide) only [State.blur_ite_fst, ite_self, State.wr_blur]

theorem State.setPort_blur (s : State) (a0 : ℕ) (a1 : PortSt) {b : Nat} (hb : b &&& 64 = 64) : (State.setPort s a0 a1).blur b = s.blur b := by
  refine State.blur_mono ?_ hb
  unfold State.setPort
  simp (disch := decide) only [State.blur_with_time]

theorem txHook_blur (a0 : Req) (a1 : ℕ) (a2 : ℕ) (a3 : ℕ) (s : State) {b : Nat} (hb : b &&& 0x5c03000000000000000000000000000000000000000000000000000000000000000000000000000000000000000000000000000000000000000000000000000040 = 0x5c03000000000000000000000000000000000000000000000000000000000000000000000000000000000000000000000000000000000000000000000000000040) : (txHook a0 a1 a2 a3 s).1.blur b = s.blur b := by
  refine State.blur_mono ?_ hb
  unfold txHook
  repeat' first
    | with_reducible rfl
    | simp (disch := decide) only [State.blur_ite_fst, State.wr_blur, writeWord_blur, State.setPort_blur]
    | with_reducible refine State.blur_when _ _ _ ?_
    | with_reducible refine (State.blur_when _ _ _ ?_).trans ?_
    | split

theorem State.setTev_blur (s : State) (a0 : ℕ) (a1 : TevSt) {b : Nat} (hb : b &&& 64 = 64) : (State.setTev s a0 a1).blur b = s.blur b := by
  refine State.blur_mono ?_ hb
  unfold State.setTev
  simp (disch := decide) only [State.blur_with_time]

theorem tevCtlHook_blur (a0 : Req) (a1 : ℕ) (a2 : ℕ) (a3 : ℕ) (s : State) {b : Nat} (hb : b &&& 0x60000078000000000000000000000000000000000000000000000000000000000000000000000000000000000000000000060000000000000000000000000000000000000000068 = 0x60000078000000000000000000000000000000000000000000000000000000000000000000000000000000000000000000060000000000000000000000000000000000000000068) : (tevCtlHook a0 a1 a2 a3 s).1.blur b = s.blur b := by
  refine State.blur_mono ?_ hb
  unfold tevCtlHook
  repeat' first
    | with_reducible rfl
    | simp (disch := decide) only [State.blur_ite_fst, writeWord_blur, State.cancelStart_blur, State.setTev_blur, State.wr_blur]
    | with_reducible refine State.blur_when _ _ _ ?_
    | with_reducible refine State.blur_each _ _ _ (fun t n => ?_)
    | with_reducible refine State.blur_foldl _ _ _ (fun t n => ?_)
    | with_reducible refine (State.blur_when _ _ _ ?_).trans ?_
    | with_reducible refine (State.blur_each _ _ _ (fun t n => ?_)).trans ?_
    | with_reducible refine (State.blur_foldl _ _ _ (fun t n => ?_)).trans ?_
    | with_reducible refine State.blur_foldl_fst _ _ _ _ (fun t n => ?_)
    | with_reducible refine (State.blur_foldl_fst _ _ _ _ (fun t n => ?_)).trans ?_
    | split

theorem tevCfgHook_blur (a0 : Reg) (a1 : Req) (a2 : ℕ) (a3 : ℕ) (a4 : ℕ) (s : State) {b : Nat} (hb : b &&& 0 = 0) (hf : ∀ f ∈ a0.fields, f.acc.writes = true → b.testBit (32 + f.key % 1024) = true) : (tevCfgHook a0 a1 a2 a3 a4 s).1.blur b = s.blur b := by
  unfold tevCfgHook
  simp (disch := first | decide | exact hf | (apply and_parts hb; decide) | (apply testBit_of_and hb; decide)) only [State.blur_ite_fst, ite_self, writeWord_blur]

theorem quotaHook_blur (a0 : Reg) (a1 : Req) (a2 : ℕ) (a3 : ℕ) (a4 : ℕ) (s : State) {b : Nat} (hb : b &&& 0x1e00000000000000000000000000000000000000000000000000000000000000000000000000000000000000000000000000000000000000000000000000000000000000000000000020 = 0x1e00000000000000000000000000000000000000000000000000000000000000000000000000000000000000000000000000000000000000000000000000000000000000000000000020) (hf : ∀ f ∈ a0.fields, f.acc.writes = true → b.testBit (32 + f.key % 1024) = true) : (quotaHook a0 a1 a2 a3 a4 s).1.blur b = s.blur b := by
  unfold quotaHook
  simp (disch := first | decide | exact hf | (apply and_parts hb; decide) | (apply testBit_of_and hb; decide)) only [State.blur_ite_fst, ite_self, writeWord_blur, State.overSync_blur, State.wr_blur]

theorem dmaBaseHook_blur (a0 : Reg) (a1 : Req) (a2 : ℕ) (a3 : ℕ) (a4 : ℕ) (s : State) {b : Nat} (hb : b &&& 0 = 0) (hf : ∀ f ∈ a0.fields, f.acc.writes = true → b.testBit (32 + f.key % 1024) = true) : (dmaBaseHook a0 a1 a2 a3 a4 s).1.blur b = s.blur b := by
  unfold dmaBaseHook
  simp (disch := first | decide | exact hf | (apply and_parts hb; decide) | (apply testBit_of_and hb; decide)) only [State.blur_ite_fst, ite_self, writeWord_blur]

theorem redCmdHook_blur (a0 : Req) (a1 : ℕ) (a2 : ℕ) (a3 : ℕ) (s : State) {b : Nat} (hb : b &&& 0x28000000000000000000000000000000000000000000000000000000000000000000000000000000000000000000000000000004000000000000000000000000000000000000000000000000000000000000000000001200060000000000000004000010003a0 = 0x28000000000000000000000000000000000000000000000000000000000000000000000000000000000000000000000000000004000000000000000000000000000000000000000000000000000000000000000000001200060000000000000004000010003a0) : (redCmdHook a0 a1 a2 a3 s).1.blur b = s.blur b := by
  refine State.blur_mono ?_ hb
  unfold redCmdHook
  simp (disch := decide) only [State.blur_ite_fst, ite_self, writeWord_blur, State.wr_blur, State.ctxCmd_blur]

theorem grpAreaHook_blur (a0 : Req) (a1 : ℕ) (a2 : ℕ) (a3 : ℕ) (s : State) {b : Nat} (hb : b &&& 0x3980000000000000000000000000000000000000000000000000000000000000000000000000000000000000000000000000000000000000000000000000000000000000000000000000000000000000000000000000000000000000000000000000000000000 = 0x3980000000000000000000000000000000000000000000000000000000000000000000000000000000000000000000000000000000000000000000000000000000000000000000000000000000000000000000000000000000000000000000000000000000000) : (grpAreaHook a0 a1 a2 a3 s).1.blur b = s.blur b := by
  refine State.blur_mono ?_ hb
  unfold grpAreaHook
  simp (disch := decide) only [State.blur_ite_fst, ite_self, State.wr_blur, writeWord_blur, State.grpSync_blur]

theorem State.ctxDrain_blur (s : State) {b : Nat} (hb : b &&& 0x28000000000000000000000000000000000000000000000000000000000000000000000000000000000000000000000000000000000000000000000000000000000000000000000000000000000000000000000000001200060000000000000004000010003a0 = 0x28000000000000000000000000000000000000000000000000000000000000000000000000000000000000000000000000000000000000000000000000000000000000000000000000000000000000000000000000001200060000000000000004000010003a0) : (State.ctxDrain s).blur b = s.blur b := by
  refine State.blur_mono ?_ hb
  unfold State.ctxDrain
  repeat' first
    | with_reducible rfl
    | simp (disch := decide) only [State.blur_ite, ite_self, State.grpSync_blur, State.ctxWritten_blur]
    | with_reducible refine State.blur_when _ _ _ ?_
    | with_reducible refine State.blur_each _ _ _ (fun t n => ?_)

theorem grpRptrHook_blur (a0 : Req) (a1 : ℕ) (a2 : ℕ) (a3 : ℕ) (s : State) {b : Nat} (hb : b &&& 0x2c000000000000000000000000000000000000000000000000000000000000000000000000000000000000000000000000000000000000000000000000000000000000000000000000000000000000000000000000001200060000000000000004000010003a0 = 0x2c000000000000000000000000000000000000000000000000000000000000000000000000000000000000000000000000000000000000000000000000000000000000000000000000000000000000000000000000001200060000000000000004000010003a0) : (grpRptrHook a0 a1 a2 a3 s).1.blur b = s.blur b := by
  refine State.blur_mono ?_ hb
  unfold grpRptrHook
  simp (disch := decide) only [writeWord_blur, State.grpSync_blur, State.ctxDrain_blur]

theorem tdcCfgHook_blur (a0 : Req) (a1 : ℕ) (a2 : ℕ) (a3 : ℕ) (s : State) {b : Nat} (hb : b &&& 0x7f000000000000000000000000000000000000000000000000000000000000000000000000000000000000000000000000000000 = 0x7f000000000000000000000000000000000000000000000000000000000000000000000000000000000000000000000000000000) : (tdcCfgHook a0 a1 a2 a3 s).1.blur b = s.blur b := by
  refine State.blur_mono ?_ hb
  unfold tdcCfgHook
  simp (disch := decide) only [State.blur_ite_fst, ite_self, writeWord_blur]

theorem tdcCtlHook_blur (a0 : Req) (a1 : ℕ) (a2 : ℕ) (a3 : ℕ) (s : State) {b : Nat} (hb : b &&& 0x800000000000000000000000000000000000000000000000000001800000000000000000000000000000000000000000000000000000000000000000000000000000000000000000000000000810000 = 0x800000000000000000000000000000000000000000000000000001800000000000000000000000000000000000000000000000000000000000000000000000000000000000000000000000000810000) : (tdcCtlHook a0 a1 a2 a3 s).1.blur b = s.blur b := by
  refine State.blur_mono ?_ hb
  unfold tdcCtlHook
  repeat' first
    | with_reducible rfl
    | simp (disch := decide) only [State.blur_ite_fst, State.tdcDisarm_blur, State.tdcArm_blur]
    | with_reducible refine State.blur_when _ _ _ ?_
    | with_reducible refine (State.blur_when _ _ _ ?_).trans ?_
    | split

theorem seqCtlHook_blur (a0 : Req) (a1 : ℕ) (a2 : ℕ) (a3 : ℕ) (s : State) {b : Nat} (hb : b &&& 0x1c00000000000000000000000000000000000000000000000000000000000000 = 0x1c00000000000000000000000000000000000000000000000000000000000000) : (seqCtlHook a0 a1 a2 a3 s).1.blur b = s.blur b := by
  refine State.blur_mono ?_ hb
  unfold seqCtlHook
  repeat' first
    | with_reducible rfl
    | simp (disch := decide) only [writeFields_blur]
    | split

theorem programHook_blur (a0 : Reg) (a1 : Req) (a2 : ℕ) (a3 : ℕ) (a4 : ℕ) (s : State) {b : Nat} (hb : b &&& 0x8000000000000000000000000000000000000000000000000000000000000000000 = 0x8000000000000000000000000000000000000000000000000000000000000000000) (hf : ∀ f ∈ a0.fields, f.acc.writes = true → b.testBit (32 + f.key % 1024) = true) : (programHook a0 a1 a2 a3 a4 s).1.blur b = s.blur b := by
  unfold programHook
  repeat' first
    | with_reducible rfl
    | simp (disch := first | decide | exact hf | (apply and_parts hb; decide) | (apply testBit_of_and hb; decide)) only [writeWord_blur, State.wr_blur]
    | with_reducible refine Fx.of_blur _ _ ?_
    | with_reducible refine Fx.then_blur _ _ _ ?_ (fun t => ?_)

theorem loadHook_blur (a0 : Req) (a1 : ℕ) (a2 : ℕ) (a3 : ℕ) (s : State) {b : Nat} (hb : b &&& 0x4000000000000000000000000000000000000000000000000000000000000400000 = 0x4000000000000000000000000000000000000000000000000000000000000400000) : (loadHook a0 a1 a2 a3 s).1.blur b = s.blur b := by
  refine State.blur_mono ?_ hb
  unfold loadHook
  simp (disch := decide) only [State.blur_ite_fst, ite_self, State.setSeq_blur, State.wr_blur]

theorem cntHook_blur (a0 : Req) (a1 : ℕ) (a2 : ℕ) (a3 : ℕ) (s : State) {b : Nat} (hb : b &&& 0x800000000000000000000000000000000000000000000000000000000000000000000000000000000000000000000000000000000000000000000000000000000000000000000000000000000000000000000000000 = 0x800000000000000000000000000000000000000000000000000000000000000000000000000000000000000000000000000000000000000000000000000000000000000000000000000000000000000000000000000) : (cntHook a0 a1 a2 a3 s).1.blur b = s.blur b := by
  refine State.blur_mono ?_ hb
  unfold cntHook
  simp (disch := decide) only [State.blur_ite_fst, ite_self, writeWord_blur]

theorem timeoutHook_blur (a0 : Req) (a1 : ℕ) (a2 : ℕ) (a3 : ℕ) (s : State) {b : Nat} (hb : b &&& 0x4000000000000000000000000000000000000000000000000000000000000000000000000000000000000000000000000000000000000000000000000000000000000000000000000000000000000000000000000000 = 0x4000000000000000000000000000000000000000000000000000000000000000000000000000000000000000000000000000000000000000000000000000000000000000000000000000000000000000000000000000) : (timeoutHook a0 a1 a2 a3 s).1.blur b = s.blur b := by
  refine State.blur_mono ?_ hb
  unfold timeoutHook
  simp (disch := decide) only [State.blur_ite_fst, ite_self, writeWord_blur]

theorem cmpCtlHook_blur (a0 : Req) (a1 : ℕ) (a2 : ℕ) (a3 : ℕ) (s : State) {b : Nat} (hb : b &&& 0x7fc040088000000000000000000000000000000000000000000000000000000000000000000000000100000 = 0x7fc040088000000000000000000000000000000000000000000000000000000000000000000000000100000) : (cmpCtlHook a0 a1 a2 a3 s).1.blur b = s.blur b := by
  refine State.blur_mono ?_ hb
  unfold cmpCtlHook
  repeat' first
    | with_reducible rfl
    | simp (disch := decide) only [State.wr_blur, State.clearFail_blur]
    | with_reducible refine State.blur_when _ _ _ ?_
    | with_reducible refine State.blur_each _ _ _ (fun t n => ?_)
    | with_reducible refine State.blur_foldl _ _ _ (fun t n => ?_)
    | with_reducible refine (State.blur_when _ _ _ ?_).trans ?_
    | with_reducible refine (State.blur_each _ _ _ (fun t n => ?_)).trans ?_
    | with_reducible refine (State.blur_foldl _ _ _ (fun t n => ?_)).trans ?_
    | with_reducible refine State.blur_foldl_fst _ _ _ _ (fun t n => ?_)
    | with_reducible refine (State.blur_foldl_fst _ _ _ _ (fun t n => ?_)).trans ?_
    | with_reducible refine Fx.of_blur _ _ ?_

theorem logAreaHook_blur (a0 : Req) (a1 : ℕ) (a2 : ℕ) (a3 : ℕ) (s : State) {b : Nat} (hb : b &&& 0x13000000000000000000000000000000000000000000000000000000000000000000000000000000000 = 0x13000000000000000000000000000000000000000000000000000000000000000000000000000000000) : (logAreaHook a0 a1 a2 a3 s).1.blur b = s.blur b := by
  refine State.blur_mono ?_ hb
  unfold logAreaHook
  simp (disch := decide) only [State.blur_ite_fst, ite_self, State.wr_blur, writeWord_blur]

theorem siteCtlHook_blur (a0 : Req) (a1 : ℕ) (a2 : ℕ) (a3 : ℕ) (s : State) {b : Nat} (hb : b &&& 0x3fc380000000000000000000000000000000000000000000000000000000000000000000000000000100000 = 0x3fc380000000000000000000000000000000000000000000000000000000000000000000000000000100000) : (siteCtlHook a0 a1 a2 a3 s).1.blur b = s.blur b := by
  refine State.blur_mono ?_ hb
  unfold siteCtlHook
  repeat' first
    | with_reducible rfl
    | simp (disch := decide) only [State.blur_ite_fst, writeWord_blur, State.clearFail_blur, State.wr_blur]
    | with_reducible refine State.blur_when _ _ _ ?_
    | with_reducible refine (State.blur_when _ _ _ ?_).trans ?_
    | split

theorem State.acqClosing_blur (s : State) (a0 : ℕ) (a1 : ℕ) {b : Nat} (hb : b &&& 0x1000000000000000000000000000000000000000000000000000000000000000000000000000000000000000000000000000000002000000 = 0x1000000000000000000000000000000000000000000000000000000000000000000000000000000000000000000000000000000002000000) : (State.acqClosing s a0 a1).blur b = s.blur b := by
  refine State.blur_mono ?_ hb
  unfold State.acqClosing
  simp (disch := decide) only [State.wr_blur, State.setAcq_blur]

theorem State.acqDisarm_blur (s : State) (a0 : ℕ) {b : Nat} (hb : b &&& 0x1000000000000000000000000000000000000000000000000000000000000000000000000000000000000000000000000000000002000000 = 0x1000000000000000000000000000000000000000000000000000000000000000000000000000000000000000000000000000000002000000) : (State.acqDisarm s a0).blur b = s.blur b := by
  refine State.blur_mono ?_ hb
  unfold State.acqDisarm
  repeat' first
    | with_reducible rfl
    | simp (disch := decide) only [State.wr_blur, State.setAcq_blur, State.acqClosing_blur]
    | split

theorem State.acqArm_blur (s : State) (a0 : ℕ) {b : Nat} (hb : b &&& 0x38007000000000000000000000000000000000000000000000000000000000000000000000000000000000000000000000000000000002000000 = 0x38007000000000000000000000000000000000000000000000000000000000000000000000000000000000000000000000000000000002000000) : (State.acqArm s a0).blur b = s.blur b := by
  refine State.blur_mono ?_ hb
  unfold State.acqArm
  simp (disch := decide) only [State.blur_ite, ite_self, State.wr_blur, State.acqArming_blur, State.setAcq_blur]

theorem acqCtlHook_blur (a0 : Req) (a1 : ℕ) (a2 : ℕ) (a3 : ℕ) (s : State) {b : Nat} (hb : b &&& 0x38007800000000000000000000000000000000000000000000000000000000000000000000000000000000000000000000000000000002000000 = 0x38007800000000000000000000000000000000000000000000000000000000000000000000000000000000000000000000000000000002000000) : (acqCtlHook a0 a1 a2 a3 s).1.blur b = s.blur b := by
  refine State.blur_mono ?_ hb
  unfold acqCtlHook
  repeat' first
    | with_reducible rfl
    | simp (disch := decide) only [State.wr_blur, State.acqDisarm_blur, State.acqArm_blur, State.acqForce_blur]
    | with_reducible refine State.blur_when _ _ _ ?_
    | with_reducible refine (State.blur_when _ _ _ ?_).trans ?_

theorem State.commitBegin_blur (s : State) (a0 : ℕ) {b : Nat} (hb : b &&& 0x800000000000000000000000000000000000000000000000100000 = 0x800000000000000000000000000000000000000000000000100000) : (State.commitBegin s a0).blur b = s.blur b := by
  refine State.blur_mono ?_ hb
  unfold State.commitBegin
  simp (disch := decide) only [State.wr_blur, State.setPlay_blur]

theorem State.setFetch_blur (s : State) (a0 : ℕ) (a1 : ℕ) {b : Nat} (hb : b &&& 0x47e000000000000000000000000000000000000000000000000000 = 0x47e000000000000000000000000000000000000000000000000000) : (State.setFetch s a0 a1).blur b = s.blur b := by
  refine State.blur_mono ?_ hb
  unfold State.setFetch
  repeat' first
    | with_reducible rfl
    | simp (disch := decide) only [State.wr_blur, State.wb_blur]
    | with_reducible refine State.blur_when _ _ _ ?_
    | with_reducible refine State.blur_each _ _ _ (fun t n => ?_)

theorem tsCommitHook_blur (a0 : Req) (a1 : ℕ) (a2 : ℕ) (a3 : ℕ) (s : State) {b : Nat} (hb : b &&& 0xcfe000000000000000000000000000000000000000000000100000 = 0xcfe000000000000000000000000000000000000000000000100000) : (tsCommitHook a0 a1 a2 a3 s).1.blur b = s.blur b := by
  refine State.blur_mono ?_ hb
  unfold tsCommitHook
  simp (disch := decide) only [State.blur_ite_fst, ite_self, writeWord_blur, State.commitBegin_blur, State.setFetch_blur]

theorem ncoLoHook_blur (a0 : Req) (a1 : ℕ) (a2 : ℕ) (a3 : ℕ) (s : State) {b : Nat} (hb : b &&& 0x100000 = 0x100000) : (ncoLoHook a0 a1 a2 a3 s).1.blur b = s.blur b := by
  refine State.blur_mono ?_ hb
  unfold ncoLoHook
  simp (disch := decide) only [State.blur_ite_fst, ite_self, State.setPlay_blur]

theorem ncoCtlHook_blur (a0 : Req) (a1 : ℕ) (a2 : ℕ) (a3 : ℕ) (s : State) {b : Nat} (hb : b &&& 0x6000000000000000000000000000000000000000000000000000100000 = 0x6000000000000000000000000000000000000000000000000000100000) : (ncoCtlHook a0 a1 a2 a3 s).1.blur b = s.blur b := by
  refine State.blur_mono ?_ hb
  unfold ncoCtlHook
  simp (disch := decide) only [State.blur_ite, ite_self, writeWord_blur, State.ncoSync_blur]

theorem ringCtlHook_blur (a0 : Req) (a1 : ℕ) (a2 : ℕ) (a3 : ℕ) (s : State) {b : Nat} (hb : b &&& 0x8000000c0000000000000000000000000000000000000000000000000000000000000000100020 = 0x8000000c0000000000000000000000000000000000000000000000000000000000000000100020) : (ringCtlHook a0 a1 a2 a3 s).1.blur b = s.blur b := by
  refine State.blur_mono ?_ hb
  unfold ringCtlHook
  simp (disch := decide) only [State.blur_ite_fst, ite_self, State.ringReset_blur]

theorem State.jumpLatch_blur (s : State) (a0 : ℕ) {b : Nat} (hb : b &&& 0x513c60c0000000000000000000000000000000000000000000000000000000000000000100020 = 0x513c60c0000000000000000000000000000000000000000000000000000000000000000100020) : (State.jumpLatch s a0).blur b = s.blur b := by
  refine State.blur_mono ?_ hb
  unfold State.jumpLatch
  repeat' first
    | with_reducible rfl
    | simp (disch := decide) only [State.blur_ite, ite_self, State.wr_blur, State.setPlay_blur, State.bump_blur, State.segSync_blur, State.takeJump_blur]
    | with_reducible refine State.blur_when _ _ _ ?_
    | with_reducible refine (State.blur_when _ _ _ ?_).trans ?_
    | split

theorem jumpHook_blur (a0 : Req) (a1 : ℕ) (a2 : ℕ) (a3 : ℕ) (s : State) {b : Nat} (hb : b &&& 0x513decc0000000000000000000000000000000000000000000000000000000000000000100020 = 0x513decc0000000000000000000000000000000000000000000000000000000000000000100020) : (jumpHook a0 a1 a2 a3 s).1.blur b = s.blur b := by
  refine State.blur_mono ?_ hb
  unfold jumpHook
  repeat' first
    | with_reducible rfl
    | simp (disch := decide) only [writeWord_blur, State.setPlay_blur, State.jumpLatch_blur]
    | with_reducible refine State.blur_when _ _ _ ?_
    | with_reducible refine (State.blur_when _ _ _ ?_).trans ?_

theorem slotHook_blur (a0 : Req) (a1 : ℕ) (a2 : ℕ) (a3 : ℕ) (s : State) {b : Nat} (hb : b &&& 0x1c00000000000000000000000000000000000000000000000000000000000000000000000100020 = 0x1c00000000000000000000000000000000000000000000000000000000000000000000000100020) : (slotHook a0 a1 a2 a3 s).1.blur b = s.blur b := by
  refine State.blur_mono ?_ hb
  unfold slotHook
  simp (disch := decide) only [State.blur_ite_fst, ite_self, writeWord_blur, State.ringLow_blur]

theorem ctlwAddrHook_blur (a0 : Req) (a1 : ℕ) (a2 : ℕ) (a3 : ℕ) (s : State) {b : Nat} (hb : b &&& 0x200000000000000000000000000000000000000000000000000000000000 = 0x200000000000000000000000000000000000000000000000000000000000) : (ctlwAddrHook a0 a1 a2 a3 s).1.blur b = s.blur b := by
  refine State.blur_mono ?_ hb
  unfold ctlwAddrHook
  simp (disch := decide) only [State.blur_ite_fst, ite_self, State.wr_blur]

theorem ctlwDataHook_blur (a0 : Req) (a1 : ℕ) (a2 : ℕ) (a3 : ℕ) (s : State) {b : Nat} (hb : b &&& 0x40200000000000000000000000000000000000000000000000000000200000 = 0x40200000000000000000000000000000000000000000000000000000200000) : (ctlwDataHook a0 a1 a2 a3 s).1.blur b = s.blur b := by
  refine State.blur_mono ?_ hb
  unfold ctlwDataHook
  simp (disch := decide) only [State.blur_ite_fst, ite_self, State.wr_blur, State.setStore_blur]

theorem lvlSetHook_blur (a0 : Req) (a1 : ℕ) (a2 : ℕ) (a3 : ℕ) (s : State) {b : Nat} (hb : b &&& 0x40000000000000000000000000800000000000000000000000000000000000000000000000000000000000000000000000000000000000000000000000000000000001890040000000000000000000000000000000000000000111800 = 0x40000000000000000000000000800000000000000000000000000000000000000000000000000000000000000000000000000000000000000000000000000000000001890040000000000000000000000000000000000000000111800) : (lvlSetHook a0 a1 a2 a3 s).1.blur b = s.blur b := by
  refine State.blur_mono ?_ hb
  unfold lvlSetHook
  simp (disch := decide) only [State.blur_ite_fst, ite_self, State.wr_blur, tileFields_blur]

theorem lvlSpanHook_blur (a0 : Req) (a1 : ℕ) (a2 : ℕ) (a3 : ℕ) (s : State) {b : Nat} (hb : b &&& 0x40000000000000000000000000800000000000000000000000000000000000000000000000000000000000000000000000000000000000000000000000000000000000192040000000000000000000000000000000000000000111800 = 0x40000000000000000000000000800000000000000000000000000000000000000000000000000000000000000000000000000000000000000000000000000000000000192040000000000000000000000000000000000000000111800) : (lvlSpanHook a0 a1 a2 a3 s).1.blur b = s.blur b := by
  refine State.blur_mono ?_ hb
  unfold lvlSpanHook
  simp (disch := decide) only [State.blur_ite_fst, ite_self, State.wr_blur, tileFields_blur]

theorem lvlPpmuHook_blur (a0 : Req) (a1 : ℕ) (a2 : ℕ) (a3 : ℕ) (s : State) {b : Nat} (hb : b &&& 0x40000000000000000000000000800000000000000000000000000000000000000000000000000000000000000000000000000000000000000000000000000000000000090040000000000000000000000000000000000000000111800 = 0x40000000000000000000000000800000000000000000000000000000000000000000000000000000000000000000000000000000000000000000000000000000000000090040000000000000000000000000000000000000000111800) : (lvlPpmuHook a0 a1 a2 a3 s).1.blur b = s.blur b := by
  refine State.blur_mono ?_ hb
  unfold lvlPpmuHook
  simp (disch := decide) only [State.blur_ite_fst, ite_self, State.wr_blur, tileFields_blur]

theorem laneHook_blur (r : Reg) (a1 : Req) (a2 a3 a4 : Nat) (s : State) {b : Nat} (hb : b &&& 0x40000000000000000000000000800000000000000000000000000000000000000000000000000000000000000000000000000000000000000000000000000000000000090040000000000000000000000000000000000000000111800 = 0x40000000000000000000000000800000000000000000000000000000000000000000000000000000000000000000000000000000000000000000000000000000000000090040000000000000000000000000000000000000000111800) (hf : ∀ f ∈ r.fields, f.acc.writes = true → b.testBit (32 + f.key % 1024) = true) : ((laneHook r a1 a2 a3 a4 s).1).blur b = s.blur b := by
  exact tileFields_blur _ _ _ _ _ s hb hf

theorem laneLoadHook_blur (a0 : Req) (a1 : ℕ) (a2 : ℕ) (a3 : ℕ) (s : State) {b : Nat} (hb : b &&& 0x40003000000000000000000000800000000000000000000000000000000000000000000000000000000000000000000000000000000000000000000000000000000000090040000000000000000000000000000000000000000111800 = 0x40003000000000000000000000800000000000000000000000000000000000000000000000000000000000000000000000000000000000000000000000000000000000090040000000000000000000000000000000000000000111800) : (laneLoadHook a0 a1 a2 a3 s).1.blur b = s.blur b := by
  refine State.blur_mono ?_ hb
  unfold laneLoadHook
  simp (disch := decide) only [tileFields_blur]

theorem ppmuHook_blur (a0 : Req) (a1 : ℕ) (a2 : ℕ) (a3 : ℕ) (s : State) {b : Nat} (hb : b &&& 0x2004001c000000000000000000000800000000000000000000000000000000000000000000000000000000000000000000000000000000000000000000000000000000000090040000000000000000000000000000000000000000111800 = 0x2004001c000000000000000000000800000000000000000000000000000000000000000000000000000000000000000000000000000000000000000000000000000000000090040000000000000000000000000000000000000000111800) : (ppmuHook a0 a1 a2 a3 s).1.blur b = s.blur b := by
  refine State.blur_mono ?_ hb
  unfold ppmuHook
  simp (disch := decide) only [State.blur_ite_fst, ite_self, State.wr_blur, tileFields_blur]

theorem laneStatusHook_blur (a0 : Req) (a1 : ℕ) (a2 : ℕ) (a3 : ℕ) (s : State) {b : Nat} (hb : b &&& 0x78000000000000000000000000000000000000000000000000000000000000000000000000000000000000000000000000000000000000000000000000000000000000000000000000000000000000000000000000000000000000800 = 0x78000000000000000000000000000000000000000000000000000000000000000000000000000000000000000000000000000000000000000000000000000000000000000000000000000000000000000000000000000000000000800) : (laneStatusHook a0 a1 a2 a3 s).1.blur b = s.blur b := by
  refine State.blur_mono ?_ hb
  unfold laneStatusHook
  repeat' first
    | with_reducible rfl
    | simp (disch := decide) only [writeWord_blur, State.setLane_blur]
    | with_reducible refine State.blur_when _ _ _ ?_
    | with_reducible refine (State.blur_when _ _ _ ?_).trans ?_

theorem laneFeHook_blur (a0 : Req) (a1 : ℕ) (a2 : ℕ) (a3 : ℕ) (s : State) {b : Nat} (hb : b &&& 0x40000000000000000000000000000000000000000100800 = 0x40000000000000000000000000000000000000000100800) : (laneFeHook a0 a1 a2 a3 s).1.blur b = s.blur b := by
  refine State.blur_mono ?_ hb
  unfold laneFeHook
  simp (disch := decide) only [State.blur_ite_fst, ite_self, writeWord_blur, State.setPlay_blur, State.setLane_blur, State.wr_blur]

theorem octUpdateHook_blur (a0 : Req) (a1 : ℕ) (a2 : ℕ) (a3 : ℕ) (s : State) {b : Nat} (hb : b &&& 0x800000000000000000000000000000000000000000000000000000000000000000000000000000000000000000000000000000000000000000000000000000000000000000000000000000000011000 = 0x800000000000000000000000000000000000000000000000000000000000000000000000000000000000000000000000000000000000000000000000000000000000000000000000000000000011000) : (octUpdateHook a0 a1 a2 a3 s).1.blur b = s.blur b := by
  refine State.blur_mono ?_ hb
  unfold octUpdateHook
  repeat' first
    | with_reducible rfl
    | simp (disch := decide) only [State.blur_ite, State.trigger_blur]
    | with_reducible refine State.blur_when _ _ _ ?_
    | with_reducible refine State.blur_each _ _ _ (fun t n => ?_)
    | with_reducible refine State.blur_foldl _ _ _ (fun t n => ?_)
    | with_reducible refine (State.blur_when _ _ _ ?_).trans ?_
    | with_reducible refine (State.blur_each _ _ _ (fun t n => ?_)).trans ?_
    | with_reducible refine (State.blur_foldl _ _ _ (fun t n => ?_)).trans ?_
    | with_reducible refine State.blur_foldl_fst _ _ _ _ (fun t n => ?_)
    | with_reducible refine (State.blur_foldl_fst _ _ _ _ (fun t n => ?_)).trans ?_
    | with_reducible refine Fx.of_blur _ _ ?_
    | with_reducible refine Fx.then_blur _ _ _ ?_ (fun t => ?_)
    | with_reducible refine Fx.ite_blur _ _ _ _ ?_ ?_
    | split

theorem smuCodeHook_blur (a0 : Req) (a1 : ℕ) (a2 : ℕ) (a3 : ℕ) (s : State) {b : Nat} (hb : b &&& 0x402000000800000000000000000000000000000000000000000000000000000000000000000000000000000000000000000000000000000000000000000000000000000000000000000000000000000000011000 = 0x402000000800000000000000000000000000000000000000000000000000000000000000000000000000000000000000000000000000000000000000000000000000000000000000000000000000000000011000) : (smuCodeHook a0 a1 a2 a3 s).1.blur b = s.blur b := by
  refine State.blur_mono ?_ hb
  unfold smuCodeHook
  simp (disch := decide) only [State.blur_ite_fst, ite_self, State.wr_blur, State.codeWritten_blur]

theorem smuCfgHook_blur (a0 : Req) (a1 : ℕ) (a2 : ℕ) (a3 : ℕ) (s : State) {b : Nat} (hb : b &&& 0x100000000000000000000000000000000081c000000800000000000000000000000000000000000000000000000000000000000000000000000000000000000000000000000000000000000000000000000000000000000000000000000000000000011000 = 0x100000000000000000000000000000000081c000000800000000000000000000000000000000000000000000000000000000000000000000000000000000000000000000000000000000000000000000000000000000000000000000000000000000011000) : (smuCfgHook a0 a1 a2 a3 s).1.blur b = s.blur b := by
  refine State.blur_mono ?_ hb
  unfold smuCfgHook
  repeat' first
    | with_reducible rfl
    | simp (disch := decide) only [State.blur_ite_fst, State.wr_blur, writeWord_blur, State.rangeChange_blur]
    | with_reducible refine State.blur_when _ _ _ ?_
    | with_reducible refine (State.blur_when _ _ _ ?_).trans ?_
    | split

theorem smuSlewHook_blur (a0 : Req) (a1 : ℕ) (a2 : ℕ) (a3 : ℕ) (s : State) {b : Nat} (hb : b &&& 0x60000000000000000000000000000000000000000000000000000000000000000000000000000000000000000000000000000000000000000000000000000000000000000000000000000000000000000001000 = 0x60000000000000000000000000000000000000000000000000000000000000000000000000000000000000000000000000000000000000000000000000000000000000000000000000000000000000000001000) : (smuSlewHook a0 a1 a2 a3 s).1.blur b = s.blur b := by
  refine State.blur_mono ?_ hb
  unfold smuSlewHook
  simp (disch := decide) only [writeWord_blur, State.slewWritten_blur]

theorem smuCtlHook_blur (a0 : Req) (a1 : ℕ) (a2 : ℕ) (a3 : ℕ) (s : State) {b : Nat} (hb : b &&& 0x1000018000000000000000000000000000402000000800000000000000000000000000000000000000000000000000000000000000000000000000000000000000000000000000000000000000000000000000000000000000000000000000000000011000 = 0x1000018000000000000000000000000000402000000800000000000000000000000000000000000000000000000000000000000000000000000000000000000000000000000000000000000000000000000000000000000000000000000000000000011000) : (smuCtlHook a0 a1 a2 a3 s).1.blur b = s.blur b := by
  refine State.blur_mono ?_ hb
  unfold smuCtlHook
  simp (disch := decide) only [State.blur_ite_fst, ite_self, State.smuModeSet_blur, State.wr_blur]

theorem smuVclampHook_blur (a0 : Req) (a1 : ℕ) (a2 : ℕ) (a3 : ℕ) (s : State) {b : Nat} (hb : b &&& 0xc0000000000000000000000000000000000000000000000000000000000000000000000000000000000000000000000000000000000000000000000000000000000000000000000000000000000000000000000000000000000000000000000000000 = 0xc0000000000000000000000000000000000000000000000000000000000000000000000000000000000000000000000000000000000000000000000000000000000000000000000000000000000000000000000000000000000000000000000000000) : (smuVclampHook a0 a1 a2 a3 s).1.blur b = s.blur b := by
  refine State.blur_mono ?_ hb
  unfold smuVclampHook
  simp (disch := decide) only [State.blur_ite_fst, ite_self, writeWord_blur]

theorem smuMeasHook_blur (a0 : Req) (a1 : ℕ) (a2 : ℕ) (a3 : ℕ) (s : State) {b : Nat} (hb : b &&& 0x1f00000000000000000000000000000000000000800000000000000000000000000000000000000000000000000000000000000000000000000000000000000000000000000000000000000000000000000000000000000000000000000000000014000 = 0x1f00000000000000000000000000000000000000800000000000000000000000000000000000000000000000000000000000000000000000000000000000000000000000000000000000000000000000000000000000000000000000000000000014000) : (smuMeasHook a0 a1 a2 a3 s).1.blur b = s.blur b := by
  refine State.blur_mono ?_ hb
  unfold smuMeasHook
  repeat' first
    | with_reducible rfl
    | simp (disch := decide) only [State.blur_ite_fst, writeWord_blur, State.calTouch_blur, State.setSmu_blur]
    | with_reducible refine State.blur_when _ _ _ ?_
    | with_reducible refine (State.blur_when _ _ _ ?_).trans ?_
    | split

theorem smuMonHook_blur (a0 : Req) (a1 : ℕ) (a2 : ℕ) (a3 : ℕ) (s : State) {b : Nat} (hb : b &&& 0x107e000000000000000000000000000000000000000000000000000000000000000000000000000000000000000000000000000000000000000000000000000000000000000000000000000000000000000000000000000000000000000000000000004000 = 0x107e000000000000000000000000000000000000000000000000000000000000000000000000000000000000000000000000000000000000000000000000000000000000000000000000000000000000000000000000000000000000000000000000004000) : (smuMonHook a0 a1 a2 a3 s).1.blur b = s.blur b := by
  refine State.blur_mono ?_ hb
  unfold smuMonHook
  repeat' first
    | with_reducible rfl
    | simp (disch := decide) only [writeWord_blur, State.wr_blur, State.setSmu_blur]
    | with_reducible refine State.blur_when _ _ _ ?_
    | with_reducible refine (State.blur_when _ _ _ ?_).trans ?_

theorem smuStatusHook_blur (a0 : Req) (a1 : ℕ) (a2 : ℕ) (a3 : ℕ) (s : State) {b : Nat} (hb : b &&& 0x6c00000000000000000000000000000000000000000000000000000000000000000000000000000000000000000000000000000000000000000000000000000000000000000000000000000000000000000000000000000000000000000000000000000000 = 0x6c00000000000000000000000000000000000000000000000000000000000000000000000000000000000000000000000000000000000000000000000000000000000000000000000000000000000000000000000000000000000000000000000000000000) : (smuStatusHook a0 a1 a2 a3 s).1.blur b = s.blur b := by
  refine State.blur_mono ?_ hb
  unfold smuStatusHook
  repeat' first
    | with_reducible rfl
    | simp (disch := decide) only [writeWord_blur, State.wr_blur]
    | with_reducible refine State.blur_when _ _ _ ?_
    | with_reducible refine (State.blur_when _ _ _ ?_).trans ?_

theorem dpsCodeHook_blur (a0 : Req) (a1 : ℕ) (a2 : ℕ) (a3 : ℕ) (s : State) {b : Nat} (hb : b &&& 0x1000000000800000000000000000000000000000000000000000000000000000000000000000000000000000000000000000000000000000000000000000000000000000000000000000000000000000000011000 = 0x1000000000800000000000000000000000000000000000000000000000000000000000000000000000000000000000000000000000000000000000000000000000000000000000000000000000000000000011000) : (dpsCodeHook a0 a1 a2 a3 s).1.blur b = s.blur b := by
  refine State.blur_mono ?_ hb
  unfold dpsCodeHook
  simp (disch := decide) only [State.blur_ite_fst, ite_self, State.codeWritten_blur, State.wr_blur]

theorem dpsCfgHook_blur (a0 : Req) (a1 : ℕ) (a2 : ℕ) (a3 : ℕ) (s : State) {b : Nat} (hb : b &&& 0x1e000000000800000000000000000000000000000000000000000000000000000000000000000010000000000000000000000000000000000000000000000000000000000000000000000000000000000000011000 = 0x1e000000000800000000000000000000000000000000000000000000000000000000000000000010000000000000000000000000000000000000000000000000000000000000000000000000000000000000011000) : (dpsCfgHook a0 a1 a2 a3 s).1.blur b = s.blur b := by
  refine State.blur_mono ?_ hb
  unfold dpsCfgHook
  repeat' first
    | with_reducible rfl
    | simp (disch := decide) only [State.blur_ite_fst, writeWord_blur, State.rangeChange_blur, State.wr_blur]
    | with_reducible refine State.blur_when _ _ _ ?_
    | with_reducible refine (State.blur_when _ _ _ ?_).trans ?_
    | split

theorem dpsSlewHook_blur (a0 : Req) (a1 : ℕ) (a2 : ℕ) (a3 : ℕ) (s : State) {b : Nat} (hb : b &&& 0x60000000000000000000000000000000000000000000000000000000000000000000000000000000000000000000000000000000000000000000000000000000000000000000000000000000000000000000001000 = 0x60000000000000000000000000000000000000000000000000000000000000000000000000000000000000000000000000000000000000000000000000000000000000000000000000000000000000000000001000) : (dpsSlewHook a0 a1 a2 a3 s).1.blur b = s.blur b := by
  refine State.blur_mono ?_ hb
  unfold dpsSlewHook
  simp (disch := decide) only [State.blur_ite_fst, ite_self, writeWord_blur, State.slewWritten_blur]

theorem dpsHeldHook_blur (a0 : Reg) (a1 : Req) (a2 : ℕ) (a3 : ℕ) (a4 : ℕ) (s : State) {b : Nat} (hb : b &&& 0x800000000000000000000000000000000000000000000000000000000000000000000000000000000000000000000000000000000000000000000000000000000000000000000000000000000018000 = 0x800000000000000000000000000000000000000000000000000000000000000000000000000000000000000000000000000000000000000000000000000000000000000000000000000000000018000) (hf : ∀ f ∈ a0.fields, f.acc.writes = true → b.testBit (32 + f.key % 1024) = true) : (dpsHeldHook a0 a1 a2 a3 a4 s).1.blur b = s.blur b := by
  unfold dpsHeldHook
  repeat' first
    | with_reducible rfl
    | simp (disch := first | decide | exact hf | (apply and_parts hb; decide) | (apply testBit_of_and hb; decide)) only [State.blur_ite_fst, writeWord_blur, State.setDps_blur, State.calTouch_blur]
    | with_reducible refine State.blur_when _ _ _ ?_
    | with_reducible refine (State.blur_when _ _ _ ?_).trans ?_
    | split

theorem State.dpsRestart_blur (s : State) (a0 : ℕ) {b : Nat} (hb : b &&& 0x800000000000000000000000000000000000000000000000000000000000000000018000000000000000000000000000000000000000000000000000000000000000000000000000000000000019000 = 0x800000000000000000000000000000000000000000000000000000000000000000018000000000000000000000000000000000000000000000000000000000000000000000000000000000000019000) : (State.dpsRestart s a0).blur b = s.blur b := by
  refine State.blur_mono ?_ hb
  unfold State.dpsRestart
  repeat' first
    | with_reducible rfl
    | simp (disch := decide) only [State.blur_ite, ite_self, State.dpsTake_blur, State.trigger_blur, State.setDac_blur, State.setDps_blur, State.dpsClose_blur]
    | with_reducible refine State.blur_when _ _ _ ?_
    | with_reducible refine State.blur_each _ _ _ (fun t n => ?_)
    | with_reducible refine State.blur_foldl _ _ _ (fun t n => ?_)
    | with_reducible refine (State.blur_when _ _ _ ?_).trans ?_
    | with_reducible refine (State.blur_each _ _ _ (fun t n => ?_)).trans ?_
    | with_reducible refine (State.blur_foldl _ _ _ (fun t n => ?_)).trans ?_
    | with_reducible refine State.blur_foldl_fst _ _ _ _ (fun t n => ?_)
    | with_reducible refine (State.blur_foldl_fst _ _ _ _ (fun t n => ?_)).trans ?_
    | split

theorem dpsStatusHook_blur (a0 : Req) (a1 : ℕ) (a2 : ℕ) (a3 : ℕ) (s : State) {b : Nat} (hb : b &&& 0x80000000000000000000000000000000000000000000000000000000000000000005ffc0000000000000000000000000000000000000000000000000000000000000000000000000000000000019000 = 0x80000000000000000000000000000000000000000000000000000000000000000005ffc0000000000000000000000000000000000000000000000000000000000000000000000000000000000019000) : (dpsStatusHook a0 a1 a2 a3 s).1.blur b = s.blur b := by
  refine State.blur_mono ?_ hb
  unfold dpsStatusHook
  repeat' first
    | with_reducible rfl
    | simp (disch := decide) only [writeWord_blur, State.wr_blur, State.dpsRestart_blur]
    | with_reducible refine State.blur_when _ _ _ ?_
    | with_reducible refine State.blur_each _ _ _ (fun t n => ?_)
    | with_reducible refine State.blur_foldl _ _ _ (fun t n => ?_)
    | with_reducible refine (State.blur_when _ _ _ ?_).trans ?_
    | with_reducible refine (State.blur_each _ _ _ (fun t n => ?_)).trans ?_

theorem ctxWriteFx_blur (a0 : Req) (a1 : ℕ) (a2 : ℕ) (a3 : ℕ) (s : State) {b : Nat} (hb : b &&& 0x1000000 = 0x1000000) : (ctxWriteFx a0 a1 a2 a3 s).1.blur b = s.blur b := by
  refine State.blur_mono ?_ hb
  unfold ctxWriteFx
  simp (disch := decide) only [State.blur_ite_fst, ite_self, State.setCtx_blur]

theorem State.unmask_blur (s : State) (a0 : ℕ) (a1 : ℕ) {b : Nat} (hb : b &&& 1024 = 1024) : (State.unmask s a0 a1).blur b = s.blur b := by
  refine State.blur_mono ?_ hb
  unfold State.unmask
  simp (disch := decide) only [State.blur_ite, ite_self, State.blur_with_host, State.send_blur]

theorem State.msixWrite_blur (s : State) (a0 : ℕ) (a1 : ℕ) (a2 : ℕ) (a3 : ℕ) {b : Nat} (hb : b &&& 1024 = 1024) : (State.msixWrite s a0 a1 a2 a3).blur b = s.blur b := by
  refine State.blur_mono ?_ hb
  unfold State.msixWrite
  simp (disch := decide) only [State.blur_ite, ite_self, State.blur_with_host, State.unmask_blur]

theorem winWriteFx_blur (a0 : Req) (a1 : ℕ) (a2 : WordWin) (a3 : ℕ) (a4 : ℕ) (s : State) {b : Nat} (hb : b &&& 0x1000440 = 0x1000440) : (winWriteFx a0 a1 a2 a3 a4 s).1.blur b = s.blur b := by
  refine State.blur_mono ?_ hb
  unfold winWriteFx
  repeat' first
    | with_reducible rfl
    | simp (disch := decide) only [ctxWriteFx_blur, State.setPort_blur, State.msixWrite_blur]
    | split

theorem State.sliceUe_blur (s : State) (a0 : ℕ) (a1 : ℕ) (a2 : ℕ) (a3 : ℕ) {b : Nat} (hb : b &&& 0x3800000000000000000000000000001200060000000000000004000000003a0 = 0x3800000000000000000000000000001200060000000000000004000000003a0) : (State.sliceUe s a0 a1 a2 a3).blur b = s.blur b := by
  refine State.blur_mono ?_ hb
  unfold State.sliceUe
  simp (disch := decide) only [State.storeUe_blur, State.wr_blur]

theorem State.acqTick_blur (s : State) (a0 : ℕ) {b : Nat} (hb : b &&& 0x2000000 = 0x2000000) : (State.acqTick s a0).blur b = s.blur b := by
  refine State.blur_mono ?_ hb
  unfold State.acqTick
  repeat' first
    | with_reducible rfl
    | simp (disch := decide) only [State.blur_ite, State.setAcq_blur, State.acqMark_blur]
    | with_reducible refine State.blur_when _ _ _ ?_
    | with_reducible refine State.blur_each _ _ _ (fun t n => ?_)
    | with_reducible refine State.blur_foldl _ _ _ (fun t n => ?_)
    | with_reducible refine (State.blur_when _ _ _ ?_).trans ?_
    | with_reducible refine (State.blur_each _ _ _ (fun t n => ?_)).trans ?_
    | with_reducible refine (State.blur_foldl _ _ _ (fun t n => ?_)).trans ?_
    | with_reducible refine State.blur_foldl_fst _ _ _ _ (fun t n => ?_)
    | with_reducible refine (State.blur_foldl_fst _ _ _ _ (fun t n => ?_)).trans ?_
    | split

theorem State.dpsOpenAll_blur (s : State) (a0 : ℕ) {b : Nat} (hb : b &&& 0x20000000000000000000000000000000000000000000000000000000000000000000000000000000000009000 = 0x20000000000000000000000000000000000000000000000000000000000000000000000000000000000009000) : (State.dpsOpenAll s a0).blur b = s.blur b := by
  refine State.blur_mono ?_ hb
  unfold State.dpsOpenAll
  repeat' first
    | with_reducible rfl
    | simp (disch := decide) only [State.blur_ite, ite_self, State.dpsOpen_blur]
    | with_reducible refine State.blur_when _ _ _ ?_
    | with_reducible refine State.blur_each _ _ _ (fun t n => ?_)

theorem State.dpsMonitor_blur (s : State) (a0 : ℕ) (a1 : DpsMonRegs) (a2 : ℤ) (a3 : ℤ) (a4 : DpsSt → MonSt) (a5 : DpsSt → MonSt → DpsSt) {b : Nat} (hb : b &&& 0x15e020000000000000000000000000000000000000000000000000000000000000000000000000000000000009020 = 0x15e020000000000000000000000000000000000000000000000000000000000000000000000000000000000009020) (hu : b.testBit (32 + a1.unset.key % 1024) = true) (hl : b.testBit (32 + a1.latch.key % 1024) = true) : (State.dpsMonitor s a0 a1 a2 a3 a4 a5).blur b = s.blur b := by
  unfold State.dpsMonitor
  split
  · rfl
  · dsimp only
    have hs : ∀ (x : DpsSt) (v : Bool), ((s.setDps a0 x).wb a1.unset a0 v).blur b = s.blur b := fun x v =>
      (State.wb_blur _ _ _ _ hu).trans (State.setDps_blur _ _ _ (and_parts hb (by decide)))
    have hx : ∀ (c : Prop) [Decidable c] (y : State), (if c then y else (y.wr a1.latch a0 1).raise (832 + 2 * a0 + 1)).blur b = y.blur b := fun c _ y => by
      split
      · rfl
      · exact (State.raise_blur _ _ (and_parts hb (by decide))).trans (State.wr_blur _ _ _ _ hl)
    have ho : ∀ (c : Prop) [Decidable c] (y : State) (k : Nat) (e : Bool), (if c then State.dpsOpenAll ((y.wr R.DPS_STATUS.MON_OPENED k 1).when e
        (·.wr R.DPS_STATUS.FAULT_MEMBER k (a0 % 8))) a0 else y).blur b = y.blur b := fun c _ y k e => by
      split
      · refine (State.dpsOpenAll_blur _ _ (and_parts hb (by decide))).trans ?_
        refine (State.blur_when _ _ _ (State.wr_blur _ _ _ _ (testBit_of_and hb (by decide)))).trans ?_
        exact State.wr_blur _ _ _ _ (testBit_of_and hb (by decide))
      · rfl
    split
    · exact hs _ _
    · exact (ho _ _ _ _).trans ((hx _ _).trans (hs _ _))

theorem State.allotAll_blur (s : State) (a0 : Image) {b : Nat} (hb : b &&& 0x198000000000000000000000000001f8100000000000000000000000000000000000000000000000000000000000000000000000000000000000000000000000000000000000000000000000000000000000000000000000 = 0x198000000000000000000000000001f8100000000000000000000000000000000000000000000000000000000000000000000000000000000000000000000000000000000000000000000000000000000000000000000000) : (State.allotAll s a0).blur b = s.blur b := by
  refine State.blur_mono ?_ hb
  unfold State.allotAll
  repeat' first
    | with_reducible rfl
    | simp (disch := decide) only [State.wr_blur]
    | with_reducible refine State.blur_each _ _ _ (fun t n => ?_)
    | with_reducible refine (State.blur_each _ _ _ (fun t n => ?_)).trans ?_

theorem State.putItems_blur (s : State) (a0 : ℕ) (a1 : List (ℕ × ℕ)) {b : Nat} (hb : b &&& 0x100000 = 0x100000) : (State.putItems s a0 a1).blur b = s.blur b := by
  refine State.blur_mono ?_ hb
  unfold State.putItems
  simp (disch := decide) only [State.setPlay_blur]

theorem State.acqTev_blur (s : State) (a0 : ℕ) (a1 : ℕ) {b : Nat} (hb : b &&& 0x2000000 = 0x2000000) : (State.acqTev s a0 a1).blur b = s.blur b := by
  refine State.blur_mono ?_ hb
  unfold State.acqTev
  repeat' first
    | with_reducible rfl
    | simp (disch := decide) only [State.acqCond_blur]
    | with_reducible refine State.blur_when _ _ _ ?_
    | with_reducible refine State.blur_each _ _ _ (fun t n => ?_)

theorem State.tevFire_blur (s : State) (a0 : ℕ) (a1 : ℕ) {b : Nat} (hb : b &&& 0x38000000000000000000000000000000080000000000000000000008800000000000000000000000000001f800070000000000000000000000000000000000000000000000000000000000000000000000000000000000000000000003812068 = 0x38000000000000000000000000000000080000000000000000000008800000000000000000000000000001f800070000000000000000000000000000000000000000000000000000000000000000000000000000000000000000000003812068) : (State.tevFire s a0 a1).blur b = s.blur b := by
  refine State.blur_mono ?_ hb
  unfold State.tevFire
  repeat' first
    | with_reducible rfl
    | simp (disch := decide) only [State.blur_with_m, State.setTev_blur, State.raise_blur, State.bump_blur, State.wr_blur, State.adcTrigger_blur, State.tdcPresent_blur, State.acqTev_blur]
    | with_reducible refine State.blur_when _ _ _ ?_
    | with_reducible refine State.blur_each _ _ _ (fun t n => ?_)
    | with_reducible refine State.blur_foldl _ _ _ (fun t n => ?_)
    | with_reducible refine (State.blur_when _ _ _ ?_).trans ?_
    | with_reducible refine (State.blur_each _ _ _ (fun t n => ?_)).trans ?_

theorem State.tevStep_blur (s : State) (a0 : ℕ) (a1 : ℕ) {b : Nat} (hb : b &&& 0x3800000000000000000000000000000008000000000000000000001c800000000000000000000000000001f800070000000000000000000000000000000000000000000000000000000000000000000000000000000000000000000003812068 = 0x3800000000000000000000000000000008000000000000000000001c800000000000000000000000000001f800070000000000000000000000000000000000000000000000000000000000000000000000000000000000000000000003812068) : (State.tevStep s a0 a1).blur b = s.blur b := by
  refine State.blur_mono ?_ hb
  unfold State.tevStep
  repeat' first
    | with_reducible rfl
    | simp (disch := decide) only [State.blur_ite, ite_self, State.setTev_blur, State.bump_blur, State.wr_blur, State.tevFire_blur]
    | with_reducible refine State.blur_when _ _ _ ?_
    | with_reducible refine State.blur_each _ _ _ (fun t n => ?_)
    | split

theorem State.decide'_blur (s : State) (a0 : ℕ) {b : Nat} (hb : b &&& 0xc14000c0000000000000000000000000000000000000000000000000000000000000000100020 = 0xc14000c0000000000000000000000000000000000000000000000000000000000000000100020) : (State.decide' s a0).blur b = s.blur b := by
  refine State.blur_mono ?_ hb
  unfold State.decide'
  repeat' first
    | with_reducible rfl
    | simp (disch := decide) only [State.blur_ite, ite_self, State.wb_blur, State.raise_blur, State.bump_blur, State.commitPoint_blur, State.setPlay_blur, State.ringCheck_blur, State.ringTake_blur, State.abortMark_blur]
    | with_reducible refine State.blur_when _ _ _ ?_
    | with_reducible refine (State.blur_when _ _ _ ?_).trans ?_
    | split

theorem State.logRecord_blur (s : State) (a0 : ℕ) (a1 : VecRec) (a2 : SiteFail) {b : Nat} (hb : b &&& 0x28800000000000000000000000000000000000000000000000000000000000000000000000000100020 = 0x28800000000000000000000000000000000000000000000000000000000000000000000000000100020) : (State.logRecord s a0 a1 a2).blur b = s.blur b := by
  refine State.blur_mono ?_ hb
  unfold State.logRecord
  repeat' first
    | with_reducible rfl
    | simp (disch := decide) only [State.blur_ite, State.bump_blur, State.setPlay_blur, State.raise_blur, State.wr_blur]
    | with_reducible refine State.blur_when _ _ _ ?_
    | with_reducible refine (State.blur_when _ _ _ ?_).trans ?_
    | split

theorem State.portTake_blur (s : State) (a0 : ℕ) (a1 : List (Option ℕ)) {b : Nat} (hb : b &&& 1024 = 1024) : (State.portTake s a0 a1).blur b = s.blur b := by
  refine State.blur_mono ?_ hb
  unfold State.portTake
  simp (disch := decide) only [State.blur_with_host]

theorem State.capMerge_blur (s : State) (a0 : ℕ) (a1 : List (Option ℕ)) {b : Nat} (hb : b &&& 0x12000600000000000000040000c0003a0 = 0x12000600000000000000040000c0003a0) : (State.capMerge s a0 a1).blur b = s.blur b := by
  refine State.blur_mono ?_ hb
  unfold State.capMerge
  repeat' first
    | with_reducible rfl
    | simp (disch := decide) only [State.blur_ite, State.storeUe_blur]
    | with_reducible refine State.blur_when _ _ _ ?_
    | with_reducible refine State.blur_each _ _ _ (fun t n => ?_)
    | with_reducible refine State.blur_foldl _ _ _ (fun t n => ?_)
    | with_reducible refine (State.blur_when _ _ _ ?_).trans ?_
    | with_reducible refine (State.blur_each _ _ _ (fun t n => ?_)).trans ?_
    | with_reducible refine (State.blur_foldl _ _ _ (fun t n => ?_)).trans ?_
    | with_reducible refine State.blur_foldl_fst _ _ _ _ (fun t n => ?_)
    | with_reducible refine (State.blur_foldl_fst _ _ _ _ (fun t n => ?_)).trans ?_
    | with_reducible refine Fx.of_blur _ _ ?_
    | with_reducible refine Fx.then_blur _ _ _ ?_ (fun t => ?_)
    | with_reducible refine Fx.ite_blur _ _ _ _ ?_ ?_
    | split
    | rfl

theorem State.capPut_blur (s : State) (a0 : ℕ) (a1 : List ℕ) {b : Nat} (hb : b &&& 0x12000600000000000000040000c0003a0 = 0x12000600000000000000040000c0003a0) : (State.capPut s a0 a1).blur b = s.blur b := by
  refine State.blur_mono ?_ hb
  unfold State.capPut
  repeat' first
    | with_reducible rfl
    | simp (disch := decide) only [State.capMerge_blur]
    | with_reducible refine State.blur_when _ _ _ ?_
    | with_reducible refine State.blur_each _ _ _ (fun t n => ?_)
    | with_reducible refine State.blur_foldl _ _ _ (fun t n => ?_)

theorem State.sliceMerge_blur (s : State) (a0 : ℕ) (a1 : ℕ) (a2 : ℕ) (a3 : List (Option ℕ)) {b : Nat} (hb : b &&& 0x3900000000000000000000000000001200060000000000000004000002007a0 = 0x3900000000000000000000000000001200060000000000000004000002007a0) : (State.sliceMerge s a0 a1 a2 a3).blur b = s.blur b := by
  refine State.blur_mono ?_ hb
  unfold State.sliceMerge
  simp (disch := decide) only [State.blur_ite, ite_self, State.portTake_blur, State.sliceUe_blur, State.wr_blur, State.setStore_blur]

theorem State.ctlMerge_blur (s : State) (a0 : ℕ) (a1 : ℕ) (a2 : List (Option ℕ)) {b : Nat} (hb : b &&& 0x3900000000000000000000000000001200060000000000000004000002007a0 = 0x3900000000000000000000000000001200060000000000000004000002007a0) : (State.ctlMerge s a0 a1 a2).blur b = s.blur b := by
  refine State.blur_mono ?_ hb
  unfold State.ctlMerge
  simp (disch := decide) only [State.blur_ite, ite_self, State.portTake_blur, State.sliceUe_blur, State.wr_blur, State.setStore_blur]

theorem State.legacyWord_blur (s : State) (a0 : ℕ) (a1 : ℕ) (a2 : List (Option ℕ)) {b : Nat} (hb : b &&& 0x3900000000000000000000000000001200060000000000000004000002007a0 = 0x3900000000000000000000000000001200060000000000000004000002007a0) : (State.legacyWord s a0 a1 a2).blur b = s.blur b := by
  refine State.blur_mono ?_ hb
  unfold State.legacyWord
  repeat' first
    | with_reducible rfl
    | simp (disch := decide) only [State.blur_ite, ite_self, State.sliceMerge_blur, State.ctlMerge_blur]
    | with_reducible refine State.blur_when _ _ _ ?_
    | with_reducible refine State.blur_each _ _ _ (fun t n => ?_)
    | split

theorem State.bar2Refuse_blur (s : State) (a0 : Req) (a1 : ℕ) {b : Nat} (hb : b &&& 0xe0000000000000000000000000000000000000000000000000000000000000000000000000000000000000000000000000000000000000000000000000000000000000000000 = 0xe0000000000000000000000000000000000000000000000000000000000000000000000000000000000000000000000000000000000000000000000000000000000000000000) : (State.bar2Refuse s a0 a1).blur b = s.blur b := by
  refine State.blur_mono ?_ hb
  unfold State.bar2Refuse
  simp (disch := decide) only [State.refuse_blur]

theorem State.legacyWrite_blur (s : State) (a0 : Req) (a1 : ℕ) (a2 : List ℕ) {b : Nat} (hb : b &&& 0xe00000000000000000000000000000000000000000000000000000000000000000000000000003900000000000000000000000000001200060000000000000004000002007a0 = 0xe00000000000000000000000000000000000000000000000000000000000000000000000000003900000000000000000000000000001200060000000000000004000002007a0) : (State.legacyWrite s a0 a1 a2).blur b = s.blur b := by
  refine State.blur_mono ?_ hb
  unfold State.legacyWrite
  repeat' first
    | with_reducible rfl
    | simp (disch := decide) only [State.legacyWord_blur, State.bar2Refuse_blur]
    | with_reducible refine State.blur_when _ _ _ ?_
    | with_reducible refine State.blur_each _ _ _ (fun t n => ?_)
    | with_reducible refine State.blur_foldl _ _ _ (fun t n => ?_)
    | with_reducible refine (State.blur_when _ _ _ ?_).trans ?_

theorem State.bar2Write_blur (s : State) (a0 : Req) (a1 : ℕ) (a2 : List ℕ) {b : Nat} (hb : b &&& 0xe000000000000000000000000000000000000000000000000000000000000000000000000000039000000000000000000000000000012000600000000000000040000c2007a0 = 0xe000000000000000000000000000000000000000000000000000000000000000000000000000039000000000000000000000000000012000600000000000000040000c2007a0) : (State.bar2Write s a0 a1 a2).blur b = s.blur b := by
  refine State.blur_mono ?_ hb
  unfold State.bar2Write
  repeat' first
    | with_reducible rfl
    | simp (disch := decide) only [State.blur_ite, ite_self, State.legacyWrite_blur, State.sliceMerge_blur, State.capMerge_blur, State.bar2Refuse_blur]
    | with_reducible refine State.blur_when _ _ _ ?_
    | with_reducible refine State.blur_each _ _ _ (fun t n => ?_)
    | with_reducible refine State.blur_foldl _ _ _ (fun t n => ?_)
    | with_reducible refine (State.blur_when _ _ _ ?_).trans ?_
    | with_reducible refine (State.blur_each _ _ _ (fun t n => ?_)).trans ?_
    | with_reducible refine (State.blur_foldl _ _ _ (fun t n => ?_)).trans ?_
    | with_reducible refine State.blur_foldl_fst _ _ _ _ (fun t n => ?_)
    | with_reducible refine (State.blur_foldl_fst _ _ _ _ (fun t n => ?_)).trans ?_
    | split

theorem State.calApply_blur (s : State) (a0 : ℕ) (a1 : ℕ) (a2 : List ℤ) {b : Nat} (hb : b &&& 393216 = 393216) : (State.calApply s a0 a1 a2).blur b = s.blur b := by
  refine State.blur_mono ?_ hb
  unfold State.calApply
  repeat' first
    | with_reducible rfl
    | simp (disch := decide) only [State.blur_ite, State.blur_with_targets]
    | with_reducible refine State.blur_when _ _ _ ?_
    | with_reducible refine State.blur_each _ _ _ (fun t n => ?_)
    | with_reducible refine State.blur_foldl _ _ _ (fun t n => ?_)
    | with_reducible refine (State.blur_when _ _ _ ?_).trans ?_
    | with_reducible refine (State.blur_each _ _ _ (fun t n => ?_)).trans ?_
    | with_reducible refine (State.blur_foldl _ _ _ (fun t n => ?_)).trans ?_
    | with_reducible refine State.blur_foldl_fst _ _ _ _ (fun t n => ?_)
    | with_reducible refine (State.blur_foldl_fst _ _ _ _ (fun t n => ?_)).trans ?_
    | with_reducible refine Fx.of_blur _ _ ?_
    | with_reducible refine Fx.then_blur _ _ _ ?_ (fun t => ?_)
    | with_reducible refine Fx.ite_blur _ _ _ _ ?_ ?_
    | split
    | rfl

theorem State.mirrorOnly_blur (s : State) (a0 : ℕ) (a1 : ℕ) (a2 : ℕ) (a3 : ℕ) (a4 : ℕ) {b : Nat} (hb : b &&& 0x400000000080 = 0x400000000080) : (State.mirrorOnly s a0 a1 a2 a3 a4).blur b = s.blur b := by
  refine State.blur_mono ?_ hb
  unfold State.mirrorOnly
  simp (disch := decide) only [State.blur_with_log, State.wr_blur]

theorem State.calShadow_blur (s : State) (a0 : ℕ) (a1 : ℕ) (a2 : ℕ) {b : Nat} (hb : b &&& 2048 = 2048) : (State.calShadow s a0 a1 a2).blur b = s.blur b := by
  refine State.blur_mono ?_ hb
  unfold State.calShadow
  simp (disch := decide) only [State.blur_ite, ite_self, State.askHandover_blur]

theorem State.freeWords_blur (s : State) (a0 : ℕ) {b : Nat} (hb : b &&& 0 = 0) : (State.freeWords s a0).1.blur b = s.blur b := by
  refine State.blur_mono ?_ hb
  suffices ∀ (n : Nat) (t : State), (State.freeWords t n).1.blur 0 = t.blur 0 from this a0 s
  intro n
  induction n with
  | zero => exact fun _ => rfl
  | succ n ih => exact fun t => (ih _).trans rfl

theorem State.windowRound_blur (s : State) (a0 : List ℤ) {b : Nat} (hb : b &&& 0x3000000000000000000000000000000000000000000000000000000000000000000000000000000000000000000000000000000000000000000000000000000010000001010000000000000000040000100 = 0x3000000000000000000000000000000000000000000000000000000000000000000000000000000000000000000000000000000000000000000000000000000010000001010000000000000000040000100) : (State.windowRound s a0).blur b = s.blur b := by
  refine State.blur_mono ?_ hb
  unfold State.windowRound
  simp (disch := decide) only [State.blur_with_hk, State.nvmKick_blur, State.wb_blur]

theorem State.firstRun_blur (s : State) {b : Nat} (hb : b &&& 0x4000000000000000000000000000000000009000 = 0x4000000000000000000000000000000000009000) : (State.firstRun s).blur b = s.blur b := by
  refine State.blur_mono ?_ hb
  unfold State.firstRun
  repeat' first
    | with_reducible rfl
    | simp (disch := decide) only [State.blur_ite, ite_self, State.wr_blur, State.dpsClose_blur]
    | with_reducible refine State.blur_each _ _ _ (fun t n => ?_)
    | with_reducible refine (State.blur_each _ _ _ (fun t n => ?_)).trans ?_
    | split

theorem State.smuPush_blur (s : State) (a0 : ℕ) (a1 : FifoRes) {b : Nat} (hb : b &&& 0x40000000000000000000000000000000000000000000000000000000000000000000000000000000000000000000000000000000000000000000000000000000000000000000000000000000000000000000000000000000000000000000000000000004020 = 0x40000000000000000000000000000000000000000000000000000000000000000000000000000000000000000000000000000000000000000000000000000000000000000000000000000000000000000000000000000000000000000000000000000004020) : (State.smuPush s a0 a1).blur b = s.blur b := by
  refine State.blur_mono ?_ hb
  unfold State.smuPush
  repeat' first
    | with_reducible rfl
    | simp (disch := decide) only [State.blur_ite, State.setSmu_blur, State.bump_blur, State.raise_blur]
    | with_reducible refine State.blur_when _ _ _ ?_
    | with_reducible refine (State.blur_when _ _ _ ?_).trans ?_
    | split

theorem State.smuMonitor_blur (s : State) (a0 : ℕ) (a1 : ℕ) (a2 : ℤ) {b : Nat} (hb : b &&& 0x1800000000000000000000000000000000000000000000000000000000000000000000000000000000000000000000000000000000000000000000000000000000000000000000000000000000000000000000000000000000000000000000000000004020 = 0x1800000000000000000000000000000000000000000000000000000000000000000000000000000000000000000000000000000000000000000000000000000000000000000000000000000000000000000000000000000000000000000000000000004020) : (State.smuMonitor s a0 a1 a2).blur b = s.blur b := by
  refine State.blur_mono ?_ hb
  unfold State.smuMonitor
  repeat' first
    | with_reducible rfl
    | simp (disch := decide) only [State.blur_ite, State.wb_blur, State.setSmu_blur, State.wr_blur, State.raise_blur]
    | with_reducible refine State.blur_when _ _ _ ?_
    | with_reducible refine (State.blur_when _ _ _ ?_).trans ?_
    | split

theorem State.smuDeliver_blur (s : State) (a0 : ℕ) (a1 : Mean) {b : Nat} (hb : b &&& 0x41800000000000000000000000000000000000000000000000000000000000000000000000000000000000000000000000000070000000000000000000000000000000000000000000000000000000000000000000000000000000000000000000003004020 = 0x41800000000000000000000000000000000000000000000000000000000000000000000000000000000000000000000000000070000000000000000000000000000000000000000000000000000000000000000000000000000000000000000000003004020) : (State.smuDeliver s a0 a1).blur b = s.blur b := by
  refine State.blur_mono ?_ hb
  unfold State.smuDeliver
  repeat' first
    | with_reducible rfl
    | simp (disch := decide) only [State.smuPush_blur, State.toContext_blur, State.acqOffer_blur, State.smuMonitor_blur]
    | with_reducible refine State.blur_when _ _ _ ?_
    | with_reducible refine (State.blur_when _ _ _ ?_).trans ?_

theorem State.hubLoad_blur (s : State) (a0 : Image) {b : Nat} (hb : b &&& 0x3d20000000000000000000000000000000000000000000000000000000000000000000000000000000000000000000000000000000000000000000020 = 0x3d20000000000000000000000000000000000000000000000000000000000000000000000000000000000000000000000000000000000000000000020) : (State.hubLoad s a0).blur b = s.blur b := by
  refine State.blur_mono ?_ hb
  unfold State.hubLoad
  repeat' first
    | with_reducible rfl
    | simp (disch := decide) only [State.blur_with_hub, State.wr_blur]
    | with_reducible refine State.blur_when _ _ _ ?_
    | with_reducible refine State.blur_each _ _ _ (fun t n => ?_)
    | with_reducible refine State.blur_foldl _ _ _ (fun t n => ?_)
    | with_reducible refine (State.blur_when _ _ _ ?_).trans ?_
    | with_reducible refine (State.blur_each _ _ _ (fun t n => ?_)).trans ?_
    | with_reducible refine (State.blur_foldl _ _ _ (fun t n => ?_)).trans ?_

theorem State.legacySpan_blur (s : State) (a0 : ℕ) (a1 : ℕ) {b : Nat} (hb : b &&& 0x40000000000000000000000000800000000000000000000000000000000000000000000000000000000000000000000000000000000000000000000000000000000001892040000000000000000000000000000000000000000111800 = 0x40000000000000000000000000800000000000000000000000000000000000000000000000000000000000000000000000000000000000000000000000000000000001892040000000000000000000000000000000000000000111800) : (State.legacySpan s a0 a1).blur b = s.blur b := by
  refine State.blur_mono ?_ hb
  unfold State.legacySpan
  dsimp only
  repeat' first
    | with_reducible rfl
    | (unfold lvlFld; split <;> simp (disch := decide) only [State.wr_blur])
    | split
    | simp (disch := decide) only [tileFields_blur]
    | with_reducible refine State.blur_when _ _ _ ?_
    | with_reducible refine State.blur_each _ _ _ (fun t n => ?_)

theorem State.recheck_blur (s : State) (a0 : ℕ) {b : Nat} (hb : b &&& 0x410000c0000000000000000000000000000000000000000000000000000000000000000100020 = 0x410000c0000000000000000000000000000000000000000000000000000000000000000100020) : (State.recheck s a0).blur b = s.blur b := by
  refine State.blur_mono ?_ hb
  unfold State.recheck
  repeat' first
    | with_reducible rfl
    | simp (disch := decide) only [State.blur_ite, ite_self, State.ringCheck_blur, State.ringTake_blur, State.setPlay_blur]
    | split

theorem State.groupCheckStop_blur (s : State) (a0 : ℕ) {b : Nat} (hb : b &&& 0x100000 = 0x100000) : (State.groupCheckStop s a0).blur b = s.blur b := by
  refine State.blur_mono ?_ hb
  unfold State.groupCheckStop
  repeat' first
    | with_reducible rfl
    | simp (disch := decide) only [State.setPlay_blur]
    | with_reducible refine State.blur_when _ _ _ ?_
    | with_reducible refine State.blur_each _ _ _ (fun t n => ?_)

theorem State.relock_blur (s : State) {b : Nat} (hb : b &&& 0x70000000000068 = 0x70000000000068) : (State.relock s).blur b = s.blur b := by
  refine State.blur_mono ?_ hb
  unfold State.relock
  simp (disch := decide) only [State.blur_with_m, State.quals_blur, State.wr_blur]

theorem State.personaFlag_blur (s : State) (f : Fld) (a1 : Nat) {b : Nat} (hb : b &&& 0 = 0) (hf : b.testBit (32 + f.key % 1024) = true) : (State.personaFlag s f a1).blur b = s.blur b := by
  exact s.wr_blur _ _ _ hf

theorem State.dpsFault_blur (s : State) (a0 : ℕ) {b : Nat} (hb : b &&& 32 = 32) : (State.dpsFault s a0).blur b = s.blur b := by
  refine State.blur_mono ?_ hb
  unfold State.dpsFault
  repeat' first
    | with_reducible rfl
    | simp (disch := decide) only [State.raise_blur]
    | with_reducible refine State.blur_when _ _ _ ?_

theorem State.supplyLoss_blur (s : State) {b : Nat} (hb : b &&& 0x1020000000000000000000000000000000000000000000000000000000000000000000000000000000000009020 = 0x1020000000000000000000000000000000000000000000000000000000000000000000000000000000000009020) : (State.supplyLoss s).blur b = s.blur b := by
  refine State.blur_mono ?_ hb
  unfold State.supplyLoss
  repeat' first
    | with_reducible rfl
    | simp (disch := decide) only [State.blur_ite, ite_self, State.dpsOpen_blur, State.dpsFault_blur, State.wr_blur]
    | with_reducible refine State.blur_when _ _ _ ?_
    | with_reducible refine State.blur_each _ _ _ (fun t n => ?_)

theorem State.claim_blur (s : State) (a0 : ℕ) (a1 : ℕ) {b : Nat} (hb : b &&& 32 = 32) : (State.claim s a0 a1).blur b = s.blur b := by
  refine State.blur_mono ?_ hb
  unfold State.claim
  simp (disch := decide) only [State.setSrc_blur]

theorem State.formRecord_blur (s : State) (a0 : ℕ) (a1 : ℕ) {b : Nat} (hb : b &&& 0x16c0000000000000000000000000000000000000000000000000000000000000000000000000000000000000200000000000000000000000000000000000000000000000000000000000000000000000000000000000000000000000000000000000000000000420 = 0x16c0000000000000000000000000000000000000000000000000000000000000000000000000000000000000200000000000000000000000000000000000000000000000000000000000000000000000000000000000000000000000000000000000000000000420) : (State.formRecord s a0 a1).blur b = s.blur b := by
  refine State.blur_mono ?_ hb
  unfold State.formRecord
  repeat' first
    | with_reducible rfl
    | simp (disch := decide) only [State.send_blur, State.claim_blur, State.wr_blur, State.qSync_blur, State.bump_blur, State.setQueue_blur, State.notice_blur]
    | with_reducible refine State.blur_when _ _ _ ?_
    | with_reducible refine (State.blur_when _ _ _ ?_).trans ?_

theorem State.lanesHalt_blur (s : State) (a0 : ℕ) {b : Nat} (hb : b &&& 2048 = 2048) : (State.lanesHalt s a0).blur b = s.blur b := by
  refine State.blur_mono ?_ hb
  unfold State.lanesHalt
  repeat' first
    | with_reducible rfl
    | simp (disch := decide) only [State.blur_ite, ite_self, State.setLane_blur]
    | with_reducible refine State.blur_when _ _ _ ?_
    | with_reducible refine State.blur_each _ _ _ (fun t n => ?_)
    | with_reducible refine State.blur_foldl _ _ _ (fun t n => ?_)

theorem State.machineCheck_blur (s : State) (a0 : ℕ) (a1 : ℕ) (a2 : ℕ) (a3 : ℕ) {b : Nat} (hb : b &&& 0x400000000000000000000000008000000000000000000000000000000000000000000000000000000000000000000000000000000028003c2000d009fc0000000000000900400011080000001000000000000000000004000005118a8 = 0x400000000000000000000000008000000000000000000000000000000000000000000000000000000000000000000000000000000028003c2000d009fc0000000000000900400011080000001000000000000000000004000005118a8) : (State.machineCheck s a0 a1 a2 a3).blur b = s.blur b := by
  refine State.blur_mono ?_ hb
  unfold State.machineCheck
  repeat' first
    | with_reducible rfl
    | simp (disch := decide) only [State.blur_ite, State.releaseHolder_blur, State.setSeq_blur, State.wr_blur, State.shard_blur, State.raise_blur, State.lanesHalt_blur, State.engineStop_blur, State.groupCheckStop_blur, State.modeRequest_blur]
    | with_reducible refine State.blur_when _ _ _ ?_
    | with_reducible refine (State.blur_when _ _ _ ?_).trans ?_
    | split

theorem State.parityCheck_blur (s : State) (a0 : ℕ) (a1 : ℕ) (a2 : ℕ) {b : Nat} (hb : b &&& 0x400000000000000000000000008000000000000000000000000000000000000000000000000000000000000000000000000000000028003c2000d009fc0000000000000900400011080000001000000000000000000004000005118a8 = 0x400000000000000000000000008000000000000000000000000000000000000000000000000000000000000000000000000000000028003c2000d009fc0000000000000900400011080000001000000000000000000004000005118a8) : (State.parityCheck s a0 a1 a2).blur b = s.blur b := by
  refine State.blur_mono ?_ hb
  unfold State.parityCheck
  simp (disch := decide) only [State.machineCheck_blur]

theorem State.entryRead_blur (s : State) (a0 : ℕ) (a1 : ℕ) {b : Nat} (hb : b &&& 0x400000000000000000000000008000000000000000000000000000000000000000000000000000000000000000000000000000000028003c2000d009fc0000000000000900400011080000001000000000000000000004000005118a8 = 0x400000000000000000000000008000000000000000000000000000000000000000000000000000000000000000000000000000000028003c2000d009fc0000000000000900400011080000001000000000000000000004000005118a8) : (State.entryRead s a0 a1).blur b = s.blur b := by
  refine State.blur_mono ?_ hb
  unfold State.entryRead
  repeat' first
    | with_reducible rfl
    | simp (disch := decide) only [State.parityCheck_blur, State.setSeq_blur]
    | split

theorem State.enterTop_blur (s : State) (a0 : ℕ) (a1 : ℕ) (a2 : Bool) (a3 : ℕ) {b : Nat} (hb : b &&& 0x400000000000000000000000008000000000000000000000000000000000000000000000000000000000000000000000000000000028003c2000d009fc0000000000000900400011080000001000000000000000000004000005118a8 = 0x400000000000000000000000008000000000000000000000000000000000000000000000000000000000000000000000000000000028003c2000d009fc0000000000000900400011080000001000000000000000000004000005118a8) : (State.enterTop s a0 a1 a2 a3).blur b = s.blur b := by
  refine State.blur_mono ?_ hb
  unfold State.enterTop
  simp (disch := decide) only [State.wb_blur, State.wr_blur, State.setSeq_blur, State.entryRead_blur, State.resSync_blur]

theorem State.rete_blur (s : State) (a0 : ℕ) (a1 : ℕ) {b : Nat} (hb : b &&& 0x400000000000f80000000000008000000000000000000000000000000000000000000000000000000000000000000000000000000028003c2000d009fc0000000000000900400011080000001000000000000000000004000005118a8 = 0x400000000000f80000000000008000000000000000000000000000000000000000000000000000000000000000000000000000000028003c2000d009fc0000000000000900400011080000001000000000000000000004000005118a8) : (State.rete s a0 a1).1.blur b = s.blur b := by
  refine State.blur_mono ?_ hb
  unfold State.rete
  dsimp only
  simp only [List.foldl_cons, List.foldl_nil]
  repeat' first
    | with_reducible rfl
    | split
    | simp (disch := decide) only [State.machineCheck_blur, State.release_blur, State.enterTop_blur, State.claim_blur, State.wr_blur, State.wb_blur, State.setSeq_blur, State.resSync_blur]

theorem State.timeNowRead_blur (s : State) (a0 : Req) {b : Nat} (hb : b &&& 64 = 64) : (State.timeNowRead s a0).1.blur b = s.blur b := by
  refine State.blur_mono ?_ hb
  unfold State.timeNowRead
  simp (disch := decide) only [State.blur_with_time]

theorem State.tdcUnref_blur (s : State) {b : Nat} (hb : b &&& 0x800000 = 0x800000) : (State.tdcUnref s).blur b = s.blur b := by
  refine State.blur_mono ?_ hb
  unfold State.tdcUnref
  repeat' first
    | with_reducible rfl
    | simp (disch := decide) only [State.blur_ite, ite_self, State.setTdc_blur]
    | with_reducible refine State.blur_when _ _ _ ?_
    | with_reducible refine State.blur_each _ _ _ (fun t n => ?_)

theorem State.calMeasured_blur (s : State) (a0 : ℕ) (a1 : ℕ) (a2 : ℕ) (a3 : List ℤ) (a4 : Bool) {b : Nat} (hb : b &&& 0x77fffff80001007040000000000007007ffffe1000038000000000000000000000000000000000000000000000000ffffffff007ffffffffffff80000000000000000000000000000000000000001e200000000000107f060000000000000004000008fbba0 = 0x77fffff80001007040000000000007007ffffe1000038000000000000000000000000000000000000000000000000ffffffff007ffffffffffff80000000000000000000000000000000000000001e200000000000107f060000000000000004000008fbba0) : (State.calMeasured s a0 a1 a2 a3 a4).blur b = s.blur b := by
  refine State.blur_mono ?_ hb
  unfold State.calMeasured
  repeat' first
    | with_reducible rfl
    | simp (disch := decide) only [State.blur_ite, State.markUnit_blur, State.bump_blur, State.calResult_blur, State.draw_blur, State.calApply_blur]
    | split

theorem State.calAttempt_blur (s : State) (a0 : ℕ) (a1 : ℕ) (a2 : ℕ) (a3 : CalOutcome) {b : Nat} (hb : b &&& 0x77fffff80001007040400000000007007ffffe100033c79c400000000000000000000000000000000000000000000ffffffff007ffffffffffff80000000000000000000000000000000000000001ea00000000000107f060000000000000004000008fbba0 = 0x77fffff80001007040400000000007007ffffe100033c79c400000000000000000000000000000000000000000000ffffffff007ffffffffffff80000000000000000000000000000000000000001ea00000000000107f060000000000000004000008fbba0) : (State.calAttempt s a0 a1 a2 a3).blur b = s.blur b := by
  refine State.blur_mono ?_ hb
  unfold State.calAttempt
  repeat' first
    | with_reducible rfl
    | simp (disch := decide) only [State.gapReturn_blur, State.calSpineFail_blur, State.calGo_blur, State.setCal_blur, State.calMeasured_blur, State.calShadow_blur, State.wr_blur]
    | with_reducible refine State.blur_when _ _ _ ?_
    | with_reducible refine (State.blur_when _ _ _ ?_).trans ?_
    | split

theorem State.hkLoad_blur (s : State) (a0 : Image) {b : Nat} (hb : b &&& 0x9fe000000000000000000000000000000000000000000040000000000000600000 = 0x9fe000000000000000000000000000000000000000000040000000000000600000) : (State.hkLoad s a0).blur b = s.blur b := by
  refine State.blur_mono ?_ hb
  unfold State.hkLoad
  simp (disch := decide) only [State.hkRestart_blur, State.wr_blur, State.setStore_blur]

theorem State.routesLoad_blur (s : State) (a0 : Image) {b : Nat} (hb : b &&& 0x2000000000000000000000000000000000000000000000000000000000000000000000000000000000000000300000000000000000000000000000000000000000000000000000000000000000000000000000000000000000000000000 = 0x2000000000000000000000000000000000000000000000000000000000000000000000000000000000000000300000000000000000000000000000000000000000000000000000000000000000000000000000000000000000000000000) : (State.routesLoad s a0).blur b = s.blur b := by
  refine State.blur_mono ?_ hb
  unfold State.routesLoad
  repeat' first
    | with_reducible rfl
    | simp (disch := decide) only [State.blur_ite, ite_self, State.wr_blur]
    | with_reducible refine State.blur_each _ _ _ (fun t n => ?_)
    | with_reducible refine (State.blur_each _ _ _ (fun t n => ?_)).trans ?_

theorem State.orderShard_blur (s : State) {b : Nat} (hb : b &&& 0x100000000000000000000400000000088 = 0x100000000000000000000400000000088) : (State.orderShard s).blur b = s.blur b := by
  refine State.blur_mono ?_ hb
  unfold State.orderShard
  simp (disch := decide) only [State.blur_ite, ite_self, State.blur_with_m, State.shard_blur]

theorem State.applyImage_blur (s : State) (a0 : Image) {b : Nat} (hb : b &&& 0x77fffff8000100706040000000019f007ffffe3000008000000020001f8100000000000000000400003d200000000ffffffff007ffffffffffff8000000000000000000009fe00000000000000001f700019fc0000107f0700000004000ff83400001e1bbb8 = 0x77fffff8000100706040000000019f007ffffe3000008000000020001f8100000000000000000400003d200000000ffffffff007ffffffffffff8000000000000000000009fe00000000000000001f700019fc0000107f0700000004000ff83400001e1bbb8) : (State.applyImage s a0).blur b = s.blur b := by
  refine State.blur_mono ?_ hb
  unfold State.applyImage
  repeat' first
    | with_reducible rfl
    | simp (disch := decide) only [State.blur_with_m, State.wr_blur, State.wb_blur, State.hkLoad_blur, State.routesLoad_blur, State.allotAll_blur, State.hubLoad_blur, State.mouldStatus_blur, State.raise_blur, State.startStep_blur, State.selectors_blur, State.orderShard_blur, State.setMode_blur]
    | with_reducible refine State.blur_when _ _ _ ?_
    | with_reducible refine State.blur_each _ _ _ (fun t n => ?_)
    | with_reducible refine State.blur_foldl _ _ _ (fun t n => ?_)
    | with_reducible refine (State.blur_when _ _ _ ?_).trans ?_
    | with_reducible refine (State.blur_each _ _ _ (fun t n => ?_)).trans ?_
    | with_reducible refine (State.blur_foldl _ _ _ (fun t n => ?_)).trans ?_
    | with_reducible refine State.blur_foldl_fst _ _ _ _ (fun t n => ?_)
    | with_reducible refine (State.blur_foldl_fst _ _ _ _ (fun t n => ?_)).trans ?_
    | with_reducible refine Fx.of_blur _ _ ?_
    | with_reducible refine Fx.then_blur _ _ _ ?_ (fun t => ?_)
    | with_reducible refine Fx.ite_blur _ _ _ _ ?_ ?_
    | split
    | rfl

theorem State.feSwap_blur (s : State) (a0 : ℕ) {b : Nat} (hb : b &&& 0x2000000000000000000000000000000000000000000800 = 0x2000000000000000000000000000000000000000000800) : (State.feSwap s a0).blur b = s.blur b := by
  refine State.blur_mono ?_ hb
  unfold State.feSwap
  repeat' first
    | with_reducible rfl
    | simp (disch := decide) only [State.blur_ite, ite_self, State.wr_blur, State.setLane_blur]
    | split

theorem State.handoverTick_blur (s : State) {b : Nat} (hb : b &&& 0x2000000000000000000000000000000000000000000800 = 0x2000000000000000000000000000000000000000000800) : (State.handoverTick s).blur b = s.blur b := by
  refine State.blur_mono ?_ hb
  unfold State.handoverTick
  repeat' first
    | with_reducible rfl
    | simp (disch := decide) only [State.setLane_blur, State.feSwap_blur]
    | with_reducible refine State.blur_when _ _ _ ?_
    | with_reducible refine State.blur_each _ _ _ (fun t n => ?_)
    | with_reducible refine State.blur_foldl _ _ _ (fun t n => ?_)
    | with_reducible refine (State.blur_when _ _ _ ?_).trans ?_
    | with_reducible refine (State.blur_each _ _ _ (fun t n => ?_)).trans ?_
    | with_reducible refine (State.blur_foldl _ _ _ (fun t n => ?_)).trans ?_
    | with_reducible refine State.blur_foldl_fst _ _ _ _ (fun t n => ?_)
    | with_reducible refine (State.blur_foldl_fst _ _ _ _ (fun t n => ?_)).trans ?_
    | split

theorem State.residueFail_blur (s : State) (a0 : ℕ) (a1 : ℕ) {b : Nat} (hb : b &&& 0x77fffff80001007040000000000007007ffffe1000008000000000000000000000000000000000000000000000000ffffffff007ffffffffffff80000000000000000000000000000000000000001e200000000000107f0600000000000000040000081bba0 = 0x77fffff80001007040000000000007007ffffe1000008000000000000000000000000000000000000000000000000ffffffff007ffffffffffff80000000000000000000000000000000000000001e200000000000107f0600000000000000040000081bba0) : (State.residueFail s a0 a1).blur b = s.blur b := by
  refine State.blur_mono ?_ hb
  unfold State.residueFail
  simp (disch := decide) only [State.blur_ite, ite_self, State.draw_blur, State.markUnit_blur]

theorem State.txStampRead_blur (s : State) (a0 : ℕ) {b : Nat} (hb : b &&& 0x3c0000000000000000000000000000000000000000000000000000000000000000000000000000000000000000000000000000000000000000000000000000000040 = 0x3c0000000000000000000000000000000000000000000000000000000000000000000000000000000000000000000000000000000000000000000000000000000040) : (State.txStampRead s a0).1.blur b = s.blur b := by
  refine State.blur_mono ?_ hb
  unfold State.txStampRead
  repeat' first
    | with_reducible rfl
    | simp (disch := decide) only [State.setPort_blur, State.wr_blur]
    | split

theorem State.smuRead_blur (s : State) (a0 : ℕ) {b : Nat} (hb : b &&& 0x30000000000000000000000000000000000000000000000000000000000000000000000000000000000000000000000000000000000000000000000000000000000000000000000000000000000000000000000000000000000000000000000000000004000 = 0x30000000000000000000000000000000000000000000000000000000000000000000000000000000000000000000000000000000000000000000000000000000000000000000000000000000000000000000000000000000000000000000000000000004000) : (State.smuRead s a0).1.blur b = s.blur b := by
  refine State.blur_mono ?_ hb
  unfold State.smuRead
  repeat' first
    | with_reducible rfl
    | simp (disch := decide) only [State.wr_blur, State.setSmu_blur]
    | split

theorem State.tdcRead_blur (s : State) (a0 : ℕ) {b : Nat} (hb : b &&& 0x1ffe2000000000000000000000000000000000000000000000000000000000000000000000000000000000000000000000000000800000 = 0x1ffe2000000000000000000000000000000000000000000000000000000000000000000000000000000000000000000000000000800000) : (State.tdcRead s a0).1.blur b = s.blur b := by
  refine State.blur_mono ?_ hb
  unfold State.tdcRead
  repeat' first
    | with_reducible rfl
    | simp (disch := decide) only [State.wr_blur, State.setTdc_blur, State.wb_blur]
    | split

theorem State.regRead_blur (s : State) (a0 : Req) (a1 : Reg) (a2 : ℕ) (a3 : ℕ) {b : Nat} (hb : b &&& 0x300000001804000000000000000000000000000000000000000000000000000000000003c000000000000000000001ffe2000000000000000000000000000000000000000000000000000000000000000000000000000000000000000000000000000806440 = 0x300000001804000000000000000000000000000000000000000000000000000000000003c000000000000000000001ffe2000000000000000000000000000000000000000000000000000000000000000000000000000000000000000000000000000806440) : (State.regRead s a0 a1 a2 a3).1.blur b = s.blur b := by
  refine State.blur_mono ?_ hb
  unfold State.regRead
  repeat' first
    | with_reducible rfl
    | simp (disch := decide) only [State.timeNowRead_blur, State.txStampRead_blur, State.adcRead_blur, State.smuRead_blur, State.tdcRead_blur, State.setRsn_blur]
    | split

theorem State.busRead_blur (s : State) (a0 : Req) (a1 : ℕ) {b : Nat} (hb : b &&& 0x300000001804000000000000000000000000000000000000000a00000000000000000003c000000000000000000001ffe2000000000000000000000000000000000000000000000000000000000000000000000000000000000000000000000000010806440 = 0x300000001804000000000000000000000000000000000000000a00000000000000000003c000000000000000000001ffe2000000000000000000000000000000000000000000000000000000000000000000000000000000000000000000000000010806440) : (State.busRead s a0 a1).1.blur b = s.blur b := by
  refine State.blur_mono ?_ hb
  unfold State.busRead
  repeat' first
    | with_reducible rfl
    | simp (disch := decide) only [State.blur_ite_fst, ite_self, State.winRead_blur, State.regRead_blur]
    | split

theorem State.busClear_blur (s : State) (a0 : Option (Reg × ℕ)) (a1 : ℕ) {b : Nat} (hb : b &&& 0xffffffffffffffffffffffffffffffffffffffffffffffffffffffffffffffffffffffffffffffffffffffffffffffffffffffffffffffffffffffffffffffffffffffffffffffffffffffffffffffffffffffffffffffffffffffffffffffffffffffffffffffffffffffffffffffffffffffffffffffffffffffffffffffff00000000 = 0xffffffffffffffffffffffffffffffffffffffffffffffffffffffffffffffffffffffffffffffffffffffffffffffffffffffffffffffffffffffffffffffffffffffffffffffffffffffffffffffffffffffffffffffffffffffffffffffffffffffffffffffffffffffffffffffffffffffffffffffffffffffffffffffff00000000) : (State.busClear s a0 a1).blur b = s.blur b := by
  refine State.blur_mono ?_ hb
  unfold State.busClear
  repeat' first
    | with_reducible rfl
    | simp (disch := decide) only [State.rcClear_blur]
    | split

theorem State.hostRead_blur (s : State) (a0 : Req) (a1 : ℕ) (a2 : Reg → Bool) {b : Nat} (hb : b &&& 0xffffffffffffffffffffffffffffffffffffffffffffffffffffffffffffffffffffffffffffffffffffffffffffffffffffffffffffffffffffffffffffffffffffffffffffffffffffffffffffffffffffffffffffffffffffffffffffffffffffffffffffffffffffffffffffffffffffffffffffffffffffffffffffffff10806440 = 0xffffffffffffffffffffffffffffffffffffffffffffffffffffffffffffffffffffffffffffffffffffffffffffffffffffffffffffffffffffffffffffffffffffffffffffffffffffffffffffffffffffffffffffffffffffffffffffffffffffffffffffffffffffffffffffffffffffffffffffffffffffffffffffffff10806440) : (State.hostRead s a0 a1 a2).blur b = s.blur b := by
  refine State.blur_mono ?_ hb
  unfold State.hostRead
  repeat' first
    | with_reducible rfl
    | simp (disch := decide) only [State.blur_ite, ite_self, State.busRead_blur, State.send_blur, State.busClear_blur]
    | split

theorem State.setLevels_blur (s : State) (a0 : ℕ) (a1 : ℕ) {b : Nat} (hb : b &&& 0x800000000000000000000000000000000000000000000000000000000000000000000000000000000000000000000000000000000000000000000000000000000000000000000000000000000111000 = 0x800000000000000000000000000000000000000000000000000000000000000000000000000000000000000000000000000000000000000000000000000000000000000000000000000000000111000) : (State.setLevels s a0 a1).blur b = s.blur b := by
  refine State.blur_mono ?_ hb
  unfold State.setLevels
  repeat' first
    | with_reducible rfl
    | simp (disch := decide) only [State.blur_ite, State.setPlay_blur, State.trigger_blur]
    | with_reducible refine State.blur_each _ _ _ (fun t n => ?_)
    | with_reducible refine (State.blur_each _ _ _ (fun t n => ?_)).trans ?_
    | split

theorem State.result_blur (s : State) (a0 : ℕ) (a1 : VecRec) (a2 : Bool) (a3 : Bool) (a4 : ℕ) {b : Nat} (hb : b &&& 0x7f4040098000000000000000000000000000000000000000000000000000000000000000000000000100020 = 0x7f4040098000000000000000000000000000000000000000000000000000000000000000000000000100020) : (State.result s a0 a1 a2 a3 a4).blur b = s.blur b := by
  refine State.blur_mono ?_ hb
  unfold State.result
  repeat' first
    | with_reducible rfl
    | simp (disch := decide) only [State.blur_ite, ite_self, State.modVec_blur, State.wr_blur, State.setPlay_blur, State.countFail_blur]
    | with_reducible refine State.blur_when _ _ _ ?_
    | with_reducible refine (State.blur_when _ _ _ ?_).trans ?_
    | split

theorem State.tickWork_blur (s : State) {b : Nat} (hb : b &&& 0x2000000000000000000000000000000000000002500840 = 0x2000000000000000000000000000000000000002500840) : (State.tickWork s).blur b = s.blur b := by
  refine State.blur_mono ?_ hb
  unfold State.tickWork
  repeat' first
    | with_reducible rfl
    | simp (disch := decide) only [State.blur_with_time, State.handoverTick_blur, State.acqTick_blur, State.playTick_blur, State.setSeq_blur]
    | with_reducible refine State.blur_when _ _ _ ?_
    | with_reducible refine State.blur_each _ _ _ (fun t n => ?_)

theorem State.passEnd_blur (s : State) (a0 : ℕ) {b : Nat} (hb : b &&& 0x40000000000000000000000000800000000000000000000000000000000000000000000000000000000000000000000000000000002869bc20c0000004000000000000090040000000000000000000000000000000000000000511820 = 0x40000000000000000000000000800000000000000000000000000000000000000000000000000000000000000000000000000000002869bc20c0000004000000000000090040000000000000000000000000000000000000000511820) : (State.passEnd s a0).blur b = s.blur b := by
  refine State.blur_mono ?_ hb
  unfold State.passEnd
  dsimp only
  repeat' first
    | with_reducible rfl
    | split
    | simp (disch := decide) only [State.slotFree_blur, State.abortStop_blur, State.setPlay_blur, State.groupStop_blur, State.tileStop_blur, State.bump_blur, State.choose_blur]
    | with_reducible refine State.blur_when _ _ _ ?_

theorem State.acqFlush_blur (s : State) (a0 : ℕ) {b : Nat} (hb : b &&& 0x12000600000000000000040000e0003a0 = 0x12000600000000000000040000e0003a0) : (State.acqFlush s a0).blur b = s.blur b := by
  refine State.blur_mono ?_ hb
  unfold State.acqFlush
  repeat' first
    | with_reducible rfl
    | simp (disch := decide) only [State.capPut_blur, State.setAcq_blur]
    | with_reducible refine State.blur_when _ _ _ ?_
    | with_reducible refine State.blur_each _ _ _ (fun t n => ?_)
    | with_reducible refine State.blur_foldl _ _ _ (fun t n => ?_)
    | with_reducible refine (State.blur_when _ _ _ ?_).trans ?_
    | with_reducible refine (State.blur_each _ _ _ (fun t n => ?_)).trans ?_
    | with_reducible refine (State.blur_foldl _ _ _ (fun t n => ?_)).trans ?_

theorem State.acqStore_blur (s : State) (a0 : ℕ) (a1 : AcqSt) {b : Nat} (hb : b &&& 0x100000000000000000000000000000000000000000000000000000000000000000000000000000012000600000000000000040000e0003a0 = 0x100000000000000000000000000000000000000000000000000000000000000000000000000000012000600000000000000040000e0003a0) : (State.acqStore s a0 a1).1.blur b = s.blur b := by
  refine State.blur_mono ?_ hb
  unfold State.acqStore
  simp (disch := decide) only [State.blur_ite_fst, ite_self, State.acqClosing_blur, State.raise_blur, State.acqFlush_blur, State.setAcq_blur]

theorem State.roundClears_blur (s : State) {b : Nat} (hb : b &&& 0x800000000000000000400000000000000000000000000000000000000000000000000000000000000000000000000000000000000000006000000000000000000000000000000000000000000000000000000000000000000000000000000000000000000 = 0x800000000000000000400000000000000000000000000000000000000000000000000000000000000000000000000000000000000000006000000000000000000000000000000000000000000000000000000000000000000000000000000000000000000) : (State.roundClears s).blur b = s.blur b := by
  refine State.blur_mono ?_ hb
  unfold State.roundClears
  repeat' first
    | with_reducible rfl
    | simp (disch := decide) only [State.wr_blur]
    | with_reducible refine State.blur_when _ _ _ ?_
    | with_reducible refine State.blur_each _ _ _ (fun t n => ?_)
    | with_reducible refine State.blur_foldl _ _ _ (fun t n => ?_)
    | with_reducible refine (State.blur_when _ _ _ ?_).trans ?_
    | with_reducible refine (State.blur_each _ _ _ (fun t n => ?_)).trans ?_

theorem State.putTemps_blur (s : State) (a0 : List ℤ) (a1 : List ℤ) {b : Nat} (hb : b &&& 0x330000000000000000000000 = 0x330000000000000000000000) : (State.putTemps s a0 a1).blur b = s.blur b := by
  refine State.blur_mono ?_ hb
  unfold State.putTemps
  repeat' first
    | with_reducible rfl
    | simp (disch := decide) only [State.wr_blur]
    | with_reducible refine State.blur_when _ _ _ ?_
    | with_reducible refine State.blur_each _ _ _ (fun t n => ?_)

theorem State.effectives_blur (s : State) (a0 : List ℤ) {b : Nat} (hb : b &&& 0 = 0) : (State.effectives s a0).2.blur b = s.blur b := by
  refine State.blur_mono ?_ hb
  unfold State.effectives
  suffices ∀ (l : List Nat) (e : List Int × State), (l.foldl (fun (e : List Int × State) n => match s.effective a0 n with
      | some x => (e.1 ++ [x], e.2)
      | none => let (v, s') := e.2.draw 6; (e.1 ++ [toSigned 16 v], s')) e).2.blur 0 = e.2.blur 0 from this _ _
  intro l
  induction l with
  | nil => exact fun _ => rfl
  | cons x r ih =>
    intro e
    refine (ih _).trans ?_
    dsimp only
    split <;> rfl

theorem State.ctxSample_blur (s : State) (a0 : RedSample) {b : Nat} (hb : b &&& 0x28000000000000000000000000000000000000000000000000000000000000000000000000000000000000000000000000000000800000000000000000000000000000000000000000000000000000000000000000001200060000000000000004000010003a0 = 0x28000000000000000000000000000000000000000000000000000000000000000000000000000000000000000000000000000000800000000000000000000000000000000000000000000000000000000000000000001200060000000000000004000010003a0) : (State.ctxSample s a0).blur b = s.blur b := by
  refine State.blur_mono ?_ hb
  unfold State.ctxSample
  simp (disch := decide) only [State.blur_ite, ite_self, State.ctxDrop_blur, State.ctxUe_blur, State.bump_blur, State.ctxComplete_blur, State.setCtx_blur]

theorem State.beginSucc_blur (s : State) (a0 : ℕ) (a1 : Succ) {b : Nat} (hb : b &&& 0x2020000000000000000000000000000000000000000000000000000000000000000000100000 = 0x2020000000000000000000000000000000000000000000000000000000000000000000100000) : (State.beginSucc s a0 a1).blur b = s.blur b := by
  refine State.blur_mono ?_ hb
  unfold State.beginSucc
  simp (disch := decide) only [State.wr_blur, State.setPlay_blur]

theorem State.overrideAt_blur (s : State) (a0 : ℕ) (a1 : ℕ) {b : Nat} (hb : b &&& 0x600000000000000000000000000000000000000000000000000000000000000000000000000000000000000000000000000000000000000000000000000000000a0000000000000000000000000000000000000000000000000000800 = 0x600000000000000000000000000000000000000000000000000000000000000000000000000000000000000000000000000000000000000000000000000000000a0000000000000000000000000000000000000000000000000000800) : (State.overrideAt s a0 a1).blur b = s.blur b := by
  refine State.blur_mono ?_ hb
  unfold State.overrideAt
  repeat' first
    | with_reducible rfl
    | simp (disch := decide) only [State.blur_ite, ite_self, State.transition_blur, State.wr_blur]
    | with_reducible refine State.blur_when _ _ _ ?_
    | with_reducible refine State.blur_each _ _ _ (fun t n => ?_)
    | split

theorem State.vectorBoundary_blur (s : State) (a0 : ℕ) (a1 : Option ℕ) {b : Nat} (hb : b &&& 0x8000000000000000604000000000000000000000008000000000000000000000000000000000000000000000000000000000000000000060000000000000000000000000000000001e0000090040000000000000000000000000000000000000002111800 = 0x8000000000000000604000000000000000000000008000000000000000000000000000000000000000000000000000000000000000000060000000000000000000000000000000001e0000090040000000000000000000000000000000000000002111800) : (State.vectorBoundary s a0 a1).blur b = s.blur b := by
  refine State.blur_mono ?_ hb
  unfold State.vectorBoundary
  repeat' first
    | with_reducible rfl
    | simp (disch := decide) only [State.boundaryFlush_blur, State.wr_blur, State.setLevels_blur, State.ncoSync_blur, State.overrideAt_blur, State.setLane_blur]
    | with_reducible refine State.blur_when _ _ _ ?_
    | with_reducible refine State.blur_each _ _ _ (fun t n => ?_)
    | with_reducible refine State.blur_foldl _ _ _ (fun t n => ?_)
    | with_reducible refine (State.blur_when _ _ _ ?_).trans ?_
    | with_reducible refine (State.blur_each _ _ _ (fun t n => ?_)).trans ?_
    | with_reducible refine (State.blur_foldl _ _ _ (fun t n => ?_)).trans ?_
    | with_reducible refine State.blur_foldl_fst _ _ _ _ (fun t n => ?_)
    | with_reducible refine (State.blur_foldl_fst _ _ _ _ (fun t n => ?_)).trans ?_
    | split

theorem State.refillReady_blur (s : State) (a0 : Desc) {b : Nat} (hb : b &&& 0x1c00000000000000000000000000000000000000000000000000000000000000000000000100020 = 0x1c00000000000000000000000000000000000000000000000000000000000000000000000100020) : (State.refillReady s a0).blur b = s.blur b := by
  refine State.blur_mono ?_ hb
  unfold State.refillReady
  simp (disch := decide) only [State.ringLow_blur, State.wr_blur, State.wb_blur]

theorem State.moveBlock_blur (s : State) (a0 : ℕ) (a1 : List ℕ) {b : Nat} (hb : b &&& 0x1c00000000000000000000000000000000000000000000000000000000000000000000000300420 = 0x1c00000000000000000000000000000000000000000000000000000000000000000000000300420) : (State.moveBlock s a0 a1).blur b = s.blur b := by
  refine State.blur_mono ?_ hb
  unfold State.moveBlock
  repeat' first
    | with_reducible rfl
    | simp (disch := decide) only [State.blur_ite, State.blur_with_host, State.rowBlock_blur, State.setRing_blur, State.refillReady_blur]
    | with_reducible refine State.blur_when _ _ _ ?_
    | with_reducible refine (State.blur_when _ _ _ ?_).trans ?_
    | split

theorem State.moveBlocks_blur (s : State) (a0 : ℕ) (a1 : List ℕ) {b : Nat} (hb : b &&& 0x1c00000000000000000000000000000000000000000000000000000000000000000000000300420 = 0x1c00000000000000000000000000000000000000000000000000000000000000000000000300420) : (State.moveBlocks s a0 a1).blur b = s.blur b := by
  refine State.blur_mono ?_ hb
  unfold State.moveBlocks
  repeat' first
    | with_reducible rfl
    | simp (disch := decide) only [State.moveBlock_blur]
    | with_reducible refine State.blur_when _ _ _ ?_
    | with_reducible refine State.blur_each _ _ _ (fun t n => ?_)
    | with_reducible refine State.blur_foldl _ _ _ (fun t n => ?_)

theorem State.resample_blur (s : State) {b : Nat} (hb : b &&& 8 = 8) : (State.resample s).blur b = s.blur b := by
  refine State.blur_mono ?_ hb
  unfold State.resample
  simp (disch := decide) only [State.blur_ite, ite_self, State.blur_with_m, State.draw_blur]

theorem State.seqNext_blur (s : State) (a0 : ℕ) (a1 : ℕ) (a2 : ℕ) (a3 : Bool) {b : Nat} (hb : b &&& 0x800000000000000000000000000000000000000000000000000000000000400000 = 0x800000000000000000000000000000000000000000000000000000000000400000) : (State.seqNext s a0 a1 a2 a3).blur b = s.blur b := by
  refine State.blur_mono ?_ hb
  unfold State.seqNext
  simp (disch := decide) only [State.blur_ite, ite_self, State.wr_blur, State.setSeq_blur]

theorem State.segPlay_blur (s : State) (a0 : ℕ) (a1 : ℕ) (a2 : ℕ) (a3 : ℕ) (a4 : ℕ) (a5 : ℕ) (a6 : List ℕ) {b : Nat} (hb : b &&& 0x800000000000000060400000000000000000000000800000000000000000000000000000000000000000000000000000000000000000006000000000062869bc20c00000040240001f0000090040000000000000000000000000000000000000002511820 = 0x800000000000000060400000000000000000000000800000000000000000000000000000000000000000000000000000000000000000006000000000062869bc20c00000040240001f0000090040000000000000000000000000000000000000002511820) : (State.segPlay s a0 a1 a2 a3 a4 a5 a6).blur b = s.blur b := by
  refine State.blur_mono ?_ hb
  unfold State.segPlay
  dsimp only
  rw [State.blur_ite, State.passEnd_blur _ _ (by decide), ite_self]
  refine (State.placeVector_blur _ _ _ (by decide)).trans ?_
  refine (State.setPlay_blur _ _ _ (by decide)).trans ?_
  refine (State.blur_when _ _ _ (State.acqMarkAt_blur _ _ _ _ (by decide))).trans ?_
  refine (State.blur_each _ _ _ fun t n => State.ncoOrigin_blur _ _ _ _ (by decide)).trans ?_
  refine (State.setPlay_blur _ _ _ (by decide)).trans ?_
  exact State.vectorBoundary_blur _ _ _ (by decide)

theorem State.coneS_blur (s : State) (a0 : ℤ) {b : Nat} (hb : b &&& 0x40000000 = 0x40000000) : (State.coneS s a0).1.blur b = s.blur b := by
  refine State.blur_mono ?_ hb
  unfold State.coneS
  simp (disch := decide) only [State.blur_with_hk]

theorem State.stopStep_blur (s : State) (a0 : ℕ) {b : Nat} (hb : b &&& 0x100000 = 0x100000) : (State.stopStep s a0).1.blur b = s.blur b := by
  refine State.blur_mono ?_ hb
  unfold State.stopStep
  repeat' first
    | with_reducible rfl
    | simp (disch := decide) only [State.blur_ite_fst, ite_self, State.setPlay_blur]
    | split

theorem State.beginPass_blur (s : State) (a0 : ℕ) (a1 : ℕ) {b : Nat} (hb : b &&& 0x2000000000000000000000000000000000000000000000000000000000000000000000100000 = 0x2000000000000000000000000000000000000000000000000000000000000000000000100000) : (State.beginPass s a0 a1).blur b = s.blur b := by
  refine State.blur_mono ?_ hb
  unfold State.beginPass
  simp (disch := decide) only [State.wr_blur, State.setPlay_blur]

theorem State.groupStep_blur (s : State) (a0 : ℕ) {b : Nat} (hb : b &&& 0x2020000000000000000000000000000000000000000000000000000000000000000000100000 = 0x2020000000000000000000000000000000000000000000000000000000000000000000100000) : (State.groupStep s a0).1.blur b = s.blur b := by
  refine State.blur_mono ?_ hb
  unfold State.groupStep
  repeat' first
    | with_reducible rfl
    | simp (disch := decide) only [State.blur_ite_fst, ite_self, State.setPlay_blur, State.beginSucc_blur]
    | with_reducible refine State.blur_when _ _ _ ?_
    | with_reducible refine State.blur_each _ _ _ (fun t n => ?_)
    | split

theorem State.nextRead_blur (s : State) (a0 : ℕ) {b : Nat} (hb : b &&& 0x2020000000000000000000000000000000000000000000000000000000000000000000100000 = 0x2020000000000000000000000000000000000000000000000000000000000000000000100000) : (State.nextRead s a0).1.blur b = s.blur b := by
  refine State.blur_mono ?_ hb
  unfold State.nextRead
  repeat' first
    | with_reducible rfl
    | simp (disch := decide) only [State.blur_ite_fst, ite_self, State.stopStep_blur, State.beginPass_blur, State.beginSucc_blur, State.groupStep_blur]
    | split

theorem State.personaRefuse_blur (s : State) {b : Nat} (hb : b &&& 0xe0000000000000000000000000000000000000000000000000000000000000000000000000000000000000000000000000000000000000000000000000000000000000000000 = 0xe0000000000000000000000000000000000000000000000000000000000000000000000000000000000000000000000000000000000000000000000000000000000000000000) : (State.personaRefuse s).blur b = s.blur b := by
  refine State.blur_mono ?_ hb
  unfold State.personaRefuse
  repeat' first
    | with_reducible rfl
    | simp (disch := decide) only [State.draw_blur, State.wr_blur, State.bump_blur]
    | split

theorem State.vecsDone_blur (s : State) (a0 : ℕ) {b : Nat} (hb : b &&& 0x100000 = 0x100000) : (State.vecsDone s a0).blur b = s.blur b := by
  refine State.blur_mono ?_ hb
  unfold State.vecsDone
  simp (disch := decide) only [State.setPlay_blur]

theorem State.trimWhole_blur (s : State) (a0 : ℕ) (a1 : ℕ) {b : Nat} (hb : b &&& 131072 = 131072) : (State.trimWhole s a0 a1).blur b = s.blur b := by
  refine State.blur_mono ?_ hb
  unfold State.trimWhole
  simp (disch := decide) only [State.blur_with_trims]

theorem State.hkTake_blur (s : State) {b : Nat} (hb : b &&& 0x1000000000000000000004000000000a0 = 0x1000000000000000000004000000000a0) : (State.hkTake s).blur b = s.blur b := by
  refine State.blur_mono ?_ hb
  unfold State.hkTake
  repeat' first
    | with_reducible rfl
    | simp (disch := decide) only [State.release_blur, State.shard_blur, State.claim_blur]
    | split

theorem State.spineRound_blur (s : State) (a0 : List ℤ) {b : Nat} (hb : b &&& 0x8100000000000000000000 = 0x8100000000000000000000) : (State.spineRound s a0).blur b = s.blur b := by
  refine State.blur_mono ?_ hb
  unfold State.spineRound
  repeat' first
    | with_reducible rfl
    | simp (disch := decide) only [State.blur_ite, ite_self, State.wr_blur]
    | with_reducible refine State.blur_when _ _ _ ?_
    | with_reducible refine State.blur_each _ _ _ (fun t n => ?_)

theorem State.waitRef_blur (s : State) {b : Nat} (hb : b &&& 0x100000000000000000000000000000000000000000008 = 0x100000000000000000000000000000000000000000008) : (State.waitRef s).blur b = s.blur b := by
  refine State.blur_mono ?_ hb
  unfold State.waitRef
  simp (disch := decide) only [State.blur_ite, ite_self, State.blur_with_m, State.wr_blur]

theorem State.crossCheck_blur (s : State) (a0 : List ℤ) {b : Nat} (hb : b &&& 0x1000000000400000000004000400000a0 = 0x1000000000400000000004000400000a0) : (State.crossCheck s a0).blur b = s.blur b := by
  refine State.blur_mono ?_ hb
  unfold State.crossCheck
  repeat' first
    | with_reducible rfl
    | simp (disch := decide) only [State.blur_ite, State.blur_with_hk, State.sensorBreaks_blur]
    | with_reducible refine State.blur_each _ _ _ (fun t n => ?_)
    | with_reducible refine (State.blur_each _ _ _ (fun t n => ?_)).trans ?_
    | split

theorem State.mirrorRestore_blur (s : State) {b : Nat} (hb : b &&& 128 = 128) : (State.mirrorRestore s).blur b = s.blur b := by
  refine State.blur_mono ?_ hb
  unfold State.mirrorRestore
  simp (disch := decide) only [State.blur_with_log]

theorem State.recover_blur (s : State) (a0 : ℕ) (a1 : Bool) {b : Nat} (hb : b &&& 0x2080000000000000000000000000000000001200060000000000000004000006003a0 = 0x2080000000000000000000000000000000001200060000000000000004000006003a0) : (State.recover s a0 a1).blur b = s.blur b := by
  refine State.blur_mono ?_ hb
  unfold State.recover
  simp (disch := decide) only [State.blur_ite, ite_self, State.setSeq_blur, State.recoverWord_blur, State.shard_blur]

theorem State.spareRowsIn_blur (s : State) {b : Nat} (hb : b &&& 0x20800000000000000000000000000000000012000600000000000000040000c2003a0 = 0x20800000000000000000000000000000000012000600000000000000040000c2003a0) : (State.spareRowsIn s).blur b = s.blur b := by
  refine State.blur_mono ?_ hb
  unfold State.spareRowsIn
  repeat' first
    | with_reducible rfl
    | simp (disch := decide) only [State.blur_ite, ite_self, State.spareRow_blur, State.setStore_blur, State.recoverWord_blur]
    | with_reducible refine State.blur_when _ _ _ ?_
    | with_reducible refine State.blur_each _ _ _ (fun t n => ?_)
    | with_reducible refine State.blur_foldl _ _ _ (fun t n => ?_)
    | with_reducible refine (State.blur_when _ _ _ ?_).trans ?_
    | with_reducible refine (State.blur_each _ _ _ (fun t n => ?_)).trans ?_
    | with_reducible refine (State.blur_foldl _ _ _ (fun t n => ?_)).trans ?_
    | with_reducible refine State.blur_foldl_fst _ _ _ _ (fun t n => ?_)
    | with_reducible refine (State.blur_foldl_fst _ _ _ _ (fun t n => ?_)).trans ?_
    | with_reducible refine Fx.of_blur _ _ ?_
    | with_reducible refine Fx.then_blur _ _ _ ?_ (fun t => ?_)
    | with_reducible refine Fx.ite_blur _ _ _ _ ?_ ?_
    | split
    | rfl

theorem State.serviceEntry_blur (s : State) (a0 : List ℕ) {b : Nat} (hb : b &&& 0x77fffff80001007040000000000007007ffffe1000008000000000000000000000000000000000000000000000000ffffffff007ffffffffffff80000000000000000020800000000000000000001e200000000000127f0600000000000000040000ce1b3a0 = 0x77fffff80001007040000000000007007ffffe1000008000000000000000000000000000000000000000000000000ffffffff007ffffffffffff80000000000000000020800000000000000000001e200000000000127f0600000000000000040000ce1b3a0) : (State.serviceEntry s a0).blur b = s.blur b := by
  refine State.blur_mono ?_ hb
  unfold State.serviceEntry
  repeat' first
    | with_reducible rfl
    | simp (disch := decide) only [State.recover_blur, State.spareRowsIn_blur, State.spareAll_blur]
    | with_reducible refine State.blur_when _ _ _ ?_
    | with_reducible refine State.blur_each _ _ _ (fun t n => ?_)

theorem State.transit_blur (s : State) (a0 : List ℕ) {b : Nat} (hb : b &&& 0x77fffff80001007040400000000007007ffffe1000008000000000000000600000000000000000000000000000000ffffffff007ffffffffffff8000000028003c20002089fc00000000000009005e26110c000000127f0600000000000000040000cf1bba8 = 0x77fffff80001007040400000000007007ffffe1000008000000000000000600000000000000000000000000000000ffffffff007ffffffffffff8000000028003c20002089fc00000000000009005e26110c000000127f0600000000000000040000cf1bba8) : (State.transit s a0).blur b = s.blur b := by
  refine State.blur_mono ?_ hb
  unfold State.transit
  repeat' first
    | with_reducible rfl
    | simp (disch := decide) only [State.blur_ite, State.blur_with_m, State.setMode_blur, State.wr_blur, State.cancelStart_blur, State.orderShard_blur, State.serviceEntry_blur, State.spareAll_blur, State.firstRun_blur, State.selectors_blur, State.modeRequest_blur]
    | with_reducible refine State.blur_when _ _ _ ?_
    | with_reducible refine State.blur_each _ _ _ (fun t n => ?_)
    | with_reducible refine State.blur_foldl _ _ _ (fun t n => ?_)
    | with_reducible refine (State.blur_when _ _ _ ?_).trans ?_
    | with_reducible refine (State.blur_each _ _ _ (fun t n => ?_)).trans ?_
    | with_reducible refine (State.blur_foldl _ _ _ (fun t n => ?_)).trans ?_
    | with_reducible refine State.blur_foldl_fst _ _ _ _ (fun t n => ?_)
    | with_reducible refine (State.blur_foldl_fst _ _ _ _ (fun t n => ?_)).trans ?_
    | split

theorem State.release'_blur (s : State) {b : Nat} (hb : b &&& 0x100040000000000e8 = 0x100040000000000e8) : (State.release' s).blur b = s.blur b := by
  refine State.blur_mono ?_ hb
  unfold State.release'
  simp (disch := decide) only [State.blur_ite, ite_self, State.blur_with_m, State.wb_blur, State.wr_blur, State.quals_blur, State.setMode_blur, State.live_blur, State.mirrorRestore_blur]

theorem State.fnClear_blur (s : State) (a0 : ℕ) {b : Nat} (hb : b &&& 1024 = 1024) : (State.fnClear s a0).blur b = s.blur b := by
  refine State.blur_mono ?_ hb
  unfold State.fnClear
  simp (disch := decide) only [State.blur_with_host]

theorem State.dpsFlag_blur (s : State) (f : Fld) (a1 : Nat) {b : Nat} (hb : b &&& 0x100000000000000000000000000000000000000000000000000000000000000000000000000000000000000000020 = 0x100000000000000000000000000000000000000000000000000000000000000000000000000000000000000000020) (hf : b.testBit (32 + f.key % 1024) = true) : (State.dpsFlag s f a1).blur b = s.blur b := by
  unfold State.dpsFlag
  dsimp only
  rw [State.dpsFault_blur _ _ (and_parts hb (by decide))]
  refine (State.blur_when _ _ _ ?_).trans (s.wr_blur _ _ _ hf)
  exact State.wr_blur _ _ _ _ (testBit_of_and hb (by decide))

theorem State.dpsLimitAct_blur (s : State) (a0 : ℕ) {b : Nat} (hb : b &&& 0x1001a0000000000000000000000000000000000000000000000000000000000000000000000000000000000009020 = 0x1001a0000000000000000000000000000000000000000000000000000000000000000000000000000000000009020) : (State.dpsLimitAct s a0).blur b = s.blur b := by
  refine State.blur_mono ?_ hb
  unfold State.dpsLimitAct
  repeat' first
    | with_reducible rfl
    | simp (disch := decide) only [State.blur_ite, ite_self, State.dpsFlag_blur, State.dpsOpenAll_blur]
    | split

theorem State.hkFixedRestart_blur (s : State) {b : Nat} (hb : b &&& 0x4000000000000000000000000000000000000000000000000000000000400000 = 0x4000000000000000000000000000000000000000000000000000000000400000) : (State.hkFixedRestart s).blur b = s.blur b := by
  refine State.blur_mono ?_ hb
  unfold State.hkFixedRestart
  simp (disch := decide) only [State.blur_ite, ite_self, State.setSeq_blur, State.wr_blur]

theorem State.coneRound_blur (s : State) (a0 : Nat) (f : Fld) (a2 : Nat) (a3 : Int) (a4 : Bool) {b : Nat} (hb : b &&& 0x40000020 = 0x40000020) (hf : b.testBit (32 + f.key % 1024) = true) : (State.coneRound s a0 f a2 a3 a4).blur b = s.blur b := by
  unfold State.coneRound
  dsimp only
  rw [State.live_blur _ _ _ (and_parts hb (by decide)), State.wb_blur _ _ _ _ hf]
  exact State.blur_with_hk _ _ (and_parts hb (by decide))

theorem State.rateRound_blur (s : State) (a0 : List ℤ) {b : Nat} (hb : b &&& 0x160000000000000000040000020 = 0x160000000000000000040000020) : (State.rateRound s a0).1.blur b = s.blur b := by
  refine State.blur_mono ?_ hb
  unfold State.rateRound
  repeat' first
    | with_reducible rfl
    | simp (disch := decide) only [State.blur_with_hk, State.wb_blur, State.wr_blur, State.raise_blur]
    | with_reducible refine State.blur_when _ _ _ ?_
    | with_reducible refine (State.blur_when _ _ _ ?_).trans ?_

theorem State.coneTEntry_blur (s : State) {b : Nat} (hb : b &&& 0x400000000000000000000000008000000000000000000000000000000000000000000000000000000000000000000000000000000028003c20000009fc000000000000090040001108000000000000000000000000000000000511828 = 0x400000000000000000000000008000000000000000000000000000000000000000000000000000000000000000000000000000000028003c20000009fc000000000000090040001108000000000000000000000000000000000511828) : (State.coneTEntry s).blur b = s.blur b := by
  refine State.blur_mono ?_ hb
  unfold State.coneTEntry
  simp (disch := decide) only [State.blur_ite, ite_self, State.modeRequest_blur, State.stopTiles_blur]

theorem State.calRound_blur (s : State) (a0 : List ℤ) (a1 : ℕ) {b : Nat} (hb : b &&& 0x80800000000000000000000000000000000000000000000000000000000000000000000000000000000000000000000000000000000000000000000000000000000000000000000000000000010000 = 0x80800000000000000000000000000000000000000000000000000000000000000000000000000000000000000000000000000000000000000000000000000000000000000000000000000000010000) : (State.calRound s a0 a1).blur b = s.blur b := by
  refine State.blur_mono ?_ hb
  unfold State.calRound
  simp (disch := decide) only [State.blur_ite, ite_self, State.wr_blur, State.setCal_blur, State.wb_blur, State.calStart_blur]

theorem State.acqNext_blur (s : State) (a0 : ℕ) {b : Nat} (hb : b &&& 0x1000000000000000000000000000000000000000000000000000000000000000000000000000000000000000000000000000000002000000 = 0x1000000000000000000000000000000000000000000000000000000000000000000000000000000000000000000000000000000002000000) : (State.acqNext s a0).blur b = s.blur b := by
  refine State.blur_mono ?_ hb
  unfold State.acqNext
  simp (disch := decide) only [State.blur_ite, ite_self, State.wr_blur, State.setAcq_blur, State.acqArming_blur]

theorem State.acqPreAll_blur (a0 : ℕ) (a1 : ℕ) (a2 : List (ℕ × AcqSample)) (s : State) {b : Nat} (hb : b &&& 0x100000000000000000000000000000000000000000000000000000000000000000000000000000012000600000000000000040000e0003a0 = 0x100000000000000000000000000000000000000000000000000000000000000000000000000000012000600000000000000040000e0003a0) : (State.acqPreAll a0 a1 a2 s).1.blur b = s.blur b := by
  refine State.blur_mono ?_ hb
  suffices ∀ (l : List (Nat × AcqSample)) (t : State), (State.acqPreAll a0 a1 l t).1.blur 0x100000000000000000000000000000000000000000000000000000000000000000000000000000012000600000000000000040000e0003a0 = t.blur 0x100000000000000000000000000000000000000000000000000000000000000000000000000000012000600000000000000040000e0003a0 from this _ s
  intro l
  induction l with
  | nil => exact fun _ => rfl
  | cons x r ih =>
    intro t
    unfold State.acqPreAll
    have h0 := State.acqStore_blur t a0 (t.acqPreTake a0 (t.acq a0) x.2 (x.1 % a1 = 0)) (b := 0x100000000000000000000000000000000000000000000000000000000000000000000000000000012000600000000000000040000e0003a0) rfl
    split
    · rename_i heq; rw [heq] at h0; exact (ih _).trans h0
    · rename_i heq; rw [heq] at h0; exact h0

theorem State.acqTake_blur (s : State) (a0 : ℕ) (a1 : AcqSample) {b : Nat} (hb : b &&& 0x100000000000000000000000000000000000000000000000000000000000000000000000000000012000600000000000000040000e0003a0 = 0x100000000000000000000000000000000000000000000000000000000000000000000000000000012000600000000000000040000e0003a0) : (State.acqTake s a0 a1).blur b = s.blur b := by
  refine State.blur_mono ?_ hb
  unfold State.acqTake
  simp (disch := decide) only [State.blur_ite, ite_self, State.acqClosing_blur, State.acqStore_blur]

theorem State.acqTrigger_blur (s : State) (a0 : ℕ) (a1 : AcqSample) (a2 : ℕ) {b : Nat} (hb : b &&& 0x100000000000000000000000000000000000000000000000000000000000000000000000000000012000600000000000000040000e0003a0 = 0x100000000000000000000000000000000000000000000000000000000000000000000000000000012000600000000000000040000e0003a0) : (State.acqTrigger s a0 a1 a2).blur b = s.blur b := by
  refine State.blur_mono ?_ hb
  unfold State.acqTrigger
  simp (disch := decide) only [State.blur_ite, ite_self, State.acqPreAll_blur, State.wr_blur, State.setAcq_blur, State.acqTake_blur]

theorem State.segErrors_blur (s : State) (a0 : ℕ) (a1 : ℕ) (a2 : List ℕ) {b : Nat} (hb : b &&& 0x38b0000000000000000000000000001200060000000000000004000000003a0 = 0x38b0000000000000000000000000001200060000000000000004000000003a0) : (State.segErrors s a0 a1 a2).blur b = s.blur b := by
  refine State.blur_mono ?_ hb
  unfold State.segErrors
  repeat' first
    | with_reducible rfl
    | simp (disch := decide) only [State.bump_blur, State.raise_blur, State.sliceUe_blur, State.wr_blur]
    | split

theorem State.segVector_blur (s : State) (a0 : ℕ) {b : Nat} (hb : b &&& 0x8000000000000000604000000000000000000000008000000000000000000000000000000000000000000000000000000000000000000060000000000628e9fc20c00000043af0001f0000090040000000000000120006000000000000000400002511ba0 = 0x8000000000000000604000000000000000000000008000000000000000000000000000000000000000000000000000000000000000000060000000000628e9fc20c00000043af0001f0000090040000000000000120006000000000000000400002511ba0) : (State.segVector s a0).blur b = s.blur b := by
  refine State.blur_mono ?_ hb
  unfold State.segVector
  dsimp only
  repeat' first
    | with_reducible rfl
    | split
    | simp (disch := decide) only [State.wr_blur, State.decide'_blur, State.segErrors_blur, State.groupStop_blur, State.tileStop_blur, State.segPlay_blur]
    | with_reducible refine State.blur_when _ _ _ ?_
    | with_reducible refine (State.blur_when _ _ _ ?_).trans ?_

theorem State.imageRead_blur (s : State) (a0 : Bool) (a1 : List ℕ) {b : Nat} (hb : b &&& 0x77fffff8000100706040000000019f007ffffe3000008000000020001f8100000000000000000400003d200000000ffffffff007ffffffffffff8000000000000000000009fe00000000000000001f700019fc0000107ff700000004000ff83400001e1bbb8 = 0x77fffff8000100706040000000019f007ffffe3000008000000020001f8100000000000000000400003d200000000ffffffff007ffffffffffff8000000000000000000009fe00000000000000001f700019fc0000107ff700000004000ff83400001e1bbb8) : (State.imageRead s a0 a1).blur b = s.blur b := by
  refine State.blur_mono ?_ hb
  unfold State.imageRead
  repeat' first
    | with_reducible rfl
    | simp (disch := decide) only [State.loadFail_blur, State.applyImage_blur]
    | split

theorem State.programEnd_blur (s : State) {b : Nat} (hb : b &&& 0x8000000000000000000000000000000000000000000000000000000000000000000000000000000000000000000000000000000000000000000000000000000000000000000000010000000 = 0x8000000000000000000000000000000000000000000000000000000000000000000000000000000000000000000000000000000000000000000000000000000000000000000000010000000) : (State.programEnd s).blur b = s.blur b := by
  refine State.blur_mono ?_ hb
  unfold State.programEnd
  repeat' first
    | with_reducible rfl
    | simp (disch := decide) only [State.blur_with_flash, State.wr_blur]
    | split

theorem State.waitEnd_blur (s : State) (a0 : ℕ) (a1 : SeqSt → SeqSt) {b : Nat} (hb : b &&& 0x4000000000000000000000000000000000000000000000000000000000400000 = 0x4000000000000000000000000000000000000000000000000000000000400000) : (State.waitEnd s a0 a1).blur b = s.blur b := by
  refine State.blur_mono ?_ hb
  unfold State.waitEnd
  simp (disch := decide) only [State.setSeq_blur, State.wr_blur]

theorem State.retirePage_blur (s : State) (a0 : ℕ) {b : Nat} (hb : b &&& 0x1000200000000000000004000000001a0 = 0x1000200000000000000004000000001a0) : (State.retirePage s a0).1.blur b = s.blur b := by
  refine State.blur_mono ?_ hb
  unfold State.retirePage
  repeat' first
    | with_reducible rfl
    | simp (disch := decide) only [State.blur_with_nvm, State.raise_blur, State.shard_blur, State.wr_blur]
    | split

theorem State.fetched_blur (s : State) (a0 : ℕ) (a1 : ℕ) {b : Nat} (hb : b &&& 0x20000000000000000000000000000000000000000000000000000000000000000000000000000000000000000000000000000000000000000000000000000000000000000000000000000000 = 0x20000000000000000000000000000000000000000000000000000000000000000000000000000000000000000000000000000000000000000000000000000000000000000000000000000000) : (State.fetched s a0 a1).blur b = s.blur b := by
  refine State.blur_mono ?_ hb
  unfold State.fetched
  repeat' first
    | with_reducible rfl
    | simp (disch := decide) only [State.wr_blur]
    | with_reducible refine State.blur_when _ _ _ ?_

theorem State.stopNow_blur (s : State) (a0 : ℕ) {b : Nat} (hb : b &&& 0x400000000000000000000000008000000000000000000000000000000000000000000000000000000000000000000000000000000028003c2000000004000000000000090040000000000000000000000000000000000000000511820 = 0x400000000000000000000000008000000000000000000000000000000000000000000000000000000000000000000000000000000028003c2000000004000000000000090040000000000000000000000000000000000000000511820) : (State.stopNow s a0).blur b = s.blur b := by
  refine State.blur_mono ?_ hb
  unfold State.stopNow
  repeat' first
    | with_reducible rfl
    | simp (disch := decide) only [State.blur_ite, ite_self, State.tileStop_blur, State.setPlay_blur, State.memberStop_blur]
    | with_reducible refine State.blur_each _ _ _ (fun t n => ?_)
    | with_reducible refine (State.blur_each _ _ _ (fun t n => ?_)).trans ?_
    | split

theorem State.ctxUpdate_blur (s : State) (a0 : RedSample) {b : Nat} (hb : b &&& 0x28000000000000000000000000000000000000000000000000000000000000000000000000000000000000000000000000000000800000000000000000000000000000000000000000000000000000000000000000001200060000000000000004000010003a0 = 0x28000000000000000000000000000000000000000000000000000000000000000000000000000000000000000000000000000000800000000000000000000000000000000000000000000000000000000000000000001200060000000000000004000010003a0) : (State.ctxUpdate s a0).blur b = s.blur b := by
  refine State.blur_mono ?_ hb
  unfold State.ctxUpdate
  simp (disch := decide) only [State.blur_with_red, State.ctxSample_blur]

theorem State.afterIssue_blur (s : State) (a0 : ℕ) (a1 : ℕ) {b : Nat} (hb : b &&& 0x38000000000000000000080000000000080000000000000000000000000000000000000000000000000001f800070000000000000000000000000000000000000000000000000000000000000000000000000000000000000000000003913020 = 0x38000000000000000000080000000000080000000000000000000000000000000000000000000000000001f800070000000000000000000000000000000000000000000000000000000000000000000000000000000000000000000003913020) : (State.afterIssue s a0 a1).blur b = s.blur b := by
  refine State.blur_mono ?_ hb
  unfold State.afterIssue
  repeat' first
    | with_reducible rfl
    | simp (disch := decide) only [State.issueNano_blur]
    | with_reducible refine State.blur_when _ _ _ ?_

theorem State.spiRead_blur (s : State) (a0 : ℕ) (a1 : ℕ) {b : Nat} (hb : b &&& 0x300000001804000000000000000000000000000000000000000a00000000000000000003c000000000000000000001ffe2000000000000000000000000000000000000000000000000000000000000000000000000000000000000000000000000010806440 = 0x300000001804000000000000000000000000000000000000000a00000000000000000003c000000000000000000001ffe2000000000000000000000000000000000000000000000000000000000000000000000000000000000000000000000000010806440) : (State.spiRead s a0 a1).1.blur b = s.blur b := by
  refine State.blur_mono ?_ hb
  unfold State.spiRead
  simp (disch := decide) only [State.blur_ite_fst, ite_self, State.busRead_blur]

theorem State.spiWords_blur (s : State) (a0 : ℕ) (a1 : ℕ) (a2 : ℕ) {b : Nat} (hb : b &&& 0x300000001804000000000000000000000000000000000000000a00000000000000000003c000000000000000000001ffe2000000000000000000000000000000000000000000000000000000000000000000000000000000000000000000000000010806440 = 0x300000001804000000000000000000000000000000000000000a00000000000000000003c000000000000000000001ffe2000000000000000000000000000000000000000000000000000000000000000000000000000000000000000000000000010806440) : (State.spiWords s a0 a1 a2).1.blur b = s.blur b := by
  refine State.blur_mono ?_ hb
  suffices ∀ (n k : Nat) (t : State), (State.spiWords t a0 n k).1.blur 0x300000001804000000000000000000000000000000000000000a00000000000000000003c000000000000000000001ffe2000000000000000000000000000000000000000000000000000000000000000000000000000000000000000000000000010806440 = t.blur 0x300000001804000000000000000000000000000000000000000a00000000000000000003c000000000000000000001ffe2000000000000000000000000000000000000000000000000000000000000000000000000000000000000000000000000010806440 from this a1 a2 s
  intro n
  induction n with
  | zero => exact fun _ _ => rfl
  | succ n ih =>
    intro k t
    unfold State.spiWords
    dsimp only
    rw [ih]
    split
    · exact State.spiRead_blur _ _ _ rfl
    · rfl

theorem State.calRestart_blur (s : State) {b : Nat} (hb : b &&& 0x40000000000000000000000000000000000000000000000000000000000000000000000000000000000000000000000000000000000000000000000000000000000000000000000000000000000000000000000000000000000010800 = 0x40000000000000000000000000000000000000000000000000000000000000000000000000000000000000000000000000000000000000000000000000000000000000000000000000000000000000000000000000000000000010800) : (State.calRestart s).blur b = s.blur b := by
  refine State.blur_mono ?_ hb
  unfold State.calRestart
  repeat' first
    | with_reducible rfl
    | simp (disch := decide) only [State.setCal_blur, State.gapLeave_blur]
    | with_reducible refine State.blur_when _ _ _ ?_
    | with_reducible refine State.blur_each _ _ _ (fun t n => ?_)

theorem State.uploadPart_blur (s : State) (a0 : ℕ) {b : Nat} (hb : b &&& 0x10000000000000000000000000000000000000000000000000000000000000000000000000000000000000000000000000000000000001200060000000000000004000000007a0 = 0x10000000000000000000000000000000000000000000000000000000000000000000000000000000000000000000000000000000000001200060000000000000004000000007a0) : (State.uploadPart s a0).blur b = s.blur b := by
  refine State.blur_mono ?_ hb
  unfold State.uploadPart
  repeat' first
    | with_reducible rfl
    | simp (disch := decide) only [State.blur_ite, State.uploadWord_blur, State.setRing_blur]
    | with_reducible refine State.blur_when _ _ _ ?_
    | with_reducible refine State.blur_each _ _ _ (fun t n => ?_)
    | split

theorem State.timingApply_blur (s : State) (a0 : ℕ) (a1 : ℕ) (a2 : ℕ) (a3 : ℕ) {b : Nat} (hb : b &&& 0x100000 = 0x100000) : (State.timingApply s a0 a1 a2 a3).blur b = s.blur b := by
  refine State.blur_mono ?_ hb
  unfold State.timingApply
  repeat' first
    | with_reducible rfl
    | simp (disch := decide) only [State.blur_ite, ite_self, State.putItems_blur]
    | with_reducible refine State.blur_when _ _ _ ?_
    | with_reducible refine State.blur_each _ _ _ (fun t n => ?_)
    | split

theorem State.acqEvent_blur (s : State) (a0 : ℕ) {b : Nat} (hb : b &&& 0x2000000 = 0x2000000) : (State.acqEvent s a0).blur b = s.blur b := by
  refine State.blur_mono ?_ hb
  unfold State.acqEvent
  repeat' first
    | with_reducible rfl
    | simp (disch := decide) only [State.acqCond_blur]
    | with_reducible refine State.blur_when _ _ _ ?_
    | with_reducible refine State.blur_each _ _ _ (fun t n => ?_)

theorem State.nvmEnd_blur (s : State) (a0 : Bool) (a1 : ℕ) {b : Nat} (hb : b &&& 0x3000000000000000000000000000000000000000000000000000000000000000000000000000000000000000000000000000000000000000000000000000000010000001000000000000000000000000120 = 0x3000000000000000000000000000000000000000000000000000000000000000000000000000000000000000000000000000000000000000000000000000000010000001000000000000000000000000120) : (State.nvmEnd s a0 a1).blur b = s.blur b := by
  refine State.blur_mono ?_ hb
  unfold State.nvmEnd
  repeat' first
    | with_reducible rfl
    | simp (disch := decide) only [State.blur_with_nvm, State.wr_blur, State.nvmKick_blur, State.raise_blur]
    | with_reducible refine State.blur_when _ _ _ ?_
    | with_reducible refine (State.blur_when _ _ _ ?_).trans ?_

theorem State.putFlsByte_blur (s : State) (a0 : ℕ) (a1 : ℕ) {b : Nat} (hb : b &&& 0x1000000000000000000000000000000000000000000000000000000000000000000000000000000000000000000000000000000000000000000000000000000000000000000000000000000000 = 0x1000000000000000000000000000000000000000000000000000000000000000000000000000000000000000000000000000000000000000000000000000000000000000000000000000000000) : (State.putFlsByte s a0 a1).blur b = s.blur b := by
  refine State.blur_mono ?_ hb
  unfold State.putFlsByte
  simp (disch := decide) only [State.wr_blur]

theorem State.spiTaken_blur (s : State) (a0 : ℕ) (a1 : ℕ) {b : Nat} (hb : b &&& 0x1e000000000 = 0x1e000000000) : (State.spiTaken s a0 a1).blur b = s.blur b := by
  refine State.blur_mono ?_ hb
  unfold State.spiTaken
  repeat' first
    | with_reducible rfl
    | simp (disch := decide) only [State.bump_blur, State.wr_blur]
    | with_reducible refine State.blur_when _ _ _ ?_
    | with_reducible refine (State.blur_when _ _ _ ?_).trans ?_

theorem State.clampStart_blur (s : State) (a0 : ℕ) {b : Nat} (hb : b &&& 135168 = 135168) : (State.clampStart s a0).blur b = s.blur b := by
  refine State.blur_mono ?_ hb
  unfold State.clampStart
  repeat' first
    | with_reducible rfl
    | simp (disch := decide) only [State.setDac_blur, State.trimWhole_blur]
    | with_reducible refine State.blur_when _ _ _ ?_

theorem State.vfClear_blur (s : State) (a0 : ℕ) {b : Nat} (hb : b &&& 1024 = 1024) : (State.vfClear s a0).blur b = s.blur b := by
  refine State.blur_mono ?_ hb
  unfold State.vfClear
  simp (disch := decide) only [State.blur_with_host]

theorem State.fillVector_blur (s : State) (a0 : ℕ) (a1 : Option ℕ) {b : Nat} (hb : b &&& 0x80000000038000006040000000000080000000000080000000000000000000000000000000000000000000000000001f8000700000000060000080000603080000000000000240001f0000090040000000000000000000000000000000000000003913820 = 0x80000000038000006040000000000080000000000080000000000000000000000000000000000000000000000000001f8000700000000060000080000603080000000000000240001f0000090040000000000000000000000000000000000000003913820) : (State.fillVector s a0 a1).blur b = s.blur b := by
  refine State.blur_mono ?_ hb
  unfold State.fillVector
  repeat' first
    | with_reducible rfl
    | simp (disch := decide) only [State.bump_blur, State.setPlay_blur, State.wr_blur, State.nanoShots_blur, State.vectorBoundary_blur, State.placeVector_blur]
    | with_reducible refine State.blur_when _ _ _ ?_
    | with_reducible refine State.blur_each _ _ _ (fun t n => ?_)
    | with_reducible refine State.blur_foldl _ _ _ (fun t n => ?_)
    | with_reducible refine (State.blur_when _ _ _ ?_).trans ?_
    | with_reducible refine (State.blur_each _ _ _ (fun t n => ?_)).trans ?_

theorem State.laneFault_blur (s : State) (f : Fld) (a1 : Nat) {b : Nat} (hb : b &&& 32 = 32) (hf : b.testBit (32 + f.key % 1024) = true) : (State.laneFault s f a1).blur b = s.blur b := by
  unfold State.laneFault
  split
  · rfl
  · exact (State.raise_blur _ _ (and_parts hb (by decide))).trans (s.wr_blur _ _ _ hf)

theorem State.calSpine_blur (s : State) (a0 : ℕ) (a1 : ℤ) (a2 : ℤ) {b : Nat} (hb : b &&& 0xc000000000000000000000000000000000000000000000000000000000000000000000000000000000000000000000000000000000000000000000000000000000000000000000000000000000000000 = 0xc000000000000000000000000000000000000000000000000000000000000000000000000000000000000000000000000000000000000000000000000000000000000000000000000000000000000000) : (State.calSpine s a0 a1 a2).blur b = s.blur b := by
  refine State.blur_mono ?_ hb
  unfold State.calSpine
  simp (disch := decide) only [State.wr_blur]

theorem State.withFetchWord_blur (s : State) (a0 : ℕ) (a1 : ℕ) {b : Nat} (hb : b &&& 0 = 0) : (State.withFetchWord s a0 a1).blur b = s.blur b := by
  refine State.blur_mono ?_ hb
  unfold State.withFetchWord
  repeat' first
    | with_reducible rfl
    | simp (disch := decide) only [State.blur_with_pending]
    | split

theorem State.slewStep_blur (s : State) (a0 : ℕ) {b : Nat} (hb : b &&& 4096 = 4096) : (State.slewStep s a0).blur b = s.blur b := by
  refine State.blur_mono ?_ hb
  unfold State.slewStep
  simp (disch := decide) only [State.blur_ite, ite_self, State.setDac_blur]

theorem State.enter_blur (s : State) (a0 : ℕ) (a1 : ℕ) (a2 : ℕ) {b : Nat} (hb : b &&& 0x400000000000f80000000000008000000000000000000000000000000000000000000000000000000000000000000000000000000028003c2000d009fc0000000000000900400011080000001000000000000000000004000005118a8 = 0x400000000000f80000000000008000000000000000000000000000000000000000000000000000000000000000000000000000000028003c2000d009fc0000000000000900400011080000001000000000000000000004000005118a8) : (State.enter s a0 a1 a2).blur b = s.blur b := by
  refine State.blur_mono ?_ hb
  unfold State.enter
  simp (disch := decide) only [State.claim_blur, State.wr_blur, State.wb_blur, State.setSeq_blur, State.enterTop_blur]

theorem State.acqPad_blur (s : State) (a0 : ℕ) (a1 : ℕ) {b : Nat} (hb : b &&& 0x2000000 = 0x2000000) : (State.acqPad s a0 a1).blur b = s.blur b := by
  refine State.blur_mono ?_ hb
  unfold State.acqPad
  simp (disch := decide) only [State.blur_ite, ite_self, State.blur_with_free, State.setAcq_blur]

theorem State.descStart_blur (s : State) (a0 : ℕ) (a1 : List ℕ) (a2 : ℕ → Bool) {b : Nat} (hb : b &&& 0x100000000000000000000000000000000000000000000000000000000000000000000000000000000000000000000000000000000000000000000000000000000000000000000000000000000000000000000000000000000000000000000000000000000000000400 = 0x100000000000000000000000000000000000000000000000000000000000000000000000000000000000000000000000000000000000000000000000000000000000000000000000000000000000000000000000000000000000000000000000000000000000000400) : (State.descStart s a0 a1 a2).blur b = s.blur b := by
  refine State.blur_mono ?_ hb
  unfold State.descStart
  simp (disch := decide) only [State.blur_ite, ite_self, State.blur_with_host, State.wr_blur, State.setRing_blur]

/-! What a blur says of one part -/

theorem State.clock_of_blur {s t : State} {b : Nat} (h : t.blur b = s.blur b) (hb : b.testBit 0 = false) : t.clock = s.clock := by
  simpa [State.blur, hb] using congrArg State.clock h

theorem State.fuses_of_blur {s t : State} {b : Nat} (h : t.blur b = s.blur b) (hb : b.testBit 1 = false) : t.fuses = s.fuses := by
  simpa [State.blur, hb] using congrArg State.fuses h

/-- A register field whose key the mask leaves out reads the same. -/
theorem State.rd_of_blur {s t : State} {b : Nat} (h : t.blur b = s.blur b) (f : Fld) (i : Nat) (hb : b.testBit (32 + f.key % 1024) = false) : t.rd f i = s.rd f i := by
  have e : smKeep (fun k => !b.testBit (32 + slotKey k)) t.regs = smKeep (fun k => !b.testBit (32 + slotKey k)) s.regs := congrArg State.regs h
  have hs : slotKey (f.slot i) = f.key % 1024 := by simp [slotKey, Fld.slot]
  have hr : ∀ x : State, x.rd f i = smGet (f.reset i) (smKeep (fun k => !b.testBit (32 + slotKey k)) x.regs) (f.slot i) := fun x => by
    rw [smGet_smKeep]; simp [State.rd, hs, hb]
  rw [hr t, hr s, e]

theorem State.regs_of_blur {s t : State} {b : Nat} (h : t.blur b = s.blur b) (hb : b / 2 ^ 32 = 0) : t.regs = s.regs := by
  have hz : ∀ k, b.testBit (32 + k) = false := fun k => by
    rw [Nat.add_comm, ← Nat.testBit_div_two_pow, hb, Nat.zero_testBit]
  have e : smKeep (fun k => !b.testBit (32 + slotKey k)) t.regs = smKeep (fun k => !b.testBit (32 + slotKey k)) s.regs := congrArg State.regs h
  simpa [smKeep, hz] using e

theorem State.m_of_blur {s t : State} {b : Nat} (h : t.blur b = s.blur b) (hb : b.testBit 3 = false) : t.m = s.m := by
  simpa [State.blur, hb] using congrArg State.m h

theorem State.image_of_blur {s t : State} {b : Nat} (h : t.blur b = s.blur b) (hb : b.testBit 4 = false) : t.image = s.image := by
  simpa [State.blur, hb] using congrArg State.image h

theorem State.hub_of_blur {s t : State} {b : Nat} (h : t.blur b = s.blur b) (hb : b.testBit 5 = false) : t.hub = s.hub := by
  simpa [State.blur, hb] using congrArg State.hub h

theorem State.time_of_blur {s t : State} {b : Nat} (h : t.blur b = s.blur b) (hb : b.testBit 6 = false) : t.time = s.time := by
  simpa [State.blur, hb] using congrArg State.time h

theorem State.log_of_blur {s t : State} {b : Nat} (h : t.blur b = s.blur b) (hb : b.testBit 7 = false) : t.log = s.log := by
  simpa [State.blur, hb] using congrArg State.log h

theorem State.nvm_of_blur {s t : State} {b : Nat} (h : t.blur b = s.blur b) (hb : b.testBit 8 = false) : t.nvm = s.nvm := by
  simpa [State.blur, hb] using congrArg State.nvm h

theorem State.spare_of_blur {s t : State} {b : Nat} (h : t.blur b = s.blur b) (hb : b.testBit 9 = false) : t.spare = s.spare := by
  simpa [State.blur, hb] using congrArg State.spare h

theorem State.host_of_blur {s t : State} {b : Nat} (h : t.blur b = s.blur b) (hb : b.testBit 10 = false) : t.host = s.host := by
  simpa [State.blur, hb] using congrArg State.host h

theorem State.lanes_of_blur {s t : State} {b : Nat} (h : t.blur b = s.blur b) (hb : b.testBit 11 = false) : t.lanes = s.lanes := by
  simpa [State.blur, hb] using congrArg State.lanes h

theorem State.dacs_of_blur {s t : State} {b : Nat} (h : t.blur b = s.blur b) (hb : b.testBit 12 = false) : t.dacs = s.dacs := by
  simpa [State.blur, hb] using congrArg State.dacs h

theorem State.adcs_of_blur {s t : State} {b : Nat} (h : t.blur b = s.blur b) (hb : b.testBit 13 = false) : t.adcs = s.adcs := by
  simpa [State.blur, hb] using congrArg State.adcs h

theorem State.smus_of_blur {s t : State} {b : Nat} (h : t.blur b = s.blur b) (hb : b.testBit 14 = false) : t.smus = s.smus := by
  simpa [State.blur, hb] using congrArg State.smus h

theorem State.dpss_of_blur {s t : State} {b : Nat} (h : t.blur b = s.blur b) (hb : b.testBit 15 = false) : t.dpss = s.dpss := by
  simpa [State.blur, hb] using congrArg State.dpss h

theorem State.cals_of_blur {s t : State} {b : Nat} (h : t.blur b = s.blur b) (hb : b.testBit 16 = false) : t.cals = s.cals := by
  simpa [State.blur, hb] using congrArg State.cals h

theorem State.trims_of_blur {s t : State} {b : Nat} (h : t.blur b = s.blur b) (hb : b.testBit 17 = false) : t.trims = s.trims := by
  simpa [State.blur, hb] using congrArg State.trims h

theorem State.targets_of_blur {s t : State} {b : Nat} (h : t.blur b = s.blur b) (hb : b.testBit 18 = false) : t.targets = s.targets := by
  simpa [State.blur, hb] using congrArg State.targets h

theorem State.results_of_blur {s t : State} {b : Nat} (h : t.blur b = s.blur b) (hb : b.testBit 19 = false) : t.results = s.results := by
  simpa [State.blur, hb] using congrArg State.results h

theorem State.plays_of_blur {s t : State} {b : Nat} (h : t.blur b = s.blur b) (hb : b.testBit 20 = false) : t.plays = s.plays := by
  simpa [State.blur, hb] using congrArg State.plays h

theorem State.stores_of_blur {s t : State} {b : Nat} (h : t.blur b = s.blur b) (hb : b.testBit 21 = false) : t.stores = s.stores := by
  simpa [State.blur, hb] using congrArg State.stores h

theorem State.seqs_of_blur {s t : State} {b : Nat} (h : t.blur b = s.blur b) (hb : b.testBit 22 = false) : t.seqs = s.seqs := by
  simpa [State.blur, hb] using congrArg State.seqs h

theorem State.tdcs_of_blur {s t : State} {b : Nat} (h : t.blur b = s.blur b) (hb : b.testBit 23 = false) : t.tdcs = s.tdcs := by
  simpa [State.blur, hb] using congrArg State.tdcs h

theorem State.red_of_blur {s t : State} {b : Nat} (h : t.blur b = s.blur b) (hb : b.testBit 24 = false) : t.red = s.red := by
  simpa [State.blur, hb] using congrArg State.red h

theorem State.acqs_of_blur {s t : State} {b : Nat} (h : t.blur b = s.blur b) (hb : b.testBit 25 = false) : t.acqs = s.acqs := by
  simpa [State.blur, hb] using congrArg State.acqs h

theorem State.cap_of_blur {s t : State} {b : Nat} (h : t.blur b = s.blur b) (hb : b.testBit 26 = false) : t.cap = s.cap := by
  simpa [State.blur, hb] using congrArg State.cap h

theorem State.capEcc_of_blur {s t : State} {b : Nat} (h : t.blur b = s.blur b) (hb : b.testBit 27 = false) : t.capEcc = s.capEcc := by
  simpa [State.blur, hb] using congrArg State.capEcc h

theorem State.flash_of_blur {s t : State} {b : Nat} (h : t.blur b = s.blur b) (hb : b.testBit 28 = false) : t.flash = s.flash := by
  simpa [State.blur, hb] using congrArg State.flash h

theorem State.spi_of_blur {s t : State} {b : Nat} (h : t.blur b = s.blur b) (hb : b.testBit 29 = false) : t.spi = s.spi := by
  simpa [State.blur, hb] using congrArg State.spi h

theorem State.hk_of_blur {s t : State} {b : Nat} (h : t.blur b = s.blur b) (hb : b.testBit 30 = false) : t.hk = s.hk := by
  simpa [State.blur, hb] using congrArg State.hk h

theorem State.legacy_of_blur {s t : State} {b : Nat} (h : t.blur b = s.blur b) (hb : b.testBit 31 = false) : t.legacy = s.legacy := by
  simpa [State.blur, hb] using congrArg State.legacy h

/-- The mask of a list of parts. -/
def Part.mask (l : List Part) : Nat := l.foldl (fun a p => a ||| 2 ^ p.ctorIdx) 0

/-- States that agree once the parts of a list are forgotten keep every other part. -/
theorem State.keeps_of_blur {s t : State} {l : List Part} {b : Nat} (h : t.blur b = s.blur b) (hl : ∀ p : Part, p ∉ l → p = .regs ∨ b.testBit p.ctorIdx = false) (hr : .regs ∈ l ∨ b / 2 ^ 32 = 0) : s.keeps t l := by
  intro p hp
  have hb := hl p hp
  cases p <;> simp only [reduceCtorEq, false_or, true_or] at hb
  · exact State.clock_of_blur h hb
  · exact State.fuses_of_blur h hb
  · exact State.regs_of_blur h (hr.resolve_left hp)
  · exact State.m_of_blur h hb
  · exact State.image_of_blur h hb
  · exact State.hub_of_blur h hb
  · exact State.time_of_blur h hb
  · exact State.log_of_blur h hb
  · exact State.nvm_of_blur h hb
  · exact State.spare_of_blur h hb
  · exact State.host_of_blur h hb
  · exact State.lanes_of_blur h hb
  · exact State.dacs_of_blur h hb
  · exact State.adcs_of_blur h hb
  · exact State.smus_of_blur h hb
  · exact State.dpss_of_blur h hb
  · exact State.cals_of_blur h hb
  · exact State.trims_of_blur h hb
  · exact State.targets_of_blur h hb
  · exact State.results_of_blur h hb
  · exact State.plays_of_blur h hb
  · exact State.stores_of_blur h hb
  · exact State.seqs_of_blur h hb
  · exact State.tdcs_of_blur h hb
  · exact State.red_of_blur h hb
  · exact State.acqs_of_blur h hb
  · exact State.cap_of_blur h hb
  · exact State.capEcc_of_blur h hb
  · exact State.flash_of_blur h hb
  · exact State.spi_of_blur h hb
  · exact State.hk_of_blur h hb
  · exact State.legacy_of_blur h hb

/-- States that agree once the register fields of a list are forgotten read the same in every other field. -/
theorem State.keepsFields_of_blur {s t : State} {l : List Fld} {b : Nat} (h : t.blur b = s.blur b) (hl : ∀ k, k < 1024 → k ∉ l.map Fld.key → b.testBit (32 + k) = false) :
    s.keepsFields t l := fun f i hf => State.rd_of_blur h f i (hl _ (Nat.mod_lt _ (by decide)) hf)

/-! The outcome of a command -/

theorem State.commit_blur (s t : State) {b : Nat} (h : t.blur b = s.blur b) : (s.commit t).blur b = s.blur b := by
  simp only [State.blur, State.mk.injEq, State.commit] at h ⊢
  exact ⟨trivial, trivial, trivial, h.2.2.2⟩

/-- What an effect leaves alone, the command of that effect leaves alone. -/
theorem done_blur {s t : State} {f : State → State} {b : Nat} (h : (f { s with out := [] }).blur b = ({ s with out := [] } : State).blur b) (e : done s f = .next t) :
    t.blur b = s.blur b := by
  cases e
  exact s.commit_blur _ (h.trans rfl)

/-- A host write of a register leaves alone what its rule and a refusal leave alone. -/
theorem State.hostAct_blur (s : State) (rq : Req) (r : Reg) (i : Nat) (f : Nat → Fx) {b : Nat} (h : ∀ j, (f j s).1.blur b = s.blur b) (hb : b &&& 0xe0000000000000000000000000000000000000000000000000000000000000000000000000000000000000000000000000000000000000000000000000000000000000000000 = 0xe0000000000000000000000000000000000000000000000000000000000000000000000000000000000000000000000000000000000000000000000000000000000000000000) :
    (s.hostAct rq r i f).blur b = s.blur b := by
  unfold State.hostAct
  split
  · rfl
  · split
    · dsimp only
      split
      · exact (State.refuse_blur _ _ _ _ hb).trans (h _)
      · exact h _
    · exact State.refuse_blur _ _ _ _ hb

theorem writeRow_blur {s t : State} {rq : Req} {r : Reg} {i w : Nat} {k : Hook} {b : Nat} (h : ∀ j u, (k rq j w 15 u).1.blur b = u.blur b) (hb : b &&& 0xe0000000000000000000000000000000000000000000000000000000000000000000000000000000000000000000000000000000000000000000000000000000000000000000 = 0xe0000000000000000000000000000000000000000000000000000000000000000000000000000000000000000000000000000000000000000000000000000000000000000000)
    (e : writeRow rq r i w k s = .next t) : t.blur b = s.blur b :=
  done_blur (f := fun s => s.hostAct rq r i fun j => k rq j w 15) (State.hostAct_blur _ _ _ _ _ (fun j => h j _) hb) e

theorem readRow_blur {s t : State} {rq : Req} {r : Reg} {i : Nat} {f : Nat → State → State × Nat} {b : Nat} (h : ∀ j u, (f j u).1.blur b = u.blur b)
    (e : readRow rq r i f s = .next t) : t.blur b = s.blur b := by
  refine done_blur (f := fun s => if !s.reachable rq then s else if s.mayRead rq r i then
      let (s', v) := f (s.copyOf rq r i) s
      s'.send (.word v) else s.send (.word 0)) ?_ e
  dsimp only
  split
  · rfl
  · split
    · exact (State.send_blur _ _ (by simp)).trans (h _ _)
    · exact State.send_blur _ _ (by simp)

end Sys2Proof.Machine
end

