-- ==== Sys2Proof/WellFormed.lean ====
section
/-! DEFINITION. Which commands are well formed: their offsets lie where the rows place them, their byte lists have the lengths of the records they
stand for, and the values that the outside reports lie in the ranges of their fields. Operands of finite type need no check. -/

namespace Sys2Proof

/-- A word offset in a range. -/
def wordOffset (off lo hi : Nat) : Bool := decide (off % 4 = 0 ∧ lo ≤ off ∧ off < hi)

/-- A run of bytes that lies in a range whole. -/
def byteRange (off n lo hi : Nat) : Bool := decide (lo ≤ off ∧ off + n ≤ hi)

/-- The well-formed commands. -/
def Instr.wellFormed : Instr → Bool
  | .aonReset => true
  | .porstAssert => true
  | .porstRelease straps => decide (straps < 64)
  | .flashIdentify _ id => decide (id < 0x1000000)
  | .supplyOrderDeparture => true
  | .railFail _ => true
  | .softReset _ _ => true
  | .softResetComplete => true
  | .functionLevelReset _ => true
  | .hotReset _ _ => true
  | .d3hotEntry _ => true
  | .refLost => true
  | .refPresent => true
  | .relockStart => true
  | .relockDone => true
  | .pllLock => true
  | .mouldStart _ => true
  | .mouldAbort _ => true
  | .imageReadDone _ _ => true
  | .fuseProgram _ _ => true
  | .fuseRevoke _ _ => true
  | .fuseCmdDone => true
  | .modeReqService _ _ => true
  | .modeReqIdle _ _ => true
  | .modeReqRun _ _ => true
  | .transitionDone _ => true
  | .startupStepDone _ _ _ => true
  | .devStartGo _ _ _ => true
  | .armedStart _ _ => true
  | .devStartCancel _ _ => true
  | .sagStartGo _ _ _ => true
  | .sagStartCancel _ _ => true
  | .registerWrite _ off _ _ => wordOffset off 0 0x2000000
  | .badSizeRequest _ _ off => decide (off < 0x2000000)
  | .unsupportedRequest _ => true
  | .poisonedTlpReceived _ bar2 off => decide (off < if bar2 then 0x10000000 else 0x2000000)
  | .rcRead _ off => wordOffset off 0 0x2000000
  | .rsnLowRead _ off => wordOffset off 0 0x2000000
  | .drvTripClear _ _ _ => true
  | .driverTrip _ => true
  | .comparatorChange _ _ => true
  | .clampHit _ => true
  | .laneSwapReq _ _ _ => true
  | .handoverStart _ => true
  | .handoverDone _ => true
  | .ppmuConnectWrite _ _ _ => true
  | .ppmuCompliance _ _ => true
  | .dacTick => true
  | .dischargeClampEnd dac => decide (dac < 9216 ∨ (10000 ≤ dac ∧ dac < 10136) ∨ (11000 ≤ dac ∧ dac < 11036))
  | .updateAllGo _ _ _ => true
  | .tsCommit _ _ _ => true
  | .tsCommitDone _ => true
  | .tsFetch _ _ _ => true
  | .ncoFtwCommit _ _ _ _ => true
  | .vectorRead _ => true
  | .successorStart _ => true
  | .tileIdleReturn _ => true
  | .compareResult _ h lo v2 => decide (h < 4 ∧ lo < 4 ∧ v2 < 16)
  | .failRecordForm _ => true
  | .failLogWrite _ => true
  | .clearAll _ _ => true
  | .clearFail _ _ _ _ => true
  | .clearTb _ _ _ _ => true
  | .logArm _ _ _ => true
  | .logDisarm _ _ _ => true
  | .logAreaWrite _ _ _ => true
  | .bar2VectorWrite _ off bytes => byteRange off bytes.length 0 0xC000000
  | .bar2CaptureWrite _ off bytes => byteRange off bytes.length 0xC000000 0xF000000
  | .bar2Read _ off len => byteRange off len 0 0x10000000
  | .ctlwDataWrite _ _ _ _ => true
  | .storeCfgWrite _ _ _ => true
  | .scrubRow _ => true
  | .storeWindowWrite _ off _ => wordOffset off 0x200000 0x3D0000
  | .step _ => true
  | .jump _ => true
  | .branch _ => true
  | .loop _ => true
  | .cntLoadImm _ => true
  | .cntLoadCinit _ => true
  | .cntIncrement _ => true
  | .cntDecrement _ => true
  | .cntSnapshot _ => true
  | .play _ => true
  | .wait _ => true
  | .waitConditionMet _ => true
  | .waitTimeout _ => true
  | .waitWake _ => true
  | .setLset _ => true
  | .updateAll _ => true
  | .measureOpen _ => true
  | .measureClose _ => true
  | .yield _ => true
  | .eventVector _ => true
  | .rete _ => true
  | .stopDrain _ => true
  | .stop _ => true
  | .atomicBegin _ => true
  | .atomicEnd _ => true
  | .mcTrap _ => true
  | .watchdog _ => true
  | .nanoWordEffect _ => true
  | .loaderCheck _ _ _ => true
  | .loaderCheckDone _ => true
  | .seqScrub _ _ _ => true
  | .seqScrubDone _ _ => true
  | .jumpRequestGo _ _ _ => true
  | .jumpSrcEdge _ => true
  | .ringReset _ _ => true
  | .ringCfgWrite _ _ _ => true
  | .slotWrite _ _ _ _ => true
  | .octMatrixWrite _ _ _ => true
  | .smuCompliance _ _ => true
  | .smuSenseFault _ => true
  | .smuSenseRestore _ _ _ => true
  | .adcGo _ _ _ => true
  | .adcStop _ _ _ => true
  | .adcSlot _ code sub => decide (code < 0x40000 ∧ sub < 163840)
  | .adcFifoRead _ _ => true
  | .smuConversion _ code => decide (code < 0x100000)
  | .smuFifoRead _ _ => true
  | .dpsOutEn _ _ _ => true
  | .dpsSample _ _ _ _ => true
  | .dpsHwTrip _ => true
  | .dpsSenseFault _ => true
  | .dpsSenseRestore _ _ _ => true
  | .dpsRestart _ _ _ => true
  | .dpsPowerEstimate _ => true
  | .tdcArm _ _ _ => true
  | .tdcDisarm _ _ _ => true
  | .tdcStartEdge _ _ => true
  | .tdcStopEdge _ _ => true
  | .tdcGateClose _ => true
  | .tdcOverrange _ => true
  | .tdcDeadTimeEnd _ => true
  | .tdcResRead _ _ => true
  | .redOpen _ _ => true
  | .redClose _ _ => true
  | .redAbort _ _ => true
  | .contextUpdate _ => true
  | .resultRecordWrite _ => true
  | .acqArm _ _ _ => true
  | .acqDisarm _ _ _ => true
  | .acqForce _ _ _ => true
  | .armingDone _ => true
  | .acqSampleEvaluate _ => true
  | .acqAutoTimeout _ => true
  | .acqFrameClose _ => true
  | .acqRptrWrite _ _ _ => true
  | .eventArrival _ => true
  | .eventSet _ _ => true
  | .eventClear _ _ => true
  | .routeWrite _ _ _ => true
  | .queueRecordForm _ _ => true
  | .queueWriteError _ _ => true
  | .evhQRptrWrite _ _ _ => true
  | .evhQEnable _ _ _ => true
  | .evhQDisable _ _ _ => true
  | .holdoffExpire _ => true
  | .msixMaskClear _ _ => true
  | .timeNowRead _ => true
  | .addendCommit _ _ => true
  | .timeAdjStart _ _ => true
  | .timeAdjEnd => true
  | .timeStepGo _ _ => true
  | .timeStepApply => true
  | .timeQualWrite _ _ => true
  | .refresh _ _ => true
  | .syncTimeout => true
  | .portLinkChange _ _ => true
  | .frameReceive _ _ sub _ => decide (sub < 163840)
  | .rxPop _ _ => true
  | .txGo _ _ _ => true
  | .txDone _ sub => decide (sub < 163840)
  | .txStampRead _ _ => true
  | .tevArm _ _ _ => true
  | .tevDisarm _ _ _ => true
  | .tevFire _ => true
  | .tevPulseEnd _ => true
  | .quotaWrite _ _ _ _ => true
  | .allot _ _ => true
  | .release _ _ => true
  | .blockClearDone _ => true
  | .groupRelease _ => true
  | .dmaRingEnable _ _ _ => true
  | .dmaRingDisable _ _ _ => true
  | .dmaTailWrite _ _ _ => true
  | .nop _ _ d => decide (d.length = 32)
  | .streamRefill _ _ d data => decide (d.length = 32 ∧ data.length % 272 = 0)
  | .residentLoad _ _ d data => decide (d.length = 32 ∧ data.length % 272 = 0)
  | .upload _ _ d => decide (d.length = 32)
  | .descriptorComplete _ _ => true
  | .dmaHostError _ _ _ => true
  | .dmaArbitrationFrame => true
  | .spiWriteFrame _ _ => true
  | .spiReadFrame bytes _ _ => decide (bytes.length ≤ 4)
  | .spiStatusFrame => true
  | .spiReservedCommand _ => true
  | .spiCommitDone => true
  | .flashLockReq _ => true
  | .flashLockRelease _ => true
  | .flashCmdGo _ _ => true
  | .flashCmdDone _ _ => true
  | .flashWindowRead _ off long => decide (off % (if long then 8 else 4) = 0) && byteRange off (if long then 8 else 4) 0x8000 0x10000
  | .flashWindowWrite _ off bytes => decide (off % 8 + bytes.length ≤ 8) && byteRange off bytes.length 0x8000 0x10000
  | .flashProgramDone _ => true
  | .flashPollTimeout _ => true
  | .calReq _ _ _ => true
  | .calAbort _ _ _ => true
  | .calStepDone _ _ _ _ => true
  | .calRetry _ _ _ _ => true
  | .calRunLimit _ => true
  | .calBudgetExpire => true
  | .glazeStep _ => true
  | .hkRound temps rails spines => decide (temps.length = 22 ∧ rails.length = 8 ∧ spines.length = 4)
  | .sensorReadmit _ _ => true
  | .markWorn _ _ => true
  | .markFailed _ _ => true
  | .sprSelfTest _ _ => true
  | .selfTestDone _ => true
  | .spareIn _ => true
  | .repairMapWrite => true
  | .nvmRead _ _ => true
  | .nvmUserWrite _ _ => true
  | .nvmWriteDone _ => true
  | .shardWrite => true
  | .forerunnerStart _ _ => true
  | .forerunnerStop _ => true
  | .forerunnerCalibrate _ => true
  | .forerunnerReset _ => true
  | .forerunnerTimingWrite _ _ _ _ _ => true
  | .forerunnerLevelWrite _ _ _ _ _ => true
  | .forerunnerVectorWrite _ off bytes => byteRange off bytes.length 0 0x10000000
  | .timeTick => true
  | .comparatorSample _ => true
  | .rsvClass _ => true
  | .pcieLinkTrained _ speed width => decide (speed < 8 ∧ width < 32)
  | .vfEnable _ _ numVfs => decide (numVfs ≤ 15)
  | .railGood _ => true
  | .spiHeaderFrame _ => true
  | .linkProtocolFault _ _ => true

end Sys2Proof
end

