-- ==== Sys2Proof/Tests/Slice0.lean ====
section
/-! SUPPORT. Tests: results that the manual's examples and tables give, ill-formed terms that WellFormed refuses, and for each
clause of each statement a state and operands that meet its hypotheses. -/

open Sys2Proof Sys2Proof.Machine

set_option maxRecDepth 10000
set_option linter.unusedVariables false

namespace Sys2Proof.Tests

/-- image -/
def img : Image :=
  { version := 1, signed := false, keySlot := 0, serialBind := 0, spread := 0, refPolicy := 0, portMode := [0, 0], strapsFitted := 0, strapsExpect := 0, coldPlate := 0, coolantMax := 40, powerBudget := 800,
    saggars := [⟨0, 0, 0, 4⟩], octOwner := List.replicate 128 0, dpsOwner := List.replicate 32 0, lockstep := [0, 0, 0, 0], sites := [⟨0, 0, 2 ^ 256 - 1⟩], smuHome := List.replicate 128 255,
    adcBorrow := List.replicate 16 0, gang := List.replicate 32 0, dpsSpareEn := [1, 1, 1, 1], smuSpareEn := [1, 1, 1, 1], feSpareEn := [15, 15, 15, 15], lanes := [], evSplit := 0, holdPeriods := [], routes := [],
    quotas := [⟨768, 64, 256, 10⟩], hkMicro := [], hkTables := [], hkNano := [], hkEntry := 0, hkCount := 0, userAccess := 2, repairPersist := 1, nvmTmin := 0, nvmTmax := 100, legacy := false, personalities := 0, debugOpen := 0 }
/-- base -/
def base : State :=
  let r : State := State.reset
  (({ r with m := { r.m with mode := .run, storesReady := true, bootWaits := false, everLocked := true, refSeen := true }, image := some img, clock := { r.clock with running := true, tick := 1000, sec := 5, ns := 7 }, hub := ⟨[], [], []⟩ } : State).wr R.DEV_CLK.PLL_LOCKED 0 1).wr R.DEV_CLK.REF_PRESENT 0 1
/-- a sequencer about to execute a word -/
def seqAt (B : State) (q pc w : Nat) : State := ((B.wr R.SEQ_STATUS.STATE q 1).setSeq q { SeqSt.idle with next := pc }).setStore q { StoreSt.idle with micro := smSet 0 [] pc w }
/-- saggar 0 holds context group 1 with an area in block 0 -/
def redAt (B : State) : State := ((B.wr R.SAG_GRP_OWNER.ALLOTTED 1 1).wr R.RED_GRP_AREA.BLOCKS 1 1).wr R.SAG_BLK_OWNER.ALLOTTED 0 1
/-- base state after its first RUN -/
def ran : State := base.wr R.DEV_MODE.FIRST_RUN 0 1
/-- a compare that expects H -/
def job0 : CmpJob :=
  { vec := 9, origin := 1, openAt := 0, closeAt := 0, expect := 1, expect1 := 0, dnrz := false, window := false, dropped := false, isOpen := false, unH := false, unL := false, allH := false, allL := false, unH2 := false, unL2 := false }
/-- the vector of that compare -/
def vec0 : VecRec :=
  { cycle := 9, origin := 1, refPoint := 0, va := 3, seg := 1, pass := 0, slot := 0, streamed := false, isMatch := false, passNo := 0, time := none, fails := [], unsettled := false, counted := false, formed := false }
/-- a tile with that compare due in lane 5 -/
def cmpAt (B : State) (j : CmpJob) (x : VecRec) : State := (B.setLane 5 { LaneSt.idle with jobs := [j] }).setPlay 0 { PlaySt.idle with vecs := [x] }
/-- one site over a whole quadrant -/
def site0 : SiteDecl := ⟨0, 0, 2 ^ 256 - 1⟩

/-! Ill-formed terms: one for each check of WellFormed. -/

theorem test_wf_straps : (Instr.porstRelease 64).wellFormed = false := by decide
theorem test_wf_flash_id : (Instr.flashIdentify true 0x1000000).wellFormed = false := by decide
theorem test_wf_register_write_aligned : (Instr.registerWrite .spi 2 0 0).wellFormed = false := by decide
theorem test_wf_register_write_range : (Instr.registerWrite .spi 0x2000000 0 0).wellFormed = false := by decide
theorem test_wf_bad_size : (Instr.badSizeRequest 0 true 0x2000000).wellFormed = false := by decide
theorem test_wf_poisoned_bar0 : (Instr.poisonedTlpReceived 0 false 0x2000000).wellFormed = false := by decide
theorem test_wf_poisoned_bar2 : (Instr.poisonedTlpReceived 0 true 0x10000000).wellFormed = false := by decide
theorem test_wf_rc_read : (Instr.rcRead .spi 1).wellFormed = false := by decide
theorem test_wf_rsn_low_read : (Instr.rsnLowRead .spi 0x2000000).wellFormed = false := by decide
theorem test_wf_clamp_end : (Instr.dischargeClampEnd 9216).wellFormed = false := by decide
theorem test_wf_compare_result : (Instr.compareResult 0 4 0 0).wellFormed = false := by decide
theorem test_wf_vector_write : (Instr.bar2VectorWrite .spi 0xBFFFFFF [0, 0]).wellFormed = false := by decide
theorem test_wf_capture_write : (Instr.bar2CaptureWrite .spi 0xBFFFFFF [0]).wellFormed = false := by decide
theorem test_wf_bar2_read : (Instr.bar2Read .spi 0xFFFFFFF 2).wellFormed = false := by decide
theorem test_wf_store_window : (Instr.storeWindowWrite .spi 0x3D0000 0).wellFormed = false := by decide
theorem test_wf_adc_code : (Instr.adcSlot 0 0x40000 0).wellFormed = false := by decide
theorem test_wf_smu_code : (Instr.smuConversion 0 0x100000).wellFormed = false := by decide
theorem test_wf_frame_time : (Instr.frameReceive 0 true 163840 []).wellFormed = false := by decide
theorem test_wf_tx_time : (Instr.txDone 0 163840).wellFormed = false := by decide
theorem test_wf_nop : (Instr.nop 0 0 []).wellFormed = false := by decide
theorem test_wf_stream_refill : (Instr.streamRefill 0 0 (List.replicate 32 0) [0]).wellFormed = false := by decide
theorem test_wf_resident_load : (Instr.residentLoad 0 0 [] []).wellFormed = false := by decide
theorem test_wf_upload : (Instr.upload 0 0 [1]).wellFormed = false := by decide
theorem test_wf_spi_read : (Instr.spiReadFrame [0, 0, 0, 0, 0] 0 0).wellFormed = false := by decide
theorem test_wf_flash_read_aligned : (Instr.flashWindowRead .spi 0x8004 true).wellFormed = false := by decide
theorem test_wf_flash_read_range : (Instr.flashWindowRead .spi 0x7FFC false).wellFormed = false := by decide
theorem test_wf_flash_write_line : (Instr.flashWindowWrite .spi 0x8004 (List.replicate 5 0)).wellFormed = false := by decide
theorem test_wf_round : (Instr.hkRound [] [] []).wellFormed = false := by decide
theorem test_wf_forerunner_vector : (Instr.forerunnerVectorWrite .spi 0x10000000 [0]).wellFormed = false := by decide
theorem test_wf_link : (Instr.pcieLinkTrained 0 8 0).wellFormed = false := by decide
theorem test_wf_vfs : (Instr.vfEnable 0 true 16).wellFormed = false := by decide

/-- The outcome is a next state with a property. -/
def answers (o : Host.Outcome State Fault Refusal) (p : State → Bool) : Bool :=
  match o with
  | .next t => p t
  | _ => false

/-! Results that the manual's worked examples give. -/

/-- Spec 00, after R12: tile 9 and the spare DPS of quadrant 1. -/
theorem test_place_codes : place 2 9 = 0x2009 ∧ place 4 33 = 0x4021 := by decide

/-- Spec 22, the worked example: 400 and 1,234 units of 10 ps. -/
theorem test_forerunner_taps : tapsOf 400 = 3277 ∧ tapsOf 1234 = 10109 := by decide

/-- Spec 06, the DNRZ example: the set passes every check, and its edges lie at the ball as the table gives them. -/
theorem test_dnrz_set : laneCheck true 1312 1024 4 (fun k => [1312, 1824, 2336, 1312, 200, 712].getD k 0) = 0 ∧
    ballEdge true 1312 1 1824 = 512 ∧ ballEdge true 1312 2 2336 = 1024 ∧ ballEdge true 1312 5 712 = 2024 := by decide

/-- R174: a drive edge before the tip's delay. -/
theorem test_edge_before_ref : laneCheck true 1312 1024 4 (fun k => [1311, 1824, 2336, 1312, 200, 712].getD k 0) = 4 := by decide

/-- Spec 08, the match loop: the JUMP at 0x090 goes to 0x0A0. -/
theorem test_jump_word : answers (exec (.jump 1) (seqAt ran 1 0x90 0x100000A0)) (fun t => decide ((t.seq 1).next = 0xA0)) = true := by decide

/-- Spec 08, the match loop: the LOOP at 0x091 goes back to 0x081 while the counter has not reached 0. -/
theorem test_loop_word : answers (exec (.loop 1) ((seqAt ran 1 0x91 0x30000010).wr R.SEQ_CNT.VALUE 8 1000)) (fun t => decide ((t.seq 1).next = 0x81)) = true := by decide

/-- Spec 07, the full-mode row: the data word of rows 1,000 and 1,001 leaves SEG_CTLW_ADDR at 0x3EA. -/
theorem test_ctlw : answers (exec (.ctlwDataWrite (.fn 0) 1 0x00220222 15) (base.wr R.SEG_CTLW_ADDR.ROW 1 1000)) (fun t => decide (t.rd R.SEG_CTLW_ADDR.ROW 1 = 0x3EA)) = true := by decide

/-- R533: the median of an even number of readings is rounded toward minus infinity. -/
theorem test_median : median [-1, -2] = some (-2) ∧ median [5, 1, 3] = some 3 := by decide

theorem wit_ResetScopes_2 : (fun (s : State) => s.m.porst = false) (base) := by decide

theorem wit_ResetScopes_3 : (fun (s : State) (rail : Fin 8) => ((rail.val = 1 ∨ rail.val = 2)) ∧ rail.val ∉ s.m.badRails ∧ s.m.beforeSafe = false) (base) (1) := by decide

theorem wit_ResetScopes_4 : (fun (s : State) (rq : Req) (w : Word) => s.reachable rq = true ∧ s.mayWrite rq .DEV_MODE 0 = true ∧ s.m.load = none ∧ s.nvm.job = none) (base) (.fn 0) (0) := by decide

theorem wit_PowerAndReferenceEvents_1 : (fun (s : State) (straps : Nat) => s.m.porst = true ∧ s.m.beforeSafe = true ∧ s.m.trip = false ∧ s.coreBad = false) ({ base with m := { base.m with porst := true, beforeSafe := true } }) (70) := by decide

theorem wit_PowerAndReferenceEvents_2 : (fun (s : State) (straps : Nat) => s.m.porst = true ∧ s.m.trip = true) ({ base with m := { base.m with porst := true, trip := true } }) (9) := by decide

theorem wit_PowerAndReferenceEvents_5 : (fun (s : State) (rail : Fin 8) => 3 ≤ rail.val ∧ rail.val ∉ s.m.badRails) (base) (7) := by decide

theorem wit_PowerAndReferenceEvents_6 : (fun (s : State) (rail : Fin 8) => rail.val ∈ s.m.badRails) ({ base with m := { base.m with badRails := [3, 7] } }) (7) := by decide

theorem wit_PowerAndReferenceEvents_7 : (fun (s : State) => s.alive = true ∧ s.m.refSeen = true ∧ s.fl R.DEV_CLK.REF_LOSS_POLICY 0 = false) (base) := by decide

theorem wit_PowerAndReferenceEvents_8 : (fun (s : State) => s.alive = true ∧ s.m.refSeen = false ∧ s.m.everLocked = true) ({ (base.wr R.DEV_CLK.HOLDOVER 0 1) with m := { base.m with refSeen := false }, plays := [] }) := by decide

theorem wit_PowerAndReferenceEvents_9 : (fun (s : State) => s.fl R.DEV_CLK.RELOCK_PENDING 0 = true ∧ s.anyPlays = false) ({ (base.wr R.DEV_CLK.RELOCK_PENDING 0 1) with plays := [] }) := by decide

theorem wit_PowerAndReferenceEvents_10 : (fun (s : State) => s.m.relocking = true) ({ base with m := { base.m with relocking := true } }) := by decide

theorem wit_PowerAndReferenceEvents_11 : (fun (s : State) => s.m.everLocked = false ∧ s.alive = true ∧ s.fl R.DEV_CLK.REF_PRESENT 0 = true) ({ base with m := { base.m with everLocked := false } }) := by decide

theorem wit_ModeRequests_1 : (fun (s : State) (rq : Req) (w : Word) => s.canWrite rq .DEV_MODE 0 ∧ s.m.target = none ∧ s.operating = true) (base) (.fn 0) (0) := by decide

theorem wit_ModeRequests_2 : (fun (s : State) (rq : Req) (w : Word) => s.canWrite rq .DEV_MODE 0 ∧ s.m.target = none ∧ s.m.mode = .run) (base) (.fn 0) (0) := by decide

theorem wit_ModeRequests_3 : (fun (s : State) (rq : Req) (w : Word) => s.canWrite rq .DEV_MODE 0 ∧ s.m.target = none ∧ s.m.mode = .service ∧ s.fl R.DEV_MODE.STARTUP_DONE 0 = true ∧ s.serviceBusy = false) ({ (base.wr R.DEV_MODE.STARTUP_DONE 0 1) with m := { base.m with mode := .service } }) (.fn 0) (0) := by decide

theorem wit_ModeRequests_4 : (fun (s : State) (rq : Req) (w : Word) => s.canWrite rq .DEV_MODE 0 ∧ s.m.target = none ∧ s.m.mode = .idle ∧ s.legacySel = false ∧ s.fl R.THS_STATUS.CONE_T 0 = false ∧ s.m.relocking = false) ({ base with m := { base.m with mode := .idle } }) (.fn 0) (0) := by decide

theorem wit_ModeRequests_5 : (fun (s : State) (rq : Req) (w : Word) (c : Nat) => s.canWrite rq .DEV_MODE 0 ∧ s.reqVerdict 2 = .refuse c) ({ base with m := { base.m with mode := .service } }) (.fn 0) (0) (1) := by decide

theorem wit_ModeRequests_6 : (fun (s : State) (rq : Req) (w : Word) (c : Nat) => s.canWrite rq .DEV_MODE 0 ∧ s.reqVerdict 3 = .refuse c) ({ base with m := { base.m with mode := .service } }) (.fn 0) (0) (4) := by decide

theorem wit_ModeRequests_6_2 : (fun (s : State) (rq : Req) (w : Word) (c : Nat) => s.canWrite rq .DEV_MODE 0 ∧ s.reqVerdict 3 = .refuse c) ({ base with m := { base.m with mode := .idle } }) (.fn 0) (0) (1) := by decide

theorem wit_ModeRequests_7 : (fun (s : State) (rq : Req) (w : Word) (c : Nat) => s.canWrite rq .DEV_MODE 0 ∧ s.reqVerdict 4 = .refuse c) (base) (.fn 0) (0) (1) := by decide

theorem wit_ModeRequests_7_2 : (fun (s : State) (rq : Req) (w : Word) (c : Nat) => s.canWrite rq .DEV_MODE 0 ∧ s.reqVerdict 4 = .refuse c) ({ base.wr R.THS_STATUS.CONE_T 0 1 with m := { base.m with mode := .idle } }) (.fn 0) (0) (3) := by decide

theorem wit_ModeRequests_8 : (fun (s : State) (rq : Req) (w : Word) => s.canWrite rq .DEV_MODE 0 ∧ s.m.target.isSome = true) ({ base with m := { base.m with target := some .idle } }) (.fn 0) (0) := by decide

theorem wit_ModeRequests_9 : (fun (s : State) (hard : List Nat) (new : Mode) => s.m.target = some new ∧ (((s.m.mode = .run ∨ s.m.mode = .legacy) → s.anyPlays = false))) ({ base with m := { base.m with mode := .idle, target := some .run, byRequest := true } }) ([]) (.run) := by decide

theorem wit_ModeRequests_10 : (fun (s : State) (failed rows hard : List Nat) (k : Nat) => s.m.mode = .service ∧ s.m.startup = true ∧ s.rd R.DEV_STARTUP.STEP 0 = k ∧ 1 ≤ k ∧ k ≤ 5 ∧ ((4 ≤ k → ((List.range 4).any fun q => (s.cal q).running) = false)) ∧ ((k = 5 → (s.spare.waiting.any fun w => (s.spareFor w.key).isSome) = false))) ({ (base.wr R.DEV_STARTUP.STEP 0 2) with m := { base.m with mode := .service, startup := true } }) ([]) ([]) ([]) (2) := by decide

theorem wit_ModeRequests_11 : (fun (s : State) (failed rows hard : List Nat) => s.m.mode = .service ∧ s.m.startup = true ∧ s.rd R.DEV_STARTUP.STEP 0 = 6 ∧ s.nvm.job = none) ({ (base.wr R.DEV_STARTUP.STEP 0 6) with m := { base.m with mode := .service, startup := true } }) ([]) ([]) ([]) := by decide

theorem wit_ModeRequests_12 : (fun (s : State) (hard : List Nat) => (s.m.target = none ∨ ((s.m.mode = .run ∨ s.m.mode = .legacy) ∧ s.anyPlays = true))) (base) ([]) := by decide

theorem wit_ModeRequests_13 : (fun (s : State) (failed rows hard : List Nat) => (s.m.mode ≠ .service ∨ s.m.startup = false)) (base) ([]) ([]) ([]) := by decide

theorem wit_ModeRequests_14 : (fun (s : State) => s.m.softReset = false) (base) := by decide

theorem wit_ModeRequests_15 : (fun (s : State) => s.m.softReset = true) ({ base with m := { base.m with mode := .safe, softReset := true, straps := 1 }, image := none }) := by decide

theorem wit_Starts_1 : (fun (s : State) (rq : Req) (w : Word) (e : Fin 2) => s.canWrite rq .DEV_START 0 ∧ s.startable = true ∧ R.DEV_START.AT_TEV.part w.toNat = 0) (base.wr R.SEQ_LOAD.VALID 0 1) (.fn 0) (1) (0) := by decide

theorem wit_Starts_2 : (fun (s : State) (rq : Req) (w : Word) (e : Fin 2) => s.canWrite rq .DEV_START 0 ∧ s.startable = true ∧ R.DEV_START.AT_TEV.part w.toNat = 1) (base) (.fn 0) (0x10001) (0) := by decide

theorem wit_Starts_3 : (fun (s : State) (rq : Req) (w : Word) (e : Fin 2) => s.canWrite rq .DEV_START 0 ∧ s.startable = false) ({ base with m := { base.m with mode := .idle } }) (.fn 0) (1) (0) := by decide

theorem wit_Starts_4 : (fun (s : State) (rq : Req) (w : Word) => s.canWrite rq .DEV_START 0 ∧ s.m.mode ≠ .legacy) (base.wr R.DEV_START.ARMED 0 1) (.fn 0) (0) := by decide

theorem wit_Starts_5 : (fun (s : State) (rq : Req) (w : Word) (e : Fin 2) (k : Nat) => s.canWrite rq .SAG_START 0 ∧ s.sagOf rq = some k ∧ k < 16 ∧ s.startable = true ∧ R.SAG_START.AT_TEV.part w.toNat = 0) (base.wr R.SEQ_LOAD.VALID 0 1) (.fn 0) (1) (1) (0) := by decide

theorem wit_Starts_6 : (fun (s : State) (rq : Req) (w : Word) (e : Fin 2) (k : Nat) => s.canWrite rq .SAG_START 0 ∧ s.sagOf rq = some k ∧ k < 16 ∧ s.startable = true ∧ R.SAG_START.AT_TEV.part w.toNat = 1) (base) (.fn 0) (0x10001) (0) (0) := by decide

theorem wit_Starts_7 : (fun (s : State) (rq : Req) (w : Word) (e : Fin 2) (k : Nat) => s.canWrite rq .SAG_START 0 ∧ s.sagOf rq = some k ∧ k < 16 ∧ s.startable = false) ({ base with m := { base.m with mode := .idle } }) (.fn 0) (1) (0) (0) := by decide

theorem wit_Starts_8 : (fun (s : State) (rq : Req) (w : Word) (k : Nat) => s.canWrite rq .SAG_START 0 ∧ s.sagOf rq = some k ∧ k < 16 ∧ s.m.mode ≠ .legacy) (base.wr R.SAG_START.ARMED 0 1) (.fn 0) (0) (0) := by decide

theorem wit_Starts_9 : (fun (s : State) (f : Fin 64) (w : Word) => s.canWrite (.fn f) .DEV_START 0 ∧ s.m.mode = .legacy) ({ base with m := { base.m with mode := .legacy } }) (0) (0) := by decide

theorem wit_Starts_10 : (fun (s : State) (k : Fin 17) (e : Fin 2) => (k.val ∉ s.m.due ∨ s.fl (startRegs k.val).armed (startRegs k.val).inst = false)) (base) (16) (0) := by decide

theorem wit_Starts_11 : (fun (s : State) (k : Fin 17) (e : Fin 2) => k.val ∈ s.m.due ∧ s.fl (startRegs k.val).armed (startRegs k.val).inst = true ∧ s.startable = true) ({ (base.wr R.DEV_START.ARMED 0 1) with m := { base.m with due := [16] } }) (16) (0) := by decide

theorem wit_Starts_12 : (fun (s : State) (k : Fin 17) (e : Fin 2) => k.val ∈ s.m.due ∧ s.fl (startRegs k.val).armed (startRegs k.val).inst = true ∧ s.startable = false) ({ (base.wr R.SAG_START.ARMED 0 1) with m := { base.m with due := [0], mode := .idle } }) (0) (0) := by decide

theorem wit_FunctionResets_1 : (fun (s : State) (f : Fin 64) (k : Nat) => s.alive = true ∧ f.val % 16 ≠ 0 ∧ s.sagOf (.fn f) = some k) ({ base with image := some { img with saggars := [⟨0, 0, 1, 4⟩] }, host := { base.host with links := [(0, ⟨true, 1, 1, true, 15⟩)] } }) (1) (0) := by decide

theorem wit_FunctionResets_2 : (fun (s : State) (link : Fin 4) (down : Bool) => s.alive = true) (base) (0) (true) := by decide

theorem wit_FunctionResets_3 : (fun (s : State) (f : Fin 64) (k : Nat) => s.alive = true ∧ s.sagOf (.fn f) = some k) (base) (0) (0) := by decide

theorem wit_FunctionResets_4 : (fun (s : State) (f : Fin 64) => (s.alive = false ∨ s.sagOf (.fn f) = none)) (base) (9) := by decide

theorem wit_FunctionResets_5 : (fun (s : State) (f : Fin 64) => s.alive = false) ({ base with m := { base.m with trip := true } }) (9) := by decide

theorem wit_FunctionResets_6 : (fun (s : State) (link : Fin 4) (down : Bool) => s.alive = false) ({ base with m := { base.m with trip := true } }) (0) (true) := by decide

theorem wit_LoadingAndFuses_1 : (fun (s : State) (rq : Req) => s.canWrite rq .DEV_MOULD_CTL 0 ∧ s.m.mode = .safe ∧ s.m.target = none ∧ s.rd R.DEV_MOULD_STATUS.STATE 0 ≠ 1 ∧ s.fl R.DEV_CLK.PLL_LOCKED 0 = true) ({ base with m := { base.m with mode := .safe }, image := none, regs := base.regs.filter fun e => e.1 ≠ R.DEV_MOULD_STATUS.STATE.slot 0 }) (.fn 0) := by decide

theorem wit_LoadingAndFuses_2 : (fun (s : State) (rq : Req) => s.canWrite rq .DEV_MOULD_CTL 0 ∧ ((s.m.mode ≠ .safe ∨ s.m.target.isSome = true ∨ s.rd R.DEV_MOULD_STATUS.STATE 0 = 1 ∨ s.fl R.DEV_CLK.PLL_LOCKED 0 = false))) (base) (.fn 0) := by decide

theorem wit_LoadingAndFuses_3 : (fun (s : State) (rq : Req) => s.canWrite rq .DEV_MOULD_CTL 0 ∧ s.m.load.isSome = true) ({ base with m := { base.m with mode := .load, load := some .host }, image := none }) (.fn 0) := by decide

theorem wit_LoadingAndFuses_3_2 : (fun (s : State) (rq : Req) => s.canWrite rq .DEV_MOULD_CTL 0 ∧ s.m.load.isSome = true) ({ base with m := { base.m with mode := .load, load := some (.flash 0) }, image := none }) (.fn 32) := by decide

theorem wit_LoadingAndFuses_4 : (fun (s : State) (ok : Bool) (bytes : List Byte) => s.m.load = some .host) ({ base with m := { base.m with mode := .load, load := some .host }, image := none }) (false) ([]) := by decide

theorem wit_LoadingAndFuses_4_2 : (fun (s : State) (ok : Bool) (bytes : List Byte) => s.m.load = some .host) ({ base with m := { base.m with mode := .load, load := some .host }, image := none }) (true) (List.replicate 256 0) := by decide

theorem wit_LoadingAndFuses_5 : (fun (s : State) (ok : Bool) (bytes : List Byte) (c : Nat) => s.m.load = some (.flash c)) ({ base with m := { base.m with mode := .load, load := some (.flash 0) }, image := none }) (false) ([]) (0) := by decide

theorem wit_LoadingAndFuses_6 : (fun (s : State) (ok : Bool) (bytes : List Byte) (c : Nat) => s.m.load = some (.flash c) ∧ ok = false) ({ base with m := { base.m with mode := .load, load := some (.flash 0) }, image := none }) (false) ([]) (0) := by decide

theorem wit_LoadingAndFuses_6_2 : (fun (s : State) (ok : Bool) (bytes : List Byte) (c : Nat) => s.m.load = some (.flash c) ∧ ok = false) ({ base with m := { base.m with mode := .load, load := some (.flash 1) }, image := none }) (false) ([]) (1) := by decide

theorem wit_LoadingAndFuses_7 : (fun (s : State) (rq : Req) (k : Fin 4) => s.canWrite rq .DEV_FUSE_CMD 0 ∧ s.rd R.DEV_FUSE_CMD.STATUS 0 ≠ 1 ∧ s.m.mode = .service ∧ s.fl R.THS_STATUS.NVM_OK 0 = true ∧ (s.fuses.getD k.val ⟨0, false⟩).hash = 0) ({ (base.wr R.THS_STATUS.NVM_OK 0 1) with m := { base.m with mode := .service } }) (.fn 0) (3) := by decide

theorem wit_LoadingAndFuses_8 : (fun (s : State) (rq : Req) (k : Fin 4) => s.canWrite rq .DEV_FUSE_CMD 0 ∧ s.rd R.DEV_FUSE_CMD.STATUS 0 ≠ 1 ∧ s.m.mode = .service ∧ s.fl R.THS_STATUS.NVM_OK 0 = true ∧ (((s.fuses.getD k.val ⟨0, false⟩).hash = 0 ∨ (s.fuses.getD k.val ⟨0, false⟩).revoked = true ∨ (s.fuses.zipIdx.any fun e => e.2 ≠ k.val && e.1.hash ≠ 0 && !e.1.revoked) = true))) ({ (base.wr R.THS_STATUS.NVM_OK 0 1) with m := { base.m with mode := .service }, fuses := [⟨1, false⟩, ⟨2, false⟩, ⟨0, false⟩, ⟨0, false⟩] }) (.fn 0) (0) := by decide

theorem wit_LoadingAndFuses_9 : (fun (s : State) (rq : Req) (k : Fin 4) => s.canWrite rq .DEV_FUSE_CMD 0 ∧ s.rd R.DEV_FUSE_CMD.STATUS 0 ≠ 1 ∧ ((s.m.mode ≠ .service ∨ s.fl R.THS_STATUS.NVM_OK 0 = false ∨ (s.fuses.getD k.val ⟨0, false⟩).hash ≠ 0))) (base) (.fn 0) (1) := by decide

theorem wit_LoadingAndFuses_10 : (fun (s : State) (rq : Req) (k : Fin 4) => s.canWrite rq .DEV_FUSE_CMD 0 ∧ s.rd R.DEV_FUSE_CMD.STATUS 0 ≠ 1 ∧ ((s.m.mode ≠ .service ∨ s.fl R.THS_STATUS.NVM_OK 0 = false ∨ ((s.fuses.getD k.val ⟨0, false⟩).hash ≠ 0 ∧ (s.fuses.getD k.val ⟨0, false⟩).revoked = false ∧ (s.fuses.zipIdx.any fun e => e.2 ≠ k.val && e.1.hash ≠ 0 && !e.1.revoked) = false)))) (base) (.fn 0) (1) := by decide

theorem wit_LoadingAndFuses_11 : (fun (s : State) (rq : Req) (k : Fin 4) => s.canWrite rq .DEV_FUSE_CMD 0 ∧ s.rd R.DEV_FUSE_CMD.STATUS 0 = 1) (base.wr R.DEV_FUSE_CMD.STATUS 0 1) (.fn 0) (1) := by decide

theorem wit_LoadingAndFuses_12 : (fun (s : State) (cmd k hash : Nat) => s.m.fuseCmd = some (cmd, k, hash) ∧ k < s.fuses.length) ({ base with m := { base.m with fuseCmd := some (1, 3, 5) } }) (1) (3) (5) := by decide

theorem wit_LoadingAndFuses_12_2 : (fun (s : State) (cmd k hash : Nat) => s.m.fuseCmd = some (cmd, k, hash) ∧ k < s.fuses.length) ({ base with m := { base.m with fuseCmd := some (2, 0, 0) } }) (2) (0) (0) := by decide

theorem wit_RegisterWrites_1 : (fun (s : State) (rq : Req) (off : Nat) (w : Word) (be : Fin 16) (r : Reg) (i : Nat) (f : Fld) => off % 4 = 0 ∧ ((off < 0x8000 ∨ 0x10000 ≤ off)) ∧ s.window off = none ∧ decodeOffset off = some (r, i) ∧ s.canWrite rq r i ∧ be.val ≠ 0 ∧ regHook r rq (s.copyOf rq r i) w.toNat be.val { s with out := [] } = writeWord r (s.copyOf rq r i) w.toNat be.val { s with out := [] } ∧ f ∈ r.fields ∧ ((s.m.mode = .load ∨ s.m.mode = .service ∨ (r.fields.any fun g => g.acc = .rwl && g.enabled be.val) = false))) (base) (.fn 0) (Reg.offset .LOG_PAGE 0) (0x12345678) (5) (.LOG_PAGE) (0) (R.LOG_PAGE.PAGE) := by decide

theorem wit_RegisterWrites_1_2 : (fun (s : State) (rq : Req) (off : Nat) (w : Word) (be : Fin 16) (r : Reg) (i : Nat) (f : Fld) => off % 4 = 0 ∧ ((off < 0x8000 ∨ 0x10000 ≤ off)) ∧ s.window off = none ∧ decodeOffset off = some (r, i) ∧ s.canWrite rq r i ∧ be.val ≠ 0 ∧ regHook r rq (s.copyOf rq r i) w.toNat be.val { s with out := [] } = writeWord r (s.copyOf rq r i) w.toNat be.val { s with out := [] } ∧ f ∈ r.fields ∧ ((s.m.mode = .load ∨ s.m.mode = .service ∨ (r.fields.any fun g => g.acc = .rwl && g.enabled be.val) = false))) (base.wr R.HOST_ERR.UR 0 1) (.fn 0) (Reg.offset .HOST_ERR 0) (0xFFFFFFFF) (15) (.HOST_ERR) (0) (R.HOST_ERR.UR) := by decide

theorem wit_RegisterWrites_1_3 : (fun (s : State) (rq : Req) (off : Nat) (w : Word) (be : Fin 16) (r : Reg) (i : Nat) (f : Fld) => off % 4 = 0 ∧ ((off < 0x8000 ∨ 0x10000 ≤ off)) ∧ s.window off = none ∧ decodeOffset off = some (r, i) ∧ s.canWrite rq r i ∧ be.val ≠ 0 ∧ regHook r rq (s.copyOf rq r i) w.toNat be.val { s with out := [] } = writeWord r (s.copyOf rq r i) w.toNat be.val { s with out := [] } ∧ f ∈ r.fields ∧ ((s.m.mode = .load ∨ s.m.mode = .service ∨ (r.fields.any fun g => g.acc = .rwl && g.enabled be.val) = false))) ({ base with m := { base.m with mode := .service } }) (.fn 0) (Reg.offset .DEV_PRIO 0) (0xFFFFFFFF) (15) (.DEV_PRIO) (0) (R.DEV_PRIO.SPLIT) := by decide

theorem wit_RegisterWrites_2 : (fun (s : State) (f : Fin 64) (off : Nat) (w : Word) (be : Fin 16) (r : Reg) (i : Nat) => off % 4 = 0 ∧ ((off < 0x8000 ∨ 0x10000 ≤ off)) ∧ s.window off = none ∧ decodeOffset off = some (r, i) ∧ s.canWrite (.fn f) r i ∧ be.val ≠ 0 ∧ regHook r (.fn f) (s.copyOf (.fn f) r i) w.toNat be.val { s with out := [] } = writeWord r (s.copyOf (.fn f) r i) w.toNat be.val { s with out := [] } ∧ s.m.mode ≠ .load ∧ s.m.mode ≠ .service ∧ (r.fields.any fun g => g.acc = .rwl && g.enabled be.val) = true) (base) (0) (Reg.offset .DEV_PRIO 0) (0xFFFFFFFF) (15) (.DEV_PRIO) (0) := by decide

theorem wit_RegisterWrites_3 : (fun (s : State) (f : Fin 64) (off : Nat) (w : Word) (be : Fin 16) (r : Reg) (i : Nat) => off % 4 = 0 ∧ ((off < 0x8000 ∨ 0x10000 ≤ off)) ∧ s.window off = none ∧ decodeOffset off = some (r, i) ∧ s.reachable (.fn f) = true ∧ s.mayWrite (.fn f) r i = false ∧ be.val ≠ 0) (base) (32) (Reg.offset .DEV_MODE 0) (2) (15) (.DEV_MODE) (0) := by decide

theorem wit_RegisterWrites_4 : (fun (s : State) (rq : Req) (off : Nat) (w : Word) (be : Fin 16) => ((s.reachable rq = false ∨ be.val = 0))) ({ base with m := { base.m with trip := true } }) (.fn 0) (0) (0) (15) := by decide

theorem wit_BusFaults_1 : (fun (s : State) (f : Fin 64) (off : Nat) => s.reachable (.fn f) = true) (base) (0) (0x40) := by decide

theorem wit_BusFaults_2 : (fun (s : State) (f : Fin 64) (off : Nat) => s.reachable (.fn f) = true) (base) (0) (0x40) := by decide

theorem wit_BusFaults_3 : (fun (s : State) (f : Fin 64) => s.reachable (.fn f) = true) (base) (0) := by decide

theorem wit_BusFaults_4 : (fun (s : State) (f : Fin 64) (bar2 : Bool) (off : Nat) => s.reachable (.fn f) = true) (base) (0) (true) (0x40) := by decide

theorem wit_BusFaults_5 : (fun (s : State) (f : Fin 64) (kind : Fin 4) => s.reachable (.fn f) = true) (base) (0) (2) := by decide

theorem wit_BusFaults_6 : (fun (s : State) (f : Fin 64) (write bar2 : Bool) (off : Nat) (kind : Fin 4) => s.reachable (.fn f) = false) ({ base with m := { base.m with trip := true } }) (0) (true) (false) (0x40) (2) := by decide

theorem wit_RegisterReads_1 : (fun (s : State) (rq : Req) (off : Nat) (r : Reg) (i : Nat) (f : Fld) => off % 4 = 0 ∧ ((off < 0x8000 ∨ 0x10000 ≤ off)) ∧ off < 0x2000000 ∧ s.window off = none ∧ decodeOffset off = some (r, i) ∧ r.isRc = true ∧ s.reachable rq = true ∧ s.mayRead rq r i = true ∧ f ∈ r.fields ∧ f.acc = .rc) (base.wr R.HOST_REFUSE.COUNT 0 77) (.fn 0) (Reg.offset .HOST_REFUSE 0) (.HOST_REFUSE) (0) (R.HOST_REFUSE.COUNT) := by decide

theorem wit_RegisterReads_2 : (fun (s : State) (rq : Req) (off : Nat) (r h : Reg) (i n : Nat) => off % 4 = 0 ∧ ((off < 0x8000 ∨ 0x10000 ≤ off)) ∧ off < 0x2000000 ∧ s.window off = none ∧ decodeOffset off = some (r, i) ∧ s.reachable rq = true ∧ s.mayRead rq r i = true ∧ rsnHigh r (s.copyOf rq r i) = some (h, n)) (base) (.fn 0) (Reg.offset .CMP_CYCLE_LO 3) (.CMP_CYCLE_LO) (.CMP_CYCLE_HI) (3) (3) := by decide

theorem wit_RegisterReads_2_2 : (fun (s : State) (rq : Req) (off : Nat) (r h : Reg) (i n : Nat) => off % 4 = 0 ∧ ((off < 0x8000 ∨ 0x10000 ≤ off)) ∧ off < 0x2000000 ∧ s.window off = none ∧ decodeOffset off = some (r, i) ∧ s.reachable rq = true ∧ s.mayRead rq r i = true ∧ rsnHigh r (s.copyOf rq r i) = some (h, n)) ((base.wr R.CMP_CYCLE_LO.CYCLE_LO 3 99).wr R.CMP_CYCLE_HI.CYCLE_HI 3 7) (.fn 0) (Reg.offset .CMP_CYCLE_LO 3) (.CMP_CYCLE_LO) (.CMP_CYCLE_HI) (3) (3) := by decide

theorem wit_RegisterReads_3 : (fun (s : State) (rq : Req) (off : Nat) (r : Reg) (i n x : Nat) => off % 4 = 0 ∧ ((off < 0x8000 ∨ 0x10000 ≤ off)) ∧ off < 0x2000000 ∧ s.window off = none ∧ decodeOffset off = some (r, i) ∧ s.reachable rq = true ∧ s.mayRead rq r i = true ∧ rsnShadow r (s.copyOf rq r i) = some n ∧ smGet 0 s.host.rsn (4096 * reqNum rq + n) = x + 1) (base.setRsn (.fn 0) 3 43) (.fn 0) (Reg.offset .CMP_CYCLE_HI 3) (.CMP_CYCLE_HI) (3) (3) (42) := by decide

theorem wit_RegisterReads_4 : (fun (s : State) (rq : Req) => s.reachable rq = true ∧ s.mayRead rq .TIME_NOW_FRAC 0 = true) (base) (.fn 0) := by decide

theorem wit_LinksAndQuotas_1 : (fun (s : State) (link : Fin 4) (speed width : Nat) => s.alive = true ∧ s.linkExists link.val = true) (base) (0) (5) (8) := by decide

theorem wit_LinksAndQuotas_2 : (fun (s : State) (link : Fin 4) (n : Nat) => s.alive = true ∧ s.linkExists link.val = true) (base) (0) (3) := by decide

theorem wit_LinksAndQuotas_3 : (fun (s : State) (link : Fin 4) (n : Nat) => s.alive = true ∧ s.linkExists link.val = true) (base) (0) (3) := by decide

theorem wit_LinksAndQuotas_4 : (fun (s : State) (link : Fin 4) (on : Bool) (n speed width : Nat) => ((s.alive = false ∨ s.linkExists link.val = false))) ({ base with m := { base.m with trip := true } }) (0) (true) (3) (5) (8) := by decide

theorem wit_LinksAndQuotas_6 : (fun (s : State) (rq : Req) (k : Fin 16) (w : Word) => s.canWrite rq .SAG_QUOTA_A k.val ∧ (s.sagEntry k.val).isSome = true ∧ s.quotaSum R.SAG_QUOTA_A.CAPTURE_BLOCKS k.val (R.SAG_QUOTA_A.CAPTURE_BLOCKS.part w.toNat) ≤ 768 ∧ s.quotaSum R.SAG_QUOTA_A.CONTEXT_GROUPS k.val (R.SAG_QUOTA_A.CONTEXT_GROUPS.part w.toNat) ≤ 64 ∧ (s.tilesOf k.val).length ≤ R.SAG_QUOTA_A.CAPTURE_BLOCKS.part w.toNat) (base) (.fn 0) (0) (0x00100020) := by decide

theorem wit_LinksAndQuotas_7 : (fun (s : State) (rq : Req) (k : Fin 16) (w : Word) => s.canWrite rq .SAG_QUOTA_B k.val ∧ (s.sagEntry k.val).isSome = true ∧ s.quotaSum R.SAG_QUOTA_B.STREAM_SHARE k.val (R.SAG_QUOTA_B.STREAM_SHARE.part w.toNat) ≤ 256 ∧ 6 ≤ R.SAG_QUOTA_B.QUEUE_DEPTH_LOG2.part w.toNat ∧ R.SAG_QUOTA_B.QUEUE_DEPTH_LOG2.part w.toNat ≤ 16) (base) (.fn 0) (0) (BitVec.ofNat 32 (10 + 7 * 2 ^ 16)) := by decide

theorem wit_LinksAndQuotas_8 : (fun (s : State) (rq : Req) (k : Fin 16) (w : Word) => s.canWrite rq .SAG_QUOTA_A k.val ∧ (((s.sagEntry k.val).isNone = true ∨ (s.tilesOf k.val).length > R.SAG_QUOTA_A.CAPTURE_BLOCKS.part w.toNat ∨ s.quotaSum R.SAG_QUOTA_A.CAPTURE_BLOCKS k.val (R.SAG_QUOTA_A.CAPTURE_BLOCKS.part w.toNat) > 768 ∨ s.quotaSum R.SAG_QUOTA_A.CONTEXT_GROUPS k.val (R.SAG_QUOTA_A.CONTEXT_GROUPS.part w.toNat) > 64))) (base) (.fn 0) (3) (5) := by decide

theorem wit_LinksAndQuotas_9 : (fun (s : State) (rq : Req) (k : Fin 16) (w : Word) => s.canWrite rq .SAG_QUOTA_B k.val ∧ (((s.sagEntry k.val).isNone = true ∨ s.quotaSum R.SAG_QUOTA_B.STREAM_SHARE k.val (R.SAG_QUOTA_B.STREAM_SHARE.part w.toNat) > 256 ∨ R.SAG_QUOTA_B.QUEUE_DEPTH_LOG2.part w.toNat < 6 ∨ 16 < R.SAG_QUOTA_B.QUEUE_DEPTH_LOG2.part w.toNat))) (base) (.fn 0) (0) (5) := by decide

theorem wit_AllotAndRelease_1 : (fun (s : State) (rq : Req) (w : Word) (b k : Nat) => s.canWrite rq .SAG_ALLOT 0 ∧ R.SAG_ALLOT.INDEX.part w.toNat = b ∧ R.SAG_ALLOT.KIND.part w.toNat = 0 ∧ R.SAG_ALLOT.SAGGAR.part w.toNat = k ∧ s.allotCause (s.sagOf rq) 1 b 0 k = 0) (((base.wr R.SAG_QUOTA_A.CAPTURE_BLOCKS 0 700).wr R.SAG_QUOTA_A.CONTEXT_GROUPS 0 60)) (.fn 0) (5) (5) (0) := by decide

theorem wit_AllotAndRelease_2 : (fun (s : State) (rq : Req) (w : Word) (g k : Nat) => s.canWrite rq .SAG_ALLOT 0 ∧ R.SAG_ALLOT.INDEX.part w.toNat = g ∧ R.SAG_ALLOT.KIND.part w.toNat = 1 ∧ R.SAG_ALLOT.SAGGAR.part w.toNat = k ∧ s.allotCause (s.sagOf rq) 1 g 1 k = 0) (((base.wr R.SAG_QUOTA_A.CAPTURE_BLOCKS 0 700).wr R.SAG_QUOTA_A.CONTEXT_GROUPS 0 60)) (.fn 0) (BitVec.ofNat 32 (5 + 2 ^ R.SAG_ALLOT.KIND.lo)) (5) (0) := by decide

theorem wit_AllotAndRelease_3 : (fun (s : State) (rq : Req) (w : Word) (c : Nat) => s.canWrite rq .SAG_ALLOT 0 ∧ s.allotCause (s.sagOf rq) 1 (R.SAG_ALLOT.INDEX.part w.toNat) (R.SAG_ALLOT.KIND.part w.toNat) (R.SAG_ALLOT.SAGGAR.part w.toNat) = c ∧ c ≠ 0) (base) (.fn 0) (800) (1) := by decide

theorem wit_AllotAndRelease_4 : (fun (s : State) (rq : Req) (w : Word) (b k : Nat) => s.canWrite rq .SAG_ALLOT 0 ∧ R.SAG_ALLOT.INDEX.part w.toNat = b ∧ R.SAG_ALLOT.KIND.part w.toNat = 0 ∧ R.SAG_ALLOT.SAGGAR.part w.toNat = k ∧ s.allotCause (s.sagOf rq) 2 b 0 k = 0) ((((base.wr R.SAG_QUOTA_A.CAPTURE_BLOCKS 0 700).wr R.SAG_QUOTA_A.CONTEXT_GROUPS 0 60).wr R.SAG_BLK_OWNER.ALLOTTED 5 1).wr R.SAG_USE.BLOCKS 0 3) (.fn 0) (5) (5) (0) := by decide

theorem wit_AllotAndRelease_5 : (fun (s : State) (rq : Req) (w : Word) (g k : Nat) => s.canWrite rq .SAG_ALLOT 0 ∧ R.SAG_ALLOT.INDEX.part w.toNat = g ∧ R.SAG_ALLOT.KIND.part w.toNat = 1 ∧ R.SAG_ALLOT.SAGGAR.part w.toNat = k ∧ s.allotCause (s.sagOf rq) 2 g 1 k = 0) ((base.wr R.SAG_GRP_OWNER.ALLOTTED 5 1).wr R.SAG_USE.GROUPS 0 3) (.fn 0) (BitVec.ofNat 32 (5 + 2 ^ R.SAG_ALLOT.KIND.lo)) (5) (0) := by decide

theorem wit_AllotAndRelease_6 : (fun (s : State) (rq : Req) (w : Word) (c : Nat) => s.canWrite rq .SAG_ALLOT 0 ∧ s.allotCause (s.sagOf rq) 2 (R.SAG_ALLOT.INDEX.part w.toNat) (R.SAG_ALLOT.KIND.part w.toNat) (R.SAG_ALLOT.SAGGAR.part w.toNat) = c ∧ c ≠ 0) (base) (.fn 0) (800) (1) := by decide

theorem wit_AllotAndRelease_7 : (fun (s : State) (b : Fin 768) => s.fl R.SAG_BLK_OWNER.CLEARING b.val = true) (({ base with cap := [(1, 5), (40961, 6)] }).wr R.SAG_BLK_OWNER.CLEARING 5 1) (5) := by decide

theorem wit_AllotAndRelease_8 : (fun (s : State) (g : Fin 64) => s.fl R.SAG_GRP_OWNER.DRAINING g.val = true ∧ s.grpBusy g.val = false) (base.wr R.SAG_GRP_OWNER.DRAINING 5 1) (5) := by decide

theorem wit_DescriptorRings_1 : (fun (s : State) (rq : Req) (r : Fin 4) (w : Word) => s.canWrite rq .HOST_DMA_CFG r.val ∧ s.fl R.HOST_DMA_CFG.EN (s.copyOf rq .HOST_DMA_CFG r.val) = false ∧ 4 ≤ R.HOST_DMA_CFG.SIZE_LOG2.part w.toNat ∧ R.HOST_DMA_CFG.SIZE_LOG2.part w.toNat ≤ 12) (base) (.fn 0) (2) (BitVec.ofNat 32 (6 * 2 ^ R.HOST_DMA_CFG.SIZE_LOG2.lo)) := by decide

theorem wit_DescriptorRings_2 : (fun (s : State) (f : Fin 64) (r : Fin 4) (w : Word) => s.canWrite (.fn f) .HOST_DMA_CFG r.val ∧ ((if s.fl R.HOST_DMA_CFG.EN (s.copyOf (.fn f) .HOST_DMA_CFG r.val) then R.HOST_DMA_CFG.SIZE_LOG2.part w.toNat ≠ s.rd R.HOST_DMA_CFG.SIZE_LOG2 (s.copyOf (.fn f) .HOST_DMA_CFG r.val) else R.HOST_DMA_CFG.SIZE_LOG2.part w.toNat < 4 ∨ 12 < R.HOST_DMA_CFG.SIZE_LOG2.part w.toNat))) (base) (0) (2) (0) := by decide

theorem wit_DescriptorRings_3 : (fun (s : State) (rq : Req) (r : Fin 4) (w : Word) => s.canWrite rq .HOST_DMA_CFG r.val) (base.wr R.HOST_DMA_CFG.EN 2 1) (.fn 0) (2) (0) := by decide

theorem wit_DescriptorRings_4 : (fun (s : State) (rq : Req) (r : Fin 4) (w : Word) => s.canWrite rq .HOST_DMA_TAIL r.val) (base) (.fn 0) (2) (9) := by decide

theorem wit_Descriptors_1 : (fun (s : State) (sag : Fin 16) (r : Fin 4) (d : List Byte) => s.ringReady (4 * sag.val + r.val) = true ∧ (((d.map (·.toNat)).getD 0 0 = 0 ∨ 3 < (d.map (·.toNat)).getD 0 0))) ((base.wr R.HOST_DMA_CFG.EN 2 1).wr R.HOST_DMA_TAIL.TAIL 2 1) (0) (2) (List.replicate 32 0) := by decide

theorem wit_Descriptors_1_2 : (fun (s : State) (sag : Fin 16) (r : Fin 4) (d : List Byte) => s.ringReady (4 * sag.val + r.val) = true ∧ (((d.map (·.toNat)).getD 0 0 = 0 ∨ 3 < (d.map (·.toNat)).getD 0 0))) ((base.wr R.HOST_DMA_CFG.EN 2 1).wr R.HOST_DMA_TAIL.TAIL 2 1) (0) (2) (9 :: List.replicate 31 0) := by decide

theorem wit_Descriptors_2 : (fun (s : State) (sag : Fin 16) (r : Fin 4) (d : List Byte) => s.ringReady (4 * sag.val + r.val) = true ∧ (d.map (·.toNat)).getD 0 0 = 1) ((base.wr R.HOST_DMA_CFG.EN 2 1).wr R.HOST_DMA_TAIL.TAIL 2 1) (0) (2) ([1] ++ List.replicate 19 0 ++ [1, 0, 0, 0] ++ List.replicate 8 0) := by decide

theorem wit_Descriptors_3 : (fun (s : State) (sag : Fin 16) (r : Fin 4) (d b : List Byte) => s.ringReady (4 * sag.val + r.val) = true ∧ (d.map (·.toNat)).getD 0 0 = 1 ∧ b.length = 272 ∧ s.descCode sag.val (descOf (d.map (·.toNat))) (d.map (·.toNat)) = 0 ∧ 272 ≤ smGet 0 s.host.credit sag.val ∧ 272 ≤ smGet 0 s.host.credit (64 + (descOf (d.map (·.toNat))).tile)) ({ ((base.wr R.HOST_DMA_CFG.EN 2 1).wr R.HOST_DMA_TAIL.TAIL 2 1).wr R.SEG_STORE_CFG.RING_BASE 0 256 with host := { base.host with credit := [(0, 1000), (64, 1000)] } }) (0) (2) ([1] ++ List.replicate 19 0 ++ [1, 0, 0, 0] ++ List.replicate 8 0) (List.replicate 272 7) := by decide

theorem wit_Descriptors_4 : (fun (s : State) (sag : Fin 16) (r : Fin 4) (d b : List Byte) (x : Desc) => (s.ring (4 * sag.val + r.val)).desc = some x ∧ x.op = 1 ∧ (s.ring (4 * sag.val + r.val)).code = 0 ∧ (s.ring (4 * sag.val + r.val)).moved < x.count ∧ b.length = 272 ∧ 272 ≤ smGet 0 s.host.credit sag.val ∧ 272 ≤ smGet 0 s.host.credit (64 + x.tile)) ({ base.setRing 2 { RingSt.idle with desc := some ⟨1, 2, 0, 0, 0, 0, 0, 1⟩ } with host := { (base.setRing 2 { RingSt.idle with desc := some ⟨1, 2, 0, 0, 0, 0, 0, 1⟩ }).host with credit := [(0, 1000), (64, 1000)] } }) (0) (2) ([]) (List.replicate 272 7) (⟨1, 2, 0, 0, 0, 0, 0, 1⟩) := by decide

theorem wit_Descriptors_5 : (fun (s : State) (sag : Fin 16) (r : Fin 4) (d b : List Byte) => s.ringReady (4 * sag.val + r.val) = true ∧ (d.map (·.toNat)).getD 0 0 = 2 ∧ b.length = 272 ∧ s.descCode sag.val (descOf (d.map (·.toNat))) (d.map (·.toNat)) = 0 ∧ 272 ≤ smGet 0 s.host.credit sag.val ∧ 272 ≤ smGet 0 s.host.credit (64 + (descOf (d.map (·.toNat))).tile)) ({ ((base.wr R.HOST_DMA_CFG.EN 2 1).wr R.HOST_DMA_TAIL.TAIL 2 1).wr R.SEG_STORE_CFG.RING_BASE 0 64 with host := { base.host with credit := [(0, 1000), (64, 1000)] } }) (0) (2) ([2] ++ List.replicate 19 0 ++ [1, 0, 0, 0] ++ List.replicate 8 0) (List.replicate 272 7) := by decide

theorem wit_Descriptors_6 : (fun (s : State) (sag : Fin 16) (r : Fin 4) (d : List Byte) => s.ringReady (4 * sag.val + r.val) = true ∧ (d.map (·.toNat)).getD 0 0 = 2) ((base.wr R.HOST_DMA_CFG.EN 2 1).wr R.HOST_DMA_TAIL.TAIL 2 1) (0) (2) ([2] ++ List.replicate 19 0 ++ [1, 0, 0, 0] ++ List.replicate 8 0) := by decide

theorem wit_Descriptors_7 : (fun (s : State) (sag : Fin 16) (r : Fin 4) (d b : List Byte) (x : Desc) => (s.ring (4 * sag.val + r.val)).desc = some x ∧ x.op = 2 ∧ (s.ring (4 * sag.val + r.val)).code = 0 ∧ (s.ring (4 * sag.val + r.val)).moved < x.count ∧ b.length = 272 ∧ 272 ≤ smGet 0 s.host.credit sag.val ∧ 272 ≤ smGet 0 s.host.credit (64 + x.tile)) ({ base.setRing 2 { RingSt.idle with desc := some ⟨2, 0, 0, 0, 0, 0, 0, 1⟩ } with host := { (base.setRing 2 { RingSt.idle with desc := some ⟨2, 0, 0, 0, 0, 0, 0, 1⟩ }).host with credit := [(0, 1000), (64, 1000)] } }) (0) (2) ([]) (List.replicate 272 7) (⟨2, 0, 0, 0, 0, 0, 0, 1⟩) := by decide

theorem wit_Descriptors_8 : (fun (s : State) (sag : Fin 16) (r : Fin 4) (d : List Byte) => s.ringReady (4 * sag.val + r.val) = true ∧ (d.map (·.toNat)).getD 0 0 = 3 ∧ s.descCode sag.val (descOf (d.map (·.toNat))) (d.map (·.toNat)) = 0 ∧ (descOf (d.map (·.toNat))).count ≤ 4096 ∧ s.regionBusy (capRegion ((descOf (d.map (·.toNat))).devAddr / 8)) = false ∧ s.regionBusy (capRegion (((descOf (d.map (·.toNat))).devAddr + (descOf (d.map (·.toNat))).count - 1) / 8)) = false ∧ ((∀ j, j < 512 → smGet 0 s.capEcc ((descOf (d.map (·.toNat))).devAddr / 8 + j) ≠ 2))) ({ ((base.wr R.HOST_DMA_CFG.EN 2 1).wr R.HOST_DMA_TAIL.TAIL 2 1).wr R.SAG_BLK_OWNER.ALLOTTED 0 1 with cap := [(3, 77)] }) (0) (2) ([3] ++ List.replicate 19 0 ++ [64, 0, 0, 0] ++ List.replicate 8 0) := by decide

theorem wit_Descriptors_9 : (fun (s : State) (sag : Fin 16) (r : Fin 4) (d : List Byte) => s.ringReady (4 * sag.val + r.val) = true ∧ (d.map (·.toNat)).getD 0 0 = 3 ∧ ((s.descCode sag.val (descOf (d.map (·.toNat))) (d.map (·.toNat)) ≠ 0 ∨ s.regionBusy (capRegion ((descOf (d.map (·.toNat))).devAddr / 8)) = true))) ((base.wr R.HOST_DMA_CFG.EN 2 1).wr R.HOST_DMA_TAIL.TAIL 2 1) (0) (2) ([3] ++ List.replicate 19 0 ++ [64, 0, 0, 0] ++ List.replicate 8 0) := by decide

theorem wit_Descriptors_9_2 : (fun (s : State) (sag : Fin 16) (r : Fin 4) (d : List Byte) => s.ringReady (4 * sag.val + r.val) = true ∧ (d.map (·.toNat)).getD 0 0 = 3 ∧ ((s.descCode sag.val (descOf (d.map (·.toNat))) (d.map (·.toNat)) ≠ 0 ∨ s.regionBusy (capRegion ((descOf (d.map (·.toNat))).devAddr / 8)) = true))) (((base.wr R.HOST_DMA_CFG.EN 2 1).wr R.HOST_DMA_TAIL.TAIL 2 1).setPlay 0 { PlaySt.idle with log := [[]] }) (0) (2) ([3] ++ List.replicate 19 0 ++ [64, 0, 0, 0] ++ List.replicate 8 0) := by decide

theorem wit_DescriptorEnds_1 : (fun (s : State) (sag : Fin 16) (r : Fin 4) (d : Desc) => (s.ring (4 * sag.val + r.val)).desc = some d ∧ (s.ring (4 * sag.val + r.val)).finished = true ∧ s.refillBefore (4 * sag.val + r.val) = false) ((base.setRing 2 { RingSt.idle with desc := some ⟨0, 1, 0, 0, 0, 0, 0, 0⟩, addr := 4096 }).wr R.HOST_DMA_CFG.SIZE_LOG2 2 4) (0) (2) (⟨0, 1, 0, 0, 0, 0, 0, 0⟩) := by decide

theorem wit_DescriptorEnds_2 : (fun (s : State) (sag : Fin 16) (r : Fin 4) => (((s.ring (4 * sag.val + r.val)).finished = false ∨ s.refillBefore (4 * sag.val + r.val) = true))) (base) (0) (2) := by decide

theorem wit_DescriptorEnds_3 : (fun (s : State) (sag : Fin 16) (r : Fin 4) (to' : Bool) => (((s.ring (4 * sag.val + r.val)).desc.isSome = true ∨ s.ringReady (4 * sag.val + r.val) = true))) (base.setRing 2 { RingSt.idle with desc := some ⟨0, 1, 0, 0, 0, 0, 0, 0⟩, addr := 4096 }) (0) (2) (true) := by decide

theorem wit_DescriptorEnds_3_2 : (fun (s : State) (sag : Fin 16) (r : Fin 4) (to' : Bool) => (((s.ring (4 * sag.val + r.val)).desc.isSome = true ∨ s.ringReady (4 * sag.val + r.val) = true))) ((base.wr R.HOST_DMA_CFG.EN 2 1).wr R.HOST_DMA_TAIL.TAIL 2 1) (0) (2) (false) := by decide

theorem wit_ServicePortFrames_1 : (fun (s : State) (bytes : List Byte) => s.spiBusy = false ∧ 8 ≤ bytes.length ∧ bytes.length ≤ 260 ∧ bytes.length % 4 = 0 ∧ beVal ((bytes.map BitVec.toNat).take 4) % 4 = 0) (base) ([0, 3, 0, 4, 1, 2, 3, 4, 5, 6, 7, 8]) := by decide

theorem wit_ServicePortFrames_2 : (fun (s : State) (a w : Word) => s.spiBusy = false ∧ a.toNat % 4 = 0 ∧ spiPast a.toNat a.toNat = false) (base) (0x30004) (0x12345678) := by decide

theorem wit_ServicePortFrames_3 : (fun (s : State) (bytes : List Byte) (x : Fin 8) (c : Nat) => s.spiBusy = false ∧ spiCause (bytes.length < 4) ((bytes.length - 4) % 4 ≠ 0 || x.val ≠ 0) (beVal ((bytes.map BitVec.toNat).take 4) % 4 ≠ 0) (decide (bytes.length - 4 > 256)) = c ∧ c ≠ 0) (base) ([0, 0, 0]) (0) (2) := by decide

theorem wit_ServicePortFrames_3_2 : (fun (s : State) (bytes : List Byte) (x : Fin 8) (c : Nat) => s.spiBusy = false ∧ spiCause (bytes.length < 4) ((bytes.length - 4) % 4 ≠ 0 || x.val ≠ 0) (beVal ((bytes.map BitVec.toNat).take 4) % 4 ≠ 0) (decide (bytes.length - 4 > 256)) = c ∧ c ≠ 0) (base) ([0, 0, 0, 1, 2, 3, 4, 5]) (0) (4) := by decide

theorem wit_ServicePortFrames_4 : (fun (s : State) (w : Word) (past : Bool) => s.spi.commit = some [(0x2000010, w.toNat)] ∧ s.spi.overrun = past ∧ decodeOffset 0x2000010 = some (.SPIS_SCRATCH, 0)) ({ base with spi := ⟨some [(0x2000010, 77)], false⟩ }) (77) (false) := by decide

theorem wit_ServicePortFrames_5 : (fun (s : State) (a w : Nat) => s.spi.commit = some [(a, w)] ∧ 0x2000000 ≤ a ∧ ((decodeOffset a).any fun x => s.mayWrite .spi x.1 x.2) = false) ({ base with spi := ⟨some [(0x3000000, 77)], false⟩ }) (0x3000000) (77) := by decide

theorem wit_ServicePortFrames_6 : (fun (s : State) (l : List (Nat × Nat)) => s.spi.commit = some l) ({ base with spi := ⟨some [(0x2000010, 77)], true⟩ }) ([(0x2000010, 77)]) := by decide

theorem wit_ServicePortFrames_7 : (fun (s : State) => s.spi.commit = none) (base) := by decide

theorem wit_ServicePortFrames_8 : (fun (s : State) (bytes : List Byte) (a : Nat) => s.spiBusy = false ∧ bytes.length = 4 ∧ beVal ((bytes.map BitVec.toNat).take 4) = a ∧ a % 4 = 0 ∧ a < 0x2000400 ∧ ((0x2000000 ≤ a ∨ s.alive = true)) ∧ spiPast a a = false) (base) ([0x02, 0x00, 0x00, 0x10]) (0x2000010) := by decide

theorem wit_ServicePortFrames_8_2 : (fun (s : State) (bytes : List Byte) (a : Nat) => s.spiBusy = false ∧ bytes.length = 4 ∧ beVal ((bytes.map BitVec.toNat).take 4) = a ∧ a % 4 = 0 ∧ a < 0x2000400 ∧ ((0x2000000 ≤ a ∨ s.alive = true)) ∧ spiPast a a = false) (base) ([0, 0, 0, 0]) (0) := by decide

theorem wit_ServicePortFrames_9 : (fun (s : State) (bytes : List Byte) => s.spiBusy = false ∧ bytes.length = 4 ∧ beVal ((bytes.map BitVec.toNat).take 4) % 4 = 0 ∧ beVal ((bytes.map BitVec.toNat).take 4) < 0x2000000 ∧ s.alive = false ∧ spiPast (beVal ((bytes.map BitVec.toNat).take 4)) (beVal ((bytes.map BitVec.toNat).take 4)) = false) ({ base with m := { base.m with trip := true } }) ([0, 0, 0, 0]) := by decide

theorem wit_ServicePortFrames_10 : (fun (s : State) (bytes : List Byte) (len : Nat) (x : Fin 8) (c : Nat) => s.spiBusy = false ∧ spiCause (bytes.length < 4) (len % 4 ≠ 0 || x.val ≠ 0) (beVal ((bytes.map BitVec.toNat).take 4) % 4 ≠ 0) (decide (64 < len / 4)) = c ∧ c ≠ 0) (base) ([0, 0, 0]) (4) (0) (2) := by decide

theorem wit_ServicePortFrames_10_2 : (fun (s : State) (bytes : List Byte) (len : Nat) (x : Fin 8) (c : Nat) => s.spiBusy = false ∧ spiCause (bytes.length < 4) (len % 4 ≠ 0 || x.val ≠ 0) (beVal ((bytes.map BitVec.toNat).take 4) % 4 ≠ 0) (decide (64 < len / 4)) = c ∧ c ≠ 0) (base) ([0, 0, 0, 1]) (4) (0) (4) := by decide

theorem wit_ServicePortFrames_11 : (fun (s : State) => s.spiBusy = false) (base) := by decide

theorem wit_ServicePortFrames_12 : (fun (s : State) (c : Byte) => s.spiBusy = false ∧ c ∉ [2, 3, 5]) (base) (9) := by decide

theorem wit_ServicePortFrames_13 : (fun (s : State) (n : Fin 8) => s.spiBusy = false) (base) (3) := by decide

theorem wit_ServicePortFrames_14 : (fun (s : State) (bytes : List Byte) (x : Fin 8) => s.spiBusy = true) ({ base with spi := ⟨some [(0x2000010, 77)], false⟩ }) ([1, 2, 3]) (0) := by decide

theorem wit_ServicePortFrames_15 : (fun (s : State) (bytes : List Byte) (len : Nat) (x n : Fin 8) (b : Byte) => s.spiBusy = true) ({ base with spi := ⟨some [(0x2000010, 77)], false⟩ }) ([1, 2, 3]) (4) (0) (3) (9) := by decide

theorem wit_LaneComparators_1 : (fun (s : State) (l : Fin 1024) (ball : Int) => s.laneOn l.val = true ∧ s.laneUsed l.val = true ∧ s.leff R.LANE_CTL.CMP_EN l.val ≠ 0 ∧ (s.lane l.val).unsetH = false ∧ (s.lane l.val).unsetL = false) (ran.wr R.LANE_CTL.CMP_EN 5 1) (5) (900000) := by decide

theorem wit_LaneComparators_1_2 : (fun (s : State) (l : Fin 1024) (ball : Int) => s.laneOn l.val = true ∧ s.laneUsed l.val = true ∧ s.leff R.LANE_CTL.CMP_EN l.val ≠ 0 ∧ (s.lane l.val).unsetH = false ∧ (s.lane l.val).unsetL = false) (ran.wr R.LANE_CTL.CMP_EN 5 1) (5) (-900000) := by decide

theorem wit_LaneComparators_2 : (fun (s : State) (l : Fin 1024) => s.laneOn l.val = true ∧ s.laneUsed l.val = true ∧ s.leff R.LANE_CTL.CMP_EN l.val = 0) (ran.wr R.LANE_CTL.CMP_EN 5 0) (5) := by decide

theorem wit_LaneComparators_3 : (fun (s : State) (l : Fin 1024) => s.laneOn l.val = true ∧ s.laneUsed l.val = true ∧ s.leff R.LANE_CTL.CMP_EN l.val ≠ 0 ∧ (s.lane l.val).unsetH = false ∧ (s.lane l.val).unsetL = false ∧ (s.lane l.val).ball * 65536 > s.levelUv l.val 3 + hystUv (s.leff R.LANE_CMP_CTL.HYST_H l.val) * 32768 ∧ s.leff R.LANE_MON_CTL.COND l.val = 1 ∧ s.leff R.LANE_MON_CTL.FILTER l.val = 0 ∧ s.leff R.LANE_MON_CTL.LATCH_MODE l.val = 1 ∧ s.fl R.LANE_MON.LATCH l.val = false) (((((ran.wr R.LANE_CTL.CMP_EN 5 1).wr R.LANE_MON_CTL.COND 5 1).wr R.LANE_MON_CTL.LATCH_MODE 5 1).wr R.LANE_MON_CTL.FILTER 5 0).setLane 5 { LaneSt.idle with ball := 3000000 }) (5) := by decide

theorem wit_LaneFaults_1 : (fun (s : State) (l : Fin 1024) => s.driver l.val ≠ 0 ∧ s.fl R.LANE_STATUS.DRV_TRIP l.val = false) ((ran.setLane 5 { LaneSt.idle with drv := 2 }).setPlay 0 { PlaySt.idle with playing := true }) (5) := by decide

theorem wit_LaneFaults_2 : (fun (s : State) (rq : Req) (l : Fin 1024) (w : Word) => s.canWrite rq .LANE_STATUS l.val ∧ (s.play (l.val / 64)).playing = false) ((ran.setLane 5 { LaneSt.idle with tripOff := true }).wr R.LANE_STATUS.DRV_TRIP 5 1) (.fn 0) (5) (0) := by decide

theorem wit_LaneFaults_3 : (fun (s : State) (l : Fin 1024) => s.clamping l.val = true ∧ s.fl R.LANE_STATUS.CLAMP_HIT l.val = false) (ran.wr R.LANE_CTL.CLAMP_EN 5 1) (5) := by decide

theorem wit_LaneFaults_4 : (fun (s : State) (l : Fin 1024) => bitAt (s.rd R.OCT_PPMU_COMPL.IN_COMPL (l.val / 8)) (l.val % 8) = false ∧ bitAt (s.rd R.OCT_PPMU_COMPL.COMPL_HIT (l.val / 8)) (l.val % 8) = false) (ran) (5) := by decide

theorem wit_FrontEndHandover_1 : (fun (s : State) (rq : Req) (l : Fin 1024) (w : Word) => s.canWrite rq .LANE_FE l.val ∧ s.sagOf rq = some 0 ∧ s.m.mode = .service ∧ bitAt (s.rd R.LANE_FE.RETIRED l.val) (1 - s.rd R.LANE_FE.ACTIVE_FE l.val) = false ∧ (s.lane l.val).handover = none) ({ ran with m := { ran.m with mode := .service } }) (.fn 0) (5) (0) := by decide

theorem wit_FrontEndHandover_2 : (fun (s : State) (f : Fin 64) (l : Fin 1024) (w : Word) => s.canWrite (.fn f) .LANE_FE l.val ∧ s.m.mode ≠ .service) (ran) (0) (5) (0) := by decide

theorem wit_FrontEndHandover_3 : (fun (s : State) (l : Fin 1024) (h : Handover) => (s.lane l.val).handover = some h ∧ h.started = false ∧ s.handoverOk l.val = true ∧ s.feStep l.val = false ∧ ((h.why ≠ 1 ∨ (s.play (l.val / 64)).playing = false ∨ (s.play (l.val / 64)).gapOk = true))) ({ ran.setLane 5 { LaneSt.idle with handover := some ⟨0, false, 0, false⟩ } with m := { ran.m with mode := .service } }) (5) (⟨0, false, 0, false⟩) := by decide

theorem wit_FrontEndHandover_4 : (fun (s : State) (l : Fin 1024) (h : Handover) => (s.lane l.val).handover = some h ∧ h.started = true ∧ (s.spare.waiting.find? fun w => w.key = l.val + 65536 * (1 - (if h.swapped then s.rd R.LANE_FE.ACTIVE_FE l.val else 1 - s.rd R.LANE_FE.ACTIVE_FE l.val))) = none) (ran.setLane 5 { LaneSt.idle with handover := some ⟨0, true, 0, false⟩ }) (5) (⟨0, true, 0, false⟩) := by decide

theorem wit_MatrixConnections_1 : (fun (s : State) (rq : Req) (l : Fin 1024) (w : Word) => s.canWrite rq .LANE_PPMU_CTL l.val ∧ s.laneUsed l.val = true ∧ bitAt (s.rd R.OCT_MATRIX.LANE_SEL (l.val / 8)) (l.val % 8) = false) (ran) (.fn 0) (5) (0x3F) := by decide

theorem wit_MatrixConnections_2 : (fun (s : State) (f : Fin 64) (l : Fin 1024) (w : Word) => s.canWrite (.fn f) .LANE_PPMU_CTL l.val ∧ s.laneUsed l.val = true ∧ bitAt (s.rd R.OCT_MATRIX.LANE_SEL (l.val / 8)) (l.val % 8) = true ∧ R.LANE_PPMU_CTL.CONNECT.part w.toNat = 1) (ran.wr R.OCT_MATRIX.LANE_SEL 0 0x20) (0) (5) (0x3F) := by decide

theorem wit_MatrixConnections_3 : (fun (s : State) (rq : Req) (o : Fin 128) (w : Word) => s.canWrite rq .OCT_MATRIX o.val ∧ s.rd R.OCT_STATUS.SMU_SOURCE o.val = 0 ∧ ((∀ j, j < 8 → bitAt (R.OCT_MATRIX.LANE_SEL.part w.toNat) j = true → s.laneUsed (8 * o.val + j) = true ∧ s.fl R.LANE_PPMU_CTL.CONNECT (8 * o.val + j) = false ∧ (s.rd R.SMU_CTL.FMODE o.val ≠ 0 ∨ s.smuCodeOkFor (s.rd R.SMU_FORCE_CFG.SPAN o.val) (s.rd R.SMU_FORCE_CODE.CODE o.val) (8 * o.val + j) = true)))) (ran.wr R.SMU_CTL.FMODE 0 1) (.fn 0) (0) (0x122) := by decide

theorem wit_MatrixConnections_4 : (fun (s : State) (rq : Req) (o : Fin 128) (w : Word) (j : Nat) => s.canWrite rq .OCT_MATRIX o.val ∧ s.rd R.OCT_STATUS.SMU_SOURCE o.val ≠ 3 ∧ j < 8 ∧ bitAt (R.OCT_MATRIX.LANE_SEL.part w.toNat) j = true ∧ s.fl R.LANE_PPMU_CTL.CONNECT (8 * o.val + j) = true) (ran.wr R.LANE_PPMU_CTL.CONNECT 1 1) (.fn 0) (0) (0x22) (1) := by decide

theorem wit_UpdateAll_1 : (fun (s : State) (rq : Req) (o : Fin 128) (w : Word) (k : Nat) => s.canWrite rq .OCT_LVL_UPDATE o.val ∧ R.OCT_LVL_UPDATE.ALL_OWNED.part w.toNat = 0) (ran.wr R.SMU_FORCE_CODE.CODE 0 77) (.fn 0) (0) (0) (10000) := by decide

theorem wit_UpdateAll_1_2 : (fun (s : State) (rq : Req) (o : Fin 128) (w : Word) (k : Nat) => s.canWrite rq .OCT_LVL_UPDATE o.val ∧ R.OCT_LVL_UPDATE.ALL_OWNED.part w.toNat = 0) (ran) (.fn 0) (0) (0) (10001) := by decide

theorem wit_UpdateAll_2 : (fun (s : State) (rq : Req) (o : Fin 128) (w : Word) (k sag : Nat) => s.canWrite rq .OCT_LVL_UPDATE o.val ∧ R.OCT_LVL_UPDATE.ALL_OWNED.part w.toNat = 1 ∧ s.sagOf rq = some sag) ({ ran.wr R.SMU_FORCE_CODE.CODE 3 77 with image := some { img with octOwner := [0, 255, 255, 0] ++ List.replicate 124 255, dpsOwner := [] } }) (.fn 0) (0) (2) (10003) (0) := by decide

theorem wit_UpdateAll_2_2 : (fun (s : State) (rq : Req) (o : Fin 128) (w : Word) (k sag : Nat) => s.canWrite rq .OCT_LVL_UPDATE o.val ∧ R.OCT_LVL_UPDATE.ALL_OWNED.part w.toNat = 1 ∧ s.sagOf rq = some sag) ({ ran.wr R.SMU_FORCE_CODE.CODE 3 77 with image := some { img with octOwner := [0, 255, 255, 0] ++ List.replicate 124 255, dpsOwner := [] } }) (.fn 0) (0) (2) (10001) (0) := by decide

theorem wit_DacUpdates_1 : (fun (s : State) (k : Nat) => k < 11000 ∧ (s.dac k).due = false ∧ (s.dac k).range = false ∧ (s.dac k).clamped = false ∧ (s.dac k).fresh = false ∧ (s.dac k).present ≠ (s.dac k).target ∧ (s.dacSlew k).1 ≠ 0 ∧ (s.dacSlew k).2 ≤ (s.dac k).count + 1) ((ran.setDac 10003 { DacSt.idle with present := 500, target := 100 }).wr R.SMU_FORCE_SLEW.STEP 3 16) (10003) := by decide

theorem wit_DacUpdates_2 : (fun (s : State) (k : Nat) => k < 11000 ∧ (s.dac k).range = true) (ran.setDac 10003 { DacSt.idle with present := 500, target := 100, range := true }) (10003) := by decide

theorem wit_DacUpdates_3 : (fun (s : State) (k : Nat) => (s.dac k).clamped = true ∧ s.fl R.DEV_MODE.FIRST_RUN 0 = true ∧ (s.dacSlew k).1 ≠ 0) ((ran.setDac 10003 { DacSt.idle with present := 500, target := 100, clamped := true }).wr R.SMU_FORCE_SLEW.STEP 3 16) (10003) := by decide

theorem wit_TimingSets_1 : (fun (s : State) (rq : Req) (t' : Fin 16) (w : Word) => s.canWrite rq .TS_COMMIT t'.val ∧ s.rd R.TS_COMMIT.STATUS t'.val ≠ 1) (ran) (.fn 0) (2) (5) := by decide

theorem wit_TimingSets_2 : (fun (s : State) (f : Fin 64) (t' : Fin 16) (w : Word) => s.canWrite (.fn f) .TS_COMMIT t'.val ∧ s.rd R.TS_COMMIT.STATUS t'.val = 1) (ran.wr R.TS_COMMIT.STATUS 2 1) (0) (2) (5) := by decide

theorem wit_TimingSets_3 : (fun (s : State) (f : Fin 64) (t' : Fin 16) (w : Word) => s.canWrite (.fn f) .TS_COMMIT t'.val ∧ s.rd R.TS_COMMIT.STATUS t'.val = 1) (ran.wr R.TS_COMMIT.STATUS 2 1) (0) (2) (5) := by decide

theorem wit_TimingSets_4 : (fun (s : State) (t' : Fin 16) => s.rd R.TS_COMMIT.STATUS t'.val ≠ 1) (ran) (2) := by decide

theorem wit_TimingSets_5 : (fun (s : State) (t' : Fin 16) (n tip : Nat) => s.rd R.TS_COMMIT.STATUS t'.val = 1 ∧ (s.play t'.val).commit = (n, tip) ∧ (s.setCheck t'.val (decide (tip = 1))).1 = 0) (((ran.wr R.TS_COMMIT.STATUS 2 1).wr R.TS_STAGE_PERIOD.COARSE 2 100).setPlay 2 { PlaySt.idle with commit := (5, 0) }) (2) (5) (0) := by decide

theorem wit_TimingSets_6 : (fun (s : State) (t' : Fin 16) (n tip c d : Nat) => s.rd R.TS_COMMIT.STATUS t'.val = 1 ∧ (s.play t'.val).commit = (n, tip) ∧ s.setCheck t'.val (decide (tip = 1)) = (c, d) ∧ c ≠ 0) (((ran.wr R.TS_COMMIT.STATUS 2 1).wr R.TS_STAGE_PERIOD.COARSE 2 7).setPlay 2 { PlaySt.idle with commit := (5, 0) }) (2) (5) (0) (1) (0) := by decide

theorem wit_TimingSets_7 : (fun (s : State) (rq : Req) (t' : Fin 16) (w : Word) (n : Nat) => s.canWrite rq .TS_COMMIT t'.val ∧ s.rd R.TS_COMMIT.STATUS t'.val ≠ 1 ∧ R.TS_COMMIT.COMMIT.part w.toNat = 0 ∧ R.TS_COMMIT.SET.part w.toNat = n) (ran.setPlay 2 { PlaySt.idle with sets := [(5 * 1024 + 6, 35), (5 * 1024 + 512, 5000)] }) (.fn 0) (2) (5) (5) := by decide

theorem wit_TimingSets_8 : (fun (s : State) (rq : Req) (t' : Fin 16) (k : Fin 8) (w : Word) => s.canWrite rq .TS_NCO_FTW_HI (8 * t'.val + k.val)) (ran.setPlay 2 { PlaySt.idle with ncos := [(3, { NcoSt.idle with stagedLo := 77 })] }) (.fn 0) (2) (3) (5) := by decide

theorem wit_StoreWritesAndReads_1 : (fun (s : State) (rq : Req) (off : Nat) (bytes : List Byte) (a : Nat) => s.reachable rq = true ∧ s.m.mode ≠ .legacy ∧ off + bytes.length ≤ 0x0C000000 ∧ ((∀ b, off ≤ b → b < off + bytes.length → s.sliceMay rq (b / 0xC00000) true = true ∧ s.vecEcc b ≠ 2)) ∧ a < 0x0C000000) (ran) (.fn 0) (13) ([1, 2, 3, 4, 5]) (16) := by decide

theorem wit_StoreWritesAndReads_1_2 : (fun (s : State) (rq : Req) (off : Nat) (bytes : List Byte) (a : Nat) => s.reachable rq = true ∧ s.m.mode ≠ .legacy ∧ off + bytes.length ≤ 0x0C000000 ∧ ((∀ b, off ≤ b → b < off + bytes.length → s.sliceMay rq (b / 0xC00000) true = true ∧ s.vecEcc b ≠ 2)) ∧ a < 0x0C000000) (ran) (.fn 0) (13) ([1, 2, 3, 4, 5]) (12) := by decide

theorem wit_StoreWritesAndReads_2 : (fun (s : State) (f : Fin 64) (off : Nat) (bytes : List Byte) => s.reachable (.fn f) = true ∧ s.m.mode ≠ .legacy ∧ bytes ≠ [] ∧ off + bytes.length ≤ 0x0C000000 ∧ ((∀ b, off / 8 * 8 ≤ b → b < off + bytes.length → s.sliceMay (.fn f) (b / 0xC00000) true = false))) (ran) (32) (13) ([1, 2, 3, 4, 5]) := by decide

theorem wit_StoreWritesAndReads_3 : (fun (s : State) (rq : Req) (off : Nat) (bytes : List Byte) (a : Nat) => s.reachable rq = true ∧ s.m.mode ≠ .legacy ∧ 0x0C000000 ≤ off ∧ off + bytes.length ≤ 0x0F000000 ∧ ((∀ b, off ≤ b → b < off + bytes.length → s.capMay rq ((b - 0x0C000000) / 65536) true = true ∧ smGet 0 s.capEcc ((b - 0x0C000000) / 8) ≠ 2))) (ran.wr R.SAG_BLK_OWNER.ALLOTTED 0 1) (.fn 0) (0x0C00000D) ([1, 2, 3, 4, 5]) (16) := by decide

theorem wit_StoreWritesAndReads_4 : (fun (s : State) (rq : Req) (off len : Nat) => s.reachable rq = true ∧ s.m.mode ≠ .legacy ∧ off + len ≤ 0x0C000000 ∧ ((∀ b, off / 8 * 8 ≤ b → b < off + len → s.sliceMay rq (b / 0xC00000) false = true ∧ s.vecEcc b = 0))) (ran.setStore 0 { StoreSt.idle with words := [(1, 0x0807060504030201)] }) (.fn 0) (13) (5) := by decide

theorem wit_StoreWritesAndReads_5 : (fun (s : State) (rq : Req) (off len : Nat) => s.reachable rq = true ∧ s.m.mode ≠ .legacy ∧ 0x0C000000 ≤ off ∧ off + len ≤ 0x0F000000 ∧ ((∀ b, off ≤ b → b < off + len → s.capMay rq ((b - 0x0C000000) / 65536) false = true ∧ smGet 0 s.capEcc ((b - 0x0C000000) / 8) = 0))) (ran) (.fn 0) (0x0C00000D) (5) := by decide

theorem wit_StoreWritesAndReads_6 : (fun (s : State) (f : Fin 64) (off : Nat) (bytes : List Byte) => s.reachable (.fn f) = true ∧ s.m.mode ≠ .legacy ∧ bytes ≠ [] ∧ 0x0C000000 ≤ off ∧ off + bytes.length ≤ 0x0F000000 ∧ ((∀ b, off ≤ b → b < off + bytes.length → s.capMay (.fn f) ((b - 0x0C000000) / 65536) true = false))) (ran) (32) (0x0C00000D) ([1, 2, 3, 4, 5]) := by decide

theorem wit_StoreWritesAndReads_7 : (fun (s : State) (f : Fin 64) (off : Nat) => s.reachable (.fn f) = true ∧ s.m.mode ≠ .legacy ∧ off < 0x0C000000 ∧ s.sliceMay (.fn f) (off / 0xC00000) false = true ∧ s.vecEcc off = 2) (ran.setStore 0 { StoreSt.idle with ecc := [(2, 2)] }) (0) (16) := by decide

theorem wit_StoreWritesAndReads_8 : (fun (s : State) (rq : Req) (off : Nat) => s.reachable rq = true ∧ s.m.mode ≠ .legacy ∧ ((if off < 0x0C000000 then s.sliceMay rq (off / 0xC00000) false = false else 0x0F000000 ≤ off ∨ s.capMay rq ((off - 0x0C000000) / 65536) false = false))) (ran) (.fn 32) (16) := by decide

theorem wit_StoreWritesAndReads_8_2 : (fun (s : State) (rq : Req) (off : Nat) => s.reachable rq = true ∧ s.m.mode ≠ .legacy ∧ ((if off < 0x0C000000 then s.sliceMay rq (off / 0xC00000) false = false else 0x0F000000 ≤ off ∨ s.capMay rq ((off - 0x0C000000) / 65536) false = false))) (ran) (.fn 0) (0x0F000000) := by decide

theorem wit_StoreControl_1 : (fun (s : State) (rq : Req) (t' : Fin 16) (w : Word) => s.canWrite rq .SEG_CTLW_DATA t'.val ∧ s.rd R.SEG_CTLW_ADDR.ROW t'.val < 393216) (ran.wr R.SEG_CTLW_ADDR.ROW 2 8) (.fn 0) (2) (0x12345678) := by decide

theorem wit_StoreControl_2 : (fun (s : State) (rq : Req) (t' : Fin 16) (w : Word) => s.canWrite rq .SEG_CTLW_DATA t'.val ∧ s.rd R.SEG_CTLW_ADDR.ROW t'.val < 393216) (ran.wr R.SEG_CTLW_ADDR.ROW 2 8) (.fn 0) (2) (0x12345678) := by decide

theorem wit_StoreControl_3 : (fun (s : State) (f : Fin 64) (t' : Fin 16) (w : Word) => s.canWrite (.fn f) .SEG_CTLW_DATA t'.val ∧ 393216 ≤ s.rd R.SEG_CTLW_ADDR.ROW t'.val) (ran.wr R.SEG_CTLW_ADDR.ROW 2 393216) (0) (2) (0x12345678) := by decide

theorem wit_StoreControl_4 : (fun (s : State) (rq : Req) (t' : Fin 16) (w : Word) => s.canWrite rq .SEG_STORE_CFG t'.val ∧ (s.play t'.val).playing = false ∧ R.SEG_STORE_CFG.RING_BASE.part w.toNat ≤ 384 ∧ R.SEG_STORE_CFG.RING_BASE.part w.toNat ≠ s.rd R.SEG_STORE_CFG.RING_BASE t'.val) ((ran.wr R.SEQ_LOAD.VALID 2 1).wr R.SEG_SLOT.READY 513 1) (.fn 0) (2) (256) := by decide

theorem wit_StoreControl_5 : (fun (s : State) (f : Fin 64) (t' : Fin 16) (w : Word) => s.canWrite (.fn f) .SEG_STORE_CFG t'.val ∧ (((s.play t'.val).playing = true ∨ 384 < R.SEG_STORE_CFG.RING_BASE.part w.toNat)) ∧ R.SEG_STORE_CFG.RING_BASE.part w.toNat ≠ s.rd R.SEG_STORE_CFG.RING_BASE t'.val) (ran) (0) (2) (400) := by decide

theorem wit_StoreControl_6 : (fun (s : State) (rq : Req) (t' : Fin 16) => s.canWrite rq .SEG_RING_CTL t'.val ∧ (s.play t'.val).playing = false) (ran.wr R.SEG_SLOT.READY 513 1) (.fn 0) (2) := by decide

theorem wit_StoreControl_7 : (fun (s : State) (rq : Req) (t' : Fin 16) (w : Word) => s.canWrite rq .SEG_RING_CFG t'.val ∧ (s.play t'.val).playing = false ∧ max (R.SEG_RING_CFG.SLOT_SIZE.part w.toNat) 1 ≠ s.slotSize t'.val) (ran.wr R.SEG_SLOT.READY 513 1) (.fn 0) (2) (0x30008) := by decide

theorem wit_StoreControl_8 : (fun (s : State) (rq : Req) (t' : Fin 16) (w : Word) => s.canWrite rq .SEG_STORE_CFG t'.val ∧ R.SEG_STORE_CFG.RING_BASE.part w.toNat = s.rd R.SEG_STORE_CFG.RING_BASE t'.val) (ran.wr R.SEG_STORE_CFG.RING_BASE 2 256) (.fn 0) (2) (0x10100) := by decide

theorem wit_StoreControl_9 : (fun (s : State) (rq : Req) (t' : Fin 16) (w : Word) => s.canWrite rq .SEG_RING_CFG t'.val ∧ max (R.SEG_RING_CFG.SLOT_SIZE.part w.toNat) 1 = s.slotSize t'.val) (ran) (.fn 0) (2) (0x30001) := by decide

theorem wit_StoreControl_10 : (fun (s : State) (f : Fin 64) (t' : Fin 16) (w : Word) => s.canWrite (.fn f) .SEG_RING_CFG t'.val ∧ (s.play t'.val).playing = true ∧ max (R.SEG_RING_CFG.SLOT_SIZE.part w.toNat) 1 ≠ s.slotSize t'.val) (ran.setPlay 2 { PlaySt.idle with playing := true }) (0) (2) (0x30008) := by decide

theorem wit_StoreControl_11 : (fun (s : State) (f : Fin 64) (t' : Fin 16) => s.canWrite (.fn f) .SEG_RING_CTL t'.val ∧ (s.play t'.val).playing = true) (ran.setPlay 2 { PlaySt.idle with playing := true }) (0) (2) := by decide

theorem wit_StoreControl_12 : (fun (s : State) (f : Fin 64) (t' : Fin 16) (n : Fin 256) (w : Word) => s.canWrite (.fn f) .SEG_SLOT (256 * t'.val + n.val) ∧ ((s.slotCount t'.val ≤ n.val ∨ s.fl R.SEG_SLOT.PLAYING (256 * t'.val + n.val) = true))) (ran.wr R.SEG_SLOT.PLAYING 515 1) (0) (2) (3) (0xFFFF0001) := by decide

theorem wit_StoreControl_13 : (fun (s : State) (rq : Req) (t' : Fin 16) (n : Fin 256) (w : Word) => s.canWrite rq .SEG_SLOT (256 * t'.val + n.val) ∧ n.val < s.slotCount t'.val ∧ s.fl R.SEG_SLOT.PLAYING (256 * t'.val + n.val) = false) (ran.wr R.SEG_STORE_CFG.RING_BASE 2 256) (.fn 0) (2) (3) (0xFFFF0001) := by decide

theorem wit_StoreControl_14 : (fun (s : State) (t' : Fin 16) (row : Nat) => s.fl R.SEG_STORE_CFG.SCRUB_EN t'.val = true ∧ s.imaged = true ∧ (s.store t'.val).scrubRow = row ∧ ((∀ k, k < 5 → (s.store t'.val).bad' row k = 0))) (ran.wr R.SEG_STORE_CFG.SCRUB_EN 2 1) (2) (0) := by decide

theorem wit_StoreControl_15 : (fun (s : State) (t' : Fin 16) (row k : Nat) => s.fl R.SEG_STORE_CFG.SCRUB_EN t'.val = true ∧ s.imaged = true ∧ (s.store t'.val).scrubRow = row ∧ k < 5 ∧ (s.store t'.val).bad' row k = 1 ∧ ((∀ j, j < 5 → j ≠ k → (s.store t'.val).bad' row j = 0))) ((ran.wr R.SEG_STORE_CFG.SCRUB_EN 2 1).setStore 2 { StoreSt.idle with ecc := [(58, 1)], scrubRow := 7 }) (2) (7) (2) := by decide

theorem wit_StoreControl_16 : (fun (s : State) (t' : Fin 16) (row k : Nat) => s.fl R.SEG_STORE_CFG.SCRUB_EN t'.val = true ∧ s.imaged = true ∧ (s.store t'.val).scrubRow = row ∧ k < 5 ∧ (s.store t'.val).bad' row k = 2 ∧ ((∀ j, j < 5 → j ≠ k → (s.store t'.val).bad' row j = 0))) ((ran.wr R.SEG_STORE_CFG.SCRUB_EN 2 1).setStore 2 { StoreSt.idle with ecc := [(58, 2)], scrubRow := 7 }) (2) (7) (2) := by decide

theorem wit_StoreControl_17 : (fun (s : State) (t' : Fin 16) => ((s.fl R.SEG_STORE_CFG.SCRUB_EN t'.val = false ∨ s.imaged = false))) (ran.wr R.SEG_STORE_CFG.SCRUB_EN 2 0) (2) := by decide

theorem wit_CompareResults_1 : (fun (s s' : State) (l : Fin 1024) (h lo v2 : Nat) (j : CmpJob) (x : VecRec) (d : SiteDecl) => ({ s with out := [] }).compareDue l.val = some (s', j) ∧ s'.vecOf (l.val / 64) j = some x ∧ s'.siteOf l.val = some d ∧ s'.maskedAt d (l.val / 64) j.arrival = false ∧ x.isMatch = false ∧ j.fails (4 * h + lo) v2 = true) (cmpAt ran job0 vec0) (cmpAt ran job0 vec0) (5) (1) (1) (0) (job0) (vec0) (site0) := by decide

theorem wit_CompareResults_2 : (fun (s s' : State) (l : Fin 1024) (h lo v2 : Nat) (j : CmpJob) (x : VecRec) (d : SiteDecl) => ({ s with out := [] }).compareDue l.val = some (s', j) ∧ s'.vecOf (l.val / 64) j = some x ∧ s'.siteOf l.val = some d ∧ ((s'.maskedAt d (l.val / 64) j.arrival = true ∨ (j.fails (4 * h + lo) v2 = false ∧ j.unsettled = false)))) (cmpAt ran job0 vec0) (cmpAt ran job0 vec0) (5) (2) (1) (0) (job0) (vec0) (site0) := by decide

theorem wit_CompareResults_2_2 : (fun (s s' : State) (l : Fin 1024) (h lo v2 : Nat) (j : CmpJob) (x : VecRec) (d : SiteDecl) => ({ s with out := [] }).compareDue l.val = some (s', j) ∧ s'.vecOf (l.val / 64) j = some x ∧ s'.siteOf l.val = some d ∧ ((s'.maskedAt d (l.val / 64) j.arrival = true ∨ (j.fails (4 * h + lo) v2 = false ∧ j.unsettled = false)))) ((cmpAt ran job0 vec0).wr R.CMP_SITE_CTL.CMP_OFF 0 1) ((cmpAt ran job0 vec0).wr R.CMP_SITE_CTL.CMP_OFF 0 1) (5) (1) (1) (0) (job0) (vec0) (site0) := by decide

theorem wit_CompareResults_3 : (fun (s s' : State) (l : Fin 1024) (h lo v2 : Nat) (j : CmpJob) (x : VecRec) (d : SiteDecl) => ({ s with out := [] }).compareDue l.val = some (s', j) ∧ s'.vecOf (l.val / 64) j = some x ∧ s'.siteOf l.val = some d ∧ s'.maskedAt d (l.val / 64) j.arrival = false ∧ j.unsettled = true) (cmpAt ran { job0 with unH := true } vec0) (cmpAt ran { job0 with unH := true } vec0) (5) (2) (1) (0) ({ job0 with unH := true }) (vec0) (site0) := by decide

theorem wit_CompareResults_4 : (fun (s s' : State) (l : Fin 1024) (h lo v2 : Nat) (j : CmpJob) (x : VecRec) (d : SiteDecl) => ({ s with out := [] }).compareDue l.val = some (s', j) ∧ s'.vecOf (l.val / 64) j = some x ∧ s'.siteOf l.val = some d ∧ s'.maskedAt d (l.val / 64) j.arrival = false ∧ x.isMatch = true ∧ j.fails (4 * h + lo) v2 = true ∧ j.unsettled = false) (cmpAt ran job0 { vec0 with isMatch := true }) (cmpAt ran job0 { vec0 with isMatch := true }) (5) (1) (1) (0) (job0) ({ vec0 with isMatch := true }) (site0) := by decide

theorem wit_CompareResults_5 : (fun (s s' : State) (l : Fin 1024) (h lo v2 : Nat) (j : CmpJob) => ({ s with out := [] }).compareDue l.val = some (s', j) ∧ s'.siteOf l.val = none) ({ cmpAt ran job0 vec0 with image := none }) ({ cmpAt ran job0 vec0 with image := none }) (5) (1) (1) (0) (job0) := by decide

theorem wit_CompareResults_6 : (fun (s : State) (l : Fin 1024) (h lo v2 : Nat) => ({ s with out := [] }).compareDue l.val = none) (ran) (5) (1) (1) (0) := by decide

theorem wit_CompareClears_1 : (fun (s : State) (rq : Req) (t' : Fin 16) => s.canWrite rq .CMP_CTL t'.val) ((ran.wr R.CMP_LANE_FAIL.FAILS 3 5).wr R.CMP_SITE_STATUS.FAIL 0 1) (.fn 0) (0) := by decide

theorem wit_CompareClears_2 : (fun (s : State) (rq : Req) (t' : Fin 16) (h : Fin 64) (w : Word) => s.canWrite rq .CMP_SITE_CTL (64 * t'.val + h.val) ∧ (s.slotSite (64 * t'.val + h.val)).isSome = true) (ran.wr R.CMP_SITE_STATUS.FAIL 0 1) (.fn 0) (0) (0) (1) := by decide

theorem wit_CompareClears_3 : (fun (s : State) (rq : Req) (t' : Fin 16) (h : Fin 64) (w : Word) => s.canWrite rq .CMP_SITE_CTL (64 * t'.val + h.val) ∧ (s.slotSite (64 * t'.val + h.val)).isSome = true) (ran.wr R.CMP_SITE_STATUS.TIMING_BROKEN 0 1) (.fn 0) (0) (0) (1) := by decide

theorem wit_FailLog_1 : (fun (s : State) (rq : Req) (t' : Fin 16) (w : Word) => s.canWrite rq .CMP_LOG_CTL t'.val ∧ (s.play t'.val).playing = false ∧ s.logAreaOk t'.val (s.rd R.CMP_LOG_AREA.BASE t'.val) (s.rd R.CMP_LOG_AREA.BLOCKS t'.val) = true) ((ran.wr R.CMP_LOG_AREA.BLOCKS 0 1).wr R.SAG_BLK_OWNER.ALLOTTED 0 1) (.fn 0) (0) (1) := by decide

theorem wit_FailLog_2 : (fun (s : State) (f : Fin 64) (t' : Fin 16) (w : Word) => s.canWrite (.fn f) .CMP_LOG_CTL t'.val ∧ (s.play t'.val).playing = false ∧ s.logAreaOk t'.val (s.rd R.CMP_LOG_AREA.BASE t'.val) (s.rd R.CMP_LOG_AREA.BLOCKS t'.val) = false) (ran) (0) (0) (1) := by decide

theorem wit_FailLog_3 : (fun (s : State) (rq : Req) (t' : Fin 16) (w : Word) => s.canWrite rq .CMP_LOG_CTL t'.val ∧ R.CMP_LOG_CTL.ARM.part w.toNat = 0) (ran.wr R.CMP_LOG_CTL.ARMED 0 1) (.fn 0) (0) (0) := by decide

theorem wit_FailLog_4 : (fun (s : State) (rq : Req) (t' : Fin 16) (w : Word) => s.canWrite rq .CMP_LOG_AREA t'.val ∧ s.fl R.CMP_LOG_CTL.ARMED t'.val = false ∧ s.logAreaOk t'.val (R.CMP_LOG_AREA.BASE.part w.toNat) (R.CMP_LOG_AREA.BLOCKS.part w.toNat) = true) (ran.wr R.SAG_BLK_OWNER.ALLOTTED 0 1) (.fn 0) (0) (0x10000) := by decide

theorem wit_FailLog_5 : (fun (s : State) (t' : Fin 16) (x : VecRec) => (s.play t'.val).vecs.find? (fun v => !v.formed) = some x ∧ x.time.isSome = true ∧ (s.vecWaits t'.val x fun j => !(j.isOpen && j.dropped)) = false ∧ x.fails.filter (s.logged t'.val) = []) (ran.setPlay 0 { PlaySt.idle with vecs := [{ vec0 with time := some 5 }] }) (0) ({ vec0 with time := some 5 }) := by decide

theorem wit_FailLog_6 : (fun (s : State) (t' : Fin 16) (x : VecRec) (e : SiteFail) => (s.play t'.val).vecs.find? (fun v => !v.formed) = some x ∧ x.time.isSome = true ∧ (s.vecWaits t'.val x fun j => !(j.isOpen && j.dropped)) = false ∧ (x.fails.foldr insertSite []).filter (s.logged t'.val) = [e] ∧ s.fl R.CMP_LOG_CTL.ARMED t'.val = true ∧ (s.play t'.val).log.length < 8 ∧ s.rd R.CMP_LOG_STATUS.WPTR t'.val + (s.play t'.val).log.length + 1 < s.logSize t'.val) ((((ran.setPlay 0 { PlaySt.idle with vecs := [{ vec0 with time := some 5, fails := [⟨0, 3, true⟩] }] }).wr R.CMP_LOG_AREA.BLOCKS 0 1).wr R.CMP_LOG_CTL.MODE 0 1 |>.wr R.CMP_SITE_CTL.LOG_EN 0 1).wr R.CMP_LOG_CTL.ARMED 0 1) (0) ({ vec0 with time := some 5, fails := [⟨0, 3, true⟩] }) (⟨0, 3, true⟩) := by decide

theorem wit_FailLog_7 : (fun (s : State) (t' : Fin 16) (x : VecRec) (e : SiteFail) => (s.play t'.val).vecs.find? (fun v => !v.formed) = some x ∧ x.time.isSome = true ∧ (s.vecWaits t'.val x fun j => !(j.isOpen && j.dropped)) = false ∧ (x.fails.foldr insertSite []).filter (s.logged t'.val) = [e] ∧ s.fl R.CMP_LOG_CTL.ARMED t'.val = true ∧ (s.play t'.val).log.length < 8 ∧ s.logSize t'.val ≤ s.rd R.CMP_LOG_STATUS.WPTR t'.val + (s.play t'.val).log.length + 1) (((((ran.setPlay 0 { PlaySt.idle with vecs := [{ vec0 with time := some 5, fails := [⟨0, 3, true⟩] }] }).wr R.CMP_LOG_AREA.BLOCKS 0 1).wr R.CMP_LOG_CTL.MODE 0 1 |>.wr R.CMP_SITE_CTL.LOG_EN 0 1).wr R.CMP_LOG_CTL.ARMED 0 1).wr R.CMP_LOG_STATUS.WPTR 0 2047) (0) ({ vec0 with time := some 5, fails := [⟨0, 3, true⟩] }) (⟨0, 3, true⟩) := by decide

theorem wit_FailLog_8 : (fun (s : State) (t' : Fin 16) (x : VecRec) (e : SiteFail) => (s.play t'.val).vecs.find? (fun v => !v.formed) = some x ∧ x.time.isSome = true ∧ (s.vecWaits t'.val x fun j => !(j.isOpen && j.dropped)) = false ∧ (x.fails.foldr insertSite []).filter (s.logged t'.val) = [e] ∧ s.fl R.CMP_LOG_CTL.ARMED t'.val = true ∧ 8 ≤ (s.play t'.val).log.length) (((((ran.setPlay 0 { PlaySt.idle with log := List.replicate 8 [], vecs := [{ vec0 with time := some 5, fails := [⟨0, 3, true⟩] }] }).wr R.CMP_LOG_AREA.BLOCKS 0 1).wr R.CMP_LOG_CTL.MODE 0 1 |>.wr R.CMP_SITE_CTL.LOG_EN 0 1).wr R.CMP_LOG_CTL.ARMED 0 1)) (0) ({ vec0 with time := some 5, fails := [⟨0, 3, true⟩] }) (⟨0, 3, true⟩) := by decide

theorem wit_FailLog_9 : (fun (s : State) (t' : Fin 16) (x : VecRec) (e : SiteFail) => (s.play t'.val).vecs.find? (fun v => !v.formed) = some x ∧ x.time.isSome = true ∧ (s.vecWaits t'.val x fun j => !(j.isOpen && j.dropped)) = false ∧ (x.fails.foldr insertSite []).filter (s.logged t'.val) = [e] ∧ s.fl R.CMP_LOG_CTL.ARMED t'.val = false) ((((ran.setPlay 0 { PlaySt.idle with vecs := [{ vec0 with time := some 5, fails := [⟨0, 3, true⟩] }] }).wr R.CMP_LOG_AREA.BLOCKS 0 1).wr R.CMP_LOG_CTL.MODE 0 1 |>.wr R.CMP_SITE_CTL.LOG_EN 0 1).wr R.CMP_LOG_STATUS.FULL 0 1) (0) ({ vec0 with time := some 5, fails := [⟨0, 3, true⟩] }) (⟨0, 3, true⟩) := by decide

theorem wit_FailLog_10 : (fun (s : State) (t' : Fin 16) (b : List Nat) (rest : List (List Nat)) (a : Nat) => (s.play t'.val).log = b :: rest ∧ b.length = 32 ∧ ((∀ x ∈ b, x < 256)) ∧ ((∀ u, u < 16 → ∀ e ∈ (s.acq u).writes, a < e.1 ∨ e.1 + e.2.length ≤ a))) (ran.setPlay 0 { PlaySt.idle with log := [List.range 32] }) (0) (List.range 32) ([]) (24) := by decide

theorem wit_SequencerFlow_1 : (fun (s : State) (q : Fin 17) (w : Nat) => s.fetches q.val w ∧ mwClass w = 0 ∧ ((bitAt w 14 = false ∨ mwNano w = 0 ∨ q.val = 16))) (seqAt ran 3 100 0) (3) (0) := by decide

theorem wit_SequencerFlow_2 : (fun (s : State) (q : Fin 17) (w : Nat) => s.fetches q.val w ∧ mwClass w = 0 ∧ bitAt w 14 = true ∧ mwNano w ≠ 0 ∧ q.val < 16) (seqAt ran 3 100 (5 * 65536 + 2 ^ 14)) (3) (5 * 65536 + 2 ^ 14) := by decide

theorem wit_SequencerFlow_3 : (fun (s : State) (q : Fin 17) (w : Nat) => s.fetches q.val w ∧ mwClass w = 1) (seqAt ran 3 100 (2 ^ 28 + 77)) (3) (2 ^ 28 + 77) := by decide

theorem wit_SequencerFlow_4 : (fun (s : State) (q : Fin 17) (w e : Nat) => s.fetches q.val w ∧ mwClass w = 2 ∧ smGet 0 (s.store q.val).micro (seqTables q.val + bits w 10 5) = e ∧ smGet 0 (s.store q.val).bad (seqTables q.val + bits w 10 5) = 0 ∧ bselCount e ≤ 4 ∧ bitAt e 31 = false) ((seqAt ran 3 100 (2 * 2 ^ 28 + 7)).setStore 3 { StoreSt.idle with micro := [(100, 2 * 2 ^ 28 + 7), (16288, 2 ^ 24 + 1)] }) (3) (2 * 2 ^ 28 + 7) (2 ^ 24 + 1) := by decide

theorem wit_SequencerFlow_5 : (fun (s : State) (q : Fin 17) (w e : Nat) => s.fetches q.val w ∧ mwClass w = 2 ∧ smGet 0 (s.store q.val).micro (seqTables q.val + bits w 10 5) = e ∧ smGet 0 (s.store q.val).bad (seqTables q.val + bits w 10 5) = 0 ∧ ((4 < bselCount e ∨ bitAt e 31 = true))) ((seqAt ran 3 100 (2 * 2 ^ 28 + 7)).setStore 3 { StoreSt.idle with micro := [(100, 2 * 2 ^ 28 + 7), (16288, 5 * 2 ^ 24 + 1)] }) (3) (2 * 2 ^ 28 + 7) (5 * 2 ^ 24 + 1) := by decide

theorem wit_SequencerFlow_6 : (fun (s : State) (q : Fin 17) (w v : Nat) => s.fetches q.val w ∧ mwClass w = 3 ∧ s.cntFree q.val w ∧ (s.afterIssue q.val w).rd R.SEQ_CNT.VALUE (8 * q.val + bits w 12 3) = v) ((seqAt ran 3 100 (3 * 2 ^ 28 + 2 * 2 ^ 12 + 9)).wr R.SEQ_CNT.VALUE 26 5) (3) (3 * 2 ^ 28 + 2 * 2 ^ 12 + 9) (5) := by decide

theorem wit_SequencerFlow_6_2 : (fun (s : State) (q : Fin 17) (w v : Nat) => s.fetches q.val w ∧ mwClass w = 3 ∧ s.cntFree q.val w ∧ (s.afterIssue q.val w).rd R.SEQ_CNT.VALUE (8 * q.val + bits w 12 3) = v) (seqAt ran 3 100 (3 * 2 ^ 28 + 2 * 2 ^ 12 + 9)) (3) (3 * 2 ^ 28 + 2 * 2 ^ 12 + 9) (0) := by decide

theorem wit_SequencerFlow_6_3 : (fun (s : State) (q : Fin 17) (w v : Nat) => s.fetches q.val w ∧ mwClass w = 3 ∧ s.cntFree q.val w ∧ (s.afterIssue q.val w).rd R.SEQ_CNT.VALUE (8 * q.val + bits w 12 3) = v) ((seqAt ran 3 100 (3 * 2 ^ 28 + 2 * 2 ^ 12 + 9)).wr R.SEQ_CNT.VALUE 26 1) (3) (3 * 2 ^ 28 + 2 * 2 ^ 12 + 9) (1) := by decide

theorem wit_SequencerFlow_7 : (fun (s : State) (q : Fin 17) (w : Nat) => s.fetches q.val w ∧ mwClass w = 9) (seqAt ran 3 100 (9 * 2 ^ 28)) (3) (9 * 2 ^ 28) := by decide

theorem wit_SequencerCounters_1 : (fun (s : State) (q : Fin 17) (w : Nat) => s.fetches q.val w ∧ isCnt 0 w = true ∧ s.cntFree q.val w) (seqAt ran 3 100 (4 * 2 ^ 28 + 2 * 2 ^ 12 + 9)) (3) (4 * 2 ^ 28 + 2 * 2 ^ 12 + 9) := by decide

theorem wit_SequencerCounters_2 : (fun (s : State) (q : Fin 17) (w : Nat) => s.fetches q.val w ∧ isCnt 1 w = true ∧ s.cntFree q.val w) ((seqAt ran 3 100 (4 * 2 ^ 28 + 2 * 2 ^ 12 + 2 ^ 9 + 5)).wr R.SEQ_CINIT.VALUE 53 44) (3) (4 * 2 ^ 28 + 2 * 2 ^ 12 + 2 ^ 9 + 5) := by decide

theorem wit_SequencerCounters_3 : (fun (s : State) (q : Fin 17) (w : Nat) => s.fetches q.val w ∧ isCnt 2 w = true ∧ s.cntFree q.val w) (seqAt ran 3 100 (4 * 2 ^ 28 + 2 * 2 ^ 12 + 2 * 2 ^ 9)) (3) (4 * 2 ^ 28 + 2 * 2 ^ 12 + 2 * 2 ^ 9) := by decide

theorem wit_SequencerCounters_4 : (fun (s : State) (q : Fin 17) (w : Nat) => s.fetches q.val w ∧ isCnt 3 w = true ∧ s.cntFree q.val w) (seqAt ran 3 100 (4 * 2 ^ 28 + 2 * 2 ^ 12 + 3 * 2 ^ 9)) (3) (4 * 2 ^ 28 + 2 * 2 ^ 12 + 3 * 2 ^ 9) := by decide

theorem wit_SequencerCounters_5 : (fun (s : State) (q : Fin 17) (w : Nat) => s.fetches q.val w ∧ isCnt 4 w = true ∧ s.cntFree q.val w) ((seqAt ran 3 100 (4 * 2 ^ 28 + 2 * 2 ^ 12 + 4 * 2 ^ 9)).wr R.SEQ_CNT.VALUE 26 77) (3) (4 * 2 ^ 28 + 2 * 2 ^ 12 + 4 * 2 ^ 9) := by decide

theorem wit_SequencerCounters_6 : (fun (s : State) (q : Fin 17) (w : Nat) => s.fetches q.val w ∧ mwClass w = 4 ∧ 4 < bits w 9 3 ∧ ((q.val < 16 ∨ mwNano w = 0))) (seqAt ran 3 100 (4 * 2 ^ 28 + 5 * 2 ^ 9)) (3) (4 * 2 ^ 28 + 5 * 2 ^ 9) := by decide

theorem wit_SequencerCounters_7 : (fun (s : State) (q : Fin 17) (w v : Nat) => s.fetches q.val w ∧ mwClass w = 3 ∧ s.cntFree q.val w ∧ (s.afterIssue q.val w).rd R.SEQ_CNT.VALUE (8 * q.val + bits w 12 3) = v) ((seqAt ran 3 100 (3 * 2 ^ 28 + 2 * 2 ^ 12 + 9)).wr R.SEQ_CNT.VALUE 26 2) (3) (3 * 2 ^ 28 + 2 * 2 ^ 12 + 9) (2) := by decide

theorem wit_SequencerTileWords_1 : (fun (s : State) (q : Fin 16) (w : Nat) => s.fetches q.val w ∧ mwClass w = 5 ∧ (s.play q.val).queue.length < 4 ∧ (((s.play q.val).playing = false ∨ (s.play q.val).phase = .seg ∨ (s.play q.val).phase = .stopped ∨ (s.play q.val).samePass = true ∨ (s.play q.val).succ.isSome = true ∨ (s.play q.val).starving.isSome = true ∨ (s.play q.val).queue ≠ []))) ((seqAt ran 3 100 (5 * 2 ^ 28 + 9)).setPlay 3 { PlaySt.idle with playing := true, phase := .seg, queue := [1] }) (3) (5 * 2 ^ 28 + 9) := by decide

theorem wit_SequencerTileWords_2 : (fun (s : State) (q : Fin 16) (w : Nat) => s.fetches q.val w ∧ mwClass w = 5 ∧ (s.play q.val).playing = true ∧ (((s.play q.val).phase = .idle ∨ (s.play q.val).phase = .wait)) ∧ (s.play q.val).samePass = false ∧ (s.play q.val).succ = none ∧ (s.play q.val).starving = none ∧ (s.play q.val).queue = [] ∧ enStreamed (s.entry q.val (bits w 0 11)) = false) ((seqAt ran 3 100 (5 * 2 ^ 28 + 9)).setPlay 3 { PlaySt.idle with playing := true, phase := .idle }) (3) (5 * 2 ^ 28 + 9) := by decide

theorem wit_SequencerTileWords_3 : (fun (s : State) (q : Fin 16) (w : Nat) => s.fetches q.val w ∧ mwClass w = 5 ∧ 4 ≤ (s.play q.val).queue.length) ((seqAt ran 3 100 (5 * 2 ^ 28 + 9)).setPlay 3 { PlaySt.idle with playing := true, phase := .seg, queue := [1, 2, 3, 4] }) (3) (5 * 2 ^ 28 + 9) := by decide

theorem wit_SequencerTileWords_4 : (fun (s : State) (q : Fin 16) (w : Nat) => s.fetches q.val w ∧ isLvl 0 w = true) ((seqAt ran 3 100 (7 * 2 ^ 28 + 5)).setPlay 3 { PlaySt.idle with playing := true }) (3) (7 * 2 ^ 28 + 5) := by decide

theorem wit_SequencerTileWords_4_2 : (fun (s : State) (q : Fin 16) (w : Nat) => s.fetches q.val w ∧ isLvl 0 w = true) (seqAt ran 3 100 (7 * 2 ^ 28 + 5)) (3) (7 * 2 ^ 28 + 5) := by decide

theorem wit_SequencerTileWords_5 : (fun (s : State) (q : Fin 16) (w k : Nat) => s.fetches q.val w ∧ isLvl 1 w = true ∧ k ∈ s.updateDacs q.val (bits w 0 9)) ((seqAt ran 3 100 (7 * 2 ^ 28 + 2 ^ 12 + 1)).wr R.SMU_FORCE_CODE.CODE 24 77) (3) (7 * 2 ^ 28 + 2 ^ 12 + 1) (10024) := by decide

theorem wit_SequencerTileWords_6 : (fun (s : State) (q : Fin 16) (w : Nat) => s.fetches q.val w ∧ mwClass w = 8 ∧ bitAt w 14 = false ∧ s.ctxRefused (s.tileOwner q.val) (bits w 0 14) 1 = true) (seqAt ran 3 100 (8 * 2 ^ 28 + 16383)) (3) (8 * 2 ^ 28 + 16383) := by decide

theorem wit_SequencerTileWords_7 : (fun (s : State) (q : Fin 16) (w : Nat) => s.fetches q.val w ∧ mwClass w = 8 ∧ bitAt w 14 = false ∧ s.ctxRefused (s.tileOwner q.val) (bits w 0 14) 1 = false ∧ (s.ctx (bits w 0 14)).state = 1) (redAt (seqAt ran 3 100 (8 * 2 ^ 28 + 300))) (3) (8 * 2 ^ 28 + 300) := by decide

theorem wit_SequencerTileWords_8 : (fun (s : State) (q : Fin 16) (w : Nat) => s.fetches q.val w ∧ mwClass w = 8 ∧ bitAt w 14 = true ∧ s.ctxRefused (s.tileOwner q.val) (bits w 0 14) 2 = true) (seqAt ran 3 100 (8 * 2 ^ 28 + 2 ^ 14 + 16383)) (3) (8 * 2 ^ 28 + 2 ^ 14 + 16383) := by decide

theorem wit_SequencerTileWords_9 : (fun (s : State) (q : Fin 16) (w c : Nat) => s.fetches q.val w ∧ mwClass w = 8 ∧ bitAt w 14 = true ∧ bits w 0 14 = c ∧ s.ctxRefused (s.tileOwner q.val) c 2 = false ∧ (s.ctx c).state = 2 ∧ smGet 0 s.red.ecc c ≠ 2 ∧ ((∀ d ∈ s.red.pending, d / 256 ≠ c / 256)) ∧ s.grpRoom (c / 256) = true) ((redAt (seqAt ran 3 100 (8 * 2 ^ 28 + 2 ^ 14 + 300))).setCtx 300 { CtxSt.idle with state := 2 }) (3) (8 * 2 ^ 28 + 2 ^ 14 + 300) (300) := by decide

theorem wit_SequencerTileWords_10 : (fun (s : State) (q : Fin 16) (w : Nat) => s.fetches q.val w ∧ mwClass w = 11 ∧ bitAt w 14 = false ∧ (s.play q.val).playing = true ∧ (s.playMates q.val).length ≤ 1) ((seqAt ran 3 100 (11 * 2 ^ 28)).setPlay 3 { PlaySt.idle with playing := true, queue := [3] }) (3) (11 * 2 ^ 28) := by decide

theorem wit_SequencerTileWords_11 : (fun (s : State) (q : Fin 16) (w : Nat) => s.fetches q.val w ∧ mwClass w = 11 ∧ bitAt w 14 = false ∧ (s.play q.val).playing = true ∧ 2 ≤ (s.playMates q.val).length) ({ ((seqAt ran 0 100 (11 * 2 ^ 28)).setPlay 0 { PlaySt.idle with playing := true, phase := .seg, queue := [3] }).setPlay 1 { PlaySt.idle with playing := true, phase := .seg } with image := some { img with lockstep := [3, 0, 0, 0] } }) (0) (11 * 2 ^ 28) := by decide

theorem wit_SequencerTileWords_12 : (fun (s : State) (q : Fin 16) (w : Nat) => s.fetches q.val w ∧ mwClass w = 11 ∧ (s.play q.val).playing = false) (seqAt ran 3 100 (11 * 2 ^ 28)) (3) (11 * 2 ^ 28) := by decide

theorem wit_SequencerTileWords_13 : (fun (s : State) (q : Fin 16) (w : Nat) => s.fetches q.val w ∧ mwClass w = 11 ∧ bitAt w 14 = true ∧ (s.play q.val).playing = true) ((seqAt ran 3 100 (11 * 2 ^ 28 + 2 ^ 14)).setPlay 3 { PlaySt.idle with playing := true, queue := [3] }) (3) (11 * 2 ^ 28 + 2 ^ 14) := by decide

theorem wit_SequencerWaits_1 : (fun (s : State) (q : Fin 17) (w : Nat) => s.fetches q.val w ∧ mwClass w = 6) (seqAt ran 3 100 (6 * 2 ^ 28 + 0x1C1)) (3) (6 * 2 ^ 28 + 0x1C1) := by decide

theorem wit_SequencerWaits_2 : (fun (s : State) (q : Fin 17) (x : WaitSt) => s.waitOf q.val = some x ∧ x.cen = true ∧ s.cond q.val x.cond = x.pol) ((ran.wr R.SEQ_STATUS.STATE 3 2).setSeq 3 { SeqSt.idle with waiting := some ⟨1, true, true, 0⟩, next := 100 }) (3) (⟨1, true, true, 0⟩) := by decide

theorem wit_SequencerWaits_3 : (fun (s : State) (q : Fin 17) => (s.waitOf q.val).any (fun x => x.cen && s.cond q.val x.cond == x.pol) = false) ((ran.wr R.SEQ_STATUS.STATE 3 2).setSeq 3 { SeqSt.idle with waiting := some ⟨1, false, true, 0⟩, next := 100 }) (3) := by decide

theorem wit_SequencerWaits_3_2 : (fun (s : State) (q : Fin 17) => (s.waitOf q.val).any (fun x => x.cen && s.cond q.val x.cond == x.pol) = false) (ran) (3) := by decide

theorem wit_SequencerWaits_4 : (fun (s : State) (q : Fin 17) (x : WaitSt) => s.waitOf q.val = some x ∧ x.timeout ≠ 0) ((ran.wr R.SEQ_STATUS.STATE 3 2).setSeq 3 { SeqSt.idle with waiting := some ⟨1, true, false, 3⟩, next := 100 }) (3) (⟨1, true, false, 3⟩) := by decide

theorem wit_SequencerWaits_5 : (fun (s : State) (q : Fin 17) (x : WaitSt) => s.waitOf q.val = some x ∧ s.operating = true ∧ (s.seqEvents q.val).isEmpty = false ∧ s.vectorable q.val = none) (((((ran.wr R.SEQ_STATUS.STATE 3 2).setSeq 3 { SeqSt.idle with waiting := some ⟨1, true, true, 0⟩, next := 100 }).setSrc 115 { SrcSt.idle with state := 1 }).wr R.EVH_SRC_CFG.ENABLE 115 1).wr R.EVH_SRC_CFG.TARGET 115 3) (3) (⟨1, true, true, 0⟩) := by decide

theorem wit_SequencerWaits_6 : (fun (s : State) (q : Fin 17) => (s.waitOf q.val).any (fun x => decide (x.timeout ≠ 0)) = false) (ran) (3) := by decide

theorem wit_SequencerWaits_7 : (fun (s : State) (q : Fin 17) => (s.waitOf q.val = none ∨ s.operating = false ∨ (s.seqEvents q.val).isEmpty = true ∨ s.vectorable q.val ≠ none)) (ran) (3) := by decide

theorem wit_SequencerEvents_1 : (fun (s : State) (q : Fin 17) (n d : Nat) => s.alive = true ∧ s.hkFixed q.val = false ∧ s.romRuns q.val = false ∧ s.vectorable q.val = some n ∧ ((s.rd R.SEQ_STATUS.STATE q.val = 2 ∨ (s.rd R.SEQ_STATUS.STATE q.val = 1 ∧ ((s.seq q.val).atYield = true ∨ ((s.seq q.val).entered = true ∧ s.operating = true))))) ∧ s.rd R.SEQ_STATUS.DEPTH q.val = d ∧ d < 4 ∧ ((∀ a ∈ (s.vectorSearch q.val n).1, smGet 0 (s.store q.val).bad a = 0))) (((((seqAt ran 3 100 0).setSeq 3 { SeqSt.idle with next := 100, atYield := true }).setSrc 115 { SrcSt.idle with state := 1 }).wr R.EVH_SRC_CFG.ENABLE 115 1).wr R.EVH_SRC_CFG.TARGET 115 3 |>.wr R.SEQ_CTL.VEC_EN 3 1) (3) (115) (0) := by decide

theorem wit_SequencerEvents_1_2 : (fun (s : State) (q : Fin 17) (n d : Nat) => s.alive = true ∧ s.hkFixed q.val = false ∧ s.romRuns q.val = false ∧ s.vectorable q.val = some n ∧ ((s.rd R.SEQ_STATUS.STATE q.val = 2 ∨ (s.rd R.SEQ_STATUS.STATE q.val = 1 ∧ ((s.seq q.val).atYield = true ∨ ((s.seq q.val).entered = true ∧ s.operating = true))))) ∧ s.rd R.SEQ_STATUS.DEPTH q.val = d ∧ d < 4 ∧ ((∀ a ∈ (s.vectorSearch q.val n).1, smGet 0 (s.store q.val).bad a = 0))) ((((((seqAt ran 3 100 0).setSeq 3 { SeqSt.idle with next := 100, atYield := true }).setSrc 115 { SrcSt.idle with state := 1 }).wr R.EVH_SRC_CFG.ENABLE 115 1).wr R.EVH_SRC_CFG.TARGET 115 3 |>.wr R.SEQ_CTL.VEC_EN 3 1 |>.wr R.SEQ_STATUS.STATE 3 2)) (3) (115) (0) := by decide

theorem wit_SequencerEvents_2 : (fun (s : State) (q : Fin 17) (n a : Nat) => s.alive = true ∧ s.hkFixed q.val = false ∧ s.romRuns q.val = false ∧ s.vectorable q.val = some n ∧ ((s.rd R.SEQ_STATUS.STATE q.val = 2 ∨ (s.rd R.SEQ_STATUS.STATE q.val = 1 ∧ ((s.seq q.val).atYield = true ∨ ((s.seq q.val).entered = true ∧ s.operating = true))))) ∧ s.rd R.SEQ_STATUS.DEPTH q.val < 4 ∧ ((s.vectorSearch q.val n).1.filter fun e => smGet 0 (s.store q.val).bad e ≠ 0) = [a]) ((let B := ((((seqAt ran 3 100 0).setSeq 3 { SeqSt.idle with next := 100, atYield := true }).setSrc 115 { SrcSt.idle with state := 1 }).wr R.EVH_SRC_CFG.ENABLE 115 1).wr R.EVH_SRC_CFG.TARGET 115 3 |>.wr R.SEQ_CTL.VEC_EN 3 1; B.setStore 3 { B.store 3 with bad := [((B.vectorSearch 3 115).2, 1)] })) (3) (115) (((ran).vectorSearch 3 115).2) := by decide

theorem wit_SequencerEvents_3 : (fun (s : State) (q : Fin 17) => (s.alive = false ∨ (s.hkFixed q.val = false ∧ (s.romRuns q.val = true ∨ s.vectorable q.val = none ∨ ¬(s.rd R.SEQ_STATUS.STATE q.val = 2 ∨ (s.rd R.SEQ_STATUS.STATE q.val = 1 ∧ ((s.seq q.val).atYield = true ∨ ((s.seq q.val).entered = true ∧ s.operating = true)))))))) (ran) (3) := by decide

theorem wit_SequencerEvents_4 : (fun (s : State) (q : Fin 17) (w n d : Nat) (fr : FrameSt) (l : List FrameSt) => s.fetches q.val w ∧ mwClass w = 10 ∧ s.rd R.SEQ_STATUS.DEPTH q.val = d + 1 ∧ d < 4 ∧ s.pick q.val (if s.operating then s.frameLevel (4 * q.val + d) else none) (if s.operating then d + 1 else d) = none ∧ (s.seq q.val).src = some n ∧ (s.src n).state = 2 ∧ srcLevel n = false ∧ (s.src n).count = 0 ∧ (s.seq q.val).frames = l ++ [fr]) (((((seqAt ran 3 100 (10 * 2 ^ 28)).setSeq 3 { SeqSt.idle with next := 100, src := some 114, frames := [⟨0, 0, none⟩] }).setSrc 114 { SrcSt.idle with state := 2, holder := 3 }).wr R.SEQ_STATUS.DEPTH 3 1).wr R.SEQ_STACK.RETURN 12 55 |>.wr R.SEQ_CTL.VEC_EN 3 0) (3) (10 * 2 ^ 28) (114) (0) (⟨0, 0, none⟩) ([]) := by decide

theorem wit_SequencerEvents_5 : (fun (s : State) (q : Fin 17) (w m d : Nat) => s.fetches q.val w ∧ mwClass w = 10 ∧ s.rd R.SEQ_STATUS.DEPTH q.val = d + 1 ∧ d < 4 ∧ s.pick q.val (if s.operating then s.frameLevel (4 * q.val + d) else none) (if s.operating then d + 1 else d) = some m ∧ (s.seq q.val).src ≠ some m ∧ ((∀ a ∈ (s.vectorSearch q.val m).1, smGet 0 (s.store q.val).bad a = 0))) ((((((seqAt ran 3 100 (10 * 2 ^ 28)).setSeq 3 { SeqSt.idle with next := 100, src := some 114, frames := [⟨0, 0, none⟩] }).setSrc 114 { SrcSt.idle with state := 2, holder := 3 }).wr R.SEQ_STATUS.DEPTH 3 1).wr R.SEQ_STACK.RETURN 12 55 |>.wr R.SEQ_STACK.BASE 12 1 |>.setSrc 115 { SrcSt.idle with state := 1 } |>.wr R.EVH_SRC_CFG.ENABLE 115 1 |>.wr R.EVH_SRC_CFG.TARGET 115 3 |>.wr R.SEQ_CTL.VEC_EN 3 1)) (3) (10 * 2 ^ 28) (115) (0) := by decide

theorem wit_SequencerEvents_6 : (fun (s : State) (q : Fin 17) (w : Nat) => s.fetches q.val w ∧ mwClass w = 10 ∧ s.rd R.SEQ_STATUS.DEPTH q.val = 0) (seqAt ran 3 100 (10 * 2 ^ 28)) (3) (10 * 2 ^ 28) := by decide

theorem wit_SequencerEvents_7 : (fun (s : State) (q : Fin 17) (w : Nat) => s.fetches q.val w ∧ isAtomic true w = true) (seqAt ran 3 100 (12 * 2 ^ 28 + 2 ^ 8 + 5)) (3) (12 * 2 ^ 28 + 2 ^ 8 + 5) := by decide

theorem wit_SequencerEvents_8 : (fun (s : State) (q : Fin 17) (w : Nat) => s.fetches q.val w ∧ isAtomic false w = true) ((seqAt ran 3 100 (12 * 2 ^ 28)).wr R.SEQ_STATUS.ATOMIC 3 1) (3) (12 * 2 ^ 28) := by decide

theorem wit_MachineChecks_1 : (fun (s : State) (q : Fin 17) (w : Nat) => s.fetches q.val w ∧ mwClass w = 13) ((seqAt ran 3 100 (13 * 2 ^ 28 + 0x123)).wr R.DEV_MODE.AUTO_RECOVER 0 0) (3) (13 * 2 ^ 28 + 0x123) := by decide

theorem wit_MachineChecks_1_2 : (fun (s : State) (q : Fin 17) (w : Nat) => s.fetches q.val w ∧ mwClass w = 13) ((seqAt ran 3 100 (13 * 2 ^ 28 + 0x123)).wr R.DEV_MODE.AUTO_RECOVER 0 1) (3) (13 * 2 ^ 28 + 0x123) := by decide

theorem wit_MachineChecks_2 : (fun (s : State) (q : Fin 17) (w : Nat) => s.fetches q.val w ∧ isReserved q.val w = true) (seqAt ran 3 100 (14 * 2 ^ 28)) (3) (14 * 2 ^ 28) := by decide

theorem wit_MachineChecks_3 : (fun (s : State) (q : Fin 17) => s.rd R.SEQ_STATUS.STATE q.val = 1 ∧ 1024 ≤ (s.seq q.val).ran) ((seqAt ran 3 100 0).setSeq 3 { SeqSt.idle with next := 100, ran := 1024 }) (3) := by decide

theorem wit_MachineChecks_4 : (fun (s : State) (q : Fin 17) => s.seqReady q.val = true ∧ mwClass (s.microWord q.val (s.seq q.val).next) = 0 ∧ smGet 0 (s.store q.val).bad (s.seq q.val).next ≠ 0 ∧ s.flashExec q.val = false) ((seqAt ran 3 100 0).setStore 3 { StoreSt.idle with bad := [(100, 1)] }) (3) := by decide

theorem wit_SequencerStores_1 : (fun (s : State) (rq : Req) (off : Nat) (w : Word) (q n : Nat) => off % 4 = 0 ∧ s.reachable rq = true ∧ s.window off = some (q, 2, n, 0) ∧ s.windowMay rq q true = true ∧ s.windowOpen q = true) ((ran.wr R.SEQ_LOAD.VALID 3 1)) (.fn 0) (0x230010) (77) (3) (4) := by decide

theorem wit_SequencerStores_2 : (fun (s : State) (rq : Req) (off : Nat) (w : Word) (q win n piece : Nat) => off % 4 = 0 ∧ s.reachable rq = true ∧ s.window off = some (q, win, n, piece) ∧ win < 2 ∧ piece < (if win = 0 then 7 else 3) ∧ s.windowMay rq q true = true ∧ s.windowOpen q = true) (ran) (.fn 0) (0x318010) (77) (3) (1) (1) (0) := by decide

theorem wit_SequencerStores_3 : (fun (s : State) (rq : Req) (off : Nat) (w : Word) (q n v : Nat) => off % 4 = 0 ∧ s.reachable rq = true ∧ s.window off = some (q, 1, n, 3) ∧ s.windowMay rq q true = true ∧ s.windowOpen q = true ∧ (s.store q).staged = some (1, n, [(0, v)])) (ran.setStore 3 { StoreSt.idle with staged := some (1, 1, [(0, 55)]) }) (.fn 0) (0x31801C) (77) (3) (1) (55) := by decide

theorem wit_SequencerStores_4 : (fun (s : State) (f : Fin 64) (off : Nat) (w : Word) (q win n piece : Nat) => off % 4 = 0 ∧ s.reachable (.fn f) = true ∧ s.window off = some (q, win, n, piece) ∧ s.windowOpen q = false) (ran.wr R.SEQ_STATUS.STATE 3 1) (0) (0x230010) (77) (3) (2) (4) (0) := by decide

theorem wit_SequencerStores_5 : (fun (s : State) (rq : Req) (q : Fin 16) (w : Word) => s.canWrite rq .SEQ_LOAD q.val ∧ s.rd R.SEQ_LOAD.STATUS q.val ≠ 1 ∧ (s.play q.val).playing = false ∧ ((R.SEQ_LOAD.SCRUB.part w.toNat = 0 ∨ s.m.mode = .service))) (ran) (.fn 0) (3) (0) := by decide

theorem wit_SequencerStores_6 : (fun (s : State) (f : Fin 64) (q : Fin 16) (w : Word) => s.canWrite (.fn f) .SEQ_LOAD q.val ∧ ((s.rd R.SEQ_LOAD.STATUS q.val = 1 ∨ (s.play q.val).playing = true))) (ran.setPlay 3 { PlaySt.idle with playing := true }) (0) (3) (0) := by decide

theorem wit_SequencerStores_7 : (fun (s : State) (q : Fin 17) => (s.seq q.val).busy % 2 = 1) ((ran.setSeq 3 { SeqSt.idle with busy := 1 }).setStore 3 { StoreSt.idle with micro := [(0, 11 * 2 ^ 28)] }) (3) := by decide

theorem wit_SequencerStores_8 : (fun (s : State) (rq : Req) (q : Fin 16) (w : Word) => s.canWrite rq .SEQ_LOAD q.val ∧ s.rd R.SEQ_LOAD.STATUS q.val ≠ 1 ∧ (s.play q.val).playing = false ∧ s.m.mode = .service) ({ ran with m := { ran.m with mode := .service } }) (.fn 0) (3) (0) := by decide

theorem wit_SequencerStores_9 : (fun (s : State) (f : Fin 64) (q : Fin 16) (w : Word) => s.canWrite (.fn f) .SEQ_LOAD q.val ∧ s.m.mode ≠ .service) (ran) (0) (3) (0) := by decide

theorem wit_SequencerStores_10 : (fun (s : State) (q : Fin 17) (hard : List Nat) => 2 ≤ (s.seq q.val).busy) (ran.setSeq 3 { SeqSt.idle with busy := 2 }) (3) ([]) := by decide

theorem wit_SequencerStores_10_2 : (fun (s : State) (q : Fin 17) (hard : List Nat) => 2 ≤ (s.seq q.val).busy) ((ran.setSeq 3 { SeqSt.idle with busy := 2 }).setStore 3 { StoreSt.idle with bad := [(100, 5)] }) (3) ([]) := by decide

theorem wit_SequencerStores_11 : (fun (s : State) (q : Fin 17) => q.val < 16 ∧ (s.play q.val).issued ≠ [] ∧ (s.play q.val).playing = false) (ran.setPlay 3 { PlaySt.idle with issued := [5] }) (3) := by decide

theorem wit_SequencerStores_11_2 : (fun (s : State) (q : Fin 17) => q.val < 16 ∧ (s.play q.val).issued ≠ [] ∧ (s.play q.val).playing = false) (ran.setPlay 3 { PlaySt.idle with issued := [5, 6] }) (3) := by decide

theorem wit_SequencerStores_12 : (fun (s : State) (q : Fin 17) => q.val < 16 ∧ (s.play q.val).issued ≠ [] ∧ (s.play q.val).playing = true ∧ (s.play q.val).fresh = false ∧ (s.play q.val).phase = .seg ∧ (((s.playMates q.val).length < 2 ∨ s.inSegment q.val = false))) (ran.setPlay 3 { PlaySt.idle with issued := [5], playing := true, phase := .seg }) (3) := by decide

theorem wit_SequencerStores_13 : (fun (s : State) (q : Fin 17) => q.val < 16 ∧ (s.play q.val).issued ≠ [] ∧ (s.play q.val).playing = true ∧ (s.play q.val).fresh = false ∧ (s.play q.val).phase ≠ .seg) (ran.setPlay 3 { PlaySt.idle with issued := [5], playing := true, phase := .idle }) (3) := by decide

theorem wit_SequencerStores_14 : (fun (s : State) (q : Fin 17) => q.val < 16 ∧ ((s.play q.val).playing = true ∧ (s.play q.val).phase = .seg ∧ 2 ≤ (s.playMates q.val).length ∧ s.inSegment q.val = true)) ({ (ran.setPlay 0 { PlaySt.idle with playing := true, phase := .seg, samePass := true }).setPlay 1 { PlaySt.idle with playing := true, phase := .seg } with image := some { img with lockstep := [3, 0, 0, 0] } }) (0) := by decide

theorem wit_TimeTicks_1 : (fun (s : State) => s.clock.running = true ∧ s.clock.ns < 1000000000 ∧ s.clock.frac < 2 ^ 32 ∧ s.addendNow < 2 ^ 40 ∧ s.clock.ns * 2 ^ 32 + s.clock.frac + s.addendNow < 1000000000 * 2 ^ 32) (base) := by decide

theorem wit_TimeTicks_1_2 : (fun (s : State) => s.clock.running = true ∧ s.clock.ns < 1000000000 ∧ s.clock.frac < 2 ^ 32 ∧ s.addendNow < 2 ^ 40 ∧ s.clock.ns * 2 ^ 32 + s.clock.frac + s.addendNow < 1000000000 * 2 ^ 32) ({ base with time := { base.time with adj := some (0x280000001, 1) } }) := by decide

theorem wit_TimeTicks_2 : (fun (s : State) => s.clock.running = true ∧ s.clock.ns < 1000000000 ∧ s.clock.frac < 2 ^ 32 ∧ s.addendNow < 2 ^ 40 ∧ 1000000000 * 2 ^ 32 ≤ s.clock.ns * 2 ^ 32 + s.clock.frac + s.addendNow ∧ s.clock.sec < 2 ^ 48 - 1) ({ base with clock := { base.clock with ns := 999999999 } }) := by decide

theorem wit_TimeTicks_3 : (fun (s : State) => s.clock.running = true ∧ s.clock.ns < 1000000000 ∧ s.clock.frac < 2 ^ 32 ∧ s.addendNow < 2 ^ 40 ∧ 1000000000 * 2 ^ 32 ≤ s.clock.ns * 2 ^ 32 + s.clock.frac + s.addendNow ∧ s.clock.sec = 2 ^ 48 - 1) ({ base with clock := { base.clock with ns := 999999999, sec := 2 ^ 48 - 1 } }) := by decide

theorem wit_TimeTicks_4 : (fun (s : State) => s.clock.running = false) ({ base with clock := { base.clock with running := false } }) := by decide

theorem wit_ClockSettings_1 : (fun (s : State) (rq : Req) (w : Word) (v : Nat) => s.canWrite rq .TIME_ADDEND_HI 0 ∧ v = R.TIME_ADDEND_HI.ADDEND_HI.part w.toNat * 2 ^ 32 + s.rd R.TIME_ADDEND_LO.ADDEND_LO 0 ∧ 0x27FAE147B ≤ v ∧ v ≤ 0x28051EB85) (base.wr R.TIME_ADDEND_LO.ADDEND_LO 0 0x80000001) (.fn 0) (2) (0x280000001) := by decide

theorem wit_ClockSettings_1_2 : (fun (s : State) (rq : Req) (w : Word) (v : Nat) => s.canWrite rq .TIME_ADDEND_HI 0 ∧ v = R.TIME_ADDEND_HI.ADDEND_HI.part w.toNat * 2 ^ 32 + s.rd R.TIME_ADDEND_LO.ADDEND_LO 0 ∧ 0x27FAE147B ≤ v ∧ v ≤ 0x28051EB85) (base.wr R.TIME_ADDEND_LO.ADDEND_LO 0 0x8051EB85) (.fn 0) (2) (0x28051EB85) := by decide

theorem wit_ClockSettings_2 : (fun (s : State) (f : Fin 64) (w : Word) (v : Nat) => s.canWrite (.fn f) .TIME_ADDEND_HI 0 ∧ v = R.TIME_ADDEND_HI.ADDEND_HI.part w.toNat * 2 ^ 32 + s.rd R.TIME_ADDEND_LO.ADDEND_LO 0 ∧ ((v < 0x27FAE147B ∨ 0x28051EB85 < v))) (base.wr R.TIME_ADDEND_LO.ADDEND_LO 0 0x8051EB86) (0) (2) (0x28051EB86) := by decide

theorem wit_ClockSettings_2_2 : (fun (s : State) (f : Fin 64) (w : Word) (v : Nat) => s.canWrite (.fn f) .TIME_ADDEND_HI 0 ∧ v = R.TIME_ADDEND_HI.ADDEND_HI.part w.toNat * 2 ^ 32 + s.rd R.TIME_ADDEND_LO.ADDEND_LO 0 ∧ ((v < 0x27FAE147B ∨ 0x28051EB85 < v))) (base.wr R.TIME_ADDEND_LO.ADDEND_LO 0 0x7FAE147A) (0) (2) (0x27FAE147A) := by decide

theorem wit_ClockSettings_3 : (fun (s : State) (rq : Req) (w : Word) (v : Nat) => s.canWrite rq .TIME_ADJ_TICKS 0 ∧ v = s.rd R.TIME_ADJ_HI.ADJ_HI 0 * 2 ^ 32 + s.rd R.TIME_ADJ_LO.ADJ_LO 0 ∧ R.TIME_ADJ_TICKS.TICKS.part w.toNat ≠ 0 ∧ 0x27FAE147B ≤ v ∧ v ≤ 0x28051EB85) ((base.wr R.TIME_ADJ_LO.ADJ_LO 0 0x80000002).wr R.TIME_ADJ_HI.ADJ_HI 0 2) (.fn 0) (7) (0x280000002) := by decide

theorem wit_ClockSettings_4 : (fun (s : State) (f : Fin 64) (w : Word) (v : Nat) => s.canWrite (.fn f) .TIME_ADJ_TICKS 0 ∧ v = s.rd R.TIME_ADJ_HI.ADJ_HI 0 * 2 ^ 32 + s.rd R.TIME_ADJ_LO.ADJ_LO 0 ∧ R.TIME_ADJ_TICKS.TICKS.part w.toNat ≠ 0 ∧ ((v < 0x27FAE147B ∨ 0x28051EB85 < v))) ((base.wr R.TIME_ADJ_LO.ADJ_LO 0 0x8051EB86).wr R.TIME_ADJ_HI.ADJ_HI 0 2) (0) (7) (0x28051EB86) := by decide

theorem wit_ClockSettings_5 : (fun (s : State) (rq : Req) (w : Word) => s.canWrite rq .TIME_ADJ_TICKS 0 ∧ R.TIME_ADJ_TICKS.TICKS.part w.toNat = 0) ({ base with time := { base.time with adj := some (0x280000001, 5) } }) (.fn 0) (0) := by decide

theorem wit_ClockSettings_6 : (fun (s : State) (v : Nat) => s.time.adj = some (v, 0)) ({ base with time := { base.time with adj := some (0x280000001, 0) } }) (0x280000001) := by decide

theorem wit_ClockSettings_7 : (fun (s : State) (rq : Req) (w : Word) => s.canWrite rq .TIME_STEP_CTL 0 ∧ s.time.step = none) (base.wr R.TIME_STEP_NS.NS 0 500) (.fn 0) (0) := by decide

theorem wit_ClockSettings_7_2 : (fun (s : State) (rq : Req) (w : Word) => s.canWrite rq .TIME_STEP_CTL 0 ∧ s.time.step = none) (base.wr R.TIME_STEP_NS.NS 0 500) (.fn 0) (3) := by decide

theorem wit_ClockSettings_8 : (fun (s : State) => (s.time.adj.map (·.2)) ≠ some 0) ({ base with time := { base.time with adj := some (0x280000001, 3) } }) := by decide

theorem wit_ClockSettings_9 : (fun (s : State) (f : Fin 64) (w : Word) (x : StepReq) => s.canWrite (.fn f) .TIME_STEP_CTL 0 ∧ s.time.step = some x) ({ base with time := { base.time with step := some ⟨true, false, 77, 5⟩ } }) (0) (3) (⟨true, false, 77, 5⟩) := by decide

theorem wit_ClockSettings_10 : (fun (s : State) => s.time.step = none) (base) := by decide

theorem wit_ClockSettings_11 : (fun (s : State) (x : StepReq) => s.time.step = some x ∧ x.setMode = true ∧ x.ns < 1000000000 ∧ x.sec < 2 ^ 48) ({ base with time := { base.time with step := some ⟨true, false, 77, 5⟩ } }) (⟨true, false, 77, 5⟩) := by decide

theorem wit_ClockSettings_12 : (fun (s : State) (x : StepReq) => s.time.step = some x ∧ x.setMode = false ∧ x.neg = false ∧ x.ns < 1000000000 ∧ s.clock.fine + s.addendNow + (x.sec * 1000000000 + x.ns) * 2 ^ 32 < 2 ^ 48 * 1000000000 * 2 ^ 32) ({ base with time := { base.time with step := some ⟨false, false, 1, 999999999⟩ } }) (⟨false, false, 1, 999999999⟩) := by decide

theorem wit_ClockSettings_13 : (fun (s : State) (x : StepReq) => s.time.step = some x ∧ x.setMode = false ∧ x.neg = true ∧ x.ns < 1000000000 ∧ (x.sec * 1000000000 + x.ns) * 2 ^ 32 ≤ s.clock.fine + s.addendNow ∧ s.clock.fine + s.addendNow < 2 ^ 48 * 1000000000 * 2 ^ 32) ({ base with clock := { base.clock with sec := 9, ns := 5 }, time := { base.time with step := some ⟨false, true, 2, 7⟩ } }) (⟨false, true, 2, 7⟩) := by decide

theorem wit_ClockSettings_14 : (fun (s : State) (x : StepReq) => s.time.step = some x ∧ ((1000000000 ≤ x.ns ∨ (x.setMode = false ∧ x.neg = true ∧ s.clock.fine + s.addendNow < (x.sec * 1000000000 + x.ns) * 2 ^ 32) ∨ (x.setMode = false ∧ x.neg = false ∧ 2 ^ 48 * 1000000000 * 2 ^ 32 ≤ s.clock.fine + s.addendNow + (x.sec * 1000000000 + x.ns) * 2 ^ 32)))) ({ base with time := { base.time with step := some ⟨false, true, 77, 5⟩ } }) (⟨false, true, 77, 5⟩) := by decide

theorem wit_ClockSettings_14_2 : (fun (s : State) (x : StepReq) => s.time.step = some x ∧ ((1000000000 ≤ x.ns ∨ (x.setMode = false ∧ x.neg = true ∧ s.clock.fine + s.addendNow < (x.sec * 1000000000 + x.ns) * 2 ^ 32) ∨ (x.setMode = false ∧ x.neg = false ∧ 2 ^ 48 * 1000000000 * 2 ^ 32 ≤ s.clock.fine + s.addendNow + (x.sec * 1000000000 + x.ns) * 2 ^ 32)))) ({ base with time := { base.time with step := some ⟨true, false, 0, 1000000000⟩ } }) (⟨true, false, 0, 1000000000⟩) := by decide

theorem wit_ClockSettings_15 : (fun (s : State) (rq : Req) (w : Word) => s.canWrite rq .TIME_QUAL 0 ∧ R.TIME_QUAL.HOST_STATE.part w.toNat ≠ 3) (base) (.fn 0) (0x300) := by decide

theorem wit_ClockSettings_15_2 : (fun (s : State) (rq : Req) (w : Word) => s.canWrite rq .TIME_QUAL 0 ∧ R.TIME_QUAL.HOST_STATE.part w.toNat ≠ 3) (base) (.fn 0) (2) := by decide

theorem wit_ClockSettings_16 : (fun (s : State) (f : Fin 64) (w : Word) => s.canWrite (.fn f) .TIME_QUAL 0 ∧ R.TIME_QUAL.HOST_STATE.part w.toNat = 3) (base) (0) (0x303) := by decide

theorem wit_ClockSettings_17 : (fun (s : State) (rq : Req) (w : Word) => s.canWrite rq .TIME_QUAL 0) (base) (.fn 0) (0x200) := by decide

theorem wit_ClockSettings_18 : (fun (s : State) (n : Nat) => s.time.sync = some n) ({ base.wr R.TIME_QUAL.HOST_STATE 0 0 with time := { base.time with sync := some 0 } }) (0) := by decide

theorem wit_ClockSettings_19 : (fun (s : State) => s.time.sync = none) (base) := by decide

theorem wit_TimingPorts_1 : (fun (s : State) (p : Fin 2) (up : Bool) => s.fl R.TIME_PORT_STATUS.LINK p.val ≠ up ∧ ((up = true → s.portRuns p.val = true))) ({ base with image := some { img with portMode := [1, 1] } }) (1) (true) := by decide

theorem wit_TimingPorts_1_2 : (fun (s : State) (p : Fin 2) (up : Bool) => s.fl R.TIME_PORT_STATUS.LINK p.val ≠ up ∧ ((up = true → s.portRuns p.val = true))) (base.wr R.TIME_PORT_STATUS.LINK 0 1) (0) (false) := by decide

theorem wit_TimingPorts_2 : (fun (s : State) (p : Fin 2) (up : Bool) => (s.fl R.TIME_PORT_STATUS.LINK p.val = up ∨ (up = true ∧ s.portRuns p.val = false))) (base) (1) (false) := by decide

theorem wit_TimingPorts_3 : (fun (s : State) (p : Fin 2) (good : Bool) (sub : Nat) (b : List Byte) => (s.portRuns p.val = false ∨ s.fl R.TIME_PORT_STATUS.LINK p.val = false)) (base) (1) (true) (0) ([]) := by decide

theorem wit_TimingPorts_4 : (fun (s : State) (p : Fin 2) (sub : Nat) (b : List Byte) => s.portRuns p.val = true ∧ s.fl R.TIME_PORT_STATUS.LINK p.val = true ∧ s.frameAddr p.val (b.map (·.toNat)) = false) ({ base.wr R.TIME_PORT_STATUS.LINK 0 1 with image := some { img with portMode := [1, 1] } }) (0) (7) ([9, 9, 9, 9, 9, 9]) := by decide

theorem wit_TimingPorts_5 : (fun (s : State) (p : Fin 2) (sub : Nat) (b : List Byte) => s.portRuns p.val = true ∧ s.fl R.TIME_PORT_STATUS.LINK p.val = true ∧ s.frameAddr p.val (b.map (·.toNat)) = true ∧ frameType (b.map (·.toNat)) = true ∧ ((b.length < 60 ∨ 240 < b.length))) ({ base.wr R.TIME_PORT_STATUS.LINK 0 1 with image := some { img with portMode := [1, 1] } }) (0) (7) ([0x01, 0x1B, 0x19, 0, 0, 0, 1, 2, 3, 4, 5, 6, 0x88, 0xF7]) := by decide

theorem wit_TimingPorts_6 : (fun (s : State) (p : Fin 2) (sub : Nat) (b : List Byte) => s.portRuns p.val = true ∧ s.fl R.TIME_PORT_STATUS.LINK p.val = true ∧ s.frameAddr p.val (b.map (·.toNat)) = true ∧ frameType (b.map (·.toNat)) = true ∧ 60 ≤ b.length ∧ b.length ≤ 240 ∧ s.rd R.TIME_PORT_RX.COUNT p.val = 16) ({ (base.wr R.TIME_PORT_STATUS.LINK 0 1).wr R.TIME_PORT_RX.COUNT 0 16 with image := some { img with portMode := [1, 1] } }) (0) (7) ([0x01, 0x1B, 0x19, 0, 0, 0, 1, 2, 3, 4, 5, 6, 0x88, 0xF7] ++ List.replicate 46 3) := by decide

theorem wit_TimingPorts_7 : (fun (s : State) (p : Fin 2) (sub : Nat) (b : List Byte) => s.portRuns p.val = true ∧ s.fl R.TIME_PORT_STATUS.LINK p.val = true) ({ base.wr R.TIME_PORT_STATUS.LINK 0 1 with image := some { img with portMode := [1, 1] } }) (0) (7) ([]) := by decide

theorem wit_TimingPorts_8 : (fun (s : State) (p : Fin 2) (sub : Nat) (b : List Byte) => s.portRuns p.val = true ∧ s.fl R.TIME_PORT_STATUS.LINK p.val = true ∧ s.frameAddr p.val (b.map (·.toNat)) = true ∧ frameType (b.map (·.toNat)) = false) ({ base.wr R.TIME_PORT_STATUS.LINK 0 1 with image := some { img with portMode := [1, 1] } }) (0) (7) ([0x01, 0x1B, 0x19, 0, 0, 0]) := by decide

theorem wit_TimingPorts_9 : (fun (s : State) (p : Fin 2) (sub : Nat) (b : List Byte) => s.portRuns p.val = true ∧ s.fl R.TIME_PORT_STATUS.LINK p.val = true ∧ s.frameAddr p.val (b.map (·.toNat)) = true ∧ frameType (b.map (·.toNat)) = true ∧ 60 ≤ b.length ∧ b.length ≤ 240 ∧ s.rd R.TIME_PORT_RX.COUNT p.val < 16) ({ base.wr R.TIME_PORT_STATUS.LINK 0 1 with image := some { img with portMode := [1, 1] } }) (0) (7) ([0x01, 0x1B, 0x19, 0, 0, 0, 1, 2, 3, 4, 5, 6, 0x88, 0xF7] ++ List.replicate 46 3) := by decide

theorem wit_TimingPorts_10 : (fun (s : State) (rq : Req) (p : Fin 2) => s.canWrite rq .TIME_PORT_RX p.val ∧ s.rd R.TIME_PORT_RX.COUNT p.val ≠ 0) ((base.wr R.TIME_PORT_RX.COUNT 1 2).wr R.TIME_PORT_RX.HEAD 1 15) (.fn 0) (1) := by decide

theorem wit_TimingPorts_11 : (fun (s : State) (f : Fin 64) (p : Fin 2) => s.canWrite (.fn f) .TIME_PORT_RX p.val ∧ s.rd R.TIME_PORT_RX.COUNT p.val = 0) (base) (0) (1) := by decide

theorem wit_TimingPorts_12 : (fun (s : State) (rq : Req) (p : Fin 2) (w : Word) (slot : Nat) => s.canWrite rq .TIME_PORT_TX p.val ∧ slot = R.TIME_PORT_TX.SLOT.part w.toNat ∧ R.TIME_PORT_TX.ONE_STEP.part w.toNat ≠ 3 ∧ bitAt (s.rd R.TIME_PORT_STATUS.TX_BUSY p.val) slot = false ∧ 14 ≤ leVal (smRead 0 (s.port p.val).tx (256 * slot) 2) ∧ leVal (smRead 0 (s.port p.val).tx (256 * slot) 2) ≤ 240 ∧ frameType (s.txFrame p.val slot) = true ∧ s.fl R.TIME_PORT_STATUS.LINK p.val = true) ((base.wr R.TIME_PORT_STATUS.LINK 0 1).setPort 0 { PortSt.idle with tx := smWrite 0 [] 256 ([60, 0] ++ List.replicate 14 0 ++ List.replicate 12 1 ++ [0x88, 0xF7]) }) (.fn 0) (0) (0x11) (1) := by decide

theorem wit_TimingPorts_13 : (fun (s : State) (rq : Req) (p : Fin 2) (w : Word) (slot len : Nat) => s.canWrite rq .TIME_PORT_TX p.val ∧ slot = R.TIME_PORT_TX.SLOT.part w.toNat ∧ len = leVal (smRead 0 (s.port p.val).tx (256 * slot) 2) ∧ ((s.fl R.TIME_PORT_STATUS.LINK p.val = false ∨ R.TIME_PORT_TX.ONE_STEP.part w.toNat = 3 ∨ bitAt (s.rd R.TIME_PORT_STATUS.TX_BUSY p.val) slot = true ∨ len < 14 ∨ 240 < len ∨ frameType (s.txFrame p.val slot) = false))) (base) (.fn 0) (1) (0) (0) (0) := by decide

theorem wit_TimingPorts_14 : (fun (s : State) (p : Fin 2) (sub : Nat) (j : TxJob) (l : List TxJob) => (s.port p.val).jobs = j :: l ∧ j.stamp = true ∧ (s.port p.val).stamps.length < 8) (base.setPort 0 { PortSt.idle with tx := [(256, 60)], jobs := [⟨1, 0, true, 5⟩] }) (0) (9) (⟨1, 0, true, 5⟩) ([]) := by decide

theorem wit_TimingPorts_15 : (fun (s : State) (p : Fin 2) (sub : Nat) (j : TxJob) (l : List TxJob) => (s.port p.val).jobs = j :: l ∧ j.stamp = false) (base.setPort 0 { PortSt.idle with tx := [(256, 60)], jobs := [⟨1, 0, false, 5⟩] }) (0) (9) (⟨1, 0, false, 5⟩) ([]) := by decide

theorem wit_TimingPorts_16 : (fun (s : State) (p : Fin 2) (sub : Nat) (j : TxJob) (l : List TxJob) => (s.port p.val).jobs = j :: l ∧ j.stamp = true ∧ 8 ≤ (s.port p.val).stamps.length) (base.setPort 0 { PortSt.idle with tx := [(256, 60)], jobs := [⟨1, 0, true, 5⟩], stamps := List.replicate 8 ⟨⟨3, 1, 70, 2⟩, 9⟩ }) (0) (9) (⟨1, 0, true, 5⟩) ([]) := by decide

theorem wit_TimingPorts_17 : (fun (s : State) (p : Fin 2) (sub : Nat) => (s.port p.val).jobs = []) (base) (1) (9) := by decide

theorem wit_TimingPorts_18 : (fun (s : State) (rq : Req) (p : Fin 2) (x : TxStamp) (l : List TxStamp) => s.reachable rq = true ∧ s.mayRead rq .TX_STAMP_FRAC p.val = true ∧ (s.port p.val).stamps = x :: l) (base.setPort 1 { PortSt.idle with stamps := [⟨⟨3, 1, 70, 2⟩, 9⟩] }) (.fn 0) (1) (⟨⟨3, 1, 70, 2⟩, 9⟩) ([]) := by decide

theorem wit_TimingPorts_19 : (fun (s : State) (rq : Req) (p : Fin 2) => s.reachable rq = true ∧ s.mayRead rq .TX_STAMP_FRAC p.val = true ∧ (s.port p.val).stamps = []) (base) (.fn 0) (1) := by decide

theorem wit_TimedOutputs_1 : (fun (s : State) (rq : Req) (n : Fin 4) (w : Word) => s.canWrite rq .TEV_CTL n.val ∧ s.rd R.TEV_START_NS.NS n.val < 1000000000 ∧ s.rd R.TEV_WIDTH.WIDTH n.val ≠ 0 ∧ s.fl R.TEV_CFG.PERIODIC n.val = false ∧ s.clock.units + 6553600 < s.tevStart n.val) ((base.wr R.TEV_WIDTH.WIDTH 2 4).wr R.TEV_START_SEC_LO.SEC_LO 2 9) (.fn 0) (2) (0) := by decide

theorem wit_TimedOutputs_2 : (fun (s : State) (rq : Req) (n : Fin 4) (w : Word) => s.canWrite rq .TEV_CTL n.val ∧ s.rd R.TEV_START_NS.NS n.val < 1000000000 ∧ s.rd R.TEV_WIDTH.WIDTH n.val ≠ 0 ∧ s.fl R.TEV_CFG.PERIODIC n.val = true ∧ 655360 ≤ s.tevPeriod n.val ∧ (s.rd R.TEV_WIDTH.WIDTH n.val + 1) * 163840 < s.tevPeriod n.val) (((base.wr R.TEV_WIDTH.WIDTH 2 4).wr R.TEV_PERIOD_NS.NS 2 1000).wr R.TEV_CFG.PERIODIC 2 1) (.fn 0) (2) (0) := by decide

theorem wit_TimedOutputs_3 : (fun (s : State) (rq : Req) (n : Fin 4) (w : Word) => s.canWrite rq .TEV_CTL n.val ∧ s.rd R.TEV_START_NS.NS n.val < 1000000000 ∧ ((s.rd R.TEV_WIDTH.WIDTH n.val = 0 ∨ (s.fl R.TEV_CFG.PERIODIC n.val = true ∧ (s.tevPeriod n.val < 655360 ∨ s.tevPeriod n.val ≤ (s.rd R.TEV_WIDTH.WIDTH n.val + 1) * 163840))))) (base.wr R.TEV_WIDTH.WIDTH 2 0) (.fn 0) (2) (0) := by decide

theorem wit_TimedOutputs_3_2 : (fun (s : State) (rq : Req) (n : Fin 4) (w : Word) => s.canWrite rq .TEV_CTL n.val ∧ s.rd R.TEV_START_NS.NS n.val < 1000000000 ∧ ((s.rd R.TEV_WIDTH.WIDTH n.val = 0 ∨ (s.fl R.TEV_CFG.PERIODIC n.val = true ∧ (s.tevPeriod n.val < 655360 ∨ s.tevPeriod n.val ≤ (s.rd R.TEV_WIDTH.WIDTH n.val + 1) * 163840))))) (((base.wr R.TEV_WIDTH.WIDTH 2 4).wr R.TEV_PERIOD_NS.NS 2 12).wr R.TEV_CFG.PERIODIC 2 1) (.fn 0) (2) (0) := by decide

theorem wit_TimedOutputs_4 : (fun (s : State) (rq : Req) (n : Fin 4) (w : Word) => s.canWrite rq .TEV_CTL n.val ∧ 1000000000 ≤ s.rd R.TEV_START_NS.NS n.val) (base.wr R.TEV_START_NS.NS 2 1000000000) (.fn 0) (2) (0) := by decide

theorem wit_TimedOutputs_5 : (fun (s : State) (rq : Req) (n : Fin 4) (w : Word) => s.canWrite rq .TEV_CTL n.val ∧ s.rd R.TEV_START_NS.NS n.val < 1000000000 ∧ s.rd R.TEV_WIDTH.WIDTH n.val ≠ 0 ∧ s.fl R.TEV_CFG.PERIODIC n.val = false ∧ s.tevStart n.val ≤ s.clock.units + 6553600) (base.wr R.TEV_WIDTH.WIDTH 2 4) (.fn 0) (2) (0) := by decide

theorem wit_TimedOutputs_5_2 : (fun (s : State) (rq : Req) (n : Fin 4) (w : Word) => s.canWrite rq .TEV_CTL n.val ∧ s.rd R.TEV_START_NS.NS n.val < 1000000000 ∧ s.rd R.TEV_WIDTH.WIDTH n.val ≠ 0 ∧ s.fl R.TEV_CFG.PERIODIC n.val = false ∧ s.tevStart n.val ≤ s.clock.units + 6553600) (((base.wr R.TEV_WIDTH.WIDTH 2 4).wr R.TEV_START_SEC_LO.SEC_LO 2 5).wr R.TEV_START_NS.NS 2 107) (.fn 0) (2) (0) := by decide

theorem wit_TimedOutputs_6 : (fun (s : State) (rq : Req) (n : Fin 4) (w : Word) => s.canWrite rq .TEV_CTL n.val ∧ R.TEV_CTL.ARM.part w.toNat = 0) ((base.wr R.TEV_CTL.ARMED 1 1).setTev 1 ⟨some 5, 3⟩) (.fn 0) (1) (0) := by decide

theorem wit_TimedOutputs_7 : (fun (s : State) (n : Fin 4) (u : Nat) => (s.tev n.val).next = some u ∧ u ≤ s.clock.units ∧ s.imaged = true ∧ s.alive = true) (((base.wr R.TEV_CTL.ARMED 1 1).wr R.TEV_WIDTH.WIDTH 1 8).setTev 1 ⟨some 5, 0⟩) (1) (5) := by decide

theorem wit_TimedOutputs_7_2 : (fun (s : State) (n : Fin 4) (u : Nat) => (s.tev n.val).next = some u ∧ u ≤ s.clock.units ∧ s.imaged = true ∧ s.alive = true) ((((base.wr R.TEV_CTL.ARMED 1 1).wr R.TEV_WIDTH.WIDTH 1 8).wr R.TEV_CFG.PERIODIC 1 1).setTev 1 ⟨some 5, 0⟩) (1) (5) := by decide

theorem wit_TimedOutputs_8 : (fun (s : State) (n : Fin 4) => ((s.tev n.val).next = none ∨ s.imaged = false ∨ s.alive = false ∨ (∃ u, (s.tev n.val).next = some u ∧ s.clock.units < u))) (base) (1) := by decide

theorem wit_SourceArrivals_1 : (fun (s : State) (k : Fin 1152) (n d : Nat) => n = k.val ∧ s.hub.asserted.find? (fun e => e.1 = n) = some (n, d) ∧ srcReal n = true ∧ s.fl R.EVH_SRC_CFG.ENABLE n = true ∧ (s.src n).state = 0) ({ base.wr R.EVH_SRC_CFG.ENABLE 66 1 with hub := ⟨[], [(66, 3)], []⟩ }) (66) (66) (3) := by decide

theorem wit_SourceArrivals_2 : (fun (s : State) (k : Fin 1152) (n d : Nat) => n = k.val ∧ s.hub.asserted.find? (fun e => e.1 = n) = some (n, d) ∧ srcReal n = true ∧ s.fl R.EVH_SRC_CFG.ENABLE n = true ∧ (s.src n).state ≠ 0) ({ base.wr R.EVH_SRC_CFG.ENABLE 66 1 with hub := ⟨[(66, { SrcSt.idle with state := 1, count := 254 })], [(66, 3)], []⟩ }) (66) (66) (3) := by decide

theorem wit_SourceArrivals_2_2 : (fun (s : State) (k : Fin 1152) (n d : Nat) => n = k.val ∧ s.hub.asserted.find? (fun e => e.1 = n) = some (n, d) ∧ srcReal n = true ∧ s.fl R.EVH_SRC_CFG.ENABLE n = true ∧ (s.src n).state ≠ 0) ({ base.wr R.EVH_SRC_CFG.ENABLE 66 1 with hub := ⟨[(66, { SrcSt.idle with state := 2, count := 255 })], [(66, 3), (0, 0)], []⟩ }) (66) (66) (3) := by decide

theorem wit_SourceArrivals_3 : (fun (s : State) (k : Fin 1152) (n d : Nat) => n = k.val ∧ s.hub.asserted.find? (fun e => e.1 = n) = some (n, d) ∧ s.fl R.EVH_SRC_CFG.ENABLE n = false) ({ base with hub := ⟨[], [(66, 3)], []⟩ }) (66) (66) (3) := by decide

theorem wit_SourceArrivals_4 : (fun (s : State) (rq : Req) (n : Fin 1152) => s.canWrite rq .EVH_SRC_STATUS n.val ∧ srcReal n.val = true ∧ s.fl R.EVH_SRC_CFG.ENABLE n.val = true ∧ (s.src n.val).state = 0) (base.wr R.EVH_SRC_CFG.ENABLE 66 1) (.fn 0) (66) := by decide

theorem wit_SourceArrivals_5 : (fun (s : State) (rq : Req) (n : Fin 1152) => s.canWrite rq .EVH_SRC_STATUS n.val ∧ s.fl R.EVH_SRC_CFG.ENABLE n.val = false) (base) (.fn 0) (66) := by decide

theorem wit_SourceArrivals_6 : (fun (s : State) (rq : Req) (n : Fin 1152) => s.canWrite rq .EVH_SRC_STATUS n.val ∧ (s.src n.val).state ≠ 0) (base.setSrc 66 { SrcSt.idle with state := 1, count := 3 }) (.fn 0) (66) := by decide

theorem wit_SourceArrivals_6_2 : (fun (s : State) (rq : Req) (n : Fin 1152) => s.canWrite rq .EVH_SRC_STATUS n.val ∧ (s.src n.val).state ≠ 0) (base.setSrc 66 { SrcSt.idle with state := 2, count := 3, holder := 2 }) (.fn 0) (66) := by decide

theorem wit_SourceArrivals_7 : (fun (s : State) (rq : Req) (n : Fin 1152) (w : Word) => s.canWrite rq .EVH_SRC_CFG n.val ∧ s.routeOk n.val (R.EVH_SRC_CFG.TARGET.part w.toNat) = true ∧ R.EVH_SRC_CFG.TARGET.part w.toNat ≠ 0x10) (base) (.fn 0) (66) (0x81) := by decide

theorem wit_SourceArrivals_7_2 : (fun (s : State) (rq : Req) (n : Fin 1152) (w : Word) => s.canWrite rq .EVH_SRC_CFG n.val ∧ s.routeOk n.val (R.EVH_SRC_CFG.TARGET.part w.toNat) = true ∧ R.EVH_SRC_CFG.TARGET.part w.toNat ≠ 0x10) (base.setSrc 69 { SrcSt.idle with live := true }) (.fn 0) (69) (0xFFFFFFFF) := by decide

theorem wit_SourceArrivals_8 : (fun (s : State) (f : Fin 64) (n : Fin 1152) (w : Word) => s.canWrite (.fn f) .EVH_SRC_CFG n.val ∧ s.routeOk n.val (R.EVH_SRC_CFG.TARGET.part w.toNat) = false) (base) (0) (0) (0) := by decide

theorem wit_EventQueues_1 : (fun (s : State) (rq : Req) (k : Fin 4) (w : Word) (q : Nat) => s.canWrite rq .EVH_Q_CFG k.val ∧ s.copyOf rq .EVH_Q_CFG k.val = q ∧ q % 4 < s.queuesOf (q / 4) ∧ s.fl R.EVH_Q_CFG.EN q = false ∧ s.m.mode ≠ .legacy ∧ 6 ≤ R.EVH_Q_CFG.SIZE_LOG2.part w.toNat ∧ R.EVH_Q_CFG.SIZE_LOG2.part w.toNat ≤ s.rd R.SAG_QUOTA_B.QUEUE_DEPTH_LOG2 (q / 4)) (base.wr R.SAG_QUOTA_B.QUEUE_DEPTH_LOG2 0 8) (.fn 0) (3) (BitVec.ofNat 32 (8 * 2 ^ R.EVH_Q_CFG.SIZE_LOG2.lo)) (3) := by decide

theorem wit_EventQueues_2 : (fun (s : State) (rq : Req) (k : Fin 4) (w : Word) (q : Nat) => s.canWrite rq .EVH_Q_CFG k.val ∧ s.copyOf rq .EVH_Q_CFG k.val = q ∧ q % 4 < s.queuesOf (q / 4) ∧ s.fl R.EVH_Q_CFG.EN q = true) (((base.wr R.EVH_Q_CFG.EN 2 1).setQueue 2 ⟨[66, 67], 2, 0⟩).setSrc 66 { SrcSt.idle with state := 2, holder := 19 }) (.fn 0) (2) (0) (2) := by decide

theorem wit_EventQueues_3 : (fun (s : State) (sag : Fin 16) (k : Fin 4) (q n : Nat) => q = 4 * sag.val + k.val ∧ s.queueNext q = some n ∧ (s.queue q).recs = []) (((((base.wr R.EVH_Q_CFG.EN 2 1).wr R.EVH_Q_CFG.SIZE_LOG2 2 6).wr R.EVH_SRC_CFG.ENABLE 66 1).wr R.EVH_SRC_CFG.TARGET 66 0x22).setSrc 66 { SrcSt.idle with state := 1 }) (0) (2) (2) (66) := by decide

theorem wit_EventQueues_4 : (fun (s : State) (sag : Fin 16) (k : Fin 4) (q n : Nat) => q = 4 * sag.val + k.val ∧ s.queueNext q = some n ∧ (s.queue q).recs ≠ []) ((((((base.wr R.EVH_Q_CFG.EN 2 1).wr R.EVH_Q_CFG.SIZE_LOG2 2 6).wr R.EVH_SRC_CFG.ENABLE 66 1).wr R.EVH_SRC_CFG.TARGET 66 0x22).setSrc 66 { SrcSt.idle with state := 1 }).setQueue 2 ⟨[3], 1, 0⟩) (0) (2) (2) (66) := by decide

theorem wit_EventQueues_5 : (fun (s : State) (sag : Fin 16) (k : Fin 4) (q n : Nat) => q = 4 * sag.val + k.val ∧ (s.queue q).recs.getLast? = some n) (((base.wr R.EVH_Q_CFG.EN 2 1).setQueue 2 ⟨[66], 2, 0⟩).setSrc 66 { SrcSt.idle with state := 2, holder := 19 }) (0) (2) (2) (66) := by decide

theorem wit_EventQueues_6 : (fun (s : State) (rq : Req) (k : Fin 4) (w : Word) (q v n : Nat) => s.canWrite rq .EVH_Q_RPTR k.val ∧ s.copyOf rq .EVH_Q_RPTR k.val = q ∧ q % 4 < s.queuesOf (q / 4) ∧ v = R.EVH_Q_RPTR.RPTR.part w.toNat ∧ v < s.qDepth q ∧ n = (v + s.qDepth q - s.rd R.EVH_Q_RPTR.RPTR q % s.qDepth q) % s.qDepth q ∧ n ≤ (s.rd R.EVH_Q_WPTR.WPTR q + s.qDepth q - s.rd R.EVH_Q_RPTR.RPTR q % s.qDepth q) % s.qDepth q) ((((base.wr R.EVH_Q_CFG.EN 2 1).wr R.EVH_Q_CFG.SIZE_LOG2 2 6).wr R.EVH_Q_WPTR.WPTR 2 2).setQueue 2 ⟨[66, 3], 2, 0⟩ |>.setSrc 66 { SrcSt.idle with state := 2 }) (.fn 0) (2) (1) (2) (1) (1) := by decide

theorem wit_EventQueues_7 : (fun (s : State) (f : Fin 64) (k : Fin 4) (w : Word) (q : Nat) => s.canWrite (.fn f) .EVH_Q_RPTR k.val ∧ s.copyOf (.fn f) .EVH_Q_RPTR k.val = q ∧ s.qDepth q ≤ R.EVH_Q_RPTR.RPTR.part w.toNat) ((base.wr R.EVH_Q_CFG.EN 2 1).wr R.EVH_Q_CFG.SIZE_LOG2 2 6) (0) (2) (64) (2) := by decide

theorem wit_EventQueues_8 : (fun (s : State) (g : Fin 64) => s.fl R.EVH_HOLDOFF.RUNNING g.val = true ∧ ((∀ q ∈ List.range 64, ¬(s.fl R.EVH_Q_STATUS.NOTIFY_WITHHELD q = true ∧ (s.queue q).held = g.val)))) (base.wr R.EVH_HOLDOFF.RUNNING 5 1) (5) := by decide

theorem wit_EventQueues_9 : (fun (s : State) (g : Fin 64) (q : Fin 64) (n : Nat) (l : List Nat) => s.fl R.EVH_HOLDOFF.RUNNING g.val = true ∧ s.fl R.EVH_Q_STATUS.NOTIFY_WITHHELD q.val = true ∧ (s.queue q.val).held = g.val ∧ (s.queue q.val).recs = n :: l) ((((base.wr R.EVH_HOLDOFF.RUNNING 5 1).wr R.EVH_Q_STATUS.NOTIFY_WITHHELD 2 1).setQueue 2 ⟨[66], 1, 5⟩)) (5) (2) (66) ([]) := by decide

theorem wit_TimeIntervals_1 : (fun (s : State) (rq : Req) (i : Fin 68) (w : Word) => s.canWrite rq .TDC_CTL i.val ∧ s.tdcGone i.val = false) (base) (.fn 0) (5) (0) := by decide

theorem wit_TimeIntervals_2 : (fun (s : State) (f : Fin 64) (i : Fin 68) (w : Word) => s.canWrite (.fn f) .TDC_CTL i.val ∧ s.tdcGone i.val = true) ({ base with spare := { base.spare with state := smSet 0 base.spare.state (place 5 5) 6 } }) (0) (5) (0) := by decide

theorem wit_TimeIntervals_3 : (fun (s : State) (rq : Req) (i : Fin 68) (w : Word) => s.canWrite rq .TDC_CTL i.val ∧ R.TDC_CTL.ARM.part w.toNat = 0) ((base.wr R.TDC_CTL.ARMED 5 1).setTdc 5 { TdcSt.idle with start := some 3 }) (.fn 0) (5) (0) := by decide

theorem wit_TimeIntervals_4 : (fun (s : State) (rq : Req) (i : Fin 68) (w : Word) => s.canWrite rq .TDC_CTL i.val ∧ R.TDC_CTL.ARM.part w.toNat = 1 ∧ s.tdcGone i.val = false) ((base.wr R.TDC_CTL.ARMED 5 1).setTdc 5 { TdcSt.idle with start := some 3 }) (.fn 0) (5) (1) := by decide

theorem wit_TimeIntervals_5 : (fun (s : State) (i : Fin 68) (bin : Nat) => s.tdcLive i.val = true ∧ s.edgeSeen i.val (s.rd R.TDC_CFG.START_SRC i.val) (s.fl R.TDC_CFG.START_EDGE i.val) = true ∧ (s.tdc i.val).start = none ∧ (s.tdc i.val).early.all (fun e => s.rd R.TDC_CFG.MODE i.val ≠ 0 || e.1 ≠ bin) = true) (base.wr R.TDC_CTL.ARMED 5 1) (5) (1000) := by decide

theorem wit_TimeIntervals_6 : (fun (s : State) (i : Fin 68) (bin : Nat) => ((s.edgeSeen i.val (s.rd R.TDC_CFG.START_SRC i.val) (s.fl R.TDC_CFG.START_EDGE i.val) = false ∨ s.tdcLive i.val = false))) (base) (5) (1000) := by decide

theorem wit_TimeIntervals_7 : (fun (s : State) (i : Fin 68) (bin st : Nat) => s.tdcLive i.val = true ∧ s.edgeSeen i.val (s.rd R.TDC_CFG.START_SRC i.val) (s.fl R.TDC_CFG.START_EDGE i.val) = true ∧ (s.tdc i.val).start = some st ∧ s.rd R.TDC_CFG.MODE i.val = 0) ((base.wr R.TDC_CTL.ARMED 5 1).setTdc 5 { TdcSt.idle with start := some 3 }) (5) (9) (3) := by decide

theorem wit_TimeIntervals_8 : (fun (s : State) (i : Fin 68) (bin st : Nat) => s.tdcLive i.val = true ∧ s.edgeSeen i.val (s.rd R.TDC_CFG.START_SRC i.val) (s.fl R.TDC_CFG.START_EDGE i.val) = true ∧ (s.tdc i.val).start = some st ∧ s.rd R.TDC_CFG.MODE i.val = 1 ∧ ((s.persona (i.val / 16) = true ∨ s.rd R.TDC_CFG.DEST i.val = 0 ∨ s.rd R.TDC_CFG.DEST i.val = 2)) ∧ (s.tdc i.val).fifo.length < 16) (((base.wr R.TDC_CTL.ARMED 5 1).setTdc 5 { TdcSt.idle with start := some 3 }).wr R.TDC_CFG.MODE 5 1) (5) (9) (3) := by decide

theorem wit_TimeIntervals_9 : (fun (s : State) (i : Fin 68) (bin : Nat) => s.tdcLive i.val = true ∧ s.edgeSeen i.val (s.stopOf i.val).1 (s.stopOf i.val).2 = true ∧ (s.tdc i.val).start = none ∧ s.rd R.TDC_CFG.MODE i.val = 0) (base.wr R.TDC_CTL.ARMED 5 1) (5) (1000) := by decide

theorem wit_TimeIntervals_10 : (fun (s : State) (i : Fin 68) (bin st : Nat) => s.tdcLive i.val = true ∧ s.edgeSeen i.val (s.stopOf i.val).1 (s.stopOf i.val).2 = true ∧ (s.tdc i.val).start = some st ∧ ((s.rd R.TDC_CFG.MODE i.val = 0 ∨ s.rd R.TDC_CFG.MODE i.val = 2)) ∧ ((s.persona (i.val / 16) = true ∨ s.rd R.TDC_CFG.DEST i.val = 0 ∨ s.rd R.TDC_CFG.DEST i.val = 2)) ∧ (s.tdc i.val).fifo.length < 16) ((base.wr R.TDC_CTL.ARMED 5 1).setTdc 5 { TdcSt.idle with start := some 3 }) (5) (9) (3) := by decide

theorem wit_TimeIntervals_10_2 : (fun (s : State) (i : Fin 68) (bin st : Nat) => s.tdcLive i.val = true ∧ s.edgeSeen i.val (s.stopOf i.val).1 (s.stopOf i.val).2 = true ∧ (s.tdc i.val).start = some st ∧ ((s.rd R.TDC_CFG.MODE i.val = 0 ∨ s.rd R.TDC_CFG.MODE i.val = 2)) ∧ ((s.persona (i.val / 16) = true ∨ s.rd R.TDC_CFG.DEST i.val = 0 ∨ s.rd R.TDC_CFG.DEST i.val = 2)) ∧ (s.tdc i.val).fifo.length < 16) ((base.wr R.TDC_CTL.ARMED 5 1).setTdc 5 { TdcSt.idle with start := some 3 }) (5) (3) (3) := by decide

theorem wit_TimeIntervals_11 : (fun (s : State) (i : Fin 68) (bin st : Nat) => s.tdcLive i.val = true ∧ s.edgeSeen i.val (s.stopOf i.val).1 (s.stopOf i.val).2 = true ∧ (s.tdc i.val).start = some st ∧ ((s.rd R.TDC_CFG.MODE i.val = 0 ∨ s.rd R.TDC_CFG.MODE i.val = 2)) ∧ ((s.persona (i.val / 16) = true ∨ s.rd R.TDC_CFG.DEST i.val = 0 ∨ s.rd R.TDC_CFG.DEST i.val = 2)) ∧ 16 ≤ (s.tdc i.val).fifo.length) ((base.wr R.TDC_CTL.ARMED 5 1).setTdc 5 { TdcSt.idle with start := some 3, fifo := List.replicate 16 ⟨0, 0, 0, 0⟩ }) (5) (9) (3) := by decide

theorem wit_TimeIntervals_12 : (fun (s : State) (i : Fin 68) (bin : Nat) => ((s.edgeSeen i.val (s.stopOf i.val).1 (s.stopOf i.val).2 = false ∨ s.tdcLive i.val = false ∨ s.rd R.TDC_CFG.MODE i.val = 1 ∨ ((s.tdc i.val).start = none ∧ s.rd R.TDC_CFG.MODE i.val ≠ 0)))) (((base.wr R.TDC_CTL.ARMED 5 1).setTdc 5 { TdcSt.idle with start := some 3 }).wr R.TDC_CFG.MODE 5 1) (5) (1000) := by decide

theorem wit_TimeIntervals_13 : (fun (s : State) (i : Fin 68) (bin st : Nat) => s.tdcLive i.val = true ∧ s.edgeSeen i.val (s.stopOf i.val).1 (s.stopOf i.val).2 = true ∧ (s.tdc i.val).start = some st ∧ s.rd R.TDC_CFG.MODE i.val = 3 ∧ (s.tdc i.val).edges ≠ 2 ^ 24 - 1) (((base.wr R.TDC_CTL.ARMED 5 1).setTdc 5 { TdcSt.idle with start := some 3 }).wr R.TDC_CFG.MODE 5 3) (5) (9) (3) := by decide

theorem wit_TimeIntervals_14 : (fun (s : State) (i : Fin 68) (st : Nat) => s.tdcLive i.val = true ∧ (s.tdc i.val).start = some st ∧ s.rd R.TDC_CFG.MODE i.val = 3 ∧ 2 ≤ (s.tdc i.val).edges ∧ (s.tdc i.val).first ≤ (s.tdc i.val).last ∧ (s.tdc i.val).last - (s.tdc i.val).first < 2 ^ 36 ∧ ((s.persona (i.val / 16) = true ∨ s.rd R.TDC_CFG.DEST i.val = 0 ∨ s.rd R.TDC_CFG.DEST i.val = 2)) ∧ (s.tdc i.val).fifo.length < 16) (((base.wr R.TDC_CTL.ARMED 5 1).wr R.TDC_CFG.MODE 5 3).setTdc 5 { TdcSt.idle with start := some 3, first := 10, last := 1003, edges := 4 }) (5) (3) := by decide

theorem wit_TimeIntervals_15 : (fun (s : State) (i : Fin 68) (st : Nat) => s.tdcLive i.val = true ∧ (s.tdc i.val).start = some st ∧ s.rd R.TDC_CFG.MODE i.val = 3 ∧ (s.tdc i.val).edges < 2 ∧ ((s.persona (i.val / 16) = true ∨ s.rd R.TDC_CFG.DEST i.val = 0 ∨ s.rd R.TDC_CFG.DEST i.val = 2)) ∧ (s.tdc i.val).fifo.length < 16) (((base.wr R.TDC_CTL.ARMED 5 1).wr R.TDC_CFG.MODE 5 3).setTdc 5 { TdcSt.idle with start := some 3, edges := 1 }) (5) (3) := by decide

theorem wit_TimeIntervals_16 : (fun (s : State) (i : Fin 68) (st : Nat) => s.tdcLive i.val = true ∧ (s.tdc i.val).start = some st ∧ s.rd R.TDC_CFG.MODE i.val ≠ 3 ∧ ((s.persona (i.val / 16) = true ∨ s.rd R.TDC_CFG.DEST i.val = 0 ∨ s.rd R.TDC_CFG.DEST i.val = 2)) ∧ (s.tdc i.val).fifo.length < 16) ((base.wr R.TDC_CTL.ARMED 5 1).setTdc 5 { TdcSt.idle with start := some 3 }) (5) (3) := by decide

theorem wit_TimeIntervals_18 : (fun (s : State) (rq : Req) (i : Fin 68) (r : TdcRes) (l : List TdcRes) => s.reachable rq = true ∧ s.mayRead rq .TDC_RES_LO i.val = true ∧ (s.tdc i.val).fifo = r :: l) (base.setTdc 5 { TdcSt.idle with fifo := [⟨2 ^ 40 + 7, 0, 1, 99⟩] }) (.fn 0) (5) (⟨2 ^ 40 + 7, 0, 1, 99⟩) ([]) := by decide

theorem wit_TimeIntervals_19 : (fun (s : State) (rq : Req) (i : Fin 68) => s.reachable rq = true ∧ s.mayRead rq .TDC_RES_LO i.val = true ∧ (s.tdc i.val).fifo = []) (base) (.fn 0) (5) := by decide

theorem wit_Contexts_1 : (fun (s : State) (rq : Req) (w : Word) (c : Nat) => s.canWrite rq .RED_CMD 0 ∧ c = R.RED_CMD.CTX.part w.toNat ∧ s.ctxRefused (s.sagOf rq) c 1 = false ∧ (s.ctx c).state = 1) (redAt base) (.fn 0) (0x105) (0x105) := by decide

theorem wit_Contexts_2 : (fun (s : State) (rq : Req) (w : Word) (c : Nat) => s.canWrite rq .RED_CMD 0 ∧ c = R.RED_CMD.CTX.part w.toNat ∧ s.ctxRefused (s.sagOf rq) c 1 = false ∧ (s.ctx c).state = 2 ∧ smGet 0 s.red.ecc c ≠ 2 ∧ ((∀ d ∈ s.red.pending, d / 256 ≠ c / 256)) ∧ s.grpRoom (c / 256) = true) ((redAt base).setCtx 0x105 { CtxSt.idle with state := 2, n := 3, mean := 65536 * 4 }) (.fn 0) (0x105) (0x105) := by decide

theorem wit_Contexts_3 : (fun (s : State) (rq : Req) (w : Word) (c : Nat) => s.canWrite rq .RED_CMD 0 ∧ c = R.RED_CMD.CTX.part w.toNat ∧ s.ctxRefused (s.sagOf rq) c 1 = false ∧ (s.ctx c).state = 3 ∧ smGet 0 s.red.ecc c ≠ 2) ((redAt base).setCtx 0x105 { CtxSt.idle with state := 3 }) (.fn 0) (0x105) (0x105) := by decide

theorem wit_Contexts_4 : (fun (s : State) (f : Fin 64) (w : Word) (c : Nat) => s.canWrite (.fn f) .RED_CMD 0 ∧ c = R.RED_CMD.CTX.part w.toNat ∧ s.ctxRefused (s.sagOf (.fn f)) c 1 = true) (base) (0) (0x205) (0x205) := by decide

theorem wit_Contexts_5 : (fun (s : State) (rq : Req) (w : Word) (c : Nat) => s.canWrite rq .RED_CMD 0 ∧ c = R.RED_CMD.CTX.part w.toNat ∧ s.ctxRefused (s.sagOf rq) c 2 = false ∧ (s.ctx c).state = 2 ∧ smGet 0 s.red.ecc c ≠ 2 ∧ ((∀ d ∈ s.red.pending, d / 256 ≠ c / 256)) ∧ s.grpRoom (c / 256) = true) ((redAt base).setCtx 0x105 { CtxSt.idle with state := 2, n := 3, mean := 65536 * 4 }) (.fn 0) (0x105) (0x105) := by decide

theorem wit_Contexts_6 : (fun (s : State) (rq : Req) (w : Word) (c : Nat) => s.canWrite rq .RED_CMD 0 ∧ c = R.RED_CMD.CTX.part w.toNat ∧ s.ctxRefused (s.sagOf rq) c 2 = false ∧ (s.ctx c).state = 2 ∧ smGet 0 s.red.ecc c ≠ 2 ∧ s.grpRoom (c / 256) = false) (((redAt base).setCtx 0x105 { CtxSt.idle with state := 2 }).wr R.RED_GRP_RPTR.RPTR 1 1) (.fn 0) (0x105) (0x105) := by decide

theorem wit_Contexts_7 : (fun (s : State) (rq : Req) (w : Word) (c : Nat) => s.canWrite rq .RED_CMD 0 ∧ c = R.RED_CMD.CTX.part w.toNat ∧ s.ctxRefused (s.sagOf rq) c 2 = false ∧ (s.ctx c).state = 3 ∧ smGet 0 s.red.ecc c ≠ 2) ((redAt base).setCtx 0x105 { CtxSt.idle with state := 3 }) (.fn 0) (0x105) (0x105) := by decide

theorem wit_Contexts_8 : (fun (s : State) (rq : Req) (w : Word) (c : Nat) => s.canWrite rq .RED_CMD 0 ∧ c = R.RED_CMD.CTX.part w.toNat ∧ s.ctxRefused (s.sagOf rq) c 2 = false ∧ (s.ctx c).state = 1) (redAt base) (.fn 0) (0x105) (0x105) := by decide

theorem wit_Contexts_9 : (fun (s : State) (rq : Req) (w : Word) (c : Nat) => s.canWrite rq .RED_CMD 0 ∧ c = R.RED_CMD.CTX.part w.toNat ∧ s.ctxRefused (s.sagOf rq) c 2 = false ∧ (s.ctx c).state = 2 ∧ smGet 0 s.red.ecc c = 2 ∧ ((∀ d ∈ s.red.pending, d / 256 ≠ c / 256)) ∧ s.grpRoom (c / 256) = true) ({ (redAt base).setCtx 0x105 { CtxSt.idle with state := 2 } with red := { ((redAt base).setCtx 0x105 { CtxSt.idle with state := 2 }).red with ecc := [(0x105, 2)] } }) (.fn 0) (0x105) (0x105) := by decide

theorem wit_Contexts_10 : (fun (s : State) (f : Fin 64) (w : Word) (c : Nat) => s.canWrite (.fn f) .RED_CMD 0 ∧ c = R.RED_CMD.CTX.part w.toNat ∧ s.ctxRefused (s.sagOf (.fn f)) c 2 = true) (base) (0) (0x205) (0x205) := by decide

theorem wit_Contexts_11 : (fun (s : State) (rq : Req) (w : Word) (c : Nat) => s.canWrite rq .RED_CMD 0 ∧ c = R.RED_CMD.CTX.part w.toNat ∧ s.ctxRefused (s.sagOf rq) c 3 = false) ((redAt base).setCtx 0x105 { CtxSt.idle with state := 2 }) (.fn 0) (0x105) (0x105) := by decide

theorem wit_Contexts_12 : (fun (s : State) (f : Fin 64) (w : Word) (c : Nat) => s.canWrite (.fn f) .RED_CMD 0 ∧ c = R.RED_CMD.CTX.part w.toNat ∧ s.ctxRefused (s.sagOf (.fn f)) c 3 = true) (base) (0) (0x205) (0x205) := by decide

theorem wit_Contexts_13 : (fun (s : State) (pf : Option (Fin 5)) (e : RedSample) (c : Nat) => s.redNext = some e ∧ c = e.ctx ∧ (s.grpOwner (c / 256)).isSome = true ∧ (s.ctx c).state = 2 ∧ smGet 0 s.red.ecc c ≠ 2 ∧ (s.ctx c).excludes e.flags = false ∧ (s.ctx c).n + 1 ≠ (s.ctx c).target ∧ (s.ctx c).n + 1 < 2 ^ 32 - 1) ({ redAt base with red := { (redAt base).red with fifo := [⟨3, 0x105, 500, 0, 65536⟩] } }.setCtx 0x105 { CtxSt.idle with state := 2 }) (none) (⟨3, 0x105, 500, 0, 65536⟩) (0x105) := by decide

theorem wit_Contexts_14 : (fun (s : State) (pf : Option (Fin 5)) (e : RedSample) (c : Nat) => s.redNext = some e ∧ c = e.ctx ∧ (s.grpOwner (c / 256)).isSome = true ∧ (s.ctx c).state = 2 ∧ smGet 0 s.red.ecc c ≠ 2 ∧ (s.ctx c).excludes e.flags = true) ({ redAt base with red := { (redAt base).red with fifo := [⟨3, 0x105, 500, 16, 65536⟩] } }.setCtx 0x105 { CtxSt.idle with state := 2, ctl := 8 }) (none) (⟨3, 0x105, 500, 16, 65536⟩) (0x105) := by decide

theorem wit_Contexts_15 : (fun (s : State) (pf : Option (Fin 5)) (e : RedSample) (c : Nat) => s.redNext = some e ∧ c = e.ctx ∧ (s.grpOwner (c / 256)).isSome = true ∧ (s.ctx c).state = 1) ({ redAt base with red := { (redAt base).red with fifo := [⟨3, 0x105, 500, 0, 65536⟩] } }) (none) (⟨3, 0x105, 500, 0, 65536⟩) (0x105) := by decide

theorem wit_Contexts_16 : (fun (s : State) (pf : Option (Fin 5)) (e : RedSample) (c : Nat) => s.redNext = some e ∧ c = e.ctx ∧ (s.grpOwner (c / 256)).isSome = true ∧ (s.ctx c).state = 3 ∧ smGet 0 s.red.ecc c ≠ 2) ({ redAt base with red := { (redAt base).red with fifo := [⟨3, 0x105, 500, 0, 65536⟩] } }.setCtx 0x105 { CtxSt.idle with state := 3 }) (none) (⟨3, 0x105, 500, 0, 65536⟩) (0x105) := by decide

theorem wit_Contexts_17 : (fun (s : State) (e : RedSample) (c : Nat) => s.redNext = some e ∧ c = e.ctx ∧ (s.grpOwner (c / 256)).isSome = true ∧ (s.ctx c).state = 2 ∧ smGet 0 s.red.ecc c ≠ 2 ∧ (s.ctx c).excludes e.flags = false ∧ (((s.ctx c).n + 1 = (s.ctx c).target ∨ (s.ctx c).n + 1 = 2 ^ 32 - 1)) ∧ s.grpRoom (c / 256) = false) ({ (redAt base).setCtx 0x105 { CtxSt.idle with state := 2, target := 1 } with red := { ((redAt base).setCtx 0x105 { CtxSt.idle with state := 2, target := 1 }).red with fifo := [⟨3, 0x105, 500, 0, 65536⟩] } }.wr R.RED_GRP_RPTR.RPTR 1 1) (⟨3, 0x105, 500, 0, 65536⟩) (0x105) := by decide

theorem wit_Contexts_18 : (fun (s : State) (f : Fin 5) (e : RedSample) => s.redNext = some e ∧ s.pipeServes f.val e.ctx = true) ({ redAt base with red := { (redAt base).red with fifo := [⟨3, 0x105, 500, 0, 65536⟩] } }) (1) (⟨3, 0x105, 500, 0, 65536⟩) := by decide

theorem wit_Contexts_19 : (fun (s : State) (g : Fin 64) (b : List Nat) => s.red.buffer.find? (fun e => e.1 = g.val) = some (g.val, b) ∧ s.grpSize g.val ≠ 0 ∧ s.regionTaken (s.grpAddr g.val (s.rd R.RED_GRP_WPTR.WPTR g.val) / 3145728) true = false) ({ redAt base with red := { (redAt base).red with buffer := [(1, List.replicate 64 7)] } }) (1) (List.replicate 64 7) := by decide

theorem wit_Acquisition_1 : (fun (s : State) (rq : Req) (t' : Fin 16) (w : Word) => s.canWrite rq .ACQ_CTL t'.val ∧ s.acqState t'.val = 0 ∧ s.acqArmCause t'.val = 0) (((((base.wr R.ACQ_SRC.KIND 3 1).wr R.ACQ_CFG.REDS 3 1).wr R.ACQ_AREA.BLOCKS 3 1).wr R.SAG_BLK_OWNER.ALLOTTED 160 1).wr R.ACQ_AUTO.AUTO_TIMEOUT 3 5) (.fn 0) (3) (0) := by decide

theorem wit_Acquisition_2 : (fun (s : State) (rq : Req) (t' : Fin 16) (w : Word) => s.canWrite rq .ACQ_CTL t'.val ∧ s.acqState t'.val = 0 ∧ s.acqArmCause t'.val ≠ 0) (base) (.fn 0) (3) (0) := by decide

theorem wit_Acquisition_3 : (fun (s : State) (t' : Fin 16) => s.acqState t'.val = 1) (base.wr R.ACQ_CTL.STATE 3 1) (3) := by decide

theorem wit_Acquisition_4 : (fun (s : State) (t' : Fin 16) => s.acqState t'.val ≠ 1) (base) (3) := by decide

theorem wit_Acquisition_5 : (fun (s : State) (t' : Fin 16) => (s.acq t'.val).waiting = []) (base) (3) := by decide

theorem wit_Acquisition_6 : (fun (s : State) (t' : Fin 16) (x : AcqSample) (l : List AcqSample) => ((s.acqState t'.val = 0 ∨ 3 < s.acqState t'.val)) ∧ (s.acq t'.val).waiting = x :: l) (base.setAcq 3 { AcqSt.idle with waiting := [⟨100, 7, 0, 0, false, false, 0, 0, 0, 0⟩] }) (3) (⟨100, 7, 0, 0, false, false, 0, 0, 0, 0⟩) ([]) := by decide

theorem wit_Acquisition_7 : (fun (s : State) (t' : Fin 16) (x : AcqSample) (l : List AcqSample) => s.acqState t'.val = 2 ∧ (s.acq t'.val).waiting = x :: l ∧ s.acqOwn t'.val x = [] ∧ (s.acq t'.val).conds = [] ∧ (s.acq t'.val).forced = false) (((base.wr R.ACQ_CTL.STATE 3 2).wr R.ACQ_PRE.PRE 3 4).setAcq 3 { AcqSt.idle with waiting := [⟨100, 7, 0, 0, false, false, 0, 0, 0, 0⟩] }) (3) (⟨100, 7, 0, 0, false, false, 0, 0, 0, 0⟩) ([]) := by decide

theorem wit_Acquisition_8 : (fun (s : State) (t' : Fin 16) (x : AcqSample) (l : List AcqSample) => s.acqState t'.val = 2 ∧ (s.acq t'.val).waiting = x :: l ∧ s.acqPost t'.val ≠ 1 ∧ (s.acq t'.val).pre = [] ∧ (((s.acq t'.val).forced = true ∨ (s.fl R.ACQ_CFG.COMBINE t'.val = false ∧ (s.acqOwn t'.val x ≠ [] ∨ ∃ e ∈ (s.acq t'.val).conds, e.2 ≤ x.time ∧ e.1 < 8))))) (((base.wr R.ACQ_CTL.STATE 3 2).wr R.ACQ_POST.POST 3 4).wr R.ACQ_SRC.KIND 3 1 |>.setAcq 3 { AcqSt.idle with forced := true, waiting := [⟨100, 7, 0, 0, false, false, 0, 0, 0, 0⟩] }) (3) (⟨100, 7, 0, 0, false, false, 0, 0, 0, 0⟩) ([]) := by decide

theorem wit_Acquisition_9 : (fun (s : State) (t' : Fin 16) (x : AcqSample) (l : List AcqSample) => s.acqState t'.val = 3 ∧ (s.acq t'.val).waiting = x :: l ∧ x.time < (s.acq t'.val).trig.time + (2 ^ 31 - 1) * tickUnits ∧ (s.acqPostTake t'.val (s.acq t'.val) x).writes.length ≤ 8) ((base.wr R.ACQ_CTL.STATE 3 3).wr R.ACQ_POST.POST 3 4 |>.setAcq 3 { AcqSt.idle with waiting := [⟨100, 7, 0, 0, false, false, 0, 0, 0, 0⟩] }) (3) (⟨100, 7, 0, 0, false, false, 0, 0, 0, 0⟩) ([]) := by decide

theorem wit_Acquisition_10 : (fun (s : State) (t' : Fin 16) (x : AcqSample) (l : List AcqSample) => s.acqState t'.val = 3 ∧ (s.acq t'.val).waiting = x :: l ∧ (s.acq t'.val).trig.time + (2 ^ 31 - 1) * tickUnits ≤ x.time) ((base.wr R.ACQ_CTL.STATE 3 3).setAcq 3 { AcqSt.idle with waiting := [⟨(2 ^ 31 + 9) * tickUnits, 7, 0, 0, false, false, 0, 0, 0, 0⟩] }) (3) (⟨(2 ^ 31 + 9) * tickUnits, 7, 0, 0, false, false, 0, 0, 0, 0⟩) ([]) := by decide

theorem wit_Acquisition_11 : (fun (s : State) (t' : Fin 16) (x : AcqSample) (l : List AcqSample) => s.acqState t'.val = 1 ∧ (s.acq t'.val).waiting = x :: l ∧ (∃ e ∈ (s.acq t'.val).conds, e.2 ≤ x.time ∧ e.1 < 8)) ((base.wr R.ACQ_CTL.STATE 3 1).setAcq 3 { AcqSt.idle with conds := [(2, 50)], waiting := [⟨100, 7, 0, 0, false, false, 0, 0, 0, 0⟩] }) (3) (⟨100, 7, 0, 0, false, false, 0, 0, 0, 0⟩) ([]) := by decide

theorem wit_Acquisition_12 : (fun (s : State) (rq : Req) (t' : Fin 16) (w : Word) => s.canWrite rq .ACQ_CTL t'.val ∧ s.acqState t'.val = 2 ∧ R.ACQ_CTL.DISARM.part w.toNat = 0) (base.wr R.ACQ_CTL.STATE 3 2) (.fn 0) (3) (0) := by decide

theorem wit_Acquisition_13 : (fun (s : State) (t' : Fin 16) => s.rd R.ACQ_AUTO.AUTO_TIMEOUT t'.val ≠ 0 ∧ s.acqState t'.val = 2) ((base.wr R.ACQ_CTL.STATE 3 2).wr R.ACQ_AUTO.AUTO_TIMEOUT 3 1) (3) := by decide

theorem wit_Acquisition_14 : (fun (s : State) (t' : Fin 16) => (s.rd R.ACQ_AUTO.AUTO_TIMEOUT t'.val = 0 ∨ s.acqState t'.val ≠ 2)) (base) (3) := by decide

theorem wit_Acquisition_15 : (fun (s : State) (rq : Req) (t' : Fin 16) (w : Word) => s.canWrite rq .ACQ_CTL t'.val ∧ ((s.acqState t'.val = 1 ∨ s.acqState t'.val = 2 ∨ s.acqState t'.val = 5))) (base.wr R.ACQ_CTL.STATE 3 5) (.fn 0) (3) (0) := by decide

theorem wit_Acquisition_16 : (fun (s : State) (rq : Req) (t' : Fin 16) (w : Word) => s.canWrite rq .ACQ_CTL t'.val ∧ s.acqState t'.val = 3) (base.wr R.ACQ_CTL.STATE 3 3) (.fn 0) (3) (0) := by decide

theorem wit_Acquisition_17 : (fun (s : State) (t' : Fin 16) => s.acqState t'.val = 4 ∧ ((s.acqRegions t'.val).any fun r => s.regionTaken r false) = false ∧ (s.acq t'.val).disarm = true) (((base.wr R.ACQ_CTL.STATE 3 4).wr R.ACQ_RING.SLOTS 3 3).setAcq 3 { AcqSt.idle with disarm := true }) (3) := by decide

theorem wit_Acquisition_18 : (fun (s : State) (t' : Fin 16) => s.acqState t'.val = 4 ∧ ((s.acqRegions t'.val).any fun r => s.regionTaken r false) = false ∧ (s.acq t'.val).disarm = false ∧ s.fl R.ACQ_CTL.REARM t'.val = true ∧ s.rd R.ACQ_RING.SLOTS t'.val ≠ 0 ∧ (s.rd R.ACQ_WPTR.WPTR t'.val + 2) % s.rd R.ACQ_RING.SLOTS t'.val = s.rd R.ACQ_RPTR.RPTR t'.val) (((base.wr R.ACQ_CTL.STATE 3 4).wr R.ACQ_RING.SLOTS 3 2).wr R.ACQ_CTL.REARM 3 1) (3) := by decide

theorem wit_Acquisition_19 : (fun (s : State) (t' : Fin 16) => (s.acqState t'.val ≠ 4 ∨ ((s.acqRegions t'.val).any fun r => s.regionTaken r false) = true)) (base) (3) := by decide

theorem wit_Acquisition_20 : (fun (s : State) (rq : Req) (t' : Fin 16) (w : Word) (v : Nat) => s.canWrite rq .ACQ_RPTR t'.val ∧ v = R.ACQ_RPTR.RPTR.part w.toNat ∧ v < s.rd R.ACQ_RING.SLOTS t'.val ∧ s.acqState t'.val ≠ 5) (base.wr R.ACQ_RING.SLOTS 3 4) (.fn 0) (3) (2) (2) := by decide

theorem wit_Acquisition_21 : (fun (s : State) (rq : Req) (t' : Fin 16) (w : Word) (v : Nat) => s.canWrite rq .ACQ_RPTR t'.val ∧ v = R.ACQ_RPTR.RPTR.part w.toNat ∧ v < s.rd R.ACQ_RING.SLOTS t'.val ∧ s.acqState t'.val = 5 ∧ (s.rd R.ACQ_WPTR.WPTR t'.val + 1) % s.rd R.ACQ_RING.SLOTS t'.val ≠ v) ((base.wr R.ACQ_CTL.STATE 3 5).wr R.ACQ_RING.SLOTS 3 4) (.fn 0) (3) (2) (2) := by decide

theorem wit_Acquisition_22 : (fun (s : State) (f : Fin 64) (t' : Fin 16) (w : Word) => s.canWrite (.fn f) .ACQ_RPTR t'.val ∧ s.rd R.ACQ_RING.SLOTS t'.val ≤ R.ACQ_RPTR.RPTR.part w.toNat) (base.wr R.ACQ_RING.SLOTS 3 4) (0) (3) (4) := by decide

theorem wit_SourceMeasurements_1 : (fun (s : State) (rq : Req) (o : Fin 128) (w : Word) (md : Nat) => s.canWrite rq .ADC_CTL o.val ∧ ((R.ADC_CTL.TRIG.part w.toNat = 0 ∨ R.ADC_CTL.TRIG.part w.toNat = 3)) ∧ md = R.ADC_CTL.MODE.part w.toNat ∧ ((md = 1 ∨ md = 2)) ∧ s.adcNone o.val = false ∧ ((s.rd R.ADC_STATUS.BUSY o.val = 0 ∨ R.ADC_CTL.STOP.part w.toNat = 1))) (base.wr R.ADC_SEQ_A.SETTLE 128 7) (.fn 0) (8) (BitVec.ofNat 32 (2 ^ R.ADC_CTL.MODE.lo)) (1) := by decide

theorem wit_SourceMeasurements_2 : (fun (s : State) (rq : Req) (o : Fin 128) (w : Word) => s.canWrite rq .ADC_CTL o.val ∧ R.ADC_CTL.STOP.part w.toNat = 0 ∧ ((R.ADC_CTL.TRIG.part w.toNat = 0 ∨ R.ADC_CTL.TRIG.part w.toNat = 3)) ∧ ((R.ADC_CTL.MODE.part w.toNat = 1 ∨ R.ADC_CTL.MODE.part w.toNat = 2)) ∧ s.adcNone o.val = false ∧ s.rd R.ADC_STATUS.BUSY o.val = 1) ((base.wr R.ADC_STATUS.BUSY 8 1).wr R.ADC_STATUS.ENTRY 8 3) (.fn 0) (8) (BitVec.ofNat 32 (2 ^ R.ADC_CTL.MODE.lo)) := by decide

theorem wit_SourceMeasurements_3 : (fun (s : State) (f : Fin 64) (o : Fin 128) (w : Word) => s.canWrite (.fn f) .ADC_CTL o.val ∧ s.adcNone o.val = true) ({ base with spare := { base.spare with state := smSet 0 [] (place 1 8 + 131072) 6 } }) (0) (8) (0) := by decide

theorem wit_SourceMeasurements_4 : (fun (s : State) (rq : Req) (o : Fin 128) (w : Word) => s.canWrite rq .ADC_CTL o.val ∧ s.adcNone o.val = false ∧ s.rd R.ADC_STATUS.BUSY o.val = 0 ∧ (((R.ADC_CTL.TRIG.part w.toNat = 1 ∨ R.ADC_CTL.TRIG.part w.toNat = 2) ∨ R.ADC_CTL.MODE.part w.toNat = 0 ∨ R.ADC_CTL.MODE.part w.toNat = 3))) (base) (.fn 0) (8) (0) := by decide

theorem wit_SourceMeasurements_5 : (fun (s : State) (rq : Req) (o : Fin 128) (w : Word) => s.canWrite rq .ADC_CTL o.val ∧ R.ADC_CTL.GO.part w.toNat = 0 ∧ s.rd R.ADC_STATUS.BUSY o.val = 1) ((base.wr R.ADC_STATUS.BUSY 8 1).setAdc 8 { AdcSt.idle with settle := 4, fifo := [⟨5, 6⟩] }) (.fn 0) (8) (0) := by decide

theorem wit_SourceMeasurements_6 : (fun (s : State) (o : Fin 128) (code sub : Nat) => s.adcGone o.val = false ∧ s.rd R.ADC_STATUS.BUSY o.val = 1 ∧ s.fl R.OCT_STATUS.ADC_LENDING o.val = false ∧ 0 < (s.adc o.val).settle) ((base.wr R.ADC_STATUS.BUSY 8 1).setAdc 8 { AdcSt.idle with settle := 4 }) (8) (9) (0) := by decide

theorem wit_SourceMeasurements_7 : (fun (s : State) (o : Fin 128) (code sub : Nat) => (s.adcGone o.val = true ∨ (s.fl R.ADC_STATUS.BUSY o.val = false ∧ (s.fl R.OCT_STATUS.ADC_LENDING o.val = false ∨ s.fl R.ADC_STATUS.BUSY (Nat.xor o.val 1) = false)))) (base) (8) (9) (0) := by decide

theorem wit_SourceMeasurements_8 : (fun (s : State) (o : Fin 128) (code sub : Nat) => s.adcGone o.val = false ∧ s.rd R.ADC_STATUS.BUSY o.val = 1 ∧ s.fl R.OCT_STATUS.ADC_LENDING o.val = false ∧ (s.adc o.val).settle = 0 ∧ (s.adc o.val).mean = none ∧ code < 2 ^ 17 ∧ s.rd R.ADC_SEQ_A.AVG_LOG2 (16 * o.val + s.rd R.ADC_STATUS.ENTRY o.val) ≠ 0) ((base.wr R.ADC_STATUS.BUSY 8 1).wr R.ADC_SEQ_A.AVG_LOG2 128 1) (8) (9000) (77) := by decide

theorem wit_SourceMeasurements_9 : (fun (s : State) (o : Fin 128) (code sub e i l L : Nat) (bad : Bool) => s.adcGone o.val = false ∧ s.rd R.ADC_STATUS.BUSY o.val = 1 ∧ s.fl R.OCT_STATUS.ADC_LENDING o.val = false ∧ (s.adc o.val).settle = 0 ∧ (s.adc o.val).mean = none ∧ e = s.rd R.ADC_STATUS.ENTRY o.val ∧ i = 16 * o.val + e ∧ s.rd R.ADC_SEQ_A.AVG_LOG2 i = 0 ∧ s.rd R.ADC_SEQ_A.DEST i = 0 ∧ (s.adc o.val).fifo.length < 64 ∧ l = s.rd R.ADC_SEQ_A.LANE i ∧ L = 8 * o.val + l ∧ bad = (!s.ppmuOn L || (s.dac (9 * L + 8)).clamped || decide (code % 2 ^ 18 = 2 ^ 17 - 1) || decide (code % 2 ^ 18 = 2 ^ 17))) (((((ran.wr R.ADC_STATUS.BUSY 8 1).wr R.ADC_SEQ_A.LANE 128 3).wr R.LANE_PPMU_CTL.CONNECT 67 1).wr R.LANE_PPMU_CTL.MODE 67 2).wr R.ADC_CTL.LEN_M1 8 2) (8) (9000) (5) (0) (128) (3) (67) (false) := by decide

theorem wit_SourceMeasurements_9_2 : (fun (s : State) (o : Fin 128) (code sub e i l L : Nat) (bad : Bool) => s.adcGone o.val = false ∧ s.rd R.ADC_STATUS.BUSY o.val = 1 ∧ s.fl R.OCT_STATUS.ADC_LENDING o.val = false ∧ (s.adc o.val).settle = 0 ∧ (s.adc o.val).mean = none ∧ e = s.rd R.ADC_STATUS.ENTRY o.val ∧ i = 16 * o.val + e ∧ s.rd R.ADC_SEQ_A.AVG_LOG2 i = 0 ∧ s.rd R.ADC_SEQ_A.DEST i = 0 ∧ (s.adc o.val).fifo.length < 64 ∧ l = s.rd R.ADC_SEQ_A.LANE i ∧ L = 8 * o.val + l ∧ bad = (!s.ppmuOn L || (s.dac (9 * L + 8)).clamped || decide (code % 2 ^ 18 = 2 ^ 17 - 1) || decide (code % 2 ^ 18 = 2 ^ 17))) (((((ran.wr R.ADC_STATUS.BUSY 8 1).wr R.ADC_SEQ_A.LANE 128 3).wr R.LANE_PPMU_CTL.CONNECT 67 1).wr R.LANE_PPMU_CTL.MODE 67 2).wr R.ADC_CTL.MODE 8 2) (8) (9000) (0) (0) (128) (3) (67) (false) := by decide

theorem wit_SourceMeasurements_9_3 : (fun (s : State) (o : Fin 128) (code sub e i l L : Nat) (bad : Bool) => s.adcGone o.val = false ∧ s.rd R.ADC_STATUS.BUSY o.val = 1 ∧ s.fl R.OCT_STATUS.ADC_LENDING o.val = false ∧ (s.adc o.val).settle = 0 ∧ (s.adc o.val).mean = none ∧ e = s.rd R.ADC_STATUS.ENTRY o.val ∧ i = 16 * o.val + e ∧ s.rd R.ADC_SEQ_A.AVG_LOG2 i = 0 ∧ s.rd R.ADC_SEQ_A.DEST i = 0 ∧ (s.adc o.val).fifo.length < 64 ∧ l = s.rd R.ADC_SEQ_A.LANE i ∧ L = 8 * o.val + l ∧ bad = (!s.ppmuOn L || (s.dac (9 * L + 8)).clamped || decide (code % 2 ^ 18 = 2 ^ 17 - 1) || decide (code % 2 ^ 18 = 2 ^ 17))) ((((((ran.wr R.ADC_STATUS.BUSY 8 1).wr R.ADC_SEQ_A.LANE 128 3).wr R.LANE_PPMU_CTL.CONNECT 67 1).wr R.LANE_PPMU_CTL.MODE 67 2).wr R.ADC_SEQ_A.LANE 129 5 |>.wr R.ADC_STATUS.ENTRY 8 1).wr R.ADC_CTL.MODE 8 1) (8) (131072) (9) (1) (129) (5) (69) (true) := by decide

theorem wit_SourceMeasurements_10 : (fun (s : State) (o : Fin 128) (code sub i : Nat) => s.adcGone o.val = false ∧ s.rd R.ADC_STATUS.BUSY o.val = 1 ∧ s.fl R.OCT_STATUS.ADC_LENDING o.val = false ∧ (s.adc o.val).settle = 0 ∧ (s.adc o.val).mean = none ∧ i = 16 * o.val + s.rd R.ADC_STATUS.ENTRY o.val ∧ s.rd R.ADC_SEQ_A.AVG_LOG2 i = 0 ∧ s.rd R.ADC_SEQ_A.DEST i = 0 ∧ 64 ≤ (s.adc o.val).fifo.length) ((ran.wr R.ADC_STATUS.BUSY 8 1).setAdc 8 { AdcSt.idle with fifo := List.replicate 64 ⟨7, 8⟩ }) (8) (9000) (5) (128) := by decide

theorem wit_SourceMeasurements_11 : (fun (s : State) (rq : Req) (o : Fin 128) (r : FifoRes) (l : List FifoRes) => s.reachable rq = true ∧ s.mayRead rq .ADC_FIFO o.val = true ∧ (s.adc o.val).fifo = r :: l ∧ l.length < 64) (base.setAdc 8 { AdcSt.idle with fifo := [⟨77, 2 ^ 33 + 6⟩, ⟨8, 9⟩] }) (.fn 0) (8) (⟨77, 2 ^ 33 + 6⟩) ([⟨8, 9⟩]) := by decide

theorem wit_SourceMeasurements_12 : (fun (s : State) (rq : Req) (o : Fin 128) => s.reachable rq = true ∧ s.mayRead rq .ADC_FIFO o.val = true ∧ (s.adc o.val).fifo = []) (base) (.fn 0) (8) := by decide

theorem wit_SourceMeasurements_13 : (fun (s : State) (rq : Req) (i : Fin 136) (r : FifoRes) (l : List FifoRes) => s.reachable rq = true ∧ s.mayRead rq .SMU_FIFO i.val = true ∧ (s.smu i.val).fifo = r :: l) (base.setSmu 8 { SmuSt.idle with fifo := [⟨77, 2 ^ 33 + 6⟩, ⟨8, 9⟩] }) (.fn 0) (8) (⟨77, 2 ^ 33 + 6⟩) ([⟨8, 9⟩]) := by decide

theorem wit_SourceMeasurements_14 : (fun (s : State) (rq : Req) (i : Fin 136) => s.reachable rq = true ∧ s.mayRead rq .SMU_FIFO i.val = true ∧ (s.smu i.val).fifo = []) (base) (.fn 0) (8) := by decide

theorem wit_SourceMeasurements_16 : (fun (s : State) (i : Fin 136) => s.smuServed i.val = true ∧ (s.sensePoint i.val).isSome = true ∧ s.fl R.SMU_STATUS.LOCAL_SENSE i.val = false) (ran.wr R.OCT_MATRIX.BALL_EN 8 1) (8) := by decide

theorem wit_SourceMeasurements_17 : (fun (s : State) (i : Fin 136) => (s.smuServed i.val = false ∨ (s.sensePoint i.val).isNone = true ∨ s.fl R.SMU_STATUS.LOCAL_SENSE i.val = true)) (base) (8) := by decide

theorem wit_SourceMeasurements_18 : (fun (s : State) (rq : Req) (i : Fin 136) (w : Word) => s.canWrite rq .SMU_STATUS i.val) ((base.wr R.SMU_STATUS.SENSE_FAULT 8 1).wr R.SMU_STATUS.LOCAL_SENSE 8 1) (.fn 0) (8) (0) := by decide

theorem wit_SourceMeasurements_19 : (fun (s : State) (i : Fin 136) (code : Nat) => s.fl R.SMU_MEAS.RUN i.val = true ∧ s.smuServed i.val = true ∧ s.rd R.SMU_MEAS.QTY i.val = 0 ∧ (s.smu i.val).mean = none ∧ s.rd R.SMU_MEAS.AVG_LOG2 i.val ≠ 0 ∧ code < 2 ^ 19) ((base.wr R.SMU_MEAS.RUN 8 1).wr R.SMU_MEAS.AVG_LOG2 8 2) (8) (9000) := by decide

theorem wit_SourceMeasurements_20 : (fun (s : State) (i : Fin 136) (code : Nat) (bad : Bool) => s.fl R.SMU_MEAS.RUN i.val = true ∧ s.smuServed i.val = true ∧ s.rd R.SMU_MEAS.QTY i.val = 0 ∧ (s.smu i.val).mean = none ∧ s.rd R.SMU_MEAS.AVG_LOG2 i.val = 0 ∧ s.rd R.SMU_MEAS.DEST i.val = 0 ∧ (s.smu i.val).fifo.length < 64 ∧ bad = (decide (s.rd R.SMU_CTL.FMODE i.val = 2) || (s.dac (10000 + i.val)).clamped || s.fl R.SMU_STATUS.LOCAL_SENSE i.val || decide (code % 2 ^ 20 = 2 ^ 19 - 1) || decide (code % 2 ^ 20 = 2 ^ 19))) ((base.wr R.SMU_MEAS.RUN 8 1).wr R.SMU_CTL.FMODE 8 1) (8) (9000) (false) := by decide

theorem wit_SourceMeasurements_21 : (fun (s : State) (i : Fin 136) (code : Nat) => (s.fl R.SMU_MEAS.RUN i.val = false ∨ s.smuServed i.val = false)) (base) (8) (9000) := by decide

theorem wit_SourceMeasurements_22 : (fun (s : State) (i : Fin 136) (code : Nat) => s.fl R.SMU_MEAS.RUN i.val = true ∧ s.smuServed i.val = true ∧ s.rd R.SMU_MEAS.QTY i.val = 0 ∧ (s.smu i.val).mean = none ∧ s.rd R.SMU_MEAS.AVG_LOG2 i.val = 0 ∧ s.rd R.SMU_MEAS.DEST i.val = 0 ∧ 64 ≤ (s.smu i.val).fifo.length) ((base.wr R.SMU_MEAS.RUN 8 1).setSmu 8 { SmuSt.idle with fifo := List.replicate 64 ⟨7, 8⟩ }) (8) (9000) := by decide

theorem wit_SupplyChannels_1 : (fun (s : State) (rq : Req) (d : Fin 36) (w : Word) => s.canWrite rq .DPS_CTL d.val ∧ s.gangMember d.val = false) (base) (.fn 0) (8) (0xFFFFFFFF) := by decide

theorem wit_SupplyChannels_2 : (fun (s : State) (f : Fin 64) (d : Fin 36) (w : Word) => s.canWrite (.fn f) .DPS_CTL d.val ∧ s.gangMember d.val = true) ((base.wr R.DPS_GANG.LEADER 9 8).wr R.DPS_GANG.MEMBERS 9 3) (0) (9) (1) := by decide

theorem wit_SupplyChannels_3 : (fun (s : State) (d : Fin 36) (i v : Int) (limiting : Bool) => (s.dps d.val).closed = false ∧ (s.dps d.val).justOpen = false) (base) (8) (3) (4) (true) := by decide

theorem wit_SupplyChannels_4 : (fun (s : State) (d : Fin 36) (i v : Int) (bad : Bool) => (s.dps d.val).closed = true ∧ -32768 ≤ i ∧ i ≤ 32767 ∧ -32768 ≤ v ∧ v ≤ 32767 ∧ bad = (s.dpsRanged d.val || (s.dac (11000 + s.dpsLead d.val)).clamped || s.dpsLocal d.val) ∧ s.deff R.DPS_MON_I_CTL.EN d.val = 0 ∧ s.deff R.DPS_MON_V_CTL.EN d.val = 0) (base.setDps 8 { DpsSt.idle with closed := true, count := 3 }) (8) (-5) (700) (false) := by decide

theorem wit_SupplyChannels_4_2 : (fun (s : State) (d : Fin 36) (i v : Int) (bad : Bool) => (s.dps d.val).closed = true ∧ -32768 ≤ i ∧ i ≤ 32767 ∧ -32768 ≤ v ∧ v ≤ 32767 ∧ bad = (s.dpsRanged d.val || (s.dac (11000 + s.dpsLead d.val)).clamped || s.dpsLocal d.val) ∧ s.deff R.DPS_MON_I_CTL.EN d.val = 0 ∧ s.deff R.DPS_MON_V_CTL.EN d.val = 0) (base.setDps 8 { DpsSt.idle with closed := true, ranged := 999 }) (8) (-32768) (700) (true) := by decide

theorem wit_SupplyChannels_5 : (fun (s : State) (d : Fin 36) (i v : Int) => (s.dps d.val).closed = true ∧ s.deff R.DPS_MON_I_CTL.EN d.val = 0 ∧ s.deff R.DPS_MON_V_CTL.EN d.val = 0 ∧ s.fl R.DPS_STATUS.IN_LIMIT d.val = false ∧ (s.dps d.val).count + 1 < s.dpsDelay (s.dpsLead d.val)) ((base.setDps 8 { DpsSt.idle with closed := true }).wr R.DPS_LIMIT.DELAY 8 9) (8) (-5) (700) := by decide

theorem wit_SupplyChannels_6 : (fun (s : State) (d : Fin 32) (i v : Int) => (s.dps d.val).closed = true ∧ s.rd R.DPS_GANG.MEMBERS d.val = 0 ∧ s.deff R.DPS_MON_I_CTL.EN d.val = 0 ∧ s.deff R.DPS_MON_V_CTL.EN d.val = 0 ∧ s.fl R.DPS_STATUS.IN_LIMIT d.val = true ∧ s.deff R.DPS_LIMIT.ACTION d.val = 2 ∧ (s.dps d.val).count + 1 = s.dpsDelay d.val ∧ (s.dps d.val).count < 255) (((((base.setDps 8 { DpsSt.idle with closed := true, count := 3 }).wr R.DPS_LIMIT.DELAY 8 4).wr R.DPS_LIMIT.ACTION 8 2).wr R.DPS_STATUS.IN_LIMIT 8 1).setDac 11008 { DacSt.idle with present := 44 }) (8) (-5) (700) := by decide

theorem wit_SupplyChannels_7 : (fun (s : State) (d : Fin 32) (i v : Int) => (s.dps d.val).closed = true ∧ s.rd R.DPS_GANG.MEMBERS d.val = 0 ∧ s.deff R.DPS_MON_I_CTL.EN d.val = 0 ∧ s.deff R.DPS_MON_V_CTL.EN d.val = 0 ∧ s.fl R.DPS_STATUS.IN_LIMIT d.val = true ∧ s.deff R.DPS_LIMIT.ACTION d.val = 1 ∧ s.fl R.DPS_STATUS.FOLDED d.val = false ∧ (s.dps d.val).count + 1 = s.dpsDelay d.val ∧ (s.dps d.val).count < 255) ((((base.setDps 8 { DpsSt.idle with closed := true, count := 3 }).wr R.DPS_LIMIT.DELAY 8 4).wr R.DPS_LIMIT.ACTION 8 1).wr R.DPS_STATUS.IN_LIMIT 8 1) (8) (-5) (700) := by decide

theorem wit_SupplyChannels_8 : (fun (s : State) (d : Fin 36) => (((s.dps d.val).closed = true ∨ (s.dps d.val).justOpen = true))) ((base.setDps 8 { DpsSt.idle with closed := true }).setDac 11008 { DacSt.idle with present := 44 }) (8) := by decide

theorem wit_SupplyChannels_8_2 : (fun (s : State) (d : Fin 36) => (((s.dps d.val).closed = true ∨ (s.dps d.val).justOpen = true))) (((({ ((((base.wr R.DPS_GANG.LEADER 9 8).wr R.DPS_GANG.MEMBERS 9 3).wr R.DPS_GANG.LEADER 8 8).wr R.DPS_GANG.MEMBERS 8 3) with image := some img }).setDps 8 { DpsSt.idle with closed := true }).setDps 9 { DpsSt.idle with closed := true }).setDac 11009 { DacSt.idle with present := 44 }) (9) := by decide

theorem wit_SupplyChannels_9 : (fun (s : State) (d : Fin 36) => (s.dps d.val).closed = false ∧ (s.dps d.val).justOpen = false) (base) (8) := by decide

theorem wit_SupplyChannels_10 : (fun (s : State) (d : Fin 36) => s.dpsLocal d.val = false) (base) (8) := by decide

theorem wit_SupplyChannels_10_2 : (fun (s : State) (d : Fin 36) => s.dpsLocal d.val = false) ({ ((((base.wr R.DPS_GANG.LEADER 9 8).wr R.DPS_GANG.MEMBERS 9 3).wr R.DPS_GANG.LEADER 8 8).wr R.DPS_GANG.MEMBERS 8 3) with image := some img }) (9) := by decide

theorem wit_SupplyChannels_11 : (fun (s : State) (d : Fin 36) => s.dpsLocal d.val = true) (base.wr R.DPS_STATUS.LOCAL_SENSE 8 1) (8) := by decide

theorem wit_SupplyChannels_12 : (fun (s : State) (rq : Req) (d : Fin 36) (w : Word) => s.canWrite rq .DPS_STATUS d.val ∧ (dpsRestartFlags.any fun f => s.fl f d.val && f.acts (Nat.lor w.toNat 32) 15) = false) ((base.wr R.DPS_STATUS.SENSE_FAULT 8 1).wr R.DPS_STATUS.LOCAL_SENSE 8 1) (.fn 0) (8) (0) := by decide

theorem wit_SupplyChannels_13 : (fun (s : State) (rq : Req) (d : Fin 36) (w : Word) => s.canWrite rq .DPS_STATUS d.val ∧ s.gangMember d.val = false ∧ (dpsRestartFlags.any fun f => s.fl f d.val && f.acts w.toNat 15) = true ∧ ([R.DPS_STATUS.TRIPPED, R.DPS_STATUS.HW_TRIP, R.DPS_STATUS.MON_OPENED, R.DPS_STATUS.SUPPLY_LOSS].all fun f => !s.fl f d.val || f.acts w.toNat 15) = true) ((base.wr R.DPS_STATUS.TRIPPED 8 1).wr R.DPS_CTL.OUT_EN 8 1) (.fn 0) (8) (BitVec.ofNat 32 (2 ^ R.DPS_STATUS.TRIPPED.lo)) := by decide

theorem wit_SupplyChannels_13_2 : (fun (s : State) (rq : Req) (d : Fin 36) (w : Word) => s.canWrite rq .DPS_STATUS d.val ∧ s.gangMember d.val = false ∧ (dpsRestartFlags.any fun f => s.fl f d.val && f.acts w.toNat 15) = true ∧ ([R.DPS_STATUS.TRIPPED, R.DPS_STATUS.HW_TRIP, R.DPS_STATUS.MON_OPENED, R.DPS_STATUS.SUPPLY_LOSS].all fun f => !s.fl f d.val || f.acts w.toNat 15) = true) ((base.wr R.DPS_STATUS.TRIPPED 8 1)) (.fn 0) (8) (BitVec.ofNat 32 (2 ^ R.DPS_STATUS.TRIPPED.lo)) := by decide

theorem wit_SupplyChannels_13_3 : (fun (s : State) (rq : Req) (d : Fin 36) (w : Word) => s.canWrite rq .DPS_STATUS d.val ∧ s.gangMember d.val = false ∧ (dpsRestartFlags.any fun f => s.fl f d.val && f.acts w.toNat 15) = true ∧ ([R.DPS_STATUS.TRIPPED, R.DPS_STATUS.HW_TRIP, R.DPS_STATUS.MON_OPENED, R.DPS_STATUS.SUPPLY_LOSS].all fun f => !s.fl f d.val || f.acts w.toNat 15) = true) (({ ((((base.wr R.DPS_GANG.LEADER 9 8).wr R.DPS_GANG.MEMBERS 9 3).wr R.DPS_GANG.LEADER 8 8).wr R.DPS_GANG.MEMBERS 8 3) with image := some img }.wr R.DPS_STATUS.FOLDED 8 1).wr R.DPS_CTL.OUT_EN 8 1) (.fn 0) (8) (BitVec.ofNat 32 (2 ^ R.DPS_STATUS.FOLDED.lo)) := by decide

theorem wit_SupplyChannels_14 : (fun (s : State) (rq : Req) (d : Fin 36) (w : Word) => s.canWrite rq .DPS_STATUS d.val ∧ ([R.DPS_STATUS.TRIPPED, R.DPS_STATUS.HW_TRIP, R.DPS_STATUS.MON_OPENED, R.DPS_STATUS.SUPPLY_LOSS].any fun f => s.fl f d.val && !f.acts w.toNat 15) = true) ((base.wr R.DPS_STATUS.TRIPPED 8 1).wr R.DPS_STATUS.HW_TRIP 8 1) (.fn 0) (8) (BitVec.ofNat 32 (2 ^ R.DPS_STATUS.TRIPPED.lo)) := by decide

theorem wit_SupplyChannels_15 : (fun (s : State) (rq : Req) (d : Fin 36) (w : Word) => s.canWrite rq .DPS_STATUS d.val ∧ (dpsRestartFlags.any fun f => s.fl f d.val && f.acts w.toNat 15) = false) (base) (.fn 0) (8) (0xFFFFFFFF) := by decide

theorem wit_SupplyChannels_16 : (fun (s : State) (q : Fin 4) => ((List.range 8).map fun c => s.dpsPower (8 * q.val + c)).sum ≤ 3000000000000 * 131072) (base.setDps 8 { DpsSt.idle with hot := 7 }) (1) := by decide

theorem wit_SupplyChannels_17 : (fun (s : State) (q : Fin 4) => 3000000000000 * 131072 < ((List.range 8).map fun c => s.dpsPower (8 * q.val + c)).sum ∧ (s.dps (8 * q.val)).hot < 99) ((((base.setDps 9 { DpsSt.idle with closed := true }).wr R.DPS_MEAS_I.CODE 9 32767).wr R.DPS_MEAS_V.CODE 9 0).setDps 8 { DpsSt.idle with closed := true } |>.wr R.DPS_MEAS_I.CODE 8 32767 |>.setDps 10 { DpsSt.idle with closed := true } |>.wr R.DPS_MEAS_I.CODE 10 32767) (1) := by decide

theorem wit_SupplyChannels_18 : (fun (s : State) (q : Fin 4) => 3000000000000 * 131072 < ((List.range 8).map fun c => s.dpsPower (8 * q.val + c)).sum ∧ (s.dps (8 * q.val)).hot = 99) ((((base.setDps 9 { DpsSt.idle with closed := true }).wr R.DPS_MEAS_I.CODE 9 32767).wr R.DPS_MEAS_V.CODE 9 0).setDps 8 { DpsSt.idle with closed := true, hot := 99 } |>.wr R.DPS_MEAS_I.CODE 8 32767 |>.setDps 10 { DpsSt.idle with closed := true } |>.wr R.DPS_MEAS_I.CODE 10 32767) (1) := by decide

theorem wit_SupplyChannels_19 : (fun (s : State) (q : Fin 4) => 3000000000000 * 131072 < ((List.range 8).map fun c => s.dpsPower (8 * q.val + c)).sum ∧ 99 < (s.dps (8 * q.val)).hot) ((((base.setDps 9 { DpsSt.idle with closed := true }).wr R.DPS_MEAS_I.CODE 9 32767).wr R.DPS_MEAS_V.CODE 9 0).setDps 8 { DpsSt.idle with closed := true, hot := 100 } |>.wr R.DPS_MEAS_I.CODE 8 32767 |>.setDps 10 { DpsSt.idle with closed := true } |>.wr R.DPS_MEAS_I.CODE 10 32767) (1) := by decide

theorem wit_SegmentPlay_1 : (fun (s : State) (t' : Fin 16) => (s.play t'.val).playing = false) (base) (3) := by decide

theorem wit_SegmentPlay_2 : (fun (s : State) (t' : Fin 16) (p : PlaySt) (e : Nat) => p = s.play t'.val ∧ e = s.curEntry t'.val ∧ p.playing = true ∧ p.phase = .seg ∧ p.starving = none ∧ p.samePass = false ∧ p.fresh = false ∧ p.idx + 1 < enLength e ∧ p.idx ≠ enLength e - 16 ∧ ((s.rd R.SEG_STORE_CFG.UE_POLICY t'.val ≠ 0 ∨ ∀ k, k < 5 → (s.store t'.val).bad' (s.segPlace t'.val e p.idx p.slot).2.1 k ≠ 2))) ((ran.setPlay 3 { PlaySt.idle with playing := true, phase := .seg, cycle := 5, refPoint := 5120, idx := 7 }).setStore 3 { StoreSt.idle with segs := smSet 0 [] 0 (40 + 2 ^ 31 + 100 * 2 ^ 32) }) (3) ({ PlaySt.idle with playing := true, phase := .seg, cycle := 5, refPoint := 5120, idx := 7 }) (40 + 2 ^ 31 + 100 * 2 ^ 32) := by decide

theorem wit_SegmentPlay_3 : (fun (s : State) (t' : Fin 16) (p : PlaySt) (x : Succ) (e : Nat) => p = s.play t'.val ∧ p.playing = true ∧ p.phase = .idle ∧ p.starving = none ∧ p.samePass = false ∧ p.stopAt = 0 ∧ ((p.fresh = true ∨ (s.playMates t'.val).length ≤ 1)) ∧ p.succ = some x ∧ p.go = true ∧ x.entry < 2048 ∧ e = s.entry t'.val x.entry ∧ 16 < enLength e ∧ ((s.rd R.SEG_STORE_CFG.UE_POLICY t'.val ≠ 0 ∨ ∀ k, k < 5 → (s.store t'.val).bad' (s.segPlace t'.val e 0 (x.slot.getD 0)).2.1 k ≠ 2))) ((ran.setPlay 3 { PlaySt.idle with playing := true, phase := .idle, queue := [9], succ := some ⟨9, true, none⟩, go := true }).setStore 3 { StoreSt.idle with segs := smSet 0 [] 9 (40 + 2 ^ 31 + 100 * 2 ^ 32) }) (3) ({ PlaySt.idle with playing := true, phase := .idle, queue := [9], succ := some ⟨9, true, none⟩, go := true }) (⟨9, true, none⟩) (40 + 2 ^ 31 + 100 * 2 ^ 32) := by decide

theorem wit_SegmentPlay_4 : (fun (s : State) (t' : Fin 16) (p : PlaySt) => p = s.play t'.val ∧ p.playing = true ∧ p.phase = .idle ∧ p.starving = none ∧ p.samePass = false ∧ p.succ = none ∧ p.stopAt = 0) (ran.setPlay 3 { PlaySt.idle with playing := true, phase := .idle }) (3) ({ PlaySt.idle with playing := true, phase := .idle }) := by decide

theorem wit_SegmentPlay_5 : (fun (s : State) (t' : Fin 16) (x : Succ) => (s.play t'.val).playing = true ∧ (s.play t'.val).phase = .idle ∧ (s.play t'.val).starving = none ∧ (s.play t'.val).samePass = false ∧ (s.play t'.val).succ = some x) (ran.setPlay 3 { PlaySt.idle with playing := true, phase := .idle, succ := some ⟨9, true, none⟩ }) (3) (⟨9, true, none⟩) := by decide

theorem wit_SegmentPlay_6 : (fun (s : State) (t' : Fin 16) => (s.play t'.val).starving = none ∧ (s.play t'.val).samePass = false ∧ (((s.play t'.val).playing = false ∨ (s.play t'.val).succ = none))) (ran.setPlay 3 { PlaySt.idle with playing := true, phase := .idle }) (3) := by decide

theorem wit_SegmentPlay_7 : (fun (s : State) (t' : Fin 16) => (s.play t'.val).playing = false) (ran.setLane 195 { LaneSt.idle with drv := 2, window := 3 }) (3) := by decide

theorem wit_SegmentPlay_8 : (fun (s : State) (t' : Fin 16) => (s.play t'.val).playing = true) (ran.setPlay 3 { PlaySt.idle with playing := true }) (3) := by decide

theorem wit_SegmentPlay_9 : (fun (s : State) (rq : Req) (t' : Fin 16) (w : Word) (n : Nat) => s.canWrite rq .SEG_JUMP t'.val ∧ n = R.SEG_JUMP.TARGET.part w.toNat ∧ enValid (s.entry t'.val n) = true ∧ s.fl R.SEQ_LOAD.VALID t'.val = true ∧ (s.play t'.val).jump = none ∧ (s.play t'.val).phase = .seg) (((ran.setPlay 3 { PlaySt.idle with playing := true, phase := .seg }).setStore 3 { StoreSt.idle with segs := smSet 0 [] 9 (2 ^ 31 + 100 * 2 ^ 32) }).wr R.SEQ_LOAD.VALID 3 1) (.fn 0) (3) (9 + 2048) (9) := by decide

theorem wit_SegmentPlay_10 : (fun (s : State) (rq : Req) (t' : Fin 16) (w : Word) (n : Nat) => s.canWrite rq .SEG_JUMP t'.val ∧ n = R.SEG_JUMP.TARGET.part w.toNat ∧ enValid (s.entry t'.val n) = true ∧ s.fl R.SEQ_LOAD.VALID t'.val = true ∧ (s.play t'.val).jump = none ∧ (s.play t'.val).phase = .idle ∧ (s.play t'.val).samePass = false ∧ (s.play t'.val).succ = none ∧ enStreamed (s.entry t'.val n) = false) (((ran.setPlay 3 { PlaySt.idle with playing := true, phase := .idle, queue := [4] }).setStore 3 { StoreSt.idle with segs := smSet 0 [] 9 (2 ^ 31 + 100 * 2 ^ 32) }).wr R.SEQ_LOAD.VALID 3 1) (.fn 0) (3) (9 + 2048) (9) := by decide

theorem wit_SegmentPlay_10_2 : (fun (s : State) (rq : Req) (t' : Fin 16) (w : Word) (n : Nat) => s.canWrite rq .SEG_JUMP t'.val ∧ n = R.SEG_JUMP.TARGET.part w.toNat ∧ enValid (s.entry t'.val n) = true ∧ s.fl R.SEQ_LOAD.VALID t'.val = true ∧ (s.play t'.val).jump = none ∧ (s.play t'.val).phase = .idle ∧ (s.play t'.val).samePass = false ∧ (s.play t'.val).succ = none ∧ enStreamed (s.entry t'.val n) = false) (((ran.setPlay 3 { PlaySt.idle with playing := true, phase := .idle, queue := [4] }).setStore 3 { StoreSt.idle with segs := smSet 0 [] 9 (2 ^ 31 + 100 * 2 ^ 32) }).wr R.SEQ_LOAD.VALID 3 1) (.fn 0) (3) (9) (9) := by decide

theorem wit_SegmentPlay_11 : (fun (s : State) (rq : Req) (t' : Fin 16) (w : Word) => s.canWrite rq .SEG_JUMP t'.val ∧ ((enValid (s.entry t'.val (R.SEG_JUMP.TARGET.part w.toNat)) = false ∨ s.fl R.SEQ_LOAD.VALID t'.val = false ∨ (s.play t'.val).jump ≠ none))) (ran) (.fn 0) (3) (9) := by decide

theorem wit_SegmentPlay_12 : (fun (s : State) (t' : Fin 16) (n : Nat) => s.fl R.SEG_JUMP.SRC_EN t'.val = true ∧ s.cond t'.val (s.rd R.SEG_JUMP.SRC t'.val) = true ∧ (s.play t'.val).srcSample = some false ∧ n = s.rd R.SEG_JUMP.TARGET t'.val ∧ enValid (s.entry t'.val n) = true ∧ s.fl R.SEQ_LOAD.VALID t'.val = true ∧ (s.play t'.val).jump = none ∧ (s.play t'.val).phase = .seg) ((((((ran.setPlay 3 { PlaySt.idle with playing := true, phase := .seg, srcSample := some false }).setStore 3 { StoreSt.idle with segs := smSet 0 [] 9 (2 ^ 31 + 100 * 2 ^ 32) }).wr R.SEQ_LOAD.VALID 3 1).wr R.SEG_JUMP.SRC_EN 3 1).wr R.SEG_JUMP.SRC 3 1).wr R.SEG_JUMP.TARGET 3 9) (3) (9) := by decide

theorem wit_SegmentPlay_13 : (fun (s : State) (t' : Fin 16) => s.fl R.SEG_JUMP.SRC_EN t'.val = true ∧ (((s.play t'.val).srcSample ≠ some false ∨ s.cond t'.val (s.rd R.SEG_JUMP.SRC t'.val) = false))) ((ran.wr R.SEG_JUMP.SRC_EN 3 1).wr R.SEG_JUMP.SRC 3 1) (3) := by decide

theorem wit_SegmentPlay_14 : (fun (s : State) (t' : Fin 16) => s.fl R.SEG_JUMP.SRC_EN t'.val = false) (ran) (3) := by decide

theorem wit_BootFlash_1 : (fun (s : State) (present : Bool) (id : Nat) => s.alive = true) (base) (true) (0x1840EF) := by decide

theorem wit_BootFlash_1_2 : (fun (s : State) (present : Bool) (id : Nat) => s.alive = true) (base) (true) (0xFFFFFF) := by decide

theorem wit_BootFlash_1_3 : (fun (s : State) (present : Bool) (id : Nat) => s.alive = true) (base) (false) (0x1840EF) := by decide

theorem wit_BootFlash_2 : (fun (s : State) (present : Bool) (id : Nat) => s.alive = false) ({ base with m := { base.m with porst := true } }) (true) (0x1840EF) := by decide

theorem wit_BootFlash_3 : (fun (s : State) (rq : Req) => s.canWrite rq .FLS_LOCK 0 ∧ s.rd R.FLS_LOCK.HOLDER 0 = 0) (base) (.fn 0) := by decide

theorem wit_BootFlash_3_2 : (fun (s : State) (rq : Req) => s.canWrite rq .FLS_LOCK 0 ∧ s.rd R.FLS_LOCK.HOLDER 0 = 0) (base) (.spi) := by decide

theorem wit_BootFlash_4 : (fun (s : State) (rq : Req) => s.canWrite rq .FLS_LOCK 0 ∧ s.rd R.FLS_LOCK.HOLDER 0 ≠ 0) (base.wr R.FLS_LOCK.HOLDER 0 1) (.fn 0) := by decide

theorem wit_BootFlash_4_2 : (fun (s : State) (rq : Req) => s.canWrite rq .FLS_LOCK 0 ∧ s.rd R.FLS_LOCK.HOLDER 0 ≠ 0) (base.wr R.FLS_LOCK.HOLDER 0 3) (.spi) := by decide

theorem wit_BootFlash_5 : (fun (s : State) (rq : Req) => s.canWrite rq .FLS_LOCK 0 ∧ s.holds rq = true) (base.wr R.FLS_LOCK.HOLDER 0 1) (.fn 0) := by decide

theorem wit_BootFlash_6 : (fun (s : State) (f : Fin 64) => s.canWrite (.fn f) .FLS_LOCK 0 ∧ s.holds (.fn f) = false) (base.wr R.FLS_LOCK.HOLDER 0 2) (0) := by decide

theorem wit_BootFlash_7 : (fun (s : State) (rq : Req) (w : Word) (n len : Nat) => s.canWrite rq .FLS_CMD 0 ∧ s.holds rq = true ∧ s.rd R.FLS_STATUS.BUSY 0 = 0 ∧ n = R.FLS_CMD.ADDR_BYTES.part w.toNat ∧ ((n = 0 ∨ n = 3 ∨ n = 4)) ∧ len = R.FLS_CMD.DATA_LEN.part w.toNat ∧ len ≤ 256) ((base.wr R.FLS_LOCK.HOLDER 0 1).wr R.FLS_ADDR.ADDR 0 0x12345678) (.fn 0) (BitVec.ofNat 32 (0x03 + 3 * 256 + 8 * 65536 + 2 ^ 25)) (3) (8) := by decide

theorem wit_BootFlash_7_2 : (fun (s : State) (rq : Req) (w : Word) (n len : Nat) => s.canWrite rq .FLS_CMD 0 ∧ s.holds rq = true ∧ s.rd R.FLS_STATUS.BUSY 0 = 0 ∧ n = R.FLS_CMD.ADDR_BYTES.part w.toNat ∧ ((n = 0 ∨ n = 3 ∨ n = 4)) ∧ len = R.FLS_CMD.DATA_LEN.part w.toNat ∧ len ≤ 256) ((base.wr R.FLS_LOCK.HOLDER 0 1).wr R.FLS_ADDR.ADDR 0 0x12345678) (.fn 0) (BitVec.ofNat 32 (0x05 + 256 * 65536 + 2 ^ 25 + 2 ^ 26)) (0) (256) := by decide

theorem wit_BootFlash_7_3 : (fun (s : State) (rq : Req) (w : Word) (n len : Nat) => s.canWrite rq .FLS_CMD 0 ∧ s.holds rq = true ∧ s.rd R.FLS_STATUS.BUSY 0 = 0 ∧ n = R.FLS_CMD.ADDR_BYTES.part w.toNat ∧ ((n = 0 ∨ n = 3 ∨ n = 4)) ∧ len = R.FLS_CMD.DATA_LEN.part w.toNat ∧ len ≤ 256) ((base.wr R.FLS_LOCK.HOLDER 0 1).wr R.FLS_BUF.DATA 0 0x12345678) (.fn 0) (BitVec.ofNat 32 (0x02 + 3 * 256 + 2 * 65536 + 2 ^ 26)) (3) (2) := by decide

theorem wit_BootFlash_8 : (fun (s : State) (f : Fin 64) (w : Word) => s.canWrite (.fn f) .FLS_CMD 0 ∧ ((s.holds (.fn f) = false ∨ s.rd R.FLS_STATUS.BUSY 0 = 1))) (base) (0) (0x03) := by decide

theorem wit_BootFlash_9 : (fun (s : State) (rq : Req) (w : Word) (n len : Nat) => s.canWrite rq .FLS_CMD 0 ∧ s.holds rq = true ∧ s.rd R.FLS_STATUS.BUSY 0 = 0 ∧ n = R.FLS_CMD.ADDR_BYTES.part w.toNat ∧ len = R.FLS_CMD.DATA_LEN.part w.toNat ∧ (((n ≠ 0 ∧ n ≠ 3 ∧ n ≠ 4) ∨ 256 < len))) (base.wr R.FLS_LOCK.HOLDER 0 1) (.fn 0) (BitVec.ofNat 32 (0x03 + 3 * 256 + 257 * 65536 + 2 ^ 25)) (3) (257) := by decide

theorem wit_BootFlash_9_2 : (fun (s : State) (rq : Req) (w : Word) (n len : Nat) => s.canWrite rq .FLS_CMD 0 ∧ s.holds rq = true ∧ s.rd R.FLS_STATUS.BUSY 0 = 0 ∧ n = R.FLS_CMD.ADDR_BYTES.part w.toNat ∧ len = R.FLS_CMD.DATA_LEN.part w.toNat ∧ (((n ≠ 0 ∧ n ≠ 3 ∧ n ≠ 4) ∨ 256 < len))) (base.wr R.FLS_LOCK.HOLDER 0 1) (.fn 0) (BitVec.ofNat 32 (0x03 + 2 * 256 + 8 * 65536 + 2 ^ 25)) (2) (8) := by decide

theorem wit_BootFlash_10 : (fun (s : State) (status : Byte) (bytes : List Byte) (c : FlashCmd) => s.flash.cmd = some c ∧ ((c.poll = false ∨ status.toNat % 2 = 0)) ∧ c.fromFlash = true ∧ c.len ≤ 256) ({ base with flash := { base.flash with cmd := some ⟨0x03, 3, 0x100, 0, 5, true, false, false, []⟩ } }) (1) ([10, 20, 30]) (⟨0x03, 3, 0x100, 0, 5, true, false, false, []⟩) := by decide

theorem wit_BootFlash_10_2 : (fun (s : State) (status : Byte) (bytes : List Byte) (c : FlashCmd) => s.flash.cmd = some c ∧ ((c.poll = false ∨ status.toNat % 2 = 0)) ∧ c.fromFlash = true ∧ c.len ≤ 256) ({ base with flash := { base.flash with cmd := some ⟨0x05, 0, 0, 0, 1, true, false, true, []⟩ } }) (4) ([10, 20, 30]) (⟨0x05, 0, 0, 0, 1, true, false, true, []⟩) := by decide

theorem wit_BootFlash_11 : (fun (s : State) (status : Byte) (bytes : List Byte) (c : FlashCmd) (b : Nat) => s.flash.cmd = some c ∧ ((c.poll = false ∨ status.toNat % 2 = 0)) ∧ c.fromFlash = false ∧ c.opcode = 0x02 ∧ c.wren = true ∧ c.data = [b]) ({ base with flash := { base.flash with cmd := some ⟨0x02, 3, 0x1FF, 0, 1, false, true, true, [0x35]⟩ } }) (4) ([]) (⟨0x02, 3, 0x1FF, 0, 1, false, true, true, [0x35]⟩) (0x35) := by decide

theorem wit_BootFlash_12 : (fun (s : State) (status : Byte) (bytes : List Byte) (c : FlashCmd) => s.flash.cmd = some c ∧ c.poll = true ∧ status.toNat % 2 = 1) ({ base with flash := { base.flash with cmd := some ⟨0x02, 3, 0x1FF, 0, 1, false, true, true, [0x35]⟩ } }) (3) ([]) (⟨0x02, 3, 0x1FF, 0, 1, false, true, true, [0x35]⟩) := by decide

theorem wit_BootFlash_13 : (fun (s : State) (status : Byte) (bytes : List Byte) => s.flash.cmd = none) (base) (0) ([]) := by decide

theorem wit_BootFlash_14 : (fun (s : State) (rq : Req) (off n : Nat) (long : Bool) => s.reachable rq = true ∧ s.winMay rq = true ∧ 0x8000 ≤ off ∧ off < 0x10000 ∧ n = (if long then 8 else 4) ∧ off % n = 0 ∧ s.fl R.FLS_STATUS.BUSY 0 = false ∧ s.fl R.FLS_STATUS.PRESENT 0 = true ∧ s.winAddr off < s.flashReach ∧ s.flashWide = false) ((base.wr R.FLS_STATUS.PRESENT 0 1).wr R.FLS_ID.ID 0 0x180000) (.fn 0) (0x8014) (4) (false) := by decide

theorem wit_BootFlash_14_2 : (fun (s : State) (rq : Req) (off n : Nat) (long : Bool) => s.reachable rq = true ∧ s.winMay rq = true ∧ 0x8000 ≤ off ∧ off < 0x10000 ∧ n = (if long then 8 else 4) ∧ off % n = 0 ∧ s.fl R.FLS_STATUS.BUSY 0 = false ∧ s.fl R.FLS_STATUS.PRESENT 0 = true ∧ s.winAddr off < s.flashReach ∧ s.flashWide = false) ((base.wr R.FLS_STATUS.PRESENT 0 1).wr R.FLS_ID.ID 0 0x180000) (.spi) (0x8010) (8) (true) := by decide

theorem wit_BootFlash_15 : (fun (s : State) (rq : Req) (off n : Nat) (long : Bool) => s.reachable rq = true ∧ s.winMay rq = true ∧ 0x8000 ≤ off ∧ off < 0x10000 ∧ n = (if long then 8 else 4) ∧ off % n = 0 ∧ s.fl R.FLS_STATUS.BUSY 0 = false ∧ s.fl R.FLS_STATUS.PRESENT 0 = true ∧ s.winAddr off < s.flashReach ∧ s.flashWide = true) ((let B := (base.wr R.FLS_STATUS.PRESENT 0 1).wr R.FLS_ID.ID 0 0x1A0000; ({ B with image := none, m := { B.m with straps := 16 } } : State))) (.spi) (0x8014) (4) (false) := by decide

theorem wit_BootFlash_16 : (fun (s : State) (rq : Req) (off n : Nat) (long : Bool) => s.reachable rq = true ∧ s.winMay rq = true ∧ 0x8000 ≤ off ∧ off < 0x10000 ∧ n = (if long then 8 else 4) ∧ off % n = 0 ∧ ((s.fl R.FLS_STATUS.BUSY 0 = true ∨ s.fl R.FLS_STATUS.PRESENT 0 = false ∨ s.flashReach ≤ s.winAddr off))) (((base.wr R.FLS_STATUS.PRESENT 0 1).wr R.FLS_ID.ID 0 0x140000).wr R.FLS_WIN_PAGE.PAGE 0 32) (.fn 0) (0x8000) (8) (true) := by decide

theorem wit_BootFlash_16_2 : (fun (s : State) (rq : Req) (off n : Nat) (long : Bool) => s.reachable rq = true ∧ s.winMay rq = true ∧ 0x8000 ≤ off ∧ off < 0x10000 ∧ n = (if long then 8 else 4) ∧ off % n = 0 ∧ ((s.fl R.FLS_STATUS.BUSY 0 = true ∨ s.fl R.FLS_STATUS.PRESENT 0 = false ∨ s.flashReach ≤ s.winAddr off))) (base.wr R.FLS_STATUS.BUSY 0 1) (.fn 0) (0x8004) (4) (false) := by decide

theorem wit_BootFlash_17 : (fun (s : State) (rq : Req) (off : Nat) (bytes : List Byte) => s.reachable rq = true ∧ s.winMay rq = true ∧ 0x8000 ≤ off ∧ off < 0x10000 ∧ bytes ≠ [] ∧ off % 8 + bytes.length ≤ 8 ∧ s.holds rq = true ∧ s.fl R.FLS_STATUS.BUSY 0 = false ∧ s.flashWide = false ∧ s.winAddr off < s.flashReach) (((base.wr R.FLS_STATUS.PRESENT 0 1).wr R.FLS_ID.ID 0 0x180000).wr R.FLS_LOCK.HOLDER 0 1) (.fn 0) (0x8013) ([0x35]) := by decide

theorem wit_BootFlash_17_2 : (fun (s : State) (rq : Req) (off : Nat) (bytes : List Byte) => s.reachable rq = true ∧ s.winMay rq = true ∧ 0x8000 ≤ off ∧ off < 0x10000 ∧ bytes ≠ [] ∧ off % 8 + bytes.length ≤ 8 ∧ s.holds rq = true ∧ s.fl R.FLS_STATUS.BUSY 0 = false ∧ s.flashWide = false ∧ s.winAddr off < s.flashReach) (((base.wr R.FLS_STATUS.PRESENT 0 1).wr R.FLS_ID.ID 0 0x180000).wr R.FLS_LOCK.HOLDER 0 2) (.spi) (0x8018) ([1, 2, 3, 4, 5, 6, 7, 8]) := by decide

theorem wit_BootFlash_18 : (fun (s : State) (f : Fin 64) (off : Nat) (bytes : List Byte) => s.reachable (.fn f) = true ∧ s.winMay (.fn f) = true ∧ 0x8000 ≤ off ∧ off < 0x10000 ∧ bytes ≠ [] ∧ off % 8 + bytes.length ≤ 8 ∧ ((s.holds (.fn f) = false ∨ s.fl R.FLS_STATUS.BUSY 0 = true ∨ s.flashWide = true ∨ s.flashReach ≤ s.winAddr off))) (base) (0) (0x8013) ([0x35]) := by decide

theorem wit_BootFlash_19 : (fun (s : State) (status : Byte) (l : List (Nat × Nat)) => s.flash.program = some l ∧ (l.map (·.1)).Nodup ∧ status.toNat % 2 = 0) ({ base with flash := { base.flash with program := some [(0x1000, 0x35), (0x1001, 0x36)] } }) (2) ([(0x1000, 0x35), (0x1001, 0x36)]) := by decide

theorem wit_BootFlash_20 : (fun (s : State) (status : Byte) => ((status.toNat % 2 = 1 ∨ s.flash.program = none))) ({ base with flash := { base.flash with program := some [(0x1000, 0x35)] } }) (3) := by decide

theorem wit_BootFlash_21 : (fun (s : State) (status : Byte) (a b : Nat) => s.flash.program = some [(a, b)]) ({ base with flash := { base.flash with program := some [(0x1000, 0x35)] } }) (3) (0x1000) (0x35) := by decide

theorem wit_BootFlash_22 : (fun (s : State) (status : Byte) (c : FlashCmd) => s.flash.program = none ∧ s.flash.cmd = some c ∧ c.poll = true) ({ base with flash := { base.flash with cmd := some ⟨0x05, 0, 0, 0, 1, true, false, true, []⟩ } }) (3) (⟨0x05, 0, 0, 0, 1, true, false, true, []⟩) := by decide

theorem wit_BootFlash_23 : (fun (s : State) (status : Byte) => s.flash.program = none ∧ (s.flash.cmd.any (·.poll)) = false) (base) (3) := by decide

theorem wit_Calibration_1 : (fun (s : State) (rq : Req) (q : Fin 4) (w : Word) => s.canWrite rq .CAL_CTL q.val ∧ ((s.operating = true ∨ (s.m.mode = .service ∧ s.m.startup = false))) ∧ R.CAL_CTL.ABORT.part w.toNat = 0 ∧ (s.cal q.val).running = false) (base) (.fn 0) (1) (0) := by decide

theorem wit_Calibration_2 : (fun (s : State) (rq : Req) (q : Fin 4) (w : Word) => s.canWrite rq .CAL_CTL q.val ∧ ((s.operating = true ∨ (s.m.mode = .service ∧ s.m.startup = false))) ∧ R.CAL_CTL.ABORT.part w.toNat = 0 ∧ (s.cal q.val).running = true) (base.setCal 1 { CalSt.idle with running := true, cur := some (6, 40) }) (.fn 0) (1) (0) := by decide

theorem wit_Calibration_3 : (fun (s : State) (rq : Req) (q : Fin 4) (w : Word) => s.canWrite rq .CAL_CTL q.val ∧ s.operating = false ∧ ((s.m.mode ≠ .service ∨ s.m.startup = true)) ∧ R.CAL_CTL.ABORT.part w.toNat = 0) ((let B := base; ({ B with m := { B.m with mode := .service, startup := true } } : State))) (.fn 0) (1) (0) := by decide

theorem wit_Calibration_4 : (fun (s : State) (rq : Req) (q : Fin 4) (w : Word) => s.canWrite rq .CAL_CTL q.val ∧ R.CAL_CTL.REQ.part w.toNat = 0 ∧ ((s.cal q.val).running = false ∨ s.m.startup = true)) (base) (.fn 0) (1) (0) := by decide

theorem wit_Calibration_5 : (fun (s : State) (rq : Req) (q : Fin 4) (w : Word) => s.canWrite rq .CAL_CTL q.val ∧ R.CAL_CTL.REQ.part w.toNat = 0 ∧ (s.cal q.val).running = true ∧ s.m.startup = false) (base.setCal 1 { CalSt.idle with running := true, cur := some (6, 40), todo := [(6, 41)], deferred := [(3, 2500)] }) (.fn 0) (1) (0) := by decide

theorem wit_Calibration_6 : (fun (s : State) (q : Fin 4) (k u : Nat) (l : List Int) (verr terr : Int) => (s.cal q.val).running = true ∧ (s.cal q.val).cur = some (k, u) ∧ (s.cal q.val).waiting = false ∧ s.calPaused = false ∧ k ∈ [2, 3, 5, 6, 7] ∧ l.length = trimCount k ∧ ((∀ j, j < l.length → (trimRange k j).1 + 8 ≤ l.getD j 0 ∧ l.getD j 0 ≤ (trimRange k j).2 - 8))) (base.setCal 1 { CalSt.idle with running := true, cur := some (6, 40), todo := [(6, 41)] }) (1) (6) (40) ([-7, 2039]) (-1) (4) := by decide

theorem wit_Calibration_6_2 : (fun (s : State) (q : Fin 4) (k u : Nat) (l : List Int) (verr terr : Int) => (s.cal q.val).running = true ∧ (s.cal q.val).cur = some (k, u) ∧ (s.cal q.val).waiting = false ∧ s.calPaused = false ∧ k ∈ [2, 3, 5, 6, 7] ∧ l.length = trimCount k ∧ ((∀ j, j < l.length → (trimRange k j).1 + 8 ≤ l.getD j 0 ∧ l.getD j 0 ≤ (trimRange k j).2 - 8))) (base.setCal 1 { CalSt.idle with running := true, cur := some (2, 17), todo := [(6, 41)] }) (1) (2) (17) (List.replicate 32 (-119)) (-1) (4) := by decide

theorem wit_Calibration_7 : (fun (s : State) (q : Fin 4) (k u : Nat) (x : CalOutcome) (verr terr : Int) => (s.cal q.val).cur = some (k, u) ∧ (((s.cal q.val).running = false ∨ (s.cal q.val).waiting = true ∨ s.calPaused = true))) (base.setCal 1 { CalSt.idle with running := true, waiting := true, cur := some (6, 40), tries := 2 }) (1) (6) (40) (.spineFail) (21) (-4) := by decide

theorem wit_Calibration_8 : (fun (s : State) (q : Fin 4) (u : Nat) (a b verr terr : Int) => (s.cal q.val).running = true ∧ (s.cal q.val).cur = some (6, u) ∧ (s.cal q.val).waiting = false ∧ s.calPaused = false ∧ 2047 < a) (base.setCal 1 { CalSt.idle with running := true, cur := some (6, 40), todo := [(6, 41)] }) (1) (40) (2048) (2039) (-1) (4) := by decide

theorem wit_Calibration_9 : (fun (s : State) (q : Fin 4) (k u : Nat) (verr terr : Int) => (s.cal q.val).running = true ∧ (s.cal q.val).cur = some (k, u) ∧ (s.cal q.val).waiting = false ∧ s.calPaused = false ∧ (s.cal q.val).tries + 1 < 4) (base.setCal 1 { CalSt.idle with running := true, cur := some (6, 40), tries := 2 }) (1) (6) (40) (21) (-4) := by decide

theorem wit_Calibration_10 : (fun (s : State) (q : Fin 4) (k u : Nat) (verr terr : Int) => (s.cal q.val).running = true ∧ (s.cal q.val).cur = some (k, u) ∧ (s.cal q.val).waiting = false ∧ s.calPaused = false ∧ (s.cal q.val).todo = [] ∧ s.calAvail k u = false) ((base.setCal 1 { CalSt.idle with running := true, cur := some (6, 40) }).wr R.ADC_STATUS.BUSY 40 1) (1) (6) (40) (21) (-4) := by decide

theorem wit_Calibration_11 : (fun (s : State) (q : Fin 4) (k u : Nat) (verr terr : Int) => (s.cal q.val).running = true ∧ (s.cal q.val).cur = some (k, u) ∧ (s.cal q.val).waiting = true ∧ s.calPaused = false) (base.setCal 1 { CalSt.idle with running := true, waiting := true, cur := some (6, 40), tries := 2 }) (1) (6) (40) (21) (-4) := by decide

theorem wit_Calibration_12 : (fun (s : State) (q : Fin 4) (ok : Bool) (verr terr : Int) => (((s.cal q.val).running = false ∨ (s.cal q.val).waiting = false ∨ s.calPaused = true ∨ (s.cal q.val).cur = none))) (base) (1) (true) (21) (-4) := by decide

theorem wit_Calibration_13 : (fun (s : State) (q : Fin 4) => (((s.cal q.val).running = false ∨ s.m.startup = true))) (base) (1) := by decide

theorem wit_Calibration_14 : (fun (s : State) (q : Fin 4) (verr terr : Int) => (s.cal q.val).running = true ∧ (s.cal q.val).cur = some (1, q.val) ∧ (s.cal q.val).waiting = true ∧ s.calPaused = false ∧ 3 ≤ (s.cal q.val).tries ∧ s.fl R.CAL_CTL.REQ_PENDING q.val = false) (base.setCal 1 { CalSt.idle with running := true, waiting := true, cur := some (1, 1), tries := 3 }) (1) (21) (-4) := by decide

theorem wit_Calibration_15 : (fun (s : State) (q : Fin 4) (u : Nat) (verr terr : Int) => (s.cal q.val).running = true ∧ (s.cal q.val).cur = some (6, u) ∧ (s.cal q.val).waiting = true ∧ s.calPaused = false ∧ 3 ≤ (s.cal q.val).tries) (base.setCal 1 { CalSt.idle with running := true, waiting := true, cur := some (6, 40), todo := [(6, 41)], tries := 3 }) (1) (40) (21) (-4) := by decide

theorem wit_Calibration_16 : (fun (s : State) (q : Fin 4) (k u j v : Nat) => (s.cal q.val).running = true ∧ s.m.startup = false ∧ (s.cal q.val).cur = some (k, u) ∧ (s.cal q.val).todo = [(j, v)] ∧ j ≠ 1) (base.setCal 1 { CalSt.idle with running := true, cur := some (6, 40), todo := [(6, 41)] }) (1) (6) (40) (6) (41) := by decide

theorem wit_Calibration_17 : (fun (s : State) (q : Fin 4) => s.m.startup = false ∧ (s.cal q.val).running = true ∧ (s.cal q.val).cur = none ∧ (s.cal q.val).todo = [] ∧ s.fl R.CAL_CTL.REQ_PENDING q.val = false) ((base.setCal 1 { CalSt.idle with running := true }).wr R.CAL_TEMP.T_NOW 1 77) (1) := by decide

theorem wit_Calibration_18 : (fun (s : State) => ((s.m.startup = false ∨ s.rd R.DEV_STARTUP.STEP 0 ≠ 4))) (base.setCal 1 { CalSt.idle with running := true }) := by decide

theorem wit_Calibration_19 : (fun (s : State) => s.m.startup = true ∧ s.rd R.DEV_STARTUP.STEP 0 = 4 ∧ ((∀ q, q < 4 → s.fl R.CAL_CTL.REQ_PENDING q = false))) ((let B := base.wr R.DEV_STARTUP.STEP 0 4; ({ B with m := { B.m with startup := true, mode := .service } } : State).setCal 1 { CalSt.idle with running := true, cur := some (6, 40), todo := [(6, 41)] })) := by decide

theorem wit_Calibration_20 : (fun (s : State) (t' : Fin 16) (k u : Nat) => (s.targets.map (·.1)).Nodup ∧ trimKey k u ∈ s.glazingKeys ∧ u < 65536 ∧ k ∈ [2, 4, 5, 6, 7] ∧ s.glazeTile k u = t'.val) ({ base with targets := [(trimKey 2 13, List.replicate 32 (3 : Int)), (trimKey 2 14, List.replicate 32 (2 : Int))], trims := smSet [] [] (trimKey 2 13) (List.replicate 32 (1 : Int)) }) (3) (2) (13) := by decide

theorem wit_Calibration_21 : (fun (s : State) (t' : Fin 16) (u p : Nat) (off : Bool) => (s.targets.map (·.1)).Nodup ∧ trimKey 3 u ∈ s.glazingKeys ∧ u < 65536 ∧ s.glazeTile 3 u = t'.val ∧ p = s.dacSpan u ∧ off = decide ((s.trim 3 u).getD (2 * p + 1) 0 ≠ (s.target 3 u).getD (2 * p + 1) 0)) ({ base with targets := [(trimKey 3 1735, List.replicate 8 (3 : Int))], trims := smSet [] [] (trimKey 3 1735) (List.replicate 8 (1 : Int)) }) (3) (1735) (0) (true) := by decide

theorem wit_Calibration_22 : (fun (s : State) (t' : Fin 16) => s.glazingKeys = []) (base) (3) := by decide

theorem wit_Housekeeping_1 : (fun (s : State) (temps rails spines : List Int) => s.clocked = true ∧ s.hk.round < 4 ∧ s.rd R.THS_BROKEN.BROKEN 0 = 0 ∧ temps.length = 22 ∧ ((∀ x ∈ temps, x < 16 * 135 ∧ x < 16 * (s.rd R.THS_CONE.T_C 0 : Int))) ∧ s.hk.past.length < 64 ∧ s.fl R.THS_STATUS.CONE_T 0 = false) (base.wr R.THS_CONE.T_C 0 100) ((List.range 22).map (fun (n : Nat) => (400 + (n : Int)))) ([1, 2, 3, 4, 5, 6, 7, 8]) ([0, 0, 0, 0]) := by decide

theorem wit_Housekeeping_2 : (fun (s : State) (n : Fin 22) (x c : Int) (rails spines : List Int) => s.clocked = true ∧ 4 ≤ s.hk.round ∧ s.rd R.THS_BROKEN.BROKEN 0 = 0 ∧ s.hk.disagree = [(n.val, 2)] ∧ 0 ≤ c ∧ c + 192 < x ∧ x < 16 * 135 ∧ c < 16 * (s.rd R.THS_CONE.T_C 0 : Int) ∧ s.hk.past.length < 64 ∧ s.fl R.THS_STATUS.CONE_T 0 = false) ((let B := base.wr R.THS_CONE.T_C 0 100; ({ B with hk := { B.hk with round := 9, disagree := [(17, 2)] } } : State))) (17) (700) (400) ([]) ([]) := by decide

theorem wit_Housekeeping_2_2 : (fun (s : State) (n : Fin 22) (x c : Int) (rails spines : List Int) => s.clocked = true ∧ 4 ≤ s.hk.round ∧ s.rd R.THS_BROKEN.BROKEN 0 = 0 ∧ s.hk.disagree = [(n.val, 2)] ∧ 0 ≤ c ∧ c + 192 < x ∧ x < 16 * 135 ∧ c < 16 * (s.rd R.THS_CONE.T_C 0 : Int) ∧ s.hk.past.length < 64 ∧ s.fl R.THS_STATUS.CONE_T 0 = false) ((let B := base.wr R.THS_CONE.T_C 0 100; ({ B with hk := { B.hk with round := 9, disagree := [(5, 2)] } } : State))) (5) (593) (400) ([]) ([]) := by decide

theorem wit_Housekeeping_2_3 : (fun (s : State) (n : Fin 22) (x c : Int) (rails spines : List Int) => s.clocked = true ∧ 4 ≤ s.hk.round ∧ s.rd R.THS_BROKEN.BROKEN 0 = 0 ∧ s.hk.disagree = [(n.val, 2)] ∧ 0 ≤ c ∧ c + 192 < x ∧ x < 16 * 135 ∧ c < 16 * (s.rd R.THS_CONE.T_C 0 : Int) ∧ s.hk.past.length < 64 ∧ s.fl R.THS_STATUS.CONE_T 0 = false) ((let B := base.wr R.THS_CONE.T_C 0 100; ({ B with hk := { B.hk with round := 9, disagree := [(21, 2)] } } : State))) (21) (593) (400) ([]) ([]) := by decide

theorem wit_Housekeeping_3 : (fun (s : State) (temps rails spines : List Int) => s.clocked = true ∧ s.hk.round < 4 ∧ s.rd R.THS_BROKEN.BROKEN 0 = 0 ∧ temps.length = 22 ∧ (∃ x ∈ temps, 16 * 135 ≤ x) ∧ smGet 0 s.hk.cones 4 = 7) ((let B := base; ({ B with hk := { B.hk with cones := [(4, 7)] } } : State))) (16 * 135 :: List.replicate 21 400) ([]) ([]) := by decide

theorem wit_Housekeeping_4 : (fun (s : State) (temps rails spines : List Int) => s.clocked = false) ((let B := base; ({ B with m := { B.m with trip := true } } : State))) ([]) ([]) ([]) := by decide

theorem wit_Housekeeping_5 : (fun (s : State) (rq : Req) (w : Word) => s.canWrite rq .THS_READMIT 0 ∧ s.m.mode = .service) ((let B := base.wr R.THS_BROKEN.BROKEN 0 0x21003; ({ B with m := { B.m with mode := .service }, hk := { B.hk with disagree := [(1, 2)] } } : State))) (.fn 0) (0x1002) := by decide

theorem wit_Housekeeping_6 : (fun (s : State) (f : Fin 64) (w : Word) => s.canWrite (.fn f) .THS_READMIT 0 ∧ s.m.mode ≠ .service ∧ w.toNat % 2 ^ 22 ≠ 0) (base.wr R.THS_BROKEN.BROKEN 0 3) (0) (3) := by decide

theorem wit_SparesAndRepair_1 : (fun (s : State) (rq : Req) (w : Word) (i k : Nat) => s.canWrite rq .SPR_CMD 0 ∧ s.rd R.SPR_CMD.STATUS 0 ≠ 1 ∧ R.SPR_CMD.PLACE.part w.toNat = place 5 i ∧ i < 64 ∧ s.unitState (place 5 i) = 0 ∧ s.spare.waiting = [] ∧ s.spareFor (place 5 i) = some k) (base.wr R.TDC_SPARE_STATUS.AVAILABLE 65 1) (.fn 0) (BitVec.ofNat 32 (place 5 13)) (13) (64) := by decide

theorem wit_SparesAndRepair_2 : (fun (s : State) (rq : Req) (w : Word) (i : Nat) => s.canWrite rq .SPR_CMD 0 ∧ s.rd R.SPR_CMD.STATUS 0 ≠ 1 ∧ R.SPR_CMD.PLACE.part w.toNat = place 5 i ∧ i < 64 ∧ s.unitState (place 5 i) = 0 ∧ s.spare.waiting = [] ∧ s.spareFor (place 5 i) = none) ((List.range 4).foldl (fun s k => s.wr R.TDC_SPARE_STATUS.AVAILABLE (64 + k) 0) base) (.fn 0) (BitVec.ofNat 32 (place 5 13)) (13) := by decide

theorem wit_SparesAndRepair_3 : (fun (s : State) (rq : Req) (w : Word) (i k : Nat) => s.canWrite rq .SPR_CMD 0 ∧ s.rd R.SPR_CMD.STATUS 0 ≠ 1 ∧ R.SPR_CMD.PLACE.part w.toNat = place 5 i ∧ i < 64 ∧ s.unitState (place 5 i) < 2 ∧ s.spare.waiting = [] ∧ s.spareFor (place 5 i) = some k) (base.wr R.TDC_SPARE_STATUS.AVAILABLE 65 1) (.fn 0) (BitVec.ofNat 32 (place 5 13)) (13) (64) := by decide

theorem wit_SparesAndRepair_4 : (fun (s : State) (rq : Req) (w : Word) (i : Nat) => s.canWrite rq .SPR_CMD 0 ∧ s.rd R.SPR_CMD.STATUS 0 ≠ 1 ∧ R.SPR_CMD.PLACE.part w.toNat = place 5 i ∧ i < 64 ∧ s.unitState (place 5 i) < 2 ∧ s.spare.waiting = [] ∧ s.spareFor (place 5 i) = none) ((List.range 4).foldl (fun s k => s.wr R.TDC_SPARE_STATUS.AVAILABLE (64 + k) 0) (base.wr R.TDC_CTL.ARMED 13 1)) (.fn 0) (BitVec.ofNat 32 (place 5 13)) (13) := by decide

theorem wit_SparesAndRepair_5 : (fun (s : State) (rq : Req) (w : Word) => s.canWrite rq .SPR_CMD 0 ∧ s.rd R.SPR_CMD.STATUS 0 ≠ 1 ∧ placeOk (R.SPR_CMD.PLACE.part w.toNat) = true) (base) (.fn 0) (0x1003) := by decide

theorem wit_SparesAndRepair_6 : (fun (s : State) (rq : Req) (w : Word) => s.canWrite rq .SPR_CMD 0 ∧ s.rd R.SPR_CMD.STATUS 0 ≠ 1 ∧ placeOk (R.SPR_CMD.PLACE.part w.toNat) = true) (base) (.fn 0) (0x0003) := by decide

theorem wit_SparesAndRepair_7 : (fun (s : State) (rq : Req) (w : Word) => s.canWrite rq .SPR_CMD 0 ∧ s.rd R.SPR_CMD.STATUS 0 ≠ 1 ∧ placeOk (R.SPR_CMD.PLACE.part w.toNat) = false) (base) (.fn 0) (0x5044) := by decide

theorem wit_SparesAndRepair_8 : (fun (s : State) (rq : Req) (w : Word) => s.canWrite rq .SPR_CMD 0 ∧ s.rd R.SPR_CMD.STATUS 0 ≠ 1 ∧ placeOk (R.SPR_CMD.PLACE.part w.toNat) = false) (base) (.fn 0) (0x5044) := by decide

theorem wit_SparesAndRepair_8_2 : (fun (s : State) (rq : Req) (w : Word) => s.canWrite rq .SPR_CMD 0 ∧ s.rd R.SPR_CMD.STATUS 0 ≠ 1 ∧ placeOk (R.SPR_CMD.PLACE.part w.toNat) = false) (base) (.fn 0) (0xFFFF) := by decide

theorem wit_SparesAndRepair_9 : (fun (s : State) (f : Fin 64) (w : Word) => s.canWrite (.fn f) .SPR_CMD 0 ∧ s.rd R.SPR_CMD.STATUS 0 = 1) (base.wr R.SPR_CMD.STATUS 0 1) (0) (0x500D) := by decide

theorem wit_SparesAndRepair_10 : (fun (s : State) (f : Fin 64) (w : Word) => s.canWrite (.fn f) .SPR_CMD 0 ∧ s.rd R.SPR_CMD.STATUS 0 = 1) (base.wr R.SPR_CMD.STATUS 0 1) (0) (0x500D) := by decide

theorem wit_SparesAndRepair_11 : (fun (s : State) (f : Fin 64) (w : Word) => s.canWrite (.fn f) .SPR_CMD 0 ∧ s.rd R.SPR_CMD.STATUS 0 = 1) (base.wr R.SPR_CMD.STATUS 0 1) (0) (0x8000) := by decide

theorem wit_SparesAndRepair_12 : (fun (s : State) (rq : Req) (w : Word) => s.canWrite rq .SPR_CMD 0 ∧ s.rd R.SPR_CMD.STATUS 0 ≠ 1 ∧ s.m.mode = .service ∧ s.m.startup = false ∧ ((R.SPR_CMD.PLACE.part w.toNat = 0x8000 ∨ (0x3000 ≤ R.SPR_CMD.PLACE.part w.toNat ∧ R.SPR_CMD.PLACE.part w.toNat < 0x3004)))) ((let B := base; ({ B with m := { B.m with mode := .service } } : State))) (.fn 0) (0x8000) := by decide

theorem wit_SparesAndRepair_12_2 : (fun (s : State) (rq : Req) (w : Word) => s.canWrite rq .SPR_CMD 0 ∧ s.rd R.SPR_CMD.STATUS 0 ≠ 1 ∧ s.m.mode = .service ∧ s.m.startup = false ∧ ((R.SPR_CMD.PLACE.part w.toNat = 0x8000 ∨ (0x3000 ≤ R.SPR_CMD.PLACE.part w.toNat ∧ R.SPR_CMD.PLACE.part w.toNat < 0x3004)))) ((let B := base; ({ B with m := { B.m with mode := .service } } : State))) (.fn 0) (0x3003) := by decide

theorem wit_SparesAndRepair_13 : (fun (s : State) (rq : Req) (w : Word) => s.canWrite rq .SPR_CMD 0 ∧ s.rd R.SPR_CMD.STATUS 0 ≠ 1 ∧ ((s.m.mode ≠ .service ∨ s.m.startup = true ∨ (R.SPR_CMD.PLACE.part w.toNat ≠ 0x8000 ∧ ¬(0x3000 ≤ R.SPR_CMD.PLACE.part w.toNat ∧ R.SPR_CMD.PLACE.part w.toNat < 0x3004))))) (base) (.fn 0) (0x8000) := by decide

theorem wit_SparesAndRepair_14 : (fun (s : State) (l : List Nat) => s.spare.selfTest = none) (base) ([5]) := by decide

theorem wit_SparesAndRepair_15 : (fun (s : State) (pl : Nat) => s.spare.selfTest = some pl) ((let B := base.wr R.SPR_CMD.STATUS 0 1; ({ B with spare := { B.spare with selfTest := some 0x8000 } } : State))) (0x8000) := by decide

theorem wit_SparesAndRepair_16 : (fun (s : State) (i k : Nat) => s.spare.selfTest = some 0x8000 ∧ i < 64 ∧ s.unitState (place 5 i) < 2 ∧ s.spare.waiting = [] ∧ s.spareFor (place 5 i) = some k) ((let B := base.wr R.TDC_SPARE_STATUS.AVAILABLE 65 1; ({ B with spare := { B.spare with selfTest := some 0x8000 } } : State))) (13) (64) := by decide

theorem wit_SparesAndRepair_17 : (fun (s : State) (i k m : Nat) => s.m.startup = false ∧ i < 64 ∧ s.spare.waiting = [⟨place 5 i, 0, m⟩] ∧ s.spareFor (place 5 i) = some k ∧ s.rd R.TDC_CTL.ARMED i = 0 ∧ s.nvm.map.length < 511) ((let B := base.wr R.TDC_SPARE_STATUS.AVAILABLE 65 1; ({ B with spare := { B.spare with waiting := [⟨place 5 13, 0, 2⟩] } } : State))) (13) (64) (2) := by decide

theorem wit_SparesAndRepair_18 : (fun (s : State) (k : Nat) => s.spareNow k = false) (base.wr R.TDC_CTL.ARMED 13 1) (place 5 13) := by decide

theorem wit_SparesAndRepair_18_2 : (fun (s : State) (k : Nat) => s.spareNow k = false) (base.wr R.SMU_MEAS.RUN 13 1) (place 1 13) := by decide

theorem wit_SparesAndRepair_19 : (fun (s : State) => s.mapWaits = true ∧ s.fl R.THS_STATUS.NVM_OK 0 = true ∧ s.fl R.NVM_STATUS.BUSY 0 = false ∧ s.fl R.NVM_STATUS.DIR_FAIL 0 = false) ((base.wr R.NVM_STATUS.REPAIR_PENDING 0 1).wr R.THS_STATUS.NVM_OK 0 1) := by decide

theorem wit_SparesAndRepair_20 : (fun (s : State) => ((s.mapWaits = false ∨ s.fl R.THS_STATUS.NVM_OK 0 = false ∨ s.fl R.NVM_STATUS.BUSY 0 = true ∨ s.fl R.NVM_STATUS.DIR_FAIL 0 = true))) (base.wr R.NVM_STATUS.REPAIR_PENDING 0 1) := by decide

theorem wit_NvmAndLog_1 : (fun (s : State) => s.log.buffer = []) (base) := by decide

theorem wit_NvmAndLog_2 : (fun (s : State) (x : Shard) (l : List Shard) => s.log.buffer = x :: l) ((let B := base; ({ B with log := { B.log with buffer := [⟨9, 5000, 0x10, 0x2003, 4, 0, 1, 2, 3⟩] } } : State))) (⟨9, 5000, 0x10, 0x2003, 4, 0, 1, 2, 3⟩) ([]) := by decide

theorem wit_NvmAndLog_3 : (fun (s : State) (rq : Req) (w : Word) (k : Nat) => s.canWrite rq .NVM_CMD 0 ∧ s.rd R.NVM_CMD.STATUS 0 ≠ 1 ∧ k = R.NVM_CMD.KIND.part w.toNat + 1 ∧ ((k = 2 ∨ k = 4 ∨ (16 ≤ k ∧ k < 32 ∧ (s.image.any fun im => if rq = .spi then im.userAccess = 2 else im.userAccess ≠ 0) = true)))) ((let B := base; ({ B with nvm := { B.nvm with chosen := smSet ⟨1, 0, false⟩ [] 2 ⟨0, 5, true⟩, cells := smWrite 0xFF [] 8192 (List.range 24) } } : State))) (.fn 0) (4) (2) := by decide

theorem wit_NvmAndLog_3_2 : (fun (s : State) (rq : Req) (w : Word) (k : Nat) => s.canWrite rq .NVM_CMD 0 ∧ s.rd R.NVM_CMD.STATUS 0 ≠ 1 ∧ k = R.NVM_CMD.KIND.part w.toNat + 1 ∧ ((k = 2 ∨ k = 4 ∨ (16 ≤ k ∧ k < 32 ∧ (s.image.any fun im => if rq = .spi then im.userAccess = 2 else im.userAccess ≠ 0) = true)))) (base) (.fn 0) (12) (4) := by decide

theorem wit_NvmAndLog_3_3 : (fun (s : State) (rq : Req) (w : Word) (k : Nat) => s.canWrite rq .NVM_CMD 0 ∧ s.rd R.NVM_CMD.STATUS 0 ≠ 1 ∧ k = R.NVM_CMD.KIND.part w.toNat + 1 ∧ ((k = 2 ∨ k = 4 ∨ (16 ≤ k ∧ k < 32 ∧ (s.image.any fun im => if rq = .spi then im.userAccess = 2 else im.userAccess ≠ 0) = true)))) (base) (.fn 0) (BitVec.ofNat 32 (15 * 4)) (16) := by decide

theorem wit_NvmAndLog_4 : (fun (s : State) (rq : Req) (w : Word) (k : Nat) => s.canWrite rq .NVM_CMD 0 ∧ s.rd R.NVM_CMD.STATUS 0 ≠ 1 ∧ k = R.NVM_CMD.KIND.part w.toNat + 1 ∧ ((k = 1 ∨ k = 3 ∨ (4 < k ∧ k < 16) ∨ 32 ≤ k ∨ (16 ≤ k ∧ k < 32 ∧ (s.image.any fun im => if rq = .spi then im.userAccess = 2 else im.userAccess ≠ 0) = false)))) (base) (.fn 0) (8) (3) := by decide

theorem wit_NvmAndLog_4_2 : (fun (s : State) (rq : Req) (w : Word) (k : Nat) => s.canWrite rq .NVM_CMD 0 ∧ s.rd R.NVM_CMD.STATUS 0 ≠ 1 ∧ k = R.NVM_CMD.KIND.part w.toNat + 1 ∧ ((k = 1 ∨ k = 3 ∨ (4 < k ∧ k < 16) ∨ 32 ≤ k ∨ (16 ≤ k ∧ k < 32 ∧ (s.image.any fun im => if rq = .spi then im.userAccess = 2 else im.userAccess ≠ 0) = false)))) (base) (.fn 0) (0) (1) := by decide

theorem wit_NvmAndLog_4_3 : (fun (s : State) (rq : Req) (w : Word) (k : Nat) => s.canWrite rq .NVM_CMD 0 ∧ s.rd R.NVM_CMD.STATUS 0 ≠ 1 ∧ k = R.NVM_CMD.KIND.part w.toNat + 1 ∧ ((k = 1 ∨ k = 3 ∨ (4 < k ∧ k < 16) ∨ 32 ≤ k ∨ (16 ≤ k ∧ k < 32 ∧ (s.image.any fun im => if rq = .spi then im.userAccess = 2 else im.userAccess ≠ 0) = false)))) (base) (.fn 0) (BitVec.ofNat 32 (31 * 4)) (32) := by decide

theorem wit_NvmAndLog_5 : (fun (s : State) (f : Fin 64) (w : Word) (k : Nat) (im : Image) => s.canWrite (.fn f) .NVM_CMD 0 ∧ s.rd R.NVM_CMD.STATUS 0 ≠ 1 ∧ k = R.NVM_CMD.KIND.part w.toNat + 1 ∧ 16 ≤ k ∧ k < 32 ∧ s.image = some im ∧ im.userAccess ≠ 0 ∧ s.fl R.NVM_STATUS.DIR_FAIL 0 = false ∧ ((s.fl R.THS_STATUS.NVM_OK 0 = false ∨ s.fl R.NVM_STATUS.BUSY 0 = true ∨ s.mapWaits = true))) (base) (0) (BitVec.ofNat 32 (15 * 4)) (16) (img) := by decide

theorem wit_NvmAndLog_6 : (fun (s : State) (f : Fin 64) (w : Word) (k : Nat) (im : Image) => s.canWrite (.fn f) .NVM_CMD 0 ∧ s.rd R.NVM_CMD.STATUS 0 ≠ 1 ∧ k = R.NVM_CMD.KIND.part w.toNat + 1 ∧ 16 ≤ k ∧ k < 32 ∧ s.image = some im ∧ im.userAccess ≠ 0 ∧ s.fl R.NVM_STATUS.DIR_FAIL 0 = false ∧ s.fl R.THS_STATUS.NVM_OK 0 = true ∧ s.fl R.NVM_STATUS.BUSY 0 = false ∧ s.mapWaits = false) (base.wr R.THS_STATUS.NVM_OK 0 1) (0) (BitVec.ofNat 32 (15 * 4)) (16) (img) := by decide

theorem wit_NvmAndLog_7 : (fun (s : State) (f : Fin 64) (w : Word) (k : Nat) => s.canWrite (.fn f) .NVM_CMD 0 ∧ s.rd R.NVM_CMD.STATUS 0 ≠ 1 ∧ k = R.NVM_CMD.KIND.part w.toNat + 1 ∧ ((k < 16 ∨ 32 ≤ k ∨ (s.image.any fun im => decide (im.userAccess ≠ 0)) = false))) (base) (0) (12) (4) := by decide

theorem wit_NvmAndLog_8 : (fun (s : State) (f : Fin 64) (w : Word) (k : Nat) (im : Image) => s.canWrite (.fn f) .NVM_CMD 0 ∧ s.rd R.NVM_CMD.STATUS 0 ≠ 1 ∧ k = R.NVM_CMD.KIND.part w.toNat + 1 ∧ 16 ≤ k ∧ k < 32 ∧ s.image = some im ∧ im.userAccess ≠ 0 ∧ s.fl R.NVM_STATUS.DIR_FAIL 0 = true) (base.wr R.NVM_STATUS.DIR_FAIL 0 1) (0) (BitVec.ofNat 32 (15 * 4)) (16) (img) := by decide

theorem wit_NvmAndLog_9 : (fun (s : State) (f : Fin 64) (w : Word) => s.canWrite (.fn f) .NVM_CMD 0 ∧ s.rd R.NVM_CMD.STATUS 0 = 1) (base.wr R.NVM_CMD.STATUS 0 1) (0) (BitVec.ofNat 32 (15 * 4)) := by decide

theorem wit_NvmAndLog_10 : (fun (s : State) (f : Fin 64) (w : Word) => s.canWrite (.fn f) .NVM_CMD 0 ∧ s.rd R.NVM_CMD.STATUS 0 = 1) (base.wr R.NVM_CMD.STATUS 0 1) (0) (4) := by decide

theorem wit_NvmAndLog_11 : (fun (s : State) (bad : List Nat) => s.nvm.job = none) (base) ([3]) := by decide

theorem wit_NvmAndLog_12 : (fun (s : State) (j : NvmJob) (l : Nat) => s.nvm.job = some j ∧ s.nvm.waiting = none ∧ j.kind ≠ 1 ∧ j.pages = [l] ∧ s.sparePages = []) ((let B := base; ({ B with nvm := { B.nvm with pageMap := (List.range 8).map (fun k => (k, 121 + k)), job := some ⟨16, 1, 6, [90, 87, 300], [89], false, true⟩ } } : State))) (⟨16, 1, 6, [90, 87, 300], [89], false, true⟩) (89) := by decide

theorem wit_NvmAndLog_13 : (fun (s : State) (j : NvmJob) (i : Nat) => s.nvm.job = some j ∧ s.nvm.waiting = none ∧ j.kind = 16 ∧ j.copy < 2 ∧ j.remapped = false ∧ i < j.bytes.length ∧ j.bytes.length ≤ 4096) ((let B := base; ({ B with nvm := { B.nvm with job := some ⟨16, 1, 6, [90, 87, 300], [89], false, true⟩ } } : State))) (⟨16, 1, 6, [90, 87, 300], [89], false, true⟩) (2) := by decide

theorem wit_NvmAndLog_14 : (fun (s : State) (j : NvmJob) (l p : Nat) (r : List Nat) => s.nvm.job = some j ∧ j.kind ≠ 1 ∧ j.pages = [l] ∧ s.sparePages = p :: r) ((let B := base; ({ B with nvm := { B.nvm with job := some ⟨16, 1, 6, [90, 87, 300], [89], false, true⟩ } } : State))) (⟨16, 1, 6, [90, 87, 300], [89], false, true⟩) (89) (120) ([121, 122, 123, 124, 125, 126, 127]) := by decide

theorem wit_NvmAndLog_15 : (fun (s : State) (j : NvmJob) (l : Nat) => s.nvm.job = some j ∧ s.nvm.waiting = none ∧ j.kind = 1 ∧ j.pages = [l]) ((let B := base; ({ B with nvm := { B.nvm with job := some ⟨1, 1, 6, [90, 87, 300], [1], false, true⟩ } } : State))) (⟨1, 1, 6, [90, 87, 300], [1], false, true⟩) (1) := by decide

theorem wit_ForerunnerPersonalities_1 : (fun (s : State) (p : Fin 4) (edge : Fin 2) => s.persona p.val = true ∧ s.fl R.THS_STATUS.CONE_T 0 = false ∧ s.m.relocking = false ∧ s.m.target = none ∧ ((∀ k, k < 4 → s.playing (4 * p.val + k) = false ∧ s.halted (4 * p.val + k) = false))) ((let B := base; ({ B with m := { B.m with mode := .legacy }, image := some { img with personalities := 2 } } : State))) (1) (1) := by decide

theorem wit_ForerunnerPersonalities_2 : (fun (s : State) (p : Fin 4) (edge : Fin 2) => s.persona p.val = true ∧ s.fl R.THS_STATUS.CONE_T 0 = true) ((let B := base.wr R.THS_STATUS.CONE_T 0 1; ({ B with m := { B.m with mode := .legacy }, image := some { img with personalities := 2 } } : State))) (1) (1) := by decide

theorem wit_ForerunnerPersonalities_3 : (fun (s : State) (p : Fin 4) (edge : Fin 2) => (s.persona p.val = false ∨ (s.fl R.THS_STATUS.CONE_T 0 = false ∧ (s.m.relocking = true ∨ s.m.target.isSome = true ∨ (personaTiles p.val).any (fun k => s.playing k || s.halted k) = true)))) (base) (1) (1) := by decide

theorem wit_ForerunnerPersonalities_3_2 : (fun (s : State) (p : Fin 4) (edge : Fin 2) => (s.persona p.val = false ∨ (s.fl R.THS_STATUS.CONE_T 0 = false ∧ (s.m.relocking = true ∨ s.m.target.isSome = true ∨ (personaTiles p.val).any (fun k => s.playing k || s.halted k) = true)))) ((let B := (base.setPlay 6 { PlaySt.idle with playing := true, phase := .idle }).wr R.SEQ_STATUS.STATE 6 1; ({ B with m := { B.m with mode := .legacy }, image := some { img with personalities := 2 } } : State))) (1) (0) := by decide

theorem wit_ForerunnerPersonalities_4 : (fun (s : State) (p : Fin 4) => s.persona p.val = true) ((let B := (base.setPlay 6 { PlaySt.idle with playing := true, phase := .idle }).wr R.SEQ_STATUS.STATE 6 1; ({ B with m := { B.m with mode := .legacy }, image := some { img with personalities := 2 } } : State))) (1) := by decide

theorem wit_ForerunnerPersonalities_5 : (fun (s : State) (p : Fin 4) => s.persona p.val = false) (base) (1) := by decide

theorem wit_ForerunnerPersonalities_6 : (fun (s : State) (p : Fin 4) => s.persona p.val = true ∧ (s.cal p.val).running = false) ((let B := base; ({ B with m := { B.m with mode := .legacy }, image := some { img with personalities := 2 } } : State))) (1) := by decide

theorem wit_ForerunnerPersonalities_7 : (fun (s : State) (p : Fin 4) => s.persona p.val = true ∧ (s.cal p.val).running = true) ((let B := base.setCal 1 { CalSt.idle with running := true, cur := some (6, 40) }; ({ B with m := { B.m with mode := .legacy }, image := some { img with personalities := 2 } } : State))) (1) := by decide

theorem wit_ForerunnerPersonalities_8 : (fun (s : State) (p : Fin 4) => s.persona p.val = true) ((let B := base; ({ B with m := { B.m with mode := .legacy }, image := some { img with personalities := 2 }, legacy := ⟨[(7, 8), (65540, 9)], [(16384, 7)]⟩ } : State))) (1) := by decide

theorem wit_ForerunnerPersonalities_9 : (fun (s : State) (p : Fin 4) (set : Fin 16) (ch : Fin 256) (item : Fin 8) (u : Nat) => s.persona p.val = true ∧ ((item.val < 6 ∨ (item.val = 6 ∧ u < 4)))) ((let B := base; ({ B with m := { B.m with mode := .legacy }, image := some { img with personalities := 2 } } : State))) (1) (3) (70) (0) (250) := by decide

theorem wit_ForerunnerPersonalities_9_2 : (fun (s : State) (p : Fin 4) (set : Fin 16) (ch : Fin 256) (item : Fin 8) (u : Nat) => s.persona p.val = true ∧ ((item.val < 6 ∨ (item.val = 6 ∧ u < 4)))) ((let B := base; ({ B with m := { B.m with mode := .legacy }, image := some { img with personalities := 2 } } : State))) (1) (3) (70) (6) (2) := by decide

theorem wit_ForerunnerPersonalities_9_3 : (fun (s : State) (p : Fin 4) (set : Fin 16) (ch : Fin 256) (item : Fin 8) (u : Nat) => s.persona p.val = true ∧ ((item.val < 6 ∨ (item.val = 6 ∧ u < 4)))) ((let B := base; ({ B with m := { B.m with mode := .legacy }, image := some { img with personalities := 2 } } : State))) (1) (3) (70) (4) (99999999) := by decide

theorem wit_ForerunnerPersonalities_10 : (fun (s : State) (p : Fin 4) (set : Fin 16) (ch : Fin 256) (u : Nat) => s.persona p.val = true ∧ 250 ≤ u) ((let B := base; ({ B with m := { B.m with mode := .legacy }, image := some { img with personalities := 2 } } : State))) (1) (3) (0) (1000) := by decide

theorem wit_ForerunnerPersonalities_11 : (fun (s : State) (p : Fin 4) (set : Fin 16) (ch : Fin 256) (item : Fin 8) (u : Nat) => s.persona p.val = true ∧ (((item.val = 7 ∧ u < 250) ∨ (item.val = 6 ∧ 4 ≤ u)))) ((let B := base; ({ B with m := { B.m with mode := .legacy }, image := some { img with personalities := 2 } } : State))) (1) (3) (0) (7) (249) := by decide

theorem wit_ForerunnerPersonalities_11_2 : (fun (s : State) (p : Fin 4) (set : Fin 16) (ch : Fin 256) (item : Fin 8) (u : Nat) => s.persona p.val = true ∧ (((item.val = 7 ∧ u < 250) ∨ (item.val = 6 ∧ 4 ≤ u)))) ((let B := base; ({ B with m := { B.m with mode := .legacy }, image := some { img with personalities := 2 } } : State))) (1) (3) (70) (6) (4) := by decide

theorem wit_ForerunnerPersonalities_12 : (fun (s : State) (p : Fin 4) (set : Fin 16) (ch : Fin 256) (item : Fin 8) (u : Nat) => s.persona p.val = false) (base) (1) (3) (70) (0) (250) := by decide

theorem wit_ForerunnerPersonalities_13 : (fun (s : State) (p : Fin 4) (ch : Fin 256) (set dac : Fin 8) (mv : Int) => s.persona p.val = false) (base) (1) (70) (2) (3) (-1200) := by decide

theorem wit_ForerunnerPersonalities_14 : (fun (s : State) (p : Fin 4) => s.persona p.val = false) (base) (1) := by decide

theorem wit_ForerunnerPersonalities_15 : (fun (s : State) (p : Fin 4) => s.persona p.val = false) (base) (1) := by decide

theorem wit_ForerunnerPersonalities_16 : (fun (s : State) (p : Fin 4) (ch : Fin 256) (set dac : Fin 8) (mv : Int) => s.persona p.val = true ∧ ((boundedDac dac.val = false ∨ s.laneCodeOk (256 * p.val + ch.val) 3 (codeOf mv) = true))) ((let B := base; ({ B with m := { B.m with mode := .legacy }, image := some { img with personalities := 2 } } : State))) (1) (70) (2) (3) (-1200) := by decide

theorem wit_ForerunnerPersonalities_16_2 : (fun (s : State) (p : Fin 4) (ch : Fin 256) (set dac : Fin 8) (mv : Int) => s.persona p.val = true ∧ ((boundedDac dac.val = false ∨ s.laneCodeOk (256 * p.val + ch.val) 3 (codeOf mv) = true))) ((let B := base; ({ B with m := { B.m with mode := .legacy }, image := some { img with personalities := 2 } } : State))) (1) (70) (2) (4) (5999) := by decide

theorem wit_ForerunnerPersonalities_17 : (fun (s : State) (p : Fin 4) (ch : Fin 256) (set dac : Fin 8) (mv : Int) => s.persona p.val = true ∧ boundedDac dac.val = true ∧ s.laneCodeOk (256 * p.val + ch.val) 3 (codeOf mv) = false) ((let B := base; ({ B with m := { B.m with mode := .legacy }, image := some { img with personalities := 2 } } : State))) (1) (70) (2) (0) (30000) := by decide

theorem wit_ForerunnerPersonalities_18 : (fun (s : State) (rq : Req) (p : Fin 4) (k : Nat) (bytes : List Byte) => s.reachable rq = true ∧ s.m.mode = .legacy ∧ s.legacyWin rq (0x4000000 * p.val + 0x2000000 + 8 * k) = some p.val ∧ 8 * k < 0x2000000 ∧ bytes.length = 8) ((let B := base; ({ B with m := { B.m with mode := .legacy }, image := some { img with personalities := 2 } } : State))) (.fn 0) (1) (1005) ([1, 2, 3, 4, 5, 6, 7, 255]) := by decide

theorem wit_ForerunnerPersonalities_19 : (fun (s : State) (f : Fin 64) (off : Nat) (bytes : List Byte) => s.reachable (.fn f) = true ∧ s.m.mode = .legacy ∧ off % 8 = 0 ∧ off < 0x10000000 ∧ s.legacyWin (.fn f) off = none ∧ bytes.length = 8) ((let B := base; ({ B with m := { B.m with mode := .legacy }, image := some { img with personalities := 2 } } : State))) (0) (0x2000000) ([1, 2, 3, 4, 5, 6, 7, 255]) := by decide

end Sys2Proof.Tests
end

section
/-! SUPPORT. The load of a mould image and the key fuses (R73, R76 to R81): what each operation of a load leaves, what the two hooks answer, and O10. -/

namespace Sys2Proof.Machine

variable (s : State)

/-! Register writes and repetitions -/

/-- The state with another list of what the last command sent out. -/
def State.withOut (s : State) (o : List Out) : State := { s with out := o }

/-- The counting of a refused write leaves the device state alone. -/
@[simp] theorem State.refuse_m (rq : Req) (off : Nat) (b : Bool) : (s.refuse rq off b).m = s.m := by
  cases rq <;> rfl

/-- A refused write changes no field but those that count it (R467). -/
theorem State.refuse_keepsFields (rq : Req) (off : Nat) (b : Bool) : s.keepsFields (s.refuse rq off b) refuseFields := by
  intro f i hf
  simp only [refuseFields, List.map_cons, List.map_nil, List.mem_cons, List.not_mem_nil, or_false, not_or] at hf
  cases rq with
  | fn g => exact s.refuse_rd hf
  | spi => rfl

/-- A write row whose rule takes the word answers what the rule leaves. -/
theorem writeRow_takes {rq : Req} {r : Reg} {i w : Nat} {h : Hook} {u : State} (hw : s.canWrite rq r i) (ht : ∀ j, h rq j w 15 (s.withOut []) = (u, false)) :
    writeRow rq r i w h s = .next (s.commit u) :=
  (writeRow_acts s h hw.1 hw.2 (congrArg Prod.snd (ht _))).trans (congrArg (fun x : State × Bool => Host.Outcome.next (s.commit x.1)) (ht _))

/-- A write row whose rule discards the word changes only what counts the refusal (R467). -/
theorem writeRow_discards {rq : Req} {r : Reg} {i w : Nat} {h : Hook} (hw : s.canWrite rq r i) (hd : ∀ j, h rq j w 15 (s.withOut []) = (s.withOut [], true)) :
    ∃ t, writeRow rq r i w h s = .next t ∧ t.m = s.m ∧ t.fuses = s.fuses ∧ s.keepsFields t refuseFields := by
  have e1 : (s.withOut []).reachable rq = true := by cases rq <;> exact hw.1
  have e2 : (s.withOut []).mayWrite rq r i = true := by cases rq <;> exact hw.2
  have e : (s.withOut []).hostAct rq r i (fun j => h rq j w 15) = (s.withOut []).refuse rq (r.offset i) false := by
    simp [State.hostAct, e1, e2, hd]
  refine ⟨_, congrArg (fun u => Host.Outcome.next (s.commit u)) e, ?_, rfl, ?_⟩
  · rw [State.commit_m, State.refuse_m]
    rfl
  · exact (s.withOut []).refuse_keepsFields rq (r.offset i) false

/-- A conditional change that leaves the image alone. -/
theorem State.when_image (c : Bool) (f : State → State) (h : (f s).image = s.image) : (s.when c f).image = s.image :=
  s.when_induction (P := fun t => t.image = s.image) c f rfl h

/-- A repetition of an operation that leaves the image alone. -/
theorem State.each_image (l : List Nat) (f : State → Nat → State) (h : ∀ t n, (f t n).image = t.image) : (s.each l f).image = s.image :=
  s.each_induction (P := fun t => t.image = s.image) l f rfl fun t n e => (h t n).trans e

/-! The operations of a load -/

@[simp] theorem State.shard_m (code pl d0 d1 d2 : Nat) : (s.shard code pl d0 d1 d2).m = s.m :=
  State.m_of_blur (s.shard_blur code pl d0 d1 d2 (Nat.and_self _)) (by decide)

@[simp] theorem State.mouldStatus_m (st cause detail : Nat) (sg : Bool) : (s.mouldStatus st cause detail sg).m = s.m :=
  State.m_of_blur (s.mouldStatus_blur st cause detail sg (Nat.and_self _)) (by decide)

@[simp] theorem State.mouldStatus_image (st cause detail : Nat) (sg : Bool) : (s.mouldStatus st cause detail sg).image = s.image :=
  State.image_of_blur (s.mouldStatus_blur st cause detail sg (Nat.and_self _)) (by decide)

/-- DEV_MOULD_STATUS shows the state of the load that ended (R79, R80). -/
@[simp] theorem State.mouldStatus_state (st cause detail : Nat) (sg : Bool) : (s.mouldStatus st cause detail sg).rd R.DEV_MOULD_STATUS.STATE 0 = st % 4 := by
  simp (disch := decide) only [State.mouldStatus, State.wr_rd_key, State.wb_rd_key, State.wr_rd_same]
  rfl

/-- DEV_MOULD_STATUS shows the cause of the load that ended (R79, R81). -/
@[simp] theorem State.mouldStatus_cause (st cause detail : Nat) (sg : Bool) : (s.mouldStatus st cause detail sg).rd R.DEV_MOULD_STATUS.CAUSE 0 = cause % 256 := by
  simp (disch := decide) only [State.mouldStatus, State.wr_rd_key, State.wr_rd_same]
  rfl

@[simp] theorem State.setMode_m (x : Mode) : (s.setMode x).m = { s.m with mode := x } := rfl
@[simp] theorem State.setMode_image (x : Mode) : (s.setMode x).image = s.image := rfl
@[simp] theorem State.setMode_rd (x : Mode) (f : Fld) (i : Nat) : (s.setMode x).rd f i = s.rd f i := rfl

/-- The state of the device itself holds no register. -/
theorem State.with_m_rd (x : ModeSt) (f : Fld) (i : Nat) : ({ s with m := x } : State).rd f i = s.rd f i := rfl

@[simp] theorem State.loadFail_image (cause detail : Nat) : (s.loadFail cause detail).image = s.image :=
  State.image_of_blur (s.loadFail_blur cause detail (Nat.and_self _)) (by decide)

/-- The failure after which the second flash copy is read: that of the first copy, unless the host aborts the load (R81). -/
abbrev LoadSrc.retries (src : LoadSrc) (cause : Nat) : Prop := src = .flash 0 ∧ cause ≠ 0x40

/-- The end of a load that failed for good: DEV_MOULD_STATUS has the result and the device is in SAFE (R79, R81). -/
def State.failToSafe (s : State) (cause detail : Nat) : State :=
  let u := s.mouldStatus 3 cause detail false
  ({ u with m := { u.m with load := none } }.raise 22).setMode .safe

theorem State.failToSafe_m (cause detail : Nat) : (s.failToSafe cause detail).m = { s.m with mode := .safe, load := none } := by
  simp [State.failToSafe]

theorem State.failToSafe_state (cause detail : Nat) : (s.failToSafe cause detail).rd R.DEV_MOULD_STATUS.STATE 0 = 3 := by
  rw [State.failToSafe, State.setMode_rd, State.raise_rd, State.with_m_rd, State.mouldStatus_state]

theorem State.failToSafe_cause (cause detail : Nat) : (s.failToSafe cause detail).rd R.DEV_MOULD_STATUS.CAUSE 0 = cause % 256 := by
  rw [State.failToSafe, State.setMode_rd, State.raise_rd, State.with_m_rd, State.mouldStatus_cause]

/-- A failed read or check of the first flash copy goes on to the second, and its cause is kept (R81). -/
theorem State.loadFail_retries {src : LoadSrc} {cause : Nat} (detail : Nat) (hl : s.m.load = some src) (hr : src.retries cause) :
    (s.loadFail cause detail).m = { s.m with load := some (.flash 1) } ∧ (s.loadFail cause detail).rd R.DEV_MOULD_FLASH.FIRST_CAUSE 0 = cause % 256 := by
  obtain ⟨rfl, hc⟩ := hr
  have e : ∃ u : State, u.m = s.m ∧ s.loadFail cause detail = (u.wr R.DEV_MOULD_FLASH.FIRST_CAUSE 0 cause).readCopy 1 :=
    ⟨(s.wr R.FLS_LOCK.HOLDER 0 0).shard 1 0x8000 (cause + detail % 65536 * 65536) 0 0, by simp, by simp only [State.loadFail, hl]; exact if_pos (by simp [hc])⟩
  obtain ⟨u, hm, e⟩ := e
  rw [e, ← hm]
  refine ⟨rfl, ?_⟩
  rw [State.readCopy, State.wr_rd_key _ _ (by decide)]
  exact u.wr_rd_same _ _ _

/-- Any other failure returns the device to SAFE with the cause (R79, R81). -/
theorem State.loadFail_ends {src : LoadSrc} {cause : Nat} (detail : Nat) (hl : s.m.load = some src) (hr : ¬ src.retries cause) :
    (s.loadFail cause detail).m = { s.m with mode := .safe, load := none } ∧
      (s.loadFail cause detail).rd R.DEV_MOULD_STATUS.STATE 0 = 3 ∧ (s.loadFail cause detail).rd R.DEV_MOULD_STATUS.CAUSE 0 = cause % 256 := by
  have e : ∃ u : State, u.m = s.m ∧ s.loadFail cause detail = u.failToSafe cause detail := by
    cases src with
    | host => exact ⟨s.shard 1 0x8000 (cause + detail % 65536 * 65536) 1 0, by simp, by simp only [State.loadFail, hl]; exact if_neg (by simp)⟩
    | flash c =>
      have hc : c = 0 → cause = 0x40 := fun h0 => of_not_not fun h => hr ⟨congrArg LoadSrc.flash h0, h⟩
      exact ⟨(s.wr R.FLS_LOCK.HOLDER 0 0).shard 1 0x8000 (cause + detail % 65536 * 65536) 0 c, by simp, by simp only [State.loadFail, hl]; exact if_neg (by simpa using hc)⟩
  obtain ⟨u, hm, e⟩ := e
  rw [e, ← hm]
  exact ⟨u.failToSafe_m cause detail, u.failToSafe_state cause detail, u.failToSafe_cause cause detail⟩

/-! The application of an image -/

@[simp] theorem State.selectors_m : s.selectors.m = s.m := State.m_of_blur (s.selectors_blur (Nat.and_self _)) (by decide)
@[simp] theorem State.selectors_image : s.selectors.image = s.image := State.image_of_blur (s.selectors_blur (Nat.and_self _)) (by decide)

/-- The lane selectors leave DEV_MOULD_STATUS alone. -/
@[simp] theorem State.selectors_state : s.selectors.rd R.DEV_MOULD_STATUS.STATE 0 = s.rd R.DEV_MOULD_STATUS.STATE 0 :=
  State.rd_of_blur (s.selectors_blur (Nat.and_self _)) _ _ (by decide)

@[simp] theorem State.orderShard_image : s.orderShard.image = s.image := State.image_of_blur (s.orderShard_blur (Nat.and_self _)) (by decide)

/-- The shard of a departure from the supply order leaves DEV_MOULD_STATUS alone. -/
@[simp] theorem State.orderShard_state : s.orderShard.rd R.DEV_MOULD_STATUS.STATE 0 = s.rd R.DEV_MOULD_STATUS.STATE 0 :=
  State.rd_of_blur (s.orderShard_blur (Nat.and_self _)) _ _ (by decide)

/-- The shard of a departure from the supply order is owed no more (R96). -/
@[simp] theorem State.orderShard_m : s.orderShard.m = { s.m with orderShard := false } := by
  unfold State.orderShard
  split
  next h =>
    have h : s.m.orderShard = false := by simpa using h
    rw [← h]
  · exact State.shard_m _ _ _ _ _ _

/-- The first step of start-up SERVICE only shows its number (R106). -/
theorem State.startStep_one : s.startStep 1 = s.wr R.DEV_STARTUP.STEP 0 1 := by
  simp [State.startStep]

@[simp] theorem State.hubLoad_image (im : Image) : (s.hubLoad im).image = s.image := State.image_of_blur (s.hubLoad_blur im (Nat.and_self _)) (by decide)
@[simp] theorem State.allotAll_image (im : Image) : (s.allotAll im).image = s.image := State.image_of_blur (s.allotAll_blur im (Nat.and_self _)) (by decide)
@[simp] theorem State.routesLoad_image (im : Image) : (s.routesLoad im).image = s.image := State.image_of_blur (s.routesLoad_blur im (Nat.and_self _)) (by decide)
@[simp] theorem State.hkLoad_image (im : Image) : (s.hkLoad im).image = s.image := State.image_of_blur (s.hkLoad_blur im (Nat.and_self _)) (by decide)

/-- The end of a load whose image is accepted: DEV_MOULD_STATUS has the result and start-up SERVICE begins (R79, R106). -/
def State.loadToService (s : State) (signed : Bool) : State :=
  let u := s.mouldStatus 2 0 0 signed
  ((({ u with m := { u.m with load := none, startup := true, svcTick := u.clock.tick } }.raise 22).setMode .service).orderShard).selectors.startStep 1

theorem State.loadToService_m (sg : Bool) : (s.loadToService sg).m.load = none ∧ (s.loadToService sg).m.mode = .service ∧ (s.loadToService sg).m.startup = true := by
  rw [State.loadToService, State.startStep_one, State.wr_m, State.selectors_m, State.orderShard_m]
  exact ⟨rfl, rfl, rfl⟩

theorem State.loadToService_image (sg : Bool) : (s.loadToService sg).image = s.image := by
  rw [State.loadToService, State.startStep_one, State.wr_image, State.selectors_image, State.orderShard_image, State.setMode_image, State.raise_image]
  exact s.mouldStatus_image 2 0 0 sg

theorem State.loadToService_step (sg : Bool) : (s.loadToService sg).rd R.DEV_STARTUP.STEP 0 = 1 := by
  rw [State.loadToService, State.startStep_one, State.wr_rd_same]
  rfl

theorem State.loadToService_state (sg : Bool) : (s.loadToService sg).rd R.DEV_MOULD_STATUS.STATE 0 = 2 := by
  rw [State.loadToService, State.startStep_one, State.wr_rd_key _ _ (by decide), State.selectors_state, State.orderShard_state, State.setMode_rd,
    State.raise_rd, State.with_m_rd, State.mouldStatus_state]

/-- An image is applied whole before the load ends (R79). -/
theorem State.applyImage_ends (im : Image) : ∃ u : State, u.image = some im ∧ s.applyImage im = u.loadToService im.signed := by
  unfold State.applyImage
  dsimp only
  generalize hu : State.when _ _ _ = u
  refine ⟨u, ?_, by simp only [State.loadToService]⟩
  rw [← hu, State.when_image, State.each_image, State.hkLoad_image, State.routesLoad_image, State.allotAll_image, State.hubLoad_image]
  · simp only [State.wr_image, State.wb_image]
  · exact fun _ _ => State.wr_image _ _ _ _
  · exact State.wr_image _ _ _ _

/-- An image that is applied is in force at once, with the device in start-up SERVICE (R79, R106). -/
theorem State.applyImage_inForce (im : Image) :
    (s.applyImage im).m.load = none ∧ (s.applyImage im).m.mode = .service ∧ (s.applyImage im).m.startup = true ∧ (s.applyImage im).image = some im ∧
      (s.applyImage im).rd R.DEV_MOULD_STATUS.STATE 0 = 2 ∧ (s.applyImage im).rd R.DEV_STARTUP.STEP 0 = 1 := by
  obtain ⟨u, hi, e⟩ := s.applyImage_ends im
  obtain ⟨hl, hm, hs⟩ := u.loadToService_m im.signed
  rw [e]
  exact ⟨hl, hm, hs, (u.loadToService_image _).trans hi, u.loadToService_state _, u.loadToService_step _⟩

/-! The choice of the records' copies and the checks of a load do not see what is sent out -/

theorem State.withOut_with_nvm (o : List Out) (v : NvmSt) : ({ s.withOut o with nvm := v } : State) = ({ s with nvm := v } : State).withOut o := rfl
theorem State.withOut_nvm (o : List Out) : (s.withOut o).nvm = s.nvm := rfl
theorem State.withOut_log (o : List Out) : (s.withOut o).log = s.log := rfl
theorem State.withOut_wr (o : List Out) (f : Fld) (i v : Nat) : (s.withOut o).wr f i v = (s.wr f i v).withOut o := rfl
theorem State.withOut_wb (o : List Out) (f : Fld) (i : Nat) (v : Bool) : (s.withOut o).wb f i v = (s.wb f i v).withOut o := rfl
theorem State.withOut_nvmCopy (o : List Out) (kind copy : Nat) : (s.withOut o).nvmCopy kind copy = s.nvmCopy kind copy := rfl
theorem State.withOut_nvmChoose (o : List Out) (kind : Nat) : (s.withOut o).nvmChoose kind = s.nvmChoose kind := rfl
theorem State.withOut_nvmChosen (o : List Out) (kind : Nat) : (s.withOut o).nvmChosen kind = s.nvmChosen kind := rfl
theorem State.withOut_nvmPayload (o : List Out) (kind : Nat) : (s.withOut o).nvmPayload kind = s.nvmPayload kind := rfl
theorem State.withOut_sparePages (o : List Out) : (s.withOut o).sparePages = s.sparePages := rfl
theorem State.withOut_serial (o : List Out) : (s.withOut o).serial = s.serial := by
  unfold State.serial
  rw [State.withOut_nvmChoose]
  rfl

theorem State.withOut_shard (o : List Out) (code pl d0 d1 d2 : Nat) : (s.withOut o).shard code pl d0 d1 d2 = (s.shard code pl d0 d1 d2).withOut o := by
  by_cases h : s.log.buffer.length < 16
  · simp only [State.shard, State.withOut_log, h, if_true]
    rfl
  · simp only [State.shard, State.withOut_log, h, if_false]
    rfl

theorem State.withOut_when (o : List Out) (c : Bool) {f : State → State} (h : ∀ t : State, f (t.withOut o) = (f t).withOut o) :
    (s.withOut o).when c f = (s.when c f).withOut o := by
  cases c
  · rfl
  · exact h s

theorem State.withOut_each (o : List Out) (l : List Nat) {f : State → Nat → State} (h : ∀ (t : State) n, f (t.withOut o) n = (f t n).withOut o) :
    (s.withOut o).each l f = (s.each l f).withOut o := by
  induction l generalizing s with
  | nil => rfl
  | cons n r ih => exact (congrArg (fun t => State.each t r f) (h s n)).trans (ih (f s n))

theorem State.withOut_nvmTake (o : List Out) (kind : Nat) : (s.withOut o).nvmTake kind = (s.nvmTake kind).withOut o := by
  unfold State.nvmTake
  simp only [State.withOut_nvmCopy, State.withOut_nvmChoose, State.withOut_nvm, State.withOut_with_nvm]
  split
  · rfl
  · exact State.withOut_when _ o _ fun t => t.withOut_shard o _ _ _ _ _
  · exact State.withOut_when _ o _ fun t => t.withOut_shard o _ _ _ _ _
  · exact State.withOut_when _ o _ fun t => t.withOut_shard o _ _ _ _ _

theorem State.withOut_nvmPowerUp (o : List Out) : (s.withOut o).nvmPowerUp = s.nvmPowerUp.withOut o := by
  unfold State.nvmPowerUp
  simp only [State.withOut_nvm, State.withOut_nvmTake, State.withOut_nvmPayload, State.withOut_with_nvm]
  split
  · rfl
  · split <;>
      simp only [State.withOut_nvm, State.withOut_wr, State.withOut_wb, State.withOut_sparePages, State.withOut_each _ o _ fun t => t.withOut_nvmTake o,
        State.withOut_nvmChosen, State.withOut_serial, State.withOut_with_nvm]

/-- The checks of a load read nothing that was sent out. -/
theorem State.withOut_imageFail (o : List Out) (pushed : Option Nat) (b : List Nat) :
    (s.withOut o).nvmPowerUp.imageFail pushed b = s.nvmPowerUp.imageFail pushed b := by
  rw [State.withOut_nvmPowerUp]
  unfold State.imageFail
  rw [State.withOut_serial]
  rfl

/-! The read of an image -/

/-- A pushed image that passes every check is applied (R79). -/
theorem State.imageRead_host_accepted {bytes : List Nat} (hl : s.m.load = some .host) (hf : s.nvmPowerUp.imageFail (some (s.rd R.DEV_MOULD_LEN.LEN 0)) bytes = none) :
    s.imageRead true bytes = s.applyImage (imageOf (bytes.take (le32 bytes 8))) := by
  simp only [State.imageRead, hl, if_true, hf]

/-- A pushed image that fails a check fails the load with the cause of that check (R79). -/
theorem State.imageRead_host_failed {bytes : List Nat} {f : Fail} (hl : s.m.load = some .host)
    (hf : s.nvmPowerUp.imageFail (some (s.rd R.DEV_MOULD_LEN.LEN 0)) bytes = some f) : s.imageRead true bytes = s.loadFail f.1 f.2 := by
  simp only [State.imageRead, hl, if_true, hf]

/-- A failed read of a pushed image fails the load with cause 0x41 (R80). -/
theorem State.imageRead_host_error (bytes : List Nat) (hl : s.m.load = some .host) : s.imageRead false bytes = s.loadFail 0x41 0 := by
  simp [State.imageRead, hl]

/-- An image of the flash that passes every check is applied (R77, R79). -/
theorem State.imageRead_flash_accepted (bytes : List Nat) {b : List Nat} {c : Nat} (hl : s.m.load = some (.flash c)) (hb : s.flashCopy c = .ok b)
    (hf : s.nvmPowerUp.imageFail none b = none) : s.imageRead true bytes = s.applyImage (imageOf (b.take (le32 b 8))) := by
  simp only [State.imageRead, hl, if_true, hb, hf]

/-- A failed read of the flash fails the load with cause 0x42 (R80). -/
theorem State.imageRead_flash_error (bytes : List Nat) {c : Nat} (hl : s.m.load = some (.flash c)) : s.imageRead false bytes = s.loadFail 0x42 0 := by
  simp [State.imageRead, hl]

/-- The end of a read of a pushed image, by the outcome of the read and of its checks (R79, R80). -/
theorem State.imageRead_host_outcome (ok : Bool) (bytes : List Nat) (hl : s.m.load = some .host) :
    let t := s.imageRead ok bytes
    let r := s.nvmPowerUp.imageFail (some (s.rd R.DEV_MOULD_LEN.LEN 0)) bytes
    t.m.load = none ∧
      (ok = true → r = none → t.m.mode = .service ∧ t.m.startup = true ∧ t.image = some (imageOf (bytes.take (le32 bytes 8))) ∧ t.rd R.DEV_MOULD_STATUS.STATE 0 = 2 ∧
        t.rd R.DEV_STARTUP.STEP 0 = 1) ∧
      (ok = true → r.isSome = true → t.m.mode = .safe ∧ t.image = s.image ∧ t.rd R.DEV_MOULD_STATUS.STATE 0 = 3 ∧ t.rd R.DEV_MOULD_STATUS.CAUSE 0 = (r.getD (0, 0)).1 % 256) ∧
      (ok = false → t.m.mode = .safe ∧ t.image = s.image ∧ t.rd R.DEV_MOULD_STATUS.STATE 0 = 3 ∧ t.rd R.DEV_MOULD_STATUS.CAUSE 0 = 0x41) := by
  intro t r
  cases ok with
  | false =>
    obtain ⟨hm, hs, hc⟩ := s.loadFail_ends (cause := 0x41) 0 hl (by simp)
    have e : t = s.loadFail 0x41 0 := s.imageRead_host_error bytes hl
    rw [e, hm]
    exact ⟨rfl, nofun, nofun, fun _ => ⟨rfl, s.loadFail_image _ _, hs, hc⟩⟩
  | true =>
    cases hf : r with
    | none =>
      obtain ⟨hload, hmode, hstart, himage, hstate, hstep⟩ := s.applyImage_inForce (imageOf (bytes.take (le32 bytes 8)))
      have e : t = s.applyImage (imageOf (bytes.take (le32 bytes 8))) := s.imageRead_host_accepted hl hf
      rw [e]
      exact ⟨hload, fun _ _ => ⟨hmode, hstart, himage, hstate, hstep⟩, nofun, nofun⟩
    | some f =>
      obtain ⟨hm, hs, hc⟩ := s.loadFail_ends (cause := f.1) f.2 hl (by simp)
      have e : t = s.loadFail f.1 f.2 := s.imageRead_host_failed hl hf
      rw [e, hm]
      exact ⟨rfl, nofun, fun _ _ => ⟨rfl, s.loadFail_image _ _, hs, hc⟩, nofun⟩

/-- An image of the flash that passes every check is in force, with the device in start-up SERVICE (R77, R79). -/
theorem State.imageRead_flash_inForce (bytes : List Nat) {b : List Nat} {c : Nat} (hl : s.m.load = some (.flash c)) (hb : s.flashCopy c = .ok b)
    (hf : s.nvmPowerUp.imageFail none b = none) :
    let t := s.imageRead true bytes
    t.m.load = none ∧ t.m.mode = .service ∧ t.m.startup = true ∧ t.image = some (imageOf (b.take (le32 b 8))) ∧ t.rd R.DEV_MOULD_STATUS.STATE 0 = 2 := by
  obtain ⟨hload, hmode, hstart, himage, hstate, -⟩ := s.applyImage_inForce (imageOf (b.take (le32 b 8)))
  rw [s.imageRead_flash_accepted bytes hl hb hf]
  exact ⟨hload, hmode, hstart, himage, hstate⟩

/-- A failed read of the first flash copy goes on to the second, and one of the second returns the device to SAFE (R80, R81). -/
theorem State.imageRead_flash_falls (bytes : List Nat) {c : Nat} (hl : s.m.load = some (.flash c)) :
    let t := s.imageRead false bytes
    t.image = s.image ∧ (c = 0 → t.m.load = some (.flash 1) ∧ t.m.mode = s.m.mode ∧ t.rd R.DEV_MOULD_FLASH.FIRST_CAUSE 0 = 0x42) ∧
      (c ≠ 0 → t.m.load = none ∧ t.m.mode = .safe ∧ t.rd R.DEV_MOULD_STATUS.STATE 0 = 3 ∧ t.rd R.DEV_MOULD_STATUS.CAUSE 0 = 0x42) := by
  rw [s.imageRead_flash_error bytes hl]
  refine ⟨s.loadFail_image _ _, ?_, ?_⟩
  · rintro rfl
    obtain ⟨hm, hc⟩ := s.loadFail_retries (cause := 0x42) 0 hl ⟨rfl, by decide⟩
    rw [hm]
    exact ⟨rfl, rfl, hc⟩
  · intro h0
    obtain ⟨hm, hs, hc⟩ := s.loadFail_ends (cause := 0x42) 0 hl (by simp [h0])
    rw [hm]
    exact ⟨rfl, rfl, hs, hc⟩

/-! The two hooks -/

/-- A push is accepted: the device is in SAFE with no change of mode and no load in progress, and the root PLL is locked (R78, R98). -/
def State.takesPush (s : State) : Bool := s.m.mode = .safe && s.m.target.isNone && s.rd R.DEV_MOULD_STATUS.STATE 0 ≠ 1 && s.fl R.DEV_CLK.PLL_LOCKED 0

/-- A push is not taken exactly where one of the conditions of R78 fails. -/
theorem State.takesPush_eq_false_iff : s.takesPush = false ↔
    (s.m.mode ≠ .safe ∨ s.m.target.isSome = true ∨ s.rd R.DEV_MOULD_STATUS.STATE 0 = 1 ∨ s.fl R.DEV_CLK.PLL_LOCKED 0 = false) := by
  simp only [State.takesPush, Bool.and_eq_false_iff, decide_eq_false_iff_not, Option.isNone_eq_false_iff, not_not, or_assoc]

/-- The state of the device as a push begins: LOAD, with the image read from the host (R78). -/
def State.pushMode (s : State) : State :=
  { s.setMode .load with m := { (s.setMode .load).m with load := some .host, bootWaits := false } }.wr R.DEV_MOULD_STATUS.STATE 0 1

/-- The start of a push changes DEV_MOULD_STATUS.STATE and no other field. -/
theorem State.pushMode_rd {f : Fld} {i : Nat} (h : f.slot i ≠ R.DEV_MOULD_STATUS.STATE.slot 0) : s.pushMode.rd f i = s.rd f i := by
  rw [State.pushMode, State.wr_rd_slot _ _ h, State.with_m_rd, State.setMode_rd]

/-- A push has begun: the device is in LOAD and asks the host for the image (R78). -/
def State.pushBegun (s : State) : State :=
  let u := s.pushMode
  u.send (.hostRead (u.rd R.DEV_MOULD_ADDR_LO.ADDR_LO 0 + 2 ^ 32 * u.rd R.DEV_MOULD_ADDR_HI.ADDR_HI 0) (u.rd R.DEV_MOULD_LEN.LEN 0))

theorem State.pushBegun_out :
    s.pushBegun.out = s.out ++ [.hostRead (s.rd R.DEV_MOULD_ADDR_LO.ADDR_LO 0 + 2 ^ 32 * s.rd R.DEV_MOULD_ADDR_HI.ADDR_HI 0) (s.rd R.DEV_MOULD_LEN.LEN 0)] := by
  rw [State.pushBegun, State.pushMode_rd _ (by decide), State.pushMode_rd _ (by decide), State.pushMode_rd _ (by decide)]
  rfl

theorem State.pushBegun_state : s.pushBegun.rd R.DEV_MOULD_STATUS.STATE 0 = 1 := by
  rw [State.pushBegun, State.send_rd, State.pushMode, State.wr_rd_same]
  rfl

theorem State.pushBegun_keepsRegs : s.keepsRegs s.pushBegun [R.DEV_MOULD_STATUS.STATE.slot 0] := by
  intro f i h
  rw [State.pushBegun, State.send_rd, s.pushMode_rd (by simpa using h)]

/-- A write of DEV_MOULD_CTL whose START is not accepted is discarded whole; otherwise ABORT and then START act (R78, R81). -/
theorem mouldCtlHook_eq (rq : Req) (j w be : Nat) : mouldCtlHook rq j w be s =
    if R.DEV_MOULD_CTL.START.acts w be && !s.takesPush then (s, true)
    else ((s.when (R.DEV_MOULD_CTL.ABORT.acts w be) (·.loadFail 0x40 0)).when (R.DEV_MOULD_CTL.START.acts w be) State.pushBegun, false) := rfl

/-- A write of START = 1 begins a push or is discarded whole (R78). -/
theorem mouldCtlHook_start (rq : Req) (j : Nat) : mouldCtlHook rq j 1 15 s = if s.takesPush then (s.pushBegun, false) else (s, true) := by
  have hs : R.DEV_MOULD_CTL.START.acts 1 15 = true := by decide
  have ha : R.DEV_MOULD_CTL.ABORT.acts 1 15 = false := by decide
  rw [mouldCtlHook_eq, hs, ha]
  cases s.takesPush <;> rfl

/-- A write of ABORT = 1 fails the load in progress with cause 0x40 (R81). -/
theorem mouldCtlHook_abort (rq : Req) (j : Nat) : mouldCtlHook rq j 2 15 s = (s.loadFail 0x40 0, false) := by
  have hs : R.DEV_MOULD_CTL.START.acts 2 15 = false := by decide
  have ha : R.DEV_MOULD_CTL.ABORT.acts 2 15 = true := by decide
  rw [mouldCtlHook_eq, hs, ha]
  rfl

/-- A fuse slot other than `k` holds a key that is not revoked. -/
def State.otherKey (s : State) (k : Nat) : Bool := s.fuses.zipIdx.any fun e => e.2 ≠ k && e.1.hash ≠ 0 && !e.1.revoked

/-- A fuse command, 1 to program and 2 to revoke, is carried out on a slot: in SERVICE, in the NVM window, on a blank slot to program, and not on the
last key in force to revoke (R76). -/
def State.takesFuse (s : State) (cmd k : Nat) : Bool :=
  s.m.mode = .service && s.fl R.THS_STATUS.NVM_OK 0 &&
    (if cmd = 1 then (s.fuses.getD k ⟨0, false⟩).hash = 0 else s.otherKey k || (s.fuses.getD k ⟨0, false⟩).hash = 0 || (s.fuses.getD k ⟨0, false⟩).revoked)

/-- A slot is programmed in SERVICE, in the NVM window, where it is blank (R76). -/
theorem State.takesFuse_program_iff (k : Nat) :
    s.takesFuse 1 k = true ↔ s.m.mode = .service ∧ s.fl R.THS_STATUS.NVM_OK 0 = true ∧ (s.fuses.getD k ⟨0, false⟩).hash = 0 := by
  simp only [State.takesFuse, if_true, Bool.and_eq_true, decide_eq_true_eq, and_assoc]

/-- A slot is revoked in SERVICE, in the NVM window, unless it holds the only key in force (R76). -/
theorem State.takesFuse_revoke_iff (k : Nat) : s.takesFuse 2 k = true ↔ s.m.mode = .service ∧ s.fl R.THS_STATUS.NVM_OK 0 = true ∧
    ((s.fuses.getD k ⟨0, false⟩).hash = 0 ∨ (s.fuses.getD k ⟨0, false⟩).revoked = true ∨ s.otherKey k = true) := by
  simp only [State.takesFuse, (by decide : ¬ 2 = 1), if_false, Bool.and_eq_true, Bool.or_eq_true, decide_eq_true_eq]
  tauto

/-- A fuse command has begun on a slot (R76). -/
def State.fuseBegun (s : State) (cmd k : Nat) : State :=
  { s.wr R.DEV_FUSE_CMD.SLOT 0 k with m := { s.m with fuseCmd := some (cmd, k, s.fuseHash) } }.wr R.DEV_FUSE_CMD.STATUS 0 1

/-- A fuse command on a slot is refused with STATUS 3 (R76). -/
def State.fuseRefused (s : State) (k : Nat) : State := ((s.wr R.DEV_FUSE_CMD.SLOT 0 k).wr R.DEV_FUSE_CMD.STATUS 0 3).raise 18

theorem State.fuseHash_wr_slot (v : Nat) : (s.wr R.DEV_FUSE_CMD.SLOT 0 v).fuseHash = s.fuseHash := by
  simp (disch := decide) only [State.fuseHash, State.wr_rd_key]

/-- A write of a fuse command while one is busy is discarded; otherwise it begins or is refused (R76). -/
theorem fuseHook_cases (rq : Req) (j : Nat) {cmd : Nat} (hc : cmd = 1 ∨ cmd = 2) (k : Fin 4) :
    fuseHook rq j (k.val + 4 * cmd) 15 s =
      if s.rd R.DEV_FUSE_CMD.STATUS 0 = 1 then (s, true) else if s.takesFuse cmd k then (s.fuseBegun cmd k, false) else (s.fuseRefused k, false) := by
  have hk := k.isLt
  have he : R.DEV_FUSE_CMD.SLOT.enabled 15 = true := by decide
  have he' : R.DEV_FUSE_CMD.CMD.enabled 15 = true := by decide
  have hslot : s.newv R.DEV_FUSE_CMD.SLOT 0 (k.val + 4 * cmd) 15 = k := by
    rw [State.newv, if_pos he]
    simp only [Fld.part, bits, R.DEV_FUSE_CMD.SLOT]
    omega
  have hcmd : R.DEV_FUSE_CMD.CMD.part (k.val + 4 * cmd) = cmd := by
    simp only [Fld.part, bits, R.DEV_FUSE_CMD.CMD]
    omega
  have hrd : (s.wr R.DEV_FUSE_CMD.SLOT 0 k).rd R.DEV_FUSE_CMD.SLOT 0 = k := by
    rw [State.wr_rd_same]
    exact Nat.mod_eq_of_lt hk
  have hn : (s.wr R.DEV_FUSE_CMD.SLOT 0 k).fl R.THS_STATUS.NVM_OK 0 = s.fl R.THS_STATUS.NVM_OK 0 := s.wr_fl_key _ (by decide)
  have h03 : (cmd = 0 || cmd = 3 : Bool) = false := by rcases hc with rfl | rfl <;> rfl
  unfold fuseHook
  simp only [hslot, hcmd, hrd, hn, he', if_true, h03, State.fuseHash_wr_slot, State.wr_m, State.wr_fuses]
  rfl

/-! The commands of a load -/

/-- A push that is accepted begins (R78). -/
theorem execMouldStart_accepted {rq : Req} (hw : s.canWrite rq .DEV_MOULD_CTL 0) (hp : s.takesPush = true) :
    execMouldStart rq s = .next (s.commit (s.withOut []).pushBegun) :=
  writeRow_takes s hw fun j => (mouldCtlHook_start _ rq j).trans (if_pos hp)

/-- A push that is not accepted is discarded whole (R78). -/
theorem execMouldStart_discarded {rq : Req} (hw : s.canWrite rq .DEV_MOULD_CTL 0) (hp : s.takesPush = false) :
    ∃ t, execMouldStart rq s = .next t ∧ t.m = s.m ∧ t.fuses = s.fuses ∧ s.keepsFields t refuseFields :=
  writeRow_discards s hw fun j => (mouldCtlHook_start _ rq j).trans (if_neg (ne_true_of_eq_false hp))

/-- An abort fails the load in progress (R81). -/
theorem execMouldAbort_eq {rq : Req} (hw : s.canWrite rq .DEV_MOULD_CTL 0) : execMouldAbort rq s = .next (s.commit ((s.withOut []).loadFail 0x40 0)) :=
  writeRow_takes s hw fun j => mouldCtlHook_abort _ rq j

theorem execImageReadDone_eq (ok : Bool) (bytes : List Byte) :
    execImageReadDone ok bytes s = .next (s.commit ((s.withOut []).imageRead ok (bytes.map (·.toNat)))) := rfl

/-! The fuse commands -/

/-- A fuse command that is carried out is shown busy, and its slot burns only when it completes (R76). -/
theorem fuseRow_accepted {rq : Req} {cmd : Nat} (hc : cmd = 1 ∨ cmd = 2) {k : Fin 4} (hw : s.canWrite rq .DEV_FUSE_CMD 0) (hb : s.rd R.DEV_FUSE_CMD.STATUS 0 ≠ 1)
    (ht : s.takesFuse cmd k = true) :
    ∃ t, writeRow rq .DEV_FUSE_CMD 0 (k.val + 4 * cmd) fuseHook s = .next t ∧ t.rd R.DEV_FUSE_CMD.STATUS 0 = 1 ∧
      t.rd R.DEV_FUSE_CMD.SLOT 0 = k.val ∧ t.m.fuseCmd = some (cmd, k.val, s.fuseHash) ∧
      t.fuses = s.fuses := by
  have h : writeRow rq .DEV_FUSE_CMD 0 (k.val + 4 * cmd) fuseHook s = .next (s.commit ((s.withOut []).fuseBegun cmd k)) :=
    writeRow_takes s hw fun j => (fuseHook_cases _ rq j hc k).trans ((if_neg hb).trans (if_pos ht))
  refine ⟨_, h, ?_, ?_, rfl, rfl⟩
  · rw [State.commit_rd, State.fuseBegun, State.wr_rd_same]
    rfl
  · rw [State.commit_rd, State.fuseBegun, State.wr_rd_key _ _ (by decide), State.with_m_rd, State.wr_rd_same]
    exact Nat.mod_eq_of_lt k.isLt

/-- A fuse command that is refused shows STATUS 3 and raises its source (R76). -/
theorem fuseRow_refused {rq : Req} {cmd : Nat} (hc : cmd = 1 ∨ cmd = 2) {k : Fin 4} (hw : s.canWrite rq .DEV_FUSE_CMD 0) (hb : s.rd R.DEV_FUSE_CMD.STATUS 0 ≠ 1)
    (ht : s.takesFuse cmd k = false) :
    ∃ t, writeRow rq .DEV_FUSE_CMD 0 (k.val + 4 * cmd) fuseHook s = .next t ∧ t.rd R.DEV_FUSE_CMD.STATUS 0 = 3 ∧
      t.m = s.m ∧ t.fuses = s.fuses ∧ t.hub.asserted = s.hub.asserted ++ [(18, 0)] := by
  have h : writeRow rq .DEV_FUSE_CMD 0 (k.val + 4 * cmd) fuseHook s = .next (s.commit ((s.withOut []).fuseRefused k)) :=
    writeRow_takes s hw fun j => (fuseHook_cases _ rq j hc k).trans ((if_neg hb).trans (if_neg (ne_true_of_eq_false ht)))
  refine ⟨_, h, ?_, rfl, rfl, rfl⟩
  rw [State.commit_rd, State.fuseRefused, State.raise_rd, State.wr_rd_same]
  rfl

/-- A fuse command written while one is busy is discarded (R76). -/
theorem fuseRow_busy {rq : Req} {cmd : Nat} (hc : cmd = 1 ∨ cmd = 2) {k : Fin 4} (hw : s.canWrite rq .DEV_FUSE_CMD 0) (hb : s.rd R.DEV_FUSE_CMD.STATUS 0 = 1) :
    ∃ t, writeRow rq .DEV_FUSE_CMD 0 (k.val + 4 * cmd) fuseHook s = .next t ∧ t.m = s.m ∧ t.fuses = s.fuses ∧ s.keepsFields t refuseFields :=
  writeRow_discards s hw fun j => (fuseHook_cases _ rq j hc k).trans (if_pos hb)

theorem getElem?_modNth {α : Type} (f : α → α) (i : Nat) (l : List α) (j : Nat) : (modNth f i l)[j]? = if j = i then l[j]?.map f else l[j]? := by
  induction l generalizing i j with
  | nil => cases i <;> simp [modNth]
  | cons x xs ih =>
    cases i with
    | zero => cases j <;> simp [modNth]
    | succ i => cases j <;> simp [modNth, ih]

/-- The fuse command in progress burns its slot and no other, and raises its source (R76). -/
theorem execFuseCmdDone_burns {cmd k hash : Nat} (h : s.m.fuseCmd = some (cmd, k, hash)) :
    ∃ t, execFuseCmdDone s = .next t ∧ t.m.fuseCmd = none ∧ t.rd R.DEV_FUSE_CMD.STATUS 0 = 2 ∧ t.hub.asserted = s.hub.asserted ++ [(18, 0)] ∧
      t.fuses[k]? = s.fuses[k]?.map (·.burn cmd hash) ∧ (∀ j, j ≠ k → t.fuses[j]? = s.fuses[j]?) ∧ s.keepsRegs t [R.DEV_FUSE_CMD.STATUS.slot 0] := by
  have e : execFuseCmdDone s = .next ((({ s with out := [], m := { s.m with fuseCmd := none }, fuses := modNth (fun x => x.burn cmd hash) k s.fuses } : State).wr
      R.DEV_FUSE_CMD.STATUS 0 2).raise 18) := by
    simp only [execFuseCmdDone, h]
  refine ⟨_, e, rfl, ?_, rfl, ?_, fun j hj => ?_, fun f i hf => ?_⟩
  · rw [State.raise_rd, State.wr_rd_same]
    rfl
  · exact (getElem?_modNth _ k s.fuses k).trans (if_pos rfl)
  · exact (getElem?_modNth _ k s.fuses j).trans (if_neg hj)
  · rw [State.raise_rd, State.wr_rd_slot _ _ (by simpa using hf)]
    rfl

end Sys2Proof.Machine

open Sys2Proof Sys2Proof.Machine

/-- Settles O10: the hooks of DEV_MOULD_CTL and DEV_FUSE_CMD say what their writes begin, discard or refuse, and the end of an image read is an applied
image or a failed load. -/
theorem loadingAndFuses : Obligations.LoadingAndFuses := by
  unfold Obligations.LoadingAndFuses
  refine ⟨?_, ?_, ?_, ?_, ?_, ?_, ?_, ?_, ?_, ?_, ?_, ?_⟩
  · intro s rq hw hmode htarget hstate hlock
    have hp : s.takesPush = true := by simp [State.takesPush, hmode, htarget, hstate, hlock]
    exact ⟨_, execMouldStart_accepted s hw hp, rfl, rfl, (s.withOut []).pushBegun_state, rfl, (s.withOut []).pushBegun_out, (s.withOut []).pushBegun_keepsRegs⟩
  · intro s rq hw h
    obtain ⟨t, e, hm, -, hk⟩ := execMouldStart_discarded s hw ((State.takesPush_eq_false_iff s).2 h)
    exact ⟨t, e, hm, hk⟩
  · intro s rq hw hl
    obtain ⟨src, hl⟩ := Option.isSome_iff_exists.1 hl
    obtain ⟨hm, hs, hc⟩ := (s.withOut []).loadFail_ends (cause := 0x40) 0 hl (by simp)
    exact ⟨_, execMouldAbort_eq s hw, congrArg ModeSt.mode hm, congrArg ModeSt.load hm, hs, hc, (s.withOut []).loadFail_image _ _⟩
  · intro s ok bytes hl
    have h := State.imageRead_host_outcome (s.withOut []) ok (bytes.map (·.toNat)) hl
    simp only [State.withOut_imageFail] at h
    exact ⟨_, execImageReadDone_eq s ok bytes, h⟩
  · intro s ok bytes c hl
    refine ⟨_, execImageReadDone_eq s ok bytes, ?_⟩
    rintro b rfl hb hf
    exact State.imageRead_flash_inForce (s.withOut []) _ hl hb ((s.withOut_imageFail _ _ _).trans hf)
  · rintro s ok bytes c hl rfl
    exact ⟨_, execImageReadDone_eq s false bytes, State.imageRead_flash_falls (s.withOut []) _ hl⟩
  · intro s rq k hw hb hmode hnvm hblank
    exact fuseRow_accepted s (.inl rfl) hw hb ((State.takesFuse_program_iff s k).2 ⟨hmode, hnvm, hblank⟩)
  · intro s rq k hw hb hmode hnvm hk
    exact fuseRow_accepted s (.inr rfl) hw hb ((State.takesFuse_revoke_iff s k).2 ⟨hmode, hnvm, hk⟩)
  · intro s rq k hw hb h
    refine fuseRow_refused s (.inl rfl) hw hb ?_
    rw [← Bool.not_eq_true, State.takesFuse_program_iff]
    simpa only [not_and_or, Bool.not_eq_true] using h
  · intro s rq k hw hb h
    refine fuseRow_refused s (.inr rfl) hw hb ?_
    rw [← Bool.not_eq_true, State.takesFuse_revoke_iff]
    simp only [not_and_or, not_or, Bool.not_eq_true]
    exact h
  · exact fun s rq k hw hb => ⟨fuseRow_busy s (.inl rfl) hw hb, fuseRow_busy s (.inr rfl) hw hb⟩
  · exact fun s cmd k hash h _ => execFuseCmdDone_burns s h
end

section
/-! SUPPORT. The update-all of a supply set DAC that waits for its restart (R152, R343): what a trigger leaves of it, and the refutation of O24. -/

namespace Sys2Proof.Machine

variable (s : State)

/-! Triggers -/

@[simp] theorem State.calTouch_dac (kind u k : Nat) : (s.calTouch kind u).dac k = s.dac k :=
  congrArg (smGet DacSt.idle · k) (State.dacs_of_blur (s.calTouch_blur kind u (Nat.and_self _)) (by decide))

/-- A trigger writes no flag that holds a supply channel and no gang, so a set DAC waits for its restart after it exactly where it did before. -/
@[simp] theorem State.trigger_dacFrozen (j k : Nat) : (s.trigger j).dacFrozen k = s.dacFrozen k := by
  have hb := s.trigger_blur j (Nat.and_self _)
  have hfl (f : Fld) (i : Nat) (hf : Nat.testBit _ (32 + f.key % 1024) = false) : (s.trigger j).fl f i = s.fl f i :=
    congrArg (· != 0) (State.rd_of_blur hb f i hf)
  have hlead (d : Nat) : (s.trigger j).dpsLead d = s.dpsLead d := by
    simp only [State.dpsLead, State.rd_of_blur hb R.DPS_GANG.LEADER d (by decide), State.rd_of_blur hb R.DPS_GANG.MEMBERS d (by decide),
      State.image_of_blur hb (by decide)]
  have hheld (d : Nat) : (s.trigger j).dpsHeldOpen d = s.dpsHeldOpen d := by
    simp only [State.dpsHeldOpen, hfl R.DPS_STATUS.TRIPPED d (by decide), hfl R.DPS_STATUS.HW_TRIP d (by decide),
      hfl R.DPS_STATUS.MON_OPENED d (by decide), hfl R.DPS_STATUS.SUPPLY_LOSS d (by decide)]
  simp only [State.dacFrozen, State.dpsFrozen, hlead, hheld, hfl R.DPS_STATUS.FOLDED _ (by decide)]

/-- A trigger of one DAC leaves every other DAC as it was. -/
theorem State.trigger_dac_ne {j k : Nat} (h : k ≠ j) : (s.trigger j).dac k = s.dac k := by
  have hs : (s.when (dacLane j) (·.calTouch 3 j)).dac k = s.dac k :=
    s.when_induction (P := fun t => t.dac k = s.dac k) _ _ rfl (s.calTouch_dac 3 j k)
  unfold State.trigger
  simp only [apply_ite (State.dac · k), State.setDac_dac_ne _ _ h, ite_self, hs]

/-- A trigger of a set DAC that waits for its restart is only noted: the DAC keeps its target (R343). -/
theorem State.trigger_frozen {k : Nat} (h : s.dacFrozen k = true) : s.trigger k = s.setDac k { s.dac k with due := true } := by
  have hk : dacLane k = false := by
    simp only [State.dacFrozen, dacDps, Bool.and_eq_true, decide_eq_true_eq] at h
    simp only [dacLane, decide_eq_false_iff_not]
    omega
  simp [State.trigger, hk, h]

/-- Whichever DAC is triggered, one that waits for its restart keeps its target. -/
theorem State.trigger_target_of_frozen {k : Nat} (h : s.dacFrozen k = true) (j : Nat) : ((s.trigger j).dac k).target = (s.dac k).target := by
  by_cases hj : k = j
  · subst hj
    rw [s.trigger_frozen h, State.setDac_dac_same]
  · rw [s.trigger_dac_ne hj]

/-! The write of OCT_LVL_UPDATE -/

/-- A write of OCT_LVL_UPDATE makes nothing but triggers: what every trigger keeps, it keeps. -/
theorem octUpdateHook_induction {P : State → Prop} (rq : Req) (o w be : Nat) (h0 : P s) (h1 : ∀ t j, P t → P (t.trigger j)) :
    P (octUpdateHook rq o w be s).1 := by
  have heach (l : List Nat) : P (s.each l State.trigger) := s.each_induction l State.trigger h0 h1
  simp only [octUpdateHook, Fx.of]
  refine s.when_induction _ _ h0 ?_
  split
  · split
    · exact heach _
    · exact h0
  · exact heach _

/-- UPDATE_ALL_GO, of whatever scope, leaves the target of a set DAC that waits for its restart. -/
theorem execUpdateAllGo_target_of_frozen {rq : Req} {o : Fin 128} (w : Word) {k : Nat} (hw : s.canWrite rq .OCT_LVL_UPDATE o.val) (h : s.dacFrozen k = true) :
    ∃ t, execUpdateAllGo rq o w s = .next t ∧ (t.dac k).target = (s.dac k).target := by
  have hP := octUpdateHook_induction (P := fun t => t.dacFrozen k = true ∧ (t.dac k).target = (s.dac k).target) (s.withOut []) rq
    (s.copyOf rq .OCT_LVL_UPDATE o.val) (Nat.lor w.toNat 1) 15 ⟨h, rfl⟩
    fun t j ⟨hf, ht⟩ => ⟨(t.trigger_dacFrozen j k).trans hf, (t.trigger_target_of_frozen hf j).trans ht⟩
  exact ⟨_, writeRow_acts s octUpdateHook hw.1 hw.2 rfl, hP.2⟩

/-! The counterexample -/

/-- In RUN, saggar 0 owns every octet and every supply channel; channel 0 is folded, and code 77 has been written to it since. -/
def foldedSupply : State :=
  let im : Image := { imageOf [] with saggars := [⟨0, 0, 0, 4⟩], octOwner := List.replicate 128 0, dpsOwner := List.replicate 32 0 }
  (({ State.reset with m := { State.reset.m with mode := .run }, image := some im } : State).wr R.DPS_STATUS.FOLDED 0 1).wr R.DPS_SET_CODE.CODE 0 77

theorem foldedSupply_canWrite : foldedSupply.canWrite (.fn 0) .OCT_LVL_UPDATE 0 := by decide

theorem foldedSupply_sagOf : foldedSupply.sagOf (.fn 0) = some 0 := by decide

theorem foldedSupply_owned : 11000 ∈ foldedSupply.ownedDacs 0 :=
  List.mem_append_right _ (List.mem_map.2 ⟨0, List.mem_filter.2 ⟨by decide, by decide⟩, rfl⟩)

theorem foldedSupply_frozen : foldedSupply.dacFrozen 11000 = true := by decide

theorem foldedSupply_target_ne : (foldedSupply.dac 11000).target ≠ foldedSupply.dacStored 11000 := by decide

end Sys2Proof.Machine

open Sys2Proof Sys2Proof.Machine

/-- Refutes O24: with ALL_OWNED = 1 the scope holds the set DAC of a folded supply channel, whose trigger waits for the restart (R343), so its target stays
what it was and does not become the stored code. -/
theorem not_updateAll : ¬ Obligations.UpdateAll := by
  unfold Obligations.UpdateAll
  rintro ⟨-, hall⟩
  obtain ⟨t, ht, hin, -⟩ := hall foldedSupply (.fn 0) 0 2 11000 0 foldedSupply_canWrite (by decide) foldedSupply_sagOf
  obtain ⟨u, hu, hkeep⟩ := execUpdateAllGo_target_of_frozen foldedSupply (o := 0) 2 foldedSupply_canWrite foldedSupply_frozen
  obtain rfl : t = u := Host.Outcome.next.inj (ht.symm.trans hu)
  exact foldedSupply_target_ne (hkeep.symm.trans (hin foldedSupply_owned))
end

section
/-! SUPPORT. The execution of a micro-word whose fetch finds no fault (R222, R226, R244): what the nano-word it names leaves alone, where the sequencer
goes on, what a machine check leaves of the sequencer, and the counter words of R232. -/

namespace Sys2Proof.Machine

variable (s : State)

/-! The nano-word that a micro-word issues -/

/-- The state in which a micro-word that has been fetched acts. -/
def State.acting (s : State) (q w : Nat) : State := (s.fetched q (s.seq q).next).afterIssue q w

/-- The state after the nano-word of a housekeeping micro-word, which acts after the word's own operation (R233, R259). -/
def State.afterWord (s : State) (q w : Nat) : State := s.when (mwNano w ≠ 0 && !mwEnds w && q = 16) (·.issueNano q (mwNano w))

theorem State.fetched_rd (q a : Nat) {f : Fld} (i : Nat) (h : f.key % 1024 ≠ R.FLS_STATUS.RANGE.key) : (s.fetched q a).rd f i = s.rd f i :=
  s.when_induction (P := fun t => t.rd f i = s.rd f i) _ _ rfl (s.wr_rd_key 1 h)

@[simp] theorem State.fetched_seq (q a k : Nat) : (s.fetched q a).seq k = s.seq k :=
  s.when_induction (P := fun t => t.seq k = s.seq k) _ _ rfl rfl

@[simp] theorem State.fetched_store (q a k : Nat) : (s.fetched q a).store k = s.store k :=
  s.when_induction (P := fun t => t.store k = s.store k) _ _ rfl rfl

/-- A tile's nano-word only joins those that wait for the next vector boundary (R226). -/
theorem State.issueNano_tile {q : Nat} (n : Nat) (h : q ≠ 16) : s.issueNano q n = s.setPlay q { s.play q with issued := (s.play q).issued ++ [n] } :=
  if_neg h

/-- Before the micro-word acts, its nano-word has changed at most what waits in the tile's vector pipeline. -/
theorem State.afterIssue_cases (q w : Nat) : s.afterIssue q w = s ∨ ∃ x, s.afterIssue q w = s.setPlay q x := by
  unfold State.afterIssue
  by_cases h : (mwNano w ≠ 0 && !mwEnds w && q ≠ 16) = true
  · have hq : q ≠ 16 := by simpa using (Bool.and_eq_true_iff.1 h).2
    rw [h]
    exact .inr ⟨_, s.issueNano_tile _ hq⟩
  · rw [Bool.not_eq_true] at h
    rw [h]
    exact .inl rfl

@[simp] theorem State.afterIssue_rd (q w : Nat) (f : Fld) (i : Nat) : (s.afterIssue q w).rd f i = s.rd f i := by
  rcases s.afterIssue_cases q w with h | ⟨x, h⟩
  · rw [h]
  · rw [h, State.setPlay_rd]

@[simp] theorem State.afterIssue_seq (q w k : Nat) : (s.afterIssue q w).seq k = s.seq k := by
  rcases s.afterIssue_cases q w with h | ⟨x, h⟩
  · rw [h]
  · rw [h, State.setPlay_seq]

@[simp] theorem State.afterIssue_store (q w k : Nat) : (s.afterIssue q w).store k = s.store k := by
  rcases s.afterIssue_cases q w with h | ⟨x, h⟩
  · rw [h]
  · rw [h, State.setPlay_store]

@[simp] theorem State.acting_seq (q w k : Nat) : (s.acting q w).seq k = s.seq k :=
  ((s.fetched q _).afterIssue_seq q w k).trans (s.fetched_seq q _ k)

theorem State.acting_rd (q w : Nat) {f : Fld} (i : Nat) (h : f.key % 1024 ≠ R.FLS_STATUS.RANGE.key) : (s.acting q w).rd f i = s.rd f i :=
  ((s.fetched q _).afterIssue_rd q w f i).trans (s.fetched_rd q _ i h)

@[simp] theorem State.acting_store (q w k : Nat) : (s.acting q w).store k = s.store k :=
  ((s.fetched q _).afterIssue_store q w k).trans (s.fetched_store q _ k)

/-- What the operations on counters and the signals keep, a nano-word of the housekeeping sequencer keeps (R259). -/
theorem State.issueNano_hk_induction {P : State → Prop} (n : Nat) (h0 : P s)
    (hc : ∀ t k, P t → P (t.cntNano 16 k (bits (s.nanoWord 16 n) (96 + 4 * k) 4))) (hr : ∀ (t : State) k, P t → P (t.raise k)) : P (s.issueNano 16 n) :=
  State.each_induction _ _ _ (s.each_induction _ _ h0 hc) fun t k => hr t (24 + k)

/-- An operation of a nano-word on a counter writes that counter or nothing (R225). -/
theorem State.cntNano_cases (q k op : Nat) : s.cntNano q k op = s ∨ ∃ v, s.cntNano q k op = s.wr R.SEQ_CNT.VALUE (8 * q + k) v := by
  unfold State.cntNano
  dsimp only
  split
  · exact .inr ⟨_, rfl⟩
  · exact .inr ⟨_, rfl⟩
  · exact .inr ⟨_, rfl⟩
  · exact .inr ⟨_, rfl⟩
  · exact .inl rfl

theorem State.cntNano_rd_key (q k op : Nat) {f : Fld} (i : Nat) (h : f.key % 1024 ≠ R.SEQ_CNT.VALUE.key) : (s.cntNano q k op).rd f i = s.rd f i := by
  rcases s.cntNano_cases q k op with e | ⟨v, e⟩
  · rw [e]
  · rw [e, State.wr_rd_key _ _ h]

theorem State.cntNano_rd_inst (q op : Nat) {j k : Nat} (h : j ≠ k) : (s.cntNano q k op).rd R.SEQ_CNT.VALUE (8 * q + j) = s.rd R.SEQ_CNT.VALUE (8 * q + j) := by
  rcases s.cntNano_cases q k op with e | ⟨v, e⟩
  · rw [e]
  · rw [e, State.wr_rd_inst _ _ (by omega)]

@[simp] theorem State.cntNano_none (q k : Nat) : s.cntNano q k 0 = s := rfl

/-- Nothing acts after the word of a tile, nor after a word that names no nano-word. -/
theorem State.afterWord_eq_self {q w : Nat} (h : q ≠ 16 ∨ mwNano w = 0 ∨ mwEnds w = true) : s.afterWord q w = s := by
  have hc : (mwNano w ≠ 0 && !mwEnds w && q = 16) = false := by
    rcases h with h | h | h <;> simp [h]
  rw [State.afterWord, hc, State.when_false]

@[simp] theorem State.afterWord_seq (q w k : Nat) : (s.afterWord q w).seq k = s.seq k :=
  s.when_induction (P := fun t => t.seq k = s.seq k) _ _ rfl
    (congrArg (smGet SeqSt.idle · k) (State.seqs_of_blur (s.issueNano_blur q _ (Nat.and_self _)) (by decide)))

/-- The nano-word of a housekeeping micro-word writes no register field but the counters (R259). -/
theorem State.afterWord_rd (q w : Nat) {f : Fld} (i : Nat) (h : f.key % 1024 ≠ R.SEQ_CNT.VALUE.key) : (s.afterWord q w).rd f i = s.rd f i := by
  by_cases hq : q = 16
  · subst hq
    exact s.when_induction (P := fun t => t.rd f i = s.rd f i) _ _ rfl
      (s.issueNano_hk_induction (P := fun t => t.rd f i = s.rd f i) _ rfl (fun t k e => (t.cntNano_rd_key 16 k _ i h).trans e) fun _ _ e => e)
  · rw [s.afterWord_eq_self (.inl hq)]

/-- A counter that the word leaves free of its nano-word keeps what the word gave it. -/
theorem State.afterWord_cnt {q w : Nat} (h : s.cntFree q w) : (s.afterWord q w).rd R.SEQ_CNT.VALUE (cntInst q w) = s.rd R.SEQ_CNT.VALUE (cntInst q w) := by
  by_cases hn : q ≠ 16 ∨ mwNano w = 0 ∨ mwEnds w = true
  · rw [s.afterWord_eq_self hn]
  · simp only [not_or, not_not] at hn
    obtain ⟨rfl, hw, he⟩ := hn
    have hop : bits (s.nanoWord 16 (mwNano w)) (96 + 4 * bits w 12 3) 4 = 0 := by simpa [State.cntFree, hw, he] using h
    refine s.when_induction (P := fun t => t.rd R.SEQ_CNT.VALUE (cntInst 16 w) = s.rd R.SEQ_CNT.VALUE (cntInst 16 w)) _ _ rfl
      (s.issueNano_hk_induction (P := fun t => t.rd R.SEQ_CNT.VALUE (cntInst 16 w) = s.rd R.SEQ_CNT.VALUE (cntInst 16 w)) _ rfl (fun t k e => ?_) fun _ _ e => e)
    by_cases hk : bits w 12 3 = k
    · rw [← hk, hop, State.cntNano_none, e]
    · exact (t.cntNano_rd_inst 16 _ hk).trans e

/-! Where a micro-word ends -/

/-- Only SEQ_PC of the registers shows that a word has ended. -/
theorem State.seqNext_rd (q pc next : Nat) (y : Bool) {f : Fld} (i : Nat) (h : f.key % 1024 ≠ R.SEQ_PC.PC.key) : (s.seqNext q pc next y).rd f i = s.rd f i := by
  unfold State.seqNext
  split
  · exact s.wr_rd_key _ h
  · exact s.wr_rd_key _ h

/-- SEQ_PC shows the address of the word that has ended. -/
theorem State.seqNext_pc (q pc next : Nat) (y : Bool) : (s.seqNext q pc next y).rd R.SEQ_PC.PC q = pc % 2 ^ R.SEQ_PC.PC.width := by
  unfold State.seqNext
  split
  · exact s.wr_rd_same _ _ _
  · exact s.wr_rd_same _ _ _

/-- A sequencer that still runs goes on at the next address, and its count restarts at a yield point (R243, R244). -/
theorem State.seqNext_seq {q : Nat} (pc next : Nat) (y : Bool) (h : s.rd R.SEQ_STATUS.STATE q = 1) :
    (s.seqNext q pc next y).seq q = { s.seq q with next := next % 2 ^ 14, ran := if y then 0 else (s.seq q).ran + 1, atYield := y, entered := false } := by
  unfold State.seqNext
  rw [if_neg (not_not.2 h), State.setSeq_seq_same]

/-- A sequencer that can execute a word is RUNNING. -/
theorem State.running_of_seqReady {q : Nat} (h : s.seqReady q = true) : s.rd R.SEQ_STATUS.STATE q = 1 := by
  simp only [State.seqReady, Bool.and_eq_true, decide_eq_true_eq] at h
  tauto

/-- A word that is fetched without a fault and that its class accepts acts between its own nano-word and the end of the word (R222, R226). -/
theorem State.execMicro_eq {q w : Nat} {p : Nat → Bool} (f : State → Nat → Nat → State × Nat) (h : s.fetches q w) (hp : p w = true) :
    s.execMicro q p f = ((f (s.acting q w) (s.seq q).next w).1.afterWord q w).seqNext q (s.seq q).next (f (s.acting q w) (s.seq q).next w).2 (mwYield w) := by
  obtain ⟨hr, hw, hb, hn⟩ := h
  have hi : (mwNano w ≠ 0 && !mwEnds w && smGet 0 (s.store q).bad (65536 + mwNano w) ≠ 0) = false := by
    by_cases h0 : mwNano w = 0
    · simp [h0]
    cases he : mwEnds w with
    | false => simp [hn ⟨h0, he⟩]
    | true => simp
  unfold State.execMicro
  simp only [hr, hw, hp, hb, State.fetched_store, hi]
  rfl

theorem State.withOut_seq (o : List Out) (q : Nat) : (s.withOut o).seq q = s.seq q := rfl

/-- When a fetched micro-word acts, the registers but FLS_STATUS.RANGE read as before. -/
theorem State.withOut_acting_rd (q w : Nat) {f : Fld} (i : Nat) (h : f.key % 1024 ≠ R.FLS_STATUS.RANGE.key) : ((s.withOut []).acting q w).rd f i = s.rd f i :=
  (s.withOut []).acting_rd q w i h

/-- Which counter a word leaves free of its nano-word hangs on the nanostore alone. -/
theorem State.cntFree_congr {s t : State} {q w : Nat} (h : t.store q = s.store q) (hs : s.cntFree q w) : t.cntFree q w := by
  simpa only [State.cntFree, State.nanoWord, h] using hs

/-- A word whose action leaves its sequencer running goes on; the registers but SEQ_PC and the counters read as the action left them, and so does a counter
that the word leaves free of its nano-word. -/
theorem done_execMicro {q w : Nat} {p : Nat → Bool} {f : State → Nat → Nat → State × Nat} {u : State} {next : Nat} (h : s.fetches q w) (hp : p w = true)
    (hf : f ((s.withOut []).acting q w) (s.seq q).next w = (u, next)) (hst : u.rd R.SEQ_STATUS.STATE q = ((s.withOut []).acting q w).rd R.SEQ_STATUS.STATE q)
    (hseq : u.seq q = ((s.withOut []).acting q w).seq q) (hstore : u.store q = ((s.withOut []).acting q w).store q) :
    ∃ t, (done s fun s => s.execMicro q p f) = .next t ∧ s.wentOn t q w next ∧
      (∀ (g : Fld) (i : Nat), g.key % 1024 ≠ R.SEQ_PC.PC.key → g.key % 1024 ≠ R.SEQ_CNT.VALUE.key → t.rd g i = u.rd g i) ∧
      (s.cntFree q w → t.rd R.SEQ_CNT.VALUE (cntInst q w) = u.rd R.SEQ_CNT.VALUE (cntInst q w)) := by
  have hx : (s.withOut []).execMicro q p f = (u.afterWord q w).seqNext q (s.seq q).next next (mwYield w) := by
    rw [(s.withOut []).execMicro_eq f h hp, State.withOut_seq, hf]
  have hrun : (u.afterWord q w).rd R.SEQ_STATUS.STATE q = 1 := by
    rw [u.afterWord_rd q w q (by decide), hst, s.withOut_acting_rd q w q (by decide), s.running_of_seqReady h.1]
  have hnext := (u.afterWord q w).seqNext_seq (s.seq q).next next (mwYield w) hrun
  rw [State.afterWord_seq, hseq, State.acting_seq] at hnext
  refine ⟨_, congrArg (fun v => Host.Outcome.next (s.commit v)) hx, ⟨?_, ?_, ?_, ?_, ?_⟩, fun g i hpc hcnt => ?_, fun hc => ?_⟩
  · exact State.seqNext_pc _ _ _ _ _
  · exact (State.seqNext_rd _ _ _ _ _ q (by decide)).trans hrun
  · exact congrArg SeqSt.next hnext
  · exact congrArg SeqSt.ran hnext
  · exact congrArg SeqSt.atYield hnext
  · exact (State.seqNext_rd _ _ _ _ _ i hpc).trans (u.afterWord_rd q w i hcnt)
  · exact (State.seqNext_rd _ _ _ _ _ _ (by decide)).trans (u.afterWord_cnt (State.cntFree_congr (hstore.trans (State.acting_store _ q w q)) hc))

/-! The counter words -/

/-- A word that gives its counter a value and goes on: the counter has that value, whatever else its nano-word does. -/
theorem done_execMicro_cnt {q w : Nat} {p : Nat → Bool} {f : State → Nat → Nat → State × Nat} {v next : Nat} (h : s.fetches q w) (hp : p w = true) (hc : s.cntFree q w)
    (hf : ∀ t : State, (∀ i, t.rd R.SEQ_CNT.VALUE i = s.rd R.SEQ_CNT.VALUE i) → (∀ i, t.rd R.SEQ_CINIT.VALUE i = s.rd R.SEQ_CINIT.VALUE i) →
      f t (s.seq q).next w = (t.wr R.SEQ_CNT.VALUE (cntInst q w) v, next)) :
    ∃ t, (done s fun s => s.execMicro q p f) = .next t ∧ t.rd R.SEQ_CNT.VALUE (cntInst q w) = v % 2 ^ 32 ∧ s.wentOn t q w next := by
  have ha := hf _ (fun i => s.withOut_acting_rd q w i (by decide)) fun i => s.withOut_acting_rd q w i (by decide)
  obtain ⟨t, e, hw, -, hr⟩ := done_execMicro s h hp ha (State.wr_rd_key _ _ (by decide)) rfl rfl
  exact ⟨t, e, (hr hc).trans (State.wr_rd_same _ _ _ _), hw⟩

theorem execCntLoadImm_sets (q : Fin 17) {w : Nat} (h : s.fetches q.val w) (hp : isCnt 0 w = true) (hc : s.cntFree q.val w) :
    ∃ t, execCntLoadImm q s = .next t ∧ t.rd R.SEQ_CNT.VALUE (cntInst q.val w) = bits w 0 9 % 2 ^ 32 ∧ s.wentOn t q.val w ((s.seq q.val).next + 1) :=
  done_execMicro_cnt s h hp hc fun _ _ _ => rfl

theorem execCntLoadCinit_sets (q : Fin 17) {w : Nat} (h : s.fetches q.val w) (hp : isCnt 1 w = true) (hc : s.cntFree q.val w) :
    ∃ t, execCntLoadCinit q s = .next t ∧ t.rd R.SEQ_CNT.VALUE (cntInst q.val w) = s.rd R.SEQ_CINIT.VALUE (16 * q.val + bits w 0 4) % 2 ^ 32 ∧
      s.wentOn t q.val w ((s.seq q.val).next + 1) :=
  done_execMicro_cnt s h hp hc fun _ _ hi => by rw [hi]

theorem execCntIncrement_sets (q : Fin 17) {w : Nat} (h : s.fetches q.val w) (hp : isCnt 2 w = true) (hc : s.cntFree q.val w) :
    ∃ t, execCntIncrement q s = .next t ∧
      t.rd R.SEQ_CNT.VALUE (cntInst q.val w) = min (s.rd R.SEQ_CNT.VALUE (cntInst q.val w) + 1) (2 ^ 32 - 1) % 2 ^ 32 ∧
      s.wentOn t q.val w ((s.seq q.val).next + 1) :=
  done_execMicro_cnt s h hp hc fun t hv _ => by rw [State.bump, hv]; rfl

theorem execCntDecrement_sets (q : Fin 17) {w : Nat} (h : s.fetches q.val w) (hp : isCnt 3 w = true) (hc : s.cntFree q.val w) :
    ∃ t, execCntDecrement q s = .next t ∧ t.rd R.SEQ_CNT.VALUE (cntInst q.val w) = (s.rd R.SEQ_CNT.VALUE (cntInst q.val w) - 1) % 2 ^ 32 ∧
      s.wentOn t q.val w ((s.seq q.val).next + 1) :=
  done_execMicro_cnt s h hp hc fun t hv _ => by rw [hv]

/-- A snapshot copies the counter and leaves it as it was. -/
theorem execCntSnapshot_copies (q : Fin 17) {w : Nat} (h : s.fetches q.val w) (hp : isCnt 4 w = true) (hc : s.cntFree q.val w) :
    ∃ t, execCntSnapshot q s = .next t ∧ t.rd R.SEQ_CNT_SNAP.VALUE (cntInst q.val w) = s.rd R.SEQ_CNT.VALUE (cntInst q.val w) % 2 ^ 32 ∧
      t.rd R.SEQ_CNT.VALUE (cntInst q.val w) = s.rd R.SEQ_CNT.VALUE (cntInst q.val w) ∧ s.wentOn t q.val w ((s.seq q.val).next + 1) := by
  obtain ⟨t, e, hw, hr, hcnt⟩ := done_execMicro s (f := fun s pc w => (s.wr R.SEQ_CNT_SNAP.VALUE (cntInst q.val w) (s.rd R.SEQ_CNT.VALUE (cntInst q.val w)), pc + 1))
    h hp rfl (State.wr_rd_key _ _ (by decide)) rfl rfl
  refine ⟨t, e, ?_, ?_, hw⟩
  · rw [hr _ _ (by decide) (by decide), State.wr_rd_same, State.withOut_acting_rd _ _ _ _ (by decide)]
    rfl
  · rw [hcnt hc, State.wr_rd_key _ _ (by decide), State.withOut_acting_rd _ _ _ _ (by decide)]

/-- Addresses of the microstore are counted modulo its size. -/
theorem State.wentOn_congr {t : State} {q w a b : Nat} (hab : a % 2 ^ 14 = b % 2 ^ 14) (h : s.wentOn t q w a) : s.wentOn t q w b := by
  simpa only [State.wentOn, hab] using h

/-- LOOP counts down to 0, stays there, and jumps back while more than one is left (R222, R232). -/
theorem execLoop_counts (q : Fin 17) {w v : Nat} (h : s.fetches q.val w) (hp : mwClass w = 3) (hc : s.cntFree q.val w) (hv : s.rd R.SEQ_CNT.VALUE (cntInst q.val w) = v) :
    ∃ t, execLoop q s = .next t ∧ t.rd R.SEQ_CNT.VALUE (cntInst q.val w) = (v - 1) % 2 ^ 32 ∧
      s.wentOn t q.val w (if v ≤ 1 then (s.seq q.val).next + 1 else (s.seq q.val).next + 2 ^ 14 - bits w 0 12) := by
  have hcls : isClass 3 w = true := decide_eq_true hp
  rcases Nat.eq_zero_or_pos v with rfl | hpos
  · have hz := (s.withOut_acting_rd q.val w (cntInst q.val w) (by decide)).trans hv
    obtain ⟨t, e, hw, -, hr⟩ : ∃ t, execLoop q s = .next t ∧ _ :=
      done_execMicro s h hcls (u := (s.withOut []).acting q.val w) (next := (s.seq q.val).next + 1) (if_pos hz) rfl rfl rfl
    exact ⟨t, e, (hr hc).trans hz, hw⟩
  · obtain ⟨t, e, hr, hw⟩ : ∃ t, execLoop q s = .next t ∧ _ :=
      done_execMicro_cnt s h hcls hc (v := v - 1) (next := if v = 1 then (s.seq q.val).next + 1 else ((s.seq q.val).next + 2 ^ 14 - bits w 0 12) % 2 ^ 14)
        fun t ht _ => by
          have htv : t.rd R.SEQ_CNT.VALUE (8 * q.val + bits w 12 3) = v := (ht _).trans hv
          simp only [htv, if_neg (Nat.ne_of_gt hpos)]
          rfl
    refine ⟨t, e, hr, s.wentOn_congr ?_ hw⟩
    by_cases h1 : v = 1
    · rw [if_pos h1, if_pos (by omega)]
    · rw [if_neg h1, if_neg (by omega), Nat.mod_mod]

/-! Machine checks -/

theorem State.halted_of_blur {s t : State} {b : Nat} (h : t.blur b = s.blur b) (q : Nat) (hb : b.testBit (32 + R.SEQ_STATUS.STATE.key) = false) :
    t.halted q = s.halted q := by
  rw [State.halted, State.halted, State.rd_of_blur h R.SEQ_STATUS.STATE q hb]

/-- A HALTED sequencer stays HALTED when a tile stops, its own tile or another (R238). -/
theorem State.seqStopped_halted {q : Nat} (t : Nat) (h : s.halted q = true) : (s.seqStopped t).halted q = true := by
  unfold State.seqStopped
  split
  · exact h
  · next hc =>
    have hqt : q ≠ t := by
      rintro rfl
      simp [h] at hc
    have hw : ((s.wr R.SEQ_STATUS.STATE t 0).setSeq t { s.seq t with waiting := none, draining := false, vsync := false }).halted q = true := by
      rwa [State.halted, State.setSeq_rd, State.wr_rd_inst _ _ hqt]
    have hr := (State.halted_of_blur (State.releaseHolder_blur _ t (Nat.and_self _)) q (by decide)).trans hw
    dsimp only
    split
    · exact hr
    · exact hr

theorem State.tileStop_halted {q : Nat} (t : Nat) (h : s.halted q = true) : (s.tileStop t).halted q = true :=
  State.seqStopped_halted _ t ((State.halted_of_blur (s.engineStop_blur t (Nat.and_self _)) q (by decide)).trans h)

theorem State.stopAtBoundary_halted {q : Nat} (t : Nat) (h : s.halted q = true) : (s.stopAtBoundary t).halted q = true := by
  unfold State.stopAtBoundary
  dsimp only
  split
  · exact h
  split
  · exact State.each_induction _ (P := fun u => u.halted q = true) _ _ h fun _ _ hu => hu
  split
  · exact h
  · exact s.tileStop_halted t h

theorem State.stopTiles_halted {q : Nat} (now : Bool) (h : s.halted q = true) : (s.stopTiles now).halted q = true := by
  refine State.each_induction _ (P := fun u => u.halted q = true) _ _ h fun u t hu => ?_
  split
  · exact hu
  split
  · exact u.tileStop_halted t hu
  · exact u.stopAtBoundary_halted t hu

/-- A request for SERVICE is made from an operating mode, or it is refused (R84, R85). -/
theorem State.reqVerdict_service : s.reqVerdict 2 = if s.m.target.isSome then .refuse 2 else if s.operating then .go .service else .refuse 1 := rfl

/-- A request for SERVICE leaves a HALTED sequencer HALTED (R86, R238). -/
theorem State.modeRequest_service_halted {q : Nat} (now : Bool) (h : s.halted q = true) : (s.modeRequest 2 now).halted q = true := by
  unfold State.modeRequest
  rw [if_neg (by decide), State.reqVerdict_service]
  have hrefused (c : Nat) : (s.reqRefused c).halted q = true := (State.halted_of_blur (s.reqRefused_blur c (Nat.and_self _)) q (by decide)).trans h
  by_cases ht : s.m.target.isSome = true
  · rw [if_pos ht]
    exact hrefused 2
  by_cases ho : s.operating = true
  · have hm : s.m.mode ≠ .service := by
      intro hm
      simp [State.operating, hm] at ho
    rw [if_neg ht, if_pos ho]
    dsimp only
    generalize hu : State.wr _ _ _ _ = u
    have hum : decide (u.m.mode = .service) = false := by
      rw [← hu]
      exact decide_eq_false hm
    have huh : u.halted q = true := by
      rw [← hu, State.halted, State.wr_rd_key _ _ (by decide), State.wr_rd_key _ _ (by decide)]
      exact h
    rw [hum, State.when_false]
    exact State.when_induction _ (P := fun t => t.halted q = true) _ _ huh (u.stopTiles_halted now huh)
  · rw [if_neg ht, if_neg ho]
    exact hrefused 1

/-- What a machine check leaves of its sequencer: it is HALTED, and SEQ_MC shows the cause (R252, R253). -/
def State.haltedBy (s : State) (q cause : Nat) : Prop := s.halted q = true ∧ s.rd R.SEQ_MC.CAUSE q = cause

theorem State.haltedBy_of_blur {s t : State} {q cause b : Nat} (h : t.blur b = s.blur b) (hs : s.haltedBy q cause)
    (h1 : b.testBit (32 + R.SEQ_STATUS.STATE.key) = false) (h2 : b.testBit (32 + R.SEQ_MC.CAUSE.key) = false) : t.haltedBy q cause :=
  ⟨(State.halted_of_blur h q h1).trans hs.1, (State.rd_of_blur h R.SEQ_MC.CAUSE q h2).trans hs.2⟩

theorem State.raise_haltedBy {q cause : Nat} (n : Nat) (h : s.haltedBy q cause) : (s.raise n).haltedBy q cause := h

/-- The stop of the other members and the request for SERVICE leave it so (R33, R253). -/
theorem State.groupCheckStop_haltedBy {q cause : Nat} (t : Nat) (c : Bool) (h : s.haltedBy q cause) :
    ((s.groupCheckStop t).when c (·.modeRequest 2 false)).haltedBy q cause := by
  have hg := State.haltedBy_of_blur (s.groupCheckStop_blur t (Nat.and_self _)) h (by decide) (by decide)
  refine State.when_induction _ (P := fun u => u.haltedBy q cause) c _ hg ⟨State.modeRequest_service_halted _ false hg.1, ?_⟩
  exact (State.rd_of_blur (State.modeRequest_blur _ 2 false (Nat.and_self _)) _ _ (by decide)).trans hg.2

/-- A machine check of a sequencer that is not halted leaves it HALTED with its cause, whatever else stops with it (R33, R86, R253). -/
theorem State.machineCheck_haltedBy {q : Nat} (cause addr info : Nat) (h : s.halted q = false) : (s.machineCheck q cause addr info).haltedBy q (cause % 16) := by
  rw [State.machineCheck, if_neg (by simp [h])]
  dsimp only
  generalize ha : State.setSeq _ _ _ = a
  have hah : a.halted q = true := by
    rw [← ha, State.halted, State.setSeq_rd, State.wr_rd_same]
    rfl
  generalize hb : State.wr _ R.SEQ_MC_INFO.INFO _ _ = b
  have hbh : b.haltedBy q (cause % 16) := by
    rw [← hb]
    refine ⟨?_, ?_⟩
    · rw [State.halted, State.wr_rd_key _ _ (by decide), State.wr_rd_key _ _ (by decide), State.wr_rd_key _ _ (by decide)]
      exact (State.halted_of_blur (a.releaseHolder_blur q (Nat.and_self _)) q (by decide)).trans hah
    · rw [State.wr_rd_key _ _ (by decide), State.wr_rd_key _ _ (by decide), State.wr_rd_same]
      rfl
  have hshard (u : State) (code pl d0 d1 : Nat) (hu : u.haltedBy q (cause % 16)) : (u.shard code pl d0 d1 0).haltedBy q (cause % 16) :=
    State.haltedBy_of_blur (u.shard_blur code pl d0 d1 0 (Nat.and_self _)) hu (by decide) (by decide)
  split
  · exact hshard _ _ _ _ _ hbh
  · have hstop : ((b.engineStop q).lanesHalt q).haltedBy q (cause % 16) :=
      State.haltedBy_of_blur (State.lanesHalt_blur _ q (Nat.and_self _))
        (State.haltedBy_of_blur (b.engineStop_blur q (Nat.and_self _)) hbh (by decide) (by decide)) (by decide) (by decide)
    have hraise : (((b.engineStop q).lanesHalt q).raise (64 + 16 * q)).haltedBy q (cause % 16) := State.raise_haltedBy _ _ hstop
    exact State.groupCheckStop_haltedBy _ q _ (hshard _ _ _ _ _ hraise)

/-- No machine check changes a counter. -/
theorem State.machineCheck_cnt (q cause addr info i : Nat) : (s.machineCheck q cause addr info).rd R.SEQ_CNT.VALUE i = s.rd R.SEQ_CNT.VALUE i :=
  State.rd_of_blur (s.machineCheck_blur q cause addr info (Nat.and_self _)) _ _ (by decide)

theorem isReserved_of_cnt {w : Nat} (q : Nat) (hcls : mwClass w = 4) (hop : 4 < bits w 9 3) : isReserved q w = true := by
  simp [isReserved, hcls, hop]

/-- A word that its sequencer does not have halts it with cause RSV_CLASS and leaves the counters alone, where no nano-word acts after it (R252). -/
theorem execRsvClass_halts (q : Fin 17) {w : Nat} (h : s.fetches q.val w) (hp : isReserved q.val w = true) (hn : q.val ≠ 16 ∨ mwNano w = 0) :
    ∃ t, execRsvClass q s = .next t ∧ t.haltedBy q.val 6 ∧ ∀ i, t.rd R.SEQ_CNT.VALUE i = s.rd R.SEQ_CNT.VALUE i := by
  obtain ⟨a, ha⟩ : ∃ a, (s.withOut []).acting q.val w = a := ⟨_, rfl⟩
  have hrun : a.halted q.val = false := by
    rw [State.halted, ← ha, s.withOut_acting_rd q.val w q.val (by decide), s.running_of_seqReady h.1]
    rfl
  have hx : (s.withOut []).execMicro q.val (isReserved q.val) (fun s pc _ => (s.machineCheck q.val 6 pc 0, pc)) =
      (a.machineCheck q.val 6 (s.seq q.val).next 0).seqNext q.val (s.seq q.val).next (s.seq q.val).next (mwYield w) := by
    rw [(s.withOut []).execMicro_eq _ h hp, State.withOut_seq, ha, State.afterWord_eq_self _ (hn.imp_right .inl)]
  obtain ⟨hst, hcause⟩ := a.machineCheck_haltedBy 6 (s.seq q.val).next 0 hrun
  refine ⟨_, congrArg (fun v => Host.Outcome.next (s.commit v)) hx, ⟨?_, ?_⟩, fun i => ?_⟩
  · rwa [State.halted, State.commit_rd, State.seqNext_rd _ _ _ _ _ _ (by decide)]
  · rwa [State.commit_rd, State.seqNext_rd _ _ _ _ _ _ (by decide)]
  · rw [State.commit_rd, State.seqNext_rd _ _ _ _ _ _ (by decide), State.machineCheck_cnt, ← ha, s.withOut_acting_rd q.val w i (by decide)]

end Sys2Proof.Machine

open Sys2Proof Sys2Proof.Machine

/-- Settles O33: a counter word writes its counter or its snapshot and goes on, a reserved one is a machine check that leaves the counters alone (R252), and
LOOP counts down and jumps back while more than one is left. -/
theorem sequencerCounters : Obligations.SequencerCounters := by
  unfold Obligations.SequencerCounters
  simp only [State.afterIssue_rd]
  refine ⟨?_, ?_, ?_, ?_, ?_, ?_, ?_⟩
  · intro s q w h hp hc
    obtain ⟨t, e, hr, hw⟩ := execCntLoadImm_sets s q h hp hc
    have hlt : bits w 0 9 < 2 ^ 32 := (Nat.mod_lt _ (by decide)).trans (by decide : 2 ^ 9 < 2 ^ 32)
    exact ⟨t, e, hr.trans (Nat.mod_eq_of_lt hlt), hw⟩
  · exact fun s q w h hp hc => execCntLoadCinit_sets s q h hp hc
  · intro s q w h hp hc
    obtain ⟨t, e, hr, hw⟩ := execCntIncrement_sets s q h hp hc
    exact ⟨t, e, hr.trans (Nat.mod_eq_of_lt (by omega)), hw⟩
  · exact fun s q w h hp hc => execCntDecrement_sets s q h hp hc
  · exact fun s q w h hp hc => execCntSnapshot_copies s q h hp hc
  · intro s q w h hcls hop hn
    obtain ⟨t, e, ⟨hst, hcause⟩, hcnt⟩ := execRsvClass_halts s q h (isReserved_of_cnt q.val hcls hop) (hn.imp_left Nat.ne_of_lt)
    exact ⟨t, e, of_decide_eq_true hst, hcause, fun i _ => hcnt _⟩
  · intro s q w v h hcls hc hv
    obtain ⟨t, e, hr, hw⟩ := execLoop_counts s q h hcls hc hv
    obtain ⟨-, -, hnext, -⟩ := hw
    exact ⟨t, e, hr, hnext⟩
end

section
/-! SUPPORT. The time tick (R431, R432, R435): the clock with an addend added, what the rest of a tick leaves of the time unit, and O39. -/

namespace Sys2Proof.Machine

/-! The clock with an addend added -/

/-- The nanoseconds reach a second exactly when the time within the second, in units of 2^-32 ns, does. -/
theorem Clock.add_within_iff (c : Clock) (a : Nat) :
    c.ns + (c.frac + a) / 2 ^ 32 < 1000000000 ↔ c.ns * 2 ^ 32 + c.frac + a < 1000000000 * 2 ^ 32 := by
  omega

theorem Clock.add_within {c : Clock} {a : Nat} (h : c.ns * 2 ^ 32 + c.frac + a < 1000000000 * 2 ^ 32) :
    c.add a = { c with ns := c.ns + (c.frac + a) / 2 ^ 32, frac := (c.frac + a) % 2 ^ 32, tick := c.tick + 1 } :=
  if_pos ((c.add_within_iff a).2 h)

theorem Clock.add_carry {c : Clock} {a : Nat} (h : 1000000000 * 2 ^ 32 ≤ c.ns * 2 ^ 32 + c.frac + a) :
    c.add a = { c with ns := c.ns + (c.frac + a) / 2 ^ 32 - 1000000000, sec := (c.sec + 1) % 2 ^ 48, frac := (c.frac + a) % 2 ^ 32, tick := c.tick + 1 } :=
  if_neg (mt (c.add_within_iff a).1 (Nat.not_lt.2 h))

/-- An addend that stays within the second is added to NS and FRAC32 with no carry. -/
theorem Clock.add_within_advances {c : Clock} {a : Nat} (h : c.ns * 2 ^ 32 + c.frac + a < 1000000000 * 2 ^ 32) :
    (c.add a).ns * 2 ^ 32 + (c.add a).frac = c.ns * 2 ^ 32 + c.frac + a ∧ (c.add a).frac < 2 ^ 32 ∧ (c.add a).sec = c.sec ∧ (c.add a).tick = c.tick + 1 := by
  rw [Clock.add_within h]
  refine ⟨?_, Nat.mod_lt _ (by decide), rfl, rfl⟩
  dsimp only
  omega

/-- An addend of 40 bits that reaches the second carries into SEC once: what is left of NS lies below a second again. -/
theorem Clock.add_carry_advances {c : Clock} {a : Nat} (hn : c.ns < 1000000000) (hf : c.frac < 2 ^ 32) (ha : a < 2 ^ 40)
    (h : 1000000000 * 2 ^ 32 ≤ c.ns * 2 ^ 32 + c.frac + a) :
    (c.add a).ns * 2 ^ 32 + (c.add a).frac + 1000000000 * 2 ^ 32 = c.ns * 2 ^ 32 + c.frac + a ∧ (c.add a).frac < 2 ^ 32 ∧ (c.add a).ns < 1000000000 ∧
      (c.add a).sec = (c.sec + 1) % 2 ^ 48 := by
  rw [Clock.add_carry h]
  refine ⟨?_, Nat.mod_lt _ (by decide), ?_, rfl⟩ <;> dsimp only <;> omega

/-! The rest of a tick -/

variable (s : State)

/-- The playing tiles, the acquisitions and the handovers leave the time unit alone at a tick. -/
theorem State.tickSweep_time : ((s.each (List.range 16) fun s t => (s.playTick t).acqTick t).handoverTick).time = s.time :=
  State.time_of_blur (b := 0x2000000000000000000000000000000000000002100800)
    ((State.handoverTick_blur _ (by decide)).trans
      (s.blur_each _ _ fun t n => (State.acqTick_blur _ n (by decide)).trans (t.playTick_blur n (by decide)))) (by decide)

theorem State.tickWork_time :
    s.tickWork.time = { s.time with adj := s.time.adj.map fun (e : Nat × Nat) => (e.1, e.2 - 1), sync := s.time.sync.map (· - 1) } := by
  simp only [State.tickWork, State.setSeq_time, State.tickSweep_time]

/-! The command -/

/-- The state after a tick of a clock that counts. -/
def State.ticked (s : State) : State := { s.commit (s.withOut []).tickWork with clock := s.clock.add s.addendNow }

theorem exec_timeTick_running (h : s.clock.running = true) : exec .timeTick s = .next s.ticked := if_pos h

theorem exec_timeTick_stopped (h : s.clock.running = false) : exec .timeTick s = .next (s.withOut []) := if_neg (ne_true_of_eq_false h)

theorem State.ticked_clock : s.ticked.clock = s.clock.add s.addendNow := rfl

theorem State.ticked_time : s.ticked.time = { s.time with adj := s.time.adj.map fun (e : Nat × Nat) => (e.1, e.2 - 1), sync := s.time.sync.map (· - 1) } :=
  (s.withOut []).tickWork_time

/-- The addend of the next tick: an adjustment in its last tick gives way to the committed addend (R435). -/
def State.addendNext (s : State) : Nat :=
  match s.time.adj with
  | some (v, n) => if n ≤ 1 then s.time.addend else v
  | none => s.time.addend

theorem State.ticked_addendNow : s.ticked.addendNow = s.addendNext := by
  simp only [State.addendNow, State.addendNext, State.ticked_time]
  cases s.time.adj with
  | none => rfl
  | some e => simp only [Option.map_some, Nat.sub_eq_zero_iff_le]

theorem State.withOut_keeps (o : List Out) (l : List Part) : s.keeps (s.withOut o) l := fun p _ => by cases p <;> rfl

end Sys2Proof.Machine

open Sys2Proof Sys2Proof.Machine

/-- Settles O39: a tick adds the addend in force with at most one carry into SEC, which wraps (R431), an adjustment in its last tick gives way to the committed
addend (R435), and a clock that does not count yet stays (R432). -/
theorem timeTicks : Obligations.TimeTicks := by
  unfold Obligations.TimeTicks
  refine ⟨?within, ?carry, ?wrap, ?stopped⟩
  case within =>
    intro s hr _ _ _ h
    obtain ⟨htime, hfrac, hsec, htick⟩ := Clock.add_within_advances h
    exact ⟨_, exec_timeTick_running s hr, htime, hfrac, hsec, htick, s.ticked_addendNow⟩
  case carry =>
    intro s hr hn hf ha h hs
    obtain ⟨htime, hfrac, hns, hsec⟩ := Clock.add_carry_advances hn hf ha h
    exact ⟨_, exec_timeTick_running s hr, htime, hfrac, hns, hsec.trans (Nat.mod_eq_of_lt (Nat.add_lt_of_lt_sub hs))⟩
  case wrap =>
    intro s hr hn hf ha h hs
    obtain ⟨htime, hfrac, hns, hsec⟩ := Clock.add_carry_advances hn hf ha h
    exact ⟨_, exec_timeTick_running s hr, htime, hfrac, hns, hsec.trans (by rw [hs, Nat.sub_add_cancel Nat.one_le_two_pow, Nat.mod_self])⟩
  case stopped =>
    exact fun s h => ⟨_, exec_timeTick_stopped s h, s.withOut_keeps [] []⟩
end
section
/-! SUPPORT. Fields of words: what replacing or setting bits of a word does to its fields (R7). -/

namespace Sys2Proof.Machine

theorem bits_lt (v lo w : Nat) : bits v lo w < 2 ^ w := Nat.mod_lt _ (Nat.two_pow_pos w)

/-- A word is what lies above a field, the field, and what lies below it. -/
theorem bits_split (v lo w : Nat) : v = v / 2 ^ (lo + w) * 2 ^ (lo + w) + bits v lo w * 2 ^ lo + v % 2 ^ lo := by
  have h1 : v / 2 ^ lo = v / 2 ^ (lo + w) * 2 ^ w + bits v lo w := by
    rw [bits, Nat.pow_add, ← Nat.div_div_eq_div_mul]
    exact (Nat.div_add_mod' _ _).symm
  calc v = v / 2 ^ lo * 2 ^ lo + v % 2 ^ lo := (Nat.div_add_mod' _ _).symm
    _ = _ := by rw [h1, Nat.add_mul, Nat.mul_assoc, ← Nat.pow_add, Nat.add_comm w lo]

/-- A replaced field stands between what the word has above it and below it. -/
theorem putBits_split (v lo w x : Nat) : putBits v lo w x = v / 2 ^ (lo + w) * 2 ^ (lo + w) + x % 2 ^ w * 2 ^ lo + v % 2 ^ lo := by
  have h := bits_split v lo w
  rw [putBits]
  omega

/-- What lies below the end of a replaced field: the new field and the bits under it. -/
theorem putBits_low_lt (v lo w x : Nat) : x % 2 ^ w * 2 ^ lo + v % 2 ^ lo < 2 ^ (lo + w) := by
  have h1 : x % 2 ^ w < 2 ^ w := Nat.mod_lt _ (Nat.two_pow_pos w)
  have h2 : v % 2 ^ lo < 2 ^ lo := Nat.mod_lt _ (Nat.two_pow_pos lo)
  calc x % 2 ^ w * 2 ^ lo + v % 2 ^ lo < x % 2 ^ w * 2 ^ lo + 2 ^ lo := Nat.add_lt_add_left h2 _
    _ = (x % 2 ^ w + 1) * 2 ^ lo := by rw [Nat.add_mul, Nat.one_mul]
    _ ≤ 2 ^ w * 2 ^ lo := Nat.mul_le_mul_right _ h1
    _ = 2 ^ (lo + w) := by rw [← Nat.pow_add, Nat.add_comm]

/-- The replaced field reads what was put there. -/
theorem bits_putBits_same (v lo w x : Nat) : bits (putBits v lo w x) lo w = x % 2 ^ w := by
  have hd : putBits v lo w x / 2 ^ lo = v / 2 ^ (lo + w) * 2 ^ w + x % 2 ^ w := by
    rw [putBits_split, Nat.pow_add, Nat.mul_comm (2 ^ lo) (2 ^ w), ← Nat.mul_assoc, ← Nat.add_mul, Nat.mul_comm _ (2 ^ lo),
      Nat.mul_add_div (Nat.two_pow_pos lo), Nat.div_eq_of_lt (Nat.mod_lt v (Nat.two_pow_pos lo)), Nat.add_zero]
  rw [bits, hd, Nat.mul_add_mod_self_right, Nat.mod_mod]

/-- A field above a replaced one keeps its value. -/
theorem bits_putBits_above (v x : Nat) {lo w lo' w' : Nat} (h : lo + w ≤ lo') : bits (putBits v lo w x) lo' w' = bits v lo' w' := by
  have hd : putBits v lo w x / 2 ^ (lo + w) = v / 2 ^ (lo + w) := by
    rw [putBits_split, Nat.add_assoc, Nat.mul_comm, Nat.mul_add_div (Nat.two_pow_pos _), Nat.div_eq_of_lt (putBits_low_lt v lo w x), Nat.add_zero]
  rw [bits, bits, ← Nat.add_sub_cancel' h, Nat.pow_add, ← Nat.div_div_eq_div_mul, ← Nat.div_div_eq_div_mul, hd]

/-- A field below a replaced one keeps its value. -/
theorem bits_putBits_below (v x : Nat) {lo w lo' w' : Nat} (h : lo' + w' ≤ lo) : bits (putBits v lo w x) lo' w' = bits v lo' w' := by
  have hm : ∀ u, bits u lo' w' = bits (u % 2 ^ lo) lo' w' := by
    intro u
    have hs : bits (u % 2 ^ lo) lo' w' = u % 2 ^ lo % 2 ^ (lo' + w') / 2 ^ lo' := by rw [bits, Nat.pow_add, Nat.mod_mul_right_div_self]
    rw [hs, Nat.mod_mod_of_dvd _ (Nat.pow_dvd_pow 2 h), bits, Nat.pow_add, Nat.mod_mul_right_div_self]
  have hp : putBits v lo w x % 2 ^ lo = v % 2 ^ lo := by
    rw [putBits_split, Nat.pow_add, Nat.mul_comm (2 ^ lo) (2 ^ w), ← Nat.mul_assoc, ← Nat.add_mul, Nat.mul_add_mod_self_right, Nat.mod_mod]
  rw [hm (putBits v lo w x), hp, ← hm v]

/-- A field of a word with bits set has its own bits and the set ones. -/
theorem bits_lor (a b lo w : Nat) : bits (Nat.lor a b) lo w = Nat.lor (bits a lo w) (bits b lo w) := by
  apply Nat.eq_of_testBit_eq
  intro i
  simp only [bits, Nat.lor_eq, ← Nat.shiftRight_eq_div_pow, Nat.testBit_lor, Nat.testBit_mod_two_pow, Nat.testBit_shiftRight]
  cases decide (i < w) <;> simp

end Sys2Proof.Machine
end
section
/-! SUPPORT. What each command leaves alone: one frame per command, with the masks of the tables of parts and fields (R1 to R603), and O3 and O4. -/

open Sys2Proof
namespace Sys2Proof.Machine

/-- The mask of a list of register fields. -/
def Fld.mask (l : List Fld) : Nat := l.foldl (fun a f => a ||| 2 ^ (32 + f.key)) 0

/-- The mask of what a command may change: its parts, and with the registers its fields, or every field where it has no row. -/
def Instr.frame (c : Instr) : Nat :=
  Part.mask (partsOf c) ||| bif (Part.mask (partsOf c)).testBit 2 then (match fieldsOf c with | some l => Fld.mask l | none => allKeys) else 0

/-- A command answers a next state with the queue and the fuses it found, and leaves alone what lies outside a mask. -/
def Out'.frames (o : Out') (s : State) (b : Nat) : Prop := ∃ t, o = .next t ∧ t.pending = s.pending ∧ t.fuses = s.fuses ∧ t.blur b = s.blur b

theorem done_frames (s : State) {f : State → State} {b : Nat} (h : ∀ u, (f u).blur b = u.blur b) : Out'.frames (done s f) s b :=
  ⟨_, done_eq s f, rfl, rfl, done_blur (h _) (done_eq s f)⟩

theorem State.commitAll_blur (s t : State) {b : Nat} (h : t.blur b = s.blur b) : (s.commitAll t).blur b = s.blur b := by
  simp only [State.blur, State.mk.injEq, State.commitAll] at h ⊢
  obtain ⟨-, hclock, -, hrest⟩ := h
  exact ⟨trivial, hclock, trivial, hrest⟩

theorem doneAll_frames (s : State) {f : State → State} {b : Nat} (h : ∀ u, (f u).blur b = u.blur b) : Out'.frames (doneAll s f) s b :=
  ⟨_, doneAll_eq s f, rfl, rfl, s.commitAll_blur _ ((h _).trans rfl)⟩

theorem writeRow_frames (s : State) {rq : Req} {r : Reg} {i w : Nat} {k : Hook} {b : Nat} (h : ∀ j u, (k rq j w 15 u).1.blur b = u.blur b) (hb : b &&& 0xe0000000000000000000000000000000000000000000000000000000000000000000000000000000000000000000000000000000000000000000000000000000000000000000 = 0xe0000000000000000000000000000000000000000000000000000000000000000000000000000000000000000000000000000000000000000000000000000000000000000000) :
    Out'.frames (writeRow rq r i w k s) s b :=
  ⟨_, done_eq s _, rfl, rfl, writeRow_blur h hb rfl⟩

theorem readRow_frames (s : State) {rq : Req} {r : Reg} {i : Nat} {f : Nat → State → State × Nat} {b : Nat} (h : ∀ j u, (f j u).1.blur b = u.blur b) :
    Out'.frames (readRow rq r i f s) s b :=
  ⟨_, done_eq s _, rfl, rfl, readRow_blur h rfl⟩

theorem spiFrame_frames (s : State) {n : Nat} {f : State → State} {b : Nat} (h : ∀ u, (f u).blur b = u.blur b) : Out'.frames (spiFrame n f s) s b := by
  refine done_frames s fun u => ?_
  split
  · exact u.send_blur _ (by simp)
  · exact h u

/-- A micro-word leaves alone what its fetch, its nano-word, its end and its own operation leave alone. -/
theorem State.execMicro_blur (s : State) (q : Nat) (p : Nat → Bool) (f : State → Nat → Nat → State × Nat) {b : Nat} (hb : b &&& 0x38000004000000000000080000000000080000002000000000000000000000000000000000000000000001f8000700000000000000000000028003c2000d009fc000000000000090040001108000000100000000000000000000400003d138a8 = 0x38000004000000000000080000000000080000002000000000000000000000000000000000000000000001f8000700000000000000000000028003c2000d009fc000000000000090040001108000000100000000000000000000400003d138a8)
    (hf : ∀ u pc w, (f u pc w).1.blur b = u.blur b) : (s.execMicro q p f).blur b = s.blur b := by
  have hpc : b.testBit (32 + R.SEQ_PC.PC.key % 1024) = true := testBit_of_and hb (by decide)
  have hparity (u : State) (c k : Nat) : (u.parityCheck q c k).blur b = u.blur b := u.parityCheck_blur q c k (and_parts hb (by decide))
  have hissue (u : State) (n : Nat) : (u.issueNano q n).blur b = u.blur b := u.issueNano_blur q n (and_parts hb (by decide))
  have hfetch : (s.fetched q (s.seq q).next).blur b = s.blur b := s.fetched_blur q _ (and_parts hb (by decide))
  unfold State.execMicro
  dsimp only
  split
  · rfl
  split
  · exact (State.wr_blur _ _ _ _ hpc).trans (hparity _ _ _)
  split
  · exact (State.wr_blur _ _ _ _ hpc).trans ((hparity _ _ _).trans hfetch)
  · refine (State.seqNext_blur _ _ _ _ _ (and_parts hb (by decide))).trans ?_
    refine (State.blur_when _ _ _ (hissue _ _)).trans ((hf _ _ _).trans ?_)
    exact (State.blur_when _ _ _ (hissue _ _)).trans hfetch

/-- Once everything is forgotten, any two states agree. -/
theorem State.blur_all (s t : State) : s.blur 0xffffffffffffffffffffffffffffffffffffffffffffffffffffffffffffffffffffffffffffffffffffffffffffffffffffffffffffffffffffffffffffffffffffffffffffffffffffffffffffffffffffffffffffffffffffffffffffffffffffffffffffffffffffffffffffffffffffffffffffffffffffffffffffffffffffffff = t.blur 0xffffffffffffffffffffffffffffffffffffffffffffffffffffffffffffffffffffffffffffffffffffffffffffffffffffffffffffffffffffffffffffffffffffffffffffffffffffffffffffffffffffffffffffffffffffffffffffffffffffffffffffffffffffffffffffffffffffffffffffffffffffffffffffffffffffffff := by
  have e : ∀ r : SMap Nat, smKeep (fun k => !Nat.testBit 0xffffffffffffffffffffffffffffffffffffffffffffffffffffffffffffffffffffffffffffffffffffffffffffffffffffffffffffffffffffffffffffffffffffffffffffffffffffffffffffffffffffffffffffffffffffffffffffffffffffffffffffffffffffffffffffffffffffffffffffffffffffffffffffffffffffffff (32 + slotKey k)) r = [] := fun r => by
    simp only [smKeep, slotKey, State.key_of_all (b := 0xffffffffffffffffffffffffffffffffffffffffffffffffffffffffffffffffffffffffffffffffffffffffffffffffffffffffffffffffffffffffffffffffffffffffffffffffffffffffffffffffffffffffffffffffffffffffffffffffffffffffffffffffffffffffffffffffffffffffffffffffffffffffffffffffffffffff) (by decide), Bool.not_true, List.filter_false]
  simp only [State.blur, e]
  rfl


/-- The fields that `p` gives back are among those that the mask forgets. -/
theorem State.resetFields_blur_of (s : State) (p : Nat → Bool) {b : Nat} (h : ∀ k, p k = true → b.testBit (32 + slotKey k) = true) :
    (s.resetFields p).blur b = s.blur b := by
  have e : smKeep (fun k => !b.testBit (32 + slotKey k)) (smKeep (fun k => !p k) s.regs) = smKeep (fun k => !b.testBit (32 + slotKey k)) s.regs := by
    rw [smKeep, smKeep, smKeep, List.filter_filter]
    refine List.filter_congr fun x _ => ?_
    cases hp : p x.1
    · simp
    · simp [h _ hp]
  simp only [State.blur, State.resetFields, e]

/-- A FUNC reset gives back fields of its own list only. -/
theorem State.funcOwned_key (s : State) (k slot : Nat) (h : s.funcOwned k slot = true) : slotKey slot ∈ funcFields.map Fld.key := by
  unfold State.funcOwned at h
  split at h
  · cases h
  · next f hf =>
    have hk : f.key = slotKey slot := by simpa using List.find?_some hf
    exact hk ▸ List.mem_map_of_mem (List.mem_of_find?_eq_some hf)

/-- What the FUNC reset of a saggar changes, with its list of fields. -/
theorem State.funcReset_fields (s : State) (k : Nat) : (s.funcReset k).blur 0x7fffffff7fffffff807ff8ff3fffffff0000000000402000000800000002000e000000000000000000000000000000000010000000000000000000000000000000028003c2000000004000000000000090040000000000000000000000000000000000000003517c24 = s.blur 0x7fffffff7fffffff807ff8ff3fffffff0000000000402000000800000002000e000000000000000000000000000000000010000000000000000000000000000000028003c2000000004000000000000090040000000000000000000000000000000000000003517c24 := by
  have hkeys : ∀ x ∈ funcFields.map Fld.key, Nat.testBit 0x7fffffff7fffffff807ff8ff3fffffff0000000000402000000800000002000e000000000000000000000000000000000010000000000000000000000000000000028003c2000000004000000000000090040000000000000000000000000000000000000003517c24 (32 + x) = true := by decide
  have hreset (u : State) : (u.resetFields (u.funcOwned k)).blur 0x7fffffff7fffffff807ff8ff3fffffff0000000000402000000800000002000e000000000000000000000000000000000010000000000000000000000000000000028003c2000000004000000000000090040000000000000000000000000000000000000003517c24 = u.blur 0x7fffffff7fffffff807ff8ff3fffffff0000000000402000000800000002000e000000000000000000000000000000000010000000000000000000000000000000028003c2000000004000000000000090040000000000000000000000000000000000000003517c24 :=
    u.resetFields_blur_of _ fun slot h => hkeys _ (u.funcOwned_key k slot h)
  unfold State.funcReset
  repeat' first
    | with_reducible rfl
    | simp (disch := decide) only [State.blur_ite, ite_self, State.dmaStop_blur, State.wr_blur, State.queueReset_blur, State.acqReset_blur, State.tileStop_blur, State.seqStopped_blur, State.grpReset_blur, State.setSmu_blur, State.setAdc_blur, State.setPlay_blur, hreset, State.setLane_blur, State.applied_blur, State.smuModeSet_blur, State.qSync_blur]
    | with_reducible refine State.blur_when _ _ _ ?_
    | with_reducible refine State.blur_each _ _ _ (fun t n => ?_)
    | with_reducible refine State.blur_foldl _ _ _ (fun t n => ?_)
    | with_reducible refine (State.blur_when _ _ _ ?_).trans ?_
    | with_reducible refine (State.blur_each _ _ _ (fun t n => ?_)).trans ?_
    | with_reducible refine (State.blur_foldl _ _ _ (fun t n => ?_)).trans ?_

/-- A mode request whose word has SOFT_RESET clear is no SOFT reset. -/
theorem modeHook_request (rq : Req) (j v : Nat) (u : State) : modeHook rq j (putBits v 16 1 0) 15 u = (u.modeWrite (putBits v 16 1 0) 15, false) := by
  have h : R.DEV_MODE.SOFT_RESET.acts (putBits v 16 1 0) 15 = false := by
    rw [Fld.acts, show R.DEV_MODE.SOFT_RESET.part (putBits v 16 1 0) = 0 from bits_putBits_same v 16 1 0]
    rfl
  simp only [modeHook, h, Bool.false_eq_true, if_false]

/-- A mode request changes the parts and fields of its row. -/
theorem modeRequest_frames (s : State) (rq : Req) (v : Nat) : Out'.frames (writeRow rq .DEV_MODE 0 (putBits v 16 1 0) modeHook s) s 0x400000000000000000000000008000000000000000000e00000000000000000000000000000000000000000000000000000000000028003c20000009fc000000000000090040001d0800000000000000000000000000000000051182c := by
  refine writeRow_frames s (fun j u => ?_) (by decide)
  rw [modeHook_request]
  exact u.modeWrite_blur _ _ (by decide)

/-- Every register is in the list. -/
theorem mem_allRegs (r : Reg) : r ∈ allRegs := by
  cases r <;> decide

/-- A count of a register is in the list of counts. -/
theorem mem_countFields {r : Reg} {f : Fld} (hf : f ∈ r.fields) (hc : f.acc = .rc) : f ∈ countFields :=
  List.mem_filter.2 ⟨List.mem_flatMap.2 ⟨r, mem_allRegs r, hf⟩, by simp [hc]⟩

/-- The reading of counts leaves alone what the counts are not (R464). -/
theorem State.busClear_counts (s : State) (c : Option (Reg × Nat)) (v : Nat) {b : Nat} (hb : ∀ f ∈ countFields, b.testBit (32 + f.key % 1024) = true) :
    (s.busClear c v).blur b = s.blur b := by
  unfold State.busClear
  split
  · next r j =>
    have key : ∀ (l : List Fld) (u : State), (∀ f ∈ l, f ∈ countFields) → (l.foldl (fun s f => s.wr f j (s.rd f j - f.part v)) u).blur b = u.blur b := by
      intro l
      induction l with
      | nil => exact fun _ _ => rfl
      | cons f r ih => exact fun u h => (ih _ fun g hg => h g (List.mem_cons_of_mem _ hg)).trans (u.wr_blur f j _ (hb f (h f List.mem_cons_self)))
    exact key _ s fun f hf => mem_countFields (List.mem_filter.1 hf).1 (of_decide_eq_true (List.mem_filter.1 hf).2)
  · rfl

theorem countFields_keys : countFields.map Fld.key = [7, 8, 9, 49, 96, 191, 192, 208, 209, 210, 271, 272, 273, 274, 275, 276, 277, 287, 297, 298, 314, 368, 369, 370, 371, 390, 391, 392, 431, 432, 494, 495, 496, 497, 498, 499, 515, 516, 525, 602, 603, 604, 605, 733, 745, 778, 796, 806] := by decide

/-- A read by a host changes what reads have as effect, and the counts. -/
theorem State.hostRead_counts (s : State) (rq : Req) (off : Nat) (p : Reg → Bool) : (s.hostRead rq off p).blur 0x401000070000000380600000000000000000000000000000003c000000a000000000002018000ffc000000000000018000001fffe0000f00000000000004000600803f8000000000000007000180000000000000000000000100000000000200000000038010806444 = s.blur 0x401000070000000380600000000000000000000000000000003c000000a000000000002018000ffc000000000000018000001fffe0000f00000000000004000600803f8000000000000007000180000000000000000000000100000000000200000000038010806444 := by
  have hkeys : ∀ x ∈ countFields.map Fld.key, Nat.testBit 0x401000070000000380600000000000000000000000000000003c000000a000000000002018000ffc000000000000018000001fffe0000f00000000000004000600803f8000000000000007000180000000000000000000000100000000000200000000038010806444 (32 + x % 1024) = true := by
    rw [countFields_keys]
    decide
  unfold State.hostRead
  split
  · dsimp only
    split
    · rfl
    · exact (State.send_blur _ _ (by decide)).trans ((State.busClear_counts _ _ _ fun f hf => hkeys _ (List.mem_map_of_mem hf)).trans (s.busRead_blur rq off (by decide)))
  · rfl

/-- The job whose result is due comes with the edges of its lane brought up to it. -/
theorem State.compareDue_blur (s : State) (l : Nat) {w : State} {j : CmpJob} (h : s.compareDue l = some (w, j)) {b : Nat} (hb : b &&& 0x600000000000000000000000000000000000000000000000000000000000000000000000000000000000000000000000000000000000000000000000000000001e0000000000000000000000000000000000000000000000000100800 = 0x600000000000000000000000000000000000000000000000000000000000000000000000000000000000000000000000000000000000000000000000000000001e0000000000000000000000000000000000000000000000000100800) : w.blur b = s.blur b := by
  unfold State.compareDue at h
  dsimp only at h
  split at h
  · cases h
  · split at h
    · cases h
    · obtain ⟨k, -, hk⟩ := Option.map_eq_some_iff.1 h
      obtain ⟨rfl, -⟩ := Prod.mk.inj hk
      exact State.blur_when _ _ _ (s.laneFlush_blur _ _ hb)

/-- A command that sets the clock and keeps queue and fuses. -/
theorem clocked_frames (s u : State) (c : Clock) {b : Nat} (hb : b &&& 1 = 1) (h : u.blur b = s.blur b) : Out'.frames (.next { s.commit u with clock := c }) s b :=
  ⟨_, rfl, rfl, rfl, (State.blur_with_clock _ _ hb).trans (s.commit_blur u h)⟩

/-- What a command sent out before is no part of the state. -/
theorem frames_of_out {o : Out'} {s : State} {b : Nat} (h : Out'.frames o { s with out := [] } b) : Out'.frames o s b := h

theorem execAonReset_frames (s : State) : Out'.frames (execAonReset s) s 0xffffffffffffffffffffffffffffffffffffffffffffffffffffffffffffffffffffffffffffffffffffffffffffffffffffffffffffffffffffffffffffffffffffffffffffffffffffffffffffffffffffffffffffffffffffffffffffffffffffffffffffffffffffffffffffffffffffffffffffffffffffffffffffffffffffffff := by
  exact doneAll_frames s fun u => State.blur_all _ _

theorem execPorstAssert_frames (s : State) : Out'.frames (execPorstAssert s) s 0xffffffffffffffffffffffffffffffffffffffffffffffffffffffffffffffffffffffffffffffffffffffffffffffffffffffffffffffffffffffffffffffffffffffffffffffffffffffffffffffffffffffffffffffffffffffffffffffffffffffffffffffffffffffffffffffffffffffffffffffffffffffffffffffffffffffff := by
  exact doneAll_frames s fun u => State.blur_all _ _

theorem execPorstRelease_frames (straps : Nat) (s : State) : Out'.frames (execPorstRelease straps s) s 0x100040000000000ec := by
  unfold execPorstRelease
  refine doneAll_frames s fun u => ?_
  split
  · rfl
  · exact (State.release'_blur _ (by decide)).trans (u.blur_with_m _ (by decide))

theorem execFlashIdentify_frames (present : Bool) (id : Nat) (s : State) : Out'.frames (execFlashIdentify present id s) s 0x800000000000008000000000000000004 := by
  unfold execFlashIdentify
  refine done_frames s fun u => ?_
  simp (disch := decide) only [State.blur_ite, ite_self, State.send_blur, State.wr_blur, State.wb_blur]

theorem execSupplyOrderDeparture_frames (s : State) : Out'.frames (execSupplyOrderDeparture s) s 0x100000000c := by
  unfold execSupplyOrderDeparture
  refine done_frames s fun u => ?_
  simp (disch := decide) only [State.wr_blur, State.blur_with_m]

theorem execRailFail_frames (rail : Fin 8) (s : State) : Out'.frames (execRailFail rail s) s 0xffffffffffffffffffffffffffffffffffffffffffffffffffffffffffffffffffffffffffffffffffffffffffffffffffffffffffffffffffffffffffffffffffffffffffffffffffffffffffffffffffffffffffffffffffffffffffffffffffffffffffffffffffffffffffffffffffffffffffffffffffffffffffffffffffffffff := by
  exact doneAll_frames s fun u => State.blur_all _ _

theorem execSoftReset_frames (rq : Req) (w : Word) (s : State) : Out'.frames (execSoftReset rq w s) s 0xffffffffffffffffffffffffffffffffffffffffffffffffffffffffffffffffffffffffffffffffffffffffffffffffffffffffffffffffffffffffffffffffffffffffffffffffffffffffffffffffffffffffffffffffffffffffffffffffffffffffffffffffffffffffffffffffffffffffffffffffffffffffffffffffffffffff := by
  exact writeRow_frames s (fun _ _ => State.blur_all _ _) (by decide)

theorem execSoftResetComplete_frames (s : State) : Out'.frames (execSoftResetComplete s) s 0x200000000000000000000000000000000000000000000000000000000000000000000000000000000000000000000000000000000000000000000000000000000000000c08000000000002c := by
  unfold execSoftResetComplete
  refine done_frames s fun u => ?_
  simp (disch := decide) only [State.blur_ite, ite_self, State.setMode_blur, State.tryBoot_blur, State.blur_with_m]

theorem execFunctionLevelReset_frames (f : Fin 64) (s : State) : Out'.frames (execFunctionLevelReset f s) s 0x7fffffff7fffffff807ff8ff3fffffff0000000000402000000800000002000e000000000000000000000000000000000010000000000000000000000000000000028003c2000000004000000000000090040000000000000000000000000000000000000003517c24 := by
  unfold execFunctionLevelReset
  refine done_frames s fun u => ?_
  have hsags (l : List Nat) : ((u.each l State.funcReset).fnClear f.val).blur 0x7fffffff7fffffff807ff8ff3fffffff0000000000402000000800000002000e000000000000000000000000000000000010000000000000000000000000000000028003c2000000004000000000000090040000000000000000000000000000000000000003517c24 = u.blur 0x7fffffff7fffffff807ff8ff3fffffff0000000000402000000800000002000e000000000000000000000000000000000010000000000000000000000000000000028003c2000000004000000000000090040000000000000000000000000000000000000003517c24 :=
    (State.fnClear_blur _ _ (by decide)).trans (u.blur_each l _ fun t n => t.funcReset_fields n)
  dsimp only
  split
  · rfl
  · refine (State.blur_when _ _ _ ?_).trans (hsags _)
    exact (State.vfClear_blur _ _ (by decide)).trans (State.blur_each _ _ _ fun t n => t.fnClear_blur n (by decide))

theorem execHotReset_frames (link : Fin 4) (linkDown : Bool) (s : State) : Out'.frames (execHotReset link linkDown s) s 0x7fffffff7fffffff807ff8ff3fffffff0000000000402000000800000002000e000000000000000000000000000000000010000000000000000000000000000000028003c2000000004000000000000090040000000000000000000000000000000000000003517c24 := by
  unfold execHotReset
  refine done_frames s fun u => ?_
  have hlink : (((u.each (u.linkSaggars link.val) State.funcReset).each ((List.range 16).map (16 * link.val + ·)) State.fnClear).vfClear link.val).blur 0x7fffffff7fffffff807ff8ff3fffffff0000000000402000000800000002000e000000000000000000000000000000000010000000000000000000000000000000028003c2000000004000000000000090040000000000000000000000000000000000000003517c24 = u.blur 0x7fffffff7fffffff807ff8ff3fffffff0000000000402000000800000002000e000000000000000000000000000000000010000000000000000000000000000000028003c2000000004000000000000090040000000000000000000000000000000000000003517c24 :=
    (State.vfClear_blur _ _ (by decide)).trans ((State.blur_each _ _ _ fun t n => t.fnClear_blur n (by decide)).trans (u.blur_each _ _ fun t n => t.funcReset_fields n))
  dsimp only
  split
  · rfl
  split
  · exact (State.blur_with_host _ _ (by decide)).trans hlink
  · exact hlink

theorem execD3hotEntry_frames (f : Fin 64) (s : State) : Out'.frames (execD3hotEntry f s) s 0x168000000000000000000000000000000000000000000000000000000000000000000000000000000000000000000000000000000000000000000000000000000000000000000000000000000000000000000000000000000000000000000000000000000000000404 := by
  unfold execD3hotEntry
  refine done_frames s fun u => ?_
  repeat' first
    | with_reducible rfl
    | simp (disch := decide) only [State.blur_ite, State.dmaStop_blur]
    | with_reducible refine State.blur_each _ _ _ (fun t n => ?_)
    | with_reducible refine (State.blur_each _ _ _ (fun t n => ?_)).trans ?_
    | split

theorem execRefLost_frames (s : State) : Out'.frames (execRefLost s) s 0x400000000000000000000000008000000000000000000000000000000000000000000000000000000000000000000000000000000028003c200000000400000000000009004010000000000000000000000000000007c000000d1186c := by
  unfold execRefLost
  refine done_frames s fun u => ?_
  dsimp only
  repeat' first
    | with_reducible rfl
    | simp (disch := decide) only [State.blur_ite, State.wr_blur, State.live_blur, State.quals_blur, State.tdcUnref_blur, State.calRestart_blur, State.waitRef_blur, State.stopTiles_blur, State.blur_with_m]
    | with_reducible refine State.blur_when _ _ _ ?_
    | with_reducible refine (State.blur_when _ _ _ ?_).trans ?_
    | split

theorem execRefPresent_frames (s : State) : Out'.frames (execRefPresent s) s 0x7400000000006c := by
  unfold execRefPresent
  refine done_frames s fun u => ?_
  simp (disch := decide) only [State.blur_ite, ite_self, State.wr_blur, State.live_blur, State.quals_blur, State.relock_blur, State.blur_with_m]

theorem execRelockStart_frames (s : State) : Out'.frames (execRelockStart s) s 0x7000000000006c := by
  unfold execRelockStart
  refine done_frames s fun u => ?_
  simp (disch := decide) only [State.blur_ite, ite_self, State.relock_blur]

theorem execRelockDone_frames (s : State) : Out'.frames (execRelockDone s) s 0x77fffff80001007040000000000007007ffffe1000008000000020000000000000000000000000000000000000000ffffffff007ffffffffffff80000000000000000000000000000000000000001f700018000000107f0700000000000c09040000081b3ec := by
  unfold execRelockDone
  refine done_frames s fun u => ?_
  simp (disch := decide) only [State.blur_ite, ite_self, State.locked_blur]

theorem execPllLock_frames (s : State) : Out'.frames (execPllLock s) s 0x77fffff80001007040000000000007007ffffe1000008000000020000000000000000000000000000000000000000ffffffff007ffffffffffff80000000000000000000000000000000000000001f700018000000107f0700000002000c09040000081b3ed := by
  unfold execPllLock
  refine doneAll_frames s fun u => ?_
  simp (disch := decide) only [State.blur_ite, ite_self, State.wr_blur, State.locked_blur, State.blur_with_clock]

theorem execMouldStart_frames (rq : Req) (s : State) : Out'.frames (execMouldStart rq s) s 0x20000000000e000000000000000000000000000000000000000000000000000000000000000000000000000000000000000000000000000000000010000000000000000ff804000000000ac := by
  unfold execMouldStart
  refine writeRow_frames s (fun _ _ => ?_) (by decide)
  simp (disch := decide) only [mouldCtlHook_blur]

theorem execMouldAbort_frames (rq : Req) (s : State) : Out'.frames (execMouldAbort rq s) s 0x20000000000e000000000000000000000000000000000000000000000000000000000000000000000000000000000000000000000000000000000010000000000000000ff804000000000ac := by
  unfold execMouldAbort
  refine writeRow_frames s (fun _ _ => ?_) (by decide)
  simp (disch := decide) only [mouldCtlHook_blur]

theorem execImageReadDone_frames (ok : Bool) (bytes : List Byte) (s : State) : Out'.frames (execImageReadDone ok bytes s) s 0x77fffff8000100706040000000019f007ffffe3000008000000020001f8100000000000000000400003d200000000ffffffff007ffffffffffff8000000000000000000009fe00000000000000001f700019fc0000107ff700000004000ff83400001e1bbbc := by
  unfold execImageReadDone
  refine done_frames s fun u => ?_
  simp (disch := decide) only [State.imageRead_blur]

theorem execFuseProgram_frames (rq : Req) (slot : Fin 4) (s : State) : Out'.frames (execFuseProgram rq slot s) s 0xe000000000000000000000000000000000000000000000000000000000000000000000000000000000000000000000000000000140000000000000000000000000000000002c := by
  unfold execFuseProgram
  refine writeRow_frames s (fun _ _ => ?_) (by decide)
  simp (disch := decide) only [fuseHook_blur]

theorem execFuseRevoke_frames (rq : Req) (slot : Fin 4) (s : State) : Out'.frames (execFuseRevoke rq slot s) s 0xe000000000000000000000000000000000000000000000000000000000000000000000000000000000000000000000000000000140000000000000000000000000000000002c := by
  unfold execFuseRevoke
  refine writeRow_frames s (fun _ _ => ?_) (by decide)
  simp (disch := decide) only [fuseHook_blur]

theorem execModeReqService_frames (rq : Req) (w : Word) (s : State) : Out'.frames (execModeReqService rq w s) s 0x400000000000000000000000008000000000000000000e00000000000000000000000000000000000000000000000000000000000028003c20000009fc000000000000090040001d0800000000000000000000000000000000051182c := by
  exact modeRequest_frames s rq _

theorem execModeReqIdle_frames (rq : Req) (w : Word) (s : State) : Out'.frames (execModeReqIdle rq w s) s 0x400000000000000000000000008000000000000000000e00000000000000000000000000000000000000000000000000000000000028003c20000009fc000000000000090040001d0800000000000000000000000000000000051182c := by
  exact modeRequest_frames s rq _

theorem execModeReqRun_frames (rq : Req) (w : Word) (s : State) : Out'.frames (execModeReqRun rq w s) s 0x400000000000000000000000008000000000000000000e00000000000000000000000000000000000000000000000000000000000028003c20000009fc000000000000090040001d0800000000000000000000000000000000051182c := by
  exact modeRequest_frames s rq _

theorem execTransitionDone_frames (hard : List Nat) (s : State) : Out'.frames (execTransitionDone hard s) s 0x77fffff80001007040400000000007007ffffe1000008000000000000000600000000000000000000000000000000ffffffff007ffffffffffff8000000028003c20002089fc00000000000009005e26110c000000127f0600000000000000040000cf1bbac := by
  unfold execTransitionDone
  refine done_frames s fun u => ?_
  simp (disch := decide) only [State.transit_blur]

theorem execStartupStepDone_frames (failed : List Nat) (storeFails : List Nat) (hard : List Nat) (s : State) : Out'.frames (execStartupStepDone failed storeFails s hard) s 0x77fffff80001007040000000000007007ffffe1000008000000000000000000000000000000000000000000000000ffffffff007ffffffffffff80000000000000000020800000000000000000001ff00018000000167ff700000000000000040000da7bbac := by
  unfold execStartupStepDone
  refine done_frames s fun u => ?_
  simp (disch := decide) only [State.stepDone_blur]

theorem execDevStartGo_frames (rq : Req) (w : Word) (edge : Fin 2) (s : State) : Out'.frames (execDevStartGo rq w edge s) s 0x6000000000000000000000000080000000000000006e0e00000000000000000000000000000000000000000000000000000000000000417c20c00009fc0000001e000000000006e00000000000000000000000000000000000251082c := by
  unfold execDevStartGo
  refine writeRow_frames s (fun _ _ => ?_) (by decide)
  simp (disch := decide) only [devStartHook_blur]

theorem execArmedStart_frames (who : Fin 17) (edge : Fin 2) (s : State) : Out'.frames (execArmedStart who edge s) s 0x600000000000000000000000008000000000000000600000000000000000000000000000000000000000000000000000000000000000417c20c00009fc0000001e000000000006000000000000000000000000000000000000251082c := by
  unfold execArmedStart
  refine done_frames s fun u => ?_
  simp (disch := decide) only [State.blur_ite, ite_self, State.cancelStart_blur, State.launch_blur]

theorem execDevStartCancel_frames (rq : Req) (w : Word) (s : State) : Out'.frames (execDevStartCancel rq w s) s 0x6000000000000000000000000080000000000000006e0e00000000000000000000000000000000000000000000000000000000000000417c20c00009fc0000001e000000000006e00000000000000000000000000000000000251082c := by
  unfold execDevStartCancel
  refine writeRow_frames s (fun _ _ => ?_) (by decide)
  simp (disch := decide) only [devStartHook_blur]

theorem execSagStartGo_frames (rq : Req) (w : Word) (edge : Fin 2) (s : State) : Out'.frames (execSagStartGo rq w edge s) s 0x6000000000000000000000000080000000000000006e0e00000000000000000000000000000000000000000000000000000000000000417c20c00009fc0000001e000000000006e00000000000000000000000000000000000251082c := by
  unfold execSagStartGo
  refine writeRow_frames s (fun _ _ => ?_) (by decide)
  simp (disch := decide) only [sagStartHook_blur]

theorem execSagStartCancel_frames (rq : Req) (w : Word) (s : State) : Out'.frames (execSagStartCancel rq w s) s 0x6000000000000000000000000080000000000000006e0e00000000000000000000000000000000000000000000000000000000000000417c20c00009fc0000001e000000000006e00000000000000000000000000000000000251082c := by
  unfold execSagStartCancel
  refine writeRow_frames s (fun _ _ => ?_) (by decide)
  simp (disch := decide) only [sagStartHook_blur]

theorem execRegisterWrite_frames (rq : Req) (off : Nat) (w : Word) (be : Fin 16) (s : State) : Out'.frames (execRegisterWrite rq off w be s) s 0xffffffffffffffffffffffffffffffffffffffffffffffffffffffffffffffffffffffffffffffffffffffffffffffffffffffffffffffffffffffffffffffffffffffffffffffffffffffffffffffffffffffffffffffffffffffffffffffffffffffffffffffffffffffffffffffffffffffffffffffffffffffffffffffffffffffff := by
  exact done_frames s fun u => State.blur_all _ _

theorem execBadSizeRequest_frames (f : Fin 64) (write : Bool) (off : Nat) (s : State) : Out'.frames (execBadSizeRequest f write off s) s 0x1e0000000000000000000000000000000000000000000000000000000000000000000000000000000000000000000000000000000000000000000000000000000000000000404 := by
  unfold execBadSizeRequest
  refine done_frames s fun u => ?_
  simp (disch := decide) only [State.blur_ite, ite_self, State.hostErr_blur, State.refuse_blur, State.aer_blur, State.send_blur]

theorem execUnsupportedRequest_frames (f : Fin 64) (s : State) : Out'.frames (execUnsupportedRequest f s) s 0x400000000000000000000000000000000000000000000000000000000000000000000000000000000000000000000000000000000000000000000000000000000000000000404 := by
  unfold execUnsupportedRequest
  refine done_frames s fun u => ?_
  simp (disch := decide) only [State.blur_ite, ite_self, State.hostErr_blur, State.aer_blur]

theorem execPoisonedTlpReceived_frames (f : Fin 64) (bar2 : Bool) (off : Nat) (s : State) : Out'.frames (execPoisonedTlpReceived f bar2 off s) s 0x2e0000000000000000000000000000000000000000000000000000000000000000000000000000000000000000000000000000000000000000000000000000000000000000404 := by
  unfold execPoisonedTlpReceived
  refine done_frames s fun u => ?_
  simp (disch := decide) only [State.blur_ite, ite_self, State.hostErr_blur, State.aer_blur, State.refuse_blur]

theorem execRcRead_frames (rq : Req) (off : Nat) (s : State) : Out'.frames (execRcRead rq off s) s 0x401000070000000380600000000000000000000000000000003c000000a000000000002018000ffc000000000000018000001fffe0000f00000000000004000600803f8000000000000007000180000000000000000000000100000000000200000000038010806444 := by
  exact done_frames s fun u => u.hostRead_counts rq off _

theorem execRsnLowRead_frames (rq : Req) (off : Nat) (s : State) : Out'.frames (execRsnLowRead rq off s) s 0x401000070000000380600000000000000000000000000000003c000000a000000000002018000ffc000000000000018000001fffe0000f00000000000004000600803f8000000000000007000180000000000000000000000100000000000200000000038010806444 := by
  exact done_frames s fun u => u.hostRead_counts rq off _

theorem execDrvTripClear_frames (rq : Req) (l : Fin 1024) (w : Word) (s : State) : Out'.frames (execDrvTripClear rq l w s) s 0x780000000000000000000000000000000000000000000e0000000000000000000000000000000000000000000000000000000000000000000000000000000000000000000000000000000000000000000000000000000000000000804 := by
  unfold execDrvTripClear
  refine writeRow_frames s (fun _ _ => ?_) (by decide)
  simp (disch := decide) only [laneStatusHook_blur]

theorem execDriverTrip_frames (l : Fin 1024) (s : State) : Out'.frames (execDriverTrip l s) s 0x48000000000000000000000000000000000000000000000000000000000000000000000000000000000000000000000000000000000000000000000000000000000000000000000000000000000000000000000000000000000000824 := by
  unfold execDriverTrip
  refine done_frames s fun u => ?_
  simp (disch := decide) only [State.blur_ite, ite_self, State.setLane_blur, State.laneFault_blur, State.blockedCheck_blur]

theorem execComparatorChange_frames (l : Fin 1024) (ball : Int) (s : State) : Out'.frames (execComparatorChange l ball s) s 0x400000000000000000000000000000000000000000000000000000000000000000000000000000000000000000000000000000000000000000000000000000000000000000000000000000000000000000000000000000000000824 := by
  unfold execComparatorChange
  refine done_frames s fun u => ?_
  simp (disch := decide) only [State.setLane_blur, State.laneSample_blur]

theorem execClampHit_frames (l : Fin 1024) (s : State) : Out'.frames (execClampHit l s) s 0x10000000000000000000000000000000000000000000000000000000000000000000000000000000000000000000000000000000000000000000000000000000000000000000000000000000000000000000000000000000000000024 := by
  unfold execClampHit
  refine done_frames s fun u => ?_
  simp (disch := decide) only [State.blur_ite, ite_self, State.laneFault_blur]

theorem execLaneSwapReq_frames (rq : Req) (l : Fin 1024) (w : Word) (s : State) : Out'.frames (execLaneSwapReq rq l w s) s 0xe0000000000000000000000000000000000000000000000000000000000000000000000000000000000000000000040000000000000000000000000000000000000000100804 := by
  unfold execLaneSwapReq
  refine writeRow_frames s (fun _ _ => ?_) (by decide)
  simp (disch := decide) only [laneFeHook_blur]

theorem execHandoverStart_frames (l : Fin 1024) (s : State) : Out'.frames (execHandoverStart l s) s 0x10000000000000000000000000000000000000000000804 := by
  unfold execHandoverStart
  refine done_frames s fun u => ?_
  dsimp only
  repeat' first
    | with_reducible rfl
    | simp (disch := decide) only [State.blur_ite, ite_self, State.setLane_blur, State.wr_blur]
    | split

theorem execHandoverDone_frames (l : Fin 1024) (s : State) : Out'.frames (execHandoverDone l s) s 0x10000000000000000000000000000000000000000000000000000000000000000000000000000000000000000000000000000000000000000000009e200000000000105f06000000000000000400000010ba4 := by
  unfold execHandoverDone
  refine done_frames s fun u => ?_
  dsimp only
  repeat' first
    | with_reducible rfl
    | simp (disch := decide) only [State.feSwap_blur, State.wr_blur, State.bump_blur, State.setLane_blur, State.unwait_blur, State.retireFe_blur, State.spareSync_blur, State.calNext_blur]
    | split

theorem execPpmuConnectWrite_frames (rq : Req) (l : Fin 1024) (w : Word) (s : State) : Out'.frames (execPpmuConnectWrite rq l w s) s 0x2004001c0000000000000000000008000000000000000000e0000000000000000000000000000000000000000000000000000000000000000000000000000000000000000090040000000000000000000000000000000000000000111804 := by
  unfold execPpmuConnectWrite
  refine writeRow_frames s (fun _ _ => ?_) (by decide)
  simp (disch := decide) only [ppmuHook_blur]

theorem execPpmuCompliance_frames (l : Fin 1024) (on : Bool) (s : State) : Out'.frames (execPpmuCompliance l on s) s 0x1800000000000000000000000000000000000000000000000000000000000000000000000000000000000000000000000000000000000000000000000000000000000000000000000000000000000000000000000000000000000000000024 := by
  unfold execPpmuCompliance
  refine done_frames s fun u => ?_
  simp (disch := decide) only [State.blur_ite, ite_self, State.wr_blur, State.raise_blur]

theorem execDacTick_frames (s : State) : Out'.frames (execDacTick s) s 0x800000000000000000000000000000000000000000000000000000000000000000018020000000000000000000000000000000000000000000000000000000000000000000000000000000000039004 := by
  unfold execDacTick
  refine done_frames s fun u => ?_
  dsimp only
  repeat' first
    | with_reducible rfl
    | simp (disch := decide) only [State.blur_ite, ite_self, State.setDac_blur, State.dpsTick_blur, State.clampStart_blur, State.trigger_blur, State.slewStep_blur]
    | with_reducible refine State.blur_each _ _ _ (fun t n => ?_)
    | with_reducible refine (State.blur_each _ _ _ (fun t n => ?_)).trans ?_

theorem execDischargeClampEnd_frames (dac : Nat) (s : State) : Out'.frames (execDischargeClampEnd dac s) s 0x1000 := by
  unfold execDischargeClampEnd
  refine done_frames s fun u => ?_
  simp (disch := decide) only [State.blur_ite, ite_self, State.setDac_blur]

theorem execUpdateAllGo_frames (rq : Req) (o : Fin 128) (w : Word) (s : State) : Out'.frames (execUpdateAllGo rq o w s) s 0x8000000000000000000e0000000000000000000000000000000000000000000000000000000000000000000000000000000000000000000000000000000000000000000000000000000000000011004 := by
  unfold execUpdateAllGo
  refine writeRow_frames s (fun _ _ => ?_) (by decide)
  simp (disch := decide) only [octUpdateHook_blur]

theorem execTsCommit_frames (rq : Req) (t : Fin 16) (w : Word) (s : State) : Out'.frames (execTsCommit rq t w s) s 0xe0000000000000000000000000000000000000000000000000000000000000000000000000000000000000cfe000000000000000000000000000000000000000000000100004 := by
  unfold execTsCommit
  refine writeRow_frames s (fun _ _ => ?_) (by decide)
  simp (disch := decide) only [tsCommitHook_blur]

theorem execTsCommitDone_frames (t : Fin 16) (s : State) : Out'.frames (execTsCommitDone t s) s 0x3800000000000000000000000000000000000000000000000100024 := by
  unfold execTsCommitDone
  refine done_frames s fun u => ?_
  dsimp only
  repeat' first
    | with_reducible rfl
    | simp (disch := decide) only [State.blur_ite, State.wr_blur, State.setPlay_blur, State.raise_blur]
    | with_reducible refine State.blur_when _ _ _ ?_
    | with_reducible refine (State.blur_when _ _ _ ?_).trans ?_
    | with_reducible refine State.blur_foldl _ _ _ (fun t n => ?_)
    | with_reducible refine (State.blur_foldl _ _ _ (fun t n => ?_)).trans ?_
    | split

theorem execTsFetch_frames (rq : Req) (t : Fin 16) (w : Word) (s : State) : Out'.frames (execTsFetch rq t w s) s 0xe0000000000000000000000000000000000000000000000000000000000000000000000000000000000000cfe000000000000000000000000000000000000000000000100004 := by
  unfold execTsFetch
  refine writeRow_frames s (fun _ _ => ?_) (by decide)
  simp (disch := decide) only [tsCommitHook_blur]

theorem execNcoFtwCommit_frames (rq : Req) (t : Fin 16) (k : Fin 8) (w : Word) (s : State) : Out'.frames (execNcoFtwCommit rq t k w s) s 0xe0000000000000000000000000000000000000000000000000000000000000000000000000000000000600000000000000000000000000000000000000000000000000100004 := by
  unfold execNcoFtwCommit
  refine writeRow_frames s (fun _ _ => ?_) (by decide)
  simp (disch := decide) only [ncoHiHook_blur]

theorem execVectorRead_frames (t : Fin 16) (s : State) : Out'.frames (execVectorRead t s) s 0x80000000038000006040000000000080000000000080000000000000000000000000000000000000000000000000001f800070000000006000008000062bebfe20c00000043af0001f0000090040000000000000120006000000000000000400003d13ba4 := by
  unfold execVectorRead
  refine done_frames s fun u => ?_
  dsimp only
  repeat' first
    | with_reducible rfl
    | simp (disch := decide) only [State.blur_ite, State.tileStop_blur, State.groupStop_blur, State.abortStop_blur, State.recheck_blur, State.nextRead_blur, State.segSync_blur, State.segVector_blur, State.fillVector_blur]
    | split

theorem execSuccessorStart_frames (t : Fin 16) (s : State) : Out'.frames (execSuccessorStart t s) s 0x413c20c0000000000000000000000000000000000000000000000000000000000000000100024 := by
  unfold execSuccessorStart
  refine done_frames s fun u => ?_
  simp (disch := decide) only [State.blur_ite, ite_self, State.recheck_blur, State.setPlay_blur, State.segSync_blur]

theorem execTileIdleReturn_frames (t : Fin 16) (s : State) : Out'.frames (execTileIdleReturn t s) s 0x600000000000000000000000000000000000000000000000000000000000000000000000000000000000000000000000000000000000000000000000000000001e0000000000000000000000000000000000000000000000002100804 := by
  unfold execTileIdleReturn
  refine done_frames s fun u => ?_
  simp (disch := decide) only [State.blur_ite, ite_self, State.idleReturn_blur]

theorem execCompareResult_frames (l : Fin 1024) (h : Nat) (lo : Nat) (v2 : Nat) (s : State) : Out'.frames (execCompareResult l h lo v2 s) s 0x600000000000000000000000000000000000000000000000000000000000000000000000000000000000000000000000007f40400980000000000000000000001e0000000000000000000000000000000000000000000000000100824 := by
  unfold execCompareResult
  refine done_frames s fun u => ?_
  dsimp only
  split
  · rfl
  · next w j hw =>
    have hdue := u.compareDue_blur l.val hw (b := 0x600000000000000000000000000000000000000000000000000000000000000000000000000000000000000000000000007f40400980000000000000000000001e0000000000000000000000000000000000000000000000000100824) (by decide)
    split
    · exact (State.setLane_blur _ _ _ (by decide)).trans hdue
    · refine (State.vecsDone_blur _ _ (by decide)).trans ((State.result_blur _ _ _ _ _ _ (by decide)).trans ?_)
      exact (State.setLane_blur _ _ _ (by decide)).trans hdue

theorem execFailRecordForm_frames (t : Fin 16) (s : State) : Out'.frames (execFailRecordForm t s) s 0x28800000000000000000000000000000000000000000000000000000000000000000000000000100024 := by
  unfold execFailRecordForm
  refine done_frames s fun u => ?_
  dsimp only
  repeat' first
    | with_reducible rfl
    | simp (disch := decide) only [State.blur_ite, State.modVec_blur, State.vecsDone_blur, State.logRecord_blur]
    | with_reducible refine State.blur_foldl _ _ _ (fun t n => ?_)
    | with_reducible refine (State.blur_foldl _ _ _ (fun t n => ?_)).trans ?_
    | split

theorem execFailLogWrite_frames (t : Fin 16) (s : State) : Out'.frames (execFailLogWrite t s) s 0x400000000000000000000000000000000000000000000000012000600000000000000040000e1003a4 := by
  unfold execFailLogWrite
  refine done_frames s fun u => ?_
  dsimp only
  repeat' first
    | with_reducible rfl
    | simp (disch := decide) only [State.setPlay_blur, State.capPut_blur, State.wr_blur, State.acqFlush_blur]
    | with_reducible refine State.blur_each _ _ _ (fun t n => ?_)
    | with_reducible refine (State.blur_each _ _ _ (fun t n => ?_)).trans ?_
    | split

theorem execClearAll_frames (rq : Req) (t : Fin 16) (s : State) : Out'.frames (execClearAll rq t s) s 0xe00000000000000000000000000000000000000000000000000007fc040088000000000000000000000000000000000000000000000000000000000000000000000000100004 := by
  unfold execClearAll
  refine writeRow_frames s (fun _ _ => ?_) (by decide)
  simp (disch := decide) only [cmpCtlHook_blur]

theorem execClearFail_frames (rq : Req) (t : Fin 16) (slot : Fin 64) (w : Word) (s : State) : Out'.frames (execClearFail rq t slot w s) s 0xe00000000000000000000000000000000000000000000000000003fc380000000000000000000000000000000000000000000000000000000000000000000000000000100004 := by
  unfold execClearFail
  refine writeRow_frames s (fun _ _ => ?_) (by decide)
  simp (disch := decide) only [siteCtlHook_blur]

theorem execClearTb_frames (rq : Req) (t : Fin 16) (slot : Fin 64) (w : Word) (s : State) : Out'.frames (execClearTb rq t slot w s) s 0xe00000000000000000000000000000000000000000000000000003fc380000000000000000000000000000000000000000000000000000000000000000000000000000100004 := by
  unfold execClearTb
  refine writeRow_frames s (fun _ _ => ?_) (by decide)
  simp (disch := decide) only [siteCtlHook_blur]

theorem execLogArm_frames (rq : Req) (t : Fin 16) (w : Word) (s : State) : Out'.frames (execLogArm rq t w s) s 0xe000000000000000000000000000000000000000000000000000000001c900000000000000000000000000000000000000000000000000000000000000000000000000100004 := by
  unfold execLogArm
  refine writeRow_frames s (fun _ _ => ?_) (by decide)
  simp (disch := decide) only [logCtlHook_blur]

theorem execLogDisarm_frames (rq : Req) (t : Fin 16) (w : Word) (s : State) : Out'.frames (execLogDisarm rq t w s) s 0xe000000000000000000000000000000000000000000000000000000001c900000000000000000000000000000000000000000000000000000000000000000000000000100004 := by
  unfold execLogDisarm
  refine writeRow_frames s (fun _ _ => ?_) (by decide)
  simp (disch := decide) only [logCtlHook_blur]

theorem execLogAreaWrite_frames (rq : Req) (t : Fin 16) (w : Word) (s : State) : Out'.frames (execLogAreaWrite rq t w s) s 0xe0000000000000000000000000000000000000000000000000000000013000000000000000000000000000000000000000000000000000000000000000000000000000000004 := by
  unfold execLogAreaWrite
  refine writeRow_frames s (fun _ _ => ?_) (by decide)
  simp (disch := decide) only [logAreaHook_blur]

theorem execBar2VectorWrite_frames (rq : Req) (off : Nat) (bytes : List Byte) (s : State) : Out'.frames (execBar2VectorWrite rq off bytes s) s 0xe000000000000000000000000000000000000000000000000000000000000000000000000000039000000000000000000000000000012000600000000000000040000c2007a4 := by
  unfold execBar2VectorWrite
  refine done_frames s fun u => ?_
  simp (disch := decide) only [State.blur_ite, ite_self, State.bar2Write_blur]

theorem execBar2CaptureWrite_frames (rq : Req) (off : Nat) (bytes : List Byte) (s : State) : Out'.frames (execBar2CaptureWrite rq off bytes s) s 0xe000000000000000000000000000000000000000000000000000000000000000000000000000039000000000000000000000000000012000600000000000000040000c2007a4 := by
  unfold execBar2CaptureWrite
  refine done_frames s fun u => ?_
  simp (disch := decide) only [State.blur_ite, ite_self, State.bar2Write_blur]

theorem execBar2Read_frames (rq : Req) (off : Nat) (len : Nat) (s : State) : Out'.frames (execBar2Read rq off len s) s 0x10000000000000000000000000000000000000000000000000000000000000000000000000000003800000000000000000000000000001200060000000000000004000000007a4 := by
  have hecc (u : State) (e : Nat) {ue : State → State} (h : ∀ v, (ue v).blur 0x10000000000000000000000000000000000000000000000000000000000000000000000000000003800000000000000000000000000001200060000000000000004000000007a4 = v.blur 0x10000000000000000000000000000000000000000000000000000000000000000000000000000003800000000000000000000000000001200060000000000000004000000007a4) : (u.readEcc rq e ue).blur 0x10000000000000000000000000000000000000000000000000000000000000000000000000000003800000000000000000000000000001200060000000000000004000000007a4 = u.blur 0x10000000000000000000000000000000000000000000000000000000000000000000000000000003800000000000000000000000000001200060000000000000004000000007a4 := by
    unfold State.readEcc
    split
    · split
      · exact u.aer_blur _ _ (by decide)
      split
      · exact (h _).trans ((State.wr_blur _ _ _ _ (by decide)).trans (u.aer_blur _ _ (by decide)))
      · rfl
    · rfl
  unfold execBar2Read
  refine done_frames s fun u => ?_
  dsimp only
  split
  · rfl
  split
  · refine (State.send_blur _ _ (by decide)).trans ((State.blur_foldl _ _ _ fun t w => hecc t _ fun v => v.sliceUe_blur _ _ _ _ (by decide)).trans ?_)
    have key : ∀ (l : List Nat) (d : List Nat × State), d.2.blur 0x10000000000000000000000000000000000000000000000000000000000000000000000000000003800000000000000000000000000001200060000000000000004000000007a4 = u.blur 0x10000000000000000000000000000000000000000000000000000000000000000000000000000003800000000000000000000000000001200060000000000000004000000007a4 →
        (l.foldl (fun d j => match u.legacyWin rq (off + j) with
          | none => (d.1 ++ [0], d.2)
          | some p => if (off + j) % 0x4000000 < 0x100000 then (d.1 ++ [(d.2.draw 1).1 % 256], (d.2.draw 1).2) else (d.1 ++ [u.legacyByte p ((off + j) % 0x4000000)], d.2)) d).2.blur 0x10000000000000000000000000000000000000000000000000000000000000000000000000000003800000000000000000000000000001200060000000000000004000000007a4 = u.blur 0x10000000000000000000000000000000000000000000000000000000000000000000000000000003800000000000000000000000000001200060000000000000004000000007a4 := by
      intro l
      induction l with
      | nil => exact fun _ h => h
      | cons j r ih =>
        refine fun d h => ih _ ?_
        dsimp only
        split
        · exact h
        split
        · exact (d.2.draw_blur 1 (by decide)).trans h
        · exact h
    exact key _ _ rfl
  · refine (State.send_blur _ _ (by decide)).trans (State.blur_each _ _ _ fun t w => hecc t _ fun v => ?_)
    split
    · exact v.sliceUe_blur _ _ _ _ (by decide)
    · exact v.storeUe_blur _ _ _ _ (by decide)

theorem execCtlwDataWrite_frames (rq : Req) (t : Fin 16) (w : Word) (be : Fin 16) (s : State) : Out'.frames (execCtlwDataWrite rq t w be s) s 0xe0000000000000000000000000000000000000000000000000000000000000000000000000000040200000000000000000000000000000000000000000000000000000200004 := by
  unfold execCtlwDataWrite
  exact done_frames s fun u => u.hostAct_blur _ _ _ _ (fun j => ctlwDataHook_blur _ _ _ _ _ (by decide)) (by decide)

theorem execStoreCfgWrite_frames (rq : Req) (t : Fin 16) (w : Word) (s : State) : Out'.frames (execStoreCfgWrite rq t w s) s 0xe00000000000000000000000000000000000000000000000000000000000008000000c0008000000078000000000000000000000000000000000000000000000000000100024 := by
  unfold execStoreCfgWrite
  refine writeRow_frames s (fun _ _ => ?_) (by decide)
  simp (disch := decide) only [storeCfgHook_blur]

theorem execScrubRow_frames (t : Fin 16) (s : State) : Out'.frames (execScrubRow t s) s 0x38b0000000000000000000000000001200060000000000000004000002003a4 := by
  unfold execScrubRow
  refine done_frames s fun u => ?_
  dsimp only
  repeat' first
    | with_reducible rfl
    | simp (disch := decide) only [State.blur_ite, State.setStore_blur, State.bump_blur, State.wr_blur, State.sliceUe_blur, State.raise_blur, State.markRow_blur]
    | with_reducible refine State.blur_when _ _ _ ?_
    | with_reducible refine (State.blur_when _ _ _ ?_).trans ?_
    | with_reducible refine State.blur_each _ _ _ (fun t n => ?_)
    | with_reducible refine (State.blur_each _ _ _ (fun t n => ?_)).trans ?_
    | with_reducible refine State.blur_foldl _ _ _ (fun t n => ?_)
    | with_reducible refine (State.blur_foldl _ _ _ (fun t n => ?_)).trans ?_
    | split

theorem execStoreWindowWrite_frames (rq : Req) (off : Nat) (w : Word) (s : State) : Out'.frames (execStoreWindowWrite rq off w s) s 0xe0000000000000000000000000000000000000000000000000000000000000000000000208000000000000000000000000000000000000000000000000000000000000200004 := by
  unfold execStoreWindowWrite
  refine done_frames s fun u => ?_
  simp (disch := decide) only [State.blur_ite, ite_self, State.windowWrite_blur]

theorem execStep_frames (q : Fin 17) (s : State) : Out'.frames (execStep q s) s 0x38000004000000000000080000000000080000002000000000000000000000000000000000000000000001f8000700000000000000000000028003c2000d009fc000000000000090040001108000000100000000000000000000400003d138ac := by
  unfold execStep
  refine done_frames s fun u => ?_
  dsimp only
  repeat' first
    | with_reducible rfl
    | simp (disch := decide) only [State.setSeq_blur]
    | with_reducible refine State.execMicro_blur _ _ _ _ (by decide) (fun u pc w => ?_)
    | with_reducible refine State.blur_when _ _ _ ?_

theorem execJump_frames (q : Fin 17) (s : State) : Out'.frames (execJump q s) s 0x38000004000000000000080000000000080000002000000000000000000000000000000000000000000001f8000700000000000000000000028003c2000d009fc000000000000090040001108000000100000000000000000000400003d138ac := by
  unfold execJump
  refine done_frames s fun u => ?_
  repeat' first
    | with_reducible rfl
    | simp (disch := decide) only []
    | with_reducible refine State.execMicro_blur _ _ _ _ (by decide) (fun u pc w => ?_)

theorem execBranch_frames (q : Fin 17) (s : State) : Out'.frames (execBranch q s) s 0x38000004000000000000080000000000080000002000000000000000000000000000000000000000000001f8000700000000000000000000028003c2000d009fc000000000000090040001108000000100000000000000000000400003d138ac := by
  unfold execBranch
  refine done_frames s fun u => ?_
  dsimp only
  repeat' first
    | with_reducible rfl
    | simp (disch := decide) only [State.blur_ite_fst, ite_self, State.parityCheck_blur, State.machineCheck_blur]
    | with_reducible refine State.execMicro_blur _ _ _ _ (by decide) (fun u pc w => ?_)

theorem execLoop_frames (q : Fin 17) (s : State) : Out'.frames (execLoop q s) s 0x38000004000000000000080000000000080000002000000000000000000000000000000000000000000001f8000700000000000000000000028003c2000d009fc000000000000090040001108000000100000000000000000000400003d138ac := by
  unfold execLoop
  refine done_frames s fun u => ?_
  dsimp only
  repeat' first
    | with_reducible rfl
    | simp (disch := decide) only [State.blur_ite_fst, ite_self, State.wr_blur]
    | with_reducible refine State.execMicro_blur _ _ _ _ (by decide) (fun u pc w => ?_)

theorem execCntLoadImm_frames (q : Fin 17) (s : State) : Out'.frames (execCntLoadImm q s) s 0x38000004000000000000080000000000080000002000000000000000000000000000000000000000000001f8000700000000000000000000028003c2000d009fc000000000000090040001108000000100000000000000000000400003d138ac := by
  unfold execCntLoadImm
  refine done_frames s fun u => ?_
  repeat' first
    | with_reducible rfl
    | simp (disch := decide) only [State.wr_blur]
    | with_reducible refine State.execMicro_blur _ _ _ _ (by decide) (fun u pc w => ?_)

theorem execCntLoadCinit_frames (q : Fin 17) (s : State) : Out'.frames (execCntLoadCinit q s) s 0x38000004000000000000080000000000080000002000000000000000000000000000000000000000000001f8000700000000000000000000028003c2000d009fc000000000000090040001108000000100000000000000000000400003d138ac := by
  unfold execCntLoadCinit
  refine done_frames s fun u => ?_
  repeat' first
    | with_reducible rfl
    | simp (disch := decide) only [State.wr_blur]
    | with_reducible refine State.execMicro_blur _ _ _ _ (by decide) (fun u pc w => ?_)

theorem execCntIncrement_frames (q : Fin 17) (s : State) : Out'.frames (execCntIncrement q s) s 0x38000004000000000000080000000000080000002000000000000000000000000000000000000000000001f8000700000000000000000000028003c2000d009fc000000000000090040001108000000100000000000000000000400003d138ac := by
  unfold execCntIncrement
  refine done_frames s fun u => ?_
  repeat' first
    | with_reducible rfl
    | simp (disch := decide) only [State.bump_blur]
    | with_reducible refine State.execMicro_blur _ _ _ _ (by decide) (fun u pc w => ?_)

theorem execCntDecrement_frames (q : Fin 17) (s : State) : Out'.frames (execCntDecrement q s) s 0x38000004000000000000080000000000080000002000000000000000000000000000000000000000000001f8000700000000000000000000028003c2000d009fc000000000000090040001108000000100000000000000000000400003d138ac := by
  unfold execCntDecrement
  refine done_frames s fun u => ?_
  repeat' first
    | with_reducible rfl
    | simp (disch := decide) only [State.wr_blur]
    | with_reducible refine State.execMicro_blur _ _ _ _ (by decide) (fun u pc w => ?_)

theorem execCntSnapshot_frames (q : Fin 17) (s : State) : Out'.frames (execCntSnapshot q s) s 0x38000004000000000000180000000000080000002000000000000000000000000000000000000000000001f8000700000000000000000000028003c2000d009fc000000000000090040001108000000100000000000000000000400003d138ac := by
  unfold execCntSnapshot
  refine done_frames s fun u => ?_
  repeat' first
    | with_reducible rfl
    | simp (disch := decide) only [State.wr_blur]
    | with_reducible refine State.execMicro_blur _ _ _ _ (by decide) (fun u pc w => ?_)

theorem execPlay_frames (t : Fin 16) (s : State) : Out'.frames (execPlay t s) s 0x38000004000000000000080000000000080000002000000000000000000000000000000000000000000001f8000700000000000000000000028413c20c0d009fc000000000000090040001108000000100000000000000000000400003d138ac := by
  unfold execPlay
  refine done_frames s fun u => ?_
  repeat' first
    | with_reducible rfl
    | simp (disch := decide) only [State.blur_ite_fst, ite_self, State.enqueue_blur]
    | with_reducible refine State.execMicro_blur _ _ _ _ (by decide) (fun u pc w => ?_)

theorem execWait_frames (q : Fin 17) (s : State) : Out'.frames (execWait q s) s 0x38000004000000000000080000000000080000002000000000000000000000000000000000000000000001f8000700000000000000000000028003c2000d009fc000000000000090040001108000000100000000000000000000400003d138ac := by
  unfold execWait
  refine done_frames s fun u => ?_
  dsimp only
  repeat' first
    | with_reducible rfl
    | simp (disch := decide) only [State.setSeq_blur, State.wr_blur]
    | with_reducible refine State.execMicro_blur _ _ _ _ (by decide) (fun u pc w => ?_)

theorem execWaitConditionMet_frames (q : Fin 17) (s : State) : Out'.frames (execWaitConditionMet q s) s 0x4000000000000000000000000000000000000000000000000000000000400004 := by
  unfold execWaitConditionMet
  refine done_frames s fun u => ?_
  repeat' first
    | with_reducible rfl
    | simp (disch := decide) only [State.blur_ite, ite_self, State.waitEnd_blur]
    | split

theorem execWaitTimeout_frames (q : Fin 17) (s : State) : Out'.frames (execWaitTimeout q s) s 0x4000000000000000000000000000000000000000000000000000000000400004 := by
  unfold execWaitTimeout
  refine done_frames s fun u => ?_
  repeat' first
    | with_reducible rfl
    | simp (disch := decide) only [State.blur_ite, ite_self, State.waitEnd_blur]
    | split

theorem execWaitWake_frames (q : Fin 17) (s : State) : Out'.frames (execWaitWake q s) s 0x4000000000000000000000000000000000000000000000000000000000400004 := by
  unfold execWaitWake
  refine done_frames s fun u => ?_
  repeat' first
    | with_reducible rfl
    | simp (disch := decide) only [State.blur_ite, ite_self, State.waitEnd_blur]
    | split

theorem execSetLset_frames (t : Fin 16) (s : State) : Out'.frames (execSetLset t s) s 0x38000004000000000000080000000000080000002000000000000000000000000000000000000000000001f8000700000000000000000000028003c2000d009fc000000000000090040001108000000100000000000000000000400003d138ac := by
  unfold execSetLset
  refine done_frames s fun u => ?_
  dsimp only
  repeat' first
    | with_reducible rfl
    | simp (disch := decide) only [State.blur_ite, ite_self, State.setPlay_blur, State.setLevels_blur]
    | with_reducible refine State.execMicro_blur _ _ _ _ (by decide) (fun u pc w => ?_)

theorem execUpdateAll_frames (t : Fin 16) (s : State) : Out'.frames (execUpdateAll t s) s 0x38000004000000000000080000000000080000002000000000000000000000000000000000000000000001f8000700000000000000000000028003c2000d009fc000000000000090040001108000000100000000000000000000400003d138ac := by
  unfold execUpdateAll
  refine done_frames s fun u => ?_
  repeat' first
    | with_reducible rfl
    | simp (disch := decide) only [State.trigger_blur]
    | with_reducible refine State.execMicro_blur _ _ _ _ (by decide) (fun u pc w => ?_)
    | with_reducible refine State.blur_each _ _ _ (fun t n => ?_)

theorem execMeasureOpen_frames (t : Fin 16) (s : State) : Out'.frames (execMeasureOpen t s) s 0x280000000000038000004000000000000080000000000080000002000000000000000000000000000000000000000000001f8000700000000000000000000028003c2000d00bfc000000000000090040001108000000120006000000000000000400003d13bac := by
  unfold execMeasureOpen
  refine done_frames s fun u => ?_
  repeat' first
    | with_reducible rfl
    | simp (disch := decide) only [State.measureWord_blur]
    | with_reducible refine State.execMicro_blur _ _ _ _ (by decide) (fun u pc w => ?_)

theorem execMeasureClose_frames (t : Fin 16) (s : State) : Out'.frames (execMeasureClose t s) s 0x280000000000038000004000000000000080000000000080000002000000000000000000000000000000000000000000001f8000700000000000000000000028003c2000d00bfc000000000000090040001108000000120006000000000000000400003d13bac := by
  unfold execMeasureClose
  refine done_frames s fun u => ?_
  repeat' first
    | with_reducible rfl
    | simp (disch := decide) only [State.measureWord_blur]
    | with_reducible refine State.execMicro_blur _ _ _ _ (by decide) (fun u pc w => ?_)

theorem execYield_frames (q : Fin 17) (s : State) : Out'.frames (execYield q s) s 0x38000004000000000000080000000000080000002000000000000000000000000000000000000000000001f8000700000000000000000000028003c2000d009fc000000000000090040001108000000100000000000000000000400003d138ac := by
  unfold execYield
  refine done_frames s fun u => ?_
  repeat' first
    | with_reducible rfl
    | simp (disch := decide) only []
    | with_reducible refine State.execMicro_blur _ _ _ _ (by decide) (fun u pc w => ?_)

theorem execEventVector_frames (q : Fin 17) (s : State) : Out'.frames (execEventVector q s) s 0x400000000000f80000000000008000000000000000000000000000000000000000000000000000000000000000000000000000000028003c2000d009fc0000000000000900400011080000001000000000000000000004000005118ac := by
  unfold execEventVector
  refine done_frames s fun u => ?_
  dsimp only
  repeat' first
    | with_reducible rfl
    | simp (disch := decide) only [State.blur_ite, ite_self, State.hkTake_blur, State.enter_blur]
    | split

theorem execRete_frames (q : Fin 17) (s : State) : Out'.frames (execRete q s) s 0x3800000400000000000f880000000000080000002000000000000000000000000000000000000000000001f8000700000000000000000000028003c2000d009fc000000000000090040001108000000100000000000000000000400003d138ac := by
  unfold execRete
  refine done_frames s fun u => ?_
  dsimp only
  repeat' first
    | with_reducible rfl
    | simp (disch := decide) only [State.blur_ite, ite_self, State.rete_blur, State.setSeq_blur]
    | with_reducible refine State.execMicro_blur _ _ _ _ (by decide) (fun u pc w => ?_)

theorem execStopDrain_frames (t : Fin 16) (s : State) : Out'.frames (execStopDrain t s) s 0x38000004000000000000080000000000080000002000000000000000000000000000000000000000000001f8000700000000000000000000028003c2000d009fc000000000000090040001108000000100000000000000000000400003d138ac := by
  unfold execStopDrain
  refine done_frames s fun u => ?_
  dsimp only
  repeat' first
    | with_reducible rfl
    | simp (disch := decide) only [State.blur_ite, ite_self, State.setSeq_blur, State.setPlay_blur, State.seqStopped_blur]
    | with_reducible refine State.execMicro_blur _ _ _ _ (by decide) (fun u pc w => ?_)

theorem execStop_frames (t : Fin 16) (s : State) : Out'.frames (execStop t s) s 0x38000004000000000000080000000000080000002000000000000000000000000000000000000000000001f8000700000000000000000000028003c2000d009fc000000000000090040001108000000100000000000000000000400003d138ac := by
  unfold execStop
  refine done_frames s fun u => ?_
  dsimp only
  repeat' first
    | with_reducible rfl
    | simp (disch := decide) only [State.blur_ite, ite_self, State.setSeq_blur, State.stopNow_blur, State.seqStopped_blur]
    | with_reducible refine State.execMicro_blur _ _ _ _ (by decide) (fun u pc w => ?_)

theorem execAtomicBegin_frames (q : Fin 17) (s : State) : Out'.frames (execAtomicBegin q s) s 0x38000004000000000000080000000000080000002000000000000000000000000000000000000000000001f8000700000000000000000000028003c2000d009fc000000000000090040001108000000100000000000000000000400003d138ac := by
  unfold execAtomicBegin
  refine done_frames s fun u => ?_
  dsimp only
  repeat' first
    | with_reducible rfl
    | simp (disch := decide) only [State.wr_blur, State.setSeq_blur, State.resSync_blur]
    | with_reducible refine State.execMicro_blur _ _ _ _ (by decide) (fun u pc w => ?_)

theorem execAtomicEnd_frames (q : Fin 17) (s : State) : Out'.frames (execAtomicEnd q s) s 0x38000004000000000000080000000000080000002000000000000000000000000000000000000000000001f8000700000000000000000000028003c2000d009fc000000000000090040001108000000100000000000000000000400003d138ac := by
  unfold execAtomicEnd
  refine done_frames s fun u => ?_
  dsimp only
  repeat' first
    | with_reducible rfl
    | simp (disch := decide) only [State.wr_blur, State.setSeq_blur, State.resSync_blur]
    | with_reducible refine State.execMicro_blur _ _ _ _ (by decide) (fun u pc w => ?_)

theorem execMcTrap_frames (q : Fin 17) (s : State) : Out'.frames (execMcTrap q s) s 0x38000004000000000000080000000000080000002000000000000000000000000000000000000000000001f8000700000000000000000000028003c2000d009fc000000000000090040001108000000100000000000000000000400003d138ac := by
  unfold execMcTrap
  refine done_frames s fun u => ?_
  repeat' first
    | with_reducible rfl
    | simp (disch := decide) only [State.machineCheck_blur]
    | with_reducible refine State.execMicro_blur _ _ _ _ (by decide) (fun u pc w => ?_)

theorem execWatchdog_frames (q : Fin 17) (s : State) : Out'.frames (execWatchdog q s) s 0x400000000000000000000000008000000000000000000000000000000000000000000000000000000000000000000000000000000028003c2000d009fc0000000000000900400011080000001000000000000000000004000005118ac := by
  unfold execWatchdog
  refine done_frames s fun u => ?_
  simp (disch := decide) only [State.blur_ite, ite_self, State.machineCheck_blur]

theorem execNanoWordEffect_frames (q : Fin 17) (s : State) : Out'.frames (execNanoWordEffect q s) s 0x38000006000000000000080000000000080000000000000000000000000000000000000000000000000001f8000700000000000000000000000000000000004000000001e0000090040000000000000000000000000000000000000003d13824 := by
  unfold execNanoWordEffect
  refine done_frames s fun u => ?_
  dsimp only
  repeat' first
    | with_reducible rfl
    | simp (disch := decide) only [State.blur_ite, State.boundaryFlush_blur, State.setPlay_blur, State.nanoShots_blur, State.setSeq_blur, State.wr_blur]
    | with_reducible refine State.blur_when _ _ _ ?_
    | with_reducible refine (State.blur_when _ _ _ ?_).trans ?_
    | split

theorem execLoaderCheck_frames (rq : Req) (t : Fin 16) (w : Word) (s : State) : Out'.frames (execLoaderCheck rq t w s) s 0xe0000000000000000000000000000000000000000000000000000000000000000000000004000000000000000000000000000000000000000000000000000000000000400004 := by
  unfold execLoaderCheck
  refine writeRow_frames s (fun _ _ => ?_) (by decide)
  simp (disch := decide) only [loadHook_blur]

theorem execLoaderCheckDone_frames (t : Fin 17) (s : State) : Out'.frames (execLoaderCheckDone t s) s 0x400000007c000000000000000000000000000000000000000000000000000000000000400024 := by
  unfold execLoaderCheckDone
  refine done_frames s fun u => ?_
  dsimp only
  repeat' first
    | with_reducible rfl
    | simp (disch := decide) only [State.blur_ite, State.setSeq_blur, State.wr_blur, State.wb_blur, State.raise_blur]
    | with_reducible refine State.blur_when _ _ _ ?_
    | with_reducible refine (State.blur_when _ _ _ ?_).trans ?_
    | split

theorem execSeqScrub_frames (rq : Req) (t : Fin 16) (w : Word) (s : State) : Out'.frames (execSeqScrub rq t w s) s 0xe0000000000000000000000000000000000000000000000000000000000000000000000004000000000000000000000000000000000000000000000000000000000000400004 := by
  unfold execSeqScrub
  refine writeRow_frames s (fun _ _ => ?_) (by decide)
  simp (disch := decide) only [loadHook_blur]

theorem execSeqScrubDone_frames (t : Fin 17) (hard : List Nat) (s : State) : Out'.frames (execSeqScrubDone t hard s) s 0x24c0000000000000000000000000000000001200060000000000000004000006003a4 := by
  unfold execSeqScrubDone
  refine done_frames s fun u => ?_
  dsimp only
  repeat' first
    | with_reducible rfl
    | simp (disch := decide) only [State.blur_ite, State.recoverWord_blur, State.setSeq_blur, State.wr_blur, State.raise_blur]
    | with_reducible refine State.blur_when _ _ _ ?_
    | with_reducible refine (State.blur_when _ _ _ ?_).trans ?_
    | with_reducible refine State.blur_each _ _ _ (fun t n => ?_)
    | with_reducible refine (State.blur_each _ _ _ (fun t n => ?_)).trans ?_
    | with_reducible refine State.blur_foldl _ _ _ (fun t n => ?_)
    | with_reducible refine (State.blur_foldl _ _ _ (fun t n => ?_)).trans ?_
    | split

theorem execJumpRequestGo_frames (rq : Req) (t : Fin 16) (w : Word) (s : State) : Out'.frames (execJumpRequestGo rq t w s) s 0xe00000000000000000000000000000000000000000000000000000000000000513decc0000000000000000000000000000000000000000000000000000000000000000100024 := by
  unfold execJumpRequestGo
  refine writeRow_frames s (fun _ _ => ?_) (by decide)
  simp (disch := decide) only [jumpHook_blur]

theorem execJumpSrcEdge_frames (t : Fin 16) (s : State) : Out'.frames (execJumpSrcEdge t s) s 0x513c60c0000000000000000000000000000000000000000000000000000000000000000100024 := by
  unfold execJumpSrcEdge
  refine done_frames s fun u => ?_
  dsimp only
  repeat' first
    | with_reducible rfl
    | simp (disch := decide) only [State.blur_ite, State.setPlay_blur, State.jumpLatch_blur]
    | with_reducible refine State.blur_when _ _ _ ?_
    | with_reducible refine (State.blur_when _ _ _ ?_).trans ?_
    | split

theorem execRingReset_frames (rq : Req) (t : Fin 16) (s : State) : Out'.frames (execRingReset rq t s) s 0xe00000000000000000000000000000000000000000000000000000000000008000000c0000000000000000000000000000000000000000000000000000000000000000100024 := by
  unfold execRingReset
  refine writeRow_frames s (fun _ _ => ?_) (by decide)
  simp (disch := decide) only [ringCtlHook_blur]

theorem execRingCfgWrite_frames (rq : Req) (t : Fin 16) (w : Word) (s : State) : Out'.frames (execRingCfgWrite rq t w s) s 0xe00000000000000000000000000000000000000000000000000000000000008000000d8008000000000000000000000000000000000000000000000000000000000000100024 := by
  unfold execRingCfgWrite
  refine writeRow_frames s (fun _ _ => ?_) (by decide)
  simp (disch := decide) only [ringCfgHook_blur]

theorem execSlotWrite_frames (rq : Req) (t : Fin 16) (n : Fin 256) (w : Word) (s : State) : Out'.frames (execSlotWrite rq t n w s) s 0xe0000000000000000000000000000000000000000000000000000000000001c00000000000000000000000000000000000000000000000000000000000000000000000100024 := by
  unfold execSlotWrite
  refine writeRow_frames s (fun _ _ => ?_) (by decide)
  simp (disch := decide) only [slotHook_blur]

theorem execOctMatrixWrite_frames (rq : Req) (o : Fin 128) (w : Word) (s : State) : Out'.frames (execOctMatrixWrite rq o w s) s 0xe60400000000000000004000000008000000000000000000e0000000000000000000000000000000000000000000000000000000000000000000000000000000000000000090040000000000000000000000000000000000000000111804 := by
  unfold execOctMatrixWrite
  refine writeRow_frames s (fun _ _ => ?_) (by decide)
  simp (disch := decide) only [matrixHook_blur]

theorem execSmuCompliance_frames (i : Fin 136) (on : Bool) (s : State) : Out'.frames (execSmuCompliance i on s) s 0x600000000000000000000000000000000000000000000000000000000000000000000000000000000000000000000000000000000000000000000000000000000000000000000000000000000000000000000000000000000000000000000000000000024 := by
  unfold execSmuCompliance
  refine done_frames s fun u => ?_
  dsimp only
  repeat' first
    | with_reducible rfl
    | simp (disch := decide) only [State.blur_ite, State.wb_blur, State.wr_blur, State.raise_blur]
    | with_reducible refine State.blur_when _ _ _ ?_
    | with_reducible refine (State.blur_when _ _ _ ?_).trans ?_
    | split

theorem execSmuSenseFault_frames (i : Fin 136) (s : State) : Out'.frames (execSmuSenseFault i s) s 0x6000000000000000000000000000000000000000000000000000000000000000000000000000000000000000000000000000000000000000000000000000000000000000000000000000000000000000000000000000000000000000000000000000000024 := by
  unfold execSmuSenseFault
  refine done_frames s fun u => ?_
  repeat' first
    | with_reducible rfl
    | simp (disch := decide) only [State.blur_ite, State.wr_blur, State.raise_blur]
    | with_reducible refine State.blur_when _ _ _ ?_
    | with_reducible refine (State.blur_when _ _ _ ?_).trans ?_
    | split

theorem execSmuSenseRestore_frames (rq : Req) (i : Fin 136) (w : Word) (s : State) : Out'.frames (execSmuSenseRestore rq i w s) s 0x6c000000000000000000000000000000000000000000000000000000000000e0000000000000000000000000000000000000000000000000000000000000000000000000000000000000000000000000000000000000000000000000000000000000000004 := by
  unfold execSmuSenseRestore
  refine writeRow_frames s (fun _ _ => ?_) (by decide)
  simp (disch := decide) only [smuStatusHook_blur]

theorem execAdcGo_frames (rq : Req) (o : Fin 128) (w : Word) (s : State) : Out'.frames (execAdcGo rq o w s) s 0x39e0000000000000000000000000000008000000000000000000e0000000000000000000000000000000000000000000000000000000000000000000000000000000000000000000000000000000000000000000000000000000000000012004 := by
  unfold execAdcGo
  refine writeRow_frames s (fun _ _ => ?_) (by decide)
  simp (disch := decide) only [adcCtlHook_blur]

theorem execAdcStop_frames (rq : Req) (o : Fin 128) (w : Word) (s : State) : Out'.frames (execAdcStop rq o w s) s 0x39e0000000000000000000000000000008000000000000000000e0000000000000000000000000000000000000000000000000000000000000000000000000000000000000000000000000000000000000000000000000000000000000012004 := by
  unfold execAdcStop
  refine writeRow_frames s (fun _ _ => ?_) (by decide)
  simp (disch := decide) only [adcCtlHook_blur]

theorem execAdcSlot_frames (o : Fin 128) (code : Nat) (sub : Nat) (s : State) : Out'.frames (execAdcSlot o code s sub) s 0x200580000000000000000000000000000000000000000000000000000000000000000000000000000000000000000070000000000000000000000000000000000000000000000000000000000000000000000000000000000000000000003002024 := by
  unfold execAdcSlot
  refine done_frames s fun u => ?_
  simp (disch := decide) only [State.blur_ite, ite_self, State.adcStep_blur, State.setAdc_blur]

theorem execAdcFifoRead_frames (rq : Req) (o : Fin 128) (s : State) : Out'.frames (execAdcFifoRead rq o s) s 0x180400000000000000000000000000000000000000000000000000000000000000000000000000000000000000000000000000000000000000000000000000000000000000000000000000000000000000000000000000000000000000000002004 := by
  unfold execAdcFifoRead
  refine readRow_frames s (fun _ _ => ?_)
  simp (disch := decide) only [State.adcRead_blur]

theorem execSmuConversion_frames (i : Fin 136) (code : Nat) (s : State) : Out'.frames (execSmuConversion i code s) s 0x41800000000000000000000000000000000000000000000000000000000000000000000000000000000000000000000000000070000000000000000000000000000000000000000000000000000000000000000000000000000000000000000000003004024 := by
  unfold execSmuConversion
  refine done_frames s fun u => ?_
  dsimp only
  repeat' first
    | with_reducible rfl
    | simp (disch := decide) only [State.blur_ite, State.setSmu_blur, State.smuDeliver_blur]
    | with_reducible refine State.blur_when _ _ _ ?_
    | with_reducible refine (State.blur_when _ _ _ ?_).trans ?_
    | split

theorem execSmuFifoRead_frames (rq : Req) (i : Fin 136) (s : State) : Out'.frames (execSmuFifoRead rq i s) s 0x30000000000000000000000000000000000000000000000000000000000000000000000000000000000000000000000000000000000000000000000000000000000000000000000000000000000000000000000000000000000000000000000000000004004 := by
  unfold execSmuFifoRead
  refine readRow_frames s (fun _ _ => ?_)
  simp (disch := decide) only [State.smuRead_blur]

theorem execDpsOutEn_frames (rq : Req) (d : Fin 36) (w : Word) (s : State) : Out'.frames (execDpsOutEn rq d w s) s 0x8000000000000000000e0000000000000000000000000000000000000000000000000003800000000000000000000000000000000000000000000000000000000000000000000000000000000018004 := by
  unfold execDpsOutEn
  refine writeRow_frames s (fun _ _ => ?_) (by decide)
  simp (disch := decide) only [dpsHeldHook_blur]

theorem execDpsSample_frames (d : Fin 36) (i : Int) (v : Int) (limiting : Bool) (s : State) : Out'.frames (execDpsSample d i v limiting s) s 0x3f5e1e0000000000000000000000000000000000000000000000000000000000000000000000000000000002009024 := by
  unfold execDpsSample
  refine done_frames s fun u => ?_
  dsimp only
  repeat' first
    | with_reducible rfl
    | simp (disch := decide) only [State.blur_ite, State.wr_blur, State.wb_blur, State.acqOffer_blur, State.dpsFault_blur, State.setDps_blur, State.dpsLimitAct_blur, State.dpsMonitor_blur]
    | with_reducible refine State.blur_when _ _ _ ?_
    | with_reducible refine (State.blur_when _ _ _ ?_).trans ?_
    | split

theorem execDpsHwTrip_frames (d : Fin 36) (s : State) : Out'.frames (execDpsHwTrip d s) s 0x100220000000000000000000000000000000000000000000000000000000000000000000000000000000000009024 := by
  unfold execDpsHwTrip
  refine done_frames s fun u => ?_
  simp (disch := decide) only [State.blur_ite, ite_self, State.dpsFlag_blur, State.dpsOpenAll_blur]

theorem execDpsSenseFault_frames (d : Fin 36) (s : State) : Out'.frames (execDpsSenseFault d s) s 0x100c00000000000000000000000000000000000000000000000000000000000000000000000000000000000000024 := by
  unfold execDpsSenseFault
  refine done_frames s fun u => ?_
  dsimp only
  repeat' first
    | with_reducible rfl
    | simp (disch := decide) only [State.blur_ite, State.dpsFlag_blur, State.wr_blur]
    | with_reducible refine State.blur_each _ _ _ (fun t n => ?_)
    | with_reducible refine (State.blur_each _ _ _ (fun t n => ?_)).trans ?_
    | split

theorem execDpsSenseRestore_frames (rq : Req) (d : Fin 36) (w : Word) (s : State) : Out'.frames (execDpsSenseRestore rq d w s) s 0x8000000000000000000e000000000000000000000000000000000000000000000005ffc0000000000000000000000000000000000000000000000000000000000000000000000000000000000019004 := by
  unfold execDpsSenseRestore
  refine writeRow_frames s (fun _ _ => ?_) (by decide)
  simp (disch := decide) only [dpsStatusHook_blur]

theorem execDpsRestart_frames (rq : Req) (d : Fin 36) (w : Word) (s : State) : Out'.frames (execDpsRestart rq d w s) s 0x8000000000000000000e000000000000000000000000000000000000000000000005ffc0000000000000000000000000000000000000000000000000000000000000000000000000000000000019004 := by
  unfold execDpsRestart
  refine writeRow_frames s (fun _ _ => ?_) (by decide)
  simp (disch := decide) only [dpsStatusHook_blur]

theorem execDpsPowerEstimate_frames (q : Fin 4) (s : State) : Out'.frames (execDpsPowerEstimate q s) s 0x80000000000000000000000000000000000000000000000000000000000000000000000000000000000000008024 := by
  unfold execDpsPowerEstimate
  refine done_frames s fun u => ?_
  dsimp only
  repeat' first
    | with_reducible rfl
    | simp (disch := decide) only [State.blur_ite, State.setDps_blur, State.wr_blur, State.dpsFault_blur]
    | with_reducible refine State.blur_each _ _ _ (fun t n => ?_)
    | with_reducible refine (State.blur_each _ _ _ (fun t n => ?_)).trans ?_
    | with_reducible refine State.blur_foldl _ _ _ (fun t n => ?_)
    | with_reducible refine (State.blur_foldl _ _ _ (fun t n => ?_)).trans ?_
    | split

theorem execTdcArm_frames (rq : Req) (i : Fin 68) (w : Word) (s : State) : Out'.frames (execTdcArm rq i w s) s 0x8000000000000000000e0000000000000000000000000000000001800000000000000000000000000000000000000000000000000000000000000000000000000000000000000000000000000810004 := by
  unfold execTdcArm
  refine writeRow_frames s (fun _ _ => ?_) (by decide)
  simp (disch := decide) only [tdcCtlHook_blur]

theorem execTdcDisarm_frames (rq : Req) (i : Fin 68) (w : Word) (s : State) : Out'.frames (execTdcDisarm rq i w s) s 0x8000000000000000000e0000000000000000000000000000000001800000000000000000000000000000000000000000000000000000000000000000000000000000000000000000000000000810004 := by
  unfold execTdcDisarm
  refine writeRow_frames s (fun _ _ => ?_) (by decide)
  simp (disch := decide) only [tdcCtlHook_blur]

theorem execTdcStartEdge_frames (i : Fin 68) (bin : Nat) (s : State) : Out'.frames (execTdcStartEdge i bin s) s 0x1f800070000000000000000000000000000000000000000000000000000000000000000000000000000000000000000000003800024 := by
  unfold execTdcStartEdge
  refine done_frames s fun u => ?_
  simp (disch := decide) only [State.blur_ite, ite_self, State.tdcStartAt_blur]

theorem execTdcStopEdge_frames (i : Fin 68) (bin : Nat) (s : State) : Out'.frames (execTdcStopEdge i bin s) s 0x17800070000000000000000000000000000000000000000000000000000000000000000000000000000000000000000000003800024 := by
  unfold execTdcStopEdge
  refine done_frames s fun u => ?_
  simp (disch := decide) only [State.blur_ite, ite_self, State.tdcStopAt_blur]

theorem execTdcGateClose_frames (i : Fin 68) (s : State) : Out'.frames (execTdcGateClose i s) s 0x13800070000000000000000000000000000000000000000000000000000000000000000000000000000000000000000000003800024 := by
  unfold execTdcGateClose
  refine done_frames s fun u => ?_
  simp (disch := decide) only [State.blur_ite, ite_self, State.tdcClose_blur]

theorem execTdcOverrange_frames (i : Fin 68) (s : State) : Out'.frames (execTdcOverrange i s) s 0x13800070000000000000000000000000000000000000000000000000000000000000000000000000000000000000000000003800024 := by
  unfold execTdcOverrange
  refine done_frames s fun u => ?_
  simp (disch := decide) only [State.blur_ite, ite_self, State.tdcResult_blur]

theorem execTdcDeadTimeEnd_frames (i : Fin 68) (s : State) : Out'.frames (execTdcDeadTimeEnd i s) s 0x800000 := by
  unfold execTdcDeadTimeEnd
  refine done_frames s fun u => ?_
  simp (disch := decide) only [State.setTdc_blur]

theorem execTdcResRead_frames (rq : Req) (i : Fin 68) (s : State) : Out'.frames (execTdcResRead rq i s) s 0x1ffe2000000000000000000000000000000000000000000000000000000000000000000000000000000000000000000000000000800004 := by
  unfold execTdcResRead
  refine readRow_frames s (fun _ _ => ?_)
  simp (disch := decide) only [State.tdcRead_blur]

theorem execRedOpen_frames (rq : Req) (w : Word) (s : State) : Out'.frames (execRedOpen rq w s) s 0x28000000000000000000000000000000000000000000000000000000000000000e00000000000000000000000000000000000004000000000000000000000000000000000000000000000000000000000000000000001200060000000000000004000010003a4 := by
  unfold execRedOpen
  refine writeRow_frames s (fun _ _ => ?_) (by decide)
  simp (disch := decide) only [redCmdHook_blur]

theorem execRedClose_frames (rq : Req) (w : Word) (s : State) : Out'.frames (execRedClose rq w s) s 0x28000000000000000000000000000000000000000000000000000000000000000e00000000000000000000000000000000000004000000000000000000000000000000000000000000000000000000000000000000001200060000000000000004000010003a4 := by
  unfold execRedClose
  refine writeRow_frames s (fun _ _ => ?_) (by decide)
  simp (disch := decide) only [redCmdHook_blur]

theorem execRedAbort_frames (rq : Req) (w : Word) (s : State) : Out'.frames (execRedAbort rq w s) s 0x28000000000000000000000000000000000000000000000000000000000000000e00000000000000000000000000000000000004000000000000000000000000000000000000000000000000000000000000000000001200060000000000000004000010003a4 := by
  unfold execRedAbort
  refine writeRow_frames s (fun _ _ => ?_) (by decide)
  simp (disch := decide) only [redCmdHook_blur]

theorem execContextUpdate_frames (residue : Option (Fin 5)) (s : State) : Out'.frames (execContextUpdate s residue) s 0x2877fffff80001007040000000000007007ffffe1000008000000000000000000000000000000000000000000000000ffffffff087ffffffffffff80000000000000000000000000000000000000001e200000000000127f0600000000000000040000181bba4 := by
  unfold execContextUpdate
  refine done_frames s fun u => ?_
  split
  · rfl
  · refine (State.ctxUpdate_blur _ _ (by decide)).trans ?_
    split
    · exact u.residueFail_blur _ _ (by decide)
    · rfl

theorem execResultRecordWrite_frames (g : Fin 64) (s : State) : Out'.frames (execResultRecordWrite g s) s 0x2a0000000000000000000000000000000000000000000000000000000000000000000000000000000000000000000000000000000000000000000000000000000000000000000000000000000000000000000000000012000600000000000000040000d0003a4 := by
  unfold execResultRecordWrite
  refine done_frames s fun u => ?_
  dsimp only
  repeat' first
    | with_reducible rfl
    | simp (disch := decide) only [State.blur_ite, ite_self, State.capPut_blur, State.wr_blur, State.raise_blur, State.ctxDrain_blur, State.grpSync_blur, State.blur_with_red]
    | split

theorem execAcqArm_frames (rq : Req) (t : Fin 16) (w : Word) (s : State) : Out'.frames (execAcqArm rq t w s) s 0xe0000000000000000000000038007800000000000000000000000000000000000000000000000000000000000000000000000000000000000000000000000000000002000004 := by
  unfold execAcqArm
  refine writeRow_frames s (fun _ _ => ?_) (by decide)
  simp (disch := decide) only [acqCtlHook_blur]

theorem execAcqDisarm_frames (rq : Req) (t : Fin 16) (w : Word) (s : State) : Out'.frames (execAcqDisarm rq t w s) s 0xe0000000000000000000000038007800000000000000000000000000000000000000000000000000000000000000000000000000000000000000000000000000000002000004 := by
  unfold execAcqDisarm
  refine writeRow_frames s (fun _ _ => ?_) (by decide)
  simp (disch := decide) only [acqCtlHook_blur]

theorem execAcqForce_frames (rq : Req) (t : Fin 16) (w : Word) (s : State) : Out'.frames (execAcqForce rq t w s) s 0xe0000000000000000000000038007800000000000000000000000000000000000000000000000000000000000000000000000000000000000000000000000000000002000004 := by
  unfold execAcqForce
  refine writeRow_frames s (fun _ _ => ?_) (by decide)
  simp (disch := decide) only [acqCtlHook_blur]

theorem execArmingDone_frames (t : Fin 16) (s : State) : Out'.frames (execArmingDone t s) s 0x1000000000000000000000000000000000000000000000000000000000000000000000000000000000000000000000000000000002000004 := by
  unfold execArmingDone
  refine done_frames s fun u => ?_
  simp (disch := decide) only [State.blur_ite, ite_self, State.setAcq_blur, State.wr_blur]

theorem execAcqSampleEvaluate_frames (t : Fin 16) (s : State) : Out'.frames (execAcqSampleEvaluate t s) s 0x8000100000000000000000000000000000000000000000000000000000000000000000000000000000012000600000000000000040000e0003a4 := by
  unfold execAcqSampleEvaluate
  refine done_frames s fun u => ?_
  dsimp only
  repeat' first
    | with_reducible rfl
    | simp (disch := decide) only [State.blur_ite, ite_self, State.setAcq_blur, State.bump_blur, State.acqTrigger_blur, State.acqTake_blur]
    | with_reducible refine State.blur_foldl _ _ _ (fun t n => ?_)
    | with_reducible refine (State.blur_foldl _ _ _ (fun t n => ?_)).trans ?_
    | split

theorem execAcqAutoTimeout_frames (t : Fin 16) (s : State) : Out'.frames (execAcqAutoTimeout t s) s 0x2000000 := by
  unfold execAcqAutoTimeout
  refine done_frames s fun u => ?_
  simp (disch := decide) only [State.blur_ite, ite_self, State.acqForce_blur]

theorem execAcqFrameClose_frames (t : Fin 16) (s : State) : Out'.frames (execAcqFrameClose t s) s 0x12000100000000000000000000000000000000000000000000000000000000000000000000000000000012000600000000000000040000e0003a4 := by
  unfold execAcqFrameClose
  refine done_frames s fun u => ?_
  dsimp only
  repeat' first
    | with_reducible rfl
    | simp (disch := decide) only [State.blur_ite, State.setAcq_blur, State.acqPad_blur, State.capPut_blur, State.wr_blur, State.bump_blur, State.raise_blur, State.acqNext_blur]
    | with_reducible refine State.blur_each _ _ _ (fun t n => ?_)
    | with_reducible refine (State.blur_each _ _ _ (fun t n => ?_)).trans ?_
    | with_reducible refine State.blur_foldl _ _ _ (fun t n => ?_)
    | with_reducible refine (State.blur_foldl _ _ _ (fun t n => ?_)).trans ?_
    | split

theorem execAcqRptrWrite_frames (rq : Req) (t : Fin 16) (w : Word) (s : State) : Out'.frames (execAcqRptrWrite rq t w s) s 0xe0000000000000000000000040001000000000000000000000000000000000000000000000000000000000000000000000000000000000000000000000000000000002000004 := by
  unfold execAcqRptrWrite
  refine writeRow_frames s (fun _ _ => ?_) (by decide)
  simp (disch := decide) only [acqRptrHook_blur]

theorem execEventArrival_frames (n : Fin 1152) (s : State) : Out'.frames (execEventArrival n s) s 0x2000020 := by
  unfold execEventArrival
  refine done_frames s fun u => ?_
  dsimp only
  repeat' first
    | with_reducible rfl
    | simp (disch := decide) only [State.arrive_blur, State.acqEvent_blur, State.blur_with_hub]
    | split

theorem execEventSet_frames (rq : Req) (n : Fin 1152) (s : State) : Out'.frames (execEventSet rq n s) s 0xe0000000000000000000000000000000000000000000000000000000000000000000000000000000000000000000000000000000000000000000000000000000000000000024 := by
  unfold execEventSet
  refine writeRow_frames s (fun _ _ => ?_) (by decide)
  simp (disch := decide) only [srcStatusHook_blur]

theorem execEventClear_frames (rq : Req) (n : Fin 1152) (s : State) : Out'.frames (execEventClear rq n s) s 0xe0000000000000000000000000000000000000000000000000000000000000000000000000000000000000000000000000000000000000000000000000000000000000000024 := by
  unfold execEventClear
  refine writeRow_frames s (fun _ _ => ?_) (by decide)
  simp (disch := decide) only [srcStatusHook_blur]

theorem execRouteWrite_frames (rq : Req) (n : Fin 1152) (w : Word) (s : State) : Out'.frames (execRouteWrite rq n w s) s 0xe0000000000000000003c40000000000000000000000000000000000000000000000000000000000000000000000000000000000000000000000000000000000000000000024 := by
  unfold execRouteWrite
  refine writeRow_frames s (fun _ _ => ?_) (by decide)
  simp (disch := decide) only [routeHook_blur]

theorem execQueueRecordForm_frames (sag : Fin 16) (k : Fin 4) (s : State) : Out'.frames (execQueueRecordForm sag k s) s 0x16c0000000000000000000000000000000000000000000000000000000000000000000000000000000000000200000000000000000000000000000000000000000000000000000000000000000000000000000000000000000000000000000000000000000000424 := by
  unfold execQueueRecordForm
  refine done_frames s fun u => ?_
  repeat' first
    | with_reducible rfl
    | simp (disch := decide) only [State.formRecord_blur]
    | split

theorem execQueueWriteError_frames (sag : Fin 16) (k : Fin 4) (s : State) : Out'.frames (execQueueWriteError sag k s) s 0xe10000000000000000000000000000000000000000000000000000000000e00000000000000000000000000000000000000000000000000000000000000000000000000000000000000000000000000000000000000000000000000000000000000000000000024 := by
  unfold execQueueWriteError
  refine done_frames s fun u => ?_
  dsimp only
  repeat' first
    | with_reducible rfl
    | simp (disch := decide) only [State.release_blur, State.setQueue_blur, State.queueReset_blur, State.wr_blur, State.raise_blur]
    | split

theorem execEvhQRptrWrite_frames (rq : Req) (k : Fin 4) (w : Word) (s : State) : Out'.frames (execEvhQRptrWrite rq k w s) s 0x7000000000000000000000000000000000000000000000000000000000000000000e0000000000000000000200000000000000000000000000000000000000000000000000000000000000000000000000000000000000000000000000000000000000000000424 := by
  unfold execEvhQRptrWrite
  refine writeRow_frames s (fun _ _ => ?_) (by decide)
  simp (disch := decide) only [rptrHook_blur]

theorem execEvhQEnable_frames (rq : Req) (k : Fin 4) (w : Word) (s : State) : Out'.frames (execEvhQEnable rq k w s) s 0x7f0000000000000000000000000000000000000000000000000000000000e000000e0000000000000000000000000000000000000000000000000000000000000000000000000000000000000000000000000000000000000000000000000000000000000000024 := by
  unfold execEvhQEnable
  refine writeRow_frames s (fun _ _ => ?_) (by decide)
  simp (disch := decide) only [queueCfgHook_blur]

theorem execEvhQDisable_frames (rq : Req) (k : Fin 4) (w : Word) (s : State) : Out'.frames (execEvhQDisable rq k w s) s 0x7f0000000000000000000000000000000000000000000000000000000000e000000e0000000000000000000000000000000000000000000000000000000000000000000000000000000000000000000000000000000000000000000000000000000000000000024 := by
  unfold execEvhQDisable
  refine writeRow_frames s (fun _ _ => ?_) (by decide)
  simp (disch := decide) only [queueCfgHook_blur]

theorem execHoldoffExpire_frames (g : Fin 64) (s : State) : Out'.frames (execHoldoffExpire g s) s 0x400000000000000000000000000000000000000000000000000000000000000000000000000000000000000200000000000000000000000000000000000000000000000000000000000000000000000000000000000000000000000000000000000000000000404 := by
  unfold execHoldoffExpire
  refine done_frames s fun u => ?_
  dsimp only
  repeat' first
    | with_reducible rfl
    | simp (disch := decide) only [State.blur_ite, State.wr_blur, State.msix_blur, State.wb_blur]
    | with_reducible refine State.blur_each _ _ _ (fun t n => ?_)
    | with_reducible refine (State.blur_each _ _ _ (fun t n => ?_)).trans ?_
    | split

theorem execMsixMaskClear_frames (f : Fin 64) (k : Option (Fin 4)) (s : State) : Out'.frames (execMsixMaskClear f k s) s 0x400 := by
  unfold execMsixMaskClear
  refine done_frames s fun u => ?_
  split
  · exact (State.unmask_blur _ _ _ (by decide)).trans (u.blur_with_host _ (by decide))
  · exact (State.blur_each _ _ _ fun t n => t.unmask_blur _ _ (by decide)).trans (u.blur_with_host _ (by decide))

theorem execTimeNowRead_frames (rq : Req) (s : State) : Out'.frames (execTimeNowRead rq s) s 0x40 := by
  unfold execTimeNowRead
  refine readRow_frames s (fun _ _ => ?_)
  simp (disch := decide) only [State.timeNowRead_blur]

theorem execAddendCommit_frames (rq : Req) (w : Word) (s : State) : Out'.frames (execAddendCommit rq w s) s 0xe0000000000000000000000000000000000000000000000000000000000000000000000000000000000000000000000000000000040000000000000001000000000000000044 := by
  unfold execAddendCommit
  refine writeRow_frames s (fun _ _ => ?_) (by decide)
  simp (disch := decide) only [addendHook_blur]

theorem execTimeAdjStart_frames (rq : Req) (w : Word) (s : State) : Out'.frames (execTimeAdjStart rq w s) s 0xe0000000000000000000000000000000000000000000000000000000000000000000000000000000000000000000000000000000040000000000000000000000000000000044 := by
  unfold execTimeAdjStart
  refine writeRow_frames s (fun _ _ => ?_) (by decide)
  simp (disch := decide) only [adjTicksHook_blur]

theorem execTimeAdjEnd_frames (s : State) : Out'.frames (execTimeAdjEnd s) s 0x40 := by
  unfold execTimeAdjEnd
  refine done_frames s fun u => ?_
  dsimp only
  repeat' first
    | with_reducible rfl
    | simp (disch := decide) only [State.blur_with_time]
    | split

theorem execTimeStepGo_frames (rq : Req) (w : Word) (s : State) : Out'.frames (execTimeStepGo rq w s) s 0xe0000000000000380000000000000000000000000000000000000000000000000000000000000000000000000000000000000000000000000000000000000000000000000044 := by
  unfold execTimeStepGo
  refine writeRow_frames s (fun _ _ => ?_) (by decide)
  simp (disch := decide) only [stepCtlHook_blur]

theorem execTimeStepApply_frames (s : State) : Out'.frames (execTimeStepApply s) s 0x3800000000000000000000000000000008000000000000000000001c800000000030000000000000000001f800070000000000000000000000000000000000000000000000000000002000000000000000000000000006000000000003d1286d := by
  refine frames_of_out ?_
  unfold execTimeStepApply
  dsimp only
  split
  · exact ⟨_, rfl, rfl, rfl, rfl⟩
  · split
    · refine clocked_frames _ _ _ (by decide) ?_
      simp (disch := decide) only [State.wr_blur, State.tickWork_blur]
      exact State.blur_mono (m := 64) rfl (by decide)
    · refine clocked_frames _ _ _ (by decide) ?_
      simp (disch := decide) only [State.quals_blur, State.tevStep_blur, State.raise_blur, State.syncRestart_blur]
      refine (State.blur_when _ _ _ (State.wr_blur _ _ _ _ (by decide))).trans ?_
      simp (disch := decide) only [State.wr_blur, State.tickWork_blur]
      exact State.blur_mono (m := 64) rfl (by decide)

theorem execTimeQualWrite_frames (rq : Req) (w : Word) (s : State) : Out'.frames (execTimeQualWrite rq w s) s 0xe00000000000000000000000000000000000000000000000000000000000000000000000000000000000000000000000000000000c0000000000000002000000000000000064 := by
  unfold execTimeQualWrite
  refine writeRow_frames s (fun _ _ => ?_) (by decide)
  simp (disch := decide) only [qualHook_blur]

theorem execRefresh_frames (rq : Req) (w : Word) (s : State) : Out'.frames (execRefresh rq w s) s 0xe00000000000000000000000000000000000000000000000000000000000000000000000000000000000000000000000000000000c0000000000000002000000000000000064 := by
  unfold execRefresh
  refine writeRow_frames s (fun _ _ => ?_) (by decide)
  simp (disch := decide) only [qualHook_blur]

theorem execSyncTimeout_frames (s : State) : Out'.frames (execSyncTimeout s) s 0x2000000000000000064 := by
  unfold execSyncTimeout
  refine done_frames s fun u => ?_
  dsimp only
  repeat' first
    | with_reducible rfl
    | simp (disch := decide) only [State.blur_ite, State.wr_blur, State.quals_blur, State.blur_with_time]
    | with_reducible refine State.blur_when _ _ _ ?_
    | with_reducible refine (State.blur_when _ _ _ ?_).trans ?_
    | split

theorem execPortLinkChange_frames (p : Fin 2) (up : Bool) (s : State) : Out'.frames (execPortLinkChange p up s) s 0x800000000000000000000000000000000000000000000000000000000000000000000000000000000000000000000000000000000000000000000000000024 := by
  unfold execPortLinkChange
  refine done_frames s fun u => ?_
  simp (disch := decide) only [State.blur_ite, ite_self, State.wb_blur, State.raise_blur]

theorem execFrameReceive_frames (p : Fin 2) (fcsGood : Bool) (sub : Nat) (bytes : List Byte) (s : State) : Out'.frames (execFrameReceive p fcsGood sub bytes s) s 0x7c00100000000000000000000000000000000000000000000000000000000000000000000000000000000000000000000000000000000000000000000000000000064 := by
  unfold execFrameReceive
  refine done_frames s fun u => ?_
  simp (disch := decide) only [State.blur_ite, ite_self, State.bump_blur, State.raise_blur, State.setPort_blur, State.wr_blur]

theorem execRxPop_frames (rq : Req) (p : Fin 2) (s : State) : Out'.frames (execRxPop rq p s) s 0xe0000000000180000000000000000000000000000000000000000000000000000000000000000000000000000000000000000000000000000000000000000000000000000004 := by
  unfold execRxPop
  refine writeRow_frames s (fun _ _ => ?_) (by decide)
  simp (disch := decide) only [rxHook_blur]

theorem execTxGo_frames (rq : Req) (p : Fin 2) (w : Word) (s : State) : Out'.frames (execTxGo rq p w s) s 0xe0000000005c03000000000000000000000000000000000000000000000000000000000000000000000000000000000000000000000000000000000000000000000000000044 := by
  unfold execTxGo
  refine writeRow_frames s (fun _ _ => ?_) (by decide)
  simp (disch := decide) only [txHook_blur]

theorem execTxDone_frames (p : Fin 2) (sub : Nat) (s : State) : Out'.frames (execTxDone p sub s) s 0x8000002000000000000000000000000000000000000000000000000000000000000000000000000000000000000000000000000000000000000000000000000000064 := by
  unfold execTxDone
  refine done_frames s fun u => ?_
  dsimp only
  repeat' first
    | with_reducible rfl
    | simp (disch := decide) only [State.blur_ite, ite_self, State.send_blur, State.wr_blur, State.setPort_blur, State.raise_blur, State.bump_blur]
    | split

theorem execTxStampRead_frames (rq : Req) (p : Fin 2) (s : State) : Out'.frames (execTxStampRead rq p s) s 0x3c0000000000000000000000000000000000000000000000000000000000000000000000000000000000000000000000000000000000000000000000000000000044 := by
  unfold execTxStampRead
  refine readRow_frames s (fun _ _ => ?_)
  simp (disch := decide) only [State.txStampRead_blur]

theorem execTevArm_frames (rq : Req) (n : Fin 4) (w : Word) (s : State) : Out'.frames (execTevArm rq n w s) s 0x600e007800000000000000000000000000000000000000000000000000000000000000000000000000000000000000000006000000000000000000000000000000000000000006c := by
  unfold execTevArm
  refine writeRow_frames s (fun _ _ => ?_) (by decide)
  simp (disch := decide) only [tevCtlHook_blur]

theorem execTevDisarm_frames (rq : Req) (n : Fin 4) (w : Word) (s : State) : Out'.frames (execTevDisarm rq n w s) s 0x600e007800000000000000000000000000000000000000000000000000000000000000000000000000000000000000000006000000000000000000000000000000000000000006c := by
  unfold execTevDisarm
  refine writeRow_frames s (fun _ _ => ?_) (by decide)
  simp (disch := decide) only [tevCtlHook_blur]

theorem execTevFire_frames (n : Fin 4) (s : State) : Out'.frames (execTevFire n s) s 0x38000000000000000000000000000000080000000000000000000008800000000000000000000000000001f80007000000000000000000000000000000000000000000000000000000000000000000000000000000000000000000000381206c := by
  unfold execTevFire
  refine done_frames s fun u => ?_
  repeat' first
    | with_reducible rfl
    | simp (disch := decide) only [State.blur_ite, ite_self, State.tevFire_blur]
    | split

theorem execTevPulseEnd_frames (n : Fin 4) (s : State) : Out'.frames (execTevPulseEnd n s) s 0x1f800070000000000000000000000000000000000000000000000000000000000000000000000000000000000000000000003800064 := by
  unfold execTevPulseEnd
  refine done_frames s fun u => ?_
  simp (disch := decide) only [State.blur_ite, ite_self, State.setTev_blur, State.tdcPresent_blur]

theorem execQuotaWrite_frames (rq : Req) (s0 : Fin 16) (high : Bool) (w : Word) (s : State) : Out'.frames (execQuotaWrite rq s0 high w s) s 0x1e780000e0000000000000000000000000000000000000000000000000000000000000000000000000000000000000000000000000000000000000000000000000000000000000000024 := by
  cases high
  · exact writeRow_frames s (fun j u => quotaHook_blur _ _ _ _ _ _ (by decide) (by decide)) (by decide)
  · exact writeRow_frames s (fun j u => quotaHook_blur _ _ _ _ _ _ (by decide) (by decide)) (by decide)

theorem execAllot_frames (rq : Req) (w : Word) (s : State) : Out'.frames (execAllot rq w s) s 0x3f8000000000000000000000000005d800000000000000000000000000f87e000e0000000000000000000000000000000000000000000000000000000000000000000000000000000000000000000000000000000000000000000000000000000000001000024 := by
  unfold execAllot
  refine writeRow_frames s (fun _ _ => ?_) (by decide)
  simp (disch := decide) only [allotHook_blur]

theorem execRelease_frames (rq : Req) (w : Word) (s : State) : Out'.frames (execRelease rq w s) s 0x3f8000000000000000000000000005d800000000000000000000000000f87e000e0000000000000000000000000000000000000000000000000000000000000000000000000000000000000000000000000000000000000000000000000000000000001000024 := by
  unfold execRelease
  refine writeRow_frames s (fun _ _ => ?_) (by decide)
  simp (disch := decide) only [allotHook_blur]

theorem execBlockClearDone_frames (b : Fin 768) (s : State) : Out'.frames (execBlockClearDone b s) s 0x580000000000000000000000000000000000000000000000000000000000000000000000000000000000000000000000000000000000000000000000000000000000000000000000000000000000000000000000c000004 := by
  unfold execBlockClearDone
  refine done_frames s fun u => ?_
  split
  · rfl
  · simp (disch := decide) only [State.wr_blur]
    exact (State.blur_with_capEcc ({ u with cap := _ } : State) _ (by decide)).trans (u.blur_with_cap _ (by decide))

theorem execGroupRelease_frames (g : Fin 64) (s : State) : Out'.frames (execGroupRelease g s) s 0x3f80000000000000000000000000058000000000000000000000000000f00000000000000000000000000000000000000000000000000000000000000000000000000000000000000000000000000000000000000000000000000000000000000000001000024 := by
  unfold execGroupRelease
  refine done_frames s fun u => ?_
  simp (disch := decide) only [State.blur_ite, ite_self, State.groupFree_blur]

theorem execDmaRingEnable_frames (rq : Req) (r : Fin 4) (w : Word) (s : State) : Out'.frames (execDmaRingEnable rq r w s) s 0x780000000000000000000000000000000000000000000000000000000000000000000e0000000000000000000000000000000000000000000000000000000000000000000000000000000000000000000000000000000000000000000000000000000000000000404 := by
  unfold execDmaRingEnable
  refine writeRow_frames s (fun _ _ => ?_) (by decide)
  simp (disch := decide) only [dmaCfgHook_blur]

theorem execDmaRingDisable_frames (rq : Req) (r : Fin 4) (w : Word) (s : State) : Out'.frames (execDmaRingDisable rq r w s) s 0x780000000000000000000000000000000000000000000000000000000000000000000e0000000000000000000000000000000000000000000000000000000000000000000000000000000000000000000000000000000000000000000000000000000000000000404 := by
  unfold execDmaRingDisable
  refine writeRow_frames s (fun _ _ => ?_) (by decide)
  simp (disch := decide) only [dmaCfgHook_blur]

theorem execDmaTailWrite_frames (rq : Req) (r : Fin 4) (w : Word) (s : State) : Out'.frames (execDmaTailWrite rq r w s) s 0x200000000000000000000000000000000000000000000000000000000000000000000e0000000000000000000000000000000000000000000000000000000000000000000000000000000000000000000000000000000000000000000000000000000000000000004 := by
  unfold execDmaTailWrite
  refine writeRow_frames s (fun _ _ => ?_) (by decide)
  simp (disch := decide) only [writeWord_blur]

theorem execNop_frames (sag : Fin 16) (r : Fin 4) (d : List Byte) (s : State) : Out'.frames (execNop sag r d s) s 0x100000000000000000000000000000000000000000000000000000000000000000000000000000000000000000000000000000000000000000000000000000000000000000000000000000000000000000000000000000000000000000000000000000000000000404 := by
  unfold execNop
  refine done_frames s fun u => ?_
  simp (disch := decide) only [State.descStart_blur]

theorem execStreamRefill_frames (sag : Fin 16) (r : Fin 4) (d : List Byte) (data : List Byte) (s : State) : Out'.frames (execStreamRefill sag r d data s) s 0x100000000000000000000000000000000000000000000000000000000000000000000000000000000000000000000000000000000000000000000000000000000001c00000000000000000000000000000000000000000000000000000000000000000000000300424 := by
  unfold execStreamRefill
  refine done_frames s fun u => ?_
  simp (disch := decide) only [State.blur_ite, ite_self, State.descStart_blur, State.moveBlocks_blur]

theorem execResidentLoad_frames (sag : Fin 16) (r : Fin 4) (d : List Byte) (data : List Byte) (s : State) : Out'.frames (execResidentLoad sag r d data s) s 0x100000000000000000000000000000000000000000000000000000000000000000000000000000000000000000000000000000000000000000000000000000000001c00000000000000000000000000000000000000000000000000000000000000000000000300424 := by
  unfold execResidentLoad
  refine done_frames s fun u => ?_
  simp (disch := decide) only [State.blur_ite, ite_self, State.descStart_blur, State.moveBlocks_blur]

theorem execUpload_frames (sag : Fin 16) (r : Fin 4) (d : List Byte) (s : State) : Out'.frames (execUpload sag r d s) s 0x1000000000000000000000000000000000000000000000000000000000000000000010000000000000000000000000000000000000000000000000000000000000000000000000000000000000000000000000000000000001200060000000000000004000000007a4 := by
  unfold execUpload
  refine done_frames s fun u => ?_
  simp (disch := decide) only [State.descStart_blur, State.uploadPart_blur]

theorem execDescriptorComplete_frames (sag : Fin 16) (r : Fin 4) (s : State) : Out'.frames (execDescriptorComplete sag r s) s 0x740000000000000000000000000000000000000000000000000000000000000000000000000000000000000000000000000000000000000000000000000000000000000000000000000000000000000000000000000000000000000000000000000000000000000424 := by
  unfold execDescriptorComplete
  refine done_frames s fun u => ?_
  dsimp only
  repeat' first
    | with_reducible rfl
    | simp (disch := decide) only [State.blur_ite, State.descStatus_blur, State.bump_blur, State.wr_blur, State.setRing_blur, State.raise_blur]
    | with_reducible refine State.blur_when _ _ _ ?_
    | with_reducible refine (State.blur_when _ _ _ ?_).trans ?_
    | split

theorem execDmaHostError_frames (sag : Fin 16) (r : Fin 4) (timeout : Bool) (s : State) : Out'.frames (execDmaHostError sag r timeout s) s 0x388000000000000000000000000000000000000000000000000000000000000000000800000000000000000000000000000000000000000000000000000000000000000000000000000000000000000000000000000000000000000000000000000000000000000424 := by
  unfold execDmaHostError
  refine done_frames s fun u => ?_
  dsimp only
  repeat' first
    | with_reducible rfl
    | simp (disch := decide) only [State.blur_ite, State.descStatus_blur, State.hostErr_blur, State.aer_blur, State.setRing_blur, State.wr_blur, State.raise_blur]
    | with_reducible refine State.blur_when _ _ _ ?_
    | with_reducible refine (State.blur_when _ _ _ ?_).trans ?_
    | split

theorem execDmaArbitrationFrame_frames (s : State) : Out'.frames (execDmaArbitrationFrame s) s 0x400 := by
  unfold execDmaArbitrationFrame
  refine done_frames s fun u => ?_
  simp (disch := decide) only [State.blur_with_host]

theorem execSpiWriteFrame_frames (bytes : List Byte) (extraBits : Fin 8) (s : State) : Out'.frames (execSpiWriteFrame bytes extraBits s) s 0x1e020000004 := by
  unfold execSpiWriteFrame
  refine spiFrame_frames s fun u => ?_
  dsimp only
  repeat' first
    | with_reducible rfl
    | simp (disch := decide) only [State.blur_ite, ite_self, State.send_blur, State.spiTaken_blur, State.blur_with_spi]

theorem execSpiReadFrame_frames (bytes : List Byte) (len : Nat) (extraBits : Fin 8) (s : State) : Out'.frames (execSpiReadFrame bytes len extraBits s) s 0x401000070000000380600000000000000000000000000000003c000000a000000000002018000ffc000000000000018000001fffe0000f00000000000004000600803f800000000000000700018000000000000000000000010000000000020000000003e010806444 := by
  have hkeys : ∀ x ∈ countFields.map Fld.key, Nat.testBit 0x401000070000000380600000000000000000000000000000003c000000a000000000002018000ffc000000000000018000001fffe0000f00000000000004000600803f800000000000000700018000000000000000000000010000000000020000000003e010806444 (32 + x % 1024) = true := by
    rw [countFields_keys]
    decide
  have hclear (u : State) (c : Option (Reg × Nat)) (v : Nat) : (u.busClear c v).blur 0x401000070000000380600000000000000000000000000000003c000000a000000000002018000ffc000000000000018000001fffe0000f00000000000004000600803f800000000000000700018000000000000000000000010000000000020000000003e010806444 = u.blur 0x401000070000000380600000000000000000000000000000003c000000a000000000002018000ffc000000000000018000001fffe0000f00000000000004000600803f800000000000000700018000000000000000000000010000000000020000000003e010806444 :=
    u.busClear_counts c v fun f hf => hkeys _ (List.mem_map_of_mem hf)
  unfold execSpiReadFrame
  refine spiFrame_frames s fun u => ?_
  dsimp only
  split
  · exact (State.spiTaken_blur _ _ _ (by decide)).trans (u.send_blur _ (by decide))
  split
  · exact (State.spiTaken_blur _ _ _ (by decide)).trans ((State.send_blur _ _ (by decide)).trans (u.freeWords_blur _ (by decide)))
  split
  · exact (State.spiTaken_blur _ _ _ (by decide)).trans ((State.send_blur _ _ (by decide)).trans (u.spiWords_blur _ _ _ (by decide)))
  · refine (State.spiTaken_blur _ _ _ (by decide)).trans ((State.blur_foldl _ _ _ fun t c => hclear t _ _).trans ?_)
    exact (State.send_blur _ _ (by decide)).trans (u.spiWords_blur _ _ _ (by decide))

theorem execSpiStatusFrame_frames (s : State) : Out'.frames (execSpiStatusFrame s) s 0x1e000000004 := by
  unfold execSpiStatusFrame
  refine spiFrame_frames s fun u => ?_
  repeat' first
    | with_reducible rfl
    | simp (disch := decide) only [State.send_blur, State.spiTaken_blur]

theorem execSpiReservedCommand_frames (cmd : Byte) (s : State) : Out'.frames (execSpiReservedCommand cmd s) s 0x1e000000004 := by
  unfold execSpiReservedCommand
  refine spiFrame_frames s fun u => ?_
  repeat' first
    | with_reducible rfl
    | simp (disch := decide) only [State.blur_ite, ite_self, State.send_blur, State.spiTaken_blur]

theorem execSpiCommitDone_frames (s : State) : Out'.frames (execSpiCommitDone s) s 0xffffffffffffffffffffffffffffffffffffffffffffffffffffffffffffffffffffffffffffffffffffffffffffffffffffffffffffffffffffffffffffffffffffffffffffffffffffffffffffffffffffffffffffffffffffffffffffffffffffffffffffffffffffffffffffffffffffffffffffffffffffffffffffffffffffffff := by
  exact done_frames s fun u => State.blur_all _ _

theorem execFlashLockReq_frames (rq : Req) (s : State) : Out'.frames (execFlashLockReq rq s) s 0x60000000000e0000000000000000000000000000000000000000000000000000000000000000000000000000000000000000000000000000000000000000000000000000000000000000004 := by
  unfold execFlashLockReq
  refine writeRow_frames s (fun _ _ => ?_) (by decide)
  simp (disch := decide) only [flsLockHook_blur]

theorem execFlashLockRelease_frames (rq : Req) (s : State) : Out'.frames (execFlashLockRelease rq s) s 0x60000000000e0000000000000000000000000000000000000000000000000000000000000000000000000000000000000000000000000000000000000000000000000000000000000000004 := by
  unfold execFlashLockRelease
  refine writeRow_frames s (fun _ _ => ?_) (by decide)
  simp (disch := decide) only [flsLockHook_blur]

theorem execFlashCmdGo_frames (rq : Req) (w : Word) (s : State) : Out'.frames (execFlashCmdGo rq w s) s 0x82fe0000000e0000000000000000000000000000000000000000000000000000000000000000000000000000000000000000000000000000000000000000000000000000000000010000004 := by
  unfold execFlashCmdGo
  refine writeRow_frames s (fun _ _ => ?_) (by decide)
  simp (disch := decide) only [flsCmdHook_blur]

theorem execFlashCmdDone_frames (status : Byte) (bytes : List Byte) (s : State) : Out'.frames (execFlashCmdDone status bytes s) s 0x1108200000000000000000000000000000000000000000000000000000000000000000000000000000000000000000000000000000000000000000000000000000000000000000000010000004 := by
  unfold execFlashCmdDone
  refine done_frames s fun u => ?_
  dsimp only
  repeat' first
    | with_reducible rfl
    | simp (disch := decide) only [State.blur_ite, State.putFlsByte_blur, State.flashEffect_blur, State.wr_blur, State.blur_with_flash]
    | with_reducible refine State.blur_when _ _ _ ?_
    | with_reducible refine (State.blur_when _ _ _ ?_).trans ?_
    | with_reducible refine State.blur_foldl _ _ _ (fun t n => ?_)
    | with_reducible refine (State.blur_foldl _ _ _ (fun t n => ?_)).trans ?_
    | split

theorem execFlashWindowRead_frames (rq : Req) (off : Nat) (long : Bool) (s : State) : Out'.frames (execFlashWindowRead rq off long s) s 0xa0000000000000000000000000000000000000000000000000000000000000000000000000000000000000000000000000000000000000000000000000000000000000000000000010000004 := by
  unfold execFlashWindowRead
  refine done_frames s fun u => ?_
  simp (disch := decide) only [State.blur_ite, ite_self, State.send_blur, State.winRead_blur]

theorem execFlashWindowWrite_frames (rq : Req) (off : Nat) (bytes : List Byte) (s : State) : Out'.frames (execFlashWindowWrite rq off bytes s) s 0x680000000000e0000000000000000000000000000000000000000000000000000000000000000000000000000000000000000000000000000000000000000000000000000000000010000004 := by
  unfold execFlashWindowWrite
  refine done_frames s fun u => ?_
  simp (disch := decide) only [State.blur_ite, ite_self, State.winAct_blur]

theorem execFlashProgramDone_frames (status : Byte) (s : State) : Out'.frames (execFlashProgramDone status s) s 0x108000000000000000000000000000000000000000000000000000000000000000000000000000000000000000000000000000000000000000000000000000000000000000000000010000004 := by
  unfold execFlashProgramDone
  refine done_frames s fun u => ?_
  simp (disch := decide) only [State.blur_ite, ite_self, State.wr_blur, State.programEnd_blur]

theorem execFlashPollTimeout_frames (status : Byte) (s : State) : Out'.frames (execFlashPollTimeout status s) s 0x118200000000000000000000000000000000000000000000000000000000000000000000000000000000000000000000000000000000000000000000000000000000000000000000010000004 := by
  unfold execFlashPollTimeout
  refine done_frames s fun u => ?_
  dsimp only
  repeat' first
    | with_reducible rfl
    | simp (disch := decide) only [State.blur_ite, State.wr_blur, State.programEnd_blur, State.flashEffect_blur, State.blur_with_flash]
    | with_reducible refine State.blur_when _ _ _ ?_
    | with_reducible refine (State.blur_when _ _ _ ?_).trans ?_
    | split

theorem execCalReq_frames (rq : Req) (q : Fin 4) (w : Word) (s : State) : Out'.frames (execCalReq rq q w s) s 0x400000000000000000000000000001f20000000000000e0000000000000000000000000000000000000000000000000000000000000000000000000000000000000000000000000000000000000000000000000000000000000010804 := by
  unfold execCalReq
  refine writeRow_frames s (fun _ _ => ?_) (by decide)
  simp (disch := decide) only [calCtlHook_blur]

theorem execCalAbort_frames (rq : Req) (q : Fin 4) (w : Word) (s : State) : Out'.frames (execCalAbort rq q w s) s 0x400000000000000000000000000001f20000000000000e0000000000000000000000000000000000000000000000000000000000000000000000000000000000000000000000000000000000000000000000000000000000000010804 := by
  unfold execCalAbort
  refine writeRow_frames s (fun _ _ => ?_) (by decide)
  simp (disch := decide) only [calCtlHook_blur]

theorem execCalStepDone_frames (q : Fin 4) (x : CalOutcome) (verr : Int) (terr : Int) (s : State) : Out'.frames (execCalStepDone q x verr terr s) s 0x77fffff80001007040400000000007007ffffe10003fc79c400000000000000000000000000000000000000000000ffffffff007ffffffffffff80000000000000000000000000000000000000001ea00000000000107f060000000000000004000008fbba4 := by
  unfold execCalStepDone
  refine done_frames s fun u => ?_
  dsimp only
  repeat' first
    | with_reducible rfl
    | simp (disch := decide) only [State.blur_ite, ite_self, State.calNext_blur, State.calSpine_blur, State.calAttempt_blur]
    | split

theorem execCalRetry_frames (q : Fin 4) (ok : Bool) (verr : Int) (terr : Int) (s : State) : Out'.frames (execCalRetry q ok verr terr s) s 0x3c479c400000000000000000000000000000000000000000000000000000000000000000000000000000000000000000000000000000000000000000000000001000000000000000000004000000900a4 := by
  unfold execCalRetry
  refine done_frames s fun u => ?_
  dsimp only
  repeat' first
    | with_reducible rfl
    | simp (disch := decide) only [State.blur_ite, ite_self, State.calSpine_blur, State.setCal_blur, State.calSpineFail_blur]
    | split

theorem execCalRunLimit_frames (q : Fin 4) (s : State) : Out'.frames (execCalRunLimit q s) s 0x878c40000000000000000000000000000000000000000000000000000000000000000000000000000000000000000000000000000000000000000000000000000000000000000000000000000090024 := by
  unfold execCalRunLimit
  refine done_frames s fun u => ?_
  dsimp only
  repeat' first
    | with_reducible rfl
    | simp (disch := decide) only [State.blur_ite, State.calResult_blur, State.setCal_blur, State.bump_blur, State.calGo_blur]
    | with_reducible refine State.blur_foldl _ _ _ (fun t n => ?_)
    | with_reducible refine (State.blur_foldl _ _ _ (fun t n => ?_)).trans ?_
    | split

theorem execCalBudgetExpire_frames (s : State) : Out'.frames (execCalBudgetExpire s) s 0x30478c400000000000000000000000000000000000000000000000000000000000000000000000000000000000000000000000000000000000000000000000001000000000000000000004000000900a4 := by
  unfold execCalBudgetExpire
  refine done_frames s fun u => ?_
  dsimp only
  repeat' first
    | with_reducible rfl
    | simp (disch := decide) only [State.blur_ite, ite_self, State.setCal_blur, State.calSkip_blur, State.calComplete_blur]
    | with_reducible refine State.blur_each _ _ _ (fun t n => ?_)
    | with_reducible refine (State.blur_each _ _ _ (fun t n => ?_)).trans ?_
    | with_reducible refine State.blur_foldl _ _ _ (fun t n => ?_)
    | with_reducible refine (State.blur_foldl _ _ _ (fun t n => ?_)).trans ?_
    | split

theorem execGlazeStep_frames (t : Fin 16) (s : State) : Out'.frames (execGlazeStep t s) s 0x20000 := by
  unfold execGlazeStep
  refine done_frames s fun u => ?_
  repeat' first
    | with_reducible rfl
    | simp (disch := decide) only [State.glaze_blur]
    | with_reducible refine State.blur_each _ _ _ (fun t n => ?_)

theorem execHkRound_frames (temps : List Int) (rails : List Int) (spines : List Int) (s : State) : Out'.frames (execHkRound temps rails spines s) s 0xffffffffffffffffffffffffffffffffffffffffffffffffffffffffffffffffffffffffffffffffffffffffffffffffffffffffffffffffffffffffffffffffffffffffffffffffffffffffffffffffffffffffffffffffffffffffffffffffffffffffffffffffffffffffffffffffffffffffffffffffffffffffffffffffffffffff := by
  exact doneAll_frames s fun u => State.blur_all _ _

theorem execSensorReadmit_frames (rq : Req) (w : Word) (s : State) : Out'.frames (execSensorReadmit rq w s) s 0xe0000000000000000000000000000000000000000000000000000000000000000000000000000000000000000000000000000000000000000000040000000000000040000004 := by
  unfold execSensorReadmit
  refine writeRow_frames s (fun _ _ => ?_) (by decide)
  simp (disch := decide) only [readmitHook_blur]

theorem execMarkWorn_frames (rq : Req) (w : Word) (s : State) : Out'.frames (execMarkWorn rq w s) s 0x77fffff80001007040000000000007007ffffe1a00008000000000000000000e00000000000000000000000000000ffffffff007ffffffffffff80000000000000000000000000000000000000001e200000000000107f0600000000000000040000081bba4 := by
  unfold execMarkWorn
  refine writeRow_frames s (fun _ _ => ?_) (by decide)
  simp (disch := decide) only [sprCmdHook_blur]

theorem execMarkFailed_frames (rq : Req) (w : Word) (s : State) : Out'.frames (execMarkFailed rq w s) s 0x77fffff80001007040000000000007007ffffe1a00008000000000000000000e00000000000000000000000000000ffffffff007ffffffffffff80000000000000000000000000000000000000001e200000000000107f0600000000000000040000081bba4 := by
  unfold execMarkFailed
  refine writeRow_frames s (fun _ _ => ?_) (by decide)
  simp (disch := decide) only [sprCmdHook_blur]

theorem execSprSelfTest_frames (rq : Req) (w : Word) (s : State) : Out'.frames (execSprSelfTest rq w s) s 0x77fffff80001007040000000000007007ffffe1a00008000000000000000000e00000000000000000000000000000ffffffff007ffffffffffff80000000000000000000000000000000000000001e200000000000107f0600000000000000040000081bba4 := by
  unfold execSprSelfTest
  refine writeRow_frames s (fun _ _ => ?_) (by decide)
  simp (disch := decide) only [sprCmdHook_blur]

theorem execSelfTestDone_frames (failed : List Nat) (s : State) : Out'.frames (execSelfTestDone failed s) s 0x77fffff80001007040000000000007007ffffe1800008000000000000000000000000000000000000000000000000ffffffff007ffffffffffff80000000000000000000000000000000000000001ea00000000000107f0600000000000000040000081bba4 := by
  unfold execSelfTestDone
  refine done_frames s fun u => ?_
  dsimp only
  repeat' first
    | with_reducible rfl
    | simp (disch := decide) only [State.testFails_blur, State.wr_blur, State.blur_with_spare]
    | split

theorem execSpareIn_frames (place : Nat) (s : State) : Out'.frames (execSpareIn place s) s 0x77fffff80001007040000000000007007ffffe1000008000000000000000000000000000000000000000000000000ffffffff007ffffffffffff80000000000000000000000000000000000000001e200000000000107f0600000000000000040000081b3a4 := by
  unfold execSpareIn
  refine done_frames s fun u => ?_
  simp (disch := decide) only [State.blur_ite, ite_self, State.spareAll_blur]

theorem execRepairMapWrite_frames (s : State) : Out'.frames (execRepairMapWrite s) s 0x400000000000000003000000000000000000000000104 := by
  unfold execRepairMapWrite
  refine done_frames s fun u => ?_
  simp (disch := decide) only [State.blur_ite, ite_self, State.wr_blur, State.nvmStart_blur]

theorem execNvmRead_frames (rq : Req) (w : Word) (s : State) : Out'.frames (execNvmRead rq w s) s 0x70000000000000000000000e000000000000000000000000000000000000000000000000000000000000000000000000000000000000000000000000000000001c000001800000000000000000000000104 := by
  unfold execNvmRead
  refine writeRow_frames s (fun _ _ => ?_) (by decide)
  simp (disch := decide) only [nvmCmdHook_blur]

theorem execNvmUserWrite_frames (rq : Req) (w : Word) (s : State) : Out'.frames (execNvmUserWrite rq w s) s 0x70000000000000000000000e000000000000000000000000000000000000000000000000000000000000000000000000000000000000000000000000000000001c000001800000000000000000000000104 := by
  unfold execNvmUserWrite
  refine writeRow_frames s (fun _ _ => ?_) (by decide)
  simp (disch := decide) only [nvmCmdHook_blur]

theorem execNvmWriteDone_frames (bad : List Nat) (s : State) : Out'.frames (execNvmWriteDone bad s) s 0x30000000000000000000000000000000000000000000000000000000000000000000000000000000000000000000000000000000000000000000000000000000101000290000000000000004000000001a4 := by
  have hretire : ∀ (l : List Nat) (a : State × Bool), (l.foldl (fun a l => if a.2 then a.1.retirePage l else a) a).1.blur 0x30000000000000000000000000000000000000000000000000000000000000000000000000000000000000000000000000000000000000000000000000000000101000290000000000000004000000001a4 = a.1.blur 0x30000000000000000000000000000000000000000000000000000000000000000000000000000000000000000000000000000000000000000000000000000000101000290000000000000004000000001a4 := by
    intro l
    induction l with
    | nil => exact fun _ => rfl
    | cons n r ih =>
      refine fun a => (ih _).trans ?_
      dsimp only
      split
      · exact a.1.retirePage_blur n (by decide)
      · rfl
  unfold execNvmWriteDone
  refine done_frames s fun u => ?_
  dsimp only
  split
  · rfl
  split
  · next j _ _ =>
    have hp := (State.blur_with_nvm (u.nvmProgram j) { (u.nvmProgram j).nvm with chosen := smSet ⟨1, 0, false⟩ (u.nvmProgram j).nvm.chosen j.kind ⟨j.copy, j.seq, true⟩ } (b := 0x30000000000000000000000000000000000000000000000000000000000000000000000000000000000000000000000000000000000000000000000000000000101000290000000000000004000000001a4) (by decide)).trans (u.nvmProgram_blur j (by decide))
    split
    · exact (State.nvmStart_blur _ _ _ _ (by decide)).trans hp
    · exact (State.nvmEnd_blur _ _ _ (by decide)).trans hp
  split
  · exact (State.nvmEnd_blur _ _ _ (by decide)).trans (u.wr_blur _ _ _ (by decide))
  split
  · exact (State.blur_with_nvm _ _ (by decide)).trans (hretire _ (u, true))
  · exact (State.nvmEnd_blur _ _ _ (by decide)).trans (hretire _ (u, true))

theorem execShardWrite_frames (s : State) : Out'.frames (execShardWrite s) s 0xa0 := by
  unfold execShardWrite
  refine done_frames s fun u => ?_
  dsimp only
  repeat' first
    | with_reducible rfl
    | simp (disch := decide) only [State.raise_blur, State.blur_with_log]
    | split

theorem execForerunnerStart_frames (p : Fin 4) (edge : Fin 2) (s : State) : Out'.frames (execForerunnerStart p edge s) s 0x600000000000000000010000008000000000000000000000000000000000000000000000000000000000000000000000000000000000417c20c00009fc0000001e0000000000000000000000000000000000000000000000002510824 := by
  unfold execForerunnerStart
  refine done_frames s fun u => ?_
  dsimp only
  repeat' first
    | with_reducible rfl
    | simp (disch := decide) only [State.blur_ite, State.personaFlag_blur, State.tileStart_blur]
    | with_reducible refine State.blur_each _ _ _ (fun t n => ?_)
    | with_reducible refine (State.blur_each _ _ _ (fun t n => ?_)).trans ?_
    | split

theorem execForerunnerStop_frames (p : Fin 4) (s : State) : Out'.frames (execForerunnerStop p s) s 0x400000000000000000000000008000000000000000000000000000000000000000000000000000000000000000000000000000000028003c2000000004000000000000090040000000000000000000000000000000000000000511824 := by
  unfold execForerunnerStop
  refine done_frames s fun u => ?_
  repeat' first
    | with_reducible rfl
    | simp (disch := decide) only [State.blur_ite, ite_self, State.tileStop_blur]
    | with_reducible refine State.blur_each _ _ _ (fun t n => ?_)
    | with_reducible refine (State.blur_each _ _ _ (fun t n => ?_)).trans ?_
    | split

theorem execForerunnerCalibrate_frames (p : Fin 4) (s : State) : Out'.frames (execForerunnerCalibrate p s) s 0x40000000000000000000000000000000000000000000000000000000000000000000000000000000000000000000000000000000000000000000000000000000000000000000000000000010004 := by
  unfold execForerunnerCalibrate
  refine done_frames s fun u => ?_
  simp (disch := decide) only [State.blur_ite, ite_self, State.calReq_blur]

theorem execForerunnerReset_frames (p : Fin 4) (s : State) : Out'.frames (execForerunnerReset p s) s 0x400000000000000000000000008000000000000000000000000000000000000000000000000000000000000000000000000000000028003c2000000004000000000000090040000000000000000000000000000000000000080511824 := by
  unfold execForerunnerReset
  refine done_frames s fun u => ?_
  dsimp only
  repeat' first
    | with_reducible rfl
    | simp (disch := decide) only [State.blur_ite, ite_self, State.tileStop_blur, State.blur_with_legacy]
    | with_reducible refine State.blur_each _ _ _ (fun t n => ?_)
    | with_reducible refine (State.blur_each _ _ _ (fun t n => ?_)).trans ?_
    | split

theorem execForerunnerTimingWrite_frames (p : Fin 4) (set : Fin 16) (ch : Fin 256) (item : Fin 8) (units : Nat) (s : State) : Out'.frames (execForerunnerTimingWrite p set ch item units s) s 0x8000000000000000000000000e0000000000000000000000000000000000000000000000000000000000000000000000000000000000000000000000000000000000000000000000000000000000080100004 := by
  unfold execForerunnerTimingWrite
  refine done_frames s fun u => ?_
  simp (disch := decide) only [State.blur_ite, ite_self, State.personaFlag_blur, State.personaRefuse_blur, State.timingApply_blur, State.blur_with_legacy]

theorem execForerunnerLevelWrite_frames (p : Fin 4) (ch : Fin 256) (set : Fin 8) (dac : Fin 8) (mv : Int) (s : State) : Out'.frames (execForerunnerLevelWrite p ch set dac mv s) s 0x400000000000000000000000008000000000000000000e0000000000000000000000000000000000000000000000000000000000000000000000000000000000000001892040000000000000000000000000000000000000080111804 := by
  unfold execForerunnerLevelWrite
  refine done_frames s fun u => ?_
  simp (disch := decide) only [State.blur_ite, State.blur_ite_fst, ite_self, State.legacySpan_blur, lvlSetHook_blur, State.personaRefuse_blur, State.blur_with_legacy]

theorem execForerunnerVectorWrite_frames (rq : Req) (off : Nat) (bytes : List Byte) (s : State) : Out'.frames (execForerunnerVectorWrite rq off bytes s) s 0xe00000000000000000000000000000000000000000000000000000000000000000000000000003900000000000000000000000000001200060000000000000004000002007a4 := by
  unfold execForerunnerVectorWrite
  refine done_frames s fun u => ?_
  simp (disch := decide) only [State.blur_ite, ite_self, State.legacyWrite_blur]

theorem execTimeTick_frames (s : State) : Out'.frames (execTimeTick s) s 0x2000000000000000000000000000000000000002500845 := by
  refine frames_of_out ?_
  unfold execTimeTick
  dsimp only
  split
  · exact clocked_frames _ _ _ (by decide) (State.tickWork_blur _ (by decide))
  · exact ⟨_, rfl, rfl, rfl, rfl⟩

theorem execComparatorSample_frames (l : Fin 1024) (s : State) : Out'.frames (execComparatorSample l s) s 0x400000000000000000000000000000000000000000000000000000000000000000000000000000000000000000000000000000000000000000000000000000000000000000000000000000000000000000000000000000000000824 := by
  unfold execComparatorSample
  refine done_frames s fun u => ?_
  simp (disch := decide) only [State.laneSample_blur]

theorem execRsvClass_frames (q : Fin 17) (s : State) : Out'.frames (execRsvClass q s) s 0x38000004000000000000080000000000080000002000000000000000000000000000000000000000000001f8000700000000000000000000028003c2000d009fc000000000000090040001108000000100000000000000000000400003d138ac := by
  unfold execRsvClass
  refine done_frames s fun u => ?_
  repeat' first
    | with_reducible rfl
    | simp (disch := decide) only [State.machineCheck_blur]
    | with_reducible refine State.execMicro_blur _ _ _ _ (by decide) (fun u pc w => ?_)

theorem execPcieLinkTrained_frames (link : Fin 4) (speed : Nat) (width : Nat) (s : State) : Out'.frames (execPcieLinkTrained link speed width s) s 0x400 := by
  unfold execPcieLinkTrained
  refine done_frames s fun u => ?_
  simp (disch := decide) only [State.blur_ite, ite_self, State.blur_with_host]

theorem execVfEnable_frames (link : Fin 4) (on : Bool) (numVfs : Nat) (s : State) : Out'.frames (execVfEnable link on numVfs s) s 0x400 := by
  unfold execVfEnable
  refine done_frames s fun u => ?_
  dsimp only
  repeat' first
    | with_reducible rfl
    | simp (disch := decide) only [State.blur_ite, State.fnClear_blur, State.blur_with_host]
    | with_reducible refine State.blur_when _ _ _ ?_
    | with_reducible refine (State.blur_when _ _ _ ?_).trans ?_
    | with_reducible refine State.blur_each _ _ _ (fun t n => ?_)
    | with_reducible refine (State.blur_each _ _ _ (fun t n => ?_)).trans ?_
    | split

theorem execRailGood_frames (rail : Fin 8) (s : State) : Out'.frames (execRailGood rail s) s 0x400000000000000000000000000000000000000000000000000000000000000000000000000000000000000000000000000000000000000000000000000000000000000000000000000000000000000000000000100040000000008ec := by
  unfold execRailGood
  refine doneAll_frames s fun u => ?_
  split
  · rfl
  · refine (State.selectors_blur _ (by decide)).trans ((State.release'_blur _ (by decide)).trans ((State.resample_blur _ (by decide)).trans ?_))
    exact u.blur_with_m _ (by decide)

theorem execSpiHeaderFrame_frames (bitsSent : Fin 8) (s : State) : Out'.frames (execSpiHeaderFrame bitsSent s) s 0x1e000000004 := by
  unfold execSpiHeaderFrame
  refine done_frames s fun u => ?_
  simp (disch := decide) only [State.blur_ite, ite_self, State.spiTaken_blur]

theorem execLinkProtocolFault_frames (f : Fin 64) (kind : Fin 4) (s : State) : Out'.frames (execLinkProtocolFault f kind s) s 0x400 := by
  unfold execLinkProtocolFault
  refine done_frames s fun u => ?_
  simp (disch := decide) only [State.blur_ite, ite_self, State.aer_blur]

/-- The mask of a command, from the rows of the two tables. -/
theorem frames_of_mask {o : Out'} {s : State} {b m : Nat} (h : Out'.frames o s b) (e : m = b) : Out'.frames o s m := e ▸ h

/-- Every command but the end of a fuse command keeps queue and fuses and changes only what its rows list. -/
theorem exec_frames (c : Instr) (s : State) (hne : c ≠ .fuseCmdDone) : Out'.frames (exec c s) s (Instr.frame c) := by
  cases c with
  | fuseCmdDone => exact absurd rfl hne
  | aonReset => exact frames_of_mask (execAonReset_frames s) (by simp only [Instr.frame, partsOf, fieldsOf]; decide +kernel)
  | porstAssert => exact frames_of_mask (execPorstAssert_frames s) (by simp only [Instr.frame, partsOf, fieldsOf]; decide +kernel)
  | porstRelease straps => exact frames_of_mask (execPorstRelease_frames straps s) (by simp only [Instr.frame, partsOf, fieldsOf]; decide +kernel)
  | flashIdentify present id => exact frames_of_mask (execFlashIdentify_frames present id s) (by simp only [Instr.frame, partsOf, fieldsOf]; decide +kernel)
  | supplyOrderDeparture => exact frames_of_mask (execSupplyOrderDeparture_frames s) (by simp only [Instr.frame, partsOf, fieldsOf]; decide +kernel)
  | railFail rail => exact frames_of_mask (execRailFail_frames rail s) (by simp only [Instr.frame, partsOf, fieldsOf]; decide +kernel)
  | softReset rq w => exact frames_of_mask (execSoftReset_frames rq w s) (by simp only [Instr.frame, partsOf, fieldsOf]; decide +kernel)
  | softResetComplete => exact frames_of_mask (execSoftResetComplete_frames s) (by simp only [Instr.frame, partsOf, fieldsOf]; decide +kernel)
  | functionLevelReset f => exact frames_of_mask (execFunctionLevelReset_frames f s) (by simp only [Instr.frame, partsOf, fieldsOf]; decide +kernel)
  | hotReset link linkDown => exact frames_of_mask (execHotReset_frames link linkDown s) (by simp only [Instr.frame, partsOf, fieldsOf]; decide +kernel)
  | d3hotEntry f => exact frames_of_mask (execD3hotEntry_frames f s) (by simp only [Instr.frame, partsOf, fieldsOf]; decide +kernel)
  | refLost => exact frames_of_mask (execRefLost_frames s) (by simp only [Instr.frame, partsOf, fieldsOf]; decide +kernel)
  | refPresent => exact frames_of_mask (execRefPresent_frames s) (by simp only [Instr.frame, partsOf, fieldsOf]; decide +kernel)
  | relockStart => exact frames_of_mask (execRelockStart_frames s) (by simp only [Instr.frame, partsOf, fieldsOf]; decide +kernel)
  | relockDone => exact frames_of_mask (execRelockDone_frames s) (by simp only [Instr.frame, partsOf, fieldsOf]; decide +kernel)
  | pllLock => exact frames_of_mask (execPllLock_frames s) (by simp only [Instr.frame, partsOf, fieldsOf]; decide +kernel)
  | mouldStart rq => exact frames_of_mask (execMouldStart_frames rq s) (by simp only [Instr.frame, partsOf, fieldsOf]; decide +kernel)
  | mouldAbort rq => exact frames_of_mask (execMouldAbort_frames rq s) (by simp only [Instr.frame, partsOf, fieldsOf]; decide +kernel)
  | imageReadDone ok bytes => exact frames_of_mask (execImageReadDone_frames ok bytes s) (by simp only [Instr.frame, partsOf, fieldsOf]; decide +kernel)
  | fuseProgram rq slot => exact frames_of_mask (execFuseProgram_frames rq slot s) (by simp only [Instr.frame, partsOf, fieldsOf]; decide +kernel)
  | fuseRevoke rq slot => exact frames_of_mask (execFuseRevoke_frames rq slot s) (by simp only [Instr.frame, partsOf, fieldsOf]; decide +kernel)
  | modeReqService rq w => exact frames_of_mask (execModeReqService_frames rq w s) (by simp only [Instr.frame, partsOf, fieldsOf]; decide +kernel)
  | modeReqIdle rq w => exact frames_of_mask (execModeReqIdle_frames rq w s) (by simp only [Instr.frame, partsOf, fieldsOf]; decide +kernel)
  | modeReqRun rq w => exact frames_of_mask (execModeReqRun_frames rq w s) (by simp only [Instr.frame, partsOf, fieldsOf]; decide +kernel)
  | transitionDone hard => exact frames_of_mask (execTransitionDone_frames hard s) (by simp only [Instr.frame, partsOf, fieldsOf]; decide +kernel)
  | startupStepDone failed storeFails hard => exact frames_of_mask (execStartupStepDone_frames failed storeFails hard s) (by simp only [Instr.frame, partsOf, fieldsOf]; decide +kernel)
  | devStartGo rq w edge => exact frames_of_mask (execDevStartGo_frames rq w edge s) (by simp only [Instr.frame, partsOf, fieldsOf]; decide +kernel)
  | armedStart who edge => exact frames_of_mask (execArmedStart_frames who edge s) (by simp only [Instr.frame, partsOf, fieldsOf]; decide +kernel)
  | devStartCancel rq w => exact frames_of_mask (execDevStartCancel_frames rq w s) (by simp only [Instr.frame, partsOf, fieldsOf]; decide +kernel)
  | sagStartGo rq w edge => exact frames_of_mask (execSagStartGo_frames rq w edge s) (by simp only [Instr.frame, partsOf, fieldsOf]; decide +kernel)
  | sagStartCancel rq w => exact frames_of_mask (execSagStartCancel_frames rq w s) (by simp only [Instr.frame, partsOf, fieldsOf]; decide +kernel)
  | registerWrite rq off w be => exact frames_of_mask (execRegisterWrite_frames rq off w be s) (by simp only [Instr.frame, partsOf, fieldsOf]; decide +kernel)
  | badSizeRequest f write off => exact frames_of_mask (execBadSizeRequest_frames f write off s) (by simp only [Instr.frame, partsOf, fieldsOf]; decide +kernel)
  | unsupportedRequest f => exact frames_of_mask (execUnsupportedRequest_frames f s) (by simp only [Instr.frame, partsOf, fieldsOf]; decide +kernel)
  | poisonedTlpReceived f bar2 off => exact frames_of_mask (execPoisonedTlpReceived_frames f bar2 off s) (by simp only [Instr.frame, partsOf, fieldsOf]; decide +kernel)
  | rcRead rq off => exact frames_of_mask (execRcRead_frames rq off s) (by simp only [Instr.frame, partsOf, fieldsOf]; decide +kernel)
  | rsnLowRead rq off => exact frames_of_mask (execRsnLowRead_frames rq off s) (by simp only [Instr.frame, partsOf, fieldsOf]; decide +kernel)
  | drvTripClear rq l w => exact frames_of_mask (execDrvTripClear_frames rq l w s) (by simp only [Instr.frame, partsOf, fieldsOf]; decide +kernel)
  | driverTrip l => exact frames_of_mask (execDriverTrip_frames l s) (by simp only [Instr.frame, partsOf, fieldsOf]; decide +kernel)
  | comparatorChange l ball => exact frames_of_mask (execComparatorChange_frames l ball s) (by simp only [Instr.frame, partsOf, fieldsOf]; decide +kernel)
  | clampHit l => exact frames_of_mask (execClampHit_frames l s) (by simp only [Instr.frame, partsOf, fieldsOf]; decide +kernel)
  | laneSwapReq rq l w => exact frames_of_mask (execLaneSwapReq_frames rq l w s) (by simp only [Instr.frame, partsOf, fieldsOf]; decide +kernel)
  | handoverStart l => exact frames_of_mask (execHandoverStart_frames l s) (by simp only [Instr.frame, partsOf, fieldsOf]; decide +kernel)
  | handoverDone l => exact frames_of_mask (execHandoverDone_frames l s) (by simp only [Instr.frame, partsOf, fieldsOf]; decide +kernel)
  | ppmuConnectWrite rq l w => exact frames_of_mask (execPpmuConnectWrite_frames rq l w s) (by simp only [Instr.frame, partsOf, fieldsOf]; decide +kernel)
  | ppmuCompliance l on => exact frames_of_mask (execPpmuCompliance_frames l on s) (by simp only [Instr.frame, partsOf, fieldsOf]; decide +kernel)
  | dacTick => exact frames_of_mask (execDacTick_frames s) (by simp only [Instr.frame, partsOf, fieldsOf]; decide +kernel)
  | dischargeClampEnd dac => exact frames_of_mask (execDischargeClampEnd_frames dac s) (by simp only [Instr.frame, partsOf, fieldsOf]; decide +kernel)
  | updateAllGo rq o w => exact frames_of_mask (execUpdateAllGo_frames rq o w s) (by simp only [Instr.frame, partsOf, fieldsOf]; decide +kernel)
  | tsCommit rq t w => exact frames_of_mask (execTsCommit_frames rq t w s) (by simp only [Instr.frame, partsOf, fieldsOf]; decide +kernel)
  | tsCommitDone t => exact frames_of_mask (execTsCommitDone_frames t s) (by simp only [Instr.frame, partsOf, fieldsOf]; decide +kernel)
  | tsFetch rq t w => exact frames_of_mask (execTsFetch_frames rq t w s) (by simp only [Instr.frame, partsOf, fieldsOf]; decide +kernel)
  | ncoFtwCommit rq t k w => exact frames_of_mask (execNcoFtwCommit_frames rq t k w s) (by simp only [Instr.frame, partsOf, fieldsOf]; decide +kernel)
  | vectorRead t => exact frames_of_mask (execVectorRead_frames t s) (by simp only [Instr.frame, partsOf, fieldsOf]; decide +kernel)
  | successorStart t => exact frames_of_mask (execSuccessorStart_frames t s) (by simp only [Instr.frame, partsOf, fieldsOf]; decide +kernel)
  | tileIdleReturn t => exact frames_of_mask (execTileIdleReturn_frames t s) (by simp only [Instr.frame, partsOf, fieldsOf]; decide +kernel)
  | compareResult l h lo v2 => exact frames_of_mask (execCompareResult_frames l h lo v2 s) (by simp only [Instr.frame, partsOf, fieldsOf]; decide +kernel)
  | failRecordForm t => exact frames_of_mask (execFailRecordForm_frames t s) (by simp only [Instr.frame, partsOf, fieldsOf]; decide +kernel)
  | failLogWrite t => exact frames_of_mask (execFailLogWrite_frames t s) (by simp only [Instr.frame, partsOf, fieldsOf]; decide +kernel)
  | clearAll rq t => exact frames_of_mask (execClearAll_frames rq t s) (by simp only [Instr.frame, partsOf, fieldsOf]; decide +kernel)
  | clearFail rq t slot w => exact frames_of_mask (execClearFail_frames rq t slot w s) (by simp only [Instr.frame, partsOf, fieldsOf]; decide +kernel)
  | clearTb rq t slot w => exact frames_of_mask (execClearTb_frames rq t slot w s) (by simp only [Instr.frame, partsOf, fieldsOf]; decide +kernel)
  | logArm rq t w => exact frames_of_mask (execLogArm_frames rq t w s) (by simp only [Instr.frame, partsOf, fieldsOf]; decide +kernel)
  | logDisarm rq t w => exact frames_of_mask (execLogDisarm_frames rq t w s) (by simp only [Instr.frame, partsOf, fieldsOf]; decide +kernel)
  | logAreaWrite rq t w => exact frames_of_mask (execLogAreaWrite_frames rq t w s) (by simp only [Instr.frame, partsOf, fieldsOf]; decide +kernel)
  | bar2VectorWrite rq off bytes => exact frames_of_mask (execBar2VectorWrite_frames rq off bytes s) (by simp only [Instr.frame, partsOf, fieldsOf]; decide +kernel)
  | bar2CaptureWrite rq off bytes => exact frames_of_mask (execBar2CaptureWrite_frames rq off bytes s) (by simp only [Instr.frame, partsOf, fieldsOf]; decide +kernel)
  | bar2Read rq off len => exact frames_of_mask (execBar2Read_frames rq off len s) (by simp only [Instr.frame, partsOf, fieldsOf]; decide +kernel)
  | ctlwDataWrite rq t w be => exact frames_of_mask (execCtlwDataWrite_frames rq t w be s) (by simp only [Instr.frame, partsOf, fieldsOf]; decide +kernel)
  | storeCfgWrite rq t w => exact frames_of_mask (execStoreCfgWrite_frames rq t w s) (by simp only [Instr.frame, partsOf, fieldsOf]; decide +kernel)
  | scrubRow t => exact frames_of_mask (execScrubRow_frames t s) (by simp only [Instr.frame, partsOf, fieldsOf]; decide +kernel)
  | storeWindowWrite rq off w => exact frames_of_mask (execStoreWindowWrite_frames rq off w s) (by simp only [Instr.frame, partsOf, fieldsOf]; decide +kernel)
  | step q => exact frames_of_mask (execStep_frames q s) (by simp only [Instr.frame, partsOf, fieldsOf]; decide +kernel)
  | jump q => exact frames_of_mask (execJump_frames q s) (by simp only [Instr.frame, partsOf, fieldsOf]; decide +kernel)
  | branch q => exact frames_of_mask (execBranch_frames q s) (by simp only [Instr.frame, partsOf, fieldsOf]; decide +kernel)
  | loop q => exact frames_of_mask (execLoop_frames q s) (by simp only [Instr.frame, partsOf, fieldsOf]; decide +kernel)
  | cntLoadImm q => exact frames_of_mask (execCntLoadImm_frames q s) (by simp only [Instr.frame, partsOf, fieldsOf]; decide +kernel)
  | cntLoadCinit q => exact frames_of_mask (execCntLoadCinit_frames q s) (by simp only [Instr.frame, partsOf, fieldsOf]; decide +kernel)
  | cntIncrement q => exact frames_of_mask (execCntIncrement_frames q s) (by simp only [Instr.frame, partsOf, fieldsOf]; decide +kernel)
  | cntDecrement q => exact frames_of_mask (execCntDecrement_frames q s) (by simp only [Instr.frame, partsOf, fieldsOf]; decide +kernel)
  | cntSnapshot q => exact frames_of_mask (execCntSnapshot_frames q s) (by simp only [Instr.frame, partsOf, fieldsOf]; decide +kernel)
  | play t => exact frames_of_mask (execPlay_frames t s) (by simp only [Instr.frame, partsOf, fieldsOf]; decide +kernel)
  | wait q => exact frames_of_mask (execWait_frames q s) (by simp only [Instr.frame, partsOf, fieldsOf]; decide +kernel)
  | waitConditionMet q => exact frames_of_mask (execWaitConditionMet_frames q s) (by simp only [Instr.frame, partsOf, fieldsOf]; decide +kernel)
  | waitTimeout q => exact frames_of_mask (execWaitTimeout_frames q s) (by simp only [Instr.frame, partsOf, fieldsOf]; decide +kernel)
  | waitWake q => exact frames_of_mask (execWaitWake_frames q s) (by simp only [Instr.frame, partsOf, fieldsOf]; decide +kernel)
  | setLset t => exact frames_of_mask (execSetLset_frames t s) (by simp only [Instr.frame, partsOf, fieldsOf]; decide +kernel)
  | updateAll t => exact frames_of_mask (execUpdateAll_frames t s) (by simp only [Instr.frame, partsOf, fieldsOf]; decide +kernel)
  | measureOpen t => exact frames_of_mask (execMeasureOpen_frames t s) (by simp only [Instr.frame, partsOf, fieldsOf]; decide +kernel)
  | measureClose t => exact frames_of_mask (execMeasureClose_frames t s) (by simp only [Instr.frame, partsOf, fieldsOf]; decide +kernel)
  | yield q => exact frames_of_mask (execYield_frames q s) (by simp only [Instr.frame, partsOf, fieldsOf]; decide +kernel)
  | eventVector q => exact frames_of_mask (execEventVector_frames q s) (by simp only [Instr.frame, partsOf, fieldsOf]; decide +kernel)
  | rete q => exact frames_of_mask (execRete_frames q s) (by simp only [Instr.frame, partsOf, fieldsOf]; decide +kernel)
  | stopDrain t => exact frames_of_mask (execStopDrain_frames t s) (by simp only [Instr.frame, partsOf, fieldsOf]; decide +kernel)
  | stop t => exact frames_of_mask (execStop_frames t s) (by simp only [Instr.frame, partsOf, fieldsOf]; decide +kernel)
  | atomicBegin q => exact frames_of_mask (execAtomicBegin_frames q s) (by simp only [Instr.frame, partsOf, fieldsOf]; decide +kernel)
  | atomicEnd q => exact frames_of_mask (execAtomicEnd_frames q s) (by simp only [Instr.frame, partsOf, fieldsOf]; decide +kernel)
  | mcTrap q => exact frames_of_mask (execMcTrap_frames q s) (by simp only [Instr.frame, partsOf, fieldsOf]; decide +kernel)
  | watchdog q => exact frames_of_mask (execWatchdog_frames q s) (by simp only [Instr.frame, partsOf, fieldsOf]; decide +kernel)
  | nanoWordEffect q => exact frames_of_mask (execNanoWordEffect_frames q s) (by simp only [Instr.frame, partsOf, fieldsOf]; decide +kernel)
  | loaderCheck rq t w => exact frames_of_mask (execLoaderCheck_frames rq t w s) (by simp only [Instr.frame, partsOf, fieldsOf]; decide +kernel)
  | loaderCheckDone t => exact frames_of_mask (execLoaderCheckDone_frames t s) (by simp only [Instr.frame, partsOf, fieldsOf]; decide +kernel)
  | seqScrub rq t w => exact frames_of_mask (execSeqScrub_frames rq t w s) (by simp only [Instr.frame, partsOf, fieldsOf]; decide +kernel)
  | seqScrubDone t hard => exact frames_of_mask (execSeqScrubDone_frames t hard s) (by simp only [Instr.frame, partsOf, fieldsOf]; decide +kernel)
  | jumpRequestGo rq t w => exact frames_of_mask (execJumpRequestGo_frames rq t w s) (by simp only [Instr.frame, partsOf, fieldsOf]; decide +kernel)
  | jumpSrcEdge t => exact frames_of_mask (execJumpSrcEdge_frames t s) (by simp only [Instr.frame, partsOf, fieldsOf]; decide +kernel)
  | ringReset rq t => exact frames_of_mask (execRingReset_frames rq t s) (by simp only [Instr.frame, partsOf, fieldsOf]; decide +kernel)
  | ringCfgWrite rq t w => exact frames_of_mask (execRingCfgWrite_frames rq t w s) (by simp only [Instr.frame, partsOf, fieldsOf]; decide +kernel)
  | slotWrite rq t n w => exact frames_of_mask (execSlotWrite_frames rq t n w s) (by simp only [Instr.frame, partsOf, fieldsOf]; decide +kernel)
  | octMatrixWrite rq o w => exact frames_of_mask (execOctMatrixWrite_frames rq o w s) (by simp only [Instr.frame, partsOf, fieldsOf]; decide +kernel)
  | smuCompliance i on => exact frames_of_mask (execSmuCompliance_frames i on s) (by simp only [Instr.frame, partsOf, fieldsOf]; decide +kernel)
  | smuSenseFault i => exact frames_of_mask (execSmuSenseFault_frames i s) (by simp only [Instr.frame, partsOf, fieldsOf]; decide +kernel)
  | smuSenseRestore rq i w => exact frames_of_mask (execSmuSenseRestore_frames rq i w s) (by simp only [Instr.frame, partsOf, fieldsOf]; decide +kernel)
  | adcGo rq o w => exact frames_of_mask (execAdcGo_frames rq o w s) (by simp only [Instr.frame, partsOf, fieldsOf]; decide +kernel)
  | adcStop rq o w => exact frames_of_mask (execAdcStop_frames rq o w s) (by simp only [Instr.frame, partsOf, fieldsOf]; decide +kernel)
  | adcSlot o code sub => exact frames_of_mask (execAdcSlot_frames o code sub s) (by simp only [Instr.frame, partsOf, fieldsOf]; decide +kernel)
  | adcFifoRead rq o => exact frames_of_mask (execAdcFifoRead_frames rq o s) (by simp only [Instr.frame, partsOf, fieldsOf]; decide +kernel)
  | smuConversion i code => exact frames_of_mask (execSmuConversion_frames i code s) (by simp only [Instr.frame, partsOf, fieldsOf]; decide +kernel)
  | smuFifoRead rq i => exact frames_of_mask (execSmuFifoRead_frames rq i s) (by simp only [Instr.frame, partsOf, fieldsOf]; decide +kernel)
  | dpsOutEn rq d w => exact frames_of_mask (execDpsOutEn_frames rq d w s) (by simp only [Instr.frame, partsOf, fieldsOf]; decide +kernel)
  | dpsSample d i v limiting => exact frames_of_mask (execDpsSample_frames d i v limiting s) (by simp only [Instr.frame, partsOf, fieldsOf]; decide +kernel)
  | dpsHwTrip d => exact frames_of_mask (execDpsHwTrip_frames d s) (by simp only [Instr.frame, partsOf, fieldsOf]; decide +kernel)
  | dpsSenseFault d => exact frames_of_mask (execDpsSenseFault_frames d s) (by simp only [Instr.frame, partsOf, fieldsOf]; decide +kernel)
  | dpsSenseRestore rq d w => exact frames_of_mask (execDpsSenseRestore_frames rq d w s) (by simp only [Instr.frame, partsOf, fieldsOf]; decide +kernel)
  | dpsRestart rq d w => exact frames_of_mask (execDpsRestart_frames rq d w s) (by simp only [Instr.frame, partsOf, fieldsOf]; decide +kernel)
  | dpsPowerEstimate q => exact frames_of_mask (execDpsPowerEstimate_frames q s) (by simp only [Instr.frame, partsOf, fieldsOf]; decide +kernel)
  | tdcArm rq i w => exact frames_of_mask (execTdcArm_frames rq i w s) (by simp only [Instr.frame, partsOf, fieldsOf]; decide +kernel)
  | tdcDisarm rq i w => exact frames_of_mask (execTdcDisarm_frames rq i w s) (by simp only [Instr.frame, partsOf, fieldsOf]; decide +kernel)
  | tdcStartEdge i bin => exact frames_of_mask (execTdcStartEdge_frames i bin s) (by simp only [Instr.frame, partsOf, fieldsOf]; decide +kernel)
  | tdcStopEdge i bin => exact frames_of_mask (execTdcStopEdge_frames i bin s) (by simp only [Instr.frame, partsOf, fieldsOf]; decide +kernel)
  | tdcGateClose i => exact frames_of_mask (execTdcGateClose_frames i s) (by simp only [Instr.frame, partsOf, fieldsOf]; decide +kernel)
  | tdcOverrange i => exact frames_of_mask (execTdcOverrange_frames i s) (by simp only [Instr.frame, partsOf, fieldsOf]; decide +kernel)
  | tdcDeadTimeEnd i => exact frames_of_mask (execTdcDeadTimeEnd_frames i s) (by simp only [Instr.frame, partsOf, fieldsOf]; decide +kernel)
  | tdcResRead rq i => exact frames_of_mask (execTdcResRead_frames rq i s) (by simp only [Instr.frame, partsOf, fieldsOf]; decide +kernel)
  | redOpen rq w => exact frames_of_mask (execRedOpen_frames rq w s) (by simp only [Instr.frame, partsOf, fieldsOf]; decide +kernel)
  | redClose rq w => exact frames_of_mask (execRedClose_frames rq w s) (by simp only [Instr.frame, partsOf, fieldsOf]; decide +kernel)
  | redAbort rq w => exact frames_of_mask (execRedAbort_frames rq w s) (by simp only [Instr.frame, partsOf, fieldsOf]; decide +kernel)
  | contextUpdate residue => exact frames_of_mask (execContextUpdate_frames residue s) (by simp only [Instr.frame, partsOf, fieldsOf]; decide +kernel)
  | resultRecordWrite g => exact frames_of_mask (execResultRecordWrite_frames g s) (by simp only [Instr.frame, partsOf, fieldsOf]; decide +kernel)
  | acqArm rq t w => exact frames_of_mask (execAcqArm_frames rq t w s) (by simp only [Instr.frame, partsOf, fieldsOf]; decide +kernel)
  | acqDisarm rq t w => exact frames_of_mask (execAcqDisarm_frames rq t w s) (by simp only [Instr.frame, partsOf, fieldsOf]; decide +kernel)
  | acqForce rq t w => exact frames_of_mask (execAcqForce_frames rq t w s) (by simp only [Instr.frame, partsOf, fieldsOf]; decide +kernel)
  | armingDone t => exact frames_of_mask (execArmingDone_frames t s) (by simp only [Instr.frame, partsOf, fieldsOf]; decide +kernel)
  | acqSampleEvaluate t => exact frames_of_mask (execAcqSampleEvaluate_frames t s) (by simp only [Instr.frame, partsOf, fieldsOf]; decide +kernel)
  | acqAutoTimeout t => exact frames_of_mask (execAcqAutoTimeout_frames t s) (by simp only [Instr.frame, partsOf, fieldsOf]; decide +kernel)
  | acqFrameClose t => exact frames_of_mask (execAcqFrameClose_frames t s) (by simp only [Instr.frame, partsOf, fieldsOf]; decide +kernel)
  | acqRptrWrite rq t w => exact frames_of_mask (execAcqRptrWrite_frames rq t w s) (by simp only [Instr.frame, partsOf, fieldsOf]; decide +kernel)
  | eventArrival n => exact frames_of_mask (execEventArrival_frames n s) (by simp only [Instr.frame, partsOf, fieldsOf]; decide +kernel)
  | eventSet rq n => exact frames_of_mask (execEventSet_frames rq n s) (by simp only [Instr.frame, partsOf, fieldsOf]; decide +kernel)
  | eventClear rq n => exact frames_of_mask (execEventClear_frames rq n s) (by simp only [Instr.frame, partsOf, fieldsOf]; decide +kernel)
  | routeWrite rq n w => exact frames_of_mask (execRouteWrite_frames rq n w s) (by simp only [Instr.frame, partsOf, fieldsOf]; decide +kernel)
  | queueRecordForm sag k => exact frames_of_mask (execQueueRecordForm_frames sag k s) (by simp only [Instr.frame, partsOf, fieldsOf]; decide +kernel)
  | queueWriteError sag k => exact frames_of_mask (execQueueWriteError_frames sag k s) (by simp only [Instr.frame, partsOf, fieldsOf]; decide +kernel)
  | evhQRptrWrite rq k w => exact frames_of_mask (execEvhQRptrWrite_frames rq k w s) (by simp only [Instr.frame, partsOf, fieldsOf]; decide +kernel)
  | evhQEnable rq k w => exact frames_of_mask (execEvhQEnable_frames rq k w s) (by simp only [Instr.frame, partsOf, fieldsOf]; decide +kernel)
  | evhQDisable rq k w => exact frames_of_mask (execEvhQDisable_frames rq k w s) (by simp only [Instr.frame, partsOf, fieldsOf]; decide +kernel)
  | holdoffExpire g => exact frames_of_mask (execHoldoffExpire_frames g s) (by simp only [Instr.frame, partsOf, fieldsOf]; decide +kernel)
  | msixMaskClear f k => exact frames_of_mask (execMsixMaskClear_frames f k s) (by simp only [Instr.frame, partsOf, fieldsOf]; decide +kernel)
  | timeNowRead rq => exact frames_of_mask (execTimeNowRead_frames rq s) (by simp only [Instr.frame, partsOf, fieldsOf]; decide +kernel)
  | addendCommit rq w => exact frames_of_mask (execAddendCommit_frames rq w s) (by simp only [Instr.frame, partsOf, fieldsOf]; decide +kernel)
  | timeAdjStart rq w => exact frames_of_mask (execTimeAdjStart_frames rq w s) (by simp only [Instr.frame, partsOf, fieldsOf]; decide +kernel)
  | timeAdjEnd => exact frames_of_mask (execTimeAdjEnd_frames s) (by simp only [Instr.frame, partsOf, fieldsOf]; decide +kernel)
  | timeStepGo rq w => exact frames_of_mask (execTimeStepGo_frames rq w s) (by simp only [Instr.frame, partsOf, fieldsOf]; decide +kernel)
  | timeStepApply => exact frames_of_mask (execTimeStepApply_frames s) (by simp only [Instr.frame, partsOf, fieldsOf]; decide +kernel)
  | timeQualWrite rq w => exact frames_of_mask (execTimeQualWrite_frames rq w s) (by simp only [Instr.frame, partsOf, fieldsOf]; decide +kernel)
  | refresh rq w => exact frames_of_mask (execRefresh_frames rq w s) (by simp only [Instr.frame, partsOf, fieldsOf]; decide +kernel)
  | syncTimeout => exact frames_of_mask (execSyncTimeout_frames s) (by simp only [Instr.frame, partsOf, fieldsOf]; decide +kernel)
  | portLinkChange p up => exact frames_of_mask (execPortLinkChange_frames p up s) (by simp only [Instr.frame, partsOf, fieldsOf]; decide +kernel)
  | frameReceive p fcsGood sub bytes => exact frames_of_mask (execFrameReceive_frames p fcsGood sub bytes s) (by simp only [Instr.frame, partsOf, fieldsOf]; decide +kernel)
  | rxPop rq p => exact frames_of_mask (execRxPop_frames rq p s) (by simp only [Instr.frame, partsOf, fieldsOf]; decide +kernel)
  | txGo rq p w => exact frames_of_mask (execTxGo_frames rq p w s) (by simp only [Instr.frame, partsOf, fieldsOf]; decide +kernel)
  | txDone p sub => exact frames_of_mask (execTxDone_frames p sub s) (by simp only [Instr.frame, partsOf, fieldsOf]; decide +kernel)
  | txStampRead rq p => exact frames_of_mask (execTxStampRead_frames rq p s) (by simp only [Instr.frame, partsOf, fieldsOf]; decide +kernel)
  | tevArm rq n w => exact frames_of_mask (execTevArm_frames rq n w s) (by simp only [Instr.frame, partsOf, fieldsOf]; decide +kernel)
  | tevDisarm rq n w => exact frames_of_mask (execTevDisarm_frames rq n w s) (by simp only [Instr.frame, partsOf, fieldsOf]; decide +kernel)
  | tevFire n => exact frames_of_mask (execTevFire_frames n s) (by simp only [Instr.frame, partsOf, fieldsOf]; decide +kernel)
  | tevPulseEnd n => exact frames_of_mask (execTevPulseEnd_frames n s) (by simp only [Instr.frame, partsOf, fieldsOf]; decide +kernel)
  | quotaWrite rq s0 high w => exact frames_of_mask (execQuotaWrite_frames rq s0 high w s) (by simp only [Instr.frame, partsOf, fieldsOf]; decide +kernel)
  | allot rq w => exact frames_of_mask (execAllot_frames rq w s) (by simp only [Instr.frame, partsOf, fieldsOf]; decide +kernel)
  | release rq w => exact frames_of_mask (execRelease_frames rq w s) (by simp only [Instr.frame, partsOf, fieldsOf]; decide +kernel)
  | blockClearDone b => exact frames_of_mask (execBlockClearDone_frames b s) (by simp only [Instr.frame, partsOf, fieldsOf]; decide +kernel)
  | groupRelease g => exact frames_of_mask (execGroupRelease_frames g s) (by simp only [Instr.frame, partsOf, fieldsOf]; decide +kernel)
  | dmaRingEnable rq r w => exact frames_of_mask (execDmaRingEnable_frames rq r w s) (by simp only [Instr.frame, partsOf, fieldsOf]; decide +kernel)
  | dmaRingDisable rq r w => exact frames_of_mask (execDmaRingDisable_frames rq r w s) (by simp only [Instr.frame, partsOf, fieldsOf]; decide +kernel)
  | dmaTailWrite rq r w => exact frames_of_mask (execDmaTailWrite_frames rq r w s) (by simp only [Instr.frame, partsOf, fieldsOf]; decide +kernel)
  | nop sag r d => exact frames_of_mask (execNop_frames sag r d s) (by simp only [Instr.frame, partsOf, fieldsOf]; decide +kernel)
  | streamRefill sag r d data => exact frames_of_mask (execStreamRefill_frames sag r d data s) (by simp only [Instr.frame, partsOf, fieldsOf]; decide +kernel)
  | residentLoad sag r d data => exact frames_of_mask (execResidentLoad_frames sag r d data s) (by simp only [Instr.frame, partsOf, fieldsOf]; decide +kernel)
  | upload sag r d => exact frames_of_mask (execUpload_frames sag r d s) (by simp only [Instr.frame, partsOf, fieldsOf]; decide +kernel)
  | descriptorComplete sag r => exact frames_of_mask (execDescriptorComplete_frames sag r s) (by simp only [Instr.frame, partsOf, fieldsOf]; decide +kernel)
  | dmaHostError sag r timeout => exact frames_of_mask (execDmaHostError_frames sag r timeout s) (by simp only [Instr.frame, partsOf, fieldsOf]; decide +kernel)
  | dmaArbitrationFrame => exact frames_of_mask (execDmaArbitrationFrame_frames s) (by simp only [Instr.frame, partsOf, fieldsOf]; decide +kernel)
  | spiWriteFrame bytes extraBits => exact frames_of_mask (execSpiWriteFrame_frames bytes extraBits s) (by simp only [Instr.frame, partsOf, fieldsOf]; decide +kernel)
  | spiReadFrame bytes len extraBits => exact frames_of_mask (execSpiReadFrame_frames bytes len extraBits s) (by simp only [Instr.frame, partsOf, fieldsOf]; decide +kernel)
  | spiStatusFrame => exact frames_of_mask (execSpiStatusFrame_frames s) (by simp only [Instr.frame, partsOf, fieldsOf]; decide +kernel)
  | spiReservedCommand cmd => exact frames_of_mask (execSpiReservedCommand_frames cmd s) (by simp only [Instr.frame, partsOf, fieldsOf]; decide +kernel)
  | spiCommitDone => exact frames_of_mask (execSpiCommitDone_frames s) (by simp only [Instr.frame, partsOf, fieldsOf]; decide +kernel)
  | flashLockReq rq => exact frames_of_mask (execFlashLockReq_frames rq s) (by simp only [Instr.frame, partsOf, fieldsOf]; decide +kernel)
  | flashLockRelease rq => exact frames_of_mask (execFlashLockRelease_frames rq s) (by simp only [Instr.frame, partsOf, fieldsOf]; decide +kernel)
  | flashCmdGo rq w => exact frames_of_mask (execFlashCmdGo_frames rq w s) (by simp only [Instr.frame, partsOf, fieldsOf]; decide +kernel)
  | flashCmdDone status bytes => exact frames_of_mask (execFlashCmdDone_frames status bytes s) (by simp only [Instr.frame, partsOf, fieldsOf]; decide +kernel)
  | flashWindowRead rq off long => exact frames_of_mask (execFlashWindowRead_frames rq off long s) (by simp only [Instr.frame, partsOf, fieldsOf]; decide +kernel)
  | flashWindowWrite rq off bytes => exact frames_of_mask (execFlashWindowWrite_frames rq off bytes s) (by simp only [Instr.frame, partsOf, fieldsOf]; decide +kernel)
  | flashProgramDone status => exact frames_of_mask (execFlashProgramDone_frames status s) (by simp only [Instr.frame, partsOf, fieldsOf]; decide +kernel)
  | flashPollTimeout status => exact frames_of_mask (execFlashPollTimeout_frames status s) (by simp only [Instr.frame, partsOf, fieldsOf]; decide +kernel)
  | calReq rq q w => exact frames_of_mask (execCalReq_frames rq q w s) (by simp only [Instr.frame, partsOf, fieldsOf]; decide +kernel)
  | calAbort rq q w => exact frames_of_mask (execCalAbort_frames rq q w s) (by simp only [Instr.frame, partsOf, fieldsOf]; decide +kernel)
  | calStepDone q x verr terr => exact frames_of_mask (execCalStepDone_frames q x verr terr s) (by simp only [Instr.frame, partsOf, fieldsOf]; decide +kernel)
  | calRetry q ok verr terr => exact frames_of_mask (execCalRetry_frames q ok verr terr s) (by simp only [Instr.frame, partsOf, fieldsOf]; decide +kernel)
  | calRunLimit q => exact frames_of_mask (execCalRunLimit_frames q s) (by simp only [Instr.frame, partsOf, fieldsOf]; decide +kernel)
  | calBudgetExpire => exact frames_of_mask (execCalBudgetExpire_frames s) (by simp only [Instr.frame, partsOf, fieldsOf]; decide +kernel)
  | glazeStep t => exact frames_of_mask (execGlazeStep_frames t s) (by simp only [Instr.frame, partsOf, fieldsOf]; decide +kernel)
  | hkRound temps rails spines => exact frames_of_mask (execHkRound_frames temps rails spines s) (by simp only [Instr.frame, partsOf, fieldsOf]; decide +kernel)
  | sensorReadmit rq w => exact frames_of_mask (execSensorReadmit_frames rq w s) (by simp only [Instr.frame, partsOf, fieldsOf]; decide +kernel)
  | markWorn rq w => exact frames_of_mask (execMarkWorn_frames rq w s) (by simp only [Instr.frame, partsOf, fieldsOf]; decide +kernel)
  | markFailed rq w => exact frames_of_mask (execMarkFailed_frames rq w s) (by simp only [Instr.frame, partsOf, fieldsOf]; decide +kernel)
  | sprSelfTest rq w => exact frames_of_mask (execSprSelfTest_frames rq w s) (by simp only [Instr.frame, partsOf, fieldsOf]; decide +kernel)
  | selfTestDone failed => exact frames_of_mask (execSelfTestDone_frames failed s) (by simp only [Instr.frame, partsOf, fieldsOf]; decide +kernel)
  | spareIn place => exact frames_of_mask (execSpareIn_frames place s) (by simp only [Instr.frame, partsOf, fieldsOf]; decide +kernel)
  | repairMapWrite => exact frames_of_mask (execRepairMapWrite_frames s) (by simp only [Instr.frame, partsOf, fieldsOf]; decide +kernel)
  | nvmRead rq w => exact frames_of_mask (execNvmRead_frames rq w s) (by simp only [Instr.frame, partsOf, fieldsOf]; decide +kernel)
  | nvmUserWrite rq w => exact frames_of_mask (execNvmUserWrite_frames rq w s) (by simp only [Instr.frame, partsOf, fieldsOf]; decide +kernel)
  | nvmWriteDone bad => exact frames_of_mask (execNvmWriteDone_frames bad s) (by simp only [Instr.frame, partsOf, fieldsOf]; decide +kernel)
  | shardWrite => exact frames_of_mask (execShardWrite_frames s) (by simp only [Instr.frame, partsOf, fieldsOf]; decide +kernel)
  | forerunnerStart p edge => exact frames_of_mask (execForerunnerStart_frames p edge s) (by simp only [Instr.frame, partsOf, fieldsOf]; decide +kernel)
  | forerunnerStop p => exact frames_of_mask (execForerunnerStop_frames p s) (by simp only [Instr.frame, partsOf, fieldsOf]; decide +kernel)
  | forerunnerCalibrate p => exact frames_of_mask (execForerunnerCalibrate_frames p s) (by simp only [Instr.frame, partsOf, fieldsOf]; decide +kernel)
  | forerunnerReset p => exact frames_of_mask (execForerunnerReset_frames p s) (by simp only [Instr.frame, partsOf, fieldsOf]; decide +kernel)
  | forerunnerTimingWrite p set ch item units => exact frames_of_mask (execForerunnerTimingWrite_frames p set ch item units s) (by simp only [Instr.frame, partsOf, fieldsOf]; decide +kernel)
  | forerunnerLevelWrite p ch set dac mv => exact frames_of_mask (execForerunnerLevelWrite_frames p ch set dac mv s) (by simp only [Instr.frame, partsOf, fieldsOf]; decide +kernel)
  | forerunnerVectorWrite rq off bytes => exact frames_of_mask (execForerunnerVectorWrite_frames rq off bytes s) (by simp only [Instr.frame, partsOf, fieldsOf]; decide +kernel)
  | timeTick => exact frames_of_mask (execTimeTick_frames s) (by simp only [Instr.frame, partsOf, fieldsOf]; decide +kernel)
  | comparatorSample l => exact frames_of_mask (execComparatorSample_frames l s) (by simp only [Instr.frame, partsOf, fieldsOf]; decide +kernel)
  | rsvClass q => exact frames_of_mask (execRsvClass_frames q s) (by simp only [Instr.frame, partsOf, fieldsOf]; decide +kernel)
  | pcieLinkTrained link speed width => exact frames_of_mask (execPcieLinkTrained_frames link speed width s) (by simp only [Instr.frame, partsOf, fieldsOf]; decide +kernel)
  | vfEnable link on numVfs => exact frames_of_mask (execVfEnable_frames link on numVfs s) (by simp only [Instr.frame, partsOf, fieldsOf]; decide +kernel)
  | railGood rail => exact frames_of_mask (execRailGood_frames rail s) (by simp only [Instr.frame, partsOf, fieldsOf]; decide +kernel)
  | spiHeaderFrame bitsSent => exact frames_of_mask (execSpiHeaderFrame_frames bitsSent s) (by simp only [Instr.frame, partsOf, fieldsOf]; decide +kernel)
  | linkProtocolFault f kind => exact frames_of_mask (execLinkProtocolFault_frames f kind s) (by simp only [Instr.frame, partsOf, fieldsOf]; decide +kernel)

end Sys2Proof.Machine
end
section
/-! SUPPORT. What the masks of a command's rows hold, the end of a fuse command and of a clock out of range: O1 to O4, O57, O58 and O60. -/

open Sys2Proof

namespace Sys2Proof.Machine

/-- Folding bits into a mask sets the bits that it had and the new ones. -/
theorem testBit_foldl_bits {α : Type} (g : α → Nat) (l : List α) (a i : Nat) :
    (l.foldl (fun a x => a ||| 2 ^ g x) a).testBit i = (a.testBit i || l.any fun x => g x = i) := by
  induction l generalizing a with
  | nil => simp
  | cons x r ih => simp [ih, Nat.testBit_two_pow, Bool.or_assoc]

theorem Part.ctorIdx_inj {p q : Part} (h : p.ctorIdx = q.ctorIdx) : p = q := by
  have hp := Part.ofNat_ctorIdx p
  rw [h, Part.ofNat_ctorIdx q] at hp
  exact hp.symm

theorem Part.ctorIdx_lt (p : Part) : p.ctorIdx < 32 := by
  cases p <;> decide

/-- A mask of parts has no bit of a part that is not listed. -/
theorem Part.mask_testBit_of_notMem {p : Part} {l : List Part} (h : p ∉ l) : (Part.mask l).testBit p.ctorIdx = false := by
  rw [Part.mask, testBit_foldl_bits]
  simp only [Nat.zero_testBit, Bool.false_or, List.any_eq_false, decide_eq_true_eq]
  intro q hq hi
  exact h (Part.ctorIdx_inj hi ▸ hq)

/-- A mask of parts has no bit of a register field. -/
theorem Part.mask_testBit_field (l : List Part) (k : Nat) : (Part.mask l).testBit (32 + k) = false := by
  rw [Part.mask, testBit_foldl_bits]
  simp only [Nat.zero_testBit, Bool.false_or, List.any_eq_false, decide_eq_true_eq]
  intro q _
  have := q.ctorIdx_lt
  omega

/-- A mask of register fields has no bit of a field that is not listed. -/
theorem Fld.mask_testBit_of_notMem {l : List Fld} {k : Nat} (h : k ∉ l.map Fld.key) : (Fld.mask l).testBit (32 + k) = false := by
  rw [Fld.mask, testBit_foldl_bits]
  simp only [Nat.zero_testBit, Bool.false_or, List.any_eq_false, decide_eq_true_eq]
  intro f hf hk
  exact h (List.mem_map.2 ⟨f, hf, by omega⟩)

/-- A mask of register fields has no bit of a part. -/
theorem Fld.mask_testBit_part (l : List Fld) {i : Nat} (h : i < 32) : (Fld.mask l).testBit i = false := by
  rw [Fld.mask, testBit_foldl_bits]
  simp only [Nat.zero_testBit, Bool.false_or, List.any_eq_false, decide_eq_true_eq]
  intro f _
  omega

theorem allKeys_testBit_part {i : Nat} (h : i < 32) : allKeys.testBit i = false := by
  have e : allKeys % 2 ^ 32 = 0 := by decide +kernel
  have hi : (allKeys % 2 ^ 32).testBit i = allKeys.testBit i := by rw [Nat.testBit_mod_two_pow, decide_eq_true h, Bool.true_and]
  rw [← hi, e, Nat.zero_testBit]

/-- The mask of a command has no bit of a part that its row does not list. -/
theorem Instr.frame_part {c : Instr} {p : Part} (h : p ∉ partsOf c) : (Instr.frame c).testBit p.ctorIdx = false := by
  rw [Instr.frame, Nat.testBit_or, Part.mask_testBit_of_notMem h, Bool.false_or]
  cases (Part.mask (partsOf c)).testBit 2
  · exact Nat.zero_testBit _
  · cases fieldsOf c with
    | some l => exact Fld.mask_testBit_part l p.ctorIdx_lt
    | none => exact allKeys_testBit_part p.ctorIdx_lt

/-- The mask of a command has no bit of a field that its row does not list. -/
theorem Instr.frame_field {c : Instr} {l : List Fld} {k : Nat} (hl : fieldsOf c = some l) (h : k ∉ l.map Fld.key) : (Instr.frame c).testBit (32 + k) = false := by
  rw [Instr.frame, Nat.testBit_or, Part.mask_testBit_field, Bool.false_or, hl]
  cases (Part.mask (partsOf c)).testBit 2
  · exact Nat.zero_testBit _
  · exact Fld.mask_testBit_of_notMem h

/-- The mask of a command that does not list the registers has no bit of a field. -/
theorem Instr.frame_noRegs {c : Instr} (h : .regs ∉ partsOf c) : Instr.frame c / 2 ^ 32 = 0 := by
  have h2 : (Part.mask (partsOf c)).testBit 2 = false := Part.mask_testBit_of_notMem h
  apply Nat.eq_of_testBit_eq
  intro i
  rw [Nat.testBit_div_two_pow, Nat.zero_testBit, Nat.add_comm, Instr.frame, h2, Nat.testBit_or, Part.mask_testBit_field]
  exact Nat.zero_testBit _

theorem fuseCmdDone_fuses (s : State) :
    ∃ t, exec .fuseCmdDone s = .next t ∧ t.pending = s.pending ∧ (t.fuses = s.fuses ∨ ∃ cmd k hash, t.fuses = modNth (fun x => x.burn cmd hash) k s.fuses) ∧
      s.keeps t (partsOf .fuseCmdDone) ∧ s.keepsFields t [R.DEV_FUSE_CMD.STATUS] := by
  change ∃ t, execFuseCmdDone s = .next t ∧ _
  unfold execFuseCmdDone
  dsimp only
  split
  · exact ⟨_, rfl, rfl, .inl rfl, fun p _ => by cases p <;> rfl, fun _ _ _ => rfl⟩
  · refine ⟨_, rfl, rfl, .inr ⟨_, _, _, rfl⟩, fun p hp => ?_, fun f i hf => ?_⟩
    · cases p
      case fuses => simp [partsOf] at hp
      case regs => simp [partsOf] at hp
      case m => simp [partsOf] at hp
      case hub => simp [partsOf] at hp
      all_goals rfl
    · rw [State.raise_rd, State.wr_rd_key _ _ (fun e => hf (List.mem_singleton.2 e))]
      rfl

/-- A command changes only the parts that its row lists. -/
theorem exec_keeps {c : Instr} {s t : State} (h : exec c s = .next t) : s.keeps t (partsOf c) := by
  by_cases hc : c = .fuseCmdDone
  · subst hc
    obtain ⟨u, e, -, -, hk, -⟩ := fuseCmdDone_fuses s
    cases e.symm.trans h
    exact hk
  · obtain ⟨u, e, -, -, hb⟩ := exec_frames c s hc
    cases e.symm.trans h
    exact State.keeps_of_blur hb (fun p hp => .inr (Instr.frame_part hp)) (or_iff_not_imp_left.2 Instr.frame_noRegs)

/-- A command changes only the register fields that its row lists. -/
theorem exec_keepsFields {c : Instr} {l : List Fld} {s t : State} (hl : fieldsOf c = some l) (h : exec c s = .next t) : s.keepsFields t l := by
  by_cases hc : c = .fuseCmdDone
  · subst hc
    obtain ⟨u, e, -, -, -, hk⟩ := fuseCmdDone_fuses s
    cases e.symm.trans h
    cases hl
    exact hk
  · obtain ⟨u, e, -, -, hb⟩ := exec_frames c s hc
    cases e.symm.trans h
    exact State.keepsFields_of_blur hb fun k _ hk => Instr.frame_field hl hk

/-! Fuses -/

theorem lor_lor_self (a b : Nat) : Nat.lor a (Nat.lor a b) = Nat.lor a b := by
  rw [Nat.lor_eq, Nat.lor_eq, ← Nat.or_assoc, Nat.or_self]

theorem KeySlot.grown_refl (k : KeySlot) : k.grown k := ⟨Nat.or_self _, id⟩

/-- A burn only sets bits (R73, R76). -/
theorem KeySlot.grown_burn (k : KeySlot) (cmd hash : Nat) : k.grown (k.burn cmd hash) := by
  unfold KeySlot.burn
  split
  · exact ⟨lor_lor_self _ _, id⟩
  · exact ⟨Nat.or_self _, fun _ => rfl⟩

theorem fusesGrown_refl (l : List KeySlot) : fusesGrown l l := ⟨rfl, fun _ => KeySlot.grown_refl _⟩

/-- A list whose one element grows only gains bits. -/
theorem fusesGrown_modNth {f : KeySlot → KeySlot} (hf : ∀ k : KeySlot, k.grown (f k)) (n : Nat) (l : List KeySlot) : fusesGrown l (modNth f n l) := by
  induction l generalizing n with
  | nil => cases n <;> exact fusesGrown_refl []
  | cons x xs ih =>
    cases n with
    | zero =>
      refine ⟨rfl, fun i => ?_⟩
      cases i with
      | zero => exact hf x
      | succ i => exact KeySlot.grown_refl _
    | succ n =>
      obtain ⟨hl, hg⟩ := ih n
      refine ⟨congrArg (· + 1) hl, fun i => ?_⟩
      cases i with
      | zero => exact KeySlot.grown_refl _
      | succ i => exact hg i

/-! A clock that an addend out of range carries past a second -/

/-- A running clock whose addend is two seconds, far outside the range that R434 lets a write commit. -/
def State.wideAddend : State :=
  { State.reset with pending := [.timeTick], clock := ⟨0, 0, 0, 0, true⟩, time := { State.reset.time with addend := 2000000000 * 2 ^ 32 } }

theorem wideAddend_legal : State.wideAddend.legal := by
  refine ⟨⟨?_, ?_, ?_⟩, rfl⟩ <;> decide

theorem step_wideAddend : step State.wideAddend = .next ({ State.wideAddend with pending := [] } : State).ticked :=
  exec_timeTick_running ({ State.wideAddend with pending := [] } : State) rfl

/-- One carry into the seconds leaves a whole second in the nanoseconds. -/
theorem wideAddend_ticked_ns : ({ State.wideAddend with pending := [] } : State).ticked.clock.ns = 1000000000 := by
  rw [State.ticked_clock]
  decide

end Sys2Proof.Machine

open Sys2Proof Sys2Proof.Machine

/-- Settles O1, by the definition of a step. -/
theorem stepRunsFront : Obligations.StepRunsFront := by
  refine ⟨fun _ _ _ => rfl, fun s h => ?_⟩
  rw [step, h]

/-- Settles O2: every command answers a next state with the queue it found. -/
theorem everyCommandCompletes : Obligations.EveryCommandCompletes := by
  intro c s
  by_cases hc : c = .fuseCmdDone
  · obtain ⟨t, e, hp, -⟩ := fuseCmdDone_fuses s
    exact ⟨t, hc ▸ e, hp⟩
  · obtain ⟨t, e, hp, -⟩ := exec_frames c s hc
    exact ⟨t, e, hp⟩

/-- Settles O3, from the frame of each command. -/
theorem commandsKeepOtherParts : Obligations.CommandsKeepOtherParts := fun _ _ _ h => exec_keeps h

/-- Settles O4, from the frame of each command. -/
theorem commandsKeepOtherFields : Obligations.CommandsKeepOtherFields := fun _ _ _ _ hl h => exec_keepsFields hl h

/-- Settles O57, by the reset state itself. -/
theorem resetIsLegal : Obligations.ResetIsLegal := by
  refine ⟨⟨⟨?_, ?_, ?_⟩, rfl⟩, rfl⟩ <;> decide

/-- Refutes O58: the statement bounds the clock and not the committed addend, and an addend of two seconds, which no write of R434 commits, leaves a whole
second in the nanoseconds after the one carry of R431. -/
theorem not_stepsKeepClockLegal : ¬ Obligations.StepsKeepClockLegal := by
  intro h
  obtain ⟨⟨hns, -, -⟩, -⟩ := h _ _ wideAddend_legal step_wideAddend
  rw [wideAddend_ticked_ns] at hns
  exact Nat.lt_irrefl _ hns

/-- Settles O60: every command but the end of a fuse command keeps the fuses, and a burn only sets bits. -/
theorem fusesOnlyGrow : Obligations.FusesOnlyGrow := by
  have hkept : ∀ (c : Instr) (s t : State), exec c s = .next t → c ≠ .fuseCmdDone → t.fuses = s.fuses := by
    intro c s t h hc
    obtain ⟨u, e, -, hf, -⟩ := exec_frames c s hc
    cases e.symm.trans h
    exact hf
  refine ⟨fun c s t h => ?_, hkept⟩
  by_cases hc : c = .fuseCmdDone
  · subst hc
    obtain ⟨u, e, -, hf, -⟩ := fuseCmdDone_fuses s
    cases e.symm.trans h
    obtain hf | ⟨cmd, k, hash, hf⟩ := hf
    · rw [hf]
      exact fusesGrown_refl _
    · rw [hf]
      exact fusesGrown_modNth (fun x => x.grown_burn cmd hash) k _
  · rw [hkept c s t h hc]
    exact fusesGrown_refl _
end
section
/-! SUPPORT. What leaves parts and fields of the state alone, as equivalences that simp follows through a chain of updates (R1 to R603). -/

namespace Sys2Proof.Machine

variable {s t : State} {l : List Part} {k : List Fld} {n : List Nat}

@[simp] theorem State.keeps_refl (s : State) (l : List Part) : s.keeps s l := fun p _ => by cases p <;> rfl
@[simp] theorem State.keepsFields_refl (s : State) (k : List Fld) : s.keepsFields s k := fun _ _ _ => rfl
@[simp] theorem State.keepsRegs_refl (s : State) (n : List Nat) : s.keepsRegs s n := fun _ _ _ => rfl

theorem State.keeps.mono {l' : List Part} (h : s.keeps t l) (hl : l ⊆ l') : s.keeps t l' := fun p hp => h p fun hm => hp (hl hm)

/-- Where two states agree outside the listed parts, a third keeps as much against the one as against the other. -/
theorem State.keeps_congr {t' : State} (h : t.keeps t' l) : s.keeps t' l ↔ s.keeps t l :=
  forall₂_congr fun p hp => by
    have hs := h p hp
    cases p <;> simp only [Part.same] at hs ⊢ <;> rw [hs]

@[simp] theorem State.keeps_wr (f : Fld) (i v : Nat) (hl : .regs ∈ l) : s.keeps (t.wr f i v) l ↔ s.keeps t l :=
  State.keeps_congr fun p hp => by
    cases p
    case regs => exact absurd hl hp
    all_goals rfl

@[simp] theorem State.keeps_wb (f : Fld) (i : Nat) (b : Bool) (hl : .regs ∈ l) : s.keeps (t.wb f i b) l ↔ s.keeps t l := State.keeps_wr f i _ hl
@[simp] theorem State.keeps_bump (f : Fld) (i v : Nat) (hl : .regs ∈ l) : s.keeps (t.bump f i v) l ↔ s.keeps t l := State.keeps_wr f i _ hl

@[simp] theorem State.keeps_raise (a : Nat) (hl : .hub ∈ l) : s.keeps (t.raise a) l ↔ s.keeps t l :=
  State.keeps_congr fun p hp => by
    cases p
    case hub => exact absurd hl hp
    all_goals rfl

@[simp] theorem State.keeps_raiseD (a d : Nat) (hl : .hub ∈ l) : s.keeps (t.raiseD a d) l ↔ s.keeps t l :=
  State.keeps_congr fun p hp => by
    cases p
    case hub => exact absurd hl hp
    all_goals rfl

@[simp] theorem State.keeps_out (o : List Out) : s.keeps { t with out := o } l ↔ s.keeps t l :=
  State.keeps_congr fun p _ => by cases p <;> rfl

@[simp] theorem State.keeps_send (o : Out) : s.keeps (t.send o) l ↔ s.keeps t l := State.keeps_out _

@[simp] theorem State.keeps_host (x : HostSt) (hl : .host ∈ l) : s.keeps { t with host := x } l ↔ s.keeps t l :=
  State.keeps_congr fun p hp => by
    cases p
    case host => exact absurd hl hp
    all_goals rfl

/-- The commit gives back the clock and the fuses. -/
theorem State.keeps_commit (h : s.keeps t l) : s.keeps (s.commit t) l := fun p hp => by
  have hs := h p hp
  cases p
  case clock => rfl
  case fuses => rfl
  all_goals exact hs

theorem State.keeps_commitAll (h : s.keeps t l) : s.keeps (s.commitAll t) l := fun p hp => by
  have hs := h p hp
  cases p
  case fuses => rfl
  all_goals exact hs

/-- Parts that a masked operation leaves alone. -/
theorem State.keeps_blur {t' : State} {b : Nat} (h : t'.blur b = t.blur b) (hl : ∀ p : Part, p ∉ l → p = .regs ∨ b.testBit p.ctorIdx = false) (hr : .regs ∈ l ∨ b / 2 ^ 32 = 0) :
    s.keeps t' l ↔ s.keeps t l :=
  State.keeps_congr (State.keeps_of_blur h hl hr)

/-- Where two states agree outside the listed fields, a third keeps as much against the one as against the other. -/
theorem State.keepsFields_congr {t' : State} (h : t.keepsFields t' k) : s.keepsFields t' k ↔ s.keepsFields t k :=
  forall₃_congr fun f i hf => by rw [h f i hf]

@[simp] theorem State.keepsFields_wr (f : Fld) (i v : Nat) (hk : f.key % 1024 ∈ k.map Fld.key) : s.keepsFields (t.wr f i v) k ↔ s.keepsFields t k :=
  State.keepsFields_congr fun _ _ hg => t.wr_rd_key v fun e => hg (e ▸ hk)

@[simp] theorem State.keepsFields_wb (f : Fld) (i : Nat) (b : Bool) (hk : f.key % 1024 ∈ k.map Fld.key) : s.keepsFields (t.wb f i b) k ↔ s.keepsFields t k :=
  State.keepsFields_wr f i _ hk
@[simp] theorem State.keepsFields_bump (f : Fld) (i v : Nat) (hk : f.key % 1024 ∈ k.map Fld.key) : s.keepsFields (t.bump f i v) k ↔ s.keepsFields t k :=
  State.keepsFields_wr f i _ hk

/-- Whatever leaves the registers alone keeps as many fields. -/
theorem State.keepsFields_regs {t' : State} (h : t'.regs = t.regs) : s.keepsFields t' k ↔ s.keepsFields t k :=
  State.keepsFields_congr fun f i _ => by rw [State.rd, State.rd, h]

@[simp] theorem State.keepsFields_raise (a : Nat) : s.keepsFields (t.raise a) k ↔ s.keepsFields t k := Iff.rfl
@[simp] theorem State.keepsFields_send (o : Out) : s.keepsFields (t.send o) k ↔ s.keepsFields t k := Iff.rfl
@[simp] theorem State.keepsFields_out (o : List Out) : s.keepsFields { t with out := o } k ↔ s.keepsFields t k := Iff.rfl
@[simp] theorem State.keepsFields_host (x : HostSt) : s.keepsFields { t with host := x } k ↔ s.keepsFields t k := Iff.rfl
@[simp] theorem State.keepsFields_commit (u : State) : s.keepsFields (u.commit t) k ↔ s.keepsFields t k := Iff.rfl

/-- Where two states agree outside the listed slots, a third keeps as much against the one as against the other. -/
theorem State.keepsRegs_congr {t' : State} (h : t.keepsRegs t' n) : s.keepsRegs t' n ↔ s.keepsRegs t n :=
  forall₃_congr fun f i hf => by rw [h f i hf]

@[simp] theorem State.keepsRegs_wr (f : Fld) (i v : Nat) (hn : f.slot i ∈ n) : s.keepsRegs (t.wr f i v) n ↔ s.keepsRegs t n :=
  State.keepsRegs_congr fun _ _ hg => t.wr_rd_slot v fun e => hg (by rwa [e])
@[simp] theorem State.keepsRegs_wb (f : Fld) (i : Nat) (b : Bool) (hn : f.slot i ∈ n) : s.keepsRegs (t.wb f i b) n ↔ s.keepsRegs t n := State.keepsRegs_wr f i _ hn
@[simp] theorem State.keepsRegs_bump (f : Fld) (i v : Nat) (hn : f.slot i ∈ n) : s.keepsRegs (t.bump f i v) n ↔ s.keepsRegs t n := State.keepsRegs_wr f i _ hn
@[simp] theorem State.keepsRegs_raise (a : Nat) : s.keepsRegs (t.raise a) n ↔ s.keepsRegs t n := Iff.rfl
@[simp] theorem State.keepsRegs_send (o : Out) : s.keepsRegs (t.send o) n ↔ s.keepsRegs t n := Iff.rfl
@[simp] theorem State.keepsRegs_out (o : List Out) : s.keepsRegs { t with out := o } n ↔ s.keepsRegs t n := Iff.rfl
@[simp] theorem State.keepsRegs_commit (u : State) : s.keepsRegs (u.commit t) n ↔ s.keepsRegs t n := Iff.rfl

end Sys2Proof.Machine
end
section
/-! SUPPORT. Commands that end in one state: how a statement about the outcome is met; and O12. -/

namespace Sys2Proof.Machine

/-- A command of the common form meets what its committed effect meets. -/
theorem done_meets {s : State} {f : State → State} {P : State → Prop} (h : P (s.commit (f (s.withOut [])))) : ∃ t, done s f = .next t ∧ P t := ⟨_, rfl, h⟩

@[simp] theorem State.reachable_out (s : State) (o : List Out) (rq : Req) : (s.withOut o).reachable rq = s.reachable rq := by cases rq <;> rfl
@[simp] theorem State.mayWrite_out (s : State) (o : List Out) (rq : Req) (r : Reg) (i : Nat) : (s.withOut o).mayWrite rq r i = s.mayWrite rq r i := by cases rq <;> rfl
@[simp] theorem State.mayRead_out (s : State) (o : List Out) (rq : Req) (r : Reg) (i : Nat) : (s.withOut o).mayRead rq r i = s.mayRead rq r i := by cases rq <;> rfl
@[simp] theorem State.copyOf_out (s : State) (o : List Out) (rq : Req) (r : Reg) (i : Nat) : (s.withOut o).copyOf rq r i = s.copyOf rq r i := by cases rq <;> rfl
/-! What the record of the outputs, and the commit, leave to read. -/

@[simp] theorem State.withOut_pending (s : State) (o : List Out) : (s.withOut o).pending = s.pending := rfl
@[simp] theorem State.withOut_clock (s : State) (o : List Out) : (s.withOut o).clock = s.clock := rfl
@[simp] theorem State.withOut_fuses (s : State) (o : List Out) : (s.withOut o).fuses = s.fuses := rfl
@[simp] theorem State.withOut_regs (s : State) (o : List Out) : (s.withOut o).regs = s.regs := rfl
@[simp] theorem State.withOut_m (s : State) (o : List Out) : (s.withOut o).m = s.m := rfl
@[simp] theorem State.withOut_image (s : State) (o : List Out) : (s.withOut o).image = s.image := rfl
@[simp] theorem State.withOut_hub (s : State) (o : List Out) : (s.withOut o).hub = s.hub := rfl
@[simp] theorem State.withOut_time (s : State) (o : List Out) : (s.withOut o).time = s.time := rfl
@[simp] theorem State.withOut_spare (s : State) (o : List Out) : (s.withOut o).spare = s.spare := rfl
@[simp] theorem State.withOut_host (s : State) (o : List Out) : (s.withOut o).host = s.host := rfl
@[simp] theorem State.withOut_lanes (s : State) (o : List Out) : (s.withOut o).lanes = s.lanes := rfl
@[simp] theorem State.withOut_dacs (s : State) (o : List Out) : (s.withOut o).dacs = s.dacs := rfl
@[simp] theorem State.withOut_adcs (s : State) (o : List Out) : (s.withOut o).adcs = s.adcs := rfl
@[simp] theorem State.withOut_smus (s : State) (o : List Out) : (s.withOut o).smus = s.smus := rfl
@[simp] theorem State.withOut_dpss (s : State) (o : List Out) : (s.withOut o).dpss = s.dpss := rfl
@[simp] theorem State.withOut_cals (s : State) (o : List Out) : (s.withOut o).cals = s.cals := rfl
@[simp] theorem State.withOut_trims (s : State) (o : List Out) : (s.withOut o).trims = s.trims := rfl
@[simp] theorem State.withOut_targets (s : State) (o : List Out) : (s.withOut o).targets = s.targets := rfl
@[simp] theorem State.withOut_results (s : State) (o : List Out) : (s.withOut o).results = s.results := rfl
@[simp] theorem State.withOut_plays (s : State) (o : List Out) : (s.withOut o).plays = s.plays := rfl
@[simp] theorem State.withOut_stores (s : State) (o : List Out) : (s.withOut o).stores = s.stores := rfl
@[simp] theorem State.withOut_seqs (s : State) (o : List Out) : (s.withOut o).seqs = s.seqs := rfl
@[simp] theorem State.withOut_tdcs (s : State) (o : List Out) : (s.withOut o).tdcs = s.tdcs := rfl
@[simp] theorem State.withOut_red (s : State) (o : List Out) : (s.withOut o).red = s.red := rfl
@[simp] theorem State.withOut_acqs (s : State) (o : List Out) : (s.withOut o).acqs = s.acqs := rfl
@[simp] theorem State.withOut_cap (s : State) (o : List Out) : (s.withOut o).cap = s.cap := rfl
@[simp] theorem State.withOut_capEcc (s : State) (o : List Out) : (s.withOut o).capEcc = s.capEcc := rfl
@[simp] theorem State.withOut_flash (s : State) (o : List Out) : (s.withOut o).flash = s.flash := rfl
@[simp] theorem State.withOut_spi (s : State) (o : List Out) : (s.withOut o).spi = s.spi := rfl
@[simp] theorem State.withOut_hk (s : State) (o : List Out) : (s.withOut o).hk = s.hk := rfl
@[simp] theorem State.withOut_legacy (s : State) (o : List Out) : (s.withOut o).legacy = s.legacy := rfl
@[simp] theorem State.withOut_free (s : State) (o : List Out) : (s.withOut o).free = s.free := rfl
@[simp] theorem State.withOut_out (s : State) (o : List Out) : (s.withOut o).out = o := rfl
@[simp] theorem State.withOut_rd (s : State) (o : List Out) (f : Fld) (i : Nat) : (s.withOut o).rd f i = s.rd f i := rfl
@[simp] theorem State.withOut_fl (s : State) (o : List Out) (f : Fld) (i : Nat) : (s.withOut o).fl f i = s.fl f i := rfl
@[simp] theorem State.withOut_src (s : State) (o : List Out) (k : Nat) : (s.withOut o).src k = s.src k := rfl
@[simp] theorem State.withOut_queue (s : State) (o : List Out) (k : Nat) : (s.withOut o).queue k = s.queue k := rfl
@[simp] theorem State.withOut_lane (s : State) (o : List Out) (k : Nat) : (s.withOut o).lane k = s.lane k := rfl
@[simp] theorem State.withOut_dac (s : State) (o : List Out) (k : Nat) : (s.withOut o).dac k = s.dac k := rfl
@[simp] theorem State.withOut_adc (s : State) (o : List Out) (k : Nat) : (s.withOut o).adc k = s.adc k := rfl
@[simp] theorem State.withOut_smu (s : State) (o : List Out) (k : Nat) : (s.withOut o).smu k = s.smu k := rfl
@[simp] theorem State.withOut_dps (s : State) (o : List Out) (k : Nat) : (s.withOut o).dps k = s.dps k := rfl
@[simp] theorem State.withOut_play (s : State) (o : List Out) (k : Nat) : (s.withOut o).play k = s.play k := rfl
@[simp] theorem State.withOut_store (s : State) (o : List Out) (k : Nat) : (s.withOut o).store k = s.store k := rfl
@[simp] theorem State.withOut_tdc (s : State) (o : List Out) (k : Nat) : (s.withOut o).tdc k = s.tdc k := rfl
@[simp] theorem State.withOut_acq (s : State) (o : List Out) (k : Nat) : (s.withOut o).acq k = s.acq k := rfl
@[simp] theorem State.withOut_cal (s : State) (o : List Out) (k : Nat) : (s.withOut o).cal k = s.cal k := rfl
@[simp] theorem State.withOut_port (s : State) (o : List Out) (k : Nat) : (s.withOut o).port k = s.port k := rfl
@[simp] theorem State.withOut_tev (s : State) (o : List Out) (k : Nat) : (s.withOut o).tev k = s.tev k := rfl
@[simp] theorem State.withOut_ring (s : State) (o : List Out) (k : Nat) : (s.withOut o).ring k = s.ring k := rfl
@[simp] theorem State.withOut_ctx (s : State) (o : List Out) (k : Nat) : (s.withOut o).ctx k = s.ctx k := rfl

@[simp] theorem State.withOut_link (s : State) (o : List Out) (k : Nat) : (s.withOut o).link k = s.link k := rfl
@[simp] theorem State.commit_link (s t : State) (k : Nat) : (s.commit t).link k = t.link k := rfl
@[simp] theorem State.withOut_grpOwner (s : State) (o : List Out) (k : Nat) : (s.withOut o).grpOwner k = s.grpOwner k := rfl
@[simp] theorem State.commit_grpOwner (s t : State) (k : Nat) : (s.commit t).grpOwner k = t.grpOwner k := rfl
@[simp] theorem State.withOut_blkOwner (s : State) (o : List Out) (k : Nat) : (s.withOut o).blkOwner k = s.blkOwner k := rfl
@[simp] theorem State.commit_blkOwner (s t : State) (k : Nat) : (s.commit t).blkOwner k = t.blkOwner k := rfl
@[simp] theorem State.commit_image (s t : State) : (s.commit t).image = t.image := rfl
@[simp] theorem State.commit_time (s t : State) : (s.commit t).time = t.time := rfl
@[simp] theorem State.commit_log (s t : State) : (s.commit t).log = t.log := rfl
@[simp] theorem State.commit_nvm (s t : State) : (s.commit t).nvm = t.nvm := rfl
@[simp] theorem State.commit_spare (s t : State) : (s.commit t).spare = t.spare := rfl
@[simp] theorem State.commit_host (s t : State) : (s.commit t).host = t.host := rfl
@[simp] theorem State.commit_lanes (s t : State) : (s.commit t).lanes = t.lanes := rfl
@[simp] theorem State.commit_dacs (s t : State) : (s.commit t).dacs = t.dacs := rfl
@[simp] theorem State.commit_adcs (s t : State) : (s.commit t).adcs = t.adcs := rfl
@[simp] theorem State.commit_smus (s t : State) : (s.commit t).smus = t.smus := rfl
@[simp] theorem State.commit_dpss (s t : State) : (s.commit t).dpss = t.dpss := rfl
@[simp] theorem State.commit_cals (s t : State) : (s.commit t).cals = t.cals := rfl
@[simp] theorem State.commit_trims (s t : State) : (s.commit t).trims = t.trims := rfl
@[simp] theorem State.commit_targets (s t : State) : (s.commit t).targets = t.targets := rfl
@[simp] theorem State.commit_results (s t : State) : (s.commit t).results = t.results := rfl
@[simp] theorem State.commit_plays (s t : State) : (s.commit t).plays = t.plays := rfl
@[simp] theorem State.commit_stores (s t : State) : (s.commit t).stores = t.stores := rfl
@[simp] theorem State.commit_seqs (s t : State) : (s.commit t).seqs = t.seqs := rfl
@[simp] theorem State.commit_tdcs (s t : State) : (s.commit t).tdcs = t.tdcs := rfl
@[simp] theorem State.commit_red (s t : State) : (s.commit t).red = t.red := rfl
@[simp] theorem State.commit_acqs (s t : State) : (s.commit t).acqs = t.acqs := rfl
@[simp] theorem State.commit_cap (s t : State) : (s.commit t).cap = t.cap := rfl
@[simp] theorem State.commit_capEcc (s t : State) : (s.commit t).capEcc = t.capEcc := rfl
@[simp] theorem State.commit_flash (s t : State) : (s.commit t).flash = t.flash := rfl
@[simp] theorem State.commit_spi (s t : State) : (s.commit t).spi = t.spi := rfl
@[simp] theorem State.commit_hk (s t : State) : (s.commit t).hk = t.hk := rfl
@[simp] theorem State.commit_legacy (s t : State) : (s.commit t).legacy = t.legacy := rfl
@[simp] theorem State.commit_free (s t : State) : (s.commit t).free = t.free := rfl
@[simp] theorem State.commit_src (s t : State) (k : Nat) : (s.commit t).src k = t.src k := rfl
@[simp] theorem State.commit_queue (s t : State) (k : Nat) : (s.commit t).queue k = t.queue k := rfl
@[simp] theorem State.commit_lane (s t : State) (k : Nat) : (s.commit t).lane k = t.lane k := rfl
@[simp] theorem State.commit_dac (s t : State) (k : Nat) : (s.commit t).dac k = t.dac k := rfl
@[simp] theorem State.commit_adc (s t : State) (k : Nat) : (s.commit t).adc k = t.adc k := rfl
@[simp] theorem State.commit_smu (s t : State) (k : Nat) : (s.commit t).smu k = t.smu k := rfl
@[simp] theorem State.commit_dps (s t : State) (k : Nat) : (s.commit t).dps k = t.dps k := rfl
@[simp] theorem State.commit_play (s t : State) (k : Nat) : (s.commit t).play k = t.play k := rfl
@[simp] theorem State.commit_store (s t : State) (k : Nat) : (s.commit t).store k = t.store k := rfl
@[simp] theorem State.commit_seq (s t : State) (k : Nat) : (s.commit t).seq k = t.seq k := rfl
@[simp] theorem State.commit_tdc (s t : State) (k : Nat) : (s.commit t).tdc k = t.tdc k := rfl
@[simp] theorem State.commit_acq (s t : State) (k : Nat) : (s.commit t).acq k = t.acq k := rfl
@[simp] theorem State.commit_cal (s t : State) (k : Nat) : (s.commit t).cal k = t.cal k := rfl
@[simp] theorem State.commit_port (s t : State) (k : Nat) : (s.commit t).port k = t.port k := rfl
@[simp] theorem State.commit_tev (s t : State) (k : Nat) : (s.commit t).tev k = t.tev k := rfl
@[simp] theorem State.commit_ring (s t : State) (k : Nat) : (s.commit t).ring k = t.ring k := rfl
@[simp] theorem State.commit_ctx (s t : State) (k : Nat) : (s.commit t).ctx k = t.ctx k := rfl

variable {s t : State} {l : List Part} {k : List Fld} {n : List Nat}

@[simp] theorem State.keeps_withOut (o : List Out) : s.keeps (t.withOut o) l ↔ s.keeps t l := State.keeps_out o
@[simp] theorem State.keepsFields_withOut (o : List Out) : s.keepsFields (t.withOut o) k ↔ s.keepsFields t k := Iff.rfl
@[simp] theorem State.keepsRegs_withOut (o : List Out) : s.keepsRegs (t.withOut o) n ↔ s.keepsRegs t n := Iff.rfl

/-- Replacing the host interface changes that part only. -/
theorem State.keeps_setHost (s : State) (x : HostSt) : s.keeps { s with host := x } [.host] := (State.keeps_host x (List.mem_singleton.2 rfl)).2 (s.keeps_refl _)

@[simp] theorem State.keeps_refuse (rq : Req) (off : Nat) (b : Bool) (hl : .regs ∈ l) : s.keeps (t.refuse rq off b) l ↔ s.keeps t l := by
  cases rq <;> simp [State.refuse, hl]

/-- An error report of a function counts once, and nothing else changes (R482). -/
theorem State.aer_counts (s : State) (fn e k : Nat) : smGet 0 (s.aer fn e).host.aer k = smGet 0 s.host.aer k + (if k = 16 * fn + e then 1 else 0) := by
  by_cases hk : k = 16 * fn + e
  · subst hk
    simp [State.aer]
  · simp [State.aer, hk]

@[simp] theorem State.aer_rd (s : State) (fn e : Nat) (f : Fld) (i : Nat) : (s.aer fn e).rd f i = s.rd f i := rfl
@[simp] theorem State.aer_out (s : State) (fn e : Nat) : (s.aer fn e).out = s.out := rfl
@[simp] theorem State.keeps_aer (fn e : Nat) (hl : .host ∈ l) : s.keeps (t.aer fn e) l ↔ s.keeps t l := State.keeps_host _ hl
@[simp] theorem State.keepsFields_aer (fn e : Nat) : s.keepsFields (t.aer fn e) k ↔ s.keepsFields t k := Iff.rfl

@[simp] theorem State.refuse_host (s : State) (rq : Req) (off : Nat) (b : Bool) : (s.refuse rq off b).host = s.host := by cases rq <;> rfl
@[simp] theorem State.refuse_out (s : State) (rq : Req) (off : Nat) (b : Bool) : (s.refuse rq off b).out = s.out := by cases rq <;> rfl

/-- The place of the last refusal (R467). -/
theorem State.refuse_place (s : State) (f : Fin 64) (off : Nat) (b : Bool) :
    (s.refuse (.fn f) off b).rd R.HOST_REFUSE_ADDR.OFFSET f.val = off % 2 ^ R.HOST_REFUSE_ADDR.OFFSET.width ∧ (s.refuse (.fn f) off b).fl R.HOST_REFUSE_ADDR.BAR2 f.val = b := by
  constructor
  · exact (State.wb_rd_key _ _ (by decide)).trans (State.wr_rd_same _ _ _ _)
  · exact State.wb_fl_same _ _ _ (by decide)

end Sys2Proof.Machine
end
section
/-! SUPPORT. Errors of requests and faults of links (R460, R467, R482), the masks of vectors (R459), and O12. -/

namespace Sys2Proof.Machine

variable (s : State)

@[simp] theorem State.keepsFields_refuse {t : State} {k : List Fld} (rq : Req) (off : Nat) (b : Bool) (hk : ∀ x ∈ refuseFields.map Fld.key, x ∈ k.map Fld.key) :
    s.keepsFields (t.refuse rq off b) k ↔ s.keepsFields t k :=
  State.keepsFields_congr fun f i hf => t.refuse_keepsFields rq off b f i fun hm => hf (hk _ hm)

/-- What a request error leaves: its HOST_ERR bit set. -/
theorem State.hostErr_set (fn : Nat) (f : Fld) (h : 0 < f.width) : (s.hostErr fn f).rd f fn = 1 :=
  (s.wr_rd_same f fn 1).trans (Nat.mod_eq_of_lt (Nat.one_lt_two_pow (by omega)))

@[simp] theorem State.hostErr_host (fn : Nat) (f : Fld) : (s.hostErr fn f).host = s.host := rfl
@[simp] theorem State.hostErr_rd {fn j : Nat} {f g : Fld} (h : g.key % 1024 ≠ f.key % 1024) : (s.hostErr fn f).rd g j = s.rd g j := s.wr_rd_key 1 h
@[simp] theorem State.keeps_hostErr {t : State} {l : List Part} (fn : Nat) (f : Fld) (hl : .regs ∈ l) : s.keeps (t.hostErr fn f) l ↔ s.keeps t l := State.keeps_wr f fn 1 hl
@[simp] theorem State.keepsFields_hostErr {t : State} {k : List Fld} (fn : Nat) (f : Fld) (hk : f.key % 1024 ∈ k.map Fld.key) : s.keepsFields (t.hostErr fn f) k ↔ s.keepsFields t k :=
  State.keepsFields_wr f fn 1 hk

theorem badSizeRead_reports (f : Fin 64) (off : Nat) (h : s.reachable (.fn f) = true) :
    ∃ t, execBadSizeRequest f false off s = .next t ∧ t.rd R.HOST_ERR.BAD_SIZE f.val = 1 ∧ (∀ k, smGet 0 t.host.aer k = smGet 0 s.host.aer k + (if k = 16 * f.val + 2 then 1 else 0)) ∧
      t.out = [.abort] ∧ s.keeps t [.regs, .host] ∧ s.keepsFields t [R.HOST_ERR.BAD_SIZE] := by
  refine done_meets ?_
  simp only [State.reachable_out, h, Bool.not_true, Bool.false_eq_true, if_false]
  exact ⟨State.hostErr_set _ _ _ (by decide), State.aer_counts _ _ _, rfl, State.keeps_commit (by simp), by simp (disch := decide)⟩

theorem badSizeWrite_counts (f : Fin 64) (off : Nat) (h : s.reachable (.fn f) = true) :
    ∃ t, execBadSizeRequest f true off s = .next t ∧ t.rd R.HOST_ERR.BAD_SIZE f.val = 1 ∧ t.rd R.HOST_REFUSE.COUNT f.val = min (s.rd R.HOST_REFUSE.COUNT f.val + 1) 65535 ∧
      t.rd R.HOST_REFUSE_ADDR.OFFSET f.val = off % 2 ^ R.HOST_REFUSE_ADDR.OFFSET.width ∧ t.rd R.HOST_REFUSE_ADDR.BAR2 f.val = 0 ∧ t.out = [] ∧ s.keeps t [.regs] ∧
      s.keepsFields t (R.HOST_ERR.BAD_SIZE :: refuseFields) := by
  refine done_meets ?_
  simp only [State.reachable_out, h, Bool.not_true, Bool.false_eq_true, if_false, if_true]
  obtain ⟨hoff, hbar⟩ := ((s.withOut []).hostErr f.val R.HOST_ERR.BAD_SIZE).refuse_place f off false
  refine ⟨?_, ?_, hoff, by simpa [State.fl] using hbar, rfl, State.keeps_commit (by simp), by simp (disch := decide)⟩
  · rw [State.commit_rd, State.refuse_rd _ (by decide)]
    exact State.hostErr_set _ _ _ (by decide)
  · rw [State.commit_rd, State.refuse_count, State.hostErr_rd _ (by decide), State.withOut_rd]

theorem unsupportedRequest_reports (f : Fin 64) (h : s.reachable (.fn f) = true) :
    ∃ t, execUnsupportedRequest f s = .next t ∧ t.rd R.HOST_ERR.UR f.val = 1 ∧ (∀ k, smGet 0 t.host.aer k = smGet 0 s.host.aer k + (if k = 16 * f.val + 3 then 1 else 0)) ∧
      s.keeps t [.regs, .host] ∧ s.keepsFields t [R.HOST_ERR.UR] := by
  refine done_meets ?_
  simp only [State.reachable_out, h, Bool.not_true, Bool.false_eq_true, if_false]
  exact ⟨State.hostErr_set _ _ _ (by decide), State.aer_counts _ _ _, State.keeps_commit (by simp), by simp (disch := decide)⟩

theorem poisonedTlp_reports (f : Fin 64) (bar2 : Bool) (off : Nat) (h : s.reachable (.fn f) = true) :
    ∃ t, execPoisonedTlpReceived f bar2 off s = .next t ∧ t.rd R.HOST_ERR.POISON_RX f.val = 1 ∧ (∀ k, smGet 0 t.host.aer k = smGet 0 s.host.aer k + (if k = 16 * f.val + 1 then 1 else 0)) ∧
      t.rd R.HOST_REFUSE.COUNT f.val = min (s.rd R.HOST_REFUSE.COUNT f.val + 1) 65535 ∧ t.rd R.HOST_REFUSE_ADDR.OFFSET f.val = off % 2 ^ R.HOST_REFUSE_ADDR.OFFSET.width ∧
      t.fl R.HOST_REFUSE_ADDR.BAR2 f.val = bar2 ∧ s.keeps t [.regs, .host] ∧ s.keepsFields t (R.HOST_ERR.POISON_RX :: refuseFields) := by
  refine done_meets ?_
  simp only [State.reachable_out, h, Bool.not_true, Bool.false_eq_true, if_false]
  obtain ⟨hoff, hbar⟩ := (((s.withOut []).hostErr f.val R.HOST_ERR.POISON_RX).aer f.val 1).refuse_place f off bar2
  refine ⟨?_, fun k => ?_, ?_, hoff, hbar, State.keeps_commit (by simp), by simp (disch := decide)⟩
  · exact (State.refuse_rd _ (by decide)).trans (State.hostErr_set _ _ R.HOST_ERR.POISON_RX (by decide))
  · exact (congrArg (smGet 0 ·.aer k) (State.refuse_host _ _ _ _)).trans (State.aer_counts _ _ _ k)
  · rw [State.commit_rd]
    rw [State.refuse_count, State.aer_rd, State.hostErr_rd _ (by decide), State.withOut_rd]

theorem linkProtocolFault_reports (f : Fin 64) (kind : Fin 4) (h : s.reachable (.fn f) = true) :
    ∃ t, execLinkProtocolFault f kind s = .next t ∧ (∀ k, smGet 0 t.host.aer k = smGet 0 s.host.aer k + (if k = 16 * f.val + 5 + kind.val then 1 else 0)) ∧ s.keeps t [.host] := by
  refine done_meets ?_
  simp only [State.reachable_out, h, Bool.not_true, Bool.false_eq_true, if_false]
  exact ⟨fun k => by rw [Nat.add_assoc]; exact State.aer_counts _ _ _ k, State.keeps_commit (by simp)⟩

/-- A command of the common form whose effect is none changes nothing. -/
theorem done_idle {f : State → State} (h : f (s.withOut []) = s.withOut []) : ∃ t, done s f = .next t ∧ s.keeps t [] :=
  ⟨_, congrArg (fun u => Host.Outcome.next (s.commit u)) h, State.keeps_commit (by simp)⟩

section
variable {f : Fin 64} (h : s.reachable (.fn f) = false)
include h

theorem badSizeRequest_unreached (write : Bool) (off : Nat) : ∃ t, execBadSizeRequest f write off s = .next t ∧ s.keeps t [] := done_idle s (by simp [h])
theorem unsupportedRequest_unreached : ∃ t, execUnsupportedRequest f s = .next t ∧ s.keeps t [] := done_idle s (by simp [h])
theorem poisonedTlp_unreached (bar2 : Bool) (off : Nat) : ∃ t, execPoisonedTlpReceived f bar2 off s = .next t ∧ s.keeps t [] := done_idle s (by simp [h])
theorem linkProtocolFault_unreached (kind : Fin 4) : ∃ t, execLinkProtocolFault f kind s = .next t ∧ s.keeps t [] := done_idle s (by simp [h])

end

/-- An unmasked vector that is pending sends its message; any other changes nothing (R459). -/
theorem State.unmask_cases (fn k : Nat) :
    ((smGet 0 s.host.pba (4 * fn + k) = 1 ∧ smGet 1 s.host.masks (4 * fn + k) = 0 ∧ smGet 0 s.host.fnMask fn = 0) ∧
      s.unmask fn k = ({ s with host := { s.host with pba := smSet 0 s.host.pba (4 * fn + k) 0 } }).send (.msix fn k)) ∨
    (¬(smGet 0 s.host.pba (4 * fn + k) = 1 ∧ smGet 1 s.host.masks (4 * fn + k) = 0 ∧ smGet 0 s.host.fnMask fn = 0) ∧ s.unmask fn k = s) := by
  by_cases h : smGet 0 s.host.pba (4 * fn + k) = 1 ∧ smGet 1 s.host.masks (4 * fn + k) = 0 ∧ smGet 0 s.host.fnMask fn = 0
  · exact .inl ⟨h, by simp [State.unmask, h]⟩
  · exact .inr ⟨h, if_neg (by simpa [and_assoc] using h)⟩

@[simp] theorem State.unmask_masks (fn k : Nat) : (s.unmask fn k).host.masks = s.host.masks := by
  obtain ⟨-, e⟩ | ⟨-, e⟩ := s.unmask_cases fn k <;> rw [e]
  rfl

@[simp] theorem State.unmask_fnMask (fn k : Nat) : (s.unmask fn k).host.fnMask = s.host.fnMask := by
  obtain ⟨-, e⟩ | ⟨-, e⟩ := s.unmask_cases fn k <;> rw [e]
  rfl

@[simp] theorem State.keeps_unmask {t : State} {l : List Part} (fn k : Nat) (hl : .host ∈ l) : s.keeps (t.unmask fn k) l ↔ s.keeps t l := by
  obtain ⟨-, e⟩ | ⟨-, e⟩ := t.unmask_cases fn k <;> rw [e]
  simp [hl]

/-- The pending bit of a vector whose function is not masked (R459). -/
theorem State.unmask_pba_same (fn k : Nat) (h : smGet 0 s.host.fnMask fn = 0) :
    smGet 0 (s.unmask fn k).host.pba (4 * fn + k) = if smGet 0 s.host.pba (4 * fn + k) = 1 ∧ smGet 1 s.host.masks (4 * fn + k) = 0 then 0 else smGet 0 s.host.pba (4 * fn + k) := by
  obtain ⟨⟨h1, h2, h3⟩, e⟩ | ⟨hn, e⟩ := s.unmask_cases fn k <;> rw [e]
  · simp [h1, h2]
  · rw [if_neg fun hc => hn ⟨hc.1, hc.2, h⟩]

theorem State.unmask_pba_ne {fn k j : Nat} (h : j ≠ 4 * fn + k) : smGet 0 (s.unmask fn k).host.pba j = smGet 0 s.host.pba j := by
  obtain ⟨-, e⟩ | ⟨-, e⟩ := s.unmask_cases fn k <;> rw [e]
  simp [State.send, h]

/-- A vector with its mask cleared, before its pending message is looked at. -/
def State.maskCleared (fn k : Nat) : State := { s.withOut [] with host := { s.host with masks := smSet 1 s.host.masks (4 * fn + k) 0 } }

/-- A function with its Function Mask cleared, before its pending messages are looked at. -/
def State.fnMaskCleared (fn : Nat) : State := { s.withOut [] with host := { s.host with fnMask := smSet 0 s.host.fnMask fn 0 } }

theorem vectorUnmask_sends (f : Fin 64) (vec : Fin 4) :
    ∃ t, execMsixMaskClear f (some vec) s = .next t ∧ smGet 1 t.host.masks (4 * f.val + vec.val) = 0 ∧
      ((smGet 0 s.host.pba (4 * f.val + vec.val) ≠ 1 ∨ smGet 0 s.host.fnMask f.val ≠ 0) → t.host.pba = s.host.pba ∧ t.out = []) ∧
      ((smGet 0 s.host.pba (4 * f.val + vec.val) = 1 ∧ smGet 0 s.host.fnMask f.val = 0) → smGet 0 t.host.pba (4 * f.val + vec.val) = 0 ∧ t.out = [.msix f.val vec.val]) ∧ s.keeps t [.host] := by
  have e : execMsixMaskClear f (some vec) s = .next (s.commit ((s.maskCleared f.val vec.val).unmask f.val vec.val)) := rfl
  have hmask : smGet 1 (s.maskCleared f.val vec.val).host.masks (4 * f.val + vec.val) = 0 := by simp [State.maskCleared]
  refine ⟨_, e, (congrArg (smGet 1 · _) (State.unmask_masks _ _ _)).trans hmask, fun hn => ?_, fun hy => ?_,
    State.keeps_commit ((State.keeps_unmask (s := s) (l := [.host]) f.val vec.val (by simp)).2 (s.keeps_setHost _))⟩
  · obtain ⟨⟨h1, -, h3⟩, -⟩ | ⟨-, e⟩ := (s.maskCleared f.val vec.val).unmask_cases f.val vec.val
    · exact absurd hn (by rw [not_or, not_not, not_not]; exact ⟨h1, h3⟩)
    · exact ⟨congrArg (·.host.pba) e, congrArg (·.out) e⟩
  · obtain ⟨-, e⟩ | ⟨hn, -⟩ := (s.maskCleared f.val vec.val).unmask_cases f.val vec.val
    · exact ⟨by rw [State.commit_host, e]; simp [State.send], congrArg (·.out) e⟩
    · exact absurd ⟨hy.1, hmask, hy.2⟩ hn

/-- The pending bits after a function's messages are looked at one vector after another (R459). -/
theorem State.unmaskAll_pba (fn : Nat) (l : List Nat) (hl : l.Nodup) (h : smGet 0 s.host.fnMask fn = 0) (k : Nat) :
    smGet 0 (s.each l fun s k => s.unmask fn k).host.pba (4 * fn + k) =
      if k ∈ l ∧ smGet 0 s.host.pba (4 * fn + k) = 1 ∧ smGet 1 s.host.masks (4 * fn + k) = 0 then 0 else smGet 0 s.host.pba (4 * fn + k) := by
  induction l generalizing s with
  | nil => simp [State.each]
  | cons a r ih =>
    obtain ⟨ha, hr⟩ := List.nodup_cons.1 hl
    refine (ih (s.unmask fn a) hr (by simpa using h)).trans ?_
    by_cases hk : k = a
    · subst hk
      simp [ha, s.unmask_pba_same fn k h]
    · simp [hk, s.unmask_pba_ne (fn := fn) (k := a) (j := 4 * fn + k) (by omega)]

theorem functionUnmask_sends (f : Fin 64) :
    ∃ t, execMsixMaskClear f none s = .next t ∧ smGet 0 t.host.fnMask f.val = 0 ∧ s.keeps t [.host] ∧
      (∀ k, k < 4 → smGet 0 t.host.pba (4 * f.val + k) = if smGet 0 s.host.pba (4 * f.val + k) = 1 ∧ smGet 1 s.host.masks (4 * f.val + k) = 0 then 0 else smGet 0 s.host.pba (4 * f.val + k)) := by
  have e : execMsixMaskClear f none s = .next (s.commit ((s.fnMaskCleared f.val).each (List.range 4) fun s k => s.unmask f.val k)) := rfl
  have hmask : smGet 0 (s.fnMaskCleared f.val).host.fnMask f.val = 0 := by simp [State.fnMaskCleared]
  refine ⟨_, e, ?_, State.keeps_commit ?_, fun k hk => ?_⟩
  · exact State.each_induction (P := fun t => smGet 0 t.host.fnMask f.val = 0) _ _ _ hmask fun t n ht => (congrArg (smGet 0 · _) (t.unmask_fnMask _ _)).trans ht
  · exact State.each_induction (P := fun t => s.keeps t [.host]) _ _ _ (s.keeps_setHost _) fun t n ht => (State.keeps_unmask (s := s) (l := [.host]) _ _ (by simp)).2 ht
  · refine ((s.fnMaskCleared f.val).unmaskAll_pba f.val (List.range 4) List.nodup_range hmask k).trans ?_
    simp only [List.mem_range, hk, true_and]
    rfl

end Sys2Proof.Machine

open Sys2Proof Sys2Proof.Machine

/-- Settles O12: each request error and each unmasking leaves what its rule says, and a function that is not reached reports nothing. -/
theorem busFaults : Obligations.BusFaults := by
  refine ⟨fun s f off h => badSizeRead_reports s f off h, fun s f off h => badSizeWrite_counts s f off h, fun s f h => unsupportedRequest_reports s f h,
    fun s f bar2 off h => poisonedTlp_reports s f bar2 off h, fun s f kind h => linkProtocolFault_reports s f kind h, fun s f write bar2 off kind h => ?_,
    fun s f vec => vectorUnmask_sends s f vec, fun s f => functionUnmask_sends s f⟩
  refine ⟨?_, ?_, ?_, ?_⟩
  · exact badSizeRequest_unreached s h write off
  · exact unsupportedRequest_unreached s h
  · exact poisonedTlp_unreached s h bar2 off
  · exact linkProtocolFault_unreached s h kind
end
section
/-! SUPPORT. Reads that have an effect (R433, R464, R466), and O13. -/

namespace Sys2Proof.Machine

variable (s : State)

@[simp] theorem State.regWord_out (o : List Out) (rq : Req) (r : Reg) (i j : Nat) : (s.withOut o).regWord rq r i j = s.regWord rq r i j := by
  cases rq <;> rfl

@[simp] theorem State.window_out (o : List Out) (off : Nat) : (s.withOut o).window off = s.window off := rfl

/-- No register of type RC is the low half of a pair, a shadow of one, or a register whose read has an effect of its own. -/
theorem State.regRead_of_isRc {rq : Req} {r : Reg} {i j : Nat} (h : r.isRc = true) : s.regRead rq r i j = (s, s.regWord rq r i j) := by
  cases r
  case TIME_NOW_FRAC | TX_STAMP_FRAC | ADC_FIFO | SMU_FIFO | TDC_RES_LO | CMP_CYCLE_LO | CMP_SITE_FF_LO | CAL_LAST_TIME_LO | CMP_CYCLE_HI | CMP_SITE_FF_HI | CAL_LAST_TIME_HI => exact absurd h (by decide)
  all_goals rfl

/-- The fields of a register have keys of their own. -/
theorem Reg.fields_keys (r : Reg) : (r.fields.map Fld.key).Nodup ∧ ∀ f ∈ r.fields, f.key < 1024 := by
  have h : ∀ r ∈ allRegs, (r.fields.map Fld.key).Nodup ∧ ∀ f ∈ r.fields, f.key < 1024 := by decide +kernel
  exact h r (mem_allRegs r)

/-- Counts reduced one after another: each by its own part of the value, and no other field. -/
theorem State.countsTaken (j v : Nat) (l : List Fld) (hk : (l.map Fld.key).Nodup) (hb : ∀ f ∈ l, f.key < 1024) :
    s.keepsFields (l.foldl (fun s f => s.wr f j (s.rd f j - f.part v)) s) l ∧
      ∀ f ∈ l, (l.foldl (fun s f => s.wr f j (s.rd f j - f.part v)) s).rd f j = (s.rd f j - f.part v) % 2 ^ f.width := by
  induction l generalizing s with
  | nil => exact ⟨s.keepsFields_refl _, fun f hf => absurd hf List.not_mem_nil⟩
  | cons g r ih =>
    obtain ⟨hg, hr⟩ := List.nodup_cons.1 hk
    obtain ⟨h1, h2⟩ := ih (s.wr g j (s.rd g j - g.part v)) hr fun f hf => hb f (List.mem_cons_of_mem _ hf)
    have hgk : g.key % 1024 = g.key := Nat.mod_eq_of_lt (hb g List.mem_cons_self)
    refine ⟨fun f i hf => ?_, fun f hf => ?_⟩
    · obtain ⟨hfg, hfr⟩ := not_or.1 fun h => hf (List.mem_cons.2 h)
      exact (h1 f i hfr).trans (s.wr_rd_key _ (by rw [hgk]; exact hfg))
    · obtain rfl | hf := List.mem_cons.1 hf
      · exact (h1 f j (by rw [hgk]; exact hg)).trans (s.wr_rd_same _ _ _)
      · have hne : f.key % 1024 ≠ g.key % 1024 := by
          rw [hgk, Nat.mod_eq_of_lt (hb f (List.mem_cons_of_mem _ hf))]
          exact fun e => hg (e ▸ List.mem_map_of_mem hf)
        rw [List.foldl_cons, h2 f hf, s.wr_rd_key _ hne]

/-- A read of an RC register reduces its counts by the value returned, and changes nothing else (R464). -/
theorem State.rcClear_counts (r : Reg) (j v : Nat) :
    s.keepsFields (s.rcClear r j v) r.fields ∧ ∀ f ∈ r.fields, f.acc = .rc → (s.rcClear r j v).rd f j = (s.rd f j - f.part v) % 2 ^ f.width := by
  obtain ⟨hk, hb⟩ := r.fields_keys
  have hsub : (r.fields.filter fun f => f.acc = .rc).Sublist r.fields := List.filter_sublist
  obtain ⟨h1, h2⟩ := s.countsTaken j v _ ((hsub.map Fld.key).nodup hk) fun f hf => hb f (hsub.mem hf)
  exact ⟨fun f i hf => h1 f i fun hm => hf ((hsub.map Fld.key).mem hm), fun f hf hc => h2 f (List.mem_filter.2 ⟨hf, by simp [hc]⟩)⟩

@[simp] theorem State.keeps_rcClear {t : State} {l : List Part} (r : Reg) (j v : Nat) (hl : .regs ∈ l) : s.keeps (t.rcClear r j v) l ↔ s.keeps t l := by
  unfold State.rcClear
  generalize r.fields.filter _ = fs
  induction fs generalizing t with
  | nil => rfl
  | cons f fs ih => exact (ih (t := t.wr f j _)).trans (State.keeps_wr _ _ _ hl)

section
variable {rq : Req} {off : Nat} {r : Reg} {i : Nat} (hal : off % 4 = 0) (hwin : off < 0x8000 ∨ 0x10000 ≤ off) (hw : s.window off = none) (hd : decodeOffset off = some (r, i))
  (hm : s.mayRead rq r i = true)
include hal hwin hw hd hm

/-- A read of a register that the requester sees returns what the register's own reading returns. -/
theorem State.busRead_reg : s.busRead rq off = ((s.regRead rq r i (s.copyOf rq r i)).1, (s.regRead rq r i (s.copyOf rq r i)).2, if r.isRc then some (r, s.copyOf rq r i) else none) := by
  have hwin' : (0x8000 ≤ off && off < 0x10000) = false := by simp; omega
  unfold State.busRead
  simp only [hal, Nat.sub_zero, hwin', hw, hd, hm, Bool.false_eq_true, if_false, Option.isSome_none, Bool.not_true]

variable (hlt : off < 0x2000000) (hr : s.reachable rq = true)
include hlt hr

/-- What a host's read of a register with the wanted property leaves and sends. -/
theorem State.hostRead_reg (p : Reg → Bool) (hp : p r = true) :
    s.hostRead rq off p = ((s.regRead rq r i (s.copyOf rq r i)).1.busClear (if r.isRc then some (r, s.copyOf rq r i) else none) (s.regRead rq r i (s.copyOf rq r i)).2).send
      (.word (s.regRead rq r i (s.copyOf rq r i)).2) := by
  have hlt' : ¬ 0x2000000 ≤ off := by omega
  simp [State.hostRead, hd, hp, hr, hlt', s.busRead_reg hal hwin hw hd hm]

end

theorem rcRead_takes (rq : Req) (off : Nat) (r : Reg) (i : Nat) (f : Fld) (hal : off % 4 = 0) (hwin : off < 0x8000 ∨ 0x10000 ≤ off) (hlt : off < 0x2000000) (hw : s.window off = none)
    (hd : decodeOffset off = some (r, i)) (hrc : r.isRc = true) (hr : s.reachable rq = true) (hm : s.mayRead rq r i = true) (hf : f ∈ r.fields) (hacc : f.acc = .rc) :
    ∃ t, execRcRead rq off s = .next t ∧ t.out = [.word (s.regWord rq r i (s.copyOf rq r i))] ∧
      t.rd f (s.copyOf rq r i) = (s.rd f (s.copyOf rq r i) - f.part (s.regWord rq r i (s.copyOf rq r i))) % 2 ^ f.width ∧ s.keeps t [.regs] ∧ s.keepsFields t r.fields := by
  have e : (s.withOut []).hostRead rq off Reg.isRc =
      ((s.withOut []).rcClear r (s.copyOf rq r i) (s.regWord rq r i (s.copyOf rq r i))).send (.word (s.regWord rq r i (s.copyOf rq r i))) := by
    rw [State.hostRead_reg (s.withOut []) hal hwin ((s.window_out _ _).trans hw) hd ((State.mayRead_out _ _ _ _ _).trans hm) hlt ((State.reachable_out _ _ _).trans hr) _ hrc, State.regRead_of_isRc _ hrc, State.copyOf_out,
      State.regWord_out, if_pos hrc]
    rfl
  obtain ⟨h1, h2⟩ := (s.withOut []).rcClear_counts r (s.copyOf rq r i) (s.regWord rq r i (s.copyOf rq r i))
  refine ⟨_, congrArg (fun u => Host.Outcome.next (s.commit u)) e, ?_, h2 f hf hacc, State.keeps_commit (by simp), h1⟩
  have ho : ∀ (l : List Fld) (j v : Nat) (u : State), (l.foldl (fun s f => s.wr f j (s.rd f j - f.part v)) u).out = u.out := fun l j v => by
    induction l with
    | nil => exact fun _ => rfl
    | cons g l ih => exact fun u => (ih _).trans rfl
  exact congrArg (· ++ [_]) (ho _ _ _ _)

/-- A shadow reads what was put in it. -/
theorem State.setRsn_rsn (rq : Req) (n v : Nat) : smGet 0 (s.setRsn rq n v).host.rsn (4096 * reqNum rq + n) = v := smGet_smSet_same _ _ _ _

/-- The low halves of pairs: no read of them has another effect. -/
theorem rsnHigh_plain {r h : Reg} {j n : Nat} (hh : rsnHigh r j = some (h, n)) :
    (rsnHigh r 0).isSome = true ∧ r.isRc = false ∧ ∀ (s : State) (rq : Req) (i : Nat), s.regRead rq r i j = (s.setRsn rq n (s.regWord rq h i j + 1), s.regWord rq r i j) := by
  cases r
  case CMP_CYCLE_LO | CMP_SITE_FF_LO | CAL_LAST_TIME_LO =>
    cases hh
    exact ⟨rfl, by decide, fun s rq i => rfl⟩
  all_goals cases hh

theorem rsnShadow_plain {r : Reg} {j n : Nat} (hh : rsnShadow r j = some n) :
    (rsnShadow r 0).isSome = true ∧ r.isRc = false ∧ ∀ (s : State) (rq : Req) (i x : Nat), smGet 0 s.host.rsn (4096 * reqNum rq + n) = x + 1 → s.regRead rq r i j = (s.setRsn rq n 0, x) := by
  cases r
  case CMP_CYCLE_HI | CMP_SITE_FF_HI | CAL_LAST_TIME_HI =>
    cases hh
    refine ⟨rfl, by decide, fun s rq i x hx => ?_⟩
    simp only [State.regRead, rsnHigh, rsnShadow, hx]
  all_goals cases hh

theorem rsnLowRead_snapshots (rq : Req) (off : Nat) (r h : Reg) (i n : Nat) (hal : off % 4 = 0) (hwin : off < 0x8000 ∨ 0x10000 ≤ off) (hlt : off < 0x2000000) (hw : s.window off = none)
    (hd : decodeOffset off = some (r, i)) (hr : s.reachable rq = true) (hm : s.mayRead rq r i = true) (hh : rsnHigh r (s.copyOf rq r i) = some (h, n)) :
    ∃ t, execRsnLowRead rq off s = .next t ∧ t.out = [.word (s.regWord rq r i (s.copyOf rq r i))] ∧
      smGet 0 t.host.rsn (4096 * reqNum rq + n) = s.regWord rq h i (s.copyOf rq r i) + 1 ∧ s.keeps t [.host] := by
  obtain ⟨hp, hrc, hread⟩ := rsnHigh_plain hh
  have e : (s.withOut []).hostRead rq off (fun r => (rsnHigh r 0).isSome || (rsnShadow r 0).isSome) =
      ((s.withOut []).setRsn rq n (s.regWord rq h i (s.copyOf rq r i) + 1)).send (.word (s.regWord rq r i (s.copyOf rq r i))) := by
    rw [State.hostRead_reg (s.withOut []) hal hwin ((s.window_out _ _).trans hw) hd ((State.mayRead_out _ _ _ _ _).trans hm) hlt ((State.reachable_out _ _ _).trans hr) _ (by simp [hp]), State.copyOf_out, hread, State.regWord_out,
      State.regWord_out, if_neg (by simp [hrc])]
    rfl
  refine ⟨_, congrArg (fun u => Host.Outcome.next (s.commit u)) e, rfl, State.setRsn_rsn _ _ _ _, State.keeps_commit ?_⟩
  exact (State.keeps_send _).2 ((State.keeps_host _ (by simp)).2 (by simp))

theorem rsnHighRead_returns (rq : Req) (off : Nat) (r : Reg) (i n x : Nat) (hal : off % 4 = 0) (hwin : off < 0x8000 ∨ 0x10000 ≤ off) (hlt : off < 0x2000000) (hw : s.window off = none)
    (hd : decodeOffset off = some (r, i)) (hr : s.reachable rq = true) (hm : s.mayRead rq r i = true) (hh : rsnShadow r (s.copyOf rq r i) = some n)
    (hx : smGet 0 s.host.rsn (4096 * reqNum rq + n) = x + 1) :
    ∃ t, execRsnLowRead rq off s = .next t ∧ t.out = [.word x] ∧ smGet 0 t.host.rsn (4096 * reqNum rq + n) = 0 ∧ s.keeps t [.host] := by
  obtain ⟨hp, hrc, hread⟩ := rsnShadow_plain hh
  have e : (s.withOut []).hostRead rq off (fun r => (rsnHigh r 0).isSome || (rsnShadow r 0).isSome) = ((s.withOut []).setRsn rq n 0).send (.word x) := by
    rw [State.hostRead_reg (s.withOut []) hal hwin ((s.window_out _ _).trans hw) hd ((State.mayRead_out _ _ _ _ _).trans hm) hlt ((State.reachable_out _ _ _).trans hr) _ (by simp [hp]), State.copyOf_out, hread (s.withOut []) _ _ x hx,
      if_neg (by simp [hrc])]
    rfl
  refine ⟨_, congrArg (fun u => Host.Outcome.next (s.commit u)) e, rfl, State.setRsn_rsn _ _ _ _, State.keeps_commit ?_⟩
  exact (State.keeps_send _).2 ((State.keeps_host _ (by simp)).2 (by simp))

theorem timeNowRead_snapshots (rq : Req) (hr : s.reachable rq = true) (hm : s.mayRead rq .TIME_NOW_FRAC 0 = true) :
    ∃ t, execTimeNowRead rq s = .next t ∧ t.out = [.word (s.clock.frac / 65536 + 65536 * s.quality)] ∧ t.shadow rq = s.snap ∧ s.keeps t [.host, .time] := by
  have e : execTimeNowRead rq s = .next (s.commit (((s.withOut []).timeNowRead rq).1.send (.word ((s.withOut []).timeNowRead rq).2))) := by
    unfold execTimeNowRead readRow
    rw [done_eq, show ({ s with out := [] } : State) = s.withOut [] from rfl, State.reachable_out, State.mayRead_out, hr, hm]
    rfl
  refine ⟨_, e, rfl, smGet_smSet_same _ _ _ _, State.keeps_commit fun p hp => ?_⟩
  cases p
  case time => exact absurd hp (by simp)
  all_goals rfl

end Sys2Proof.Machine

open Sys2Proof Sys2Proof.Machine

/-- Settles O13: each read that has an effect, by what the register's own reading leaves. -/
theorem registerReads : Obligations.RegisterReads := by
  refine ⟨fun s rq off r i f hal hwin hlt hw hd hrc hr hm hf hacc => rcRead_takes s rq off r i f hal hwin hlt hw hd hrc hr hm hf hacc,
    fun s rq off r h i n hal hwin hlt hw hd hr hm hh => rsnLowRead_snapshots s rq off r h i n hal hwin hlt hw hd hr hm hh,
    fun s rq off r i n x hal hwin hlt hw hd hr hm hh hx => rsnHighRead_returns s rq off r i n x hal hwin hlt hw hd hr hm hh hx,
    fun s rq hr hm => timeNowRead_snapshots s rq hr hm⟩
end
section
/-! SUPPORT. A word written field by field (R7, R461, R467, R599), and O11. -/

namespace Sys2Proof.Machine

variable (s : State)

/-- A field's part of a word fits the field. -/
theorem Fld.part_lt (f : Fld) (w : Nat) : f.part w < 2 ^ f.width := bits_lt _ _ _

/-- What a field holds after its part of a written word is taken by its type (R7). -/
def State.taken (s : State) (i w be : Nat) (f : Fld) : Nat :=
  if f.enabled be = false then s.rd f i else
  match f.acc with
  | .rw => f.part w
  | .w1c => Nat.land (s.rd f i) (2 ^ f.width - 1 - f.part w)
  | .w1s => Nat.lor (s.rd f i) (f.part w) % 2 ^ f.width
  | .rwl => if s.m.mode = .load ∨ s.m.mode = .service then f.part w else s.rd f i
  | .ro | .wo | .rc | .rsn => s.rd f i

theorem land_le_right (a b : Nat) : Nat.land a b ≤ b := Nat.and_le_right

/-- One field takes its part by its type, and nothing but that field changes. -/
theorem writeField_takes (i w be : Nat) (f : Fld) :
    (writeField i w be f s).1.rd f i = s.taken i w be f ∧ (writeField i w be f s).1.m = s.m ∧
      ∀ (g : Fld) (j : Nat), g.key % 1024 ≠ f.key % 1024 → (writeField i w be f s).1.rd g j = s.rd g j := by
  unfold writeField State.taken
  cases f.enabled be
  · exact ⟨rfl, rfl, fun _ _ _ => rfl⟩
  · have hmask : Nat.land (s.rd f i) (2 ^ f.width - 1 - f.part w) < 2 ^ f.width := by
      have := land_le_right (s.rd f i) (2 ^ f.width - 1 - f.part w)
      have := f.part_lt w
      omega
    cases hacc : f.acc
    case rw => exact ⟨(s.wr_rd_same f i _).trans (Nat.mod_eq_of_lt (f.part_lt w)), rfl, fun g j h => s.wr_rd_key _ h⟩
    case w1c => exact ⟨(s.wr_rd_same f i _).trans (Nat.mod_eq_of_lt hmask), rfl, fun g j h => s.wr_rd_key _ h⟩
    case w1s => exact ⟨s.wr_rd_same f i _, rfl, fun g j h => s.wr_rd_key _ h⟩
    case rwl =>
      by_cases hm : s.m.mode = .load ∨ s.m.mode = .service
      · simp only [Bool.not_true, Bool.false_eq_true, if_false, hm, if_true, Bool.true_eq_false]
        exact ⟨(s.wr_rd_same f i _).trans (Nat.mod_eq_of_lt (f.part_lt w)), rfl, fun g j h => s.wr_rd_key _ h⟩
      · simp only [Bool.not_true, Bool.false_eq_true, if_false, hm, Bool.true_eq_false]
        exact ⟨trivial, trivial, fun _ _ _ => trivial⟩
    all_goals exact ⟨rfl, rfl, fun _ _ _ => rfl⟩

/-- A field refuses its part where it is an RWL field that the write reaches outside LOAD and SERVICE (R7). -/
theorem writeField_refuses (i w be : Nat) (f : Fld) :
    (writeField i w be f s).2 = (f.enabled be && decide (f.acc = .rwl) && !decide (s.m.mode = .load ∨ s.m.mode = .service)) := by
  unfold writeField
  cases f.enabled be
  · rfl
  · cases hacc : f.acc
    case rwl => by_cases hm : s.m.mode = .load ∨ s.m.mode = .service <;> simp [hm]
    all_goals simp

/-- Fields taken one after another: each holds what it takes by its type. -/
theorem writeFields_take (i w be : Nat) (l : List Fld) (hk : (l.map Fld.key).Nodup) (hb : ∀ f ∈ l, f.key < 1024) :
    (∀ (g : Fld) (j : Nat), g.key % 1024 ∉ l.map Fld.key → (l.foldl (fun s f => (writeField i w be f s).1) s).rd g j = s.rd g j) ∧
      ∀ f ∈ l, (l.foldl (fun s f => (writeField i w be f s).1) s).rd f i = s.taken i w be f := by
  induction l generalizing s with
  | nil => exact ⟨fun _ _ _ => rfl, fun f hf => absurd hf List.not_mem_nil⟩
  | cons a r ih =>
    obtain ⟨ha, hr⟩ := List.nodup_cons.1 hk
    obtain ⟨htake, hm, hkeep⟩ := writeField_takes s i w be a
    obtain ⟨h1, h2⟩ := ih (writeField i w be a s).1 hr fun f hf => hb f (List.mem_cons_of_mem _ hf)
    have hak : a.key % 1024 = a.key := Nat.mod_eq_of_lt (hb a List.mem_cons_self)
    refine ⟨fun g j hg => ?_, fun f hf => ?_⟩
    · obtain ⟨hga, hgr⟩ := not_or.1 fun h => hg (List.mem_cons.2 h)
      exact (h1 g j hgr).trans (hkeep g j (by rw [hak]; exact hga))
    · obtain rfl | hf := List.mem_cons.1 hf
      · exact (h1 f i (by rw [hak]; exact ha)).trans htake
      · have hne : f.key % 1024 ≠ a.key % 1024 := by
          rw [hak, Nat.mod_eq_of_lt (hb f (List.mem_cons_of_mem _ hf))]
          exact fun e => ha (e ▸ List.mem_map_of_mem hf)
        rw [List.foldl_cons, h2 f hf, State.taken, State.taken, hkeep f i hne, hm]

section
variable {rq : Req} {off : Nat} {w : Word} {be : Fin 16} {r : Reg} {i : Nat} (hal : off % 4 = 0) (hwin : off < 0x8000 ∨ 0x10000 ≤ off) (hw : s.window off = none)
  (hd : decodeOffset off = some (r, i)) (hr : s.reachable rq = true) (hbe : be.val ≠ 0)
include hal hwin hw hd hr hbe

/-- A write of an offset that a register decodes acts on that register. -/
theorem State.busWrite_reg : s.busWrite rq off w.toNat be.val = s.hostAct rq r i fun j => regHook r rq j w.toNat be.val := by
  have hwin' : (0x8000 ≤ off && off < 0x10000) = false := by simp; omega
  have hbe' : be.val % 16 ≠ 0 := by omega
  unfold State.busWrite
  simp only [hal, Nat.sub_zero, hwin', hw, hd, hr, hbe', Bool.not_true, Bool.false_or, decide_false, Bool.false_eq_true, if_false, Option.isSome_none]

end

section
variable {rq : Req} {off : Nat} {w : Word} {be : Fin 16} {r : Reg} {i : Nat} (hal : off % 4 = 0) (hwin : off < 0x8000 ∨ 0x10000 ≤ off) (hw : s.window off = none)
  (hd : decodeOffset off = some (r, i)) (hr : s.reachable rq = true) (hbe : be.val ≠ 0)
  (hplain : regHook r rq (s.copyOf rq r i) w.toNat be.val (s.withOut []) = writeWord r (s.copyOf rq r i) w.toNat be.val (s.withOut []))
include hal hwin hw hd hr hbe hplain

/-- A write of a register with no effect of its own writes its word field by field, or is refused. -/
theorem registerWrite_plain (hm : s.mayWrite rq r i = true) :
    execRegisterWrite rq off w be s = .next (s.commit (if (r.fields.any fun f => (writeField (s.copyOf rq r i) w.toNat be.val f (s.withOut [])).2) = true then
      (s.withOut []).refuse rq (r.offset i) false else r.fields.foldl (fun u f => (writeField (s.copyOf rq r i) w.toNat be.val f u).1) (s.withOut []))) := by
  have e := (s.withOut []).busWrite_reg (w := w) hal hwin ((s.window_out _ _).trans hw) hd ((State.reachable_out _ _ _).trans hr) hbe
  have h1 : (s.withOut []).hostAct rq r i (fun j => regHook r rq j w.toNat be.val) =
      if (r.fields.any fun f => (writeField (s.copyOf rq r i) w.toNat be.val f (s.withOut [])).2) = true then
      (s.withOut []).refuse rq (r.offset i) false else r.fields.foldl (fun u f => (writeField (s.copyOf rq r i) w.toNat be.val f u).1) (s.withOut []) := by
    simp only [State.hostAct, State.reachable_out, State.mayWrite_out, hr, hm, Bool.not_true, Bool.false_eq_true, if_false, if_true, State.copyOf_out, hplain, writeWord, writeFields]
    cases r.fields.any _ <;> simp only [Bool.false_eq_true, if_false, if_true]
  exact congrArg (fun u => Host.Outcome.next (s.commit u)) (e.trans h1)

theorem registerWrite_takes (hm : s.mayWrite rq r i = true) {f : Fld} (hf : f ∈ r.fields)
    (hrwl : s.m.mode = .load ∨ s.m.mode = .service ∨ (r.fields.any fun g => g.acc = .rwl && g.enabled be.val) = false) :
    ∃ t, execRegisterWrite rq off w be s = .next t ∧ t.rd f (s.copyOf rq r i) = s.taken (s.copyOf rq r i) w.toNat be.val f := by
  have hno : ¬(r.fields.any fun f => (writeField (s.copyOf rq r i) w.toNat be.val f (s.withOut [])).2) = true := by
    simp only [List.any_eq_true, writeField_refuses, State.withOut_m, not_exists, not_and]
    intro g hg hgr
    simp only [Bool.and_eq_true, decide_eq_true_eq, Bool.not_eq_true'] at hgr
    obtain ⟨⟨hen, hac⟩, hmode⟩ := hgr
    obtain ⟨hl, hsv⟩ := not_or.1 (of_decide_eq_false hmode)
    obtain h | h | h := hrwl
    · exact hl h
    · exact hsv h
    · exact absurd (List.any_eq_false.1 h g hg) (by simp [hac, hen])
  obtain ⟨hk, hb⟩ := r.fields_keys
  refine ⟨_, (registerWrite_plain s hal hwin hw hd hr hbe hplain hm).trans (by rw [if_neg hno]), ?_⟩
  exact (State.commit_rd _ _ _ _).trans ((writeFields_take (s.withOut []) (s.copyOf rq r i) w.toNat be.val _ hk hb).2 f hf)

end

/-- A write that a function makes and that is refused is counted, with its place, and changes nothing else (R467). -/
theorem State.refused_counts {f : Fin 64} (off : Nat) : (s.commit ((s.withOut []).refuse (.fn f) off false)).rd R.HOST_REFUSE.COUNT f.val = min (s.rd R.HOST_REFUSE.COUNT f.val + 1) 65535 ∧
    (s.commit ((s.withOut []).refuse (.fn f) off false)).rd R.HOST_REFUSE_ADDR.OFFSET f.val = off % 2 ^ R.HOST_REFUSE_ADDR.OFFSET.width ∧
    (s.commit ((s.withOut []).refuse (.fn f) off false)).rd R.HOST_REFUSE_ADDR.BAR2 f.val = 0 ∧
    s.keeps (s.commit ((s.withOut []).refuse (.fn f) off false)) [.regs] ∧ s.keepsFields (s.commit ((s.withOut []).refuse (.fn f) off false)) refuseFields := by
  obtain ⟨hoff, hbar⟩ := (s.withOut []).refuse_place f off false
  exact ⟨(State.commit_rd _ _ _ _).trans (State.refuse_count _ _ _ _), hoff, by simpa [State.fl] using hbar, State.keeps_commit (by simp), State.refuse_keepsFields _ _ _ _⟩

/-- A write whose sender is not reached, or that enables no byte, changes nothing (R461). -/
theorem registerWrite_ignored (rq : Req) (off : Nat) (w : Word) (be : Fin 16) (h : s.reachable rq = false ∨ be.val = 0) : ∃ t, execRegisterWrite rq off w be s = .next t ∧ s.keeps t [] := by
  refine done_idle s ?_
  obtain h | h := h <;> simp [State.busWrite, h]

theorem registerWrite_notMay {f : Fin 64} {off : Nat} (w : Word) {be : Fin 16} {r : Reg} {i : Nat} (hal : off % 4 = 0) (hwin : off < 0x8000 ∨ 0x10000 ≤ off) (hw : s.window off = none)
    (hd : decodeOffset off = some (r, i)) (hr : s.reachable (.fn f) = true) (hm : s.mayWrite (.fn f) r i = false) (hbe : be.val ≠ 0) :
    execRegisterWrite (.fn f) off w be s = .next (s.commit ((s.withOut []).refuse (.fn f) (r.offset i) false)) := by
  have e := (s.withOut []).busWrite_reg (w := w) hal hwin ((s.window_out _ _).trans hw) hd ((State.reachable_out _ _ _).trans hr) hbe
  refine congrArg (fun u => Host.Outcome.next (s.commit u)) (e.trans ?_)
  simp [State.hostAct, hr, hm]

end Sys2Proof.Machine

open Sys2Proof Sys2Proof.Machine

/-- Settles O11: a word is taken field by field, or refused whole and counted. -/
theorem registerWrites : Obligations.RegisterWrites := by
  refine ⟨fun s rq off w be r i f hal hwin hw hd hc hbe hplain hf hrwl => ?_, fun s f off w be r i hal hwin hw hd hc hbe hplain hl hsv hany => ?_,
    fun s f off w be r i hal hwin hw hd hr hm hbe => ?_, fun s rq off w be h => registerWrite_ignored s rq off w be h⟩
  case refine_1 =>
    obtain ⟨t, e, ht⟩ := registerWrite_takes s hal hwin hw hd hc.1 hbe hplain hc.2 hf hrwl
    refine ⟨t, e, ?_, ?_, ?_, ?_⟩ <;> rw [ht, State.taken]
    · rintro (h | h | h | h | h)
      · rw [if_pos h]
      all_goals rw [h, ite_self]
    · rintro ⟨he, h | h⟩ <;> rw [if_neg (by simp [he]), h]
      refine if_pos ?_
      obtain hl | hsv | hno := hrwl
      · exact .inl hl
      · exact .inr hsv
      · exact absurd (List.any_eq_false.1 hno f hf) (by simp [h, he])
    · rintro ⟨he, h⟩
      rw [if_neg (by simp [he]), h]
    · rintro ⟨he, h⟩
      rw [if_neg (by simp [he]), h]
  case refine_2 =>
    obtain ⟨hcount, -, -, hk, hf⟩ := s.refused_counts (f := f) (r.offset i)
    have hany' : (r.fields.any fun g => (writeField (s.copyOf (.fn f) r i) w.toNat be.val g (s.withOut [])).2) = true := by
      obtain ⟨g, hg, hgr⟩ := List.any_eq_true.1 hany
      refine List.any_eq_true.2 ⟨g, hg, ?_⟩
      simp only [Bool.and_eq_true, decide_eq_true_eq] at hgr
      simp [writeField_refuses, hgr, hl, hsv]
    exact ⟨_, (registerWrite_plain s hal hwin hw hd hc.1 hbe hplain hc.2).trans (by rw [if_pos hany']), hcount, hk, hf⟩
  case refine_3 => exact ⟨_, registerWrite_notMay s w hal hwin hw hd hr hm hbe, s.refused_counts (r.offset i)⟩
end
section
/-! SUPPORT. Write rows, as what their rule answers at the copy that the requester meets (R467, R599); descriptor rings (R478), and O16. -/

namespace Sys2Proof.Machine

variable (s : State)

/-- A command of the common form answers what its effect makes of the state. -/
theorem done_is {f : State → State} {u : State} (h : f (s.withOut []) = u) : done s f = .next (s.commit u) := congrArg (fun u => Host.Outcome.next (s.commit u)) h

/-- A write row whose rule takes the word answers what the rule leaves. -/
theorem writeRow_takesAt {rq : Req} {r : Reg} {i w : Nat} {h : Hook} (hw : s.canWrite rq r i) (ht : (h rq (s.copyOf rq r i) w 15 (s.withOut [])).2 = false) :
    writeRow rq r i w h s = .next (s.commit (h rq (s.copyOf rq r i) w 15 (s.withOut [])).1) :=
  writeRow_acts s h hw.1 hw.2 ht

/-- A write row whose rule refuses the word answers what the rule leaves, and counts the refusal. -/
theorem writeRow_refusesAt {rq : Req} {r : Reg} {i w : Nat} {h : Hook} (hw : s.canWrite rq r i) (ht : (h rq (s.copyOf rq r i) w 15 (s.withOut [])).2 = true) :
    writeRow rq r i w h s = .next (s.commit ((h rq (s.copyOf rq r i) w 15 (s.withOut [])).1.refuse rq (r.offset i) false)) := by
  have e : (s.withOut []).hostAct rq r i (fun j => h rq j w 15) = (h rq (s.copyOf rq r i) w 15 (s.withOut [])).1.refuse rq (r.offset i) false := by
    simp [State.hostAct, hw.1, hw.2, ht]
  exact congrArg (fun u => Host.Outcome.next (s.commit u)) e

/-- A register that is not kept per function or per saggar has one copy. -/
theorem State.copyOf_device {rq : Req} {r : Reg} {i : Nat} (h : r.scope = .device) : s.copyOf rq r i = i := by
  rw [State.copyOf, h]

/-- A whole write enables every field of its word. -/
theorem Fld.enabled_whole (f : Fld) : f.enabled 15 = true := by
  refine List.all_eq_true.2 fun b hb => ?_
  have hb4 : b = 0 ∨ b = 1 ∨ b = 2 ∨ b = 3 := by have := List.mem_range.1 hb; omega
  obtain rfl | rfl | rfl | rfl := hb4 <;> simp [bitAt]

@[simp] theorem State.newv_whole (f : Fld) (i w : Nat) : s.newv f i w 15 = f.part w := if_pos f.enabled_whole

/-- A field above a replaced one keeps its part of the word, and so does one below it. -/
@[simp] theorem Fld.part_putBits {f : Fld} (w x : Nat) {lo n : Nat} (h : lo + n ≤ f.lo ∨ f.lo + f.width ≤ lo) : f.part (putBits w lo n x) = f.part w := by
  obtain h | h := h
  · exact bits_putBits_above w x h
  · exact bits_putBits_below w x h

@[simp] theorem Fld.part_putBits_same {f : Fld} (w x : Nat) {lo n : Nat} (h : f.lo = lo ∧ f.width = n) : f.part (putBits w lo n x) = x % 2 ^ n := by
  obtain ⟨rfl, rfl⟩ := h
  exact bits_putBits_same w _ _ x

/-- Setting bit 0 sets the lowest one-bit field and leaves every field above it. -/
@[simp] theorem Fld.part_lor_one {f : Fld} (w : Nat) (h : 1 ≤ f.lo) : f.part (w ||| 1) = f.part w := by
  have h1 : bits 1 f.lo f.width = 0 := by
    have : 1 < 2 ^ f.lo := Nat.one_lt_two_pow (by omega)
    rw [bits, Nat.div_eq_of_lt this, Nat.zero_mod]
  rw [Fld.part, ← Nat.lor_eq, bits_lor, h1]
  exact Nat.or_zero _

@[simp] theorem Fld.part_lor_one_bit {f : Fld} (w : Nat) (h : f.lo = 0 ∧ f.width = 1) : f.part (w ||| 1) = 1 := by
  obtain ⟨h1, h2⟩ := h
  rw [Fld.part, h1, h2, ← Nat.lor_eq, bits_lor]
  have : bits w 0 1 < 2 ^ 1 := bits_lt _ _ _
  obtain h | h : bits w 0 1 = 0 ∨ bits w 0 1 = 1 := by omega
  all_goals rw [h]; rfl

@[simp] theorem Fld.part_mod (f : Fld) (w : Nat) : f.part w % 2 ^ f.width = f.part w := Nat.mod_eq_of_lt (f.part_lt w)

theorem State.fl_eq_false {f : Fld} {i : Nat} : s.fl f i = false ↔ s.rd f i = 0 := by simp [State.fl]

/-! Descriptor rings -/

/-- A ring enabled with a size: empty, and its present descriptor, if it has one, stale. -/
def State.ringEnabled (s : State) (q size : Nat) : State :=
  ((((s.wr R.HOST_DMA_CFG.EN q 1).wr R.HOST_DMA_CFG.SIZE_LOG2 q size).setRing q { s.ring q with stale := (s.ring q).desc.isSome }).wr R.HOST_DMA_HEAD.HEAD q 0).wr R.HOST_DMA_TAIL.TAIL q 0

section
variable {rq : Req} {q w : Nat}

/-- Enabling a ring that is disabled, with a size in range (R478). -/
theorem dmaCfgHook_enable (hen : s.fl R.HOST_DMA_CFG.EN q = false) (h4 : 4 ≤ R.HOST_DMA_CFG.SIZE_LOG2.part w) (h12 : R.HOST_DMA_CFG.SIZE_LOG2.part w ≤ 12) :
    dmaCfgHook rq q (Nat.lor w 1) 15 s = (s.ringEnabled q (R.HOST_DMA_CFG.SIZE_LOG2.part w), false) := by
  have hlo : ¬ R.HOST_DMA_CFG.SIZE_LOG2.part w < 4 := by omega
  have hhi : ¬ 12 < R.HOST_DMA_CFG.SIZE_LOG2.part w := by omega
  simp (disch := decide) [dmaCfgHook, hen, hlo, hhi, State.ringEnabled]

/-- A change of the size of an enabled ring, or a size outside its range, is refused (R478). -/
theorem dmaCfgHook_refuses (h : if s.fl R.HOST_DMA_CFG.EN q then R.HOST_DMA_CFG.SIZE_LOG2.part w ≠ s.rd R.HOST_DMA_CFG.SIZE_LOG2 q
      else R.HOST_DMA_CFG.SIZE_LOG2.part w < 4 ∨ 12 < R.HOST_DMA_CFG.SIZE_LOG2.part w) :
    dmaCfgHook rq q (Nat.lor w 1) 15 s = (s, true) := by
  cases hen : s.fl R.HOST_DMA_CFG.EN q <;> simp only [hen, Bool.false_eq_true, if_false, if_true] at h <;> simp (disch := decide) [dmaCfgHook, hen, h]

/-- Disabling a ring, or writing the size of a disabled one (R478). -/
theorem dmaCfgHook_disable : dmaCfgHook rq q (putBits w 0 1 0) 15 s =
    (if s.fl R.HOST_DMA_CFG.EN q then (s.wr R.HOST_DMA_CFG.EN q 0).wr R.HOST_DMA_CFG.SIZE_LOG2 q (R.HOST_DMA_CFG.SIZE_LOG2.part w)
      else s.wr R.HOST_DMA_CFG.SIZE_LOG2 q (R.HOST_DMA_CFG.SIZE_LOG2.part w), false) := by
  cases hen : s.fl R.HOST_DMA_CFG.EN q <;> simp (disch := decide) [dmaCfgHook, hen]

end

theorem dmaRingDisable_keepsPointers {rq : Req} {r : Fin 4} {w : Word} (hw : s.canWrite rq .HOST_DMA_CFG r.val) :
    ∃ t, execDmaRingDisable rq r w s = .next t ∧ t.rd R.HOST_DMA_CFG.EN (s.copyOf rq .HOST_DMA_CFG r.val) = 0 ∧
      t.rd R.HOST_DMA_HEAD.HEAD (s.copyOf rq .HOST_DMA_CFG r.val) = s.rd R.HOST_DMA_HEAD.HEAD (s.copyOf rq .HOST_DMA_CFG r.val) ∧
      t.rd R.HOST_DMA_TAIL.TAIL (s.copyOf rq .HOST_DMA_CFG r.val) = s.rd R.HOST_DMA_TAIL.TAIL (s.copyOf rq .HOST_DMA_CFG r.val) ∧ s.keeps t [.regs] := by
  have e := dmaCfgHook_disable (s.withOut []) (rq := rq) (q := s.copyOf rq .HOST_DMA_CFG r.val) (w := w.toNat)
  refine ⟨_, writeRow_takesAt s hw (by rw [e]), ?_⟩
  rw [e]
  cases hen : s.fl R.HOST_DMA_CFG.EN (s.copyOf rq .HOST_DMA_CFG r.val) <;> simp only [State.withOut_fl, hen, Bool.false_eq_true, if_false, if_true]
  · exact ⟨by simpa (disch := decide) using s.fl_eq_false.1 hen, by simp (disch := decide), by simp (disch := decide), State.keeps_commit (by simp)⟩
  · exact ⟨by simp (disch := decide), by simp (disch := decide), by simp (disch := decide), State.keeps_commit (by simp)⟩

/-- The word of HOST_DMA_TAIL is its one field. -/
theorem writeWord_tail (q w : Nat) : writeWord .HOST_DMA_TAIL q w 15 s = (s.wr R.HOST_DMA_TAIL.TAIL q (R.HOST_DMA_TAIL.TAIL.part w), false) := rfl

end Sys2Proof.Machine

open Sys2Proof Sys2Proof.Machine

/-- Settles O16: each write of a ring's configuration by its case of R478. -/
theorem descriptorRings : Obligations.DescriptorRings := by
  refine ⟨fun s rq r w hw hen h4 h12 => ?_, fun s f r w hw h => ?_, fun s rq r w hw => dmaRingDisable_keepsPointers s hw, fun s rq r w hw => ?_⟩
  case refine_1 =>
    have e := dmaCfgHook_enable (s.withOut []) (rq := rq) (q := s.copyOf rq .HOST_DMA_CFG r.val) hen h4 h12
    refine ⟨_, writeRow_takesAt s hw (by rw [e]), ?_⟩
    rw [e]
    simp (disch := decide) [State.ringEnabled]
  case refine_2 =>
    have e := dmaCfgHook_refuses (s.withOut []) (rq := .fn f) (q := s.copyOf (.fn f) .HOST_DMA_CFG r.val) (w := w.toNat) h
    obtain ⟨hcount, -, -, hk, hf⟩ := s.refused_counts (f := f) (Reg.offset .HOST_DMA_CFG r.val)
    refine ⟨_, writeRow_refusesAt s hw (by rw [e]), ?_⟩
    rw [e]
    exact ⟨hcount, hk, hf⟩
  case refine_3 =>
    have e := writeWord_tail (s.withOut []) (s.copyOf rq .HOST_DMA_TAIL r.val) w.toNat
    refine ⟨_, writeRow_takesAt (h := fun _ => writeWord .HOST_DMA_TAIL) s hw (by rw [e]), ?_⟩
    rw [e]
    exact ⟨by simp, State.keeps_commit (by simp)⟩
end
section
/-! SUPPORT. Links, virtual functions, configuration headers and quotas (R15, R65, R454, R456, R457, R470, R569), and O14. -/

namespace Sys2Proof.Machine

variable (s : State)

/-! Links -/

/-- A link replaced. -/
def State.setLink (s : State) (k : Nat) (x : LinkSt) : State := { s with host := { s.host with links := smSet .down s.host.links k x } }

@[simp] theorem State.setLink_same (k : Nat) (x : LinkSt) : (s.setLink k x).link k = x := smGet_smSet_same _ _ _ _
theorem State.setLink_ne {k j : Nat} (x : LinkSt) (h : j ≠ k) : (s.setLink k x).link j = s.link j := smGet_smSet_ne _ _ _ _ h
theorem State.keeps_setLink (k : Nat) (x : LinkSt) : s.keeps (s.commit ((s.withOut []).setLink k x)) [.host] := State.keeps_commit (s.keeps_setHost _)

section
variable {link : Fin 4}

theorem pcieLinkTrained_trains (hal : s.alive = true) (hex : s.linkExists link.val = true) (speed width : Nat) :
    execPcieLinkTrained link speed width s = .next (s.commit ((s.withOut []).setLink link.val
      { s.link link.val with up := true, speed := min speed (if bitAt s.m.straps 5 then 4 else 5), width := min width (s.linkLanes link.val) })) := by
  have h1 : (s.withOut []).alive = true := hal
  have h2 : (s.withOut []).linkExists link.val = true := hex
  refine done_is s ?_
  simp only [h1, h2, Bool.not_true, Bool.or_self, Bool.false_eq_true, if_false]
  rfl

theorem vfEnable_on (hal : s.alive = true) (hex : s.linkExists link.val = true) (n : Nat) :
    execVfEnable link true n s = .next (s.commit ((s.withOut []).setLink link.val { s.link link.val with vfEnable := true, numVfs := min n (s.totalVfs link.val) })) := by
  have h1 : (s.withOut []).alive = true := hal
  have h2 : (s.withOut []).linkExists link.val = true := hex
  refine done_is s ?_
  simp only [h1, h2, Bool.not_true, Bool.or_self, Bool.false_eq_true, if_false]
  rfl

theorem vfEnable_off (hal : s.alive = true) (hex : s.linkExists link.val = true) (n : Nat) :
    execVfEnable link false n s = .next (s.commit (((s.withOut []).setLink link.val { s.link link.val with vfEnable := false, numVfs := min n (s.totalVfs link.val) }).each
      ((List.range 15).map fun v => 16 * link.val + v + 1) State.fnClear)) := by
  have h1 : (s.withOut []).alive = true := hal
  have h2 : (s.withOut []).linkExists link.val = true := hex
  refine done_is s ?_
  simp only [h1, h2, Bool.not_true, Bool.or_self, Bool.false_eq_true, if_false]
  rfl

/-- Returning a function's configuration to reset leaves the links alone. -/
theorem State.fnClears_links (l : List Nat) : (s.each l State.fnClear).host.links = s.host.links :=
  s.each_induction (P := fun t => t.host.links = s.host.links) l _ rfl fun _ _ ht => ht

theorem pcieLinkTrained_absent (h : s.alive = false ∨ s.linkExists link.val = false) (speed width : Nat) : ∃ t, execPcieLinkTrained link speed width s = .next t ∧ s.keeps t [] := by
  refine done_idle s ?_
  obtain h | h := h
  · simp [show (s.withOut []).alive = false from h]
  · simp [show (s.withOut []).linkExists link.val = false from h]

theorem vfEnable_absent (h : s.alive = false ∨ s.linkExists link.val = false) (on : Bool) (n : Nat) : ∃ t, execVfEnable link on n s = .next t ∧ s.keeps t [] := by
  refine done_idle s ?_
  obtain h | h := h
  · simp [show (s.withOut []).alive = false from h]
  · simp [show (s.withOut []).linkExists link.val = false from h]

end

/-! Quotas -/

/-- A level source's live state, and what it asserts, leave the registers alone. -/
@[simp] theorem State.live_rd (n : Nat) (b : Bool) (f : Fld) (i : Nat) : (s.live n b).rd f i = s.rd f i := by
  unfold State.live
  dsimp only
  split
  · rfl
  · cases b <;> rfl

@[simp] theorem State.live_fl (n : Nat) (b : Bool) (f : Fld) (i : Nat) : (s.live n b).fl f i = s.fl f i := congrArg (· != 0) (s.live_rd n b f i)

/-- What a saggar holds against its quotas shows in SAG_OVER, and in no other field (R474). -/
theorem State.overSync_rd {k i : Nat} {g : Fld} (h : g.key % 1024 ∉ [R.SAG_OVER.CAPTURE.key, R.SAG_OVER.CONTEXT.key, R.SAG_OVER.QUEUE.key]) : (s.overSync k).rd g i = s.rd g i := by
  obtain ⟨h1, h2⟩ := not_or.1 fun hm => h (List.mem_cons.2 hm)
  obtain ⟨h2, h3⟩ := not_or.1 fun hm => h2 (List.mem_cons.2 hm)
  have h3 := fun e => h3 (List.mem_singleton.2 e)
  rw [State.overSync, State.live_rd, State.wb_rd_key _ _ h3, State.wb_rd_key _ _ h2, State.wb_rd_key _ _ h1]

theorem State.overSync_over (k : Nat) : (s.overSync k).fl R.SAG_OVER.CAPTURE k = decide (s.rd R.SAG_USE.BLOCKS k > s.rd R.SAG_QUOTA_A.CAPTURE_BLOCKS k) ∧
    (s.overSync k).fl R.SAG_OVER.CONTEXT k = decide (s.rd R.SAG_USE.GROUPS k > s.rd R.SAG_QUOTA_A.CONTEXT_GROUPS k) := by
  constructor
  · rw [State.overSync, State.live_fl, State.fl, State.wb_rd_key _ _ (by decide), State.wb_rd_key _ _ (by decide)]
    exact State.wb_fl_same _ _ _ (by decide)
  · rw [State.overSync, State.live_fl, State.fl, State.wb_rd_key _ _ (by decide)]
    exact State.wb_fl_same _ _ _ (by decide)

section
variable {rq : Req} {k w : Nat}

theorem quotaHook_takesA (hs : (s.sagEntry k).isSome = true) (hb : s.quotaSum R.SAG_QUOTA_A.CAPTURE_BLOCKS k (R.SAG_QUOTA_A.CAPTURE_BLOCKS.part w) ≤ 768)
    (hg : s.quotaSum R.SAG_QUOTA_A.CONTEXT_GROUPS k (R.SAG_QUOTA_A.CONTEXT_GROUPS.part w) ≤ 64) (ht : (s.tilesOf k).length ≤ R.SAG_QUOTA_A.CAPTURE_BLOCKS.part w) :
    quotaHook .SAG_QUOTA_A rq k w 15 s =
      (((s.wr R.SAG_QUOTA_A.CAPTURE_BLOCKS k (R.SAG_QUOTA_A.CAPTURE_BLOCKS.part w)).wr R.SAG_QUOTA_A.CONTEXT_GROUPS k (R.SAG_QUOTA_A.CONTEXT_GROUPS.part w)).overSync k, false) := by
  simp only [quotaHook, State.newv_whole, hs, hb, hg, ht, if_true, decide_true, Bool.and_self]
  rfl

theorem quotaHook_takesB (hs : (s.sagEntry k).isSome = true) (hb : s.quotaSum R.SAG_QUOTA_B.STREAM_SHARE k (R.SAG_QUOTA_B.STREAM_SHARE.part w) ≤ 256)
    (h6 : 6 ≤ R.SAG_QUOTA_B.QUEUE_DEPTH_LOG2.part w) (h16 : R.SAG_QUOTA_B.QUEUE_DEPTH_LOG2.part w ≤ 16) :
    quotaHook .SAG_QUOTA_B rq k w 15 s =
      (((s.wr R.SAG_QUOTA_B.STREAM_SHARE k (R.SAG_QUOTA_B.STREAM_SHARE.part w)).wr R.SAG_QUOTA_B.QUEUE_DEPTH_LOG2 k (R.SAG_QUOTA_B.QUEUE_DEPTH_LOG2.part w)).overSync k, false) := by
  simp only [quotaHook, State.newv_whole, hs, hb, h6, h16, reduceCtorEq, if_false, if_true, decide_true, Bool.and_self]
  rfl

theorem quotaHook_refusesA (h : (s.sagEntry k).isNone = true ∨ (s.tilesOf k).length > R.SAG_QUOTA_A.CAPTURE_BLOCKS.part w ∨
      s.quotaSum R.SAG_QUOTA_A.CAPTURE_BLOCKS k (R.SAG_QUOTA_A.CAPTURE_BLOCKS.part w) > 768 ∨ s.quotaSum R.SAG_QUOTA_A.CONTEXT_GROUPS k (R.SAG_QUOTA_A.CONTEXT_GROUPS.part w) > 64) :
    quotaHook .SAG_QUOTA_A rq k w 15 s = (s.wr R.SAG_OVER.QUOTA_REFUSED k 1, true) := by
  simp only [quotaHook, State.newv_whole, if_true]
  refine if_neg fun hok => ?_
  simp only [Bool.and_eq_true, decide_eq_true_eq] at hok
  obtain ⟨hs, ⟨hb, hg⟩, ht⟩ := hok
  obtain h | h | h | h := h
  · rw [← Option.not_isSome, hs] at h
    cases h
  all_goals omega

theorem quotaHook_refusesB (h : (s.sagEntry k).isNone = true ∨ s.quotaSum R.SAG_QUOTA_B.STREAM_SHARE k (R.SAG_QUOTA_B.STREAM_SHARE.part w) > 256 ∨
      R.SAG_QUOTA_B.QUEUE_DEPTH_LOG2.part w < 6 ∨ 16 < R.SAG_QUOTA_B.QUEUE_DEPTH_LOG2.part w) :
    quotaHook .SAG_QUOTA_B rq k w 15 s = (s.wr R.SAG_OVER.QUOTA_REFUSED k 1, true) := by
  simp only [quotaHook, State.newv_whole, reduceCtorEq, if_false]
  refine if_neg fun hok => ?_
  simp only [Bool.and_eq_true, decide_eq_true_eq] at hok
  obtain ⟨hs, ⟨hb, h6⟩, h16⟩ := hok
  obtain h | h | h | h := h
  · rw [← Option.not_isSome, hs] at h
    cases h
  all_goals omega

end

/-- What a refused quota leaves: the refusal shown and counted, and every other field of the saggar's quotas. -/
theorem State.quotaRefused (rq : Req) (k off : Nat) {f : Fld} (hf : f.key % 1024 ∉ [R.SAG_OVER.QUOTA_REFUSED.key, R.HOST_REFUSE.COUNT.key, R.HOST_REFUSE_ADDR.OFFSET.key, R.HOST_REFUSE_ADDR.BAR2.key]) :
    (((s.withOut []).wr R.SAG_OVER.QUOTA_REFUSED k 1).refuse rq off false).rd R.SAG_OVER.QUOTA_REFUSED k = 1 ∧
      (((s.withOut []).wr R.SAG_OVER.QUOTA_REFUSED k 1).refuse rq off false).rd f k = s.rd f k := by
  constructor
  · rw [State.refuse_keepsFields _ rq off false _ _ (by decide)]
    exact State.wr_rd_same _ _ _ _
  · obtain ⟨h1, h2⟩ := not_or.1 fun hm => hf (List.mem_cons.2 hm)
    rw [State.refuse_keepsFields _ rq off false _ _ h2, State.wr_rd_key _ _ h1]
    rfl

end Sys2Proof.Machine

open Sys2Proof Sys2Proof.Machine

/-- Settles O14: links, headers and quotas, each by its operation's cases. -/
theorem linksAndQuotas : Obligations.LinksAndQuotas := by
  refine ⟨fun s link speed width hal hex => ?_, fun s link n hal hex => ?_, fun s link n hal hex => ?_, fun s link on n speed width h => ?_, fun s f => ?_, fun s rq k w hw hs hb hg ht => ?_,
    fun s rq k w hw hs hb h6 h16 => ?_, fun s rq k w hw h => ?_, fun s rq k w hw h => ?_⟩
  case refine_1 =>
    refine ⟨_, pcieLinkTrained_trains s hal hex speed width, ?_, ?_, ?_, fun k hk => ?_, s.keeps_setLink _ _⟩
    · rw [State.commit_link, State.setLink_same]
    · rw [State.commit_link, State.setLink_same]
    · rw [State.commit_link, State.setLink_same]
    · rw [State.commit_link, State.setLink_ne _ _ hk]
      rfl
  case refine_2 =>
    refine ⟨_, vfEnable_on s hal hex n, ?_, ?_, s.keeps_setLink _ _⟩
    · rw [State.commit_link, State.setLink_same]
    · rw [State.commit_link, State.setLink_same]
  case refine_3 =>
    refine ⟨_, vfEnable_off s hal hex n, ?_, exec_keeps (c := .vfEnable link false n) (vfEnable_off s hal hex n)⟩
    rw [State.commit_link, State.link, State.fnClears_links]
    exact congrArg LinkSt.vfEnable (State.setLink_same _ _ _)
  case refine_4 => exact ⟨pcieLinkTrained_absent s h speed width, vfEnable_absent s h on n⟩
  case refine_5 =>
    refine ⟨rfl, rfl, rfl, fun hf => if_pos hf, fun hf hm => ?_, fun hf hm hk => ?_, fun k hk => ?_⟩
    · simp [State.configHeader, hf, hm]
    · simp [State.configHeader, hf, hm, hk]
    · simp [State.configHeader, hk]
  case refine_6 =>
    have e := quotaHook_takesA (s.withOut []) (rq := rq) hs hb hg ht
    have hc : s.copyOf rq .SAG_QUOTA_A k.val = k.val := s.copyOf_device rfl
    refine ⟨_, writeRow_takesAt s hw (by rw [hc, e]), ?_⟩
    rw [hc, e]
    obtain ⟨hcap, hctx⟩ := State.overSync_over (((s.withOut []).wr R.SAG_QUOTA_A.CAPTURE_BLOCKS k.val (R.SAG_QUOTA_A.CAPTURE_BLOCKS.part w.toNat)).wr R.SAG_QUOTA_A.CONTEXT_GROUPS k.val
      (R.SAG_QUOTA_A.CONTEXT_GROUPS.part w.toNat)) k.val
    refine ⟨?_, ?_, hcap.trans ?_, hctx.trans ?_⟩
    · rw [State.commit_rd, State.overSync_rd _ (by decide)]
      simp (disch := decide)
    · rw [State.commit_rd, State.overSync_rd _ (by decide)]
      simp (disch := decide)
    · simp (disch := decide)
    · simp (disch := decide)
  case refine_7 =>
    have e := quotaHook_takesB (s.withOut []) (rq := rq) hs hb h6 h16
    have hc : s.copyOf rq .SAG_QUOTA_B k.val = k.val := s.copyOf_device rfl
    refine ⟨_, writeRow_takesAt s hw (by rw [hc, e]), ?_⟩
    rw [hc, e]
    constructor
    · rw [State.commit_rd, State.overSync_rd _ (by decide)]
      simp (disch := decide)
    · rw [State.commit_rd, State.overSync_rd _ (by decide)]
      simp (disch := decide)
  case refine_8 =>
    have e := quotaHook_refusesA (s.withOut []) (rq := rq) h
    have hc : s.copyOf rq .SAG_QUOTA_A k.val = k.val := s.copyOf_device rfl
    refine ⟨_, writeRow_refusesAt s hw (by rw [hc, e]), ?_⟩
    rw [hc, e]
    obtain ⟨hr, hb⟩ := s.quotaRefused rq k.val (Reg.offset .SAG_QUOTA_A k.val) (f := R.SAG_QUOTA_A.CAPTURE_BLOCKS) (by decide)
    obtain ⟨-, hg⟩ := s.quotaRefused rq k.val (Reg.offset .SAG_QUOTA_A k.val) (f := R.SAG_QUOTA_A.CONTEXT_GROUPS) (by decide)
    exact ⟨hr, hb, hg, State.keeps_commit (by simp)⟩
  case refine_9 =>
    have e := quotaHook_refusesB (s.withOut []) (rq := rq) h
    have hc : s.copyOf rq .SAG_QUOTA_B k.val = k.val := s.copyOf_device rfl
    refine ⟨_, writeRow_refusesAt s hw (by rw [hc, e]), ?_⟩
    rw [hc, e]
    obtain ⟨hr, hb⟩ := s.quotaRefused rq k.val (Reg.offset .SAG_QUOTA_B k.val) (f := R.SAG_QUOTA_B.STREAM_SHARE) (by decide)
    obtain ⟨-, hg⟩ := s.quotaRefused rq k.val (Reg.offset .SAG_QUOTA_B k.val) (f := R.SAG_QUOTA_B.QUEUE_DEPTH_LOG2) (by decide)
    exact ⟨hr, hb, hg, State.keeps_commit (by simp)⟩
end
section
/-! SUPPORT. Capture blocks and context groups (R472, R473, R475), and O15. -/

namespace Sys2Proof.Machine

section
variable {s t : State} {l : List Part}

@[simp] theorem State.keeps_setSrc (n : Nat) (x : SrcSt) (hl : .hub ∈ l) : s.keeps (t.setSrc n x) l ↔ s.keeps t l :=
  State.keeps_congr fun p hp => by
    cases p
    case hub => exact absurd hl hp
    all_goals rfl

@[simp] theorem State.keeps_live (n : Nat) (b : Bool) (hl : .hub ∈ l) : s.keeps (t.live n b) l ↔ s.keeps t l := by
  unfold State.live
  dsimp only
  split
  · rfl
  · cases b <;> simp [hl]

@[simp] theorem State.keeps_overSync (k : Nat) (hl : .hub ∈ l) (hr : .regs ∈ l) : s.keeps (t.overSync k) l ↔ s.keeps t l := by
  simp [State.overSync, hl, hr]

end

variable (s : State)

/-- The fields of a command of SAG_ALLOT taken from its word. -/
def State.allotTaken (s : State) (w : Nat) : State :=
  (((s.wr R.SAG_ALLOT.INDEX 0 (R.SAG_ALLOT.INDEX.part w)).wr R.SAG_ALLOT.KIND 0 (R.SAG_ALLOT.KIND.part w)).wr R.SAG_ALLOT.SAGGAR 0 (R.SAG_ALLOT.SAGGAR.part w)).wr R.SAG_ALLOT.OP 0 (R.SAG_ALLOT.OP.part w)

/-- The keys of the fields that a command of SAG_ALLOT writes in its own register. -/
def allotKeys : List Nat := [R.SAG_ALLOT.INDEX.key, R.SAG_ALLOT.KIND.key, R.SAG_ALLOT.SAGGAR.key, R.SAG_ALLOT.OP.key]

theorem State.allotTaken_rd (w : Nat) {f : Fld} {i : Nat} (h : f.key % 1024 ∉ allotKeys) : (s.allotTaken w).rd f i = s.rd f i := by
  simp only [allotKeys, List.mem_cons, List.not_mem_nil, or_false, not_or] at h
  obtain ⟨h1, h2, h3, h4⟩ := h
  rw [State.allotTaken, State.wr_rd_key _ _ h4, State.wr_rd_key _ _ h3, State.wr_rd_key _ _ h2, State.wr_rd_key _ _ h1]

theorem State.allotTaken_fl (w : Nat) {f : Fld} {i : Nat} (h : f.key % 1024 ∉ allotKeys) : (s.allotTaken w).fl f i = s.fl f i := congrArg (· != 0) (s.allotTaken_rd w h)

/-- The cause of a command does not depend on the fields of its own register. -/
theorem State.allotTaken_cause (w : Nat) (who : Option Nat) (op index kind k : Nat) : (s.allotTaken w).allotCause who op index kind k = s.allotCause who op index kind k := by
  have hb : (s.allotTaken w).blockInUse index = s.blockInUse index := by
    unfold State.blockInUse
    simp (disch := decide) only [State.allotTaken_rd, State.allotTaken_fl]
    rfl
  unfold State.allotCause State.grpOwner State.blkOwner
  simp (disch := decide) only [State.allotTaken_rd, State.allotTaken_fl, hb]
  rfl

/-- A write of SAG_ALLOT whose word carries a command: the cause is shown, and the command is performed where it has none (R472). -/
theorem allotHook_acts {rq : Req} {w op : Nat} (hop : op = 1 ∨ op = 2) (ho : R.SAG_ALLOT.OP.part w = op) :
    allotHook rq 0 w 15 s = (if s.allotCause (s.sagOf rq) op (R.SAG_ALLOT.INDEX.part w) (R.SAG_ALLOT.KIND.part w) (R.SAG_ALLOT.SAGGAR.part w) = 0 then
      ((s.allotTaken w).wr R.SAG_ALLOT.CAUSE 0 0).allotDo op (R.SAG_ALLOT.INDEX.part w) (R.SAG_ALLOT.KIND.part w) (R.SAG_ALLOT.SAGGAR.part w)
      else ((s.allotTaken w).wr R.SAG_ALLOT.CAUSE 0 (s.allotCause (s.sagOf rq) op (R.SAG_ALLOT.INDEX.part w) (R.SAG_ALLOT.KIND.part w) (R.SAG_ALLOT.SAGGAR.part w))).wr R.SAG_ALLOT.STATUS 0 3, false) := by
  have hf : writeFields [R.SAG_ALLOT.INDEX, R.SAG_ALLOT.KIND, R.SAG_ALLOT.SAGGAR, R.SAG_ALLOT.OP] 0 w 15 s = (s.allotTaken w, false) := rfl
  have hi : (s.allotTaken w).rd R.SAG_ALLOT.INDEX 0 = R.SAG_ALLOT.INDEX.part w := by simp (disch := decide) [State.allotTaken]
  have hk : (s.allotTaken w).rd R.SAG_ALLOT.KIND 0 = R.SAG_ALLOT.KIND.part w := by simp (disch := decide) [State.allotTaken]
  have hs : (s.allotTaken w).rd R.SAG_ALLOT.SAGGAR 0 = R.SAG_ALLOT.SAGGAR.part w := by simp (disch := decide) [State.allotTaken]
  have hw : (s.allotTaken w).sagOf rq = s.sagOf rq := by cases rq <;> rfl
  have hop' : ¬(op ≠ 1 ∧ op ≠ 2) := by omega
  unfold allotHook
  simp only [hf, Fld.enabled_whole, if_true, ho, hi, hk, hs, hw, State.allotTaken_cause, Bool.and_eq_true, decide_eq_true_eq, hop', if_false]
  split
  · next h => rw [h]
  · rfl

section
variable {rq : Req} {w : Word} (hw : s.canWrite rq .SAG_ALLOT 0)
include hw

/-- A command that is not performed shows its cause, and nothing else changes (R472). -/
theorem allotRow_shows (op c : Nat) (hop : op = 1 ∨ op = 2) (hc : s.allotCause (s.sagOf rq) op (R.SAG_ALLOT.INDEX.part w.toNat) (R.SAG_ALLOT.KIND.part w.toNat) (R.SAG_ALLOT.SAGGAR.part w.toNat) = c)
    (h0 : c ≠ 0) :
    ∃ t, writeRow rq .SAG_ALLOT 0 (putBits w.toNat 16 2 op) allotHook s = .next t ∧ t.rd R.SAG_ALLOT.STATUS 0 = 3 ∧ t.rd R.SAG_ALLOT.CAUSE 0 = c % 16 ∧ s.keeps t [.regs] ∧
      s.keepsFields t [R.SAG_ALLOT.INDEX, R.SAG_ALLOT.KIND, R.SAG_ALLOT.SAGGAR, R.SAG_ALLOT.OP, R.SAG_ALLOT.STATUS, R.SAG_ALLOT.CAUSE] := by
  have ho : R.SAG_ALLOT.OP.part (putBits w.toNat 16 2 op) = op := (Fld.part_putBits_same _ _ (by decide)).trans (Nat.mod_eq_of_lt (by omega))
  have hcopy : s.copyOf rq .SAG_ALLOT 0 = 0 := s.copyOf_device rfl
  have e := allotHook_acts (s.withOut []) (rq := rq) hop ho
  simp (disch := decide) only [Fld.part_putBits] at e
  rw [show (s.withOut []).allotCause ((s.withOut []).sagOf rq) op (R.SAG_ALLOT.INDEX.part w.toNat) (R.SAG_ALLOT.KIND.part w.toNat) (R.SAG_ALLOT.SAGGAR.part w.toNat) = c by
    cases rq <;> exact hc, if_neg h0] at e
  refine ⟨_, writeRow_takesAt s hw (by rw [hcopy, e]), ?_⟩
  rw [hcopy, e]
  refine ⟨(State.commit_rd _ _ _ _).trans (State.wr_rd_same _ _ _ _), ?_, State.keeps_commit (by simp [State.allotTaken]), by simp (disch := decide) [State.allotTaken]⟩
  rw [State.commit_rd, State.wr_rd_key _ _ (by decide)]
  exact State.wr_rd_same _ _ _ _

/-- A command that is performed. -/
theorem allotRow_does (op index kind k : Nat) (hop : op = 1 ∨ op = 2) (hi : R.SAG_ALLOT.INDEX.part w.toNat = index) (hk : R.SAG_ALLOT.KIND.part w.toNat = kind)
    (hs : R.SAG_ALLOT.SAGGAR.part w.toNat = k) (hc : s.allotCause (s.sagOf rq) op index kind k = 0) :
    writeRow rq .SAG_ALLOT 0 (putBits w.toNat 16 2 op) allotHook s =
      .next (s.commit ((((s.withOut []).allotTaken (putBits w.toNat 16 2 op)).wr R.SAG_ALLOT.CAUSE 0 0).allotDo op index kind k)) := by
  have ho : R.SAG_ALLOT.OP.part (putBits w.toNat 16 2 op) = op := (Fld.part_putBits_same _ _ (by decide)).trans (Nat.mod_eq_of_lt (by omega))
  have hcopy : s.copyOf rq .SAG_ALLOT 0 = 0 := s.copyOf_device rfl
  have e := allotHook_acts (s.withOut []) (rq := rq) hop ho
  simp (disch := decide) only [Fld.part_putBits, hi, hk, hs] at e
  rw [show (s.withOut []).allotCause ((s.withOut []).sagOf rq) op index kind k = 0 by cases rq <;> exact hc, if_pos rfl] at e
  exact (writeRow_takesAt s hw (by rw [hcopy, e])).trans (by rw [hcopy, e])

end

/-- Freeing the contexts of a group leaves the registers alone. -/
theorem State.ctxsFreed_regs (g : Nat) (l : List Nat) : (s.each l fun s j =>
    if (s.ctx (256 * g + j)).state = 1 then s else s.setCtx (256 * g + j) { s.ctx (256 * g + j) with state := 1, latched := 0 }).regs = s.regs := by
  refine s.each_induction (P := fun t => t.regs = s.regs) l _ rfl fun t n ht => ?_
  dsimp only
  split <;> exact ht

/-- The registers of a group after its reset are its own: the ownership and the use of the saggars stay (R377, R472). -/
theorem State.grpReset_rd (g : Nat) {f : Fld} {i : Nat}
    (h : f.key % 1024 ∉ [R.RED_GRP_AREA.BASE.key, R.RED_GRP_AREA.BLOCKS.key, R.RED_GRP_WPTR.WPTR.key, R.RED_GRP_RPTR.RPTR.key, R.RED_GRP_STATUS.FULL.key, R.RED_GRP_STATUS.AREA_REFUSED.key,
      R.RED_GRP_STATUS.PENDING.key]) : (s.grpReset g).rd f i = s.rd f i := by
  simp only [List.mem_cons, List.not_mem_nil, or_false, not_or] at h
  obtain ⟨h1, h2, h3, h4, h5, h6, h7⟩ := h
  simp only [State.grpReset, List.foldl_cons, List.foldl_nil]
  rw [State.wr_rd_key _ _ h7, State.wr_rd_key _ _ h6, State.wr_rd_key _ _ h5, State.wr_rd_key _ _ h4, State.wr_rd_key _ _ h3, State.wr_rd_key _ _ h2, State.wr_rd_key _ _ h1]
  rw [State.rd, s.ctxsFreed_regs g (List.range 256)]
  rfl

/-- A freed group has no owner, drains no more, and its saggar holds one group less (R472). -/
theorem State.groupFree_frees (g : Nat) : (s.groupFree g).grpOwner g = none ∧ (s.groupFree g).fl R.SAG_GRP_OWNER.DRAINING g = false ∧
    (s.groupFree g).rd R.SAG_USE.GROUPS (s.rd R.SAG_GRP_OWNER.SAGGAR g) = (s.rd R.SAG_USE.GROUPS (s.rd R.SAG_GRP_OWNER.SAGGAR g) - 1) % 2 ^ R.SAG_USE.GROUPS.width := by
  have hfree : ∀ (f : Fld) (i : Nat), f.key % 1024 ∉ [R.SAG_OVER.CAPTURE.key, R.SAG_OVER.CONTEXT.key, R.SAG_OVER.QUEUE.key] →
      (s.groupFree g).rd f i = ((((((s.grpReset g).wr R.SAG_GRP_OWNER.SAGGAR g 0).wr R.SAG_GRP_OWNER.ALLOTTED g 0).wr R.SAG_GRP_OWNER.DRAINING g 0).wr R.SAG_USE.GROUPS
        (s.rd R.SAG_GRP_OWNER.SAGGAR g) (s.rd R.SAG_USE.GROUPS (s.rd R.SAG_GRP_OWNER.SAGGAR g) - 1))).rd f i := fun f i hf => by
    rw [State.groupFree, State.overSync_rd _ hf]
    simp (disch := decide) only [State.wr_rd_key, State.grpReset_rd]
  refine ⟨if_neg ?_, ?_, ?_⟩
  · rw [State.fl, hfree _ _ (by decide)]
    simp (disch := decide)
  · rw [State.fl, hfree _ _ (by decide)]
    simp (disch := decide)
  · rw [hfree _ _ (by decide)]
    simp

/-- A block or group whose release has no cause against it is held by the saggar named. -/
theorem State.allotCause_release {who : Option Nat} {index k : Nat} (h : s.allotCause who 2 index 1 k = 0) : s.grpOwner index = some k := by
  by_contra hne
  simp [State.allotCause, hne] at h
  split at h <;> omega

/-- The fields that hold what a command of SAG_ALLOT works on are no fields of its own register. -/
theorem State.allotReady_rd (w : Nat) {f : Fld} {i : Nat} (h : f.key % 1024 ∉ R.SAG_ALLOT.CAUSE.key :: allotKeys) :
    (((s.withOut []).allotTaken w).wr R.SAG_ALLOT.CAUSE 0 0).rd f i = s.rd f i := by
  obtain ⟨h1, h2⟩ := not_or.1 fun hm => h (List.mem_cons.2 hm)
  rw [State.wr_rd_key _ _ h1, State.allotTaken_rd _ _ h2]
  rfl

theorem State.keeps_allotReady (w : Nat) {l : List Part} (hl : .regs ∈ l) : s.keeps (((s.withOut []).allotTaken w).wr R.SAG_ALLOT.CAUSE 0 0) l := by
  simp [State.allotTaken, hl]

theorem State.grpBusy_of_red {s t : State} (g : Nat) (h : t.red = s.red) : t.grpBusy g = s.grpBusy g := by
  unfold State.grpBusy State.ctx
  rw [h]

theorem State.allotReady_grpBusy (w g : Nat) : (((s.withOut []).allotTaken w).wr R.SAG_ALLOT.CAUSE 0 0).grpBusy g = s.grpBusy g :=
  State.grpBusy_of_red g (by simp [State.allotTaken])

section
variable {rq : Req} {w : Word} {index k : Nat} (hw : s.canWrite rq .SAG_ALLOT 0) (hi : R.SAG_ALLOT.INDEX.part w.toNat = index) (hs : R.SAG_ALLOT.SAGGAR.part w.toNat = k)
include hw hi hs

theorem allot_block (hk : R.SAG_ALLOT.KIND.part w.toNat = 0) (hc : s.allotCause (s.sagOf rq) 1 index 0 k = 0) :
    ∃ t, execAllot rq w s = .next t ∧ t.rd R.SAG_ALLOT.STATUS 0 = 2 ∧ t.rd R.SAG_ALLOT.CAUSE 0 = 0 ∧ t.fl R.SAG_BLK_OWNER.ALLOTTED index = true ∧ t.rd R.SAG_BLK_OWNER.SAGGAR index = k ∧
      t.rd R.SAG_USE.BLOCKS k = (s.rd R.SAG_USE.BLOCKS k + 1) % 2 ^ R.SAG_USE.BLOCKS.width ∧ s.keeps t [.regs, .hub] := by
  have hk16 : k % 2 ^ R.SAG_BLK_OWNER.SAGGAR.width = k := by
    rw [← hs]
    exact Fld.part_mod R.SAG_ALLOT.SAGGAR _
  refine ⟨_, allotRow_does s hw 1 index 0 k (.inl rfl) hi hk hs hc, ?_⟩
  simp only [State.commit_rd, State.commit_fl, State.allotDo, if_true, zero_ne_one, if_false]
  refine ⟨State.wr_rd_same _ _ _ _, ?_, ?_, ?_, ?_, State.keeps_commit ?_⟩
  · simp (disch := decide) [State.overSync_rd]
  · simp (disch := decide) [State.fl, State.overSync_rd]
  · simp (disch := decide) [State.overSync_rd, hk16]
  · simp (disch := decide) [State.overSync_rd, State.allotTaken_rd]
  · simp [s.keeps_allotReady]

theorem allot_group (hk : R.SAG_ALLOT.KIND.part w.toNat = 1) (hc : s.allotCause (s.sagOf rq) 1 index 1 k = 0) :
    ∃ t, execAllot rq w s = .next t ∧ t.rd R.SAG_ALLOT.STATUS 0 = 2 ∧ t.grpOwner index = some k ∧
      t.rd R.SAG_USE.GROUPS k = (s.rd R.SAG_USE.GROUPS k + 1) % 2 ^ R.SAG_USE.GROUPS.width ∧ s.keeps t [.regs, .hub] := by
  have hk16 : k % 2 ^ R.SAG_GRP_OWNER.SAGGAR.width = k := by
    rw [← hs]
    exact Fld.part_mod R.SAG_ALLOT.SAGGAR _
  refine ⟨_, allotRow_does s hw 1 index 1 k (.inl rfl) hi hk hs hc, ?_⟩
  simp only [State.commit_rd, State.commit_grpOwner, State.allotDo, if_true]
  refine ⟨State.wr_rd_same _ _ _ _, ?_, ?_, State.keeps_commit ?_⟩
  · simp (disch := decide) [State.grpOwner, State.fl, State.overSync_rd, hk16]
  · simp (disch := decide) [State.overSync_rd, State.allotTaken_rd]
  · simp [State.allotTaken]

theorem release_block (hk : R.SAG_ALLOT.KIND.part w.toNat = 0) (hc : s.allotCause (s.sagOf rq) 2 index 0 k = 0) :
    ∃ t, execRelease rq w s = .next t ∧ t.rd R.SAG_ALLOT.STATUS 0 = 2 ∧ t.rd R.SAG_BLK_OWNER.CLEARING index = 1 ∧ t.blkOwner index = none ∧
      t.rd R.SAG_USE.BLOCKS k = (s.rd R.SAG_USE.BLOCKS k - 1) % 2 ^ R.SAG_USE.BLOCKS.width ∧ s.keeps t [.regs, .hub] := by
  refine ⟨_, allotRow_does s hw 2 index 0 k (.inr rfl) hi hk hs hc, ?_⟩
  simp only [State.commit_rd, State.commit_blkOwner, State.allotDo, if_true, OfNat.ofNat_ne_one, if_false]
  refine ⟨State.wr_rd_same _ _ _ _, ?_, ?_, ?_, State.keeps_commit ?_⟩
  · simp (disch := decide) [State.overSync_rd]
  · simp (disch := decide) [State.blkOwner, State.fl, State.overSync_rd]
  · simp (disch := decide) [State.overSync_rd, State.allotTaken_rd]
  · simp [State.allotTaken]

theorem release_group (hk : R.SAG_ALLOT.KIND.part w.toNat = 1) (hc : s.allotCause (s.sagOf rq) 2 index 1 k = 0) :
    ∃ t, execRelease rq w s = .next t ∧ (s.grpBusy index = true → t.rd R.SAG_GRP_OWNER.DRAINING index = 1 ∧ t.rd R.SAG_ALLOT.STATUS 0 = 1 ∧ t.grpOwner index = s.grpOwner index) ∧
      (s.grpBusy index = false → t.grpOwner index = none ∧ t.rd R.SAG_ALLOT.STATUS 0 = 2 ∧ t.rd R.SAG_USE.GROUPS k = (s.rd R.SAG_USE.GROUPS k - 1) % 2 ^ R.SAG_USE.GROUPS.width) := by
  have hheld : s.grpOwner index = some k := s.allotCause_release hc
  have hsag : s.rd R.SAG_GRP_OWNER.SAGGAR index = k := by
    unfold State.grpOwner at hheld
    split at hheld <;> cases hheld
    rfl
  refine ⟨_, allotRow_does s hw 2 index 1 k (.inr rfl) hi hk hs hc, ?_⟩
  simp only [State.commit_rd, State.commit_grpOwner, State.allotDo, one_ne_zero, OfNat.ofNat_ne_one, if_false, s.allotReady_grpBusy]
  constructor
  · intro hb
    simp only [hb, if_true]
    refine ⟨?_, State.wr_rd_same _ _ _ _, ?_⟩
    · simp (disch := decide)
    · simp (disch := decide) [State.grpOwner, State.fl, State.allotTaken_rd]
  · intro hb
    obtain ⟨hown, -, huse⟩ := (((s.withOut []).allotTaken (putBits w.toNat 16 2 2)).wr R.SAG_ALLOT.CAUSE 0 0).groupFree_frees index
    simp only [s.allotReady_rd _ (f := R.SAG_GRP_OWNER.SAGGAR) (by decide), hsag, s.allotReady_rd _ (f := R.SAG_USE.GROUPS) (by decide)] at huse
    simp only [hb, Bool.false_eq_true, if_false]
    refine ⟨?_, State.wr_rd_same _ _ _ _, ?_⟩
    · simpa (disch := decide) [State.grpOwner, State.fl] using hown
    · rw [State.wr_rd_key _ _ (by decide), huse]

end

theorem blockClearDone_clears (b : Fin 768) (h : s.fl R.SAG_BLK_OWNER.CLEARING b.val = true) :
    ∃ t, execBlockClearDone b s = .next t ∧ t.fl R.SAG_BLK_OWNER.CLEARING b.val = false ∧ t.fl R.SAG_BLK_OWNER.ALLOTTED b.val = false ∧
      (∀ w : Nat, w / 8192 = b.val → smGet 0 t.cap w = 0 ∧ smGet 0 t.capEcc w = 0) ∧
      ∀ w : Nat, w / 8192 ≠ b.val → smGet 0 t.cap w = smGet 0 s.cap w ∧ smGet 0 t.capEcc w = smGet 0 s.capEcc w := by
  have e : execBlockClearDone b s = .next (s.commit ((((({ s.withOut [] with cap := smKeep (fun w => w / 8192 ≠ b.val) s.cap, capEcc := smKeep (fun w => w / 8192 ≠ b.val) s.capEcc } : State).wr
      R.SAG_BLK_OWNER.CLEARING b.val 0).wr R.SAG_BLK_OWNER.ALLOTTED b.val 0).wr R.SAG_BLK_OWNER.SAGGAR b.val 0))) := done_is s (by simp only [State.withOut_fl, h]; rfl)
  refine ⟨_, e, ?_, ?_, fun w hw => ?_, fun w hw => ?_⟩
  · simp (disch := decide) [State.fl]
  · simp (disch := decide) [State.fl]
  · simp [smGet_smKeep, hw]
  · simp [smGet_smKeep, hw]

theorem groupRelease_frees (g : Fin 64) (h : s.fl R.SAG_GRP_OWNER.DRAINING g.val = true) (hb : s.grpBusy g.val = false) :
    ∃ t, execGroupRelease g s = .next t ∧ t.grpOwner g.val = none ∧ t.fl R.SAG_GRP_OWNER.DRAINING g.val = false := by
  have hb' : (s.withOut []).grpBusy g.val = false := (State.grpBusy_of_red _ rfl).trans hb
  obtain ⟨hown, hdrain, -⟩ := (s.withOut []).groupFree_frees g.val
  exact ⟨_, done_is s (if_pos (by simp [h, hb'])), by rw [State.commit_grpOwner, hown], by rw [State.commit_fl, hdrain]⟩

theorem blockClearDone_idle (b : Fin 768) (h : s.fl R.SAG_BLK_OWNER.CLEARING b.val = false) : ∃ t, execBlockClearDone b s = .next t ∧ s.keeps t [] :=
  done_idle s (by simp [h])

theorem groupRelease_idle (g : Fin 64) (h : s.fl R.SAG_GRP_OWNER.DRAINING g.val = false ∨ s.grpBusy g.val = true) : ∃ t, execGroupRelease g s = .next t ∧ s.keeps t [] := by
  refine done_idle s (if_neg ?_)
  obtain h | h := h
  · simp [h]
  · have hb : (s.withOut []).grpBusy g.val = true := (State.grpBusy_of_red _ rfl).trans h
    rw [hb, Bool.not_true, Bool.and_false]
    exact Bool.false_ne_true

end Sys2Proof.Machine

open Sys2Proof Sys2Proof.Machine

/-- Settles O15: a command of SAG_ALLOT by its cause, its kind and the use of its unit, and the ends of a clearing and of a drain. -/
theorem allotAndRelease : Obligations.AllotAndRelease := by
  have hcause : ∀ (s : State) (who : Option Nat) (op i kind k : Nat), s.allotCause who op i kind k % 16 = s.allotCause who op i kind k := fun s who op i kind k => by
    unfold State.allotCause
    dsimp only
    split_ifs <;> rfl
  refine ⟨fun s rq w b k hw hi hk hs hc => allot_block s hw hi hs hk hc, fun s rq w g k hw hi hk hs hc => allot_group s hw hi hs hk hc, fun s rq w c hw hc h0 => ?_,
    fun s rq w b k hw hi hk hs hc => release_block s hw hi hs hk hc, fun s rq w g k hw hi hk hs hc => release_group s hw hi hs hk hc, fun s rq w c hw hc h0 => ?_,
    fun s b h => blockClearDone_clears s b h, fun s g h hb => groupRelease_frees s g h hb, fun s b g => ⟨fun h => blockClearDone_idle s b h, fun h => groupRelease_idle s g h⟩⟩
  case refine_1 =>
    obtain ⟨t, e, hst, hca, hk, hf⟩ := allotRow_shows s hw 1 c (.inl rfl) hc h0
    exact ⟨t, e, hst, hca.trans (hc ▸ hcause _ _ _ _ _ _), hk, hf⟩
  case refine_2 =>
    obtain ⟨t, e, hst, hca, hk, hf⟩ := allotRow_shows s hw 2 c (.inr rfl) hc h0
    exact ⟨t, e, hst, hca.trans (hc ▸ hcause _ _ _ _ _ _), hk, hf⟩
end
section
/-! SUPPORT. Descriptors of the rings (R30, R281, R479, R480), and O17. -/

namespace Sys2Proof.Machine

variable (s : State)

/-- The descriptor that starts at the head of a ring. -/
def State.descFresh (s : State) (q : Nat) (b : List Nat) : RingSt :=
  { desc := some (descOf b), moved := 0, code := s.descCode (q / 4) (descOf b) b, addr := s.ringAddr q, no := s.host.started, stale := false }

/-- A ring after its next descriptor has started. -/
def State.descBegun (s : State) (q : Nat) (b : List Nat) : State :=
  ({ s.setRing q (s.descFresh q b) with host := { (s.setRing q (s.descFresh q b)).host with started := s.host.started + 1 } }).wr R.HOST_DMA_STATUS.BUSY q 1

theorem State.descStart_begins {q : Nat} {b : List Nat} {ops : Nat → Bool} (hr : s.ringReady q = true) (ho : ops (b.getD 0 0) = true) : s.descStart q b ops = s.descBegun q b := by
  unfold State.descStart
  rw [hr, ho]
  rfl

/-- A ring whose descriptor is in progress starts no other. -/
theorem State.descStart_busy {q : Nat} {b : List Nat} {ops : Nat → Bool} (h : (s.ring q).desc.isSome = true) : s.descStart q b ops = s := by
  have : s.ringReady q = false := by
    simp [State.ringReady, ← Option.not_isSome, h]
  simp [State.descStart, this]

section
variable (q : Nat) (b : List Nat)

@[simp] theorem State.descBegun_ring : (s.descBegun q b).ring q = s.descFresh q b := by
  simp [State.ring, State.descBegun, State.setRing]
@[simp] theorem State.descBegun_busy : (s.descBegun q b).rd R.HOST_DMA_STATUS.BUSY q = 1 := State.wr_rd_same _ _ _ _
@[simp] theorem State.descBegun_credit : (s.descBegun q b).host.credit = s.host.credit := rfl
@[simp] theorem State.descBegun_stores : (s.descBegun q b).stores = s.stores := rfl
@[simp] theorem State.descBegun_store (t : Nat) : (s.descBegun q b).store t = s.store t := rfl
@[simp] theorem State.descBegun_capEcc : (s.descBegun q b).capEcc = s.capEcc := rfl
@[simp] theorem State.descBegun_cap : (s.descBegun q b).cap = s.cap := rfl
@[simp] theorem State.descBegun_out : (s.descBegun q b).out = s.out := rfl
@[simp] theorem State.descBegun_rd {f : Fld} {i : Nat} (h : f.key % 1024 ≠ R.HOST_DMA_STATUS.BUSY.key) : (s.descBegun q b).rd f i = s.rd f i :=
  (State.wr_rd_key _ _ h).trans rfl

variable {s} {l : List Part} {k : List Fld} {u : State}

@[simp] theorem State.keeps_descBegun (hr : .regs ∈ l) (hh : .host ∈ l) : u.keeps (s.descBegun q b) l ↔ u.keeps s l :=
  (State.keeps_wr _ _ _ hr).trans ((State.keeps_host _ hh).trans (State.keeps_host _ hh))
@[simp] theorem State.keepsFields_descBegun (hk : R.HOST_DMA_STATUS.BUSY.key ∈ k.map Fld.key) : u.keepsFields (s.descBegun q b) k ↔ u.keepsFields s k :=
  (State.keepsFields_wr _ _ _ hk).trans Iff.rfl

end

theorem ringOf_sag (a : Fin 16) (r : Fin 4) : (4 * a.val + r.val) / 4 = a.val := by omega

/-- The first byte of a descriptor is its OP (R479). -/
theorem descOf_op (d : List Byte) : (descOf (d.map (·.toNat))).op = (d.map (·.toNat)).getD 0 0 := by
  cases d with
  | nil => rfl
  | cons a r =>
    have : a.toNat < 256 := a.isLt
    simpa [descOf, leVal] using this

/-- A descriptor whose check fails shows CODE 3 (R480). -/
theorem State.descCode_bad {k : Nat} {b : List Nat} (h : 3 < (descOf b).op) : s.descCode k (descOf b) b = 3 := by
  rw [State.descCode, if_pos]
  simp [descBad, h]

/-- What a descriptor whose check has found nothing keeps to (R479, R480). -/
theorem State.descCode_good {k : Nat} {b : List Nat} (h : s.descCode k (descOf b) b = 0) :
    (descOf b).tile < 16 ∧ (((descOf b).op = 1 ∨ (descOf b).op = 2) → 0 < (descOf b).count) ∧ ((descOf b).op = 3 → (descOf b).count % 64 = 0) := by
  have hb : descBad (descOf b) b = false := by
    by_contra hne
    rw [State.descCode, if_pos (by simpa using hne)] at h
    cases h
  simp only [descBad, Bool.or_eq_false_iff, decide_eq_false_iff_not, Bool.and_eq_false_iff, Bool.or_eq_false_iff] at hb
  obtain ⟨⟨⟨⟨⟨⟨⟨-, -⟩, ht⟩, -⟩, -⟩, -⟩, hc⟩, hu⟩ := hb
  refine ⟨by omega, fun ho => ?_, fun ho => ?_⟩
  · obtain ⟨h1, h2⟩ | h0 := hc <;> omega
  · obtain h3 | hu := hu
    · omega
    · obtain ⟨⟨⟨-, hm⟩, -⟩, -⟩ := hu
      omega

/-! Row blocks -/

/-- Where the next row block of a descriptor goes: its slot of the stream ring, or the resident rows (R281, R479). -/
def State.blockRow (s : State) (x : Desc) (moved : Nat) : Nat :=
  (if x.op = 1 then 1024 * s.rd R.SEG_STORE_CFG.RING_BASE x.tile + 256 * s.slotSize x.tile * x.slot else 0) + 8 * (x.devAddr + moved)

/-- The rows of a block leave the host interface alone. -/
theorem State.rowBlock_host (t row : Nat) (b : List Nat) : (s.rowBlock t row b).host = s.host := rfl

/-- The credits less one block's: the saggar's and the tile's (R212, R476). -/
def State.creditLess (s : State) (q : Nat) (x : Desc) : SMap Nat :=
  smSet 0 (smSet 0 s.host.credit (q / 4) (smGet 0 s.host.credit (q / 4) - 272)) (64 + x.tile) (smGet 0 s.host.credit (64 + x.tile) - 272)

/-- The state with other credits. -/
def State.withCredit (s : State) (c : SMap Nat) : State := { s with host := { s.host with credit := c } }

/-- A row block moved: its rows written, the frame's credits less it, and one more block counted. -/
def State.blockMoved (s : State) (q : Nat) (x : Desc) (b : List Nat) : State :=
  ((s.rowBlock x.tile (s.blockRow x (s.ring q).moved) b).withCredit (s.creditLess q x)).setRing q { s.ring q with moved := (s.ring q).moved + 1 }

section
variable {q : Nat} {x : Desc} (hd : (s.ring q).desc = some x) (ho : x.op = 1 ∨ x.op = 2) (hc : (s.ring q).code = 0) (hm : (s.ring q).moved < x.count)
  (h1 : 272 ≤ smGet 0 s.host.credit (q / 4)) (h2 : 272 ≤ smGet 0 s.host.credit (64 + x.tile))
include hd ho hc hm h1 h2

/-- A row block moves while both credits hold it (R212, R476). -/
theorem State.moveBlock_moves (b : List Nat) :
    s.moveBlock q b = (s.blockMoved q x b).when (x.op = 1 && bitAt x.flags 1 && (s.ring q).moved + 1 = x.count) (·.refillReady x) := by
  have hstop : ((x.op ≠ 1 && x.op ≠ 2) || (s.ring q).code ≠ 0 || (s.ring q).moved ≥ x.count || smGet 0 s.host.credit (q / 4) < 272 || smGet 0 s.host.credit (64 + x.tile) < 272) = false := by
    have h1' : ¬ smGet 0 s.host.credit (q / 4) < 272 := by omega
    have h2' : ¬ smGet 0 s.host.credit (64 + x.tile) < 272 := by omega
    have hm' : ¬ x.count ≤ (s.ring q).moved := by omega
    obtain ho | ho := ho <;> simp [ho, hc, h1', h2', hm']
  unfold State.moveBlock
  simp only [hd, hstop, Bool.false_eq_true, if_false, State.blockMoved, State.blockRow, State.withCredit, State.creditLess, State.rowBlock_host]

/-- One row block's worth of data is moved as one block. -/
theorem State.moveBlocks_one (b : List Byte) (hb : b.length = 272) :
    s.moveBlocks q (b.map (·.toNat)) = (s.blockMoved q x (b.map (·.toNat))).when (x.op = 1 && bitAt x.flags 1 && (s.ring q).moved + 1 = x.count) (·.refillReady x) := by
  rw [← s.moveBlock_moves hd ho hc hm h1 h2]
  simp [State.moveBlocks, hb, List.take_of_length_le]

end

/-- The set of READY after the last block of a refill leaves the rings and the stores alone (R281). -/
theorem State.refillReady_host (d : Desc) : (s.refillReady d).host = s.host := State.host_of_blur (s.refillReady_blur d (Nat.and_self _)) (by decide)
theorem State.refillReady_stores (d : Desc) : (s.refillReady d).stores = s.stores := State.stores_of_blur (s.refillReady_blur d (Nat.and_self _)) (by decide)

theorem State.when_refillReady_host (c : Bool) (d : Desc) : (s.when c (·.refillReady d)).host = s.host := by
  cases c
  · rfl
  · exact s.refillReady_host d
theorem State.when_refillReady_stores (c : Bool) (d : Desc) : (s.when c (·.refillReady d)).stores = s.stores := by
  cases c
  · rfl
  · exact s.refillReady_stores d

theorem State.blockMoved_ring (q : Nat) (x : Desc) (b : List Nat) : (s.blockMoved q x b).ring q = { s.ring q with moved := (s.ring q).moved + 1 } := smGet_smSet_same _ _ _ _
theorem State.blockMoved_stores (q : Nat) (x : Desc) (b : List Nat) : (s.blockMoved q x b).stores = (s.rowBlock x.tile (s.blockRow x (s.ring q).moved) b).stores := rfl

/-- The credits after a block: those of the saggar and of the tile are less by it. -/
theorem State.blockMoved_credit {q : Nat} (x : Desc) (b : List Nat) (hq : q / 4 < 16) :
    smGet 0 (s.blockMoved q x b).host.credit (q / 4) = smGet 0 s.host.credit (q / 4) - 272 ∧
      smGet 0 (s.blockMoved q x b).host.credit (64 + x.tile) = smGet 0 s.host.credit (64 + x.tile) - 272 := by
  have hne : q / 4 ≠ 64 + x.tile := by omega
  simp [State.blockMoved, State.withCredit, State.creditLess, State.setRing, hne]

theorem State.refillReady_ready (d : Desc) : (s.refillReady d).rd R.SEG_SLOT.READY (slotInst' d.tile d.slot) = 1 ∧
    (s.refillReady d).rd R.SEG_SLOT.TAG (slotInst' d.tile d.slot) = d.tag % 2 ^ R.SEG_SLOT.TAG.width := by
  have hl : ∀ (t : State) (f : Fld) (i : Nat), (t.ringLow d.tile false).rd f i = t.rd f i := fun t f i => congrArg (smGet (f.reset i) · (f.slot i))
    (State.regs_of_blur (t.ringLow_blur d.tile false (Nat.and_self _)) (by decide))
  constructor
  · rw [State.refillReady, hl]
    exact State.wr_rd_same _ _ _ _
  · rw [State.refillReady, hl, State.wr_rd_key _ _ (by decide), State.wb_rd_key _ _ (by decide), State.wr_rd_same]

/-! Uploads -/

/-- A code word that is not uncorrectable is sent as it is (R479). -/
theorem State.uploadWord_good {w : Nat} (q host : Nat) (h : smGet 0 s.capEcc w ≠ 2) : s.uploadWord q host w = s.send (.hostWrite host (leBytes 8 (smGet 0 s.cap w)) false) := by
  simp [State.uploadWord, h]

/-- Code words that are not uncorrectable are sent in their order. -/
theorem State.uploadWords_good (q host w : Nat) (l : List Nat) (h : ∀ j ∈ l, smGet 0 s.capEcc (w + j) ≠ 2) :
    (s.each l fun s j => s.uploadWord q (host + 8 * j) (w + j)) = s.withOut (s.out ++ l.map fun j => Out.hostWrite (host + 8 * j) (leBytes 8 (smGet 0 s.cap (w + j))) false) := by
  induction l generalizing s with
  | nil => simp [State.each, State.withOut]
  | cons j r ih =>
    have hj := s.uploadWord_good q (host + 8 * j) (h j List.mem_cons_self)
    refine (ih (s.uploadWord q (host + 8 * j) (w + j)) fun i hi => ?_).trans ?_
    · rw [hj]
      exact h i (List.mem_cons_of_mem _ hi)
    · rw [hj]
      simp [State.send, State.withOut]

/-- The regions that a producer waits for do not depend on a ring's descriptor. -/
theorem State.descBegun_regionBusy (q : Nat) (b : List Nat) (r : Nat) : (s.descBegun q b).regionBusy r = s.regionBusy r := by
  have hslot : (s.descBegun q b).slotRegion = s.slotRegion := by
    funext g k
    simp (disch := decide) only [State.slotRegion, State.grpSize, State.grpAddr, State.descBegun_rd]
    rfl
  have hload : (s.descBegun q b).regionLoad r = s.regionLoad r := by
    rw [State.regionLoad, hslot]
    rfl
  have htaken : (s.descBegun q b).regionTaken r true = s.regionTaken r true := by
    simp (disch := decide) only [State.regionTaken, State.descBegun_rd]
    rfl
  rw [State.regionBusy, State.regionBusy, hload, htaken]

section
variable {q : Nat} {x : Desc} (hd : (s.ring q).desc = some x) (ho : x.op = 3)
include hd ho

/-- An upload that was refused, or whose region a producer waits for, does nothing (R30). -/
theorem State.uploadPart_waits (h : (s.ring q).code % 7 ≠ 0 ∨ s.regionBusy (capRegion ((x.devAddr + (s.ring q).moved) / 8)) = true) : s.uploadPart q = s := by
  unfold State.uploadPart
  simp only [hd, ho]
  obtain h | h := h <;> simp [h]

/-- An upload of at most 4 KiB that nothing holds up sends all its words at once (R478, R479). -/
theorem State.uploadPart_sends (hc : (s.ring q).code = 0) (hm : (s.ring q).moved = 0) (h4 : x.count ≤ 4096) (h1 : s.regionBusy (capRegion (x.devAddr / 8)) = false)
    (h2 : s.regionBusy (capRegion ((x.devAddr + x.count - 1) / 8)) = false) (hw : ∀ j, j < 512 → smGet 0 s.capEcc (x.devAddr / 8 + j) ≠ 2) :
    s.uploadPart q = (s.withOut (s.out ++ (List.range (x.count / 8)).map fun j => Out.hostWrite (x.hostAddr + 8 * j) (leBytes 8 (smGet 0 s.cap (x.devAddr / 8 + j))) false)).setRing q
      { s.ring q with moved := x.count } := by
  have hn : min 4096 (x.count - 0) = x.count := by omega
  have hwords := s.uploadWords_good q x.hostAddr (x.devAddr / 8) (List.range (x.count / 8)) fun j hj => hw j (by have := List.mem_range.1 hj; omega)
  unfold State.uploadPart
  simp only [hd, ho, hc, hm, hn, Nat.add_zero, h1, h2, hwords, Nat.zero_add, ne_eq, not_true_eq_false, decide_false, Nat.zero_mod, Bool.or_false, Bool.false_eq_true, if_false]
  rw [State.withOut_ring, hd, hc]

end

/-! The commands of descriptors -/

@[simp] theorem State.withOut_ringReady (o : List Out) (q : Nat) : (s.withOut o).ringReady q = s.ringReady q := rfl
@[simp] theorem State.withOut_regionBusy (o : List Out) (r : Nat) : (s.withOut o).regionBusy r = s.regionBusy r := rfl

section
variable {sag : Fin 16} {r : Fin 4} {d : List Byte} (hr : s.ringReady (4 * sag.val + r.val) = true)
include hr

/-- What holds of a ring whose descriptor has just started, and of the state it leaves. -/
theorem State.descBegun_meets : (((s.withOut []).descBegun (4 * sag.val + r.val) (d.map (·.toNat))).ring (4 * sag.val + r.val)).desc = some (descOf (d.map (·.toNat))) ∧
    (((s.withOut []).descBegun (4 * sag.val + r.val) (d.map (·.toNat))).ring (4 * sag.val + r.val)).code = s.descCode sag.val (descOf (d.map (·.toNat))) (d.map (·.toNat)) ∧
    (((s.withOut []).descBegun (4 * sag.val + r.val) (d.map (·.toNat))).ring (4 * sag.val + r.val)).moved = 0 := by
  rw [State.descBegun_ring]
  exact ⟨rfl, by rw [State.descFresh, ringOf_sag]; rfl, rfl⟩

theorem nop_starts (ho : (d.map (·.toNat)).getD 0 0 = 0 ∨ 3 < (d.map (·.toNat)).getD 0 0) : execNop sag r d s = .next (s.commit ((s.withOut []).descBegun (4 * sag.val + r.val) (d.map (·.toNat)))) :=
  done_is s (State.descStart_begins _ hr (by simpa using ho))

/-- A refill starts, and moves the data that came with it. -/
theorem streamRefill_starts (ho : (d.map (·.toNat)).getD 0 0 = 1) (b : List Byte) : execStreamRefill sag r d b s =
    .next (s.commit (((s.withOut []).descBegun (4 * sag.val + r.val) (d.map (·.toNat))).moveBlocks (4 * sag.val + r.val) (b.map (·.toNat)))) := by
  refine done_is s ?_
  dsimp only
  rw [State.descStart_begins (s.withOut []) hr (by rw [ho]; rfl), (s.descBegun_meets hr).1, Option.any_some, if_pos (by rw [descOf_op, ho]; rfl)]

theorem residentLoad_starts (ho : (d.map (·.toNat)).getD 0 0 = 2) (b : List Byte) : execResidentLoad sag r d b s =
    .next (s.commit (((s.withOut []).descBegun (4 * sag.val + r.val) (d.map (·.toNat))).moveBlocks (4 * sag.val + r.val) (b.map (·.toNat)))) := by
  refine done_is s ?_
  dsimp only
  rw [State.descStart_begins (s.withOut []) hr (by rw [ho]; rfl), (s.descBegun_meets hr).1, Option.any_some, if_pos (by rw [descOf_op, ho]; rfl)]

theorem upload_starts (ho : (d.map (·.toNat)).getD 0 0 = 3) : execUpload sag r d s =
    .next (s.commit (((s.withOut []).descBegun (4 * sag.val + r.val) (d.map (·.toNat))).uploadPart (4 * sag.val + r.val))) := by
  refine done_is s ?_
  rw [State.descStart_begins (s.withOut []) hr (by rw [ho]; rfl)]

/-- What a descriptor that has just started, with no block moved, leaves. -/
theorem State.descBegun_shows : s.keeps (s.commit ((s.withOut []).descBegun (4 * sag.val + r.val) (d.map (·.toNat)))) [.regs, .host] ∧
    s.keepsFields (s.commit ((s.withOut []).descBegun (4 * sag.val + r.val) (d.map (·.toNat)))) [R.HOST_DMA_STATUS.BUSY] ∧
    (s.commit ((s.withOut []).descBegun (4 * sag.val + r.val) (d.map (·.toNat)))).rd R.HOST_DMA_STATUS.BUSY (4 * sag.val + r.val) = 1 :=
  ⟨State.keeps_commit (by simp), by simp (disch := decide), State.descBegun_busy _ _ _⟩

end

section
variable {sag : Fin 16} {r : Fin 4} {x : Desc} (hd : (s.ring (4 * sag.val + r.val)).desc = some x)
include hd

/-- A refill in progress goes on with the data that came. -/
theorem streamRefill_goesOn (ho : x.op = 1) (d b : List Byte) : execStreamRefill sag r d b s = .next (s.commit ((s.withOut []).moveBlocks (4 * sag.val + r.val) (b.map (·.toNat)))) := by
  have hb : ((s.withOut []).ring (4 * sag.val + r.val)).desc = some x := hd
  refine done_is s ?_
  dsimp only
  rw [State.descStart_busy (s.withOut []) (by rw [hb]; rfl), hb, Option.any_some, if_pos (by rw [ho]; rfl)]

theorem residentLoad_goesOn (ho : x.op = 2) (d b : List Byte) : execResidentLoad sag r d b s = .next (s.commit ((s.withOut []).moveBlocks (4 * sag.val + r.val) (b.map (·.toNat)))) := by
  have hb : ((s.withOut []).ring (4 * sag.val + r.val)).desc = some x := hd
  refine done_is s ?_
  dsimp only
  rw [State.descStart_busy (s.withOut []) (by rw [hb]; rfl), hb, Option.any_some, if_pos (by rw [ho]; rfl)]

end

section
variable {t : State} {l : List Part}

@[simp] theorem State.keeps_setRing (q : Nat) (x : RingSt) (hl : .host ∈ l) : s.keeps (t.setRing q x) l ↔ s.keeps t l := State.keeps_host _ hl

theorem State.keeps_blockMoved (q : Nat) (x : Desc) (b : List Nat) (hh : .host ∈ l) (hs : .stores ∈ l) : s.keeps (t.blockMoved q x b) l ↔ s.keeps t l := by
  have hrow : t.keeps (t.rowBlock x.tile (t.blockRow x (t.ring q).moved) b) l := fun p hp => by
    cases p
    case stores => exact absurd hs hp
    all_goals rfl
  exact (State.keeps_setRing _ _ _ hh).trans ((State.keeps_host _ hh).trans (State.keeps_congr hrow))

end

section
variable {sag : Fin 16} {r : Fin 4} {d : List Byte} (hr : s.ringReady (4 * sag.val + r.val) = true)
include hr

theorem nop_moves (ho : (d.map (·.toNat)).getD 0 0 = 0 ∨ 3 < (d.map (·.toNat)).getD 0 0) :
    ∃ t, execNop sag r d s = .next t ∧ (t.ring (4 * sag.val + r.val)).code = s.descCode sag.val (descOf (d.map (·.toNat))) (d.map (·.toNat)) ∧
      (3 < (d.map (·.toNat)).getD 0 0 → (t.ring (4 * sag.val + r.val)).code = 3) ∧ (t.ring (4 * sag.val + r.val)).finished = true ∧ t.rd R.HOST_DMA_STATUS.BUSY (4 * sag.val + r.val) = 1 ∧
      s.keeps t [.regs, .host] ∧ s.keepsFields t [R.HOST_DMA_STATUS.BUSY] := by
  obtain ⟨hdesc, hcode, hmoved⟩ := s.descBegun_meets (d := d) hr
  obtain ⟨hk, hf, hbusy⟩ := s.descBegun_shows (d := d) hr
  have hcode3 (h : 3 < (d.map (·.toNat)).getD 0 0) : s.descCode sag.val (descOf (d.map (·.toNat))) (d.map (·.toNat)) = 3 := s.descCode_bad (by rw [descOf_op]; exact h)
  refine ⟨_, nop_starts s hr ho, hcode, fun h => hcode.trans (hcode3 h), ?_, hbusy, hk, hf⟩
  rw [State.commit_ring, RingSt.finished, hdesc]
  dsimp only
  rw [hcode, descOf_op]
  obtain h0 | h3 := ho
  · rw [h0]
    simp
  · rw [hcode3 h3]
    simp

/-- The first block of a descriptor that has just started: its credits, and where it goes. -/
theorem State.descBegun_block {b : List Byte} (hop : (descOf (d.map (·.toNat))).op = 1 ∨ (descOf (d.map (·.toNat))).op = 2) (hb : b.length = 272)
    (hc : s.descCode sag.val (descOf (d.map (·.toNat))) (d.map (·.toNat)) = 0) (h1 : 272 ≤ smGet 0 s.host.credit sag.val) (h2 : 272 ≤ smGet 0 s.host.credit (64 + (descOf (d.map (·.toNat))).tile)) :
    ((s.withOut []).descBegun (4 * sag.val + r.val) (d.map (·.toNat))).moveBlocks (4 * sag.val + r.val) (b.map (·.toNat)) =
      (((s.withOut []).descBegun (4 * sag.val + r.val) (d.map (·.toNat))).blockMoved (4 * sag.val + r.val) (descOf (d.map (·.toNat))) (b.map (·.toNat))).when
        ((descOf (d.map (·.toNat))).op = 1 && bitAt (descOf (d.map (·.toNat))).flags 1 && 0 + 1 = (descOf (d.map (·.toNat))).count) (·.refillReady (descOf (d.map (·.toNat)))) := by
  obtain ⟨hdesc, hcode, hmoved⟩ := s.descBegun_meets (d := d) hr
  obtain ⟨-, hcount, -⟩ := s.descCode_good hc
  have hcr : ((s.withOut []).descBegun (4 * sag.val + r.val) (d.map (·.toNat))).host.credit = s.host.credit := State.descBegun_credit _ _ _
  have h := State.moveBlocks_one _ hdesc hop (hcode.trans hc) (by rw [hmoved]; exact hcount hop) (by rw [ringOf_sag, hcr]; exact h1) (by rw [hcr]; exact h2) b hb
  rwa [hmoved] at h

theorem streamRefill_first {b : List Byte} (ho : (d.map (·.toNat)).getD 0 0 = 1) (hb : b.length = 272) (hc : s.descCode sag.val (descOf (d.map (·.toNat))) (d.map (·.toNat)) = 0)
    (h1 : 272 ≤ smGet 0 s.host.credit sag.val) (h2 : 272 ≤ smGet 0 s.host.credit (64 + (descOf (d.map (·.toNat))).tile)) :
    ∃ t, execStreamRefill sag r d b s = .next t ∧ (t.ring (4 * sag.val + r.val)).moved = 1 ∧
      t.stores = (s.rowBlock (descOf (d.map (·.toNat))).tile (1024 * s.rd R.SEG_STORE_CFG.RING_BASE (descOf (d.map (·.toNat))).tile +
        256 * s.slotSize (descOf (d.map (·.toNat))).tile * (descOf (d.map (·.toNat))).slot + 8 * (descOf (d.map (·.toNat))).devAddr) (b.map (·.toNat))).stores := by
  obtain ⟨-, -, hmoved⟩ := s.descBegun_meets (d := d) hr
  have hop : (descOf (d.map (·.toNat))).op = 1 := (descOf_op d).trans ho
  refine ⟨_, streamRefill_starts s hr ho b, ?_, ?_⟩ <;> rw [s.descBegun_block hr (.inl hop) hb hc h1 h2]
  · rw [State.commit_ring, State.ring, State.when_refillReady_host, ← State.ring, State.blockMoved_ring, hmoved]
  · rw [State.commit_stores, State.when_refillReady_stores, State.blockMoved_stores, hmoved, State.blockRow, if_pos hop, State.slotSize, State.descBegun_rd _ _ _ (by decide),
      State.descBegun_rd _ _ _ (by decide), Nat.add_zero]
    rfl

theorem residentLoad_first {b : List Byte} (ho : (d.map (·.toNat)).getD 0 0 = 2) (hb : b.length = 272) (hc : s.descCode sag.val (descOf (d.map (·.toNat))) (d.map (·.toNat)) = 0)
    (h1 : 272 ≤ smGet 0 s.host.credit sag.val) (h2 : 272 ≤ smGet 0 s.host.credit (64 + (descOf (d.map (·.toNat))).tile)) :
    ∃ t, execResidentLoad sag r d b s = .next t ∧ (t.ring (4 * sag.val + r.val)).moved = 1 ∧
      t.stores = (s.rowBlock (descOf (d.map (·.toNat))).tile (8 * (descOf (d.map (·.toNat))).devAddr) (b.map (·.toNat))).stores ∧ s.keeps t [.regs, .host, .stores] := by
  obtain ⟨-, -, hmoved⟩ := s.descBegun_meets (d := d) hr
  have hop : (descOf (d.map (·.toNat))).op = 2 := (descOf_op d).trans ho
  have hno : (decide ((descOf (d.map (·.toNat))).op = 1) && bitAt (descOf (d.map (·.toNat))).flags 1 && decide (0 + 1 = (descOf (d.map (·.toNat))).count)) = false := by rw [hop]; rfl
  refine ⟨_, residentLoad_starts s hr ho b, ?_, ?_, ?_⟩ <;> rw [s.descBegun_block hr (.inr hop) hb hc h1 h2, hno, State.when_false]
  · rw [State.commit_ring, State.blockMoved_ring, hmoved]
  · rw [State.commit_stores, State.blockMoved_stores, hmoved, State.blockRow, hop, if_neg (by decide), Nat.zero_add, Nat.add_zero]
    rfl
  · exact State.keeps_commit ((State.keeps_blockMoved _ _ _ _ (by simp) (by simp)).2 (by simp))

/-- An upload has CODE 0, 3 or 4 before it moves any data (R480). -/
theorem State.descCode_upload {k : Nat} {b : List Nat} (ho : (descOf b).op = 3) : s.descCode k (descOf b) b = 0 ∨ s.descCode k (descOf b) b = 3 ∨ s.descCode k (descOf b) b = 4 := by
  unfold State.descCode
  simp only [ho]
  split
  · exact .inr (.inl rfl)
  · rw [if_neg (by decide), if_pos trivial]
    split
    · exact .inl rfl
    · exact .inr (.inr rfl)

theorem upload_waits (ho : (d.map (·.toNat)).getD 0 0 = 3) (h : s.descCode sag.val (descOf (d.map (·.toNat))) (d.map (·.toNat)) ≠ 0 ∨ s.regionBusy (capRegion ((descOf (d.map (·.toNat))).devAddr / 8)) = true) :
    ∃ t, execUpload sag r d s = .next t ∧ (t.ring (4 * sag.val + r.val)).desc = some (descOf (d.map (·.toNat))) ∧
      (t.ring (4 * sag.val + r.val)).code = s.descCode sag.val (descOf (d.map (·.toNat))) (d.map (·.toNat)) ∧ (t.ring (4 * sag.val + r.val)).moved = 0 ∧ t.out = [] ∧ s.keeps t [.regs, .host] := by
  obtain ⟨hdesc, hcode, hmoved⟩ := s.descBegun_meets (d := d) hr
  obtain ⟨hk, -, -⟩ := s.descBegun_shows (d := d) hr
  have hop : (descOf (d.map (·.toNat))).op = 3 := (descOf_op d).trans ho
  have hwait : ((s.withOut []).descBegun (4 * sag.val + r.val) (d.map (·.toNat))).uploadPart (4 * sag.val + r.val) = (s.withOut []).descBegun (4 * sag.val + r.val) (d.map (·.toNat)) := by
    refine State.uploadPart_waits _ hdesc hop ?_
    rw [hcode, hmoved, State.descBegun_regionBusy]
    refine h.imp (fun h => ?_) id
    obtain h0 | h3 | h4 := s.descCode_upload hr (k := sag.val) hop
    · exact absurd h0 h
    · rw [h3]
      decide
    · rw [h4]
      decide
  refine ⟨_, upload_starts s hr ho, ?_⟩
  rw [hwait]
  exact ⟨hdesc, hcode, hmoved, rfl, hk⟩

theorem upload_sends (ho : (d.map (·.toNat)).getD 0 0 = 3) (hc : s.descCode sag.val (descOf (d.map (·.toNat))) (d.map (·.toNat)) = 0) (h4 : (descOf (d.map (·.toNat))).count ≤ 4096)
    (hbusy : s.regionBusy (capRegion ((descOf (d.map (·.toNat))).devAddr / 8)) = false)
    (hbusy' : s.regionBusy (capRegion (((descOf (d.map (·.toNat))).devAddr + (descOf (d.map (·.toNat))).count - 1) / 8)) = false)
    (hw : ∀ j, j < 512 → smGet 0 s.capEcc ((descOf (d.map (·.toNat))).devAddr / 8 + j) ≠ 2) :
    ∃ t, execUpload sag r d s = .next t ∧ (t.ring (4 * sag.val + r.val)).moved = (descOf (d.map (·.toNat))).count ∧ (t.ring (4 * sag.val + r.val)).finished = true ∧ s.keeps t [.regs, .host] ∧
      t.out = (List.range ((descOf (d.map (·.toNat))).count / 8)).map (fun j => Out.hostWrite ((descOf (d.map (·.toNat))).hostAddr + 8 * j)
        (leBytes 8 (smGet 0 s.cap ((descOf (d.map (·.toNat))).devAddr / 8 + j))) false) := by
  obtain ⟨hdesc, hcode, hmoved⟩ := s.descBegun_meets (d := d) hr
  have hop : (descOf (d.map (·.toNat))).op = 3 := (descOf_op d).trans ho
  have hb1 : ((s.withOut []).descBegun (4 * sag.val + r.val) (d.map (·.toNat))).regionBusy (capRegion ((descOf (d.map (·.toNat))).devAddr / 8)) = false :=
    (State.descBegun_regionBusy _ _ _ _).trans hbusy
  have hb2 : ((s.withOut []).descBegun (4 * sag.val + r.val) (d.map (·.toNat))).regionBusy (capRegion (((descOf (d.map (·.toNat))).devAddr + (descOf (d.map (·.toNat))).count - 1) / 8)) = false :=
    (State.descBegun_regionBusy _ _ _ _).trans hbusy'
  have hsend := State.uploadPart_sends _ hdesc hop (hcode.trans hc) hmoved h4 hb1 hb2
  rw [State.descBegun_capEcc] at hsend
  replace hsend := hsend hw
  refine ⟨_, upload_starts s hr ho, ?_⟩
  rw [hsend]
  refine ⟨?_, ?_, State.keeps_commit (by simp), ?_⟩
  · rw [State.commit_ring, State.setRing_ring_same]
  · rw [State.commit_ring, State.setRing_ring_same, RingSt.finished]
    dsimp only
    rw [hdesc]
    simp
  · simp [State.setRing]

end

section
variable {sag : Fin 16} {r : Fin 4} {x : Desc} {b : List Byte} (hd : (s.ring (4 * sag.val + r.val)).desc = some x) (hc : (s.ring (4 * sag.val + r.val)).code = 0)
  (hm : (s.ring (4 * sag.val + r.val)).moved < x.count) (hb : b.length = 272) (h1 : 272 ≤ smGet 0 s.host.credit sag.val) (h2 : 272 ≤ smGet 0 s.host.credit (64 + x.tile))
include hd hc hm hb h1 h2

theorem streamRefill_next (ho : x.op = 1) (d : List Byte) :
    ∃ t, execStreamRefill sag r d b s = .next t ∧ (t.ring (4 * sag.val + r.val)).moved = (s.ring (4 * sag.val + r.val)).moved + 1 ∧
      t.stores = (s.rowBlock x.tile (1024 * s.rd R.SEG_STORE_CFG.RING_BASE x.tile + 256 * s.slotSize x.tile * x.slot + 8 * (x.devAddr + (s.ring (4 * sag.val + r.val)).moved)) (b.map (·.toNat))).stores ∧
      smGet 0 t.host.credit sag.val = smGet 0 s.host.credit sag.val - 272 ∧ smGet 0 t.host.credit (64 + x.tile) = smGet 0 s.host.credit (64 + x.tile) - 272 ∧
      (bitAt x.flags 1 = true → (s.ring (4 * sag.val + r.val)).moved + 1 = x.count → t.rd R.SEG_SLOT.READY (slotInst' x.tile x.slot) = 1 ∧
        t.rd R.SEG_SLOT.TAG (slotInst' x.tile x.slot) = x.tag % 2 ^ R.SEG_SLOT.TAG.width) := by
  have hmv := State.moveBlocks_one (s.withOut []) hd (.inl ho) hc hm (by rw [ringOf_sag]; exact h1) h2 b hb
  obtain ⟨hc1, hc2⟩ := (s.withOut []).blockMoved_credit x (b.map (·.toNat)) (q := 4 * sag.val + r.val) (by omega)
  rw [ringOf_sag] at hc1
  refine ⟨_, (streamRefill_goesOn s hd ho d b).trans (by rw [hmv]), ?_, ?_, ?_, ?_, fun hf hl => ?_⟩
  · rw [State.commit_ring, State.ring, State.when_refillReady_host, ← State.ring, State.blockMoved_ring]
    rfl
  · rw [State.commit_stores, State.when_refillReady_stores, State.blockMoved_stores, State.blockRow, if_pos ho]
    rfl
  · rw [State.commit_host, State.when_refillReady_host, hc1]
    rfl
  · rw [State.commit_host, State.when_refillReady_host, hc2]
    rfl
  · have hlast : (x.op = 1 && bitAt x.flags 1 && ((s.withOut []).ring (4 * sag.val + r.val)).moved + 1 = x.count) = true := by simp [ho, hf, hl]
    rw [hlast]
    exact State.refillReady_ready _ x

theorem residentLoad_next (ho : x.op = 2) (d : List Byte) :
    ∃ t, execResidentLoad sag r d b s = .next t ∧ (t.ring (4 * sag.val + r.val)).moved = (s.ring (4 * sag.val + r.val)).moved + 1 ∧
      t.stores = (s.rowBlock x.tile (8 * (x.devAddr + (s.ring (4 * sag.val + r.val)).moved)) (b.map (·.toNat))).stores ∧
      smGet 0 t.host.credit sag.val = smGet 0 s.host.credit sag.val - 272 ∧ smGet 0 t.host.credit (64 + x.tile) = smGet 0 s.host.credit (64 + x.tile) - 272 ∧ s.keeps t [.host, .stores] := by
  have hmv := State.moveBlocks_one (s.withOut []) hd (.inr ho) hc hm (by rw [ringOf_sag]; exact h1) h2 b hb
  have hno : (decide (x.op = 1) && bitAt x.flags 1 && decide (((s.withOut []).ring (4 * sag.val + r.val)).moved + 1 = x.count)) = false := by rw [ho]; rfl
  rw [hno, State.when_false] at hmv
  obtain ⟨hc1, hc2⟩ := (s.withOut []).blockMoved_credit x (b.map (·.toNat)) (q := 4 * sag.val + r.val) (by omega)
  rw [ringOf_sag] at hc1
  refine ⟨_, (residentLoad_goesOn s hd ho d b).trans (by rw [hmv]), ?_, ?_, by rw [State.commit_host, hc1, State.withOut_host], by rw [State.commit_host, hc2, State.withOut_host], State.keeps_commit ((State.keeps_blockMoved _ _ _ _ (by simp) (by simp)).2 (by simp))⟩
  · rw [State.commit_ring, State.blockMoved_ring]
    rfl
  · rw [State.commit_stores, State.blockMoved_stores, State.blockRow, ho, if_neg (by decide), Nat.zero_add]
    rfl

end

end Sys2Proof.Machine

open Sys2Proof Sys2Proof.Machine

/-- Settles O17: each descriptor by what its start leaves, and by the one block or the words that move. -/
theorem descriptors : Obligations.Descriptors := by
  refine ⟨fun s sag r d hr ho => nop_moves s hr ho, fun s sag r d hr ho => ?_, fun s sag r d b hr ho hb hc h1 h2 => streamRefill_first s hr ho hb hc h1 h2,
    fun s sag r d b x hd ho hc hm hb h1 h2 => streamRefill_next s hd hc hm hb h1 h2 ho d, fun s sag r d b hr ho hb hc h1 h2 => residentLoad_first s hr ho hb hc h1 h2,
    fun s sag r d hr ho => ?_, fun s sag r d b x hd ho hc hm hb h1 h2 => residentLoad_next s hd hc hm hb h1 h2 ho d,
    fun s sag r d hr ho hc h4 hbusy hbusy' hw => upload_sends s hr ho hc h4 hbusy hbusy' hw, fun s sag r d hr ho h => upload_waits s hr ho h⟩
  case refine_1 =>
    obtain ⟨hdesc, hcode, hmoved⟩ := s.descBegun_meets (d := d) hr
    obtain ⟨hk, hf, hbusy⟩ := s.descBegun_shows (d := d) hr
    exact ⟨_, streamRefill_starts s hr ho [], hdesc, hcode, hmoved, hbusy, hk, hf⟩
  case refine_2 =>
    obtain ⟨hdesc, hcode, hmoved⟩ := s.descBegun_meets (d := d) hr
    obtain ⟨hk, hf, hbusy⟩ := s.descBegun_shows (d := d) hr
    exact ⟨_, residentLoad_starts s hr ho [], hdesc, hcode, hmoved, hbusy, hk, hf⟩
end
section
/-! SUPPORT. The ends of descriptors and the arbitration frame (R212, R476, R478, R480 to R482), and O18. -/

namespace Sys2Proof.Machine

variable (s : State)

@[simp] theorem State.when_rd_of {c : Bool} {f : State → State} {g : Fld} {i : Nat} (h : (f s).rd g i = s.rd g i) : (s.when c f).rd g i = s.rd g i := by
  cases c
  · rfl
  · exact h

/-- A ring after its STATUS write, with one more descriptor done and none in progress: HEAD one further where the descriptor is of the ring as it is now. -/
def State.descEnded (s : State) (q : Nat) (x : RingSt) : State :=
  let s := ((s.descStatus q x.code).bump R.HOST_DMA_STATUS.DONE_COUNT q 1).wr R.HOST_DMA_STATUS.BUSY q 0
  (s.when (!x.stale) fun s => s.wr R.HOST_DMA_HEAD.HEAD q ((s.rd R.HOST_DMA_HEAD.HEAD q + 1) % 2 ^ s.rd R.HOST_DMA_CFG.SIZE_LOG2 q)).setRing q .idle

section
variable (q : Nat) (x : RingSt)

theorem State.descEnded_out : (s.descEnded q x).out = s.out ++ [.hostWrite ((s.ring q).addr + 28) (leBytes 4 (x.code + 2 ^ 31)) false] := by
  unfold State.descEnded
  cases x.stale <;> rfl

theorem State.descEnded_hub : (s.descEnded q x).hub = s.hub := by
  unfold State.descEnded
  cases x.stale <;> rfl

theorem State.descEnded_ring : (s.descEnded q x).ring q = .idle := State.setRing_ring_same _ _ _

theorem State.descEnded_head : (s.descEnded q x).rd R.HOST_DMA_HEAD.HEAD q =
    if x.stale then s.rd R.HOST_DMA_HEAD.HEAD q else (s.rd R.HOST_DMA_HEAD.HEAD q + 1) % 2 ^ s.rd R.HOST_DMA_CFG.SIZE_LOG2 q % 2 ^ R.HOST_DMA_HEAD.HEAD.width := by
  unfold State.descEnded State.descStatus
  cases x.stale <;> simp (disch := decide)

theorem State.descEnded_status : (s.descEnded q x).rd R.HOST_DMA_STATUS.BUSY q = 0 ∧
    (s.descEnded q x).rd R.HOST_DMA_STATUS.LAST_CODE q = x.code % 2 ^ R.HOST_DMA_STATUS.LAST_CODE.width := by
  unfold State.descEnded State.descStatus
  cases x.stale <;> simp (disch := decide)

end

section
variable {sag : Fin 16} {r : Fin 4}

theorem descriptorComplete_ends {d : Desc} (hd : (s.ring (4 * sag.val + r.val)).desc = some d) (hf : (s.ring (4 * sag.val + r.val)).finished = true)
    (hb : s.refillBefore (4 * sag.val + r.val) = false) : execDescriptorComplete sag r s =
      .next (s.commit (((s.withOut []).descEnded (4 * sag.val + r.val) (s.ring (4 * sag.val + r.val))).when (bitAt d.flags 0) (·.raise (1024 + 4 * sag.val)))) := by
  have hb' : (s.withOut []).refillBefore (4 * sag.val + r.val) = false := hb
  refine done_is s ?_
  simp only [State.withOut_ring, hd, hf, hb', Bool.not_true, Bool.or_self, Bool.false_eq_true, if_false]
  rfl

theorem descriptorComplete_waits (h : (s.ring (4 * sag.val + r.val)).finished = false ∨ s.refillBefore (4 * sag.val + r.val) = true) :
    ∃ t, execDescriptorComplete sag r s = .next t ∧ s.keeps t [] := by
  refine done_idle s ?_
  dsimp only
  rw [State.withOut_ring]
  split
  · rfl
  · refine if_pos ?_
    obtain h | h := h
    · rw [h]
      rfl
    · rw [show (s.withOut []).refillBefore (4 * sag.val + r.val) = true from h, Bool.or_true]

/-- What the error of a descriptor reports to its saggar's function (R482). -/
def State.dmaReported (s : State) (sag : Nat) (timeout : Bool) : State :=
  match s.fnOf sag with | some f => s.when timeout fun s => (s.hostErr f R.HOST_ERR.CPL_TIMEOUT).aer f 4 | none => s

theorem State.dmaReported_out (k : Nat) (b : Bool) : (s.dmaReported k b).out = s.out := by
  unfold State.dmaReported
  cases s.fnOf k <;> cases b <;> rfl

theorem State.dmaReported_hub (k : Nat) (b : Bool) : (s.dmaReported k b).hub = s.hub := by
  unfold State.dmaReported
  cases s.fnOf k <;> cases b <;> rfl

theorem State.dmaReported_timeout {k f : Nat} (h : s.fnOf k = some f) : (s.dmaReported k true).rd R.HOST_ERR.CPL_TIMEOUT f = 1 := by
  unfold State.dmaReported
  rw [h]
  exact State.hostErr_set s f _ (by decide)

theorem dmaHostError_ends (timeout : Bool) (h : (s.ring (4 * sag.val + r.val)).desc.isSome = true ∨ s.ringReady (4 * sag.val + r.val) = true) : execDmaHostError sag r timeout s =
    .next (s.commit ((((((((s.withOut []).when (s.ring (4 * sag.val + r.val)).desc.isSome fun s => s.descStatus (4 * sag.val + r.val) 6).dmaReported sag.val timeout).setRing (4 * sag.val + r.val) .idle).wr
      R.HOST_DMA_STATUS.BUSY (4 * sag.val + r.val) 0).wr R.HOST_DMA_CFG.EN (4 * sag.val + r.val) 0).wr R.HOST_DMA_STATUS.ERROR (4 * sag.val + r.val) 1).raise (1024 + 4 * sag.val + 1))) := by
  have hgo : ((s.ring (4 * sag.val + r.val)).desc.isNone && !s.ringReady (4 * sag.val + r.val)) = false := by
    obtain h | h := h
    · rw [← Option.not_isSome, h]
      rfl
    · rw [h, Bool.not_true, Bool.and_false]
  refine done_is s ?_
  simp only [State.withOut_ring, State.withOut_ringReady, hgo, Bool.false_eq_true, if_false]
  rfl

end

/-- A list of values put under keys one after another: each key of the list reads its value, and every other key what it read. -/
theorem smGet_puts (l : List Nat) (g : Nat → Nat) (v : Nat → Nat) (hg : ∀ i j, g i = g j → i = j) (m : SMap Nat) (k : Nat) :
    smGet 0 (l.foldl (fun c k => smSet 0 c (g k) (v k)) m) (g k) = if k ∈ l then v k else smGet 0 m (g k) := by
  induction l generalizing m with
  | nil => simp
  | cons a r ih =>
    rw [List.foldl_cons, ih]
    by_cases hr : k ∈ r
    · simp [hr]
    · by_cases ha : k = a
      · subst ha
        simp [hr]
      · have hne : g k ≠ g a := fun e => ha (hg _ _ e)
        simp [hr, ha, hne]

theorem smGet_puts_other (l : List Nat) (g v : Nat → Nat) (m : SMap Nat) {k : Nat} (h : ∀ i ∈ l, k ≠ g i) : smGet 0 (l.foldl (fun c k => smSet 0 c (g k) (v k)) m) k = smGet 0 m k := by
  induction l generalizing m with
  | nil => rfl
  | cons a r ih => rw [List.foldl_cons, ih _ fun i hi => h i (List.mem_cons_of_mem _ hi), smGet_smSet_ne _ _ _ _ (h a List.mem_cons_self)]

theorem State.withCredit_credit (c : SMap Nat) : (s.withCredit c).host.credit = c := rfl

/-- The credits of a frame: 375 bytes a share for each saggar, 12,000 for each tile (R212, R476). -/
def State.frameCredit (s : State) : SMap Nat :=
  (List.range 16).foldl (fun c t => smSet 0 c (64 + t) 12000) ((List.range 16).foldl (fun c k => smSet 0 c k (375 * s.rd R.SAG_QUOTA_B.STREAM_SHARE k)) [])

theorem State.frameCredit_reads {k : Nat} (hk : k < 16) : smGet 0 s.frameCredit k = 375 * s.rd R.SAG_QUOTA_B.STREAM_SHARE k ∧ smGet 0 s.frameCredit (64 + k) = 12000 := by
  have hsag := smGet_puts (List.range 16) (fun i => i) (fun i => 375 * s.rd R.SAG_QUOTA_B.STREAM_SHARE i) (fun _ _ h => h) [] k
  have htile (m : SMap Nat) := smGet_puts (List.range 16) (fun i => 64 + i) (fun _ => 12000) (fun _ _ h => Nat.add_left_cancel h) m k
  have hother (m : SMap Nat) := smGet_puts_other (List.range 16) (fun i => 64 + i) (fun _ => 12000) m (k := k) fun i _ => by omega
  rw [if_pos (List.mem_range.2 hk)] at hsag
  simp only [if_pos (List.mem_range.2 hk)] at htile
  exact ⟨by rw [State.frameCredit, hother, hsag], by rw [State.frameCredit, htile]⟩

theorem dmaArbitrationFrame_renews :
    ∃ t, execDmaArbitrationFrame s = .next t ∧ (∀ k : Nat, k < 16 → smGet 0 t.host.credit k = 375 * s.rd R.SAG_QUOTA_B.STREAM_SHARE k ∧ smGet 0 t.host.credit (64 + k) = 12000) ∧ s.keeps t [.host] := by
  have e : execDmaArbitrationFrame s = .next (s.commit ((s.withOut []).withCredit (s.withOut []).frameCredit)) := by
    rw [execDmaArbitrationFrame, done_eq]
    simp only [State.withCredit, State.frameCredit, State.withOut]
  refine ⟨_, e, fun k hk => ?_, State.keeps_commit (s.keeps_setHost _)⟩
  rw [State.commit_host, State.withCredit_credit, State.frameCredit]
  simp only [State.withOut_rd]
  exact s.frameCredit_reads hk

end Sys2Proof.Machine

open Sys2Proof Sys2Proof.Machine

/-- Settles O18: the end of a descriptor, its error, and the frame. -/
theorem descriptorEnds : Obligations.DescriptorEnds := by
  refine ⟨fun s sag r d hd hf hb => ?_, fun s sag r h => descriptorComplete_waits s h, fun s sag r timeout h => ?_, fun s => dmaArbitrationFrame_renews s⟩
  case refine_1 =>
    refine ⟨_, descriptorComplete_ends s hd hf hb, ?_⟩
    obtain ⟨hbusy, hcode⟩ := (s.withOut []).descEnded_status (4 * sag.val + r.val) (s.ring (4 * sag.val + r.val))
    have hout := (s.withOut []).descEnded_out (4 * sag.val + r.val) (s.ring (4 * sag.val + r.val))
    have hhead := (s.withOut []).descEnded_head (4 * sag.val + r.val) (s.ring (4 * sag.val + r.val))
    have hring := (s.withOut []).descEnded_ring (4 * sag.val + r.val) (s.ring (4 * sag.val + r.val))
    have hhub := (s.withOut []).descEnded_hub (4 * sag.val + r.val) (s.ring (4 * sag.val + r.val))
    cases hbit : bitAt d.flags 0
    · exact ⟨hout, hhead, hbusy, hcode, hring, by simp [hhub]⟩
    · exact ⟨hout, hhead, hbusy, hcode, hring, by simp [hhub]⟩
  case refine_2 =>
    refine ⟨_, dmaHostError_ends s timeout h, ?_, ?_, ?_, ?_, ?_, fun f hf ht => ?_⟩
    · rw [State.commit_out]
      simp only [State.raise_out, State.wr_out, State.setRing_out, State.dmaReported_out]
      cases (s.ring (4 * sag.val + r.val)).desc <;> rfl
    · simp (disch := decide)
    · simp (disch := decide)
    · simp
    · rw [State.commit_hub, State.raise_asserted]
      simp only [State.wr_hub, State.setRing_hub, State.dmaReported_hub]
      cases (s.ring (4 * sag.val + r.val)).desc <;> rfl
    · have hfn : ((s.withOut []).when (s.ring (4 * sag.val + r.val)).desc.isSome fun s => s.descStatus (4 * sag.val + r.val) 6).fnOf sag.val = some f := by
        cases (s.ring (4 * sag.val + r.val)).desc <;> exact hf
      subst ht
      simp (disch := decide) only [State.commit_rd, State.raise_rd, State.wr_rd_key, State.setRing_rd]
      exact State.dmaReported_timeout _ hfn
end
section
/-! SUPPORT. The comparators of a lane whose front end a calibration step has taken (R519), and O20. -/

namespace Sys2Proof.Machine

/-- A lane whose active front end a calibration step has taken in a gap is not sampled (R519). -/
theorem State.laneSample_inGapStep {s : State} {l : Nat} (h : s.inGapStep l = true) : s.laneSample l = s :=
  if_pos (by rw [h, Bool.or_true])

/-- A device in RUN whose saggar 0 owns every octet, with one site over the first quadrant. -/
def oneSite : State :=
  let im : Image := { imageOf [] with saggars := [⟨0, 0, 0, 4⟩], octOwner := List.replicate 128 0, dpsOwner := List.replicate 32 0, sites := [⟨0, 0, 2 ^ 256 - 1⟩] }
  ({ State.reset with m := { State.reset.m with mode := .run }, image := some im } : State).wr R.DEV_MODE.FIRST_RUN 0 1

/-- That device with lane 5 compared at 1, its comparator then disabled, and a calibration step in a gap holding its active front end. -/
def gapStepState : State :=
  ((oneSite.wr R.LANE_CTL.CMP_EN 5 0).setLane 5 { LaneSt.idle with ch := true }).setCal 0 { CalSt.idle with running := true, cur := some (4, 10) }

theorem gapStepState_on : gapStepState.laneOn 5 = true ∧ gapStepState.laneUsed 5 = true ∧ gapStepState.leff R.LANE_CTL.CMP_EN 5 = 0 := by decide

theorem gapStepState_inGapStep : (gapStepState.withOut []).inGapStep 5 = true := by decide

theorem gapStepState_keepsOutput : execComparatorSample 5 gapStepState = .next (gapStepState.commit (gapStepState.withOut [])) :=
  done_is _ (State.laneSample_inGapStep gapStepState_inGapStep)

end Sys2Proof.Machine

open Sys2Proof Sys2Proof.Machine

/-- Refutes O20: with CMP_EN = 0 a lane that is on and in a site is not sampled while a calibration step in a gap has its front end (R519), so its output stays 1. -/
theorem not_laneComparators : ¬ Obligations.LaneComparators := by
  rintro ⟨-, h, -⟩
  obtain ⟨hon, hused, hen⟩ := gapStepState_on
  obtain ⟨t, ht, hch, -, -⟩ := h gapStepState 5 hon hused hen
  cases gapStepState_keepsOutput.symm.trans ht
  exact absurd hch (by decide)
end
section
/-! SUPPORT. The octet matrix of an octet that a spare SMU serves (R318, R323), and O23. -/

namespace Sys2Proof.Machine

/-- While a spare SMU serves an octet, a write of 1 to BALL_EN only shows that the ball is unavailable (R323, R599). -/
theorem matrixHook_ballUnavailable {s : State} {rq : Req} {o w : Nat} (h0 : s.rd R.OCT_STATUS.SMU_SOURCE o ≠ 0) (h3 : s.rd R.OCT_STATUS.SMU_SOURCE o ≠ 3)
    (hb : R.OCT_MATRIX.BALL_EN.part w ≠ 0) : matrixHook rq o w 15 s = (s.wr R.OCT_STATUS.BALL_UNAVAIL o 1, true) := by
  simp [matrixHook, Fld.acts, Fld.enabled_whole, h0, h3, hb]

/-- Octet 0 is served by the first spare SMU of its quadrant, and the PPMU of lane 0 is connected. -/
def spareServes : State := (oneSite.wr R.OCT_STATUS.SMU_SOURCE 0 1).wr R.LANE_PPMU_CTL.CONNECT 0 1

theorem spareServes_canWrite : spareServes.canWrite (.fn 0) .OCT_MATRIX 0 := by decide

/-- A write of LANE_SEL = 1 and BALL_EN = 1 is discarded there, and no lane shows a conflict. -/
theorem spareServes_noConflict : ∃ t, execOctMatrixWrite (.fn 0) 0 0x101 spareServes = .next t ∧ bitAt (t.rd R.OCT_STATUS.CONFLICT 0) 0 = false := by
  have e : matrixHook (.fn 0) (spareServes.copyOf (.fn 0) .OCT_MATRIX (0 : Fin 128).val) (0x101 : Word).toNat 15 (spareServes.withOut []) = ((spareServes.withOut []).wr R.OCT_STATUS.BALL_UNAVAIL 0 1, true) :=
    matrixHook_ballUnavailable (by decide) (by decide) (by decide)
  refine ⟨_, writeRow_refusesAt (h := matrixHook) spareServes spareServes_canWrite (by rw [e]), ?_⟩
  rw [e]
  decide

end Sys2Proof.Machine

open Sys2Proof Sys2Proof.Machine

/-- Refutes O23: where a spare SMU serves the octet, a write that also sets BALL_EN is discarded whole (R323, R599), and the lane it names shows no conflict. -/
theorem not_matrixConnections : ¬ Obligations.MatrixConnections := by
  rintro ⟨-, -, -, h⟩
  obtain ⟨t, ht, -, hconflict, -⟩ := h spareServes (.fn 0) 0 0x101 0 spareServes_canWrite (by decide) (by decide) (by decide) (by decide)
  obtain ⟨u, hu, hnone⟩ := spareServes_noConflict
  cases ht.symm.trans hu
  exact absurd (hconflict.symm.trans hnone) (by decide)
end
section
/-! SUPPORT. A micro-word that holds more than 32 bits, written through a store window (R38, R254), and O38. -/

namespace Sys2Proof.Machine

/-- A stopped sequencer 0 in RUN, whose micro-word 0 holds a bit above the 32 that a window write replaces. -/
def wideMicroWord : State :=
  ({ oneSite with m := { oneSite.m with storesReady := true } }).setStore 0 { StoreSt.idle with micro := [(0, 2 ^ 32)] }

theorem wideMicroWord_takes : wideMicroWord.reachable (.fn 0) = true ∧ wideMicroWord.window 0x200000 = some (0, 2, 0, 0) ∧ wideMicroWord.windowMay (.fn 0) 0 true = true ∧
    wideMicroWord.windowOpen 0 = true := by decide

/-- A write of 0 there keeps the high bit. -/
theorem wideMicroWord_written : ∃ t, execStoreWindowWrite (.fn 0) 0x200000 0 wideMicroWord = .next t ∧ smGet 0 (t.store 0).micro 0 = 2 ^ 32 := by
  refine ⟨_, rfl, ?_⟩
  decide

end Sys2Proof.Machine

open Sys2Proof Sys2Proof.Machine

/-- Refutes O38: a window write replaces the 32 bits of a micro-word, so a word that holds more than 32 bits does not become what is written. -/
theorem not_sequencerStores : ¬ Obligations.SequencerStores := by
  rintro ⟨h, -⟩
  obtain ⟨hreach, hwin, hmay, hopen⟩ := wideMicroWord_takes
  obtain ⟨t, ht, hword, -⟩ := h wideMicroWord (.fn 0) 0x200000 0 0 0 rfl hreach hwin hmay hopen
  obtain ⟨u, hu, hwide⟩ := wideMicroWord_written
  cases ht.symm.trans hu
  exact absurd (hword.symm.trans hwide) (by decide)
end
section
/-! SUPPORT. The receive queue of a timing port (R443), with a count that its field of five bits does not hold, and O41. -/

namespace Sys2Proof.Machine

/-- A pop takes one from the count, in the five bits of its field. -/
theorem rxHook_pops {s : State} {rq : Req} {p : Nat} (h : s.rd R.TIME_PORT_RX.COUNT p ≠ 0) :
    rxHook rq p 65536 15 s = ((s.wr R.TIME_PORT_RX.COUNT p (s.rd R.TIME_PORT_RX.COUNT p - 1)).wr R.TIME_PORT_RX.HEAD p (s.rd R.TIME_PORT_RX.HEAD p + 1), false) := by
  have hpop : R.TIME_PORT_RX.POP.acts 65536 15 = true := by decide
  simp only [rxHook, hpop, h, Bool.not_true, Bool.false_eq_true, if_false]

/-- In RUN, port 0 counts 33 frames, one more than its field holds. -/
def countBeyondField : State := { oneSite with regs := smSet 0 oneSite.regs (R.TIME_PORT_RX.COUNT.slot 0) 33 }

theorem countBeyondField_canWrite : countBeyondField.canWrite (.fn 0) .TIME_PORT_RX 0 := by decide

theorem countBeyondField_count : countBeyondField.rd R.TIME_PORT_RX.COUNT 0 = 33 := by decide

/-- A pop there leaves 0 in the field, not 32. -/
theorem countBeyondField_popped : ∃ t, execRxPop (.fn 0) 0 countBeyondField = .next t ∧ t.rd R.TIME_PORT_RX.COUNT 0 = 0 := by
  have e := rxHook_pops (s := countBeyondField.withOut []) (rq := .fn 0) (p := countBeyondField.copyOf (.fn 0) .TIME_PORT_RX (0 : Fin 2).val) (by decide)
  refine ⟨_, writeRow_takesAt countBeyondField countBeyondField_canWrite (by rw [e]), ?_⟩
  rw [e]
  decide

end Sys2Proof.Machine

open Sys2Proof Sys2Proof.Machine

/-- Refutes O41: COUNT of TIME_PORT_RX has five bits, so a pop of a queue that counts 33 frames leaves 0, not 32. -/
theorem not_timingPorts : ¬ Obligations.TimingPorts := by
  rintro ⟨-, -, -, -, -, -, -, -, -, h, -⟩
  obtain ⟨t, ht, hcount, -⟩ := h countBeyondField (.fn 0) 0 countBeyondField_canWrite (by rw [show ((0 : Fin 2).val) = 0 from rfl, countBeyondField_count]; decide)
  obtain ⟨u, hu, hzero⟩ := countBeyondField_popped
  cases ht.symm.trans hu
  have : (32 : Nat) = 0 := (congrArg (· - 1) countBeyondField_count).symm.trans (hcount.symm.trans hzero)
  cases this
end
section
/-! SUPPORT. A write of TEV_CTL that disarms and arms (R450, R451) while a start waits for the output (R88), and O42. -/

namespace Sys2Proof.Machine

/-- In RUN, timed output 0 can be armed for a START of one second, and the device start waits for that output. -/
def startWaits : State := ((oneSite.wr R.TEV_START_SEC_LO.SEC_LO 0 1).wr R.TEV_WIDTH.WIDTH 0 1).wr R.DEV_START.ARMED 0 1

theorem startWaits_canWrite : startWaits.canWrite (.fn 0) .TEV_CTL 0 := by decide

theorem startWaits_future : startWaits.clock.units + 6553600 < startWaits.tevStart 0 := by decide

/-- DISARM comes first and cancels the start, which raises START_REFUSED. -/
theorem startWaits_cancels : ∃ t, execTevArm (.fn 0) 0 3 startWaits = .next t ∧ (4, 0) ∈ t.hub.asserted := by
  refine ⟨_, rfl, ?_⟩
  decide

end Sys2Proof.Machine

open Sys2Proof Sys2Proof.Machine

/-- Refutes O42: an arm whose write also disarms cancels the start that waits for the output (R88, R451), which raises START_REFUSED in the hub. -/
theorem not_timedOutputs : ¬ Obligations.TimedOutputs := by
  rintro ⟨h, -⟩
  obtain ⟨t, ht, -, -, -, hhub⟩ := h startWaits (.fn 0) 0 3 startWaits_canWrite (by decide) (by decide) (by decide) startWaits_future
  obtain ⟨u, hu, hmem⟩ := startWaits_cancels
  cases ht.symm.trans hu
  rw [hhub] at hmem
  exact absurd hmem (by decide)
end
section
/-! SUPPORT. LVL UPDATE_ALL over a supply channel that waits for its restart (R235, R343), and O34. -/

namespace Sys2Proof.Machine

/-- A word of a tile's sequencer acts on its own state, but for the nano-words that wait in the tile's vector pipeline. -/
theorem State.acting_tile (s : State) {q : Nat} (w : Nat) (hq : q ≠ 16) : s.acting q w = s ∨ ∃ x, s.acting q w = s.setPlay q x := by
  have hf : s.fetched q (s.seq q).next = s := by simp [State.fetched, State.flashExec, hq]
  rw [State.acting, hf]
  exact s.afterIssue_cases q w

theorem State.seqNext_dac (s : State) (q pc next : Nat) (y : Bool) (k : Nat) : (s.seqNext q pc next y).dac k = s.dac k := by
  unfold State.seqNext
  split <;> rfl

/-- UPDATE_ALL of a tile leaves the target of a set DAC that waits for its restart. -/
theorem execUpdateAll_target_of_frozen {s : State} {q : Fin 16} {w k : Nat} (h : s.fetches q.val w) (hp : isLvl 1 w = true) (hk : s.dacFrozen k = true) :
    ∃ t, execUpdateAll q s = .next t ∧ (t.dac k).target = (s.dac k).target := by
  have hq : q.val ≠ 16 := by omega
  have hact : ((s.withOut []).acting q.val w).dacFrozen k = true ∧ (((s.withOut []).acting q.val w).dac k).target = (s.dac k).target := by
    obtain e | ⟨x, e⟩ := (s.withOut []).acting_tile w hq
    all_goals rw [e]; exact ⟨hk, rfl⟩
  have heach (l : List Nat) := State.each_induction (P := fun t => t.dacFrozen k = true ∧ (t.dac k).target = (s.dac k).target) _ l State.trigger hact
    fun t j ⟨hf, ht⟩ => ⟨(t.trigger_dacFrozen j k).trans hf, (t.trigger_target_of_frozen hf j).trans ht⟩
  refine ⟨_, done_is s ((s.withOut []).execMicro_eq _ h hp), ?_⟩
  rw [State.afterWord_eq_self _ (.inl hq), State.commit_dac, State.seqNext_dac]
  exact (heach _).2

/-- LVL UPDATE_ALL with the supply channels of the quadrant named: class 7, OP 1, bit 8. -/
def updateSupplies : Nat := 7 * 2 ^ 28 + 2 ^ 12 + 2 ^ 8

/-- The device with a folded supply channel whose code was written since, where the sequencer of tile 0 executes that word next. -/
def foldedUpdate : State := (foldedSupply.wr R.SEQ_STATUS.STATE 0 1).setStore 0 { StoreSt.idle with micro := [(0, updateSupplies)] }

theorem foldedUpdate_fetches : foldedUpdate.fetches 0 updateSupplies := by decide

theorem foldedUpdate_named : 11000 ∈ foldedUpdate.updateDacs 0 (bits updateSupplies 0 9) := by decide

theorem foldedUpdate_frozen : foldedUpdate.dacFrozen 11000 = true := by decide

theorem foldedUpdate_target_ne : (foldedUpdate.dac 11000).target ≠ foldedUpdate.dacStored 11000 := by decide

end Sys2Proof.Machine

open Sys2Proof Sys2Proof.Machine

/-- Refutes O34: UPDATE_ALL names the set DAC of a folded supply channel, whose trigger waits for the restart (R343), so its target does not become the stored code. -/
theorem not_sequencerTileWords : ¬ Obligations.SequencerTileWords := by
  rintro ⟨-, -, -, -, h, -⟩
  obtain ⟨t, ht, htarget, -⟩ := h foldedUpdate 0 updateSupplies 11000 foldedUpdate_fetches (by decide) foldedUpdate_named
  obtain ⟨u, hu, hkept⟩ := execUpdateAll_target_of_frozen (q := 0) (w := updateSupplies) foldedUpdate_fetches (by decide) foldedUpdate_frozen
  cases ht.symm.trans hu
  exact foldedUpdate_target_ne (hkept.symm.trans htarget)
end
section
/-! SUPPORT. The write pointer of an acquisition ring in the 16 bits of its field (R397, R405), and O47. -/

namespace Sys2Proof.Machine

/-- What follows a frame leaves the write pointer. -/
theorem State.acqNext_wptr (s : State) (t : Nat) : (s.acqNext t).rd R.ACQ_WPTR.WPTR t = s.rd R.ACQ_WPTR.WPTR t :=
  State.rd_of_blur (s.acqNext_blur t (Nat.and_self _)) R.ACQ_WPTR.WPTR t (by decide)

/-- A frame that closes leaves a write pointer that its field holds. -/
theorem acqFrameClose_wptr_lt {s : State} {k : Fin 16} (h4 : s.acqState k.val = 4) (hr : ((s.acqRegions k.val).any fun r => s.regionTaken r false) = false) :
    ∃ t, execAcqFrameClose k s = .next t ∧ t.rd R.ACQ_WPTR.WPTR k.val < 2 ^ 16 := by
  refine done_meets ?_
  have h4' : (s.withOut []).acqState k.val = 4 := h4
  have hr' : (((s.withOut []).acqRegions k.val).any fun r => (s.withOut []).regionTaken r false) = false := hr
  simp only [h4', hr', ne_eq, not_true, decide_false, Bool.or_self, Bool.false_eq_true, if_false]
  rw [State.commit_rd, State.acqNext_wptr, State.raise_rd, State.bump_rd_key _ _ (by decide), State.setAcq_rd, State.wr_rd_same]
  exact Nat.mod_lt _ (by decide)

/-- A frame in CLOSING of a disarmed unit, whose ring of 2^20 slots is beyond what its field holds, at slot 65,535. -/
def longRing : State :=
  let s := (oneSite.wr R.ACQ_CTL.STATE 0 4).setAcq 0 { AcqSt.idle with disarm := true }
  { s with regs := smSet 1 (smSet 0 s.regs (R.ACQ_WPTR.WPTR.slot 0) 65535) (R.ACQ_RING.SLOTS.slot 0) (2 ^ 20) }

theorem longRing_closes : longRing.acqState 0 = 4 ∧ ((longRing.acqRegions 0).any fun r => longRing.regionTaken r false) = false := by decide

theorem longRing_next : (if longRing.rd R.ACQ_RING.SLOTS 0 = 0 then 0 else (longRing.rd R.ACQ_WPTR.WPTR 0 + 1) % longRing.rd R.ACQ_RING.SLOTS 0) = 2 ^ 16 := by decide

end Sys2Proof.Machine

open Sys2Proof Sys2Proof.Machine

/-- Refutes O47: WPTR has 16 bits, so in a ring of 2^20 slots it does not go on from 65,535 to 65,536. -/
theorem not_acquisition : ¬ Obligations.Acquisition := by
  rintro ⟨-, -, -, -, -, -, -, -, -, -, -, -, -, -, -, -, h, -⟩
  obtain ⟨h4, hr⟩ := longRing_closes
  obtain ⟨t, ht, -, -, hw, -⟩ := h longRing 0 h4 hr (by decide)
  obtain ⟨u, hu, hlt⟩ := acqFrameClose_wptr_lt (k := 0) h4 hr
  cases ht.symm.trans hu
  rw [hw, show ((0 : Fin 16).val) = 0 from rfl, longRing_next] at hlt
  exact absurd hlt (by decide)
end
section
/-! SUPPORT. The conversion sequence of an octet's ADC (R324), with a length that its field of four bits does not hold, and O48. -/

namespace Sys2Proof.Machine

/-- The sequence of octet 0 at entry 15, with 17 entries. -/
def longSequence : State :=
  let s := (oneSite.wr R.ADC_STATUS.BUSY 0 1).wr R.ADC_STATUS.ENTRY 0 15
  { s with regs := smSet 0 s.regs (R.ADC_CTL.LEN_M1.slot 0) 16 }

theorem longSequence_converts : longSequence.adcGone 0 = false ∧ longSequence.rd R.ADC_STATUS.BUSY 0 = 1 ∧ longSequence.fl R.OCT_STATUS.ADC_LENDING 0 = false ∧
    (longSequence.adc 0).settle = 0 ∧ (longSequence.adc 0).mean = none := by decide

theorem longSequence_last : 15 = longSequence.rd R.ADC_STATUS.ENTRY 0 ∧ 15 < longSequence.rd R.ADC_CTL.LEN_M1 0 := by decide

/-- The entry after 15 is 0 in the four bits of ENTRY. -/
theorem longSequence_wraps : ∃ t, execAdcSlot 0 0 longSequence 0 = .next t ∧ t.rd R.ADC_STATUS.ENTRY 0 = 0 := by
  refine ⟨_, rfl, ?_⟩
  decide

end Sys2Proof.Machine

open Sys2Proof Sys2Proof.Machine

/-- Refutes O48: ENTRY has four bits, so a sequence of 17 entries does not go on from entry 15 to entry 16. -/
theorem not_sourceMeasurements : ¬ Obligations.SourceMeasurements := by
  rintro ⟨-, -, -, -, -, -, -, -, h, -⟩
  obtain ⟨hgone, hbusy, hlend, hsettle, hmean⟩ := longSequence_converts
  obtain ⟨he, hlen⟩ := longSequence_last
  obtain ⟨t, ht, -, -, hnext, -⟩ := h longSequence 0 0 0 15 15 0 0 _ hgone hbusy hlend hsettle hmean he rfl (by decide) (by decide) (by decide) (by decide) rfl rfl
  obtain ⟨u, hu, hzero⟩ := longSequence_wraps
  cases ht.symm.trans hu
  cases (hnext hlen).1.symm.trans hzero
end
section
/-! SUPPORT. Machine checks of a sequencer (R244, R252, R253): what one leaves in SEQ_MC and of its tile's play, the words and events that raise it, and O37. -/

namespace Sys2Proof.Machine

variable (s : State)

/-! Play that does not start by itself -/

@[simp] theorem PlaySt.stopBy_playing (p : PlaySt) (k : Nat) : (p.stopBy k).playing = p.playing := by
  unfold PlaySt.stopBy
  split_ifs <;> rfl

theorem State.play_of_blur {s t : State} {b : Nat} (h : t.blur b = s.blur b) (q : Nat) (hb : b.testBit 20 = false) : t.play q = s.play q := by
  unfold State.play
  rw [State.plays_of_blur h hb]

/-- A tile that does not play stays so when what another tile's play stands in is written without starting it. -/
theorem State.setPlay_idle {q : Nat} (t : Nat) {x : PlaySt} (hx : t = q → x.playing = false) (h : (s.play q).playing = false) : ((s.setPlay t x).play q).playing = false := by
  by_cases e : t = q
  · subst e
    rw [State.setPlay_play_same]
    exact hx rfl
  · simpa [Ne.symm e] using h

theorem State.ringLow_playing (t : Nat) (arm : Bool) (q : Nat) : ((s.ringLow t arm).play q).playing = (s.play q).playing := by
  unfold State.ringLow
  dsimp only
  split
  · by_cases e : q = t
    · subst e; simp
    · simp [e]
  · by_cases e : q = t
    · subst e; simp
    · simp [e]

theorem State.slotFree_playing (t n q : Nat) : ((s.slotFree t n).play q).playing = (s.play q).playing := by
  rw [State.slotFree, State.ringLow_playing, State.wr_play, State.wr_play]

theorem State.boundaryWrites_playing (t q : Nat) : ((s.boundaryWrites t).play q).playing = (s.play q).playing := by
  unfold State.boundaryWrites
  dsimp only
  have happlied (u : State) : ((s.play t).held.foldl (fun s e => s.applied (slotKey e.1) (slotInst e.1) e.2) u).play q = u.play q :=
    State.play_of_blur (b := 0x40000000000000000000000000800000000000000000000000000000000000000000000000000000000000000000000000000000000000000000000000000000000000090040000000000000000000000000000000000000000011800)
      (State.blur_foldl u _ _ fun v e => v.applied_blur _ _ _ (by decide)) q (by decide)
  rw [happlied, State.play_of_blur (b := 0x800) (State.blur_each _ _ _ fun u l => u.setLane_blur l _ (by decide)) q (by decide)]
  by_cases e : q = t
  · subst e; simp
  · simp [e]

theorem State.segSync_play (t q : Nat) : (s.segSync t).play q = s.play q := State.play_of_blur (s.segSync_blur t (Nat.and_self _)) q (by decide)

/-- The engine of a tile stops, and no engine starts. -/
theorem State.engineStop_idle (t : Nat) {q : Nat} (h : q = t ∨ (s.play q).playing = false) : ((s.engineStop t).play q).playing = false := by
  unfold State.engineStop
  dsimp only
  split
  · next hp =>
    obtain rfl | h := h
    · simpa using hp
    · exact h
  · rw [State.segSync_play, State.boundaryWrites_playing]
    refine State.when_induction s (P := fun u => ((u.setPlay t _).play q).playing = false) _ _ ?_ ?_
    · by_cases e : q = t
      · subst e; simp
      · simpa [e] using h.resolve_left e
    · by_cases e : q = t
      · subst e; simp
      · simpa [e, State.slotFree_playing] using h.resolve_left e

theorem State.tileStop_idle (t : Nat) {q : Nat} (h : (s.play q).playing = false) : ((s.tileStop t).play q).playing = false := by
  rw [State.tileStop, State.play_of_blur (State.seqStopped_blur _ t (Nat.and_self _)) q (by decide)]
  exact s.engineStop_idle t (.inr h)

theorem State.stopAsked_idle (t k : Nat) {q : Nat} (h : (s.play q).playing = false) : ((s.setPlay t ((s.play t).stopBy k)).play q).playing = false :=
  s.setPlay_idle t (fun e => by rw [PlaySt.stopBy_playing, e, h]) h

theorem State.stopAtBoundary_idle (t : Nat) {q : Nat} (h : (s.play q).playing = false) : ((s.stopAtBoundary t).play q).playing = false := by
  unfold State.stopAtBoundary
  dsimp only
  split
  · exact h
  split
  · exact s.each_induction (P := fun u => (u.play q).playing = false) _ _ h fun u m hu => u.stopAsked_idle m 4 hu
  split
  · exact s.stopAsked_idle t 2 h
  · exact s.tileStop_idle t h

theorem State.stopTiles_idle (now : Bool) {q : Nat} (h : (s.play q).playing = false) : ((s.stopTiles now).play q).playing = false := by
  refine s.each_induction (P := fun u => (u.play q).playing = false) _ _ h fun u t hu => ?_
  split
  · exact hu
  split
  · exact u.tileStop_idle t hu
  · exact u.stopAtBoundary_idle t hu

theorem State.reqRefused_play (c q : Nat) : (s.reqRefused c).play q = s.play q := State.play_of_blur (s.reqRefused_blur c (Nat.and_self _)) q (by decide)

/-- No mode request starts the play of a tile (R85, R86). -/
theorem State.modeRequest_idle (r : Nat) (now : Bool) {q : Nat} (h : (s.play q).playing = false) : ((s.modeRequest r now).play q).playing = false := by
  unfold State.modeRequest
  split
  · exact h
  split
  · rw [State.reqRefused_play]
    exact h
  · dsimp only
    rw [State.reqRefused_play, State.play_of_blur (s.draw_blur 3 (Nat.and_self _)) q (by decide)]
    exact h
  · dsimp only
    generalize hu : State.wr _ _ _ _ = u
    have huq : (u.play q).playing = false := by
      rw [← hu, State.wr_play, State.wr_play]
      exact h
    have hcore (c : Bool) : ((u.when c fun s => s.each (List.range 17) State.unhalt).play q).playing = false :=
      u.when_induction (P := fun v => (v.play q).playing = false) _ _ huq (u.each_induction (P := fun v => (v.play q).playing = false) _ _ huq fun v n hv => by
        rw [State.play_of_blur (v.unhalt_blur n (Nat.and_self _)) q (by decide)]
        exact hv)
    exact State.when_induction _ (P := fun v => (v.play q).playing = false) _ _ (hcore _) (State.stopTiles_idle _ now (hcore _))

theorem State.groupCheckStop_idle (t : Nat) {q : Nat} (h : (s.play q).playing = false) : ((s.groupCheckStop t).play q).playing = false :=
  s.each_induction (P := fun u => (u.play q).playing = false) _ _ h fun u m hu =>
    u.when_induction (P := fun v => (v.play q).playing = false) _ _ hu (u.stopAsked_idle m 4 hu)

/-! The two parts of a machine check -/

/-- The sequencer halts with its cause, address and information. -/
def State.checkEntered (q cause addr info : Nat) : State :=
  (((((s.wr R.SEQ_STATUS.STATE q 3).setSeq q { s.seq q with waiting := none, draining := false, vsync := false, recovered := false }).releaseHolder q).wr R.SEQ_MC.CAUSE q cause).wr
    R.SEQ_MC.ADDR q addr).wr R.SEQ_MC_INFO.INFO q info

/-- A tile's check has stopped the engine and the lanes, and is logged. -/
def State.checkStopped (q info : Nat) : State := (((s.engineStop q).lanesHalt q).raise (64 + 16 * q)).shard 0x10 (place 2 q) (((s.engineStop q).lanesHalt q).seqMcWord q) info 0

/-- The rest of a machine check: the tile stops, the check is reported, and the other members and the mode follow. -/
def State.checkSpread (q info : Nat) : State :=
  if q = 16 then (s.raise 20).shard 0x11 0x8000 (s.seqMcWord 16) info 0
  else ((s.checkStopped q info).groupCheckStop q).when (((s.checkStopped q info).groupCheckStop q).fl R.DEV_MODE.AUTO_RECOVER 0) (·.modeRequest 2 false)

theorem State.machineCheck_eq {q : Nat} (cause addr info : Nat) (h : s.halted q = false) :
    s.machineCheck q cause addr info = (s.checkEntered q cause addr info).checkSpread q info := by
  unfold State.machineCheck State.checkSpread State.checkStopped State.checkEntered
  rw [if_neg (by simp [h])]

theorem State.checkStopped_blur (q info : Nat) {b : Nat}
    (hb : b &&& 0x400000000000000000000000008000000000000000000000000000000000000000000000000000000000000000000000000000000028003c20000000000000000000000900400000000000001000000000000000000004000001118a0 = 0x400000000000000000000000008000000000000000000000000000000000000000000000000000000000000000000000000000000028003c20000000000000000000000900400000000000001000000000000000000004000001118a0) :
    (s.checkStopped q info).blur b = s.blur b := by
  refine State.blur_mono ?_ hb
  unfold State.checkStopped
  simp (disch := decide) only [State.shard_blur, State.raise_blur, State.lanesHalt_blur, State.engineStop_blur]

theorem State.checkSpread_blur (q info : Nat) {b : Nat}
    (hb : b &&& 0x400000000000000000000000008000000000000000000000000000000000000000000000000000000000000000000000000000000028003c20000009fc0000000000000900400011080000001000000000000000000004000005118a8 = 0x400000000000000000000000008000000000000000000000000000000000000000000000000000000000000000000000000000000028003c20000009fc0000000000000900400011080000001000000000000000000004000005118a8) :
    (s.checkSpread q info).blur b = s.blur b := by
  refine State.blur_mono ?_ hb
  unfold State.checkSpread
  split
  · simp (disch := decide) only [State.shard_blur, State.raise_blur]
  · refine (State.blur_when _ _ _ (State.modeRequest_blur _ 2 false (by decide))).trans ?_
    simp (disch := decide) only [State.groupCheckStop_blur, State.checkStopped_blur]

/-- The tile of a sequencer that a machine check halts stops (R253). -/
theorem State.checkSpread_idle {q : Nat} (info : Nat) (hq : q ≠ 16) : ((s.checkSpread q info).play q).playing = false := by
  have hstop : ((s.checkStopped q info).play q).playing = false := by
    rw [State.checkStopped, State.play_of_blur (State.shard_blur _ _ _ _ _ _ (Nat.and_self _)) q (by decide), State.raise_play,
      State.play_of_blur (State.lanesHalt_blur _ q (Nat.and_self _)) q (by decide)]
    exact s.engineStop_idle q (.inl rfl)
  have hgroup := (s.checkStopped q info).groupCheckStop_idle q hstop
  rw [State.checkSpread, if_neg hq]
  exact State.when_induction _ (P := fun v => (v.play q).playing = false) _ _ hgroup (State.modeRequest_idle _ 2 false hgroup)

/-- With AUTO_RECOVER 0 no machine check asks for a mode (R86). -/
theorem State.checkSpread_mode (q info : Nat) (ha : s.fl R.DEV_MODE.AUTO_RECOVER 0 = false) : (s.checkSpread q info).m = s.m := by
  have hg : ((s.checkStopped q info).groupCheckStop q).blur 0x400000000000000000000000008000000000000000000000000000000000000000000000000000000000000000000000000000000028003c20000000000000000000000900400000000000001000000000000000000004000001118a0 =
      s.blur 0x400000000000000000000000008000000000000000000000000000000000000000000000000000000000000000000000000000000028003c20000000000000000000000900400000000000001000000000000000000004000001118a0 := by
    simp (disch := decide) only [State.groupCheckStop_blur, State.checkStopped_blur]
  have hauto : ((s.checkStopped q info).groupCheckStop q).fl R.DEV_MODE.AUTO_RECOVER 0 = false := by
    rw [State.fl, State.rd_of_blur hg _ _ (by decide)]
    exact ha
  unfold State.checkSpread
  split
  · rw [State.m_of_blur (State.shard_blur _ _ _ _ _ _ (Nat.and_self _)) (by decide), State.raise_m]
  · rw [hauto, State.when_false, State.m_of_blur hg (by decide)]

theorem State.checkEntered_m (q cause addr info : Nat) : (s.checkEntered q cause addr info).m = s.m := by
  unfold State.checkEntered
  simp only [State.wr_m]
  rw [State.m_of_blur (State.releaseHolder_blur _ q (Nat.and_self _)) (by decide), State.setSeq_m, State.wr_m]

theorem State.checkEntered_auto (q cause addr info : Nat) : (s.checkEntered q cause addr info).fl R.DEV_MODE.AUTO_RECOVER 0 = s.fl R.DEV_MODE.AUTO_RECOVER 0 := by
  unfold State.checkEntered
  rw [State.fl, State.wr_rd_key _ _ (by decide), State.wr_rd_key _ _ (by decide), State.wr_rd_key _ _ (by decide),
    State.rd_of_blur (State.releaseHolder_blur _ q (Nat.and_self _)) _ _ (by decide), State.setSeq_rd, State.wr_rd_key _ _ (by decide)]
  rfl

/-- What a machine check leaves: its sequencer HALTED, SEQ_MC and SEQ_MC_INFO, its tile stopped, and the mode where no recovery is asked for. -/
structure State.Checked (s t : State) (q cause addr info : Nat) : Prop where
  state : t.rd R.SEQ_STATUS.STATE q = 3
  cause : t.rd R.SEQ_MC.CAUSE q = cause % 16
  addr : t.rd R.SEQ_MC.ADDR q = addr % 2 ^ R.SEQ_MC.ADDR.width
  info : t.rd R.SEQ_MC_INFO.INFO q = info % 2 ^ R.SEQ_MC_INFO.INFO.width
  tile : q < 16 → (t.play q).playing = false
  mode : s.fl R.DEV_MODE.AUTO_RECOVER 0 = false → t.m = s.m

theorem State.machineCheck_checked {q : Nat} (cause addr info : Nat) (h : s.halted q = false) : s.Checked (s.machineCheck q cause addr info) q cause addr info := by
  obtain ⟨hst, hcause⟩ := s.machineCheck_haltedBy cause addr info h
  have hspread := (s.checkEntered q cause addr info).checkSpread_blur q info (Nat.and_self _)
  have hinfo : (s.machineCheck q cause addr info).rd R.SEQ_MC_INFO.INFO q = info % 2 ^ R.SEQ_MC_INFO.INFO.width := by
    rw [s.machineCheck_eq _ _ _ h, State.rd_of_blur hspread _ _ (by decide), State.checkEntered, State.wr_rd_same]
  have haddr : (s.machineCheck q cause addr info).rd R.SEQ_MC.ADDR q = addr % 2 ^ R.SEQ_MC.ADDR.width := by
    rw [s.machineCheck_eq _ _ _ h, State.rd_of_blur hspread _ _ (by decide), State.checkEntered, State.wr_rd_key _ _ (by decide), State.wr_rd_same]
  refine ⟨of_decide_eq_true hst, hcause, haddr, hinfo, fun hq => ?_, fun ha => ?_⟩
  · rw [s.machineCheck_eq _ _ _ h]
    exact State.checkSpread_idle _ info hq.ne
  · rw [s.machineCheck_eq _ _ _ h, State.checkSpread_mode _ q info ((s.checkEntered_auto ..).trans ha), State.checkEntered_m]

/-- What a machine check leaves stays when only other fields and parts change after it. -/
theorem State.Checked.after {s t u : State} {q cause addr info : Nat} (h : s.Checked t q cause addr info)
    (hrd : ∀ f : Fld, f.key % 1024 ≠ R.SEQ_PC.PC.key → f.key % 1024 ≠ R.SEQ_CNT.VALUE.key → u.rd f q = t.rd f q) (hp : q < 16 → u.play q = t.play q) (hm : u.m = t.m) :
    s.Checked u q cause addr info :=
  ⟨(hrd _ (by decide) (by decide)).trans h.state, (hrd _ (by decide) (by decide)).trans h.cause, (hrd _ (by decide) (by decide)).trans h.addr,
    (hrd _ (by decide) (by decide)).trans h.info, fun hq => (congrArg _ (hp hq)).trans (h.tile hq), fun h0 => hm.trans (h.mode h0)⟩

/-- It also speaks of any state whose mode and AUTO_RECOVER are those before the check. -/
theorem State.Checked.from {s r t : State} {q cause addr info : Nat} (h : s.Checked t q cause addr info) (hm : s.m = r.m)
    (ha : s.fl R.DEV_MODE.AUTO_RECOVER 0 = r.fl R.DEV_MODE.AUTO_RECOVER 0) : r.Checked t q cause addr info :=
  ⟨h.state, h.cause, h.addr, h.info, h.tile, fun h0 => (h.mode (ha.trans h0)).trans hm⟩

/-! The words and the watchdog that raise one -/

theorem State.afterWord_m (q w : Nat) : (s.afterWord q w).m = s.m :=
  s.when_induction (P := fun t => t.m = s.m) _ _ rfl (State.m_of_blur (s.issueNano_blur q _ (Nat.and_self _)) (by decide))

/-- The nano-word of the housekeeping sequencer leaves the tiles alone. -/
theorem State.afterWord_play (q w : Nat) (hq : q < 16) : (s.afterWord q w).play q = s.play q := by
  rw [s.afterWord_eq_self (.inl hq.ne)]

theorem State.seqNext_m (q pc next : Nat) (y : Bool) : (s.seqNext q pc next y).m = s.m := State.m_of_blur (s.seqNext_blur q pc next y (Nat.and_self _)) (by decide)

theorem State.seqNext_play (q pc next : Nat) (y : Bool) (k : Nat) : (s.seqNext q pc next y).play k = s.play k :=
  State.play_of_blur (s.seqNext_blur q pc next y (Nat.and_self _)) k (by decide)

theorem State.acting_m (q w : Nat) : (s.acting q w).m = s.m := by
  have hf : (s.fetched q (s.seq q).next).m = s.m := s.when_induction (P := fun t => t.m = s.m) _ _ rfl rfl
  rcases (s.fetched q (s.seq q).next).afterIssue_cases q w with h | ⟨x, h⟩
  · rw [State.acting, h, hf]
  · rw [State.acting, h, State.setPlay_m, hf]

/-- A fetched word whose action is a machine check at its own address halts its sequencer (R222, R252). -/
theorem done_execMicro_checked {q w cause info : Nat} {p : Nat → Bool} {f : State → Nat → Nat → State × Nat} (h : s.fetches q w) (hp : p w = true)
    (hf : f ((s.withOut []).acting q w) (s.seq q).next w = (((s.withOut []).acting q w).machineCheck q cause (s.seq q).next info, (s.seq q).next)) :
    ∃ t, (done s fun s => s.execMicro q p f) = .next t ∧ s.Checked t q cause (s.seq q).next info := by
  have hrun : ((s.withOut []).acting q w).halted q = false := by
    rw [State.halted, s.withOut_acting_rd q w q (by decide), s.running_of_seqReady h.1]
    rfl
  have hcheck := (((s.withOut []).acting q w).machineCheck_checked cause (s.seq q).next info hrun).from (r := s) ((s.withOut []).acting_m q w)
    (by rw [State.fl, s.withOut_acting_rd q w 0 (by decide)]; rfl)
  refine ⟨_, done_is s (by rw [(s.withOut []).execMicro_eq _ h hp, State.withOut_seq, hf]), hcheck.after (fun f hpc hcnt => ?_) (fun hq => ?_) ?_⟩
  · rw [State.commit_rd, State.seqNext_rd _ _ _ _ _ _ hpc, State.afterWord_rd _ _ _ _ hcnt]
  · rw [State.commit_play, State.seqNext_play, State.afterWord_play _ _ _ hq]
  · rw [State.commit_m, State.seqNext_m, State.afterWord_m]

theorem execMcTrap_checks (q : Fin 17) {w : Nat} (h : s.fetches q.val w) (hp : mwClass w = 13) :
    ∃ t, execMcTrap q s = .next t ∧ s.Checked t q.val 5 (s.seq q.val).next (bits w 0 15) :=
  done_execMicro_checked s h (by simp [isClass, hp]) rfl

theorem execRsvClass_checks (q : Fin 17) {w : Nat} (h : s.fetches q.val w) (hp : isReserved q.val w = true) :
    ∃ t, execRsvClass q s = .next t ∧ s.Checked t q.val 6 (s.seq q.val).next 0 :=
  done_execMicro_checked s h hp rfl

theorem State.halted_eq_false {q : Nat} (h : s.rd R.SEQ_STATUS.STATE q = 1) : s.halted q = false := by
  rw [State.halted, h]
  rfl

theorem State.Checked.committed {s t : State} {q cause addr info : Nat} (h : (s.withOut []).Checked t q cause addr info) : s.Checked (s.commit t) q cause addr info :=
  (h.after (fun _ _ _ => State.commit_rd ..) (fun _ => State.commit_play ..) (State.commit_m ..)).from rfl rfl

/-- 1,024 words since the last yield point halt the sequencer at the address that SEQ_PC shows (R244). -/
theorem execWatchdog_checks (q : Fin 17) (h : s.rd R.SEQ_STATUS.STATE q.val = 1) (hr : 1024 ≤ (s.seq q.val).ran) :
    ∃ t, execWatchdog q s = .next t ∧ s.Checked t q.val 4 (s.rd R.SEQ_PC.PC q.val) 0 := by
  have hc : ((s.withOut []).rd R.SEQ_STATUS.STATE q.val = 1 && decide (1024 ≤ ((s.withOut []).seq q.val).ran)) = true := by
    simp [State.withOut_seq, h, hr]
  exact ⟨_, done_is s (if_pos hc), ((s.withOut []).machineCheck_checked 4 (s.rd R.SEQ_PC.PC q.val) 0 (State.halted_eq_false _ h)).committed⟩

/-- A word with a parity fault halts its sequencer before it acts (R252). -/
theorem execStep_parity (q : Fin 17) (h : s.seqReady q.val = true) (hw : mwClass (s.microWord q.val (s.seq q.val).next) = 0)
    (hb : smGet 0 (s.store q.val).bad (s.seq q.val).next ≠ 0) (hf : s.flashExec q.val = false) :
    ∃ t, execStep q s = .next t ∧ s.Checked t q.val 1 ((s.seq q.val).next % 65536) (smGet 0 (s.store q.val).bad (s.seq q.val).next) := by
  have hrun := State.halted_eq_false s (s.running_of_seqReady h)
  have hcheck := (s.withOut []).machineCheck_checked 1 ((s.seq q.val).next % 65536) (smGet 0 (s.store q.val).bad (s.seq q.val).next) hrun
  have hx (f : State → Nat → Nat → State × Nat) : (s.withOut []).execMicro q.val (isClass 0) f = ((s.withOut []).parityCheck q.val 1 (s.seq q.val).next).wr R.SEQ_PC.PC q.val (s.seq q.val).next := by
    have h1 : (!(s.withOut []).seqReady q.val || !isClass 0 ((s.withOut []).microWord q.val ((s.withOut []).seq q.val).next)) = false := by
      rw [show (s.withOut []).seqReady q.val = true from h, show isClass 0 ((s.withOut []).microWord q.val ((s.withOut []).seq q.val).next) = true from decide_eq_true hw]
      rfl
    have h2 : (smGet 0 ((s.withOut []).store q.val).bad ((s.withOut []).seq q.val).next ≠ 0 && !((s.withOut []).flashExec q.val && ((s.withOut []).seq q.val).next < 8096)) = true := by
      rw [show (s.withOut []).flashExec q.val = false from hf]
      rw [Bool.false_and, Bool.not_false, Bool.and_true]
      exact decide_eq_true hb
    unfold State.execMicro
    rw [if_neg (ne_true_of_eq_false h1), if_pos h2]
    rfl
  refine ⟨_, done_is s (hx _), (hcheck.after (fun f hpc _ => ?_) (fun _ => ?_) ?_).committed⟩
  · exact State.wr_rd_key _ _ hpc
  · exact State.wr_play ..
  · exact State.wr_m ..

end Sys2Proof.Machine

open Sys2Proof Sys2Proof.Machine

/-- Settles O37: each of the four ways into a machine check halts the sequencer with its cause and address and stops its tile. -/
theorem machineChecks : Obligations.MachineChecks := by
  refine ⟨?trap, ?reserved, ?watchdog, ?parity⟩
  case trap =>
    intro s q w h hp
    obtain ⟨t, e, hc⟩ := execMcTrap_checks s q h hp
    have hlt : bits w 0 15 < 2 ^ R.SEQ_MC_INFO.INFO.width := (bits_lt w 0 15).trans (by decide)
    exact ⟨t, e, hc.state, hc.cause, hc.addr, hc.info.trans (Nat.mod_eq_of_lt hlt), hc.tile, hc.mode⟩
  case reserved =>
    intro s q w h hp
    obtain ⟨t, e, hc⟩ := execRsvClass_checks s q h hp
    exact ⟨t, e, hc.state, hc.cause, hc.addr, hc.tile, hc.mode⟩
  case watchdog =>
    intro s q h hr
    obtain ⟨t, e, hc⟩ := execWatchdog_checks s q h hr
    exact ⟨t, e, hc.state, hc.cause, hc.addr, hc.tile⟩
  case parity =>
    intro s q h hw hb hf
    obtain ⟨t, e, hc⟩ := execStep_parity s q h hw hb hf
    have haddr : (s.seq q.val).next % 65536 % 2 ^ R.SEQ_MC.ADDR.width = (s.seq q.val).next % 2 ^ R.SEQ_MC.ADDR.width := Nat.mod_mod_of_dvd _ (by decide)
    exact ⟨t, e, hc.state, hc.cause, hc.addr.trans haddr, hc.tile⟩
end
section
/-! SUPPORT. A write of one part's entry keeps what the state before it kept, as equivalences that simp follows through a chain of updates. -/

namespace Sys2Proof.Machine

variable {s t : State} {l : List Part}

/-- What changes no part but a listed one keeps as much. -/
theorem State.keeps_one {t' : State} {p : Part} (h : ∀ x, x ≠ p → Part.same x t t') (hl : p ∈ l) : s.keeps t' l ↔ s.keeps t l :=
  State.keeps_congr fun x hx => h x fun e => hx (e ▸ hl)

@[simp] theorem State.keeps_setLane (n : Nat) (x : LaneSt) (hl : .lanes ∈ l) : s.keeps (t.setLane n x) l ↔ s.keeps t l :=
  State.keeps_one (fun p hp => by
    cases p
    case lanes => exact absurd rfl hp
    all_goals rfl) hl

@[simp] theorem State.keeps_setDac (k : Nat) (x : DacSt) (hl : .dacs ∈ l) : s.keeps (t.setDac k x) l ↔ s.keeps t l :=
  State.keeps_one (fun p hp => by
    cases p
    case dacs => exact absurd rfl hp
    all_goals rfl) hl

@[simp] theorem State.keeps_setAdc (k : Nat) (x : AdcSt) (hl : .adcs ∈ l) : s.keeps (t.setAdc k x) l ↔ s.keeps t l :=
  State.keeps_one (fun p hp => by
    cases p
    case adcs => exact absurd rfl hp
    all_goals rfl) hl

@[simp] theorem State.keeps_setSmu (k : Nat) (x : SmuSt) (hl : .smus ∈ l) : s.keeps (t.setSmu k x) l ↔ s.keeps t l :=
  State.keeps_one (fun p hp => by
    cases p
    case smus => exact absurd rfl hp
    all_goals rfl) hl

@[simp] theorem State.keeps_setDps (d : Nat) (x : DpsSt) (hl : .dpss ∈ l) : s.keeps (t.setDps d x) l ↔ s.keeps t l :=
  State.keeps_one (fun p hp => by
    cases p
    case dpss => exact absurd rfl hp
    all_goals rfl) hl

@[simp] theorem State.keeps_setPlay (k : Nat) (x : PlaySt) (hl : .plays ∈ l) : s.keeps (t.setPlay k x) l ↔ s.keeps t l :=
  State.keeps_one (fun p hp => by
    cases p
    case plays => exact absurd rfl hp
    all_goals rfl) hl

@[simp] theorem State.keeps_setStore (k : Nat) (x : StoreSt) (hl : .stores ∈ l) : s.keeps (t.setStore k x) l ↔ s.keeps t l :=
  State.keeps_one (fun p hp => by
    cases p
    case stores => exact absurd rfl hp
    all_goals rfl) hl

@[simp] theorem State.keeps_setSeq (q : Nat) (x : SeqSt) (hl : .seqs ∈ l) : s.keeps (t.setSeq q x) l ↔ s.keeps t l :=
  State.keeps_one (fun p hp => by
    cases p
    case seqs => exact absurd rfl hp
    all_goals rfl) hl

@[simp] theorem State.keeps_setTdc (k : Nat) (x : TdcSt) (hl : .tdcs ∈ l) : s.keeps (t.setTdc k x) l ↔ s.keeps t l :=
  State.keeps_one (fun p hp => by
    cases p
    case tdcs => exact absurd rfl hp
    all_goals rfl) hl

@[simp] theorem State.keeps_setAcq (k : Nat) (x : AcqSt) (hl : .acqs ∈ l) : s.keeps (t.setAcq k x) l ↔ s.keeps t l :=
  State.keeps_one (fun p hp => by
    cases p
    case acqs => exact absurd rfl hp
    all_goals rfl) hl

@[simp] theorem State.keeps_setCal (q : Nat) (x : CalSt) (hl : .cals ∈ l) : s.keeps (t.setCal q x) l ↔ s.keeps t l :=
  State.keeps_one (fun p hp => by
    cases p
    case cals => exact absurd rfl hp
    all_goals rfl) hl

@[simp] theorem State.keeps_setQueue (q : Nat) (x : QueueSt) (hl : .hub ∈ l) : s.keeps (t.setQueue q x) l ↔ s.keeps t l :=
  State.keeps_one (fun p hp => by
    cases p
    case hub => exact absurd rfl hp
    all_goals rfl) hl

@[simp] theorem State.keeps_setCtx (c : Nat) (x : CtxSt) (hl : .red ∈ l) : s.keeps (t.setCtx c x) l ↔ s.keeps t l :=
  State.keeps_one (fun p hp => by
    cases p
    case red => exact absurd rfl hp
    all_goals rfl) hl

@[simp] theorem State.keeps_setUnit (c : Nat) (x : Nat) (hl : .spare ∈ l) : s.keeps (t.setUnit c x) l ↔ s.keeps t l :=
  State.keeps_one (fun p hp => by
    cases p
    case spare => exact absurd rfl hp
    all_goals rfl) hl

@[simp] theorem State.keeps_setPort (n : Nat) (x : PortSt) (hl : .time ∈ l) : s.keeps (t.setPort n x) l ↔ s.keeps t l :=
  State.keeps_one (fun p hp => by
    cases p
    case time => exact absurd rfl hp
    all_goals rfl) hl

@[simp] theorem State.keeps_setTev (n : Nat) (x : TevSt) (hl : .time ∈ l) : s.keeps (t.setTev n x) l ↔ s.keeps t l :=
  State.keeps_one (fun p hp => by
    cases p
    case time => exact absurd rfl hp
    all_goals rfl) hl

/-! The same of register fields -/

section
variable {k : List Fld}

@[simp] theorem State.keepsFields_setLane (n : Nat) (x : LaneSt) : s.keepsFields (t.setLane n x) k ↔ s.keepsFields t k := State.keepsFields_regs rfl
@[simp] theorem State.keepsFields_setDac (c : Nat) (x : DacSt) : s.keepsFields (t.setDac c x) k ↔ s.keepsFields t k := State.keepsFields_regs rfl
@[simp] theorem State.keepsFields_setAdc (c : Nat) (x : AdcSt) : s.keepsFields (t.setAdc c x) k ↔ s.keepsFields t k := State.keepsFields_regs rfl
@[simp] theorem State.keepsFields_setSmu (c : Nat) (x : SmuSt) : s.keepsFields (t.setSmu c x) k ↔ s.keepsFields t k := State.keepsFields_regs rfl
@[simp] theorem State.keepsFields_setDps (d : Nat) (x : DpsSt) : s.keepsFields (t.setDps d x) k ↔ s.keepsFields t k := State.keepsFields_regs rfl
@[simp] theorem State.keepsFields_setPlay (c : Nat) (x : PlaySt) : s.keepsFields (t.setPlay c x) k ↔ s.keepsFields t k := State.keepsFields_regs rfl
@[simp] theorem State.keepsFields_setStore (c : Nat) (x : StoreSt) : s.keepsFields (t.setStore c x) k ↔ s.keepsFields t k := State.keepsFields_regs rfl
@[simp] theorem State.keepsFields_setSeq (q : Nat) (x : SeqSt) : s.keepsFields (t.setSeq q x) k ↔ s.keepsFields t k := State.keepsFields_regs rfl
@[simp] theorem State.keepsFields_setTdc (c : Nat) (x : TdcSt) : s.keepsFields (t.setTdc c x) k ↔ s.keepsFields t k := State.keepsFields_regs rfl
@[simp] theorem State.keepsFields_setAcq (c : Nat) (x : AcqSt) : s.keepsFields (t.setAcq c x) k ↔ s.keepsFields t k := State.keepsFields_regs rfl
@[simp] theorem State.keepsFields_setCal (q : Nat) (x : CalSt) : s.keepsFields (t.setCal q x) k ↔ s.keepsFields t k := State.keepsFields_regs rfl
@[simp] theorem State.keepsFields_setQueue (q : Nat) (x : QueueSt) : s.keepsFields (t.setQueue q x) k ↔ s.keepsFields t k := State.keepsFields_regs rfl
@[simp] theorem State.keepsFields_setCtx (c : Nat) (x : CtxSt) : s.keepsFields (t.setCtx c x) k ↔ s.keepsFields t k := State.keepsFields_regs rfl
@[simp] theorem State.keepsFields_setUnit (c : Nat) (x : Nat) : s.keepsFields (t.setUnit c x) k ↔ s.keepsFields t k := State.keepsFields_regs rfl
@[simp] theorem State.keepsFields_setPort (n : Nat) (x : PortSt) : s.keepsFields (t.setPort n x) k ↔ s.keepsFields t k := State.keepsFields_regs rfl
@[simp] theorem State.keepsFields_setTev (n : Nat) (x : TevSt) : s.keepsFields (t.setTev n x) k ↔ s.keepsFields t k := State.keepsFields_regs rfl

end

end Sys2Proof.Machine
end
section
/-! SUPPORT. The WAIT of a sequencer and what ends it (R229, R240 to R243), and O35. -/

namespace Sys2Proof.Machine

variable (s : State)

@[simp] theorem State.withOut_cond (o : List Out) (q n : Nat) : (s.withOut o).cond q n = s.cond q n := rfl
@[simp] theorem State.withOut_waitOf (o : List Out) (q : Nat) : (s.withOut o).waitOf q = s.waitOf q := rfl
@[simp] theorem State.withOut_seqEvents (o : List Out) (q : Nat) : (s.withOut o).seqEvents q = s.seqEvents q := rfl
@[simp] theorem State.withOut_vectorable (o : List Out) (q : Nat) : (s.withOut o).vectorable q = s.vectorable q := rfl
@[simp] theorem State.withOut_operating (o : List Out) : (s.withOut o).operating = s.operating := rfl

/-- The conditions that tell how a WAIT ended (R229). -/
theorem State.cond_timedOut (q : Nat) : s.cond q 30 = (s.seq q).timedOut := rfl
theorem State.cond_woke (q : Nat) : s.cond q 31 = (s.seq q).woke := rfl

/-- What a fetched word does: its own action, a housekeeping nano-word, and the end of the word. -/
theorem done_execMicro_is {q w next : Nat} {u : State} {p : Nat → Bool} {f : State → Nat → Nat → State × Nat} (h : s.fetches q w) (hp : p w = true)
    (hf : f ((s.withOut []).acting q w) (s.seq q).next w = (u, next)) :
    (done s fun s => s.execMicro q p f) = .next (s.commit ((u.afterWord q w).seqNext q (s.seq q).next next (mwYield w))) :=
  done_is s (by rw [(s.withOut []).execMicro_eq f h hp, State.withOut_seq, hf])

/-- A sequencer that no longer runs stays at the address of its last word. -/
theorem State.seqNext_notRunning {q : Nat} (pc next : Nat) (y : Bool) (h : s.rd R.SEQ_STATUS.STATE q ≠ 1) : s.seqNext q pc next y = s.wr R.SEQ_PC.PC q pc := if_pos h

/-- The wait that a WAIT word asks for (R229, R240). -/
def waitOfWord (w : Nat) : WaitSt := { cond := bits w 0 6, pol := bitAt w 6, cen := bitAt w 7, timeout := bits w 8 3 }

/-- A dozing sequencer: WAITING at an address, its latched sources clear. -/
def SeqSt.dozing (x : SeqSt) (wait : WaitSt) (pc : Nat) : SeqSt :=
  { x with waiting := some wait, timedOut := false, woke := false, ran := 0, atYield := true, entered := false, next := pc }

theorem execWait_dozes (q : Fin 17) {w : Nat} (h : s.fetches q.val w) (hp : mwClass w = 6) :
    ∃ t, execWait q s = .next t ∧ t.rd R.SEQ_STATUS.STATE q.val = 2 ∧ t.rd R.SEQ_PC.PC q.val = (s.seq q.val).next % 2 ^ R.SEQ_PC.PC.width ∧
      t.seq q.val = (s.seq q.val).dozing (waitOfWord w) (s.seq q.val).next := by
  obtain ⟨u, hu⟩ : ∃ u, (((s.withOut []).acting q.val w).setSeq q.val ((s.seq q.val).dozing (waitOfWord w) (s.seq q.val).next)).wr R.SEQ_STATUS.STATE q.val 2 = u := ⟨_, rfl⟩
  have hst : (u.afterWord q.val w).rd R.SEQ_STATUS.STATE q.val = 2 := by
    rw [State.afterWord_rd _ _ _ _ (by decide), ← hu, State.wr_rd_same]
    rfl
  have hseq : (u.afterWord q.val w).seq q.val = (s.seq q.val).dozing (waitOfWord w) (s.seq q.val).next := by
    rw [State.afterWord_seq, ← hu, State.wr_seq, State.setSeq_seq_same]
  refine ⟨_, done_execMicro_is s h (by simp [isClass, hp]) (u := u) (next := (s.seq q.val).next) ?_, ?_⟩
  · rw [← hu, State.acting_seq]
    rfl
  · rw [State.seqNext_notRunning _ _ _ _ (by rw [hst]; decide)]
    refine ⟨?_, State.wr_rd_same _ _ _ _, ?_⟩
    · rw [State.commit_rd, State.wr_rd_key _ _ (by decide), hst]
    · rw [State.commit_seq, State.wr_seq, hseq]

/-- What a WAIT that has ended leaves: the sequencer RUNNING after the word, with what the end latched (R240, R243). -/
theorem State.waitEnd_resumes (q : Nat) (f : SeqSt → SeqSt) :
    (s.commit ((s.withOut []).waitEnd q f)).rd R.SEQ_STATUS.STATE q = 1 ∧
      (s.commit ((s.withOut []).waitEnd q f)).seq q = { f (s.seq q) with waiting := none, next := ((f (s.seq q)).next + 1) % 2 ^ 14, ran := 0, atYield := true } ∧
      s.keeps (s.commit ((s.withOut []).waitEnd q f)) [.regs, .seqs] := by
  refine ⟨?_, ?_, State.keeps_commit ?_⟩
  · rw [State.commit_rd, State.waitEnd, State.setSeq_rd, State.wr_rd_same]
    rfl
  · rw [State.commit_seq, State.waitEnd, State.setSeq_seq_same]
    rfl
  · simp [State.waitEnd]

section
variable (q : Fin 17)

theorem execWaitConditionMet_resumes {x : WaitSt} (hw : s.waitOf q.val = some x) (hc : (x.cen && s.cond q.val x.cond == x.pol) = true) :
    execWaitConditionMet q s = .next (s.commit ((s.withOut []).waitEnd q.val id)) :=
  done_is s (by simp only [State.withOut_waitOf, hw, State.withOut_cond, hc, if_true])

theorem execWaitTimeout_resumes {x : WaitSt} (hw : s.waitOf q.val = some x) (ht : x.timeout ≠ 0) :
    execWaitTimeout q s = .next (s.commit ((s.withOut []).waitEnd q.val fun y => { y with timedOut := true })) :=
  done_is s (by simp only [State.withOut_waitOf, hw, if_pos ht])

theorem execWaitWake_resumes {x : WaitSt} (hw : s.waitOf q.val = some x) (ho : s.operating = true) (he : (s.seqEvents q.val).isEmpty = false) (hv : s.vectorable q.val = none) :
    execWaitWake q s = .next (s.commit ((s.withOut []).waitEnd q.val fun y => { y with woke := true })) :=
  done_is s (by simp [hw, ho, he, hv])

theorem execWaitConditionMet_idle (h : (s.waitOf q.val).any (fun x => x.cen && s.cond q.val x.cond == x.pol) = false) : ∃ t, execWaitConditionMet q s = .next t ∧ s.keeps t [] := by
  refine done_idle s ?_
  simp only [State.withOut_waitOf, State.withOut_cond]
  cases hw : s.waitOf q.val with
  | none => rfl
  | some x =>
    rw [hw, Option.any_some] at h
    exact if_neg (ne_true_of_eq_false h)

theorem execWaitTimeout_idle (h : (s.waitOf q.val).any (fun x => decide (x.timeout ≠ 0)) = false) : ∃ t, execWaitTimeout q s = .next t ∧ s.keeps t [] := by
  refine done_idle s ?_
  simp only [State.withOut_waitOf]
  cases hw : s.waitOf q.val with
  | none => rfl
  | some x =>
    rw [hw, Option.any_some, decide_eq_false_iff_not] at h
    exact if_neg h

theorem execWaitWake_idle (h : s.waitOf q.val = none ∨ s.operating = false ∨ (s.seqEvents q.val).isEmpty = true ∨ s.vectorable q.val ≠ none) :
    ∃ t, execWaitWake q s = .next t ∧ s.keeps t [] := by
  refine done_idle s ?_
  simp only [State.withOut_waitOf, State.withOut_operating, State.withOut_seqEvents, State.withOut_vectorable]
  cases hw : s.waitOf q.val with
  | none => rfl
  | some x =>
    rw [hw] at h
    refine if_neg ?_
    obtain h | h | h | h := h
    · cases h
    · simp [h]
    · simp [h]
    · simp [h]

end

end Sys2Proof.Machine

open Sys2Proof Sys2Proof.Machine

/-- Settles O35: a WAIT dozes, and its condition, its timeout or an event that cannot be vectored resumes after it. -/
theorem sequencerWaits : Obligations.SequencerWaits := by
  refine ⟨?dozes, ?met, ?unmet, ?timeout, ?wake, fun s q h => execWaitTimeout_idle s q h, fun s q h => execWaitWake_idle s q h⟩
  case dozes =>
    intro s q w h hp
    obtain ⟨t, e, hst, hpc, hseq⟩ := execWait_dozes s q h hp
    refine ⟨t, e, hst, ?_, ?_, ?_, ?_, hpc⟩ <;> rw [hseq] <;> rfl
  case met =>
    intro s q x hw hc hx
    obtain ⟨hst, hseq, hk⟩ := s.waitEnd_resumes q.val id
    exact ⟨_, execWaitConditionMet_resumes s q hw (by simp [hc, hx]), hst, by rw [hseq]; rfl, by rw [hseq]; rfl, hk⟩
  case unmet => exact fun s q h => execWaitConditionMet_idle s q h
  case timeout =>
    intro s q x hw ht
    obtain ⟨hst, hseq, hk⟩ := s.waitEnd_resumes q.val fun y => { y with timedOut := true }
    exact ⟨_, execWaitTimeout_resumes s q hw ht, hst, by rw [hseq], by rw [hseq], by rw [State.cond_timedOut, hseq], hk⟩
  case wake =>
    intro s q x hw ho he hv
    obtain ⟨hst, hseq, hk⟩ := s.waitEnd_resumes q.val fun y => { y with woke := true }
    exact ⟨_, execWaitWake_resumes s q hw ho he hv, hst, by rw [hseq], by rw [State.cond_woke, hseq], hk⟩
end
section
/-! SUPPORT. The entry of an event, RETE and ATOMIC of a sequencer (R245 to R251), and O36. -/

namespace Sys2Proof.Machine

variable (s : State)

/-- Which event a sequencer takes hangs on the mode, the hub and the registers but the flash's status. -/
theorem State.pick_congr {s t : State} (hm : t.m = s.m) (hh : t.hub = s.hub) (hr : ∀ (f : Fld) (i : Nat), f.key % 1024 ≠ R.FLS_STATUS.RANGE.key → t.rd f i = s.rd f i)
    (q : Nat) (level : Option Nat) (depth : Nat) : t.pick q level depth = s.pick q level depth := by
  have hen (i : Nat) : t.fl R.EVH_SRC_CFG.ENABLE i = s.fl R.EVH_SRC_CFG.ENABLE i := by rw [State.fl, State.fl, hr _ _ (by decide)]
  have htg (i : Nat) := hr R.EVH_SRC_CFG.TARGET i (by decide)
  have hpr (i : Nat) := hr R.EVH_SRC_CFG.PRIORITY i (by decide)
  have hsp := hr R.DEV_PRIO.SPLIT 0 (by decide)
  have hmin := hr R.SEQ_CTL.MIN_GROUP q (by decide)
  have hvec : t.fl R.SEQ_CTL.VEC_EN q = s.fl R.SEQ_CTL.VEC_EN q := by rw [State.fl, State.fl, hr _ _ (by decide)]
  have hev : t.seqEvents q = s.seqEvents q := by
    simp only [State.seqEvents, State.pendingFor, hh, hen, htg]
  have hbest (l : List Nat) : t.bestOf l = s.bestOf l := by
    simp only [State.bestOf, hpr]
  have hgr (n : Nat) : t.srcGroup n = s.srcGroup n := by rw [State.srcGroup, State.srcGroup, hpr, hsp]
  have hop : t.operating = s.operating := by rw [State.operating, State.operating, hm]
  simp only [State.pick, hvec, hop, hev, hbest, hgr, hmin]

/-! The entry of an event (R247) -/

/-- The vector table stands in the sequencer's store. -/
theorem State.vectorSearch_congr {s t : State} {q : Nat} (h : t.store q = s.store q) (n : Nat) : t.vectorSearch q n = s.vectorSearch q n := by
  unfold State.vectorSearch
  rw [h]

/-- No word that the search for an event reads has a parity fault. -/
def State.tableGood (s : State) (q n : Nat) : Prop := ∀ a ∈ (s.vectorSearch q n).1, smGet 0 (s.store q).bad a = 0

/-- Where the vector table sends an event. -/
def State.handlerOf (s : State) (q n : Nat) : Nat := bits (smGet 0 (s.store q).micro (s.vectorSearch q n).2) 0 14

theorem State.tableGood_congr {s t : State} {q n : Nat} (h : t.store q = s.store q) (hg : s.tableGood q n) : t.tableGood q n := by
  unfold State.tableGood
  rw [State.vectorSearch_congr h, h]
  exact hg

theorem State.handlerOf_congr {s t : State} {q n : Nat} (h : t.store q = s.store q) : t.handlerOf q n = s.handlerOf q n := by
  unfold State.handlerOf
  rw [State.vectorSearch_congr h, h]

theorem State.entryRead_good {q n : Nat} (h : s.tableGood q n) :
    s.entryRead q n = s.setSeq q { s.seq q with next := s.handlerOf q n, ran := 0, atYield := false, entered := true } := by
  have hnone : (s.vectorSearch q n).1.filter (fun a => smGet 0 (s.store q).bad a ≠ 0) = [] := List.filter_eq_nil_iff.2 fun a ha => by simpa using h a ha
  unfold State.entryRead
  dsimp only
  rw [hnone]
  rfl

theorem State.entryRead_bad {q n a : Nat} (h : (s.vectorSearch q n).1.filter (fun a => smGet 0 (s.store q).bad a ≠ 0) = [a]) : s.entryRead q n = s.parityCheck q 3 a := by
  unfold State.entryRead
  dsimp only
  rw [h]
  rfl

/-- The state of an entry before it reads the vector table. -/
def State.entryShown (s : State) (q n : Nat) (atomic : Bool) (res : Nat) : State :=
  (((((s.wr R.SEQ_STATUS.IN_HANDLER q 1).wr R.SEQ_STATUS.LEVEL q (s.srcGroup n)).wb R.SEQ_STATUS.IN_FLIGHT q atomic).wr R.SEQ_STATUS.ATOMIC q 0).setSeq q
    { s.seq q with res := 0, inRes := res, src := some n }).resSync q

theorem State.enterTop_eq (q n : Nat) (atomic : Bool) (res : Nat) : s.enterTop q n atomic res = (s.entryShown q n atomic res).entryRead q n := rfl

section
variable (q n : Nat) (atomic : Bool) (res : Nat)

theorem State.entryShown_rd {f : Fld} {i : Nat}
    (h : f.key % 1024 ∉ [R.SEQ_STATUS.IN_HANDLER.key, R.SEQ_STATUS.LEVEL.key, R.SEQ_STATUS.IN_FLIGHT.key, R.SEQ_STATUS.ATOMIC.key, R.SEQ_STATUS.ATOMIC_RES.key]) :
    (s.entryShown q n atomic res).rd f i = s.rd f i := by
  simp only [List.mem_cons, List.not_mem_nil, or_false, not_or] at h
  obtain ⟨h1, h2, h3, h4, h5⟩ := h
  rw [State.entryShown, State.resSync, State.wr_rd_key _ _ h5, State.setSeq_rd, State.wr_rd_key _ _ h4, State.wb, State.wr_rd_key _ _ h3, State.wr_rd_key _ _ h2, State.wr_rd_key _ _ h1]

theorem State.entryShown_inHandler : (s.entryShown q n atomic res).fl R.SEQ_STATUS.IN_HANDLER q = true := by
  simp (disch := decide) [State.entryShown, State.resSync, State.fl]

theorem State.entryShown_atomic : (s.entryShown q n atomic res).fl R.SEQ_STATUS.ATOMIC q = false := by
  simp (disch := decide) [State.entryShown, State.resSync, State.fl]

theorem State.entryShown_seq : (s.entryShown q n atomic res).seq q = { s.seq q with res := 0, inRes := res, src := some n } := by
  simp [State.entryShown, State.resSync]

@[simp] theorem State.entryShown_src (k : Nat) : (s.entryShown q n atomic res).src k = s.src k := rfl
@[simp] theorem State.entryShown_store (k : Nat) : (s.entryShown q n atomic res).store k = s.store k := by
  simp [State.entryShown, State.resSync]

/-- The entry of an event whose table is good: the handler's first word comes next, outside an atomic block (R247, R249). -/
theorem State.enterTop_good (h : s.tableGood q n) :
    s.enterTop q n atomic res = (s.entryShown q n atomic res).setSeq q
      { s.seq q with res := 0, inRes := res, src := some n, next := s.handlerOf q n, ran := 0, atYield := false, entered := true } := by
  rw [State.enterTop_eq, State.entryRead_good _ (State.tableGood_congr (s.entryShown_store q n atomic res q) h), State.entryShown_seq,
    State.handlerOf_congr (s.entryShown_store q n atomic res q)]

end

/-- The state of an entry whose frame is in place (R247). -/
def State.entryFramed (s : State) (q n ret : Nat) : State :=
  (((((((s.claim n q).wr R.SEQ_STACK.RETURN (4 * q + s.rd R.SEQ_STATUS.DEPTH q) ret).wr R.SEQ_STACK.LEVEL (4 * q + s.rd R.SEQ_STATUS.DEPTH q) (s.rd R.SEQ_STATUS.LEVEL q)).wb
    R.SEQ_STACK.BASE (4 * q + s.rd R.SEQ_STATUS.DEPTH q) (!s.fl R.SEQ_STATUS.IN_HANDLER q)).wr R.SEQ_STACK.IN_FLIGHT (4 * q + s.rd R.SEQ_STATUS.DEPTH q) (s.rd R.SEQ_STATUS.IN_FLIGHT q)).wb
    R.SEQ_STACK.ATOMIC (4 * q + s.rd R.SEQ_STATUS.DEPTH q) (s.fl R.SEQ_STATUS.ATOMIC q)).wr R.SEQ_STATUS.DEPTH q (s.rd R.SEQ_STATUS.DEPTH q + 1)).wr R.SEQ_STATUS.STATE q 1 |>.setSeq q
    { s.seq q with waiting := none, frames := (s.seq q).frames ++ [⟨(s.seq q).res, (s.seq q).inRes, (s.seq q).src⟩] }

theorem State.enter_eq (q n ret : Nat) : s.enter q n ret = (s.entryFramed q n ret).enterTop q n (s.fl R.SEQ_STATUS.ATOMIC q) (s.seq q).res := by
  have hrd (f : Fld) (i : Nat) : (s.claim n q).rd f i = s.rd f i := rfl
  have hseq : (s.claim n q).seq q = s.seq q := rfl
  unfold State.enter State.entryFramed
  simp (disch := decide) only [State.fl, State.wb, State.wr_rd_key, hrd, hseq]

section
variable (q n ret : Nat)

theorem State.entryFramed_src : (s.entryFramed q n ret).src n = { s.src n with state := 2, holder := q, levelAtClaim := srcLevel n && (s.src n).live } := by
  rw [State.entryFramed, State.setSeq_src]
  simp [State.claim]

theorem State.entryFramed_state : (s.entryFramed q n ret).rd R.SEQ_STATUS.STATE q = 1 := by
  rw [State.entryFramed, State.setSeq_rd, State.wr_rd_same]
  rfl

theorem State.entryFramed_depth {d : Nat} (hd : s.rd R.SEQ_STATUS.DEPTH q = d) (h4 : d < 4) : (s.entryFramed q n ret).rd R.SEQ_STATUS.DEPTH q = d + 1 := by
  have hlt : (d + 1) % 2 ^ R.SEQ_STATUS.DEPTH.width = d + 1 := Nat.mod_eq_of_lt (lt_of_le_of_lt h4 (by decide))
  simp (disch := decide) [State.entryFramed, hd, hlt]

theorem State.entryFramed_return {d : Nat} (hd : s.rd R.SEQ_STATUS.DEPTH q = d) :
    (s.entryFramed q n ret).rd R.SEQ_STACK.RETURN (4 * q + d) = ret % 2 ^ R.SEQ_STACK.RETURN.width := by
  simp (disch := decide) [State.entryFramed, hd]

@[simp] theorem State.entryFramed_store (k : Nat) : (s.entryFramed q n ret).store k = s.store k := by
  simp [State.entryFramed, State.claim]

end

/-- Where a sequencer stands that may enter an event (R243, R245). -/
def State.mayEnter (s : State) (q : Nat) : Prop :=
  s.rd R.SEQ_STATUS.STATE q = 2 ∨ (s.rd R.SEQ_STATUS.STATE q = 1 ∧ ((s.seq q).atYield = true ∨ ((s.seq q).entered = true ∧ s.operating = true)))

section
variable {q : Fin 17}

theorem execEventVector_enters {n : Nat} (ha : s.alive = true) (hk : s.hkFixed q.val = false) (hr : s.romRuns q.val = false) (hv : s.vectorable q.val = some n) (hm : s.mayEnter q.val) :
    execEventVector q s = .next (s.commit ((s.withOut []).enter q.val n (s.seq q.val).next)) := by
  refine done_is s ?_
  dsimp only
  rw [show (s.withOut []).alive = true from ha, show (s.withOut []).hkFixed q.val = false from hk, show (s.withOut []).romRuns q.val = false from hr, State.withOut_vectorable, hv]
  have hmay : (decide (s.rd R.SEQ_STATUS.STATE q.val = 2) || (decide (s.rd R.SEQ_STATUS.STATE q.val = 1) && ((s.seq q.val).atYield || ((s.seq q.val).entered && s.operating)))) = true := by
    simpa [State.mayEnter] using hm
  exact if_pos hmay

theorem execEventVector_idle (h : s.alive = false ∨ (s.hkFixed q.val = false ∧ (s.romRuns q.val = true ∨ s.vectorable q.val = none ∨ ¬s.mayEnter q.val))) :
    ∃ t, execEventVector q s = .next t ∧ s.keeps t [] := by
  refine done_idle s ?_
  dsimp only
  obtain h | ⟨hk, h⟩ := h
  · rw [show (s.withOut []).alive = false from h]
    rfl
  rw [show (s.withOut []).hkFixed q.val = false from hk, State.withOut_vectorable]
  cases ha : (s.withOut []).alive with
  | false => rfl
  | true =>
    cases hr : (s.withOut []).romRuns q.val with
    | true => rfl
    | false =>
      cases hv : s.vectorable q.val with
      | none => rfl
      | some n =>
        have hm : ¬s.mayEnter q.val := (h.resolve_left (ne_true_of_eq_false hr)).resolve_left (by rw [hv]; exact Option.some_ne_none n)
        have hmay : (decide (s.rd R.SEQ_STATUS.STATE q.val = 2) || (decide (s.rd R.SEQ_STATUS.STATE q.val = 1) && ((s.seq q.val).atYield || ((s.seq q.val).entered && s.operating)))) ≠ true := by
          simpa [State.mayEnter] using hm
        exact if_neg hmay

/-- An entry with a good vector table (R245 to R248). -/
theorem execEventVector_good {n d : Nat} (ha : s.alive = true) (hk : s.hkFixed q.val = false) (hr : s.romRuns q.val = false) (hv : s.vectorable q.val = some n) (hm : s.mayEnter q.val)
    (hd : s.rd R.SEQ_STATUS.DEPTH q.val = d) (h4 : d < 4) (hg : s.tableGood q.val n) :
    ∃ t, execEventVector q s = .next t ∧ (t.src n).state = 2 ∧ (t.src n).holder = q.val ∧ t.rd R.SEQ_STATUS.DEPTH q.val = d + 1 ∧
      t.rd R.SEQ_STACK.RETURN (4 * q.val + d) = (s.seq q.val).next % 2 ^ R.SEQ_STACK.RETURN.width ∧ t.fl R.SEQ_STATUS.IN_HANDLER q.val = true ∧ t.fl R.SEQ_STATUS.ATOMIC q.val = false ∧
      (t.seq q.val).next = s.handlerOf q.val n := by
  have hst : ((s.withOut []).entryFramed q.val n (s.seq q.val).next).store q.val = s.store q.val := State.entryFramed_store ..
  have hg' : ((s.withOut []).entryFramed q.val n (s.seq q.val).next).tableGood q.val n := State.tableGood_congr hst hg
  have hent := (s.withOut []).enter_eq q.val n (s.seq q.val).next
  rw [State.enterTop_good _ _ _ _ _ hg'] at hent
  refine ⟨_, execEventVector_enters s ha hk hr hv hm, ?_⟩
  rw [hent]
  simp only [State.commit_rd, State.commit_src, State.commit_seq, State.commit_fl, State.setSeq_rd, State.setSeq_src, State.setSeq_fl, State.setSeq_seq_same, State.entryShown_src,
    State.entryFramed_src, State.entryShown_inHandler, State.entryShown_atomic, true_and]
  refine ⟨?_, ?_, State.handlerOf_congr hst⟩
  · rw [State.entryShown_rd _ _ _ _ _ (by decide)]
    exact (s.withOut []).entryFramed_depth q.val n _ hd h4
  · rw [State.entryShown_rd _ _ _ _ _ (by decide)]
    exact (s.withOut []).entryFramed_return q.val n _ hd

/-- An entry that meets a parity fault in the vector table (R247, R252). -/
theorem execEventVector_bad {n a : Nat} (ha : s.alive = true) (hk : s.hkFixed q.val = false) (hr : s.romRuns q.val = false) (hv : s.vectorable q.val = some n) (hm : s.mayEnter q.val)
    (hb : ((s.vectorSearch q.val n).1.filter fun e => smGet 0 (s.store q.val).bad e ≠ 0) = [a]) :
    ∃ t, execEventVector q s = .next t ∧ t.rd R.SEQ_STATUS.STATE q.val = 3 ∧ t.rd R.SEQ_MC.CAUSE q.val = 3 ∧ t.rd R.SEQ_MC.ADDR q.val = a % 65536 % 2 ^ R.SEQ_MC.ADDR.width := by
  obtain ⟨u, hu⟩ : ∃ u, ((s.withOut []).entryFramed q.val n (s.seq q.val).next).entryShown q.val n (s.fl R.SEQ_STATUS.ATOMIC q.val) (s.seq q.val).res = u := ⟨_, rfl⟩
  have hst : u.store q.val = s.store q.val := by
    rw [← hu, State.entryShown_store, State.entryFramed_store, State.withOut_store]
  have hent : (s.withOut []).enter q.val n (s.seq q.val).next = u.parityCheck q.val 3 a := by
    rw [State.enter_eq, State.enterTop_eq, State.withOut_fl, State.withOut_seq, hu, State.entryRead_bad]
    rw [State.vectorSearch_congr hst, hst]
    exact hb
  have hrun : u.halted q.val = false := by
    rw [State.halted, ← hu, State.entryShown_rd _ _ _ _ _ (by decide), State.entryFramed_state]
    rfl
  have hc := u.machineCheck_checked 3 (a % 65536) (smGet 0 (u.store q.val).bad a) hrun
  refine ⟨_, execEventVector_enters s ha hk hr hv hm, ?_⟩
  rw [hent]
  exact ⟨hc.state, hc.cause, hc.addr⟩

end

/-! The return (R249) -/

@[simp] theorem State.release_rd (n : Nat) (f : Fld) (i : Nat) : (s.release n).rd f i = s.rd f i := by
  rw [State.rd, State.rd, State.regs_of_blur (s.release_blur n (Nat.and_self _)) rfl]

@[simp] theorem State.release_fl (n : Nat) (f : Fld) (i : Nat) : (s.release n).fl f i = s.fl f i := by
  rw [State.fl, State.fl, State.release_rd]

@[simp] theorem State.release_seq (n k : Nat) : (s.release n).seq k = s.seq k := by
  rw [State.seq, State.seq, State.seqs_of_blur (s.release_blur n (Nat.and_self _)) (by decide)]

@[simp] theorem State.release_store (n k : Nat) : (s.release n).store k = s.store k := by
  rw [State.store, State.store, State.stores_of_blur (s.release_blur n (Nat.and_self _)) (by decide)]

@[simp] theorem State.release_operating (n : Nat) : (s.release n).operating = s.operating := by
  rw [State.operating, State.operating, State.m_of_blur (s.release_blur n (Nat.and_self _)) (by decide)]

/-- A claimed edge source with no arrival counted is IDLE once released (R417). -/
theorem State.release_idle {n : Nat} (hs : (s.src n).state = 2) (hl : srcLevel n = false) (hc : (s.src n).count = 0) : ((s.release n).src n).state = 0 := by
  simp [State.release, hs, hl, hc]

/-- The registers of a frame of the return stack. -/
def frameFlds : List Fld := [R.SEQ_STACK.RETURN, R.SEQ_STACK.LEVEL, R.SEQ_STACK.BASE, R.SEQ_STACK.IN_FLIGHT, R.SEQ_STACK.ATOMIC]

/-- The state that an exit restores from frame d of the stack. -/
def State.frameRestored (s : State) (q d : Nat) (fr : FrameSt) (l : List FrameSt) : State :=
  ((frameFlds.foldl (fun s f => s.wr f (4 * q + d) 0)
    ((((s.wb R.SEQ_STATUS.IN_HANDLER q (!s.fl R.SEQ_STACK.BASE (4 * q + d))).wr R.SEQ_STATUS.LEVEL q
      (if s.fl R.SEQ_STACK.BASE (4 * q + d) then 0 else s.rd R.SEQ_STACK.LEVEL (4 * q + d))).wr R.SEQ_STATUS.IN_FLIGHT q (s.rd R.SEQ_STACK.IN_FLIGHT (4 * q + d))).wr
      R.SEQ_STATUS.ATOMIC q (s.rd R.SEQ_STACK.ATOMIC (4 * q + d)))).wr R.SEQ_STATUS.DEPTH q d).setSeq q
    { s.seq q with frames := l, res := fr.res, inRes := fr.inRes, src := fr.src } |>.resSync q

theorem State.frameRestored_inHandler (q d : Nat) (fr : FrameSt) (l : List FrameSt) :
    (s.frameRestored q d fr l).fl R.SEQ_STATUS.IN_HANDLER q = !s.fl R.SEQ_STACK.BASE (4 * q + d) := by
  simp (disch := decide) [State.frameRestored, frameFlds, State.resSync]

/-- The event that qualifies as an exit ends (R245, R249). -/
def State.exitHit (s : State) (q d : Nat) : Option Nat := s.pick q (if s.operating then s.frameLevel (4 * q + d) else none) (if s.operating then d + 1 else d)

section
variable {q d : Nat} (pc : Nat) (hd : s.rd R.SEQ_STATUS.DEPTH q = d + 1)
include hd

theorem State.rete_restores {n : Nat} {fr : FrameSt} {l : List FrameSt} (hp : s.exitHit q d = none) (hs : (s.seq q).src = some n) (hf : (s.seq q).frames = l ++ [fr]) :
    s.rete q pc = ((s.release n).frameRestored q d fr l, s.rd R.SEQ_STACK.RETURN (4 * q + d)) := by
  unfold State.exitHit at hp
  unfold State.rete
  rw [if_neg (by rw [hd]; exact Nat.succ_ne_zero d)]
  simp only [hd, Nat.add_sub_cancel, hp, hs, hf, List.getLast?_concat, Option.getD_some, List.dropLast_concat]
  simp (disch := decide) [State.frameRestored, frameFlds, State.fl, State.wb]

end

theorem State.rete_underflow {q : Nat} (pc : Nat) (hd : s.rd R.SEQ_STATUS.DEPTH q = 0) : s.rete q pc = (s.machineCheck q 7 pc 0, pc) := if_pos hd

/-- The state of an exit once its handler's source is released (R249). -/
def State.exitReleased (s : State) (q : Nat) : State :=
  match (s.seq q).src with
  | some n => s.release n
  | none => s

theorem State.exitReleased_cases (q : Nat) : s.exitReleased q = s ∨ ∃ n, s.exitReleased q = s.release n := by
  unfold State.exitReleased
  split
  · exact .inr ⟨_, rfl⟩
  · exact .inl rfl

@[simp] theorem State.exitReleased_rd (q : Nat) (f : Fld) (i : Nat) : (s.exitReleased q).rd f i = s.rd f i := by
  rcases s.exitReleased_cases q with h | ⟨n, h⟩ <;> simp [h]

@[simp] theorem State.exitReleased_seq (q k : Nat) : (s.exitReleased q).seq k = s.seq k := by
  rcases s.exitReleased_cases q with h | ⟨n, h⟩ <;> simp [h]

@[simp] theorem State.exitReleased_store (q k : Nat) : (s.exitReleased q).store k = s.store k := by
  rcases s.exitReleased_cases q with h | ⟨n, h⟩ <;> simp [h]

/-- The state of an exit that becomes an entry, before it reads the vector table (R249). -/
def State.exitClaimed (s : State) (q n : Nat) : State := (s.exitReleased q).claim n q

/-- An exit at which an event qualifies becomes its entry (R249). -/
theorem State.rete_enters {q d n : Nat} (pc : Nat) (hd : s.rd R.SEQ_STATUS.DEPTH q = d + 1) (hp : s.exitHit q d = some n) :
    ∃ atomic res, s.rete q pc = ((s.exitClaimed q n).enterTop q n atomic res, (((s.exitClaimed q n).enterTop q n atomic res).seq q).next) := by
  unfold State.exitHit at hp
  unfold State.rete
  rw [if_neg (by rw [hd]; exact Nat.succ_ne_zero d)]
  simp only [hd, Nat.add_sub_cancel, hp]
  exact ⟨_, _, rfl⟩

/-! What follows the action of a word -/

@[simp] theorem State.afterWord_src (q w k : Nat) : (s.afterWord q w).src k = s.src k := by
  by_cases hq : q = 16
  · subst hq
    refine s.when_induction (P := fun t => t.src k = s.src k) _ _ rfl (s.issueNano_hk_induction (P := fun t => t.src k = s.src k) _ rfl (fun t j e => ?_) fun _ _ e => e)
    rcases t.cntNano_cases 16 j _ with h | ⟨v, h⟩
    · rw [h, e]
    · rw [h, State.wr_src, e]
  · rw [s.afterWord_eq_self (.inl hq)]

@[simp] theorem State.seqNext_src (q pc next : Nat) (y : Bool) (k : Nat) : (s.seqNext q pc next y).src k = s.src k := by
  rw [State.src, State.src, State.hub_of_blur (s.seqNext_blur q pc next y (Nat.and_self _)) (by decide)]

/-- What a word leaves once its action is `u` and its next address `next`. -/
def State.wordEnded (u : State) (q w pc next : Nat) : State := (u.afterWord q w).seqNext q pc next (mwYield w)

theorem State.wordEnded_rd (q w pc next : Nat) {f : Fld} (i : Nat) (hpc : f.key % 1024 ≠ R.SEQ_PC.PC.key) (hcnt : f.key % 1024 ≠ R.SEQ_CNT.VALUE.key) :
    (s.wordEnded q w pc next).rd f i = s.rd f i := by
  rw [State.wordEnded, State.seqNext_rd _ _ _ _ _ _ hpc, State.afterWord_rd _ _ _ _ hcnt]

@[simp] theorem State.wordEnded_src (q w pc next k : Nat) : (s.wordEnded q w pc next).src k = s.src k := by
  rw [State.wordEnded, State.seqNext_src, State.afterWord_src]

theorem State.wordEnded_seq {q : Nat} (w pc next : Nat) (h : s.rd R.SEQ_STATUS.STATE q = 1) :
    (s.wordEnded q w pc next).seq q = { s.seq q with next := next % 2 ^ 14, ran := if mwYield w then 0 else (s.seq q).ran + 1, atYield := mwYield w, entered := false } := by
  rw [State.wordEnded, State.seqNext_seq _ _ _ _ ((s.afterWord_rd q w q (by decide)).trans h), State.afterWord_seq]

/-- A word that leaves its sequencer running, with its count as it was, goes on. -/
theorem State.wordEnded_wentOn {u : State} {q w next : Nat} (hst : u.rd R.SEQ_STATUS.STATE q = 1) (hran : (u.seq q).ran = (s.seq q).ran) :
    s.wentOn (s.commit (u.wordEnded q w (s.seq q).next next)) q w next := by
  have hseq := u.wordEnded_seq w (s.seq q).next next hst
  refine ⟨?_, ?_, ?_, ?_, ?_⟩
  · exact State.seqNext_pc ..
  · exact (u.wordEnded_rd q w _ next q (by decide) (by decide)).trans hst
  · rw [State.commit_seq, hseq]
  · rw [State.commit_seq, hseq, hran]
  · rw [State.commit_seq, hseq]

@[simp] theorem State.acting_hub (q w : Nat) : (s.acting q w).hub = s.hub := by
  have hf : (s.fetched q (s.seq q).next).hub = s.hub := s.when_induction (P := fun t => t.hub = s.hub) _ _ rfl rfl
  rcases (s.fetched q (s.seq q).next).afterIssue_cases q w with h | ⟨x, h⟩
  · rw [State.acting, h, hf]
  · rw [State.acting, h, State.setPlay_hub, hf]

theorem State.acting_src (q w k : Nat) : (s.acting q w).src k = s.src k := by rw [State.src, State.src, State.acting_hub]

theorem State.acting_exitHit (q w d : Nat) : ((s.withOut []).acting q w).exitHit q d = s.exitHit q d := by
  have hrd (f : Fld) (i : Nat) (h : f.key % 1024 ≠ R.FLS_STATUS.RANGE.key) := s.withOut_acting_rd q w (f := f) i h
  have hm : ((s.withOut []).acting q w).m = s.m := (s.withOut []).acting_m q w
  have hpick := State.pick_congr hm ((s.withOut []).acting_hub q w) hrd q
  have hlvl : ((s.withOut []).acting q w).frameLevel (4 * q + d) = s.frameLevel (4 * q + d) := by
    rw [State.frameLevel, State.frameLevel, State.fl, State.fl, hrd _ _ (by decide), hrd _ _ (by decide)]
  have hop : ((s.withOut []).acting q w).operating = s.operating := by rw [State.operating, State.operating, hm]
  rw [State.exitHit, State.exitHit, hpick, hlvl, hop]

section
variable {q : Fin 17} {w : Nat} {u : State} {next : Nat} (h : s.fetches q.val w) (hp : mwClass w = 10) (hr : ((s.withOut []).acting q.val w).rete q.val (s.seq q.val).next = (u, next))
include h hp hr

theorem execMicro_rete : (s.withOut []).execMicro q.val (isClass 10) (fun s pc _ => s.rete q.val pc) = u.wordEnded q.val w (s.seq q.val).next next := by
  rw [(s.withOut []).execMicro_eq _ h (by simp [isClass, hp]), State.withOut_seq, hr]
  rfl

/-- A RETE whose sequencer runs on: its count restarts, and it stands at no yield point (R249). -/
theorem execRete_runs (hst : u.rd R.SEQ_STATUS.STATE q.val = 1) :
    ∃ direct, execRete q s = .next (s.commit ((u.wordEnded q.val w (s.seq q.val).next next).setSeq q.val
      { (u.wordEnded q.val w (s.seq q.val).next next).seq q.val with ran := 0, atYield := false, entered := direct })) := by
  have hrun : (u.wordEnded q.val w (s.seq q.val).next next).rd R.SEQ_STATUS.STATE q.val = 1 := (State.wordEnded_rd _ _ _ _ _ _ (by decide) (by decide)).trans hst
  refine ⟨decide ((u.wordEnded q.val w (s.seq q.val).next next).rd R.SEQ_STATUS.DEPTH q.val = s.rd R.SEQ_STATUS.DEPTH q.val), done_is s ?_⟩
  dsimp only
  rw [execMicro_rete s h hp hr]
  refine if_pos ?_
  rw [show (s.withOut []).seqReady q.val = true from h.1, show (s.withOut []).microWord q.val ((s.withOut []).seq q.val).next = w from h.2.1, hrun]
  simp [isClass, hp]

theorem execRete_halts (hst : u.rd R.SEQ_STATUS.STATE q.val ≠ 1) : execRete q s = .next (s.commit (u.wordEnded q.val w (s.seq q.val).next next)) := by
  have hrun : (u.wordEnded q.val w (s.seq q.val).next next).rd R.SEQ_STATUS.STATE q.val ≠ 1 := by
    rwa [State.wordEnded_rd _ _ _ _ _ _ (by decide) (by decide)]
  refine done_is s ?_
  dsimp only
  rw [execMicro_rete s h hp hr]
  exact if_neg (by simp [hrun])

end

section
variable {q : Fin 17} {w : Nat} (h : s.fetches q.val w)
include h

theorem State.acting_running : ((s.withOut []).acting q.val w).rd R.SEQ_STATUS.STATE q.val = 1 :=
  (s.withOut_acting_rd q.val w q.val (by decide)).trans (s.running_of_seqReady h.1)

section
variable (hp : mwClass w = 10) {d : Nat}
include hp

/-- The restored frame: DEPTH, the level and the source are those of the interrupted context (R249). -/
theorem execRete_restores (hd : s.rd R.SEQ_STATUS.DEPTH q.val = d + 1) (h4 : d < 4) (hhit : s.exitHit q.val d = none) {n : Nat} (hs : (s.seq q.val).src = some n) (hn : (s.src n).state = 2)
    (hl : srcLevel n = false) (hc : (s.src n).count = 0) {fr : FrameSt} {l : List FrameSt} (hf : (s.seq q.val).frames = l ++ [fr]) :
    ∃ t, execRete q s = .next t ∧ (t.src n).state = 0 ∧ t.rd R.SEQ_STATUS.DEPTH q.val = d ∧ (t.seq q.val).next = s.rd R.SEQ_STACK.RETURN (4 * q.val + d) % 2 ^ 14 ∧
      (t.seq q.val).frames = l ∧ (t.seq q.val).src = fr.src ∧ t.fl R.SEQ_STATUS.IN_HANDLER q.val = !s.fl R.SEQ_STACK.BASE (4 * q.val + d) ∧ (t.seq q.val).atYield = false := by
  obtain ⟨a, ha⟩ : ∃ a, (s.withOut []).acting q.val w = a := ⟨_, rfl⟩
  have hrd (f : Fld) (i : Nat) (hk : f.key % 1024 ≠ R.FLS_STATUS.RANGE.key) : a.rd f i = s.rd f i := ha ▸ s.withOut_acting_rd q.val w i hk
  have hseq : a.seq q.val = s.seq q.val := ha ▸ (s.withOut []).acting_seq q.val w q.val
  have hsrc : a.src n = s.src n := ha ▸ (s.withOut []).acting_src q.val w n
  have hret := a.rete_restores (s.seq q.val).next ((hrd _ _ (by decide)).trans hd) (ha ▸ (s.acting_exitHit q.val w d).trans hhit) (hseq ▸ hs) (hseq ▸ hf)
  have hst : ((a.release n).frameRestored q.val d fr l).rd R.SEQ_STATUS.STATE q.val = 1 := by
    simp (disch := decide) [State.frameRestored, frameFlds, State.resSync, hrd, s.running_of_seqReady h.1]
  obtain ⟨direct, e⟩ := execRete_runs s h hp (by rw [ha]; exact hret) hst
  refine ⟨_, e, ?_⟩
  have hd8 : d % 2 ^ R.SEQ_STATUS.DEPTH.width = d := Nat.mod_eq_of_lt (h4.trans (by decide))
  simp only [State.commit_src, State.commit_rd, State.commit_fl, State.commit_seq, State.setSeq_src, State.setSeq_rd, State.setSeq_fl, State.setSeq_seq_same, State.wordEnded_src, State.wordEnded_seq _ _ _ _ hst,
    and_true]
  rw [State.fl, State.wordEnded_rd _ _ _ _ _ _ (by decide) (by decide), State.wordEnded_rd _ _ _ _ _ _ (by decide) (by decide)]
  have hidle : ((a.release n).src n).state = 0 := a.release_idle (hsrc ▸ hn) hl (hsrc ▸ hc)
  refine ⟨?_, ?_, ?_, ?_, ?_, ?_⟩
  · simpa [State.frameRestored, frameFlds, State.resSync] using hidle
  · simp (disch := decide) [State.frameRestored, frameFlds, State.resSync, hd8]
  · rw [hrd _ _ (by decide)]
  · simp [State.frameRestored, frameFlds, State.resSync]
  · simp [State.frameRestored, frameFlds, State.resSync]
  · rw [← State.fl, State.frameRestored_inHandler, State.release_fl, State.fl, State.fl, hrd _ _ (by decide)]

/-- An exit at which another event qualifies enters its handler in the same frame (R249). -/
theorem execRete_enters (hd : s.rd R.SEQ_STATUS.DEPTH q.val = d + 1) {m : Nat} (hhit : s.exitHit q.val d = some m) (hg : s.tableGood q.val m) :
    ∃ t, execRete q s = .next t ∧ (t.src m).state = 2 ∧ (t.src m).holder = q.val ∧ t.rd R.SEQ_STATUS.DEPTH q.val = d + 1 ∧ t.fl R.SEQ_STATUS.IN_HANDLER q.val = true ∧
      (t.seq q.val).src = some m ∧ (t.seq q.val).frames = (s.seq q.val).frames ∧ (t.seq q.val).next = s.handlerOf q.val m := by
  obtain ⟨a, ha⟩ : ∃ a, (s.withOut []).acting q.val w = a := ⟨_, rfl⟩
  have hrd (f : Fld) (i : Nat) (hk : f.key % 1024 ≠ R.FLS_STATUS.RANGE.key) : a.rd f i = s.rd f i := ha ▸ s.withOut_acting_rd q.val w i hk
  have hseq : a.seq q.val = s.seq q.val := ha ▸ (s.withOut []).acting_seq q.val w q.val
  obtain ⟨atomic, res, hret⟩ := a.rete_enters (s.seq q.val).next ((hrd _ _ (by decide)).trans hd) (ha ▸ (s.acting_exitHit q.val w d).trans hhit)
  obtain ⟨c, hc⟩ : ∃ c, a.exitClaimed q.val m = c := ⟨_, rfl⟩
  have hcrd (f : Fld) (i : Nat) : c.rd f i = a.rd f i := hc ▸ a.exitReleased_rd q.val f i
  have hcseq : c.seq q.val = s.seq q.val := hc ▸ (a.exitReleased_seq q.val q.val).trans hseq
  have hcstore : c.store q.val = s.store q.val := hc ▸ (a.exitReleased_store q.val q.val).trans (ha ▸ (s.withOut []).acting_store q.val w q.val)
  have hcsrc : (c.src m).state = 2 ∧ (c.src m).holder = q.val := by simp [← hc, State.exitClaimed, State.claim]
  rw [hc, State.enterTop_good _ _ _ _ _ (State.tableGood_congr hcstore hg), State.setSeq_seq_same, State.handlerOf_congr hcstore] at hret
  obtain ⟨u, hu⟩ : ∃ u, (c.entryShown q.val m atomic res).setSeq q.val
    { c.seq q.val with res := 0, inRes := res, src := some m, next := s.handlerOf q.val m, ran := 0, atYield := false, entered := true } = u := ⟨_, rfl⟩
  rw [hu] at hret
  have hst : u.rd R.SEQ_STATUS.STATE q.val = 1 := by
    rw [← hu, State.setSeq_rd, State.entryShown_rd _ _ _ _ _ (by decide), hcrd, hrd _ _ (by decide), s.running_of_seqReady h.1]
  obtain ⟨direct, e⟩ := execRete_runs s h hp (by rw [ha]; exact hret) hst
  refine ⟨_, e, ?_⟩
  simp only [State.commit_src, State.commit_rd, State.commit_fl, State.commit_seq, State.setSeq_src, State.setSeq_rd, State.setSeq_fl, State.setSeq_seq_same, State.wordEnded_src, State.wordEnded_seq _ _ _ _ hst]
  rw [State.fl, State.wordEnded_rd _ _ _ _ _ _ (by decide) (by decide), State.wordEnded_rd _ _ _ _ _ _ (by decide) (by decide), ← hu, State.setSeq_src, State.entryShown_src, State.setSeq_rd,
    State.entryShown_rd _ _ _ _ _ (by decide), hcrd, hrd _ _ (by decide), hd, State.setSeq_seq_same, hcseq, State.setSeq_rd, ← State.fl_eq, State.entryShown_inHandler]
  exact ⟨hcsrc.1, hcsrc.2, rfl, rfl, rfl, rfl, Nat.mod_eq_of_lt (bits_lt _ _ _)⟩

/-- A RETE with an empty stack is a machine check (R249, R252). -/
theorem execRete_underflow (hd : s.rd R.SEQ_STATUS.DEPTH q.val = 0) :
    ∃ t, execRete q s = .next t ∧ t.rd R.SEQ_STATUS.STATE q.val = 3 ∧ t.rd R.SEQ_MC.CAUSE q.val = 7 ∧ t.rd R.SEQ_MC.ADDR q.val = (s.seq q.val).next % 2 ^ R.SEQ_MC.ADDR.width := by
  have hret := ((s.withOut []).acting q.val w).rete_underflow (s.seq q.val).next ((s.withOut_acting_rd q.val w q.val (by decide)).trans hd)
  have hc := ((s.withOut []).acting q.val w).machineCheck_checked 7 (s.seq q.val).next 0 (State.halted_eq_false _ (s.acting_running h))
  refine ⟨_, execRete_halts s h hp hret (by rw [hc.state]; decide), ?_⟩
  simp only [State.commit_rd]
  rw [State.wordEnded_rd _ _ _ _ _ _ (by decide) (by decide), State.wordEnded_rd _ _ _ _ _ _ (by decide) (by decide), State.wordEnded_rd _ _ _ _ _ _ (by decide) (by decide)]
  exact ⟨hc.state, hc.cause, hc.addr⟩

end

/-! Atomic blocks (R251) -/

/-- A word that only sets ATOMIC and the block's resources goes on. -/
theorem done_atomic {p : Nat → Bool} {f : State → Nat → Nat → State × Nat} {b r : Nat} (hp : p w = true)
    (hf : f ((s.withOut []).acting q.val w) (s.seq q.val).next w =
      (((((s.withOut []).acting q.val w).wr R.SEQ_STATUS.ATOMIC q.val b).setSeq q.val { ((s.withOut []).acting q.val w).seq q.val with res := r }).resSync q.val, (s.seq q.val).next + 1)) :
    ∃ t, (done s fun s => s.execMicro q.val p f) = .next t ∧ t.rd R.SEQ_STATUS.ATOMIC q.val = b % 2 ^ R.SEQ_STATUS.ATOMIC.width ∧ (t.seq q.val).res = r ∧
      s.wentOn t q.val w ((s.seq q.val).next + 1) := by
  obtain ⟨u, hu⟩ : ∃ u, ((((s.withOut []).acting q.val w).wr R.SEQ_STATUS.ATOMIC q.val b).setSeq q.val { ((s.withOut []).acting q.val w).seq q.val with res := r }).resSync q.val = u := ⟨_, rfl⟩
  have hst : u.rd R.SEQ_STATUS.STATE q.val = 1 := by
    rw [← hu, State.resSync, State.wr_rd_key _ _ (by decide), State.setSeq_rd, State.wr_rd_key _ _ (by decide), s.acting_running h]
  have hat : u.rd R.SEQ_STATUS.ATOMIC q.val = b % 2 ^ R.SEQ_STATUS.ATOMIC.width := by
    rw [← hu, State.resSync, State.wr_rd_key _ _ (by decide), State.setSeq_rd, State.wr_rd_same]
  have hseq : u.seq q.val = { s.seq q.val with res := r } := by
    rw [← hu, State.resSync, State.wr_seq, State.setSeq_seq_same, State.acting_seq]
    rfl
  refine ⟨_, done_execMicro_is s h hp (hf.trans (by rw [hu])), ?_, ?_, s.wordEnded_wentOn hst (by rw [hseq])⟩
  · exact (State.wordEnded_rd _ _ _ _ _ _ (by decide) (by decide)).trans hat
  · exact congrArg SeqSt.res ((State.wordEnded_seq u w _ _ hst).trans (by rw [hseq]))

theorem execAtomicBegin_sets (hp : isAtomic true w = true) :
    ∃ t, execAtomicBegin q s = .next t ∧ t.fl R.SEQ_STATUS.ATOMIC q.val = true ∧ (t.seq q.val).res = Nat.lor (s.seq q.val).res (bits w 0 8) ∧ s.wentOn t q.val w ((s.seq q.val).next + 1) := by
  obtain ⟨t, e, hat, hres, hw⟩ := done_atomic s h (f := fun s pc w => (((s.wr R.SEQ_STATUS.ATOMIC q.val 1).setSeq q.val { s.seq q.val with res := Nat.lor (s.seq q.val).res (bits w 0 8) }).resSync q.val, pc + 1))
    (b := 1) hp rfl
  exact ⟨t, e, by rw [State.fl, hat]; rfl, hres.trans (by rw [State.acting_seq]; rfl), hw⟩

theorem execAtomicEnd_clears (hp : isAtomic false w = true) :
    ∃ t, execAtomicEnd q s = .next t ∧ t.fl R.SEQ_STATUS.ATOMIC q.val = false ∧ (t.seq q.val).res = 0 ∧ s.wentOn t q.val w ((s.seq q.val).next + 1) := by
  obtain ⟨t, e, hat, hres, hw⟩ := done_atomic s h (f := fun s pc _ => (((s.wr R.SEQ_STATUS.ATOMIC q.val 0).setSeq q.val { s.seq q.val with res := 0 }).resSync q.val, pc + 1)) (b := 0) hp rfl
  exact ⟨t, e, by rw [State.fl, hat]; rfl, hres, hw⟩

end

end Sys2Proof.Machine

open Sys2Proof Sys2Proof.Machine

/-- Settles O36: an entry claims its source and stacks its return, an exit restores the frame or becomes an entry, and ATOMIC words set and end a block. -/
theorem sequencerEvents : Obligations.SequencerEvents := by
  refine ⟨?enters, ?tableFault, ?idle, ?restores, ?direct, ?underflow, fun s q w h hp => execAtomicBegin_sets s h hp, fun s q w h hp => execAtomicEnd_clears s h hp⟩
  case enters => exact fun s q n d ha hk hr hv hm hd h4 hg => execEventVector_good s ha hk hr hv hm hd h4 hg
  case tableFault =>
    intro s q n a ha hk hr hv hm _ hb
    obtain ⟨t, e, hst, hc, haddr⟩ := execEventVector_bad s ha hk hr hv hm hb
    have hmod : a % 65536 % 2 ^ R.SEQ_MC.ADDR.width = a % 2 ^ R.SEQ_MC.ADDR.width := Nat.mod_mod_of_dvd _ (by decide)
    exact ⟨t, e, hst, hc, haddr.trans hmod⟩
  case idle => exact fun s q h => execEventVector_idle s h
  case restores => exact fun s q w n d fr l h hp hd h4 hhit hs hn hl hc hf => execRete_restores s h hp hd h4 hhit hs hn hl hc hf
  case direct => exact fun s q w m d h hp hd _ hhit _ hg => execRete_enters s h hp hd hhit hg
  case underflow => exact fun s q w h hp hd => execRete_underflow s h hp hd
end
section
/-! SUPPORT. The micro-words of flow (R222, R231, R232), and O32. -/

namespace Sys2Proof.Machine

variable (s : State)

/-- Only the housekeeping sequencer fetches from the flash (R260). -/
theorem State.fetched_tile {q : Nat} (a : Nat) (h : q ≠ 16) : s.fetched q a = s := by
  have hf : s.flashExec q = false := by simp [State.flashExec, h]
  rw [State.fetched, hf, Bool.false_and, Bool.false_and, Bool.false_and, State.when_false]

@[simp] theorem State.fetched_hub (q a : Nat) : (s.fetched q a).hub = s.hub := s.when_induction (P := fun t => t.hub = s.hub) _ _ rfl rfl
@[simp] theorem State.fetched_time (q a : Nat) : (s.fetched q a).time = s.time := s.when_induction (P := fun t => t.time = s.time) _ _ rfl rfl

theorem State.fetched_fl (q a : Nat) {f : Fld} (i : Nat) (h : f.key % 1024 ≠ R.FLS_STATUS.RANGE.key) : (s.fetched q a).fl f i = s.fl f i := by
  rw [State.fl, State.fl, State.fetched_rd _ _ _ _ h]

theorem State.fetched_seqEvents (q a k : Nat) : (s.fetched q a).seqEvents k = s.seqEvents k := by
  have hen (i : Nat) := s.fetched_fl q a (f := R.EVH_SRC_CFG.ENABLE) i (by decide)
  have htg (i : Nat) := s.fetched_rd q a (f := R.EVH_SRC_CFG.TARGET) i (by decide)
  simp only [State.seqEvents, State.pendingFor, State.fetched_hub, hen, htg]

/-- A fetch changes no condition of its sequencer (R229, R499). -/
theorem State.fetched_cond (q a n : Nat) : (s.fetched q a).cond q n = s.cond q n := by
  by_cases hq : q = 16
  · subst hq
    have hcnt (i : Nat) := s.fetched_rd 16 a (f := R.SEQ_CNT.VALUE) i (by decide)
    have hflight := s.fetched_fl 16 a (f := R.SEQ_STATUS.IN_FLIGHT) 16 (by decide)
    have href := s.fetched_fl 16 a (f := R.DEV_CLK.REF_PRESENT) 0 (by decide)
    have hhost := s.fetched_rd 16 a (f := R.SEQ_HOST_FLAGS.FLAGS) 16 (by decide)
    have htev (k : Nat) : (s.fetched 16 a).tevActive k = s.tevActive k := by rw [State.tevActive, State.tevActive, State.fetched_time]
    simp only [State.cond, if_true, hcnt, hflight, href, hhost, htev, State.fetched_seq, State.fetched_seqEvents]
  · rw [s.fetched_tile a hq]

theorem State.afterIssue_hk (w : Nat) : s.afterIssue 16 w = s := by
  rw [State.afterIssue, show (mwNano w ≠ 0 && !mwEnds w && 16 ≠ 16) = false by simp, State.when_false]

/-- A fetched word sees the conditions that its nano-word left (R226, R231). -/
theorem State.acting_cond (q w n : Nat) : ((s.withOut []).acting q w).cond q n = (s.afterIssue q w).cond q n := by
  by_cases hq : q = 16
  · subst hq
    rw [State.acting, State.afterIssue_hk, State.afterIssue_hk, State.fetched_cond, State.withOut_cond]
  · have ho : (s.withOut []).afterIssue q w = (s.afterIssue q w).withOut [] := by
      unfold State.afterIssue
      cases hc : (mwNano w ≠ 0 && !mwEnds w && q ≠ 16)
      · rfl
      · rw [State.when_true, State.when_true, State.issueNano_tile _ _ hq, State.issueNano_tile _ _ hq]
        rfl
    rw [State.acting, State.fetched_tile _ _ hq, ho, State.withOut_cond]

/-- The branch offset that a table entry gives (R231). -/
def State.branchOffset (s : State) (q e : Nat) : Nat :=
  (List.range (bselCount e)).foldl (fun v j => v + b2n (s.cond q (bselSel e j) != bitAt e (27 + j)) * 2 ^ j) 0

theorem State.acting_branchOffset (q w e : Nat) : ((s.withOut []).acting q w).branchOffset q e = (s.afterIssue q w).branchOffset q e := by
  simp only [State.branchOffset, State.acting_cond]

section
variable {q : Fin 17} {w : Nat} (h : s.fetches q.val w)
include h

/-- A word that changes nothing but where its sequencer goes. -/
theorem done_goes {p : Nat → Bool} {f : State → Nat → Nat → State × Nat} {next : Nat} (hp : p w = true)
    (hf : f ((s.withOut []).acting q.val w) (s.seq q.val).next w = ((s.withOut []).acting q.val w, next)) :
    ∃ t, (done s fun s => s.execMicro q.val p f) = .next t ∧ s.wentOn t q.val w next := by
  obtain ⟨t, e, hw, -⟩ := done_execMicro s h hp hf rfl rfl rfl
  exact ⟨t, e, hw⟩

theorem execStep_goes (hp : mwClass w = 0) (hv : bitAt w 14 = false ∨ mwNano w = 0 ∨ q.val = 16) : ∃ t, execStep q s = .next t ∧ s.wentOn t q.val w ((s.seq q.val).next + 1) := by
  have hc : (bitAt w 14 && mwNano w ≠ 0 && q.val ≠ 16) = false := by rcases hv with hv | hv | hv <;> simp [hv]
  exact done_goes s h (by simp [isClass, hp]) (by rw [hc, State.when_false])

theorem execJump_goes (hp : mwClass w = 1) : ∃ t, execJump q s = .next t ∧ s.wentOn t q.val w (bits w 0 14) := done_goes s h (by simp [isClass, hp]) rfl

theorem execYield_goes (hp : mwClass w = 9) : ∃ t, execYield q s = .next t ∧ s.wentOn t q.val w ((s.seq q.val).next + 1) := done_goes s h (by simp [isClass, hp]) rfl

section
variable (hp : mwClass w = 2) {e : Nat} (he : smGet 0 (s.store q.val).micro (seqTables q.val + bits w 10 5) = e) (hb : smGet 0 (s.store q.val).bad (seqTables q.val + bits w 10 5) = 0)
include hp he hb

theorem execBranch_goes (hc : bselCount e ≤ 4) (hr : bitAt e 31 = false) :
    ∃ t, execBranch q s = .next t ∧ s.wentOn t q.val w (16 * bits w 0 10 + (s.afterIssue q.val w).branchOffset q.val e) := by
  refine done_goes s h (by simp [isClass, hp]) ?_
  have hform : (decide (bselCount e > 4) || bitAt e 31) = false := by rw [hr, Bool.or_false, decide_eq_false (Nat.not_lt.2 hc)]
  dsimp only
  rw [State.acting_store, State.withOut_store, hb, he, if_neg (not_not.2 rfl), if_neg (ne_true_of_eq_false hform), ← State.acting_branchOffset]
  rfl

theorem execBranch_reserved (hr : 4 < bselCount e ∨ bitAt e 31 = true) : ∃ t, execBranch q s = .next t ∧ s.Checked t q.val 6 (s.seq q.val).next 0 := by
  have hform : (decide (bselCount e > 4) || bitAt e 31) = true := by simpa using hr
  refine done_execMicro_checked s h (by simp [isClass, hp]) ?_
  dsimp only
  rw [State.acting_store, State.withOut_store, hb, he, if_neg (not_not.2 rfl), if_pos hform]

end

/-- A STEP with VSYNC waits for the nano-word that it has issued (R222, R226). -/
theorem execStep_vsync (hp : mwClass w = 0) (hv : bitAt w 14 = true) (hn : mwNano w ≠ 0) (hq : q.val < 16) :
    ∃ t, execStep q s = .next t ∧ s.wentOn t q.val w ((s.seq q.val).next + 1) ∧ (t.seq q.val).vsync = true ∧ (t.play q.val).issued = (s.play q.val).issued ++ [mwNano w] ∧
      s.keeps t [.regs, .seqs, .plays] := by
  have hne : q.val ≠ 16 := hq.ne
  have hends : mwEnds w = false := by simp [mwEnds, hp]
  have hact : (s.withOut []).acting q.val w = (s.withOut []).setPlay q.val { s.play q.val with issued := (s.play q.val).issued ++ [mwNano w] } := by
    rw [State.acting, State.fetched_tile _ _ hne, State.afterIssue, show (mwNano w ≠ 0 && !mwEnds w && q.val ≠ 16) = true by simp [hn, hends, hne], State.when_true, State.issueNano_tile _ _ hne]
    rfl
  obtain ⟨u, hu⟩ : ∃ u, ((s.withOut []).acting q.val w).setSeq q.val { s.seq q.val with vsync := true } = u := ⟨_, rfl⟩
  have hst : u.rd R.SEQ_STATUS.STATE q.val = 1 := by rw [← hu, State.setSeq_rd, s.acting_running h]
  have hseq : u.seq q.val = { s.seq q.val with vsync := true } := by rw [← hu, State.setSeq_seq_same]
  have hend : u.wordEnded q.val w (s.seq q.val).next ((s.seq q.val).next + 1) = u.seqNext q.val (s.seq q.val).next ((s.seq q.val).next + 1) (mwYield w) := by
    rw [State.wordEnded, State.afterWord_eq_self _ (.inl hne)]
  refine ⟨_, done_execMicro_is s h (by simp [isClass, hp]) (u := u) (next := (s.seq q.val).next + 1) ?_, s.wordEnded_wentOn hst (by rw [hseq]), ?_, ?_, State.keeps_commit ?_⟩
  · rw [show (bitAt w 14 && mwNano w ≠ 0 && q.val ≠ 16) = true by simp [hv, hn, hne], State.when_true, State.acting_seq, ← hu]
    rfl
  · exact congrArg SeqSt.vsync ((State.wordEnded_seq u w _ _ hst).trans (by rw [hseq]))
  · rw [State.commit_play, State.afterWord_eq_self _ (.inl hne), State.seqNext_play, ← hu, State.setSeq_play, hact, State.setPlay_play_same]
  · rw [State.afterWord_eq_self _ (.inl hne), State.seqNext, if_neg (not_not.2 hst), ← hu, hact]
    simp

end

end Sys2Proof.Machine

open Sys2Proof Sys2Proof.Machine

/-- Settles O32: each word of flow goes on where R222, R231 and R232 send it, and a reserved branch entry is a machine check. -/
theorem sequencerFlow : Obligations.SequencerFlow := by
  refine ⟨?step, ?vsync, ?jump, ?branch, ?reserved, ?loop, ?yield⟩
  case step => exact fun s q w h hp hv => execStep_goes s h hp hv
  case vsync => exact fun s q w h hp hv hn hq => execStep_vsync s h hp hv hn hq
  case jump => exact fun s q w h hp => execJump_goes s h hp
  case branch => exact fun s q w e h hp he hb hc hr => execBranch_goes s h hp he hb hc hr
  case reserved =>
    intro s q w e h hp he hb hr
    obtain ⟨t, e', hc⟩ := execBranch_reserved s h hp he hb hr
    exact ⟨t, e', hc.state, hc.cause, hc.addr⟩
  case loop =>
    intro s q w v h hp hc hv
    rw [State.afterIssue_rd] at hv
    exact execLoop_counts s q h hp hc hv
  case yield =>
    intro s q w h hp
    obtain ⟨t, e, hw⟩ := execYield_goes s h hp
    have hy : mwYield w = true := by simp [mwYield, hp]
    obtain ⟨hpc, hst, hnext, hran, hat⟩ := hw
    exact ⟨t, e, ⟨hpc, hst, hnext, hran, hat⟩, hran.trans (if_pos hy)⟩
end
section
/-! SUPPORT. A whole word written to a register with no RWL field (R7), single bits of a field, the faults of a lane (R119, R136, R311), and O21. -/

namespace Sys2Proof.Machine

variable (s : State)

/-! A whole word of a register with no RWL field -/

section
variable {r : Reg} (h : ∀ f ∈ r.fields, f.acc ≠ .rwl) (i w : Nat)
include h

theorem writeWord_open : writeWord r i w 15 s = (r.fields.foldl (fun s f => (writeField i w 15 f s).1) s, false) := by
  have hno : (r.fields.any fun f => (writeField i w 15 f s).2) = false := by
    simp only [List.any_eq_false, writeField_refuses]
    intro f hf
    simp [h f hf]
  exact if_neg (ne_true_of_eq_false hno)

theorem writeWord_takes {f : Fld} (hf : f ∈ r.fields) : (writeWord r i w 15 s).1.rd f i = s.taken i w 15 f := by
  rw [writeWord_open s h]
  exact (writeFields_take s i w 15 _ r.fields_keys.1 r.fields_keys.2).2 f hf

theorem writeWord_rd_key {f : Fld} (j : Nat) (hf : f.key % 1024 ∉ r.fields.map Fld.key) : (writeWord r i w 15 s).1.rd f j = s.rd f j := by
  rw [writeWord_open s h]
  exact (writeFields_take s i w 15 _ r.fields_keys.1 r.fields_keys.2).1 f j hf

theorem writeWord_takes_w1c {f : Fld} (hf : f ∈ r.fields) (ha : f.acc = .w1c) (h1 : f.part w = 2 ^ f.width - 1) : (writeWord r i w 15 s).1.rd f i = 0 := by
  rw [writeWord_takes s h i w hf, State.taken, if_neg (by simp [Fld.enabled_whole]), ha, h1, Nat.sub_self]
  exact Nat.and_zero _

theorem writeWord_takes_rw {f : Fld} (hf : f ∈ r.fields) (ha : f.acc = .rw) : (writeWord r i w 15 s).1.rd f i = f.part w := by
  rw [writeWord_takes s h i w hf, State.taken, if_neg (by simp [Fld.enabled_whole]), ha]

end

/-- A written field changes no part of the state but the registers. -/
theorem writeField_regs (i w be : Nat) (f : Fld) : ∃ v, (writeField i w be f s).1 = { s with regs := v } := by
  unfold writeField
  split
  · exact ⟨s.regs, rfl⟩
  split
  · exact ⟨_, rfl⟩
  · exact ⟨_, rfl⟩
  · exact ⟨_, rfl⟩
  · split
    · exact ⟨_, rfl⟩
    · exact ⟨s.regs, rfl⟩
  all_goals exact ⟨s.regs, rfl⟩

theorem writeFields_foldl_regs (l : List Fld) (i w be : Nat) : ∃ v, (l.foldl (fun s f => (writeField i w be f s).1) s) = { s with regs := v } := by
  induction l generalizing s with
  | nil => exact ⟨s.regs, rfl⟩
  | cons f l ih =>
    obtain ⟨v, hv⟩ := writeField_regs s i w be f
    obtain ⟨v', hv'⟩ := ih { s with regs := v }
    exact ⟨v', by rw [List.foldl_cons, hv, hv']⟩

/-- A written word changes no part of the state but the registers. -/
theorem writeWord_regs (r : Reg) (i w be : Nat) : ∃ v, (writeWord r i w be s).1 = { s with regs := v } := by
  unfold writeWord writeFields
  split
  · exact ⟨s.regs, rfl⟩
  · exact writeFields_foldl_regs s _ i w be

/-! Single bits -/

theorem bitAt_eq_testBit (v i : Nat) : bitAt v i = v.testBit i := by
  rw [bitAt, Nat.testBit_eq_decide_div_mod_eq]
  simp [BEq.beq]

/-- A bit set by a bitwise or, as a field narrower than it holds it. -/
theorem bitAt_lor_two_pow_mod (v : Nat) {i n : Nat} (h : i < n) : bitAt (Nat.lor v (2 ^ i) % 2 ^ n) i = true := by
  rw [bitAt_eq_testBit, Nat.testBit_mod_two_pow, decide_eq_true h, Bool.true_and]
  exact (Nat.testBit_lor v (2 ^ i) i).trans (by rw [Nat.testBit_two_pow_self, Bool.or_true])

/-- A bit taken away by a subtraction. -/
theorem bitAt_clear_mod (v : Nat) {i n : Nat} (h : i < n) : bitAt ((if bitAt v i then v - 2 ^ i else v) % 2 ^ n) i = false := by
  have hmod (x : Nat) : bitAt (x % 2 ^ n) i = bitAt x i := by rw [bitAt_eq_testBit, bitAt_eq_testBit, Nat.testBit_mod_two_pow, decide_eq_true h, Bool.true_and]
  rw [hmod]
  cases hb : bitAt v i with
  | false => exact hb
  | true =>
    have h1 : v / 2 ^ i % 2 = 1 := by simpa [bitAt] using hb
    have h2 : (v - 2 ^ i) / 2 ^ i = v / 2 ^ i - 1 := by simpa using Nat.sub_mul_div v (2 ^ i) 1
    have h3 : (v / 2 ^ i - 1) % 2 = 0 := by omega
    simp [bitAt, h2, h3]

/-! The faults of a lane -/

@[simp] theorem State.blockedCheck_hub (l : Nat) : (s.blockedCheck l).hub = s.hub := s.when_induction (P := fun t => t.hub = s.hub) _ _ rfl rfl
@[simp] theorem State.blockedCheck_lane (l k : Nat) : (s.blockedCheck l).lane k = s.lane k := s.when_induction (P := fun t => t.lane k = s.lane k) _ _ rfl rfl

theorem State.blockedCheck_fl (l : Nat) {f : Fld} (i : Nat) (h : f.key % 1024 ≠ R.LANE_STATUS.DRIVE_BLOCKED.key) : (s.blockedCheck l).fl f i = s.fl f i :=
  s.when_induction (P := fun t => t.fl f i = s.fl f i) _ _ rfl (s.wr_fl_key 1 h)

theorem State.keeps_blockedCheck {s t : State} {p : List Part} (l : Nat) (hr : .regs ∈ p) (h : s.keeps t p) : s.keeps (t.blockedCheck l) p :=
  t.when_induction (P := fun u => s.keeps u p) _ _ h (by simpa [hr] using h)

theorem State.driver_of_tripOff {l : Nat} (h : (s.lane l).tripOff = true) : s.driver l = 0 := by
  unfold State.driver
  exact if_pos (by simp [h])

/-- A fault bit of a lane that rises (R410). -/
theorem State.laneFault_rises {f : Fld} {l : Nat} (h : s.fl f l = false) : s.laneFault f l = (s.wr f l 1).raise (320 + l / 8 * 4 + 1) := if_neg (by simp [h])

theorem execDriverTrip_trips (l : Fin 1024) (hd : s.driver l.val ≠ 0) (ht : s.fl R.LANE_STATUS.DRV_TRIP l.val = false) :
    ∃ t, execDriverTrip l s = .next t ∧ t.fl R.LANE_STATUS.DRV_TRIP l.val = true ∧ t.driver l.val = 0 ∧ t.hub.asserted = s.hub.asserted ++ [(320 + l.val / 8 * 4 + 1, 0)] ∧
      s.keeps t [.regs, .hub, .lanes] := by
  obtain ⟨u, hu⟩ : ∃ u, (s.withOut []).setLane l.val { s.lane l.val with tripOff := true } = u := ⟨_, rfl⟩
  have hlane : (u.lane l.val).tripOff = true := by rw [← hu, State.setLane_lane_same]
  have hfl : u.fl R.LANE_STATUS.DRV_TRIP l.val = false := by rw [← hu, State.setLane_fl, State.withOut_fl, ht]
  have hx : (if (s.withOut []).driver l.val = 0 then s.withOut [] else
      (((s.withOut []).setLane l.val { (s.withOut []).lane l.val with tripOff := true }).laneFault R.LANE_STATUS.DRV_TRIP l.val).blockedCheck l.val) =
      ((u.wr R.LANE_STATUS.DRV_TRIP l.val 1).raise (320 + l.val / 8 * 4 + 1)).blockedCheck l.val := by
    rw [if_neg (show (s.withOut []).driver l.val ≠ 0 from hd), State.withOut_lane, hu, State.laneFault_rises _ hfl]
  refine ⟨_, done_is s hx, ?_, ?_, ?_, State.keeps_commit (State.keeps_blockedCheck _ (by simp) ?_)⟩
  · rw [State.commit_fl, State.blockedCheck_fl _ _ _ (by decide), State.raise_fl, State.fl, State.wr_rd_same]
    rfl
  · refine State.driver_of_tripOff _ ?_
    rw [State.commit_lane, State.blockedCheck_lane]
    exact hlane
  · rw [State.commit_hub, State.blockedCheck_hub, ← hu]
    rfl
  · rw [← hu]
    simp

theorem laneStatus_noRwl : ∀ f ∈ Reg.LANE_STATUS.fields, f.acc ≠ .rwl := by decide

theorem execDrvTripClear_clears {rq : Req} (l : Fin 1024) {w : Word} (hw : s.canWrite rq .LANE_STATUS l.val) (hp : (s.play (l.val / 64)).playing = false) :
    ∃ t, execDrvTripClear rq l w s = .next t ∧ t.fl R.LANE_STATUS.DRV_TRIP l.val = false ∧ (t.lane l.val).tripOff = false := by
  have hcopy : s.copyOf rq .LANE_STATUS l.val = l.val := s.copyOf_device rfl
  obtain ⟨u, hu⟩ : ∃ u, (writeWord .LANE_STATUS l.val (Nat.lor w.toNat 1) 15 (s.withOut [])).1 = u := ⟨_, rfl⟩
  have htrip : u.fl R.LANE_STATUS.DRV_TRIP l.val = false := by
    rw [State.fl_eq_false, ← hu]
    exact writeWord_takes_w1c _ laneStatus_noRwl _ _ (by decide) rfl (Fld.part_lor_one_bit _ ⟨rfl, rfl⟩)
  have hplay : (u.play (l.val / 64)).playing = false := by
    obtain ⟨v, hv⟩ := writeWord_regs (s.withOut []) .LANE_STATUS l.val (Nat.lor w.toNat 1) 15
    rw [← hu, hv]
    exact hp
  have hook : laneStatusHook rq l.val (Nat.lor w.toNat 1) 15 (s.withOut []) = (u.setLane l.val { u.lane l.val with tripOff := false }, false) := by
    unfold laneStatusHook
    rw [writeWord_open _ laneStatus_noRwl] at hu ⊢
    dsimp only at hu ⊢
    rw [hu, htrip, hplay]
    rfl
  have e := writeRow_takesAt s (h := laneStatusHook) (w := Nat.lor w.toNat 1) hw (by rw [hcopy, hook])
  rw [hcopy, hook] at e
  exact ⟨_, e, by rw [State.commit_fl, State.setLane_fl, htrip], by rw [State.commit_lane, State.setLane_lane_same]⟩

theorem execClampHit_hits (l : Fin 1024) (hc : s.clamping l.val = true) (hh : s.fl R.LANE_STATUS.CLAMP_HIT l.val = false) :
    ∃ t, execClampHit l s = .next t ∧ t.fl R.LANE_STATUS.CLAMP_HIT l.val = true ∧ t.hub.asserted = s.hub.asserted ++ [(320 + l.val / 8 * 4 + 1, 0)] ∧ s.keeps t [.regs, .hub] := by
  have hx : (if (s.withOut []).clamping l.val = true then (s.withOut []).laneFault R.LANE_STATUS.CLAMP_HIT l.val else s.withOut []) =
      ((s.withOut []).wr R.LANE_STATUS.CLAMP_HIT l.val 1).raise (320 + l.val / 8 * 4 + 1) := by
    rw [if_pos (show (s.withOut []).clamping l.val = true from hc), State.laneFault_rises (s.withOut []) hh]
  refine ⟨_, done_is s hx, ?_, rfl, State.keeps_commit (by simp)⟩
  rw [State.commit_fl, State.raise_fl, State.fl, State.wr_rd_same]
  rfl

/-- The registers of a PPMU's compliance as it enters it (R311). -/
def State.complianceOn (s : State) (l : Nat) : State :=
  (s.wr R.OCT_PPMU_COMPL.IN_COMPL (l / 8) (Nat.lor (s.rd R.OCT_PPMU_COMPL.IN_COMPL (l / 8)) (2 ^ (l % 8)))).wr R.OCT_PPMU_COMPL.COMPL_HIT (l / 8)
    (Nat.lor (s.rd R.OCT_PPMU_COMPL.COMPL_HIT (l / 8)) (2 ^ (l % 8)))

/-- The register of a PPMU's compliance as it leaves it. -/
def State.complianceOff (s : State) (l : Nat) : State :=
  s.wr R.OCT_PPMU_COMPL.IN_COMPL (l / 8)
    (if bitAt (s.rd R.OCT_PPMU_COMPL.IN_COMPL (l / 8)) (l % 8) then s.rd R.OCT_PPMU_COMPL.IN_COMPL (l / 8) - 2 ^ (l % 8) else s.rd R.OCT_PPMU_COMPL.IN_COMPL (l / 8))

theorem execPpmuCompliance_on (l : Fin 1024) (hi : bitAt (s.rd R.OCT_PPMU_COMPL.IN_COMPL (l.val / 8)) (l.val % 8) = false) :
    execPpmuCompliance l true s = .next (s.commit (((s.withOut []).complianceOn l.val).raise (320 + 4 * (l.val / 8) + 1))) := by
  refine done_is s ?_
  dsimp only
  rw [if_pos rfl, State.withOut_rd, hi, if_neg Bool.false_ne_true, State.complianceOn, State.withOut_rd, State.withOut_rd]

theorem execPpmuCompliance_off (l : Fin 1024) : execPpmuCompliance l false s = .next (s.commit ((s.withOut []).complianceOff l.val)) := rfl

/-- A PPMU that enters compliance sets both bits and raises the source of its lane's faults (R311). -/
theorem execPpmuCompliance_enters (l : Fin 1024) (hi : bitAt (s.rd R.OCT_PPMU_COMPL.IN_COMPL (l.val / 8)) (l.val % 8) = false) :
    ∃ t, execPpmuCompliance l true s = .next t ∧ bitAt (t.rd R.OCT_PPMU_COMPL.IN_COMPL (l.val / 8)) (l.val % 8) = true ∧ bitAt (t.rd R.OCT_PPMU_COMPL.COMPL_HIT (l.val / 8)) (l.val % 8) = true ∧
      t.hub.asserted = s.hub.asserted ++ [(320 + 4 * (l.val / 8) + 1, 0)] ∧ s.keeps t [.regs, .hub] := by
  have h8 : l.val % 8 < 8 := Nat.mod_lt _ (by decide)
  refine ⟨_, execPpmuCompliance_on s l hi, ?_, ?_, rfl, State.keeps_commit (by simp [State.complianceOn])⟩
  · rw [State.commit_rd, State.raise_rd, State.complianceOn, State.wr_rd_key _ _ (by decide), State.wr_rd_same]
    exact bitAt_lor_two_pow_mod _ h8
  · rw [State.commit_rd, State.raise_rd, State.complianceOn, State.wr_rd_same]
    exact bitAt_lor_two_pow_mod _ h8

theorem execPpmuCompliance_leaves (l : Fin 1024) : ∃ t, execPpmuCompliance l false s = .next t ∧ bitAt (t.rd R.OCT_PPMU_COMPL.IN_COMPL (l.val / 8)) (l.val % 8) = false ∧
    t.rd R.OCT_PPMU_COMPL.COMPL_HIT (l.val / 8) = s.rd R.OCT_PPMU_COMPL.COMPL_HIT (l.val / 8) ∧ s.keeps t [.regs] := by
  refine ⟨_, execPpmuCompliance_off s l, ?_, ?_, State.keeps_commit (by simp [State.complianceOff])⟩
  · rw [State.commit_rd, State.complianceOff, State.wr_rd_same]
    exact bitAt_clear_mod _ (Nat.mod_lt _ (by decide))
  · rw [State.commit_rd, State.complianceOff, State.wr_rd_key _ _ (by decide)]
    rfl

end Sys2Proof.Machine

open Sys2Proof Sys2Proof.Machine

/-- Settles O21: a trip, a clamp and a PPMU in compliance set their bits and raise the source on the rise, and a clear of DRV_TRIP gives the driver back. -/
theorem laneFaults : Obligations.LaneFaults :=
  ⟨fun s l hd ht => execDriverTrip_trips s l hd ht, fun s _ l _ hw hp => execDrvTripClear_clears s l hw hp, fun s l hc hh => execClampHit_hits s l hc hh,
    fun s l hi _ => execPpmuCompliance_enters s l hi, fun s l => execPpmuCompliance_leaves s l⟩
end
section
/-! SUPPORT. A front-end handover: its request, its start and its end (R140 to R144), and O22. -/

namespace Sys2Proof.Machine

variable (s : State)

/-! What a masked operation keeps -/

theorem Part.mask_div (l : List Part) : Part.mask l / 2 ^ 32 = 0 :=
  Nat.eq_of_testBit_eq fun i => by rw [Nat.testBit_div_two_pow, Nat.add_comm, Part.mask_testBit_field, Nat.zero_testBit]

/-- An operation that changes listed parts only, and no register, keeps as much as the state before it. -/
theorem State.keeps_mask {s t t' : State} {ps l : List Part} (h : t'.blur (Part.mask ps) = t.blur (Part.mask ps)) (hl : ps ⊆ l) : s.keeps t' l ↔ s.keeps t l :=
  State.keeps_blur h (fun _ hp => .inr (Part.mask_testBit_of_notMem fun hm => hp (hl hm))) (.inr (Part.mask_div ps))

/-- Fields kept but for some are kept but for more. -/
theorem State.keepsFields.mono {s t : State} {k k' : List Fld} (h : s.keepsFields t k) (hk : k.map Fld.key ⊆ k'.map Fld.key) : s.keepsFields t k' :=
  fun f i hf => h f i fun hm => hf (hk hm)

/-! The request -/

/-- The fields of LANE_FE written, where the tile plays as a write that waits (R112). -/
def State.feWritten (s : State) (l w : Nat) : State × Bool :=
  if !(s.play (l / 64)).playing then writeWord .LANE_FE l w 15 s
  else if R.LANE_FE.SWAP_REFUSED.acts w 15 && s.fl R.LANE_FE.SWAP_REFUSED l && !(s.play (l / 64)).held.any (fun e => e.1 = R.LANE_FE.SWAP_REFUSED.slot l) then
    (s.setPlay (l / 64) { s.play (l / 64) with held := (s.play (l / 64)).held ++ [(R.LANE_FE.SWAP_REFUSED.slot l, 1)] }, false)
  else (s, false)

theorem laneFe_noRwl : ∀ f ∈ Reg.LANE_FE.fields, f.acc ≠ .rwl := by decide

/-- Nothing but the registers and the play change with it, and of the registers only SWAP_REFUSED. -/
theorem State.feWritten_cases (l w : Nat) : ∃ v p, s.feWritten l w = ({ s with regs := v, plays := p }, false) ∧
    ∀ (f : Fld) (i : Nat), f.key % 1024 ≠ R.LANE_FE.SWAP_REFUSED.key → ({ s with regs := v, plays := p } : State).rd f i = s.rd f i := by
  unfold State.feWritten
  split
  · obtain ⟨v, hv⟩ := writeWord_regs s .LANE_FE l w 15
    have hopen := writeWord_open s laneFe_noRwl l w
    refine ⟨v, s.plays, ?_, fun f i hf => ?_⟩
    · rw [hopen] at hv ⊢
      rw [← hv]
    · have hv' : ({ s with regs := v, plays := s.plays } : State) = (writeWord .LANE_FE l w 15 s).1 := hv.symm
      rw [hv']
      exact State.rd_of_blur (writeWord_blur .LANE_FE l w 15 s (b := 2 ^ (32 + R.LANE_FE.SWAP_REFUSED.key)) (by decide)) f i
        (Nat.testBit_two_pow_of_ne (by omega))
  split
  · exact ⟨s.regs, _, rfl, fun _ _ _ => rfl⟩
  · exact ⟨s.regs, s.plays, rfl, fun _ _ _ => rfl⟩

theorem laneFeHook_eq (rq : Req) (l w : Nat) : laneFeHook rq l w 15 s =
    if R.LANE_FE.SWAP_REQ.acts w 15 then
      if (s.feWritten l w).1.sagOf rq = some 0 && (s.feWritten l w).1.m.mode = .service && !bitAt ((s.feWritten l w).1.rd R.LANE_FE.RETIRED l) (1 - (s.feWritten l w).1.rd R.LANE_FE.ACTIVE_FE l) then
        ((s.feWritten l w).1.setLane l { (s.feWritten l w).1.lane l with handover := some (((s.feWritten l w).1.lane l).handover.getD ⟨0, false, 0, false⟩) }, (s.feWritten l w).2)
      else (((s.feWritten l w).1.setPlay (l / 64) { (s.feWritten l w).1.play (l / 64) with
        held := ((s.feWritten l w).1.play (l / 64)).held.filter fun e => e.1 ≠ R.LANE_FE.SWAP_REFUSED.slot l }).wr R.LANE_FE.SWAP_REFUSED l 1, true)
    else s.feWritten l w := rfl

/-- A written request bit acts. -/
theorem swapReq_acts (w : Nat) : R.LANE_FE.SWAP_REQ.acts (Nat.lor w 64) 15 = true := by
  have h : R.LANE_FE.SWAP_REQ.part (Nat.lor w 64) = 1 := by
    have : bits w 6 1 < 2 ^ 1 := bits_lt _ _ _
    have hb : bits (Nat.lor w 64) 6 1 = Nat.lor (bits w 6 1) 1 := bits_lor w 64 6 1
    rw [Fld.part]
    refine hb.trans ?_
    interval_cases bits w 6 1 <;> rfl
  rw [Fld.acts, Fld.enabled_whole, h]
  rfl

section
variable {l : Fin 1024} {w : Word}

theorem execLaneSwapReq_waits {rq : Req} (hw : s.canWrite rq .LANE_FE l.val) (h0 : s.sagOf rq = some 0) (hm : s.m.mode = .service)
    (hr : bitAt (s.rd R.LANE_FE.RETIRED l.val) (1 - s.rd R.LANE_FE.ACTIVE_FE l.val) = false) (hn : (s.lane l.val).handover = none) :
    ∃ t, execLaneSwapReq rq l w s = .next t ∧ (t.lane l.val).handover = some ⟨0, false, 0, false⟩ ∧ t.rd R.LANE_FE.ACTIVE_FE l.val = s.rd R.LANE_FE.ACTIVE_FE l.val := by
  have hcopy : s.copyOf rq .LANE_FE l.val = l.val := s.copyOf_device rfl
  obtain ⟨v, p, hu, hrd⟩ := (s.withOut []).feWritten_cases l.val (Nat.lor w.toNat 64)
  obtain ⟨u, hu'⟩ : ∃ u, ({ s.withOut [] with regs := v, plays := p } : State) = u := ⟨_, rfl⟩
  have hsag : u.sagOf rq = some 0 := by
    rw [← hu', ← h0]
    cases rq <;> rfl
  have hmode : u.m.mode = .service := by rw [← hu']; exact hm
  have hlane : u.lane l.val = s.lane l.val := by rw [← hu']; rfl
  rw [hu'] at hu hrd
  have hact : u.rd R.LANE_FE.ACTIVE_FE l.val = s.rd R.LANE_FE.ACTIVE_FE l.val := hrd _ _ (by decide)
  have hret : u.rd R.LANE_FE.RETIRED l.val = s.rd R.LANE_FE.RETIRED l.val := hrd _ _ (by decide)
  have hook : laneFeHook rq l.val (Nat.lor w.toNat 64) 15 (s.withOut []) = (u.setLane l.val { s.lane l.val with handover := some ⟨0, false, 0, false⟩ }, false) := by
    rw [laneFeHook_eq, if_pos (swapReq_acts _), hu]
    dsimp only
    rw [hsag, hmode, hact, hret, hr, hlane, hn]
    rfl
  have e := writeRow_takesAt s (h := laneFeHook) (w := Nat.lor w.toNat 64) hw (by rw [hcopy, hook])
  rw [hcopy, hook] at e
  exact ⟨_, e, by rw [State.commit_lane, State.setLane_lane_same], by rw [State.commit_rd, State.setLane_rd, hact]⟩

theorem execLaneSwapReq_refused {f : Fin 64} (hw : s.canWrite (.fn f) .LANE_FE l.val) (hm : s.m.mode ≠ .service) :
    ∃ t, execLaneSwapReq (.fn f) l w s = .next t ∧ t.fl R.LANE_FE.SWAP_REFUSED l.val = true ∧ t.lanes = s.lanes ∧
      t.rd R.HOST_REFUSE.COUNT f.val = min (s.rd R.HOST_REFUSE.COUNT f.val + 1) 65535 := by
  have hcopy : s.copyOf (.fn f) .LANE_FE l.val = l.val := s.copyOf_device rfl
  obtain ⟨v, p, hu, hrd⟩ := (s.withOut []).feWritten_cases l.val (Nat.lor w.toNat 64)
  obtain ⟨u, hu'⟩ : ∃ u, ({ s.withOut [] with regs := v, plays := p } : State) = u := ⟨_, rfl⟩
  have hmode : u.m.mode ≠ .service := by rw [← hu']; exact hm
  have hlanes : u.lanes = s.lanes := by rw [← hu']; rfl
  rw [hu'] at hu hrd
  have hcount : u.rd R.HOST_REFUSE.COUNT f.val = s.rd R.HOST_REFUSE.COUNT f.val := hrd _ _ (by decide)
  obtain ⟨x, hook⟩ : ∃ x, laneFeHook (.fn f) l.val (Nat.lor w.toNat 64) 15 (s.withOut []) = ((u.setPlay (l.val / 64) x).wr R.LANE_FE.SWAP_REFUSED l.val 1, true) := by
    rw [laneFeHook_eq, if_pos (swapReq_acts _), hu]
    dsimp only
    rw [if_neg (by simp [hmode])]
    exact ⟨_, rfl⟩
  have e := writeRow_refusesAt s (h := laneFeHook) (w := Nat.lor w.toNat 64) hw (by rw [hcopy, hook])
  rw [hcopy, hook] at e
  refine ⟨_, e, ?_, ?_, ?_⟩
  · simp (disch := decide) [State.refuse, State.fl]
  · simp [State.refuse, hlanes]
  · simp (disch := decide) [State.refuse, hcount]
    rfl

/-! The start and the end -/

theorem execHandoverStart_starts {h : Handover} (hh : (s.lane l.val).handover = some h) (hs : h.started = false) (hok : s.handoverOk l.val = true) (hf : s.feStep l.val = false)
    (hmo : h.why ≠ 1 ∨ (s.play (l.val / 64)).playing = false ∨ (s.play (l.val / 64)).gapOk = true) :
    ∃ t, execHandoverStart l s = .next t ∧ (t.lane l.val).handover = some { h with started := true } ∧ t.rd R.LANE_FE.OTHER_STATE l.val = 3 ∧ s.keeps t [.regs, .lanes] ∧
      s.keepsFields t [R.LANE_FE.OTHER_STATE] := by
  have hmoment : (decide (h.why ≠ 1) || !(s.play (l.val / 64)).playing || (s.play (l.val / 64)).gapOk || (s.withOut []).laneGap l.val) = true := by
    rcases hmo with hmo | hmo | hmo <;> simp [hmo]
  have e : execHandoverStart l s = .next (s.commit (((s.withOut []).setLane l.val { s.lane l.val with handover := some { h with started := true } }).wr R.LANE_FE.OTHER_STATE l.val 3)) := by
    refine done_is s ?_
    dsimp only
    rw [State.withOut_lane, hh]
    refine if_neg ?_
    rw [hs, show (s.withOut []).handoverOk l.val = true from hok, show (s.withOut []).feStep l.val = false from hf, State.withOut_play, hmoment]
    decide
  refine ⟨_, e, ?_, ?_, State.keeps_commit (by simp), by simp (disch := decide)⟩
  · rw [State.commit_lane, State.wr_lane, State.setLane_lane_same]
  · rw [State.commit_rd, State.wr_rd_same]
    rfl

/-- The front end that is active once a handover is over. -/
def State.feAfter (s : State) (l : Nat) (h : Handover) : Nat := if h.swapped then s.rd R.LANE_FE.ACTIVE_FE l else 1 - s.rd R.LANE_FE.ACTIVE_FE l

/-- The active front end at c24: the one that the handover was for. -/
theorem State.feSwap_shows {l : Nat} {h : Handover} (hh : (s.lane l).handover = some h) (hs : h.started = true) :
    (s.feSwap l).rd R.LANE_FE.ACTIVE_FE l = s.feAfter l h ∧ (∀ (f : Fld) (i : Nat), f.key % 1024 ≠ R.LANE_FE.ACTIVE_FE.key → (s.feSwap l).rd f i = s.rd f i) ∧
      (s.feSwap l).spare = s.spare ∧ s.keeps (s.feSwap l) [.regs, .lanes] ∧ s.keepsFields (s.feSwap l) [R.LANE_FE.ACTIVE_FE] := by
  unfold State.feSwap State.feAfter
  rw [hh]
  dsimp only
  cases hsw : h.swapped with
  | true =>
    rw [Bool.or_true, if_pos rfl, if_pos rfl]
    exact ⟨rfl, fun _ _ _ => rfl, rfl, s.keeps_refl _, s.keepsFields_refl _⟩
  | false =>
    have hlt : (1 - s.rd R.LANE_FE.ACTIVE_FE l) % 2 ^ R.LANE_FE.ACTIVE_FE.width = 1 - s.rd R.LANE_FE.ACTIVE_FE l := Nat.mod_eq_of_lt (lt_of_le_of_lt (Nat.sub_le 1 _) (by decide))
    simp only [hs, Bool.not_true, Bool.or_false, Bool.false_eq_true, if_false]
    refine ⟨by rw [State.wr_rd_same, hlt], fun f i hf => ?_, rfl, by simp, by simp (disch := decide)⟩
    rw [State.wr_rd_key _ _ hf, State.setLane_rd]

theorem execHandoverDone_hands {h : Handover} (hh : (s.lane l.val).handover = some h) (hs : h.started = true)
    (hn : (s.spare.waiting.find? fun w => w.key = l.val + 65536 * (1 - s.feAfter l.val h)) = none) :
    ∃ t, execHandoverDone l s = .next t ∧ t.rd R.LANE_FE.ACTIVE_FE l.val = s.feAfter l.val h ∧ t.rd R.LANE_FE.OTHER_STATE l.val = 0 ∧ (t.lane l.val).handover = none ∧
      t.rd R.LANE_FE.HANDOVER_COUNT l.val = min (s.rd R.LANE_FE.HANDOVER_COUNT l.val + 1) (2 ^ R.LANE_FE.HANDOVER_COUNT.width - 1) ∧ s.keeps t [.regs, .lanes, .cals] ∧
      s.keepsFields t [R.LANE_FE.ACTIVE_FE, R.LANE_FE.OTHER_STATE, R.LANE_FE.HANDOVER_COUNT] := by
  obtain ⟨hact, hrd, hsp, hk, hkf⟩ := (s.withOut []).feSwap_shows (l := l.val) hh hs
  obtain ⟨u, hu⟩ : ∃ u, (s.withOut []).feSwap l.val = u := ⟨_, rfl⟩
  rw [hu] at hact hrd hsp hk hkf
  obtain ⟨v, hv⟩ : ∃ v, (((u.wr R.LANE_FE.OTHER_STATE l.val 0).bump R.LANE_FE.HANDOVER_COUNT l.val 1).setLane l.val
    { ((u.wr R.LANE_FE.OTHER_STATE l.val 0).bump R.LANE_FE.HANDOVER_COUNT l.val 1).lane l.val with handover := none }) = v := ⟨_, rfl⟩
  have e : execHandoverDone l s = .next (s.commit (v.calNext (l.val / 256))) := by
    refine done_is s ?_
    dsimp only
    obtain ⟨why, started, vclk, swapped⟩ := h
    obtain rfl : started = true := hs
    have hfree : (u.spare.waiting.find? fun w => w.key = l.val + 65536 * (1 - u.rd R.LANE_FE.ACTIVE_FE l.val)) = none := by
      rw [hsp, hact]
      exact hn
    rw [State.withOut_lane, hh]
    dsimp only
    rw [hu, hv]
    rw [show (v.spare.waiting.find? fun w => w.key = l.val + 65536 * (1 - u.rd R.LANE_FE.ACTIVE_FE l.val)) = none by rw [← hv]; exact hfree]
  have hcal := v.calNext_blur (l.val / 256) (Nat.and_self _)
  have hcrd (f : Fld) (i : Nat) : (v.calNext (l.val / 256)).rd f i = v.rd f i := by rw [State.rd, State.rd, State.regs_of_blur hcal rfl]
  refine ⟨_, e, ?_, ?_, ?_, ?_, State.keeps_commit ?_, ?_⟩
  · rw [State.commit_rd, hcrd, ← hv, State.setLane_rd, State.bump_rd_key _ _ (by decide), State.wr_rd_key _ _ (by decide), hact]
    rfl
  · rw [State.commit_rd, hcrd, ← hv, State.setLane_rd, State.bump_rd_key _ _ (by decide), State.wr_rd_same]
    rfl
  · rw [State.commit_lane, State.lane, State.lanes_of_blur hcal (by decide), ← State.lane, ← hv, State.setLane_lane_same]
  · rw [State.commit_rd, hcrd, ← hv, State.setLane_rd, State.bump_rd_same, State.wr_rd_key _ _ (by decide), hrd _ _ (by decide)]
    rfl
  · refine (State.keeps_mask (ps := [.cals]) (v.calNext_blur (l.val / 256) (by decide)) (by simp)).2 ?_
    rw [← hv]
    simpa using (State.keeps_withOut (s := s) []).1 (hk.mono (by simp))
  · refine (State.keepsFields_regs (State.regs_of_blur hcal rfl)).2 ?_
    rw [← hv]
    simp (disch := decide) only [State.keepsFields_setLane, State.keepsFields_bump, State.keepsFields_wr]
    exact hkf.mono (by decide)

end

end Sys2Proof.Machine

open Sys2Proof Sys2Proof.Machine

/-- Settles O22: a request in SERVICE waits and one outside it is refused, a handover starts at its moment, and its end brings the other front end. -/
theorem frontEndHandover : Obligations.FrontEndHandover :=
  ⟨fun s _ _ _ hw h0 hm hr hn => execLaneSwapReq_waits s hw h0 hm hr hn, fun s _ _ _ hw hm => execLaneSwapReq_refused s hw hm,
    fun s _ _ hh hs hok hf hmo => execHandoverStart_starts s hh hs hok hf hmo, fun s _ _ hh hs hn => execHandoverDone_hands s hh hs hn⟩
end
section
/-! SUPPORT. A CLEAR of an event source (R419) that stands in none of the hub's three states, and O43. -/

namespace Sys2Proof.Machine

/-- A CLEAR acts on a PENDING or a CLAIMED source only (R419). -/
theorem srcStatusHook_clear {s : State} {rq : Req} {n : Nat} (h1 : (s.src n).state ≠ 1) (h2 : (s.src n).state ≠ 2) : srcStatusHook rq n (2 ^ 17) 15 s = (s, false) := by
  have hclear : R.EVH_SRC_STATUS.CLEAR.acts (2 ^ 17) 15 = true := by decide
  have hset : R.EVH_SRC_STATUS.SET.acts (2 ^ 17) 15 = false := by decide
  unfold srcStatusHook Fx.of
  dsimp only
  rw [hclear, hset, State.when_true, State.when_false, if_neg h1, if_neg h2]

/-- Source 0 with the state number 3, which no state of R415 has, and one arrival counted. -/
def strayState : State := oneSite.setSrc 0 { SrcSt.idle with state := 3, count := 1 }

theorem strayState_canWrite : strayState.canWrite (.fn 0) .EVH_SRC_STATUS 0 := by decide

/-- The CLEAR leaves the count as it was. -/
theorem strayState_keepsCount : ∃ t, execEventClear (.fn 0) 0 strayState = .next t ∧ (t.src 0).count = 1 := by
  have e : srcStatusHook (.fn 0) (strayState.copyOf (.fn 0) .EVH_SRC_STATUS (0 : Fin 1152).val) (2 ^ 17) 15 (strayState.withOut []) = (strayState.withOut [], false) :=
    srcStatusHook_clear (by decide) (by decide)
  refine ⟨_, writeRow_takesAt (h := srcStatusHook) strayState strayState_canWrite (by rw [e]), ?_⟩
  rw [e]
  decide

end Sys2Proof.Machine

open Sys2Proof Sys2Proof.Machine

/-- Refutes O43: the clause on CLEAR speaks of every source whose state is not IDLE, but a state number above CLAIMED is left as it is, its count included. -/
theorem not_sourceArrivals : ¬ Obligations.SourceArrivals := by
  rintro ⟨-, -, -, -, -, h, -⟩
  obtain ⟨t, ht, hcount, -⟩ := h strayState (.fn 0) 0 strayState_canWrite (by decide)
  obtain ⟨u, hu, hone⟩ := strayState_keepsCount
  cases ht.symm.trans hu
  cases hcount.symm.trans hone
end
section
/-! SUPPORT. Bits joined to a written word, fields that are set to 0 one after another, the clears of the compare logic (R298, R299), and O30. -/

namespace Sys2Proof.Machine

variable (s : State)

/-- A field whose part of the joined bits is 0 keeps its part of the word. -/
theorem Fld.part_lor_zero {f : Fld} {b : Nat} (w : Nat) (h : f.part b = 0) : f.part (Nat.lor w b) = f.part w := by
  rw [Fld.part, bits_lor]
  exact (congrArg (bits w f.lo f.width ||| ·) h).trans (Nat.or_zero _)

/-- A one-bit action that is joined to a word acts. -/
theorem Fld.acts_lor {f : Fld} {b : Nat} (w : Nat) (h : f.part b ≠ 0) : f.acts (Nat.lor w b) 15 = true := by
  have hp : f.part (Nat.lor w b) ≠ 0 := by
    rw [Fld.part, bits_lor]
    exact fun e => h (Nat.or_eq_zero_iff.1 e).2
  rw [Fld.acts, Fld.enabled_whole, Bool.true_and]
  exact bne_iff_ne.2 hp

/-! Fields set to 0 -/

theorem State.wr_zero_same (f : Fld) (i : Nat) : (s.wr f i 0).rd f i = 0 := (s.wr_rd_same f i 0).trans (Nat.zero_mod _)

/-- A field that reads 0 still does when it or another field is set to 0. -/
theorem State.wr_zero_rd {f g : Fld} {j : Nat} (i : Nat) (hf : g = f ∨ g.key % 1024 ≠ f.key % 1024) (h : s.rd g j = 0) : (s.wr f i 0).rd g j = 0 := by
  obtain rfl | hf := hf
  · by_cases e : j = i
    · rw [e, s.wr_zero_same]
    · rw [s.wr_rd_inst 0 e, h]
  · rw [s.wr_rd_key 0 hf, h]

/-- Listed fields of one copy of a register set to 0. -/
theorem State.zeroed_rd {g : Fld} {j : Nat} (l : List Fld) (i : Nat) (hl : ∀ f ∈ l, g = f ∨ g.key % 1024 ≠ f.key % 1024) (h : (g ∈ l ∧ j = i) ∨ s.rd g j = 0) : (l.foldl (fun s f => s.wr f i 0) s).rd g j = 0 := by
  induction l generalizing s with
  | nil => exact h.resolve_left fun e => absurd e.1 List.not_mem_nil
  | cons f l ih =>
    refine ih _ (fun x hx => hl x (List.mem_cons_of_mem _ hx)) ?_
    obtain ⟨hm, rfl⟩ | h := h
    · obtain rfl | hm := List.mem_cons.1 hm
      · exact .inr (s.wr_zero_same g j)
      · exact .inl ⟨hm, rfl⟩
    · exact .inr (s.wr_zero_rd i (hl f List.mem_cons_self) h)

/-- What one turn brings about and every turn keeps holds at the end for each number of the list. -/
theorem State.each_all {P : Nat → State → Prop} {l : List Nat} {f : State → Nat → State} (hset : ∀ u n, P n (f u n)) (hkeep : ∀ u n m, P m u → P m (f u n)) :
    ∀ m ∈ l, P m (s.each l f) := by
  induction l generalizing s with
  | nil => exact fun m hm => absurd hm List.not_mem_nil
  | cons n l ih =>
    intro m hm
    obtain rfl | hm := List.mem_cons.1 hm
    · exact State.each_induction (P := P m) (f s m) l f (hset s m) fun u k h => hkeep u k m h
    · exact ih (f s n) m hm

/-! The clears -/

/-- The fields that CLEAR_FAIL sets to 0 (R299). -/
def failFlds : List Fld :=
  [R.CMP_SITE_STATUS.FAIL, R.CMP_SITE_STATUS.MASKED_FIRST, R.CMP_SITE_FF_LO.FF_CYCLE_LO, R.CMP_SITE_FF_HI.FF_CYCLE_HI, R.CMP_SITE_FF_HI.FF_TILE, R.CMP_SITE_FF_VA.VA_SEG,
    R.CMP_SITE_FF_INFO.PASS_SLOT]

theorem State.clearFail_eq (h : Nat) : ∃ x, s.clearFail h = failFlds.foldl (fun s f => s.wr f h 0) (s.setPlay (h / 64) x) := by
  unfold State.clearFail failFlds
  exact ⟨_, rfl⟩

theorem State.clearFail_zero {g : Fld} {j : Nat} (h : Nat) (hl : ∀ f ∈ failFlds, g = f ∨ g.key % 1024 ≠ f.key % 1024) (hg : (g ∈ failFlds ∧ j = h) ∨ s.rd g j = 0) :
    (s.clearFail h).rd g j = 0 := by
  obtain ⟨x, e⟩ := s.clearFail_eq h
  rw [e]
  exact State.zeroed_rd _ failFlds h hl (by rwa [State.setPlay_rd])

/-- Fields that no write of a list names read as before. -/
theorem State.zeroed_rd_key (l : List Fld) (i : Nat) {g : Fld} (j : Nat) (h : ∀ f ∈ l, g.key % 1024 ≠ f.key % 1024) : (l.foldl (fun s f => s.wr f i 0) s).rd g j = s.rd g j := by
  induction l generalizing s with
  | nil => rfl
  | cons f l ih => exact (ih _ fun x hx => h x (List.mem_cons_of_mem _ hx)).trans (s.wr_rd_key 0 (h f List.mem_cons_self))

theorem State.clearFail_rd_key (h : Nat) {g : Fld} (j : Nat) (hg : ∀ f ∈ failFlds, g.key % 1024 ≠ f.key % 1024) : (s.clearFail h).rd g j = s.rd g j := by
  obtain ⟨x, e⟩ := s.clearFail_eq h
  rw [e, State.zeroed_rd_key _ failFlds h j hg, State.setPlay_rd]

/-- What CLEAR_ALL does to one site of the tile. -/
def State.siteCleared (s : State) (h : Nat) : State := ((s.clearFail h).wr R.CMP_SITE_STATUS.TIMING_BROKEN h 0).wr R.CMP_SITE_FAILV.FAIL_VECTORS h 0

/-- The fields that CLEAR_ALL sets to 0. -/
def clearFlds : List Fld := failFlds ++ [R.CMP_SITE_STATUS.TIMING_BROKEN, R.CMP_SITE_FAILV.FAIL_VECTORS, R.CMP_LANE_FAIL.FAILS, R.CMP_TILE_FAILS.FAILS, R.CMP_STATUS.TILE_FAIL]

/-- A field is one of those that CLEAR_ALL sets to 0 and shares its key with none of them. -/
def ClearFld (g : Fld) : Prop := ∀ f ∈ clearFlds, g = f ∨ g.key % 1024 ≠ f.key % 1024

section
variable {g : Fld} {j : Nat} (hg : ClearFld g)
include hg

theorem State.siteCleared_zero (h : Nat) (hs : (g ∈ failFlds ∧ j = h) ∨ s.rd g j = 0) : (s.siteCleared h).rd g j = 0 :=
  State.wr_zero_rd _ _ (hg _ (by decide)) (State.wr_zero_rd _ _ (hg _ (by decide)) (s.clearFail_zero h (fun f hf => hg f (List.mem_append_left _ hf)) hs))

end

/-- The fields of a site that CLEAR_ALL sets to 0 (R298). -/
def State.siteClear (s : State) (h : Nat) : Prop :=
  s.rd R.CMP_SITE_STATUS.FAIL h = 0 ∧ s.rd R.CMP_SITE_STATUS.MASKED_FIRST h = 0 ∧ s.rd R.CMP_SITE_STATUS.TIMING_BROKEN h = 0 ∧ s.rd R.CMP_SITE_FAILV.FAIL_VECTORS h = 0

theorem clearFld_fail : ClearFld R.CMP_SITE_STATUS.FAIL := by unfold ClearFld; decide
theorem clearFld_masked : ClearFld R.CMP_SITE_STATUS.MASKED_FIRST := by unfold ClearFld; decide
theorem clearFld_broken : ClearFld R.CMP_SITE_STATUS.TIMING_BROKEN := by unfold ClearFld; decide
theorem clearFld_vectors : ClearFld R.CMP_SITE_FAILV.FAIL_VECTORS := by unfold ClearFld; decide
theorem clearFld_lane : ClearFld R.CMP_LANE_FAIL.FAILS := by unfold ClearFld; decide
theorem clearFld_tile : ClearFld R.CMP_TILE_FAILS.FAILS := by unfold ClearFld; decide
theorem clearFld_flag : ClearFld R.CMP_STATUS.TILE_FAIL := by unfold ClearFld; decide

theorem State.siteCleared_clear (h : Nat) : (s.siteCleared h).siteClear h :=
  ⟨s.siteCleared_zero clearFld_fail h (.inl ⟨by decide, rfl⟩), s.siteCleared_zero clearFld_masked h (.inl ⟨by decide, rfl⟩),
    State.wr_zero_rd _ _ (.inr (by decide)) (State.wr_zero_same _ _ _), State.wr_zero_same _ _ _⟩

theorem State.siteClear_kept {m : Nat} (n : Nat) (h : s.siteClear m) : (s.siteCleared n).siteClear m := by
  obtain ⟨h1, h2, h3, h4⟩ := h
  exact ⟨s.siteCleared_zero clearFld_fail n (.inr h1), s.siteCleared_zero clearFld_masked n (.inr h2), s.siteCleared_zero clearFld_broken n (.inr h3), s.siteCleared_zero clearFld_vectors n (.inr h4)⟩

/-- The tile's own counts and flag after a CLEAR_ALL, before its sites (R298). -/
def State.tileCleared (s : State) (t : Nat) : State :=
  ((s.each (List.range 64) fun s i => s.wr R.CMP_LANE_FAIL.FAILS (64 * t + i) 0).wr R.CMP_TILE_FAILS.FAILS t 0).wr R.CMP_STATUS.TILE_FAIL t 0

theorem State.tileCleared_tileSlots (t k : Nat) : (s.tileCleared t).tileSlots k = s.tileSlots k := by
  have h : (s.each (List.range 64) fun s i => s.wr R.CMP_LANE_FAIL.FAILS (64 * t + i) 0).m = s.m ∧ (s.each (List.range 64) fun s i => s.wr R.CMP_LANE_FAIL.FAILS (64 * t + i) 0).image = s.image :=
    s.each_induction (P := fun u => u.m = s.m ∧ u.image = s.image) _ _ ⟨rfl, rfl⟩ fun _ _ hu => hu
  have hsites : (s.tileCleared t).sites = s.sites := by rw [State.sites, State.sites, State.tileCleared, State.wr_m, State.wr_m, State.wr_image, State.wr_image, h.1, h.2]
  have hslot (x : Nat) : (s.tileCleared t).slotSite x = s.slotSite x := by rw [State.slotSite, State.slotSite, hsites]
  simp only [State.tileSlots, hslot]

theorem State.tileCleared_lane (t : Nat) {i : Nat} (h : i < 64) : (s.tileCleared t).rd R.CMP_LANE_FAIL.FAILS (64 * t + i) = 0 := by
  refine State.wr_zero_rd _ _ (.inr (by decide)) (State.wr_zero_rd _ _ (.inr (by decide)) ?_)
  exact s.each_all (P := fun i u => u.rd R.CMP_LANE_FAIL.FAILS (64 * t + i) = 0) (fun u n => u.wr_zero_same _ _) (fun u n m h => u.wr_zero_rd _ (.inl rfl) h) i (List.mem_range.2 h)

theorem State.tileCleared_tile (t : Nat) : (s.tileCleared t).rd R.CMP_TILE_FAILS.FAILS t = 0 := State.wr_zero_rd _ _ (.inr (by decide)) (State.wr_zero_same _ _ _)
theorem State.tileCleared_flag (t : Nat) : (s.tileCleared t).rd R.CMP_STATUS.TILE_FAIL t = 0 := State.wr_zero_same _ _ _

theorem State.sitesCleared_zero {g : Fld} {j : Nat} (hg : ClearFld g) (l : List Nat) (h : s.rd g j = 0) : (s.each l State.siteCleared).rd g j = 0 :=
  s.each_induction (P := fun u => u.rd g j = 0) _ _ h fun u n hu => u.siteCleared_zero hg n (.inr hu)

theorem cmpCtlHook_clears (rq : Req) (t : Nat) : cmpCtlHook rq t 1 15 s = ((s.tileCleared t).each ((s.tileCleared t).tileSlots t) State.siteCleared, false) := by
  unfold cmpCtlHook Fx.of
  dsimp only
  rw [show R.CMP_CTL.CLEAR_ALL.acts 1 15 = true by decide, State.when_true]
  rfl

theorem execClearAll_clears {rq : Req} {k : Fin 16} (hw : s.canWrite rq .CMP_CTL k.val) :
    ∃ t, execClearAll rq k s = .next t ∧ t.rd R.CMP_TILE_FAILS.FAILS k.val = 0 ∧ t.fl R.CMP_STATUS.TILE_FAIL k.val = false ∧ (∀ i, i < 64 → t.rd R.CMP_LANE_FAIL.FAILS (64 * k.val + i) = 0) ∧
      ∀ h, h ∈ s.tileSlots k.val → t.siteClear h := by
  have hcopy : s.copyOf rq .CMP_CTL k.val = k.val := s.copyOf_device rfl
  have hook := cmpCtlHook_clears (s.withOut []) rq k.val
  have e := writeRow_takesAt s (h := cmpCtlHook) (w := 1) hw (by rw [hcopy, hook])
  rw [hcopy, hook] at e
  refine ⟨_, e, ?_, ?_, fun i hi => ?_, fun h hm => ?_⟩
  · exact State.sitesCleared_zero _ clearFld_tile _ (State.tileCleared_tile _ _)
  · exact State.fl_eq_false _ |>.2 (State.sitesCleared_zero _ clearFld_flag _ (State.tileCleared_flag _ _))
  · exact State.sitesCleared_zero _ clearFld_lane _ (State.tileCleared_lane _ _ hi)
  · rw [State.tileCleared_tileSlots]
    exact State.each_all _ (P := fun h u => u.siteClear h) State.siteCleared_clear (fun u n m hu => u.siteClear_kept n hu) h hm

theorem siteCtl_noRwl : ∀ f ∈ Reg.CMP_SITE_CTL.fields, f.acc ≠ .rwl := by decide

/-- A CMP_SITE_CTL whose word is written. -/
def State.siteCtl (s : State) (h w : Nat) : State := (writeWord .CMP_SITE_CTL h w 15 s).1

theorem siteCtlHook_acts (rq : Req) {h w : Nat} (hs : (s.slotSite h).isSome = true) : siteCtlHook rq h w 15 s =
    (((s.siteCtl h w).when (R.CMP_SITE_CTL.CLEAR_FAIL.acts w 15) (·.clearFail h)).when (R.CMP_SITE_CTL.CLEAR_TB.acts w 15) (·.wr R.CMP_SITE_STATUS.TIMING_BROKEN h 0), false) := by
  unfold siteCtlHook State.siteCtl
  rw [if_neg (by simpa [Option.isSome_iff_ne_none] using hs), writeWord_open s siteCtl_noRwl]

theorem siteCtl_rd (h w : Nat) {f : Fld} (j : Nat) (hf : f.key % 1024 ∉ Reg.CMP_SITE_CTL.fields.map Fld.key) : (s.siteCtl h w).rd f j = s.rd f j :=
  writeWord_rd_key s siteCtl_noRwl h w j hf

section
variable {rq : Req} {k : Fin 16} {h : Fin 64} {w : Word} (hw : s.canWrite rq .CMP_SITE_CTL (64 * k.val + h.val)) (hs : (s.slotSite (64 * k.val + h.val)).isSome = true)
include hw hs

theorem siteCtl_row (w : Nat) : writeRow rq .CMP_SITE_CTL (64 * k.val + h.val) w siteCtlHook s =
    .next (s.commit ((((s.withOut []).siteCtl (64 * k.val + h.val) w).when (R.CMP_SITE_CTL.CLEAR_FAIL.acts w 15) (·.clearFail (64 * k.val + h.val))).when (R.CMP_SITE_CTL.CLEAR_TB.acts w 15)
      (·.wr R.CMP_SITE_STATUS.TIMING_BROKEN (64 * k.val + h.val) 0))) := by
  have hcopy : s.copyOf rq .CMP_SITE_CTL (64 * k.val + h.val) = 64 * k.val + h.val := s.copyOf_device rfl
  have hook := siteCtlHook_acts (s.withOut []) rq (h := 64 * k.val + h.val) (w := w) hs
  have e := writeRow_takesAt s (h := siteCtlHook) (w := w) hw (by rw [hcopy, hook])
  rwa [hcopy, hook] at e

theorem execClearFail_clears : ∃ t, execClearFail rq k h w s = .next t ∧ t.fl R.CMP_SITE_STATUS.FAIL (64 * k.val + h.val) = false ∧ t.fl R.CMP_SITE_STATUS.MASKED_FIRST (64 * k.val + h.val) = false ∧
    t.rd R.CMP_SITE_FF_LO.FF_CYCLE_LO (64 * k.val + h.val) = 0 ∧ t.rd R.CMP_SITE_FAILV.FAIL_VECTORS (64 * k.val + h.val) = s.rd R.CMP_SITE_FAILV.FAIL_VECTORS (64 * k.val + h.val) ∧
    t.rd R.CMP_SITE_CTL.CMP_OFF (64 * k.val + h.val) = R.CMP_SITE_CTL.CMP_OFF.part w.toNat := by
  have e := siteCtl_row s hw hs (Nat.lor w.toNat 8)
  rw [Fld.acts_lor w.toNat (f := R.CMP_SITE_CTL.CLEAR_FAIL) (b := 8) (by decide), State.when_true] at e
  obtain ⟨u, hu⟩ : ∃ u, (s.withOut []).siteCtl (64 * k.val + h.val) (Nat.lor w.toNat 8) = u := ⟨_, rfl⟩
  obtain ⟨c, hc⟩ : ∃ c, R.CMP_SITE_CTL.CLEAR_TB.acts (Nat.lor w.toNat 8) 15 = c := ⟨_, rfl⟩
  rw [hu, hc] at e
  have htb (f : Fld) (j : Nat) (hf : f.key % 1024 ≠ R.CMP_SITE_STATUS.TIMING_BROKEN.key) :
      ((u.clearFail (64 * k.val + h.val)).when c (·.wr R.CMP_SITE_STATUS.TIMING_BROKEN (64 * k.val + h.val) 0)).rd f j = (u.clearFail (64 * k.val + h.val)).rd f j :=
    State.when_induction _ (P := fun t => t.rd f j = (u.clearFail (64 * k.val + h.val)).rd f j) _ _ rfl (State.wr_rd_key _ _ hf)
  refine ⟨_, e, ?_, ?_, ?_, ?_, ?_⟩
  · exact (State.fl_eq_false _).2 ((htb _ _ (by decide)).trans (u.clearFail_zero _ (by decide) (.inl ⟨by decide, rfl⟩)))
  · exact (State.fl_eq_false _).2 ((htb _ _ (by decide)).trans (u.clearFail_zero _ (by decide) (.inl ⟨by decide, rfl⟩)))
  · exact (htb _ _ (by decide)).trans (u.clearFail_zero _ (by decide) (.inl ⟨by decide, rfl⟩))
  · rw [State.commit_rd, htb _ _ (by decide), State.clearFail_rd_key _ _ _ (by decide), ← hu, siteCtl_rd _ _ _ _ (by decide)]
    rfl
  · rw [State.commit_rd, htb _ _ (by decide), State.clearFail_rd_key _ _ _ (by decide), ← hu]
    exact (writeWord_takes_rw _ siteCtl_noRwl _ _ (by decide) rfl).trans (Fld.part_lor_zero _ (by decide))

theorem execClearTb_clears : ∃ t, execClearTb rq k h w s = .next t ∧ t.fl R.CMP_SITE_STATUS.TIMING_BROKEN (64 * k.val + h.val) = false ∧
    t.rd R.CMP_SITE_CTL.LOG_EN (64 * k.val + h.val) = R.CMP_SITE_CTL.LOG_EN.part w.toNat := by
  have e := siteCtl_row s hw hs (Nat.lor w.toNat 16)
  rw [Fld.acts_lor w.toNat (f := R.CMP_SITE_CTL.CLEAR_TB) (b := 16) (by decide), State.when_true] at e
  obtain ⟨u, hu⟩ : ∃ u, (s.withOut []).siteCtl (64 * k.val + h.val) (Nat.lor w.toNat 16) = u := ⟨_, rfl⟩
  rw [hu] at e
  refine ⟨_, e, (State.fl_eq_false _).2 (State.wr_zero_same _ _ _), ?_⟩
  have hlog : u.rd R.CMP_SITE_CTL.LOG_EN (64 * k.val + h.val) = R.CMP_SITE_CTL.LOG_EN.part w.toNat := by
    rw [← hu]
    exact (writeWord_takes_rw _ siteCtl_noRwl _ _ (by decide) rfl).trans (Fld.part_lor_zero _ (by decide))
  rw [State.commit_rd, State.wr_rd_key _ _ (by decide), ← hlog]
  exact State.when_induction _ (P := fun t => t.rd R.CMP_SITE_CTL.LOG_EN _ = u.rd R.CMP_SITE_CTL.LOG_EN _) _ _ rfl (u.clearFail_rd_key _ _ (by decide))

end

end Sys2Proof.Machine

open Sys2Proof Sys2Proof.Machine

/-- Settles O30: CLEAR_ALL clears a tile with the sites it serves, CLEAR_FAIL and CLEAR_TB one site. -/
theorem compareClears : Obligations.CompareClears := by
  refine ⟨fun s rq k hw => ?_, fun s _ _ _ _ hw hs => execClearFail_clears s hw hs, fun s _ _ _ _ hw hs => execClearTb_clears s hw hs⟩
  obtain ⟨t, e, hc, hf, hl, hsite⟩ := execClearAll_clears s hw
  refine ⟨t, e, hc, hf, hl, fun h hm => ?_⟩
  obtain ⟨h1, h2, h3, h4⟩ := hsite h hm
  exact ⟨(State.fl_eq_false _).2 h1, (State.fl_eq_false _).2 h2, (State.fl_eq_false _).2 h3, h4⟩
end
section
/-! SUPPORT. Timing sets: commit, check and fetch, and the words of an NCO (R171 to R175, R193), and O26. -/

namespace Sys2Proof.Machine

variable (s : State)

/-! Rows of TS_COMMIT -/

theorem tsCommit_noRwl : ∀ f ∈ Reg.TS_COMMIT.fields, f.acc ≠ .rwl := by decide

/-- TS_COMMIT with its word written. -/
def State.tsWritten (s : State) (t w : Nat) : State := (writeWord .TS_COMMIT t w 15 s).1

theorem State.tsWritten_set (t w : Nat) : (s.tsWritten t w).rd R.TS_COMMIT.SET t = R.TS_COMMIT.SET.part w := writeWord_takes_rw s tsCommit_noRwl t w (by decide) rfl
theorem State.tsWritten_tip (t w : Nat) : (s.tsWritten t w).rd R.TS_COMMIT.TIP_REF t = R.TS_COMMIT.TIP_REF.part w := writeWord_takes_rw s tsCommit_noRwl t w (by decide) rfl

theorem State.tsWritten_plays (t w : Nat) : (s.tsWritten t w).plays = s.plays := by
  obtain ⟨v, hv⟩ := writeWord_regs s .TS_COMMIT t w 15
  rw [State.tsWritten, hv]

theorem State.tsWritten_play (t w k : Nat) : (s.tsWritten t w).play k = s.play k := by rw [State.play, State.play, State.tsWritten_plays]

theorem tsCommitHook_busy {rq : Req} {t w : Nat} (hb : s.rd R.TS_COMMIT.STATUS t = 1) (ha : R.TS_COMMIT.COMMIT.acts w 15 = true ∨ R.TS_COMMIT.FETCH.acts w 15 = true) :
    tsCommitHook rq t w 15 s = (s, true) := by
  refine if_pos ?_
  rcases ha with ha | ha <;> simp [hb, ha]

theorem tsCommitHook_commits {rq : Req} {t w : Nat} (hb : s.rd R.TS_COMMIT.STATUS t ≠ 1) (ha : R.TS_COMMIT.COMMIT.acts w 15 = true) :
    tsCommitHook rq t w 15 s = ((s.tsWritten t w).commitBegin t, R.TS_COMMIT.FETCH.acts w 15) := by
  unfold tsCommitHook
  dsimp only
  rw [if_neg (by simp [hb]), if_pos ha, State.tsWritten]

theorem tsCommitHook_fetches {rq : Req} {t w : Nat} (hb : s.rd R.TS_COMMIT.STATUS t ≠ 1) (hc : R.TS_COMMIT.COMMIT.acts w 15 = false) (ha : R.TS_COMMIT.FETCH.acts w 15 = true) :
    tsCommitHook rq t w 15 s = ((s.tsWritten t w).setFetch t ((s.tsWritten t w).rd R.TS_COMMIT.SET t), false) := by
  unfold tsCommitHook
  dsimp only
  rw [if_neg (by simp [hb]), if_neg (ne_true_of_eq_false hc), if_pos ha, State.tsWritten]

/-- A row whose rule refuses a function's write, and leaves the state to it, only counts the refusal (R467). -/
theorem writeRow_counts {f : Fin 64} {r : Reg} {i w : Nat} {h : Hook} (hw : s.canWrite (.fn f) r i) (hr : h (.fn f) (s.copyOf (.fn f) r i) w 15 (s.withOut []) = (s.withOut [], true)) :
    ∃ t, writeRow (.fn f) r i w h s = .next t ∧ t.rd R.HOST_REFUSE.COUNT f.val = min (s.rd R.HOST_REFUSE.COUNT f.val + 1) 65535 ∧ s.keeps t [.regs] ∧ s.keepsFields t refuseFields := by
  obtain ⟨hcount, -, -, hk, hf⟩ := s.refused_counts (f := f) (r.offset i)
  have e := writeRow_refusesAt s (h := h) (w := w) hw (by rw [hr])
  rw [hr] at e
  exact ⟨_, e, hcount, hk, hf⟩

/-- A row whose rule ends the write leaves what the rule leaves, but for a count of the refusal. -/
theorem writeRow_leaves {rq : Req} {r : Reg} {i w : Nat} {h : Hook} {u : State} {b : Bool} (hw : s.canWrite rq r i) (hr : h rq (s.copyOf rq r i) w 15 (s.withOut []) = (u, b)) :
    ∃ t, writeRow rq r i w h s = .next t ∧ t.plays = u.plays ∧ ∀ (g : Fld) (j : Nat), g.key % 1024 ∉ refuseFields.map Fld.key → t.rd g j = u.rd g j := by
  cases b with
  | false =>
    have e := writeRow_takesAt s (h := h) (w := w) hw (by rw [hr])
    rw [hr] at e
    exact ⟨_, e, rfl, fun _ _ _ => rfl⟩
  | true =>
    have e := writeRow_refusesAt s (h := h) (w := w) hw (by rw [hr])
    rw [hr] at e
    have hk : u.keeps (u.refuse rq (r.offset i) false) [.regs] := by simp
    have hf : u.keepsFields (u.refuse rq (r.offset i) false) refuseFields := by simp
    exact ⟨_, e, hk .plays (by decide), fun g j hg => hf g j hg⟩

section
variable {rq : Req} {k : Fin 16} {w : Word} (hw : s.canWrite rq .TS_COMMIT k.val) (hb : s.rd R.TS_COMMIT.STATUS k.val ≠ 1)
include hw hb

theorem execTsCommit_begins : ∃ t, execTsCommit rq k w s = .next t ∧ t.rd R.TS_COMMIT.STATUS k.val = 1 ∧ (t.play k.val).commit = (R.TS_COMMIT.SET.part w.toNat, R.TS_COMMIT.TIP_REF.part w.toNat) ∧
    (t.play k.val).sets = (s.play k.val).sets := by
  have hcopy : s.copyOf rq .TS_COMMIT k.val = k.val := s.copyOf_device rfl
  have hook : tsCommitHook rq (s.copyOf rq .TS_COMMIT k.val) (Nat.lor w.toNat 32) 15 (s.withOut []) =
      (((s.withOut []).tsWritten k.val (Nat.lor w.toNat 32)).commitBegin k.val, R.TS_COMMIT.FETCH.acts (Nat.lor w.toNat 32) 15) := by
    rw [hcopy]
    exact tsCommitHook_commits (s.withOut []) hb (Fld.acts_lor w.toNat (by decide))
  obtain ⟨t, e, hp, hr⟩ := writeRow_leaves s hw hook
  refine ⟨t, e, ?_, ?_, ?_⟩
  · rw [hr _ _ (by decide), State.commitBegin, State.wr_rd_same]
    rfl
  · rw [State.play, hp, ← State.play, State.commitBegin, State.wr_play, State.setPlay_play_same, State.tsWritten_set, State.tsWritten_tip, Fld.part_lor_zero _ (by decide),
      Fld.part_lor_zero _ (by decide)]
  · rw [State.play, hp, ← State.play, State.commitBegin, State.wr_play, State.setPlay_play_same, State.tsWritten_play]
    rfl

end

/-! The end of a commit -/

/-- Items written one after another: an item reads its value where every write of it gives that value. -/
theorem items_written {l : List (Nat × Nat)} {k v : Nat} (hall : ∀ e ∈ l, e.1 = k → e.2 = v) (m : SMap Nat) (h : smGet (setDefault k) m k = v ∨ ∃ e ∈ l, e.1 = k) :
    smGet (setDefault k) (l.foldl (fun m e => smSet (setDefault e.1) m e.1 e.2) m) k = v := by
  induction l generalizing m with
  | nil => exact h.resolve_right fun ⟨_, he, _⟩ => absurd he List.not_mem_nil
  | cons a l ih =>
    refine ih (fun e he => hall e (List.mem_cons_of_mem _ he)) _ ?_
    by_cases hk : a.1 = k
    · subst hk
      exact .inl ((smGet_smSet_same _ _ _ _).trans (hall a List.mem_cons_self rfl))
    · rw [smGet_smSet_ne _ _ _ _ (Ne.symm hk)]
      refine h.imp_right fun ⟨e, he, hek⟩ => ⟨e, (List.mem_cons.1 he).resolve_left fun h0 => hk (h0 ▸ hek), hek⟩

theorem State.mem_stagedItems {t n tip : Nat} {e : Nat × Nat} : e ∈ s.stagedItems t n tip ↔
    (∃ i w, i < 64 ∧ w < 7 ∧ e = (n * 1024 + 8 * i + w, if w < 6 then s.rd R.TS_LANE_EDGE.EDGE (edgeInst t i w) else s.stagedMode t i)) ∨
      e = (n * 1024 + 512, 128 * s.rd R.TS_STAGE_PERIOD.COARSE t + s.rd R.TS_STAGE_PERIOD.FINE t) ∨ e = (n * 1024 + 513, tip) := by
  simp only [State.stagedItems, List.mem_append, List.mem_flatMap, List.mem_map, List.mem_range, List.mem_cons, List.not_mem_nil, or_false]
  refine or_congr ⟨?_, ?_⟩ Iff.rfl
  · rintro ⟨i, hi, w, hw, rfl⟩
    exact ⟨i, w, hi, hw, rfl⟩
  · rintro ⟨i, w, hi, hw, rfl⟩
    exact ⟨i, hi, w, hw, rfl⟩

/-- The staged items written over the sets of a tile. -/
def State.setsCommitted (s : State) (t n tip : Nat) : SMap Nat := (s.stagedItems t n tip).foldl (fun m e => smSet (setDefault e.1) m e.1 e.2) (s.play t).sets

section
variable (t n tip : Nat)

theorem State.setsCommitted_period : smGet (setDefault (n * 1024 + 512)) (s.setsCommitted t n tip) (n * 1024 + 512) = 128 * s.rd R.TS_STAGE_PERIOD.COARSE t + s.rd R.TS_STAGE_PERIOD.FINE t := by
  refine items_written (fun e he hk => ?_) _ (.inr ⟨_, s.mem_stagedItems.2 (.inr (.inl rfl)), rfl⟩)
  obtain ⟨i, w, hi, hw, rfl⟩ | rfl | rfl := s.mem_stagedItems.1 he
  · dsimp only at hk
    omega
  · rfl
  · dsimp only at hk
    omega

theorem State.setsCommitted_tip : smGet (setDefault (n * 1024 + 513)) (s.setsCommitted t n tip) (n * 1024 + 513) = tip := by
  refine items_written (fun e he hk => ?_) _ (.inr ⟨_, s.mem_stagedItems.2 (.inr (.inr rfl)), rfl⟩)
  obtain ⟨i, w, hi, hw, rfl⟩ | rfl | rfl := s.mem_stagedItems.1 he
  · dsimp only at hk
    omega
  · dsimp only at hk
    omega
  · rfl

theorem State.setsCommitted_word {i w : Nat} (hi : i < 64) (hw : w < 7) : smGet (setDefault (n * 1024 + 8 * i + w)) (s.setsCommitted t n tip) (n * 1024 + 8 * i + w) =
    if w < 6 then s.rd R.TS_LANE_EDGE.EDGE (edgeInst t i w) else s.stagedMode t i := by
  refine items_written (fun e he hk => ?_) _ (.inr ⟨_, s.mem_stagedItems.2 (.inl ⟨i, w, hi, hw, rfl⟩), rfl⟩)
  obtain ⟨i', w', hi', hw', rfl⟩ | rfl | rfl := s.mem_stagedItems.1 he
  · dsimp only at hk
    obtain rfl : i' = i := by omega
    obtain rfl : w' = w := by omega
    rfl
  · dsimp only at hk
    omega
  · dsimp only at hk
    omega

end

/-- The check of R174 shows its result in TS_COMMIT. -/
def State.tsChecked (s : State) (t cause detail : Nat) : State :=
  ((s.wr R.TS_COMMIT.CAUSE t cause).wr R.TS_COMMIT.DETAIL t detail).wr R.TS_COMMIT.STATUS t (if cause = 0 then 2 else 3)

theorem laneCheck_lt (tip : Bool) (delay period m : Nat) (e : Nat → Nat) : laneCheck tip delay period m e < 16 := by
  unfold laneCheck
  dsimp only
  split_ifs <;> decide

/-- CAUSE and DETAIL fit their fields. -/
theorem State.setCheck_lt (t : Nat) (tip : Bool) : (s.setCheck t tip).1 < 16 ∧ (s.setCheck t tip).2 < 64 := by
  unfold State.setCheck
  dsimp only
  split
  · exact ⟨by decide, by decide⟩
  split
  · next i hi => exact ⟨laneCheck_lt _ _ _ _ _, List.mem_range.1 (List.mem_of_find?_eq_some hi)⟩
  · exact ⟨by decide, by decide⟩

theorem execTsCommitDone_idle {k : Fin 16} (hb : s.rd R.TS_COMMIT.STATUS k.val ≠ 1) : ∃ t, execTsCommitDone k s = .next t ∧ s.keeps t [] := done_idle s (if_pos hb)

section
variable {k : Fin 16} {n tip : Nat} (hb : s.rd R.TS_COMMIT.STATUS k.val = 1) (hc : (s.play k.val).commit = (n, tip))
include hb hc

theorem execTsCommitDone_is {cause detail : Nat} (hk : s.setCheck k.val (decide (tip = 1)) = (cause, detail)) : execTsCommitDone k s =
    .next (s.commit ((((s.withOut []).tsChecked k.val cause detail).when (cause = 0) fun u =>
      u.setPlay k.val { u.play k.val with sets := (u.stagedItems k.val n tip).foldl (fun m e => smSet (setDefault e.1) m e.1 e.2) (u.play k.val).sets }).raise (64 + 16 * k.val + 11))) := by
  refine done_is s ?_
  simp only [State.withOut_play, hc]
  rw [if_neg (show ¬(s.withOut []).rd R.TS_COMMIT.STATUS k.val ≠ 1 from not_not.2 hb), show (s.withOut []).setCheck k.val (decide (tip = 1)) = (cause, detail) from hk]
  rfl

theorem execTsCommitDone_copies (hk : (s.setCheck k.val (decide (tip = 1))).1 = 0) :
    ∃ t, execTsCommitDone k s = .next t ∧ t.rd R.TS_COMMIT.STATUS k.val = 2 ∧ t.rd R.TS_COMMIT.CAUSE k.val = 0 ∧ (t.play k.val).sets = s.setsCommitted k.val n tip ∧
      t.hub.asserted = s.hub.asserted ++ [(64 + 16 * k.val + 11, 0)] ∧ s.keeps t [.regs, .hub, .plays] := by
  have e := execTsCommitDone_is s hb hc (cause := 0) (detail := (s.setCheck k.val (decide (tip = 1))).2) (by rw [← hk])
  rw [decide_eq_true rfl, State.when_true] at e
  refine ⟨_, e, ?_, ?_, ?_, rfl, State.keeps_commit (by simp [State.tsChecked])⟩
  · rw [State.commit_rd, State.raise_rd, State.setPlay_rd, State.tsChecked, State.wr_rd_same]
    rfl
  · rw [State.commit_rd, State.raise_rd, State.setPlay_rd, State.tsChecked, State.wr_rd_key _ _ (by decide), State.wr_rd_key _ _ (by decide), State.wr_rd_same]
    rfl
  · rw [State.commit_play, State.raise_play, State.setPlay_play_same]
    have hstaged : ((s.withOut []).tsChecked k.val 0 (s.setCheck k.val (decide (tip = 1))).2).stagedItems k.val n tip = s.stagedItems k.val n tip := by
      simp (disch := decide) [State.stagedItems, State.stagedMode, State.tsChecked]
    dsimp only
    rw [hstaged]
    rfl

theorem execTsCommitDone_rejects {c d : Nat} (hk : s.setCheck k.val (decide (tip = 1)) = (c, d)) (h0 : c ≠ 0) :
    ∃ t, execTsCommitDone k s = .next t ∧ t.rd R.TS_COMMIT.STATUS k.val = 3 ∧ t.rd R.TS_COMMIT.CAUSE k.val = c ∧ t.rd R.TS_COMMIT.DETAIL k.val = d ∧ t.plays = s.plays ∧
      t.hub.asserted = s.hub.asserted ++ [(64 + 16 * k.val + 11, 0)] := by
  have e := execTsCommitDone_is s hb hc hk
  rw [decide_eq_false h0, State.when_false] at e
  obtain ⟨hc16, hd64⟩ := s.setCheck_lt k.val (decide (tip = 1))
  rw [hk] at hc16 hd64
  refine ⟨_, e, ?_, ?_, ?_, rfl, rfl⟩
  · rw [State.commit_rd, State.raise_rd, State.tsChecked, State.wr_rd_same, if_neg h0]
    rfl
  · rw [State.commit_rd, State.raise_rd, State.tsChecked, State.wr_rd_key _ _ (by decide), State.wr_rd_key _ _ (by decide), State.wr_rd_same]
    exact Nat.mod_eq_of_lt hc16
  · rw [State.commit_rd, State.raise_rd, State.tsChecked, State.wr_rd_key _ _ (by decide), State.wr_rd_same]
    exact Nat.mod_eq_of_lt hd64

end

/-! The fetch of a set -/

/-- One lane of a fetched set. -/
def State.laneFetched (s : State) (t n : Nat) (p : PlaySt) (i : Nat) : State :=
  (((s.each (List.range 6) fun s e => s.wr R.TS_LANE_EDGE.EDGE (edgeInst t i e) (p.setWord n i e)).wr R.TS_LANE_MODE.FORMAT (64 * t + i) (modeFormat (p.setWord n i 6))).wb R.TS_LANE_MODE.CMP_MODE
    (64 * t + i) (modeWindow (p.setWord n i 6))).wr R.TS_LANE_MODE.NCO_SEL (64 * t + i) (modeNco (p.setWord n i 6))

theorem State.setFetch_eq (t n : Nat) : s.setFetch t n =
    (((s.each (List.range 64) fun u i => u.laneFetched t n (s.play t) i).wr R.TS_STAGE_PERIOD.COARSE t ((s.play t).setPeriod n / 128)).wr R.TS_STAGE_PERIOD.FINE t ((s.play t).setPeriod n % 128)).wb
      R.TS_COMMIT.TIP_REF t ((s.play t).setTip n) := rfl

section
variable (t n : Nat) (p : PlaySt)

theorem State.laneFetched_rd (i : Nat) {f : Fld} (j : Nat)
    (hf : f.key % 1024 ∉ [R.TS_LANE_EDGE.EDGE.key, R.TS_LANE_MODE.FORMAT.key, R.TS_LANE_MODE.CMP_MODE.key, R.TS_LANE_MODE.NCO_SEL.key]) : (s.laneFetched t n p i).rd f j = s.rd f j := by
  simp only [List.mem_cons, List.not_mem_nil, or_false, not_or] at hf
  obtain ⟨h1, h2, h3, h4⟩ := hf
  rw [State.laneFetched, State.wr_rd_key _ _ h4, State.wb_rd_key _ _ h3, State.wr_rd_key _ _ h2]
  exact s.each_induction (P := fun u => u.rd f j = s.rd f j) _ _ rfl fun u _ hu => (u.wr_rd_key _ h1).trans hu

theorem State.laneFetched_plays (i : Nat) : (s.laneFetched t n p i).plays = s.plays := by
  simp only [State.laneFetched, State.wb, State.wr_plays]
  exact s.each_induction (P := fun u => u.plays = s.plays) _ _ rfl fun _ _ hu => hu

theorem State.laneFetched_format (i j : Nat) : (s.laneFetched t n p i).rd R.TS_LANE_MODE.FORMAT (64 * t + j) =
    if j = i then modeFormat (p.setWord n i 6) else s.rd R.TS_LANE_MODE.FORMAT (64 * t + j) := by
  have hlt : modeFormat (p.setWord n i 6) % 2 ^ R.TS_LANE_MODE.FORMAT.width = modeFormat (p.setWord n i 6) := Nat.mod_eq_of_lt (bits_lt _ _ _)
  rw [State.laneFetched, State.wr_rd_key _ _ (by decide), State.wb_rd_key _ _ (by decide)]
  split
  · next h => rw [h, State.wr_rd_same, hlt]
  · next h =>
    rw [State.wr_rd_inst _ _ (by omega)]
    exact s.each_induction (P := fun u => u.rd R.TS_LANE_MODE.FORMAT (64 * t + j) = s.rd R.TS_LANE_MODE.FORMAT (64 * t + j)) _ _ rfl fun u _ hu => (u.wr_rd_key _ (by decide)).trans hu

end

section
variable (t n : Nat)

theorem State.setFetch_format {i : Nat} (h : i < 64) : (s.setFetch t n).rd R.TS_LANE_MODE.FORMAT (64 * t + i) = modeFormat ((s.play t).setWord n i 6) := by
  rw [State.setFetch_eq, State.wb_rd_key _ _ (by decide), State.wr_rd_key _ _ (by decide), State.wr_rd_key _ _ (by decide)]
  refine s.each_all (P := fun i u => u.rd R.TS_LANE_MODE.FORMAT (64 * t + i) = modeFormat ((s.play t).setWord n i 6)) (fun u i => ?_) (fun u i j hu => ?_) i (List.mem_range.2 h)
  · rw [State.laneFetched_format, if_pos rfl]
  · rw [State.laneFetched_format]
    split
    · next e => rw [e]
    · exact hu

theorem State.setFetch_plays : (s.setFetch t n).plays = s.plays := by
  rw [State.setFetch_eq, State.wb, State.wr_plays, State.wr_plays, State.wr_plays]
  exact s.each_induction (P := fun u => u.plays = s.plays) _ _ rfl fun u i hu => (u.laneFetched_plays t n _ i).trans hu

theorem State.setFetch_set (j : Nat) : (s.setFetch t n).rd R.TS_COMMIT.SET j = s.rd R.TS_COMMIT.SET j := by
  rw [State.setFetch_eq, State.wb_rd_key _ _ (by decide), State.wr_rd_key _ _ (by decide), State.wr_rd_key _ _ (by decide)]
  exact s.each_induction (P := fun u => u.rd R.TS_COMMIT.SET j = s.rd R.TS_COMMIT.SET j) _ _ rfl fun u i hu => (u.laneFetched_rd t n _ i j (by decide)).trans hu

theorem State.setFetch_fine : (s.setFetch t n).rd R.TS_STAGE_PERIOD.FINE t = (s.play t).setPeriod n % 128 := by
  rw [State.setFetch_eq, State.wb_rd_key _ _ (by decide), State.wr_rd_same]
  exact Nat.mod_mod _ _

theorem State.setFetch_coarse : (s.setFetch t n).rd R.TS_STAGE_PERIOD.COARSE t = (s.play t).setPeriod n / 128 % 2 ^ R.TS_STAGE_PERIOD.COARSE.width := by
  rw [State.setFetch_eq, State.wb_rd_key _ _ (by decide), State.wr_rd_key _ _ (by decide), State.wr_rd_same]

end

theorem execTsFetch_fetches {rq : Req} {k : Fin 16} {w : Word} {n : Nat} (hw : s.canWrite rq .TS_COMMIT k.val) (hb : s.rd R.TS_COMMIT.STATUS k.val ≠ 1)
    (hc : R.TS_COMMIT.COMMIT.part w.toNat = 0) (hn : R.TS_COMMIT.SET.part w.toNat = n) :
    ∃ t, execTsFetch rq k w s = .next t ∧ t.rd R.TS_COMMIT.SET k.val = n ∧ t.plays = s.plays ∧ t.rd R.TS_STAGE_PERIOD.FINE k.val = (s.play k.val).setPeriod n % 128 ∧
      t.rd R.TS_STAGE_PERIOD.COARSE k.val = (s.play k.val).setPeriod n / 128 % 2 ^ R.TS_STAGE_PERIOD.COARSE.width ∧
      ∀ i, i < 64 → t.rd R.TS_LANE_MODE.FORMAT (64 * k.val + i) = modeFormat ((s.play k.val).setWord n i 6) := by
  have hcopy : s.copyOf rq .TS_COMMIT k.val = k.val := s.copyOf_device rfl
  obtain ⟨u, hu⟩ : ∃ u, (s.withOut []).tsWritten k.val (Nat.lor w.toNat 64) = u := ⟨_, rfl⟩
  have hset : u.rd R.TS_COMMIT.SET k.val = n := by rw [← hu, State.tsWritten_set, Fld.part_lor_zero _ (by decide), hn]
  have hplays : u.plays = s.plays := by rw [← hu, State.tsWritten_plays, State.withOut_plays]
  have hplay : u.play k.val = s.play k.val := by rw [State.play, State.play, hplays]
  have hcommit : R.TS_COMMIT.COMMIT.acts (Nat.lor w.toNat 64) 15 = false := by
    rw [Fld.acts, Fld.part_lor_zero _ (by decide), hc]
    exact Bool.and_false _
  have hook : tsCommitHook rq (s.copyOf rq .TS_COMMIT k.val) (Nat.lor w.toNat 64) 15 (s.withOut []) = (u.setFetch k.val n, false) := by
    rw [hcopy, tsCommitHook_fetches (s.withOut []) hb hcommit (Fld.acts_lor w.toNat (by decide)), hu, hset]
  obtain ⟨t, e, hp, hr⟩ := writeRow_leaves s hw hook
  refine ⟨t, e, ?_, ?_, ?_, ?_, fun i hi => ?_⟩
  · rw [hr _ _ (by decide), State.setFetch_set, hset]
  · rw [hp, State.setFetch_plays, hplays]
  · rw [hr _ _ (by decide), State.setFetch_fine, hplay]
  · rw [hr _ _ (by decide), State.setFetch_coarse, hplay]
  · rw [hr _ _ (by decide), State.setFetch_format _ _ _ hi, hplay]

/-! The words of an NCO -/

/-- The registers of both halves of FTW once the high half is written (R193). -/
def State.ftwWritten (s : State) (i w : Nat) : State :=
  (s.wr R.TS_NCO_FTW_LO.FTW_LO i ((s.play (i / 8)).nco (i % 8)).stagedLo).wr R.TS_NCO_FTW_HI.FTW_HI i (R.TS_NCO_FTW_HI.FTW_HI.part w)

theorem ncoHiHook_writes (rq : Req) (i w : Nat) : ncoHiHook rq i w 15 s = (if (s.play (i / 8)).playing then s.ftwWritten i w else (s.ftwWritten i w).ncoSync (i / 8) (i % 8), false) := by
  unfold ncoHiHook
  rw [Fld.enabled_whole]
  rfl

section
variable (i w : Nat)

theorem State.ftwWritten_hi : (s.ftwWritten i w).rd R.TS_NCO_FTW_HI.FTW_HI i = R.TS_NCO_FTW_HI.FTW_HI.part w := by
  rw [State.ftwWritten, State.wr_rd_same, Fld.part_mod]

theorem State.ftwWritten_lo : (s.ftwWritten i w).rd R.TS_NCO_FTW_LO.FTW_LO i = ((s.play (i / 8)).nco (i % 8)).stagedLo % 2 ^ 32 := by
  rw [State.ftwWritten, State.wr_rd_key _ _ (by decide), State.wr_rd_same]
  rfl

end

theorem State.ncoSync_nco (t k : Nat) : (((s.ncoSync t k).play t).nco k).ftw = s.ncoFtw t k := by
  rw [State.ncoSync, State.setPlay_play_same, PlaySt.nco, PlaySt.setNco, smGet_smSet_same]

theorem execNcoFtwCommit_commits {rq : Req} {t' : Fin 16} {k : Fin 8} {w : Word} (hw : s.canWrite rq .TS_NCO_FTW_HI (8 * t'.val + k.val)) :
    ∃ t, execNcoFtwCommit rq t' k w s = .next t ∧ t.rd R.TS_NCO_FTW_HI.FTW_HI (8 * t'.val + k.val) = R.TS_NCO_FTW_HI.FTW_HI.part w.toNat ∧
      t.rd R.TS_NCO_FTW_LO.FTW_LO (8 * t'.val + k.val) = ((s.play t'.val).nco k.val).stagedLo % 2 ^ 32 ∧
      ((s.play t'.val).playing = false → ((t.play t'.val).nco k.val).ftw = ((s.play t'.val).nco k.val).stagedLo % 2 ^ 32 + 2 ^ 32 * R.TS_NCO_FTW_HI.FTW_HI.part w.toNat) ∧
      ((s.play t'.val).playing = true → t.plays = s.plays) := by
  have hcopy : s.copyOf rq .TS_NCO_FTW_HI (8 * t'.val + k.val) = 8 * t'.val + k.val := s.copyOf_device rfl
  have hdiv : (8 * t'.val + k.val) / 8 = t'.val := by omega
  have hmod : (8 * t'.val + k.val) % 8 = k.val := by omega
  obtain ⟨u, hu⟩ : ∃ u, (s.withOut []).ftwWritten (8 * t'.val + k.val) w.toNat = u := ⟨_, rfl⟩
  have hhi : u.rd R.TS_NCO_FTW_HI.FTW_HI (8 * t'.val + k.val) = R.TS_NCO_FTW_HI.FTW_HI.part w.toNat := by rw [← hu, State.ftwWritten_hi]
  have hlo : u.rd R.TS_NCO_FTW_LO.FTW_LO (8 * t'.val + k.val) = ((s.play t'.val).nco k.val).stagedLo % 2 ^ 32 := by rw [← hu, State.ftwWritten_lo, hdiv, hmod, State.withOut_play]
  have hplays : u.plays = s.plays := by rw [← hu]; rfl
  cases hp : (s.play t'.val).playing with
  | true =>
    have hook : ncoHiHook rq (s.copyOf rq .TS_NCO_FTW_HI (8 * t'.val + k.val)) w.toNat 15 (s.withOut []) = (u, false) := by
      rw [hcopy, ncoHiHook_writes, hu, hdiv, State.withOut_play, hp, if_pos rfl]
    obtain ⟨t, e, hpl, hr⟩ := writeRow_leaves s hw hook
    exact ⟨t, e, (hr _ _ (by decide)).trans hhi, (hr _ _ (by decide)).trans hlo, fun h => absurd h (by decide), fun _ => hpl.trans hplays⟩
  | false =>
    have hook : ncoHiHook rq (s.copyOf rq .TS_NCO_FTW_HI (8 * t'.val + k.val)) w.toNat 15 (s.withOut []) = (u.ncoSync t'.val k.val, false) := by
      rw [hcopy, ncoHiHook_writes, hu, hdiv, hmod, State.withOut_play, hp, if_neg Bool.false_ne_true]
    obtain ⟨t, e, hpl, hr⟩ := writeRow_leaves s hw hook
    refine ⟨t, e, (hr _ _ (by decide)).trans hhi, (hr _ _ (by decide)).trans hlo, fun _ => ?_, fun h => absurd h (by decide)⟩
    rw [State.play, hpl, ← State.play, State.ncoSync_nco, State.ncoFtw, hhi, hlo]

end Sys2Proof.Machine

open Sys2Proof Sys2Proof.Machine

/-- Settles O26: a commit takes its set, its end copies the staged set in or names the cause, a fetch copies a set out, and the high half of FTW commits both. -/
theorem timingSets : Obligations.TimingSets := by
  refine ⟨fun s _ _ _ hw hb => execTsCommit_begins s hw hb, ?busyCommit, ?busyFetch, fun s _ hb => execTsCommitDone_idle s hb, ?copies,
    fun s _ _ _ _ _ hb hc hk h0 => execTsCommitDone_rejects s hb hc hk h0, fun s _ _ _ _ hw hb hc hn => execTsFetch_fetches s hw hb hc hn, fun s _ _ _ _ hw => execNcoFtwCommit_commits s hw⟩
  case busyCommit =>
    intro s f k w hw hb
    refine writeRow_counts s hw (tsCommitHook_busy _ ?_ (.inl (Fld.acts_lor w.toNat (by decide))))
    rw [s.copyOf_device rfl]
    exact hb
  case busyFetch =>
    intro s f k w hw hb
    refine writeRow_counts s hw (tsCommitHook_busy _ ?_ (.inr (Fld.acts_lor w.toNat (by decide))))
    rw [s.copyOf_device rfl]
    exact hb
  case copies =>
    intro s k n tip hb hc hk
    obtain ⟨t, e, hst, hcause, hsets, has, hkeep⟩ := execTsCommitDone_copies s hb hc hk
    refine ⟨t, e, hst, hcause, ?_, ?_, fun i hi => ⟨?_, ?_⟩, has, hkeep⟩
    · rw [PlaySt.setPeriod, PlaySt.item, hsets, State.setsCommitted_period]
    · rw [PlaySt.item, hsets, State.setsCommitted_tip]
    · rw [PlaySt.setWord, PlaySt.item, hsets, State.setsCommitted_word _ _ _ _ hi (by decide), if_pos (by decide)]
    · rw [PlaySt.setWord, PlaySt.item, hsets, State.setsCommitted_word _ _ _ _ hi (by decide), if_neg (by decide)]
end
section
/-! SUPPORT. The compare results of a lane (R28, R291 to R303), and O29. -/

namespace Sys2Proof.Machine

variable (s : State)

/-! The record of a vector and the fail of a site -/

@[simp] theorem State.modVec_rd (t : Nat) (x : VecRec) (f : VecRec → VecRec) (g : Fld) (i : Nat) : (s.modVec t x f).rd g i = s.rd g i := rfl
@[simp] theorem State.modVec_hub (t : Nat) (x : VecRec) (f : VecRec → VecRec) : (s.modVec t x f).hub = s.hub := rfl
@[simp] theorem State.vecsDone_rd (t : Nat) (g : Fld) (i : Nat) : (s.vecsDone t).rd g i = s.rd g i := rfl
@[simp] theorem State.vecsDone_hub (t : Nat) : (s.vecsDone t).hub = s.hub := rfl
@[simp] theorem State.vecsDone_lane (t k : Nat) : (s.vecsDone t).lane k = s.lane k := rfl

theorem State.vecsDone_passFail (t : Nat) : ((s.vecsDone t).play t).passFail = (s.play t).passFail := by
  rw [State.vecsDone, State.setPlay_play_same]

theorem State.keeps_vecsDone {s t : State} {p : List Part} (k : Nat) (hp : .plays ∈ p) : s.keeps (t.vecsDone k) p ↔ s.keeps t p := State.keeps_setPlay k _ hp

section
variable (d : SiteDecl) (t : Nat) (x : VecRec) (a : Nat)

/-- The fields of a first-fail record (R301). -/
def recordFlds : List Fld := [R.CMP_SITE_FF_LO.FF_CYCLE_LO, R.CMP_SITE_FF_HI.FF_CYCLE_HI, R.CMP_SITE_FF_HI.FF_TILE, R.CMP_SITE_FF_VA.VA_SEG, R.CMP_SITE_FF_INFO.PASS_SLOT]

theorem State.firstRecord_rd {f : Fld} (i : Nat) (h : f.key % 1024 ∉ recordFlds.map Fld.key) : (s.firstRecord d t x a).rd f i = s.rd f i := by
  simp only [recordFlds, List.map_cons, List.map_nil, List.mem_cons, List.not_mem_nil, or_false, not_or] at h
  obtain ⟨h1, h2, h3, h4, h5⟩ := h
  rw [State.firstRecord, State.wr_rd_key _ _ h5, State.wr_rd_key _ _ h4, State.wr_rd_key _ _ h3, State.wr_rd_key _ _ h2, State.wr_rd_key _ _ h1, State.setPlay_rd]

theorem State.firstRecord_hub : (s.firstRecord d t x a).hub = s.hub := by
  rw [State.firstRecord, State.wr_hub, State.wr_hub, State.wr_hub, State.wr_hub, State.wr_hub, State.setPlay_hub]

theorem State.unFirst_hub (i j k : Nat) : (s.unFirst i j k).hub = s.hub := State.setPlay_hub _ _ _

theorem State.unFirst_rd (i j k : Nat) (f : Fld) (n : Nat) : (s.unFirst i j k).rd f n = s.rd f n := State.setPlay_rd _ _ _ _ _

theorem State.firstRecord_shows (ht : t < 16) : (s.firstRecord d t x a).rd R.CMP_SITE_FF_LO.FF_CYCLE_LO d.home = x.cycle % 2 ^ 32 ∧
    (s.firstRecord d t x a).rd R.CMP_SITE_FF_HI.FF_CYCLE_HI d.home = x.cycle / 2 ^ 32 % 2 ^ 16 ∧ (s.firstRecord d t x a).rd R.CMP_SITE_FF_HI.FF_TILE d.home = t := by
  have ht' : t % 2 ^ R.CMP_SITE_FF_HI.FF_TILE.width = t := Nat.mod_eq_of_lt ht
  unfold State.firstRecord
  refine ⟨?_, ?_, ?_⟩
  · simp (disch := decide) only [State.wr_rd_key, State.wr_rd_same]
    rfl
  · simp (disch := decide) only [State.wr_rd_key, State.wr_rd_same]
    rfl
  · simp (disch := decide) only [State.wr_rd_key, State.wr_rd_same, ht']

/-- MASKED_FIRST follows the first fail where MASK_ON_FIRST asks for it; no other field does. -/
theorem State.siteFail_rd {f : Fld} (i : Nat) (h : f.key % 1024 ≠ R.CMP_SITE_STATUS.MASKED_FIRST.key) :
    (s.siteFail d t x a).rd f i = ((s.wr R.CMP_SITE_STATUS.FAIL d.home 1).firstRecord d t x a).rd f i := by
  unfold State.siteFail
  exact (State.raiseD_rd _ _ _ _ _).trans
    (State.when_induction _ (P := fun u => u.rd f i = ((s.wr R.CMP_SITE_STATUS.FAIL d.home 1).firstRecord d t x a).rd f i) _ _ rfl (State.wr_rd_key _ _ h))

theorem State.siteFail_asserted : (s.siteFail d t x a).hub.asserted = s.hub.asserted ++ [(64 + 16 * (d.home / 64) + 2, d.site)] := by
  unfold State.siteFail
  rw [State.raiseD_asserted]
  refine congrArg (fun b : HubSt => b.asserted ++ _) (State.when_induction _ (P := fun u => u.hub = s.hub) _ _ ?_ ?_)
  · rw [State.firstRecord_hub, State.wr_hub]
  · rw [State.wr_hub, State.firstRecord_hub, State.wr_hub]

theorem State.siteFirst_fresh (h : s.fl R.CMP_SITE_STATUS.FAIL d.home = false) : (s.siteFirst d t x a).1 = s.siteFail d t x a := by
  unfold State.siteFirst
  dsimp only
  rw [if_pos (by simp [h])]

/-- A fail that is not the first at its site changes nothing of the registers but the record. -/
theorem State.siteFirst_again (h : s.fl R.CMP_SITE_STATUS.FAIL d.home = true) : (s.siteFirst d t x a).1.hub = s.hub ∧
    ∀ (f : Fld) (i : Nat), f.key % 1024 ∉ recordFlds.map Fld.key → (s.siteFirst d t x a).1.rd f i = s.rd f i := by
  unfold State.siteFirst
  dsimp only
  rw [if_neg (by simp [h])]
  split
  · refine ⟨?_, fun f i hf => ?_⟩
    · rw [State.firstRecord_hub, State.unFirst_hub]
    · rw [State.firstRecord_rd _ d t x a i hf, State.unFirst_rd]
  · exact ⟨rfl, fun _ _ _ => rfl⟩

/-- The keys that a first fail writes. -/
def siteKeys : List Nat := R.CMP_SITE_STATUS.FAIL.key :: R.CMP_SITE_STATUS.MASKED_FIRST.key :: recordFlds.map Fld.key

theorem State.siteFirst_rd {f : Fld} (i : Nat) (h : f.key % 1024 ∉ siteKeys) : (s.siteFirst d t x a).1.rd f i = s.rd f i := by
  simp only [siteKeys, List.mem_cons, not_or] at h
  obtain ⟨h1, h2, h3⟩ := h
  cases hF : s.fl R.CMP_SITE_STATUS.FAIL d.home with
  | false => rw [s.siteFirst_fresh d t x a hF, State.siteFail_rd _ _ _ _ _ _ h2, State.firstRecord_rd _ _ _ _ _ _ h3, State.wr_rd_key _ _ h1]
  | true => exact (s.siteFirst_again d t x a hF).2 f i h3

theorem State.siteFirst_fails : (s.siteFirst d t x a).1.fl R.CMP_SITE_STATUS.FAIL d.home = true := by
  cases hF : s.fl R.CMP_SITE_STATUS.FAIL d.home with
  | false =>
    rw [s.siteFirst_fresh d t x a hF, State.fl, State.siteFail_rd _ _ _ _ _ _ (by decide), State.firstRecord_rd _ _ _ _ _ _ (by decide), State.wr_rd_same]
    rfl
  | true => rw [State.fl, (s.siteFirst_again d t x a hF).2 _ _ (by decide), ← State.fl_eq, hF]

end

/-! A counted fail -/

section
variable (l : Nat) (d : SiteDecl) (x : VecRec) (a : Nat)

/-- The counts of a fail for its lane, tile and site (R297, R299). -/
def State.failCounted (s : State) (l : Nat) (d : SiteDecl) (x : VecRec) : State :=
  (((s.bump R.CMP_LANE_FAIL.FAILS l 1).wr R.CMP_STATUS.TILE_FAIL (l / 64) 1).when (!x.counted) (·.bump R.CMP_TILE_FAILS.FAILS (l / 64) 1)).when (!x.fails.any (·.site = d.site))
    (·.bump R.CMP_SITE_FAILV.FAIL_VECTORS d.home 1)

theorem State.countFail_eq : ∃ f, s.countFail l d x a = ((s.failCounted l d x).siteFirst d (l / 64) x (a + d.hop (l / 64))).1.modVec (l / 64) x f := ⟨_, rfl⟩

theorem State.failCounted_hub : (s.failCounted l d x).hub = s.hub := by
  unfold State.failCounted
  cases !x.counted <;> cases !x.fails.any (·.site = d.site) <;> simp only [State.when_true, State.when_false, State.bump_hub, State.wr_hub]

theorem State.failCounted_lane : (s.failCounted l d x).rd R.CMP_LANE_FAIL.FAILS l = min (s.rd R.CMP_LANE_FAIL.FAILS l + 1) (2 ^ R.CMP_LANE_FAIL.FAILS.width - 1) := by
  unfold State.failCounted
  cases !x.counted <;> cases !x.fails.any (·.site = d.site) <;> simp (disch := decide) only [State.when_true, State.when_false, State.bump_rd_key, State.wr_rd_key, State.bump_rd_same]

theorem State.failCounted_tileFail : (s.failCounted l d x).rd R.CMP_STATUS.TILE_FAIL (l / 64) = 1 := by
  unfold State.failCounted
  cases !x.counted <;> cases !x.fails.any (·.site = d.site) <;> simp (disch := decide) only [State.when_true, State.when_false, State.bump_rd_key, State.wr_rd_same] <;> rfl

theorem State.failCounted_tile : (s.failCounted l d x).rd R.CMP_TILE_FAILS.FAILS (l / 64) =
    if x.counted then s.rd R.CMP_TILE_FAILS.FAILS (l / 64) else min (s.rd R.CMP_TILE_FAILS.FAILS (l / 64) + 1) (2 ^ R.CMP_TILE_FAILS.FAILS.width - 1) := by
  unfold State.failCounted
  cases x.counted <;> cases !x.fails.any (·.site = d.site) <;>
    simp (disch := decide) only [Bool.not_true, Bool.not_false, State.when_true, State.when_false, State.bump_rd_key, State.wr_rd_key, State.bump_rd_same, if_true, if_false, Bool.false_eq_true]

theorem State.failCounted_site : (s.failCounted l d x).rd R.CMP_SITE_FAILV.FAIL_VECTORS d.home =
    if x.fails.any (·.site = d.site) then s.rd R.CMP_SITE_FAILV.FAIL_VECTORS d.home
    else min (s.rd R.CMP_SITE_FAILV.FAIL_VECTORS d.home + 1) (2 ^ R.CMP_SITE_FAILV.FAIL_VECTORS.width - 1) := by
  unfold State.failCounted
  cases !x.counted <;> cases x.fails.any (·.site = d.site) <;>
    simp (disch := decide) only [Bool.not_true, Bool.not_false, State.when_true, State.when_false, State.bump_rd_key, State.wr_rd_key, State.bump_rd_same, if_true, if_false, Bool.false_eq_true]

theorem State.failCounted_rd {f : Fld} (i : Nat) (h : f.key % 1024 ∉ [R.CMP_LANE_FAIL.FAILS.key, R.CMP_STATUS.TILE_FAIL.key, R.CMP_TILE_FAILS.FAILS.key, R.CMP_SITE_FAILV.FAIL_VECTORS.key]) :
    (s.failCounted l d x).rd f i = s.rd f i := by
  simp only [List.mem_cons, List.not_mem_nil, or_false, not_or] at h
  obtain ⟨(h1 : f.key % 1024 ≠ R.CMP_LANE_FAIL.FAILS.key % 1024), (h2 : f.key % 1024 ≠ R.CMP_STATUS.TILE_FAIL.key % 1024),
    (h3 : f.key % 1024 ≠ R.CMP_TILE_FAILS.FAILS.key % 1024), (h4 : f.key % 1024 ≠ R.CMP_SITE_FAILV.FAIL_VECTORS.key % 1024)⟩ := h
  unfold State.failCounted
  cases !x.counted <;> cases !x.fails.any (·.site = d.site) <;> simp only [State.when_true, State.when_false, State.bump_rd_key _ _ h1, State.wr_rd_key _ _ h2, State.bump_rd_key _ _ h3, State.bump_rd_key _ _ h4]

theorem State.failCounted_fail : (s.failCounted l d x).fl R.CMP_SITE_STATUS.FAIL d.home = s.fl R.CMP_SITE_STATUS.FAIL d.home := by
  unfold State.failCounted State.fl
  cases !x.counted <;> cases !x.fails.any (·.site = d.site) <;> simp (disch := decide) only [State.when_true, State.when_false, State.bump_rd_key, State.wr_rd_key]

end

/-! A result -/

/-- What a result notes before it counts: UNSETTLED_CMP, and the fail of its pass (R267, R295). -/
def State.resultNoted (s : State) (l : Nat) (x : VecRec) (fail unsettled : Bool) : State :=
  let u := s.when unsettled fun s => (s.wr R.CMP_STATUS.UNSETTLED_CMP (l / 64) 1).modVec (l / 64) x fun v => { v with unsettled := true }
  u.when (fail && (u.play (l / 64)).passNo = x.passNo) fun s => s.setPlay (l / 64) { s.play (l / 64) with passFail := true }

section
variable {l : Nat} {x : VecRec} {fail unsettled : Bool} {a : Nat}

/-- A property that both of its notes keep. -/
theorem State.resultNoted_induction {P : State → Prop} (h : P s) (hu : ∀ u, P u → P ((u.wr R.CMP_STATUS.UNSETTLED_CMP (l / 64) 1).modVec (l / 64) x fun v => { v with unsettled := true }))
    (hp : ∀ u, P u → P (u.setPlay (l / 64) { u.play (l / 64) with passFail := true })) : P (s.resultNoted l x fail unsettled) := by
  have h1 := s.when_induction (P := P) unsettled (fun s => (s.wr R.CMP_STATUS.UNSETTLED_CMP (l / 64) 1).modVec (l / 64) x fun v => { v with unsettled := true }) h (hu s h)
  exact State.when_induction _ (P := P) _ (fun s => s.setPlay (l / 64) { s.play (l / 64) with passFail := true }) h1 (hp _ h1)

theorem State.resultNoted_hub : (s.resultNoted l x fail unsettled).hub = s.hub :=
  State.resultNoted_induction s (P := fun u => u.hub = s.hub) rfl (fun u h => by rw [State.modVec_hub, State.wr_hub, h]) fun u h => by rw [State.setPlay_hub, h]

theorem State.resultNoted_rd {f : Fld} (i : Nat) (h : f.key % 1024 ≠ R.CMP_STATUS.UNSETTLED_CMP.key) : (s.resultNoted l x fail unsettled).rd f i = s.rd f i :=
  State.resultNoted_induction s (P := fun u => u.rd f i = s.rd f i) rfl (fun u hu => by rw [State.modVec_rd, State.wr_rd_key _ _ h, hu]) fun u hu => by rw [State.setPlay_rd, hu]

theorem State.resultNoted_unsettled : (s.resultNoted l x fail true).rd R.CMP_STATUS.UNSETTLED_CMP (l / 64) = 1 := by
  have hu : ((s.wr R.CMP_STATUS.UNSETTLED_CMP (l / 64) 1).modVec (l / 64) x fun v => { v with unsettled := true }).rd R.CMP_STATUS.UNSETTLED_CMP (l / 64) = 1 := by rw [State.modVec_rd, State.wr_rd_same]; rfl
  exact State.when_induction _ (P := fun u => u.rd R.CMP_STATUS.UNSETTLED_CMP (l / 64) = 1) _ _ hu hu

theorem State.resultNoted_settled : s.resultNoted l x false false = s := rfl

theorem State.resultNoted_passFail : ((s.resultNoted l x true false).play (l / 64)).passFail = ((s.play (l / 64)).passFail || decide ((s.play (l / 64)).passNo = x.passNo)) := by
  unfold State.resultNoted
  dsimp only
  rw [State.when_false, Bool.true_and]
  cases decide ((s.play (l / 64)).passNo = x.passNo)
  · rw [State.when_false, Bool.or_false]
  · rw [State.when_true, State.setPlay_play_same, Bool.or_true]

theorem State.keeps_resultNoted {s r : State} {p : List Part} (hp : .plays ∈ p) (h : r.keeps s p) : r.keeps (s.resultNoted l x fail false) p := by
  unfold State.resultNoted
  exact State.when_induction _ (P := fun u => r.keeps u p) _ _ h ((State.keeps_setPlay _ _ hp).2 h)

theorem State.result_noSite (h : s.siteOf l = none) : s.result l x fail unsettled a = s := by
  rw [State.result, h]

section
variable {d : SiteDecl} (hs : s.siteOf l = some d)
include hs

theorem State.result_masked (h : s.maskedAt d (l / 64) a = true) : s.result l x fail unsettled a = s := by
  rw [State.result, hs]
  exact if_pos h

theorem State.result_noted (h : s.maskedAt d (l / 64) a = false) (hf : fail = false ∨ x.isMatch = true) : s.result l x fail unsettled a = s.resultNoted l x fail unsettled := by
  rw [State.result, hs]
  dsimp only
  rw [if_neg (ne_true_of_eq_false h), if_pos (by simpa using hf), State.resultNoted]

theorem State.result_counts (h : s.maskedAt d (l / 64) a = false) (hx : x.isMatch = false) :
    s.result l x true unsettled a = (s.resultNoted l x true unsettled).countFail l d x a := by
  rw [State.result, hs]
  dsimp only
  rw [if_neg (ne_true_of_eq_false h), if_neg (by simp [hx]), State.resultNoted]

end

end

/-! A counted result -/

section
variable {l : Nat} {x : VecRec} {u : Bool} {d : SiteDecl} {a : Nat}

/-- What a counted fail leaves of a field that only the first fail of a site could change besides. -/
theorem State.counted_rd {f : Fld} (i : Nat) (h : f.key % 1024 ∉ siteKeys) : ((s.resultNoted l x true u).countFail l d x a).rd f i = ((s.resultNoted l x true u).failCounted l d x).rd f i := by
  obtain ⟨g, e⟩ := State.countFail_eq (s.resultNoted l x true u) l d x a
  rw [e, State.modVec_rd, State.siteFirst_rd _ _ _ _ _ _ h]

theorem State.counted_fail : ((s.resultNoted l x true u).countFail l d x a).fl R.CMP_SITE_STATUS.FAIL d.home = true := by
  obtain ⟨g, e⟩ := State.countFail_eq (s.resultNoted l x true u) l d x a
  rw [e, State.fl, State.modVec_rd, ← State.fl_eq, State.siteFirst_fails]

theorem State.counted_was : ((s.resultNoted l x true u).failCounted l d x).fl R.CMP_SITE_STATUS.FAIL d.home = s.fl R.CMP_SITE_STATUS.FAIL d.home := by
  rw [State.failCounted_fail, State.fl, State.resultNoted_rd s _ (by decide), ← State.fl_eq]

theorem State.counted_first (hl : l / 64 < 16) (h : s.fl R.CMP_SITE_STATUS.FAIL d.home = false) : let t := (s.resultNoted l x true u).countFail l d x a
    t.rd R.CMP_SITE_FF_LO.FF_CYCLE_LO d.home = x.cycle % 2 ^ 32 ∧ t.rd R.CMP_SITE_FF_HI.FF_CYCLE_HI d.home = x.cycle / 2 ^ 32 % 2 ^ 16 ∧ t.rd R.CMP_SITE_FF_HI.FF_TILE d.home = l / 64 ∧
      t.hub.asserted = s.hub.asserted ++ [(64 + 16 * (d.home / 64) + 2, d.site)] := by
  obtain ⟨g, e⟩ := State.countFail_eq (s.resultNoted l x true u) l d x a
  dsimp only
  rw [e, State.siteFirst_fresh _ _ _ _ _ ((s.counted_was).trans h)]
  obtain ⟨h1, h2, h3⟩ := State.firstRecord_shows (((s.resultNoted l x true u).failCounted l d x).wr R.CMP_SITE_STATUS.FAIL d.home 1) d (l / 64) x (a + d.hop (l / 64)) hl
  refine ⟨?_, ?_, ?_, ?_⟩
  · rw [State.modVec_rd, State.siteFail_rd _ _ _ _ _ _ (by decide), h1]
  · rw [State.modVec_rd, State.siteFail_rd _ _ _ _ _ _ (by decide), h2]
  · rw [State.modVec_rd, State.siteFail_rd _ _ _ _ _ _ (by decide), h3]
  · rw [State.modVec_hub, State.siteFail_asserted, State.failCounted_hub, State.resultNoted_hub]

theorem State.counted_again (h : s.fl R.CMP_SITE_STATUS.FAIL d.home = true) : ((s.resultNoted l x true u).countFail l d x a).hub = s.hub := by
  obtain ⟨g, e⟩ := State.countFail_eq (s.resultNoted l x true u) l d x a
  rw [e, State.modVec_hub, (State.siteFirst_again _ _ _ _ _ ((s.counted_was).trans h)).1, State.failCounted_hub, State.resultNoted_hub]

end

/-! The command -/

section
variable {l : Fin 1024} {h lo v2 : Nat} {s s' t : State} {j : CmpJob} {x : VecRec} {p : List Part}

/-- The state without the compare whose result has come. -/
def State.jobDone (s : State) (l : Nat) (j : CmpJob) : State :=
  s.setLane l { s.lane l with jobs := (s.lane l).jobs.filter fun k => !(k.vec = j.vec && k.origin = j.origin) }

theorem State.jobDone_none (n : Nat) (k : CmpJob) (hk : k ∈ ((s.jobDone n j).lane n).jobs) : ¬(k.vec = j.vec ∧ k.origin = j.origin) := by
  rw [State.jobDone, State.setLane_lane_same] at hk
  have h := (List.mem_filter.1 hk).2
  rintro ⟨h1, h2⟩
  simp [h1, h2] at h

@[simp] theorem State.jobDone_siteOf (k n : Nat) : (s.jobDone k j).siteOf n = s.siteOf n := rfl
@[simp] theorem State.jobDone_maskedAt (d : SiteDecl) (k n i : Nat) : (s.jobDone k j).maskedAt d n i = s.maskedAt d n i := rfl
@[simp] theorem State.jobDone_play (k n : Nat) : (s.jobDone k j).play n = s.play n := rfl
@[simp] theorem State.jobDone_rd (k : Nat) (f : Fld) (n : Nat) : (s.jobDone k j).rd f n = s.rd f n := rfl
@[simp] theorem State.jobDone_fl (k : Nat) (f : Fld) (n : Nat) : (s.jobDone k j).fl f n = s.fl f n := rfl
@[simp] theorem State.jobDone_hub (k : Nat) : (s.jobDone k j).hub = s.hub := rfl

/-- The edges that act before the compare is judged (R177) are neither the clock's nor the fuses'. -/
theorem State.compareDue_base (hj : s.compareDue l = some (s', j)) : s'.clock = s.clock ∧ s'.fuses = s.fuses := by
  have hflush (b : Bool) (k m : Nat) : (s.when b (·.laneFlush k m)).clock = s.clock ∧ (s.when b (·.laneFlush k m)).fuses = s.fuses :=
    s.when_induction (P := fun u => u.clock = s.clock ∧ u.fuses = s.fuses) b _ ⟨rfl, rfl⟩
      ⟨State.clock_of_blur (State.laneFlush_blur _ _ _ (Nat.and_self _)) (by decide), State.fuses_of_blur (State.laneFlush_blur _ _ _ (Nat.and_self _)) (by decide)⟩
  unfold State.compareDue at hj
  dsimp only at hj
  split at hj
  · cases hj
  · split at hj
    · cases hj
    · obtain ⟨k, -, e⟩ := Option.map_eq_some_iff.1 hj
      cases e
      exact hflush _ _ _

/-- What a command keeps of the state after the edges that act first, it keeps with the clock and the fuses from before them. -/
theorem State.keeps_commit_of (hk : s'.keeps t p) (h : s'.clock = s.clock ∧ s'.fuses = s.fuses) : s'.keeps (s.commit t) p := fun q hq => by
  have hs := hk q hq
  cases q
  case clock => exact h.1.symm
  case fuses => exact h.2.symm
  all_goals exact hs

/-- The command with the compare that is judged, and what its result makes of the state. -/
theorem exec_compareResult (hj : (s.withOut []).compareDue l = some (s', j)) (hx : s'.vecOf (l / 64) j = some x)
    (ht : (s'.jobDone l j).result l x (j.fails (4 * h + lo) v2) j.unsettled j.arrival = t) : exec (.compareResult l h lo v2) s = .next (s.commit (t.vecsDone (l / 64))) := by
  change execCompareResult l h lo v2 s = _
  unfold execCompareResult
  refine done_is s ?_
  have hx' : (s'.jobDone l j).vecOf (l / 64) j = some x := hx
  dsimp only
  rw [hj]
  dsimp only
  rw [State.jobDone] at hx'
  rw [hx', ← ht]
  rfl

theorem exec_compareResult_none (hj : (s.withOut []).compareDue l = none) : exec (.compareResult l h lo v2) s = .next (s.commit (s.withOut [])) := by
  change execCompareResult l h lo v2 s = _
  unfold execCompareResult
  refine done_is s ?_
  dsimp only
  rw [hj]

theorem exec_compareResult_noRecord (hj : (s.withOut []).compareDue l = some (s', j)) (hx : s'.vecOf (l / 64) j = none) :
    exec (.compareResult l h lo v2) s = .next (s.commit (s'.jobDone l j)) := by
  change execCompareResult l h lo v2 s = _
  unfold execCompareResult
  refine done_is s ?_
  have hx' : (s'.jobDone l j).vecOf (l / 64) j = none := hx
  dsimp only
  rw [hj]
  dsimp only
  rw [State.jobDone] at hx'
  rw [hx']
  rfl

theorem State.keeps_jobDone (k : Nat) : s.keeps (s.jobDone k j) [.lanes, .plays] := (State.keeps_setLane k _ (by decide)).2 (s.keeps_refl _)

theorem State.keeps_judged (hj : (s.withOut []).compareDue l = some (s', j)) (k : Nat) (hk : s'.keeps t [.lanes, .plays]) : s'.keeps (s.commit (t.vecsDone k)) [.lanes, .plays] :=
  State.keeps_commit_of ((State.keeps_vecsDone k (by decide)).2 hk) (State.compareDue_base (s := s.withOut []) hj)

/-- The compare that was judged is gone, whatever its result made of the registers. -/
theorem State.judged_none (k n : Nat) (h : t.lanes = (s'.jobDone n j).lanes) : ∀ i, i ∈ ((s.commit (t.vecsDone k)).lane n).jobs → ¬(i.vec = j.vec ∧ i.origin = j.origin) := by
  have hl : (s.commit (t.vecsDone k)).lane n = (s'.jobDone n j).lane n := congrArg (fun m => ({ s with lanes := m } : State).lane n) h
  rw [hl]
  exact State.jobDone_none n

end

end Sys2Proof.Machine

open Sys2Proof Sys2Proof.Machine

/-- Settles O29: the edges that come before the end of the compare act first; its result then is masked, noted or counted, and its compare is gone. -/
theorem compareResults : Obligations.CompareResults := by
  refine ⟨?_, ?_, ?_, ?_, ?_, ?_⟩
  · intro s s' l h lo v2 j x d hj hx hd hm hmatch hfail
    have hl : l.val / 64 < 16 := by omega
    have ht := State.result_counts (s'.jobDone l j) (unsettled := j.unsettled) hd hm hmatch
    have hq (f : Fld) (i : Nat) (h : f.key % 1024 ≠ R.CMP_STATUS.UNSETTLED_CMP.key) : ((s'.jobDone l j).resultNoted l x true j.unsettled).rd f i = s'.rd f i := State.resultNoted_rd _ i h
    rw [← hfail] at ht
    refine ⟨_, exec_compareResult hj hx ht, ?_, ?_, ?_, ?_, ?_, ?_, ?_⟩
    · rw [State.commit_rd, State.vecsDone_rd, hfail, State.counted_rd _ _ (by decide), State.failCounted_lane, hq _ _ (by decide)]
    · rw [State.fl_eq, State.commit_rd, State.vecsDone_rd, hfail, State.counted_rd _ _ (by decide), State.failCounted_tileFail]
      rfl
    · rw [State.fl_eq, State.commit_rd, State.vecsDone_rd, hfail, ← State.fl_eq, State.counted_fail]
    · rw [State.commit_rd, State.vecsDone_rd, hfail, State.counted_rd _ _ (by decide), State.failCounted_tile, hq _ _ (by decide)]
    · rw [State.commit_rd, State.vecsDone_rd, hfail, State.counted_rd _ _ (by decide), State.failCounted_site, hq _ _ (by decide)]
    · intro hF
      rw [hfail]
      exact State.counted_first (s'.jobDone l j) hl hF
    · intro hF
      rw [hfail]
      exact State.counted_again (s'.jobDone l j) hF
  · rintro s s' l h lo v2 j x d hj hx hd (hm | ⟨hfail, hset⟩)
    · exact ⟨_, exec_compareResult hj hx (State.result_masked _ hd hm), State.judged_none _ _ rfl, State.keeps_judged hj _ (State.keeps_jobDone _)⟩
    · have ht : (s'.jobDone l j).result l x (j.fails (4 * h + lo) v2) j.unsettled j.arrival = s'.jobDone l j := by
        cases hm : s'.maskedAt d (l / 64) j.arrival with
        | true => exact State.result_masked _ hd hm
        | false => rw [hfail, hset, State.result_noted (s'.jobDone l j) hd hm (.inl rfl), State.resultNoted_settled]
      exact ⟨_, exec_compareResult hj hx ht, State.judged_none _ _ rfl, State.keeps_judged hj _ (State.keeps_jobDone _)⟩
  · intro s s' l h lo v2 j x d hj hx hd hm hu
    refine ⟨_, exec_compareResult hj hx rfl, ?_⟩
    rw [hu, State.fl_eq, State.commit_rd, State.vecsDone_rd]
    cases hf : j.fails (4 * h + lo) v2 && !x.isMatch with
    | true =>
      obtain ⟨hfail, hmatch⟩ : j.fails (4 * h + lo) v2 = true ∧ x.isMatch = false := by simpa using hf
      rw [hfail, State.result_counts (s'.jobDone l j) hd hm hmatch, State.counted_rd _ _ (by decide), State.failCounted_rd _ _ _ _ _ (by decide), State.resultNoted_unsettled]
      rfl
    | false =>
      rw [State.result_noted (s'.jobDone l j) hd hm (by simpa using Bool.and_eq_false_iff.1 hf), State.resultNoted_unsettled]
      rfl
  · intro s s' l h lo v2 j x d hj hx hd hm hmatch hfail hset
    have ht : (s'.jobDone l j).result l x (j.fails (4 * h + lo) v2) j.unsettled j.arrival = (s'.jobDone l j).resultNoted l x true false := by
      rw [State.result_noted (s'.jobDone l j) hd hm (.inr hmatch), hfail, hset]
    refine ⟨_, exec_compareResult hj hx ht, ?_, State.keeps_judged hj _ (State.keeps_resultNoted (by decide) (State.keeps_jobDone _))⟩
    exact (State.vecsDone_passFail _ _).trans (State.resultNoted_passFail _)
  · intro s s' l h lo v2 j hj hd
    cases hx : s'.vecOf (l / 64) j with
    | none => exact ⟨_, exec_compareResult_noRecord hj hx, State.keeps_commit_of (State.keeps_jobDone _) (State.compareDue_base (s := s.withOut []) hj)⟩
    | some x => exact ⟨_, exec_compareResult hj hx (State.result_noSite _ hd), State.keeps_judged hj _ (State.keeps_jobDone _)⟩
  · intro s l h lo v2 hj
    refine ⟨_, exec_compareResult_none hj, State.keeps_commit (by simp)⟩

end
section
/-! SUPPORT. Resets, the relock and the end of a transition from states that their clauses do not foresee, and O5, O6 and O7. -/

namespace Sys2Proof.Machine

/-- PORST_N is low and the supplies stand, but the device is not marked as before its first SAFE. -/
def heldLow : State := { State.reset with m := { State.reset.m with porst := true, beforeSafe := false } }

/-- A core rail that fails while PORST_N holds the device is no brown-out (R97, R101). -/
theorem heldLow_noBrownout : ∃ t, exec (.railFail 1) heldLow = .next t ∧ t.rd R.DEV_RESET_CAUSE.BROWNOUT 0 = 0 := ⟨_, rfl, by decide⟩

/-- Where no waiting circuit is at its moment, the units that no spare can take are settled and nothing else happens. -/
theorem State.spareAll_none {s : State} {p : State → Nat → Bool} (h : (s.spare.waiting.filter fun w => p s w.key) = []) : s.spareAll p = s.settleWaiting := by
  unfold State.spareAll
  rw [h, List.mergeSort_nil]
  rfl

theorem State.sparesStep_spare (s : State) : s.sparesStep.spare = (s.spareAll fun s k => s.spareNow k).spare := by
  unfold State.sparesStep
  generalize s.spareAll (fun s k => s.spareNow k) = x
  refine State.each_induction (P := fun u => u.spare = x.spare) _ _ _ rfl fun u q hu => ?_
  dsimp only
  split
  · exact hu
  · exact (State.spare_of_blur (State.calNext_blur _ q (Nat.and_self _)) (by decide)).trans hu

theorem State.spareSync_spare (s : State) : s.spareSync.spare = s.spare := State.spare_of_blur (s.spareSync_blur (Nat.and_self _)) (by decide)
theorem State.tryBoot_spare (s : State) : s.tryBoot.spare = s.spare := State.spare_of_blur (s.tryBoot_blur (Nat.and_self _)) (by decide)

/-- A lone worn unit that no spare can take leaves the queue of the waiting ones (R550, R552). -/
theorem State.settleWaiting_lone {s : State} {w : Waiting} (hw : s.spare.waiting = [w]) (h : s.spareFor w.key = none) (hm : w.mark ≠ 2) :
    s.settleWaiting.spare.waiting = [] := by
  simp [State.settleWaiting, hw, h, hm, State.spareSync_spare, State.unwait, State.when]

/-- A relock is under way, the SPARES step of start-up waits for it, and a worn unit of a kind without spares waits. -/
def oldWait : State :=
  { State.reset with
    m := { State.reset.m with relocking := true, heldStep := 5 }
    spare := { State.reset.spare with waiting := [⟨24576, 0, 1⟩] }
    regs := smSet 0 State.reset.regs (R.DEV_STARTUP.STEP.slot 0) 8 }

/-- The lock of the root PLL, as it is before a step that waits for it resumes. -/
def State.lockSeen (s : State) : State :=
  (({ s with m := { s.m with relocking := false, everLocked := true } }.wr R.DEV_CLK.PLL_LOCKED 0 1).raise 1).quals

/-- A relock resumes the SPARES step where that step waits for it (R24, R107). -/
theorem State.locked_spares {s : State} (h8 : s.lockSeen.rd R.DEV_STARTUP.STEP 0 = 8) (h5 : s.lockSeen.m.heldStep = 5) (hl : s.lockSeen.fl R.DEV_CLK.PLL_LOCKED 0 = true) :
    s.locked = (s.lockSeen.wr R.DEV_STARTUP.STEP 0 5).sparesStep.tryBoot := by
  change (s.lockSeen.when (s.lockSeen.rd R.DEV_STARTUP.STEP 0 = 8) fun s => s.startStep s.m.heldStep).tryBoot = _
  rw [h8, show decide (8 = 8) = true from rfl, State.when_true, h5, State.startStep, hl]
  rfl

/-- The relock lets the SPARES step settle the worn unit, which waits no more. -/
theorem oldWait_settles : ∃ t, exec .relockDone oldWait = .next t ∧ t.spare.waiting = [] := by
  refine ⟨_, rfl, ?_⟩
  change (oldWait.withOut []).locked.spare.waiting = []
  rw [State.locked_spares (by decide) (by decide) (by decide), State.tryBoot_spare, State.sparesStep_spare, State.spareAll_none (by decide)]
  exact State.settleWaiting_lone (w := ⟨24576, 0, 1⟩) rfl (by decide) (by decide)

/-- The state of a transition from IDLE to RUN as the new mode comes into force. -/
def State.toRun (s : State) : State :=
  ({ s with m := { s.m with target := none, byRequest := false, stopNow := false, startup := s.m.startup && Mode.idle ≠ Mode.service } }.wr R.DEV_MODE.TRANSITION 0 0).setMode .run

/-- A transition to RUN that no request asked for, where the first run has already been (R90). -/
theorem State.transit_run {s : State} {hard : List Nat} (ht : s.m.target = some .run) (hm : s.m.mode = .idle) (hr : s.m.byRequest = false) (hf : s.toRun.fl R.DEV_MODE.FIRST_RUN 0 = true) :
    s.transit hard = s.toRun.selectors.when (s.toRun.selectors.fl R.THS_STATUS.CONE_T 0) (·.modeRequest 3 false) := by
  have h1 : s.toRun.firstRun = s.toRun := by rw [State.firstRun, if_pos hf]
  unfold State.transit
  rw [ht]
  dsimp only
  rw [hm, hr, if_neg (by simp), State.when_false, show decide (Mode.idle = Mode.run) = false from rfl, State.when_false]
  rw [show ∀ u : State, u = s.toRun → u.firstRun = s.toRun from fun u h => by rw [h, h1]]
  · rw [show decide (Mode.run = Mode.run) = true from rfl, Bool.true_and]
  · rfl

/-- FIRST_RUN, a field of one bit, holds 3, and a transition to RUN is in progress. -/
def firstThree : State :=
  { State.reset with
    m := { State.reset.m with target := some .run, mode := .idle }
    regs := smSet 0 State.reset.regs (R.DEV_MODE.FIRST_RUN.slot 0) 3 }

/-- The end of the transition leaves FIRST_RUN, which is not 0, as it stands (R90). -/
theorem firstThree_runs : ∃ t, exec (.transitionDone []) firstThree = .next t ∧ t.rd R.DEV_MODE.FIRST_RUN 0 = 3 := by
  refine ⟨firstThree.commit ((firstThree.withOut []).transit []), done_is (f := fun s => s.transit []) firstThree rfl, ?_⟩
  rw [State.commit_rd, State.transit_run rfl rfl rfl (by decide)]
  exact (State.when_rd_of _ (State.rd_of_blur (State.modeRequest_blur _ 3 false (Nat.and_self _)) _ _ (by decide))).trans
    ((State.rd_of_blur (State.selectors_blur _ (Nat.and_self _)) _ _ (by decide)).trans (by decide))

end Sys2Proof.Machine

open Sys2Proof Sys2Proof.Machine

/-- Refutes O5: a core rail that fails while PORST_N holds the device begins no POR, so BROWNOUT stays clear. -/
theorem not_resetScopes : ¬ Obligations.ResetScopes := by
  rintro ⟨-, -, h, -⟩
  obtain ⟨t, ht, -, -, -, -, -, -, hone, -⟩ := h heldLow 1 (.inl rfl) (by decide) rfl
  obtain ⟨u, hu, hzero⟩ := heldLow_noBrownout
  cases ht.symm.trans hu
  exact absurd (hone.symm.trans hzero) (by decide)

/-- Refutes O6: a relock resumes the SPARES step that waited for it, which settles the units that no spare can take. -/
theorem not_powerAndReferenceEvents : ¬ Obligations.PowerAndReferenceEvents := by
  rintro ⟨-, -, -, -, -, -, -, -, -, h, -⟩
  obtain ⟨t, ht, -, -, hk⟩ := h oldWait rfl
  obtain ⟨u, hu, hnone⟩ := oldWait_settles
  cases ht.symm.trans hu
  have hsame : t.spare = oldWait.spare := hk .spare (by decide)
  rw [hsame] at hnone
  exact absurd hnone (by decide)

/-- Refutes O7: the clause on the end of a transition to RUN reads FIRST_RUN as 1 whatever its register held, but a value that is already not 0 stays. -/
theorem not_modeRequests : ¬ Obligations.ModeRequests := by
  rintro ⟨-, -, -, -, -, -, -, -, h, -⟩
  obtain ⟨t, ht, -, -, hone, -⟩ := h firstThree [] .run rfl (by decide)
  obtain ⟨u, hu, hthree⟩ := firstThree_runs
  cases ht.symm.trans hu
  exact absurd ((hone rfl).symm.trans hthree) (by decide)
end
section
/-! SUPPORT. A service-port read of the flash aperture, a restart and a run limit over registers that hold more than their fields, and O19, O49 and O52. -/

namespace Sys2Proof.Machine

/-- A boot flash of one mebibyte is present, and the master uses 3-byte commands. -/
def flashThere : State := (oneSite.wr R.FLS_STATUS.PRESENT 0 1).wr R.FLS_ID.ID 0 (20 * 65536)

/-- A read frame at the aperture's first word sends a command to the flash beside the data it returns (R499, R500). -/
theorem flashThere_sends : ∃ t, exec (.spiReadFrame [0, 0, 0x80, 0] 4 0) flashThere = .next t ∧ t.out.length = 2 := ⟨_, rfl, by decide⟩

/-- HW_TRIP of channel 0, a field of one bit, holds 2. -/
def tripTwo : State := { oneSite with regs := smSet 0 oneSite.regs (R.DPS_STATUS.HW_TRIP.slot 0) 2 }

/-- A write that clears nothing cuts the field to its one bit. -/
theorem tripTwo_cut : ∃ t, exec (.dpsRestart (.fn 0) 0 0) tripTwo = .next t ∧ (R.DPS_STATUS.HW_TRIP.acts 0 15 || t.fl R.DPS_STATUS.HW_TRIP 0 == tripTwo.fl R.DPS_STATUS.HW_TRIP 0) = false :=
  ⟨_, rfl, by decide⟩

/-- T_NOW of quadrant 0, a field of 16 bits, holds 2^16 at the end of a run. -/
def warmRun : State := ({ oneSite with regs := smSet 0 oneSite.regs (R.CAL_TEMP.T_NOW.slot 0) 65536 }).setCal 0 { CalSt.idle with running := true }

/-- The run's end takes T_REF from the 16 bits of the field. -/
theorem warmRun_ends : ∃ t, exec (.calRunLimit 0) warmRun = .next t ∧ t.rd R.CAL_TEMP.T_REF 0 = 0 := ⟨_, rfl, by decide⟩

end Sys2Proof.Machine

open Sys2Proof Sys2Proof.Machine

/-- Refutes O19: the clause on a read frame gives the data as its whole output, but a read of the flash aperture also sends the read command to the flash. -/
theorem not_servicePortFrames : ¬ Obligations.ServicePortFrames := by
  rintro ⟨-, -, -, -, -, -, -, h, -⟩
  obtain ⟨t, ht, -, -, hout⟩ := h flashThere [0, 0, 0x80, 0] 0x8000 rfl rfl (by decide) (by decide) (by decide) (.inr rfl) (by decide)
  obtain ⟨u, hu, htwo⟩ := flashThere_sends
  cases ht.symm.trans hu
  rw [hout] at htwo
  exact absurd htwo (by simp)

/-- Refutes O49: a flag that the write does not clear is read as unchanged, but the write also cuts its field to its width. -/
theorem not_supplyChannels : ¬ Obligations.SupplyChannels := by
  rintro ⟨-, -, -, -, -, -, -, -, -, -, -, -, -, h, -⟩
  obtain ⟨t, ht, -, hall, -⟩ := h tripTwo (.fn 0) 0 0 (by decide) (by decide)
  obtain ⟨u, hu, hcut⟩ := tripTwo_cut
  cases ht.symm.trans hu
  have hkept := List.all_eq_true.mp hall R.DPS_STATUS.HW_TRIP (by decide)
  exact absurd (hcut.symm.trans hkept) (by decide)

/-- Refutes O52: the clause on the end of a run gives T_REF the whole value of T_NOW's register, but T_REF takes the bits of its field. -/
theorem not_calibration : ¬ Obligations.Calibration := by
  rintro ⟨-, -, -, -, -, -, -, -, -, -, -, -, -, -, -, -, h, -⟩
  obtain ⟨t, ht, -, -, -, href, -⟩ := h warmRun 0 (by decide) (by decide) (by decide) (by decide) (by decide)
  obtain ⟨u, hu, hzero⟩ := warmRun_ends
  cases ht.symm.trans hu
  exact absurd (href.symm.trans hzero) (by decide)
end
section
/-! SUPPORT. The boot flash (R496 to R505): its lock, its commands, its aperture and its programs, and O51. -/

namespace Sys2Proof.Machine

variable (s : State)

/-- A field reads what was written, where it holds it whole. -/
theorem State.wr_rd_fits {f : Fld} {i v : Nat} (h : v < 2 ^ f.width) : (s.wr f i v).rd f i = v := (s.wr_rd_same f i v).trans (Nat.mod_eq_of_lt h)

/-! The lock (R504) -/

section
variable {rq : Req}

theorem flsLockHook_claims (h : s.rd R.FLS_LOCK.HOLDER 0 = 0) : flsLockHook rq 0 1 15 s = (s.wr R.FLS_LOCK.HOLDER 0 (holderCode rq), false) := by
  have hreq : R.FLS_LOCK.REQ.acts 1 15 = true := by decide
  have hrel : R.FLS_LOCK.RELEASE.acts 1 15 = false := by decide
  have href : R.FLS_LOCK.REFUSED.acts 1 15 = false := by decide
  simp [flsLockHook, hreq, hrel, href, h]

theorem flsLockHook_denies (h : s.rd R.FLS_LOCK.HOLDER 0 ≠ 0) : flsLockHook rq 0 1 15 s = (s.wr R.FLS_LOCK.REFUSED 0 1, false) := by
  have hreq : R.FLS_LOCK.REQ.acts 1 15 = true := by decide
  have hrel : R.FLS_LOCK.RELEASE.acts 1 15 = false := by decide
  have href : R.FLS_LOCK.REFUSED.acts 1 15 = false := by decide
  simp [flsLockHook, hreq, hrel, href, h]

theorem flsLockHook_releases (h : s.holds rq = true) : flsLockHook rq 0 2 15 s = (s.wr R.FLS_LOCK.HOLDER 0 0, false) := by
  have hreq : R.FLS_LOCK.REQ.acts 2 15 = false := by decide
  have hrel : R.FLS_LOCK.RELEASE.acts 2 15 = true := by decide
  have href : R.FLS_LOCK.REFUSED.acts 2 15 = false := by decide
  simp [flsLockHook, hreq, hrel, href, h]

theorem flsLockHook_foreign (h : s.holds rq = false) : flsLockHook rq 0 2 15 s = (s, true) := by
  have hreq : R.FLS_LOCK.REQ.acts 2 15 = false := by decide
  have hrel : R.FLS_LOCK.RELEASE.acts 2 15 = true := by decide
  simp [flsLockHook, hreq, hrel, h]

theorem holderCode_mod (rq : Req) : holderCode rq % 2 ^ R.FLS_LOCK.HOLDER.width = holderCode rq := by cases rq <;> rfl

end

/-! Bytes of FLS_BUF -/

/-- A field of a word cut to bits that hold the field whole. -/
theorem bits_mod (v : Nat) {lo w n : Nat} (h : lo + w ≤ n) : bits (v % 2 ^ n) lo w = bits v lo w := by
  apply Nat.eq_of_testBit_eq
  intro i
  simp only [bits, ← Nat.shiftRight_eq_div_pow, Nat.testBit_mod_two_pow, Nat.testBit_shiftRight]
  by_cases hi : i < w
  · simp [show lo + i < n by omega]
  · simp [hi]

theorem State.flsByte_congr {t : State} {j : Nat} (h : t.rd R.FLS_BUF.DATA (j / 4) = s.rd R.FLS_BUF.DATA (j / 4)) : t.flsByte j = s.flsByte j := by
  rw [State.flsByte, State.flsByte, h]

theorem State.putFlsByte_same (j b : Nat) : (s.putFlsByte j b).flsByte j = b % 256 := by
  rw [State.flsByte, State.putFlsByte, State.wr_rd_same, bits_mod _ (show 8 * (j % 4) + 8 ≤ R.FLS_BUF.DATA.width by change _ ≤ 32; omega), bits_putBits_same]
  rfl

theorem State.putFlsByte_ne {j k : Nat} (b : Nat) (h : k ≠ j) : (s.putFlsByte j b).flsByte k = s.flsByte k := by
  by_cases hw : k / 4 = j / 4
  · rw [State.flsByte, State.putFlsByte, hw, State.wr_rd_same, bits_mod _ (show 8 * (k % 4) + 8 ≤ R.FLS_BUF.DATA.width by change _ ≤ 32; omega), State.flsByte, hw]
    by_cases hlt : k % 4 < j % 4
    · exact bits_putBits_below _ _ (by omega)
    · exact bits_putBits_above _ _ (by omega)
  · exact s.flsByte_congr (State.wr_rd_inst _ _ hw)

/-- Bytes put one after another from position n on. -/
def State.putFlsBytes (l : List Nat) (n : Nat) : State := (l.zipIdx n).foldl (fun s e => s.putFlsByte e.2 e.1) s

theorem State.putFlsBytes_before (l : List Nat) (n : Nat) {j : Nat} (h : j < n) : (s.putFlsBytes l n).flsByte j = s.flsByte j := by
  induction l generalizing s n with
  | nil => rfl
  | cons b l ih => exact (ih (s.putFlsByte n b) (n + 1) (by omega)).trans (s.putFlsByte_ne b (by omega))

theorem State.putFlsBytes_byte (l : List Nat) (n : Nat) {j : Nat} (h : j < l.length) : (s.putFlsBytes l n).flsByte (n + j) = l.getD j 0 % 256 := by
  induction l generalizing s n j with
  | nil => exact absurd h (Nat.not_lt_zero j)
  | cons b l ih =>
    cases j with
    | zero => exact ((s.putFlsByte n b).putFlsBytes_before l (n + 1) (by omega)).trans (s.putFlsByte_same n b)
    | succ j =>
      have := ih (s.putFlsByte n b) (n + 1) (j := j) (by simpa using h)
      rwa [show n + 1 + j = n + (j + 1) by omega] at this

theorem State.putFlsBytes_flash (l : List Nat) (n : Nat) : (s.putFlsBytes l n).flash = s.flash := by
  induction l generalizing s n with
  | nil => rfl
  | cons b l ih => exact ih (s.putFlsByte n b) (n + 1)

/-! Commands (R505) -/

/-- FLS_CMD with its word written. -/
def State.flsWritten (w : Nat) : State := (writeWord .FLS_CMD 0 w 15 s).1

theorem flsCmd_noRwl : ∀ f ∈ Reg.FLS_CMD.fields, f.acc ≠ .rwl := by decide

theorem State.flsWritten_open (w : Nat) : writeWord .FLS_CMD 0 w 15 s = (s.flsWritten w, false) := by
  rw [State.flsWritten, writeWord_open s flsCmd_noRwl]

theorem State.flsWritten_regs (w : Nat) : ∃ v, s.flsWritten w = { s with regs := v } := writeWord_regs s .FLS_CMD 0 w 15

theorem State.flsWritten_flash (w : Nat) : (s.flsWritten w).flash = s.flash := by
  obtain ⟨v, e⟩ := s.flsWritten_regs w
  rw [e]

theorem State.flsWritten_out (w : Nat) : (s.flsWritten w).out = s.out := by
  obtain ⟨v, e⟩ := s.flsWritten_regs w
  rw [e]

theorem State.flsWritten_part {f : Fld} (w : Nat) (hf : f ∈ Reg.FLS_CMD.fields ∧ f.acc = .rw) (h : f.part (2 ^ 28) = 0) : (s.flsWritten (Nat.lor w (2 ^ 28))).rd f 0 = f.part w :=
  (writeWord_takes_rw s flsCmd_noRwl 0 _ hf.1 hf.2).trans (Fld.part_lor_zero w h)

theorem State.flsWritten_rd {f : Fld} (w j : Nat) (h : f.key % 1024 ∉ Reg.FLS_CMD.fields.map Fld.key) : (s.flsWritten w).rd f j = s.rd f j :=
  writeWord_rd_key s flsCmd_noRwl 0 w j h

theorem Fld.part_ne_zero {f : Fld} (w : Nat) (h : f.width = 1) : f.part w ≠ 0 ↔ f.part w = 1 := by
  have := f.part_lt w
  rw [h] at this
  omega

/-- The command that a written word holds, with FLS_ADDR and FLS_BUF as they stand. -/
theorem State.flsWritten_cmd (w : Nat) : (s.flsWritten (Nat.lor w (2 ^ 28))).flashCmd =
    { opcode := R.FLS_CMD.OPCODE.part w, addrBytes := R.FLS_CMD.ADDR_BYTES.part w, addr := s.rd R.FLS_ADDR.ADDR 0 % 2 ^ (8 * R.FLS_CMD.ADDR_BYTES.part w), dummy := R.FLS_CMD.DUMMY.part w,
      len := R.FLS_CMD.DATA_LEN.part w, fromFlash := decide (R.FLS_CMD.DIR.part w = 1), wren := decide (R.FLS_CMD.WREN.part w = 1), poll := R.FLS_CMD.POLL.part w != 0,
      data := (List.range (R.FLS_CMD.DATA_LEN.part w)).map s.flsByte } := by
  have hbyte : (s.flsWritten (Nat.lor w (2 ^ 28))).flsByte = s.flsByte := funext fun j => s.flsByte_congr (s.flsWritten_rd _ _ (by decide))
  have hbit {f : Fld} (h : f.width = 1) : (f.part w != 0) = decide (f.part w = 1) := by
    exact Bool.eq_iff_iff.2 (bne_iff_ne.trans ((Fld.part_ne_zero w h).trans decide_eq_true_iff.symm))
  rw [State.flashCmd, hbyte, ← hbit (f := R.FLS_CMD.DIR) rfl, ← hbit (f := R.FLS_CMD.WREN) rfl]
  simp only [State.fl_eq]
  rw [s.flsWritten_part w (f := R.FLS_CMD.OPCODE) (by decide) (by decide), s.flsWritten_part w (f := R.FLS_CMD.ADDR_BYTES) (by decide) (by decide),
    s.flsWritten_part w (f := R.FLS_CMD.DUMMY) (by decide) (by decide), s.flsWritten_part w (f := R.FLS_CMD.DATA_LEN) (by decide) (by decide),
    s.flsWritten_part w (f := R.FLS_CMD.DIR) (by decide) (by decide), s.flsWritten_part w (f := R.FLS_CMD.WREN) (by decide) (by decide),
    s.flsWritten_part w (f := R.FLS_CMD.POLL) (by decide) (by decide), s.flsWritten_rd _ 0 (f := R.FLS_ADDR.ADDR) (by decide)]

theorem State.flashGo_rd : s.flashGo.rd R.FLS_CMD.STATUS 0 = 1 ∧ s.flashGo.rd R.FLS_STATUS.BUSY 0 = 1 := by
  have h (u : State) (c : Bool) (o o' : Out) : ((u.when c fun x => x.send o).send o').rd = u.rd := by cases c <;> rfl
  unfold State.flashGo
  dsimp only
  rw [h, State.wr_rd_key _ _ (by decide), State.wr_rd_same, State.wr_rd_same]
  exact ⟨rfl, rfl⟩

theorem State.flashGo_flash : s.flashGo.flash = { s.flash with cmd := some s.flashCmd, isOpen := false, buffer := if s.flashCmd.fromFlash then s.flash.buffer else none } := by
  unfold State.flashGo
  dsimp only
  cases s.flashCmd.wren <;> rfl

theorem State.flashGo_out : s.flashGo.out = s.out ++ ((if s.flashCmd.wren then [.flash [0x06] 0] else []) ++
    [.flash (s.flashCmd.opcode :: beBytes s.flashCmd.addrBytes s.flashCmd.addr ++ (if s.flashCmd.fromFlash then [] else s.flashCmd.data)) (if s.flashCmd.fromFlash then s.flashCmd.len else 0)]) := by
  unfold State.flashGo
  dsimp only
  cases s.flashCmd.wren
  · rfl
  · exact List.append_assoc _ _ _

section
variable {rq : Req} {w : Nat}

theorem flsCmd_go (w : Nat) : R.FLS_CMD.GO.acts (Nat.lor w (2 ^ 28)) 15 = true := Fld.acts_lor w (by decide)

theorem flsCmdHook_barred (h : s.holds rq = false ∨ s.fl R.FLS_STATUS.BUSY 0 = true) : flsCmdHook rq 0 (Nat.lor w (2 ^ 28)) 15 s = (s, true) := by
  refine if_pos ?_
  rw [flsCmd_go]
  obtain h | h := h <;> simp [h]

theorem flsCmdHook_open (h : s.holds rq = true) (hb : s.rd R.FLS_STATUS.BUSY 0 = 0) : flsCmdHook rq 0 (Nat.lor w (2 ^ 28)) 15 s =
    if (R.FLS_CMD.ADDR_BYTES.part w = 0 ∨ R.FLS_CMD.ADDR_BYTES.part w = 3 ∨ R.FLS_CMD.ADDR_BYTES.part w = 4) ∧ R.FLS_CMD.DATA_LEN.part w ≤ 256
      then ((s.flsWritten (Nat.lor w (2 ^ 28))).flashGo, false) else ((s.flsWritten (Nat.lor w (2 ^ 28))).wr R.FLS_CMD.STATUS 0 3, false) := by
  unfold flsCmdHook
  dsimp only
  rw [flsCmd_go, h, s.fl_eq_false.2 hb, if_neg (by decide), s.flsWritten_open, if_neg (by decide)]
  dsimp only
  rw [s.flsWritten_cmd w]
  simp only [Bool.and_eq_true, Bool.or_eq_true, decide_eq_true_eq, or_assoc]

end

/-! Programs (R500, R505) -/

theorem smGet_programByte_same (m : SMap Nat) (a b : Nat) : smGet 0xFF (programByte m a b) a = Nat.land (smGet 0xFF m a) (b % 256) := smGet_smSet_same _ _ _ _

theorem smGet_programByte_ne (m : SMap Nat) {a c : Nat} (b : Nat) (h : c ≠ a) : smGet 0xFF (programByte m a b) c = smGet 0xFF m c := smGet_smSet_ne _ _ _ _ h

theorem smGet_programs_other (l : List (Nat × Nat)) (m : SMap Nat) {c : Nat} (h : c ∉ l.map (·.1)) :
    smGet 0xFF (l.foldl (fun m (e : Nat × Nat) => programByte m e.1 e.2) m) c = smGet 0xFF m c := by
  induction l generalizing m with
  | nil => rfl
  | cons e l ih =>
    rw [List.map_cons, List.mem_cons, not_or] at h
    exact (ih _ h.2).trans (smGet_programByte_ne m e.2 h.1)

theorem smGet_programs (l : List (Nat × Nat)) (m : SMap Nat) (hn : (l.map (·.1)).Nodup) :
    ∀ e ∈ l, smGet 0xFF (l.foldl (fun m (e : Nat × Nat) => programByte m e.1 e.2) m) e.1 = Nat.land (smGet 0xFF m e.1) (e.2 % 256) := by
  induction l generalizing m with
  | nil => exact fun e he => absurd he List.not_mem_nil
  | cons x l ih =>
    rw [List.map_cons, List.nodup_cons] at hn
    intro e he
    obtain rfl | he := List.mem_cons.1 he
    · exact (smGet_programs_other l _ hn.1).trans (smGet_programByte_same m e.1 e.2)
    · have hne : e.1 ≠ x.1 := fun h => hn.1 (h ▸ List.mem_map_of_mem he)
      exact (ih _ hn.2 e he).trans (by rw [smGet_programByte_ne m x.2 hne])

theorem State.programEnd_some {l : List (Nat × Nat)} (h : s.flash.program = some l) : s.programEnd =
    { s with flash := { s.flash with cells := l.foldl (fun m (e : Nat × Nat) => programByte m e.1 e.2) s.flash.cells, program := none } }.wr R.FLS_STATUS.BUSY 0 0 := by
  rw [State.programEnd, h]

/-- A page program of one byte. -/
theorem State.flashEffect_byte {c : FlashCmd} {b : Nat} (ho : c.opcode = 2) (hw : c.wren = true) (hd : c.data = [b]) :
    s.flashEffect c = { s with flash := { s.flash with cells := programByte s.flash.cells c.addr b, wel := false } } := by
  have ha : c.addr / 256 * 256 + (c.addr + 0) % 256 = c.addr := by omega
  simp [State.flashEffect, ho, hw, hd, Nat.div_add_mod']

/-! The aperture (R499 to R502) -/

@[simp] theorem State.withOut_winMay (o : List Out) (rq : Req) : (s.withOut o).winMay rq = s.winMay rq := by cases rq <;> rfl

theorem execFlashWindowRead_reads {rq : Req} {off n : Nat} {long : Bool} (hr : s.reachable rq = true) (hm : s.winMay rq = true) (hlo : 0x8000 ≤ off) (hhi : off < 0x10000)
    (hn : n = if long then 8 else 4) (ha : off % n = 0) :
    execFlashWindowRead rq off long s = .next (s.commit ((((s.withOut []).winRead off n).1).send (.data ((s.withOut []).winRead off n).2))) := by
  subst hn
  refine done_is s ?_
  dsimp only
  rw [if_neg (by rw [State.reachable_out, hr]; simp [ha]; omega), State.withOut_winMay, hm, if_neg (by decide)]

/-- Two flags that one refusal may set. -/
def State.flagTwo (s : State) (f g : Fld) (c d : Bool) : State := (s.when c (·.wr f 0 1)).when d (·.wr g 0 1)

section
variable (f g : Fld) (c d : Bool)

theorem State.flagTwo_keeps : s.keeps (s.flagTwo f g c d) [.regs] ∧ (s.flagTwo f g c d).out = s.out := by
  unfold State.flagTwo
  cases c <;> cases d <;> exact ⟨by simp, rfl⟩

theorem State.flagTwo_first (hk : f.key % 1024 ≠ g.key % 1024 ∧ 1 < 2 ^ f.width) : (s.flagTwo f g true d).rd f 0 = 1 := by
  have h1 : (s.wr f 0 1).rd f 0 = 1 := State.wr_rd_fits _ hk.2
  unfold State.flagTwo
  cases d
  · exact h1
  · exact (State.wr_rd_key _ _ hk.1).trans h1

theorem State.flagTwo_second (hk : 1 < 2 ^ g.width) : (s.flagTwo f g c true).rd g 0 = 1 := State.wr_rd_fits _ hk

theorem State.flagTwo_regs (x : Fld) (i : Nat) (hf : x.slot i ≠ f.slot 0) (hg : x.slot i ≠ g.slot 0) : (s.flagTwo f g c d).rd x i = s.rd x i := by
  have h1 (u : State) : (u.wr f 0 1).rd x i = u.rd x i := u.wr_rd_slot 1 hf
  have h2 (u : State) : (u.wr g 0 1).rd x i = u.rd x i := u.wr_rd_slot 1 hg
  unfold State.flagTwo
  cases c <;> cases d <;> simp [h1, h2]

end

theorem State.winRead_blind {off n : Nat} (h : s.fl R.FLS_STATUS.BUSY 0 = true ∨ s.fl R.FLS_STATUS.PRESENT 0 = false ∨ s.flashReach ≤ s.winAddr off) :
    s.winRead off n = (s.flagTwo R.FLS_STATUS.WIN_BUSY_READ R.FLS_STATUS.RANGE (s.fl R.FLS_STATUS.BUSY 0) (s.fl R.FLS_STATUS.PRESENT 0 && s.flashReach ≤ s.winAddr off),
      List.replicate n 0) := by
  refine if_pos ?_
  obtain h | h | h := h
  · simp [h]
  · simp [h]
  · cases s.fl R.FLS_STATUS.PRESENT 0 <;> simp [h]

theorem State.winRead_sees {off n : Nat} (hb : s.fl R.FLS_STATUS.BUSY 0 = false) (hp : s.fl R.FLS_STATUS.PRESENT 0 = true) (ha : s.winAddr off < s.flashReach) :
    s.winRead off n = if s.flashWide then (s.prefetch (s.winAddr off) n, s.flashRead (s.winAddr off) n)
      else (s.send (.flash (0x0B :: beBytes 3 (s.winAddr off) ++ [0]) n), s.flashRead (s.winAddr off) n) := by
  refine if_neg ?_
  simp [hb, hp, ha]

theorem State.prefetch_keeps (a n : Nat) : s.keeps (s.prefetch a n) [.flash] := by
  have hflash (u : State) (x : FlashSt) : s.keeps { u with flash := x } [.flash] ↔ s.keeps u [.flash] := State.keeps_congr fun p hp => by
    cases p
    case flash => exact absurd (by decide) hp
    all_goals rfl
  have hnew (x : FlashSt) (o : Out) : s.keeps ({ s with flash := x }.send o) [.flash] := (State.keeps_send o).2 ((hflash s x).2 (s.keeps_refl _))
  unfold State.prefetch
  dsimp only
  split
  · split
    · split
      · exact (hflash s _).2 (s.keeps_refl _)
      · exact s.keeps_refl _
    · exact hnew _ _
  · exact hnew _ _

theorem State.prefetch_first {a n : Nat} (h : s.flash.buffer = none) : (s.prefetch a n).out = s.out ++ [.flash (0x0C :: beBytes 4 a ++ [0]) n] := by
  unfold State.prefetch
  dsimp only
  rw [h]
  rfl

theorem State.winAddr_add {off : Nat} (n : Nat) (h : 0x8000 ≤ off) : s.winAddr (off + n) = s.winAddr off + n := by
  unfold State.winAddr
  omega

/-- The bytes of a write with their places. -/
def winBytes (off : Nat) (bytes : List Byte) : List (Nat × Nat) := bytes.zipIdx.map fun e => (off + e.2, e.1.toNat)

theorem winBytes_isEmpty {bytes : List Byte} (off : Nat) (h : bytes ≠ []) : (winBytes off bytes).isEmpty = false := by
  cases bytes with
  | nil => exact absurd rfl h
  | cons b l => rfl

theorem execFlashWindowWrite_acts {rq : Req} {off : Nat} {bytes : List Byte} (hr : s.reachable rq = true) (hm : s.winMay rq = true) (hlo : 0x8000 ≤ off) (hhi : off < 0x10000)
    (hl : off % 8 + bytes.length ≤ 8) {u : State} {b : Bool} (h : (s.withOut []).winWrite rq off (winBytes off bytes) = (u, b)) :
    execFlashWindowWrite rq off bytes s = .next (s.commit (u.when b (·.refuse rq off false))) := by
  refine done_is s ?_
  change (if _ then _ else State.winAct _ rq off (winBytes off bytes)) = _
  rw [if_neg (by simp; omega), State.winAct, State.reachable_out, hr, State.withOut_winMay, hm, if_neg (by decide), if_neg (by decide), h]

theorem winBytes_snd (off : Nat) (bytes : List Byte) : (winBytes off bytes).map (·.2) = bytes.map BitVec.toNat := by
  have h (l : List Byte) (n : Nat) : ((l.zipIdx n).map fun e => e.1.toNat) = l.map (·.toNat) := by
    induction l generalizing n with
    | nil => rfl
    | cons b l ih => exact congrArg _ (ih (n + 1))
  exact (List.map_map ..).trans (h bytes 0)

theorem winBytes_head {bytes : List Byte} (off : Nat) (h : bytes ≠ []) : ((winBytes off bytes).headD (0, 0)).1 = off := by
  cases bytes with
  | nil => exact absurd rfl h
  | cons b l => simp [winBytes]

/-- A write that programs: what is sent, and the program in progress. -/
theorem State.winWrite_programs {rq : Req} {off : Nat} {bytes : List Byte} (hlo : 0x8000 ≤ off) (hne : bytes ≠ []) (hh : s.holds rq = true) (hb : s.fl R.FLS_STATUS.BUSY 0 = false)
    (hw : s.flashWide = false) (ha : s.winAddr off < s.flashReach) : s.winWrite rq off (winBytes off bytes) =
      ({ (s.send (.flash [0x06] 0)).send (.flash (0x02 :: beBytes 3 (s.winAddr off) ++ bytes.map BitVec.toNat) 0) with
          flash := { s.flash with program := some (winBytes (s.winAddr off) bytes) } }.wr R.FLS_STATUS.BUSY 0 1, false) := by
  have hprog : ((winBytes off bytes).map fun e => (s.winAddr e.1, e.2)) = winBytes (s.winAddr off) bytes := by
    exact (List.map_map ..).trans (List.map_congr_left fun e _ => Prod.ext (s.winAddr_add e.2 hlo) rfl)
  unfold State.winWrite
  dsimp only
  rw [winBytes_isEmpty off hne, if_neg (by decide), hprog, winBytes_snd, winBytes_head _ hne, if_neg (by simp [hh, hb, hw, ha])]
  rfl

theorem State.winWrite_refuses {rq : Req} {off : Nat} {bytes : List Byte} (hne : bytes ≠ []) (h : s.holds rq = false ∨ s.fl R.FLS_STATUS.BUSY 0 = true ∨ s.flashWide = true ∨ s.flashReach ≤ s.winAddr off) :
    s.winWrite rq off (winBytes off bytes) =
      (s.flagTwo R.FLS_STATUS.WIN_WRITE_REFUSED R.FLS_STATUS.RANGE s.flashWide (s.flashReach ≤ s.winAddr off), true) := by
  unfold State.winWrite
  dsimp only
  have hbar : (!s.holds rq || s.fl R.FLS_STATUS.BUSY 0 || s.flashWide || decide (s.flashReach ≤ s.winAddr off)) = true := by
    obtain h | h | h | h := h <;> simp [h]
  rw [winBytes_isEmpty off hne, if_neg (by decide), if_pos hbar]
  rfl

/-! Outcomes of the commands -/

theorem State.keeps_flash {s u : State} (x : FlashSt) {l : List Part} (hl : .flash ∈ l) : s.keeps { u with flash := x } l ↔ s.keeps u l :=
  State.keeps_congr fun p hp => by
    cases p
    case flash => exact absurd hl hp
    all_goals rfl

theorem State.keepsRegs_flash {s u : State} (x : FlashSt) {n : List Nat} : s.keepsRegs { u with flash := x } n ↔ s.keepsRegs u n := Iff.rfl

theorem execFlashCmdGo_goes {rq : Req} {w : Word} {u : State} (hw : s.canWrite rq .FLS_CMD 0) (h : s.holds rq = true) (hb : s.rd R.FLS_STATUS.BUSY 0 = 0)
    (hn : R.FLS_CMD.ADDR_BYTES.part w.toNat = 0 ∨ R.FLS_CMD.ADDR_BYTES.part w.toNat = 3 ∨ R.FLS_CMD.ADDR_BYTES.part w.toNat = 4) (hl : R.FLS_CMD.DATA_LEN.part w.toNat ≤ 256)
    (hu : ((s.withOut []).flsWritten (Nat.lor w.toNat (2 ^ 28))).flashGo = u) : execFlashCmdGo rq w s = .next (s.commit u) := by
  have hook : flsCmdHook rq (s.copyOf rq .FLS_CMD 0) (Nat.lor w.toNat (2 ^ 28)) 15 (s.withOut []) = (u, false) := by
    rw [s.copyOf_device rfl, flsCmdHook_open (s.withOut []) h hb, if_pos ⟨hn, hl⟩, hu]
  have e := writeRow_takesAt s (h := flsCmdHook) hw (by rw [hook])
  rwa [hook] at e

theorem execFlashCmdGo_errs {rq : Req} {w : Word} {u : State} (hw : s.canWrite rq .FLS_CMD 0) (h : s.holds rq = true) (hb : s.rd R.FLS_STATUS.BUSY 0 = 0)
    (hn : (R.FLS_CMD.ADDR_BYTES.part w.toNat ≠ 0 ∧ R.FLS_CMD.ADDR_BYTES.part w.toNat ≠ 3 ∧ R.FLS_CMD.ADDR_BYTES.part w.toNat ≠ 4) ∨ 256 < R.FLS_CMD.DATA_LEN.part w.toNat)
    (hu : ((s.withOut []).flsWritten (Nat.lor w.toNat (2 ^ 28))).wr R.FLS_CMD.STATUS 0 3 = u) : execFlashCmdGo rq w s = .next (s.commit u) := by
  have hook : flsCmdHook rq (s.copyOf rq .FLS_CMD 0) (Nat.lor w.toNat (2 ^ 28)) 15 (s.withOut []) = (u, false) := by
    rw [s.copyOf_device rfl, flsCmdHook_open (s.withOut []) h hb, if_neg (by omega), hu]
  have e := writeRow_takesAt s (h := flsCmdHook) hw (by rw [hook])
  rwa [hook] at e

/-- The flash as its identification shows it (R496). -/
def State.flashShown (s : State) (present : Bool) (id : Nat) : State :=
  (((s.send (.flash [0x66] 0)).send (.flash [0x99] 0)).send (.flash [0x9F] 3)).wr R.FLS_ID.ID 0 id |>.wb R.FLS_STATUS.PRESENT 0 (present && 0x14 ≤ bits id 16 8 && bits id 16 8 ≤ 0x1C)

theorem execFlashIdentify_shows {present : Bool} {id : Nat} (ha : s.alive = true) : execFlashIdentify present id s = .next (s.commit ((s.withOut []).flashShown present id)) := by
  refine done_is s ?_
  dsimp only
  rw [show (s.withOut []).alive = true from ha]
  rfl

theorem execFlashIdentify_idle {present : Bool} {id : Nat} (ha : s.alive = false) : ∃ t, execFlashIdentify present id s = .next t ∧ s.keeps t [] := by
  refine done_idle s ?_
  dsimp only
  rw [show (s.withOut []).alive = false from ha]
  rfl

/-- A command that ends, after the bytes it read or the effect it had (R505). -/
def State.flsEnded (s : State) (c : FlashCmd) (status : Nat) : State :=
  let s := s.when c.poll (·.wr R.FLS_STATUS.LAST_SR 0 status)
  ({ s with flash := { s.flash with cmd := none } }.wr R.FLS_CMD.STATUS 0 2).wr R.FLS_STATUS.BUSY 0 0

theorem State.flsEnded_rd (c : FlashCmd) {status : Nat} (h : status < 256) : (s.flsEnded c status).rd R.FLS_CMD.STATUS 0 = 2 ∧ (s.flsEnded c status).rd R.FLS_STATUS.BUSY 0 = 0 ∧
    (c.poll = true → (s.flsEnded c status).rd R.FLS_STATUS.LAST_SR 0 = status) := by
  unfold State.flsEnded
  refine ⟨?_, ?_, fun hp => ?_⟩
  · rw [State.wr_rd_key _ _ (by decide), State.wr_rd_same]
    rfl
  · rw [State.wr_rd_same]
    rfl
  · rw [State.wr_rd_key _ _ (by decide), State.wr_rd_key _ _ (by decide), hp]
    exact (State.wr_rd_same _ _ _ _).trans (Nat.mod_eq_of_lt h)

theorem State.flsEnded_flash (c : FlashCmd) (status : Nat) : (s.flsEnded c status).flash = { s.flash with cmd := none } := by
  unfold State.flsEnded
  cases c.poll <;> rfl

theorem State.flsEnded_byte (c : FlashCmd) (status j : Nat) : (s.flsEnded c status).flsByte j = s.flsByte j := by
  refine s.flsByte_congr ?_
  unfold State.flsEnded
  rw [State.wr_rd_key _ _ (by decide), State.wr_rd_key _ _ (by decide)]
  cases c.poll
  · rfl
  · exact State.wr_rd_key _ _ (by decide)

theorem execFlashCmdDone_ends {status : Byte} {bytes : List Byte} {c : FlashCmd} (hc : s.flash.cmd = some c) (hp : c.poll = false ∨ status.toNat % 2 = 0) :
    execFlashCmdDone status bytes s = .next (s.commit (State.flsEnded
      (if c.fromFlash then (s.withOut []).putFlsBytes ((s.withOut []).flashAnswer c (bytes.map (·.toNat))) 0 else (s.withOut []).flashEffect c) c status.toNat)) := by
  refine done_is s ?_
  dsimp only
  rw [State.withOut_flash, hc]
  dsimp only
  rw [if_neg (by obtain h | h := hp <;> simp [h])]
  rfl

theorem State.flashAnswer_length (c : FlashCmd) (l : List Nat) : (s.flashAnswer c l).length = c.len := by
  unfold State.flashAnswer
  split
  · simp [State.flashRead, smRead]
  · simp

theorem State.flashAnswer_byte (c : FlashCmd) (bytes : List Byte) {j : Nat} (h : j < c.len) : (s.flashAnswer c (bytes.map (·.toNat))).getD j 0 % 256 =
    if (c.opcode = 0x0B ∧ c.addrBytes = 3 ∧ c.dummy = 8) ∨ (c.opcode = 0x0C ∧ c.addrBytes = 4 ∧ c.dummy = 8) then (s.flashRead c.addr c.len).getD j 0 % 256 else (bytes.getD j 0xFF).toNat := by
  unfold State.flashAnswer
  simp only [Bool.or_eq_true, Bool.and_eq_true, decide_eq_true_eq, and_assoc]
  split
  · rfl
  · have hb : (bytes.map (·.toNat)).getD j 0xFF = (bytes.getD j 0xFF).toNat := by
      rw [List.getD_eq_getElem?_getD, List.getD_eq_getElem?_getD, List.getElem?_map]
      cases bytes[j]? <;> rfl
    rw [List.getD_eq_getElem?_getD, List.getElem?_map, List.getElem?_range h, Option.map_some, Option.getD_some, hb]
    exact Nat.mod_eq_of_lt (bytes.getD j 0xFF).isLt


section
variable {rq : Req} {f : Fin 64} {w : Word}

theorem flashLockReq_claims (hw : s.canWrite rq .FLS_LOCK 0) (h0 : s.rd R.FLS_LOCK.HOLDER 0 = 0) :
    execFlashLockReq rq s = .next (s.commit ((s.withOut []).wr R.FLS_LOCK.HOLDER 0 (holderCode rq))) := by
  have hook : flsLockHook rq (s.copyOf rq .FLS_LOCK 0) 1 15 (s.withOut []) = _ := flsLockHook_claims (s.withOut []) h0
  have e := writeRow_takesAt (h := flsLockHook) s hw (by rw [hook])
  rwa [hook] at e

theorem flashLockReq_denies (hw : s.canWrite rq .FLS_LOCK 0) (h0 : s.rd R.FLS_LOCK.HOLDER 0 ≠ 0) :
    execFlashLockReq rq s = .next (s.commit ((s.withOut []).wr R.FLS_LOCK.REFUSED 0 1)) := by
  have hook : flsLockHook rq (s.copyOf rq .FLS_LOCK 0) 1 15 (s.withOut []) = _ := flsLockHook_denies (s.withOut []) h0
  have e := writeRow_takesAt (h := flsLockHook) s hw (by rw [hook])
  rwa [hook] at e

theorem flashLockRelease_releases (hw : s.canWrite rq .FLS_LOCK 0) (hh : s.holds rq = true) :
    execFlashLockRelease rq s = .next (s.commit ((s.withOut []).wr R.FLS_LOCK.HOLDER 0 0)) := by
  have hook : flsLockHook rq (s.copyOf rq .FLS_LOCK 0) 2 15 (s.withOut []) = _ := flsLockHook_releases (s.withOut []) hh
  have e := writeRow_takesAt (h := flsLockHook) s hw (by rw [hook])
  rwa [hook] at e

theorem flashCmdGo_barred (hw : s.canWrite (.fn f) .FLS_CMD 0) (h : s.holds (.fn f) = false ∨ s.rd R.FLS_STATUS.BUSY 0 = 1) :
    ∃ t, execFlashCmdGo (.fn f) w s = .next t ∧ t.flash = s.flash ∧ t.out = [] ∧ t.rd R.FLS_CMD.STATUS 0 = s.rd R.FLS_CMD.STATUS 0 ∧
      t.rd R.HOST_REFUSE.COUNT f.val = min (s.rd R.HOST_REFUSE.COUNT f.val + 1) (2 ^ R.HOST_REFUSE.COUNT.width - 1) := by
  have hbar : (s.withOut []).holds (.fn f) = false ∨ (s.withOut []).fl R.FLS_STATUS.BUSY 0 = true := h.imp_right fun h => by rw [State.withOut_fl, State.fl_eq, h]; rfl
  have hook : flsCmdHook (.fn f) (s.copyOf (.fn f) .FLS_CMD 0) (Nat.lor w.toNat (2 ^ 28)) 15 (s.withOut []) = _ := flsCmdHook_barred (s.withOut []) hbar
  obtain ⟨hcount, -, -, hk, hf⟩ := s.refused_counts (f := f) (Reg.offset .FLS_CMD 0)
  have e := writeRow_refusesAt (h := flsCmdHook) s hw (by rw [hook])
  rw [hook] at e
  exact ⟨_, e, hk .flash (by decide), State.refuse_out _ _ _ _, hf _ _ (by decide), hcount⟩

theorem flashCmdGo_goes (hw : s.canWrite rq .FLS_CMD 0) (hh : s.holds rq = true) (hb : s.rd R.FLS_STATUS.BUSY 0 = 0)
    (hn : R.FLS_CMD.ADDR_BYTES.part w.toNat = 0 ∨ R.FLS_CMD.ADDR_BYTES.part w.toNat = 3 ∨ R.FLS_CMD.ADDR_BYTES.part w.toNat = 4) (hl : R.FLS_CMD.DATA_LEN.part w.toNat ≤ 256) :
    ∃ t, execFlashCmdGo rq w s = .next t ∧ t.rd R.FLS_CMD.STATUS 0 = 1 ∧ t.rd R.FLS_STATUS.BUSY 0 = 1 ∧
      t.out = (if R.FLS_CMD.WREN.part w.toNat = 1 then [.flash [0x06] 0] else []) ++ [.flash (R.FLS_CMD.OPCODE.part w.toNat :: beBytes (R.FLS_CMD.ADDR_BYTES.part w.toNat)
        (s.rd R.FLS_ADDR.ADDR 0 % 2 ^ (8 * R.FLS_CMD.ADDR_BYTES.part w.toNat)) ++ (if R.FLS_CMD.DIR.part w.toNat = 1 then [] else (List.range (R.FLS_CMD.DATA_LEN.part w.toNat)).map s.flsByte))
          (if R.FLS_CMD.DIR.part w.toNat = 1 then R.FLS_CMD.DATA_LEN.part w.toNat else 0)] ∧
      (t.flash.cmd.map fun c => (c.opcode, c.addr, c.len, c.fromFlash)) =
        some (R.FLS_CMD.OPCODE.part w.toNat, s.rd R.FLS_ADDR.ADDR 0 % 2 ^ (8 * R.FLS_CMD.ADDR_BYTES.part w.toNat), R.FLS_CMD.DATA_LEN.part w.toNat, decide (R.FLS_CMD.DIR.part w.toNat = 1)) ∧
      t.flash.cells = s.flash.cells ∧ t.flash.buffer = (if R.FLS_CMD.DIR.part w.toNat = 1 then s.flash.buffer else none) := by
  refine ⟨_, execFlashCmdGo_goes s hw hh hb hn hl rfl, ?_⟩
  rw [State.commit_rd, State.commit_rd, State.commit_out, State.commit_flash, State.flashGo_flash, State.flashGo_out, State.flsWritten_cmd, State.flsWritten_flash, State.flsWritten_out]
  refine ⟨(State.flashGo_rd _).1, (State.flashGo_rd _).2, ?_, rfl, rfl, ?_⟩
  · simp only [State.withOut_out, List.nil_append, decide_eq_true_eq]
    rfl
  · simp only [State.withOut_flash, decide_eq_true_eq]

theorem flashCmdGo_errs (hw : s.canWrite rq .FLS_CMD 0) (hh : s.holds rq = true) (hb : s.rd R.FLS_STATUS.BUSY 0 = 0)
    (h : (R.FLS_CMD.ADDR_BYTES.part w.toNat ≠ 0 ∧ R.FLS_CMD.ADDR_BYTES.part w.toNat ≠ 3 ∧ R.FLS_CMD.ADDR_BYTES.part w.toNat ≠ 4) ∨ 256 < R.FLS_CMD.DATA_LEN.part w.toNat) :
    ∃ t, execFlashCmdGo rq w s = .next t ∧ t.rd R.FLS_CMD.STATUS 0 = 3 ∧ t.rd R.FLS_STATUS.BUSY 0 = 0 ∧ t.out = [] ∧ t.flash = s.flash := by
  refine ⟨_, execFlashCmdGo_errs s hw hh hb h rfl, ?_, ?_, ?_, ?_⟩
  · exact (s.commit_rd _ _ _).trans (State.wr_rd_fits _ (by decide))
  · rw [State.commit_rd, State.wr_rd_key _ _ (by decide), State.flsWritten_rd _ _ _ (by decide)]
    exact hb
  · rw [State.commit_out, State.wr_out, State.flsWritten_out, State.withOut_out]
  · rw [State.commit_flash, State.wr_flash, State.flsWritten_flash, State.withOut_flash]

end

section
variable {status : Byte} {bytes : List Byte} {c : FlashCmd} (hc : s.flash.cmd = some c) (hp : c.poll = false ∨ status.toNat % 2 = 0)
include hc hp

theorem flashCmdDone_reads (hf : c.fromFlash = true) :
    ∃ t, execFlashCmdDone status bytes s = .next t ∧ (∀ j, j < c.len → t.flsByte j = (if (c.opcode = 0x0B ∧ c.addrBytes = 3 ∧ c.dummy = 8) ∨ (c.opcode = 0x0C ∧ c.addrBytes = 4 ∧ c.dummy = 8)
        then (s.flashRead c.addr c.len).getD j 0 % 256 else (bytes.getD j 0xFF).toNat)) ∧ t.rd R.FLS_CMD.STATUS 0 = 2 ∧ t.rd R.FLS_STATUS.BUSY 0 = 0 ∧
      t.flash = { s.flash with cmd := none } ∧ (c.poll = true → t.rd R.FLS_STATUS.LAST_SR 0 = status.toNat) := by
  have e := execFlashCmdDone_ends s (bytes := bytes) hc hp
  rw [hf, if_pos rfl] at e
  obtain ⟨hstatus, hbusy, hlast⟩ := State.flsEnded_rd ((s.withOut []).putFlsBytes ((s.withOut []).flashAnswer c (bytes.map (·.toNat))) 0) c status.isLt
  refine ⟨_, e, fun j hj => ?_, hstatus, hbusy, ?_, hlast⟩
  · have hb := (s.withOut []).putFlsBytes_byte ((s.withOut []).flashAnswer c (bytes.map (·.toNat))) 0 (j := j) (by rwa [State.flashAnswer_length])
    rw [Nat.zero_add] at hb
    exact (State.flsEnded_byte _ c _ j).trans (hb.trans ((s.withOut []).flashAnswer_byte c bytes hj))
  · rw [State.commit_flash, State.flsEnded_flash, State.putFlsBytes_flash, State.withOut_flash]

theorem flashCmdDone_programs {b : Nat} (hf : c.fromFlash = false) (ho : c.opcode = 0x02) (hw : c.wren = true) (hd : c.data = [b]) :
    ∃ t, execFlashCmdDone status bytes s = .next t ∧ smGet 0xFF t.flash.cells c.addr = Nat.land (smGet 0xFF s.flash.cells c.addr) (b % 256) ∧
      (∀ a, a ≠ c.addr → smGet 0xFF t.flash.cells a = smGet 0xFF s.flash.cells a) ∧ t.flash.wel = false ∧ t.flash.cmd = none ∧ t.rd R.FLS_CMD.STATUS 0 = 2 ∧ t.rd R.FLS_STATUS.BUSY 0 = 0 := by
  have e := execFlashCmdDone_ends s (bytes := bytes) hc hp
  rw [hf, if_neg (by decide), State.flashEffect_byte _ ho hw hd] at e
  refine ⟨_, e, ?_⟩
  rw [State.commit_flash, State.flsEnded_flash]
  exact ⟨smGet_programByte_same _ _ _, fun a ha => smGet_programByte_ne _ b ha, rfl, rfl, (State.flsEnded_rd _ c status.isLt).1, (State.flsEnded_rd _ c status.isLt).2.1⟩

end

section
variable {rq : Req} {off n : Nat} {long : Bool} (hr : s.reachable rq = true) (hm : s.winMay rq = true) (hlo : 0x8000 ≤ off) (hhi : off < 0x10000)
include hr hm hlo hhi

theorem flashWindowRead_narrow (hn : n = if long then 8 else 4) (ha : off % n = 0) (hb : s.fl R.FLS_STATUS.BUSY 0 = false) (hp : s.fl R.FLS_STATUS.PRESENT 0 = true)
    (hin : s.winAddr off < s.flashReach) (hwide : s.flashWide = false) :
    ∃ t, execFlashWindowRead rq off long s = .next t ∧ t.out = [.flash (0x0B :: beBytes 3 (s.winAddr off) ++ [0]) n, .data (s.flashRead (s.winAddr off) n)] ∧ s.keeps t [] := by
  have e := execFlashWindowRead_reads s hr hm hlo hhi hn ha
  rw [State.winRead_sees (s.withOut []) hb hp hin, show (s.withOut []).flashWide = false from hwide, if_neg (by decide)] at e
  exact ⟨_, e, rfl, State.keeps_commit (by simp)⟩

theorem flashWindowRead_wide (hn : n = if long then 8 else 4) (ha : off % n = 0) (hb : s.fl R.FLS_STATUS.BUSY 0 = false) (hp : s.fl R.FLS_STATUS.PRESENT 0 = true)
    (hin : s.winAddr off < s.flashReach) (hwide : s.flashWide = true) :
    ∃ t, execFlashWindowRead rq off long s = .next t ∧ t.out.getLast? = some (.data (s.flashRead (s.winAddr off) n)) ∧ s.keeps t [.flash] ∧
      (s.flash.buffer = none → t.out.head? = some (.flash (0x0C :: beBytes 4 (s.winAddr off) ++ [0]) n)) := by
  have e := execFlashWindowRead_reads s hr hm hlo hhi hn ha
  rw [State.winRead_sees (s.withOut []) hb hp hin, show (s.withOut []).flashWide = true from hwide, if_pos rfl] at e
  have hk : s.keeps ((s.withOut []).prefetch (s.winAddr off) n) [.flash] := (State.keeps_congr ((s.withOut []).prefetch_keeps _ n)).2 (by simp)
  refine ⟨_, e, List.getLast?_concat, State.keeps_commit ((State.keeps_send _).2 hk), fun hnone => ?_⟩
  change ((State.prefetch (s.withOut []) _ n).out ++ [_]).head? = _
  rw [State.prefetch_first (s.withOut []) hnone]
  rfl

theorem flashWindowRead_blind (hn : n = if long then 8 else 4) (ha : off % n = 0)
    (h : s.fl R.FLS_STATUS.BUSY 0 = true ∨ s.fl R.FLS_STATUS.PRESENT 0 = false ∨ s.flashReach ≤ s.winAddr off) :
    ∃ t, execFlashWindowRead rq off long s = .next t ∧ t.out = [.data (List.replicate n 0)] ∧ t.flash = s.flash ∧ (s.fl R.FLS_STATUS.BUSY 0 = true → t.rd R.FLS_STATUS.WIN_BUSY_READ 0 = 1) ∧
      (s.fl R.FLS_STATUS.BUSY 0 = false → s.fl R.FLS_STATUS.PRESENT 0 = true → t.rd R.FLS_STATUS.RANGE 0 = 1) ∧ s.keepsRegs t [R.FLS_STATUS.RANGE.slot 0, R.FLS_STATUS.WIN_BUSY_READ.slot 0] := by
  have e := execFlashWindowRead_reads s hr hm hlo hhi hn ha
  rw [State.winRead_blind (s.withOut []) h] at e
  refine ⟨_, e, ?_⟩
  rw [State.withOut_fl, State.withOut_fl]
  have hreach : s.fl R.FLS_STATUS.BUSY 0 = false → s.fl R.FLS_STATUS.PRESENT 0 = true → (s.flashReach ≤ s.winAddr off) := fun hb hp => by simpa [hb, hp] using h
  refine ⟨?_, ?_, fun hb => ?_, fun hb hp => ?_, ?_⟩
  · rw [State.commit_out]
    exact congrArg (· ++ [_]) (State.flagTwo_keeps _ _ _ _ _).2
  · exact (State.flagTwo_keeps (s.withOut []) _ _ _ _).1 .flash (by decide)
  · rw [hb]
    exact State.flagTwo_first _ _ _ _ (by decide)
  · rw [hb, hp, show decide ((s.withOut []).flashReach ≤ (s.withOut []).winAddr off) = true from decide_eq_true (hreach hb hp)]
    exact State.flagTwo_second _ _ _ _ (by decide)
  · exact fun g i hg => State.flagTwo_regs _ _ _ _ _ _ _ (fun e => hg (by simp [e])) fun e => hg (by simp [e])

variable {bytes : List Byte} (hne : bytes ≠ []) (hl : off % 8 + bytes.length ≤ 8)
include hne hl

theorem flashWindowWrite_programs (hh : s.holds rq = true) (hb : s.fl R.FLS_STATUS.BUSY 0 = false) (hwide : s.flashWide = false) (hin : s.winAddr off < s.flashReach) :
    ∃ t, execFlashWindowWrite rq off bytes s = .next t ∧ t.flash.program = some (winBytes (s.winAddr off) bytes) ∧ t.flash.cells = s.flash.cells ∧ t.rd R.FLS_STATUS.BUSY 0 = 1 ∧
      t.out = [.flash [0x06] 0, .flash (0x02 :: beBytes 3 (s.winAddr off) ++ bytes.map BitVec.toNat) 0] ∧ s.keeps t [.regs, .flash] ∧ s.keepsRegs t [R.FLS_STATUS.BUSY.slot 0] := by
  have e := execFlashWindowWrite_acts s hr hm hlo hhi hl (State.winWrite_programs (s.withOut []) hlo hne hh hb hwide hin)
  rw [State.when_false] at e
  refine ⟨_, e, rfl, rfl, ?_, rfl, State.keeps_commit ?_, ?_⟩
  · rw [State.commit_rd]
    exact State.wr_rd_fits _ (by decide)
  · rw [State.keeps_wr _ _ _ (by decide), State.keeps_flash _ (by decide), State.keeps_send, State.keeps_send, State.keeps_withOut]
    exact State.keeps_refl _ _
  · rw [State.keepsRegs_commit, State.keepsRegs_wr R.FLS_STATUS.BUSY 0 1 (by decide), State.keepsRegs_flash, State.keepsRegs_send, State.keepsRegs_send, State.keepsRegs_withOut]
    exact s.keepsRegs_refl _

end

theorem flashWindowWrite_refused {f : Fin 64} {off : Nat} {bytes : List Byte} (hr : s.reachable (.fn f) = true) (hm : s.winMay (.fn f) = true) (hlo : 0x8000 ≤ off) (hhi : off < 0x10000)
    (hne : bytes ≠ []) (hl : off % 8 + bytes.length ≤ 8) (h : s.holds (.fn f) = false ∨ s.fl R.FLS_STATUS.BUSY 0 = true ∨ s.flashWide = true ∨ s.flashReach ≤ s.winAddr off) :
    ∃ t, execFlashWindowWrite (.fn f) off bytes s = .next t ∧ t.flash = s.flash ∧ t.out = [] ∧ t.rd R.HOST_REFUSE.COUNT f.val = min (s.rd R.HOST_REFUSE.COUNT f.val + 1) (2 ^ R.HOST_REFUSE.COUNT.width - 1) := by
  refine ⟨_, execFlashWindowWrite_acts s hr hm hlo hhi hl (State.winWrite_refuses (s.withOut []) hne h), ?_⟩
  rw [State.when_true, State.commit_flash, State.commit_out, State.commit_rd, State.refuse_out, State.refuse_count]
  have hcount := State.flagTwo_regs (s.withOut []) R.FLS_STATUS.WIN_WRITE_REFUSED R.FLS_STATUS.RANGE (s.withOut []).flashWide (decide ((s.withOut []).flashReach ≤ (s.withOut []).winAddr off))
    R.HOST_REFUSE.COUNT f.val (fun e => absurd (congrArg (· % 1024) e) (by simp [Fld.slot]; decide)) (fun e => absurd (congrArg (· % 1024) e) (by simp [Fld.slot]; decide))
  obtain ⟨hk, ho⟩ := State.flagTwo_keeps (s.withOut []) R.FLS_STATUS.WIN_WRITE_REFUSED R.FLS_STATUS.RANGE (s.withOut []).flashWide (decide ((s.withOut []).flashReach ≤ (s.withOut []).winAddr off))
  revert hcount hk ho
  generalize State.flagTwo _ _ _ _ _ = u
  intro hcount hk ho
  have hflash : (u.refuse (.fn f) off false).flash = u.flash := rfl
  exact ⟨hflash.trans (hk .flash (by decide)), ho, congrArg (fun n => min (n + 1) 65535) hcount⟩

theorem flashCmdDone_none {status : Byte} {bytes : List Byte} (hc : s.flash.cmd = none) : ∃ t, execFlashCmdDone status bytes s = .next t ∧ s.keeps t [] := by
  refine done_idle s ?_
  dsimp only
  rw [State.withOut_flash, hc]

theorem flashCmdDone_polls {status : Byte} {bytes : List Byte} {c : FlashCmd} (hc : s.flash.cmd = some c) (hp : c.poll = true) (hs : status.toNat % 2 = 1) :
    ∃ t, execFlashCmdDone status bytes s = .next t ∧ s.keeps t [] := by
  refine done_idle s ?_
  dsimp only
  rw [State.withOut_flash, hc]
  exact if_pos (by simp [hp, hs])

theorem flashProgramDone_cells {status : Byte} {l : List (Nat × Nat)} (hl : s.flash.program = some l) (hn : (l.map (·.1)).Nodup) (hs : status.toNat % 2 = 0) :
    ∃ t, execFlashProgramDone status s = .next t ∧ (∀ e ∈ l, smGet 0xFF t.flash.cells e.1 = Nat.land (smGet 0xFF s.flash.cells e.1) (e.2 % 256)) ∧
      (∀ c, c ∉ l.map (·.1) → smGet 0xFF t.flash.cells c = smGet 0xFF s.flash.cells c) ∧ t.flash.program = none ∧ t.rd R.FLS_STATUS.BUSY 0 = 0 ∧ t.rd R.FLS_STATUS.LAST_SR 0 = status.toNat := by
  have e : execFlashProgramDone status s = .next (s.commit ((s.withOut []).programEnd.wr R.FLS_STATUS.LAST_SR 0 status.toNat)) := done_is s (if_neg (by simp [hl, hs]))
  rw [State.programEnd_some (s.withOut []) hl] at e
  refine ⟨_, e, smGet_programs l _ hn, fun c hc => smGet_programs_other l _ hc, rfl, ?_, ?_⟩
  · rw [State.commit_rd, State.wr_rd_key _ _ (by decide)]
    exact State.wr_rd_fits _ (by decide)
  · rw [State.commit_rd]
    exact State.wr_rd_fits _ status.isLt

theorem flashProgramDone_idle {status : Byte} (h : status.toNat % 2 = 1 ∨ s.flash.program = none) : ∃ t, execFlashProgramDone status s = .next t ∧ s.keeps t [] := by
  refine done_idle s (if_pos ?_)
  obtain h | h := h <;> simp [h]

theorem flashPollTimeout_cells {status : Byte} {a b : Nat} (hl : s.flash.program = some [(a, b)]) :
    ∃ t, execFlashPollTimeout status s = .next t ∧ t.rd R.FLS_STATUS.POLL_TIMEOUT 0 = 1 ∧ t.rd R.FLS_STATUS.LAST_SR 0 = status.toNat ∧ t.rd R.FLS_STATUS.BUSY 0 = 0 ∧ t.flash.program = none ∧
      smGet 0xFF t.flash.cells a = Nat.land (smGet 0xFF s.flash.cells a) (b % 256) := by
  have e : execFlashPollTimeout status s = .next (s.commit (((s.withOut []).programEnd.wr R.FLS_STATUS.POLL_TIMEOUT 0 1).wr R.FLS_STATUS.LAST_SR 0 status.toNat)) := by
    refine done_is s ?_
    dsimp only
    rw [State.withOut_flash, hl]
  rw [State.programEnd_some (s.withOut []) hl] at e
  refine ⟨_, e, ?_, ?_, ?_, rfl, smGet_programByte_same _ _ _⟩
  · rw [State.commit_rd, State.wr_rd_key _ _ (by decide)]
    exact State.wr_rd_fits _ (by decide)
  · rw [State.commit_rd]
    exact State.wr_rd_fits _ status.isLt
  · rw [State.commit_rd, State.wr_rd_key _ _ (by decide), State.wr_rd_key _ _ (by decide)]
    exact State.wr_rd_fits _ (by decide)

theorem flashPollTimeout_errs {status : Byte} {c : FlashCmd} (hl : s.flash.program = none) (hc : s.flash.cmd = some c) (hp : c.poll = true) :
    ∃ t, execFlashPollTimeout status s = .next t ∧ t.rd R.FLS_STATUS.POLL_TIMEOUT 0 = 1 ∧ t.rd R.FLS_STATUS.LAST_SR 0 = status.toNat ∧ t.rd R.FLS_STATUS.BUSY 0 = 0 ∧ t.rd R.FLS_CMD.STATUS 0 = 3 ∧
      t.flash.cmd = none := by
  obtain ⟨u, hu⟩ : ∃ u, (s.withOut []).when (!c.fromFlash) (·.flashEffect c) = u := ⟨_, rfl⟩
  have e : execFlashPollTimeout status s = .next (s.commit (((({ u with flash := { u.flash with cmd := none } }.wr R.FLS_CMD.STATUS 0 3).wr R.FLS_STATUS.BUSY 0 0).wr
      R.FLS_STATUS.POLL_TIMEOUT 0 1).wr R.FLS_STATUS.LAST_SR 0 status.toNat)) := by
    refine done_is s ?_
    dsimp only
    rw [State.withOut_flash, hl, hc]
    dsimp only
    rw [hp, if_neg (by decide), hu]
  refine ⟨_, e, ?_, ?_, ?_, ?_, rfl⟩
  · rw [State.commit_rd, State.wr_rd_key _ _ (by decide)]
    exact State.wr_rd_fits _ (by decide)
  · rw [State.commit_rd]
    exact State.wr_rd_fits _ status.isLt
  · rw [State.commit_rd, State.wr_rd_key _ _ (by decide), State.wr_rd_key _ _ (by decide)]
    exact State.wr_rd_fits _ (by decide)
  · rw [State.commit_rd, State.wr_rd_key _ _ (by decide), State.wr_rd_key _ _ (by decide), State.wr_rd_key _ _ (by decide)]
    exact State.wr_rd_fits _ (by decide)

theorem flashPollTimeout_idle {status : Byte} (hl : s.flash.program = none) (hc : (s.flash.cmd.any (·.poll)) = false) : ∃ t, execFlashPollTimeout status s = .next t ∧ s.keeps t [] := by
  refine done_idle s ?_
  dsimp only
  rw [State.withOut_flash, hl]
  cases hcmd : s.flash.cmd with
  | none => rfl
  | some c => exact if_pos (by simpa [hcmd] using hc)

end Sys2Proof.Machine

open Sys2Proof Sys2Proof.Machine

/-- Settles O51: the lock by the requester that asks, a command from its GO to its end, the aperture by what bars it, and a program by the bits it clears. -/
theorem bootFlash : Obligations.BootFlash := by
  refine ⟨fun s present id ha => ?_, fun s present id ha => execFlashIdentify_idle s ha, fun s rq hw h0 => ⟨_, flashLockReq_claims s hw h0, ?_⟩, fun s rq hw h0 => ⟨_, flashLockReq_denies s hw h0, ?_⟩,
    fun s rq hw hh => ⟨_, flashLockRelease_releases s hw hh, ?_⟩, fun s f hw hh => ?_,
    fun s rq w n len hw hh hb hn hn' hl hl' => ?_, fun s f w hw h => flashCmdGo_barred s hw h, fun s rq w n len hw hh hb hn hl h => ?_,
    fun s status bytes c hc hp hf hl => flashCmdDone_reads s hc hp hf,
    fun s status bytes c b hc hp hf ho hw hd => flashCmdDone_programs s hc hp hf ho hw hd, fun s status bytes c hc hp hs => flashCmdDone_polls s hc hp hs, fun s status bytes hc => flashCmdDone_none s hc,
    fun s rq off n long hr hm hlo hhi hn ha hb hp hin hwide => flashWindowRead_narrow s hr hm hlo hhi hn ha hb hp hin hwide,
    fun s rq off n long hr hm hlo hhi hn ha hb hp hin hwide => flashWindowRead_wide s hr hm hlo hhi hn ha hb hp hin hwide,
    fun s rq off n long hr hm hlo hhi hn ha h => flashWindowRead_blind s hr hm hlo hhi hn ha h,
    fun s rq off bytes hr hm hlo hhi hne hl hh hb hwide hin => flashWindowWrite_programs s hr hm hlo hhi hne hl hh hb hwide hin,
    fun s f off bytes hr hm hlo hhi hne hl h => flashWindowWrite_refused s hr hm hlo hhi hne hl h,
    fun s status l hl hn hs => ?_, fun s status h => ?_, fun s status a b hl => ?_, fun s status c hl hc hp => ?_, fun s status hl hc => ?_⟩
  case refine_1 =>
    refine ⟨_, execFlashIdentify_shows s ha, ?_, ?_, rfl, State.keeps_commit (by simp [State.flashShown])⟩
    all_goals unfold State.flashShown
    · rw [State.commit_rd, State.wb_rd_key _ _ (by decide), State.wr_rd_same]
      rfl
    · rw [State.commit_fl, State.wb_fl_same _ _ _ (by decide)]
      simp [and_assoc]
  case refine_2 =>
    have hh : ((s.withOut []).wr R.FLS_LOCK.HOLDER 0 (holderCode rq)).rd R.FLS_LOCK.HOLDER 0 = holderCode rq := (State.wr_rd_same _ _ _ _).trans (holderCode_mod rq)
    exact ⟨hh, decide_eq_true hh, State.wr_rd_key _ _ (by decide), by simp⟩
  case refine_3 => exact ⟨(s.commit_rd _ _ _).trans (State.wr_rd_fits _ (by decide)), by simp⟩
  case refine_4 => exact ⟨(s.commit_rd _ _ _).trans (State.wr_rd_fits _ (by decide)), by simp⟩
  case refine_5 =>
    obtain ⟨t, ht, hcount, -, hf⟩ := writeRow_counts s (h := flsLockHook) (w := 2) hw (flsLockHook_foreign (s.withOut []) hh)
    exact ⟨t, ht, hf _ _ (by decide), hcount⟩
  case refine_6 =>
    subst hn hl
    exact flashCmdGo_goes s hw hh hb hn' hl'
  case refine_7 =>
    subst hn hl
    exact flashCmdGo_errs s hw hh hb h
  case refine_8 => exact flashProgramDone_cells s hl hn hs
  case refine_9 =>
    exact flashProgramDone_idle s h
  case refine_10 => exact flashPollTimeout_cells s hl
  case refine_11 => exact flashPollTimeout_errs s hl hc hp
  case refine_12 => exact flashPollTimeout_idle s hl hc
end
section
/-! SUPPORT. The commands and writes of the non-volatile store and the drain of the shard log (R558 to R564), and O55. -/

namespace Sys2Proof.Machine

variable (s : State)

theorem leVal_lt (l : List Nat) : leVal l < 256 ^ l.length := by
  induction l with
  | nil => decide
  | cons b l ih =>
    have hb : b % 256 < 256 := Nat.mod_lt _ (by decide)
    rw [leVal, List.length_cons, Nat.pow_succ]
    omega

/-- A byte written in a run of bytes. -/
theorem smGet_smWrite_mem {d : Nat} (l : List Nat) (m : SMap Nat) (k : Nat) {i : Nat} (h : i < l.length) : smGet d (smWrite d m k l) (k + i) = l.getD i 0 % 256 := by
  induction l generalizing m k i with
  | nil => exact absurd h (Nat.not_lt_zero i)
  | cons b l ih =>
    cases i with
    | zero => exact (smGet_smWrite_ne l (by omega)).trans (smGet_smSet_same _ _ _ _)
    | succ i =>
      have hi := ih (smSet d m k (b % 256)) (k + 1) (i := i) (by simpa using h)
      rwa [show k + 1 + i = k + (i + 1) by omega] at hi

theorem State.with_nvm_rd (x : NvmSt) (f : Fld) (i : Nat) : ({ s with nvm := x } : State).rd f i = s.rd f i := rfl

/-! Commands (R563) -/

/-- The requester may reach the user records (R563). -/
def State.nvmOpen (s : State) (rq : Req) : Bool := s.image.any fun im => if rq = .spi then im.userAccess = 2 else im.userAccess ≠ 0

/-- NVM_CMD with the kind of its write. -/
def State.nvmKeyed (s : State) (w : Nat) : State := s.wr R.NVM_CMD.KIND 0 (R.NVM_CMD.KIND.part w)

/-- A command that is refused as not allowed. -/
def State.nvmBarred (s : State) : State := (s.wr R.NVM_CMD.STATUS 0 3).wr R.NVM_CMD.ERR 0 1

/-- A record read into NVM_BUF. -/
def State.nvmShown (s : State) (k : Nat) : State :=
  let bytes := (s.nvmPayload k).getD []
  let s := s.each (List.range 1020) fun u j => u.wr R.NVM_BUF.DATA j (leVal ((bytes.drop (4 * j)).take 4))
  let s := (s.wr R.NVM_SEQ.SEQ 0 (if (s.nvmChosen k).valid then (s.nvmChosen k).seq else 0)).wb R.NVM_CMD.VALID 0 (s.nvmChosen k).valid
  (s.wr R.NVM_CMD.STATUS 0 2).wr R.NVM_CMD.ERR 0 0

/-- A user record that waits to be written. -/
def State.nvmQueued (s : State) (k : Nat) : State := ({ s with nvm := { s.nvm with waiting := some k } }).wr R.NVM_CMD.STATUS 0 1

section
variable {rq : Req} {w : Nat}

theorem State.nvmKeyed_kind : (s.nvmKeyed w).rd R.NVM_CMD.KIND 0 = R.NVM_CMD.KIND.part w := (s.wr_rd_same _ _ _).trans (Fld.part_mod _ w)

theorem nvmCmdHook_busy (h : s.rd R.NVM_CMD.STATUS 0 = 1) : nvmCmdHook rq 0 w 15 s = (s, true) := if_pos h

/-- The rule of NVM_CMD for a command of a record, by its operation and by what the requester may reach. -/
theorem nvmCmdHook_idle {op : Nat} (h : s.rd R.NVM_CMD.STATUS 0 ≠ 1) (hop : op < 4) : nvmCmdHook rq 0 (putBits w 0 2 op) 15 s =
    let k := R.NVM_CMD.KIND.part w + 1
    let user : Bool := 16 ≤ k && k < 32 && s.nvmOpen rq
    if op = 1 then (if user || k = 2 || k = 4 then ((s.nvmKeyed w).nvmShown k, false) else ((s.nvmKeyed w).nvmBarred, false))
    else if op = 2 then
      (if !user then ((s.nvmKeyed w).nvmBarred, false)
      else if s.fl R.NVM_STATUS.DIR_FAIL 0 then (((s.nvmKeyed w).wr R.NVM_CMD.STATUS 0 3).wr R.NVM_CMD.ERR 0 3, false)
      else (((s.nvmKeyed w).nvmQueued k).nvmKick, false))
    else (s.nvmKeyed w, false) := by
  have hopen : (match s.image with | some im => if rq = .spi then decide (im.userAccess = 2) else decide (im.userAccess ≠ 0) | none => false) = s.nvmOpen rq := by
    unfold State.nvmOpen
    cases s.image
    · rfl
    · cases rq <;> rfl
  have hpart : R.NVM_CMD.OP.part (putBits w 0 2 op) = op := (Fld.part_putBits_same w op ⟨rfl, rfl⟩).trans (Nat.mod_eq_of_lt hop)
  have hdir : (s.nvmKeyed w).fl R.NVM_STATUS.DIR_FAIL 0 = s.fl R.NVM_STATUS.DIR_FAIL 0 := State.wr_fl_key _ _ (by decide)
  unfold nvmCmdHook
  dsimp only
  rw [if_neg h, Fld.enabled_whole, if_pos rfl, State.newv_whole, Fld.part_putBits (f := R.NVM_CMD.KIND) w op (by decide), hpart, ← State.nvmKeyed, s.nvmKeyed_kind, ← hopen, ← hdir]
  rfl

end

/-- Outcome of a command that its rule takes. -/
theorem nvmCmd_takes {rq : Req} {w : Nat} {u : State} (hw : s.canWrite rq .NVM_CMD 0) (h : nvmCmdHook rq 0 w 15 (s.withOut []) = (u, false)) :
    writeRow rq .NVM_CMD 0 w nvmCmdHook s = .next (s.commit u) := by
  have hook : nvmCmdHook rq (s.copyOf rq .NVM_CMD 0) w 15 (s.withOut []) = (u, false) := h
  have e := writeRow_takesAt s (h := nvmCmdHook) hw (by rw [hook])
  rwa [hook] at e

theorem nvmCmd_busy {f : Fin 64} {w : Nat} (hw : s.canWrite (.fn f) .NVM_CMD 0) (h : s.rd R.NVM_CMD.STATUS 0 = 1) :
    ∃ t, writeRow (.fn f) .NVM_CMD 0 w nvmCmdHook s = .next t ∧ t.rd R.NVM_CMD.STATUS 0 = 1 ∧ t.nvm = s.nvm ∧
      t.rd R.HOST_REFUSE.COUNT f.val = min (s.rd R.HOST_REFUSE.COUNT f.val + 1) (2 ^ R.HOST_REFUSE.COUNT.width - 1) := by
  obtain ⟨t, ht, hcount, hk, hf⟩ := writeRow_counts s (h := nvmCmdHook) (w := w) hw (nvmCmdHook_busy (s.withOut []) h)
  exact ⟨t, ht, (hf _ _ (by decide)).trans h, hk .nvm (by decide), hcount⟩

theorem State.nvmBarred_rd : s.nvmBarred.rd R.NVM_CMD.STATUS 0 = 3 ∧ s.nvmBarred.rd R.NVM_CMD.ERR 0 = 1 :=
  ⟨(State.wr_rd_key _ _ (by decide)).trans (State.wr_rd_fits _ (by decide)), State.wr_rd_fits _ (by decide)⟩

/-- Words written one after another each read what was written. -/
theorem State.each_wr_rd (f : Fld) (v : Nat → Nat) (n : Nat) {j : Nat} (hj : j < n) : (s.each (List.range n) fun u j => u.wr f j (v j)).rd f j = v j % 2 ^ f.width := by
  refine State.each_all s (P := fun m u => u.rd f m = v m % 2 ^ f.width) (fun u m => u.wr_rd_same _ _ _) (fun u k m hm => ?_) j (List.mem_range.2 hj)
  by_cases hkm : m = k
  · rw [hkm]
    exact u.wr_rd_same _ _ _
  · exact (u.wr_rd_inst _ hkm).trans hm

theorem State.each_wr_nvm (l : List Nat) (f : Fld) (v : Nat → Nat) : (s.each l fun u j => u.wr f j (v j)).nvm = s.nvm :=
  State.each_induction s (P := fun u => u.nvm = s.nvm) l _ rfl fun _ _ h => h

theorem State.nvmShown_rd (k : Nat) : (s.nvmShown k).rd R.NVM_CMD.STATUS 0 = 2 ∧ (s.nvmShown k).rd R.NVM_CMD.ERR 0 = 0 ∧ (s.nvmShown k).rd R.NVM_CMD.VALID 0 = b2n (s.nvmChosen k).valid ∧
    (s.nvmShown k).rd R.NVM_SEQ.SEQ 0 = (if (s.nvmChosen k).valid then (s.nvmChosen k).seq % 2 ^ 32 else 0) ∧
    ∀ j, j < 1020 → (s.nvmShown k).rd R.NVM_BUF.DATA j = leVal ((((s.nvmPayload k).getD []).drop (4 * j)).take 4) := by
  unfold State.nvmShown
  dsimp only
  obtain ⟨u, hu⟩ : ∃ u, (s.each (List.range 1020) fun u j => u.wr R.NVM_BUF.DATA j (leVal ((((s.nvmPayload k).getD []).drop (4 * j)).take 4))) = u := ⟨_, rfl⟩
  have hbuf (j : Nat) (hj : j < 1020) : u.rd R.NVM_BUF.DATA j = leVal ((((s.nvmPayload k).getD []).drop (4 * j)).take 4) := by
    have hlen : ((((s.nvmPayload k).getD []).drop (4 * j)).take 4).length ≤ 4 := List.length_take_le _ _
    have hlt : leVal ((((s.nvmPayload k).getD []).drop (4 * j)).take 4) < 2 ^ 32 := (leVal_lt _).trans_le ((Nat.pow_le_pow_right (by decide) hlen).trans (by decide))
    rw [← hu]
    exact (s.each_wr_rd R.NVM_BUF.DATA (fun j => leVal ((((s.nvmPayload k).getD []).drop (4 * j)).take 4)) 1020 hj).trans (Nat.mod_eq_of_lt hlt)
  have hnvm : u.nvmChosen k = s.nvmChosen k := by
    have h : u.nvm = s.nvm := by
      rw [← hu]
      exact s.each_wr_nvm _ _ _
    rw [State.nvmChosen, State.nvmChosen, h]
  have hvalid : b2n (s.nvmChosen k).valid < 2 ^ R.NVM_CMD.VALID.width := by cases (s.nvmChosen k).valid <;> decide
  rw [hu]
  refine ⟨?_, ?_, ?_, ?_, fun j hj => ?_⟩
  · rw [State.wr_rd_key _ _ (by decide), State.wr_rd_fits _ (by decide)]
  · rw [State.wr_rd_fits _ (by decide)]
  · rw [State.wr_rd_key _ _ (by decide), State.wr_rd_key _ _ (by decide)]
    exact (congrArg b2n (congrArg Chosen.valid hnvm) ▸ State.wr_rd_fits _ (hnvm ▸ hvalid))
  · rw [State.wr_rd_key _ _ (by decide), State.wr_rd_key _ _ (by decide), State.wb_rd_key _ _ (by decide), State.wr_rd_same, hnvm]
    cases (s.nvmChosen k).valid <;> rfl
  · rw [State.wr_rd_key _ _ (by decide), State.wr_rd_key _ _ (by decide), State.wb_rd_key _ _ (by decide), State.wr_rd_key _ _ (by decide), hbuf j hj]

theorem State.nvmShown_nvm (k : Nat) : (s.nvmShown k).nvm = s.nvm := by
  unfold State.nvmShown
  dsimp only
  rw [State.wr_nvm, State.wr_nvm, State.wb_nvm, State.wr_nvm, State.each_wr_nvm]

section
variable {rq : Req} {w : Word} (hw : s.canWrite rq .NVM_CMD 0) (hb : s.rd R.NVM_CMD.STATUS 0 ≠ 1)
include hw hb

theorem nvmRead_shows (h : R.NVM_CMD.KIND.part w.toNat + 1 = 2 ∨ R.NVM_CMD.KIND.part w.toNat + 1 = 4 ∨ (16 ≤ R.NVM_CMD.KIND.part w.toNat + 1 ∧ R.NVM_CMD.KIND.part w.toNat + 1 < 32 ∧ s.nvmOpen rq = true)) :
    execNvmRead rq w s = .next (s.commit (((s.withOut []).nvmKeyed w.toNat).nvmShown (R.NVM_CMD.KIND.part w.toNat + 1))) := by
  refine nvmCmd_takes s hw ?_
  have hopen : (s.withOut []).nvmOpen rq = s.nvmOpen rq := rfl
  rw [nvmCmdHook_idle (s.withOut []) hb (by decide), hopen]
  dsimp only
  rw [if_pos rfl, if_pos]
  obtain h | h | ⟨h1, h2, h3⟩ := h
  · simp [h]
  · simp [h]
  · simp [h1, h2, h3]

theorem nvmRead_barred (h : ¬ (R.NVM_CMD.KIND.part w.toNat + 1 = 2 ∨ R.NVM_CMD.KIND.part w.toNat + 1 = 4 ∨ (16 ≤ R.NVM_CMD.KIND.part w.toNat + 1 ∧ R.NVM_CMD.KIND.part w.toNat + 1 < 32 ∧ s.nvmOpen rq = true))) :
    execNvmRead rq w s = .next (s.commit ((s.withOut []).nvmKeyed w.toNat).nvmBarred) := by
  refine nvmCmd_takes s hw ?_
  have hopen : (s.withOut []).nvmOpen rq = s.nvmOpen rq := rfl
  rw [nvmCmdHook_idle (s.withOut []) hb (by decide), hopen]
  dsimp only
  rw [if_pos rfl, if_neg]
  simp only [Bool.or_eq_true, Bool.and_eq_true, decide_eq_true_eq]
  tauto

theorem nvmUserWrite_barred (h : ¬ (16 ≤ R.NVM_CMD.KIND.part w.toNat + 1 ∧ R.NVM_CMD.KIND.part w.toNat + 1 < 32 ∧ s.nvmOpen rq = true)) :
    execNvmUserWrite rq w s = .next (s.commit ((s.withOut []).nvmKeyed w.toNat).nvmBarred) := by
  refine nvmCmd_takes s hw ?_
  have hopen : (s.withOut []).nvmOpen rq = s.nvmOpen rq := rfl
  rw [nvmCmdHook_idle (s.withOut []) hb (by decide), hopen]
  dsimp only
  rw [if_neg (by decide), if_pos rfl, if_pos]
  simp only [Bool.not_eq_true', Bool.and_eq_false_iff, decide_eq_false_iff_not, ← Bool.not_eq_true (s.nvmOpen rq)]
  tauto

section
variable (h1 : 16 ≤ R.NVM_CMD.KIND.part w.toNat + 1) (h2 : R.NVM_CMD.KIND.part w.toNat + 1 < 32) (ho : s.nvmOpen rq = true)
include h1 h2 ho

theorem nvmUserWrite_after (hd : s.fl R.NVM_STATUS.DIR_FAIL 0 = true) :
    execNvmUserWrite rq w s = .next (s.commit ((((s.withOut []).nvmKeyed w.toNat).wr R.NVM_CMD.STATUS 0 3).wr R.NVM_CMD.ERR 0 3)) := by
  refine nvmCmd_takes s hw ?_
  have hopen : (s.withOut []).nvmOpen rq = true := ho
  rw [nvmCmdHook_idle (s.withOut []) hb (by decide), hopen]
  dsimp only
  rw [if_neg (by decide), if_pos rfl, if_neg (by simp [h1, h2]), State.withOut_fl, hd, if_pos rfl]

theorem nvmUserWrite_kicks (hd : s.fl R.NVM_STATUS.DIR_FAIL 0 = false) :
    execNvmUserWrite rq w s = .next (s.commit (((s.withOut []).nvmKeyed w.toNat).nvmQueued (R.NVM_CMD.KIND.part w.toNat + 1)).nvmKick) := by
  refine nvmCmd_takes s hw ?_
  have hopen : (s.withOut []).nvmOpen rq = true := ho
  rw [nvmCmdHook_idle (s.withOut []) hb (by decide), hopen]
  dsimp only
  rw [if_neg (by decide), if_pos rfl, if_neg (by simp [h1, h2]), State.withOut_fl, hd, if_neg (by decide)]

end

end

/-! The start of a waiting write (R563) -/

section
variable {k : Nat} (hk : s.nvm.waiting = some k) (hd : s.fl R.NVM_STATUS.DIR_FAIL 0 = false)
include hk hd

theorem State.nvmKick_waits (h : s.fl R.THS_STATUS.NVM_OK 0 = false ∨ s.fl R.NVM_STATUS.BUSY 0 = true ∨ s.mapWaits = true) : s.nvmKick = s.wb R.NVM_CMD.WAIT_WINDOW 0 (!s.fl R.THS_STATUS.NVM_OK 0) := by
  unfold State.nvmKick
  rw [hk]
  dsimp only
  rw [hd, if_neg (by decide)]
  by_cases hb : (s.fl R.NVM_STATUS.BUSY 0 || !s.fl R.THS_STATUS.NVM_OK 0) = true
  · rw [if_pos hb]
  · have hno : s.fl R.NVM_STATUS.BUSY 0 = false ∧ s.fl R.THS_STATUS.NVM_OK 0 = true := by simpa using hb
    have hm : s.mapWaits = true := by simpa [hno.1, hno.2] using h
    rw [if_neg hb, hm, if_pos rfl, hno.2]
    rfl

theorem State.nvmKick_starts (hok : s.fl R.THS_STATUS.NVM_OK 0 = true) (hb : s.fl R.NVM_STATUS.BUSY 0 = false) (hm : s.mapWaits = false) :
    s.nvmKick = (({ s with nvm := { s.nvm with waiting := none } }).wr R.NVM_CMD.WAIT_WINDOW 0 0).nvmStart k s.nvmBuf true := by
  unfold State.nvmKick
  rw [hk]
  dsimp only
  rw [hd, if_neg (by decide), hb, hok, if_neg (by decide), hm, if_neg (by decide)]

end

theorem State.nvmKick_none (h : s.nvm.waiting = none) : s.nvmKick = s := by
  unfold State.nvmKick
  rw [h]

/-! The drain of the log (R564) -/

theorem shardWrite_idle (h : s.log.buffer = []) : ∃ t, execShardWrite s = .next t ∧ s.keeps t [] := by
  refine done_idle s ?_
  dsimp only
  rw [show (s.withOut []).log.buffer = [] from h]

theorem shardWrite_drains {x : Shard} {l : List Shard} (h : s.log.buffer = x :: l) :
    ∃ t, execShardWrite s = .next t ∧ t.log.buffer = l ∧ smGet .blank t.log.ring (x.seq % 4096) = x ∧ smGet .blank t.log.mirror (x.seq % 16) = x ∧
      (∀ j, j ≠ x.seq % 4096 → smGet .blank t.log.ring j = smGet .blank s.log.ring j) ∧ (∀ j, j ≠ x.seq % 16 → smGet .blank t.log.mirror j = smGet .blank s.log.mirror j) ∧
      t.hub.asserted = s.hub.asserted ++ [(17, 0)] ∧ s.keeps t [.hub, .log] := by
  have hlog (y : LogSt) : s.keeps ({ s.withOut [] with log := y }.raise 17) [.hub, .log] := fun p hp => by
    cases p
    case hub => exact absurd (by decide) hp
    case log => exact absurd (by decide) hp
    all_goals rfl
  have e : execShardWrite s = .next (s.commit ({ s.withOut [] with log := { s.log with buffer := l, ring := smSet .blank s.log.ring (x.seq % 4096) x, mirror := smSet .blank s.log.mirror (x.seq % 16) x } }.raise 17)) := by
    refine done_is s ?_
    dsimp only
    rw [show (s.withOut []).log.buffer = x :: l from h]
    rfl
  exact ⟨_, e, rfl, smGet_smSet_same _ _ _ _, smGet_smSet_same _ _ _ _, fun j hj => smGet_smSet_ne _ _ _ _ hj, fun j hj => smGet_smSet_ne _ _ _ _ hj, rfl, State.keeps_commit (hlog _)⟩

/-! The end of a record write (R561, R562) -/

section
variable (user : Bool) (err : Nat) (hw : s.nvm.waiting = none)
include hw

/-- The end of a write that no other write waits for. -/
theorem State.nvmEnd_rest : s.nvmEnd user err = (((({ s with nvm := { s.nvm with job := none } }).wr R.NVM_STATUS.BUSY 0 0).when user fun s =>
    (s.wr R.NVM_CMD.STATUS 0 (if err = 0 then 2 else 3)).wr R.NVM_CMD.ERR 0 err).raise 16) := by
  unfold State.nvmEnd
  refine State.nvmKick_none _ ?_
  cases user <;> exact hw

theorem State.nvmEnd_nvm : (s.nvmEnd user err).nvm = { s.nvm with job := none } := by
  rw [s.nvmEnd_rest user err hw]
  cases user <;> rfl

theorem State.nvmEnd_asserted : (s.nvmEnd user err).hub.asserted = s.hub.asserted ++ [(16, 0)] := by
  rw [s.nvmEnd_rest user err hw, State.raise_asserted]
  cases user <;> rfl

theorem State.nvmEnd_rd (g : Fld) (i : Nat) (h1 : g.key % 1024 ≠ R.NVM_STATUS.BUSY.key) (h2 : g.key % 1024 ≠ R.NVM_CMD.STATUS.key) (h3 : g.key % 1024 ≠ R.NVM_CMD.ERR.key) : (s.nvmEnd user err).rd g i = s.rd g i := by
  rw [s.nvmEnd_rest user err hw, State.raise_rd]
  cases user
  · exact State.wr_rd_key _ _ h1
  · exact (State.wr_rd_key _ _ h3).trans ((State.wr_rd_key _ _ h2).trans (State.wr_rd_key _ _ h1))

theorem State.nvmEnd_busy : (s.nvmEnd user err).rd R.NVM_STATUS.BUSY 0 = 0 := by
  rw [s.nvmEnd_rest user err hw, State.raise_rd]
  cases user
  · exact State.wr_rd_fits _ (by decide)
  · exact (State.wr_rd_key _ _ (by decide)).trans ((State.wr_rd_key _ _ (by decide)).trans (State.wr_rd_fits _ (by decide)))

theorem State.nvmEnd_user (h : err < 16) : (s.nvmEnd true err).rd R.NVM_CMD.STATUS 0 = (if err = 0 then 2 else 3) ∧ (s.nvmEnd true err).rd R.NVM_CMD.ERR 0 = err := by
  rw [s.nvmEnd_rest true err hw, State.raise_rd, State.raise_rd]
  refine ⟨(State.wr_rd_key _ _ (by decide)).trans (State.wr_rd_fits _ ?_), State.wr_rd_fits _ h⟩
  split <;> decide

end

theorem nvmWriteDone_idle {bad : List Nat} (hj : s.nvm.job = none) : ∃ t, execNvmWriteDone bad s = .next t ∧ s.keeps t [] := by
  refine done_idle s ?_
  dsimp only
  rw [show (s.withOut []).nvm.job = none from hj]

section
variable {j : NvmJob} (hj : s.nvm.job = some j)
include hj

theorem nvmWriteDone_verified (hr : j.remapped = false) : execNvmWriteDone [] s = .next (s.commit
    (State.nvmEnd { (s.withOut []).nvmProgram j with nvm := { ((s.withOut []).nvmProgram j).nvm with chosen := smSet ⟨1, 0, false⟩ ((s.withOut []).nvmProgram j).nvm.chosen j.kind ⟨j.copy, j.seq, true⟩ } } j.user 0)) := by
  refine done_is s ?_
  dsimp only
  rw [State.withOut_nvm, hj]
  dsimp only
  rw [if_pos (by simp), hr, if_neg (by decide)]

variable {l : Nat} (hl : j.pages = [l])
include hl

omit hj hl in
theorem State.failsAt : ([l].filter fun m => [s.nvmPhys l].contains ((s.withOut []).nvmPhys m)) = [l] := by
  have h : (s.withOut []).nvmPhys l = s.nvmPhys l := rfl
  simp [h]

theorem nvmWriteDone_directory (hk : j.kind = 1) : execNvmWriteDone [s.nvmPhys l] s = .next (s.commit (((s.withOut []).wr R.NVM_STATUS.DIR_FAIL 0 1).nvmEnd j.user 3)) := by
  refine done_is s ?_
  dsimp only
  rw [State.withOut_nvm, hj]
  dsimp only
  rw [hl, s.failsAt, if_neg (by simp), if_pos hk]

theorem nvmWriteDone_retires (hk : j.kind ≠ 1) : execNvmWriteDone [s.nvmPhys l] s = .next (s.commit
    (if ((s.withOut []).retirePage l).2 then { ((s.withOut []).retirePage l).1 with nvm := { ((s.withOut []).retirePage l).1.nvm with job := some { j with pages := [l], remapped := true } } }
      else ((s.withOut []).retirePage l).1.nvmEnd j.user 2)) := by
  refine done_is s ?_
  dsimp only
  rw [State.withOut_nvm, hj]
  dsimp only
  rw [hl, s.failsAt, if_neg (by simp), if_neg hk]
  rfl

end

theorem State.shard_nvm (code pl d0 d1 d2 : Nat) : (s.shard code pl d0 d1 d2).nvm = s.nvm := State.nvm_of_blur (s.shard_blur code pl d0 d1 d2 (Nat.and_self _)) (by decide)

theorem State.retirePage_none {l : Nat} (h : s.sparePages = []) : s.retirePage l = ((s.shard 0x52 nvmPlaceCode (s.nvmPhys l) 0xFFFF 0).raise 13, false) := by
  unfold State.retirePage
  rw [h]

/-- A page retired to a spare page. -/
def State.pageMoved (s : State) (l p : Nat) : State :=
  let s' := (s.shard 0x52 nvmPlaceCode (s.nvmPhys l) p 0).raise 13
  let s' := { s' with nvm := { s'.nvm with pageMap := smSet 0 s'.nvm.pageMap l (p + 1) } }
  (s'.wr R.NVM_STATUS.SPARE_PAGES 0 s'.sparePages.length).raise 14

theorem State.retirePage_some {l p : Nat} {r : List Nat} (h : s.sparePages = p :: r) : s.retirePage l = (s.pageMoved l p, true) := by
  unfold State.retirePage
  rw [h]
  rfl

theorem State.pageMoved_nvm (l p : Nat) : (s.pageMoved l p).nvm = { s.nvm with pageMap := smSet 0 s.nvm.pageMap l (p + 1) } := by
  unfold State.pageMoved
  dsimp only
  rw [State.raise_nvm, State.wr_nvm, State.raise_nvm, s.shard_nvm]

theorem State.sparePages_length : s.sparePages.length < 16 := by
  have h := List.length_filter_le (fun p => !(s.nvm.pageMap.any fun e => e.2 = p + 1)) ((List.range 8).map (120 + ·))
  rw [List.length_map, List.length_range] at h
  exact Nat.lt_of_le_of_lt h (by decide)

theorem State.pageMoved_spares (l p : Nat) : (s.pageMoved l p).rd R.NVM_STATUS.SPARE_PAGES 0 = (s.pageMoved l p).sparePages.length := by
  unfold State.pageMoved
  dsimp only
  rw [State.raise_rd, State.wr_rd_fits _ (State.sparePages_length _)]
  rfl

theorem State.pageMoved_asserted (l p : Nat) : (14, 0) ∈ (s.pageMoved l p).hub.asserted := List.mem_append_right _ (List.mem_singleton.2 rfl)

theorem State.nvmProgram_user {j : NvmJob} (hk : j.kind = 16) (hc : j.copy < 2) (hl : j.bytes.length ≤ 4096) :
    (s.nvmProgram j).nvm = { s.nvm with cells := smWrite 0xFF s.nvm.cells (4096 * s.nvmPhys (88 + j.copy)) j.bytes } := by
  have hpages : nvmPages j.kind j.copy = [88 + j.copy] := by
    rw [hk]
    obtain h | h : j.copy = 0 ∨ j.copy = 1 := by omega
    all_goals rw [h]; rfl
  unfold State.nvmProgram
  rw [hpages]
  simp only [List.length_singleton, List.range_one, List.foldl_cons, List.foldl_nil, List.getD_cons_zero, Nat.mul_zero, List.drop_zero, List.take_of_length_le hl]

theorem State.nvmKeyed_fl {w : Nat} (f : Fld) (i : Nat) (h : f.key % 1024 ≠ R.NVM_CMD.KIND.key) : ((s.withOut []).nvmKeyed w).fl f i = s.fl f i := State.wr_fl_key _ _ h

theorem State.nvmKeyed_maps {w : Nat} : ((s.withOut []).nvmKeyed w).mapWaits = s.mapWaits := by
  unfold State.mapWaits
  rw [State.nvmKeyed_fl _ _ _ (by decide)]
  rfl

theorem State.nvmQueued_same (k : Nat) : (s.nvmQueued k).fl R.NVM_STATUS.DIR_FAIL 0 = s.fl R.NVM_STATUS.DIR_FAIL 0 ∧ (s.nvmQueued k).fl R.THS_STATUS.NVM_OK 0 = s.fl R.THS_STATUS.NVM_OK 0 ∧
    (s.nvmQueued k).fl R.NVM_STATUS.BUSY 0 = s.fl R.NVM_STATUS.BUSY 0 ∧ (s.nvmQueued k).mapWaits = s.mapWaits := by
  have h (f : Fld) (hf : f.key % 1024 ≠ R.NVM_CMD.STATUS.key) : (s.nvmQueued k).fl f 0 = s.fl f 0 := State.wr_fl_key _ _ hf
  refine ⟨h _ (by decide), h _ (by decide), h _ (by decide), ?_⟩
  unfold State.mapWaits
  rw [h _ (by decide)]
  rfl

section
variable {j : NvmJob} (hj : s.nvm.job = some j)
include hj

theorem nvmWriteDone_fails {l : Nat} (hw : s.nvm.waiting = none) (hk : j.kind ≠ 1) (hl : j.pages = [l]) (hp : s.sparePages = []) :
    ∃ t, execNvmWriteDone [s.nvmPhys l] s = .next t ∧ t.nvm.job = none ∧ t.rd R.NVM_STATUS.BUSY 0 = 0 ∧ t.nvm.cells = s.nvm.cells ∧
      (j.user = true → t.rd R.NVM_CMD.STATUS 0 = 3 ∧ t.rd R.NVM_CMD.ERR 0 = 2) ∧ (16, 0) ∈ t.hub.asserted := by
  have e := nvmWriteDone_retires s hj hl hk
  rw [State.retirePage_none (s.withOut []) hp, if_neg (by simp)] at e
  dsimp only at e
  obtain ⟨u, hu⟩ : ∃ u, ((s.withOut []).shard 0x52 nvmPlaceCode ((s.withOut []).nvmPhys l) 0xFFFF 0).raise 13 = u := ⟨_, rfl⟩
  have hnvm : u.nvm = s.nvm := by
    rw [← hu, State.raise_nvm, State.shard_nvm]
    rfl
  have hwait : u.nvm.waiting = none := by rw [hnvm, hw]
  rw [hu] at e
  refine ⟨_, e, ?_, State.nvmEnd_busy _ _ _ hwait, ?_, fun hx => ?_, ?_⟩
  · rw [State.commit_nvm, State.nvmEnd_nvm _ _ _ hwait]
  · rw [State.commit_nvm, State.nvmEnd_nvm _ _ _ hwait, hnvm]
  · rw [hx]
    exact State.nvmEnd_user _ _ hwait (by decide)
  · rw [State.commit_hub, State.nvmEnd_asserted _ _ _ hwait]
    exact List.mem_append_right _ (List.mem_singleton.2 rfl)

theorem nvmWriteDone_dirFails {l : Nat} (hw : s.nvm.waiting = none) (hk : j.kind = 1) (hl : j.pages = [l]) :
    ∃ t, execNvmWriteDone [s.nvmPhys l] s = .next t ∧ t.nvm.job = none ∧ t.rd R.NVM_STATUS.DIR_FAIL 0 = 1 ∧ t.rd R.NVM_STATUS.BUSY 0 = 0 ∧ t.nvm.cells = s.nvm.cells ∧
      (j.user = true → t.rd R.NVM_CMD.STATUS 0 = 3 ∧ t.rd R.NVM_CMD.ERR 0 = 3) ∧ (16, 0) ∈ t.hub.asserted := by
  have hwait : ((s.withOut []).wr R.NVM_STATUS.DIR_FAIL 0 1).nvm.waiting = none := hw
  refine ⟨_, nvmWriteDone_directory s hj hl hk, ?_, ?_, State.nvmEnd_busy _ _ _ hwait, ?_, fun hx => ?_, ?_⟩
  · rw [State.commit_nvm, State.nvmEnd_nvm _ _ _ hwait]
  · rw [State.commit_rd, State.nvmEnd_rd _ _ _ hwait _ _ (by decide) (by decide) (by decide), State.wr_rd_fits _ (by decide)]
  · rw [State.commit_nvm, State.nvmEnd_nvm _ _ _ hwait]
    rfl
  · rw [hx]
    exact State.nvmEnd_user _ _ hwait (by decide)
  · rw [State.commit_hub, State.nvmEnd_asserted _ _ _ hwait]
    exact List.mem_append_right _ (List.mem_singleton.2 rfl)

theorem nvmWriteDone_remaps {l p : Nat} {r : List Nat} (hk : j.kind ≠ 1) (hl : j.pages = [l]) (hp : s.sparePages = p :: r) :
    ∃ t, execNvmWriteDone [s.nvmPhys l] s = .next t ∧ t.nvm.job = some { j with pages := [l], remapped := true } ∧ t.nvmPhys l = p ∧ t.rd R.NVM_STATUS.SPARE_PAGES 0 = t.sparePages.length ∧
      t.nvm.cells = s.nvm.cells ∧ (14, 0) ∈ t.hub.asserted := by
  have e := nvmWriteDone_retires s hj hl hk
  rw [State.retirePage_some (s.withOut []) hp, if_pos rfl] at e
  dsimp only at e
  have hspares := (s.withOut []).pageMoved_spares l p
  have hasserted := (s.withOut []).pageMoved_asserted l p
  have hnvm := (s.withOut []).pageMoved_nvm l p
  revert e hspares hasserted hnvm
  generalize (s.withOut []).pageMoved l p = u
  intro e hspares hasserted hnvm
  refine ⟨_, e, rfl, ?_, hspares, by rw [State.commit_nvm, hnvm]; rfl, hasserted⟩
  rw [State.nvmPhys, State.commit_nvm, hnvm]
  change (if smGet 0 (smSet 0 s.nvm.pageMap l (p + 1)) l = 0 then l else smGet 0 (smSet 0 s.nvm.pageMap l (p + 1)) l - 1) = p
  rw [smGet_smSet_same]
  rfl

theorem nvmWriteDone_chooses {i : Nat} (hw : s.nvm.waiting = none) (hk : j.kind = 16) (hc : j.copy < 2) (hr : j.remapped = false) (hi : i < j.bytes.length) (hl : j.bytes.length ≤ 4096) :
    ∃ t, execNvmWriteDone [] s = .next t ∧ t.nvm.job = none ∧ t.rd R.NVM_STATUS.BUSY 0 = 0 ∧ t.nvmChosen 16 = ⟨j.copy, j.seq, true⟩ ∧
      smGet 0xFF t.nvm.cells (4096 * s.nvmPhys (88 + j.copy) + i) = j.bytes.getD i 0 % 256 ∧ t.hub.asserted = s.hub.asserted ++ [(16, 0)] ∧
      (j.user = true → t.rd R.NVM_CMD.STATUS 0 = 2 ∧ t.rd R.NVM_CMD.ERR 0 = 0) := by
  have e := nvmWriteDone_verified s hj hr
  have hx : ((s.withOut []).nvmProgram j).nvm.waiting = none := by rw [State.nvmProgram_user _ hk hc hl]; exact hw
  obtain ⟨u, hu⟩ : ∃ u : State, { (s.withOut []).nvmProgram j with nvm := { ((s.withOut []).nvmProgram j).nvm with chosen := smSet ⟨1, 0, false⟩ ((s.withOut []).nvmProgram j).nvm.chosen j.kind ⟨j.copy, j.seq, true⟩ } } = u := ⟨_, rfl⟩
  have hnvm : u.nvm = { s.nvm with cells := smWrite 0xFF s.nvm.cells (4096 * s.nvmPhys (88 + j.copy)) j.bytes, chosen := smSet ⟨1, 0, false⟩ s.nvm.chosen j.kind ⟨j.copy, j.seq, true⟩ } := by
    rw [← hu, State.nvmProgram_user _ hk hc hl]
    rfl
  have hhub : u.hub = s.hub := by
    rw [← hu]
    rfl
  have hwait : u.nvm.waiting = none := by rw [hnvm]; exact hw
  rw [hu] at e
  refine ⟨_, e, ?_, State.nvmEnd_busy _ _ _ hwait, ?_, ?_, ?_, fun hx => ?_⟩
  · rw [State.commit_nvm, State.nvmEnd_nvm _ _ _ hwait]
  · rw [State.nvmChosen, State.commit_nvm, State.nvmEnd_nvm _ _ _ hwait, hnvm, ← hk]
    exact smGet_smSet_same _ _ _ _
  · rw [State.commit_nvm, State.nvmEnd_nvm _ _ _ hwait, hnvm]
    exact smGet_smWrite_mem _ _ _ hi
  · rw [State.commit_hub, State.nvmEnd_asserted _ _ _ hwait, hhub]
  · rw [hx]
    exact State.nvmEnd_user _ _ hwait (by decide)

end

end Sys2Proof.Machine

open Sys2Proof Sys2Proof.Machine

/-- Settles O55: a command by its operation and what its requester may reach, a write's end by what its verification found. -/
theorem nvmAndLog : Obligations.NvmAndLog := by
  refine ⟨fun s h => ?_, fun s x l h => ?_, fun s rq w k hw hb hk h => ?_, fun s rq w k hw hb hk h => ?_, fun s f w k im hw hb hk h1 h2 him ha hd h => ?_, fun s f w k im hw hb hk h1 h2 him ha hd hok hbusy hm => ?_,
    fun s f w k hw hb hk h => ?_, fun s f w k im hw hb hk h1 h2 him ha hd => ?_, fun s f w hw hb => nvmCmd_busy s hw hb, fun s f w hw hb => nvmCmd_busy s hw hb, fun s bad hj => ?_,
    fun s j l hj hw hk hl hp => ?_, fun s j i hj hw hk hc hr hi hl => ?_, fun s j l p r hj hk hl hp => ?_, fun s j l hj hw hk hl => ?_⟩
  case refine_1 =>
    exact shardWrite_idle s h
  case refine_2 => exact shardWrite_drains s h
  case refine_3 =>
    subst hk
    refine ⟨_, nvmRead_shows s hw hb h, ?_⟩
    obtain ⟨hstatus, herr, hvalid, hseq, hbuf⟩ := ((s.withOut []).nvmKeyed w.toNat).nvmShown_rd (R.NVM_CMD.KIND.part w.toNat + 1)
    rw [State.commit_rd, State.commit_rd, State.commit_rd, State.commit_rd, State.commit_nvm, State.nvmShown_nvm]
    exact ⟨hstatus, herr, hvalid, hseq, fun j hj => (s.commit_rd _ _ _).trans (hbuf j hj), rfl⟩
  case refine_4 =>
    subst hk
    refine ⟨_, nvmRead_barred s hw hb ?_, (State.nvmBarred_rd _).1, (State.nvmBarred_rd _).2, rfl, ?_⟩
    · rintro (h' | h' | ⟨h1, h2, h3⟩)
      · omega
      · omega
      · obtain h | h | h | h | ⟨-, -, h⟩ := h
        · omega
        · omega
        · omega
        · omega
        · exact absurd (h3.symm.trans h) (by decide)
    · rw [State.commit_rd, State.nvmBarred, State.wr_rd_key _ _ (by decide), State.wr_rd_key _ _ (by decide), State.nvmKeyed, State.wr_rd_key _ _ (by decide)]
      rfl
  case refine_5 =>
    subst hk
    refine ⟨_, nvmUserWrite_kicks s hw hb h1 h2 (by simp [State.nvmOpen, him, ha]) hd, ?_⟩
    obtain ⟨hd', hok, hbusy, hm⟩ := ((s.withOut []).nvmKeyed w.toNat).nvmQueued_same (R.NVM_CMD.KIND.part w.toNat + 1)
    rw [State.nvmKick_waits _ rfl (hd'.trans ((s.nvmKeyed_fl _ _ (by decide)).trans hd)) (by
      rw [hok, hbusy, hm, s.nvmKeyed_maps, s.nvmKeyed_fl _ _ (by decide), s.nvmKeyed_fl _ _ (by decide)]
      exact h), hok, s.nvmKeyed_fl _ _ (by decide)]
    refine ⟨?_, State.wb_fl_same _ _ _ (by decide), rfl⟩
    rw [State.commit_rd, State.wb_rd_key _ _ (by decide), State.nvmQueued, State.wr_rd_fits _ (by decide)]
  case refine_6 =>
    subst hk
    refine ⟨_, nvmUserWrite_kicks s hw hb h1 h2 (by simp [State.nvmOpen, him, ha]) hd, ?_⟩
    obtain ⟨hd', hok', hbusy', hm'⟩ := ((s.withOut []).nvmKeyed w.toNat).nvmQueued_same (R.NVM_CMD.KIND.part w.toNat + 1)
    rw [State.nvmKick_starts _ rfl (hd'.trans ((s.nvmKeyed_fl _ _ (by decide)).trans hd)) (hok'.trans ((s.nvmKeyed_fl _ _ (by decide)).trans hok))
      (hbusy'.trans ((s.nvmKeyed_fl _ _ (by decide)).trans hbusy)) (hm'.trans (s.nvmKeyed_maps.trans hm))]
    refine ⟨?_, ?_, ?_, rfl, rfl, rfl⟩
    · rw [State.commit_rd, State.nvmStart, State.wr_rd_key _ _ (by decide), State.with_nvm_rd, State.wr_rd_key _ _ (by decide), State.with_nvm_rd, State.nvmQueued, State.wr_rd_fits _ (by decide)]
    · rw [State.commit_rd, State.nvmStart, State.wr_rd_key _ _ (by decide), State.with_nvm_rd, State.wr_rd_fits _ (by decide)]
    · rw [State.commit_rd, State.nvmStart, State.wr_rd_fits _ (by decide)]
  case refine_7 =>
    subst hk
    refine ⟨_, nvmUserWrite_barred s hw hb ?_, (State.nvmBarred_rd _).1, (State.nvmBarred_rd _).2, rfl⟩
    rintro ⟨h1, h2, h3⟩
    obtain h | h | h := h
    · omega
    · omega
    · exact absurd (h3.symm.trans (by simpa [State.nvmOpen] using h)) (by decide)
  case refine_8 =>
    subst hk
    refine ⟨_, nvmUserWrite_after s hw hb h1 h2 (by simp [State.nvmOpen, him, ha]) hd, ?_, ?_, rfl⟩
    · rw [State.commit_rd, State.wr_rd_key _ _ (by decide), State.wr_rd_fits _ (by decide)]
    · rw [State.commit_rd, State.wr_rd_fits _ (by decide)]
  case refine_9 =>
    exact nvmWriteDone_idle s hj
  case refine_10 => exact nvmWriteDone_fails s hj hw hk hl hp
  case refine_11 => exact nvmWriteDone_chooses s hj hw hk hc hr hi hl
  case refine_12 => exact nvmWriteDone_remaps s hj hk hl hp
  case refine_13 => exact nvmWriteDone_dirFails s hj hw hk hl
end
section
/-! SUPPORT. The settings of the clock (R434 to R439): addends, adjustments, steps and the time quality, and O40. -/

namespace Sys2Proof.Machine

variable (s : State)

theorem State.keeps_time {s u : State} (x : TimeSt) {l : List Part} (hl : .time ∈ l) : s.keeps { u with time := x } l ↔ s.keeps u l :=
  State.keeps_congr fun p hp => by
    cases p
    case time => exact absurd hl hp
    all_goals rfl

theorem State.keepsFields_time {s u : State} (x : TimeSt) {k : List Fld} : s.keepsFields { u with time := x } k ↔ s.keepsFields u k := Iff.rfl

/-- A row of a register that all requesters share, whose rule takes the word. -/
theorem writeRow_shared {rq : Req} {r : Reg} {i w : Nat} {h : Hook} {u : State} (hw : s.canWrite rq r i) (hs : r.scope = .device) (hook : h rq i w 15 (s.withOut []) = (u, false)) :
    writeRow rq r i w h s = .next (s.commit u) := by
  have hook' : h rq (s.copyOf rq r i) w 15 (s.withOut []) = (u, false) := by rw [s.copyOf_device hs, hook]
  have e := writeRow_takesAt s (h := h) hw (by rw [hook'])
  rwa [hook'] at e

/-- A row of a register that all requesters share, whose rule refuses the word. -/
theorem writeRow_sharedRefuses {rq : Req} {r : Reg} {i w : Nat} {h : Hook} {u : State} (hw : s.canWrite rq r i) (hs : r.scope = .device) (hook : h rq i w 15 (s.withOut []) = (u, true)) :
    writeRow rq r i w h s = .next (s.commit (u.refuse rq (r.offset i) false)) := by
  have hook' : h rq (s.copyOf rq r i) w 15 (s.withOut []) = (u, true) := by rw [s.copyOf_device hs, hook]
  have e := writeRow_refusesAt s (h := h) hw (by rw [hook'])
  rwa [hook'] at e

/-! Addends and adjustments (R434, R435) -/

theorem addendOk_iff {v : Nat} : addendOk v = true ↔ 0x27FAE147B ≤ v ∧ v ≤ 0x28051EB85 := by
  unfold addendOk
  simp

/-- An addend, or an adjustment, that is refused (R434). -/
def State.addendRefused (s : State) : State := s.wr R.TIME_QUAL.ADDEND_REFUSED 0 1

section
variable {rq : Req} {w : Nat}

theorem addendHook_commits {v : Nat} (hv : v = R.TIME_ADDEND_HI.ADDEND_HI.part w * 2 ^ 32 + s.rd R.TIME_ADDEND_LO.ADDEND_LO 0) (h : addendOk v = true) :
    addendHook rq 0 w 15 s = (({ s with time := { s.time with addend := v } }).wr R.TIME_ADDEND_HI.ADDEND_HI 0 (v / 2 ^ 32), false) := by
  subst hv
  unfold addendHook
  dsimp only
  rw [Fld.enabled_whole, if_neg (by decide), if_pos h]

theorem addendHook_refuses (h : addendOk (R.TIME_ADDEND_HI.ADDEND_HI.part w * 2 ^ 32 + s.rd R.TIME_ADDEND_LO.ADDEND_LO 0) = false) : addendHook rq 0 w 15 s = (s.addendRefused, true) := by
  unfold addendHook
  dsimp only
  rw [Fld.enabled_whole, if_neg (by decide), if_neg (ne_true_of_eq_false h)]
  rfl

theorem adjTicksHook_stops (h : R.TIME_ADJ_TICKS.TICKS.part w = 0) : adjTicksHook rq 0 w 15 s = ({ s with time := { s.time with adj := none } }, false) := by
  unfold adjTicksHook
  dsimp only
  rw [Fld.enabled_whole, if_neg (by decide), if_pos h]

theorem adjTicksHook_starts {v : Nat} (hv : v = s.rd R.TIME_ADJ_HI.ADJ_HI 0 * 2 ^ 32 + s.rd R.TIME_ADJ_LO.ADJ_LO 0) (hn : R.TIME_ADJ_TICKS.TICKS.part w ≠ 0) (h : addendOk v = true) :
    adjTicksHook rq 0 w 15 s = ({ s with time := { s.time with adj := some (v, R.TIME_ADJ_TICKS.TICKS.part w) } }, false) := by
  subst hv
  unfold adjTicksHook
  dsimp only
  rw [Fld.enabled_whole, if_neg (by decide), if_neg hn, if_pos h]

theorem adjTicksHook_refuses (hn : R.TIME_ADJ_TICKS.TICKS.part w ≠ 0) (h : addendOk (s.rd R.TIME_ADJ_HI.ADJ_HI 0 * 2 ^ 32 + s.rd R.TIME_ADJ_LO.ADJ_LO 0) = false) :
    adjTicksHook rq 0 w 15 s = (s.addendRefused, true) := by
  unfold adjTicksHook
  dsimp only
  rw [Fld.enabled_whole, if_neg (by decide), if_neg hn, if_neg (ne_true_of_eq_false h)]
  rfl

end

theorem addendOk_outside {v : Nat} (h : v < 0x27FAE147B ∨ 0x28051EB85 < v) : addendOk v = false := by
  rw [← Bool.not_eq_true, addendOk_iff]
  omega

/-- A refused addend leaves the time block alone, sets ADDEND_REFUSED and counts the refusal. -/
theorem State.addendRefused_counts (f : Fin 64) (off : Nat) : (s.commit ((s.withOut []).addendRefused.refuse (.fn f) off false)).time = s.time ∧
    (s.commit ((s.withOut []).addendRefused.refuse (.fn f) off false)).rd R.TIME_QUAL.ADDEND_REFUSED 0 = 1 ∧
    (s.commit ((s.withOut []).addendRefused.refuse (.fn f) off false)).rd R.HOST_REFUSE.COUNT f.val = min (s.rd R.HOST_REFUSE.COUNT f.val + 1) (2 ^ R.HOST_REFUSE.COUNT.width - 1) := by
  refine ⟨rfl, ?_, ?_⟩
  · rw [State.commit_rd, State.refuse_rd _ (by decide), State.addendRefused, State.wr_rd_fits _ (by decide)]
  · rw [State.commit_rd, State.refuse_count, State.addendRefused, State.wr_rd_key _ _ (by decide)]
    rfl

/-! The end of an adjustment (R435) -/

theorem timeAdjEnd_ends {v : Nat} (h : s.time.adj = some (v, 0)) : execTimeAdjEnd s = .next (s.commit { s.withOut [] with time := { s.time with adj := none } }) := by
  refine done_is s ?_
  dsimp only
  rw [State.withOut_time, h]
  rfl

theorem timeAdjEnd_idle (h : s.time.adj.map (·.2) ≠ some 0) : ∃ t, execTimeAdjEnd s = .next t ∧ s.keeps t [] := by
  refine done_idle s ?_
  dsimp only
  rw [State.withOut_time]
  cases ha : s.time.adj with
  | none => rfl
  | some e =>
    obtain ⟨v, n⟩ := e
    cases n with
    | zero => exact absurd (by rw [ha]; rfl) h
    | succ n => rfl

/-! Steps (R436, R437) -/

theorem stepCtl_noRwl : ∀ f ∈ Reg.TIME_STEP_CTL.fields, f.acc ≠ .rwl := by decide

/-- The step that the step registers hold, with the mode of the write. -/
def State.stepHeld (s : State) (w : Nat) : StepReq :=
  ⟨decide (R.TIME_STEP_CTL.MODE.part w ≠ 0), s.fl R.TIME_STEP_SEC_HI.NEG 0, s.rd R.TIME_STEP_SEC_HI.SEC_HI 0 * 2 ^ 32 + s.rd R.TIME_STEP_SEC_LO.SEC_LO 0, s.rd R.TIME_STEP_NS.NS 0⟩

theorem stepCtlHook_busy {rq : Req} {w : Nat} (h : s.time.step.isSome = true) : stepCtlHook rq 0 (Nat.lor w 1) 15 s = (s, true) := by
  refine if_pos ?_
  rw [h, Fld.acts_lor w (by decide)]
  rfl

theorem stepCtlHook_schedules {rq : Req} {w : Nat} (h : s.time.step = none) : stepCtlHook rq 0 (Nat.lor w 1) 15 s =
    ({ (writeWord .TIME_STEP_CTL 0 (Nat.lor w 1) 15 s).1 with time := { s.time with step := some (s.stepHeld w) } }.wr R.TIME_STEP_CTL.BUSY 0 1, false) := by
  have hgo : R.TIME_STEP_CTL.GO.acts (Nat.lor w 1) 15 = true := Fld.acts_lor w (by decide)
  obtain ⟨v, hv⟩ := writeWord_regs s .TIME_STEP_CTL 0 (Nat.lor w 1) 15
  have hopen : (writeWord .TIME_STEP_CTL 0 (Nat.lor w 1) 15 s).2 = false := by rw [writeWord_open s stepCtl_noRwl]
  have hmode : (writeWord .TIME_STEP_CTL 0 (Nat.lor w 1) 15 s).1.fl R.TIME_STEP_CTL.MODE 0 = decide (R.TIME_STEP_CTL.MODE.part w ≠ 0) := by
    rw [State.fl_eq, writeWord_takes_rw s stepCtl_noRwl 0 _ (by decide) rfl, Fld.part_lor_zero w (by decide)]
    exact Bool.eq_iff_iff.2 (bne_iff_ne.trans decide_eq_true_iff.symm)
  have hrd (f : Fld) (hf : f.key % 1024 ∉ Reg.TIME_STEP_CTL.fields.map Fld.key) : (writeWord .TIME_STEP_CTL 0 (Nat.lor w 1) 15 s).1.rd f 0 = s.rd f 0 := writeWord_rd_key s stepCtl_noRwl 0 _ 0 hf
  have htime : (writeWord .TIME_STEP_CTL 0 (Nat.lor w 1) 15 s).1.time = s.time := by rw [hv]
  unfold stepCtlHook
  dsimp only
  rw [h, hgo, if_neg (by decide), State.when_true, hopen, hmode, htime, State.fl_eq _ R.TIME_STEP_SEC_HI.NEG, hrd _ (by decide), hrd _ (by decide), hrd _ (by decide), hrd _ (by decide)]
  rfl

theorem Clock.ofFine_fine (c : Clock) (u : Nat) : (c.ofFine u).fine = u ∧ (c.ofFine u).ns < 1000000000 ∧ (c.ofFine u).frac < 2 ^ 32 := by
  have h1 : u / 2 ^ 32 / 1000000000 * 1000000000 + u / 2 ^ 32 % 1000000000 = u / 2 ^ 32 := Nat.div_add_mod' _ _
  have h2 : u / 2 ^ 32 * 2 ^ 32 + u % 2 ^ 32 = u := Nat.div_add_mod' _ _
  refine ⟨?_, Nat.mod_lt _ (by decide), Nat.mod_lt _ (by decide)⟩
  change (u / 2 ^ 32 / 1000000000 * 1000000000 + u / 2 ^ 32 % 1000000000) * 2 ^ 32 + u % 2 ^ 32 = u
  rw [h1, h2]

section
variable {c : Clock} {a : Nat} {x : StepReq}

theorem stepClock_sets (hm : x.setMode = true) (hn : x.ns < 1000000000) (hs : x.sec < 2 ^ 48) : stepClock c a x = some { c with sec := x.sec, ns := x.ns, frac := 0, tick := c.tick + 1 } := by
  obtain ⟨n, hx⟩ : ∃ n, x.sec * 1000000000 + x.ns = n := ⟨_, rfl⟩
  have h1 : n * 2 ^ 32 / 2 ^ 32 = n := Nat.mul_div_cancel n (by decide)
  have h2 : n * 2 ^ 32 % 2 ^ 32 = 0 := Nat.mul_mod_left n _
  have h3 : n / 1000000000 = x.sec := by omega
  have h4 : n % 1000000000 = x.ns := by omega
  unfold stepClock
  dsimp only
  rw [if_neg (by omega), hm, if_pos rfl, hx, if_neg (by omega), Int.toNat_natCast, Clock.ofFine, h1, h2, h3, h4]

theorem stepClock_adds (hm : x.setMode = false) (hg : x.neg = false) (hn : x.ns < 1000000000) (h : c.fine + a + (x.sec * 1000000000 + x.ns) * 2 ^ 32 < 2 ^ 48 * 1000000000 * 2 ^ 32) :
    stepClock c a x = some (c.ofFine (c.fine + a + (x.sec * 1000000000 + x.ns) * 2 ^ 32)) := by
  unfold stepClock
  simp only [hm, hg, Bool.false_eq_true, if_false]
  rw [if_neg (by omega), if_neg (by omega)]
  exact congrArg (fun u => some (c.ofFine u)) (by omega)

theorem stepClock_subtracts (hm : x.setMode = false) (hg : x.neg = true) (hn : x.ns < 1000000000) (hle : (x.sec * 1000000000 + x.ns) * 2 ^ 32 ≤ c.fine + a)
    (h : c.fine + a < 2 ^ 48 * 1000000000 * 2 ^ 32) : stepClock c a x = some (c.ofFine (c.fine + a - (x.sec * 1000000000 + x.ns) * 2 ^ 32)) := by
  have hneg (z : Int) : Int.neg z = -z := rfl
  unfold stepClock
  simp only [hm, hg, Bool.false_eq_true, if_false, if_true, hneg]
  rw [if_neg (by omega), if_neg (by omega)]
  exact congrArg (fun u => some (c.ofFine u)) (by omega)

theorem stepClock_refuses (h : 1000000000 ≤ x.ns ∨ (x.setMode = false ∧ x.neg = true ∧ c.fine + a < (x.sec * 1000000000 + x.ns) * 2 ^ 32) ∨
    (x.setMode = false ∧ x.neg = false ∧ 2 ^ 48 * 1000000000 * 2 ^ 32 ≤ c.fine + a + (x.sec * 1000000000 + x.ns) * 2 ^ 32)) : stepClock c a x = none := by
  have hneg (z : Int) : Int.neg z = -z := rfl
  unfold stepClock
  by_cases hn : x.ns ≥ 1000000000
  · rw [if_pos hn]
  · rw [if_neg hn]
    obtain h | ⟨hm, hg, h⟩ | ⟨hm, hg, h⟩ := h
    · exact absurd h hn
    · simp only [hm, hg, Bool.false_eq_true, if_false, if_true, hneg]
      rw [if_pos (by omega)]
    · simp only [hm, hg, Bool.false_eq_true, if_false]
      rw [if_pos (by omega)]

end

/-! The tick of a step (R436, R437, R452) -/

theorem State.tickWork_rd {f : Fld} (i : Nat) (h : f = R.TIME_QUAL.HOST_STATE ∨ f = R.TIME_QUAL.STEPPED ∨ f = R.TIME_STEP_CTL.BUSY) : s.tickWork.rd f i = s.rd f i := by
  obtain rfl | rfl | rfl := h
  all_goals exact State.rd_of_blur (s.tickWork_blur (Nat.and_self _)) _ _ (by decide)

theorem State.tickWork_step : s.tickWork.time.step = s.time.step := by
  have hone (u : State) (t : Nat) : ((u.playTick t).acqTick t).time = u.time :=
    (State.time_of_blur (State.acqTick_blur _ t (Nat.and_self _)) (by decide)).trans (State.time_of_blur (u.playTick_blur t (Nat.and_self _)) (by decide))
  have hall : ((s.each (List.range 16) fun s t => (s.playTick t).acqTick t).handoverTick).time = s.time :=
    (State.time_of_blur (State.handoverTick_blur _ (Nat.and_self _)) (by decide)).trans
      (State.each_induction s (P := fun u => u.time = s.time) _ _ rfl fun u t hu => (hone u t).trans hu)
  unfold State.tickWork
  dsimp only
  rw [State.setSeq_time]
  dsimp only
  rw [hall]

theorem State.tevFire_step (n u : Nat) : (s.tevFire n u).time.step = s.time.step := by
  unfold State.tevFire
  dsimp only
  rw [State.time_of_blur (State.acqTev_blur _ n u (Nat.and_self _)) (by decide), State.time_of_blur (State.tdcPresent_blur _ _ _ _ _ (Nat.and_self _)) (by decide)]
  change (State.each _ _ State.adcTrigger).time.step = s.time.step
  refine State.each_induction _ (P := fun v => v.time.step = s.time.step) _ _ ?_ fun v o hv => (congrArg TimeSt.step (State.time_of_blur (v.adcTrigger_blur o (Nat.and_self _)) (by decide))).trans hv
  cases s.fl R.TEV_CFG.PERIODIC n <;> rfl

theorem State.tevStep_step (a b : Nat) : (s.tevStep a b).time.step = s.time.step := by
  refine State.each_induction s (P := fun v => v.time.step = s.time.step) _ _ rfl fun v n hv => ?_
  dsimp only
  split
  · exact hv
  · split
    · exact hv
    · split
      · exact hv
      · rw [State.wr_time, State.tevFire_step, hv]

theorem State.tevStep_rd {f : Fld} (a b i : Nat) (h : f = R.TIME_QUAL.HOST_STATE ∨ f = R.TIME_QUAL.STEPPED ∨ f = R.TIME_STEP_CTL.BUSY) : (s.tevStep a b).rd f i = s.rd f i := by
  obtain rfl | rfl | rfl := h
  all_goals exact State.rd_of_blur (s.tevStep_blur a b (Nat.and_self _)) _ _ (by decide)

theorem State.quals_cases : s.quals = s ∨ s.quals = { s with time := { s.time with quality := s.quality } }.raise 1099 := by
  unfold State.quals
  dsimp only
  split
  · exact .inl rfl
  · exact .inr rfl

theorem State.quals_rd (f : Fld) (i : Nat) : s.quals.rd f i = s.rd f i := by
  obtain h | h := s.quals_cases <;> rw [h]
  rfl

theorem State.quals_step : s.quals.time.step = s.time.step := by
  obtain h | h := s.quals_cases <;> rw [h]
  rfl

theorem State.quals_sync : s.quals.time.sync = s.time.sync := by
  obtain h | h := s.quals_cases <;> rw [h]
  rfl

/-- The quality follows the registers alone (R438). -/
theorem State.quality_congr {u : State} (h : ∀ f i, u.rd f i = s.rd f i) : u.quality = s.quality := by
  unfold State.quality State.fl
  simp only [h]

theorem State.quals_quality : s.quals.time.quality = s.quals.quality := by
  rw [s.quality_congr s.quals_rd]
  unfold State.quals
  dsimp only
  split
  next h => exact h
  · rfl

/-- The tick of a step before the clock moves. -/
def State.stepDue (s : State) : State := (({ s with time := { s.time with step := none } }).wr R.TIME_STEP_CTL.BUSY 0 0).tickWork

/-- What follows a step that is made. -/
def State.stepMade (s : State) (a b : Nat) : State :=
  let s := s.wr R.TIME_QUAL.STEPPED 0 1
  let s := s.when (s.rd R.TIME_QUAL.HOST_STATE 0 = 1) (·.wr R.TIME_QUAL.HOST_STATE 0 0)
  ((s.syncRestart.raise 1098).tevStep a b).quals

theorem State.stepDue_rd {f : Fld} (i : Nat) (h : f = R.TIME_QUAL.HOST_STATE ∨ f = R.TIME_QUAL.STEPPED) : s.stepDue.rd f i = s.rd f i := by
  unfold State.stepDue
  obtain rfl | rfl := h
  · rw [State.tickWork_rd _ _ (.inl rfl), State.wr_rd_key _ _ (by decide)]
    rfl
  · rw [State.tickWork_rd _ _ (.inr (.inl rfl)), State.wr_rd_key _ _ (by decide)]
    rfl

theorem State.stepDue_busy : s.stepDue.rd R.TIME_STEP_CTL.BUSY 0 = 0 := by
  unfold State.stepDue
  rw [State.tickWork_rd _ _ (.inr (.inr rfl)), State.wr_rd_fits _ (by decide)]

theorem State.stepDue_step : s.stepDue.time.step = none := by
  unfold State.stepDue
  rw [State.tickWork_step]
  rfl

section
variable (a b : Nat)

theorem State.stepMade_stepped : (s.stepMade a b).rd R.TIME_QUAL.STEPPED 0 = 1 := by
  unfold State.stepMade
  rw [State.quals_rd, State.tevStep_rd _ _ _ _ (.inr (.inl rfl)), State.raise_rd]
  change (State.when _ _ _).rd R.TIME_QUAL.STEPPED 0 = 1
  rw [State.when_rd_of _ (State.wr_rd_key _ _ (by decide)), State.wr_rd_fits _ (by decide)]

theorem State.stepMade_busy : (s.stepMade a b).rd R.TIME_STEP_CTL.BUSY 0 = s.rd R.TIME_STEP_CTL.BUSY 0 := by
  unfold State.stepMade
  rw [State.quals_rd, State.tevStep_rd _ _ _ _ (.inr (.inr rfl)), State.raise_rd]
  change (State.when _ _ _).rd R.TIME_STEP_CTL.BUSY 0 = _
  rw [State.when_rd_of _ (State.wr_rd_key _ _ (by decide)), State.wr_rd_key _ _ (by decide)]

theorem State.stepMade_host : (s.stepMade a b).rd R.TIME_QUAL.HOST_STATE 0 = if s.rd R.TIME_QUAL.HOST_STATE 0 = 1 then 0 else s.rd R.TIME_QUAL.HOST_STATE 0 := by
  have hk : (s.wr R.TIME_QUAL.STEPPED 0 1).rd R.TIME_QUAL.HOST_STATE 0 = s.rd R.TIME_QUAL.HOST_STATE 0 := State.wr_rd_key _ _ (by decide)
  unfold State.stepMade
  rw [State.quals_rd, State.tevStep_rd _ _ _ _ (.inl rfl), State.raise_rd]
  change (State.when _ _ _).rd R.TIME_QUAL.HOST_STATE 0 = _
  rw [hk]
  by_cases h : s.rd R.TIME_QUAL.HOST_STATE 0 = 1
  · rw [if_pos h, decide_eq_true h, State.when_true, State.wr_rd_fits _ (by decide)]
  · rw [if_neg h, decide_eq_false h, State.when_false, hk]

theorem State.stepMade_step : (s.stepMade a b).time.step = s.time.step := by
  unfold State.stepMade
  rw [State.quals_step, State.tevStep_step]
  exact State.when_induction _ (P := fun u => u.syncRestart.time.step = s.time.step) _ _ rfl rfl

end

section
variable {x : StepReq} (h : s.time.step = some x)
include h

theorem timeStepApply_steps {c : Clock} (hc : stepClock s.clock s.addendNow x = some c) :
    execTimeStepApply s = .next { s.commit ((s.withOut []).stepDue.stepMade s.clock.units c.units) with clock := c } := by
  unfold execTimeStepApply
  dsimp only
  rw [h]
  dsimp only
  rw [show ({ s with out := [] } : State).addendNow = s.addendNow from rfl, hc]
  rfl

theorem timeStepApply_refuses (hc : stepClock s.clock s.addendNow x = none) :
    execTimeStepApply s = .next { s.commit ((s.withOut []).stepDue.wr R.TIME_STEP_CTL.REFUSED 0 1) with clock := if s.clock.running then s.clock.add s.addendNow else s.clock } := by
  unfold execTimeStepApply
  dsimp only
  rw [h]
  dsimp only
  rw [show ({ s with out := [] } : State).addendNow = s.addendNow from rfl, hc]
  rfl

end

theorem timeStepApply_made {x : StepReq} {c : Clock} (h : s.time.step = some x) (hc : stepClock s.clock s.addendNow x = some c) :
    ∃ t, execTimeStepApply s = .next t ∧ t.clock = c ∧ t.time.step = none ∧ t.rd R.TIME_STEP_CTL.BUSY 0 = 0 ∧ t.rd R.TIME_QUAL.STEPPED 0 = 1 ∧
      t.rd R.TIME_QUAL.HOST_STATE 0 = (if s.rd R.TIME_QUAL.HOST_STATE 0 = 1 then 0 else s.rd R.TIME_QUAL.HOST_STATE 0) := by
  have e := timeStepApply_steps s h hc
  have h1 := ((s.withOut []).stepDue.stepMade_step s.clock.units c.units).trans (s.withOut []).stepDue_step
  have h2 := ((s.withOut []).stepDue.stepMade_busy s.clock.units c.units).trans (s.withOut []).stepDue_busy
  have h3 := (s.withOut []).stepDue.stepMade_stepped s.clock.units c.units
  have h4 := (s.withOut []).stepDue.stepMade_host s.clock.units c.units
  rw [State.stepDue_rd _ _ (.inl rfl)] at h4
  revert e h1 h2 h3 h4
  generalize (s.withOut []).stepDue.stepMade s.clock.units c.units = u
  exact fun e h1 h2 h3 h4 => ⟨_, e, rfl, h1, h2, h3, h4⟩

theorem timeStepApply_refused {x : StepReq} (h : s.time.step = some x) (hc : stepClock s.clock s.addendNow x = none) :
    ∃ t, execTimeStepApply s = .next t ∧ t.rd R.TIME_STEP_CTL.REFUSED 0 = 1 ∧ t.time.step = none ∧ t.clock = (if s.clock.running then s.clock.add s.addendNow else s.clock) ∧
      t.rd R.TIME_QUAL.STEPPED 0 = s.rd R.TIME_QUAL.STEPPED 0 := by
  have e := timeStepApply_refuses s h hc
  have h1 := (s.withOut []).stepDue_step
  have h2 := (s.withOut []).stepDue_rd 0 (.inr rfl : R.TIME_QUAL.STEPPED = R.TIME_QUAL.HOST_STATE ∨ R.TIME_QUAL.STEPPED = R.TIME_QUAL.STEPPED)
  revert e h1 h2
  generalize (s.withOut []).stepDue = u
  intro e h1 h2
  have hrefused : (u.wr R.TIME_STEP_CTL.REFUSED 0 1).rd R.TIME_STEP_CTL.REFUSED 0 = 1 := u.wr_rd_fits (by decide)
  have hstepped : (u.wr R.TIME_STEP_CTL.REFUSED 0 1).rd R.TIME_QUAL.STEPPED 0 = u.rd R.TIME_QUAL.STEPPED 0 := u.wr_rd_key 1 (by decide)
  exact ⟨_, e, hrefused, h1, rfl, hstepped.trans h2⟩

theorem timeStepApply_idle (h : s.time.step = none) : ∃ t, execTimeStepApply s = .next t ∧ s.keeps t [] := by
  refine ⟨s.withOut [], ?_, by simp⟩
  unfold execTimeStepApply
  dsimp only
  rw [h]
  rfl

/-! The time quality and the sync timer (R438, R439) -/

/-- The fields of TIME_QUAL that a write takes by their types. -/
def qualFlds : List Fld := [R.TIME_QUAL.ADDEND_REFUSED, R.TIME_QUAL.SYNC_TIMEOUT]

/-- TIME_QUAL with its word written. -/
def State.qualTaken (s : State) (w : Nat) : State :=
  (writeFields qualFlds 0 w 15 (s.when (R.TIME_QUAL.HOST_STATE.part w ≠ 3) (·.wr R.TIME_QUAL.HOST_STATE 0 (R.TIME_QUAL.HOST_STATE.part w)))).1

theorem qualFlds_open (w : Nat) : writeFields qualFlds 0 w 15 s = (qualFlds.foldl (fun s f => (writeField 0 w 15 f s).1) s, false) := by
  have hno : (qualFlds.any fun f => (writeField 0 w 15 f s).2) = false := by
    simp only [List.any_eq_false, writeField_refuses]
    intro f hf
    simp [show ∀ f ∈ qualFlds, f.acc ≠ .rwl by decide, hf]
  exact if_neg (ne_true_of_eq_false hno)

theorem qualFlds_rd (w : Nat) {f : Fld} (h : f.key % 1024 ∉ qualFlds.map Fld.key) : (writeFields qualFlds 0 w 15 s).1.rd f 0 = s.rd f 0 := by
  rw [qualFlds_open]
  exact (writeFields_take s 0 w 15 qualFlds (by decide) (by decide)).1 f 0 h

theorem qualFlds_sync (w : Nat) : (writeFields qualFlds 0 w 15 s).1.rd R.TIME_QUAL.SYNC_TIMEOUT 0 = R.TIME_QUAL.SYNC_TIMEOUT.part w := by
  rw [qualFlds_open]
  exact ((writeFields_take s 0 w 15 qualFlds (by decide) (by decide)).2 _ (by decide)).trans (if_neg (by simp [Fld.enabled_whole]))

section
variable (w : Nat)

theorem State.qualTaken_sync : (s.qualTaken w).rd R.TIME_QUAL.SYNC_TIMEOUT 0 = R.TIME_QUAL.SYNC_TIMEOUT.part w := qualFlds_sync _ w

theorem State.qualTaken_host : (s.qualTaken w).rd R.TIME_QUAL.HOST_STATE 0 = if R.TIME_QUAL.HOST_STATE.part w = 3 then s.rd R.TIME_QUAL.HOST_STATE 0 else R.TIME_QUAL.HOST_STATE.part w := by
  rw [State.qualTaken, qualFlds_rd _ _ (by decide)]
  by_cases h : R.TIME_QUAL.HOST_STATE.part w = 3
  · rw [if_pos h, decide_eq_false (by simp [h]), State.when_false]
  · rw [if_neg h, decide_eq_true h, State.when_true]
    exact (State.wr_rd_same _ _ _ _).trans (Fld.part_mod _ w)

theorem State.qualTaken_regs : ∃ v, s.qualTaken w = { s with regs := v } := by
  rw [State.qualTaken, qualFlds_open]
  obtain ⟨v, hv⟩ := writeFields_foldl_regs (s.when (R.TIME_QUAL.HOST_STATE.part w ≠ 3) (·.wr R.TIME_QUAL.HOST_STATE 0 (R.TIME_QUAL.HOST_STATE.part w))) qualFlds 0 w 15
  refine ⟨v, hv.trans ?_⟩
  cases decide (R.TIME_QUAL.HOST_STATE.part w ≠ 3) <;> rfl

/-- A write of TIME_QUAL restarts the sync timer. -/
def State.qualRestarts (s : State) (w : Nat) : Bool :=
  R.TIME_QUAL.SYNC_TIMEOUT.part w ≠ s.rd R.TIME_QUAL.SYNC_TIMEOUT 0 || R.TIME_QUAL.REFRESH.acts w 15 || R.TIME_QUAL.HOST_STATE.part w = 0

/-- The state after a write of TIME_QUAL. -/
def State.qualSet (s : State) (w : Nat) : State := ((s.qualTaken w).when (s.qualRestarts w) State.syncRestart).quals

theorem qualHook_sets {rq : Req} : qualHook rq 0 w 15 s = (s.qualSet w, decide (R.TIME_QUAL.HOST_STATE.part w = 3)) := by
  have hen (f : Fld) : f.enabled 15 = true := f.enabled_whole
  have hpair : writeFields [R.TIME_QUAL.ADDEND_REFUSED, R.TIME_QUAL.SYNC_TIMEOUT] 0 w 15 (s.when (decide (R.TIME_QUAL.HOST_STATE.part w ≠ 3)) (·.wr R.TIME_QUAL.HOST_STATE 0 (R.TIME_QUAL.HOST_STATE.part w))) =
      (s.qualTaken w, false) := by rw [State.qualTaken, ← qualFlds, qualFlds_open]
  unfold qualHook
  dsimp only
  rw [hen, Bool.true_and, Bool.true_and, Bool.true_and, hpair]
  dsimp only
  rw [s.qualTaken_sync w, Bool.false_or]
  rfl

theorem State.qualSet_rd (f : Fld) : (s.qualSet w).rd f 0 = (s.qualTaken w).rd f 0 := by
  rw [State.qualSet, State.quals_rd]
  cases s.qualRestarts w <;> rfl

theorem State.qualSet_rd_count (k : Nat) : (s.qualSet w).rd R.HOST_REFUSE.COUNT k = s.rd R.HOST_REFUSE.COUNT k := by
  have h1 : (s.qualSet w).rd R.HOST_REFUSE.COUNT k = (s.qualTaken w).rd R.HOST_REFUSE.COUNT k := by
    rw [State.qualSet, State.quals_rd]
    cases s.qualRestarts w <;> rfl
  rw [h1, State.qualTaken, qualFlds_open, (writeFields_take _ 0 w 15 qualFlds (by decide) (by decide)).1 _ _ (by decide)]
  exact State.when_rd_of _ (State.wr_rd_key _ _ (by decide))

theorem State.qualSet_sync (h : s.qualRestarts w = true) : (s.qualSet w).time.sync = if R.TIME_QUAL.SYNC_TIMEOUT.part w = 0 then none else some (R.TIME_QUAL.SYNC_TIMEOUT.part w * 40000000) := by
  rw [State.qualSet, State.quals_sync, h, State.when_true, State.syncRestart, s.qualTaken_sync w]

theorem State.qualSet_keeps : s.keeps (s.qualSet w) [.regs, .time, .hub] := by
  have hq (u : State) : s.keeps u.quals [.regs, .time, .hub] ↔ s.keeps u [.regs, .time, .hub] := by
    obtain h | h := u.quals_cases <;> rw [h]
    rw [State.keeps_raise _ (by decide), State.keeps_time _ (by decide)]
  obtain ⟨v, hv⟩ := s.qualTaken_regs w
  have h0 : s.keeps (s.qualTaken w) [.regs, .time, .hub] := by
    rw [hv]
    exact fun p hp => by
      cases p
      case regs => exact absurd (by decide) hp
      all_goals rfl
  rw [State.qualSet, hq]
  exact State.when_induction _ (P := fun u => s.keeps u [.regs, .time, .hub]) _ _ h0 ((State.keeps_time _ (by decide)).2 h0)

end

/-- The quality of a committed state. -/
theorem State.commit_quality (u : State) : (s.commit u).quality = u.quality := rfl

section
variable {rq : Req} {w : Nat} (hw : s.canWrite rq .TIME_QUAL 0)
include hw

theorem timeQual_takes (h : R.TIME_QUAL.HOST_STATE.part w ≠ 3) : writeRow rq .TIME_QUAL 0 w qualHook s = .next (s.commit ((s.withOut []).qualSet w)) :=
  writeRow_shared s hw rfl (by rw [qualHook_sets, decide_eq_false h])

theorem timeQual_refuses (h : R.TIME_QUAL.HOST_STATE.part w = 3) :
    writeRow rq .TIME_QUAL 0 w qualHook s = .next (s.commit (((s.withOut []).qualSet w).refuse rq (Reg.offset .TIME_QUAL 0) false)) :=
  writeRow_sharedRefuses s hw rfl (by rw [qualHook_sets, decide_eq_true h])

end

theorem State.refuse_time (rq : Req) (off : Nat) (b : Bool) : (s.refuse rq off b).time = s.time := by cases rq <;> rfl

theorem State.refuse_rd_any (rq : Req) (off : Nat) (b : Bool) {g : Fld} {j : Nat}
    (hk : g.key % 1024 ≠ R.HOST_REFUSE.COUNT.key ∧ g.key % 1024 ≠ R.HOST_REFUSE_ADDR.OFFSET.key ∧ g.key % 1024 ≠ R.HOST_REFUSE_ADDR.BAR2.key) : (s.refuse rq off b).rd g j = s.rd g j := by
  cases rq with
  | fn f => exact s.refuse_rd hk
  | spi => rfl

theorem timeQualWrite_sets {rq : Req} {w : Word} (hw : s.canWrite rq .TIME_QUAL 0) (h : R.TIME_QUAL.HOST_STATE.part w.toNat ≠ 3) :
    ∃ t, execTimeQualWrite rq w s = .next t ∧ t.rd R.TIME_QUAL.HOST_STATE 0 = R.TIME_QUAL.HOST_STATE.part w.toNat ∧ t.rd R.TIME_QUAL.SYNC_TIMEOUT 0 = R.TIME_QUAL.SYNC_TIMEOUT.part w.toNat ∧
      (R.TIME_QUAL.HOST_STATE.part w.toNat = 0 → t.time.sync = if R.TIME_QUAL.SYNC_TIMEOUT.part w.toNat = 0 then none else some (R.TIME_QUAL.SYNC_TIMEOUT.part w.toNat * 40000000)) ∧
      t.time.quality = t.quality ∧ s.keeps t [.regs, .time, .hub] := by
  refine ⟨_, timeQual_takes s hw h, ?_, ?_, fun h0 => ?_, ?_, State.keeps_commit ?_⟩
  · rw [State.commit_rd, State.qualSet_rd, State.qualTaken_host, if_neg h]
  · rw [State.commit_rd, State.qualSet_rd, State.qualTaken_sync]
  · exact State.qualSet_sync _ _ (by simp [State.qualRestarts, h0])
  · rw [State.commit_quality, State.commit_time]
    exact State.quals_quality _
  · exact (State.keeps_congr (State.qualSet_keeps _ _)).2 (by simp)

theorem timeQualWrite_counts {f : Fin 64} {w : Word} (hw : s.canWrite (.fn f) .TIME_QUAL 0) (h : R.TIME_QUAL.HOST_STATE.part w.toNat = 3) :
    ∃ t, execTimeQualWrite (.fn f) w s = .next t ∧ t.rd R.TIME_QUAL.HOST_STATE 0 = s.rd R.TIME_QUAL.HOST_STATE 0 ∧ t.rd R.TIME_QUAL.SYNC_TIMEOUT 0 = R.TIME_QUAL.SYNC_TIMEOUT.part w.toNat ∧
      t.rd R.HOST_REFUSE.COUNT f.val = min (s.rd R.HOST_REFUSE.COUNT f.val + 1) (2 ^ R.HOST_REFUSE.COUNT.width - 1) := by
  have hcount : ((s.withOut []).qualSet w.toNat).rd R.HOST_REFUSE.COUNT f.val = s.rd R.HOST_REFUSE.COUNT f.val := State.qualSet_rd_count _ _ _
  refine ⟨_, timeQual_refuses s hw h, ?_, ?_, ?_⟩
  · rw [State.commit_rd, State.refuse_rd_any _ _ _ _ (by decide), State.qualSet_rd, State.qualTaken_host, if_pos h]
    rfl
  · rw [State.commit_rd, State.refuse_rd_any _ _ _ _ (by decide), State.qualSet_rd, State.qualTaken_sync]
  · rw [State.commit_rd, State.refuse_count, hcount]
    rfl

theorem refresh_restarts {rq : Req} {w : Word} (hw : s.canWrite rq .TIME_QUAL 0) :
    ∃ t, execRefresh rq w s = .next t ∧ t.time.sync = (if R.TIME_QUAL.SYNC_TIMEOUT.part w.toNat = 0 then none else some (R.TIME_QUAL.SYNC_TIMEOUT.part w.toNat * 40000000)) ∧
      t.rd R.TIME_QUAL.SYNC_TIMEOUT 0 = R.TIME_QUAL.SYNC_TIMEOUT.part w.toNat := by
  have hacts : (s.withOut []).qualRestarts (Nat.lor w.toNat 8) = true := by
    unfold State.qualRestarts
    rw [Fld.acts_lor w.toNat (show R.TIME_QUAL.REFRESH.part 8 ≠ 0 by decide), Bool.or_true, Bool.true_or]
  have hpart : R.TIME_QUAL.SYNC_TIMEOUT.part (Nat.lor w.toNat 8) = R.TIME_QUAL.SYNC_TIMEOUT.part w.toNat := Fld.part_lor_zero _ (by decide)
  have hsync := State.qualSet_sync (s.withOut []) _ hacts
  have hrd : ((s.withOut []).qualSet (Nat.lor w.toNat 8)).rd R.TIME_QUAL.SYNC_TIMEOUT 0 = _ := (State.qualSet_rd _ _ _).trans (State.qualTaken_sync _ _)
  rw [hpart] at hsync hrd
  by_cases h3 : R.TIME_QUAL.HOST_STATE.part (Nat.lor w.toNat 8) = 3
  · refine ⟨_, timeQual_refuses s hw h3, ?_, ?_⟩
    · rw [State.commit_time, State.refuse_time, hsync]
    · rw [State.commit_rd, State.refuse_rd_any _ _ _ _ (by decide), hrd]
  · exact ⟨_, timeQual_takes s hw h3, hsync, hrd⟩

/-- The expiry of the sync timer. -/
theorem syncTimeout_expires {n : Nat} (h : s.time.sync = some n) : execSyncTimeout s = .next (s.commit
    (({ s.withOut [] with time := { s.time with sync := none } }.when (s.rd R.TIME_QUAL.HOST_STATE 0 = 0) (·.wr R.TIME_QUAL.HOST_STATE 0 2)).quals)) := by
  refine done_is s ?_
  dsimp only
  rw [State.withOut_time, h]
  rfl

theorem syncTimeout_idle (h : s.time.sync = none) : ∃ t, execSyncTimeout s = .next t ∧ s.keeps t [] := by
  refine done_idle s ?_
  dsimp only
  rw [State.withOut_time, h]
  rfl

theorem syncTimeout_holds {n : Nat} (h : s.time.sync = some n) :
    ∃ t, execSyncTimeout s = .next t ∧ t.time.sync = none ∧ t.rd R.TIME_QUAL.HOST_STATE 0 = (if s.rd R.TIME_QUAL.HOST_STATE 0 = 0 then 2 else s.rd R.TIME_QUAL.HOST_STATE 0) ∧
      t.time.quality = t.quality ∧ s.keeps t [.regs, .time, .hub] := by
  have hq (u : State) (hu : s.keeps u [.regs, .time, .hub]) : s.keeps u.quals [.regs, .time, .hub] := by
    obtain e | e := u.quals_cases <;> rw [e]
    · exact hu
    · rwa [State.keeps_raise _ (by decide), State.keeps_time _ (by decide)]
  refine ⟨_, syncTimeout_expires s h, ?_, ?_, ?_, State.keeps_commit (hq _ ?_)⟩
  · rw [State.commit_time, State.quals_sync]
    exact State.when_induction _ (P := fun u => u.time.sync = none) _ _ rfl rfl
  · rw [State.commit_rd, State.quals_rd]
    by_cases h0 : s.rd R.TIME_QUAL.HOST_STATE 0 = 0
    · rw [decide_eq_true h0, State.when_true, State.wr_rd_fits _ (by decide), if_pos h0]
    · rw [decide_eq_false h0, State.when_false, if_neg h0]
      rfl
  · rw [State.commit_quality, State.commit_time]
    exact State.quals_quality _
  · have h0 : s.keeps { s.withOut [] with time := { s.time with sync := none } } [.regs, .time, .hub] := by
      rw [State.keeps_time _ (by decide), State.keeps_withOut]
      exact s.keeps_refl _
    exact State.when_induction _ (P := fun u => s.keeps u [.regs, .time, .hub]) _ _ h0 ((State.keeps_wr _ _ _ (by decide)).2 h0)

end Sys2Proof.Machine

open Sys2Proof Sys2Proof.Machine

/-- Settles O40: a commit of an addend, an adjustment or a step by its range, and a write of TIME_QUAL by the host state it names. -/
theorem clockSettings : Obligations.ClockSettings := by
  refine ⟨fun s rq w v hw hv h1 h2 => ?_, fun s f w v hw hv h => ?_, fun s rq w v hw hv hn h1 h2 => ?_, fun s f w v hw hv hn h => ?_, fun s rq w hw hn => ?_, fun s v h => ?_, fun s rq w hw h => ?_,
    fun s h => timeAdjEnd_idle s h, fun s f w x hw h => ?_, fun s h => timeStepApply_idle s h, fun s x h hm hn hs => ?_, fun s x h hm hg hn hlt => ?_, fun s x h hm hg hn hle hlt => ?_, fun s x h hr => ?_,
    fun s rq w hw h => ?_, fun s f w hw h => ?_, fun s rq w hw => ?_, fun s n h => ?_, fun s h => ?_⟩
  case refine_1 =>
    refine ⟨_, writeRow_shared s hw rfl (addendHook_commits (s.withOut []) hv (addendOk_iff.2 ⟨h1, h2⟩)), rfl, rfl, ?_, State.keeps_commit ?_, ?_⟩
    · rw [State.commit_rd, State.wr_rd_key _ _ (by decide)]
      rfl
    · rw [State.keeps_wr _ _ _ (by decide), State.keeps_time _ (by decide), State.keeps_withOut]
      exact s.keeps_refl _
    · rw [State.keepsFields_commit, State.keepsFields_wr _ _ _ (by decide), State.keepsFields_time, State.keepsFields_withOut]
      exact s.keepsFields_refl _
  case refine_2 =>
    subst hv
    exact ⟨_, writeRow_sharedRefuses s hw rfl (addendHook_refuses (s.withOut []) (addendOk_outside h)), s.addendRefused_counts f _⟩
  case refine_3 =>
    refine ⟨_, writeRow_shared s hw rfl (adjTicksHook_starts (s.withOut []) hv hn (addendOk_iff.2 ⟨h1, h2⟩)), rfl, ?_, rfl, State.keeps_commit ?_⟩
    · exact if_neg hn
    · rw [State.keeps_time _ (by decide), State.keeps_withOut]
      exact s.keeps_refl _
  case refine_4 =>
    subst hv
    exact ⟨_, writeRow_sharedRefuses s hw rfl (adjTicksHook_refuses (s.withOut []) hn (addendOk_outside h)), s.addendRefused_counts f _⟩
  case refine_5 =>
    refine ⟨_, writeRow_shared s hw rfl (adjTicksHook_stops (s.withOut []) hn), rfl, rfl, State.keeps_commit ?_⟩
    rw [State.keeps_time _ (by decide), State.keeps_withOut]
    exact s.keeps_refl _
  case refine_6 =>
    refine ⟨_, timeAdjEnd_ends s h, rfl, rfl, State.keeps_commit ?_⟩
    rw [State.keeps_time _ (by decide), State.keeps_withOut]
    exact s.keeps_refl _
  case refine_7 =>
    refine ⟨_, writeRow_shared s hw rfl (stepCtlHook_schedules (s.withOut []) h), ?_, rfl, rfl⟩
    rw [State.commit_rd, State.wr_rd_fits _ (by decide)]
  case refine_8 =>
    have hs : (s.withOut []).time.step.isSome = true := by rw [State.withOut_time, h]; rfl
    obtain ⟨t, ht, hcount, hk, -⟩ := writeRow_counts s (h := stepCtlHook) (w := Nat.lor w.toNat 1) hw (stepCtlHook_busy (s.withOut []) hs)
    exact ⟨t, ht, hk .time (by decide), hk .clock (by decide), hcount⟩
  case refine_9 =>
    obtain ⟨t, ht, hc, hstep, hbusy, hstepped, hhost⟩ := timeStepApply_made s h (stepClock_sets hm hn hs)
    exact ⟨t, ht, by rw [hc], by rw [hc], by rw [hc], by rw [hc], hstep, hbusy, hstepped, hhost⟩
  case refine_10 =>
    obtain ⟨t, ht, hc, -, -, hstepped, -⟩ := timeStepApply_made s h (stepClock_adds hm hg hn hlt)
    obtain ⟨h1, h2, h3⟩ := s.clock.ofFine_fine (s.clock.fine + s.addendNow + (x.sec * 1000000000 + x.ns) * 2 ^ 32)
    exact ⟨t, ht, by rw [hc, h1], by rw [hc]; exact h2, by rw [hc]; exact h3, hstepped⟩
  case refine_11 =>
    obtain ⟨t, ht, hc, -, -, hstepped, -⟩ := timeStepApply_made s h (stepClock_subtracts hm hg hn hle hlt)
    obtain ⟨h1, h2, h3⟩ := s.clock.ofFine_fine (s.clock.fine + s.addendNow - (x.sec * 1000000000 + x.ns) * 2 ^ 32)
    exact ⟨t, ht, by rw [hc, h1, Nat.sub_add_cancel hle], by rw [hc]; exact h2, by rw [hc]; exact h3, hstepped⟩
  case refine_12 => exact timeStepApply_refused s h (stepClock_refuses hr)
  case refine_13 => exact timeQualWrite_sets s hw h
  case refine_14 => exact timeQualWrite_counts s hw h
  case refine_15 => exact refresh_restarts s hw
  case refine_16 => exact syncTimeout_holds s h
  case refine_17 =>
    exact syncTimeout_idle s h
end
section
/-! SUPPORT. A slice's control fields, its configuration, its stream ring and its scrub (R208 to R210, R217, R278 to R283), and O28. -/

namespace Sys2Proof.Machine

variable (s : State)

/-! Fields written in part of a word -/

/-- Fields of a list with no RWL field, written by a whole word. -/
theorem writeFields_open {l : List Fld} (h : ∀ f ∈ l, f.acc ≠ .rwl) (i w : Nat) : writeFields l i w 15 s = (l.foldl (fun s f => (writeField i w 15 f s).1) s, false) := by
  have hno : (l.any fun f => (writeField i w 15 f s).2) = false := by
    simp only [List.any_eq_false, writeField_refuses]
    intro f hf
    simp [h f hf]
  exact if_neg (ne_true_of_eq_false hno)

section
variable {l : List Fld} (h : ∀ f ∈ l, f.acc ≠ .rwl) (hk : (l.map Fld.key).Nodup ∧ ∀ f ∈ l, f.key < 1024) (i w : Nat)
include h hk

theorem writeFields_rw {f : Fld} (hf : f ∈ l) (ha : f.acc = .rw) : (writeFields l i w 15 s).1.rd f i = f.part w := by
  rw [writeFields_open s h, (writeFields_take s i w 15 l hk.1 hk.2).2 f hf, State.taken, if_neg (by simp [Fld.enabled_whole]), ha]

theorem writeFields_rd_key {f : Fld} (j : Nat) (hf : f.key % 1024 ∉ l.map Fld.key) : (writeFields l i w 15 s).1.rd f j = s.rd f j := by
  rw [writeFields_open s h]
  exact (writeFields_take s i w 15 l hk.1 hk.2).1 f j hf

end

theorem writeFields_regs (l : List Fld) (i w be : Nat) : ∃ v, (writeFields l i w be s).1 = { s with regs := v } := by
  unfold writeFields
  split
  · exact ⟨s.regs, rfl⟩
  · exact writeFields_foldl_regs s l i w be

theorem State.keeps_regs {s u : State} (v : SMap Nat) {l : List Part} (hl : .regs ∈ l) : s.keeps { u with regs := v } l ↔ s.keeps u l :=
  State.keeps_congr fun p hp => by
    cases p
    case regs => exact absurd hl hp
    all_goals rfl

/-! Control fields (R210) -/

section
variable {rq : Req} {t w : Nat}

/-- A slice with one or both control fields of a pair written. -/
def StoreSt.putPair (x : StoreSt) (row w : Nat) (both : Bool) : StoreSt :=
  let x := x.putCtl row (R.SEG_CTLW_DATA.CTL_EVEN.part w)
  if both then x.putCtl (row + 1) (R.SEG_CTLW_DATA.CTL_ODD.part w) else x

theorem StoreSt.putPair_even (x : StoreSt) (row w : Nat) (both : Bool) : smGet 0 (x.putPair row w both).ctl row = w % 65536 := by
  have h : R.SEG_CTLW_DATA.CTL_EVEN.part w % 65536 = w % 65536 := by
    change bits w 0 16 % 65536 = w % 65536
    rw [bits, Nat.pow_zero, Nat.div_one]
    exact Nat.mod_mod w _
  cases both
  · exact (smGet_smSet_same _ _ _ _).trans h
  · exact (smGet_smSet_ne _ _ _ _ (by omega)).trans ((smGet_smSet_same _ _ _ _).trans h)

theorem StoreSt.putPair_odd (x : StoreSt) {row w : Nat} (hw : w < 2 ^ 32) : smGet 0 (x.putPair row w true).ctl (row + 1) = w / 65536 := by
  have h : R.SEG_CTLW_DATA.CTL_ODD.part w % 65536 = w / 65536 := by
    change bits w 16 16 % 65536 = w / 65536
    rw [bits]
    omega
  exact (smGet_smSet_same _ _ _ _).trans h

theorem StoreSt.putPair_keptOdd (x : StoreSt) (row w : Nat) : smGet 0 (x.putPair row w false).ctl (row + 1) = smGet 0 x.ctl (row + 1) := smGet_smSet_ne _ _ _ _ (by omega)

theorem StoreSt.putPair_words (x : StoreSt) (row w : Nat) (both : Bool) : (x.putPair row w both).words = x.words := by cases both <;> rfl

theorem ctlwDataHook_puts {be : Nat} (hr : s.rd R.SEG_CTLW_ADDR.ROW t < 393216) (hb : be = 15 ∨ be = 3) :
    ctlwDataHook rq t w be s = ((s.setStore t ((s.store t).putPair (s.rd R.SEG_CTLW_ADDR.ROW t) w (be = 15))).wr R.SEG_CTLW_ADDR.ROW t (s.rd R.SEG_CTLW_ADDR.ROW t + 2), false) := by
  have he : R.SEG_CTLW_DATA.CTL_EVEN.enabled be = true := by obtain rfl | rfl := hb <;> decide
  have ho : R.SEG_CTLW_DATA.CTL_ODD.enabled be = decide (be = 15) := by obtain rfl | rfl := hb <;> decide
  unfold ctlwDataHook
  dsimp only
  rw [if_neg (by omega), if_neg (by omega), he, ho, if_pos rfl]
  rfl

theorem ctlwDataHook_overruns (hr : 393216 ≤ s.rd R.SEG_CTLW_ADDR.ROW t) : ctlwDataHook rq t w 15 s = (s.wr R.SEG_STORE_STATUS.CTLW_OVERRUN t 1, true) := by
  unfold ctlwDataHook
  rw [if_neg (by decide)]
  exact if_pos hr

end

theorem ctlwDataWrite_puts {rq : Req} {t : Fin 16} {w : Word} {be : Fin 16} (hw : s.canWrite rq .SEG_CTLW_DATA t.val) (hr : s.rd R.SEG_CTLW_ADDR.ROW t.val < 393216) (hb : be = 15 ∨ be = 3) :
    execCtlwDataWrite rq t w be s = .next (s.commit (((s.withOut []).setStore t.val ((s.store t.val).putPair (s.rd R.SEG_CTLW_ADDR.ROW t.val) w.toNat (be.val = 15))).wr
      R.SEG_CTLW_ADDR.ROW t.val (s.rd R.SEG_CTLW_ADDR.ROW t.val + 2))) := by
  have hcopy : (s.withOut []).copyOf rq .SEG_CTLW_DATA t.val = t.val := (s.withOut []).copyOf_device rfl
  have hbe : be.val = 15 ∨ be.val = 3 := hb.imp (congrArg Fin.val) (congrArg Fin.val)
  have hook := ctlwDataHook_puts (s.withOut []) (rq := rq) (t := t.val) (w := w.toNat) hr hbe
  have hre : (s.withOut []).reachable rq = true := (s.reachable_out [] rq).trans hw.1
  have hmay : (s.withOut []).mayWrite rq .SEG_CTLW_DATA t.val = true := (s.mayWrite_out [] rq _ _).trans hw.2
  refine done_is s ?_
  rw [State.hostAct_acts _ _ hre hmay (by rw [hcopy, hook]), hcopy, hook]
  rfl

theorem ctlwDataWrite_overruns {f : Fin 64} {t : Fin 16} {w : Word} (hw : s.canWrite (.fn f) .SEG_CTLW_DATA t.val) (hr : 393216 ≤ s.rd R.SEG_CTLW_ADDR.ROW t.val) :
    ∃ u, execCtlwDataWrite (.fn f) t w 15 s = .next u ∧ u.fl R.SEG_STORE_STATUS.CTLW_OVERRUN t.val = true ∧ u.rd R.HOST_REFUSE.COUNT f.val = min (s.rd R.HOST_REFUSE.COUNT f.val + 1) 65535 ∧ u.stores = s.stores := by
  have hcopy : (s.withOut []).copyOf (.fn f) .SEG_CTLW_DATA t.val = t.val := (s.withOut []).copyOf_device rfl
  have hook := ctlwDataHook_overruns (s.withOut []) (rq := .fn f) (t := t.val) (w := w.toNat) hr
  have hre : (s.withOut []).reachable (.fn f) = true := (s.reachable_out [] _).trans hw.1
  have hmay : (s.withOut []).mayWrite (.fn f) .SEG_CTLW_DATA t.val = true := (s.mayWrite_out [] _ _ _).trans hw.2
  have e : execCtlwDataWrite (.fn f) t w 15 s = .next (s.commit (((s.withOut []).wr R.SEG_STORE_STATUS.CTLW_OVERRUN t.val 1).refuse (.fn f) (Reg.offset .SEG_CTLW_DATA t.val) false)) := by
    refine done_is s ?_
    change State.hostAct _ _ _ _ (fun j => ctlwDataHook (.fn f) j w.toNat 15) = _
    simp [State.hostAct, hre, hmay, hcopy, hook]
  refine ⟨_, e, ?_, ?_, rfl⟩
  · rw [State.commit_fl, State.fl_eq, State.refuse_rd _ (by decide), State.wr_rd_fits _ (by decide)]
    rfl
  · rw [State.commit_rd, State.refuse_count, State.wr_rd_key _ _ (by decide)]
    rfl

/-! The ring (R278 to R283) -/

section
variable (t : Nat)

theorem State.ringLow_rd (arm : Bool) (f : Fld) (i : Nat) : (s.ringLow t arm).rd f i = s.rd f i := by
  unfold State.ringLow
  dsimp only
  split
  · rfl
  · rfl

theorem State.ringReset_ready {n : Nat} (h : n < 256) : (s.ringReset t).rd R.SEG_SLOT.READY (256 * t + n) = 0 := by
  unfold State.ringReset
  dsimp only
  rw [State.ringLow_rd]
  exact State.each_all _ (P := fun m u => u.rd R.SEG_SLOT.READY (256 * t + m) = 0) (fun u m => u.wr_rd_fits (by decide)) (fun u k m hm => u.wr_zero_rd _ (.inl rfl) hm) n (List.mem_range.2 h)

theorem State.ringReset_rd (f : Fld) (i : Nat) (h : f.key % 1024 ≠ R.SEG_SLOT.READY.key ∧ f.key % 1024 ≠ R.SEG_RING_STATUS.NEXT_SLOT.key ∧ f.key % 1024 ≠ R.SEG_RING_STATUS.NEXT_TAG.key) :
    (s.ringReset t).rd f i = s.rd f i := by
  unfold State.ringReset
  dsimp only
  rw [State.ringLow_rd]
  refine State.each_induction _ (P := fun u => u.rd f i = s.rd f i) _ _ ?_ fun u n hu => (u.wr_rd_key 0 h.1).trans hu
  exact (State.wr_rd_key _ _ h.2.1).trans (State.wr_rd_key _ _ h.2.2)

theorem State.ringReset_order : (s.ringReset t).rd R.SEG_RING_STATUS.NEXT_SLOT t = 0 ∧ (s.ringReset t).rd R.SEG_RING_STATUS.NEXT_TAG t = 0 := by
  unfold State.ringReset
  dsimp only
  rw [State.ringLow_rd, State.ringLow_rd]
  have hkeep (f : Fld) (hf : f.key % 1024 ≠ R.SEG_SLOT.READY.key) (u : State) : (u.each (List.range 256) fun s n => s.wr R.SEG_SLOT.READY (slotInst' t n) 0).rd f t = u.rd f t :=
    State.each_induction u (P := fun v => v.rd f t = u.rd f t) _ _ rfl fun v n hv => (v.wr_rd_key 0 hf).trans hv
  rw [hkeep _ (by decide), hkeep _ (by decide), State.wr_rd_fits _ (by decide), State.wr_rd_key _ _ (by decide), State.wr_rd_fits _ (by decide)]
  exact ⟨rfl, rfl⟩

end

section
variable {rq : Req} {t w : Nat}

/-- The fields of SEG_STORE_CFG beside the base of the ring. -/
def storeCfgFlds : List Fld := [R.SEG_STORE_CFG.UE_POLICY, R.SEG_STORE_CFG.SCRUB_EN, R.SEG_STORE_CFG.SCRUB_GAP]

theorem storeCfgFlds_open : (∀ f ∈ storeCfgFlds, f.acc ≠ .rwl) ∧ (storeCfgFlds.map Fld.key).Nodup ∧ ∀ f ∈ storeCfgFlds, f.key < 1024 := by decide

/-- SEG_STORE_CFG with the fields beside the base written. -/
def State.storeCfgTaken (s : State) (t w : Nat) : State := (writeFields storeCfgFlds t w 15 s).1

theorem State.storeCfgTaken_rw {f : Fld} (hf : f ∈ storeCfgFlds ∧ f.acc = .rw) : (s.storeCfgTaken t w).rd f t = f.part w :=
  writeFields_rw s storeCfgFlds_open.1 storeCfgFlds_open.2 t w hf.1 hf.2

theorem State.storeCfgTaken_rd {f : Fld} (j : Nat) (hf : f.key % 1024 ∉ storeCfgFlds.map Fld.key) : (s.storeCfgTaken t w).rd f j = s.rd f j :=
  writeFields_rd_key s storeCfgFlds_open.1 storeCfgFlds_open.2 t w j hf

theorem storeCfgHook_moves (hp : (s.play t).playing = false) (hb : R.SEG_STORE_CFG.RING_BASE.part w ≤ 384) (hne : R.SEG_STORE_CFG.RING_BASE.part w ≠ s.rd R.SEG_STORE_CFG.RING_BASE t) :
    storeCfgHook rq t w 15 s = ((((s.storeCfgTaken t w).wr R.SEG_STORE_CFG.RING_BASE t (R.SEG_STORE_CFG.RING_BASE.part w)).wr R.SEQ_LOAD.VALID t 0).ringReset t, false) := by
  unfold storeCfgHook
  dsimp only
  rw [State.newv_whole, if_pos (by simp [hne, State.playing, hp, hb])]
  rfl

theorem storeCfgHook_refuses (h : (s.play t).playing = true ∨ 384 < R.SEG_STORE_CFG.RING_BASE.part w) (hne : R.SEG_STORE_CFG.RING_BASE.part w ≠ s.rd R.SEG_STORE_CFG.RING_BASE t) :
    storeCfgHook rq t w 15 s = (s.storeCfgTaken t w, true) := by
  have hbad : (decide (R.SEG_STORE_CFG.RING_BASE.part w ≠ s.rd R.SEG_STORE_CFG.RING_BASE t) && (s.playing t || decide (R.SEG_STORE_CFG.RING_BASE.part w > 384))) = true := by
    obtain h | h := h <;> simp [hne, State.playing, h]
  unfold storeCfgHook
  dsimp only
  rw [State.newv_whole, hbad, if_neg (by simp)]
  rfl

theorem storeCfgHook_stays (he : R.SEG_STORE_CFG.RING_BASE.part w = s.rd R.SEG_STORE_CFG.RING_BASE t) : storeCfgHook rq t w 15 s = (s.storeCfgTaken t w, false) := by
  unfold storeCfgHook
  dsimp only
  rw [State.newv_whole, if_neg (by simp [he])]
  simp only [he, ne_eq, not_true, decide_false, Bool.false_and]
  rfl

theorem ringCtlHook_resets (hp : (s.play t).playing = false) : ringCtlHook rq t 1 15 s = (s.ringReset t, false) := by
  have ha : R.SEG_RING_CTL.RESET.acts 1 15 = true := by decide
  unfold ringCtlHook
  rw [if_pos ha, hp]
  rfl

theorem ringCtlHook_refuses (hp : (s.play t).playing = true) : ringCtlHook rq t 1 15 s = (s, true) := by
  have ha : R.SEG_RING_CTL.RESET.acts 1 15 = true := by decide
  unfold ringCtlHook
  rw [if_pos ha, if_pos hp]

theorem lowFlds_open : (∀ f ∈ [R.SEG_RING_CFG.LOW_WATER], f.acc ≠ .rwl) ∧ ([R.SEG_RING_CFG.LOW_WATER].map Fld.key).Nodup ∧ ∀ f ∈ [R.SEG_RING_CFG.LOW_WATER], f.key < 1024 := by decide

/-- SEG_RING_CFG with the low-water mark written. -/
def State.lowTaken (s : State) (t w : Nat) : State :=
  (writeFields [R.SEG_RING_CFG.LOW_WATER] t w 15 s).1.when ((writeFields [R.SEG_RING_CFG.LOW_WATER] t w 15 s).1.rd R.SEG_RING_CFG.LOW_WATER t ≠ s.rd R.SEG_RING_CFG.LOW_WATER t) (·.ringLow t true)

theorem State.lowTaken_low : (s.lowTaken t w).rd R.SEG_RING_CFG.LOW_WATER t = R.SEG_RING_CFG.LOW_WATER.part w := by
  rw [State.lowTaken, State.when_rd_of _ (f := (·.ringLow t true)) (State.ringLow_rd _ _ _ _ _)]
  exact writeFields_rw s lowFlds_open.1 lowFlds_open.2 t w (by decide) rfl

theorem State.lowTaken_rd {f : Fld} (j : Nat) (hf : f.key % 1024 ∉ [R.SEG_RING_CFG.LOW_WATER].map Fld.key) : (s.lowTaken t w).rd f j = s.rd f j := by
  rw [State.lowTaken, State.when_rd_of _ (f := (·.ringLow t true)) (State.ringLow_rd _ _ _ _ _)]
  exact writeFields_rd_key s lowFlds_open.1 lowFlds_open.2 t w j hf

theorem ringCfgHook_sizes (hp : (s.play t).playing = false) (hne : max (R.SEG_RING_CFG.SLOT_SIZE.part w) 1 ≠ s.slotSize t) :
    ringCfgHook rq t w 15 s = ((((s.lowTaken t w).wr R.SEG_RING_CFG.SLOT_SIZE t (R.SEG_RING_CFG.SLOT_SIZE.part w)).wr R.SEQ_LOAD.VALID t 0).ringReset t, false) := by
  unfold ringCfgHook
  dsimp only
  rw [State.newv_whole, if_pos (by simp [hne, hp])]
  rfl

theorem ringCfgHook_refuses (hp : (s.play t).playing = true) (hne : max (R.SEG_RING_CFG.SLOT_SIZE.part w) 1 ≠ s.slotSize t) : ringCfgHook rq t w 15 s = (s.lowTaken t w, true) := by
  have hbad : (decide (max (R.SEG_RING_CFG.SLOT_SIZE.part w) 1 ≠ s.slotSize t) && (s.play t).playing) = true := by simp [hne, hp]
  unfold ringCfgHook
  dsimp only
  rw [State.newv_whole, hbad, if_neg (by simp)]
  rfl

theorem ringCfgHook_stays (he : max (R.SEG_RING_CFG.SLOT_SIZE.part w) 1 = s.slotSize t) : ringCfgHook rq t w 15 s = (s.lowTaken t w, false) := by
  unfold ringCfgHook
  dsimp only
  rw [State.newv_whole, if_neg (by simp [he])]
  simp only [he, ne_eq, not_true, decide_false, Bool.false_and]
  rfl

theorem slotHook_refuses {i : Nat} (h : s.slotCount (i / 256) ≤ i % 256 ∨ s.fl R.SEG_SLOT.PLAYING i = true) : slotHook rq i w 15 s = (s, true) := by
  refine if_pos ?_
  obtain h | h := h <;> simp [h]

theorem segSlot_noRwl : ∀ f ∈ Reg.SEG_SLOT.fields, f.acc ≠ .rwl := by decide

theorem slotHook_writes {i : Nat} (h : i % 256 < s.slotCount (i / 256)) (hp : s.fl R.SEG_SLOT.PLAYING i = false) :
    slotHook rq i w 15 s = ((writeWord .SEG_SLOT i w 15 s).1.ringLow (i / 256) false, false) := by
  have hopen : (writeWord .SEG_SLOT i w 15 s).2 = false := by rw [writeWord_open s segSlot_noRwl]
  unfold slotHook
  dsimp only
  rw [if_neg (by simp [hp, h]), hopen]

end

/-! The scrub (R217) -/

/-- The code words of a row in one state of their check bits. -/
def StoreSt.rowIn (x : StoreSt) (row e : Nat) : List Nat := (List.range 5).filter fun k => x.bad' row k = e

theorem StoreSt.rowIn_none {x : StoreSt} {row e : Nat} (h : ∀ k, k < 5 → x.bad' row k ≠ e) : x.rowIn row e = [] :=
  List.filter_eq_nil_iff.2 fun k hk => by simpa using h k (List.mem_range.1 hk)

theorem StoreSt.rowIn_one {x : StoreSt} {row e k : Nat} (hk : k < 5) (h : x.bad' row k = e) (hne : ∀ j, j < 5 → j ≠ k → x.bad' row j ≠ e) : x.rowIn row e = [k] := by
  have hcongr : x.rowIn row e = (List.range 5).filter fun j => decide (j = k) := List.filter_congr fun j hj => by
    by_cases hjk : j = k
    · rw [hjk, decide_eq_true h, decide_eq_true rfl]
    · rw [decide_eq_false (hne j (List.mem_range.1 hj) hjk), decide_eq_false hjk]
  rw [hcongr]
  interval_cases k <;> rfl

/-- A slice after the scrub of its next row. -/
def StoreSt.scrubbed (x : StoreSt) : StoreSt :=
  { x with
    ecc := if (x.rowIn x.scrubRow 2).isEmpty then (x.rowIn x.scrubRow 1).foldl (fun e k => smSet 0 e (8 * x.scrubRow + k) 0) x.ecc else x.ecc
    scrubRow := (x.scrubRow + 1) % 393216
    scrubCe := smSet 0 x.scrubCe x.scrubRow (b2n (!(x.rowIn x.scrubRow 1).isEmpty)) }

/-- The report of an uncorrectable code word that a scrub has found. -/
def State.scrubUe (s : State) (t row k : Nat) : State :=
  (((s.bump R.SEG_STORE_STATUS.UE_COUNT t 1).wr R.SEG_STORE_STATUS.UE_PLAY t 1).sliceUe t row k 1).raise (64 + 16 * t + 1)

/-- The state after a scrub that no row is marked for. -/
def State.scrubSeen (s : State) (t : Nat) : State :=
  let x := s.store t
  ((s.setStore t x.scrubbed).bump R.SEG_STORE_STATUS.CE_COUNT t (x.rowIn x.scrubRow 1).length).each (x.rowIn x.scrubRow 2) fun s k => s.scrubUe t x.scrubRow k

theorem scrubRow_scrubs {t : Fin 16} (hen : s.fl R.SEG_STORE_CFG.SCRUB_EN t.val = true) (him : s.imaged = true) : execScrubRow t s = .next (s.commit (((s.withOut []).scrubSeen t.val).when
    (!((s.store t.val).rowIn (s.store t.val).scrubRow 1).isEmpty && smGet 0 (s.store t.val).scrubCe (s.store t.val).scrubRow = 1) (·.markRow t.val (s.store t.val).scrubRow 1))) := by
  refine done_is s ?_
  dsimp only
  rw [if_neg (by simp [hen, show (s.withOut []).imaged = true from him])]
  rfl

theorem scrubRow_idle {t : Fin 16} (h : s.fl R.SEG_STORE_CFG.SCRUB_EN t.val = false ∨ s.imaged = false) : ∃ u, execScrubRow t s = .next u ∧ s.keeps u [] := by
  refine done_idle s ?_
  dsimp only
  rw [if_pos]
  obtain h | h := h
  · simp [h]
  · simp [show (s.withOut []).imaged = false from h]

theorem State.markRow_stores (st row mark : Nat) : (s.markRow st row mark).stores = s.stores := State.stores_of_blur (s.markRow_blur st row mark (Nat.and_self _)) (by decide)

theorem State.markRow_rd (st row mark : Nat) {f : Fld} (i : Nat) (h : f = R.SEG_STORE_STATUS.CE_COUNT) : (s.markRow st row mark).rd f i = s.rd f i := by
  subst h
  exact State.rd_of_blur (s.markRow_blur st row mark (Nat.and_self _)) _ _ (by decide)

theorem State.scrubUe_stores (t row k : Nat) : (s.scrubUe t row k).stores = s.stores := by
  unfold State.scrubUe
  rw [State.raise_stores, State.stores_of_blur (State.sliceUe_blur ((s.bump R.SEG_STORE_STATUS.UE_COUNT t 1).wr R.SEG_STORE_STATUS.UE_PLAY t 1) t row k 1 (Nat.and_self _)) (by decide)]
  rfl

theorem State.scrubUe_rd (t row k : Nat) : (s.scrubUe t row k).rd R.SEG_STORE_STATUS.UE_PLAY t = 1 ∧
    (s.scrubUe t row k).rd R.SEG_STORE_STATUS.UE_COUNT t = min (s.rd R.SEG_STORE_STATUS.UE_COUNT t + 1) (2 ^ R.SEG_STORE_STATUS.UE_COUNT.width - 1) := by
  unfold State.scrubUe
  rw [State.raise_rd, State.raise_rd, State.rd_of_blur (State.sliceUe_blur ((s.bump R.SEG_STORE_STATUS.UE_COUNT t 1).wr R.SEG_STORE_STATUS.UE_PLAY t 1) t row k 1 (Nat.and_self _)) R.SEG_STORE_STATUS.UE_PLAY t (by decide),
    State.rd_of_blur (State.sliceUe_blur ((s.bump R.SEG_STORE_STATUS.UE_COUNT t 1).wr R.SEG_STORE_STATUS.UE_PLAY t 1) t row k 1 (Nat.and_self _)) R.SEG_STORE_STATUS.UE_COUNT t (by decide)]
  exact ⟨State.wr_rd_fits _ (by decide), (State.wr_rd_key _ _ (by decide)).trans (State.bump_rd_same _ _ _ _)⟩

theorem State.scrubSeen_none {t : Nat} (h : (s.store t).rowIn (s.store t).scrubRow 2 = []) :
    s.scrubSeen t = (s.setStore t (s.store t).scrubbed).bump R.SEG_STORE_STATUS.CE_COUNT t ((s.store t).rowIn (s.store t).scrubRow 1).length := by
  unfold State.scrubSeen
  dsimp only
  rw [h]
  rfl

theorem State.scrubSeen_one {t k : Nat} (h : (s.store t).rowIn (s.store t).scrubRow 2 = [k]) :
    s.scrubSeen t = ((s.setStore t (s.store t).scrubbed).bump R.SEG_STORE_STATUS.CE_COUNT t ((s.store t).rowIn (s.store t).scrubRow 1).length).scrubUe t (s.store t).scrubRow k := by
  unfold State.scrubSeen
  dsimp only
  rw [h]
  rfl

section
variable {t : Fin 16} {row : Nat} (hen : s.fl R.SEG_STORE_CFG.SCRUB_EN t.val = true) (him : s.imaged = true) (hr : (s.store t.val).scrubRow = row)
include hen him hr

theorem scrubRow_clean (h : ∀ k, k < 5 → (s.store t.val).bad' row k = 0) :
    ∃ u, execScrubRow t s = .next u ∧ (u.store t.val).scrubRow = (row + 1) % 393216 ∧ (u.store t.val).words = (s.store t.val).words ∧ (u.store t.val).ecc = (s.store t.val).ecc ∧
      u.rd R.SEG_STORE_STATUS.UE_COUNT t.val = s.rd R.SEG_STORE_STATUS.UE_COUNT t.val ∧ s.keeps u [.stores, .regs] ∧ s.keepsFields u [R.SEG_STORE_STATUS.CE_COUNT] := by
  subst hr
  have h1 : (s.store t.val).rowIn (s.store t.val).scrubRow 1 = [] := StoreSt.rowIn_none fun k hk => by rw [h k hk]; decide
  have h2 : (s.store t.val).rowIn (s.store t.val).scrubRow 2 = [] := StoreSt.rowIn_none fun k hk => by rw [h k hk]; decide
  have e := scrubRow_scrubs s hen him
  rw [h1, show (!([] : List Nat).isEmpty && decide (smGet 0 (s.store t.val).scrubCe (s.store t.val).scrubRow = 1)) = false from rfl, State.when_false, State.scrubSeen_none (s.withOut []) h2,
    State.withOut_store] at e
  have hst : (s.store t.val).scrubbed.ecc = (s.store t.val).ecc := by
    unfold StoreSt.scrubbed
    rw [h1, h2]
    rfl
  have hstore (n : Nat) : (s.commit (((s.withOut []).setStore t.val (s.store t.val).scrubbed).bump R.SEG_STORE_STATUS.CE_COUNT t.val n)).store t.val = (s.store t.val).scrubbed := State.setStore_store_same _ _ _
  refine ⟨_, e, ?_, ?_, ?_, ?_, State.keeps_commit ?_, ?_⟩
  · rw [hstore]
    rfl
  · rw [hstore]
    rfl
  · rw [hstore, hst]
  · rw [State.commit_rd]
    exact State.bump_rd_key _ _ (by decide)
  · rw [State.keeps_bump _ _ _ (by decide), State.keeps_setStore _ _ (by decide), State.keeps_withOut]
    exact s.keeps_refl _
  · rw [State.keepsFields_commit, State.keepsFields_bump _ _ _ (by decide), State.keepsFields_setStore, State.keepsFields_withOut]
    exact s.keepsFields_refl _

theorem scrubRow_corrects {k : Nat} (hk : k < 5) (hb : (s.store t.val).bad' row k = 1) (hj : ∀ j, j < 5 → j ≠ k → (s.store t.val).bad' row j = 0) :
    ∃ u, execScrubRow t s = .next u ∧ (u.store t.val).bad' row k = 0 ∧ smGet 0 (u.store t.val).scrubCe row = 1 ∧ (u.store t.val).words = (s.store t.val).words ∧
      u.rd R.SEG_STORE_STATUS.CE_COUNT t.val = min (s.rd R.SEG_STORE_STATUS.CE_COUNT t.val + 1) (2 ^ R.SEG_STORE_STATUS.CE_COUNT.width - 1) := by
  subst hr
  have h1 : (s.store t.val).rowIn (s.store t.val).scrubRow 1 = [k] := StoreSt.rowIn_one hk hb fun j hj1 hj2 => by rw [hj j hj1 hj2]; decide
  have h2 : (s.store t.val).rowIn (s.store t.val).scrubRow 2 = [] := StoreSt.rowIn_none fun j hj1 => by
    by_cases hjk : j = k
    · rw [hjk, hb]
      decide
    · rw [hj j hj1 hjk]
      decide
  have e := scrubRow_scrubs s hen him
  rw [State.scrubSeen_none (s.withOut []) h2, State.withOut_store, h1] at e
  have hecc : (s.store t.val).scrubbed.bad' (s.store t.val).scrubRow k = 0 := by
    change smGet 0 (if ((s.store t.val).rowIn (s.store t.val).scrubRow 2).isEmpty then _ else _) _ = 0
    rw [h1, h2]
    exact smGet_smSet_same (α := Nat) 0 (s.store t.val).ecc _ 0
  have hce : smGet 0 (s.store t.val).scrubbed.scrubCe (s.store t.val).scrubRow = 1 := by
    refine (smGet_smSet_same (α := Nat) _ _ _ _).trans ?_
    rw [h1]
    rfl
  revert e
  generalize hu : ((s.withOut []).setStore t.val (s.store t.val).scrubbed).bump R.SEG_STORE_STATUS.CE_COUNT t.val [k].length = u
  generalize (!([k] : List Nat).isEmpty && decide (smGet 0 (s.store t.val).scrubCe (s.store t.val).scrubRow = 1)) = c
  intro e
  have hstores : (u.when c (·.markRow t.val (s.store t.val).scrubRow 1)).stores = u.stores := State.when_induction u (P := fun v => v.stores = u.stores) _ _ rfl (u.markRow_stores _ _ _)
  have hstore : (s.commit (u.when c (·.markRow t.val (s.store t.val).scrubRow 1))).store t.val = (s.store t.val).scrubbed := by
    rw [State.commit_store, State.store, hstores, ← hu]
    exact State.setStore_store_same _ _ _
  refine ⟨_, e, ?_, ?_, ?_, ?_⟩
  · rw [hstore, hecc]
  · rw [hstore, hce]
  · rw [hstore]
    rfl
  · rw [State.commit_rd, State.when_rd_of _ (f := (·.markRow t.val (s.store t.val).scrubRow 1)) (u.markRow_rd _ _ _ _ rfl), ← hu, State.bump_rd_same]
    rfl

theorem scrubRow_reports {k : Nat} (hk : k < 5) (hb : (s.store t.val).bad' row k = 2) (hj : ∀ j, j < 5 → j ≠ k → (s.store t.val).bad' row j = 0) :
    ∃ u, execScrubRow t s = .next u ∧ (u.store t.val).bad' row k = 2 ∧ u.rd R.SEG_STORE_STATUS.UE_PLAY t.val = 1 ∧ (64 + 16 * t.val + 1, 0) ∈ u.hub.asserted ∧
      u.rd R.SEG_STORE_STATUS.UE_COUNT t.val = min (s.rd R.SEG_STORE_STATUS.UE_COUNT t.val + 1) (2 ^ R.SEG_STORE_STATUS.UE_COUNT.width - 1) := by
  subst hr
  have h2 : (s.store t.val).rowIn (s.store t.val).scrubRow 2 = [k] := StoreSt.rowIn_one hk hb fun j hj1 hj2 => by rw [hj j hj1 hj2]; decide
  have h1 : (s.store t.val).rowIn (s.store t.val).scrubRow 1 = [] := StoreSt.rowIn_none fun j hj1 => by
    by_cases hjk : j = k
    · rw [hjk, hb]
      decide
    · rw [hj j hj1 hjk]
      decide
  have e := scrubRow_scrubs s hen him
  rw [h1, show (!([] : List Nat).isEmpty && decide (smGet 0 (s.store t.val).scrubCe (s.store t.val).scrubRow = 1)) = false from rfl, State.when_false, State.scrubSeen_one (s.withOut []) h2,
    State.withOut_store, h1] at e
  have hecc : (s.store t.val).scrubbed.bad' (s.store t.val).scrubRow k = 2 := by
    unfold StoreSt.scrubbed
    rw [h2]
    exact hb
  revert e
  generalize hu : ((s.withOut []).setStore t.val (s.store t.val).scrubbed).bump R.SEG_STORE_STATUS.CE_COUNT t.val ([] : List Nat).length = u
  intro e
  obtain ⟨hplay, hcount⟩ := u.scrubUe_rd t.val (s.store t.val).scrubRow k
  refine ⟨_, e, ?_, hplay, List.mem_append_right _ (List.mem_singleton.2 rfl), ?_⟩
  · rw [State.commit_store, State.store, State.scrubUe_stores, ← hu]
    exact (congrArg (fun x => StoreSt.bad' x (s.store t.val).scrubRow k) (State.setStore_store_same _ _ _)).trans hecc
  · rw [State.commit_rd, hcount, ← hu, State.bump_rd_key _ _ (by decide)]
    rfl

end

section
variable {rq : Req} {t : Fin 16} {w : Word}

theorem storeCfgWrite_moves (hw : s.canWrite rq .SEG_STORE_CFG t.val) (hp : (s.play t.val).playing = false) (hb : R.SEG_STORE_CFG.RING_BASE.part w.toNat ≤ 384)
    (hne : R.SEG_STORE_CFG.RING_BASE.part w.toNat ≠ s.rd R.SEG_STORE_CFG.RING_BASE t.val) :
    ∃ u, execStoreCfgWrite rq t w s = .next u ∧ u.rd R.SEG_STORE_CFG.RING_BASE t.val = R.SEG_STORE_CFG.RING_BASE.part w.toNat ∧ u.rd R.SEQ_LOAD.VALID t.val = 0 ∧
      u.rd R.SEG_STORE_CFG.SCRUB_EN t.val = R.SEG_STORE_CFG.SCRUB_EN.part w.toNat ∧ u.rd R.SEG_RING_STATUS.NEXT_SLOT t.val = 0 ∧ ∀ n, n < 256 → u.rd R.SEG_SLOT.READY (256 * t.val + n) = 0 := by
  refine ⟨_, writeRow_shared s hw rfl (storeCfgHook_moves (s.withOut []) hp hb hne), ?_, ?_, ?_, ?_, fun n hn => ?_⟩
  · rw [State.commit_rd, State.ringReset_rd _ _ _ _ (by decide), State.wr_rd_key _ _ (by decide), State.wr_rd_same, Fld.part_mod]
  · rw [State.commit_rd, State.ringReset_rd _ _ _ _ (by decide), State.wr_rd_fits _ (by decide)]
  · rw [State.commit_rd, State.ringReset_rd _ _ _ _ (by decide), State.wr_rd_key _ _ (by decide), State.wr_rd_key _ _ (by decide), State.storeCfgTaken_rw _ (by decide)]
  · rw [State.commit_rd]
    exact (State.ringReset_order _ _).1
  · rw [State.commit_rd, State.ringReset_ready _ _ hn]

theorem storeCfgWrite_stays (hw : s.canWrite rq .SEG_STORE_CFG t.val) (he : R.SEG_STORE_CFG.RING_BASE.part w.toNat = s.rd R.SEG_STORE_CFG.RING_BASE t.val) :
    ∃ u, execStoreCfgWrite rq t w s = .next u ∧ u.rd R.SEG_STORE_CFG.UE_POLICY t.val = R.SEG_STORE_CFG.UE_POLICY.part w.toNat ∧ u.rd R.SEG_STORE_CFG.SCRUB_EN t.val = R.SEG_STORE_CFG.SCRUB_EN.part w.toNat ∧
      u.rd R.SEQ_LOAD.VALID t.val = s.rd R.SEQ_LOAD.VALID t.val ∧ s.keeps u [.regs] := by
  obtain ⟨v, hv⟩ := writeFields_regs (s.withOut []) storeCfgFlds t.val w.toNat 15
  refine ⟨_, writeRow_shared s hw rfl (storeCfgHook_stays (s.withOut []) he), ?_, ?_, ?_, State.keeps_commit ?_⟩
  · rw [State.commit_rd, State.storeCfgTaken_rw _ (by decide)]
  · rw [State.commit_rd, State.storeCfgTaken_rw _ (by decide)]
  · rw [State.commit_rd, State.storeCfgTaken_rd _ _ (by decide)]
    rfl
  · rw [State.storeCfgTaken, hv, State.keeps_regs _ (by decide), State.keeps_withOut]
    exact s.keeps_refl _

theorem ringReset_resets (hw : s.canWrite rq .SEG_RING_CTL t.val) (hp : (s.play t.val).playing = false) :
    ∃ u, execRingReset rq t s = .next u ∧ u.rd R.SEG_RING_STATUS.NEXT_SLOT t.val = 0 ∧ u.rd R.SEG_RING_STATUS.NEXT_TAG t.val = 0 ∧ ∀ n, n < 256 → u.rd R.SEG_SLOT.READY (256 * t.val + n) = 0 := by
  refine ⟨_, writeRow_shared s hw rfl (ringCtlHook_resets (s.withOut []) hp), (State.ringReset_order _ _).1, (State.ringReset_order _ _).2, fun n hn => ?_⟩
  rw [State.commit_rd, State.ringReset_ready _ _ hn]

theorem ringCfgWrite_sizes (hw : s.canWrite rq .SEG_RING_CFG t.val) (hp : (s.play t.val).playing = false) (hne : max (R.SEG_RING_CFG.SLOT_SIZE.part w.toNat) 1 ≠ s.slotSize t.val) :
    ∃ u, execRingCfgWrite rq t w s = .next u ∧ u.rd R.SEG_RING_CFG.SLOT_SIZE t.val = R.SEG_RING_CFG.SLOT_SIZE.part w.toNat ∧ u.rd R.SEG_RING_CFG.LOW_WATER t.val = R.SEG_RING_CFG.LOW_WATER.part w.toNat ∧
      u.rd R.SEQ_LOAD.VALID t.val = 0 ∧ ∀ n, n < 256 → u.rd R.SEG_SLOT.READY (256 * t.val + n) = 0 := by
  refine ⟨_, writeRow_shared s hw rfl (ringCfgHook_sizes (s.withOut []) hp hne), ?_, ?_, ?_, fun n hn => ?_⟩
  · rw [State.commit_rd, State.ringReset_rd _ _ _ _ (by decide), State.wr_rd_key _ _ (by decide), State.wr_rd_same, Fld.part_mod]
  · rw [State.commit_rd, State.ringReset_rd _ _ _ _ (by decide), State.wr_rd_key _ _ (by decide), State.wr_rd_key _ _ (by decide), State.lowTaken_low]
  · rw [State.commit_rd, State.ringReset_rd _ _ _ _ (by decide), State.wr_rd_fits _ (by decide)]
  · rw [State.commit_rd, State.ringReset_ready _ _ hn]

theorem ringCfgWrite_stays (hw : s.canWrite rq .SEG_RING_CFG t.val) (he : max (R.SEG_RING_CFG.SLOT_SIZE.part w.toNat) 1 = s.slotSize t.val) :
    ∃ u, execRingCfgWrite rq t w s = .next u ∧ u.rd R.SEG_RING_CFG.SLOT_SIZE t.val = s.rd R.SEG_RING_CFG.SLOT_SIZE t.val ∧ u.rd R.SEG_RING_CFG.LOW_WATER t.val = R.SEG_RING_CFG.LOW_WATER.part w.toNat ∧
      u.rd R.SEQ_LOAD.VALID t.val = s.rd R.SEQ_LOAD.VALID t.val := by
  refine ⟨_, writeRow_shared s hw rfl (ringCfgHook_stays (s.withOut []) he), ?_, ?_, ?_⟩
  · rw [State.commit_rd, State.lowTaken_rd _ _ (by decide)]
    rfl
  · rw [State.commit_rd, State.lowTaken_low]
  · rw [State.commit_rd, State.lowTaken_rd _ _ (by decide)]
    rfl

theorem slotWrite_writes {n : Fin 256} (hw : s.canWrite rq .SEG_SLOT (256 * t.val + n.val)) (h : n.val < s.slotCount t.val) (hp : s.fl R.SEG_SLOT.PLAYING (256 * t.val + n.val) = false) :
    ∃ u, execSlotWrite rq t n w s = .next u ∧ u.rd R.SEG_SLOT.READY (256 * t.val + n.val) = R.SEG_SLOT.READY.part w.toNat ∧ u.rd R.SEG_SLOT.LAST (256 * t.val + n.val) = R.SEG_SLOT.LAST.part w.toNat ∧
      u.rd R.SEG_SLOT.TAG (256 * t.val + n.val) = R.SEG_SLOT.TAG.part w.toNat := by
  have hdiv : (256 * t.val + n.val) / 256 = t.val := by omega
  have hmod : (256 * t.val + n.val) % 256 = n.val := by omega
  have hlt : (256 * t.val + n.val) % 256 < (s.withOut []).slotCount ((256 * t.val + n.val) / 256) := by rwa [hmod, hdiv]
  refine ⟨_, writeRow_shared s hw rfl (slotHook_writes (s.withOut []) hlt hp), ?_, ?_, ?_⟩
  all_goals rw [State.commit_rd, State.ringLow_rd, writeWord_takes_rw _ segSlot_noRwl _ _ (by decide) rfl]

end

section
variable {f : Fin 64} {t : Fin 16} {w : Word}

theorem storeCfgWrite_refuses (hw : s.canWrite (.fn f) .SEG_STORE_CFG t.val) (h : (s.play t.val).playing = true ∨ 384 < R.SEG_STORE_CFG.RING_BASE.part w.toNat)
    (hne : R.SEG_STORE_CFG.RING_BASE.part w.toNat ≠ s.rd R.SEG_STORE_CFG.RING_BASE t.val) :
    ∃ u, execStoreCfgWrite (.fn f) t w s = .next u ∧ u.rd R.SEG_STORE_CFG.RING_BASE t.val = s.rd R.SEG_STORE_CFG.RING_BASE t.val ∧
      u.rd R.SEG_STORE_CFG.UE_POLICY t.val = R.SEG_STORE_CFG.UE_POLICY.part w.toNat ∧ u.rd R.HOST_REFUSE.COUNT f.val = min (s.rd R.HOST_REFUSE.COUNT f.val + 1) 65535 := by
  refine ⟨_, writeRow_sharedRefuses s hw rfl (storeCfgHook_refuses (s.withOut []) h hne), ?_, ?_, ?_⟩
  · rw [State.commit_rd, State.refuse_rd _ (by decide), State.storeCfgTaken_rd _ _ (by decide)]
    rfl
  · rw [State.commit_rd, State.refuse_rd _ (by decide), State.storeCfgTaken_rw _ (by decide)]
  · rw [State.commit_rd, State.refuse_count, State.storeCfgTaken_rd _ _ (by decide)]
    rfl

theorem ringCfgWrite_refuses (hw : s.canWrite (.fn f) .SEG_RING_CFG t.val) (hp : (s.play t.val).playing = true) (hne : max (R.SEG_RING_CFG.SLOT_SIZE.part w.toNat) 1 ≠ s.slotSize t.val) :
    ∃ u, execRingCfgWrite (.fn f) t w s = .next u ∧ u.rd R.SEG_RING_CFG.SLOT_SIZE t.val = s.rd R.SEG_RING_CFG.SLOT_SIZE t.val ∧
      u.rd R.HOST_REFUSE.COUNT f.val = min (s.rd R.HOST_REFUSE.COUNT f.val + 1) 65535 := by
  refine ⟨_, writeRow_sharedRefuses s hw rfl (ringCfgHook_refuses (s.withOut []) hp hne), ?_, ?_⟩
  · rw [State.commit_rd, State.refuse_rd _ (by decide), State.lowTaken_rd _ _ (by decide)]
    rfl
  · rw [State.commit_rd, State.refuse_count, State.lowTaken_rd _ _ (by decide)]
    rfl

theorem slotWrite_refuses {n : Fin 256} (hw : s.canWrite (.fn f) .SEG_SLOT (256 * t.val + n.val)) (h : s.slotCount t.val ≤ n.val ∨ s.fl R.SEG_SLOT.PLAYING (256 * t.val + n.val) = true) :
    ∃ u, execSlotWrite (.fn f) t n w s = .next u ∧ u.rd R.HOST_REFUSE.COUNT f.val = min (s.rd R.HOST_REFUSE.COUNT f.val + 1) 65535 ∧ s.keeps u [.regs] ∧ s.keepsFields u refuseFields := by
  have hdiv : (256 * t.val + n.val) / 256 = t.val := by omega
  have hmod : (256 * t.val + n.val) % 256 = n.val := by omega
  refine writeRow_counts s hw ?_
  rw [s.copyOf_device rfl]
  exact slotHook_refuses (s.withOut []) (by rwa [hmod, hdiv])

end

section
variable {rq : Req} {t : Fin 16} {w : Word}

theorem ctlwDataWrite_pair (hw : s.canWrite rq .SEG_CTLW_DATA t.val) (hr : s.rd R.SEG_CTLW_ADDR.ROW t.val < 393216) :
    ∃ u, execCtlwDataWrite rq t w 15 s = .next u ∧ smGet 0 (u.store t.val).ctl (s.rd R.SEG_CTLW_ADDR.ROW t.val) = w.toNat % 65536 ∧
      smGet 0 (u.store t.val).ctl (s.rd R.SEG_CTLW_ADDR.ROW t.val + 1) = w.toNat / 65536 ∧ u.rd R.SEG_CTLW_ADDR.ROW t.val = (s.rd R.SEG_CTLW_ADDR.ROW t.val + 2) % 2 ^ R.SEG_CTLW_ADDR.ROW.width ∧
      (u.store t.val).words = (s.store t.val).words ∧ s.keeps u [.regs, .stores] := by
  have hstore (x : StoreSt) (v : Nat) : (s.commit (((s.withOut []).setStore t.val x).wr R.SEG_CTLW_ADDR.ROW t.val v)).store t.val = x := State.setStore_store_same _ _ _
  refine ⟨_, ctlwDataWrite_puts s hw hr (.inl rfl), ?_, ?_, ?_, ?_, State.keeps_commit ?_⟩
  · rw [hstore, StoreSt.putPair_even]
  · rw [hstore, show decide ((15 : Fin 16).val = 15) = true from rfl, StoreSt.putPair_odd _ w.isLt]
  · rw [State.commit_rd, State.wr_rd_same]
  · rw [hstore, StoreSt.putPair_words]
  · rw [State.keeps_wr _ _ _ (by decide), State.keeps_setStore _ _ (by decide), State.keeps_withOut]
    exact s.keeps_refl _

theorem ctlwDataWrite_low (hw : s.canWrite rq .SEG_CTLW_DATA t.val) (hr : s.rd R.SEG_CTLW_ADDR.ROW t.val < 393216) :
    ∃ u, execCtlwDataWrite rq t w 3 s = .next u ∧ smGet 0 (u.store t.val).ctl (s.rd R.SEG_CTLW_ADDR.ROW t.val) = w.toNat % 65536 ∧
      smGet 0 (u.store t.val).ctl (s.rd R.SEG_CTLW_ADDR.ROW t.val + 1) = smGet 0 (s.store t.val).ctl (s.rd R.SEG_CTLW_ADDR.ROW t.val + 1) ∧
      u.rd R.SEG_CTLW_ADDR.ROW t.val = (s.rd R.SEG_CTLW_ADDR.ROW t.val + 2) % 2 ^ R.SEG_CTLW_ADDR.ROW.width := by
  have hstore (x : StoreSt) (v : Nat) : (s.commit (((s.withOut []).setStore t.val x).wr R.SEG_CTLW_ADDR.ROW t.val v)).store t.val = x := State.setStore_store_same _ _ _
  refine ⟨_, ctlwDataWrite_puts s hw hr (.inr rfl), ?_, ?_, ?_⟩
  · rw [hstore, StoreSt.putPair_even]
  · rw [hstore, show decide ((3 : Fin 16).val = 15) = false from rfl, StoreSt.putPair_keptOdd]
  · rw [State.commit_rd, State.wr_rd_same]

end

end Sys2Proof.Machine

open Sys2Proof Sys2Proof.Machine

/-- Settles O28: a write of the ring's registers by whether the tile plays and what it changes, a scrub by the code words that its row holds. -/
theorem storeControl : Obligations.StoreControl := by
  refine ⟨fun s _ _ _ hw hr => ctlwDataWrite_pair s hw hr, fun s _ _ _ hw hr => ctlwDataWrite_low s hw hr, fun s _ _ _ hw hr => ctlwDataWrite_overruns s hw hr,
    fun s _ _ _ hw hp hb hne => storeCfgWrite_moves s hw hp hb hne, fun s _ _ _ hw h hne => storeCfgWrite_refuses s hw h hne, fun s _ _ hw hp => ringReset_resets s hw hp,
    fun s _ _ _ hw hp hne => ringCfgWrite_sizes s hw hp hne, fun s _ _ _ hw he => storeCfgWrite_stays s hw he, fun s _ _ _ hw he => ringCfgWrite_stays s hw he,
    fun s _ _ _ hw hp hne => ringCfgWrite_refuses s hw hp hne, fun s _ t hw hp => ?_, fun s _ _ _ _ hw h => slotWrite_refuses s hw h, fun s _ _ _ _ hw h hp => slotWrite_writes s hw h hp,
    fun s _ _ hen him hr h => scrubRow_clean s hen him hr h, fun s _ _ _ hen him hr hk hb hj => scrubRow_corrects s hen him hr hk hb hj,
    fun s _ _ _ hen him hr hk hb hj => scrubRow_reports s hen him hr hk hb hj, fun s _ h => scrubRow_idle s h⟩
  refine writeRow_counts s hw ?_
  rw [s.copyOf_device rfl]
  exact ringCtlHook_refuses (s.withOut []) hp
end
section
/-! SUPPORT. Bytes of words, and the writes of bytes to the capture store (R30, R40, R216). -/

namespace Sys2Proof.Machine

variable (s : State)

/-! Bytes of a word -/

theorem bits_byte_succ (v i : Nat) : bits v (8 * (i + 1)) 8 = bits (v / 256) (8 * i) 8 := by
  rw [bits, bits, Nat.div_div_eq_div_mul, show 2 ^ (8 * (i + 1)) = 256 * 2 ^ (8 * i) by rw [show 8 * (i + 1) = 8 + 8 * i by omega, Nat.pow_add]]

/-- A byte of the number that bytes spell. -/
theorem leVal_byte (l : List Nat) (i : Nat) : bits (leVal l) (8 * i) 8 = l.getD i 0 % 256 := by
  induction l generalizing i with
  | nil => simp [leVal, bits]
  | cons b l ih =>
    have hb : b % 256 < 256 := Nat.mod_lt _ (by decide)
    cases i with
    | zero =>
      rw [bits, Nat.mul_zero, Nat.pow_zero, Nat.div_one, leVal, List.getD_cons_zero]
      omega
    | succ i => rw [bits_byte_succ, List.getD_cons_succ, ← ih, leVal, show (b % 256 + 256 * leVal l) / 256 = leVal l by omega]

theorem leBytes_length (n v : Nat) : (leBytes n v).length = n := by
  induction n generalizing v with
  | zero => rfl
  | succ n ih => exact congrArg Nat.succ (ih _)

theorem leBytes_byte {n i : Nat} (v : Nat) (h : i < (leBytes n v).length) : (leBytes n v)[i] = bits v (8 * i) 8 := by
  induction n generalizing v i with
  | zero => exact absurd h (Nat.not_lt_zero i)
  | succ n ih =>
    cases i with
    | zero => exact (congrArg (· % 256) (Nat.div_one v)).symm
    | succ i => exact (ih (v / 256) (by simpa [leBytes] using h)).trans (bits_byte_succ v i).symm

/-- A byte of a merged word: the new one where one is written, and the old one elsewhere. -/
theorem mergeWord_byte (old : Nat) {bs : List (Option Nat)} (hbs : bs.length = 8) {i : Nat} (hi : i < 8) :
    bits (mergeWord old bs) (8 * i) 8 = ((bs.getD i none).map (· % 256)).getD (bits old (8 * i) 8) := by
  have hlen : i < (leBytes 8 old).length := by rwa [leBytes_length]
  have hb : i < bs.length := by omega
  rw [mergeWord, leVal_byte, List.getD_eq_getElem _ _ (by simp [hlen, hb]), List.getElem_map, List.getElem_zip, List.getD_eq_getElem _ _ hb, leBytes_byte]
  cases bs[i]
  · exact Nat.mod_mod _ _
  · rfl

/-! The words that bytes lie in -/

/-- The bytes of a write that lie in word w. -/
def byteWord (off : Nat) (bytes : List Nat) (w : Nat) : List (Option Nat) := (List.range 8).map fun b => if 8 * w + b < off then none else bytes[8 * w + b - off]?

theorem byteWord_length (off : Nat) (bytes : List Nat) (w : Nat) : (byteWord off bytes w).length = 8 := by simp [byteWord]

theorem byteWord_byte (off : Nat) (bytes : List Nat) (w : Nat) {b : Nat} (hb : b < 8) : (byteWord off bytes w).getD b none = if 8 * w + b < off then none else bytes[8 * w + b - off]? := by
  rw [byteWord, List.getD_eq_getElem _ _ (by simpa using hb), List.getElem_map, List.getElem_range]

theorem mem_byteWords {off : Nat} {bytes : List Nat} {e : Nat × List (Option Nat)} :
    e ∈ byteWords off bytes ↔ (off / 8 ≤ e.1 ∧ 8 * e.1 < off + bytes.length ∧ bytes ≠ []) ∧ e.2 = byteWord off bytes e.1 := by
  unfold byteWords
  cases bytes with
  | nil => simp
  | cons x xs =>
    rw [if_neg (by simp), List.mem_map]
    constructor
    · rintro ⟨j, hj, rfl⟩
      have := List.mem_range.1 hj
      rw [List.length_cons] at *
      exact ⟨⟨by dsimp only; omega, by dsimp only; omega, by simp⟩, rfl⟩
    · rintro ⟨⟨h1, h2, -⟩, h3⟩
      rw [List.length_cons] at *
      refine ⟨e.1 - off / 8, List.mem_range.2 (by omega), Prod.ext ?_ ?_⟩
      · dsimp only
        omega
      · dsimp only
        rw [show off / 8 + (e.1 - off / 8) = e.1 by omega, h3]
        rfl

/-- The byte that a word's part of a write puts at an address. -/
theorem byteWords_byte {off a : Nat} {bytes : List Nat} {e : Nat × List (Option Nat)} (he : e ∈ byteWords off bytes) (ha : e.1 = a / 8) :
    e.2.getD (a % 8) none = if off ≤ a then bytes[a - off]? else none := by
  obtain ⟨-, h⟩ := mem_byteWords.1 he
  rw [h, byteWord_byte _ _ _ (Nat.mod_lt a (by decide)), ha, Nat.div_add_mod]
  by_cases hlt : a < off
  · rw [if_pos hlt, if_neg (by omega)]
  · rw [if_neg hlt, if_pos (by omega)]

/-! Runs of writes -/

section
variable {β ε γ : Type} {f : β → ε → β} {get : β → γ} {l : List ε}

theorem foldl_keeps (h : ∀ u, ∀ e ∈ l, get (f u e) = get u) (s : β) : get (l.foldl f s) = get s := by
  induction l generalizing s with
  | nil => rfl
  | cons e l ih => exact (ih (fun u e he => h u e (List.mem_cons_of_mem _ he)) _).trans (h s e List.mem_cons_self)

/-- A run of writes leaves what every write leaves. -/
theorem foldl_invariant {P : β → Prop} (h : ∀ u, ∀ e ∈ l, P u → P (f u e)) {s : β} (hs : P s) : P (l.foldl f s) := by
  induction l generalizing s with
  | nil => exact hs
  | cons e l ih => exact ih (fun u e he => h u e (List.mem_cons_of_mem _ he)) (h s e List.mem_cons_self hs)

/-- What one write of a run sets and no other changes is set at its end. -/
theorem foldl_sets {P : β → Prop} {v : γ} (hP : ∀ u, ∀ e ∈ l, P u → P (f u e)) (hkeep : ∀ u, ∀ e ∈ l, P u → get u = v → get (f u e) = v) (hset : ∃ e ∈ l, ∀ u, P u → get (f u e) = v) {s : β} (hs : P s) :
    get (l.foldl f s) = v := by
  induction l generalizing s with
  | nil => exact absurd hset.choose_spec.1 List.not_mem_nil
  | cons e l ih =>
    obtain ⟨d, hd, hset⟩ := hset
    have hP' : ∀ u, ∀ e ∈ l, P u → P (f u e) := fun u e he => hP u e (List.mem_cons_of_mem _ he)
    have hkeep' : ∀ u, ∀ e ∈ l, P u → get u = v → get (f u e) = v := fun u e he => hkeep u e (List.mem_cons_of_mem _ he)
    have hs' := hP s e List.mem_cons_self hs
    obtain rfl | hd := List.mem_cons.1 hd
    · exact (foldl_invariant (P := fun u => P u ∧ get u = v) (fun u e he hu => ⟨hP' u e he hu.1, hkeep' u e he hu.1 hu.2⟩) ⟨hs', hset s hs⟩).2
    · exact ih hP' hkeep' ⟨d, hd, hset⟩ hs'

end

/-! The capture store -/

/-- A word of the capture store takes the bytes of a write. -/
def State.capOpen (s : State) (e : Nat × List (Option Nat)) : Prop := smGet 0 s.capEcc e.1 = 2 → e.2.all Option.isSome = true

theorem State.capMerge_open {w : Nat} {bs : List (Option Nat)} (h : s.capOpen (w, bs)) :
    s.capMerge w bs = { s with cap := smSet 0 s.cap w (mergeWord (smGet 0 s.cap w) bs), capEcc := smSet 0 s.capEcc w 0 } := by
  refine if_neg ?_
  by_cases h2 : smGet 0 s.capEcc w = 2
  · simp [h h2]
  · simp [h2]

theorem State.capOpen_capMerge {e : Nat × List (Option Nat)} {w : Nat} {bs : List (Option Nat)} (h : s.capOpen e) (hw : s.capOpen (w, bs)) : (s.capMerge w bs).capOpen e := by
  rw [s.capMerge_open hw]
  intro h2
  change smGet 0 (smSet 0 s.capEcc w 0) e.1 = 2 at h2
  by_cases he : e.1 = w
  · rw [he, smGet_smSet_same] at h2
    exact absurd h2 (by decide)
  · rw [smGet_smSet_ne _ _ _ _ he] at h2
    exact h h2

theorem State.storeUe_cap (st row word src : Nat) : (s.storeUe st row word src).cap = s.cap :=
  State.cap_of_blur (s.storeUe_blur st row word src (Nat.and_self _)) (by decide)

/-- Bytes of the capture store that a write does not hold keep their value. -/
theorem State.capMerge_keeps {w : Nat} {bs : List (Option Nat)} (hbs : bs.length = 8) {a : Nat} (h : w = a / 8 → bs.getD (a % 8) none = none) : (s.capMerge w bs).capByte a = s.capByte a := by
  unfold State.capMerge
  split
  · exact congrArg (fun m => bits (smGet 0 m (a / 8)) (8 * (a % 8)) 8) (s.storeUe_cap _ _ _ _)
  · by_cases hw : w = a / 8
    · refine (congrArg (fun v => bits v (8 * (a % 8)) 8) ((congrArg (smGet 0 _) hw.symm).trans (smGet_smSet_same (α := Nat) _ _ _ _))).trans ?_
      rw [mergeWord_byte _ hbs (Nat.mod_lt a (by decide)), h hw, hw]
      rfl
    · exact congrArg (fun v => bits v (8 * (a % 8)) 8) (smGet_smSet_ne (α := Nat) _ _ _ _ (Ne.symm hw))

theorem State.capMerge_puts {a v : Nat} {bs : List (Option Nat)} (hbs : bs.length = 8) (ho : s.capOpen (a / 8, bs)) (h : bs.getD (a % 8) none = some v) : (s.capMerge (a / 8) bs).capByte a = v % 256 := by
  rw [s.capMerge_open ho]
  refine (congrArg (fun v => bits v (8 * (a % 8)) 8) (smGet_smSet_same (α := Nat) _ _ _ _)).trans ?_
  rw [mergeWord_byte _ hbs (Nat.mod_lt a (by decide)), h]
  rfl

theorem State.capPut_keeps {addr a : Nat} {bytes : List Nat} (h : a < addr ∨ addr + bytes.length ≤ a) : (s.capPut addr bytes).capByte a = s.capByte a := by
  refine foldl_keeps (get := fun u => State.capByte u a) (fun u e he => ?_) s
  obtain ⟨-, hlen⟩ := mem_byteWords.1 he
  refine u.capMerge_keeps (by rw [hlen, byteWord_length]) fun ha => ?_
  rw [byteWords_byte he ha]
  obtain h | h := h
  · rw [if_neg (by omega)]
  · rw [List.getElem?_eq_none (by omega), ite_self]

/-- Merges of a write's words put a byte of it, where every word takes its bytes. -/
theorem State.capMerges_puts {off a : Nat} {bytes : List Nat} {l : List (Nat × List (Option Nat))} (hl : ∀ e ∈ l, e ∈ byteWords off bytes) (ho : ∀ e ∈ l, s.capOpen e)
    (h1 : off ≤ a) (h2 : a < off + bytes.length) (hmem : ∃ e ∈ l, e.1 = a / 8) : (l.foldl (fun s e => s.capMerge e.1 e.2) s).capByte a = bytes.getD (a - off) 0 % 256 := by
  have hbyte {e : Nat × List (Option Nat)} (he : e ∈ l) (ha : e.1 = a / 8) : e.2.getD (a % 8) none = some (bytes.getD (a - off) 0) := by
    rw [byteWords_byte (hl e he) ha, if_pos h1, List.getElem?_eq_getElem (by omega), List.getD_eq_getElem _ _ (by omega)]
  have hlen {e : Nat × List (Option Nat)} (he : e ∈ l) : e.2.length = 8 := by rw [(mem_byteWords.1 (hl e he)).2, byteWord_length]
  have hput (u : State) {e : Nat × List (Option Nat)} (he : e ∈ l) (hu : u.capOpen e) (ha : e.1 = a / 8) : (u.capMerge e.1 e.2).capByte a = bytes.getD (a - off) 0 % 256 := by
    rw [ha]
    exact u.capMerge_puts (hlen he) (by rw [← ha]; exact hu) (hbyte he ha)
  obtain ⟨d, hd, hda⟩ := hmem
  refine foldl_sets (get := fun u => State.capByte u a) (P := fun u => ∀ e ∈ l, u.capOpen e) (fun u e he hu d hd => u.capOpen_capMerge (hu d hd) (hu e he)) (fun u e he hu hv => ?_)
    ⟨d, hd, fun u hu => hput u hd (hu d hd) hda⟩ ho
  by_cases ha : e.1 = a / 8
  · exact hput u he (hu e he) ha
  · exact (u.capMerge_keeps (hlen he) fun h => absurd h ha).trans hv

end Sys2Proof.Machine
end
section
/-! SUPPORT. The fail log (R304 to R309), and O31. -/

namespace Sys2Proof.Machine

variable (s : State)

/-! Arming and disarming (R306) -/

theorem logCtl_open : ∀ f ∈ Reg.CMP_LOG_CTL.fields, f.acc ≠ .rwl := by decide

theorem logArea_open : ∀ f ∈ Reg.CMP_LOG_AREA.fields, f.acc ≠ .rwl := by decide

/-- A tile's log with nothing buffered and not armed. -/
def State.logEmptied (s : State) (t : Nat) : State := (s.setPlay t { s.play t with log := [], logGap := false }).wr R.CMP_LOG_CTL.ARMED t 0

/-- A log that starts at the beginning of its area. -/
def State.logArmed (s : State) (t : Nat) : State := (((s.logEmptied t).wr R.CMP_LOG_STATUS.WPTR t 0).wr R.CMP_LOG_STATUS.FULL t 0).wr R.CMP_LOG_CTL.ARMED t 1

theorem State.logEmptied_log (t : Nat) : ((s.logEmptied t).play t).log = [] := congrArg PlaySt.log (State.setPlay_play_same _ _ _)

theorem State.logEmptied_rd (t : Nat) {f : Fld} (i : Nat) (h : f.key % 1024 ≠ R.CMP_LOG_CTL.ARMED.key) : (s.logEmptied t).rd f i = s.rd f i := State.wr_rd_key _ _ h

section
variable {rq : Req} {t w : Nat}

theorem logCtlHook_arms (hp : (s.play t).playing = false) (ha : s.logAreaOk t (s.rd R.CMP_LOG_AREA.BASE t) (s.rd R.CMP_LOG_AREA.BLOCKS t) = true) :
    logCtlHook rq t (Nat.lor w 4) 15 s = ((writeWord .CMP_LOG_CTL t (Nat.lor w 4) 15 s).1.logArmed t, false) := by
  have harm : R.CMP_LOG_CTL.ARM.acts (Nat.lor w 4) 15 = true := Fld.acts_lor w (by decide)
  unfold logCtlHook
  dsimp only
  rw [harm, hp, ha, Bool.or_true, writeWord_open s logCtl_open]
  rfl

theorem logCtlHook_refuses (hp : (s.play t).playing = false) (ha : s.logAreaOk t (s.rd R.CMP_LOG_AREA.BASE t) (s.rd R.CMP_LOG_AREA.BLOCKS t) = false) :
    logCtlHook rq t (Nat.lor w 4) 15 s = (s.wr R.CMP_LOG_STATUS.AREA_REFUSED t 1, true) := by
  have harm : R.CMP_LOG_CTL.ARM.acts (Nat.lor w 4) 15 = true := Fld.acts_lor w (by decide)
  unfold logCtlHook
  dsimp only
  rw [harm, hp, ha]
  rfl

theorem logCtlHook_disarms (hw : R.CMP_LOG_CTL.ARM.part w = 0) : logCtlHook rq t (Nat.lor w 8) 15 s = ((writeWord .CMP_LOG_CTL t (Nat.lor w 8) 15 s).1.logEmptied t, false) := by
  have harm : R.CMP_LOG_CTL.ARM.acts (Nat.lor w 8) 15 = false := by
    rw [Fld.acts, Fld.part_lor_zero w (by decide), hw]
    rfl
  have hdis : R.CMP_LOG_CTL.DISARM.acts (Nat.lor w 8) 15 = true := Fld.acts_lor w (by decide)
  unfold logCtlHook
  dsimp only
  rw [harm, hdis, Bool.or_false, writeWord_open s logCtl_open]
  rfl

theorem logAreaHook_takes (ha : s.fl R.CMP_LOG_CTL.ARMED t = false) (hok : s.logAreaOk t (R.CMP_LOG_AREA.BASE.part w) (R.CMP_LOG_AREA.BLOCKS.part w) = true) :
    logAreaHook rq t w 15 s = ((writeWord .CMP_LOG_AREA t w 15 s).1, false) := by
  unfold logAreaHook
  rw [State.newv_whole, State.newv_whole, ha, hok, writeWord_open s logArea_open]
  rfl

end

section
variable {rq : Req} {t : Fin 16} {w : Word}

theorem logArm_arms (hw : s.canWrite rq .CMP_LOG_CTL t.val) (hp : (s.play t.val).playing = false) (ha : s.logAreaOk t.val (s.rd R.CMP_LOG_AREA.BASE t.val) (s.rd R.CMP_LOG_AREA.BLOCKS t.val) = true) :
    ∃ u, execLogArm rq t w s = .next u ∧ u.fl R.CMP_LOG_CTL.ARMED t.val = true ∧ u.rd R.CMP_LOG_STATUS.WPTR t.val = 0 ∧ u.fl R.CMP_LOG_STATUS.FULL t.val = false ∧
      u.rd R.CMP_LOG_CTL.MODE t.val = R.CMP_LOG_CTL.MODE.part w.toNat ∧ (u.play t.val).log = [] := by
  refine ⟨_, writeRow_shared s hw rfl (logCtlHook_arms (s.withOut []) hp ha), ?_, ?_, ?_, ?_, State.logEmptied_log _ _⟩
  · rw [State.fl_eq, State.commit_rd, State.logArmed, State.wr_rd_fits _ (by decide)]
    rfl
  · rw [State.commit_rd, State.logArmed, State.wr_rd_key _ _ (by decide), State.wr_rd_key _ _ (by decide), State.wr_rd_fits _ (by decide)]
  · rw [State.fl_eq, State.commit_rd, State.logArmed, State.wr_rd_key _ _ (by decide), State.wr_rd_fits _ (by decide)]
    rfl
  · rw [State.commit_rd, State.logArmed, State.wr_rd_key _ _ (by decide), State.wr_rd_key _ _ (by decide), State.wr_rd_key _ _ (by decide), State.logEmptied_rd _ _ _ (by decide),
      writeWord_takes_rw _ logCtl_open _ _ (by decide) rfl, Fld.part_lor_zero _ (by decide)]

theorem logArm_refuses {f : Fin 64} (hw : s.canWrite (.fn f) .CMP_LOG_CTL t.val) (hp : (s.play t.val).playing = false)
    (ha : s.logAreaOk t.val (s.rd R.CMP_LOG_AREA.BASE t.val) (s.rd R.CMP_LOG_AREA.BLOCKS t.val) = false) :
    ∃ u, execLogArm (.fn f) t w s = .next u ∧ u.fl R.CMP_LOG_CTL.ARMED t.val = s.fl R.CMP_LOG_CTL.ARMED t.val ∧ u.fl R.CMP_LOG_STATUS.AREA_REFUSED t.val = true ∧
      u.rd R.HOST_REFUSE.COUNT f.val = min (s.rd R.HOST_REFUSE.COUNT f.val + 1) 65535 ∧ s.keeps u [.regs] := by
  refine ⟨_, writeRow_sharedRefuses s hw rfl (logCtlHook_refuses (s.withOut []) hp ha), ?_, ?_, ?_, State.keeps_commit ?_⟩
  · rw [State.fl_eq, State.fl_eq, State.commit_rd, State.refuse_rd _ (by decide), State.wr_rd_key _ _ (by decide)]
    rfl
  · rw [State.fl_eq, State.commit_rd, State.refuse_rd _ (by decide), State.wr_rd_fits _ (by decide)]
    rfl
  · rw [State.commit_rd, State.refuse_count, State.wr_rd_key _ _ (by decide)]
    rfl
  · rw [State.keeps_refuse _ _ _ (by decide), State.keeps_wr _ _ _ (by decide), State.keeps_withOut]
    exact s.keeps_refl _

theorem logDisarm_drops (hw : s.canWrite rq .CMP_LOG_CTL t.val) (ha : R.CMP_LOG_CTL.ARM.part w.toNat = 0) :
    ∃ u, execLogDisarm rq t w s = .next u ∧ u.fl R.CMP_LOG_CTL.ARMED t.val = false ∧ (u.play t.val).log = [] ∧ u.rd R.CMP_LOG_STATUS.WPTR t.val = s.rd R.CMP_LOG_STATUS.WPTR t.val ∧ u.cap = s.cap := by
  obtain ⟨v, hv⟩ := writeWord_regs (s.withOut []) .CMP_LOG_CTL t.val (Nat.lor w.toNat 8) 15
  refine ⟨_, writeRow_shared s hw rfl (logCtlHook_disarms (s.withOut []) ha), ?_, State.logEmptied_log _ _, ?_, ?_⟩
  · rw [State.fl_eq, State.commit_rd, State.logEmptied, State.wr_rd_fits _ (by decide)]
    rfl
  · rw [State.commit_rd, State.logEmptied_rd _ _ _ (by decide), writeWord_rd_key _ logCtl_open _ _ _ (by decide)]
    rfl
  · rw [hv]
    rfl

theorem logAreaWrite_takes (hw : s.canWrite rq .CMP_LOG_AREA t.val) (ha : s.fl R.CMP_LOG_CTL.ARMED t.val = false)
    (hok : s.logAreaOk t.val (R.CMP_LOG_AREA.BASE.part w.toNat) (R.CMP_LOG_AREA.BLOCKS.part w.toNat) = true) :
    ∃ u, execLogAreaWrite rq t w s = .next u ∧ u.rd R.CMP_LOG_AREA.BASE t.val = R.CMP_LOG_AREA.BASE.part w.toNat ∧ u.rd R.CMP_LOG_AREA.BLOCKS t.val = R.CMP_LOG_AREA.BLOCKS.part w.toNat ∧ s.keeps u [.regs] := by
  obtain ⟨v, hv⟩ := writeWord_regs (s.withOut []) .CMP_LOG_AREA t.val w.toNat 15
  refine ⟨_, writeRow_shared s hw rfl (logAreaHook_takes (s.withOut []) ha hok), ?_, ?_, State.keeps_commit ?_⟩
  · rw [State.commit_rd, writeWord_takes_rw _ logArea_open _ _ (by decide) rfl]
  · rw [State.commit_rd, writeWord_takes_rw _ logArea_open _ _ (by decide) rfl]
  · rw [hv, State.keeps_regs _ (by decide), State.keeps_withOut]
    exact s.keeps_refl _

end

/-! Records form (R305, R308) -/

/-- Vector x's records are formed, and the vectors done with are gone. -/
def State.formed (s : State) (t : Nat) (x : VecRec) : State := (s.modVec t x fun v => { v with formed := true }).vecsDone t

theorem State.formed_log (t : Nat) (x : VecRec) : ((s.formed t x).play t).log = (s.play t).log ∧ ((s.formed t x).play t).logGap = (s.play t).logGap := by
  have h : (s.formed t x).play t = { (s.modVec t x fun v => { v with formed := true }).play t with vecs := ((s.formed t x).play t).vecs } := by
    rw [State.formed, State.vecsDone, State.setPlay_play_same]
  rw [h, State.modVec, State.setPlay_play_same]
  exact ⟨rfl, rfl⟩

theorem State.formed_rd (t : Nat) (x : VecRec) (f : Fld) (i : Nat) : (s.formed t x).rd f i = s.rd f i := rfl

theorem State.formed_logSize (t : Nat) (x : VecRec) : (s.formed t x).logSize t = s.logSize t := congrArg (2048 * ·) (s.formed_rd t x R.CMP_LOG_AREA.BLOCKS t)

/-- A vector that is not formed is not among the vectors afterwards. -/
theorem State.formed_gone {t : Nat} {x : VecRec} (h : x.formed = false) : x ∉ ((s.formed t x).play t).vecs := by
  intro hx
  rw [State.formed, State.vecsDone, State.setPlay_play_same, State.modVec, State.setPlay_play_same] at hx
  obtain ⟨v, -, hv⟩ := List.mem_map.1 (List.mem_of_mem_filter hx)
  by_cases hc : v.cycle = x.cycle && v.origin = x.origin
  · rw [if_pos hc] at hv
    exact absurd ((congrArg VecRec.formed hv).trans h) (by simp)
  · rw [if_neg hc] at hv
    exact hc (by simp [hv])

section
variable {s : State} {t : Fin 16} {x : VecRec} (hx : (s.play t.val).vecs.find? (fun v => !v.formed) = some x) (ht : x.time.isSome = true) (hw : (s.vecWaits t.val x fun j => !(j.isOpen && j.dropped)) = false)
include hx ht hw

theorem exec_failRecordForm : execFailRecordForm t s =
    .next (s.commit (((x.fails.foldr insertSite []).filter (s.logged t.val)).foldl (fun s e => s.logRecord t.val x e) ((s.withOut []).formed t.val x))) := by
  refine done_is s ?_
  dsimp only
  rw [show ((s.withOut []).play t.val).vecs.find? (fun v => !v.formed) = some x from hx]
  dsimp only
  rw [show ((s.withOut []).vecWaits t.val x fun j => !(j.isOpen && j.dropped)) = false from hw, if_neg (by simpa using Option.isSome_iff_ne_none.1 ht)]
  rfl

/-- One logged fail. -/
theorem exec_failRecordForm_one {e : SiteFail} (he : (x.fails.foldr insertSite []).filter (s.logged t.val) = [e]) :
    execFailRecordForm t s = .next (s.commit (((s.withOut []).formed t.val x).logRecord t.val x e)) := by
  rw [exec_failRecordForm hx ht hw, he]
  rfl

end

theorem mem_insertSite {e d : SiteFail} {l : List SiteFail} : d ∈ insertSite e l → d = e ∨ d ∈ l := by
  induction l with
  | nil => simp [insertSite]
  | cons x l ih =>
    unfold insertSite
    split
    · simp
    · intro hd
      obtain rfl | hd := List.mem_cons.1 hd
      · exact .inr List.mem_cons_self
      · exact (ih hd).imp id (List.mem_cons_of_mem _)

theorem mem_insertSites {d : SiteFail} {l : List SiteFail} : d ∈ l.foldr insertSite [] → d ∈ l := by
  induction l with
  | nil => exact id
  | cons x l ih => exact fun hd => (mem_insertSite hd).elim (fun h => h ▸ List.mem_cons_self) fun h => List.mem_cons_of_mem _ (ih h)

section
variable {t : Nat} {x : VecRec} {e : SiteFail}

theorem State.logRecord_buffers (ha : s.fl R.CMP_LOG_CTL.ARMED t = true) (hl : (s.play t).log.length < 8) (hs : s.rd R.CMP_LOG_STATUS.WPTR t + (s.play t).log.length + 1 < s.logSize t) :
    s.logRecord t x e = s.setPlay t { s.play t with log := (s.play t).log ++ [failRecord x e (s.play t).logGap false], logGap := false } := by
  unfold State.logRecord
  dsimp only
  rw [ha, if_neg (by decide), if_neg (Nat.not_le.2 hl), decide_eq_false (Nat.not_le.2 hs)]
  rfl

theorem State.logRecord_fills (ha : s.fl R.CMP_LOG_CTL.ARMED t = true) (hl : (s.play t).log.length < 8) (hs : s.logSize t ≤ s.rd R.CMP_LOG_STATUS.WPTR t + (s.play t).log.length + 1) :
    s.logRecord t x e = (((s.setPlay t { s.play t with log := (s.play t).log ++ [failRecord x e (s.play t).logGap true], logGap := false }).wr R.CMP_LOG_STATUS.FULL t 1).wr
      R.CMP_LOG_CTL.ARMED t 0).raise (64 + 16 * t + 3) := by
  unfold State.logRecord
  dsimp only
  rw [ha, if_neg (by decide), if_neg (Nat.not_le.2 hl), decide_eq_true hs]
  rfl

theorem State.logRecord_loses (ha : s.fl R.CMP_LOG_CTL.ARMED t = true) (hl : 8 ≤ (s.play t).log.length) :
    s.logRecord t x e = (s.bump R.CMP_LOG_LOST.LOST t 1).setPlay t { s.play t with logGap := true } := by
  unfold State.logRecord
  dsimp only
  rw [ha, if_neg (by decide), if_pos hl]

theorem State.logRecord_disarmed (ha : s.fl R.CMP_LOG_CTL.ARMED t = false) : s.logRecord t x e = s.when (s.fl R.CMP_LOG_STATUS.FULL t) (·.bump R.CMP_LOG_LOST.LOST t 1) := by
  unfold State.logRecord
  dsimp only
  rw [ha]
  rfl

end

theorem State.keeps_formed {s u : State} (t : Nat) (x : VecRec) {l : List Part} (hl : .plays ∈ l) : s.keeps (u.formed t x) l ↔ s.keeps u l := by
  rw [State.formed, State.keeps_vecsDone _ hl]
  exact State.keeps_setPlay _ _ hl

section
variable {s : State} {t : Fin 16} {x : VecRec} {e : SiteFail} (hx : (s.play t.val).vecs.find? (fun v => !v.formed) = some x) (ht : x.time.isSome = true)
  (hw : (s.vecWaits t.val x fun j => !(j.isOpen && j.dropped)) = false)
include hx ht hw

theorem failRecordForm_none (hn : x.fails.filter (s.logged t.val) = []) :
    ∃ u, execFailRecordForm t s = .next u ∧ (u.play t.val).log = (s.play t.val).log ∧ s.keeps u [.plays] ∧ ((s.vecWaits t.val x fun _ => true) = false → x ∉ (u.play t.val).vecs) := by
  have hnone : (x.fails.foldr insertSite []).filter (s.logged t.val) = [] :=
    List.filter_eq_nil_iff.2 fun d hd => List.filter_eq_nil_iff.1 hn d (mem_insertSites hd)
  have hform := List.find?_some hx
  refine ⟨_, exec_failRecordForm hx ht hw, ?_, State.keeps_commit ?_, fun _ => ?_⟩
  · rw [hnone]
    exact ((s.withOut []).formed_log t.val x).1
  · rw [hnone, List.foldl_nil, State.keeps_formed _ _ (by decide), State.keeps_withOut]
    exact s.keeps_refl _
  · rw [hnone]
    exact (s.withOut []).formed_gone (by simpa using hform)

section
variable (he : (x.fails.foldr insertSite []).filter (s.logged t.val) = [e])
include he

theorem failRecordForm_buffers (ha : s.fl R.CMP_LOG_CTL.ARMED t.val = true) (hl : (s.play t.val).log.length < 8)
    (hs : s.rd R.CMP_LOG_STATUS.WPTR t.val + (s.play t.val).log.length + 1 < s.logSize t.val) :
    ∃ u, execFailRecordForm t s = .next u ∧ (u.play t.val).log = (s.play t.val).log ++ [failRecord x e (s.play t.val).logGap false] ∧ (u.play t.val).logGap = false ∧ s.keeps u [.plays] := by
  obtain ⟨hlog, hgap⟩ := (s.withOut []).formed_log t.val x
  have h := exec_failRecordForm_one hx ht hw he
  rw [State.logRecord_buffers ((s.withOut []).formed t.val x) (t := t.val) ha (by rw [hlog]; exact hl) (by rw [State.formed_rd, State.formed_logSize, hlog]; exact hs), hlog, hgap] at h
  refine ⟨_, h, ?_, ?_, State.keeps_commit ?_⟩
  · rw [State.commit_play, State.setPlay_play_same]
    rfl
  · rw [State.commit_play, State.setPlay_play_same]
  · rw [State.keeps_setPlay _ _ (by decide), State.keeps_formed _ _ (by decide), State.keeps_withOut]
    exact s.keeps_refl _

theorem failRecordForm_fills (ha : s.fl R.CMP_LOG_CTL.ARMED t.val = true) (hl : (s.play t.val).log.length < 8)
    (hs : s.logSize t.val ≤ s.rd R.CMP_LOG_STATUS.WPTR t.val + (s.play t.val).log.length + 1) :
    ∃ u, execFailRecordForm t s = .next u ∧ (u.play t.val).log = (s.play t.val).log ++ [failRecord x e (s.play t.val).logGap true] ∧ u.fl R.CMP_LOG_STATUS.FULL t.val = true ∧
      u.fl R.CMP_LOG_CTL.ARMED t.val = false ∧ u.hub.asserted = s.hub.asserted ++ [(64 + 16 * t.val + 3, 0)] ∧ s.keeps u [.plays, .regs, .hub] := by
  obtain ⟨hlog, hgap⟩ := (s.withOut []).formed_log t.val x
  have h := exec_failRecordForm_one hx ht hw he
  rw [State.logRecord_fills ((s.withOut []).formed t.val x) (t := t.val) ha (by rw [hlog]; exact hl) (by rw [State.formed_rd, State.formed_logSize, hlog]; exact hs), hlog, hgap] at h
  refine ⟨_, h, ?_, ?_, ?_, rfl, State.keeps_commit ?_⟩
  · rw [State.commit_play, State.raise_play, State.wr_play, State.wr_play, State.setPlay_play_same]
    rfl
  · rw [State.fl_eq, State.commit_rd, State.raise_rd, State.wr_rd_key _ _ (by decide), State.wr_rd_fits _ (by decide)]
    rfl
  · rw [State.fl_eq, State.commit_rd, State.raise_rd, State.wr_rd_fits _ (by decide)]
    rfl
  · rw [State.keeps_raise _ (by decide), State.keeps_wr _ _ _ (by decide), State.keeps_wr _ _ _ (by decide), State.keeps_setPlay _ _ (by decide), State.keeps_formed _ _ (by decide), State.keeps_withOut]
    exact s.keeps_refl _

theorem failRecordForm_loses (ha : s.fl R.CMP_LOG_CTL.ARMED t.val = true) (hl : 8 ≤ (s.play t.val).log.length) :
    ∃ u, execFailRecordForm t s = .next u ∧ (u.play t.val).log = (s.play t.val).log ∧ (u.play t.val).logGap = true ∧
      u.rd R.CMP_LOG_LOST.LOST t.val = min (s.rd R.CMP_LOG_LOST.LOST t.val + 1) (2 ^ R.CMP_LOG_LOST.LOST.width - 1) ∧ s.keeps u [.plays, .regs] := by
  obtain ⟨hlog, -⟩ := (s.withOut []).formed_log t.val x
  have h := exec_failRecordForm_one hx ht hw he
  rw [State.logRecord_loses ((s.withOut []).formed t.val x) (t := t.val) ha (by rw [hlog]; exact hl)] at h
  refine ⟨_, h, ?_, ?_, ?_, State.keeps_commit ?_⟩
  · rw [State.commit_play, State.setPlay_play_same]
    exact hlog
  · rw [State.commit_play, State.setPlay_play_same]
  · rw [State.commit_rd, State.setPlay_rd, State.bump_rd_same]
    rfl
  · rw [State.keeps_setPlay _ _ (by decide), State.keeps_bump _ _ _ (by decide), State.keeps_formed _ _ (by decide), State.keeps_withOut]
    exact s.keeps_refl _

theorem failRecordForm_disarmed (ha : s.fl R.CMP_LOG_CTL.ARMED t.val = false) :
    ∃ u, execFailRecordForm t s = .next u ∧ (u.play t.val).log = (s.play t.val).log ∧
      u.rd R.CMP_LOG_LOST.LOST t.val = (if s.fl R.CMP_LOG_STATUS.FULL t.val then min (s.rd R.CMP_LOG_LOST.LOST t.val + 1) (2 ^ R.CMP_LOG_LOST.LOST.width - 1) else s.rd R.CMP_LOG_LOST.LOST t.val) ∧ s.keeps u [.plays, .regs] := by
  obtain ⟨hlog, -⟩ := (s.withOut []).formed_log t.val x
  have h := exec_failRecordForm_one hx ht hw he
  rw [State.logRecord_disarmed ((s.withOut []).formed t.val x) (t := t.val) ha, show ((s.withOut []).formed t.val x).fl R.CMP_LOG_STATUS.FULL t.val = s.fl R.CMP_LOG_STATUS.FULL t.val from rfl] at h
  refine ⟨_, h, ?_⟩
  cases s.fl R.CMP_LOG_STATUS.FULL t.val with
  | false =>
    refine ⟨hlog, rfl, State.keeps_commit ?_⟩
    rw [State.when_false, State.keeps_formed _ _ (by decide), State.keeps_withOut]
    exact s.keeps_refl _
  | true =>
    refine ⟨hlog, ?_, State.keeps_commit ?_⟩
    · rw [State.commit_rd, State.when_true, State.bump_rd_same]
      rfl
    · rw [State.when_true, State.keeps_bump _ _ _ (by decide), State.keeps_formed _ _ (by decide), State.keeps_withOut]
      exact s.keeps_refl _

end

end

/-! The oldest record is written (R306, R309) -/

/-- No waiting write of the acquisition units reaches a byte of the capture store. -/
def State.acqApart (s : State) (a : Nat) : Prop := ∀ k, k < 16 → ∀ e ∈ (s.acq k).writes, a < e.1 ∨ e.1 + e.2.length ≤ a

theorem State.capPut_acqs (addr : Nat) (bytes : List Nat) : (s.capPut addr bytes).acqs = s.acqs := State.acqs_of_blur (s.capPut_blur addr bytes (Nat.and_self _)) (by decide)

theorem State.acqFlush_writes (k t : Nat) : ∀ e ∈ ((s.acqFlush t).acq k).writes, e ∈ (s.acq k).writes := by
  have hacqs (n : Nat) : (s.acqFlush t).acqs = (s.setAcq t { s.acq t with writes := (s.acq t).writes.drop ((s.acq t).writes.takeWhile fun e => !s.regionTaken (e.1 / 3145728) false).length }).acqs :=
    foldl_keeps (get := State.acqs) (fun u e _ => u.capPut_acqs e.1 e.2) _
  rw [State.acq, hacqs 0, ← State.acq]
  by_cases h : k = t
  · rw [h, State.setAcq_acq_same]
    exact fun e he => List.mem_of_mem_drop he
  · rw [State.setAcq_acq_ne _ _ h]
    exact fun e he => he

theorem State.acqFlush_keeps {t a : Nat} (h : ∀ e ∈ (s.acq t).writes, a < e.1 ∨ e.1 + e.2.length ≤ a) : (s.acqFlush t).capByte a = s.capByte a :=
  foldl_keeps (get := fun u => State.capByte u a) (fun u _ he => u.capPut_keeps (h _ ((List.takeWhile_prefix _).subset he))) _

/-- Waiting writes that do not reach a byte leave it. -/
theorem State.acqFlushes_keep {a : Nat} (h : s.acqApart a) : (s.each (List.range 16) State.acqFlush).capByte a = s.capByte a := by
  refine (foldl_invariant (P := fun u : State => u.capByte a = s.capByte a ∧ u.acqApart a) (fun u k hk hu => ⟨?_, ?_⟩) ⟨rfl, h⟩).1
  · exact (u.acqFlush_keeps (hu.2 k (List.mem_range.1 hk))).trans hu.1
  · exact fun j hj e he => hu.2 j hj e (u.acqFlush_writes j k e he)

theorem State.acqFlushes_blur : (s.each (List.range 16) State.acqFlush).blur 0x12000600000000000000040000e0003a0 = s.blur 0x12000600000000000000040000e0003a0 :=
  foldl_keeps (get := fun u : State => u.blur 0x12000600000000000000040000e0003a0) (fun u k _ => u.acqFlush_blur k (Nat.and_self _)) s

/-- The bytes of a record as they are written, with the quality of the moment. -/
def State.recordBytes (s : State) (b : List Nat) : List Nat := b.take 24 ++ [b.getD 24 0 / 4 * 4 + s.quality] ++ b.drop 25

theorem State.quality_lt : s.quality < 4 := by
  unfold State.quality
  split
  · decide
  split
  · decide
  split <;> decide

theorem State.recordBytes_length {b : List Nat} (h : b.length = 32) : (s.recordBytes b).length = 32 := by simp [State.recordBytes, h]

theorem State.recordBytes_byte {b : List Nat} (h : b.length = 32) (hb : ∀ x ∈ b, x < 256) {j : Nat} (hj : j < 32) :
    (s.recordBytes b).getD j 0 % 256 = if j = 24 then b.getD 24 0 / 4 * 4 + s.quality else b.getD j 0 := by
  have hlt {i : Nat} (hi : i < 32) : b.getD i 0 < 256 := by
    rw [List.getD_eq_getElem _ _ (by omega)]
    exact hb _ (List.getElem_mem _)
  have hq := s.quality_lt
  have h24 := hlt (i := 24) (by decide)
  have hbyte : (s.recordBytes b).getD j 0 = if j = 24 then b.getD 24 0 / 4 * 4 + s.quality else b.getD j 0 := by
    have hj' : b.getD j 0 = b[j] := List.getD_eq_getElem _ _ (by omega)
    rw [State.recordBytes, List.getD_eq_getElem _ _ (by simp [h, hj])]
    obtain hlt | rfl | hgt := Nat.lt_trichotomy j 24
    · rw [if_neg (by omega), List.getElem_append_left (by simp [h]; omega), List.getElem_append_left (by simp [h]; omega), List.getElem_take, hj']
    · rw [if_pos rfl, List.getElem_append_left (by simp [h]), List.getElem_append_right (by simp [h])]
      simp [h]
    · rw [if_neg (by omega), List.getElem_append_right (by simp [h]; omega), List.getElem_drop, hj']
      exact getElem_congr_idx (by simp [h]; omega)
  rw [hbyte]
  split
  · omega
  · exact Nat.mod_eq_of_lt (hlt hj)

/-- A write of whole words at the start of a word is taken whatever the check bits of the words. -/
theorem State.capPut_puts {addr a : Nat} {bytes : List Nat} (h8 : addr % 8 = 0) (hl : bytes.length % 8 = 0) (h1 : addr ≤ a) (h2 : a < addr + bytes.length) :
    (s.capPut addr bytes).capByte a = bytes.getD (a - addr) 0 % 256 := by
  refine s.capMerges_puts (fun e he => he) (fun e he _ => ?_) h1 h2 ⟨(a / 8, byteWord addr bytes (a / 8)), mem_byteWords.2 ⟨⟨by dsimp only; omega, by dsimp only; omega, ?_⟩, rfl⟩, rfl⟩
  · obtain ⟨⟨hlo, hhi, -⟩, hw⟩ := mem_byteWords.1 he
    rw [hw, List.all_eq_true]
    intro o ho
    obtain ⟨j, hj, rfl⟩ := List.mem_map.1 ho
    have hj := List.mem_range.1 hj
    rw [if_neg (by omega), List.getElem?_eq_getElem (by omega)]
    rfl
  · rintro rfl
    rw [List.length_nil] at h2
    omega

/-- Where in the capture store the next record goes. -/
def State.recordAt (s : State) (t : Nat) : Nat := s.rd R.CMP_LOG_AREA.BASE t * 65536 + 32 * s.rd R.CMP_LOG_STATUS.WPTR t

theorem State.recordAt_aligned (t : Nat) : s.recordAt t % 32 = 0 := by
  rw [State.recordAt]
  omega

/-- The state after the oldest record is written, before the waiting writes. -/
def State.recordPut (s : State) (t : Nat) (b : List Nat) (rest : List (List Nat)) : State :=
  ((s.setPlay t { s.play t with log := rest }).capPut (s.recordAt t) (s.recordBytes b)).wr R.CMP_LOG_STATUS.WPTR t (s.rd R.CMP_LOG_STATUS.WPTR t + 1)

section
variable {t : Fin 16} {b : List Nat} {rest : List (List Nat)} (hl : (s.play t.val).log = b :: rest)
include hl

theorem exec_failLogWrite : execFailLogWrite t s = .next (s.commit (((s.withOut []).recordPut t.val b rest).each (List.range 16) State.acqFlush)) := by
  refine done_is s ?_
  dsimp only
  rw [show ((s.withOut []).play t.val).log = b :: rest from hl]
  rfl

end

theorem State.recordPut_log (t : Nat) (b : List Nat) (rest : List (List Nat)) : ((s.recordPut t b rest).play t).log = rest := by
  rw [State.recordPut, State.wr_play, State.play, State.plays_of_blur (State.capPut_blur (s.setPlay t { s.play t with log := rest }) _ _ (Nat.and_self _)) (by decide), ← State.play, State.setPlay_play_same]

theorem State.recordPut_byte {t a : Nat} {b : List Nat} {rest : List (List Nat)} (h : b.length = 32) (hb : ∀ x ∈ b, x < 256) : (s.recordPut t b rest).capByte a =
    if s.recordAt t ≤ a ∧ a < s.recordAt t + 32 then
      (if a % 32 = 24 then b.getD 24 0 / 4 * 4 + s.quality else b.getD (a % 32) 0) else s.capByte a := by
  have hlen := s.recordBytes_length h
  have h32 := s.recordAt_aligned t
  rw [State.recordPut]
  generalize s.recordAt t = p at h32 ⊢
  change ((s.setPlay t { s.play t with log := rest }).capPut p (s.recordBytes b)).capByte a = _
  split
  case isTrue hin =>
    rw [State.capPut_puts _ (by omega) (by omega) hin.1 (by omega), s.recordBytes_byte h hb (by omega), show a - p = a % 32 by omega]
  case isFalse hout =>
    rw [State.capPut_keeps _ (by omega)]
    rfl

theorem failLogWrite_writes {t : Fin 16} {b : List Nat} {rest : List (List Nat)} {a : Nat} (hl : (s.play t.val).log = b :: rest) (h : b.length = 32) (hb : ∀ x ∈ b, x < 256) (ha : s.acqApart a) :
    ∃ u, execFailLogWrite t s = .next u ∧ (u.play t.val).log = rest ∧ u.rd R.CMP_LOG_STATUS.WPTR t.val = (s.rd R.CMP_LOG_STATUS.WPTR t.val + 1) % 2 ^ R.CMP_LOG_STATUS.WPTR.width ∧
      u.capByte a = if s.rd R.CMP_LOG_AREA.BASE t.val * 65536 + 32 * s.rd R.CMP_LOG_STATUS.WPTR t.val ≤ a ∧ a < s.rd R.CMP_LOG_AREA.BASE t.val * 65536 + 32 * s.rd R.CMP_LOG_STATUS.WPTR t.val + 32 then
        (if a % 32 = 24 then b.getD 24 0 / 4 * 4 + s.quality else b.getD (a % 32) 0) else s.capByte a := by
  have hblur := ((s.withOut []).recordPut t.val b rest).acqFlushes_blur
  have happ : ((s.withOut []).recordPut t.val b rest).acqApart a := by
    intro k hk e he
    refine ha k hk e ?_
    rw [State.acq, State.recordPut, State.wr_acqs, State.capPut_acqs] at he
    exact he
  refine ⟨_, exec_failLogWrite s hl, ?_, ?_, ?_⟩
  · rw [State.commit_play, State.play, State.plays_of_blur hblur (by decide), ← State.play, State.recordPut_log]
  · rw [State.commit_rd, State.rd_of_blur hblur R.CMP_LOG_STATUS.WPTR t.val (by decide), State.recordPut, State.wr_rd_same]
    rfl
  · rw [show ∀ u, (s.commit u).capByte a = u.capByte a from fun _ => rfl, State.acqFlushes_keep _ happ, (s.withOut []).recordPut_byte h hb]
    rfl

end Sys2Proof.Machine

open Sys2Proof Sys2Proof.Machine

/-- Settles O31: a write of the log's control by what it asks and whether the area is held, a record by whether the log is armed, buffers and has room, and the capture store byte by byte. -/
theorem failLog : Obligations.FailLog := by
  refine ⟨fun s _ _ _ hw hp ha => logArm_arms s hw hp ha, fun s _ _ _ hw hp ha => logArm_refuses s hw hp ha, fun s _ _ _ hw ha => logDisarm_drops s hw ha,
    fun s _ _ _ hw ha hok => logAreaWrite_takes s hw ha hok, fun _ _ _ hx ht hw hn => failRecordForm_none hx ht hw hn, fun _ _ _ _ hx ht hw he ha hl hs => failRecordForm_buffers hx ht hw he ha hl hs,
    fun _ _ _ _ hx ht hw he ha hl hs => failRecordForm_fills hx ht hw he ha hl hs, fun _ _ _ _ hx ht hw he ha hl => failRecordForm_loses hx ht hw he ha hl,
    fun _ _ _ _ hx ht hw he ha => failRecordForm_disarmed hx ht hw he ha, fun s _ _ _ _ hl h hb ha => failLogWrite_writes s hl h hb ha⟩
end
section
/-! SUPPORT. The time-interval counters (R355 to R367), and O45. -/

namespace Sys2Proof.Machine

variable (s : State)

/-! Rounding -/

/-- A quotient rounded to nearest lies within half a divisor of its dividend. -/
theorem divEven_near (a : Nat) {b : Nat} (hb : 0 < b) : 2 * ((divEven a b).toNat * b) ≤ 2 * a + b ∧ 2 * a ≤ 2 * ((divEven a b).toNat * b) + b := by
  have hdiv := Nat.div_add_mod' a b
  have hlt := Nat.mod_lt a hb
  unfold divEven
  dsimp only
  rw [show ((a : Int) / b) = ((a / b : Nat) : Int) from rfl, show ((a : Int) % b) = ((a % b : Nat) : Int) from rfl]
  generalize a / b = q at hdiv ⊢
  generalize a % b = r at hdiv hlt ⊢
  have hup : ((q : Int) + 1).toNat = q + 1 := by omega
  have hmul : (q + 1) * b = q * b + b := by rw [Nat.add_mul, Nat.one_mul]
  split
  · rw [Int.toNat_natCast]
    omega
  split
  · rw [hup, hmul]
    omega
  split
  · rw [Int.toNat_natCast]
    omega
  · rw [hup, hmul]
    omega

/-! Arming and disarming (R360) -/

/-- A TDC armed for a measurement that has not begun. -/
def State.tdcReady (s : State) (i : Nat) : State := ((s.setTdc i { s.tdc i with start := none, edges := 0, fresh := true, early := none }).wr R.TDC_CTL.ARMED i 1).wr R.TDC_CTL.STARTED i 0

section
variable {i : Nat}

theorem State.tdcArm_ready (h : s.tdcGone i = false) : s.tdcArm i = (s.calTouch 2 (s.tdcPhys i)).tdcReady i := if_neg (ne_true_of_eq_false h)

theorem State.calTouch_tdc (kind u k : Nat) : (s.calTouch kind u).tdc k = s.tdc k := congrArg (smGet _ · k) (State.tdcs_of_blur (s.calTouch_blur kind u (Nat.and_self _)) (by decide))

/-- What an arm leaves of a TDC. -/
theorem State.tdcArm_arms (h : s.tdcGone i = false) :
    (s.tdcArm i).rd R.TDC_CTL.ARMED i = 1 ∧ (s.tdcArm i).rd R.TDC_CTL.STARTED i = 0 ∧ ((s.tdcArm i).tdc i).start = none ∧ ((s.tdcArm i).tdc i).fifo = (s.tdc i).fifo := by
  rw [s.tdcArm_ready h, State.tdcReady, State.wr_tdc, State.wr_tdc, State.setTdc_tdc_same, State.calTouch_tdc]
  exact ⟨(State.wr_rd_key _ _ (by decide)).trans (State.wr_rd_fits _ (by decide)), State.wr_rd_fits _ (by decide), rfl, rfl⟩

/-- What a disarm leaves of a TDC. -/
theorem State.tdcDisarm_disarms : (s.tdcDisarm i).rd R.TDC_CTL.ARMED i = 0 ∧ (s.tdcDisarm i).rd R.TDC_CTL.STARTED i = 0 ∧ ((s.tdcDisarm i).tdc i).start = none ∧
    ((s.tdcDisarm i).tdc i).fifo = (s.tdc i).fifo := by
  rw [State.tdcDisarm, State.wr_tdc, State.wr_tdc, State.setTdc_tdc_same]
  exact ⟨(State.wr_rd_key _ _ (by decide)).trans (State.wr_rd_fits _ (by decide)), State.wr_rd_fits _ (by decide), rfl, rfl⟩

theorem State.tdcDisarm_gone (j : Nat) : (s.tdcDisarm i).tdcGone j = s.tdcGone j := by
  have hphys : (s.tdcDisarm i).tdcPhys j = s.tdcPhys j := by
    have hrd (f : Fld) (k : Nat) (hf : f.key % 1024 ≠ R.TDC_CTL.STARTED.key ∧ f.key % 1024 ≠ R.TDC_CTL.ARMED.key) : (s.tdcDisarm i).rd f k = s.rd f k :=
      (State.wr_rd_key _ _ hf.1).trans (State.wr_rd_key _ _ hf.2)
    unfold State.tdcPhys State.fl
    simp only [hrd R.TDC_SPARE_STATUS.ASSIGNED _ (by decide), hrd R.TDC_SPARE_STATUS.REPLACED _ (by decide)]
  unfold State.tdcGone State.unavailable
  rw [hphys]
  rfl

end

section
variable {rq : Req} {i w : Nat}

theorem tdcCtlHook_barred (hw : R.TDC_CTL.ARM.acts w 15 = true) (h : s.tdcGone i = true) : tdcCtlHook rq i w 15 s = (s, true) := if_pos (by rw [hw, h]; rfl)

theorem tdcCtlHook_arms (hw : R.TDC_CTL.ARM.acts w 15 = true) (h : s.tdcGone i = false) :
    tdcCtlHook rq i w 15 s = ((s.when (R.TDC_CTL.DISARM.acts w 15) (·.tdcDisarm i)).tdcArm i, false) := by
  unfold tdcCtlHook
  rw [hw, h]
  rfl

theorem tdcCtlHook_disarms (hw : R.TDC_CTL.ARM.acts w 15 = false) (hd : R.TDC_CTL.DISARM.acts w 15 = true) : tdcCtlHook rq i w 15 s = (s.tdcDisarm i, false) := by
  unfold tdcCtlHook
  rw [hw, hd]
  rfl

theorem State.tdcDisarms_gone (c : Bool) : (s.when c (·.tdcDisarm i)).tdcGone i = s.tdcGone i := by
  cases c
  · rfl
  · exact s.tdcDisarm_gone i

theorem State.tdcDisarms_fifo (c : Bool) : ((s.when c (·.tdcDisarm i)).tdc i).fifo = (s.tdc i).fifo := by
  cases c
  · rfl
  · exact s.tdcDisarm_disarms.2.2.2

/-- A write of TDC_CTL with ARM, of a TDC that has a circuit. -/
theorem tdcCtlWrite_arms {i : Nat} (hw : s.canWrite rq .TDC_CTL i) (ha : R.TDC_CTL.ARM.acts w 15 = true) (h : s.tdcGone i = false) :
    ∃ u, writeRow rq .TDC_CTL i w tdcCtlHook s = .next u ∧ u.rd R.TDC_CTL.ARMED i = 1 ∧ u.rd R.TDC_CTL.STARTED i = 0 ∧ (u.tdc i).start = none ∧ (u.tdc i).fifo = (s.tdc i).fifo := by
  obtain ⟨harmed, hstarted, hstart, hfifo⟩ := ((s.withOut []).when (R.TDC_CTL.DISARM.acts w 15) (·.tdcDisarm i)).tdcArm_arms (i := i) (by rw [State.tdcDisarms_gone]; exact h)
  exact ⟨_, writeRow_shared s hw rfl (tdcCtlHook_arms (s.withOut []) ha h), harmed, hstarted, hstart, hfifo.trans (State.tdcDisarms_fifo _ _)⟩

end

section
variable {rq : Req} {i : Fin 68} {w : Word}

theorem tdcDisarm_disarms (hw : s.canWrite rq .TDC_CTL i.val) (ha : R.TDC_CTL.ARM.part w.toNat = 0) :
    ∃ u, execTdcDisarm rq i w s = .next u ∧ u.rd R.TDC_CTL.ARMED i.val = 0 ∧ u.rd R.TDC_CTL.STARTED i.val = 0 ∧ (u.tdc i.val).start = none ∧ (u.tdc i.val).fifo = (s.tdc i.val).fifo ∧ s.keeps u [.regs, .tdcs] := by
  have harm : R.TDC_CTL.ARM.acts (Nat.lor w.toNat 2) 15 = false := by
    rw [Fld.acts, Fld.part_lor_zero _ (by decide), ha]
    rfl
  obtain ⟨harmed, hstarted, hstart, hfifo⟩ := (s.withOut []).tdcDisarm_disarms (i := i.val)
  refine ⟨_, writeRow_shared s hw rfl (tdcCtlHook_disarms (s.withOut []) harm (Fld.acts_lor _ (by decide))), harmed, hstarted, hstart, hfifo, State.keeps_commit ?_⟩
  rw [State.tdcDisarm, State.keeps_wr _ _ _ (by decide), State.keeps_wr _ _ _ (by decide), State.keeps_setTdc _ _ (by decide), State.keeps_withOut]
  exact s.keeps_refl _

theorem tdcDisarm_arms (hw : s.canWrite rq .TDC_CTL i.val) (ha : R.TDC_CTL.ARM.part w.toNat = 1) (h : s.tdcGone i.val = false) :
    ∃ u, execTdcDisarm rq i w s = .next u ∧ u.rd R.TDC_CTL.ARMED i.val = 1 ∧ u.rd R.TDC_CTL.STARTED i.val = 0 ∧ (u.tdc i.val).start = none ∧ (u.tdc i.val).fifo = (s.tdc i.val).fifo := by
  refine tdcCtlWrite_arms s hw ?_ h
  rw [Fld.acts, Fld.part_lor_zero _ (by decide), ha]
  rfl

theorem tdcArm_barred {f : Fin 64} (hw : s.canWrite (.fn f) .TDC_CTL i.val) (h : s.tdcGone i.val = true) :
    ∃ u, execTdcArm (.fn f) i w s = .next u ∧ u.tdcs = s.tdcs ∧ u.rd R.HOST_REFUSE.COUNT f.val = min (s.rd R.HOST_REFUSE.COUNT f.val + 1) 65535 ∧ s.keeps u [.regs] ∧ s.keepsFields u refuseFields := by
  obtain ⟨u, e, hcount, hk, hf⟩ := writeRow_counts s (w := Nat.lor w.toNat 1) (h := tdcCtlHook) hw (by
    rw [s.copyOf_device rfl]
    exact tdcCtlHook_barred (s.withOut []) (Fld.acts_lor _ (by decide)) h)
  exact ⟨u, e, hk .tdcs (by decide), hcount, hk, hf⟩

end

/-! Results (R360 to R367) -/

section
variable (i value : Nat) (sub ov few : Bool) (count u : Nat)

/-- A result as it goes to its destination. -/
def State.tdcRes (s : State) : TdcRes :=
  ⟨value, b2n sub + 2 * b2n ((s.tdc i).unref || s.unreferenced) + 4 * b2n (s.tdcUncal i) + 8 * b2n ov + 16 * b2n few + 32 * s.rd R.TDC_CFG.MODE i, count, s.stampAfter u⟩

/-- A TDC whose measurement has ended and whose dead time has begun. -/
def State.tdcEnded (s : State) : State :=
  let u := (s.setTdc i { s.tdc i with start := none, edges := 0, unref := false, dead := true, fresh := false, early := none }).wr R.TDC_CTL.STARTED i 0
  u.when (!u.fl R.TDC_CFG.CONT i) (·.wr R.TDC_CTL.ARMED i 0)

/-- What a result may change beside its TDC: the contexts, their counts of dropped samples, and the acquisition units. -/
def tdcFurther : Nat := 0x70000000000000000000000000000000000000000000000000000000000000000000000000000000000000000000003000000

variable {i} (hd : s.persona (i / 16) = true ∨ s.rd R.TDC_CFG.DEST i = 0 ∨ s.rd R.TDC_CFG.DEST i = 2)

theorem State.tdcEnded_started : (s.tdcEnded i).rd R.TDC_CTL.STARTED i = 0 := by
  refine (State.when_rd_of _ (f := (·.wr R.TDC_CTL.ARMED i 0)) (State.wr_rd_key _ _ (by decide))).trans ?_
  exact State.wr_rd_fits _ (by decide)

theorem State.tdcEnded_rd {f : Fld} (j : Nat) (h : f.key % 1024 ≠ R.TDC_CTL.STARTED.key ∧ f.key % 1024 ≠ R.TDC_CTL.ARMED.key) : (s.tdcEnded i).rd f j = s.rd f j :=
  (State.when_rd_of _ (f := (·.wr R.TDC_CTL.ARMED i 0)) (State.wr_rd_key _ _ h.2)).trans (State.wr_rd_key _ _ h.1)

theorem State.tdcEnded_armed : (s.tdcEnded i).rd R.TDC_CTL.ARMED i = if s.fl R.TDC_CFG.CONT i then s.rd R.TDC_CTL.ARMED i else 0 := by
  have hcont : ((s.setTdc i { s.tdc i with start := none, edges := 0, unref := false, dead := true, fresh := false, early := none }).wr R.TDC_CTL.STARTED i 0).fl R.TDC_CFG.CONT i = s.fl R.TDC_CFG.CONT i :=
    State.wr_fl_key _ _ (by decide)
  unfold State.tdcEnded
  dsimp only
  rw [hcont]
  cases s.fl R.TDC_CFG.CONT i
  · exact State.wr_rd_fits _ (by decide)
  · exact State.wr_rd_key _ _ (by decide)

theorem State.tdcEnded_persona (q : Nat) : (s.tdcEnded i).persona q = s.persona q :=
  State.when_induction _ (P := fun u => u.persona q = s.persona q) _ _ rfl rfl

theorem State.tdcEnded_tdc : (s.tdcEnded i).tdc i = { s.tdc i with start := none, edges := 0, unref := false, dead := true, fresh := false, early := none } := by
  have h0 := s.setTdc_tdc_same i { s.tdc i with start := none, edges := 0, unref := false, dead := true, fresh := false, early := none }
  rw [State.tdcEnded]
  generalize ({ s.tdc i with start := none, edges := 0, unref := false, dead := true, fresh := false, early := none } : TdcSt) = x at h0 ⊢
  exact State.when_induction _ (P := fun u => u.tdc i = x) _ _ h0 h0

include hd in
/-- Beside contexts and acquisition, a result for the host does what its push does. -/
theorem State.tdcResult_pushes : (s.tdcResult i value sub ov few count u).blur tdcFurther = ((s.tdcEnded i).tdcPush i (s.tdcRes i value sub ov few count u)).blur tdcFurther := by
  have hdest : (decide ((if (s.tdcEnded i).persona (i / 16) then 0 else (s.tdcEnded i).rd R.TDC_CFG.DEST i) = 0) ||
      decide ((if (s.tdcEnded i).persona (i / 16) then 0 else (s.tdcEnded i).rd R.TDC_CFG.DEST i) = 2)) = true := by
    rw [State.tdcEnded_persona, State.tdcEnded_rd _ _ (by decide)]
    obtain h | h | h := hd
    · simp [h]
    · simp [h]
    · cases hp : s.persona (i / 16) <;> simp [h]
  unfold State.tdcResult
  dsimp only
  refine (State.acqTdc_blur _ _ _ _ (by decide)).trans ((State.blur_when _ _ _ ?_).trans ?_)
  · simp (disch := decide) only [State.blur_ite, ite_self, State.setCtx_blur, State.toContext_blur]
  · refine congrArg (State.blur tdcFurther) ((congrArg (fun c => State.when _ c _) hdest).trans ?_)
    exact State.when_true _ _

end

section
variable {i : Nat} (r : TdcRes)

theorem State.tdcEnded_fifo : ((s.tdcEnded i).tdc i).fifo = (s.tdc i).fifo := by rw [State.tdcEnded_tdc]

theorem State.tdcEnded_cont : (s.tdcEnded i).fl R.TDC_CFG.CONT i = s.fl R.TDC_CFG.CONT i := congrArg (· != 0) (s.tdcEnded_rd i (by decide))

/-- A TDC with a result put into its FIFO. -/
def State.tdcKept (s : State) (i : Nat) (r : TdcRes) : State := (s.setTdc i { s.tdc i with fifo := (s.tdc i).fifo ++ [r] }).wr R.TDC_CTL.FIFO_COUNT i ((s.tdc i).fifo.length + 1)

theorem State.tdcPush_room (h : (s.tdc i).fifo.length < 16) : s.tdcPush i r = (s.tdcKept i r).when (!s.fl R.TDC_CFG.CONT i) (·.raise (896 + i)) := by
  have hcont : (s.tdcKept i r).fl R.TDC_CFG.CONT i = s.fl R.TDC_CFG.CONT i := State.wr_fl_key _ _ (by decide)
  unfold State.tdcPush
  dsimp only
  rw [if_pos h, ← hcont]
  rfl

theorem State.tdcPush_full (h : 16 ≤ (s.tdc i).fifo.length) : s.tdcPush i r = (s.bump R.TDC_COUNT.LOST i 1).when (s.rd R.TDC_COUNT.LOST i = 0) (·.raise (896 + i)) := if_neg (Nat.not_lt.2 h)

theorem State.tdcKept_tdc : (s.tdcKept i r).tdc i = { s.tdc i with fifo := (s.tdc i).fifo ++ [r] } := State.setTdc_tdc_same _ _ _

theorem State.tdcKept_rd {f : Fld} (j : Nat) (h : f.key % 1024 ≠ R.TDC_CTL.FIFO_COUNT.key) : (s.tdcKept i r).rd f j = s.rd f j := State.wr_rd_key _ _ h

/-- The state t that a result of TDC i leaves when its FIFO takes it. -/
structure State.tdcTook (s t : State) (i : Nat) (r : TdcRes) : Prop where
  fifo : (t.tdc i).fifo = (s.tdc i).fifo ++ [r]
  count : t.rd R.TDC_CTL.FIFO_COUNT i = (s.tdc i).fifo.length + 1
  dead : (t.tdc i).dead = true
  start : (t.tdc i).start = none
  started : t.rd R.TDC_CTL.STARTED i = 0
  once : s.fl R.TDC_CFG.CONT i = false → t.rd R.TDC_CTL.ARMED i = 0 ∧ (896 + i, 0) ∈ t.hub.asserted
  again : s.fl R.TDC_CFG.CONT i = true → t.rd R.TDC_CTL.ARMED i = s.rd R.TDC_CTL.ARMED i

/-- A push into a FIFO with room after the end of a measurement. -/
theorem State.tdcTook_push (h : (s.tdc i).fifo.length < 16) : s.tdcTook ((s.tdcEnded i).tdcPush i r) i r := by
  have hroom : ((s.tdcEnded i).tdc i).fifo.length < 16 := by rwa [State.tdcEnded_fifo]
  rw [State.tdcPush_room _ r hroom, State.tdcEnded_cont]
  have htdc : (((s.tdcEnded i).tdcKept i r).when (!s.fl R.TDC_CFG.CONT i) (·.raise (896 + i))).tdc i = { (s.tdcEnded i).tdc i with fifo := ((s.tdcEnded i).tdc i).fifo ++ [r] } :=
    State.when_induction _ (P := fun u => u.tdc i = _) _ _ (State.tdcKept_tdc _ _) (State.tdcKept_tdc _ _)
  have hrd (f : Fld) (j : Nat) : (((s.tdcEnded i).tdcKept i r).when (!s.fl R.TDC_CFG.CONT i) (·.raise (896 + i))).rd f j = ((s.tdcEnded i).tdcKept i r).rd f j :=
    State.when_rd_of _ (f := (·.raise (896 + i))) (State.raise_rd _ _ _ _)
  refine ⟨?_, ?_, ?_, ?_, ?_, fun hc => ⟨?_, ?_⟩, fun hc => ?_⟩
  · rw [htdc, State.tdcEnded_fifo]
  · rw [hrd, State.tdcKept, State.tdcEnded_fifo]
    exact State.wr_rd_fits _ (show _ < 2 ^ 5 by omega)
  · rw [htdc, State.tdcEnded_tdc]
  · rw [htdc, State.tdcEnded_tdc]
  · rw [hrd, State.tdcKept_rd _ _ _ (by decide), State.tdcEnded_started]
  · rw [hrd, State.tdcKept_rd _ _ _ (by decide), State.tdcEnded_armed, hc]
    rfl
  · rw [hc]
    exact List.mem_append_right _ (List.mem_singleton.2 rfl)
  · rw [hrd, State.tdcKept_rd _ _ _ (by decide), State.tdcEnded_armed, hc]
    rfl

/-- The state t that a result of TDC i leaves when its FIFO is full. -/
structure State.tdcLost (s t : State) (i : Nat) : Prop where
  fifo : (t.tdc i).fifo = (s.tdc i).fifo
  lost : t.rd R.TDC_COUNT.LOST i = min (s.rd R.TDC_COUNT.LOST i + 1) (2 ^ R.TDC_COUNT.LOST.width - 1)
  dead : (t.tdc i).dead = true
  start : (t.tdc i).start = none
  started : t.rd R.TDC_CTL.STARTED i = 0

theorem State.tdcLost_push (h : 16 ≤ (s.tdc i).fifo.length) : s.tdcLost ((s.tdcEnded i).tdcPush i r) i := by
  rw [State.tdcPush_full _ r (by rwa [State.tdcEnded_fifo])]
  have htdc (c : Bool) : (((s.tdcEnded i).bump R.TDC_COUNT.LOST i 1).when c (·.raise (896 + i))).tdc i = (s.tdcEnded i).tdc i :=
    State.when_induction _ (P := fun u => u.tdc i = _) _ _ rfl rfl
  have hrd (c : Bool) (f : Fld) (j : Nat) : (((s.tdcEnded i).bump R.TDC_COUNT.LOST i 1).when c (·.raise (896 + i))).rd f j = ((s.tdcEnded i).bump R.TDC_COUNT.LOST i 1).rd f j :=
    State.when_rd_of _ (f := (·.raise (896 + i))) (State.raise_rd _ _ _ _)
  refine ⟨?_, ?_, ?_, ?_, ?_⟩
  · rw [htdc, State.tdcEnded_fifo]
  · rw [hrd, State.bump_rd_same, State.tdcEnded_rd _ _ (by decide)]
  · rw [htdc, State.tdcEnded_tdc]
  · rw [htdc, State.tdcEnded_tdc]
  · rw [hrd, State.bump_rd_key _ _ (by decide), State.tdcEnded_started]

variable {r} {t u : State} (h : t.blur tdcFurther = u.blur tdcFurther)
include h

theorem State.tdc_of_further (k : Nat) : t.tdc k = u.tdc k := congrArg (smGet _ · k) (State.tdcs_of_blur h (by decide))

theorem State.tdcTook_further (hu : s.tdcTook u i r) : s.tdcTook t i r := by
  have hhub := State.hub_of_blur h (by decide)
  have htdc := State.tdc_of_further h i
  have harmed := State.rd_of_blur h R.TDC_CTL.ARMED i (by decide)
  exact ⟨htdc ▸ hu.fifo, (State.rd_of_blur h _ i (by decide)).trans hu.count, htdc ▸ hu.dead, htdc ▸ hu.start, (State.rd_of_blur h _ i (by decide)).trans hu.started,
    fun hc => ⟨harmed.trans (hu.once hc).1, hhub ▸ (hu.once hc).2⟩, fun hc => harmed.trans (hu.again hc)⟩

theorem State.tdcLost_further (hu : s.tdcLost u i) : s.tdcLost t i := by
  have htdc := State.tdc_of_further h i
  exact ⟨htdc ▸ hu.fifo, (State.rd_of_blur h _ i (by decide)).trans hu.lost, htdc ▸ hu.dead, htdc ▸ hu.start, (State.rd_of_blur h _ i (by decide)).trans hu.started⟩

end

section
variable {i : Nat} (hd : s.persona (i / 16) = true ∨ s.rd R.TDC_CFG.DEST i = 0 ∨ s.rd R.TDC_CFG.DEST i = 2)
include hd

theorem State.tdcResult_took (h : (s.tdc i).fifo.length < 16) (v : Nat) (sub ov few : Bool) (c n : Nat) : s.tdcTook (s.tdcResult i v sub ov few c n) i (s.tdcRes i v sub ov few c n) :=
  s.tdcTook_further (s.tdcResult_pushes v sub ov few c n hd) (s.tdcTook_push _ h)

theorem State.tdcResult_lost (h : 16 ≤ (s.tdc i).fifo.length) (v : Nat) (sub ov few : Bool) (c n : Nat) : s.tdcLost (s.tdcResult i v sub ov few c n) i :=
  s.tdcLost_further (s.tdcResult_pushes v sub ov few c n hd) (s.tdcLost_push _ h)

end

/-- The result of an interval from bin st to bin. -/
def State.tdcSpan (s : State) (i st bin : Nat) : TdcRes :=
  ⟨min (bin - st) (2 ^ 44 - 1), b2n (bin - st = 0) + 2 * b2n ((s.tdc i).unref || s.unreferenced) + 4 * b2n (s.tdcUncal i) + 8 * b2n (2 ^ 44 ≤ bin - st) + 32 * s.rd R.TDC_CFG.MODE i, 1, s.stampAfter (binUnits bin)⟩

/-- An interval is a result of its length, cut to 2^44 - 1 bins with OVERRANGE. -/
theorem State.tdcStop_span (i st bin : Nat) : ∃ v sub ov, s.tdcStop i st bin = s.tdcResult i v sub ov false 1 (binUnits bin) ∧ s.tdcRes i v sub ov false 1 (binUnits bin) = s.tdcSpan i st bin := by
  have hzero : 16 * b2n false = 0 := rfl
  unfold State.tdcStop
  dsimp only
  by_cases h : 2 ^ 44 ≤ bin - st
  · refine ⟨_, _, _, if_pos h, ?_⟩
    rw [State.tdcRes, State.tdcSpan, decide_eq_true h, decide_eq_false (show ¬ bin - st = 0 by omega), Nat.min_eq_right (by omega), hzero, Nat.add_zero]
  · refine ⟨_, _, _, if_neg h, ?_⟩
    rw [State.tdcRes, State.tdcSpan, decide_eq_false h, Nat.min_eq_left (by omega), hzero, Nat.add_zero]

section
variable {i st bin : Nat} (hd : s.persona (i / 16) = true ∨ s.rd R.TDC_CFG.DEST i = 0 ∨ s.rd R.TDC_CFG.DEST i = 2)
include hd

theorem State.tdcStop_took (h : (s.tdc i).fifo.length < 16) : s.tdcTook (s.tdcStop i st bin) i (s.tdcSpan i st bin) := by
  obtain ⟨v, sub, ov, e, er⟩ := s.tdcStop_span i st bin
  rw [e, ← er]
  exact s.tdcResult_took hd h _ _ _ _ _ _

theorem State.tdcStop_lost (h : 16 ≤ (s.tdc i).fifo.length) : s.tdcLost (s.tdcStop i st bin) i := by
  obtain ⟨v, sub, ov, e, -⟩ := s.tdcStop_span i st bin
  rw [e]
  exact s.tdcResult_lost hd h _ _ _ _ _ _

end

/-! Edges (R357 to R362) -/

section
variable {i bin st : Nat}

/-- A TDC that a start edge has started. -/
def State.tdcBegun (s : State) (i bin : Nat) : State := (s.setTdc i { s.tdc i with start := some bin, edges := 0, unref := s.unreferenced, early := none }).wr R.TDC_CTL.STARTED i 1

/-- A TDC whose first stop edges come before a start. -/
def State.tdcEarly (s : State) (i bin : Nat) : State := (s.setTdc i { s.tdc i with early := some (bin, decide (s.rd R.TDC_COUNT.EARLY_STOP i < 255)) }).bump R.TDC_COUNT.EARLY_STOP i 1

/-- An edge of a FREQUENCY measurement counted. -/
def TdcSt.counted (x : TdcSt) (bin : Nat) : TdcSt := { x with first := if x.edges = 0 then bin else x.first, last := bin, edges := x.edges + 1 }

theorem State.tdcStartAt_off (h : s.tdcLive i = false) : s.tdcStartAt i bin = s := if_pos (by rw [h]; rfl)

theorem State.tdcStopAt_off (h : s.tdcLive i = false ∨ s.rd R.TDC_CFG.MODE i = 1) : s.tdcStopAt i bin = s := if_pos (by obtain h | h := h <;> simp [h])

section
variable (hlive : s.tdcLive i = true)
include hlive

theorem State.tdcStartAt_idle (hst : (s.tdc i).start = none) (he : (s.tdc i).early.all (fun e => s.rd R.TDC_CFG.MODE i ≠ 0 || e.1 ≠ bin) = true) : s.tdcStartAt i bin = s.tdcBegun i bin := by
  unfold State.tdcStartAt
  rw [hlive, if_neg (by decide)]
  dsimp only
  rw [hst]
  dsimp only
  cases hq : (s.tdc i).early with
  | none => rfl
  | some e =>
    rw [hq] at he
    refine if_neg ?_
    simpa [imp_iff_not_or] using he

theorem State.tdcStartAt_again (hst : (s.tdc i).start = some st) (hm : s.rd R.TDC_CFG.MODE i = 0) : s.tdcStartAt i bin = s.bump R.TDC_COUNT.RESTART i 1 := by
  unfold State.tdcStartAt
  rw [hlive, if_neg (by decide)]
  dsimp only
  rw [hst]
  exact if_pos hm

theorem State.tdcStartAt_period (hst : (s.tdc i).start = some st) (hm : s.rd R.TDC_CFG.MODE i = 1) : s.tdcStartAt i bin = s.tdcStop i st bin := by
  unfold State.tdcStartAt
  rw [hlive, if_neg (by decide)]
  dsimp only
  rw [hst, hm]
  rfl

theorem State.tdcStopAt_early (hst : (s.tdc i).start = none) (hm : s.rd R.TDC_CFG.MODE i = 0) : s.tdcStopAt i bin = s.tdcEarly i bin := by
  unfold State.tdcStopAt
  rw [hlive, if_neg (by simp [hm])]
  dsimp only
  rw [hst]
  dsimp only
  rw [if_pos hm, State.tdcEarly]
  dsimp only
  rw [hst]

omit hlive in
theorem State.tdcStopAt_idle (hst : (s.tdc i).start = none) (hm : s.rd R.TDC_CFG.MODE i ≠ 0) : s.tdcStopAt i bin = s := by
  unfold State.tdcStopAt
  split
  · rfl
  · dsimp only
    rw [hst]
    exact if_neg hm

theorem State.tdcStopAt_ends (hst : (s.tdc i).start = some st) (hm : s.rd R.TDC_CFG.MODE i = 0 ∨ s.rd R.TDC_CFG.MODE i = 2) : s.tdcStopAt i bin = s.tdcStop i st bin := by
  unfold State.tdcStopAt
  rw [hlive, if_neg (by obtain h | h := hm <;> simp [h])]
  dsimp only
  rw [hst]
  exact if_neg (by omega)

theorem State.tdcStopAt_counts (hst : (s.tdc i).start = some st) (hm : s.rd R.TDC_CFG.MODE i = 3) (he : (s.tdc i).edges ≠ 2 ^ 24 - 1) : s.tdcStopAt i bin = s.setTdc i ((s.tdc i).counted bin) := by
  unfold State.tdcStopAt
  rw [hlive, if_neg (by simp [hm])]
  dsimp only
  rw [hst]
  dsimp only
  rw [if_pos hm, if_neg (by omega), TdcSt.counted, hst]

end

end

section
variable {i : Fin 68} {bin st : Nat}

section
variable (hseen : s.edgeSeen i.val (s.rd R.TDC_CFG.START_SRC i.val) (s.fl R.TDC_CFG.START_EDGE i.val) = true)
include hseen

theorem exec_tdcStartEdge : execTdcStartEdge i bin s = .next (s.commit ((s.withOut []).tdcStartAt i.val bin)) := done_is s (if_pos hseen)

theorem tdcStartEdge_starts (hlive : s.tdcLive i.val = true) (hst : (s.tdc i.val).start = none) (he : (s.tdc i.val).early.all (fun e => s.rd R.TDC_CFG.MODE i.val ≠ 0 || e.1 ≠ bin) = true) :
    ∃ t, execTdcStartEdge i bin s = .next t ∧ (t.tdc i.val).start = some bin ∧ (t.tdc i.val).unref = s.unreferenced ∧ t.rd R.TDC_CTL.STARTED i.val = 1 ∧
      t.rd R.TDC_CTL.ARMED i.val = s.rd R.TDC_CTL.ARMED i.val ∧ s.keeps t [.regs, .tdcs] ∧ s.keepsRegs t [R.TDC_CTL.STARTED.slot i.val] := by
  have h := exec_tdcStartEdge s (bin := bin) hseen
  rw [State.tdcStartAt_idle (s.withOut []) (i := i.val) hlive hst he, State.tdcBegun] at h
  refine ⟨_, h, ?_, ?_, ?_, ?_, State.keeps_commit ?_, ?_⟩
  · rw [State.commit_tdc, State.wr_tdc, State.setTdc_tdc_same]
  · rw [State.commit_tdc, State.wr_tdc, State.setTdc_tdc_same]
    rfl
  · rw [State.commit_rd, State.wr_rd_fits _ (by decide)]
  · rw [State.commit_rd, State.wr_rd_key _ _ (by decide)]
    rfl
  · rw [State.keeps_wr _ _ _ (by decide), State.keeps_setTdc _ _ (by decide), State.keeps_withOut]
    exact s.keeps_refl _
  · rw [State.keepsRegs_commit, State.keepsRegs_wr _ _ _ (by simp)]
    exact fun _ _ _ => rfl

theorem tdcStartEdge_again (hlive : s.tdcLive i.val = true) (hst : (s.tdc i.val).start = some st) (hm : s.rd R.TDC_CFG.MODE i.val = 0) :
    ∃ t, execTdcStartEdge i bin s = .next t ∧ t.rd R.TDC_COUNT.RESTART i.val = min (s.rd R.TDC_COUNT.RESTART i.val + 1) (2 ^ R.TDC_COUNT.RESTART.width - 1) ∧
      (t.tdc i.val) = (s.tdc i.val) ∧ s.keeps t [.regs] := by
  have h := exec_tdcStartEdge s (bin := bin) hseen
  rw [State.tdcStartAt_again (s.withOut []) (i := i.val) hlive hst hm] at h
  refine ⟨_, h, ?_, rfl, State.keeps_commit ?_⟩
  · rw [State.commit_rd, State.bump_rd_same]
    rfl
  · rw [State.keeps_bump _ _ _ (by decide), State.keeps_withOut]
    exact s.keeps_refl _

end

theorem tdcStartEdge_off (h : s.edgeSeen i.val (s.rd R.TDC_CFG.START_SRC i.val) (s.fl R.TDC_CFG.START_EDGE i.val) = false ∨ s.tdcLive i.val = false) :
    ∃ t, execTdcStartEdge i bin s = .next t ∧ s.keeps t [] := by
  refine done_idle s ?_
  obtain h | h := h
  · exact if_neg (ne_true_of_eq_false h)
  · rw [State.tdcStartAt_off (s.withOut []) (i := i.val) h, ite_self]

theorem exec_tdcStopEdge (hseen : s.edgeSeen i.val (s.stopOf i.val).1 (s.stopOf i.val).2 = true) : execTdcStopEdge i bin s = .next (s.commit ((s.withOut []).tdcStopAt i.val bin)) :=
  done_is s (if_pos hseen)

theorem tdcStopEdge_off (h : s.edgeSeen i.val (s.stopOf i.val).1 (s.stopOf i.val).2 = false ∨ s.tdcLive i.val = false ∨ s.rd R.TDC_CFG.MODE i.val = 1 ∨ ((s.tdc i.val).start = none ∧ s.rd R.TDC_CFG.MODE i.val ≠ 0)) :
    ∃ t, execTdcStopEdge i bin s = .next t ∧ s.keeps t [] := by
  refine done_idle s ?_
  have hstop (h : s.tdcLive i.val = false ∨ s.rd R.TDC_CFG.MODE i.val = 1 ∨ ((s.tdc i.val).start = none ∧ s.rd R.TDC_CFG.MODE i.val ≠ 0)) : (s.withOut []).tdcStopAt i.val bin = s.withOut [] := by
    obtain h | h | ⟨hst, hm⟩ := h
    · exact State.tdcStopAt_off _ (.inl h)
    · exact State.tdcStopAt_off _ (.inr h)
    · exact State.tdcStopAt_idle (s.withOut []) hst hm
  obtain h | h := h
  · exact if_neg (ne_true_of_eq_false h)
  · rw [hstop h, ite_self]

section
variable (hlive : s.tdcLive i.val = true) (hseen : s.edgeSeen i.val (s.stopOf i.val).1 (s.stopOf i.val).2 = true)
include hlive hseen

theorem tdcStopEdge_early (hst : (s.tdc i.val).start = none) (hm : s.rd R.TDC_CFG.MODE i.val = 0) :
    ∃ t, execTdcStopEdge i bin s = .next t ∧ t.rd R.TDC_COUNT.EARLY_STOP i.val = min (s.rd R.TDC_COUNT.EARLY_STOP i.val + 1) (2 ^ R.TDC_COUNT.EARLY_STOP.width - 1) ∧ (t.tdc i.val).start = none ∧
      (t.tdc i.val).fifo = (s.tdc i.val).fifo ∧ s.keeps t [.regs, .tdcs] := by
  have h := exec_tdcStopEdge s (bin := bin) hseen
  rw [State.tdcStopAt_early (s.withOut []) (i := i.val) hlive hst hm, State.tdcEarly] at h
  refine ⟨_, h, ?_, ?_, ?_, State.keeps_commit ?_⟩
  · rw [State.commit_rd, State.bump_rd_same]
    rfl
  · rw [State.commit_tdc, State.bump_tdc, State.setTdc_tdc_same]
    exact hst
  · rw [State.commit_tdc, State.bump_tdc, State.setTdc_tdc_same]
    rfl
  · rw [State.keeps_bump _ _ _ (by decide), State.keeps_setTdc _ _ (by decide), State.keeps_withOut]
    exact s.keeps_refl _

theorem tdcStopEdge_counts (hst : (s.tdc i.val).start = some st) (hm : s.rd R.TDC_CFG.MODE i.val = 3) (he : (s.tdc i.val).edges ≠ 2 ^ 24 - 1) :
    ∃ t, execTdcStopEdge i bin s = .next t ∧ (t.tdc i.val).edges = (s.tdc i.val).edges + 1 ∧ (t.tdc i.val).last = bin ∧ (t.tdc i.val).first = (if (s.tdc i.val).edges = 0 then bin else (s.tdc i.val).first) ∧
      (t.tdc i.val).start = some st ∧ s.keeps t [.tdcs] := by
  have h := exec_tdcStopEdge s (bin := bin) hseen
  rw [State.tdcStopAt_counts (s.withOut []) (i := i.val) hlive hst hm he] at h
  have htdc : (s.commit ((s.withOut []).setTdc i.val ((s.tdc i.val).counted bin))).tdc i.val = (s.tdc i.val).counted bin := State.setTdc_tdc_same _ _ _
  refine ⟨_, h, congrArg TdcSt.edges htdc, congrArg TdcSt.last htdc, congrArg TdcSt.first htdc, (congrArg TdcSt.start htdc).trans hst, State.keeps_commit ?_⟩
  rw [State.keeps_setTdc _ _ (by decide), State.keeps_withOut]
  exact s.keeps_refl _

end

end

/-! Measurements that end (R358, R359, R362) -/

section
variable {i : Nat}

/-- The mean period of the edges of a gate, in 2^-8 bins. -/
def TdcSt.mean (x : TdcSt) : Nat := (divEven ((256 * (x.last - x.first) : Nat) : Int) (x.edges - 1)).toNat

theorem State.tdcClose_few (h : (s.tdc i).edges < 2) (u : Nat) : s.tdcClose i u = s.tdcResult i 0 false false true 0 u := if_pos h

theorem State.tdcClose_mean (h : 2 ≤ (s.tdc i).edges) (hlt : (s.tdc i).last - (s.tdc i).first < 2 ^ 36) (u : Nat) :
    s.tdcClose i u = s.tdcResult i (s.tdc i).mean false false false ((s.tdc i).edges - 1) u := by
  obtain ⟨hhi, -⟩ := divEven_near (256 * ((s.tdc i).last - (s.tdc i).first)) (b := (s.tdc i).edges - 1) (by omega)
  change 2 * ((s.tdc i).mean * ((s.tdc i).edges - 1)) ≤ _ at hhi
  have hfit : ¬ (s.tdc i).mean > 2 ^ 47 - 1 := by
    intro hbig
    have hmul := Nat.mul_le_mul_right ((s.tdc i).edges - 1) (show 2 ^ 47 ≤ (s.tdc i).mean by omega)
    omega
  unfold State.tdcClose
  rw [if_neg (by omega)]
  exact if_neg hfit

end

section
variable {i : Fin 68}

/-- An end of a measurement as its result. -/
theorem tdcGateClose_is (hlive : s.tdcLive i.val = true) {st : Nat} (hst : (s.tdc i.val).start = some st) (hm : s.rd R.TDC_CFG.MODE i.val = 3) :
    execTdcGateClose i s = .next (s.commit ((s.withOut []).tdcClose i.val 0)) :=
  done_is s (if_pos (by simp [show (s.withOut []).tdcLive i.val = true from hlive, hst, hm]))

theorem tdcOverrange_is (hlive : s.tdcLive i.val = true) {st : Nat} (hst : (s.tdc i.val).start = some st) (hm : s.rd R.TDC_CFG.MODE i.val ≠ 3) :
    execTdcOverrange i s = .next (s.commit ((s.withOut []).tdcResult i.val (2 ^ 44 - 1) false true false 1 0)) :=
  done_is s (if_pos (by simp [show (s.withOut []).tdcLive i.val = true from hlive, hst, hm]))

theorem tdcDeadTimeEnd_ends : ∃ t, execTdcDeadTimeEnd i s = .next t ∧ t.tdc i.val = { s.tdc i.val with dead := false } ∧ (∀ j, j ≠ i.val → t.tdc j = s.tdc j) ∧ s.keeps t [.tdcs] := by
  refine ⟨_, done_is s rfl, State.setTdc_tdc_same _ _ _, fun j hj => State.setTdc_tdc_ne _ _ hj, State.keeps_commit ?_⟩
  rw [State.keeps_setTdc _ _ (by decide), State.keeps_withOut]
  exact s.keeps_refl _

end

/-! The read of a result (R366) -/

/-- A result latched in the result registers. -/
def State.tdcShown (s : State) (i : Nat) (r : TdcRes) : State :=
  let s := (s.wr R.TDC_RES_LO.VALUE_LO i r.value).wr R.TDC_RES_HI.VALUE_HI i (r.value / 2 ^ 32)
  let s := (((s.wb R.TDC_RES_HI.SUB_BIN i (bitAt r.flags 0)).wb R.TDC_RES_HI.UNREFERENCED i (bitAt r.flags 1)).wb R.TDC_RES_HI.UNCAL i (bitAt r.flags 2)).wb R.TDC_RES_HI.OVERRANGE i (bitAt r.flags 3)
  let s := ((s.wb R.TDC_RES_HI.FEW_EDGES i (bitAt r.flags 4)).wr R.TDC_RES_HI.MODE i (r.flags / 32)).wr R.TDC_RES_HI.VALID i 1
  ((s.wr R.TDC_RES_COUNT.COUNT i r.count).wr R.TDC_RES_TIME_LO.TIME_LO i r.time).wr R.TDC_RES_TIME_HI.TIME_HI i (r.time / 2 ^ 32)

section
variable {i : Nat} {r : TdcRes} {l : List TdcRes}

theorem State.tdcRead_empty (h : (s.tdc i).fifo = []) : s.tdcRead i = (s.wr R.TDC_RES_HI.VALID i 0, 0) := by
  unfold State.tdcRead
  dsimp only
  rw [h]

theorem State.tdcRead_oldest (h : (s.tdc i).fifo = r :: l) :
    s.tdcRead i = (((s.setTdc i { s.tdc i with fifo := l }).wr R.TDC_CTL.FIFO_COUNT i l.length).tdcShown i r, r.value % 2 ^ 32) := by
  unfold State.tdcRead
  dsimp only
  rw [h]
  rfl

theorem State.tdcShown_tdc (k : Nat) : (s.tdcShown i r).tdc k = s.tdc k := by
  unfold State.tdcShown
  dsimp only
  simp only [State.wr_tdc, State.wb_tdc]

theorem State.tdcShown_valid : (s.tdcShown i r).rd R.TDC_RES_HI.VALID i = 1 := by
  unfold State.tdcShown
  dsimp only
  rw [State.wr_rd_key _ _ (by decide), State.wr_rd_key _ _ (by decide), State.wr_rd_key _ _ (by decide), State.wr_rd_fits _ (by decide)]

theorem State.tdcShown_high : (s.tdcShown i r).rd R.TDC_RES_HI.VALUE_HI i = r.value / 2 ^ 32 % 2 ^ R.TDC_RES_HI.VALUE_HI.width := by
  unfold State.tdcShown
  dsimp only
  rw [State.wr_rd_key _ _ (by decide), State.wr_rd_key _ _ (by decide), State.wr_rd_key _ _ (by decide), State.wr_rd_key _ _ (by decide), State.wr_rd_key _ _ (by decide), State.wb_rd_key _ _ (by decide),
    State.wb_rd_key _ _ (by decide), State.wb_rd_key _ _ (by decide), State.wb_rd_key _ _ (by decide), State.wb_rd_key _ _ (by decide), State.wr_rd_same]

theorem State.tdcShown_count : (s.tdcShown i r).rd R.TDC_RES_COUNT.COUNT i = r.count % 2 ^ R.TDC_RES_COUNT.COUNT.width := by
  unfold State.tdcShown
  dsimp only
  rw [State.wr_rd_key _ _ (by decide), State.wr_rd_key _ _ (by decide), State.wr_rd_same]

theorem State.tdcShown_time : (s.tdcShown i r).rd R.TDC_RES_TIME_LO.TIME_LO i = r.time % 2 ^ 32 := by
  unfold State.tdcShown
  dsimp only
  rw [State.wr_rd_key _ _ (by decide), State.wr_rd_same]
  rfl

end

section
variable {rq : Req} {i : Fin 68} (hre : s.reachable rq = true) (hm : s.mayRead rq .TDC_RES_LO i.val = true)
include hre hm

theorem exec_tdcResRead {u : State} {v : Nat} (h : (s.withOut []).tdcRead i.val = (u, v)) : execTdcResRead rq i s = .next (s.commit (u.send (.word v))) := by
  unfold execTdcResRead readRow
  refine done_is s ?_
  rw [show (s.withOut []).reachable rq = true from hre, show (s.withOut []).mayRead rq .TDC_RES_LO i.val = true from hm, (s.withOut []).copyOf_device rfl]
  dsimp only
  rw [h]
  rfl

theorem tdcResRead_empty (hf : (s.tdc i.val).fifo = []) : ∃ t, execTdcResRead rq i s = .next t ∧ t.out = [.word 0] ∧ t.rd R.TDC_RES_HI.VALID i.val = 0 ∧ t.tdcs = s.tdcs := by
  refine ⟨_, exec_tdcResRead s hre hm (State.tdcRead_empty (s.withOut []) hf), rfl, ?_, rfl⟩
  rw [State.commit_rd, State.send_rd, State.wr_rd_fits _ (by decide)]

theorem tdcResRead_oldest {r : TdcRes} {l : List TdcRes} (hf : (s.tdc i.val).fifo = r :: l) :
    ∃ t, execTdcResRead rq i s = .next t ∧ t.out = [.word (r.value % 2 ^ 32)] ∧ (t.tdc i.val).fifo = l ∧ t.rd R.TDC_RES_HI.VALID i.val = 1 ∧
      t.rd R.TDC_RES_HI.VALUE_HI i.val = r.value / 2 ^ 32 % 2 ^ R.TDC_RES_HI.VALUE_HI.width ∧ t.rd R.TDC_RES_COUNT.COUNT i.val = r.count % 2 ^ R.TDC_RES_COUNT.COUNT.width ∧
      t.rd R.TDC_RES_TIME_LO.TIME_LO i.val = r.time % 2 ^ 32 := by
  refine ⟨_, exec_tdcResRead s hre hm (State.tdcRead_oldest (s.withOut []) hf), rfl, ?_, ?_, ?_, ?_, ?_⟩
  · rw [State.commit_tdc, State.send_tdc, State.tdcShown_tdc, State.wr_tdc, State.setTdc_tdc_same]
  · rw [State.commit_rd, State.send_rd, State.tdcShown_valid]
  · rw [State.commit_rd, State.send_rd, State.tdcShown_high]
  · rw [State.commit_rd, State.send_rd, State.tdcShown_count]
  · rw [State.commit_rd, State.send_rd, State.tdcShown_time]

end

section
variable {i : Fin 68} {bin st : Nat} (hlive : s.tdcLive i.val = true) (hst : (s.tdc i.val).start = some st) (hd : s.persona (i.val / 16) = true ∨ s.rd R.TDC_CFG.DEST i.val = 0 ∨ s.rd R.TDC_CFG.DEST i.val = 2)
include hlive hst hd

theorem tdcStartEdge_measures (hseen : s.edgeSeen i.val (s.rd R.TDC_CFG.START_SRC i.val) (s.fl R.TDC_CFG.START_EDGE i.val) = true) (hm : s.rd R.TDC_CFG.MODE i.val = 1) (hl : (s.tdc i.val).fifo.length < 16) :
    ∃ t, execTdcStartEdge i bin s = .next t ∧ s.tdcTook t i.val (s.tdcSpan i.val st bin) := by
  have h := exec_tdcStartEdge s (bin := bin) hseen
  rw [State.tdcStartAt_period (s.withOut []) (i := i.val) hlive hst hm] at h
  obtain ⟨h1, h2, h3, h4, h5, h6, h7⟩ := (s.withOut []).tdcStop_took (i := i.val) (st := st) (bin := bin) hd hl
  exact ⟨_, h, h1, h2, h3, h4, h5, h6, h7⟩

section
variable (hseen : s.edgeSeen i.val (s.stopOf i.val).1 (s.stopOf i.val).2 = true) (hm : s.rd R.TDC_CFG.MODE i.val = 0 ∨ s.rd R.TDC_CFG.MODE i.val = 2)
include hseen hm

theorem tdcStopEdge_measures (hl : (s.tdc i.val).fifo.length < 16) : ∃ t, execTdcStopEdge i bin s = .next t ∧ s.tdcTook t i.val (s.tdcSpan i.val st bin) := by
  have h := exec_tdcStopEdge s (bin := bin) hseen
  rw [State.tdcStopAt_ends (s.withOut []) (i := i.val) hlive hst hm] at h
  obtain ⟨h1, h2, h3, h4, h5, h6, h7⟩ := (s.withOut []).tdcStop_took (i := i.val) (st := st) (bin := bin) hd hl
  exact ⟨_, h, h1, h2, h3, h4, h5, h6, h7⟩

theorem tdcStopEdge_loses (hl : 16 ≤ (s.tdc i.val).fifo.length) : ∃ t, execTdcStopEdge i bin s = .next t ∧ s.tdcLost t i.val := by
  have h := exec_tdcStopEdge s (bin := bin) hseen
  rw [State.tdcStopAt_ends (s.withOut []) (i := i.val) hlive hst hm] at h
  obtain ⟨h1, h2, h3, h4, h5⟩ := (s.withOut []).tdcStop_lost (i := i.val) (st := st) (bin := bin) hd hl
  exact ⟨_, h, h1, h2, h3, h4, h5⟩

end

section
variable (hl : (s.tdc i.val).fifo.length < 16)
include hl

theorem tdcGateClose_mean (hm : s.rd R.TDC_CFG.MODE i.val = 3) (he : 2 ≤ (s.tdc i.val).edges) (hlt : (s.tdc i.val).last - (s.tdc i.val).first < 2 ^ 36) :
    ∃ t, execTdcGateClose i s = .next t ∧ s.tdcTook t i.val (s.tdcRes i.val (s.tdc i.val).mean false false false ((s.tdc i.val).edges - 1) 0) := by
  have h := tdcGateClose_is s hlive hst hm
  rw [State.tdcClose_mean (s.withOut []) (i := i.val) he hlt] at h
  obtain ⟨h1, h2, h3, h4, h5, h6, h7⟩ := (s.withOut []).tdcResult_took (i := i.val) hd hl (s.tdc i.val).mean false false false ((s.tdc i.val).edges - 1) 0
  exact ⟨_, h, h1, h2, h3, h4, h5, h6, h7⟩

theorem tdcGateClose_few (hm : s.rd R.TDC_CFG.MODE i.val = 3) (he : (s.tdc i.val).edges < 2) :
    ∃ t, execTdcGateClose i s = .next t ∧ s.tdcTook t i.val (s.tdcRes i.val 0 false false true 0 0) := by
  have h := tdcGateClose_is s hlive hst hm
  rw [State.tdcClose_few (s.withOut []) (i := i.val) he] at h
  obtain ⟨h1, h2, h3, h4, h5, h6, h7⟩ := (s.withOut []).tdcResult_took (i := i.val) hd hl 0 false false true 0 0
  exact ⟨_, h, h1, h2, h3, h4, h5, h6, h7⟩

theorem tdcOverrange_takes (hm : s.rd R.TDC_CFG.MODE i.val ≠ 3) :
    ∃ t, execTdcOverrange i s = .next t ∧ s.tdcTook t i.val (s.tdcRes i.val (2 ^ 44 - 1) false true false 1 0) := by
  have h := tdcOverrange_is s hlive hst hm
  obtain ⟨h1, h2, h3, h4, h5, h6, h7⟩ := (s.withOut []).tdcResult_took (i := i.val) hd hl (2 ^ 44 - 1) false true false 1 0
  exact ⟨_, h, h1, h2, h3, h4, h5, h6, h7⟩

end

end

end Sys2Proof.Machine

open Sys2Proof Sys2Proof.Machine

/-- Settles O45: an edge by whether the TDC is live and started and by its mode, a result by whether its FIFO has room. -/
theorem timeIntervals : Obligations.TimeIntervals := by
  refine ⟨fun s _ _ _ hw h => tdcCtlWrite_arms s hw (Fld.acts_lor _ (by decide)) h, fun s _ _ _ hw h => tdcArm_barred s hw h, fun s _ _ _ hw ha => tdcDisarm_disarms s hw ha,
    fun s _ _ _ hw ha h => tdcDisarm_arms s hw ha h, fun s _ _ hlive hseen hst he => tdcStartEdge_starts s hseen hlive hst he, fun s _ _ h => tdcStartEdge_off s h,
    fun s _ _ _ hlive hseen hst hm => tdcStartEdge_again s hseen hlive hst hm, fun s i bin st hlive hseen hst hm hd hl => ?_, fun s _ _ hlive hseen hst hm => tdcStopEdge_early s hlive hseen hst hm,
    fun s i bin st hlive hseen hst hm hd hl => ?_, fun s i bin st hlive hseen hst hm hd hl => ?_, fun s _ _ h => tdcStopEdge_off s h,
    fun s _ _ _ hlive hseen hst hm he => tdcStopEdge_counts s hlive hseen hst hm he, fun s i st hlive hst hm he hle hlt hd hl => ?_, fun s i st hlive hst hm he hd hl => ?_,
    fun s i st hlive hst hm hd hl => ?_, fun s _ => tdcDeadTimeEnd_ends s, fun s _ _ _ _ hre hm hf => tdcResRead_oldest s hre hm hf, fun s _ _ hre hm hf => tdcResRead_empty s hre hm hf⟩
  · obtain ⟨t, h, hk⟩ := tdcStartEdge_measures s (bin := bin) hlive hst hd hseen hm hl
    exact ⟨t, h, hk.fifo, hk.dead, hk.start, hk.started, hk.once, hk.again⟩
  · obtain ⟨t, h, hk⟩ := tdcStopEdge_measures s (bin := bin) hlive hst hd hseen hm hl
    exact ⟨t, h, hk.fifo, hk.count, hk.dead, hk.start, hk.started, hk.once, hk.again⟩
  · obtain ⟨t, h, hk⟩ := tdcStopEdge_loses s (bin := bin) hlive hst hd hseen hm hl
    exact ⟨t, h, hk.fifo, hk.lost, hk.dead, hk.start, hk.started⟩
  · obtain ⟨t, h, hk⟩ := tdcGateClose_mean s hlive hst hd hl hm he hlt
    obtain ⟨hhi, hlo⟩ := divEven_near (256 * ((s.tdc i.val).last - (s.tdc i.val).first)) (b := (s.tdc i.val).edges - 1) (by omega)
    have hlast : (t.tdc i.val).fifo.getLastD ⟨0, 0, 0, 0⟩ = s.tdcRes i.val (s.tdc i.val).mean false false false ((s.tdc i.val).edges - 1) 0 := by rw [hk.fifo, List.getLastD_concat]
    refine ⟨t, h, ?_, ?_, ?_, ?_, hk.dead, hk.start, hk.started⟩
    · rw [hk.fifo, List.dropLast_concat]
    · rw [hlast]
      rfl
    · rw [hlast]
      exact hhi
    · rw [hlast]
      exact hlo
  · obtain ⟨t, h, hk⟩ := tdcGateClose_few s hlive hst hd hl hm he
    refine ⟨t, h, ?_, hk.dead, hk.start, hk.started⟩
    rw [hk.fifo, State.tdcRes, hm]
    simp [b2n]
  · obtain ⟨t, h, hk⟩ := tdcOverrange_takes s hlive hst hd hl hm
    refine ⟨t, h, ?_, hk.dead, hk.start, hk.started⟩
    rw [hk.fifo, State.tdcRes]
    simp [b2n]
end
section
/-! SUPPORT. Marks of units, spares and the repair map (R549 to R557), and O54. -/

namespace Sys2Proof.Machine

variable (s : State)

/-! The TDCs among the units -/

section
variable {i : Nat} (h : i < 64)
include h

theorem place_tdc : place 5 i = 20480 + i ∧ place 5 i % 65536 = place 5 i ∧ place 5 i / 65536 = 0 ∧ place 5 i % 4096 = i ∧ place 5 i / 4096 = 5 := by
  unfold place
  omega

theorem keyTested_tdc : keyTested (place 5 i) = true := by
  obtain ⟨-, hmod, hdiv, hlow, hkind⟩ := place_tdc h
  have hok : placeOk (place 5 i) = true := by
    unfold placeOk
    rw [hkind, hlow]
    exact decide_eq_true (by omega)
  unfold keyTested
  dsimp only
  rw [hmod, hdiv, hkind]
  simp [hok]

theorem placeOk_tdc : placeOk (place 5 i) = true := by
  obtain ⟨-, -, -, hlow, hkind⟩ := place_tdc h
  unfold placeOk
  rw [hkind, hlow]
  exact decide_eq_true (by omega)

theorem State.spareFor_tdc : s.spareFor (place 5 i) = [64, 65, 66, 67].find? fun k => s.fl R.TDC_SPARE_STATUS.AVAILABLE k && !s.fl R.TDC_SPARE_STATUS.ASSIGNED k := by
  obtain ⟨-, hmod, -, -, hkind⟩ := place_tdc h
  unfold State.spareFor
  dsimp only
  rw [hmod, hkind]
  rfl

/-- The spare for a TDC depends on the spares' own registers alone. -/
theorem State.spareFor_tdc_congr {u : State} (hu : ∀ k, u.rd R.TDC_SPARE_STATUS.AVAILABLE k = s.rd R.TDC_SPARE_STATUS.AVAILABLE k ∧ u.rd R.TDC_SPARE_STATUS.ASSIGNED k = s.rd R.TDC_SPARE_STATUS.ASSIGNED k) :
    u.spareFor (place 5 i) = s.spareFor (place 5 i) := by
  rw [State.spareFor_tdc _ h, State.spareFor_tdc _ h]
  simp only [State.fl, (hu _).1, (hu _).2]

theorem State.logical_tdc : s.logical (place 5 i) = i := by
  obtain ⟨-, hmod, -, hlow, hkind⟩ := place_tdc h
  unfold State.logical
  rw [hmod, hkind, hlow]
  exact if_pos (by simp [h])

end

/-! Waiting units settled (R550, R552) -/

/-- Where a spare stands ready for every waiting unit, only the reserve registers follow. -/
theorem State.settleWaiting_ready (h : ∀ w ∈ s.spare.waiting, (s.spareFor w.key).isSome = true) : s.settleWaiting = s.spareSync := by
  have hnone : (s.spare.waiting.filter fun w => (s.spareFor w.key).isNone) = [] := List.filter_eq_nil_iff.2 fun w hw => by
    obtain ⟨k, hk⟩ := Option.isSome_iff_exists.1 (h w hw)
    simp [hk]
  unfold State.settleWaiting
  rw [hnone]
  rfl

theorem State.spareSync_hub : s.spareSync.hub = s.hub := State.hub_of_blur (s.spareSync_blur (Nat.and_self _)) (by decide)

theorem State.unwait_rd (key : Nat) (f : Fld) (j : Nat) : (s.unwait key).rd f j = s.rd f j := rfl

theorem State.tdcDisarm_rd {f : Fld} {i : Nat} (j : Nat) (h : f.key % 1024 ≠ R.TDC_CTL.STARTED.key ∧ f.key % 1024 ≠ R.TDC_CTL.ARMED.key) : (s.tdcDisarm i).rd f j = s.rd f j :=
  (State.wr_rd_key _ _ h.1).trans (State.wr_rd_key _ _ h.2)

/-! A TDC is marked (R549, R550) -/

section
variable {i mark d1 d2 k : Nat}

/-- A TDC with its mark and the shard of it. -/
def State.tdcMarked (s : State) (i mark d1 d2 : Nat) : State := (s.setUnit (place 5 i) mark).marked (0x31 + mark) (place 5 i) 0 d1 d2

theorem State.tdcMarked_spare : (s.tdcMarked i mark d1 d2).spare = { s.spare with state := smSet 0 s.spare.state (place 5 i) mark } :=
  State.spare_of_blur (State.marked_blur (s.setUnit (place 5 i) mark) _ _ _ _ _ (Nat.and_self _)) (by decide)

theorem State.tdcMarked_unit : (s.tdcMarked i mark d1 d2).unitState (place 5 i) = mark := by
  rw [State.unitState, State.tdcMarked_spare]
  exact smGet_smSet_same _ _ _ _

theorem State.tdcMarked_asserted : (13, 0) ∈ (s.tdcMarked i mark d1 d2).hub.asserted := by
  rw [State.tdcMarked, State.marked, State.hub_of_blur (State.shard_blur ((s.setUnit (place 5 i) mark).raise 13) _ _ _ _ _ (Nat.and_self _)) (by decide)]
  exact List.mem_append_right _ (List.mem_singleton.2 rfl)

theorem State.tdcMarked_rd {f : Fld} (j : Nat) (hf : f.key % 1024 ≠ R.LOG_SEQ.SEQ.key ∧ f.key % 1024 ≠ R.LOG_LOST.LOST.key) : (s.tdcMarked i mark d1 d2).rd f j = s.rd f j := by
  change (State.shard ((s.setUnit (place 5 i) mark).raise 13) _ _ _ _ _).rd f j = s.rd f j
  unfold State.shard
  split
  · exact State.wr_rd_key _ _ hf.1
  · exact State.bump_rd_key _ _ hf.2

variable (h : i < 64)
include h

theorem State.markUnit_tdc (hc : s.unitState (place 5 i) < 2) (hm : s.unitState (place 5 i) ≠ mark) :
    s.markUnit (place 5 i) mark d1 d2 = ((s.tdcMarked i mark d1 d2).seekSpare (place 5 i) mark).settleWaiting := by
  obtain ⟨hkey, hmod, -, -, hkind⟩ := place_tdc h
  have hdrop (u : State) : (u.when (mark = 2) fun v => v.gangDrop (place 5 i)) = u :=
    State.when_induction u (P := fun v => v = u) _ _ rfl (if_pos (by rw [hmod, hkind]; rfl))
  unfold State.markUnit
  dsimp only
  rw [if_neg (by simp [hm]; omega), hdrop, hmod, if_neg (by simp; omega)]
  rfl

/-- The search of a spare for a TDC. -/
theorem State.seekSpare_tdc : s.seekSpare (place 5 i) mark = match s.spareFor (place 5 i) with
    | some _ => if s.spare.waiting.any fun w => w.key = place 5 i then
        { s with spare := { s.spare with waiting := s.spare.waiting.map fun w => if w.key = place 5 i then { w with mark := mark } else w } }
      else { s with spare := { s.spare with waiting := s.spare.waiting ++ [⟨place 5 i, 0, mark⟩] } }
    | none => if mark = 1 then s else s.loseUnit (place 5 i) := by
  obtain ⟨hkey, hmod, hdiv, hlow, hkind⟩ := place_tdc h
  have hown : keySpare (place 5 i) = false := by
    unfold keySpare
    rw [hmod, hkind, hlow]
    simp [pipeKey, h, show place 5 i ≠ 294912 by omega]
  have hlane : decide (place 5 i < 1024) = false := decide_eq_false (by omega)
  unfold State.seekSpare
  dsimp only
  rw [hmod, hkind, hdiv, hown, hlane]
  simp only [Bool.false_and, Bool.false_eq_true, if_false, show (5 = 1) = False by simp, decide_false, show ¬ place 5 i = 32768 by omega, show ¬ place 5 i < 1024 by omega] <;> cases s.spareFor (place 5 i) <;> rfl

section
variable (hwait : s.spare.waiting = [])
include hwait

theorem State.seekSpare_waits (hk : s.spareFor (place 5 i) = some k) : s.seekSpare (place 5 i) mark = { s with spare := { s.spare with waiting := [⟨place 5 i, 0, mark⟩] } } := by
  rw [State.seekSpare_tdc _ h, hk, hwait]
  rfl

/-- A marked TDC waits for the spare that stands ready. -/
theorem State.markUnit_waits (hc : s.unitState (place 5 i) < 2) (hm : s.unitState (place 5 i) ≠ mark) (hk : s.spareFor (place 5 i) = some k) :
    (s.markUnit (place 5 i) mark d1 d2).unitState (place 5 i) = mark ∧ (s.markUnit (place 5 i) mark d1 d2).spare.waiting = [⟨place 5 i, 0, mark⟩] ∧
      (s.markUnit (place 5 i) mark d1 d2).spare.selfTest = s.spare.selfTest ∧ (13, 0) ∈ (s.markUnit (place 5 i) mark d1 d2).hub.asserted := by
  have hfor : (s.tdcMarked i mark d1 d2).spareFor (place 5 i) = some k := by
    rw [s.spareFor_tdc_congr h fun k => ⟨s.tdcMarked_rd k (by decide), s.tdcMarked_rd k (by decide)⟩, hk]
  have hnil : (s.tdcMarked i mark d1 d2).spare.waiting = [] := by rw [State.tdcMarked_spare, hwait]
  rw [s.markUnit_tdc h hc hm, State.seekSpare_waits _ h hnil hfor, State.settleWaiting_ready]
  · rw [State.unitState, State.spareSync_spare, State.spareSync_hub]
    exact ⟨s.tdcMarked_unit, rfl, (congrArg SpareSt.selfTest s.tdcMarked_spare :), s.tdcMarked_asserted⟩
  · intro w hw
    obtain rfl := List.mem_singleton.1 hw
    exact Option.isSome_iff_exists.2 ⟨k, hfor⟩

theorem State.markUnit_worn (hc : s.unitState (place 5 i) = 0) (hk : s.spareFor (place 5 i) = none) :
    (s.markUnit (place 5 i) 1 d1 d2).unitState (place 5 i) = 1 ∧ (s.markUnit (place 5 i) 1 d1 d2).spare.waiting = [] ∧ (s.markUnit (place 5 i) 1 d1 d2).tdcs = s.tdcs := by
  have hfor : (s.tdcMarked i 1 d1 d2).spareFor (place 5 i) = none := by
    rw [s.spareFor_tdc_congr h fun k => ⟨s.tdcMarked_rd k (by decide), s.tdcMarked_rd k (by decide)⟩, hk]
  have hnil : (s.tdcMarked i 1 d1 d2).spare.waiting = [] := by rw [State.tdcMarked_spare, hwait]
  rw [s.markUnit_tdc h (by omega) (by omega), State.seekSpare_tdc _ h, hfor]
  dsimp only
  rw [if_pos rfl, State.settleWaiting_ready _ (by rw [hnil]; simp)]
  refine ⟨?_, ?_, ?_⟩
  · rw [State.unitState, State.spareSync_spare]
    exact s.tdcMarked_unit
  · rw [State.spareSync_spare, hnil]
  · rw [State.tdcs_of_blur ((s.tdcMarked i 1 d1 d2).spareSync_blur (Nat.and_self _)) (by decide), State.tdcMarked,
      State.tdcs_of_blur (State.marked_blur (s.setUnit (place 5 i) 1) _ _ _ _ _ (Nat.and_self _)) (by decide)]
    rfl

/-- What a TDC's loss leaves (R554). -/
def State.tdcGoneFor (s : State) (i : Nat) : State := ((s.makeUnavailable (place 5 i)).tdcDisarm i).unwait (place 5 i)

omit hwait in
theorem State.loseUnit_tdc (hu : s.unavailable (place 5 i) = false) : s.loseUnit (place 5 i) = s.tdcGoneFor i := by
  obtain ⟨-, hmod, -, hlow, hkind⟩ := place_tdc h
  have heff (u : State) : u.unavailEffect (place 5 i) = u.tdcDisarm i := by
    unfold State.unavailEffect
    dsimp only
    rw [hmod, hkind, hlow, State.logical_tdc _ h]
    exact if_pos h
  unfold State.loseUnit
  rw [hu, if_neg (by decide), heff]
  rfl

omit h hwait in
theorem State.makeUnavailable_spare {key : Nat} (hu : s.unavailable key = false) : (s.makeUnavailable key).spare = { s.spare with state := smSet 0 s.spare.state key 6 } := by
  unfold State.makeUnavailable
  rw [hu, if_neg (by decide)]
  dsimp only
  rw [State.spare_of_blur (State.shard_blur _ _ _ _ _ _ (Nat.and_self _)) (by decide), State.bump_spare, State.wr_spare, State.spare_of_blur (State.addRepair_blur _ _ _ _ _ _ (Nat.and_self _)) (by decide)]

omit h hwait in
theorem State.makeUnavailable_degraded {key : Nat} (hu : s.unavailable key = false) : (s.makeUnavailable key).rd R.DEV_STARTUP.DEGRADED 0 = 1 := by
  unfold State.makeUnavailable
  rw [hu, if_neg (by decide)]
  dsimp only
  rw [State.rd_of_blur (State.shard_blur _ _ _ _ _ _ (Nat.and_self _)) R.DEV_STARTUP.DEGRADED 0 (by decide), State.bump_rd_key _ _ (by decide), State.wr_rd_fits _ (by decide)]

/-- A failed TDC that no spare can take is lost. -/
theorem State.markUnit_lost (hc : s.unitState (place 5 i) < 2) (hk : s.spareFor (place 5 i) = none) :
    (s.markUnit (place 5 i) 2 d1 d2).unavailable (place 5 i) = true ∧ (s.markUnit (place 5 i) 2 d1 d2).spare.waiting = [] ∧ (s.markUnit (place 5 i) 2 d1 d2).rd R.TDC_CTL.ARMED i = 0 ∧
      (s.markUnit (place 5 i) 2 d1 d2).rd R.DEV_STARTUP.DEGRADED 0 = 1 := by
  have hfor : (s.tdcMarked i 2 d1 d2).spareFor (place 5 i) = none := by
    rw [s.spareFor_tdc_congr h fun k => ⟨s.tdcMarked_rd k (by decide), s.tdcMarked_rd k (by decide)⟩, hk]
  have hnil : (s.tdcMarked i 2 d1 d2).spare.waiting = [] := by rw [State.tdcMarked_spare, hwait]
  have hlost : (s.tdcMarked i 2 d1 d2).unavailable (place 5 i) = false := decide_eq_false (by
    rw [show smGet 0 (s.tdcMarked i 2 d1 d2).spare.state (place 5 i) = 2 from s.tdcMarked_unit]
    decide)
  rw [s.markUnit_tdc h hc (by omega), State.seekSpare_tdc _ h, hfor]
  dsimp only
  rw [if_neg (by decide), State.loseUnit_tdc _ h hlost]
  generalize s.tdcMarked i 2 d1 d2 = u at hnil hlost ⊢
  have hspare := u.makeUnavailable_spare hlost
  have hdeg := u.makeUnavailable_degraded hlost
  have hempty : (u.tdcGoneFor i).spare.waiting = [] := by
    change (u.makeUnavailable (place 5 i)).spare.waiting.filter _ = []
    rw [hspare]
    change u.spare.waiting.filter _ = []
    rw [hnil]
    rfl
  rw [State.settleWaiting_ready _ (by rw [hempty]; simp)]
  refine ⟨?_, ?_, ?_, ?_⟩
  · rw [State.unavailable, State.spareSync_spare]
    change decide (smGet 0 (u.makeUnavailable (place 5 i)).spare.state (place 5 i) = 6) = true
    rw [hspare]
    change decide (smGet 0 (smSet 0 u.spare.state (place 5 i) 6) (place 5 i) = 6) = true
    rw [smGet_smSet_same]
    rfl
  · rw [State.spareSync_spare, hempty]
  · rw [State.rd_of_blur ((u.tdcGoneFor i).spareSync_blur (Nat.and_self _)) R.TDC_CTL.ARMED i (by decide), State.tdcGoneFor, State.unwait_rd, (State.tdcDisarm_disarms _).1]
  · rw [State.rd_of_blur ((u.tdcGoneFor i).spareSync_blur (Nat.and_self _)) R.DEV_STARTUP.DEGRADED 0 (by decide), State.tdcGoneFor, State.unwait_rd, State.tdcDisarm_rd _ _ (by decide), hdeg]

end

end

/-! The command register (R555) -/

section
variable {rq : Req} {w : Nat}

/-- The place of a command in its register. -/
def State.sprPlaced (s : State) (w : Nat) : State := s.wr R.SPR_CMD.PLACE 0 (R.SPR_CMD.PLACE.part w)

/-- The same with the two free values of a mark's shard drawn. -/
def State.sprDrawn (s : State) (w : Nat) : State := { s.sprPlaced w with free := s.free + 2 }

/-- The unit of a place marked. -/
def State.sprMarked (s : State) (w op : Nat) : State :=
  match (s.sprDrawn w).markKey (R.SPR_CMD.PLACE.part w) with
  | some k => (s.sprDrawn w).markUnit k op (Config.freeValue 5 s.free) (Config.freeValue 5 (s.free + 1))
  | none => s.sprDrawn w

theorem State.sprPlaced_place : (s.sprPlaced w).rd R.SPR_CMD.PLACE 0 = R.SPR_CMD.PLACE.part w := (s.wr_rd_same _ _ _).trans (Fld.part_mod _ w)

theorem State.sprDrawn_rd {f : Fld} (j : Nat) (hf : f.key % 1024 ≠ R.SPR_CMD.PLACE.key) : (s.sprDrawn w).rd f j = s.rd f j := State.wr_rd_key _ _ hf

theorem sprCmdHook_busy (h : s.rd R.SPR_CMD.STATUS 0 = 1) : sprCmdHook rq 0 w 15 s = (s, true) := if_pos h

/-- The rule of SPR_CMD for a command that it takes. -/
theorem sprCmdHook_idle (h : s.rd R.SPR_CMD.STATUS 0 ≠ 1) {op : Nat} (hop : op < 4) : sprCmdHook rq 0 (putBits w 16 2 op) 15 s =
    if op = 0 then (s.sprPlaced w, false)
    else if op = 3 then
      if s.m.mode = .service && !s.m.startup && (R.SPR_CMD.PLACE.part w = 0x8000 || (R.SPR_CMD.PLACE.part w / 4096 = 3 && placeOk (R.SPR_CMD.PLACE.part w))) then
        (({ s.sprPlaced w with spare := { s.spare with selfTest := some (R.SPR_CMD.PLACE.part w) } }).wr R.SPR_CMD.STATUS 0 1, false)
      else ((s.sprPlaced w).wr R.SPR_CMD.STATUS 0 3, false)
    else if !placeOk (R.SPR_CMD.PLACE.part w) then ((s.sprPlaced w).wr R.SPR_CMD.STATUS 0 3, false)
    else ((s.sprMarked w op).wr R.SPR_CMD.STATUS 0 2, false) := by
  have hpl : R.SPR_CMD.PLACE.part (putBits w 16 2 op) = R.SPR_CMD.PLACE.part w := bits_putBits_below w op (by decide)
  have hpart : R.SPR_CMD.OP.part (putBits w 16 2 op) = op := (Fld.part_putBits_same w op ⟨rfl, rfl⟩).trans (Nat.mod_eq_of_lt hop)
  have hplace : (s.wr R.SPR_CMD.PLACE 0 (R.SPR_CMD.PLACE.part w)).rd R.SPR_CMD.PLACE 0 = R.SPR_CMD.PLACE.part w := s.sprPlaced_place
  unfold sprCmdHook
  rw [if_neg h, State.newv_whole, hpl, hpart, if_pos (show R.SPR_CMD.OP.enabled 15 = true by decide)]
  dsimp only
  rw [hplace]
  rfl

end

theorem smuPlace_iff (p : Nat) : (decide (p / 4096 = 3) && placeOk p) = decide (0x3000 ≤ p ∧ p < 0x3004) := by
  by_cases h : p / 4096 = 3
  · have hok : placeOk p = decide (p % 4096 < 4) := by
      unfold placeOk
      rw [h]
      rfl
    rw [hok, decide_eq_true h, Bool.true_and]
    exact decide_eq_decide.2 (by omega)
  · rw [decide_eq_false h, Bool.false_and]
    exact (decide_eq_false (by omega)).symm

section
variable {rq : Req} {w : Word} {op : Nat} (hw : s.canWrite rq .SPR_CMD 0)
include hw

section
variable (h : s.rd R.SPR_CMD.STATUS 0 ≠ 1)
include h

section
variable (hop : op = 1 ∨ op = 2)
include hop

/-- A mark of a place that names a unit. -/
theorem sprCmd_marks (hok : placeOk (R.SPR_CMD.PLACE.part w.toNat) = true) :
    writeRow rq .SPR_CMD 0 (putBits w.toNat 16 2 op) sprCmdHook s = .next (s.commit (((s.withOut []).sprMarked w.toNat op).wr R.SPR_CMD.STATUS 0 2)) := by
  refine writeRow_shared s hw rfl ?_
  rw [sprCmdHook_idle (s.withOut []) h (by omega), if_neg (by omega), if_neg (by omega), hok]
  rfl

theorem sprCmd_marked (hok : placeOk (R.SPR_CMD.PLACE.part w.toNat) = true) : ∃ t, writeRow rq .SPR_CMD 0 (putBits w.toNat 16 2 op) sprCmdHook s = .next t ∧ t.rd R.SPR_CMD.STATUS 0 = 2 := by
  refine ⟨_, sprCmd_marks s hw h hop hok, ?_⟩
  rw [State.commit_rd, State.wr_rd_fits _ (by decide)]

/-- A mark of a place that names none. -/
theorem sprCmd_barred (hok : placeOk (R.SPR_CMD.PLACE.part w.toNat) = false) :
    ∃ t, writeRow rq .SPR_CMD 0 (putBits w.toNat 16 2 op) sprCmdHook s = .next t ∧ t.rd R.SPR_CMD.STATUS 0 = 3 ∧ t.spare = s.spare ∧ s.keeps t [.regs] := by
  have hook : sprCmdHook rq 0 (putBits w.toNat 16 2 op) 15 (s.withOut []) = (((s.withOut []).sprPlaced w.toNat).wr R.SPR_CMD.STATUS 0 3, false) := by
    rw [sprCmdHook_idle (s.withOut []) h (by omega), if_neg (by omega), if_neg (by omega), hok]
    rfl
  refine ⟨_, writeRow_shared s hw rfl hook, ?_, rfl, State.keeps_commit ?_⟩
  · rw [State.commit_rd, State.wr_rd_fits _ (by decide)]
  · rw [State.keeps_wr _ _ _ (by decide), State.sprPlaced, State.keeps_wr _ _ _ (by decide), State.keeps_withOut]
    exact s.keeps_refl _

variable {i : Nat} (hpl : R.SPR_CMD.PLACE.part w.toNat = place 5 i) (hi : i < 64)
include hpl hi

/-- A mark of a TDC. -/
theorem sprCmd_tdc : writeRow rq .SPR_CMD 0 (putBits w.toNat 16 2 op) sprCmdHook s =
    .next (s.commit ((((s.withOut []).sprDrawn w.toNat).markUnit (place 5 i) op (Config.freeValue 5 s.free) (Config.freeValue 5 (s.free + 1))).wr R.SPR_CMD.STATUS 0 2)) := by
  have hkey : ((s.withOut []).sprDrawn w.toNat).markKey (place 5 i) = some (place 5 i) := by
    unfold State.markKey
    rw [(place_tdc hi).2.2.2.2]
    rfl
  rw [sprCmd_marks s hw h hop (by rw [hpl]; exact placeOk_tdc hi), State.sprMarked, hpl, hkey]
  rfl

end

section
variable {i k : Nat} (hpl : R.SPR_CMD.PLACE.part w.toNat = place 5 i) (hi : i < 64) (hwait : s.spare.waiting = [])
include hpl hi hwait

/-- A marked TDC that a spare can take waits for it. -/
theorem sprCmd_waits (hop : op = 1 ∨ op = 2) (hc : s.unitState (place 5 i) < 2) (hm : s.unitState (place 5 i) ≠ op) (hk : s.spareFor (place 5 i) = some k) :
    ∃ t, writeRow rq .SPR_CMD 0 (putBits w.toNat 16 2 op) sprCmdHook s = .next t ∧ t.rd R.SPR_CMD.STATUS 0 = 2 ∧ t.rd R.SPR_CMD.PLACE 0 = place 5 i ∧ t.unitState (place 5 i) = op ∧
      t.spare.waiting = [⟨place 5 i, 0, op⟩] ∧ (13, 0) ∈ t.hub.asserted := by
  have hfor : ((s.withOut []).sprDrawn w.toNat).spareFor (place 5 i) = some k :=
    (s.spareFor_tdc_congr hi fun k => ⟨(s.withOut []).sprDrawn_rd k (by decide), (s.withOut []).sprDrawn_rd k (by decide)⟩).trans hk
  obtain ⟨hunit, hqueue, -, hraised⟩ := ((s.withOut []).sprDrawn w.toNat).markUnit_waits (mark := op) (d1 := Config.freeValue 5 s.free) (d2 := Config.freeValue 5 (s.free + 1)) hi hwait hc hm hfor
  refine ⟨_, sprCmd_tdc s hw h hop hpl hi, ?_, ?_, hunit, hqueue, hraised⟩
  · rw [State.commit_rd, State.wr_rd_fits _ (by decide)]
  · rw [State.commit_rd, State.wr_rd_key _ _ (by decide), State.rd_of_blur (State.markUnit_blur _ _ _ _ _ (Nat.and_self _)) R.SPR_CMD.PLACE 0 (by decide)]
    exact ((s.withOut []).sprPlaced_place (w := w.toNat)).trans hpl

/-- A worn TDC that no spare can take stays in service. -/
theorem sprCmd_worn (hc : s.unitState (place 5 i) = 0) (hk : s.spareFor (place 5 i) = none) :
    ∃ t, writeRow rq .SPR_CMD 0 (putBits w.toNat 16 2 1) sprCmdHook s = .next t ∧ t.rd R.SPR_CMD.STATUS 0 = 2 ∧ t.unitState (place 5 i) = 1 ∧ t.spare.waiting = [] ∧ t.tdcs = s.tdcs := by
  have hfor : ((s.withOut []).sprDrawn w.toNat).spareFor (place 5 i) = none :=
    (s.spareFor_tdc_congr hi fun k => ⟨(s.withOut []).sprDrawn_rd k (by decide), (s.withOut []).sprDrawn_rd k (by decide)⟩).trans hk
  obtain ⟨hunit, hqueue, htdcs⟩ := ((s.withOut []).sprDrawn w.toNat).markUnit_worn (d1 := Config.freeValue 5 s.free) (d2 := Config.freeValue 5 (s.free + 1)) hi hwait hc hfor
  refine ⟨_, sprCmd_tdc s hw h (.inl rfl) hpl hi, ?_, hunit, hqueue, htdcs⟩
  rw [State.commit_rd, State.wr_rd_fits _ (by decide)]

/-- A failed TDC that no spare can take is lost. -/
theorem sprCmd_lost (hc : s.unitState (place 5 i) < 2) (hk : s.spareFor (place 5 i) = none) :
    ∃ t, writeRow rq .SPR_CMD 0 (putBits w.toNat 16 2 2) sprCmdHook s = .next t ∧ t.rd R.SPR_CMD.STATUS 0 = 2 ∧ t.unavailable (place 5 i) = true ∧ t.spare.waiting = [] ∧ t.rd R.TDC_CTL.ARMED i = 0 ∧
      t.rd R.DEV_STARTUP.DEGRADED 0 = 1 := by
  have hfor : ((s.withOut []).sprDrawn w.toNat).spareFor (place 5 i) = none :=
    (s.spareFor_tdc_congr hi fun k => ⟨(s.withOut []).sprDrawn_rd k (by decide), (s.withOut []).sprDrawn_rd k (by decide)⟩).trans hk
  obtain ⟨hunit, hqueue, harmed, hdeg⟩ := ((s.withOut []).sprDrawn w.toNat).markUnit_lost (d1 := Config.freeValue 5 s.free) (d2 := Config.freeValue 5 (s.free + 1)) hi hwait hc hfor
  refine ⟨_, sprCmd_tdc s hw h (.inr rfl) hpl hi, ?_, hunit, hqueue, ?_, ?_⟩
  · rw [State.commit_rd, State.wr_rd_fits _ (by decide)]
  · rw [State.commit_rd, State.wr_rd_key _ _ (by decide), harmed]
  · rw [State.commit_rd, State.wr_rd_key _ _ (by decide), hdeg]

end

theorem sprSelfTest_starts (hmode : s.m.mode = .service) (hs : s.m.startup = false)
    (hp : R.SPR_CMD.PLACE.part w.toNat = 0x8000 ∨ (0x3000 ≤ R.SPR_CMD.PLACE.part w.toNat ∧ R.SPR_CMD.PLACE.part w.toNat < 0x3004)) :
    ∃ t, execSprSelfTest rq w s = .next t ∧ t.spare = { s.spare with selfTest := some (R.SPR_CMD.PLACE.part w.toNat) } ∧ t.rd R.SPR_CMD.STATUS 0 = 1 ∧ s.keepsFields t [R.SPR_CMD.STATUS, R.SPR_CMD.PLACE] := by
  have hcond : (decide ((s.withOut []).m.mode = .service) && !(s.withOut []).m.startup && (decide (R.SPR_CMD.PLACE.part w.toNat = 0x8000) || (decide (R.SPR_CMD.PLACE.part w.toNat / 4096 = 3) &&
      placeOk (R.SPR_CMD.PLACE.part w.toNat)))) = true := by
    rw [smuPlace_iff, show (s.withOut []).m.mode = .service from hmode, show (s.withOut []).m.startup = false from hs]
    obtain hp | hp := hp <;> simp [hp]
  have hook := sprCmdHook_idle (s.withOut []) (rq := rq) (w := w.toNat) (op := 3) h (by decide)
  rw [if_neg (by decide), if_pos rfl, if_pos hcond] at hook
  refine ⟨_, writeRow_shared s hw rfl hook, rfl, ?_, ?_⟩
  · rw [State.commit_rd, State.wr_rd_fits _ (by decide)]
  · rw [State.keepsFields_commit, State.keepsFields_wr _ _ _ (by decide)]
    exact (State.keepsFields_wr _ _ _ (by decide)).2 (s.keepsFields_refl _)

theorem sprSelfTest_barred (hp : s.m.mode ≠ .service ∨ s.m.startup = true ∨ (R.SPR_CMD.PLACE.part w.toNat ≠ 0x8000 ∧ ¬(0x3000 ≤ R.SPR_CMD.PLACE.part w.toNat ∧ R.SPR_CMD.PLACE.part w.toNat < 0x3004))) :
    ∃ t, execSprSelfTest rq w s = .next t ∧ t.rd R.SPR_CMD.STATUS 0 = 3 ∧ t.spare = s.spare := by
  have hcond : (decide ((s.withOut []).m.mode = .service) && !(s.withOut []).m.startup && (decide (R.SPR_CMD.PLACE.part w.toNat = 0x8000) || (decide (R.SPR_CMD.PLACE.part w.toNat / 4096 = 3) &&
      placeOk (R.SPR_CMD.PLACE.part w.toNat)))) = false := by
    rw [smuPlace_iff]
    obtain hp | hp | ⟨hp, hq⟩ := hp
    · rw [decide_eq_false (show ¬ (s.withOut []).m.mode = .service from hp)]
      rfl
    · rw [show (s.withOut []).m.startup = true from hp]
      simp
    · rw [decide_eq_false hp, decide_eq_false hq]
      simp
  have hook := sprCmdHook_idle (s.withOut []) (rq := rq) (w := w.toNat) (op := 3) h (by decide)
  rw [if_neg (by decide), if_pos rfl, if_neg (ne_true_of_eq_false hcond)] at hook
  refine ⟨_, writeRow_shared s hw rfl hook, ?_, rfl⟩
  rw [State.commit_rd, State.wr_rd_fits _ (by decide)]

end

end

/-- A command while a self-test runs. -/
theorem sprCmd_busy {f : Fin 64} {w : Nat} (hw : s.canWrite (.fn f) .SPR_CMD 0) (h : s.rd R.SPR_CMD.STATUS 0 = 1) :
    ∃ t, writeRow (.fn f) .SPR_CMD 0 w sprCmdHook s = .next t ∧ t.spare = s.spare ∧ t.rd R.SPR_CMD.STATUS 0 = 1 ∧ t.rd R.HOST_REFUSE.COUNT f.val = min (s.rd R.HOST_REFUSE.COUNT f.val + 1) (2 ^ R.HOST_REFUSE.COUNT.width - 1) := by
  refine ⟨_, writeRow_sharedRefuses s hw rfl (sprCmdHook_busy (s.withOut []) h), rfl, ?_, ?_⟩
  · rw [State.commit_rd, State.refuse_rd _ (by decide)]
    exact h
  · rw [State.commit_rd, State.refuse_count]
    rfl

/-! The end of a self-test (R555) -/

/-- No self-test runs. -/
def State.testIdle (s : State) : State := { s with spare := { s.spare with selfTest := none } }

theorem selfTestDone_none {l : List Nat} (h : s.spare.selfTest = none) : ∃ t, execSelfTestDone l s = .next t ∧ s.keeps t [] := by
  refine done_idle s ?_
  rw [show (s.withOut []).spare.selfTest = none from h]

theorem exec_selfTestDone {l : List Nat} {pl : Nat} (h : s.spare.selfTest = some pl) :
    execSelfTestDone l s = .next (s.commit (((s.withOut []).testIdle.testFails (l.filter fun k => pl = 0x8000 || keyQuad k = some (pl % 4096))).wr R.SPR_CMD.STATUS 0 2)) := by
  refine done_is s ?_
  rw [show (s.withOut []).spare.selfTest = some pl from h]
  rfl

theorem selfTestDone_clean {pl : Nat} (h : s.spare.selfTest = some pl) :
    ∃ t, execSelfTestDone [] s = .next t ∧ t.rd R.SPR_CMD.STATUS 0 = 2 ∧ t.spare = { s.spare with selfTest := none } ∧ s.keepsFields t [R.SPR_CMD.STATUS] := by
  refine ⟨_, exec_selfTestDone s h, ?_, rfl, ?_⟩
  · rw [State.commit_rd, State.wr_rd_fits _ (by decide)]
  · rw [State.keepsFields_commit, State.keepsFields_wr _ _ _ (by decide)]
    exact s.keepsFields_refl _

section
variable {i k : Nat} (hi : i < 64)
include hi

/-- A TDC that a self-test found outside its limits, before its mark. -/
def State.tdcFailed (s : State) (i : Nat) : State := ({ s with free := s.free + 2 }).when (s.m.startup && s.unitState (place 5 i) < 2) (·.bump R.DEV_STARTUP.FAIL_COUNT 0 1)

theorem State.testFails_tdc : s.testFails [place 5 i] = (s.tdcFailed i).markUnit (place 5 i) 2 (Config.freeValue 5 s.free) (Config.freeValue 5 (s.free + 1)) := by
  have hl : [place 5 i].filter keyTested = [place 5 i] := by rw [List.filter_cons_of_pos (keyTested_tdc hi), List.filter_nil]
  unfold State.testFails
  rw [hl]
  rfl

omit hi in
theorem State.tdcFailed_spare : (s.tdcFailed i).spare = s.spare := State.when_induction _ (P := fun u => u.spare = s.spare) _ _ rfl rfl

omit hi in
theorem State.tdcFailed_rd {f : Fld} (j : Nat) (hf : f.key % 1024 ≠ R.DEV_STARTUP.FAIL_COUNT.key) : (s.tdcFailed i).rd f j = s.rd f j :=
  State.when_rd_of _ (f := (·.bump R.DEV_STARTUP.FAIL_COUNT 0 1)) (State.bump_rd_key _ _ hf)

theorem selfTestDone_marks (h : s.spare.selfTest = some 0x8000) (hc : s.unitState (place 5 i) < 2) (hwait : s.spare.waiting = []) (hk : s.spareFor (place 5 i) = some k) :
    ∃ t, execSelfTestDone [place 5 i] s = .next t ∧ t.rd R.SPR_CMD.STATUS 0 = 2 ∧ t.spare.selfTest = none ∧ t.unitState (place 5 i) = 2 ∧ t.spare.waiting = [⟨place 5 i, 0, 2⟩] := by
  have e := exec_selfTestDone s (l := [place 5 i]) h
  rw [show ([place 5 i].filter fun k => decide (0x8000 = 0x8000) || decide (keyQuad k = some (0x8000 % 4096))) = [place 5 i] from rfl, State.testFails_tdc _ hi] at e
  have hspare := (s.withOut []).testIdle.tdcFailed_spare (i := i)
  have hfor : ((s.withOut []).testIdle.tdcFailed i).spareFor (place 5 i) = some k :=
    (s.spareFor_tdc_congr hi fun k => ⟨(s.withOut []).testIdle.tdcFailed_rd k (by decide), (s.withOut []).testIdle.tdcFailed_rd k (by decide)⟩).trans hk
  have hnil : ((s.withOut []).testIdle.tdcFailed i).spare.waiting = [] := by
    rw [hspare]
    exact hwait
  have hunit : ((s.withOut []).testIdle.tdcFailed i).unitState (place 5 i) < 2 := by
    have hsame := congrArg (fun x : SpareSt => smGet 0 x.state (place 5 i)) hspare
    exact lt_of_eq_of_lt hsame hc
  obtain ⟨hmark, hqueue, htest, -⟩ := ((s.withOut []).testIdle.tdcFailed i).markUnit_waits (mark := 2) (d1 := Config.freeValue 5 s.free) (d2 := Config.freeValue 5 (s.free + 1)) hi hnil hunit (by omega) hfor
  refine ⟨_, e, ?_, htest.trans (congrArg SpareSt.selfTest hspare), hmark, hqueue⟩
  rw [State.commit_rd, State.wr_rd_fits _ (by decide)]

end

/-! A spare is brought in (R551, R552, R556) -/

theorem State.spareSync_count : s.spareSync.rd R.SPR_PENDING.COUNT 0 = s.spare.waiting.length % 2 ^ 16 := by
  have h : ∃ u : State, s.spareSync = u.wr R.SPR_PENDING.COUNT 0 u.spare.waiting.length := ⟨_, rfl⟩
  obtain ⟨u, hu⟩ := h
  have hspare : u.spare = s.spare := (congrArg State.spare hu).symm.trans s.spareSync_spare
  rw [hu, State.wr_rd_same, hspare]
  rfl

section
variable {i k m : Nat}

/-- A TDC whose circuit is retired for spare k, and the spare's registers. -/
def State.tdcServed (s : State) (i k : Nat) : State :=
  let u := ((((s.unwait (place 5 i)).calTouch 2 i).calTouch 2 k).tdcDisarm i).setUnit (place 5 i) 3
  (((u.showRetired 5 i k).wr R.TDC_SPARE_STATUS.REPLACED k i).wr R.TDC_SPARE_STATUS.ASSIGNED k 1).pair (place 5 i) (place 5 k)

/-- A spare's entry in the repair map, its source and its shard. -/
def State.spareNoted (s : State) (pl type mark k sp : Nat) : State := ((s.addRepair pl type mark 0 k).raise 14).shard 0x34 pl sp 0 0

theorem State.bringIn_tdc (hi : i < 64) : s.bringIn (place 5 i) m k = ((s.tdcServed i k).spareNoted (place 5 i) 4 m k (place 5 k % 65536)).spareSync := by
  obtain ⟨-, hmod, -, hlow, hkind⟩ := place_tdc hi
  have hlog : (s.unwait (place 5 i)).logical (place 5 i) = i := State.logical_tdc _ hi
  have hnot : decide (64 ≤ i) = false := decide_eq_false (by omega)
  unfold State.bringIn
  dsimp only
  rw [hmod, hkind, hlow, hlog, hnot]
  rfl

theorem State.pair_rd (key sp : Nat) (f : Fld) (j : Nat) : (s.pair key sp).rd f j = s.rd f j := rfl

theorem State.tdcServed_assigned : (s.tdcServed i k).rd R.TDC_SPARE_STATUS.ASSIGNED k = 1 := by
  unfold State.tdcServed
  dsimp only
  rw [State.pair_rd, State.wr_rd_fits _ (by decide)]

theorem State.tdcServed_replaced (hi : i < 64) : (s.tdcServed i k).rd R.TDC_SPARE_STATUS.REPLACED k = i := by
  unfold State.tdcServed
  dsimp only
  rw [State.pair_rd, State.wr_rd_key _ _ (by decide), State.wr_rd_fits _ hi]

/-- What the service of a TDC by a spare may change: fields of measuring units, the TDCs, calibration and the spares' state. -/
def servedParts : Nat := 0x77fffff80000000000000000000000007ffffe00000080000000000000000000000000000000000000000000000007fffffff0007fffffffffff800000000000000000000000000000000000000000000000000000000000000000000000000000000810200

theorem State.tdcServed_blur : (s.tdcServed i k).blur servedParts = s.blur servedParts := by
  unfold State.tdcServed
  dsimp only
  simp (disch := decide) only [State.pair_blur, State.wr_blur, State.showRetired_blur, State.setUnit_blur, State.tdcDisarm_blur, State.calTouch_blur, State.unwait_blur]

theorem State.tdcServed_unit : (s.tdcServed i k).unitState (place 5 i) = 3 := by
  unfold State.tdcServed
  dsimp only
  generalize ((((s.unwait (place 5 i)).calTouch 2 i).calTouch 2 k).tdcDisarm i) = u
  have h : ((u.setUnit (place 5 i) 3).showRetired 5 i k).spare = (u.setUnit (place 5 i) 3).spare := State.spare_of_blur (State.showRetired_blur (u.setUnit (place 5 i) 3) 5 i k (Nat.and_self _)) (by decide)
  change smGet 0 ((u.setUnit (place 5 i) 3).showRetired 5 i k).spare.state (place 5 i) = 3
  rw [h]
  exact smGet_smSet_same (α := Nat) 0 u.spare.state (place 5 i) 3

theorem State.tdcServed_waiting : (s.tdcServed i k).spare.waiting = (s.unwait (place 5 i)).spare.waiting := by
  unfold State.tdcServed
  dsimp only
  generalize s.unwait (place 5 i) = v
  have hcal : ((v.calTouch 2 i).calTouch 2 k).spare = v.spare :=
    (State.spare_of_blur ((v.calTouch 2 i).calTouch_blur 2 k (Nat.and_self _)) (by decide)).trans (State.spare_of_blur (v.calTouch_blur 2 i (Nat.and_self _)) (by decide))
  generalize (v.calTouch 2 i).calTouch 2 k = u at hcal ⊢
  have h : (((u.tdcDisarm i).setUnit (place 5 i) 3).showRetired 5 i k).spare = ((u.tdcDisarm i).setUnit (place 5 i) 3).spare :=
    State.spare_of_blur (State.showRetired_blur ((u.tdcDisarm i).setUnit (place 5 i) 3) 5 i k (Nat.and_self _)) (by decide)
  change (((u.tdcDisarm i).setUnit (place 5 i) 3).showRetired 5 i k).spare.waiting = _
  rw [h]
  change u.spare.waiting = v.spare.waiting
  rw [hcal]

/-- The entry that a spare's bringing in adds to the repair map. -/
theorem State.addRepair_map {pl type st target replace : Nat} (h : s.nvm.map.length < 511) :
    (s.addRepair pl type st target replace).nvm.map = s.nvm.map ++ [⟨pl, type, st, target, replace, s.clock.sec % 2 ^ 32⟩] := by
  unfold State.addRepair State.mapChanged
  rw [if_pos h]
  dsimp only
  cases s.image with
  | none => rfl
  | some im => exact State.when_induction _ (P := fun u => u.nvm.map = _) _ _ rfl rfl

end

section
variable (pl type mark k sp : Nat)

theorem State.spareNoted_spare : (s.spareNoted pl type mark k sp).spare = s.spare := by
  rw [State.spareNoted, State.spare_of_blur (State.shard_blur ((s.addRepair pl type mark 0 k).raise 14) 0x34 pl sp 0 0 (Nat.and_self _)) (by decide), State.raise_spare,
    State.spare_of_blur (s.addRepair_blur pl type mark 0 k (Nat.and_self _)) (by decide)]

theorem State.spareNoted_map (h : s.nvm.map.length < 511) : (s.spareNoted pl type mark k sp).nvm.map = s.nvm.map ++ [⟨pl, type, mark, 0, k, s.clock.sec % 2 ^ 32⟩] := by
  rw [State.spareNoted, State.nvm_of_blur (State.shard_blur ((s.addRepair pl type mark 0 k).raise 14) 0x34 pl sp 0 0 (Nat.and_self _)) (by decide), State.raise_nvm, s.addRepair_map h]

theorem State.spareNoted_asserted : (14, 0) ∈ (s.spareNoted pl type mark k sp).hub.asserted := by
  rw [State.spareNoted, State.hub_of_blur (State.shard_blur ((s.addRepair pl type mark 0 k).raise 14) 0x34 pl sp 0 0 (Nat.and_self _)) (by decide)]
  exact List.mem_append_right _ (List.mem_singleton.2 rfl)

theorem State.spareNoted_rd {f : Fld} (j : Nat) (hf : f = R.TDC_SPARE_STATUS.ASSIGNED ∨ f = R.TDC_SPARE_STATUS.REPLACED) : (s.spareNoted pl type mark k sp).rd f j = s.rd f j := by
  have h1 := State.shard_blur ((s.addRepair pl type mark 0 k).raise 14) 0x34 pl sp 0 0 (Nat.and_self _)
  have h2 := s.addRepair_blur pl type mark 0 k (Nat.and_self _)
  obtain rfl | rfl := hf
  · rw [State.spareNoted, State.rd_of_blur h1 R.TDC_SPARE_STATUS.ASSIGNED j (by decide), State.raise_rd, State.rd_of_blur h2 R.TDC_SPARE_STATUS.ASSIGNED j (by decide)]
  · rw [State.spareNoted, State.rd_of_blur h1 R.TDC_SPARE_STATUS.REPLACED j (by decide), State.raise_rd, State.rd_of_blur h2 R.TDC_SPARE_STATUS.REPLACED j (by decide)]

end

section
variable {i k m : Nat} (hi : i < 64) (hwait : s.spare.waiting = [⟨place 5 i, 0, m⟩]) (hk : s.spareFor (place 5 i) = some k)
include hi hwait

omit hi in
theorem State.tdcServed_nobody : (s.tdcServed i k).spare.waiting = [] := by
  rw [State.tdcServed_waiting]
  change s.spare.waiting.filter (fun w => w.key ≠ place 5 i) = []
  rw [hwait]
  exact List.filter_eq_nil_iff.2 fun w hw => by
    obtain rfl := List.mem_singleton.1 hw
    simp [Waiting.key]

include hk

omit hi in
/-- The lone waiting TDC is replaced. -/
theorem State.spareAll_tdc : s.spareAll (fun _ n => n = place 5 i) = (s.bringIn (place 5 i) m k).settleWaiting := by
  have hl : (s.spare.waiting.filter fun w => decide (w.key = place 5 i)) = [⟨place 5 i, 0, m⟩] := by
    rw [hwait]
    exact List.filter_cons_of_pos (by simp [Waiting.key])
  have hin : s.spare.waiting.contains ⟨place 5 i, 0, m⟩ = true := by
    rw [hwait]
    simp
  unfold State.spareAll
  rw [hl, List.mergeSort_singleton]
  dsimp only [List.foldl_cons, List.foldl_nil]
  rw [hin, if_pos rfl, show s.spareFor (Waiting.key ⟨place 5 i, 0, m⟩) = some k from hk]
  rfl

theorem spareIn_serves (hs : s.m.startup = false) (ha : s.rd R.TDC_CTL.ARMED i = 0) (hmap : s.nvm.map.length < 511) :
    ∃ t, execSpareIn (place 5 i) s = .next t ∧ t.spare.waiting = [] ∧ t.unitState (place 5 i) = 3 ∧ t.rd R.TDC_SPARE_STATUS.ASSIGNED k = 1 ∧ t.rd R.TDC_SPARE_STATUS.REPLACED k = i ∧
      (14, 0) ∈ t.hub.asserted ∧ t.nvm.map = s.nvm.map ++ [⟨place 5 i, 4, m, 0, k, s.clock.sec % 2 ^ 32⟩] ∧ t.rd R.SPR_PENDING.COUNT 0 = 0 := by
  have hlog : (s.withOut []).logical (place 5 i) = i := State.logical_tdc _ hi
  have hnow : (s.withOut []).spareNow (place 5 i) = true := by
    obtain ⟨-, hmod, -, -, hkind⟩ := place_tdc hi
    unfold State.spareNow
    dsimp only
    rw [show (s.withOut []).m.startup = false from hs, if_neg (by decide), hmod, hkind, hlog]
    simp [State.fl, ha]
  have e : execSpareIn (place 5 i) s = .next (s.commit (((((s.withOut []).tdcServed i k).spareNoted (place 5 i) 4 m k (place 5 k % 65536)).spareSync).settleWaiting)) := by
    rw [← State.bringIn_tdc (s.withOut []) hi, ← State.spareAll_tdc (s.withOut []) hwait hk]
    exact done_is s (if_pos hnow)
  have hnobody := (s.withOut []).tdcServed_nobody hwait (k := k)
  have hunit := (s.withOut []).tdcServed_unit (i := i) (k := k)
  have hassigned := (s.withOut []).tdcServed_assigned (i := i) (k := k)
  have hreplaced := (s.withOut []).tdcServed_replaced (k := k) hi
  have hnvm := State.nvm_of_blur ((s.withOut []).tdcServed_blur (i := i) (k := k)) (by decide)
  have hclock := State.clock_of_blur ((s.withOut []).tdcServed_blur (i := i) (k := k)) (by decide)
  revert e hnobody hunit hassigned hreplaced hnvm hclock
  generalize (s.withOut []).tdcServed i k = u
  intro e hnobody hunit hassigned hreplaced hnvm hclock
  have hmap' : u.nvm.map.length < 511 := by rwa [hnvm]
  have hspare := u.spareNoted_spare (place 5 i) 4 m k (place 5 k % 65536)
  have hentry := u.spareNoted_map (place 5 i) 4 m k (place 5 k % 65536) hmap'
  have hraised := u.spareNoted_asserted (place 5 i) 4 m k (place 5 k % 65536)
  have hrd := fun f j => u.spareNoted_rd (place 5 i) 4 m k (place 5 k % 65536) (f := f) j
  revert e hspare hentry hraised hrd
  generalize u.spareNoted (place 5 i) 4 m k (place 5 k % 65536) = v
  intro e hspare hentry hraised hrd
  have hempty : v.spareSync.spare.waiting = [] := by rw [State.spareSync_spare, hspare, hnobody]
  rw [State.settleWaiting_ready _ (by rw [hempty]; simp)] at e
  have hrd' (f : Fld) (j : Nat) (hf : f = R.TDC_SPARE_STATUS.ASSIGNED ∨ f = R.TDC_SPARE_STATUS.REPLACED) : v.spareSync.spareSync.rd f j = u.rd f j := by
    rw [← hrd f j hf]
    obtain rfl | rfl := hf
    · rw [State.rd_of_blur (v.spareSync.spareSync_blur (Nat.and_self _)) _ j (by decide), State.rd_of_blur (v.spareSync_blur (Nat.and_self _)) _ j (by decide)]
    · rw [State.rd_of_blur (v.spareSync.spareSync_blur (Nat.and_self _)) _ j (by decide), State.rd_of_blur (v.spareSync_blur (Nat.and_self _)) _ j (by decide)]
  refine ⟨_, e, ?_, ?_, ?_, ?_, ?_, ?_, ?_⟩
  · rw [State.commit_spare, State.spareSync_spare, hempty]
  · change v.spareSync.spareSync.unitState (place 5 i) = 3
    rw [State.unitState, State.spareSync_spare, State.spareSync_spare, hspare, ← State.unitState, hunit]
  · rw [State.commit_rd, hrd' _ _ (.inl rfl), hassigned]
  · rw [State.commit_rd, hrd' _ _ (.inr rfl), hreplaced]
  · change (14, 0) ∈ v.spareSync.spareSync.hub.asserted
    rw [State.spareSync_hub, State.spareSync_hub]
    exact hraised
  · rw [State.commit_nvm, State.nvm_of_blur (v.spareSync.spareSync_blur (Nat.and_self _)) (by decide), State.nvm_of_blur (v.spareSync_blur (Nat.and_self _)) (by decide), hentry, hnvm, hclock]
    rfl
  · rw [State.commit_rd, State.spareSync_count, hempty]
    rfl

end

/-! The repair map is written (R557) -/

theorem repairMapWrite_writes (h1 : s.mapWaits = true) (h2 : s.fl R.THS_STATUS.NVM_OK 0 = true) (h3 : s.fl R.NVM_STATUS.BUSY 0 = false) (h4 : s.fl R.NVM_STATUS.DIR_FAIL 0 = false) :
    ∃ t, execRepairMapWrite s = .next t ∧ t.rd R.NVM_STATUS.REPAIR_PENDING 0 = 0 ∧ t.rd R.NVM_STATUS.BUSY 0 = 1 ∧ t.rd R.DEV_STARTUP.REPAIR_DEFERRED 0 = 0 ∧
      t.nvm = { s.nvm with job := some ⟨4, 1 - (s.nvmChosen 4).copy, ((s.nvmChosen 4).seq + 1) % 2 ^ 32, nvmBytes 4 (((s.nvmChosen 4).seq + 1) % 2 ^ 32) (repairPayload s.nvm.map), nvmPages 4 (1 - (s.nvmChosen 4).copy), false, false⟩ } ∧
      s.keepsFields t [R.NVM_STATUS.REPAIR_PENDING, R.NVM_STATUS.BUSY, R.DEV_STARTUP.REPAIR_DEFERRED] := by
  have hcond : ((s.withOut []).mapWaits && (s.withOut []).fl R.THS_STATUS.NVM_OK 0 && !(s.withOut []).fl R.NVM_STATUS.BUSY 0 && !(s.withOut []).fl R.NVM_STATUS.DIR_FAIL 0) = true := by
    rw [show (s.withOut []).mapWaits = true from h1, State.withOut_fl, State.withOut_fl, State.withOut_fl, h2, h3, h4]
    rfl
  have e : execRepairMapWrite s = .next (s.commit ((((s.withOut []).wr R.NVM_STATUS.REPAIR_PENDING 0 0).wr R.DEV_STARTUP.REPAIR_DEFERRED 0 0).nvmStart 4 (repairPayload s.nvm.map) false)) := done_is s (if_pos hcond)
  refine ⟨_, e, ?_, ?_, ?_, rfl, ?_⟩
  · rw [State.commit_rd, State.nvmStart, State.wr_rd_key _ _ (by decide), State.with_nvm_rd, State.wr_rd_key _ _ (by decide), State.wr_rd_fits _ (by decide)]
  · rw [State.commit_rd, State.nvmStart, State.wr_rd_fits _ (by decide)]
  · rw [State.commit_rd, State.nvmStart, State.wr_rd_key _ _ (by decide), State.with_nvm_rd, State.wr_rd_fits _ (by decide)]
  · rw [State.keepsFields_commit, State.nvmStart, State.keepsFields_wr _ _ _ (by decide)]
    refine (State.keepsFields_wr R.DEV_STARTUP.REPAIR_DEFERRED 0 0 (by decide)).2 ((State.keepsFields_wr R.NVM_STATUS.REPAIR_PENDING 0 0 (by decide)).2 ?_)
    exact s.keepsFields_refl _

theorem repairMapWrite_idle (h : s.mapWaits = false ∨ s.fl R.THS_STATUS.NVM_OK 0 = false ∨ s.fl R.NVM_STATUS.BUSY 0 = true ∨ s.fl R.NVM_STATUS.DIR_FAIL 0 = true) :
    ∃ t, execRepairMapWrite s = .next t ∧ s.keeps t [] := by
  refine done_idle s (if_neg ?_)
  obtain h | h | h | h := h
  · simp [show (s.withOut []).mapWaits = false from h]
  all_goals simp [h]

end Sys2Proof.Machine

open Sys2Proof Sys2Proof.Machine

/-- Settles O54: a mark by whether its TDC has a spare, a command by its place and the running self-test, the repair map by whether it may be written. -/
theorem sparesAndRepair : Obligations.SparesAndRepair := by
  refine ⟨fun s _ _ _ _ hw h hpl hi hc hwait hk => sprCmd_waits s hw h hpl hi hwait (.inl rfl) (by omega) (by omega) hk, fun s _ _ _ hw h hpl hi hc hwait hk => sprCmd_worn s hw h hpl hi hwait hc hk,
    fun s _ _ _ _ hw h hpl hi hc hwait hk => ?_, fun s _ _ _ hw h hpl hi hc hwait hk => sprCmd_lost s hw h hpl hi hwait hc hk, fun s _ _ hw h hok => sprCmd_marked s hw h (.inr rfl) hok,
    fun s _ _ hw h hok => sprCmd_marked s hw h (.inl rfl) hok, fun s _ _ hw h hok => sprCmd_barred s hw h (.inl rfl) hok, fun s _ _ hw h hok => sprCmd_barred s hw h (.inr rfl) hok,
    fun s _ _ hw h => sprCmd_busy s hw h, fun s _ _ hw h => sprCmd_busy s hw h, fun s _ _ hw h => sprCmd_busy s hw h, fun s _ _ hw h hmode hs hp => sprSelfTest_starts s hw h hmode hs hp,
    fun s _ _ hw h hp => sprSelfTest_barred s hw h hp, fun s _ h => selfTestDone_none s h, fun s _ h => selfTestDone_clean s h, fun s _ _ h hi hc hwait hk => selfTestDone_marks s hi h hc hwait hk,
    fun s _ _ _ hs hi hwait hk ha hmap => spareIn_serves s hi hwait hk hs ha hmap, fun s _ h => ?_, fun s h1 h2 h3 h4 => repairMapWrite_writes s h1 h2 h3 h4, fun s h => repairMapWrite_idle s h⟩
  · obtain ⟨t, e, hst, -, hunit, hqueue, hraised⟩ := sprCmd_waits s hw h hpl hi hwait (.inr rfl) hc (by omega) hk
    exact ⟨t, e, hst, hunit, hqueue, hraised⟩
  · exact done_idle s (if_neg (ne_true_of_eq_false h))
end

section
/-! SUPPORT. The reset of a function's registers (R101, R455, R483) in its parts: the saggar's units stop, its registers return to reset and the change takes effect; which lanes that reaches; and O9. -/

namespace Sys2Proof.Machine

variable (s : State) (k : Nat)

/-! The parts of a FUNC reset -/

/-- The queues, tiles, groups, converters and SMUs of a saggar stop. -/
def State.funcStopped : State :=
  let s := s.when (k = 0 && s.rd R.FLS_LOCK.HOLDER 0 = 1) (·.wr R.FLS_LOCK.HOLDER 0 0)
  let s := s.each ((List.range 4).map (4 * k + ·)) State.queueReset
  let tiles := (List.range 16).filter fun t => s.tileOwner t = some k
  let s := s.each tiles fun s t => (if (s.play t).playing then s.tileStop t else s.seqStopped t).acqReset t
  let s := s.each ((List.range 64).filter fun g => s.grpOwner g = some k) State.grpReset
  let s := s.each ((List.range 128).filter fun o => s.octOwner o = some k) fun s o => (s.setAdc o .idle).setSmu o .idle
  let s := s.when (k = 0) (·.each ((List.range 8).map (128 + ·)) fun s i => s.setSmu i .idle)
  s.each tiles fun s t => s.setPlay t { s.play t with held := [] }

/-- What the return of registers to reset changes takes effect: of the lanes `lanes`, the octets `octs`, and the fields whose values `old` and `modes` hold. -/
def State.funcReturned (lanes octs : List Nat) (old modes : List (Nat × Nat × Nat)) : State :=
  let s := s.each lanes fun s l => s.setLane l { s.lane l with tripOff := false }
  let s := old.foldl (fun s e => s.applied e.1 e.2.1 e.2.2) s
  let s := modes.foldl (fun s e => s.smuModeSet e.1 e.2.1 e.2.2) s
  let s := s.each octs fun s o =>
    let home := match s.image with | some im => im.smuHome.getD o 255 | none => 255
    if home < 8 then s.wr R.OCT_MATRIX.LANE_SEL o (2 ^ home) else s
  s.each ((List.range 4).map (4 * k + ·)) State.qSync

theorem State.funcReset_eq : ∃ lanes octs old modes,
    s.funcReset k = (((s.dmaStop k).funcStopped k).resetFields (((s.dmaStop k).funcStopped k).funcOwned k)).funcReturned k lanes octs old modes := ⟨_, _, _, _, rfl⟩

/-- The parts and fields that the stop of a saggar's units changes. -/
def funcStopMask : Nat := 0x613f80000000000000000040000000000000000000000000800000002000e000000000000000000000000000000000010000000000000000000000000000000028003c2000000004000000000000090040000000000000000000000000000000000000003517820

/-- The parts and fields that the effects of a return to reset change. -/
def funcReturnMask : Nat := 0x200001000000000000002040000000000000000402000000800000000000000000000000000000000000000000000000000000000000000000000000000000000000000000000000000000000000090040000000000000000000000000000000000000000011820

theorem State.funcStopped_blur : (s.funcStopped k).blur funcStopMask = s.blur funcStopMask := by
  unfold State.funcStopped
  repeat' first
    | with_reducible rfl
    | simp (disch := decide) only [State.blur_ite, ite_self, State.wr_blur, State.queueReset_blur, State.acqReset_blur, State.tileStop_blur, State.seqStopped_blur, State.grpReset_blur, State.setSmu_blur, State.setAdc_blur, State.setPlay_blur]
    | with_reducible refine State.blur_when _ _ _ ?_
    | with_reducible refine State.blur_each _ _ _ (fun t n => ?_)
    | with_reducible refine (State.blur_when _ _ _ ?_).trans ?_
    | with_reducible refine (State.blur_each _ _ _ (fun t n => ?_)).trans ?_

theorem State.funcReturned_blur (lanes octs : List Nat) (old modes : List (Nat × Nat × Nat)) :
    (s.funcReturned k lanes octs old modes).blur funcReturnMask = s.blur funcReturnMask := by
  unfold State.funcReturned
  repeat' first
    | with_reducible rfl
    | simp (disch := decide) only [State.blur_ite, ite_self, State.wr_blur, State.setLane_blur, State.applied_blur, State.smuModeSet_blur, State.qSync_blur]
    | with_reducible refine State.blur_each _ _ _ (fun t n => ?_)
    | with_reducible refine State.blur_foldl _ _ _ (fun t n => ?_)
    | with_reducible refine (State.blur_each _ _ _ (fun t n => ?_)).trans ?_
    | with_reducible refine (State.blur_foldl _ _ _ (fun t n => ?_)).trans ?_

theorem State.resetFields_rd (p : Nat → Bool) (f : Fld) (i : Nat) : (s.resetFields p).rd f i = if p (f.slot i) then f.reset i else s.rd f i := by
  unfold State.rd State.resetFields
  rw [smGet_smKeep]
  cases p (f.slot i) <;> rfl

theorem laneCtl_owner (l : Nat) : Reg.LANE_CTL.owner l = .octet (l / 8) := by
  have hu : Reg.LANE_CTL.unit l = l := Nat.div_one l
  have hb : Reg.LANE_CTL.base = 0x140000 := rfl
  unfold Reg.owner
  dsimp only
  rw [hu, hb]
  simp [Reg.scope]

/-- The control of a lane returns to reset with the saggar that owns its octet. -/
theorem State.funcOwned_override (l : Nat) : s.funcOwned k (R.LANE_CTL.OVERRIDE.slot l) = decide (s.octOwner (l / 8) = some k) := by
  have hkey : slotKey (R.LANE_CTL.OVERRIDE.slot l) = R.LANE_CTL.OVERRIDE.key := (Nat.mul_add_mod_self_right _ _ _).trans (by decide)
  have hinst : slotInst (R.LANE_CTL.OVERRIDE.slot l) = l := by
    have hk : R.LANE_CTL.OVERRIDE.key = 680 := rfl
    unfold slotInst Fld.slot
    omega
  have hfind : (funcFields.find? fun f => f.key = R.LANE_CTL.OVERRIDE.key) = some R.LANE_CTL.OVERRIDE := by decide
  unfold State.funcOwned
  rw [hkey, hfind, hinst]
  dsimp only
  rw [show R.LANE_CTL.OVERRIDE.reg.owner l = .octet (l / 8) from laneCtl_owner l]

/-- A FUNC reset reaches the lanes of the octets that the saggar owns, and no others. -/
theorem State.funcReset_override (l : Nat) :
    (s.funcReset k).rd R.LANE_CTL.OVERRIDE l = if s.octOwner (l / 8) = some k then R.LANE_CTL.OVERRIDE.reset l else s.rd R.LANE_CTL.OVERRIDE l := by
  obtain ⟨lanes, octs, old, modes, e⟩ := s.funcReset_eq k
  have himage : ((s.dmaStop k).funcStopped k).image = s.image :=
    (State.image_of_blur ((s.dmaStop k).funcStopped_blur k) (by decide)).trans (State.image_of_blur (s.dmaStop_blur k (Nat.and_self _)) (by decide))
  have hrd : ((s.dmaStop k).funcStopped k).rd R.LANE_CTL.OVERRIDE l = s.rd R.LANE_CTL.OVERRIDE l :=
    (State.rd_of_blur ((s.dmaStop k).funcStopped_blur k) _ _ (by decide)).trans (State.rd_of_blur (s.dmaStop_blur k (Nat.and_self _)) _ _ (by decide))
  have hown : ((s.dmaStop k).funcStopped k).octOwner (l / 8) = s.octOwner (l / 8) := by rw [State.octOwner, himage]; rfl
  rw [e, State.rd_of_blur (State.funcReturned_blur _ k lanes octs old modes) _ _ (by decide), State.resetFields_rd, hrd, State.funcOwned_override, hown]
  simp only [decide_eq_true_eq]

/-- The reset of a virtual function reaches the lanes of the octets of the saggar that is bound to it (R483). -/
theorem functionLevelReset_override {f : Fin 64} (l : Nat) (halive : s.alive = true) (hf : f.val % 16 ≠ 0) (hk : s.sagOf (.fn f) = some k) :
    ∃ t, exec (.functionLevelReset f) s = .next t ∧
      t.rd R.LANE_CTL.OVERRIDE l = if s.octOwner (l / 8) = some k then R.LANE_CTL.OVERRIDE.reset l else s.rd R.LANE_CTL.OVERRIDE l := by
  change ∃ t, execFunctionLevelReset f s = .next t ∧ _ = _
  refine done_meets (P := fun t => t.rd R.LANE_CTL.OVERRIDE l = _) ?_
  have halive' : (s.withOut []).alive = true := halive
  have hk' : (s.withOut []).sagOf (.fn f) = some k := hk
  dsimp only
  rw [State.commit_rd, halive', hk', if_neg hf, decide_eq_false hf]
  have hreset := State.funcReset_override (s.withOut []) k l
  simp only [Option.toList_some, State.each, List.foldl_cons, List.foldl_nil, State.when, if_false, Bool.not_true, Bool.false_eq_true]
  generalize State.funcReset _ k = u at hreset ⊢
  exact hreset

/-! A tile whose octets have different owners -/

/-- A device in RUN whose saggar 0 is virtual function 1 of link 0 and owns octet 0 alone; lane 8, of octet 1 of the same tile, is forced. -/
def splitTile : State :=
  let im : Image := { imageOf [] with saggars := [⟨0, 0, 1, 4⟩], octOwner := [0] }
  ({ State.reset with m := { State.reset.m with mode := .run }, image := some im } : State).wr R.LANE_CTL.OVERRIDE 8 1

theorem splitTile_ready : splitTile.alive = true ∧ splitTile.sagOf (.fn 1) = some 0 ∧ splitTile.tileOwner 0 = some 0 ∧ splitTile.octOwner 1 = none ∧ splitTile.rd R.LANE_CTL.OVERRIDE 8 = 1 := by decide

/-- The reset of function 1 leaves lane 8 forced. -/
theorem splitTile_kept : ∃ t, exec (.functionLevelReset 1) splitTile = .next t ∧ t.rd R.LANE_CTL.OVERRIDE 8 = 1 := by
  obtain ⟨halive, hsag, -, hoct, hrd⟩ := splitTile_ready
  obtain ⟨t, ht, hl⟩ := functionLevelReset_override splitTile 0 8 halive (by decide) hsag
  exact ⟨t, ht, hl.trans ((if_neg fun e => absurd (hoct.symm.trans e) (by decide)).trans hrd)⟩

end Sys2Proof.Machine

open Sys2Proof Sys2Proof.Machine

/-- Refutes O9: a FUNC reset returns the lanes of the octets that the saggar owns, but the clause names those of the tiles whose first octet it owns; an image may give one tile's octets to different owners. -/
theorem not_functionResets : ¬ Obligations.FunctionResets := by
  rintro ⟨h, -⟩
  obtain ⟨halive, hsag, htile, -, -⟩ := splitTile_ready
  obtain ⟨t, ht, -, -, -, -, -, -, -, hreset, -, -⟩ := h splitTile 1 0 halive (by decide) hsag
  obtain ⟨u, hu, hkept⟩ := splitTile_kept
  cases ht.symm.trans hu
  exact absurd ((hreset 8 (by decide) htile).symm.trans hkept) (by decide)
end

section
/-! SUPPORT. The addressed memories of the device (R38, R40, R496) as one value: what leaves them alone, and when they are in their canonical form. -/

namespace Sys2Proof.Machine

variable (s : State)

/-- Every part but the four that hold addressed memories. -/
def memMask : Nat := 0xffffffffffffffffffffffffffffffffffffffffffffffffffffffffffffffffffffffffffffffffffffffffffffffffffffffffffffffffffffffffffffffffffffffffffffffffffffffffffffffffffffffffffffffffffffffffffffffffffffffffffffffffffffffffffffffffffffffffffffffffffffffffffffffffebdffeff

/-- The addressed memories: the capture store, the content of the boot flash and of the non-volatile store, and the stores of tiles and sequencers. -/
def State.mem : SMap Nat × SMap Nat × SMap Nat × SMap StoreSt := (s.cap, s.flash.cells, s.nvm.cells, s.stores)

/-- The memories of a tile's stores are in canonical form. -/
def StoreSt.wf (x : StoreSt) : Bool :=
  smWf (fun _ => 0) x.words && smWf (fun _ => 0) x.ctl && smWf (fun _ => 0) x.micro && smWf (fun _ => 0) x.nano && smWf (fun _ => 0) x.segs

/-- Addressed memories in canonical form. -/
def memWf (m : SMap Nat × SMap Nat × SMap Nat × SMap StoreSt) : Prop :=
  smWf (fun _ => 0) m.1 = true ∧ smWf (fun _ => 0xFF) m.2.1 = true ∧ smWf (fun _ => 0xFF) m.2.2.1 = true ∧ ∀ e ∈ m.2.2.2, e.2.wf = true

theorem memoryWf_iff : Memory.wf s = true ↔ memWf s.mem := by
  simp only [Memory.wf, memWf, State.mem, StoreSt.wf, Bool.and_eq_true, List.all_eq_true, and_assoc]

/-- The memories stand in the parts that the mask leaves. -/
theorem State.blur_mem : (s.blur memMask).mem = s.mem := rfl

/-! What leaves the memories alone, in the shape that rewriting uses -/

theorem State.ite_mem (c : Prop) [Decidable c] (s t : State) : (if c then s else t).mem = if c then s.mem else t.mem := by
  split <;> rfl

theorem State.mem_when (c : Bool) (f : State → State) (h : ((f s).blur memMask).mem = (s.blur memMask).mem) : ((s.when c f).blur memMask).mem = (s.blur memMask).mem := by
  cases c
  · rfl
  · exact h

theorem State.mem_each (l : List Nat) (f : State → Nat → State) (h : ∀ t n, ((f t n).blur memMask).mem = (t.blur memMask).mem) : ((s.each l f).blur memMask).mem = (s.blur memMask).mem :=
  s.each_induction (P := fun t => (t.blur memMask).mem = (s.blur memMask).mem) l f rfl fun t n e => (h t n).trans e

theorem State.mem_foldl {α : Type} (l : List α) (f : State → α → State) (h : ∀ t n, ((f t n).blur memMask).mem = (t.blur memMask).mem) : ((l.foldl f s).blur memMask).mem = (s.blur memMask).mem :=
  foldl_keeps (get := fun t => (State.blur memMask t).mem) (fun u e _ => h u e) s

theorem State.mem_with_nvm (v : NvmSt) (h : v.cells = s.nvm.cells) : (({ s with nvm := v } : State).blur memMask).mem = (s.blur memMask).mem := by
  rw [State.blur_mem, State.blur_mem, State.mem, State.mem, h]

theorem State.mem_with_flash (v : FlashSt) (h : v.cells = s.flash.cells) : (({ s with flash := v } : State).blur memMask).mem = (s.blur memMask).mem := by
  rw [State.blur_mem, State.blur_mem, State.mem, State.mem, h]

/-! What keeps the canonical form -/

section
variable {s}

theorem memWf_ite {c : Prop} [Decidable c] {s t : State} (hs : memWf (s.blur memMask).mem) (ht : memWf (t.blur memMask).mem) : memWf ((if c then s else t).blur memMask).mem := by
  split
  · exact hs
  · exact ht

theorem memWf_when (c : Bool) (f : State → State) (hs : memWf (s.blur memMask).mem) (h : memWf ((f s).blur memMask).mem) : memWf ((s.when c f).blur memMask).mem := by
  cases c
  · exact hs
  · exact h

theorem memWf_each (l : List Nat) (f : State → Nat → State) (hs : memWf (s.blur memMask).mem) (h : ∀ t n, memWf (t.blur memMask).mem → memWf ((f t n).blur memMask).mem) :
    memWf ((s.each l f).blur memMask).mem :=
  s.each_induction (P := fun t => memWf (t.blur memMask).mem) l f hs h

theorem memWf_foldl {α : Type} (l : List α) (f : State → α → State) (hs : memWf (s.blur memMask).mem) (h : ∀ t n, memWf (t.blur memMask).mem → memWf ((f t n).blur memMask).mem) :
    memWf ((l.foldl f s).blur memMask).mem :=
  foldl_invariant (P := fun t => memWf (State.blur memMask t).mem) (fun u e _ hu => h u e hu) hs

end

theorem StoreSt.wf_iff (x : StoreSt) : x.wf = true ↔
    smWf (fun _ => 0) x.words = true ∧ smWf (fun _ => 0) x.ctl = true ∧ smWf (fun _ => 0) x.micro = true ∧ smWf (fun _ => 0) x.nano = true ∧ smWf (fun _ => 0) x.segs = true := by
  simp only [StoreSt.wf, Bool.and_eq_true, and_assoc]

/-- A read gives what a key lists, or the default. -/
theorem smGet_mem {α : Type} (d : α) (m : SMap α) (k : Nat) : smGet d m k = d ∨ ∃ e ∈ m, e.2 = smGet d m k := by
  induction m with
  | nil => exact .inl rfl
  | cons e m ih =>
    rw [smGet_cons]
    split
    · exact .inr ⟨e, List.mem_cons_self, rfl⟩
    · exact ih.imp_right fun ⟨x, hx, hv⟩ => ⟨x, List.mem_cons_of_mem _ hx, hv⟩

theorem mem_smSet {α : Type} [DecidableEq α] {d : α} {m : SMap α} {k : Nat} {v : α} {e : Nat × α} (h : e ∈ smSet d m k v) : e = (k, v) ∨ e ∈ m := by
  unfold smSet at h
  split at h
  · exact .inr (mem_smErase h).1
  · exact mem_smPut h

variable {s}

theorem store_wf (q : Nat) (h : memWf (s.blur memMask).mem) : (s.store q).wf = true := by
  obtain ⟨-, -, -, hstores⟩ := h
  obtain e | ⟨x, hx, e⟩ := smGet_mem StoreSt.idle s.stores q
  · rw [State.store, e]
    rfl
  · rw [State.store, ← e]
    exact hstores x hx

theorem memWf_setStore {q : Nat} {x : StoreSt} (hx : x.wf = true) (h : memWf (s.blur memMask).mem) : memWf ((s.setStore q x).blur memMask).mem := by
  obtain ⟨hcap, hflash, hnvm, hstores⟩ := h
  refine ⟨hcap, hflash, hnvm, fun e he => ?_⟩
  obtain rfl | he := mem_smSet he
  · exact hx
  · exact hstores e he

theorem memWf_with_cap {v : SMap Nat} (hv : smWf (fun _ => 0) v = true) (h : memWf (s.blur memMask).mem) : memWf (({ s with cap := v } : State).blur memMask).mem := ⟨hv, h.2⟩

theorem memWf_with_flash {v : FlashSt} (hv : smWf (fun _ => 0xFF) v.cells = true) (h : memWf (s.blur memMask).mem) : memWf (({ s with flash := v } : State).blur memMask).mem := ⟨h.1, hv, h.2.2⟩

theorem memWf_with_nvm {v : NvmSt} (hv : smWf (fun _ => 0xFF) v.cells = true) (h : memWf (s.blur memMask).mem) : memWf (({ s with nvm := v } : State).blur memMask).mem := ⟨h.1, h.2.1, hv, h.2.2.2⟩

end Sys2Proof.Machine
end

section
/-! SUPPORT. The operations that change registers of the non-volatile store, of the repair map and of the flash master, and no addressed memory. -/

namespace Sys2Proof.Machine

theorem State.addRepair_mem (s : State) (a0 : ℕ) (a1 : ℕ) (a2 : ℕ) (a3 : ℕ) (a4 : ℕ) : ((State.addRepair s a0 a1 a2 a3 a4).blur memMask).mem = (s.blur memMask).mem := by
  unfold State.addRepair
  repeat' first
    | with_reducible rfl
    | simp (disch := decide) only [State.blur_ite, State.ite_mem, ite_self, State.mapChanged_blur, State.shard_blur, State.wr_blur]
    | with_reducible refine (State.mem_with_nvm _ _ ?_).trans ?_
    | split

theorem State.spareRow_mem (s : State) (a0 : ℕ) (a1 : ℕ) (a2 : ℕ) : ((State.spareRow s a0 a1 a2).blur memMask).mem = (s.blur memMask).mem := by
  unfold State.spareRow
  repeat' first
    | with_reducible rfl
    | simp (disch := decide) only [State.blur_with_spare, State.shard_blur, State.raise_blur, State.addRepair_mem, State.wr_blur]

theorem State.markRow_mem (s : State) (a0 : ℕ) (a1 : ℕ) (a2 : ℕ) : ((State.markRow s a0 a1 a2).blur memMask).mem = (s.blur memMask).mem := by
  unfold State.markRow
  repeat' first
    | with_reducible rfl
    | simp (disch := decide) only [State.blur_ite, State.ite_mem, ite_self, State.blur_with_spare, State.marked_blur, State.spareRow_mem]

theorem State.storeUe_mem (s : State) (a0 : ℕ) (a1 : ℕ) (a2 : ℕ) (a3 : ℕ) : ((State.storeUe s a0 a1 a2 a3).blur memMask).mem = (s.blur memMask).mem := by
  unfold State.storeUe
  repeat' first
    | with_reducible rfl
    | simp (disch := decide) only [State.markRow_mem, State.shard_blur]

theorem State.uploadWord_mem (s : State) (a0 : ℕ) (a1 : ℕ) (a2 : ℕ) : ((State.uploadWord s a0 a1 a2).blur memMask).mem = (s.blur memMask).mem := by
  unfold State.uploadWord
  repeat' first
    | with_reducible rfl
    | simp (disch := decide) only [State.blur_ite, State.ite_mem, State.send_blur, State.draw_blur, State.hostErr_blur, State.aer_blur, State.setRing_blur, State.storeUe_mem]
    | split

theorem State.ctxUe_mem (s : State) (a0 : ℕ) : ((State.ctxUe s a0).blur memMask).mem = (s.blur memMask).mem := by
  unfold State.ctxUe
  repeat' first
    | with_reducible rfl
    | simp (disch := decide) only [State.blur_ite, State.ite_mem, ite_self, State.blur_with_red, State.setCtx_blur, State.raise_blur, State.storeUe_mem]

theorem State.ctxWritten_mem (s : State) (a0 : ℕ) : ((State.ctxWritten s a0).blur memMask).mem = (s.blur memMask).mem := by
  unfold State.ctxWritten
  repeat' first
    | with_reducible rfl
    | simp (disch := decide) only [State.blur_ite, State.ite_mem, State.blur_with_red, State.ctxUe_mem, State.setCtx_blur, State.ctxOpen_blur]
    | with_reducible refine (State.mem_when _ _ _ ?_).trans ?_
    | split

theorem State.ctxComplete_mem (s : State) (a0 : ℕ) (a1 : ℕ) : ((State.ctxComplete s a0 a1).blur memMask).mem = (s.blur memMask).mem := by
  unfold State.ctxComplete
  repeat' first
    | with_reducible rfl
    | simp (disch := decide) only [State.blur_ite, State.ite_mem, ite_self, State.blur_with_red, State.setCtx_blur, State.grpSync_blur, State.ctxWritten_mem]

theorem State.makeUnavailable_mem (s : State) (a0 : ℕ) : ((State.makeUnavailable s a0).blur memMask).mem = (s.blur memMask).mem := by
  unfold State.makeUnavailable
  repeat' first
    | with_reducible rfl
    | simp (disch := decide) only [State.blur_ite, State.ite_mem, ite_self, State.blur_with_spare, State.addRepair_mem, State.shard_blur, State.bump_blur, State.wr_blur]

theorem State.loseUnit_mem (s : State) (a0 : ℕ) : ((State.loseUnit s a0).blur memMask).mem = (s.blur memMask).mem := by
  unfold State.loseUnit
  repeat' first
    | with_reducible rfl
    | simp (disch := decide) only [State.blur_ite, State.ite_mem, ite_self, State.unwait_blur, State.unavailEffect_blur, State.makeUnavailable_mem]

theorem State.settleWaiting_mem (s : State) : ((State.settleWaiting s).blur memMask).mem = (s.blur memMask).mem := by
  unfold State.settleWaiting
  repeat' first
    | with_reducible rfl
    | simp (disch := decide) only [State.spareSync_blur, State.unwait_blur, State.loseUnit_mem]
    | with_reducible refine (State.mem_when _ _ _ ?_).trans ?_
    | with_reducible refine (State.mem_each _ _ _ (fun t n => ?_)).trans ?_
    | with_reducible refine (State.mem_foldl _ _ _ (fun t n => ?_)).trans ?_

theorem State.retireFe_mem (s : State) (a0 : ℕ) (a1 : ℕ) (a2 : ℕ) : ((State.retireFe s a0 a1 a2).blur memMask).mem = (s.blur memMask).mem := by
  unfold State.retireFe
  repeat' first
    | with_reducible rfl
    | simp (disch := decide) only [State.blur_with_spare, State.wr_blur, State.feSync_blur, State.shard_blur, State.raise_blur, State.addRepair_mem, State.makeUnavailable_mem]
    | with_reducible refine (State.mem_when _ _ _ ?_).trans ?_

theorem State.bringIn_mem (s : State) (a0 : ℕ) (a1 : ℕ) (a2 : ℕ) : ((State.bringIn s a0 a1 a2).blur memMask).mem = (s.blur memMask).mem := by
  unfold State.bringIn
  repeat' first
    | with_reducible rfl
    | simp (disch := decide) only [State.blur_ite, State.ite_mem, ite_self, State.shard_blur, State.raise_blur, State.addRepair_mem, State.unwait_blur, State.wr_blur, State.retireFe_mem, State.makeUnavailable_mem, State.calTouch_blur, State.showRetired_blur, State.setUnit_blur, State.dropSpare_blur, State.pair_blur, State.dpsOpen_blur, State.setDps_blur, State.wb_blur, State.dpsClose_blur, State.tdcDisarm_blur, State.spareSync_blur]
    | with_reducible refine (State.mem_when _ _ _ ?_).trans ?_
    | split

theorem State.spareAll_mem (s : State) (a0 : State → ℕ → Bool) : ((State.spareAll s a0).blur memMask).mem = (s.blur memMask).mem := by
  unfold State.spareAll
  repeat' first
    | with_reducible rfl
    | simp (disch := decide) only [State.blur_ite, State.ite_mem, State.settleWaiting_mem, State.bringIn_mem]
    | with_reducible refine (State.mem_when _ _ _ ?_).trans ?_
    | with_reducible refine (State.mem_each _ _ _ (fun t n => ?_)).trans ?_
    | with_reducible refine (State.mem_foldl _ _ _ (fun t n => ?_)).trans ?_
    | split

theorem State.sparesStep_mem (s : State) : ((State.sparesStep s).blur memMask).mem = (s.blur memMask).mem := by
  unfold State.sparesStep
  repeat' first
    | with_reducible rfl
    | simp (disch := decide) only [State.blur_ite, State.ite_mem, ite_self, State.blur_with_m, State.spareAll_mem, State.calNext_blur, State.setCal_blur]
    | with_reducible refine (State.mem_each _ _ _ (fun t n => ?_)).trans ?_

theorem State.nvmStart_mem (s : State) (a0 : ℕ) (a1 : List ℕ) (a2 : Bool) : ((State.nvmStart s a0 a1 a2).blur memMask).mem = (s.blur memMask).mem := by
  unfold State.nvmStart
  repeat' first
    | with_reducible rfl
    | simp (disch := decide) only [State.wr_blur]
    | with_reducible refine (State.mem_with_nvm _ _ ?_).trans ?_
    | split

theorem State.startStep_mem (s : State) (a0 : ℕ) : ((State.startStep s a0).blur memMask).mem = (s.blur memMask).mem := by
  unfold State.startStep
  repeat' first
    | with_reducible rfl
    | simp (disch := decide) only [State.blur_ite, State.ite_mem, ite_self, State.blur_with_m, State.wr_blur, State.calStart_blur, State.sparesStep_mem, State.nvmStart_mem, State.raise_blur]
    | with_reducible refine (State.mem_each _ _ _ (fun t n => ?_)).trans ?_
    | split

theorem State.nvmTake_mem (s : State) (a0 : ℕ) : ((State.nvmTake s a0).blur memMask).mem = (s.blur memMask).mem := by
  unfold State.nvmTake
  dsimp only
  have hchosen (v : SMap Chosen) : (({ s with nvm := { s.nvm with chosen := v } } : State).blur memMask).mem = (s.blur memMask).mem := rfl
  split
  · exact hchosen _
  all_goals
    refine (State.mem_when _ _ _ ?_).trans (hchosen _)
    simp (disch := decide) only [State.shard_blur]

theorem State.nvmPowerUp_mem (s : State) : ((State.nvmPowerUp s).blur memMask).mem = (s.blur memMask).mem := by
  have hmap (u : State) (v : SMap Nat) : (({ u with nvm := { u.nvm with pageMap := v } } : State).blur memMask).mem = (u.blur memMask).mem := rfl
  have hready (u : State) : (({ u with nvm := { u.nvm with ready := true } } : State).blur memMask).mem = (u.blur memMask).mem := rfl
  unfold State.nvmPowerUp
  split
  · rfl
  · dsimp only
    refine (hready _).trans ?_
    simp (disch := decide) only [State.wr_blur, State.wb_blur]
    refine (State.mem_each _ _ _ fun t n => t.nvmTake_mem n).trans ?_
    rw [State.wr_blur _ _ _ _ (by decide)]
    refine Eq.trans ?_ (s.nvmTake_mem 1)
    generalize s.nvmTake 1 = u
    split
    · exact hmap _ _
    · exact hmap _ _

theorem State.repairMapStep_mem (s : State) : ((State.repairMapStep s).blur memMask).mem = (s.blur memMask).mem := by
  unfold State.repairMapStep
  repeat' first
    | with_reducible rfl
    | simp (disch := decide) only [State.nvmPowerUp_mem, State.loadBaseline_blur, State.applyRepairs_blur, State.wr_blur]
    | with_reducible refine (State.mem_with_nvm _ _ ?_).trans ?_
    | split

theorem State.seekSpare_mem (s : State) (a0 : ℕ) (a1 : ℕ) : ((State.seekSpare s a0 a1).blur memMask).mem = (s.blur memMask).mem := by
  unfold State.seekSpare
  dsimp only
  repeat' first
    | with_reducible rfl
    | split
    | simp (disch := decide) only [State.blur_with_spare, State.shard_blur, State.raise_blur, State.wr_blur, State.bump_blur, State.dropSpare_blur, State.setUnit_blur, State.loseUnit_mem, State.bringIn_mem, State.askHandover_blur]

theorem State.markUnit_mem (s : State) (a0 : ℕ) (a1 : ℕ) (a2 : ℕ) (a3 : ℕ) : ((State.markUnit s a0 a1 a2 a3).blur memMask).mem = (s.blur memMask).mem := by
  unfold State.markUnit
  repeat' first
    | with_reducible rfl
    | simp (disch := decide) only [State.blur_ite, State.ite_mem, State.marked_blur, State.setUnit_blur, State.gangDrop_blur, State.settleWaiting_mem, State.seekSpare_mem]
    | with_reducible refine (State.mem_when _ _ _ ?_).trans ?_
    | split

theorem State.testFails_mem (s : State) (a0 : List ℕ) : ((State.testFails s a0).blur memMask).mem = (s.blur memMask).mem := by
  unfold State.testFails
  repeat' first
    | with_reducible rfl
    | simp (disch := decide) only [State.draw_blur, State.bump_blur, State.markUnit_mem]
    | with_reducible refine (State.mem_when _ _ _ ?_).trans ?_
    | with_reducible refine (State.mem_each _ _ _ (fun t n => ?_)).trans ?_
    | with_reducible refine (State.mem_foldl _ _ _ (fun t n => ?_)).trans ?_

theorem State.locked_mem (s : State) : ((State.locked s).blur memMask).mem = (s.blur memMask).mem := by
  unfold State.locked
  repeat' first
    | with_reducible rfl
    | simp (disch := decide) only [State.blur_with_m, State.raise_blur, State.wr_blur, State.quals_blur, State.tryBoot_blur, State.startStep_mem]
    | with_reducible refine (State.mem_when _ _ _ ?_).trans ?_

theorem State.prefetch_mem (s : State) (a0 : ℕ) (a1 : ℕ) : ((State.prefetch s a0 a1).blur memMask).mem = (s.blur memMask).mem := by
  have hflash (v : FlashSt) (h : v.cells = s.flash.cells) : (({ s with flash := v } : State).blur memMask).mem = (s.blur memMask).mem := s.mem_with_flash v h
  unfold State.prefetch
  dsimp only
  split
  · split
    · split
      · exact hflash _ rfl
      · rfl
    · exact hflash _ rfl
  · exact hflash _ rfl

theorem State.winRead_mem (s : State) (a0 : ℕ) (a1 : ℕ) : ((State.winRead s a0 a1).1.blur memMask).mem = (s.blur memMask).mem := by
  unfold State.winRead
  repeat' first
    | with_reducible rfl
    | simp (disch := decide) only [State.blur_ite_fst, State.ite_mem, ite_self, State.wr_blur, State.prefetch_mem, State.send_blur]
    | with_reducible refine (State.mem_when _ _ _ ?_).trans ?_
    | split

theorem sprCmdHook_mem (a0 : Req) (a1 : ℕ) (a2 : ℕ) (a3 : ℕ) (s : State) : ((sprCmdHook a0 a1 a2 a3 s).1.blur memMask).mem = (s.blur memMask).mem := by
  unfold sprCmdHook
  repeat' first
    | with_reducible rfl
    | simp (disch := decide) only [State.blur_ite_fst, State.ite_mem, ite_self, State.blur_with_spare, State.wr_blur, State.draw_blur, State.markUnit_mem]
    | split

theorem State.nvmKick_mem (s : State) : ((State.nvmKick s).blur memMask).mem = (s.blur memMask).mem := by
  have hwait (v : Option Nat) : (({ s with nvm := { s.nvm with waiting := v } } : State).blur memMask).mem = (s.blur memMask).mem := rfl
  unfold State.nvmKick
  split
  · rfl
  · simp (disch := decide) only [State.blur_ite, State.ite_mem, State.wr_blur, State.wb_blur, State.nvmStart_mem, hwait, ite_self]

theorem nvmCmdHook_mem (a0 : Req) (a1 : ℕ) (a2 : ℕ) (a3 : ℕ) (s : State) : ((nvmCmdHook a0 a1 a2 a3 s).1.blur memMask).mem = (s.blur memMask).mem := by
  have hwait (u : State) (v : Option Nat) : (({ u with nvm := { u.nvm with waiting := v } } : State).blur memMask).mem = (u.blur memMask).mem := rfl
  have hbuf (u : State) (l : List Nat) (g : Nat → Nat) : ((u.each l fun s j => s.wr R.NVM_BUF.DATA j (g j)).blur memMask).mem = (u.blur memMask).mem :=
    State.mem_each _ _ _ fun t n => congrArg State.mem (State.wr_blur _ _ _ _ (by decide))
  unfold nvmCmdHook
  simp (disch := decide) only [State.blur_ite_fst, State.ite_mem, State.wr_blur, State.wb_blur, State.nvmKick_mem, hwait, hbuf, ite_self]

theorem State.ctxCmd_mem (s : State) (a0 : ℕ) (a1 : ℕ) : ((State.ctxCmd s a0 a1).blur memMask).mem = (s.blur memMask).mem := by
  unfold State.ctxCmd
  repeat' first
    | with_reducible rfl
    | simp (disch := decide) only [State.blur_ite, State.ite_mem, ite_self, State.blur_with_red, State.ctxComplete_mem, State.ctxUe_mem, State.setCtx_blur, State.grpSync_blur, State.ctxOpen_blur]

theorem State.measure_mem (s : State) (a0 : ℕ) (a1 : ℕ) (a2 : ℕ) : ((State.measure s a0 a1 a2).1.blur memMask).mem = (s.blur memMask).mem := by
  unfold State.measure
  repeat' first
    | with_reducible rfl
    | simp (disch := decide) only [State.blur_ite_fst, State.ite_mem, ite_self, State.ctxCmd_mem]

theorem State.measureWord_mem (s : State) (a0 : ℕ) (a1 : ℕ) (a2 : ℕ) : ((State.measureWord s a0 a1 a2).blur memMask).mem = (s.blur memMask).mem := by
  unfold State.measureWord
  repeat' first
    | with_reducible rfl
    | simp (disch := decide) only [State.measure_mem, State.setSeq_blur, State.wr_blur]
    | with_reducible refine (State.mem_when _ _ _ ?_).trans ?_

theorem State.winWrite_mem (s : State) (a0 : Req) (a1 : ℕ) (a2 : List (ℕ × ℕ)) : ((State.winWrite s a0 a1 a2).1.blur memMask).mem = (s.blur memMask).mem := by
  have hprog (u : State) (v : Option (List (Nat × Nat))) : (({ u with flash := { u.flash with program := v } } : State).blur memMask).mem = (u.blur memMask).mem := rfl
  have hwhen (u : State) (c : Bool) (f : Fld) (hf : memMask.testBit (32 + f.key % 1024) = true) : ((u.when c fun s => s.wr f 0 1).blur memMask).mem = (u.blur memMask).mem :=
    State.mem_when _ _ _ (congrArg State.mem (State.wr_blur _ _ _ _ hf))
  unfold State.winWrite
  simp (disch := decide) only [State.blur_ite_fst, State.ite_mem, State.wr_blur, State.send_blur, hprog, hwhen, ite_self]

theorem State.winAct_mem (s : State) (a0 : Req) (a1 : ℕ) (a2 : List (ℕ × ℕ)) : ((State.winAct s a0 a1 a2).blur memMask).mem = (s.blur memMask).mem := by
  unfold State.winAct
  repeat' first
    | with_reducible rfl
    | simp (disch := decide) only [State.blur_ite, State.ite_mem, State.refuse_blur, State.winWrite_mem]
    | with_reducible refine (State.mem_when _ _ _ ?_).trans ?_
    | split

theorem State.flashGo_mem (s : State) : ((State.flashGo s).blur memMask).mem = (s.blur memMask).mem := by
  have hwhen (u : State) (c : Bool) (o : Out) : ((u.when c fun s => s.send o).blur memMask).mem = (u.blur memMask).mem := State.mem_when _ _ _ rfl
  unfold State.flashGo
  simp (disch := decide) only [State.send_blur, hwhen, State.wr_blur]
  rfl

theorem flsCmdHook_mem (a0 : Req) (a1 : ℕ) (a2 : ℕ) (a3 : ℕ) (s : State) : ((flsCmdHook a0 a1 a2 a3 s).1.blur memMask).mem = (s.blur memMask).mem := by
  unfold flsCmdHook
  repeat' first
    | with_reducible rfl
    | simp (disch := decide) only [State.blur_ite_fst, State.ite_mem, ite_self, writeWord_blur, State.flashGo_mem, State.wr_blur]

theorem redCmdHook_mem (a0 : Req) (a1 : ℕ) (a2 : ℕ) (a3 : ℕ) (s : State) : ((redCmdHook a0 a1 a2 a3 s).1.blur memMask).mem = (s.blur memMask).mem := by
  unfold redCmdHook
  repeat' first
    | with_reducible rfl
    | simp (disch := decide) only [State.blur_ite_fst, State.ite_mem, ite_self, writeWord_blur, State.wr_blur, State.ctxCmd_mem]

theorem State.ctxDrain_mem (s : State) : ((State.ctxDrain s).blur memMask).mem = (s.blur memMask).mem := by
  unfold State.ctxDrain
  repeat' first
    | with_reducible rfl
    | simp (disch := decide) only [State.blur_ite, State.ite_mem, ite_self, State.grpSync_blur, State.ctxWritten_mem]
    | with_reducible refine (State.mem_when _ _ _ ?_).trans ?_
    | with_reducible refine (State.mem_each _ _ _ (fun t n => ?_)).trans ?_

theorem grpRptrHook_mem (a0 : Req) (a1 : ℕ) (a2 : ℕ) (a3 : ℕ) (s : State) : ((grpRptrHook a0 a1 a2 a3 s).1.blur memMask).mem = (s.blur memMask).mem := by
  unfold grpRptrHook
  repeat' first
    | with_reducible rfl
    | simp (disch := decide) only [writeWord_blur, State.grpSync_blur, State.ctxDrain_mem]

theorem State.sliceUe_mem (s : State) (a0 : ℕ) (a1 : ℕ) (a2 : ℕ) (a3 : ℕ) : ((State.sliceUe s a0 a1 a2 a3).blur memMask).mem = (s.blur memMask).mem := by
  unfold State.sliceUe
  repeat' first
    | with_reducible rfl
    | simp (disch := decide) only [State.storeUe_mem, State.wr_blur]

theorem State.windowRound_mem (s : State) (a0 : List ℤ) : ((State.windowRound s a0).blur memMask).mem = (s.blur memMask).mem := by
  unfold State.windowRound
  repeat' first
    | with_reducible rfl
    | simp (disch := decide) only [State.blur_with_hk, State.nvmKick_mem, State.wb_blur]

theorem State.calMeasured_mem (s : State) (a0 : ℕ) (a1 : ℕ) (a2 : ℕ) (a3 : List ℤ) (a4 : Bool) : ((State.calMeasured s a0 a1 a2 a3 a4).blur memMask).mem = (s.blur memMask).mem := by
  unfold State.calMeasured
  repeat' first
    | with_reducible rfl
    | simp (disch := decide) only [State.blur_ite, State.ite_mem, State.markUnit_mem, State.bump_blur, State.calResult_blur, State.draw_blur, State.calApply_blur]
    | split

theorem State.calAttempt_mem (s : State) (a0 : ℕ) (a1 : ℕ) (a2 : ℕ) (a3 : CalOutcome) : ((State.calAttempt s a0 a1 a2 a3).blur memMask).mem = (s.blur memMask).mem := by
  unfold State.calAttempt
  repeat' first
    | with_reducible rfl
    | simp (disch := decide) only [State.gapReturn_blur, State.calSpineFail_blur, State.calGo_blur, State.setCal_blur, State.calMeasured_mem, State.calShadow_blur, State.wr_blur]
    | with_reducible refine (State.mem_when _ _ _ ?_).trans ?_
    | split

theorem State.residueFail_mem (s : State) (a0 : ℕ) (a1 : ℕ) : ((State.residueFail s a0 a1).blur memMask).mem = (s.blur memMask).mem := by
  unfold State.residueFail
  repeat' first
    | with_reducible rfl
    | simp (disch := decide) only [State.blur_ite, State.ite_mem, ite_self, State.draw_blur, State.markUnit_mem]

theorem State.busRead_mem (s : State) (a0 : Req) (a1 : ℕ) : ((State.busRead s a0 a1).1.blur memMask).mem = (s.blur memMask).mem := by
  unfold State.busRead
  repeat' first
    | with_reducible rfl
    | simp (disch := decide) only [State.blur_ite_fst, State.ite_mem, ite_self, State.winRead_mem, State.regRead_blur]
    | split

theorem State.hostRead_mem (s : State) (a0 : Req) (a1 : ℕ) (a2 : Reg → Bool) : ((State.hostRead s a0 a1 a2).blur memMask).mem = (s.blur memMask).mem := by
  unfold State.hostRead
  repeat' first
    | with_reducible rfl
    | simp (disch := decide) only [State.blur_ite, State.ite_mem, ite_self, State.busRead_mem, State.send_blur, State.busClear_blur]
    | split

theorem State.ctxSample_mem (s : State) (a0 : RedSample) : ((State.ctxSample s a0).blur memMask).mem = (s.blur memMask).mem := by
  unfold State.ctxSample
  repeat' first
    | with_reducible rfl
    | simp (disch := decide) only [State.blur_ite, State.ite_mem, ite_self, State.ctxDrop_blur, State.ctxUe_mem, State.bump_blur, State.ctxComplete_mem, State.setCtx_blur]

theorem State.segErrors_mem (s : State) (a0 : ℕ) (a1 : ℕ) (a2 : List ℕ) : ((State.segErrors s a0 a1 a2).blur memMask).mem = (s.blur memMask).mem := by
  unfold State.segErrors
  repeat' first
    | with_reducible rfl
    | simp (disch := decide) only [State.bump_blur, State.raise_blur, State.sliceUe_mem, State.wr_blur]
    | split

theorem State.segVector_mem (s : State) (a0 : ℕ) : ((State.segVector s a0).blur memMask).mem = (s.blur memMask).mem := by
  unfold State.segVector
  repeat' first
    | with_reducible rfl
    | simp (disch := decide) only [State.wr_blur, State.decide'_blur, State.segErrors_mem, State.groupStop_blur, State.tileStop_blur, State.segPlay_blur]
    | with_reducible refine (State.mem_when _ _ _ ?_).trans ?_
    | split

theorem State.retirePage_mem (s : State) (a0 : ℕ) : ((State.retirePage s a0).1.blur memMask).mem = (s.blur memMask).mem := by
  have hmap (u : State) (v : SMap Nat) : (({ u with nvm := { u.nvm with pageMap := v } } : State).blur memMask).mem = (u.blur memMask).mem := rfl
  unfold State.retirePage
  split
  · simp (disch := decide) only [State.raise_blur, State.shard_blur]
  · simp (disch := decide) only [State.raise_blur, State.shard_blur, State.wr_blur, hmap]

theorem State.ctxUpdate_mem (s : State) (a0 : RedSample) : ((State.ctxUpdate s a0).blur memMask).mem = (s.blur memMask).mem := by
  unfold State.ctxUpdate
  repeat' first
    | with_reducible rfl
    | simp (disch := decide) only [State.blur_with_red, State.ctxSample_mem]

theorem State.spiRead_mem (s : State) (a0 : ℕ) (a1 : ℕ) : ((State.spiRead s a0 a1).1.blur memMask).mem = (s.blur memMask).mem := by
  unfold State.spiRead
  repeat' first
    | with_reducible rfl
    | simp (disch := decide) only [State.blur_ite_fst, State.ite_mem, ite_self, State.busRead_mem]

theorem State.spiWords_mem (s : State) (a0 : ℕ) (a1 : ℕ) (a2 : ℕ) : ((State.spiWords s a0 a1 a2).1.blur memMask).mem = (s.blur memMask).mem := by
  induction a1 generalizing a2 s with
  | zero => rfl
  | succ n ih =>
    unfold State.spiWords
    dsimp only
    rw [ih]
    split
    · exact State.spiRead_mem _ _ _
    · rfl

theorem State.uploadPart_mem (s : State) (a0 : ℕ) : ((State.uploadPart s a0).blur memMask).mem = (s.blur memMask).mem := by
  unfold State.uploadPart
  repeat' first
    | with_reducible rfl
    | simp (disch := decide) only [State.blur_ite, State.ite_mem, State.uploadWord_mem, State.setRing_blur]
    | with_reducible refine (State.mem_when _ _ _ ?_).trans ?_
    | with_reducible refine (State.mem_each _ _ _ (fun t n => ?_)).trans ?_
    | split

theorem State.nvmEnd_mem (s : State) (a0 : Bool) (a1 : ℕ) : ((State.nvmEnd s a0 a1).blur memMask).mem = (s.blur memMask).mem := by
  unfold State.nvmEnd
  simp (disch := decide) only [State.nvmKick_mem, State.raise_blur]
  refine (State.mem_when _ _ _ (by simp (disch := decide) only [State.wr_blur])).trans ?_
  rw [State.wr_blur _ _ _ _ (by decide)]
  rfl

end Sys2Proof.Machine
end

section
/-! SUPPORT. The operations that write an addressed memory keep its canonical form: writes of the stores, the capture store, the flash and the non-volatile store. -/

namespace Sys2Proof.Machine

variable {s : State} {x : StoreSt}

/-! The stores of one tile -/

theorem StoreSt.putWord_wf (row k v : Nat) (h : x.wf = true) : (x.putWord row k v).wf = true := by
  obtain ⟨hwords, hrest⟩ := x.wf_iff.1 h
  exact (StoreSt.wf_iff _).2 ⟨smWf_smSet (d := fun _ => 0) _ _ hwords, hrest⟩

theorem StoreSt.putCtl_wf (row v : Nat) (h : x.wf = true) : (x.putCtl row v).wf = true := by
  obtain ⟨hwords, hctl, hrest⟩ := x.wf_iff.1 h
  exact (StoreSt.wf_iff _).2 ⟨hwords, smWf_smSet (d := fun _ => 0) _ _ hctl, hrest⟩

theorem StoreSt.putMicro_wf (a v : Nat) (h : x.wf = true) : ({ x with micro := smSet 0 x.micro a v } : StoreSt).wf = true := by
  obtain ⟨hwords, hctl, hmicro, hrest⟩ := x.wf_iff.1 h
  exact (StoreSt.wf_iff _).2 ⟨hwords, hctl, smWf_smSet (d := fun _ => 0) _ _ hmicro, hrest⟩

theorem StoreSt.putNano_wf (a v : Nat) (h : x.wf = true) : ({ x with nano := smSet 0 x.nano a v } : StoreSt).wf = true := by
  obtain ⟨hwords, hctl, hmicro, hnano, hsegs⟩ := x.wf_iff.1 h
  exact (StoreSt.wf_iff _).2 ⟨hwords, hctl, hmicro, smWf_smSet (d := fun _ => 0) _ _ hnano, hsegs⟩

theorem StoreSt.putSeg_wf (a v : Nat) (h : x.wf = true) : ({ x with segs := smSet 0 x.segs a v } : StoreSt).wf = true := by
  obtain ⟨hwords, hctl, hmicro, hnano, hsegs⟩ := x.wf_iff.1 h
  exact (StoreSt.wf_iff _).2 ⟨hwords, hctl, hmicro, hnano, smWf_smSet (d := fun _ => 0) _ _ hsegs⟩

theorem StoreSt.putWords_wf (l : List Nat) (row v : Nat → Nat) (k : Nat → Nat) (h : x.wf = true) : (l.foldl (fun x j => x.putWord (row j) (k j) (v j)) x).wf = true :=
  foldl_invariant (P := fun x : StoreSt => x.wf = true) (fun u j _ hu => u.putWord_wf _ _ _ hu) h

section
variable (h : memWf (s.blur memMask).mem)
include h

/-! The vector slices -/

theorem State.rowBlock_wf (t row : Nat) (b : List Nat) : memWf ((s.rowBlock t row b).blur memMask).mem := by
  refine memWf_setStore (foldl_invariant (P := fun x : StoreSt => x.wf = true) (fun u j _ hu => ?_) (store_wf t h)) h
  exact StoreSt.putCtl_wf _ _ (StoreSt.putWords_wf (List.range 4) (fun _ => row + j) _ id hu)

theorem State.sliceMerge_wf (t row k : Nat) (bs : List (Option Nat)) : memWf ((s.sliceMerge t row k bs).blur memMask).mem := by
  have hport : memWf ((s.portTake t bs).blur memMask).mem := h
  unfold State.sliceMerge
  dsimp only
  refine memWf_ite ?_ (memWf_setStore (StoreSt.putWord_wf _ _ _ (store_wf t hport)) hport)
  simp (disch := decide) only [State.sliceUe_mem, State.wr_blur]
  exact hport

theorem State.ctlMerge_wf (t row : Nat) (bs : List (Option Nat)) : memWf ((s.ctlMerge t row bs).blur memMask).mem := by
  have hport : memWf ((s.portTake t bs).blur memMask).mem := h
  unfold State.ctlMerge
  dsimp only
  refine memWf_ite ?_ (memWf_setStore (StoreSt.putCtl_wf _ _ (store_wf t hport)) hport)
  simp (disch := decide) only [State.sliceUe_mem, State.wr_blur]
  exact hport

theorem State.legacyWord_wf (p a : Nat) (bs : List (Option Nat)) : memWf ((s.legacyWord p a bs).blur memMask).mem := by
  unfold State.legacyWord
  refine memWf_ite (State.sliceMerge_wf h _ _ _ _) (memWf_ite (memWf_each _ _ h fun u j hu => ?_) h)
  exact memWf_ite hu (State.ctlMerge_wf hu _ _ _)

theorem State.ctlwDataHook_wf (rq : Req) (t w be : Nat) : memWf ((ctlwDataHook rq t w be s).1.blur memMask).mem := by
  unfold ctlwDataHook
  simp (disch := decide) only [State.blur_ite_fst, State.wr_blur]
  split
  · exact h
  split
  · exact h
  · refine memWf_setStore ?_ h
    have hx := store_wf t h
    split_ifs
    · exact StoreSt.putCtl_wf _ _ (StoreSt.putCtl_wf _ _ hx)
    · exact StoreSt.putCtl_wf _ _ hx
    · exact StoreSt.putCtl_wf _ _ hx
    · exact hx

/-! The capture store -/

theorem State.capMerge_wf (w : Nat) (bs : List (Option Nat)) : memWf ((s.capMerge w bs).blur memMask).mem := by
  unfold State.capMerge
  refine memWf_ite (by rw [State.storeUe_mem]; exact h) ?_
  exact memWf_with_cap (s := { s with capEcc := smSet 0 s.capEcc w 0 }) (smWf_smSet (d := fun _ => 0) _ _ h.1) h

theorem State.capPut_wf (a : Nat) (b : List Nat) : memWf ((s.capPut a b).blur memMask).mem :=
  memWf_foldl _ _ h fun _ _ hu => State.capMerge_wf hu _ _

theorem State.acqFlush_wf (t : Nat) : memWf ((s.acqFlush t).blur memMask).mem := by
  unfold State.acqFlush
  exact memWf_foldl _ _ h fun _ _ hu => State.capPut_wf hu _ _

theorem State.acqStore_wf (t : Nat) (b : AcqSt) : memWf ((s.acqStore t b).1.blur memMask).mem := by
  unfold State.acqStore
  rw [State.blur_ite_fst, State.ite_mem]
  split
  · simp (disch := decide) only [State.acqClosing_blur, State.raise_blur]
    exact h
  · exact State.acqFlush_wf (s := s.setAcq t b) h t

theorem State.acqTake_wf (t : Nat) (a : AcqSample) : memWf ((s.acqTake t a).blur memMask).mem := by
  unfold State.acqTake
  dsimp only
  refine memWf_ite (by rw [State.acqClosing_blur _ _ _ (by decide)]; exact h) (memWf_ite ?_ (State.acqStore_wf h _ _))
  rw [State.acqClosing_blur _ _ _ (by decide)]
  exact State.acqStore_wf h _ _

end

theorem State.acqPreAll_wf (t dec : Nat) (l : List (Nat × AcqSample)) (h : memWf (s.blur memMask).mem) : memWf ((State.acqPreAll t dec l s).1.blur memMask).mem := by
  induction l generalizing s with
  | nil => exact h
  | cons e l ih =>
    have hstore := State.acqStore_wf h t (s.acqPreTake t (s.acq t) e.2 (e.1 % dec = 0))
    unfold State.acqPreAll
    split
    · next heq =>
      rw [heq] at hstore
      exact ih hstore
    · next heq =>
      rw [heq] at hstore
      exact hstore

section
variable (h : memWf (s.blur memMask).mem)
include h

theorem State.acqTrigger_wf (t : Nat) (a : AcqSample) (cause : Nat) : memWf ((s.acqTrigger t a cause).blur memMask).mem := by
  unfold State.acqTrigger
  dsimp only
  have hpre (b : AcqSt) (dec : Nat) (l : List (Nat × AcqSample)) : memWf ((State.acqPreAll t dec l ((s.setAcq t b).wr R.ACQ_CTL.STATE t 3)).1.blur memMask).mem :=
    State.acqPreAll_wf t dec l (by rw [State.wr_blur _ _ _ _ (by decide)]; exact h)
  exact memWf_ite (State.acqTake_wf (hpre _ _ _) _ _) (hpre _ _ _)

theorem State.bar2Write_wf (rq : Req) (off : Nat) (b : List Nat) : memWf ((s.bar2Write rq off b).blur memMask).mem := by
  unfold State.bar2Write State.legacyWrite
  dsimp only
  refine memWf_ite h (memWf_ite ?_ ?_)
  · have hall := fun l : List (Nat × List (Option Nat)) => memWf_foldl l (fun s e => s.legacyWord (8 * e.1 / 0x4000000) (8 * e.1 % 0x4000000) e.2) h fun u e hu => State.legacyWord_wf hu _ _ _
    exact memWf_when _ _ (hall _) (by rw [State.bar2Refuse_blur _ _ _ (by decide)]; exact hall _)
  · have hall (l : List (Nat × List (Option Nat))) : memWf ((l.foldl (fun s e =>
        if 8 * e.1 < capBase then s.sliceMerge (e.1 / 1572864) (e.1 % 1572864 / 4) (e.1 % 4) e.2 else s.capMerge (e.1 - capBase / 8) e.2) s).blur memMask).mem :=
      memWf_foldl _ _ h fun u e hu => memWf_ite (State.sliceMerge_wf hu _ _ _ _) (State.capMerge_wf hu _ _)
    exact memWf_when _ _ (hall _) (by rw [State.bar2Refuse_blur _ _ _ (by decide)]; exact hall _)

/-! The sequencer stores -/

theorem State.microWrite_wf (q a w be : Nat) : memWf ((s.microWrite q a w be).blur memMask).mem := by
  unfold State.microWrite
  rw [State.flagSync_blur _ _ (by decide)]
  exact memWf_setStore (StoreSt.putMicro_wf _ _ (store_wf q h)) h

theorem State.stagePiece_wf (q win n piece w be : Nat) : memWf ((s.stagePiece q win n piece w be).blur memMask).mem := by
  unfold State.stagePiece
  rw [State.flagSync_blur _ _ (by decide)]
  refine memWf_setStore ?_ h
  have hx := store_wf q h
  dsimp only
  split_ifs
  · exact StoreSt.putNano_wf _ _ hx
  · exact hx
  · exact StoreSt.putSeg_wf _ _ hx
  · exact hx

theorem State.windowWrite_wf (rq : Req) (off w be : Nat) : memWf ((s.windowWrite rq off w be).blur memMask).mem := by
  unfold State.windowWrite
  refine memWf_ite h ?_
  split
  · exact h
  · refine memWf_ite (by rw [State.refuse_blur _ _ _ _ (by decide)]; exact h) (memWf_ite h ?_)
    rw [State.wr_blur _ _ _ _ (by decide)]
    exact memWf_ite (State.microWrite_wf h _ _ _ _) (State.stagePiece_wf h _ _ _ _ _ _)

theorem State.recoverWord_wf (q key : Nat) (hard : Bool) : memWf ((s.recoverWord q key hard).blur memMask).mem := by
  unfold State.recoverWord
  dsimp only
  simp (disch := decide) only [State.shard_blur, State.wr_blur, State.flagSync_blur]
  generalize hu : State.when s hard _ = u
  have hw : memWf (u.blur memMask).mem := by
    rw [← hu]
    refine memWf_when _ _ h (memWf_ite ?_ ?_)
    · simp only [State.spareRow_mem, State.markRow_mem]
      exact h
    · rw [State.markRow_mem]
      exact h
  have hx := store_wf q hw
  refine memWf_setStore ?_ hw
  split
  · exact StoreSt.putNano_wf _ _ hx
  · exact StoreSt.putMicro_wf _ _ hx

theorem State.storeTest_wf (fails hard : List Nat) : memWf ((s.storeTest fails hard).blur memMask).mem := by
  unfold State.storeTest
  refine memWf_each _ _ ⟨rfl, h.2.1, h.2.2.1, fun e he => ?_⟩ fun u k hu => ?_
  · obtain rfl | he := mem_smSet he
    · exact store_wf 16 h
    · exact absurd he List.not_mem_nil
  · refine memWf_ite (by rw [State.raise_blur _ _ (by decide)]; exact State.recoverWord_wf hu _ _ _) (memWf_ite hu (memWf_ite ?_ ?_))
    · simp only [State.spareRow_mem, State.markRow_mem]
      exact hu
    · rw [State.markRow_mem]
      exact hu

theorem State.recover_wf (q : Nat) (hard : Bool) : memWf ((s.recover q hard).blur memMask).mem := by
  unfold State.recover
  refine memWf_ite h (memWf_ite (State.recoverWord_wf (s := s.setSeq q _) h _ _ _) ?_)
  rw [State.shard_blur _ _ _ _ _ _ (by decide)]
  exact h

theorem State.spareRowsIn_wf : memWf (s.spareRowsIn.blur memMask).mem := by
  unfold State.spareRowsIn
  refine memWf_each _ _ h fun u k hu => memWf_ite hu ?_
  dsimp only
  have hrow (st row : Nat) : memWf ((u.spareRow st row 2).blur memMask).mem := by rw [State.spareRow_mem]; exact hu
  have hword (st row q key : Nat) := State.recoverWord_wf (hrow st row) q key false
  refine memWf_ite (memWf_setStore ?_ (hrow _ _)) (memWf_ite (memWf_each _ _ (hrow _ _) fun v j hv => ?_)
    (memWf_ite (hword _ _ _ _) (memWf_ite (hword _ _ _ _) (memWf_ite (hrow _ _) (memWf_ite (hword _ _ _ _) (hword _ _ _ _))))))
  · exact StoreSt.putCtl_wf _ 0 (StoreSt.putWords_wf (List.range 4) (fun _ => k % 2 ^ 20) (fun _ => 0) id (store_wf _ (hrow _ _)))
  · exact memWf_with_cap (s := { v with capEcc := smSet 0 v.capEcc (4 * (k % 2 ^ 20) + j) 0 }) (smWf_smSet (d := fun _ => 0) _ _ hv.1) hv

theorem State.serviceEntry_wf (hard : List Nat) : memWf ((s.serviceEntry hard).blur memMask).mem := by
  unfold State.serviceEntry
  refine State.spareRowsIn_wf ?_
  rw [State.spareAll_mem]
  exact memWf_each _ _ h fun u q hu => State.recover_wf hu _ _

theorem State.transit_wf (hard : List Nat) : memWf ((s.transit hard).blur memMask).mem := by
  unfold State.transit
  split
  · exact h
  · refine memWf_ite h ?_
    dsimp only
    rw [State.mem_when _ _ _ (congrArg State.mem (State.modeRequest_blur _ _ _ (by decide))), State.selectors_blur _ (by decide)]
    generalize hu : State.when _ (decide (s.m.mode = Mode.run)) _ = u
    have hw : memWf (u.blur memMask).mem := by
      rw [← hu, State.mem_when _ _ _ (State.mem_each _ _ _ fun t n => congrArg State.mem (State.cancelStart_blur t n true (by decide))),
        State.mem_when _ _ _ (congrArg State.mem (State.wr_blur _ _ _ _ (by decide))), State.setMode_blur _ _ (by decide), State.wr_blur _ _ _ _ (by decide)]
      exact h
    split
    · rw [State.orderShard_blur _ (by decide)]
      exact State.serviceEntry_wf hw hard
    · rw [State.spareAll_mem]
      exact hw
    · rw [State.firstRun_blur _ (by decide)]
      exact hw
    · rw [State.firstRun_blur _ (by decide)]
      exact hw
    · exact hw

theorem State.stepDone_wf (failed fails hard : List Nat) : memWf ((s.stepDone failed fails hard).blur memMask).mem := by
  unfold State.stepDone
  refine memWf_ite h ?_
  split
  · rw [State.startStep_mem, State.repairMapStep_mem]
    exact h
  · rw [State.startStep_mem]
    exact State.storeTest_wf h _ _
  · rw [State.startStep_mem, State.testFails_mem]
    exact h
  · exact memWf_ite h (by rw [State.startStep_mem]; exact h)
  · refine memWf_ite h (memWf_ite ?_ ?_)
    · rw [State.startStep_mem]
      exact h
    · rw [State.startStep_mem]
      exact h
  · exact memWf_ite h (by rw [State.startStep_mem]; exact h)
  · exact h

/-! The stores of a ring's descriptor -/

theorem State.moveBlock_wf (q : Nat) (b : List Nat) : memWf ((s.moveBlock q b).blur memMask).mem := by
  unfold State.moveBlock
  dsimp only
  split
  · exact h
  · refine memWf_ite h ?_
    generalize hu : s.rowBlock _ _ b = u
    have hw : memWf (u.blur memMask).mem := hu ▸ State.rowBlock_wf h _ _ _
    generalize hv : State.setRing _ q _ = v
    have hv' : memWf (v.blur memMask).mem := by
      rw [← hv, State.setRing_blur _ _ _ (by decide), State.blur_with_host _ _ (by decide)]
      exact hw
    refine memWf_when _ _ hv' ?_
    rw [State.refillReady_blur _ _ (by decide)]
    exact hv'

theorem State.moveBlocks_wf (q : Nat) (b : List Nat) : memWf ((s.moveBlocks q b).blur memMask).mem :=
  memWf_foldl _ _ h fun u j hu => State.moveBlock_wf hu _ _

/-! The boot flash and the non-volatile store -/

omit h in
theorem programByte_wf {m : SMap Nat} (a b : Nat) (hm : smWf (fun _ => 0xFF) m = true) : smWf (fun _ => 0xFF) (programByte m a b) = true := smWf_smSet (d := fun _ => 0xFF) _ _ hm

theorem State.flashEffect_wf (c : FlashCmd) : memWf ((s.flashEffect c).blur memMask).mem := by
  have hcells : smWf (fun _ => 0xFF) s.flash.cells = true := h.2.1
  unfold State.flashEffect
  dsimp only
  refine memWf_ite h (memWf_ite h (memWf_ite h (memWf_ite (memWf_with_flash ?_ h) ?_)))
  · exact foldl_invariant (P := fun m => smWf (fun _ => 0xFF) m = true) (fun m e _ hm => programByte_wf _ _ hm) hcells
  · split
    · refine memWf_with_flash ?_ h
      dsimp only
      exact smWf_smKeep _ hcells
    · exact h

theorem State.programEnd_wf : memWf (s.programEnd.blur memMask).mem := by
  unfold State.programEnd
  split
  · exact h
  · rw [State.wr_blur _ _ _ _ (by decide)]
    exact memWf_with_flash (foldl_invariant (P := fun m => smWf (fun _ => 0xFF) m = true) (fun m e _ hm => programByte_wf _ _ hm) h.2.1) h

theorem State.nvmProgram_wf (j : NvmJob) : memWf ((s.nvmProgram j).blur memMask).mem :=
  memWf_with_nvm (foldl_invariant (P := fun m => smWf (fun _ => 0xFF) m = true) (fun m i _ hm => smWf_smWrite _ _ hm) h.2.2.1) h

theorem State.nvmAbort_wf : memWf (s.nvmAbort.blur memMask).mem := by
  unfold State.nvmAbort
  split
  · exact h
  · rw [State.wr_blur _ _ _ _ (by decide)]
    exact State.nvmProgram_wf h _

end

end Sys2Proof.Machine
end

section
/-! SUPPORT. The image loader keeps the stores in canonical form: an accepted image has no more executable words than lie below its tables (R68). -/

namespace Sys2Proof.Machine

/-! Words laid in order -/

theorem smRising_append {α : Type} {a b : SMap α} (ha : smRising a = true) (hb : smRising b = true) (h : ∀ x ∈ a, ∀ y ∈ b, x.1 < y.1) : smRising (a ++ b) = true := by
  induction a with
  | nil => exact hb
  | cons e a ih =>
    obtain ⟨he, ha⟩ := smRising_cons.1 ha
    refine smRising_cons.2 ⟨fun x hx => ?_, ih ha fun x hx => h x (List.mem_cons_of_mem _ hx)⟩
    obtain hx | hx := List.mem_append.1 hx
    · exact he x hx
    · exact h e List.mem_cons_self x hx

theorem layWords_key {k : Nat} {l : List Nat} {e : Nat × Nat} (h : e ∈ layWords k l) : k ≤ e.1 ∧ e.1 < k + l.length := by
  obtain ⟨x, hx, rfl⟩ := List.mem_map.1 (List.mem_filter.1 h).1
  obtain ⟨-, hlt, -⟩ := List.mem_zipIdx hx
  exact ⟨Nat.le_add_right _ _, by simpa using hlt⟩

theorem layWords_ne {k : Nat} {l : List Nat} {e : Nat × Nat} (h : e ∈ layWords k l) : e.2 ≠ 0 := of_decide_eq_true (List.mem_filter.1 h).2

theorem zipIdx_rising (k n : Nat) (l : List Nat) : smRising ((l.zipIdx n).map fun (e : Nat × Nat) => (k + e.2, e.1)) = true := by
  induction l generalizing n with
  | nil => rfl
  | cons v l ih =>
    refine smRising_cons.2 ⟨fun x hx => ?_, ih (n + 1)⟩
    obtain ⟨y, hy, rfl⟩ := List.mem_map.1 hx
    obtain ⟨hle, -, -⟩ := List.mem_zipIdx hy
    dsimp only
    omega

theorem smRising_filter {α : Type} {m : SMap α} (p : Nat × α → Bool) (h : smRising m = true) : smRising (m.filter p) = true := by
  induction m with
  | nil => rfl
  | cons e m ih =>
    obtain ⟨he, hm⟩ := smRising_cons.1 h
    rw [List.filter_cons]
    split
    · exact smRising_cons.2 ⟨fun x hx => he x (List.mem_filter.1 hx).1, ih hm⟩
    · exact ih hm

theorem layWords_rising (k : Nat) (l : List Nat) : smRising (layWords k l) = true := smRising_filter _ (zipIdx_rising k 0 l)

theorem layWords_wf (k : Nat) (l : List Nat) : smWf (fun _ => 0) (layWords k l) = true := smWf_iff.2 ⟨layWords_rising k l, fun _ he => layWords_ne he⟩

theorem layWords_append_wf {k j : Nat} {l m : List Nat} (h : k + l.length ≤ j) : smWf (fun _ => 0) (layWords k l ++ layWords j m) = true := by
  refine smWf_iff.2 ⟨smRising_append (layWords_rising k l) (layWords_rising j m) fun x hx y hy => ?_, fun e he => ?_⟩
  · exact Nat.lt_of_lt_of_le (layWords_key hx).2 (h.trans (layWords_key hy).1)
  · obtain he | he := List.mem_append.1 he
    · exact layWords_ne he
    · exact layWords_ne he

/-! What the checks of an image say of its housekeeping code -/

theorem firstBad_none {l : List (Bool × Fail)} (h : firstBad l = none) : ∀ e ∈ l, e.1 = true := by
  intro e he
  have hnone : l.find? (fun e => !e.1) = none := Option.map_eq_none_iff.1 h
  simpa using List.find?_eq_none.1 hnone e he

/-- The executable count of an accepted image stands below the tables (R68). -/
theorem hkFail_count {im : Image} {b : List Nat} (h : hkFail im b = none) : hkExecutable b ≤ 8096 := by
  unfold hkFail at h
  dsimp only at h
  split at h
  · cases h
  · next hhead =>
    have hcount := firstBad_none hhead _ List.mem_cons_self
    unfold hkExecutable
    by_cases ht : byteAt b 6 % 2 = 1
    · simp [ht] at hcount ⊢
      omega
    · simp [ht] at hcount ⊢
      omega

theorem hkMicro_length (b : List Nat) : (imageOf b).hkMicro.length ≤ hkExecutable ((sectionOf b 10).getD []) := List.length_take_le _ _

theorem contentFail_hk {s : State} {b : List Nat} (h : contentFail s b = none) : hkFail (imageOf b) ((sectionOf b 10).getD []) = none := by
  unfold contentFail at h
  exact List.findSome?_eq_none_iff.1 h 0xA (by decide)

theorem imageFail_content {s : State} {pushed : Option Nat} {b : List Nat} (h : s.imageFail pushed b = none) : contentFail s (b.take (le32 b 8)) = none := by
  unfold State.imageFail at h
  dsimp only at h
  split at h
  · cases h
  split at h
  · cases h
  split at h
  · cases h
  split at h
  · cases h
  split at h
  · cases h
  split at h
  · cases h
  split at h
  · cases h
  · exact h

/-- An accepted image has its executable words below its tables. -/
theorem imageFail_hkMicro {s : State} {pushed : Option Nat} {b : List Nat} (h : s.imageFail pushed b = none) : (imageOf (b.take (le32 b 8))).hkMicro.length ≤ 8096 :=
  (hkMicro_length _).trans (hkFail_count (contentFail_hk (imageFail_content h)))

/-! The image is applied -/

section
variable {s : State} (h : memWf (s.blur memMask).mem)
include h

theorem State.hkLoad_wf {im : Image} (him : im.hkMicro.length ≤ 8096) : memWf ((s.hkLoad im).blur memMask).mem := by
  unfold State.hkLoad
  simp (disch := decide) only [State.hkRestart_blur, State.wr_blur]
  refine memWf_setStore ((StoreSt.wf_iff _).2 ⟨rfl, rfl, layWords_append_wf (by omega), layWords_wf _ _, rfl⟩) h

theorem State.applyImage_wf {im : Image} (him : im.hkMicro.length ≤ 8096) : memWf ((s.applyImage im).blur memMask).mem := by
  unfold State.applyImage
  dsimp only
  simp (disch := decide) only [State.startStep_mem, State.selectors_blur, State.orderShard_blur, State.setMode_blur, State.raise_blur, State.blur_with_m, State.mouldStatus_blur]
  rw [State.mem_when _ _ _ (congrArg State.mem (State.wr_blur _ _ _ _ (by decide))), State.mem_each _ _ _ fun t n => congrArg State.mem (State.wr_blur t _ _ _ (by decide))]
  refine State.hkLoad_wf ?_ him
  simp (disch := decide) only [State.routesLoad_blur, State.allotAll_blur, State.hubLoad_blur, State.wr_blur, State.wb_blur]
  exact h

theorem State.imageRead_wf (ok : Bool) (bytes : List Nat) : memWf ((s.imageRead ok bytes).blur memMask).mem := by
  unfold State.imageRead
  split
  · exact h
  dsimp only
  split
  · rw [State.loadFail_blur _ _ _ (by decide)]
    exact h
  · split
    · rw [State.loadFail_blur _ _ _ (by decide)]
      exact h
    · next hnone => exact State.applyImage_wf h (imageFail_hkMicro hnone)

end

end Sys2Proof.Machine
end

section
/-! SUPPORT. The write of a register and the addressed memories (R599): which registers' writes have an effect of their own, and that none but DEV_MODE and the vector control words reaches a memory. -/

namespace Sys2Proof.Machine

variable {s : State}

/-- Registers of the device, its event hub and its time whose writes have an effect of their own. -/
def hookedDevice : List Reg := [.DEV_FUSE_HASH, .DEV_FUSE_CMD, .DEV_MOULD_CTL, .DEV_MOULD_ADDR_LO, .DEV_START, .SAG_START, .FLS_LOCK, .FLS_CMD, .FLS_BUF, .THS_CONE, .THS_READMIT, .HK_SUPPLY_LIM, .NVM_CMD, .NVM_BUF, .SPR_CMD, .CAL_CTL, .EVH_SRC_CFG, .EVH_SRC_STATUS, .EVH_Q_CFG, .EVH_Q_RPTR, .EVH_Q_BASE_LO, .EVH_Q_BASE_HI, .TIME_ADDEND_HI, .TIME_ADJ_TICKS, .TIME_STEP_CTL, .TIME_QUAL, .TIME_PORT_RX, .TIME_PORT_TX, .TEV_CTL, .TEV_CFG, .TEV_START_NS, .TEV_START_SEC_LO, .TEV_START_SEC_HI, .TEV_START_FRAC, .TEV_PERIOD_NS, .TEV_PERIOD_FRAC, .TEV_WIDTH]

/-- Registers of the saggars and their units whose writes have an effect of their own. -/
def hookedUnits : List Reg := [.SAG_ALLOT, .SAG_QUOTA_A, .SAG_QUOTA_B, .HOST_DMA_CFG, .HOST_DMA_BASE_LO, .HOST_DMA_BASE_HI, .RED_CMD, .RED_GRP_AREA, .RED_GRP_RPTR, .TDC_CFG, .TDC_CTX, .TDC_CTL, .SEQ_CTL, .SEQ_ENTRY, .SEQ_START, .SEQ_LOAD, .SEQ_CNT, .SEQ_TIMEOUT, .CMP_CTL, .CMP_LOG_CTL, .CMP_LOG_AREA, .CMP_SITE_CTL, .ACQ_CTL, .ACQ_RPTR, .ACQ_SRC, .ACQ_CFG, .ACQ_PRE, .ACQ_POST, .ACQ_AUTO, .ACQ_AREA, .ACQ_FO_LO, .ACQ_FO_HI, .ACQ_COND_CTL, .ACQ_COND_A, .ACQ_COND_B, .ACQ_PAT_H_LO, .ACQ_PAT_H_HI, .ACQ_PAT_L_LO, .ACQ_PAT_L_HI, .ACQ_PAT_MASK_LO, .ACQ_PAT_MASK_HI]

/-- Registers of timing sets and segments whose writes have an effect of their own. -/
def hookedSegments : List Reg := [.TS_LANE_EDGE, .TS_LANE_MODE, .TS_STAGE_PERIOD, .TS_COMMIT, .TS_NCO_FTW_LO, .TS_NCO_FTW_HI, .TS_NCO_CTL, .SEG_RING_CFG, .SEG_RING_CTL, .SEG_JUMP, .SEG_SLOT, .SEG_STORE_CFG, .SEG_CTLW_ADDR]

/-- Registers of levels, lanes, supplies and sources whose writes have an effect of their own. -/
def hookedLevels : List Reg := [.LVL_SET, .LVL_SPAN, .LVL_PPMU_CODE, .LVL_CFG, .LVL_SLEW, .LANE_CTL, .LANE_DRV_CTL, .LANE_CMP_CTL, .LANE_MON_CTL, .LANE_LOAD, .LANE_PPMU_CTL, .LANE_STATUS, .LANE_FE, .OCT_LVL_UPDATE, .OCT_MATRIX, .ADC_CTL, .ADC_SEQ_A, .ADC_SEQ_B, .SMU_FORCE_CODE, .SMU_FORCE_CFG, .SMU_FORCE_SLEW, .SMU_CTL, .SMU_VCLAMP, .SMU_MEAS, .SMU_MON_CTL, .SMU_STATUS, .DPS_SET_CODE, .DPS_SET_CFG, .DPS_SET_SLEW, .DPS_CTL, .DPS_LIMIT, .DPS_MON_I_CTL, .DPS_MON_I_THR, .DPS_MON_V_CTL, .DPS_MON_V_THR, .DPS_STATUS]

/-- The registers whose writes have an effect of their own. -/
def hookedRegs : List Reg := [.DEV_MODE, .SEG_CTLW_DATA] ++ hookedDevice ++ hookedUnits ++ hookedSegments ++ hookedLevels

/-- Any other register's write is that of its fields alone. -/
theorem regHook_plain {r : Reg} (h : hookedRegs.contains r = false) : regHook r = fun _ => writeWord r := by
  cases r <;> first | rfl | nomatch h

/-- Every register field is among what the mask leaves out. -/
theorem memMask_key (f : Fld) : memMask.testBit (32 + f.key % 1024) = true := State.key_of_all (by decide) _

theorem memMask_keys (r : Reg) : ∀ f ∈ r.fields, f.acc.writes = true → memMask.testBit (32 + f.key % 1024) = true := fun f _ _ => memMask_key f

/-- The write of a register leaves the addressed memories alone. -/
def HookKeepsMem (r : Reg) : Prop := ∀ (rq : Req) (j w be : Nat) (s : State), ((regHook r rq j w be s).1.blur memMask).mem = (s.blur memMask).mem

theorem mem_of_sameBlur {t : State} (h : t.blur memMask = s.blur memMask) : (t.blur memMask).mem = (s.blur memMask).mem := congrArg State.mem h

theorem hookedDevice_mem : ∀ r ∈ hookedDevice, HookKeepsMem r := by
  simp only [hookedDevice, List.forall_mem_cons, List.not_mem_nil, false_implies, implies_true, and_true]
  exact ⟨fun rq j w be s => mem_of_sameBlur (fuseHashHook_blur rq j w be s (by decide)),
    fun rq j w be s => mem_of_sameBlur (fuseHook_blur rq j w be s (by decide)),
    fun rq j w be s => mem_of_sameBlur (mouldCtlHook_blur rq j w be s (by decide)),
    fun rq j w be s => mem_of_sameBlur (mouldAddrHook_blur rq j w be s (by decide)),
    fun rq j w be s => mem_of_sameBlur (devStartHook_blur 0 rq j w be s (by decide)),
    fun rq j w be s => mem_of_sameBlur (sagStartHook_blur 0 rq j w be s (by decide)),
    fun rq j w be s => mem_of_sameBlur (flsLockHook_blur rq j w be s (by decide)),
    flsCmdHook_mem,
    fun rq j w be s => mem_of_sameBlur (flsBufHook_blur rq j w be s (by decide)),
    fun rq j w be s => mem_of_sameBlur (thsConeHook_blur rq j w be s (by decide)),
    fun rq j w be s => mem_of_sameBlur (readmitHook_blur rq j w be s (by decide)),
    fun rq j w be s => mem_of_sameBlur (supplyLimHook_blur rq j w be s (by decide)),
    nvmCmdHook_mem,
    fun rq j w be s => mem_of_sameBlur (nvmBufHook_blur rq j w be s (by decide)),
    sprCmdHook_mem,
    fun rq j w be s => mem_of_sameBlur (calCtlHook_blur rq j w be s (by decide)),
    fun rq j w be s => mem_of_sameBlur (routeHook_blur rq j w be s (by decide)),
    fun rq j w be s => mem_of_sameBlur (srcStatusHook_blur rq j w be s (by decide)),
    fun rq j w be s => mem_of_sameBlur (queueCfgHook_blur rq j w be s (by decide)),
    fun rq j w be s => mem_of_sameBlur (rptrHook_blur rq j w be s (by decide)),
    fun rq j w be s => mem_of_sameBlur (queueBaseHook_blur .EVH_Q_BASE_LO rq j w be s (by decide) (memMask_keys _)),
    fun rq j w be s => mem_of_sameBlur (queueBaseHook_blur .EVH_Q_BASE_HI rq j w be s (by decide) (memMask_keys _)),
    fun rq j w be s => mem_of_sameBlur (addendHook_blur rq j w be s (by decide)),
    fun rq j w be s => mem_of_sameBlur (adjTicksHook_blur rq j w be s (by decide)),
    fun rq j w be s => mem_of_sameBlur (stepCtlHook_blur rq j w be s (by decide)),
    fun rq j w be s => mem_of_sameBlur (qualHook_blur rq j w be s (by decide)),
    fun rq j w be s => mem_of_sameBlur (rxHook_blur rq j w be s (by decide)),
    fun rq j w be s => mem_of_sameBlur (txHook_blur rq j w be s (by decide)),
    fun rq j w be s => mem_of_sameBlur (tevCtlHook_blur rq j w be s (by decide)),
    fun rq j w be s => mem_of_sameBlur (tevCfgHook_blur .TEV_CFG rq j w be s (by decide) (memMask_keys _)),
    fun rq j w be s => mem_of_sameBlur (tevCfgHook_blur .TEV_START_NS rq j w be s (by decide) (memMask_keys _)),
    fun rq j w be s => mem_of_sameBlur (tevCfgHook_blur .TEV_START_SEC_LO rq j w be s (by decide) (memMask_keys _)),
    fun rq j w be s => mem_of_sameBlur (tevCfgHook_blur .TEV_START_SEC_HI rq j w be s (by decide) (memMask_keys _)),
    fun rq j w be s => mem_of_sameBlur (tevCfgHook_blur .TEV_START_FRAC rq j w be s (by decide) (memMask_keys _)),
    fun rq j w be s => mem_of_sameBlur (tevCfgHook_blur .TEV_PERIOD_NS rq j w be s (by decide) (memMask_keys _)),
    fun rq j w be s => mem_of_sameBlur (tevCfgHook_blur .TEV_PERIOD_FRAC rq j w be s (by decide) (memMask_keys _)),
    fun rq j w be s => mem_of_sameBlur (tevCfgHook_blur .TEV_WIDTH rq j w be s (by decide) (memMask_keys _))⟩

theorem hookedUnits_mem : ∀ r ∈ hookedUnits, HookKeepsMem r := by
  simp only [hookedUnits, List.forall_mem_cons, List.not_mem_nil, false_implies, implies_true, and_true]
  exact ⟨fun rq j w be s => mem_of_sameBlur (allotHook_blur rq j w be s (by decide)),
    fun rq j w be s => mem_of_sameBlur (quotaHook_blur .SAG_QUOTA_A rq j w be s (by decide) (memMask_keys _)),
    fun rq j w be s => mem_of_sameBlur (quotaHook_blur .SAG_QUOTA_B rq j w be s (by decide) (memMask_keys _)),
    fun rq j w be s => mem_of_sameBlur (dmaCfgHook_blur rq j w be s (by decide)),
    fun rq j w be s => mem_of_sameBlur (dmaBaseHook_blur .HOST_DMA_BASE_LO rq j w be s (by decide) (memMask_keys _)),
    fun rq j w be s => mem_of_sameBlur (dmaBaseHook_blur .HOST_DMA_BASE_HI rq j w be s (by decide) (memMask_keys _)),
    redCmdHook_mem,
    fun rq j w be s => mem_of_sameBlur (grpAreaHook_blur rq j w be s (by decide)),
    grpRptrHook_mem,
    fun rq j w be s => mem_of_sameBlur (tdcCfgHook_blur rq j w be s (by decide)),
    fun rq j w be s => mem_of_sameBlur (tdcCtxHook_blur rq j w be s (by decide)),
    fun rq j w be s => mem_of_sameBlur (tdcCtlHook_blur rq j w be s (by decide)),
    fun rq j w be s => mem_of_sameBlur (seqCtlHook_blur rq j w be s (by decide)),
    fun rq j w be s => mem_of_sameBlur (programHook_blur .SEQ_ENTRY rq j w be s (by decide) (memMask_keys _)),
    fun rq j w be s => mem_of_sameBlur (programHook_blur .SEQ_START rq j w be s (by decide) (memMask_keys _)),
    fun rq j w be s => mem_of_sameBlur (loadHook_blur rq j w be s (by decide)),
    fun rq j w be s => mem_of_sameBlur (cntHook_blur rq j w be s (by decide)),
    fun rq j w be s => mem_of_sameBlur (timeoutHook_blur rq j w be s (by decide)),
    fun rq j w be s => mem_of_sameBlur (cmpCtlHook_blur rq j w be s (by decide)),
    fun rq j w be s => mem_of_sameBlur (logCtlHook_blur rq j w be s (by decide)),
    fun rq j w be s => mem_of_sameBlur (logAreaHook_blur rq j w be s (by decide)),
    fun rq j w be s => mem_of_sameBlur (siteCtlHook_blur rq j w be s (by decide)),
    fun rq j w be s => mem_of_sameBlur (acqCtlHook_blur rq j w be s (by decide)),
    fun rq j w be s => mem_of_sameBlur (acqRptrHook_blur rq j w be s (by decide)),
    fun rq j w be s => mem_of_sameBlur (acqCfgHook_blur .ACQ_SRC rq j w be s (by decide) (memMask_keys _)),
    fun rq j w be s => mem_of_sameBlur (acqCfgHook_blur .ACQ_CFG rq j w be s (by decide) (memMask_keys _)),
    fun rq j w be s => mem_of_sameBlur (acqCfgHook_blur .ACQ_PRE rq j w be s (by decide) (memMask_keys _)),
    fun rq j w be s => mem_of_sameBlur (acqCfgHook_blur .ACQ_POST rq j w be s (by decide) (memMask_keys _)),
    fun rq j w be s => mem_of_sameBlur (acqCfgHook_blur .ACQ_AUTO rq j w be s (by decide) (memMask_keys _)),
    fun rq j w be s => mem_of_sameBlur (acqCfgHook_blur .ACQ_AREA rq j w be s (by decide) (memMask_keys _)),
    fun rq j w be s => mem_of_sameBlur (acqCfgHook_blur .ACQ_FO_LO rq j w be s (by decide) (memMask_keys _)),
    fun rq j w be s => mem_of_sameBlur (acqCfgHook_blur .ACQ_FO_HI rq j w be s (by decide) (memMask_keys _)),
    fun rq j w be s => mem_of_sameBlur (acqCfgHook_blur .ACQ_COND_CTL rq j w be s (by decide) (memMask_keys _)),
    fun rq j w be s => mem_of_sameBlur (acqCfgHook_blur .ACQ_COND_A rq j w be s (by decide) (memMask_keys _)),
    fun rq j w be s => mem_of_sameBlur (acqCfgHook_blur .ACQ_COND_B rq j w be s (by decide) (memMask_keys _)),
    fun rq j w be s => mem_of_sameBlur (acqCfgHook_blur .ACQ_PAT_H_LO rq j w be s (by decide) (memMask_keys _)),
    fun rq j w be s => mem_of_sameBlur (acqCfgHook_blur .ACQ_PAT_H_HI rq j w be s (by decide) (memMask_keys _)),
    fun rq j w be s => mem_of_sameBlur (acqCfgHook_blur .ACQ_PAT_L_LO rq j w be s (by decide) (memMask_keys _)),
    fun rq j w be s => mem_of_sameBlur (acqCfgHook_blur .ACQ_PAT_L_HI rq j w be s (by decide) (memMask_keys _)),
    fun rq j w be s => mem_of_sameBlur (acqCfgHook_blur .ACQ_PAT_MASK_LO rq j w be s (by decide) (memMask_keys _)),
    fun rq j w be s => mem_of_sameBlur (acqCfgHook_blur .ACQ_PAT_MASK_HI rq j w be s (by decide) (memMask_keys _))⟩

theorem hookedSegments_mem : ∀ r ∈ hookedSegments, HookKeepsMem r := by
  simp only [hookedSegments, List.forall_mem_cons, List.not_mem_nil, false_implies, implies_true, and_true]
  exact ⟨fun rq j w be s => mem_of_sameBlur (tsStageHook_blur .TS_LANE_EDGE rq j w be s (by decide) (memMask_keys _)),
    fun rq j w be s => mem_of_sameBlur (tsStageHook_blur .TS_LANE_MODE rq j w be s (by decide) (memMask_keys _)),
    fun rq j w be s => mem_of_sameBlur (tsStageHook_blur .TS_STAGE_PERIOD rq j w be s (by decide) (memMask_keys _)),
    fun rq j w be s => mem_of_sameBlur (tsCommitHook_blur rq j w be s (by decide)),
    fun rq j w be s => mem_of_sameBlur (ncoLoHook_blur rq j w be s (by decide)),
    fun rq j w be s => mem_of_sameBlur (ncoHiHook_blur rq j w be s (by decide)),
    fun rq j w be s => mem_of_sameBlur (ncoCtlHook_blur rq j w be s (by decide)),
    fun rq j w be s => mem_of_sameBlur (ringCfgHook_blur rq j w be s (by decide)),
    fun rq j w be s => mem_of_sameBlur (ringCtlHook_blur rq j w be s (by decide)),
    fun rq j w be s => mem_of_sameBlur (jumpHook_blur rq j w be s (by decide)),
    fun rq j w be s => mem_of_sameBlur (slotHook_blur rq j w be s (by decide)),
    fun rq j w be s => mem_of_sameBlur (storeCfgHook_blur rq j w be s (by decide)),
    fun rq j w be s => mem_of_sameBlur (ctlwAddrHook_blur rq j w be s (by decide))⟩

theorem hookedLevels_mem : ∀ r ∈ hookedLevels, HookKeepsMem r := by
  simp only [hookedLevels, List.forall_mem_cons, List.not_mem_nil, false_implies, implies_true, and_true]
  exact ⟨fun rq j w be s => mem_of_sameBlur (lvlSetHook_blur rq j w be s (by decide)),
    fun rq j w be s => mem_of_sameBlur (lvlSpanHook_blur rq j w be s (by decide)),
    fun rq j w be s => mem_of_sameBlur (lvlPpmuHook_blur rq j w be s (by decide)),
    fun rq j w be s => mem_of_sameBlur (laneHook_blur .LVL_CFG rq j w be s (by decide) (memMask_keys _)),
    fun rq j w be s => mem_of_sameBlur (laneHook_blur .LVL_SLEW rq j w be s (by decide) (memMask_keys _)),
    fun rq j w be s => mem_of_sameBlur (laneHook_blur .LANE_CTL rq j w be s (by decide) (memMask_keys _)),
    fun rq j w be s => mem_of_sameBlur (laneHook_blur .LANE_DRV_CTL rq j w be s (by decide) (memMask_keys _)),
    fun rq j w be s => mem_of_sameBlur (laneHook_blur .LANE_CMP_CTL rq j w be s (by decide) (memMask_keys _)),
    fun rq j w be s => mem_of_sameBlur (laneHook_blur .LANE_MON_CTL rq j w be s (by decide) (memMask_keys _)),
    fun rq j w be s => mem_of_sameBlur (laneLoadHook_blur rq j w be s (by decide)),
    fun rq j w be s => mem_of_sameBlur (ppmuHook_blur rq j w be s (by decide)),
    fun rq j w be s => mem_of_sameBlur (laneStatusHook_blur rq j w be s (by decide)),
    fun rq j w be s => mem_of_sameBlur (laneFeHook_blur rq j w be s (by decide)),
    fun rq j w be s => mem_of_sameBlur (octUpdateHook_blur rq j w be s (by decide)),
    fun rq j w be s => mem_of_sameBlur (matrixHook_blur rq j w be s (by decide)),
    fun rq j w be s => mem_of_sameBlur (adcCtlHook_blur rq j w be s (by decide)),
    fun rq j w be s => mem_of_sameBlur (adcSeqAHook_blur rq j w be s (by decide)),
    fun rq j w be s => mem_of_sameBlur (adcSeqBHook_blur rq j w be s (by decide)),
    fun rq j w be s => mem_of_sameBlur (smuCodeHook_blur rq j w be s (by decide)),
    fun rq j w be s => mem_of_sameBlur (smuCfgHook_blur rq j w be s (by decide)),
    fun rq j w be s => mem_of_sameBlur (smuSlewHook_blur rq j w be s (by decide)),
    fun rq j w be s => mem_of_sameBlur (smuCtlHook_blur rq j w be s (by decide)),
    fun rq j w be s => mem_of_sameBlur (smuVclampHook_blur rq j w be s (by decide)),
    fun rq j w be s => mem_of_sameBlur (smuMeasHook_blur rq j w be s (by decide)),
    fun rq j w be s => mem_of_sameBlur (smuMonHook_blur rq j w be s (by decide)),
    fun rq j w be s => mem_of_sameBlur (smuStatusHook_blur rq j w be s (by decide)),
    fun rq j w be s => mem_of_sameBlur (dpsCodeHook_blur rq j w be s (by decide)),
    fun rq j w be s => mem_of_sameBlur (dpsCfgHook_blur rq j w be s (by decide)),
    fun rq j w be s => mem_of_sameBlur (dpsSlewHook_blur rq j w be s (by decide)),
    fun rq j w be s => mem_of_sameBlur (dpsHeldHook_blur .DPS_CTL rq j w be s (by decide) (memMask_keys _)),
    fun rq j w be s => mem_of_sameBlur (dpsHeldHook_blur .DPS_LIMIT rq j w be s (by decide) (memMask_keys _)),
    fun rq j w be s => mem_of_sameBlur (dpsHeldHook_blur .DPS_MON_I_CTL rq j w be s (by decide) (memMask_keys _)),
    fun rq j w be s => mem_of_sameBlur (dpsHeldHook_blur .DPS_MON_I_THR rq j w be s (by decide) (memMask_keys _)),
    fun rq j w be s => mem_of_sameBlur (dpsHeldHook_blur .DPS_MON_V_CTL rq j w be s (by decide) (memMask_keys _)),
    fun rq j w be s => mem_of_sameBlur (dpsHeldHook_blur .DPS_MON_V_THR rq j w be s (by decide) (memMask_keys _)),
    fun rq j w be s => mem_of_sameBlur (dpsStatusHook_blur rq j w be s (by decide))⟩

/-- But for DEV_MODE and the vector control words, no register's write reaches an addressed memory. -/
theorem regHook_mem {r : Reg} (hmode : r ≠ .DEV_MODE) (hdata : r ≠ .SEG_CTLW_DATA) : HookKeepsMem r := by
  cases h : hookedRegs.contains r with
  | false =>
    rw [HookKeepsMem, regHook_plain h]
    exact fun _ _ _ _ _ => mem_of_sameBlur (writeWord_blur _ _ _ _ _ (memMask_keys _))
  | true =>
    simp only [hookedRegs, List.contains_iff_mem, List.mem_append, List.mem_cons, List.not_mem_nil, or_false, hmode, hdata, false_or, or_assoc] at h
    obtain h | h | h | h := h
    · exact hookedDevice_mem r h
    · exact hookedUnits_mem r h
    · exact hookedSegments_mem r h
    · exact hookedLevels_mem r h

end Sys2Proof.Machine
end

section
/-! SUPPORT. Resets, the shutdown and the housekeeping round, and the writes of register words, keep the addressed memories in canonical form (R6, R101, R494, R531, R599). -/

namespace Sys2Proof.Machine

variable {s : State}

section
variable (h : memWf (s.blur memMask).mem)
include h

/-! Resets -/

/-- What a reset of the store die keeps of the memories (R20, R101). -/
theorem memWf_reset {u : State} (hcap : u.cap = []) (hflash : u.flash.cells = s.flash.cells) (hnvm : u.nvm.cells = s.nvm.cells) (hstores : u.stores = []) : memWf (u.blur memMask).mem := by
  rw [State.blur_mem, State.mem, hcap, hflash, hnvm, hstores]
  exact ⟨rfl, h.2.1, h.2.2.1, fun e he => absurd he List.not_mem_nil⟩

theorem State.porState_wf : memWf (s.porState.blur memMask).mem := memWf_reset (State.nvmAbort_wf h) rfl rfl rfl rfl

theorem State.aonState_wf : memWf (s.aonState.blur memMask).mem := by
  unfold State.aonState
  rw [State.release'_blur _ (by decide)]
  exact memWf_reset (State.nvmAbort_wf h) rfl rfl rfl rfl

theorem State.railFall_wf (rail : Nat) : memWf ((s.railFall rail).blur memMask).mem := by
  unfold State.railFall
  refine memWf_ite (State.aonState_wf h) (memWf_ite h ?_)
  dsimp only
  refine memWf_ite ?_ ?_
  · rw [State.mem_when _ _ _ (congrArg State.mem (State.wr_blur _ _ _ _ (by decide))), State.wr_blur _ _ _ _ (by decide)]
    exact State.porState_wf (s := { s with m := { s.m with badRails := s.m.badRails ++ [rail] } }) h
  · rw [State.selectors_blur _ (by decide)]
    refine memWf_each _ _ ?_ fun u d hu => memWf_ite (by rw [State.dpsOpen_blur _ _ (by decide)]; exact hu) hu
    rw [State.mem_when _ _ _ (congrArg State.mem (State.supplyLoss_blur _ (by decide)))]
    exact h

theorem State.softState_wf : memWf (s.softState.blur memMask).mem := by
  unfold State.softState
  extract_lets u v r x y
  have hu : memWf (u.blur memMask).mem := by rw [State.loadFail_blur _ _ _ (by decide)]; exact h
  have hv : memWf (v.blur memMask).mem := by
    unfold v
    split
    · rw [State.shard_blur _ _ _ _ _ _ (by decide), State.raise_blur _ _ (by decide)]
      exact State.nvmAbort_wf hu
    · exact hu
  rw [State.quals_blur _ (by decide), State.mem_when _ _ _ (congrArg State.mem (State.wr_blur _ _ _ _ (by decide))), State.wr_blur _ _ _ _ (by decide), State.wr_blur _ _ _ _ (by decide),
    State.wr_blur _ _ _ _ (by decide)]
  exact memWf_reset hv rfl rfl rfl rfl

theorem State.shutdown_wf (tj : Int) (sensor cause : Nat) : memWf ((s.shutdown tj sensor cause).blur memMask).mem := by
  refine State.porState_wf ?_
  rw [State.loadFail_blur _ _ _ (by decide), State.mirrorOnly_blur _ _ _ _ _ _ (by decide), State.raise_blur _ _ (by decide)]
  exact h

theorem modeHook_wf (rq : Req) (j w be : Nat) : memWf ((modeHook rq j w be s).1.blur memMask).mem := by
  unfold modeHook
  split
  · exact State.softState_wf h
  · rw [State.modeWrite_blur _ _ _ (by decide)]
    exact h

/-! The housekeeping round -/

theorem State.round_wf (t rails spines : List Int) : memWf ((s.round t rails spines).blur memMask).mem := by
  unfold State.round
  extract_lets a b c ref d
  split
  case _ e u heff =>
  have hu : memWf (u.blur memMask).mem := by
    rw [show u = _ from (congrArg Prod.snd heff).symm, State.effectives_blur _ _ (by decide), State.crossCheck_blur _ _ (by decide), State.blur_when _ _ _ (State.bump_blur _ _ _ _ (by decide)), State.wb_blur _ _ _ _ (by decide),
      State.spineRound_blur _ _ (by decide), State.supplyRound_blur _ _ (by decide), State.wr_blur _ _ _ _ (by decide), State.blur_with_hk _ _ (by decide), State.roundClears_blur _ (by decide), State.hkFixedRestart_blur _ (by decide)]
    exact h
  extract_lets v
  split
  case _ tj hot hhot =>
  extract_lets wasT w
  split
  case _ z hotS hcone =>
  split
  case _ k rise hrise =>
  have hk : memWf (k.blur memMask).mem := by
    rw [show k = _ from (congrArg Prod.fst hrise).symm, State.rateRound_blur _ _ (by decide), show z = _ from (congrArg Prod.fst hcone).symm, State.coneS_blur _ _ (by decide), State.coneRound_blur _ _ _ _ _ _ (by decide) (by decide),
      State.coneRound_blur _ _ _ _ _ _ (by decide) (by decide), State.wb_blur _ _ _ _ (by decide), State.putTemps_blur _ _ _ (by decide)]
    exact hu
  extract_lets l m n
  have hl : memWf (l.blur memMask).mem := by
    unfold l
    rw [State.windowRound_mem]
    exact hk
  refine memWf_ite (State.shutdown_wf hl _ _ _) ?_
  rw [State.setSeq_blur _ _ _ (by decide), State.blur_each _ _ _ fun u q => State.calRound_blur _ _ _ (by decide), State.mem_when _ _ _ (congrArg State.mem (State.coneTEntry_blur _ (by decide)))]
  exact hl

/-! Register words -/

theorem regHook_wf (r : Reg) (rq : Req) (j w be : Nat) : memWf ((regHook r rq j w be s).1.blur memMask).mem := by
  by_cases hmode : r = .DEV_MODE
  · subst hmode
    exact modeHook_wf h rq j w be
  by_cases hdata : r = .SEG_CTLW_DATA
  · subst hdata
    exact State.ctlwDataHook_wf h rq j w be
  · rw [regHook_mem hmode hdata]
    exact h

theorem State.hostAct_wf (rq : Req) (r : Reg) (i : Nat) (f : Nat → Fx) (hf : ∀ j, memWf ((f j s).1.blur memMask).mem) : memWf ((s.hostAct rq r i f).blur memMask).mem := by
  unfold State.hostAct
  refine memWf_ite h (memWf_ite (memWf_ite ?_ (hf _)) ?_)
  · rw [State.refuse_blur _ _ _ _ (by decide)]
    exact hf _
  · rw [State.refuse_blur _ _ _ _ (by decide)]
    exact h

theorem State.busWrite_wf (rq : Req) (off w be : Nat) : memWf ((s.busWrite rq off w be).blur memMask).mem := by
  have hrefuse (a : Nat) : memWf ((s.refuse rq a false).blur memMask).mem := by rw [State.refuse_blur _ _ _ _ (by decide)]; exact h
  unfold State.busWrite
  dsimp only
  refine memWf_ite h (memWf_ite (by rw [State.winAct_mem]; exact h) (memWf_ite (State.windowWrite_wf h _ _ _ _) ?_))
  split
  · exact State.hostAct_wf h _ _ _ _ fun j => regHook_wf h _ _ _ _ _
  split
  · refine memWf_ite ?_ (hrefuse _)
    rw [State.mem_when _ _ _ (congrArg State.mem (State.refuse_blur _ _ _ _ (by decide))), winWriteFx_blur _ _ _ _ _ _ (by decide)]
    exact h
  split
  · exact memWf_ite h (hrefuse _)
  · exact memWf_ite (hrefuse _) h

theorem State.spiWrite_wf (a w : Nat) : memWf ((s.spiWrite a w).1.blur memMask).mem := by
  unfold State.spiWrite
  split
  · exact h
  split
  · rw [State.winWrite_mem]
    exact h
  split
  · split
    · exact regHook_wf h _ _ _ _ _
    · exact h
  · exact h

end

end Sys2Proof.Machine
end

section
/-! SUPPORT. Every command keeps the addressed memories in canonical form: O59. -/

namespace Sys2Proof.Machine

/-- An effect keeps the canonical form of the memories. -/
def KeepsWf (f : State → State) : Prop := ∀ u : State, memWf (u.blur memMask).mem → memWf ((f u).blur memMask).mem

/-- The next state of an outcome has its memories in canonical form. -/
def OutWf (o : Out') : Prop := ∀ t : State, o = .next t → memWf (t.blur memMask).mem

theorem done_wf {s : State} {f : State → State} (hs : memWf (s.blur memMask).mem) (hf : KeepsWf f) : OutWf (done s f) := by
  intro t ht
  rw [done] at ht
  cases ht
  exact hf { s with out := [] } hs

theorem doneAll_wf {s : State} {f : State → State} (hs : memWf (s.blur memMask).mem) (hf : KeepsWf f) : OutWf (doneAll s f) := by
  intro t ht
  rw [doneAll] at ht
  cases ht
  exact hf { s with out := [] } hs

/-- An effect that leaves the memories as they are keeps their form. -/
theorem keepsWf_of_mem {f : State → State} (hf : ∀ u : State, ((f u).blur memMask).mem = (u.blur memMask).mem) : KeepsWf f := fun u hu => by
  rw [hf u]
  exact hu

/-- The parts that hold addressed memories. -/
def memParts : List Part := [.nvm, .stores, .cap, .flash]

/-- A command whose row names no part with an addressed memory. -/
theorem parts_wf {c : Instr} {s : State} (hs : memWf (s.blur memMask).mem) (hc : (memParts.all fun p => !(partsOf c).contains p) = true) : OutWf (exec c s) := by
  intro t ht
  have hk {p : Part} (hp : p ∈ memParts) : p.same s t := exec_keeps ht p fun hin => by
    have := List.all_eq_true.1 hc p hp
    rw [List.contains_iff_mem.2 hin] at this
    cases this
  have hnvm : t.nvm = s.nvm := hk (p := .nvm) (by decide)
  have hstores : t.stores = s.stores := hk (p := .stores) (by decide)
  have hcap : t.cap = s.cap := hk (p := .cap) (by decide)
  have hflash : t.flash = s.flash := hk (p := .flash) (by decide)
  rw [State.blur_mem, State.mem, hnvm, hstores, hcap, hflash]
  exact hs

/-- A command that is the write of a register. -/
theorem writeRow_wf {s : State} {rq : Req} {r : Reg} {i w : Nat} {f : Hook} (hs : memWf (s.blur memMask).mem) (hf : ∀ (u : State) (j : Nat), memWf (u.blur memMask).mem → memWf ((f rq j w 15 u).1.blur memMask).mem) : OutWf (writeRow rq r i w f s) :=
  done_wf hs fun u hu => State.hostAct_wf hu _ _ _ _ fun j => hf u j hu

theorem writeRow_mem {s : State} {rq : Req} {r : Reg} {i w : Nat} {f : Hook} (hs : memWf (s.blur memMask).mem) (hf : ∀ (u : State) (j : Nat), ((f rq j w 15 u).1.blur memMask).mem = (u.blur memMask).mem) : OutWf (writeRow rq r i w f s) :=
  writeRow_wf hs fun u j hu => by
    rw [hf u j]
    exact hu

/-- The write of one word of a frame, with its count of refusals. -/
theorem spiWords_foldl_wf (l : List (Nat × Nat)) {x : State × Bool × Bool} (hx : memWf (x.1.blur memMask).mem) :
    memWf ((l.foldl (fun (x : State × Bool × Bool) e =>
        let (s, r, d) := x.1.spiWrite e.1 e.2
        (s.when r (·.bump R.SPIS_COUNT.REFUSED 0 1), x.2.1 || r, x.2.2 || d)) x).1.blur memMask).mem :=
  foldl_invariant (P := fun y : State × Bool × Bool => memWf (y.1.blur memMask).mem) (fun y e _ hy => by
    have hs := State.spiWrite_wf hy e.1 e.2
    revert hs
    rcases y.1.spiWrite e.1 e.2 with ⟨t, r, d⟩
    intro hs
    rw [State.mem_when _ _ _ (congrArg State.mem (State.bump_blur _ _ _ _ (by decide)))]
    exact hs) hx

theorem State.readEcc_mem (u : State) (rq : Req) (e : Nat) (f : State → State) (hf : ∀ v : State, ((f v).blur memMask).mem = (v.blur memMask).mem) : ((u.readEcc rq e f).blur memMask).mem = (u.blur memMask).mem := by
  unfold State.readEcc
  split
  · split
    · rw [State.aer_blur _ _ _ (by decide)]
    · split
      · rw [hf, State.wr_blur _ _ _ _ (by decide), State.aer_blur _ _ _ (by decide)]
      · rfl
  · rfl

theorem retirePages_mem (u : State) (l : List Nat) : ((l.foldl (fun (a : State × Bool) l => if a.2 then a.1.retirePage l else a) (u, true)).1.blur memMask).mem = (u.blur memMask).mem :=
  foldl_invariant (P := fun a : State × Bool => (a.1.blur memMask).mem = (u.blur memMask).mem) (fun a l _ e => by
    split
    · exact (State.retirePage_mem _ _).trans e
    · exact e) rfl

section
variable {s : State} (hs : memWf (s.blur memMask).mem)
include hs

/-! Resets and the device -/

theorem execPorstAssert_wf : OutWf (execPorstAssert s) := by
  refine doneAll_wf hs ?_
  intro u hu
  refine memWf_ite hu ?_
  rw [State.wr_blur _ _ _ _ (by decide)]
  exact State.porState_wf hu

theorem execRelockDone_wf : OutWf (execRelockDone s) := by
  refine done_wf hs ?_
  intro u hu
  exact memWf_ite (by rw [State.locked_mem]; exact hu) hu

theorem execPllLock_wf : OutWf (execPllLock s) := by
  refine doneAll_wf hs ?_
  intro u hu
  refine memWf_ite hu ?_
  rw [State.locked_mem, State.wr_blur _ _ _ _ (by decide)]
  exact hu

theorem execHkRound_wf (t rails spines : List Int) : OutWf (execHkRound t rails spines s) := by
  refine doneAll_wf hs ?_
  intro u hu
  exact memWf_ite (State.round_wf hu _ _ _) hu

theorem execHandoverDone_wf (l : Fin 1024) : OutWf (execHandoverDone l s) := by
  refine done_wf hs ?_
  intro u hu
  dsimp only
  split
  · split
    · rw [State.spareSync_blur _ (by decide), State.retireFe_mem, State.unwait_blur _ _ (by decide), State.setLane_blur _ _ _ (by decide), State.bump_blur _ _ _ _ (by decide), State.wr_blur _ _ _ _ (by decide),
        State.feSwap_blur _ _ (by decide)]
      exact hu
    · rw [State.calNext_blur _ _ (by decide), State.setLane_blur _ _ _ (by decide), State.bump_blur _ _ _ _ (by decide), State.wr_blur _ _ _ _ (by decide), State.feSwap_blur _ _ (by decide)]
      exact hu
  · exact hu

theorem execSpiCommitDone_wf : OutWf (execSpiCommitDone s) := by
  refine done_wf hs ?_
  intro u hu
  dsimp only
  split
  · exact hu
  · rename_i l _
    have hl := spiWords_foldl_wf l (x := ({ u with spi := ⟨none, false⟩ }, false, false)) hu
    revert hl
    dsimp only
    generalize List.foldl _ _ l = y
    intro hl
    obtain ⟨v, refused, down⟩ := y
    rw [State.wr_blur _ _ _ _ (by decide)]
    exact hl

theorem execSpiReadFrame_wf (bytes : List Byte) (len : Nat) (extra : Fin 8) : OutWf (execSpiReadFrame bytes len extra s) := by
  unfold execSpiReadFrame spiFrame
  refine done_wf hs ?_
  intro u hu
  refine memWf_ite hu ?_
  dsimp only
  refine memWf_ite ?_ (memWf_ite ?_ ?_)
  · rw [State.spiTaken_blur _ _ _ (by decide)]
    exact hu
  · rw [State.spiTaken_blur _ _ _ (by decide), State.send_blur _ _ (by decide), State.freeWords_blur _ _ (by decide)]
    exact hu
  · have hv := State.spiWords_mem u (beVal ((bytes.map BitVec.toNat).take 4)) (len / 4) 0
    revert hv
    rcases u.spiWords (beVal ((bytes.map BitVec.toNat).take 4)) (len / 4) 0 with ⟨v, vs, cs, down⟩
    intro hv
    dsimp only
    refine memWf_ite ?_ ?_
    · rw [State.spiTaken_blur _ _ _ (by decide), State.send_blur _ _ (by decide), hv]
      exact hu
    · rw [State.spiTaken_blur _ _ _ (by decide), State.mem_foldl _ _ _ (fun t n => congrArg State.mem (State.busClear_blur _ _ _ (by decide))), State.send_blur _ _ (by decide), hv]
      exact hu

/-! Play and stores -/

theorem execVectorRead_wf (t : Fin 16) : OutWf (execVectorRead t s) := by
  refine done_wf hs ?_
  intro u hu
  dsimp only
  refine memWf_ite hu (memWf_ite ?_ (memWf_ite ?_ ?_))
  · rw [State.groupStop_blur _ _ (by decide), State.tileStop_blur _ _ (by decide)]
    exact hu
  · rw [State.abortStop_blur _ _ (by decide)]
    exact hu
  · have hv := State.nextRead_blur (u.recheck t.val) t.val (b := memMask) (by decide)
    revert hv
    rcases (u.recheck t.val).nextRead t.val with ⟨v, k⟩
    intro hv
    dsimp only at hv ⊢
    have hw : memWf (v.blur memMask).mem := by
      rw [hv, State.recheck_blur _ _ (by decide)]
      exact hu
    cases k with
    | none => rw [State.segSync_blur _ _ (by decide)]; exact hw
    | seg => rw [State.segSync_blur _ _ (by decide), State.segVector_mem]; exact hw
    | fill => rw [State.segSync_blur _ _ (by decide), State.fillVector_blur _ _ _ (by decide)]; exact hw
    | wait p => rw [State.segSync_blur _ _ (by decide), State.fillVector_blur _ _ _ (by decide)]; exact hw
    | stop => rw [State.segSync_blur _ _ (by decide), State.tileStop_blur _ _ (by decide)]; exact hw

theorem execFailLogWrite_wf (t : Fin 16) : OutWf (execFailLogWrite t s) := by
  refine done_wf hs ?_
  intro u hu
  dsimp only
  split
  · exact hu
  · refine memWf_each _ _ ?_ fun v n hv => State.acqFlush_wf hv n
    rw [State.wr_blur _ _ _ _ (by decide)]
    refine State.capPut_wf ?_ _ _
    rw [State.setPlay_blur _ _ _ (by decide)]
    exact hu

theorem execScrubRow_wf (t : Fin 16) : OutWf (execScrubRow t s) := by
  refine done_wf hs ?_
  intro u hu
  refine memWf_ite hu ?_
  dsimp only
  rw [State.mem_when _ _ _ (State.markRow_mem _ _ _ _), State.mem_each _ _ _ fun v k => by rw [State.raise_blur _ _ (by decide), State.sliceUe_mem, State.wr_blur _ _ _ _ (by decide), State.bump_blur _ _ _ _ (by decide)],
    State.bump_blur _ _ _ _ (by decide)]
  exact memWf_setStore (store_wf t.val hu) hu

theorem execBar2VectorWrite_wf (rq : Req) (off : Nat) (b : List Byte) : OutWf (execBar2VectorWrite rq off b s) := by
  refine done_wf hs ?_
  intro u hu
  exact memWf_ite (State.bar2Write_wf hu _ _ _) hu

theorem execBar2CaptureWrite_wf (rq : Req) (off : Nat) (b : List Byte) : OutWf (execBar2CaptureWrite rq off b s) := by
  refine done_wf hs ?_
  intro u hu
  exact memWf_ite (State.bar2Write_wf hu _ _ _) hu

theorem execBar2Read_wf (rq : Req) (off len : Nat) : OutWf (execBar2Read rq off len s) := by
  refine done_wf hs ?_
  intro u hu
  refine memWf_ite hu (memWf_ite ?_ ?_)
  · extract_lets one
    have hone (a : Nat) (d : List Nat × State) : ((one a d).2.blur memMask).mem = (d.2.blur memMask).mem := by
      unfold one
      split
      · rfl
      · split
        · exact congrArg State.mem (State.draw_blur d.2 1 (by decide))
        · rfl
    have hread : ((((List.range len).foldl (fun d j => one (off + j) d) ([], u)).2).blur memMask).mem = (u.blur memMask).mem :=
      foldl_invariant (P := fun d : List Nat × State => (d.2.blur memMask).mem = (u.blur memMask).mem) (fun d j _ e => (hone _ d).trans e) rfl
    revert hread
    generalize (List.range len).foldl (fun d j => one (off + j) d) ([], u) = d
    intro hread
    obtain ⟨bs, v⟩ := d
    dsimp only at hread ⊢
    rw [State.send_blur _ _ (by decide), State.mem_foldl _ _ _ fun x w => State.readEcc_mem x rq _ _ fun y => State.sliceUe_mem _ _ _ _ _, hread]
    exact hu
  · dsimp only
    rw [State.send_blur _ _ (by decide), State.mem_each _ _ _ fun v w => State.readEcc_mem v rq _ _ fun x => by
      split
      · exact State.sliceUe_mem _ _ _ _ _
      · exact State.storeUe_mem _ _ _ _ _]
    exact hu

theorem execUpload_wf (sag : Fin 16) (r : Fin 4) (d : List Byte) : OutWf (execUpload sag r d s) := by
  refine done_wf hs ?_
  intro u hu
  rw [State.uploadPart_mem, State.descStart_blur _ _ _ _ (by decide)]
  exact hu

theorem execCtlwDataWrite_wf (rq : Req) (t : Fin 16) (w : Word) (be : Fin 16) : OutWf (execCtlwDataWrite rq t w be s) := by
  refine done_wf hs ?_
  intro u hu
  exact State.hostAct_wf hu _ _ _ _ fun j => State.ctlwDataHook_wf hu _ _ _ _

theorem execStoreWindowWrite_wf (rq : Req) (off : Nat) (w : Word) : OutWf (execStoreWindowWrite rq off w s) := by
  refine done_wf hs ?_
  intro u hu
  exact memWf_ite (State.windowWrite_wf hu _ _ _ _) hu

theorem State.legacyWrite_wf (rq : Req) (off : Nat) (b : List Nat) : memWf ((s.legacyWrite rq off b).blur memMask).mem := by
  unfold State.legacyWrite
  dsimp only
  rw [State.mem_when _ _ _ (congrArg State.mem (State.bar2Refuse_blur _ _ _ (by decide)))]
  exact memWf_foldl _ _ hs fun v e hv => State.legacyWord_wf hv _ _ _

theorem execForerunnerVectorWrite_wf (rq : Req) (off : Nat) (b : List Byte) : OutWf (execForerunnerVectorWrite rq off b s) := by
  refine done_wf hs ?_
  intro u hu
  exact memWf_ite (State.legacyWrite_wf hu _ _ _) hu

theorem execBlockClearDone_wf (b : Fin 768) : OutWf (execBlockClearDone b s) := by
  refine done_wf hs ?_
  intro u hu
  refine memWf_ite hu ?_
  dsimp only
  rw [State.wr_blur _ _ _ _ (by decide), State.wr_blur _ _ _ _ (by decide), State.wr_blur _ _ _ _ (by decide)]
  exact memWf_with_cap (s := { u with capEcc := smKeep (fun w => w / 8192 ≠ b.val) u.capEcc }) (smWf_smKeep _ hu.1) hu

theorem execStreamRefill_wf (sag : Fin 16) (r : Fin 4) (d data : List Byte) : OutWf (execStreamRefill sag r d data s) := by
  refine done_wf hs ?_
  intro u hu
  have hd : memWf ((u.descStart (4 * sag.val + r.val) (d.map (·.toNat)) (· = 1)).blur memMask).mem := by
    rw [State.descStart_blur _ _ _ _ (by decide)]
    exact hu
  exact memWf_ite (State.moveBlocks_wf hd _ _) hd

theorem execResidentLoad_wf (sag : Fin 16) (r : Fin 4) (d data : List Byte) : OutWf (execResidentLoad sag r d data s) := by
  refine done_wf hs ?_
  intro u hu
  have hd : memWf ((u.descStart (4 * sag.val + r.val) (d.map (·.toNat)) (· = 2)).blur memMask).mem := by
    rw [State.descStart_blur _ _ _ _ (by decide)]
    exact hu
  exact memWf_ite (State.moveBlocks_wf hd _ _) hd

/-! Sequencers -/

theorem State.execMicro_wf (q : Nat) (p : Nat → Bool) (f : State → Nat → Nat → State × Nat) (hf : ∀ (u : State) (pc w : Nat), ((f u pc w).1.blur memMask).mem = (u.blur memMask).mem) : memWf ((s.execMicro q p f).blur memMask).mem := by
  have hnano (v : State) (c : Bool) (n : Nat) : ((v.when c (·.issueNano q n)).blur memMask).mem = (v.blur memMask).mem := State.mem_when _ _ _ (congrArg State.mem (State.issueNano_blur _ _ _ (by decide)))
  unfold State.execMicro
  dsimp only
  refine memWf_ite hs (memWf_ite ?_ (memWf_ite ?_ ?_))
  · rw [State.wr_blur _ _ _ _ (by decide), State.parityCheck_blur _ _ _ _ (by decide)]
    exact hs
  · rw [State.wr_blur _ _ _ _ (by decide), State.parityCheck_blur _ _ _ _ (by decide), State.fetched_blur _ _ _ (by decide)]
    exact hs
  · generalize hv : State.when (s.fetched q (s.seq q).next) _ _ = v
    have hvw : memWf (v.blur memMask).mem := by
      rw [← hv, hnano, State.fetched_blur _ _ _ (by decide)]
      exact hs
    have hfv := hf v (s.seq q).next (s.microWord q (s.seq q).next)
    revert hfv
    rcases f v (s.seq q).next (s.microWord q (s.seq q).next) with ⟨x, next⟩
    intro hfv
    rw [State.seqNext_blur _ _ _ _ _ (by decide), hnano]
    dsimp only at hfv
    rw [hfv]
    exact hvw

theorem execMeasureOpen_wf (t : Fin 16) : OutWf (execMeasureOpen t s) := by
  refine done_wf hs ?_
  intro u hu
  exact State.execMicro_wf hu _ _ _ fun v pc w => State.measureWord_mem v _ w _

theorem execMeasureClose_wf (t : Fin 16) : OutWf (execMeasureClose t s) := by
  refine done_wf hs ?_
  intro u hu
  exact State.execMicro_wf hu _ _ _ fun v pc w => State.measureWord_mem v _ w _

theorem execSeqScrubDone_wf (t : Fin 17) (hard : List Nat) : OutWf (execSeqScrubDone t hard s) := by
  refine done_wf hs ?_
  intro u hu
  refine memWf_ite hu ?_
  dsimp only
  rw [State.mem_when _ _ _ (congrArg State.mem (State.raise_blur _ _ (by decide))), State.wr_blur _ _ _ _ (by decide), State.wr_blur _ _ _ _ (by decide), State.setSeq_blur _ _ _ (by decide)]
  exact memWf_each _ _ hu fun v k hv => State.recoverWord_wf hv _ _ _

/-! Results -/

theorem execContextUpdate_wf (residue : Option (Fin 5)) : OutWf (execContextUpdate s residue) := by
  refine done_wf hs ?_
  intro u hu
  dsimp only
  split
  · exact hu
  · rw [State.ctxUpdate_mem]
    split
    · rw [State.residueFail_mem]
      exact hu
    · exact hu

theorem execResultRecordWrite_wf (g : Fin 64) : OutWf (execResultRecordWrite g s) := by
  refine done_wf hs ?_
  intro u hu
  dsimp only
  split
  · exact hu
  · refine memWf_ite hu ?_
    rw [State.grpSync_blur _ _ (by decide), State.ctxDrain_mem, State.raise_blur _ _ (by decide), State.wr_blur _ _ _ _ (by decide), State.blur_with_red _ _ (by decide)]
    exact State.capPut_wf hu _ _

theorem execAcqSampleEvaluate_wf (t : Fin 16) : OutWf (execAcqSampleEvaluate t s) := by
  refine done_wf hs ?_
  intro u hu
  have hset {v : State} (hv : memWf (v.blur memMask).mem) (a : AcqSt) : memWf ((v.setAcq t.val a).blur memMask).mem := by
    rw [State.setAcq_blur _ _ _ (by decide)]
    exact hv
  dsimp only
  split
  · exact hu
  · refine memWf_ite (memWf_ite ?_ (hset hu _)) (memWf_ite (memWf_ite ?_ ?_) (memWf_ite ?_ (hset hu _)))
    · rw [State.bump_blur _ _ _ _ (by decide)]
      exact hset (hset hu _) _
    · exact State.acqTrigger_wf (hset (hset hu _) _) _ _ _
    · exact hset (hset (hset hu _) _) _
    · exact State.acqTake_wf (hset hu _) _ _

theorem execAcqFrameClose_wf (t : Fin 16) : OutWf (execAcqFrameClose t s) := by
  refine done_wf hs ?_
  intro u hu
  refine memWf_ite hu ?_
  dsimp only
  rw [State.acqNext_blur _ _ (by decide), State.raise_blur _ _ (by decide), State.bump_blur _ _ _ _ (by decide), State.setAcq_blur _ _ _ (by decide), State.wr_blur _ _ _ _ (by decide)]
  refine State.capPut_wf (memWf_foldl _ _ ?_ fun v e hv => State.capPut_wf hv _ _) _ _
  rw [State.setAcq_blur _ _ _ (by decide), State.mem_each _ _ _ fun v j => congrArg State.mem (State.acqPad_blur _ _ _ (by decide))]
  split
  · rw [State.setAcq_blur _ _ _ (by decide)]
    exact hu
  · exact hu

/-! The flash and the non-volatile store -/

theorem memWf_cmdEnds : memWf (({ s with flash := { s.flash with cmd := none } } : State).blur memMask).mem := hs

theorem memWf_with_job (j : Option NvmJob) : memWf (({ s with nvm := { s.nvm with job := j } } : State).blur memMask).mem := hs

theorem memWf_with_chosen (c : SMap Chosen) : memWf (({ s with nvm := { s.nvm with chosen := c } } : State).blur memMask).mem := hs

theorem execFlashCmdDone_wf (status : Byte) (bytes : List Byte) : OutWf (execFlashCmdDone status bytes s) := by
  refine done_wf hs ?_
  intro u hu
  dsimp only
  split
  · exact hu
  · refine memWf_ite hu ?_
    rw [State.wr_blur _ _ _ _ (by decide), State.wr_blur _ _ _ _ (by decide)]
    refine memWf_cmdEnds ?_
    rw [State.mem_when _ _ _ (congrArg State.mem (State.wr_blur _ _ _ _ (by decide)))]
    split
    · rw [State.mem_foldl _ _ _ fun v e => congrArg State.mem (State.putFlsByte_blur _ _ _ (by decide))]
      exact hu
    · exact State.flashEffect_wf hu _

theorem execFlashWindowRead_wf (rq : Req) (off : Nat) (long : Bool) : OutWf (execFlashWindowRead rq off long s) := by
  refine done_wf hs ?_
  intro u hu
  dsimp only
  refine memWf_ite hu (memWf_ite hu ?_)
  have hw := State.winRead_mem u off (if long then 8 else 4)
  revert hw
  rcases u.winRead off (if long then 8 else 4) with ⟨v, b⟩
  intro hw
  rw [State.send_blur _ _ (by decide)]
  dsimp only at hw
  rw [hw]
  exact hu

theorem execFlashWindowWrite_wf (rq : Req) (off : Nat) (b : List Byte) : OutWf (execFlashWindowWrite rq off b s) := by
  refine done_wf hs ?_
  intro u hu
  exact memWf_ite hu (by rw [State.winAct_mem]; exact hu)

theorem execFlashProgramDone_wf (status : Byte) : OutWf (execFlashProgramDone status s) := by
  refine done_wf hs ?_
  intro u hu
  refine memWf_ite hu ?_
  rw [State.wr_blur _ _ _ _ (by decide)]
  exact State.programEnd_wf hu

theorem execFlashPollTimeout_wf (status : Byte) : OutWf (execFlashPollTimeout status s) := by
  refine done_wf hs ?_
  intro u hu
  dsimp only
  split
  · rw [State.wr_blur _ _ _ _ (by decide), State.wr_blur _ _ _ _ (by decide)]
    exact State.programEnd_wf hu
  · refine memWf_ite hu ?_
    rw [State.wr_blur _ _ _ _ (by decide), State.wr_blur _ _ _ _ (by decide), State.wr_blur _ _ _ _ (by decide), State.wr_blur _ _ _ _ (by decide)]
    refine memWf_cmdEnds ?_
    exact memWf_when _ _ hu (State.flashEffect_wf hu _)
  · exact hu

theorem execCalStepDone_wf (q : Fin 4) (x : CalOutcome) (verr terr : Int) : OutWf (execCalStepDone q x verr terr s) := by
  refine done_wf hs ?_
  intro u hu
  have hn : memWf ((u.calNext q.val).blur memMask).mem := by
    rw [State.calNext_blur _ _ (by decide)]
    exact hu
  dsimp only
  split
  · refine memWf_ite hn ?_
    rw [State.calAttempt_mem, State.calSpine_blur _ _ _ _ (by decide)]
    exact hn
  · exact hn

theorem execSelfTestDone_wf (failed : List Nat) : OutWf (execSelfTestDone failed s) := by
  refine done_wf hs ?_
  intro u hu
  dsimp only
  split
  · exact hu
  · rw [State.wr_blur _ _ _ _ (by decide), State.testFails_mem]
    exact hu

theorem execSpareIn_wf (place : Nat) : OutWf (execSpareIn place s) := by
  refine done_wf hs ?_
  intro u hu
  exact memWf_ite (by rw [State.spareAll_mem]; exact hu) hu

theorem execRepairMapWrite_wf : OutWf (execRepairMapWrite s) := by
  refine done_wf hs ?_
  intro u hu
  refine memWf_ite ?_ hu
  rw [State.nvmStart_mem, State.wr_blur _ _ _ _ (by decide), State.wr_blur _ _ _ _ (by decide)]
  exact hu

theorem execNvmWriteDone_wf (bad : List Nat) : OutWf (execNvmWriteDone bad s) := by
  refine done_wf hs ?_
  intro u hu
  dsimp only
  split
  · exact hu
  · rename_i j _
    refine memWf_ite ?_ (memWf_ite ?_ ?_)
    · have hp := State.nvmProgram_wf hu j
      generalize u.nvmProgram j = v at hp ⊢
      refine memWf_ite ?_ ?_
      · rw [State.nvmStart_mem]
        exact memWf_with_chosen hp _
      · rw [State.nvmEnd_mem]
        exact memWf_with_chosen hp _
    · rw [State.nvmEnd_mem, State.wr_blur _ _ _ _ (by decide)]
      exact hu
    · have hf := retirePages_mem u (j.pages.filter fun l => bad.contains (u.nvmPhys l))
      revert hf
      generalize List.foldl _ _ (j.pages.filter fun l => bad.contains (u.nvmPhys l)) = y
      intro hf
      obtain ⟨v, ok⟩ := y
      dsimp only at hf ⊢
      refine memWf_ite ?_ ?_
      · refine memWf_with_job ?_ _
        rw [hf]
        exact hu
      · rw [State.nvmEnd_mem, hf]
        exact hu

/-- Every command keeps the memories in canonical form. -/
theorem exec_wf (c : Instr) : OutWf (exec c s) := by
  cases c with
  | aonReset => exact doneAll_wf hs fun _ hu => State.aonState_wf hu
  | porstAssert => exact execPorstAssert_wf hs
  | railFail rail => exact doneAll_wf hs fun _ hu => State.railFall_wf hu _
  | softReset rq w => exact writeRow_wf hs fun _ _ hu => modeHook_wf hu _ _ _ _
  | relockDone => exact execRelockDone_wf hs
  | pllLock => exact execPllLock_wf hs
  | imageReadDone ok bytes => exact done_wf hs fun _ hu => State.imageRead_wf hu _ _
  | transitionDone hard => exact done_wf hs fun _ hu => State.transit_wf hu _
  | startupStepDone failed fails hard => exact done_wf hs fun _ hu => State.stepDone_wf hu _ _ _
  | registerWrite rq off w be => exact done_wf hs fun _ hu => State.busWrite_wf hu _ _ _ _
  | rcRead rq off => exact done_wf hs (keepsWf_of_mem fun _ => State.hostRead_mem _ _ _ _)
  | rsnLowRead rq off => exact done_wf hs (keepsWf_of_mem fun _ => State.hostRead_mem _ _ _ _)
  | spiReadFrame bytes len extra => exact execSpiReadFrame_wf hs _ _ _
  | handoverDone l => exact execHandoverDone_wf hs _
  | vectorRead t => exact execVectorRead_wf hs _
  | failLogWrite t => exact execFailLogWrite_wf hs _
  | bar2VectorWrite rq off b => exact execBar2VectorWrite_wf hs _ _ _
  | bar2CaptureWrite rq off b => exact execBar2CaptureWrite_wf hs _ _ _
  | bar2Read rq off len => exact execBar2Read_wf hs _ _ _
  | upload sag r d => exact execUpload_wf hs _ _ _
  | ctlwDataWrite rq t w be => exact execCtlwDataWrite_wf hs _ _ _ _
  | storeWindowWrite rq off w => exact execStoreWindowWrite_wf hs _ _ _
  | scrubRow t => exact execScrubRow_wf hs _
  | measureOpen t => exact execMeasureOpen_wf hs _
  | measureClose t => exact execMeasureClose_wf hs _
  | seqScrubDone t hard => exact execSeqScrubDone_wf hs _ _
  | redOpen rq w => exact writeRow_mem hs fun _ _ => redCmdHook_mem _ _ _ _ _
  | redClose rq w => exact writeRow_mem hs fun _ _ => redCmdHook_mem _ _ _ _ _
  | redAbort rq w => exact writeRow_mem hs fun _ _ => redCmdHook_mem _ _ _ _ _
  | contextUpdate residue => exact execContextUpdate_wf hs _
  | resultRecordWrite g => exact execResultRecordWrite_wf hs _
  | acqSampleEvaluate t => exact execAcqSampleEvaluate_wf hs _
  | acqFrameClose t => exact execAcqFrameClose_wf hs _
  | blockClearDone b => exact execBlockClearDone_wf hs _
  | streamRefill sag r d data => exact execStreamRefill_wf hs _ _ _ _
  | residentLoad sag r d data => exact execResidentLoad_wf hs _ _ _ _
  | spiCommitDone => exact execSpiCommitDone_wf hs
  | flashCmdGo rq w => exact writeRow_mem hs fun _ _ => flsCmdHook_mem _ _ _ _ _
  | flashCmdDone status bytes => exact execFlashCmdDone_wf hs _ _
  | flashWindowRead rq off long => exact execFlashWindowRead_wf hs _ _ _
  | flashWindowWrite rq off b => exact execFlashWindowWrite_wf hs _ _ _
  | flashProgramDone status => exact execFlashProgramDone_wf hs _
  | flashPollTimeout status => exact execFlashPollTimeout_wf hs _
  | calStepDone q x verr terr => exact execCalStepDone_wf hs _ _ _ _
  | hkRound t rails spines => exact execHkRound_wf hs _ _ _
  | markWorn rq w => exact writeRow_mem hs fun _ _ => sprCmdHook_mem _ _ _ _ _
  | markFailed rq w => exact writeRow_mem hs fun _ _ => sprCmdHook_mem _ _ _ _ _
  | sprSelfTest rq w => exact writeRow_mem hs fun _ _ => sprCmdHook_mem _ _ _ _ _
  | selfTestDone failed => exact execSelfTestDone_wf hs _
  | spareIn place => exact execSpareIn_wf hs _
  | repairMapWrite => exact execRepairMapWrite_wf hs
  | nvmRead rq w => exact writeRow_mem hs fun _ _ => nvmCmdHook_mem _ _ _ _ _
  | nvmUserWrite rq w => exact writeRow_mem hs fun _ _ => nvmCmdHook_mem _ _ _ _ _
  | nvmWriteDone bad => exact execNvmWriteDone_wf hs _
  | forerunnerVectorWrite rq off b => exact execForerunnerVectorWrite_wf hs _ _ _
  | _ => exact parts_wf hs rfl

end

theorem step_wf {s t : State} (h : Memory.wf s = true) (ht : step s = .next t) : Memory.wf t = true := by
  rw [memoryWf_iff] at h ⊢
  unfold step at ht
  split at ht
  · cases ht
    exact h
  · exact exec_wf (s := { s with pending := _ }) h _ t ht

end Sys2Proof.Machine

open Sys2Proof Sys2Proof.Machine

/-- Settles O59: every command keeps the form, by the operations that it is made of. -/
theorem stepsKeepMemoriesCanonical : Obligations.StepsKeepMemoriesCanonical := fun _ _ => step_wf

end

section
/-! SUPPORT. What the writes, edges and levels of a vector boundary leave of a segment engine (R112, R179, R202, R235, R384), and what a start of a tile sets (R88, R239, R267). -/

namespace Sys2Proof.Machine

variable (s : State)

/-- A segment engine without what a vector boundary changes: the level set, the captures, the held writes and the NCOs. -/
def PlaySt.core (p : PlaySt) : PlaySt := { p with lset := 0, caps := [], held := [], ncos := [] }

/-- Two states agree in the core of every segment engine. -/
def State.sameCore (s t : State) : Prop := ∀ q, (t.play q).core = (s.play q).core

theorem State.sameCore_refl : s.sameCore s := fun _ => rfl

variable {s}

theorem State.sameCore_trans {t u : State} (h : s.sameCore t) (h' : t.sameCore u) : s.sameCore u := fun q => (h' q).trans (h q)

theorem State.sameCore_of_blur {t : State} {b : Nat} (h : t.blur b = s.blur b) (hb : b.testBit 20 = false) : s.sameCore t := fun q => congrArg PlaySt.core (State.play_of_blur h q hb)

theorem State.sameCore_setPlay {k : Nat} {x : PlaySt} (h : x.core = (s.play k).core) : s.sameCore (s.setPlay k x) := by
  intro q
  by_cases hq : q = k
  · rw [hq, State.setPlay_play_same, h]
  · rw [State.setPlay_play_ne _ _ hq]

theorem State.sameCore_each (l : List Nat) (f : State → Nat → State) (h : ∀ (t : State) (n : Nat), t.sameCore (f t n)) : s.sameCore (s.each l f) :=
  s.each_induction (P := fun t => s.sameCore t) l f s.sameCore_refl fun t n ht => State.sameCore_trans ht (h t n)

theorem State.sameCore_foldl {α : Type} (l : List α) (f : State → α → State) (h : ∀ (t : State) (n : α), t.sameCore (f t n)) : s.sameCore (l.foldl f s) :=
  foldl_invariant (P := fun t => s.sameCore t) (fun t n _ ht => State.sameCore_trans ht (h t n)) s.sameCore_refl

theorem State.sameCore_when (c : Bool) (f : State → State) (h : s.sameCore (f s)) : s.sameCore (s.when c f) := by
  cases c
  · exact s.sameCore_refl
  · exact h

variable (s)

/-! The edges and writes of a boundary -/

theorem State.capEdge_core (l : Nat) (e : Edge) : s.sameCore (s.capEdge l e) := State.sameCore_setPlay rfl

theorem State.laneEdges_core (l limit n : Nat) : s.sameCore (s.laneEdges l limit n) := by
  induction n generalizing s with
  | zero => exact s.sameCore_refl
  | succ n ih =>
    unfold State.laneEdges
    split
    · exact s.sameCore_refl
    · split
      · exact s.sameCore_refl
      · refine State.sameCore_trans (State.sameCore_trans ?_ (State.sameCore_foldl _ _ fun t e => ?_)) (ih _)
        · exact State.sameCore_trans (State.sameCore_of_blur (s.setLane_blur l _ (Nat.and_self _)) (by decide)) (State.sameCore_of_blur (State.driveEdges_blur _ _ _ _ (Nat.and_self _)) (by decide))
        · split
          · exact t.capEdge_core l e
          · exact State.sameCore_of_blur (t.cmpEdge_blur l e (Nat.and_self _)) (by decide)

theorem State.laneFlush_core (l limit : Nat) : s.sameCore (s.laneFlush l limit) := s.laneEdges_core l limit _

theorem State.capsOut_core (t : Nat) : s.sameCore (s.capsOut t) := by
  unfold State.capsOut
  dsimp only
  split
  · exact s.sameCore_refl
  · refine State.sameCore_trans (State.sameCore_setPlay ?_) (State.sameCore_foldl _ _ fun u c => State.sameCore_of_blur (u.acqLanes_blur t _ (Nat.and_self _)) (by decide))
    rfl

theorem State.boundaryWrites_core (t : Nat) : s.sameCore (s.boundaryWrites t) := by
  unfold State.boundaryWrites
  refine State.sameCore_trans (State.sameCore_trans (State.sameCore_setPlay (k := t) (x := { s.play t with held := [] }) rfl) (State.sameCore_each _ _ fun u l => ?_)) (State.sameCore_foldl _ _ fun u e => ?_)
  · exact State.sameCore_of_blur (u.setLane_blur l _ (Nat.and_self _)) (by decide)
  · exact State.sameCore_of_blur (u.applied_blur _ _ _ (Nat.and_self _)) (by decide)

theorem State.boundaryFlush_core (t : Nat) : s.sameCore (s.boundaryFlush t) :=
  State.sameCore_trans (State.sameCore_trans (State.sameCore_each _ _ fun u l => u.laneFlush_core l _) (State.capsOut_core _ t)) (State.boundaryWrites_core _ t)

theorem State.setLevels_core (t n : Nat) : s.sameCore (s.setLevels t n) := by
  unfold State.setLevels
  dsimp only
  split
  · exact s.sameCore_refl
  · refine State.sameCore_trans (State.sameCore_setPlay ?_) (State.sameCore_each _ _ fun u l => State.sameCore_each _ _ fun v d => State.sameCore_of_blur (v.trigger_blur _ (Nat.and_self _)) (by decide))
    rfl

theorem State.ncoSync_core (t k : Nat) : s.sameCore (s.ncoSync t k) := State.sameCore_setPlay rfl

theorem State.ncoOrigin_core (t k a : Nat) : s.sameCore (s.ncoOrigin t k a) := State.sameCore_setPlay rfl

theorem State.segSync_core (t : Nat) : s.sameCore (s.segSync t) := State.sameCore_of_blur (s.segSync_blur t (Nat.and_self _)) (by decide)

theorem State.idleReturn_core (t : Nat) : s.sameCore (s.idleReturn t) := by
  unfold State.idleReturn
  refine State.sameCore_trans (State.sameCore_foldl _ _ fun u i => ?_) (State.capsOut_core _ t)
  dsimp only
  split
  · exact u.sameCore_refl
  · exact State.sameCore_trans (State.sameCore_trans (u.laneFlush_core _ _) (State.sameCore_of_blur (State.setLane_blur _ _ _ (Nat.and_self _)) (by decide))) (State.sameCore_of_blur (State.blockedCheck_blur _ _ (Nat.and_self _)) (by decide))

theorem State.vectorBoundary_core (t : Nat) (lset : Option Nat) : s.sameCore (s.vectorBoundary t lset) := by
  unfold State.vectorBoundary
  extract_lets r lanes a b c d e f
  have hb : a.sameCore b := State.sameCore_each _ _ fun u l => State.sameCore_when _ _ fun q => rfl
  have hc : b.sameCore c := State.sameCore_each _ _ fun u o q => rfl
  have hd : c.sameCore d := State.sameCore_each _ _ fun u k => State.sameCore_trans (State.sameCore_when _ _ fun q => rfl) (State.sameCore_when _ _ fun q => rfl)
  have he : d.sameCore e := by
    unfold e
    split
    · exact d.setLevels_core t _
    · exact d.sameCore_refl
  have hf : e.sameCore f := State.sameCore_each _ _ fun u k => u.ncoSync_core t k
  have hover : f.sameCore (f.each lanes fun s l => (s.setLane l { s.lane l with swing := s.swingClass l }).overrideAt l r) := State.sameCore_each _ _ fun u l =>
    State.sameCore_trans (State.sameCore_of_blur (u.setLane_blur l _ (Nat.and_self _)) (by decide)) (State.sameCore_of_blur (State.overrideAt_blur _ _ _ (Nat.and_self _)) (by decide))
  exact State.sameCore_trans (s.boundaryFlush_core t) (State.sameCore_trans hb (State.sameCore_trans hc (State.sameCore_trans hd (State.sameCore_trans he (State.sameCore_trans hf hover)))))

/-! A start of a tile -/

/-- What a start sets of a segment engine, and a choice of its successor keeps: that it plays, since when, and its vector cycle. -/
def PlaySt.run (p : PlaySt) : Bool × Nat × Nat := (p.playing, p.start, p.cycle)

theorem PlaySt.run_of_core {p p' : PlaySt} (h : p'.core = p.core) : p'.run = p.run := by
  have hrun : p'.core.run = p.core.run := congrArg PlaySt.run h
  exact hrun

/-- The run of a tile's engine once another engine state is set. -/
theorem State.setPlay_run (k q : Nat) (x : PlaySt) : ((s.setPlay k x).play q).run = if q = k then x.run else (s.play q).run := by
  split
  · next h => rw [h, State.setPlay_play_same]
  · next h => rw [State.setPlay_play_ne _ _ h]

theorem State.setPlay_run_same {k : Nat} {x : PlaySt} (h : x.run = (s.play k).run) (q : Nat) : ((s.setPlay k x).play q).run = (s.play q).run := by
  rw [State.setPlay_run]
  split
  · next e => rw [e, h]
  · rfl

theorem PlaySt.interrupted_run (p : PlaySt) : p.interrupted.run = p.run := by
  unfold PlaySt.interrupted
  split <;> rfl

theorem State.choose_run (t entry : Nat) (queued : Bool) (q : Nat) : ((s.choose t entry queued).play q).run = (s.play q).run := by
  have hfixed (v : State) (x : Option Succ) : ((v.setPlay t { (v.play t).interrupted with succ := x, go := false }).play q).run = (v.play q).run := v.setPlay_run_same (by exact (v.play t).interrupted_run) q
  have hstarving (v : State) (x : Option Succ) : ((v.setPlay t { v.play t with starving := x }.interrupted).play q).run = (v.play q).run := v.setPlay_run_same (by rw [PlaySt.interrupted_run]; rfl) q
  have hcheck (v : State) : ((v.ringCheck t).1.play q).run = (v.play q).run := congrArg PlaySt.run (State.play_of_blur (v.ringCheck_blur t (Nat.and_self _)) q (by decide))
  have htake (v : State) : ((v.ringTake t).1.play q).run = (v.play q).run := congrArg PlaySt.run (State.play_of_blur (v.ringTake_blur t (Nat.and_self _)) q (by decide))
  have hmark (v : State) : ((v.abortMark t).play q).run = (v.play q).run := v.setPlay_run_same (by rfl) q
  have hclear : ((s.setPlay t { s.play t with starving := none }).play q).run = (s.play q).run := s.setPlay_run_same (by rfl) q
  unfold State.choose
  generalize s.setPlay t { s.play t with starving := none } = u at hclear ⊢
  rw [← hclear]
  dsimp only
  split
  · split
    · exact (hfixed _ _).trans ((htake _).trans (hcheck u))
    · split
      · exact (hmark _).trans (hcheck u)
      · exact (hstarving _ _).trans (hcheck u)
  · exact hfixed u _

theorem State.tileStart_run (t start q : Nat) : ((s.tileStart t start).play q).run = if q = t then (true, start, 0) else (s.play q).run := by
  have hplain {u v : State} {b : Nat} (h : v.blur b = u.blur b) (hb : b.testBit 20 = false) : (v.play q).run = (u.play q).run := congrArg PlaySt.run (State.play_of_blur h q hb)
  have hcore {u v : State} (h : u.sameCore v) : (v.play q).run = (u.play q).run := PlaySt.run_of_core (h q)
  unfold State.tileStart
  extract_lets a b seg p c d x e f g h
  have hb : (b.play q).run = (s.play q).run := by
    refine (hcore (State.sameCore_each _ _ fun u i => ?_)).trans (hcore (s.idleReturn_core t))
    exact State.sameCore_trans (State.sameCore_of_blur (u.gapEnd_blur _ (Nat.and_self _)) (by decide)) (State.sameCore_of_blur (State.setLane_blur _ _ _ (Nat.and_self _)) (by decide))
  clear_value b
  have hc : (c.play q).run = if q = t then (true, start, 0) else (s.play q).run := by
    rw [← hb]
    exact b.setPlay_run t q _
  rw [← hc]
  clear_value c
  have hd : (d.play q).run = (c.play q).run := (State.choose_run _ t seg true q).trans (congrArg PlaySt.run (State.wr_play ..))
  clear_value d
  have he : (e.play q).run = (d.play q).run := d.setPlay_run_same (by rfl) q
  clear_value e
  have hf : (f.play q).run = (e.play q).run := hcore (State.sameCore_each _ _ fun u k => State.sameCore_trans (u.ncoSync_core t k) (State.ncoOrigin_core _ t k 0))
  clear_value f
  have hg : (g.play q).run = (f.play q).run := hplain (f.releaseHolder_blur t (Nat.and_self _)) (by decide)
  clear_value g
  have hh : (h.play q).run = (g.play q).run := foldl_invariant (P := fun u : State => (u.play q).run = (g.play q).run) (fun u w _ hu => (congrArg PlaySt.run (State.wr_play ..)).trans hu) rfl
  clear_value h
  have hwords : (((h.wr R.SEQ_STATUS.STATE t 1).wr R.SEQ_PC.PC t (h.rd R.SEQ_ENTRY.ENTRY t)).play q).run = (h.play q).run := congrArg PlaySt.run ((State.wr_play ..).trans (State.wr_play ..))
  exact (hcore (State.segSync_core _ t)).trans ((hplain (State.setSeq_blur _ _ _ (Nat.and_self _)) (by decide)).trans (hwords.trans (hh.trans (hg.trans (hf.trans (he.trans hd))))))

/-- The state of a sequencer once a tile has started. -/
theorem State.tileStart_state (t start q : Nat) : (s.tileStart t start).rd R.SEQ_STATUS.STATE q = if q = t then 1 else s.rd R.SEQ_STATUS.STATE q := by
  unfold State.tileStart
  have hsame {u v : State} {b : Nat} (h : v.blur b = u.blur b) (hb : b.testBit (32 + R.SEQ_STATUS.STATE.key) = false) : v.rd R.SEQ_STATUS.STATE q = u.rd R.SEQ_STATUS.STATE q := State.rd_of_blur h _ q hb
  have hfields : ∀ w ∈ [R.SEQ_STATUS.DEPTH, R.SEQ_STATUS.IN_HANDLER, R.SEQ_STATUS.LEVEL, R.SEQ_STATUS.IN_FLIGHT, R.SEQ_STATUS.ATOMIC, R.SEQ_STATUS.ATOMIC_RES], R.SEQ_STATUS.STATE.key % 1024 ≠ w.key % 1024 := by decide
  extract_lets a b seg p c d x e f g h i
  have hb : b.rd R.SEQ_STATUS.STATE q = s.rd R.SEQ_STATUS.STATE q := by
    refine Eq.trans ?_ (hsame (s.idleReturn_blur t (Nat.and_self _)) (by decide))
    refine a.each_induction (P := fun u => u.rd R.SEQ_STATUS.STATE q = a.rd R.SEQ_STATUS.STATE q) _ _ rfl fun u i hu => ?_
    exact Eq.trans (State.setLane_rd ..) ((hsame (u.gapEnd_blur _ (Nat.and_self _)) (by decide)).trans hu)
  have hc : c.rd R.SEQ_STATUS.STATE q = b.rd R.SEQ_STATUS.STATE q := State.setPlay_rd ..
  clear_value c
  have hd : d.rd R.SEQ_STATUS.STATE q = c.rd R.SEQ_STATUS.STATE q := (hsame (State.choose_blur _ t seg true (Nat.and_self _)) (by decide)).trans (State.wr_rd_key _ _ (by decide))
  clear_value d
  have he : e.rd R.SEQ_STATUS.STATE q = d.rd R.SEQ_STATUS.STATE q := State.setPlay_rd ..
  clear_value e
  have hf : f.rd R.SEQ_STATUS.STATE q = e.rd R.SEQ_STATUS.STATE q :=
    e.each_induction (P := fun u => u.rd R.SEQ_STATUS.STATE q = e.rd R.SEQ_STATUS.STATE q) _ _ rfl fun u i hu => hu
  clear_value f
  have hg : g.rd R.SEQ_STATUS.STATE q = s.rd R.SEQ_STATUS.STATE q := (hsame (f.releaseHolder_blur t (Nat.and_self _)) (by decide)).trans (hf.trans (he.trans (hd.trans (hc.trans hb))))
  clear_value g
  have hh : h.rd R.SEQ_STATUS.STATE q = s.rd R.SEQ_STATUS.STATE q := by
    rw [← hg]
    exact foldl_invariant (P := fun u : State => u.rd R.SEQ_STATUS.STATE q = g.rd R.SEQ_STATUS.STATE q) (fun u w hw hu => (State.wr_rd_key _ _ (hfields w hw)).trans hu) rfl
  rw [hsame (State.segSync_blur _ t (Nat.and_self _)) (by decide), State.setSeq_rd, State.wr_rd_key _ _ (by decide)]
  split
  · next hq => rw [hq, State.wr_rd_same]; rfl
  · next hq => rw [State.wr_rd_inst _ _ hq, hh]

end Sys2Proof.Machine
end

section
/-! SUPPORT. The start registers of the device and of a saggar, and what a start takes (R34, R87, R88, R469): O8. -/

namespace Sys2Proof.Machine

variable (s : State)

/-- The parts and fields that the start registers and their refusals may change. -/
def startMask : Nat := 0xfe0000000000000000000000000000000000000000000000000000000000000000000000000000000000000000000000000fe000000000000000000000000000000000000000028

/-- Two states that differ in start registers, due starts and the hub alone. -/
def State.startSame (s t : State) : Prop := t.blur startMask = s.blur startMask ∧ t.m.mode = s.m.mode ∧ t.m.relocking = s.m.relocking ∧ t.m.target = s.m.target

theorem State.startSame_refl : s.startSame s := ⟨rfl, rfl, rfl, rfl⟩

variable {s}

theorem State.startSame_trans {t u : State} (h : s.startSame t) (h' : t.startSame u) : s.startSame u := by
  obtain ⟨hb, hm, hr, ht⟩ := h
  obtain ⟨hb', hm', hr', ht'⟩ := h'
  exact ⟨hb'.trans hb, hm'.trans hm, hr'.trans hr, ht'.trans ht⟩

theorem State.startSame_of_blur {t : State} {b : Nat} (h : t.blur b = s.blur b) (hb : startMask &&& b = b) (hm : b.testBit 3 = false) : s.startSame t := by
  have hm := State.m_of_blur h hm
  exact ⟨State.blur_mono h hb, congrArg (·.mode) hm, congrArg (·.relocking) hm, congrArg (·.target) hm⟩

section
variable {t : State} (h : s.startSame t)
include h

theorem State.startSame_plays : t.plays = s.plays := State.plays_of_blur h.1 (by decide)

theorem State.startSame_starters (who mask edge : Nat) : t.starters who mask edge = s.starters who mask edge := by
  obtain ⟨hb, hm, hr, -⟩ := h
  have himage : t.image = s.image := State.image_of_blur hb (by decide)
  have hstate (q : Nat) : t.rd R.SEQ_STATUS.STATE q = s.rd R.SEQ_STATUS.STATE q := State.rd_of_blur hb _ q (by decide)
  have hvalid (q : Nat) : t.fl R.SEQ_LOAD.VALID q = s.fl R.SEQ_LOAD.VALID q := congrArg (· != 0) (State.rd_of_blur hb _ q (by decide))
  have hplay (q : Nat) : t.play q = s.play q := State.play_of_blur hb q (by decide)
  have hgroup (q : Nat) : t.group q = s.group q := by rw [State.group, State.group, himage, hm]
  have howner (q : Nat) : t.tileOwner q = s.tileOwner q := by rw [State.tileOwner, State.tileOwner, State.octOwner, State.octOwner, himage]
  have hbarred (m : Nat) : t.tileBarred who m edge = s.tileBarred who m edge := by
    rw [State.tileBarred, State.tileBarred, State.halted, State.halted, hstate, hvalid, hplay, howner]
  simp only [State.starters, hr, hgroup, hbarred]

theorem State.startSame_edgeTap (e : Nat) : t.edgeTap e = s.edgeTap e := by
  rw [State.edgeTap, State.edgeTap, State.clock_of_blur h.1 (by decide)]

end

/-! The fields of a start register -/

/-- The fields of DEV_START and SAG_START that a write takes. -/
def startWrites (who : Nat) : List Fld :=
  if who = 16 then [R.DEV_START.TILE_MASK, R.DEV_START.AT_TEV, R.DEV_START.TEV, R.DEV_START.REFUSED] else [R.SAG_START.TILE_MASK, R.SAG_START.AT_TEV, R.SAG_START.TEV, R.SAG_START.REFUSED]

/-- GO of a start register. -/
def startGo (who : Nat) : Fld := if who = 16 then R.DEV_START.GO else R.SAG_START.GO

/-- CANCEL of a start register. -/
def startCancel (who : Nat) : Fld := if who = 16 then R.DEV_START.CANCEL else R.SAG_START.CANCEL

/-- A fact about every start register, from the device's and any saggar's. -/
theorem startRegs_elim {P : StartRegs → Prop} (who : Nat) (hdev : P (startRegs 16)) (hsag : ∀ k, P ⟨R.SAG_START.TILE_MASK, R.SAG_START.AT_TEV, R.SAG_START.TEV, R.SAG_START.ARMED, R.SAG_START.REFUSED, k⟩) : P (startRegs who) := by
  by_cases h : who = 16
  · rw [h]
    exact hdev
  · rw [startRegs, if_neg h]
    exact hsag who

/-- A field of a start register, other than ARMED and REFUSED. -/
def StartRegs.plain (g : StartRegs) : List Fld := [g.mask, g.atTev, g.tev]

theorem startRegs_plain (who : Nat) : ∀ f ∈ (startRegs who).plain, f.key % 1024 ≠ (startRegs who).armed.key % 1024 ∧ f.key % 1024 ≠ (startRegs who).refused.key % 1024 :=
  startRegs_elim (P := fun g => ∀ f ∈ g.plain, f.key % 1024 ≠ g.armed.key % 1024 ∧ f.key % 1024 ≠ g.refused.key % 1024) who (by decide) fun _ => by simp only [StartRegs.plain]; decide

theorem startRegs_armed (who : Nat) : (startRegs who).armed.key % 1024 ≠ (startRegs who).refused.key % 1024 ∧ (startRegs who).armed.width = 1 ∧ (startRegs who).refused.width = 1 :=
  startRegs_elim (P := fun g => g.armed.key % 1024 ≠ g.refused.key % 1024 ∧ g.armed.width = 1 ∧ g.refused.width = 1) who (by decide) fun _ => ⟨by dsimp only; decide, rfl, rfl⟩

theorem startMask_armed (who : Nat) : startMask.testBit (32 + (startRegs who).armed.key % 1024) = true ∧ startMask.testBit (32 + (startRegs who).refused.key % 1024) = true :=
  startRegs_elim (P := fun g => startMask.testBit (32 + g.armed.key % 1024) = true ∧ startMask.testBit (32 + g.refused.key % 1024) = true) who (by decide) fun _ => by dsimp only; decide

variable (s)

theorem State.wr_startSame (f : Fld) (i v : Nat) (h : startMask.testBit (32 + f.key % 1024) = true) : s.startSame (s.wr f i v) := ⟨s.wr_blur f i v h, rfl, rfl, rfl⟩

/-! A refused and a cancelled start -/

theorem State.startRefused_same (who : Nat) : s.startSame (s.startRefused who) := State.startSame_of_blur (s.startRefused_blur who (Nat.and_self _)) (by decide) (by decide)

theorem State.startRefused_regs (who : Nat) : (s.startRefused who).regs = (s.wr (startRegs who).refused (startRegs who).inst 1).regs := by
  unfold State.startRefused
  dsimp only
  cases decide (who = 16) <;> rfl

theorem State.startRefused_rd {who : Nat} {f : Fld} (i : Nat) (h : f.key % 1024 ≠ (startRegs who).refused.key % 1024) : (s.startRefused who).rd f i = s.rd f i := by
  rw [State.rd, s.startRefused_regs]
  exact s.wr_rd_key 1 h

theorem State.startRefused_refused (who : Nat) : (s.startRefused who).rd (startRegs who).refused (startRegs who).inst = 1 := by
  rw [State.rd, s.startRefused_regs]
  exact (s.wr_rd_same _ _ 1).trans (by rw [(startRegs_armed who).2.2]; rfl)

theorem State.cancelStart_same (who : Nat) (refused : Bool) : s.startSame (s.cancelStart who refused) := by
  have hbare : s.startSame ({ s with m := { s.m with due := s.m.due.filter (· ≠ who) } }.wr (startRegs who).armed (startRegs who).inst 0) := by
    refine State.startSame_trans (t := { s with m := { s.m with due := s.m.due.filter (· ≠ who) } }) ⟨State.blur_with_m _ _ (by decide), rfl, rfl, rfl⟩ ?_
    exact State.wr_startSame _ _ _ _ (startMask_armed who).1
  unfold State.cancelStart
  dsimp only
  split
  · exact s.startSame_refl
  · cases refused
    · exact hbare
    · exact State.startSame_trans hbare (State.startRefused_same _ who)

theorem State.cancelStart_armed (who : Nat) (refused : Bool) : (s.cancelStart who refused).rd (startRegs who).armed (startRegs who).inst = 0 := by
  unfold State.cancelStart
  dsimp only
  split
  · next h => exact s.fl_eq_false.1 (by simpa using h)
  · have hz (t : State) : (t.wr (startRegs who).armed (startRegs who).inst 0).rd (startRegs who).armed (startRegs who).inst = 0 := by rw [State.wr_rd_same, Nat.zero_mod]
    cases refused
    · exact hz _
    · exact (State.startRefused_rd _ _ (startRegs_armed who).1).trans (hz _)

theorem State.cancelStart_plain {who : Nat} {f : Fld} (h : f ∈ (startRegs who).plain) (refused : Bool) (i : Nat) : (s.cancelStart who refused).rd f i = s.rd f i := by
  obtain ⟨harmed, hrefused⟩ := startRegs_plain who f h
  unfold State.cancelStart
  dsimp only
  split
  · rfl
  · have hw : (({ s with m := { s.m with due := s.m.due.filter (· ≠ who) } } : State).wr (startRegs who).armed (startRegs who).inst 0).rd f i = s.rd f i := State.wr_rd_key _ _ harmed
    cases refused
    · exact hw
    · exact (State.startRefused_rd _ _ hrefused).trans hw

/-- A start that was armed is no longer due. -/
theorem State.cancelStart_due {who : Nat} (h : s.fl (startRegs who).armed (startRegs who).inst = true) : who ∉ (s.cancelStart who false).m.due := by
  unfold State.cancelStart
  simp [h]

theorem State.cancelStart_refused {who : Nat} (h : s.fl (startRegs who).armed (startRegs who).inst = true) : (s.cancelStart who true).rd (startRegs who).refused (startRegs who).inst = 1 := by
  unfold State.cancelStart
  rw [if_neg (by simp [h])]
  exact State.startRefused_refused _ who

/-! A start performed -/

theorem State.startSome_playing (l : List Nat) (edge : Nat) : ∀ k, k ∈ l ∨ (s.play k).playing = true → ((s.each l fun s t => if (s.play t).playing then s else s.tileStart t edge).play k).playing = true := by
  induction l generalizing s with
  | nil => exact fun k hk => hk.resolve_left List.not_mem_nil
  | cons t l ih =>
    intro k hk
    refine ih (if (s.play t).playing then s else s.tileStart t edge) k ?_
    by_cases hkl : k ∈ l
    · exact .inl hkl
    refine .inr ?_
    by_cases hp : (s.play t).playing = true
    · rw [if_pos hp]
      obtain hk | hk := hk
      · rw [(List.mem_cons.1 hk).resolve_right hkl, hp]
      · exact hk
    · rw [if_neg hp]
      have hrun := congrArg Prod.fst (s.tileStart_run t edge k)
      refine hrun.trans ?_
      split
      · rfl
      · next hkt => exact hk.resolve_left fun hin => (List.mem_cons.1 hin).elim hkt hkl

/-- Every tile that a start takes plays (R88). -/
theorem State.launch_playing (who edge : Nat) : ∀ k ∈ s.starters who (s.rd (startRegs who).mask (startRegs who).inst) edge, ((s.launch who edge).play k).playing = true := by
  intro k hk
  have h := s.startSome_playing (s.starters who (s.rd (startRegs who).mask (startRegs who).inst) edge) edge k (.inl hk)
  unfold State.launch
  dsimp only
  generalize State.each s _ _ = t at h ⊢
  cases (List.range 16).any fun t => bitAt (s.rd (startRegs who).mask (startRegs who).inst) t && !(s.starters who (s.rd (startRegs who).mask (startRegs who).inst) edge).contains t
  · exact h
  · rw [State.when_true, State.play_of_blur (t.startRefused_blur who (Nat.and_self _)) k (by decide)]
    exact h

theorem State.launch_m (who edge : Nat) : (s.launch who edge).m = s.m := State.m_of_blur (s.launch_blur who edge (Nat.and_self _)) (by decide)

/-! A write of a start register -/

theorem startWrites_refuse (who i w : Nat) : writeFields (startWrites who) i w 15 s = ((startWrites who).foldl (fun s f => (writeField i w 15 f s).1) s, false) := by
  have hacc : ∀ f ∈ startWrites who, f.acc ≠ .rwl := by
    unfold startWrites
    split <;> decide
  refine if_neg ?_
  rw [List.any_eq_true]
  rintro ⟨f, hf, hr⟩
  rw [writeField_refuses, decide_eq_false (hacc f hf), Bool.and_false, Bool.false_and] at hr
  cases hr

/-- A start register after a write that takes its fields. -/
def State.startTaken (s : State) (who w : Nat) : State := (writeFields (startWrites who) (startRegs who).inst w 15 s).1

theorem State.startTaken_same (who w : Nat) : s.startSame (s.startTaken who w) := by
  have hmask : ∀ f ∈ startWrites who, f.acc.writes = true → startMask.testBit (32 + f.key % 1024) = true := by
    unfold startWrites
    split <;> decide
  obtain ⟨v, hv⟩ := writeFields_foldl_regs s (startWrites who) (startRegs who).inst w 15
  have hm : (s.startTaken who w).m = s.m := by
    rw [State.startTaken, startWrites_refuse, hv]
  exact ⟨writeFields_blur _ _ _ _ s hmask, congrArg (·.mode) hm, congrArg (·.relocking) hm, congrArg (·.target) hm⟩

theorem State.startTaken_rd (who w : Nat) : ∀ f ∈ (startRegs who).plain, (s.startTaken who w).rd f (startRegs who).inst = f.part w := by
  have hlist : ((startWrites who).map Fld.key).Nodup ∧ (∀ f ∈ startWrites who, f.key < 1024) ∧ ∀ f ∈ (startRegs who).plain, f ∈ startWrites who ∧ f.acc = .rw := by
    unfold startWrites startRegs StartRegs.plain
    split
    · decide
    · dsimp only
      decide
  obtain ⟨hnodup, hkeys, hplain⟩ := hlist
  intro f hf
  obtain ⟨hin, hrw⟩ := hplain f hf
  rw [State.startTaken, startWrites_refuse, (writeFields_take s _ w 15 _ hnodup hkeys).2 f hin, State.taken, Fld.enabled_whole, if_neg (by decide), hrw]

theorem State.startTaken_armed (who w : Nat) : (s.startTaken who w).rd (startRegs who).armed (startRegs who).inst = s.rd (startRegs who).armed (startRegs who).inst := by
  have hlist : ((startWrites who).map Fld.key).Nodup ∧ (∀ f ∈ startWrites who, f.key < 1024) ∧ (startRegs who).armed.key % 1024 ∉ (startWrites who).map Fld.key := by
    unfold startWrites startRegs
    split
    · decide
    · dsimp only
      decide
  obtain ⟨hnodup, hkeys, hout⟩ := hlist
  rw [State.startTaken, startWrites_refuse, (writeFields_take s _ w 15 _ hnodup hkeys).1 _ _ hout]

/-- A start register after the write of GO, with every armed start of it cancelled. -/
def State.startReady (s : State) (who w : Nat) : State := ((s.startTaken who w).when ((startCancel who).acts w 15) (·.cancelStart who false)).cancelStart who false

theorem State.startReady_same (who w : Nat) : s.startSame (s.startReady who w) := by
  refine State.startSame_trans (State.startSame_trans (s.startTaken_same who w) ?_) (State.cancelStart_same _ who false)
  cases (startCancel who).acts w 15
  · exact State.startSame_refl _
  · exact State.cancelStart_same _ who false

theorem State.startReady_rd (who w : Nat) : ∀ f ∈ (startRegs who).plain, (s.startReady who w).rd f (startRegs who).inst = f.part w := by
  intro f hf
  refine (State.cancelStart_plain _ hf _ _).trans (Eq.trans ?_ (s.startTaken_rd who w f hf))
  exact State.when_rd_of _ (f := fun t => t.cancelStart who false) (State.cancelStart_plain _ hf _ _)

/-- A write of GO in RUN: the start waits for its timed output, or is performed at once (R88). -/
theorem startHook_go {who edge w : Nat} (hgo : (startGo who).acts w 15 = true) (hs : s.startable = true) :
    startHook who edge w 15 s = (if (s.startReady who w).fl (startRegs who).atTev (startRegs who).inst then (s.startReady who w).wr (startRegs who).armed (startRegs who).inst 1
      else (s.startReady who w).launch who ((s.startReady who w).edgeTap edge), false) := by
  have hmode : s.m.mode ≠ .legacy := fun e => by
    rw [State.startable, e] at hs
    cases hs
  have htaken : writeFields (startWrites who) (startRegs who).inst w 15 s = (s.startTaken who w, false) := by
    rw [State.startTaken, startWrites_refuse]
  unfold startHook
  unfold startGo at hgo
  unfold State.startReady startCancel
  unfold startWrites at htaken
  by_cases hw : who = 16
  · simp only [if_pos hw] at hgo htaken ⊢
    simp only [hgo, hs, htaken, hmode, Bool.not_true, Bool.and_false, Bool.false_eq_true, if_false]
    split <;> rfl
  · simp only [if_neg hw] at hgo htaken ⊢
    simp only [hgo, hs, htaken, hmode, Bool.not_true, Bool.and_false, Bool.false_eq_true, if_false]
    split <;> rfl

/-- A write of GO outside RUN is refused whole (R88). -/
theorem startHook_refused {who edge w : Nat} (hgo : (startGo who).acts w 15 = true) (hs : s.startable = false) : startHook who edge w 15 s = (s.startRefused who, true) := by
  unfold startHook
  unfold startGo at hgo
  by_cases hw : who = 16
  · simp only [if_pos hw] at hgo ⊢
    simp only [hgo, hs, Bool.not_false, Bool.and_true, if_true]
  · simp only [if_neg hw] at hgo ⊢
    simp only [hgo, hs, Bool.not_false, Bool.and_true, if_true]

/-- A write of CANCEL without GO (R88). -/
theorem startHook_cancel {who edge w : Nat} (hgo : (startGo who).acts w 15 = false) (hcancel : (startCancel who).acts w 15 = true) (hmode : s.m.mode ≠ .legacy) :
    startHook who edge w 15 s = ((s.startTaken who w).cancelStart who false, false) := by
  have htaken : writeFields (startWrites who) (startRegs who).inst w 15 s = (s.startTaken who w, false) := by
    rw [State.startTaken, startWrites_refuse]
  unfold startHook
  unfold startGo at hgo
  unfold startCancel at hcancel
  unfold startWrites at htaken
  by_cases hw : who = 16
  · simp only [if_pos hw] at hgo hcancel htaken ⊢
    simp only [hgo, hcancel, htaken, hmode, Bool.false_and, Bool.false_eq_true, if_false, Bool.not_false, if_true]
    rfl
  · simp only [if_neg hw] at hgo hcancel htaken ⊢
    simp only [hgo, hcancel, htaken, hmode, Bool.false_and, Bool.false_eq_true, if_false, Bool.not_false, if_true]
    rfl

theorem State.launch_rd (who who' edge i : Nat) : (s.launch who edge).rd (startRegs who').mask i = s.rd (startRegs who').mask i ∧ (s.launch who edge).rd (startRegs who').armed i = s.rd (startRegs who').armed i := by
  have hb := s.launch_blur who edge (Nat.and_self _)
  exact startRegs_elim (P := fun g => (s.launch who edge).rd g.mask i = s.rd g.mask i ∧ (s.launch who edge).rd g.armed i = s.rd g.armed i) who'
    ⟨State.rd_of_blur hb _ i (by decide), State.rd_of_blur hb _ i (by decide)⟩ fun _ => ⟨State.rd_of_blur hb _ i (by dsimp only; decide), State.rd_of_blur hb _ i (by dsimp only; decide)⟩

/-- LEGACY takes no write of a start register (R575). -/
theorem startHook_legacy {who edge w : Nat} (hgo : (startGo who).acts w 15 = false) (hmode : s.m.mode = .legacy) : startHook who edge w 15 s = (s, true) := by
  unfold startHook
  unfold startGo at hgo
  by_cases hw : who = 16
  · simp only [if_pos hw] at hgo ⊢
    simp only [hgo, hmode, Bool.false_and, Bool.false_eq_true, if_false, if_true]
  · simp only [if_neg hw] at hgo ⊢
    simp only [hgo, hmode, Bool.false_and, Bool.false_eq_true, if_false, if_true]

/-! Writes of a start register at the copy that the requester meets -/

variable {s} {rq : Req} {r : Reg} {who e w : Nat}

theorem startRegs_sag {k : Nat} (hk : k < 16) : startRegs k = ⟨R.SAG_START.TILE_MASK, R.SAG_START.AT_TEV, R.SAG_START.TEV, R.SAG_START.ARMED, R.SAG_START.REFUSED, k⟩ := if_neg (Nat.ne_of_lt hk)

/-- The word of a cancel has no GO, and CANCEL. -/
theorem cancelWord_go (who w : Nat) : (startGo who).acts (putBits (Nat.lor w (2 ^ 22)) 19 1 0) 15 = false := by
  unfold startGo
  split
  · rw [Fld.acts, Fld.part_putBits_same (f := R.DEV_START.GO) _ _ (lo := 19) (n := 1) ⟨rfl, rfl⟩]
    rfl
  · rw [Fld.acts, Fld.part_putBits_same (f := R.SAG_START.GO) _ _ (lo := 19) (n := 1) ⟨rfl, rfl⟩]
    rfl

theorem cancelWord_cancel (who w : Nat) : (startCancel who).acts (putBits (Nat.lor w (2 ^ 22)) 19 1 0) 15 = true := by
  unfold startCancel
  split
  · have h := R.DEV_START.CANCEL.acts_lor (b := 2 ^ 22) w (by decide)
    rwa [Fld.acts, ← Fld.part_putBits (f := R.DEV_START.CANCEL) _ 0 (lo := 19) (n := 1) (.inl (by decide)), ← Fld.acts] at h
  · have h := R.SAG_START.CANCEL.acts_lor (b := 2 ^ 22) w (by decide)
    rwa [Fld.acts, ← Fld.part_putBits (f := R.SAG_START.CANCEL) _ 0 (lo := 19) (n := 1) (.inl (by decide)), ← Fld.acts] at h

theorem copyOf_sagStart {k : Nat} (h : s.sagOf rq = some k) : s.copyOf rq .SAG_START 0 = k := by
  have hcopy : s.copyOf rq .SAG_START 0 = (match s.sagOf rq with | some k => k | none => 0) * 1 + 0 := rfl
  rw [hcopy, h]
  exact Nat.mul_one k

section
variable {hook : Hook} (hhook : ∀ u : State, hook rq (s.copyOf rq r 0) w 15 u = startHook who e w 15 u) (hmay : s.canWrite rq r 0)
include hhook hmay

theorem startRow_takes {u : State} (h : startHook who e w 15 (s.withOut []) = (u, false)) : writeRow rq r 0 w hook s = .next (s.commit u) := by
  rw [writeRow_takesAt s hmay (by rw [hhook, h]), hhook, h]

theorem startRow_refuses {u : State} (h : startHook who e w 15 (s.withOut []) = (u, true)) : writeRow rq r 0 w hook s = .next (s.commit (u.refuse rq (r.offset 0) false)) := by
  rw [writeRow_refusesAt s hmay (by rw [hhook, h]), hhook, h]

/-- A start outside a timed output takes every tile that may start (R88, R469). -/
theorem start_acts (hgo : (startGo who).acts w 15 = true) (hs : s.startable = true) (hat : (startRegs who).atTev.part w = 0) :
    ∃ t, writeRow rq r 0 w hook s = .next t ∧ t.rd (startRegs who).mask (startRegs who).inst = (startRegs who).mask.part w ∧ t.rd (startRegs who).armed (startRegs who).inst = 0 ∧ t.m.mode = .run ∧
      ∀ k ∈ s.starters who ((startRegs who).mask.part w) (s.edgeTap e), (t.play k).playing = true := by
  have hgone := startHook_go (s.withOut []) (edge := e) hgo hs
  have hsame := (s.withOut []).startReady_same who w
  have hplain := (s.withOut []).startReady_rd who w
  have harmed : ((s.withOut []).startReady who w).rd (startRegs who).armed (startRegs who).inst = 0 := State.cancelStart_armed _ who false
  generalize (s.withOut []).startReady who w = v at hgone hsame hplain harmed
  have hmask := hplain (startRegs who).mask List.mem_cons_self
  have hnow : v.fl (startRegs who).atTev (startRegs who).inst = false := (State.fl_eq_false v).2 ((hplain _ (List.mem_cons_of_mem _ List.mem_cons_self)).trans hat)
  rw [hnow, if_neg Bool.false_ne_true] at hgone
  refine ⟨_, startRow_takes hhook hmay hgone, ?_, ?_, ?_, ?_⟩
  · rw [State.commit_rd, (v.launch_rd who who _ _).1, hmask]
  · rw [State.commit_rd, (v.launch_rd who who _ _).2, harmed]
  · rw [State.commit_m, State.launch_m, hsame.2.1]
    rw [State.startable, Bool.and_eq_true] at hs
    exact of_decide_eq_true hs.1
  · intro k hk
    rw [State.commit_play]
    refine v.launch_playing who _ k ?_
    rw [hmask, State.startSame_starters hsame, State.startSame_edgeTap hsame]
    exact hk

/-- A start that waits for a timed output is armed (R88, R469). -/
theorem start_arms (hgo : (startGo who).acts w 15 = true) (hs : s.startable = true) (hat : (startRegs who).atTev.part w = 1) :
    ∃ t, writeRow rq r 0 w hook s = .next t ∧ t.rd (startRegs who).armed (startRegs who).inst = 1 ∧ t.rd (startRegs who).tev (startRegs who).inst = (startRegs who).tev.part w ∧ t.plays = s.plays := by
  have hgone := startHook_go (s.withOut []) (edge := e) hgo hs
  have hsame := (s.withOut []).startReady_same who w
  have hplain := (s.withOut []).startReady_rd who w
  generalize (s.withOut []).startReady who w = v at hgone hsame hplain
  have hlater : v.fl (startRegs who).atTev (startRegs who).inst = true := by
    rw [State.fl, hplain _ (List.mem_cons_of_mem _ List.mem_cons_self), hat]
    rfl
  rw [hlater, if_pos rfl] at hgone
  have htev : (startRegs who).tev ∈ (startRegs who).plain := List.mem_cons_of_mem _ (List.mem_cons_of_mem _ List.mem_cons_self)
  refine ⟨_, startRow_takes hhook hmay hgone, ?_, ?_, ?_⟩
  · rw [State.commit_rd, State.wr_rd_same, (startRegs_armed who).2.1]
    rfl
  · rw [State.commit_rd, State.wr_rd_key _ _ (startRegs_plain who _ htev).1, hplain _ htev]
  · rw [State.commit_plays, State.wr_plays, State.startSame_plays hsame]
    rfl

/-- A start outside RUN is refused whole (R88, R469). -/
theorem start_refused (hgo : (startGo who).acts w 15 = true) (hs : s.startable = false) : writeRow rq r 0 w hook s = .next (s.commit (((s.withOut []).startRefused who).refuse rq (r.offset 0) false)) :=
  startRow_refuses hhook hmay (startHook_refused (s.withOut []) hgo hs)

/-- A cancel ends an armed start (R88, R469). -/
theorem start_cancels (hgo : (startGo who).acts w 15 = false) (hcancel : (startCancel who).acts w 15 = true) (hmode : s.m.mode ≠ .legacy) :
    ∃ t, writeRow rq r 0 w hook s = .next t ∧ t.rd (startRegs who).armed (startRegs who).inst = 0 ∧ (s.fl (startRegs who).armed (startRegs who).inst = true → who ∉ t.m.due) ∧ t.plays = s.plays := by
  have hgone := startHook_cancel (s.withOut []) (edge := e) hgo hcancel hmode
  have hsame := (s.withOut []).startTaken_same who w
  have harmed : ((s.withOut []).startTaken who w).rd (startRegs who).armed (startRegs who).inst = s.rd (startRegs who).armed (startRegs who).inst := (s.withOut []).startTaken_armed who w
  generalize (s.withOut []).startTaken who w = v at hgone hsame harmed
  refine ⟨_, startRow_takes hhook hmay hgone, ?_, ?_, ?_⟩
  · rw [State.commit_rd, State.cancelStart_armed]
  · intro hfl
    rw [State.commit_m]
    refine v.cancelStart_due ?_
    rw [State.fl, harmed]
    exact hfl
  · rw [State.commit_plays, State.startSame_plays (v.cancelStart_same who false), State.startSame_plays hsame]
    rfl

end

section
variable {w : Word} {e : Fin 2} (hmay : s.canWrite rq .DEV_START 0)
include hmay

theorem devStart_acts (hs : s.startable = true) (hat : R.DEV_START.AT_TEV.part w.toNat = 0) :
    ∃ t, exec (.devStartGo rq w e) s = .next t ∧ t.rd R.DEV_START.TILE_MASK 0 = R.DEV_START.TILE_MASK.part w.toNat ∧ t.rd R.DEV_START.ARMED 0 = 0 ∧ t.m.mode = .run ∧
      ∀ k ∈ s.starters 16 (R.DEV_START.TILE_MASK.part w.toNat) (s.edgeTap e.val), (t.play k).playing = true := by
  rw [← Fld.part_lor_zero (f := R.DEV_START.TILE_MASK) (b := 2 ^ 19) w.toNat rfl]
  exact start_acts (who := 16) (hook := devStartHook e.val) (fun _ => rfl) hmay (Fld.acts_lor _ (by decide)) hs ((Fld.part_lor_zero _ rfl).trans hat)

theorem devStart_arms (hs : s.startable = true) (hat : R.DEV_START.AT_TEV.part w.toNat = 1) :
    ∃ t, exec (.devStartGo rq w e) s = .next t ∧ t.rd R.DEV_START.ARMED 0 = 1 ∧ t.rd R.DEV_START.TEV 0 = R.DEV_START.TEV.part w.toNat ∧ t.plays = s.plays := by
  rw [← Fld.part_lor_zero (f := R.DEV_START.TEV) (b := 2 ^ 19) w.toNat rfl]
  exact start_arms (who := 16) (hook := devStartHook e.val) (fun _ => rfl) hmay (Fld.acts_lor _ (by decide)) hs ((Fld.part_lor_zero _ rfl).trans hat)

theorem devStart_refused (hs : s.startable = false) :
    ∃ t, exec (.devStartGo rq w e) s = .next t ∧ t.rd R.DEV_START.REFUSED 0 = 1 ∧ t.rd R.DEV_START.TILE_MASK 0 = s.rd R.DEV_START.TILE_MASK 0 ∧ t.hub.asserted = s.hub.asserted ++ [(4, 0)] ∧ s.keeps t [.regs, .hub] := by
  refine ⟨_, start_refused (who := 16) (hook := devStartHook e.val) (fun _ => rfl) hmay (Fld.acts_lor _ (by decide)) hs, ?_⟩
  rw [show (s.withOut []).startRefused 16 = ((s.withOut []).wr R.DEV_START.REFUSED 0 1).raise 4 from rfl]
  refine ⟨?_, ?_, ?_, State.keeps_commit (by simp)⟩
  · rw [State.commit_rd, State.refuse_rd_any _ _ _ _ (by decide), State.raise_rd, State.wr_rd_same]
    rfl
  · rw [State.commit_rd, State.refuse_rd_any _ _ _ _ (by decide), State.raise_rd, State.wr_rd_key _ _ (by decide)]
    rfl
  · rw [State.commit_hub, State.hub_of_blur (State.refuse_blur _ _ _ _ (Nat.and_self _)) (by decide), State.raise_asserted]
    rfl

theorem devStart_cancels (hmode : s.m.mode ≠ .legacy) :
    ∃ t, exec (.devStartCancel rq w) s = .next t ∧ t.rd R.DEV_START.ARMED 0 = 0 ∧ (s.fl R.DEV_START.ARMED 0 = true → 16 ∉ t.m.due) ∧ t.plays = s.plays :=
  start_cancels (who := 16) (hook := devStartHook 0) (fun _ => rfl) hmay (cancelWord_go 16 w.toNat) (cancelWord_cancel 16 w.toNat) hmode

end

theorem devStart_legacy {f : Fin 64} {w : Word} (hmay : s.canWrite (.fn f) .DEV_START 0) (hmode : s.m.mode = .legacy) :
    ∃ t, exec (.devStartCancel (.fn f) w) s = .next t ∧ t.rd R.HOST_REFUSE.COUNT f.val = min (s.rd R.HOST_REFUSE.COUNT f.val + 1) (2 ^ R.HOST_REFUSE.COUNT.width - 1) ∧ s.keeps t [.regs] ∧ s.keepsFields t refuseFields :=
  writeRow_counts (h := devStartHook 0) s hmay (startHook_legacy (s.withOut []) (cancelWord_go 16 w.toNat) hmode)

section
variable {w : Word} {e : Fin 2} {k : Nat} (hmay : s.canWrite rq .SAG_START 0) (hsag : s.sagOf rq = some k) (hk : k < 16)
include hmay hsag hk

theorem sagStart_acts (hs : s.startable = true) (hat : R.SAG_START.AT_TEV.part w.toNat = 0) :
    ∃ t, exec (.sagStartGo rq w e) s = .next t ∧ t.rd R.SAG_START.TILE_MASK k = R.SAG_START.TILE_MASK.part w.toNat ∧ t.rd R.SAG_START.ARMED k = 0 ∧
      ∀ j ∈ s.starters k (R.SAG_START.TILE_MASK.part w.toNat) (s.edgeTap e.val), (t.play j).playing = true := by
  have hrow := start_acts (who := k) (e := e.val) (w := Nat.lor w.toNat (2 ^ 19)) (hook := sagStartHook e.val) (fun _ => by rw [copyOf_sagStart hsag]; rfl) hmay
  rw [startGo, startRegs_sag hk, if_neg (Nat.ne_of_lt hk)] at hrow
  obtain ⟨t, ht, hmask, harmed, -, hplay⟩ := hrow (Fld.acts_lor _ (by decide)) hs ((Fld.part_lor_zero (f := R.SAG_START.AT_TEV) _ rfl).trans hat)
  rw [← Fld.part_lor_zero (f := R.SAG_START.TILE_MASK) (b := 2 ^ 19) w.toNat rfl]
  exact ⟨t, ht, hmask, harmed, hplay⟩

theorem sagStart_arms (hs : s.startable = true) (hat : R.SAG_START.AT_TEV.part w.toNat = 1) :
    ∃ t, exec (.sagStartGo rq w e) s = .next t ∧ t.rd R.SAG_START.ARMED k = 1 ∧ t.rd R.SAG_START.TEV k = R.SAG_START.TEV.part w.toNat ∧ t.plays = s.plays := by
  have hrow := start_arms (who := k) (e := e.val) (w := Nat.lor w.toNat (2 ^ 19)) (hook := sagStartHook e.val) (fun _ => by rw [copyOf_sagStart hsag]; rfl) hmay
  rw [startGo, startRegs_sag hk, if_neg (Nat.ne_of_lt hk)] at hrow
  rw [← Fld.part_lor_zero (f := R.SAG_START.TEV) (b := 2 ^ 19) w.toNat rfl]
  exact hrow (Fld.acts_lor _ (by decide)) hs ((Fld.part_lor_zero (f := R.SAG_START.AT_TEV) _ rfl).trans hat)

theorem sagStart_refused (hs : s.startable = false) :
    ∃ t, exec (.sagStartGo rq w e) s = .next t ∧ t.rd R.SAG_START.REFUSED k = 1 ∧ t.rd R.SAG_START.TILE_MASK k = s.rd R.SAG_START.TILE_MASK k ∧ s.keeps t [.regs] := by
  have hgo : (startGo k).acts (Nat.lor w.toNat (2 ^ 19)) 15 = true := by
    rw [startGo, if_neg (Nat.ne_of_lt hk)]
    exact Fld.acts_lor _ (by decide)
  refine ⟨_, start_refused (who := k) (hook := sagStartHook e.val) (fun _ => by rw [copyOf_sagStart hsag]; rfl) hmay hgo hs, ?_⟩
  have hu : (s.withOut []).startRefused k = (s.withOut []).wr R.SAG_START.REFUSED k 1 := by
    rw [State.startRefused, startRegs_sag hk, decide_eq_false (Nat.ne_of_lt hk)]
    rfl
  rw [hu]
  refine ⟨?_, ?_, State.keeps_commit (by simp)⟩
  · rw [State.commit_rd, State.refuse_rd_any _ _ _ _ (by decide), State.wr_rd_same]
    rfl
  · rw [State.commit_rd, State.refuse_rd_any _ _ _ _ (by decide), State.wr_rd_key _ _ (by decide)]
    rfl

theorem sagStart_cancels (hmode : s.m.mode ≠ .legacy) : ∃ t, exec (.sagStartCancel rq w) s = .next t ∧ t.rd R.SAG_START.ARMED k = 0 ∧ t.plays = s.plays := by
  obtain ⟨t, ht, harmed, -, hplays⟩ := start_cancels (who := k) (e := 0) (hook := sagStartHook 0) (fun _ => by rw [copyOf_sagStart hsag]; rfl) hmay (cancelWord_go k w.toNat) (cancelWord_cancel k w.toNat) hmode
  rw [startRegs_sag hk] at harmed
  exact ⟨t, ht, harmed, hplays⟩

end

/-! The edge of an armed start (R88) -/

/-- What the edge of an armed start does. -/
def armedRule (who edge : Nat) (s : State) : State :=
  if !s.m.due.contains who || !s.fl (startRegs who).armed (startRegs who).inst then s
  else if !s.startable then s.cancelStart who true
  else (s.cancelStart who false).launch who (s.edgeTap edge)

theorem armedStart_idles {k : Fin 17} {e : Fin 2} (h : k.val ∉ s.m.due ∨ s.fl (startRegs k.val).armed (startRegs k.val).inst = false) : ∃ t, exec (.armedStart k e) s = .next t ∧ s.keeps t [] := by
  refine done_idle s (f := armedRule k.val e.val) (if_pos ?_)
  rw [Bool.or_eq_true, Bool.not_eq_true', Bool.not_eq_true']
  exact h.imp_left fun hout => Bool.eq_false_iff.2 fun hin => hout (List.contains_iff_mem.1 hin)

section
variable {k : Fin 17} {e : Fin 2} (hdue : k.val ∈ s.m.due) (harmed : s.fl (startRegs k.val).armed (startRegs k.val).inst = true)
include hdue harmed

theorem armedStart_acts (hs : s.startable = true) :
    ∃ t, exec (.armedStart k e) s = .next t ∧ t.fl (startRegs k.val).armed (startRegs k.val).inst = false ∧
      ∀ j ∈ s.starters k.val (s.rd (startRegs k.val).mask (startRegs k.val).inst) (s.edgeTap e.val), (t.play j).playing = true := by
  have hwaits : ¬(!s.m.due.contains k.val || !s.fl (startRegs k.val).armed (startRegs k.val).inst) = true := by
    rw [List.contains_iff_mem.2 hdue, harmed]
    decide
  refine ⟨_, done_is s (f := armedRule k.val e.val) (u := ((s.withOut []).cancelStart k.val false).launch k.val ((s.withOut []).edgeTap e.val)) ?_, ?_, ?_⟩
  · refine (if_neg hwaits).trans (if_neg ?_)
    rw [show (s.withOut []).startable = true from hs]
    decide
  · rw [State.commit_fl, State.fl, (State.launch_rd _ _ _ _ _).2, State.cancelStart_armed]
    rfl
  · intro j hj
    rw [State.commit_play]
    refine State.launch_playing _ _ _ j ?_
    rw [State.cancelStart_plain _ List.mem_cons_self, State.startSame_starters ((s.withOut []).cancelStart_same k.val false)]
    exact hj

theorem armedStart_refused (hs : s.startable = false) :
    ∃ t, exec (.armedStart k e) s = .next t ∧ t.fl (startRegs k.val).armed (startRegs k.val).inst = false ∧ t.fl (startRegs k.val).refused (startRegs k.val).inst = true ∧ t.plays = s.plays := by
  have hwaits : ¬(!s.m.due.contains k.val || !s.fl (startRegs k.val).armed (startRegs k.val).inst) = true := by
    rw [List.contains_iff_mem.2 hdue, harmed]
    decide
  refine ⟨_, done_is s (f := armedRule k.val e.val) (u := (s.withOut []).cancelStart k.val true) ?_, ?_, ?_, ?_⟩
  · refine (if_neg hwaits).trans (if_pos ?_)
    rw [show (s.withOut []).startable = false from hs]
    rfl
  · rw [State.commit_fl, State.fl, State.cancelStart_armed]
    rfl
  · rw [State.commit_fl, State.fl, State.cancelStart_refused (s.withOut []) harmed]
    rfl
  · rw [State.commit_plays, State.startSame_plays ((s.withOut []).cancelStart_same k.val true)]
    rfl

end

end Sys2Proof.Machine

open Sys2Proof Sys2Proof.Machine

/-- Settles O8, from the rule of a start register at the copy that the requester meets, and from what a start of a tile sets. -/
theorem starts : Obligations.Starts := by
  refine ⟨?_, ?_, ?_, ?_, ?_, ?_, ?_, ?_, ?_, ?_, ?_, ?_⟩
  · exact fun _ _ _ _ hmay hs hat => devStart_acts hmay hs hat
  · exact fun _ _ _ _ hmay hs hat => devStart_arms hmay hs hat
  · exact fun _ _ _ _ hmay hs => devStart_refused hmay hs
  · exact fun _ _ _ hmay hmode => devStart_cancels hmay hmode
  · exact fun _ _ _ _ _ hmay hsag hk hs hat => sagStart_acts hmay hsag hk hs hat
  · exact fun _ _ _ _ _ hmay hsag hk hs hat => sagStart_arms hmay hsag hk hs hat
  · exact fun _ _ _ _ _ hmay hsag hk hs => sagStart_refused hmay hsag hk hs
  · exact fun _ _ _ _ hmay hsag hk hmode => sagStart_cancels hmay hsag hk hmode
  · exact fun _ _ _ hmay hmode => devStart_legacy hmay hmode
  · exact fun _ _ _ h => armedStart_idles h
  · exact fun _ _ _ hdue harmed hs => armedStart_acts hdue harmed hs
  · exact fun _ _ _ hdue harmed hs => armedStart_refused hdue harmed hs

end

section
/-! SUPPORT. The forerunner commands that start, stop, calibrate and reset a personality (R539, R575 to R578). -/

namespace Sys2Proof.Machine

variable (s : State)

theorem mem_personaTiles {p k : Nat} (hk : k < 4) : 4 * p + k ∈ personaTiles p := List.mem_map.2 ⟨k, List.mem_range.2 hk, rfl⟩

/-- A property that a command gives one tile, and that it keeps of the others, holds of every listed tile at the end. -/
theorem State.each_gives (l : List Nat) (f : State → Nat → State) (P : State → Nat → Prop) (hgive : ∀ u t, P (f u t) t) (hkeep : ∀ u t k, P u k → P (f u t) k) : ∀ k, k ∈ l ∨ P s k → P (s.each l f) k := by
  induction l generalizing s with
  | nil => exact fun k hk => hk.resolve_left List.not_mem_nil
  | cons t l ih =>
    refine fun k hk => ih (f s t) k ?_
    obtain hk | hk := hk
    · obtain rfl | hk := List.mem_cons.1 hk
      · exact .inr (hgive s k)
      · exact .inl hk
    · exact .inr (hkeep s t k hk)

/-! Starts -/

/-- What the start command of a personality does. -/
def startPersona (p edge : Nat) (s : State) : State :=
  if !s.persona p then s
  else if s.fl R.THS_STATUS.CONE_T 0 then s.personaFlag R.DEV_LEGACY.THERMAL_DISCARD p
  else if s.m.relocking || s.m.target.isSome || (personaTiles p).any (fun t => s.playing t || s.halted t) then s
  else s.each (personaTiles p) fun u t => u.tileStart t (u.edgeTap edge)

/-- A tile that has started on an edge, with its sequencer running. -/
def State.startedAt (s : State) (edge k : Nat) : Prop := (s.play k).run = (true, edge, 0) ∧ s.rd R.SEQ_STATUS.STATE k = 1

theorem State.tileStart_started (t edge : Nat) : (s.tileStart t edge).startedAt edge t := ⟨by rw [State.tileStart_run, if_pos rfl], by rw [State.tileStart_state, if_pos rfl]⟩

theorem State.tileStart_keeps (t edge k : Nat) (h : s.startedAt edge k) : (s.tileStart t edge).startedAt edge k := by
  obtain ⟨hrun, hstate⟩ := h
  constructor
  · rw [State.tileStart_run, hrun, ite_self]
  · rw [State.tileStart_state, hstate, ite_self]

/-- One VCLK edge serves every tile, since no start moves the clock. -/
theorem State.startAll_edge (l : List Nat) (e edge : Nat) (h : s.edgeTap e = edge) : (s.each l fun u t => u.tileStart t (u.edgeTap e)) = s.each l fun u t => u.tileStart t edge := by
  induction l generalizing s with
  | nil => rw [State.each, State.each, List.foldl_nil, List.foldl_nil]
  | cons t l ih =>
    have hclock : (s.tileStart t edge).clock = s.clock := State.clock_of_blur (s.tileStart_blur t edge (Nat.and_self _)) (by decide)
    have hnext := ih (s.tileStart t edge) (by rw [State.edgeTap, hclock]; exact h)
    rw [← h] at hnext ⊢
    exact hnext

theorem State.startAll {l : List Nat} {k : Nat} (e : Nat) (hk : k ∈ l) : (s.each l fun u t => u.tileStart t (u.edgeTap e)).startedAt (s.edgeTap e) k := by
  rw [s.startAll_edge l e _ rfl]
  exact s.each_gives l _ (fun u k => u.startedAt (s.edgeTap e) k) (fun u t => u.tileStart_started t _) (fun u t k => u.tileStart_keeps t _ k) k (.inl hk)

/-- The tiles of a personality start on one edge (R575). -/
theorem forerunnerStart_starts {p : Fin 4} {edge : Fin 2} (hp : s.persona p.val = true) (hcone : s.fl R.THS_STATUS.CONE_T 0 = false) (hlock : s.m.relocking = false) (htarget : s.m.target = none)
    (hidle : ∀ k, k < 4 → s.playing (4 * p.val + k) = false ∧ s.halted (4 * p.val + k) = false) :
    ∃ t, exec (.forerunnerStart p edge) s = .next t ∧ (∀ k, k < 4 → (t.play (4 * p.val + k)).playing = true ∧ (t.play (4 * p.val + k)).start = s.clock.tick * 2048 + edge.val * 1024 ∧ (t.play (4 * p.val + k)).cycle = 0 ∧ t.rd R.SEQ_STATUS.STATE (4 * p.val + k) = 1) := by
  have hbusy : (personaTiles p.val).any (fun t => s.playing t || s.halted t) = false := by
    refine List.any_eq_false.2 fun t ht => ?_
    obtain ⟨k, hk, rfl⟩ := List.mem_map.1 ht
    obtain ⟨h1, h2⟩ := hidle k (List.mem_range.1 hk)
    simp [h1, h2]
  have hrule : execForerunnerStart p edge s = .next (s.commit ((s.withOut []).each (personaTiles p.val) fun u t => u.tileStart t (u.edgeTap edge.val))) := by
    refine done_is s (f := startPersona p.val edge.val) ((if_neg ?_).trans ((if_neg ?_).trans (if_neg ?_)))
    · rw [show (s.withOut []).persona p.val = true from hp]
      decide
    · rw [show (s.withOut []).fl R.THS_STATUS.CONE_T 0 = false from hcone]
      decide
    · rw [show (s.withOut []).m = s.m from rfl, hlock, htarget]
      exact Bool.eq_false_iff.1 hbusy
  refine ⟨_, hrule, fun k hk => ?_⟩
  obtain ⟨hrun, hstate⟩ := (s.withOut []).startAll edge.val (mem_personaTiles (p := p.val) hk)
  rw [State.commit_play, State.commit_rd]
  exact ⟨congrArg Prod.fst hrun, congrArg (·.2.1) hrun, congrArg (·.2.2) hrun, hstate⟩

/-! A start under Cone T, and one that finds nothing to do -/

theorem personaFlag_rd (u : State) (f : Fld) (p : Nat) : (u.personaFlag f p).rd f 0 = Nat.lor (u.rd f 0) (2 ^ p) % 2 ^ f.width := u.wr_rd_same f 0 _

theorem forerunnerStart_discards {p : Fin 4} {edge : Fin 2} (hp : s.persona p.val = true) (hcone : s.fl R.THS_STATUS.CONE_T 0 = true) :
    ∃ t, exec (.forerunnerStart p edge) s = .next t ∧ t.plays = s.plays ∧ t.rd R.DEV_LEGACY.THERMAL_DISCARD 0 = Nat.lor (s.rd R.DEV_LEGACY.THERMAL_DISCARD 0) (2 ^ p.val) % 16 ∧ s.keepsFields t [R.DEV_LEGACY.THERMAL_DISCARD] := by
  have hrule : execForerunnerStart p edge s = .next (s.commit ((s.withOut []).personaFlag R.DEV_LEGACY.THERMAL_DISCARD p.val)) := by
    refine done_is s (f := startPersona p.val edge.val) ((if_neg ?_).trans (if_pos hcone))
    rw [show (s.withOut []).persona p.val = true from hp]
    decide
  refine ⟨_, hrule, rfl, ?_, ?_⟩
  · rw [State.commit_rd, personaFlag_rd]
    rfl
  · rw [State.keepsFields_commit, State.personaFlag, State.keepsFields_wr _ _ _ (by decide), State.keepsFields_withOut]
    exact s.keepsFields_refl _

theorem forerunnerStart_idles {p : Fin 4} {edge : Fin 2}
    (h : s.persona p.val = false ∨ (s.fl R.THS_STATUS.CONE_T 0 = false ∧ (s.m.relocking = true ∨ s.m.target.isSome = true ∨ (personaTiles p.val).any (fun k => s.playing k || s.halted k) = true))) :
    ∃ t, exec (.forerunnerStart p edge) s = .next t ∧ s.keeps t [] := by
  refine done_idle s (f := startPersona p.val edge.val) ?_
  unfold startPersona
  obtain hp | ⟨hcone, hbusy⟩ := h
  · refine if_pos ?_
    rw [show (s.withOut []).persona p.val = false from hp]
    rfl
  · split
    · rfl
    · refine (if_neg ?_).trans (if_pos ?_)
      · rw [show (s.withOut []).fl R.THS_STATUS.CONE_T 0 = false from hcone]
        decide
      · rw [Bool.or_eq_true, Bool.or_eq_true, or_assoc]
        exact hbusy

/-! Stops -/

theorem State.tileStop_stops (t : Nat) : ((s.tileStop t).play t).playing = false := by
  rw [State.tileStop, State.play_of_blur (State.seqStopped_blur _ t (Nat.and_self _)) t (by decide)]
  exact s.engineStop_idle t (.inl rfl)

/-- A stop of a tile that plays, as the forerunner's stop commands make it. -/
def State.playStop (s : State) (t : Nat) : State := if s.playing t then s.tileStop t else s

theorem State.playStop_stops (t : Nat) : ((s.playStop t).play t).playing = false := by
  unfold State.playStop
  split
  · exact s.tileStop_stops t
  · next h => exact Bool.eq_false_iff.2 h

theorem State.playStop_idle (t k : Nat) (h : (s.play k).playing = false) : ((s.playStop t).play k).playing = false := by
  unfold State.playStop
  split
  · exact s.tileStop_idle t h
  · exact h

/-- The tiles of a personality end their play. -/
theorem State.playStops_idle {p k : Nat} (hk : k < 4) : ((s.each (personaTiles p) State.playStop).play (4 * p + k)).playing = false :=
  s.each_gives _ _ (fun u k => (u.play k).playing = false) (fun u t => u.playStop_stops t) (fun u t k => u.playStop_idle t k) _ (.inl (mem_personaTiles hk))

/-- A stop of one tile leaves the play of another. -/
theorem State.tileStop_other {t k : Nat} (h : k ≠ t) : ((s.tileStop t).play k).playing = (s.play k).playing := by
  rw [State.tileStop, State.play_of_blur (State.seqStopped_blur _ t (Nat.and_self _)) k (by decide)]
  unfold State.engineStop
  dsimp only
  split
  · rfl
  · rw [State.segSync_play, State.boundaryWrites_playing, State.setPlay_play_ne _ _ h]
    exact s.when_induction (P := fun u => (u.play k).playing = (s.play k).playing) _ _ rfl (s.slotFree_playing t _ k)

/-- A tile's sequencer after a stop of a tile. -/
theorem State.tileStop_state (t q : Nat) : (s.tileStop t).rd R.SEQ_STATUS.STATE q = if q = t ∧ s.halted t = false then 0 else s.rd R.SEQ_STATUS.STATE q := by
  have he (q : Nat) : (s.engineStop t).rd R.SEQ_STATUS.STATE q = s.rd R.SEQ_STATUS.STATE q := State.rd_of_blur (s.engineStop_blur t (Nat.and_self _)) _ q (by decide)
  have hh : (s.engineStop t).halted t = s.halted t := by rw [State.halted, State.halted, he]
  rw [← hh, ← he]
  unfold State.tileStop
  generalize s.engineStop t = u
  unfold State.seqStopped
  dsimp only
  by_cases hhalt : u.halted t = true
  · rw [if_pos (by rw [hhalt]; rfl), if_neg (by simp [hhalt])]
  · by_cases hzero : u.rd R.SEQ_STATUS.STATE t = 0
    · rw [if_pos (by simp [hzero])]
      split
      · next h => rw [h.1, hzero]
      · rfl
    · have hw : ((if t < 16 then (((u.wr R.SEQ_STATUS.STATE t 0).setSeq t { u.seq t with waiting := none, draining := false, vsync := false }).releaseHolder t).raise (64 + 16 * t + 10)
          else ((u.wr R.SEQ_STATUS.STATE t 0).setSeq t { u.seq t with waiting := none, draining := false, vsync := false }).releaseHolder t)).rd R.SEQ_STATUS.STATE q = (u.wr R.SEQ_STATUS.STATE t 0).rd R.SEQ_STATUS.STATE q := by
        have hr (v : State) : (v.releaseHolder t).rd R.SEQ_STATUS.STATE q = v.rd R.SEQ_STATUS.STATE q := State.rd_of_blur (v.releaseHolder_blur t (Nat.and_self _)) _ q (by decide)
        split
        · rw [State.raise_rd, hr, State.setSeq_rd]
        · rw [hr, State.setSeq_rd]
      rw [if_neg (by simp [hhalt, hzero])]
      refine hw.trans ?_
      by_cases hq : q = t
      · rw [hq, State.wr_rd_same, if_pos ⟨rfl, Bool.eq_false_iff.2 hhalt⟩]
        rfl
      · rw [State.wr_rd_inst _ _ hq, if_neg fun h => hq h.1]

/-- A sequencer that is stopped stays so, and one that is not halted stops with its play. -/
theorem State.playStop_state (t k : Nat) (h : s.rd R.SEQ_STATUS.STATE k = 0) : (s.playStop t).rd R.SEQ_STATUS.STATE k = 0 := by
  unfold State.playStop
  split
  · rw [State.tileStop_state, h, ite_self]
  · exact h

theorem State.playStops_state (l : List Nat) {k : Nat} (hk : k ∈ l) (hplay : s.playing k = true) (hhalt : s.halted k = false) : (s.each l State.playStop).rd R.SEQ_STATUS.STATE k = 0 := by
  induction l generalizing s with
  | nil => exact absurd hk List.not_mem_nil
  | cons t l ih =>
    by_cases e : k = t
    · refine (s.playStop t).each_induction (P := fun u => u.rd R.SEQ_STATUS.STATE k = 0) l _ ?_ fun u q hu => u.playStop_state q k hu
      rw [← e, State.playStop, if_pos hplay, State.tileStop_state, if_pos ⟨rfl, hhalt⟩]
    · refine ih (s.playStop t) ((List.mem_cons.1 hk).resolve_left e) ?_ ?_
      · rw [State.playing, State.playStop]
        split
        · rw [State.tileStop_other s e]
          exact hplay
        · exact hplay
      · rw [State.halted, State.playStop]
        split
        · rw [State.tileStop_state, if_neg fun h => e h.1]
          exact hhalt
        · exact hhalt

/-- What the stop command of a personality does. -/
def stopPersona (p : Nat) (s : State) : State := if !s.persona p then s else s.each (personaTiles p) State.playStop

theorem forerunnerStop_stops {p : Fin 4} (hp : s.persona p.val = true) :
    ∃ t, exec (.forerunnerStop p) s = .next t ∧ (∀ k, k < 4 → (t.play (4 * p.val + k)).playing = false ∧ (s.playing (4 * p.val + k) = true → s.halted (4 * p.val + k) = false → t.rd R.SEQ_STATUS.STATE (4 * p.val + k) = 0)) := by
  have hrule : stopPersona p.val (s.withOut []) = (s.withOut []).each (personaTiles p.val) State.playStop := if_neg (by rw [show (s.withOut []).persona p.val = true from hp]; decide)
  refine ⟨_, done_is s (f := stopPersona p.val) hrule, fun k hk => ?_⟩
  rw [State.commit_play, State.commit_rd]
  exact ⟨State.playStops_idle _ hk, fun hplay hhalt => (s.withOut []).playStops_state _ (mem_personaTiles hk) hplay hhalt⟩

theorem forerunnerStop_idles {p : Fin 4} (hp : s.persona p.val = false) : ∃ t, exec (.forerunnerStop p) s = .next t ∧ s.keeps t [] :=
  done_idle s (f := stopPersona p.val) (if_pos (by rw [show (s.withOut []).persona p.val = false from hp]; rfl))

/-! A reset of the forerunner registers (R578) -/

/-- What the reset command of a personality does. -/
def resetPersona (p : Nat) (s : State) : State :=
  if !s.persona p then s else
  let s := s.each (personaTiles p) State.playStop
  { s with legacy := { timing := smKeep (fun k => k / 65536 ≠ p) s.legacy.timing, levels := smKeep (fun k => k / 16384 ≠ p) s.legacy.levels } }

theorem smGet_smKeep_range (m : SMap Nat) (w p n : Nat) : (n / w = p → smGet 0 (smKeep (fun k => k / w ≠ p) m) n = 0) ∧ (n / w ≠ p → smGet 0 (smKeep (fun k => k / w ≠ p) m) n = smGet 0 m n) := by
  rw [smGet_smKeep]
  exact ⟨fun h => if_neg (by simp [h]), fun h => if_pos (decide_eq_true h)⟩

theorem forerunnerReset_resets {p : Fin 4} (hp : s.persona p.val = true) :
    ∃ t, exec (.forerunnerReset p) s = .next t ∧ (∀ k, k < 4 → (t.play (4 * p.val + k)).playing = false) ∧ (∀ n, n / 65536 = p.val → smGet 0 t.legacy.timing n = 0) ∧ (∀ n, n / 65536 ≠ p.val → smGet 0 t.legacy.timing n = smGet 0 s.legacy.timing n) ∧
      (∀ n, n / 16384 = p.val → smGet 0 t.legacy.levels n = 0) ∧ (∀ n, n / 16384 ≠ p.val → smGet 0 t.legacy.levels n = smGet 0 s.legacy.levels n) := by
  have hlegacy : ((s.withOut []).each (personaTiles p.val) State.playStop).legacy = s.legacy :=
    (s.withOut []).each_induction (P := fun u => u.legacy = s.legacy) _ _ rfl fun u t hu => by
      unfold State.playStop
      split
      · rw [State.legacy_of_blur (u.tileStop_blur t (Nat.and_self _)) (by decide), hu]
      · exact hu
  have hidle (k : Nat) (hk : k < 4) := (s.withOut []).playStops_idle (p := p.val) hk
  have hrule : resetPersona p.val (s.withOut []) = _ := if_neg (by rw [show (s.withOut []).persona p.val = true from hp]; decide)
  generalize (s.withOut []).each (personaTiles p.val) State.playStop = u at hlegacy hidle hrule
  refine ⟨_, done_is s (f := resetPersona p.val) hrule, hidle, ?_⟩
  rw [State.commit_legacy]
  dsimp only
  rw [hlegacy]
  exact ⟨fun n => (smGet_smKeep_range _ _ _ n).1, fun n => (smGet_smKeep_range _ _ _ n).2, fun n => (smGet_smKeep_range _ _ _ n).1, fun n => (smGet_smKeep_range _ _ _ n).2⟩

theorem forerunnerReset_idles {p : Fin 4} (hp : s.persona p.val = false) : ∃ t, exec (.forerunnerReset p) s = .next t ∧ s.keeps t [] :=
  done_idle s (f := resetPersona p.val) (if_pos (by rw [show (s.withOut []).persona p.val = false from hp]; rfl))

/-! A calibration (R577) -/

/-- What the calibration command of a personality does. -/
def calibratePersona (p : Nat) (s : State) : State := if !s.persona p then s else s.calReq p

theorem State.persona_mode {p : Nat} (hp : s.persona p = true) : s.m.mode = .legacy := by
  unfold State.persona at hp
  split at hp
  · assumption
  · cases hp

theorem State.calReq_persona {p : Nat} (hp : s.persona p = true) : s.calReq p = if (s.cal p).running then s.wr R.CAL_CTL.REQ_PENDING p 1 else s.calStart p := by
  have hop : s.operating = true := by rw [State.operating, s.persona_mode hp]
  unfold State.calReq
  refine if_neg ?_
  rw [hop]
  simp

/-- A run starts with the spine (R509, R515). -/
theorem State.calStart_cal (q : Nat) : (s.calStart q).cal q = { CalSt.idle with running := true, cur := some (1, q), todo := (s.calRotation q).drop 1 } := by
  obtain ⟨rest, hrest⟩ : ∃ rest, s.calRotation q = (1, q) :: rest := ⟨_, rfl⟩
  have havail (u : State) : u.calAvail 1 q = true := by
    unfold State.calAvail
    split
    · rfl
    · exact if_pos rfl
  unfold State.calStart
  rw [hrest]
  unfold State.calNext
  rw [State.setCal_cal_same]
  dsimp only
  rw [if_neg (by decide), List.span_eq_takeWhile_dropWhile, List.takeWhile_cons_of_neg (by rw [havail]; decide), List.dropWhile_cons_of_neg (by rw [havail]; decide)]
  dsimp only
  rw [State.setCal_cal_same, List.append_nil]
  rfl

theorem forerunnerCalibrate_starts {p : Fin 4} (hp : s.persona p.val = true) (hidle : (s.cal p.val).running = false) :
    ∃ t, exec (.forerunnerCalibrate p) s = .next t ∧ (t.cal p.val).running = true ∧ (t.cal p.val).cur = some (1, p.val) ∧ (t.cal p.val).todo = (s.calRotation p.val).drop 1 ∧ s.keeps t [.cals] := by
  have hrule : calibratePersona p.val (s.withOut []) = (s.withOut []).calStart p.val := by
    refine (if_neg (by rw [show (s.withOut []).persona p.val = true from hp]; decide)).trans (((s.withOut []).calReq_persona hp).trans (if_neg ?_))
    exact Bool.eq_false_iff.1 hidle
  refine ⟨_, done_is s (f := calibratePersona p.val) hrule, ?_⟩
  rw [State.commit_cal, State.calStart_cal]
  refine ⟨rfl, rfl, rfl, State.keeps_commit ((State.keeps_mask (ps := [.cals]) (State.calStart_blur _ _ (by decide)) (List.Subset.refl _)).2 (by simp))⟩

theorem forerunnerCalibrate_waits {p : Fin 4} (hp : s.persona p.val = true) (hrun : (s.cal p.val).running = true) : ∃ t, exec (.forerunnerCalibrate p) s = .next t ∧ t.rd R.CAL_CTL.REQ_PENDING p.val = 1 ∧ t.cals = s.cals := by
  have hrule : calibratePersona p.val (s.withOut []) = (s.withOut []).wr R.CAL_CTL.REQ_PENDING p.val 1 :=
    (if_neg (by rw [show (s.withOut []).persona p.val = true from hp]; decide)).trans (((s.withOut []).calReq_persona hp).trans (if_pos hrun))
  refine ⟨_, done_is s (f := calibratePersona p.val) hrule, ?_, rfl⟩
  rw [State.commit_rd, State.wr_rd_same]
  rfl

theorem forerunnerCalibrate_idles {p : Fin 4} (hp : s.persona p.val = false) : ∃ t, exec (.forerunnerCalibrate p) s = .next t ∧ s.keeps t [] :=
  done_idle s (f := calibratePersona p.val) (if_pos (by rw [show (s.withOut []).persona p.val = false from hp]; rfl))

end Sys2Proof.Machine
end

section
/-! SUPPORT. The timing, level and vector writes of a personality (R569, R570, R572 to R574): O56. -/

namespace Sys2Proof.Machine

variable (s : State)

/-! Timing values (R572, R573) -/

/-- What a timing write of a personality does. -/
def timePersona (p set ch item units : Nat) (s : State) : State :=
  if !s.persona p then s
  else if (item = 7 && units < 250) || (item = 6 && 4 ≤ units) then s.personaRefuse.personaFlag R.DEV_LEGACY.REFUSED_PERIOD p
  else { s with legacy := { s.legacy with timing := smSet 0 s.legacy.timing (timingKey p set (if item = 7 then 0 else ch) item) units } }.timingApply p set (if item = 7 then 0 else ch) item

theorem exec_timePersona {s : State} (p : Fin 4) (set : Fin 16) (ch : Fin 256) (item : Fin 8) (u : Nat) : exec (.forerunnerTimingWrite p set ch item u) s = done s (timePersona p.val set.val ch.val item.val u) := rfl

/-- A state with one timing value of a personality written. -/
def State.timed (s : State) (p set ch item u : Nat) : State := { s with legacy := { s.legacy with timing := smSet 0 s.legacy.timing (timingKey p set ch item) u } }

theorem State.timed_timingVal (p set ch item u : Nat) : (s.timed p set ch item u).timingVal p set ch item = u := smGet_smSet_same _ _ _ _

theorem State.timed_keeps (p set ch item u : Nat) : s.keeps ((s.withOut []).timed p set ch item u) [.plays, .legacy] :=
  (State.keeps_mask (ps := [.legacy]) (State.blur_with_legacy _ _ (by decide)) (by decide)).2 (by simp)

theorem timePersona_takes {p set ch item u : Nat} (hp : s.persona p = true) (h : ¬(item = 7 ∧ u < 250) ∧ ¬(item = 6 ∧ 4 ≤ u)) :
    timePersona p set ch item u s = (s.timed p set (if item = 7 then 0 else ch) item u).timingApply p set (if item = 7 then 0 else ch) item := by
  refine (if_neg (by rw [hp]; decide)).trans (if_neg ?_)
  simpa using h

/-- The items that a native set takes from a channel. -/
theorem State.putItems_item (u : State) (t base : Nat) (v : Nat → Nat) {w : Nat} (hw : w < 7) :
    ((u.putItems t ((List.range 7).map fun w => (base + w, v w))).play t).item (base + w) = v w := by
  have hput (m : SMap Nat) : smGet (setDefault (base + w)) ((List.range 7).foldl (fun m j => smSet (setDefault (base + j)) m (base + j) (v j)) m) (base + w) = v w := by
    refine foldl_sets (l := List.range 7) (get := fun m => smGet (setDefault (base + w)) m (base + w)) (P := fun _ => True) (fun _ _ _ _ => trivial) (fun m j _ _ hm => ?_) ⟨w, List.mem_range.2 hw, fun m _ => smGet_smSet_same (setDefault (base + w)) m (base + w) (v w)⟩ trivial
    by_cases e : j = w
    · rw [e]
      exact smGet_smSet_same _ _ _ _
    · rw [smGet_smSet_ne _ _ _ _ (by omega), hm]
  rw [State.putItems, State.setPlay_play_same, PlaySt.item, List.foldl_map]
  exact hput _

theorem State.putItems_period (u : State) (t k v : Nat) : ((u.putItems t [(k, v)]).play t).item k = v := by
  rw [State.putItems, State.setPlay_play_same, PlaySt.item]
  exact smGet_smSet_same _ _ _ _

theorem State.putItems_other (u : State) {t q : Nat} (l : List (Nat × Nat)) (h : q ≠ t) : (u.putItems t l).play q = u.play q := u.setPlay_play_ne _ h

theorem timingVal_congr {u v : State} (hl : v.legacy = u.legacy) (p set ch item : Nat) : v.timingVal p set ch item = u.timingVal p set ch item := by rw [State.timingVal, hl, State.timingVal]

theorem legacyPeriod_congr {u v : State} (hl : v.legacy = u.legacy) (p set : Nat) : v.legacyPeriod p set = u.legacyPeriod p set := by
  rw [State.legacyPeriod, State.legacyPeriod, timingVal_congr hl]

/-- Whether a channel passes the native checks depends on the forerunner values and the image alone. -/
theorem channelOk_congr {u v : State} (hl : v.legacy = u.legacy) (hi : v.image = u.image) (p set ch : Nat) : v.channelOk p set ch = u.channelOk p set ch := by
  have hdecl : v.laneDecl (256 * p + ch) = u.laneDecl (256 * p + ch) := by rw [State.laneDecl, hi, State.laneDecl]
  have hval : (fun e => tapsOf (v.timingVal p set ch e)) = fun e => tapsOf (u.timingVal p set ch e) := funext fun e => congrArg tapsOf (timingVal_congr hl p set ch e)
  rw [State.channelOk, State.channelOk, hdecl, legacyPeriod_congr hl, timingVal_congr hl, hval]

theorem timedChannels_congr {u v : State} (hl : v.legacy = u.legacy) (p set : Nat) : v.timedChannels p set = u.timedChannels p set := by
  simp only [State.timedChannels, hl]

theorem forerunnerTiming_applies {p : Fin 4} {set : Fin 16} {ch : Fin 256} {item : Fin 8} {u : Nat} (hp : s.persona p.val = true) (h : item.val < 6 ∨ (item.val = 6 ∧ u < 4)) :
    ∃ t, exec (.forerunnerTimingWrite p set ch item u) s = .next t ∧ t.timingVal p.val set.val ch.val item.val = u ∧
      (t.channelOk p.val set.val ch.val = true → (t.play (4 * p.val + ch.val / 64)).setWord set.val (ch.val % 64) item.val = if item.val = 6 then u else tapsOf u) ∧
      (t.channelOk p.val set.val ch.val = false → t.plays = s.plays) ∧ s.keeps t [.plays, .legacy] := by
  have hitem : item.val ≠ 7 := by omega
  have hrule := timePersona_takes (s.withOut []) (p := p.val) (set := set.val) (ch := ch.val) (item := item.val) (u := u) hp (by omega)
  rw [if_neg hitem] at hrule
  have hval : ((s.withOut []).timed p.val set.val ch.val item.val u).timingVal p.val set.val ch.val item.val = u := State.timed_timingVal _ _ _ _ _ _
  have hkeeps : s.keeps ((s.withOut []).timed p.val set.val ch.val item.val u) [.plays, .legacy] := s.timed_keeps _ _ _ _ _
  have hplays : ((s.withOut []).timed p.val set.val ch.val item.val u).plays = s.plays := rfl
  generalize (s.withOut []).timed p.val set.val ch.val item.val u = v at hrule hval hkeeps hplays
  have hb := v.timingApply_blur p.val set.val ch.val item.val (b := Part.mask [.plays]) (by decide)
  have hl : (v.timingApply p.val set.val ch.val item.val).legacy = v.legacy := State.legacy_of_blur hb (by decide)
  have hi : (v.timingApply p.val set.val ch.val item.val).image = v.image := State.image_of_blur hb (by decide)
  refine ⟨_, (exec_timePersona p set ch item u).trans (done_is s hrule), ?_, ?_, ?_, ?_⟩
  · rw [State.timingVal, State.commit_legacy, hl]
    exact hval
  · intro hok
    rw [channelOk_congr (u := v) ((State.commit_legacy _ _).trans hl) ((State.commit_image _ _).trans hi)] at hok
    rw [State.commit_play, State.timingApply, if_neg hitem, if_pos hok, PlaySt.setWord, Nat.add_assoc, ← Nat.add_assoc]
    rw [State.putItems_item v _ _ _ (by omega : item.val < 7)]
    obtain h | ⟨h, -⟩ := h
    · rw [if_pos h, if_neg (by omega), hval]
    · rw [if_neg (by omega), if_pos h, ← h, hval]
  · intro hbad
    rw [channelOk_congr (u := v) ((State.commit_legacy _ _).trans hl) ((State.commit_image _ _).trans hi)] at hbad
    rw [State.commit_plays, State.timingApply, if_neg hitem, if_neg (Bool.eq_false_iff.1 hbad), hplays]
  · exact State.keeps_commit ((State.keeps_mask (ps := [.plays]) hb (by decide)).2 hkeeps)

/-- The period that every tile takes is the one that the first takes. -/
theorem State.putPeriods {p set c : Nat} (l : List Nat) (k : Nat) (h : s.legacyPeriod p set = c) : (s.each l fun u t => u.putItems t [(k, u.legacyPeriod p set)]) = s.each l fun u t => u.putItems t [(k, c)] := by
  induction l generalizing s with
  | nil => rw [State.each, State.each, List.foldl_nil, List.foldl_nil]
  | cons t l ih =>
    have hnext := ih (s.putItems t [(k, c)]) h
    rw [← h] at hnext ⊢
    exact hnext

theorem forerunnerTiming_period {p : Fin 4} {set : Fin 16} {ch : Fin 256} {u : Nat} (hp : s.persona p.val = true) (h : 250 ≤ u) :
    ∃ t, exec (.forerunnerTimingWrite p set ch 7 u) s = .next t ∧ t.legacyPeriod p.val set.val = tapsOf u ∧
      (tapsOf u < 2 ^ 23 → (t.timedChannels p.val set.val).all (t.channelOk p.val set.val) = true → ∀ k, k < 4 → (t.play (4 * p.val + k)).setPeriod set.val = tapsOf u) ∧ s.keeps t [.plays, .legacy] := by
  have hrule := timePersona_takes (s.withOut []) (p := p.val) (set := set.val) (ch := ch.val) (item := 7) (u := u) hp (by omega)
  rw [if_pos rfl] at hrule
  have hval : ((s.withOut []).timed p.val set.val 0 7 u).timingVal p.val set.val 0 7 = u := State.timed_timingVal _ _ _ _ _ _
  have hkeeps : s.keeps ((s.withOut []).timed p.val set.val 0 7 u) [.plays, .legacy] := s.timed_keeps _ _ _ _ _
  generalize (s.withOut []).timed p.val set.val 0 7 u = v at hrule hval hkeeps
  have hperiod : v.legacyPeriod p.val set.val = tapsOf u := by
    rw [State.legacyPeriod, hval]
    exact if_neg (by omega)
  have hb := v.timingApply_blur p.val set.val 0 7 (b := Part.mask [.plays]) (by decide)
  have hl : (v.timingApply p.val set.val 0 7).legacy = v.legacy := State.legacy_of_blur hb (by decide)
  have hi : (v.timingApply p.val set.val 0 7).image = v.image := State.image_of_blur hb (by decide)
  refine ⟨_, (exec_timePersona p set ch 7 u).trans (done_is s hrule), ?_, ?_, ?_⟩
  · rw [legacyPeriod_congr (u := v) ((State.commit_legacy _ _).trans hl), hperiod]
  · intro hshort hall k hk
    rw [timedChannels_congr (u := v) ((State.commit_legacy _ _).trans hl), List.all_congr rfl fun c => channelOk_congr (u := v) ((State.commit_legacy _ _).trans hl) ((State.commit_image _ _).trans hi) _ _ c] at hall
    rw [State.commit_play, State.timingApply, if_pos rfl, if_pos (by rw [hperiod, hall, decide_eq_true hshort]; rfl), v.putPeriods _ _ hperiod]
    refine v.each_gives _ _ (fun w q => (w.play q).setPeriod set.val = tapsOf u) (fun w q => w.putItems_period q _ _) (fun w q r hr => ?_) _ (.inl (mem_personaTiles hk))
    by_cases e : r = q
    · rw [e]
      exact w.putItems_period q _ _
    · rw [w.putItems_other _ e]
      exact hr
  · exact State.keeps_commit ((State.keeps_mask (ps := [.plays]) hb (by decide)).2 hkeeps)

theorem forerunnerTiming_refused {p : Fin 4} {set : Fin 16} {ch : Fin 256} {item : Fin 8} {u : Nat} (hp : s.persona p.val = true) (h : (item.val = 7 ∧ u < 250) ∨ (item.val = 6 ∧ 4 ≤ u)) :
    ∃ t, exec (.forerunnerTimingWrite p set ch item u) s = .next t ∧ t.legacy = s.legacy ∧ t.plays = s.plays ∧ t.rd R.DEV_LEGACY.REFUSED_PERIOD 0 = Nat.lor (s.rd R.DEV_LEGACY.REFUSED_PERIOD 0) (2 ^ p.val) % 16 := by
  have hrule : timePersona p.val set.val ch.val item.val u (s.withOut []) = (s.withOut []).personaRefuse.personaFlag R.DEV_LEGACY.REFUSED_PERIOD p.val := by
    refine (if_neg ?_).trans (if_pos ?_)
    · rw [show (s.withOut []).persona p.val = true from hp]
      decide
    · simpa using h
  refine ⟨_, (exec_timePersona p set ch item u).trans (done_is s hrule), ?_, ?_, ?_⟩
  · show (s.withOut []).personaRefuse.legacy = s.legacy
    exact State.legacy_of_blur ((s.withOut []).personaRefuse_blur (Nat.and_self _)) (by decide)
  · show (s.withOut []).personaRefuse.plays = s.plays
    exact State.plays_of_blur ((s.withOut []).personaRefuse_blur (Nat.and_self _)) (by decide)
  · rw [State.commit_rd, personaFlag_rd, State.rd_of_blur ((s.withOut []).personaRefuse_blur (Nat.and_self _)) _ _ (by decide)]
    rfl

theorem forerunnerTiming_idles {p : Fin 4} {set : Fin 16} {ch : Fin 256} {item : Fin 8} {u : Nat} (hp : s.persona p.val = false) : ∃ t, exec (.forerunnerTimingWrite p set ch item u) s = .next t ∧ s.keeps t [] := by
  rw [exec_timePersona]
  refine done_idle s (if_pos ?_)
  rw [show (s.withOut []).persona p.val = false from hp]
  rfl

/-! Level values (R574) -/

/-- What a level write of a personality does. -/
def levelPersona (p ch set d : Nat) (mv : Int) (s : State) : State :=
  let l := 256 * p + ch
  if !s.persona p then s else
  let s := s.legacySpan l d
  let code := codeOf mv
  let (s, refused) := if d % 2 = 0 then lvlSetHook .spi (lvlInst l set d) code 3 s else lvlSetHook .spi (lvlInst l set d) (65536 * code) 12 s
  if refused then s.personaRefuse
  else { s with legacy := { s.legacy with levels := smSet 0 s.legacy.levels (((p * 256 + ch) * 8 + set) * 8 + d) (mv + 32768).toNat } }

theorem exec_levelPersona {s : State} (p : Fin 4) (ch : Fin 256) (set dac : Fin 8) (mv : Int) : exec (.forerunnerLevelWrite p ch set dac mv) s = done s (levelPersona p.val ch.val set.val dac.val mv) := rfl

theorem forerunnerLevel_idles {p : Fin 4} {ch : Fin 256} {set dac : Fin 8} {mv : Int} (hp : s.persona p.val = false) : ∃ t, exec (.forerunnerLevelWrite p ch set dac mv) s = .next t ∧ s.keeps t [] := by
  rw [exec_levelPersona]
  refine done_idle s (if_pos ?_)
  rw [show (s.withOut []).persona p.val = false from hp]
  rfl

theorem codeOf_lt (mv : Int) : codeOf mv < 2 ^ 16 := by
  unfold codeOf
  omega

/-- Fields that no mode bars take their write. -/
theorem writeFields_unbarred {fs : List Fld} (hrwl : ∀ f ∈ fs, f.acc ≠ .rwl) (i w be : Nat) : writeFields fs i w be s = (fs.foldl (fun s f => (writeField i w be f s).1) s, false) := by
  refine if_neg (Bool.eq_false_iff.1 (List.any_eq_false.2 fun f hf hr => ?_))
  rw [writeField_refuses, decide_eq_false (hrwl f hf), Bool.and_false, Bool.false_and] at hr
  exact absurd hr (by decide)

theorem State.writeFields_rd_part {fs : List Fld} (i w be : Nat) (hkeys : (fs.map Fld.key).Nodup) (hbound : ∀ f ∈ fs, f.key < 1024) (hrwl : ∀ f ∈ fs, f.acc ≠ .rwl) {f : Fld} (hf : f ∈ fs) (hacc : f.acc = .rw)
    (hbe : f.enabled be = true) : (writeFields fs i w be s).1.rd f i = f.part w := by
  obtain ⟨-, htake⟩ := writeFields_take s i w be fs hkeys hbound
  rw [writeFields_unbarred s hrwl, htake f hf, State.taken, if_neg (by rw [hbe]; decide), hacc]

theorem State.writeFields_rd_other {fs : List Fld} (i w be : Nat) (hkeys : (fs.map Fld.key).Nodup) (hbound : ∀ f ∈ fs, f.key < 1024) (hrwl : ∀ f ∈ fs, f.acc ≠ .rwl) {g : Fld} (hg : g.key % 1024 ∉ fs.map Fld.key) {j : Nat} :
    (writeFields fs i w be s).1.rd g j = s.rd g j := by
  obtain ⟨hstay, -⟩ := writeFields_take s i w be fs hkeys hbound
  rw [writeFields_unbarred s hrwl, hstay g j hg]

/-- A write of lane fields leaves what its word gives the registers, but for the fields that act late (R112). -/
theorem tileFields_rd (t : Nat) (fs : List Fld) (i w be : Nat) {g : Fld} (j : Nat) (hg : (Nat.testBit 0x40000000000000000000000000800000000000000000000000000000000000000000000000000000000000000000000000000000000000000000000000000000000000090040000000000000000000000000000000000000000011800 (32 + g.key % 1024)) = false) :
    (tileFields t fs i w be s).1.rd g j = (writeFields fs i w be s).1.rd g j := by
  unfold tileFields
  dsimp only
  split
  · rfl
  · exact foldl_keeps (get := fun u : State => u.rd g j) (fun u e _ => State.rd_of_blur (u.applied_blur _ _ _ (Nat.and_self _)) g j hg) _

theorem tileFields_refuses (t : Nat) (fs : List Fld) (i w be : Nat) : (tileFields t fs i w be s).2 = (writeFields fs i w be s).2 := by
  unfold tileFields
  dsimp only
  split <;> rfl

theorem lvlInst_parts {l n d : Nat} (hn : n < 8) (hd : d < 8) : lvlInst l n d / 2048 = l / 64 ∧ 64 * (l / 64) + lvlInst l n d / 4 % 64 = l ∧ 2 * (lvlInst l n d % 4) = 2 * (d / 2) := by
  unfold lvlInst
  omega

/-- The word that writes a code to a level DAC, and its byte enables. -/
def lvlWord (d code : Nat) : Nat × Nat := if d % 2 = 0 then (code, 3) else (65536 * code, 12)

theorem lvlWord_enables (d code : Nat) : (lvlFld d).enabled (lvlWord d code).2 = true := by
  unfold lvlFld lvlWord
  split
  · show R.LVL_SET.CODE_A.enabled 3 = true
    decide
  · show R.LVL_SET.CODE_B.enabled 12 = true
    decide

theorem lvlWord_part (d : Nat) {code : Nat} (hcode : code < 2 ^ 16) : (lvlFld d).part (lvlWord d code).1 = code := by
  unfold lvlFld lvlWord
  split
  · show code / 2 ^ 0 % 2 ^ 16 = code
    omega
  · show 65536 * code / 2 ^ 16 % 2 ^ 16 = code
    omega

/-- The write of a level DAC's code: discarded outside the limits of a bounded DAC, and a write of lane fields otherwise (R153, R164). -/
theorem lvlSetHook_level {l n d code : Nat} (hn : n < 8) (hd : d < 8) (hcode : code < 2 ^ 16) {x : Nat} (hspan : bits (s.rd R.LVL_SPAN.SPAN l) (2 * d) 2 = x) :
    lvlSetHook .spi (lvlInst l n d) (lvlWord d code).1 (lvlWord d code).2 s =
      if boundedDac d && !s.laneCodeOk l x code then (s.wr R.LVL_STATUS.LIMIT_REFUSED l 1, true) else tileFields (l / 64) (Reg.fields .LVL_SET) (lvlInst l n d) (lvlWord d code).1 (lvlWord d code).2 s := by
  obtain ⟨htile, hlane, hdac⟩ := lvlInst_parts (l := l) hn hd
  have hpart := lvlWord_part d hcode
  unfold lvlSetHook
  dsimp only
  rw [htile, hlane, hdac]
  unfold lvlFld lvlWord at *
  split at hpart
  · next he =>
    simp only [if_pos he, show 2 * (d / 2) = d by omega, hspan, hpart, show R.LVL_SET.CODE_A.enabled 3 = true by decide, show R.LVL_SET.CODE_B.enabled 3 = false by decide, Bool.true_and, Bool.false_and, Bool.or_false]
  · next ho =>
    simp only [if_neg ho, show 2 * (d / 2) + 1 = d by omega, hspan, hpart, show R.LVL_SET.CODE_A.enabled 12 = false by decide, show R.LVL_SET.CODE_B.enabled 12 = true by decide, Bool.true_and, Bool.false_and, Bool.false_or]

theorem lvlFld_mem (d : Nat) : lvlFld d ∈ Reg.fields .LVL_SET := by
  unfold lvlFld
  split <;> decide

/-- A level code that is taken stands in its register, and the span stays. -/
theorem lvlTaken_rd {t i d code : Nat} (hcode : code < 2 ^ 16) : (tileFields t (Reg.fields .LVL_SET) i (lvlWord d code).1 (lvlWord d code).2 s).1.rd (lvlFld d) i = code := by
  have hkey : (Nat.testBit 0x40000000000000000000000000800000000000000000000000000000000000000000000000000000000000000000000000000000000000000000000000000000000000090040000000000000000000000000000000000000000011800 (32 + (lvlFld d).key % 1024)) = false := by
    unfold lvlFld
    split <;> decide
  rw [tileFields_rd _ _ _ _ _ _ _ hkey]
  have hacc : (lvlFld d).acc = .rw := by
    unfold lvlFld
    split <;> rfl
  rw [s.writeFields_rd_part _ _ _ (by decide) (by decide) (by decide) (lvlFld_mem d) hacc (lvlWord_enables d code), lvlWord_part d hcode]

/-- The low bits of a word hold every field below them. -/
theorem bits_of_mod (x : Nat) {lo w n : Nat} (h : lo + w ≤ n) : bits (x % 2 ^ n) lo w = bits x lo w := by
  obtain ⟨k, rfl⟩ := Nat.exists_eq_add_of_le h
  rw [bits, bits, Nat.add_assoc, Nat.pow_add, Nat.mod_mul_right_div_self, Nat.mod_mod_of_dvd _ (Nat.pow_dvd_pow 2 (Nat.le_add_right w k))]

/-- The span of R574 stands on a level DAC after the first step of a level write, and the image and the forerunner values are what they were. -/
theorem State.legacySpan_span {l d : Nat} (hd : d < 8) : bits ((s.legacySpan l d).rd R.LVL_SPAN.SPAN l) (2 * d) 2 = 3 ∧ (s.legacySpan l d).image = s.image ∧ (s.legacySpan l d).legacy = s.legacy := by
  refine ⟨?_, State.image_of_blur (s.legacySpan_blur l d (Nat.and_self _)) (by decide), State.legacy_of_blur (s.legacySpan_blur l d (Nat.and_self _)) (by decide)⟩
  unfold State.legacySpan
  dsimp only
  split
  · next h => exact h
  · rw [tileFields_rd _ _ _ _ _ _ _ (by decide), State.writeFields_rd_part _ _ _ _ (by decide) (by decide) (by decide) (f := R.LVL_SPAN.SPAN) (by decide) rfl rfl]
    generalize s.rd R.LVL_SPAN.SPAN l = x
    show bits (putBits x (2 * d) 2 3 / 2 ^ 0 % 2 ^ 18) (2 * d) 2 = 3
    rw [Nat.pow_zero, Nat.div_one, bits_of_mod _ (by omega), bits_putBits_same]
    rfl

theorem laneCodeOk_congr {u v : State} (h : v.image = u.image) (l x k : Nat) : v.laneCodeOk l x k = u.laneCodeOk l x k := by
  rw [State.laneCodeOk, State.laneCodeOk, State.laneDecl, State.laneDecl, h]

/-- The end of a level write: a refusal, or the value kept. -/
def State.levelEnd (k : Nat) (mv : Int) (r : State × Bool) : State :=
  if r.2 then r.1.personaRefuse else { r.1 with legacy := { r.1.legacy with levels := smSet 0 r.1.legacy.levels k (mv + 32768).toNat } }

theorem State.levelEnd_keep (k : Nat) (mv : Int) {r : State × Bool} (h : r.2 = false) : State.levelEnd k mv r = { r.1 with legacy := { r.1.legacy with levels := smSet 0 r.1.legacy.levels k (mv + 32768).toNat } } := if_neg (Bool.eq_false_iff.1 h)

theorem levelPersona_eq (p ch set d : Nat) (mv : Int) : levelPersona p ch set d mv s = if !s.persona p then s else
    State.levelEnd (((p * 256 + ch) * 8 + set) * 8 + d) mv (lvlSetHook .spi (lvlInst (256 * p + ch) set d) (lvlWord d (codeOf mv)).1 (lvlWord d (codeOf mv)).2 (s.legacySpan (256 * p + ch) d)) := by
  unfold levelPersona lvlWord State.levelEnd
  by_cases h : d % 2 = 0
  · simp only [if_pos h]
  · simp only [if_neg h]

theorem forerunnerLevel_takes {p : Fin 4} {ch : Fin 256} {set dac : Fin 8} {mv : Int} (hp : s.persona p.val = true) (h : boundedDac dac.val = false ∨ s.laneCodeOk (256 * p.val + ch.val) 3 (codeOf mv) = true) :
    ∃ t, exec (.forerunnerLevelWrite p ch set dac mv) s = .next t ∧ t.rd (lvlFld dac.val) (lvlInst (256 * p.val + ch.val) set.val dac.val) = codeOf mv ∧ bits (t.rd R.LVL_SPAN.SPAN (256 * p.val + ch.val)) (2 * dac.val) 2 = 3 ∧
      smGet 0 t.legacy.levels (((p.val * 256 + ch.val) * 8 + set.val) * 8 + dac.val) = (mv + 32768).toNat := by
  obtain ⟨hspan, himage, -⟩ := (s.withOut []).legacySpan_span (l := 256 * p.val + ch.val) dac.isLt
  have hrule := levelPersona_eq (s.withOut []) p.val ch.val set.val dac.val mv
  rw [if_neg (by rw [show (s.withOut []).persona p.val = true from hp]; decide)] at hrule
  generalize (s.withOut []).legacySpan (256 * p.val + ch.val) dac.val = v at hrule hspan himage
  have hopen : (boundedDac dac.val && !v.laneCodeOk (256 * p.val + ch.val) 3 (codeOf mv)) = false := by
    rw [laneCodeOk_congr (u := s) himage]
    obtain h | h := h
    · rw [h, Bool.false_and]
    · rw [h, Bool.not_true, Bool.and_false]
  rw [lvlSetHook_level v set.isLt dac.isLt (codeOf_lt mv) hspan, if_neg (Bool.eq_false_iff.1 hopen), State.levelEnd_keep _ _ (by rw [tileFields_refuses, writeFields_unbarred v (by decide)])] at hrule
  have hcode := lvlTaken_rd v (t := (256 * p.val + ch.val) / 64) (i := lvlInst (256 * p.val + ch.val) set.val dac.val) (d := dac.val) (codeOf_lt mv)
  have hstay := (tileFields_rd v ((256 * p.val + ch.val) / 64) (Reg.fields .LVL_SET) (lvlInst (256 * p.val + ch.val) set.val dac.val) (lvlWord dac.val (codeOf mv)).1 (lvlWord dac.val (codeOf mv)).2 (g := R.LVL_SPAN.SPAN) (256 * p.val + ch.val) (by decide)).trans
    (v.writeFields_rd_other _ _ _ (by decide) (by decide) (by decide) (by decide))
  refine ⟨_, (exec_levelPersona p ch set dac mv).trans (done_is s hrule), ?_, ?_, ?_⟩
  · rw [State.commit_rd]
    exact hcode
  · rw [State.commit_rd]
    exact (congrArg (fun x => bits x (2 * dac.val) 2) hstay).trans hspan
  · rw [State.commit_legacy]
    exact smGet_smSet_same _ _ _ _

theorem forerunnerLevel_refused {p : Fin 4} {ch : Fin 256} {set dac : Fin 8} {mv : Int} (hp : s.persona p.val = true) (hb : boundedDac dac.val = true) (h : s.laneCodeOk (256 * p.val + ch.val) 3 (codeOf mv) = false) :
    ∃ t, exec (.forerunnerLevelWrite p ch set dac mv) s = .next t ∧ t.legacy = s.legacy ∧ t.rd R.LVL_STATUS.LIMIT_REFUSED (256 * p.val + ch.val) = 1 := by
  obtain ⟨hspan, himage, hlegacy⟩ := (s.withOut []).legacySpan_span (l := 256 * p.val + ch.val) dac.isLt
  have hrule := levelPersona_eq (s.withOut []) p.val ch.val set.val dac.val mv
  rw [if_neg (by rw [show (s.withOut []).persona p.val = true from hp]; decide)] at hrule
  generalize (s.withOut []).legacySpan (256 * p.val + ch.val) dac.val = v at hrule hspan himage hlegacy
  rw [lvlSetHook_level v set.isLt dac.isLt (codeOf_lt mv) hspan, laneCodeOk_congr (u := s) himage, hb, h, if_pos (by rfl), State.levelEnd, if_pos rfl] at hrule
  refine ⟨_, (exec_levelPersona p ch set dac mv).trans (done_is s hrule), ?_, ?_⟩
  · rw [State.commit_legacy, State.legacy_of_blur ((v.wr R.LVL_STATUS.LIMIT_REFUSED (256 * p.val + ch.val) 1).personaRefuse_blur (Nat.and_self _)) (by decide)]
    exact hlegacy
  · rw [State.commit_rd, State.rd_of_blur ((v.wr R.LVL_STATUS.LIMIT_REFUSED (256 * p.val + ch.val) 1).personaRefuse_blur (Nat.and_self _)) _ _ (by decide)]
    exact State.wr_rd_fits v (by decide)

/-! Vector writes (R569, R570) -/

/-- What a vector write of a personality does. -/
def vectorPersona (rq : Req) (off : Nat) (bytes : List Byte) (s : State) : State :=
  if s.reachable rq && s.m.mode = .legacy && off + bytes.length ≤ 0x10000000 then s.legacyWrite rq off (bytes.map (·.toNat)) else s

theorem exec_vectorPersona {s : State} (rq : Req) (off : Nat) (bytes : List Byte) : exec (.forerunnerVectorWrite rq off bytes) s = done s (vectorPersona rq off bytes) := rfl

theorem vectorPersona_of {rq : Req} {off : Nat} {bytes : List Byte} (hr : s.reachable rq = true) (hm : s.m.mode = .legacy) (hlen : off + bytes.length ≤ 0x10000000) : vectorPersona rq off bytes s = s.legacyWrite rq off (bytes.map (·.toNat)) := by
  rw [vectorPersona, hr, hm, decide_eq_true hlen]
  rfl

/-- Eight bytes at an aligned offset are one word, written whole. -/
theorem byteWords_aligned {off : Nat} {bytes : List Nat} (hoff : off % 8 = 0) (hlen : bytes.length = 8) : byteWords off bytes = [(off / 8, bytes.map some)] := by
  have hne : bytes.isEmpty = false := by
    rw [List.isEmpty_eq_false_iff]
    intro h
    rw [h] at hlen
    exact absurd hlen (by decide)
  have hbytes : ((List.range 8).map fun b => if 8 * (off / 8) + b < off then none else bytes[8 * (off / 8) + b - off]?) = bytes.map some := by
    refine List.ext_getElem (by simp [hlen]) fun n hn _ => ?_
    have hn : n < 8 := by simpa using hn
    rw [List.getElem_map, List.getElem_range, List.getElem_map, if_neg (by omega), show 8 * (off / 8) + n - off = n by omega, List.getElem?_eq_getElem]
  rw [byteWords, if_neg (Bool.eq_false_iff.1 hne), hlen, show (off + 8 - 1) / 8 - off / 8 + 1 = 1 by omega]
  exact congrArg (fun l => [(off / 8, l)]) hbytes

/-- A word written whole is what its bytes spell. -/
theorem mergeWord_full (old : Nat) {bytes : List Nat} (hlen : bytes.length = 8) : mergeWord old (bytes.map some) = leVal bytes := by
  have hold : (leBytes 8 old).length = 8 := leBytes_length _ _
  refine congrArg leVal (List.ext_getElem (by simp [hlen, hold]) fun n _ _ => ?_)
  simp

theorem State.sliceMerge_full (t row k : Nat) {bytes : List Nat} (hlen : bytes.length = 8) :
    s.sliceMerge t row k (bytes.map some) = (s.portTake t (bytes.map some)).setStore t ((s.store t).putWord row k (leVal bytes)) := by
  have hall : (bytes.map some).all Option.isSome = true := by simp
  rw [State.sliceMerge, hall, mergeWord_full _ hlen, Bool.not_true, Bool.and_false]
  exact if_neg (by decide)

/-- A write of one word in LEGACY goes to the personality whose window shows the word, or is refused (R569, R570). -/
theorem State.legacyWrite_word (rq : Req) {off : Nat} {bytes : List Nat} (hal : off % 8 = 0) (hlen : bytes.length = 8) :
    s.legacyWrite rq off bytes = if (s.legacyWin rq off).isSome && !(decide (0x180000 ≤ off % 0x4000000) && decide (off % 0x4000000 < 0x2000000)) then s.legacyWord (off / 0x4000000) (off % 0x4000000) (bytes.map some) else s.bar2Refuse rq off := by
  have h8 : 8 * (off / 8) = off := by omega
  rw [State.legacyWrite, byteWords_aligned hal hlen]
  simp only [List.filter_cons, List.filter_nil, List.any_cons, List.any_nil, h8, Bool.or_false]
  generalize ((s.legacyWin rq off).isSome && !(decide (0x180000 ≤ off % 0x4000000) && decide (off % 0x4000000 < 0x2000000))) = may
  cases may
  · rfl
  · simp only [if_true, List.foldl_cons, List.foldl_nil, h8, Bool.not_true]
    rfl

theorem State.legacyWrite_vector {rq : Req} {p : Fin 4} {k : Nat} {bytes : List Nat} (hw : s.legacyWin rq (0x4000000 * p.val + 0x2000000 + 8 * k) = some p.val) (hk : 8 * k < 0x2000000) (hlen : bytes.length = 8) :
    s.legacyWrite rq (0x4000000 * p.val + 0x2000000 + 8 * k) bytes =
      (s.portTake (4 * p.val + 8 * k % 128 / 32) (bytes.map some)).setStore (4 * p.val + 8 * k % 128 / 32) ((s.store (4 * p.val + 8 * k % 128 / 32)).putWord (8 * k / 128) (8 * k % 32 / 8) (leVal bytes)) := by
  have hplace : (0x4000000 * p.val + 0x2000000 + 8 * k) % 0x4000000 = 0x2000000 + 8 * k := by omega
  have hwin : (0x4000000 * p.val + 0x2000000 + 8 * k) / 0x4000000 = p.val := by omega
  rw [s.legacyWrite_word rq (by omega) hlen, hw, hplace, hwin, decide_eq_false (show ¬(0x2000000 + 8 * k < 0x2000000) by omega), Bool.and_false]
  rw [if_pos (by rfl), State.legacyWord, if_pos (by omega), Nat.add_sub_cancel_left]
  exact s.sliceMerge_full _ _ _ hlen

theorem forerunnerVector_writes {rq : Req} {p : Fin 4} {k : Nat} {bytes : List Byte} (hr : s.reachable rq = true) (hm : s.m.mode = .legacy) (hw : s.legacyWin rq (0x4000000 * p.val + 0x2000000 + 8 * k) = some p.val)
    (hk : 8 * k < 0x2000000) (hlen : bytes.length = 8) :
    ∃ t, exec (.forerunnerVectorWrite rq (0x4000000 * p.val + 0x2000000 + 8 * k) bytes) s = .next t ∧ (t.store (4 * p.val + 8 * k % 128 / 32)).word (8 * k / 128) (8 * k % 32 / 8) = leVal (bytes.map BitVec.toNat) ∧
      (∀ j, j < 16 → j ≠ 4 * p.val + 8 * k % 128 / 32 → t.store j = s.store j) ∧ t.rd R.HOST_REFUSE.COUNT 0 = s.rd R.HOST_REFUSE.COUNT 0 := by
  have hp := p.isLt
  have hrule := (vectorPersona_of (s.withOut []) hr hm (by omega)).trans ((s.withOut []).legacyWrite_vector hw hk ((List.length_map _).trans hlen))
  refine ⟨_, (exec_vectorPersona rq _ bytes).trans (done_is s hrule), ?_, fun j _ hj => ?_, rfl⟩
  · show StoreSt.word (smGet StoreSt.idle (smSet StoreSt.idle _ _ _) _) _ _ = _
    rw [smGet_smSet_same]
    exact smGet_smSet_same _ _ _ _
  · show smGet StoreSt.idle (smSet StoreSt.idle _ _ _) j = _
    rw [smGet_smSet_ne _ _ _ _ hj]
    rfl

theorem forerunnerVector_refused {f : Fin 64} {off : Nat} {bytes : List Byte} (hr : s.reachable (.fn f) = true) (hm : s.m.mode = .legacy) (hal : off % 8 = 0) (hoff : off < 0x10000000) (hw : s.legacyWin (.fn f) off = none) (hlen : bytes.length = 8) :
    ∃ t, exec (.forerunnerVectorWrite (.fn f) off bytes) s = .next t ∧ t.stores = s.stores ∧ t.rd R.HOST_REFUSE.COUNT f.val = min (s.rd R.HOST_REFUSE.COUNT f.val + 1) (2 ^ R.HOST_REFUSE.COUNT.width - 1) ∧ t.rd R.HOST_REFUSE_ADDR.BAR2 f.val = 1 := by
  have hrule := (vectorPersona_of (s.withOut []) (rq := .fn f) hr hm (bytes := bytes) (by omega)).trans ((s.withOut []).legacyWrite_word (.fn f) hal ((List.length_map _).trans hlen))
  rw [show (s.withOut []).legacyWin (.fn f) off = none from hw, Option.isSome_none, Bool.false_and, if_neg (by decide)] at hrule
  refine ⟨_, (exec_vectorPersona _ _ bytes).trans (done_is s hrule), rfl, ?_, ?_⟩
  · rw [State.commit_rd]
    exact State.refuse_count _ _ _ _
  · rw [State.commit_rd]
    exact State.wr_rd_fits (((s.withOut []).bump R.HOST_REFUSE.COUNT f.val 1).wr R.HOST_REFUSE_ADDR.OFFSET f.val off) (f := R.HOST_REFUSE_ADDR.BAR2) (v := 1) (by decide)

end Sys2Proof.Machine
open Sys2Proof Sys2Proof.Machine

/-- Settles O56, clause by clause: starts, stops, runs of calibration, resets, and the writes of timing, level and vectors. -/
theorem forerunnerPersonalities : Obligations.ForerunnerPersonalities := by
  unfold Obligations.ForerunnerPersonalities
  refine ⟨fun s p edge hp hc hr ht hi => forerunnerStart_starts s hp hc hr ht hi, fun s p edge hp hc => forerunnerStart_discards s hp hc, fun s p edge h => forerunnerStart_idles s h,
    fun s p hp => forerunnerStop_stops s hp, fun s p hp => forerunnerStop_idles s hp, fun s p hp hi => forerunnerCalibrate_starts s hp hi, fun s p hp hr => forerunnerCalibrate_waits s hp hr,
    fun s p hp => forerunnerReset_resets s hp, fun s p set ch item u hp hi => forerunnerTiming_applies s hp hi, fun s p set ch u hp hu => forerunnerTiming_period s hp hu,
    fun s p set ch item u hp hi => forerunnerTiming_refused s hp hi, fun s p set ch item u hp => forerunnerTiming_idles s hp, fun s p ch set dac mv hp => forerunnerLevel_idles s hp,
    fun s p hp => forerunnerCalibrate_idles s hp, fun s p hp => forerunnerReset_idles s hp, fun s p ch set dac mv hp h => forerunnerLevel_takes s hp h,
    fun s p ch set dac mv hp hb h => forerunnerLevel_refused s hp hb h, fun s rq p k bytes hr hm hw hk hl => forerunnerVector_writes s hr hm hw hk hl,
    fun s f off bytes hr hm ha ho hw hl => forerunnerVector_refused s hr hm ha ho hw hl⟩
end

section
/-! SUPPORT. Jump requests of a segment engine and the start of its successor (R270, R271, R274), for O50. -/

namespace Sys2Proof.Machine

variable (s : State)

/-! The status of the engine -/

/-- The code of a phase in SEG_STATUS. -/
def Phase.code : Phase → Nat
  | .stopped => 0
  | .seg => 1
  | .idle => 2
  | .wait => 2
  | .hold => 3

theorem State.wb_rd_same {f : Fld} (i : Nat) (b : Bool) (h : 0 < f.width) : (s.wb f i b).rd f i = b2n b := by
  have hw : b2n b < 2 ^ f.width := by
    cases b
    · exact Nat.two_pow_pos _
    · exact Nat.one_lt_two_pow (Nat.pos_iff_ne_zero.1 h)
  exact State.wr_rd_fits s hw

theorem State.segSync_phase (t : Nat) : (s.segSync t).rd R.SEG_STATUS.PHASE t = (s.play t).phase.code := by
  unfold State.segSync
  dsimp only
  rw [State.live_rd, State.wb_rd_key _ _ (by decide), State.wr_rd_key _ _ (by decide), State.wb_rd_key _ _ (by decide), State.wr_rd_key _ _ (by decide), State.wr_rd_same]
  cases (s.play t).phase <;> rfl

theorem State.segSync_committed (t : Nat) : (s.segSync t).rd R.SEG_STATUS.COMMITTED t = b2n (s.play t).succ.isSome := by
  unfold State.segSync
  dsimp only
  rw [State.live_rd, State.wb_rd_key _ _ (by decide), State.wr_rd_key _ _ (by decide), State.wb_rd_same _ _ _ (by decide)]

theorem State.segSync_succ {t : Nat} {x : Succ} (h : (s.play t).succ = some x) : (s.segSync t).rd R.SEG_STATUS.SUCC_SEG t = x.entry % 2 ^ R.SEG_STATUS.SUCC_SEG.width := by
  unfold State.segSync
  dsimp only
  rw [State.live_rd, State.wb_rd_key _ _ (by decide), State.wr_rd_same, h]

theorem State.segSync_pending (t : Nat) : (s.segSync t).rd R.SEG_JUMP.PENDING t = b2n (s.play t).jump.isSome := by
  unfold State.segSync
  dsimp only
  rw [State.live_rd, State.wb_rd_same _ _ _ (by decide)]

/-! A successor may start (R274) -/

/-- Nothing waits for a slot of the ring: no pass is checked again. -/
theorem State.recheck_idle {t : Nat} (h : (s.play t).starving = none) (h' : (s.play t).samePass = false) : s.recheck t = s := by
  unfold State.recheck
  dsimp only
  rw [h, h']
  rfl

/-- What SUCCESSOR_START does. -/
def succRule (t : Nat) (s : State) : State :=
  let s := s.recheck t
  let p := s.play t
  if p.playing && (p.phase ≠ .seg || p.idx ≥ enLength (s.curEntry t)) && (p.succ.isSome || (p.samePass && p.nextSlot.isSome)) then
    (s.setPlay t { p with go := true }).segSync t
  else s.segSync t

theorem exec_succRule {s : State} (t : Fin 16) : exec (.successorStart t) s = done s (succRule t.val) := rfl

theorem successorStart_goes {t' : Fin 16} {x : Succ} (hp : (s.play t'.val).playing = true) (hi : (s.play t'.val).phase = .idle) (hs : (s.play t'.val).starving = none) (hm : (s.play t'.val).samePass = false) (hx : (s.play t'.val).succ = some x) :
    ∃ t, exec (.successorStart t') s = .next t ∧ t.play t'.val = { s.play t'.val with go := true } ∧ t.rd R.SEG_STATUS.COMMITTED t'.val = 1 ∧ t.rd R.SEG_STATUS.SUCC_SEG t'.val = x.entry % 2 ^ R.SEG_STATUS.SUCC_SEG.width := by
  have hrule : succRule t'.val (s.withOut []) = ((s.withOut []).setPlay t'.val { s.play t'.val with go := true }).segSync t'.val := by
    unfold succRule
    rw [State.recheck_idle (s.withOut []) hs hm]
    refine if_pos ?_
    show ((s.play t'.val).playing && ((s.play t'.val).phase ≠ .seg || _) && ((s.play t'.val).succ.isSome || _)) = true
    rw [hp, hi, hx]
    rfl
  have hplay : ((s.withOut []).setPlay t'.val { s.play t'.val with go := true }).play t'.val = { s.play t'.val with go := true } := State.setPlay_play_same ..
  refine ⟨_, (exec_succRule t').trans (done_is s hrule), ?_, ?_, ?_⟩
  · rw [State.commit_play, State.segSync_play, hplay]
  · rw [State.commit_rd, State.segSync_committed, hplay]
    exact congrArg (fun y : Option Succ => b2n y.isSome) hx
  · rw [State.commit_rd, State.segSync_succ _ (by rw [hplay]; exact hx)]

theorem successorStart_waits {t' : Fin 16} (hs : (s.play t'.val).starving = none) (hm : (s.play t'.val).samePass = false) (h : (s.play t'.val).playing = false ∨ (s.play t'.val).succ = none) :
    ∃ t, exec (.successorStart t') s = .next t ∧ t.play t'.val = s.play t'.val := by
  have hrule : succRule t'.val (s.withOut []) = (s.withOut []).segSync t'.val := by
    unfold succRule
    rw [State.recheck_idle (s.withOut []) hs hm]
    refine if_neg ?_
    show ¬((s.play t'.val).playing && (_ || _) && ((s.play t'.val).succ.isSome || ((s.play t'.val).samePass && _))) = true
    obtain h | h := h
    · simp [h]
    · simp [h, hm]
  refine ⟨_, (exec_succRule t').trans (done_is s hrule), ?_⟩
  rw [State.commit_play, State.segSync_play]
  rfl

/-! A jump request (R270, R271) -/

/-- A request for an entry that is not valid, on a program that is not, or while one pends, is refused. -/
theorem State.jumpLatch_refused {t : Nat} (h : enValid (s.entry t (s.rd R.SEG_JUMP.TARGET t)) = false ∨ s.fl R.SEQ_LOAD.VALID t = false ∨ (s.play t).jump ≠ none) : s.jumpLatch t = s.wr R.SEG_JUMP.REFUSED t 1 := by
  refine if_pos ?_
  obtain h | h | h := h
  · rw [h]
    rfl
  · rw [h, Bool.not_false, Bool.or_true, Bool.true_or]
  · rw [Option.isSome_iff_ne_none.2 h, Bool.or_true]

section
variable {t : Nat} (hvalid : enValid (s.entry t (s.rd R.SEG_JUMP.TARGET t)) = true) (hload : s.fl R.SEQ_LOAD.VALID t = true) (hfree : (s.play t).jump = none)
include hvalid hload hfree

/-- A request inside a segment pends until the commit point; one that comes after it is late. -/
theorem State.jumpLatch_pends (hseg : (s.play t).phase = .seg) :
    s.jumpLatch t = ((s.setPlay t { s.play t with jump := some (s.rd R.SEG_JUMP.TARGET t, s.fl R.SEG_JUMP.FLUSH t) }).when (s.play t).isFinal (·.bump R.SEG_COUNT.JUMP_LATE t 1)).segSync t := by
  unfold State.jumpLatch
  simp [hvalid, hload, hfree, hseg]

/-- A request in an interruption without a successor is taken at once. -/
theorem State.jumpLatch_taken (hidle : (s.play t).phase = .idle) (hm : (s.play t).samePass = false) (hx : (s.play t).succ = none) :
    s.jumpLatch t = ((s.setPlay t { s.play t with jump := some (s.rd R.SEG_JUMP.TARGET t, s.fl R.SEG_JUMP.FLUSH t) }).takeJump t).segSync t := by
  unfold State.jumpLatch
  simp [hvalid, hload, hfree, hidle, hm, hx]

end

/-- A segment engine with its pending request taken. -/
def PlaySt.jumped (p : PlaySt) (flush : Bool) : PlaySt := { p with jump := none, queue := if flush then [] else p.queue }

/-- An engine whose successor is fixed. -/
def PlaySt.fixed (p : PlaySt) (x : Succ) : PlaySt := { p with succ := some x, go := false }

/-- An engine without a starving successor. -/
def PlaySt.fed (p : PlaySt) : PlaySt := { p with starving := none }

/-- An entry that is not streamed is fixed as the successor. -/
theorem State.choose_fixes {t n : Nat} {queued : Bool} (h : enStreamed (s.entry t n) = false) : (s.choose t n queued).play t = (s.play t).fed.interrupted.fixed ⟨n, queued, none⟩ := by
  have hset : (s.setPlay t (s.play t).fed).play t = (s.play t).fed := State.setPlay_play_same ..
  unfold State.choose
  dsimp only
  rw [h, if_neg (by decide)]
  change ((s.setPlay t (s.play t).fed).setPlay t (((s.setPlay t (s.play t).fed).play t).interrupted.fixed ⟨n, queued, none⟩)).play t = _
  rw [State.setPlay_play_same, hset]

theorem PlaySt.interrupted_keeps (p : PlaySt) : p.interrupted.jump = p.jump ∧ p.interrupted.queue = p.queue := by
  unfold PlaySt.interrupted
  split <;> exact ⟨rfl, rfl⟩

/-- A pending request for an entry that is not streamed becomes the successor. -/
theorem State.takeJump_fixes {t n : Nat} {flush : Bool} (hj : (s.play t).jump = some (n, flush)) (hstream : enStreamed (s.entry t n) = false) :
    ∃ p, (s.takeJump t).play t = p ∧ p.jump = none ∧ p.succ = some ⟨n, false, none⟩ ∧ p.queue = if flush then [] else (s.play t).queue := by
  have htake : s.takeJump t = (s.setPlay t ((s.play t).jumped flush)).choose t n false := by
    unfold State.takeJump
    rw [hj]
    rfl
  obtain ⟨hjump, hqueue⟩ := ((s.play t).jumped flush).fed.interrupted_keeps
  have hfix : (s.takeJump t).play t = ((s.play t).jumped flush).fed.interrupted.fixed ⟨n, false, none⟩ := by
    rw [htake, State.choose_fixes (s.setPlay t ((s.play t).jumped flush)) hstream, State.setPlay_play_same]
  refine ⟨_, hfix, ?_, rfl, ?_⟩
  · exact hjump
  · exact hqueue

/-! The write of SEG_JUMP with GO -/

/-- SEG_JUMP as a request writes it: the word with GO set. -/
def jumpWord (w : Nat) : Nat := Nat.lor w (2 ^ 12)

/-- The state in which a request is judged: the fields of the register written. -/
structure State.JumpAsked (t w : Nat) (v : State) : Prop where
  play : ∃ x, v.play t = { s.play t with srcSample := x }
  target : v.rd R.SEG_JUMP.TARGET t = R.SEG_JUMP.TARGET.part w
  flush : v.fl R.SEG_JUMP.FLUSH t = (R.SEG_JUMP.FLUSH.part w != 0)
  entry : ∀ n, v.entry t n = s.entry t n
  rest : ∀ (f : Fld) (i : Nat), f.key % 1024 ∉ (Reg.fields .SEG_JUMP).map Fld.key → v.rd f i = s.rd f i

theorem jumpHook_asks (rq : Req) (t w : Nat) : ∃ v, jumpHook rq t (jumpWord w) 15 s = (v.jumpLatch t, false) ∧ s.JumpAsked t w v := by
  obtain ⟨hstay, htake⟩ := writeFields_take s t (jumpWord w) 15 (Reg.fields .SEG_JUMP) (by decide) (by decide)
  obtain ⟨r, hregs⟩ := writeFields_foldl_regs s (Reg.fields .SEG_JUMP) t (jumpWord w) 15
  have hwrite : writeWord .SEG_JUMP t (jumpWord w) 15 s = ((Reg.fields .SEG_JUMP).foldl (fun s f => (writeField t (jumpWord w) 15 f s).1) s, false) := writeFields_unbarred s (by decide) _ _ _
  have hgo : R.SEG_JUMP.GO.acts (jumpWord w) 15 = true := Fld.acts_lor w (by decide)
  have hplays : ((Reg.fields .SEG_JUMP).foldl (fun s f => (writeField t (jumpWord w) 15 f s).1) s).plays = s.plays := by rw [hregs]
  have hstores : ((Reg.fields .SEG_JUMP).foldl (fun s f => (writeField t (jumpWord w) 15 f s).1) s).stores = s.stores := by rw [hregs]
  have htarget := htake R.SEG_JUMP.TARGET (by decide)
  have hflush := htake R.SEG_JUMP.FLUSH (by decide)
  rw [State.taken, if_neg (by decide)] at htarget hflush
  generalize (Reg.fields .SEG_JUMP).foldl (fun s f => (writeField t (jumpWord w) 15 f s).1) s = u at hstay hwrite hplays hstores htarget hflush
  have hplay : u.play t = s.play t := by rw [State.play, hplays, State.play]
  have hentry (n : Nat) : u.entry t n = s.entry t n := by rw [State.entry, State.store, hstores, State.entry, State.store]
  have htarget : u.rd R.SEG_JUMP.TARGET t = R.SEG_JUMP.TARGET.part w := htarget.trans (Fld.part_lor_zero w (by decide))
  have hflush : u.fl R.SEG_JUMP.FLUSH t = (R.SEG_JUMP.FLUSH.part w != 0) := congrArg (· != 0) (hflush.trans (Fld.part_lor_zero w (by decide)))
  unfold jumpHook
  rw [hwrite]
  dsimp only
  rw [hgo]
  generalize (u.fl R.SEG_JUMP.SRC_EN t && (decide (s.rd R.SEG_JUMP.SRC_EN t = 0) || decide (u.rd R.SEG_JUMP.SRC t ≠ s.rd R.SEG_JUMP.SRC t))) = c
  refine ⟨_, rfl, ?_⟩
  cases c
  · exact ⟨⟨(s.play t).srcSample, hplay⟩, htarget, hflush, hentry, hstay⟩
  · exact ⟨⟨none, (State.setPlay_play_same ..).trans (by rw [hplay])⟩, htarget, hflush, hentry, hstay⟩

theorem jumpRequest_answers {rq : Req} {t' : Fin 16} {w : Word} (hw : s.canWrite rq .SEG_JUMP t'.val) :
    ∃ v, exec (.jumpRequestGo rq t' w) s = .next (s.commit (v.jumpLatch t'.val)) ∧ s.JumpAsked t'.val w.toNat v := by
  obtain ⟨v, hhook, hv⟩ := jumpHook_asks (s.withOut []) rq t'.val w.toNat
  have hcopy : s.copyOf rq .SEG_JUMP t'.val = t'.val := s.copyOf_device rfl
  have hrow := writeRow_takesAt s (h := jumpHook) (w := jumpWord w.toNat) hw (by rw [hcopy, hhook])
  rw [hcopy, hhook] at hrow
  exact ⟨v, hrow, hv.play, hv.target, hv.flush, hv.entry, hv.rest⟩

theorem jumpRequest_pends {rq : Req} {t' : Fin 16} {w : Word} {n : Nat} (hw : s.canWrite rq .SEG_JUMP t'.val) (hn : n = R.SEG_JUMP.TARGET.part w.toNat) (hvalid : enValid (s.entry t'.val n) = true) (hload : s.fl R.SEQ_LOAD.VALID t'.val = true)
    (hfree : (s.play t'.val).jump = none) (hseg : (s.play t'.val).phase = .seg) :
    ∃ t, exec (.jumpRequestGo rq t' w) s = .next t ∧ (t.play t'.val).jump = some (n, R.SEG_JUMP.FLUSH.part w.toNat != 0) ∧ (t.play t'.val).succ = (s.play t'.val).succ ∧ (t.play t'.val).queue = (s.play t'.val).queue ∧ t.rd R.SEG_JUMP.PENDING t'.val = 1 ∧
      t.rd R.SEG_COUNT.JUMP_LATE t'.val = (if (s.play t'.val).isFinal then min (s.rd R.SEG_COUNT.JUMP_LATE t'.val + 1) (2 ^ R.SEG_COUNT.JUMP_LATE.width - 1) else s.rd R.SEG_COUNT.JUMP_LATE t'.val) := by
  obtain ⟨v, hexec, ⟨x, hplay⟩, htarget, hflush, hentry, hrest⟩ := jumpRequest_answers s (w := w) hw
  have hlatch := v.jumpLatch_pends (t := t'.val) (by rw [htarget, ← hn, hentry]; exact hvalid) ((congrArg (· != 0) (hrest R.SEQ_LOAD.VALID _ (by decide))).trans hload) (by rw [hplay]; exact hfree) (by rw [hplay]; exact hseg)
  rw [hplay, htarget, ← hn, hflush] at hlatch
  rw [hlatch] at hexec
  generalize hp : ({ s.play t'.val with srcSample := x, jump := some (n, R.SEG_JUMP.FLUSH.part w.toNat != 0) } : PlaySt) = p at hexec
  have hset : ((v.setPlay t'.val p).when (s.play t'.val).isFinal (·.bump R.SEG_COUNT.JUMP_LATE t'.val 1)).play t'.val = p := by
    cases (s.play t'.val).isFinal <;> exact State.setPlay_play_same ..
  refine ⟨_, hexec, ?_, ?_, ?_, ?_, ?_⟩
  · rw [State.commit_play, State.segSync_play, hset, ← hp]
  · rw [State.commit_play, State.segSync_play, hset, ← hp]
  · rw [State.commit_play, State.segSync_play, hset, ← hp]
  · rw [State.commit_rd, State.segSync_pending, hset, ← hp]
    rfl
  · rw [State.commit_rd, State.rd_of_blur (State.segSync_blur _ _ (Nat.and_self _)) _ _ (by decide), ← hrest R.SEG_COUNT.JUMP_LATE _ (by decide)]
    cases (s.play t'.val).isFinal
    · rfl
    · exact State.bump_rd_same ..

theorem jumpRequest_taken {rq : Req} {t' : Fin 16} {w : Word} {n : Nat} (hw : s.canWrite rq .SEG_JUMP t'.val) (hn : n = R.SEG_JUMP.TARGET.part w.toNat) (hvalid : enValid (s.entry t'.val n) = true) (hload : s.fl R.SEQ_LOAD.VALID t'.val = true)
    (hfree : (s.play t'.val).jump = none) (hidle : (s.play t'.val).phase = .idle) (hm : (s.play t'.val).samePass = false) (hx : (s.play t'.val).succ = none) (hstream : enStreamed (s.entry t'.val n) = false) :
    ∃ t, exec (.jumpRequestGo rq t' w) s = .next t ∧ (t.play t'.val).jump = none ∧ (t.play t'.val).succ = some ⟨n, false, none⟩ ∧ (t.play t'.val).queue = (if R.SEG_JUMP.FLUSH.part w.toNat = 0 then (s.play t'.val).queue else []) ∧ t.rd R.SEG_JUMP.PENDING t'.val = 0 := by
  obtain ⟨v, hexec, ⟨x, hplay⟩, htarget, hflush, hentry, hrest⟩ := jumpRequest_answers s (w := w) hw
  have hlatch := v.jumpLatch_taken (t := t'.val) (by rw [htarget, ← hn, hentry]; exact hvalid) ((congrArg (· != 0) (hrest R.SEQ_LOAD.VALID _ (by decide))).trans hload) (by rw [hplay]; exact hfree) (by rw [hplay]; exact hidle)
    (by rw [hplay]; exact hm) (by rw [hplay]; exact hx)
  rw [hplay, htarget, ← hn, hflush] at hlatch
  rw [hlatch] at hexec
  obtain ⟨p, hp, hjump, hsucc, hqueue⟩ := State.takeJump_fixes (v.setPlay t'.val { s.play t'.val with srcSample := x, jump := some (n, R.SEG_JUMP.FLUSH.part w.toNat != 0) }) (t := t'.val) (n := n) (by rw [State.setPlay_play_same])
    ((congrArg enStreamed (hentry n)).trans hstream)
  rw [State.setPlay_play_same] at hqueue
  refine ⟨_, hexec, ?_, ?_, ?_, ?_⟩
  · rw [State.commit_play, State.segSync_play, hp, hjump]
  · rw [State.commit_play, State.segSync_play, hp, hsucc]
  · rw [State.commit_play, State.segSync_play, hp, hqueue]
    by_cases h : R.SEG_JUMP.FLUSH.part w.toNat = 0
    · rw [if_pos h, h]
      rfl
    · rw [if_neg h, if_pos (bne_iff_ne.2 h)]
  · rw [State.commit_rd, State.segSync_pending, hp, hjump]
    rfl

theorem jumpRequest_refused {rq : Req} {t' : Fin 16} {w : Word} (hw : s.canWrite rq .SEG_JUMP t'.val) (h : enValid (s.entry t'.val (R.SEG_JUMP.TARGET.part w.toNat)) = false ∨ s.fl R.SEQ_LOAD.VALID t'.val = false ∨ (s.play t'.val).jump ≠ none) :
    ∃ t, exec (.jumpRequestGo rq t' w) s = .next t ∧ t.rd R.SEG_JUMP.REFUSED t'.val = 1 ∧ (t.play t'.val).jump = (s.play t'.val).jump ∧ (t.play t'.val).succ = (s.play t'.val).succ := by
  obtain ⟨v, hexec, ⟨x, hplay⟩, htarget, hflush, hentry, hrest⟩ := jumpRequest_answers s (w := w) hw
  rw [v.jumpLatch_refused (by rw [htarget, hentry, State.fl, hrest R.SEQ_LOAD.VALID _ (by decide), hplay]; exact h)] at hexec
  refine ⟨_, hexec, ?_, ?_, ?_⟩
  · rw [State.commit_rd]
    exact State.wr_rd_fits _ (by decide)
  · rw [State.commit_play, State.wr_play, hplay]
  · rw [State.commit_play, State.wr_play, hplay]

/-! An edge of the jump source (R270) -/

/-- What a sample of the jump source does. -/
def jumpEdgeRule (t : Nat) (s : State) : State :=
  if !s.fl R.SEG_JUMP.SRC_EN t then s else
  (s.setPlay t { s.play t with srcSample := some (s.cond t (s.rd R.SEG_JUMP.SRC t)) }).when (s.cond t (s.rd R.SEG_JUMP.SRC t) && (s.play t).srcSample == some false) (·.jumpLatch t)

theorem exec_jumpEdgeRule {s : State} (t : Fin 16) : exec (.jumpSrcEdge t) s = done s (jumpEdgeRule t.val) := rfl

theorem jumpSrcEdge_off {t' : Fin 16} (h : s.fl R.SEG_JUMP.SRC_EN t'.val = false) : ∃ t, exec (.jumpSrcEdge t') s = .next t ∧ s.keeps t [] := by
  rw [exec_jumpEdgeRule]
  exact done_idle s (if_pos (by rw [show (s.withOut []).fl R.SEG_JUMP.SRC_EN t'.val = false from h]; rfl))

theorem jumpSrcEdge_samples {t' : Fin 16} (h : s.fl R.SEG_JUMP.SRC_EN t'.val = true) (hno : (s.play t'.val).srcSample ≠ some false ∨ s.cond t'.val (s.rd R.SEG_JUMP.SRC t'.val) = false) :
    ∃ t, exec (.jumpSrcEdge t') s = .next t ∧ t.play t'.val = { s.play t'.val with srcSample := some (s.cond t'.val (s.rd R.SEG_JUMP.SRC t'.val)) } ∧ s.keeps t [.plays] := by
  have hrule : jumpEdgeRule t'.val (s.withOut []) = (s.withOut []).setPlay t'.val { s.play t'.val with srcSample := some (s.cond t'.val (s.rd R.SEG_JUMP.SRC t'.val)) } := by
    have hedge : (s.cond t'.val (s.rd R.SEG_JUMP.SRC t'.val) && (s.play t'.val).srcSample == some false) = false := by
      obtain hno | hno := hno
      · rw [beq_false_of_ne hno, Bool.and_false]
      · rw [hno, Bool.false_and]
    refine (if_neg ?_).trans (congrArg (fun c => ((s.withOut []).setPlay t'.val _).when c (·.jumpLatch t'.val)) hedge)
    rw [show (s.withOut []).fl R.SEG_JUMP.SRC_EN t'.val = true from h]
    decide
  refine ⟨_, (exec_jumpEdgeRule t').trans (done_is s hrule), ?_, ?_⟩
  · rw [State.commit_play, State.setPlay_play_same]
  · exact State.keeps_commit (by simp)

theorem jumpSrcEdge_latches {t' : Fin 16} {n : Nat} (h : s.fl R.SEG_JUMP.SRC_EN t'.val = true) (hc : s.cond t'.val (s.rd R.SEG_JUMP.SRC t'.val) = true) (hwas : (s.play t'.val).srcSample = some false) (hn : n = s.rd R.SEG_JUMP.TARGET t'.val)
    (hvalid : enValid (s.entry t'.val n) = true) (hload : s.fl R.SEQ_LOAD.VALID t'.val = true) (hfree : (s.play t'.val).jump = none) (hseg : (s.play t'.val).phase = .seg) :
    ∃ t, exec (.jumpSrcEdge t') s = .next t ∧ t.play t'.val = { s.play t'.val with srcSample := some true, jump := some (n, s.fl R.SEG_JUMP.FLUSH t'.val) } ∧ t.rd R.SEG_JUMP.PENDING t'.val = 1 := by
  have hplay : ((s.withOut []).setPlay t'.val { s.play t'.val with srcSample := some true }).play t'.val = { s.play t'.val with srcSample := some true } := State.setPlay_play_same ..
  have hlatch := State.jumpLatch_pends ((s.withOut []).setPlay t'.val { s.play t'.val with srcSample := some true }) (t := t'.val) (hn ▸ hvalid) hload (by rw [hplay]; exact hfree) (by rw [hplay]; exact hseg)
  rw [hplay] at hlatch
  have hrule : jumpEdgeRule t'.val (s.withOut []) = ((s.withOut []).setPlay t'.val { s.play t'.val with srcSample := some true }).jumpLatch t'.val := by
    unfold jumpEdgeRule
    rw [show (s.withOut []).fl R.SEG_JUMP.SRC_EN t'.val = true from h, show (s.withOut []).cond t'.val ((s.withOut []).rd R.SEG_JUMP.SRC t'.val) = true from hc, show ((s.withOut []).play t'.val).srcSample = some false from hwas]
    rfl
  rw [show ((s.withOut []).setPlay t'.val { s.play t'.val with srcSample := some true }).rd R.SEG_JUMP.TARGET t'.val = n from hn.symm] at hlatch
  have hset (v : State) (p : PlaySt) : ((v.setPlay t'.val p).when (s.play t'.val).isFinal (·.bump R.SEG_COUNT.JUMP_LATE t'.val 1)).play t'.val = p := by
    cases (s.play t'.val).isFinal <;> exact State.setPlay_play_same ..
  refine ⟨_, (exec_jumpEdgeRule t').trans (done_is s (hrule.trans hlatch)), ?_, ?_⟩
  · rw [State.commit_play, State.segSync_play, hset]
    rfl
  · rw [State.commit_rd, State.segSync_pending, hset]
    rfl

/-! A stopped tile reads nothing, and a tile that plays keeps its lanes (R168, R181) -/

/-- What the engine does with what it finds in its next row slot. -/
def State.readAct (s : State) (t : Nat) : VecKind → State
  | .none => s.segSync t
  | .seg => (s.segVector t).segSync t
  | .fill => (s.fillVector t none).segSync t
  | .wait p => (s.fillVector t (some p)).segSync t
  | .stop => (s.tileStop t).segSync t

/-- What VECTOR_READ does. -/
def readRule (t : Nat) (s : State) : State :=
  let p := s.play t
  if !p.playing then s
  else if p.stopAt = 1 && p.phase ≠ .seg && !p.samePass && p.succ.isNone && p.starving.isNone && p.queue.isEmpty then (s.tileStop t).groupStop t
  else if p.stopAt = 3 && p.phase ≠ .seg then s.abortStop t
  else ((s.recheck t).nextRead t).1.readAct t ((s.recheck t).nextRead t).2

theorem exec_readRule {s : State} (t : Fin 16) : exec (.vectorRead t) s = done s (readRule t.val) := rfl

theorem vectorRead_idles {t' : Fin 16} (h : (s.play t'.val).playing = false) : ∃ t, exec (.vectorRead t') s = .next t ∧ s.keeps t [] := by
  rw [exec_readRule]
  exact done_idle s (if_pos (by rw [show ((s.withOut []).play t'.val).playing = false from h]; rfl))

/-- What TILE_IDLE_RETURN does. -/
def returnRule (t : Nat) (s : State) : State := if (s.play t).playing then s else s.idleReturn t

theorem exec_returnRule {s : State} (t : Fin 16) : exec (.tileIdleReturn t) s = done s (returnRule t.val) := rfl

theorem tileIdleReturn_idles {t' : Fin 16} (h : (s.play t'.val).playing = true) : ∃ t, exec (.tileIdleReturn t') s = .next t ∧ s.keeps t [] := by
  rw [exec_returnRule]
  exact done_idle s (if_pos h)

end Sys2Proof.Machine
end

section
/-! SUPPORT. The return of a stopped tile's lanes to their idle state (R181), for O50. -/

namespace Sys2Proof.Machine

variable (s : State)

theorem State.lane_of_lanes {t : State} (h : t.lanes = s.lanes) (k : Nat) : t.lane k = s.lane k := congrArg (smGet LaneSt.idle · k) h

/-! The edges of a lane change no other lane -/

section
variable {k l : Nat} (h : k ≠ l)
include h

theorem State.transition_other (new at' : Nat) : (s.transition l new at').1.lane k = s.lane k := by
  unfold State.transition
  dsimp only
  split
  · exact s.setLane_lane_ne _ h
  · generalize hs : s.when _ (·.wr R.LANE_STATUS.OVERSPEED l 1) = u
    have hu : u.lane k = s.lane k := by
      rw [← hs]
      exact s.when_induction (P := fun u => u.lane k = s.lane k) _ _ rfl rfl
    split
    all_goals
      split
      · exact (State.lane_of_lanes _ (State.lanes_of_blur (u.edgeDrop_blur _ (Nat.and_self _)) (by decide)) k).trans hu
      · exact (u.setLane_lane_ne _ h).trans hu

theorem State.driveEdges_other (at' : Nat) (es : List Edge) : (s.driveEdges l at' es).lane k = s.lane k := by
  unfold State.driveEdges
  dsimp only
  split
  · rfl
  · split
    · exact s.setLane_lane_ne _ h
    · generalize hs : s.when _ _ = u
      have hu : u.lane k = s.lane k := by
        rw [← hs]
        exact s.when_induction (P := fun u => u.lane k = s.lane k) _ _ rfl (s.when_induction (P := fun u => u.lane k = s.lane k) _ _ rfl rfl)
      have ht := (u.transition_other h (es.foldl (fun a e => driveEdge e a.1 a.2) ((s.lane l).want, (s.lane l).last)).1 at').trans hu
      split
      · exact (State.setLane_lane_ne _ _ h).trans ht
      · exact ht

theorem State.cmpSlot_other (at' : Nat) : (s.cmpSlot l at').1.lane k = s.lane k := by
  unfold State.cmpSlot
  dsimp only
  split
  all_goals
    split
    · exact State.lane_of_lanes _ (State.lanes_of_blur (s.edgeDrop_blur _ (Nat.and_self _)) (by decide)) k
    · exact s.setLane_lane_ne _ h

theorem State.modJob_other (vec : Nat) (f : CmpJob → CmpJob) : (s.modJob l vec f).lane k = s.lane k := s.setLane_lane_ne _ h

theorem State.cmpEdge_other (e : Edge) : (s.cmpEdge l e).lane k = s.lane k := by
  unfold State.cmpEdge
  split
  · rfl
  · have hslot := s.cmpSlot_other h e.at'
    generalize s.cmpSlot l e.at' = r at hslot
    dsimp only
    split
    · exact (r.1.modJob_other h _ _).trans hslot
    · split
      · split
        · exact (r.1.modJob_other h _ _).trans hslot
        · refine (State.modJob_other _ h _ _).trans ?_
          have hset (y : LaneSt) : (r.1.setLane l y).lane k = s.lane k := (r.1.setLane_lane_ne y h).trans hslot
          exact State.when_induction _ (P := fun u => u.lane k = s.lane k) _ _ (hset _) (hset _)
      · split
        · exact hslot
        · split <;> exact (r.1.modJob_other h _ _).trans hslot

theorem State.laneEdges_other (limit n : Nat) : (s.laneEdges l limit n).lane k = s.lane k := by
  induction n generalizing s with
  | zero => rfl
  | succ n ih =>
    unfold State.laneEdges
    split
    · rfl
    · dsimp only
      split
      · rfl
      · refine (ih _).trans ((foldl_keeps (get := fun u : State => u.lane k) (fun u e _ => ?_) _).trans ((State.driveEdges_other _ h _ _).trans (s.setLane_lane_ne _ h)))
        split
        · rfl
        · exact u.cmpEdge_other h e

end

/-! A lane at rest -/

/-- A lane that drives nothing and holds no window and no transition. -/
def LaneSt.resting (x : LaneSt) : Prop := x.drv = 0 ∧ x.want = 0 ∧ x.window = 0 ∧ x.cmpWindow = 0 ∧ x.trans = none

/-- The return of one lane to its idle state. -/
def State.laneReturn (s : State) (l : Nat) : State :=
  if s.lane l = .idle then s else
  let s := s.laneFlush l (s.lane l).afterEdges
  (s.setLane l { s.lane l with drv := 0, want := 0, window := 0, slots := 0, cmpWindow := 0, cmpSlots := 0, trans := none }).blockedCheck l

theorem State.laneReturn_same (l : Nat) : ((s.laneReturn l).lane l).resting := by
  unfold State.laneReturn
  split
  · next h =>
    rw [h]
    exact ⟨rfl, rfl, rfl, rfl, rfl⟩
  · dsimp only
    rw [State.blockedCheck_lane, State.setLane_lane_same]
    exact ⟨rfl, rfl, rfl, rfl, rfl⟩

theorem State.laneReturn_other {k l : Nat} (h : k ≠ l) : (s.laneReturn l).lane k = s.lane k := by
  unfold State.laneReturn
  split
  · rfl
  · exact (State.blockedCheck_lane _ _ _).trans ((State.setLane_lane_ne _ _ h).trans (s.laneEdges_other h _ _))

theorem State.idleReturn_eq (t : Nat) : s.idleReturn t = ((List.range 64).foldl (fun s i => s.laneReturn (64 * t + i)) s).capsOut t := rfl

theorem State.idleReturn_rests (t : Nat) {i : Nat} (hi : i < 64) : ((s.idleReturn t).lane (64 * t + i)).resting := by
  rw [State.idleReturn_eq, State.lane_of_lanes _ (State.lanes_of_blur (State.capsOut_blur _ t (Nat.and_self _)) (by decide))]
  refine s.each_gives (List.range 64) (fun s i => s.laneReturn (64 * t + i)) (fun u i => (u.lane (64 * t + i)).resting) (fun u i => u.laneReturn_same _) (fun u j i hu => ?_) i (.inl (List.mem_range.2 hi))
  by_cases e : i = j
  · rw [e]
    exact u.laneReturn_same _
  · rw [u.laneReturn_other (by omega)]
    exact hu

theorem PlaySt.playing_of_core {p p' : PlaySt} (h : p'.core = p.core) : p'.playing = p.playing := by
  have hplaying : p'.core.playing = p.core.playing := congrArg PlaySt.playing h
  exact hplaying

theorem tileIdleReturn_rests {t' : Fin 16} (h : (s.play t'.val).playing = false) :
    ∃ t, exec (.tileIdleReturn t') s = .next t ∧ (∀ i, i < 64 → (t.lane (64 * t'.val + i)).drv = 0 ∧ (t.lane (64 * t'.val + i)).want = 0 ∧ (t.lane (64 * t'.val + i)).window = 0 ∧ (t.lane (64 * t'.val + i)).cmpWindow = 0 ∧ (t.lane (64 * t'.val + i)).trans = none) ∧ (t.play t'.val).playing = false := by
  have hrule : returnRule t'.val (s.withOut []) = (s.withOut []).idleReturn t'.val := if_neg (by rw [show ((s.withOut []).play t'.val).playing = false from h]; decide)
  refine ⟨_, (exec_returnRule t').trans (done_is s hrule), fun i hi => ?_, ?_⟩
  · rw [State.commit_lane]
    exact (s.withOut []).idleReturn_rests t'.val hi
  · rw [State.commit_play]
    exact (PlaySt.playing_of_core ((s.withOut []).idleReturn_core t'.val t'.val)).trans h

end Sys2Proof.Machine
end

section
/-! SUPPORT. The vectors that a segment engine reads (R168, R196, R264, R265, R269, R273), and O50. -/

namespace Sys2Proof.Machine

variable (s : State)

/-- What an engine's core determines agrees where the cores agree. -/
theorem PlaySt.of_core {α : Type} {p p' : PlaySt} (h : p'.core = p.core) (f : PlaySt → α) (hf : ∀ x : PlaySt, f x.core = f x) : f p' = f p := (hf p').symm.trans ((congrArg f h).trans (hf p))

/-! A vector is placed -/

/-- A segment engine that has read a vector, at a cycle and a reference point. -/
def PlaySt.stamped (p : PlaySt) (cycle refPoint period : Nat) : PlaySt := { p with fresh := false, cycle := cycle, refPoint := refPoint, period := period }

/-- A segment engine after a vector of a period. -/
def PlaySt.moved (p : PlaySt) (period : Nat) : PlaySt := p.stamped ((p.cycle + 1) % 2 ^ 48) (p.refPoint + period) period

/-- The lanes of a vector, and which of them capture. -/
def State.lanesPlaced (s : State) (t : Nat) (v : Vec) : State × Nat := (List.range 64).foldl (fun a i => let (s, c) := a.1.laneVector t i v; (s, a.2 + b2n c * 2 ^ i)) (s, 0)

theorem State.lanesPlaced_play (t : Nat) (v : Vec) (q : Nat) : (s.lanesPlaced t v).1.play q = s.play q :=
  foldl_keeps (get := fun a : State × Nat => a.1.play q) (fun a i _ => State.play_of_blur (a.1.laneVector_blur t i v (Nat.and_self _)) q (by decide)) _

theorem State.placeVector_moves (t : Nat) (v : Vec) : ((s.placeVector t v).play t).core = ((s.play t).moved v.period).core ∧ (s.placeVector t v).rd R.CMP_CYCLE_LO.CYCLE_LO t = (s.play t).cycle % 2 ^ 32 := by
  have hplay := s.lanesPlaced_play t v t
  unfold State.placeVector
  rw [← State.lanesPlaced]
  generalize s.lanesPlaced t v = r at hplay ⊢
  obtain ⟨a, caps⟩ := r
  dsimp -zeta only at hplay ⊢
  extract_lets p u w
  have hu : a.sameCore u := State.sameCore_when _ _ (State.sameCore_trans (State.sameCore_each _ _ fun x l => State.sameCore_of_blur (x.setLane_blur l _ (Nat.and_self _)) (by decide)) (State.sameCore_setPlay (by rfl)))
  have hcore : (w.play t).core = (s.play t).core := (congrArg PlaySt.core (show w.play t = u.play t from rfl)).trans ((hu t).trans (congrArg PlaySt.core hplay))
  have hcycle : w.rd R.CMP_CYCLE_LO.CYCLE_LO t = p.cycle % 2 ^ 32 := (State.wr_rd_key _ _ (by decide)).trans (State.wr_rd_same ..)
  clear_value w
  have hp : p = s.play t := hplay
  refine ⟨?_, ?_⟩
  · rw [State.setPlay_play_same, hp]
    exact PlaySt.of_core hcore (fun x => (x.stamped _ _ _).core) fun _ => rfl
  · rw [State.setPlay_rd, hcycle, hp]

/-! A vector of a segment -/

/-- What the record of a vector says of its place. -/
def VecRec.mark (x : VecRec) : Nat × Nat × Nat := (x.va, x.cycle, x.refPoint)

/-- A segment engine with the fields of the vector that it reads. -/
def PlaySt.fielded (p : PlaySt) (lsetNext : Option Nat) (user : Nat) (gapOk : Bool) : PlaySt := { p with lsetNext := lsetNext, user := user, gapOk := gapOk }

/-- A segment engine that has recorded the vector that it reads. -/
def PlaySt.recorded (p : PlaySt) (x : VecRec) (idx : Nat) : PlaySt := { p with vecs := p.vecs ++ [x], idx := idx }

/-- A vector that is not the last of its pass: the engine has read it, recorded it and moved on. -/
theorem State.segPlay_moves {t e idx va row j : Nat} {bad : List Nat} (hidx : idx + 1 < enLength e) :
    ∃ l u g x n, x.mark = (va, (s.play t).cycle, (s.play t).refPoint) ∧ ((s.segPlay t e idx va row j bad).play t).core = ((((s.play t).fielded l u g).recorded x (idx + 1)).moved n).core ∧
      (s.segPlay t e idx va row j bad).rd R.CMP_CYCLE_LO.CYCLE_LO t = (s.play t).cycle % 2 ^ 32 := by
  unfold State.segPlay
  extract_lets enc full ctl c nano due set lset user capEn mark changed b pb r ref fresh a d x rec v vec z
  have hb : s.sameCore b := s.vectorBoundary_core t lset
  clear_value b
  have hr : (r.play t).core = ((s.play t).fielded (if due = true then none else (b.play t).lsetNext) user (enGap e)).core := by
    rw [show r.play t = (b.play t).fielded (if due = true then none else (b.play t).lsetNext) user (enGap e) from State.setPlay_play_same ..]
    exact PlaySt.of_core (hb t) (fun x => (x.fielded _ _ _).core) fun _ => rfl
  clear_value r
  have hd : r.sameCore d := State.sameCore_trans (State.sameCore_each _ _ fun u k => u.ncoOrigin_core t k ref) (State.sameCore_when _ _ (State.sameCore_of_blur (State.acqMarkAt_blur _ _ _ _ (Nat.and_self _)) (by decide)))
  clear_value d
  have hx : x.core = ((s.play t).fielded (if due = true then none else (b.play t).lsetNext) user (enGap e)).core := (hd t).trans hr
  have hmark : rec.mark = (va, (s.play t).cycle, (s.play t).refPoint) := by
    show (va, x.cycle, (r.play t).refPoint) = _
    rw [PlaySt.of_core hx PlaySt.cycle fun _ => rfl, PlaySt.of_core hr PlaySt.refPoint fun _ => rfl]
    rfl
  clear_value rec
  have hv : v.play t = x.recorded rec (idx + 1) := State.setPlay_play_same ..
  clear_value v
  obtain ⟨hcore, hcycle⟩ := v.placeVector_moves t vec
  rw [hv] at hcore hcycle
  refine ⟨if due = true then none else (b.play t).lsetNext, user, enGap e, rec, vec.period, hmark, ?_, ?_⟩
  · rw [if_neg (by omega)]
    exact hcore.trans (PlaySt.of_core hx (fun y => ((y.recorded rec (idx + 1)).moved _).core) fun _ => rfl)
  · rw [if_neg (by omega)]
    exact hcycle.trans (congrArg (· % 2 ^ 32) (PlaySt.of_core hx PlaySt.cycle fun _ => rfl))

/-- The row of a segment's next vector, its errors counted. -/
def State.segRow (s : State) (t e : Nat) : State :=
  let s' := s.when ((s.play t).idx = 0 && enStreamed e) (·.wr R.SEG_SLOT.PLAYING (slotInst' t (s.play t).slot) 1)
  s'.segErrors t (s.segPlace t e (s.play t).idx (s.play t).slot).2.1 ((List.range 5).filter fun k => (s.store t).bad' (s.segPlace t e (s.play t).idx (s.play t).slot).2.1 k = 2)

theorem State.segRow_play (t e q : Nat) : (s.segRow t e).play q = s.play q :=
  (State.play_of_blur (State.segErrors_blur _ _ _ _ (Nat.and_self _)) q (by decide)).trans (s.when_induction (P := fun u => u.play q = s.play q) _ _ rfl rfl)

theorem State.segRow_rd (t e : Nat) {f : Fld} (i : Nat) (h : Nat.testBit 0x38b0000000000000000000000000001200060000000000000004000000003a0 (32 + f.key % 1024) = false) (h' : f.key % 1024 ≠ R.SEG_SLOT.PLAYING.key % 1024) : (s.segRow t e).rd f i = s.rd f i :=
  (State.rd_of_blur (State.segErrors_blur _ _ _ _ (Nat.and_self _)) f i h).trans (s.when_rd_of (State.wr_rd_key _ _ h'))

/-- A vector away from the decision point, of a row without an error that stops the tile, plays. -/
theorem State.segVector_plays {t : Nat} (hidx : (s.play t).idx ≠ enLength (s.curEntry t) - 16)
    (hclean : s.rd R.SEG_STORE_CFG.UE_POLICY t ≠ 0 ∨ ∀ k, k < 5 → (s.store t).bad' (s.segPlace t (s.curEntry t) (s.play t).idx (s.play t).slot).2.1 k ≠ 2) :
    s.segVector t = (s.segRow t (s.curEntry t)).segPlay t (s.curEntry t) (s.play t).idx (enStart (s.curEntry t) + encStep (enEnc (s.curEntry t)) * (s.play t).idx) (s.segPlace t (s.curEntry t) (s.play t).idx (s.play t).slot).2.1
      (s.segPlace t (s.curEntry t) (s.play t).idx (s.play t).slot).2.2 ((List.range 5).filter fun k => (s.store t).bad' (s.segPlace t (s.curEntry t) (s.play t).idx (s.play t).slot).2.1 k = 2) := by
  have hgo : (!((List.range 5).filter fun k => (s.store t).bad' (s.segPlace t (s.curEntry t) (s.play t).idx (s.play t).slot).2.1 k = 2).isEmpty && decide ((s.segRow t (s.curEntry t)).rd R.SEG_STORE_CFG.UE_POLICY t = 0)) = false := by
    rw [s.segRow_rd t _ t (by decide) (by decide)]
    obtain h | h := hclean
    · rw [decide_eq_false h, Bool.and_false]
    · rw [List.filter_eq_nil_iff.2 fun k hk => by simpa using h k (List.mem_range.1 hk)]
      rfl
  have hplace (c : Bool) : (s.when c (·.wr R.SEG_SLOT.PLAYING (slotInst' t (s.play t).slot) 1)).segPlace t (s.curEntry t) (s.play t).idx (s.play t).slot = s.segPlace t (s.curEntry t) (s.play t).idx (s.play t).slot := by
    have hrd {f : Fld} (i : Nat) (h : f.key % 1024 ≠ R.SEG_SLOT.PLAYING.key % 1024) : (s.when c (·.wr R.SEG_SLOT.PLAYING (slotInst' t (s.play t).slot) 1)).rd f i = s.rd f i := s.when_rd_of (State.wr_rd_key _ _ h)
    rw [State.segPlace, State.segPlace, State.slotSize, State.slotSize, hrd _ (by decide), hrd _ (by decide)]
  have hstore (c : Bool) : (s.when c (·.wr R.SEG_SLOT.PLAYING (slotInst' t (s.play t).slot) 1)).store t = s.store t := by
    cases c <;> rfl
  unfold State.segVector
  dsimp only
  rw [decide_eq_false hidx, show ∀ (u : State) (f : State → State), u.when false f = u from fun _ _ => rfl, hplace, hstore, ← State.segRow, hgo]
  exact if_neg (by decide)

/-- What the next vector of a segment leaves: it is the last one recorded, at the engine's cycle and reference point, and the engine has moved on. -/
theorem State.segVector_moves {t e : Nat} (he : s.curEntry t = e) (hidx : (s.play t).idx ≠ enLength e - 16) (hmore : (s.play t).idx + 1 < enLength e)
    (hclean : s.rd R.SEG_STORE_CFG.UE_POLICY t ≠ 0 ∨ ∀ k, k < 5 → (s.store t).bad' (s.segPlace t e (s.play t).idx (s.play t).slot).2.1 k ≠ 2) :
    ∃ l u g x n, x.mark = (enStart e + encStep (enEnc e) * (s.play t).idx, (s.play t).cycle, (s.play t).refPoint) ∧ ((s.segVector t).play t).core = ((((s.play t).fielded l u g).recorded x ((s.play t).idx + 1)).moved n).core ∧
      (s.segVector t).rd R.CMP_CYCLE_LO.CYCLE_LO t = (s.play t).cycle % 2 ^ 32 ∧ (s.segVector t).rd R.SEG_STATUS.CUR_SEG t = s.rd R.SEG_STATUS.CUR_SEG t ∧ (s.segVector t).rd R.SEG_ITER.PASS t = s.rd R.SEG_ITER.PASS t := by
  subst he
  rw [s.segVector_plays hidx hclean]
  generalize (s.segPlace t (s.curEntry t) (s.play t).idx (s.play t).slot).2.1 = row
  have hplay := s.segRow_play t (s.curEntry t) t
  have hseg := s.segRow_rd t (s.curEntry t) (f := R.SEG_STATUS.CUR_SEG) t (by decide) (by decide)
  have hpass := s.segRow_rd t (s.curEntry t) (f := R.SEG_ITER.PASS) t (by decide) (by decide)
  generalize s.segRow t (s.curEntry t) = v at hplay hseg hpass ⊢
  obtain ⟨l, u, g, x, n, hmark, hcore, hcycle⟩ := v.segPlay_moves (t := t) (va := enStart (s.curEntry t) + encStep (enEnc (s.curEntry t)) * (s.play t).idx) (row := row) (j := (s.segPlace t (s.curEntry t) (s.play t).idx (s.play t).slot).2.2)
    (bad := (List.range 5).filter fun k => (s.store t).bad' row k = 2) hmore
  rw [hplay] at hmark hcore hcycle
  exact ⟨l, u, g, x, n, hmark, hcore, hcycle, (State.rd_of_blur (State.segPlay_blur _ _ _ _ _ _ _ _ (Nat.and_self _)) _ _ (by decide)).trans hseg, (State.rd_of_blur (State.segPlay_blur _ _ _ _ _ _ _ _ (Nat.and_self _)) _ _ (by decide)).trans hpass⟩

/-- What a core after a vector of a segment says of the engine. -/
theorem PlaySt.moved_reads {p q : PlaySt} {l : Option Nat} {u : Nat} {g : Bool} {x : VecRec} {i n : Nat} (h : q.core = (((p.fielded l u g).recorded x i).moved n).core) :
    q.idx = i ∧ q.phase = p.phase ∧ q.playing = p.playing ∧ q.cycle = (p.cycle + 1) % 2 ^ 48 ∧ q.refPoint = p.refPoint + q.period ∧ q.vecs.getLast? = some x ∧ q.succ = p.succ ∧ q.fresh = false ∧ q.queue = p.queue := by
  refine ⟨PlaySt.of_core h PlaySt.idx fun _ => rfl, PlaySt.of_core h PlaySt.phase fun _ => rfl, PlaySt.of_core h PlaySt.playing fun _ => rfl, PlaySt.of_core h PlaySt.cycle fun _ => rfl, ?_, ?_,
    PlaySt.of_core h PlaySt.succ fun _ => rfl, PlaySt.of_core h PlaySt.fresh fun _ => rfl, PlaySt.of_core h PlaySt.queue fun _ => rfl⟩
  · rw [PlaySt.of_core h PlaySt.refPoint fun _ => rfl, PlaySt.of_core h PlaySt.period fun _ => rfl]
    rfl
  · rw [PlaySt.of_core h PlaySt.vecs fun _ => rfl]
    exact List.getLast?_concat

/-! What the engine reads next (R264, R269, R273) -/

theorem State.nextRead_seg {t : Nat} (hp : (s.play t).playing = true) (hseg : (s.play t).phase = .seg) (hfresh : (s.play t).fresh = false) (hmore : (s.play t).idx < enLength (s.curEntry t)) : s.nextRead t = (s, .seg) := by
  have hin : s.inSegment t = true := by
    unfold State.inSegment
    simp [hseg, hmore]
  have hstop : s.stopsNext t = false := by
    unfold State.stopsNext
    rw [hin]
    rfl
  unfold State.nextRead
  simp [hp, hstop, hseg, hfresh, hmore]

theorem State.nextRead_succ {t : Nat} {x : Succ} (hp : (s.play t).playing = true) (hidle : (s.play t).phase = .idle) (hm : (s.play t).samePass = false) (hstop : (s.play t).stopAt = 0)
    (hsolo : (s.play t).fresh = true ∨ (s.playMates t).length ≤ 1) (hx : (s.play t).succ = some x) (hgo : (s.play t).go = true) : s.nextRead t = (s.beginSucc t x, .seg) := by
  have hstop : s.stopsNext t = false := by
    unfold State.stopsNext
    simp [hstop]
  unfold State.nextRead
  simp [hp, hstop, hidle, hm, hx, hgo]
  exact fun hf hl => hsolo.elim (fun h => absurd h (by rw [hf]; decide)) fun h => absurd h (by omega)

/-- A member of a lockstep group with its boundary. -/
def PlaySt.atGroup (p : PlaySt) (g : Option Nat) : PlaySt := { p with groupAt := g }

theorem PlaySt.rephased {p : PlaySt} (hs : p.starving = none) (hidle : p.phase = .idle) : ({ p with phase := if p.starving.isSome then .hold else .idle } : PlaySt) = p := by
  cases p
  dsimp only at hs hidle
  subst hs hidle
  rfl

theorem State.groupStep_fill {t : Nat} (hidle : (s.play t).phase = .idle) (hs : (s.play t).starving = none) (hx : (s.play t).succ = none) : ∃ v g, s.groupStep t = (v, .fill) ∧ v.play t = (s.play t).atGroup g := by
  unfold State.groupStep
  extract_lets ms p u p'
  have hu : ∃ g, u.play t = (s.play t).atGroup g := by
    unfold u
    split
    · next g _ _ =>
      refine s.each_induction (P := fun w => ∃ g, w.play t = (s.play t).atGroup g) _ _ ⟨_, rfl⟩ fun w m hw => ?_
      by_cases e : t = m
      · subst e
        obtain ⟨g', hw⟩ := hw
        exact ⟨some g, by rw [State.setPlay_play_same, hw]; rfl⟩
      · rw [State.setPlay_play_ne _ _ e]
        exact hw
    · exact ⟨_, rfl⟩
  clear_value u
  obtain ⟨g, hg⟩ := hu
  have hp : p' = (s.play t).atGroup g := hg
  have hsucc : p'.succ = none := by rw [hp]; exact hx
  have hidle' : p'.phase = .idle := by rw [hp]; exact hidle
  have hs' : p'.starving = none := by rw [hp]; exact hs
  split
  · next h => exact absurd (hsucc.symm.trans h) nofun
  · exact ⟨_, g, rfl, (State.setPlay_play_same ..).trans ((PlaySt.rephased hs' hidle').trans hp)⟩
  · next h => exact absurd (hsucc.symm.trans h) nofun

/-- A tile in an interruption without a successor reads an idle vector, alone or in a group. -/
theorem State.nextRead_fill {t : Nat} (hp : (s.play t).playing = true) (hidle : (s.play t).phase = .idle) (hm : (s.play t).samePass = false) (hs : (s.play t).starving = none) (hstop : (s.play t).stopAt = 0) (hx : (s.play t).succ = none) :
    ∃ v g, s.nextRead t = (v, .fill) ∧ v.play t = (s.play t).atGroup g := by
  have hstop : s.stopsNext t = false := by
    unfold State.stopsNext
    simp [hstop]
  have hread : s.nextRead t = if (s.play t).fresh = true ∨ (s.playMates t).length ≤ 1 then (s, VecKind.fill) else s.groupStep t := by
    unfold State.nextRead
    simp [hp, hstop, hidle, hm, hx]
  rw [hread]
  split
  · exact ⟨s, _, rfl, rfl⟩
  · exact s.groupStep_fill hidle hs hx

/-! An idle vector (R273) -/

/-- A segment engine with one more vector of its interruption. -/
def PlaySt.filled (p : PlaySt) (gapOk : Bool) : PlaySt := { p with intr := p.intr + 1, gapOk := gapOk }

theorem State.fillVector_moves {t : Nat} (hidle : (s.play t).phase = .idle) : ∃ g n, ((s.fillVector t none).play t).core = (((s.play t).filled g).moved n).core := by
  unfold State.fillVector
  extract_lets p first hold a b c hn d pd e set changed f nano v
  have hhold : hold = false := decide_eq_false (by rw [show p.phase = .idle from hidle]; decide)
  have ha : a.play t = s.play t := by
    unfold a
    rw [hhold]
    rfl
  clear_value a
  have hc : c.play t = s.play t := by
    unfold c b
    rw [hhold]
    exact ha
  clear_value c
  have hd : d.play t = s.play t := (State.when_induction _ (P := fun u => u.play t = c.play t) _ _ rfl (State.play_of_blur (State.nanoShots_blur _ _ _ (Nat.and_self _)) t (by decide))).trans hc
  have he : e.play t = (s.play t).filled (p.gapOk || (none : Option Nat).isSome) := by
    have hset : ({ d.play t with intr := p.intr + 1, gapOk := p.gapOk || (none : Option Nat).isSome } : PlaySt) = (s.play t).filled (p.gapOk || (none : Option Nat).isSome) := by
      rw [hd]
      rfl
    exact (State.setPlay_play_same ..).trans hset
  clear_value e
  have hf : e.sameCore f := e.vectorBoundary_core t _
  clear_value f
  obtain ⟨hcore, -⟩ := f.placeVector_moves t v
  exact ⟨_, _, hcore.trans (PlaySt.of_core ((hf t).trans (congrArg PlaySt.core he)) (fun y => (y.moved _).core) fun _ => rfl)⟩

/-! A vector is read (R168) -/

section
variable {t : Nat} (hp : (s.play t).playing = true) (hgo : (s.play t).phase = .seg ∨ (s.play t).stopAt = 0) (hs : (s.play t).starving = none) (hm : (s.play t).samePass = false)
include hp hgo hs hm

/-- An engine that plays on reads what comes next. -/
theorem readRule_reads : readRule t s = (s.nextRead t).1.readAct t (s.nextRead t).2 := by
  have hstop (n : Nat) (h : n ≠ 0) : (decide ((s.play t).stopAt = n) && decide ((s.play t).phase ≠ .seg)) = false := by
    obtain hgo | hgo := hgo
    · rw [decide_eq_false (not_not.2 hgo), Bool.and_false]
    · rw [decide_eq_false (by omega), Bool.false_and]
  unfold readRule
  rw [s.recheck_idle hs hm]
  dsimp only
  rw [hp, hstop 1 (by decide), hstop 3 (by decide)]
  rfl

end

theorem vectorRead_plays {t' : Fin 16} {p : PlaySt} {e : Nat} (hpl : p = s.play t'.val) (he : e = s.curEntry t'.val) (hp : p.playing = true) (hseg : p.phase = .seg) (hs : p.starving = none) (hm : p.samePass = false) (hfresh : p.fresh = false) (hmore : p.idx + 1 < enLength e)
    (hidx : p.idx ≠ enLength e - 16) (hclean : s.rd R.SEG_STORE_CFG.UE_POLICY t'.val ≠ 0 ∨ ∀ k, k < 5 → (s.store t'.val).bad' (s.segPlace t'.val e p.idx p.slot).2.1 k ≠ 2) :
    ∃ t, exec (.vectorRead t') s = .next t ∧ (t.play t'.val).idx = p.idx + 1 ∧ (t.play t'.val).phase = .seg ∧ (t.play t'.val).playing = true ∧ (t.play t'.val).cycle = (p.cycle + 1) % 2 ^ 48 ∧ (t.play t'.val).refPoint = p.refPoint + (t.play t'.val).period ∧
      ((t.play t'.val).vecs.getLast?.map fun x => (x.va, x.cycle, x.refPoint)) = some (enStart e + encStep (enEnc e) * p.idx, p.cycle, p.refPoint) ∧ t.rd R.CMP_CYCLE_LO.CYCLE_LO t'.val = p.cycle % 2 ^ 32 ∧ t.rd R.SEG_STATUS.PHASE t'.val = 1 := by
  subst hpl he
  have hrule : readRule t'.val (s.withOut []) = ((s.withOut []).segVector t'.val).segSync t'.val := by
    rw [readRule_reads (s.withOut []) hp (.inl hseg) hs hm, State.nextRead_seg (s.withOut []) hp hseg hfresh (Nat.lt_of_succ_lt hmore)]
    rfl
  obtain ⟨l, u, g, x, n, hmark, hcore, hcycle, -, -⟩ := (s.withOut []).segVector_moves (t := t'.val) rfl hidx hmore hclean
  generalize (s.withOut []).segVector t'.val = v at hrule hcore hcycle
  obtain ⟨hi, hph, hpl, hcy, href, hlast, -, -, -⟩ := PlaySt.moved_reads hcore
  refine ⟨_, (exec_readRule t').trans (done_is s hrule), ?_⟩
  rw [State.commit_play, State.segSync_play, State.commit_rd, State.commit_rd, State.segSync_phase, State.rd_of_blur (v.segSync_blur _ (Nat.and_self _)) _ _ (by decide), hph, hlast]
  exact ⟨hi, hseg, hpl.trans hp, hcy, href, congrArg some hmark, hcycle, congrArg Phase.code hseg⟩

/-- A segment engine at the start of its successor. -/
def PlaySt.begun (p : PlaySt) (x : Succ) : PlaySt :=
  { p with
    phase := .seg, idx := 0, slot := x.slot.getD 0, passNo := p.passNo + 1, passFail := false, isFinal := false, nextSlot := none, samePass := false, go := false, succ := none,
    groupAt := none, firstPass := true, starved := false, queue := if x.queued then p.queue.drop 1 else p.queue, nano := p.steady.getD p.nano, steady := none }

theorem State.beginSucc_play (t : Nat) (x : Succ) : (s.beginSucc t x).play t = (s.play t).begun x := State.setPlay_play_same ..

theorem State.beginSucc_rd (t : Nat) (x : Succ) {f : Fld} (i : Nat) (h : f.key % 1024 ∉ [R.SEG_STATUS.CUR_SEG.key, R.SEG_ITER.PASS.key]) : (s.beginSucc t x).rd f i = s.rd f i := by
  obtain ⟨hseg, hpass⟩ := not_or.1 fun h' => h (List.mem_cons.2 (h'.imp_right List.mem_singleton.2))
  exact (State.wr_rd_key _ _ hpass).trans ((State.wr_rd_key _ _ hseg).trans rfl)

theorem State.beginSucc_place (t : Nat) (x : Succ) (e idx slot : Nat) : (s.beginSucc t x).segPlace t e idx slot = s.segPlace t e idx slot := by
  rw [State.segPlace, State.segPlace, State.slotSize, State.slotSize, s.beginSucc_rd t x _ (by decide), s.beginSucc_rd t x _ (by decide)]

theorem State.beginSucc_segment {t : Nat} {x : Succ} (h : x.entry < 2048) : (s.beginSucc t x).rd R.SEG_STATUS.CUR_SEG t = x.entry :=
  (State.wr_rd_key _ _ (by decide)).trans (State.wr_rd_fits _ h)

theorem State.beginSucc_pass (t : Nat) (x : Succ) : (s.beginSucc t x).rd R.SEG_ITER.PASS t = 0 := State.wr_rd_fits _ (by decide)

theorem vectorRead_begins {t' : Fin 16} {p : PlaySt} {x : Succ} {e : Nat} (hpl : p = s.play t'.val) (hp : p.playing = true) (hidle : p.phase = .idle) (hs : p.starving = none) (hm : p.samePass = false) (hstop : p.stopAt = 0)
    (hsolo : p.fresh = true ∨ (s.playMates t'.val).length ≤ 1) (hx : p.succ = some x) (hgo : p.go = true) (hentry : x.entry < 2048) (he : e = s.entry t'.val x.entry) (hlen : 16 < enLength e)
    (hclean : s.rd R.SEG_STORE_CFG.UE_POLICY t'.val ≠ 0 ∨ ∀ k, k < 5 → (s.store t'.val).bad' (s.segPlace t'.val e 0 (x.slot.getD 0)).2.1 k ≠ 2) :
    ∃ t, exec (.vectorRead t') s = .next t ∧ t.rd R.SEG_STATUS.CUR_SEG t'.val = x.entry ∧ t.rd R.SEG_ITER.PASS t'.val = 0 ∧ (t.play t'.val).idx = 1 ∧ (t.play t'.val).phase = .seg ∧ (t.play t'.val).succ = none ∧ (t.play t'.val).fresh = false ∧
      (t.play t'.val).queue = (if x.queued then p.queue.drop 1 else p.queue) ∧ (t.play t'.val).refPoint = p.refPoint + (t.play t'.val).period ∧ ((t.play t'.val).vecs.getLast?.map fun v => (v.va, v.cycle, v.refPoint)) = some (enStart e, p.cycle, p.refPoint) := by
  subst hpl he
  have hrule : readRule t'.val (s.withOut []) = (((s.withOut []).beginSucc t'.val x).segVector t'.val).segSync t'.val := by
    rw [readRule_reads (s.withOut []) hp (.inr hstop) hs hm, State.nextRead_succ (s.withOut []) hp hidle hm hstop hsolo hx hgo]
    rfl
  have hplay := (s.withOut []).beginSucc_play t'.val x
  have hseg := (s.withOut []).beginSucc_segment (t := t'.val) hentry
  have hpass := (s.withOut []).beginSucc_pass t'.val x
  have hpolicy := (s.withOut []).beginSucc_rd t'.val x (f := R.SEG_STORE_CFG.UE_POLICY) t'.val (by decide)
  have hplace := (s.withOut []).beginSucc_place t'.val x
  have hstore : ((s.withOut []).beginSucc t'.val x).store t'.val = s.store t'.val := rfl
  generalize (s.withOut []).beginSucc t'.val x = u at hrule hplay hseg hpass hpolicy hplace hstore
  have hcur : u.curEntry t'.val = s.entry t'.val x.entry := by rw [State.curEntry, hseg, State.entry, hstore, State.entry]
  have hidx : (u.play t'.val).idx = 0 := by rw [hplay]; rfl
  have hslot : (u.play t'.val).slot = x.slot.getD 0 := by rw [hplay]; rfl
  obtain ⟨l, w, g, y, n, hmark, hcore, -, hseg', hpass'⟩ := u.segVector_moves (t := t'.val) hcur (by omega) (by omega) (by rw [hpolicy, hstore, hplace, hidx, hslot]; exact hclean)
  generalize u.segVector t'.val = v at hrule hcore hseg' hpass'
  rw [hplay] at hcore hmark
  obtain ⟨hi, hph, -, -, href, hlast, hsucc, hfresh, hqueue⟩ := PlaySt.moved_reads hcore
  refine ⟨_, (exec_readRule t').trans (done_is s hrule), ?_⟩
  rw [State.commit_play, State.segSync_play, State.commit_rd, State.commit_rd, State.rd_of_blur (v.segSync_blur _ (Nat.and_self _)) _ _ (by decide), State.rd_of_blur (v.segSync_blur _ (Nat.and_self _)) _ _ (by decide), hseg', hseg, hpass', hpass, hlast]
  exact ⟨rfl, rfl, hi, hph, hsucc, hfresh, hqueue, href, congrArg some hmark⟩

theorem vectorRead_fills {t' : Fin 16} {p : PlaySt} (hpl : p = s.play t'.val) (hp : p.playing = true) (hidle : p.phase = .idle) (hs : p.starving = none) (hm : p.samePass = false) (hx : p.succ = none) (hstop : p.stopAt = 0) :
    ∃ t, exec (.vectorRead t') s = .next t ∧ (t.play t'.val).phase = .idle ∧ (t.play t'.val).playing = true ∧ (t.play t'.val).cycle = (p.cycle + 1) % 2 ^ 48 ∧ (t.play t'.val).refPoint = p.refPoint + (t.play t'.val).period ∧ (t.play t'.val).intr = p.intr + 1 ∧
      t.rd R.SEG_STATUS.PHASE t'.val = 2 := by
  subst hpl
  obtain ⟨u, g, hread, hplay⟩ := (s.withOut []).nextRead_fill hp hidle hm hs hstop hx
  have hrule : readRule t'.val (s.withOut []) = (u.fillVector t'.val none).segSync t'.val := by
    rw [readRule_reads (s.withOut []) hp (.inr hstop) hs hm, hread]
    rfl
  obtain ⟨b, n, hcore⟩ := u.fillVector_moves (t := t'.val) (by rw [hplay]; exact hidle)
  generalize u.fillVector t'.val none = v at hrule hcore
  rw [hplay] at hcore
  have hphase : (v.play t'.val).phase = .idle := (PlaySt.of_core hcore PlaySt.phase fun _ => rfl).trans hidle
  refine ⟨_, (exec_readRule t').trans (done_is s hrule), ?_⟩
  rw [State.commit_play, State.segSync_play, State.commit_rd, State.segSync_phase, hphase]
  refine ⟨rfl, (PlaySt.of_core hcore PlaySt.playing fun _ => rfl).trans hp, PlaySt.of_core hcore PlaySt.cycle fun _ => rfl, ?_, PlaySt.of_core hcore PlaySt.intr fun _ => rfl, rfl⟩
  rw [PlaySt.of_core hcore PlaySt.refPoint fun _ => rfl, PlaySt.of_core hcore PlaySt.period fun _ => rfl]
  rfl

end Sys2Proof.Machine
open Sys2Proof Sys2Proof.Machine

/-- Settles O50, clause by clause: vectors read, a successor that may start, the return to idle, and jump requests. -/
theorem segmentPlay : Obligations.SegmentPlay := by
  unfold Obligations.SegmentPlay
  exact ⟨fun s t' h => vectorRead_idles s h, fun s t' p e hpl he hp hseg hs hm hf hmore hidx hc => vectorRead_plays s hpl he hp hseg hs hm hf hmore hidx hc,
    fun s t' p x e hpl hp hi hs hm hstop hsolo hx hgo hn he hl hc => vectorRead_begins s hpl hp hi hs hm hstop hsolo hx hgo hn he hl hc, fun s t' p hpl hp hi hs hm hx hstop => vectorRead_fills s hpl hp hi hs hm hx hstop,
    fun s t' x hp hi hs hm hx => successorStart_goes s hp hi hs hm hx, fun s t' hs hm h => successorStart_waits s hs hm h, fun s t' h => tileIdleReturn_rests s h, fun s t' h => tileIdleReturn_idles s h,
    fun s rq t' w n hw hn hv hl hj hseg => jumpRequest_pends s hw hn hv hl hj hseg, fun s rq t' w n hw hn hv hl hj hi hm hx he => jumpRequest_taken s hw hn hv hl hj hi hm hx he, fun s rq t' w hw h => jumpRequest_refused s hw h,
    fun s t' n hon hc hwas hn hv hl hj hseg => jumpSrcEdge_latches s hon hc hwas hn hv hl hj hseg, fun s t' hon h => jumpSrcEdge_samples s hon h, fun s t' h => jumpSrcEdge_off s h⟩
end

section
/-! SUPPORT. A round in which the cross-check begins finds a sensor that two earlier counts speak against (R533, R534): O53 fails. -/

namespace Sys2Proof.Machine

/-- A device after three rounds that holds two disagreements against sensor 0. -/
def thirdRound : State := { State.reset with hk := { State.reset.hk with round := 3, disagree := [(0, 2)] } }

/-- Sensor 0 stands 25 °C above every other. -/
def strayReadings : List Int := 400 :: List.replicate 21 0

/-- The effective temperature of sensor 0 after a step. -/
def effectiveAfter : Out' → Option Nat
  | .next t => some (t.rd R.THS_TEMP.EFFECTIVE 0)
  | _ => none

theorem thirdRound_breaks : effectiveAfter (exec (.hkRound strayReadings [] []) thirdRound) = some 0 := by decide +kernel

end Sys2Proof.Machine
open Sys2Proof Sys2Proof.Machine

/-- Refutes O53: the round that counts itself fourth is already tested (R533), so a third disagreement breaks sensor 0, whose effective temperature is then the median of its neighbours, not its reading. -/
theorem not_housekeeping : ¬ Obligations.Housekeeping := by
  unfold Obligations.Housekeeping
  rintro ⟨h, -⟩
  obtain ⟨t, ht, -, -, htemp, -⟩ := h thirdRound strayReadings [] [] (by decide) (by decide) (by decide) (by decide) (by decide) (by decide) (by decide)
  have hbreak := thirdRound_breaks
  rw [ht] at hbreak
  exact absurd ((Option.some.inj hbreak).symm.trans (htemp 0 (by decide)).2) (by decide)
end

section
/-! SUPPORT. Writes of bytes to the vector store through BAR2 (R40, R209, R460, R467), for O27. -/

namespace Sys2Proof.Machine

variable (s : State)

/-! Words of the vector store -/

/-- Word w of the vector store, at eight times its BAR2 offset. -/
def State.vecWord (s : State) (w : Nat) : Nat := (s.store (w / 1572864)).word (w % 1572864 / 4) (w % 4)

/-- The check bits of word w of the vector store. -/
def State.vecBad (s : State) (w : Nat) : Nat := (s.store (w / 1572864)).bad' (w % 1572864 / 4) (w % 4)

theorem State.vecByte_word (a : Nat) : s.vecByte a = bits (s.vecWord (a / 8)) (8 * (a % 8)) 8 := by
  rw [State.vecByte, State.vecWord, show a / 8 / 1572864 = a / 0xC00000 by omega, show a / 8 % 1572864 / 4 = a % 0xC00000 / 32 by omega, show a / 8 % 4 = a % 32 / 8 by omega]

theorem State.vecEcc_word (a : Nat) : s.vecEcc a = s.vecBad (a / 8) := by
  rw [State.vecEcc, State.vecBad, show a / 8 / 1572864 = a / 0xC00000 by omega, show a / 8 % 1572864 / 4 = a % 0xC00000 / 32 by omega, show a / 8 % 4 = a % 32 / 8 by omega]

/-- A write to bytes of word w of the vector store. -/
def State.vecMerge (s : State) (w : Nat) (bs : List (Option Nat)) : State := s.sliceMerge (w / 1572864) (w % 1572864 / 4) (w % 4) bs

/-- A word of the vector store takes the bytes of a write. -/
def State.vecOpen (s : State) (e : Nat × List (Option Nat)) : Prop := s.vecBad e.1 ≠ 2

theorem State.vecMerge_open {w : Nat} {bs : List (Option Nat)} (h : s.vecOpen (w, bs)) :
    s.vecMerge w bs = (s.portTake (w / 1572864) bs).setStore (w / 1572864) ((s.store (w / 1572864)).putWord (w % 1572864 / 4) (w % 4) (mergeWord (s.vecWord w) bs)) := by
  refine if_neg ?_
  rw [show (decide (((s.portTake (w / 1572864) bs).store (w / 1572864)).bad' (w % 1572864 / 4) (w % 4) = 2)) = false from decide_eq_false h, Bool.false_and]
  decide

theorem State.vecMerge_word {w : Nat} {bs : List (Option Nat)} (h : s.vecOpen (w, bs)) (k : Nat) : (s.vecMerge w bs).vecWord k = if k = w then mergeWord (s.vecWord w) bs else s.vecWord k := by
  rw [s.vecMerge_open h]
  by_cases ht : k / 1572864 = w / 1572864
  · rw [State.vecWord, State.store, State.setStore, ht, smGet_smSet_same, StoreSt.word, StoreSt.putWord]
    split
    · next e =>
      rw [e]
      exact smGet_smSet_same (α := Nat) _ _ _ _
    · next e =>
      rw [smGet_smSet_ne _ _ _ _ (by omega), State.vecWord, ht]
      rfl
  · rw [if_neg (by omega), State.vecWord, State.store, State.setStore, smGet_smSet_ne _ _ _ _ ht]
    rfl

theorem State.vecMerge_bad {w : Nat} {bs : List (Option Nat)} (h : s.vecOpen (w, bs)) (k : Nat) : (s.vecMerge w bs).vecBad k = if k = w then 0 else s.vecBad k := by
  rw [s.vecMerge_open h]
  by_cases ht : k / 1572864 = w / 1572864
  · rw [State.vecBad, State.store, State.setStore, ht, smGet_smSet_same, StoreSt.bad', StoreSt.putWord]
    split
    · next e =>
      rw [e]
      exact smGet_smSet_same (α := Nat) 0 (s.store (w / 1572864)).ecc _ 0
    · next e =>
      rw [smGet_smSet_ne _ _ _ _ (by omega), State.vecBad, ht]
      rfl
  · rw [if_neg (by omega), State.vecBad, State.store, State.setStore, smGet_smSet_ne _ _ _ _ ht]
    rfl

theorem State.vecOpen_vecMerge {e : Nat × List (Option Nat)} {w : Nat} {bs : List (Option Nat)} (h : s.vecOpen e) (hw : s.vecOpen (w, bs)) : (s.vecMerge w bs).vecOpen e := by
  rw [State.vecOpen, s.vecMerge_bad hw]
  split
  · decide
  · exact h

theorem State.vecMerge_byte {a w : Nat} {bs : List (Option Nat)} (hbs : bs.length = 8) (h : s.vecOpen (w, bs)) :
    (s.vecMerge w bs).vecByte a = if a / 8 = w then ((bs.getD (a % 8) none).map (· % 256)).getD (s.vecByte a) else s.vecByte a := by
  rw [State.vecByte_word, s.vecMerge_word h, State.vecByte_word]
  split
  · next e => rw [mergeWord_byte _ hbs (Nat.mod_lt a (by decide)), e]
  · rfl

/-- Merges of a write's words put its bytes and leave every other, where every word takes its bytes. -/
theorem State.vecMerges_byte {off a : Nat} {bytes : List Nat} (ho : ∀ e ∈ byteWords off bytes, s.vecOpen e) :
    ((byteWords off bytes).foldl (fun s e => s.vecMerge e.1 e.2) s).vecByte a = if off ≤ a ∧ a < off + bytes.length then bytes.getD (a - off) 0 % 256 else s.vecByte a := by
  have hlen {e : Nat × List (Option Nat)} (he : e ∈ byteWords off bytes) : e.2.length = 8 := by rw [(mem_byteWords.1 he).2, byteWord_length]
  have hopen (u : State) (e : Nat × List (Option Nat)) (he : e ∈ byteWords off bytes) (hu : ∀ e ∈ byteWords off bytes, u.vecOpen e) : ∀ d ∈ byteWords off bytes, (u.vecMerge e.1 e.2).vecOpen d := fun d hd => u.vecOpen_vecMerge (hu d hd) (hu e he)
  have hword {e : Nat × List (Option Nat)} (he : e ∈ byteWords off bytes) (ha : a / 8 = e.1) : e.2.getD (a % 8) none = if off ≤ a then bytes[a - off]? else none := byteWords_byte he ha.symm
  split
  · next h =>
    have hput (u : State) {e : Nat × List (Option Nat)} (he : e ∈ byteWords off bytes) (hu : u.vecOpen e) (ha : a / 8 = e.1) : (u.vecMerge e.1 e.2).vecByte a = bytes.getD (a - off) 0 % 256 := by
      rw [u.vecMerge_byte (hlen he) hu, if_pos ha, hword he ha, if_pos h.1, List.getElem?_eq_getElem (by omega), List.getD_eq_getElem _ _ (by omega)]
      rfl
    have hmem : (a / 8, byteWord off bytes (a / 8)) ∈ byteWords off bytes := mem_byteWords.2 ⟨⟨by dsimp only; omega, by dsimp only; omega, by rintro rfl; simp at h; omega⟩, rfl⟩
    refine foldl_sets (get := fun u => State.vecByte u a) (P := fun u => ∀ e ∈ byteWords off bytes, u.vecOpen e) (fun u e he hu => hopen u e he hu) (fun u e he hu hv => ?_) ⟨_, hmem, fun u hu => hput u hmem (hu _ hmem) rfl⟩ ho
    by_cases ha : a / 8 = e.1
    · exact hput u he (hu e he) ha
    · rw [u.vecMerge_byte (hlen he) (hu e he), if_neg ha, hv]
  · next h =>
    refine (foldl_invariant (P := fun u : State => (∀ e ∈ byteWords off bytes, u.vecOpen e) ∧ u.vecByte a = s.vecByte a) (fun u e he hu => ⟨hopen u e he hu.1, ?_⟩) ⟨ho, rfl⟩).2
    rw [u.vecMerge_byte (hlen he) (hu.1 e he), hu.2]
    split
    · next ha =>
      rw [hword he ha]
      by_cases hlo : off ≤ a
      · rw [if_pos hlo, List.getElem?_eq_none (by omega)]
        rfl
      · rw [if_neg hlo]
        rfl
    · rfl

theorem State.vecMerges_keeps {l : List (Nat × List (Option Nat))} (ho : ∀ e ∈ l, s.vecOpen e) {v : State} (hv : v.keeps s [.stores, .host]) : v.keeps (l.foldl (fun s e => s.vecMerge e.1 e.2) s) [.stores, .host] := by
  refine (foldl_invariant (P := fun u : State => (∀ e ∈ l, u.vecOpen e) ∧ v.keeps u [.stores, .host]) (fun u e he hu => ⟨fun d hd => u.vecOpen_vecMerge (hu.1 d hd) (hu.1 e he), ?_⟩) ⟨ho, hv⟩).2
  rw [u.vecMerge_open (hu.1 e he)]
  exact (State.keeps_mask (ps := [.stores]) (State.setStore_blur _ _ _ (by decide)) (by decide)).2 ((State.keeps_mask (ps := [.host]) (State.portTake_blur _ _ _ (by decide)) (by decide)).2 hu.2)

end Sys2Proof.Machine
end

section
/-! SUPPORT. Writes and reads of the store die through BAR2 (R40, R209, R215, R460, R467), and O27. -/

namespace Sys2Proof.Machine

variable (s : State)

/-! Writes -/

/-- A requester may write a word of the store die through BAR2. -/
def State.bar2May (s : State) (rq : Req) (w : Nat) : Bool :=
  if 8 * w < capBase then s.sliceMay rq (w / 1572864) true else if 8 * w < 0x0F000000 then s.capMay rq ((8 * w - capBase) / 65536) true else false

/-- A word of the store die takes bytes of a write. -/
def State.bar2Merge (s : State) (e : Nat × List (Option Nat)) : State :=
  if 8 * e.1 < capBase then s.sliceMerge (e.1 / 1572864) (e.1 % 1572864 / 4) (e.1 % 4) e.2 else s.capMerge (e.1 - capBase / 8) e.2

section
variable {rq : Req} {off : Nat} {bytes : List Nat} (hr : s.reachable rq = true) (hm : s.m.mode ≠ .legacy)
include hr hm

theorem State.bar2Write_plain : s.bar2Write rq off bytes =
    (((byteWords off bytes).filter fun e => s.bar2May rq e.1).foldl State.bar2Merge s).when ((byteWords off bytes).any fun e => !s.bar2May rq e.1) (·.bar2Refuse rq off) := by
  refine (if_neg ?_).trans (if_neg hm)
  rw [hr]
  decide

theorem State.bar2Write_taken (h : ∀ e ∈ byteWords off bytes, s.bar2May rq e.1 = true) : s.bar2Write rq off bytes = (byteWords off bytes).foldl State.bar2Merge s := by
  rw [s.bar2Write_plain hr hm, List.filter_eq_self.2 h, show ((byteWords off bytes).any fun e => !s.bar2May rq e.1) = false from List.any_eq_false.2 fun e he => by rw [h e he]; decide]
  rfl

theorem State.bar2Write_refused (hne : bytes ≠ []) (h : ∀ e ∈ byteWords off bytes, s.bar2May rq e.1 = false) : s.bar2Write rq off bytes = s.refuse rq off true := by
  have hmem : (off / 8, byteWord off bytes (off / 8)) ∈ byteWords off bytes := mem_byteWords.2 ⟨⟨le_refl _, by
    have := List.length_pos_iff.2 hne
    dsimp only
    omega, hne⟩, rfl⟩
  rw [s.bar2Write_plain hr hm, List.filter_eq_nil_iff.2 fun e he => by rw [h e he]; decide, show ((byteWords off bytes).any fun e => !s.bar2May rq e.1) = true from List.any_eq_true.2 ⟨_, hmem, by rw [h _ hmem]; rfl⟩]
  rfl

end

/-- A word that a write reaches holds one of its bytes. -/
theorem byteWords_holds {off : Nat} {bytes : List Nat} {e : Nat × List (Option Nat)} (he : e ∈ byteWords off bytes) : ∃ b, off ≤ b ∧ b < off + bytes.length ∧ b / 8 = e.1 := by
  obtain ⟨⟨hlo, hhi, hne⟩, -⟩ := mem_byteWords.1 he
  have := List.length_pos_iff.2 hne
  exact ⟨max off (8 * e.1), by omega, by omega, by omega⟩

theorem exec_vectorWrite {s : State} {rq : Req} {off : Nat} {bytes : List Byte} (h : off + bytes.length ≤ capBase) {u : State} (hu : (s.withOut []).bar2Write rq off (bytes.map (·.toNat)) = u) :
    exec (.bar2VectorWrite rq off bytes) s = .next (s.commit u) := done_is s ((if_pos h).trans hu)

theorem exec_captureWrite {s : State} {rq : Req} {off : Nat} {bytes : List Byte} (hlo : capBase ≤ off) (h : off + bytes.length ≤ 0x10000000) {u : State} (hu : (s.withOut []).bar2Write rq off (bytes.map (·.toNat)) = u) :
    exec (.bar2CaptureWrite rq off bytes) s = .next (s.commit u) := done_is s ((if_pos (by rw [decide_eq_true hlo, decide_eq_true h]; rfl)).trans hu)

theorem getD_toNat (bytes : List Byte) (i : Nat) : (bytes.map (·.toNat)).getD i 0 % 256 = (bytes.getD i 0).toNat := by
  rw [show (0 : Nat) = (0 : Byte).toNat from rfl, List.getD_map]
  exact Nat.mod_eq_of_lt (bytes.getD i 0).isLt

theorem bar2VectorWrite_puts {rq : Req} {off : Nat} {bytes : List Byte} {a : Nat} (hr : s.reachable rq = true) (hm : s.m.mode ≠ .legacy) (hlen : off + bytes.length ≤ 0x0C000000)
    (hmay : ∀ b, off ≤ b → b < off + bytes.length → s.sliceMay rq (b / 0xC00000) true = true ∧ s.vecEcc b ≠ 2) :
    ∃ t, exec (.bar2VectorWrite rq off bytes) s = .next t ∧ (t.vecByte a = if off ≤ a ∧ a < off + bytes.length then (bytes.getD (a - off) 0).toNat else s.vecByte a) ∧ s.keeps t [.stores, .host] := by
  have hl : (bytes.map (·.toNat)).length = bytes.length := List.length_map _
  have hword (e : Nat × List (Option Nat)) (he : e ∈ byteWords off (bytes.map (·.toNat))) : 8 * e.1 < capBase ∧ s.sliceMay rq (e.1 / 1572864) true = true ∧ s.vecBad e.1 ≠ 2 := by
    obtain ⟨b, h1, h2, h3⟩ := byteWords_holds he
    rw [hl] at h2
    obtain ⟨hs, hb⟩ := hmay b h1 h2
    rw [s.vecEcc_word, h3] at hb
    rw [show b / 0xC00000 = e.1 / 1572864 by omega] at hs
    exact ⟨by rw [capBase]; omega, hs, hb⟩
  have htaken : (s.withOut []).bar2Write rq off (bytes.map (·.toNat)) = (byteWords off (bytes.map (·.toNat))).foldl (fun s e => s.vecMerge e.1 e.2) (s.withOut []) := by
    rw [State.bar2Write_taken (s.withOut []) hr hm fun e he => (if_pos (hword e he).1).trans (hword e he).2.1]
    exact List.foldl_ext _ _ _ fun u e he => if_pos (hword e he).1
  have hopen : ∀ e ∈ byteWords off (bytes.map (·.toNat)), (s.withOut []).vecOpen e := fun e he => (hword e he).2.2
  have hbyte := State.vecMerges_byte (s.withOut []) (a := a) hopen
  rw [hl, getD_toNat] at hbyte
  exact ⟨_, exec_vectorWrite hlen htaken, hbyte, State.keeps_commit (State.vecMerges_keeps (s.withOut []) hopen (by simp))⟩

/-- What a refused write leaves. -/
theorem State.bar2Refused {f : Fin 64} (off : Nat) : (s.commit ((s.withOut []).refuse (.fn f) off true)).rd R.HOST_REFUSE.COUNT f.val = min (s.rd R.HOST_REFUSE.COUNT f.val + 1) 65535 ∧
    (s.commit ((s.withOut []).refuse (.fn f) off true)).rd R.HOST_REFUSE_ADDR.BAR2 f.val = 1 ∧ (s.commit ((s.withOut []).refuse (.fn f) off true)).rd R.HOST_REFUSE_ADDR.OFFSET f.val = off % 2 ^ R.HOST_REFUSE_ADDR.OFFSET.width ∧
    s.keeps (s.commit ((s.withOut []).refuse (.fn f) off true)) [.regs] ∧ s.keepsFields (s.commit ((s.withOut []).refuse (.fn f) off true)) refuseFields :=
  ⟨(State.commit_rd ..).trans (State.refuse_count ..), (State.commit_rd ..).trans (State.wr_rd_fits (((s.withOut []).bump R.HOST_REFUSE.COUNT f.val 1).wr R.HOST_REFUSE_ADDR.OFFSET f.val off) (f := R.HOST_REFUSE_ADDR.BAR2) (v := 1) (by decide)),
    (State.commit_rd ..).trans ((s.withOut []).refuse_place f off true).1, State.keeps_commit (by simp), State.refuse_keepsFields _ _ _ _⟩

theorem bar2VectorWrite_refused {f : Fin 64} {off : Nat} {bytes : List Byte} (hr : s.reachable (.fn f) = true) (hm : s.m.mode ≠ .legacy) (hne : bytes ≠ []) (hlen : off + bytes.length ≤ 0x0C000000)
    (hmay : ∀ b, off / 8 * 8 ≤ b → b < off + bytes.length → s.sliceMay (.fn f) (b / 0xC00000) true = false) :
    ∃ t, exec (.bar2VectorWrite (.fn f) off bytes) s = .next t ∧ t.rd R.HOST_REFUSE.COUNT f.val = min (s.rd R.HOST_REFUSE.COUNT f.val + 1) 65535 ∧ t.rd R.HOST_REFUSE_ADDR.BAR2 f.val = 1 ∧
      t.rd R.HOST_REFUSE_ADDR.OFFSET f.val = off % 2 ^ R.HOST_REFUSE_ADDR.OFFSET.width ∧ s.keeps t [.regs] ∧ s.keepsFields t refuseFields := by
  have hl : (bytes.map (·.toNat)).length = bytes.length := List.length_map _
  refine ⟨_, exec_vectorWrite hlen (State.bar2Write_refused (s.withOut []) (rq := .fn f) hr hm (by simpa using hne) fun e he => ?_), s.bar2Refused off⟩
  obtain ⟨b, h1, h2, h3⟩ := byteWords_holds he
  rw [hl] at h2
  refine (if_pos (by rw [capBase]; omega)).trans ?_
  rw [show e.1 / 1572864 = b / 0xC00000 by omega]
  exact hmay b (by omega) h2

theorem bar2CaptureWrite_refused {f : Fin 64} {off : Nat} {bytes : List Byte} (hr : s.reachable (.fn f) = true) (hm : s.m.mode ≠ .legacy) (hne : bytes ≠ []) (hlo : 0x0C000000 ≤ off) (hlen : off + bytes.length ≤ 0x0F000000)
    (hmay : ∀ b, off ≤ b → b < off + bytes.length → s.capMay (.fn f) ((b - 0x0C000000) / 65536) true = false) :
    ∃ t, exec (.bar2CaptureWrite (.fn f) off bytes) s = .next t ∧ t.rd R.HOST_REFUSE.COUNT f.val = min (s.rd R.HOST_REFUSE.COUNT f.val + 1) 65535 ∧ t.rd R.HOST_REFUSE_ADDR.BAR2 f.val = 1 ∧ s.keeps t [.regs] ∧ s.keepsFields t refuseFields := by
  have hl : (bytes.map (·.toNat)).length = bytes.length := List.length_map _
  obtain ⟨hcount, hbar, -, hkeeps, hfields⟩ := s.bar2Refused (f := f) off
  refine ⟨_, exec_captureWrite hlo (by omega) (State.bar2Write_refused (s.withOut []) (rq := .fn f) hr hm (by simpa using hne) fun e he => ?_), hcount, hbar, hkeeps, hfields⟩
  obtain ⟨b, h1, h2, h3⟩ := byteWords_holds he
  rw [hl] at h2
  refine (if_neg (by rw [capBase]; omega)).trans ((if_pos (by omega)).trans ?_)
  rw [show (8 * e.1 - capBase) / 65536 = (b - 0x0C000000) / 65536 by rw [capBase]; omega]
  exact hmay b h1 h2

/-- The bytes of a word of the capture store. -/
theorem byteWord_capture (o : Nat) (bytes : List Nat) {w : Nat} (hw : capBase / 8 ≤ w) : byteWord o bytes (w - capBase / 8) = byteWord (capBase + o) bytes w := by
  refine List.map_congr_left fun b _ => ?_
  rw [capBase] at *
  rw [show 8 * w + b - (0x0C000000 + o) = 8 * (w - 0x0C000000 / 8) + b - o by omega]
  exact if_congr (by omega) rfl rfl

/-- The words of a write to the capture store, as its own words. -/
theorem byteWords_capture {off : Nat} (bytes : List Nat) (h : capBase ≤ off) : byteWords (off - capBase) bytes = (byteWords off bytes).map fun e => (e.1 - capBase / 8, e.2) := by
  obtain ⟨o, rfl⟩ := Nat.exists_eq_add_of_le h
  rw [Nat.add_sub_cancel_left]
  unfold byteWords
  split
  · rfl
  · next hne =>
    have hpos := List.length_pos_iff.2 (by simpa using hne)
    rw [List.map_map, show (capBase + o + bytes.length - 1) / 8 - (capBase + o) / 8 + 1 = (o + bytes.length - 1) / 8 - o / 8 + 1 by rw [capBase]; omega]
    refine List.map_congr_left fun j _ => ?_
    have hword : o / 8 + j = (capBase + o) / 8 + j - capBase / 8 := by rw [capBase]; omega
    refine Prod.ext hword ?_
    exact (congrArg (byteWord o bytes) hword).trans (byteWord_capture o bytes (by rw [capBase]; omega))

/-- Merges of a write's words put its bytes and leave every other, where every word takes its bytes. -/
theorem State.capPut_byte {addr a : Nat} {bytes : List Nat} (ho : ∀ e ∈ byteWords addr bytes, s.capOpen e) :
    (s.capPut addr bytes).capByte a = if addr ≤ a ∧ a < addr + bytes.length then bytes.getD (a - addr) 0 % 256 else s.capByte a := by
  split
  · next h =>
    exact s.capMerges_puts (fun e he => he) ho h.1 h.2 ⟨(a / 8, byteWord addr bytes (a / 8)), mem_byteWords.2 ⟨⟨by dsimp only; omega, by dsimp only; omega, by rintro rfl; simp at h; omega⟩, rfl⟩, rfl⟩
  · exact s.capPut_keeps (by omega)

theorem State.capPut_keepsCap {addr : Nat} {bytes : List Nat} (ho : ∀ e ∈ byteWords addr bytes, s.capOpen e) {v : State} (hv : v.keeps s [.cap, .capEcc]) : v.keeps (s.capPut addr bytes) [.cap, .capEcc] := by
  refine (foldl_invariant (P := fun u : State => (∀ e ∈ byteWords addr bytes, u.capOpen e) ∧ v.keeps u [.cap, .capEcc]) (fun u e he hu => ⟨fun d hd => u.capOpen_capMerge (hu.1 d hd) (hu.1 e he), ?_⟩) ⟨ho, hv⟩).2
  rw [u.capMerge_open (hu.1 e he)]
  have hblur (c c' : SMap Nat) : ({ u with cap := c, capEcc := c' } : State).blur (Part.mask [.cap, .capEcc]) = u.blur (Part.mask [.cap, .capEcc]) :=
    (State.blur_with_cap { u with capEcc := c' } c (by decide)).trans (State.blur_with_capEcc u c' (by decide))
  exact (State.keeps_mask (hblur _ _) (List.Subset.refl _)).2 hu.2

theorem bar2CaptureWrite_puts {rq : Req} {off : Nat} {bytes : List Byte} {a : Nat} (hr : s.reachable rq = true) (hm : s.m.mode ≠ .legacy) (hlo : 0x0C000000 ≤ off) (hlen : off + bytes.length ≤ 0x0F000000)
    (hmay : ∀ b, off ≤ b → b < off + bytes.length → s.capMay rq ((b - 0x0C000000) / 65536) true = true ∧ smGet 0 s.capEcc ((b - 0x0C000000) / 8) ≠ 2) :
    ∃ t, exec (.bar2CaptureWrite rq off bytes) s = .next t ∧ (t.capByte a = if off ≤ a + 0x0C000000 ∧ a + 0x0C000000 < off + bytes.length then (bytes.getD (a + 0x0C000000 - off) 0).toNat else s.capByte a) ∧ s.keeps t [.cap, .capEcc] := by
  have hl : (bytes.map (·.toNat)).length = bytes.length := List.length_map _
  have hword (e : Nat × List (Option Nat)) (he : e ∈ byteWords off (bytes.map (·.toNat))) : ¬8 * e.1 < capBase ∧ s.bar2May rq e.1 = true ∧ smGet 0 s.capEcc (e.1 - capBase / 8) ≠ 2 := by
    obtain ⟨b, h1, h2, h3⟩ := byteWords_holds he
    rw [hl] at h2
    obtain ⟨hs, hb⟩ := hmay b h1 h2
    rw [show (b - 0x0C000000) / 8 = e.1 - capBase / 8 by rw [capBase]; omega] at hb
    rw [show (b - 0x0C000000) / 65536 = (8 * e.1 - capBase) / 65536 by rw [capBase]; omega] at hs
    have hbase : ¬8 * e.1 < capBase := by rw [capBase]; omega
    exact ⟨hbase, (if_neg hbase).trans ((if_pos (by omega)).trans hs), hb⟩
  have htaken : (s.withOut []).bar2Write rq off (bytes.map (·.toNat)) = (s.withOut []).capPut (off - capBase) (bytes.map (·.toNat)) := by
    rw [State.bar2Write_taken (s.withOut []) hr hm fun e he => (hword e he).2.1, State.capPut, byteWords_capture _ hlo, List.foldl_map]
    exact List.foldl_ext _ _ _ fun u e he => if_neg (hword e he).1
  have hopen : ∀ e ∈ byteWords (off - capBase) (bytes.map (·.toNat)), (s.withOut []).capOpen e := by
    rw [byteWords_capture _ hlo]
    intro e he
    obtain ⟨d, hd, rfl⟩ := List.mem_map.1 he
    exact fun h2 => absurd h2 (hword d hd).2.2
  have hbyte := State.capPut_byte (s.withOut []) (a := a) hopen
  rw [hl, getD_toNat] at hbyte
  refine ⟨_, exec_captureWrite hlo (by omega) htaken, hbyte.trans ?_, State.keeps_commit (State.capPut_keepsCap (s.withOut []) hopen (by simp))⟩
  rw [show a - (off - capBase) = a + 0x0C000000 - off by rw [capBase]; omega]
  exact if_congr (by rw [capBase]; omega) rfl rfl

/-! Reads -/

/-- A byte that a requester reads. -/
def State.readByte (s : State) (rq : Req) (a : Nat) : Nat :=
  if a < capBase then (if s.sliceMay rq (a / 0xC00000) false then bits ((s.store (a / 0xC00000)).word (a % 0xC00000 / 32) (a % 32 / 8)) (8 * (a % 8)) 8 else 0)
  else if a < 0x0F000000 then (if s.capMay rq ((a - capBase) / 65536) false then bits (smGet 0 s.cap ((a - capBase) / 8)) (8 * (a % 8)) 8 else 0)
  else 0

/-- The check bits of a word that a requester reads. -/
def State.readBad (s : State) (rq : Req) (w : Nat) : Nat :=
  if 8 * w < capBase then (if s.sliceMay rq (w / 1572864) false then (s.store (w / 1572864)).bad' (w % 1572864 / 4) (w % 4) else 0)
  else if 8 * w < 0x0F000000 then (if s.capMay rq ((8 * w - capBase) / 65536) false then smGet 0 s.capEcc (w - capBase / 8) else 0) else 0

/-- The words that a read reaches. -/
def readWords (off len : Nat) : List Nat := if len = 0 then [] else (List.range ((off + len - 1) / 8 - off / 8 + 1)).map (off / 8 + ·)

/-- The record of an uncorrectable word that is read. -/
def State.readUe (s : State) (w : Nat) : State :=
  if 8 * w < capBase then s.sliceUe (w / 1572864) (w % 1572864 / 4) (w % 4) 2
  else s.storeUe (16 + capRegion (w - capBase / 8)) ((w - capBase / 8) / 4) ((w - capBase / 8) % 4) 2

/-- What a read leaves and returns. -/
def State.readDone (s : State) (rq : Req) (off len : Nat) : State :=
  (s.each (readWords off len) fun u w => u.readEcc rq (s.readBad rq w) fun u => u.readUe w).send
    (if (readWords off len).any fun w => s.readBad rq w = 2 then .poison ((List.range len).map fun j => s.readByte rq (off + j)) else .data ((List.range len).map fun j => s.readByte rq (off + j)))

theorem exec_read {s : State} {rq : Req} {off len : Nat} (hr : s.reachable rq = true) (hm : s.m.mode ≠ .legacy) {u : State} (hu : (s.withOut []).readDone rq off len = u) : exec (.bar2Read rq off len) s = .next (s.commit u) := by
  subst hu
  show execBar2Read rq off len s = _
  unfold execBar2Read
  refine done_is s ?_
  rw [show (s.withOut []).reachable rq = true from hr, if_neg (by decide), if_neg (show ¬(s.withOut []).m.mode = .legacy from hm)]
  rfl

theorem mem_readWords {off len w : Nat} (h : w ∈ readWords off len) : off / 8 ≤ w ∧ 8 * w < off + len ∧ 0 < len := by
  unfold readWords at h
  split at h
  · exact absurd h List.not_mem_nil
  · next hpos =>
    obtain ⟨j, hj, rfl⟩ := List.mem_map.1 h
    have := List.mem_range.1 hj
    exact ⟨Nat.le_add_right _ _, by omega, by omega⟩

theorem State.readEcc_good (rq : Req) (ue : State → State) : s.readEcc rq 0 ue = s := by cases rq <;> rfl

theorem State.readEcc_poison (f : Fin 64) (ue : State → State) : s.readEcc (.fn f) 2 ue = ue ((s.aer f.val 10).wr R.HOST_ERR.POISON_TX f.val 1) := rfl

/-- A read of good words returns its bytes and changes nothing. -/
theorem State.readDone_good {rq : Req} {off len : Nat} (h : ∀ w ∈ readWords off len, s.readBad rq w = 0) : s.readDone rq off len = s.send (.data ((List.range len).map fun j => s.readByte rq (off + j))) := by
  have hsame : (s.each (readWords off len) fun u w => u.readEcc rq (s.readBad rq w) fun u => u.readUe w) = s :=
    foldl_invariant (P := fun u => u = s) (fun u w hw hu => by rw [hu, h w hw, State.readEcc_good]) rfl
  have hany : ((readWords off len).any fun w => s.readBad rq w = 2) = false := List.any_eq_false.2 fun w hw => by rw [h w hw]; decide
  rw [State.readDone, hsame, hany]
  rfl

theorem bar2Read_returns {rq : Req} {off len : Nat} {l : List Nat} (hr : s.reachable rq = true) (hm : s.m.mode ≠ .legacy) (hgood : ∀ w ∈ readWords off len, s.readBad rq w = 0) (hbytes : ∀ j, j < len → s.readByte rq (off + j) = l.getD j 0)
    (hlen : l.length = len) : ∃ t, exec (.bar2Read rq off len) s = .next t ∧ t.out = [.data l] ∧ s.keeps t [] := by
  have hlist : ((List.range len).map fun j => s.readByte rq (off + j)) = l := by
    refine List.ext_getElem (by simp [hlen]) fun j hj hj' => ?_
    rw [List.getElem_map, List.getElem_range, hbytes j (by omega), List.getD_eq_getElem _ _ hj']
  refine ⟨_, exec_read hr hm ((s.withOut []).readDone_good hgood), ?_, State.keeps_commit (by simp)⟩
  exact congrArg (fun x => [Out.data x]) hlist

theorem bar2Read_vector {rq : Req} {off len : Nat} (hr : s.reachable rq = true) (hm : s.m.mode ≠ .legacy) (hlen : off + len ≤ 0x0C000000) (hmay : ∀ b, off / 8 * 8 ≤ b → b < off + len → s.sliceMay rq (b / 0xC00000) false = true ∧ s.vecEcc b = 0) :
    ∃ t, exec (.bar2Read rq off len) s = .next t ∧ t.out = [.data ((List.range len).map fun j => s.vecByte (off + j))] ∧ s.keeps t [] := by
  refine bar2Read_returns s hr hm (fun w hw => ?_) (fun j hj => ?_) (by simp)
  · obtain ⟨hlo, hhi, -⟩ := mem_readWords hw
    obtain ⟨hs, hb⟩ := hmay (8 * w) (by omega) hhi
    rw [State.vecEcc_word, show 8 * w / 8 = w by omega] at hb
    rw [show 8 * w / 0xC00000 = w / 1572864 by omega] at hs
    exact (if_pos (by rw [capBase]; omega)).trans ((if_pos hs).trans hb)
  · rw [List.getD_eq_getElem _ _ (by simpa using hj), List.getElem_map, List.getElem_range]
    exact (if_pos (by rw [capBase]; omega)).trans (if_pos (hmay (off + j) (by omega) (by omega)).1)

theorem bar2Read_capture {rq : Req} {off len : Nat} (hr : s.reachable rq = true) (hm : s.m.mode ≠ .legacy) (hlo : 0x0C000000 ≤ off) (hlen : off + len ≤ 0x0F000000)
    (hmay : ∀ b, off ≤ b → b < off + len → s.capMay rq ((b - 0x0C000000) / 65536) false = true ∧ smGet 0 s.capEcc ((b - 0x0C000000) / 8) = 0) :
    ∃ t, exec (.bar2Read rq off len) s = .next t ∧ t.out = [.data ((List.range len).map fun j => s.capByte (off - 0x0C000000 + j))] ∧ s.keeps t [] := by
  refine bar2Read_returns s hr hm (fun w hw => ?_) (fun j hj => ?_) (by simp)
  · obtain ⟨hlo', hhi, hpos⟩ := mem_readWords hw
    obtain ⟨b, h1, h2, h3⟩ : ∃ b, off ≤ b ∧ b < off + len ∧ b / 8 = w := ⟨max off (8 * w), by omega, by omega, by omega⟩
    obtain ⟨hs, hb⟩ := hmay b h1 h2
    rw [show (b - 0x0C000000) / 8 = w - capBase / 8 by rw [capBase]; omega] at hb
    rw [show (b - 0x0C000000) / 65536 = (8 * w - capBase) / 65536 by rw [capBase]; omega] at hs
    exact (if_neg (by rw [capBase]; omega)).trans ((if_pos (by omega)).trans ((if_pos hs).trans hb))
  · rw [List.getD_eq_getElem _ _ (by simpa using hj), List.getElem_map, List.getElem_range]
    refine (if_neg (by rw [capBase]; omega)).trans ((if_pos (by omega)).trans ((if_pos (hmay (off + j) (by omega) (by omega)).1).trans ?_))
    rw [State.capByte, show off - 0x0C000000 + j = off + j - capBase by rw [capBase]; omega, show (off + j - capBase) % 8 = (off + j) % 8 by rw [capBase]; omega]

theorem readWords_one (off : Nat) : readWords off 1 = [off / 8] := by
  rw [readWords, if_neg (by decide), Nat.add_sub_cancel, Nat.sub_self]
  rfl

theorem bar2Read_denied {rq : Req} {off : Nat} (hr : s.reachable rq = true) (hm : s.m.mode ≠ .legacy)
    (hno : if off < 0x0C000000 then s.sliceMay rq (off / 0xC00000) false = false else 0x0F000000 ≤ off ∨ s.capMay rq ((off - 0x0C000000) / 65536) false = false) :
    ∃ t, exec (.bar2Read rq off 1) s = .next t ∧ t.out = [.data [0]] ∧ s.keeps t [] := by
  refine bar2Read_returns s hr hm (fun w hw => ?_) (fun j hj => ?_) (by rfl)
  · rw [readWords_one, List.mem_singleton] at hw
    subst hw
    split at hno
    · rw [show off / 0xC00000 = off / 8 / 1572864 by omega] at hno
      exact (if_pos (by rw [capBase]; omega)).trans (if_neg (Bool.eq_false_iff.1 hno))
    · refine (if_neg (by rw [capBase]; omega)).trans ?_
      split
      · next h =>
        rw [show (off - 0x0C000000) / 65536 = (8 * (off / 8) - capBase) / 65536 by rw [capBase]; omega] at hno
        exact if_neg (Bool.eq_false_iff.1 (hno.resolve_left (by omega)))
      · rfl
  · obtain rfl : j = 0 := by omega
    rw [Nat.add_zero]
    split at hno
    · next h => exact (if_pos h).trans (if_neg (Bool.eq_false_iff.1 hno))
    · next h =>
      refine (if_neg h).trans ?_
      split
      · exact if_neg (Bool.eq_false_iff.1 (hno.resolve_left (by omega)))
      · rfl

theorem State.shard_out (code pl d0 d1 d2 : Nat) : (s.shard code pl d0 d1 d2).out = s.out := by
  unfold State.shard
  split <;> rfl

/-- The record of an uncorrectable word of a vector row sends nothing. -/
theorem State.sliceUe_out {t : Nat} (ht : t < 82) (row word src : Nat) : (s.sliceUe t row word src).out = s.out := by
  have hmark (u : State) : (u.markRow t row 2).out = u.out := by
    unfold State.markRow
    dsimp only
    split
    · rfl
    · rw [decide_eq_false (show ¬82 ≤ t by omega)]
      exact State.shard_out _ _ _ _ _ _
  exact (hmark _).trans (State.shard_out _ _ _ _ _ _)

theorem bar2Read_poison {f : Fin 64} {off : Nat} (hr : s.reachable (.fn f) = true) (hm : s.m.mode ≠ .legacy) (hlo : off < 0x0C000000) (hmay : s.sliceMay (.fn f) (off / 0xC00000) false = true) (hbad : s.vecEcc off = 2) :
    ∃ t, exec (.bar2Read (.fn f) off 1) s = .next t ∧ t.out = [.poison [s.vecByte off]] ∧ t.rd R.HOST_ERR.POISON_TX f.val = 1 ∧ smGet 0 t.host.aer (16 * f.val + 10) = smGet 0 s.host.aer (16 * f.val + 10) + 1 ∧ t.stores = s.stores := by
  have hbase : 8 * (off / 8) < capBase := by rw [capBase]; omega
  have hword : (s.withOut []).readBad (.fn f) (off / 8) = 2 := by
    rw [State.vecEcc_word] at hbad
    rw [show off / 0xC00000 = off / 8 / 1572864 by omega] at hmay
    exact (if_pos hbase).trans ((if_pos hmay).trans hbad)
  have hbyte : (s.withOut []).readByte (.fn f) off = s.vecByte off := (if_pos hlo).trans (if_pos hmay)
  have hdone : (s.withOut []).readDone (.fn f) off 1 = ((((s.withOut []).aer f.val 10).wr R.HOST_ERR.POISON_TX f.val 1).sliceUe (off / 8 / 1572864) (off / 8 % 1572864 / 4) (off / 8 % 4) 2).send (.poison [s.vecByte off]) := by
    have hreport : ((s.withOut []).each [off / 8] fun u w => u.readEcc (.fn f) ((s.withOut []).readBad (.fn f) w) fun u => u.readUe w) = (((s.withOut []).aer f.val 10).wr R.HOST_ERR.POISON_TX f.val 1).readUe (off / 8) := by
      rw [State.each, List.foldl_cons, List.foldl_nil, hword, State.readEcc_poison]
    have hany : ([off / 8].any fun w => decide ((s.withOut []).readBad (.fn f) w = 2)) = true := by
      rw [List.any_cons, hword]
      rfl
    rw [State.readDone, readWords_one, ← hbyte, hreport, State.readUe, if_pos hbase, hany, if_pos rfl, List.range_one, List.map_singleton, Nat.add_zero]
  have hblur := State.sliceUe_blur (((s.withOut []).aer f.val 10).wr R.HOST_ERR.POISON_TX f.val 1) (off / 8 / 1572864) (off / 8 % 1572864 / 4) (off / 8 % 4) 2 (Nat.and_self _)
  have hout := State.sliceUe_out (((s.withOut []).aer f.val 10).wr R.HOST_ERR.POISON_TX f.val 1) (t := off / 8 / 1572864) (by omega) (off / 8 % 1572864 / 4) (off / 8 % 4) 2
  generalize State.sliceUe (((s.withOut []).aer f.val 10).wr R.HOST_ERR.POISON_TX f.val 1) (off / 8 / 1572864) (off / 8 % 1572864 / 4) (off / 8 % 4) 2 = u at hdone hblur hout
  refine ⟨_, exec_read hr hm hdone, congrArg (· ++ [Out.poison [s.vecByte off]]) hout, ?_, ?_, ?_⟩
  · exact (State.rd_of_blur hblur R.HOST_ERR.POISON_TX f.val (by decide)).trans (State.wr_rd_fits _ (by decide))
  · have hhost := State.host_of_blur hblur (by decide)
    exact (congrArg (fun h : HostSt => smGet 0 h.aer (16 * f.val + 10)) hhost).trans (((s.withOut []).aer_counts f.val 10 (16 * f.val + 10)).trans (by rw [if_pos rfl]; rfl))
  · have hstores := State.stores_of_blur hblur (by decide)
    exact hstores

end Sys2Proof.Machine
open Sys2Proof Sys2Proof.Machine

/-- Settles O27, clause by clause: the writes that are taken and refused, and the reads that return bytes, poison or zeros. -/
theorem storeWritesAndReads : Obligations.StoreWritesAndReads := by
  unfold Obligations.StoreWritesAndReads
  exact ⟨fun s rq off bytes a hr hm hlen hmay _ => bar2VectorWrite_puts s hr hm hlen hmay, fun s f off bytes hr hm hne hlen hmay => bar2VectorWrite_refused s hr hm hne hlen hmay,
    fun s rq off bytes a hr hm hlo hlen hmay => bar2CaptureWrite_puts s hr hm hlo hlen hmay, fun s rq off len hr hm hlen hmay => bar2Read_vector s hr hm hlen hmay,
    fun s rq off len hr hm hlo hlen hmay => bar2Read_capture s hr hm hlo hlen hmay, fun s f off bytes hr hm hne hlo hlen hmay => bar2CaptureWrite_refused s hr hm hne hlo hlen hmay,
    fun s f off hr hm hlo hmay hbad => bar2Read_poison s hr hm hlo hmay hbad, fun s rq off hr hm hno => bar2Read_denied s hr hm hno⟩
end
